-- ==== Sys2Proof/Word.lean ====
section
/-! DEFINITION. The words the model is made of: a register field's place (`Loc`), the access codes of R5, the
principal classes, the sparse store of register values, and a sample of a stream. -/

namespace Sys2Proof

/-- The access codes of R5. `setOnly` is the FIELD_LOCK form of RW (R32: writing 0 has no effect). -/
inductive Acc where
  | ro | rw | w1c | wo | rws | rl | setOnly
  deriving DecidableEq, Repr

/-- The principal classes (R45, ARBITER class codes). Their order is the rank order of R58 below hardware safety. -/
inductive Cls where
  | mgmt | bb | host | dsp | mon | test
  deriving DecidableEq, Repr

/-- The class code in the ARBITER registers. -/
def Cls.code : Cls → Nat
  | .mgmt => 0 | .bb => 1 | .host => 2 | .dsp => 3 | .mon => 4 | .test => 5

/-- One register field: page index, byte offset of its word, lowest bit, width, access code and reset value. -/
structure Loc where
  page : Nat
  off : Nat
  lo : Nat
  wid : Nat
  acc : Acc
  rst : Nat
  deriving DecidableEq, Repr

/-- The number under which a field is stored: its page, its word and its lowest bit. -/
def Loc.key (l : Loc) : Nat := (l.page * 1024 + l.off / 4) * 32 + l.lo

/-- Values by number; a number that is not listed holds 0. -/
abbrev Store := List (Nat × Nat)

/-- One sample of a stream as a detector sees it: its stamp, I and Q as integers (Q1.15), and its flags (R97). -/
structure Sample where
  stamp : Nat
  i : Int
  q : Int
  invalid : Bool
  ovl : Bool
  deriving DecidableEq, Repr

end Sys2Proof
end

