-- ==== Sys2Proof/Syntax.lean ====
section
/-! DEFINITION. The commands of the block, one per row of the opcode table. -/

namespace Sys2Proof

/-- A reception, as Cumin's detector hands it to the decoder (R313, R314): the received value of each of the 160 code bits,
positive where 0 is likelier, SNR, arrival of chip 0 in 1/256 tick, carrier offset; `bad`: a sample of it was INVALID, or the
burst ended after the window. -/
structure Burst where
  llr : List Int
  snr : Int
  arrival : Nat
  offset : Int
  bad : Bool
  deriving DecidableEq, Repr

/-- What Anise's front ends report at a decision point: level in dBm and SNR in 0.25 dB, at BCA and at BCB. -/
structure Quality where
  rssiA : Int
  rssiB : Int
  snrA : Nat
  snrB : Nat
  deriving DecidableEq, Repr

/-- A FIG as the trellis decoder and the parse of EN 300 401 leave it (R328): type, extension, the bytes of its data
field (for 0/19 the entry), and the frequencies in kHz that it names for following. -/
structure Fig where
  type : Nat
  ext : Nat
  data : List Nat
  freqs : List Nat
  deriving DecidableEq, Repr

/-- A DAB frame (R326 to R333): the instant at which its PRS began at the ball, in 1/256 tick, where one was found within 64 T
of the expected instant; FIG 0/0 as EId, CIF count and alarm flag; the other FIGs; alarm switching is active; FIBs whose CRC
failed; the packet-mode sub-channels that FIG 0/1 lists with parameters R329 supports. -/
structure DabFrame where
  prs : Option Nat
  ens : Option (Nat × Nat × Bool)
  figs : List Fig
  alarm : Bool
  fibBad : Nat
  subs : List Nat
  qual : Quality
  deriving DecidableEq, Repr

/-- A multiply operation of a Clove instruction (R377): operation 1 MPY, 2 MAC, 3 MSU, its sources and accumulator. -/
structure MacF where
  op : Nat
  x : Nat
  y : Nat
  a : Nat
  deriving DecidableEq, Repr

/-- A move of a Clove instruction: store or load, register, address register and modify code. -/
structure MoveF where
  store : Bool
  reg : Nat
  ireg : Nat
  mod : Nat
  deriving DecidableEq, Repr

/-- The moves and the address update that classes 0 and 1 share: XM, YM, and register with update code. -/
structure Moves where
  x : Option MoveF
  y : Option MoveF
  au : Option (Nat × Nat)
  deriving DecidableEq, Repr

/-- A Clove instruction, decoded (R377). Fields that the operation does not use are 0. -/
inductive CloveOp where
  | par (m0 m1 : Option MacF) (mv : Moves)
  | alu (op a b r : Nat) (mv : Moves)
  | li (r imm : Nat)
  | mvs (op dst src imm : Nat)
  | ctl (op cond : Nat) (fromReg : Bool) (reg count target : Nat)
  deriving DecidableEq, Repr

/-- A fault that memory BIST finds in a repair macro (R444): a row with its failing bit positions, or, where `col`
holds, one bit position that fails in two or more rows. -/
structure CellFault where
  macro_ : Nat
  row : Nat
  bits : List Nat
  col : Bool
  deriving DecidableEq, Repr

/-- What the self-test of a start finds (R448): failing cells; programming of a field entry reads back wrong; the ROM fails
its signature; the deviation of the reference check in 0.001 %; the paths, transmit, receive and calibration, that fail
the loop-back. -/
structure SelfTest where
  faults : List CellFault := []
  fuseBad : Bool := false
  romBad : Bool := false
  dev : Int := 0
  tx : Nat := 0
  rx : Nat := 0
  cal : Nat := 0
  deriving DecidableEq, Repr

/-- The commands, one per row of spec/opcode_table.json in its order. An operand named `c` or `cls` of type `Cls` is the
class that makes the access, `agent` its number among agents of one class (R58); the meaning of the others stands with
the meaning of the command. -/
inductive Instr where
  /-- VAUX_ENTER_RANGE (R19) -/
  | vauxEnterRange (bootsel mv : Nat)
  /-- VAUX_LEAVE_RANGE (R489) -/
  | vauxLeaveRange
  /-- BIAS_SAFE_READ (R488) -/
  | biasSafeRead
  /-- RADIO_RAIL_GOOD (R486) -/
  | radioRailGood (rail : Nat)
  /-- RADIO_RAIL_NOT_GOOD (R489) -/
  | radioRailNotGood (rail : Nat)
  /-- VCORE_NOT_GOOD (R489) -/
  | vcoreNotGood
  /-- BANK_LOSS (R484) -/
  | bankLoss (b : Nat)
  /-- START_BEGIN (R391) -/
  | startBegin (find : SelfTest) (flashBad : Nat)
  /-- RESET_N_ASSERT (R490) -/
  | resetNAssert
  /-- RESET_N_RELEASE (R19) -/
  | resetNRelease (bootsel : Nat)
  /-- DEVICE_RESET (R42) -/
  | deviceReset (c : Cls)
  /-- MODE_REQ_WRITE (R17) -/
  | modeReqWrite (c : Cls) (agent v : Nat)
  /-- MODE_TRANSITION_DONE (R19) -/
  | modeTransitionDone
  /-- BOOT_OK (R23) -/
  | bootOk (c : Cls)
  /-- BOOT_WATCHDOG_EXPIRY (R23) -/
  | bootWatchdogExpiry
  /-- MGMT_RESTART (R26) -/
  | mgmtRestart (c : Cls) (flashBad : Nat)
  /-- CONT_EXPIRED (R27) -/
  | contExpired
  /-- CONT_HOLD_EXPIRY (R27) -/
  | contHoldExpiry
  /-- STABLE_TIME_EXPIRY (R25) -/
  | stableTimeExpiry
  /-- THERMAL_HALT (R21) -/
  | thermalHalt (k : Nat)
  /-- REG_WRITE (R45), of `size` bytes (R3) -/
  | regWrite (c : Cls) (agent size addr data : Nat)
  /-- PAGE_ENABLE (R34) -/
  | pageEnable (c : Cls) (agent pg v : Nat)
  /-- SEQUENCE_END (R34) -/
  | sequenceEnd (pg : Nat)
  /-- SOFT_RESET (R37) -/
  | softReset (c : Cls) (agent pg en : Nat)
  /-- LEVEL_REQ_WRITE (R33) -/
  | levelReqWrite (c : Cls) (agent pg v : Nat)
  /-- EVT_CLEAR (R39) -/
  | evtClear (c : Cls) (pg mask again : Nat)
  /-- EVT_EN_WRITE (R40) -/
  | evtEnWrite (c : Cls) (agent pg v : Nat)
  /-- ACCESS_WRITE (R41) -/
  | accessWrite (c : Cls) (agent pg data : Nat)
  /-- ACC_LOCK (R42) -/
  | accLock (c : Cls) (agent pg : Nat)
  /-- FIELD_LOCK (R44) -/
  | fieldLock (c : Cls) (agent pg : Nat)
  /-- COMMIT_REQ (R46) -/
  | commitReq (c : Cls) (agent pg immed : Nat)
  /-- COMMIT_CANCEL (R47) -/
  | commitCancel (c : Cls) (pg : Nat)
  /-- COMMIT_SWAP (R46) -/
  | commitSwap (pg : Nat)
  /-- COMMIT_COPY_DONE (R47) -/
  | commitCopyDone (pg : Nat)
  /-- COINCIDENCE_WINDOW_CLOSE (R57) -/
  | coincidenceWindowClose
  /-- SPI_TRANSACTION (R54) -/
  | spiTransaction (rd inc : Bool) (addr n : Nat) (ws : List Nat)
  /-- SPI_ABORT (R55) -/
  | spiAbort (rd inc : Bool) (addr : Nat) (ws : List Nat)
  /-- JTAG_REG_ACCESS (R52) -/
  | jtagRegAccess (write : Bool) (addr data : Nat)
  /-- REF_LOSS (R63) -/
  | refLoss
  /-- REF_BACK (R63) -/
  | refBack (rate : Nat)
  /-- LOCK (R66) -/
  | lock (k : Nat)
  /-- LOOP_READY (R66) -/
  | loopReady (k : Nat)
  /-- LOL (R67) -/
  | lol (k : Nat)
  /-- BAND_FAIL (R71) -/
  | bandFail (k : Nat)
  /-- TSYNC_LOAD (R91) -/
  | tsyncLoad
  /-- TSYNC_CHECK (R91) -/
  | tsyncCheck
  /-- TSYNCO_PULSE (R93) -/
  | tsyncoPulse
  /-- OUT_SENT (R93) -/
  | outSent
  /-- STEP_GO (R88) -/
  | stepGo (c : Cls)
  /-- STEP_DONE (R88) -/
  | stepDone
  /-- VALID_SET (R82) -/
  | validSet (c : Cls)
  /-- NOW_LO_READ (R85) -/
  | nowLoRead (c : Cls)
  /-- OVL_ENGAGE (R111) -/
  | ovlEngage (n : Nat)
  /-- OVL_RELEASE_STEP (R112); `below`: ticks for which the referred signal has stayed below the threshold less 6 dB -/
  | ovlReleaseStep (n below : Nat)
  /-- MOD_RESET (R110) -/
  | modReset (n : Nat)
  /-- COMP_SWAP (R108) -/
  | compSwap (n : Nat)
  /-- RXQ_OVERFLOW (R13) -/
  | rxqOverflow (n : Nat)
  /-- TXQ_UNDERFLOW (R13) -/
  | txqUnderflow (n : Nat)
  /-- US_UNDERFLOW (R13) -/
  | usUnderflow
  /-- DEC_ALIGN (R129) -/
  | decAlign (c : Cls) (n : Nat)
  /-- ALIGN_DONE (R129) -/
  | alignDone (n : Nat)
  /-- THRESHOLD_CROSSING (R130) -/
  | thresholdCrossing (tx : Bool) (n : Nat)
  /-- THR_CFG_WRITE (R131) -/
  | thrCfgWrite (c : Cls) (agent : Nat) (tx : Bool) (n which data : Nat)
  /-- PEAK_NEW (R133) -/
  | peakNew (t : Nat)
  /-- MS_NEW (R133) -/
  | msNew (t : Nat)
  /-- ENVELOPE_WORD (R134) -/
  | envelopeWord (t : Nat)
  /-- CELL_SWAP (R148) -/
  | cellSwap (n : Nat)
  /-- RANGE_SWITCH (R157) -/
  | rangeSwitch (n : Nat)
  /-- RANGE_DONE (R157) -/
  | rangeDone (n : Nat)
  /-- TX_MUTE_WRITE (R160) -/
  | txMuteWrite (c : Cls) (agent n v : Nat)
  /-- TXKILL_ASSERT (R161) -/
  | txkillAssert
  /-- TXKILL_DEASSERT (R161) -/
  | txkillDeassert
  /-- COMPLIANCE_FAULT (R162) -/
  | complianceFault (n : Nat) (short : Bool)
  /-- RETIRE_WRITE (R163) -/
  | retireWrite (c : Cls) (agent n v : Nat)
  /-- VBIAS_CFG_WRITE (R168) -/
  | vbiasCfgWrite (c : Cls) (agent k data : Nat)
  /-- VBIAS_SLEW_STEP (R168) -/
  | vbiasSlewStep (k : Nat)
  /-- VBIAS_RANGE_SWITCH (R169) -/
  | vbiasRangeSwitch (k : Nat)
  /-- SET_TABLE_WRITE (R176) -/
  | setTableWrite (c : Cls) (agent d set data : Nat)
  /-- WEIGHT_WRITE (R180) -/
  | weightWrite (c : Cls) (addr v : Nat)
  /-- FILL_GO (R181) -/
  | fillGo (c : Cls)
  /-- FILL_DONE (R181) -/
  | fillDone
  /-- RENORM_DONE (R186) -/
  | renormDone (d : Nat)
  /-- WEIGHT_DAMAGED (R187) -/
  | weightDamaged (d l k : Nat)
  /-- LIMITER_WINDOW_END (R189) -/
  | limiterWindowEnd
  /-- DPD_EN_APPLY (R195) -/
  | dpdEnApply (p : Nat)
  /-- DPD_ASSIGN (R200) -/
  | dpdAssign (c : Nat)
  /-- DPD_CAPTURE_START (R200) -/
  | dpdCaptureStart (c : Nat)
  /-- DPD_CAPTURE_DONE (R201) -/
  | dpdCaptureDone (c : Nat)
  /-- JOB_RELEASE (R201) -/
  | jobRelease (c : Cls) (core : Nat)
  /-- UPD_REQ (R203) -/
  | updReq (c : Cls) (p : Nat)
  /-- GUARD_BASELINE_DONE (R204) -/
  | guardBaselineDone (p : Nat)
  /-- GUARD_VERDICT (R204) -/
  | guardVerdict (p : Nat)
  /-- GUARD_TIMEOUT (R205) -/
  | guardTimeout (p : Nat)
  /-- MODEL_WRITE (R194) -/
  | modelWrite (c : Cls) (addr v : Nat)
  /-- MODEL_DAMAGED (R207) -/
  | modelDamaged (p w : Nat)
  /-- SLOT_BOUNDARY (R226) -/
  | slotBoundary (g : Nat)
  /-- TURN_DRIVER_SWITCH (R214) -/
  | turnDriverSwitch (n : Nat)
  /-- TURN_ROUND_SETTLED (R214) -/
  | turnRoundSettled (n : Nat)
  /-- TRSW_CHANGE (R216) -/
  | trswChange (g : Nat)
  /-- ENQ_ACT (R217) -/
  | enqAct (c : Cls) (act : Nat)
  /-- QUEUE_FLUSH (R219) -/
  | queueFlush (c : Cls) (g : Nat)
  /-- TL_WINDOW (R220) -/
  | tlWindow (g : Nat)
  /-- TL_SET (R220) -/
  | tlSet (g : Nat)
  /-- TL_ONESHOT (R220) -/
  | tlOneshot (g : Nat)
  /-- TL_COMMIT (R220) -/
  | tlCommit (g : Nat)
  /-- TL_RANGE (R220) -/
  | tlRange (g : Nat)
  /-- TL_RFFE (R220) -/
  | tlRffe (g : Nat)
  /-- TL_TRIG (R220) -/
  | tlTrig (g : Nat)
  /-- WINDOW_END (R222) -/
  | windowEnd (n : Nat)
  /-- ONESHOT_END (R220) -/
  | oneshotEnd (n : Nat)
  /-- TRIGOUT_END (R220) -/
  | trigoutEnd
  /-- RFFE_SEQUENCE_START (R230) -/
  | rffeSequenceStart (g t : Nat) (tx : Bool)
  /-- RFFE_COMMAND_DONE (R230) -/
  | rffeCommandDone (b data : Nat) (perr : Bool)
  /-- LANE_SLEEP_ENTER (R231) -/
  | laneSleepEnter (ds : Bool)
  /-- LANE_WAKE_START (R231) -/
  | laneWakeStart (ds : Bool)
  /-- LANE_AWAKE (R261) -/
  | laneAwake (ds : Bool)
  /-- LANE_WAKE_REQUEST (R232) -/
  | laneWakeRequest (ds evt : Bool)
  /-- WAKE_FAIL (R264) -/
  | wakeFail
  /-- REF_CHECK (R233) -/
  | refCheck (dev : Int)
  /-- CAL_RESULT (R235) -/
  | calResult (k p : Nat) (vals : List Nat) (reason out : Nat)
  /-- TRIM_APPLY (R236) -/
  | trimApply (p : Nat)
  /-- LO_PHASE_DONE (R237) -/
  | loPhaseDone (x : Nat) (phases : List Nat)
  /-- CORR_SLEW_UPDATE (R239) -/
  | corrSlewUpdate
  /-- ARRAY_RESULT (R243) -/
  | arrayResult (other : Bool) (d p g dly : Nat)
  /-- FG_GO (R244) -/
  | fgGo (c : Cls)
  /-- FG_ABORT (R244) -/
  | fgAbort (c : Cls)
  /-- FG_DONE (R244) -/
  | fgDone
  /-- CAL_DUE (R246) -/
  | calDue (k p : Nat)
  /-- CROSS_SLIP (R250) -/
  | crossSlip (g : Nat)
  /-- CLK_LOSS (R250) -/
  | clkLoss (k : Nat)
  /-- BLOCK_LOCK (R251) -/
  | blockLock (n : Nat)
  /-- BLOCK_LOSS (R251) -/
  | blockLoss (n : Nat)
  /-- BITSLIP (R253) -/
  | bitslip (c : Cls) (n : Nat)
  /-- EYE_PUBLISH (R254) -/
  | eyePublish (n left right : Nat)
  /-- PRBS_SYNC (R266) -/
  | prbsSync (n : Nat)
  /-- PRBS_LOSS (R266) -/
  | prbsLoss (n errs : Nat)
  /-- CNT_CLR (R266) -/
  | cntClr (c : Cls) (n : Nat)
  /-- INJ_SINGLE (R267) -/
  | injSingle (c : Cls) (n : Nat)
  /-- INJ_BURST (R267) -/
  | injBurst (c : Cls) (n : Nat)
  /-- INJ_DONE (R267) -/
  | injDone (n : Nat)
  /-- MARKER_SEND (R269) -/
  | markerSend (ofs : Nat) (resume : Bool)
  /-- MARKER_RECEIVE (R272) -/
  | markerReceive (lane block frac skew : Nat)
  /-- IQD_PACKET (R284) -/
  | iqdPacket (ws : List Nat) (broken : Bool)
  /-- PLAYOUT_MISS (R284) -/
  | playoutMiss (k : Nat)
  /-- IQU_WINDOW_SEND (R285) -/
  | iquWindowSend
  /-- CTL_WEIGHTS (R288) -/
  | ctlWeights (waiting : Nat) (ws : List Nat) (broken : Bool)
  /-- CTL_TIMELINE (R288) -/
  | ctlTimeline (waiting : Nat) (ws : List Nat) (broken : Bool)
  /-- CTL_COMMIT (R288) -/
  | ctlCommit (waiting : Nat) (ws : List Nat) (broken : Bool)
  /-- CTL_SLEEP (R288) -/
  | ctlSleep (waiting : Nat) (ws : List Nat) (broken : Bool)
  /-- MGT_REG (R289) -/
  | mgtReg (waiting : Nat) (ws : List Nat) (broken : Bool)
  /-- MGT_UPDATE (R401) -/
  | mgtUpdate (ws : List Nat) (broken : Bool)
  /-- MGT_LOG_READ (R406) -/
  | mgtLogRead (ws : List Nat) (broken : Bool)
  /-- EVT_PACKET_SEND (R290) -/
  | evtPacketSend
  /-- CAPTURE_EXPORT (R352) -/
  | captureExport (k : Nat)
  /-- TIM_REQ (R296) -/
  | timReq (ws : List Nat) (broken : Bool) (t2 : Nat)
  /-- TIM_FIN (R297) -/
  | timFin (ws : List Nat) (broken : Bool)
  /-- LINK_DOWN (R298) -/
  | linkDown (c : Nat)
  /-- LINK_DOWN_TIMEOUT (R298) -/
  | linkDownTimeout
  /-- LINK_UP (R299) -/
  | linkUp
  /-- BURST_START (R308) -/
  | burstStart
  /-- BURST_SENT (R310) -/
  | burstSent
  /-- AGC_STEP (R312) -/
  | agcStep (lvl : Int)
  /-- BURST_DETECT (R313) -/
  | burstDetect (beamB : Bool)
  /-- FALSE_DETECT (R313) -/
  | falseDetect
  /-- RX_RECORD (R314) -/
  | rxRecord (b : Burst)
  /-- SOUND_RXQ_POP (R314) -/
  | soundRxqPop (c : Cls)
  /-- REM_GO (R315) -/
  | remGo (c : Cls)
  /-- XFER_DONE (R316) -/
  | xferDone
  /-- ANISE_PERMIT (R318) -/
  | anisePermit
  /-- BCAST_RETUNE (R319) -/
  | bcastRetune (c : Cls) (agent std khz : Nat)
  /-- SYNTH_LOCK (R320) -/
  | synthLock
  /-- BCAST_FE_CAL_DONE (R321) -/
  | bcastFeCalDone
  /-- RDS_BLOCK (R322) -/
  | rdsBlock (ofs : Nat) (ok : Bool) (q : Quality)
  /-- RDS_GROUP (R323) -/
  | rdsGroup (a b c d stamp : Nat)
  /-- AF_CHECK (R324) -/
  | afCheck (level : Int)
  /-- AF_PI_CHECK (R324) -/
  | afPiCheck (pi : Nat)
  /-- DAB_FRAME (R333) -/
  | dabFrame (x : DabFrame)
  /-- DAB_PACKET (R329) -/
  | dabPacket (addr : Nat) (data : List Nat) (ok : Bool) (f : Nat)
  /-- DAB_FOLLOW (R330) -/
  | dabFollow
  /-- DAB_CANDIDATE_TIMEOUT (R330) -/
  | dabCandidateTimeout
  /-- TIMING_CAL_GO (R334) -/
  | timingCalGo (c : Cls)
  /-- TIMING_CAL_CLR (R334) -/
  | timingCalClr (c : Cls)
  /-- MEAS_TIMEOUT (R335) -/
  | measTimeout
  /-- SDQ_POP (R338) -/
  | sdqPop (c : Cls)
  /-- SDQ_FLUSH (R339) -/
  | sdqFlush (c : Cls)
  /-- ARM (R344) -/
  | arm (c : Cls) (k : Nat)
  /-- DISARM (R348) -/
  | disarm (c : Cls) (k : Nat)
  /-- CAPTURE_SOFT_TRIG (R346) -/
  | captureSoftTrig (c : Cls) (k : Nat)
  /-- CAPTURE_TRIGGER (R346) -/
  | captureTrigger (k cause frac : Nat)
  /-- AUTO_TIMEOUT (R347) -/
  | autoTimeout (k : Nat)
  /-- SEG_DONE (R344) -/
  | segDone (k : Nat)
  /-- GAP (R350) -/
  | gap (k first resume : Nat)
  /-- RD_PTR_WRITE (R349) -/
  | rdPtrWrite (c : Cls) (agent k v : Nat)
  /-- DMA_DOORBELL (R354) -/
  | dmaDoorbell (cls : Cls) (c desc : Nat)
  /-- DMA_ABORT (R357) -/
  | dmaAbort (cls : Cls) (c : Nat)
  /-- DMA_DESC_DONE (R355) -/
  | dmaDescDone (c : Nat)
  /-- DMA_PACE_RESUME (R356) -/
  | dmaPaceResume (c : Nat)
  /-- TARGET_TIMEOUT (R357) -/
  | targetTimeout (c ofs : Nat) (wr : Bool)
  /-- PARALLEL_DSP (R361) -/
  | parallelDsp (c : Nat) (m0 m1 : Option MacF) (mv : Moves)
  /-- TFR (R377) -/
  | tfr (c a b : Nat) (mv : Moves)
  /-- ADD (R377) -/
  | add (c a b : Nat) (mv : Moves)
  /-- SUB (R377) -/
  | sub (c a b : Nat) (mv : Moves)
  /-- NEG (R377) -/
  | neg (c a b : Nat) (mv : Moves)
  /-- ABS (R377) -/
  | abs (c a b : Nat) (mv : Moves)
  /-- CLR (R377) -/
  | clr (c a : Nat) (mv : Moves)
  /-- RND (R377) -/
  | rnd (c a : Nat) (mv : Moves)
  /-- SAT (R377) -/
  | sat (c a : Nat) (mv : Moves)
  /-- ASL (R377) -/
  | asl (c a n : Nat) (mv : Moves)
  /-- ASR (R377) -/
  | asr (c a n : Nat) (mv : Moves)
  /-- ADDR (R377) -/
  | addr (c a r : Nat) (mv : Moves)
  /-- SUBR (R377) -/
  | subr (c a r : Nat) (mv : Moves)
  /-- CMP (R377) -/
  | cmp (c a b : Nat) (mv : Moves)
  /-- CMPR (R377) -/
  | cmpr (c a r : Nat) (mv : Moves)
  /-- AND (R377) -/
  | and (c a r : Nat) (mv : Moves)
  /-- OR (R377) -/
  | or (c a r : Nat) (mv : Moves)
  /-- XOR (R377) -/
  | xor (c a r : Nat) (mv : Moves)
  /-- MAX (R377) -/
  | max (c a b : Nat) (mv : Moves)
  /-- MIN (R377) -/
  | min (c a b : Nat) (mv : Moves)
  /-- NORM (R377) -/
  | norm (c a r : Nat) (mv : Moves)
  /-- LI (R377) -/
  | li (c r imm : Nat)
  /-- MOVE (R377) -/
  | move (c dst src : Nat)
  /-- ADDI (R377) -/
  | addi (c dst imm : Nat)
  /-- ASAVE (R377) -/
  | asave (c dst src : Nat)
  /-- ALOAD (R377) -/
  | aload (c dst src : Nat)
  /-- NOP (R377) -/
  | nop (c : Nat)
  /-- JMP (R377) -/
  | jmp (c cond target : Nat)
  /-- JSR (R377) -/
  | jsr (c cond target : Nat)
  /-- RTS (R377) -/
  | rts (c cond : Nat)
  /-- RETI (R370) -/
  | reti (c : Nat)
  /-- DO (R367) -/
  | doLoop (c : Nat) (fromReg : Bool) (reg count target : Nat)
  /-- YIELD (R381) -/
  | yield (c : Nat)
  /-- WAIT (R377) -/
  | wait (c : Nat)
  /-- HALT (R377) -/
  | halt (c : Nat)
  /-- EI (R377) -/
  | ei (c : Nat)
  /-- DI (R377) -/
  | di (c : Nat)
  /-- INTERRUPT_ENTRY (R370) -/
  | interruptEntry (c : Nat)
  /-- CORE_FAULT (R371) -/
  | coreFault (c : Nat)
  /-- IPEND_CLEAR (R375) -/
  | ipendClear (c v : Nat)
  /-- MBOX_OUT (R375) -/
  | mboxOut (c v : Nat)
  /-- TB0_READ (R375) -/
  | tb0Read (c : Nat)
  /-- TCMP_ARM (R375) -/
  | tcmpArm (c v : Nat)
  /-- CORE_TIMER (R370) -/
  | coreTimer (c : Nat)
  /-- STR_DATA_READ (R374) -/
  | strDataRead (c : Nat)
  /-- BR_READ (R373) -/
  | brRead (c : Nat)
  /-- BR_WRITE (R373) -/
  | brWrite (c : Nat)
  /-- BRIDGE_DONE (R373) -/
  | bridgeDone (c : Nat)
  /-- SEM_ACQUIRE (R375) -/
  | semAcquire (c n : Nat)
  /-- SEM_RELEASE (R375) -/
  | semRelease (c n : Nat)
  /-- KERNEL_LOAD (R380) -/
  | kernelLoad (cls : Cls) (agent c : Nat)
  /-- HITLESS_LOAD (R380) -/
  | hitlessLoad (cls : Cls) (agent c : Nat)
  /-- LOAD_DONE (R379) -/
  | loadDone (c : Nat)
  /-- RUN_WRITE (R380) -/
  | runWrite (cls : Cls) (agent c v : Nat)
  /-- MBOX_IRQ (R370) -/
  | mboxIrq (cls : Cls) (c : Nat)
  /-- SWAP_GO (R381) -/
  | swapGo (cls : Cls) (c : Nat)
  /-- SWAP_BOUNDARY (R381) -/
  | swapBoundary (c : Nat)
  /-- SWAP_TIMEOUT (R381) -/
  | swapTimeout (c : Nat)
  /-- CACHE_CLEAN (R385) -/
  | cacheClean (a word upset : Nat)
  /-- CACHE_INVALIDATE (R385) -/
  | cacheInvalidate (a : Nat)
  /-- CACHE_CLEAN_INVALIDATE (R385) -/
  | cacheCleanInvalidate (a word upset : Nat)
  /-- ICACHE_INVALIDATE (R385) -/
  | icacheInvalidate
  /-- MTIME_COMPARE (R386) -/
  | mtimeCompare
  /-- WD_ENABLE (R396) -/
  | wdEnable (c : Cls) (agent : Nat)
  /-- WD_KICK (R396) -/
  | wdKick (c : Cls) (v : Nat)
  /-- RUNTIME_WATCHDOG_EXPIRY (R396) -/
  | runtimeWatchdogExpiry (flashBad : Nat)
  /-- UPD_OPEN (R399) -/
  | updOpen (c : Cls) (arg : Nat)
  /-- UPD_CHUNK (R399) -/
  | updChunk (c : Cls) (arg : Nat)
  /-- UPD_VERIFY (R399) -/
  | updVerify (c : Cls) (arg : Nat)
  /-- UPD_ACTIVATE (R399) -/
  | updActivate (c : Cls) (arg : Nat)
  /-- UPD_CONFIRM (R399) -/
  | updConfirm (c : Cls) (arg : Nat)
  /-- UPD_ABORT (R399) -/
  | updAbort (c : Cls) (arg : Nat)
  /-- RB_ADVANCE (R394) -/
  | rbAdvance (c : Cls) (arg : Nat)
  /-- UPD_DONE (R399) -/
  | updDone (bad : Bool) (flashBad : Nat)
  /-- FW_LOG_RECORD (R404) -/
  | fwLogRecord (c : Cls) (type sev : Nat)
  /-- LOG_FLUSH (R405) -/
  | logFlush
  /-- LOG_FLUSH_CMD (R405) -/
  | logFlushCmd (c : Cls)
  /-- LOG_RD_SEQ (R406) -/
  | logRdSeq (c : Cls) (agent q : Nat)
  /-- LOG_FLASH_READ_DONE (R406) -/
  | logFlashReadDone
  /-- SUMAC_INFO (R409) -/
  | sumacInfo
  /-- SUMAC_RD (R409) -/
  | sumacRd (a n : Nat)
  /-- SUMAC_LOG (R409) -/
  | sumacLog (q n : Nat)
  /-- SUMAC_CHAL (R408) -/
  | sumacChal
  /-- SUMAC_ELEV (R408) -/
  | sumacElev (w : List Nat)
  /-- SUMAC_DROP (R409) -/
  | sumacDrop
  /-- SUMAC_START (R409) -/
  | sumacStart
  /-- SUMAC_WR (R409) -/
  | sumacWr (a v : Nat)
  /-- SUMAC_MODE (R409) -/
  | sumacMode (m : Nat)
  /-- SUMAC_BAUD (R407) -/
  | sumacBaud (r : Nat)
  /-- SUMAC_RECOVER (R409) -/
  | sumacRecover
  /-- SUMAC_UPD (R409) -/
  | sumacUpd (op arg ofs : Nat) (data : List Nat)
  /-- MONRX_BREAK (R407) -/
  | monrxBreak
  /-- ELEVATION_EXPIRY (R408) -/
  | elevationExpiry
  /-- ELEV_LOCK_EXPIRY (R408) -/
  | elevLockExpiry
  /-- MONITOR_DROP (R408) -/
  | monitorDrop (c : Cls)
  /-- PROG_HASH (R413) -/
  | progHash (c : Cls) (arg : Nat)
  /-- REVOKE (R413) -/
  | revoke (c : Cls) (arg : Nat)
  /-- SCAN_PERMIT (R413) -/
  | scanPermit (c : Cls) (arg : Nat)
  /-- GEN_ID (R415) -/
  | genId (c : Cls) (arg : Nat)
  /-- LR_ADVANCE (R413) -/
  | lrAdvance (c : Cls) (arg : Nat)
  /-- OTP_DONE (R413) -/
  | otpDone (bad : Bool)
  /-- LR_LOAD (R420) -/
  | lrLoad (c : Cls)
  /-- LR_LOAD_DONE (R420) -/
  | lrLoadDone
  /-- GEN_EPH (R423) -/
  | genEph (c : Cls)
  /-- DERIVE (R423) -/
  | derive (c : Cls)
  /-- ATTEST (R418) -/
  | attest (c : Cls)
  /-- KE_DONE (R423) -/
  | keDone
  /-- SESSION_KEY_SWITCH (R424) -/
  | sessionKeySwitch
  /-- RNG_DATA_READ (R416) -/
  | rngDataRead (c : Cls)
  /-- RNG_FAIL (R416) -/
  | rngFail
  /-- DBG_CHAL (R426) -/
  | dbgChal (c : Cls)
  /-- DBG_UNLOCK (R427) -/
  | dbgUnlock (c : Cls)
  /-- CLEAR_DONE (R428) -/
  | clearDone
  /-- SCRUB_VISIT (R443) -/
  | scrubVisit (m upset : Nat)
  /-- FUSE_PROGRAM (R447) -/
  | fuseProgram (c : Cls)
  /-- FUSE_CANCEL (R447) -/
  | fuseCancel (c : Cls) (arg : Nat)
  /-- FUSE_DONE (R447) -/
  | fuseDone (bad : Bool)
  /-- BIST_GO (R449) -/
  | bistGo (c : Cls) (t : Nat)
  /-- BIST_ABORT (R449) -/
  | bistAbort (c : Cls)
  /-- BIST_DONE (R450) -/
  | bistDone (fails : List (Nat × Nat)) (tx rx cal : Nat) (dev : Int)
  /-- BIST_RES_POP (R450) -/
  | bistResPop (c : Cls)
  /-- HKADC_GO (R456) -/
  | hkadcGo (c : Cls) (ch : Nat)
  /-- HKADC_SCHEDULE (R456) -/
  | hkadcSchedule
  /-- HKADC_CMP_HIT (R457) -/
  | hkadcCmpHit (ch : Nat) (back : Bool)
  /-- HKADC_CONVERSION_DONE (R458) -/
  | hkadcConversionDone (sup : Bool) (ch : Nat) (xs : List Int) (bad : Bool)
  /-- HKADC_CALIBRATION (R459) -/
  | hkadcCalibration (start : Bool) (dev : Int)
  /-- HKADC_Q_POP (R458) -/
  | hkadcQPop (c : Cls)
  /-- SLACK_WINDOW_END (R467) -/
  | slackWindowEnd (adc dac : List Nat) (up : Nat)
  /-- PM_TELEMETRY (R468) -/
  | pmTelemetry (vout iout : Nat) (temp : Int)
  /-- PM_ALERT (R468) -/
  | pmAlert (status : Nat)
  /-- PM_VOUT_CHECK (R470) -/
  | pmVoutCheck (ack : Bool) (vout : Nat)
  /-- RETIRE_GRACE_EXPIRY (R474) -/
  | retireGraceExpiry (d n : Nat)
  /-- RX_RETIRE_WRITE (R475) -/
  | rxRetireWrite (c : Cls) (agent : Nat) (hi : Bool) (v : Nat)
  /-- LIFE_DAY_CLOSE (R476) -/
  | lifeDayClose
  /-- GPIO_EDGE (R485) -/
  | gpioEdge (k : Nat) (rising : Bool)
  /-- TIM_MEAS_LAPSE (R297) -/
  | timMeasLapse
  /-- CUMIN_MEAS_LAPSE (R316) -/
  | cuminMeasLapse
  /-- TIM_RSP (R296) -/
  | timRsp (id t3 : Nat)
  /-- MARKER_WINDOW_END (R272) -/
  | markerWindowEnd
  /-- DAB_SYNC_LOSS (R326) -/
  | dabSyncLoss
  /-- DSCK_PRESENT (R260) -/
  | dsckPresent (k : Nat) (dev : Int)
  /-- START_LOCK_TIMEOUT (R391) -/
  | startLockTimeout
  deriving DecidableEq, Repr

end Sys2Proof
end

