-- ==== Sys2Proof/Machine/Events.lean ====
section
/-! DEFINITION. The bit numbers of the block-specific events, from the event tables of the chapters. -/

namespace Sys2Proof.Machine

def EV.DEVICE.MODE_DONE : Nat := 0
def EV.DEVICE.MODE_REFUSED : Nat := 1
def EV.DEVICE.FAILED_START : Nat := 2
def EV.DEVICE.FALLBACK : Nat := 3
def EV.DEVICE.CONT_EXPIRED : Nat := 4
def EV.DEVICE.HALT : Nat := 5
def EV.DEVICE.PATH_RETIRED : Nat := 6
def EV.ARBITER.SUPERSEDED : Nat := 0
def EV.ARBITER.REFUSED : Nat := 1
def EV.CPLL.LOCK : Nat := 0
def EV.CPLL.LOL : Nat := 1
def EV.CPLL.BAND_FAIL : Nat := 2
def EV.CPLL.REF_LOSS : Nat := 3
def EV.CPLL.REF_BACK : Nat := 4
def EV.LO.LOCK : Nat := 0
def EV.LO.LOL : Nat := 1
def EV.LO.BAND_FAIL : Nat := 2
def EV.TIMEBASE.STEP_DONE : Nat := 0
def EV.TIMEBASE.STEP_REFUSED : Nat := 1
def EV.TIMEBASE.REF_HOLD : Nat := 2
def EV.TIMEBASE.SRC_CHANGE : Nat := 3
def EV.TSYNC.LOADED : Nat := 0
def EV.TSYNC.CHECKED : Nat := 1
def EV.TSYNC.DIFF_ERR : Nat := 2
def EV.TSYNC.LOAD_BLOCKED : Nat := 3
def EV.TSYNC.OUT_SENT : Nat := 4
def EV.RXPATH.OVL : Nat := 0
def EV.RXPATH.MOD_RESET : Nat := 1
def EV.RXPATH.RXQ_OVERFLOW : Nat := 2
def EV.RXPATH.COMP_SWAP : Nat := 3
def EV.RXPATH.SPARES_LOW : Nat := 4
def EV.RXPATH.THR_RISE : Nat := 8
def EV.RXPATH.THR_FALL : Nat := 9
def EV.RXPATH.SAT : Nat := 10
def EV.RXPATH.ALIGN_DONE : Nat := 11
def EV.MONTAP.PEAK_NEW : Nat := 0
def EV.MONTAP.MS_NEW : Nat := 1
def EV.MONTAP.ENV_DROP : Nat := 2
def EV.TXPATH.TXQ_UNDERFLOW : Nat := 0
def EV.TXPATH.CMPL_OPEN : Nat := 1
def EV.TXPATH.CMPL_SHORT : Nat := 2
def EV.TXPATH.TX_KILL : Nat := 3
def EV.TXPATH.CELL_SWAP : Nat := 4
def EV.TXPATH.CELL_SPARES_LOW : Nat := 5
def EV.TXPATH.RANGE_DONE : Nat := 6
def EV.TXPATH.RANGE_REFUSED : Nat := 7
def EV.TXPATH.THR_RISE : Nat := 8
def EV.TXPATH.THR_FALL : Nat := 9
def EV.TXPATH.SAT : Nat := 10
def EV.TXPATH.CFR_LIMIT : Nat := 11
def EV.AUXDAC.BIAS_CLAMPED : Nat := 0
def EV.AUXDAC.BIAS_FORCED_SAFE : Nat := 1
def EV.AUXDAC.BIAS_RANGE_DONE : Nat := 2
def EV.BEAM.DAMAGED : Nat := 0
def EV.BEAM.LIM_PATH : Nat := 1
def EV.BEAM.LIM_LAYER : Nat := 2
def EV.BEAM.CFG_REFUSED : Nat := 3
def EV.BEAM.EMPTY_SET : Nat := 4
def EV.BEAM.SWAP_NOBLK : Nat := 5
def EV.BEAM.FILL_DONE : Nat := 6
def EV.BEAM.SAT : Nat := 7
def EV.BEAM.RENORM_DONE : Nat := 8
def EV.BEAMSET.BLK_CONFLICT : Nat := 0
def EV.DPD0.UPD_DONE : Nat := 0
def EV.DPD0.DIVERGED : Nat := 1
def EV.DPD0.CHECK_FAIL : Nat := 2
def EV.DPD0.GUARD_TIMEOUT : Nat := 3
def EV.DPD0.LAP_DONE : Nat := 4
def EV.DPD0.CAP_VOID : Nat := 5
def EV.DPD0.MODEL_STALE : Nat := 6
def EV.DPD0.MODEL_DAMAGED : Nat := 7
def EV.TIMELINE0.LATE_DROP : Nat := 0
def EV.TIMELINE0.ACT_DROP : Nat := 1
def EV.TIMELINE0.Q_FULL : Nat := 2
def EV.TIMELINE0.RFFE_READ : Nat := 3
def EV.TIMELINE0.RFFE_PERR : Nat := 4
def EV.OCTET.TX_SUPPRESSED : Nat := 0
def EV.OCTET.PAT_BAD : Nat := 1
def EV.CAL0.RES_NEW : Nat := 0
def EV.CAL0.CAL_FAIL : Nat := 1
def EV.CAL0.REF_FAULT : Nat := 2
def EV.CAL0.RES_DISCARD : Nat := 3
def EV.CAL0.FG_DONE : Nat := 4
def EV.CAL0.WITHDRAWN : Nat := 5
def EV.CAL0.TX_KILL : Nat := 6
def EV.CAL0.CMPL_OPEN : Nat := 7
def EV.CAL0.CMPL_SHORT : Nat := 8
def EV.CAL0.TXQ_UNDERFLOW : Nat := 9
def EV.LINK.US_UNDERFLOW : Nat := 0
def EV.LINK.BLOCK_LOSS : Nat := 1
def EV.LINK.WAKE_FAIL : Nat := 2
def EV.LINK.RATE_REFUSED : Nat := 3
def EV.LINK.EYE_LOW : Nat := 4
def EV.CK.CLK_LOSS : Nat := 0
def EV.CK.CROSS_SLIP : Nat := 1
def EV.DS.BLOCK_LOCK : Nat := 0
def EV.DS.BLOCK_LOSS : Nat := 1
def EV.DS.PRBS_SYNC : Nat := 2
def EV.DS.PRBS_LOSS : Nat := 3
def EV.DS.EYE_LOW : Nat := 4
def EV.DS.TRACK_WRAP : Nat := 5
def EV.US.INJ_DONE : Nat := 0
def EV.ERL0.LINK_UP : Nat := 0
def EV.ERL0.LINK_DOWN : Nat := 1
def EV.ERL0.DL_MISS : Nat := 2
def EV.ERL0.AUTH_FAIL : Nat := 3
def EV.ERL0.MALFORMED : Nat := 4
def EV.ERL0.TIM_DONE : Nat := 5
def EV.ERL0.TIM_REJECT : Nat := 6
def EV.SOUND0.BURST_SENT : Nat := 0
def EV.SOUND0.BURST_SKIP : Nat := 1
def EV.SOUND0.RX_RECORD : Nat := 2
def EV.SOUND0.DECODE_FAIL : Nat := 3
def EV.SOUND0.RXQ_LOST : Nat := 4
def EV.SOUND0.XFER_DONE : Nat := 5
def EV.SOUND0.XFER_REJECT : Nat := 6
def EV.SOUND0.PWR_CLAMPED : Nat := 7
def EV.BCAST0.SYNC : Nat := 0
def EV.BCAST0.SYNC_LOSS : Nat := 1
def EV.BCAST0.HOP : Nat := 2
def EV.BCAST0.ALARM : Nat := 3
def EV.BCAST0.SDQ_NEW : Nat := 4
def EV.BCAST0.SDQ_LOST : Nat := 5
def EV.BCAST0.NOT_PERMITTED : Nat := 6
def EV.BCAST0.CAL_DONE : Nat := 7
def EV.BCAST0.CAL_LOST : Nat := 8
def EV.BCAST0.TIMING_LOST : Nat := 9
def EV.BCAST0.RECENTRE : Nat := 10
def EV.BCAST0.BAND_ERR : Nat := 11
def EV.CP.SEG_DONE : Nat := 0
def EV.CP.ARM_DONE : Nat := 1
def EV.CP.GAP : Nat := 2
def EV.CP.FULL : Nat := 3
def EV.CP.TRIG_MISS : Nat := 4
def EV.CP.FORCED : Nat := 5
def EV.CP.REGION_ERR : Nat := 6
def EV.CP.SRC_ERR : Nat := 7
def EV.CP.EXPORT_DENIED : Nat := 8
def EV.DMAC.DONE : Nat := 0
def EV.DMAC.HALF : Nat := 1
def EV.DMAC.DONE_DESC : Nat := 2
def EV.DMAC.ABORTED : Nat := 3
def EV.DMAC.CHAIN_LIMIT : Nat := 4
def EV.DMAC.TARGET_TIMEOUT : Nat := 5
def EV.DMAC.BUS_ERROR : Nat := 6
def EV.DMAC.DESC_ERR : Nat := 7
def EV.DMAC.ACCESS_DENIED : Nat := 8
def EV.CLOVE.FAULT : Nat := 0
def EV.CLOVE.HALTED : Nat := 1
def EV.CLOVE.LOADED : Nat := 2
def EV.CLOVE.LOAD_FAIL : Nat := 3
def EV.CLOVE.SWAP_DONE : Nat := 4
def EV.CLOVE.SWAP_TIMEOUT : Nat := 5
def EV.CLOVE.MBOX : Nat := 6
def EV.LOG.LOST : Nat := 0
def EV.LOG.FLUSH_DEFERRED : Nat := 1
def EV.UPDATE.UPD_DONE : Nat := 0
def EV.MONITOR.ELEVATED : Nat := 0
def EV.MONITOR.ELEV_LOCKED : Nat := 1
def EV.SECURITY.LR_LOADED : Nat := 0
def EV.SECURITY.LR_FAIL : Nat := 1
def EV.SECURITY.KE_DONE : Nat := 2
def EV.SECURITY.RNG_FAIL : Nat := 3
def EV.SECURITY.OTP_DONE : Nat := 4
def EV.SECURITY.CLEAR_DONE : Nat := 5
def EV.SECURITY.UNLOCK_FAIL : Nat := 6
def EV.SECURITY.LIMIT_LO : Nat := 7
def EV.ECC.CE : Nat := 0
def EV.ECC.UE : Nat := 1
def EV.ECC.MERGE : Nat := 2
def EV.ECC.HEAL : Nat := 3
def EV.ECC.HARD_CE : Nat := 4
def EV.ECC.SCRUB_SLOW : Nat := 5
def EV.BIST.BIST_DONE : Nat := 0
def EV.BIST.BIST_FAIL : Nat := 1
def EV.FUSEMAP.PROG_DONE : Nat := 0
def EV.FUSEMAP.PROG_FAIL : Nat := 1
def EV.FUSEMAP.SPARES_OUT : Nat := 2
def EV.HKADC.Q_NEW : Nat := 0
def EV.HKADC.Q_OVF : Nat := 1
def EV.HKADC.CMP_HIT : Nat := 2
def EV.HKADC.REF_FAULT : Nat := 3
def EV.THERMAL.WARN : Nat := 0
def EV.THERMAL.THROTTLE : Nat := 1
def EV.THERMAL.THROTTLE_END : Nat := 2
def EV.THERMAL.BROKEN : Nat := 3
def EV.THERMAL.WRITE_WINDOW : Nat := 4
def EV.AGEING.STAGE : Nat := 0
def EV.AGEING.RETIRE_CAND : Nat := 1
def EV.AGEING.LIFE_UPDATE : Nat := 2
def EV.AVS.AVS_STEP : Nat := 0
def EV.AVS.AVS_LIMIT : Nat := 1
def EV.AVS.PM_FAULT : Nat := 2
def EV.AVS.PM_ALERT : Nat := 3

end Sys2Proof.Machine
end

