-- ==== Sys2Proof/Machine/Values.lean ====
section
/-! DEFINITION. The operations on the store of register values, and the bit-field, sign-extension and rounding helpers
that every family uses. -/

namespace Sys2Proof

/-- The value under `k`. -/
def Store.look : Store → Nat → Nat
  | [], _ => 0
  | (a, v) :: t, k => if a = k then v else Store.look t k

/-- Puts `(k, v)` before the first greater number. -/
def Store.ins : Store → Nat → Nat → Store
  | [], k, v => [(k, v)]
  | (a, w) :: t, k, v => if k < a then (k, v) :: (a, w) :: t else (a, w) :: Store.ins t k v

/-- Stores `v` under `k`; storing 0 removes the entry, so that equal contents are equal lists. -/
def Store.put (m : Store) (k v : Nat) : Store :=
  let t := m.filter (fun e => decide (e.1 ≠ k))
  if v = 0 then t else Store.ins t k v

/-- Numbers strictly rising and no entry 0: the one form a content has. -/
def Store.wf : Store → Bool
  | [] => true
  | [(_, v)] => decide (v ≠ 0)
  | (a, v) :: (b, w) :: t => decide (v ≠ 0) && decide (a < b) && Store.wf ((b, w) :: t)

/-- `v` with 2^w values, taken modulo 2^w. -/
def trunc (w v : Nat) : Nat := v % 2 ^ w

/-- Bits `lo + w - 1 : lo` of `v`. -/
def bits (v lo w : Nat) : Nat := (v / 2 ^ lo) % 2 ^ w

/-- Bit `i` of `v`. -/
def bitOf (v i : Nat) : Bool := bits v i 1 == 1

/-- `v` with bit `i` set. -/
def setBit (v i : Nat) : Nat := if bitOf v i then v else v + 2 ^ i

/-- `v` with bit `i` clear. -/
def clearBit (v i : Nat) : Nat := if bitOf v i then v - 2 ^ i else v

/-- `v` without the bits that are set in `m` (width `w`). -/
def clearMask (w v m : Nat) : Nat := v &&& ((2 ^ w - 1) ^^^ (m % 2 ^ w))

/-- The number of set bits among the lowest `w`. -/
def popcount (w v : Nat) : Nat := ((List.range w).filter (fun i => bitOf v i)).length

/-- The value of a `w`-bit two's complement field. -/
def toSigned (w v : Nat) : Int := if v % 2 ^ w < 2 ^ (w - 1) then (v % 2 ^ w : Nat) else (v % 2 ^ w : Nat) - (2 ^ w : Nat)

/-- The `w`-bit two's complement field of a number. -/
def ofSigned (w : Nat) (x : Int) : Nat := (x % (2 ^ w : Nat)).toNat

/-- A number held to the range from `lo` to `hi`. -/
def clip (lo hi x : Int) : Int := if x < lo then lo else if hi < x then hi else x

/-- `v` brought into [a, b]. -/
def clipNat (a b v : Nat) : Nat := min b (max a v)

/-- A number as the nearest value of a `w`-bit two's complement field (saturation). -/
def satSigned (w : Nat) (x : Int) : Int := clip (-(2 ^ (w - 1) : Nat)) ((2 ^ (w - 1) : Nat) - 1) x

/-- A 64-bit value from its two words. -/
def join64 (lo hi : Nat) : Nat := lo + hi * 2 ^ 32

/-- Replaces element `i` of a list by its image. -/
def upd {α : Type} : List α → Nat → (α → α) → List α
  | [], _, _ => []
  | a :: t, 0, f => f a :: t
  | a :: t, i + 1, f => a :: upd t i f

/-- The magnitude squared of a sample (R130). -/
def Sample.mag (x : Sample) : Nat := (x.i * x.i + x.q * x.q).toNat

/-- `a / b` rounded to the nearest integer, halves to the even one (convergent rounding, R123). -/
def divConv (a b : Int) : Int :=
  let q := a / b
  let r := a % b
  if 2 * r < b then q else if b < 2 * r then q + 1 else if q % 2 = 0 then q else q + 1

end Sys2Proof
end

