-- ==== Sys2Proof/Machine/Regs.lean ====
section
/-! DEFINITION. The fields of every block-specific register of the register map, one constant per field: page,
byte offset, lowest bit, width, access code (R5) and reset value, from the register tables of the chapter named.
A field of a page that exists several times takes the instance `n`, a field of a register array the index `i`.
Reset values that the spec gives as OTP, straps or "default" are DESIGN CHOICES of log entry 5. -/

namespace Sys2Proof.Machine

/-- Coefficient `i` of the channel FIR at reset, Q2.16: a symmetric filter of sum 1 that stays within 0.001 dB to 196 MHz and lies
82 dB down beyond 295.52 MHz, as R128 asks of the vendor's (DESIGN CHOICE, log entry 5). -/
def firDefault (i : Nat) : Nat :=
  ofSigned 18 ([0, 0, 0, 0, -1, -1, 1, 2, -3, -4, 6, 8, -11, -14, 18, 24, -30, -38, 47, 58, -71, -86, 104, 125, -149, -176,
    208, 245, -286, -334, 388, 450, -520, -601, 693, 800, -923, -1069, 1242, 1452, -1712, -2045, 2490, 3119, -4090,
    -5811, 9780, 29483].getD (min i (95 - i)) 0)

/-- Word `i` of the CFR pulse at reset, Q1.15: a symmetric pulse with a passband of 196 MHz (R143; DESIGN CHOICE, log
entry 5). -/
def pulseDefault (i : Nat) : Nat :=
  ofSigned 16 ([-84, 107, -21, -228, 600, -901, 826, -72, -1481, 3647, -5926, 7667, 32767].getD (min i (24 - i)) 0)

/-- DEVICE.UNAVAIL_TIME_LO (01_architecture.md). -/
def DEVICE.UNAVAIL_TIME_LO : Loc := ⟨0x000, 0x02C, 0, 32, .ro, 0⟩
/-- DEVICE.UNAVAIL_TIME_HI (01_architecture.md). -/
def DEVICE.UNAVAIL_TIME_HI : Loc := ⟨0x000, 0x030, 0, 32, .ro, 0⟩
/-- DEVICE.OUTAGE_COUNT (01_architecture.md). -/
def DEVICE.OUTAGE_COUNT : Loc := ⟨0x000, 0x034, 0, 32, .ro, 0⟩
/-- DEVICE.ID (01_architecture.md). -/
def DEVICE.STEP : Loc := ⟨0x000, 0x040, 16, 8, .ro, 0xB0⟩
def DEVICE.PART : Loc := ⟨0x000, 0x040, 0, 16, .ro, 0x0640⟩
/-- DEVICE.MODE_REQ (01_architecture.md). -/
def DEVICE.MODE_REQ : Loc := ⟨0x000, 0x044, 0, 3, .rw, 0⟩
/-- DEVICE.MODE_STAT (01_architecture.md). -/
def DEVICE.HALT : Loc := ⟨0x000, 0x048, 15, 1, .ro, 0⟩
def DEVICE.MGMT_RESTART_ACT : Loc := ⟨0x000, 0x048, 14, 1, .ro, 0⟩
def DEVICE.PREV : Loc := ⟨0x000, 0x048, 8, 3, .ro, 0⟩
def DEVICE.REFUSE : Loc := ⟨0x000, 0x048, 4, 4, .ro, 0⟩
def DEVICE.TRANS : Loc := ⟨0x000, 0x048, 3, 1, .ro, 0⟩
def DEVICE.MODE : Loc := ⟨0x000, 0x048, 0, 3, .ro, 0⟩
/-- DEVICE.BOOT_CTRL (01_architecture.md). -/
def DEVICE.BOOT_OK_SEEN : Loc := ⟨0x000, 0x04C, 1, 1, .ro, 0⟩
def DEVICE.BOOT_OK : Loc := ⟨0x000, 0x04C, 0, 1, .wo, 0⟩
/-- DEVICE.BOOT_STAT (01_architecture.md). -/
def DEVICE.LAST_FAIL : Loc := ⟨0x000, 0x050, 16, 8, .ro, 0⟩
def DEVICE.FAIL_COUNT : Loc := ⟨0x000, 0x050, 8, 2, .ro, 0⟩
def DEVICE.BOOT_REASON : Loc := ⟨0x000, 0x050, 0, 8, .ro, 0⟩
/-- DEVICE.STABLE_TIME (01_architecture.md). -/
def DEVICE.STABLE_TIME : Loc := ⟨0x000, 0x054, 0, 10, .ro, 0⟩
/-- DEVICE.RESTART (01_architecture.md). -/
def DEVICE.DEVICE_RESET : Loc := ⟨0x000, 0x058, 1, 1, .wo, 0⟩
def DEVICE.MGMT_RESTART : Loc := ⟨0x000, 0x058, 0, 1, .wo, 0⟩
/-- DEVICE.CONT_STAT (01_architecture.md). -/
def DEVICE.CONT_LEFT : Loc := ⟨0x000, 0x05C, 0, 13, .ro, 0⟩
/-- DEVICE.RETIRED_RX_LO (01_architecture.md). -/
def DEVICE.RETIRED_RX_LO : Loc := ⟨0x000, 0x060, 0, 32, .ro, 0⟩
/-- DEVICE.RETIRED_RX_HI (01_architecture.md). -/
def DEVICE.RETIRED_RX_HI : Loc := ⟨0x000, 0x064, 0, 32, .ro, 0⟩
/-- DEVICE.RETIRED_TX_LO (01_architecture.md). -/
def DEVICE.RETIRED_TX_LO : Loc := ⟨0x000, 0x068, 0, 32, .ro, 0⟩
/-- DEVICE.RETIRED_TX_HI (01_architecture.md). -/
def DEVICE.RETIRED_TX_HI : Loc := ⟨0x000, 0x06C, 0, 32, .ro, 0⟩
/-- DEVICE.SVC_LEVEL (01_architecture.md). -/
def DEVICE.SVC_LEVEL : Loc := ⟨0x000, 0x070, 0, 2, .ro, 2⟩

/-- LIMITS.STAT (18_security.md). -/
def LIMITS.LR_VALID : Loc := ⟨0x001, 0x040, 31, 1, .ro, 0⟩
def LIMITS.KEY_SLOT : Loc := ⟨0x001, 0x040, 16, 2, .ro, 0⟩
def LIMITS.LR_VER : Loc := ⟨0x001, 0x040, 0, 16, .ro, 0⟩
/-- LIMITS.REC (18_security.md). -/
def LIMITS.REC (i : Nat) : Loc := ⟨0x001, 0x100 + 4 * i, 0, 32, .ro, 0⟩

/-- SECURITY.LR_FAIL_CNT (18_security.md). -/
def SECURITY.LR_FAIL_CNT : Loc := ⟨0x002, 0x02C, 0, 32, .ro, 0⟩
/-- SECURITY.UNLOCK_FAIL_CNT (18_security.md). -/
def SECURITY.UNLOCK_FAIL_CNT : Loc := ⟨0x002, 0x030, 0, 32, .ro, 0⟩
/-- SECURITY.LIMIT_LO_CNT (18_security.md). -/
def SECURITY.LIMIT_LO_CNT : Loc := ⟨0x002, 0x034, 0, 32, .ro, 0⟩
/-- SECURITY.SERIAL_LO (18_security.md). -/
def SECURITY.SERIAL_LO : Loc := ⟨0x002, 0x040, 0, 32, .ro, 0⟩
/-- SECURITY.SERIAL_HI (18_security.md). -/
def SECURITY.SERIAL_HI : Loc := ⟨0x002, 0x044, 0, 32, .ro, 0⟩
/-- SECURITY.OTP_STAT (18_security.md). -/
def SECURITY.PROVISIONED : Loc := ⟨0x002, 0x048, 31, 1, .ro, 0⟩
def SECURITY.SCAN_PERMIT : Loc := ⟨0x002, 0x048, 30, 1, .ro, 0⟩
def SECURITY.LR_RB : Loc := ⟨0x002, 0x048, 16, 5, .ro, 0⟩
def SECURITY.PROGRAMMED : Loc := ⟨0x002, 0x048, 8, 4, .ro, 0⟩
def SECURITY.REVOKE : Loc := ⟨0x002, 0x048, 0, 4, .ro, 0⟩
/-- SECURITY.OTP_CMD (18_security.md). -/
def SECURITY.OTP_GO : Loc := ⟨0x002, 0x04C, 31, 1, .wo, 0⟩
def SECURITY.OTP_BUSY : Loc := ⟨0x002, 0x04C, 30, 1, .ro, 0⟩
def SECURITY.OTP_OP : Loc := ⟨0x002, 0x04C, 16, 3, .rw, 0⟩
def SECURITY.OTP_RESULT : Loc := ⟨0x002, 0x04C, 12, 4, .ro, 0⟩
def SECURITY.OTP_ARG : Loc := ⟨0x002, 0x04C, 0, 5, .rw, 0⟩
/-- SECURITY.LR_CMD (18_security.md). -/
def SECURITY.LR_GO : Loc := ⟨0x002, 0x050, 31, 1, .wo, 0⟩
def SECURITY.LR_BUSY : Loc := ⟨0x002, 0x050, 30, 1, .ro, 0⟩
def SECURITY.LR_RESULT : Loc := ⟨0x002, 0x050, 0, 4, .ro, 0⟩
/-- SECURITY.LR_ADDR (18_security.md). -/
def SECURITY.LR_ADDR : Loc := ⟨0x002, 0x054, 0, 32, .rw, 0x20020000⟩
/-- SECURITY.KE_CMD (18_security.md). -/
def SECURITY.KE_GO : Loc := ⟨0x002, 0x058, 31, 1, .wo, 0⟩
def SECURITY.KE_BUSY : Loc := ⟨0x002, 0x058, 30, 1, .ro, 0⟩
def SECURITY.KE_OP : Loc := ⟨0x002, 0x058, 16, 2, .rw, 0⟩
def SECURITY.KE_RESULT : Loc := ⟨0x002, 0x058, 0, 4, .ro, 0⟩
/-- SECURITY.KEY_TB_LO (18_security.md). -/
def SECURITY.KEY_TB_LO : Loc := ⟨0x002, 0x05C, 0, 32, .ro, 0⟩
/-- SECURITY.KEY_TB_HI (18_security.md). -/
def SECURITY.KEY_TB_HI : Loc := ⟨0x002, 0x060, 0, 32, .ro, 0⟩
/-- SECURITY.RNG_DATA (18_security.md). -/
def SECURITY.RNG_DATA : Loc := ⟨0x002, 0x064, 0, 32, .ro, 0⟩
/-- SECURITY.RNG_STAT (18_security.md). -/
def SECURITY.RNG_STAT : Loc := ⟨0x002, 0x068, 0, 32, .ro, 0⟩
/-- SECURITY.DBG_CMD (18_security.md). -/
def SECURITY.CHAL : Loc := ⟨0x002, 0x06C, 31, 1, .wo, 0⟩
def SECURITY.UNLOCK : Loc := ⟨0x002, 0x06C, 30, 1, .wo, 0⟩
def SECURITY.SCAN_EN : Loc := ⟨0x002, 0x06C, 17, 1, .ro, 0⟩
def SECURITY.DBG_EN : Loc := ⟨0x002, 0x06C, 16, 1, .ro, 0⟩
def SECURITY.DBG_RESULT : Loc := ⟨0x002, 0x06C, 0, 4, .ro, 0⟩
/-- SECURITY.KEY_HASH_IN (18_security.md). -/
def SECURITY.KEY_HASH_IN (i : Nat) : Loc := ⟨0x002, 0x100 + 4 * i, 0, 32, .rw, 0⟩
/-- SECURITY.ID_PUB (18_security.md). -/
def SECURITY.ID_PUB (i : Nat) : Loc := ⟨0x002, 0x140 + 4 * i, 0, 32, .ro, 0⟩
/-- SECURITY.KE_PUB (18_security.md). -/
def SECURITY.KE_PUB (i : Nat) : Loc := ⟨0x002, 0x180 + 4 * i, 0, 32, .ro, 0⟩
/-- SECURITY.KE_SIG (18_security.md). -/
def SECURITY.KE_SIG (i : Nat) : Loc := ⟨0x002, 0x1C0 + 4 * i, 0, 32, .ro, 0⟩
/-- SECURITY.KE_NONCE (18_security.md). -/
def SECURITY.KE_NONCE (i : Nat) : Loc := ⟨0x002, 0x200 + 4 * i, 0, 32, .rw, 0⟩
/-- SECURITY.DBG_NONCE (18_security.md). -/
def SECURITY.DBG_NONCE (i : Nat) : Loc := ⟨0x002, 0x220 + 4 * i, 0, 32, .ro, 0⟩
/-- SECURITY.PEER_STATIC (18_security.md). -/
def SECURITY.PEER_STATIC (i : Nat) : Loc := ⟨0x002, 0x240 + 4 * i, 0, 32, .rw, 0⟩
/-- SECURITY.PEER_EPH (18_security.md). -/
def SECURITY.PEER_EPH (i : Nat) : Loc := ⟨0x002, 0x280 + 4 * i, 0, 32, .rw, 0⟩
/-- SECURITY.PEER_SIG (18_security.md). -/
def SECURITY.PEER_SIG (i : Nat) : Loc := ⟨0x002, 0x2C0 + 4 * i, 0, 32, .rw, 0⟩
/-- SECURITY.TOKEN (18_security.md). -/
def SECURITY.TOKEN (i : Nat) : Loc := ⟨0x002, 0x300 + 4 * i, 0, 32, .rw, 0⟩
/-- SECURITY.ATT_W (18_security.md). -/
def SECURITY.ATT_W (i : Nat) : Loc := ⟨0x002, 0x400 + 4 * i, 0, 32, .ro, 0⟩
def SECURITY.HASH (k i : Nat) : Loc := ⟨0x002, 0x080 + 0x20 * k + 4 * i, 0, 32, .ro, 0⟩

/-- ARBITER.SUP_CNT (02_register_model.md). -/
def ARBITER.SUP_CNT (i : Nat) : Loc := ⟨0x003, 0x040 + 4 * i, 0, 32, .ro, 0⟩
/-- ARBITER.LAST_SUP_ADDR (02_register_model.md). -/
def ARBITER.LAST_SUP_ADDR : Loc := ⟨0x003, 0x060, 0, 32, .ro, 0⟩
/-- ARBITER.LAST_SUP_INFO (02_register_model.md). -/
def ARBITER.LOSER : Loc := ⟨0x003, 0x064, 12, 4, .ro, 0⟩
def ARBITER.WINNER : Loc := ⟨0x003, 0x064, 8, 4, .ro, 0⟩
def ARBITER.PROTECTIVE : Loc := ⟨0x003, 0x064, 0, 1, .ro, 0⟩
/-- ARBITER.LAST_SUP_TB_LO (02_register_model.md). -/
def ARBITER.LAST_SUP_TB_LO : Loc := ⟨0x003, 0x068, 0, 32, .ro, 0⟩
/-- ARBITER.LAST_SUP_TB_HI (02_register_model.md). -/
def ARBITER.LAST_SUP_TB_HI : Loc := ⟨0x003, 0x06C, 0, 32, .ro, 0⟩
/-- ARBITER.LAST_REF_ADDR (02_register_model.md). -/
def ARBITER.LAST_REF_ADDR : Loc := ⟨0x003, 0x070, 0, 32, .ro, 0⟩
/-- ARBITER.LAST_REF_INFO (02_register_model.md). -/
def ARBITER.CLASS : Loc := ⟨0x003, 0x074, 8, 4, .ro, 0⟩
def ARBITER.CODE : Loc := ⟨0x003, 0x074, 0, 3, .ro, 0⟩
/-- ARBITER.PEND (02_register_model.md). -/
def ARBITER.PEND (i : Nat) : Loc := ⟨0x003, 0x080 + 4 * i, 0, 32, .ro, 0⟩

/-- CPLL.REF (03_clocks_and_time.md). -/
def CPLL.REF_OK : Loc := ⟨0x004, 0x040, 7, 1, .ro, 0⟩
def CPLL.BYP_PRESENT : Loc := ⟨0x004, 0x040, 6, 1, .rw, 0⟩
def CPLL.REF_RATE : Loc := ⟨0x004, 0x040, 0, 2, .ro, 3⟩
/-- CPLL.CFG (03_clocks_and_time.md). -/
def CPLL.ADC_PHASE : Loc := ⟨0x004, 0x044, 16, 2, .rws, 0⟩
def CPLL.DAC_PHASE : Loc := ⟨0x004, 0x044, 8, 1, .rws, 0⟩
def CPLL.LOCKA_SEL : Loc := ⟨0x004, 0x044, 4, 3, .rw, 0⟩
def CPLL.LOCK_WIN : Loc := ⟨0x004, 0x044, 0, 2, .rw, 1⟩
/-- CPLL.STAT (03_clocks_and_time.md). -/
def CPLL.LOL_CNT : Loc := ⟨0x004, 0x048, 16, 16, .ro, 0⟩
def CPLL.BAND : Loc := ⟨0x004, 0x048, 8, 8, .ro, 0⟩
def CPLL.BYPASS : Loc := ⟨0x004, 0x048, 4, 1, .ro, 1⟩
def CPLL.MUTED : Loc := ⟨0x004, 0x048, 3, 1, .ro, 1⟩
def CPLL.BAND_FAIL : Loc := ⟨0x004, 0x048, 2, 1, .ro, 0⟩
def CPLL.READY : Loc := ⟨0x004, 0x048, 1, 1, .ro, 0⟩
def CPLL.LOCKED : Loc := ⟨0x004, 0x048, 0, 1, .ro, 0⟩

/-- LO.FREQ0 (03_clocks_and_time.md). -/
def LO.NINT (n : Nat) : Loc := ⟨0x005 + n, 0x040, 24, 8, .rws, 0⟩
def LO.FRAC (n : Nat) : Loc := ⟨0x005 + n, 0x040, 0, 24, .rws, 0⟩
/-- LO.CFG (03_clocks_and_time.md). -/
def LO.FASTLOCK (n : Nat) : Loc := ⟨0x005 + n, 0x044, 8, 1, .rw, 1⟩
def LO.OUTDIV (n : Nat) : Loc := ⟨0x005 + n, 0x044, 4, 2, .rws, 1⟩
/-- LO.LO_ASSIGN (03_clocks_and_time.md). -/
def LO.LO_ASSIGN (n : Nat) : Loc := ⟨0x005 + n, 0x048, 0, 8, .rws, 0⟩
/-- LO.STAT (03_clocks_and_time.md). -/
def LO.LOL_CNT (n : Nat) : Loc := ⟨0x005 + n, 0x04C, 16, 16, .ro, 0⟩
def LO.BAND (n : Nat) : Loc := ⟨0x005 + n, 0x04C, 8, 8, .ro, 0⟩
def LO.BYPASS (n : Nat) : Loc := ⟨0x005 + n, 0x04C, 4, 1, .ro, 0⟩
def LO.MUTED (n : Nat) : Loc := ⟨0x005 + n, 0x04C, 3, 1, .ro, 1⟩
def LO.BAND_FAIL (n : Nat) : Loc := ⟨0x005 + n, 0x04C, 2, 1, .ro, 0⟩
def LO.READY (n : Nat) : Loc := ⟨0x005 + n, 0x04C, 1, 1, .ro, 0⟩
def LO.LOCKED (n : Nat) : Loc := ⟨0x005 + n, 0x04C, 0, 1, .ro, 0⟩

/-- LPLL.CFG (03_clocks_and_time.md). -/
def LPLL.RATE : Loc := ⟨0x007, 0x040, 0, 2, .rws, 0⟩
/-- LPLL.STAT (03_clocks_and_time.md). -/
def LPLL.LOL_CNT : Loc := ⟨0x007, 0x044, 16, 16, .ro, 0⟩
def LPLL.BAND : Loc := ⟨0x007, 0x044, 8, 8, .ro, 0⟩
def LPLL.BYPASS : Loc := ⟨0x007, 0x044, 4, 1, .ro, 0⟩
def LPLL.MUTED : Loc := ⟨0x007, 0x044, 3, 1, .ro, 1⟩
def LPLL.BAND_FAIL : Loc := ⟨0x007, 0x044, 2, 1, .ro, 0⟩
def LPLL.READY : Loc := ⟨0x007, 0x044, 1, 1, .ro, 0⟩
def LPLL.LOCKED : Loc := ⟨0x007, 0x044, 0, 1, .ro, 0⟩

/-- TIMEBASE.NOW_LO (03_clocks_and_time.md). -/
def TIMEBASE.NOW_LO : Loc := ⟨0x008, 0x040, 0, 32, .ro, 0⟩
/-- TIMEBASE.NOW_HI (03_clocks_and_time.md). -/
def TIMEBASE.NOW_HI : Loc := ⟨0x008, 0x044, 0, 32, .ro, 0⟩
/-- TIMEBASE.PRESET_LO (03_clocks_and_time.md). -/
def TIMEBASE.PRESET_LO : Loc := ⟨0x008, 0x048, 4, 28, .rw, 0⟩
/-- TIMEBASE.PRESET_HI (03_clocks_and_time.md). -/
def TIMEBASE.PRESET_HI : Loc := ⟨0x008, 0x04C, 0, 32, .rw, 0⟩
/-- TIMEBASE.STEP (03_clocks_and_time.md). -/
def TIMEBASE.STEP_VAL : Loc := ⟨0x008, 0x050, 4, 28, .rw, 0⟩
/-- TIMEBASE.CTRL (03_clocks_and_time.md). -/
def TIMEBASE.TSRC_EN : Loc := ⟨0x008, 0x054, 16, 3, .rw, 0⟩
def TIMEBASE.STEP_GO : Loc := ⟨0x008, 0x054, 8, 1, .wo, 0⟩
def TIMEBASE.VALID_SET : Loc := ⟨0x008, 0x054, 4, 1, .wo, 0⟩
/-- TIMEBASE.STAT (03_clocks_and_time.md). -/
def TIMEBASE.INC : Loc := ⟨0x008, 0x058, 8, 5, .ro, 8⟩
def TIMEBASE.SRC_ACT : Loc := ⟨0x008, 0x058, 6, 2, .ro, 0⟩
def TIMEBASE.REF_HOLD : Loc := ⟨0x008, 0x058, 1, 1, .ro, 0⟩
def TIMEBASE.VALID : Loc := ⟨0x008, 0x058, 0, 1, .ro, 0⟩
/-- TIMEBASE.NET_OFFSET (03_clocks_and_time.md). -/
def TIMEBASE.NET_OFFSET : Loc := ⟨0x008, 0x05C, 0, 32, .ro, 0⟩
/-- TIMEBASE.FREQ_ERR (03_clocks_and_time.md). -/
def TIMEBASE.FREQ_ERR : Loc := ⟨0x008, 0x060, 0, 32, .ro, 0⟩

/-- TSYNC.CTRL (03_clocks_and_time.md). -/
def TSYNC.OUT_WIDTH : Loc := ⟨0x009, 0x040, 16, 8, .rw, 4⟩
def TSYNC.OUT_REPEAT : Loc := ⟨0x009, 0x040, 8, 1, .rw, 0⟩
def TSYNC.OUT_ARM : Loc := ⟨0x009, 0x040, 7, 1, .rw, 0⟩
def TSYNC.MODE : Loc := ⟨0x009, 0x040, 0, 2, .rw, 0⟩
/-- TSYNC.PERIOD (03_clocks_and_time.md). -/
def TSYNC.PERIOD : Loc := ⟨0x009, 0x044, 4, 28, .rw, 0⟩
/-- TSYNC.LAST_TB_LO (03_clocks_and_time.md). -/
def TSYNC.LAST_TB_LO : Loc := ⟨0x009, 0x048, 0, 32, .ro, 0⟩
/-- TSYNC.LAST_TB_HI (03_clocks_and_time.md). -/
def TSYNC.LAST_TB_HI : Loc := ⟨0x009, 0x04C, 0, 32, .ro, 0⟩
/-- TSYNC.DIFF (03_clocks_and_time.md). -/
def TSYNC.DIFF : Loc := ⟨0x009, 0x050, 0, 32, .ro, 0⟩
/-- TSYNC.OUT_TB_LO (03_clocks_and_time.md). -/
def TSYNC.OUT_TB_LO : Loc := ⟨0x009, 0x054, 0, 32, .rw, 0⟩
/-- TSYNC.OUT_TB_HI (03_clocks_and_time.md). -/
def TSYNC.OUT_TB_HI : Loc := ⟨0x009, 0x058, 0, 32, .rw, 0⟩
/-- TSYNC.CNT (03_clocks_and_time.md). -/
def TSYNC.PULSES : Loc := ⟨0x009, 0x05C, 16, 16, .ro, 0⟩
def TSYNC.DIFF_ERRS : Loc := ⟨0x009, 0x05C, 0, 16, .ro, 0⟩

/-- RXPATH.OVL_CNT (04_receive_front_end.md). -/
def RXPATH.OVL_CNT (n : Nat) : Loc := ⟨0x010 + n, 0x02C, 0, 32, .ro, 0⟩
/-- RXPATH.MODRST_CNT (04_receive_front_end.md). -/
def RXPATH.MODRST_CNT (n : Nat) : Loc := ⟨0x010 + n, 0x030, 0, 32, .ro, 0⟩
/-- RXPATH.RXQ_OVF_CNT (04_receive_front_end.md). -/
def RXPATH.RXQ_OVF_CNT (n : Nat) : Loc := ⟨0x010 + n, 0x034, 0, 32, .ro, 0⟩
/-- RXPATH.COMP_SWAP_CNT (04_receive_front_end.md). -/
def RXPATH.COMP_SWAP_CNT (n : Nat) : Loc := ⟨0x010 + n, 0x038, 0, 32, .ro, 0⟩
/-- RXPATH.SAT_CNT (05_receive_filtering.md). -/
def RXPATH.SAT_CNT (n : Nat) : Loc := ⟨0x010 + n, 0x03C, 0, 32, .ro, 0⟩
/-- RXPATH.AFE_GAIN (04_receive_front_end.md). -/
def RXPATH.GAIN_OBS (n : Nat) : Loc := ⟨0x010 + n, 0x040, 16, 6, .rws, 20⟩
def RXPATH.GAIN_ANT (n : Nat) : Loc := ⟨0x010 + n, 0x040, 0, 6, .rws, 60⟩
/-- RXPATH.AFE_FILT (04_receive_front_end.md). -/
def RXPATH.BBF_TRIM (n : Nat) : Loc := ⟨0x010 + n, 0x044, 16, 8, .ro, 0⟩
def RXPATH.BBF_BW (n : Nat) : Loc := ⟨0x010 + n, 0x044, 0, 6, .rws, 40⟩
/-- RXPATH.AFE_INPUT (04_receive_front_end.md). -/
def RXPATH.PATH_STATE (n : Nat) : Loc := ⟨0x010 + n, 0x048, 24, 3, .ro, 0⟩
def RXPATH.INSEL_ACT (n : Nat) : Loc := ⟨0x010 + n, 0x048, 16, 2, .ro, 2⟩
def RXPATH.INSEL_OVR (n : Nat) : Loc := ⟨0x010 + n, 0x048, 8, 1, .rw, 0⟩
def RXPATH.INSEL_FORCE (n : Nat) : Loc := ⟨0x010 + n, 0x048, 0, 2, .rw, 2⟩
/-- RXPATH.OVL_CFG (04_receive_front_end.md). -/
def RXPATH.OVL_EN (n : Nat) : Loc := ⟨0x010 + n, 0x04C, 31, 1, .rw, 1⟩
def RXPATH.OVL_FORCE (n : Nat) : Loc := ⟨0x010 + n, 0x04C, 30, 1, .rw, 0⟩
def RXPATH.OVL_DECAY (n : Nat) : Loc := ⟨0x010 + n, 0x04C, 24, 4, .rw, 3⟩
def RXPATH.OVL_HOLD (n : Nat) : Loc := ⟨0x010 + n, 0x04C, 16, 8, .rw, 16⟩
def RXPATH.OVL_THR (n : Nat) : Loc := ⟨0x010 + n, 0x04C, 8, 4, .rw, 14⟩
/-- RXPATH.OVL_STAT (04_receive_front_end.md). -/
def RXPATH.ATT_NOW (n : Nat) : Loc := ⟨0x010 + n, 0x050, 8, 5, .ro, 0⟩
def RXPATH.OVL_ACT (n : Nat) : Loc := ⟨0x010 + n, 0x050, 0, 1, .ro, 0⟩
/-- RXPATH.COMP_MAP_I (04_receive_front_end.md). -/
def RXPATH.COMP_MAP_I (n : Nat) : Loc := ⟨0x010 + n, 0x054, 0, 18, .ro, 0x7FFF⟩
/-- RXPATH.COMP_MAP_Q (04_receive_front_end.md). -/
def RXPATH.COMP_MAP_Q (n : Nat) : Loc := ⟨0x010 + n, 0x058, 0, 18, .ro, 0x7FFF⟩
/-- RXPATH.ADC_STAT (04_receive_front_end.md). -/
def RXPATH.SPARES_Q (n : Nat) : Loc := ⟨0x010 + n, 0x05C, 4, 2, .ro, 0⟩
def RXPATH.SPARES_I (n : Nat) : Loc := ⟨0x010 + n, 0x05C, 0, 2, .ro, 0⟩
/-- RXPATH.AFE_DC (04_receive_front_end.md). -/
def RXPATH.DC_Q (n : Nat) : Loc := ⟨0x010 + n, 0x060, 16, 8, .rws, 0⟩
def RXPATH.DC_I (n : Nat) : Loc := ⟨0x010 + n, 0x060, 0, 8, .rws, 0⟩
/-- RXPATH.DIG_CFG (05_receive_filtering.md). -/
def RXPATH.FIR_ASYM (n : Nat) : Loc := ⟨0x010 + n, 0x080, 16, 1, .ro, 0⟩
def RXPATH.FIR_BANK (n : Nat) : Loc := ⟨0x010 + n, 0x080, 8, 1, .rws, 0⟩
def RXPATH.NUMFMT (n : Nat) : Loc := ⟨0x010 + n, 0x080, 0, 1, .rws, 0⟩
/-- RXPATH.DIG_CMD (05_receive_filtering.md). -/
def RXPATH.DEC_ALIGN (n : Nat) : Loc := ⟨0x010 + n, 0x084, 0, 1, .wo, 0⟩
/-- RXPATH.DC_CORR_I (05_receive_filtering.md). -/
def RXPATH.DC_CORR_I (n : Nat) : Loc := ⟨0x010 + n, 0x088, 0, 18, .rws, 0⟩
/-- RXPATH.DC_CORR_Q (05_receive_filtering.md). -/
def RXPATH.DC_CORR_Q (n : Nat) : Loc := ⟨0x010 + n, 0x08C, 0, 18, .rws, 0⟩
/-- RXPATH.IQ_GAIN (05_receive_filtering.md). -/
def RXPATH.IQ_GAIN (n : Nat) : Loc := ⟨0x010 + n, 0x090, 0, 18, .rws, 0x10000⟩
/-- RXPATH.IQ_X (05_receive_filtering.md). -/
def RXPATH.IQ_X (n : Nat) (i : Nat) : Loc := ⟨0x010 + n, 0x094 + 4 * i, 0, 18, .rws, 0⟩
/-- RXPATH.GD_NOW (05_receive_filtering.md). -/
def RXPATH.GD_NOW (n : Nat) : Loc := ⟨0x010 + n, 0x0B0, 0, 32, .ro, 0xF000⟩
/-- RXPATH.THR_HI (05_receive_filtering.md). -/
def RXPATH.THR_HI (n : Nat) : Loc := ⟨0x010 + n, 0x0C0, 0, 32, .rw, 0xFFFFFFFF⟩
/-- RXPATH.THR_LO (05_receive_filtering.md). -/
def RXPATH.THR_LO (n : Nat) : Loc := ⟨0x010 + n, 0x0C4, 0, 32, .rw, 0xFFFFFFFF⟩
/-- RXPATH.THR_CFG (05_receive_filtering.md). -/
def RXPATH.THR_EN (n : Nat) : Loc := ⟨0x010 + n, 0x0C8, 31, 1, .rw, 0⟩
def RXPATH.OVL_HI (n : Nat) : Loc := ⟨0x010 + n, 0x0C8, 16, 1, .rw, 1⟩
def RXPATH.THR_HOLD (n : Nat) : Loc := ⟨0x010 + n, 0x0C8, 0, 16, .rw, 1⟩
/-- RXPATH.THR_STAT (05_receive_filtering.md). -/
def RXPATH.THR_STATE (n : Nat) : Loc := ⟨0x010 + n, 0x0CC, 16, 1, .ro, 0⟩
def RXPATH.THR_COUNT (n : Nat) : Loc := ⟨0x010 + n, 0x0CC, 0, 16, .ro, 0⟩
/-- RXPATH.THR_TB_LO (05_receive_filtering.md). -/
def RXPATH.THR_TB_LO (n : Nat) : Loc := ⟨0x010 + n, 0x0D0, 0, 32, .ro, 0⟩
/-- RXPATH.THR_TB_HI (05_receive_filtering.md). -/
def RXPATH.THR_TB_HI (n : Nat) : Loc := ⟨0x010 + n, 0x0D4, 0, 32, .ro, 0⟩
/-- RXPATH.FIR_B0 (05_receive_filtering.md). -/
def RXPATH.FIR_B0 (n : Nat) (i : Nat) : Loc := ⟨0x010 + n, 0x200 + 4 * i, 0, 18, .rw, firDefault i⟩
/-- RXPATH.FIR_B1 (05_receive_filtering.md). -/
def RXPATH.FIR_B1 (n : Nat) (i : Nat) : Loc := ⟨0x010 + n, 0x400 + 4 * i, 0, 18, .rw, firDefault i⟩

/-- TXPATH.TXQ_UFL_CNT (06_transmit_paths.md). -/
def TXPATH.TXQ_UFL_CNT (n : Nat) : Loc := ⟨0x050 + n, 0x02C, 0, 32, .ro, 0⟩
/-- TXPATH.CMPL_CNT (06_transmit_paths.md). -/
def TXPATH.CMPL_CNT (n : Nat) : Loc := ⟨0x050 + n, 0x030, 0, 32, .ro, 0⟩
/-- TXPATH.CELL_SWAP_CNT (06_transmit_paths.md). -/
def TXPATH.CELL_SWAP_CNT (n : Nat) : Loc := ⟨0x050 + n, 0x034, 0, 32, .ro, 0⟩
/-- TXPATH.SAT_CNT (06_transmit_paths.md). -/
def TXPATH.SAT_CNT (n : Nat) : Loc := ⟨0x050 + n, 0x038, 0, 32, .ro, 0⟩
/-- TXPATH.CFR_PEAK_CNT (06_transmit_paths.md). -/
def TXPATH.CFR_PEAK_CNT (n : Nat) : Loc := ⟨0x050 + n, 0x03C, 0, 32, .ro, 0⟩
/-- TXPATH.TX_CFG (06_transmit_paths.md). -/
def TXPATH.CMPL_MUTE (n : Nat) : Loc := ⟨0x050 + n, 0x040, 16, 1, .rw, 1⟩
def TXPATH.NUMFMT (n : Nat) : Loc := ⟨0x050 + n, 0x040, 8, 1, .rws, 0⟩
def TXPATH.FS_RANGE (n : Nat) : Loc := ⟨0x050 + n, 0x040, 0, 2, .rws, 0⟩
/-- TXPATH.TX_MUTE (06_transmit_paths.md). -/
def TXPATH.KILL_PIN (n : Nat) : Loc := ⟨0x050 + n, 0x044, 16, 1, .ro, 0⟩
def TXPATH.CAUSE_CMPL (n : Nat) : Loc := ⟨0x050 + n, 0x044, 10, 1, .ro, 0⟩
def TXPATH.CAUSE_KILL (n : Nat) : Loc := ⟨0x050 + n, 0x044, 9, 1, .ro, 0⟩
def TXPATH.CAUSE_SW (n : Nat) : Loc := ⟨0x050 + n, 0x044, 8, 1, .ro, 0⟩
def TXPATH.TX_MUTE (n : Nat) : Loc := ⟨0x050 + n, 0x044, 0, 1, .rw, 0⟩
/-- TXPATH.TX_STAT (06_transmit_paths.md). -/
def TXPATH.PATH_STATE (n : Nat) : Loc := ⟨0x050 + n, 0x048, 24, 3, .ro, 0⟩
def TXPATH.DRV (n : Nat) : Loc := ⟨0x050 + n, 0x048, 16, 2, .ro, 0⟩
def TXPATH.RANGE_ACT (n : Nat) : Loc := ⟨0x050 + n, 0x048, 12, 2, .ro, 0⟩
def TXPATH.RANGE_BUSY (n : Nat) : Loc := ⟨0x050 + n, 0x048, 8, 1, .ro, 0⟩
def TXPATH.FIRST_SAMPLE (n : Nat) : Loc := ⟨0x050 + n, 0x048, 0, 1, .ro, 0⟩
/-- TXPATH.CFR_CFG (06_transmit_paths.md). -/
def TXPATH.CFR_EN (n : Nat) : Loc := ⟨0x050 + n, 0x04C, 31, 1, .rws, 0⟩
def TXPATH.CFR_WIN (n : Nat) : Loc := ⟨0x050 + n, 0x04C, 16, 5, .rws, 12⟩
def TXPATH.CFR_PAR (n : Nat) : Loc := ⟨0x050 + n, 0x04C, 0, 8, .rws, 80⟩
/-- TXPATH.TX_FILT (06_transmit_paths.md). -/
def TXPATH.TXF_TRIM (n : Nat) : Loc := ⟨0x050 + n, 0x050, 16, 8, .ro, 0⟩
def TXPATH.TXF_BW (n : Nat) : Loc := ⟨0x050 + n, 0x050, 0, 6, .rws, 40⟩
/-- TXPATH.CELL_MAP_I (06_transmit_paths.md). -/
def TXPATH.CELL_MAP_I (n : Nat) : Loc := ⟨0x050 + n, 0x054, 0, 8, .ro, 0x3F⟩
/-- TXPATH.CELL_MAP_Q (06_transmit_paths.md). -/
def TXPATH.CELL_MAP_Q (n : Nat) : Loc := ⟨0x050 + n, 0x058, 0, 8, .ro, 0x3F⟩
/-- TXPATH.DAC_STAT (06_transmit_paths.md). -/
def TXPATH.CELL_SPARES_Q (n : Nat) : Loc := ⟨0x050 + n, 0x05C, 4, 2, .ro, 0⟩
def TXPATH.CELL_SPARES_I (n : Nat) : Loc := ⟨0x050 + n, 0x05C, 0, 2, .ro, 0⟩
/-- TXPATH.CMPL (06_transmit_paths.md). -/
def TXPATH.CMPL_MIN (n : Nat) : Loc := ⟨0x050 + n, 0x060, 24, 4, .rw, 12⟩
def TXPATH.SHORT (n : Nat) : Loc := ⟨0x050 + n, 0x060, 1, 1, .w1c, 0⟩
def TXPATH.OPEN (n : Nat) : Loc := ⟨0x050 + n, 0x060, 0, 1, .w1c, 0⟩
/-- TXPATH.TXQ_MINFILL (06_transmit_paths.md). -/
def TXPATH.MINFILL (n : Nat) : Loc := ⟨0x050 + n, 0x064, 0, 7, .ro, 64⟩
/-- TXPATH.RETIRE (06_transmit_paths.md). -/
def TXPATH.RETIRE (n : Nat) : Loc := ⟨0x050 + n, 0x068, 0, 1, .rw, 0⟩
/-- TXPATH.DCT_I (06_transmit_paths.md). -/
def TXPATH.DCT_I (n : Nat) : Loc := ⟨0x050 + n, 0x070, 0, 16, .rws, 0⟩
/-- TXPATH.DCT_Q (06_transmit_paths.md). -/
def TXPATH.DCT_Q (n : Nat) : Loc := ⟨0x050 + n, 0x074, 0, 16, .rws, 0⟩
/-- TXPATH.TX_IQ_GAIN (06_transmit_paths.md). -/
def TXPATH.TX_IQ_GAIN (n : Nat) : Loc := ⟨0x050 + n, 0x078, 0, 18, .rws, 0x10000⟩
/-- TXPATH.TX_IQ_X (06_transmit_paths.md). -/
def TXPATH.TX_IQ_X (n : Nat) (i : Nat) : Loc := ⟨0x050 + n, 0x07C + 4 * i, 0, 18, .rws, 0⟩
/-- TXPATH.GD_NOW (06_transmit_paths.md). -/
def TXPATH.GD_NOW (n : Nat) : Loc := ⟨0x050 + n, 0x0B0, 0, 32, .ro, 0xD400⟩
/-- TXPATH.THR (05_receive_filtering.md). -/
def TXPATH.THR_HI (n : Nat) : Loc := ⟨0x050 + n, 0x0C0, 0, 32, .rw, 0xFFFFFFFF⟩
def TXPATH.THR_LO (n : Nat) : Loc := ⟨0x050 + n, 0x0C4, 0, 32, .rw, 0xFFFFFFFF⟩
def TXPATH.THR_EN (n : Nat) : Loc := ⟨0x050 + n, 0x0C8, 31, 1, .rw, 0⟩
def TXPATH.OVL_HI (n : Nat) : Loc := ⟨0x050 + n, 0x0C8, 16, 1, .rw, 1⟩
def TXPATH.THR_HOLD (n : Nat) : Loc := ⟨0x050 + n, 0x0C8, 0, 16, .rw, 1⟩
def TXPATH.THR_STATE (n : Nat) : Loc := ⟨0x050 + n, 0x0CC, 16, 1, .ro, 0⟩
def TXPATH.THR_COUNT (n : Nat) : Loc := ⟨0x050 + n, 0x0CC, 0, 16, .ro, 0⟩
def TXPATH.THR_TB_LO (n : Nat) : Loc := ⟨0x050 + n, 0x0D0, 0, 32, .ro, 0⟩
def TXPATH.THR_TB_HI (n : Nat) : Loc := ⟨0x050 + n, 0x0D4, 0, 32, .ro, 0⟩
/-- TXPATH.CFR_PULSE (06_transmit_paths.md). -/
def TXPATH.CFR_PULSE (n : Nat) (i : Nat) : Loc := ⟨0x050 + n, 0x100 + 4 * i, 0, 16, .rw, pulseDefault i⟩

/-- OCTET.SUPP_CNT (09_radio_timeline.md). -/
def OCTET.SUPP_CNT (n : Nat) : Loc := ⟨0x090 + n, 0x02C, 0, 32, .ro, 0⟩
/-- OCTET.OCT_CFG (09_radio_timeline.md). -/
def OCTET.PAT_EN (n : Nat) : Loc := ⟨0x090 + n, 0x04C, 31, 1, .rws, 0⟩
def OCTET.SPLIT_OFS (n : Nat) : Loc := ⟨0x090 + n, 0x04C, 8, 15, .rws, 0x3C00⟩
def OCTET.OBS_MASK (n : Nat) : Loc := ⟨0x090 + n, 0x04C, 0, 8, .rws, 0⟩
/-- OCTET.TRSW_CFG (09_radio_timeline.md). -/
def OCTET.TRSW_POL (n : Nat) : Loc := ⟨0x090 + n, 0x050, 31, 1, .rws, 0⟩
def OCTET.TRSW_CAL (n : Nat) : Loc := ⟨0x090 + n, 0x050, 30, 1, .rws, 0⟩
def OCTET.TRSW_ADV (n : Nat) : Loc := ⟨0x090 + n, 0x050, 0, 10, .rws, 0⟩
/-- OCTET.RFFE_TX (09_radio_timeline.md). -/
def OCTET.RFFE_TX_SEQ (n : Nat) : Loc := ⟨0x090 + n, 0x054, 16, 4, .rws, 0⟩
def OCTET.RFFE_TX_LEAD (n : Nat) : Loc := ⟨0x090 + n, 0x054, 0, 16, .rws, 1280⟩
/-- OCTET.RFFE_RX (09_radio_timeline.md). -/
def OCTET.RFFE_RX_SEQ (n : Nat) : Loc := ⟨0x090 + n, 0x058, 16, 4, .rws, 0⟩
def OCTET.RFFE_RX_LEAD (n : Nat) : Loc := ⟨0x090 + n, 0x058, 0, 16, .rws, 1280⟩
/-- OCTET.SUPP_STAT (09_radio_timeline.md). -/
def OCTET.SUPP_CAUSE (n : Nat) : Loc := ⟨0x090 + n, 0x05C, 0, 3, .ro, 0⟩
/-- OCTET.SUPP_TB_LO (09_radio_timeline.md). -/
def OCTET.SUPP_TB_LO (n : Nat) : Loc := ⟨0x090 + n, 0x060, 0, 32, .ro, 0⟩
/-- OCTET.SUPP_TB_HI (09_radio_timeline.md). -/
def OCTET.SUPP_TB_HI (n : Nat) : Loc := ⟨0x090 + n, 0x064, 0, 32, .ro, 0⟩
/-- OCTET.OCT_STAT (09_radio_timeline.md). -/
def OCTET.PAT_LOADED (n : Nat) : Loc := ⟨0x090 + n, 0x068, 17, 1, .ro, 0⟩
def OCTET.TRSW_NOW (n : Nat) : Loc := ⟨0x090 + n, 0x068, 16, 1, .ro, 0⟩
def OCTET.SLOT_NOW (n : Nat) : Loc := ⟨0x090 + n, 0x068, 8, 5, .ro, 0⟩
def OCTET.TYPE (n : Nat) (k : Nat) : Loc := ⟨0x090 + n, 0x040 + 4 * (k / 8), 4 * (k % 8), 4, .rws, 0⟩

/-- MONTAP.ENV_DROP_CNT (05_receive_filtering.md). -/
def MONTAP.ENV_DROP_CNT (n : Nat) : Loc := ⟨0x098 + n, 0x02C, 0, 32, .ro, 0⟩
/-- MONTAP.SRC (05_receive_filtering.md). -/
def MONTAP.SRC_KIND (n : Nat) : Loc := ⟨0x098 + n, 0x040, 8, 2, .rws, 0⟩
def MONTAP.SRC_PATH (n : Nat) : Loc := ⟨0x098 + n, 0x040, 0, 6, .rws, 0⟩
/-- MONTAP.DET (05_receive_filtering.md). -/
def MONTAP.ENV_DEST (n : Nat) : Loc := ⟨0x098 + n, 0x044, 28, 2, .rws, 0⟩
def MONTAP.ENV_IDX (n : Nat) : Loc := ⟨0x098 + n, 0x044, 24, 3, .rws, 0⟩
def MONTAP.RMS_K (n : Nat) : Loc := ⟨0x098 + n, 0x044, 16, 5, .rws, 10⟩
def MONTAP.PEAK_P (n : Nat) : Loc := ⟨0x098 + n, 0x044, 8, 5, .rws, 10⟩
def MONTAP.BAND_BW (n : Nat) : Loc := ⟨0x098 + n, 0x044, 0, 3, .rws, 0⟩
/-- MONTAP.NCO (05_receive_filtering.md). -/
def MONTAP.NCO (n : Nat) : Loc := ⟨0x098 + n, 0x048, 0, 32, .rws, 0⟩
/-- MONTAP.PEAK (05_receive_filtering.md). -/
def MONTAP.PEAK (n : Nat) : Loc := ⟨0x098 + n, 0x04C, 0, 32, .ro, 0⟩
/-- MONTAP.PEAK_TB_LO (05_receive_filtering.md). -/
def MONTAP.PEAK_TB_LO (n : Nat) : Loc := ⟨0x098 + n, 0x050, 0, 32, .ro, 0⟩
/-- MONTAP.PEAK_TB_HI (05_receive_filtering.md). -/
def MONTAP.PEAK_TB_HI (n : Nat) : Loc := ⟨0x098 + n, 0x054, 0, 32, .ro, 0⟩
/-- MONTAP.MS (05_receive_filtering.md). -/
def MONTAP.MS (n : Nat) : Loc := ⟨0x098 + n, 0x058, 0, 32, .ro, 0⟩
/-- MONTAP.MS_TB_LO (05_receive_filtering.md). -/
def MONTAP.MS_TB_LO (n : Nat) : Loc := ⟨0x098 + n, 0x05C, 0, 32, .ro, 0⟩
/-- MONTAP.MS_TB_HI (05_receive_filtering.md). -/
def MONTAP.MS_TB_HI (n : Nat) : Loc := ⟨0x098 + n, 0x060, 0, 32, .ro, 0⟩
/-- MONTAP.MS_NVALID (05_receive_filtering.md). -/
def MONTAP.MS_NVALID (n : Nat) : Loc := ⟨0x098 + n, 0x064, 0, 25, .ro, 0⟩
/-- MONTAP.DET_STAT (05_receive_filtering.md). -/
def MONTAP.MS_STALE (n : Nat) : Loc := ⟨0x098 + n, 0x068, 3, 1, .ro, 0⟩
def MONTAP.PEAK_STALE (n : Nat) : Loc := ⟨0x098 + n, 0x068, 2, 1, .ro, 0⟩
def MONTAP.MS_VALID (n : Nat) : Loc := ⟨0x098 + n, 0x068, 1, 1, .ro, 0⟩
def MONTAP.PEAK_VALID (n : Nat) : Loc := ⟨0x098 + n, 0x068, 0, 1, .ro, 0⟩

/-- BEAM.DMG_CNT (07_beamforming.md). -/
def BEAM.DMG_CNT (n : Nat) : Loc := ⟨0x0A0 + n, 0x02C, 0, 32, .ro, 0⟩
/-- BEAM.SAT_CNT (07_beamforming.md). -/
def BEAM.SAT_CNT (n : Nat) : Loc := ⟨0x0A0 + n, 0x030, 0, 32, .ro, 0⟩
/-- BEAM.LIM_CNT (07_beamforming.md). -/
def BEAM.LIM_CNT (n : Nat) : Loc := ⟨0x0A0 + n, 0x034, 0, 32, .ro, 0⟩
/-- BEAM.CFG (07_beamforming.md). -/
def BEAM.RENORM_EN (n : Nat) : Loc := ⟨0x0A0 + n, 0x040, 30, 1, .rws, 1⟩
def BEAM.NUMFMT (n : Nat) : Loc := ⟨0x0A0 + n, 0x040, 28, 1, .rws, 0⟩
def BEAM.SHIFT (n : Nat) : Loc := ⟨0x0A0 + n, 0x040, 24, 3, .rws, 0⟩
def BEAM.NLAYERS (n : Nat) : Loc := ⟨0x0A0 + n, 0x040, 16, 5, .rws, 0⟩
def BEAM.RENORM_MAX (n : Nat) : Loc := ⟨0x0A0 + n, 0x040, 12, 4, .rws, 6⟩
def BEAM.FMT (n : Nat) : Loc := ⟨0x0A0 + n, 0x040, 8, 2, .rws, 0⟩
def BEAM.RATE (n : Nat) : Loc := ⟨0x0A0 + n, 0x040, 4, 2, .rws, 0⟩
def BEAM.MODE (n : Nat) : Loc := ⟨0x0A0 + n, 0x040, 0, 2, .rws, 0⟩
/-- BEAM.SET_SEL (07_beamforming.md). -/
def BEAM.SET_SEL (n : Nat) : Loc := ⟨0x0A0 + n, 0x044, 0, 8, .rws, 0⟩
/-- BEAM.STAT (07_beamforming.md). -/
def BEAM.RENORM_BUSY (n : Nat) : Loc := ⟨0x0A0 + n, 0x050, 17, 1, .ro, 0⟩
def BEAM.EMPTY (n : Nat) : Loc := ⟨0x0A0 + n, 0x050, 16, 1, .ro, 0⟩
def BEAM.BANK_ACT (n : Nat) : Loc := ⟨0x0A0 + n, 0x050, 8, 1, .ro, 0⟩
def BEAM.SET_ACT (n : Nat) : Loc := ⟨0x0A0 + n, 0x050, 0, 8, .ro, 0⟩
/-- BEAM.DMG_INFO (07_beamforming.md). -/
def BEAM.DMG_SET (n : Nat) : Loc := ⟨0x0A0 + n, 0x054, 24, 8, .ro, 0⟩
def BEAM.DMG_BANK (n : Nat) : Loc := ⟨0x0A0 + n, 0x054, 23, 1, .ro, 0⟩
def BEAM.DMG_LAYER (n : Nat) : Loc := ⟨0x0A0 + n, 0x054, 16, 5, .ro, 0⟩
def BEAM.DMG_PATH (n : Nat) : Loc := ⟨0x0A0 + n, 0x054, 0, 6, .ro, 0⟩
/-- BEAM.DMG_TB_LO (07_beamforming.md). -/
def BEAM.DMG_TB_LO (n : Nat) : Loc := ⟨0x0A0 + n, 0x058, 0, 32, .ro, 0⟩
/-- BEAM.DMG_TB_HI (07_beamforming.md). -/
def BEAM.DMG_TB_HI (n : Nat) : Loc := ⟨0x0A0 + n, 0x05C, 0, 32, .ro, 0⟩
/-- BEAM.FILL (07_beamforming.md). -/
def BEAM.FILL_GO (n : Nat) : Loc := ⟨0x0A0 + n, 0x060, 31, 1, .wo, 0⟩
def BEAM.FILL_BUSY (n : Nat) : Loc := ⟨0x0A0 + n, 0x060, 30, 1, .ro, 0⟩
def BEAM.FILL_BLK (n : Nat) : Loc := ⟨0x0A0 + n, 0x060, 0, 9, .rw, 0⟩
/-- BEAM.LAYER (07_beamforming.md). -/
def BEAM.LAYER_ATT (n : Nat) (i : Nat) : Loc := ⟨0x0A0 + n, 0x080 + 4 * i, 16, 7, .ro, 0⟩
def BEAM.GAIN (n : Nat) (i : Nat) : Loc := ⟨0x0A0 + n, 0x080 + 4 * i, 0, 16, .ro, 0x4000⟩
/-- BEAM.PATH (07_beamforming.md). -/
def BEAM.PATH_ATT (n : Nat) (i : Nat) : Loc := ⟨0x0A0 + n, 0x100 + 4 * i, 0, 7, .ro, 0⟩
def BEAM.RAW_VALID (n : Nat) (e : Nat) : Loc := ⟨0x0A0 + n, 0x048 + 4 * (e / 4), 8 * (e % 4) + 7, 1, .rws, 0⟩
def BEAM.RAW_PATH (n : Nat) (e : Nat) : Loc := ⟨0x0A0 + n, 0x048 + 4 * (e / 4), 8 * (e % 4), 6, .rws, 0⟩

/-- BEAMSET.SET (07_beamforming.md). -/
def BEAMSET.SWAP_REQ (n : Nat) (i : Nat) : Loc := ⟨0x0A2 + n, 0x040 + 4 * i, 31, 1, .rw, 0⟩
def BEAMSET.ACT_BANK (n : Nat) (i : Nat) : Loc := ⟨0x0A2 + n, 0x040 + 4 * i, 30, 1, .ro, 0⟩
def BEAMSET.DAMAGED1 (n : Nat) (i : Nat) : Loc := ⟨0x0A2 + n, 0x040 + 4 * i, 29, 1, .ro, 0⟩
def BEAMSET.DAMAGED0 (n : Nat) (i : Nat) : Loc := ⟨0x0A2 + n, 0x040 + 4 * i, 28, 1, .ro, 0⟩
def BEAMSET.BLK1_VALID (n : Nat) (i : Nat) : Loc := ⟨0x0A2 + n, 0x040 + 4 * i, 25, 1, .rl, (if i < 128 then 1 else 0)⟩
def BEAMSET.BLK1 (n : Nat) (i : Nat) : Loc := ⟨0x0A2 + n, 0x040 + 4 * i, 16, 9, .rl, (if i < 128 then 256 * n + 2 * i + 1 else 0)⟩
def BEAMSET.BLK0_VALID (n : Nat) (i : Nat) : Loc := ⟨0x0A2 + n, 0x040 + 4 * i, 9, 1, .rl, (if i < 128 then 1 else 0)⟩
def BEAMSET.BLK0 (n : Nat) (i : Nat) : Loc := ⟨0x0A2 + n, 0x040 + 4 * i, 0, 9, .rl, (if i < 128 then 256 * n + 2 * i else 0)⟩

/-- DPD0.UPD_CNT (08_linearisation.md). -/
def DPD0.UPD_CNT : Loc := ⟨0x0A4, 0x02C, 0, 32, .ro, 0⟩
/-- DPD0.RESTORE_CNT (08_linearisation.md). -/
def DPD0.RESTORE_CNT : Loc := ⟨0x0A4, 0x030, 0, 32, .ro, 0⟩
/-- DPD0.CHKFAIL_CNT (08_linearisation.md). -/
def DPD0.CHKFAIL_CNT : Loc := ⟨0x0A4, 0x034, 0, 32, .ro, 0⟩
/-- DPD0.LAP_CNT (08_linearisation.md). -/
def DPD0.LAP_CNT : Loc := ⟨0x0A4, 0x038, 0, 32, .ro, 0⟩
/-- DPD0.ADAPT (08_linearisation.md). -/
def DPD0.ADAPT_EN : Loc := ⟨0x0A4, 0x040, 31, 1, .rw, 0⟩
def DPD0.STRUCT_OK : Loc := ⟨0x0A4, 0x040, 30, 1, .rw, 0⟩
def DPD0.CORE_MASK : Loc := ⟨0x0A4, 0x040, 16, 8, .rw, 0x0F⟩
def DPD0.CAP_PORT_OBS : Loc := ⟨0x0A4, 0x040, 12, 3, .rw, 7⟩
def DPD0.CAP_PORT_REF : Loc := ⟨0x0A4, 0x040, 8, 3, .rw, 6⟩
def DPD0.CAP_LEN : Loc := ⟨0x0A4, 0x040, 0, 3, .rw, 2⟩
/-- DPD0.GUARD (08_linearisation.md). -/
def DPD0.GUARD_EN : Loc := ⟨0x0A4, 0x044, 31, 1, .rw, 1⟩
def DPD0.GUARD_TAP_A : Loc := ⟨0x0A4, 0x044, 24, 3, .rw, 7⟩
def DPD0.GUARD_TAP_C : Loc := ⟨0x0A4, 0x044, 20, 3, .rw, 6⟩
def DPD0.GUARD_N : Loc := ⟨0x0A4, 0x044, 16, 4, .rw, 4⟩
def DPD0.GUARD_TO : Loc := ⟨0x0A4, 0x044, 8, 8, .rw, 32⟩
def DPD0.GUARD_MARGIN : Loc := ⟨0x0A4, 0x044, 0, 8, .rw, 10⟩
/-- DPD0.STEP (08_linearisation.md). -/
def DPD0.MU : Loc := ⟨0x0A4, 0x048, 16, 8, .rw, 128⟩
def DPD0.STEP_MAX : Loc := ⟨0x0A4, 0x048, 0, 16, .rw, 0x0400⟩
/-- DPD0.LAP_MASK_LO (08_linearisation.md). -/
def DPD0.LAP_MASK_LO : Loc := ⟨0x0A4, 0x04C, 0, 32, .rw, 0xFFFFFFFF⟩
/-- DPD0.LAP_MASK_HI (08_linearisation.md). -/
def DPD0.LAP_MASK_HI : Loc := ⟨0x0A4, 0x050, 0, 32, .rw, 0xFFFFFFFF⟩
/-- DPD0.LAP_STAT (08_linearisation.md). -/
def DPD0.LAP_TIME : Loc := ⟨0x0A4, 0x054, 16, 16, .ro, 0⟩
def DPD0.NEXT_PATH : Loc := ⟨0x0A4, 0x054, 0, 6, .ro, 0⟩

/-- DPD1.PATH (08_linearisation.md). -/
def DPD1.FROZEN (i : Nat) : Loc := ⟨0x0A5, 0x040 + 4 * i, 31, 1, .rw, 0⟩
def DPD1.UPD_REQ (i : Nat) : Loc := ⟨0x0A5, 0x040 + 4 * i, 30, 1, .wo, 0⟩
def DPD1.MODEL_STALE (i : Nat) : Loc := ⟨0x0A5, 0x040 + 4 * i, 29, 1, .ro, 0⟩
def DPD1.PHASE (i : Nat) : Loc := ⟨0x0A5, 0x040 + 4 * i, 24, 2, .ro, 0⟩
def DPD1.LAST_RESULT (i : Nat) : Loc := ⟨0x0A5, 0x040 + 4 * i, 20, 4, .ro, 0⟩
def DPD1.ACT_BANK (i : Nat) : Loc := ⟨0x0A5, 0x040 + 4 * i, 16, 1, .ro, 0⟩
def DPD1.DPD_EN_ACT (i : Nat) : Loc := ⟨0x0A5, 0x040 + 4 * i, 8, 1, .ro, 0⟩
def DPD1.DPD_EN (i : Nat) : Loc := ⟨0x0A5, 0x040 + 4 * i, 0, 1, .rws, 0⟩

/-- DPD2.JOB (08_linearisation.md). -/
def DPD2.VALID (i : Nat) : Loc := ⟨0x0A6, 0x040 + 32 * i, 31, 1, .ro, 0⟩
def DPD2.JOB_RELEASE (i : Nat) : Loc := ⟨0x0A6, 0x040 + 32 * i, 30, 1, .wo, 0⟩
def DPD2.BANK (i : Nat) : Loc := ⟨0x0A6, 0x040 + 32 * i, 8, 1, .ro, 0⟩
def DPD2.PATH (i : Nat) : Loc := ⟨0x0A6, 0x040 + 32 * i, 0, 6, .ro, 0⟩
/-- DPD2.REF_ADDR (08_linearisation.md). -/
def DPD2.REF_ADDR (i : Nat) : Loc := ⟨0x0A6, 0x044 + 32 * i, 0, 32, .ro, 0⟩
/-- DPD2.OBS_ADDR (08_linearisation.md). -/
def DPD2.OBS_ADDR (i : Nat) : Loc := ⟨0x0A6, 0x048 + 32 * i, 0, 32, .ro, 0⟩
/-- DPD2.REF_TB_LO (08_linearisation.md). -/
def DPD2.REF_TB_LO (i : Nat) : Loc := ⟨0x0A6, 0x04C + 32 * i, 0, 32, .ro, 0⟩
/-- DPD2.REF_TB_HI (08_linearisation.md). -/
def DPD2.REF_TB_HI (i : Nat) : Loc := ⟨0x0A6, 0x050 + 32 * i, 0, 32, .ro, 0⟩
/-- DPD2.LAG (08_linearisation.md). -/
def DPD2.LAG_NOM (i : Nat) : Loc := ⟨0x0A6, 0x054 + 32 * i, 0, 9, .ro, 0⟩

/-- DPD3.PATH (08_linearisation.md). -/
def DPD3.ACLR_AFTER (i : Nat) : Loc := ⟨0x0A7, 0x040 + 4 * i, 24, 8, .ro, 0⟩
def DPD3.ACLR_BEFORE (i : Nat) : Loc := ⟨0x0A7, 0x040 + 4 * i, 16, 8, .ro, 0⟩
def DPD3.OBS_BOARD_DLY (i : Nat) : Loc := ⟨0x0A7, 0x040 + 4 * i, 0, 8, .rw, 0⟩

/-- TIMELINE0.DROP_CNT (09_radio_timeline.md). -/
def TIMELINE0.DROP_CNT : Loc := ⟨0x0A8, 0x02C, 0, 32, .ro, 0⟩
/-- TIMELINE0.EPOCH_LO (09_radio_timeline.md). -/
def TIMELINE0.EPOCH_LO : Loc := ⟨0x0A8, 0x040, 4, 28, .rw, 0⟩
/-- TIMELINE0.EPOCH_HI (09_radio_timeline.md). -/
def TIMELINE0.EPOCH_HI : Loc := ⟨0x0A8, 0x044, 0, 32, .rw, 0⟩
/-- TIMELINE0.ENQ_TB_LO (09_radio_timeline.md). -/
def TIMELINE0.ENQ_TB_LO : Loc := ⟨0x0A8, 0x048, 4, 28, .rw, 0⟩
/-- TIMELINE0.ENQ_TB_HI (09_radio_timeline.md). -/
def TIMELINE0.ENQ_TB_HI : Loc := ⟨0x0A8, 0x04C, 0, 32, .rw, 0⟩
/-- TIMELINE0.ENQ_ARG (09_radio_timeline.md). -/
def TIMELINE0.ENQ_ARG : Loc := ⟨0x0A8, 0x050, 0, 32, .rw, 0⟩
/-- TIMELINE0.ENQ_ACT (09_radio_timeline.md). -/
def TIMELINE0.ENQ_CODE : Loc := ⟨0x0A8, 0x054, 28, 4, .wo, 0⟩
def TIMELINE0.ENQ_STATE : Loc := ⟨0x0A8, 0x054, 25, 3, .wo, 0⟩
def TIMELINE0.ENQ_RET : Loc := ⟨0x0A8, 0x054, 22, 3, .wo, 0⟩
def TIMELINE0.ENQ_RANGE : Loc := ⟨0x0A8, 0x054, 20, 2, .wo, 0⟩
def TIMELINE0.ENQ_PATH_MASK : Loc := ⟨0x0A8, 0x054, 8, 8, .wo, 0⟩
def TIMELINE0.ENQ_OCT_MASK : Loc := ⟨0x0A8, 0x054, 0, 8, .wo, 0⟩
/-- TIMELINE0.LAST_DROP (09_radio_timeline.md). -/
def TIMELINE0.DROP_REASON : Loc := ⟨0x0A8, 0x058, 24, 3, .ro, 0⟩
def TIMELINE0.DROP_OCTET : Loc := ⟨0x0A8, 0x058, 16, 3, .ro, 0⟩
def TIMELINE0.LAST_DROP_CODE : Loc := ⟨0x0A8, 0x058, 0, 4, .ro, 0⟩
/-- TIMELINE0.LAST_DROP_TB_LO (09_radio_timeline.md). -/
def TIMELINE0.LAST_DROP_TB_LO : Loc := ⟨0x0A8, 0x05C, 0, 32, .ro, 0⟩
/-- TIMELINE0.LAST_DROP_TB_HI (09_radio_timeline.md). -/
def TIMELINE0.LAST_DROP_TB_HI : Loc := ⟨0x0A8, 0x060, 0, 32, .ro, 0⟩
/-- TIMELINE0.SLEEP_CFG (09_radio_timeline.md). -/
def TIMELINE0.AUTO_EN : Loc := ⟨0x0A8, 0x064, 31, 1, .rw, 0⟩
def TIMELINE0.DEEP_EN : Loc := ⟨0x0A8, 0x064, 30, 1, .rw, 0⟩
def TIMELINE0.EVT_WAKE : Loc := ⟨0x0A8, 0x064, 29, 1, .rw, 1⟩
def TIMELINE0.DEEP_MIN : Loc := ⟨0x0A8, 0x064, 8, 8, .rw, 16⟩
def TIMELINE0.SLEEP_MIN : Loc := ⟨0x0A8, 0x064, 0, 8, .rw, 16⟩
/-- TIMELINE0.SLEEP_STAT (09_radio_timeline.md). -/
def TIMELINE0.DS_STATE : Loc := ⟨0x0A8, 0x068, 4, 2, .ro, 0⟩
def TIMELINE0.US_STATE : Loc := ⟨0x0A8, 0x068, 0, 2, .ro, 0⟩

/-- TIMELINE1.QCTL (09_radio_timeline.md). -/
def TIMELINE1.FILL (i : Nat) : Loc := ⟨0x0A9, 0x040 + 16 * i, 16, 11, .ro, 0⟩
def TIMELINE1.FLUSH (i : Nat) : Loc := ⟨0x0A9, 0x040 + 16 * i, 0, 1, .wo, 0⟩
/-- TIMELINE1.NEXT_TB_LO (09_radio_timeline.md). -/
def TIMELINE1.NEXT_TB_LO (i : Nat) : Loc := ⟨0x0A9, 0x044 + 16 * i, 0, 32, .ro, 0xFFFFFFFF⟩
/-- TIMELINE1.NEXT_TB_HI (09_radio_timeline.md). -/
def TIMELINE1.NEXT_TB_HI (i : Nat) : Loc := ⟨0x0A9, 0x048 + 16 * i, 0, 32, .ro, 0xFFFFFFFF⟩
/-- TIMELINE1.DROP_CNT (09_radio_timeline.md). -/
def TIMELINE1.DROP_CNT (i : Nat) : Loc := ⟨0x0A9, 0x04C + 16 * i, 0, 32, .ro, 0⟩

/-- TIMELINE2.RFFE_CFG (09_radio_timeline.md). -/
def TIMELINE2.BUS_EN (i : Nat) : Loc := ⟨0x0AA, 0x040 + 4 * i, 31, 1, .rw, 0⟩
def TIMELINE2.BUSY (i : Nat) : Loc := ⟨0x0AA, 0x040 + 4 * i, 16, 1, .ro, 0⟩
def TIMELINE2.DIV (i : Nat) : Loc := ⟨0x0AA, 0x040 + 4 * i, 0, 2, .rw, 1⟩
/-- TIMELINE2.READ_DATA (09_radio_timeline.md). -/
def TIMELINE2.RD_VALID (i : Nat) : Loc := ⟨0x0AA, 0x050 + 4 * i, 31, 1, .ro, 0⟩
def TIMELINE2.RD_PERR (i : Nat) : Loc := ⟨0x0AA, 0x050 + 4 * i, 30, 1, .ro, 0⟩
def TIMELINE2.RD_USID (i : Nat) : Loc := ⟨0x0AA, 0x050 + 4 * i, 24, 4, .ro, 0⟩
def TIMELINE2.RD_ADDR (i : Nat) : Loc := ⟨0x0AA, 0x050 + 4 * i, 8, 5, .ro, 0⟩
def TIMELINE2.RD_DATA (i : Nat) : Loc := ⟨0x0AA, 0x050 + 4 * i, 0, 8, .ro, 0⟩
/-- TIMELINE2.SEQ (09_radio_timeline.md). -/
def TIMELINE2.START (i : Nat) : Loc := ⟨0x0AA, 0x080 + 4 * i, 16, 8, .rw, 0⟩
def TIMELINE2.LEN (i : Nat) : Loc := ⟨0x0AA, 0x080 + 4 * i, 0, 6, .rw, 0⟩

/-- TIMELINE3.CMD (09_radio_timeline.md). -/
def TIMELINE3.BUS (i : Nat) : Loc := ⟨0x0AB, 0x400 + 4 * i, 30, 2, .rw, 0⟩
def TIMELINE3.TYPE (i : Nat) : Loc := ⟨0x0AB, 0x400 + 4 * i, 28, 2, .rw, 0⟩
def TIMELINE3.USID (i : Nat) : Loc := ⟨0x0AB, 0x400 + 4 * i, 24, 4, .rw, 0⟩
def TIMELINE3.ADDR (i : Nat) : Loc := ⟨0x0AB, 0x400 + 4 * i, 16, 8, .rw, 0⟩
def TIMELINE3.DATA (i : Nat) : Loc := ⟨0x0AB, 0x400 + 4 * i, 0, 8, .rw, 0⟩

/-- CAL0.FAIL_CNT (10_calibration.md). -/
def CAL0.FAIL_CNT : Loc := ⟨0x0AC, 0x02C, 0, 32, .ro, 0⟩
/-- CAL0.DISCARD_CNT (10_calibration.md). -/
def CAL0.DISCARD_CNT : Loc := ⟨0x0AC, 0x030, 0, 32, .ro, 0⟩
/-- CAL0.TXQ_UFL_CNT (10_calibration.md). -/
def CAL0.TXQ_UFL_CNT : Loc := ⟨0x0AC, 0x034, 0, 32, .ro, 0⟩
/-- CAL0.CMPL_CNT (10_calibration.md). -/
def CAL0.CMPL_CNT : Loc := ⟨0x0AC, 0x038, 0, 32, .ro, 0⟩
/-- CAL0.CTRL (10_calibration.md). -/
def CAL0.BG_EN : Loc := ⟨0x0AC, 0x040, 31, 1, .rw, 0⟩
def CAL0.ARR_AUTO_TX : Loc := ⟨0x0AC, 0x040, 30, 1, .rw, 1⟩
def CAL0.ARR_AUTO_RX : Loc := ⟨0x0AC, 0x040, 29, 1, .rw, 1⟩
def CAL0.LOPH_AUTO : Loc := ⟨0x0AC, 0x040, 28, 1, .rw, 1⟩
def CAL0.WD_MAX : Loc := ⟨0x0AC, 0x040, 20, 4, .rw, 1⟩
def CAL0.AVG : Loc := ⟨0x0AC, 0x040, 8, 8, .rw, 16⟩
/-- CAL0.FG_CMD (10_calibration.md). -/
def CAL0.FG_GO : Loc := ⟨0x0AC, 0x044, 31, 1, .wo, 0⟩
def CAL0.FG_ABORT : Loc := ⟨0x0AC, 0x044, 30, 1, .wo, 0⟩
def CAL0.FG_BUSY : Loc := ⟨0x0AC, 0x044, 29, 1, .ro, 0⟩
def CAL0.KIND_MASK : Loc := ⟨0x0AC, 0x044, 0, 12, .rw, 0x0FFF⟩
/-- CAL0.FG_PATH_LO (10_calibration.md). -/
def CAL0.FG_PATH_LO : Loc := ⟨0x0AC, 0x048, 0, 32, .rw, 0⟩
/-- CAL0.FG_PATH_HI (10_calibration.md). -/
def CAL0.FG_PATH_HI : Loc := ⟨0x0AC, 0x04C, 0, 32, .rw, 0⟩
/-- CAL0.SLEW (10_calibration.md). -/
def CAL0.SLEW_PH : Loc := ⟨0x0AC, 0x050, 24, 8, .rw, 10⟩
def CAL0.SLEW_GAIN : Loc := ⟨0x0AC, 0x050, 16, 8, .rw, 20⟩
def CAL0.SLEW_DLY : Loc := ⟨0x0AC, 0x050, 12, 4, .rw, 1⟩
def CAL0.IQ_K : Loc := ⟨0x0AC, 0x050, 5, 5, .rw, 16⟩
def CAL0.DC_K : Loc := ⟨0x0AC, 0x050, 0, 5, .rw, 12⟩
/-- CAL0.ARRAY (10_calibration.md). -/
def CAL0.ROLE : Loc := ⟨0x0AC, 0x054, 30, 2, .rw, 0⟩
def CAL0.CHIPS : Loc := ⟨0x0AC, 0x054, 28, 2, .rw, 0⟩
def CAL0.CHIP_IDX : Loc := ⟨0x0AC, 0x054, 26, 2, .rw, 0⟩
def CAL0.REF_PATH : Loc := ⟨0x0AC, 0x054, 16, 6, .rw, 0⟩
def CAL0.CODE_REL : Loc := ⟨0x0AC, 0x054, 8, 8, .rw, 30⟩
def CAL0.CALTX_ATT : Loc := ⟨0x0AC, 0x054, 0, 8, .rw, 40⟩
/-- CAL0.CALPATH (10_calibration.md). -/
def CAL0.LO_SEL : Loc := ⟨0x0AC, 0x058, 24, 1, .rw, 0⟩
def CAL0.CALRX_GAIN : Loc := ⟨0x0AC, 0x058, 16, 6, .rw, 30⟩
/-- CAL0.CALTX_MUTE (10_calibration.md). -/
def CAL0.KILL_PIN : Loc := ⟨0x0AC, 0x05C, 16, 1, .ro, 0⟩
def CAL0.CAUSE_CMPL : Loc := ⟨0x0AC, 0x05C, 10, 1, .ro, 0⟩
def CAL0.CAUSE_KILL : Loc := ⟨0x0AC, 0x05C, 9, 1, .ro, 0⟩
def CAL0.CAUSE_SW : Loc := ⟨0x0AC, 0x05C, 8, 1, .ro, 0⟩
def CAL0.TX_MUTE : Loc := ⟨0x0AC, 0x05C, 0, 1, .rw, 0⟩
/-- CAL0.REF_STAT (10_calibration.md). -/
def CAL0.REF_OK : Loc := ⟨0x0AC, 0x060, 31, 1, .ro, 0⟩
def CAL0.REF_DEV : Loc := ⟨0x0AC, 0x060, 0, 16, .ro, 0⟩
/-- CAL0.LAST_FAIL (10_calibration.md). -/
def CAL0.FAIL_REASON : Loc := ⟨0x0AC, 0x064, 20, 4, .ro, 0⟩
def CAL0.FAIL_KIND : Loc := ⟨0x0AC, 0x064, 16, 4, .ro, 0⟩
def CAL0.FAIL_CALPATH : Loc := ⟨0x0AC, 0x064, 7, 1, .ro, 0⟩
def CAL0.FAIL_PATH : Loc := ⟨0x0AC, 0x064, 0, 6, .ro, 0⟩
/-- CAL0.KIND (10_calibration.md). -/
def CAL0.INTERVAL (i : Nat) : Loc := ⟨0x0AC, 0x080 + 4 * i, 12, 20, .rw, ([60, 300, 86400, 3600, 60, 300, 86400, 3600, 0, 0, 10, 10].getD i 0)⟩
def CAL0.DT_TRIG (i : Nat) : Loc := ⟨0x0AC, 0x080 + 4 * i, 0, 8, .rw, ([20, 30, 80, 40, 20, 30, 80, 40, 0, 0, 4, 4].getD i 0)⟩
/-- CAL0.OCT_PHASE (10_calibration.md). -/
def CAL0.OCT_PHASE (i : Nat) : Loc := ⟨0x0AC, 0x0C0 + 4 * i, 0, 16, .ro, 0⟩

/-- CALT.TGT_G (10_calibration.md). -/
def CALT.TGT_RE (n : Nat) (i : Nat) : Loc := ⟨0x0AD + n, 0x040 + 8 * i, 16, 16, .rws, 0x4000⟩
def CALT.TGT_IM (n : Nat) (i : Nat) : Loc := ⟨0x0AD + n, 0x040 + 8 * i, 0, 16, .rws, 0⟩
/-- CALT.TGT_D (10_calibration.md). -/
def CALT.TGT_DLY (n : Nat) (i : Nat) : Loc := ⟨0x0AD + n, 0x044 + 8 * i, 0, 18, .rws, 0⟩
/-- CALT.NOW_G (10_calibration.md). -/
def CALT.NOW_RE (n : Nat) (i : Nat) : Loc := ⟨0x0AD + n, 0x400 + 8 * i, 16, 16, .ro, 0x4000⟩
def CALT.NOW_IM (n : Nat) (i : Nat) : Loc := ⟨0x0AD + n, 0x400 + 8 * i, 0, 16, .ro, 0⟩
/-- CALT.NOW_D (10_calibration.md). -/
def CALT.NOW_DLY (n : Nat) (i : Nat) : Loc := ⟨0x0AD + n, 0x404 + 8 * i, 0, 18, .ro, 0⟩

/-- CAL3.STAT_TX (10_calibration.md). -/
def CAL3.STAT_TX_VALID (i : Nat) : Loc := ⟨0x0AF, 0x040 + 8 * i, 31, 1, .ro, 0⟩
def CAL3.STAT_TX_WITHDRAWN (i : Nat) : Loc := ⟨0x0AF, 0x040 + 8 * i, 30, 1, .ro, 0⟩
def CAL3.STAT_TX_DUE (i : Nat) : Loc := ⟨0x0AF, 0x040 + 8 * i, 29, 1, .ro, 0⟩
def CAL3.STAT_TX_TEMP_CAL (i : Nat) : Loc := ⟨0x0AF, 0x040 + 8 * i, 16, 8, .ro, 0⟩
def CAL3.STAT_TX_AGE (i : Nat) : Loc := ⟨0x0AF, 0x040 + 8 * i, 0, 16, .ro, 0xFFFF⟩
/-- CAL3.STAT_RX (10_calibration.md). -/
def CAL3.STAT_RX_VALID (i : Nat) : Loc := ⟨0x0AF, 0x044 + 8 * i, 31, 1, .ro, 0⟩
def CAL3.STAT_RX_WITHDRAWN (i : Nat) : Loc := ⟨0x0AF, 0x044 + 8 * i, 30, 1, .ro, 0⟩
def CAL3.STAT_RX_DUE (i : Nat) : Loc := ⟨0x0AF, 0x044 + 8 * i, 29, 1, .ro, 0⟩
def CAL3.STAT_RX_TEMP_CAL (i : Nat) : Loc := ⟨0x0AF, 0x044 + 8 * i, 16, 8, .ro, 0⟩
def CAL3.STAT_RX_AGE (i : Nat) : Loc := ⟨0x0AF, 0x044 + 8 * i, 0, 16, .ro, 0xFFFF⟩
/-- CAL3.RES_TX_G (10_calibration.md). -/
def CAL3.RES_TX_G (i : Nat) : Loc := ⟨0x0AF, 0x400 + 16 * i, 0, 32, .ro, 0⟩
/-- CAL3.RES_TX_D (10_calibration.md). -/
def CAL3.RES_TX_D (i : Nat) : Loc := ⟨0x0AF, 0x404 + 16 * i, 0, 32, .ro, 0⟩
/-- CAL3.RES_RX_G (10_calibration.md). -/
def CAL3.RES_RX_G (i : Nat) : Loc := ⟨0x0AF, 0x408 + 16 * i, 0, 32, .ro, 0⟩
/-- CAL3.RES_RX_D (10_calibration.md). -/
def CAL3.RES_RX_D (i : Nat) : Loc := ⟨0x0AF, 0x40C + 16 * i, 0, 32, .ro, 0⟩

/-- LINK.US_UFL_CNT (11_link_lanes.md). -/
def LINK.US_UFL_CNT : Loc := ⟨0x0B0, 0x02C, 0, 32, .ro, 0⟩
/-- LINK.WAKE_FAIL_CNT (11_link_lanes.md). -/
def LINK.WAKE_FAIL_CNT : Loc := ⟨0x0B0, 0x030, 0, 32, .ro, 0⟩
/-- LINK.CFG (11_link_lanes.md). -/
def LINK.EYE_MIN : Loc := ⟨0x0B0, 0x040, 16, 8, .rw, 24⟩
def LINK.LOOP : Loc := ⟨0x0B0, 0x040, 8, 1, .rw, 0⟩
def LINK.US_FORCE : Loc := ⟨0x0B0, 0x040, 4, 2, .rw, 0⟩
def LINK.DS_FORCE : Loc := ⟨0x0B0, 0x040, 0, 2, .rw, 0⟩
/-- LINK.STAT (11_link_lanes.md). -/
def LINK.DS_BLOCK_LOCK : Loc := ⟨0x0B0, 0x044, 16, 16, .ro, 0⟩
def LINK.US_PWR : Loc := ⟨0x0B0, 0x044, 4, 2, .ro, 0⟩
def LINK.DS_PWR : Loc := ⟨0x0B0, 0x044, 0, 2, .ro, 0⟩

/-- ERL0.CRC_ERR_CNT (12_link_protocol.md). -/
def ERL0.CRC_ERR_CNT : Loc := ⟨0x0B1, 0x02C, 0, 32, .ro, 0⟩
/-- ERL0.MALF_CNT (12_link_protocol.md). -/
def ERL0.MALF_CNT : Loc := ⟨0x0B1, 0x030, 0, 32, .ro, 0⟩
/-- ERL0.SEQ_GAP_CNT (12_link_protocol.md). -/
def ERL0.SEQ_GAP_CNT : Loc := ⟨0x0B1, 0x034, 0, 32, .ro, 0⟩
/-- ERL0.AUTH_FAIL_CNT (12_link_protocol.md). -/
def ERL0.AUTH_FAIL_CNT : Loc := ⟨0x0B1, 0x038, 0, 32, .ro, 0⟩
/-- ERL0.LINK_DOWN_CNT (12_link_protocol.md). -/
def ERL0.LINK_DOWN_CNT : Loc := ⟨0x0B1, 0x03C, 0, 32, .ro, 0⟩
/-- ERL0.CFG (12_link_protocol.md). -/
def ERL0.SECURED : Loc := ⟨0x0B1, 0x040, 31, 1, .rl, 0⟩
def ERL0.DOWN_M3 : Loc := ⟨0x0B1, 0x040, 30, 1, .rw, 1⟩
def ERL0.DOWN_TO : Loc := ⟨0x0B1, 0x040, 16, 8, .rw, 100⟩
def ERL0.LANES_US : Loc := ⟨0x0B1, 0x040, 8, 3, .rw, 4⟩
def ERL0.LANES_DS : Loc := ⟨0x0B1, 0x040, 0, 3, .rw, 4⟩
/-- ERL0.LAT (12_link_protocol.md). -/
def ERL0.LAT_UL : Loc := ⟨0x0B1, 0x044, 16, 16, .rw, 256⟩
def ERL0.LAT_DL : Loc := ⟨0x0B1, 0x044, 0, 16, .rw, 256⟩
/-- ERL0.STAT (12_link_protocol.md). -/
def ERL0.LINK_UP : Loc := ⟨0x0B1, 0x048, 31, 1, .ro, 0⟩
def ERL0.FRAME_ALIGNED : Loc := ⟨0x0B1, 0x048, 30, 1, .ro, 0⟩
def ERL0.DOWN_CAUSE : Loc := ⟨0x0B1, 0x048, 8, 8, .ro, 0⟩
def ERL0.MGT_PEND : Loc := ⟨0x0B1, 0x048, 0, 4, .ro, 0⟩
/-- ERL0.DS_ARR (12_link_protocol.md). -/
def ERL0.DS_ARR : Loc := ⟨0x0B1, 0x04C, 0, 32, .ro, 0⟩

/-- ERL1.DL_MISS_CNT (12_link_protocol.md). -/
def ERL1.DL_MISS_CNT : Loc := ⟨0x0B2, 0x040, 0, 32, .ro, 0⟩
/-- ERL1.DL_LATE_CNT (12_link_protocol.md). -/
def ERL1.DL_LATE_CNT : Loc := ⟨0x0B2, 0x044, 0, 32, .ro, 0⟩
/-- ERL1.DL_EARLY_CNT (12_link_protocol.md). -/
def ERL1.DL_EARLY_CNT : Loc := ⟨0x0B2, 0x048, 0, 32, .ro, 0⟩
/-- ERL1.DL_BAD_CNT (12_link_protocol.md). -/
def ERL1.DL_BAD_CNT : Loc := ⟨0x0B2, 0x04C, 0, 32, .ro, 0⟩
/-- ERL1.REPLAY_CNT (12_link_protocol.md). -/
def ERL1.REPLAY_CNT : Loc := ⟨0x0B2, 0x050, 0, 32, .ro, 0⟩
/-- ERL1.UNAUTH_CNT (12_link_protocol.md). -/
def ERL1.UNAUTH_CNT : Loc := ⟨0x0B2, 0x054, 0, 32, .ro, 0⟩
/-- ERL1.MGT_OVF_CNT (12_link_protocol.md). -/
def ERL1.MGT_OVF_CNT : Loc := ⟨0x0B2, 0x058, 0, 32, .ro, 0⟩
/-- ERL1.CTL_OVF_CNT (12_link_protocol.md). -/
def ERL1.CTL_OVF_CNT : Loc := ⟨0x0B2, 0x05C, 0, 32, .ro, 0⟩
/-- ERL1.EVT_LOST_CNT (12_link_protocol.md). -/
def ERL1.EVT_LOST_CNT : Loc := ⟨0x0B2, 0x060, 0, 32, .ro, 0⟩

/-- ERL2.TIM_CFG (12_link_protocol.md). -/
def ERL2.TOL : Loc := ⟨0x0B3, 0x040, 16, 16, .rw, 512⟩
def ERL2.AVG_K : Loc := ⟨0x0B3, 0x040, 0, 4, .rw, 4⟩
/-- ERL2.ASYM (12_link_protocol.md). -/
def ERL2.ASYM : Loc := ⟨0x0B3, 0x044, 0, 32, .rw, 0⟩
/-- ERL2.OFFSET (12_link_protocol.md). -/
def ERL2.OFFSET : Loc := ⟨0x0B3, 0x048, 0, 32, .ro, 0⟩
/-- ERL2.DELAY (12_link_protocol.md). -/
def ERL2.DELAY : Loc := ⟨0x0B3, 0x04C, 0, 32, .ro, 0⟩
/-- ERL2.EXCH_CNT (12_link_protocol.md). -/
def ERL2.ACCEPTED : Loc := ⟨0x0B3, 0x050, 16, 16, .ro, 0⟩
def ERL2.REJECTED : Loc := ⟨0x0B3, 0x050, 0, 16, .ro, 0⟩

/-- CK.CFG (11_link_lanes.md). -/
def CK.POL_INV (n : Nat) : Loc := ⟨0x0B4 + n, 0x040, 8, 1, .rw, 0⟩
def CK.SWING (n : Nat) : Loc := ⟨0x0B4 + n, 0x040, 0, 4, .rw, 8⟩
/-- CK.STAT (11_link_lanes.md). -/
def CK.FREQ_DEV (n : Nat) : Loc := ⟨0x0B4 + n, 0x044, 16, 16, .ro, 0⟩
def CK.CROSS_FILL (n : Nat) : Loc := ⟨0x0B4 + n, 0x044, 8, 5, .ro, 8⟩
def CK.CLK_PRESENT (n : Nat) : Loc := ⟨0x0B4 + n, 0x044, 0, 1, .ro, 0⟩

/-- DS.ERR_CNT_LO (11_link_lanes.md). -/
def DS.ERR_CNT_LO (n : Nat) : Loc := ⟨0x0B8 + n, 0x02C, 0, 32, .ro, 0⟩
/-- DS.ERR_CNT_HI (11_link_lanes.md). -/
def DS.ERR_CNT_HI (n : Nat) : Loc := ⟨0x0B8 + n, 0x030, 0, 32, .ro, 0⟩
/-- DS.BIT_CNT_LO (11_link_lanes.md). -/
def DS.BIT_CNT_LO (n : Nat) : Loc := ⟨0x0B8 + n, 0x034, 0, 32, .ro, 0⟩
/-- DS.BIT_CNT_HI (11_link_lanes.md). -/
def DS.BIT_CNT_HI (n : Nat) : Loc := ⟨0x0B8 + n, 0x038, 0, 32, .ro, 0⟩
/-- DS.HDR_ERR_CNT (11_link_lanes.md). -/
def DS.HDR_ERR_CNT (n : Nat) : Loc := ⟨0x0B8 + n, 0x03C, 0, 32, .ro, 0⟩
/-- DS.RX_CFG (11_link_lanes.md). -/
def DS.TRACK_EN (n : Nat) : Loc := ⟨0x0B8 + n, 0x040, 31, 1, .rw, 0⟩
def DS.POL_INV (n : Nat) : Loc := ⟨0x0B8 + n, 0x040, 30, 1, .rw, 0⟩
def DS.CTLE_PEAK (n : Nat) : Loc := ⟨0x0B8 + n, 0x040, 16, 4, .rw, 9⟩
def DS.DESKEW (n : Nat) : Loc := ⟨0x0B8 + n, 0x040, 0, 7, .rw, 64⟩
/-- DS.ALIGN (11_link_lanes.md). -/
def DS.BITSLIP (n : Nat) : Loc := ⟨0x0B8 + n, 0x044, 31, 1, .wo, 0⟩
def DS.BIT_POS (n : Nat) : Loc := ⟨0x0B8 + n, 0x044, 16, 7, .ro, 0⟩
def DS.WORD_SKEW (n : Nat) : Loc := ⟨0x0B8 + n, 0x044, 8, 4, .ro, 0⟩
def DS.BLOCK_LOCK (n : Nat) : Loc := ⟨0x0B8 + n, 0x044, 0, 1, .ro, 0⟩
/-- DS.EYE (11_link_lanes.md). -/
def DS.EYE_LEFT (n : Nat) : Loc := ⟨0x0B8 + n, 0x048, 24, 8, .ro, 0⟩
def DS.EYE_RIGHT (n : Nat) : Loc := ⟨0x0B8 + n, 0x048, 16, 8, .ro, 0⟩
def DS.EYE_MARGIN (n : Nat) : Loc := ⟨0x0B8 + n, 0x048, 8, 8, .ro, 0⟩
def DS.EYE_MIN_SEEN (n : Nat) : Loc := ⟨0x0B8 + n, 0x048, 0, 8, .ro, 0xFF⟩
/-- DS.TEST (11_link_lanes.md). -/
def DS.PRBS_SEL (n : Nat) : Loc := ⟨0x0B8 + n, 0x04C, 16, 2, .rw, 0⟩
def DS.CNT_CLR (n : Nat) : Loc := ⟨0x0B8 + n, 0x04C, 9, 1, .wo, 0⟩
def DS.CHK_EN (n : Nat) : Loc := ⟨0x0B8 + n, 0x04C, 8, 1, .rw, 0⟩
def DS.PRBS_SYNC (n : Nat) : Loc := ⟨0x0B8 + n, 0x04C, 0, 1, .ro, 0⟩

/-- US.TX_CFG (11_link_lanes.md). -/
def US.POL_INV (n : Nat) : Loc := ⟨0x0C8 + n, 0x040, 30, 1, .rw, 0⟩
def US.PRECUR (n : Nat) : Loc := ⟨0x0C8 + n, 0x040, 24, 2, .rw, 0⟩
def US.DEEMPH (n : Nat) : Loc := ⟨0x0C8 + n, 0x040, 16, 4, .rw, 3⟩
def US.SWING (n : Nat) : Loc := ⟨0x0C8 + n, 0x040, 0, 4, .rw, 8⟩
/-- US.TEST (11_link_lanes.md). -/
def US.INJ_SINGLE (n : Nat) : Loc := ⟨0x0C8 + n, 0x04C, 31, 1, .wo, 0⟩
def US.INJ_BURST (n : Nat) : Loc := ⟨0x0C8 + n, 0x04C, 30, 1, .wo, 0⟩
def US.BURST_LEN (n : Nat) : Loc := ⟨0x0C8 + n, 0x04C, 24, 6, .rw, 0⟩
def US.PRBS_SEL (n : Nat) : Loc := ⟨0x0C8 + n, 0x04C, 16, 2, .rw, 0⟩
def US.GEN_EN (n : Nat) : Loc := ⟨0x0C8 + n, 0x04C, 8, 1, .rw, 0⟩

/-- SOUND0.BURST_CNT (13_neighbour_sounding.md). -/
def SOUND0.BURST_CNT : Loc := ⟨0x0E0, 0x02C, 0, 32, .ro, 0⟩
/-- SOUND0.DET_CNT (13_neighbour_sounding.md). -/
def SOUND0.DET_CNT : Loc := ⟨0x0E0, 0x030, 0, 32, .ro, 0⟩
/-- SOUND0.DEC_FAIL_CNT (13_neighbour_sounding.md). -/
def SOUND0.DEC_FAIL_CNT : Loc := ⟨0x0E0, 0x034, 0, 32, .ro, 0⟩
/-- SOUND0.FALSE_DET_CNT (13_neighbour_sounding.md). -/
def SOUND0.FALSE_DET_CNT : Loc := ⟨0x0E0, 0x038, 0, 32, .ro, 0⟩
/-- SOUND0.SKIP_CNT (13_neighbour_sounding.md). -/
def SOUND0.SKIP_CNT : Loc := ⟨0x0E0, 0x03C, 0, 32, .ro, 0⟩
/-- SOUND0.CFG (13_neighbour_sounding.md). -/
def SOUND0.TX_EN : Loc := ⟨0x0E0, 0x040, 31, 1, .rw, 0⟩
def SOUND0.RX_DIV : Loc := ⟨0x0E0, 0x040, 30, 1, .rw, 1⟩
def SOUND0.TX_LVL : Loc := ⟨0x0E0, 0x040, 16, 8, .rw, 40⟩
def SOUND0.OWN_ID : Loc := ⟨0x0E0, 0x040, 0, 16, .rl, 0⟩
/-- SOUND0.CODE (13_neighbour_sounding.md). -/
def SOUND0.GOLD : Loc := ⟨0x0E0, 0x044, 16, 7, .rw, 127⟩
def SOUND0.TX_OFS : Loc := ⟨0x0E0, 0x044, 0, 16, .rw, 0⟩
/-- SOUND0.NCO (13_neighbour_sounding.md). -/
def SOUND0.NCO : Loc := ⟨0x0E0, 0x048, 0, 32, .rw, 0⟩
/-- SOUND0.RX_CFG (13_neighbour_sounding.md). -/
def SOUND0.DET_THR : Loc := ⟨0x0E0, 0x04C, 24, 8, .rw, 128⟩
def SOUND0.AGC_TGT : Loc := ⟨0x0E0, 0x04C, 16, 8, .rw, 24⟩
def SOUND0.AGC_INIT : Loc := ⟨0x0E0, 0x04C, 8, 6, .rw, 60⟩
def SOUND0.MAX_ITER : Loc := ⟨0x0E0, 0x04C, 0, 5, .rw, 20⟩
/-- SOUND0.BOARD (13_neighbour_sounding.md). -/
def SOUND0.TX_BOARD_DLY : Loc := ⟨0x0E0, 0x050, 16, 16, .rw, 0⟩
def SOUND0.RX_BOARD_DLY : Loc := ⟨0x0E0, 0x050, 0, 16, .rw, 0⟩
/-- SOUND0.STAT (13_neighbour_sounding.md). -/
def SOUND0.SEQ_NEXT : Loc := ⟨0x0E0, 0x054, 24, 8, .ro, 0⟩
def SOUND0.RX_STATE : Loc := ⟨0x0E0, 0x054, 16, 2, .ro, 0⟩
def SOUND0.TX_LVL_ACT : Loc := ⟨0x0E0, 0x054, 0, 8, .ro, 40⟩
/-- SOUND0.TX_LAST_LO (13_neighbour_sounding.md). -/
def SOUND0.TX_LAST_LO : Loc := ⟨0x0E0, 0x058, 0, 32, .ro, 0⟩
/-- SOUND0.TX_LAST_HI (13_neighbour_sounding.md). -/
def SOUND0.TX_LAST_HI : Loc := ⟨0x0E0, 0x05C, 0, 32, .ro, 0⟩
/-- SOUND0.TX_LAST_INFO (13_neighbour_sounding.md). -/
def SOUND0.TX_LAST_INFO : Loc := ⟨0x0E0, 0x060, 0, 32, .ro, 0⟩

/-- SOUND1.TXA_W (13_neighbour_sounding.md). -/
def SOUND1.TXA_W_RE (i : Nat) : Loc := ⟨0x0E1, 0x100 + 4 * i, 16, 16, .rw, 0x1000⟩
def SOUND1.TXA_W_IM (i : Nat) : Loc := ⟨0x0E1, 0x100 + 4 * i, 0, 16, .rw, 0⟩
/-- SOUND1.RXA_W (13_neighbour_sounding.md). -/
def SOUND1.RXA_W_RE (i : Nat) : Loc := ⟨0x0E1, 0x200 + 4 * i, 16, 16, .rw, 0x1000⟩
def SOUND1.RXA_W_IM (i : Nat) : Loc := ⟨0x0E1, 0x200 + 4 * i, 0, 16, .rw, 0⟩
/-- SOUND1.RXB_W (13_neighbour_sounding.md). -/
def SOUND1.RXB_W_RE (i : Nat) : Loc := ⟨0x0E1, 0x300 + 4 * i, 16, 16, .rw, 0x1000⟩
def SOUND1.RXB_W_IM (i : Nat) : Loc := ⟨0x0E1, 0x300 + 4 * i, 0, 16, .rw, 0⟩

/-- SOUND2.RXQ (13_neighbour_sounding.md). -/
def SOUND2.POP : Loc := ⟨0x0E2, 0x040, 31, 1, .wo, 0⟩
def SOUND2.FILL : Loc := ⟨0x0E2, 0x040, 0, 5, .ro, 0⟩
/-- SOUND2.RXQ_W (13_neighbour_sounding.md). -/
def SOUND2.RXQ_W (i : Nat) : Loc := ⟨0x0E2, 0x060 + 4 * i, 0, 32, .ro, 0⟩
/-- SOUND2.REM_W (13_neighbour_sounding.md). -/
def SOUND2.REM_W (i : Nat) : Loc := ⟨0x0E2, 0x080 + 4 * i, 0, 32, .rw, 0⟩
/-- SOUND2.REM_CTL (13_neighbour_sounding.md). -/
def SOUND2.REM_GO : Loc := ⟨0x0E2, 0x0A4, 31, 1, .wo, 0⟩
def SOUND2.REM_BUSY : Loc := ⟨0x0E2, 0x0A4, 30, 1, .ro, 0⟩
def SOUND2.PEER_IDX : Loc := ⟨0x0E2, 0x0A4, 8, 4, .ro, 0⟩
def SOUND2.REM_RESULT : Loc := ⟨0x0E2, 0x0A4, 0, 3, .ro, 0⟩

/-- SOUND3.PEER_CFG (13_neighbour_sounding.md). -/
def SOUND3.PEER_EN (i : Nat) : Loc := ⟨0x0E3, 0x040 + 16 * i, 31, 1, .rw, 0⟩
def SOUND3.PEER_REF (i : Nat) : Loc := ⟨0x0E3, 0x040 + 16 * i, 30, 1, .rw, 0⟩
def SOUND3.PEER_ID (i : Nat) : Loc := ⟨0x0E3, 0x040 + 16 * i, 0, 16, .rw, 0⟩
/-- SOUND3.THETA (13_neighbour_sounding.md). -/
def SOUND3.THETA (i : Nat) : Loc := ⟨0x0E3, 0x044 + 16 * i, 0, 32, .ro, 0⟩
/-- SOUND3.DELTA (13_neighbour_sounding.md). -/
def SOUND3.DELTA (i : Nat) : Loc := ⟨0x0E3, 0x048 + 16 * i, 0, 32, .ro, 0⟩
/-- SOUND3.CNT (13_neighbour_sounding.md). -/
def SOUND3.PEER_CNT (i : Nat) : Loc := ⟨0x0E3, 0x04C + 16 * i, 0, 32, .ro, 0⟩
/-- SOUND3.MEAS (13_neighbour_sounding.md). -/
def SOUND3.MEAS : Loc := ⟨0x0E3, 0x140, 0, 32, .ro, 0⟩
/-- SOUND3.MEAS_AGE (13_neighbour_sounding.md). -/
def SOUND3.MEAS_AGE : Loc := ⟨0x0E3, 0x144, 0, 32, .ro, 0⟩
/-- SOUND3.XFER_CFG (13_neighbour_sounding.md). -/
def SOUND3.TOL : Loc := ⟨0x0E3, 0x150, 16, 16, .rw, 512⟩
def SOUND3.AVG_K : Loc := ⟨0x0E3, 0x150, 8, 4, .rw, 4⟩
def SOUND3.PAIR_MAX : Loc := ⟨0x0E3, 0x150, 0, 8, .rw, 16⟩
/-- SOUND3.ARR_G (13_neighbour_sounding.md). -/
def SOUND3.ARR_G (i : Nat) : Loc := ⟨0x0E3, 0x400 + 8 * (i - 64), 0, 32, .ro, 0⟩
/-- SOUND3.ARR_D (13_neighbour_sounding.md). -/
def SOUND3.ARR_D (i : Nat) : Loc := ⟨0x0E3, 0x404 + 8 * (i - 64), 0, 32, .ro, 0⟩

/-- BCAST0.HOP_CNT (14_broadcast_receiver.md). -/
def BCAST0.HOP_CNT : Loc := ⟨0x0E4, 0x02C, 0, 32, .ro, 0⟩
/-- BCAST0.BLK_ERR_CNT (14_broadcast_receiver.md). -/
def BCAST0.BLK_ERR_CNT : Loc := ⟨0x0E4, 0x030, 0, 32, .ro, 0⟩
/-- BCAST0.FIB_ERR_CNT (14_broadcast_receiver.md). -/
def BCAST0.FIB_ERR_CNT : Loc := ⟨0x0E4, 0x034, 0, 32, .ro, 0⟩
/-- BCAST0.PKT_ERR_CNT (14_broadcast_receiver.md). -/
def BCAST0.PKT_ERR_CNT : Loc := ⟨0x0E4, 0x038, 0, 32, .ro, 0⟩
/-- BCAST0.SDQ_LOST_CNT (14_broadcast_receiver.md). -/
def BCAST0.SDQ_LOST_CNT : Loc := ⟨0x0E4, 0x03C, 0, 32, .ro, 0⟩
/-- BCAST0.CFG (14_broadcast_receiver.md). -/
def BCAST0.STD : Loc := ⟨0x0E4, 0x040, 30, 2, .rw, 1⟩
def BCAST0.AF_EN : Loc := ⟨0x0E4, 0x040, 29, 1, .rw, 1⟩
def BCAST0.DIV_EN : Loc := ⟨0x0E4, 0x040, 28, 1, .rw, 1⟩
def BCAST0.HOLD_FREQ : Loc := ⟨0x0E4, 0x040, 27, 1, .rw, 1⟩
def BCAST0.RAW_EN : Loc := ⟨0x0E4, 0x040, 26, 1, .rw, 0⟩
def BCAST0.AER_FORCE : Loc := ⟨0x0E4, 0x040, 24, 2, .rw, 0⟩
def BCAST0.FREQ : Loc := ⟨0x0E4, 0x040, 0, 18, .rw, 225648⟩
/-- BCAST0.STAT (14_broadcast_receiver.md). -/
def BCAST0.SYNC : Loc := ⟨0x0E4, 0x044, 31, 1, .ro, 0⟩
def BCAST0.NOT_PERMITTED : Loc := ⟨0x0E4, 0x044, 30, 1, .ro, 0⟩
def BCAST0.PKT_BAD : Loc := ⟨0x0E4, 0x044, 29, 1, .ro, 0⟩
def BCAST0.AER_ACT : Loc := ⟨0x0E4, 0x044, 24, 2, .ro, 0⟩
def BCAST0.FREQ_ACT : Loc := ⟨0x0E4, 0x044, 0, 18, .ro, 0⟩
/-- BCAST0.QUAL (14_broadcast_receiver.md). -/
def BCAST0.RSSI_A : Loc := ⟨0x0E4, 0x048, 24, 8, .ro, 0x80⟩
def BCAST0.RSSI_B : Loc := ⟨0x0E4, 0x048, 16, 8, .ro, 0x80⟩
def BCAST0.SNR : Loc := ⟨0x0E4, 0x048, 8, 8, .ro, 0⟩
def BCAST0.QUAL_STALE : Loc := ⟨0x0E4, 0x048, 0, 1, .ro, 0⟩
/-- BCAST0.FOLLOW (14_broadcast_receiver.md). -/
def BCAST0.AF_THR : Loc := ⟨0x0E4, 0x04C, 24, 8, .rw, 0xA6⟩
def BCAST0.AF_MARGIN : Loc := ⟨0x0E4, 0x04C, 16, 8, .rw, 6⟩
def BCAST0.AF_CHK : Loc := ⟨0x0E4, 0x04C, 8, 8, .rw, 10⟩
def BCAST0.DIV_HYST : Loc := ⟨0x0E4, 0x04C, 0, 8, .rw, 8⟩

/-- BCAST1.PI (14_broadcast_receiver.md). -/
def BCAST1.PI_VALID : Loc := ⟨0x0E5, 0x040, 31, 1, .ro, 0⟩
def BCAST1.PI : Loc := ⟨0x0E5, 0x040, 0, 16, .ro, 0⟩
/-- BCAST1.PS0 (14_broadcast_receiver.md). -/
def BCAST1.PS0 : Loc := ⟨0x0E5, 0x044, 0, 32, .ro, 0⟩
/-- BCAST1.PS1 (14_broadcast_receiver.md). -/
def BCAST1.PS1 : Loc := ⟨0x0E5, 0x048, 0, 32, .ro, 0⟩
/-- BCAST1.RDS_STAT (14_broadcast_receiver.md). -/
def BCAST1.RDS_SYNC : Loc := ⟨0x0E5, 0x04C, 31, 1, .ro, 0⟩
def BCAST1.PTY : Loc := ⟨0x0E5, 0x04C, 16, 5, .ro, 0⟩
def BCAST1.TA : Loc := ⟨0x0E5, 0x04C, 9, 1, .ro, 0⟩
def BCAST1.TP : Loc := ⟨0x0E5, 0x04C, 8, 1, .ro, 0⟩
def BCAST1.ECC : Loc := ⟨0x0E5, 0x04C, 0, 8, .ro, 0⟩
/-- BCAST1.AF_CNT (14_broadcast_receiver.md). -/
def BCAST1.AF_CNT : Loc := ⟨0x0E5, 0x050, 0, 8, .ro, 0⟩
/-- BCAST1.AF (14_broadcast_receiver.md). -/
def BCAST1.AF (i : Nat) : Loc := ⟨0x0E5, 0x060 + 4 * i, 0, 8, .ro, 0⟩

/-- BCAST2.ENS (14_broadcast_receiver.md). -/
def BCAST2.ENS_VALID : Loc := ⟨0x0E6, 0x040, 31, 1, .ro, 0⟩
def BCAST2.EID : Loc := ⟨0x0E6, 0x040, 0, 16, .ro, 0⟩
/-- BCAST2.PKT_CFG (14_broadcast_receiver.md). -/
def BCAST2.PKT_EN : Loc := ⟨0x0E6, 0x044, 31, 1, .rw, 0⟩
def BCAST2.SUBCH : Loc := ⟨0x0E6, 0x044, 24, 6, .rw, 0⟩
def BCAST2.PKT_ADDR : Loc := ⟨0x0E6, 0x044, 0, 10, .rw, 1023⟩
/-- BCAST2.TIM_CFG (14_broadcast_receiver.md). -/
def BCAST2.CAL_AUTO : Loc := ⟨0x0E6, 0x048, 31, 1, .rw, 1⟩
def BCAST2.CAL_GO : Loc := ⟨0x0E6, 0x048, 30, 1, .wo, 0⟩
def BCAST2.CAL_CLR : Loc := ⟨0x0E6, 0x048, 29, 1, .wo, 0⟩
def BCAST2.CAL_K : Loc := ⟨0x0E6, 0x048, 24, 4, .rw, 6⟩
def BCAST2.MISS_MAX : Loc := ⟨0x0E6, 0x048, 16, 8, .rw, 8⟩
def BCAST2.GATE_W : Loc := ⟨0x0E6, 0x048, 0, 16, .rw, 512⟩
/-- BCAST2.SFN_TOL (14_broadcast_receiver.md). -/
def BCAST2.SFN_TOL : Loc := ⟨0x0E6, 0x04C, 0, 16, .rw, 256⟩
/-- BCAST2.CAL_PHASE (14_broadcast_receiver.md). -/
def BCAST2.CAL_PHASE : Loc := ⟨0x0E6, 0x050, 0, 27, .ro, 0⟩
/-- BCAST2.CAL_STAT (14_broadcast_receiver.md). -/
def BCAST2.CAL_VALID : Loc := ⟨0x0E6, 0x054, 31, 1, .ro, 0⟩
def BCAST2.MEAS_VALID : Loc := ⟨0x0E6, 0x054, 30, 1, .ro, 0⟩
def BCAST2.CAL_FRAC : Loc := ⟨0x0E6, 0x054, 16, 8, .ro, 0⟩
def BCAST2.CAL_EID : Loc := ⟨0x0E6, 0x054, 0, 16, .ro, 0⟩
/-- BCAST2.CAL_FREQ (14_broadcast_receiver.md). -/
def BCAST2.CAL_FREQ : Loc := ⟨0x0E6, 0x058, 0, 18, .ro, 0⟩
/-- BCAST2.FRAME_TB_LO (14_broadcast_receiver.md). -/
def BCAST2.FRAME_TB_LO : Loc := ⟨0x0E6, 0x05C, 0, 32, .ro, 0⟩
/-- BCAST2.FRAME_TB_HI (14_broadcast_receiver.md). -/
def BCAST2.FRAME_TB_HI : Loc := ⟨0x0E6, 0x060, 0, 32, .ro, 0⟩
/-- BCAST2.FRAME_INFO (14_broadcast_receiver.md). -/
def BCAST2.CIF_CNT : Loc := ⟨0x0E6, 0x064, 16, 13, .ro, 0⟩
def BCAST2.GATE_OK : Loc := ⟨0x0E6, 0x064, 8, 1, .ro, 0⟩
def BCAST2.FRAC : Loc := ⟨0x0E6, 0x064, 0, 8, .ro, 0⟩
/-- BCAST2.MEAS (14_broadcast_receiver.md). -/
def BCAST2.MEAS : Loc := ⟨0x0E6, 0x068, 0, 32, .ro, 0⟩
/-- BCAST2.MEAS_AGE (14_broadcast_receiver.md). -/
def BCAST2.MEAS_AGE : Loc := ⟨0x0E6, 0x06C, 0, 32, .ro, 0⟩

/-- BCAST3.SDQ_CTL (14_broadcast_receiver.md). -/
def BCAST3.POP : Loc := ⟨0x0E7, 0x040, 31, 1, .wo, 0⟩
def BCAST3.FLUSH : Loc := ⟨0x0E7, 0x040, 30, 1, .wo, 0⟩
def BCAST3.FILL : Loc := ⟨0x0E7, 0x040, 0, 7, .ro, 0⟩
/-- BCAST3.TAG_EN (14_broadcast_receiver.md). -/
def BCAST3.TAG_EN : Loc := ⟨0x0E7, 0x044, 0, 32, .rw, 0xFFFFFFFF⟩
/-- BCAST3.SDQ_W (14_broadcast_receiver.md). -/
def BCAST3.SDQ_W (i : Nat) : Loc := ⟨0x0E7, 0x100 + 4 * i, 0, 32, .ro, 0⟩

/-- CP.SEG_CNT (15_capture_and_dma.md). -/
def CP.SEG_CNT (n : Nat) : Loc := ⟨0x0E8 + n, 0x02C, 0, 32, .ro, 0⟩
/-- CP.TRIG_MISS_CNT (15_capture_and_dma.md). -/
def CP.TRIG_MISS_CNT (n : Nat) : Loc := ⟨0x0E8 + n, 0x030, 0, 32, .ro, 0⟩
/-- CP.GAP_CNT (15_capture_and_dma.md). -/
def CP.GAP_CNT (n : Nat) : Loc := ⟨0x0E8 + n, 0x034, 0, 32, .ro, 0⟩
/-- CP.LOST_CNT (15_capture_and_dma.md). -/
def CP.LOST_CNT (n : Nat) : Loc := ⟨0x0E8 + n, 0x038, 0, 32, .ro, 0⟩
/-- CP.CFG (15_capture_and_dma.md). -/
def CP.SRC_KIND (n : Nat) : Loc := ⟨0x0E8 + n, 0x040, 16, 4, .rw, 0⟩
def CP.SRC_IDX (n : Nat) : Loc := ⟨0x0E8 + n, 0x040, 8, 6, .rw, 0⟩
def CP.EXP_BB (n : Nat) : Loc := ⟨0x0E8 + n, 0x040, 4, 1, .rw, 0⟩
def CP.BUF_MODE (n : Nat) : Loc := ⟨0x0E8 + n, 0x040, 0, 1, .rw, 0⟩
/-- CP.REGION (15_capture_and_dma.md). -/
def CP.BASE (n : Nat) : Loc := ⟨0x0E8 + n, 0x044, 16, 12, .rw, (512 * n)⟩
def CP.SIZE (n : Nat) : Loc := ⟨0x0E8 + n, 0x044, 0, 13, .rw, 512⟩
/-- CP.PRE (15_capture_and_dma.md). -/
def CP.PRE (n : Nat) : Loc := ⟨0x0E8 + n, 0x048, 0, 32, .rw, 0⟩
/-- CP.POST (15_capture_and_dma.md). -/
def CP.POST (n : Nat) : Loc := ⟨0x0E8 + n, 0x04C, 0, 32, .rw, 1024⟩
/-- CP.NSEG (15_capture_and_dma.md). -/
def CP.NSEG (n : Nat) : Loc := ⟨0x0E8 + n, 0x050, 0, 32, .rw, 1⟩
/-- CP.TRIG_SEL (15_capture_and_dma.md). -/
def CP.WIN_EN (n : Nat) : Loc := ⟨0x0E8 + n, 0x054, 24, 1, .rw, 0⟩
def CP.THR_DIR (n : Nat) : Loc := ⟨0x0E8 + n, 0x054, 22, 1, .rw, 0⟩
def CP.THR_PATH (n : Nat) : Loc := ⟨0x0E8 + n, 0x054, 16, 6, .rw, 0⟩
def CP.TAP_SEL (n : Nat) : Loc := ⟨0x0E8 + n, 0x054, 12, 3, .rw, 0⟩
def CP.AUTO_EN (n : Nat) : Loc := ⟨0x0E8 + n, 0x054, 8, 1, .rw, 0⟩
def CP.SRC_MASK (n : Nat) : Loc := ⟨0x0E8 + n, 0x054, 0, 6, .rw, 0⟩
/-- CP.AUTO_TO (15_capture_and_dma.md). -/
def CP.AUTO_TO (n : Nat) : Loc := ⟨0x0E8 + n, 0x058, 0, 32, .rw, 1024⟩
/-- CP.HOLDOFF (15_capture_and_dma.md). -/
def CP.HOLDOFF (n : Nat) : Loc := ⟨0x0E8 + n, 0x05C, 0, 32, .rw, 0⟩
/-- CP.TAP_LVL (15_capture_and_dma.md). -/
def CP.TAP_LVL (n : Nat) : Loc := ⟨0x0E8 + n, 0x060, 0, 32, .rw, 4294967295⟩
/-- CP.TRIG_TB_LO (15_capture_and_dma.md). -/
def CP.TRIG_TB_LO (n : Nat) : Loc := ⟨0x0E8 + n, 0x064, 0, 32, .rw, 0⟩
/-- CP.TRIG_TB_HI (15_capture_and_dma.md). -/
def CP.TRIG_TB_HI (n : Nat) : Loc := ⟨0x0E8 + n, 0x068, 0, 32, .rw, 0⟩
/-- CP.WIN_START_LO (15_capture_and_dma.md). -/
def CP.WIN_START_LO (n : Nat) : Loc := ⟨0x0E8 + n, 0x06C, 0, 32, .rw, 0⟩
/-- CP.WIN_START_HI (15_capture_and_dma.md). -/
def CP.WIN_START_HI (n : Nat) : Loc := ⟨0x0E8 + n, 0x070, 0, 32, .rw, 0⟩
/-- CP.WIN_END_LO (15_capture_and_dma.md). -/
def CP.WIN_END_LO (n : Nat) : Loc := ⟨0x0E8 + n, 0x074, 0, 32, .rw, 0⟩
/-- CP.WIN_END_HI (15_capture_and_dma.md). -/
def CP.WIN_END_HI (n : Nat) : Loc := ⟨0x0E8 + n, 0x078, 0, 32, .rw, 0⟩
/-- CP.CMD (15_capture_and_dma.md). -/
def CP.TRIG (n : Nat) : Loc := ⟨0x0E8 + n, 0x07C, 2, 1, .wo, 0⟩
def CP.DISARM (n : Nat) : Loc := ⟨0x0E8 + n, 0x07C, 1, 1, .wo, 0⟩
def CP.ARM (n : Nat) : Loc := ⟨0x0E8 + n, 0x07C, 0, 1, .wo, 0⟩
/-- CP.STAT (15_capture_and_dma.md). -/
def CP.SEG_NOW (n : Nat) : Loc := ⟨0x0E8 + n, 0x080, 16, 12, .ro, 0⟩
def CP.FULL (n : Nat) : Loc := ⟨0x0E8 + n, 0x080, 2, 1, .ro, 0⟩
def CP.OWNED_DPD (n : Nat) : Loc := ⟨0x0E8 + n, 0x080, 1, 1, .ro, 0⟩
def CP.ARMED (n : Nat) : Loc := ⟨0x0E8 + n, 0x080, 0, 1, .ro, 0⟩
/-- CP.WR_PTR (15_capture_and_dma.md). -/
def CP.WR_PTR (n : Nat) : Loc := ⟨0x0E8 + n, 0x084, 0, 24, .ro, 0⟩
/-- CP.RD_PTR (15_capture_and_dma.md). -/
def CP.RD_PTR (n : Nat) : Loc := ⟨0x0E8 + n, 0x088, 0, 24, .rw, 0⟩

/-- DMA.CHAIN_MAX (15_capture_and_dma.md). -/
def DMA.CHAIN_MAX : Loc := ⟨0x0F0, 0x040, 0, 16, .rw, 4096⟩
/-- DMA.STAT (15_capture_and_dma.md). -/
def DMA.PAUSED : Loc := ⟨0x0F0, 0x044, 16, 8, .ro, 0⟩
def DMA.PENDING : Loc := ⟨0x0F0, 0x044, 8, 8, .ro, 0⟩
def DMA.BUSY : Loc := ⟨0x0F0, 0x044, 3, 1, .ro, 0⟩
def DMA.ACTIVE : Loc := ⟨0x0F0, 0x044, 0, 3, .ro, 0⟩

/-- DMAC.DOORBELL (15_capture_and_dma.md). -/
def DMAC.DESC (n : Nat) : Loc := ⟨0x0F1 + n, 0x040, 0, 32, .wo, 0⟩
/-- DMAC.CTRL (15_capture_and_dma.md). -/
def DMAC.ABORT (n : Nat) : Loc := ⟨0x0F1 + n, 0x044, 0, 1, .wo, 0⟩
/-- DMAC.STAT (15_capture_and_dma.md). -/
def DMAC.DESC_CNT (n : Nat) : Loc := ⟨0x0F1 + n, 0x048, 16, 16, .ro, 0⟩
def DMAC.STATUS (n : Nat) : Loc := ⟨0x0F1 + n, 0x048, 8, 3, .ro, 0⟩
def DMAC.STATE (n : Nat) : Loc := ⟨0x0F1 + n, 0x048, 0, 2, .ro, 0⟩
/-- DMAC.CUR_DESC (15_capture_and_dma.md). -/
def DMAC.CUR_DESC (n : Nat) : Loc := ⟨0x0F1 + n, 0x04C, 0, 32, .ro, 0⟩
/-- DMAC.RESIDUE (15_capture_and_dma.md). -/
def DMAC.RESIDUE (n : Nat) : Loc := ⟨0x0F1 + n, 0x050, 0, 32, .ro, 0⟩
/-- DMAC.FAIL_ADDR (15_capture_and_dma.md). -/
def DMAC.FAIL_ADDR (n : Nat) : Loc := ⟨0x0F1 + n, 0x054, 0, 32, .ro, 0⟩

/-- CLOVE.FAULT_CNT (16_dsp_cores.md). -/
def CLOVE.FAULT_CNT (n : Nat) : Loc := ⟨0x100 + n, 0x02C, 0, 32, .ro, 0⟩
/-- CLOVE.LOAD_FAIL_CNT (16_dsp_cores.md). -/
def CLOVE.LOAD_FAIL_CNT (n : Nat) : Loc := ⟨0x100 + n, 0x030, 0, 32, .ro, 0⟩
/-- CLOVE.SWAP_CNT (16_dsp_cores.md). -/
def CLOVE.SWAP_CNT (n : Nat) : Loc := ⟨0x100 + n, 0x034, 0, 32, .ro, 0⟩
/-- CLOVE.CTRL (16_dsp_cores.md). -/
def CLOVE.RUN (n : Nat) : Loc := ⟨0x100 + n, 0x040, 31, 1, .rw, 0⟩
def CLOVE.SWAP_GO (n : Nat) : Loc := ⟨0x100 + n, 0x040, 30, 1, .wo, 0⟩
def CLOVE.MBOX_IRQ (n : Nat) : Loc := ⟨0x100 + n, 0x040, 29, 1, .wo, 0⟩
def CLOVE.SWAP_TO (n : Nat) : Loc := ⟨0x100 + n, 0x040, 8, 8, .rw, 16⟩
/-- CLOVE.STAT (16_dsp_cores.md). -/
def CLOVE.STATE (n : Nat) : Loc := ⟨0x100 + n, 0x044, 30, 2, .ro, 0⟩
def CLOVE.PROG_HALF (n : Nat) : Loc := ⟨0x100 + n, 0x044, 29, 1, .ro, 0⟩
def CLOVE.BIG (n : Nat) : Loc := ⟨0x100 + n, 0x044, 28, 1, .ro, 0⟩
def CLOVE.SWAP_READY (n : Nat) : Loc := ⟨0x100 + n, 0x044, 27, 1, .ro, 0⟩
def CLOVE.SWAP_ARMED (n : Nat) : Loc := ⟨0x100 + n, 0x044, 26, 1, .ro, 0⟩
def CLOVE.LOAD_BUSY (n : Nat) : Loc := ⟨0x100 + n, 0x044, 25, 1, .ro, 0⟩
def CLOVE.LOAD_RESULT (n : Nat) : Loc := ⟨0x100 + n, 0x044, 20, 4, .ro, 0⟩
def CLOVE.KEY_SLOT_ACT (n : Nat) : Loc := ⟨0x100 + n, 0x044, 16, 2, .ro, 0⟩
def CLOVE.KVER_ACT (n : Nat) : Loc := ⟨0x100 + n, 0x044, 0, 16, .ro, 0⟩
/-- CLOVE.LOAD_ADDR (16_dsp_cores.md). -/
def CLOVE.LOAD_ADDR (n : Nat) : Loc := ⟨0x100 + n, 0x048, 0, 32, .rw, 0⟩
/-- CLOVE.LOAD_CMD (16_dsp_cores.md). -/
def CLOVE.LOAD (n : Nat) : Loc := ⟨0x100 + n, 0x04C, 31, 1, .wo, 0⟩
def CLOVE.HITLESS (n : Nat) : Loc := ⟨0x100 + n, 0x04C, 0, 1, .rw, 0⟩
/-- CLOVE.SWAP_TB_LO (16_dsp_cores.md). -/
def CLOVE.SWAP_TB_LO (n : Nat) : Loc := ⟨0x100 + n, 0x050, 0, 32, .rw, 0⟩
/-- CLOVE.SWAP_TB_HI (16_dsp_cores.md). -/
def CLOVE.SWAP_TB_HI (n : Nat) : Loc := ⟨0x100 + n, 0x054, 0, 32, .rw, 0⟩
/-- CLOVE.KVER_MIN (16_dsp_cores.md). -/
def CLOVE.KVER_MIN (n : Nat) : Loc := ⟨0x100 + n, 0x058, 0, 16, .rl, 0⟩
/-- CLOVE.FAULT (16_dsp_cores.md). -/
def CLOVE.FAULT (n : Nat) : Loc := ⟨0x100 + n, 0x05C, 0, 32, .ro, 0⟩
/-- CLOVE.FAULT_ADDR (16_dsp_cores.md). -/
def CLOVE.FAULT_ADDR (n : Nat) : Loc := ⟨0x100 + n, 0x060, 0, 32, .ro, 0⟩
/-- CLOVE.MBOX_TO_CORE (16_dsp_cores.md). -/
def CLOVE.MBOX_TO_CORE (n : Nat) : Loc := ⟨0x100 + n, 0x064, 0, 24, .rw, 0⟩
/-- CLOVE.MBOX_FROM_CORE (16_dsp_cores.md). -/
def CLOVE.MBOX_FROM_CORE (n : Nat) : Loc := ⟨0x100 + n, 0x068, 0, 24, .ro, 0⟩
/-- CLOVE.RATE (16_dsp_cores.md). -/
def CLOVE.RATE (n : Nat) : Loc := ⟨0x100 + n, 0x06C, 0, 16, .ro, 0⟩
/-- CLOVE.INSTR_CNT_LO (16_dsp_cores.md). -/
def CLOVE.INSTR_CNT_LO (n : Nat) : Loc := ⟨0x100 + n, 0x070, 0, 32, .ro, 0⟩
/-- CLOVE.INSTR_CNT_HI (16_dsp_cores.md). -/
def CLOVE.INSTR_CNT_HI (n : Nat) : Loc := ⟨0x100 + n, 0x074, 0, 32, .ro, 0⟩

/-- MGMT.STRAPS (17_management.md). -/
def MGMT.IMG_SLOT_PREF : Loc := ⟨0x110, 0x040, 8, 4, .ro, 0⟩
def MGMT.BOOTSEL : Loc := ⟨0x110, 0x040, 0, 2, .ro, 0⟩
/-- MGMT.BOOT_SLOT (17_management.md). -/
def MGMT.IMG_VER_ACT : Loc := ⟨0x110, 0x044, 16, 16, .ro, 0⟩
def MGMT.RB_ACT : Loc := ⟨0x110, 0x044, 8, 6, .ro, 0⟩
def MGMT.RUNNING : Loc := ⟨0x110, 0x044, 1, 1, .ro, 0⟩
def MGMT.SLOT : Loc := ⟨0x110, 0x044, 0, 1, .ro, 0⟩
/-- MGMT.WD_CFG (17_management.md). -/
def MGMT.WD_EN : Loc := ⟨0x110, 0x048, 31, 1, .rw, 0⟩
def MGMT.WD_PERIOD : Loc := ⟨0x110, 0x048, 0, 16, .rw, 100⟩
/-- MGMT.WD_KICK (17_management.md). -/
def MGMT.KICK : Loc := ⟨0x110, 0x04C, 0, 8, .wo, 0⟩
/-- MGMT.WD_BAD_CNT (17_management.md). -/
def MGMT.WD_BAD_CNT : Loc := ⟨0x110, 0x050, 0, 32, .ro, 0⟩
/-- MGMT.MTIME_LO (17_management.md). -/
def MGMT.MTIME_LO : Loc := ⟨0x110, 0x058, 0, 32, .ro, 0⟩
/-- MGMT.MTIME_HI (17_management.md). -/
def MGMT.MTIME_HI : Loc := ⟨0x110, 0x05C, 0, 32, .ro, 0⟩
/-- MGMT.MTIMECMP_LO (17_management.md). -/
def MGMT.MTIMECMP_LO : Loc := ⟨0x110, 0x060, 0, 32, .rw, 4294967295⟩
/-- MGMT.MTIMECMP_HI (17_management.md). -/
def MGMT.MTIMECMP_HI : Loc := ⟨0x110, 0x064, 0, 32, .rw, 4294967295⟩
/-- MGMT.RETAIN (17_management.md). -/
def MGMT.RETAIN (i : Nat) : Loc := ⟨0x110, 0x080 + 4 * i, 0, 32, .rw, 0⟩
/-- MGMT.IRQ_PEND (17_management.md). -/
def MGMT.IRQ_PEND (i : Nat) : Loc := ⟨0x110, 0x100 + 4 * i, 0, 32, .ro, 0⟩

/-- LOG.LOST_CNT (17_management.md). -/
def LOG.LOST_CNT : Loc := ⟨0x111, 0x02C, 0, 32, .ro, 0⟩
/-- LOG.HEAD_SEQ (17_management.md). -/
def LOG.HEAD_SEQ : Loc := ⟨0x111, 0x040, 0, 32, .ro, 0xFFFFFFFF⟩
/-- LOG.FLUSHED_SEQ (17_management.md). -/
def LOG.FLUSHED_SEQ : Loc := ⟨0x111, 0x044, 0, 32, .ro, 0xFFFFFFFF⟩
/-- LOG.HEAD (17_management.md). -/
def LOG.HEAD (i : Nat) : Loc := ⟨0x111, 0x048 + 4 * i, 0, 32, .ro, 0⟩
/-- LOG.FLUSH_CFG (17_management.md). -/
def LOG.FLUSH : Loc := ⟨0x111, 0x070, 31, 1, .wo, 0⟩
def LOG.FLUSH_THR : Loc := ⟨0x111, 0x070, 16, 11, .rw, 256⟩
def LOG.FLUSH_S : Loc := ⟨0x111, 0x070, 0, 16, .rw, 60⟩
/-- LOG.FW_W4 (17_management.md). -/
def LOG.FW_W4 : Loc := ⟨0x111, 0x074, 0, 32, .rw, 0⟩
/-- LOG.FW_W5 (17_management.md). -/
def LOG.FW_W5 : Loc := ⟨0x111, 0x078, 0, 32, .rw, 0⟩
/-- LOG.FW_W6 (17_management.md). -/
def LOG.FW_W6 : Loc := ⟨0x111, 0x07C, 0, 32, .rw, 0⟩
/-- LOG.FW_CMD (17_management.md). -/
def LOG.GO : Loc := ⟨0x111, 0x080, 31, 1, .wo, 0⟩
def LOG.SEV : Loc := ⟨0x111, 0x080, 16, 2, .wo, 0⟩
def LOG.TYPE : Loc := ⟨0x111, 0x080, 0, 8, .wo, 0⟩
/-- LOG.RD_SEQ (17_management.md). -/
def LOG.RD_SEQ : Loc := ⟨0x111, 0x084, 0, 32, .rw, 0⟩
/-- LOG.RD_STAT (17_management.md). -/
def LOG.RD_MISS : Loc := ⟨0x111, 0x088, 1, 1, .ro, 0⟩
def LOG.RD_BUSY : Loc := ⟨0x111, 0x088, 0, 1, .ro, 0⟩
/-- LOG.RD_W (17_management.md). -/
def LOG.RD_W (i : Nat) : Loc := ⟨0x111, 0x0A0 + 4 * i, 0, 32, .ro, 0⟩

/-- UPDATE.OP (17_management.md). -/
def UPDATE.GO : Loc := ⟨0x112, 0x040, 31, 1, .wo, 0⟩
def UPDATE.OP : Loc := ⟨0x112, 0x040, 8, 3, .rw, 0⟩
def UPDATE.ARG : Loc := ⟨0x112, 0x040, 0, 8, .rw, 0⟩
/-- UPDATE.OFS (17_management.md). -/
def UPDATE.OFS : Loc := ⟨0x112, 0x044, 0, 32, .rw, 0⟩
/-- UPDATE.LEN (17_management.md). -/
def UPDATE.LEN : Loc := ⟨0x112, 0x048, 0, 32, .rw, 0⟩
/-- UPDATE.STAT (17_management.md). -/
def UPDATE.BUSY : Loc := ⟨0x112, 0x04C, 31, 1, .ro, 0⟩
def UPDATE.OWNER : Loc := ⟨0x112, 0x04C, 24, 4, .ro, 0⟩
def UPDATE.TARGET : Loc := ⟨0x112, 0x04C, 20, 1, .ro, 0⟩
def UPDATE.STATE : Loc := ⟨0x112, 0x04C, 16, 2, .ro, 0⟩
def UPDATE.RESULT : Loc := ⟨0x112, 0x04C, 0, 4, .ro, 0⟩
/-- UPDATE.RECEIVED (17_management.md). -/
def UPDATE.RECEIVED : Loc := ⟨0x112, 0x050, 0, 32, .ro, 0⟩
/-- UPDATE.DIR (17_management.md). -/
def UPDATE.DIR : Loc := ⟨0x112, 0x054, 0, 32, .ro, 0⟩
/-- UPDATE.RB_CNT (17_management.md). -/
def UPDATE.RB_CNT : Loc := ⟨0x112, 0x058, 0, 32, .ro, 0⟩
/-- UPDATE.BUF (17_management.md). -/
def UPDATE.BUF (i : Nat) : Loc := ⟨0x112, 0x400 + 4 * i, 0, 32, .rw, 0⟩

/-- MONITOR.ELEV_FAIL_CNT (17_management.md). -/
def MONITOR.ELEV_FAIL_CNT : Loc := ⟨0x113, 0x02C, 0, 32, .ro, 0⟩
/-- MONITOR.CFG (17_management.md). -/
def MONITOR.BAUD : Loc := ⟨0x113, 0x040, 0, 3, .rw, 4⟩
/-- MONITOR.STAT (17_management.md). -/
def MONITOR.LEFT : Loc := ⟨0x113, 0x044, 15, 17, .ro, 0⟩
def MONITOR.LOCKED : Loc := ⟨0x113, 0x044, 10, 1, .ro, 0⟩
def MONITOR.SIGNER : Loc := ⟨0x113, 0x044, 8, 2, .ro, 0⟩
def MONITOR.LEVEL : Loc := ⟨0x113, 0x044, 0, 2, .ro, 0⟩
/-- MONITOR.DROP (17_management.md). -/
def MONITOR.DROP : Loc := ⟨0x113, 0x048, 0, 1, .wo, 0⟩

/-- ECC.LAST_EVT (19_memory_integrity.md). -/
def ECC.MEM : Loc := ⟨0x118, 0x02C, 26, 6, .ro, 0⟩
def ECC.INDEX : Loc := ⟨0x118, 0x02C, 0, 22, .ro, 0⟩
/-- ECC.CFG (19_memory_integrity.md). -/
def ECC.SCRUB_EN : Loc := ⟨0x118, 0x040, 31, 1, .rw, 1⟩
def ECC.WIN_EN : Loc := ⟨0x118, 0x040, 30, 1, .rw, 0⟩
def ECC.CE_LOG_GAP : Loc := ⟨0x118, 0x040, 0, 16, .rw, 1000⟩
/-- ECC.SCRUB_WIN (19_memory_integrity.md). -/
def ECC.WIN_END : Loc := ⟨0x118, 0x044, 16, 16, .rw, 30720⟩
def ECC.WIN_START : Loc := ⟨0x118, 0x044, 0, 16, .rw, 0⟩
/-- ECC.CE_CNT (19_memory_integrity.md). -/
def ECC.CE_CNT (i : Nat) : Loc := ⟨0x118, 0x100 + 32 * i, 0, 32, .ro, 0⟩
/-- ECC.UE_CNT (19_memory_integrity.md). -/
def ECC.UE_CNT (i : Nat) : Loc := ⟨0x118, 0x104 + 32 * i, 0, 32, .ro, 0⟩
/-- ECC.MERGE_CNT (19_memory_integrity.md). -/
def ECC.MERGE_CNT (i : Nat) : Loc := ⟨0x118, 0x108 + 32 * i, 0, 32, .ro, 0⟩
/-- ECC.HEAL_CNT (19_memory_integrity.md). -/
def ECC.HEAL_CNT (i : Nat) : Loc := ⟨0x118, 0x10C + 32 * i, 0, 32, .ro, 0⟩
/-- ECC.LAP_TIME (19_memory_integrity.md). -/
def ECC.LAP_TIME (i : Nat) : Loc := ⟨0x118, 0x110 + 32 * i, 0, 32, .ro, 0⟩
/-- ECC.LAST_CE (19_memory_integrity.md). -/
def ECC.LAST_CE (i : Nat) : Loc := ⟨0x118, 0x114 + 32 * i, 0, 32, .ro, 0⟩
/-- ECC.LAST_UE (19_memory_integrity.md). -/
def ECC.LAST_UE (i : Nat) : Loc := ⟨0x118, 0x118 + 32 * i, 0, 32, .ro, 0⟩
/-- ECC.SCRUB (19_memory_integrity.md). -/
def ECC.MEM_SCRUB_EN (i : Nat) : Loc := ⟨0x118, 0x11C + 32 * i, 31, 1, .rw, 1⟩
def ECC.LAP_LIMIT (i : Nat) : Loc := ⟨0x118, 0x11C + 32 * i, 0, 16, .rw, 1000⟩

/-- BIST.RUN_CNT (19_memory_integrity.md). -/
def BIST.RUN_CNT : Loc := ⟨0x119, 0x02C, 0, 32, .ro, 0⟩
/-- BIST.FAIL_CNT (19_memory_integrity.md). -/
def BIST.FAIL_CNT : Loc := ⟨0x119, 0x030, 0, 32, .ro, 0⟩
/-- BIST.CTRL (19_memory_integrity.md). -/
def BIST.GO : Loc := ⟨0x119, 0x040, 31, 1, .wo, 0⟩
def BIST.ABORT : Loc := ⟨0x119, 0x040, 30, 1, .wo, 0⟩
def BIST.BUSY : Loc := ⟨0x119, 0x040, 29, 1, .ro, 0⟩
def BIST.TARGET : Loc := ⟨0x119, 0x040, 0, 8, .rw, 0⟩
/-- BIST.STAT (19_memory_integrity.md). -/
def BIST.RESULT : Loc := ⟨0x119, 0x044, 16, 4, .ro, 0⟩
def BIST.OVF : Loc := ⟨0x119, 0x044, 8, 1, .ro, 0⟩
def BIST.RES_CNT : Loc := ⟨0x119, 0x044, 0, 5, .ro, 0⟩
/-- BIST.RES_POP (19_memory_integrity.md). -/
def BIST.RES_POP : Loc := ⟨0x119, 0x048, 0, 1, .wo, 0⟩
/-- BIST.RES_W0 (19_memory_integrity.md). -/
def BIST.RES_W0 : Loc := ⟨0x119, 0x04C, 0, 32, .ro, 0⟩
/-- BIST.RES_W1 (19_memory_integrity.md). -/
def BIST.RES_W1 : Loc := ⟨0x119, 0x050, 0, 32, .ro, 0⟩
/-- BIST.PATH_FAIL_TX_LO (19_memory_integrity.md). -/
def BIST.PATH_FAIL_TX_LO : Loc := ⟨0x119, 0x060, 0, 32, .ro, 0⟩
/-- BIST.TX_HI (19_memory_integrity.md). -/
def BIST.PATH_FAIL_TX_HI : Loc := ⟨0x119, 0x064, 0, 32, .ro, 0⟩
/-- BIST.RX_LO (19_memory_integrity.md). -/
def BIST.PATH_FAIL_RX_LO : Loc := ⟨0x119, 0x068, 0, 32, .ro, 0⟩
/-- BIST.RX_HI (19_memory_integrity.md). -/
def BIST.PATH_FAIL_RX_HI : Loc := ⟨0x119, 0x06C, 0, 32, .ro, 0⟩
/-- BIST.CAL_FAIL (19_memory_integrity.md). -/
def BIST.CAL_FAIL : Loc := ⟨0x119, 0x070, 0, 32, .ro, 0⟩
/-- BIST.REF_DEV (19_memory_integrity.md). -/
def BIST.HK_DEV : Loc := ⟨0x119, 0x074, 16, 16, .ro, 0⟩
def BIST.RREF_DEV : Loc := ⟨0x119, 0x074, 0, 16, .ro, 0⟩

/-- FUSEMAP.STAT (19_memory_integrity.md). -/
def FUSEMAP.FACT_CNT : Loc := ⟨0x11A, 0x040, 24, 8, .ro, 0⟩
def FUSEMAP.FIELD_USED : Loc := ⟨0x11A, 0x040, 16, 6, .ro, 0⟩
def FUSEMAP.PENDING : Loc := ⟨0x11A, 0x040, 8, 1, .ro, 0⟩
/-- FUSEMAP.PROG (19_memory_integrity.md). -/
def FUSEMAP.GO : Loc := ⟨0x11A, 0x044, 31, 1, .wo, 0⟩
def FUSEMAP.BUSY : Loc := ⟨0x11A, 0x044, 30, 1, .ro, 0⟩
def FUSEMAP.RESULT : Loc := ⟨0x11A, 0x044, 16, 4, .ro, 0⟩
def FUSEMAP.OP : Loc := ⟨0x11A, 0x044, 8, 2, .rw, 0⟩
def FUSEMAP.ARG : Loc := ⟨0x11A, 0x044, 0, 5, .rw, 0⟩
/-- FUSEMAP.PROG_ENTRY (19_memory_integrity.md). -/
def FUSEMAP.PROG_ENTRY : Loc := ⟨0x11A, 0x048, 0, 32, .rw, 0⟩
/-- FUSEMAP.FIELD (19_memory_integrity.md). -/
def FUSEMAP.FIELD (i : Nat) : Loc := ⟨0x11A, 0x080 + 4 * i, 0, 32, .ro, 0⟩
/-- FUSEMAP.FACT (19_memory_integrity.md). -/
def FUSEMAP.FACT (i : Nat) : Loc := ⟨0x11A, 0x100 + 4 * i, 0, 32, .ro, 0⟩
/-- FUSEMAP.SPARE (19_memory_integrity.md). -/
def FUSEMAP.VOLATILE (i : Nat) : Loc := ⟨0x11A, 0x200 + 4 * i, 8, 1, .ro, 0⟩
def FUSEMAP.COLS (i : Nat) : Loc := ⟨0x11A, 0x200 + 4 * i, 4, 2, .ro, 0⟩
def FUSEMAP.ROWS (i : Nat) : Loc := ⟨0x11A, 0x200 + 4 * i, 0, 4, .ro, 0⟩

/-- HKADC.Q_OVF_CNT (20_health_and_ageing.md). -/
def HKADC.Q_OVF_CNT : Loc := ⟨0x120, 0x02C, 0, 32, .ro, 0⟩
/-- HKADC.CFG (20_health_and_ageing.md). -/
def HKADC.SHIFT : Loc := ⟨0x120, 0x040, 16, 4, .rw, 0⟩
def HKADC.AVG_A : Loc := ⟨0x120, 0x040, 12, 4, .rw, 0⟩
def HKADC.SCS : Loc := ⟨0x120, 0x040, 8, 1, .rw, 0⟩
def HKADC.RATE : Loc := ⟨0x120, 0x040, 0, 4, .rw, 3⟩
/-- HKADC.SEQ_CFG (20_health_and_ageing.md). -/
def HKADC.SEQ_PERIOD : Loc := ⟨0x120, 0x044, 16, 16, .rw, 0⟩
def HKADC.SEQ_LEN : Loc := ⟨0x120, 0x044, 0, 5, .rw, 0⟩
/-- HKADC.SEQ (20_health_and_ageing.md). -/
def HKADC.SEQ (i : Nat) : Loc := ⟨0x120, 0x048 + 4 * i, 0, 6, .rw, 0⟩
/-- HKADC.CMD (20_health_and_ageing.md). -/
def HKADC.GO : Loc := ⟨0x120, 0x088, 31, 1, .wo, 0⟩
def HKADC.CH : Loc := ⟨0x120, 0x088, 0, 6, .rw, 0⟩
/-- HKADC.Q_CTL (20_health_and_ageing.md). -/
def HKADC.Q_POP : Loc := ⟨0x120, 0x08C, 31, 1, .wo, 0⟩
def HKADC.Q_FILL : Loc := ⟨0x120, 0x08C, 0, 7, .ro, 0⟩
/-- HKADC.Q_W0 (20_health_and_ageing.md). -/
def HKADC.Q_W0 : Loc := ⟨0x120, 0x090, 0, 32, .ro, 0⟩
/-- HKADC.Q_W1 (20_health_and_ageing.md). -/
def HKADC.Q_W1 : Loc := ⟨0x120, 0x094, 0, 32, .ro, 0⟩
/-- HKADC.STAT (20_health_and_ageing.md). -/
def HKADC.REF_OK : Loc := ⟨0x120, 0x098, 31, 1, .ro, 0⟩
def HKADC.STALE : Loc := ⟨0x120, 0x098, 30, 1, .ro, 0⟩
/-- HKADC.LAST (20_health_and_ageing.md). -/
def HKADC.LAST (i : Nat) : Loc := ⟨0x120, 0x100 + 4 * i, 0, 24, .ro, 0⟩
/-- HKADC.CMP (20_health_and_ageing.md). -/
def HKADC.CMP_EN (i : Nat) : Loc := ⟨0x120, 0x200 + 4 * i, 31, 1, .rw, 0⟩
def HKADC.CMP_POL (i : Nat) : Loc := ⟨0x120, 0x200 + 4 * i, 30, 1, .rw, 0⟩
def HKADC.CMP_HYST (i : Nat) : Loc := ⟨0x120, 0x200 + 4 * i, 24, 6, .rw, 4⟩
def HKADC.CMP_LVL (i : Nat) : Loc := ⟨0x120, 0x200 + 4 * i, 0, 16, .rw, 0⟩

/-- THERMAL.CFG (20_health_and_ageing.md). -/
def THERMAL.THR_ATT : Loc := ⟨0x121, 0x040, 0, 7, .rw, 12⟩
/-- THERMAL.STAT (20_health_and_ageing.md). -/
def THERMAL.WRITE_OK : Loc := ⟨0x121, 0x044, 31, 1, .ro, 0⟩
def THERMAL.T_MAX : Loc := ⟨0x121, 0x044, 0, 16, .ro, 0⟩
/-- THERMAL.LIM (20_health_and_ageing.md). -/
def THERMAL.LIM_THROTTLE (i : Nat) : Loc := ⟨0x121, 0x100 + 16 * i, 16, 16, .rw, (if 16 ≤ i then 420 else 0x7FFF)⟩
def THERMAL.LIM_WARN (i : Nat) : Loc := ⟨0x121, 0x100 + 16 * i, 0, 16, .rw, (if 16 ≤ i then 400 else 0x7FFF)⟩
/-- THERMAL.SHUT (20_health_and_ageing.md). -/
def THERMAL.SEN_EN (i : Nat) : Loc := ⟨0x121, 0x104 + 16 * i, 31, 1, .rw, (if 16 ≤ i then 1 else 0)⟩
def THERMAL.SHUT_EN (i : Nat) : Loc := ⟨0x121, 0x104 + 16 * i, 30, 1, .rw, (if 16 ≤ i then 1 else 0)⟩
def THERMAL.BROKEN_ACT (i : Nat) : Loc := ⟨0x121, 0x104 + 16 * i, 29, 1, .rw, (if 16 ≤ i then 1 else 0)⟩
def THERMAL.HYST (i : Nat) : Loc := ⟨0x121, 0x104 + 16 * i, 24, 5, .rw, 4⟩
def THERMAL.OCT_MASK (i : Nat) : Loc := ⟨0x121, 0x104 + 16 * i, 16, 8, .rw, (if 16 ≤ i ∧ i < 24 then 2 ^ (i - 16) else 0xFF)⟩
def THERMAL.SHUT (i : Nat) : Loc := ⟨0x121, 0x104 + 16 * i, 0, 16, .rw, (if 16 ≤ i then 500 else 0x7FFF)⟩
/-- THERMAL.STAT (20_health_and_ageing.md). -/
def THERMAL.BROKEN (i : Nat) : Loc := ⟨0x121, 0x108 + 16 * i, 31, 1, .ro, 0⟩
def THERMAL.ST_WARN (i : Nat) : Loc := ⟨0x121, 0x108 + 16 * i, 30, 1, .ro, 0⟩
def THERMAL.ST_THROTTLE (i : Nat) : Loc := ⟨0x121, 0x108 + 16 * i, 29, 1, .ro, 0⟩
def THERMAL.READING (i : Nat) : Loc := ⟨0x121, 0x108 + 16 * i, 0, 24, .ro, 0⟩
/-- THERMAL.SENS (20_health_and_ageing.md). -/
def THERMAL.SENS_B (i : Nat) : Loc := ⟨0x121, 0x10C + 16 * i, 16, 16, .rw, (if 8 ≤ i ∧ i < 12 then 3435 else 0)⟩
def THERMAL.SENS_LOW (i : Nat) : Loc := ⟨0x121, 0x10C + 16 * i, 0, 16, .rw, (if i < 8 then 16515 else if i < 12 then 1000 else 0)⟩

/-- AGEING.LIFE_LEFT (20_health_and_ageing.md). -/
def AGEING.LIFE_VALID : Loc := ⟨0x122, 0x02C, 31, 1, .ro, 0⟩
def AGEING.LIFE_LEFT : Loc := ⟨0x122, 0x02C, 0, 16, .ro, 0xFFFF⟩
/-- AGEING.SLACK (20_health_and_ageing.md). -/
def AGEING.SLACK_VALID (i : Nat) : Loc := ⟨0x122, 0x040 + 4 * i, 23, 1, .ro, 0⟩
def AGEING.SLACK_MIN (i : Nat) : Loc := ⟨0x122, 0x040 + 4 * i, 16, 7, .ro, 64⟩
def AGEING.SLACK (i : Nat) : Loc := ⟨0x122, 0x040 + 4 * i, 0, 7, .ro, 64⟩
/-- AGEING.CTRL (20_health_and_ageing.md). -/
def AGEING.PLAN_INT : Loc := ⟨0x122, 0x090, 31, 1, .rw, 1⟩
def AGEING.AUTO_RETIRE : Loc := ⟨0x122, 0x090, 30, 1, .rw, 1⟩
def AGEING.RETIRE_GRACE : Loc := ⟨0x122, 0x090, 16, 8, .rw, 60⟩
def AGEING.RETIRE_MAX : Loc := ⟨0x122, 0x090, 8, 8, .rw, 8⟩
def AGEING.CMPL_RETIRE : Loc := ⟨0x122, 0x090, 0, 4, .rw, 3⟩
/-- AGEING.STAGE (20_health_and_ageing.md). -/
def AGEING.HW_RETIRED : Loc := ⟨0x122, 0x094, 8, 8, .ro, 0⟩
def AGEING.STAGE : Loc := ⟨0x122, 0x094, 0, 2, .ro, 1⟩
/-- AGEING.IND (20_health_and_ageing.md). -/
def AGEING.IND_LEVEL (i : Nat) : Loc := ⟨0x122, 0x0A0 + 4 * i, 30, 2, .ro, 0⟩
def AGEING.IND_VALUE (i : Nat) : Loc := ⟨0x122, 0x0A0 + 4 * i, 0, 16, .ro, 0⟩
/-- AGEING.THR (20_health_and_ageing.md). -/
def AGEING.THR_WORN (i : Nat) : Loc := ⟨0x122, 0x0C0 + 4 * i, 16, 16, .rw, ([12, 20, 0, 0, 1, 24, 400].getD i 0)⟩
def AGEING.THR_WATCH (i : Nat) : Loc := ⟨0x122, 0x0C0 + 4 * i, 0, 16, .rw, ([24, 50, 1, 1, 4, 32, 200].getD i 0)⟩
/-- AGEING.CAND_TX_LO (20_health_and_ageing.md). -/
def AGEING.CAND_TX_LO : Loc := ⟨0x122, 0x100, 0, 32, .w1c, 0⟩
/-- AGEING.CAND_TX_HI (20_health_and_ageing.md). -/
def AGEING.CAND_TX_HI : Loc := ⟨0x122, 0x104, 0, 32, .w1c, 0⟩
/-- AGEING.CAND_RX_LO (20_health_and_ageing.md). -/
def AGEING.CAND_RX_LO : Loc := ⟨0x122, 0x108, 0, 32, .w1c, 0⟩
/-- AGEING.CAND_RX_HI (20_health_and_ageing.md). -/
def AGEING.CAND_RX_HI : Loc := ⟨0x122, 0x10C, 0, 32, .w1c, 0⟩
/-- AGEING.VETO_TX_LO (20_health_and_ageing.md). -/
def AGEING.VETO_TX_LO : Loc := ⟨0x122, 0x110, 0, 32, .rw, 0⟩
/-- AGEING.VETO_TX_HI (20_health_and_ageing.md). -/
def AGEING.VETO_TX_HI : Loc := ⟨0x122, 0x114, 0, 32, .rw, 0⟩
/-- AGEING.VETO_RX_LO (20_health_and_ageing.md). -/
def AGEING.VETO_RX_LO : Loc := ⟨0x122, 0x118, 0, 32, .rw, 0⟩
/-- AGEING.VETO_RX_HI (20_health_and_ageing.md). -/
def AGEING.VETO_RX_HI : Loc := ⟨0x122, 0x11C, 0, 32, .rw, 0⟩
/-- AGEING.RX_RETIRE_LO (20_health_and_ageing.md). -/
def AGEING.RX_RETIRE_LO : Loc := ⟨0x122, 0x120, 0, 32, .rw, 0⟩
/-- AGEING.RX_RETIRE_HI (20_health_and_ageing.md). -/
def AGEING.RX_RETIRE_HI : Loc := ⟨0x122, 0x124, 0, 32, .rw, 0⟩
/-- AGEING.BIAS_BASE (20_health_and_ageing.md). -/
def AGEING.BIAS_BASE (i : Nat) : Loc := ⟨0x122, 0x140 + 4 * i, 0, 12, .rl, 0⟩
/-- AGEING.LIFE_HOURS (20_health_and_ageing.md). -/
def AGEING.LIFE_HOURS : Loc := ⟨0x122, 0x180, 0, 32, .rl, 0⟩
/-- AGEING.LIFE_N (20_health_and_ageing.md). -/
def AGEING.LIFE_N : Loc := ⟨0x122, 0x184, 0, 32, .rl, 0⟩
/-- AGEING.SX_LO (20_health_and_ageing.md). -/
def AGEING.SX_LO : Loc := ⟨0x122, 0x188, 0, 32, .rl, 0⟩
/-- AGEING.SX_HI (20_health_and_ageing.md). -/
def AGEING.SX_HI : Loc := ⟨0x122, 0x18C, 0, 32, .rl, 0⟩
/-- AGEING.SY_LO (20_health_and_ageing.md). -/
def AGEING.SY_LO : Loc := ⟨0x122, 0x190, 0, 32, .rl, 0⟩
/-- AGEING.SY_HI (20_health_and_ageing.md). -/
def AGEING.SY_HI : Loc := ⟨0x122, 0x194, 0, 32, .rl, 0⟩
/-- AGEING.SXY_LO (20_health_and_ageing.md). -/
def AGEING.SXY_LO : Loc := ⟨0x122, 0x198, 0, 32, .rl, 0⟩
/-- AGEING.SXY_HI (20_health_and_ageing.md). -/
def AGEING.SXY_HI : Loc := ⟨0x122, 0x19C, 0, 32, .rl, 0⟩
/-- AGEING.SXX_LO (20_health_and_ageing.md). -/
def AGEING.SXX_LO : Loc := ⟨0x122, 0x1A0, 0, 32, .rl, 0⟩
/-- AGEING.SXX_HI (20_health_and_ageing.md). -/
def AGEING.SXX_HI : Loc := ⟨0x122, 0x1A4, 0, 32, .rl, 0⟩
/-- AGEING.LIFE_A (20_health_and_ageing.md). -/
def AGEING.LIFE_A : Loc := ⟨0x122, 0x1A8, 0, 32, .ro, 0⟩
/-- AGEING.LIFE_B (20_health_and_ageing.md). -/
def AGEING.LIFE_B : Loc := ⟨0x122, 0x1AC, 0, 32, .ro, 0⟩
/-- AGEING.LIFE_CFG (20_health_and_ageing.md). -/
def AGEING.TC : Loc := ⟨0x122, 0x1B0, 16, 16, .rw, 50⟩
def AGEING.LIFE_MARGIN : Loc := ⟨0x122, 0x1B0, 0, 16, .rw, 10⟩
/-- AGEING.BASE (20_health_and_ageing.md). -/
def AGEING.BASE (i : Nat) : Loc := ⟨0x122, 0x1C0 + 4 * i, 0, 20, .rw, ([60, 300, 0, 3600, 60, 300, 0, 3600, 0, 0, 10, 10].getD i 0)⟩

/-- AVS.PM_FAULT_CNT (20_health_and_ageing.md). -/
def AVS.PM_FAULT_CNT : Loc := ⟨0x123, 0x02C, 0, 32, .ro, 0⟩
/-- AVS.PM_CFG (20_health_and_ageing.md). -/
def AVS.PEC_EN : Loc := ⟨0x123, 0x040, 31, 1, .rl, 0⟩
def AVS.FAST : Loc := ⟨0x123, 0x040, 30, 1, .rl, 1⟩
def AVS.TEL_MS : Loc := ⟨0x123, 0x040, 16, 8, .rw, 10⟩
def AVS.PM_ADDR : Loc := ⟨0x123, 0x040, 0, 7, .rl, 0x40⟩
/-- AVS.VOLT (20_health_and_ageing.md). -/
def AVS.V_START : Loc := ⟨0x123, 0x044, 20, 10, .rl, 750⟩
def AVS.VMAX : Loc := ⟨0x123, 0x044, 10, 10, .rl, 850⟩
def AVS.VMIN : Loc := ⟨0x123, 0x044, 0, 10, .rl, 650⟩
/-- AVS.LOOP (20_health_and_ageing.md). -/
def AVS.LOWER_N : Loc := ⟨0x123, 0x048, 24, 8, .rw, 255⟩
def AVS.SLACK_LOWER : Loc := ⟨0x123, 0x048, 18, 6, .rw, 40⟩
def AVS.SLACK_RAISE : Loc := ⟨0x123, 0x048, 12, 6, .rw, 16⟩
def AVS.SLACK_EMERG : Loc := ⟨0x123, 0x048, 6, 6, .rw, 4⟩
/-- AVS.AVS_MASK (20_health_and_ageing.md). -/
def AVS.AVS_MASK : Loc := ⟨0x123, 0x04C, 0, 18, .rw, 0x3FFFF⟩
/-- AVS.TARGET (20_health_and_ageing.md). -/
def AVS.TARGET : Loc := ⟨0x123, 0x050, 0, 32, .ro, 0⟩
/-- AVS.READ_VOUT (20_health_and_ageing.md). -/
def AVS.READ_VOUT : Loc := ⟨0x123, 0x054, 0, 32, .ro, 0⟩
/-- AVS.READ_IOUT (20_health_and_ageing.md). -/
def AVS.READ_IOUT : Loc := ⟨0x123, 0x058, 0, 32, .ro, 0⟩
/-- AVS.READ_TEMP (20_health_and_ageing.md). -/
def AVS.READ_TEMP : Loc := ⟨0x123, 0x05C, 0, 32, .ro, 0⟩
/-- AVS.PM_STATUS (20_health_and_ageing.md). -/
def AVS.PM_STATUS : Loc := ⟨0x123, 0x060, 0, 32, .ro, 0⟩

/-- GPIO.DIR (21_pins_and_electrical.md). -/
def GPIO.OE : Loc := ⟨0x124, 0x040, 0, 16, .rw, 0⟩
/-- GPIO.OUT (21_pins_and_electrical.md). -/
def GPIO.OUT : Loc := ⟨0x124, 0x044, 0, 16, .rw, 0⟩
/-- GPIO.IN (21_pins_and_electrical.md). -/
def GPIO.INP : Loc := ⟨0x124, 0x048, 0, 16, .ro, 0⟩
/-- GPIO.PULL (21_pins_and_electrical.md). -/
def GPIO.PULL_UP : Loc := ⟨0x124, 0x04C, 16, 16, .rw, 0⟩
def GPIO.PULL_EN : Loc := ⟨0x124, 0x04C, 0, 16, .rw, 0xFFFF⟩
/-- GPIO.EDGE (21_pins_and_electrical.md). -/
def GPIO.FALL : Loc := ⟨0x124, 0x050, 16, 16, .rw, 0⟩
def GPIO.RISE : Loc := ⟨0x124, 0x050, 0, 16, .rw, 0⟩
/-- GPIO.BANK (21_pins_and_electrical.md). -/
def GPIO.DRIVE : Loc := ⟨0x124, 0x054, 16, 8, .rw, 0x55⟩
def GPIO.VIO_GOOD : Loc := ⟨0x124, 0x054, 0, 4, .ro, 0⟩

/-- AUXDAC.VBIAS_CFG (06_transmit_paths.md). -/
def AUXDAC.FORCE_SAFE (i : Nat) : Loc := ⟨0x125, 0x040 + 4 * i, 31, 1, .rw, 0⟩
def AUXDAC.KILL_SAFE (i : Nat) : Loc := ⟨0x125, 0x040 + 4 * i, 30, 1, .rw, 0⟩
def AUXDAC.SLEW_RATE (i : Nat) : Loc := ⟨0x125, 0x040 + 4 * i, 20, 8, .rw, 16⟩
def AUXDAC.RANGE (i : Nat) : Loc := ⟨0x125, 0x040 + 4 * i, 16, 1, .rw, 0⟩
def AUXDAC.CODE (i : Nat) : Loc := ⟨0x125, 0x040 + 4 * i, 0, 12, .rw, 0⟩
/-- AUXDAC.VBIAS_STAT (06_transmit_paths.md). -/
def AUXDAC.WRITTEN (i : Nat) : Loc := ⟨0x125, 0x080 + 4 * i, 28, 1, .ro, 0⟩
def AUXDAC.AT_SAFE (i : Nat) : Loc := ⟨0x125, 0x080 + 4 * i, 24, 1, .ro, 1⟩
def AUXDAC.SLEWING (i : Nat) : Loc := ⟨0x125, 0x080 + 4 * i, 20, 1, .ro, 0⟩
def AUXDAC.RANGE_ACT (i : Nat) : Loc := ⟨0x125, 0x080 + 4 * i, 16, 1, .ro, 0⟩
def AUXDAC.OUT_CODE (i : Nat) : Loc := ⟨0x125, 0x080 + 4 * i, 0, 12, .ro, 0⟩
/-- AUXDAC.VBIAS_SAFE (06_transmit_paths.md). -/
def AUXDAC.SAFE_RANGE (i : Nat) : Loc := ⟨0x125, 0x0C0 + 4 * i, 31, 1, .ro, 0⟩
def AUXDAC.MAX_CODE (i : Nat) : Loc := ⟨0x125, 0x0C0 + 4 * i, 16, 12, .ro, 0⟩
def AUXDAC.SAFE_CODE (i : Nat) : Loc := ⟨0x125, 0x0C0 + 4 * i, 0, 12, .ro, 0⟩

end Sys2Proof.Machine
end

