-- ==== Sys2Proof/Machine/RegMap.lean ====
section
/-! DEFINITION. The register map: which fields lie in each word of each page (R30-R32 and the register tables of
the chapters). A reserved bit belongs to no field, so it reads 0 (R4). -/

namespace Sys2Proof.Machine

/-- A run of `cnt` words of equal layout, from byte offset `off`, `stride` bytes apart. -/
structure WordRow where
  off : Nat
  cnt : Nat
  stride : Nat
  locs : Nat → List Loc

/-- The fields of the word at byte offset `off`, where the first row that covers it says so. -/
def findWord (rows : List WordRow) (off : Nat) : List Loc :=
  match rows.find? (fun r => decide (r.off ≤ off ∧ (off - r.off) % r.stride = 0 ∧ (off - r.off) / r.stride < r.cnt)) with
  | some r => r.locs ((off - r.off) / r.stride)
  | none => []

/-- The words of DEVICE. -/
def DEVICE.words : List WordRow :=
  [⟨0x02C, 1, 4, fun _ => [DEVICE.UNAVAIL_TIME_LO]⟩,
   ⟨0x030, 1, 4, fun _ => [DEVICE.UNAVAIL_TIME_HI]⟩,
   ⟨0x034, 1, 4, fun _ => [DEVICE.OUTAGE_COUNT]⟩,
   ⟨0x040, 1, 4, fun _ => [DEVICE.STEP, DEVICE.PART]⟩,
   ⟨0x044, 1, 4, fun _ => [DEVICE.MODE_REQ]⟩,
   ⟨0x048, 1, 4, fun _ => [DEVICE.HALT, DEVICE.MGMT_RESTART_ACT, DEVICE.PREV, DEVICE.REFUSE, DEVICE.TRANS, DEVICE.MODE]⟩,
   ⟨0x04C, 1, 4, fun _ => [DEVICE.BOOT_OK_SEEN, DEVICE.BOOT_OK]⟩,
   ⟨0x050, 1, 4, fun _ => [DEVICE.LAST_FAIL, DEVICE.FAIL_COUNT, DEVICE.BOOT_REASON]⟩,
   ⟨0x054, 1, 4, fun _ => [DEVICE.STABLE_TIME]⟩,
   ⟨0x058, 1, 4, fun _ => [DEVICE.DEVICE_RESET, DEVICE.MGMT_RESTART]⟩,
   ⟨0x05C, 1, 4, fun _ => [DEVICE.CONT_LEFT]⟩,
   ⟨0x060, 1, 4, fun _ => [DEVICE.RETIRED_RX_LO]⟩,
   ⟨0x064, 1, 4, fun _ => [DEVICE.RETIRED_RX_HI]⟩,
   ⟨0x068, 1, 4, fun _ => [DEVICE.RETIRED_TX_LO]⟩,
   ⟨0x06C, 1, 4, fun _ => [DEVICE.RETIRED_TX_HI]⟩,
   ⟨0x070, 1, 4, fun _ => [DEVICE.SVC_LEVEL]⟩]

/-- The words of LIMITS. -/
def LIMITS.words : List WordRow :=
  [⟨0x040, 1, 4, fun _ => [LIMITS.LR_VALID, LIMITS.KEY_SLOT, LIMITS.LR_VER]⟩,
   ⟨0x100, 100, 4, fun i => [LIMITS.REC i]⟩]

/-- The words of SECURITY. -/
def SECURITY.words : List WordRow :=
  [⟨0x02C, 1, 4, fun _ => [SECURITY.LR_FAIL_CNT]⟩,
   ⟨0x030, 1, 4, fun _ => [SECURITY.UNLOCK_FAIL_CNT]⟩,
   ⟨0x034, 1, 4, fun _ => [SECURITY.LIMIT_LO_CNT]⟩,
   ⟨0x040, 1, 4, fun _ => [SECURITY.SERIAL_LO]⟩,
   ⟨0x044, 1, 4, fun _ => [SECURITY.SERIAL_HI]⟩,
   ⟨0x048, 1, 4, fun _ => [SECURITY.PROVISIONED, SECURITY.SCAN_PERMIT, SECURITY.LR_RB, SECURITY.PROGRAMMED, SECURITY.REVOKE]⟩,
   ⟨0x04C, 1, 4, fun _ => [SECURITY.OTP_GO, SECURITY.OTP_BUSY, SECURITY.OTP_OP, SECURITY.OTP_RESULT, SECURITY.OTP_ARG]⟩,
   ⟨0x050, 1, 4, fun _ => [SECURITY.LR_GO, SECURITY.LR_BUSY, SECURITY.LR_RESULT]⟩,
   ⟨0x054, 1, 4, fun _ => [SECURITY.LR_ADDR]⟩,
   ⟨0x058, 1, 4, fun _ => [SECURITY.KE_GO, SECURITY.KE_BUSY, SECURITY.KE_OP, SECURITY.KE_RESULT]⟩,
   ⟨0x05C, 1, 4, fun _ => [SECURITY.KEY_TB_LO]⟩,
   ⟨0x060, 1, 4, fun _ => [SECURITY.KEY_TB_HI]⟩,
   ⟨0x064, 1, 4, fun _ => [SECURITY.RNG_DATA]⟩,
   ⟨0x068, 1, 4, fun _ => [SECURITY.RNG_STAT]⟩,
   ⟨0x06C, 1, 4, fun _ => [SECURITY.CHAL, SECURITY.UNLOCK, SECURITY.SCAN_EN, SECURITY.DBG_EN, SECURITY.DBG_RESULT]⟩,
   ⟨0x100, 8, 4, fun i => [SECURITY.KEY_HASH_IN i]⟩,
   ⟨0x140, 16, 4, fun i => [SECURITY.ID_PUB i]⟩,
   ⟨0x180, 16, 4, fun i => [SECURITY.KE_PUB i]⟩,
   ⟨0x1C0, 16, 4, fun i => [SECURITY.KE_SIG i]⟩,
   ⟨0x200, 8, 4, fun i => [SECURITY.KE_NONCE i]⟩,
   ⟨0x220, 4, 4, fun i => [SECURITY.DBG_NONCE i]⟩,
   ⟨0x240, 16, 4, fun i => [SECURITY.PEER_STATIC i]⟩,
   ⟨0x280, 16, 4, fun i => [SECURITY.PEER_EPH i]⟩,
   ⟨0x2C0, 16, 4, fun i => [SECURITY.PEER_SIG i]⟩,
   ⟨0x300, 42, 4, fun i => [SECURITY.TOKEN i]⟩,
   ⟨0x400, 32, 4, fun i => [SECURITY.ATT_W i]⟩,
   ⟨0x080, 32, 4, fun j => [SECURITY.HASH (j / 8) (j % 8)]⟩]

/-- The words of ARBITER. -/
def ARBITER.words : List WordRow :=
  [⟨0x040, 6, 4, fun i => [ARBITER.SUP_CNT i]⟩,
   ⟨0x060, 1, 4, fun _ => [ARBITER.LAST_SUP_ADDR]⟩,
   ⟨0x064, 1, 4, fun _ => [ARBITER.LOSER, ARBITER.WINNER, ARBITER.PROTECTIVE]⟩,
   ⟨0x068, 1, 4, fun _ => [ARBITER.LAST_SUP_TB_LO]⟩,
   ⟨0x06C, 1, 4, fun _ => [ARBITER.LAST_SUP_TB_HI]⟩,
   ⟨0x070, 1, 4, fun _ => [ARBITER.LAST_REF_ADDR]⟩,
   ⟨0x074, 1, 4, fun _ => [ARBITER.CLASS, ARBITER.CODE]⟩,
   ⟨0x080, 16, 4, fun i => [ARBITER.PEND i]⟩]

/-- The words of CPLL. -/
def CPLL.words : List WordRow :=
  [⟨0x040, 1, 4, fun _ => [CPLL.REF_OK, CPLL.BYP_PRESENT, CPLL.REF_RATE]⟩,
   ⟨0x044, 1, 4, fun _ => [CPLL.ADC_PHASE, CPLL.DAC_PHASE, CPLL.LOCKA_SEL, CPLL.LOCK_WIN]⟩,
   ⟨0x048, 1, 4, fun _ => [CPLL.LOL_CNT, CPLL.BAND, CPLL.BYPASS, CPLL.MUTED, CPLL.BAND_FAIL, CPLL.READY, CPLL.LOCKED]⟩]

/-- The words of LO. -/
def LO.words (n : Nat) : List WordRow :=
  [⟨0x040, 1, 4, fun _ => [LO.NINT n, LO.FRAC n]⟩,
   ⟨0x044, 1, 4, fun _ => [LO.FASTLOCK n, LO.OUTDIV n]⟩,
   ⟨0x048, 1, 4, fun _ => if n = 0 then [LO.LO_ASSIGN n] else []⟩,
   ⟨0x04C, 1, 4, fun _ => [LO.LOL_CNT n, LO.BAND n, LO.BYPASS n, LO.MUTED n, LO.BAND_FAIL n, LO.READY n, LO.LOCKED n]⟩]

/-- The words of LPLL. -/
def LPLL.words : List WordRow :=
  [⟨0x040, 1, 4, fun _ => [LPLL.RATE]⟩,
   ⟨0x044, 1, 4, fun _ => [LPLL.LOL_CNT, LPLL.BAND, LPLL.BYPASS, LPLL.MUTED, LPLL.BAND_FAIL, LPLL.READY, LPLL.LOCKED]⟩]

/-- The words of TIMEBASE. -/
def TIMEBASE.words : List WordRow :=
  [⟨0x040, 1, 4, fun _ => [TIMEBASE.NOW_LO]⟩,
   ⟨0x044, 1, 4, fun _ => [TIMEBASE.NOW_HI]⟩,
   ⟨0x048, 1, 4, fun _ => [TIMEBASE.PRESET_LO]⟩,
   ⟨0x04C, 1, 4, fun _ => [TIMEBASE.PRESET_HI]⟩,
   ⟨0x050, 1, 4, fun _ => [TIMEBASE.STEP_VAL]⟩,
   ⟨0x054, 1, 4, fun _ => [TIMEBASE.TSRC_EN, TIMEBASE.STEP_GO, TIMEBASE.VALID_SET]⟩,
   ⟨0x058, 1, 4, fun _ => [TIMEBASE.INC, TIMEBASE.SRC_ACT, TIMEBASE.REF_HOLD, TIMEBASE.VALID]⟩,
   ⟨0x05C, 1, 4, fun _ => [TIMEBASE.NET_OFFSET]⟩,
   ⟨0x060, 1, 4, fun _ => [TIMEBASE.FREQ_ERR]⟩]

/-- The words of TSYNC. -/
def TSYNC.words : List WordRow :=
  [⟨0x040, 1, 4, fun _ => [TSYNC.OUT_WIDTH, TSYNC.OUT_REPEAT, TSYNC.OUT_ARM, TSYNC.MODE]⟩,
   ⟨0x044, 1, 4, fun _ => [TSYNC.PERIOD]⟩,
   ⟨0x048, 1, 4, fun _ => [TSYNC.LAST_TB_LO]⟩,
   ⟨0x04C, 1, 4, fun _ => [TSYNC.LAST_TB_HI]⟩,
   ⟨0x050, 1, 4, fun _ => [TSYNC.DIFF]⟩,
   ⟨0x054, 1, 4, fun _ => [TSYNC.OUT_TB_LO]⟩,
   ⟨0x058, 1, 4, fun _ => [TSYNC.OUT_TB_HI]⟩,
   ⟨0x05C, 1, 4, fun _ => [TSYNC.PULSES, TSYNC.DIFF_ERRS]⟩]

/-- The words of RXPATH. -/
def RXPATH.words (n : Nat) : List WordRow :=
  [⟨0x02C, 1, 4, fun _ => [RXPATH.OVL_CNT n]⟩,
   ⟨0x030, 1, 4, fun _ => [RXPATH.MODRST_CNT n]⟩,
   ⟨0x034, 1, 4, fun _ => [RXPATH.RXQ_OVF_CNT n]⟩,
   ⟨0x038, 1, 4, fun _ => [RXPATH.COMP_SWAP_CNT n]⟩,
   ⟨0x03C, 1, 4, fun _ => [RXPATH.SAT_CNT n]⟩,
   ⟨0x040, 1, 4, fun _ => [RXPATH.GAIN_OBS n, RXPATH.GAIN_ANT n]⟩,
   ⟨0x044, 1, 4, fun _ => [RXPATH.BBF_TRIM n, RXPATH.BBF_BW n]⟩,
   ⟨0x048, 1, 4, fun _ => [RXPATH.PATH_STATE n, RXPATH.INSEL_ACT n, RXPATH.INSEL_OVR n, RXPATH.INSEL_FORCE n]⟩,
   ⟨0x04C, 1, 4, fun _ => [RXPATH.OVL_EN n, RXPATH.OVL_FORCE n, RXPATH.OVL_DECAY n, RXPATH.OVL_HOLD n, RXPATH.OVL_THR n]⟩,
   ⟨0x050, 1, 4, fun _ => [RXPATH.ATT_NOW n, RXPATH.OVL_ACT n]⟩,
   ⟨0x054, 1, 4, fun _ => [RXPATH.COMP_MAP_I n]⟩,
   ⟨0x058, 1, 4, fun _ => [RXPATH.COMP_MAP_Q n]⟩,
   ⟨0x05C, 1, 4, fun _ => [RXPATH.SPARES_Q n, RXPATH.SPARES_I n]⟩,
   ⟨0x060, 1, 4, fun _ => [RXPATH.DC_Q n, RXPATH.DC_I n]⟩,
   ⟨0x080, 1, 4, fun _ => [RXPATH.FIR_ASYM n, RXPATH.FIR_BANK n, RXPATH.NUMFMT n]⟩,
   ⟨0x084, 1, 4, fun _ => [RXPATH.DEC_ALIGN n]⟩,
   ⟨0x088, 1, 4, fun _ => [RXPATH.DC_CORR_I n]⟩,
   ⟨0x08C, 1, 4, fun _ => [RXPATH.DC_CORR_Q n]⟩,
   ⟨0x090, 1, 4, fun _ => [RXPATH.IQ_GAIN n]⟩,
   ⟨0x094, 7, 4, fun i => [RXPATH.IQ_X n i]⟩,
   ⟨0x0B0, 1, 4, fun _ => [RXPATH.GD_NOW n]⟩,
   ⟨0x0C0, 1, 4, fun _ => [RXPATH.THR_HI n]⟩,
   ⟨0x0C4, 1, 4, fun _ => [RXPATH.THR_LO n]⟩,
   ⟨0x0C8, 1, 4, fun _ => [RXPATH.THR_EN n, RXPATH.OVL_HI n, RXPATH.THR_HOLD n]⟩,
   ⟨0x0CC, 1, 4, fun _ => [RXPATH.THR_STATE n, RXPATH.THR_COUNT n]⟩,
   ⟨0x0D0, 1, 4, fun _ => [RXPATH.THR_TB_LO n]⟩,
   ⟨0x0D4, 1, 4, fun _ => [RXPATH.THR_TB_HI n]⟩,
   ⟨0x200, 96, 4, fun i => [RXPATH.FIR_B0 n i]⟩,
   ⟨0x400, 96, 4, fun i => [RXPATH.FIR_B1 n i]⟩]

/-- The words of TXPATH. -/
def TXPATH.words (n : Nat) : List WordRow :=
  [⟨0x02C, 1, 4, fun _ => [TXPATH.TXQ_UFL_CNT n]⟩,
   ⟨0x030, 1, 4, fun _ => [TXPATH.CMPL_CNT n]⟩,
   ⟨0x034, 1, 4, fun _ => [TXPATH.CELL_SWAP_CNT n]⟩,
   ⟨0x038, 1, 4, fun _ => [TXPATH.SAT_CNT n]⟩,
   ⟨0x03C, 1, 4, fun _ => [TXPATH.CFR_PEAK_CNT n]⟩,
   ⟨0x040, 1, 4, fun _ => [TXPATH.CMPL_MUTE n, TXPATH.NUMFMT n, TXPATH.FS_RANGE n]⟩,
   ⟨0x044, 1, 4, fun _ => [TXPATH.KILL_PIN n, TXPATH.CAUSE_CMPL n, TXPATH.CAUSE_KILL n, TXPATH.CAUSE_SW n, TXPATH.TX_MUTE n]⟩,
   ⟨0x048, 1, 4, fun _ => [TXPATH.PATH_STATE n, TXPATH.DRV n, TXPATH.RANGE_ACT n, TXPATH.RANGE_BUSY n, TXPATH.FIRST_SAMPLE n]⟩,
   ⟨0x04C, 1, 4, fun _ => [TXPATH.CFR_EN n, TXPATH.CFR_WIN n, TXPATH.CFR_PAR n]⟩,
   ⟨0x050, 1, 4, fun _ => [TXPATH.TXF_TRIM n, TXPATH.TXF_BW n]⟩,
   ⟨0x054, 1, 4, fun _ => [TXPATH.CELL_MAP_I n]⟩,
   ⟨0x058, 1, 4, fun _ => [TXPATH.CELL_MAP_Q n]⟩,
   ⟨0x05C, 1, 4, fun _ => [TXPATH.CELL_SPARES_Q n, TXPATH.CELL_SPARES_I n]⟩,
   ⟨0x060, 1, 4, fun _ => [TXPATH.CMPL_MIN n, TXPATH.SHORT n, TXPATH.OPEN n]⟩,
   ⟨0x064, 1, 4, fun _ => [TXPATH.MINFILL n]⟩,
   ⟨0x068, 1, 4, fun _ => [TXPATH.RETIRE n]⟩,
   ⟨0x070, 1, 4, fun _ => [TXPATH.DCT_I n]⟩,
   ⟨0x074, 1, 4, fun _ => [TXPATH.DCT_Q n]⟩,
   ⟨0x078, 1, 4, fun _ => [TXPATH.TX_IQ_GAIN n]⟩,
   ⟨0x07C, 7, 4, fun i => [TXPATH.TX_IQ_X n i]⟩,
   ⟨0x0B0, 1, 4, fun _ => [TXPATH.GD_NOW n]⟩,
   ⟨0x0C0, 1, 4, fun _ => [TXPATH.THR_HI n]⟩,
   ⟨0x0C4, 1, 4, fun _ => [TXPATH.THR_LO n]⟩,
   ⟨0x0C8, 1, 4, fun _ => [TXPATH.THR_EN n, TXPATH.OVL_HI n, TXPATH.THR_HOLD n]⟩,
   ⟨0x0CC, 1, 4, fun _ => [TXPATH.THR_STATE n, TXPATH.THR_COUNT n]⟩,
   ⟨0x0D0, 1, 4, fun _ => [TXPATH.THR_TB_LO n]⟩,
   ⟨0x0D4, 1, 4, fun _ => [TXPATH.THR_TB_HI n]⟩,
   ⟨0x100, 25, 4, fun i => [TXPATH.CFR_PULSE n i]⟩]

/-- The words of OCTET. -/
def OCTET.words (n : Nat) : List WordRow :=
  [⟨0x02C, 1, 4, fun _ => [OCTET.SUPP_CNT n]⟩,
   ⟨0x04C, 1, 4, fun _ => [OCTET.PAT_EN n, OCTET.SPLIT_OFS n, OCTET.OBS_MASK n]⟩,
   ⟨0x050, 1, 4, fun _ => [OCTET.TRSW_POL n, OCTET.TRSW_CAL n, OCTET.TRSW_ADV n]⟩,
   ⟨0x054, 1, 4, fun _ => [OCTET.RFFE_TX_SEQ n, OCTET.RFFE_TX_LEAD n]⟩,
   ⟨0x058, 1, 4, fun _ => [OCTET.RFFE_RX_SEQ n, OCTET.RFFE_RX_LEAD n]⟩,
   ⟨0x05C, 1, 4, fun _ => [OCTET.SUPP_CAUSE n]⟩,
   ⟨0x060, 1, 4, fun _ => [OCTET.SUPP_TB_LO n]⟩,
   ⟨0x064, 1, 4, fun _ => [OCTET.SUPP_TB_HI n]⟩,
   ⟨0x068, 1, 4, fun _ => [OCTET.PAT_LOADED n, OCTET.TRSW_NOW n, OCTET.SLOT_NOW n]⟩,
   ⟨0x040, 2, 4, fun m => (List.range 8).map (fun j => OCTET.TYPE n (8 * m + j))⟩,
   ⟨0x048, 1, 4, fun _ => (List.range 4).map (fun j => OCTET.TYPE n (16 + j))⟩]

/-- The words of MONTAP. -/
def MONTAP.words (n : Nat) : List WordRow :=
  [⟨0x02C, 1, 4, fun _ => [MONTAP.ENV_DROP_CNT n]⟩,
   ⟨0x040, 1, 4, fun _ => [MONTAP.SRC_KIND n, MONTAP.SRC_PATH n]⟩,
   ⟨0x044, 1, 4, fun _ => [MONTAP.ENV_DEST n, MONTAP.ENV_IDX n, MONTAP.RMS_K n, MONTAP.PEAK_P n, MONTAP.BAND_BW n]⟩,
   ⟨0x048, 1, 4, fun _ => [MONTAP.NCO n]⟩,
   ⟨0x04C, 1, 4, fun _ => [MONTAP.PEAK n]⟩,
   ⟨0x050, 1, 4, fun _ => [MONTAP.PEAK_TB_LO n]⟩,
   ⟨0x054, 1, 4, fun _ => [MONTAP.PEAK_TB_HI n]⟩,
   ⟨0x058, 1, 4, fun _ => [MONTAP.MS n]⟩,
   ⟨0x05C, 1, 4, fun _ => [MONTAP.MS_TB_LO n]⟩,
   ⟨0x060, 1, 4, fun _ => [MONTAP.MS_TB_HI n]⟩,
   ⟨0x064, 1, 4, fun _ => [MONTAP.MS_NVALID n]⟩,
   ⟨0x068, 1, 4, fun _ => [MONTAP.MS_STALE n, MONTAP.PEAK_STALE n, MONTAP.MS_VALID n, MONTAP.PEAK_VALID n]⟩]

/-- The words of BEAM. -/
def BEAM.words (n : Nat) : List WordRow :=
  [⟨0x02C, 1, 4, fun _ => [BEAM.DMG_CNT n]⟩,
   ⟨0x030, 1, 4, fun _ => [BEAM.SAT_CNT n]⟩,
   ⟨0x034, 1, 4, fun _ => [BEAM.LIM_CNT n]⟩,
   ⟨0x040, 1, 4, fun _ => [BEAM.RENORM_EN n, BEAM.NUMFMT n, BEAM.SHIFT n, BEAM.NLAYERS n, BEAM.RENORM_MAX n, BEAM.FMT n, BEAM.RATE n, BEAM.MODE n]⟩,
   ⟨0x044, 1, 4, fun _ => [BEAM.SET_SEL n]⟩,
   ⟨0x050, 1, 4, fun _ => [BEAM.RENORM_BUSY n, BEAM.EMPTY n, BEAM.BANK_ACT n, BEAM.SET_ACT n]⟩,
   ⟨0x054, 1, 4, fun _ => [BEAM.DMG_SET n, BEAM.DMG_BANK n, BEAM.DMG_LAYER n, BEAM.DMG_PATH n]⟩,
   ⟨0x058, 1, 4, fun _ => [BEAM.DMG_TB_LO n]⟩,
   ⟨0x05C, 1, 4, fun _ => [BEAM.DMG_TB_HI n]⟩,
   ⟨0x060, 1, 4, fun _ => if n = 0 then [BEAM.FILL_GO n, BEAM.FILL_BUSY n, BEAM.FILL_BLK n] else []⟩,
   ⟨0x080, 24, 4, fun i => [BEAM.LAYER_ATT n i, BEAM.GAIN n i]⟩,
   ⟨0x100, 64, 4, fun i => if n = 0 then [BEAM.PATH_ATT n i] else []⟩,
   ⟨0x048, 2, 4, fun m => (List.range 4).flatMap (fun j => [BEAM.RAW_VALID n (4 * m + j), BEAM.RAW_PATH n (4 * m + j)])⟩]

/-- The words of BEAMSET. -/
def BEAMSET.words (n : Nat) : List WordRow :=
  [⟨0x040, 256, 4, fun i => [BEAMSET.SWAP_REQ n i, BEAMSET.ACT_BANK n i, BEAMSET.DAMAGED1 n i, BEAMSET.DAMAGED0 n i, BEAMSET.BLK1_VALID n i, BEAMSET.BLK1 n i, BEAMSET.BLK0_VALID n i, BEAMSET.BLK0 n i]⟩]

/-- The words of DPD0. -/
def DPD0.words : List WordRow :=
  [⟨0x02C, 1, 4, fun _ => [DPD0.UPD_CNT]⟩,
   ⟨0x030, 1, 4, fun _ => [DPD0.RESTORE_CNT]⟩,
   ⟨0x034, 1, 4, fun _ => [DPD0.CHKFAIL_CNT]⟩,
   ⟨0x038, 1, 4, fun _ => [DPD0.LAP_CNT]⟩,
   ⟨0x040, 1, 4, fun _ => [DPD0.ADAPT_EN, DPD0.STRUCT_OK, DPD0.CORE_MASK, DPD0.CAP_PORT_OBS, DPD0.CAP_PORT_REF, DPD0.CAP_LEN]⟩,
   ⟨0x044, 1, 4, fun _ => [DPD0.GUARD_EN, DPD0.GUARD_TAP_A, DPD0.GUARD_TAP_C, DPD0.GUARD_N, DPD0.GUARD_TO, DPD0.GUARD_MARGIN]⟩,
   ⟨0x048, 1, 4, fun _ => [DPD0.MU, DPD0.STEP_MAX]⟩,
   ⟨0x04C, 1, 4, fun _ => [DPD0.LAP_MASK_LO]⟩,
   ⟨0x050, 1, 4, fun _ => [DPD0.LAP_MASK_HI]⟩,
   ⟨0x054, 1, 4, fun _ => [DPD0.LAP_TIME, DPD0.NEXT_PATH]⟩]

/-- The words of DPD1. -/
def DPD1.words : List WordRow :=
  [⟨0x040, 64, 4, fun i => [DPD1.FROZEN i, DPD1.UPD_REQ i, DPD1.MODEL_STALE i, DPD1.PHASE i, DPD1.LAST_RESULT i, DPD1.ACT_BANK i, DPD1.DPD_EN_ACT i, DPD1.DPD_EN i]⟩]

/-- The words of DPD2. -/
def DPD2.words : List WordRow :=
  [⟨0x040, 8, 32, fun i => [DPD2.VALID i, DPD2.JOB_RELEASE i, DPD2.BANK i, DPD2.PATH i]⟩,
   ⟨0x044, 8, 32, fun i => [DPD2.REF_ADDR i]⟩,
   ⟨0x048, 8, 32, fun i => [DPD2.OBS_ADDR i]⟩,
   ⟨0x04C, 8, 32, fun i => [DPD2.REF_TB_LO i]⟩,
   ⟨0x050, 8, 32, fun i => [DPD2.REF_TB_HI i]⟩,
   ⟨0x054, 8, 32, fun i => [DPD2.LAG_NOM i]⟩]

/-- The words of DPD3. -/
def DPD3.words : List WordRow :=
  [⟨0x040, 64, 4, fun i => [DPD3.ACLR_AFTER i, DPD3.ACLR_BEFORE i, DPD3.OBS_BOARD_DLY i]⟩]

/-- The words of TIMELINE0. -/
def TIMELINE0.words : List WordRow :=
  [⟨0x02C, 1, 4, fun _ => [TIMELINE0.DROP_CNT]⟩,
   ⟨0x040, 1, 4, fun _ => [TIMELINE0.EPOCH_LO]⟩,
   ⟨0x044, 1, 4, fun _ => [TIMELINE0.EPOCH_HI]⟩,
   ⟨0x048, 1, 4, fun _ => [TIMELINE0.ENQ_TB_LO]⟩,
   ⟨0x04C, 1, 4, fun _ => [TIMELINE0.ENQ_TB_HI]⟩,
   ⟨0x050, 1, 4, fun _ => [TIMELINE0.ENQ_ARG]⟩,
   ⟨0x054, 1, 4, fun _ => [TIMELINE0.ENQ_CODE, TIMELINE0.ENQ_STATE, TIMELINE0.ENQ_RET, TIMELINE0.ENQ_RANGE, TIMELINE0.ENQ_PATH_MASK, TIMELINE0.ENQ_OCT_MASK]⟩,
   ⟨0x058, 1, 4, fun _ => [TIMELINE0.DROP_REASON, TIMELINE0.DROP_OCTET, TIMELINE0.LAST_DROP_CODE]⟩,
   ⟨0x05C, 1, 4, fun _ => [TIMELINE0.LAST_DROP_TB_LO]⟩,
   ⟨0x060, 1, 4, fun _ => [TIMELINE0.LAST_DROP_TB_HI]⟩,
   ⟨0x064, 1, 4, fun _ => [TIMELINE0.AUTO_EN, TIMELINE0.DEEP_EN, TIMELINE0.EVT_WAKE, TIMELINE0.DEEP_MIN, TIMELINE0.SLEEP_MIN]⟩,
   ⟨0x068, 1, 4, fun _ => [TIMELINE0.DS_STATE, TIMELINE0.US_STATE]⟩]

/-- The words of TIMELINE1. -/
def TIMELINE1.words : List WordRow :=
  [⟨0x040, 8, 16, fun i => [TIMELINE1.FILL i, TIMELINE1.FLUSH i]⟩,
   ⟨0x044, 8, 16, fun i => [TIMELINE1.NEXT_TB_LO i]⟩,
   ⟨0x048, 8, 16, fun i => [TIMELINE1.NEXT_TB_HI i]⟩,
   ⟨0x04C, 8, 16, fun i => [TIMELINE1.DROP_CNT i]⟩]

/-- The words of TIMELINE2. -/
def TIMELINE2.words : List WordRow :=
  [⟨0x040, 4, 4, fun i => [TIMELINE2.BUS_EN i, TIMELINE2.BUSY i, TIMELINE2.DIV i]⟩,
   ⟨0x050, 4, 4, fun i => [TIMELINE2.RD_VALID i, TIMELINE2.RD_PERR i, TIMELINE2.RD_USID i, TIMELINE2.RD_ADDR i, TIMELINE2.RD_DATA i]⟩,
   ⟨0x084, 15, 4, fun i => [TIMELINE2.START (i + 1), TIMELINE2.LEN (i + 1)]⟩]

/-- The words of TIMELINE3. -/
def TIMELINE3.words : List WordRow :=
  [⟨0x400, 256, 4, fun i => [TIMELINE3.BUS i, TIMELINE3.TYPE i, TIMELINE3.USID i, TIMELINE3.ADDR i, TIMELINE3.DATA i]⟩]

/-- The words of CAL0. -/
def CAL0.words : List WordRow :=
  [⟨0x02C, 1, 4, fun _ => [CAL0.FAIL_CNT]⟩,
   ⟨0x030, 1, 4, fun _ => [CAL0.DISCARD_CNT]⟩,
   ⟨0x034, 1, 4, fun _ => [CAL0.TXQ_UFL_CNT]⟩,
   ⟨0x038, 1, 4, fun _ => [CAL0.CMPL_CNT]⟩,
   ⟨0x040, 1, 4, fun _ => [CAL0.BG_EN, CAL0.ARR_AUTO_TX, CAL0.ARR_AUTO_RX, CAL0.LOPH_AUTO, CAL0.WD_MAX, CAL0.AVG]⟩,
   ⟨0x044, 1, 4, fun _ => [CAL0.FG_GO, CAL0.FG_ABORT, CAL0.FG_BUSY, CAL0.KIND_MASK]⟩,
   ⟨0x048, 1, 4, fun _ => [CAL0.FG_PATH_LO]⟩,
   ⟨0x04C, 1, 4, fun _ => [CAL0.FG_PATH_HI]⟩,
   ⟨0x050, 1, 4, fun _ => [CAL0.SLEW_PH, CAL0.SLEW_GAIN, CAL0.SLEW_DLY, CAL0.IQ_K, CAL0.DC_K]⟩,
   ⟨0x054, 1, 4, fun _ => [CAL0.ROLE, CAL0.CHIPS, CAL0.CHIP_IDX, CAL0.REF_PATH, CAL0.CODE_REL, CAL0.CALTX_ATT]⟩,
   ⟨0x058, 1, 4, fun _ => [CAL0.LO_SEL, CAL0.CALRX_GAIN]⟩,
   ⟨0x05C, 1, 4, fun _ => [CAL0.KILL_PIN, CAL0.CAUSE_CMPL, CAL0.CAUSE_KILL, CAL0.CAUSE_SW, CAL0.TX_MUTE]⟩,
   ⟨0x060, 1, 4, fun _ => [CAL0.REF_OK, CAL0.REF_DEV]⟩,
   ⟨0x064, 1, 4, fun _ => [CAL0.FAIL_REASON, CAL0.FAIL_KIND, CAL0.FAIL_CALPATH, CAL0.FAIL_PATH]⟩,
   ⟨0x080, 12, 4, fun i => [CAL0.INTERVAL i, CAL0.DT_TRIG i]⟩,
   ⟨0x0C0, 8, 4, fun i => [CAL0.OCT_PHASE i]⟩]

/-- The words of CALT. -/
def CALT.words (n : Nat) : List WordRow :=
  [⟨0x040, 65, 8, fun i => [CALT.TGT_RE n i, CALT.TGT_IM n i]⟩,
   ⟨0x044, 65, 8, fun i => [CALT.TGT_DLY n i]⟩,
   ⟨0x400, 65, 8, fun i => [CALT.NOW_RE n i, CALT.NOW_IM n i]⟩,
   ⟨0x404, 65, 8, fun i => [CALT.NOW_DLY n i]⟩]

/-- The words of CAL3. -/
def CAL3.words : List WordRow :=
  [⟨0x040, 65, 8, fun i => [CAL3.STAT_TX_VALID i, CAL3.STAT_TX_WITHDRAWN i, CAL3.STAT_TX_DUE i, CAL3.STAT_TX_TEMP_CAL i, CAL3.STAT_TX_AGE i]⟩,
   ⟨0x044, 65, 8, fun i => [CAL3.STAT_RX_VALID i, CAL3.STAT_RX_WITHDRAWN i, CAL3.STAT_RX_DUE i, CAL3.STAT_RX_TEMP_CAL i, CAL3.STAT_RX_AGE i]⟩,
   ⟨0x400, 65, 16, fun i => [CAL3.RES_TX_G i]⟩,
   ⟨0x404, 65, 16, fun i => [CAL3.RES_TX_D i]⟩,
   ⟨0x408, 65, 16, fun i => [CAL3.RES_RX_G i]⟩,
   ⟨0x40C, 65, 16, fun i => [CAL3.RES_RX_D i]⟩]

/-- The words of LINK. -/
def LINK.words : List WordRow :=
  [⟨0x02C, 1, 4, fun _ => [LINK.US_UFL_CNT]⟩,
   ⟨0x030, 1, 4, fun _ => [LINK.WAKE_FAIL_CNT]⟩,
   ⟨0x040, 1, 4, fun _ => [LINK.EYE_MIN, LINK.LOOP, LINK.US_FORCE, LINK.DS_FORCE]⟩,
   ⟨0x044, 1, 4, fun _ => [LINK.DS_BLOCK_LOCK, LINK.US_PWR, LINK.DS_PWR]⟩]

/-- The words of ERL0. -/
def ERL0.words : List WordRow :=
  [⟨0x02C, 1, 4, fun _ => [ERL0.CRC_ERR_CNT]⟩,
   ⟨0x030, 1, 4, fun _ => [ERL0.MALF_CNT]⟩,
   ⟨0x034, 1, 4, fun _ => [ERL0.SEQ_GAP_CNT]⟩,
   ⟨0x038, 1, 4, fun _ => [ERL0.AUTH_FAIL_CNT]⟩,
   ⟨0x03C, 1, 4, fun _ => [ERL0.LINK_DOWN_CNT]⟩,
   ⟨0x040, 1, 4, fun _ => [ERL0.SECURED, ERL0.DOWN_M3, ERL0.DOWN_TO, ERL0.LANES_US, ERL0.LANES_DS]⟩,
   ⟨0x044, 1, 4, fun _ => [ERL0.LAT_UL, ERL0.LAT_DL]⟩,
   ⟨0x048, 1, 4, fun _ => [ERL0.LINK_UP, ERL0.FRAME_ALIGNED, ERL0.DOWN_CAUSE, ERL0.MGT_PEND]⟩,
   ⟨0x04C, 1, 4, fun _ => [ERL0.DS_ARR]⟩]

/-- The words of ERL1. -/
def ERL1.words : List WordRow :=
  [⟨0x040, 1, 4, fun _ => [ERL1.DL_MISS_CNT]⟩,
   ⟨0x044, 1, 4, fun _ => [ERL1.DL_LATE_CNT]⟩,
   ⟨0x048, 1, 4, fun _ => [ERL1.DL_EARLY_CNT]⟩,
   ⟨0x04C, 1, 4, fun _ => [ERL1.DL_BAD_CNT]⟩,
   ⟨0x050, 1, 4, fun _ => [ERL1.REPLAY_CNT]⟩,
   ⟨0x054, 1, 4, fun _ => [ERL1.UNAUTH_CNT]⟩,
   ⟨0x058, 1, 4, fun _ => [ERL1.MGT_OVF_CNT]⟩,
   ⟨0x05C, 1, 4, fun _ => [ERL1.CTL_OVF_CNT]⟩,
   ⟨0x060, 1, 4, fun _ => [ERL1.EVT_LOST_CNT]⟩]

/-- The words of ERL2. -/
def ERL2.words : List WordRow :=
  [⟨0x040, 1, 4, fun _ => [ERL2.TOL, ERL2.AVG_K]⟩,
   ⟨0x044, 1, 4, fun _ => [ERL2.ASYM]⟩,
   ⟨0x048, 1, 4, fun _ => [ERL2.OFFSET]⟩,
   ⟨0x04C, 1, 4, fun _ => [ERL2.DELAY]⟩,
   ⟨0x050, 1, 4, fun _ => [ERL2.ACCEPTED, ERL2.REJECTED]⟩]

/-- The words of CK. SWING is reserved in DSCK pages, FREQ_DEV and CROSS_FILL lie in DSCK pages only. -/
def CK.words (n : Nat) : List WordRow :=
  [⟨0x040, 1, 4, fun _ => if n < 2 then [CK.POL_INV n] else [CK.POL_INV n, CK.SWING n]⟩,
   ⟨0x044, 1, 4, fun _ => if n < 2 then [CK.FREQ_DEV n, CK.CROSS_FILL n, CK.CLK_PRESENT n] else [CK.CLK_PRESENT n]⟩]

/-- The words of DS. -/
def DS.words (n : Nat) : List WordRow :=
  [⟨0x02C, 1, 4, fun _ => [DS.ERR_CNT_LO n]⟩,
   ⟨0x030, 1, 4, fun _ => [DS.ERR_CNT_HI n]⟩,
   ⟨0x034, 1, 4, fun _ => [DS.BIT_CNT_LO n]⟩,
   ⟨0x038, 1, 4, fun _ => [DS.BIT_CNT_HI n]⟩,
   ⟨0x03C, 1, 4, fun _ => [DS.HDR_ERR_CNT n]⟩,
   ⟨0x040, 1, 4, fun _ => [DS.TRACK_EN n, DS.POL_INV n, DS.CTLE_PEAK n, DS.DESKEW n]⟩,
   ⟨0x044, 1, 4, fun _ => [DS.BITSLIP n, DS.BIT_POS n, DS.WORD_SKEW n, DS.BLOCK_LOCK n]⟩,
   ⟨0x048, 1, 4, fun _ => [DS.EYE_LEFT n, DS.EYE_RIGHT n, DS.EYE_MARGIN n, DS.EYE_MIN_SEEN n]⟩,
   ⟨0x04C, 1, 4, fun _ => [DS.PRBS_SEL n, DS.CNT_CLR n, DS.CHK_EN n, DS.PRBS_SYNC n]⟩]

/-- The words of US. -/
def US.words (n : Nat) : List WordRow :=
  [⟨0x040, 1, 4, fun _ => [US.POL_INV n, US.PRECUR n, US.DEEMPH n, US.SWING n]⟩,
   ⟨0x04C, 1, 4, fun _ => [US.INJ_SINGLE n, US.INJ_BURST n, US.BURST_LEN n, US.PRBS_SEL n, US.GEN_EN n]⟩]

/-- The words of SOUND0. -/
def SOUND0.words : List WordRow :=
  [⟨0x02C, 1, 4, fun _ => [SOUND0.BURST_CNT]⟩,
   ⟨0x030, 1, 4, fun _ => [SOUND0.DET_CNT]⟩,
   ⟨0x034, 1, 4, fun _ => [SOUND0.DEC_FAIL_CNT]⟩,
   ⟨0x038, 1, 4, fun _ => [SOUND0.FALSE_DET_CNT]⟩,
   ⟨0x03C, 1, 4, fun _ => [SOUND0.SKIP_CNT]⟩,
   ⟨0x040, 1, 4, fun _ => [SOUND0.TX_EN, SOUND0.RX_DIV, SOUND0.TX_LVL, SOUND0.OWN_ID]⟩,
   ⟨0x044, 1, 4, fun _ => [SOUND0.GOLD, SOUND0.TX_OFS]⟩,
   ⟨0x048, 1, 4, fun _ => [SOUND0.NCO]⟩,
   ⟨0x04C, 1, 4, fun _ => [SOUND0.DET_THR, SOUND0.AGC_TGT, SOUND0.AGC_INIT, SOUND0.MAX_ITER]⟩,
   ⟨0x050, 1, 4, fun _ => [SOUND0.TX_BOARD_DLY, SOUND0.RX_BOARD_DLY]⟩,
   ⟨0x054, 1, 4, fun _ => [SOUND0.SEQ_NEXT, SOUND0.RX_STATE, SOUND0.TX_LVL_ACT]⟩,
   ⟨0x058, 1, 4, fun _ => [SOUND0.TX_LAST_LO]⟩,
   ⟨0x05C, 1, 4, fun _ => [SOUND0.TX_LAST_HI]⟩,
   ⟨0x060, 1, 4, fun _ => [SOUND0.TX_LAST_INFO]⟩]

/-- The words of SOUND1. -/
def SOUND1.words : List WordRow :=
  [⟨0x100, 64, 4, fun i => [SOUND1.TXA_W_RE i, SOUND1.TXA_W_IM i]⟩,
   ⟨0x200, 64, 4, fun i => [SOUND1.RXA_W_RE i, SOUND1.RXA_W_IM i]⟩,
   ⟨0x300, 64, 4, fun i => [SOUND1.RXB_W_RE i, SOUND1.RXB_W_IM i]⟩]

/-- The words of SOUND2. -/
def SOUND2.words : List WordRow :=
  [⟨0x040, 1, 4, fun _ => [SOUND2.POP, SOUND2.FILL]⟩,
   ⟨0x060, 8, 4, fun i => [SOUND2.RXQ_W i]⟩,
   ⟨0x080, 9, 4, fun i => [SOUND2.REM_W i]⟩,
   ⟨0x0A4, 1, 4, fun _ => [SOUND2.REM_GO, SOUND2.REM_BUSY, SOUND2.PEER_IDX, SOUND2.REM_RESULT]⟩]

/-- The words of SOUND3. -/
def SOUND3.words : List WordRow :=
  [⟨0x040, 16, 16, fun i => [SOUND3.PEER_EN i, SOUND3.PEER_REF i, SOUND3.PEER_ID i]⟩,
   ⟨0x044, 16, 16, fun i => [SOUND3.THETA i]⟩,
   ⟨0x048, 16, 16, fun i => [SOUND3.DELTA i]⟩,
   ⟨0x04C, 16, 16, fun i => [SOUND3.PEER_CNT i]⟩,
   ⟨0x140, 1, 4, fun _ => [SOUND3.MEAS]⟩,
   ⟨0x144, 1, 4, fun _ => [SOUND3.MEAS_AGE]⟩,
   ⟨0x150, 1, 4, fun _ => [SOUND3.TOL, SOUND3.AVG_K, SOUND3.PAIR_MAX]⟩,
   ⟨0x400, 192, 8, fun i => [SOUND3.ARR_G (i + 64)]⟩,
   ⟨0x404, 192, 8, fun i => [SOUND3.ARR_D (i + 64)]⟩]

/-- The words of BCAST0. -/
def BCAST0.words : List WordRow :=
  [⟨0x02C, 1, 4, fun _ => [BCAST0.HOP_CNT]⟩,
   ⟨0x030, 1, 4, fun _ => [BCAST0.BLK_ERR_CNT]⟩,
   ⟨0x034, 1, 4, fun _ => [BCAST0.FIB_ERR_CNT]⟩,
   ⟨0x038, 1, 4, fun _ => [BCAST0.PKT_ERR_CNT]⟩,
   ⟨0x03C, 1, 4, fun _ => [BCAST0.SDQ_LOST_CNT]⟩,
   ⟨0x040, 1, 4, fun _ => [BCAST0.STD, BCAST0.AF_EN, BCAST0.DIV_EN, BCAST0.HOLD_FREQ, BCAST0.RAW_EN, BCAST0.AER_FORCE, BCAST0.FREQ]⟩,
   ⟨0x044, 1, 4, fun _ => [BCAST0.SYNC, BCAST0.NOT_PERMITTED, BCAST0.PKT_BAD, BCAST0.AER_ACT, BCAST0.FREQ_ACT]⟩,
   ⟨0x048, 1, 4, fun _ => [BCAST0.RSSI_A, BCAST0.RSSI_B, BCAST0.SNR, BCAST0.QUAL_STALE]⟩,
   ⟨0x04C, 1, 4, fun _ => [BCAST0.AF_THR, BCAST0.AF_MARGIN, BCAST0.AF_CHK, BCAST0.DIV_HYST]⟩]

/-- The words of BCAST1. -/
def BCAST1.words : List WordRow :=
  [⟨0x040, 1, 4, fun _ => [BCAST1.PI_VALID, BCAST1.PI]⟩,
   ⟨0x044, 1, 4, fun _ => [BCAST1.PS0]⟩,
   ⟨0x048, 1, 4, fun _ => [BCAST1.PS1]⟩,
   ⟨0x04C, 1, 4, fun _ => [BCAST1.RDS_SYNC, BCAST1.PTY, BCAST1.TA, BCAST1.TP, BCAST1.ECC]⟩,
   ⟨0x050, 1, 4, fun _ => [BCAST1.AF_CNT]⟩,
   ⟨0x060, 25, 4, fun i => [BCAST1.AF i]⟩]

/-- The words of BCAST2. -/
def BCAST2.words : List WordRow :=
  [⟨0x040, 1, 4, fun _ => [BCAST2.ENS_VALID, BCAST2.EID]⟩,
   ⟨0x044, 1, 4, fun _ => [BCAST2.PKT_EN, BCAST2.SUBCH, BCAST2.PKT_ADDR]⟩,
   ⟨0x048, 1, 4, fun _ => [BCAST2.CAL_AUTO, BCAST2.CAL_GO, BCAST2.CAL_CLR, BCAST2.CAL_K, BCAST2.MISS_MAX, BCAST2.GATE_W]⟩,
   ⟨0x04C, 1, 4, fun _ => [BCAST2.SFN_TOL]⟩,
   ⟨0x050, 1, 4, fun _ => [BCAST2.CAL_PHASE]⟩,
   ⟨0x054, 1, 4, fun _ => [BCAST2.CAL_VALID, BCAST2.MEAS_VALID, BCAST2.CAL_FRAC, BCAST2.CAL_EID]⟩,
   ⟨0x058, 1, 4, fun _ => [BCAST2.CAL_FREQ]⟩,
   ⟨0x05C, 1, 4, fun _ => [BCAST2.FRAME_TB_LO]⟩,
   ⟨0x060, 1, 4, fun _ => [BCAST2.FRAME_TB_HI]⟩,
   ⟨0x064, 1, 4, fun _ => [BCAST2.CIF_CNT, BCAST2.GATE_OK, BCAST2.FRAC]⟩,
   ⟨0x068, 1, 4, fun _ => [BCAST2.MEAS]⟩,
   ⟨0x06C, 1, 4, fun _ => [BCAST2.MEAS_AGE]⟩]

/-- The words of BCAST3. -/
def BCAST3.words : List WordRow :=
  [⟨0x040, 1, 4, fun _ => [BCAST3.POP, BCAST3.FLUSH, BCAST3.FILL]⟩,
   ⟨0x044, 1, 4, fun _ => [BCAST3.TAG_EN]⟩,
   ⟨0x100, 32, 4, fun i => [BCAST3.SDQ_W i]⟩]

/-- The words of CP. -/
def CP.words (n : Nat) : List WordRow :=
  [⟨0x02C, 1, 4, fun _ => [CP.SEG_CNT n]⟩,
   ⟨0x030, 1, 4, fun _ => [CP.TRIG_MISS_CNT n]⟩,
   ⟨0x034, 1, 4, fun _ => [CP.GAP_CNT n]⟩,
   ⟨0x038, 1, 4, fun _ => [CP.LOST_CNT n]⟩,
   ⟨0x040, 1, 4, fun _ => [CP.SRC_KIND n, CP.SRC_IDX n, CP.EXP_BB n, CP.BUF_MODE n]⟩,
   ⟨0x044, 1, 4, fun _ => [CP.BASE n, CP.SIZE n]⟩,
   ⟨0x048, 1, 4, fun _ => [CP.PRE n]⟩,
   ⟨0x04C, 1, 4, fun _ => [CP.POST n]⟩,
   ⟨0x050, 1, 4, fun _ => [CP.NSEG n]⟩,
   ⟨0x054, 1, 4, fun _ => [CP.WIN_EN n, CP.THR_DIR n, CP.THR_PATH n, CP.TAP_SEL n, CP.AUTO_EN n, CP.SRC_MASK n]⟩,
   ⟨0x058, 1, 4, fun _ => [CP.AUTO_TO n]⟩,
   ⟨0x05C, 1, 4, fun _ => [CP.HOLDOFF n]⟩,
   ⟨0x060, 1, 4, fun _ => [CP.TAP_LVL n]⟩,
   ⟨0x064, 1, 4, fun _ => [CP.TRIG_TB_LO n]⟩,
   ⟨0x068, 1, 4, fun _ => [CP.TRIG_TB_HI n]⟩,
   ⟨0x06C, 1, 4, fun _ => [CP.WIN_START_LO n]⟩,
   ⟨0x070, 1, 4, fun _ => [CP.WIN_START_HI n]⟩,
   ⟨0x074, 1, 4, fun _ => [CP.WIN_END_LO n]⟩,
   ⟨0x078, 1, 4, fun _ => [CP.WIN_END_HI n]⟩,
   ⟨0x07C, 1, 4, fun _ => [CP.TRIG n, CP.DISARM n, CP.ARM n]⟩,
   ⟨0x080, 1, 4, fun _ => [CP.SEG_NOW n, CP.FULL n, CP.OWNED_DPD n, CP.ARMED n]⟩,
   ⟨0x084, 1, 4, fun _ => [CP.WR_PTR n]⟩,
   ⟨0x088, 1, 4, fun _ => [CP.RD_PTR n]⟩]

/-- The words of DMA. -/
def DMA.words : List WordRow :=
  [⟨0x040, 1, 4, fun _ => [DMA.CHAIN_MAX]⟩,
   ⟨0x044, 1, 4, fun _ => [DMA.PAUSED, DMA.PENDING, DMA.BUSY, DMA.ACTIVE]⟩]

/-- The words of DMAC. -/
def DMAC.words (n : Nat) : List WordRow :=
  [⟨0x040, 1, 4, fun _ => [DMAC.DESC n]⟩,
   ⟨0x044, 1, 4, fun _ => [DMAC.ABORT n]⟩,
   ⟨0x048, 1, 4, fun _ => [DMAC.DESC_CNT n, DMAC.STATUS n, DMAC.STATE n]⟩,
   ⟨0x04C, 1, 4, fun _ => [DMAC.CUR_DESC n]⟩,
   ⟨0x050, 1, 4, fun _ => [DMAC.RESIDUE n]⟩,
   ⟨0x054, 1, 4, fun _ => [DMAC.FAIL_ADDR n]⟩]

/-- The words of CLOVE. -/
def CLOVE.words (n : Nat) : List WordRow :=
  [⟨0x02C, 1, 4, fun _ => [CLOVE.FAULT_CNT n]⟩,
   ⟨0x030, 1, 4, fun _ => [CLOVE.LOAD_FAIL_CNT n]⟩,
   ⟨0x034, 1, 4, fun _ => [CLOVE.SWAP_CNT n]⟩,
   ⟨0x040, 1, 4, fun _ => [CLOVE.RUN n, CLOVE.SWAP_GO n, CLOVE.MBOX_IRQ n, CLOVE.SWAP_TO n]⟩,
   ⟨0x044, 1, 4, fun _ => [CLOVE.STATE n, CLOVE.PROG_HALF n, CLOVE.BIG n, CLOVE.SWAP_READY n, CLOVE.SWAP_ARMED n, CLOVE.LOAD_BUSY n, CLOVE.LOAD_RESULT n, CLOVE.KEY_SLOT_ACT n, CLOVE.KVER_ACT n]⟩,
   ⟨0x048, 1, 4, fun _ => [CLOVE.LOAD_ADDR n]⟩,
   ⟨0x04C, 1, 4, fun _ => [CLOVE.LOAD n, CLOVE.HITLESS n]⟩,
   ⟨0x050, 1, 4, fun _ => [CLOVE.SWAP_TB_LO n]⟩,
   ⟨0x054, 1, 4, fun _ => [CLOVE.SWAP_TB_HI n]⟩,
   ⟨0x058, 1, 4, fun _ => [CLOVE.KVER_MIN n]⟩,
   ⟨0x05C, 1, 4, fun _ => [CLOVE.FAULT n]⟩,
   ⟨0x060, 1, 4, fun _ => [CLOVE.FAULT_ADDR n]⟩,
   ⟨0x064, 1, 4, fun _ => [CLOVE.MBOX_TO_CORE n]⟩,
   ⟨0x068, 1, 4, fun _ => [CLOVE.MBOX_FROM_CORE n]⟩,
   ⟨0x06C, 1, 4, fun _ => [CLOVE.RATE n]⟩,
   ⟨0x070, 1, 4, fun _ => [CLOVE.INSTR_CNT_LO n]⟩,
   ⟨0x074, 1, 4, fun _ => [CLOVE.INSTR_CNT_HI n]⟩]

/-- The words of MGMT. -/
def MGMT.words : List WordRow :=
  [⟨0x040, 1, 4, fun _ => [MGMT.IMG_SLOT_PREF, MGMT.BOOTSEL]⟩,
   ⟨0x044, 1, 4, fun _ => [MGMT.IMG_VER_ACT, MGMT.RB_ACT, MGMT.RUNNING, MGMT.SLOT]⟩,
   ⟨0x048, 1, 4, fun _ => [MGMT.WD_EN, MGMT.WD_PERIOD]⟩,
   ⟨0x04C, 1, 4, fun _ => [MGMT.KICK]⟩,
   ⟨0x050, 1, 4, fun _ => [MGMT.WD_BAD_CNT]⟩,
   ⟨0x058, 1, 4, fun _ => [MGMT.MTIME_LO]⟩,
   ⟨0x05C, 1, 4, fun _ => [MGMT.MTIME_HI]⟩,
   ⟨0x060, 1, 4, fun _ => [MGMT.MTIMECMP_LO]⟩,
   ⟨0x064, 1, 4, fun _ => [MGMT.MTIMECMP_HI]⟩,
   ⟨0x080, 8, 4, fun i => [MGMT.RETAIN i]⟩,
   ⟨0x100, 16, 4, fun i => [MGMT.IRQ_PEND i]⟩]

/-- The words of LOG. -/
def LOG.words : List WordRow :=
  [⟨0x02C, 1, 4, fun _ => [LOG.LOST_CNT]⟩,
   ⟨0x040, 1, 4, fun _ => [LOG.HEAD_SEQ]⟩,
   ⟨0x044, 1, 4, fun _ => [LOG.FLUSHED_SEQ]⟩,
   ⟨0x048, 8, 4, fun i => [LOG.HEAD i]⟩,
   ⟨0x070, 1, 4, fun _ => [LOG.FLUSH, LOG.FLUSH_THR, LOG.FLUSH_S]⟩,
   ⟨0x074, 1, 4, fun _ => [LOG.FW_W4]⟩,
   ⟨0x078, 1, 4, fun _ => [LOG.FW_W5]⟩,
   ⟨0x07C, 1, 4, fun _ => [LOG.FW_W6]⟩,
   ⟨0x080, 1, 4, fun _ => [LOG.GO, LOG.SEV, LOG.TYPE]⟩,
   ⟨0x084, 1, 4, fun _ => [LOG.RD_SEQ]⟩,
   ⟨0x088, 1, 4, fun _ => [LOG.RD_MISS, LOG.RD_BUSY]⟩,
   ⟨0x0A0, 8, 4, fun i => [LOG.RD_W i]⟩]

/-- The words of UPDATE. -/
def UPDATE.words : List WordRow :=
  [⟨0x040, 1, 4, fun _ => [UPDATE.GO, UPDATE.OP, UPDATE.ARG]⟩,
   ⟨0x044, 1, 4, fun _ => [UPDATE.OFS]⟩,
   ⟨0x048, 1, 4, fun _ => [UPDATE.LEN]⟩,
   ⟨0x04C, 1, 4, fun _ => [UPDATE.BUSY, UPDATE.OWNER, UPDATE.TARGET, UPDATE.STATE, UPDATE.RESULT]⟩,
   ⟨0x050, 1, 4, fun _ => [UPDATE.RECEIVED]⟩,
   ⟨0x054, 1, 4, fun _ => [UPDATE.DIR]⟩,
   ⟨0x058, 1, 4, fun _ => [UPDATE.RB_CNT]⟩,
   ⟨0x400, 768, 4, fun i => [UPDATE.BUF i]⟩]

/-- The words of MONITOR. -/
def MONITOR.words : List WordRow :=
  [⟨0x02C, 1, 4, fun _ => [MONITOR.ELEV_FAIL_CNT]⟩,
   ⟨0x040, 1, 4, fun _ => [MONITOR.BAUD]⟩,
   ⟨0x044, 1, 4, fun _ => [MONITOR.LEFT, MONITOR.LOCKED, MONITOR.SIGNER, MONITOR.LEVEL]⟩,
   ⟨0x048, 1, 4, fun _ => [MONITOR.DROP]⟩]

/-- The words of ECC. -/
def ECC.words : List WordRow :=
  [⟨0x02C, 1, 4, fun _ => [ECC.MEM, ECC.INDEX]⟩,
   ⟨0x040, 1, 4, fun _ => [ECC.SCRUB_EN, ECC.WIN_EN, ECC.CE_LOG_GAP]⟩,
   ⟨0x044, 1, 4, fun _ => [ECC.WIN_END, ECC.WIN_START]⟩,
   ⟨0x100, 36, 32, fun i => [ECC.CE_CNT i]⟩,
   ⟨0x104, 36, 32, fun i => [ECC.UE_CNT i]⟩,
   ⟨0x108, 36, 32, fun i => [ECC.MERGE_CNT i]⟩,
   ⟨0x10C, 36, 32, fun i => [ECC.HEAL_CNT i]⟩,
   ⟨0x110, 36, 32, fun i => [ECC.LAP_TIME i]⟩,
   ⟨0x114, 36, 32, fun i => [ECC.LAST_CE i]⟩,
   ⟨0x118, 36, 32, fun i => [ECC.LAST_UE i]⟩,
   ⟨0x11C, 36, 32, fun i => [ECC.MEM_SCRUB_EN i, ECC.LAP_LIMIT i]⟩]

/-- The words of BIST. -/
def BIST.words : List WordRow :=
  [⟨0x02C, 1, 4, fun _ => [BIST.RUN_CNT]⟩,
   ⟨0x030, 1, 4, fun _ => [BIST.FAIL_CNT]⟩,
   ⟨0x040, 1, 4, fun _ => [BIST.GO, BIST.ABORT, BIST.BUSY, BIST.TARGET]⟩,
   ⟨0x044, 1, 4, fun _ => [BIST.RESULT, BIST.OVF, BIST.RES_CNT]⟩,
   ⟨0x048, 1, 4, fun _ => [BIST.RES_POP]⟩,
   ⟨0x04C, 1, 4, fun _ => [BIST.RES_W0]⟩,
   ⟨0x050, 1, 4, fun _ => [BIST.RES_W1]⟩,
   ⟨0x060, 1, 4, fun _ => [BIST.PATH_FAIL_TX_LO]⟩,
   ⟨0x064, 1, 4, fun _ => [BIST.PATH_FAIL_TX_HI]⟩,
   ⟨0x068, 1, 4, fun _ => [BIST.PATH_FAIL_RX_LO]⟩,
   ⟨0x06C, 1, 4, fun _ => [BIST.PATH_FAIL_RX_HI]⟩,
   ⟨0x070, 1, 4, fun _ => [BIST.CAL_FAIL]⟩,
   ⟨0x074, 1, 4, fun _ => [BIST.HK_DEV, BIST.RREF_DEV]⟩]

/-- The words of FUSEMAP. -/
def FUSEMAP.words : List WordRow :=
  [⟨0x040, 1, 4, fun _ => [FUSEMAP.FACT_CNT, FUSEMAP.FIELD_USED, FUSEMAP.PENDING]⟩,
   ⟨0x044, 1, 4, fun _ => [FUSEMAP.GO, FUSEMAP.BUSY, FUSEMAP.RESULT, FUSEMAP.OP, FUSEMAP.ARG]⟩,
   ⟨0x048, 1, 4, fun _ => [FUSEMAP.PROG_ENTRY]⟩,
   ⟨0x080, 32, 4, fun i => [FUSEMAP.FIELD i]⟩,
   ⟨0x100, 64, 4, fun i => [FUSEMAP.FACT i]⟩,
   ⟨0x200, 386, 4, fun i => [FUSEMAP.VOLATILE i, FUSEMAP.COLS i, FUSEMAP.ROWS i]⟩]

/-- The words of HKADC. -/
def HKADC.words : List WordRow :=
  [⟨0x02C, 1, 4, fun _ => [HKADC.Q_OVF_CNT]⟩,
   ⟨0x040, 1, 4, fun _ => [HKADC.SHIFT, HKADC.AVG_A, HKADC.SCS, HKADC.RATE]⟩,
   ⟨0x044, 1, 4, fun _ => [HKADC.SEQ_PERIOD, HKADC.SEQ_LEN]⟩,
   ⟨0x048, 16, 4, fun i => [HKADC.SEQ i]⟩,
   ⟨0x088, 1, 4, fun _ => [HKADC.GO, HKADC.CH]⟩,
   ⟨0x08C, 1, 4, fun _ => [HKADC.Q_POP, HKADC.Q_FILL]⟩,
   ⟨0x090, 1, 4, fun _ => [HKADC.Q_W0]⟩,
   ⟨0x094, 1, 4, fun _ => [HKADC.Q_W1]⟩,
   ⟨0x098, 1, 4, fun _ => [HKADC.REF_OK, HKADC.STALE]⟩,
   ⟨0x100, 35, 4, fun i => [HKADC.LAST i]⟩,
   ⟨0x200, 16, 4, fun i => [HKADC.CMP_EN i, HKADC.CMP_POL i, HKADC.CMP_HYST i, HKADC.CMP_LVL i]⟩]

/-- The words of THERMAL. -/
def THERMAL.words : List WordRow :=
  [⟨0x040, 1, 4, fun _ => [THERMAL.THR_ATT]⟩,
   ⟨0x044, 1, 4, fun _ => [THERMAL.WRITE_OK, THERMAL.T_MAX]⟩,
   ⟨0x100, 25, 16, fun i => [THERMAL.LIM_THROTTLE i, THERMAL.LIM_WARN i]⟩,
   ⟨0x104, 25, 16, fun i => [THERMAL.SEN_EN i, THERMAL.SHUT_EN i, THERMAL.BROKEN_ACT i, THERMAL.HYST i, THERMAL.OCT_MASK i, THERMAL.SHUT i]⟩,
   ⟨0x108, 25, 16, fun i => [THERMAL.BROKEN i, THERMAL.ST_WARN i, THERMAL.ST_THROTTLE i, THERMAL.READING i]⟩,
   ⟨0x10C, 25, 16, fun i => [THERMAL.SENS_B i, THERMAL.SENS_LOW i]⟩]

/-- The words of AGEING. -/
def AGEING.words : List WordRow :=
  [⟨0x02C, 1, 4, fun _ => [AGEING.LIFE_VALID, AGEING.LIFE_LEFT]⟩,
   ⟨0x040, 18, 4, fun i => [AGEING.SLACK_VALID i, AGEING.SLACK_MIN i, AGEING.SLACK i]⟩,
   ⟨0x090, 1, 4, fun _ => [AGEING.PLAN_INT, AGEING.AUTO_RETIRE, AGEING.RETIRE_GRACE, AGEING.RETIRE_MAX, AGEING.CMPL_RETIRE]⟩,
   ⟨0x094, 1, 4, fun _ => [AGEING.HW_RETIRED, AGEING.STAGE]⟩,
   ⟨0x0A0, 7, 4, fun i => [AGEING.IND_LEVEL i, AGEING.IND_VALUE i]⟩,
   ⟨0x0C0, 7, 4, fun i => [AGEING.THR_WORN i, AGEING.THR_WATCH i]⟩,
   ⟨0x100, 1, 4, fun _ => [AGEING.CAND_TX_LO]⟩,
   ⟨0x104, 1, 4, fun _ => [AGEING.CAND_TX_HI]⟩,
   ⟨0x108, 1, 4, fun _ => [AGEING.CAND_RX_LO]⟩,
   ⟨0x10C, 1, 4, fun _ => [AGEING.CAND_RX_HI]⟩,
   ⟨0x110, 1, 4, fun _ => [AGEING.VETO_TX_LO]⟩,
   ⟨0x114, 1, 4, fun _ => [AGEING.VETO_TX_HI]⟩,
   ⟨0x118, 1, 4, fun _ => [AGEING.VETO_RX_LO]⟩,
   ⟨0x11C, 1, 4, fun _ => [AGEING.VETO_RX_HI]⟩,
   ⟨0x120, 1, 4, fun _ => [AGEING.RX_RETIRE_LO]⟩,
   ⟨0x124, 1, 4, fun _ => [AGEING.RX_RETIRE_HI]⟩,
   ⟨0x140, 16, 4, fun i => [AGEING.BIAS_BASE i]⟩,
   ⟨0x180, 1, 4, fun _ => [AGEING.LIFE_HOURS]⟩,
   ⟨0x184, 1, 4, fun _ => [AGEING.LIFE_N]⟩,
   ⟨0x188, 1, 4, fun _ => [AGEING.SX_LO]⟩,
   ⟨0x18C, 1, 4, fun _ => [AGEING.SX_HI]⟩,
   ⟨0x190, 1, 4, fun _ => [AGEING.SY_LO]⟩,
   ⟨0x194, 1, 4, fun _ => [AGEING.SY_HI]⟩,
   ⟨0x198, 1, 4, fun _ => [AGEING.SXY_LO]⟩,
   ⟨0x19C, 1, 4, fun _ => [AGEING.SXY_HI]⟩,
   ⟨0x1A0, 1, 4, fun _ => [AGEING.SXX_LO]⟩,
   ⟨0x1A4, 1, 4, fun _ => [AGEING.SXX_HI]⟩,
   ⟨0x1A8, 1, 4, fun _ => [AGEING.LIFE_A]⟩,
   ⟨0x1AC, 1, 4, fun _ => [AGEING.LIFE_B]⟩,
   ⟨0x1B0, 1, 4, fun _ => [AGEING.TC, AGEING.LIFE_MARGIN]⟩,
   ⟨0x1C0, 12, 4, fun i => [AGEING.BASE i]⟩]

/-- The words of AVS. -/
def AVS.words : List WordRow :=
  [⟨0x02C, 1, 4, fun _ => [AVS.PM_FAULT_CNT]⟩,
   ⟨0x040, 1, 4, fun _ => [AVS.PEC_EN, AVS.FAST, AVS.TEL_MS, AVS.PM_ADDR]⟩,
   ⟨0x044, 1, 4, fun _ => [AVS.V_START, AVS.VMAX, AVS.VMIN]⟩,
   ⟨0x048, 1, 4, fun _ => [AVS.LOWER_N, AVS.SLACK_LOWER, AVS.SLACK_RAISE, AVS.SLACK_EMERG]⟩,
   ⟨0x04C, 1, 4, fun _ => [AVS.AVS_MASK]⟩,
   ⟨0x050, 1, 4, fun _ => [AVS.TARGET]⟩,
   ⟨0x054, 1, 4, fun _ => [AVS.READ_VOUT]⟩,
   ⟨0x058, 1, 4, fun _ => [AVS.READ_IOUT]⟩,
   ⟨0x05C, 1, 4, fun _ => [AVS.READ_TEMP]⟩,
   ⟨0x060, 1, 4, fun _ => [AVS.PM_STATUS]⟩]

/-- The words of GPIO. -/
def GPIO.words : List WordRow :=
  [⟨0x040, 1, 4, fun _ => [GPIO.OE]⟩,
   ⟨0x044, 1, 4, fun _ => [GPIO.OUT]⟩,
   ⟨0x048, 1, 4, fun _ => [GPIO.INP]⟩,
   ⟨0x04C, 1, 4, fun _ => [GPIO.PULL_UP, GPIO.PULL_EN]⟩,
   ⟨0x050, 1, 4, fun _ => [GPIO.FALL, GPIO.RISE]⟩,
   ⟨0x054, 1, 4, fun _ => [GPIO.DRIVE, GPIO.VIO_GOOD]⟩]

/-- The words of AUXDAC. -/
def AUXDAC.words : List WordRow :=
  [⟨0x040, 16, 4, fun i => [AUXDAC.FORCE_SAFE i, AUXDAC.KILL_SAFE i, AUXDAC.SLEW_RATE i, AUXDAC.RANGE i, AUXDAC.CODE i]⟩,
   ⟨0x080, 16, 4, fun i => [AUXDAC.WRITTEN i, AUXDAC.AT_SAFE i, AUXDAC.SLEWING i, AUXDAC.RANGE_ACT i, AUXDAC.OUT_CODE i]⟩,
   ⟨0x0C0, 16, 4, fun i => [AUXDAC.SAFE_RANGE i, AUXDAC.MAX_CODE i, AUXDAC.SAFE_CODE i]⟩]

/-- The words of the page with index `pg` (R31); none where the page map assigns no block. -/
def pageWords (pg : Nat) : List WordRow :=
  if pg = 0x000 then DEVICE.words
  else if pg = 0x001 then LIMITS.words
  else if pg = 0x002 then SECURITY.words
  else if pg = 0x003 then ARBITER.words
  else if pg = 0x004 then CPLL.words
  else if 0x005 ≤ pg ∧ pg < 0x007 then LO.words (pg - 0x005)
  else if pg = 0x007 then LPLL.words
  else if pg = 0x008 then TIMEBASE.words
  else if pg = 0x009 then TSYNC.words
  else if 0x010 ≤ pg ∧ pg < 0x050 then RXPATH.words (pg - 0x010)
  else if 0x050 ≤ pg ∧ pg < 0x090 then TXPATH.words (pg - 0x050)
  else if 0x090 ≤ pg ∧ pg < 0x098 then OCTET.words (pg - 0x090)
  else if 0x098 ≤ pg ∧ pg < 0x0A0 then MONTAP.words (pg - 0x098)
  else if 0x0A0 ≤ pg ∧ pg < 0x0A2 then BEAM.words (pg - 0x0A0)
  else if 0x0A2 ≤ pg ∧ pg < 0x0A4 then BEAMSET.words (pg - 0x0A2)
  else if pg = 0x0A4 then DPD0.words
  else if pg = 0x0A5 then DPD1.words
  else if pg = 0x0A6 then DPD2.words
  else if pg = 0x0A7 then DPD3.words
  else if pg = 0x0A8 then TIMELINE0.words
  else if pg = 0x0A9 then TIMELINE1.words
  else if pg = 0x0AA then TIMELINE2.words
  else if pg = 0x0AB then TIMELINE3.words
  else if pg = 0x0AC then CAL0.words
  else if 0x0AD ≤ pg ∧ pg < 0x0AF then CALT.words (pg - 0x0AD)
  else if pg = 0x0AF then CAL3.words
  else if pg = 0x0B0 then LINK.words
  else if pg = 0x0B1 then ERL0.words
  else if pg = 0x0B2 then ERL1.words
  else if pg = 0x0B3 then ERL2.words
  else if 0x0B4 ≤ pg ∧ pg < 0x0B8 then CK.words (pg - 0x0B4)
  else if 0x0B8 ≤ pg ∧ pg < 0x0C8 then DS.words (pg - 0x0B8)
  else if 0x0C8 ≤ pg ∧ pg < 0x0D8 then US.words (pg - 0x0C8)
  else if pg = 0x0E0 then SOUND0.words
  else if pg = 0x0E1 then SOUND1.words
  else if pg = 0x0E2 then SOUND2.words
  else if pg = 0x0E3 then SOUND3.words
  else if pg = 0x0E4 then BCAST0.words
  else if pg = 0x0E5 then BCAST1.words
  else if pg = 0x0E6 then BCAST2.words
  else if pg = 0x0E7 then BCAST3.words
  else if 0x0E8 ≤ pg ∧ pg < 0x0F0 then CP.words (pg - 0x0E8)
  else if pg = 0x0F0 then DMA.words
  else if 0x0F1 ≤ pg ∧ pg < 0x0F9 then DMAC.words (pg - 0x0F1)
  else if 0x100 ≤ pg ∧ pg < 0x108 then CLOVE.words (pg - 0x100)
  else if pg = 0x110 then MGMT.words
  else if pg = 0x111 then LOG.words
  else if pg = 0x112 then UPDATE.words
  else if pg = 0x113 then MONITOR.words
  else if pg = 0x118 then ECC.words
  else if pg = 0x119 then BIST.words
  else if pg = 0x11A then FUSEMAP.words
  else if pg = 0x120 then HKADC.words
  else if pg = 0x121 then THERMAL.words
  else if pg = 0x122 then AGEING.words
  else if pg = 0x123 then AVS.words
  else if pg = 0x124 then GPIO.words
  else if pg = 0x125 then AUXDAC.words
  else []

end Sys2Proof.Machine
end

