-- ==== Sys2Proof/Machine/Header.lean ====
section
/-! DEFINITION. The common header of every register page (R32), the page map (R31) and what a page's kind decides:
its enable (R34, R38), its shadowed fields (R46), its access ceilings (R411, R208) and its restricted fields. -/

namespace Sys2Proof.Machine

/-- PAGE_ID.BLOCK and INSTANCE of a page, as (block, instance); block 0 where the map assigns none (R31). -/
def pageId (pg : Nat) : Nat × Nat :=
  if pg = 0x000 then (0x001, 0) else if pg = 0x001 then (0x002, 0) else if pg = 0x002 then (0x003, 0)
  else if pg = 0x003 then (0x004, 0) else if pg = 0x004 then (0x010, 0)
  else if pg = 0x005 ∨ pg = 0x006 then (0x011, pg - 0x005)
  else if pg = 0x007 then (0x012, 0) else if pg = 0x008 then (0x013, 0) else if pg = 0x009 then (0x014, 0)
  else if 0x010 ≤ pg ∧ pg < 0x050 then (0x020, pg - 0x010)
  else if 0x050 ≤ pg ∧ pg < 0x090 then (0x021, pg - 0x050)
  else if 0x090 ≤ pg ∧ pg < 0x098 then (0x022, pg - 0x090)
  else if 0x098 ≤ pg ∧ pg < 0x0A0 then (0x023, pg - 0x098)
  else if 0x0A0 ≤ pg ∧ pg < 0x0A4 then (0x024, pg - 0x0A0)
  else if 0x0A4 ≤ pg ∧ pg < 0x0A8 then (0x025, pg - 0x0A4)
  else if 0x0A8 ≤ pg ∧ pg < 0x0AC then (0x026, pg - 0x0A8)
  else if 0x0AC ≤ pg ∧ pg < 0x0B0 then (0x027, pg - 0x0AC)
  else if pg = 0x0B0 then (0x030, 0)
  else if 0x0B1 ≤ pg ∧ pg < 0x0B4 then (0x031, pg - 0x0B1)
  else if 0x0B4 ≤ pg ∧ pg < 0x0B8 then (0x032, pg - 0x0B4)
  else if 0x0B8 ≤ pg ∧ pg < 0x0C8 then (0x033, pg - 0x0B8)
  else if 0x0C8 ≤ pg ∧ pg < 0x0D8 then (0x034, pg - 0x0C8)
  else if 0x0E0 ≤ pg ∧ pg < 0x0E4 then (0x040, pg - 0x0E0)
  else if 0x0E4 ≤ pg ∧ pg < 0x0E8 then (0x041, pg - 0x0E4)
  else if 0x0E8 ≤ pg ∧ pg < 0x0F0 then (0x042, pg - 0x0E8)
  else if pg = 0x0F0 then (0x043, 0)
  else if 0x0F1 ≤ pg ∧ pg < 0x0F9 then (0x044, pg - 0x0F1)
  else if 0x100 ≤ pg ∧ pg < 0x108 then (0x050, pg - 0x100)
  else if pg = 0x110 then (0x060, 0) else if pg = 0x111 then (0x061, 0) else if pg = 0x112 then (0x062, 0)
  else if pg = 0x113 then (0x063, 0) else if pg = 0x118 then (0x068, 0) else if pg = 0x119 then (0x069, 0)
  else if pg = 0x11A then (0x06A, 0) else if pg = 0x120 then (0x070, 0) else if pg = 0x121 then (0x071, 0)
  else if pg = 0x122 then (0x072, 0) else if pg = 0x123 then (0x073, 0) else if pg = 0x124 then (0x074, 0)
  else if pg = 0x125 then (0x075, 0) else (0, 0)

/-- The page map assigns a block to the page. -/
def assigned (pg : Nat) : Bool := decide ((pageId pg).1 ≠ 0)

/-- The pages without an enable (R38). -/
def noEnable (pg : Nat) : Bool :=
  [0x000, 0x001, 0x002, 0x003, 0x008, 0x0A8, 0x0A9, 0x0AA, 0x0AB, 0x110, 0x111, 0x113, 0x118, 0x119, 0x11A, 0x121,
   0x124].contains pg

/-- The pages whose EN resets to 1: UPDATE, HKADC, AVS and AUXDAC (R34). -/
def resetsOn (pg : Nat) : Bool := [0x112, 0x120, 0x123, 0x125].contains pg

/-- The pages with shadowed fields (R46): those whose tables hold an RWS field. -/
def hasShadow (pg : Nat) : Bool :=
  decide (0x004 ≤ pg ∧ pg ≤ 0x007) || decide (0x010 ≤ pg ∧ pg < 0x0A2) || decide (pg = 0x0A5)
    || decide (pg = 0x0AD) || decide (pg = 0x0AE)

/-- PAGE_ID.BLOCK. -/
def HDR.BLOCK (pg : Nat) : Loc := ⟨pg, 0x000, 20, 12, .ro, (pageId pg).1⟩
def HDR.INSTANCE (pg : Nat) : Loc := ⟨pg, 0x000, 12, 8, .ro, (pageId pg).2⟩
def HDR.LAYOUT (pg : Nat) : Loc := ⟨pg, 0x000, 8, 4, .ro, if assigned pg then 1 else 0⟩
def HDR.COMPAT (pg : Nat) : Loc := ⟨pg, 0x000, 0, 8, .ro, if assigned pg then 1 else 0⟩
/-- PAGE_CTRL. -/
def HDR.LEVEL_REQ (pg : Nat) : Loc := ⟨pg, 0x004, 8, 8, .rw, 0⟩
def HDR.SRST (pg : Nat) : Loc := ⟨pg, 0x004, 1, 1, .wo, 0⟩
def HDR.EN (pg : Nat) : Loc :=
  ⟨pg, 0x004, 0, 1, if noEnable pg then .ro else .rw, if noEnable pg || resetsOn pg then 1 else 0⟩
/-- PAGE_STAT; the block-specific bits [31:16] are used by the ECC page (19_memory_integrity.md). -/
def HDR.STAT_HI (pg : Nat) : Loc := ⟨pg, 0x008, 16, 16, .ro, 0⟩
def HDR.LEVEL_ERR (pg : Nat) : Loc := ⟨pg, 0x008, 4, 1, .ro, 0⟩
def HDR.STALE (pg : Nat) : Loc := ⟨pg, 0x008, 3, 1, .ro, 0⟩
def HDR.ERR (pg : Nat) : Loc := ⟨pg, 0x008, 2, 1, .ro, 0⟩
def HDR.TRANS (pg : Nat) : Loc := ⟨pg, 0x008, 1, 1, .ro, 0⟩
def HDR.ACT (pg : Nat) : Loc := ⟨pg, 0x008, 0, 1, .ro, if noEnable pg || resetsOn pg then 1 else 0⟩
/-- EVT and EVT_EN: bit 31 LATE, 30 COMMIT_DONE, 29 ERR, 28 ACT_CHANGE, the rest of the block (R39). -/
def HDR.EVT (pg : Nat) : Loc := ⟨pg, 0x00C, 0, 32, .w1c, 0⟩
def HDR.EVT_EN (pg : Nat) : Loc := ⟨pg, 0x010, 0, 32, .rw, 0⟩
/-- The bits of EVT and EVT_EN that a page has: the four common ones and those of its chapter's event table (R32). -/
def evtMask (pg : Nat) : Nat :=
  0xF0000000 + (
    if pg = 0x000 then 0x7F
    else if pg = 0x002 then 0xFF
    else if pg = 0x003 then 0x3
    else if pg = 0x004 then 0x1F
    else if 0x005 ≤ pg ∧ pg < 0x008 then 0x7
    else if pg = 0x008 then 0xF
    else if pg = 0x009 then 0x1F
    else if 0x010 ≤ pg ∧ pg < 0x050 then 0xF1F
    else if 0x050 ≤ pg ∧ pg < 0x090 then 0xFFF
    else if 0x090 ≤ pg ∧ pg < 0x098 then 0x3
    else if 0x098 ≤ pg ∧ pg < 0x0A0 then 0x7
    else if pg = 0x0A0 ∨ pg = 0x0A1 then 0x1FF
    else if pg = 0x0A2 ∨ pg = 0x0A3 then 0x1
    else if pg = 0x0A4 then 0xFF
    else if pg = 0x0A8 then 0x1F
    else if pg = 0x0AC then 0x3FF
    else if pg = 0x0B0 then 0x1F
    else if 0x0B4 ≤ pg ∧ pg < 0x0B8 then 0x3
    else if 0x0B8 ≤ pg ∧ pg < 0x0C8 then 0x3F
    else if 0x0C8 ≤ pg ∧ pg < 0x0D8 then 0x1
    else if pg = 0x0B1 then 0x7F
    else if pg = 0x0E0 then 0xFF
    else if pg = 0x0E4 then 0xFFF
    else if 0x0E8 ≤ pg ∧ pg < 0x0F0 then 0x1FF
    else if 0x0F1 ≤ pg ∧ pg < 0x0F9 then 0x1FF
    else if 0x100 ≤ pg ∧ pg < 0x108 then 0x7F
    else if pg = 0x111 then 0x3
    else if pg = 0x112 then 0x1
    else if pg = 0x113 then 0x3
    else if pg = 0x118 then 0x3F
    else if pg = 0x119 then 0x3
    else if pg = 0x11A then 0x7
    else if pg = 0x120 then 0xF
    else if pg = 0x121 then 0x1F
    else if pg = 0x122 then 0x7
    else if pg = 0x123 then 0xF
    else if pg = 0x124 then 0xFFFF
    else if pg = 0x125 then 0x7
    else 0)

/-- EVT_ROUTE (R40). -/
def HDR.CLOVE_SEL (pg : Nat) : Loc := ⟨pg, 0x014, 4, 3, .rw, 0⟩
def HDR.TO_CLOVE (pg : Nat) : Loc := ⟨pg, 0x014, 3, 1, .rw, 0⟩
def HDR.TO_BB (pg : Nat) : Loc := ⟨pg, 0x014, 2, 1, .rw, 0⟩
def HDR.TO_IRQ (pg : Nat) : Loc := ⟨pg, 0x014, 1, 1, .rw, 0⟩
def HDR.TO_PEPPER (pg : Nat) : Loc := ⟨pg, 0x014, 0, 1, .rw, 1⟩
/-- ACCESS (R41); the right of class `c` lies at bits [2c + 1 : 2c]. -/
def HDR.ACC_LOCK (pg : Nat) : Loc := ⟨pg, 0x018, 31, 1, .rl, 0⟩
def HDR.RIGHT (pg : Nat) (c : Cls) : Loc :=
  ⟨pg, 0x018, 2 * c.code, 2, if c = .mgmt then .ro else .rl, if c = .mgmt then 3 else 0⟩
/-- CONTROLLER (R43, R44). -/
def HDR.FIELD_LOCK (pg : Nat) : Loc := ⟨pg, 0x01C, 31, 1, .setOnly, 0⟩
def HDR.CTRL (pg : Nat) : Loc := ⟨pg, 0x01C, 0, 2, .rl, 0⟩
/-- COMMIT (R46, R47). -/
def HDR.LAST_LATE (pg : Nat) : Loc := ⟨pg, 0x020, 10, 1, .ro, 0⟩
def HDR.BANK (pg : Nat) : Loc := ⟨pg, 0x020, 9, 1, .ro, 0⟩
def HDR.PENDING (pg : Nat) : Loc := ⟨pg, 0x020, 8, 1, .ro, 0⟩
def HDR.IMMED (pg : Nat) : Loc := ⟨pg, 0x020, 2, 1, .rw, 0⟩
def HDR.CANCEL (pg : Nat) : Loc := ⟨pg, 0x020, 1, 1, .wo, 0⟩
def HDR.REQ (pg : Nat) : Loc := ⟨pg, 0x020, 0, 1, .wo, 0⟩
def HDR.COMMIT_TB_LO (pg : Nat) : Loc := ⟨pg, 0x024, 0, 32, .rw, 0⟩
def HDR.COMMIT_TB_HI (pg : Nat) : Loc := ⟨pg, 0x028, 0, 32, .rw, 0⟩

/-- The header fields of the word at byte offset `off` below 0x02C. -/
def headerWord (pg off : Nat) : List Loc :=
  if off = 0x000 then [HDR.BLOCK pg, HDR.INSTANCE pg, HDR.LAYOUT pg, HDR.COMPAT pg]
  else if off = 0x004 then [HDR.LEVEL_REQ pg, HDR.SRST pg, HDR.EN pg]
  else if off = 0x008 then
    [HDR.STAT_HI pg, HDR.LEVEL_ERR pg, HDR.STALE pg, HDR.ERR pg, HDR.TRANS pg, HDR.ACT pg]
  else if off = 0x00C then [HDR.EVT pg]
  else if off = 0x010 then [HDR.EVT_EN pg]
  else if off = 0x014 then
    [HDR.CLOVE_SEL pg, HDR.TO_CLOVE pg, HDR.TO_BB pg, HDR.TO_IRQ pg, HDR.TO_PEPPER pg]
  else if off = 0x018 then
    [HDR.ACC_LOCK pg, HDR.RIGHT pg .test, HDR.RIGHT pg .mon, HDR.RIGHT pg .dsp, HDR.RIGHT pg .host,
     HDR.RIGHT pg .bb, HDR.RIGHT pg .mgmt]
  else if off = 0x01C then [HDR.FIELD_LOCK pg, HDR.CTRL pg]
  else if hasShadow pg = false then []
  else if off = 0x020 then
    [HDR.LAST_LATE pg, HDR.BANK pg, HDR.PENDING pg, HDR.IMMED pg, HDR.CANCEL pg, HDR.REQ pg]
  else if off = 0x024 then [HDR.COMMIT_TB_LO pg]
  else if off = 0x028 then [HDR.COMMIT_TB_HI pg]
  else []

/-- The fields of the word at byte offset `off` of page `pg`; a page or word without fields reads 0 (R4, R30). -/
def wordLocs (pg off : Nat) : List Loc :=
  if assigned pg = false then [] else if off < 0x02C then headerWord pg off else findWord (pageWords pg) off

/-- The ceiling of class `c` on page `pg` (R411; the DPD pages as R208). -/
def ceiling (pg : Nat) (c : Cls) : Nat :=
  let row (bb host dsp mon test : Nat) : Nat :=
    match c with | .mgmt => 3 | .bb => bb | .host => host | .dsp => dsp | .mon => mon | .test => test
  if pg = 0x000 then row 2 2 1 2 2
  else if pg = 0x001 ∨ pg = 0x003 then row 1 1 1 1 1
  else if pg = 0x002 then row 2 2 0 1 2
  else if (0x004 ≤ pg ∧ pg ≤ 0x007) ∨ pg = 0x009 then row 3 3 1 2 2
  else if pg = 0x008 then row 3 3 1 1 2
  else if (0x010 ≤ pg ∧ pg < 0x0A0) ∨ (0x0A8 ≤ pg ∧ pg < 0x0B0) then row 3 3 2 2 2
  else if 0x0B0 ≤ pg ∧ pg < 0x0D8 then row 3 3 1 1 2
  else if pg = 0x0A0 ∨ pg = 0x0A1 then row 3 3 2 1 2
  else if pg = 0x0A2 ∨ pg = 0x0A3 then row 3 3 2 0 0
  else if pg = 0x0A6 then row 0 0 2 0 0
  else if 0x0A4 ≤ pg ∧ pg < 0x0A8 then row 2 2 2 0 1
  else if 0x0E0 ≤ pg ∧ pg < 0x0E8 then row 3 3 2 2 2
  else if 0x0E8 ≤ pg ∧ pg < 0x0F9 then row 2 2 2 0 0
  else if 0x100 ≤ pg ∧ pg < 0x108 then row 1 1 1 0 0
  else if pg = 0x110 ∨ pg = 0x113 then row 1 1 1 1 1
  else if pg = 0x111 then row 1 1 2 1 1
  else if pg = 0x112 then row 2 2 0 2 0
  else if 0x118 ≤ pg ∧ pg ≤ 0x11A then row 1 1 1 1 2
  else if (0x120 ≤ pg ∧ pg ≤ 0x123) ∨ pg = 0x125 then row 1 2 1 1 2
  else if pg = 0x124 then row 2 2 1 2 2
  else row 0 0 0 0 0

end Sys2Proof.Machine
end

