-- ==== Sys2Proof/Config.lean ====
section
/-! DEFINITION. What an implementation fixes and the spec leaves open: the free values, and the primitives whose
numbers the model does not compute. None has a body, so nothing proved here can rest on a value of one. -/

namespace Sys2Proof.Config

/-- The `k`-th free value: a number that the spec leaves open (log entry 1). -/
opaque freeValue : Nat → Nat

/-- Magnitude and phase of a Q2.14 gain, real and imaginary part, in the steps of R239 (1/30,000 dB, 1/3,000 degree):
R238 gives the pair no precision (log entry 10). -/
opaque polarOf : Int → Int → Int × Int

/-- The Q2.14 gain, real and imaginary part, of a magnitude and phase (R238; log entry 10). -/
opaque gainOf : Int → Int → Nat × Nat

/-- AES-128-GCM under a key: initial value, additional data, and ciphertext with tag, as words; the message
words, or none where the tag fails (R294; log entry 6). -/
opaque gcmOpen : (key iv : Nat) → (aad ct : List Nat) → Option (List Nat)

/-- The same, from message words to ciphertext followed by the four tag words (log entry 6). -/
opaque gcmSeal : (key iv : Nat) → (aad msg : List Nat) → List Nat

/-- ECDSA P-256: a public key (16 words, R390), the 32 bytes of a digest and a signature (16 words) agree (log entry 6). -/
opaque ecdsaOk : (key digest sig : List Nat) → Bool

/-- The signature that a private scalar and a per-signature number make of a digest (log entry 6). -/
opaque ecdsaSign : (d k : Nat) → (digest : List Nat) → List Nat

/-- The public key of a private scalar, as 16 words (log entry 6). -/
opaque pubOf : Nat → List Nat

/-- 16 words are a point of P-256 (log entry 6). -/
opaque onCurve : List Nat → Bool

/-- The 32 bytes of the x-coordinate of a scalar's product with a point (log entry 6). -/
opaque ecdhX : Nat → List Nat → List Nat

/-- Bytes of flash fitted (R388: 32 to 256 MiB; log entry 12). -/
opaque flashSize : Nat

/-- The ADC's code of a path (64 is CALRX) at always-on tick `ao`, quarter `j`: bits 3:0 number its level on I, bits 7:4 on
Q. The signal at the input is the surroundings' (R119; log entry 60). -/
opaque adcCode : (path ao j : Nat) → Nat

/-- The magnitude, at the output of CIC1, of a complex exponential at the ADC's full scale (R120; log entry 60). -/
opaque cicFull : Nat

/-- The coefficient at distance `d` from the centre of half-band filter 1 (HB1), 2 (HB2 to HB4), 3 (transmit, 19 taps) or 4
(transmit, 23 taps), in 2^-24 (log entry 60). -/
opaque halfBand : (filter d : Nat) → Int

/-- Tap `k` of the 16-tap fractional-delay filter for a fraction `num / den` of a sample, in 2^-20 (log entry 60). -/
opaque fracTap : (num den k : Nat) → Int

/-- The band filter of a monitor tap for BAND_BW: half its length in samples, and tap `k` in 2^-24 (R132; log entry 60). -/
opaque bandHalf : (bw : Nat) → Nat
opaque bandTap : (bw k : Nat) → Int

/-- Cosine and sine of a phase in 2^-32 of a turn, in 2^-30 (R132, R303; log entry 60). -/
opaque turn : (phase : Nat) → Int × Int

/-- The voltage gain 10^(-x / 80) of an attenuation of `x` steps of 0.25 dB, in 2^-30 (R242, R309; log entry 60). -/
opaque level : (x : Nat) → Nat

/-- A / |x_p| in 2^-30, from the power sum of `n` samples, the power `m` of the peak and CFR_PAR (R142; log entry 60). -/
opaque cfrRatio : (sum n m par : Nat) → Nat

/-- Sample `k` of the root-raised-cosine pulse, in 2^-20 (R303; log entry 60). -/
opaque rrc : (k : Nat) → Int

/-- The way of Pepper's data cache that its `n`-th eviction replaces (R383 gives no rule; log entry 65). -/
opaque victimWay : (n : Nat) → Nat

/-- The comparison of an enabled loop that was last before always-on tick `ao` lay inside its window (R68; log entry 64). -/
opaque insideWindow : (loop ao : Nat) → Bool

end Sys2Proof.Config
end

