-- ==== Sys2Proof/Machine/Sha.lean ====
section
/-! DEFINITION. SHA-256, HMAC and HKDF over bytes (the spec names them by their standards), and the byte strings that
registers hold, first byte in bits [7:0] (R390). -/

namespace Sys2Proof

def sha256K : List Nat :=
  [ 0x428A2F98, 0x71374491, 0xB5C0FBCF, 0xE9B5DBA5, 0x3956C25B, 0x59F111F1, 0x923F82A4, 0xAB1C5ED5,
    0xD807AA98, 0x12835B01, 0x243185BE, 0x550C7DC3, 0x72BE5D74, 0x80DEB1FE, 0x9BDC06A7, 0xC19BF174,
    0xE49B69C1, 0xEFBE4786, 0x0FC19DC6, 0x240CA1CC, 0x2DE92C6F, 0x4A7484AA, 0x5CB0A9DC, 0x76F988DA,
    0x983E5152, 0xA831C66D, 0xB00327C8, 0xBF597FC7, 0xC6E00BF3, 0xD5A79147, 0x06CA6351, 0x14292967,
    0x27B70A85, 0x2E1B2138, 0x4D2C6DFC, 0x53380D13, 0x650A7354, 0x766A0ABB, 0x81C2C92E, 0x92722C85,
    0xA2BFE8A1, 0xA81A664B, 0xC24B8B70, 0xC76C51A3, 0xD192E819, 0xD6990624, 0xF40E3585, 0x106AA070,
    0x19A4C116, 0x1E376C08, 0x2748774C, 0x34B0BCB5, 0x391C0CB3, 0x4ED8AA4A, 0x5B9CCA4F, 0x682E6FF3,
    0x748F82EE, 0x78A5636F, 0x84C87814, 0x8CC70208, 0x90BEFFFA, 0xA4506CEB, 0xBEF9A3F7, 0xC67178F2 ]

def sha256H : List Nat :=
  [ 0x6A09E667, 0xBB67AE85, 0x3C6EF372, 0xA54FF53A, 0x510E527F, 0x9B05688C, 0x1F83D9AB, 0x5BE0CD19 ]

def rotr32 (x n : Nat) : Nat := (x / 2 ^ n + x % 2 ^ n * 2 ^ (32 - n)) % 2 ^ 32

/-- Bytes as a number, the first most significant. -/
def beNat (l : List Nat) : Nat := l.foldl (fun v b => v * 256 + b % 256) 0

/-- A number as `n` bytes, the first most significant. -/
def beBytes (n v : Nat) : List Nat := (List.range n).map (fun i => v / 256 ^ (n - 1 - i) % 256)

/-- A word's four bytes, the lowest first, and back. -/
def leBytes (w : Nat) : List Nat := [w % 256, w / 256 % 256, w / 65536 % 256, w / 16777216 % 256]
def wordsBytes (l : List Nat) : List Nat := (l.map leBytes).flatten
def bytesWords (n : Nat) (l : List Nat) : List Nat :=
  (List.range n).map (fun i => (List.range 4).foldl (fun v j => v + l.getD (4 * i + j) 0 * 256 ^ j) 0)

/-- The padded message. -/
def shaPad (l : List Nat) : List Nat :=
  let z := (119 - l.length % 64) % 64
  l ++ [0x80] ++ List.replicate z 0 ++ beBytes 8 (8 * l.length)

/-- The next word of the schedule, from the last sixteen. -/
def shaNext (w : List Nat) : Nat :=
  let s0 := fun x => rotr32 x 7 ^^^ rotr32 x 18 ^^^ (x / 2 ^ 3)
  let s1 := fun x => rotr32 x 17 ^^^ rotr32 x 19 ^^^ (x / 2 ^ 10)
  (w.getD 0 0 + s0 (w.getD 1 0) + w.getD 9 0 + s1 (w.getD 14 0)) % 2 ^ 32

/-- One round: the state and the window of sixteen schedule words. -/
def shaRound (a : List Nat × List Nat) (k : Nat) : List Nat × List Nat :=
  let g := fun i => a.1.getD i 0
  let e := g 4
  let ch := (e &&& g 5) ^^^ ((0xFFFFFFFF ^^^ e) &&& g 6)
  let t1 := g 7 + (rotr32 e 6 ^^^ rotr32 e 11 ^^^ rotr32 e 25) + ch + k + a.2.getD 0 0
  let maj := (g 0 &&& g 1) ^^^ (g 0 &&& g 2) ^^^ (g 1 &&& g 2)
  let t2 := (rotr32 (g 0) 2 ^^^ rotr32 (g 0) 13 ^^^ rotr32 (g 0) 22) + maj
  ([(t1 + t2) % 2 ^ 32, g 0, g 1, g 2, (g 3 + t1) % 2 ^ 32, g 4, g 5, g 6], a.2.drop 1 ++ [shaNext a.2])

/-- One block of 64 bytes. -/
def shaBlock (h : List Nat) (b : List Nat) : List Nat :=
  let w := (List.range 16).map (fun i => beNat ((b.drop (4 * i)).take 4))
  let r := sha256K.foldl shaRound (h, w)
  (List.range 8).map (fun i => (h.getD i 0 + r.1.getD i 0) % 2 ^ 32)

def shaBlocks : Nat → List Nat → List Nat → List Nat
  | 0, h, _ => h
  | n + 1, h, l => shaBlocks n (shaBlock h (l.take 64)) (l.drop 64)

/-- SHA-256 of bytes, as 32 bytes. -/
def sha256 (l : List Nat) : List Nat :=
  let m := shaPad l
  ((shaBlocks (m.length / 64) sha256H m).map (fun w => beBytes 4 w)).flatten

/-- HMAC-SHA-256 with a key of at most 64 bytes. -/
def hmac256 (key msg : List Nat) : List Nat :=
  let k := key ++ List.replicate (64 - key.length) 0
  sha256 (k.map (fun b => b ^^^ 0x5C) ++ sha256 (k.map (fun b => b ^^^ 0x36) ++ msg))

/-- The first 16 bytes of HKDF-SHA-256 (RFC 5869). -/
def hkdf16 (salt ikm info : List Nat) : List Nat := (hmac256 (hmac256 salt ikm) (info ++ [1])).take 16

end Sys2Proof
end

