-- ==== Sys2Proof/Machine/Num.lean ====
section
/-! DEFINITION. Sample arithmetic (05 to 08): complex numbers of exact integers, convergent requantisation, and the filter
sums of the chains. A number in Qa.b stands for the integer 2^b times it. -/

namespace Sys2Proof

/-- A complex number of two integers. -/
structure Cx where
  re : Int := 0
  im : Int := 0
  deriving DecidableEq, Repr

namespace Machine

def Cx0 : Cx := ⟨0, 0⟩
def cadd (a b : Cx) : Cx := ⟨a.re + b.re, a.im + b.im⟩
def csub (a b : Cx) : Cx := ⟨a.re - b.re, a.im - b.im⟩
def cmul (a b : Cx) : Cx := ⟨a.re * b.re - a.im * b.im, a.re * b.im + a.im * b.re⟩
def cscale (k : Int) (a : Cx) : Cx := ⟨k * a.re, k * a.im⟩

/-- The magnitude squared. -/
def cmag (a : Cx) : Nat := (a.re * a.re + a.im * a.im).toNat

/-- A number brought into a two's complement word of `w` bits by wrapping. -/
def wrapSigned (w : Nat) (x : Int) : Int := toSigned w (ofSigned w x)

/-- `x / d` rounded convergently into a word of `w` bits, saturating or wrapping, and whether it overflowed (R123). -/
def fit (wrap : Bool) (w : Nat) (x : Int) (d : Nat) : Int × Bool :=
  let r := divConv x d
  let t := satSigned w r
  if r = t then (r, false) else (if wrap then wrapSigned w r else t, true)

/-- Both parts of a complex number likewise. -/
def fitCx (wrap : Bool) (w : Nat) (x : Cx) (d : Nat) : Cx × Bool :=
  let a := fit wrap w x.re d
  let b := fit wrap w x.im d
  (⟨a.1, b.1⟩, a.2 || b.2)

/-- The sum over a history, newest first, of `h k` times its `k`-th sample. -/
def dotFrom (h : Nat → Int) : Nat → List Cx → Cx
  | _, [] => Cx0
  | k, x :: t => cadd (cscale (h k) x) (dotFrom h (k + 1) t)

def dot (h : Nat → Int) (xs : List Cx) : Cx := dotFrom h 0 xs

/-- A sample joins a history of `n`, newest first. Samples before the first count as zero. -/
def shiftIn (n : Nat) (x : Cx) (h : List Cx) : List Cx := (x :: h).take n

/-- A number joins a history of `n`, newest first. -/
def shiftInNat (n x : Nat) (h : List Nat) : List Nat := (x :: h).take n

/-- One of the bits `a` to `b` is set: of a history with a bit for each tick, one of those ages. -/
def anyBit (h a b : Nat) : Bool := h / 2 ^ a % 2 ^ (b + 1 - a) != 0

/-- Tap `k` of a half-band filter of 2 * c + 1 taps, in 2^-24: one half at the centre, 0 at every other tap from there, and
the vendor's coefficients between them (log entry 60). -/
def hbTap (filter c k : Nat) : Int :=
  let d := if k < c then c - k else k - c
  if d = 0 then 2 ^ 23 else if d % 2 = 0 then 0 else Config.halfBand filter d

/-- The magnitude of a Q1.15 sample in U1.15, rounded convergently, at most 1 (R191). No square root of a whole number lies
halfway between two. -/
def envelopeOf (x : Cx) : Nat :=
  let n := cmag x
  let r := Nat.sqrt n
  min 32768 (if r * r + r < n then r + 1 else r)

/-- The largest number of `n` bits for which `p` holds; `p` holds up to some number and not above it. -/
def largest (p : Nat → Bool) : Nat → Nat → Nat
  | 0, a => a
  | n + 1, a => largest p n (if p (a + 2 ^ n) then a + 2 ^ n else a)

/-- The limiting gain of an attenuation of `a` steps of 0.25 dB in U1.15: 2^15 * 10^(-a / 80) to the nearest (R188). -/
def attGain (a : Nat) : Nat := largest (fun y => decide ((2 * y - 1) ^ 80 * 10 ^ a ≤ (2 ^ 16) ^ 80)) 16 0

end Machine
end Sys2Proof
end

