-- ==== Sys2Proof/Machine/State.lean ====
section
/-! DEFINITION. The whole state of the block, as plain data: the register store, the hidden state of each unit that
the spec's rules name or imply, the queue of waiting commands, and the state after reset. -/

namespace Sys2Proof.Machine

/-- Why a step stops with a fault. -/
inductive Fault where
  /-- No meaning of this model raises it: every error that the spec gives the block is an effect on its state. Safe. -/
  | none
  deriving DecidableEq, Repr

/-- Why a step is refused. -/
inductive Refusal where
  /-- Raised by Dispatch for a command that has no meaning yet. Safe: nothing can be proved of it. -/
  | notModelled (mnemonic : String)
  deriving DecidableEq, Repr

/-- One write that has joined a coincidence window (R57). -/
structure WinWrite where
  cls : Cls
  agent : Nat
  val : Nat
  tick : Nat
  word : Nat := 0
  deriving DecidableEq, Repr

/-- An open coincidence window of one field (R57). -/
structure Window where
  loc : Loc
  openAt : Nat
  writes : List WinWrite
  deriving DecidableEq, Repr

/-- A W1C clear or WO trigger that acts at its action tick, 8 ticks after its arrival (R60). -/
structure Trigger where
  loc : Loc
  cls : Cls
  agent : Nat
  val : Nat
  actAt : Nat
  word : Nat := 0
  deriving DecidableEq, Repr

/-- A word that has been written and is not yet answered (R45, R58): its number, writer and address, the code with which
part of it was refused (0 none), whether a field of it has been superseded, and the windows and triggers it still waits
for. -/
structure WordSt where
  id : Nat
  cls : Cls
  addr : Nat
  code : Nat
  sup : Bool
  left : Nat
  deriving DecidableEq, Repr

/-- The answer to an access: the class it answers, the words read, and the status byte or code (R45, R54). -/
structure Answer where
  cls : Cls
  data : List Nat
  status : Nat
  deriving DecidableEq, Repr

/-- A packet waiting to be sent as an ERL event or status message (R290, R291). -/
inductive EvtPkt where
  | events (page bits tick : Nat)
  | status (code detail stamp : Nat)
  deriving DecidableEq, Repr

/-- One log record (R402). -/
structure LogRec where
  seq : Nat
  type : Nat
  sev : Nat
  cls : Nat
  page : Nat
  stamp : Nat
  w4 : Nat
  w5 : Nat
  w6 : Nat
  link : Nat
  deriving DecidableEq, Repr

/-- The state of a path (R210, PATH_STATE). -/
inductive PState where
  | off | rx | tx | turn | obs | cal | sndTx | sndRx
  deriving DecidableEq, Repr

/-- Hidden state of one path: its state and turn-round (R213 to R215), its window, ONESHOT or SET (R220 to R222), its
withdrawal (R244), and what mutes its driver until a slot boundary (R81, R160, R226). -/
structure PathSt where
  /-- the state in force -/
  st : PState := .off
  /-- the target, the state left and the start (always-on tick) of the turn-round in progress, and the state whose
  receive input is in use until its 40th tick (R99) -/
  tgt : PState := .off
  left : PState := .off
  inFrom : PState := .off
  t1 : Nat := 0
  /-- the driver's enable, and whether it has switched in this turn-round (R214) -/
  drv : Bool := false
  drvDone : Bool := false
  /-- end of the window in progress -/
  win : Option Nat := none
  /-- tick at which the state in force was entered -/
  since : Nat := 0
  /-- end of the ONESHOT in progress and its return state -/
  shot : Option (Nat × PState) := none
  /-- a SET state, or the RET state of a ONESHOT, is in force -/
  held : Bool := false
  /-- withdrawn for foreground calibration, and a change of that which waits for the slot boundary -/
  wdr : Bool := false
  wdrTo : Option Bool := none
  /-- directions being calibrated while withdrawn: bit 0 transmit, bit 1 receive (R185) -/
  wdrDir : Nat := 0
  /-- the driver is suppressed until the next slot boundary, with the cause of R226 -/
  supp : Nat := 0
  /-- a released mute that lasts to the next slot boundary (R160) -/
  muteToSlot : Bool := false
  /-- a RETIRE or RX_RETIRE change that waits for the slot boundary (R163, R475) -/
  retTx : Bool := false
  retRx : Bool := false
  deriving DecidableEq, Repr

/-- Hidden state of a receive chain (04, 05): spans of INVALID samples, overload release, the waiting comparator
selection, the decimator alignment and the detectors. -/
structure RxSt where
  /-- ADC samples before this always-on tick are INVALID (R102, R106, R110) -/
  invUntil : Nat := 0
  /-- always-on tick of the engagement or of the last release step, and whether a step has been made (R112) -/
  ovlAt : Nat := 0
  ovlStep : Bool := false
  /-- OVL_HOLD and OVL_DECAY at a hardware engagement, which no later write shortens (R114) -/
  ovlHold : Nat := 0
  ovlDecay : Nat := 0
  /-- a comparator selection that waits for a permitted boundary: maps and spares of I and Q (R108) -/
  comp : Option (Nat × Nat × Nat × Nat) := none
  /-- always-on tick of the alignment in progress (R129) -/
  align : Option Nat := none
  /-- samples of the ADC queue before this always-on tick were discarded (R13) -/
  ovfUntil : Nat := 0
  /-- stamp of the sample with which the threshold count reached HOLD: the crossing is due (R130) -/
  thrDue : Option Nat := none
  deriving DecidableEq, Repr

/-- Hidden state of a transmit chain (06). -/
structure TxSt where
  /-- a cell selection that waits for a permitted boundary: maps and spares of I and Q (R148) -/
  cell : Option (Nat × Nat × Nat × Nat) := none
  /-- range change in progress: its start b as an always-on tick, its new range, and whether it has switched (R157) -/
  range : Option (Nat × Nat × Bool) := none
  /-- range changes requested while one is in progress (R157) -/
  rangeQ : List Nat := []
  /-- a mute released outside M5 lasts to this always-on tick (R160) -/
  muteUntil : Nat := 0
  /-- as of a receive path -/
  thrDue : Option Nat := none
  /-- the sample due at the pin at this always-on tick was missing in the DAC queue: zero goes out in its place (R13) -/
  hole : Option Nat := none
  deriving DecidableEq, Repr

/-- One entry of a timeline queue (R217). `id` is the push it came from, `cls` the class that made it, and
`slot` its place in the memory of the octet's queue. -/
structure QEntry where
  id : Nat
  cls : Cls
  t : Nat
  code : Nat
  st : Nat
  ret : Nat
  range : Nat
  mask : Nat
  arg : Nat
  slot : Nat := 0
  deriving DecidableEq, Repr

/-- Hidden state of one octet: its queue, and what has happened in the slot in progress. -/
structure OctSt where
  queue : List QEntry := []
  /-- a suppression has been reported in this slot (R227) -/
  reported : Bool := false
  /-- the octet's LO assignment changed in this slot (R74) -/
  moved : Bool := false
  /-- the turn-round, with the level it goes to, for which an RFFE sequence was last started (R230) -/
  rffeFor : Option (Nat × Bool) := none
  deriving DecidableEq, Repr

/-- What a loop is doing (R66, R76, R82). -/
inductive LoopPhase where
  | off | search | locked | ready
  /-- waits for the next commit, because fPFD changed (R82) -/
  | held
  /-- band search failed or fVCO out of range (R71) -/
  | failed
  deriving DecidableEq, Repr

/-- A mode transition in progress: its target, the time-base value of its request, and its origin. -/
structure Transit where
  target : Nat
  reqAt : Nat
  hw : Bool := false
  deriving DecidableEq, Repr

/-- Supplies, straps and pins (R19, R387, R482 to R490). -/
structure PowerSt where
  /-- VAUX in its range, and its voltage in mV (R486, R488) -/
  vaux : Bool := true
  vauxMv : Nat := 3300
  /-- VCORE, VCNV, VANA and VRF good -/
  vcore : Bool := false
  vcnv : Bool := false
  vana : Bool := false
  vrf : Bool := false
  /-- always-on tick since which all four have been good -/
  goodAt : Nat := 0
  /-- VIO1 to VIO4 good, one bit each -/
  vio : Nat := 0xF
  /-- RESET_N recognised as asserted (R490) -/
  resetN : Bool := false
  /-- TXKILL_N recognised as asserted, and the always-on tick since which it has been high (R161) -/
  kill : Bool := false
  /-- BIAS_SAFE has been read from OTP (R488) -/
  biasRead : Bool := false
  /-- the radio domains are isolated (R489) -/
  isolated : Bool := true
  deriving DecidableEq, Repr

/-- Clocks and the time base (03): hidden state of the four loops (0 CPLL, 1 LOA, 2 LOB, 3 LPLL), the holdover, the
step and TSYNC. -/
structure ClockSt where
  loops : List LoopPhase := [.off, .off, .off, .off]
  /-- always-on tick at which the count of comparisons of each loop started: with its search, or with its lock (R66) -/
  loopAt : List Nat := [0, 0, 0, 0]
  /-- the converter islands pass through the bypass sequence of one REFCLK edge before this always-on tick (R70, R91) -/
  bypUntil : Nat := 0
  /-- fPFD is 61.44 MHz (REF_RATE 0) at the last recognised rate (R64) -/
  lowPfd : Bool := false
  /-- REFCLK has returned; counting resumes at the next multiple of 16 with this INC (R82) -/
  resume : Option Nat := none
  /-- a STEP_GO waits for its REFCLK edge (R88) -/
  stepGo : Bool := false
  /-- TSYNCO is high until this always-on tick (R93) -/
  tsynco : Option Nat := none
  /-- receive samples before this always-on tick are invalid after a step or load in M4 (R88, R92) -/
  rxInvUntil : Nat := 0
  /-- a loss of lock of each loop that LOOP_READY will report (R80) -/
  lost : List Bool := [false, false, false, false]
  /-- LO phase calibration of LOA, LOB in progress since this tick (R237) -/
  loCal : List (Option Nat) := [none, none]
  /-- always-on tick at which each loop last became READY (R116, R260) -/
  readyAt : List Nat := [0, 0, 0, 0]
  deriving DecidableEq, Repr

/-- A sequence in progress on the RFFE master (R230): its number, the command it is at, the octet it was started for,
and whether that command is on its bus. -/
structure RffeRun where
  seq : Nat
  idx : Nat
  oct : Nat
  started : Bool
  deriving DecidableEq, Repr

/-- The RFFE master: the sequences in progress, and the tick at which the command on each bus ends. -/
structure RffeSt where
  runs : List RffeRun := []
  busy : List (Option Nat) := [none, none, none, none]
  deriving DecidableEq, Repr

/-- Lane power of one direction (R231, R232, R261 to R264). -/
structure LaneSleep where
  /-- end of the entry into sleep, and of the wake in progress (R261, R263) -/
  entryEnd : Nat := 0
  wakeEnd : Nat := 0
  /-- awake at least until this tick after a wake request (R232) -/
  holdUntil : Nat := 0
  /-- a failed wake keeps the direction awake (R264) -/
  failed : Bool := false
  /-- an ERL SLEEP request: its depth (1 light, 2 deep), FROM and UNTIL, where 0 is until withdrawn (R287) -/
  erl : Option (Nat × Nat × Nat) := none
  deriving DecidableEq, Repr

/-- A commit whose swap is awaited (R46): its page, the first tick at which it may swap, and whether it was immediate
or late. -/
structure CommitSt where
  page : Nat
  target : Nat
  immed : Bool
  late : Bool
  deriving DecidableEq, Repr

/-- The timeline (09) beside the octets: TRIGOUT, the push counter, RFFE and lane sleep. -/
structure TimelineSt where
  trigEnd : Option Nat := none
  nextId : Nat := 0
  rffe : RffeSt := {}
  ds : LaneSleep := {}
  us : LaneSleep := {}
  deriving DecidableEq, Repr

/-- TIM exchanges (R296, R297), times in 1/256 tick: the open exchanges (ID, t1, t2, t3), the accepted delays, the
accepted offsets with their t2, and the measurement in force with the tick at which it was made. -/
structure TimSt where
  opened : List (Nat × Nat × Nat × Nat) := []
  deltas : List Int := []
  hist : List (Nat × Int) := []
  meas : Option (Int × Nat) := none
  freq : Int := 0
  deriving DecidableEq, Repr

/-- The Cumin measurement (R316): value and tick, the history for its slope, and FREQ_ERR. -/
structure CuminMeas where
  meas : Option (Int × Nat) := none
  hist : List (Nat × Int) := []
  freq : Int := 0
  deriving DecidableEq, Repr

/-- The Anise measurement (R335): the last values of m and their mean, the history for its slope, the tick of the last frame that
passed the gate, and FREQ_ERR. -/
structure AniseMeas where
  ms : List Int := []
  val : Int := 0
  hist : List (Nat × Int) := []
  passed : Option Nat := none
  freq : Int := 0
  deriving DecidableEq, Repr

/-- A calibration run of the frame phase (R334): frames counted, the phase of the first, and the sum of the others'
phases relative to it, in 1/256 tick. -/
structure AniRun where
  n : Nat := 0
  first : Nat := 0
  sum : Int := 0
  deriving DecidableEq, Repr

/-- Hidden state of Anise (14): the synthesiser is locked and the front-end calibration runs; good blocks or frames in a
row and bad ones, and the offset of the last block; decision points in favour of the other aerial; PI, TP and PTY of the
last group; each PS segment with the number of identical receptions; the AF list in collection and the last complete one;
the next AF of the pass in progress, the always-on tick of the last pass, the tick since which the level is weak, and the
AFs barred with the ends of that; the hop under check (frequency and PI before it, groups since); EId and frequency bound
match; the calibration request and run; the gate's phase and misses in a row; the sub-channel is located; an alarm is
active; always-on tick of the loss of synchronisation; candidates for following from FIG 0/21 and then the others, those
left of the round, and the tick of the one under trial; and the side-data queue, the last 16 records and the next number. -/
structure AniSt where
  locked : Bool := false
  feCal : Bool := false
  run : Nat := 0
  bad : Nat := 0
  lastOfs : Nat := 0
  div : Nat := 0
  grp : Option (Nat × Nat × Nat) := none
  ps : List (Nat × Nat) := [(0, 0), (0, 0), (0, 0), (0, 0)]
  afNew : Option (Nat × List Nat) := none
  afOld : List Nat := []
  afNext : Option Nat := none
  chkAt : Nat := 0
  weakAt : Option Nat := none
  bars : List (Nat × Nat) := []
  hop : Option (Nat × Nat × Nat) := none
  bound : Bool := false
  go : Bool := false
  cal : Option AniRun := none
  phi : Option Nat := none
  miss : Nat := 0
  subs : List Nat := []
  alarm : Bool := false
  lostAt : Option Nat := none
  cand : List Nat × List Nat := ([], [])
  left : List Nat := []
  candAt : Option Nat := none
  queue : List (List Nat) := []
  last : List (Nat × Nat × List Nat) := []
  seq : Nat := 0
  deriving DecidableEq, Repr

/-- Hidden state of one direction's beamformer (07): the gains of a pending commit are not ready (R183), and a change
of forcing or damage awaits its gains (R186). -/
structure BeamSt where
  wait : Bool := false
  redo : Bool := false
  deriving DecidableEq, Repr

/-- Hidden state of the weight memory: code words found damaged (R187), code words that ERL messages have rewritten
since, the block being filled (R181), and the limiter's own path attenuations (R189). -/
structure WeightSt where
  damaged : Store := []
  rewritten : Store := []
  fillBlk : Nat := 0
  limAtt : List Nat := []
  deriving DecidableEq, Repr

/-- Hidden state of one gate-bias output (R166 to R170): start of the range change in us, whether it has switched, and
whether BIAS_RANGE_DONE is owed. -/
structure BiasSt where
  rangeAt : Option Nat := none
  owed : Bool := false
  lastUs : Nat := 0
  deriving DecidableEq, Repr

/-- The log (R402 to R406): next SEQ, the records in log RAM, the number unflushed, records lost since the last flush,
the 32 bytes of the chain's head; the records in the flash log area and the number ever written there; the always-on tick
of the last flush; a flush is deferred; and the record that a flash read is fetching. -/
structure LogSt where
  next : Nat := 0
  recs : List LogRec := []
  unflushed : Nat := 0
  lost : Nat := 0
  head : List Nat := List.replicate 32 0
  flash : List LogRec := []
  flashN : Nat := 0
  flushAt : Nat := 0
  deferred : Bool := false
  rd : Option Nat := none
  deriving DecidableEq, Repr

/-- A line of Pepper's data cache (R383): its address, the way that holds it (0 or 1), whether it is dirty, and its eight
words. -/
structure CacheLine where
  addr : Nat
  way : Nat
  dirty : Bool
  words : List Nat
  deriving DecidableEq, Repr

/-- Pepper (17): the lines in its caches, the machine timer interrupt, KEY_SLOT of the running image, the always-on
tick from which the run-time watchdog counts, the address of a refused store whose imprecise store fault interrupt is
pending (R49), the address (mtval) of the last store access fault (R384, R437, R438), and a count of evictions. -/
structure MgmtSt where
  dcache : List CacheLine := []
  icache : List Nat := []
  mtip : Bool := false
  keySlot : Nat := 0
  wdAt : Nat := 0
  storeFault : Option Nat := none
  accessFault : Option Nat := none
  evictions : Nat := 0
  deriving DecidableEq, Repr

/-- An UPDATE operation that is performed or waits (R399): its class, OP, ARG, OFS, LEN and data words, and the tag of the ERL request it
came with. -/
structure UpdJob where
  cls : Cls
  op : Nat
  arg : Nat
  ofs : Nat
  len : Nat
  data : List Nat
  tag : Option Nat
  deriving DecidableEq, Repr

/-- The OTP security region and fuse map (R413, R445): contents that outlast every reset. Hashes are of 8 words, first
byte in bits [7:0]. `bias` holds the BIAS_SAFE entry of each gate-bias output: SAFE_CODE, SAFE_RANGE, MAX_CODE (R167). -/
structure OtpSt where
  serial : Nat := 0
  idPriv : Nat := 0
  hashes : List (List Nat)
  revoke : Nat := 0
  provisioned : Bool := false
  scanPermit : Bool := false
  rb : Nat := 0
  lrRb : Nat := 0
  fact : List Nat
  field : List Nat
  bias : List (Nat × Nat × Nat) := List.replicate 16 (0, 0, 0)
  deriving DecidableEq, Repr

/-- Security (18): the OTP, key-engine and record-load operations in progress; what key RAM holds (identity scalar,
ephemeral scalar, session key); a session key that awaits its tick and that tick; the debug nonce is live, and an unlock is
in progress. -/
structure SecSt where
  otpJob : Option (Nat × Nat) := none
  keJob : Option Nat := none
  lrJob : Option Nat := none
  idKey : Option Nat := none
  eph : Option Nat := none
  key : Nat := 0
  newKey : Option Nat := none
  keyAt : Option Nat := none
  dbgLive : Bool := false
  unlocking : Bool := false
  deriving DecidableEq, Repr

/-- The monitor Sumac (R407 to R409): the nonce in force, always-on ticks of the end of the elevation and of the last
command, failed ELEV commands in a row, and the end of the lock. -/
structure MonSt where
  nonce : Option (List Nat) := none
  until_ : Nat := 0
  lastCmd : Nat := 0
  fails : Nat := 0
  lockEnd : Nat := 0
  deriving DecidableEq, Repr

/-- Self-test and scrubber (19): the memories that the running BIST isolates, its target, whether it is aborted and what
it found; the result FIFO; per memory the next code word of the scrubber and the start of its lap, plus 1; and the
fuse-map operation in progress. -/
structure BistSt where
  mems : List Nat := []
  run : Option Nat := none
  abort : Bool := false
  fifo : List (Nat × Nat) := []
  scrubAt : Store := []
  lapAt : Store := []
  fuse : Option (Nat × Nat × Nat) := none
  deriving DecidableEq, Repr

/-- Modes, starts and restarts (01, 17).

`next` is the class of a request written during a transition (R16). `reason` is the reason of the start that waits or
runs; `step` the ROM step that it is at (1 lock, 2 VCORE, 0 none) and `stepAt` the always-on tick at which that began;
`acked`: the regulator has acknowledged a command; `find` and `flashBad`: what the self-test of this start will find, and
the slots whose flash cannot be read. `wdAt` and `contAt` are the always-on ticks from which the boot watchdog and the 5 s
of a restart count; `expired` the code of a restart that has expired, `holdAt` the start of its link hold (R27);
`stableAt` the tick from which STABLE_TIME counts; `outAt` the start of the open outage, `outTicks` the unavailable ticks
before it (R28). -/
structure ModeSt where
  next : Option Cls := none
  reason : Nat := 0
  step : Nat := 0
  stepAt : Nat := 0
  acked : Bool := false
  find : SelfTest := {}
  flashBad : Nat := 0
  wdAt : Option Nat := none
  contAt : Nat := 0
  expired : Option Nat := none
  holdAt : Option Nat := none
  stableAt : Option Nat := none
  outAt : Option Nat := none
  outTicks : Nat := 0
  deriving DecidableEq, Repr

/-- Sensing (20): the queue of results (two words each), conversions that wait with their causes, the always-on tick of the
last schedule pass, of the start of a calibration, and of when the next is due (plus 1, 0 before the first), conversions in a row that found a sensor broken or good, the tick
(plus 1) of each channel's last conversion, the comparators that are not armed, and the tick of the last telemetry. -/
structure HkSt where
  queue : List (Nat × Nat) := []
  reqs : List (Nat × Nat) := []
  passAt : Nat := 0
  calAt : Option Nat := none
  calNext : Nat := 0
  bad : Store := []
  good : Store := []
  convAt : Store := []
  disarmed : Store := []
  telAt : Nat := 0
  deriving DecidableEq, Repr

/-- Voltage and ageing (20): ticks during which VCORE has been commanded, and those of the hour in progress; of the day in
progress the ticks, the sums over them of the VCORE target in mV and of the nine die readings in 1/256 degree, and the
ticks in which the target was held; a day waits to be closed; VCORE-on tick at which an indicator was last not HEALTHY and
last WORN; windows in a row with ample slack; time base at which AVS_LIMIT was last raised; always-on tick of the last
command whose check is owed; a command is to be repeated; and the highest BAND of each loop since VAUX. -/
structure AgeSt where
  on : Nat := 0
  hour : Nat := 0
  dayTicks : Nat := 0
  dayTgt : Nat := 0
  dayTemp : Int := 0
  dayHeld : Nat := 0
  dayDue : Bool := false
  watchAt : Nat := 0
  wornAt : Nat := 0
  lowN : Nat := 0
  limitAt : Option Nat := none
  cmdAt : Option Nat := none
  again : Bool := false
  bands : List Nat := [0, 0, 0, 0]
  deriving DecidableEq, Repr

/-- A segment that a capture port is recording (R342 to R344). Offsets are in bytes from the start of the region. -/
structure SegSt where
  no : Nat
  hdr : Nat
  /-- the next byte that is written, counted without wrapping -/
  pos : Nat
  trig : Nat
  frac : Nat
  cause : Nat
  forced : Bool
  /-- stamps of the first sample, of the first that may be recorded on the count in use, and of the end -/
  first : Nat
  lo : Nat
  stop : Nat
  preAct : Nat
  nsamp : Nat := 0
  /-- samples of the block that is open -/
  block : List Sample := []
  full : Bool := false
  /-- the segment holds an INVALID sample or a gap -/
  bad : Bool := false
  deriving DecidableEq, Repr

/-- Hidden state of a capture port (15). -/
structure CapSt where
  armAt : Nat := 0
  /-- stamp at which the last segment of the arm ended, its end in the region, and the last trigger that acted -/
  segEnd : Option Nat := none
  endPos : Nat := 0
  lastTrig : Option Nat := none
  segNo : Nat := 0
  /-- the time-base trigger has acted in this arm -/
  tbDone : Bool := false
  /-- the arm was made by the DPD block (R353) -/
  dpd : Bool := false
  seg : Option SegSt := none
  /-- samples that have arrived and are in no block yet -/
  feed : List Sample := []
  /-- the ring is full: stamp of the first lost sample, and the number lost (R350) -/
  lost : Option (Nat × Nat) := none
  /-- export: bytes sent since the arm, stopped by an uncorrectable word, and denied once (R352, R439) -/
  expPos : Nat := 0
  expStop : Bool := false
  expDenied : Bool := false
  deriving DecidableEq, Repr

/-- Hidden state of a DMA channel (R354 to R357): the class of the doorbell; the descriptor in progress, whether it has
been read, and its words SRC, DST, LEN, control, water and NEXT; and the bytes moved. -/
structure DmaSt where
  cls : Cls := .mgmt
  desc : Nat := 0
  loaded : Bool := false
  src : Nat := 0
  dst : Nat := 0
  len : Nat := 0
  ctl : Nat := 0
  water : Nat := 0
  next : Nat := 0
  moved : Nat := 0
  deriving DecidableEq, Repr

/-- Hidden state of a monitor tap: no window that starts before this tick is published (R135, R136); its own self-test
holds its results (R136); the band filter's history with its flags (R132); the first of the largest valid samples of the
peak window, the sum of m and the number of valid samples of the mean-square window, and the m of the valid samples of the
envelope interval with its OVL (R133, R134). -/
structure TapSt where
  since : Nat := 0
  test : Bool := false
  hist : List Sample := []
  pk : Option Sample := none
  sum : Nat := 0
  cnt : Nat := 0
  env : List Nat := []
  envOvl : Bool := false
  deriving DecidableEq, Repr

/-- A job of the adaptation lap (R200, R201): its path, the tick of its assignment, the start of the capture in
progress, and whether the capture is complete. -/
structure DpdJob where
  path : Nat
  at_ : Nat
  cap : Option Nat := none
  done : Bool := false
  deriving DecidableEq, Repr

/-- Hidden state of one path's update (R203 to R205): whether it has had a result in the lap; always-on tick at which
the timer started and at which it stopped; whether it waits, without a guard, for the path's clocks; the tick of the taps' repointing; windows count from `since` on, and not before
`good`; the last window counted; the windows counted with their sums, and the sums of the baseline. -/
structure DpdPath where
  lapped : Bool := false
  timer : Nat := 0
  paused : Option Nat := none
  bare : Bool := false
  aim : Option Nat := none
  since : Nat := 0
  good : Nat := 0
  last : Nat := 0
  n : Nat := 0
  c : Nat := 0
  a : Nat := 0
  c0 : Nat := 0
  a0 : Nat := 0
  deriving DecidableEq, Repr

/-- The adaptation lap (08): the job of each core, the updates, and the always-on tick at which the lap began. -/
structure DpdSt where
  jobs : List (Option DpdJob)
  paths : List DpdPath
  lapAt : Nat := 0
  deriving DecidableEq, Repr

/-- A DC or IQ correction on its way to its target (R239): the field's number, the value and tick from which it moves,
and the number of samples it takes, as a power of two. -/
structure SlewSt where
  key : Nat
  start : Int
  at_ : Nat
  k : Nat
  deriving DecidableEq, Repr

/-- A calibration result that waits (R235, R236): its kind, path and values. -/
structure CalRes where
  kind : Nat
  path : Nat
  vals : List Nat
  deriving DecidableEq, Repr

/-- A gain and phase on their way to a target (R239), in 1/30,000 dB and 1/3,000 degree, and the updates counted since
the delay moved. -/
structure CorrSt where
  polar : Option (Int × Int) := none
  dly : Nat := 0
  deriving DecidableEq, Repr

/-- Hidden state of the calibration engine (10): the tick of the last RREF check; results that wait for a page's commit
and trims that wait for a boundary; slews; the corrections of CAL1 and then CAL2; the kinds left of each path in
foreground, and whether it waits, is withdrawn or is done; the always-on tick (plus 1) and octet temperature of the last
result of kind k on path p under k * 128 + p; the kinds scheduled; the ticks of array results under d * 128 + p; failures
in a row and compliance faults within a day (R473); and under d * 128 + p what R242 counts: since when the samples of the code
period under way are good, the periods that have just ended, the indices that have counted, as bits, and the measurements
completed. -/
structure CalSt where
  refAt : Option Nat := none
  wait : List CalRes := []
  trims : List CalRes := []
  slews : List SlewSt := []
  corrs : List CorrSt
  fg : List (Nat × Nat) := []
  last : Store := []
  lastTemp : Store := []
  due : Store := []
  arrAt : Store := []
  fails : Store := []
  cmpl : List (Nat × Nat) := []
  arrGood : List (Nat × Nat) := []
  arrPend : List Nat := []
  arrSeen : Store := []
  arrDone : Store := []
  deriving DecidableEq, Repr

/-- Hidden state of retirement (R473, R474): the always-on tick, plus 1, at which the candidacy of d * 64 + p began
(d is 0 for transmit and 1 for receive). -/
structure RetireSt where
  candAt : Store := []
  deriving DecidableEq, Repr

/-- The receive chain of one operational path (05): the integrators and combs of
CIC1, the inputs of each filter, newest first, whether a word of the output sample in the making has overflowed, and the
outputs that wait in stream alignment for their stamps, each with its overflow. Bit i of `inv`, `ovl`, `obs` and `ulk` speaks
of the ADC instant i ticks ago: INVALID, OVL, in OBS, and in RX, SND_RX or CAL (R97, R281). -/
structure RxDp where
  n : Nat
  cicI : List Cx := List.replicate 5 {}
  cicC : List Cx := List.replicate 5 {}
  hb1 : List Cx := []
  iq : List Cx := []
  fir : List Cx := []
  hb2 : List Cx := []
  hb3 : List Cx := []
  hb4 : List Cx := []
  cal : List Cx := []
  ovf : Bool := false
  queue : List (Nat × Cx × Bool) := []
  inv : Nat := 2 ^ 1024 - 1
  ovl : Nat := 0
  obs : Nat := 0
  ulk : Nat := 0
  /-- output of DC and IQ correction, Q1.17, and the history of it that Cumin keeps in SND_RX (R311) -/
  corr : Cx := {}
  snd : List Cx := []
  /-- the output sample of this tick, if it has one -/
  out : Option Sample := none
  deriving DecidableEq, Repr

/-- What a sample is multiplied by at the pin: 1, a step of the ramps of R157 and R160, or 0. -/
inductive Ramp where
  | one | down (k : Nat) | zero | up (k : Nat)
  deriving DecidableEq, Repr

/-- What an output carries at its RF pin: nothing, while the driver is disabled or muted; or a sample of its chain in Q1.15
with its ramp and, in a period of the array code, the code's sample, which is worth (re + j im) / sqrt 2 (R241). -/
inductive PinOut where
  | off
  | wave (x : Cx) (ramp : Ramp) (code : Option Cx)
  deriving DecidableEq, Repr

/-- A peak that CFR cancels: its age in samples, its value and A / |x| in 2^-30 (R142). -/
structure CfrPeak where
  age : Nat
  x : Cx
  ratio : Nat
  deriving DecidableEq, Repr

/-- The transmit chain of one operational output (06): beamformer samples that wait for their stamps, the inputs
of each filter, newest first, the powers of the CFR input, the peaks being cancelled and their number in the window of 32
samples, the inputs and outputs of DPD, the outputs of IQ and DC correction, and what the pin carries. -/
structure TxDp where
  n : Nat
  inq : List (Nat × Cx) := []
  up3 : List Cx := []
  up2 : List Cx := []
  up1 : List Cx := []
  cal : List Cx := []
  cfr : List Cx := []
  pow : List Nat := []
  peaks : List CfrPeak := []
  cuts : Nat := 0
  up : List Cx := []
  x : List Cx := []
  u : List Cx := []
  dac : List Cx := []
  pin : PinOut := .off
  deriving DecidableEq, Repr

/-- The sample streams (05 to 08): the chains of the operational pages; the uplink streams, each with its samples, newest
first; the downlink's zero samples until a stamp (R172); the sums of the limiter's window under way by path and by layer, with
the layers' valid samples and the number of instants (R188), and the attenuations that wait for their tick (R189); and the
always-on tick, plus 1, of the last CFR_LIMIT of each path. -/
structure StreamSt where
  rx : List RxDp := []
  tx : List TxDp := []
  ul : List (Nat × List Sample) := []
  dlZero : Nat := 0
  pathSum : Store := []
  layerSum : Store := []
  layerCnt : Store := []
  limCnt : Nat := 0
  attNext : Option (Nat × List Nat × List Nat) := none
  cfrAt : Store := []
  /-- what CALTX carries at its pin -/
  calPin : PinOut := .off
  deriving DecidableEq, Repr

/-- Hidden state of the lanes (11): per downstream lane the always-on tick at which its checker synchronised, and the sampling
phase at the always-on tick from which it moves towards DESKEW (R252); per upstream lane the bits of an injection that is
pending. -/
structure LanesSt where
  syncAt : List (Option Nat)
  inj : List Nat
  phase : List (Nat × Nat) := List.replicate 16 (64, 0)
  /-- the upstream lane queue has underflowed: the samples of the next window are sent marked invalid (R13) -/
  lost : Bool := false
  deriving DecidableEq, Repr

/-- One window of a stream that the playout buffer holds (R284). -/
structure Playout where
  fmt : Nat
  stream : Nat
  stamp : Nat
  inv : Nat
  words : List Nat
  deriving DecidableEq, Repr

/-- The uplink setting before a commit of RATE or FMT at time `at_`, in which the window that contains it is sent (R282). -/
structure UlOld where
  at_ : Nat
  rate : Nat
  fmt : Nat
  deriving DecidableEq, Repr

/-- Hidden state of the radio link (12): the last SEQ received and the next sent of each class; the last envelope CTR
accepted (class) and sent (class + 16); good markers of the frame in progress and failed frames in a row, per lane; good
frames in a row; the playout buffer; tick and time at which the link went down and DL_MISS was last raised; and the
packets or blocks that the last command sent upstream; whether the content stream is ignored up to the next marker, after a
malformed packet (R277); and the uplink setting before its last change (R282). -/
structure ErlSt where
  rxSeq : Store := []
  txSeq : Store := []
  ctr : Store := []
  good : Nat := 0
  fails : Store := []
  run : Nat := 0
  held : List Playout := []
  downAt : Nat := 0
  downTb : Nat := 0
  missAt : Option Nat := none
  out : List (List Nat) := []
  skip : Bool := false
  ulOld : Option UlOld := none
  deriving DecidableEq, Repr

/-- One good reception of a burst (R314): sender, SEQ, TS and arrival time in 1/256 tick. -/
structure SndRx where
  sender : Nat
  seq : Nat
  ts : Nat
  at_ : Nat
  deriving DecidableEq, Repr

/-- Hidden state of Cumin (13): the burst in progress (its instant and its 160 code bits), the last 16 bursts sent (SEQ
and t_tx), the last four receptions of each sender, the receive queue, the AGC's gain code and whether it is frozen, the
beam kept, the accepted delays of each peer entry, and of beams A and B the samples before the matched pulse, newest first,
and its output (R311). -/
structure SndSt where
  burst : Option (Nat × Nat) := none
  own : List (Nat × Nat) := []
  hist : List SndRx := []
  queue : List (List Nat) := []
  agc : Nat := 60
  frozen : Bool := false
  beamB : Bool := false
  deltas : List (List Int)
  inA : List Cx := []
  inB : List Cx := []
  outA : Cx := {}
  outB : Cx := {}
  deriving DecidableEq, Repr

/-- One Clove core (16): its registers, and what is in flight.

`acc` is what a multiplier that accumulates reads, `accV` what every other read sees; `ig`, `mg`, `kg` are what address
generation sees of I, M and K, and `lcV`, `lsV`, `leV` what the loop test sees of LC, LS and LE; `nz` holds NF and ZF as
conditional jumps see them (R368). `flight` lists results that are not yet visible: instructions to go, target and value;
`branch` the taken branches: instructions to go and target. -/
structure CoreSt where
  ipend : Nat := 0
  imask : Nat := 0
  /-- the stream input queue and STR_THR (R374) -/
  stream : List Nat := []
  strThr : Nat := 0
  x : List Nat := [0, 0, 0, 0]
  y : List Nat := [0, 0, 0, 0]
  acc : List Nat := [0, 0, 0, 0]
  accV : List Nat := [0, 0, 0, 0]
  i : List Nat := [0, 0, 0, 0, 0, 0, 0, 0]
  m : List Nat := [0, 0, 0, 0, 0, 0, 0, 0]
  k : List Nat := [0, 0, 0, 0, 0, 0, 0, 0]
  ig : List Nat := [0, 0, 0, 0, 0, 0, 0, 0]
  mg : List Nat := [0, 0, 0, 0, 0, 0, 0, 0]
  kg : List Nat := [0, 0, 0, 0, 0, 0, 0, 0]
  lc : Nat := 0
  ls : Nat := 0
  le : Nat := 0
  lcV : Nat := 0
  lsV : Nat := 0
  leV : Nat := 0
  sr : Nat := 0
  nz : Nat := 0
  spc : Nat := 0
  ssr : Nat := 0
  pc : Nat := 0
  stack : List Nat := [0, 0, 0, 0]
  flight : List (Nat × Nat × Nat) := []
  branch : List (Nat × Nat) := []
  /-- the latched time base, the timer's compare value and whether it is armed (R375) -/
  tbL : Nat := 0
  tcmp : Nat := 0
  tcArm : Bool := false
  /-- the register bridge: address, data, the access in progress (true: a write) and the last status (R373) -/
  brAddr : Nat := 0
  brData : Nat := 0
  brRun : Option Bool := none
  brCode : Nat := 0
  /-- STATE has not returned to 1 or 2 since the last fault (R371) -/
  faulted : Bool := false
  /-- the last refused store (R369) -/
  refAddr : Nat := 0
  refCode : Nat := 0
  /-- ENTRY and IVEC of the running kernel, and ENTRY, IVEC, KVER and KEY_SLOT of the one in the inactive half -/
  entry : Nat := 0
  ivec : Nat := 0
  nEntry : Nat := 0
  nIvec : Nat := 0
  nVer : Nat := 0
  nSlot : Nat := 0
  /-- the boundary of an armed swap (R381) -/
  beta : Nat := 0
  /-- the load in progress is hitless (R380) -/
  loadHit : Bool := false
  /-- INSTR_CNT at the start of the RATE window (R376) -/
  rateCnt : Nat := 0
  deriving DecidableEq, Repr

/-- The whole state. A register field has one home: the store `regs`, or the typed field from which reading computes
it (`State.derived`). -/
structure State where
  /-- values of the register fields in force, as differences from their reset values -/
  regs : Store
  /-- inactive bank of the shadowed fields, as differences from the values in force (R46) -/
  bank : Store
  /-- page sequences in progress: 1 enable, 2 shut-down (R34 to R36) -/
  seqs : Store
  /-- pages whose banks have swapped and whose copy is running (R47) -/
  copying : Store
  /-- open coincidence windows and waiting clears and triggers (R57, R60) -/
  windows : List Window
  triggers : List Trigger
  /-- the words that wait for them, and the answers that the last of them to complete were given, by number -/
  words : List WordSt
  acks : List (Nat × Answer)
  /-- answer of the last access that a port made -/
  answer : Option Answer
  /-- latched high words: (class code, stored number of the high word, value) (R85, R266) -/
  latches : List (Nat × Nat × Nat)
  /-- the time base and whether it runs (R83) -/
  tb : Nat
  tbRun : Bool
  /-- elapsed ticks on the always-on clock -/
  ao : Nat
  /-- the model's own: how many free values have been taken (log entry 1) -/
  fv : Nat
  pwr : PowerSt
  clk : ClockSt
  paths : List PathSt
  rxs : List RxSt
  txs : List TxSt
  octs : List OctSt
  tl : TimelineSt
  bias : List BiasSt
  log : LogSt
  /-- the signal-processing cores (16) -/
  cores : List CoreSt
  /-- ERL event packets waiting to be sent (R292) -/
  evtQ : List EvtPkt
  /-- addressed memory: the listed bytes; an unlisted address reads 0 (Machine/Mem.lean) -/
  mem : List Host.Cell
  /-- errors of code words (R432), and the uptime in ms, plus 1, of the last correctable-error record of each memory (R440) -/
  ecc : Store
  /-- per memory the error state that a code word differs from in `ecc` (R428) -/
  eccBase : Store
  ceLog : Store
  /-- capture ports (15) -/
  caps : List CapSt
  /-- DMA channels (15) -/
  dmas : List DmaSt
  /-- commits whose swap is awaited (R46) -/
  commits : List CommitSt
  /-- the mode transition in progress (R19) -/
  trans : Option Transit
  /-- the three measurements of network time (R89) -/
  tim : TimSt
  cum : CuminMeas
  ani : AniseMeas
  /-- the beamformers and the weight memory (07) -/
  beams : List BeamSt
  wts : WeightSt
  /-- the monitor taps (05) -/
  taps : List TapSt
  /-- the sample streams (05 to 08) -/
  strm : StreamSt
  /-- the adaptation of the predistorters (08) -/
  dpd : DpdSt
  /-- a management restart is in progress (R26) -/
  mgmtDown : Bool
  /-- the calibration engine (10) -/
  cal : CalSt
  /-- retirement candidates (20) -/
  ret : RetireSt
  /-- lanes (11) -/
  lanes : LanesSt
  /-- the radio link (12) -/
  erl : ErlSt
  /-- neighbour sounding (13) -/
  snd : SndSt
  /-- the broadcast receiver (14) -/
  bc : AniSt
  /-- the 32 semaphores, common to the cores (R375) -/
  sems : Nat
  /-- Pepper, updates, security, monitor and self-test (17 to 19) -/
  mgmt : MgmtSt
  updJobs : List UpdJob
  otp : OtpSt
  sec : SecSt
  mon : MonSt
  bist : BistSt
  /-- modes, starts and restarts (01, 17) -/
  modes : ModeSt
  /-- page sequences: always-on tick of the start, plus 1; always-on tick, plus 1, at which modulators started (R116); soft resets that wait for the end of the shut-down (R37) -/
  seqAt : Store
  seqMod : Store
  srst : Store
  /-- sensing, voltage and ageing (20) -/
  hk : HkSt
  age : AgeSt
  /-- the events of each page that have occurred on this tick, and under the page + 0x1000 those that rose on it (R39, R61) -/
  evtNow : Store
  /-- the tick at which each event bit of a page last rose: page * 32 + bit (R290) -/
  evtAt : Store
  /-- the commands that are waiting, first in, first out -/
  pending : List Instr
  deriving DecidableEq, Repr

/-- The state after reset: VAUX has just entered its range with BOOTSEL 0b00, the straps' level when unconnected
(R482), so MODE_REQ holds 1 and the start waits for the radio rails (R19, R387). Every register field holds its reset
value, and nothing is queued (log entries 4 and 5). -/
def State.reset : State where
  regs := [((0x044 / 4) * 32, 1), ((0x048 / 4) * 32 + 3, 1)]
  bank := []
  seqs := []
  copying := []
  windows := []
  triggers := []
  words := []
  acks := []
  answer := none
  latches := []
  tb := 0
  tbRun := false
  ao := 0
  fv := 0
  pwr := {}
  clk := {}
  paths := List.replicate 64 {}
  rxs := List.replicate 65 {}
  txs := List.replicate 65 {}
  octs := List.replicate 8 {}
  tl := {}
  bias := List.replicate 16 {}
  log := {}
  cores := List.replicate 8 {}
  evtQ := []
  mem := []
  ecc := []
  eccBase := []
  ceLog := []
  caps := List.replicate 8 {}
  dmas := List.replicate 8 {}
  commits := []
  trans := some ⟨1, 0, false⟩
  tim := {}
  cum := {}
  ani := {}
  beams := [{}, {}]
  wts := {}
  taps := List.replicate 8 {}
  strm := {}
  dpd := { jobs := List.replicate 8 none, paths := List.replicate 64 {} }
  mgmtDown := false
  cal := { corrs := List.replicate 130 {} }
  ret := {}
  lanes := { syncAt := List.replicate 16 none, inj := List.replicate 16 0 }
  erl := {}
  snd := { deltas := List.replicate 16 [] }
  bc := {}
  sems := 0
  mgmt := {}
  updJobs := []
  otp := { hashes := List.replicate 4 [0, 0, 0, 0, 0, 0, 0, 0], fact := List.replicate 64 0, field := List.replicate 32 0 }
  sec := {}
  mon := {}
  bist := {}
  modes := { reason := 1 }
  seqAt := []
  seqMod := []
  srst := []
  hk := {}
  age := {}
  evtNow := []
  evtAt := []
  pending := []

end Sys2Proof.Machine
end

