-- ==== Sys2Proof/Machine/Ops.lean ====
section
/-! DEFINITION. The named operations over State that every family uses: reading and writing a field, the inactive
bank of a shadowed field, events and their delivery, the log, the checks and the refusal of an access, and the
writing of one field under arbitration. -/

namespace Sys2Proof.Machine

/-! ### Fields -/

/-- The value in force of a field. The store holds it as its difference from the reset value. -/
def State.get (s : State) (l : Loc) : Nat := s.regs.look l.key ^^^ l.rst

/-- Puts a value into a field, cut to its width. -/
def State.set (s : State) (l : Loc) (v : Nat) : State :=
  { s with regs := s.regs.put l.key (trunc l.wid v ^^^ l.rst) }

/-- A one-bit field reads 1. -/
def State.on (s : State) (l : Loc) : Bool := s.get l == 1

/-- A field's value as a two's complement number. -/
def State.geti (s : State) (l : Loc) : Int := toSigned l.wid (s.get l)

/-- Puts a number into a field as two's complement, saturating at its limits. -/
def State.seti (s : State) (l : Loc) (x : Int) : State := s.set l (ofSigned l.wid (satSigned l.wid x))

/-- A 64-bit value in two registers. -/
def State.get64 (s : State) (lo hi : Loc) : Nat := join64 (s.get lo) (s.get hi)

/-- Puts a 64-bit value into two registers. -/
def State.set64 (s : State) (lo hi : Loc) (v : Nat) : State := (s.set lo v).set hi (v / 2 ^ 32)

/-- A saturating counter goes up by `k` (the chapters' "saturates"). -/
def State.count (s : State) (l : Loc) (k : Nat := 1) : State := s.set l (min (2 ^ l.wid - 1) (s.get l + k))

/-- A wrapping counter goes up by 1. -/
def State.bump (s : State) (l : Loc) : State := s.set l (s.get l + 1)

/-- The value of a shadowed field in the inactive bank (R46): the store `bank` holds its difference from the value
in force, so that the copy after a swap (R47) empties it. -/
def State.inactive (s : State) (l : Loc) : Nat := s.get l ^^^ s.bank.look l.key

/-- Puts a value into a shadowed field's inactive bank. -/
def State.edit (s : State) (l : Loc) (v : Nat) : State :=
  { s with bank := s.bank.put l.key (trunc l.wid v ^^^ s.get l) }

/-- A value that hardware puts into a shadowed field in force: a value written and not yet committed stays where it
waits. -/
def State.setLive (s : State) (l : Loc) (v : Nat) : State :=
  let waits := s.inactive l
  if s.bank.look l.key = 0 then s.set l v else (s.set l v).edit l waits

/-- A value written into the field in force and into the inactive bank together (R235). -/
def State.setBoth (s : State) (l : Loc) (v : Nat) : State := (s.set l v).edit l v

/-- The page that a stored number belongs to, and its word's byte offset. -/
def keyPage (k : Nat) : Nat := k / 32 / 1024
def keyOff (k : Nat) : Nat := k / 32 % 1024 * 4

/-- Gives every stored field for which `p page offset` holds its reset value. -/
def State.forget (s : State) (p : Nat → Nat → Bool) : State :=
  { s with
    regs := s.regs.filter (fun e => ! p (keyPage e.1) (keyOff e.1))
    bank := s.bank.filter (fun e => ! p (keyPage e.1) (keyOff e.1)) }

/-- Gives every stored field for whose number `p` holds its reset value. -/
def State.forgetKeys (s : State) (p : Nat → Bool) : State :=
  { s with regs := s.regs.filter (fun e => ! p e.1), bank := s.bank.filter (fun e => ! p e.1) }

/-- Swaps the banks of every shadowed field of the page (R46). -/
def swapStores (pg : Nat) (bank regs : Store) : Store :=
  (bank.filter (fun e => decide (keyPage e.1 = pg))).foldl (fun r e => r.put e.1 (r.look e.1 ^^^ e.2)) regs

/-- The mode in force (R16); under the thermal halt DEVICE.MODE reads 0 (R22). -/
def State.mode (s : State) : Nat := s.get DEVICE.MODE

/-- The block of the page is operational (R34). -/
def State.act (s : State) (pg : Nat) : Bool := s.on (HDR.ACT pg)

/-! ### Free values -/

/-- Takes one free value: a number the spec leaves open (log entry 1). -/
def State.freeNat (s : State) : Nat × State := (Config.freeValue s.fv, { s with fv := s.fv + 1 })

/-! ### Time -/

/-- The always-on clock in microseconds and milliseconds (R386, R402): 983.04 ticks last 1 us. -/
def State.uptimeUs (s : State) : Nat := s.ao * 1000 / 983040
def State.uptimeMs (s : State) : Nat := s.ao / 983040

/-- "a is earlier than b" (R86). -/
def earlier (a b : Nat) : Bool := decide (a % 2 ^ 64 < b % 2 ^ 64)

/-- The interval from `a` to `b`, as a signed 64-bit number (R86). -/
def interval (a b : Nat) : Int := toSigned 64 (((b : Int) - a) % (2 ^ 64 : Nat)).toNat

/-- The always-on tick of an instant of the time base that is not later than now. -/
def State.aoAt (s : State) (t : Nat) : Nat := s.ao + t - s.tb

/-! ### ERL event packets (R290 to R292) -/

/-- Queues an EVT packet. Bits of one page that rise on one tick share a packet; beyond 32 packets one is dropped and
counted (R292). -/
def State.queueEvt (s : State) (p : EvtPkt) : State :=
  match s.evtQ.getLast?, p with
  | some (.events pg b t), .events pg' b' t' =>
    if pg = pg' ∧ t = t' then { s with evtQ := s.evtQ.dropLast ++ [.events pg (b ||| b') t] }
    else if s.evtQ.length < 32 then { s with evtQ := s.evtQ ++ [p] } else s.count ERL1.EVT_LOST_CNT
  | _, _ => if s.evtQ.length < 32 then { s with evtQ := s.evtQ ++ [p] } else s.count ERL1.EVT_LOST_CNT

/-! ### Events (R39, R40) -/

/-- Delivers one set and enabled EVT bit of a page to the Clove core and the baseband that EVT_ROUTE selects.
Pepper's and IRQ_N's levels are read off the bits themselves (R40, R386). -/
def State.deliver (s : State) (pg b : Nat) : State :=
  let s := if s.on (HDR.TO_CLOVE pg) then
      { s with cores := upd s.cores (s.get (HDR.CLOVE_SEL pg)) (fun c => { c with ipend := setBit c.ipend 1 }) } else s
  if s.on (HDR.TO_BB pg) then s.queueEvt (.events pg (2 ^ b) (s.evtAt.look (pg * 32 + b))) else s

/-- Where `evtNow` keeps the bits of a page that rose on this tick. -/
def riseKey (pg : Nat) : Nat := pg + 0x1000

/-- An event of a block occurs: its EVT bit is set whatever EVT_EN holds, and a change from 0 to 1 of an enabled bit
is delivered (R39, R40). -/
def State.raise (s : State) (pg b : Nat) : State :=
  let s : State := { s with evtNow := s.evtNow.put pg (setBit (s.evtNow.look pg) b) }
  let old := s.get (HDR.EVT pg)
  if bitOf old b then s
  else
    let s : State := { s.set (HDR.EVT pg) (setBit old b) with
      evtAt := s.evtAt.put (pg * 32 + b) s.tb, evtNow := s.evtNow.put (riseKey pg) (setBit (s.evtNow.look (riseKey pg)) b) }
    if bitOf (s.get (HDR.EVT_EN pg)) b then s.deliver pg b else s

/-- Common event bits (R32). -/
def evLATE : Nat := 31
def evCOMMIT_DONE : Nat := 30
def evERR : Nat := 29
def evACT_CHANGE : Nat := 28

/-- PAGE_STAT.ERR rises (R32). -/
def State.raiseErr (s : State) (pg : Nat) : State := (s.set (HDR.ERR pg) 1).raise pg evERR

/-- A page sequence starts: 1 enable, 2 shut-down (R34). -/
def State.startSeq (s : State) (pg k : Nat) : State :=
  { s with seqs := s.seqs.put pg k, seqAt := s.seqAt.put pg (s.ao + 1), seqMod := s.seqMod.put pg 0 }.set (HDR.TRANS pg) 1

/-- Ticks since the sequence of a page started. -/
def State.seqAge (s : State) (pg : Nat) : Nat := s.ao + 1 - s.seqAt.look pg

/-- The sequence in progress on a page: 0 none, 1 enable, 2 shut-down. -/
def State.seqOf (s : State) (pg : Nat) : Nat := s.seqs.look pg

/-- A hardware condition shuts a block down whatever EN holds: an enable sequence turns into the shut-down (R36), and an
operational block starts it. -/
def State.forceShut (s : State) (pg : Nat) : State :=
  if s.seqOf pg = 1 then s.startSeq pg 2
  else if s.act pg ∧ s.seqOf pg = 0 then s.startSeq pg 2 else s

/-! ### The log (R402 to R405) -/

/-- The stamp of a record: the time base, or uptime in ms with bit 63 set while it does not run (R402). -/
def State.stamp (s : State) : Nat := if s.tbRun then s.tb else s.uptimeMs + 2 ^ 63

/-- The eight words of a record. -/
def LogRec.words (r : LogRec) : List Nat :=
  [ r.seq % 2 ^ 32, r.type * 2 ^ 24 + r.sev * 2 ^ 16 + r.cls * 2 ^ 12 + r.page, r.stamp % 2 ^ 32, r.stamp / 2 ^ 32 % 2 ^ 32,
    r.w4 % 2 ^ 32, r.w5 % 2 ^ 32, r.w6 % 2 ^ 32, r.link ]

/-- Appends a record to the log RAM of 2,048 records and to the hash chain (R403). An unflushed record that is overwritten
is counted (R405). -/
def State.logAs (s : State) (cls type sev pg w4 w5 w6 : Nat) : State :=
  let lost := decide (2048 ≤ s.log.unflushed)
  let s := if lost then (s.count LOG.LOST_CNT).raise 0x111 EV.LOG.LOST else s
  let r : LogRec := { seq := s.log.next, type := type, sev := sev, cls := cls, page := pg, stamp := s.stamp,
                      w4 := w4, w5 := w5, w6 := w6, link := (bytesWords 1 s.log.head).getD 0 0 }
  -- the record is written as whole code words of memory 1, which heals poisoned ones (R436)
  let here := fun (e : Nat × Nat) => e.1 / 2 ^ 22 == 1 && e.1 % 2 ^ 22 / 4 == r.seq % 2048
  let ill := (s.ecc.filter (fun e => here e && e.2 == 0xFF)).length
  let s := if ill = 0 then s else (s.count (ECC.HEAL_CNT 1) ill).raise 0x118 EV.ECC.HEAL
  let s : State := { s with ecc := s.ecc.filter (fun e => !here e) }
  let recs := s.log.recs ++ [r]
  let s := { s with log := { s.log with
    next := (s.log.next + 1) % 2 ^ 32
    recs := recs.drop (recs.length - 2048)
    unflushed := if lost then 2048 else s.log.unflushed + 1
    lost := if lost then s.log.lost + 1 else s.log.lost
    head := sha256 (s.log.head ++ wordsBytes r.words) } }
  s.set LOG.HEAD_SEQ r.seq

/-- A record that hardware writes. -/
def State.logHw (s : State) (type sev pg w4 w5 w6 : Nat) : State := s.logAs 0xF type sev pg w4 w5 w6

/-- PAGE_STAT of a page as one word. -/
def State.pageStat (s : State) (pg : Nat) : Nat :=
  s.get (HDR.STAT_HI pg) * 2 ^ 16 + s.get (HDR.LEVEL_ERR pg) * 16 + s.get (HDR.STALE pg) * 8 + s.get (HDR.ERR pg) * 4
    + s.get (HDR.TRANS pg) * 2 + s.get (HDR.ACT pg)

/-- A word of register space as it is stored, without the values that reading computes. -/
def State.rawWord (s : State) (pg off : Nat) : Nat :=
  ((wordLocs pg off).map (fun l => s.get l * 2 ^ l.lo)).foldl (· + ·) 0

/-- The EVENT record "written wherever a block's chapter says that the ZD64 writes a log record" (R402, type 0x05). -/
def State.logEvent (s : State) (sev pg b : Nat) : State :=
  s.logHw 0x05 sev pg b (s.pageStat pg) (s.rawWord pg 0x02C)

/-- An event with its log record. -/
def State.raiseLog (s : State) (sev pg b : Nat) : State := (s.raise pg b).logEvent sev pg b

/-! ### Access checks (R41 to R45) -/

/-- Status codes of an access (R45). -/
def stOK : Nat := 0
def stSUPERSEDED : Nat := 1
def stDENIED : Nat := 2
def stLOCKED : Nat := 3
def stPENDING : Nat := 4
def stBUS_ERROR : Nat := 5
def stFORMAT : Nat := 6

/-- The base of register space, and the address of a page's word (R30). -/
def regBase : Nat := 0x40000000
def regAddr (pg off : Nat) : Nat := regBase + pg * 0x1000 + off

/-- The right of a class on a page (R41). -/
def State.right (s : State) (pg : Nat) (c : Cls) : Nat := s.get (HDR.RIGHT pg c)

/-- CONTROLLER.CTRL names the class, or does not bear on it (R43). -/
def State.controls (s : State) (pg : Nat) (c : Cls) : Bool :=
  match c with
  | .bb => bitOf (s.get (HDR.CTRL pg)) 0
  | .host => bitOf (s.get (HDR.CTRL pg)) 1
  | _ => true

/-- The TEST port's limits outside M7 (R52): in M3 only reads of DEVICE and the write of MODE_REQ = 7. -/
def State.testPortAllows (s : State) (c : Cls) (write : Bool) (pg off v : Nat) : Bool :=
  match c with
  | .test => s.mode == 7 || (s.mode == 3 && pg == 0 && (!write || (off == 0x044 && v % 8 == 7)))
  | _ => true

/-- Checks 2 and 3 of R45 for a write: ACCESS, then CONTROLLER. -/
def State.pageRefusal (s : State) (c : Cls) (pg : Nat) : Option Nat :=
  if s.right pg c < 2 then some stDENIED else if s.controls pg c then none else some stDENIED

/-- Check 4 of R45: the classes that a chapter lets write the field, for the value written. -/
def classAllows (l : Loc) (v : Nat) (c : Cls) : Bool :=
  let mgmt := c == .mgmt
  let pg := l.page
  if l.off = 0x018 then mgmt                                                     -- R41: only MGMT writes ACCESS
  else if l = DEVICE.BOOT_OK ∨ l = DEVICE.MGMT_RESTART ∨ l = DEVICE.DEVICE_RESET then mgmt
  else if pg = 0x002 then                                                         -- R412
    if 0x200 ≤ l.off ∧ l.off < 0x220 ∨ 0x240 ≤ l.off ∧ l.off < 0x300 then mgmt || c == .bb || c == .host
    else if l.off = 0x06C ∨ 0x300 ≤ l.off ∧ l.off < 0x3A8 then mgmt || c == .test
    else mgmt
  else if 0x050 ≤ pg ∧ pg < 0x090 ∧ l.off = 0x068 then mgmt                        -- R163 RETIRE
  else if pg = 0x125 ∧ 0x040 ≤ l.off ∧ l.off < 0x080 ∧ l.lo = 31 then mgmt || v == 1  -- R170 FORCE_SAFE
  else if l = DPD0.STRUCT_OK then mgmt
  else if pg = 0x0A5 ∧ l.lo = 30 then mgmt || c == .dsp                           -- R202 UPD_REQ
  else if pg = 0x0AC ∧ 0x080 ≤ l.off ∧ l.off < 0x0B0 then mgmt                     -- R246 INTERVAL, DT_TRIG
  else if l = ERL0.SECURED then mgmt
  else if 0x100 ≤ pg ∧ pg < 0x108 ∧ ((l.off = 0x040 ∧ l.lo = 31) ∨ l.off = 0x04C ∨ l.off = 0x058) then mgmt
  else if l = MGMT.KICK then mgmt                                                 -- R396
  else if l = LOG.GO then mgmt || c == .dsp                                       -- R404
  else if l = MONITOR.DROP then mgmt
  else if pg = 0x11A ∨ pg = 0x119 then mgmt || c == .test                          -- R447, R449
  else if pg = 0x122 then
    if l.off = 0x090 ∨ (0x0C0 ≤ l.off ∧ l.off < 0x0E0) ∨ (0x110 ≤ l.off ∧ l.off < 0x128) ∨ 0x1C0 ≤ l.off then mgmt
    else true
  else if l = AVS.LOWER_N ∨ l = AVS.SLACK_LOWER ∨ l = AVS.SLACK_RAISE ∨ l = AVS.SLACK_EMERG ∨ l = AVS.AVS_MASK then mgmt
  else true

/-- Check 5 of R45 for the locks of R42 and R44. -/
def State.lockRefuses (s : State) (l : Loc) : Bool :=
  if l.off = 0x018 ∨ l = HDR.CTRL l.page then s.on (HDR.ACC_LOCK l.page)
  else l.acc == .rl && s.on (HDR.FIELD_LOCK l.page)

/-- Check 6 of R45: a shadowed field or REQ while a commit is pending (R47). -/
def State.commitRefuses (s : State) (l : Loc) : Bool :=
  (l.acc == .rws || l = HDR.REQ l.page) && s.on (HDR.PENDING l.page)

/-- FIELD_LOCK is set by a class that holds 11 (R44); writing 0 to it has no effect, whoever writes (R32). -/
def State.lockRight (s : State) (c : Cls) (l : Loc) (v : Nat) : Bool := l.acc != .setOnly || v == 0 || s.right l.page c == 3

/-- Checks 4, 5 and 6 of R45 for one field; `own` is the status with which a chapter's own condition refuses it. -/
def State.fieldRefusal (s : State) (c : Cls) (l : Loc) (v : Nat) (own : Option Nat) : Option Nat :=
  if classAllows l v c = false ∨ s.lockRight c l v = false ∨ own = some stDENIED then some stDENIED
  else if s.lockRefuses l ∨ own = some stLOCKED then some stLOCKED
  else if s.commitRefuses l then some stPENDING
  else own

/-- All of checks 2 to 6 of R45 for a write of one field. -/
def State.writeRefusal (s : State) (c : Cls) (l : Loc) (v : Nat) (own : Option Nat) : Option Nat :=
  if s.testPortAllows c true l.page l.off v = false then some stDENIED
  else match s.pageRefusal c l.page with
  | some r => some r
  | none => s.fieldRefusal c l v own

/-- A refused access (codes 2 to 6): ARBITER.REFUSED is raised and the last refusal recorded (R45). -/
def State.refuse (s : State) (c : Cls) (addr code : Nat) : State :=
  let s := s.set ARBITER.LAST_REF_ADDR addr
  let s := s.set ARBITER.CLASS c.code
  let s := s.set ARBITER.CODE code
  s.raise 0x003 1

/-- Leaves the answer of an access where its port reads it. -/
def State.reply (s : State) (c : Cls) (data : List Nat) (status : Nat) : State :=
  { s with answer := some { cls := c, data := data, status := status } }

/-! ### Arbitration of one field (R57 to R60) -/

/-- The protective value of a field, where its chapter gives it one for the value written (R18, R114, R159, R163,
R170, R475). -/
def State.protective (s : State) (l : Loc) (v : Nat) : Bool :=
  if l = DEVICE.MODE_REQ then
    decide (5 ≤ s.mode ∧ s.mode ≤ 7) && (v == 0 || v == 3 || v == 4)
  else if 0x050 ≤ l.page ∧ l.page < 0x090 ∧ l.off = 0x044 ∧ l.lo = 0 then v == 1
  else if l = CAL0.TX_MUTE then v == 1
  else if 0x010 ≤ l.page ∧ l.page < 0x050 ∧ l.off = 0x04C ∧ (l.lo = 31 ∨ l.lo = 30) then v == 1   -- R114
  else if l = AGEING.RX_RETIRE_LO ∨ l = AGEING.RX_RETIRE_HI then v != 0                           -- R475
  else if 0x050 ≤ l.page ∧ l.page < 0x090 ∧ l.off = 0x068 then v == 1
  else if l.page = 0x125 ∧ 0x040 ≤ l.off ∧ l.off < 0x080 ∧ l.lo = 31 then v == 1
  else if l.page = 0x0A5 ∧ 0x040 ≤ l.off ∧ l.lo = 31 then v == 1                                  -- R206
  else false

/-- The latest write of each writer (R58), in arrival order. -/
def latestWrites : List WinWrite → List WinWrite
  | [] => []
  | w :: t =>
    if t.any (fun x => decide (x.cls = w.cls ∧ x.agent = w.agent)) then latestWrites t else w :: latestWrites t

/-- `b` beats `a` (R58): higher rank; among equals the later arrival; on the same tick the lower agent. -/
def outranks (b a : WinWrite) : Bool :=
  decide (b.cls.code < a.cls.code) ||
    (decide (b.cls = a.cls) && (decide (a.tick < b.tick) || (decide (a.tick = b.tick) && decide (b.agent < a.agent))))

/-- The highest-ranked write of a list. -/
def bestWrite : List WinWrite → Option WinWrite
  | [] => none
  | w :: t =>
    match bestWrite t with
    | none => some w
    | some x => if outranks x w then some x else some w

/-- The write whose value takes effect, and whether step 1 of R58 decided it. Of two protective MODE_REQ values the
lowest mode number has no order of its own, so rank decides among protective values too. -/
def State.winner (s : State) (l : Loc) (ws : List WinWrite) : Option (WinWrite × Bool) :=
  let ws := latestWrites ws
  let ps := ws.filter (fun w => s.protective l w.val)
  match bestWrite ps with
  | some w => some (w, true)
  | none => (bestWrite ws).map (fun w => (w, false))

/-- The order in which superseded writes are described (R502): the later arrival; on the same tick the lower rank,
then the higher agent. -/
def supLater (b a : WinWrite) : Bool :=
  decide (a.tick < b.tick) ||
    (decide (a.tick = b.tick) && (decide (a.cls.code < b.cls.code) || (decide (a.cls = b.cls) && decide (a.agent < b.agent))))

/-- The superseded write that LAST_SUP_ADDR, LAST_SUP_INFO and LAST_SUP_TB describe. -/
def lastSuperseded : List WinWrite → Option WinWrite
  | [] => none
  | w :: t =>
    match lastSuperseded t with
    | none => some w
    | some x => if supLater x w then some x else some w

/-- Records the writes that a window superseded (R502). `winner` is the winner's class code. -/
def State.supersede (s : State) (l : Loc) (losers : List WinWrite) (winner : Nat) (prot : Bool) (at_ : Nat) : State :=
  match lastSuperseded losers with
  | none => s
  | some w =>
    let s := losers.foldl (fun s w => s.count (ARBITER.SUP_CNT w.cls.code)) s
    let s := s.set ARBITER.LAST_SUP_ADDR (regAddr (l.page % 0x200) l.off)
    let s := s.set ARBITER.LOSER w.cls.code
    let s := s.set ARBITER.WINNER winner
    let s := s.set ARBITER.PROTECTIVE (if prot then 1 else 0)
    let s := s.set64 ARBITER.LAST_SUP_TB_LO ARBITER.LAST_SUP_TB_HI at_
    s.raise 0x003 0

/-- Closes a window: the value that takes effect, if any, and the ARBITER's record. `held` is the value that a hardware
safety condition holds in the field (R59). -/
def State.resolve (s : State) (l : Loc) (ws : List WinWrite) (held : Option Nat) (at_ : Nat) : Option Nat × State :=
  match held with
  | some h => (none, s.supersede l (ws.filter (fun w => decide (w.val ≠ h))) 0xF true at_)
  | none =>
    match s.winner l ws with
    | none => (none, s)
    | some (w, prot) =>
      -- a writer whose value took effect, by its latest write, is not superseded (R58)
      let lost := latestWrites ws |>.filter (fun x => decide (x.val ≠ w.val))
      let losers := ws.filter (fun x => lost.any (fun y => decide (y.cls = x.cls ∧ y.agent = x.agent)))
      (some w.val, s.supersede l losers w.cls.code prot at_)

/-- The open window of a field. -/
def State.windowOf (s : State) (l : Loc) : Option Window := s.windows.find? (fun w => decide (w.loc = l))

/-- A write to a field arrives: it joins the open window of the field, or opens one (R57). -/
def State.joinWindow (s : State) (l : Loc) (w : WinWrite) : State :=
  match s.windowOf l with
  | some _ => { s with windows := s.windows.map (fun x => if x.loc = l then { x with writes := x.writes ++ [w] } else x) }
  | none => { s with windows := s.windows ++ [{ loc := l, openAt := w.tick, writes := [w] }] }

/-- No principal can make an access: VAUX is out of its range, or RESET_N is recognised as asserted, which holds Pepper,
SPI and JTAG in reset and isolates the rest (R490). -/
def State.deaf (s : State) : Bool := !s.pwr.vaux || s.pwr.resetN

/-- A refused write. One of Pepper's raises an imprecise store fault interrupt, whose address is kept (R49). -/
def State.refuseWrite (s : State) (c : Cls) (addr code : Nat) : State :=
  let s := s.refuse c addr code
  if c = .mgmt then { s with mgmt := { s.mgmt with storeFault := some addr } } else s

/-- A write that meets no field of its page, such as any to a page index that the map does not assign: the rights of the page
are checked, and nothing changes (R4, R30, R411). -/
def State.noField (s : State) (c : Cls) (pg off : Nat) : State :=
  if s.deaf then s
  else if s.testPortAllows c true pg off 0 = false ∨ (s.pageRefusal c pg).isSome then
    (s.refuseWrite c (regAddr pg off) stDENIED).reply c [] stDENIED
  else s.reply c [] stOK

/-- The code that a word reports whose parts were refused with these codes: that of the earliest check (R45). -/
def wordCode (l : List Nat) : Nat := l.min?.getD stOK

/-- The outcome of a command whose effect is a state. -/
abbrev Out := Host.Outcome State Fault Refusal

end Sys2Proof.Machine
end

