-- ==== Sys2Proof/Machine/Mem.lean ====
section
/-! DEFINITION. Addressed memory (SRAM, flash, capture, weight, model and Clove memories) as one list of cells in
canonical form, its code words and their errors (R431 to R440), and reads and writes that pass through the decoders. -/

namespace Sys2Proof.Machine

/-! ### Cells -/

/-- A memory: the listed bytes, addresses strictly rising, none equal to what an unlisted address reads as. -/
abbrev Memory := List Host.Cell

/-- The byte at an address; a byte that nothing has written reads 0 (log entry 7). -/
def Memory.read : Memory → Nat → BitVec 8
  | [], _ => 0
  | (a, v) :: t, k => if a = k then v else Memory.read t k

/-- Puts a cell before the first greater address. -/
def Memory.ins : Memory → Nat → BitVec 8 → Memory
  | [], k, v => [(k, v)]
  | (a, w) :: t, k, v => if k < a then (k, v) :: (a, w) :: t else (a, w) :: Memory.ins t k v

/-- Writes one byte; writing 0 removes the cell. -/
def Memory.write (m : Memory) (k : Nat) (v : BitVec 8) : Memory :=
  let t := m.filter (fun e => decide (e.1 ≠ k))
  if v = 0 then t else Memory.ins t k v

/-- The canonical form. -/
def Memory.wf : Memory → Bool
  | [] => true
  | [(_, v)] => decide (v ≠ 0)
  | (a, v) :: (b, w) :: t => decide (v ≠ 0) && decide (a < b) && Memory.wf ((b, w) :: t)

/-- Every byte of a range takes one value. -/
def Memory.fill (m : Memory) (lo len : Nat) (v : BitVec 8) : Memory :=
  m.filter (fun e => decide (e.1 < lo)) ++ (if v = 0 then [] else (List.range len).map (fun i => (lo + i, v)))
    ++ m.filter (fun e => decide (lo + len ≤ e.1))

/-- Without the cells of an address range. -/
def Memory.clear (m : Memory) (lo len : Nat) : Memory := m.filter (fun e => decide (e.1 < lo ∨ lo + len ≤ e.1))

def State.byte (s : State) (a : Nat) : Nat := (Memory.read s.mem a).toNat

/-- Little-endian words of 32 bits. -/
def State.word (s : State) (a : Nat) : Nat :=
  s.byte a + 2 ^ 8 * s.byte (a + 1) + 2 ^ 16 * s.byte (a + 2) + 2 ^ 24 * s.byte (a + 3)

def State.setByte (s : State) (a v : Nat) : State := { s with mem := Memory.write s.mem a (BitVec.ofNat 8 v) }

def State.setWord (s : State) (a v : Nat) : State :=
  (((s.setByte a v).setByte (a + 1) (v / 2 ^ 8)).setByte (a + 2) (v / 2 ^ 16)).setByte (a + 3) (v / 2 ^ 24)

/-- Consecutive words. -/
def State.setWords (s : State) : Nat → List Nat → State
  | _, [] => s
  | a, v :: t => State.setWords (s.setWord a v) (a + 4) t

/-! ### The memories (R431) and where each lies

A weight block and a Clove program have no place of their own in the bus map, so they stand above 2^32. -/

def sramBase : Nat := 0x10000000
def flashBase : Nat := 0x20000000
def captureBase : Nat := 0x30000000
def captureSize : Nat := 0x1000000
def cloveX (c : Nat) : Nat := 0x38000000 + c * 0x100000
def cloveY (c : Nat) : Nat := 0x38040000 + c * 0x100000
def cloveShared : Nat := 0x39000000
def modelBase : Nat := 0x58000000
def weightBase : Nat := 0x100000000
def programBase (c : Nat) : Nat := 0x110000000 + c * 0x100000

/-- The memory ID and the code word that hold an address; none outside the protected memories. -/
def codeWordOf (a : Nat) : Option (Nat × Nat) :=
  if sramBase ≤ a ∧ a < sramBase + 0x80000 then some (0, (a - sramBase) / 8)
  else if captureBase ≤ a ∧ a < captureBase + captureSize then some (3, (a - captureBase) / 8)
  else if weightBase ≤ a ∧ a < weightBase + 0x300000 then some (4, (a - weightBase) / 8)
  else if modelBase ≤ a ∧ a < modelBase + 0x20000 then some (5, (a - modelBase) / 8)
  else if 0x38000000 ≤ a ∧ a < 0x38800000 then
    let c := (a - 0x38000000) / 0x100000
    let o := (a - 0x38000000) % 0x100000
    if o < 0x40000 then some (16 + c, o / 4)
    else if o < 0x80000 then some (24 + c, (o - 0x40000) / 4)
    else none
  else if cloveShared ≤ a ∧ a < cloveShared + 0x1000000 then some (32, (a - cloveShared) / 4)
  else if programBase 0 ≤ a ∧ a < programBase 8 then
    let o := (a - programBase 0) % 0x100000
    if o < 0x40000 then some (8 + (a - programBase 0) / 0x100000, o / 4) else none
  else none

/-- The number under which a code word's error is stored. -/
def eccKey (mem idx : Nat) : Nat := mem * 2 ^ 22 + idx

/-- The error of a code word: 0 none, b + 1 a correctable error of bit b, 0xFF uncorrectable or poisoned (R432). -/
def State.eccOf (s : State) (mem idx : Nat) : Nat := s.ecc.look (eccKey mem idx) ^^^ s.eccBase.look mem
def State.setEcc (s : State) (mem idx v : Nat) : State :=
  { s with ecc := s.ecc.put (eccKey mem idx) (v ^^^ s.eccBase.look mem) }

/-- Every code word of a memory takes one error state. -/
def State.eccAll (s : State) (mem v : Nat) : State :=
  { s with ecc := s.ecc.filter (fun e => decide (e.1 / 2 ^ 22 ≠ mem)), eccBase := s.eccBase.put mem v }

/-- Some code word of a memory may hold an error. -/
def State.eccAny (s : State) (mem : Nat) : Bool := s.ecc.any (fun e => e.1 / 2 ^ 22 == mem) || s.eccBase.look mem != 0

/-- A memory is isolated while its BIST runs: every access to it is a bus error and no ECC event (R449). -/
def State.isolated (s : State) (mem : Nat) : Bool := s.bist.mems.contains mem

/-- PAGE_STAT [31:16] and LAST_EVT of the ECC page name the last event. -/
def State.eccNote (s : State) (mem idx bit req : Nat) (ue : Bool) : State :=
  let s := s.set (HDR.STAT_HI 0x118) ((if ue then 2 ^ 15 else 0) + bit * 2 ^ 8 + req)
  (s.set ECC.MEM mem).set ECC.INDEX idx

/-- A correctable error is found: counted, HARD_CE where it repeats, and at most one record in each CE_LOG_GAP
milliseconds (R440). -/
def State.eccCE (s : State) (mem idx bit req : Nat) : State :=
  let s := s.eccNote mem idx bit req false
  let last := 2 ^ 31 + bit * 2 ^ 24 + idx
  let hard := s.get (ECC.LAST_CE mem) == last
  let s := ((s.count (ECC.CE_CNT mem)).set (ECC.LAST_CE mem) last).raise 0x118 EV.ECC.CE
  let s := if hard then s.raise 0x118 EV.ECC.HARD_CE else s
  let t := s.ceLog.look mem
  if t = 0 ∨ t - 1 + s.get ECC.CE_LOG_GAP ≤ s.uptimeMs then
    { s.logEvent 1 0x118 EV.ECC.CE with ceLog := s.ceLog.put mem (s.uptimeMs + 1) }
  else s

/-- An uncorrectable word is found: counted, raised and recorded. -/
def State.eccUE (s : State) (mem idx req : Nat) : State :=
  let s := s.eccNote mem idx 0x7F req true
  let s := (s.count (ECC.UE_CNT mem)).set (ECC.LAST_UE mem) (2 ^ 31 + 0x7F * 2 ^ 24 + idx)
  s.raiseLog 2 0x118 EV.ECC.UE

/-- The requester code of R431's PAGE_STAT for the scrubber and for a datapath reader. -/
def reqSCRUB : Nat := 0xE
def reqDATAPATH : Nat := 0xF

/-- A decoder reads code word `i` of memory `m`: false where it is uncorrectable (R433). -/
def State.eccReadWord (s : State) (req m i : Nat) : Bool × State :=
  let e := s.eccOf m i
  if s.isolated m then (false, s)
  else if e = 0 then (true, s) else if e = 0xFF then (false, s.eccUE m i req) else (true, s.eccCE m i (e - 1) req)

/-- The same of the code word that holds an address. -/
def State.eccRead (s : State) (req a : Nat) : Bool × State :=
  match codeWordOf a with
  | none => (true, s)
  | some (m, i) => s.eccReadWord req m i

/-- A write of the whole code word `i` of memory `m` (R436). -/
def State.eccWholeWord (s : State) (m i : Nat) : State :=
  let e := s.eccOf m i
  if s.isolated m then s
  else
    let s := s.setEcc m i 0
    if e = 0xFF then (s.count (ECC.HEAL_CNT m)).raise 0x118 EV.ECC.HEAL else s

/-- The same of the code word that holds an address. -/
def State.eccWhole (s : State) (a : Nat) : State :=
  match codeWordOf a with
  | none => s
  | some (m, i) => s.eccWholeWord m i

/-- The read of a partial write of code word `i` of memory `m` (R434, R435): false where the write is not performed. -/
def State.eccMerge (s : State) (m i req : Nat) : Bool × State :=
  let e := s.eccOf m i
  if s.isolated m then (false, s)
  else if e = 0 then (true, s)
  else if e = 0xFF then (false, s.eccUE m i req)
  else
    let s := (s.setEcc m i 0).eccNote m i (e - 1) req false
    let hard := s.get (ECC.LAST_CE m) == 2 ^ 31 + (e - 1) * 2 ^ 24 + i
    let s := (s.count (ECC.MERGE_CNT m)).count (ECC.CE_CNT m)
    let s := s.set (ECC.LAST_CE m) (2 ^ 31 + (e - 1) * 2 ^ 24 + i)
    let s := if hard then s.raise 0x118 EV.ECC.HARD_CE else s
    (true, (s.raise 0x118 EV.ECC.CE).raiseLog 1 0x118 EV.ECC.MERGE)

/-- The same of the code word that holds an address. -/
def State.eccPartial (s : State) (req a : Nat) : Bool × State :=
  match codeWordOf a with
  | none => (true, s)
  | some (m, i) => s.eccMerge m i req

/-- A 32-bit read through the decoder; none where the word is uncorrectable. -/
def State.readMem (s : State) (req a : Nat) : Option Nat × State :=
  match s.eccRead req a with
  | (true, s) => (some (s.word a), s)
  | (false, s) => (none, s)

/-- A 32-bit write into a 64-bit code word; false where it is not performed. -/
def State.writePartial (s : State) (req a v : Nat) : Bool × State :=
  match s.eccPartial req a with
  | (true, s) => (true, s.setWord a v)
  | (false, s) => (false, s)

/-- A write of consecutive words that make whole code words. -/
def State.writeWhole (s : State) : Nat → List Nat → State
  | _, [] => s
  | a, v :: t =>
    let held := match codeWordOf a with | some (m, _) => s.isolated m | none => false
    State.writeWhole (if held then s else (s.eccWhole a).setWord a v) (a + 4) t

/-- Zero data with valid check bits over a whole memory that begins at `lo` (R341, R452). -/
def State.clearMem (s : State) (lo len : Nat) : State :=
  let s : State := { s with mem := Memory.clear s.mem lo len }
  match codeWordOf lo with
  | some (m, _) => s.eccAll m 0
  | none => s

/-- Zero data and check bits that mark every word uncorrectable (R428). -/
def State.poisonMem (s : State) (lo len : Nat) : State :=
  let s : State := { s with mem := Memory.clear s.mem lo len }
  match codeWordOf lo with
  | some (m, _) => s.eccAll m 0xFF
  | none => s

end Sys2Proof.Machine
end

