-- ==== Sys2Proof/Machine/Limits.lean ====
section
/-! DEFINITION. The limits record in force, read from the LIMITS page (R419 to R422). -/

namespace Sys2Proof.Machine

/-- A record is in force (R422). -/
def State.lrValid (s : State) : Bool := s.on LIMITS.LR_VALID

/-- Word `w` of the record in force. -/
def State.lrWord (s : State) (w : Nat) : Nat := s.get (LIMITS.REC w)

/-- The permission bits of word 5, which hold only while a record is in force (R422). -/
def State.lrPermits (s : State) (b : Nat) : Bool := s.lrValid && bitOf (s.lrWord 5) b
def State.sndPermitted (s : State) : Bool := s.lrPermits 0
def State.anisePermitted (s : State) : Bool := s.lrPermits 1
def State.expHostPermitted (s : State) : Bool := s.lrPermits 2
def State.expBbPermitted (s : State) : Bool := s.lrPermits 3
def State.vndDebug (s : State) : Bool := s.lrPermits 4
def State.vndMax (s : State) : Nat := bits (s.lrWord 5) 8 2
def State.cuminCap (s : State) : Nat := bits (s.lrWord 5) 16 8

/-- fPFD in units of 10 kHz (R64). -/
def State.fpfd (s : State) : Nat := if s.clk.lowPfd then 6144 else 12288

/-- The LO frequency in kHz, rounded to the nearest: fPFD * (NINT + FRAC / 2^24) / D, D = 2^(OUTDIV + 1) (R72, R421). -/
def loKHz (fpfd nint frac outdiv : Nat) : Nat :=
  let num := fpfd * 10 * (nint * 2 ^ 24 + frac)
  let den := 2 ^ 24 * 2 ^ (outdiv + 1)
  (2 * num + den) / (2 * den)

/-- An LO frequency is permitted: it lies in a range of the record, both ends included; without a record every one is
(R421, R422). -/
def State.loPermitted (s : State) (khz : Nat) : Bool :=
  !s.lrValid ||
    (List.range (bits (s.lrWord 6) 0 3)).any (fun k =>
      decide (s.lrWord (8 + 2 * k) ≤ khz ∧ khz ≤ s.lrWord (9 + 2 * k)))

/-- The mean-square cap of a path or layer in 0.01 dB below full scale; none where 0xFFFF or without a record (R419). -/
def State.pathCap (s : State) (n : Nat) : Option Nat :=
  let v := bits (s.lrWord (40 + n / 2)) (16 * (n % 2)) 16
  if s.lrValid = false ∨ v = 0xFFFF then none else some v
def State.layerCap (s : State) (l : Nat) : Option Nat :=
  let v := bits (s.lrWord (72 + l / 2)) (16 * (l % 2)) 16
  if s.lrValid = false ∨ v = 0xFFFF then none else some v

/-- The expansion cap of a path in 0.1 dB (R419). -/
def State.expCap (s : State) (n : Nat) : Option Nat :=
  let v := bits (s.lrWord (84 + n / 4)) (8 * (n % 4)) 8
  if s.lrValid = false ∨ v = 0xFF then none else some v

end Sys2Proof.Machine
end

