-- ==== Sys2Proof/Machine/Paths.lean ====
section
/-! DEFINITION. Path states, slots and the turn-round (R209 to R216), the driver condition (R151 to R159), the readiness
check and suppression (R226, R227), and the loops' readiness as the paths see it. -/

namespace Sys2Proof.Machine

/-! ### Slots (R209) -/

/-- Length of a slot and of the pattern in ticks. -/
def slotTicks : Nat := 491520
def patternTicks : Nat := 9830400

/-- TIMELINE0.EPOCH; bits [3:0] are reserved. -/
def State.epoch (s : State) : Nat := join64 (s.get TIMELINE0.EPOCH_LO * 16) (s.get TIMELINE0.EPOCH_HI)

/-- Ticks from the last slot boundary, and from the last pattern start, to `t`; EPOCH may be later than `t` (R86). -/
def State.inSlot (s : State) (t : Nat) : Nat := (interval s.epoch t % (slotTicks : Int)).toNat
def State.inPattern (s : State) (t : Nat) : Nat := (interval s.epoch t % (patternTicks : Int)).toNat

/-- The time base at the boundary of the slot that runs. -/
def State.slotStart (s : State) : Nat := (s.tb + 2 ^ 64 - s.inSlot s.tb) % 2 ^ 64

/-- The slot index of an instant. -/
def State.slotIndex (s : State) (t : Nat) : Nat := s.inPattern t / slotTicks

def State.isBoundary (s : State) (t : Nat) : Bool := s.inSlot t == 0
def State.isPatternStart (s : State) (t : Nat) : Bool := s.inPattern t == 0

/-! ### Path states -/

/-- The code of PATH_STATE. -/
def PState.code : PState → Nat
  | .off => 0 | .rx => 1 | .tx => 2 | .turn => 3 | .obs => 4 | .cal => 5 | .sndTx => 6 | .sndRx => 7

/-- The state of a STATE code. -/
def PState.ofCode (c : Nat) : PState :=
  if c = 1 then .rx else if c = 2 then .tx else if c = 3 then .turn else if c = 4 then .obs
  else if c = 5 then .cal else if c = 6 then .sndTx else if c = 7 then .sndRx else .off

/-- The classes of R213: transmit 1, receive 2, OFF 0, CAL 3; TURN is in none. -/
def PState.group : PState → Nat
  | .tx | .obs | .sndTx => 1
  | .rx | .sndRx => 2
  | .cal => 3
  | .off => 0
  | .turn => 4

/-- The states in which the driver carries signal (R151, R214). -/
def PState.carries : PState → Bool
  | .tx | .obs | .cal | .sndTx => true
  | _ => false

def State.path (s : State) (n : Nat) : PathSt := s.paths.getD n {}
def State.setPath (s : State) (n : Nat) (f : PathSt → PathSt) : State := { s with paths := upd s.paths n f }
def State.rx (s : State) (n : Nat) : RxSt := s.rxs.getD n {}
def State.setRx (s : State) (n : Nat) (f : RxSt → RxSt) : State := { s with rxs := upd s.rxs n f }
def State.tx (s : State) (n : Nat) : TxSt := s.txs.getD n {}
def State.setTx (s : State) (n : Nat) (f : TxSt → TxSt) : State := { s with txs := upd s.txs n f }
def State.oct (s : State) (g : Nat) : OctSt := s.octs.getD g {}
def State.setOct (s : State) (g : Nat) (f : OctSt → OctSt) : State := { s with octs := upd s.octs g f }

/-- The pages of a path. -/
def rxPage (n : Nat) : Nat := 0x010 + n
def txPage (n : Nat) : Nat := 0x050 + n

/-- One of the path's pages is operational (R211). -/
def State.operational (s : State) (n : Nat) : Bool := s.act (rxPage n) || s.act (txPage n)

/-- The paths of an octet. -/
def octPaths (g : Nat) : List Nat := (List.range 8).map (fun k => 8 * g + k)

/-- The state that a mode sets outside M5 (R211). -/
def modeState (mode : Nat) : PState := if mode = 4 then .rx else .off

/-- The state that the pattern sets for a path at `t` (R210). -/
def State.patternState (s : State) (n t : Nat) : PState :=
  let g := n / 8
  if s.on (OCTET.PAT_EN g) = false then .off
  else
    let dl := if bitOf (s.get (OCTET.OBS_MASK g)) (n % 8) then PState.obs else .tx
    let ty := s.get (OCTET.TYPE g (s.slotIndex t))
    if ty = 1 then dl
    else if ty = 2 then .rx
    else if ty = 3 then if s.inSlot t < 16 * s.get (OCTET.SPLIT_OFS g) then dl else .rx
    else .off

/-- The state that the pattern or the mode sets (R211). -/
def State.setState (s : State) (n t : Nat) : PState :=
  if s.mode = 5 then s.patternState n t else modeState s.mode

/-! ### Loops as the paths see them -/

/-- READY of loop k: 0 CPLL, 1 LOA, 2 LOB, 3 LPLL. -/
def Loop.READY (k : Nat) : Loc := if k = 0 then CPLL.READY else if k = 3 then LPLL.READY else LO.READY (k - 1)

/-- The LO of an octet: loop 1 or 2 (R74). -/
def State.loOf (s : State) (g : Nat) : Nat := if bitOf (s.get (LO.LO_ASSIGN 0)) g then 2 else 1

def State.loReady (s : State) (g : Nat) : Bool := s.on (Loop.READY (s.loOf g))
def State.cpllReady (s : State) : Bool := s.on CPLL.READY

/-- The ticks that one REFCLK period lasts. -/
def State.inc (s : State) : Nat := s.get TIMEBASE.INC

/-- What acts at tick resolution may act now: while the converter islands run on the bypass clock it waits for the next
REFCLK edge (R79). -/
def State.onEdge (s : State) : Bool := (s.cpllReady && decide (s.clk.bypUntil ≤ s.ao)) || s.tb % s.inc == 0

/-! ### The driver (R151 to R160) -/

/-- No transmit output can be driven: its supplies or domain are absent, or RESET_N disables it (R487 to R490). -/
def State.txDead (s : State) : Bool := !s.pwr.vaux || s.pwr.isolated || s.pwr.resetN || !s.pwr.vrf

/-- What mutes every output: TXKILL_N (R161), the hold of an expired restart (R27), and converters on the bypass clock
(R70, R79). -/
def State.allMuted (s : State) : Bool :=
  s.pwr.kill || s.modes.holdAt.isSome || !s.cpllReady || decide (s.ao < s.clk.bypUntil)

/-- The driver condition DRV: 0 disabled, 1 enabled and muted, 2 active. TX_MUTE holds the driver of an enabled path, one
that has sent its first sample since its enable (R152), at enabled and muted in every path state (R151, R159). A driver
that TURN has enabled on zero samples reads 2 (log entry 8). -/
def State.drv (s : State) (n : Nat) : Nat :=
  let p := s.path n
  let mute := s.on (TXPATH.TX_MUTE n)
  if s.txDead ∨ s.act (txPage n) = false ∨ s.on (TXPATH.FIRST_SAMPLE n) = false ∨ p.wdr
      ∨ (s.on (TXPATH.RETIRE n) != p.retTx) ∨ (p.drv || mute) = false then 0
  else if s.seqOf (txPage n) = 2 ∧ 64 ≤ s.seqAge (txPage n) then 0
  else if mute ∨ s.on (HDR.TRANS (txPage n)) ∨ p.muteToSlot ∨ s.ao < (s.tx n).muteUntil ∨ p.supp ≠ 0 ∨ s.allMuted
      ∨ s.loReady (n / 8) = false then 1
  else 2

/-- The driver condition of CALTX (R165): it has no path state, so its driver is enabled while its page is operational. -/
def State.calDrv (s : State) : Nat :=
  if s.txDead ∨ s.act 0x0AC = false ∨ (s.seqOf 0x0AC = 2 ∧ 64 ≤ s.seqAge 0x0AC) then 0
  else if s.on CAL0.TX_MUTE ∨ s.on (HDR.TRANS 0x0AC) ∨ s.ao < (s.tx 64).muteUntil ∨ s.allMuted
      ∨ s.on (Loop.READY (if s.on CAL0.LO_SEL then 2 else 1)) = false then 1
  else 2

/-- The driver condition of output `n`: a path, or CALTX for 64. -/
def State.drvOf (s : State) (n : Nat) : Nat := if n = 64 then s.calDrv else s.drv n

/-- The input in use, INSEL_ACT: 0 ANT, 1 OBS, 2 isolated (R98 to R100, R214, R244). -/
def State.insel (s : State) (n : Nat) : Nat :=
  let p := s.path n
  let ofState : PState → Nat := fun q =>
    match q with
    | .rx | .cal | .sndRx => 0
    | .obs => 1
    | _ => 2
  if s.act (rxPage n) = false ∨ s.on (HDR.TRANS (rxPage n)) then 2
  else if (s.mode = 6 ∨ s.mode = 7) ∧ s.on (RXPATH.INSEL_OVR n) then
    min 2 (s.get (RXPATH.INSEL_FORCE n))
  else if p.wdr then 2
  else match p.st with
    | .turn => if p.t1 + 40 ≤ s.ao then ofState p.tgt else ofState p.inFrom
    | q => ofState q

/-- The gain code applied, where the table of R98 gives one: the gain follows the input of the state, of the next state
in TURN, and of a forced input (R100). In SND_RX the AGC of Cumin sets GAIN_ANT (R312). -/
def State.gainCode (s : State) (n : Nat) : Option Nat :=
  let p := s.path n
  let ofState : PState → Option Nat := fun q =>
    match q with
    | .rx | .cal | .sndRx => some (s.get (RXPATH.GAIN_ANT n))
    | .obs => some (s.get (RXPATH.GAIN_OBS n))
    | _ => none
  if s.act (rxPage n) = false then none
  else if (s.mode = 6 ∨ s.mode = 7) ∧ s.on (RXPATH.INSEL_OVR n) then
    (match s.insel n with
    | 0 => some (s.get (RXPATH.GAIN_ANT n))
    | 1 => some (s.get (RXPATH.GAIN_OBS n))
    | _ => none)
  else if p.st = .turn then ofState p.tgt else ofState p.st

/-- The LO buffer of an octet is on (R104). -/
def State.loBuffer (s : State) (g : Nat) : Bool :=
  (octPaths g).any (fun n => s.act (rxPage n) || s.act (txPage n) || s.on (HDR.TRANS (rxPage n)) || s.on (HDR.TRANS (txPage n)))

/-- Receive samples taken at the ADC input now are valid (R98, R102 to R110, R79, R88, R92, R244). -/
def State.rxValid (s : State) (n : Nat) : Bool :=
  let p := s.path n
  let r := s.rx n
  s.act (rxPage n) && ! s.on (HDR.TRANS (rxPage n)) && ! p.wdr && s.cpllReady && s.loReady (n / 8)
    && (p.st == .rx || p.st == .obs || p.st == .cal || p.st == .sndRx)
    && decide (r.invUntil ≤ s.ao) && decide (s.clk.rxInvUntil ≤ s.ao) && decide (r.ovfUntil ≤ s.ao)
    && decide (s.clk.bypUntil ≤ s.ao)

/-- A comparator selection may take effect (R108); a withdrawn path is in CAL (R244). -/
def State.compPermitted (s : State) (n : Nat) : Bool :=
  (s.path n).wdr ||
    match (s.path n).st with
    | .off | .tx | .turn | .cal | .sndTx => true
    | _ => false

/-- A cell selection or a DPD change may take effect (R148, R195): the driver is disabled, or the path is in TURN. -/
def State.cellPermitted (s : State) (n : Nat) : Bool := s.drvOf n == 0 || (decide (n < 64) && (s.path n).st == .turn)

/-! ### Overload release on leaving a receiving state (R115) -/

/-- The attenuator releases at once, unless OVL_FORCE holds it. -/
def State.ovlDrop (s : State) (n : Nat) : State :=
  let s := s.set (RXPATH.ATT_NOW n) (if s.on (RXPATH.OVL_FORCE n) then 24 else 0)
  s.set (RXPATH.OVL_ACT n) (if s.on (RXPATH.OVL_FORCE n) then 1 else 0)

/-- What entering a state changes at once besides the state: outside RX, OBS, CAL and SND_RX the overload attenuator
releases (R115). -/
def State.entered (s : State) (n : Nat) (q : PState) : State :=
  let s := s.setPath n (fun p => { p with since := s.tb })
  match q with
  | .rx | .obs | .cal => s
  | .sndRx =>
    -- the AGC of Cumin starts from AGC_INIT (R312)
    if s.act 0x0E0 then
      let g := s.get SOUND0.AGC_INIT
      let s := (s.setLive (RXPATH.GAIN_ANT n) (min 60 g)).setRx n (fun r => { r with invUntil := max r.invUntil (s.ao + 24) })
      { s with snd := { s.snd with agc := min 60 g, frozen := false } }.set SOUND0.RX_STATE 1
    else s
  | _ => s.ovlDrop n

/-! ### Suppression (R226, R227) -/

/-- Loop `k` became READY in the slot that runs, which stays suppressed to its end (R81). -/
def State.readyInSlot (s : State) (k : Nat) : Bool := decide (s.ao < s.clk.readyAt.getD k 0 + s.inSlot s.tb)

/-- The cause for which a path whose driver is to carry signal in state `q` is suppressed; 0 none. -/
def State.suppCause (s : State) (n : Nat) (q : PState) : Nat :=
  let g := n / 8
  if s.loReady g = false || s.readyInSlot (s.loOf g) then 1
  else if s.cpllReady = false || s.readyInSlot 0 then 2
  else if (s.clk.loCal.getD (s.loOf g - 1) none).isSome then 3
  else if (s.oct g).moved then 4
  else if q == .sndTx && ! s.sndPermitted then 5
  else 0

/-- Reports a suppressed slot of an octet once (R227). -/
def State.reportSupp (s : State) (g cause : Nat) : State :=
  if (s.oct g).reported then s
  else
    let at_ := s.slotStart
    let s := s.setOct g (fun o => { o with reported := true })
    let s := s.set64 (OCTET.SUPP_TB_LO g) (OCTET.SUPP_TB_HI g) at_
    let s := s.set (OCTET.SUPP_CAUSE g) cause
    let s := s.count (OCTET.SUPP_CNT g)
    let s := s.raiseLog 2 (0x090 + g) EV.OCTET.TX_SUPPRESSED
    s.queueEvt (.status 1 (g * 2 ^ 16 + cause) at_)

/-- The readiness check of one path in state `q`. -/
def State.checkReady (s : State) (n : Nat) (q : PState) : State :=
  if q.carries = false ∨ s.act (txPage n) = false ∨ (s.path n).wdr ∨ s.on (TXPATH.RETIRE n) then s
  else
    let c := s.suppCause n q
    if c = 0 then s
    else (s.setPath n (fun p => { p with supp := c })).reportSupp (n / 8) c

/-! ### The turn-round (R213 to R215) -/

/-- A path takes state `q` at `t`: a change within a class is direct; any other is a turn-round scheduled at `t`; during
a turn-round it continues toward a target of the same class and restarts otherwise. -/
def State.goPath (s : State) (n t : Nat) (q : PState) : State :=
  let p := s.path n
  if s.operational n = false then s
  else if p.st = .turn then
    if q.group = p.tgt.group then s.setPath n (fun p => { p with tgt := q })
    else s.setPath n (fun p => { p with
      tgt := q, t1 := s.aoAt t, drvDone := false, inFrom := if p.t1 + 40 ≤ s.aoAt t then p.tgt else p.inFrom })
  else if p.st = q then s
  else if p.st.group = q.group then
    -- a change between TX and OBS leaves 64 ticks of observation INVALID (R196)
    let s := if p.st = .tx ∨ p.st = .obs then s.setRx n (fun r => { r with invUntil := max r.invUntil (s.aoAt t + 64) }) else s
    ((s.setPath n (fun p => { p with st := q })).entered n q).checkReady n q
  else
    (s.setPath n (fun p => { p with
      st := .turn, left := p.st, inFrom := p.st, tgt := q, t1 := s.aoAt t, drvDone := false })).ovlDrop n

/-- The driver switches 640 ticks into a turn-round (R214); the zero samples of TURN that it is enabled on are the first
that enter the DAC queue (R152). -/
def State.turnDriver (s : State) (n : Nat) : State :=
  let s := if s.act (txPage n) ∧ (s.path n).tgt.carries then s.set (TXPATH.FIRST_SAMPLE n) 1 else s
  s.setPath n (fun p => { p with drv := p.tgt.carries, drvDone := true })

/-- A turn-round settles (R214): the new state applies, and a path that enters a transmitting state is checked. -/
def State.turnSettle (s : State) (n : Nat) : State :=
  let q := (s.path n).tgt
  let s := if (s.path n).drvDone then s else s.turnDriver n
  ((s.setPath n (fun p => { p with st := q, left := q })).entered n q).checkReady n q

/-! ### The T/R switch outputs (R216) -/

/-- The level that a path gives its octet's switch at the instant TRSW_ADV from now: transmit is true. -/
def State.trswOfPath (s : State) (n : Nat) : Bool :=
  let g := n / 8
  let p := s.path n
  let q : PState :=
    if p.wdr then s.setState n (s.tb + s.get (OCTET.TRSW_ADV g))
    else if p.st = .turn then (if p.t1 + 1280 ≤ s.ao + s.get (OCTET.TRSW_ADV g) then p.tgt else p.left)
    else p.st
  s.operational n &&
    match q with
    | .tx | .obs | .sndTx => true
    | .cal => s.on (OCTET.TRSW_CAL g)
    | _ => false

/-- The level of TRSWg: transmit is true. -/
def State.trsw (s : State) (g : Nat) : Bool :=
  (s.mode == 1 || decide (3 ≤ s.mode)) && (octPaths g).any (fun n => s.trswOfPath n)

/-! ### The mute (R159, R161) -/

/-- A mute takes effect on a path: TX_MUTE and the cause bit are set. -/
def State.mutePath (s : State) (n : Nat) (cause : Loc) : State := (s.set (TXPATH.TX_MUTE n) 1).set cause 1

/-- Every path's driver, and the rules of an action, see the paths as 0 to 63. -/
def allPaths : List Nat := List.range 64

/-- A path page's loss of a rail: ERR is set, and the chain is off until EN is written again (R118, R155). -/
def State.failPage (s : State) (pg : Nat) : State :=
  if s.act pg then ((s.set (HDR.ACT pg) 0).set (HDR.TRANS pg) 0).raiseErr pg else s

/-- A path whose two pages are off is OFF (R211), and its overload attenuator is released (R115). -/
def State.dropIfOff (s : State) (n : Nat) : State :=
  if s.operational n then s else (s.setPath n (fun _ => {})).ovlDrop n

/-- The chains of paths and of the calibration path, which enable as R116 and R153 say. -/
def chainPages : List Nat := (List.range 128).map (fun k => 0x010 + k) ++ [0x0AC]

/-- The always-on tick, plus 1, at which the modulators of an enabling page start: 2,048 ticks into the sequence, or when
the CPLL becomes READY after that; 0 while it has not. -/
def State.modStart (s : State) (pg : Nat) : Nat :=
  let m := s.seqMod.look pg
  let t := max (s.seqAt.look pg + 2048) (s.clk.readyAt.getD 0 0 + 1)
  if m ≠ 0 then m else if s.cpllReady ∧ t ≤ s.ao + 1 then t else 0

/-- The modulators of a chain run: from their start in the enable sequence (R116, R153) to tick 256 of the shut-down
(R117, R154). -/
def State.modRuns (s : State) (pg : Nat) : Bool :=
  if s.seqOf pg = 1 then s.modStart pg != 0
  else s.act pg && (s.seqOf pg != 2 || decide (s.seqAge pg < 256))

/-- The interpolating half-bands of every transmit path are cleared, with what waits for them and the DPD's history (R91, R172,
R191). -/
def State.clearUp (s : State) : State :=
  { s with strm := { s.strm with
    tx := s.strm.tx.map (fun d => { d with inq := [], up3 := [], up2 := [], up1 := [], x := [] }) } }

/-- The time base moves by `by_` ticks: the samples under way keep their places on it. -/
def State.streamMoved (s : State) (by_ : Int) : State :=
  let at_ := fun (t : Nat) => ((t : Int) + by_).toNat
  { s with strm := { s.strm with
    rx := s.strm.rx.map (fun d => { d with queue := d.queue.map (fun x => (at_ x.1, x.2)) })
    tx := s.strm.tx.map (fun d => { d with inq := d.inq.map (fun x => (at_ x.1, x.2)) })
    dlZero := at_ s.strm.dlZero
    attNext := s.strm.attNext.map (fun x => (at_ x.1, x.2)) } }

/-- The group delay of the receive chain at a BEAM RATE, in ticks (R121), and the flag span F (R122). -/
def gRx (rate : Nat) : Nat := [240, 273, 339, 471].getD rate 240
def flagSpan (rate : Nat) : Nat := [16, 32, 64, 128].getD rate 16

/-- The group delay of the transmit chain with DPD bypassed (R138). -/
def gTx (rate : Nat) : Nat := [212, 230, 266, 338].getD rate 212

end Sys2Proof.Machine
end

