-- ==== Sys2Proof/Machine/Capture.lean ====
section
/-! DEFINITION. The capture engine (15): regions, arms, triggers, segments, gap records and ring buffers. -/

namespace Sys2Proof.Machine

def capPage (k : Nat) : Nat := 0x0E8 + k
def State.cap (s : State) (k : Nat) : CapSt := s.caps.getD k {}
def State.setCap (s : State) (k : Nat) (f : CapSt → CapSt) : State := { s with caps := upd s.caps k f }

/-- The word after a count of 0 that acts as another value. -/
def orIf0 (v alt : Nat) : Nat := if v = 0 then alt else v

/-- Start and length of a port's region in bytes (R341). -/
def State.capBase (s : State) (k : Nat) : Nat := captureBase + s.get (CP.BASE k) * 4096
def State.capSize (s : State) (k : Nat) : Nat := s.get (CP.SIZE k) * 4096

/-- Sample period of a port's source in ticks (R340). -/
def State.capL (s : State) (k : Nat) : Nat :=
  match s.get (CP.SRC_KIND k) with
  | 0 => 2 * 2 ^ s.get (BEAM.RATE 1)
  | 4 => 128
  | _ => 1

/-- The source path is retired in the direction of the source: its samples are recorded as INVALID (R340). -/
def State.capRetired (s : State) (k : Nat) : Bool :=
  let n := s.get (CP.SRC_IDX k)
  let kind := s.get (CP.SRC_KIND k)
  let r := if kind ≤ 1 then (if n < 32 then DEVICE.RETIRED_RX_LO else DEVICE.RETIRED_RX_HI)
    else (if n < 32 then DEVICE.RETIRED_TX_LO else DEVICE.RETIRED_TX_HI)
  decide (kind < 4) && bitOf (s.get r) (n % 32)

/-! ### Writing records (R342, R343) -/

/-- A sample as its word in a data block. -/
def sampleWord (x : Sample) : Nat := ofSigned 16 x.i * 2 ^ 16 + ofSigned 16 x.q

/-- The flag word of a block. -/
def flagWord : List Sample → Nat → Nat
  | [], _ => 0
  | x :: t, i => (if x.invalid then 2 ^ (2 * i) else 0) + (if x.ovl then 2 ^ (2 * i + 1) else 0) + flagWord t (i + 1)

/-- A data block of 18 words; missing samples are zero and INVALID. -/
def blockWords (xs : List Sample) : List Nat :=
  let stamp := match xs.head? with | some x => x.stamp | none => 0
  let all := xs ++ List.replicate (16 - xs.length) (⟨0, 0, 0, true, false⟩ : Sample)
  all.map sampleWord ++ [flagWord all 0, stamp % 2 ^ 32]

/-- Writes words at a running byte offset of the region, which wraps in stream mode. -/
def State.capPut (s : State) (k : Nat) : Nat → List Nat → State
  | _, [] => s
  | o, v :: t => State.capPut (s.writeWhole (s.capBase k + o % max 1 (s.capSize k)) [v]) k (o + 4) t

/-- Bytes not yet read, and bytes free, in the ring. -/
def State.capFill (s : State) (k : Nat) : Nat :=
  (s.get (CP.WR_PTR k) + s.capSize k - s.get (CP.RD_PTR k)) % max 1 (s.capSize k)

def State.capFree (s : State) (k : Nat) : Nat := s.capSize k - s.capFill k

/-- Appends a record to the segment in progress. In segmented mode a record that does not fit marks the region
full (R348); else the write pointer moves. -/
def State.capEmit (s : State) (k : Nat) (g : SegSt) (ws : List Nat) : SegSt × State :=
  if s.on (CP.BUF_MODE k) = false ∧ s.capSize k < g.pos + 4 * ws.length then ({ g with full := true }, s)
  else
    let s := s.capPut k g.pos ws
    let g := { g with pos := g.pos + 4 * ws.length }
    (g, s.set (CP.WR_PTR k) (g.pos % max 1 (s.capSize k)))

/-- One sample joins the open block; the sixteenth closes it. -/
def State.capSample (s : State) (k : Nat) (g : SegSt) (x : Sample) : SegSt × State :=
  if g.full then (g, s)
  else
    let g := { g with bad := g.bad || x.invalid }
    let b := g.block ++ [x]
    if b.length < 16 then ({ g with block := b }, s)
    else
      let (g', s) := s.capEmit k { g with block := [] } (blockWords b)
      (if g'.full then g' else { g' with nsamp := g.nsamp + 16 }, s)

/-- Closes an open block with pad samples, which NSAMP does not count. -/
def State.capClose (s : State) (k : Nat) (g : SegSt) : SegSt × State :=
  if g.block.isEmpty ∨ g.full then ({ g with block := [] }, s)
  else
    let n := g.block.length
    let (g', s) := s.capEmit k { g with block := [] } (blockWords g.block)
    (if g'.full then g' else { g' with nsamp := g.nsamp + n }, s)

/-- The eight words of a segment header. -/
def State.segHeader (s : State) (k : Nat) (g : SegSt) (nbytes nsamp : Nat) : List Nat :=
  [ 2 ^ 28 + k * 2 ^ 25 + (if g.forced then 2 ^ 24 else 0) + g.cause * 2 ^ 20 + s.get (CP.SRC_KIND k) * 2 ^ 16
      + g.no % 4096,
    nbytes, nsamp, g.first % 2 ^ 32, g.first / 2 ^ 32, g.trig % 2 ^ 32, g.trig / 2 ^ 32,
    s.get (CP.SRC_IDX k) * 2 ^ 24 + g.preAct * 2 ^ 8 + g.frac ]

/-- The samples of the feed that the segment records, up to stamp `e`; in a full ring they are lost (R350). -/
def State.capTake (s : State) (k e : Nat) : State :=
  match (s.cap k).seg with
  | none => s
  | some g =>
    let xs := (s.cap k).feed.filter (fun x => decide (g.lo ≤ x.stamp ∧ x.stamp < e))
    let s := s.setCap k (fun c => { c with feed := c.feed.filter (fun x => decide (e ≤ x.stamp)) })
    let r := xs.foldl (fun (a : SegSt × State) x =>
        let c := a.2.cap k
        if a.2.on (CP.BUF_MODE k) ∧ (c.lost.isSome ∨ a.2.capFree k < 104) then
          (a.1, a.2.setCap k (fun c => { c with lost := match c.lost with
            | some (f, n) => some (f, n + 1)
            | none => some (x.stamp, 1) }))
        else a.2.capSample k a.1 x) (g, s)
    r.2.setCap k (fun c => { c with seg := some r.1 })

/-- The arm ends. -/
def State.capDisarm (s : State) (k : Nat) : State :=
  (s.set (CP.ARMED k) 0).setCap k (fun c => { c with seg := none, feed := [], lost := none })

/-- The segment in progress ends at stamp `e`: its blocks, its header, SEG_DONE; the arm ends with its last segment or
at the end of the region (R343, R344, R348). -/
def State.capEnd (s : State) (k e : Nat) (last : Bool) : State :=
  let s := s.capTake k e
  match (s.cap k).seg with
  | none => if last then s.capDisarm k else s
  | some g =>
    let (g, s) := s.capClose k g
    let s := if s.on (CP.BUF_MODE k) then s else s.capPut k g.hdr (s.segHeader k g (g.pos - g.hdr) g.nsamp)
    let s := s.setCap k (fun c => { c with seg := none, segEnd := some e, endPos := g.pos, segNo := c.segNo + 1 })
    let s := s.set (CP.SEG_NOW k) (s.cap k).segNo
    let s := (s.count (CP.SEG_CNT k)).raise (capPage k) EV.CP.SEG_DONE
    let nseg := if (s.cap k).dpd then 1 else orIf0 (s.get (CP.NSEG k) % 8192) 4096
    if g.full then ((s.set (CP.FULL k) 1).raise (capPage k) EV.CP.FULL).capDisarm k
    else if last then s.capDisarm k
    else if nseg ≤ (s.cap k).segNo then (s.raise (capPage k) EV.CP.ARM_DONE).capDisarm k
    else s

/-! ### Arming (R341, R344, R348, R353) -/

/-- Two ranges of capture memory overlap. -/
def overlap (a n b m : Nat) : Bool := decide (a < b + m ∧ b < a + n)

/-- The region lies within capture memory and meets no armed port's. -/
def State.capRegionOk (s : State) (k : Nat) : Bool :=
  decide (1 ≤ s.get (CP.SIZE k)) && decide (s.get (CP.BASE k) + s.get (CP.SIZE k) ≤ 4096) &&
    (List.range 8).all (fun j => j == k || !s.on (CP.ARMED j) ||
      !overlap (s.get (CP.BASE k)) (s.get (CP.SIZE k)) (s.get (CP.BASE j)) (s.get (CP.SIZE j)))

/-- The arm starts. -/
def State.capArm (s : State) (k : Nat) (dpd : Bool) : State :=
  if s.act (capPage k) = false then s
  else if 5 ≤ s.get (CP.SRC_KIND k) then s.raise (capPage k) EV.CP.SRC_ERR
  else if s.capRegionOk k = false then s.raise (capPage k) EV.CP.REGION_ERR
  else
    let s := s.setCap k (fun _ => { armAt := s.tb, dpd := dpd })
    let s := ((s.set (CP.ARMED k) 1).set (CP.FULL k) 0).set (CP.SEG_NOW k) 0
    (s.set (CP.WR_PTR k) 0).set (CP.RD_PTR k) 0

/-- The DPD block owns the port while it adapts (R353). -/
def State.capOwned (s : State) (k : Nat) : Bool :=
  s.on DPD0.ADAPT_EN && (s.get DPD0.CAP_PORT_REF == k || s.get DPD0.CAP_PORT_OBS == k)

/-- What refuses a write of a block-specific register of the page (R348, R349, R353). -/
def State.capRefusal (s : State) (l : Loc) (k : Nat) : Option Nat :=
  if 0x040 ≤ l.off ∧ s.capOwned k then some stDENIED
  else if s.on (CP.ARMED k) ∧ (l.off = 0x040 ∨ l.off = 0x044 ∨ l.off = 0x048 ∨ l.off = 0x04C ∨ l.off = 0x050 ∨ l.off = 0x054)
    then some stLOCKED
  else if l = CP.ARM k ∧ s.on (CP.ARMED k) then some stPENDING
  else if l = CP.RD_PTR k ∧ (List.range 8).any (fun c => s.get (DMAC.STATE c) == 2 && (s.dmas.getD c {}).ctl % 16 == k + 1)
    then some stPENDING
  else none

/-! ### Triggers (R344 to R347) -/

/-- Stamp in [a, b), where the window half-open rule of R95 applies. -/
def inWindow (t a b : Nat) : Bool := decide (a ≤ t ∧ t < b)

/-- A trigger that starts no segment is counted and reported (R345); the time base's has acted (R346). -/
def State.capMiss (s : State) (k cause : Nat) : State :=
  ((s.setCap k (fun c => { c with tbDone := c.tbDone || cause == 1 })).count (CP.TRIG_MISS_CNT k)).raise (capPage k) EV.CP.TRIG_MISS

/-- A trigger that is stamped `t` (fraction `f`) reaches an armed port. One stamped before the end of the last segment and the
251 ticks after it starts none. The trigger sample of one stamped before the arm is the oldest held, the first of the arm (log
entry 59). -/
def State.capTrigger (s : State) (k cause t f : Nat) : State :=
  let c := s.cap k
  let w := s.on (CP.WIN_EN k) && !c.dpd
  if s.on (CP.ARMED k) = false then s
  else if w ∧ inWindow t (s.get64 (CP.WIN_START_LO k) (CP.WIN_START_HI k)) (s.get64 (CP.WIN_END_LO k) (CP.WIN_END_HI k)) = false
    then s
  else match c.seg with
  | some g =>
    -- triggers with equal stamps start one segment, with the lowest cause (R346)
    if g.trig = t ∧ g.frac = f then s.setCap k (fun c => { c with seg := some { g with cause := min g.cause cause } })
    else if s.on (CP.BUF_MODE k) then s
    else s.capMiss k cause
  | none =>
    let rearm : Bool := match c.segEnd with | some e => decide (t < e + 251) | none => false
    let hold : Bool := match c.lastTrig with | some p => inWindow t p (p + 16 * s.get (CP.HOLDOFF k)) | none => false
    if rearm ∨ hold then s.capMiss k cause
    else
      let L := s.capL k
      let from_ := match c.segEnd with | some e => e | none => c.armAt
      let x := (max (t + (if f = 0 then 0 else 1)) from_ + L - 1) / L * L
      let held := c.feed.filter (fun y => decide (from_ ≤ y.stamp ∧ y.stamp < x))
      let pre := if c.dpd then 0 else min (s.get (CP.PRE k) % 8192) (min 8191 held.length)
      let first := ((held.drop (held.length - pre)).head?.map (fun y => y.stamp)).getD x
      let start := c.endPos
      let g : SegSt :=
        { no := c.segNo, hdr := start, pos := start + 32, trig := t, frac := f, cause := cause, forced := cause == 7,
          first := first, lo := first
          stop := x + orIf0 (s.get (CP.POST k) % 2 ^ 24) 1 * L
          preAct := pre, full := decide (s.on (CP.BUF_MODE k) = false ∧ s.capSize k < start + 32) }
      let s := s.setCap k (fun c => { c with seg := some g, lastTrig := some x, tbDone := c.tbDone || cause == 1 })
      let s := if cause = 7 then s.raise (capPage k) EV.CP.FORCED else s
      if s.on (CP.BUF_MODE k) then
        (s.capPut k start (s.segHeader k g 0xFFFFFFFF 0xFFFFFFFF)).set (CP.WR_PTR k) ((start + 32) % max 1 (s.capSize k))
      else s

/-- Samples arrive at a port. -/
def State.capFeeds (s : State) (k : Nat) (xs : List Sample) : State :=
  if s.on (CP.ARMED k) then
    let xs := if s.capRetired k then xs.map (fun x => { x with invalid := true }) else xs
    s.setCap k (fun c => { c with feed := c.feed ++ xs })
  else s

/-- What a port's input queue holds beyond 2,048 samples is recorded; with no segment in progress the samples stay that a
pre-trigger can reach. -/
def State.capDrain (s : State) (k : Nat) : State :=
  let c := s.cap k
  match c.seg with
  | none => s.setCap k (fun c => { c with feed := c.feed.drop (c.feed.length - 8192) })
  | some g =>
    match c.feed[c.feed.length - 2048]? with
    | some x => if 2048 < c.feed.length then s.capTake k (if s.on (CP.BUF_MODE k) then x.stamp else min g.stop x.stamp) else s
    | none => s

/-- An envelope word arrives at a port that records kind 4, from the lowest-numbered tap that names it (R340). -/
def State.capFeed (s : State) (tap k w : Nat) : State :=
  let first := (List.range 8).find? (fun t =>
    s.act (0x098 + t) && s.get (MONTAP.ENV_DEST t) == 1 && s.get (MONTAP.ENV_IDX t) == k)
  if s.get (CP.SRC_KIND k) = 4 ∧ first = some tap then
    s.capFeeds k [⟨s.tb - 128, toSigned 16 (w / 2 ^ 16), toSigned 16 w, bitOf w 0, bitOf w 1⟩]
  else s

/-! ### The commands -/

/-- A write of ARM acts. Stream mode with no source selected begins at once (R349); a time-base trigger that has passed
acts at the arm. -/
def State.softArm (s : State) (k : Nat) : State :=
  let s := s.capArm k false
  if s.on (CP.ARMED k) ∧ s.on (CP.BUF_MODE k) ∧ s.get (CP.SRC_MASK k) = 0 ∧ s.on (CP.AUTO_EN k) = false then
    s.capTrigger k 0 s.tb 0
  else if bitOf (s.get (CP.SRC_MASK k)) 0 ∧ s.get64 (CP.TRIG_TB_LO k) (CP.TRIG_TB_HI k) < s.tb then
    s.capTrigger k 1 (s.get64 (CP.TRIG_TB_LO k) (CP.TRIG_TB_HI k)) 0
  else s

/-- DISARM: the segment in progress ends at the next sample (R348). -/
def State.capStop (s : State) (k : Nat) : State := if s.on (CP.ARMED k) then s.capEnd k s.tb true else s

/-- A write of TRIG acts where the software source is selected; it is stamped with the tick at which it was recognised. -/
def State.softTrig (s : State) (k at_ : Nat) : State :=
  if bitOf (s.get (CP.SRC_MASK k)) 5 then s.capTrigger k 6 (s.tb - (s.ao - at_)) 0 else s

/-- The stamp with which a trigger source fires now, and whether it does (R346). -/
def State.capSource (s : State) (k cause frac : Nat) : Option (Nat × Nat) :=
  let m := s.get (CP.SRC_MASK k)
  let n := s.get (CP.THR_PATH k)
  let tx := s.on (CP.THR_DIR k)
  let thrTb := if tx then s.get64 (TXPATH.THR_TB_LO n) (TXPATH.THR_TB_HI n) else s.get64 (RXPATH.THR_TB_LO n) (RXPATH.THR_TB_HI n)
  let above := if tx then s.on (TXPATH.THR_STATE n) else s.on (RXPATH.THR_STATE n)
  let tap := s.get (CP.TAP_SEL k)
  if cause = 1 then
    let t := s.get64 (CP.TRIG_TB_LO k) (CP.TRIG_TB_HI k)
    if bitOf m 0 ∧ (s.cap k).tbDone = false ∧ t ≤ s.tb ∧ s.onEdge then some (t, 0) else none
  else if cause = 2 then if bitOf m 1 ∧ above then some (thrTb, 0) else none
  else if cause = 3 then if bitOf m 2 ∧ above = false then some (thrTb, 0) else none
  else if cause = 4 then
    if bitOf m 3 ∧ s.on (MONTAP.PEAK_VALID tap) ∧ s.get (CP.TAP_LVL k) ≤ s.get (MONTAP.PEAK tap)
    then some (s.get64 (MONTAP.PEAK_TB_LO tap) (MONTAP.PEAK_TB_HI tap), 0) else none
  else if cause = 5 then if bitOf m 4 ∧ bitOf s.pwr.vio 3 then some (s.tb, frac % 256) else none
  else none

def State.captureTrigger (s : State) (k cause frac : Nat) : State :=
  match s.capSource k cause frac with
  | some (t, f) => s.capTrigger k cause t f
  | none => s

def execCaptureTrigger (k cause frac : Nat) (s : State) : Out := .next (s.captureTrigger k cause frac)

/-- AUTO_TO has passed with no trigger (R347). -/
def State.autoTimeout (s : State) (k : Nat) : State :=
  let c := s.cap k
  let t := (match c.segEnd with | some e => e | none => c.armAt) + s.get (CP.AUTO_TO k) * 1024
  if s.on (CP.AUTO_EN k) && !c.dpd && c.seg.isNone && decide (t ≤ s.tb) then s.capTrigger k 7 t 0 else s

def execAutoTimeout (k : Nat) (s : State) : Out := .next (s.autoTimeout k)

/-- The stamps of a segment are all there, or its region is full. -/
def State.segDone (s : State) (k : Nat) : State :=
  match (s.cap k).seg with
  | some g =>
    if s.on (CP.BUF_MODE k) then s.capTake k s.tb
    else if g.stop ≤ s.tb then s.capEnd k g.stop false
    else if g.full then s.capEnd k s.tb false else s
  | none => s

/-- The time base moves on by `by_`: what a port has received is recorded with the stamps it carries, and the places that the
port still compares with stamps move with the count; no pre-trigger reaches across (log entry 66). -/
def State.capMoved (s : State) (by_ : Int) (k : Nat) : State :=
  let at_ := fun (t : Nat) => ((t : Int) + by_).toNat
  (s.capTake k s.tb).setCap k (fun c => { c with
    feed := [], armAt := at_ c.armAt, segEnd := c.segEnd.map at_, lastTrig := c.lastTrig.map at_
    seg := c.seg.map (fun g => { g with lo := at_ g.lo, stop := at_ g.stop }) })

def execSegDone (k : Nat) (s : State) : Out := .next (s.segDone k)

/-- Recording resumes after lost samples: the open block closes and one gap record is written (R350). The samples of the
input queue stamped from `first` on and before `resume` were lost there; a full ring has lost others. -/
def State.capGap (s : State) (k first resume : Nat) : State :=
  let s := s.capTake k first
  let n := ((s.cap k).feed.filter (fun x => decide (x.stamp < resume))).length
  let s := s.setCap k (fun c => { c with feed := c.feed.filter (fun x => decide (resume ≤ x.stamp)) })
  let c := s.cap k
  let (first, lost) := match c.lost with | some (f, m) => (f, m + n) | none => (first, n)
  match c.seg with
  | none => s
  | some g =>
    if lost = 0 ∨ (c.lost.isSome ∧ s.capFree k < 4096) then s
    else
      let (g, s) := s.capClose k { g with bad := true }
      let (g, s) := s.capEmit k g [2 ^ 29 + k * 2 ^ 25, 0, min lost (2 ^ 32 - 1), first % 2 ^ 32, first / 2 ^ 32,
        resume % 2 ^ 32, resume / 2 ^ 32, 0]
      let s := s.setCap k (fun c => { c with seg := some g, lost := none })
      ((s.count (CP.LOST_CNT k) lost).count (CP.GAP_CNT k)).raise (capPage k) EV.CP.GAP

def execGap (k first resume : Nat) (s : State) : Out := .next (s.capGap k first resume)

end Sys2Proof.Machine
end

