-- ==== Sys2Proof/Machine/Rx.lean ====
section
/-! DEFINITION. Receive paths (04, 05): overload protection, converter events, decimator alignment, the threshold
detectors and the monitor taps. -/

namespace Sys2Proof.Machine

/-- The receive front end acts in this state (R111). -/
def PState.receives : PState → Bool
  | .rx | .obs | .cal | .sndRx => true
  | _ => false

/-! ### Overload (R111 to R115) -/

/-- The detector crosses its threshold: 12 dB engages at once; an engagement from zero attenuation is counted. -/
def State.ovlEngage (s : State) (n : Nat) : State :=
  if s.act (rxPage n) && s.on (RXPATH.OVL_EN n) && (s.path n).st.receives then
    let first := s.get (RXPATH.ATT_NOW n) == 0
    let s := (s.set (RXPATH.ATT_NOW n) 24).set (RXPATH.OVL_ACT n) 1
    let s := s.setRx n (fun r => { r with
      ovlAt := s.ao, ovlStep := false, ovlHold := s.get (RXPATH.OVL_HOLD n), ovlDecay := s.get (RXPATH.OVL_DECAY n) })
    if first then (s.count (RXPATH.OVL_CNT n)).raise (rxPage n) EV.RXPATH.OVL else s
  else s

def execOvlEngage (n : Nat) (s : State) : Out := .next (s.ovlEngage n)

/-- The hold, and the wait between steps, 8 * 2^OVL_DECAY ticks (R112): what a hardware engagement found in OVL_CFG is
not shortened by a later write (R114). -/
def State.ovlHoldTicks (s : State) (n : Nat) : Nat := max 1 (max (s.get (RXPATH.OVL_HOLD n)) (s.rx n).ovlHold) * 64
def State.ovlStepTicks (s : State) (n : Nat) : Nat := 8 * 2 ^ max (s.get (RXPATH.OVL_DECAY n)) (s.rx n).ovlDecay

/-- The next release step is due, where the referred signal has stayed below the threshold less 6 dB for `below` ticks:
the first at the end of the hold, which counts from then, the others at their intervals. -/
def State.ovlDue (s : State) (n below : Nat) : Bool :=
  let r := s.rx n
  if r.ovlStep then decide (r.ovlAt + s.ovlStepTicks n ≤ s.ao)
  else decide (s.ovlHoldTicks n ≤ below) && decide (r.ovlAt + s.ovlHoldTicks n ≤ s.ao)

/-- One 0.5 dB release step (R112), which OVL_FORCE prevents (R114). -/
def State.ovlRelease (s : State) (n below : Nat) : State :=
  let a := s.get (RXPATH.ATT_NOW n)
  if decide (0 < a) && !s.on (RXPATH.OVL_FORCE n) && s.ovlDue n below then
    let s := s.set (RXPATH.ATT_NOW n) (a - 1)
    let s := s.setRx n (fun r => { r with ovlAt := s.ao, ovlStep := true })
    if a = 1 then (s.set (RXPATH.OVL_ACT n) 0).setRx n (fun r => { r with ovlHold := 0, ovlDecay := 0 }) else s
  else s

def execOvlReleaseStep (n below : Nat) (s : State) : Out := .next (s.ovlRelease n below)

/-- A write of OVL_FORCE takes effect (R114): 1 holds 12 dB; at 0 the release of R112 proceeds, at once where no signal is
detected (R115). OVL_ACT says that the attenuation is above 0 dB. -/
def State.ovlForceWritten (s : State) (n v : Nat) : State :=
  let s := s.set (RXPATH.OVL_FORCE n) v
  if v = 1 then ((s.set (RXPATH.ATT_NOW n) 24).set (RXPATH.OVL_ACT n) 1).setRx n (fun r => { r with ovlStep := false })
  else if s.act (rxPage n) && (s.path n).st.receives then s else s.ovlDrop n

/-- A write of OVL_EN takes effect: 0 in M7 only (R114). -/
def State.ovlEnWritten (s : State) (n v : Nat) : State :=
  if v = 1 ∨ s.mode = 7 then s.set (RXPATH.OVL_EN n) v else s

/-- ADC samples are INVALID before the always-on tick `t`. -/
def State.rxInvalid (s : State) (n t : Nat) : State := s.setRx n (fun r => { r with invUntil := max r.invUntil t })

/-- The modulator is reset (R110): 64 ticks are INVALID; with the protection enabled it is logged as a fault. -/
def State.modReset (s : State) (n : Nat) : State :=
  if s.modRuns (rxPage n) then
    let s := (s.rxInvalid n (s.ao + 64)).count (RXPATH.MODRST_CNT n)
    if s.on (RXPATH.OVL_EN n) then s.raiseLog 2 (rxPage n) EV.RXPATH.MOD_RESET
    else s.raise (rxPage n) EV.RXPATH.MOD_RESET
  else s

def execModReset (n : Nat) (s : State) : Out := .next (s.modReset n)

/-- A waiting comparator selection takes effect at a permitted boundary (R108). A result whose maps equal those in force
is a new selection too (DESIGN CHOICE, log entry 59). -/
def State.compSwap (s : State) (n : Nat) : State :=
  match (s.rx n).comp with
  | some (mi, mq, si, sq) =>
    if s.compPermitted n && s.tb % 2 == 0 && s.onEdge then
      let s := s.setRx n (fun r => { r with comp := none })
      let s := (s.set (RXPATH.COMP_MAP_I n) mi).set (RXPATH.COMP_MAP_Q n) mq
      let s := (s.set (RXPATH.SPARES_I n) si).set (RXPATH.SPARES_Q n) sq
      (s.count (RXPATH.COMP_SWAP_CNT n)).raise (rxPage n) EV.RXPATH.COMP_SWAP
    else s
  | none => s

def execCompSwap (n : Nat) (s : State) : Out := .next (s.compSwap n)

/-- A sample arrives at a full ADC queue: it is discarded, and the outputs that depend on it are INVALID (R13, R122). -/
def State.rxqOverflow (s : State) (n : Nat) : State :=
  if n = 64 then s.setRx n (fun r => { r with ovfUntil := s.ao + 1 })
  else if s.act (rxPage n) then
    let s := s.setRx n (fun r => { r with ovfUntil := s.ao + 1 })
    (s.count (RXPATH.RXQ_OVF_CNT n)).raiseLog 2 (rxPage n) EV.RXPATH.RXQ_OVERFLOW
  else s

def execRxqOverflow (n : Nat) (s : State) : Out := .next (s.rxqOverflow n)

/-! ### Decimator alignment (R129) -/

/-- The uplink rate. -/
def State.ulRate (s : State) : Nat := s.get (BEAM.RATE 1)
/-- The downlink rate. -/
def State.dlRate (s : State) : Nat := s.get (BEAM.RATE 0)

/-- A stream's sample length in ticks at a BEAM RATE (R8). -/
def rateL (rate : Nat) : Nat := 2 * 2 ^ rate

/-- The path's decimators are cleared at the always-on tick `r`; the threshold counts clear with them (R131). -/
def State.alignPath (s : State) (n r : Nat) : State :=
  (s.setRx n (fun x => { x with align := some r })).set (RXPATH.THR_COUNT n) 0

/-- The always-on tick of the next multiple of 16 of the time base, now included. -/
def State.next16 (s : State) : Nat := s.ao + (16 - s.tb % 16) % 16

def State.decAlign (s : State) (n : Nat) : State := s.alignPath n s.next16

/-- The INVALID span of 2G after an alignment ends. -/
def State.alignDone (s : State) (n : Nat) : State :=
  match (s.rx n).align with
  | some r =>
    if (r : Int) * 256 + 2 * (gRx s.ulRate * 256 + s.geti (CALT.NOW_DLY 1 n)) ≤ s.ao * 256 then
      (s.setRx n (fun x => { x with align := none })).raise (rxPage n) EV.RXPATH.ALIGN_DONE
    else s
  | none => s

def execAlignDone (n : Nat) (s : State) : Out := .next (s.alignDone n)

/-! ### Threshold detectors (R130, R131) -/

/-- The registers of a threshold detector: of a transmit path where `tx` holds, else of a receive path. -/
structure ThrRegs where
  page : Nat
  hi : Loc
  lo : Loc
  en : Loc
  ovlHi : Loc
  hold : Loc
  state : Loc
  count : Loc
  tbLo : Loc
  tbHi : Loc

def thrRegs (tx : Bool) (n : Nat) : ThrRegs :=
  if tx then ⟨txPage n, TXPATH.THR_HI n, TXPATH.THR_LO n, TXPATH.THR_EN n, TXPATH.OVL_HI n, TXPATH.THR_HOLD n,
    TXPATH.THR_STATE n, TXPATH.THR_COUNT n, TXPATH.THR_TB_LO n, TXPATH.THR_TB_HI n⟩
  else ⟨rxPage n, RXPATH.THR_HI n, RXPATH.THR_LO n, RXPATH.THR_EN n, RXPATH.OVL_HI n, RXPATH.THR_HOLD n,
    RXPATH.THR_STATE n, RXPATH.THR_COUNT n, RXPATH.THR_TB_LO n, RXPATH.THR_TB_HI n⟩

/-- One sample qualifies: in BELOW when m >= THR_HI, in ABOVE when m < THR_LO; THR_HI serves for both where THR_LO
exceeds it, and with OVL_HI a receive sample carrying OVL counts as high. -/
def State.thrQualifies (s : State) (tx : Bool) (r : ThrRegs) (x : Sample) : Bool :=
  let hi := s.get r.hi
  let lo := min (s.get r.lo) hi
  let high := !tx && x.ovl && s.on r.ovlHi
  if s.on r.state then !high && decide (x.mag < lo) else high || decide (hi ≤ x.mag)

/-- The crossing of a detector that is due: the stamp of the deciding sample. -/
def State.thrDue (s : State) (tx : Bool) (n : Nat) : Option Nat := if tx then (s.tx n).thrDue else (s.rx n).thrDue

def State.setThrDue (s : State) (tx : Bool) (n : Nat) (v : Option Nat) : State :=
  if tx then s.setTx n (fun x => { x with thrDue := v }) else s.setRx n (fun x => { x with thrDue := v })

/-- A detector takes one sample: with the sample at which COUNT reaches max(1, HOLD) its crossing is due. -/
def State.thrSample (s : State) (tx : Bool) (n : Nat) (x : Sample) : State :=
  let r := thrRegs tx n
  if s.on r.en = false ∨ x.invalid ∨ (s.thrDue tx n).isSome then s
  else if s.thrQualifies tx r x then
    let k := s.get r.count + 1
    if max 1 (s.get r.hold) ≤ k then s.setThrDue tx n (some x.stamp) else s.set r.count k
  else s.set r.count 0

/-- A crossing: the state changes, COUNT returns to 0, and THR_TB is the stamp of the deciding sample (R130). -/
def State.thrCross (s : State) (tx : Bool) (n : Nat) : State :=
  let r := thrRegs tx n
  match s.thrDue tx n with
  | none => s
  | some t =>
    let above := !s.on r.state
    let s := (((s.setThrDue tx n none).set r.state (if above then 1 else 0)).set r.count 0).set64 r.tbLo r.tbHi t
    s.raise r.page (if above then EV.RXPATH.THR_RISE else EV.RXPATH.THR_FALL)

def execThresholdCrossing (tx : Bool) (n : Nat) (s : State) : Out := .next (s.thrCross tx n)

/-- A write to THR_HI, THR_LO or THR_CFG takes effect: COUNT clears, and THR_EN = 0 resets the detector (R131). -/
def State.thrWritten (s : State) (tx : Bool) (n : Nat) (l : Loc) (v : Nat) : State :=
  let r := thrRegs tx n
  let s := ((s.set l v).set r.count 0).setThrDue tx n none
  if l = r.en ∧ v = 0 then s.set r.state 0 else s

/-- The fields of the word that a threshold write names: 0 THR_HI, 1 THR_LO, 2 THR_CFG. -/
def thrFields (r : ThrRegs) (which : Nat) : List Loc :=
  if which = 0 then [r.hi] else if which = 1 then [r.lo] else [r.en, r.ovlHi, r.hold]

/-! ### Monitor taps (R132 to R136) -/

def tapPage (t : Nat) : Nat := 0x098 + t

/-- The sample length of a tap's source (R133, R8). -/
def State.tapL (s : State) (t : Nat) : Nat := if s.get (MONTAP.SRC_KIND t) < 2 then rateL s.ulRate else 1

def State.setTap (s : State) (t : Nat) (f : TapSt → TapSt) : State := { s with taps := upd s.taps t f }

/-- The tap holds its results: its source is withdrawn for foreground calibration, or it runs its self-test (R136). -/
def State.tapHeld (s : State) (t : Nat) : Bool :=
  (s.path (s.get (MONTAP.SRC_PATH t))).wdr || (s.taps.getD t {}).test

/-- A hold of a tap's results begins, and ends: what it held stays STALE until its next publication. -/
def State.tapHold (s : State) (t : Nat) : State :=
  ((s.set (MONTAP.PEAK_STALE t) 1).set (MONTAP.MS_STALE t) 1).set (HDR.STALE (tapPage t)) 1

def State.tapRelease (s : State) (t : Nat) : State := s.setTap t (fun x => { x with since := max x.since s.tb })

/-- A path is withdrawn for foreground calibration, or returns: the taps on it hold their results meanwhile. -/
def State.withdraw (s : State) (n : Nat) (b : Bool) : State :=
  let s := s.setPath n (fun p => { p with wdr := b })
  (List.range 8).foldl (fun s t =>
    if s.get (MONTAP.SRC_PATH t) = n then (if b then s.tapHold t else s.tapRelease t) else s) s

/-- The tap's source path is retired in the direction of the source, so every sample counts as INVALID. -/
def State.tapRetired (s : State) (t : Nat) : Bool :=
  let n := s.get (MONTAP.SRC_PATH t)
  let r := if s.get (MONTAP.SRC_KIND t) < 2
    then (if n < 32 then DEVICE.RETIRED_RX_LO else DEVICE.RETIRED_RX_HI)
    else (if n < 32 then DEVICE.RETIRED_TX_LO else DEVICE.RETIRED_TX_HI)
  bitOf (s.get r) (n % 32)

/-- The length of a mean-square window in ticks (R133). -/
def State.msTicks (s : State) (t : Nat) : Nat := 2 ^ s.get (MONTAP.RMS_K t) * s.tapL t

/-- The length of a peak window in ticks. -/
def State.peakTicks (s : State) (t : Nat) : Nat := 2 ^ s.get (MONTAP.PEAK_P t) * s.tapL t

/-- BAND_BW selects a band filter, and the delay for which its samples come later than their stamps (R132). -/
def State.banded (s : State) (t : Nat) : Bool := decide (1 ≤ s.get (MONTAP.BAND_BW t) ∧ s.get (MONTAP.BAND_BW t) ≤ 6)
def State.tapLag (s : State) (t : Nat) : Nat :=
  if s.banded t then Config.bandHalf (s.get (MONTAP.BAND_BW t)) * s.tapL t else 0

/-- The instant of the source stream that a tap has reached. -/
def State.tapTime (s : State) (t : Nat) : Nat := s.tb - s.tapLag t

/-- A window of `len` ticks that ends now counts: it began at or after the last commit or hold of the tap. -/
def State.tapWindow (s : State) (t len : Nat) : Bool := decide ((s.taps.getD t {}).since + len ≤ s.tapTime t)

/-- A window of `len` ticks ends now at a tap that publishes, and it counts. -/
def State.tapEnds (s : State) (t len : Nat) : Bool :=
  s.act (tapPage t) && !s.tapHeld t && s.tapTime t % len == 0 && s.tapWindow t len

/-- A publication clears the detector's STALE bit, and the page's when neither is left (R136). -/
def State.tapFresh (s : State) (t : Nat) (l : Loc) : State :=
  let s := s.set l 0
  if s.on (MONTAP.PEAK_STALE t) || s.on (MONTAP.MS_STALE t) then s else s.set (HDR.STALE (tapPage t)) 0

/-- The peak window ends. -/
def State.peakNew (s : State) (t : Nat) : State :=
  if s.tapEnds t (s.peakTicks t) then
    let s := match (s.taps.getD t {}).pk with
      | some x => ((s.set (MONTAP.PEAK t) x.mag).set64 (MONTAP.PEAK_TB_LO t) (MONTAP.PEAK_TB_HI t) x.stamp).set
          (MONTAP.PEAK_VALID t) 1
      | none => (s.set (MONTAP.PEAK t) 0).set (MONTAP.PEAK_VALID t) 0
    (s.tapFresh t (MONTAP.PEAK_STALE t)).raise (tapPage t) EV.MONTAP.PEAK_NEW
  else s

def execPeakNew (t : Nat) (s : State) : Out := .next (s.peakNew t)

/-- A guard counts the window that ends now (R204): both taps are on its path and have just published the same window,
valid in at least half its samples; the driver and the predistorter were in throughout. -/
def State.guardWindow (s : State) (p : Nat) : State :=
  let tc := s.get DPD0.GUARD_TAP_C
  let ta := s.get DPD0.GUARD_TAP_A
  let g := s.dpd.paths.getD p {}
  let need := 2 ^ (s.get (MONTAP.RMS_K tc) - 1)
  let ok := fun (t : Nat) => s.get (MONTAP.SRC_PATH t) == p && s.get64 (MONTAP.MS_TB_LO t) (MONTAP.MS_TB_HI t) == s.tapTime t
    && s.on (MONTAP.MS_VALID t) && decide (need ≤ s.get (MONTAP.MS_NVALID t)) && !s.on (MONTAP.MS_STALE t)
  if (s.get (DPD1.PHASE p) == 1 || s.get (DPD1.PHASE p) == 2) && g.aim.isNone && ok tc && ok ta && g.last != s.tb
      && decide (max g.since g.good + s.msTicks tc ≤ s.tb) && g.paused.isNone && decide (g.n < max 1 (s.get DPD0.GUARD_N)) then
    { s with dpd := { s.dpd with paths := upd s.dpd.paths p (fun g => { g with
        last := s.tb, n := g.n + 1, c := g.c + s.get (MONTAP.MS tc), a := g.a + s.get (MONTAP.MS ta) }) } }
  else s

def State.guardWindows (s : State) : State := allPaths.foldl (fun s p => s.guardWindow p) s

/-- The mean-square window ends, and the guards that use the tap see it. -/
def State.msNew (s : State) (t : Nat) : State :=
  if s.tapEnds t (s.msTicks t) then
    let x := s.taps.getD t {}
    let s := s.set (MONTAP.MS t) (if x.cnt = 0 then 0 else (divConv x.sum x.cnt).toNat)
    let s := s.set (MONTAP.MS_VALID t) (if x.cnt = 0 then 0 else 1)
    let s := (s.set64 (MONTAP.MS_TB_LO t) (MONTAP.MS_TB_HI t) (s.tapTime t)).set (MONTAP.MS_NVALID t) x.cnt
    ((s.tapFresh t (MONTAP.MS_STALE t)).raise (tapPage t) EV.MONTAP.MS_NEW).guardWindows
  else s

def execMsNew (t : Nat) (s : State) : Out := .next (s.msNew t)

/-- The mean of the square roots of `l`, in units of 2^-15. The spec states no rounding of a mean that is no whole number,
so it is its integer part or one more, by a free bit (log entry 9). -/
def rootMean (l : List Nat) (free : Nat) : Nat :=
  let r := (l.map (fun m => Nat.sqrt (m * 2 ^ 40))).foldl (· + ·) 0
  let n := l.length * 2 ^ 20
  let whole := l.all (fun m => Nat.sqrt m * Nat.sqrt m == m) && r % n == 0
  r / n + (if whole then 0 else free % 2)

/-- The envelope word of an interval, from the m of its valid samples (R134). -/
def envWord (ms : List Nat) (ovl : Bool) (free : Nat) : Nat :=
  let mean := if ms.isEmpty then 0 else rootMean ms free
  min 0xFFFF mean * 2 ^ 16 + (if ovl then 2 else 0) + (if ms.isEmpty then 1 else 0)

/-- A word enters a core's stream input queue of 64 words; false where the core cannot accept it (R134, R374). -/
def State.streamPush (s : State) (c w : Nat) : Bool × State :=
  let k := s.cores.getD c {}
  if s.act (0x100 + c) && decide (k.stream.length < 64) then
    let n := k.stream.length + 1
    (true, { s with cores := upd s.cores c (fun k =>
      { k with stream := k.stream ++ [w], ipend := if k.strThr ≤ n then setBit k.ipend 2 else k.ipend }) })
  else (false, s)

/-- A 128-tick envelope interval ends and its word goes to ENV_DEST. -/
def State.envelope (s : State) (t : Nat) : State :=
  if s.tapEnds t 128 then
    let x := s.taps.getD t {}
    let (f, s) := s.freeNat
    let w := envWord x.env x.envOvl f
    let d := s.get (MONTAP.ENV_DEST t)
    if d = 2 then
      let (ok, s) := s.streamPush (s.get (MONTAP.ENV_IDX t)) w
      if ok then s else (s.count (MONTAP.ENV_DROP_CNT t)).raise (tapPage t) EV.MONTAP.ENV_DROP
    else if d = 1 then s.capFeed t (s.get (MONTAP.ENV_IDX t)) w
    else s
  else s

def execEnvelopeWord (t : Nat) (s : State) : Out := .next (s.envelope t)

/-- What a commit of an RXPATH page does besides the swap (R102, R106, R127): INVALID spans where the value in force
changes (a commit that repeats it marks none: DESIGN CHOICE, log entry 59), and the symmetry check of a newly selected
bank. `old` is the state before the swap. -/
def State.rxCommitted (s old : State) (n : Nat) : State :=
  let s := if s.get (RXPATH.GAIN_ANT n) ≠ old.get (RXPATH.GAIN_ANT n) ∨ s.get (RXPATH.GAIN_OBS n) ≠ old.get (RXPATH.GAIN_OBS n)
    then s.rxInvalid n (s.ao + 24) else s
  let s := if s.get (RXPATH.BBF_BW n) ≠ old.get (RXPATH.BBF_BW n) then s.rxInvalid n (s.ao + 64) else s
  if s.get (RXPATH.FIR_BANK n) ≠ old.get (RXPATH.FIR_BANK n) then
    let h := fun k => s.get (if s.on (RXPATH.FIR_BANK n) then RXPATH.FIR_B1 n k else RXPATH.FIR_B0 n k)
    s.set (RXPATH.FIR_ASYM n) (if (List.range 48).all (fun k => h k == h (95 - k)) then 0 else 1)
  else s

/-- A FIR coefficient write is refused: the bank in force is LOCKED, and either bank while a commit is pending
(R126). -/
def State.firRefusal (s : State) (n bank : Nat) : Option Nat :=
  if s.get (RXPATH.FIR_BANK n) = bank then some stLOCKED
  else if s.on (HDR.PENDING (rxPage n)) then some stPENDING else none

end Sys2Proof.Machine
end

