-- ==== Sys2Proof/Machine/CalBase.lean ====
section
/-! DEFINITION. Calibration (10) as other families meet it: failures, the foreground run, withdrawals, slews, and the
candidates for retirement (R473). -/

namespace Sys2Proof.Machine

/-! ### Retirement candidates (R473) -/

/-- The candidate register of a path and direction: 0 transmit, 1 receive. -/
def candLoc (d n : Nat) : Loc :=
  if d = 0 then (if n < 32 then AGEING.CAND_TX_LO else AGEING.CAND_TX_HI)
  else if n < 32 then AGEING.CAND_RX_LO else AGEING.CAND_RX_HI

/-- The causes of R473, in its order. -/
def causeRxSpares : Nat := 1
def causeTxSpares : Nat := 2
def causeBist : Nat := 3
def causeCmpl : Nat := 4
def causeCal : Nat := 5

/-- A path becomes a candidate; its record's word 4 carries the cause. While CAND is set nothing is repeated. -/
def State.retireCand (s : State) (d n cause : Nat) : State :=
  let l := candLoc d n
  if bitOf (s.get l) (n % 32) then s
  else
    let s := (s.set l (setBit (s.get l) (n % 32))).raise 0x122 EV.AGEING.RETIRE_CAND
    let s := s.logHw 0x05 1 0x122 cause (s.pageStat 0x122) (s.rawWord 0x122 0x02C)
    { s with ret := { s.ret with candAt := s.ret.candAt.put (d * 64 + n) (s.ao + 1) } }

/-- A compliance fault of a path counts towards CMPL_RETIRE within 24 h. -/
def State.cmplNote (s : State) (n : Nat) : State :=
  let day := 86400 * 983040000
  let l := (s.cal.cmpl.filter (fun e => decide (s.ao < e.2 + day))) ++ [(n, s.ao)]
  let s := { s with cal := { s.cal with cmpl := l } }
  let k := (l.filter (fun e => decide (e.1 = n))).length
  if max 1 (s.get AGEING.CMPL_RETIRE) ≤ k then s.retireCand 0 n causeCmpl else s

/-! ### Failures -/

/-- The directions that a kind concerns: 0 transmit, 1 receive. -/
def kindDir (k : Nat) : Nat := if k = 4 ∨ k = 5 ∨ k = 6 ∨ k = 7 ∨ k = 11 then 0 else 1

/-- A calibration fails: counted, raised, LAST_FAIL written; three failures with reason 3 in a row make the path a
candidate for retirement. Path 64 is the calibration path. -/
def State.calFail (s : State) (reason kind p : Nat) : State :=
  let s := (s.count CAL0.FAIL_CNT).raise 0x0AC EV.CAL0.CAL_FAIL
  let s := ((s.set CAL0.FAIL_REASON reason).set CAL0.FAIL_KIND kind).set CAL0.FAIL_CALPATH (if p = 64 then 1 else 0)
  let s := s.set CAL0.FAIL_PATH (p % 64)
  let key := kindDir kind * 128 + p
  let n := if reason = 3 then s.cal.fails.look key + 1 else 0
  let s := { s with cal := { s.cal with fails := s.cal.fails.put key (if 3 ≤ n then 0 else n) } }
  if 3 ≤ n ∧ p < 64 then s.retireCand (kindDir kind) p causeCal else s

/-! ### The foreground run (R244) -/

/-- The kinds left of a path. -/
def State.fgMask (s : State) (p : Nat) : Nat := ((s.cal.fg.find? (fun e => e.1 == p)).map (fun e => e.2)).getD 0

def State.fgMap (s : State) (f : Nat × Nat → Nat) : State :=
  { s with cal := { s.cal with fg := s.cal.fg.map (fun e => (e.1, f e)) } }

/-- STAT.WITHDRAWN of both directions of a path. -/
def State.withdrawnNote (s : State) (p v : Nat) : State :=
  (s.set (CAL3.STAT_TX_WITHDRAWN p) v).set (CAL3.STAT_RX_WITHDRAWN p) v

/-- In M5 the paths whose kinds have ended are to return, and further paths are to be withdrawn, lowest first, while
fewer than WD_MAX are out. -/
def State.fgNext (s : State) : State :=
  if s.mode ≠ 5 then s
  else
    let s := s.cal.fg.foldl (fun (s : State) e =>
      if e.2 ≠ 0 then s
      else if (s.path e.1).wdr then s.setPath e.1 (fun p => { p with wdrTo := some false })
      else s.setPath e.1 (fun p => { p with wdrTo := none })) s
    let out := allPaths.filter (fun n => (s.path n).wdr || (s.path n).wdrTo == some true)
    let room := max 1 (min 8 (s.get CAL0.WD_MAX)) - out.length
    let next := (s.cal.fg.filter (fun e => e.2 != 0 && !(out.contains e.1))).take room
    next.foldl (fun (s : State) e => s.setPath e.1 (fun p => { p with wdrTo := some true })) s

/-- Kinds of the mask `m` end on the paths for which `q` holds, each with CAL_FAIL of this reason. -/
def State.fgEnd (s : State) (q : Nat → Bool) (m reason : Nat) : State :=
  let s := s.cal.fg.foldl (fun (s : State) e =>
    if q e.1 then (List.range 12).foldl (fun s k => if bitOf (e.2 &&& m) k then s.calFail reason k e.1 else s) s else s) s
  (s.fgMap (fun e => if q e.1 then clearMask 12 e.2 m else e.2)).fgNext

/-- The kinds that transmit: 1, 4, 5, 6, 10 and 11. -/
def txKinds : Nat := 0xC72

/-! ### What forces weights (R185, R186) -/

def State.setBeam (s : State) (d : Nat) (f : BeamSt → BeamSt) : State := { s with beams := upd s.beams d f }

/-- A change of forcing starts a computation of the gains. -/
def State.forcingChanged (s : State) (d : Nat) : State :=
  (s.setBeam d (fun b => { b with redo := true })).set (BEAM.RENORM_BUSY d) 1

/-- The directions that the foreground run calibrates on a withdrawn path: bit 0 transmit, bit 1 receive. -/
def State.fgDirs (s : State) : Nat :=
  let m := s.get CAL0.KIND_MASK
  (if m &&& 0x0F0 = 0 then 0 else 1) + (if m &&& 0x00D = 0 then 0 else 2)

/-- A path is withdrawn, or returns. -/
def State.withdrawNow (s : State) (n : Nat) (b : Bool) : State :=
  let s := (s.withdraw n b).setPath n (fun p => { p with wdrDir := s.fgDirs })
  let s := (s.withdrawnNote n (if b then 1 else 0)).forcingChanged 0 |>.forcingChanged 1
  if b then s.raise 0x0AC EV.CAL0.WITHDRAWN else s

/-! ### Slews of DC and IQ corrections (R239) -/

/-- The value in force of a DC or IQ correction: on a straight line from its old value to its target. -/
def State.corrNow (s : State) (l : Loc) : Int :=
  match s.cal.slews.find? (fun x => x.key == l.key) with
  | some x =>
    let e := s.tb - x.at_
    if 2 ^ x.k ≤ e then s.geti l else x.start + (s.geti l - x.start) * e / (2 ^ x.k : Nat)
  | none => s.geti l

/-- The number of samples of a slew, as a power of two. -/
def State.slewK (s : State) (iq : Bool) : Nat :=
  if iq then max 10 (min 20 (s.get CAL0.IQ_K)) else max 8 (min 16 (s.get CAL0.DC_K))

/-- A new target: in M5 on a path in service the value in force moves there from `start`; else it is there (R240). -/
def State.slewFrom (s : State) (l : Loc) (iq : Bool) (n : Nat) (start : Int) : State :=
  let rest := s.cal.slews.filter (fun x => decide (x.key ≠ l.key))
  if s.mode = 5 ∧ (s.path n).wdr = false then
    { s with cal := { s.cal with slews := rest ++ [⟨l.key, start, s.tb, s.slewK iq⟩] } }
  else { s with cal := { s.cal with slews := rest } }

/-- The slewed fields of a receive and a transmit page, each with whether it is an IQ field. -/
def rxSlewed (n : Nat) : List (Loc × Bool) :=
  [(RXPATH.DC_CORR_I n, false), (RXPATH.DC_CORR_Q n, false), (RXPATH.IQ_GAIN n, true)]
    ++ (List.range 7).map (fun i => (RXPATH.IQ_X n i, true))
def txSlewed (n : Nat) : List (Loc × Bool) :=
  [(TXPATH.DCT_I n, false), (TXPATH.DCT_Q n, false), (TXPATH.TX_IQ_GAIN n, true)]
    ++ (List.range 7).map (fun i => (TXPATH.TX_IQ_X n i, true))

/-- A commit of a path page starts the slews of the corrections it changed. `old` is the state before the swap. -/
def State.slewCommitted (s old : State) (n : Nat) (fields : List (Loc × Bool)) : State :=
  fields.foldl (fun s f => if s.get f.1 = old.get f.1 then s else s.slewFrom f.1 f.2 n (old.corrNow f.1)) s

end Sys2Proof.Machine
end

