-- ==== Sys2Proof/Machine/DpdBase.lean ====
section
/-! DEFINITION. The predistorters (08): what the other families do to an update, a capture or the lap. -/

namespace Sys2Proof.Machine

/-! ### Model memory (R192) -/

/-- Byte address of word `off` of a bank. -/
def modelAddr (p b off : Nat) : Nat := modelBase + p * 0x800 + b * 0x400 + off

/-- The identity model in both banks of every path (R193): descriptor 0 is 0x11 and c_0 is 1. -/
def State.modelIdentity (s : State) : State :=
  let s := s.clearMem modelBase 0x20000
  let s := allPaths.foldl (fun s p => [0, 1].foldl (fun s b =>
    (s.setWord (modelAddr p b 0) 0x11).setWord (modelAddr p b 0x100) 0x100000) s) s
  allPaths.foldl (fun s p => s.set (DPD1.ACT_BANK p) 0) s

/-! ### Jobs and results (R199, R201, R203) -/

def State.dpdPath (s : State) (p : Nat) : DpdPath := s.dpd.paths.getD p {}
def State.setDpdPath (s : State) (p : Nat) (f : DpdPath → DpdPath) : State :=
  { s with dpd := { s.dpd with paths := upd s.dpd.paths p f } }
def State.dpdJob (s : State) (c : Nat) : Option DpdJob := s.dpd.jobs.getD c none
def State.setDpdJob (s : State) (c : Nat) (j : Option DpdJob) : State :=
  { s with dpd := { s.dpd with jobs := s.dpd.jobs.set c j } }

/-- The bit of a path in a pair of words. -/
def State.pathBit (s : State) (lo hi : Loc) (p : Nat) : Bool := bitOf (s.get (if p < 32 then lo else hi)) (p % 32)

/-- A path takes part in the lap (R199). -/
def State.dpdEligible (s : State) (p : Nat) : Bool :=
  s.pathBit DPD0.LAP_MASK_LO DPD0.LAP_MASK_HI p && s.on (DPD1.DPD_EN_ACT p) && !s.on (DPD1.FROZEN p)
    && !s.on (TXPATH.RETIRE p) && !(s.path p).wdr

/-- The next path of the lap: MODEL_STALE first, else the lowest that is neither visited nor held by a core. -/
def State.dpdNext (s : State) : Option Nat :=
  let free := allPaths.filter (fun p => s.dpdEligible p && !(s.dpdPath p).lapped
    && !s.dpd.jobs.any (fun j => match j with | some x => x.path == p | none => false))
  match free.find? (fun p => s.on (DPD1.MODEL_STALE p)) with
  | some p => some p
  | none => free.head?

def State.dpdNote (s : State) : State :=
  match s.dpdNext with | some p => s.set DPD0.NEXT_PATH p | none => s

/-- The lap ends when every eligible path has had a result (R199). -/
def State.dpdLap (s : State) : State :=
  let ps := allPaths.filter (fun p => s.dpdEligible p)
  if s.on DPD0.ADAPT_EN ∧ s.mode = 5 ∧ ps ≠ [] ∧ ps.all (fun p => (s.dpdPath p).lapped) then
    let s := (s.set DPD0.LAP_TIME (min 0xFFFF ((s.ao - s.dpd.lapAt) / 983040))).count DPD0.LAP_CNT
    let s := s.raise 0x0A4 EV.DPD0.LAP_DONE
    { s with dpd := { s.dpd with lapAt := s.ao, paths := s.dpd.paths.map (fun g => { g with lapped := false }) } }
  else s

/-- The capture in progress of a job ends without a result for it, and its ports are free. -/
def State.dpdCapStop (s : State) : State :=
  [s.get DPD0.CAP_PORT_REF, s.get DPD0.CAP_PORT_OBS].foldl (fun s k => if (s.cap k).dpd then s.capDisarm k else s) s

/-- An update of a path, or a job on it, ends with a result: the core that holds the path is free. -/
def State.dpdResult (s : State) (p r : Nat) : State :=
  let s := (s.set (DPD1.LAST_RESULT p) r).set (DPD1.PHASE p) 0
  let s := s.setDpdPath p (fun _ => { lapped := true })
  let s := (List.range 8).foldl (fun s c =>
    match s.dpdJob c with
    | some j => if j.path = p then (if j.cap.isSome ∧ j.done = false then s.dpdCapStop else s).setDpdJob c none |>.set (DPD2.VALID c) 0
      else s
    | none => s) s
  let s := if r = 1 ∨ r = 10 then
      ((s.count DPD0.UPD_CNT).set (DPD1.MODEL_STALE p) 0).raise 0x0A4 EV.DPD0.UPD_DONE else s
  s.dpdLap.dpdNote

/-- The active bank of a path toggles. -/
def State.dpdToggle (s : State) (p : Nat) : State := s.set (DPD1.ACT_BANK p) (1 - s.get (DPD1.ACT_BANK p))

/-- An update in progress ends with result 9; after its swap the previous bank is restored (R207). -/
def State.dpdAbort (s : State) (p : Nat) : State :=
  if s.get (DPD1.PHASE p) = 0 then s
  else if s.get (DPD1.PHASE p) = 2 then (s.dpdToggle p).dpdResult p 9
  else s.dpdResult p 9

/-- The path leaves the lap (withdrawn, retired or frozen): its update is aborted, and so is a job on it (R207). -/
def State.dpdLeave (s : State) (p : Nat) : State :=
  if s.get (DPD1.PHASE p) = 0 ∧ s.dpd.jobs.any (fun j => match j with | some x => x.path == p | none => false)
  then s.dpdResult p 9 else s.dpdAbort p

/-- A range change of the path: MODEL_STALE, the path is taken next, and a guard in progress ends (R207). -/
def State.dpdStale (s : State) (p : Nat) : State :=
  let s := (s.dpdAbort p).setDpdPath p (fun g => { g with lapped := false })
  ((s.set (DPD1.MODEL_STALE p) 1).raise 0x0A4 EV.DPD0.MODEL_STALE).dpdNote

/-- The capture of core `c` is void: it is made again at the next opportunity (R200). -/
def State.dpdVoid (s : State) (c : Nat) : State :=
  match s.dpdJob c with
  | some j =>
    if j.cap.isSome ∧ j.done = false then
      (s.dpdCapStop.setDpdJob c (some { j with cap := none })).raise 0x0A4 EV.DPD0.CAP_VOID
    else s
  | none => s

/-- The clocks of a path are ready: the CPLL and its octet's LO (R205). -/
def State.dpdClocked (s : State) (p : Nat) : Bool := s.cpllReady && s.loReady (p / 8)

/-- What every tick does to jobs and updates: a capture whose path has left OBS or active driving is void (R200); the
taps of a guard are repointed at a multiple of 128 ticks (R204, R135); windows during which the driver or the
predistorter was out do not count; the guard's timer stands while a loop is not ready (R205). -/
def State.dpdWatchJob (s : State) (c : Nat) : State :=
  match s.dpdJob c with
  | some j =>
    if j.cap.isSome && !j.done && ((s.path j.path).st != .obs || s.drv j.path != 2) then s.dpdVoid c else s
  | none => s

def State.dpdAim (s : State) (p : Nat) : State :=
  let tc := s.get DPD0.GUARD_TAP_C
  let ta := s.get DPD0.GUARD_TAP_A
  let s := [tc, ta].foldl (fun s t =>
    ((s.setBoth (MONTAP.SRC_KIND t) 1).setBoth (MONTAP.SRC_PATH t) p).setTap t (fun x => { x with since := s.tb })) s
  (s.setBoth (MONTAP.RMS_K ta) (s.get (MONTAP.RMS_K tc))).setDpdPath p (fun g => { g with aim := none })

def State.dpdWatchPath (s : State) (p : Nat) : State :=
  if s.get (DPD1.PHASE p) = 0 then s
  else
    let g := s.dpdPath p
    let s := if g.aim.isSome ∧ s.tb % 128 = 0 then s.dpdAim p else s
    let s := if s.drv p = 2 ∧ s.on (DPD1.DPD_EN_ACT p) then s else s.setDpdPath p (fun g => { g with good := s.tb + 1 })
    match s.dpdClocked p, g.paused with
    | false, none => s.setDpdPath p (fun g => { g with paused := some s.ao })
    | true, some t => s.setDpdPath p (fun g => { g with paused := none, timer := g.timer + (s.ao - t) })
    | _, _ => s

def State.dpdWatch (s : State) : State :=
  allPaths.foldl (fun s p => s.dpdWatchPath p) ((List.range 8).foldl (fun s c => s.dpdWatchJob c) s)

end Sys2Proof.Machine
end

