-- ==== Sys2Proof/Machine/Tx.lean ====
section
/-! DEFINITION. Transmit paths (06): the DAC queue, cell selections, range changes, mutes, TXKILL_N, compliance,
retirement, and the gate-bias outputs. -/

namespace Sys2Proof.Machine

/-! ### The DAC queue and the cells (R13, R148) -/

/-- The queue is empty at a release tick: path `n` of 0 to 63, or CALTX for 64 (R165). The queue releases only while
the driver is enabled (R145). -/
def State.txqUnderflow (s : State) (n : Nat) : State :=
  if s.drvOf n = 0 then s
  else if n = 64 then (s.count CAL0.TXQ_UFL_CNT).raiseLog 2 0x0AC EV.CAL0.TXQ_UNDERFLOW
  else ((s.setTx n (fun x => { x with hole := some (s.ao + 18) })).count (TXPATH.TXQ_UFL_CNT n)).raiseLog 2 (txPage n) EV.TXPATH.TXQ_UNDERFLOW

def execTxqUnderflow (n : Nat) (s : State) : Out := .next (s.txqUnderflow n)

/-- A waiting cell selection takes effect where the driver is disabled or the path is in TURN. -/
def State.cellSwap (s : State) (n : Nat) : State :=
  match (s.tx n).cell with
  | some (mi, mq, si, sq) =>
    if n < 64 ∧ s.cellPermitted n ∧ s.tb % 2 = 0 ∧ s.onEdge then
      let s := s.setTx n (fun r => { r with cell := none })
      let s := (s.set (TXPATH.CELL_MAP_I n) mi).set (TXPATH.CELL_MAP_Q n) mq
      let s := (s.set (TXPATH.CELL_SPARES_I n) si).set (TXPATH.CELL_SPARES_Q n) sq
      (s.count (TXPATH.CELL_SWAP_CNT n)).raise (txPage n) EV.TXPATH.CELL_SWAP
    else s
  | none => s

def execCellSwap (n : Nat) (s : State) : Out := .next (s.cellSwap n)

/-! ### Range changes (R157) -/

/-- A range change to `r` starts at the RF-pin instant `b`, as an always-on tick, or waits for the one in progress. -/
def State.rangeStart (s : State) (n b r : Nat) : State :=
  match (s.tx n).range with
  | some _ => s.setTx n (fun x => { x with rangeQ := x.rangeQ ++ [r] })
  | none => ((s.setTx n (fun x => { x with range := some (b, r, false) })).set (TXPATH.RANGE_BUSY n) 1).dpdStale n

def State.rangeSwitch (s : State) (n : Nat) : State :=
  match (s.tx n).range with
  | some (b, r, false) =>
    if b + 96 ≤ s.ao ∧ s.onEdge then (s.setTx n (fun x => { x with range := some (b, r, true) })).set (TXPATH.RANGE_ACT n) r else s
  | _ => s

def execRangeSwitch (n : Nat) (s : State) : Out := .next (s.rangeSwitch n)

def State.rangeDone (s : State) (n : Nat) : State :=
  match (s.tx n).range with
  | some (b, r, sw) =>
    if b + 160 ≤ s.ao ∧ s.onEdge then
      let s := if sw then s else s.set (TXPATH.RANGE_ACT n) r
      let s := ((s.setTx n (fun x => { x with range := none })).set (TXPATH.RANGE_BUSY n) 0).raise (txPage n)
        EV.TXPATH.RANGE_DONE
      match (s.tx n).rangeQ with
      | q :: t => (s.setTx n (fun x => { x with rangeQ := t })).rangeStart n (b + 160) q
      | [] => s
    else s
  | none => s

def execRangeDone (n : Nat) (s : State) : Out := .next (s.rangeDone n)

/-- What a commit of a TXPATH page does besides the swap (R158): a changed FS_RANGE starts a range change, and in M5
is left unchanged. `old` is the state before the swap. -/
def State.txCommitted (s old : State) (n : Nat) : State :=
  if s.get (TXPATH.FS_RANGE n) = old.get (TXPATH.FS_RANGE n) then s
  else if s.mode = 5 then (s.set (TXPATH.FS_RANGE n) (old.get (TXPATH.FS_RANGE n))).raise (txPage n) EV.TXPATH.RANGE_REFUSED
  else s.rangeStart n s.ao (s.get (TXPATH.FS_RANGE n))

/-! ### Mutes (R159, R160) -/

/-- The mute field, the cause bits and the page of output `n`: a path, or CALTX for 64. -/
def muteLoc (n : Nat) : Loc := if n = 64 then CAL0.TX_MUTE else TXPATH.TX_MUTE n
def causeSW (n : Nat) : Loc := if n = 64 then CAL0.CAUSE_SW else TXPATH.CAUSE_SW n
def causeKILL (n : Nat) : Loc := if n = 64 then CAL0.CAUSE_KILL else TXPATH.CAUSE_KILL n
def causeCMPL (n : Nat) : Loc := if n = 64 then CAL0.CAUSE_CMPL else TXPATH.CAUSE_CMPL n
def killPin (n : Nat) : Loc := if n = 64 then CAL0.KILL_PIN else TXPATH.KILL_PIN n

/-- A write of TX_MUTE = 0 is refused to other classes than MGMT while a cause other than software stands (R160). -/
def State.muteRefusal (s : State) (c : Cls) (n v : Nat) : Option Nat :=
  if v = 0 ∧ c ≠ .mgmt ∧ (s.on (causeKILL n) ∨ s.on (causeCMPL n)) then some stDENIED else none

/-- While TXKILL_N is recognised as asserted, hardware safety holds the mute (R59, R160). -/
def State.muteHeld (s : State) : Option Nat := if s.pwr.kill then some 1 else none

/-- A write of TX_MUTE takes effect. A released output resumes at the next slot boundary in M5, else at the first multiple
of 16 ticks after the release (R160); the slots of CALTX, which has no octet, are those of the time base. -/
def State.muteWritten (s : State) (n v : Nat) : State :=
  if v = 1 then (s.set (muteLoc n) 1).set (causeSW n) 1
  else
    let was := s.on (muteLoc n)
    let s := (((s.set (muteLoc n) 0).set (causeSW n) 0).set (causeKILL n) 0).set (causeCMPL n) 0
    if was = false then s
    else if s.mode ≠ 5 then s.setTx n (fun x => { x with muteUntil := s.ao + (16 - s.tb % 16) })
    else if n < 64 then s.setPath n (fun p => { p with muteToSlot := true })
    else s.setTx n (fun x => { x with muteUntil := s.ao + (slotTicks - s.inSlot s.tb) })

/-! ### Gate-bias outputs (R166 to R170, R488) -/

def auxPage : Nat := 0x125

/-- The output is held at BIAS_SAFE: EN = 0, the page is off or shuts down, or FORCE_SAFE = 1 (R170). -/
def State.biasHeld (s : State) (k : Nat) : Bool :=
  !s.on (HDR.EN auxPage) || !s.act auxPage || s.seqOf auxPage == 2 || s.on (AUXDAC.FORCE_SAFE k)

/-- AT_SAFE and SLEWING follow the code in force. -/
def State.biasNote (s : State) (k : Nat) (moving : Bool) : State :=
  let at_ := s.get (AUXDAC.OUT_CODE k) == s.get (AUXDAC.SAFE_CODE k) && s.get (AUXDAC.RANGE_ACT k) == s.get (AUXDAC.SAFE_RANGE k)
  (s.set (AUXDAC.AT_SAFE k) (if at_ then 1 else 0)).set (AUXDAC.SLEWING k) (if moving then 1 else 0)

/-- The output steps to BIAS_SAFE. -/
def State.biasSafe (s : State) (k : Nat) : State :=
  let s := { s with bias := upd s.bias k (fun b => { b with rangeAt := none, owed := false }) }
  ((s.set (AUXDAC.OUT_CODE k) (s.get (AUXDAC.SAFE_CODE k))).set (AUXDAC.RANGE_ACT k) (s.get (AUXDAC.SAFE_RANGE k))).biasNote k false

/-- SAFE_CODE, SAFE_RANGE and MAX_CODE show the output's BIAS_SAFE entry in OTP (R167). -/
def State.biasShadow (s : State) (k : Nat) : State :=
  let e := s.otp.bias.getD k (0, 0, 0)
  ((s.set (AUXDAC.SAFE_CODE k) e.1).set (AUXDAC.SAFE_RANGE k) e.2.1).set (AUXDAC.MAX_CODE k) e.2.2

/-- The output is as after a reset of its page: CODE and RANGE are those of BIAS_SAFE, and it steps there (R167). -/
def State.biasEntry (s : State) (k : Nat) : State :=
  let s := s.biasShadow k
  let s := (s.set (AUXDAC.CODE k) (s.get (AUXDAC.SAFE_CODE k))).set (AUXDAC.RANGE k) (s.get (AUXDAC.SAFE_RANGE k))
  (s.set (AUXDAC.WRITTEN k) 0).biasSafe k

/-- The output reaches its target: a range sequence that ends here raises BIAS_RANGE_DONE (R169). -/
def State.biasReached (s : State) (k : Nat) : State :=
  let owed := (s.bias.getD k {}).owed
  let s := { s with bias := upd s.bias k (fun b => { b with owed := false }) }
  let s := s.biasNote k false
  if owed then s.raise auxPage EV.AUXDAC.BIAS_RANGE_DONE else s

/-- A range sequence starts (R169): the output steps to BIAS_SAFE. -/
def State.biasRange (s : State) (k : Nat) : State :=
  let s := s.biasSafe k
  let s := { s with bias := upd s.bias k (fun b => { b with rangeAt := some s.uptimeUs, owed := true }) }
  s.set (AUXDAC.SLEWING k) 1

/-- The output starts towards CODE in the range in force (R168), or a range sequence starts (R169). An output that is
released from BIAS_SAFE while SAFE_RANGE differs from RANGE takes the range sequence of R169 and raises BIAS_RANGE_DONE at
its end (DESIGN CHOICE, log entry 59). -/
def State.biasAim (s : State) (k : Nat) : State :=
  if s.biasHeld k then s
  else if s.get (AUXDAC.RANGE_ACT k) ≠ s.get (AUXDAC.RANGE k) then s.biasRange k
  else if s.get (AUXDAC.OUT_CODE k) = s.get (AUXDAC.CODE k) then s.biasReached k
  else if s.get (AUXDAC.SLEW_RATE k) = 0 then (s.set (AUXDAC.OUT_CODE k) (s.get (AUXDAC.CODE k))).biasReached k
  else
    let going := s.on (AUXDAC.SLEWING k)
    let s := if going then s else { s with bias := upd s.bias k (fun b => { b with lastUs := s.uptimeUs }) }
    s.biasNote k true

/-- The highest code of a range that MAX_CODE and VAUX allow (R168, R488). -/
def State.biasLimit (s : State) (k range : Nat) : Nat :=
  let m := s.get (AUXDAC.MAX_CODE k)
  let byMax := if m = 0 then 4095 else if range = 0 then m else min 4095 (m * 14 / 6)
  let byVaux := if s.pwr.vauxMv < 2200 ∧ range = 0 then (s.pwr.vauxMv - 800) * 4095 / 1400 else 4095
  min byMax byVaux

/-- Stores a target code, clamped. -/
def State.biasCode (s : State) (k v : Nat) : State :=
  let m := s.biasLimit k (s.get (AUXDAC.RANGE k))
  if m < v then (s.set (AUXDAC.CODE k) m).raise auxPage EV.AUXDAC.BIAS_CLAMPED else s.set (AUXDAC.CODE k) v

/-- CODE and RANGE of VBIASk.CFG take effect together, each where it is written: the range first, so that the code is judged
in its own range (R168). A changed RANGE starts the sequence of R169, or starts it again; a code alone changes only its
target. A code that stays while its range changes is brought within the limit of the new range. -/
def State.biasTarget (s : State) (k : Nat) (range code : Option Nat) : State :=
  let s := s.set (AUXDAC.WRITTEN k) 1
  let r := range.getD (s.get (AUXDAC.RANGE k))
  let moved := decide (r ≠ s.get (AUXDAC.RANGE k))
  let s := s.set (AUXDAC.RANGE k) r
  let s := match code with
    | some c => s.biasCode k c
    | none => if moved then s.biasCode k (s.get (AUXDAC.CODE k)) else s
  if moved then (if s.biasHeld k then s else s.biasRange k)
  else if code.isNone ∨ (s.bias.getD k {}).rangeAt.isSome then s
  else s.biasAim k

/-- A field of VBIASk.CFG takes effect. -/
def State.biasWritten (s : State) (k : Nat) (l : Loc) (v : Nat) : State :=
  let s := s.set (AUXDAC.WRITTEN k) 1
  if l = AUXDAC.CODE k then s.biasTarget k none (some v)
  else if l = AUXDAC.RANGE k then s.biasTarget k (some v) none
  else if l = AUXDAC.FORCE_SAFE k then
    if s.get l = v then s else if v = 1 then (s.set l 1).biasSafe k else (s.set l 0).biasAim k
  else s.set l v

/-- Hardware safety holds FORCE_SAFE at 1 while its cause stands (R170). -/
def State.biasForceHeld (s : State) (k : Nat) : Option Nat :=
  if s.on (AUXDAC.FORCE_SAFE k) ∧ (s.pwr.kill ∨ s.on DEVICE.HALT) then some 1 else none

/-- One 100 us interval of a slew ends. -/
def State.biasSlew (s : State) (k : Nat) : State :=
  let b := s.bias.getD k {}
  let out := s.get (AUXDAC.OUT_CODE k)
  let tgt := s.get (AUXDAC.CODE k)
  let r := s.get (AUXDAC.SLEW_RATE k)
  if s.biasHeld k = false ∧ s.on (AUXDAC.SLEWING k) ∧ b.rangeAt = none ∧ b.lastUs + 100 ≤ s.uptimeUs then
    let s := { s with bias := upd s.bias k (fun b => { b with lastUs := b.lastUs + 100 }) }
    let next := if r = 0 then tgt else if out ≤ tgt then min tgt (out + r) else max tgt (out - r)
    let s := s.set (AUXDAC.OUT_CODE k) next
    if next = tgt then s.biasReached k else s.biasNote k true
  else s

def execVbiasSlewStep (k : Nat) (s : State) : Out := .next (s.biasSlew k)

/-- The code of the other range nearest to the voltage of a code (R169): `toNarrow` from the 1.6 V range to the 0.8 V
range. -/
def nearestCode (toNarrow : Bool) (c : Nat) : Nat :=
  if toNarrow then min 4095 ((c * 28 + 6) / 12) else (c * 12 + 14) / 28

/-- 1,000 us after the write the range switches, with the output held at the BIAS_SAFE voltage. -/
def State.biasRangeSwitch (s : State) (k : Nat) : State :=
  match (s.bias.getD k {}).rangeAt with
  | some t =>
    if t + 1000 ≤ s.uptimeUs ∧ s.biasHeld k = false then
      let r := s.get (AUXDAC.RANGE k)
      let code := s.get (AUXDAC.OUT_CODE k)
      let code := if r = s.get (AUXDAC.RANGE_ACT k) then code else nearestCode (r == 1) code
      let s := { s with bias := upd s.bias k (fun b => { b with rangeAt := none, lastUs := t + 1000 }) }
      let s := (s.set (AUXDAC.RANGE_ACT k) r).set (AUXDAC.OUT_CODE k) code
      if code = s.get (AUXDAC.CODE k) then s.biasReached k
      else if s.get (AUXDAC.SLEW_RATE k) = 0 then (s.set (AUXDAC.OUT_CODE k) (s.get (AUXDAC.CODE k))).biasReached k
      else s.set (AUXDAC.SLEWING k) 1
    else s
  | none => s

def execVbiasRangeSwitch (k : Nat) (s : State) : Out := .next (s.biasRangeSwitch k)

/-- Hardware safety forces an output to BIAS_SAFE (R170). -/
def State.biasForce (s : State) (k : Nat) : State :=
  ((s.set (AUXDAC.FORCE_SAFE k) 1).biasSafe k).raise auxPage EV.AUXDAC.BIAS_FORCED_SAFE

/-! ### TXKILL_N and compliance (R161, R162) -/

/-- The kill mutes output `n`. -/
def State.killPath (s : State) (n : Nat) : State :=
  (((s.set (muteLoc n) 1).set (causeKILL n) 1).set (killPin n) 1).raise
    (if n = 64 then 0x0AC else txPage n) (if n = 64 then EV.CAL0.TX_KILL else EV.TXPATH.TX_KILL)

/-- The mute of TXKILL_N stands in every output while the pin is recognised as asserted, through any reset (R59, R161). -/
def State.killStays (s : State) : State :=
  if s.pwr.kill then
    (List.range 65).foldl (fun s n => ((s.set (muteLoc n) 1).set (causeKILL n) 1).set (killPin n) 1) s
  else s

/-- TXKILL_N is recognised low: 65 outputs are muted, the marked gate biases forced safe, one record is written. -/
def State.kill (s : State) : State :=
  if s.pwr.kill ∨ s.pwr.vaux = false then s
  else
    let s := { s with pwr := { s.pwr with kill := true } }
    let s := (List.range 65).foldl (fun s n => s.killPath n) s
    -- foreground kinds that transmit end (10)
    let s := s.fgEnd (fun _ => true) txKinds 4
    let s := (List.range 16).foldl (fun s k => if s.on (AUXDAC.KILL_SAFE k) then s.biasForce k else s) s
    s.logEvent 3 (txPage 0) EV.TXPATH.TX_KILL

def execTxkillAssert (s : State) : Out := .next s.kill

/-- Deassertion is recognised: KILL_PIN clears and the outputs stay muted. It is not while VIO4 is not good (R484). -/
def State.unkill (s : State) : State :=
  if s.pwr.kill ∧ bitOf s.pwr.vio 3 then
    let s := { s with pwr := { s.pwr with kill := false } }
    (List.range 65).foldl (fun s n => s.set (killPin n) 0) s
  else s

def execTxkillDeassert (s : State) : Out := .next s.unkill

/-- The detector finds an open load, or a short, at output `n` while its driver is active. CALTX has no CMPL_MUTE
field: its fault always mutes. -/
def State.compliance (s : State) (n : Nat) (short : Bool) : State :=
  if n = 64 then
    if s.calDrv = 2 then
      let s := (s.count CAL0.CMPL_CNT).raise 0x0AC (if short then EV.CAL0.CMPL_SHORT else EV.CAL0.CMPL_OPEN)
      (s.set CAL0.TX_MUTE 1).set CAL0.CAUSE_CMPL 1
    else s
  else if s.drv n = 2 then
    let s := (s.set (if short then TXPATH.SHORT n else TXPATH.OPEN n) 1).count (TXPATH.CMPL_CNT n)
    let s := (s.raise (txPage n) (if short then EV.TXPATH.CMPL_SHORT else EV.TXPATH.CMPL_OPEN)).cmplNote n
    if s.on (TXPATH.CMPL_MUTE n) then s.mutePath n (TXPATH.CAUSE_CMPL n) else s
  else s

def execComplianceFault (n : Nat) (short : Bool) (s : State) : Out := .next (s.compliance n short)

/-! ### Retirement (R163) -/

/-- The word of DEVICE that shows a retired transmit path, and of a retired receive path. -/
def retiredTx (n : Nat) : Loc := if n < 32 then DEVICE.RETIRED_TX_LO else DEVICE.RETIRED_TX_HI
def retiredRx (n : Nat) : Loc := if n < 32 then DEVICE.RETIRED_RX_LO else DEVICE.RETIRED_RX_HI

/-- The word of AGEING.RX_RETIRE that holds a path's bit. -/
def rxRetireLoc (n : Nat) : Loc := if n < 32 then AGEING.RX_RETIRE_LO else AGEING.RX_RETIRE_HI

/-- A change of a path's RX_RETIRE bit acts (R475). -/
def State.rxRetired (s : State) (n : Nat) : State :=
  let l := retiredRx n
  if bitOf (s.get (rxRetireLoc n)) (n % 32) then
    ((s.set l (setBit (s.get l) (n % 32))).raise 0x000 EV.DEVICE.PATH_RETIRED).forcingChanged 1
  else (s.set l (clearBit (s.get l) (n % 32))).forcingChanged 1

/-- A word of RX_RETIRE takes effect: a changed path follows at its next slot boundary in M5, else at once. -/
def State.rxRetireWritten (s : State) (l : Loc) (v : Nat) : State :=
  let old := s.get l
  let s := s.set l v
  let base := if l = AGEING.RX_RETIRE_LO then 0 else 32
  (List.range 32).foldl (fun s i =>
    if bitOf old i = bitOf v i then s
    else if s.mode = 5 then s.setPath (base + i) (fun p => { p with retRx := !p.retRx })
    else s.rxRetired (base + i)) s

/-- A RETIRE write takes effect; in M5 the driver follows at the next slot boundary. -/
def State.retireWritten (s : State) (n v : Nat) : State :=
  if s.get (TXPATH.RETIRE n) = v then s
  else
    let s := s.set (TXPATH.RETIRE n) v
    let s := if s.mode = 5 then s.setPath n (fun p => { p with retTx := !p.retTx }) else s.forcingChanged 0
    if v = 1 then
      ((s.set (retiredTx n) (setBit (s.get (retiredTx n)) (n % 32))).raise 0x000 EV.DEVICE.PATH_RETIRED).dpdLeave n |>.fgEnd (fun p => p == n) 0xFFF 4
    else s.set (retiredTx n) (clearBit (s.get (retiredTx n)) (n % 32))

/-- A CFR pulse word is LOCKED while CFR_EN is in force (R143). -/
def State.cfrPulseRefusal (s : State) (n : Nat) : Option Nat := if s.on (TXPATH.CFR_EN n) then some stLOCKED else none

end Sys2Proof.Machine
end

