-- ==== Sys2Proof/Machine/Timeline.lean ====
section
/-! DEFINITION. The radio timeline (09): commit requests, slot boundaries, the octet queues and their actions, RFFE
sequences and lane sleep. -/

namespace Sys2Proof.Machine

/-! ### Commit requests (R46, R47) -/

/-- A REQ reaches a page: its swap is awaited. COMMIT_TB earlier than the time base makes it late. A REQ while one is
pending changes nothing. -/
def State.commitAt (s : State) (pg tgt : Nat) (immed : Bool) : State :=
  if s.on (HDR.PENDING pg) ∨ hasShadow pg = false then s
  else
    let late := !immed && decide (tgt < s.tb)
    let c : CommitSt := ⟨pg, if immed || late then s.tb + 1 else tgt, immed, late⟩
    let s := { s with commits := s.commits ++ [c] }.set (HDR.PENDING pg) 1
    -- a beam commit awaits the gains of the incoming weights (R183)
    if pg = 0x0A0 ∨ pg = 0x0A1 then
      { s with beams := upd s.beams (pg - 0x0A0) (fun b => { b with wait := true }) }.set (BEAM.RENORM_BUSY (pg - 0x0A0)) 1
    else s

def State.commitReq (s : State) (pg : Nat) : State :=
  s.commitAt pg (s.get64 (HDR.COMMIT_TB_LO pg) (HDR.COMMIT_TB_HI pg)) (s.on (HDR.IMMED pg))

/-! ### Queues (R217 to R219) and drops (R224, R225) -/

/-- FILL and NEXT_TB follow the queue. -/
def State.queueNote (s : State) (g : Nat) : State :=
  let q := (s.oct g).queue
  let t := match q.head? with | some e => e.t | none => 2 ^ 64 - 1
  (s.set (TIMELINE1.FILL g) q.length).set64 (TIMELINE1.NEXT_TB_LO g) (TIMELINE1.NEXT_TB_HI g) t

/-- An action of octet `g` is discarded. -/
def State.dropAction (s : State) (g code t reason : Nat) : State :=
  let s := (s.count (TIMELINE1.DROP_CNT g)).count TIMELINE0.DROP_CNT
  let s := ((s.set TIMELINE0.DROP_REASON reason).set TIMELINE0.DROP_OCTET g).set TIMELINE0.LAST_DROP_CODE code
  let s := s.set64 TIMELINE0.LAST_DROP_TB_LO TIMELINE0.LAST_DROP_TB_HI t
  s.raise 0x0A8 (if reason = 1 ∨ reason = 4 then EV.TIMELINE0.LATE_DROP else EV.TIMELINE0.ACT_DROP)

/-- Entries in order of time, and of push among equal times. -/
def insertEntry (e : QEntry) : List QEntry → List QEntry
  | [] => [e]
  | x :: q => if e.t < x.t then e :: x :: q else x :: insertEntry e q

/-- The place that a new entry takes in the memory of a queue: the lowest free one (DESIGN CHOICE, log entry 67). -/
def freeSlot (q : List QEntry) : Nat := ((List.range 1024).find? (fun k => !q.any (fun x => x.slot == k))).getD 0

/-- The two code words of an entry of octet `g` in memory 7 (R431; log entry 67). -/
def entryWords (g : Nat) (e : QEntry) : List Nat := [2 * (1024 * g + e.slot), 2 * (1024 * g + e.slot) + 1]

/-- One entry reaches the queue of one octet; a timed action late by R224 is discarded. -/
def State.enqueueOne (s : State) (g : Nat) (e : QEntry) : State :=
  if e.code ≠ 4 ∧ e.t < s.tb + 512 then s.dropAction g e.code e.t 1
  else
    let e := { e with slot := freeSlot (s.oct g).queue }
    let s := (entryWords g e).foldl (fun s i => s.eccWholeWord 7 i) s
    (s.setOct g (fun o => { o with queue := insertEntry e o.queue })).queueNote g

/-- The sequencer reads an entry: false where a code word of it is uncorrectable (R439). -/
def State.entryRead (s : State) (g : Nat) (e : QEntry) : Bool × State :=
  (entryWords g e).foldl (fun r i => let x := r.2.eccReadWord reqDATAPATH 7 i; (r.1 && x.1, x.2)) (true, s)

/-- The octets of a mask. -/
def maskOctets (m : Nat) : List Nat := (List.range 8).filter (fun g => bitOf m g)

/-- The entry of a push, from the ENQ_ACT layout. -/
def entryOf (id : Nat) (c : Cls) (t act arg : Nat) : QEntry :=
  { id := id, cls := c, t := t / 16 * 16, code := bits act 28 4, st := bits act 25 3, ret := bits act 22 3, range := bits act 20 2,
    mask := bits act 8 8, arg := arg }

/-- The status of a push: a full queue first, then the rights on the page of a COMMIT action (R219, R220). -/
def State.pushRefusal (s : State) (c : Cls) (act arg : Nat) : Option Nat :=
  if (maskOctets (bits act 0 8)).any (fun g => decide (1024 ≤ (s.oct g).queue.length)) then some stPENDING
  else if bits act 28 4 = 4 then s.pageRefusal c (arg % 512) else none

/-- A push that is accepted. -/
def State.push (s : State) (c : Cls) (t act arg : Nat) : State :=
  let e := entryOf s.tl.nextId c t act arg
  let s := { s with tl := { s.tl with nextId := s.tl.nextId + 1 } }
  (maskOctets (bits act 0 8)).foldl (fun s g => s.enqueueOne g e) s

/-- A class's own copy of a register that is held per class (R218). -/
def perClass (l : Loc) (c : Cls) : Loc := { l with page := l.page + 0x200 * c.code }

/-- The value that a class has written to its own copy of a register: an open window holds the latest. -/
def State.written (s : State) (c : Cls) (l : Loc) : Nat :=
  let l := perClass l c
  match (s.windowOf l).bind (fun w => w.writes.getLast?) with
  | some x => x.val
  | none => s.get l

/-- A write of ENQ_ACT that is accepted pushes what its class has written. It is not arbitrated and acts at once (R218). -/
def State.enqAct (s : State) (c : Cls) (act : Nat) : State :=
  s.push c (join64 (s.written c TIMELINE0.ENQ_TB_LO * 16) (s.written c TIMELINE0.ENQ_TB_HI)) act (s.written c TIMELINE0.ENQ_ARG)

def State.flush (s : State) (g : Nat) : State :=
  (s.setOct g (fun o => { o with queue := o.queue.filter (fun e => decide (e.t < s.tb + 512)) })).queueNote g

/-- After a step or load, the timed actions whose time has passed are discarded (R224). -/
def State.dropLate (s : State) : State :=
  (List.range 8).foldl (fun s g =>
    let q := (s.oct g).queue
    let late := q.filter (fun e => decide (e.code ≠ 4 ∧ e.t < s.tb))
    let s := late.foldl (fun s e => s.dropAction g e.code e.t 1) s
    (s.setOct g (fun o => { o with queue := q.filter (fun e => decide (e.code = 4 ∨ s.tb ≤ e.t)) })).queueNote g) s

/-! ### Slot boundaries (R209 to R212, R226) -/

/-- The paths of the octet take their pattern state, but for those in a window and those that are off. -/
def State.patternStep (s : State) (g : Nat) : State :=
  (octPaths g).foldl (fun s n =>
    if s.mode = 5 ∧ s.operational n ∧ (s.path n).win = none then s.goPath n s.tb (s.patternState n s.tb) else s) s

/-- The readiness check at a boundary: every path whose driver is to carry signal. -/
def State.boundaryCheck (s : State) (g : Nat) : State :=
  (octPaths g).foldl (fun s n => if (s.path n).drv then s.checkReady n (s.path n).st else s) s

/-- What a slot boundary ends and lets act: suppression, a released mute, a retirement, a withdrawal. -/
def State.boundaryClear (s : State) (n : Nat) : State :=
  let dest := (s.path n).wdrTo
  let tx := (s.path n).retTx
  let rx := (s.path n).retRx
  let s := s.setPath n (fun p => { p with supp := 0, muteToSlot := false, retTx := false, retRx := false, wdrTo := none })
  let s := if tx then s.forcingChanged 0 else s
  let s := if rx then s.rxRetired n else s
  match dest with
  | some b => let s := s.withdrawNow n b; if b then s.dpdLeave n else s.fgNext
  | none => s

def State.slotBoundary (s : State) (g : Nat) : State :=
  if s.tbRun = false then s
  else if s.isBoundary s.tb then
    let s := s.setOct g (fun o => { o with reported := false, moved := false })
    let s := s.set (OCTET.SLOT_NOW g) (if s.mode = 5 then s.slotIndex s.tb else 0)
    let s := (octPaths g).foldl (fun s n => s.boundaryClear n) s
    (s.patternStep g).boundaryCheck g
  else if s.mode = 5 ∧ s.get (OCTET.TYPE g (s.slotIndex s.tb)) = 3 ∧ s.inSlot s.tb = 16 * s.get (OCTET.SPLIT_OFS g) then
    s.patternStep g
  else s

def execSlotBoundary (g : Nat) (s : State) : Out := .next (s.slotBoundary g)

/-! ### The turn-round's instants (R214, R216) -/

def State.turnDriverDue (s : State) (n : Nat) : State :=
  let p := s.path n
  if p.st == .turn && !p.drvDone && decide (p.t1 + 640 ≤ s.ao) then s.turnDriver n else s

def execTurnDriverSwitch (n : Nat) (s : State) : Out := .next (s.turnDriverDue n)

def State.turnSettleDue (s : State) (n : Nat) : State :=
  let p := s.path n
  if p.st == .turn && decide (p.t1 + 1280 ≤ s.ao) then s.turnSettle n else s

def execTurnRoundSettled (n : Nat) (s : State) : Out := .next (s.turnSettleDue n)

/-- TRSWg takes its level. -/
def State.trswChange (s : State) (g : Nat) : State :=
  if s.onEdge then s.set (OCTET.TRSW_NOW g) (if s.trsw g then 1 else 0) else s

def execTrswChange (g : Nat) (s : State) : Out := .next (s.trswChange g)

/-! ### Actions (R220 to R223) -/

/-- A state that an action may name in a mode (R221): rows are WINDOW 1, SET 2, ONESHOT 3. -/
def statePermitted (code mode : Nat) (q : PState) : Bool :=
  let quiet := q == .off || q == .rx || q == .sndRx
  match mode with
  | 1 => code == 2 || code == 3
  | 4 => code != 3 && quiet
  | 5 => code == 1
  | 6 => quiet || q == .cal
  | 7 => true
  | _ => false

/-- The action acts in the mode. -/
def actPermitted (e : QEntry) (mode : Nat) : Bool :=
  if e.code ≤ 3 then statePermitted e.code mode (PState.ofCode e.st)
  else mode == 1 || (3 ≤ mode && mode ≤ 7)

/-- The paths of octet `g` that an entry names. -/
def entryPaths (g mask : Nat) : List Nat := (octPaths g).filter (fun n => bitOf mask (n % 8))

/-- The entry is malformed (R220, R221). -/
def State.malformed (s : State) (e : QEntry) : Bool :=
  if e.code = 0 ∨ 8 ≤ e.code then true
  else if e.code ≤ 3 then e.st == 3 || (e.code == 3 && decide (2 ≤ e.ret))
  else if e.code = 4 then !assigned (e.arg % 512) || !hasShadow (e.arg % 512)
  else if e.code = 5 then s.mode == 5 && !s.isBoundary e.t
  else if e.code = 6 then e.arg % 16 == 0
  else false

/-- The head of an octet's queue is due and of this code, or of a reserved code. -/
def State.dueEntry (s : State) (g code : Nat) : Option QEntry :=
  match (s.oct g).queue with
  | e :: _ => if s.tbRun ∧ e.t ≤ s.tb ∧ (e.code = code ∨ e.code = 0 ∨ 8 ≤ e.code) then some e else none
  | [] => none

/-- Takes the head of the queue, judges it, and performs it (R221). An entry that cannot be read is discarded as malformed
(R439), and a timed action whose time has passed is not performed late (R48, R224). -/
def State.runEntry (s : State) (g code : Nat) (eff : QEntry → State → State) : State :=
  match s.dueEntry g code with
  | none => s
  | some e =>
    let r := s.entryRead g e
    let s := (r.2.setOct g (fun o => { o with queue := o.queue.tail })).queueNote g
    if r.1 = false then s.dropAction g e.code e.t 3
    else if e.code ≠ 4 ∧ e.t < s.tb then s.dropAction g e.code e.t 1
    else if s.malformed e then s.dropAction g e.code e.t 3
    else if e.code ≠ 4 ∧ actPermitted e s.mode = false then s.dropAction g e.code e.t 2
    else eff e s

/-- A path takes an action's state; a path that is off takes none. -/
def State.actPath (s : State) (n : Nat) (e : QEntry) (f : PathSt → PathSt) : State :=
  if s.operational n then (s.setPath n f).goPath n e.t (PState.ofCode e.st) else s

def State.tlWindow (s : State) (g : Nat) (e : QEntry) : State :=
  let stop := e.t + 16 * (e.arg % 2 ^ 24)
  if stop ≤ e.t then s
  else (entryPaths g e.mask).foldl (fun s n =>
    s.actPath n e (fun p => { p with win := some stop, shot := none, held := false })) s

def execTlWindow (g : Nat) (s : State) : Out := .next (s.runEntry g 1 (fun e s => s.tlWindow g e))

def State.tlSet (s : State) (g : Nat) (e : QEntry) : State :=
  (entryPaths g e.mask).foldl (fun s n => s.actPath n e (fun p => { p with win := none, shot := none, held := true })) s

def execTlSet (g : Nat) (s : State) : Out := .next (s.runEntry g 2 (fun e s => s.tlSet g e))

def State.tlOneshot (s : State) (g : Nat) (e : QEntry) : State :=
  let stop := e.t + 16 * (e.arg % 2 ^ 24)
  (entryPaths g e.mask).foldl (fun s n => s.actPath n e (fun p =>
    { p with win := none, shot := some (stop, PState.ofCode e.ret), held := true })) s

def execTlOneshot (g : Nat) (s : State) : Out := .next (s.runEntry g 3 (fun e s => s.tlOneshot g e))

/-- A COMMIT action acts once: the copies of its push leave the other queues. It is a write of REQ, refused with
COMMIT_PENDING while a commit is pending (R47, R48). -/
def State.tlCommit (s : State) (e : QEntry) : State :=
  let s := (List.range 8).foldl (fun s g =>
    (s.setOct g (fun o => { o with queue := o.queue.filter (fun x => decide (x.id ≠ e.id)) })).queueNote g) s
  let pg := e.arg % 512
  if s.on (HDR.PENDING pg) then s.refuse e.cls (regAddr pg 0x020) stPENDING else s.commitReq pg

def execTlCommit (g : Nat) (s : State) : Out := .next (s.runEntry g 4 (fun e s => s.tlCommit e))

/-- A RANGE action: the range is in force from the action on, and the change starts with b = t (R157). -/
def State.tlRange (s : State) (g : Nat) (e : QEntry) : State :=
  (entryPaths g e.mask).foldl (fun s n => (s.set (TXPATH.FS_RANGE n) e.range).rangeStart n (s.aoAt e.t) e.range) s

def execTlRange (g : Nat) (s : State) : Out := .next (s.runEntry g 5 (fun e s => s.tlRange g e))

/-! ### RFFE (R228 to R230) -/

/-- The command word of a sequence at position `i`. -/
def State.cmdIndex (s : State) (q i : Nat) : Nat := (s.get (TIMELINE2.START q) + i) % 256

/-- Ticks that a command occupies its bus (R229). -/
def State.cmdTicks (s : State) (k : Nat) : Nat :=
  let ty := s.get (TIMELINE3.TYPE k)
  let div := [80, 40, 20, 80].getD (s.get (TIMELINE2.DIV (s.get (TIMELINE3.BUS k)))) 80
  if ty = 1 then 28 * max div 40 else if ty = 2 then 36 * div else 27 * div

/-- A sequence that holds a command which discards it (R230). -/
def State.seqBad (s : State) (q : Nat) : Bool :=
  (List.range (s.get (TIMELINE2.LEN q))).any (fun i =>
    let k := s.cmdIndex q i
    let ty := s.get (TIMELINE3.TYPE k)
    ty == 3 || (decide (ty < 2) && decide (32 ≤ s.get (TIMELINE3.ADDR k))) || !s.on (TIMELINE2.BUS_EN (s.get (TIMELINE3.BUS k))))

def State.setRffe (s : State) (f : RffeSt → RffeSt) : State := { s with tl := { s.tl with rffe := f s.tl.rffe } }

/-- A run's command goes onto its bus if that is free. -/
def State.rffeIssue (s : State) (r : RffeRun) : RffeRun × State :=
  let k := s.cmdIndex r.seq r.idx
  let b := s.get (TIMELINE3.BUS k)
  if r.started ∨ (s.tl.rffe.busy.getD b none).isSome then (r, s)
  else
    let s := s.setRffe (fun x => { x with busy := x.busy.set b (some (s.tb + s.cmdTicks k)) })
    ({ r with started := true }, s.set (TIMELINE2.BUSY b) 1)

/-- Every waiting run, in order of its start, tries its command. -/
def State.rffeNext (s : State) : State :=
  let r := s.tl.rffe.runs.foldl (fun (a : List RffeRun × State) r =>
    let x := a.2.rffeIssue r
    (a.1 ++ [x.1], x.2)) ([], s)
  r.2.setRffe (fun x => { x with runs := r.1 })

/-- Sequence `q` is to start for octet `g` at `t`: it is checked as a whole, and not run while its first bus is busy. -/
def State.seqStart (s : State) (g q t : Nat) : State :=
  if q = 0 ∨ s.get (TIMELINE2.LEN q) = 0 then s
  else if s.seqBad q then s.dropAction g 6 t 3
  else if (s.tl.rffe.busy.getD (s.get (TIMELINE3.BUS (s.cmdIndex q 0))) none).isSome then s.dropAction g 6 t 4
  else (s.setRffe (fun x => { x with runs := x.runs ++ [⟨q, 0, g, false⟩] })).rffeNext

def execTlRffe (g : Nat) (s : State) : Out := .next (s.runEntry g 6 (fun e s => s.seqStart g (e.arg % 16) e.t))

/-- A TRIG action: TRIGOUT stays high until the latest end. -/
def State.tlTrig (s : State) (e : QEntry) : State :=
  let stop := s.aoAt e.t + max 16 (e.arg % 2 ^ 16)
  { s with tl := { s.tl with trigEnd := some (match s.tl.trigEnd with | some x => max x stop | none => stop) } }

def execTlTrig (g : Nat) (s : State) : Out := .next (s.runEntry g 7 (fun e s => s.tlTrig e))

/-- A window ends on a path. -/
def State.windowEnd (s : State) (n : Nat) : State :=
  match (s.path n).win with
  | some e => if e ≤ s.tb then (s.setPath n (fun p => { p with win := none })).goPath n e (s.setState n e) else s
  | none => s

def execWindowEnd (n : Nat) (s : State) : Out := .next (s.windowEnd n)

/-- A ONESHOT duration ends on a path, which takes RET. -/
def State.oneshotEnd (s : State) (n : Nat) : State :=
  match (s.path n).shot with
  | some (e, q) => if e ≤ s.tb then (s.setPath n (fun p => { p with shot := none })).goPath n e q else s
  | none => s

def execOneshotEnd (n : Nat) (s : State) : Out := .next (s.oneshotEnd n)

def State.trigoutEnd (s : State) : State :=
  match s.tl.trigEnd with
  | some e => if e ≤ s.ao ∧ s.onEdge then { s with tl := { s.tl with trigEnd := none } } else s
  | none => s

def execTrigoutEnd (s : State) : Out := .next s.trigoutEnd

/-- The state that the pattern or the mode will set for a path at `t`, with a mode change that is decided (R230). -/
def State.comingState (s : State) (n t : Nat) : PState :=
  match s.trans with
  | some x =>
    if s.mode = 5 ∧ x.target ≠ 5 ∧ s.isBoundary t then modeState x.target
    else if s.mode ≠ 5 ∧ x.target = 5 ∧ s.isPatternStart t ∧ 2048 ≤ interval x.reqAt t then s.patternState n t
    else s.setState n t
  | none => s.setState n t

/-- The state that a path will take by a transition scheduled at `t`, as far as it is known (R230). -/
def State.knownState (s : State) (n t : Nat) : PState :=
  let p := s.path n
  if p.st == .turn && p.t1 == s.aoAt t then p.tgt
  else match (s.oct (n / 8)).queue.find? (fun e => e.t == t && decide (1 ≤ e.code ∧ e.code ≤ 3) && bitOf e.mask (n % 8)) with
  | some e => PState.ofCode e.st
  | none =>
    if p.win = some t ∨ (s.trans.isSome ∧ s.isBoundary t) ∨ (p.win = none ∧ s.mode = 5) then s.comingState n t
    else match p.shot with
      | some (e, q) => if e = t then q else if p.st == .turn then p.left else p.st
      | none => if p.st == .turn then p.left else p.st

/-- A state at the transmit level (R216). -/
def State.txLevel (s : State) (g : Nat) (q : PState) : Bool :=
  match q with
  | .tx | .obs | .sndTx => true
  | .cal => s.on (OCTET.TRSW_CAL g)
  | _ => false

/-- The turn-round at `t` changes TRSWg to the level `tx`. -/
def State.trswChanges (s : State) (g t : Nat) (tx : Bool) : Bool :=
  let ps := (octPaths g).filter (fun n => s.operational n)
  let before := ps.any (fun n => let p := s.path n; s.txLevel g (if p.st == .turn then p.left else p.st))
  let after := ps.any (fun n => s.txLevel g (s.knownState n t))
  before != tx && after == tx

/-- The RFFE sequence of an octet starts, once, for the turn-round at `t`, at t + 1,280 - LEAD. -/
def State.rffeStart (s : State) (g t : Nat) (tx : Bool) : State :=
  let q := s.get (if tx then OCTET.RFFE_TX_SEQ g else OCTET.RFFE_RX_SEQ g)
  let lead := s.get (if tx then OCTET.RFFE_TX_LEAD g else OCTET.RFFE_RX_LEAD g)
  if s.trswChanges g t tx ∧ t + 1280 ≤ s.tb + lead ∧ (s.oct g).rffeFor ≠ some (t, tx) then
    (s.setOct g (fun o => { o with rffeFor := some (t, tx) })).seqStart g q (t + 1280 - lead)
  else s

def execRffeSequenceStart (g t : Nat) (tx : Bool) (s : State) : Out := .next (s.rffeStart g t tx)

/-- The command on bus `b` completes; a Register Read returns `data`, with `perr` where its parity is wrong. -/
def State.rffeDone (s : State) (b data : Nat) (perr : Bool) : State :=
  match s.tl.rffe.busy.getD b none with
  | none => s
  | some e =>
    if s.tb < e then s
    else match s.tl.rffe.runs.find? (fun r => r.started && s.get (TIMELINE3.BUS (s.cmdIndex r.seq r.idx)) == b) with
      | none => (s.setRffe (fun x => { x with busy := x.busy.set b none })).set (TIMELINE2.BUSY b) 0
      | some r =>
        let k := s.cmdIndex r.seq r.idx
        let s := (s.setRffe (fun x => { x with busy := x.busy.set b none })).set (TIMELINE2.BUSY b) 0
        let s := if s.get (TIMELINE3.TYPE k) = 1 then
            let s := (s.set (TIMELINE2.RD_VALID b) 1).set (TIMELINE2.RD_PERR b) (if perr then 1 else 0)
            let s := (s.set (TIMELINE2.RD_USID b) (s.get (TIMELINE3.USID k))).set (TIMELINE2.RD_ADDR b) (s.get (TIMELINE3.ADDR k))
            let s := (s.set (TIMELINE2.RD_DATA b) data).raise 0x0A8 EV.TIMELINE0.RFFE_READ
            if perr then s.raise 0x0A8 EV.TIMELINE0.RFFE_PERR else s
          else s
        let last := decide (s.get (TIMELINE2.LEN r.seq) ≤ r.idx + 1)
        let s := s.setRffe (fun x => { x with runs := x.runs.filterMap (fun y =>
          if y = r then (if last then none else some { y with idx := y.idx + 1, started := false }) else some y) })
        s.rffeNext

def execRffeCommandDone (b data : Nat) (perr : Bool) (s : State) : Out := .next (s.rffeDone b data perr)

/-! ### Lane sleep (R231, R232, R261 to R264) -/

def State.lane (s : State) (ds : Bool) : LaneSleep := if ds then s.tl.ds else s.tl.us
def State.setLane (s : State) (ds : Bool) (f : LaneSleep → LaneSleep) : State :=
  if ds then { s with tl := { s.tl with ds := f s.tl.ds } } else { s with tl := { s.tl with us := f s.tl.us } }

/-- The power state of a direction: 0 awake, 1 waking, 2 light sleep, 3 deep sleep. -/
def State.lanePwr (s : State) (ds : Bool) : Nat := s.get (if ds then TIMELINE0.DS_STATE else TIMELINE0.US_STATE)
def State.setLanePwr (s : State) (ds : Bool) (v : Nat) : State :=
  if ds then (s.set TIMELINE0.DS_STATE v).set LINK.DS_PWR v else (s.set TIMELINE0.US_STATE v).set LINK.US_PWR v

/-- The pattern's stretches of a path from the boundary `b` on, over `k` slots, as (start, end, state). -/
def State.patternRuns (s : State) (n : Nat) : Nat → Nat → List (Nat × Nat × PState)
  | _, 0 => []
  | b, k + 1 =>
    let q := s.patternState n b
    let split := b + 16 * s.get (OCTET.SPLIT_OFS (n / 8))
    let here := if s.get (OCTET.TYPE (n / 8) (s.slotIndex b)) = 3
      then [(b, split, q), (split, b + slotTicks, .rx)] else [(b, b + slotTicks, q)]
    here ++ State.patternRuns s n (b + slotTicks) k

/-- The stretches in which the wanted state is settled: a stretch after another class starts 1,280 ticks late. -/
def settledRuns (want : PState → Bool) : PState → List (Nat × Nat × PState) → List (Nat × Nat)
  | _, [] => []
  | prev, (a, b, q) :: t =>
    (if want q then [(if prev.group = q.group then a else a + 1280, b)] else []) ++ settledRuns want q t

/-- Stretches without the interval `w`. -/
def cutRuns (w : Nat × Nat) (l : List (Nat × Nat)) : List (Nat × Nat) :=
  l.flatMap (fun r => [(r.1, min r.2 w.1), (max r.1 w.2, r.2)].filter (fun x => decide (x.1 < x.2)))

/-- The ticks of the turn-round between two states. -/
def turnTicks (a b : PState) : Nat := if a.group = b.group then 0 else 1280

/-- The stretches in which a path carries the samples of a direction: the pattern's, but for the windows that override it
(R222), the one in progress and those queued. -/
def State.carryRuns (s : State) (ds : Bool) (n : Nat) : List (Nat × Nat) :=
  let want : PState → Bool := fun q => if ds then q == .tx || q == .obs else q == .rx
  let p := s.path n
  let b := s.tb - s.inSlot s.tb
  let now := if p.st = .turn then p.tgt else p.st
  let cur := match p.win with
    | some e => [(0, e, now)]
    | none => []
  let queued := ((s.oct (n / 8)).queue.filter (fun e => e.code == 1 && bitOf e.mask (n % 8))).map
    (fun e => (e.t, e.t + 16 * (e.arg % 2 ^ 24), PState.ofCode e.st))
  let ws := cur ++ queued
  let base := ws.foldl (fun l w => cutRuns (w.1, w.2.1 + turnTicks w.2.2 (s.patternState n w.2.1)) l)
    (settledRuns want .off (s.patternRuns n (b - slotTicks) 23))
  base ++ (ws.filter (fun w => want w.2.2)).map (fun w => (w.1 + turnTicks (s.patternState n w.1) w.2.2, w.2.1))

/-- The intervals in which a direction is required awake, by its latency (R231). -/
def State.requiredRuns (s : State) (ds : Bool) : List (Nat × Nat) :=
  let l := 16 * s.get (if ds then ERL0.LAT_DL else ERL0.LAT_UL)
  let ps := allPaths.filter (fun n => if ds then s.act (txPage n) else s.act (rxPage n))
  (ps.flatMap (fun n => s.carryRuns ds n)).map (fun r =>
    if ds then (r.1 - (l + 256), r.2 - l + 256) else (r.1 + l - 256, r.2 + l + 256))

/-- The first tick at or after now at which the direction is required, if any is known. -/
def State.nextRequired (s : State) (ds : Bool) : Option Nat :=
  (((s.requiredRuns ds).filter (fun r => decide (s.tb < r.2 ∧ r.1 < r.2))).map (fun r => max r.1 s.tb)).min?

/-- What the timeline asks for: 0 awake, 2 light sleep, 3 deep sleep; none where it asks for nothing. -/
def State.timelineSleep (s : State) (ds : Bool) : Option Nat :=
  if s.on TIMELINE0.AUTO_EN = false ∨ s.mode ≠ 5 then none
  else
    let gap := match s.nextRequired ds with | some t => t - s.tb | none => 2 ^ 32
    if gap < 256 * s.get TIMELINE0.SLEEP_MIN ∨ gap = 0 then some 0
    else if s.on TIMELINE0.DEEP_EN ∧ 4096 * s.get TIMELINE0.DEEP_MIN ≤ gap then some 3 else some 2

/-- What an ERL SLEEP message asks for. -/
def State.erlSleep (s : State) (ds : Bool) : Option Nat :=
  match (s.lane ds).erl with
  | some (d, f, u) => if f ≤ s.tb ∧ (u = 0 ∨ s.tb < u) then some (d + 1) else none
  | none => none

/-- What DS_FORCE or US_FORCE asks for, outside M5. -/
def State.forceSleep (s : State) (ds : Bool) : Option Nat :=
  let f := s.get (if ds then LINK.DS_FORCE else LINK.US_FORCE)
  if s.mode = 5 ∨ f = 0 ∨ f = 3 then none else some (f + 1)

/-- A checker, generator or loop-back of the direction is enabled (R262). -/
def State.laneTest (s : State) (ds : Bool) : Bool :=
  s.on LINK.LOOP || (List.range 16).any (fun k => s.on (if ds then DS.CHK_EN k else US.GEN_EN k))

/-- The power state that the sources ask for (R262): awake while one requires it or none asks for sleep, else the
shallowest sleep asked for. -/
def State.laneWant (s : State) (ds : Bool) : Nat :=
  let asks := [s.timelineSleep ds, s.erlSleep ds, s.forceSleep ds].filterMap id
  if s.laneTest ds ∨ (s.lane ds).failed ∨ s.tb < (s.lane ds).holdUntil then 0
  else (asks.min?).getD 0

def State.laneSleepEnter (s : State) (ds : Bool) : State :=
  let w := s.laneWant ds
  if s.lanePwr ds = 0 ∧ 2 ≤ w then
    -- deep sleep does not hold block lock (R261)
    let s := if ds ∧ w = 3 then ((List.range 16).foldl (fun s k => s.set (DS.BLOCK_LOCK k) 0) s).set LINK.DS_BLOCK_LOCK 0 else s
    (s.setLanePwr ds w).setLane ds (fun l => { l with entryEnd := s.tb + 32 })
  else s

def execLaneSleepEnter (ds : Bool) (s : State) : Out := .next (s.laneSleepEnter ds)

/-- The wake begins: from light sleep it lasts 118 ticks, from deep sleep 7,864, and not before sleep entry ends. -/
def State.laneWake (s : State) (ds : Bool) : State :=
  let p := s.lanePwr ds
  if 2 ≤ p then
    (s.setLanePwr ds 1).setLane ds (fun l => { l with wakeEnd := max s.tb l.entryEnd + (if p = 3 then 7864 else 118) })
  else s

def State.laneWakeStart (s : State) (ds : Bool) : State :=
  let lead := if s.lanePwr ds = 3 then 8192 else 128
  let soon := match s.nextRequired ds with | some t => decide (t ≤ s.tb + lead) | none => false
  let timeline := s.mode == 5 && s.on TIMELINE0.AUTO_EN && soon
  if timeline ∨ s.laneWant ds = 0 then s.laneWake ds else s

def execLaneWakeStart (ds : Bool) (s : State) : Out := .next (s.laneWakeStart ds)

def State.laneAwake (s : State) (ds : Bool) : State :=
  if s.lanePwr ds = 1 ∧ (s.lane ds).wakeEnd ≤ s.tb then s.setLanePwr ds 0 else s

def execLaneAwake (ds : Bool) (s : State) : Out := .next (s.laneAwake ds)

/-- A wake request: an ERL request or a signal on DS0, or for the upstream lanes a waiting EVT message with EVT_WAKE
(`evt`). The direction is awake for 2,048 ticks after the wake. -/
def State.laneWakeRequest (s : State) (ds evt : Bool) : State :=
  if evt ∧ (ds ∨ s.on TIMELINE0.EVT_WAKE = false ∨ s.evtQ = []) then s
  else if 2 ≤ s.lanePwr ds then
    let s := s.laneWake ds
    s.setLane ds (fun l => { l with holdUntil := l.wakeEnd + 2048 })
  else s

def execLaneWakeRequest (ds evt : Bool) (s : State) : Out := .next (s.laneWakeRequest ds evt)

/-- A downstream lane in use lacks block lock when the wake time has run out. -/
def State.wakeFail (s : State) : State :=
  let missing := (List.range 16).any (fun k => s.act (0x0B8 + k) && !s.on (DS.BLOCK_LOCK k))
  if s.lanePwr true = 1 ∧ s.tl.ds.wakeEnd ≤ s.tb ∧ missing then
    let s := (s.setLanePwr true 0).setLane true (fun l => { l with failed := true })
    (s.count LINK.WAKE_FAIL_CNT).raise 0x0B0 EV.LINK.WAKE_FAIL
  else s

def execWakeFail (s : State) : Out := .next s.wakeFail

/-- A commit of an OCTET page (R210, R212): PAT_LOADED, and PAT_BAD where a reserved type is in force. -/
def State.octCommitted (s : State) (g : Nat) : State :=
  let s := s.set (OCTET.PAT_LOADED g) 1
  if (List.range 20).any (fun k => decide (4 ≤ s.get (OCTET.TYPE g k))) then s.raise (0x090 + g) EV.OCTET.PAT_BAD else s

end Sys2Proof.Machine
end

