-- ==== Sys2Proof/Machine/Lanes.lean ====
section
/-! DEFINITION. Lanes and forwarded clocks (11): block lock, crossing buffers, the eye monitor and tracking, checkers and
error injection. Downstream lane `n` is of group `n / 8`. -/

namespace Sys2Proof.Machine

def dsPage (n : Nat) : Nat := 0x0B8 + n
def usPage (n : Nat) : Nat := 0x0C8 + n
def ckPage (k : Nat) : Nat := 0x0B4 + k

/-- The downstream lanes of a group. -/
def groupLanes (g : Nat) : List Nat := (List.range 8).map (fun i => 8 * g + i)

/-- The direction is awake: 0 in DS_PWR or US_PWR (R261). -/
def State.awake (s : State) (ds : Bool) : Bool := s.lanePwr ds == 0

/-! ### Block lock (R250, R251) -/

def State.setLock (s : State) (n v : Nat) : State :=
  let m := s.get LINK.DS_BLOCK_LOCK
  (s.set (DS.BLOCK_LOCK n) v).set LINK.DS_BLOCK_LOCK (if v = 1 then setBit m n else clearBit m n)

/-- A lane loses block lock; while its direction sleeps nothing is raised (R261). -/
def State.laneLoss (s : State) (n : Nat) : State :=
  if s.on (DS.BLOCK_LOCK n) then
    let s := s.setLock n 0
    if s.awake true then (s.raise (dsPage n) EV.DS.BLOCK_LOSS).raise 0x0B0 EV.LINK.BLOCK_LOSS else s
  else s

def State.lanesLoss (s : State) (ns : List Nat) : State := ns.foldl (fun s n => s.laneLoss n) s

/-- A crossing buffer reaches 0 or 16: it is re-centred at 8 words and its group loses block lock. -/
def State.crossSlip (s : State) (g : Nat) : State :=
  if s.act (ckPage g) then ((s.set (CK.CROSS_FILL g) 8).raise (ckPage g) EV.CK.CROSS_SLIP).lanesLoss (groupLanes g) else s

def execCrossSlip (g : Nat) (s : State) : Out := .next (s.crossSlip g)

/-- A clock lane (0, 1 DSCK; 2, 3 USCK) has no transition for 64 ticks while its direction is awake. -/
def State.clkLoss (s : State) (k : Nat) : State :=
  let ds := decide (k < 2)
  if s.act (ckPage k) && s.awake ds then
    let s := (s.set (CK.CLK_PRESENT k) 0).raise (ckPage k) EV.CK.CLK_LOSS
    if ds then s.lanesLoss (groupLanes k) else s
  else s

def execClkLoss (k : Nat) (s : State) : Out := .next (s.clkLoss k)

/-- A downstream forwarded clock starts toggling (R260); `dev` is its offset from REFCLK as measured, in 0.01 ppm (R250). -/
def State.dsckPresent (s : State) (k : Nat) (dev : Int) : State :=
  if k < 2 then (s.set (CK.CLK_PRESENT k) 1).seti (CK.FREQ_DEV k) dev else s

def execDsckPresent (k : Nat) (dev : Int) (s : State) : Out := .next (s.dsckPresent k dev)

/-- 64 valid sync headers in a row. -/
def State.blockLock (s : State) (n : Nat) : State :=
  if s.act (dsPage n) && s.act (ckPage (n / 8)) && s.on LPLL.READY && decide (s.lanePwr true ≤ 1) && !s.on (DS.BLOCK_LOCK n) then
    ((s.set (CK.CLK_PRESENT (n / 8)) 1).setLock n 1).raise (dsPage n) EV.DS.BLOCK_LOCK
  else s

def execBlockLock (n : Nat) (s : State) : Out := .next (s.blockLock n)

/-- 16 invalid headers within 64; with its checker off an awake lane counts invalid headers (R253). -/
def State.blockLoss (s : State) (n : Nat) : State :=
  if s.act (dsPage n) && s.awake true then
    (if s.on (DS.CHK_EN n) then s else s.count (DS.HDR_ERR_CNT n) 16).laneLoss n
  else s

def execBlockLoss (n : Nat) (s : State) : Out := .next (s.blockLoss n)

/-- The upstream lane queue is empty at a release tick (R13): the window that it was to release goes marked invalid. -/
def State.usUnderflow (s : State) : State :=
  { s.count LINK.US_UFL_CNT with lanes := { s.lanes with lost := true } }.raiseLog 2 0x0B0 EV.LINK.US_UNDERFLOW

def execUsUnderflow (s : State) : Out := .next s.usUnderflow

/-! ### Electrical state (R259, R261) -/

/-- The output of upstream data lane `n`, or of USCK 16 + k, is at electrical idle: until its ACT is 1, a data lane while its
direction sleeps, and a clock lane in deep sleep. -/
def State.usIdle (s : State) (n : Nat) : Bool :=
  if n < 16 then !s.act (usPage n) || decide (2 ≤ s.lanePwr false)
  else !s.act (ckPage (n - 14)) || s.lanePwr false == 3

/-- The inputs of the downstream lanes and clocks present their termination: while VCNV is there. -/
def State.dsTerminated (s : State) : Bool := s.pwr.vcnv

/-! ### Alignment (R252 to R254) -/

/-- Bits of the lane rate per tick (R248). -/
def State.uiPerTick (s : State) : Nat := [10, 15, 25, 30].getD (s.get LPLL.RATE) 10

/-- The sampling phase of a lane: one step towards DESKEW every 64 UI. -/
def State.phaseNow (s : State) (n : Nat) : Nat :=
  let p := s.lanes.phase.getD n (64, 0)
  let d := s.get (DS.DESKEW n)
  let k := (s.ao - p.2) * s.uiPerTick / 64
  if p.1 ≤ d then min d (p.1 + k) else max d (p.1 - k)

/-- DESKEW takes a value; the phase moves towards it from where it is. -/
def State.deskew (s : State) (n v : Nat) : State :=
  { s with lanes := { s.lanes with phase := s.lanes.phase.set n (s.phaseNow n, s.ao) } }.set (DS.DESKEW n) v

/-- DESKEW jumps by 64 with BIT_POS, so that the phase is where it was, one UI on. -/
def State.deskewJump (s : State) (n v b : Nat) : State :=
  let s := ((s.set (DS.DESKEW n) v).set (DS.BIT_POS n) (b % 66)).raise (dsPage n) EV.DS.TRACK_WRAP
  { s with lanes := { s.lanes with phase := s.lanes.phase.set n (v, s.ao) } }

def State.bitslip (s : State) (n : Nat) : State := s.set (DS.BIT_POS n) ((s.get (DS.BIT_POS n) + 1) % 66)

/-- One tracking step: past an end DESKEW jumps by 64 the other way, and BIT_POS moves by one bit (log entry 11). -/
def State.trackStep (s : State) (n : Nat) (later : Bool) : State :=
  let d := s.get (DS.DESKEW n)
  let b := s.get (DS.BIT_POS n)
  if later ∧ d = 127 then s.deskewJump n 63 (b + 1)
  else if later = false ∧ d = 0 then s.deskewJump n 64 (b + 65)
  else s.deskew n (if later then d + 1 else d - 1)

/-- The eye monitor publishes every 2^20 ticks. -/
def State.eyePublish (s : State) (n left right : Nat) : State :=
  if s.act (dsPage n) && s.awake true && s.tb % 2 ^ 20 == 0 then
    let m := min 255 (left + right)
    let s := ((s.set (DS.EYE_LEFT n) left).set (DS.EYE_RIGHT n) right).set (DS.EYE_MARGIN n) m
    let s := s.set (DS.EYE_MIN_SEEN n) (min m (s.get (DS.EYE_MIN_SEEN n)))
    let s := if m < s.get LINK.EYE_MIN then (s.raise (dsPage n) EV.DS.EYE_LOW).raise 0x0B0 EV.LINK.EYE_LOW else s
    if s.on (DS.TRACK_EN n) && (decide (left + 4 ≤ right) || decide (right + 4 ≤ left)) then s.trackStep n (decide (left < right))
    else s
  else s

def execEyePublish (n left right : Nat) (s : State) : Out := .next (s.eyePublish n (trunc 8 left) (trunc 8 right))

/-! ### Checkers (R265, R266) -/

/-- BIT_CNT: the stored count and the bits compared since the checker synchronised. -/
def State.bitCount (s : State) (n : Nat) : Nat :=
  let base := s.get64 (DS.BIT_CNT_LO n) (DS.BIT_CNT_HI n)
  match s.lanes.syncAt.getD n none with
  | some t => (base + (s.ao - t) * s.uiPerTick) % 2 ^ 48
  | none => base

def State.setSync (s : State) (n : Nat) (t : Option Nat) : State :=
  { s with lanes := { s.lanes with syncAt := s.lanes.syncAt.set n t } }

/-- Stores the bits compared so far and starts counting anew, or stops. -/
def State.bitNote (s : State) (n : Nat) (go : Bool) : State :=
  (s.set64 (DS.BIT_CNT_LO n) (DS.BIT_CNT_HI n) (s.bitCount n)).setSync n (if go then some s.ao else none)

/-- Errors are counted while the checker is synchronised. -/
def State.addErrors (s : State) (n k : Nat) : State :=
  s.set64 (DS.ERR_CNT_LO n) (DS.ERR_CNT_HI n) ((s.get64 (DS.ERR_CNT_LO n) (DS.ERR_CNT_HI n) + k) % 2 ^ 48)

/-- The checker compares: enabled with a pattern on a lane that is on. -/
def State.checking (s : State) (n : Nat) : Bool :=
  s.act (dsPage n) && s.on (DS.CHK_EN n) && s.get (DS.PRBS_SEL n) != 0

def State.prbsSync (s : State) (n : Nat) : State :=
  if s.checking n && !s.on (DS.PRBS_SYNC n) then
    ((s.set (DS.PRBS_SYNC n) 1).setSync n (some s.ao)).raise (dsPage n) EV.DS.PRBS_SYNC
  else s

def execPrbsSync (n : Nat) (s : State) : Out := .next (s.prbsSync n)

/-- 32 of 64 compared bits are in error, after `errs` errors in all since the checker synchronised. -/
def State.prbsLoss (s : State) (n errs : Nat) : State :=
  if s.checking n && s.on (DS.PRBS_SYNC n) then
    (((s.addErrors n errs).bitNote n false).set (DS.PRBS_SYNC n) 0).raise (dsPage n) EV.DS.PRBS_LOSS
  else s

def execPrbsLoss (n errs : Nat) (s : State) : Out := .next (s.prbsLoss n errs)

/-- A checker is switched off: it stops counting. -/
def State.checkerOff (s : State) (n : Nat) : State := ((s.bitNote n false).set (DS.PRBS_SYNC n) 0)

def State.cntClr (s : State) (n : Nat) : State :=
  let s := (s.bitNote n (s.on (DS.PRBS_SYNC n))).set64 (DS.ERR_CNT_LO n) (DS.ERR_CNT_HI n) 0
  s.set64 (DS.BIT_CNT_LO n) (DS.BIT_CNT_HI n) 0

/-! ### Injection (R267) -/

def State.setInj (s : State) (n k : Nat) : State := { s with lanes := { s.lanes with inj := s.lanes.inj.set n k } }

/-- Outside M5 an injection of `k` bits is pending; one that is pending already stands. -/
def State.inject (s : State) (n k : Nat) : State :=
  if s.mode = 5 ∨ s.lanes.inj.getD n 0 ≠ 0 then s else s.setInj n k

/-- The inverted bits have been sent; with LOOP the checker of the same lane counts them. -/
def State.injDone (s : State) (n : Nat) : State :=
  let k := s.lanes.inj.getD n 0
  if k = 0 ∨ s.act (usPage n) = false then s
  else
    let s := (s.setInj n 0).raise (usPage n) EV.US.INJ_DONE
    if s.mode = 7 ∧ s.on LINK.LOOP ∧ s.checking n ∧ s.on (DS.PRBS_SYNC n) then s.addErrors n k else s

def execInjDone (n : Nat) (s : State) : Out := .next (s.injDone n)

/-- Generators, checkers and LOOP cannot be enabled in M5, and LOOP only in M7: such a write leaves the field 0. While one is
enabled the link frames are not aligned. -/
def State.laneTestWritten (s : State) (l : Loc) (v : Nat) : State :=
  if v = 1 ∧ (s.mode = 5 ∨ (l = LINK.LOOP ∧ s.mode ≠ 7)) then s
  else
    let s := if v = 1 then (s.set l v).set ERL0.FRAME_ALIGNED 0 else s.set l v
    if v = 0 ∧ 0x0B8 ≤ l.page ∧ l.page < 0x0C8 then s.checkerOff (l.page - 0x0B8) else s

end Sys2Proof.Machine
end

