-- ==== Sys2Proof/Machine/AniBase.lean ====
section
/-! DEFINITION. What the broadcast receiver (14) shares with the clocks and the modes: its permission, its
synchronisation and the end of its measurement. -/

namespace Sys2Proof.Machine

def State.setBc (s : State) (f : AniSt → AniSt) : State := { s with bc := f s.bc }

/-- The conditions of R318. -/
def State.aniseAllowed (s : State) : Bool := decide (4 ≤ s.mode ∧ s.mode ≤ 7) && s.anisePermitted

/-- The measurement ends (R336). -/
def State.aniseLapse (s : State) : State :=
  { s with ani := { s.ani with ms := [], hist := [], passed := none } }.set BCAST2.MEAS_VALID 0

/-- Synchronisation ends. -/
def State.aniseUnsync (s : State) : State :=
  let s := ((s.set BCAST0.SYNC 0).set BCAST1.RDS_SYNC 0).set BCAST2.ENS_VALID 0
  s.setBc (fun b => { b with run := 0, bad := 0, div := 0, cal := none })

/-- Synchronisation is lost: SYNC_LOSS, and the search goes on (R322, R326). -/
def State.aniseSyncLoss (s : State) : State :=
  if s.on BCAST0.SYNC then
    (s.aniseUnsync.setBc (fun b => { b with lostAt := some s.ao })).raise 0x0E4 EV.BCAST0.SYNC_LOSS
  else s

/-- Loss of REFCLK stops Anise; the calibration is kept (R320). -/
def State.aniRefLoss (s : State) : State :=
  if s.act 0x0E4 then (s.aniseSyncLoss.aniseLapse).setBc (fun b => { b with locked := false }) else s

/-- The conditions of R318 are judged again: EN = 1 without them is refused once, and shuts an operational Anise down
with EN unchanged. The enable sequence holds the front-end calibration, for which the quality readings are held (R321). -/
def State.aniseGate (s : State) : State :=
  if s.on (HDR.EN 0x0E4) = false then s.set BCAST0.NOT_PERMITTED 0
  else if s.aniseAllowed then
    let s := s.set BCAST0.NOT_PERMITTED 0
    if s.act 0x0E4 ∨ s.seqOf 0x0E4 ≠ 0 then s
    else ((s.startSeq 0x0E4 1).set BCAST0.QUAL_STALE 1).set (HDR.STALE 0x0E4) 1
  else
    let s := s.forceShut 0x0E4
    if s.on BCAST0.NOT_PERMITTED then s else (s.set BCAST0.NOT_PERMITTED 1).raise 0x0E4 EV.BCAST0.NOT_PERMITTED

end Sys2Proof.Machine
end

