-- ==== Sys2Proof/Machine/Clocks.lean ====
section
/-! DEFINITION. REFCLK, the four loops, the time base, its steps and loads, TSYNC and the sources of network time
(03). -/

namespace Sys2Proof.Machine

/-! ### Network time (R89) -/

/-- The sources' measurements in order of preference: value in 1/256 tick and frequency error, where valid. TIM holds
for 1 s, Cumin for 10 s, Anise for 1 s after the last frame that passed its gate. -/
def State.sources (s : State) : List (Option (Int × Int)) :=
  let fresh := fun (t d : Nat) => decide (s.tb < t + d)
  [ (match s.tim.meas with | some (v, t) => if fresh t 983040000 then some (v, s.tim.freq) else none | none => none),
    (match s.cum.meas with | some (v, t) => if fresh t 9830400000 then some (v, s.cum.freq) else none | none => none),
    (match s.ani.passed with
      | some t => if fresh t 983040000 then some (s.ani.val, s.ani.freq) else none
      | none => none) ]

/-- The first source that is enabled and valid: 1 TIM, 2 Cumin, 3 Anise, 0 none. -/
def State.activeSource (s : State) : Nat :=
  ([1, 2, 3].find? (fun k => bitOf (s.get TIMEBASE.TSRC_EN) (k - 1) && (s.sources.getD (k - 1) none).isSome)).getD 0

/-- SRC_ACT, NET_OFFSET and FREQ_ERR follow the sources; SRC_CHANGE on a change of source. Without TIM or Cumin a calibration
run of Anise is abandoned (R334). -/
def State.selectSource (s : State) : State :=
  let k := s.activeSource
  let old := s.get TIMEBASE.SRC_ACT
  let (v, f) := if k = 0 then (0, 0) else (s.sources.getD (k - 1) none).getD (0, 0)
  let s := ((s.set TIMEBASE.SRC_ACT k).seti TIMEBASE.NET_OFFSET v).seti TIMEBASE.FREQ_ERR f
  let s := if k = 1 ∨ k = 2 then s else s.setBc (fun b => { b with go := false, cal := none })
  if k = old then s else s.raise 0x008 EV.TIMEBASE.SRC_CHANGE

/-- A least-squares slope of v against t over the history, times 10^11 and negated (0.01 ppb; positive is fast). Its
rounding is open, so one more may be added by a free bit (log entry 9). -/
def slopeErr (h : List (Nat × Int)) (free : Nat) : Int :=
  let n : Int := h.length
  let sx := (h.map (fun e => (e.1 : Int))).foldl (· + ·) 0
  let sy := (h.map (fun e => e.2)).foldl (· + ·) 0
  let sxx := (h.map (fun e => (e.1 : Int) * e.1)).foldl (· + ·) 0
  let sxy := (h.map (fun e => (e.1 : Int) * e.2)).foldl (· + ·) 0
  let d := n * sxx - sx * sx
  if d = 0 then 0 else -((n * sxy - sx * sy) * 100000000000) / d + (free % 2 : Nat)

/-- A step or load ends every measurement taken against the count before it (R89). -/
def State.endMeasures (s : State) : State :=
  { s with
    tim := {}
    cum := {}
    snd := { s.snd with own := [], hist := [] } }.aniseLapse.selectSource

/-! ### Loops (R66 to R81) -/

/-- The page of loop k, and its status fields. -/
def loopPage (k : Nat) : Nat := 0x004 + k
def Loop.LOCKED (k : Nat) : Loc := if k = 0 then CPLL.LOCKED else if k = 3 then LPLL.LOCKED else LO.LOCKED (k - 1)
def Loop.MUTED (k : Nat) : Loc := if k = 0 then CPLL.MUTED else if k = 3 then LPLL.MUTED else LO.MUTED (k - 1)
def Loop.BAND_FAIL (k : Nat) : Loc := if k = 0 then CPLL.BAND_FAIL else if k = 3 then LPLL.BAND_FAIL else LO.BAND_FAIL (k - 1)
def Loop.BAND (k : Nat) : Loc := if k = 0 then CPLL.BAND else if k = 3 then LPLL.BAND else LO.BAND (k - 1)
def Loop.LOL_CNT (k : Nat) : Loc := if k = 0 then CPLL.LOL_CNT else if k = 3 then LPLL.LOL_CNT else LO.LOL_CNT (k - 1)
def evLOCK : Nat := 0
def evLOL : Nat := 1
def evBAND_FAIL : Nat := 2

def State.loop (s : State) (k : Nat) : LoopPhase := s.clk.loops.getD k .off
def State.setLoop (s : State) (k : Nat) (p : LoopPhase) : State := { s with clk := { s.clk with loops := s.clk.loops.set k p } }
def State.setLost (s : State) (k : Nat) (b : Bool) : State := { s with clk := { s.clk with lost := s.clk.lost.set k b } }

/-- The count of comparisons of a loop starts at 0 (R66). -/
def State.countFrom (s : State) (k : Nat) : State := { s with clk := { s.clk with loopAt := s.clk.loopAt.set k s.ao } }

/-- Ticks of one phase comparison (R64). -/
def State.cmpTicks (s : State) : Nat := if s.clk.lowPfd then 16 else 8

/-- `n` comparisons have passed since the count of a loop started. -/
def State.compared (s : State) (k n : Nat) : Bool := decide (s.clk.loopAt.getD k 0 + n * s.cmpTicks ≤ s.ao)

/-- Outputs muted and consumers on the bypass clock. -/
def State.loopMute (s : State) (k : Nat) : State :=
  let s := ((s.set (Loop.LOCKED k) 0).set (Loop.READY k) 0).set (Loop.MUTED k) 1
  if k = 0 then s.set CPLL.BYPASS 1 else s

/-- Step 1 of R76: the loop mutes and its band search starts. -/
def State.loopStart (s : State) (k : Nat) : State := ((s.loopMute k).setLoop k .search).countFrom k

/-- Shut-down of a loop. -/
def State.loopStop (s : State) (k : Nat) : State := ((s.loopMute k).setLoop k .off).setLost k false

/-- An LO's fVCO lies within 7,200 to 14,400 MHz (R71); both sides in units of 10 kHz / 2^24. -/
def State.vcoInRange (s : State) (k : Nat) : Bool :=
  if k = 0 ∨ k = 3 then true
  else
    let f := s.fpfd * (s.get (LO.NINT (k - 1)) * 2 ^ 24 + s.get (LO.FRAC (k - 1)))
    decide (720000 * 2 ^ 24 ≤ f ∧ f ≤ 1440000 * 2 ^ 24)

/-- The octets that a loop serves, as a mask: the LPLL serves none. -/
def State.loopOctets (s : State) (k : Nat) : Nat :=
  let a := s.get (LO.LO_ASSIGN 0)
  if k = 0 then 0xFF else if k = 1 then 0xFF - a else if k = 2 then a else 0

/-- 256 comparisons inside the window: lock is declared, at the earliest when so many have passed. The band found is a free
value from 0 to 63. -/
def State.lockLoop (s : State) (k : Nat) : State :=
  if s.loop k = .search ∧ s.on CPLL.REF_OK ∧ s.vcoInRange k ∧ s.compared k 256 then
    let (b, s) := s.freeNat
    let s := ((s.setLoop k .locked).countFrom k).set (Loop.LOCKED k) 1
    let s := (s.set (Loop.BAND_FAIL k) 0).set (Loop.BAND k) (b % 64)
    s.raise (loopPage k) evLOCK
  else s

/-- The rest of the slot is suppressed for the paths that the loop serves (R80, R81, R226). -/
def State.loopSuppress (s : State) (k : Nat) : State :=
  allPaths.foldl (fun s n =>
    if bitOf (s.loopOctets k) (n / 8) ∧ (s.path n).drv then s.checkReady n (s.path n).st else s) s

/-- The LO phase calibration starts when LOA or LOB becomes READY in M4, M5 or M6 (R237). -/
def State.loPhaseStart (s : State) (k : Nat) : State :=
  if (k = 1 ∨ k = 2) ∧ s.on CAL0.LOPH_AUTO ∧ 4 ≤ s.mode ∧ s.mode ≤ 6 then
    let s := { s with clk := { s.clk with loCal := s.clk.loCal.set (k - 1) (some s.tb) } }
    allPaths.foldl (fun s n => if bitOf (s.loopOctets k) (n / 8) then s.rxInvalid n (s.ao + 40960) else s) s
  else s

/-- The phase calibration of an LO in progress is void, and so are the measurements in progress on the paths that a
loop serves (10). -/
def State.calVoid (s : State) (k : Nat) : State :=
  let s := if (s.clk.loCal.getD (k - 1) none).isSome ∧ (k = 1 ∨ k = 2) then
      let s := { s with clk := { s.clk with loCal := s.clk.loCal.set (k - 1) none } }
      (List.range 8).foldl (fun s g => if bitOf (s.loopOctets k) g then s.calFail 5 9 (8 * g) else s) s
    else s
  s.cal.fg.foldl (fun (s : State) e =>
    if e.2 ≠ 0 ∧ bitOf (s.loopOctets k) (e.1 / 8) then s.calFail 5 (((List.range 12).find? (fun j => bitOf e.2 j)).getD 0) e.1
    else s) s

/-- 64 further comparisons have passed since lock: READY, and after a loss of lock a LOOP_READY message (R80, R291). -/
def State.loopReady (s : State) (k : Nat) : State :=
  if s.loop k = .locked ∧ s.compared k 64 then
    let s := ((s.setLoop k .ready).set (Loop.READY k) 1).set (Loop.MUTED k) 0
    let s : State := { s with clk := { s.clk with readyAt := s.clk.readyAt.set k s.ao } }
    let s := (if k = 0 then s.set CPLL.BYPASS 0 else s).loPhaseStart k
    let s := if k = 1 ∨ k = 2 then s.loopSuppress k else s
    if s.clk.lost.getD k false then (s.setLost k false).queueEvt (.status 2 (k * 2 ^ 8 + s.loopOctets k) s.tb) else s
  else s

def execLoopReady (k : Nat) (s : State) : Out := .next (s.loopReady k)

/-- An LO frequency is not permitted (R421). -/
def State.limitLo (s : State) : State := (s.count SECURITY.LIMIT_LO_CNT).raise 0x002 EV.SECURITY.LIMIT_LO

/-- The CPLL is about to lose READY: the modulators that have started have started (R116, R153). -/
def State.noteModulators (s : State) : State :=
  { s with seqMod := (chainPages.filter (fun pg => s.seqOf pg == 1)).foldl (fun m pg => m.put pg (s.modStart pg)) s.seqMod }

/-- Loss of lock of a loop that had declared it. -/
def State.lol (s : State) (k : Nat) : State :=
  match s.loop k with
  | .ready =>
    let s := if k = 0 then s.noteModulators else s
    let s := (s.loopStart k).setLost k true
    let s := (((s.count (Loop.LOL_CNT k)).raise (loopPage k) evLOL).loopSuppress k).calVoid k
    if k = 3 then s.lanesLoss (List.range 16) else s
  | .locked =>
    let s := ((s.setLoop k .search).countFrom k).set (Loop.LOCKED k) 0
    (s.count (Loop.LOL_CNT k)).raise (loopPage k) evLOL
  | _ => s

def execLol (k : Nat) (s : State) : Out := .next (s.lol k)

/-- A band search fails, or fVCO is out of range (R71). -/
def State.bandFail (s : State) (k : Nat) : State :=
  if s.loop k = .search then
    (((s.setLoop k .failed).set (Loop.BAND_FAIL k) 1).raise (loopPage k) evBAND_FAIL).raiseErr (loopPage k)
  else s

def execBandFail (k : Nat) (s : State) : Out := .next (s.bandFail k)

/-- The converter islands pass through the bypass sequence for one REFCLK edge (R70, R91): their outputs are muted and
their samples INVALID until the next edge (log entry 31). -/
def State.bypassEdge (s : State) : State := { s with clk := { s.clk with bypUntil := max s.clk.bypUntil (s.ao + s.inc) } }

/-- Steps 2 to 4 of R76 are in progress: a further commit of the page restarts them (R77). -/
def State.relocking (s : State) (k : Nat) : Bool := s.loop k == .search || s.loop k == .locked

/-- An octet that moves to the other LO while it transmits is muted for the rest of the slot (R74). -/
def State.octMoved (s : State) (g : Nat) : State :=
  let s := s.setOct g (fun o => { o with moved := true })
  if (octPaths g).all (fun n => (s.path n).st != .tx && (s.path n).st != .turn && (s.path n).st != .cal
      && (s.path n).st != .sndTx) then s
  else
    (octPaths g).foldl (fun s n =>
      if s.act (txPage n) = false ∨ (s.path n).wdr ∨ s.on (TXPATH.RETIRE n) then s
      else
        let c := s.suppCause n .tx
        (s.setPath n (fun p => { p with supp := c })).reportSupp g c) s

/-- What a commit of a loop's page does besides the swap (R70, R76, R82, R421): a changed frequency relocks, and one whose
fields keep their values does not (DESIGN CHOICE, log entry 59) but for a loop that is relocking; a frequency that the
record does not permit is not applied; a new LO assignment mutes the octets it moves (R74). -/
def State.loopCommitted (s old : State) (k : Nat) : State :=
  if k = 0 then s.bypassEdge
  else if k = 3 then
    if s.get LPLL.RATE = old.get LPLL.RATE then (if s.relocking 3 then s.loopStart 3 else s)
    else if s.mode = 5 then (s.set LPLL.RATE (old.get LPLL.RATE)).raise 0x0B0 EV.LINK.RATE_REFUSED
    else
      let s := s.lanesLoss (List.range 16)
      if s.loop 3 = .off then s else s.loopStart 3
  else
    let x := k - 1
    let changed := s.get (LO.NINT x) != old.get (LO.NINT x) || s.get (LO.FRAC x) != old.get (LO.FRAC x) ||
      s.get (LO.OUTDIV x) != old.get (LO.OUTDIV x)
    let khz := loKHz s.fpfd (s.get (LO.NINT x)) (s.get (LO.FRAC x)) (s.get (LO.OUTDIV x))
    let s :=
      if (changed || s.loop k == .held) && !s.loPermitted khz then
        (((s.set (LO.NINT x) (old.get (LO.NINT x))).set (LO.FRAC x) (old.get (LO.FRAC x))).set (LO.OUTDIV x)
          (old.get (LO.OUTDIV x))).limitLo
      else if (changed || s.loop k == .held || s.loop k == .failed || s.relocking k) && s.loop k != .off then s.loopStart k
      else s
    if k ≠ 1 then s
    else
      let moved := s.get (LO.LO_ASSIGN 0) ^^^ old.get (LO.LO_ASSIGN 0)
      (List.range 8).foldl (fun s g => if bitOf moved g then s.octMoved g else s) s

/-! ### REFCLK (R63, R82) -/

/-- REFCLK is lost, or toggles at a rate that is not recognised (`rate` 3 in either case). -/
def State.refLoss (s : State) : State :=
  let was := s.on CPLL.REF_OK
  let s := (s.set CPLL.REF_OK 0).set CPLL.REF_RATE 3
  if was = false then s
  else
    let s := s.raise 0x004 EV.CPLL.REF_LOSS
    let s := [0, 1, 2, 3].foldl (fun s k => s.lol k) s
    let s := { s with clk := { s.clk with resume := none } }.aniRefLoss.selectSource
    if s.tbRun then ((s.set TIMEBASE.REF_HOLD 1).set TIMEBASE.VALID 0).raise 0x008 EV.TIMEBASE.REF_HOLD else s

def execRefLoss (s : State) : Out := .next s.refLoss

/-- Ticks per REFCLK edge at a rate (R83). -/
def incOf (rate : Nat) : Nat := [16, 8, 4].getD rate 8

/-- REFCLK is at a recognised rate 0, 1 or 2. A change of rate without a gap counts as a loss and a return. A loop that searches
counts its comparisons from here; an LO whose fPFD changed stays unready until its next commit. -/
def State.refBack (s : State) (rate : Nat) : State :=
  if 3 ≤ rate then s.refLoss
  else
    let s := if s.on CPLL.REF_OK ∧ s.get CPLL.REF_RATE ≠ rate then s.refLoss else s
    if s.on CPLL.REF_OK then s
    else
      let low := rate == 0
      let changed := s.clk.lowPfd != low
      let s := ((s.set CPLL.REF_OK 1).set CPLL.REF_RATE rate).raise 0x004 EV.CPLL.REF_BACK
      let s := { s with clk := { s.clk with lowPfd := low } }
      let s := [0, 1, 2, 3].foldl (fun s k => if s.loop k = .search then s.countFrom k else s) s
      let s := if changed then [1, 2].foldl (fun s k => if s.loop k = .off then s else (s.loopMute k).setLoop k .held) s else s
      if s.on TIMEBASE.REF_HOLD then { s with clk := { s.clk with resume := some (incOf rate) } }
      else s.set TIMEBASE.INC (incOf rate)

def execRefBack (rate : Nat) (s : State) : Out := .next (s.refBack rate)

/-! ### Steps and loads (R88, R91, R92) -/

/-- Spans under way, of LO phase measurements, slews, RFFE commands and lane sleep, keep their lengths when the time base moves by `by_` ticks. -/
def State.spansMoved (s : State) (by_ : Int) : State :=
  let at_ := fun (t : Nat) => ((t : Int) + by_).toNat
  let lane := fun (l : LaneSleep) =>
    { l with entryEnd := at_ l.entryEnd, wakeEnd := at_ l.wakeEnd, holdUntil := at_ l.holdUntil }
  let s := { s with
    clk := { s.clk with loCal := s.clk.loCal.map (Option.map at_) }
    cal := { s.cal with
      slews := s.cal.slews.map (fun (x : SlewSt) => { x with at_ := at_ x.at_ })
      arrGood := []
      arrPend := [] } }
  let s : State := { s with erl := { s.erl with ulOld := none } }
  { s with tl := { s.tl with
    rffe := { s.tl.rffe with busy := s.tl.rffe.busy.map (Option.map at_) }
    ds := lane s.tl.ds
    us := lane s.tl.us } }

/-- The time base takes a new value: what was due before it is judged against it (R19, R88, R224), and the windows of the
monitor taps start anew on the new count. -/
def State.timeMoved (s : State) (new : Nat) : State :=
  let old := s.tb
  let s := (List.range 8).foldl (fun s k => s.capMoved ((new : Int) - old) k) s
  let s := { s with
    tb := new % 2 ^ 64
    trans := s.trans.map (fun (t : Transit) => { t with reqAt := (t.reqAt + new + (2 ^ 64 - old)) % 2 ^ 64 })
    commits := s.commits.map (fun (c : CommitSt) =>
      if c.immed ∨ c.late then { c with target := new + 1 }
      else if c.target < new then { c with target := new + 1, late := true } else c)
    clk := if s.mode = 4 then { s.clk with rxInvUntil := s.ao + 2048 } else s.clk
    taps := s.taps.map (fun (t : TapSt) => { t with since := new % 2 ^ 64 }) }
  (s.streamMoved ((new : Int) - old)).spansMoved ((new : Int) - old) |>.dropLate.endMeasures

/-- A TSYNC load at the recognising edge. Every loop that is relocking starts over, and an LO that is READY relocks
(R77). -/
def State.tsyncLoad (s : State) : State :=
  let preset := join64 (s.get TIMEBASE.PRESET_LO * 16) (s.get TIMEBASE.PRESET_HI)
  let refused := s.clk.stepGo
  let s := { s with clk := { s.clk with stepGo := false } }.timeMoved preset
  let s := (allPaths.foldl (fun s n => s.alignPath n s.ao) s).clearUp.bypassEdge
  let s := [0, 1, 2, 3].foldl (fun s k =>
    if s.relocking k || ((k == 1 || k == 2) && s.loop k == .ready) then s.loopStart k else s) s
  let s := (s.set64 TSYNC.LAST_TB_LO TSYNC.LAST_TB_HI preset).set TSYNC.MODE 2
  let s := (s.set TIMEBASE.VALID 1).raise 0x009 EV.TSYNC.LOADED
  if refused then s.raise 0x008 EV.TIMEBASE.STEP_REFUSED else s

/-- A check at the recognising edge. -/
def State.tsyncCheck (s : State) : State :=
  let preset := join64 (s.get TIMEBASE.PRESET_LO * 16) (s.get TIMEBASE.PRESET_HI)
  let period := s.get TSYNC.PERIOD * 16
  let d := if period = 0 then 0 else (((s.tb : Int) - preset) % (period : Int)).toNat
  let diff : Int := if 2 * d < period ∨ period = 0 then d else (d : Int) - period
  let s := (s.set64 TSYNC.LAST_TB_LO TSYNC.LAST_TB_HI s.tb).seti TSYNC.DIFF diff
  let s := s.raise 0x009 EV.TSYNC.CHECKED
  if diff = 0 then s else (s.count TSYNC.DIFF_ERRS).raise 0x009 EV.TSYNC.DIFF_ERR

/-- A pulse is recognised, at a rising REFCLK edge (R90): what it does follows MODE and, in M5, R92. -/
def State.tsyncPulse (s : State) : State :=
  if s.act 0x009 = false ∨ s.tbRun = false ∨ s.mode = 0 ∨ s.tb % s.inc ≠ 0 then s
  else
    let s := s.count TSYNC.PULSES
    let m := s.get TSYNC.MODE
    if m = 1 ∧ s.mode ≠ 5 then s.tsyncLoad
    else if m = 1 then s.tsyncCheck.raise 0x009 EV.TSYNC.LOAD_BLOCKED
    else if m = 2 then s.tsyncCheck
    else s

def execTsyncLoad (s : State) : Out := .next s.tsyncPulse
def execTsyncCheck (s : State) : Out := .next (if s.get TSYNC.MODE = 1 ∧ s.mode ≠ 5 then s else s.tsyncPulse)

/-- TSYNCO rises at the falling REFCLK edge, half a period after a rising edge at or after OUT_TB (R93). -/
def State.tsyncoPulse (s : State) : State :=
  let t := s.get64 TSYNC.OUT_TB_LO TSYNC.OUT_TB_HI
  if s.act 0x009 && s.on TSYNC.OUT_ARM && s.clk.tsynco.isNone && decide (t + s.inc / 2 ≤ s.tb) && s.tb % s.inc == s.inc / 2 then
    let w := max 2 (s.get TSYNC.OUT_WIDTH)
    { s with clk := { s.clk with tsynco := some (s.ao + w * s.inc) } }
  else s

def execTsyncoPulse (s : State) : Out := .next s.tsyncoPulse

/-- The pulse ends. -/
def State.outSent (s : State) : State :=
  match s.clk.tsynco with
  | some e =>
    if e ≤ s.ao then
      let s := { s with clk := { s.clk with tsynco := none } }
      let p := s.get TSYNC.PERIOD * 16
      let s := if s.on TSYNC.OUT_REPEAT ∧ p ≠ 0 then
          s.set64 TSYNC.OUT_TB_LO TSYNC.OUT_TB_HI (s.get64 TSYNC.OUT_TB_LO TSYNC.OUT_TB_HI + p)
        else s.set TSYNC.OUT_ARM 0
      s.raise 0x009 EV.TSYNC.OUT_SENT
    else s
  | none => s

def execOutSent (s : State) : Out := .next s.outSent

/-- A write of STEP_GO: in M5 the step is refused. -/
def State.stepGo (s : State) : State :=
  if s.mode = 5 then s.raise 0x008 EV.TIMEBASE.STEP_REFUSED else { s with clk := { s.clk with stepGo := true } }

/-- At the next REFCLK edge the step is added; in M5, entered since its request, it is refused. -/
def State.stepDone (s : State) : State :=
  if s.clk.stepGo ∧ s.mode = 5 then { s with clk := { s.clk with stepGo := false } }.raise 0x008 EV.TIMEBASE.STEP_REFUSED
  else if s.clk.stepGo ∧ s.tbRun ∧ s.tb % s.inc = 0 then
    let v : Int := toSigned 28 (s.get TIMEBASE.STEP_VAL) * 16
    let s := { s with clk := { s.clk with stepGo := false } }
    let s := s.timeMoved (((s.tb : Int) + v) % (2 ^ 64 : Nat)).toNat
    (s.set TIMEBASE.VALID 1).raise 0x008 EV.TIMEBASE.STEP_DONE
  else s

def execStepDone (s : State) : Out := .next s.stepDone

/-- A write of VALID_SET declares the time base aligned. -/
def State.validSet (s : State) : State := s.set TIMEBASE.VALID 1

/-- The count that NOW reads: it moves by INC at each REFCLK edge (R83), of which `tb` is the extension to single ticks. -/
def State.now (s : State) : Nat := s.tb - s.tb % s.inc

/-- A read of NOW_LO latches the high word for the reading class (R85). -/
def State.nowLo (s : State) (c : Cls) : State :=
  { s with latches := s.latches.filter (fun x => decide (x.1 ≠ c.code ∨ x.2.1 ≠ TIMEBASE.NOW_HI.key))
      ++ [(c.code, TIMEBASE.NOW_HI.key, s.now / 2 ^ 32)] }

/-! ### One tick -/

/-- The path of a slewed correction. -/
def slewPath (key : Nat) : Nat := (key / 32768 - 0x010) % 64

/-- A slew pauses while the CPLL or its octet's LO is not READY (10). -/
def State.slewHold (s : State) : State :=
  { s with cal := { s.cal with slews := s.cal.slews.map (fun (x : SlewSt) =>
    if s.dpdClocked (slewPath x.key) then x else { x with at_ := x.at_ + 1 }) } }

/-- The time base advances by one tick; a holdover ends at a multiple of 16 once REFCLK has returned (R82). -/
def State.tick (s : State) : State :=
  let s : State := { s with evtNow := [], ao := s.ao + 1, tb := if s.tbRun then (s.tb + 1) % 2 ^ 64 else s.tb }
  let s := s.dpdWatch.slewHold
  match s.clk.resume with
  | some inc =>
    if s.tb % 16 = 0 then
      ({ s with clk := { s.clk with resume := none } }.set TIMEBASE.REF_HOLD 0).set TIMEBASE.INC inc
    else s
  | none => s

end Sys2Proof.Machine
end

