-- ==== Sys2Proof/Machine/Beam.lean ====
section
/-! DEFINITION. Beamforming (07): the weight window, the set tables, block fills, renormalisation, damaged weights,
the power limiter, and what a beam commit does. Direction `d` is 0 for the downlink and 1 for the uplink. -/

namespace Sys2Proof.Machine

def beamPage (d : Nat) : Nat := 0x0A0 + d
def setPage (d : Nat) : Nat := 0x0A2 + d

/-! ### Blocks and weights (R176 to R178) -/

def blkOf (d set b : Nat) : Loc := if b = 0 then BEAMSET.BLK0 d set else BEAMSET.BLK1 d set
def blkValid (d set b : Nat) : Loc := if b = 0 then BEAMSET.BLK0_VALID d set else BEAMSET.BLK1_VALID d set

/-- The block of a bank, where it has one. -/
def State.block (s : State) (d set b : Nat) : Option Nat :=
  if s.on (blkValid d set b) then some (s.get (blkOf d set b)) else none

/-- The place of a weight in its block. -/
def weightAddr (blk l p : Nat) : Nat := weightBase + blk * 6144 + l * 256 + p * 4

/-- The code word of memory 4 that holds paths 2k and 2k + 1 of a layer (R179). -/
def weightWord (blk l k : Nat) : Nat := blk * 768 + l * 32 + k

/-- The bank in force in a direction. -/
def State.bankInForce (s : State) (d : Nat) : Nat := s.get (BEAMSET.ACT_BANK d (s.get (BEAM.SET_ACT d)))

/-- What refuses a write of a bank's weights, a change of its block or a fill of it (R180). Once the banks have swapped no
SET_SEL and no SWAP_REQ is pending, though PENDING stands until the copy is complete. -/
def State.bankRefusal (s : State) (d set b : Nat) : Option Nat :=
  if set = s.get (BEAM.SET_ACT d) ∧ b = s.get (BEAMSET.ACT_BANK d set) then some stLOCKED
  else if s.on (HDR.PENDING (beamPage d)) ∧ s.copying.look (beamPage d) = 0 ∧
      ((set = s.inactive (BEAM.SET_SEL d) ∧ b = s.get (BEAMSET.ACT_BANK d set))
        ∨ (s.on (BEAMSET.SWAP_REQ d set) ∧ b ≠ s.get (BEAMSET.ACT_BANK d set))) then some stPENDING
  else none

/-- The banks, as (direction, set, bank), that a block serves. -/
def State.banksOf (s : State) (blk : Nat) : List (Nat × Nat × Nat) :=
  ([0, 1].flatMap (fun d => (List.range 256).flatMap (fun i => [(d, i, 0), (d, i, 1)]))).filter
    (fun x => s.block x.1 x.2.1 x.2.2 == some blk)

/-! ### The weight window (R178 to R180) -/

/-- An address of the window as (direction, set, bank, byte offset in the bank). -/
def windowParts (a : Nat) : Nat × Nat × Nat × Nat :=
  let o := a - 0x50000000
  (o / 0x400000, o / 0x4000 % 256, o / 0x2000 % 2, o % 0x2000)

/-- The physical place that a window address names; none where R178 gives BUS_ERROR. -/
def State.windowAddr (s : State) (a : Nat) : Option Nat :=
  let (d, set, b, o) := windowParts a
  if a < 0x50000000 ∨ 0x50800000 ≤ a ∨ 0x1800 ≤ o ∨ a % 4 ≠ 0 then none
  else (s.block d set b).map (fun blk => weightBase + blk * 6144 + o)

/-- A window access is refused on the page's rights. -/
def State.windowRefusal (s : State) (c : Cls) (a : Nat) (write : Bool) : Option Nat :=
  let pg := setPage (windowParts a).1
  if s.testPortAllows c write pg 0 0 = false then some stDENIED
  else if write then s.pageRefusal c pg
  else if s.right pg c = 0 then some stDENIED else none

/-- A 32-bit write through the window: its status and the state. -/
def State.windowWrite (s : State) (c : Cls) (a v : Nat) : Nat × State :=
  let (d, set, b, _) := windowParts a
  match s.windowAddr a with
  | none => (stBUS_ERROR, s)
  | some p =>
    match s.windowRefusal c a true with
    | some r => (r, s)
    | none =>
      match s.bankRefusal d set b with
      | some r => (r, s)
      | none =>
        match s.writePartial c.code p v with
        | (true, s) => (stOK, s)
        | (false, s) => (stBUS_ERROR, s)

/-- A 32-bit read through the window: its status, the word and the state. -/
def State.windowRead (s : State) (c : Cls) (a : Nat) : Nat × Nat × State :=
  match s.windowAddr a with
  | none => (stBUS_ERROR, 0, s)
  | some p =>
    match s.windowRefusal c a false with
    | some r => (r, 0, s)
    | none =>
      match s.readMem c.code p with
      | (some v, s) => (stOK, v, s)
      | (none, s) => (stBUS_ERROR, 0, s)

/-- The answer of an access to memory or registers, with the record of a refusal (R45). -/
def State.finish (s : State) (c : Cls) (addr status : Nat) (data : List Nat) : State :=
  if 2 ≤ status then (s.refuse c addr status).reply c data status else s.reply c data status

def State.weightWrite (s : State) (c : Cls) (a v : Nat) : State :=
  let r := s.windowWrite c a (trunc 32 v)
  if s.deaf then s else r.2.finish c a r.1 []

def execWeightWrite (c : Cls) (addr v : Nat) (s : State) : Out := .next (s.weightWrite c addr v)

/-! ### Set tables (R176) -/

/-- The block that a word assigns to bank `b` is assigned to another bank. Of a word that names one free block for both
banks, bank 0 is assigned it and bank 1 refused (DESIGN CHOICE, log entry 59). -/
def State.blkConflict (s : State) (d set b data : Nat) : Bool :=
  let valid := bitOf data (if b = 0 then 9 else 25)
  let blk := bits data (if b = 0 then 0 else 16) 9
  let otherHere := bits data (if b = 0 then 16 else 0) 9 == blk && bitOf data (if b = 0 then 25 else 9)
  valid && ((s.banksOf blk).any (fun x => x != (d, set, b)) || (otherHere && b == 1))

/-- What refuses a field of bank `b` of a set word. -/
def State.blkRefusal (s : State) (d set b data : Nat) (l : Loc) : Option Nat :=
  let change := bits data (if b = 0 then 9 else 25) 1 != s.get (blkValid d set b)
    || bits data (if b = 0 then 0 else 16) 9 != s.get (blkOf d set b)
  if change ∧ s.blkConflict d set b data then some stDENIED
  else if bits data l.lo l.wid ≠ s.get l then s.bankRefusal d set b else none

/-- A word of a set table assigns a block that another bank has. -/
def State.setConflict (s : State) (d set data : Nat) : Bool :=
  decide (set < 256) && [0, 1].any (fun b =>
    (bits data (if b = 0 then 9 else 25) 1 != s.get (blkValid d set b) || bits data (if b = 0 then 0 else 16) 9 != s.get (blkOf d set b))
      && s.blkConflict d set b data)

/-! ### Block fill (R181) -/

/-- The refusal of a fill of a block. -/
def State.fillRefusal (s : State) (blk : Nat) : Option Nat :=
  if s.on (BEAM.FILL_BUSY 0) then some stPENDING
  else ((s.banksOf blk).filterMap (fun x => s.bankRefusal x.1 x.2.1 x.2.2)).head?

def State.fillGo (s : State) : State :=
  { s with wts := { s.wts with fillBlk := s.get (BEAM.FILL_BLK 0) } }.set (BEAM.FILL_BUSY 0) 1

/-- DAMAGEDb of a bank, and the clearing of it. -/
def damagedOf (d set b : Nat) : Loc := if b = 0 then BEAMSET.DAMAGED0 d set else BEAMSET.DAMAGED1 d set

def State.healBank (s : State) (blk : Nat) : State :=
  let s := { s with wts := { s.wts with
    damaged := s.wts.damaged.filter (fun e => decide (e.1 / 768 ≠ blk))
    rewritten := s.wts.rewritten.filter (fun e => decide (e.1 / 768 ≠ blk)) } }
  (s.banksOf blk).foldl (fun s x => s.set (damagedOf x.1 x.2.1 x.2.2) 0) s

/-- The fill completes: every code word of the block is written whole with zero. -/
def State.fillDone (s : State) : State :=
  if s.on (BEAM.FILL_BUSY 0) then
    let blk := s.wts.fillBlk
    let words := (List.range 768).map (fun i => blk * 768 + i)
    let healed := (words.filter (fun w => s.eccOf 4 w == 0xFF)).length
    let s := words.foldl (fun s w => s.setEcc 4 w 0) { s with mem := Memory.clear s.mem (weightBase + blk * 6144) 6144 }
    let s := if healed = 0 then s else (s.count (ECC.HEAL_CNT 4) healed).raise 0x118 EV.ECC.HEAL
    ((s.healBank blk).set (BEAM.FILL_BUSY 0) 0).raise (beamPage 0) EV.BEAM.FILL_DONE
  else s

def execFillDone (s : State) : Out := .next s.fillDone

/-! ### Renormalisation (R185, R186) -/

/-- The square of a weight's magnitude. -/
def weightPower (w : Nat) : Nat :=
  let re := toSigned 16 (w / 2 ^ 16)
  let im := toSigned 16 w
  (re * re + im * im).toNat

/-- A path's weights in a direction are forced to zero (R185). -/
def State.forced (s : State) (d p : Nat) : Bool :=
  let x := s.path p
  let retired := if d = 0 then s.on (TXPATH.RETIRE p) != x.retTx
    else bitOf (s.get (retiredRx p)) (p % 32)
  retired || (x.wdr && bitOf x.wdrDir d)

/-- A path is a raw path of the direction (R171). -/
def State.rawPath (s : State) (d p : Nat) : Bool :=
  s.get (BEAM.MODE d) == 2 && (List.range 8).any (fun e => s.on (BEAM.RAW_VALID d e) && s.get (BEAM.RAW_PATH d e) == p)

/-- The gain cap 10^(m / 40) in U2.14, for m from 0 to 12. -/
def gainCap (m : Nat) : Nat :=
  [16384, 17355, 18383, 19472, 20626, 21848, 23143, 24514, 25967, 27506, 29135, 30862, 32690].getD (min m 12) 32690

/-- The square root of e / f in U2.14, rounded convergently. -/
def rootRatio (e f : Nat) : Nat :=
  let y := Nat.sqrt (2 ^ 30 * e / f)
  if y % 2 = 0 then y / 2
  else if y * y * f = 2 ^ 30 * e then (if y / 2 % 2 = 0 then y / 2 else y / 2 + 1)
  else y / 2 + 1

/-- E and E' of a layer of a block: the sums of the squares of all its weights, and of those that act (R186). -/
def State.layerWeights (s : State) (d blk l : Nat) : Nat × Nat :=
  let w := fun p => weightPower (s.word (weightAddr blk l p))
  let kept := allPaths.filter (fun p => !s.forced d p && !s.rawPath d p &&
    s.wts.damaged.look (weightWord blk l (p / 2)) == 0)
  ((allPaths.map w).foldl (· + ·) 0, (kept.map w).foldl (· + ·) 0)

/-- The renormalisation gain of layer `l` for a block (R186). -/
def State.layerGain (s : State) (d blk l : Nat) : Nat :=
  if s.on (BEAM.RENORM_EN d) = false then 0x4000
  else
    let (e, f) := s.layerWeights d blk l
    if f = 0 then 0x4000 else min (gainCap (s.get (BEAM.RENORM_MAX d))) (rootRatio e f)

/-- The gains of the weights in force take effect; RENORM_DONE where one changes. -/
def State.renorm (s : State) (d : Nat) : State :=
  let new := (List.range 24).map (fun l =>
    match s.block d (s.get (BEAM.SET_ACT d)) (s.bankInForce d) with
    | some blk => s.layerGain d blk l
    | none => 0x4000)
  let old := (List.range 24).map (fun l => s.get (BEAM.GAIN d l))
  let s := (List.range 24).foldl (fun s l => s.set (BEAM.GAIN d l) (new.getD l 0x4000)) s
  if new = old then s else s.raise (beamPage d) EV.BEAM.RENORM_DONE

/-- Gains are ready: those of a pending commit let its swap proceed; those of a forcing change take effect. -/
def State.renormDone (s : State) (d : Nat) : State :=
  let b := s.beams.getD d {}
  let s := (s.setBeam d (fun _ => {})).set (BEAM.RENORM_BUSY d) 0
  if b.redo then s.renorm d else s

def execRenormDone (d : Nat) (s : State) : Out := .next (s.renormDone d)

/-! ### Damaged weights (R187) -/

def State.weightDamaged (s : State) (d l k : Nat) : State :=
  let set := s.get (BEAM.SET_ACT d)
  let b := s.bankInForce d
  match s.block d set b with
  | none => s
  | some blk =>
    let w := weightWord blk l k
    if s.wts.damaged.look w ≠ 0 ∨ s.get (BEAM.NLAYERS d) ≤ l then s
    else
      let s := { s with wts := { s.wts with
        damaged := s.wts.damaged.put w 1
        rewritten := s.wts.rewritten.filter (fun e => decide (e.1 / 768 ≠ blk)) } }
      let s := (s.setEcc 4 w 0xFF).eccUE 4 w reqDATAPATH
      let first := s.on (damagedOf d set b) == false
      let s := (s.set (damagedOf d set b) 1).count (BEAM.DMG_CNT d)
      let s := ((s.set (BEAM.DMG_SET d) set).set (BEAM.DMG_BANK d) b).set (BEAM.DMG_LAYER d) l
      let s := (s.set (BEAM.DMG_PATH d) (2 * k)).set64 (BEAM.DMG_TB_LO d) (BEAM.DMG_TB_HI d) s.tb
      let s := if first then s.raise (beamPage d) EV.BEAM.DAMAGED else s
      let s := s.queueEvt (.status 3 (set * 2 ^ 24 + b * 2 ^ 23 + d * 2 ^ 21 + l * 2 ^ 16 + 2 * k) s.tb)
      s.forcingChanged d

/-- The beamformer reads the bank that comes into force: every word of a layer that is uncorrectable is damaged (R187, R439). -/
def State.weightScan (s : State) (d : Nat) : State :=
  match s.block d (s.get (BEAM.SET_ACT d)) (s.bankInForce d) with
  | none => s
  | some blk =>
    if s.eccAny 4 = false then s
    else (List.range (s.get (BEAM.NLAYERS d))).foldl (fun s l => (List.range 32).foldl (fun s k =>
      if s.eccOf 4 (weightWord blk l k) = 0xFF then s.weightDamaged d l k else s) s) s

def execWeightDamaged (d l k : Nat) (s : State) : Out := .next (s.weightDamaged d l k)

/-- An ERL weight message or DMA writes whole code words of a bank: a healed word counts again, and a bank rewritten
whole clears DAMAGEDb (R187). -/
def State.weightWhole (s : State) (blk l k even odd : Nat) : State :=
  let w := weightWord blk l k
  let s : State := (s.eccWhole (weightAddr blk l (2 * k))).setWords (weightAddr blk l (2 * k)) [even, odd]
  let s : State := if s.wts.damaged.look w = 0 then s
    else { s with wts := { s.wts with damaged := s.wts.damaged.put w 0 } }
  let s : State := { s with wts := { s.wts with rewritten := s.wts.rewritten.put w 1 } }
  let n : Nat := (s.wts.rewritten.filter (fun (e : Nat × Nat) => decide (e.1 / 768 = blk))).length
  if 768 ≤ n then s.healBank blk else s

/-! ### The power limiter (R188, R189, R465) -/

/-- The thermal back-off of a path: THR_ATT once, while a sensor that names its octet holds THROTTLE. -/
def State.thermalAtt (s : State) (p : Nat) : Nat :=
  if (List.range 25).any (fun k => s.on (THERMAL.ST_THROTTLE k) && bitOf (s.get (THERMAL.OCT_MASK k)) (p / 8))
  then s.get THERMAL.THR_ATT else 0

/-- A power, as the ratio of two numbers where 1 is full scale, lies above 10^(-c / 1000), which is `c` hundredths of a dB
below full scale, even after `k` steps of 0.25 dB. -/
def overCap (pw : Nat × Nat) (c k : Nat) : Bool := decide (pw.2 ^ 1000 * 10 ^ (25 * k) < pw.1 ^ 1000 * 10 ^ c)

/-- The attenuation after a window with the measured power `pw` (R189). -/
def limitStep (att : Nat) (pw : Nat × Nat) (cap : Option Nat) : Nat :=
  match cap with
  | none => 0
  | some c =>
    if overCap pw c 0 then min 127 (att + ((List.range 128).find? (fun k => !overCap pw c k)).getD 127)
    else if overCap pw (c + 100) 0 then att else att - 1

/-- The mean square of a path's output over the window, as a ratio (R188). -/
def State.pathPower (s : State) (p : Nat) : Nat × Nat :=
  if s.strm.limCnt = 0 then (0, 1) else (s.strm.pathSum.look p, s.strm.limCnt * 2 ^ 30)

/-- The estimate of a layer's power: the mean square of its valid samples with the squares of its gains and E' (R188). -/
def State.layerPower (s : State) (l : Nat) : Nat × Nat :=
  let n := s.strm.layerCnt.look l
  if n = 0 then (0, 1)
  else
    let e := match s.block 0 (s.get (BEAM.SET_ACT 0)) (s.bankInForce 0) with
      | some blk => (s.layerWeights 0 blk l).2
      | none => 0
    let lam := attGain (s.get (BEAM.LAYER_ATT 0 l))
    (s.strm.layerSum.look l * s.get (BEAM.GAIN 0 l) ^ 2 * lam ^ 2 * e, n * 2 ^ (30 + 28 + 30 + 30))

/-- An attenuation that rises from 0 is counted and reported (R189). -/
def State.limitNote (s : State) (old new ev : Nat) : State :=
  if old = 0 ∧ 0 < new then (s.count (BEAM.LIM_CNT 0)).raise (beamPage 0) ev else s

/-- The attenuations of paths and layers come into force. -/
def State.setAtts (s : State) (ps ls : List Nat) : State :=
  let s := allPaths.foldl (fun s p => s.set (BEAM.PATH_ATT 0 p) (min 127 (ps.getD p 0 + s.thermalAtt p))) s
  (List.range 24).foldl (fun s l => s.set (BEAM.LAYER_ATT 0 l) (ls.getD l 0)) s

/-- A window of 2^14 samples of the downlink rate ends: the attenuations that its measurements ask for apply from the sample
512 ticks on (R189). -/
def State.limiterEnd (s : State) : State :=
  if s.tb % (2 ^ 14 * rateL s.dlRate) = 0 then
    let ps := allPaths.map (fun p => limitStep (s.wts.limAtt.getD p 0) (s.pathPower p) (s.pathCap p))
    let ls := (List.range 24).map (fun l => limitStep (s.get (BEAM.LAYER_ATT 0 l)) (s.layerPower l) (s.layerCap l))
    let old := s
    let s := { s with
      wts := { s.wts with limAtt := ps }
      strm := { s.strm with attNext := some (s.tb + 512, ps, ls) } }
    let s := allPaths.foldl (fun s p => s.limitNote (old.wts.limAtt.getD p 0) (ps.getD p 0) EV.BEAM.LIM_PATH) s
    (List.range 24).foldl (fun s l => s.limitNote (old.get (BEAM.LAYER_ATT 0 l)) (ls.getD l 0) EV.BEAM.LIM_LAYER) s
  else s

def execLimiterWindowEnd (s : State) : Out := .next s.limiterEnd

/-! ### Group delays in force (R121, R138) -/

/-- GD_NOW of a path's two chains: the rate's delay, the delay correction and the DPD's 8 ticks. -/
def State.gdNote (s : State) (n : Nat) : State :=
  let rx : Int := (gRx s.ulRate : Int) * 256 + s.geti (CALT.NOW_DLY 1 n)
  let dpd := if s.on (DPD1.DPD_EN_ACT n) then 8 else 0
  let tx : Int := ((gTx s.dlRate + dpd : Nat) : Int) * 256 + s.geti (CALT.NOW_DLY 0 n)
  (s.set (RXPATH.GD_NOW n) (ofSigned 32 rx)).set (TXPATH.GD_NOW n) (ofSigned 32 tx)

/-! ### Beam commits (R171, R172, R182 to R184) -/

/-- NLAYERS of a mode at most. -/
def layerLimit (mode : Nat) : Nat := if mode = 2 then 16 else 24

/-- A combination of MODE, RATE and FMT that the table of R171 holds; FMT 3 is outside it. -/
def combinationOk (mode rate fmt : Nat) : Bool :=
  if fmt = 3 ∨ mode = 3 then false
  else if mode = 1 then decide (2 ≤ rate) || (rate == 1 && fmt == 2)
  else true

/-- Gives a shadowed field the value it had before the swap. -/
def State.keep (s old : State) (l : Loc) : State := s.set l (old.get l)

/-- The bank swaps of the sets with SWAP_REQ. -/
def State.swapSets (s : State) (d : Nat) : State :=
  (List.range 256).foldl (fun s i =>
    if s.on (BEAMSET.SWAP_REQ d i) then
      let b := s.get (BEAMSET.ACT_BANK d i)
      let s := s.set (BEAMSET.SWAP_REQ d i) 0
      if (s.block d i (1 - b)).isSome then s.set (BEAMSET.ACT_BANK d i) (1 - b)
      else s.raise (beamPage d) EV.BEAM.SWAP_NOBLK
    else s) s

/-- What a commit of BEAM0 or BEAM1 does besides the swap. `old` is the state before it. NLAYERS is limited by the mode
that the commit asks for and, where that is refused, by the mode kept too (DESIGN CHOICE, log entry 59). -/
def State.beamCommitted (s old : State) (d : Nat) : State :=
  let lim := layerLimit (s.get (BEAM.MODE d))
  let s := if lim < s.get (BEAM.NLAYERS d) then s.set (BEAM.NLAYERS d) lim else s
  let fields := [BEAM.MODE d, BEAM.RATE d, BEAM.FMT d, BEAM.NLAYERS d]
  let changed := fields.any (fun l => s.get l != old.get l)
  let s :=
    if s.mode = 5 ∧ changed then (fields.foldl (fun s l => s.keep old l) s).raise (beamPage d) EV.BEAM.CFG_REFUSED
    else if combinationOk (s.get (BEAM.MODE d)) (s.get (BEAM.RATE d)) (s.get (BEAM.FMT d)) = false then
      let s := (((s.keep old (BEAM.MODE d)).keep old (BEAM.RATE d)).keep old (BEAM.FMT d)).raise (beamPage d) EV.BEAM.CFG_REFUSED
      if layerLimit (s.get (BEAM.MODE d)) < s.get (BEAM.NLAYERS d) then s.set (BEAM.NLAYERS d) (layerLimit (s.get (BEAM.MODE d))) else s
    else s
  -- packets of another setting no longer serve (R282)
  let s :=
    if s.get (BEAM.RATE d) = old.get (BEAM.RATE d) ∧ s.get (BEAM.FMT d) = old.get (BEAM.FMT d) then s
    else if d = 1 then
      { s with erl := { s.erl with ulOld := some ⟨s.tb, old.get (BEAM.RATE 1), old.get (BEAM.FMT 1)⟩ } }
    else
      let bad := s.erl.held.filter (fun x => decide (s.tb ≤ x.stamp) && x.fmt != s.get (BEAM.FMT 0))
      { s with erl := { s.erl with held := s.erl.held.filter (fun x => !bad.contains x) } }.count ERL1.DL_BAD_CNT bad.length
  -- a change outside M5 aligns every receive path, or clears the transmit half-bands and what waits for them (R172)
  let s :=
    if fields.any (fun l => s.get l != old.get l) = false then s
    else if d = 1 then allPaths.foldl (fun s n => if s.act (rxPage n) then s.decAlign n else s) s
    else { s.clearUp with strm := { s.clearUp.strm with dlZero := s.tb + 256 } }
  let s := s.swapSets d
  let set := s.get (BEAM.SET_SEL d)
  let s := (s.set (BEAM.SET_ACT d) set).set (BEAM.BANK_ACT d) (s.get (BEAMSET.ACT_BANK d set))
  let empty := (s.block d set (s.bankInForce d)).isNone
  let s := s.set (BEAM.EMPTY d) (if empty then 1 else 0)
  let s := if empty then s.raise (beamPage d) EV.BEAM.EMPTY_SET else s
  let s := (((s.setBeam d (fun _ => {})).set (BEAM.RENORM_BUSY d) 0).renorm d).weightScan d
  if s.get (BEAM.RATE d) = old.get (BEAM.RATE d) then s else allPaths.foldl (fun s n => s.gdNote n) s

end Sys2Proof.Machine
end

