-- ==== Sys2Proof/Machine/Dpd.lean ====
section
/-! DEFINITION. Predistortion (08): the lap, the captures, UPD_REQ and its checks, the divergence guard, and the model
memory. -/

namespace Sys2Proof.Machine

/-! ### FROZEN (R206) -/

/-- A write of FROZEN takes effect: a frozen path leaves the lap, and its update is aborted. -/
def State.frozenWritten (s : State) (p v : Nat) : State :=
  let s := s.set (DPD1.FROZEN p) v
  if v = 1 then (s.dpdLeave p).dpdLap.dpdNote else s.dpdNote

/-- The predistorter of path `p` reads code word `w` (0 to 127) of the bank in force and finds it uncorrectable: the
word counts as zero and the path is frozen (R207). -/
def State.modelDamaged (s : State) (p w : Nat) : State :=
  let a := modelAddr p (s.get (DPD1.ACT_BANK p)) (8 * (w % 128))
  let idx := (a - modelBase) / 8
  if s.on (DPD1.DPD_EN_ACT p) then
    let s := (s.setEcc 5 idx 0xFF).eccUE 5 idx reqDATAPATH
    ((s.frozenWritten p 1).raise 0x0A4 EV.DPD0.MODEL_DAMAGED)
  else s

/-- The predistorter begins to read the bank in force: an uncorrectable word of it is damaged. -/
def State.modelScan (s : State) (p : Nat) : State :=
  if s.eccAny 5 = false then s
  else (List.range 128).foldl (fun s w =>
    if s.eccOf 5 ((modelAddr p (s.get (DPD1.ACT_BANK p)) (8 * w) - modelBase) / 8) = 0xFF then s.modelDamaged p w else s) s

/-- The bank of an update comes into force. -/
def State.dpdSwap (s : State) (p : Nat) : State := (s.dpdToggle p).modelScan p

/-! ### DPD_EN (R195) -/

/-- A committed DPD_EN reaches the path at a boundary at which its driver is disabled or it is in TURN; a fall ends a
guard (R207). -/
def State.dpdEnApply (s : State) (p : Nat) : State :=
  let want := if s.on (DPD1.DPD_EN p) && s.act 0x0A4 then 1 else 0
  if s.cellPermitted p = false ∨ s.get (DPD1.DPD_EN_ACT p) = want then s
  else
    let s := (s.set (DPD1.DPD_EN_ACT p) want).gdNote p
    (if want = 0 then s.dpdAbort p else s.modelScan p).dpdNote

def execDpdEnApply (p : Nat) (s : State) : Out := .next (s.dpdEnApply p)

/-! ### The lap (R199 to R201) -/

/-- Core `c` may take a job now; a faulted core only once its STATE has returned to 1 or 2 (R371). -/
def State.dpdMayAssign (s : State) (c : Nat) : Bool :=
  s.act 0x0A4 && s.on DPD0.ADAPT_EN && s.mode == 5 && !s.mgmtDown && bitOf (s.get DPD0.CORE_MASK) c
    && decide (c < 8) && (s.dpdJob c).isNone && !(s.cores.getD c {}).faulted

def State.dpdAssign (s : State) (c : Nat) : State :=
  match s.dpdMayAssign c, s.dpdNext with
  | true, some p =>
    if s.dpdClocked p then (s.setDpdJob c (some { path := p, at_ := s.tb })).dpdNote else s
  | _, _ => s

def execDpdAssign (c : Nat) (s : State) : Out := .next (s.dpdAssign c)

/-- N and LAG_NOM (R198, R200). -/
def State.dpdN (s : State) : Nat := 2 ^ (10 + s.get DPD0.CAP_LEN)
def State.lagNom (s : State) (p : Nat) : Nat :=
  8 * s.get (DPD1.DPD_EN_ACT p) + 34 + 12 + s.get (DPD3.OBS_BOARD_DLY p)

/-- The slot boundaries in [tb, e). -/
def State.boundaries (s : State) (e : Nat) : List Nat :=
  let b := s.tb + slotTicks - s.inSlot s.tb
  (List.range ((e - s.tb) / slotTicks + 1)).map (fun k => b + k * slotTicks)

/-- The path stays in OBS until tick `e`, as far as the pattern, its window and its octet's queue tell. Within a slot the
pattern leaves the downlink for good. -/
def State.staysObs (s : State) (p e : Nat) : Bool :=
  let q := s.path p
  let acts := (s.oct (p / 8)).queue.any (fun x => decide (1 ≤ x.code ∧ x.code ≤ 3 ∧ x.t < e) && bitOf x.mask (p % 8))
  !acts && (match q.win with
    | some w => decide (e ≤ w)
    | none => ([s.tb, e - 1] ++ (s.boundaries e).flatMap (fun b => [b - 1, b])).all
        (fun t => decide (e ≤ t) || s.setState p t == .obs))

/-- The observation samples of a path stamped from `a` on and before now, oldest first, as a port records them: they stand in
the line of its channel FIR, with their flags (R197, R340). -/
def State.obsHeld (s : State) (p a : Nat) : List Sample :=
  match s.strm.rx.find? (fun d => d.n == p) with
  | some d => (List.range (s.tb - a)).reverse.filterMap (fun j => (d.fir[j]?).map (fun (x : Cx) =>
      (⟨s.tb - 1 - j, (fit false 16 x.re 4).1, (fit false 16 x.im 4).1, anyBit d.inv (5 + j) (20 + j),
        anyBit d.ovl (5 + j) (20 + j)⟩ : Sample)))
  | none => []

/-- One port of a capture records [a, b) of path `p` from the source `kind`; its trigger stamp is now (R346). The observation
may begin before now: LAG_NOM may lie below 64. -/
def State.dpdPort (s : State) (k kind p a b : Nat) : State :=
  let s := (s.set (CP.SRC_KIND k) kind).set (CP.SRC_IDX k) p
  let s := (s.set (CP.BUF_MODE k) 0).capArm k true
  if s.on (CP.ARMED k) then
    let s := (s.capFeeds k (if kind = 1 then s.obsHeld p a else [])).capTrigger k 8 s.tb 0
    s.setCap k (fun c => { c with seg := c.seg.map (fun (g : SegSt) => { g with first := a, lo := a, stop := b }) })
  else s

/-- The reference and the observation captures start. -/
def State.dpdCapture (s : State) (c : Nat) : State :=
  match s.dpdJob c with
  | none => s
  | some j =>
    let p := j.path
    let n := s.dpdN
    let lag := s.lagNom p
    let t := s.tb
    let kr := s.get DPD0.CAP_PORT_REF
    let ko := s.get DPD0.CAP_PORT_OBS
    let ready := s.on DPD0.ADAPT_EN && s.mode == 5 && t % 1024 == 0 && decide (j.at_ + 256 ≤ t) && j.cap.isNone
      && (s.path p).st == .obs && s.drv p == 2 && s.staysObs p (t + n + lag + 64) && s.dpdClocked p
      && !s.on (CP.ARMED kr) && !s.on (CP.ARMED ko) && kr != ko
    if ready then
      let s := (s.dpdPort kr 2 p t (t + n)).dpdPort ko 1 p (t + lag - 64) (t + lag + n + 64)
      if s.on (CP.ARMED kr) ∧ s.on (CP.ARMED ko) then s.setDpdJob c (some { j with cap := some t }) else s.dpdCapStop
    else s

def execDpdCaptureStart (c : Nat) (s : State) : Out := .next (s.dpdCapture c)

/-- The interrupt of core `c` with number `i` (R370). -/
def State.ipend (s : State) (c i : Nat) : State :=
  { s with cores := upd s.cores c (fun k => { k with ipend := setBit k.ipend i }) }

/-- The job registers of core `c` are written and the core is interrupted (R201). -/
def State.jobWrite (s : State) (c p t : Nat) : State :=
  let s := ((s.set (DPD2.VALID c) 1).set (DPD2.BANK c) (s.get (DPD1.ACT_BANK p))).set (DPD2.PATH c) p
  let s := (s.set (DPD2.REF_ADDR c) (s.capBase (s.get DPD0.CAP_PORT_REF))).set (DPD2.OBS_ADDR c)
    (s.capBase (s.get DPD0.CAP_PORT_OBS))
  let s := (s.set64 (DPD2.REF_TB_LO c) (DPD2.REF_TB_HI c) t).set (DPD2.LAG_NOM c) (s.lagNom p)
  (s.raise 0x0A6 c).ipend c 0

/-- The segment of a port, with what waits in its input queue before `e`, is whole: `n` valid samples without a gap. -/
def State.segWhole (s : State) (k e n : Nat) : Bool :=
  match ((s.capTake k e).cap k).seg with
  | some g => !g.bad && !g.full && g.nsamp + g.block.length == n
  | none => false

/-- The capture ends; one INVALID sample, a gap, or a sample missing makes it void. -/
def State.dpdCaptured (s : State) (c : Nat) : State :=
  match s.dpdJob c with
  | none => s
  | some j =>
    match j.cap with
    | none => s
    | some t =>
      let n := s.dpdN
      let lag := s.lagNom j.path
      if j.done ∨ s.tb < t + lag + n + 64 then s
      else
        let kr := s.get DPD0.CAP_PORT_REF
        let ko := s.get DPD0.CAP_PORT_OBS
        if !s.segWhole kr (t + n) n || !s.segWhole ko (t + lag + n + 64) (n + 128) then s.dpdVoid c
        else
          let s := (s.capEnd kr (t + n) true).capEnd ko (t + lag + n + 64) true
          (s.setDpdJob c (some { j with done := true })).jobWrite c j.path t

def execDpdCaptureDone (c : Nat) (s : State) : Out := .next (s.dpdCaptured c)

/-- JOB_RELEASE ends the job of a core without an update: result 0. -/
def State.jobRelease (s : State) (c : Nat) : State :=
  match s.dpdJob c with
  | some j => s.dpdResult j.path 0
  | none => s

/-! ### UPD_REQ (R202 to R204) -/

/-- A descriptor is valid (R190). -/
def descOk (d : Nat) : Bool :=
  let ty := bits d 0 2
  let k := bits d 4 3
  let l := bits d 12 2
  if ty = 0 then true
  else decide (1 ≤ k) && (if ty = 1 then l == 0 else l == 1 || l == 2)

/-- A word of the model memory as the DPD block reads it: one of an uncorrectable code word counts as zero (R207, R439). -/
def State.modelWord (s : State) (a : Nat) : Nat := if s.eccOf 5 ((a - modelBase) / 8) = 0xFF then 0 else s.word a

/-- Descriptor `j`, and the parts of coefficient `j`, of a bank. -/
def State.descWord (s : State) (p b j : Nat) : Nat := s.modelWord (modelAddr p b (4 * j))
def State.coef (s : State) (p b j : Nat) : Int × Int :=
  (toSigned 24 (s.modelWord (modelAddr p b (0x100 + 8 * j))), toSigned 24 (s.modelWord (modelAddr p b (0x104 + 8 * j))))

def slots48 : List Nat := List.range 48

/-- B of check 4, in units of 2^-20. -/
def State.expansion (s : State) (p b : Nat) : Nat :=
  (slots48.map (fun j => (s.coef p b j).1.natAbs + (s.coef p b j).2.natAbs)).foldl (· + ·) 0

/-- The result of the first check that fails; none where the inactive bank passes all. STEP_MAX counts units of 2^-16
and the coefficients units of 2^-20. B <= 10^(EXP_CAP / 200) is compared as exact 200th powers. -/
def State.updCheck (s : State) (p : Nat) : Option Nat :=
  let a := s.get (DPD1.ACT_BANK p)
  let b := 1 - a
  let same := slots48.all (fun j => s.descWord p a j == s.descWord p b j)
  let stepOk := slots48.all (fun j =>
    let x := s.coef p a j
    let y := s.coef p b j
    decide (max (y.1 - x.1).natAbs (y.2 - x.2).natAbs ≤ 16 * s.get DPD0.STEP_MAX))
  if slots48.all (fun j => descOk (s.descWord p b j)) = false then some 3
  else if same = false ∧ s.on DPD0.STRUCT_OK = false then some 6
  else if same ∧ stepOk = false then some 4
  else match s.expCap p with
    | some e => if s.expansion p b ^ 200 ≤ 10 ^ e * 2 ^ 4000 then none else some 5
    | none => none

/-- A capture of the path is pending on a core (R207). -/
def State.capPending (s : State) (p : Nat) : Bool :=
  s.dpd.jobs.any (fun j => match j with | some x => x.path == p && !x.done | none => false)

def State.updRefusal (s : State) (p : Nat) : Option Nat :=
  if s.get (DPD1.PHASE p) ≠ 0 ∨ s.capPending p then some stPENDING else none

/-- An update without a guard swaps its bank (R204). -/
def State.dpdBare (s : State) (p : Nat) : State := (s.dpdSwap p).dpdResult p 10

/-- Updates without a guard whose clocks are back take place. -/
def State.bareTick (s : State) : State :=
  allPaths.foldl (fun s p => if (s.dpdPath p).bare && s.dpdClocked p && s.get (DPD1.PHASE p) == 1 then s.dpdBare p else s) s

/-- UPD_REQ: the checks, then the swap or the guard. A swap waits for the clocks of the path (R207). -/
def State.updReq (s : State) (p : Nat) : State :=
  if s.mgmtDown then s.dpdResult p 9
  else
    match s.updCheck p with
    | some r => ((s.dpdResult p r).count DPD0.CHKFAIL_CNT).raise 0x0A4 EV.DPD0.CHECK_FAIL
    | none =>
      let guard := s.on DPD0.GUARD_EN
      if guard = false ∧ s.dpdClocked p then s.dpdBare p
      else
        let s := s.set (DPD1.PHASE p) 1
        s.setDpdPath p (fun g => { lapped := g.lapped, timer := s.ao, bare := !guard,
                                   aim := if guard then some s.tb else none, since := s.tb })

/-! ### The divergence guard (R204, R205) -/

/-- The windows of the phase are complete. -/
def State.guardFull (s : State) (p : Nat) : Bool := decide (max 1 (s.get DPD0.GUARD_N) ≤ (s.dpdPath p).n)

/-- The baseline is complete: the bank swaps, and the evaluation counts windows from 128 ticks on. A management restart,
which suspends adaptation (R26), and a loss of the path's clocks hold the swap back (R207). -/
def State.guardBaseline (s : State) (p : Nat) : State :=
  if s.get (DPD1.PHASE p) = 1 ∧ (s.dpdPath p).bare = false ∧ s.guardFull p ∧ s.mgmtDown = false ∧ s.dpdClocked p then
    let s := (s.set (DPD1.PHASE p) 2).setDpdPath p (fun g =>
      { g with timer := s.ao, paused := none, since := s.tb + 128, n := 0, c := 0, a := 0, c0 := g.c, a0 := g.a })
    s.dpdSwap p
  else s

def execGuardBaselineDone (p : Nat) (s : State) : Out := .next (s.guardBaseline p)

/-- The ratio of channel to adjacent power in 0.25 dB, cut to the step below, or one step more by a free bit: the
spec states no rounding (log entry 9). A ratio below 1 has no code, and is free. -/
def aclr (c a free : Nat) : Nat :=
  if a = 0 then 255
  else if c < a then free % 256
  else min 255 (((List.range 256).filter (fun q => decide (10 ^ q * a ^ 40 ≤ c ^ 40))).length - 1 + free % 2)

/-- C1 A0 10^(GUARD_MARGIN / 100) < C0 A1, as exact 100th powers. -/
def diverged (margin c0 a0 c1 a1 : Nat) : Bool := decide ((c1 * a0) ^ 100 * 10 ^ margin < (c0 * a1) ^ 100)

/-- The evaluation is complete: the update is kept, or restored and the path frozen. -/
def State.guardVerdict (s : State) (p : Nat) : State :=
  if s.get (DPD1.PHASE p) = 2 ∧ s.guardFull p then
    let g := s.dpdPath p
    let (x, s) := s.freeNat
    let (y, s) := s.freeNat
    let s := (s.set (DPD3.ACLR_BEFORE p) (aclr g.c0 g.a0 x)).set (DPD3.ACLR_AFTER p) (aclr g.c g.a y)
    if diverged (s.get DPD0.GUARD_MARGIN) g.c0 g.a0 g.c g.a then
      let s := ((s.dpdToggle p).set (DPD1.FROZEN p) 1).dpdResult p 2
      (s.count DPD0.RESTORE_CNT).raise 0x0A4 EV.DPD0.DIVERGED
    else s.dpdResult p 1
  else s

def execGuardVerdict (p : Nat) (s : State) : Out := .next (s.guardVerdict p)

/-- GUARD_TO has passed in a phase of the guard. -/
def State.guardTimeout (s : State) (p : Nat) : State :=
  let g := s.dpdPath p
  let ph := s.get (DPD1.PHASE p)
  if (ph = 1 ∨ ph = 2) ∧ g.bare = false ∧ g.paused = none ∧ s.guardFull p = false ∧ g.timer + max 1 (s.get DPD0.GUARD_TO) * 2 ^ 20 ≤ s.ao then
    (if ph = 1 then s.dpdResult p 7 else (s.dpdToggle p).dpdResult p 8).raise 0x0A4 EV.DPD0.GUARD_TIMEOUT
  else s

def execGuardTimeout (p : Nat) (s : State) : Out := .next (s.guardTimeout p)

/-! ### Model memory (R192, R194, R207, R208) -/

/-- The bits that a word of a bank holds; none in a reserved word. -/
def modelMask (off : Nat) : Option Nat :=
  if off < 0x0C0 then some 0x3773 else if 0x100 ≤ off ∧ off < 0x280 then some 0xFFFFFF else none

/-- What refuses a write of a model word: a lock comes before a pending commit (R45), as in the table of R194. -/
def State.modelRefusal (s : State) (c : Cls) (a : Nat) : Option Nat :=
  let p := (a - modelBase) / 0x800
  if a < modelBase ∨ modelBase + 0x20000 ≤ a ∨ a % 4 ≠ 0 then some stBUS_ERROR
  else match s.pageRefusal c 0x0A6 with
    | some r => some r
    | none =>
      if (a - modelBase) / 0x400 % 2 = s.get (DPD1.ACT_BANK p) then some stLOCKED
      else if s.get (DPD1.PHASE p) ≠ 0 then some stPENDING else none

/-- A 32-bit write of the model memory: its status and the state. -/
def State.modelWrite (s : State) (c : Cls) (a v : Nat) : Nat × State :=
  match s.modelRefusal c a with
  | some r => (r, s)
  | none =>
    match modelMask (a % 0x400) with
    | none => (stOK, s)
    | some m =>
      match s.writePartial c.code a (v &&& m) with
      | (true, s) => (stOK, s)
      | (false, s) => (stBUS_ERROR, s)

def execModelWrite (c : Cls) (addr v : Nat) (s : State) : Out :=
  .next (let r := s.modelWrite c addr (trunc 32 v); if s.deaf then s else r.2.finish c addr r.1 [])

/-- A 32-bit read of the model memory (R208). -/
def State.modelRead (s : State) (c : Cls) (a : Nat) : Nat × Nat × State :=
  if a < modelBase ∨ modelBase + 0x20000 ≤ a ∨ a % 4 ≠ 0 then (stBUS_ERROR, 0, s)
  else if s.right 0x0A6 c = 0 then (stDENIED, 0, s)
  else if (modelMask (a % 0x400)).isNone then (stOK, 0, s)
  else match s.readMem c.code a with
    | (some v, s) => (stOK, v, s)
    | (none, s) => (stBUS_ERROR, 0, s)

def execModelDamaged (p w : Nat) (s : State) : Out := .next (s.modelDamaged p w)

end Sys2Proof.Machine
end

