-- ==== Sys2Proof/Machine/Cal.lean ====
section
/-! DEFINITION. The calibration engine (10): the check against RREF, results and trims, the LO phase, the corrections in
force, array results, and foreground runs. -/

namespace Sys2Proof.Machine

def State.setCal (s : State) (f : CalSt → CalSt) : State := { s with cal := f s.cal }

/-! ### RREF (R233) -/

/-- The check of the RREF-derived current finds the deviation `dev` in 0.001 %: it is due on entry into M1 and every
60 s. -/
def State.refCheck (s : State) (dev : Int) : State :=
  let due := match s.cal.refAt with | some t => decide (t + 60 * 983040000 ≤ s.ao) | none => true
  if due = false then s
  else
    let s := (s.setCal (fun c => { c with refAt := some s.ao })).seti CAL0.REF_DEV dev
    if dev.natAbs ≤ 500 then s.set CAL0.REF_OK 1
    else (s.set CAL0.REF_OK 0).raiseLog 2 0x0AC EV.CAL0.REF_FAULT

def execRefCheck (dev : Int) (s : State) : Out := .next (s.refCheck dev)

/-! ### Results (R234 to R236) -/

/-- The page that holds the targets of a kind. -/
def kindPage (k p : Nat) : Nat := if k ≤ 3 then rxPage p else txPage p

/-- The loops that a path uses are ready. -/
def State.calClocked (s : State) (p : Nat) : Bool :=
  s.cpllReady && (if p < 64 then s.loReady (p / 8) else s.on (Loop.READY (1 + s.get CAL0.LO_SEL)))

/-- Octet temperature in 1/256 degree C, and in whole degrees. -/
def State.octTemp (s : State) (g : Nat) : Int := s.geti (THERMAL.READING (16 + g))

/-- A digital target takes its value in both banks and slews (R235, R239). -/
def State.target (s : State) (l : Loc) (iq : Bool) (n v : Nat) : State :=
  let start := s.corrNow l
  (s.setBoth l v).slewFrom l iq n start

/-- Values into a run of digital targets. -/
def State.targets (s : State) (n : Nat) : List (Loc × Bool) → List Nat → State
  | f :: fs, v :: vs => (s.target f.1 f.2 n v).targets n fs vs
  | _, _ => s

/-- A result takes effect. Kind 0 gives the analogue codes and then the digital corrections, kinds 1 and 5 the gain and
the coefficients, kinds 2 and 6 a trim, kinds 3 and 7 the maps and the spares of I and Q, kind 4 the two offsets. -/
def State.calApply (s : State) (r : CalRes) : State :=
  let p := r.path
  let v := fun i => r.vals.getD i 0
  let s :=
    if r.kind = 0 then ((s.setCal (fun c => { c with trims := c.trims ++ [⟨0, p, [v 0, v 1]⟩] })).targets p ((rxSlewed p).take 2)
      (r.vals.drop 2))
    else if r.kind = 1 then s.targets p ((rxSlewed p).drop 2) r.vals
    else if r.kind = 2 ∨ r.kind = 6 then s.setCal (fun c => { c with trims := c.trims ++ [⟨r.kind, p, [v 0]⟩] })
    else if r.kind = 3 then s.setRx p (fun x => { x with comp := some (v 0, v 1, v 2, v 3) })
    else if r.kind = 4 then s.targets p ((txSlewed p).take 2) r.vals
    else if r.kind = 5 then s.targets p ((txSlewed p).drop 2) r.vals
    else s.setTx p (fun x => { x with cell := some (v 0, v 1, v 2, v 3) })
  s.raise 0x0AC EV.CAL0.RES_NEW

/-- An element out of tolerance with no spare left (R109, R149): bit 0 of `out` is I and bit 1 is Q. -/
def State.sparesOut (s : State) (k p out : Nat) : State :=
  if out % 4 = 0 then s
  else
    let s := if bitOf out 0 then s.set (if k = 3 then RXPATH.SPARES_I p else TXPATH.CELL_SPARES_I p) 0 else s
    let s := if bitOf out 1 then s.set (if k = 3 then RXPATH.SPARES_Q p else TXPATH.CELL_SPARES_Q p) 0 else s
    if k = 3 then (s.raiseLog 1 (rxPage p) EV.RXPATH.SPARES_LOW).retireCand 1 p causeRxSpares
    else (s.raiseLog 1 (txPage p) EV.TXPATH.CELL_SPARES_LOW).retireCand 0 p causeTxSpares

/-- A kind has run on a path: time and temperature are kept, and it is no longer due. -/
def State.calStamp (s : State) (k p : Nat) : State :=
  let key := k * 128 + p
  let s := s.setCal (fun c => { c with
    last := c.last.put key (s.ao + 1), lastTemp := c.lastTemp.put key (s.get (THERMAL.READING (16 + p / 8))),
    due := c.due.put key 0, fails := c.fails.put (kindDir k * 128 + p) 0 })
  if k = 2 then s.set (CAL3.STAT_RX_DUE p) 0 else if k = 6 then s.set (CAL3.STAT_TX_DUE p) 0 else s

/-- The kind of a path ends in the foreground run. -/
def State.fgKindEnd (s : State) (k p : Nat) : State :=
  (s.fgMap (fun e => if e.1 = p then clearMask 12 e.2 (2 ^ k) else e.2)).fgNext

/-- The engine is measuring this kind on this path: in the foreground, or in the background of M5 (R245). -/
def State.calRunning (s : State) (k p : Nat) : Bool :=
  bitOf (s.fgMask p) k ||
    (s.mode == 5 && s.on CAL0.BG_EN && !s.mgmtDown && [0, 1, 3, 4, 5, 7, 10, 11].contains k && !(s.path p).wdr)

/-- Why a result is not applied; 0 where it is. -/
def State.calReason (s : State) (k p reason : Nat) : Nat :=
  if s.act (kindPage k p) = false then 6
  else if s.calClocked p = false then 5
  else if s.on CAL0.REF_OK = false ∧ [2, 3, 6, 7].contains k then 2
  else reason

/-- The number of set bits of a map. -/
def mapSize (m : Nat) : Nat := ((List.range 32).filter (fun b => bitOf m b)).length

/-- A selection is one of 15 of 18 comparators, with at most 3 spares (R107), or of 6 of 8 cells, with at most 2 (R147). -/
def selectionOk (k : Nat) (vals : List Nat) : Bool :=
  let ok := fun (w n sp : Nat) => decide (vals.getD 0 0 < 2 ^ w ∧ vals.getD 1 0 < 2 ^ w ∧ vals.getD 2 0 ≤ sp ∧ vals.getD 3 0 ≤ sp)
    && mapSize (vals.getD 0 0) == n && mapSize (vals.getD 1 0) == n
  if k = 3 then ok 18 15 3 else if k = 7 then ok 8 6 2 else true

/-- A result of kind 0 to 7, or of kind 9 in the foreground, at a sample boundary of the 491.52 Msps stream. A commit of the target page at this tick discards it; a
pending one makes it wait. -/
def State.calResult (s : State) (k p : Nat) (vals : List Nat) (reason out : Nat) : State :=
  if s.calRunning k p = false ∨ 64 ≤ p ∨ 8 ≤ k ∧ k ≠ 9 ∨ reason = 0 ∧ (selectionOk k vals = false ∨ s.tb % 2 = 1) then s
  else
    let f := s.calReason k p reason
    let s := if (k = 3 ∨ k = 7) ∧ (f = 0 ∨ f = 3) then s.sparesOut k p out else s
    if f = 5 then s.calFail 5 k p
    else if f ≠ 0 then (s.calFail f k p).fgKindEnd k p
    else
      let s := (s.calStamp k p).fgKindEnd k p
      let pg := kindPage k p
      if k = 9 then s.set (CAL0.OCT_PHASE (p / 8)) (vals.getD 0 0)
      else if s.copying.look pg = s.tb + 1 ∧ [0, 1, 4, 5].contains k then
        (s.count CAL0.DISCARD_CNT).raise 0x0AC EV.CAL0.RES_DISCARD
      else if s.on (HDR.PENDING pg) then s.setCal (fun c => { c with wait := c.wait ++ [⟨k, p, vals⟩] })
      else s.calApply ⟨k, p, vals⟩

def execCalResult (k p : Nat) (vals : List Nat) (reason out : Nat) (s : State) : Out := .next (s.calResult k p vals reason out)

/-- PENDING of a page falls: the results that waited for it take effect. -/
def State.calPageFree (s : State) (pg : Nat) : State :=
  let due := s.cal.wait.filter (fun r => decide (r.kind < 8 ∧ kindPage r.kind r.path = pg))
  let s := s.setCal (fun c => { c with wait := c.wait.filter (fun r => !(decide (r.kind < 8 ∧ kindPage r.kind r.path = pg))) })
  due.foldl (fun s r => s.calApply r) s

/-- An analogue trim may take effect on a path now (R236). -/
def State.trimPermitted (s : State) (r : CalRes) : Bool :=
  s.tb % 2 == 0 && (if r.kind = 6 then s.cellPermitted r.path else s.compPermitted r.path)

/-- The waiting trims of a path take effect. -/
def State.trimApply (s : State) (p : Nat) : State :=
  let go := s.cal.trims.filter (fun r => r.path == p && s.trimPermitted r)
  let s := s.setCal (fun c => { c with trims := c.trims.filter (fun r => !(go.contains r)) })
  go.foldl (fun s r =>
    let v := r.vals.getD 0 0
    if r.kind = 0 then (s.setBoth (RXPATH.DC_I p) v).setBoth (RXPATH.DC_Q p) (r.vals.getD 1 0)
    else if r.kind = 2 then s.set (RXPATH.BBF_TRIM p) v
    else s.set (TXPATH.TXF_TRIM p) v) s

def execTrimApply (p : Nat) (s : State) : Out := .next (s.trimApply p)

/-! ### LO phase (R237) -/

/-- The phase measurement of LOA (0) or LOB (1) ends: the phases of its octets take effect at once. -/
def State.loPhaseDone (s : State) (x : Nat) (phases : List Nat) : State :=
  match s.clk.loCal.getD x none with
  | some r =>
    if r + 40960 ≤ s.tb then
      let s := { s with clk := { s.clk with loCal := s.clk.loCal.set x none } }
      (List.range 8).foldl (fun s g =>
        if bitOf (s.loopOctets (x + 1)) g then s.set (CAL0.OCT_PHASE g) (phases.getD g 0) else s) s
    else s
  | none => s

def execLoPhaseDone (x : Nat) (phases : List Nat) (s : State) : Out := .next (s.loPhaseDone x phases)

/-! ### Corrections in force (R238 to R240) -/

/-- A target gain: its magnitude and phase after the clip, and the gain itself where the clip leaves it. -/
def clipGain (re im : Int) : (Int × Int) × Option (Int × Int) :=
  let m := (re * re + im * im).toNat
  let ph := if m = 0 then 0 else (Config.polarOf re im).2
  if m < 2 ^ 26 then (((Config.polarOf 8192 0).1, ph), none)
  else if 32767 ^ 2 < m then (((Config.polarOf 32767 0).1, ph), none)
  else (Config.polarOf re im, some (re, im))

def State.tgtGain (s : State) (x p : Nat) : (Int × Int) × Option (Int × Int) :=
  clipGain (s.geti (CALT.TGT_RE x p)) (s.geti (CALT.TGT_IM x p))

/-- The delay target, clipped to 128 ticks. -/
def State.tgtDly (s : State) (x p : Nat) : Int := clip (-32768) 32768 (s.geti (CALT.TGT_DLY x p))

def State.corr (s : State) (x p : Nat) : CorrSt := s.cal.corrs.getD (x * 65 + p) {}
def State.setCorr (s : State) (x p : Nat) (c : CorrSt) : State := s.setCal (fun k => { k with corrs := k.corrs.set (x * 65 + p) c })

/-- The gain in force. -/
def State.setNow (s : State) (x p : Nat) (re im : Nat) : State := (s.set (CALT.NOW_RE x p) re).set (CALT.NOW_IM x p) im

/-- A gain in force that has reached its target. -/
def State.gainReached (s : State) (x p : Nat) : State :=
  match s.tgtGain x p with
  | (_, some (re, im)) => s.setNow x p (ofSigned 16 re) (ofSigned 16 im)
  | (mp, none) => let g := Config.gainOf mp.1 mp.2; s.setNow x p g.1 g.2

/-- A target takes effect at once (R240). -/
def State.corrAtOnce (s : State) (x p : Nat) : State :=
  let s := ((s.gainReached x p).seti (CALT.NOW_DLY x p) (s.tgtDly x p)).setCorr x p {}
  if p < 64 then s.gdNote p else s

/-- A step of at most `m` towards a target. -/
def stepTo (m x t : Int) : Int := if x ≤ t then min t (x + m) else max t (x - m)

/-- A phase step of at most `m`, the shorter way round; a turn is 1,080,000 units. -/
def phaseStep (m x t : Int) : Int :=
  let d := (t - x + 540000) % 1080000 - 540000
  if d.natAbs ≤ m.natAbs then t else if 0 ≤ d then x + m else x - m

/-- One update of one entry. -/
def State.corrStep (s : State) (x p : Nat) : State :=
  let c := s.corr x p
  let (tgt, exact) := s.tgtGain x p
  let here := c.polar.isNone && (match exact with
    | some (re, im) => s.geti (CALT.NOW_RE x p) == re && s.geti (CALT.NOW_IM x p) == im
    | none => (s.get (CALT.NOW_RE x p), s.get (CALT.NOW_IM x p)) == Config.gainOf tgt.1 tgt.2)
  let cur := c.polar.getD (Config.polarOf (s.geti (CALT.NOW_RE x p)) (s.geti (CALT.NOW_IM x p)))
  let m := stepTo (max 1 (s.get CAL0.SLEW_GAIN)) cur.1 tgt.1
  let ph := phaseStep (max 1 (s.get CAL0.SLEW_PH)) cur.2 tgt.2
  let (polar, s) :=
    if here then (none, s)
    else if (m, ph) = tgt then (none, s.gainReached x p)
    else let g := Config.gainOf m ph; (some (m, ph), s.setNow x p g.1 g.2)
  let d := s.geti (CALT.NOW_DLY x p)
  let t := s.tgtDly x p
  let n := if d = t then 0 else c.dly + 1
  if 30 / max 1 (s.get CAL0.SLEW_DLY) ≤ n then
    (s.seti (CALT.NOW_DLY x p) (stepTo 1 d t)).setCorr x p { polar := polar, dly := 0 }
  else s.setCorr x p { polar := polar, dly := n }

/-- The update at a multiple of 32,768 ticks; it pauses where a loop is not ready. -/
def State.corrUpdate (s : State) : State :=
  if s.mode = 5 ∧ s.tb % 32768 = 0 then
    let s := [0, 1].foldl (fun s x => (List.range 65).foldl (fun s p =>
      if s.calClocked p = false then s else if (s.path p).wdr ∧ p < 64 then s.corrAtOnce x p else s.corrStep x p) s) s
    allPaths.foldl (fun s n => s.gdNote n) s
  else s

def execCorrSlewUpdate (s : State) : Out := .next s.corrUpdate

/-- What a commit of CAL1 (0) or CAL2 (1) does besides the swap: outside M5, and on a withdrawn path, the targets take
effect at once. -/
def State.calCommitted (s : State) (x : Nat) : State :=
  let s := (List.range 65).foldl (fun s p => if s.mode ≠ 5 ∨ (p < 64 ∧ (s.path p).wdr) then s.corrAtOnce x p else s) s
  allPaths.foldl (fun s n => s.gdNote n) s

/-! ### Array calibration (R243) -/

/-- The correction 1/g of a result, Q2.14; its rounding is open and may be one step up by the free bits (log entry 9). -/
def invGain (re im : Int) (f : Nat) : Int × Int :=
  let m := re * re + im * im
  if m = 0 then (toSigned 16 f, toSigned 16 (f / 2 ^ 16))
  else (re * 2 ^ 28 / m + (f % 2 : Nat), -im * 2 ^ 28 / m + (f / 2 % 2 : Nat))

/-- A result is applied to the target, in both banks. -/
def State.arrayApply (s : State) (x p : Nat) (re im dly : Nat) : State :=
  let s := ((s.setBoth (CALT.TGT_RE x p) re).setBoth (CALT.TGT_IM x p) im).setBoth (CALT.TGT_DLY x p) dly
  let s := if s.mode = 5 ∧ (64 ≤ p ∨ (s.path p).wdr = false) then s else s.corrAtOnce x p
  s.raise 0x0AC EV.CAL0.RES_NEW

/-- An array result of direction `d` (0 transmit, 1 receive) of path `p` completes, once AVG measurements are (R242): gain word and delay. The reference
path's is 1 at delay 0. -/
def State.arrayResult (s : State) (d p g dly : Nat) : State :=
  let kind := 11 - d
  let key := d * 128 + p
  if s.calRunning kind p = false ∨ 65 ≤ p ∨ p < 64 ∧ s.cal.arrDone.look key < max 1 (s.get CAL0.AVG) then s
  else if s.calClocked p = false then s.calFail 5 kind p
  else
    let s := s.setCal (fun c => { c with arrDone := c.arrDone.put key 0 })
    let ref := decide (p = s.get CAL0.REF_PATH)
    let g := if ref then 0x40000000 else g
    let dly := if ref then 0 else dly % 2 ^ 18
    let s := if d = 0 then ((s.set (CAL3.RES_TX_G p) g).set (CAL3.RES_TX_D p) dly).set (CAL3.STAT_TX_VALID p) 1
      else ((s.set (CAL3.RES_RX_G p) g).set (CAL3.RES_RX_D p) dly).set (CAL3.STAT_RX_VALID p) 1
    let t := s.octTemp (p / 8 % 8) / 256
    let s := s.seti (if d = 0 then CAL3.STAT_TX_TEMP_CAL p else CAL3.STAT_RX_TEMP_CAL p) t
    let s := s.setCal (fun c => { c with arrAt := c.arrAt.put (d * 128 + p) (s.ao + 1) })
    let s := (s.calStamp kind p).fgKindEnd kind p
    let auto := s.on (if d = 0 then CAL0.ARR_AUTO_TX else CAL0.ARR_AUTO_RX)
    let role := s.get CAL0.ROLE
    if auto ∧ (role = 0 ∨ role = 3) then
      let (f, s) := s.freeNat
      let q := invGain (toSigned 16 (g / 2 ^ 16)) (toSigned 16 g) f
      let re := ofSigned 16 (satSigned 16 q.1)
      let im := ofSigned 16 (satSigned 16 q.2)
      let w := ofSigned 18 (-(toSigned 18 dly))
      if s.copying.look (0x0AD + d) = s.tb + 1 then (s.count CAL0.DISCARD_CNT).raise 0x0AC EV.CAL0.RES_DISCARD
      else if s.on (HDR.PENDING (0x0AD + d)) then s.setCal (fun c => { c with wait := c.wait ++ [⟨kind, p, [re, im, w]⟩] })
      else s.arrayApply d p re im w
    else s

/-- In ROLE 1, a result of another chip's source `q`, 64 to 255, is published on SOUND3 (R317). -/
def State.arrayOther (s : State) (q g dly : Nat) : State :=
  if s.get CAL0.ROLE = 1 ∧ 64 ≤ q ∧ q < 256 ∧ s.calRunning 11 q then
    (s.set (SOUND3.ARR_G q) g).set (SOUND3.ARR_D q) (dly % 2 ^ 18)
  else s

/-- `other` says that `p` is a source of another chip. -/
def execArrayResult (other : Bool) (d p g dly : Nat) (s : State) : Out :=
  .next (if other then s.arrayOther p g dly else s.arrayResult (d % 2) p g dly)

/-- PENDING of CAL1 (0) or CAL2 (1) falls. -/
def State.arrayPageFree (s : State) (x : Nat) : State :=
  let mine := fun (r : CalRes) => decide (r.kind = 11 - x)
  let due := s.cal.wait.filter mine
  let s := s.setCal (fun c => { c with wait := c.wait.filter (fun r => !(mine r)) })
  due.foldl (fun s r => s.arrayApply x r.path (r.vals.getD 0 0) (r.vals.getD 1 0) (r.vals.getD 2 0)) s

/-- AGE: seconds since the last array result, read off the always-on clock. -/
def State.arrayAge (s : State) (d p : Nat) : Nat :=
  let t := s.cal.arrAt.look (d * 128 + p)
  if t = 0 then 0xFFFF else min 0xFFFF ((s.ao + 1 - t) / 983040000)

/-! ### Foreground (R244) -/

/-- The kinds that a foreground run makes in a mode: kind 8 needs no run, and in M5 kinds 1, 10 and 11 are skipped. -/
def fgKinds (mode m : Nat) : Nat := clearMask 12 m (if mode = 5 then 0xD02 else 0x100)

def State.fgGo (s : State) : State :=
  if s.on CAL0.FG_BUSY then s
  else if s.mode ≠ 5 ∧ s.mode ≠ 6 then s.calFail 1 (((List.range 12).find? (fun k => bitOf (s.get CAL0.KIND_MASK) k)).getD 0) 0
  else
    let m := fgKinds s.mode (s.get CAL0.KIND_MASK)
    let ps := allPaths.filter (fun p => s.pathBit CAL0.FG_PATH_LO CAL0.FG_PATH_HI p)
    let s := (s.set CAL0.FG_BUSY 1).setCal (fun c => { c with fg := ps.map (fun p => (p, m)) })
    -- paths that are off fail; in M6 every transmit path is held in range 3
    let off := fun (p : Nat) => !s.operational p
    let s := s.fgEnd off 0xFFF 6
    if s.mode = 6 then
      allPaths.foldl (fun s n => if s.act (txPage n) ∧ s.get (TXPATH.RANGE_ACT n) ≠ 3 then s.rangeStart n s.ao 3 else s) s
    else s.fgNext

/-- ABORT ends every kind in progress. -/
def State.fgAbort (s : State) : State := if s.on CAL0.FG_BUSY then s.fgEnd (fun _ => true) 0xFFF 4 else s

/-- All kinds have ended: BUSY falls. -/
def State.fgDone (s : State) : State :=
  if s.on CAL0.FG_BUSY ∧ s.cal.fg.all (fun e => e.2 == 0) then
    let s := ((s.set CAL0.FG_BUSY 0).setCal (fun c => { c with fg := [] })).raise 0x0AC EV.CAL0.FG_DONE
    if s.mode ≠ 5 then
      allPaths.foldl (fun s n =>
        if s.act (txPage n) ∧ s.get (TXPATH.RANGE_ACT n) ≠ s.get (TXPATH.FS_RANGE n) then s.rangeStart n s.ao (s.get (TXPATH.FS_RANGE n))
        else s) s
    else s
  else s

def execFgDone (s : State) : Out := .next s.fgDone

/-! ### Schedules (R246) -/

/-- The interval of a kind has passed, or the octet's temperature has moved, since its last result on the path. -/
def State.calIsDue (s : State) (k p : Nat) : Bool :=
  let key := k * 128 + p
  let t := s.cal.last.look key
  let moved := (s.octTemp (p / 8 % 8) - toSigned 24 (s.cal.lastTemp.look key)).natAbs
  decide (0 < s.get (CAL0.INTERVAL k)) && (t == 0 || decide (t - 1 + s.get (CAL0.INTERVAL k) * 983040000 ≤ s.ao))
    || (decide (0 < s.get (CAL0.DT_TRIG k)) && t != 0 && decide (s.get (CAL0.DT_TRIG k) * 128 < moved))

/-- A kind is scheduled again; kinds 2 and 6 set DUE for firmware. -/
def State.calDue (s : State) (k p : Nat) : State :=
  if s.calIsDue k p = false then s
  else
    let s := s.setCal (fun c => { c with due := c.due.put (k * 128 + p) 1 })
    if k = 2 then (s.set (CAL3.STAT_RX_DUE p) 1).raise 0x0AC EV.CAL0.RES_NEW
    else if k = 6 then (s.set (CAL3.STAT_TX_DUE p) 1).raise 0x0AC EV.CAL0.RES_NEW
    else s

def execCalDue (k p : Nat) (s : State) : Out := .next (s.calDue k p)

end Sys2Proof.Machine
end

