-- ==== Sys2Proof/Machine/Erl.lean ====
section
/-! DEFINITION. The radio link protocol (12): markers and alignment, packets and their checks, playout, uplink windows,
CTL messages, events, capture export, and time exchanges. A packet is the list of its 32-bit words. -/

namespace Sys2Proof.Machine

/-! ### Codes (R270, R274) -/

/-- One bit of a most-significant-first CRC-8 with x^8 + x^2 + x + 1. -/
def crc8Bit (c : Nat) (b : Bool) : Nat :=
  let top := bitOf c 7 != b
  let c := c * 2 % 256
  if top then c ^^^ 0x07 else c

/-- CRC8 over the lowest `n` bits of `v`, bit 0 first. -/
def crc8 (n v : Nat) : Nat := ((List.range n).map (fun i => bitOf v i)).foldl crc8Bit 0

/-- One bit of the reflected CRC-32. -/
def crc32Step (c : Nat) : Nat := if c % 2 = 1 then c / 2 ^^^ 0xEDB88320 else c / 2

def crc32Byte (c b : Nat) : Nat := (List.range 8).foldl (fun c _ => crc32Step c) (c ^^^ b)

/-- The register of the CRC-32 after words, each word's bytes from bits [7:0] upward; each word is finished before the
next, so that the kernel evaluates long packets. -/
def crc32From : List Nat → Nat → Nat
  | [], c => c
  | w :: t, c =>
    match (List.range 4).foldl (fun c i => crc32Byte c (bits w (8 * i) 8)) c with
    | 0 => crc32From t 0
    | k + 1 => crc32From t (k + 1)

/-- CRC-32 of words. -/
def crc32 (ws : List Nat) : Nat := crc32From ws 0xFFFFFFFF ^^^ 0xFFFFFFFF

/-! ### Markers (R269 to R273) -/

def State.setErl (s : State) (f : ErlSt → ErlSt) : State := { s with erl := f s.erl }

/-- A marker block. -/
def markerBlock (lane frame ofs : Nat) (resume : Bool) : Nat :=
  let v := ofs % 2 ^ 20 * 2 ^ 36 + frame % 2 ^ 20 * 2 ^ 16 + (if resume then 2 ^ 12 else 0) + lane % 16 * 2 ^ 8 + 0xA5
  crc8 56 v * 2 ^ 56 + v

/-- Lanes in use of a direction: 2^k. -/
def State.lanesDs (s : State) : Nat := 2 ^ min 4 (s.get ERL0.LANES_DS)
def State.lanesUs (s : State) : Nat := 2 ^ min 4 (s.get ERL0.LANES_US)

/-- At a frame tick, or after a wake with RESUME, a marker goes out on every upstream lane in use that is awake; `ofs` is
its launch instant after the frame tick in 1/256 tick, within one block of a frame tick (R270). -/
def State.markerSend (s : State) (ofs : Nat) (resume : Bool) : State :=
  if s.act 0x0B1 && s.awake false && (resume || (s.tb % 2048 == 0 && decide (ofs * s.uiPerTick ≤ 66 * 256))) then
    let lanes := (List.range s.lanesUs).filter (fun n => s.act (usPage n))
    let blocks := lanes.map (fun n => [markerBlock n (s.tb / 2048) ofs resume])
    s.setErl (fun e => { e with out := blocks })
  else s

def execMarkerSend (ofs : Nat) (resume : Bool) (s : State) : Out := .next (s.markerSend ofs resume)

/-- The frame number nearest to `m` with these low 20 bits. -/
def nearFrame (m low : Nat) : Int :=
  let d : Int := ((low : Int) - m) % (2 ^ 20 : Nat)
  if d < 2 ^ 19 then m + d else m + d - 2 ^ 20

/-- A marker is received on downstream lane `lane`: `block` is the block payload and `frac` the 1/256 tick of its
arrival; `skew` is its delay behind the latest lane in words, of which 8 are tolerated (R255). A bad CRC8 counts as a missing
marker; any other block type than MARKER and IDLE is malformed (R269). A marker ends what a malformed packet left (R277). -/
def State.markerReceive (s : State) (lane block frac skew : Nat) : State :=
  if s.act 0x0B1 = false ∨ s.act (dsPage lane) = false then s
  else if bits block 0 8 ≠ 0xA5 then
    if bits block 0 8 = 0x3C then s else (s.count ERL0.MALF_CNT).raise 0x0B1 EV.ERL0.MALFORMED
  else if crc8 56 (block % 2 ^ 56) ≠ bits block 56 8 ∨ bits block 8 4 ≠ lane then s
  else
    let s := s.setErl (fun e => { e with skip := false })
    let own := s.tb / 2048
    let m := nearFrame own (bits block 16 20)
    let resume := bitOf block 12
    let base : Int := m * 2048 * 256 + (if resume then (bits block 36 20 : Int) else 0)
    let arr : Int := (s.tb * 256 + frac % 256 : Nat) - base
    let s := if lane = 0 then s.seti ERL0.DS_ARR arr else s
    let s := s.set (DS.WORD_SKEW lane) (min 8 skew)
    if 0 ≤ arr ∧ arr < 512 * 256 ∧ (resume ∨ m = own) ∧ skew ≤ 8 then s.setErl (fun e => { e with good := setBit e.good lane }) else s

def execMarkerReceive (lane block frac skew : Nat) (s : State) : Out :=
  .next (s.markerReceive (lane % 16) block frac skew)

/-! ### Link down and up (R298, R299) -/

/-- The link goes down with a cause of R298; the outage is logged and the TIM measurement lapses. -/
def State.linkDown (s : State) (cause : Nat) : State :=
  let up := s.on ERL0.LINK_UP
  let s := (s.set ERL0.LINK_UP 0).set ERL0.FRAME_ALIGNED 0
  let s := s.setErl (fun e => { e with run := 0, fails := [] })
  if up then
    let s := s.set ERL0.DOWN_CAUSE cause
    let s := (s.count ERL0.LINK_DOWN_CNT).raiseLog 2 0x0B1 EV.ERL0.LINK_DOWN
    let s := s.setErl (fun e => { e with held := [], downAt := s.ao, downTb := s.tb })
    { s with tim := { s.tim with meas := none } }.selectSource
  else s

/-- The arrival window of a frame closes, 512 ticks into the frame: it is good where every lane in use had a good
marker, and no generator, checker or loop-back is enabled (R265). 64 good frames align; four failed frames on one lane end it. Checks pause while the direction sleeps. -/
def State.windowJudge (s : State) : State :=
  if s.act 0x0B1 && s.awake true && s.tb % 2048 == 512 then
    let lanes := List.range s.lanesDs
    let good := fun n => bitOf s.erl.good n && !s.laneTest true && !s.laneTest false
    let all := lanes.all good
    let fails := lanes.foldl (fun f n => f.put n (if good n then 0 else f.look n + 1)) s.erl.fails
    let s := s.setErl (fun e => { e with good := 0, fails := fails, run := if all then e.run + 1 else 0 })
    if lanes.any (fun n => decide (4 ≤ fails.look n)) then s.linkDown 1
    else if 64 ≤ s.erl.run then s.set ERL0.FRAME_ALIGNED 1
    else s
  else s

def execMarkerWindowEnd (s : State) : Out := .next s.windowJudge

/-- The cause of R298 stands. -/
def State.downCause (s : State) (c : Nat) : Bool :=
  let lanes := List.range s.lanesDs
  if c = 1 then lanes.any (fun n => decide (4 ≤ s.erl.fails.look n))
  else if c = 2 then lanes.any (fun n => !s.on (DS.BLOCK_LOCK n))
  else if c = 3 then lanes.any (fun n => !s.on (CK.CLK_PRESENT (n / 8)))
  else if c = 4 then lanes.any (fun n => bitOf (s.get (HDR.EVT (ckPage (n / 8)))) EV.CK.CROSS_SLIP && !s.on (DS.BLOCK_LOCK n))
  else if c = 5 then s.tl.ds.failed
  else if c = 6 then !s.on LPLL.READY
  else false

def execLinkDown (c : Nat) (s : State) : Out := .next (if s.downCause c then s.linkDown c else s)

/-- Frames are aligned again with the LPLL ready; an outage before it is reported (log entry 38). -/
def State.linkUp (s : State) : State :=
  if s.on ERL0.FRAME_ALIGNED && s.on LPLL.READY && !s.on ERL0.LINK_UP then
    let t := (s.set ERL0.LINK_UP 1).raise 0x0B1 EV.ERL0.LINK_UP
    if s.erl.downAt = 0 then t else t.queueEvt (.status 4 (s.get ERL0.DOWN_CAUSE) s.erl.downTb)
  else s

def execLinkUp (s : State) : Out := .next s.linkUp

/-! ### Receiving a packet (R274 to R277, R294, R295) -/

/-- A packet after its checks: its class, SEQ, SUB, word 1 and the words that follow, without envelope and trailer. -/
structure Packet where
  cls : Nat
  seq : Nat
  sub : Nat
  w1 : Nat
  body : List Nat
  deriving DecidableEq, Repr

/-- The packet cannot be received whole: LEN below 2 or not its length, or a control block or marker within it (`broken`). -/
def badPacket (ws : List Nat) (broken : Bool) : Bool :=
  let len := bits (ws.headD 0) 16 12
  broken || decide (len < 2) || decide (ws.length ≠ 2 * len)

/-- The classes valid downstream (R275). -/
def downClass (cls : Nat) : Bool := [1, 3, 4, 5].contains cls

/-- The initial value of an envelope. -/
def gcmIv (cls dir ctr : Nat) : Nat := cls * 2 ^ 92 + dir * 2 ^ 91 + ctr

/-- The envelope of a packet is opened; none where it is discarded. -/
def State.openEnvelope (s : State) (cls : Nat) (ws : List Nat) : Option (List Nat) × State :=
  let n := ws.length
  if ws.getD (n - 2) 0 % 2 = 0 ∨ n < 10 then (none, s.count ERL1.UNAUTH_CNT)
  else
    let ctr := join64 (ws.getD 2 0) (ws.getD 3 0)
    let last := s.erl.ctr.look cls
    if last ≠ 0 ∧ ctr ≤ last - 1 then (none, s.count ERL1.REPLAY_CNT)
    else
      match Config.gcmOpen s.sec.key (gcmIv cls 0 ctr) (ws.take 4) ((ws.drop 4).take (n - 6)) with
      | some m => (some m, s.setErl (fun e => { e with ctr := e.ctr.put cls (ctr + 1) }))
      | none => (none, (s.count ERL0.AUTH_FAIL_CNT).raiseLog 2 0x0B1 EV.ERL0.AUTH_FAIL)

/-- A packet has been received whole: its checks, and what is left of it where it is acted on. After a malformed one the
content stream is ignored up to the next marker (R277). -/
def State.receive (s : State) (ws : List Nat) (broken : Bool) : Option Packet × State :=
  let w0 := ws.headD 0
  let cls := bits w0 28 4
  if s.act 0x0B1 = false then (none, s)
  else if s.erl.skip then (none, s)
  else if badPacket ws broken then
    (none, ((s.count ERL0.MALF_CNT).raise 0x0B1 EV.ERL0.MALFORMED).setErl (fun e => { e with skip := true }))
  else if crc32 ws.dropLast ≠ ws.getLastD 0 then (none, s.count ERL0.CRC_ERR_CNT)
  else if downClass cls = false then (none, (s.count ERL0.MALF_CNT).raise 0x0B1 EV.ERL0.MALFORMED)
  else
    let seq := bits w0 8 8
    let prev := s.erl.rxSeq.look cls
    let s := if seq = (if prev = 0 then 0 else prev % 256) then s else s.count ERL0.SEQ_GAP_CNT
    let s := s.setErl (fun e => { e with rxSeq := e.rxSeq.put cls (256 + (seq + 1) % 256) })
    -- before alignment, and in M2, only MGT and TIM are processed
    if (s.on ERL0.FRAME_ALIGNED = false ∨ s.mode = 2) ∧ (cls = 1 ∨ cls = 3) then (none, s)
    else if s.on ERL0.SECURED ∧ (cls = 3 ∨ cls = 4) then
      match s.openEnvelope cls ws with
      | (some m, s) => (some ⟨cls, seq, bits w0 0 8, ws.getD 1 0, m⟩, s)
      | (none, s) => (none, s)
    else (some ⟨cls, seq, bits w0 0 8, ws.getD 1 0, (ws.drop 2).take (ws.length - 4)⟩, s)

/-- A packet of one class and message. -/
def State.receiveAs (s : State) (cls : Nat) (sub : Option Nat) (ws : List Nat) (broken : Bool) : Option Packet × State :=
  match s.receive ws broken with
  | (some p, s) => if p.cls = cls ∧ (sub = none ∨ sub = some p.sub) then (some p, s) else (none, s)
  | r => r

/-! ### Sending a packet -/

/-- Pads message words to whole content words. -/
def padEven (ws : List Nat) : List Nat := if ws.length % 2 = 0 then ws else ws ++ [0]

/-- A packet of a class is sent, in its envelope where the link is secured. -/
def State.packet (s : State) (cls sub w1 : Nat) (body : List Nat) : State :=
  let seq := s.erl.txSeq.look cls % 256
  let body := padEven body
  let secured := s.on ERL0.SECURED && (cls == 3 || cls == 4)
  let len := 2 + body.length / 2 + (if secured then 3 else 0)
  let head := [cls * 2 ^ 28 + len % 4096 * 2 ^ 16 + seq * 2 ^ 8 + sub, w1]
  let ctr := s.erl.ctr.look (cls + 16) + 1
  let inner := if secured then
      let aad := head ++ [ctr % 2 ^ 32, ctr / 2 ^ 32]
      aad ++ Config.gcmSeal s.sec.key (gcmIv cls 1 ctr) aad body ++ [1]
    else head ++ body ++ [0]
  let pkt := inner ++ [crc32 inner]
  s.setErl (fun e => { e with
    txSeq := e.txSeq.put cls (256 + (seq + 1) % 256)
    ctr := if secured then e.ctr.put (cls + 16) ctr else e.ctr
    out := e.out ++ [pkt] })

/-- A packet of a class goes upstream. While the LPLL is not READY it cannot be sent, and is dropped (R298). -/
def State.send (s : State) (cls sub w1 : Nat) (body : List Nat) : State :=
  if s.on LPLL.READY then s.packet cls sub w1 body else s

/-- The packets sent are those of the command in progress. -/
def State.sendClear (s : State) : State := s.setErl (fun e => { e with out := [] })

/-- The link can carry a packet upstream now. -/
def State.linkOpen (s : State) : Bool := s.act 0x0B1 && s.on ERL0.LINK_UP && s.awake false

/-! ### Samples (R278 to R286) -/

/-- LEN of a sample packet by format. -/
def sampleLen (fmt : Nat) : Nat := [67, 51, 40].getD fmt 0

/-- The stream exists in the mode of a direction (R171). -/
def State.streamOk (s : State) (d k : Nat) : Bool :=
  match s.get (BEAM.MODE d) with
  | 1 => decide (k < 64)
  | 2 => decide (k < s.get (BEAM.NLAYERS d)) || (decide (16 ≤ k ∧ k < 24) && s.on (BEAM.RAW_VALID d (k - 16)))
  | _ => decide (k < s.get (BEAM.NLAYERS d))

/-- The link format in force at a coming stamp, with a beam commit that is pending (R282). -/
def State.fmtAt (s : State) (st : Nat) : Nat :=
  match s.commits.find? (fun c => c.page == beamPage 0) with
  | some c => if c.target ≤ st ∧ s.mode ≠ 5 then s.inactive (BEAM.FMT 0) else s.get (BEAM.FMT 0)
  | none => s.get (BEAM.FMT 0)

/-- An IQD packet enters the playout buffer, or is discarded. -/
def State.iqd (s : State) (p : Packet) : State :=
  let fmt := bits p.sub 6 2
  let k := bits p.sub 0 6
  let st := join64 (p.body.getD 0 0) (p.body.getD 1 0)
  if fmt ≠ s.fmtAt st ∨ p.body.length + 4 ≠ 2 * sampleLen fmt ∨ s.streamOk 0 k = false then s.count ERL1.DL_BAD_CNT
  else if st < s.tb + 128 then s.count ERL1.DL_LATE_CNT
  else if s.tb + 16640 < st then s.count ERL1.DL_EARLY_CNT
  else
    let same := s.erl.held.any (fun x => x.stream == k && x.stamp == st)
    let s := if same then s.count ERL1.DL_BAD_CNT else s
    let span := 128 * rateL s.dlRate
    let keep := s.erl.held.filter (fun x => !(x.stream == k && x.stamp == st) && decide (s.tb < x.stamp + span))
    s.setErl (fun e => { e with held := keep ++ [⟨fmt, k, st, bits p.w1 0 16, p.body.drop 2⟩] })

def State.iqdPacket (s : State) (ws : List Nat) (broken : Bool) : State :=
  match s.receiveAs 1 none ws broken with
  | (some p, s) => s.iqd p
  | (none, s) => s

def execIqdPacket (ws : List Nat) (broken : Bool) (s : State) : Out := .next (s.iqdPacket ws broken)

/-- No sample is held for a stream at the start of its window: zero samples are released. -/
def State.playoutMiss (s : State) (k : Nat) : State :=
  let span := 128 * rateL s.dlRate
  if s.act (beamPage 0) && s.streamOk 0 k && s.tb % span == 0
      && !(s.erl.held.any (fun x => x.stream == k && x.stamp == s.tb)) then
    let s := s.count ERL1.DL_MISS_CNT
    let quiet := match s.erl.missAt with | some t => decide (s.ao < t + 2 ^ 20) | none => false
    if quiet then s else (s.setErl (fun e => { e with missAt := some s.ao })).raise 0x0B1 EV.ERL0.DL_MISS
  else s

def execPlayoutMiss (k : Nat) (s : State) : Out := .next (s.playoutMiss k)

/-- One part of a 12-bit sample: rounded convergently to a multiple of 2^4 and saturated (R280). -/
def part12 (x : Int) : Nat := ofSigned 12 (clip (-2048) 2047 (divConv x 16))

/-- A part scaled by 2^(E - 7), rounded convergently. -/
def scaleBfp (e : Nat) (x : Int) : Int := if 7 ≤ e then x * 2 ^ (e - 7) else divConv x (2 ^ (7 - e))

/-- The largest exponent for which every part of a block fits in 9 bits. -/
def bfpExp (xs : List Sample) : Nat :=
  (((List.range 16).filter (fun e => xs.all (fun x =>
    decide (-256 ≤ scaleBfp e x.i ∧ scaleBfp e x.i ≤ 255 ∧ -256 ≤ scaleBfp e x.q ∧ scaleBfp e x.q ≤ 255)))).getLast?).getD 0

/-- One BFP-9 block as a number. -/
def bfpBlock (xs : List Sample) : Nat :=
  let e := bfpExp xs
  e + ((xs.zip (List.range xs.length)).map (fun (x : Sample × Nat) =>
    ofSigned 9 (scaleBfp e x.1.i) * 2 ^ (4 + 18 * x.2) + ofSigned 9 (scaleBfp e x.1.q) * 2 ^ (13 + 18 * x.2))).foldl (· + ·) 0

/-- A bit string as `n` words, bit 0 first. -/
def wordsOf (n v : Nat) : List Nat := (List.range n).map (fun i => bits v (32 * i) 32)

/-- The payload of 128 samples (R279). -/
def iquPayload (fmt : Nat) (xs : List Sample) : List Nat :=
  if fmt = 0 then xs.map sampleWord
  else if fmt = 1 then
    wordsOf 96 (((xs.zip (List.range xs.length)).map (fun (x : Sample × Nat) =>
      (part12 x.1.i * 2 ^ 12 + part12 x.1.q) * 2 ^ (24 * x.2))).foldl (· + ·) 0)
  else
    wordsOf 74 (((List.range 6).map (fun j => bfpBlock ((xs.drop (24 * j)).take 24) * 2 ^ (436 * j))).foldl (· + ·) 0)

/-- A map over the 16 groups of 8 samples. -/
def groupMap (f : Sample → Bool) (xs : List Sample) : Nat :=
  ((List.range 16).map (fun i => if ((xs.drop (8 * i)).take 8).any f then 2 ^ i else 0)).foldl (· + ·) 0

/-- The 128 samples of stream `k` from `stamp` on, `len` ticks apart; one that is not there, that an underflow of the upstream
lane queue meets (R13), or that comes after a change of the setting (R282), is marked invalid. -/
def State.ulWindow (s : State) (stamp len k : Nat) (stop : Option Nat) : List Sample :=
  let xs := ((s.strm.ul.find? (fun e => e.1 == k)).map (fun e => e.2)).getD []
  (List.range 128).map (fun i =>
    let t := stamp + i * len
    match xs.find? (fun x => x.stamp == t) with
    | some x => { x with invalid := x.invalid || s.lanes.lost || (match stop with | some c => decide (c ≤ t) | none => false) }
    | none => ⟨t, 0, 0, true, false⟩)

/-- The setting of the window whose sample 0 has the ADC instant `t0`: its stamp, RATE, FMT, and where its valid samples end.
A window that begins before a change of the setting keeps the old one (R282). -/
def State.ulSetting (s : State) (t0 : Nat) : Nat × Nat × Nat × Option Nat :=
  let new := (t0 + gRx s.ulRate + 32, s.ulRate, s.get (BEAM.FMT 1), none)
  match s.erl.ulOld with
  | some o => if t0 + gRx o.rate + 32 < o.at_ then (t0 + gRx o.rate + 32, o.rate, o.fmt, some o.at_) else new
  | none => new

/-- The IQU packets of the window whose sample 0 was taken L_UL ago, in stream order; a window that is INVALID in every stream
is not sent (R281, R285). -/
def State.iquWindow (s : State) : State :=
  let s := s.sendClear
  let (stamp, rate, fmt, stop) := s.ulSetting (s.tb - 16 * s.get ERL0.LAT_UL)
  if s.linkOpen && s.act (beamPage 1) && decide (16 * s.get ERL0.LAT_UL ≤ s.tb) && stamp % (128 * rateL rate) == 0 then
    let w := ((List.range 64).filter (s.streamOk 1)).map (fun k => (k, s.ulWindow stamp (rateL rate) k stop))
    let s := { s with lanes := { s.lanes with lost := false } }
    if w.all (fun x => x.2.all (fun y => y.invalid)) then s
    else w.foldl (fun s x =>
      s.send 2 (fmt * 64 + x.1) (groupMap (fun y => y.ovl) x.2 * 2 ^ 16 + groupMap (fun y => y.invalid) x.2)
        ([stamp % 2 ^ 32, stamp / 2 ^ 32] ++ iquPayload fmt x.2)) s
  else s

def execIquWindowSend (s : State) : Out := .next s.iquWindow

/-! ### CTL messages (R287, R288) -/

/-- The ACK of a CTL packet: the first item that is not OK, and whether there is another. -/
def State.ctlAck (s : State) (p : Packet) (status : List Nat) : State :=
  let bad := (status.zip (List.range status.length)).filter (fun x => x.1 != 0)
  let w2 := match bad with
    | [] => 0
    | (c, i) :: t => i * 2 ^ 8 + (if t.isEmpty then 0 else 8) + c
  s.send 3 0x80 (p.seq * 2 ^ 8 + p.sub) [w2, 0]

/-- A CTL packet with `waiting` others before it: a seventeenth is discarded. -/
def State.ctl (s : State) (sub waiting : Nat) (ws : List Nat) (broken : Bool)
    (eff : Packet → State → List Nat × State) : State :=
  match s.sendClear.receiveAs 3 (some sub) ws broken with
  | (some p, s) => if 16 ≤ waiting then s.count ERL1.CTL_OVF_CNT else let r := eff p s; r.2.ctlAck p r.1
  | (none, s) => s

/-- The weights of one path pair, as class BB. -/
def State.ctlPair (s : State) (d set b l k even odd : Nat) : Nat × State :=
  let pg := setPage d
  match s.block d set b with
  | none => (stBUS_ERROR, s)
  | some blk =>
    if 32 ≤ k ∨ 24 ≤ l then (stBUS_ERROR, s)
    else match s.pageRefusal .bb pg with
      | some r => (r, s)
      | none => match s.bankRefusal d set b with
        | some r => (r, s)
        | none => (stOK, s.weightWhole blk l k even odd)

def State.ctlWeights (s : State) (p : Packet) : List Nat × State :=
  let n := min (bits p.w1 0 6) (p.body.length / 2)
  let k0 := bits p.w1 8 5
  (List.range n).foldl (fun (a : List Nat × State) i =>
    let r := a.2.ctlPair (bits p.w1 31 1) (bits p.w1 22 8) (bits p.w1 30 1) (bits p.w1 16 5) (k0 + i)
      (p.body.getD (2 * i) 0) (p.body.getD (2 * i + 1) 0)
    let at_ := 0x50000000 + bits p.w1 31 1 * 0x400000 + bits p.w1 22 8 * 0x4000 + bits p.w1 30 1 * 0x2000
      + bits p.w1 16 5 * 0x100 + 8 * (k0 + i)
    (a.1 ++ [r.1], if 2 ≤ r.1 then r.2.refuse .bb at_ r.1 else r.2)) ([], s)

def execCtlWeights (waiting : Nat) (ws : List Nat) (broken : Bool) (s : State) : Out :=
  .next (s.ctl 1 waiting ws broken (fun p s => s.ctlWeights p))

/-- One entry of a TIMELINE message is pushed as class BB. -/
def State.ctlEntry (s : State) (t act arg : Nat) : Nat × State :=
  let r := s.pushRefusal .bb act arg
  match s.writeRefusal .bb TIMELINE0.ENQ_CODE 1 r with
  | some code =>
    let s := s.refuse .bb (regAddr 0x0A8 0x054) code
    (code, if r = some stPENDING ∧ code = stPENDING then s.raise 0x0A8 EV.TIMELINE0.Q_FULL else s)
  | none => (stOK, s.push .bb t act arg)

def State.ctlTimeline (s : State) (p : Packet) : List Nat × State :=
  (List.range (min (bits p.w1 0 6) (p.body.length / 4))).foldl (fun (a : List Nat × State) i =>
    let r := a.2.ctlEntry (join64 (p.body.getD (4 * i) 0) (p.body.getD (4 * i + 1) 0)) (p.body.getD (4 * i + 2) 0)
      (p.body.getD (4 * i + 3) 0)
    (a.1 ++ [r.1], r.2)) ([], s)

def execCtlTimeline (waiting : Nat) (ws : List Nat) (broken : Bool) (s : State) : Out :=
  .next (s.ctl 2 waiting ws broken (fun p s => s.ctlTimeline p))

/-- SLEEP: the link asks for a state of each direction whose field is not 3. -/
def State.ctlSleep (s : State) (p : Packet) : List Nat × State :=
  let from_ := join64 (p.body.getD 0 0) (p.body.getD 1 0)
  let until_ := join64 (p.body.getD 2 0) (p.body.getD 3 0)
  let put := fun (s : State) (ds : Bool) (f : Nat) =>
    if f = 3 then s else s.setLane ds (fun l => { l with erl := if f = 0 then none else some (f, from_, until_) })
  ([stOK], put (put s true (bits p.w1 0 2)) false (bits p.w1 4 2))

def execCtlSleep (waiting : Nat) (ws : List Nat) (broken : Bool) (s : State) : Out :=
  .next (s.ctl 4 waiting ws broken (fun p s => s.ctlSleep p))

/-! ### Events and capture (R290 to R293, R352, R439) -/

/-- The first waiting EVT packet is sent. -/
def State.evtSend (s : State) : State :=
  let s := s.sendClear
  match s.evtQ with
  | [] => s
  | e :: t =>
    if s.linkOpen then
      let s := { s with evtQ := t }
      match e with
      | .events pg b tick => s.send 7 1 pg [b, tick % 2 ^ 32, tick / 2 ^ 32, 0]
      | .status c d st => s.send 7 2 c [d, st % 2 ^ 32, st / 2 ^ 32, 0]
    else s

def execEvtPacketSend (s : State) : Out := .next s.evtSend

/-- Bytes of a port's segment stream that are there to export, numbered from the arm. -/
def State.capReady (s : State) (k : Nat) : Nat :=
  match (s.cap k).seg with
  | some g => if s.on (CP.BUF_MODE k) then g.pos else g.hdr
  | none => (s.cap k).endPos

/-- The next words of a segment stream, up to an uncorrectable code word. -/
def State.exportWords (s : State) (k : Nat) : Nat → Nat → List Nat × State
  | _, 0 => ([], s)
  | o, n + 1 =>
    match s.readMem reqDATAPATH (s.capBase k + o % max 1 (s.capSize k)) with
    | (some v, s) => let r := State.exportWords s k (o + 4) n; (v :: r.1, r.2)
    | (none, s) => ([], s.setCap k (fun c => { c with expStop := true }))

/-- A port with EXP_BB sends its next CAP packet, where the record grants it. -/
def State.captureExport (s : State) (k : Nat) : State :=
  let s := s.sendClear
  let c := s.cap k
  let n := min 256 ((s.capReady k - c.expPos) / 4)
  if s.act (capPage k) = false ∨ s.on (CP.EXP_BB k) = false then s
  else if s.expBbPermitted = false then
    if c.expDenied then s else (s.setCap k (fun c => { c with expDenied := true })).raise (capPage k) EV.CP.EXPORT_DENIED
  else if s.linkOpen = false ∨ c.expStop ∨ n = 0 then s
  else
    let r := s.exportWords k c.expPos n
    if r.2.cap k |>.expStop then r.2
    else (r.2.setCap k (fun c => { c with expPos := c.expPos + 4 * n })).send 6 k c.expPos r.1

def execCaptureExport (k : Nat) (s : State) : Out := .next (s.captureExport k)

/-! ### Time exchange (R296, R297) -/

/-- A time of a TIM packet, in 1/256 tick. -/
def timeAt (ws : List Nat) (i : Nat) : Nat := join64 (ws.getD i 0) (ws.getD (i + 1) 0) * 256 + ws.getD (i + 2) 0 % 256

def timeWords (t : Nat) : List Nat := [t / 256 % 2 ^ 32, t / 2 ^ 40, t % 256]

def State.setTim (s : State) (f : TimSt → TimSt) : State := { s with tim := f s.tim }

/-- An exchange is rejected. -/
def State.timReject (s : State) : State := (s.count ERL2.REJECTED).raise 0x0B1 EV.ERL0.TIM_REJECT

/-- REQ arrives at `t2`, in 1/256 tick. A fifth open exchange closes the oldest. -/
def State.timReq (s : State) (ws : List Nat) (broken : Bool) (t2 : Nat) : State :=
  match s.receiveAs 5 (some 1) ws broken with
  | (some p, s) =>
    let id := bits p.w1 0 16
    let s := s.setTim (fun t => { t with opened := t.opened.filter (fun x => decide (x.1 ≠ id)) })
    let s := if 4 ≤ s.tim.opened.length then (s.setTim (fun t => { t with opened := t.opened.tail })).timReject else s
    s.setTim (fun t => { t with opened := t.opened ++ [(id, timeAt p.body 0, t2, 0)] })
  | (none, s) => s

def execTimReq (ws : List Nat) (broken : Bool) (t2 : Nat) (s : State) : Out := .next (s.timReq ws broken t2)

/-- The RSP of an open exchange departs at `t3`, in 1/256 tick. -/
def State.timRsp (s : State) (id t3 : Nat) : State :=
  let s := s.sendClear
  match s.tim.opened.find? (fun x => x.1 == id) with
  | some (_, _, t2, 0) =>
    if s.linkOpen ∨ s.mode = 2 ∨ s.on ERL0.FRAME_ALIGNED = false then
      let s := s.setTim (fun t => { t with opened := t.opened.map (fun x => if x.1 = id then (x.1, x.2.1, x.2.2.1, t3) else x) })
      s.send 5 2 id (timeWords t2 ++ timeWords t3)
    else s
  | _ => s

def execTimRsp (id t3 : Nat) (s : State) : Out := .next (s.timRsp id t3)

/-- The number of a list's elements below `x`, for ranks. -/
def insertInt (x : Int) : List Int → List Int
  | [] => [x]
  | y :: t => if x ≤ y then x :: y :: t else y :: insertInt x t

def sortInt (l : List Int) : List Int := l.foldr insertInt []

/-- Twice the median of eight values. -/
def median2 (l : List Int) : Int := let s := sortInt l; s.getD 3 0 + s.getD 4 0

/-- Offset and delay of an exchange, each halving rounded convergently. -/
def timOffset (t1 t2 t3 t4 : Nat) (a : Int) : Int × Int :=
  let up : Int := (t4 : Int) - t3
  let dn : Int := (t2 : Int) - t1
  (divConv (up - dn - a) 2, divConv (up + dn) 2)

/-- FIN closes an exchange with t4. -/
def State.timFin (s : State) (ws : List Nat) (broken : Bool) : State :=
  match s.receiveAs 5 (some 3) ws broken with
  | (some p, s) =>
    let id := bits p.w1 0 16
    match s.tim.opened.find? (fun x => x.1 == id) with
    | none => s.timReject
    | some (_, t1, t2, t3) =>
      let s := s.setTim (fun t => { t with opened := t.opened.filter (fun x => decide (x.1 ≠ id)) })
      if t3 = 0 then s.timReject
      else
        let (th, de) := timOffset t1 t2 t3 (timeAt p.body 0) (s.geti ERL2.ASYM)
        let full := decide (8 ≤ s.tim.deltas.length)
        if full ∧ (2 * s.get ERL2.TOL : Int) < ((2 * de - median2 s.tim.deltas).natAbs : Int) then s.timReject
        else
          let (f, s) := s.freeNat
          let s := s.setTim (fun t =>
            let h := (t.hist ++ [(t2, th)])
            let h := h.drop (h.length - 2 ^ s.get ERL2.AVG_K)
            let d := t.deltas ++ [de]
            { t with deltas := d.drop (d.length - 8), hist := h, meas := some (th, s.tb),
                     freq := slopeErr (h.map (fun x => (x.1 - (h.headD (0, 0)).1, x.2))) f })
          let s := ((s.seti ERL2.OFFSET th).seti ERL2.DELAY de).count ERL2.ACCEPTED
          (s.raise 0x0B1 EV.ERL0.TIM_DONE).selectSource
  | (none, s) => s

def execTimFin (ws : List Nat) (broken : Bool) (s : State) : Out := .next (s.timFin ws broken)

/-- One second after the last accepted exchange the TIM measurement lapses. -/
def execTimMeasLapse (s : State) : Out := .next s.selectSource

/-- Ten seconds after the accepted reference exchange the Cumin measurement lapses (R316). -/
def execCuminMeasLapse (s : State) : Out := .next s.selectSource

end Sys2Proof.Machine
end

