-- ==== Sys2Proof/Machine/Cumin.lean ====
section
/-! DEFINITION. Neighbour sounding and time transfer (13): the burst and its code, sending, the AGC, reception, and the
evaluation of an exchange. -/

namespace Sys2Proof.Machine

/-! ### The payload and its code (R304 to R306) -/

/-- One bit of CRC-16 with x^16 + x^12 + x^5 + 1, most significant bit first. -/
def crc16Bit (c : Nat) (b : Bool) : Nat :=
  let top := bitOf c 15 != b
  let c := c * 2 % 65536
  if top then c ^^^ 0x1021 else c

/-- CRC-16 over a list of bits, initial value 0xFFFF. -/
def crc16 (l : List Bool) : Nat := l.foldl crc16Bit 0xFFFF

/-- The `n` bits of a field, most significant first. -/
def fieldBits (n v : Nat) : List Bool := (List.range n).map (fun i => bitOf v (n - 1 - i))

/-- The 80 information bits of a burst. -/
def burstInfo (sender ts seq : Nat) : List Bool :=
  let b := fieldBits 16 sender ++ fieldBits 40 ts ++ fieldBits 8 seq
  b ++ fieldBits 16 (crc16 b)

/-- The base matrix of R305; none stands for -1. -/
def ldpcBase : List (List (Option Nat)) :=
  [ [some 0, some 1, some 2, some 3, some 4, some 1, some 0, none, none, none],
    [some 7, some 10, some 13, some 0, some 3, none, some 0, some 0, none, none],
    [some 3, some 5, some 7, some 9, some 11, some 0, none, some 0, some 0, none],
    [some 11, some 2, some 9, some 0, none, none, none, none, some 0, some 0],
    [none, some 11, some 0, some 5, some 10, some 1, none, none, none, some 0] ]

/-- shift(v, k)[i] = v[(i + k) mod 16]. -/
def shift16 (v : List Bool) (k : Nat) : List Bool := (List.range 16).map (fun i => v.getD ((i + k) % 16) false)

def xor16 (a b : List Bool) : List Bool := (List.range 16).map (fun i => a.getD i false != b.getD i false)

def zero16 : List Bool := List.replicate 16 false

/-- Block row `r` of the check matrix applied to block columns of a word. -/
def ldpcRow (r : Nat) (cols : List Nat) (x : Nat → List Bool) : List Bool :=
  cols.foldl (fun a c =>
    match (ldpcBase.getD r []).getD c none with
    | some k => xor16 a (shift16 (x c) k)
    | none => a) zero16

/-- Block column `c` of a word. -/
def block16 (x : List Bool) (c : Nat) : List Bool := (x.drop (16 * c)).take 16

/-- The codeword of 80 information bits. -/
def ldpcEncode (b : List Bool) : List Bool :=
  let lam := fun r => ldpcRow r [0, 1, 2, 3, 4] (block16 b)
  let p0 := xor16 (xor16 (xor16 (xor16 (lam 0) (lam 1)) (lam 2)) (lam 3)) (lam 4)
  let p1 := xor16 (lam 0) (shift16 p0 1)
  let p2 := xor16 (lam 1) p1
  let p3 := xor16 (xor16 (lam 2) p0) p2
  let p4 := xor16 (lam 3) p3
  b ++ p0 ++ p1 ++ p2 ++ p3 ++ p4

/-- The word satisfies every check. -/
def ldpcOk (x : List Bool) : Bool :=
  (List.range 5).all (fun r => ldpcRow r (List.range 10) (block16 x) == zero16)

/-- Bits as a number, the first most significant. -/
def ofBits (l : List Bool) : Nat := l.foldl (fun v b => 2 * v + (if b then 1 else 0)) 0

/-! ### The decoder (R307) -/

/-- What the decoder holds: a value for each bit of the word, positive where 0 is likelier, and the messages of each check to
its bits. Values carry the factor 4^100, so that the factor 0.75 of up to 100 layers stays exact (log entry 66). -/
structure MinSum where
  bit : List Int
  msg : List (List Int)
  deriving DecidableEq, Repr

/-- The bits that check `j` joins: row `j % 16` of block row `j / 16`. -/
def checkBits (j : Nat) : List Nat :=
  (List.range 10).filterMap (fun c => ((ldpcBase.getD (j / 16) []).getD c none).map (fun k => 16 * c + (j % 16 + k) % 16))

/-- The message of a check to one bit, from the values that the others bring: the product of their signs and 0.75 of the
least magnitude. -/
def minSumOut (others : List Int) : Int :=
  let least := match others with
    | [] => 0
    | x :: t => t.foldl (fun m y => min m y.natAbs) x.natAbs
  let v : Int := ((3 * least : Nat) : Int) / 4
  if others.countP (fun x => decide (x < 0)) % 2 = 1 then -v else v

/-- One check takes what its bits have without its last messages and gives each its new one. -/
def MinSum.check (m : MinSum) (j : Nat) : MinSum :=
  let v := checkBits j
  let old := m.msg.getD j []
  let q := (List.range v.length).map (fun i => m.bit.getD (v.getD i 0) 0 - old.getD i 0)
  let new := (List.range v.length).map (fun i => minSumOut (q.eraseIdx i))
  ⟨(List.range v.length).foldl (fun l i => l.set (v.getD i 0) (q.getD i 0 + new.getD i 0)) m.bit, m.msg.set j new⟩

/-- The word that the values stand for. -/
def MinSum.hard (m : MinSum) : List Bool := m.bit.map (fun x => decide (x < 0))

/-- At most `n` iterations, from block row 0 to 4 in each, until the syndrome is zero: the word and the iterations made. -/
def MinSum.run : Nat → Nat → MinSum → List Bool × Nat
  | 0, k, m => (m.hard, k)
  | n + 1, k, m => if ldpcOk m.hard then (m.hard, k) else MinSum.run n (k + 1) ((List.range 80).foldl MinSum.check m)

/-- Layered min-sum of 160 received values: the word and the iterations made. -/
def ldpcDecode (maxIter : Nat) (llr : List Int) : List Bool × Nat :=
  MinSum.run maxIter 0 ⟨(List.range 160).map (fun i => 4 ^ 100 * llr.getD i 0), List.replicate 80 []⟩

/-! ### Sending (R308 to R310) -/

def State.setSnd (s : State) (f : SndSt → SndSt) : State := { s with snd := f s.snd }

/-- The paths whose burst instant is now. -/
def State.burstPaths (s : State) : List Nat :=
  allPaths.filter (fun n => (s.path n).st == .sndTx && (s.path n).since + 16 * s.get SOUND0.TX_OFS == s.tb)

/-- SND_TX lasts for 40,960 ticks from now on a path: no window or ONESHOT ends before, and no queued action changes its
state. -/
def State.burstFits (s : State) (n : Nat) : Bool :=
  let stop := s.tb + 40960
  let p := s.path n
  (match p.win with | some e => decide (stop ≤ e) | none => true) &&
    (match p.shot with | some e => decide (stop ≤ e.1) | none => true) &&
    !(s.oct (n / 8)).queue.any (fun e => decide (1 ≤ e.code) && decide (e.code ≤ 3) && bitOf e.mask (n % 8) &&
      decide (e.t < stop) && PState.ofCode e.st != .sndTx)

/-- The burst instant of a sending window. A burst that the limits record forbids is no skipped burst: its window is suppressed
with cause 5. -/
def State.burstStart (s : State) : State :=
  let fits := (allPaths.filter (fun n => (s.path n).st == .sndTx)).all s.burstFits
  if s.burstPaths = [] ∨ s.act 0x0E0 = false ∨ s.sndPermitted = false then s
  else if s.on SOUND0.TX_EN ∧ fits ∧ s.snd.burst = none then
    let x := ldpcEncode (burstInfo (s.get SOUND0.OWN_ID) (s.tb / 16 % 2 ^ 40) (s.get SOUND0.SEQ_NEXT))
    let lvl := s.get SOUND0.TX_LVL
    let s := (s.setSnd (fun d => { d with burst := some (s.tb, ofBits x) })).set SOUND0.TX_LVL_ACT (max lvl s.cuminCap)
    if lvl < s.cuminCap then s.raise 0x0E0 EV.SOUND0.PWR_CLAMPED else s
  else (s.count SOUND0.SKIP_CNT).raise 0x0E0 EV.SOUND0.BURST_SKIP

/-- A burst ends: TX_LAST, and the record for transfer matching. -/
def State.burstSent (s : State) : State :=
  match s.snd.burst with
  | some (b, _) =>
    if s.tb < b + 40960 then s
    else
      let t := b * 256 + s.get SOUND0.TX_BOARD_DLY
      let seq := s.get SOUND0.SEQ_NEXT
      let own := s.snd.own ++ [(seq, t)]
      let s := s.setSnd (fun d => { d with burst := none, own := own.drop (own.length - 16) })
      let s := (s.set SOUND0.TX_LAST_LO (t / 256)).set SOUND0.TX_LAST_HI (t / 2 ^ 40)
      let s := (s.set SOUND0.TX_LAST_INFO (seq * 2 ^ 24 + t % 256)).bump SOUND0.SEQ_NEXT
      (s.count SOUND0.BURST_CNT).raise 0x0E0 EV.SOUND0.BURST_SENT
  | none => s

def execBurstSent (s : State) : Out := .next s.burstSent

/-! ### Receiving (R311 to R314) -/

/-- The paths of the reception window. -/
def State.sndRxPaths (s : State) : List Nat := allPaths.filter (fun n => (s.path n).st == .sndRx)

/-- Reception runs in M4, M5 and M7 with the window open. -/
def State.sndListening (s : State) : Bool :=
  s.act 0x0E0 && (s.mode == 4 || s.mode == 5 || s.mode == 7) && !s.sndRxPaths.isEmpty

/-- One AGC step: the window's largest mean square lies `lvl` half decibels below full scale. -/
def State.agcStep (s : State) (lvl : Int) : State :=
  let at_ := s.sndRxPaths.any (fun n => decide ((s.path n).since < s.tb) && (s.tb - (s.path n).since) % 1024 == 0)
  if s.sndListening && !s.snd.frozen && at_ then
    let old : Int := s.snd.agc
    let new := (clip 0 60 (old + clip (-24) 24 (lvl - (s.get SOUND0.AGC_TGT : Int)))).toNat
    if new = s.snd.agc then s
    else
      let s := s.setSnd (fun d => { d with agc := new })
      s.sndRxPaths.foldl (fun s n => (s.setLive (RXPATH.GAIN_ANT n) new).rxInvalid n (s.ao + 24)) s
  else s

def execAgcStep (lvl : Int) (s : State) : Out := .next (s.agcStep lvl)

/-- A burst is detected; the stronger beam is kept where RX_DIV asks for it. -/
def State.burstDetect (s : State) (beamB : Bool) : State :=
  if s.sndListening && s.get SOUND0.RX_STATE == 1 then
    let s := s.setSnd (fun d => { d with frozen := true, beamB := beamB && s.on SOUND0.RX_DIV })
    (s.set SOUND0.RX_STATE 2).count SOUND0.DET_CNT
  else s

def execBurstDetect (beamB : Bool) (s : State) : Out := .next (s.burstDetect beamB)

/-- The reception ends: the AGC is released, and the search goes on while the window is open. -/
def State.sndSearch (s : State) : State :=
  (s.setSnd (fun d => { d with frozen := false })).set SOUND0.RX_STATE (if s.sndRxPaths.isEmpty then 0 else 1)

/-- No sync word is found within 12 repetitions. -/
def State.falseDetect (s : State) : State :=
  if s.get SOUND0.RX_STATE = 2 then (s.count SOUND0.FALSE_DET_CNT).sndSearch else s

def execFalseDetect (s : State) : Out := .next s.falseDetect

/-- RXQ.FILL and the head words follow the queue. -/
def State.rxqNote (s : State) : State :=
  let h := s.snd.queue.headD []
  (List.range 8).foldl (fun s i => s.set (SOUND2.RXQ_W i) (h.getD i 0)) (s.set SOUND2.FILL s.snd.queue.length)

/-- The eight words of a record. -/
def State.rxRecord (s : State) (b : Burst) (r : SndRx) (iters : Nat) : List Nat :=
  let ts := r.ts
  let t := r.at_
  [ r.sender * 2 ^ 16 + r.seq * 2 ^ 8 + 2 ^ 7 + (if s.snd.beamB then 2 ^ 6 else 0) + iters % 32,
    ts % 2 ^ 32, ofSigned 16 b.snr * 2 ^ 16 + ts / 2 ^ 32, t / 256 % 2 ^ 32, t / 2 ^ 40,
    ofSigned 16 b.offset * 2 ^ 16 + s.snd.agc * 2 ^ 8 + t % 256, 0, 0 ]

/-- The last four receptions of each sender. -/
def keepFour (l : List SndRx) (x : SndRx) : List SndRx :=
  let mine := l.filter (fun y => y.sender == x.sender)
  let l := if 4 ≤ mine.length then
      match mine with
      | y :: _ => l.erase y
      | [] => l
    else l
  l ++ [x]

/-- MAX_ITER in force: 0 acts as 1. -/
def State.maxIter (s : State) : Nat := max 1 (s.get SOUND0.MAX_ITER)

/-- What the 80 information bits of a burst that arrived at `t` say; none where the CRC fails. -/
def readInfo (x : List Bool) (t : Nat) : Option SndRx :=
  let v := ofBits (x.take 80)
  let r : SndRx := ⟨v / 2 ^ 64, v / 2 ^ 16 % 2 ^ 8, v / 2 ^ 24 % 2 ^ 40, t⟩
  if burstInfo r.sender r.ts r.seq = x.take 80 then some r else none

/-- A burst has been decoded. -/
def State.sndRecord (s : State) (b : Burst) : State :=
  if s.get SOUND0.RX_STATE < 2 then s
  else if b.bad then (s.count SOUND0.DEC_FAIL_CNT).sndSearch
  else
    let w := ldpcDecode s.maxIter b.llr
    match readInfo w.1 (b.arrival - s.get SOUND0.RX_BOARD_DLY) with
    | none => ((s.count SOUND0.DEC_FAIL_CNT).raise 0x0E0 EV.SOUND0.DECODE_FAIL).sndSearch
    | some x =>
      let s := s.setSnd (fun d => { d with hist := keepFour d.hist x })
      let r := s.rxRecord b x w.2
      let s := if 16 ≤ s.snd.queue.length then s.raise 0x0E0 EV.SOUND0.RXQ_LOST
        else ((s.setSnd (fun d => { d with queue := d.queue ++ [r] })).rxqNote).raise 0x0E0 EV.SOUND0.RX_RECORD
      s.sndSearch

def execRxRecord (b : Burst) (s : State) : Out := .next (s.sndRecord b)

def State.sndPop (s : State) : State := (s.setSnd (fun d => { d with queue := d.queue.tail })).rxqNote

/-! ### Time transfer (R315, R316) -/

/-- A time of the remote report, in 1/256 tick. -/
def State.remTime (s : State) (i : Nat) : Nat :=
  join64 (s.get (SOUND2.REM_W i)) (s.get (SOUND2.REM_W (i + 1))) * 256 + s.get (SOUND2.REM_W (i + 2)) % 256

/-- What an exchange is made of. -/
structure Xfer where
  peer : Nat
  t1 : Nat
  t2 : Nat
  t3 : Nat
  t4 : Nat
  deriving DecidableEq, Repr

/-- Offset and delay of an exchange. -/
def Xfer.theta (x : Xfer) : Int := divConv (((x.t2 : Int) - x.t1) - ((x.t4 : Int) - x.t3)) 2
def Xfer.delta (x : Xfer) : Int := divConv (((x.t2 : Int) - x.t1) + ((x.t4 : Int) - x.t3)) 2

/-- The enabled peer entry of PEER_ID. -/
def State.remPeer (s : State) : Option Nat :=
  (List.range 16).find? (fun k => s.on (SOUND3.PEER_EN k) && s.get (SOUND3.PEER_ID k) == bits (s.get (SOUND2.REM_W 0)) 16 16)

/-- PEER_IDX names the entry of an evaluation, accepted or rejected, that finds one. -/
def State.remPeerNote (s : State) : State :=
  match s.remPeer with
  | some k => s.set SOUND2.PEER_IDX k
  | none => s

/-- The checks of R315: the reason of the first that fails, or the exchange. -/
def State.xferCheck (s : State) : Nat ⊕ Xfer :=
  let w0 := s.get (SOUND2.REM_W 0)
  let id := bits w0 16 16
  match s.remPeer with
  | none => .inl 1
  | some k =>
    match s.snd.own.reverse.find? (fun x => x.1 == bits w0 8 8) with
    | none => .inl 2
    | some (_, t1) =>
      match s.snd.hist.reverse.find? (fun x => x.sender == id && x.seq == bits w0 0 8) with
      | none => .inl 3
      | some r =>
        let x : Xfer := ⟨k, t1, s.remTime 1, s.remTime 4, r.at_⟩
        let gap := (((x.t3 : Int) - 4096 * r.ts) % (2 ^ 52 : Nat)).toNat
        let ds := s.snd.deltas.getD k []
        if 256 * 256 ≤ gap then .inl 4
        else if max 1 (s.get SOUND3.PAIR_MAX) * 2 ^ 28 < ((x.t4 : Int) - x.t1).natAbs then .inl 5
        else if 8 ≤ ds.length ∧ 2 * s.get SOUND3.TOL < (2 * x.delta - median2 ds).natAbs then .inl 6
        else .inr x

/-- The evaluation completes. -/
def State.xferDone (s : State) : State :=
  if s.on SOUND2.REM_BUSY = false then s
  else
    let s := s.set SOUND2.REM_BUSY 0
    match s.xferCheck with
    | .inl r => (s.remPeerNote.set SOUND2.REM_RESULT r).raise 0x0E0 EV.SOUND0.XFER_REJECT
    | .inr x =>
      let k := x.peer
      let s := (s.set SOUND2.REM_RESULT 0).set SOUND2.PEER_IDX k
      let s := ((s.seti (SOUND3.THETA k) x.theta).seti (SOUND3.DELTA k) x.delta).count (SOUND3.PEER_CNT k)
      let ds := s.snd.deltas.getD k [] ++ [x.delta]
      let s := s.setSnd (fun d => { d with deltas := d.deltas.set k (ds.drop (ds.length - 8)) })
      let s := s.raise 0x0E0 EV.SOUND0.XFER_DONE
      if s.on (SOUND3.PEER_REF k) ∧ bitOf (s.get (SOUND2.REM_W 8)) 0 then
        let m := x.theta + toSigned 32 (s.get (SOUND2.REM_W 7))
        let (f, s) := s.freeNat
        let h := s.cum.hist ++ [(x.t4, m)]
        let h := h.drop (h.length - 2 ^ s.get SOUND3.AVG_K)
        let c : CuminMeas := { meas := some (m, s.tb), hist := h, freq := slopeErr (h.map (fun y => (y.1 - (h.headD (0, 0)).1, y.2))) f }
        ({ s with cum := c }.seti SOUND3.MEAS m).selectSource
      else s

def execXferDone (s : State) : Out := .next s.xferDone

/-- MEAS_AGE, read off the measurement. -/
def State.measAge (s : State) : Nat :=
  match s.cum.meas with
  | some (_, t) => min (2 ^ 32 - 1) ((s.tb - t) / 983040)
  | none => 2 ^ 32 - 1

/-- A weight write is LOCKED while a window that uses the weights is open (SOUND1). -/
def State.sndWeightRefusal (s : State) (l : Loc) : Option Nat :=
  let tx := decide (l.off < 0x200)
  if l.page = 0x0E1 ∧ 0x100 ≤ l.off ∧ allPaths.any (fun n => (s.path n).st == (if tx then PState.sndTx else .sndRx)) then some stLOCKED
  else none

end Sys2Proof.Machine
end

