-- ==== Sys2Proof/Machine/RxStream.lean ====
section
/-! DEFINITION. The receive streams (05): what the chain of an operational receive path does in one tick, from the ADC's codes to
the output sample with its flags (R97, R113, R119 to R129, R197). -/

namespace Sys2Proof.Machine

/-! ### CIC1 (R119, R120) -/

def wrapCx (w : Nat) (x : Cx) : Cx := ⟨wrapSigned w x.re, wrapSigned w x.im⟩

/-- One sample through the integrators, which are 12 bits wide and wrap. -/
def integrate : List Cx → Cx → List Cx
  | [], _ => []
  | a :: t, x => let y := wrapCx 12 (cadd a x); y :: integrate t y

/-- One sample through the combs: their new contents and the result. -/
def comb : List Cx → Cx → List Cx × Cx
  | [], x => ([], x)
  | a :: t, x => let r := comb t (wrapCx 12 (csub x a)); (x :: r.1, r.2)

/-- One of the 16 odd levels from -15 to 15. -/
def adcLevel (v : Nat) : Int := 2 * (v % 16 : Nat) - 15

/-- The modulator's output in quarter `j` of a tick. -/
def adcSample (n ao j : Nat) : Cx := let v := Config.adcCode n ao j; ⟨adcLevel v, adcLevel (v / 16)⟩

/-- CIC1, order 5, divides the rate by 2: two codes in, one 10-bit word out. -/
def RxDp.cic (d : RxDp) (a b : Cx) : Cx × RxDp :=
  let i := integrate (integrate d.cicI a) b
  let r := comb d.cicC (i.getLastD Cx0)
  (wrapCx 10 r.2, { d with cicI := i, cicC := r.1 })

/-! ### HB1 and the corrections (R119, R120, R124) -/

/-- A requantisation joins the chain: its overflow counts for the output sample in the making (R123). -/
def RxDp.take (d : RxDp) (r : Cx × Bool) : Cx × RxDp := (r.1, { d with ovf := d.ovf || r.2 })

/-- HB1 takes two words and gives one in Q1.17. It normalises: full scale becomes the magnitude 0.7071 (R120). -/
def RxDp.half1 (d : RxDp) (wrap : Bool) (a b : Cx) : Cx × RxDp :=
  let d := { d with hb1 := shiftIn 23 b (shiftIn 23 a d.hb1) }
  d.take (fitCx wrap 18 (cscale 92682 (dot (hbTap 1 11) d.hb1)) (2 ^ 24 * max 1 Config.cicFull))

/-- DC and IQ correction (R124): I is delayed by 3 samples; the values are those in force. -/
def State.rxCorrect (s : State) (n : Nat) (wrap : Bool) (h : List Cx) : Cx × Bool :=
  let c := fun (l : Loc) => s.corrNow l
  let di := c (RXPATH.DC_CORR_I n)
  let dq := c (RXPATH.DC_CORR_Q n)
  let i := fit wrap 18 ((h.getD 3 Cx0).re - di) 1
  let x := (List.range 7).map (fun k => c (RXPATH.IQ_X n k) * ((h.getD k Cx0).re - di))
  let q := fit wrap 18 (2 * c (RXPATH.IQ_GAIN n) * ((h.getD 0 Cx0).im - dq) + x.foldl (· + ·) 0) (2 ^ 17)
  (⟨i.1, q.1⟩, i.2 || q.2)

/-! ### The channel FIR and the half-bands (R119, R125, R126) -/

/-- Coefficient `k` of the bank in force, Q2.16. -/
def State.firTap (s : State) (n k : Nat) : Int :=
  s.geti (if s.on (RXPATH.FIR_BANK n) then RXPATH.FIR_B1 n k else RXPATH.FIR_B0 n k)

/-- HB2 to HB4, as the rate needs them: the output sample of a 491.52 Msps sample taken at time `t`, if it gives one. The
phases are those in which an output's stamp, 38 ticks on, is a sample boundary of its rate (R121; log entry 61). -/
def RxDp.halve (d : RxDp) (wrap : Bool) (rate t : Nat) (x : Cx) : Option Cx × RxDp :=
  if rate = 0 then (some x, d)
  else
    let d := { d with hb2 := shiftIn 19 x d.hb2 }
    if (t + 38) % 4 ≠ 0 then (none, d)
    else
      let r := d.take (fitCx wrap 18 (dot (hbTap 2 9) d.hb2) (2 ^ 24))
      if rate = 1 then (some r.1, r.2)
      else
        let d := { r.2 with hb3 := shiftIn 19 r.1 r.2.hb3 }
        if (t + 38) % 8 ≠ 0 then (none, d)
        else
          let r := d.take (fitCx wrap 18 (dot (hbTap 2 9) d.hb3) (2 ^ 24))
          if rate = 2 then (some r.1, r.2)
          else
            let d := { r.2 with hb4 := shiftIn 19 r.1 r.2.hb4 }
            if (t + 38) % 16 ≠ 0 then (none, d)
            else
              let r := d.take (fitCx wrap 18 (dot (hbTap 2 9) d.hb4) (2 ^ 24))
              (some r.1, r.2)

/-! ### Calibration correction (R121, R141, R238) -/

/-- The complex gain and the delay in force of direction `x` (0 transmit, 1 receive) act on a history of samples of `len`
ticks: the delay line of 128 ticks and the delay correction, the 16-tap fractional delay, and the gain. The result is scaled
by 2^34. -/
def State.calibrate (s : State) (x n len : Nat) (h : List Cx) : Cx :=
  let d := (32768 + s.geti (CALT.NOW_DLY x n)).toNat
  let y := dot (Config.fracTap (d % (256 * len)) (256 * len)) ((h.drop (d / (256 * len))).take 16)
  cmul ⟨s.geti (CALT.NOW_RE x n), s.geti (CALT.NOW_IM x n)⟩ y

/-- The samples that its history holds: 16 taps and 256 ticks. -/
def calSpan (len : Nat) : Nat := 16 + 256 / len

/-! ### Flags (R97, R113, R122, R129) -/

/-- A bit for this tick joins a flag history. -/
def pushBit (h : Nat) (b : Bool) : Nat := (2 * h + (if b then 1 else 0)) % 2 ^ 1024

/-- The flags of the ADC samples taken now. An engagement of the attenuator reaches back 32 ticks (R113). -/
def State.rxFlags (s : State) (d : RxDp) : RxDp :=
  let n := d.n
  let att := decide (0 < s.get (RXPATH.ATT_NOW n))
  let first := att && !bitOf d.ovl 0
  let st := (s.path n).st
  { d with
    inv := pushBit d.inv (!s.rxValid n)
    ovl := if first then pushBit d.ovl true ||| (2 ^ 33 - 1) else pushBit d.ovl att
    obs := pushBit d.obs (st == .obs)
    ulk := pushBit d.ulk (st == .rx || st == .sndRx || st == .cal) }

/-- The group delay of a path in 1/256 tick, with the delay correction in force (R121). -/
def State.rxG (s : State) (n : Nat) : Nat := ((gRx s.ulRate : Int) * 256 + s.geti (CALT.NOW_DLY 1 n)).toNat

/-- A flag history marks the output sample of this tick: some ADC instant from s - G - F on, before s - G + F (R122). -/
def State.flagged (s : State) (n h : Nat) : Bool :=
  let f := flagSpan s.ulRate * 256
  anyBit h ((s.rxG n - f) / 256 + 1) ((s.rxG n + f) / 256)

/-- The output sample of this tick lies in the span of 2G after an alignment (R129). -/
def State.aligning (s : State) (n : Nat) : Bool :=
  match (s.rx n).align with
  | some r => decide (r ≤ s.ao) && decide ((s.ao - r) * 256 < 2 * s.rxG n)
  | none => false

/-- The sample that leaves stream alignment on this tick, with whether a word of it overflowed. -/
def State.rxOut (s : State) (d : RxDp) : Option (Sample × Bool) :=
  (d.queue.find? (fun x => x.1 == s.tb)).map (fun x =>
    (⟨s.tb, x.2.1.re, x.2.1.im, s.flagged d.n d.inv || s.aligning d.n, s.flagged d.n d.ovl⟩, x.2.2))

/-! ### One tick of the chain -/

/-- The chain with its filter states and delay lines clear; the flags of the ADC samples stay (R129). -/
def RxDp.clear (d : RxDp) : RxDp := { n := d.n, inv := d.inv, ovl := d.ovl, obs := d.obs, ulk := d.ulk }

/-- The chain up to the output of DC and IQ correction: the sample of this tick in the observation stream (R197). On the
bypass clock, and for a sample that the ADC queue discards, a zero comes in (R13, R79). -/
def State.rxFront (s : State) (d : RxDp) : RxDp :=
  let n := d.n
  let wrap := s.on (RXPATH.NUMFMT n)
  let dead := !s.cpllReady || decide (s.ao < s.clk.bypUntil) || decide (s.ao < (s.rx n).ovfUntil)
  let a := d.cic (adcSample n s.ao 0) (adcSample n s.ao 1)
  let b := a.2.cic (adcSample n s.ao 2) (adcSample n s.ao 3)
  let h := if dead then b.2.half1 wrap Cx0 Cx0 else b.2.half1 wrap a.1 b.1
  let d := { h.2 with iq := shiftIn 7 h.1 h.2.iq }
  let c := d.take (s.rxCorrect n wrap d.iq)
  { c.2 with corr := c.1, fir := shiftIn 96 c.1 c.2.fir }

/-- From the channel FIR, which runs on even ticks, to stream alignment. -/
def State.rxBack (s : State) (d : RxDp) : RxDp :=
  let n := d.n
  let wrap := s.on (RXPATH.NUMFMT n)
  let len := rateL s.ulRate
  if s.tb % 2 ≠ 0 then d
  else
    let f := d.take (fitCx wrap 18 (dot (s.firTap n) d.fir) (2 ^ 16))
    let h := f.2.halve wrap s.ulRate s.tb f.1
    match h.1 with
    | none => h.2
    | some x =>
      let d := { h.2 with cal := shiftIn (calSpan len) x h.2.cal }
      let y := d.take (fitCx wrap 16 (s.calibrate 1 n len d.cal) (2 ^ 36))
      { y.2 with ovf := false, queue := (y.2.queue.filter (fun e => decide (s.tb ≤ e.1))) ++ [(s.tb + 38, y.1, y.2.ovf)] }

/-- One tick of a receive chain, and whether a word of the output sample that leaves overflowed. -/
def State.rxStep (s : State) (d : RxDp) : RxDp × Bool :=
  let d := if (s.rx d.n).align = some s.ao then d.clear else d
  let d := s.rxBack (s.rxFront (s.rxFlags d))
  match s.rxOut d with
  | some o => ({ d with out := some o.1 }, o.2)
  | none => ({ d with out := none }, false)

/-- The observation sample of this tick, Q1.17: stamped with its tick, with the flags of F = 8 (R197). -/
def RxDp.observed (d : RxDp) (t : Nat) : Sample :=
  ⟨t, d.corr.re, d.corr.im, anyBit d.inv 5 20, anyBit d.ovl 5 20⟩

end Sys2Proof.Machine
end

