-- ==== Sys2Proof/Machine/TxStream.lean ====
section
/-! DEFINITION. The transmit streams (06 to 08): the downlink beamformer, what the chain of an operational transmit path does in
one tick, predistortion and what the pins carry (R137 to R146, R157, R160, R171 to R175, R190, R191, R241, R300 to R309). -/

namespace Sys2Proof.Machine

/-! ### Samples from the link (R279, R284) -/

/-- `w` bits of a payload from bit `lo` on. -/
def payloadBits (ws : List Nat) (lo w : Nat) : Nat :=
  bits (ws.getD (lo / 32) 0 + 2 ^ 32 * ws.getD (lo / 32 + 1) 0) (lo % 32) w

/-- Sample `i` of a payload, in Q1.15. -/
def payloadSample (fmt : Nat) (ws : List Nat) (i : Nat) : Cx :=
  if fmt = 0 then ⟨toSigned 16 (payloadBits ws (32 * i + 16) 16), toSigned 16 (payloadBits ws (32 * i) 16)⟩
  else if fmt = 1 then
    ⟨16 * toSigned 12 (payloadBits ws (24 * i + 12) 12), 16 * toSigned 12 (payloadBits ws (24 * i) 12)⟩
  else
    let b := 436 * (i / 24)
    let e := payloadBits ws b 4
    let part := fun (o : Nat) =>
      let m := toSigned 9 (payloadBits ws (b + o + 18 * (i % 24)) 9)
      if e ≤ 7 then m * 2 ^ (7 - e) else divConv m (2 ^ (e - 7))
    ⟨part 4, part 13⟩

/-- The sample of a downlink stream stamped `t`; none where it is missing or marked invalid. -/
def State.dlSample (s : State) (k t : Nat) : Option Cx :=
  let len := rateL s.dlRate
  match s.erl.held.find? (fun x => x.stream == k && decide (x.stamp ≤ t) && decide (t < x.stamp + 128 * len)) with
  | some x =>
    let i := (t - x.stamp) / len
    if bitOf x.inv (i / 8) then none else some (payloadSample x.fmt x.words i)
  | none => none

/-! ### The downlink beamformer (R171 to R173) -/

/-- The raw entry that serves a path: the lowest that names it. -/
def State.rawEntry (s : State) (d p : Nat) : Option Nat :=
  (List.range 8).find? (fun e => s.on (BEAM.RAW_VALID d e) && s.get (BEAM.RAW_PATH d e) == p)

/-- The stream that a path carries alone: in full-array mode its own, in mixed mode that of its raw entry. -/
def State.soloStream (s : State) (d p : Nat) : Option Nat :=
  match s.get (BEAM.MODE d) with
  | 1 => some p
  | 2 => (s.rawEntry d p).map (fun e => 16 + e)
  | _ => none

/-- The weight in force of a layer and a path, Q1.15 (R176, R184, R185, R187). -/
def State.weightNow (s : State) (d l p : Nat) : Cx :=
  match s.block d (s.get (BEAM.SET_ACT d)) (s.bankInForce d) with
  | none => Cx0
  | some blk =>
    if s.forced d p || s.wts.damaged.look (weightWord blk l (p / 2)) != 0 then Cx0
    else let w := s.word (weightAddr blk l p); ⟨toSigned 16 (w / 2 ^ 16), toSigned 16 w⟩

/-- The layers in force. -/
def State.layers (s : State) (d : Nat) : List Nat := List.range (s.get (BEAM.NLAYERS d))

/-- The input of layer `l` at `t`, Q2.16: the sample with its renormalisation gain and its limiting gain. -/
def State.layerIn (s : State) (l t : Nat) : Cx :=
  match s.dlSample l t with
  | some x => (fitCx false 18 (cscale (s.get (BEAM.GAIN 0 l) * attGain (s.get (BEAM.LAYER_ATT 0 l)) : Nat) x) (2 ^ 28)).1
  | none => Cx0

/-- The beamformer's output for a path from the layer inputs `vs` and the samples stamped `t`, and whether it overflowed. -/
def State.pathOut (s : State) (vs : List Cx) (p t : Nat) : Cx × Bool :=
  let lam : Int := (attGain (s.get (BEAM.PATH_ATT 0 p)) : Nat)
  let wrap := s.on (BEAM.NUMFMT 0)
  match s.soloStream 0 p with
  | some k => if s.forced 0 p then (Cx0, false) else fitCx wrap 16 (cscale lam ((s.dlSample k t).getD Cx0)) (2 ^ 15)
  | none =>
    let sum := ((s.layers 0).map (fun l => cmul (s.weightNow 0 l p) (vs.getD l Cx0))).foldl cadd Cx0
    fitCx wrap 16 (cscale lam sum) (2 ^ (31 + s.get (BEAM.SHIFT 0)))

/-- The limiter's sums over the window under way (R188), which starts anew at a multiple of 2^14 samples. -/
def State.limiterSum (s : State) (ys : List (Nat × Cx)) : State :=
  let r := if s.tb % (2 ^ 14 * rateL s.dlRate) = 0
    then { s.strm with pathSum := [], layerSum := [], layerCnt := [], limCnt := 0 } else s.strm
  let r := ys.foldl (fun (r : StreamSt) y => { r with pathSum := r.pathSum.put y.1 (r.pathSum.look y.1 + cmag y.2) }) r
  let r := (s.layers 0).foldl (fun (r : StreamSt) l =>
    match s.dlSample l s.tb with
    | some x => { r with
        layerSum := r.layerSum.put l (r.layerSum.look l + cmag x), layerCnt := r.layerCnt.put l (r.layerCnt.look l + 1) }
    | none => r) r
  { s with strm := { r with limCnt := r.limCnt + 1 } }

/-- The downlink beamformer at a sample instant: each path's output, stamped 32 ticks on (R175), joins its chain. The samples
that leave with stamps before the end of a change of rate are zero (R172). -/
def State.downlink (s : State) : State :=
  if s.tb % rateL s.dlRate ≠ 0 ∨ s.act (beamPage 0) = false then s
  else
    let vs := (s.layers 0).map (fun l => s.layerIn l s.tb)
    let ys := s.strm.tx.map (fun d => (d.n, s.pathOut vs d.n s.tb))
    let zero := decide (s.tb + 32 < s.strm.dlZero)
    let s := s.limiterSum (ys.map (fun y => (y.1, y.2.1)))
    let s := { s with strm := { s.strm with tx := s.strm.tx.map (fun d =>
      match ys.find? (fun y => y.1 == d.n) with
      | some y => { d with inq := d.inq ++ [(s.tb + 32, if zero then Cx0 else y.2.1)] }
      | none => d) } }
    (ys.filter (fun y => y.2.2)).foldl (fun s _ => (s.count (BEAM.SAT_CNT 0)).raise (beamPage 0) EV.BEAM.SAT) s

/-! ### Half-bands and calibration correction (R137, R141) -/

/-- One output instant of a half-band of 19 taps that doubles the rate: its history and its output, scaled by 2^24. -/
def upStep (h : List Cx) (x : Cx) : List Cx × Cx :=
  let h := shiftIn 19 x h
  (h, cscale 2 (dot (hbTap 3 9) h))

/-- The stream at 491.52 Msps at an even time `t` from the beamformer sample `x` stamped `t`, scaled by 2^(24 * rate). -/
def TxDp.upsample (d : TxDp) (rate t : Nat) (x : Cx) : Cx × TxDp :=
  let at_ := fun (l : Nat) (y : Cx) => if t % l = 0 then y else Cx0
  if rate = 0 then (x, d)
  else
    let r3 := if rate = 3 ∧ t % 8 = 0 then upStep d.up3 (at_ 16 x) else (d.up3, x)
    let r2 := if 2 ≤ rate ∧ t % 4 = 0 then upStep d.up2 (at_ 8 r3.2) else (d.up2, r3.2)
    let r1 := upStep d.up1 (at_ 4 r2.2)
    (r1.2, { d with up3 := r3.1, up2 := r2.1, up1 := r1.1 })

/-! ### Crest-factor reduction (R142, R143) -/

/-- Word `k` of the pulse in 2^-15: its centre is exactly 1. -/
def State.pulse (s : State) (n k : Nat) : Int :=
  let v := s.geti (TXPATH.CFR_PULSE n k)
  if v = 0x7FFF then 32768 else v

/-- The powers that CFR needs before a sample. -/
def State.cfrWin (s : State) (n : Nat) : Nat := 2 ^ clipNat 10 16 (s.get (TXPATH.CFR_WIN n))

/-- The sample before the newest is a peak to cancel: a local maximum above A (log entry 62). -/
def State.cfrPeak (s : State) (d : TxDp) : Option CfrPeak :=
  let w := s.cfrWin d.n
  let par := s.get (TXPATH.CFR_PAR d.n)
  let m := d.pow.getD 1 0
  let sum := ((d.pow.drop 2).take w).foldl (· + ·) 0
  if d.pow.getD 2 0 < m ∧ d.pow.headD 0 ≤ m ∧ sum ^ 100 * 10 ^ par < (m * w) ^ 100
  then some ⟨0, d.cfr.getD 1 Cx0, Config.cfrRatio sum w m par⟩ else none

/-- A peak beyond the fourth of its window counts towards CFR_LIMIT, which is raised at most once per 2^20 ticks. -/
def State.cfrLimit (s : State) (n : Nat) : State :=
  let last := s.strm.cfrAt.look n
  if last ≠ 0 ∧ s.ao + 1 < last + 2 ^ 20 then s
  else { s with strm := { s.strm with cfrAt := s.strm.cfrAt.put n (s.ao + 1) } }.raise (txPage n) EV.TXPATH.CFR_LIMIT

/-- What the peaks being cancelled take from the output sample, scaled by 2^45. -/
def State.cfrCut (s : State) (d : TxDp) : Cx :=
  (d.peaks.map (fun p => cscale (s.pulse d.n p.age * (2 ^ 30 - (p.ratio : Int))) p.x)).foldl cadd Cx0

/-- CFR takes a sample in Q1.17 and gives the one 24 ticks before it, in Q1.15: the result with its overflow, the chain and the
state. -/
def State.cfrStep (s : State) (d : TxDp) (x : Cx) : (Cx × Bool) × TxDp × State :=
  let wrap := s.on (TXPATH.NUMFMT d.n)
  let d := { d with cfr := shiftIn 26 x d.cfr, pow := shiftInNat (s.cfrWin d.n + 2) (cmag x) d.pow }
  let y := d.cfr.getD 13 Cx0
  if s.on (TXPATH.CFR_EN d.n) = false then (fitCx wrap 16 y 4, { d with peaks := [], cuts := 0 }, s)
  else
    let d := if s.tb % 64 = 0 then { d with cuts := 0 } else d
    let r : TxDp × State := match s.cfrPeak d with
      | some p =>
        if d.cuts < 4 then ({ d with peaks := d.peaks ++ [p], cuts := d.cuts + 1 }, s.count (TXPATH.CFR_PEAK_CNT d.n))
        else (d, s.cfrLimit d.n)
      | none => (d, s)
    let z := csub (cscale (2 ^ 45) y) (r.2.cfrCut r.1)
    let d := { r.1 with peaks := (r.1.peaks.filter (fun p => decide (p.age < 24))).map (fun p => { p with age := p.age + 1 }) }
    (fitCx wrap 16 z (2 ^ 47), d, r.2)

/-! ### The predistorter (R190, R191) -/

/-- P_j of an envelope, U1.15. -/
def envPower (e : Nat) : Nat → Nat
  | 0 => 32768
  | j + 1 => (divConv ((e * envPower e j : Nat) : Int) 32768).toNat

/-- The basis of a descriptor from the DPD inputs, newest first, where the sample `n` stands at place 8 (R190, R191). -/
def basis (xs : List Cx) (desc : Nat) : Cx :=
  let k := bits desc 4 3
  let m := bits desc 8 3
  let l := bits desc 12 2
  let place := if bits desc 0 2 = 2 then 8 + m + l else if bits desc 0 2 = 3 then 8 + m - l else 8 + m
  let p := envPower (envelopeOf (xs.getD place Cx0)) (k - 1)
  let x := xs.getD (8 + m) Cx0
  ⟨divConv (x.re * p) 32768, divConv (x.im * p) 32768⟩

/-- The predistorter's output for the sample at place 8 of its inputs, with the bank in force. -/
def State.predistort (s : State) (p : Nat) (xs : List Cx) : Cx × Bool :=
  let b := s.get (DPD1.ACT_BANK p)
  let terms := (slots48.filter (fun j => bits (s.descWord p b j) 0 2 != 0)).map (fun j =>
    let c := s.coef p b j
    cmul ⟨c.1, c.2⟩ (basis xs (s.descWord p b j)))
  fitCx (s.on (TXPATH.NUMFMT p)) 16 (terms.foldl cadd Cx0) (2 ^ 20)

/-! ### IQ and DC correction (R144) -/

def State.txCorrect (s : State) (n : Nat) (h : List Cx) : Cx × Bool :=
  let wrap := s.on (TXPATH.NUMFMT n)
  let c := fun (l : Loc) => s.corrNow l
  let i := fit wrap 16 ((h.getD 3 Cx0).re + c (TXPATH.DCT_I n)) 1
  let x := (List.range 7).map (fun k => c (TXPATH.TX_IQ_X n k) * (h.getD k Cx0).re)
  let q := fit wrap 16 (2 * c (TXPATH.TX_IQ_GAIN n) * (h.getD 0 Cx0).im + x.foldl (· + ·) 0 + 2 ^ 17 * c (TXPATH.DCT_Q n)) (2 ^ 17)
  (⟨i.1, q.1⟩, i.2 || q.2)

/-! ### Sequences (R241, R301 to R303, R309) -/

/-- Bit `k` of the sequence of a shift register of `w` stages that starts from all ones and feeds back the stages `taps`. -/
def lfsrBit (w : Nat) (taps : List Nat) (k : Nat) : Bool :=
  let step := fun (r : Nat) => r / 2 + (if ((taps.filter (fun i => bitOf r i)).length) % 2 = 1 then 2 ^ (w - 1) else 0)
  bitOf ((List.range k).foldl (fun r _ => step r) (2 ^ w - 1)) 0

/-- A bit as a sign: 0 is +1. -/
def sign (b : Bool) : Int := if b then -1 else 1

/-- Sample `k` of the array code, in units of 1 / sqrt 2 (R241). -/
def arrayCode (k : Nat) : Cx :=
  let b := lfsrBit 11 [2, 0]
  if k = 2047 then Cx0 else ⟨sign (b k), sign (b ((k + 1024) % 2047))⟩

/-- The Hadamard order: 64 times the number of chips (R241). -/
def State.arrayOrder (s : State) : Nat := 64 * [1, 2, 4, 1].getD (s.get CAL0.CHIPS) 1

/-- What source `q` sends of the array code at the air instant `t` (R241). -/
def State.codeAt (s : State) (q t : Nat) : Cx :=
  let r := t / 4096 % s.arrayOrder
  cscale (sign (popcount 12 (q &&& r) % 2 == 1)) (arrayCode (t % 4096 / 2))

/-- Chip sequences of the sounding burst (R301). -/
def chipA (k : Nat) : Bool := lfsrBit 7 [3, 0] k
def chipE (k : Nat) : Bool := lfsrBit 7 [3, 2, 1, 0] k
def chipD (k : Nat) : Bool := lfsrBit 11 [9, 0] k
def chipG (gold k : Nat) : Bool := if gold = 127 then chipA k else chipA k != chipE ((k + gold) % 127)
def chipP (gold k : Nat) : Int := if k = 127 then 1 else sign (chipG gold k)

/-- Symbol `i` of a codeword of 160 bits, x[0] first, in units of 1 / sqrt 2 (R302). -/
def qpsk (x i : Nat) : Cx := ⟨sign (bitOf x (159 - 2 * i)), sign (bitOf x (158 - 2 * i))⟩

/-- Chip `c` of a burst, in units of 1 / sqrt 2 (R300, R301): 16 repetitions of p, 4 of -p, and the payload. -/
def burstChip (gold x c : Nat) : Cx :=
  if c < 2048 then cscale (chipP gold (c % 128)) ⟨1, 1⟩
  else if c < 2560 then cscale (-chipP gold (c % 128)) ⟨1, 1⟩
  else if c < 5120 then cscale (sign (chipD (c - 2560))) (qpsk x ((c - 2560) / 32))
  else Cx0

/-- The shaped burst `u` after the instant of chip 0, in 1/512 of a sample of 491.52 Msps (1/256 tick): chip c stands 4c samples
on, and the pulse spans 16 chips (R303). -/
def burstShape (gold x : Nat) (u : Int) : Cx :=
  let c0 := (u - 16384) / 2048
  ((List.range 18).map (fun i =>
    let c := c0 + i
    let d := u + 16384 - 2048 * c
    if 0 ≤ c ∧ 0 ≤ d ∧ d ≤ 32768 then cscale (Config.rrc d.toNat) (burstChip gold x c.toNat) else Cx0)).foldl cadd Cx0

/-- The phase of the shift to the burst's own frequency at that place, in 2^-32 of a turn (R303). -/
def State.soundPhase (s : State) (u : Int) : Nat := ((s.get SOUND0.NCO : Int) * u / 512 % (2 ^ 32 : Nat)).toNat

/-- The weight of a path in a burst; a retired path's is zero (R309). -/
def State.soundWeight (s : State) (p : Nat) : Cx :=
  if s.on (TXPATH.RETIRE p) != (s.path p).retTx then Cx0 else ⟨s.geti (SOUND1.TXA_W_RE p), s.geti (SOUND1.TXA_W_IM p)⟩

/-- The burst sample of a path, Q1.15, `u` after the instant of chip 0 (R303, R309): shaped, shifted, weighted and at the level
in force. The divisor takes the scales of the pulse, of 1 / sqrt 2, of the rotation, of the weight and of the level (log entry
63). -/
def State.burstSample (s : State) (p x : Nat) (u : Int) : Cx :=
  let t := Config.turn (s.soundPhase u)
  let y := cmul (cmul (burstShape (s.get SOUND0.GOLD) x u) ⟨t.1, t.2⟩) (s.soundWeight p)
  (fitCx false 16 (cscale (759250125 * (Config.level (2 * s.get SOUND0.TX_LVL_ACT) : Nat)) y) (2 ^ (20 + 30 + 30 + 30))).1

/-- What enters the calibration correction of a path in SND_TX now, two ticks ahead: outside a burst zero. The sample that enters
with stamp t reaches the pin GD_NOW later (R309); the half-bands above lie behind it. -/
def State.burstIn (s : State) (p : Nat) : Cx :=
  match s.snd.burst with
  | none => Cx0
  | some (b, x) =>
    s.burstSample p x (256 * (((s.tb + 2 : Nat) : Int) - b - ([0, 18, 54, 126].getD s.dlRate 0 : Nat)) +
      s.geti (TXPATH.GD_NOW p))

/-! ### The pin (R145, R151, R157, R160, R242) -/

/-- The RF-pin instant now lies in a range change or in the ramp after a mute: what the sample is multiplied by. -/
def State.rampNow (s : State) (n : Nat) : Ramp :=
  let t := s.tx n
  match t.range with
  | some (b, _, _) =>
    let k := s.ao - b
    if k < 64 then .down k else if k < 96 then .zero else if k < 160 then .up (k - 96) else .one
  | none => if t.muteUntil ≠ 0 ∧ s.ao < t.muteUntil + 64 then .up (s.ao - t.muteUntil) else .one

/-- The code period under way lies wholly in the CAL window of a path, or in its foreground calibration outside M5, in slots
of the direction `d`: 0 transmit, 1 receive (R242). -/
def State.codePeriod (s : State) (p d : Nat) : Bool :=
  let t0 := s.tb / 4096 * 4096
  let q := s.path p
  if s.mode = 6 then s.on CAL0.FG_BUSY && bitOf (s.fgMask p) (11 - d)
  else q.st == .cal && !q.wdr && decide (q.since ≤ t0) &&
    (match q.win with | some e => decide (t0 + 4096 ≤ e) | none => true) &&
    (let u := s.patternState p t0
     let v := s.patternState p (t0 + 4095)
     if d = 0 then u.group == 1 && v.group == 1 else u.group == 2 && v.group == 2)

/-- A burst is on the air (R300). -/
def State.bursting (s : State) : Bool :=
  match s.snd.burst with
  | some (b, _) => decide (s.tb < b + 40960)
  | none => false

/-- What the pin of a path carries: a sample leaves DC and IQ correction 31 ticks before (R145). -/
def State.pinNow (s : State) (d : TxDp) : PinOut :=
  let n := d.n
  let p := s.path n
  if s.drv n ≠ 2 then .off
  else if (s.tx n).hole = some s.ao ∨ p.st = .turn then .wave Cx0 .one none
  else if p.st = .sndTx ∧ s.bursting = false then .wave Cx0 (s.rampNow n) none
  else if s.codePeriod n 1 then .wave Cx0 (s.rampNow n) none
  else .wave (d.dac.getD 31 Cx0) (s.rampNow n)
    (if s.codePeriod n 0 then some (s.codeAt (64 * s.get CAL0.CHIP_IDX + n) s.tb) else none)

/-- What CALTX carries: the code in the periods of the receive direction (R242), which its chain sends 194 ticks ahead (R165). -/
def State.calPin (s : State) : PinOut :=
  if s.calDrv ≠ 2 then .off
  else .wave Cx0 (s.rampNow 64)
    (if allPaths.any (fun p => s.act (rxPage p) && s.codePeriod p 1) then some (s.codeAt 0 s.tb) else none)

/-! ### One tick of the chain -/

/-- The chain up to the DPD input at 983.04 Msps. It works 2 ticks ahead of the stamps, so that CFR sees the sample after a
peak. -/
def State.txFront (s : State) (d : TxDp) : Bool × TxDp × State :=
  let n := d.n
  let wrap := s.on (TXPATH.NUMFMT n)
  let r : (Cx × Bool) × TxDp × State :=
    if s.tb % 2 ≠ 0 then ((Cx0, false), d, s)
    else
      let x := ((d.inq.find? (fun e => e.1 == s.tb + 2)).map (fun e => e.2)).getD Cx0
      let u := d.upsample s.dlRate (s.tb + 2) x
      let x := if (s.path n).st = .sndTx then cscale (2 ^ (24 * s.dlRate)) (s.burstIn n) else u.1
      let d := { u.2 with cal := shiftIn (calSpan 2) x u.2.cal, inq := u.2.inq.filter (fun e => decide (s.tb < e.1)) }
      let c := fitCx wrap 18 (cscale 4 (s.calibrate 0 n 2 d.cal)) (2 ^ (34 + 24 * s.dlRate))
      let f := s.cfrStep d c.1
      ((f.1.1, c.2 || f.1.2), f.2)
  let d := { r.2.1 with up := shiftIn 23 r.1.1 r.2.1.up }
  let y := fitCx wrap 16 (cscale 2 (dot (hbTap 4 11) d.up)) (2 ^ 24)
  (r.1.2 || y.2, { d with x := shiftIn 20 y.1 d.x }, r.2.2)

/-- One tick of a transmit chain: DPD, IQ and DC correction and the queue follow. Each 983.04 Msps sample of which a word
overflowed is counted (R140). -/
def State.txStep (s : State) (d : TxDp) : TxDp × State :=
  let n := d.n
  let r := s.txFront d
  let s := r.2.2
  let d := r.2.1
  let u := if s.on (DPD1.DPD_EN_ACT n) then s.predistort n d.x else (d.x.headD Cx0, false)
  let d := { d with u := shiftIn 7 u.1 d.u }
  let c := s.txCorrect n d.u
  let d := { d with dac := shiftIn 32 c.1 d.dac }
  let s := if r.1 || u.2 || c.2 then (s.count (TXPATH.SAT_CNT n)).raise (txPage n) EV.TXPATH.SAT else s
  ({ d with pin := s.pinNow d }, s)

/-- The samples of the DPD stage on this tick: its input and its output, stamped with the tick (R139). -/
def TxDp.dpdIn (d : TxDp) (t : Nat) : Sample := let x := d.x.headD Cx0; ⟨t, x.re, x.im, false, false⟩
def TxDp.dpdOut (d : TxDp) (t : Nat) : Sample := let x := d.u.headD Cx0; ⟨t, x.re, x.im, false, false⟩

end Sys2Proof.Machine
end

