-- ==== Sys2Proof/Machine/Stream.lean ====
section
/-! DEFINITION. What one tick does to the sample streams: the chains of the operational pages, the uplink beamformer, the
detectors, the monitor taps, the capture ports and the combined streams of Cumin (R130 to R136, R173 to R175, R188, R189,
R197, R281, R303, R311, R340). -/

namespace Sys2Proof.Machine

/-- The path pages that are operational: their ACT reads 1. The registers hold little, so they are searched. -/
def State.livePages (s : State) : List Nat :=
  (s.regs.filter (fun e => e.1 % 32768 == (HDR.ACT 0).key && decide (0x010 ≤ e.1 / 32768 ∧ e.1 / 32768 < 0x090))).map
    (fun e => e.1 / 32768)

/-- The chain of path `n`, which starts with clear filters when its page becomes operational. -/
def rxChain (l : List RxDp) (n : Nat) : RxDp := (l.find? (fun d => d.n == n)).getD { n := n }
def txChain (l : List TxDp) (n : Nat) : TxDp := (l.find? (fun d => d.n == n)).getD { n := n }

/-- The chain of a live path. -/
def State.rxDp (s : State) (n : Nat) : Option RxDp := s.strm.rx.find? (fun d => d.n == n)
def State.txDp (s : State) (n : Nat) : Option TxDp := s.strm.tx.find? (fun d => d.n == n)

/-! ### The chains -/

/-- The receive chains. -/
def State.rxTick (s : State) (pages : List Nat) : State :=
  let r := (pages.filter (fun pg => decide (pg < 0x050))).map (fun pg => s.rxStep (rxChain s.strm.rx (pg - 0x010)))
  let s := { s with strm := { s.strm with rx := r.map (fun x => x.1) } }
  (r.filter (fun x => x.2)).foldl (fun s x =>
    (s.count (RXPATH.SAT_CNT x.1.n)).raise (rxPage x.1.n) EV.RXPATH.SAT) s

/-- The transmit chains. -/
def State.txTick (s : State) (pages : List Nat) : State :=
  let s := { s with strm := { s.strm with
    tx := (pages.filter (fun pg => decide (0x050 ≤ pg))).map (fun pg => txChain s.strm.tx (pg - 0x050)) } }
  let s := s.downlink
  let r := s.strm.tx.foldl (fun (a : List TxDp × State) d => let x := a.2.txStep d; (a.1 ++ [x.1], x.2)) ([], s)
  { r.2 with strm := { r.2.strm with tx := r.1, calPin := r.2.calPin } }

/-! ### The uplink beamformer (R171, R174, R281) -/

/-- The receive sample of a path now; a chain that does not run carries none. -/
def State.rxNow (s : State) (p : Nat) : Sample :=
  match (s.rxDp p).bind (fun d => d.out) with
  | some x => x
  | none => ⟨s.tb, 0, 0, true, false⟩

/-- The ADC instant of the sample lies in a state that offers uplink: RX, SND_RX or CAL (R281). -/
def State.offersUplink (s : State) (p : Nat) : Bool :=
  match s.rxDp p with
  | some d => bitOf d.ulk ((s.rxG p + 128) / 256)
  | none => false

/-- The sample of layer `l`, and whether it overflowed. Where no path of an uplink offers it a sample it is invalid (R281),
but not where the set in force is empty (R184). -/
def State.layerOut (s : State) (l : Nat) : Sample × Bool :=
  let g : Int := (s.get (BEAM.GAIN 1 l) : Nat)
  let ps := allPaths.filter (fun p => g != 0 && s.weightNow 1 l p != Cx0)
  let sum := (ps.map (fun p => let x := s.rxNow p; cmul (s.weightNow 1 l p) ⟨x.i, x.q⟩)).foldl cadd Cx0
  let z := fitCx (s.on (BEAM.NUMFMT 1)) 16 (cscale g sum) (2 ^ (29 + s.get (BEAM.SHIFT 1)))
  (⟨s.tb + 32, z.1.re, z.1.im, ps.any (fun p => (s.rxNow p).invalid) || !(s.on (BEAM.EMPTY 1) || ps.any s.offersUplink),
    ps.any (fun p => (s.rxNow p).ovl)⟩, z.2)

/-- The sample of a stream that one path carries; a retired or withdrawn path's is zero and INVALID (R185). -/
def State.soloOut (s : State) (p : Nat) : Sample :=
  let x := s.rxNow p
  if s.forced 1 p then ⟨s.tb + 32, 0, 0, true, false⟩
  else { x with stamp := s.tb + 32, invalid := x.invalid || !s.offersUplink p }

/-- The sample of stream `k`, and whether it overflowed. Of two raw entries on one path the higher carries zeros (R171). -/
def State.streamOut (s : State) (k : Nat) : Sample × Bool :=
  match s.get (BEAM.MODE 1) with
  | 1 => (s.soloOut k, false)
  | 2 =>
    if k < s.get (BEAM.NLAYERS 1) then s.layerOut k
    else
      let p := s.get (BEAM.RAW_PATH 1 (k - 16))
      (if s.rawEntry 1 p = some (k - 16) then s.soloOut p else ⟨s.tb + 32, 0, 0, true, false⟩, false)
  | _ => s.layerOut k

/-- A stream keeps the samples that windows not yet sent need. -/
def State.ulKeep (s : State) (xs : List Sample) : List Sample :=
  xs.filter (fun x => decide (s.tb ≤ x.stamp + 16 * s.get ERL0.LAT_UL + 256 * rateL s.ulRate))

/-- The uplink beamformer at a sample instant: the streams' samples, stamped 32 ticks on (R175). -/
def State.uplink (s : State) : State :=
  if s.tb % rateL s.ulRate ≠ 0 ∨ s.act (beamPage 1) = false then s
  else
    let r := ((List.range 64).filter (s.streamOk 1)).map (fun k => (k, s.streamOut k))
    let s := { s with strm := { s.strm with
      ul := r.map (fun x => (x.1, x.2.1 :: s.ulKeep (((s.strm.ul.find? (fun e => e.1 == x.1)).map (fun e => e.2)).getD []))) } }
    (r.filter (fun x => x.2.2)).foldl (fun s _ => (s.count (BEAM.SAT_CNT 1)).raise (beamPage 1) EV.BEAM.SAT) s

/-! ### Detectors (R130 to R135) -/

/-- The threshold detectors: the receive output, and the beamformer's output of the path (R130). -/
def State.thrTick (s : State) : State :=
  let s := s.strm.rx.foldl (fun s d => match d.out with | some x => s.thrSample false d.n x | none => s) s
  s.strm.tx.foldl (fun s d =>
    match d.inq.find? (fun e => e.1 == s.tb) with
    | some e => s.thrSample true d.n ⟨s.tb, e.2.re, e.2.im, false, false⟩
    | none => s) s

/-- The sample of a tap's source on this tick. Of the observation stream only samples taken in OBS are valid. -/
def State.tapSource (s : State) (t : Nat) : Option Sample :=
  let p := s.get (MONTAP.SRC_PATH t)
  match s.get (MONTAP.SRC_KIND t) with
  | 0 => (s.rxDp p).bind (fun d => d.out)
  | 1 => (s.rxDp p).bind (fun d => d.out.map (fun x => { x with invalid := x.invalid || !bitOf d.obs ((s.rxG p + 128) / 256) }))
  | 2 => (s.txDp p).map (fun d => d.dpdIn s.tb)
  | _ => (s.txDp p).map (fun d => d.dpdOut s.tb)

/-- The sample that a tap's band filter gives when one more comes in (R132): the source is shifted by -f and filtered; the
result carries the stamp of the sample at the filter's centre, and every flag within its length. -/
def State.tapFilter (s : State) (t : Nat) (h : List Sample) : Option Sample :=
  let bw := s.get (MONTAP.BAND_BW t)
  let c := Config.bandHalf bw
  let shift := fun (x : Sample) =>
    let u := Config.turn ((2 ^ 32 - s.get (MONTAP.NCO t)) * (x.stamp / s.tapL t) % 2 ^ 32)
    cmul ⟨x.i, x.q⟩ ⟨u.1, u.2⟩
  match h[c]? with
  | none => none
  | some m =>
    let y := (fitCx false 16 (dot (Config.bandTap bw) (h.map shift)) (2 ^ 54)).1
    some ⟨m.stamp, y.re, y.im, h.any (fun x => x.invalid), h.any (fun x => x.ovl)⟩

/-- A tap whose windows start now begins them anew. -/
def State.tapStart (s : State) (t : Nat) : State :=
  let at_ := s.tb - s.tapLag t
  s.setTap t (fun x =>
    let x := if at_ % s.peakTicks t = 0 then { x with pk := none } else x
    let x := if at_ % s.msTicks t = 0 then { x with sum := 0, cnt := 0 } else x
    if at_ % 128 = 0 then { x with env := [], envOvl := false } else x)

/-- A tap takes one sample: of a retired path none counts. -/
def State.tapTake (s : State) (t : Nat) (x : Sample) : State :=
  let bad := x.invalid || s.tapRetired t
  s.setTap t (fun y =>
    let y := { y with envOvl := y.envOvl || (x.ovl && !s.tapRetired t) }
    if bad then y
    else { y with
      pk := (match y.pk with | some z => if z.mag < x.mag then some x else some z | none => some x)
      sum := y.sum + x.mag, cnt := y.cnt + 1, env := y.env ++ [x.mag] })

/-- One tick of a tap. -/
def State.tapTick (s : State) (t : Nat) : State :=
  if s.act (tapPage t) = false then s.setTap t (fun x => { since := x.since, test := x.test })
  else
    let s := s.tapStart t
    match s.tapSource t with
    | none => s
    | some x =>
      if s.banded t then
        let h := (x :: (s.taps.getD t {}).hist).take (2 * Config.bandHalf (s.get (MONTAP.BAND_BW t)) + 1)
        let s := s.setTap t (fun y => { y with hist := h })
        match s.tapFilter t h with
        | some y => s.tapTake t y
        | none => s
      else (s.setTap t (fun y => { y with hist := [] })).tapTake t x

/-! ### Capture (R340) -/

/-- The sample of a port's source on this tick. -/
def State.capSourceSample (s : State) (k : Nat) : Option Sample :=
  let p := s.get (CP.SRC_IDX k)
  match s.get (CP.SRC_KIND k) with
  | 0 => (s.rxDp p).bind (fun d => d.out)
  | 1 => (s.rxDp p).map (fun d =>
      let x := d.observed s.tb
      { x with i := (fit false 16 x.i 4).1, q := (fit false 16 x.q 4).1 })
  | 2 => (s.txDp p).map (fun d => d.dpdIn s.tb)
  | 3 => (s.txDp p).map (fun d => d.dpdOut s.tb)
  | _ => none

/-- One tick of an armed port. -/
def State.capTick (s : State) (k : Nat) : State :=
  if s.on (CP.ARMED k) = false then s
  else
    match s.capSourceSample k with
    | some x => (s.capFeeds k [x]).capDrain k
    | none => s

/-! ### Cumin (R303, R308, R309, R311) -/

/-- A chain at the burst instant: the samples whose features reach the pin from now on are under way in it, from the first of
the pulse of chip 0 on; before them went zeros (R308, R309). The traffic that waits at its input stays. -/
def State.burstReplay (s : State) (d : TxDp) : TxDp × State :=
  let lead := s.get (TXPATH.GD_NOW d.n) / 256 + 66
  let r := (List.range lead).foldl (fun (a : TxDp × State) i =>
    State.txStep { a.2 with tb := s.tb + i - lead, ao := s.ao + i - lead } a.1) ({ n := d.n }, s)
  ({ r.1 with inq := d.inq, up1 := d.up1, up2 := d.up2, up3 := d.up3 }, { r.2 with tb := s.tb, ao := s.ao })

/-- BURST_START: the burst is sent or skipped; the chains of the paths that send it take it up. -/
def State.burstSend (s : State) : State :=
  let t := s.burstStart
  if s.snd.burst = t.snd.burst then t
  else
    let r := t.strm.tx.foldl (fun (a : List TxDp × State) d =>
      if (t.path d.n).st = .sndTx then (fun (x : TxDp × State) => (a.1 ++ [x.1], x.2)) (a.2.burstReplay d) else (a.1 ++ [d], a.2)) ([], t)
    { r.2 with strm := { r.2.strm with tx := r.1 } }

def execBurstStart (s : State) : Out := .next s.burstSend

/-- A path of the reception window gives its sample with the receive calibration in force; an INVALID one is zero. -/
def State.sndPath (s : State) (n : Nat) : Cx :=
  match s.rxDp n with
  | some d => s.calibrate 1 n 1 d.snd
  | none => Cx0

/-- The histories that the reception window needs. -/
def State.sndHist (s : State) : State :=
  { s with strm := { s.strm with rx := s.strm.rx.map (fun d =>
    if (s.path d.n).st = .sndRx then
      { d with snd := shiftIn (calSpan 1) (if (d.observed s.tb).invalid then Cx0 else d.corr) d.snd }
    else { d with snd := [] }) } }

/-- Beams A and B: the weighted sums, the shift and the matched pulse at 491.52 Msps, exactly. -/
def State.sndTick (s : State) : State :=
  let s := s.sndHist
  let ps := (s.strm.rx.map (fun d => d.n)).filter (fun n => (s.path n).st == .sndRx)
  if ps = [] then s.setSnd (fun d => { d with inA := [], inB := [], outA := Cx0, outB := Cx0 })
  else if s.tb % 2 ≠ 0 then s
  else
    let u := Config.turn ((2 ^ 32 - s.get SOUND0.NCO) * (s.tb / 2) % 2 ^ 32)
    let beam := fun (re im : Nat → Loc) =>
      cmul ⟨u.1, u.2⟩ ((ps.map (fun n => cmul ⟨s.geti (re n), s.geti (im n)⟩ (s.sndPath n))).foldl cadd Cx0)
    let a := shiftIn 65 (beam SOUND1.RXA_W_RE SOUND1.RXA_W_IM) s.snd.inA
    let b := shiftIn 65 (beam SOUND1.RXB_W_RE SOUND1.RXB_W_IM) s.snd.inB
    let pulse := fun (k : Nat) => Config.rrc (512 * k)
    s.setSnd (fun d => { d with inA := a, inB := b, outA := dot pulse a, outB := dot pulse b })

/-! ### Code periods that count (R242) -/

/-- The samples of path `p` serve the array measurement of direction `d` now: a transmit path sends, a receive path's sample is
neither INVALID nor OVL. -/
def State.arrSample (s : State) (d p : Nat) : Bool :=
  s.codePeriod p d && (if d = 0 then s.drv p == 2 else s.rxValid p && !s.on (RXPATH.OVL_ACT p))

/-- A period counts: its index joins those that have counted, and with the last of them a measurement is complete. -/
def State.arrCount (s : State) (key : Nat) : State :=
  let h := s.arrayOrder
  let seen := setBit (s.cal.arrSeen.look key) ((s.tb / 4096 - 1) % h)
  { s with cal :=
    if seen = 2 ^ h - 1 then { s.cal with arrSeen := s.cal.arrSeen.put key 0, arrDone := s.cal.arrDone.put key (s.cal.arrDone.look key + 1) }
    else { s.cal with arrSeen := s.cal.arrSeen.put key seen } }

/-- One tick of the array measurements. A period is judged 32 ticks after its end, when no overload can mark its samples any
more (R113). A loss of the clocks voids the measurement under way (R80). -/
def State.arrTick (s : State) : State :=
  if s.mode ≠ 5 ∧ s.mode ≠ 6 then s
  else
    let good := ([0, 1].flatMap (fun d => (allPaths.filter (fun p => s.arrSample d p)).map (fun p => d * 128 + p))).map
      (fun k => (k, ((s.cal.arrGood.find? (fun e => e.1 == k)).map (fun e => e.2)).getD s.tb))
    let s := { s with cal := { s.cal with
      arrGood := good
      arrPend := if s.tb % 4096 = 4095 then (good.filter (fun e => decide (e.2 + 4095 ≤ s.tb))).map (fun e => e.1) else s.cal.arrPend
      arrSeen := s.cal.arrSeen.filter (fun e => s.cpllReady && s.loReady (e.1 % 128 / 8)) } }
    if s.tb % 4096 = 31 then
      let s := (s.cal.arrPend.filter (fun k => decide (k < 128) || !s.on (RXPATH.OVL_ACT (k % 128)))).foldl State.arrCount s
      { s with cal := { s.cal with arrPend := [] } }
    else s

/-! ### The tick -/

/-- Attenuations that a limiter window has set come into force 512 ticks after it (R189). -/
def State.attTick (s : State) : State :=
  match s.strm.attNext with
  | some (t, ps, ls) =>
    if s.tb < t then s
    else ({ s with strm := { s.strm with attNext := none } }).setAtts ps ls
  | none => s

/-- What happens to the samples of this tick, before time moves on. -/
def State.streamTick (s : State) : State :=
  if s.tbRun = false then s
  else
    let pages := s.livePages
    let s := s.attTick
    let s := ((s.rxTick pages).txTick pages).uplink.thrTick
    let s := (List.range 8).foldl State.tapTick s
    ((List.range 8).foldl State.capTick s).sndTick.arrTick

end Sys2Proof.Machine
end

