-- ==== Sys2Proof/Machine/Anise.lean ====
section
/-! DEFINITION. The broadcast receiver (14): tuning, FM with RDS, DAB, the frame timing and its calibration, and the
side-data queue. -/

namespace Sys2Proof.Machine

/-! ### Operation and tuning (R318 to R321) -/

/-- The mode and the record permit Anise while EN is 1. -/
def execAnisePermit (s : State) : Out :=
  .next (if s.on (HDR.EN 0x0E4) ∧ s.aniseAllowed then s.aniseGate else s)

/-- Demodulation runs. -/
def State.aniseRuns (s : State) : Bool := s.act 0x0E4 && s.bc.locked && !s.bc.feCal && s.on CPLL.REF_OK

/-- A frequency is permitted for a standard (R319). -/
def bandOk (std khz : Nat) : Bool :=
  if std = 0 then decide (65000 ≤ khz ∧ khz ≤ 108000 ∧ khz % 50 = 0)
  else if std = 1 then decide (174000 ≤ khz ∧ khz ≤ 240000 ∧ khz % 16 = 0)
  else false

/-- The binding of the calibration no longer holds: MEAS_VALID clears, TIMING_LOST, CAL_VALID is kept (R336). -/
def State.aniseUnbind (s : State) : State :=
  if s.bc.bound then
    ((s.setBc (fun b => { b with bound := false })).aniseLapse.raise 0x0E4 EV.BCAST0.TIMING_LOST).selectSource
  else s

/-- Anise retunes: the synthesiser unlocks, and a change of STD or of more than 20 MHz calibrates the front end. -/
def State.aniseTune (s : State) (khz : Nat) (newStd : Bool) : State :=
  if s.act 0x0E4 = false then s
  else
    let old := s.get BCAST0.FREQ_ACT
    let far := newStd || decide (20000 < max old khz - min old khz)
    let s := (s.set BCAST0.FREQ_ACT khz).aniseUnsync.aniseUnbind
    let s := s.setBc (fun b => { b with locked := false, feCal := b.feCal || far })
    if far then (s.set BCAST0.QUAL_STALE 1).set (HDR.STALE 0x0E4) 1 else s

/-- STD and FREQ after a write of either or both; a reserved STD is not applied. -/
def State.retune (s : State) (std khz : Nat) : State :=
  let std := if std < 2 then std else s.get BCAST0.STD
  if bandOk std khz = false then s.raise 0x0E4 EV.BCAST0.BAND_ERR
  else if std = s.get BCAST0.STD ∧ khz = s.get BCAST0.FREQ then s
  else
    let newStd := decide (std ≠ s.get BCAST0.STD)
    let s := (s.set BCAST0.STD std).set BCAST0.FREQ khz
    let s := s.setBc (fun b => { b with hop := none, afNext := none, left := [], candAt := none, lostAt := none })
    s.aniseTune khz newStd

/-- The enable sequence of Anise ends: it holds its front-end calibration, and the tuned frequency is in use. -/
def State.aniseOn (s : State) : State :=
  let s := s.setBc (fun b => { b with locked := s.on CPLL.REF_OK, feCal := false, chkAt := s.ao, weakAt := none })
  ((s.set BCAST0.FREQ_ACT (s.get BCAST0.FREQ)).set BCAST0.QUAL_STALE 0).set (HDR.STALE 0x0E4) 0

/-- The shut-down sequence of Anise ends: the measurement lapses, the calibration and the queue are kept. -/
def State.aniseOff (s : State) : State :=
  let s := ((s.aniseUnsync.aniseLapse.set BCAST0.FREQ_ACT 0).set BCAST0.QUAL_STALE 0).set (HDR.STALE 0x0E4) 0
  let s := s.setBc (fun b => { b with locked := false, feCal := false, bound := false, hop := none, left := [], candAt := none })
  s.selectSource

/-- The synthesiser locks. -/
def State.synthLock (s : State) : State :=
  if s.act 0x0E4 ∧ s.on CPLL.REF_OK then s.setBc (fun b => { b with locked := true }) else s

def execSynthLock (s : State) : Out := .next s.synthLock

/-- The front-end calibration completes. -/
def State.feCalDone (s : State) : State :=
  if s.bc.feCal ∧ s.bc.locked then
    ((s.setBc (fun b => { b with feCal := false })).set BCAST0.QUAL_STALE 0).set (HDR.STALE 0x0E4) 0
  else s

def execBcastFeCalDone (s : State) : Out := .next s.feCalDone

/-- The quality readings follow the front ends, but hold during a calibration. -/
def State.qualNote (s : State) (q : Quality) : State :=
  if s.on BCAST0.QUAL_STALE then s
  else
    let s := (s.seti BCAST0.RSSI_A q.rssiA).seti BCAST0.RSSI_B q.rssiB
    s.set BCAST0.SNR (min 255 (if s.get BCAST0.AER_ACT = 0 then q.snrA else q.snrB))

/-- AER_FORCE 1 or 2 fixes the aerial (R325). -/
def State.aerForced (s : State) : State :=
  let f := s.get BCAST0.AER_FORCE
  if f = 1 ∨ f = 2 then s.set BCAST0.AER_ACT (f - 1) else s

/-! ### Side data (R338, R339) -/

/-- FILL and the head words follow the queue. -/
def State.sdqNote (s : State) : State :=
  let h := s.bc.queue.headD []
  (List.range 32).foldl (fun s i => s.set (BCAST3.SDQ_W i) (h.getD i 0)) (s.set BCAST3.FILL s.bc.queue.length)

/-- PRIO of a record. -/
def recPrio (r : List Nat) : Bool := bitOf (r.headD 0) 15

/-- A record is offered to the queue: payload `p` in words, word 3, and the stamp. -/
def State.sdq (s : State) (tag : Nat) (prio fm : Bool) (stamp w3 : Nat) (p : List Nat) : State :=
  let known := tag != 6 && tag != 21 && s.bc.last.contains (tag, w3, p)
  if bitOf (s.get BCAST3.TAG_EN) tag = false ∨ known then s
  else
    let full := decide (64 ≤ s.bc.queue.length)
    let s := if full then (s.count BCAST0.SDQ_LOST_CNT).raise 0x0E4 EV.BCAST0.SDQ_LOST else s
    let old := s.bc.queue.find? (fun r => !recPrio r)
    if full ∧ (prio = false ∨ old = none) then s
    else
      let w0 := tag * 2 ^ 24 + (4 + p.length) * 2 ^ 16 + (if prio then 2 ^ 15 else 0) + (if fm then 0 else 2 ^ 14)
        + s.get BCAST0.AER_ACT * 2 ^ 13 + s.bc.seq % 256
      let r := [w0, stamp % 2 ^ 32, stamp / 2 ^ 32 % 2 ^ 32, w3] ++ p
      let q := if full then (match old with | some x => s.bc.queue.erase x | none => s.bc.queue) else s.bc.queue
      let l := s.bc.last ++ [(tag, w3, p)]
      let s := s.setBc (fun b => { b with queue := q ++ [r], last := l.drop (l.length - 16), seq := b.seq + 1 })
      let s := s.sdqNote
      if q.isEmpty then s.raise 0x0E4 EV.BCAST0.SDQ_NEW else s

/-- Bytes as words, the first byte in bits [7:0]. -/
def bytesToWords : Nat → List Nat → List Nat
  | 0, _ => []
  | n + 1, l =>
    if l.isEmpty then []
    else (l.getD 0 0 % 256 + l.getD 1 0 % 256 * 2 ^ 8 + l.getD 2 0 % 256 * 2 ^ 16 + l.getD 3 0 % 256 * 2 ^ 24)
      :: bytesToWords n (l.drop 4)

/-- A payload of bytes, at most 28 words. -/
def payload (l : List Nat) : List Nat := bytesToWords 28 l

def State.sdqPop (s : State) : State := (s.setBc (fun b => { b with queue := b.queue.tail })).sdqNote

def State.sdqFlush (s : State) : State := (s.setBc (fun b => { b with queue := [] })).sdqNote

/-! ### FM and RDS (R322 to R325) -/

/-- The offset word `b` follows `a` in the order of the standard: 0 A, 1 B, 2 C, 3 D, 4 C'. -/
def ofsFollows (a b : Nat) : Bool :=
  if a = 0 then b == 1 else if a = 1 then b == 2 || b == 4 else if a = 2 ∨ a = 4 then b == 3 else b == 0

/-- FM diversity at a decision point (R325). -/
def State.divDecide (s : State) (q : Quality) : State :=
  let f := s.get BCAST0.AER_FORCE
  if s.on BCAST0.DIV_EN = false ∨ f = 1 ∨ f = 2 then s.setBc (fun b => { b with div := 0 })
  else
    let a := s.get BCAST0.AER_ACT
    let (mine, other) := if a = 0 then (q.snrA, q.snrB) else (q.snrB, q.snrA)
    if mine + s.get BCAST0.DIV_HYST < other then
      if 1 ≤ s.bc.div then (s.set BCAST0.AER_ACT (1 - a)).setBc (fun b => { b with div := 0 })
      else s.setBc (fun b => { b with div := b.div + 1 })
    else s.setBc (fun b => { b with div := 0 })

/-- The level of the aerial in use. -/
def State.aerLevel (s : State) : Int := if s.get BCAST0.AER_ACT = 0 then s.geti BCAST0.RSSI_A else s.geti BCAST0.RSSI_B

/-- Since when the level has stayed below AF_THR (R324). -/
def State.weakNote (s : State) : State :=
  if s.aerLevel < s.geti BCAST0.AF_THR then
    s.setBc (fun b => { b with weakAt := some (b.weakAt.getD s.ao) })
  else s.setBc (fun b => { b with weakAt := none })

/-- A block with offset word `ofs`, correctable or not, or 21.9 ms without synchronisation. -/
def State.rdsBlock (s : State) (ofs : Nat) (ok : Bool) (q : Quality) : State :=
  if s.aniseRuns = false ∨ s.get BCAST0.STD ≠ 0 then s
  else
    let s := ((s.qualNote q).divDecide q).weakNote
    if s.on BCAST1.RDS_SYNC then
      if ok then s.setBc (fun b => { b with bad := 0, lastOfs := ofs })
      else
        let s := (s.count BCAST0.BLK_ERR_CNT).setBc (fun b => { b with bad := b.bad + 1 })
        if 12 ≤ s.bc.bad then s.aniseSyncLoss else s
    else
      let run := if ok then (if 1 ≤ s.bc.run ∧ ofsFollows s.bc.lastOfs ofs then s.bc.run + 1 else 1) else 0
      let s := s.setBc (fun b => { b with run := run, lastOfs := ofs })
      if 3 ≤ run then
        ((s.setBc (fun b => { b with bad := 0 })).set BCAST1.RDS_SYNC 1 |>.set BCAST0.SYNC 1).raise 0x0E4 EV.BCAST0.SYNC
      else s

def execRdsBlock (ofs : Nat) (ok : Bool) (q : Quality) (s : State) : Out := .next (s.rdsBlock ofs ok q)

/-- A group with another PI than the published one clears PI_VALID, PS and the AF list (R323). -/
def State.piChange (s : State) : State :=
  let s := (((s.set BCAST1.PI_VALID 0).set BCAST1.PS0 0).set BCAST1.PS1 0).set BCAST1.AF_CNT 0
  let s := (List.range 25).foldl (fun s i => s.set (BCAST1.AF i) 0) s
  s.setBc (fun b => { b with ps := [(0, 0), (0, 0), (0, 0), (0, 0)], afNew := none, afOld := [], afNext := none })

/-- What is published of the PI: two consecutive groups agree (R323). -/
def State.rdsHead (s : State) (a b : Nat) : State :=
  let g := (a % 2 ^ 16, bits b 10 1, bits b 5 5)
  let agree := s.bc.grp == some g
  let s := s.setBc (fun b => { b with grp := some g })
  let s := if s.on BCAST1.PI_VALID ∧ s.get BCAST1.PI ≠ g.1 then s.piChange else s
  if agree then (((s.set BCAST1.PI g.1).set BCAST1.PI_VALID 1).set BCAST1.TP g.2.1).set BCAST1.PTY g.2.2 else s

/-- A PS segment: two characters, the first in the higher byte of block D. -/
def State.rdsPs (s : State) (prio : Bool) (stamp w3 seg d : Nat) : State :=
  let v := d % 2 ^ 16
  let s := s.setBc (fun b => { b with ps := upd b.ps seg (fun e => if e.1 = v ∧ 1 ≤ e.2 then (v, e.2 + 1) else (v, 1)) })
  if s.bc.ps.all (fun e => decide (2 ≤ e.2)) then
    let ch := s.bc.ps.foldr (fun e l => e.1 / 256 :: e.1 % 256 :: l) []
    let w := payload ch
    if s.get BCAST1.PS0 = w.getD 0 0 ∧ s.get BCAST1.PS1 = w.getD 1 0 then s
    else ((s.set BCAST1.PS0 (w.getD 0 0)).set BCAST1.PS1 (w.getD 1 0)).sdq 1 prio true stamp w3 w
  else s

/-- One AF code of method A: 224 + n starts a list of n, 205 is filler. -/
def afCode (x : Option (Nat × List Nat)) (c : Nat) : Option (Nat × List Nat) :=
  if 224 ≤ c ∧ c ≤ 249 then some (c - 224, [])
  else match x with
  | some (n, l) => if 1 ≤ c ∧ c ≤ 204 ∧ l.length < n then some (n, l ++ [c]) else some (n, l)
  | none => none

/-- Block C of group 0A; a complete list that equals the one before is published. -/
def State.rdsAf (s : State) (prio : Bool) (stamp w3 c : Nat) : State :=
  let x := afCode (afCode s.bc.afNew (c / 256 % 256)) (c % 256)
  match x with
  | some (n, l) =>
    if l.length = n then
      let agree := s.bc.afOld == l && decide (1 ≤ n)
      let s := s.setBc (fun b => { b with afNew := none, afOld := l })
      let same := s.get BCAST1.AF_CNT == n && (List.range n).all (fun i => s.get (BCAST1.AF i) == l.getD i 0)
      if agree ∧ same = false then
        let s := (List.range 25).foldl (fun s i => s.set (BCAST1.AF i) (l.getD i 0)) (s.set BCAST1.AF_CNT n)
        s.sdq 2 prio true stamp w3 (payload (n :: l))
      else s
    else s.setBc (fun b => { b with afNew := x })
  | none => s

/-- Three blocks of 16 bits as payload. -/
def three (b c d : Nat) : List Nat := [b % 2 ^ 16 + c % 2 ^ 16 * 2 ^ 16, d % 2 ^ 16]

/-- A complete group, stamped at the first bit of its block A. -/
def State.rdsGroup (s : State) (a b c d stamp : Nat) : State :=
  if s.aniseRuns = false ∨ s.get BCAST0.STD ≠ 0 ∨ s.on BCAST1.RDS_SYNC = false then s
  else
    let pty := s.get BCAST1.PTY
    let s := s.rdsHead a b
    let s := s.setBc (fun x => { x with hop := x.hop.map (fun h => (h.1, h.2.1, h.2.2 + 1)) })
    let toAlarm := pty != 31 && s.get BCAST1.PTY == 31
    let code := bits b 11 5
    let type := code / 2
    let w3 := a % 2 ^ 16 * 2 ^ 16 + code
    let s := if toAlarm ∨ code = 18 then s.raise 0x0E4 EV.BCAST0.ALARM else s
    if type = 0 then
      let s := s.set BCAST1.TA (bits b 4 1)
      let s := s.rdsPs toAlarm stamp w3 (b % 4) d
      if code = 0 then s.rdsAf toAlarm stamp w3 c else s
    else if code = 2 then (if bits c 12 3 = 0 then s.set BCAST1.ECC (c % 256) else s)
    else if code = 8 then s.sdq 3 toAlarm true stamp w3 (three b c d)
    else if code = 18 then s.sdq 4 true true stamp w3 (three b c d)
    else if type = 14 then s.sdq 5 toAlarm true stamp w3 (three b c d)
    else if s.on BCAST0.RAW_EN then
      s.sdq 6 toAlarm true stamp w3 [a % 2 ^ 16 + b % 2 ^ 16 * 2 ^ 16, c % 2 ^ 16 + d % 2 ^ 16 * 2 ^ 16]
    else s

def execRdsGroup (a b c d stamp : Nat) (s : State) : Out := .next (s.rdsGroup a b c d stamp)

/-- The frequency of an AF code, in kHz. -/
def afKHz (c : Nat) : Nat := 87500 + 100 * c

/-- A hop: counted, raised, and the timing binding ends. -/
def State.aniseHop (s : State) (khz : Nat) : State :=
  ((s.aniseTune khz false).count BCAST0.HOP_CNT).raise 0x0E4 EV.BCAST0.HOP

/-- A pass over the AF list is due (R324): 983,040,000 ticks last 1 s. -/
def State.afDue (s : State) : Bool :=
  let chk := s.get BCAST0.AF_CHK
  (chk != 0 && decide (s.bc.chkAt + chk * 983040000 ≤ s.ao)) ||
    (match s.bc.weakAt with | some t => decide (t + 983040000 ≤ s.ao) | none => false)

/-- The next AF of the pass is measured at `level` dBm. -/
def State.afCheck (s : State) (level : Int) : State :=
  let n := s.get BCAST1.AF_CNT
  if s.aniseRuns = false ∨ s.get BCAST0.STD ≠ 0 ∨ s.on BCAST0.AF_EN = false ∨ n = 0 then s
  else
    let s := if s.bc.afNext = none ∧ s.afDue then
        s.setBc (fun b => { b with afNext := some 0, chkAt := s.ao, weakAt := none }) else s
    match s.bc.afNext with
    | none => s
    | some i =>
      let khz := afKHz (s.get (BCAST1.AF i))
      let barred := s.bc.bars.any (fun x => x.1 == khz && decide (s.ao < x.2))
      let s := s.setBc (fun b => { b with afNext := if i + 1 < n then some (i + 1) else none })
      if barred = false ∧ khz ≠ s.get BCAST0.FREQ_ACT ∧ s.aerLevel + (s.get BCAST0.AF_MARGIN : Int) < level ∧ bandOk 0 khz then
        let h := (s.get BCAST0.FREQ_ACT, s.get BCAST1.PI, 0)
        (s.setBc (fun b => { b with afNext := none, hop := some h })).aniseHop khz
      else s

def execAfCheck (level : Int) (s : State) : Out := .next (s.afCheck level)

/-- The PI decoded within the two groups after a hop. -/
def State.afPi (s : State) (pi : Nat) : State :=
  match s.bc.hop with
  | none => s
  | some (khz, was, n) =>
    if 2 < n then s.setBc (fun b => { b with hop := none })
    else if pi % 2 ^ 16 = was then (if n = 2 then s.setBc (fun b => { b with hop := none }) else s)
    else
      let bad := s.get BCAST0.FREQ_ACT
      (s.setBc (fun b => { b with hop := none, bars := b.bars.filter (fun x => x.1 != bad) ++ [(bad, s.ao + 58982400000)] })).aniseHop khz

def execAfPiCheck (pi : Nat) (s : State) : Out := .next (s.afPi pi)

/-! ### The frame timing (R333 to R336) -/

/-- P in 1/256 tick. -/
def framePeriod : Nat := 94371840 * 256

/-- x in [-P/2, P/2). -/
def wrapP (x : Int) : Int :=
  let p : Int := framePeriod
  (x + p / 2) % p - p / 2

/-- CAL_PHASE with its fraction. -/
def State.calPhase (s : State) : Nat := s.get BCAST2.CAL_PHASE * 256 + s.get BCAST2.CAL_FRAC

/-- The conditions of a calibration run. -/
def State.calConds (s : State) : Bool :=
  let k := s.get TIMEBASE.SRC_ACT
  s.on BCAST0.SYNC && (k == 1 || k == 2) && (s.sources.getD (k - 1) none).isSome

/-- A mean of `n` values; its rounding is open, so one more may be added by a free bit (log entry 9). -/
def meanFree (x : Int) (n free : Nat) : Int := x / n + (if x % n = 0 then 0 else (free % 2 : Nat))

/-- A frame of the calibration (R334). -/
def State.calFrame (s : State) (f : Nat) : State :=
  if s.calConds = false then s.setBc (fun b => { b with go := false, cal := none })
  else if s.bc.cal = none ∧ s.bc.go = false ∧ s.on BCAST2.CAL_AUTO = false then s
  else
    let ph := (((f : Int) + s.geti TIMEBASE.NET_OFFSET) % (framePeriod : Nat)).toNat
    let r : AniRun := s.bc.cal.getD { first := ph }
    let r : AniRun := { r with n := r.n + 1, sum := r.sum + wrapP ((ph : Int) - r.first) }
    let k := 2 ^ s.get BCAST2.CAL_K
    let s := s.setBc (fun b => { b with go := false, cal := some r })
    if r.n < k then s
    else
      let (x, s) := s.freeNat
      let m := (((r.first : Int) + meanFree r.sum k x) % (framePeriod : Nat)).toNat
      let s := (s.set BCAST2.CAL_PHASE (m / 256)).set BCAST2.CAL_FRAC m
      let s := (s.set BCAST2.CAL_EID (s.get BCAST2.EID)).set BCAST2.CAL_FREQ (s.get BCAST0.FREQ_ACT)
      let s := s.setBc (fun b => { b with cal := none, phi := none, miss := 0, bound := true })
      (s.set BCAST2.CAL_VALID 1).raise 0x0E4 EV.BCAST0.CAL_DONE

/-- A frame passes the gate and gives m. -/
def State.gatePass (s : State) (f ph : Nat) : State :=
  let m := wrapP ((s.calPhase : Int) - ph)
  let (x, s) := s.freeNat
  let (y, s) := s.freeNat
  let ms := s.ani.ms ++ [m]
  let ms := ms.drop (ms.length - 8)
  let h := s.ani.hist ++ [(f, m)]
  let h := h.drop (h.length - 2 ^ s.get BCAST2.CAL_K)
  let val := meanFree (ms.foldl (· + ·) 0) ms.length x
  let a : AniseMeas := { ms := ms, val := val, hist := h, passed := some s.tb,
                         freq := slopeErr (h.map (fun e => (e.1 - (h.headD (0, 0)).1, e.2))) y }
  let s := (({ s with ani := a }.seti BCAST2.MEAS val).set BCAST2.MEAS_VALID 1).set BCAST2.GATE_OK 1
  (s.setBc (fun b => { b with phi := some ph, miss := 0, bound := true })).selectSource

/-- A frame fails the gate (R336). -/
def State.gateMiss (s : State) (ph : Nat) : State :=
  let s := s.setBc (fun b => { b with miss := b.miss + 1 })
  if s.bc.miss < max 1 (s.get BCAST2.MISS_MAX) then s
  else if (wrapP ((ph : Int) - s.calPhase)).natAbs ≤ s.get BCAST2.SFN_TOL * 256 then
    (s.setBc (fun b => { b with phi := some ph, miss := 0 })).raise 0x0E4 EV.BCAST0.RECENTRE
  else
    let s := (s.set BCAST2.CAL_VALID 0).aniseLapse
    ((s.setBc (fun b => { b with miss := 0, bound := false })).raise 0x0E4 EV.BCAST0.CAL_LOST).selectSource

/-- A frame of the measurement (R335): the gate is half-open. -/
def State.gateFrame (s : State) (f : Nat) : State :=
  let s := s.set BCAST2.GATE_OK 0
  if s.on BCAST2.CAL_VALID = false then s
  else if s.get BCAST2.EID = s.get BCAST2.CAL_EID ∧ s.get BCAST0.FREQ_ACT = s.get BCAST2.CAL_FREQ then
    let ph := f % framePeriod
    let d := wrapP ((ph : Int) - s.bc.phi.getD s.calPhase)
    let w : Int := s.get BCAST2.GATE_W * 256
    if -w ≤ d ∧ d < w then s.gatePass f ph else s.gateMiss ph
  else s.aniseUnbind

/-! ### DAB (R326 to R332) -/

/-- Word 3 of a DAB record. -/
def State.dabW3 (s : State) (type ext : Nat) : Nat := s.get BCAST2.EID * 2 ^ 16 + type * 2 ^ 8 + ext

/-- FIG 0/0. Another EId ends what the ensemble before it told of following (R330). -/
def State.fig00 (s : State) (eid cif : Nat) : State :=
  let s := if s.get BCAST2.EID = trunc 16 eid then s else s.setBc (fun b => { b with cand := ([], []) })
  ((s.set BCAST2.EID eid).set BCAST2.ENS_VALID 1).set BCAST2.CIF_CNT cif

/-- The header byte of a FIG: its type over the length of its data field (EN 300 401; log entry 59). -/
def figHeader (g : Fig) : Nat := g.type % 8 * 32 + g.data.length % 32

/-- The record that a FIG becomes, and what it tells of following. -/
def State.fig (s : State) (stamp : Nat) (alarm : Bool) (g : Fig) : State :=
  let w3 := s.dabW3 g.type g.ext
  let put := fun (tag : Nat) (prio : Bool) (s : State) => s.sdq tag prio false stamp w3 (payload g.data)
  match g.type, g.ext with
  | 0, 0 => s
  | 0, 1 => s
  | 0, 3 => s
  | 0, 6 => put 17 false (s.setBc (fun b => { b with cand := (b.cand.1, (b.cand.2 ++ g.freqs).eraseDups) }))
  | 0, 10 => put 16 false s
  | 0, 18 => s
  | 0, 19 => if alarm then put 20 true s else s
  | 0, 21 => put 18 false (s.setBc (fun b => { b with cand := ((b.cand.1 ++ g.freqs).eraseDups, b.cand.2) }))
  | 0, 24 => put 19 false (s.setBc (fun b => { b with cand := (b.cand.1, (b.cand.2 ++ g.freqs).eraseDups) }))
  | 1, 0 => put 22 false s
  | _, _ => if s.on BCAST0.RAW_EN then s.sdq 23 false false stamp w3 (payload (figHeader g :: g.data)) else s

/-- DAB diversity (R331): at least 1 dB, which is four steps of 0.25 dB. -/
def State.dabAerial (s : State) (q : Quality) : State :=
  let f := s.get BCAST0.AER_FORCE
  if s.on BCAST0.DIV_EN = false ∨ f = 1 ∨ f = 2 then s
  else if q.snrA + 4 ≤ q.snrB then s.set BCAST0.AER_ACT 1
  else if q.snrB + 4 ≤ q.snrA then s.set BCAST0.AER_ACT 0 else s

/-- Three frames in a row declare synchronisation; a candidate that synchronises is kept (R326, R330). -/
def State.dabSync (s : State) : State :=
  let s := s.setBc (fun b => { b with run := b.run + 1, bad := 0 })
  if s.on BCAST0.SYNC ∨ s.bc.run < 3 then s
  else
    let s := (s.set BCAST0.SYNC 1).raise 0x0E4 EV.BCAST0.SYNC
    let hop := s.bc.candAt.isSome
    let s := s.setBc (fun b => { b with lostAt := none, left := [], candAt := none, alarm := false })
    if hop then (s.count BCAST0.HOP_CNT).raise 0x0E4 EV.BCAST0.HOP else s

/-- The sub-channel SUBCH is located and supported (R329). -/
def State.subLocated (s : State) : Bool := s.bc.subs.contains (s.get BCAST2.SUBCH)

/-- The frame stamp, in 1/256 tick: the start of the null symbol before a PRS that began at `t` (R333). -/
def frameStamp (t : Nat) : Nat := (t + 2 ^ 72 - 1274880 * 256) % 2 ^ 72

/-- What the FIC and the stamp `f` of a synchronised frame do. -/
def State.dabBody (s : State) (x : DabFrame) (f : Nat) : State :=
  let s := s.count BCAST0.FIB_ERR_CNT x.fibBad
  let s := match x.ens with | some (e, c, _) => s.fig00 e c | none => s
  let t := f / 256
  let s := ((s.set BCAST2.FRAME_TB_LO t).set BCAST2.FRAME_TB_HI (t / 2 ^ 32)).set BCAST2.FRAC f
  let s := (s.calFrame f).gateFrame f
  let flag := match x.ens with | some (_, _, a) => a | none => false
  let on := x.alarm && flag
  let s := if on ∧ s.bc.alarm = false then s.raise 0x0E4 EV.BCAST0.ALARM else s
  let s := s.setBc (fun b => { b with alarm := on, subs := x.subs })
  let s := x.figs.foldl (fun s g => s.fig t x.alarm g) s
  s.set BCAST0.PKT_BAD (if s.on BCAST2.PKT_EN ∧ s.subLocated = false then 1 else 0)

/-- A transmission frame, with or without its PRS. -/
def State.dabFrame (s : State) (x : DabFrame) : State :=
  if s.aniseRuns = false ∨ s.get BCAST0.STD ≠ 1 then s
  else
    let s := (s.dabAerial x.qual).qualNote x.qual
    match x.prs with
    | some t =>
      let s := s.dabSync
      if s.on BCAST0.SYNC then s.dabBody x (frameStamp t) else s
    | none => s.setBc (fun b => { b with run := 0, bad := b.bad + 1 })

def execDabFrame (x : DabFrame) (s : State) : Out := .next (s.dabFrame x)

/-- Five frames in a row have had no PRS. -/
def execDabSyncLoss (s : State) : Out :=
  .next (if s.get BCAST0.STD = 1 ∧ s.aniseRuns ∧ 5 ≤ s.bc.bad then s.aniseSyncLoss else s)

/-- A packet of the sub-channel, with the stamp of its frame (R329). -/
def State.dabPacket (s : State) (addr : Nat) (data : List Nat) (ok : Bool) (f : Nat) : State :=
  if s.aniseRuns = false ∨ s.get BCAST0.STD ≠ 1 ∨ s.on BCAST0.SYNC = false ∨ s.on BCAST2.PKT_EN = false ∨ s.subLocated = false then s
  else if ok = false then s.count BCAST0.PKT_ERR_CNT
  else
    let want := s.get BCAST2.PKT_ADDR
    if (want = 1023 ∧ addr ≠ 0) ∨ (want ≠ 1023 ∧ addr = want) then
      s.sdq 21 false false (f / 256) (s.dabW3 0 0) (payload ([addr % 256, addr / 256 % 4] ++ data.take 91))
    else s

def execDabPacket (addr : Nat) (data : List Nat) (ok : Bool) (f : Nat) (s : State) : Out :=
  .next (s.dabPacket addr data ok f)

/-- Following waits: HOLD_FREQ while timing depends on Anise. -/
def State.followHeld (s : State) : Bool :=
  s.on BCAST0.HOLD_FREQ && (s.get TIMEBASE.SRC_ACT == 3 || s.on BCAST2.CAL_VALID)

/-- The next candidate is tried. -/
def State.tryCandidate (s : State) : State :=
  match s.bc.left with
  | [] => s.setBc (fun b => { b with candAt := none })
  | k :: t => (s.aniseTune k false).setBc (fun b => { b with left := t, candAt := some s.ao })

/-- Synchronisation has been lost for 2 s (R330). -/
def State.dabFollow (s : State) : State :=
  let due : Bool := match s.bc.lostAt with | some t => decide (t + 1966080000 ≤ s.ao) | none => false
  if s.act 0x0E4 ∧ s.on CPLL.REF_OK ∧ s.get BCAST0.STD = 1 ∧ s.on BCAST0.AF_EN ∧ s.on BCAST0.SYNC = false ∧ due ∧ s.followHeld = false
      ∧ s.bc.candAt = none then
    (s.setBc (fun b => { b with left := (b.cand.1 ++ b.cand.2).filter (fun k => bandOk 1 k) })).tryCandidate
  else s

def execDabFollow (s : State) : Out := .next s.dabFollow

/-- A candidate has been held for 300 ms. -/
def State.candidateTimeout (s : State) : State :=
  match s.bc.candAt with
  | some t => if t + 294912000 ≤ s.ao ∧ s.on BCAST0.SYNC = false ∧ s.followHeld = false then s.tryCandidate else s
  | none => s

def execDabCandidateTimeout (s : State) : Out := .next s.candidateTimeout

/-! ### Calibration and lapse -/

def State.timingCalGo (s : State) : State := s.setBc (fun b => { b with go := true, cal := none })

def State.timingCalClr (s : State) : State := s.set BCAST2.CAL_VALID 0

/-- No frame has passed the gate for 1 s (R335). -/
def State.aniseTimeout (s : State) : State :=
  match s.ani.passed with
  | some t => if t + 983040000 ≤ s.tb then s.aniseLapse.selectSource else s
  | none => s

def execMeasTimeout (s : State) : Out := .next s.aniseTimeout

/-- MEAS_AGE, read off the last frame that passed. -/
def State.aniseAge (s : State) : Nat :=
  match s.ani.passed with
  | some t => min (2 ^ 32 - 1) ((s.tb - t) / 983040)
  | none => 2 ^ 32 - 1

end Sys2Proof.Machine
end

