-- ==== Sys2Proof/Machine/Bus.lean ====
section
/-! DEFINITION. 32-bit accesses to the memories of Pepper's map (R384) by a class: SRAM, flash, capture memory (R351),
Clove memories (R382), the weight window (R178) and the model window (R192). -/

namespace Sys2Proof.Machine

/-- The CAPTURE page whose ACCESS governs an address: the lowest port whose region contains it, else CAPTURE0 (R351). -/
def State.capPageOf (s : State) (a : Nat) : Nat :=
  capPage (((List.range 8).find? (fun k => decide (s.capBase k ≤ a ∧ a < s.capBase k + s.capSize k))).getD 0)

/-- What refuses an access to capture memory: the export permission of the record, which the host's port asks for reads and
writes alike (R41, R55, R351). -/
def State.capAccess (s : State) (c : Cls) (a : Nat) (write : Bool) : Option Nat :=
  let export_ := match c with
    | .host => s.expHostPermitted
    | .bb => s.expBbPermitted
    | _ => true
  if c = .mon ∨ s.testPortAllows c write 0x0E8 0 0 = false then some stDENIED
  else if s.right (s.capPageOf a) c < (if write then 2 else 1) then some stDENIED
  else if export_ = false ∧ (write = false ∨ c = .host) then some stDENIED else none

/-- What refuses an access to the Clove memories: the ACCESS of CLOVEc, and of CLOVE0 for shared memory (R382). -/
def State.cloveAccess (s : State) (c : Cls) (a : Nat) (write : Bool) : Option Nat :=
  let pg := if cloveShared ≤ a then 0x100 else 0x100 + (a - 0x38000000) / 0x100000
  if c = .mon ∨ s.testPortAllows c write pg 0 0 = false then some stDENIED
  else if s.right pg c < (if write then 2 else 1) then some stDENIED else none

/-- The address lies in a Clove data memory. -/
def cloveData (a : Nat) : Bool := decide (0x38000000 ≤ a) && decide (a < 0x40000000) && (codeWordOf a).isSome

def inSram (a : Nat) : Bool := decide (sramBase ≤ a ∧ a < sramBase + 0x80000)
def inCapture (a : Nat) : Bool := decide (captureBase ≤ a ∧ a < captureBase + captureSize)
def inFlash (a : Nat) : Bool := decide (flashBase ≤ a ∧ a < flashBase + min 0x10000000 Config.flashSize)
def inWeights (a : Nat) : Bool := decide (0x50000000 ≤ a ∧ a < 0x50800000)
def inModel (a : Nat) : Bool := decide (modelBase ≤ a ∧ a < modelBase + 0x20000)

/-- A read whose rights are clear: BUS_ERROR where the word is uncorrectable. -/
def State.readAs (s : State) (c : Cls) (a : Nat) (refusal : Option Nat) : Nat × Nat × State :=
  match refusal with
  | some r => (r, 0, s)
  | none =>
    match s.readMem c.code a with
    | (some v, s) => (stOK, v, s)
    | (none, s) => (stBUS_ERROR, 0, s)

/-- A 32-bit read of a memory: its status, the word and the state. -/
def State.busRead (s : State) (c : Cls) (a : Nat) : Nat × Nat × State :=
  if a % 4 ≠ 0 then (stBUS_ERROR, 0, s)
  else if inSram a then s.readAs c a none
  else if inFlash a then (stOK, s.word a, s)
  else if inCapture a then s.readAs c a (s.capAccess c a false)
  else if cloveData a then
    let r := s.readAs c a (s.cloveAccess c a false)
    (r.1, r.2.1 % 2 ^ 24, r.2.2)
  else if inWeights a then s.windowRead c a
  else if inModel a then s.modelRead c a
  else (stBUS_ERROR, 0, s)

/-- A write whose rights are clear: a partial write of a 64-bit code word, or the whole of a 32-bit one. -/
def State.writeAs (s : State) (c : Cls) (a v : Nat) (whole : Bool) (refusal : Option Nat) : Nat × State :=
  match refusal with
  | some r => (r, s)
  | none =>
    if whole then (stOK, s.writeWhole a [v])
    else match s.writePartial c.code a v with
      | (true, s) => (stOK, s)
      | (false, s) => (stBUS_ERROR, s)

/-- A 32-bit write of a memory: its status and the state. -/
def State.busWrite (s : State) (c : Cls) (a v : Nat) : Nat × State :=
  if a % 4 ≠ 0 then (stBUS_ERROR, s)
  else if inSram a then s.writeAs c a v false none
  else if inCapture a then s.writeAs c a v false (s.capAccess c a true)
  else if cloveData a then s.writeAs c a (v % 2 ^ 24) true (s.cloveAccess c a true)
  else if inWeights a then s.windowWrite c a v
  else if inModel a then s.modelWrite c a v
  else (stBUS_ERROR, s)

/-- A write of an aligned pair of words, which makes whole 64-bit code words (R436). -/
def State.busWritePair (s : State) (c : Cls) (a v w : Nat) : Nat × State :=
  if inSram a then (stOK, s.writeWhole a [v, w])
  else if inCapture a then s.writeAs c a v true (s.capAccess c a true) |> fun r =>
    if r.1 = stOK then (stOK, r.2.writeWhole (a + 4) [w]) else r
  else if inWeights a then
    let (d, set, b, o) := windowParts a
    match s.windowAddr a, s.block d set b with
    | some _, some blk =>
      match s.windowRefusal c a true with
      | some r => (r, s)
      | none =>
        match s.bankRefusal d set b with
        | some r => (r, s)
        | none => (stOK, s.weightWhole blk (o / 256) (o % 256 / 8) v w)
    | _, _ => (stBUS_ERROR, s)
  else if inModel a then
    match s.modelRefusal c a with
    | some r => (r, s)
    | none =>
      match modelMask (a % 0x400) with
      | none => (stOK, s)
      | some m => (stOK, s.writeWhole a [v &&& m, w &&& m])
  else
    let r := s.busWrite c a v
    if r.1 = stOK then r.2.busWrite c (a + 4) w else r

/-- Writes words from an address on, pairs where they make whole code words: the status, the address it belongs to, and
the state. -/
def State.busWriteAll (s : State) (c : Cls) : Nat → List Nat → Nat × Nat × State
  | a, v :: w :: t =>
    if a % 8 = 0 then
      let r := s.busWritePair c a v w
      if r.1 = stOK then State.busWriteAll r.2 c (a + 8) t else (r.1, a, r.2)
    else
      let r := s.busWrite c a v
      if r.1 = stOK then State.busWriteAll r.2 c (a + 4) (w :: t) else (r.1, a, r.2)
  | a, [v] =>
    let r := s.busWrite c a v
    (r.1, a, r.2)
  | a, [] => (stOK, a, s)

/-- Reads `n` words from an address on: the status, the address it belongs to, the words and the state. -/
def State.busReadAll (s : State) (c : Cls) : Nat → Nat → Nat × Nat × List Nat × State
  | a, 0 => (stOK, a, [], s)
  | a, n + 1 =>
    let r := s.busRead c a
    if r.1 = stOK then
      let t := State.busReadAll r.2.2 c (a + 4) n
      (t.1, t.2.1, r.2.1 :: t.2.2.1, t.2.2.2)
    else (r.1, a, [], r.2.2)

end Sys2Proof.Machine
end

