-- ==== Sys2Proof/Machine/Dma.lean ====
section
/-! DEFINITION. The DMA engine (15): doorbells, descriptors, pacing and the end of a chain. Channel `c` is page
0x0F1 + c; its STATE is 0 idle, 1 pending, 2 running, 3 paused. -/

namespace Sys2Proof.Machine

def dmaPage (c : Nat) : Nat := 0x0F1 + c
def State.dma (s : State) (c : Nat) : DmaSt := s.dmas.getD c {}
def State.setDma (s : State) (c : Nat) (f : DmaSt → DmaSt) : State := { s with dmas := upd s.dmas c f }

/-- DMA.STAT follows the channels' states. -/
def State.dmaNote (s : State) : State :=
  let mask := fun (v : Nat) => ((List.range 8).map (fun c => if s.get (DMAC.STATE c) = v then 2 ^ c else 0)).foldl (· + ·) 0
  let run := (List.range 8).find? (fun c => s.get (DMAC.STATE c) == 2)
  let s := (s.set DMA.PAUSED (mask 3)).set DMA.PENDING (mask 1)
  match run with
  | some c => (s.set DMA.BUSY 1).set DMA.ACTIVE c
  | none => s.set DMA.BUSY 0

/-- A descriptor's place: 32-byte aligned, in SRAM or capture memory (R354, R355). -/
def descPlace (a : Nat) : Bool := decide (a % 32 = 0) && (inSram a || inCapture a)

/-- Words 6 and 7 of the descriptor are written back. -/
def State.dmaBack (s : State) (c : Nat) (done : Bool) (status residue : Nat) : State :=
  let d := s.dma c
  if descPlace d.desc then
    (s.busWriteAll d.cls (d.desc + 24) [(if done then 2 ^ 31 else 0) + status, residue]).2.2
  else s

/-- The event of a status (R357). -/
def dmaEvent (status : Nat) : Nat := if status = 0 then EV.DMAC.DONE else status + 2

/-- A chain ends (R357): write-back, STATUS, RESIDUE, FAIL_ADDR and the event. -/
def State.dmaEnd (s : State) (c status fail : Nat) (done : Bool) : State :=
  let d := s.dma c
  let residue := d.len - d.moved
  let s := s.dmaBack c done status residue
  let s := (s.set (DMAC.STATUS c) status).set (DMAC.STATE c) 0
  let s := (s.set (DMAC.RESIDUE c) residue).set (DMAC.FAIL_ADDR c) fail
  s.raise (dmaPage c) (dmaEvent status)

/-- The status of a chain that a refused or failed access ends: 4 for a bus error, 6 for a refusal. -/
def dmaStatus (st : Nat) : Nat := if st = stBUS_ERROR then 4 else 6

/-- Low and high water in bytes (R356): LO at or above HI acts as HI - 1. -/
def dmaHi (d : DmaSt) : Nat := bits d.water 16 16 * 64
def dmaLo (d : DmaSt) : Nat :=
  let hi := bits d.water 16 16
  (if hi ≤ d.water % 2 ^ 16 then hi - 1 else d.water % 2 ^ 16) * 64

/-- A burst of `n` words is moved; a paced channel reads the ring of its port and advances RD_PTR. True where every
access was performed; else the chain has ended. -/
def State.dmaBurst (s : State) (c n : Nat) : Bool × State :=
  let d := s.dma c
  let k := d.ctl % 16
  let src := if k = 0 then d.src + d.moved else s.capBase (k - 1) + s.get (CP.RD_PTR (k - 1))
  let r := s.busReadAll d.cls src n
  if r.1 ≠ stOK then (false, (r.2.2.2.refuse d.cls r.2.1 r.1).dmaEnd c (dmaStatus r.1) r.2.1 false)
  else
    let w := r.2.2.2.busWriteAll d.cls (d.dst + d.moved) r.2.2.1
    if w.1 ≠ stOK then (false, (w.2.2.refuse d.cls w.2.1 w.1).dmaEnd c (dmaStatus w.1) w.2.1 false)
    else
      let s := w.2.2
      let s := if k = 0 then s
        else s.set (CP.RD_PTR (k - 1)) ((s.get (CP.RD_PTR (k - 1)) + 4 * n) % max 1 (s.capSize (k - 1)))
      let s := s.setDma c (fun x => { x with moved := d.moved + 4 * n })
      let half := decide (2 * d.moved < d.len) && decide (d.len ≤ 2 * (d.moved + 4 * n)) && bitOf d.ctl 30
      (true, if half then s.raise (dmaPage c) EV.DMAC.HALF else s)

/-- The words of the next burst: at most 256 bytes, never over LEN, nor over the end of a ring or what it holds. -/
def State.dmaWords (s : State) (c : Nat) : Nat :=
  let d := s.dma c
  let k := d.ctl % 16
  let left := min 256 (d.len - d.moved)
  (if k = 0 then left else min (min left (s.capFill (k - 1))) (s.capSize (k - 1) - s.get (CP.RD_PTR (k - 1)))) / 4

/-- Moves until `stop` bytes have been moved, at most `fuel` bursts; true where every access was performed. -/
def State.dmaMove (s : State) (c stop : Nat) : Nat → Bool × State
  | 0 => (true, s)
  | f + 1 =>
    if stop ≤ (s.dma c).moved ∨ s.dmaWords c = 0 then (true, s)
    else
      let r := s.dmaBurst c (s.dmaWords c)
      if r.1 then State.dmaMove r.2 c stop f else r

/-- Bursts while the fill level of a paced channel's ring lies above LO (R356). -/
def State.dmaPaced (s : State) (c : Nat) : Nat → Bool × State
  | 0 => (true, s)
  | f + 1 =>
    let d := s.dma c
    let k := d.ctl % 16 - 1
    if d.len ≤ d.moved ∨ s.dmaWords c = 0 ∨ s.capFill k ≤ dmaLo d then (true, s)
    else
      let r := s.dmaBurst c (s.dmaWords c)
      if r.1 then State.dmaPaced r.2 c f else r

/-- The descriptor of a channel is read; a bad one ends the chain. True where it can be performed. -/
def State.dmaLoad (s : State) (c : Nat) : Bool × State :=
  let d := s.dma c
  let s := s.set (DMAC.CUR_DESC c) d.desc
  if descPlace d.desc = false then (false, (s.setDma c (fun x => { x with len := 0, moved := 0 })).dmaEnd c 5 d.desc false)
  else
    let r := s.busReadAll d.cls d.desc 6
    let s := if r.1 = stOK then r.2.2.2 else r.2.2.2.refuse d.cls r.2.1 r.1
    if r.1 ≠ stOK then (false, (s.setDma c (fun x => { x with len := 0, moved := 0 })).dmaEnd c (dmaStatus r.1) r.2.1 false)
    else
      let w := fun i => r.2.2.1.getD i 0
      let len := w 2 % 2 ^ 24
      let s := s.setDma c (fun x => { x with loaded := true, src := w 0, dst := w 1, len := len, ctl := w 3, water := w 4,
                                             next := w 5, moved := 0 })
      let pace := w 3 % 16
      if len < 4 ∨ len % 4 ≠ 0 ∨ w 1 % 4 ≠ 0 ∨ (pace = 0 ∧ w 0 % 4 ≠ 0) ∨ 8 < pace then (false, s.dmaEnd c 5 d.desc false)
      else (true, s)

/-- A channel runs: an unpaced one keeps the engine; a paced one starts at HI, moves down to LO and pauses (R356). -/
def State.dmaRun (s : State) (c : Nat) : State :=
  let r := if (s.dma c).loaded then (true, s) else s.dmaLoad c
  if r.1 = false then r.2
  else
    let s := r.2
    let d := s.dma c
    if d.ctl % 16 = 0 then s.set (DMAC.STATE c) 2
    else if s.capFill (d.ctl % 16 - 1) < dmaHi d then s.set (DMAC.STATE c) 3
    else
      let r := s.dmaPaced c 65536
      if r.1 = false then r.2
      else r.2.set (DMAC.STATE c) (if (r.2.dma c).len ≤ (r.2.dma c).moved then 2 else 3)

/-- The engine, when it is free, takes the lowest-numbered channel that is pending (R354). -/
def State.dmaPick (s : State) : Nat → State
  | 0 => s.dmaNote
  | f + 1 =>
    if (List.range 8).any (fun c => s.get (DMAC.STATE c) == 2) then s.dmaNote
    else match (List.range 8).find? (fun c => s.get (DMAC.STATE c) == 1) with
    | none => s.dmaNote
    | some c => State.dmaPick (s.dmaRun c) f

/-- A write of DOORBELL: the chain waits for the engine. -/
def State.dmaDoorbell (s : State) (c : Nat) (cls : Cls) (desc : Nat) : State :=
  if s.act (dmaPage c) = false then s
  else
    let s := s.setDma c (fun _ => { cls := cls, desc := desc })
    let s := (s.set (DMAC.DESC_CNT c) 0).set (DMAC.STATE c) 1
    s.dmaPick 16

/-- A busy channel refuses its DOORBELL (R354). -/
def State.doorbellRefusal (s : State) (c : Nat) : Option Nat := if s.get (DMAC.STATE c) = 0 then none else some stPENDING

/-- The descriptor of the running channel completes (R355). -/
def State.dmaDescDone (s : State) (c : Nat) : State :=
  if s.get (DMAC.STATE c) ≠ 2 then s
  else
    let r := s.dmaMove c (s.dma c).len 65536
    if r.1 = false then r.2.dmaPick 16
    else
      let s := (r.2.dmaBack c true 0 0).count (DMAC.DESC_CNT c)
      let d := s.dma c
      let s := if bitOf d.ctl 29 then s.raise (dmaPage c) EV.DMAC.DONE_DESC else s
      if bitOf d.ctl 31 then (s.dmaEnd c 0 0 true).dmaPick 16
      else if max 1 (s.get DMA.CHAIN_MAX) ≤ s.get (DMAC.DESC_CNT c) then (s.dmaEnd c 2 d.next true).dmaPick 16
      else
        let s := s.setDma c (fun x => { x with desc := d.next, loaded := false })
        (s.set (DMAC.STATE c) 1).dmaPick 16

def execDmaDescDone (c : Nat) (s : State) : Out := .next (s.dmaDescDone (c % 8))

/-- The ring of a paused channel has filled to HI. -/
def State.dmaResume (s : State) (c : Nat) : State :=
  let d := s.dma c
  if s.get (DMAC.STATE c) = 3 ∧ dmaHi d ≤ s.capFill (d.ctl % 16 - 1) then (s.set (DMAC.STATE c) 1).dmaPick 16 else s

def execDmaPaceResume (c : Nat) (s : State) : Out := .next (s.dmaResume (c % 8))

/-- A chain is aborted once the current burst is complete. How many bursts of a running descriptor have been made by
then is open: a free value. -/
def State.dmaAbort (s : State) (c : Nat) : State :=
  let st := s.get (DMAC.STATE c)
  if st = 0 then s
  else if st = 2 ∧ (s.dma c).ctl % 16 = 0 then
    let (f, s) := s.freeNat
    let d := s.dma c
    let stop := min d.len (d.moved + (1 + f % (d.len / 256 + 1)) * 256)
    let r := s.dmaMove c stop 65536
    let e := r.2.dma c
    (if r.1 then r.2.dmaEnd c 1 (e.dst + e.moved) false else r.2).dmaPick 16
  else
    let d := s.dma c
    (s.dmaEnd c 1 (if d.loaded then d.dst + d.moved else 0) false).dmaPick 16

/-- A target does not complete its handshake for the access `ofs` bytes into the descriptor; `wr`: it is the write. -/
def State.dmaTimeout (s : State) (c ofs : Nat) (wr : Bool) : State :=
  if s.get (DMAC.STATE c) ≠ 2 then s
  else
    let d := s.dma c
    let stop := max d.moved (min (d.len - 4) (ofs / 4 * 4))
    let r := s.dmaMove c (stop / 256 * 256) 65536
    if r.1 = false then r.2.dmaPick 16
    else
      let k := d.ctl % 16
      let src := if k = 0 then d.src + stop
        else r.2.capBase (k - 1) + (r.2.get (CP.RD_PTR (k - 1)) + stop - (r.2.dma c).moved) % max 1 (r.2.capSize (k - 1))
      (r.2.dmaEnd c 3 (if wr then d.dst + stop else src) false).dmaPick 16

def execTargetTimeout (c ofs : Nat) (wr : Bool) (s : State) : Out := .next (s.dmaTimeout (c % 8) ofs wr)

end Sys2Proof.Machine
end

