-- ==== Sys2Proof/Machine/CloveCore.lean ====
section
/-! DEFINITION. A Clove core (16): its encoding, registers, address generation, data memory, core I/O, the visibility of
results, and what one instruction does. -/

namespace Sys2Proof.Machine

/-! ### The encoding (R377) -/

/-- A move field at bit `lo`: enable, direction, register, address register, modify. -/
def moveOf (w lo : Nat) : Option MoveF :=
  if bitOf w (lo + 9) then some ⟨bitOf w (lo + 8), bits w (lo + 5) 3, bits w (lo + 2) 3, bits w lo 2⟩ else none

def movesOf (w : Nat) : Moves :=
  ⟨moveOf w 19, moveOf w 9, if bitOf w 8 then some (bits w 5 3, bits w 3 2) else none⟩

def macOf (w lo : Nat) : Option MacF :=
  if bits w (lo + 6) 3 = 0 then none else some ⟨bits w (lo + 6) 3, bits w (lo + 4) 2, bits w (lo + 2) 2, bits w lo 2⟩

/-- The ALU operations that name a register, and those that hold a count. -/
def aluUsesReg (op : Nat) : Bool := [10, 11, 13, 14, 15, 16, 19].contains op
def aluUsesCount (op : Nat) : Bool := op == 8 || op == 9

/-- The ALU operations that read B. -/
def aluUsesB (op : Nat) : Bool := [0, 1, 2, 3, 4, 12, 17, 18].contains op

/-- The instruction that a 48-bit word holds; none where it is illegal (R361, R371, R377). -/
def cloveDecode (w : Nat) : Option CloveOp :=
  match w % 8 with
  | 0 =>
    let m0 := macOf w 38
    let m1 := macOf w 29
    let clash : Bool := match m0, m1 with | some a, some b => a.a == b.a | _, _ => false
    if bitOf w 47 ∨ 4 ≤ bits w 44 3 ∨ 4 ≤ bits w 35 3 ∨ clash then none else some (.par m0 m1 (movesOf w))
  | 1 =>
    let op := bits w 43 5
    let r := bits w 33 6
    if bits w 29 4 ≠ 0 ∨ 20 ≤ op ∨ (aluUsesReg op ∧ 42 ≤ r) then none
    else some (.alu op (bits w 41 2) (if aluUsesB op then bits w 39 2 else 0)
      (if aluUsesReg op ∨ aluUsesCount op then r else 0) (movesOf w))
  | 2 => if bits w 27 15 ≠ 0 ∨ 42 ≤ bits w 42 6 then none else some (.li (bits w 42 6) (bits w 3 24))
  | 3 =>
    let op := bits w 45 3
    let d := bits w 39 6
    let r := bits w 33 6
    let imm := bits w 3 24
    let isA := fun (x : Nat) => decide (8 ≤ x ∧ x < 12)
    let isI := fun (x : Nat) => decide (12 ≤ x ∧ x < 20)
    if bits w 27 6 ≠ 0 then none
    else if op = 0 then (if 42 ≤ d ∨ 42 ≤ r then none else some (.mvs 0 d r 0))
    else if op = 1 then (if 12 ≤ d ∧ d < 36 then some (.mvs 1 d 0 imm) else none)
    else if op = 2 then (if isA r && isI d && imm == 0 then some (.mvs 2 d r 0) else none)
    else if op = 3 then (if isI r && isA d && imm == 0 then some (.mvs 3 d r 0) else none)
    else none
  | 4 =>
    let op := bits w 43 5
    let cond := bits w 39 4
    let target := bits w 3 15
    if 10 < op ∨ 8 < cond ∨ (cond ≠ 0 ∧ (op = 0 ∨ 4 ≤ op)) then none
    else if op = 5 then
      let fromReg := bitOf w 38
      if fromReg ∧ 42 ≤ bits w 32 6 then none
      else some (.ctl 5 0 fromReg (if fromReg then bits w 32 6 else 0) (if fromReg then 0 else bits w 18 14) target)
    else some (.ctl op cond false 0 0 (if op = 1 ∨ op = 2 then target else 0))
  | _ => none

/-! ### Registers and their visibility (R359 to R363, R368) -/

def State.core (s : State) (c : Nat) : CoreSt := s.cores.getD c {}
def State.setCore (s : State) (c : Nat) (f : CoreSt → CoreSt) : State := { s with cores := upd s.cores c f }

/-- SR bits. -/
def srZF : Nat := 0
def srNF : Nat := 1
def srAW : Nat := 2
def srCL : Nat := 3
def srRJ : Nat := 4
def srSATM : Nat := 8
def srIE : Nat := 9
/-- The bits that SR holds. -/
def srMask : Nat := 0x1F1F

def CoreSt.srSet (k : CoreSt) (b : Nat) : CoreSt := { k with sr := setBit k.sr b }
def CoreSt.srClr (k : CoreSt) (b : Nat) : CoreSt := { k with sr := clearBit k.sr b }

/-- Return stack depth. -/
def CoreSt.sd (k : CoreSt) : Nat := bits k.sr 10 3
def CoreSt.setSd (k : CoreSt) (n : Nat) : CoreSt := { k with sr := k.sr % 2 ^ 10 + n % 8 * 2 ^ 10 }

/-- A value rounded convergently at bit 24, as its upper part (R362). -/
def round24 (a : Nat) : Int := divConv (toSigned 56 a) (2 ^ 24)

/-- A number as 56 bits, and whether it wrapped (R361). -/
def wrap56 (x : Int) : Nat × Bool := (ofSigned 56 x, decide (toSigned 56 (ofSigned 56 x) ≠ x))

/-- A data word placed in an accumulator (R363). -/
def place (v : Nat) : Nat := ofSigned 56 (toSigned 24 v * 2 ^ 24)

/-- An accumulator read as a data word: the word, and whether it was clipped. -/
def readAcc (satm : Bool) (a : Nat) : Nat × Bool :=
  let r := round24 a
  if -(2 ^ 23) ≤ r ∧ r < 2 ^ 23 then (ofSigned 24 r, false)
  else if satm then (if r < 0 then 0x800000 else 0x7FFFFF, true)
  else (ofSigned 24 r, false)

/-- A register read by its code; reading an accumulator may set CL. -/
def CoreSt.read (k : CoreSt) (r : Nat) : Nat × CoreSt :=
  if r < 4 then (k.x.getD r 0, k)
  else if r < 8 then (k.y.getD (r - 4) 0, k)
  else if r < 12 then
    let v := readAcc (bitOf k.sr srSATM) (k.accV.getD (r - 8) 0)
    (v.1, if v.2 then k.srSet srCL else k)
  else if r < 20 then (k.i.getD (r - 12) 0, k)
  else if r < 28 then (k.m.getD (r - 20) 0, k)
  else if r < 36 then (k.k.getD (r - 28) 0, k)
  else (([k.lc, k.ls, k.le, k.sr, k.spc, k.ssr] : List Nat).getD (r - 36) 0, k)

/-- Nothing is in flight any more to a target, because a newer result has reached it. -/
def CoreSt.drop (k : CoreSt) (t : Nat) : CoreSt := { k with flight := k.flight.filter (fun f => f.2.1 != t) }

/-- A result that becomes visible after `n` further instructions. -/
def CoreSt.fly (k : CoreSt) (n t v : Nat) : CoreSt := { k with flight := k.flight ++ [(n, t, v)] }

/-- The targets of results in flight: 8 to 11 an accumulator for every other read, 48 to 51 for a multiplier, 12 to 35
I, M and K for address generation, 36 to 38 LC, LS and LE for the loop test, 39 the flags for conditional jumps. -/
def CoreSt.land (k : CoreSt) (t v : Nat) : CoreSt :=
  if 8 ≤ t ∧ t < 12 then { k with accV := k.accV.set (t - 8) v }
  else if 48 ≤ t ∧ t < 52 then { k with acc := k.acc.set (t - 48) v }
  else if 12 ≤ t ∧ t < 20 then { k with ig := k.ig.set (t - 12) v }
  else if 20 ≤ t ∧ t < 28 then { k with mg := k.mg.set (t - 20) v }
  else if 28 ≤ t ∧ t < 36 then { k with kg := k.kg.set (t - 28) v }
  else if t = 36 then { k with lcV := v }
  else if t = 37 then { k with lsV := v }
  else if t = 38 then { k with leV := v }
  else if t = 39 then { k with nz := v }
  else k

/-- One instruction has completed: what is due becomes visible. -/
def CoreSt.age (k : CoreSt) : CoreSt :=
  let due := k.flight.filter (fun f => decide (f.1 ≤ 1))
  let k := { k with flight := (k.flight.filter (fun f => decide (1 < f.1))).map (fun f => (f.1 - 1, f.2)) }
  due.foldl (fun k f => k.land f.2.1 f.2.2) k

/-- Every result in flight is written, as at an interrupt entry. -/
def CoreSt.landAll (k : CoreSt) : CoreSt := k.flight.foldl (fun k f => k.land f.2.1 f.2.2) { k with flight := [] }

/-- An accumulator takes a value that every reader sees from the next instruction on. -/
def CoreSt.loadAcc (k : CoreSt) (a v : Nat) : CoreSt :=
  let k := (k.drop (8 + a)).drop (48 + a)
  { k with acc := k.acc.set a v, accV := k.accV.set a v }

/-- A MAC or ALU result: multipliers see it from n + 1, other reads from n + 3. -/
def CoreSt.result (k : CoreSt) (a v : Nat) : CoreSt :=
  let k := k.drop (48 + a)
  ({ k with acc := k.acc.set a v }).fly 3 (8 + a) v

/-- In after a post-modify or address update. -/
def CoreSt.setI (k : CoreSt) (n v : Nat) : CoreSt :=
  let k := k.drop (12 + n)
  { k with i := k.i.set n v, ig := k.ig.set n v }

/-- A register written by MOVE, LI, ADDI or NORM: I, M and K reach address generation, and LC, LS and LE the loop test,
from n + 3. -/
def CoreSt.write (k : CoreSt) (r v : Nat) : CoreSt :=
  let v := v % 2 ^ 24
  if r < 4 then { k with x := k.x.set r v }
  else if r < 8 then { k with y := k.y.set (r - 4) v }
  else if r < 12 then k.loadAcc (r - 8) (place v)
  else if r < 20 then ({ k with i := k.i.set (r - 12) v }).fly 3 r v
  else if r < 28 then ({ k with m := k.m.set (r - 20) v }).fly 3 r v
  else if r < 36 then ({ k with k := k.k.set (r - 28) v }).fly 3 r v
  else if r = 36 then ({ k with lc := v }).fly 3 36 v
  else if r = 37 then ({ k with ls := v % 2 ^ 15 }).fly 3 37 (v % 2 ^ 15)
  else if r = 38 then ({ k with le := v % 2 ^ 15 }).fly 3 38 (v % 2 ^ 15)
  else if r = 39 then { k with sr := v &&& srMask }
  else if r = 40 then { k with spc := v % 2 ^ 15 }
  else if r = 41 then { k with ssr := v }
  else k

/-! ### Address generation (R366) -/

/-- The low `n` bits in reverse order. -/
def revBits (n v : Nat) : Nat :=
  ((List.range n).map (fun i => if bitOf v i then 2 ^ (n - 1 - i) else 0)).foldl (· + ·) 0

/-- The smallest p with Q not above 2^p, up to 17. -/
def log2Up (q : Nat) : Nat := ((List.range 18).find? (fun p => decide (q ≤ 2 ^ p))).getD 17

/-- The new value of In from its value, a step and Kn. -/
def stepAddr (i : Nat) (step : Int) (k : Nat) : Nat :=
  let linear := (((i : Int) + step) % (2 ^ 24 : Nat)).toNat
  match bits k 22 2 with
  | 1 =>
    let q := k % 2 ^ 17
    if q ≤ 1 then linear
    else
      let b := i / 2 ^ log2Up q * 2 ^ log2Up q
      (b + (((i : Int) - b + step) % (q : Nat)).toNat) % 2 ^ 24
  | 2 =>
    let n0 := k % 2 ^ 5
    let n := if n0 = 0 ∨ 16 < n0 then 16 else n0
    let low := (((revBits n (i % 2 ^ n) : Int) + step) % (2 ^ n : Nat)).toNat
    i / 2 ^ n * 2 ^ n + revBits n low
  | _ => linear

/-- In stepped as address generation sees it. -/
def CoreSt.stepI (k : CoreSt) (n : Nat) (step : Int) : Nat := stepAddr (k.ig.getD n 0) step (k.kg.getD n 0)

/-- The step of a modify code, and of an update code. -/
def CoreSt.modStep (k : CoreSt) (n code : Nat) : Int :=
  match code with
  | 0 => 0
  | 1 => 1
  | 2 => -1
  | _ => toSigned 24 (k.mg.getD n 0)
def CoreSt.updStep (k : CoreSt) (n code : Nat) : Int :=
  match code with
  | 0 => 1
  | 1 => -1
  | 2 => toSigned 24 (k.mg.getD n 0)
  | _ => -toSigned 24 (k.mg.getD n 0)

/-! ### Core I/O (R370 to R375) -/

/-- The effective STATE: a waiting core with a pending line runs. -/
def State.coreState (s : State) (c : Nat) : Nat :=
  let st := s.get (CLOVE.STATE c)
  if st = 2 ∧ (s.core c).ipend ≠ 0 then 1 else st

/-- The core executes instructions. -/
def State.coreRuns (s : State) (c : Nat) : Bool := s.act (0x100 + c) && s.coreState c == 1

/-- A line becomes pending. -/
def State.line (s : State) (c i : Nat) : State := s.setCore c (fun k => { k with ipend := setBit k.ipend i })

/-- A read of a word of the stream input (R374). -/
def State.strRead (s : State) (c : Nat) : Nat × State :=
  match (s.core c).stream with
  | [] => (1, s)
  | w :: t => (bits w 16 16 * 2 ^ 8 + w % 4, s.setCore c (fun k => { k with stream := t }))

/-- A read of TB0 latches the time base for TB1 and TB2. -/
def State.tb0Read (s : State) (c : Nat) : Nat × State := (s.tb % 2 ^ 24, s.setCore c (fun k => { k with tbL := s.tb }))

/-- A read of a semaphore sets it. -/
def State.semRead (s : State) (n : Nat) : Nat × State :=
  (if bitOf s.sems n then 1 else 0, { s with sems := setBit s.sems n })

/-- A read of the I/O register at an offset. -/
def State.ioRead (s : State) (c off : Nat) : Nat × State :=
  let k := s.core c
  if 0x20 ≤ off ∧ off < 0x40 then s.semRead (off - 0x20)
  else match off with
    | 0x00 => (k.ipend, s)
    | 0x01 => (k.imask, s)
    | 0x02 => (s.get (CLOVE.MBOX_TO_CORE c), s)
    | 0x04 => s.tb0Read c
    | 0x05 => (bits k.tbL 24 24, s)
    | 0x06 => (bits k.tbL 48 16, s)
    | 0x07 => (k.tcmp % 2 ^ 24, s)
    | 0x08 => (bits k.tcmp 24 24, s)
    | 0x09 => (bits k.tcmp 48 16, s)
    | 0x0A => s.strRead c
    | 0x0B => (k.stream.length, s)
    | 0x0C => (k.strThr, s)
    | 0x10 => (k.brAddr % 2 ^ 16, s)
    | 0x11 => (k.brAddr / 2 ^ 16, s)
    | 0x12 => (k.brData % 2 ^ 16, s)
    | 0x13 => (k.brData / 2 ^ 16, s)
    | 0x15 => ((if k.brRun.isSome then 8 else 0) + k.brCode, s)
    | 0x18 => (k.refAddr, s)
    | 0x19 => (k.refCode, s)
    | 0x40 => (c, s)
    | _ => (0, s)

/-- IPEND: lines whose bit is written 1 clear. -/
def State.ipendClear (s : State) (c v : Nat) : State :=
  s.setCore c (fun k => { k with ipend := clearMask 6 k.ipend v })

/-- MBOX_OUT. -/
def State.mboxOut (s : State) (c v : Nat) : State :=
  (s.set (CLOVE.MBOX_FROM_CORE c) v).raise (0x100 + c) EV.CLOVE.MBOX

/-- TCMP2 arms the timer. -/
def State.tcmpArm (s : State) (c v : Nat) : State :=
  s.setCore c (fun k => { k with tcmp := k.tcmp % 2 ^ 48 + v % 2 ^ 16 * 2 ^ 48, tcArm := true })

/-- BR_CMD starts an access of the bridge; while one is in progress it has no effect. -/
def State.brCmd (s : State) (c : Nat) (write : Bool) : State :=
  s.setCore c (fun k => if k.brRun.isSome then k else { k with brRun := some write })

/-- A write of 0 releases a semaphore; another value leaves it. -/
def State.semWrite (s : State) (n v : Nat) : State := if v = 0 then { s with sems := clearBit s.sems n } else s

/-- `v` with its bits [lo + w - 1 : lo] replaced. -/
def putBits (v lo w x : Nat) : Nat := v - bits v lo w * 2 ^ lo + x % 2 ^ w * 2 ^ lo

/-- A write of the I/O register at an offset. -/
def State.ioWrite (s : State) (c off v : Nat) : State :=
  if 0x20 ≤ off ∧ off < 0x40 then s.semWrite (off - 0x20) v
  else match off with
    | 0x00 => s.ipendClear c v
    | 0x01 => s.setCore c (fun k => { k with imask := v % 2 ^ 6 })
    | 0x03 => s.mboxOut c v
    | 0x07 => s.setCore c (fun k => { k with tcmp := putBits k.tcmp 0 24 v })
    | 0x08 => s.setCore c (fun k => { k with tcmp := putBits k.tcmp 24 24 v })
    | 0x09 => s.tcmpArm c v
    | 0x0C => s.setCore c (fun k => { k with strThr := v % 2 ^ 7 })
    | 0x10 => s.setCore c (fun k => { k with brAddr := putBits k.brAddr 0 16 v })
    | 0x11 => s.setCore c (fun k => { k with brAddr := putBits k.brAddr 16 16 v })
    | 0x12 => s.setCore c (fun k => { k with brData := putBits k.brData 0 16 v })
    | 0x13 => s.setCore c (fun k => { k with brData := putBits k.brData 16 16 v })
    | 0x14 => if v = 1 then s.brCmd c false else if v = 2 then s.brCmd c true else s
    | _ => s

/-! ### Data memory (R364, R365) -/

/-- The byte address in Pepper's map of a local or shared data word. -/
def dataByte (c : Nat) (y : Bool) (a : Nat) : Option Nat :=
  if a < 0x10000 then some ((if y then cloveY c else cloveX c) + 4 * a)
  else if 0x400000 ≤ a ∧ a < 0x800000 then some (cloveShared + 4 * (a - 0x400000))
  else none

/-- A load: none is a bus error. -/
def State.dataRead (s : State) (c : Nat) (y : Bool) (a : Nat) : Option Nat × State :=
  match dataByte c y a with
  | some b =>
    match s.readMem Cls.dsp.code b with
    | (some v, s) => (some (v % 2 ^ 24), s)
    | (none, s) => (none, s)
  | none =>
    if 0x100000 ≤ a ∧ a < 0x108000 then
      match s.modelRead .dsp (modelBase + 4 * (a - 0x100000)) with
      | (0, v, s) => (some (v % 2 ^ 24), s)
      | (5, _, s) => (none, s.refuse .dsp (modelBase + 4 * (a - 0x100000)) 5)
      | (r, _, s) => (some 0, s.refuse .dsp (modelBase + 4 * (a - 0x100000)) r)
    else if 0x3FFF00 ≤ a ∧ a < 0x3FFF80 then
      if y then (none, s) else let r := s.ioRead c (a - 0x3FFF00); (some (r.1 % 2 ^ 24), r.2)
    else if 0x800000 ≤ a ∧ a < 0x1000000 then
      match s.busRead .dsp (captureBase + 4 * ((a - 0x800000) / 2)) with
      | (0, v, s) => (some ((if a % 2 = 0 then v / 2 ^ 16 else v % 2 ^ 16) * 2 ^ 8), s)
      | (5, _, s) => (none, s.refuse .dsp (captureBase + 4 * ((a - 0x800000) / 2)) 5)
      | (r, _, s) => (some 0, s.refuse .dsp (captureBase + 4 * ((a - 0x800000) / 2)) r)
    else (none, s)

/-- A refused store: SR.RJ, and where and why (R369). -/
def State.storeRefused (s : State) (c a code : Nat) : State :=
  s.setCore c (fun k => { k.srSet srRJ with refAddr := a, refCode := code })

/-- A store: false is a bus error. -/
def State.dataWrite (s : State) (c : Nat) (y : Bool) (a v : Nat) : Bool × State :=
  match dataByte c y a with
  | some b => (true, s.writeWhole b [v % 2 ^ 24])
  | none =>
    if 0x100000 ≤ a ∧ a < 0x108000 then
      match s.modelWrite .dsp (modelBase + 4 * (a - 0x100000)) (v % 2 ^ 24) with
      | (0, s) => (true, s)
      | (5, s) => (false, s.refuse .dsp (modelBase + 4 * (a - 0x100000)) 5)
      | (r, s) => (true, (s.refuse .dsp (modelBase + 4 * (a - 0x100000)) r).storeRefused c a r)
    else if 0x3FFF00 ≤ a ∧ a < 0x3FFF80 then
      if y then (false, s) else (true, s.ioWrite c (a - 0x3FFF00) v)
    else (false, s)

/-! ### Faults, fetch and sequence (R367, R370, R371) -/

/-- STATE returns to 1: the core may take a job again (R371). -/
def State.coreStarts (s : State) (c : Nat) : State :=
  (s.set (CLOVE.STATE c) 1).setCore c (fun k => { k with faulted := false })

/-- A fault stops the core, and its job ends with result 0. -/
def State.coreFault (s : State) (c cause addr : Nat) : State :=
  let s := s.set (CLOVE.FAULT c) (cause * 2 ^ 16 + (s.core c).pc)
  let s := if cause = 2 then s.set (CLOVE.FAULT_ADDR c) addr else s
  let s := ((s.set (CLOVE.STATE c) 3).count (CLOVE.FAULT_CNT c)).raise (0x100 + c) EV.CLOVE.FAULT
  let s := s.setCore c (fun k => { k with faulted := true })
  match s.dpdJob c with
  | some j => s.dpdResult j.path 0
  | none => s

/-- Byte address of a program word: fetches add PROG_HALF * 16,384 (R380). -/
def State.progAddr (s : State) (c pc : Nat) : Nat :=
  programBase c + 8 * ((pc + s.get (CLOVE.PROG_HALF c) * 16384) % 32768)

/-- The 48-bit word at PC; none where a code word of it is uncorrectable. -/
def State.coreFetch (s : State) (c : Nat) : Option Nat × State :=
  let a := s.progAddr c (s.core c).pc
  match s.readMem Cls.dsp.code a with
  | (none, s) => (none, s)
  | (some lo, s) =>
    match s.readMem Cls.dsp.code (a + 4) with
    | (none, s) => (none, s)
    | (some hi, s) => (some (lo % 2 ^ 24 + hi % 2 ^ 24 * 2 ^ 24), s)

/-- Taken branches count down; the one that is due moves PC. -/
def CoreSt.branches (k : CoreSt) : CoreSt :=
  let due := k.branch.find? (fun b => decide (b.1 ≤ 1))
  let k := { k with branch := (k.branch.filter (fun b => decide (1 < b.1))).map (fun b => (b.1 - 1, b.2)) }
  match due with
  | some b => { k with pc := b.2 }
  | none => k

/-- The instruction at PC has completed: the loop test, the branches, and what becomes visible. -/
def CoreSt.advance (k : CoreSt) : CoreSt :=
  let back := k.pc == k.leV && decide (1 < k.lcV)
  let k := if back then
      let k := k.drop 36
      { k with pc := k.lsV, lc := k.lcV - 1, lcV := k.lcV - 1 }
    else { k with pc := (k.pc + 1) % 2 ^ 15 }
  k.branches.age

/-- INSTR_CNT counts completed instructions. -/
def State.instrDone (s : State) (c : Nat) : State :=
  let n := (s.get64 (CLOVE.INSTR_CNT_LO c) (CLOVE.INSTR_CNT_HI c) + 1) % 2 ^ 64
  s.set64 (CLOVE.INSTR_CNT_LO c) (CLOVE.INSTR_CNT_HI c) n

/-- The instruction completes. -/
def State.coreNext (s : State) (c : Nat) : State := (s.instrDone c).setCore c CoreSt.advance

/-! ### Moves (R364, R366) -/

/-- The register code of a move's register: 0 to 3 X or Y, 4 to 7 an accumulator. -/
def moveReg (y : Bool) (r : Nat) : Nat := if r < 4 then (if y then 4 + r else r) else 4 + r

/-- One move on a bus: whether it was performed, the word loaded, and the state. -/
def State.move (s : State) (c : Nat) (y : Bool) : Option MoveF → Bool × Option Nat × State
  | none => (true, none, s)
  | some m =>
    let a := (s.core c).ig.getD m.ireg 0
    if m.store then
      let r := (s.core c).read (moveReg y m.reg)
      let w := (s.setCore c (fun _ => r.2)).dataWrite c y a r.1
      (w.1, none, if w.1 then w.2 else w.2.coreFault c 2 a)
    else
      let r := s.dataRead c y a
      match r.1 with
      | some v => (true, some v, r.2)
      | none => (false, none, r.2.coreFault c 2 a)

/-- The writes of the moves and the address update, from the registers as they were. Where two results of one
instruction go to one register, its value is open: `f` is a free value. -/
def CoreSt.moved (k : CoreSt) (mv : Moves) (vx vy : Option Nat) (f : Nat) : CoreSt :=
  let ix := match mv.x with | some m => if m.mod = 0 then none else some (m.ireg, k.stepI m.ireg (k.modStep m.ireg m.mod)) | none => none
  let iy := match mv.y with | some m => if m.mod = 0 then none else some (m.ireg, k.stepI m.ireg (k.modStep m.ireg m.mod)) | none => none
  let iu := mv.au.map (fun u => (u.1, k.stepI u.1 (k.updStep u.1 u.2)))
  let is := [ix, iy, iu].filterMap id
  let k := is.foldl (fun k e =>
    k.setI e.1 (if 1 < (is.filter (fun x => x.1 == e.1)).length then f % 2 ^ 24 else e.2)) k
  let load := fun (k : CoreSt) (y : Bool) (m : Option MoveF) (v : Option Nat) =>
    match m, v with
    | some m, some v => if m.store then k else k.write (moveReg y m.reg) v
    | _, _ => k
  let k := load (load k false mv.x vx) true mv.y vy
  match mv.x, mv.y with
  | some a, some b =>
    if a.store = false ∧ b.store = false ∧ 4 ≤ a.reg ∧ a.reg = b.reg then k.loadAcc (a.reg - 4) (f % 2 ^ 56) else k
  | _, _ => k

/-- An accumulator that a load and a result of one instruction both write holds a free value. -/
def CoreSt.clash (k : CoreSt) (mv : Moves) (a f : Nat) : CoreSt :=
  let hit := fun (m : Option MoveF) => match m with | some m => !m.store && m.reg == 4 + a | none => false
  if hit mv.x || hit mv.y then k.loadAcc a (f % 2 ^ 56) else k

/-! ### Class 0 (R361) -/

/-- The product of two data words, aligned as Q1.47. -/
def product (x y : Nat) : Int := toSigned 24 x * toSigned 24 y * 2

/-- The result of a multiply operation, and whether it wrapped. -/
def CoreSt.mac (k : CoreSt) (m : MacF) : Nat × Bool :=
  let p := product (k.x.getD m.x 0) (k.y.getD m.y 0)
  let a := toSigned 56 (k.acc.getD m.a 0)
  wrap56 (if m.op = 1 then p else if m.op = 2 then a + p else a - p)

/-- A multiply operation's result is written. -/
def CoreSt.macWrite (k : CoreSt) (m : MacF) (v : Nat × Bool) : CoreSt :=
  let k := k.result m.a v.1
  if v.2 then k.srSet srAW else k

/-- The moves of classes 0 and 1, with the registers as they were before them: none after a fault. A load reads before a
store of the same instruction is visible (R368). -/
def State.moves (s : State) (c : Nat) (mv : Moves) : Option (Option Nat × Option Nat) × State :=
  let yFirst : Bool := match mv.x, mv.y with | some a, some b => a.store && !b.store | _, _ => false
  let r1 := if yFirst then s.move c true mv.y else s.move c false mv.x
  if r1.1 = false then (none, r1.2.2)
  else
    let r2 := if yFirst then r1.2.2.move c false mv.x else r1.2.2.move c true mv.y
    if r2.1 = false then (none, r2.2.2)
    else (some (if yFirst then (r2.2.1, r1.2.1) else (r1.2.1, r2.2.1)), r2.2.2)

/-- A class 0 instruction. -/
def State.corePar (s : State) (c : Nat) (m0 m1 : Option MacF) (mv : Moves) : State :=
  let k := s.core c
  match s.moves c mv with
  | (none, s) => s
  | (some (vx, vy), s) =>
    let (f, s) := s.freeNat
    let s := s.setCore c (fun j =>
      let j := j.moved mv vx vy f
      let j := match m0 with | some m => (j.macWrite m (k.mac m)).clash mv m.a f | none => j
      match m1 with | some m => (j.macWrite m (k.mac m)).clash mv m.a f | none => j)
    s.coreNext c

/-! ### Class 1 (R372, R377) -/

/-- Redundant sign bits of a 56-bit value, 0 to 55. -/
def signBits (a : Nat) : Nat :=
  let top := bitOf a 55
  ((List.range 55).find? (fun n => bitOf a (54 - n) != top)).getD 55

/-- The result of an ALU operation on A, B and the register's word, and whether it wrapped. A shift count above 55 gives
an open value. -/
def aluResult (op : Nat) (a b : Nat) (r n f : Nat) : Nat × Bool :=
  let x := toSigned 56 a
  let y := toSigned 56 b
  let p := toSigned 56 (place r)
  let high := bits a 24 24
  let put := fun (h : Nat) => (putBits a 24 24 h, false)
  match op with
  | 0 => (b, false)
  | 1 => wrap56 (x + y)
  | 2 => wrap56 (x - y)
  | 3 => wrap56 (-y)
  | 4 => wrap56 (if y < 0 then -y else y)
  | 5 => (0, false)
  | 6 => wrap56 (round24 a * 2 ^ 24)
  | 7 => (ofSigned 56 (satSigned 48 x), false)
  | 8 => if 55 < n then (f % 2 ^ 56, false) else wrap56 (x * 2 ^ n)
  | 9 => if 55 < n then (f % 2 ^ 56, false) else (ofSigned 56 (x / 2 ^ n), false)
  | 10 => wrap56 (x + p)
  | 11 => wrap56 (x - p)
  | 12 => wrap56 (x - y)
  | 13 => wrap56 (x - p)
  | 14 => put (high &&& r)
  | 15 => put (high ||| r)
  | 16 => put (high ^^^ r)
  | 17 => (if x < y then b else a, false)
  | 18 => (if y < x then b else a, false)
  | _ => (a, false)

/-- NF and ZF of a 56-bit result; conditional jumps see them from n + 2. -/
def CoreSt.flags (k : CoreSt) (v : Nat) : CoreSt :=
  let z := decide (v % 2 ^ 56 = 0)
  let n := bitOf v 55
  let k := if z then k.srSet srZF else k.srClr srZF
  let k := if n then k.srSet srNF else k.srClr srNF
  k.fly 2 39 ((if z then 1 else 0) + (if n then 2 else 0))

/-- What an ALU operation writes. -/
def CoreSt.aluWrite (k : CoreSt) (op a reg : Nat) (old : Nat) (v : Nat × Bool) : CoreSt :=
  let k := if v.2 then k.srSet srAW else k
  if op = 19 then k.write reg (signBits old)
  else
    let k := if op = 12 ∨ op = 13 then k else k.result a v.1
    if op = 17 ∨ op = 18 then k else k.flags v.1

/-- A class 1 instruction: the moves read before the ALU writes. -/
def State.coreAlu (s : State) (c op a b r : Nat) (mv : Moves) : State :=
  let k0 := s.core c
  let rd := if aluUsesReg op ∧ op ≠ 19 then k0.read r else (0, k0)
  let s := s.setCore c (fun _ => rd.2)
  match s.moves c mv with
  | (none, s) => s
  | (some (vx, vy), s) =>
    let (f, s) := s.freeNat
    let old := k0.accV.getD a 0
    let v := aluResult op old (k0.accV.getD b 0) rd.1 r f
    let s := s.setCore c (fun j =>
      let j := (j.moved mv vx vy f).aluWrite op a r old v
      if op = 12 ∨ op = 13 ∨ op = 19 then j else j.clash mv a f)
    s.coreNext c

/-! ### Classes 2 and 3 -/

def State.coreLi (s : State) (c r imm : Nat) : State := (s.setCore c (fun k => k.write r imm)).coreNext c

def State.coreMove (s : State) (c dst src : Nat) : State :=
  (s.setCore c (fun k => let r := k.read src; r.2.write dst r.1)).coreNext c

def State.coreAddi (s : State) (c dst imm : Nat) : State :=
  (s.setCore c (fun k => k.write dst ((k.read dst).1 + imm))).coreNext c

/-- The three addresses that In takes, and where it is left. -/
def CoreSt.three (k : CoreSt) (n : Nat) : List Nat × Nat :=
  let kk := k.kg.getD n 0
  let a := k.ig.getD n 0
  let b := stepAddr a 1 kk
  let d := stepAddr b 1 kk
  ([a, b, d], stepAddr d 1 kk)

/-- Stores words at addresses; the address of a bus error ends it. -/
def State.storeList (s : State) (c : Nat) : List (Nat × Nat) → Option Nat × State
  | [] => (none, s)
  | (a, v) :: t =>
    let r := s.dataWrite c false a v
    if r.1 then State.storeList r.2 c t else (some a, r.2)

/-- ASAVE: low, high and guard field, the last sign-extended. -/
def State.coreAsave (s : State) (c a n : Nat) : State :=
  let k := s.core c
  let v := k.accV.getD a 0
  let t := k.three n
  match s.storeList c (t.1.zip [v % 2 ^ 24, bits v 24 24, ofSigned 24 (toSigned 8 (bits v 48 8))]) with
  | (some x, s) => s.coreFault c 2 x
  | (none, s) => (s.setCore c (fun k => k.setI n t.2)).coreNext c

/-- Loads from addresses; the address of a bus error ends it. -/
def State.loadList (s : State) (c : Nat) : List Nat → (Nat ⊕ List Nat) × State
  | [] => (.inr [], s)
  | a :: t =>
    match s.dataRead c false a with
    | (none, s) => (.inl a, s)
    | (some v, s) =>
      match State.loadList s c t with
      | (.inl x, s) => (.inl x, s)
      | (.inr l, s) => (.inr (v :: l), s)

/-- ALOAD: visible to any read, and to a multiplier, from n + 3. -/
def State.coreAload (s : State) (c n a : Nat) : State :=
  let t := (s.core c).three n
  match s.loadList c t.1 with
  | (.inl x, s) => s.coreFault c 2 x
  | (.inr l, s) =>
    let v := l.getD 0 0 + l.getD 1 0 * 2 ^ 24 + l.getD 2 0 % 2 ^ 8 * 2 ^ 48
    (s.setCore c (fun k => ((k.setI n t.2).fly 3 (8 + a) v).fly 3 (48 + a) v)).coreNext c

/-! ### Class 4 -/

/-- A condition, from the flags that conditional jumps see and the sticky bits. -/
def CoreSt.cond (k : CoreSt) (n : Nat) : Bool :=
  let z := bitOf k.nz 0
  let m := bitOf k.nz 1
  match n with
  | 0 => true
  | 1 => z
  | 2 => !z
  | 3 => m
  | 4 => !m
  | 5 => !m && !z
  | 6 => m || z
  | 7 => bitOf k.sr srAW
  | _ => bitOf k.sr srCL

/-- A taken branch: two further instructions execute before its target. -/
def State.branchTo (s : State) (c target : Nat) : State :=
  (s.coreNext c).setCore c (fun k => { k with branch := k.branch ++ [(2, target % 2 ^ 15)] })

def State.coreJmp (s : State) (c cond target : Nat) : State :=
  if (s.core c).cond cond then s.branchTo c target else s.coreNext c

/-- JSR pushes the address after its delay slots. -/
def State.coreJsr (s : State) (c cond target : Nat) : State :=
  let k := s.core c
  if k.cond cond = false then s.coreNext c
  else if 4 ≤ k.sd then s.coreFault c 4 0
  else (s.setCore c (fun k => { k with stack := k.stack.set k.sd ((k.pc + 3) % 2 ^ 15) }.setSd (k.sd + 1))).branchTo c target

def State.coreRts (s : State) (c cond : Nat) : State :=
  let k := s.core c
  if k.cond cond = false then s.coreNext c
  else if k.sd = 0 ∨ 4 < k.sd then s.coreFault c 4 0
  else (s.setCore c (fun k => k.setSd (k.sd - 1))).branchTo c (k.stack.getD (k.sd - 1) 0)

/-- RETI restores PC and SR. -/
def State.coreReti (s : State) (c : Nat) : State :=
  let k := s.core c
  (s.branchTo c k.spc).setCore c (fun j => { j with sr := k.ssr &&& srMask, nz := k.ssr % 4 }.drop 39)

/-- DO: a count of 0 skips the body. -/
def State.coreDo (s : State) (c : Nat) (fromReg : Bool) (reg count target : Nat) : State :=
  let rd := if fromReg then (s.core c).read reg else (count, s.core c)
  let s := s.setCore c (fun _ =>
    let k := ((rd.2.drop 36).drop 37).drop 38
    let ls := (k.pc + 1) % 2 ^ 15
    { k with lc := rd.1, lcV := rd.1, ls := ls, lsV := ls, le := target, leV := target })
  if rd.1 = 0 then (s.coreNext c).setCore c (fun k => { k with pc := (target + 1) % 2 ^ 15 }) else s.coreNext c

/-- The start of a kernel at its ENTRY (R366, R380, R381). -/
def State.kernelStart (s : State) (c : Nat) : State :=
  s.setCore c (fun k =>
    let z := [0, 0, 0, 0, 0, 0, 0, 0]
    let k := { k.landAll with sr := 0, nz := 0, lc := 0, ls := 0, le := 0, lcV := 0, lsV := 0, leV := 0 }
    { k with stack := [0, 0, 0, 0], branch := [], k := z, kg := z, pc := k.entry })

/-- The swap of an armed kernel (R381). -/
def State.coreSwap (s : State) (c : Nat) : State :=
  let k := s.core c
  let s := (s.set (CLOVE.PROG_HALF c) (1 - s.get (CLOVE.PROG_HALF c))).setCore c (fun k =>
    { k with entry := k.nEntry, ivec := k.nIvec })
  let s := (s.kernelStart c).set (CLOVE.KVER_ACT c) k.nVer |>.set (CLOVE.KEY_SLOT_ACT c) k.nSlot
  let s := (s.set (CLOVE.SWAP_ARMED c) 0).set (CLOVE.SWAP_READY c) 0
  let s := if s.on (CLOVE.RUN c) then s.coreStarts c else s
  (s.count (CLOVE.SWAP_CNT c)).raise (0x100 + c) EV.CLOVE.SWAP_DONE

/-- An armed swap has reached its boundary. -/
def State.swapDue (s : State) (c : Nat) : Bool := s.on (CLOVE.SWAP_ARMED c) && decide ((s.core c).beta ≤ s.tb)

def State.coreYield (s : State) (c : Nat) : State := if s.swapDue c then (s.instrDone c).coreSwap c else s.coreNext c

def State.coreWait (s : State) (c : Nat) : State :=
  if s.swapDue c then (s.instrDone c).coreSwap c
  else if (s.core c).ipend ≠ 0 then s.coreNext c
  else (s.coreNext c).set (CLOVE.STATE c) 2

def State.coreHalt (s : State) (c : Nat) : State :=
  ((s.coreNext c).set (CLOVE.STATE c) 0).raise (0x100 + c) EV.CLOVE.HALTED

/-- One instruction of the running core. -/
def State.coreDo1 (s : State) (c : Nat) (op : CloveOp) : State :=
  let s := s.set (CLOVE.STATE c) 1
  match op with
  | .par m0 m1 mv => s.corePar c m0 m1 mv
  | .alu o a b r mv => s.coreAlu c o a b r mv
  | .li r imm => s.coreLi c r imm
  | .mvs 0 d r _ => s.coreMove c d r
  | .mvs 1 d _ imm => s.coreAddi c d imm
  | .mvs 2 d r _ => s.coreAsave c (r - 8) (d - 12)
  | .mvs _ d r _ => s.coreAload c (r - 12) (d - 8)
  | .ctl 1 n _ _ _ t => s.coreJmp c n t
  | .ctl 2 n _ _ _ t => s.coreJsr c n t
  | .ctl 3 n _ _ _ _ => s.coreRts c n
  | .ctl 4 _ _ _ _ _ => s.coreReti c
  | .ctl 5 _ f r n t => s.coreDo c f r n t
  | .ctl 6 _ _ _ _ _ => s.coreYield c
  | .ctl 7 _ _ _ _ _ => s.coreWait c
  | .ctl 8 _ _ _ _ _ => s.coreHalt c
  | .ctl 9 _ _ _ _ _ => (s.setCore c (fun k => k.srSet srIE)).coreNext c
  | .ctl 10 _ _ _ _ _ => (s.setCore c (fun k => k.srClr srIE)).coreNext c
  | .ctl _ _ _ _ _ _ => s.coreNext c

/-- The core executes `op` as its next instruction: only where its program holds it at PC. -/
def State.coreRun (s : State) (c : Nat) (op : CloveOp) : State :=
  if s.coreRuns c = false then s
  else match s.coreFetch c with
    | (some w, t) => if cloveDecode w = some op then t.coreDo1 c op else s
    | (none, _) => s

/-- The next instruction, whatever it is: an illegal one, or one that cannot be fetched, is a fault. -/
def State.coreAny (s : State) (c : Nat) : State :=
  match s.coreFetch c with
  | (none, s) => s.coreFault c 3 0
  | (some w, s) =>
    match cloveDecode w with
    | some op => s.coreDo1 c op
    | none => s.coreFault c 1 0

end Sys2Proof.Machine
end

