-- ==== Sys2Proof/Machine/Clove.lean ====
section
/-! DEFINITION. The commands of the Clove cores (16). An instruction command is core `c` executing that instruction as its
next one: it happens where the core runs and its program holds that word at PC. -/

namespace Sys2Proof.Machine

/-! ### Instructions (R361, R377) -/

def execParallelDsp (c : Nat) (m0 m1 : Option MacF) (mv : Moves) (s : State) : Out :=
  .next (s.coreRun (c % 8) (.par m0 m1 mv))

/-- A = B (R377). -/
def execTfr (c a b : Nat) (mv : Moves) (s : State) : Out := .next (s.coreRun (c % 8) (.alu 0 a b 0 mv))

/-- A = A + B (R377). -/
def execAdd (c a b : Nat) (mv : Moves) (s : State) : Out := .next (s.coreRun (c % 8) (.alu 1 a b 0 mv))

/-- A = A - B (R377). -/
def execSub (c a b : Nat) (mv : Moves) (s : State) : Out := .next (s.coreRun (c % 8) (.alu 2 a b 0 mv))

/-- A = -B (R377). -/
def execNeg (c a b : Nat) (mv : Moves) (s : State) : Out := .next (s.coreRun (c % 8) (.alu 3 a b 0 mv))

/-- A = |B| (R377). -/
def execAbs (c a b : Nat) (mv : Moves) (s : State) : Out := .next (s.coreRun (c % 8) (.alu 4 a b 0 mv))

/-- A = 0 (R377). -/
def execClr (c a : Nat) (mv : Moves) (s : State) : Out := .next (s.coreRun (c % 8) (.alu 5 a 0 0 mv))

/-- A rounded at bit 24, low part cleared (R377). -/
def execRnd (c a : Nat) (mv : Moves) (s : State) : Out := .next (s.coreRun (c % 8) (.alu 6 a 0 0 mv))

/-- A clipped to Q1.47 (R377). -/
def execSat (c a : Nat) (mv : Moves) (s : State) : Out := .next (s.coreRun (c % 8) (.alu 7 a 0 0 mv))

/-- A shifted left by a count (R377). -/
def execAsl (c a n : Nat) (mv : Moves) (s : State) : Out := .next (s.coreRun (c % 8) (.alu 8 a 0 n mv))

/-- A shifted right by a count (R377). -/
def execAsr (c a n : Nat) (mv : Moves) (s : State) : Out := .next (s.coreRun (c % 8) (.alu 9 a 0 n mv))

/-- A = A + reg (R377). -/
def execAddr (c a r : Nat) (mv : Moves) (s : State) : Out := .next (s.coreRun (c % 8) (.alu 10 a 0 r mv))

/-- A = A - reg (R377). -/
def execSubr (c a r : Nat) (mv : Moves) (s : State) : Out := .next (s.coreRun (c % 8) (.alu 11 a 0 r mv))

/-- flags of A - B (R377). -/
def execCmp (c a b : Nat) (mv : Moves) (s : State) : Out := .next (s.coreRun (c % 8) (.alu 12 a b 0 mv))

/-- flags of A - reg (R377). -/
def execCmpr (c a r : Nat) (mv : Moves) (s : State) : Out := .next (s.coreRun (c % 8) (.alu 13 a 0 r mv))

/-- A bits [47:24] AND reg (R377). -/
def execAnd (c a r : Nat) (mv : Moves) (s : State) : Out := .next (s.coreRun (c % 8) (.alu 14 a 0 r mv))

/-- A bits [47:24] OR reg (R377). -/
def execOr (c a r : Nat) (mv : Moves) (s : State) : Out := .next (s.coreRun (c % 8) (.alu 15 a 0 r mv))

/-- A bits [47:24] XOR reg (R377). -/
def execXor (c a r : Nat) (mv : Moves) (s : State) : Out := .next (s.coreRun (c % 8) (.alu 16 a 0 r mv))

/-- A = larger of A and B (R377). -/
def execMax (c a b : Nat) (mv : Moves) (s : State) : Out := .next (s.coreRun (c % 8) (.alu 17 a b 0 mv))

/-- A = smaller of A and B (R377). -/
def execMin (c a b : Nat) (mv : Moves) (s : State) : Out := .next (s.coreRun (c % 8) (.alu 18 a b 0 mv))

/-- reg = redundant sign bits of A (R377). -/
def execNorm (c a r : Nat) (mv : Moves) (s : State) : Out := .next (s.coreRun (c % 8) (.alu 19 a 0 r mv))

def execLi (c r imm : Nat) (s : State) : Out := .next (s.coreRun (c % 8) (.li r imm))

def execMove (c dst src : Nat) (s : State) : Out := .next (s.coreRun (c % 8) (.mvs 0 dst src 0))

def execAddi (c dst imm : Nat) (s : State) : Out := .next (s.coreRun (c % 8) (.mvs 1 dst 0 imm))

/-- ASAVE: `src` and `dst` are register codes. -/
def execAsave (c dst src : Nat) (s : State) : Out := .next (s.coreRun (c % 8) (.mvs 2 dst src 0))

/-- ALOAD: `src` and `dst` are register codes. -/
def execAload (c dst src : Nat) (s : State) : Out := .next (s.coreRun (c % 8) (.mvs 3 dst src 0))

def execNop (c : Nat) (s : State) : Out := .next (s.coreRun (c % 8) (.ctl 0 0 false 0 0 0))

def execJmp (c cond target : Nat) (s : State) : Out := .next (s.coreRun (c % 8) (.ctl 1 cond false 0 0 target))

def execJsr (c cond target : Nat) (s : State) : Out := .next (s.coreRun (c % 8) (.ctl 2 cond false 0 0 target))

def execRts (c cond : Nat) (s : State) : Out := .next (s.coreRun (c % 8) (.ctl 3 cond false 0 0 0))

def execReti (c : Nat) (s : State) : Out := .next (s.coreRun (c % 8) (.ctl 4 0 false 0 0 0))

def execDo (c : Nat) (fromReg : Bool) (reg count target : Nat) (s : State) : Out :=
  .next (s.coreRun (c % 8) (.ctl 5 0 fromReg reg count target))

def execYield (c : Nat) (s : State) : Out := .next (s.coreRun (c % 8) (.ctl 6 0 false 0 0 0))

def execWait (c : Nat) (s : State) : Out := .next (s.coreRun (c % 8) (.ctl 7 0 false 0 0 0))

def execHalt (c : Nat) (s : State) : Out := .next (s.coreRun (c % 8) (.ctl 8 0 false 0 0 0))

def execEi (c : Nat) (s : State) : Out := .next (s.coreRun (c % 8) (.ctl 9 0 false 0 0 0))

def execDi (c : Nat) (s : State) : Out := .next (s.coreRun (c % 8) (.ctl 10 0 false 0 0 0))

/-! ### Interrupts and faults (R370, R371) -/

/-- A pending, enabled line is taken at an instruction boundary, not before the delay slots of a taken branch. -/
def State.interruptEntry (s : State) (c : Nat) : State :=
  let k := s.core c
  if s.coreRuns c ∧ bitOf k.sr srIE ∧ (k.ipend &&& k.imask) ≠ 0 ∧ k.branch = [] then
    (s.set (CLOVE.STATE c) 1).setCore c (fun k =>
      let k := k.landAll
      { k with spc := k.pc, ssr := k.sr, pc := k.ivec }.srClr srIE)
  else s

def execInterruptEntry (c : Nat) (s : State) : Out := .next (s.interruptEntry (c % 8))

/-- The next instruction of the core faults. -/
def execCoreFault (c : Nat) (s : State) : Out :=
  let c := c % 8
  .next (if s.coreRuns c then (let t := s.coreAny c; if t.get (CLOVE.STATE c) = 3 then t else s) else s)

/-! ### Core I/O (R373 to R375) -/

/-- A core access to an I/O register, with the word read in the answer. -/
def State.ioAccess (s : State) (c off : Nat) (write : Option Nat) : State :=
  if s.coreRuns c = false then s
  else match write with
    | some v => (s.ioWrite c off v).reply .dsp [] stOK
    | none => let r := s.ioRead c off; r.2.reply .dsp [r.1 % 2 ^ 24] stOK

def execIpendClear (c v : Nat) (s : State) : Out := .next (s.ioAccess (c % 8) 0x00 (some (v % 2 ^ 24)))

def execMboxOut (c v : Nat) (s : State) : Out := .next (s.ioAccess (c % 8) 0x03 (some (v % 2 ^ 24)))

def execTb0Read (c : Nat) (s : State) : Out := .next (s.ioAccess (c % 8) 0x04 none)

def execTcmpArm (c v : Nat) (s : State) : Out := .next (s.ioAccess (c % 8) 0x09 (some (v % 2 ^ 24)))

/-- The time base has reached TCMP. -/
def State.coreTimer (s : State) (c : Nat) : State :=
  let k := s.core c
  if s.act (0x100 + c) ∧ k.tcArm ∧ s.tbRun ∧ k.tcmp ≤ s.tb then (s.setCore c (fun k => { k with tcArm := false })).line c 5 else s

def execCoreTimer (c : Nat) (s : State) : Out := .next (s.coreTimer (c % 8))

def execStrDataRead (c : Nat) (s : State) : Out := .next (s.ioAccess (c % 8) 0x0A none)

def execBrRead (c : Nat) (s : State) : Out := .next (s.ioAccess (c % 8) 0x14 (some 1))

def execBrWrite (c : Nat) (s : State) : Out := .next (s.ioAccess (c % 8) 0x14 (some 2))

def execSemAcquire (c n : Nat) (s : State) : Out := .next (s.ioAccess (c % 8) (0x20 + n % 32) none)

def execSemRelease (c n : Nat) (s : State) : Out := .next (s.ioAccess (c % 8) (0x20 + n % 32) (some 0))

/-! ### Kernels (R379 to R381) -/

/-- A write of LOAD starts a load. -/
def State.loadStart (s : State) (c : Nat) : State :=
  if s.act (0x100 + c) then
    (s.set (CLOVE.LOAD_BUSY c) 1).setCore c (fun k => { k with loadHit := s.on (CLOVE.HITLESS c) })
  else s

/-- What refuses LOAD (R379). -/
def State.loadRefusal (s : State) (c : Nat) : Option Nat :=
  if s.on (CLOVE.LOAD_BUSY c) ∨ s.on (CLOVE.SWAP_ARMED c) then some stPENDING else none

/-- RUN takes a value. -/
def State.runWritten (s : State) (c v : Nat) : State :=
  let s := s.set (CLOVE.RUN c) v
  if v = 0 then s.set (CLOVE.STATE c) 0
  else if s.get (CLOVE.STATE c) = 0 ∧ s.act (0x100 + c) then (s.kernelStart c).coreStarts c else s

/-- SWAP_GO arms a swap (R381). -/
def State.swapGo (s : State) (c : Nat) : State :=
  if s.on (CLOVE.SWAP_READY c) = false then s
  else
    let t := s.get64 (CLOVE.SWAP_TB_LO c) (CLOVE.SWAP_TB_HI c)
    let late := decide (t < s.tb)
    let b := if late then (s.tb / 2048 + 1) * 2048 else (t + 2047) / 2048 * 2048
    let s := (s.set (CLOVE.SWAP_ARMED c) 1).setCore c (fun k => { k with beta := b })
    if late then s.raise (0x100 + c) evLATE else s

/-- The boundary is reached with the core stopped, waiting or faulted. -/
def State.swapBoundary (s : State) (c : Nat) : State :=
  if s.swapDue c ∧ s.act (0x100 + c) ∧ s.coreState c ≠ 1 then s.coreSwap c else s

def execSwapBoundary (c : Nat) (s : State) : Out := .next (s.swapBoundary (c % 8))

/-- No swap point has come in time: the swap is abandoned, and can be armed again. -/
def State.swapTimeout (s : State) (c : Nat) : State :=
  if s.on (CLOVE.SWAP_ARMED c) ∧ (s.core c).beta + max 1 (s.get (CLOVE.SWAP_TO c)) * 2 ^ 20 ≤ s.tb then
    (s.set (CLOVE.SWAP_ARMED c) 0).raise (0x100 + c) EV.CLOVE.SWAP_TIMEOUT
  else s

def execSwapTimeout (c : Nat) (s : State) : Out := .next (s.swapTimeout (c % 8))

/-- The core loses power: it stops, and what it was doing ends. Memories and the halves' programs are kept. -/
def State.coreOff (s : State) (c : Nat) : State :=
  let s := ((s.set (CLOVE.STATE c) 0).set (CLOVE.LOAD_BUSY c) 0).set (CLOVE.SWAP_ARMED c) 0
  s.setCore c (fun k => { entry := k.entry, ivec := k.ivec, nEntry := k.nEntry, nIvec := k.nIvec, nVer := k.nVer, nSlot := k.nSlot })

/-- Every Clove memory is zero with valid check bits and the cores are stopped (R381, entry into M1). -/
def State.cloveClear (s : State) : State :=
  let s := (List.range 8).foldl (fun (s : State) c =>
    let s := ((s.clearMem (programBase c) 0x40000).clearMem (cloveX c) 0x40000).clearMem (cloveY c) 0x40000
    (s.coreOff c).set (CLOVE.RUN c) 0) s
  s.clearMem cloveShared 0x1000000

/-- RATE, at the end of each window of 2^20 ticks: 983.04 ticks last 1 us. -/
def State.rateTick (s : State) : State :=
  if s.tbRun ∧ s.tb % 2 ^ 20 = 0 then
    (List.range 8).foldl (fun (s : State) c =>
      let n := s.get64 (CLOVE.INSTR_CNT_LO c) (CLOVE.INSTR_CNT_HI c)
      let (f, s) := s.freeNat
      let r := meanFree ((n - (s.core c).rateCnt : Nat) * 98304) (100 * 2 ^ 20) f
      (s.set (CLOVE.RATE c) (min 0xFFFF r.toNat)).setCore c (fun k => { k with rateCnt := n })) s
  else s

end Sys2Proof.Machine
end

