-- ==== Sys2Proof/Machine/Keys.lean ====
section
/-! DEFINITION. What signed objects share: key-hash slots (R414), the OTP shadows, and tokens (R425, R426). -/

namespace Sys2Proof.Machine

/-- SHA-256 over words, as words and as bytes. -/
def hashBytes (ws : List Nat) : List Nat := sha256 (wordsBytes ws)
def hashWords (ws : List Nat) : List Nat := bytesWords 8 (hashBytes ws)

/-- The words of a register window. -/
def State.win (s : State) (f : Nat → Loc) (n : Nat) : List Nat := (List.range n).map (fun i => s.get (f i))

/-- Words into a register window. -/
def State.setWin (s : State) (f : Nat → Loc) (l : List Nat) : State :=
  (List.range l.length).foldl (fun s i => s.set (f i) (l.getD i 0)) s

/-- The hash in a key slot, and whether the slot is empty, revoked or usable (R414). -/
def State.slotHash (s : State) (k : Nat) : List Nat := s.otp.hashes.getD k []
def State.slotEmpty (s : State) (k : Nat) : Bool := (s.slotHash k).all (fun w => w == 0)
def State.slotRevoked (s : State) (k : Nat) : Bool := bitOf s.otp.revoke k
def State.slotUsable (s : State) (k : Nat) : Bool := !s.slotEmpty k && !s.slotRevoked k

/-- A public key's hash equals a usable slot. -/
def State.keyOk (s : State) (slot : Nat) (key : List Nat) : Bool := s.slotUsable slot && hashWords key == s.slotHash slot

/-- The readable shadows of OTP follow it (R391 step 3, R413, R445). -/
def State.otpShadows (s : State) : State :=
  let s := s.set64 SECURITY.SERIAL_LO SECURITY.SERIAL_HI s.otp.serial
  let s := s.set SECURITY.PROVISIONED (if s.otp.provisioned then 1 else 0)
  let s := s.set SECURITY.SCAN_PERMIT (if s.otp.scanPermit then 1 else 0)
  let s := (s.set SECURITY.LR_RB s.otp.lrRb).set SECURITY.REVOKE s.otp.revoke
  let s := s.set SECURITY.PROGRAMMED (((List.range 4).map (fun k => if s.slotEmpty k then 0 else 2 ^ k)).foldl (· + ·) 0)
  let s := (List.range 4).foldl (fun s k => s.setWin (SECURITY.HASH k) (s.slotHash k)) s
  let s := s.set UPDATE.RB_CNT s.otp.rb
  let s := if s.otp.provisioned then s.setWin SECURITY.ID_PUB (Config.pubOf s.otp.idPriv) else s
  let s := (s.setWin FUSEMAP.FIELD s.otp.field).setWin FUSEMAP.FACT s.otp.fact
  let s := (List.range 16).foldl (fun s k => s.biasShadow k) s
  let used := fun (l : List Nat) => (l.filter (fun e => e != 0)).length
  (s.set FUSEMAP.FACT_CNT (used s.otp.fact)).set FUSEMAP.FIELD_USED (used s.otp.field)

/-- The shadow registers of the OTP security region read zero (R428). -/
def State.otpForget (s : State) : State :=
  s.forget (fun pg off => (pg == 0x002 && ((0x040 ≤ off && off < 0x04C) || (0x080 ≤ off && off < 0x100)))
    || (pg == 0x112 && off == 0x058))

/-- Key RAM is cleared (R417): every code word of memory 35 too. -/
def State.keyRamClear (s : State) : State :=
  { s with sec := { s.sec with idKey := none, eph := none, key := 0, newKey := none, keyAt := none } }.eccAll 35 0

/-- The result of the checks of R426 on a token of 42 words: 0 where all pass. `type` is what the channel expects, `nonce`
the nonce in force on it. -/
def State.tokenCheck (s : State) (w : List Nat) (type : Nat) (nonce : Option (List Nat)) : Nat :=
  let g := fun i => w.getD i 0
  let signer := bits (g 1) 8 2
  let rights := bits (g 1) 16 4
  let key := (w.drop 10).take 16
  let lr := fun (a : Nat) => (List.range 8).map (fun i => s.lrWord (a + i))
  let keyed :=
    if signer = 0 then s.keyOk (g 1 % 4) key
    else if signer = 1 then s.lrValid && hashWords key == lr 24
    else s.lrValid && !(lr 32).all (fun x => x == 0) && hashWords key == lr 32
  let reach :=
    if type = 1 then
      (rights == 1 || rights == 2) && decide (rights ≤ (if signer = 0 then 2 else if signer = 1 then 1 else s.vndMax))
    else if signer = 0 then decide (rights < 4)
    else if signer = 1 then false
    else s.vndDebug && decide (rights < 4)
  if g 0 ≠ 0x4E4B545A ∨ bits (g 1) 24 8 ≠ type ∨ 3 ≤ signer ∨ g 2 = 0 ∨ 86400 < g 2 then 1
  else if g 4 + g 5 * 2 ^ 32 ≠ s.otp.serial then 2
  else if nonce ≠ some ((w.drop 6).take 4) then 3
  else if keyed = false then 4
  else if Config.ecdsaOk key (hashBytes (w.take 26)) ((w.drop 26).take 16) = false then 5
  else if reach = false then 6
  else 0

/-- A fresh random word, and several (R416): free values. -/
def State.rng (s : State) : Nat × State := let r := s.freeNat; (r.1 % 2 ^ 32, r.2)
def State.rngs (s : State) : Nat → List Nat × State
  | 0 => ([], s)
  | n + 1 =>
    let r := s.rng
    let t := State.rngs r.2 n
    (r.1 :: t.1, t.2)

/-- A private scalar from 1 to n - 1 (R415): a free value. -/
def State.scalar (s : State) : Nat × State :=
  let r := s.freeNat
  (1 + r.1 % (0xFFFFFFFF00000000FFFFFFFFFFFFFFFFBCE6FAADA7179E84F3B9CAC2FC632551 - 1), r.2)

/-- An entropy health test has failed (R416). -/
def State.rngFailed (s : State) : Bool := bitOf (s.get SECURITY.RNG_STAT) 1

/-- The junction temperature permits flash and OTP writes (R466). -/
def State.writeOk (s : State) : Bool := s.on THERMAL.WRITE_OK

end Sys2Proof.Machine
end

