-- ==== Sys2Proof/Machine/Mgmt.lean ====
section
/-! DEFINITION. Pepper as far as the spec gives it state (17, R437): its data cache, the machine timer and the watchdog's
start and kick. Of Pepper's instructions only its stores and its cache maintenance are commands (log entry 65). -/

namespace Sys2Proof.Machine

def State.setMgmt (s : State) (f : MgmtSt → MgmtSt) : State := { s with mgmt := f s.mgmt }

/-! ### Access faults (R384, R437, R438) -/

/-- A store access fault: mtval holds the address. -/
def State.accessFault (s : State) (a : Nat) : State := s.setMgmt (fun m => { m with accessFault := some a })

/-! ### The data cache (R383, R385, R437) -/

/-- The line that holds an address. -/
def State.lineOf (s : State) (a : Nat) : Option CacheLine := s.mgmt.dcache.find? (fun l => l.addr == a / 32 * 32)

/-- The set of a line, of 128 of two ways. -/
def setOf (a : Nat) : Nat := a / 32 % 128

/-- The number of code word `w` of a line in memory 33: those of way 0 first, set by set (log entry 65). -/
def CacheLine.code (l : CacheLine) (w : Nat) : Nat := (l.way * 128 + setOf l.addr) * 4 + w

/-- The code words of a line that are uncorrectable. -/
def State.badWords (s : State) (l : CacheLine) : List Nat := (List.range 4).filter (fun w => s.eccOf 33 (l.code w) == 0xFF)

/-- The code words of a line are read: each error is counted, and a correctable one is corrected in what is read. -/
def State.lineRead (s : State) (l : CacheLine) : State :=
  (List.range 4).foldl (fun s w =>
    let e := s.eccOf 33 (l.code w)
    if e = 0 then s
    else if e = 0xFF then s.eccUE 33 (l.code w) Cls.mgmt.code
    else s.eccCE 33 (l.code w) (e - 1) Cls.mgmt.code) s

/-- The memory code words under code word `w` of a line that lie in a protected memory are poisoned (R432). -/
def State.poisonUnder (s : State) (a : Nat) : State :=
  [a, a + 4].foldl (fun s x =>
    match codeWordOf x with
    | some (m, i) => if s.isolated m then s else s.setEcc m i 0xFF
    | none => s) s

/-- The words of a line are written to memory as whole code words (R436), the damaged ones poisoned (R437). -/
def State.lineOut (s : State) (l : CacheLine) : State :=
  let bad := s.badWords l
  let ws := (List.range 8).map (fun i => l.words.getD i 0)
  let s := (s.lineRead l).writeWhole l.addr (if cloveData l.addr then ws.map (fun w => w % 2 ^ 24) else ws)
  bad.foldl (fun s w => s.poisonUnder (l.addr + 8 * w)) s

/-- The line of an address is discarded without being written. -/
def State.cacheDrop (s : State) (a : Nat) : State :=
  s.setMgmt (fun m => { m with dcache := m.dcache.filter (fun x => x.addr != a / 32 * 32) })

/-- A line takes the place of the one of its address. -/
def State.putLine (s : State) (l : CacheLine) : State :=
  (s.cacheDrop l.addr).setMgmt (fun m => { m with dcache := m.dcache ++ [l] })

/-- A dirty line goes to memory. An access at `a` that finds a code word of it damaged ends in an access fault, and the line
is not kept: false. -/
def State.lineClean (s : State) (l : CacheLine) (a : Nat) : Bool × State :=
  if l.dirty = false then (true, s)
  else if s.badWords l = [] then (true, (s.lineOut l).putLine { l with dirty := false })
  else (false, ((s.lineOut l).cacheDrop l.addr).accessFault a)

/-- An upset leaves error `e` (as in SCRUB_VISIT) in code word `w` of the line that holds an address. -/
def State.cacheUpset (s : State) (a w e : Nat) : State :=
  match s.lineOf a with
  | some l => if e = 0 then s else s.setEcc 33 (l.code (w % 4)) (if 73 ≤ e then 0xFF else e)
  | none => s

/-- CSR 0x7C0: a line that is not present is unaffected. -/
def State.cacheClean (s : State) (a : Nat) : State :=
  match s.lineOf a with
  | some l => (s.lineClean l a).2
  | none => s

def execCacheClean (a w e : Nat) (s : State) : Out :=
  .next ((s.cacheUpset (a % 2 ^ 32) w e).cacheClean (a % 2 ^ 32))

def execCacheInvalidate (a : Nat) (s : State) : Out := .next (s.cacheDrop (a % 2 ^ 32))

def execCacheCleanInvalidate (a w e : Nat) (s : State) : Out :=
  .next (((s.cacheUpset (a % 2 ^ 32) w e).cacheClean (a % 2 ^ 32)).cacheDrop (a % 2 ^ 32))

def execIcacheInvalidate (s : State) : Out := .next (s.setMgmt (fun m => { m with icache := [] }))

/-- The way that a line of an address takes, once its victim, if any, has been written to memory: none where that ends the
access in a fault. -/
def State.freeWay (s : State) (a : Nat) : Option Nat × State :=
  let here := s.mgmt.dcache.filter (fun l => setOf l.addr == setOf a)
  match (List.range 2).find? (fun k => !here.any (fun l => l.way == k)) with
  | some k => (some k, s)
  | none =>
    let k := Config.victimWay s.mgmt.evictions % 2
    let s := s.setMgmt (fun m => { m with evictions := m.evictions + 1 })
    match here.find? (fun l => l.way == k) with
    | none => (some k, s)
    | some l =>
      match s.lineClean l a with
      | (true, s) => (some k, s.cacheDrop l.addr)
      | (false, s) => (none, s)

/-- Words are read through their decoders one by one; none where one is uncorrectable, although the rest are read too. -/
def State.fillWords (s : State) : List Nat → Option (List Nat) × State
  | [] => (some [], s)
  | a :: t =>
    let whole := decide (a % 8 = 4) && !cloveData a
    let r := if whole then (some (s.word a), s) else s.readMem Cls.mgmt.code a
    let q := State.fillWords r.2 t
    (match r.1, q.1 with
      | some v, some l => some ((if cloveData a then v % 2 ^ 24 else v) :: l)
      | _, _ => none, q.2)

/-- The line of an address is fetched (R437): none where a code word of it is uncorrectable, or the write-back of the line
that it replaces ends in a fault. -/
def State.lineFill (s : State) (a : Nat) : Option CacheLine × State :=
  let b := a / 32 * 32
  let r := s.fillWords ((List.range 8).map (fun i => b + 4 * i))
  match r.1 with
  | none => (none, r.2.accessFault a)
  | some ws =>
    match r.2.freeWay a with
    | (none, s) => (none, s)
    | (some k, s) =>
      let l : CacheLine := ⟨b, k, false, ws⟩
      (some l, ((List.range 4).foldl (fun s w => s.setEcc 33 (l.code w) 0) s).putLine l)

/-- The line that a store at an address finds, or allocates. A line found damaged is read once: a clean one is discarded and
fetched again, a dirty one goes to memory and ends the store (R437). -/
def State.lineFor (s : State) (a : Nat) : Option CacheLine × State :=
  match s.lineOf a with
  | none => s.lineFill a
  | some l =>
    if s.badWords l = [] then (some l, s)
    else if l.dirty then (none, (s.lineClean l a).2)
    else ((s.lineRead l).cacheDrop a).lineFill a

/-- `size` bytes of a word from byte `o` on take a value. -/
def mergeBytes (w o size v : Nat) : Nat :=
  w % 2 ^ (8 * o) + (v % 2 ^ (8 * size)) * 2 ^ (8 * o) + w / 2 ^ (8 * (o + size)) * 2 ^ (8 * (o + size))

/-- What refuses Pepper a cached store by the address's own chapter. -/
def State.storeRefusal (s : State) (a : Nat) : Option Nat :=
  if inCapture a then s.capAccess .mgmt a true
  else if cloveData a then s.cloveAccess .mgmt a true
  else none

/-- A store of Pepper's outside register space, of `size` bytes: into SRAM, capture and Clove memory through the data cache,
into the weight and model windows at once. Whatever cannot be stored ends in a store access fault (R384). -/
def State.store (s : State) (a size v : Nat) : State :=
  if size ≠ 1 ∧ size ≠ 2 ∧ size ≠ 4 ∨ a % size ≠ 0 then s.accessFault a
  else if inSram a || inCapture a || cloveData a then
    if (s.storeRefusal a).isSome then s.accessFault a
    else match s.lineFor a with
    | (none, s) => s
    | (some l, s) =>
      let i := a % 32 / 4
      match s.eccMerge 33 (l.code (i / 2)) Cls.mgmt.code with
      | (false, s) => s.accessFault a
      | (true, s) =>
        s.putLine { l with dirty := true, words := l.words.set i (mergeBytes (l.words.getD i 0) (a % 4) size v) }
  else if inWeights a || inModel a then
    if size ≠ 4 then s.accessFault a
    else
      let r := s.busWrite .mgmt a (trunc 32 v)
      if r.1 = stOK then r.2 else (r.2.refuse .mgmt a r.1).accessFault a
  else s.accessFault a

/-! ### Machine timer (R386) -/

def State.mtime (s : State) : Nat := s.uptimeUs % 2 ^ 64

def State.mtimeDue (s : State) : Bool := decide (s.get64 MGMT.MTIMECMP_LO MGMT.MTIMECMP_HI ≤ s.mtime)

def execMtimeCompare (s : State) : Out := .next (if s.mtimeDue then s.setMgmt (fun m => { m with mtip := true }) else s)

/-- A write of MTIMECMP beyond MTIME ends the interrupt. -/
def State.mtimecmpWritten (s : State) (l : Loc) (v : Nat) : State :=
  let s := s.set l v
  if s.mtimeDue then s else s.setMgmt (fun m => { m with mtip := false })

/-! ### The run-time watchdog (R396) -/

/-- WD_EN can be set and not cleared; the period counts from the write. -/
def State.wdEnable (s : State) (v : Nat) : State :=
  if v = 1 ∧ s.on MGMT.WD_EN = false then (s.set MGMT.WD_EN 1).setMgmt (fun m => { m with wdAt := s.ao }) else s

/-- 0x5A kicks; any other value is counted. -/
def State.wdKick (s : State) (v : Nat) : State :=
  if v % 256 = 0x5A then (if s.on MGMT.WD_EN then s.setMgmt (fun m => { m with wdAt := s.ao }) else s)
  else s.count MGMT.WD_BAD_CNT

/-! ### Delivery to Pepper (R386) -/

/-- IRQ_PENDw: the pages with a set, enabled event routed to Pepper. -/
def State.irqPend (s : State) (w : Nat) : Nat :=
  ((List.range 32).map (fun b =>
    let pg := 32 * w + b
    if (s.get (HDR.EVT pg) &&& s.get (HDR.EVT_EN pg)) ≠ 0 ∧ s.on (HDR.TO_PEPPER pg) then 2 ^ b else 0)).foldl (· + ·) 0

/-- ARBITER.PENDw: the pages with a set, enabled event routed to IRQ_N (R40). -/
def State.arbPend (s : State) (w : Nat) : Nat :=
  ((List.range 32).map (fun b =>
    let pg := 32 * w + b
    if (s.get (HDR.EVT pg) &&& s.get (HDR.EVT_EN pg)) ≠ 0 ∧ s.on (HDR.TO_IRQ pg) then 2 ^ b else 0)).foldl (· + ·) 0

/-- IRQ_N is asserted (R40). -/
def State.irqN (s : State) : Bool := (List.range 16).any (fun w => s.arbPend w != 0)

end Sys2Proof.Machine
end

