-- ==== Sys2Proof/Machine/LogB.lean ====
section
/-! DEFINITION. The log (17): firmware records, flushes to flash, and reading records. -/

namespace Sys2Proof.Machine

def State.setLog (s : State) (f : LogSt → LogSt) : State := { s with log := f s.log }

/-- What refuses FW_CMD: another class than MGMT and DSP, or TYPE below 0x80 (R404). -/
def fwRefusal (type : Nat) : Option Nat := if type % 256 < 0x80 then some stDENIED else none

/-- A firmware record. -/
def State.fwRecord (s : State) (c : Cls) (type sev : Nat) : State :=
  s.logAs c.code (type % 256) (sev % 4) 0 (s.get (perClass LOG.FW_W4 c)) (s.get (perClass LOG.FW_W5 c))
    (s.get (perClass LOG.FW_W6 c))

/-- A record of log RAM holds an uncorrectable code word (R439). -/
def State.recBad (s : State) (r : LogRec) : Bool :=
  (List.range 4).any (fun i => s.eccOf 1 (4 * (r.seq % 2048) + i) == 0xFF)

/-- What the flash log area holds once `n` records have been written to it: 131,072, less the sector ahead (R405). -/
def flashKeep (n : Nat) (l : List LogRec) : List LogRec :=
  let first := (n + 127) / 128 * 128 - 131072
  l.drop (first - (n - l.length))

/-- The unflushed records, after a CHECKPOINT and, where records were lost, a LOST record, go to flash (R403, R405). -/
def State.logFlush (s : State) : State :=
  if s.log.unflushed = 0 then s
  else if s.writeOk = false then
    if s.log.deferred then s else (s.setLog (fun l => { l with deferred := true })).raise 0x111 EV.LOG.FLUSH_DEFERRED
  else
    let h := bytesWords 4 s.log.head
    let s := s.logHw 0x01 0 0x111 (h.getD 1 0) (h.getD 2 0) (h.getD 3 0)
    let n := s.log.lost
    let s := if n = 0 then s else (s.setLog (fun l => { l with lost := 0 })).logHw 0x08 1 0x111 n 0 0
    let out := s.log.recs.drop (s.log.recs.length - s.log.unflushed)
    let bad := out.filter (fun r => s.recBad r)
    let good := out.filter (fun r => !s.recBad r)
    let s := s.count LOG.LOST_CNT bad.length
    let s := s.setLog (fun l => { l with
      flash := flashKeep (l.flashN + good.length) (l.flash ++ good)
      flashN := l.flashN + good.length
      unflushed := 0
      deferred := false
      flushAt := s.ao })
    s.set LOG.FLUSHED_SEQ (s.get LOG.HEAD_SEQ)

/-- FLUSH_THR records are unflushed, or FLUSH_S seconds have passed, or a deferred flush may be made. -/
def State.flushDue (s : State) : Bool :=
  let t := s.get LOG.FLUSH_S
  decide (max 1 (s.get LOG.FLUSH_THR) ≤ s.log.unflushed) || (t != 0 && decide (s.log.flushAt + t * 983040000 ≤ s.ao))
    || (s.log.deferred && s.writeOk)

def execLogFlush (s : State) : Out := .next (if s.flushDue then s.logFlush else s)

/-- FLUSH_THR above 2,047 is stored as 2,047. -/
def State.flushThr (s : State) (v : Nat) : State := s.set LOG.FLUSH_THR (min 2047 v)

/-- The record with a SEQ in log RAM, and in flash. -/
def State.ramRec (s : State) (q : Nat) : Option LogRec := s.log.recs.find? (fun r => r.seq == q)
def State.flashRec (s : State) (q : Nat) : Option LogRec := s.log.flash.reverse.find? (fun r => r.seq == q)

/-- RD_W0 to RD_W7 and RD_STAT show a record, or that it is held nowhere. -/
def State.rdShow (s : State) (r : Option LogRec) : State :=
  let s := s.setWin LOG.RD_W (match r with | some r => r.words | none => List.replicate 8 0)
  ((s.set LOG.RD_MISS (if r.isSome then 0 else 1)).set LOG.RD_BUSY 0).setLog (fun l => { l with rd := none })

/-- RD_SEQ selects a record (R406). -/
def State.rdSeq (s : State) (q : Nat) : State :=
  let s := s.set LOG.RD_SEQ q
  match s.ramRec q with
  | some r => s.rdShow (some r)
  | none =>
    match s.flashRec q with
    | some _ => ((s.set LOG.RD_BUSY 1).set LOG.RD_MISS 0).setLog (fun l => { l with rd := some q })
    | none => s.rdShow none

/-- A flash read completes. -/
def State.rdDone (s : State) : State :=
  match s.log.rd with
  | some q => s.rdShow (s.flashRec q)
  | none => s

def execLogFlashReadDone (s : State) : Out := .next s.rdDone

/-- A record wherever it is held. -/
def State.findRec (s : State) (q : Nat) : Option LogRec :=
  match s.ramRec q with
  | some r => some r
  | none => s.flashRec q

/-- Up to `n` records from a SEQ on; it stops at the first that is held nowhere (R406). -/
def State.logRun (s : State) (q : Nat) : Nat → List LogRec
  | 0 => []
  | n + 1 =>
    match s.findRec q with
    | some r => r :: State.logRun s ((q + 1) % 2 ^ 32) n
    | none => []

/-- MGT log read: SUB 3, answered by SUB 0x83. -/
def State.mgtLogRead (s : State) (ws : List Nat) (broken : Bool) : State :=
  match (s.sendClear).receiveAs 4 (some 3) ws broken with
  | (some p, s) =>
    let n := min 64 (max 1 (p.w1 % 2 ^ 16))
    let q := p.body.getD 0 0
    let rs := s.logRun q n
    s.send 4 0x83 (p.w1 / 2 ^ 24 * 2 ^ 24 + rs.length) ([q, 0] ++ (rs.map LogRec.words).flatten)
  | (none, s) => s

def execMgtLogRead (ws : List Nat) (broken : Bool) (s : State) : Out := .next (s.mgtLogRead ws broken)

/-- LOG.HEADk, read off the chain. -/
def State.logHead (s : State) (k : Nat) : Nat := (bytesWords 8 s.log.head).getD k 0

end Sys2Proof.Machine
end

