-- ==== Sys2Proof/Machine/Update.lean ====
section
/-! DEFINITION. Images, the flash directory and the UPDATE engine (17). -/

namespace Sys2Proof.Machine

/-! ### The directory (R389) -/

/-- The words of a directory copy. -/
def State.dirCopy (s : State) (k : Nat) : List Nat := (List.range 16).map (fun i => s.word (flashBase + 0x1000 * k + 4 * i))

/-- A copy is valid. -/
def dirValid (w : List Nat) : Bool := w.getD 0 0 == 0x52445A44 && crc32 (w.take 15) == w.getD 15 0

/-- The copy in force: the valid one with the higher DSEQ, as DSEQ and word 2; none where neither is valid. -/
def State.dirInForce (s : State) : Option (Nat × Nat) :=
  let c := fun k => let w := s.dirCopy k; if dirValid w then some (w.getD 1 0, w.getD 2 0) else none
  match c 0, c 1 with
  | some a, some b => if a.1 < b.1 then some b else some a
  | some a, none => some a
  | none, b => b

/-- Word 2 of the directory in force; PREF A and TRIAL 0 where no copy is valid. -/
def State.dirWord (s : State) : Nat := match s.dirInForce with | some d => d.2 | none => 0
def State.dirPref (s : State) : Nat := s.dirWord % 2
def State.dirTrial (s : State) : Bool := bitOf s.dirWord 8

/-- A directory write: copy (DSEQ mod 2) takes DSEQ + 1. -/
def State.dirWrite (s : State) (pref : Nat) (trial : Bool) : State :=
  let d := match s.dirInForce with | some d => d.1 | none => 0
  let a := flashBase + 0x1000 * (d % 2)
  let w := [0x52445A44, (d + 1) % 2 ^ 32, pref + (if trial then 2 ^ 8 else 0)] ++ List.replicate 12 0
  ({ s with mem := Memory.fill s.mem a 0x1000 0xFF }).setWords a (w ++ [crc32 w])

/-! ### Images (R390, R393) -/

def slotSize : Nat := 0x800000
def slotBase (k : Nat) : Nat := flashBase + 0x100000 + slotSize * k

def State.wordsAt (s : State) (a n : Nat) : List Nat := (List.range n).map (fun i => s.word (a + 4 * i))

/-- The number of the first of checks 2 to 6 of R393 that the image in a slot fails; 0 where it passes. -/
def State.imageCheck (s : State) (k : Nat) : Nat :=
  let h := s.wordsAt (slotBase k) 48
  let g := fun i => h.getD i 0
  let body := g 2
  let pay := g 3
  let key := (h.drop 16).take 16
  if g 0 ≠ 0x474D445A ∨ body % 4 ≠ 0 ∨ body < 4 ∨ 458752 < body ∨ pay % 4 ≠ 0 ∨ slotSize < 192 + body + pay
      ∨ inSram (g 4) = false then 2
  else if s.keyOk (g 5 % 4) key = false then 3
  else if Config.ecdsaOk key (hashBytes (h.take 32 ++ s.wordsAt (slotBase k + 192) (body / 4))) ((h.drop 32).take 16) = false then 4
  else if g 1 % 64 < s.otp.rb then 5
  else if hashWords (s.wordsAt (slotBase k + 192 + body) (pay / 4)) ≠ (h.drop 8).take 8 then 6
  else 0

/-! ### Operations (R399, R400) -/

/-- The update session ends. -/
def State.updIdle (s : State) : State := s.set UPDATE.STATE 0

/-- A session that is aborted leaves its target slot without a valid image. -/
def State.updAbort (s : State) : State :=
  if s.get UPDATE.STATE = 0 then s else (s.setWord (slotBase (s.get UPDATE.TARGET)) 0).updIdle

/-- The session and every operation that waits end (device reset, failed start, loss of VAUX). -/
def State.updDrop (s : State) : State := { s with updJobs := [] }.updIdle

/-- The 64 KiB blocks that begin within a chunk are erased, and its words programmed. -/
def State.program (s : State) (slot ofs len : Nat) (data : List Nat) : State :=
  let first := (ofs + 0xFFFF) / 0x10000
  let n := (ofs + len + 0xFFFF) / 0x10000 - first
  let s : State := { s with mem := Memory.fill s.mem (slotBase slot + first * 0x10000) (n * 0x10000) 0xFF }
  s.setWords (slotBase slot + ofs) data

/-- CHUNK's lengths: up to 4,096 bytes over ERL, 3,072 through the page. -/
def chunkMax (j : UpdJob) : Nat := if j.tag.isSome then 4096 else if j.cls = .mon then 4096 else 3072

/-- The result of an operation, judged in the order owner, state, range, temperature, flash. -/
def State.updResult (s : State) (j : UpdJob) (bad : Bool) : Nat :=
  let st := s.get UPDATE.STATE
  let owner := s.get UPDATE.OWNER == j.cls.code
  let mgmt := j.cls == .mgmt
  let slot := s.get MGMT.SLOT
  let fin := fun (_ : Unit) => if s.writeOk = false then 4 else if bad then 5 else 0
  match j.op with
  | 1 => if st ≠ 0 ∨ (s.on MGMT.RUNNING ∧ j.arg % 2 = slot) then 1 else 0
  | 2 =>
    if st ≠ 0 ∧ owner = false then 2 else if st ≠ 1 then 1
    else if j.len < 4 ∨ chunkMax j < j.len ∨ j.len % 4 ≠ 0 ∨ j.data.length ≠ j.len / 4 ∨ j.ofs ≠ s.get UPDATE.RECEIVED
        ∨ slotSize < j.ofs + j.len then 3
    else fin ()
  | 3 =>
    if st ≠ 0 ∧ owner = false then 2 else if st ≠ 1 then 1 else if bad then 5
    else [0, 0, 6, 8, 7, 9, 10].getD (s.imageCheck (s.get UPDATE.TARGET)) 0
  | 4 => if st ≠ 0 ∧ owner = false then 2 else if st ≠ 2 then 1 else if j.arg % 4 = 3 then 3 else fin ()
  | 5 => if mgmt = false then 2 else if s.on MGMT.RUNNING = false ∨ slot ≠ s.dirPref then 1 else fin ()
  | 6 => if st ≠ 0 ∧ owner = false ∧ mgmt = false then 2 else if st = 0 then 1 else 0
  | 7 =>
    if mgmt = false then 2 else if s.dirTrial then 1
    else if s.get MGMT.RB_ACT < j.arg % 64 then 3 else fin ()
  | _ => 3

/-- What an operation does that succeeds. -/
def State.updEffect (s : State) (j : UpdJob) : State :=
  match j.op with
  | 1 =>
    let s := (s.set UPDATE.OWNER j.cls.code).set UPDATE.TARGET (j.arg % 2)
    (s.set UPDATE.RECEIVED 0).set UPDATE.STATE 1
  | 2 => (s.program (s.get UPDATE.TARGET) j.ofs j.len j.data).set UPDATE.RECEIVED (j.ofs + j.len)
  | 3 => s.set UPDATE.STATE 2
  | 4 => (s.dirWrite (s.get UPDATE.TARGET) true).updIdle
  | 5 => s.dirWrite s.dirPref false
  | 6 => s.updAbort
  | 7 =>
    let v := max s.otp.rb (j.arg % 64)
    { s with otp := { s.otp with rb := v } }.set UPDATE.RB_CNT v
  | _ => s

/-- An operation's result is published, logged unless it is a CHUNK, and answered over ERL. -/
def State.updPublish (s : State) (j : UpdJob) (r : Nat) : State :=
  let s := s.set UPDATE.RESULT r
  let s := if j.op = 2 then s else
      s.logHw 0x06 (if r = 0 then 0 else 1) 0x112
        (s.get UPDATE.OWNER * 2 ^ 16 + s.get UPDATE.TARGET * 2 ^ 12 + r * 2 ^ 8 + j.op % 16) 0 0
  let s := s.raise 0x112 EV.UPDATE.UPD_DONE
  match j.tag with
  | some t =>
    s.send 4 0x82 (j.op * 2 ^ 28 + t * 2 ^ 16 + j.arg) [s.get UPDATE.STATE * 2 ^ 8 + r, s.get UPDATE.RECEIVED]
  | none => s

/-- The operation in progress completes: what it did, and the restart that ACTIVATE asks for, 1 of management and 2 of
the device. -/
def State.updComplete (s : State) (bad : Bool) : Nat × State :=
  match s.updJobs with
  | [] => (0, s)
  | j :: t =>
    let r := s.updResult j bad
    let s := if r = 0 then s.updEffect j else s
    let s := { s with updJobs := t }.set UPDATE.BUSY (if t = [] then 0 else 1)
    (if r = 0 ∧ j.op = 4 then j.arg % 4 else 0, s.sendClear.updPublish j r)

/-- An operation is issued: at once with result 1 during a management restart (R400); otherwise it starts, or, from ERL,
waits for those before it. -/
def State.updIssue (s : State) (j : UpdJob) : State :=
  if s.mgmtDown then s.updPublish j 1
  else { s with updJobs := s.updJobs ++ [j] }.set UPDATE.BUSY 1

/-- GO through the page: OP and ARG come with it, OFS and LEN are those the class has written. -/
def State.updGo (s : State) (c : Cls) (op arg : Nat) : State :=
  let s := (s.set (perClass UPDATE.OP c) op).set (perClass UPDATE.ARG c) arg
  if s.act 0x112 = false then s
  else if s.on UPDATE.BUSY then s.set UPDATE.RESULT 11
  else
    let len := s.get (perClass UPDATE.LEN c)
    s.updIssue { cls := c, op := op % 8, arg := arg % 256, ofs := s.get (perClass UPDATE.OFS c), len := len,
                 data := s.win UPDATE.BUF (min 768 (len / 4)), tag := none }

/-- A SUB 2 packet carries an operation of BB (R401). A ninth request without a response is discarded (R289). -/
def State.mgtUpdate (s : State) (ws : List Nat) (broken : Bool) : State :=
  match (s.sendClear).receiveAs 4 (some 2) ws broken with
  | (some p, s) =>
    let n := p.body.getD 1 0
    let j : UpdJob := { cls := .bb, op := bits p.w1 28 4, arg := bits p.w1 0 8, ofs := p.body.getD 0 0, len := n,
                        data := (p.body.drop 2).take (n / 4), tag := some (bits p.w1 16 8) }
    if 8 ≤ (s.updJobs.filter (fun x => x.tag.isSome)).length then s.count ERL1.MGT_OVF_CNT
    else if s.act 0x112 = false then s else s.updIssue j
  | (none, s) => s

def execMgtUpdate (ws : List Nat) (broken : Bool) (s : State) : Out := .next (s.mgtUpdate ws broken)

end Sys2Proof.Machine
end

