-- ==== Sys2Proof/Machine/Security.lean ====
section
/-! DEFINITION. OTP operations, the limits record, the key engine, random numbers, and the unlocking of debug (18). -/

namespace Sys2Proof.Machine

def State.setSec (s : State) (f : SecSt → SecSt) : State := { s with sec := f s.sec }
def State.setOtp (s : State) (f : OtpSt → OtpSt) : State := { s with otp := f s.otp }

/-- A list brought to `n` words. -/
def wordsN (n : Nat) (l : List Nat) : List Nat := (List.range n).map (fun i => l.getD i 0 % 2 ^ 32)

/-! ### OTP operations (R413, R415) -/

/-- The slot whose revocation would leave none usable. -/
def State.lastUsable (s : State) (k : Nat) : Bool :=
  s.slotUsable k && (List.range 4).all (fun j => j == k || !s.slotUsable j)

/-- The result of an operation: 1 where it is performed. -/
def State.otpResult (s : State) (op arg : Nat) (bad : Bool) : Nat :=
  let fin := if s.writeOk = false then 4 else if bad then 5 else 1
  match op with
  | 1 => if 3 < arg then 3 else if s.slotEmpty arg = false then 2 else fin
  | 2 =>
    if 3 < arg ∨ (s.on MGMT.RUNNING ∧ s.mgmt.keySlot = arg) ∨ s.lastUsable arg then 3 else fin
  | 3 => fin
  | 4 => if s.otp.provisioned then 2 else if s.rngFailed then 6 else fin
  | 5 => if s.lrValid = false ∨ bits (s.lrWord 1) 8 5 < arg then 3 else fin
  | _ => 3

/-- What a performed operation writes, and the registers that show it. -/
def State.otpEffect (s : State) (op arg : Nat) : State :=
  match op with
  | 1 =>
    let h := s.win SECURITY.KEY_HASH_IN 8
    let s := (s.setOtp (fun o => { o with hashes := o.hashes.set arg h })).setWin (SECURITY.HASH arg) h
    if h.all (fun w => w == 0) then s else s.set SECURITY.PROGRAMMED (setBit (s.get SECURITY.PROGRAMMED) arg)
  | 2 => let r := setBit s.otp.revoke arg; (s.setOtp (fun o => { o with revoke := r })).set SECURITY.REVOKE r
  | 3 => (s.setOtp (fun o => { o with scanPermit := true })).set SECURITY.SCAN_PERMIT 1
  | 4 =>
    let r := s.scalar
    let s := r.2.setOtp (fun o => { o with idPriv := r.1, provisioned := true })
    (s.set SECURITY.PROVISIONED 1).setWin SECURITY.ID_PUB (wordsN 16 (Config.pubOf r.1))
  | _ => let v := max s.otp.lrRb arg; (s.setOtp (fun o => { o with lrRb := v })).set SECURITY.LR_RB v

/-- GO: without effect while an operation is in progress; OP 0, 6 and 7 end at once. -/
def State.otpGo (s : State) (op arg : Nat) : State :=
  let s := (s.set SECURITY.OTP_OP op).set SECURITY.OTP_ARG arg
  if s.on SECURITY.OTP_BUSY then s
  else if op % 8 = 0 ∨ 6 ≤ op % 8 then (s.set SECURITY.OTP_RESULT 3).raise 0x002 EV.SECURITY.OTP_DONE
  else (s.setSec (fun c => { c with otpJob := some (op % 8, arg % 32) })).set SECURITY.OTP_BUSY 1

/-- An operation completes; `bad` is a read-back that differs. -/
def State.otpDone (s : State) (bad : Bool) : State :=
  match s.sec.otpJob with
  | none => s
  | some (op, arg) =>
    let r := s.otpResult op arg bad
    let s := if r = 1 then s.otpEffect op arg else s
    let s := ((s.setSec (fun c => { c with otpJob := none })).set SECURITY.OTP_BUSY 0).set SECURITY.OTP_RESULT r
    if r = 5 then s.raiseLog 2 0x002 EV.SECURITY.OTP_DONE else s.raise 0x002 EV.SECURITY.OTP_DONE

def execOtpDone (bad : Bool) (s : State) : Out := .next (s.otpDone bad)

/-! ### The limits record (R419 to R422) -/

/-- A failed load. -/
def State.lrFail (s : State) (r : Nat) : State :=
  ((s.set SECURITY.LR_RESULT r).count SECURITY.LR_FAIL_CNT).raise 0x002 EV.SECURITY.LR_FAIL

/-- LR_CMD.GO. -/
def State.lrGo (s : State) : State :=
  if s.on SECURITY.LR_BUSY then s.lrFail 9
  else (s.setSec (fun c => { c with lrJob := some (s.get SECURITY.LR_ADDR / 4 * 4) })).set SECURITY.LR_BUSY 1

/-- Words that the record load reads as class MGMT: the memories of Pepper's map, register space and the ROM, which holds
no record. -/
def State.lrRead (s : State) : Nat → Nat → Option (List Nat) × State
  | _, 0 => (some [], s)
  | a, n + 1 =>
    let r : Nat × Nat × State :=
      if a < 0x20000 then (stOK, 0, s)
      else if regBase ≤ a ∧ a < regBase + 0x200000 then
        (stOK, s.rawWord ((a - regBase) / 0x1000) ((a - regBase) % 0x1000), s)
      else s.busRead .mgmt a
    if r.1 = stOK then
      let t := State.lrRead r.2.2 (a + 4) n
      (t.1.map (fun l => r.2.1 :: l), t.2)
    else (none, r.2.2)

/-- The first of checks 2 to 7 of R420 that the record fails; 1 where all pass. -/
def State.lrCheck (s : State) (w : List Nat) : Nat :=
  let g := fun i => w.getD i 0
  let nlo := bits (g 6) 0 3
  let key := (w.drop 100).take 16
  let ranges := (List.range nlo).map (fun k => (g (8 + 2 * k), g (9 + 2 * k)))
  let sn := g 3 + g 4 * 2 ^ 32
  let inRange := fun (x : Nat) =>
    let f := loKHz s.fpfd (s.get (LO.NINT x)) (s.get (LO.FRAC x)) (s.get (LO.OUTDIV x))
    ranges.any (fun r => decide (r.1 ≤ f ∧ f ≤ r.2))
  if g 0 ≠ 0x4D494C5A ∨ g 2 ≠ 528 ∨ nlo = 0 ∨ 4 < nlo ∨ ranges.any (fun r => decide (r.2 < r.1)) then 2
  else if sn ≠ 0 ∧ sn ≠ s.otp.serial then 3
  else if s.keyOk (g 1 % 4) key = false then 4
  else if Config.ecdsaOk key (hashBytes (w.take 116)) ((w.drop 116).take 16) = false then 5
  else if bits (g 1) 8 5 < s.otp.lrRb then 6
  else if [0, 1].any (fun x => s.act (loopPage (1 + x)) && !inRange x) then 7
  else 1

/-- The record comes into force. -/
def State.lrInForce (s : State) (w : List Nat) : State :=
  let s := s.setWin LIMITS.REC (w.take 100)
  let s := ((s.set LIMITS.LR_VALID 1).set LIMITS.KEY_SLOT (w.getD 1 0 % 4)).set LIMITS.LR_VER (bits (w.getD 1 0) 16 16)
  ((s.set SECURITY.LR_RESULT 1).raise 0x002 EV.SECURITY.LR_LOADED).aniseGate

/-- A load ends: a record that passes comes into force at a sample boundary of the 491.52 Msps stream. -/
def State.lrDone (s : State) : State :=
  match s.sec.lrJob with
  | none => s
  | some a =>
    let r := s.lrRead a 132
    let code := match r.1 with | some w => r.2.lrCheck w | none => 8
    if code = 1 ∧ s.tbRun ∧ s.tb % 2 = 1 then s
    else
      let s := (r.2.setSec (fun c => { c with lrJob := none })).set SECURITY.LR_BUSY 0
      if code = 1 then s.lrInForce (r.1.getD []) else s.lrFail code

def execLrLoadDone (s : State) : Out := .next s.lrDone

/-! ### The key engine (R415 to R418, R423, R424) -/

/-- GO: OP 0 performs nothing. -/
def State.keGo (s : State) (op : Nat) : State :=
  let s := s.set SECURITY.KE_OP op
  if s.on SECURITY.KE_BUSY then s.set SECURITY.KE_RESULT 8
  else if op % 4 = 0 then s
  else (s.setSec (fun c => { c with keJob := some (op % 4) })).set SECURITY.KE_BUSY 1

/-- The first code word of key RAM that is uncorrectable (memory 35 has 64). -/
def State.keyRamBad (s : State) : Option Nat := (List.range 64).find? (fun i => s.eccOf 35 i == 0xFF)

/-- The signature that the identity key makes of a digest, into KE_SIG; without an identity key its value is free. -/
def State.keSign (s : State) (digest : List Nat) : State :=
  let k := s.scalar
  let d := match s.sec.idKey with | some d => (d, k.2) | none => k.2.scalar
  d.2.setWin SECURITY.KE_SIG (wordsN 16 (Config.ecdsaSign d.1 k.1 digest))

/-- Bytes of SERIAL, most significant first. -/
def State.serialBytes (s : State) : List Nat := beBytes 8 s.otp.serial

/-- The tick at which a new session key comes into force: the first frame start at least 2,048 ticks from now. -/
def State.keyArm (s : State) : State :=
  if s.sec.newKey.isSome then s.setSec (fun c => { c with keyAt := some ((s.tb + 2048 + 2047) / 2048 * 2048) }) else s

/-- GEN_EPH. -/
def State.genEph (s : State) : State :=
  let r := s.scalar
  (r.2.setSec (fun c => { c with eph := some r.1 })).setWin SECURITY.KE_PUB (wordsN 16 (Config.pubOf r.1))

/-- The checks of DERIVE. -/
def State.deriveCheck (s : State) : Nat :=
  let own := s.win SECURITY.KE_PUB 16
  let peer := s.win SECURITY.PEER_EPH 16
  let stat := s.win SECURITY.PEER_STATIC 16
  let msg := wordsBytes (own ++ peer) ++ s.serialBytes
  if s.lrValid = false then 4
  else if hashWords stat ≠ (List.range 8).map (fun i => s.lrWord (16 + i)) then 3
  else if Config.ecdsaOk stat (sha256 msg) (s.win SECURITY.PEER_SIG 16) = false then 5
  else if Config.onCurve peer = false then 7
  else if s.sec.eph.isNone then 2
  else 1

/-- DERIVE: the session key, the signature, and the end of the ephemeral key. -/
def State.derive (s : State) : State :=
  let own := s.win SECURITY.KE_PUB 16
  let peer := s.win SECURITY.PEER_EPH 16
  let z := Config.ecdhX (s.sec.eph.getD 0) peer
  let info := [69, 82, 76, 32, 115, 101, 115, 115, 105, 111, 110]
  let k := beNat (hkdf16 s.serialBytes z info)
  let s := s.keSign (sha256 (wordsBytes (peer ++ own) ++ s.serialBytes))
  let s := s.setSec (fun c => { c with eph := none, newKey := some k, keyAt := none })
  if s.on ERL0.SECURED then s.keyArm else s

/-- The attestation report (R418). -/
def State.report (s : State) : List Nat :=
  let b := fun (l : Loc) => s.get l
  let w21 := b MGMT.IMG_VER_ACT * 2 ^ 16 + b MGMT.RB_ACT * 2 ^ 8 + b MGMT.SLOT
  let w22 := s.otp.rb + s.otp.lrRb * 2 ^ 8 + s.otp.revoke * 2 ^ 16 + (if s.otp.scanPermit then 2 ^ 20 else 0)
    + b LIMITS.LR_VALID * 2 ^ 21
  [0x5454415A, 0, s.otp.serial % 2 ^ 32, s.otp.serial / 2 ^ 32 % 2 ^ 32] ++ s.win SECURITY.KE_NONCE 8 ++ bytesWords 8 s.log.head
    ++ [b LOG.HEAD_SEQ, w21, w22, (if s.lrValid then b LIMITS.LR_VER * 2 ^ 16 else 0), s.tb % 2 ^ 32, s.tb / 2 ^ 32 % 2 ^ 32]
    ++ List.replicate 6 0

def State.attest (s : State) : State :=
  let r := wordsN 32 s.report
  (s.setWin SECURITY.ATT_W r).keSign (hashBytes r)

/-- A key-engine operation performs its work: its result and the state. -/
def State.keRun (s : State) (op : Nat) : Nat × State :=
  if s.rngFailed then (6, s)
  else if op = 1 then (1, s.genEph)
  else match s.keyRamBad with
    | some i => (6, (s.eccUE 35 i reqDATAPATH).keyRamClear)
    | none =>
      if op = 3 then (1, s.attest)
      else
        let r := s.deriveCheck
        (r, if r = 1 then s.derive else s)

def State.keDone (s : State) : State :=
  match s.sec.keJob with
  | none => s
  | some op =>
    let r := (s.setSec (fun c => { c with keJob := none })).keRun op
    ((r.2.set SECURITY.KE_BUSY 0).set SECURITY.KE_RESULT r.1).raise 0x002 EV.SECURITY.KE_DONE

def execKeDone (s : State) : Out := .next s.keDone

/-- The new session key comes into force. -/
def State.keySwitch (s : State) : State :=
  match s.sec.keyAt, s.sec.newKey with
  | some t, some k =>
    if s.tb < t then s
    else
      let s := s.setSec (fun c => { c with key := k, newKey := none, keyAt := none })
      (s.setErl (fun e => { e with ctr := [] })).set64 SECURITY.KEY_TB_LO SECURITY.KEY_TB_HI t
  | _, _ => s

def execSessionKeySwitch (s : State) : Out := .next s.keySwitch

/-- ERL0.SECURED is written: 1 arms the switch of the key, and it stays 1 until a device reset. -/
def State.secure (s : State) (v : Nat) : State :=
  if v = 1 ∧ s.on ERL0.SECURED = false then (s.set ERL0.SECURED 1).keyArm else s

/-! ### Random numbers (R416) -/

/-- The word that a read of RNG_DATA returns to a class. -/
def State.rngWord (s : State) (c : Cls) : Nat × State :=
  if c = .mgmt ∧ bitOf (s.get SECURITY.RNG_STAT) 0 then s.rng else (0, s)

def State.rngRead (s : State) (c : Cls) : State :=
  if s.deaf then s
  else if s.right 0x002 c < 1 ∨ s.testPortAllows c false 0x002 0x064 0 = false then
    (s.refuse c (regAddr 0x002 0x064) stDENIED).reply c [0] stDENIED
  else let r := s.rngWord c; r.2.reply c [r.1] stOK

/-- A health test fails. -/
def State.rngFail (s : State) : State := (s.set SECURITY.RNG_STAT 2).raise 0x002 EV.SECURITY.RNG_FAIL

def execRngFail (s : State) : Out := .next s.rngFail

/-! ### Debug and the clearing (R426 to R428) -/

/-- CHAL issues a nonce. -/
def State.dbgChal (s : State) : State :=
  if s.rngFailed then s
  else
    let r := s.rngs 4
    (r.2.setWin SECURITY.DBG_NONCE r.1).setSec (fun c => { c with dbgLive := true })

/-- An unlock is refused. -/
def State.unlockFail (s : State) (r : Nat) : State :=
  ((s.set SECURITY.DBG_RESULT r).count SECURITY.UNLOCK_FAIL_CNT).raiseLog 2 0x002 EV.SECURITY.UNLOCK_FAIL

/-- UNLOCK: the clearing begins, in M7. -/
def State.dbgUnlock (s : State) : State :=
  if s.mode = 7 then s.setSec (fun c => { c with unlocking := true }) else s.unlockFail 8

/-- The clearing of R428. -/
def State.clearing (s : State) : State :=
  let s := (s.keyRamClear.eccAll 35 0xFF).otpForget
  let s := (s.poisonMem modelBase 0x20000).poisonMem captureBase captureSize
  let s := (s.poisonMem weightBase 0x300000).poisonMem cloveShared 0x1000000
  (List.range 8).foldl (fun s c =>
    ((s.poisonMem (cloveX c) 0x40000).poisonMem (cloveY c) 0x40000).poisonMem (programBase c) 0x40000) s

/-- The clearing completes; then the token is judged. -/
def State.clearDone (s : State) : State :=
  if s.sec.unlocking = false then s
  else
    let s := (s.setSec (fun c => { c with unlocking := false })).clearing.raise 0x002 EV.SECURITY.CLEAR_DONE
    if s.otp.scanPermit = false then s.unlockFail 7
    else
      let w := s.win SECURITY.TOKEN 42
      let r := s.tokenCheck w 2 (if s.sec.dbgLive then some (s.win SECURITY.DBG_NONCE 4) else none)
      let s := s.setSec (fun c => { c with dbgLive := false })
      if r ≠ 0 then s.unlockFail r
      else
        let s := (s.set SECURITY.DBG_EN 1).set SECURITY.DBG_RESULT 0
        let s := if bitOf (w.getD 1 0) 17 then s.set SECURITY.SCAN_EN 1 else s
        s.logEvent 3 0x002 EV.SECURITY.CLEAR_DONE

def execClearDone (s : State) : Out := .next s.clearDone

end Sys2Proof.Machine
end

