-- ==== Sys2Proof/Machine/Ecc.lean ====
section
/-! DEFINITION. The scrubber, the fuse map and the built-in self-test (19). -/

namespace Sys2Proof.Machine

def State.setBist (s : State) (f : BistSt → BistSt) : State := { s with bist := f s.bist }

/-! ### The scrubber (R441 to R443) -/

/-- Code words of a memory that the scrubber visits; 0 where it visits none (R431). -/
def scrubWords (m : Nat) : Nat :=
  if m = 0 then 65536 else if m = 1 then 8192 else if m = 2 then 16384 else if m = 3 then 2097152 else if m = 4 then 393216
  else if m = 5 ∨ m = 7 then 16384 else if 8 ≤ m ∧ m < 32 then 65536 else if m = 32 then 4194304 else if m = 35 then 64 else 0

/-- The scrubber runs on a memory now. -/
def State.scrubs (s : State) (m : Nat) : Bool :=
  let o := s.inSlot s.tb
  decide (scrubWords m ≠ 0) && decide (1 ≤ s.mode ∧ s.mode ≤ 7) && s.on ECC.SCRUB_EN && s.on (ECC.MEM_SCRUB_EN m)
    && !s.isolated m
    && (!s.on ECC.WIN_EN || (decide (16 * s.get ECC.WIN_START ≤ o) && decide (o < 16 * s.get ECC.WIN_END)))

/-- A lap of a memory ends. -/
def State.lapEnd (s : State) (m : Nat) : State :=
  let t := s.ao - (s.bist.lapAt.look m - 1)
  let s := s.set (ECC.LAP_TIME m) (min 0xFFFFFFFF (t * 10 / 98304))
  if s.get (ECC.LAP_LIMIT m) * 983040 < t then s.raise 0x118 EV.ECC.SCRUB_SLOW else s

/-- The scrubber visits the next code word of a memory. `upset` is the error that an upset has left in the word since it
was last written: 0 none, b + 1 in bit b, 255 uncorrectable. Of the ROM, errors are only counted. -/
def State.scrubVisit (s : State) (m upset : Nat) : State :=
  if s.scrubs m = false then s
  else
    let i := s.bist.scrubAt.look m
    let s := if i = 0 then s.setBist (fun b => { b with lapAt := b.lapAt.put m (s.ao + 1) }) else s
    let e := if upset = 0 then s.eccOf m i else if 73 ≤ upset then 0xFF else upset
    let s :=
      if e = 0 then s
      else if m = 2 then s.count (if e = 0xFF then ECC.UE_CNT 2 else ECC.CE_CNT 2)
      else if e = 0xFF then (s.setEcc m i 0xFF).eccUE m i reqSCRUB
      else (s.setEcc m i 0).eccCE m i (e - 1) reqSCRUB
    let last := decide (scrubWords m ≤ i + 1)
    let s := s.setBist (fun b => { b with scrubAt := b.scrubAt.put m (if last then 0 else i + 1) })
    if last then s.lapEnd m else s

def execScrubVisit (m upset : Nat) (s : State) : Out := .next (s.scrubVisit m upset)

/-! ### The fuse map (R445 to R447) -/

def fuseKind (e : Nat) : Nat := bits e 30 2
def fuseMacro (e : Nat) : Nat := bits e 18 12
def fuseSpare (e : Nat) : Nat := bits e 16 2

/-- Every entry, factory entries first. -/
def State.fuses (s : State) : List Nat := s.otp.fact ++ s.otp.field

/-- Entries in force: an entry that a later one for the same macro and target overrides is not. -/
def liveFuses : List Nat → List Nat
  | [] => []
  | e :: t =>
    if (fuseKind e = 1 ∨ fuseKind e = 2) ∧ !t.any (fun x => fuseKind x == fuseKind e && x % 2 ^ 16 == e % 2 ^ 16
      && fuseMacro x == fuseMacro e) then e :: liveFuses t else liveFuses t

/-- The map is applied on entry into M1: the spares in use are those that it names. -/
def State.applyFuses (s : State) : State :=
  let s := s.forget (fun pg off => pg == 0x11A && 0x200 ≤ off)
  let s := (liveFuses s.fuses).foldl (fun s e =>
    let l := if fuseKind e = 1 then FUSEMAP.ROWS (fuseMacro e) else FUSEMAP.COLS (fuseMacro e)
    s.set l (setBit (s.get l) (fuseSpare e))) s
  s.set FUSEMAP.PENDING 0

/-- The spare that an entry names is taken: by an assignment in force, by an entry of its kind, or by a cancelled one. -/
def State.spareUsed (s : State) (kind macro_ k : Nat) : Bool :=
  bitOf (s.get (if kind = 1 then FUSEMAP.ROWS macro_ else FUSEMAP.COLS macro_)) k ||
    s.fuses.any (fun e => (fuseKind e == kind || fuseKind e == 3) && fuseMacro e == macro_ && fuseSpare e == k)

/-- An entry that names no spare. -/
def fuseMalformed (e : Nat) : Bool :=
  !(fuseKind e == 1 || fuseKind e == 2) || decide (0x181 < fuseMacro e) || (fuseKind e == 2 && decide (1 < fuseSpare e))

/-- GO, ignored while programming is in progress. -/
def State.fuseGo (s : State) (op arg : Nat) : State :=
  let s := (s.set FUSEMAP.OP op).set FUSEMAP.ARG arg
  if s.on FUSEMAP.BUSY ∨ op % 4 = 0 ∨ op % 4 = 3 then s
  else (s.setBist (fun b => { b with fuse := some (op % 4, arg % 32, s.get FUSEMAP.PROG_ENTRY) })).set FUSEMAP.BUSY 1

/-- A field slot takes an entry. -/
def State.setFuse (s : State) (k e : Nat) : State :=
  let s := (s.setOtp (fun o => { o with field := o.field.set k e })).set (FUSEMAP.FIELD k) e
  (s.set FUSEMAP.FIELD_USED (s.otp.field.filter (fun x => x != 0)).length).set FUSEMAP.PENDING 1

/-- The result of an operation; `bad` is a read-back that differs. -/
def State.fuseResult (s : State) (op arg e : Nat) (bad : Bool) : Nat :=
  let fin := if s.writeOk = false then 3 else if bad then 4 else 1
  if op = 1 then
    if !s.otp.field.contains 0 then 2
    else if fuseMalformed e ∨ s.spareUsed (fuseKind e) (fuseMacro e) (fuseSpare e) then 5 else fin
  else
    let x := s.otp.field.getD arg 0
    if fuseKind x = 0 ∨ fuseKind x = 3 then 6 else fin

/-- A macro has no free spare of the kind left. -/
def State.fusesOut (s : State) (kind macro_ : Nat) : Bool :=
  (List.range (if kind = 1 then 4 else 2)).all (fun k => s.spareUsed kind macro_ k)

def State.fuseDone (s : State) (bad : Bool) : State :=
  match s.bist.fuse with
  | none => s
  | some (op, arg, e) =>
    let r := s.fuseResult op arg e bad
    let s := ((s.setBist (fun b => { b with fuse := none })).set FUSEMAP.BUSY 0).set FUSEMAP.RESULT r
    if r = 4 then s.raiseLog 2 0x11A EV.FUSEMAP.PROG_FAIL
    else if r ≠ 1 then s.raise 0x11A EV.FUSEMAP.PROG_FAIL
    else
      let s := if op = 1 then s.setFuse ((s.otp.field.findIdx? (fun x => x == 0)).getD 0) e
        else s.setFuse arg (s.otp.field.getD arg 0 ||| 3 * 2 ^ 30)
      let s := s.raise 0x11A EV.FUSEMAP.PROG_DONE
      if op = 1 ∧ s.fusesOut (fuseKind e) (fuseMacro e) then s.raise 0x11A EV.FUSEMAP.SPARES_OUT else s

def execFuseDone (bad : Bool) (s : State) : Out := .next (s.fuseDone bad)

/-! ### Self-test (R449 to R452) -/

/-- The block that uses a memory is in use: blocks with an enable by ACT, Clove cores by STATE. -/
def State.memInUse (s : State) (m : Nat) : Bool :=
  if m = 3 then (List.range 8).any (fun k => s.act (0x0E8 + k))
  else if m = 4 then s.act 0x0A0 || s.act 0x0A1
  else if m = 5 then s.act 0x0A4
  else if m = 6 then s.act 0x0B1
  else if 8 ≤ m ∧ m < 32 then s.coreState (m % 8) != 0
  else if m = 32 then (List.range 8).any (fun c => s.coreState c != 0)
  else false

/-- The memories that a target names. -/
def State.bistMems (s : State) (t : Nat) : List Nat :=
  if t < 36 then [t] else if t = 0xFF then (List.range 36).filter (fun m => !s.memInUse m) else []

/-- A memory's place in the address space, where it has one. -/
def memSpan (m : Nat) : Option (Nat × Nat) :=
  if m = 0 then some (sramBase, 0x80000) else if m = 3 then some (captureBase, captureSize)
  else if m = 4 then some (weightBase, 0x300000) else if m = 5 then some (modelBase, 0x20000)
  else if 8 ≤ m ∧ m < 16 then some (programBase (m - 8), 0x40000)
  else if 16 ≤ m ∧ m < 24 then some (cloveX (m - 16), 0x40000)
  else if 24 ≤ m ∧ m < 32 then some (cloveY (m - 24), 0x40000)
  else if m = 32 then some (cloveShared, 0x1000000) else none

/-- A memory of R428 is cleared before its test. -/
def State.bistPoison (s : State) (m : Nat) : State :=
  if m = 35 then s.keyRamClear.eccAll 35 0xFF
  else if 3 ≤ m ∧ m ≤ 5 ∨ 8 ≤ m ∧ m ≤ 32 then
    match memSpan m with
    | some (a, n) => s.poisonMem a n
    | none => s
  else s

/-- A memory after its test: zero data with valid check bits, identity models in the model memory. -/
def State.bistRestore (s : State) (m : Nat) : State :=
  let s := match memSpan m with
    | some (a, n) => s.clearMem a n
    | none => s.eccAll m 0
  if m = 1 then s.setLog (fun l => { l with recs := [], unflushed := 0 })
  else if m = 4 then { s with wts := { s.wts with damaged := [], rewritten := [] } }
  else if m = 5 then s.modelIdentity
  else if m = 6 then s.setErl (fun e => { e with held := [] })
  else if m = 7 then (List.range 8).foldl (fun s g => (s.setOct g (fun o => { o with queue := [] })).queueNote g) s
  else if m = 33 then s.setMgmt (fun x => { x with dcache := [] })
  else if m = 34 then s.setMgmt (fun x => { x with icache := [] })
  else if m = 35 then s.keyRamClear
  else s

/-- The monitor taps run their own self-test, or end it: results are held meanwhile (R136). No target is named for it, so
it is part of the loop-back test of the receive paths that they measure (DESIGN CHOICE, log entry 59). -/
def State.tapsTest (s : State) (b : Bool) : State :=
  (List.range 8).foldl (fun s t =>
    let s := s.setTap t (fun x => { x with test := b })
    if b then s.tapHold t else s.tapRelease t) s

/-- GO: refused outside M7 (4), while a test runs and on a memory in use (5). A target that names no test does nothing. -/
def State.bistGo (s : State) (t : Nat) : State :=
  let t := t % 256
  let s := s.set BIST.TARGET t
  if s.mode ≠ 7 then s.set BIST.RESULT 4
  else if s.on BIST.BUSY then s.set BIST.RESULT 5
  else if t < 36 ∧ s.memInUse t then s.set BIST.RESULT 5
  else if 36 ≤ t ∧ t < 0x40 ∨ 0x45 ≤ t ∧ t ≠ 0xFF then s
  else
    let ms := s.bistMems t
    let s := ms.foldl (fun s m => s.bistPoison m) s
    let s := s.setBist (fun b => { b with mems := ms, run := some t, abort := false })
    let s := if t = 0x42 then s.tapsTest true else s
    (s.set BIST.BUSY 1).count BIST.RUN_CNT

def State.bistAbort (s : State) : State :=
  if s.bist.run.isSome then s.setBist (fun b => { b with abort := true }) else s

/-- RES_CNT, RES_W0 and RES_W1 follow the FIFO. -/
def State.bistShow (s : State) : State :=
  let h := s.bist.fifo.headD (0, 0)
  ((s.set BIST.RES_CNT s.bist.fifo.length).set BIST.RES_W0 h.1).set BIST.RES_W1 h.2

/-- Result entries enter the FIFO of 16. -/
def State.bistPush (s : State) (l : List (Nat × Nat)) : State :=
  let room := 16 - s.bist.fifo.length
  let s := (s.setBist (fun b => { b with fifo := b.fifo ++ l.take room })).count BIST.FAIL_CNT l.length
  (if room < l.length then s.set BIST.OVF 1 else s).bistShow

/-- What a test found: for memories the result entries (RES_W0 and RES_W1 of each failing code word); the paths that
failed, transmit, receive and calibration; and the deviation of tests 0x40 and 0x41 in 0.001 %. -/
structure BistFind where
  fails : List (Nat × Nat)
  tx : Nat
  rx : Nat
  cal : Nat
  dev : Int

/-- Bits are added to a pair of registers. -/
def State.orPair (s : State) (lo hi : Loc) (m : Nat) : State :=
  (s.set lo (s.get lo ||| m % 2 ^ 32)).set hi (s.get hi ||| m / 2 ^ 32 % 2 ^ 32)

/-- Paths that fail the loop-back become candidates for retirement in both directions (R473). -/
def State.loopFails (s : State) (m : Nat) : State :=
  allPaths.foldl (fun s n => if bitOf m n then (s.retireCand 0 n causeBist).retireCand 1 n causeBist else s) s

/-- The result of a test, and its registers. -/
def State.bistJudge (s : State) (t : Nat) (f : BistFind) : Nat × State :=
  if t = 0x40 then (if f.dev.natAbs ≤ 500 then 1 else 3, s.seti BIST.RREF_DEV f.dev)
  else if t = 0x41 then (if f.dev.natAbs ≤ 100 then 1 else 3, s.seti BIST.HK_DEV f.dev)
  else if t = 0x42 ∨ t = 0x43 ∨ t = 0x44 then
    let tx := if t = 0x43 then 0 else f.tx % 2 ^ 64
    let rx := if t = 0x44 then 0 else f.rx % 2 ^ 64
    let cal := if t = 0x42 then f.cal % 4 else if t = 0x43 then f.cal % 4 / 2 * 2 else f.cal % 2
    let s := (s.orPair BIST.PATH_FAIL_TX_LO BIST.PATH_FAIL_TX_HI tx).orPair BIST.PATH_FAIL_RX_LO BIST.PATH_FAIL_RX_HI rx
    let s := if t = 0x42 then s.loopFails (tx ||| rx) else s
    (if tx = 0 ∧ rx = 0 ∧ cal = 0 then 1 else 3, s.set BIST.CAL_FAIL (s.get BIST.CAL_FAIL ||| cal))
  else (if f.fails = [] then 1 else if f.fails.all (fun e => bitOf e.2 8) then 2 else 3, s.bistPush f.fails)

/-- A test ends: RESULT, its events, and the tested memories as entry into M1 writes them. -/
def State.bistDone (s : State) (f : BistFind) : State :=
  match s.bist.run with
  | none => s
  | some t =>
    let ms := s.bist.mems
    let r := if s.bist.abort then (6, s) else s.bistJudge t f
    let s := r.2.setBist (fun b => { b with
      run := none
      mems := []
      abort := false
      scrubAt := b.scrubAt.filter (fun e => !ms.contains e.1)
      lapAt := b.lapAt.filter (fun e => !ms.contains e.1) })
    let s := ms.foldl (fun s m => s.bistRestore m) s
    let s := if t = 0x42 then s.tapsTest false else s
    let s := ((s.set BIST.BUSY 0).set BIST.RESULT r.1).raise 0x119 EV.BIST.BIST_DONE
    if r.1 = 2 ∨ r.1 = 3 then s.raise 0x119 EV.BIST.BIST_FAIL else s

def execBistDone (fails : List (Nat × Nat)) (tx rx cal : Nat) (dev : Int) (s : State) : Out :=
  .next (s.bistDone ⟨fails, tx, rx, cal, dev⟩)

def State.bistPop (s : State) : State := (s.setBist (fun b => { b with fifo := b.fifo.tail })).bistShow

end Sys2Proof.Machine
end

