-- ==== Sys2Proof/Machine/KernelLoad.lean ====
section
/-! DEFINITION. The end of a kernel load (R378 to R380). -/

namespace Sys2Proof.Machine

/-- Whole code words of 32 bits are written from `i` on in memory `m`: poisoned ones heal (R436). -/
def State.healSpan (s : State) (m i n : Nat) : State :=
  let here := fun (e : Nat × Nat) => e.1 / 2 ^ 22 == m && decide (i ≤ e.1 % 2 ^ 22 ∧ e.1 % 2 ^ 22 < i + n)
  let b := s.eccBase.look m
  let listed := s.ecc.filter here
  let ill := (listed.filter (fun e => e.2 ^^^ b == 0xFF)).length + (if b = 0xFF then n - listed.length else 0)
  let s : State := { s with ecc := s.ecc.filter (fun e => !here e) }
  let s := if b = 0 then s else (List.range n).foldl (fun s j => s.setEcc m (i + j) 0) s
  if ill = 0 then s else (s.count (ECC.HEAL_CNT m) ill).raise 0x118 EV.ECC.HEAL

/-- A span of a Clove memory takes words of 24 bits, and zero beyond them. -/
def State.loadSpan (s : State) (m lo i n : Nat) (ws : List Nat) : State :=
  let s := s.healSpan m i n
  let s : State := { s with mem := Memory.clear s.mem (lo + 4 * i) (4 * n) }
  s.setWords (lo + 4 * i) (ws.map (fun w => w % 2 ^ 24))

/-- A kernel image is read as class MGMT from SRAM, the flash window or the shared-memory window. -/
def State.kernelRead (s : State) (a n : Nat) : Option (List Nat) × State :=
  let ok := fun (x : Nat) => inSram x || inFlash x || decide (cloveShared ≤ x ∧ x < 0x3A000000)
  if n = 0 then (some [], s)
  else if ok a && ok (a + 4 * (n - 1)) then
    let r := s.busReadAll .mgmt a n
    (if r.1 = stOK then some r.2.2.1 else none, r.2.2.2)
  else (none, s)

/-- A load fails. -/
def State.loadFail (s : State) (c r : Nat) : State :=
  ((s.set (CLOVE.LOAD_RESULT c) r).count (CLOVE.LOAD_FAIL_CNT c)).raise (0x100 + c) EV.CLOVE.LOAD_FAIL

/-- The result of the checks of R379 and R380 on a whole image, and 1 where all pass. -/
def State.kernelCheck (s : State) (c : Nat) (h body : List Nat) : Nat :=
  let g := fun i => h.getD i 0
  let key := (h.drop 16).take 16
  let kver := bits (g 1) 16 16
  if Config.ecdsaOk key (hashBytes (h.take 32 ++ body)) ((h.drop 32).take 16) = false then 3
  else if s.keyOk (g 1 % 4) key = false then 4
  else if kver < s.get (CLOVE.KVER_MIN c) then 5
  else if (s.core c).loadHit then
    (if g 2 ≤ 16384 ∧ g 3 = 0 ∧ g 4 = 0 ∧ s.on (CLOVE.BIG c) = false then 1 else 6)
  else if s.coreState c = 0 then 1 else 6

/-- The image enters the memories. -/
def State.kernelInstall (s : State) (c : Nat) (h body : List Nat) : State :=
  let g := fun i => h.getD i 0
  let kver := bits (g 1) 16 16
  let slot := g 1 % 4
  let prog := body.take (2 * g 2)
  let s := s.set (CLOVE.LOAD_RESULT c) 1
  let s :=
    if (s.core c).loadHit then
      let half := 1 - s.get (CLOVE.PROG_HALF c)
      let s := s.loadSpan (8 + c) (programBase c) (32768 * half) 32768 prog
      (s.set (CLOVE.SWAP_READY c) 1).setCore c (fun k => { k with
        nEntry := g 5 % 2 ^ 15, nIvec := g 6 % 2 ^ 15, nVer := kver, nSlot := slot })
    else
      let s := s.loadSpan (8 + c) (programBase c) 0 65536 prog
      let s := s.loadSpan (16 + c) (cloveX c) 0 65536 ((body.drop (2 * g 2)).take (g 3))
      let s := s.loadSpan (24 + c) (cloveY c) 0 65536 ((body.drop (2 * g 2 + g 3)).take (g 4))
      let s := (s.set (CLOVE.PROG_HALF c) 0).set (CLOVE.BIG c) (if 16384 < g 2 then 1 else 0)
      let s := ((s.set (CLOVE.KVER_ACT c) kver).set (CLOVE.KEY_SLOT_ACT c) slot).set (CLOVE.SWAP_READY c) 0
      s.setCore c (fun k => { k with entry := g 5 % 2 ^ 15, ivec := g 6 % 2 ^ 15 })
  s.raise (0x100 + c) EV.CLOVE.LOADED

/-- The load in progress ends. -/
def State.loadDone (s : State) (c : Nat) : State :=
  if s.on (CLOVE.LOAD_BUSY c) = false then s
  else
    let a := s.get (CLOVE.LOAD_ADDR c) / 4 * 4
    let s := s.set (CLOVE.LOAD_BUSY c) 0
    match s.kernelRead a 48 with
    | (none, s) => s.loadFail c 7
    | (some h, s) =>
      let g := fun i => h.getD i 0
      if g 0 ≠ 0x4B564C43 ∨ g 2 = 0 ∨ 32768 < g 2 ∨ 65536 < g 3 ∨ 65536 < g 4 then s.loadFail c 2
      else
        match s.kernelRead (a + 192) (2 * g 2 + g 3 + g 4) with
        | (none, s) => s.loadFail c 7
        | (some body, s) =>
          let r := s.kernelCheck c h body
          if r = 1 then s.kernelInstall c h body else s.loadFail c r

def execLoadDone (c : Nat) (s : State) : Out := .next (s.loadDone (c % 8))

end Sys2Proof.Machine
end

