-- ==== Sys2Proof/Machine/Blocks.lean ====
section
/-! DEFINITION. Enable and shut-down sequences and soft reset (R34 to R38), with what the blocks' chapters say of theirs:
paths (R116 to R118, R152 to R155), loops (R71, R80, R421), lanes (R260), Anise (R318), and what EN = 0 ends. -/

namespace Sys2Proof.Machine

/-! ### Kinds of pages -/

def isRxPage (pg : Nat) : Bool := decide (0x010 ≤ pg ∧ pg < 0x050)
def isTxPage (pg : Nat) : Bool := decide (0x050 ≤ pg ∧ pg < 0x090)
def isLoopPage (pg : Nat) : Bool := decide (0x004 ≤ pg ∧ pg < 0x008)
def isCkPage (pg : Nat) : Bool := decide (0x0B4 ≤ pg ∧ pg < 0x0B8)
def isLanePage (pg : Nat) : Bool := decide (0x0B8 ≤ pg ∧ pg < 0x0D8)
def isClovePage (pg : Nat) : Bool := decide (0x100 ≤ pg ∧ pg < 0x108)

/-- The page lies in the always-on domain (R10, R42). -/
def alwaysOn (pg : Nat) : Bool := decide (pg < 0x004) || decide (0x110 ≤ pg)

/-- The path of a path page. -/
def pathOf (pg : Nat) : Nat := (pg - 0x010) % 64

/-- The page's block draws on VANA or VRF, other than the lane PLL, which M2 runs for its link. -/
def onRadioRails (pg : Nat) : Bool :=
  (isLoopPage pg && pg != 0x007) || isRxPage pg || isTxPage pg || pg == 0x0AC || decide (0x0E4 ≤ pg ∧ pg < 0x0E8)

/-- The rails that a block's first enable needs (R118, R155): blocks of the radio domains do not start isolated, and in M2
none starts that would draw on VANA or VRF (R15). -/
def State.railsOk (s : State) (pg : Nat) : Bool :=
  alwaysOn pg || (!s.pwr.isolated && (s.mode != 2 || !onRadioRails pg) &&
    (if isRxPage pg then s.pwr.vana && s.pwr.vcnv
     else if isTxPage pg then s.pwr.vcnv && s.pwr.vrf
     else if pg = 0x0AC then s.pwr.vana && s.pwr.vcnv && s.pwr.vrf
     else if isCkPage pg || isLanePage pg then s.pwr.vcnv
     else true))

/-! ### Beginnings -/

/-- An LO whose frequency the record does not permit does not start (R421). -/
def State.loBarred (s : State) (pg : Nat) : Bool :=
  (pg == 0x005 || pg == 0x006) &&
    !s.loPermitted (loKHz s.fpfd (s.get (LO.NINT (pg - 5))) (s.get (LO.FRAC (pg - 5))) (s.get (LO.OUTDIV (pg - 5))))

/-- The enable sequence starts. -/
def State.enableBegin (s : State) (pg : Nat) : State :=
  if pg = 0x0E4 then s.aniseGate
  else if s.railsOk pg = false then s
  else if s.loBarred pg then s.limitLo
  else
    let s := s.startSeq pg 1
    if isLoopPage pg then s.loopStart (pg - 0x004) else s

/-- What EN = 0, SRST or a lapse of a condition ends at once. -/
def State.shutEnds (s : State) (pg : Nat) : State :=
  if isLoopPage pg then
    let k := pg - 0x004
    let s := if k = 0 then s.noteModulators else s
    let s := ((s.loopStop k).loopSuppress k).calVoid k
    if k = 3 then s.lanesLoss (List.range 16) else s
  else if isTxPage pg then s.set (TXPATH.FIRST_SAMPLE (pathOf pg)) 0
  else if isRxPage pg then s.ovlDrop (pathOf pg)
  else if isCkPage pg then if pg < 0x0B6 then s.lanesLoss (groupLanes (pg - 0x0B4)) else s
  else if 0x0B8 ≤ pg ∧ pg < 0x0C8 then (s.laneLoss (pg - 0x0B8)).checkerOff (pg - 0x0B8)
  else if 0x0E8 ≤ pg ∧ pg < 0x0F0 then s.capDisarm (pg - 0x0E8)
  else if 0x0F1 ≤ pg ∧ pg < 0x0F9 then s.dmaAbort (pg - 0x0F1)
  else if isClovePage pg then s.coreOff (pg - 0x100)
  else if pg = 0x0A4 then allPaths.foldl (fun s p => s.dpdLeave p) s
  else if pg = 0x0E0 then { s with snd := { s.snd with burst := none } }.set SOUND0.RX_STATE 0
  else if pg = 0x009 then { s with clk := { s.clk with tsynco := none } }
  else if pg = 0x112 then s.updAbort
  else if pg = auxPage then (List.range 16).foldl (fun s k => s.biasSafe k) s
  else s

/-- The always-on tick of the next step of a chain's enable sequence; the sequence waits at its third for the CPLL. -/
def State.nextStep (s : State) (pg : Nat) : Nat :=
  let t0 := s.seqAt.look pg - 1
  if s.ao < t0 + 1024 then t0 + 1024 else if s.ao < t0 + 2048 then t0 + 2048
  else if s.modStart pg = 0 then s.ao else max s.ao (s.modStart pg + 2047)

/-- The shut-down sequence starts; where it stops an enable sequence of steps, at the next step (R36). -/
def State.shutBegin (s : State) (pg : Nat) : State :=
  let stop := if s.seqOf pg = 1 ∧ chainPages.contains pg then s.nextStep pg else s.ao
  let s := s.startSeq pg 2
  (if stop = s.ao then s else { s with seqAt := s.seqAt.put pg (stop + 1) }).shutEnds pg

/-- A write of PAGE_CTRL.EN takes effect (R34 to R36, R318): only its value at the end of a sequence in progress counts,
but for EN = 0 during an enable. -/
def State.enableWritten (s : State) (pg v : Nat) : State :=
  let s := s.set (HDR.EN pg) v
  if pg = 0x0E4 ∧ v = 1 then s.aniseGate
  else
    let s := if pg = 0x0E4 then s.set BCAST0.NOT_PERMITTED 0 else s
    if v = 1 then (if s.seqOf pg = 0 ∧ s.act pg = false then s.enableBegin pg else s)
    else if s.seqOf pg = 1 ∨ s.seqOf pg = 0 ∧ s.act pg then s.shutBegin pg
    else s

/-! ### Ends -/

/-- The clock lane of a lane's group is on (R260). -/
def State.laneClocked (s : State) (pg : Nat) : Bool :=
  let n := (pg - 0x0B8) % 16
  s.act ((if pg < 0x0C8 then 0x0B4 else 0x0B6) + n / 8)

/-- The sequence of a page may end now. Where the chapters give no length, it ends when it does. -/
def State.seqMayEnd (s : State) (pg : Nat) : Bool :=
  if s.seqOf pg = 1 then
    if isRxPage pg || isTxPage pg || pg == 0x0AC then s.modStart pg != 0 && decide (s.modStart pg + 2048 ≤ s.ao + 1)
    else if isLanePage pg then s.on LPLL.READY && s.laneClocked pg && decide (1024 ≤ s.seqAge pg)
    else if isCkPage pg then
      s.on LPLL.READY && decide (1024 ≤ s.seqAge pg) && decide (s.clk.readyAt.getD 3 0 + 1024 ≤ s.ao)
        && (decide (0x0B6 ≤ pg) || s.on (CK.CLK_PRESENT (pg - 0x0B4)))
    else if isLoopPage pg then s.loop (pg - 0x004) == .ready || s.loop (pg - 0x004) == .failed
    else if pg = 0x0E4 then s.on CPLL.REF_OK
    else true
  else if s.seqOf pg = 2 then
    if isRxPage pg || isTxPage pg || pg == 0x0AC then decide (512 ≤ s.seqAge pg) else true
  else false

/-- A path becomes operational (R211): in M5 it waits for the boundary, else it takes the state of the mode. Its driver is
enabled on the zero samples of a turn-round (R152). -/
def State.pathJoins (s : State) (pg : Nat) (was : Bool) : State :=
  let n := pathOf pg
  let s := if isTxPage pg then s.setPath n (fun p => { p with drv := false }) else s
  if was ∨ s.mode = 5 then s else s.goPath n s.tb (modeState s.mode)

/-- The block is operational. -/
def State.enableEnd (s : State) (pg : Nat) : State :=
  let was := s.operational (pathOf pg)
  let s := ({ s with seqs := s.seqs.put pg 0 }.set (HDR.TRANS pg) 0).set (HDR.ACT pg) 1
  let s := s.raise pg evACT_CHANGE
  if isRxPage pg || isTxPage pg then s.pathJoins pg was
  else if pg = 0x0E4 then s.aniseOn
  else if pg = auxPage then (List.range 16).foldl (fun s k => s.biasAim k) s
  else s

/-- The fields that SRST keeps beside the header below 0x02C: calibration and alignment results (R117, R154, R260), the
counters that only loss of VAUX clears, what is measured or wired (REFCLK, the clock lanes, TXKILL_N), and FORCE_SAFE, which
only MGMT may release (R170; log entry 14). -/
def srstKept (pg : Nat) : List Loc :=
  let n := pathOf pg
  if pg = 0x004 then [CPLL.REF_OK, CPLL.REF_RATE]
  else if isRxPage pg then
    [RXPATH.COMP_MAP_I n, RXPATH.COMP_MAP_Q n, RXPATH.SPARES_I n, RXPATH.SPARES_Q n, RXPATH.BBF_TRIM n, RXPATH.COMP_SWAP_CNT n]
  else if isTxPage pg then
    [TXPATH.CELL_MAP_I n, TXPATH.CELL_MAP_Q n, TXPATH.CELL_SPARES_I n, TXPATH.CELL_SPARES_Q n, TXPATH.TXF_TRIM n,
     TXPATH.CELL_SWAP_CNT n, TXPATH.CAUSE_KILL n, TXPATH.CAUSE_CMPL n, TXPATH.KILL_PIN n]
  else if pg = 0x0AC then [CAL0.CAUSE_KILL, CAL0.CAUSE_CMPL, CAL0.KILL_PIN]
  else if pg = 0x0B4 ∨ pg = 0x0B5 then [CK.CLK_PRESENT (pg - 0x0B4)]
  else if pg = auxPage then
    (List.range 16).flatMap (fun k => [AUXDAC.FORCE_SAFE k, AUXDAC.SAFE_CODE k, AUXDAC.SAFE_RANGE k, AUXDAC.MAX_CODE k])
  else if 0x0B8 ≤ pg ∧ pg < 0x0C8 then
    let m := pg - 0x0B8
    [DS.DESKEW m, DS.BIT_POS m, DS.CTLE_PEAK m, DS.EYE_MIN_SEEN m]
  else []

/-- What a soft reset ends of the state behind a page's registers. -/
def State.srstHidden (s : State) (pg : Nat) : State :=
  if isRxPage pg then s.setRx (pathOf pg) (fun r => { comp := r.comp })
  else if isTxPage pg then s.setTx (pathOf pg) (fun r => { cell := r.cell })
  else if 0x098 ≤ pg ∧ pg < 0x0A0 then s.setTap (pg - 0x098) (fun _ => { since := s.tb })
  else if pg = 0x0E2 then { s with snd := { s.snd with queue := [] } }
  else if 0x0E8 ≤ pg ∧ pg < 0x0F0 then s.setCap (pg - 0x0E8) (fun _ => {})
  else if 0x0C8 ≤ pg ∧ pg < 0x0D8 then s.setInj (pg - 0x0C8) 0
  else if pg = 0x0AC then s.setCal (fun c => { c with fg := [] })
  else if pg = 0x120 then { s with hk := { s.hk with queue := [], reqs := [] } }
  else s

/-- The stored number is that of an RL field. -/
def isLockable (k : Nat) : Bool := (wordLocs (keyPage k) (keyOff k)).any (fun l => l.key == k && l.acc == .rl)

/-- What SRST leaves in registers whose value it does not simply restore: a mute that TXKILL_N or the compliance detector
made, which only MGMT releases (R59, R160); the retirement, which ends (R163); GD_NOW, which follows the delay in force;
and the gate biases, which reset to BIAS_SAFE (R167). -/
def State.srstAfter (s : State) (pg : Nat) : State :=
  if isTxPage pg then
    let n := pathOf pg
    let s := if s.on (TXPATH.CAUSE_KILL n) || s.on (TXPATH.CAUSE_CMPL n) then s.set (TXPATH.TX_MUTE n) 1 else s
    s.gdNote n
  else if isRxPage pg then s.gdNote (pathOf pg)
  else if pg = 0x0AC then
    if s.on CAL0.CAUSE_KILL || s.on CAL0.CAUSE_CMPL then s.set CAL0.TX_MUTE 1 else s
  else if pg = auxPage then (List.range 16).foldl (fun s k => s.biasEntry k) s
  else s

/-- A soft reset restores the block-specific registers, the copies that classes hold of them included; ERR and the counters
are cleared (R37). Locked RL fields keep their values (R44). -/
def State.srstRegs (s : State) (pg : Nat) : State :=
  let kept := (srstKept pg).map Loc.key
  let locked := s.on (HDR.FIELD_LOCK pg)
  let s := if isTxPage pg ∧ s.on (TXPATH.RETIRE (pathOf pg)) then s.retireWritten (pathOf pg) 0 else s
  let s := s.srstHidden pg
  (((s.forgetKeys (fun k => keyPage k % 0x200 == pg && decide (0x02C ≤ keyOff k) && !kept.contains k
    && !(locked && isLockable k))).set (HDR.ERR pg) 0).set (HDR.STALE pg) 0).srstAfter pg

/-- The block is off. A soft reset that waited for this acts now; with EN = 1 the block starts again (R35, R37). -/
def State.shutEnd (s : State) (pg : Nat) : State :=
  let s := ({ s with seqs := s.seqs.put pg 0 }.set (HDR.TRANS pg) 0).set (HDR.ACT pg) 0
  let s := s.raise pg evACT_CHANGE
  let s : State := if isRxPage pg || isTxPage pg then s.dropIfOff (pathOf pg)
    else if pg = 0x0E4 then s.aniseOff
    else if pg = auxPage then (List.range 16).foldl (fun s k => s.biasSafe k) s
    else s
  let s : State := if s.srst.look pg = 0 then s else State.srstRegs { s with srst := s.srst.put pg 0 } pg
  if s.on (HDR.EN pg) then s.enableBegin pg else s

/-- A sequence of a page ends. -/
def State.sequenceEnd (s : State) (pg : Nat) : State :=
  if s.seqMayEnd pg = false then s
  else if s.seqOf pg = 1 then s.enableEnd pg else s.shutEnd pg

def execSequenceEnd (pg : Nat) (s : State) : Out := .next (s.sequenceEnd pg)

/-! ### Soft reset (R37, R38) -/

/-- A pending commit of the page is withdrawn; a swap that has been made stands. -/
def State.withdrawCommit (s : State) (pg : Nat) : State :=
  let s := { s with commits := s.commits.filter (fun c => decide (c.page ≠ pg)) }
  let s := { s with copying := s.copying.put pg 0 }.set (HDR.PENDING pg) 0
  if pg = 0x0A0 ∨ pg = 0x0A1 then s.setBeam (pg - 0x0A0) (fun b => { b with wait := false }) else s

/-- A write of SRST acts, with the EN in force. -/
def State.softReset (s : State) (pg : Nat) : State :=
  if noEnable pg then s
  else
    let s := s.withdrawCommit pg
    if s.seqOf pg = 0 ∧ s.act pg = false then
      let s := s.srstRegs pg
      if s.on (HDR.EN pg) then s.enableBegin pg else s
    else
      let s := { s with srst := s.srst.put pg 1 }
      if s.seqOf pg = 2 then s else s.shutBegin pg

/-! ### The rails (R118, R155, R489) -/

/-- A page whose enable sequence runs when its rail fails is off at once. -/
def State.dropPage (s : State) (pg : Nat) : State :=
  if s.act pg then
    let s : State := { s.failPage pg with seqs := s.seqs.put pg 0 }
    if isRxPage pg then s.ovlDrop (pathOf pg) else s
  else if s.seqOf pg = 0 then s
  else { s with seqs := s.seqs.put pg 0 }.set (HDR.TRANS pg) 0

/-- Loss of VANA (`vana`), VCNV (`vcnv`) or VRF: the paths that need the rail are off, with ERR; so are CALTX and CALRX,
which share a page (R165). -/
def State.railPages (s : State) (vana vcnv vrf : Bool) : State :=
  let s := if vana || vcnv || vrf then s.dropPage 0x0AC else s
  let s := if vana || vcnv then allPaths.foldl (fun s n => s.dropPage (rxPage n)) s else s
  let s := if vcnv || vrf then allPaths.foldl (fun s n => (s.dropPage (txPage n)).set (TXPATH.FIRST_SAMPLE n) 0) s else s
  allPaths.foldl (fun s n => s.dropIfOff n) s

end Sys2Proof.Machine
end

