-- ==== Sys2Proof/Machine/Modes.lean ====
section
/-! DEFINITION. Modes and their requests (R16 to R20), resets (R42), starts and failed starts (R23 to R25, R391 to R395),
management restarts (R26, R27, R397), M2 (R398) and availability (R28). -/

namespace Sys2Proof.Machine

def State.setModes (s : State) (f : ModeSt → ModeSt) : State := { s with modes := f s.modes }
def State.setPwr (s : State) (f : PowerSt → PowerSt) : State := { s with pwr := f s.pwr }

/-! ### Availability (R28) -/

/-- An interval of unavailability begins. -/
def State.outOpen (s : State) : State :=
  match s.modes.outAt with
  | some _ => s
  | none => (s.setModes (fun m => { m with outAt := some s.ao })).count DEVICE.OUTAGE_COUNT

/-- It ends. -/
def State.outClose (s : State) : State :=
  match s.modes.outAt with
  | some t => s.setModes (fun m => { m with outAt := none, outTicks := m.outTicks + (s.ao - t) })
  | none => s

/-- UNAVAIL_TIME, in ms. -/
def State.unavailMs (s : State) : Nat :=
  (s.modes.outTicks + (match s.modes.outAt with | some t => s.ao - t | none => 0)) / 983040

/-- SVC_LEVEL. -/
def State.svcLevel (s : State) : Nat :=
  if s.mode ≠ 5 ∨ s.on ERL0.LINK_UP = false ∨ s.modes.outAt.isSome then 2
  else if s.get DEVICE.RETIRED_RX_LO = 0 ∧ s.get DEVICE.RETIRED_RX_HI = 0 ∧ s.get DEVICE.RETIRED_TX_LO = 0
      ∧ s.get DEVICE.RETIRED_TX_HI = 0 then 0 else 1

/-- STABLE_TIME, in seconds. -/
def State.stableTime (s : State) : Nat :=
  match s.modes.stableAt with
  | some t => min 600 ((s.ao - t) / 983040000)
  | none => 0

/-- CONT_LEFT, in ms. -/
def State.contLeft (s : State) : Nat :=
  if s.mgmtDown ∧ s.modes.expired = none then 5000 - (s.ao - s.modes.contAt) / 983040 else 0

/-! ### Resets (R42) -/

/-- Fields of the radio domains that only loss of VAUX clears, and what follows REFCLK. -/
def radioKept (k : Nat) : Bool :=
  let w := k % 32768
  (isRxPage (keyPage k) && w == (RXPATH.COMP_SWAP_CNT 0).key % 32768)
    || (isTxPage (keyPage k) && w == (TXPATH.CELL_SWAP_CNT 0).key % 32768)
    || (decide (0x0B8 ≤ keyPage k ∧ keyPage k < 0x0C8) && w == (DS.EYE_MIN_SEEN 0).key % 32768)
    || [CPLL.REF_OK.key, CPLL.REF_RATE.key, TIMEBASE.INC.key].contains k

/-- The radio domains lose their state. `keep`: ACCESS and CONTROLLER do not change until a device reset. -/
def State.radioReset (s : State) (keep : Bool) : State :=
  let s := s.forgetKeys (fun k => !alwaysOn (keyPage k % 0x200) && !radioKept k
    && !(keep && (keyOff k == 0x018 || keyOff k == 0x01C)))
  let radio := fun (e : Nat × Nat) => alwaysOn e.1
  let z := State.reset
  State.killStays { s with
    seqs := s.seqs.filter radio, seqAt := s.seqAt.filter radio, seqMod := [], srst := s.srst.filter radio
    copying := [], commits := [], latches := []
    windows := s.windows.filter (fun w => alwaysOn (w.loc.page % 0x200))
    triggers := s.triggers.filter (fun t => alwaysOn (t.loc.page % 0x200))
    words := s.words.filter (fun w => alwaysOn ((w.addr - regBase) / 0x1000))
    clk := { z.clk with lowPfd := s.clk.lowPfd }
    paths := z.paths, rxs := z.rxs, txs := z.txs, octs := z.octs
    tl := { z.tl with nextId := s.tl.nextId }
    cores := z.cores, evtQ := [], caps := z.caps, dmas := z.dmas
    tim := {}, cum := {}, ani := {}, beams := z.beams, wts := {}, taps := z.taps, dpd := z.dpd, cal := z.cal
    lanes := z.lanes, erl := {}, snd := z.snd, bc := {}, sems := 0 }

/-- Always-on fields that a device reset keeps: those that only loss of VAUX clears, what R490 keeps, and the straps
(R478 for the ageing fit). -/
def aonKept (k : Nat) : Bool :=
  let pg := keyPage k
  let off := keyOff k
  (pg == 0 && (decide (0x02C ≤ off ∧ off < 0x034)
      || [DEVICE.HALT.key, DEVICE.FAIL_COUNT.key].contains k))
    || (pg == 0x111 && (off == 0x02C || off == 0x040 || off == 0x044))
    || (pg == 0x118 && decide (0x100 ≤ off) && (off % 32 == 0 || off % 32 == 4))
    || ((pg == 0x120 || pg == 0x121) && off != 0x018 && off != 0x01C)
    || (pg == 0x122 && (decide (0x180 ≤ off ∧ off < 0x1B0) || (decide (0x040 ≤ off ∧ off < 0x088) && k % 32 == 16)))
    || k == MGMT.BOOTSEL.key || k == GPIO.INP.key

/-- The always-on pages and what stands behind them return to reset; Pepper is reset (R42, R490). A FORCE_SAFE that
TXKILL_N or the halt holds stays (R59). -/
def State.aonReset (s : State) : State :=
  let forced := (List.range 16).filter (fun k => s.biasForceHeld k == some 1)
  let s := s.forgetKeys (fun k => alwaysOn (keyPage k % 0x200) && !aonKept k)
  let s := forced.foldl (fun s k => s.set (AUXDAC.FORCE_SAFE k) 1) s
  let s := s.updDrop.keyRamClear
  let s := s.set DEVICE.MODE_REQ (if s.get MGMT.BOOTSEL < 2 then 1 else 0)
  let s := (List.range 16).foldl (fun s k => s.biasEntry k) s.otpShadows
  { s with
    seqs := [], seqAt := [], srst := [], windows := [], triggers := [], words := []
    mgmt := {}, mgmtDown := false, ret := {}, bist := {}, mon := {}, sec := {}
    age := { s.age with lowN := 0, limitAt := none, cmdAt := none, again := false }
    trans := none
    modes := { reason := s.modes.reason, outAt := s.modes.outAt, outTicks := s.modes.outTicks } }

/-- A device reset (R42): what is unflushed is flushed first (R405); the time base stops. -/
def State.resetAll (s : State) : State :=
  let s := (s.logFlush.radioReset false).aonReset
  { s with tb := 0, tbRun := false }.setPwr (fun p => { p with isolated := true })

/-! ### A change of mode -/

/-- The mode changes: MODE, PREV, TRANS, MODE_DONE and the MODE record. -/
def State.modeChange (s : State) (old new : Nat) : State :=
  let s : State := { (s.set DEVICE.PREV old).set DEVICE.MODE new with trans := none }
  let s := (s.set DEVICE.TRANS 0).raise 0x000 EV.DEVICE.MODE_DONE
  s.logHw 0x04 0 0x000 (old + new * 2 ^ 4) 0 0

/-- The device enters M1 by a reset: the start waits for the radio rails (R19). -/
def State.enterM1 (s : State) (reason : Nat) : State :=
  let old := s.mode
  let s := s.resetAll.modeChange old 1
  { s with trans := some ⟨1, 0, true⟩, hk := { s.hk with calNext := s.ao + 1 } }.setModes (fun m => { m with reason := reason }) |>.set DEVICE.TRANS 1 |>.set DEVICE.BOOT_REASON reason

/-- The rights of M2 (R398). -/
def m2Right (pg : Nat) (c : Cls) : Nat :=
  if pg = 0x112 then (if c = .bb ∨ c = .host then 2 else if c = .mon then 1 else 0)
  else if pg = 0x000 ∨ pg = 0x110 ∨ pg = 0x111 ∨ pg = 0x113 then
    (match c with | .bb | .host | .mon => 1 | _ => 0)
  else 0

/-- The link of M2: DS0, US0, DSCK0 and USCK0 at RATE 0. -/
def State.m2Link (s : State) : State :=
  if s.mode = 2 ∧ s.pwr.vcore ∧ s.pwr.vcnv ∧ s.on (HDR.EN 0x007) = false then
    let s := (s.set ERL0.LANES_DS 0).set ERL0.LANES_US 0
    [0x007, 0x0B4, 0x0B6, 0x0B8, 0x0C8, 0x0B1].foldl (fun s pg => s.enableWritten pg 1) s
  else s

/-- Without REFCLK the time base counts from the always-on oscillator (R63, R82). -/
def State.showRef (s : State) : State := s.set TIMEBASE.REF_HOLD (if s.on CPLL.REF_OK then 0 else 1)

/-- M2 runs while VCORE is good: the time base counts and the link is served. -/
def State.m2Power (s : State) : State :=
  if s.mode = 2 then
    let s := if s.pwr.vcore && !s.tbRun then s.showRef else s
    ({ s with tbRun := s.pwr.vcore }.setPwr (fun p => { p with isolated := !p.vcore })).m2Link
  else s

/-- The device enters M2; `code` is BOOT_REASON. -/
def State.enterM2 (s : State) (code : Nat) : State :=
  let old := s.mode
  let s := (s.resetAll.modeChange old 2).outOpen
  let s := s.set DEVICE.BOOT_REASON code
  let s := ((List.range 0x126).filter assigned).foldl (fun (s : State) pg =>
    let s := [Cls.bb, .host, .dsp, .mon, .test].foldl (fun (s : State) c => s.set (HDR.RIGHT pg c) (m2Right pg c)) s
    (s.set (HDR.CTRL pg) 3).set (HDR.ACC_LOCK pg) 1) s
  s.m2Power

/-- A failed start (R24). Under the thermal halt none is counted (R22). It is a device reset, which OUTAGE_COUNT and
LAST_FAIL do not outlast: they are written after it (R42). -/
def State.failedStart (s : State) (code : Nat) : State :=
  if s.on DEVICE.HALT then s
  else
    let s := s.set DEVICE.FAIL_COUNT (min 3 (s.get DEVICE.FAIL_COUNT + 1))
    let s := s.logHw 0x03 2 0x000 code (s.get DEVICE.FAIL_COUNT) 0
    let retry := decide (s.get DEVICE.FAIL_COUNT < 3)
    let s := if retry then s.enterM1 4 else s.enterM2 code
    let s := ((s.set DEVICE.LAST_FAIL code).outOpen).raise 0x000 EV.DEVICE.FAILED_START
    if retry then s else s.raise 0x000 EV.DEVICE.FALLBACK

/-- A reset that ends in M1, or, under the thermal halt, only resets (R22). -/
def State.deviceReset (s : State) (reason : Nat) : State :=
  if s.on DEVICE.HALT then s.resetAll else s.enterM1 reason

/-! ### The image (R391 to R393, R397) -/

/-- The failure code of R393 for a slot; 0 where the image passes. Bit k of `flashBad`: the flash reports a failed read of
slot k. -/
def State.slotCode (s : State) (flashBad k : Nat) : Nat :=
  if bitOf flashBad k then 0x26 else [0, 0, 0x21, 0x23, 0x22, 0x24, 0x25].getD (s.imageCheck k) 0x21

/-- The first candidate (R392). -/
def State.firstSlot (s : State) (fails : Nat) : Nat :=
  if s.dirTrial ∧ (fails = 1 ∨ fails = 2) then 1 - s.dirPref else s.dirPref

/-- The slot whose image runs, or the code of the first rejection. -/
def State.chooseSlot (s : State) (fails : Nat) : Nat ⊕ Nat :=
  let a := s.firstSlot fails
  let x := s.slotCode s.modes.flashBad a
  if x = 0 then .inl a
  else if s.slotCode s.modes.flashBad (1 - a) = 0 then .inl (1 - a)
  else .inr x

/-- The body goes to SRAM, and step 6 of R391: the image runs and the boot watchdog counts. -/
def State.runImage (s : State) (slot : Nat) : State :=
  let h := s.wordsAt (slotBase slot) 6
  let body := s.wordsAt (slotBase slot + 192) (h.getD 2 0 / 4)
  let s := s.writeWhole sramBase body
  let s := ((s.set MGMT.SLOT slot).set MGMT.RUNNING 1).set MGMT.IMG_VER_ACT (h.getD 1 0 / 2 ^ 16)
  let s := s.set MGMT.RB_ACT (h.getD 1 0 % 64)
  let s := (s.setMgmt (fun m => { m with keySlot := h.getD 5 0 % 4 })).setModes (fun m => { m with wdAt := some s.ao, step := 0 })
  s.logHw 0x02 0 0x000 (s.get DEVICE.BOOT_REASON + slot * 2 ^ 8) (h.getD 1 0 / 2 ^ 16) (h.getD 1 0 % 64)

/-! ### Starts (R391) -/

/-- The fuse-map words of a fault's targets: kind and target, columns before rows (R444). -/
def State.faultTargets (s : State) (f : CellFault) : List (Nat × Nat) :=
  let m := f.macro_
  let cols := ((List.range 2).filter (fun k => !s.spareUsed 2 m k)).length
  if f.col then [(2, f.bits.headD 0)]
  else if f.bits.length ≤ 2 ∧ cols = 2 then f.bits.map (fun b => (2, b))
  else [(1, f.row)]

/-- One target takes the lowest free spare of its kind, for this start and, if it can be programmed, in a field entry;
none where no spare is free. -/
def State.repairOne (s : State) (m : Nat) (t : Nat × Nat) : Option State :=
  match (List.range (if t.1 = 1 then 4 else 2)).find? (fun k => !s.spareUsed t.1 m k) with
  | none => none
  | some k =>
    let l := if t.1 = 1 then FUSEMAP.ROWS m else FUSEMAP.COLS m
    let s := (s.set l (setBit (s.get l) k)).set (FUSEMAP.VOLATILE m) 1
    let e := t.1 * 2 ^ 30 + m % 2 ^ 12 * 2 ^ 18 + k * 2 ^ 16 + t.2 % 2 ^ 16
    match s.otp.field.findIdx? (fun x => x == 0) with
    | some i =>
      if s.writeOk ∧ s.modes.find.fuseBad = false then
        let s := s.setFuse i e
        some (if s.fusesOut t.1 m then s.raise 0x11A EV.FUSEMAP.SPARES_OUT else s)
      else some (s.logEvent 1 0x11A EV.FUSEMAP.PROG_FAIL)
    | none => some (s.logEvent 1 0x11A EV.FUSEMAP.PROG_FAIL)

/-- The repairs of the self-test. -/
def State.repair (s : State) : List CellFault → Option State
  | [] => some s
  | f :: t =>
    match (s.faultTargets f).foldl (fun (a : Option State) x => a.bind (fun s => s.repairOne f.macro_ x)) (some s) with
    | some s => State.repair s t
    | none => none

/-- The memories that the start writes: capture, weight and Clove memories are zero, the models identity (R391 step 3),
and those that the self-test leaves zero with valid check bits (R448, R452). -/
def State.romMemories (s : State) : State :=
  let s := ((s.clearMem captureBase captureSize).clearMem weightBase 0x300000).cloveClear.modelIdentity
  let s : State := { s.clearMem sramBase 0x80000 with wts := {} }
  [1, 4, 6, 7, 33, 34].foldl (fun s m => s.eccAll m 0) s

/-- Steps 3 to 6 of R391, which take no time here. -/
def State.romRest (s : State) : State :=
  let s := s.otpShadows.applyFuses.romMemories
  let f := s.modes.find
  match s.repair f.faults with
  | none => s.failedStart 0x30
  | some s =>
    let s := s.seti BIST.RREF_DEV f.dev
    if f.romBad ∨ 500 < f.dev.natAbs then s.failedStart 0x30
    else
      let s := (s.orPair BIST.PATH_FAIL_TX_LO BIST.PATH_FAIL_TX_HI f.tx).orPair BIST.PATH_FAIL_RX_LO BIST.PATH_FAIL_RX_HI f.rx
      let s := (s.set BIST.CAL_FAIL (f.cal % 4)).loopFails (f.tx ||| f.rx)
      let s := if s.otp.provisioned then s.setSec (fun c => { c with idKey := some s.otp.idPriv }) else s
      match s.chooseSlot (s.get DEVICE.FAIL_COUNT) with
      | .inl slot => s.runImage slot
      | .inr code => s.failedStart code

/-- The start waits for the rails, and they have been good for 1 ms. -/
def State.startDue (s : State) : Bool :=
  (match s.trans with | some t => t.target == 1 | none => false) && s.pwr.vaux && !s.pwr.resetN && !s.on DEVICE.HALT
    && s.pwr.vcore && s.pwr.vcnv && s.pwr.vana && s.pwr.vrf && decide (s.pwr.goodAt + 983040 ≤ s.ao)

/-- No limits record is in force: STAT and REC read 0 (R422). -/
def State.lrNone (s : State) : State := s.forget (fun pg off => pg == 0x001 && (off == 0x040 || decide (0x100 ≤ off)))

/-- A start begins (R19, R83, R391 step 1). `find` and `flashBad` are what its self-test and its reads of flash will find.
BOOT_REASON takes the reason of the reset or VAUX entry that led to it; a start from M0 that a request makes after an
earlier start repeats the reason of that start, since R395 gives it no code (DESIGN CHOICE, log entry 22). -/
def State.startRun (s : State) (find : SelfTest) (flashBad : Nat) : State :=
  let s := if s.mode = 0 then (s.radioReset true).modeChange 0 1 else { s with trans := none }.set DEVICE.TRANS 0
  let s := s.keyRamClear.lrNone.aniseGate
  let s := if s.rngFailed then s else s.set SECURITY.RNG_STAT 1
  let s := { s with tb := 0, tbRun := true }.showRef.setPwr (fun p => { p with isolated := false })
  let s := ((s.set DEVICE.BOOT_REASON s.modes.reason).set DEVICE.BOOT_OK_SEEN 0).set MGMT.RUNNING 0
  let s : State := { s with hk := { s.hk with calNext := s.ao + 1 }, cal := { s.cal with refAt := none } }
  let s := s.setModes (fun m => { m with
    find := find, flashBad := flashBad, step := 1, stepAt := s.ao, acked := false, wdAt := none, stableAt := none })
  (s.enableWritten 0x004 1).enableWritten 0x007 1

/-- Step 1 exceeds 10 ms. -/
def State.lockTimeout (s : State) : State :=
  if s.modes.step = 1 ∧ s.modes.stepAt + 9830400 ≤ s.ao then
    if s.on CPLL.LOCKED = false then s.failedStart 0x40
    else if s.on LPLL.LOCKED = false then s.failedStart 0x41 else s
  else s

def execStartLockTimeout (s : State) : Out := .next s.lockTimeout

/-- A loop locks; in step 1 of a start, the lock of both loops lets step 2 command the start voltage. The highest band
that a loop has found since VAUX is kept (R471). -/
def State.lockStep (s : State) (k : Nat) : State :=
  let s := s.lockLoop k
  let s : State := { s with age := { s.age with bands := upd s.age.bands k (fun b => max b (s.get (Loop.BAND k))) } }
  if s.modes.step = 1 ∧ s.on CPLL.LOCKED ∧ s.on LPLL.LOCKED then
    let s := (s.set AVS.TARGET (s.get AVS.V_START)).setModes (fun m => { m with step := 2, stepAt := s.ao })
    { s with age := { s.age with cmdAt := some s.ao } }
  else s

def execLock (k : Nat) (s : State) : Out := .next (s.lockStep (k % 4))

/-- 2 ms after a command the regulator's voltage in mV is read; `ack`: it has acknowledged, in linear format (R470). -/
def State.voutCheck (s : State) (ack : Bool) (vout : Nat) : State :=
  match s.age.cmdAt with
  | none => s
  | some t =>
    if s.ao < t + 1966080 then s
    else
      let s : State := { s with age := { s.age with cmdAt := none } }
      let s := if ack then (s.set AVS.READ_VOUT vout).setModes (fun m => { m with acked := true }) else s
      let tgt := s.get AVS.TARGET
      if ack ∧ vout ≤ tgt + 15 ∧ tgt ≤ vout + 15 then (if s.modes.step = 2 then s.romRest else s)
      else
        let s := (s.count AVS.PM_FAULT_CNT).raiseLog 2 0x123 EV.AVS.PM_FAULT
        if s.modes.step ≠ 2 then { s with age := { s.age with again := true } }
        else if s.modes.stepAt + 49152000 ≤ s.ao then s.failedStart (if s.modes.acked then 0x51 else 0x52)
        else { s with age := { s.age with cmdAt := some s.ao } }

def execPmVoutCheck (ack : Bool) (vout : Nat) (s : State) : Out := .next (s.voutCheck ack vout)

/-! ### Management restarts (R26, R27, R397) -/

/-- The time of a restart runs out: M3 is entered at the next slot boundary, by hardware. -/
def State.contExpire (s : State) (code : Nat) : State :=
  let s := (s.setModes (fun m => { m with expired := some code, next := none })).raise 0x000 EV.DEVICE.CONT_EXPIRED
  { s with trans := some ⟨3, s.tb, true⟩ }.set DEVICE.TRANS (if s.mode = 3 then 0 else 1)

/-- A management restart starts, or starts again within its 5 s. It does nothing where no image runs and none is restarting,
under the halt, and after the restart has expired. -/
def State.mgmtRestart (s : State) (reason flashBad : Nat) : State :=
  if (s.on MGMT.RUNNING = false ∧ s.mgmtDown = false) ∨ s.on DEVICE.HALT ∨ s.modes.expired.isSome then s
  else
    let first := s.mgmtDown == false
    let s : State := { s with mgmtDown := true }
    let s := ((s.set DEVICE.MGMT_RESTART_ACT 1).set DEVICE.BOOT_REASON reason).set MGMT.RUNNING 0 |>.set DEVICE.BOOT_OK_SEEN 0
    let s := s.setMgmt (fun m => { m with dcache := [], icache := [], wdAt := s.ao })
    let s := s.setModes (fun m => { m with
      contAt := if first then s.ao else m.contAt, stableAt := none, flashBad := flashBad, wdAt := none })
    match s.chooseSlot 0 with
    | .inl slot => s.runImage slot
    | .inr code => s.contExpire code

/-- The 5 s have passed. -/
def State.contExpired (s : State) : State :=
  if s.mgmtDown ∧ s.modes.expired = none ∧ s.modes.contAt + 4915200000 ≤ s.ao then s.contExpire 0x11 else s

def execContExpired (s : State) : Out := .next s.contExpired

/-- The 100 ms after the expiry have passed. -/
def State.holdExpiry (s : State) : State :=
  match s.modes.holdAt, s.modes.expired with
  | some t, some code => if t + 98304000 ≤ s.ao then s.failedStart code else s
  | _, _ => s

def execContHoldExpiry (s : State) : Out := .next s.holdExpiry

/-- Pepper alone is reset, as a watchdog does while the halt is latched (R22): no image runs any more. -/
def State.pepperReset (s : State) : State :=
  (((s.set MGMT.RUNNING 0).set DEVICE.BOOT_OK_SEEN 0).setMgmt (fun m => { wdAt := s.ao, keySlot := m.keySlot })).setModes
    (fun m => { m with wdAt := none })

/-- The run-time watchdog expires (R396), during a management restart too (R27). -/
def State.runWatchdog (s : State) (flashBad : Nat) : State :=
  if s.on MGMT.WD_EN ∧ (s.on DEVICE.BOOT_OK_SEEN ∨ s.mgmtDown ∨ s.on DEVICE.HALT) ∧ s.on MGMT.RUNNING ∧ s.deaf = false
      ∧ s.mgmt.wdAt + max 1 (s.get MGMT.WD_PERIOD) * 9830400 ≤ s.ao then
    if s.on DEVICE.HALT then s.pepperReset else s.mgmtRestart 8 flashBad
  else s

def execRuntimeWatchdogExpiry (flashBad : Nat) (s : State) : Out := .next (s.runWatchdog flashBad)

/-- An UPDATE operation completes; ACTIVATE may restart management or the device. -/
def State.updEnds (s : State) (bad : Bool) (flashBad : Nat) : State :=
  let r := s.updComplete bad
  if r.1 = 1 then r.2.mgmtRestart 9 flashBad else if r.1 = 2 then r.2.deviceReset 3 else r.2

def execUpdDone (bad : Bool) (flashBad : Nat) (s : State) : Out := .next (s.updEnds bad flashBad)

/-! ### BOOT_OK (R23, R25) -/

/-- STABLE_TIME counts from now in M3 to M7. -/
def State.stableFrom (s : State) : State :=
  s.setModes (fun m => { m with stableAt := if 3 ≤ s.mode then some s.ao else none })

/-- BOOT_OK is written. -/
def State.bootOk (s : State) : State :=
  if s.on MGMT.RUNNING = false ∨ s.modes.expired.isSome then s
  else if s.mgmtDown then
    let s := ({ s with mgmtDown := false }.set DEVICE.MGMT_RESTART_ACT 0).set DEVICE.BOOT_OK_SEEN 1
    ((s.setModes (fun m => { m with wdAt := none })).setMgmt (fun m => { m with wdAt := s.ao })).stableFrom
  else if s.on DEVICE.BOOT_OK_SEEN then s
  else ((s.set DEVICE.BOOT_OK_SEEN 1).setModes (fun m => { m with wdAt := none })).stableFrom

/-- 20 s after the start of the image of a start without BOOT_OK. -/
def State.bootWatchdog (s : State) : State :=
  match s.modes.wdAt with
  | some t =>
    if s.mgmtDown = false ∧ s.deaf = false ∧ t + 19660800000 ≤ s.ao then
      if s.on DEVICE.HALT then s.pepperReset else s.failedStart 0x10
    else s
  | none => s

def execBootWatchdogExpiry (s : State) : Out := .next s.bootWatchdog

/-- STABLE_TIME reaches 600 s. -/
def State.stableExpiry (s : State) : State := if s.stableTime = 600 then s.set DEVICE.FAIL_COUNT 0 else s

def execStableTimeExpiry (s : State) : Out := .next s.stableExpiry

/-! ### Requests (R16 to R19) -/

/-- The transitions that a request may ask for; M3 from M1 by firmware only, M7 only by MGMT or TEST. -/
def modeTable (c : Cls) (a b : Nat) : Bool :=
  match a with
  | 0 => b == 1
  | 1 => b == 3 && c == .mgmt
  | 2 => b == 0
  | 3 => b == 0 || b == 4 || b == 5 || b == 6 || (b == 7 && (c == .mgmt || c == .test))
  | 4 => b == 3 || b == 5 || b == 6
  | 5 => b == 3 || b == 4 || b == 6
  | 6 => b == 3 || b == 4 || b == 5
  | _ => b == 3

/-- The octets in use: those with an operational path. -/
def State.octetsUsed (s : State) : List Nat := (List.range 8).filter (fun g => (octPaths g).any (fun n => s.operational n))

/-- The CPLL and the LO of each octet in use are locked. -/
def State.loopsLocked (s : State) : Bool := s.on CPLL.LOCKED && s.octetsUsed.all (fun g => s.on (Loop.LOCKED (s.loOf g)))

/-- The frame pattern is loaded (R212). -/
def State.patternLoaded (s : State) : Bool :=
  (List.range 8).any (fun g => s.on (OCTET.PAT_EN g)) &&
    (List.range 8).all (fun g => !s.on (OCTET.PAT_EN g) || s.on (OCTET.PAT_LOADED g))

/-- The prerequisites of a transition to `v`. -/
def State.modePrereq (s : State) (v : Nat) : Bool :=
  if s.mode = 1 then s.on CPLL.LOCKED && s.on MGMT.RUNNING
  else if v = 4 ∨ v = 6 then s.loopsLocked
  else if v = 5 then s.loopsLocked && s.on ERL0.FRAME_ALIGNED && s.patternLoaded && s.lrValid
  else true

/-- Debug or scan is enabled, so that M7 is left only by a device reset (R20). -/
def State.m7Held (s : State) : Bool := s.on SECURITY.DBG_EN || s.on SECURITY.SCAN_EN

/-- The cause for which a request is refused; 0 where it is accepted. M7 is not left where debug or scan is enabled. -/
def State.modeRefusal (s : State) (c : Cls) (v : Nat) : Nat :=
  if s.on DEVICE.HALT then 3
  else if s.modes.expired.isSome then 4
  else if modeTable c s.mode v = false ∨ (s.mode = 7 ∧ s.m7Held) then 1
  else if s.mgmtDown ∧ s.protective DEVICE.MODE_REQ v = false then 4
  else if s.modePrereq v = false then 2
  else 0

/-- A refused request of mode `v`. Its MODE record names the mode requested and the cause (log entry 22). -/
def State.modeRefused (s : State) (v cause : Nat) : State :=
  let s := ((s.set DEVICE.MODE_REQ s.mode).set DEVICE.REFUSE cause).raise 0x000 EV.DEVICE.MODE_REFUSED
  s.logHw 0x04 1 0x000 (s.mode + v % 8 * 2 ^ 4 + cause * 2 ^ 8) 0 0

/-- A request is judged. Time outside M5 that a controller asked for is no outage (R28); the request of firmware that ends
a start, and that which leaves M2, ask for none of the time before them. -/
def State.modeJudge (s : State) (c : Cls) (hw : Bool) (v : Nat) : State :=
  if v = s.mode ∧ s.on DEVICE.HALT = false ∧ s.modes.expired = none then s
  else
    let r := s.modeRefusal c v
    if r ≠ 0 then s.modeRefused v r
    else
      let s := if hw ∨ v = 5 ∨ v = 1 ∨ s.mode ≤ 2 then s else s.outClose
      { s with trans := some ⟨v, s.tb, hw⟩ }.set DEVICE.TRANS 1

/-- A transition has ended: the request written during it is taken as if it had just been written (R16). -/
def State.takeNext (s : State) : State :=
  match s.modes.next with
  | some c => (s.setModes (fun m => { m with next := none })).modeJudge c false (s.get DEVICE.MODE_REQ)
  | none => s

/-- A start begins, and with it the transition that led to it ends. -/
def State.startBegin (s : State) (find : SelfTest) (flashBad : Nat) : State :=
  if s.startDue then (s.startRun find flashBad).takeNext else s

def execStartBegin (find : SelfTest) (flashBad : Nat) (s : State) : Out := .next (s.startBegin find flashBad)

/-- A write of MODE_REQ takes effect: during a transition it waits. -/
def State.modeReq (s : State) (c : Cls) (v : Nat) : State :=
  let s := s.set DEVICE.MODE_REQ v
  if s.modes.expired.isSome then s.modeRefused v 4
  else if s.trans.isSome then s.setModes (fun m => { m with next := some c })
  else s.modeJudge c false v

/-! ### Transitions (R19, R20) -/

/-- The transition to `v` may take effect now. The instant of a request for M5 may lie before the count's zero, after a
load or step has moved it. -/
def State.modeDue (s : State) (t : Transit) : Bool :=
  if t.target = 1 ∨ s.deaf then false
  else if s.modes.expired.isSome ∨ s.mode = 5 then s.isBoundary s.tb || !s.tbRun
  else if t.target = 5 then s.isPatternStart s.tb && s.tbRun && decide (2048 ≤ interval t.reqAt s.tb)
  else true

/-- A path leaves what timeline actions had set, for the state of the mode. -/
def State.pathToMode (s : State) (n v : Nat) : State :=
  (s.setPath n (fun p => { p with win := none, shot := none, held := false })).goPath n s.tb (modeState v)

/-- Leaving M5: what waits for a boundary acts, withdrawn paths return, and adaptation ends. -/
def State.leaveM5 (s : State) : State :=
  let s := (List.range 8).foldl (fun s g => (s.setOct g (fun o => { o with reported := false, moved := false })).set
    (OCTET.SLOT_NOW g) 0) s
  allPaths.foldl (fun s n =>
    let s := s.boundaryClear n
    let s := if (s.path n).wdr then s.withdrawNow n false else s
    s.dpdLeave n) s

/-- Leaving M7: what tests set returns to its normal state (R20). -/
def State.leaveM7 (s : State) : State :=
  let s := allPaths.foldl (fun s n => (s.set (RXPATH.OVL_EN n) 1).set (RXPATH.INSEL_OVR n) 0) s
  let s := (List.range 8).foldl (fun s t => s.setTap t (fun x => { x with test := false })) s
  let s := (List.range 16).foldl (fun s k =>
    (((s.checkerOff k).set (DS.CHK_EN k) 0).set (US.GEN_EN k) 0).setInj k 0) (s.set LINK.LOOP 0)
  s.bistAbort

/-- Entry into M0: the radio domains are off and isolated, the gate biases safe (R167). -/
def State.enterM0 (s : State) : State :=
  let s := (s.logFlush.keyRamClear).radioReset true
  let s := (List.range 16).foldl (fun s k => s.biasSafe k) s
  { s with tb := 0, tbRun := false }.setPwr (fun p => { p with isolated := true })

/-- A transition takes effect. -/
def State.modeTake (s : State) (v : Nat) : State :=
  let old := s.mode
  let s := if old = 5 ∨ old = 6 then s.fgAbort else s
  let s := if old = 5 then s.leaveM5 else s
  let s := if old = 7 then s.leaveM7 else s
  let s := if old = v then { s with trans := none }.set DEVICE.TRANS 0 else s.modeChange old v
  let s :=
    if v = 0 then (if old = 2 then s.outClose else s).enterM0
    else if v = 5 then ((List.range 8).foldl (fun s g => s.slotBoundary g) s).outClose
    else allPaths.foldl (fun s n => s.pathToMode n v) s
  let s := s.aniseGate
  s.setModes (fun m => { m with stableAt :=
    if v ≤ 2 then none else if m.stableAt.isNone ∧ s.on DEVICE.BOOT_OK_SEEN ∧ s.mgmtDown = false then some s.ao else m.stableAt })

/-- The transition in progress takes effect at its instant. One that an expired restart made turns every path off and
starts the hold of R27, during which every output is muted; one that hardware safety made on a link failure opens an
outage; M7 is not left once debug or scan is enabled there (R20). Then the request that waited is judged. -/
def State.modeDone (s : State) : State :=
  match s.trans with
  | none => s
  | some t =>
    if s.modeDue t = false then s
    else if s.modes.expired.isNone ∧ s.mode = 7 ∧ s.m7Held then
      (State.modeRefused ({ s with trans := none }.set DEVICE.TRANS 0) t.target 1).takeNext
    else if s.modes.expired.isSome then
      let s := (s.modeTake 3).set DEVICE.MODE_REQ 3
      (s.setModes (fun m => { m with holdAt := some s.ao })).outOpen
    else
      let s := s.modeTake t.target
      (if t.hw then s.outOpen else s).takeNext

def execModeTransitionDone (s : State) : Out := .next s.modeDone

/-- A link that has been down for DOWN_TO ms in M5 (R298): hardware safety writes MODE_REQ = 3. -/
def State.linkTimeout (s : State) : State :=
  if s.mode = 5 ∧ s.on ERL0.LINK_UP = false ∧ s.on ERL0.DOWN_M3
      ∧ s.erl.downAt + max 1 (s.get ERL0.DOWN_TO) * 983040 ≤ s.ao then
    let s := s.set DEVICE.MODE_REQ 3
    if s.trans.isSome then s.setModes (fun m => { m with next := some .mgmt }) else s.modeJudge .mgmt true 3
  else s

def execLinkDownTimeout (s : State) : Out := .next s.linkTimeout

/-! ### The thermal halt (R21, R22) -/

/-- The halt latches, with its record; the entry into M0 flushes the log (R405); the radio domains lose their supply, the
gate biases are safe, and a restart stops. -/
def State.halt (s : State) : State :=
  if s.on DEVICE.HALT ∨ s.pwr.vaux = false then s
  else
    let old := s.mode
    let s := (s.set DEVICE.HALT 1).raiseLog 3 0x000 EV.DEVICE.HALT
    let s := if old = 0 then { s with trans := none }.set DEVICE.TRANS 0 else (s.modeChange old 0).logFlush
    let s := s.radioReset true
    let s := { s with tb := 0, tbRun := false, mgmtDown := false, mon := { s.mon with until_ := 0 } }.setPwr
      (fun p => { p with isolated := true })
    let s := ((s.set DEVICE.MGMT_RESTART_ACT 0).set MONITOR.LEVEL 0).keyRamClear
    let s := (List.range 16).foldl (fun s k => s.biasForce k) s
    (s.setModes (fun m => { m with
      next := none, step := 0, expired := none, holdAt := none, stableAt := none })).outOpen

/-- The comparator of a die sensor crosses its SHUT level (R464). -/
def execThermalHalt (k : Nat) (s : State) : Out := .next (if 16 ≤ k ∧ k < 25 then s.halt else s)

end Sys2Proof.Machine
end

