-- ==== Sys2Proof/Machine/Power.lean ====
section
/-! DEFINITION. Supplies, RESET_N, the I/O banks and the GPIO inputs (R19, R387, R482 to R490). -/

namespace Sys2Proof.Machine

/-! ### VAUX (R19, R488, R489) -/

/-- BOOTSEL is sampled (R387). -/
def State.sampleStraps (s : State) (b : Nat) : State :=
  let s := s.set MGMT.BOOTSEL (b % 4)
  s.set DEVICE.MODE_REQ (if b % 4 < 2 then 1 else 0)

/-- What outlasts the loss of VAUX: flash and OTP, with the log records in flash, and the world outside. `vaux` is whether the
range is left or entered. -/
def State.powerUp (s : State) (vaux : Bool) : State :=
  let z := State.reset
  { z with
    mem := s.mem.filter (fun e => decide (flashBase ≤ e.1 ∧ e.1 < captureBase))
    otp := s.otp
    log := { z.log with flash := s.log.flash, flashN := s.log.flashN }
    pwr := { s.pwr with vaux := vaux, biasRead := false, isolated := true }
    clk := { z.clk with lowPfd := s.clk.lowPfd }
    fv := s.fv
    trans := none
    pending := s.pending }

/-- REFCLK is monitored in VAUX: what it was before the loss of VAUX is measured anew. -/
def State.keepRef (s old : State) : State :=
  ((s.set CPLL.REF_OK (old.get CPLL.REF_OK)).set CPLL.REF_RATE (old.get CPLL.REF_RATE)).set TIMEBASE.INC (incOf (old.get CPLL.REF_RATE))

/-- VAUX enters its range, with its voltage in mV: M0, or M2 with the recovery strap. -/
def State.vauxOn (s : State) (bootsel mv : Nat) : State :=
  if s.pwr.vaux then s
  else
    let old := s
    let s := (List.range 16).foldl (fun s k => s.biasEntry k) ((s.powerUp true).keepRef old).otpShadows
    let s := { s with modes := { s.modes with reason := 1 } }.setPwr (fun p => { p with vauxMv := mv })
    let s := s.sampleStraps bootsel
    let s := if old.pwr.kill then (s.setPwr (fun p => { p with kill := false })).kill else s
    if bootsel % 4 = 3 then (if s.pwr.resetN then s else s.enterM2 6)
    else if bootsel % 4 < 2 then { s with trans := some ⟨1, 0, false⟩ }.set DEVICE.TRANS 1
    else s

def execVauxEnterRange (bootsel mv : Nat) (s : State) : Out := .next (s.vauxOn bootsel mv)

/-- VAUX leaves its range: everything that is not in flash or OTP is lost. -/
def State.vauxOff (s : State) : State := if s.pwr.vaux then (s.powerUp false).keepRef s else s

def execVauxLeaveRange (s : State) : Out := .next s.vauxOff

/-- The BIAS_SAFE entries are read, and the outputs move to them. -/
def State.biasRead (s : State) : State :=
  if s.pwr.vaux ∧ s.pwr.biasRead = false then
    (List.range 16).foldl (fun s k => if s.on (AUXDAC.WRITTEN k) then s else s.biasSafe k) (s.setPwr (fun p => { p with biasRead := true }))
  else s

def execBiasSafeRead (s : State) : Out := .next s.biasRead

/-! ### The radio rails (R486, R489): 0 VCORE, 1 VCNV, 2 VANA, 3 VRF, 4 to 7 VIO1 to VIO4 -/

def State.railsGood (s : State) : Bool := s.pwr.vcore && s.pwr.vcnv && s.pwr.vana && s.pwr.vrf

/-- A rail's flag. -/
def State.setRail (s : State) (rail : Nat) (b : Bool) : State :=
  s.setPwr (fun p =>
    match rail with
    | 0 => { p with vcore := b }
    | 1 => { p with vcnv := b }
    | 2 => { p with vana := b }
    | 3 => { p with vrf := b }
    | _ => { p with vio := if b then setBit p.vio (rail % 4) else clearBit p.vio (rail % 4) })

/-- A rail becomes good. -/
def State.railGood (s : State) (rail : Nat) : State :=
  let was := s.railsGood
  let s := s.setRail rail true
  if 4 ≤ rail then s
  else
    let s := if s.railsGood ∧ was = false then s.setPwr (fun p => { p with goodAt := s.ao }) else s
    s.m2Power

def execRadioRailGood (rail : Nat) (s : State) : Out := .next (s.railGood (rail % 8))

/-- The loops that VANA supplies, the link on VCNV, and the path pages that need the rail. -/
def State.railDown (s : State) (rail : Nat) : State :=
  let s := s.railPages (rail == 2) (rail == 1) (rail == 3)
  if rail = 2 then [0, 1, 2, 3].foldl (fun s k => s.lol k) s
  else if rail = 1 then (s.lanesLoss (List.range 16)).linkDown 2
  else s

/-- A start has begun and is in progress, or an image runs in M1. -/
def State.inStart (s : State) : Bool := s.mode == 1 && s.trans.all (fun t => t.target != 1)

/-- VCNV, VANA or VRF stops being good. Every output is muted while the rail is lost: TX_MUTE, whose cause bits name
every reason for it (R159), is not written. -/
def State.railLost (s : State) (rail : Nat) : State :=
  if rail = 0 ∨ 4 ≤ rail then s
  else
    let s := s.setRail rail false
    if s.pwr.vaux = false ∨ s.on DEVICE.HALT then s
    else if 3 ≤ s.mode then s.railDown rail
    else if s.inStart then s.failedStart 0x50
    else if s.mode = 2 ∧ rail = 1 then (s.lanesLoss (List.range 16)).linkDown 2
    else s

def execRadioRailNotGood (rail : Nat) (s : State) : Out := .next (s.railLost rail)

/-- VCORE stops being good: in M3 to M7 M1 is entered as by a device reset, with a record; in a start it fails. -/
def State.vcoreLost (s : State) : State :=
  let s := s.setRail 0 false
  if s.pwr.vaux = false ∨ s.on DEVICE.HALT then s
  else if 3 ≤ s.mode then
    let s := s.logHw 0x05 2 0x000 0 (s.pageStat 0) (s.rawWord 0 0x02C)
    s.enterM1 0x50
  else if s.inStart then s.failedStart 0x50
  else if s.mode = 2 then { s with tbRun := false }.setPwr (fun p => { p with isolated := true })
  else s

def execVcoreNotGood (s : State) : Out := .next s.vcoreLost

/-! ### RESET_N (R490) -/

/-- RESET_N is recognised as asserted. -/
def State.resetAssert (s : State) : State :=
  if s.pwr.resetN then s
  else
    let s := s.setPwr (fun p => { p with resetN := true })
    if s.pwr.vaux = false then s
    else
      let s := s.radioReset true
      let s := { s with tb := 0, tbRun := false, mgmt := {}, trans := none }.setPwr (fun p => { p with isolated := true })
      let s := (s.set DEVICE.TRANS 0).setModes (fun m => { m with
        next := none, step := 0, wdAt := none, expired := none, holdAt := none, stableAt := none })
      let s := (List.range 16).foldl (fun s k => s.biasSafe k) s
      s.forget (fun pg off => pg == 0x124 && decide (0x040 ≤ off ∧ off < 0x058) && off != 0x048)

def execResetNAssert (s : State) : Out := .next s.resetAssert

/-- RESET_N is released; it is not while VIO1 is not good (R484). -/
def State.resetRelease (s : State) (bootsel : Nat) : State :=
  if s.pwr.resetN = false ∨ bitOf s.pwr.vio 0 = false then s
  else
    let s := s.setPwr (fun p => { p with resetN := false })
    if s.pwr.vaux = false then s
    else
      let s := s.sampleStraps bootsel
      if s.on DEVICE.HALT then s.resetAll
      else if bootsel % 4 = 3 then s.enterM2 6
      else s.enterM1 2

def execResetNRelease (bootsel : Nat) (s : State) : Out := .next (s.resetRelease bootsel)

/-! ### I/O banks and GPIO (R484, R485) -/

/-- The bank of a GPIO: 2 (VIO3) for 0 to 7, 3 (VIO4) for 8 to 15. -/
def gpioBank (k : Nat) : Nat := if k < 8 then 2 else 3

/-- An I/O bank stops being good: its GPIO inputs read 0, RESET_N or TXKILL_N is asserted with it. -/
def State.bankLoss (s : State) (b : Nat) : State :=
  if bitOf s.pwr.vio b = false then s
  else
    let s := s.setRail (4 + b) false
    if s.pwr.vaux = false then
      s.setPwr (fun p => { p with resetN := p.resetN || b == 0, kill := p.kill || b == 3 })
    else
      let s := s.raise 0x124 (16 + b)
      let s := s.set GPIO.INP (((List.range 16).filter (fun k => bitOf (s.get GPIO.INP) k && gpioBank k != b)).foldl (fun m k => m + 2 ^ k) 0)
      if b = 0 then s.resetAssert else if b = 3 then s.kill else s

def execBankLoss (b : Nat) (s : State) : Out := .next (s.bankLoss (b % 4))

/-- The level of a GPIO input changes. -/
def State.gpioEdge (s : State) (k : Nat) (rising : Bool) : State :=
  if s.pwr.vaux = false ∨ bitOf s.pwr.vio (gpioBank k) = false ∨ bitOf (s.get GPIO.INP) k = rising then s
  else
    let v := s.get GPIO.INP
    let s := s.set GPIO.INP (if rising then setBit v k else clearBit v k)
    if bitOf (s.get (if rising then GPIO.RISE else GPIO.FALL)) k then s.raise 0x124 k else s

def execGpioEdge (k : Nat) (rising : Bool) (s : State) : Out := .next (s.gpioEdge (k % 16) rising)

/-- FAULT_N is pulled low. -/
def State.faultN (s : State) : Bool := s.pwr.vaux && (s.on DEVICE.HALT || s.mode == 2)

/-- IRQ_N is pulled low: it is released while VIO1 is not good, and in reset (R485, R490). -/
def State.irqLow (s : State) : Bool := s.irqN && bitOf s.pwr.vio 0 && !s.deaf

end Sys2Proof.Machine
end

