-- ==== Sys2Proof/Machine/Pins.lean ====
section
/-! DEFINITION. The levels of the output pins (R68, R93, R216, R220, R228, R482 to R485, R490). -/

namespace Sys2Proof.Machine

/-- What an output pin shows: a driven level, high impedance (released), or serial traffic of its port. -/
inductive Level where
  | low | high | z | traffic
  deriving DecidableEq, Repr

/-- The outputs. An RFFE pin is the clock of bus `b`, or its data. -/
inductive OutPin where
  | locka | montx | jtdo | hmiso | irqN | faultN
  | trsw (g : Nat) | trigout | rffe (b : Nat) (clk : Bool) | gpio (k : Nat) | tsynco
  | qcsN | qsck | pmscl | pmsda
  deriving DecidableEq, Repr

/-- The bank of a CMOS output, 0 to 3 for VIO1 to VIO4; FAULT_N lies in VAUX and TSYNCO in VCNV (R482). -/
def OutPin.bank : OutPin → Option Nat
  | .locka | .montx | .jtdo | .hmiso | .irqN => some 0
  | .qcsN | .qsck | .pmscl | .pmsda => some 1
  | .rffe _ _ => some 2
  | .trsw _ | .trigout => some 3
  | .gpio k => some (gpioBank k)
  | .faultN | .tsynco => none

def levelOf (b : Bool) : Level := if b then .high else .low

/-- The last comparison of a loop lay inside its window: how the comparisons of an enabled loop come out is the hardware's
(R66, R68; log entry 64). A loop that is off, held or failed makes none. -/
def State.inWindowNow (s : State) (k : Nat) : Bool :=
  match s.loop k with
  | .search | .locked | .ready => Config.insideWindow k s.ao
  | _ => false

/-- LOCKA shows the loop that LOCKA_SEL selects, all four with 4, and is low with 5 to 7 (R68). -/
def State.locka (s : State) : Bool :=
  let k := s.get CPLL.LOCKA_SEL
  if k < 4 then s.inWindowNow k else k == 4 && (List.range 4).all s.inWindowNow

/-- The level of TRSWg: TRSW_POL turns it over (R216). -/
def State.trswLevel (s : State) (g : Nat) : Bool := s.trsw g != s.on (OCTET.TRSW_POL g)

/-- The level before configuration, to which RESET_N returns an output (R482, R490). -/
def OutPin.idle : OutPin → Level
  | .jtdo | .hmiso | .irqN | .pmscl | .pmsda | .gpio _ => .z
  | .montx | .qcsN => .high
  | _ => .low

/-- What an output carries while its supply is there. -/
def State.driven (s : State) : OutPin → Level
  | .locka => levelOf s.locka
  | .trsw g => levelOf (s.trswLevel g)
  | .trigout => levelOf s.tl.trigEnd.isSome
  | .rffe b _ => if (s.tl.rffe.busy.getD b none).isSome then .traffic else .low
  | .gpio k => if bitOf (s.get GPIO.OE) k then levelOf (bitOf (s.get GPIO.OUT) k) else .z
  | .tsynco => levelOf s.clk.tsynco.isSome
  | .irqN => if s.irqLow then .low else .z
  | p => p.idle

/-- The level of an output. Every CMOS output of an absent bank is high impedance (R483), and while RESET_N is recognised as
asserted an output has its state of R482 (R490). FAULT_N is pulled low or released (R485). -/
def State.pin (s : State) (p : OutPin) : Level :=
  match p with
  | .faultN => if s.faultN then .low else .z
  | .tsynco => if s.pwr.vcnv = false ∨ s.pwr.vaux = false then .z else if s.deaf then .low else s.driven p
  | _ =>
    if (p.bank.map (fun b => bitOf s.pwr.vio b)).getD true = false ∨ s.pwr.vaux = false then .z
    else if s.pwr.resetN then p.idle
    else s.driven p

end Sys2Proof.Machine
end

