-- ==== Sys2Proof/Machine/Health.lean ====
section
/-! DEFINITION. Sensing, thermal supervision, slack, the voltage loop, ageing and retirement (20). -/

namespace Sys2Proof.Machine

def State.setHk (s : State) (f : HkSt → HkSt) : State := { s with hk := f s.hk }
def State.setAge (s : State) (f : AgeSt → AgeSt) : State := { s with age := f s.age }

/-- Ticks in a millisecond, a second and an hour, on the always-on clock. -/
def tickMs : Nat := 983040
def tickS : Nat := 983040000
def tickHour : Nat := 3538944000000

/-! ### The queue (R458) -/

/-- FILL and the head entry follow the queue. -/
def State.hkShow (s : State) : State :=
  let h := s.hk.queue.headD (0, 0)
  ((s.set HKADC.Q_FILL s.hk.queue.length).set HKADC.Q_W0 h.1).set HKADC.Q_W1 h.2

/-- A result enters the queue of 64. -/
def State.hkPush (s : State) (ch cause v : Nat) : State :=
  if 64 ≤ s.hk.queue.length then (s.count HKADC.Q_OVF_CNT).raise 0x120 EV.HKADC.Q_OVF
  else
    let empty := s.hk.queue.isEmpty
    let e := (ch * 2 ^ 26 + cause * 2 ^ 24 + v, s.mtime % 2 ^ 32)
    let s := (s.setHk (fun h => { h with queue := h.queue ++ [e] })).hkShow
    if empty then s.raise 0x120 EV.HKADC.Q_NEW else s

def State.hkPop (s : State) : State := (s.setHk (fun h => { h with queue := h.queue.tail })).hkShow

/-! ### Requests (R456, R457) -/

/-- A request of causes 0 to 2, where EN = 1 and the channel is not reserved. -/
def State.hkRequest (s : State) (ch cause : Nat) : State :=
  if s.act 0x120 ∧ ch < 35 then s.setHk (fun h => { h with reqs := h.reqs ++ [(ch, cause)] }) else s

/-- GO, with the channel that the same word names. -/
def State.hkGo (s : State) (ch : Nat) : State := (s.set HKADC.CH ch).hkRequest (ch % 64) 2

/-- A pass of the schedule starts, once the one before it has finished. -/
def State.hkSchedule (s : State) : State :=
  let p := s.get HKADC.SEQ_PERIOD
  if p = 0 ∨ s.act 0x120 = false ∨ s.ao < s.hk.passAt + p * tickMs ∨ s.hk.reqs.any (fun e => e.2 == 0) then s
  else
    let s := s.setHk (fun h => { h with passAt := s.ao })
    (List.range (min 16 (s.get HKADC.SEQ_LEN))).foldl (fun s i => s.hkRequest (s.get (HKADC.SEQ i)) 0) s

def execHkadcSchedule (s : State) : Out := .next s.hkSchedule

/-- The comparator of a channel is crossed; `back`: the level has been crossed back by CMP_HYST since the last crossing. -/
def State.cmpHit (s : State) (ch : Nat) (back : Bool) : State :=
  if (ch < 8 ∨ 12 ≤ ch ∧ ch < 16) ∧ s.act 0x120 ∧ s.on (HKADC.CMP_EN ch) ∧ (back ∨ s.hk.disarmed.look ch = 0) then
    ((s.setHk (fun h => { h with disarmed := h.disarmed.put ch 1 })).hkRequest ch 1).raise 0x120 EV.HKADC.CMP_HIT
  else s

def execHkadcCmpHit (ch : Nat) (back : Bool) (s : State) : Out := .next (s.cmpHit ch back)

/-! ### The thermal supervisor (R462 to R466) -/

/-- A channel that the supervisor knows, and a die sensor. -/
def isThermal (k : Nat) : Bool := decide (k < 12) || decide (16 ≤ k ∧ k < 25)
def isDie (k : Nat) : Bool := decide (16 ≤ k ∧ k < 25)

/-- The reading that the comparisons of a sensor take, in 1/256 degree: a broken one reads as too hot (R462). -/
def State.thermalReading (s : State) (k : Nat) : Int :=
  if s.on (THERMAL.BROKEN k) then (if s.on (THERMAL.BROKEN_ACT k) then s.geti (THERMAL.SHUT k) else s.geti (THERMAL.LIM_THROTTLE k)) * 64
  else s.geti (THERMAL.READING k)

/-- A level of the sensor is in force after a reading. -/
def State.levelNow (s : State) (k : Nat) (r : Int) (lim st : Loc) : Bool :=
  let h : Int := s.get (THERMAL.HYST k) * 128
  if s.on st then decide (s.geti lim * 64 - h ≤ r) else decide (s.geti lim * 64 ≤ r)

/-- WARN, THROTTLE and SHUT of a sensor are judged. -/
def State.thermalJudge (s : State) (k : Nat) : State :=
  let r := s.thermalReading k
  let w := s.levelNow k r (THERMAL.LIM_WARN k) (THERMAL.ST_WARN k)
  let s := if w && !s.on (THERMAL.ST_WARN k) then s.raiseLog 1 0x121 EV.THERMAL.WARN else s
  let s := s.set (THERMAL.ST_WARN k) (if w then 1 else 0)
  let t := s.levelNow k r (THERMAL.LIM_THROTTLE k) (THERMAL.ST_THROTTLE k)
  let was := s.on (THERMAL.ST_THROTTLE k)
  let s := s.set (THERMAL.ST_THROTTLE k) (if t then 1 else 0)
  let s := if t && !was then s.raiseLog 1 0x121 EV.THERMAL.THROTTLE else if was && !t then s.raise 0x121 EV.THERMAL.THROTTLE_END else s
  if s.on (THERMAL.SHUT_EN k) ∧ s.geti (THERMAL.SHUT k) * 64 ≤ r then s.halt else s

/-- The condition of WRITE_OK. -/
def State.windowOpen (s : State) : Bool :=
  (List.range 9).all (fun i =>
    let k := 16 + i
    let r := s.geti (THERMAL.READING k)
    let t := s.hk.convAt.look k
    decide (0 ≤ r ∧ r ≤ 85 * 256) && !s.on (THERMAL.BROKEN k) && decide (t ≠ 0 ∧ s.ao < t + 100 * tickMs))

/-- WRITE_OK follows its condition; each change raises WRITE_WINDOW. -/
def State.writeWindow (s : State) : State :=
  let w := s.windowOpen
  if w = s.on THERMAL.WRITE_OK then s else (s.set THERMAL.WRITE_OK (if w then 1 else 0)).raise 0x121 EV.THERMAL.WRITE_WINDOW

/-- The highest die reading, in 1/4 degree. -/
def State.tMax (s : State) : Int :=
  ((List.range 9).map (fun i => s.geti (THERMAL.READING (16 + i)) / 64)).foldl max (s.geti (THERMAL.READING 16) / 64)

/-- Two conversions in a row that find a sensor broken set BROKEN; two good ones clear it. -/
def State.brokenNote (s : State) (k : Nat) (bad : Bool) : State :=
  let b := if bad then s.hk.bad.look k + 1 else 0
  let g := if bad then 0 else s.hk.good.look k + 1
  let s := s.setHk (fun h => { h with bad := h.bad.put k (min 2 b), good := h.good.put k (min 2 g) })
  if 2 ≤ b ∧ s.on (THERMAL.BROKEN k) = false then (s.set (THERMAL.BROKEN k) 1).raiseLog 2 0x121 EV.THERMAL.BROKEN
  else if 2 ≤ g then s.set (THERMAL.BROKEN k) 0 else s

/-- A conversion for a request has found a sensor good or broken: its comparisons and WRITE_OK follow at once (R462,
R466). -/
def State.sensorSeen (s : State) (k : Nat) (bad : Bool) : State :=
  let t := s.brokenNote k bad
  if t.get (THERMAL.BROKEN k) = s.get (THERMAL.BROKEN k) ∨ t.on (THERMAL.SEN_EN k) = false then t
  else (t.thermalJudge k).writeWindow

/-- The supervisor has converted a sensor. -/
def State.supervise (s : State) (k : Nat) (v : Int) (bad : Bool) : State :=
  let s := (s.seti (THERMAL.READING k) v).setHk (fun h => { h with convAt := h.convAt.put k (s.ao + 1) })
  let s := (s.brokenNote k bad).thermalJudge k
  (s.seti THERMAL.T_MAX s.tMax).writeWindow

/-! ### Conversions (R454, R458) -/

/-- The request that is converted next: causes 1, 2 and 0 in this order. -/
def State.hkNext (s : State) : Option (Nat × Nat) :=
  let f := fun (c : Nat) => s.hk.reqs.find? (fun e => e.2 == c)
  (f 1).orElse (fun _ => (f 2).orElse (fun _ => f 0))

/-- Removes the first request that equals `e`. -/
def dropReq (e : Nat × Nat) : List (Nat × Nat) → List (Nat × Nat)
  | [] => []
  | x :: t => if x = e then t else x :: dropReq e t

/-- The result that the samples make; for an AVG_A or a SHIFT above 8 none is stated. -/
def State.hkResult (s : State) (xs : List Int) : Int × State :=
  let a := s.get HKADC.AVG_A
  let k := s.get HKADC.SHIFT
  if a = 0 then (satSigned 24 (xs.headD 0), s)
  else if 8 < a ∨ 8 < k then
    let r := s.freeNat
    (toSigned 24 r.1, r.2)
  else (satSigned 24 ((xs.take (2 ^ a)).foldl (· + ·) 0 / (2 ^ k : Nat)), s)

/-- The deviation of the reference, in 0.001 %, is judged: by a calibration, or by a conversion of channel 34 (R459). -/
def State.refJudge (s : State) (dev : Int) : State :=
  if dev.natAbs ≤ 100 then s.set HKADC.REF_OK 1
  else (s.set HKADC.REF_OK 0).raiseLog 2 0x120 EV.HKADC.REF_FAULT

/-- A conversion of the samples `xs` ends on a channel, for the supervisor or for the request that is next. `bad`: the
sensor is found broken. While the converter calibrates there is none. -/
def State.conversion (s : State) (sup : Bool) (ch : Nat) (xs : List Int) (bad : Bool) : State :=
  if s.pwr.vaux = false ∨ s.hk.calAt.isSome then s
  else if sup then
    if isThermal ch ∧ s.on (THERMAL.SEN_EN ch) then
      let v := satSigned 24 (xs.headD 0)
      (s.seti (HKADC.LAST ch) v).supervise ch v bad
    else s
  else
    match s.hkNext with
    | none => s
    | some e =>
      if e.1 ≠ ch ∨ s.act 0x120 = false then s
      else
        let s := s.setHk (fun h => { h with reqs := dropReq e h.reqs })
        let (v, s) := s.hkResult xs
        let s := s.seti (HKADC.LAST ch) v
        let s := if isThermal ch then s.sensorSeen ch bad else if ch = 34 then s.refJudge v else s
        s.hkPush ch e.2 (ofSigned 24 v)

def execHkadcConversionDone (sup : Bool) (ch : Nat) (xs : List Int) (bad : Bool) (s : State) : Out :=
  .next (s.conversion sup ch xs bad)

/-- A calibration starts, or ends with the deviation of the reference in 0.001 % (R459). -/
def State.hkCalibrate (s : State) (start : Bool) (dev : Int) : State :=
  match start, s.hk.calAt with
  | true, none =>
    if s.hk.calNext = 0 ∨ s.ao + 1 < s.hk.calNext then s
    else ((s.setHk (fun h => { h with calAt := some s.ao })).set HKADC.STALE 1).set (HDR.STALE 0x120) 1
  | false, some t =>
    let s := s.setHk (fun h => { h with calAt := none, calNext := t + 60 * tickS + 1 })
    (((s.set HKADC.STALE 0).set (HDR.STALE 0x120) 0).seti (HKADC.LAST 34) dev).refJudge dev
  | _, _ => s

def execHkadcCalibration (start : Bool) (dev : Int) (s : State) : Out := .next (s.hkCalibrate start dev)

/-! ### Slack (R467) -/

/-- What a window saw: the highest ADC-queue fill and the lowest DAC-queue fill of each path, and the least fill of the
upstream lane queue, each in 1/64 of its depth. -/
structure WindowFill where
  adc : List Nat
  dac : List Nat
  up : Nat

/-- The least of a list, or `d` of an empty one. -/
def leastOf (d : Nat) (l : List Nat) : Nat := l.foldl min d

/-- The slack of a region in a window; none where nothing was active. -/
def State.regionSlack (s : State) (w : WindowFill) (r : Nat) : Option Nat :=
  if r < 8 then
    let ps := (octPaths r).filter (fun n => s.act (rxPage n))
    if ps = [] then none else some (leastOf 64 (ps.map (fun n => 64 - w.adc.getD n 0)))
  else if r < 16 then
    let ps := (octPaths (r - 8)).filter (fun n => s.act (txPage n))
    if ps = [] then none else some (leastOf 64 (ps.map (fun n => s.get (TXPATH.MINFILL n))))
  else if r = 16 then (if s.act 0x0B1 then some (min 64 w.up) else none)
  else
    let cs := (List.range 8).filter (fun c => s.coreState c == 1 || s.coreState c == 2)
    if cs = [] then none else some (leastOf 64 (cs.map (fun c => min 64 (64 * (s.get (CLOVE.RATE c) - 1200) / 400))))

/-- SLACK, VALID and SLACK_MIN of a region. -/
def State.slackNote (s : State) (w : WindowFill) (r : Nat) : State :=
  match s.regionSlack w r with
  | none => s.set (AGEING.SLACK_VALID r) 0
  | some v =>
    let s := (s.set (AGEING.SLACK r) v).set (AGEING.SLACK_VALID r) 1
    if v < s.get (AGEING.SLACK_MIN r) then s.set (AGEING.SLACK_MIN r) v else s

/-! ### The voltage loop (R469, R470) -/

/-- VOUT_COMMAND is written; its check is due 2 ms later. -/
def State.voutCommand (s : State) : State := s.setAge (fun a => { a with cmdAt := some s.ao, again := false })

/-- The loop runs: after step 2 of a start, and not while EN = 0 or a management restart holds the target. -/
def State.avsRuns (s : State) : Bool :=
  (s.mode == 1 || decide (3 ≤ s.mode)) && s.modes.step == 0 && s.get AVS.TARGET != 0 && s.act 0x123 && !s.mgmtDown

/-- The loop at the end of a window. -/
def State.avsLoop (s : State) : State :=
  let rs := (List.range 18).filter (fun r => s.on (AGEING.SLACK_VALID r) && bitOf (s.get AVS.AVS_MASK) r)
  let s :=
    if s.avsRuns = false ∨ rs = [] then s
    else
      let x := leastOf 64 (rs.map (fun r => s.get (AGEING.SLACK r)))
      let low := if s.get AVS.SLACK_LOWER ≤ x ∧ s.get AVS.SLACK_RAISE ≤ x ∧ s.get AVS.SLACK_EMERG ≤ x then s.age.lowN + 1 else 0
      let down := decide (max 1 (s.get AVS.LOWER_N) ≤ low)
      let s := s.setAge (fun a => { a with lowN := if down then 0 else low })
      let old := s.get AVS.TARGET
      let want := if x < s.get AVS.SLACK_EMERG then old + 20 else if x < s.get AVS.SLACK_RAISE then old + 5
        else if down then old - 5 else old
      let new := max (s.get AVS.VMIN) (min (s.get AVS.VMAX) want)
      let s := if new = old then s else ((s.set AVS.TARGET new).voutCommand).raise 0x123 EV.AVS.AVS_STEP
      let held := new == old && old == s.get AVS.VMAX && decide (x < s.get AVS.SLACK_RAISE)
      if held && (match s.age.limitAt with | some t => decide (t + 2 ^ 30 ≤ s.ao) | none => true) then
        (s.setAge (fun a => { a with limitAt := some s.ao })).raise 0x123 EV.AVS.AVS_LIMIT
      else s
  if s.age.again then s.voutCommand else s

/-! ### Indicators and the stage (R471, R472) -/

/-- The value of an indicator. -/
def State.indicator (s : State) (i : Nat) : Nat :=
  let rx := allPaths.filter (fun n => s.act (rxPage n))
  let tx := allPaths.filter (fun n => s.act (txPage n))
  match i with
  | 0 => leastOf 64 ((List.range 18).map (fun r => s.get (AGEING.SLACK r)))
  | 1 => s.get AVS.VMAX - s.get AVS.TARGET
  | 2 => leastOf 3 (rx.map (fun n => min (s.get (RXPATH.SPARES_I n)) (s.get (RXPATH.SPARES_Q n))))
  | 3 => leastOf 3 (tx.map (fun n => min (s.get (TXPATH.CELL_SPARES_I n)) (s.get (TXPATH.CELL_SPARES_Q n))))
  | 4 => 63 - s.age.bands.foldl max 0
  | 5 => leastOf 0xFF ((List.range s.lanesDs).map (fun n => s.get (DS.EYE_MIN_SEEN n)))
  | _ => ((List.range 16).map (fun k =>
      let b := s.get (AGEING.BIAS_BASE k)
      if b = 0 ∨ s.on (AUXDAC.AT_SAFE k) then 0 else ((s.get (AUXDAC.OUT_CODE k) : Int) - b).natAbs)).foldl max 0

/-- The level of a value: 0 HEALTHY, 1 WATCH, 2 WORN. -/
def State.indLevel (s : State) (i v : Nat) : Nat :=
  let worse := fun (t : Nat) => if i = 6 then decide (t ≤ v) else decide (v ≤ t)
  if worse (s.get (AGEING.THR_WORN i)) then 2 else if worse (s.get (AGEING.THR_WATCH i)) then 1 else 0

/-- The intervals of calibration follow the stage. -/
def State.planIntervals (s : State) : State :=
  if s.on AGEING.PLAN_INT = false then s
  else
    [0, 1, 3, 4, 5, 7, 10, 11].foldl (fun s k =>
      let b := s.get (AGEING.BASE k)
      let v := [2 * b, b, b / 2, b / 4].getD (s.get AGEING.STAGE) b
      s.set (CAL0.INTERVAL k) (max 1 (min 1048575 v))) s

/-- The stage that the worst level asks for, and what may be left of the stage in force: better levels must have held. -/
def State.stageNext (s : State) (level : Nat) : Nat :=
  let a := s.age
  let floor_ := if a.on < a.wornAt + 24 * tickHour then 3 else if a.on < a.watchAt + 24 * tickHour then 2
    else if a.on < a.watchAt + 720 * tickHour then 1 else 0
  let worst := if level = 2 then 3 else if level = 1 then 2 else if a.on < a.watchAt + 720 * tickHour then 1 else 0
  let now := s.get AGEING.STAGE
  if now < worst then worst else min now (max worst floor_)

/-- The indicators and the stage at the end of a window. -/
def State.stageNote (s : State) : State :=
  let vs := (List.range 7).map (fun i => s.indicator i)
  let s := (List.range 7).foldl (fun (s : State) i =>
    let v := vs.getD i 0
    (s.set (AGEING.IND_VALUE i) v).set (AGEING.IND_LEVEL i) (s.indLevel i v)) s
  let level := ((List.range 7).map (fun i => s.get (AGEING.IND_LEVEL i))).foldl max 0
  let s := s.setAge (fun a => { a with
    watchAt := if 1 ≤ level then a.on else a.watchAt, wornAt := if level = 2 then a.on else a.wornAt })
  let n := s.stageNext level
  if n = s.get AGEING.STAGE then s else ((s.set AGEING.STAGE n).raiseLog 1 0x122 EV.AGEING.STAGE).planIntervals

/-- A slack window ends. -/
def State.slackEnd (s : State) (w : WindowFill) : State :=
  if s.tbRun ∧ s.tb % 2 ^ 20 = 0 then
    let s := allPaths.foldl (fun (s : State) n =>
      if s.act (txPage n) then s.set (TXPATH.MINFILL n) (min 64 (w.dac.getD n 64)) else s) s
    (((List.range 18).foldl (fun s r => s.slackNote w r) s).avsLoop).stageNote
  else s

def execSlackWindowEnd (adc dac : List Nat) (up : Nat) (s : State) : Out := .next (s.slackEnd ⟨adc, dac, up⟩)

/-! ### The regulator (R468) -/

/-- Telemetry: output in mV, current in mA, temperature in 1/4 degree. -/
def State.telemetry (s : State) (vout iout : Nat) (temp : Int) : State :=
  if s.pwr.vaux ∧ s.hk.telAt + max 1 (s.get AVS.TEL_MS) * tickMs ≤ s.ao then
    ((((s.setHk (fun h => { h with telAt := s.ao })).set AVS.READ_VOUT vout).set AVS.READ_IOUT iout).seti AVS.READ_TEMP temp)
  else s

def execPmTelemetry (vout iout : Nat) (temp : Int) (s : State) : Out := .next (s.telemetry vout iout temp)

/-- PMALERT_N falls; its bank VIO2 must be good. -/
def State.pmAlert (s : State) (status : Nat) : State :=
  if s.pwr.vaux ∧ bitOf s.pwr.vio 1 then (s.set AVS.PM_STATUS (status % 2 ^ 16)).raise 0x123 EV.AVS.PM_ALERT else s

def execPmAlert (status : Nat) (s : State) : Out := .next (s.pmAlert status)

/-! ### Retirement (R474, R475) -/

/-- The VETO word of a path and direction, 0 transmit, 1 receive. -/
def vetoLoc (d n : Nat) : Loc :=
  if d = 0 then (if n < 32 then AGEING.VETO_TX_LO else AGEING.VETO_TX_HI)
  else if n < 32 then AGEING.VETO_RX_LO else AGEING.VETO_RX_HI

/-- The path is retired in the direction. -/
def State.isRetired (s : State) (d n : Nat) : Bool :=
  if d = 0 then s.on (TXPATH.RETIRE n) else bitOf (s.get (rxRetireLoc n)) (n % 32)

/-- Hardware safety may retire the candidate now. -/
def State.graceOver (s : State) (d n : Nat) : Bool :=
  let t := s.ret.candAt.look (d * 64 + n)
  s.on AGEING.AUTO_RETIRE && bitOf (s.get (candLoc d n)) (n % 32) && !bitOf (s.get (vetoLoc d n)) (n % 32)
    && decide (t ≠ 0 ∧ t - 1 + s.get AGEING.RETIRE_GRACE * tickS ≤ s.ao)
    && decide (s.get AGEING.HW_RETIRED < s.get AGEING.RETIRE_MAX) && !s.isRetired d n

def State.hwRetire (s : State) (d n : Nat) : State :=
  if s.graceOver d n = false then s
  else
    let s := if d = 0 then s.retireWritten n 1
      else s.rxRetireWritten (rxRetireLoc n) (setBit (s.get (rxRetireLoc n)) (n % 32))
    s.count AGEING.HW_RETIRED

def execRetireGraceExpiry (d n : Nat) (s : State) : Out := .next (s.hwRetire (d % 2) (n % 64))

/-! ### Life (R476, R477) -/

/-- VCORE is commanded. -/
def State.vcoreCommanded (s : State) : Bool := s.get AVS.TARGET != 0 && s.mode != 0 && s.mode != 2 && s.pwr.vaux

/-- One tick of VCORE-on time. -/
def State.lifeTick (s : State) : State :=
  if s.vcoreCommanded = false then s
  else
    let temp := ((List.range 9).map (fun i => s.geti (THERMAL.READING (16 + i)))).foldl (· + ·) 0
    let held := s.mgmtDown || !s.act 0x123
    let s := s.setAge (fun a => { a with
      on := a.on + 1, hour := a.hour + 1, dayTicks := a.dayTicks + 1, dayTgt := a.dayTgt + s.get AVS.TARGET
      dayTemp := a.dayTemp + temp, dayHeld := a.dayHeld + (if held then 1 else 0) })
    if s.age.hour < tickHour then s
    else
      let s := (s.setAge (fun a => { a with hour := 0 })).set AGEING.LIFE_HOURS (s.get AGEING.LIFE_HOURS + 1)
      if s.get AGEING.LIFE_HOURS % 24 = 0 then s.setAge (fun a => { a with dayDue := true }) else s

/-- The largest number below 2^k, added to `r`, whose fourth power does not exceed `v`. -/
def root4 (v : Nat) : Nat → Nat → Nat
  | 0, r => r
  | k + 1, r => root4 v k (if (r + 2 ^ k) ^ 4 ≤ v then r + 2 ^ k else r)

/-- The registers of a 64-bit sum, as a signed number. -/
def State.sum64 (s : State) (lo hi : Loc) : Int := toSigned 64 (s.get64 lo hi)
def State.addSum (s : State) (lo hi : Loc) (x : Int) : State := s.set64 lo hi (ofSigned 64 (s.sum64 lo hi + x))

/-- The day's point: x in 1/256 of d^(1/4), y in 0.001 mV, each rounded in an open way (log entry 9). -/
def State.dayPoint (s : State) (d f : Nat) : Int × Int :=
  let a := s.age
  let t : Int := max 1 a.dayTicks
  let tc := s.geti AGEING.TC
  (root4 (d * 2 ^ 32) 20 0 + (f % 2 : Nat), (1000 * a.dayTgt * 2304 + 10 * tc * (95 * 2304 * t - a.dayTemp)) / (2304 * t) + (f / 2 % 2 : Nat))

/-- LIFE_A, LIFE_B, LIFE_LEFT and LIFE_VALID follow the sums; day `d` is the last. -/
def State.lifeFit (s : State) (d f : Nat) : State :=
  let n : Int := s.get AGEING.LIFE_N
  let sx := s.sum64 AGEING.SX_LO AGEING.SX_HI
  let sy := s.sum64 AGEING.SY_LO AGEING.SY_HI
  let sxy := s.sum64 AGEING.SXY_LO AGEING.SXY_HI
  let sxx := s.sum64 AGEING.SXX_LO AGEING.SXX_HI
  let den := n * sxx - sx * sx
  let b := if den = 0 then 0 else 256 * (n * sxy - sx * sy) / den + (f % 2 : Nat)
  let a := if n = 0 ∨ den = 0 then 0 else (sy * sxx - sx * sxy) / den + (f / 2 % 2 : Nat)
  let s := (s.seti AGEING.LIFE_A a).seti AGEING.LIFE_B b
  if n < 8 ∨ b ≤ 0 then (s.set AGEING.LIFE_VALID 0).set AGEING.LIFE_LEFT 0xFFFF
  else
    let v : Int := 1000 * ((s.get AVS.VMAX : Int) - s.get AGEING.LIFE_MARGIN) - a
    let stop := if v ≤ 0 then 0 else v ^ 4 / b ^ 4
    (s.set AGEING.LIFE_VALID 1).set AGEING.LIFE_LEFT (clip 0 65534 (stop - d)).toNat

/-- A day is closed. -/
def State.dayClose (s : State) : State :=
  if s.age.dayDue = false then s
  else
    let d := s.get AGEING.LIFE_HOURS / 24
    let (f, s) := s.freeNat
    let (x, y) := s.dayPoint d f
    let s :=
      if 12 * tickHour < s.age.dayHeld then s
      else
        let s := (s.addSum AGEING.SX_LO AGEING.SX_HI x).addSum AGEING.SY_LO AGEING.SY_HI y
        let s := (s.addSum AGEING.SXY_LO AGEING.SXY_HI (x * y)).addSum AGEING.SXX_LO AGEING.SXX_HI (x * x)
        s.set AGEING.LIFE_N (s.get AGEING.LIFE_N + 1)
    let s := s.lifeFit d (f / 4)
    let s := s.setAge (fun a => { a with dayDue := false, dayTicks := 0, dayTgt := 0, dayTemp := 0, dayHeld := 0 })
    s.raiseLog 0 0x122 EV.AGEING.LIFE_UPDATE

def execLifeDayClose (s : State) : Out := .next s.dayClose

end Sys2Proof.Machine
end

