-- ==== Sys2Proof/Machine/Write.lean ====
section
/-! DEFINITION. What a write of each field of the register map does: the value that is stored, the chapters' own
refusals, what hardware safety holds, the effect, and the action of each clear and trigger. -/

namespace Sys2Proof.Machine

/-! ### The value stored -/

/-- The least LAT of a link rate, in units of 16 ticks (R286). -/
def latMin (rate : Nat) : Nat := [128, 128, 128, 192].getD rate 128

/-- The value that a write of `v` stores, where a chapter limits it. UL_SHIFT 7, for which R174 gives no stored value,
is stored as written (DESIGN CHOICE, log entry 59). -/
def State.fieldClip (s : State) (l : Loc) (v : Nat) : Nat :=
  let pg := l.page
  if l.off = 0x010 then v &&& evtMask pg                                    -- R4, R32
  else if l.off = 0x018 ∧ l.lo < 31 then
    match [Cls.bb, .host, .dsp, .mon, .test].find? (fun c => decide (l.lo = 2 * c.code)) with
    | some c => min v (ceiling pg c)                                       -- R41
    | none => v
  else if isRxPage pg then
    if l.off = 0x040 then min 60 v else if l.off = 0x044 then min 40 v else v  -- R102, R106
  else if isTxPage pg then
    if l.off = 0x050 then min 40 v                                         -- R150
    else if l.off = 0x04C ∧ l.lo = 0 then clipNat 65 90 v                   -- R142
    else if l.off = 0x04C ∧ l.lo = 16 then clipNat 10 16 v
    else v
  else if 0x090 ≤ pg ∧ pg < 0x098 then
    if l.off = 0x04C ∧ l.lo = 8 then clipNat 80 30640 v else v               -- R210
  else if 0x098 ≤ pg ∧ pg < 0x0A0 then
    if l.off = 0x044 ∧ (l.lo = 8 ∨ l.lo = 16) then clipNat 4 24 v else v     -- R133
  else if l = BEAM.SHIFT 0 then min 5 v                                     -- R174
  else if l = DPD0.CAP_LEN then min 4 v
  else if pg = 0x0AA ∧ 0x080 ≤ l.off ∧ l.lo = 0 then min 32 v
  else if l = ERL0.LANES_US ∨ l = ERL0.LANES_DS then min 4 v
  else if l = ERL0.LAT_UL ∨ l = ERL0.LAT_DL then clipNat (latMin (s.get (if l = ERL0.LAT_UL then BEAM.RATE 1 else BEAM.RATE 0))) 1024 v
  else if isCkPage pg ∧ l.off = 0x040 ∧ l.lo = 0 then min 12 v
  else if 0x0C8 ≤ pg ∧ pg < 0x0D8 ∧ l.off = 0x040 ∧ l.lo = 0 then min 12 v
  else if l = SOUND0.MAX_ITER then min 20 v
  else if pg = 0x121 ∧ 0x200 ≤ l.off ∧ l.off % 16 = 4 then                 -- R464, the die sensors
    if l.lo = 0 then (if v < 2 ^ 15 then min 520 v else v) else if 29 ≤ l.lo then 1 else v
  else if l = AVS.V_START ∨ l = AVS.VMAX ∨ l = AVS.VMIN then clipNat 650 850 v
  else v

/-! ### Refusals of the chapters, and what hardware safety holds -/

/-- The chapter's own refusal of a write of field `l` by a word `data`. -/
def State.fieldOwn (s : State) (c : Cls) (data : Nat) (l : Loc) : Option Nat :=
  let pg := l.page
  let v := bits data l.lo l.wid
  if l.off < 0x02C then none
  else if isRxPage pg then
    if 0x400 ≤ l.off ∧ l.off < 0x580 then s.firRefusal (pathOf pg) 1
    else if 0x200 ≤ l.off ∧ l.off < 0x380 then s.firRefusal (pathOf pg) 0
    else none
  else if isTxPage pg then
    if l = TXPATH.TX_MUTE (pathOf pg) then s.muteRefusal c (pathOf pg) v
    else if 0x100 ≤ l.off ∧ l.off < 0x164 then s.cfrPulseRefusal (pathOf pg)
    else none
  else if l = CAL0.TX_MUTE then s.muteRefusal c 64 v
  else if pg = 0x0A2 ∨ pg = 0x0A3 then
    let set := (l.off - 0x040) / 4
    if l.lo = 31 then none else s.blkRefusal (pg - 0x0A2) set (if 16 ≤ l.lo then 1 else 0) data l
  else if 0x098 ≤ pg ∧ pg < 0x0A0 then
    let t := pg - 0x098
    if s.on DPD0.GUARD_EN ∧ (s.get DPD0.GUARD_TAP_A = t ∨ s.get DPD0.GUARD_TAP_C = t)
      ∧ (l.off = 0x040 ∨ l = MONTAP.RMS_K t) then some stDENIED else none                           -- R204
  else if l = TIMELINE0.EPOCH_LO ∨ l = TIMELINE0.EPOCH_HI then if s.mode = 5 then some stLOCKED else none
  else if l = ERL0.LAT_UL ∨ l = ERL0.LAT_DL ∨ l = ERL0.LANES_US ∨ l = ERL0.LANES_DS then
    if s.mode = 5 then some stLOCKED else none
  else if pg = 0x0E1 then s.sndWeightRefusal l
  else if 0x0E8 ≤ pg ∧ pg < 0x0F0 then s.capRefusal l (pg - 0x0E8)
  else if pg = 0x112 ∧ 0x400 ≤ l.off then
    if s.get UPDATE.STATE ≠ 0 ∧ s.get UPDATE.OWNER = c.code then none else some stDENIED
  else none

/-- The value that a hardware safety condition holds in the field (R59). -/
def State.fieldHeld (s : State) (l : Loc) : Option Nat :=
  if isTxPage l.page ∧ l = TXPATH.TX_MUTE (pathOf l.page) ∨ l = CAL0.TX_MUTE then s.muteHeld
  else if l.page = 0x125 ∧ l.lo = 31 ∧ 0x040 ≤ l.off then s.biasForceHeld ((l.off - 0x040) / 4)
  else none

/-! ### Effects -/

/-- EVT_EN takes effect: a bit that is set and newly enabled is delivered at once (R40). -/
def State.evtEnWritten (s : State) (pg v : Nat) : State :=
  let old := s.get (HDR.EVT_EN pg)
  let s := s.set (HDR.EVT_EN pg) v
  (List.range 32).foldl (fun s b =>
    if bitOf v b && !bitOf old b && bitOf (s.get (HDR.EVT pg)) b then s.deliver pg b else s) s

/-- LEVEL_REQ takes effect: every page implements level 1 only (R33). -/
def State.levelWritten (s : State) (pg v : Nat) : State :=
  (s.set (HDR.LEVEL_REQ pg) v).set (HDR.LEVEL_ERR pg) (if 1 < v then 1 else 0)

/-- A header field takes effect. EN beside a soft reset that still waits is stored, and the reset acts with it. -/
def State.headerWritten (s : State) (l : Loc) (v : Nat) : State :=
  let pg := l.page
  if l = HDR.EN pg then
    if s.triggers.any (fun t => t.loc == HDR.SRST pg) then s.set l v else s.enableWritten pg v
  else if l = HDR.LEVEL_REQ pg then s.levelWritten pg v
  else if l = HDR.EVT_EN pg then s.evtEnWritten pg v
  else if l = HDR.FIELD_LOCK pg then s.set l (max v (s.get l))
  else s.set l v

/-- A field of a path page takes effect. -/
def State.pathFieldWritten (s : State) (tx : Bool) (n : Nat) (l : Loc) (v : Nat) : State :=
  if 0x0C0 ≤ l.off ∧ l.off < 0x0CC then s.thrWritten tx n l v
  else if tx then
    if l = TXPATH.TX_MUTE n then s.muteWritten n v
    else if l = TXPATH.RETIRE n then s.retireWritten n v
    else s.set l v
  else if l = RXPATH.OVL_EN n then s.ovlEnWritten n v
  else if l = RXPATH.OVL_FORCE n then s.ovlForceWritten n v
  else s.set l v

/-- The effect of a field of a block-specific register that is not shadowed. -/
def State.blockWritten (s : State) (c : Cls) (l : Loc) (v : Nat) : State :=
  let pg := l.page
  if isRxPage pg then s.pathFieldWritten false (pathOf pg) l v
  else if isTxPage pg then s.pathFieldWritten true (pathOf pg) l v
  else if l = DEVICE.MODE_REQ then s.modeReq c v
  else if l = TIMEBASE.TSRC_EN then (s.set l v).selectSource
  else if l = CAL0.TX_MUTE then s.muteWritten 64 v
  else if pg = 0x0A5 ∧ l.lo = 31 then s.frozenWritten ((l.off - 0x040) / 4) v
  else if l = LINK.LOOP ∨ (0x0B8 ≤ pg ∧ pg < 0x0D8 ∧ l.off = 0x04C ∧ l.lo = 8) then s.laneTestWritten l v
  else if 0x0B8 ≤ pg ∧ pg < 0x0C8 ∧ l = DS.DESKEW (pg - 0x0B8) then s.deskew (pg - 0x0B8) v
  else if l = ERL0.SECURED then s.secure v
  else if l = BCAST0.STD then s.retune v (s.get BCAST0.FREQ)
  else if l = BCAST0.FREQ then s.retune (s.get BCAST0.STD) v
  else if l = BCAST0.AER_FORCE then (s.set l v).aerForced
  else if isClovePage pg ∧ l = CLOVE.RUN (pg - 0x100) then s.runWritten (pg - 0x100) v
  else if l = MGMT.WD_EN then s.wdEnable v
  else if l = MGMT.MTIMECMP_LO ∨ l = MGMT.MTIMECMP_HI then s.mtimecmpWritten l v
  else if l = LOG.FLUSH_THR then s.flushThr v
  else if l = LOG.RD_SEQ then s.rdSeq v
  else if l = AGEING.RX_RETIRE_LO ∨ l = AGEING.RX_RETIRE_HI then s.rxRetireWritten l v
  else if pg = 0x120 ∧ 0x200 ≤ l.off ∧ l.lo = 31 ∧ v = 0 then
    (s.set l 0).setHk (fun h => { h with disarmed := h.disarmed.put ((l.off - 0x200) / 4) 0 })
  else if pg = auxPage ∧ 0x040 ≤ l.off ∧ l.off < 0x080 then s.biasWritten ((l.off - 0x040) / 4) l v
  else s.set l v

/-- A field's value takes effect: a shadowed field in the inactive bank (R46), any other in force. -/
def State.fieldEff (s : State) (c : Cls) (l : Loc) (v : Nat) : State :=
  let v := s.fieldClip l v
  if l.acc = .rws then s.edit l v
  else if l.off < 0x02C then s.headerWritten l v
  else s.blockWritten c l v

/-- The registers held once per class (R218, R399, R404). -/
def isPerClass (l : Loc) : Bool :=
  l == TIMELINE0.ENQ_TB_LO || l == TIMELINE0.ENQ_TB_HI || l == TIMELINE0.ENQ_ARG || l == LOG.FW_W4 || l == LOG.FW_W5
    || l == LOG.FW_W6 || l == UPDATE.OP || l == UPDATE.ARG || l == UPDATE.OFS || l == UPDATE.LEN

/-! ### Clears and triggers (R60) -/

/-- A W1C clear of EVT: the bits written, but for events that occur again on this tick. Such a bit is left set (R39), and is
delivered once more if it is enabled (R61). -/
def State.clearEvents (s : State) (pg m : Nat) : State :=
  let again := s.evtNow.look pg
  let old := s.get (HDR.EVT pg)
  let s := s.set (HDR.EVT pg) (old &&& (clearMask 32 (2 ^ 32 - 1) m ||| again))
  (List.range 32).foldl (fun s b =>
    if bitOf m b && bitOf old b && bitOf again b && !bitOf (s.evtNow.look (riseKey pg)) b && bitOf (s.get (HDR.EVT_EN pg)) b
    then s.deliver pg b else s) s

/-- A W1C clear. The bits of `m` from 32 on are events that occur on the tick of the clear. -/
def State.clearBits (s : State) (l : Loc) (m : Nat) : State :=
  if l = HDR.EVT l.page then
    ((List.range 32).foldl (fun s b => if bitOf m (32 + b) then s.raise l.page b else s) s).clearEvents l.page (m % 2 ^ 32)
  else
    let s := s.set l (clearMask l.wid (s.get l) m)
    if l.page = 0x122 then
      let base := (if l = AGEING.CAND_TX_LO then 0 else if l = AGEING.CAND_TX_HI then 32 else if l = AGEING.CAND_RX_LO then 64 else 96)
      { s with ret := { s.ret with candAt := s.ret.candAt.filter (fun e =>
          !(decide (base ≤ e.1 ∧ e.1 < base + 32) && bitOf m (e.1 - base))) } }
    else s

/-- The elevation of Sumac ends (R408). -/
def State.monDrop (s : State) : State := { s with mon := { s.mon with until_ := 0 } }.set MONITOR.LEVEL 0

/-- CANCEL: it withdraws a commit whose swap has not been made (R47). -/
def State.commitCancel (s : State) (pg : Nat) : State := if s.copying.look pg = 0 then s.withdrawCommit pg else s

/-- A trigger of a header acts. -/
def State.headerTrigger (s : State) (l : Loc) : State :=
  if l = HDR.SRST l.page then s.softReset l.page
  else if l = HDR.CANCEL l.page then s.commitCancel l.page
  else if l = HDR.REQ l.page then s.commitReq l.page
  else s

/-- A trigger of a page below 0x0E0 acts, with the values in force; `data` is the word that carried it. Beside it
MGMT_RESTART carries the slots whose flash cannot be read. -/
def State.lowTrigger (s : State) (l : Loc) (data : Nat) : State :=
  let pg := l.page
  if l = DEVICE.BOOT_OK then s.bootOk
  else if l = DEVICE.DEVICE_RESET then s.deviceReset 3
  else if l = DEVICE.MGMT_RESTART then s.mgmtRestart 7 (data / 2 ^ 32)
  else if l = SECURITY.OTP_GO then s.otpGo (s.get SECURITY.OTP_OP) (s.get SECURITY.OTP_ARG)
  else if l = SECURITY.LR_GO then s.lrGo
  else if l = SECURITY.KE_GO then s.keGo (s.get SECURITY.KE_OP)
  else if l = SECURITY.CHAL then s.dbgChal
  else if l = SECURITY.UNLOCK then s.dbgUnlock
  else if l = TIMEBASE.STEP_GO then s.stepGo
  else if l = TIMEBASE.VALID_SET then s.validSet
  else if isRxPage pg then s.decAlign (pathOf pg)
  else if l = BEAM.FILL_GO 0 then s.fillGo
  else if pg = 0x0A5 then s.updReq ((l.off - 0x040) / 4)
  else if pg = 0x0A6 then s.jobRelease ((l.off - 0x040) / 32)
  else if pg = 0x0A9 then s.flush ((l.off - 0x040) / 16)
  else if l = CAL0.FG_GO then s.fgGo
  else if l = CAL0.FG_ABORT then s.fgAbort
  else if 0x0B8 ≤ pg ∧ pg < 0x0C8 then
    let n := pg - 0x0B8
    if l = DS.BITSLIP n then s.bitslip n else if l = DS.CNT_CLR n then s.cntClr n else s
  else if 0x0C8 ≤ pg ∧ pg < 0x0D8 then
    let n := pg - 0x0C8
    if l = US.INJ_SINGLE n then s.inject n 1 else if l = US.INJ_BURST n then s.inject n (s.get (US.BURST_LEN n) + 1) else s
  else s

/-- A trigger of a page from 0x0E0 on acts, with the values in force; `at_` is the always-on tick at which it was
recognised, which stamps a capture trigger (R96, R346). -/
def State.highTrigger (s : State) (c : Cls) (l : Loc) (data at_ : Nat) : State :=
  let pg := l.page
  if l = SOUND2.POP then s.sndPop
  else if l = SOUND2.REM_GO then s.set SOUND2.REM_BUSY 1
  else if l = BCAST2.CAL_GO then s.timingCalGo
  else if l = BCAST2.CAL_CLR then s.timingCalClr
  else if l = BCAST3.POP then s.sdqPop
  else if l = BCAST3.FLUSH then s.sdqFlush
  else if 0x0E8 ≤ pg ∧ pg < 0x0F0 then
    let k := pg - 0x0E8
    if l = CP.TRIG k then s.softTrig k at_ else if l = CP.DISARM k then s.capStop k else if l = CP.ARM k then s.softArm k else s
  else if 0x0F1 ≤ pg ∧ pg < 0x0F9 then
    let k := pg - 0x0F1
    if l = DMAC.DESC k then s.dmaDoorbell k c data else if l = DMAC.ABORT k then s.dmaAbort k else s
  else if isClovePage pg then
    let k := pg - 0x100
    if l = CLOVE.SWAP_GO k then s.swapGo k
    else if l = CLOVE.MBOX_IRQ k then s.line k 4
    else if l = CLOVE.LOAD k then s.loadStart k
    else s
  else if l = MGMT.KICK then s.wdKick (data % 256)
  else if l = LOG.FLUSH then s.logFlush
  else if l = LOG.GO then s.fwRecord c (bits data 0 8) (bits data 16 2)
  else if l = UPDATE.GO then s.updGo c (s.get (perClass UPDATE.OP c)) (s.get (perClass UPDATE.ARG c))
  else if l = MONITOR.DROP then s.monDrop
  else if l = BIST.GO then s.bistGo (s.get BIST.TARGET)
  else if l = BIST.ABORT then s.bistAbort
  else if l = BIST.RES_POP then s.bistPop
  else if l = FUSEMAP.GO then s.fuseGo (s.get FUSEMAP.OP) (s.get FUSEMAP.ARG)
  else if l = HKADC.GO then s.hkGo (s.get HKADC.CH)
  else if l = HKADC.Q_POP then s.hkPop
  else s

/-- A clear or trigger acts, with the values then in force (R60); it was recognised at the always-on tick `at_`. -/
def State.trigAct (s : State) (c : Cls) (l : Loc) (data at_ : Nat) : State :=
  if l = HDR.EVT l.page then s.clearBits l data
  else if l.acc = .w1c then s.clearBits l (bits data l.lo l.wid)
  else if l.off < 0x02C then s.headerTrigger l
  else if l.page < 0x0E0 then s.lowTrigger l data
  else s.highTrigger c l data at_

/-- The chapter's own refusal of a trigger that a word `data` carries. -/
def State.trigOwn (s : State) (c : Cls) (data : Nat) (l : Loc) : Option Nat :=
  let pg := l.page
  if l.acc = .w1c ∨ l.off < 0x02C then none
  else if l = TIMELINE0.ENQ_CODE then s.pushRefusal c data (s.written c TIMELINE0.ENQ_ARG)
  else if l = BEAM.FILL_GO 0 then s.fillRefusal (bits data 0 9)
  else if pg = 0x0A5 then s.updRefusal ((l.off - 0x040) / 4)
  else if l = SOUND2.REM_GO then if s.on SOUND2.REM_BUSY then some stPENDING else none
  else if 0x0E8 ≤ pg ∧ pg < 0x0F0 then s.capRefusal l (pg - 0x0E8)
  else if 0x0F1 ≤ pg ∧ pg < 0x0F9 ∧ l = DMAC.DESC (pg - 0x0F1) then s.doorbellRefusal (pg - 0x0F1)
  else if isClovePage pg ∧ l = CLOVE.LOAD (pg - 0x100) then s.loadRefusal (pg - 0x100)
  else if l = LOG.GO then fwRefusal (bits data 0 8)
  else none

/-- The clears and triggers of a word that `data` sets off. ENQ_ACT, a DOORBELL and a KICK act on every write; the fields
beside GO of the log and the other fields of ENQ_ACT carry values only. -/
def trigFires (data : Nat) (l : Loc) : Bool :=
  match l.acc with
  | .w1c => bits data l.lo l.wid != 0
  | .wo =>
    if l = TIMELINE0.ENQ_CODE then true
    else if l.page = 0x0A8 ∨ l = LOG.SEV ∨ l = LOG.TYPE then false
    else if l = MGMT.KICK ∨ (0x0F1 ≤ l.page ∧ l.page < 0x0F9 ∧ l.off = 0x040) then true
    else bitOf data l.lo
  | _ => false

/-- The field takes part in arbitration: a written one that is neither a clear nor a trigger (R57, R60). -/
def Loc.arbitrated (l : Loc) : Bool :=
  match l.acc with
  | .rw | .rws | .rl | .setOnly => true
  | _ => false

end Sys2Proof.Machine
end

