-- ==== Sys2Proof/Machine/Read.lean ====
section
/-! DEFINITION. What a read of register space returns: the values that reading computes, the latched high words (R85,
R266), and the checks of R45. -/

namespace Sys2Proof.Machine

/-- The elevation of Sumac is in force (R408): its token is valid, the last command is less than 600 s old, and the halt,
which holds Sumac at level 0 (R22), is not latched. -/
def State.monElevated (s : State) : Bool :=
  decide (s.ao < s.mon.until_) && decide (s.ao < s.mon.lastCmd + 600 * tickS) && s.get MONITOR.LEVEL != 0 && !s.on DEVICE.HALT

/-- Elevation is locked (R408). -/
def State.monLocked (s : State) : Bool := decide (s.ao < s.mon.lockEnd)

/-- The high word that a read of a low word latches (R85, R266, R386). -/
def hiOf (l : Loc) : Option Loc :=
  if l = TIMEBASE.NOW_LO then some TIMEBASE.NOW_HI
  else if l = MGMT.MTIME_LO then some MGMT.MTIME_HI
  else if 0x0B8 ≤ l.page ∧ l.page < 0x0C8 then
    let n := l.page - 0x0B8
    if l = DS.BIT_CNT_LO n then some (DS.BIT_CNT_HI n)
    else if l = DS.ERR_CNT_LO n then some (DS.ERR_CNT_HI n)
    else none
  else none

/-- PATH_STATE: 5 while the path is withdrawn. -/
def State.pathState (s : State) (n : Nat) : Nat := if (s.path n).wdr then 5 else (s.path n).st.code

/-- The value of a field of a page below 0x0E0 as it reads now. -/
def State.liveLow (s : State) (l : Loc) : Nat :=
  let pg := l.page
  let n := pathOf pg
  if isRxPage pg then
    if l = RXPATH.PATH_STATE n then s.pathState n
    else if l = RXPATH.INSEL_ACT n then s.insel n
    else s.get l
  else if isTxPage pg then
    if l = TXPATH.PATH_STATE n then s.pathState n
    else if l = TXPATH.DRV n then s.drv n
    else s.get l
  else if l = DEVICE.UNAVAIL_TIME_LO then s.unavailMs % 2 ^ 32
  else if l = DEVICE.UNAVAIL_TIME_HI then s.unavailMs / 2 ^ 32
  else if l = DEVICE.STABLE_TIME then s.stableTime
  else if l = DEVICE.CONT_LEFT then s.contLeft
  else if l = DEVICE.SVC_LEVEL then s.svcLevel
  else if pg = 0x003 ∧ 0x080 ≤ l.off then s.arbPend ((l.off - 0x080) / 4)
  else if l = CPLL.BYPASS then max (s.get l) (if s.ao < s.clk.bypUntil then 1 else 0)
  else if l = TIMEBASE.NOW_LO then s.now % 2 ^ 32
  else if l = TIMEBASE.NOW_HI then s.now / 2 ^ 32
  else if pg = 0x0AF ∧ l.wid = 16 ∧ l.lo = 0 ∧ l.off < 0x440 then
    s.arrayAge (if l.off % 8 = 0 then 0 else 1) ((l.off - 0x040) / 8)
  else if l = ERL0.MGT_PEND then (s.updJobs.filter (fun j => j.tag.isSome)).length
  else if 0x0B8 ≤ pg ∧ pg < 0x0C8 then
    let k := pg - 0x0B8
    if l = DS.BIT_CNT_LO k then s.bitCount k % 2 ^ 32
    else if l = DS.BIT_CNT_HI k then s.bitCount k / 2 ^ 32
    else s.get l
  else s.get l

/-- The value of a field of a page from 0x0E0 on as it reads now. -/
def State.liveHigh (s : State) (l : Loc) : Nat :=
  let pg := l.page
  if l = SOUND0.RX_STATE then if s.get l = 1 ∧ s.sndRxPaths = [] then 0 else s.get l
  else if l = SOUND3.MEAS_AGE then s.measAge
  else if l = BCAST2.MEAS_AGE then s.aniseAge
  else if 0x0E8 ≤ pg ∧ pg < 0x0F0 ∧ l = CP.OWNED_DPD (pg - 0x0E8) then if s.capOwned (pg - 0x0E8) then 1 else 0
  else if isClovePage pg ∧ l = CLOVE.STATE (pg - 0x100) then s.coreState (pg - 0x100)
  else if l = MGMT.IMG_SLOT_PREF then s.dirPref
  else if l = MGMT.MTIME_LO then s.mtime % 2 ^ 32
  else if l = MGMT.MTIME_HI then s.mtime / 2 ^ 32
  else if pg = 0x110 ∧ 0x100 ≤ l.off ∧ l.off < 0x140 then s.irqPend ((l.off - 0x100) / 4)
  else if pg = 0x111 ∧ 0x048 ≤ l.off ∧ l.off < 0x068 then s.logHead ((l.off - 0x048) / 4)
  else if l = UPDATE.DIR then s.dirWord
  else if l = MONITOR.LEVEL then if s.monElevated then s.get l else 0
  else if l = MONITOR.LEFT then if s.monElevated then min 86400 ((s.mon.until_ - s.ao) / tickS) else 0
  else if l = MONITOR.LOCKED then if s.monLocked then 1 else 0
  else if l = GPIO.VIO_GOOD then s.pwr.vio
  else s.get l

/-- The value of a field as it reads now. -/
def State.liveField (s : State) (l : Loc) : Nat :=
  if l.off < 0x02C then s.get l else if l.page < 0x0E0 then s.liveLow l else s.liveHigh l

/-- The value that a read by a class returns: a latched high word, the class's own copy, or the value now. A write-only
field reads 0, and a shadowed field the value written (R5). -/
def State.readField (s : State) (c : Cls) (l : Loc) : Nat :=
  if l.acc = .wo then 0
  else if l.acc = .rws then s.inactive l
  else match s.latches.find? (fun x => x.1 == c.code && x.2.1 == l.key) with
  | some x => x.2.2
  | none => if isPerClass l then s.get (perClass l c) else trunc l.wid (s.liveField l)

/-- What a read leaves behind: the latched high words of the low words it read; a latch is used once. -/
def State.readLatch (s : State) (c : Cls) (ls : List Loc) : State :=
  let new := ls.filterMap (fun l => (hiOf l).map (fun h => (c.code, h.key, s.liveField h)))
  let used := ls.map Loc.key ++ new.map (fun x => x.2.1)
  if new.isEmpty && !(s.latches.any (fun x => x.1 == c.code && used.contains x.2.1)) then s
  else { s with latches := s.latches.filter (fun x => !(x.1 == c.code && used.contains x.2.1)) ++ new }

/-- A read of a word of register space: its status, the word and the state (R4, R41, R45, R52, R85). -/
def State.readWord (s : State) (c : Cls) (pg off : Nat) : Nat × Nat × State :=
  if s.testPortAllows c false pg off 0 = false ∨ s.right pg c < 1 then (stDENIED, 0, s)
  else if pg = 0x002 ∧ off = 0x064 then
    let r := s.rngWord c
    (stOK, r.1, r.2)
  else
    let ls := wordLocs pg off
    (stOK, (ls.map (fun l => s.readField c l * 2 ^ l.lo)).foldl (· + ·) 0, s.readLatch c ls)

end Sys2Proof.Machine
end

