-- ==== Sys2Proof/Machine/Access.lean ====
section
/-! DEFINITION. Accesses to registers (02): the arrival of words, coincidence windows, commits, the host's SPI port, the
JTAG register port, the baseband's REG requests and the Clove bridge. -/

namespace Sys2Proof.Machine

/-- The time that passes while no command waits: one tick (log entry 2). The samples of the tick that ends are processed with
the state that its commands left. -/
def State.idle (s : State) : State := if s.pwr.vaux then s.streamTick.tick.bareTick.rateTick.lifeTick.writeWindow else s

/-- `n` ticks pass. -/
def State.later (s : State) : Nat → State
  | 0 => s
  | n + 1 => State.later s.idle n

/-! ### The arrival of a word (R45, R57, R60) -/

/-- The whole word is refused at check 2 or 3 of R45, or by the limits of the TEST port. -/
def State.wordRefusal (s : State) (c : Cls) (pg off data : Nat) : Option Nat :=
  if s.testPortAllows c true pg off data = false then some stDENIED else s.pageRefusal c pg

/-- What refuses one part of a word `data` at checks 4 to 6: a field, or a clear or trigger. -/
def State.partRefusal (s : State) (c : Cls) (data : Nat) (l : Loc) : Option Nat :=
  if Loc.arbitrated l then s.fieldRefusal c l (bits data l.lo l.wid) (s.fieldOwn c data l)
  else s.fieldRefusal c l 1 (s.trigOwn c data l)

/-- The same trigger bit that another writer has set already will act within 8 ticks: the two act once (R60). A word that
is a trigger as a whole carries a request of its own. -/
def State.triggerMerges (s : State) (c : Cls) (agent : Nat) (l : Loc) : Bool :=
  l.acc == .wo && l.wid == 1 &&
    s.triggers.any (fun t => t.loc == l && decide (s.ao < t.actAt) && !(t.cls == c && t.agent == agent))

/-- One part of word `id` joins its window, or waits for its action tick. -/
def State.joinPart (s : State) (c : Cls) (agent id data : Nat) (l : Loc) : State :=
  if Loc.arbitrated l then
    s.joinWindow (if isPerClass l then perClass l c else l)
      { cls := c, agent := agent, val := bits data l.lo l.wid, tick := s.ao, word := id }
  else { s with triggers := s.triggers ++ [({ loc := l, cls := c, agent := agent, val := data, actAt := s.ao + 8, word := id } : Trigger)] }

/-- A number that no waiting word has. -/
def State.newWord (s : State) : Nat := (s.words.map WordSt.id).foldl max 0 + 1

/-- What a refused part raises in its own chapter: Q_FULL (R219) and BLK_CONFLICT (R176). -/
def State.arriveEvents (s : State) (pg off data : Nat) (codes : List Nat) : State :=
  if pg = 0x0A8 ∧ off = 0x054 ∧ codes.contains stPENDING then s.raise 0x0A8 EV.TIMELINE0.Q_FULL
  else if (pg = 0x0A2 ∨ pg = 0x0A3) ∧ s.setConflict (pg - 0x0A2) ((off - 0x040) / 4) data then s.raise pg EV.BEAMSET.BLK_CONFLICT
  else s

/-- The parts `ls` of a 32-bit word arrive, each checked; a word that waits for windows or triggers is numbered, any other is
answered at once. Bits of `data` from 32 on are no part of the word: they carry what a row reports beside it. -/
def State.arrive (s : State) (c : Cls) (agent pg off data : Nat) (ls : List Loc) : Option Nat × State :=
  if s.deaf then (none, s)
  else if assigned pg = false then (none, s.noField c pg off)
  else match s.wordRefusal c pg off (data % 2 ^ 32) with
  | some code => (none, (s.refuseWrite c (regAddr pg off) code).reply c [] code)
  | none =>
    let codes := ls.filterMap (s.partRefusal c data)
    let good := ls.filter (fun l => (s.partRefusal c data l).isNone)
    let joins := good.filter (fun l => l != TIMELINE0.ENQ_CODE && !s.triggerMerges c agent l)
    let id := s.newWord
    let s := if codes = [] then s else s.refuseWrite c (regAddr pg off) (wordCode codes)
    let s := s.arriveEvents pg off data codes
    let s := if good.contains TIMELINE0.ENQ_CODE then s.enqAct c data else s
    if joins = [] then (none, s.reply c [] (wordCode codes))
    else
      let s := joins.foldl (fun s l => s.joinPart c agent id data l) s
      (some id, { s with words := s.words ++ [⟨id, c, regAddr pg off, wordCode codes, false, joins.length⟩] })

/-- The clears and triggers of a word that fire. -/
def wordTriggers (pg off data : Nat) : List Loc := (wordLocs pg off).filter (trigFires data)

/-- The arbitrated fields of a word, and the clears and triggers that it sets off. -/
def wordParts (pg off data : Nat) : List Loc := (wordLocs pg off).filter Loc.arbitrated ++ wordTriggers pg off data

/-! ### Windows close, and triggers act (R58 to R60) -/

/-- A word is answered: its port reads the answer. -/
def State.ack (s : State) (w : WordSt) : State :=
  let st := if w.code ≠ stOK then w.code else if w.sup then stSUPERSEDED else stOK
  { s.reply w.cls [] st with acks := s.acks ++ [(w.id, { cls := w.cls, data := [], status := st })] }

/-- One part of word `id` is settled; `sup`: it was superseded. With its last part the word is answered. -/
def State.credit (s : State) (id : Nat) (sup : Bool) : State :=
  match s.words.find? (fun w => w.id == id) with
  | none => s
  | some w =>
    let w := { w with left := w.left - 1, sup := w.sup || sup }
    if w.left = 0 then { s with words := s.words.filter (fun x => x.id != id) }.ack w
    else { s with words := s.words.map (fun x => if x.id = id then w else x) }

/-- The writes of a window are settled: a write whose writer's latest value is not the one that holds is superseded. -/
def State.creditAll (s : State) (ws : List WinWrite) (v : Nat) : State :=
  let lost := (latestWrites ws).filter (fun x => decide (x.val ≠ v))
  ws.foldl (fun s x => s.credit x.word (lost.any (fun y => decide (y.cls = x.cls ∧ y.agent = x.agent)))) s

/-- The class whose write decides a window. -/
def State.windowClass (s : State) (w : Window) : Cls :=
  match s.winner w.loc w.writes with
  | some x => x.1.cls
  | none => .mgmt

/-- The window of a field is resolved: the value that takes effect, with the ARBITER's record and the writers' answers. -/
def State.takeWindow (s : State) (w : Window) : Option Nat × State :=
  let s := { s with windows := s.windows.filter (fun x => decide (x.loc ≠ w.loc)) }
  let held := s.fieldHeld w.loc
  let r := s.resolve w.loc w.writes held s.tb
  (r.1, r.2.creditAll w.writes (held.getD (r.1.getD 0)))

/-- The window of a field, where it is due. -/
def State.dueWindow (s : State) (l : Loc) : Option Window := s.windows.find? (fun w => decide (w.loc = l ∧ w.openAt + 8 ≤ s.ao))

/-- The due window of a field, if there is one, is resolved. -/
def State.takeDue (s : State) (l : Loc) : Option Nat × State :=
  match s.dueWindow l with
  | some w => s.takeWindow w
  | none => (none, s)

/-- STD and FREQ of CFG close together: they are judged together (R319). -/
def State.closeTune (s : State) : State :=
  let a := s.takeDue BCAST0.STD
  let b := a.2.takeDue BCAST0.FREQ
  b.2.retune (a.1.getD (b.2.get BCAST0.STD)) (b.1.getD (b.2.get BCAST0.FREQ))

/-- RANGE and CODE of a gate bias close together: the code is judged in the range of its word (R168). -/
def State.closeBias (s : State) (k : Nat) : State :=
  let a := s.takeDue (AUXDAC.RANGE k)
  let b := a.2.takeDue (AUXDAC.CODE k)
  if a.1.isNone ∧ b.1.isNone then b.2 else b.2.biasTarget k a.1 b.1

/-- A window closes: one value takes effect. -/
def State.closeWindow (s : State) (w : Window) : State :=
  let k := (w.loc.off - 0x040) / 4
  if w.loc = BCAST0.STD ∨ w.loc = BCAST0.FREQ then s.closeTune
  else if w.loc.page = auxPage ∧ (w.loc = AUXDAC.RANGE k ∨ w.loc = AUXDAC.CODE k) then s.closeBias k
  else
    let c := s.windowClass w
    let r := s.takeWindow w
    match r.1 with
    | some v => if 0x200 ≤ w.loc.page then r.2.set w.loc v else r.2.fieldEff c w.loc v
    | none => r.2

/-- A clear or trigger acts. -/
def State.triggerActs (s : State) (t : Trigger) : State :=
  (State.trigAct { s with triggers := s.triggers.erase t } t.cls t.loc t.val (t.actAt - 8)).credit t.word false

/-- The next tick at which a window closes or a clear or trigger acts. -/
def State.nextDue (s : State) : Option Nat :=
  (s.windows.map (fun (w : Window) => w.openAt + 8) ++ s.triggers.map Trigger.actAt).min?

/-- What is due at or before tick `now` happens in the order of its ticks: of one tick the windows close first, in the order
in which they opened, and then the clears and triggers act, in the order of arrival. -/
def State.closeDue (s : State) (now : Nat) : Nat → State
  | 0 => s
  | n + 1 =>
    match s.nextDue with
    | none => s
    | some d =>
      if now < d then s
      else match s.windows.find? (fun w => decide (w.openAt + 8 = d)) with
      | some w => State.closeDue (s.closeWindow w) now n
      | none =>
        match s.triggers.find? (fun t => decide (t.actAt = d)) with
        | some t => State.closeDue (s.triggerActs t) now n
        | none => s

/-- All that is due at tick `now`. -/
def State.dueAt (s : State) (now : Nat) : State := s.closeDue now (s.windows.length + s.triggers.length)

/-- The coincidence windows that have lasted 8 ticks close, and the clears and triggers of their words act. -/
def State.windowsClose (s : State) : State := if s.deaf then s else s.dueAt s.ao

def execCoincidenceWindowClose (s : State) : Out := .next { s with acks := [] }.windowsClose

/-! ### A write that its row carries through -/

/-- One tick passes, to tick `now`, and what is due then happens. Open windows, waiting triggers, unanswered words and answers
are set aside while time moves. -/
def State.passTick (s : State) (now : Nat) : State :=
  let t := { s with windows := [], triggers := [], words := [], acks := [] }.idle
  { t with windows := s.windows, triggers := s.triggers, words := s.words, acks := s.acks }.dueAt now

/-- `n` ticks pass from tick `now` on. -/
def State.pass (s : State) (now : Nat) : Nat → State
  | 0 => s
  | n + 1 => State.pass (s.passTick (now + 1)) (now + 1) n

/-- The answer of word `id`, where it has one, stands. -/
def State.answered (s : State) (id : Nat) : State :=
  match s.acks.find? (fun a => a.1 == id) with
  | some a => { s with answer := some a.2 }
  | none => s

/-- A word is written and carried through: it arrives, the 8 ticks pass within which its windows close and its triggers act,
and its answer stands (log entry 3). -/
def State.carry (s : State) (c : Cls) (agent pg off data : Nat) (ls : List Loc) : State :=
  let r := { s with acks := [] }.arrive c agent pg off data ls
  match r.1 with
  | none => r.2
  | some id => (r.2.pass s.ao 8).answered id

/-- A row writes one field. -/
def State.rowField (s : State) (c : Cls) (agent : Nat) (l : Loc) (v : Nat) : State :=
  s.carry c agent l.page l.off (trunc l.wid v * 2 ^ l.lo) [l]

/-- A row sets off one trigger, with what else its word carries. -/
def State.rowTrig (s : State) (c : Cls) (l : Loc) (data : Nat := 0) : State := s.carry c 0 l.page l.off data [l]

/-- Words of one page are written together and carried through: their statuses, in order. -/
def State.carryWords (s : State) (c : Cls) (agent pg : Nat) (ws : List (Nat × Nat)) : List Nat × State :=
  let r := ws.foldl (fun (a : List (Option Nat × Nat) × State) w =>
    let x := a.2.arrive c agent pg w.1 w.2 (wordParts pg w.1 w.2)
    (a.1 ++ [(x.1, match x.2.answer with | some y => y.status | none => stOK)], x.2)) ([], { s with acks := [] })
  let s := r.2.pass s.ao 8
  (r.1.map (fun x => match x.1 with
    | some id => (match s.acks.find? (fun a => a.1 == id) with | some a => a.2.status | none => stOK)
    | none => x.2), s)

/-- The status of the last answer. -/
def State.lastStatus (s : State) : Nat := match s.answer with | some x => x.status | none => stOK

/-- One 32-bit write of register space through a port, carried through. -/
def State.writeWord (s : State) (c : Cls) (agent pg off data : Nat) : State :=
  s.carry c agent pg off data (wordParts pg off data)

/-- A load of Pepper's returns the effect of every earlier store of its to the page (R49): it waits for their windows. -/
def State.loadWait (s : State) (c : Cls) (pg : Nat) : State :=
  if c = .mgmt ∧ (s.windows.any (fun w => w.loc.page % 0x200 == pg && w.writes.any (fun x => x.cls == .mgmt))
      || s.triggers.any (fun t => t.loc.page == pg && t.cls == .mgmt)) then s.pass s.ao 8
  else s

/-! ### REG_WRITE -/

/-- An access to an address outside what the port reaches, narrower than a word, or not a multiple of 4. -/
def State.badAddr (s : State) (c : Cls) (addr status : Nat) : State := (s.refuseWrite c addr status).reply c [] status

/-- The address lies in register space (R30). -/
def inRegs (a : Nat) : Bool := decide (regBase ≤ a ∧ a < regBase + 0x200000)
def pageOf (a : Nat) : Nat := (a - regBase) / 0x1000
def offOf (a : Nat) : Nat := a % 0x1000

/-- A register write by a principal, of `size` bytes: its fields join their windows. A store of Pepper's outside register
space is one into its memories (log entry 65). -/
def execRegWrite (c : Cls) (agent size addr data : Nat) (s : State) : Out :=
  .next (if s.deaf then s
    else if c = .mgmt ∧ inRegs addr = false then s.store addr size data
    else if size ≠ 4 ∨ inRegs addr = false ∨ addr % 4 ≠ 0 then s.badAddr c addr stBUS_ERROR
    else (s.arrive c agent (pageOf addr) (offOf addr) (trunc 32 data)
      (wordParts (pageOf addr) (offOf addr) (trunc 32 data))).2)

/-! ### Commits (R46 to R48) -/

/-- The page's chapter lets its banks swap on this tick: a sample boundary of the stream that it serves. -/
def State.swapBoundaryOf (s : State) (pg : Nat) : Bool :=
  if isLoopPage pg then s.tb % s.inc == 0
  else if isRxPage pg || isTxPage pg || pg == 0x0AD || pg == 0x0AE then s.tb % 2 == 0 && s.onEdge
  else if 0x090 ≤ pg ∧ pg < 0x098 then s.isPatternStart s.tb
  else if 0x098 ≤ pg ∧ pg < 0x0A0 then s.tb % 128 == 0
  else if pg = 0x0A0 ∨ pg = 0x0A1 then
    s.tb % rateL (s.get (BEAM.RATE (pg - 0x0A0))) == 0 && !(s.beams.getD (pg - 0x0A0) {}).wait
  else true

/-- A beam commit that awaited its gains beyond its boundary is late (R183). -/
def State.swapLate (s : State) (c : CommitSt) : Bool :=
  c.late || ((c.page == 0x0A0 || c.page == 0x0A1) && !c.immed &&
    decide (c.target + rateL (s.get (BEAM.RATE (c.page - 0x0A0))) ≤ s.tb))

/-- A commit of a MONTAP page: the detectors start anew, and a source that is withdrawn holds the results (R135, R136). -/
def State.tapCommitted (s : State) (t : Nat) : State :=
  let s := s.setTap t (fun x => { x with since := s.tb })
  if s.tapHeld t then s.tapHold t else s

/-- What a commit of the page does besides the swap. `old` is the state before it. -/
def State.committed (s old : State) (pg : Nat) : State :=
  if isLoopPage pg then s.loopCommitted old (pg - 0x004)
  else if isRxPage pg then (s.rxCommitted old (pathOf pg)).slewCommitted old (pathOf pg) (rxSlewed (pathOf pg))
  else if isTxPage pg then (s.txCommitted old (pathOf pg)).slewCommitted old (pathOf pg) (txSlewed (pathOf pg))
  else if 0x090 ≤ pg ∧ pg < 0x098 then s.octCommitted (pg - 0x090)
  else if 0x098 ≤ pg ∧ pg < 0x0A0 then s.tapCommitted (pg - 0x098)
  else if pg = 0x0A0 ∨ pg = 0x0A1 then s.beamCommitted old (pg - 0x0A0)
  else if pg = 0x0AD ∨ pg = 0x0AE then s.calCommitted (pg - 0x0AD)
  else s

/-- The banks of a page swap (R46). -/
def State.swapBanks (s : State) (pg : Nat) : State :=
  { s with regs := swapStores pg s.bank s.regs }.set (HDR.BANK pg) (1 - s.get (HDR.BANK pg))

/-- The swap of a pending commit, where it is due. -/
def State.commitSwap (s : State) (pg : Nat) : State :=
  match s.commits.find? (fun c => decide (c.page = pg)) with
  | none => s
  | some c =>
    if s.tbRun = false ∨ s.tb < c.target ∨ s.swapBoundaryOf pg = false then s
    else
      let late := s.swapLate c
      let old := s
      let s := s.swapBanks pg
      let s := { s with commits := s.commits.filter (fun x => decide (x.page ≠ pg)), copying := s.copying.put pg (s.tb + 1) }
      let s := s.set (HDR.LAST_LATE pg) (if late then 1 else 0)
      let s := if late then s.raise pg evLATE else s
      (s.committed old pg).raise pg evCOMMIT_DONE

def execCommitSwap (pg : Nat) (s : State) : Out := .next (s.commitSwap pg)

/-- The copy of the new active bank completes: reads return the values in force, and PENDING falls (R47). -/
def State.copyDone (s : State) (pg : Nat) : State :=
  if s.copying.look pg = 0 then s
  else
    let s := { s with copying := s.copying.put pg 0, bank := s.bank.filter (fun e => decide (keyPage e.1 ≠ pg)) }
    let s := s.set (HDR.PENDING pg) 0
    if isRxPage pg || isTxPage pg then s.calPageFree pg
    else if pg = 0x0AD ∨ pg = 0x0AE then s.arrayPageFree (pg - 0x0AD)
    else s

def execCommitCopyDone (pg : Nat) (s : State) : Out := .next (s.copyDone pg)

/-! ### Ports -/

/-- What a port reaches: register space, the weight window, the capture window, and the rest of Pepper's map. -/
inductive Reach where
  | regs | weights | capture | all
  deriving DecidableEq, Repr

/-- The port reaches the address outside register space. -/
def Reach.mem (r : Reach) (a : Nat) : Bool :=
  match r with
  | .regs => false
  | .weights => inWeights a
  | .capture => inWeights a || inCapture a
  | .all => inWeights a || inCapture a || inSram a || inFlash a || inModel a || cloveData a

/-- One word written through a port and carried through: its status and the state. -/
def State.portWrite (s : State) (r : Reach) (c : Cls) (agent a v : Nat) : Nat × State :=
  if c = .test ∧ s.mode ≠ 3 ∧ s.mode ≠ 7 then (stDENIED, s.refuse c a stDENIED)                    -- R52
  else if a % 4 ≠ 0 then (stBUS_ERROR, s.refuse c a stBUS_ERROR)
  else if inRegs a then
    let s := s.writeWord c agent (pageOf a) (offOf a) (trunc 32 v)
    (s.lastStatus, s)
  else if r.mem a then
    let x := s.busWrite c a (trunc 32 v)
    (x.1, if 2 ≤ x.1 then x.2.refuse c a x.1 else x.2)
  else (stBUS_ERROR, s.refuse c a stBUS_ERROR)

/-- One word read through a port: its status, the word (0 where it is refused) and the state. -/
def State.portRead (s : State) (r : Reach) (c : Cls) (a : Nat) : Nat × Nat × State :=
  let x :=
    if c = .test ∧ s.mode ≠ 3 ∧ s.mode ≠ 7 then (stDENIED, 0, s)
    else if a % 4 ≠ 0 then (stBUS_ERROR, 0, s)
    else if inRegs a then s.readWord c (pageOf a) (offOf a)
    else if r.mem a then s.busRead c a
    else (stBUS_ERROR, 0, s)
  if 2 ≤ x.1 then (x.1, 0, x.2.2.refuse c a x.1) else x

/-- Words written from an address on, with or without increment: their statuses and the state. -/
def State.portWrites (s : State) (r : Reach) (c : Cls) (inc : Bool) : Nat → List Nat → List Nat × State
  | _, [] => ([], s)
  | a, v :: t =>
    let x := s.portWrite r c 0 a v
    let y := State.portWrites x.2 r c inc (if inc then (a + 4) % 2 ^ 32 else a) t
    (x.1 :: y.1, y.2)

/-- Words read likewise: their statuses, the words and the state. -/
def State.portReads (s : State) (r : Reach) (c : Cls) (inc : Bool) : Nat → Nat → List Nat × List Nat × State
  | _, 0 => ([], [], s)
  | a, n + 1 =>
    let x := s.portRead r c a
    let y := State.portReads x.2.2 r c inc (if inc then (a + 4) % 2 ^ 32 else a) n
    (x.1 :: y.1, x.2.1 :: y.2.1, y.2.2)

/-- The status byte of a transaction (R54). -/
def spiStatus (l : List Nat) : Nat :=
  let bad := l.filter (fun x => decide (x ≠ stOK))
  0xA0 + (if 1 < bad.length then 8 else 0) + bad.headD 0

/-- A complete SPI transaction (R53, R54): a read of `n` words, or a write of the words `ws`, 1 to 64 of them. -/
def State.spi (s : State) (rd inc : Bool) (addr n : Nat) (ws : List Nat) : State :=
  if s.deaf then s
  else if addr % 4 ≠ 0 then (s.refuse .host addr stFORMAT).reply .host [] (spiStatus [stFORMAT])
  else if rd then
    let r := s.portReads .capture .host inc addr (clipNat 1 64 n)
    r.2.2.reply .host r.2.1 (spiStatus r.1)
  else
    let r := s.portWrites .capture .host inc addr (ws.take 64)
    r.2.reply .host [] (spiStatus r.1)

def execSpiTransaction (rd inc : Bool) (addr n : Nat) (ws : List Nat) (s : State) : Out :=
  .next (s.spi rd inc (trunc 32 addr) n ws)

/-- HCS_N rises early: the words of a write that were received whole stand, a read has no effect, and there is no status
(R55). -/
def State.spiAbort (s : State) (rd inc : Bool) (addr : Nat) (ws : List Nat) : State :=
  if s.deaf then s
  else if rd ∨ addr % 4 ≠ 0 then { s with answer := none }
  else { (s.portWrites .capture .host inc addr (ws.take 64)).2 with answer := none }

def execSpiAbort (rd inc : Bool) (addr : Nat) (ws : List Nat) (s : State) : Out :=
  .next (s.spiAbort rd inc (trunc 32 addr) ws)

/-- The JTAG register port (R52). -/
def State.jtag (s : State) (write : Bool) (addr data : Nat) : State :=
  if s.deaf then s
  else if write then
    let r := s.portWrite .regs .test 0 addr data
    r.2.reply .test [] r.1
  else
    let r := s.portRead .regs .test addr
    r.2.2.reply .test [r.2.1] r.1

def execJtagRegAccess (write : Bool) (addr data : Nat) (s : State) : Out := .next (s.jtag write (trunc 32 addr) data)

/-- Four-bit statuses packed into words, eight a word (R289). -/
def packStatus (l : List Nat) : List Nat :=
  (List.range ((l.length + 7) / 8)).map (fun j =>
    ((List.range 8).map (fun i => l.getD (8 * j + i) 0 * 16 ^ i)).foldl (· + ·) 0)

/-- An MGT REG request (R50, R289): word 1 holds the tag and a command byte as on SPI; then come the address, a reserved
word and the words written. `waiting` requests have had no response: a ninth is discarded and counted. -/
def State.mgtReg (s : State) (waiting : Nat) (ws : List Nat) (broken : Bool) : State :=
  match s.sendClear.receiveAs 4 (some 1) ws broken with
  | (none, s) => s
  | (some p, s) =>
    if 8 ≤ waiting + (s.updJobs.filter (fun j => j.tag.isSome)).length then s.count ERL1.MGT_OVF_CNT
    else
      let inc := bitOf p.w1 6
      let n := bits p.w1 0 6 + 1
      let addr := p.body.getD 0 0
      if bitOf p.w1 7 then
        let r := s.portReads .weights .bb inc addr n
        r.2.2.send 4 0x81 (p.w1 / 2 ^ 24 * 2 ^ 24 + p.w1 % 256) ([addr, 0] ++ r.2.1 ++ packStatus r.1)
      else
        let r := s.portWrites .weights .bb inc addr ((p.body.drop 2).take n)
        r.2.send 4 0x81 (p.w1 / 2 ^ 24 * 2 ^ 24 + p.w1 % 256) ([addr, 0] ++ packStatus r.1)

def execMgtReg (waiting : Nat) (ws : List Nat) (broken : Bool) (s : State) : Out := .next (s.mgtReg waiting ws broken)

/-- The access of a core's register bridge completes (R373). -/
def State.bridgeDone (s : State) (c : Nat) : State :=
  match (s.core c).brRun with
  | none => s
  | some write =>
    let a := (s.core c).brAddr
    let (st, d, s) : Nat × Nat × State :=
      if write then
        let r := s.portWrite .all .dsp c a (s.core c).brData
        (r.1, (s.core c).brData, r.2)
      else s.portRead .all .dsp a
    (s.setCore c (fun k => { k with brRun := none, brCode := st, brData := d })).line c 3

def execBridgeDone (c : Nat) (s : State) : Out := .next (s.bridgeDone (c % 8))

end Sys2Proof.Machine
end

