-- ==== Sys2Proof/Machine/Sumac.lean ====
section
/-! DEFINITION. Sumac, the serial monitor (R407 to R409): its commands, its levels and their ends. A command is one whole
line; its answer carries the words that the reply shows and 0 for OK, or the code of ERR. -/

namespace Sys2Proof.Machine

/-- The codes of ERR beside those of R45: a malformed command, and too low a level (R407). -/
def errMALFORMED : Nat := 8
def errLEVEL : Nat := 9

def State.setMon (s : State) (f : MonSt → MonSt) : State := { s with mon := f s.mon }

/-- Sumac responds: not during a management restart, nor while its pins and processor are held (R407, R490). -/
def State.monHears (s : State) : Bool := !s.deaf && !s.mgmtDown

/-- The level in force. -/
def State.monLevel (s : State) : Nat := if s.monElevated then s.get MONITOR.LEVEL else 0

def State.monReply (s : State) (data : List Nat) (status : Nat) : State := s.reply .mon data status

/-- One command: an elevation that has run out is over, and the command counts for the 600 s. -/
def State.monCommand (s : State) (level : Nat) (eff : State → State) : State :=
  if s.monHears = false then s
  else
    let s := if s.monElevated then s else s.monDrop
    let s := s.setMon (fun m => { m with lastCmd := s.ao })
    if s.monLevel < level then s.monReply [] errLEVEL else eff s

/-- INFO: part, stepping, serial, mode, BOOT_REASON, LAST_FAIL, FAIL_COUNT, slot, IMG_VER and RB_ACT. -/
def State.monInfo (s : State) : State :=
  s.monReply [s.get DEVICE.PART, s.get DEVICE.STEP, s.otp.serial % 2 ^ 32, s.otp.serial / 2 ^ 32, s.mode,
    s.get DEVICE.BOOT_REASON, s.get DEVICE.LAST_FAIL, s.get DEVICE.FAIL_COUNT, s.get MGMT.SLOT, s.get MGMT.IMG_VER_ACT,
    s.get MGMT.RB_ACT] stOK

def execSumacInfo (s : State) : Out := .next (s.monCommand 0 State.monInfo)

/-- The first code that is not OK. -/
def firstBad (l : List Nat) : Nat := (l.filter (fun x => decide (x ≠ stOK))).headD stOK

/-- RD a n. -/
def State.monRead (s : State) (a n : Nat) : State :=
  if n = 0 ∨ 64 < n then s.monReply [] errMALFORMED
  else
    let r := s.portReads .capture .mon true a n
    r.2.2.monReply r.2.1 (firstBad r.1)

def execSumacRd (a n : Nat) (s : State) : Out := .next (s.monCommand 0 (fun s => s.monRead (trunc 32 a) n))

/-- LOG s n: the records from SEQ s on, eight words each. -/
def State.monLog (s : State) (q n : Nat) : State :=
  if n = 0 ∨ 64 < n then s.monReply [] errMALFORMED
  else s.monReply ((s.logRun q n).map LogRec.words).flatten stOK

def execSumacLog (q n : Nat) (s : State) : Out := .next (s.monCommand 0 (fun s => s.monLog (trunc 32 q) n))

/-- CHAL: a fresh nonce replaces any earlier one. After a health test failed no nonce is issued (R416). -/
def State.monChal (s : State) : State :=
  if s.rngFailed then (s.setMon (fun m => { m with nonce := none })).monReply [] stDENIED
  else
    let r := s.rngs 4
    (r.2.setMon (fun m => { m with nonce := some r.1 })).monReply r.1 stOK

def execSumacChal (s : State) : Out := .next (s.monCommand 0 State.monChal)

/-- A failed ELEV: the third in a row locks elevation for 300 s (R408). -/
def State.elevFailed (s : State) : State :=
  let s := s.count MONITOR.ELEV_FAIL_CNT
  if 3 ≤ s.mon.fails + 1 then
    (s.setMon (fun m => { m with fails := 0, lockEnd := s.ao + 300 * tickS })).raise 0x113 EV.MONITOR.ELEV_LOCKED
  else s.setMon (fun m => { m with fails := m.fails + 1 })

/-- ELEV with a token of 42 words (R408, R425, R426). While elevation is locked it fails whatever the token is, with a
result that the spec does not give. -/
def State.monElev (s : State) (w : List Nat) : State :=
  if w.length ≠ 42 then s.monReply [] errMALFORMED
  else
    let nonce := s.mon.nonce
    let s := s.setMon (fun m => { m with nonce := none })
    let level := bits (w.getD 1 0) 16 4
    let signer := bits (w.getD 1 0) 8 2
    if s.monLocked then
      let r := s.freeNat
      let s := r.2.logHw 0x07 1 0x113 (level % 4 + signer * 16 + r.1 % 256 * 256) 0 0
      (s.count MONITOR.ELEV_FAIL_CNT).monReply [] stDENIED
    else
      let r := s.tokenCheck w 1 nonce
      let s := s.logHw 0x07 1 0x113 (level % 4 + signer * 16 + r * 256) 0 0
      if r = 0 then
        let s := s.setMon (fun m => { m with fails := 0, until_ := s.ao + w.getD 2 0 * tickS })
        ((s.set MONITOR.LEVEL level).set MONITOR.SIGNER signer).raise 0x113 EV.MONITOR.ELEVATED |>.monReply [] stOK
      else s.elevFailed.monReply [] stDENIED

def execSumacElev (w : List Nat) (s : State) : Out := .next (s.monCommand 0 (fun s => s.monElev (w.map (trunc 32))))

def execSumacDrop (s : State) : Out := .next (s.monCommand 0 (fun s => s.monDrop.monReply [] stOK))

/-- START: in M0 with BOOTSEL 0b10, M1 is requested. -/
def State.monStart (s : State) : State :=
  if s.mode = 0 ∧ s.get MGMT.BOOTSEL = 2 ∧ s.trans = none then (s.modeJudge .mon false 1).monReply [] stOK
  else s.monReply [] stDENIED

def execSumacStart (s : State) : Out := .next (s.monCommand 0 State.monStart)

/-- WR a v: at level 0 Sumac refuses it itself with ACCESS_DENIED (R51). -/
def State.monWrite (s : State) (a v : Nat) : State :=
  if s.monLevel = 0 then s.monReply [] stDENIED
  else
    let r := s.portWrite .capture .mon 0 a v
    r.2.monReply [] r.1

def execSumacWr (a v : Nat) (s : State) : Out := .next (s.monCommand 0 (fun s => s.monWrite (trunc 32 a) (trunc 32 v)))

/-- MODE m. -/
def State.monMode (s : State) (m : Nat) : State :=
  if 7 < m then s.monReply [] errMALFORMED
  else s.rowField .mon 0 DEVICE.MODE_REQ m

def execSumacMode (m : Nat) (s : State) : Out := .next (s.monCommand 1 (fun s => s.monMode m))

/-- BAUD r: the reply goes at the old rate, which this model does not show. -/
def State.monBaud (s : State) (r : Nat) : State :=
  if 7 < r then s.monReply [] errMALFORMED
  else s.rowField .mon 0 MONITOR.BAUD r

def execSumacBaud (r : Nat) (s : State) : Out := .next (s.monCommand 1 (fun s => s.monBaud r))

/-- RECOVER: in M2 the device enters M1 for one start, with reason 0x05. -/
def State.monRecover (s : State) : State :=
  if s.mode = 2 then (s.deviceReset 5).monReply [] stOK else s.monReply [] stDENIED

def execSumacRecover (s : State) : Out := .next (s.monCommand 1 State.monRecover)

/-- UPD op arg ofs hex: an UPDATE operation of class MON, under the page's ACCESS. A line carries at most 256 bytes. -/
def State.monUpd (s : State) (op arg ofs : Nat) (data : List Nat) : State :=
  if 7 < op ∨ 255 < arg ∨ 64 < data.length then s.monReply [] errMALFORMED
  else match s.writeRefusal .mon UPDATE.GO 1 none with
  | some code => (s.refuse .mon (regAddr 0x112 0x040) code).monReply [] code
  | none =>
    if s.act 0x112 = false then s.monReply [] stOK
    else if s.on UPDATE.BUSY then (s.set UPDATE.RESULT 11).monReply [] stOK
    else
      (s.updIssue { cls := .mon, op := op, arg := arg, ofs := ofs, len := 4 * data.length, data := data, tag := none }).monReply
        [] stOK

def execSumacUpd (op arg ofs : Nat) (data : List Nat) (s : State) : Out :=
  .next (s.monCommand 2 (fun s => s.monUpd op arg (trunc 32 ofs) (data.map (trunc 32))))

/-- A break of at least 10 ms on MONRX. -/
def execMonrxBreak (s : State) : Out := .next (if s.deaf then s else s.monDrop)

/-- The validity of the token or the 600 s have run out. -/
def execElevationExpiry (s : State) : Out := .next (if s.monElevated then s else s.monDrop)

/-- The 300 s of the lock are over. -/
def execElevLockExpiry (s : State) : Out := .next (if s.monLocked then s else s.setMon (fun m => { m with lockEnd := 0 }))

end Sys2Proof.Machine
end

