-- ==== Sys2Proof/Machine/Rows.lean ====
section
/-! DEFINITION. The rows that are a write of a field or trigger of its own: each is carried from its arrival to the close of
its windows and the action of its triggers (R57 to R60, log entry 3). What the value then does is in the chapter's file. -/

namespace Sys2Proof.Machine

/-! ### The common header (R32 to R48) -/

def execPageEnable (c : Cls) (agent pg v : Nat) (s : State) : Out :=
  .next (s.carry c agent pg 0x004 (v % 2) (if noEnable pg then [] else [HDR.EN pg]))

/-- SRST written beside EN: the word's EN takes effect first, and the reset acts with it (R60). -/
def execSoftReset (c : Cls) (agent pg en : Nat) (s : State) : Out :=
  .next (s.carry c agent pg 0x004 (2 + en % 2) (if noEnable pg then [HDR.SRST pg] else [HDR.EN pg, HDR.SRST pg]))

def execLevelReqWrite (c : Cls) (agent pg v : Nat) (s : State) : Out := .next (s.rowField c agent (HDR.LEVEL_REQ pg) v)

/-- A clear of the bits `mask` of EVT; `again` are events that occur on the tick on which it acts. -/
def execEvtClear (c : Cls) (pg mask again : Nat) (s : State) : Out :=
  .next (s.rowTrig c (HDR.EVT pg) (mask % 2 ^ 32 + again * 2 ^ 32))

def execEvtEnWrite (c : Cls) (agent pg v : Nat) (s : State) : Out := .next (s.rowField c agent (HDR.EVT_EN pg) v)

/-- The five rights of a word of ACCESS. -/
def execAccessWrite (c : Cls) (agent pg data : Nat) (s : State) : Out :=
  .next (s.carry c agent pg 0x018 (trunc 32 data) ([Cls.test, .mon, .dsp, .host, .bb].map (HDR.RIGHT pg)))

def execAccLock (c : Cls) (agent pg : Nat) (s : State) : Out := .next (s.rowField c agent (HDR.ACC_LOCK pg) 1)
def execFieldLock (c : Cls) (agent pg : Nat) (s : State) : Out := .next (s.rowField c agent (HDR.FIELD_LOCK pg) 1)

/-- REQ, with the IMMED of the same word; a page without shadowed fields has neither. -/
def execCommitReq (c : Cls) (agent pg immed : Nat) (s : State) : Out :=
  .next (s.carry c agent pg 0x020 (1 + immed % 2 * 4) (if hasShadow pg then [HDR.IMMED pg, HDR.REQ pg] else []))

def execCommitCancel (c : Cls) (pg : Nat) (s : State) : Out :=
  .next (s.carry c 0 pg 0x020 2 (if hasShadow pg then [HDR.CANCEL pg] else []))

/-! ### The device and its clocks -/

def execModeReqWrite (c : Cls) (agent v : Nat) (s : State) : Out := .next (s.rowField c agent DEVICE.MODE_REQ v)
def execDeviceReset (c : Cls) (s : State) : Out := .next (s.rowTrig c DEVICE.DEVICE_RESET)

/-- MGMT_RESTART; `flashBad` are the image slots whose flash cannot be read. -/
def execMgmtRestart (c : Cls) (flashBad : Nat) (s : State) : Out := .next (s.rowTrig c DEVICE.MGMT_RESTART (flashBad * 2 ^ 32))

def execBootOk (c : Cls) (s : State) : Out := .next (s.rowTrig c DEVICE.BOOT_OK)
def execStepGo (c : Cls) (s : State) : Out := .next (s.rowTrig c TIMEBASE.STEP_GO)
def execValidSet (c : Cls) (s : State) : Out := .next (s.rowTrig c TIMEBASE.VALID_SET)

/-- A read of NOW_LO latches the high word for the reading class (R85). -/
def State.nowLoRead (s : State) (c : Cls) : State :=
  if s.deaf then s
  else
    let s := s.loadWait c 0x008
    if s.right 0x008 c = 0 ∨ s.testPortAllows c false 0x008 0x040 0 = false then
      (s.refuse c (regAddr 0x008 0x040) stDENIED).reply c [0] stDENIED
    else (s.nowLo c).reply c [s.now % 2 ^ 32] stOK

def execNowLoRead (c : Cls) (s : State) : Out := .next (s.nowLoRead c)

/-! ### Paths and outputs -/

def execDecAlign (c : Cls) (n : Nat) (s : State) : Out := .next (s.rowTrig c (RXPATH.DEC_ALIGN n))

def execThrCfgWrite (c : Cls) (agent : Nat) (tx : Bool) (n which data : Nat) (s : State) : Out :=
  let r := thrRegs tx n
  .next (s.carry c agent r.page (0x0C0 + 4 * which) (trunc 32 data) (thrFields r which))

def execTxMuteWrite (c : Cls) (agent n v : Nat) (s : State) : Out := .next (s.rowField c agent (muteLoc n) v)
def execRetireWrite (c : Cls) (agent n v : Nat) (s : State) : Out := .next (s.rowField c agent (TXPATH.RETIRE n) v)

def execRxRetireWrite (c : Cls) (agent : Nat) (hi : Bool) (v : Nat) (s : State) : Out :=
  .next (s.rowField c agent (if hi then AGEING.RX_RETIRE_HI else AGEING.RX_RETIRE_LO) v)

/-- One word of VBIASk.CFG. -/
def execVbiasCfgWrite (c : Cls) (agent k data : Nat) (s : State) : Out :=
  .next (s.writeWord c agent auxPage (0x040 + 4 * k) (trunc 32 data))

/-! ### Beams, predistortion, calibration and the timeline -/

/-- One word of a set table. -/
def execSetTableWrite (c : Cls) (agent d set data : Nat) (s : State) : Out :=
  .next (s.writeWord c agent (setPage d) (0x040 + 4 * set) (trunc 32 data))

/-- FILL_GO, for the block that FILL_BLK names. -/
def execFillGo (c : Cls) (s : State) : Out := .next (s.rowTrig c (BEAM.FILL_GO 0) (s.get (BEAM.FILL_BLK 0)))

def execJobRelease (c : Cls) (core : Nat) (s : State) : Out := .next (s.rowTrig c (DPD2.JOB_RELEASE core))
def execUpdReq (c : Cls) (p : Nat) (s : State) : Out := .next (s.rowTrig c (DPD1.UPD_REQ p))
def execFgGo (c : Cls) (s : State) : Out := .next (s.rowTrig c CAL0.FG_GO)
def execFgAbort (c : Cls) (s : State) : Out := .next (s.rowTrig c CAL0.FG_ABORT)
def execEnqAct (c : Cls) (act : Nat) (s : State) : Out := .next (s.rowTrig c TIMELINE0.ENQ_CODE (trunc 32 act))
def execQueueFlush (c : Cls) (g : Nat) (s : State) : Out := .next (s.rowTrig c (TIMELINE1.FLUSH g))

/-! ### Lanes, sounding and the broadcast receiver -/

def execBitslip (c : Cls) (n : Nat) (s : State) : Out := .next (s.rowTrig c (DS.BITSLIP n))
def execCntClr (c : Cls) (n : Nat) (s : State) : Out := .next (s.rowTrig c (DS.CNT_CLR n))
def execInjSingle (c : Cls) (n : Nat) (s : State) : Out := .next (s.rowTrig c (US.INJ_SINGLE n))
def execInjBurst (c : Cls) (n : Nat) (s : State) : Out := .next (s.rowTrig c (US.INJ_BURST n))
def execSoundRxqPop (c : Cls) (s : State) : Out := .next (s.rowTrig c SOUND2.POP)
def execRemGo (c : Cls) (s : State) : Out := .next (s.rowTrig c SOUND2.REM_GO)

/-- CFG with both STD and FREQ, which are judged together (R319). -/
def execBcastRetune (c : Cls) (agent std khz : Nat) (s : State) : Out :=
  .next (s.carry c agent 0x0E4 0x040 (std % 4 * 2 ^ 30 + khz % 2 ^ 18) [BCAST0.STD, BCAST0.FREQ])

def execTimingCalGo (c : Cls) (s : State) : Out := .next (s.rowTrig c BCAST2.CAL_GO)
def execTimingCalClr (c : Cls) (s : State) : Out := .next (s.rowTrig c BCAST2.CAL_CLR)
def execSdqPop (c : Cls) (s : State) : Out := .next (s.rowTrig c BCAST3.POP)
def execSdqFlush (c : Cls) (s : State) : Out := .next (s.rowTrig c BCAST3.FLUSH)

/-! ### Capture and DMA -/

def execArm (c : Cls) (k : Nat) (s : State) : Out := .next (s.rowTrig c (CP.ARM k))

/-- DISARM (R348). -/
def execDisarm (c : Cls) (k : Nat) (s : State) : Out := .next (s.rowTrig c (CP.DISARM k))

def execCaptureSoftTrig (c : Cls) (k : Nat) (s : State) : Out := .next (s.rowTrig c (CP.TRIG k))
def execRdPtrWrite (c : Cls) (agent k v : Nat) (s : State) : Out := .next (s.rowField c agent (CP.RD_PTR k) v)

def execDmaDoorbell (cls : Cls) (c desc : Nat) (s : State) : Out := .next (s.rowTrig cls (DMAC.DESC (c % 8)) (trunc 32 desc))
def execDmaAbort (cls : Cls) (c : Nat) (s : State) : Out := .next (s.rowTrig cls (DMAC.ABORT (c % 8)))

/-! ### The cores, management and the log -/

/-- LOAD, with the HITLESS of the same word. -/
def State.loadWord (s : State) (cls : Cls) (agent c hit : Nat) : State :=
  s.carry cls agent (0x100 + c) 0x04C (2 ^ 31 + hit) [CLOVE.HITLESS c, CLOVE.LOAD c]

def execKernelLoad (cls : Cls) (agent c : Nat) (s : State) : Out := .next (s.loadWord cls agent (c % 8) 0)
def execHitlessLoad (cls : Cls) (agent c : Nat) (s : State) : Out := .next (s.loadWord cls agent (c % 8) 1)
def execRunWrite (cls : Cls) (agent c v : Nat) (s : State) : Out := .next (s.rowField cls agent (CLOVE.RUN (c % 8)) v)
def execMboxIrq (cls : Cls) (c : Nat) (s : State) : Out := .next (s.rowTrig cls (CLOVE.MBOX_IRQ (c % 8)))
def execSwapGo (cls : Cls) (c : Nat) (s : State) : Out := .next (s.rowTrig cls (CLOVE.SWAP_GO (c % 8)))

def execWdEnable (c : Cls) (agent : Nat) (s : State) : Out := .next (s.rowField c agent MGMT.WD_EN 1)
def execWdKick (c : Cls) (v : Nat) (s : State) : Out := .next (s.rowTrig c MGMT.KICK (v % 256))

/-- OP and ARG of the class, and GO. -/
def State.updOp (s : State) (c : Cls) (op arg : Nat) : State :=
  s.carry c 0 0x112 0x040 (2 ^ 31 + op * 2 ^ 8 + arg % 256) [UPDATE.OP, UPDATE.ARG, UPDATE.GO]

def execUpdOpen (c : Cls) (arg : Nat) (s : State) : Out := .next (s.updOp c 1 arg)
def execUpdChunk (c : Cls) (arg : Nat) (s : State) : Out := .next (s.updOp c 2 arg)
def execUpdVerify (c : Cls) (arg : Nat) (s : State) : Out := .next (s.updOp c 3 arg)
def execUpdActivate (c : Cls) (arg : Nat) (s : State) : Out := .next (s.updOp c 4 arg)
def execUpdConfirm (c : Cls) (arg : Nat) (s : State) : Out := .next (s.updOp c 5 arg)
def execUpdAbort (c : Cls) (arg : Nat) (s : State) : Out := .next (s.updOp c 6 arg)
def execRbAdvance (c : Cls) (arg : Nat) (s : State) : Out := .next (s.updOp c 7 arg)

def execFwLogRecord (c : Cls) (type sev : Nat) (s : State) : Out :=
  .next (s.rowTrig c LOG.GO (2 ^ 31 + sev % 4 * 2 ^ 16 + type % 256))

def execLogFlushCmd (c : Cls) (s : State) : Out := .next (s.rowTrig c LOG.FLUSH)
def execLogRdSeq (c : Cls) (agent q : Nat) (s : State) : Out := .next (s.rowField c agent LOG.RD_SEQ q)
def execMonitorDrop (c : Cls) (s : State) : Out := .next (s.rowTrig c MONITOR.DROP)

/-! ### Security, self-test and sensing -/

/-- OP, ARG and GO of OTP_CMD. -/
def State.otpOp (s : State) (c : Cls) (op arg : Nat) : State :=
  s.carry c 0 0x002 0x04C (2 ^ 31 + op * 2 ^ 16 + arg % 32) [SECURITY.OTP_OP, SECURITY.OTP_ARG, SECURITY.OTP_GO]

def execProgHash (c : Cls) (arg : Nat) (s : State) : Out := .next (s.otpOp c 1 arg)
def execRevoke (c : Cls) (arg : Nat) (s : State) : Out := .next (s.otpOp c 2 arg)
def execScanPermit (c : Cls) (arg : Nat) (s : State) : Out := .next (s.otpOp c 3 arg)
def execGenId (c : Cls) (arg : Nat) (s : State) : Out := .next (s.otpOp c 4 arg)
def execLrAdvance (c : Cls) (arg : Nat) (s : State) : Out := .next (s.otpOp c 5 arg)
def execLrLoad (c : Cls) (s : State) : Out := .next (s.rowTrig c SECURITY.LR_GO)

/-- OP and GO of KE_CMD. -/
def State.keOp (s : State) (c : Cls) (op : Nat) : State :=
  s.carry c 0 0x002 0x058 (2 ^ 31 + op * 2 ^ 16) [SECURITY.KE_OP, SECURITY.KE_GO]

def execGenEph (c : Cls) (s : State) : Out := .next (s.keOp c 1)
def execDerive (c : Cls) (s : State) : Out := .next (s.keOp c 2)
def execAttest (c : Cls) (s : State) : Out := .next (s.keOp c 3)

def execRngDataRead (c : Cls) (s : State) : Out := .next (if s.deaf then s else (s.loadWait c 0x002).rngRead c)

def execDbgChal (c : Cls) (s : State) : Out := .next (s.rowTrig c SECURITY.CHAL)
def execDbgUnlock (c : Cls) (s : State) : Out := .next (s.rowTrig c SECURITY.UNLOCK)

/-- OP, ARG and GO of the fuse map's command. -/
def State.fuseOp (s : State) (c : Cls) (op arg : Nat) : State :=
  s.carry c 0 0x11A 0x044 (2 ^ 31 + op * 2 ^ 8 + arg % 32) [FUSEMAP.OP, FUSEMAP.ARG, FUSEMAP.GO]

def execFuseProgram (c : Cls) (s : State) : Out := .next (s.fuseOp c 1 0)
def execFuseCancel (c : Cls) (arg : Nat) (s : State) : Out := .next (s.fuseOp c 2 arg)

/-- TARGET and GO. -/
def execBistGo (c : Cls) (t : Nat) (s : State) : Out := .next (s.carry c 0 0x119 0x040 (2 ^ 31 + t % 256) [BIST.TARGET, BIST.GO])

def execBistAbort (c : Cls) (s : State) : Out := .next (s.rowTrig c BIST.ABORT)
def execBistResPop (c : Cls) (s : State) : Out := .next (s.rowTrig c BIST.RES_POP)

/-- CH and GO. -/
def execHkadcGo (c : Cls) (ch : Nat) (s : State) : Out :=
  .next (s.carry c 0 0x120 0x088 (2 ^ 31 + ch % 64) [HKADC.CH, HKADC.GO])

def execHkadcQPop (c : Cls) (s : State) : Out := .next (s.rowTrig c HKADC.Q_POP)

/-! ### CTL COMMIT (R288) -/

/-- COMMIT: BB writes of COMMIT_TB and then of COMMIT with REQ and the given IMMED. -/
def State.ctlCommit (s : State) (p : Packet) : List Nat × State :=
  let r := s.carryWords .bb 0 (bits p.w1 0 9)
    [(0x024, p.body.getD 0 0), (0x028, p.body.getD 1 0), (0x020, 1 + 4 * bits p.w1 31 1)]
  ([(r.1.find? (fun x => x != stOK)).getD stOK], r.2)

def execCtlCommit (waiting : Nat) (ws : List Nat) (broken : Bool) (s : State) : Out :=
  .next (s.ctl 3 waiting ws broken (fun p s => s.ctlCommit p))

end Sys2Proof.Machine
end

