-- ==== Sys2Proof/Machine/Dispatch.lean ====
section
/-! DEFINITION. The meaning of each command, one arm per constructor (rigid form). -/

namespace Sys2Proof.Machine

/-- The effect of a command on everything but the queue. -/
def exec (i : Instr) (s : State) : Host.Outcome State Fault Refusal :=
  match i with
  | .vauxEnterRange bootsel mv => Sys2Proof.Machine.execVauxEnterRange bootsel mv s
  | .vauxLeaveRange => Sys2Proof.Machine.execVauxLeaveRange s
  | .biasSafeRead => Sys2Proof.Machine.execBiasSafeRead s
  | .radioRailGood rail => Sys2Proof.Machine.execRadioRailGood rail s
  | .radioRailNotGood rail => Sys2Proof.Machine.execRadioRailNotGood rail s
  | .vcoreNotGood => Sys2Proof.Machine.execVcoreNotGood s
  | .bankLoss b => Sys2Proof.Machine.execBankLoss b s
  | .startBegin find flashBad => Sys2Proof.Machine.execStartBegin find flashBad s
  | .resetNAssert => Sys2Proof.Machine.execResetNAssert s
  | .resetNRelease bootsel => Sys2Proof.Machine.execResetNRelease bootsel s
  | .deviceReset c => Sys2Proof.Machine.execDeviceReset c s
  | .modeReqWrite c agent v => Sys2Proof.Machine.execModeReqWrite c agent v s
  | .modeTransitionDone => Sys2Proof.Machine.execModeTransitionDone s
  | .bootOk c => Sys2Proof.Machine.execBootOk c s
  | .bootWatchdogExpiry => Sys2Proof.Machine.execBootWatchdogExpiry s
  | .mgmtRestart c flashBad => Sys2Proof.Machine.execMgmtRestart c flashBad s
  | .contExpired => Sys2Proof.Machine.execContExpired s
  | .contHoldExpiry => Sys2Proof.Machine.execContHoldExpiry s
  | .stableTimeExpiry => Sys2Proof.Machine.execStableTimeExpiry s
  | .thermalHalt k => Sys2Proof.Machine.execThermalHalt k s
  | .regWrite c agent size addr data => Sys2Proof.Machine.execRegWrite c agent size addr data s
  | .pageEnable c agent pg v => Sys2Proof.Machine.execPageEnable c agent pg v s
  | .sequenceEnd pg => Sys2Proof.Machine.execSequenceEnd pg s
  | .softReset c agent pg en => Sys2Proof.Machine.execSoftReset c agent pg en s
  | .levelReqWrite c agent pg v => Sys2Proof.Machine.execLevelReqWrite c agent pg v s
  | .evtClear c pg mask again => Sys2Proof.Machine.execEvtClear c pg mask again s
  | .evtEnWrite c agent pg v => Sys2Proof.Machine.execEvtEnWrite c agent pg v s
  | .accessWrite c agent pg data => Sys2Proof.Machine.execAccessWrite c agent pg data s
  | .accLock c agent pg => Sys2Proof.Machine.execAccLock c agent pg s
  | .fieldLock c agent pg => Sys2Proof.Machine.execFieldLock c agent pg s
  | .commitReq c agent pg immed => Sys2Proof.Machine.execCommitReq c agent pg immed s
  | .commitCancel c pg => Sys2Proof.Machine.execCommitCancel c pg s
  | .commitSwap pg => Sys2Proof.Machine.execCommitSwap pg s
  | .commitCopyDone pg => Sys2Proof.Machine.execCommitCopyDone pg s
  | .coincidenceWindowClose => Sys2Proof.Machine.execCoincidenceWindowClose s
  | .spiTransaction rd inc addr n ws => Sys2Proof.Machine.execSpiTransaction rd inc addr n ws s
  | .spiAbort rd inc addr ws => Sys2Proof.Machine.execSpiAbort rd inc addr ws s
  | .jtagRegAccess write addr data => Sys2Proof.Machine.execJtagRegAccess write addr data s
  | .refLoss => Sys2Proof.Machine.execRefLoss s
  | .refBack rate => Sys2Proof.Machine.execRefBack rate s
  | .lock k => Sys2Proof.Machine.execLock k s
  | .loopReady k => Sys2Proof.Machine.execLoopReady k s
  | .lol k => Sys2Proof.Machine.execLol k s
  | .bandFail k => Sys2Proof.Machine.execBandFail k s
  | .tsyncLoad => Sys2Proof.Machine.execTsyncLoad s
  | .tsyncCheck => Sys2Proof.Machine.execTsyncCheck s
  | .tsyncoPulse => Sys2Proof.Machine.execTsyncoPulse s
  | .outSent => Sys2Proof.Machine.execOutSent s
  | .stepGo c => Sys2Proof.Machine.execStepGo c s
  | .stepDone => Sys2Proof.Machine.execStepDone s
  | .validSet c => Sys2Proof.Machine.execValidSet c s
  | .nowLoRead c => Sys2Proof.Machine.execNowLoRead c s
  | .ovlEngage n => Sys2Proof.Machine.execOvlEngage n s
  | .ovlReleaseStep n below => Sys2Proof.Machine.execOvlReleaseStep n below s
  | .modReset n => Sys2Proof.Machine.execModReset n s
  | .compSwap n => Sys2Proof.Machine.execCompSwap n s
  | .rxqOverflow n => Sys2Proof.Machine.execRxqOverflow n s
  | .txqUnderflow n => Sys2Proof.Machine.execTxqUnderflow n s
  | .usUnderflow => Sys2Proof.Machine.execUsUnderflow s
  | .decAlign c n => Sys2Proof.Machine.execDecAlign c n s
  | .alignDone n => Sys2Proof.Machine.execAlignDone n s
  | .thresholdCrossing tx n => Sys2Proof.Machine.execThresholdCrossing tx n s
  | .thrCfgWrite c agent tx n which data => Sys2Proof.Machine.execThrCfgWrite c agent tx n which data s
  | .peakNew t => Sys2Proof.Machine.execPeakNew t s
  | .msNew t => Sys2Proof.Machine.execMsNew t s
  | .envelopeWord t => Sys2Proof.Machine.execEnvelopeWord t s
  | .cellSwap n => Sys2Proof.Machine.execCellSwap n s
  | .rangeSwitch n => Sys2Proof.Machine.execRangeSwitch n s
  | .rangeDone n => Sys2Proof.Machine.execRangeDone n s
  | .txMuteWrite c agent n v => Sys2Proof.Machine.execTxMuteWrite c agent n v s
  | .txkillAssert => Sys2Proof.Machine.execTxkillAssert s
  | .txkillDeassert => Sys2Proof.Machine.execTxkillDeassert s
  | .complianceFault n short => Sys2Proof.Machine.execComplianceFault n short s
  | .retireWrite c agent n v => Sys2Proof.Machine.execRetireWrite c agent n v s
  | .vbiasCfgWrite c agent k data => Sys2Proof.Machine.execVbiasCfgWrite c agent k data s
  | .vbiasSlewStep k => Sys2Proof.Machine.execVbiasSlewStep k s
  | .vbiasRangeSwitch k => Sys2Proof.Machine.execVbiasRangeSwitch k s
  | .setTableWrite c agent d set data => Sys2Proof.Machine.execSetTableWrite c agent d set data s
  | .weightWrite c addr v => Sys2Proof.Machine.execWeightWrite c addr v s
  | .fillGo c => Sys2Proof.Machine.execFillGo c s
  | .fillDone => Sys2Proof.Machine.execFillDone s
  | .renormDone d => Sys2Proof.Machine.execRenormDone d s
  | .weightDamaged d l k => Sys2Proof.Machine.execWeightDamaged d l k s
  | .limiterWindowEnd => Sys2Proof.Machine.execLimiterWindowEnd s
  | .dpdEnApply p => Sys2Proof.Machine.execDpdEnApply p s
  | .dpdAssign c => Sys2Proof.Machine.execDpdAssign c s
  | .dpdCaptureStart c => Sys2Proof.Machine.execDpdCaptureStart c s
  | .dpdCaptureDone c => Sys2Proof.Machine.execDpdCaptureDone c s
  | .jobRelease c core => Sys2Proof.Machine.execJobRelease c core s
  | .updReq c p => Sys2Proof.Machine.execUpdReq c p s
  | .guardBaselineDone p => Sys2Proof.Machine.execGuardBaselineDone p s
  | .guardVerdict p => Sys2Proof.Machine.execGuardVerdict p s
  | .guardTimeout p => Sys2Proof.Machine.execGuardTimeout p s
  | .modelWrite c addr v => Sys2Proof.Machine.execModelWrite c addr v s
  | .modelDamaged p w => Sys2Proof.Machine.execModelDamaged p w s
  | .slotBoundary g => Sys2Proof.Machine.execSlotBoundary g s
  | .turnDriverSwitch n => Sys2Proof.Machine.execTurnDriverSwitch n s
  | .turnRoundSettled n => Sys2Proof.Machine.execTurnRoundSettled n s
  | .trswChange g => Sys2Proof.Machine.execTrswChange g s
  | .enqAct c act => Sys2Proof.Machine.execEnqAct c act s
  | .queueFlush c g => Sys2Proof.Machine.execQueueFlush c g s
  | .tlWindow g => Sys2Proof.Machine.execTlWindow g s
  | .tlSet g => Sys2Proof.Machine.execTlSet g s
  | .tlOneshot g => Sys2Proof.Machine.execTlOneshot g s
  | .tlCommit g => Sys2Proof.Machine.execTlCommit g s
  | .tlRange g => Sys2Proof.Machine.execTlRange g s
  | .tlRffe g => Sys2Proof.Machine.execTlRffe g s
  | .tlTrig g => Sys2Proof.Machine.execTlTrig g s
  | .windowEnd n => Sys2Proof.Machine.execWindowEnd n s
  | .oneshotEnd n => Sys2Proof.Machine.execOneshotEnd n s
  | .trigoutEnd => Sys2Proof.Machine.execTrigoutEnd s
  | .rffeSequenceStart g t tx => Sys2Proof.Machine.execRffeSequenceStart g t tx s
  | .rffeCommandDone b data perr => Sys2Proof.Machine.execRffeCommandDone b data perr s
  | .laneSleepEnter ds => Sys2Proof.Machine.execLaneSleepEnter ds s
  | .laneWakeStart ds => Sys2Proof.Machine.execLaneWakeStart ds s
  | .laneAwake ds => Sys2Proof.Machine.execLaneAwake ds s
  | .laneWakeRequest ds evt => Sys2Proof.Machine.execLaneWakeRequest ds evt s
  | .wakeFail => Sys2Proof.Machine.execWakeFail s
  | .refCheck dev => Sys2Proof.Machine.execRefCheck dev s
  | .calResult k p vals reason out => Sys2Proof.Machine.execCalResult k p vals reason out s
  | .trimApply p => Sys2Proof.Machine.execTrimApply p s
  | .loPhaseDone x phases => Sys2Proof.Machine.execLoPhaseDone x phases s
  | .corrSlewUpdate => Sys2Proof.Machine.execCorrSlewUpdate s
  | .arrayResult other d p g dly => Sys2Proof.Machine.execArrayResult other d p g dly s
  | .fgGo c => Sys2Proof.Machine.execFgGo c s
  | .fgAbort c => Sys2Proof.Machine.execFgAbort c s
  | .fgDone => Sys2Proof.Machine.execFgDone s
  | .calDue k p => Sys2Proof.Machine.execCalDue k p s
  | .crossSlip g => Sys2Proof.Machine.execCrossSlip g s
  | .clkLoss k => Sys2Proof.Machine.execClkLoss k s
  | .blockLock n => Sys2Proof.Machine.execBlockLock n s
  | .blockLoss n => Sys2Proof.Machine.execBlockLoss n s
  | .bitslip c n => Sys2Proof.Machine.execBitslip c n s
  | .eyePublish n left right => Sys2Proof.Machine.execEyePublish n left right s
  | .prbsSync n => Sys2Proof.Machine.execPrbsSync n s
  | .prbsLoss n errs => Sys2Proof.Machine.execPrbsLoss n errs s
  | .cntClr c n => Sys2Proof.Machine.execCntClr c n s
  | .injSingle c n => Sys2Proof.Machine.execInjSingle c n s
  | .injBurst c n => Sys2Proof.Machine.execInjBurst c n s
  | .injDone n => Sys2Proof.Machine.execInjDone n s
  | .markerSend ofs resume => Sys2Proof.Machine.execMarkerSend ofs resume s
  | .markerReceive lane block frac skew => Sys2Proof.Machine.execMarkerReceive lane block frac skew s
  | .iqdPacket ws broken => Sys2Proof.Machine.execIqdPacket ws broken s
  | .playoutMiss k => Sys2Proof.Machine.execPlayoutMiss k s
  | .iquWindowSend => Sys2Proof.Machine.execIquWindowSend s
  | .ctlWeights waiting ws broken => Sys2Proof.Machine.execCtlWeights waiting ws broken s
  | .ctlTimeline waiting ws broken => Sys2Proof.Machine.execCtlTimeline waiting ws broken s
  | .ctlCommit waiting ws broken => Sys2Proof.Machine.execCtlCommit waiting ws broken s
  | .ctlSleep waiting ws broken => Sys2Proof.Machine.execCtlSleep waiting ws broken s
  | .mgtReg waiting ws broken => Sys2Proof.Machine.execMgtReg waiting ws broken s
  | .mgtUpdate ws broken => Sys2Proof.Machine.execMgtUpdate ws broken s
  | .mgtLogRead ws broken => Sys2Proof.Machine.execMgtLogRead ws broken s
  | .evtPacketSend => Sys2Proof.Machine.execEvtPacketSend s
  | .captureExport k => Sys2Proof.Machine.execCaptureExport k s
  | .timReq ws broken t2 => Sys2Proof.Machine.execTimReq ws broken t2 s
  | .timFin ws broken => Sys2Proof.Machine.execTimFin ws broken s
  | .linkDown c => Sys2Proof.Machine.execLinkDown c s
  | .linkDownTimeout => Sys2Proof.Machine.execLinkDownTimeout s
  | .linkUp => Sys2Proof.Machine.execLinkUp s
  | .burstStart => Sys2Proof.Machine.execBurstStart s
  | .burstSent => Sys2Proof.Machine.execBurstSent s
  | .agcStep lvl => Sys2Proof.Machine.execAgcStep lvl s
  | .burstDetect beamB => Sys2Proof.Machine.execBurstDetect beamB s
  | .falseDetect => Sys2Proof.Machine.execFalseDetect s
  | .rxRecord b => Sys2Proof.Machine.execRxRecord b s
  | .soundRxqPop c => Sys2Proof.Machine.execSoundRxqPop c s
  | .remGo c => Sys2Proof.Machine.execRemGo c s
  | .xferDone => Sys2Proof.Machine.execXferDone s
  | .anisePermit => Sys2Proof.Machine.execAnisePermit s
  | .bcastRetune c agent std khz => Sys2Proof.Machine.execBcastRetune c agent std khz s
  | .synthLock => Sys2Proof.Machine.execSynthLock s
  | .bcastFeCalDone => Sys2Proof.Machine.execBcastFeCalDone s
  | .rdsBlock ofs ok q => Sys2Proof.Machine.execRdsBlock ofs ok q s
  | .rdsGroup a b c d stamp => Sys2Proof.Machine.execRdsGroup a b c d stamp s
  | .afCheck level => Sys2Proof.Machine.execAfCheck level s
  | .afPiCheck pi => Sys2Proof.Machine.execAfPiCheck pi s
  | .dabFrame x => Sys2Proof.Machine.execDabFrame x s
  | .dabPacket addr data ok f => Sys2Proof.Machine.execDabPacket addr data ok f s
  | .dabFollow => Sys2Proof.Machine.execDabFollow s
  | .dabCandidateTimeout => Sys2Proof.Machine.execDabCandidateTimeout s
  | .timingCalGo c => Sys2Proof.Machine.execTimingCalGo c s
  | .timingCalClr c => Sys2Proof.Machine.execTimingCalClr c s
  | .measTimeout => Sys2Proof.Machine.execMeasTimeout s
  | .sdqPop c => Sys2Proof.Machine.execSdqPop c s
  | .sdqFlush c => Sys2Proof.Machine.execSdqFlush c s
  | .arm c k => Sys2Proof.Machine.execArm c k s
  | .disarm c k => Sys2Proof.Machine.execDisarm c k s
  | .captureSoftTrig c k => Sys2Proof.Machine.execCaptureSoftTrig c k s
  | .captureTrigger k cause frac => Sys2Proof.Machine.execCaptureTrigger k cause frac s
  | .autoTimeout k => Sys2Proof.Machine.execAutoTimeout k s
  | .segDone k => Sys2Proof.Machine.execSegDone k s
  | .gap k first resume => Sys2Proof.Machine.execGap k first resume s
  | .rdPtrWrite c agent k v => Sys2Proof.Machine.execRdPtrWrite c agent k v s
  | .dmaDoorbell cls c desc => Sys2Proof.Machine.execDmaDoorbell cls c desc s
  | .dmaAbort cls c => Sys2Proof.Machine.execDmaAbort cls c s
  | .dmaDescDone c => Sys2Proof.Machine.execDmaDescDone c s
  | .dmaPaceResume c => Sys2Proof.Machine.execDmaPaceResume c s
  | .targetTimeout c ofs wr => Sys2Proof.Machine.execTargetTimeout c ofs wr s
  | .parallelDsp c m0 m1 mv => Sys2Proof.Machine.execParallelDsp c m0 m1 mv s
  | .tfr c a b mv => Sys2Proof.Machine.execTfr c a b mv s
  | .add c a b mv => Sys2Proof.Machine.execAdd c a b mv s
  | .sub c a b mv => Sys2Proof.Machine.execSub c a b mv s
  | .neg c a b mv => Sys2Proof.Machine.execNeg c a b mv s
  | .abs c a b mv => Sys2Proof.Machine.execAbs c a b mv s
  | .clr c a mv => Sys2Proof.Machine.execClr c a mv s
  | .rnd c a mv => Sys2Proof.Machine.execRnd c a mv s
  | .sat c a mv => Sys2Proof.Machine.execSat c a mv s
  | .asl c a n mv => Sys2Proof.Machine.execAsl c a n mv s
  | .asr c a n mv => Sys2Proof.Machine.execAsr c a n mv s
  | .addr c a r mv => Sys2Proof.Machine.execAddr c a r mv s
  | .subr c a r mv => Sys2Proof.Machine.execSubr c a r mv s
  | .cmp c a b mv => Sys2Proof.Machine.execCmp c a b mv s
  | .cmpr c a r mv => Sys2Proof.Machine.execCmpr c a r mv s
  | .and c a r mv => Sys2Proof.Machine.execAnd c a r mv s
  | .or c a r mv => Sys2Proof.Machine.execOr c a r mv s
  | .xor c a r mv => Sys2Proof.Machine.execXor c a r mv s
  | .max c a b mv => Sys2Proof.Machine.execMax c a b mv s
  | .min c a b mv => Sys2Proof.Machine.execMin c a b mv s
  | .norm c a r mv => Sys2Proof.Machine.execNorm c a r mv s
  | .li c r imm => Sys2Proof.Machine.execLi c r imm s
  | .move c dst src => Sys2Proof.Machine.execMove c dst src s
  | .addi c dst imm => Sys2Proof.Machine.execAddi c dst imm s
  | .asave c dst src => Sys2Proof.Machine.execAsave c dst src s
  | .aload c dst src => Sys2Proof.Machine.execAload c dst src s
  | .nop c => Sys2Proof.Machine.execNop c s
  | .jmp c cond target => Sys2Proof.Machine.execJmp c cond target s
  | .jsr c cond target => Sys2Proof.Machine.execJsr c cond target s
  | .rts c cond => Sys2Proof.Machine.execRts c cond s
  | .reti c => Sys2Proof.Machine.execReti c s
  | .doLoop c fromReg reg count target => Sys2Proof.Machine.execDo c fromReg reg count target s
  | .yield c => Sys2Proof.Machine.execYield c s
  | .wait c => Sys2Proof.Machine.execWait c s
  | .halt c => Sys2Proof.Machine.execHalt c s
  | .ei c => Sys2Proof.Machine.execEi c s
  | .di c => Sys2Proof.Machine.execDi c s
  | .interruptEntry c => Sys2Proof.Machine.execInterruptEntry c s
  | .coreFault c => Sys2Proof.Machine.execCoreFault c s
  | .ipendClear c v => Sys2Proof.Machine.execIpendClear c v s
  | .mboxOut c v => Sys2Proof.Machine.execMboxOut c v s
  | .tb0Read c => Sys2Proof.Machine.execTb0Read c s
  | .tcmpArm c v => Sys2Proof.Machine.execTcmpArm c v s
  | .coreTimer c => Sys2Proof.Machine.execCoreTimer c s
  | .strDataRead c => Sys2Proof.Machine.execStrDataRead c s
  | .brRead c => Sys2Proof.Machine.execBrRead c s
  | .brWrite c => Sys2Proof.Machine.execBrWrite c s
  | .bridgeDone c => Sys2Proof.Machine.execBridgeDone c s
  | .semAcquire c n => Sys2Proof.Machine.execSemAcquire c n s
  | .semRelease c n => Sys2Proof.Machine.execSemRelease c n s
  | .kernelLoad cls agent c => Sys2Proof.Machine.execKernelLoad cls agent c s
  | .hitlessLoad cls agent c => Sys2Proof.Machine.execHitlessLoad cls agent c s
  | .loadDone c => Sys2Proof.Machine.execLoadDone c s
  | .runWrite cls agent c v => Sys2Proof.Machine.execRunWrite cls agent c v s
  | .mboxIrq cls c => Sys2Proof.Machine.execMboxIrq cls c s
  | .swapGo cls c => Sys2Proof.Machine.execSwapGo cls c s
  | .swapBoundary c => Sys2Proof.Machine.execSwapBoundary c s
  | .swapTimeout c => Sys2Proof.Machine.execSwapTimeout c s
  | .cacheClean a word upset => Sys2Proof.Machine.execCacheClean a word upset s
  | .cacheInvalidate a => Sys2Proof.Machine.execCacheInvalidate a s
  | .cacheCleanInvalidate a word upset => Sys2Proof.Machine.execCacheCleanInvalidate a word upset s
  | .icacheInvalidate => Sys2Proof.Machine.execIcacheInvalidate s
  | .mtimeCompare => Sys2Proof.Machine.execMtimeCompare s
  | .wdEnable c agent => Sys2Proof.Machine.execWdEnable c agent s
  | .wdKick c v => Sys2Proof.Machine.execWdKick c v s
  | .runtimeWatchdogExpiry flashBad => Sys2Proof.Machine.execRuntimeWatchdogExpiry flashBad s
  | .updOpen c arg => Sys2Proof.Machine.execUpdOpen c arg s
  | .updChunk c arg => Sys2Proof.Machine.execUpdChunk c arg s
  | .updVerify c arg => Sys2Proof.Machine.execUpdVerify c arg s
  | .updActivate c arg => Sys2Proof.Machine.execUpdActivate c arg s
  | .updConfirm c arg => Sys2Proof.Machine.execUpdConfirm c arg s
  | .updAbort c arg => Sys2Proof.Machine.execUpdAbort c arg s
  | .rbAdvance c arg => Sys2Proof.Machine.execRbAdvance c arg s
  | .updDone bad flashBad => Sys2Proof.Machine.execUpdDone bad flashBad s
  | .fwLogRecord c type sev => Sys2Proof.Machine.execFwLogRecord c type sev s
  | .logFlush => Sys2Proof.Machine.execLogFlush s
  | .logFlushCmd c => Sys2Proof.Machine.execLogFlushCmd c s
  | .logRdSeq c agent q => Sys2Proof.Machine.execLogRdSeq c agent q s
  | .logFlashReadDone => Sys2Proof.Machine.execLogFlashReadDone s
  | .sumacInfo => Sys2Proof.Machine.execSumacInfo s
  | .sumacRd a n => Sys2Proof.Machine.execSumacRd a n s
  | .sumacLog q n => Sys2Proof.Machine.execSumacLog q n s
  | .sumacChal => Sys2Proof.Machine.execSumacChal s
  | .sumacElev w => Sys2Proof.Machine.execSumacElev w s
  | .sumacDrop => Sys2Proof.Machine.execSumacDrop s
  | .sumacStart => Sys2Proof.Machine.execSumacStart s
  | .sumacWr a v => Sys2Proof.Machine.execSumacWr a v s
  | .sumacMode m => Sys2Proof.Machine.execSumacMode m s
  | .sumacBaud r => Sys2Proof.Machine.execSumacBaud r s
  | .sumacRecover => Sys2Proof.Machine.execSumacRecover s
  | .sumacUpd op arg ofs data => Sys2Proof.Machine.execSumacUpd op arg ofs data s
  | .monrxBreak => Sys2Proof.Machine.execMonrxBreak s
  | .elevationExpiry => Sys2Proof.Machine.execElevationExpiry s
  | .elevLockExpiry => Sys2Proof.Machine.execElevLockExpiry s
  | .monitorDrop c => Sys2Proof.Machine.execMonitorDrop c s
  | .progHash c arg => Sys2Proof.Machine.execProgHash c arg s
  | .revoke c arg => Sys2Proof.Machine.execRevoke c arg s
  | .scanPermit c arg => Sys2Proof.Machine.execScanPermit c arg s
  | .genId c arg => Sys2Proof.Machine.execGenId c arg s
  | .lrAdvance c arg => Sys2Proof.Machine.execLrAdvance c arg s
  | .otpDone bad => Sys2Proof.Machine.execOtpDone bad s
  | .lrLoad c => Sys2Proof.Machine.execLrLoad c s
  | .lrLoadDone => Sys2Proof.Machine.execLrLoadDone s
  | .genEph c => Sys2Proof.Machine.execGenEph c s
  | .derive c => Sys2Proof.Machine.execDerive c s
  | .attest c => Sys2Proof.Machine.execAttest c s
  | .keDone => Sys2Proof.Machine.execKeDone s
  | .sessionKeySwitch => Sys2Proof.Machine.execSessionKeySwitch s
  | .rngDataRead c => Sys2Proof.Machine.execRngDataRead c s
  | .rngFail => Sys2Proof.Machine.execRngFail s
  | .dbgChal c => Sys2Proof.Machine.execDbgChal c s
  | .dbgUnlock c => Sys2Proof.Machine.execDbgUnlock c s
  | .clearDone => Sys2Proof.Machine.execClearDone s
  | .scrubVisit m upset => Sys2Proof.Machine.execScrubVisit m upset s
  | .fuseProgram c => Sys2Proof.Machine.execFuseProgram c s
  | .fuseCancel c arg => Sys2Proof.Machine.execFuseCancel c arg s
  | .fuseDone bad => Sys2Proof.Machine.execFuseDone bad s
  | .bistGo c t => Sys2Proof.Machine.execBistGo c t s
  | .bistAbort c => Sys2Proof.Machine.execBistAbort c s
  | .bistDone fails tx rx cal dev => Sys2Proof.Machine.execBistDone fails tx rx cal dev s
  | .bistResPop c => Sys2Proof.Machine.execBistResPop c s
  | .hkadcGo c ch => Sys2Proof.Machine.execHkadcGo c ch s
  | .hkadcSchedule => Sys2Proof.Machine.execHkadcSchedule s
  | .hkadcCmpHit ch back => Sys2Proof.Machine.execHkadcCmpHit ch back s
  | .hkadcConversionDone sup ch xs bad => Sys2Proof.Machine.execHkadcConversionDone sup ch xs bad s
  | .hkadcCalibration start dev => Sys2Proof.Machine.execHkadcCalibration start dev s
  | .hkadcQPop c => Sys2Proof.Machine.execHkadcQPop c s
  | .slackWindowEnd adc dac up => Sys2Proof.Machine.execSlackWindowEnd adc dac up s
  | .pmTelemetry vout iout temp => Sys2Proof.Machine.execPmTelemetry vout iout temp s
  | .pmAlert status => Sys2Proof.Machine.execPmAlert status s
  | .pmVoutCheck ack vout => Sys2Proof.Machine.execPmVoutCheck ack vout s
  | .retireGraceExpiry d n => Sys2Proof.Machine.execRetireGraceExpiry d n s
  | .rxRetireWrite c agent hi v => Sys2Proof.Machine.execRxRetireWrite c agent hi v s
  | .lifeDayClose => Sys2Proof.Machine.execLifeDayClose s
  | .gpioEdge k rising => Sys2Proof.Machine.execGpioEdge k rising s
  | .timMeasLapse => Sys2Proof.Machine.execTimMeasLapse s
  | .cuminMeasLapse => Sys2Proof.Machine.execCuminMeasLapse s
  | .timRsp id t3 => Sys2Proof.Machine.execTimRsp id t3 s
  | .markerWindowEnd => Sys2Proof.Machine.execMarkerWindowEnd s
  | .dabSyncLoss => Sys2Proof.Machine.execDabSyncLoss s
  | .dsckPresent k dev => Sys2Proof.Machine.execDsckPresent k dev s
  | .startLockTimeout => Sys2Proof.Machine.execStartLockTimeout s

end Sys2Proof.Machine
end

