-- ==== Sys2Proof/Safety.lean ====
section
/-! DEFINITION. The terms in which claims are stated: the sound states, and what a command leaves unchanged. -/

namespace Sys2Proof.Machine

/-- A sound state: the register banks and memory are in their one form, the block has the units that R1, R2 and the
chapters give it, and no more than 32 event packets wait (R292). -/
structure State.Sound (s : State) : Prop where
  regs : s.regs.wf = true
  bank : s.bank.wf = true
  mem : Memory.wf s.mem = true
  paths : s.paths.length = 64
  rxs : s.rxs.length = 65
  txs : s.txs.length = 65
  octs : s.octs.length = 8
  bias : s.bias.length = 16
  cores : s.cores.length = 8
  caps : s.caps.length = 8
  dmas : s.dmas.length = 8
  taps : s.taps.length = 8
  beams : s.beams.length = 2
  evtQ : s.evtQ.length ≤ 32

/-- Every register field whose number is not among `ks` has the same value in force in both states. -/
def SameRegs (ks : List Nat) (s t : State) : Prop := ∀ l : Loc, l.key ∉ ks → t.get l = s.get l

/-- Every byte of addressed memory reads the same in both states. -/
def SameMem (s t : State) : Prop := ∀ a : Nat, Memory.read t.mem a = Memory.read s.mem a

/-- The numbers of the fields that an event of a page can change (R39, R40, R292): its EVT register, and the count of event
packets lost. -/
def evKeys (pg : Nat) : List Nat := [(HDR.EVT pg).key, ERL1.EVT_LOST_CNT.key]

/-- The numbers of the fields that a log record can change (R403, R405, R436): HEAD_SEQ, LOST_CNT and the LOST event, and
the healed words of the log RAM. -/
def logKeys : List Nat :=
  [LOG.HEAD_SEQ.key, LOG.LOST_CNT.key, (ECC.HEAL_CNT 1).key] ++ evKeys 0x111 ++ evKeys 0x118

/-- The numbers of the fields that a refused access changes (R45). -/
def refusalKeys : List Nat := [ARBITER.LAST_REF_ADDR.key, ARBITER.CLASS.key, ARBITER.CODE.key] ++ evKeys 0x003

/-! ### Writes that meet no other (R45, R57, R60) -/

/-- No window is open, no clear or trigger waits, no word awaits its answer, and accesses are heard. -/
def State.quiet (s : State) : Bool := s.windows.isEmpty && s.triggers.isEmpty && s.words.isEmpty && !s.deaf

/-- The state with its open windows, waiting triggers, unanswered words and answers set aside. -/
def State.aside (s : State) : State := { s with windows := [], triggers := [], words := [], acks := [] }

/-- The state `n` ticks on, when nothing but time acts. -/
def State.afterTicks (s : State) : Nat → State
  | 0 => s.aside
  | n + 1 => (State.afterTicks s n).idle.aside

/-- The tick on which a word written now to the register of field `l` by class `c` takes effect: 8 ticks on, with the word,
of `n` parts, still to be answered. `State.credit` settles one part of it, and answers it with the last. -/
def State.ripe (s : State) (c : Cls) (l : Loc) (n : Nat := 1) : State :=
  { s.afterTicks 8 with words := [⟨1, c, regAddr l.page l.off, stOK, false, n⟩] }

/-- A word is written to the register of field `l` by class `c`: 8 ticks on its fields take effect, in the order of `fs`, then
its clears and triggers, in the order of `gs`; it is answered with OK. -/
def State.lands (s : State) (c : Cls) (l : Loc) (fs gs : List (State → State)) : State :=
  let u := fs.foldl (fun u f => f (u.credit 1 false)) (s.ripe c l (fs.length + gs.length))
  (gs.foldl (fun u g => (g u).credit 1 false) u).reply c [] stOK

/-- A word `data` written by class `c` to the register of field `l` meets no other, no check of R45 refuses the word, and none
refuses its part at `l`. -/
def State.takes (s : State) (c : Cls) (l : Loc) (data : Nat) : Bool :=
  s.quiet && assigned l.page && (s.wordRefusal c l.page l.off (data % 2 ^ 32)).isNone && (s.partRefusal c data l).isNone

/-- A write of `v` to field `l` by class `c` meets no other, passes the checks of R45, and no hardware safety condition holds
the field when it takes effect (R59). -/
def State.accepts (s : State) (c : Cls) (l : Loc) (v : Nat) : Bool :=
  s.takes c l (trunc l.wid v * 2 ^ l.lo) && ((s.ripe c l).fieldHeld l).isNone

/-- A clear or trigger at `l` by class `c`, carried by the word `data`, meets no other and passes the checks of R45. -/
def State.triggered (s : State) (c : Cls) (l : Loc) (data : Nat := 0) : Bool := s.takes c l data

/-- A word `data` for the register of field `l` by class `c` meets no other, and a check of R45 refuses its part at `l` with
`code`, but not the whole word. -/
def State.refusesPart (s : State) (c : Cls) (l : Loc) (data code : Nat) : Bool :=
  s.quiet && assigned l.page && (s.wordRefusal c l.page l.off (data % 2 ^ 32)).isNone && s.partRefusal c data l == some code

/-- From `a` to `b` no OTP bit is cleared (R413, R445): the serial number and the factory entries stay, revocations,
PROVISIONED, SCAN_PERMIT and the bits of the field entries stay set, the anti-rollback counts do not fall, and a key hash
that is not all zero and a provisioned identity scalar stay. -/
structure OtpGrows (a b : OtpSt) : Prop where
  serial : b.serial = a.serial
  fact : b.fact = a.fact
  revoke : ∀ k, bitOf a.revoke k = true → bitOf b.revoke k = true
  provisioned : a.provisioned = true → b.provisioned = true ∧ b.idPriv = a.idPriv
  scanPermit : a.scanPermit = true → b.scanPermit = true
  rb : a.rb ≤ b.rb
  lrRb : a.lrRb ≤ b.lrRb
  hashes : ∀ k, (a.hashes.getD k []).any (fun w => w != 0) = true → b.hashes.getD k [] = a.hashes.getD k []
  field : ∀ k j, bitOf (a.field.getD k 0) j = true → bitOf (b.field.getD k 0) j = true

/-! ### A Clove core (R359, R368) -/

/-- The last value written to the register with a code; for an accumulator, what a multiplier reads. -/
def CoreSt.reg (k : CoreSt) (r : Nat) : Nat := if 8 ≤ r ∧ r < 12 then k.acc.getD (r - 8) 0 else (k.read r).1

/-- What the register with a code holds after the data word `v` was written to it (R359, R363). -/
def regValue (r v : Nat) : Nat :=
  if 8 ≤ r ∧ r < 12 then place v
  else if r = 37 ∨ r = 38 ∨ r = 40 then v % 2 ^ 15
  else if r = 39 then v &&& srMask
  else v % 2 ^ 24

/-- Nothing of earlier instructions is in flight, and the instruction at PC does not end a turn of the loop. -/
def CoreSt.quiet (k : CoreSt) : Bool :=
  k.flight.isEmpty && k.branch.isEmpty && !(k.pc == k.leV && decide (1 < k.lcV))

/-- From `k` to `j`, every register whose code is not listed keeps its value, and PC moves to the next instruction. -/
def CoreSt.steps (ks : List Nat) (k j : CoreSt) : Bool :=
  (List.range 42).all (fun r => ks.contains r || j.reg r == k.reg r) && j.stack == k.stack && j.pc == (k.pc + 1) % 2 ^ 15

/-- Core `c` runs, and its program holds the instruction `op` at PC; `t` is the state after the fetch. -/
def State.fetches (s : State) (c : Nat) (op : CloveOp) (t : State) : Bool :=
  decide (c < 8) && s.coreRuns c && s.cores.length == 8 &&
    decide (s.coreFetch c = (some ((s.coreFetch c).1.getD 0), t)) && decide (cloveDecode ((s.coreFetch c).1.getD 0) = some op)

/-- The fields that an instruction of core `c` changes: INSTR_CNT and STATE (R371, R376). -/
def coreKeys (c : Nat) : List Nat := [(CLOVE.INSTR_CNT_LO c).key, (CLOVE.INSTR_CNT_HI c).key, (CLOVE.STATE c).key]

end Sys2Proof.Machine
end

