-- ==== Sys2Proof/Certificates/Slice0/Obligations.lean ====
section
/-! DEFINITION. The statements for the provers. Each says what a family of commands does, in the terms of Safety; a statement
of several clauses is their conjunction. -/

open Sys2Proof Sys2Proof.Machine

/-- Where TXKILL_N is not asserted, VAUX entering its range makes M0 with BOOTSEL and MODE_REQ from the straps,
FAIL_COUNT 0 and no halt, and with the recovery strap M2 with BOOT_REASON 6. VAUX leaving its range keeps OTP, flash
and the flash log alone, and every other byte of memory reads 0. BIAS_SAFE_READ moves every gate-bias output that
was not written to its BIAS_SAFE. A radio rail that becomes good is noted, with the tick from which all four are
good. One that stops being good from M3 on is followed by the effects on its pages, loops and lanes, and in a start
by a failed start with code 0x50; VCORE lost from M3 on leads, with a log record, into M1 with BOOT_REASON 0x50. The
loss of an I/O bank sets its event and clears its GPIO inputs, and with VIO1 asserts RESET_N and with VIO4 TXKILL_N.
An edge of a GPIO input in a good bank changes INP and, where RISE or FALL asks for it, sets the event of that
input. -/
def Obligations.PowerUp : Prop :=
  (∀ (s : State) (b mv : Nat),
      s.pwr.vaux = false → s.pwr.kill = false → b % 4 < 3 →
      ∃ t : State, exec (.vauxEnterRange b mv) s = .next t ∧ t.pwr.vaux = true ∧ t.pwr.vauxMv = mv ∧ t.get DEVICE.MODE = 0 ∧
      t.get MGMT.BOOTSEL = b % 4 ∧ t.get DEVICE.MODE_REQ = (if b % 4 < 2 then 1 else 0) ∧ t.get DEVICE.FAIL_COUNT = 0 ∧
      t.get DEVICE.HALT = 0 ∧ t.tbRun = false ∧ t.otp = s.otp ∧ t.log.flash = s.log.flash) ∧
    (∀ (s : State) (mv : Nat),
      s.pwr.vaux = false → s.pwr.kill = false → s.pwr.resetN = false →
      ∃ t : State, exec (.vauxEnterRange 3 mv) s = .next t ∧ t.pwr.vaux = true ∧ t.pwr.vauxMv = mv ∧ t.get DEVICE.MODE = 2 ∧
      t.get DEVICE.BOOT_REASON = 6 ∧ t.get MGMT.BOOTSEL = 3 ∧ t.trans = none ∧ t.otp = s.otp) ∧
    (∀ (s : State),
      s.pwr.vaux = true →
      ∃ t : State, exec .vauxLeaveRange s = .next t ∧ t.pwr.vaux = false ∧ t.get DEVICE.FAIL_COUNT = 0 ∧
        t.get DEVICE.HALT = 0 ∧
      t.otp = s.otp ∧ t.log.flash = s.log.flash ∧ t.log.recs = [] ∧
      (∀ a, flashBase ≤ a → a < captureBase → Memory.read t.mem a = Memory.read s.mem a) ∧
      (∀ a, a < flashBase ∨ captureBase ≤ a → Memory.read t.mem a = 0)) ∧
    (∀ (s : State),
      s.pwr.vaux = true → s.pwr.biasRead = false →
      exec .biasSafeRead s = .next ((List.range 16).foldl (fun u k => if u.on (AUXDAC.WRITTEN k) then u else u.biasSafe k)
      { s with pwr := { s.pwr with biasRead := true } })) ∧
    (∀ (s : State) (rail : Nat),
      rail < 4 → s.mode ≠ 2 → (s.setRail rail true).railsGood = true → s.railsGood = false →
      ∃ t : State, exec (.radioRailGood rail) s = .next t ∧ t.railsGood = true ∧ t.pwr.goodAt = s.ao ∧ SameRegs [] s t ∧
        t.mem = s.mem) ∧
    (∀ (s : State) (rail : Nat),
      rail < 4 → (s.setRail rail true).railsGood = false ∨ s.railsGood = true →
      exec (.radioRailGood rail) s = .next (s.setRail rail true).m2Power) ∧
    (∀ (s : State) (b : Nat),
      b < 4 →
      exec (.radioRailGood (4 + b)) s = .next { s with pwr := { s.pwr with vio := setBit s.pwr.vio b } }) ∧
    (∀ (s : State) (rail : Nat),
      1 ≤ rail → rail < 4 → s.pwr.vaux = true → s.on DEVICE.HALT = false → 3 ≤ s.mode →
      exec (.radioRailNotGood rail) s = .next ((s.setRail rail false).railDown rail)) ∧
    (∀ (s : State) (rail : Nat),
      1 ≤ rail → rail < 4 → s.pwr.vaux = true → s.on DEVICE.HALT = false → s.mode = 1 → s.trans = none →
      exec (.radioRailNotGood rail) s = .next ((s.setRail rail false).failedStart 0x50)) ∧
    (∀ (s : State),
      s.pwr.vaux = true → s.on DEVICE.HALT = false → 3 ≤ s.mode →
      let z : State := s.setRail 0 false;
      let u : State := (z.logHw 0x05 2 0x000 0 (z.pageStat 0) (z.rawWord 0 0x02C)).enterM1 0x50;
      exec .vcoreNotGood s = .next u) ∧
    (∀ (s : State),
      s.pwr.vaux = true → s.on DEVICE.HALT = false → s.mode = 1 → s.trans = none →
      exec .vcoreNotGood s = .next ((s.setRail 0 false).failedStart 0x50)) ∧
    (∀ (s : State) (b : Nat),
      b = 1 ∨ b = 2 → bitOf s.pwr.vio b = true → s.pwr.vaux = true →
      ∃ t : State, exec (.bankLoss b) s = .next t ∧ bitOf t.pwr.vio b = false ∧
        bitOf (t.get (HDR.EVT 0x124)) (16 + b) = true ∧
      (∀ k, k < 16 → gpioBank k = b → bitOf (t.get GPIO.INP) k = false) ∧ t.mem = s.mem) ∧
    (∀ (s : State) (b : Nat),
      b = 0 ∨ b = 3 → bitOf s.pwr.vio b = true → s.pwr.vaux = true →
      let z : State := (s.setRail (4 + b) false).raise 0x124 (16 + b);
      let u : State := z.set GPIO.INP (((List.range 16).filter (fun k => bitOf (z.get GPIO.INP) k && gpioBank k != b)).foldl (fun m k => m + 2 ^ k) 0);
      exec (.bankLoss b) s = .next (if b = 0 then u.resetAssert else u.kill)) ∧
    (∀ (s : State) (k : Nat) (r : Bool),
      k < 16 → s.pwr.vaux = true → bitOf s.pwr.vio (gpioBank k) = true → bitOf (s.get GPIO.INP) k = !r →
        bitOf (s.get (if r then GPIO.RISE else GPIO.FALL)) k = true →
      ∃ t : State, exec (.gpioEdge k r) s = .next t ∧ bitOf (t.get GPIO.INP) k = r ∧
        bitOf (t.get (HDR.EVT 0x124)) k = true ∧
      SameRegs (GPIO.INP.key :: evKeys 0x124) s t ∧ t.mem = s.mem)

/-- Once the rails have been good long enough, a start runs from M0 or M1 with TB at 0 and counting, EN of CPLL and LPLL
1, RUNNING and BOOT_OK_SEEN 0. RESET_N asserted stops TB and isolates the radio domains, keeping OTP and memory; its
release enters M1 with reason 2, M2 with the recovery strap, and only resets under the halt. DEVICE_RESET, once it
takes effect, enters M1 with reason 3, and only resets under the halt. A die sensor that crosses SHUT sets HALT and
its event, and enters M0 with TB stopped and the radio domains isolated. -/
def Obligations.Resets : Prop :=
  (∀ (s : State) (find : SelfTest) (bad : Nat),
      s.startDue = true → s.mode = 0 ∨ s.mode = 1 → s.modes.next = none →
      ∃ t : State, exec (.startBegin find bad) s = .next t ∧ t.tb = 0 ∧ t.tbRun = true ∧ t.modes.step = 1 ∧
      t.modes.stepAt = s.ao ∧ t.modes.find = find ∧ t.modes.wdAt = none ∧ t.get MGMT.RUNNING = 0 ∧
        t.get DEVICE.BOOT_OK_SEEN = 0 ∧
      t.get DEVICE.TRANS = 0 ∧ t.get DEVICE.MODE = 1 ∧ t.get (HDR.EN 0x004) = 1 ∧ t.get (HDR.EN 0x007) = 1 ∧
        t.otp = s.otp) ∧
    (∀ (s : State),
      s.pwr.resetN = false → s.pwr.vaux = true →
      ∃ t : State, exec .resetNAssert s = .next t ∧ t.pwr.resetN = true ∧ t.pwr.isolated = true ∧ t.tbRun = false ∧
        t.trans = none ∧
      t.otp = s.otp ∧ t.mem = s.mem) ∧
    (∀ (s : State) (b : Nat),
      s.pwr.resetN = true → bitOf s.pwr.vio 0 = true → s.pwr.vaux = true → s.on DEVICE.HALT = false → b < 3 →
      exec (.resetNRelease b) s = .next ((({ s with pwr := { s.pwr with resetN := false } } : State).sampleStraps b).enterM1 2)) ∧
    (∀ (s : State),
      s.pwr.resetN = true → bitOf s.pwr.vio 0 = true → s.pwr.vaux = true → s.on DEVICE.HALT = false →
      exec (.resetNRelease 3) s = .next ((({ s with pwr := { s.pwr with resetN := false } } : State).sampleStraps 3).enterM2 6)) ∧
    (∀ (s : State) (b : Nat),
      s.pwr.resetN = true → bitOf s.pwr.vio 0 = true → s.pwr.vaux = true → s.on DEVICE.HALT = true →
      exec (.resetNRelease b) s = .next ((({ s with pwr := { s.pwr with resetN := false } } : State).sampleStraps b).resetAll)) ∧
    (∀ (s : State) (c : Cls),
      s.triggered c DEVICE.DEVICE_RESET = true → (s.ripe c DEVICE.DEVICE_RESET).on DEVICE.HALT = false →
      exec (.deviceReset c) s = .next ((s.ripe c DEVICE.DEVICE_RESET).enterM1 3)) ∧
    (∀ (s : State) (c : Cls),
      s.triggered c DEVICE.DEVICE_RESET = true → (s.ripe c DEVICE.DEVICE_RESET).on DEVICE.HALT = true →
      exec (.deviceReset c) s = .next (s.ripe c DEVICE.DEVICE_RESET).resetAll) ∧
    (∀ (s : State) (k : Nat),
      16 ≤ k → k < 25 → s.on DEVICE.HALT = false → s.pwr.vaux = true →
      ∃ t : State, exec (.thermalHalt k) s = .next t ∧ t.get DEVICE.HALT = 1 ∧ t.get DEVICE.MODE = 0 ∧
        t.pwr.isolated = true ∧ t.tbRun = false ∧
      t.mgmtDown = false ∧ t.otp = s.otp ∧ bitOf (t.get (HDR.EVT 0x000)) EV.DEVICE.HALT = true)

/-- A write of MODE_REQ takes effect 8 ticks on: where no transition runs, one that no condition of R17 refuses starts
the transition, and a refused one leaves the mode, with its cause in REFUSE; during a transition it waits. A
transition that is due enters its mode and ends, but M7 is kept, with cause 1, where debug or scan is enabled.
BOOT_OK, where an image runs, ends the wait of a start or of a management restart. 20 s without it fail the start
with 0x10, and under the halt only reset Pepper. MGMT_RESTART and the run-time watchdog start a management restart;
5 s of it expire with 0x11 and ask for M3, and 100 ms after the expiry took effect the start fails with its code.
STABLE_TIME of 600 s clears FAIL_COUNT. 10 ms without the lock of CPLL or LPLL fail the start with 0x40 or 0x41. A
link down for DOWN_TO in M5 makes hardware request M3. -/
def Obligations.ModesAndStarts : Prop :=
  (∀ (s : State) (c : Cls) (a v : Nat),
      s.accepts c DEVICE.MODE_REQ v = true → (s.ripe c DEVICE.MODE_REQ).trans = none →
        (s.ripe c DEVICE.MODE_REQ).modes.expired = none → trunc 3 v ≠ (s.ripe c DEVICE.MODE_REQ).mode →
        ((s.ripe c DEVICE.MODE_REQ).set DEVICE.MODE_REQ v).modeRefusal c (trunc 3 v) = 0 →
      ∃ t : State, exec (.modeReqWrite c a v) s = .next t ∧ t.get DEVICE.MODE_REQ = trunc 3 v ∧ t.get DEVICE.TRANS = 1 ∧
      t.trans = some ⟨trunc 3 v, (s.ripe c DEVICE.MODE_REQ).tb, false⟩ ∧
        SameRegs [DEVICE.MODE_REQ.key, DEVICE.TRANS.key] (s.ripe c DEVICE.MODE_REQ) t ∧
        t.mem = (s.ripe c DEVICE.MODE_REQ).mem ∧
      t.answer = some ⟨c, [], stOK⟩) ∧
    (∀ (s : State) (c : Cls) (a v : Nat),
      s.accepts c DEVICE.MODE_REQ v = true → (s.ripe c DEVICE.MODE_REQ).trans = none →
        (s.ripe c DEVICE.MODE_REQ).modes.expired = none → trunc 3 v ≠ (s.ripe c DEVICE.MODE_REQ).mode →
        ((s.ripe c DEVICE.MODE_REQ).set DEVICE.MODE_REQ v).modeRefusal c (trunc 3 v) ≠ 0 →
      ∃ t : State, exec (.modeReqWrite c a v) s = .next t ∧ t.get DEVICE.MODE_REQ = (s.ripe c DEVICE.MODE_REQ).mode ∧
        t.trans = none ∧ t.get DEVICE.MODE = (s.ripe c DEVICE.MODE_REQ).mode ∧
      t.get DEVICE.REFUSE = ((s.ripe c DEVICE.MODE_REQ).set DEVICE.MODE_REQ v).modeRefusal c (trunc 3 v) ∧
      bitOf (t.get (HDR.EVT 0x000)) EV.DEVICE.MODE_REFUSED = true ∧ t.mem = (s.ripe c DEVICE.MODE_REQ).mem) ∧
    (∀ (s : State) (c : Cls) (a v : Nat),
      s.accepts c DEVICE.MODE_REQ v = true → (s.ripe c DEVICE.MODE_REQ).trans.isSome = true →
        (s.ripe c DEVICE.MODE_REQ).modes.expired = none →
      ∃ t : State, exec (.modeReqWrite c a v) s = .next t ∧ t.get DEVICE.MODE_REQ = trunc 3 v ∧ t.modes.next = some c ∧
        t.trans = (s.ripe c DEVICE.MODE_REQ).trans ∧
      SameRegs [DEVICE.MODE_REQ.key] (s.ripe c DEVICE.MODE_REQ) t ∧ t.mem = (s.ripe c DEVICE.MODE_REQ).mem ∧
        t.answer = some ⟨c, [], stOK⟩) ∧
    (∀ (s : State) (x : Transit),
      s.trans = some x → s.modeDue x = true → s.modes.expired = none → s.modes.next = none → x.target < 8 →
        s.mode ≠ 7 ∨ s.m7Held = false →
      exec .modeTransitionDone s = .next (if x.hw then (s.modeTake x.target).outOpen else s.modeTake x.target) ∧
      (s.modeTake x.target).get DEVICE.MODE = x.target ∧ (s.modeTake x.target).get DEVICE.TRANS = 0 ∧
        (s.modeTake x.target).trans = none) ∧
    (∀ (s : State) (x : Transit),
      s.trans = some x → s.modeDue x = true → s.modes.expired = none → s.modes.next = none → s.mode = 7 → s.m7Held = true →
      ∃ t : State, exec .modeTransitionDone s = .next t ∧ t.get DEVICE.MODE = 7 ∧ t.trans = none ∧ t.get DEVICE.TRANS = 0 ∧
        t.get DEVICE.MODE_REQ = 7 ∧
      t.get DEVICE.REFUSE = 1) ∧
    (∀ (s : State) (c : Cls),
      s.triggered c DEVICE.BOOT_OK = true → (s.ripe c DEVICE.BOOT_OK).on MGMT.RUNNING = true →
        (s.ripe c DEVICE.BOOT_OK).modes.expired = none → (s.ripe c DEVICE.BOOT_OK).mgmtDown = false →
        (s.ripe c DEVICE.BOOT_OK).on DEVICE.BOOT_OK_SEEN = false →
      ∃ t : State, exec (.bootOk c) s = .next t ∧ t.get DEVICE.BOOT_OK_SEEN = 1 ∧ t.modes.wdAt = none ∧
      t.modes.stableAt = (if 3 ≤ (s.ripe c DEVICE.BOOT_OK).mode then some (s.ripe c DEVICE.BOOT_OK).ao else none) ∧
        SameRegs [DEVICE.BOOT_OK_SEEN.key] (s.ripe c DEVICE.BOOT_OK) t ∧ t.mem = (s.ripe c DEVICE.BOOT_OK).mem ∧
      t.answer = some ⟨c, [], stOK⟩) ∧
    (∀ (s : State) (c : Cls),
      s.triggered c DEVICE.BOOT_OK = true → (s.ripe c DEVICE.BOOT_OK).on MGMT.RUNNING = true →
        (s.ripe c DEVICE.BOOT_OK).modes.expired = none → (s.ripe c DEVICE.BOOT_OK).mgmtDown = true →
      ∃ t : State, exec (.bootOk c) s = .next t ∧ t.get DEVICE.BOOT_OK_SEEN = 1 ∧ t.get DEVICE.MGMT_RESTART_ACT = 0 ∧
        t.mgmtDown = false ∧ t.modes.wdAt = none ∧
      t.modes.stableAt = (if 3 ≤ (s.ripe c DEVICE.BOOT_OK).mode then some (s.ripe c DEVICE.BOOT_OK).ao else none) ∧
        SameRegs [DEVICE.BOOT_OK_SEEN.key, DEVICE.MGMT_RESTART_ACT.key] (s.ripe c DEVICE.BOOT_OK) t ∧
        t.mem = (s.ripe c DEVICE.BOOT_OK).mem ∧
      t.answer = some ⟨c, [], stOK⟩) ∧
    (∀ (s : State) (w : Nat),
      s.modes.wdAt = some w → s.mgmtDown = false → s.deaf = false → w + 19660800000 ≤ s.ao → s.on DEVICE.HALT = false →
      exec .bootWatchdogExpiry s = .next (s.failedStart 0x10)) ∧
    (∀ (s : State) (w : Nat),
      s.modes.wdAt = some w → s.mgmtDown = false → s.deaf = false → w + 19660800000 ≤ s.ao → s.on DEVICE.HALT = true →
      ∃ t : State, exec .bootWatchdogExpiry s = .next t ∧ t.get MGMT.RUNNING = 0 ∧ t.get DEVICE.BOOT_OK_SEEN = 0 ∧
        t.modes.wdAt = none ∧
      SameRegs [MGMT.RUNNING.key, DEVICE.BOOT_OK_SEEN.key] s t ∧ t.mem = s.mem) ∧
    (∀ (s : State) (c : Cls) (bad : Nat),
      s.triggered c DEVICE.MGMT_RESTART (bad * 2 ^ 32) = true →
        (s.ripe c DEVICE.MGMT_RESTART).on MGMT.RUNNING = true ∨ (s.ripe c DEVICE.MGMT_RESTART).mgmtDown = true →
        (s.ripe c DEVICE.MGMT_RESTART).on DEVICE.HALT = false → (s.ripe c DEVICE.MGMT_RESTART).modes.expired = none →
      let u : State := (s.ripe c DEVICE.MGMT_RESTART).mgmtRestart 7 bad;
      exec (.mgmtRestart c bad) s = .next ((u.credit 1 false).reply c [] stOK) ∧ u.mgmtDown = true ∧
      u.get DEVICE.MGMT_RESTART_ACT = 1 ∧ u.get DEVICE.BOOT_REASON = 7 ∧
      u.modes.contAt = (if (s.ripe c DEVICE.MGMT_RESTART).mgmtDown then (s.ripe c DEVICE.MGMT_RESTART).modes.contAt else (s.ripe c DEVICE.MGMT_RESTART).ao) ∧
        u.modes.stableAt = none ∧
      u.octs = (s.ripe c DEVICE.MGMT_RESTART).octs ∧ u.tb = (s.ripe c DEVICE.MGMT_RESTART).tb) ∧
    (∀ (s : State),
      s.mgmtDown = true → s.modes.expired = none → s.modes.contAt + 4915200000 ≤ s.ao →
      ∃ t : State, exec .contExpired s = .next t ∧ t.modes.expired = some 0x11 ∧
        bitOf (t.get (HDR.EVT 0x000)) EV.DEVICE.CONT_EXPIRED = true ∧
      t.trans = some ⟨3, s.tb, true⟩ ∧ SameRegs (DEVICE.TRANS.key :: evKeys 0x000) s t ∧ t.mem = s.mem) ∧
    (∀ (s : State) (w code : Nat),
      s.modes.holdAt = some w → s.modes.expired = some code → w + 98304000 ≤ s.ao →
      exec .contHoldExpiry s = .next (s.failedStart code)) ∧
    (∀ (s : State) (w : Nat),
      s.modes.stableAt = some w → w + 600 * 983040000 ≤ s.ao →
      ∃ t : State, exec .stableTimeExpiry s = .next t ∧ t.get DEVICE.FAIL_COUNT = 0 ∧
        SameRegs [DEVICE.FAIL_COUNT.key] s t ∧ t.mem = s.mem) ∧
    (∀ (s : State) (bad : Nat),
      s.on MGMT.WD_EN = true → s.on DEVICE.BOOT_OK_SEEN = true → s.on MGMT.RUNNING = true → s.on DEVICE.HALT = false →
        s.deaf = false → s.mgmt.wdAt + max 1 (s.get MGMT.WD_PERIOD) * 9830400 ≤ s.ao →
      exec (.runtimeWatchdogExpiry bad) s = .next (s.mgmtRestart 8 bad)) ∧
    (∀ (s : State),
      s.modes.step = 1 → s.modes.stepAt + 9830400 ≤ s.ao → s.on CPLL.LOCKED = false ∨ s.on LPLL.LOCKED = false →
      exec .startLockTimeout s = .next (s.failedStart (if s.on CPLL.LOCKED then 0x41 else 0x40))) ∧
    (∀ (s : State),
      s.mode = 5 → s.on ERL0.LINK_UP = false → s.on ERL0.DOWN_M3 = true →
        s.erl.downAt + max 1 (s.get ERL0.DOWN_TO) * 983040 ≤ s.ao → s.trans = none →
        (s.set DEVICE.MODE_REQ 3).modeRefusal .mgmt 3 = 0 →
      ∃ u : State, exec .linkDownTimeout s = .next u ∧ u.get DEVICE.MODE_REQ = 3 ∧ u.get DEVICE.TRANS = 1 ∧
        u.trans = some ⟨3, s.tb, true⟩ ∧
      SameRegs [DEVICE.MODE_REQ.key, DEVICE.TRANS.key] s u ∧ u.mem = s.mem)

/-- A write of the header that meets no other and passes the checks takes effect 8 ticks on and is answered OK. EN = 1
starts the enable sequence of a page that is off and whose rails are there, EN = 0 the shut-down of one that is on
or being enabled, and any other EN is stored alone. A sequence that may end sets or clears ACT with its event. SRST
resets a page that is off at once, keeping the fields of srstKept, and shuts one that is on down first. LEVEL_REQ is
stored with LEVEL_ERR 1 above level 1; EVT bits written 1 clear; EVT_EN is stored without the bits that the page has
no event for; the five rights of ACCESS are stored up to the ceiling of the page; ACC_LOCK and FIELD_LOCK are set. -/
def Obligations.HeaderFields : Prop :=
  (∀ (s : State) (c : Cls) (a pg v : Nat),
      assigned pg = true → noEnable pg = false → pg ≠ 0x0E4 → s.accepts c (HDR.EN pg) v = true → trunc 1 v = 1 →
        (s.ripe c (HDR.EN pg)).seqOf pg = 0 → (s.ripe c (HDR.EN pg)).act pg = false →
        (s.ripe c (HDR.EN pg)).railsOk pg = true → isLoopPage pg = false →
      exec (.pageEnable c a pg v) s = .next (s.lands c (HDR.EN pg) [fun u => (u.set (HDR.EN pg) 1).startSeq pg 1] [])) ∧
    (∀ (s : State) (c : Cls) (a pg v : Nat),
      assigned pg = true → noEnable pg = false → pg ≠ 0x0E4 → s.accepts c (HDR.EN pg) v = true → trunc 1 v = 0 →
        (s.ripe c (HDR.EN pg)).seqOf pg = 1 ∨ (s.ripe c (HDR.EN pg)).seqOf pg = 0 ∧ (s.ripe c (HDR.EN pg)).act pg = true →
      exec (.pageEnable c a pg v) s = .next (s.lands c (HDR.EN pg) [fun u => (u.set (HDR.EN pg) 0).shutBegin pg] [])) ∧
    (∀ (s : State) (c : Cls) (a pg v : Nat),
      assigned pg = true → noEnable pg = false → pg ≠ 0x0E4 → s.accepts c (HDR.EN pg) v = true →
        (s.ripe c (HDR.EN pg)).seqOf pg = 2 ∨ (s.ripe c (HDR.EN pg)).seqOf pg = 1 ∧
        trunc 1 v = 1 ∨ (s.ripe c (HDR.EN pg)).seqOf pg = 0 ∧ (s.ripe c (HDR.EN pg)).on (HDR.ACT pg) = (trunc 1 v == 1) →
      exec (.pageEnable c a pg v) s = .next (s.lands c (HDR.EN pg) [fun u => u.set (HDR.EN pg) v] [])) ∧
    (∀ (s : State) (pg : Nat),
      s.seqOf pg = 1 → s.seqMayEnd pg = true → isRxPage pg = false → isTxPage pg = false → pg ≠ 0x0E4 → pg ≠ 0x125 →
      exec (.sequenceEnd pg) s = .next (((({ s with seqs := s.seqs.put pg 0 } : State).set (HDR.TRANS pg) 0).set (HDR.ACT pg) 1).raise pg evACT_CHANGE)) ∧
    (∀ (s : State) (pg : Nat),
      s.seqOf pg = 2 → s.seqMayEnd pg = true → isRxPage pg = false → isTxPage pg = false → pg ≠ 0x0E4 → pg ≠ 0x125 →
        s.srst.look pg = 0 → s.on (HDR.EN pg) = false →
      exec (.sequenceEnd pg) s = .next (((({ s with seqs := s.seqs.put pg 0 } : State).set (HDR.TRANS pg) 0).set (HDR.ACT pg) 0).raise pg evACT_CHANGE)) ∧
    (∀ (s : State) (c : Cls) (a pg e : Nat),
      assigned pg = true → noEnable pg = false → s.takes c (HDR.EN pg) (2 + e % 2) = true →
        s.takes c (HDR.SRST pg) (2 + e % 2) = true →
      exec (.softReset c a pg e) s = .next (s.lands c (HDR.EN pg) [fun u => u.set (HDR.EN pg) e] [fun u => u.softReset pg])) ∧
    (∀ (s : State) (c : Cls) (a pg e : Nat),
      assigned pg = true → noEnable pg = false → s.takes c (HDR.EN pg) (2 + e % 2) = true →
        s.takes c (HDR.SRST pg) (2 + e % 2) = true → (s.ripe c (HDR.EN pg) 2).seqOf pg = 0 →
        (s.ripe c (HDR.EN pg) 2).act pg = false → e % 2 = 0 → isRxPage pg = false → isTxPage pg = false → pg ≠ 0x0AC →
        pg ≠ 0x125 → (s.ripe c (HDR.EN pg) 2).on (HDR.FIELD_LOCK pg) = false →
      ∃ t : State, exec (.softReset c a pg e) s = .next t ∧ t.get (HDR.EN pg) = 0 ∧ t.get (HDR.ERR pg) = 0 ∧
        t.get (HDR.STALE pg) = 0 ∧
      t.mem = (s.ripe c (HDR.EN pg) 2).mem ∧ (∀ l, keyPage l.key % 0x200 ≠ pg → t.get l = (s.ripe c (HDR.EN pg) 2).get l) ∧
      (∀ l, keyPage l.key = pg → 0x02C ≤ keyOff l.key → l.key ∉ (srstKept pg).map Loc.key → t.get l = l.rst) ∧
      (∀ l, l.key ∈ (srstKept pg).map Loc.key → t.get l = (s.ripe c (HDR.EN pg) 2).get l) ∧ t.answer = some ⟨c, [], stOK⟩) ∧
    (∀ (s : State) (c : Cls) (a pg v : Nat),
      assigned pg = true → s.accepts c (HDR.LEVEL_REQ pg) v = true →
      exec (.levelReqWrite c a pg v) s =
      .next (s.lands c (HDR.LEVEL_REQ pg) [fun u => (u.set (HDR.LEVEL_REQ pg) v).set (HDR.LEVEL_ERR pg) (if 1 < v % 256 then 1 else 0)] [])) ∧
    (∀ (s : State) (c : Cls) (pg m n : Nat),
      assigned pg = true → s.triggered c (HDR.EVT pg) (m % 2 ^ 32 + n * 2 ^ 32) = true →
      exec (.evtClear c pg m n) s = .next (s.lands c (HDR.EVT pg) [] [fun u => u.clearBits (HDR.EVT pg) (m % 2 ^ 32 + n * 2 ^ 32)])) ∧
    (∀ (s : State) (c : Cls) (pg m : Nat),
      assigned pg = true → s.triggered c (HDR.EVT pg) (m % 2 ^ 32) = true → (s.ripe c (HDR.EVT pg)).evtNow = [] →
      ∃ t : State, exec (.evtClear c pg m 0) s = .next t ∧
      t.get (HDR.EVT pg) = ((s.ripe c (HDR.EVT pg)).get (HDR.EVT pg) &&& clearMask 32 (2 ^ 32 - 1) (m % 2 ^ 32)) ∧
      SameRegs [(HDR.EVT pg).key] (s.ripe c (HDR.EVT pg)) t ∧ t.mem = (s.ripe c (HDR.EVT pg)).mem ∧
        t.answer = some ⟨c, [], stOK⟩) ∧
    (∀ (s : State) (c : Cls) (a pg v : Nat),
      assigned pg = true → s.accepts c (HDR.EVT_EN pg) v = true →
      ∃ t : State, exec (.evtEnWrite c a pg v) s = .next t ∧ t.get (HDR.EVT_EN pg) = trunc 32 v &&& evtMask pg ∧
      t.mem = (s.ripe c (HDR.EVT_EN pg)).mem ∧ t.answer = some ⟨c, [], stOK⟩ ∧
      SameRegs [(HDR.EVT_EN pg).key, ERL1.EVT_LOST_CNT.key] (s.ripe c (HDR.EVT_EN pg)) t) ∧
    (∀ (s : State) (c : Cls) (a pg v : Nat),
      assigned pg = true → s.accepts c (HDR.EVT_EN pg) v = true →
        (s.ripe c (HDR.EVT_EN pg)).get (HDR.EVT pg) &&& trunc 32 v = 0 →
      exec (.evtEnWrite c a pg v) s = .next (s.lands c (HDR.EVT_EN pg) [fun u => u.set (HDR.EVT_EN pg) (trunc 32 v &&& evtMask pg)] [])) ∧
    (∀ (s : State) (a pg data : Nat),
      assigned pg = true → s.quiet = true → s.right pg .mgmt = 3 → s.on (HDR.ACC_LOCK pg) = false →
      ∃ t : State, exec (.accessWrite .mgmt a pg data) s = .next t ∧ t.mem = (s.ripe .mgmt (HDR.RIGHT pg .bb) 5).mem ∧
      [Cls.bb, .host, .dsp, .mon, .test].all (fun x => t.get (HDR.RIGHT pg x) == min (bits data (2 * x.code) 2) (ceiling pg x)) = true ∧
      SameRegs ([Cls.bb, .host, .dsp, .mon, .test].map (fun x => (HDR.RIGHT pg x).key)) (s.ripe .mgmt (HDR.RIGHT pg .bb) 5) t ∧
      t.answer = some ⟨.mgmt, [], stOK⟩) ∧
    (∀ (s : State) (c : Cls) (a pg : Nat),
      assigned pg = true → s.accepts c (HDR.ACC_LOCK pg) 1 = true →
      exec (.accLock c a pg) s = .next (s.lands c (HDR.ACC_LOCK pg) [fun u => u.set (HDR.ACC_LOCK pg) 1] [])) ∧
    (∀ (s : State) (c : Cls) (a pg : Nat),
      assigned pg = true → s.accepts c (HDR.FIELD_LOCK pg) 1 = true →
      exec (.fieldLock c a pg) s = .next (s.lands c (HDR.FIELD_LOCK pg) [fun u => u.set (HDR.FIELD_LOCK pg) 1] []))

/-- REQ makes a commit pending: with IMMED for the next tick, else for COMMIT_TB, or for the next tick and late where
that has passed; a beam page awaits its gains too. CANCEL before the swap withdraws it, after the swap it changes
nothing. A due commit swaps the banks of its page, sets LAST_LATE and raises LATE where it is late, has the effects
of its chapter and raises COMMIT_DONE. When the copy is complete PENDING falls. -/
def Obligations.Commits : Prop :=
  (∀ (s : State) (c : Cls) (a pg i : Nat),
      assigned pg = true → hasShadow pg = true → s.takes c (HDR.IMMED pg) (1 + i % 2 * 4) = true →
        s.takes c (HDR.REQ pg) (1 + i % 2 * 4) = true → (s.ripe c (HDR.IMMED pg) 2).on (HDR.PENDING pg) = false →
        pg ≠ 0x0A0 → pg ≠ 0x0A1 → i % 2 = 1 →
      ∃ t : State, exec (.commitReq c a pg i) s = .next t ∧ t.get (HDR.PENDING pg) = 1 ∧ t.get (HDR.IMMED pg) = 1 ∧
      t.commits = (s.ripe c (HDR.IMMED pg) 2).commits ++ [⟨pg, (s.ripe c (HDR.IMMED pg) 2).tb + 1, true, false⟩] ∧
        t.bank = (s.ripe c (HDR.IMMED pg) 2).bank ∧ t.mem = (s.ripe c (HDR.IMMED pg) 2).mem ∧
      SameRegs [(HDR.IMMED pg).key, (HDR.PENDING pg).key] (s.ripe c (HDR.IMMED pg) 2) t ∧ t.answer = some ⟨c, [], stOK⟩) ∧
    (∀ (s : State) (c : Cls) (a pg i : Nat),
      assigned pg = true → hasShadow pg = true → s.takes c (HDR.IMMED pg) (1 + i % 2 * 4) = true →
        s.takes c (HDR.REQ pg) (1 + i % 2 * 4) = true → (s.ripe c (HDR.IMMED pg) 2).on (HDR.PENDING pg) = false →
        pg ≠ 0x0A0 → pg ≠ 0x0A1 → i % 2 = 0 →
      ∃ t : State, exec (.commitReq c a pg i) s = .next t ∧ t.get (HDR.PENDING pg) = 1 ∧ t.get (HDR.IMMED pg) = 0 ∧
      t.commits = (s.ripe c (HDR.IMMED pg) 2).commits ++ [if (s.ripe c (HDR.IMMED pg) 2).get64 (HDR.COMMIT_TB_LO pg) (HDR.COMMIT_TB_HI pg) < (s.ripe c (HDR.IMMED pg) 2).tb then ⟨pg, (s.ripe c (HDR.IMMED pg) 2).tb + 1, false, true⟩
         else ⟨pg, (s.ripe c (HDR.IMMED pg) 2).get64 (HDR.COMMIT_TB_LO pg) (HDR.COMMIT_TB_HI pg), false, false⟩] ∧
           t.bank = (s.ripe c (HDR.IMMED pg) 2).bank ∧ t.mem = (s.ripe c (HDR.IMMED pg) 2).mem ∧
      SameRegs [(HDR.IMMED pg).key, (HDR.PENDING pg).key] (s.ripe c (HDR.IMMED pg) 2) t ∧ t.answer = some ⟨c, [], stOK⟩) ∧
    (∀ (s : State) (c : Cls) (a pg i : Nat),
      assigned pg = true → hasShadow pg = true → s.takes c (HDR.IMMED pg) (1 + i % 2 * 4) = true →
        s.takes c (HDR.REQ pg) (1 + i % 2 * 4) = true → (s.ripe c (HDR.IMMED pg) 2).on (HDR.PENDING pg) = false →
        pg = 0x0A0 ∨ pg = 0x0A1 → i % 2 = 1 →
      ∃ t : State, exec (.commitReq c a pg i) s = .next t ∧ t.get (HDR.PENDING pg) = 1 ∧
        t.get (BEAM.RENORM_BUSY (pg - 0x0A0)) = 1 ∧
      t.commits = (s.ripe c (HDR.IMMED pg) 2).commits ++ [⟨pg, (s.ripe c (HDR.IMMED pg) 2).tb + 1, true, false⟩] ∧
        t.mem = (s.ripe c (HDR.IMMED pg) 2).mem ∧
      SameRegs [(HDR.IMMED pg).key, (HDR.PENDING pg).key, (BEAM.RENORM_BUSY (pg - 0x0A0)).key] (s.ripe c (HDR.IMMED pg) 2) t) ∧
    (∀ (s : State) (c : Cls) (pg : Nat),
      assigned pg = true → hasShadow pg = true → s.triggered c (HDR.CANCEL pg) 2 = true →
        (s.ripe c (HDR.CANCEL pg)).copying.look pg = 0 →
      ∃ t : State, exec (.commitCancel c pg) s = .next t ∧ t.get (HDR.PENDING pg) = 0 ∧
      t.commits = (s.ripe c (HDR.CANCEL pg)).commits.filter (fun x => decide (x.page ≠ pg)) ∧
      t.bank = (s.ripe c (HDR.CANCEL pg)).bank ∧ t.mem = (s.ripe c (HDR.CANCEL pg)).mem ∧
        SameRegs [(HDR.PENDING pg).key] (s.ripe c (HDR.CANCEL pg)) t ∧ t.answer = some ⟨c, [], stOK⟩) ∧
    (∀ (s : State) (c : Cls) (pg : Nat),
      assigned pg = true → hasShadow pg = true → s.triggered c (HDR.CANCEL pg) 2 = true →
        (s.ripe c (HDR.CANCEL pg)).copying.look pg ≠ 0 →
      exec (.commitCancel c pg) s = .next (s.lands c (HDR.CANCEL pg) [] [fun u => u])) ∧
    (∀ (s : State) (c : CommitSt),
      s.commits.find? (fun x => decide (x.page = c.page)) = some c → s.tbRun = true → c.target ≤ s.tb →
        s.swapBoundaryOf c.page = true →
      let a : State := s.swapBanks c.page;
      let b : State := { a with commits := a.commits.filter (fun x => decide (x.page ≠ c.page)), copying := a.copying.put c.page (s.tb + 1) };
      let d : State := b.set (HDR.LAST_LATE c.page) (if s.swapLate c then 1 else 0);
      exec (.commitSwap c.page) s = .next (((if s.swapLate c then d.raise c.page evLATE else d).committed s c.page).raise c.page evCOMMIT_DONE)) ∧
    (∀ (s : State) (pg : Nat),
      s.copying.look pg ≠ 0 → pg < 0x010 ∨ 0x090 ≤ pg → pg ≠ 0x0AD → pg ≠ 0x0AE →
      exec (.commitCopyDone pg) s =
      .next (({ s with copying := s.copying.put pg 0, bank := s.bank.filter (fun e => decide (keyPage e.1 ≠ pg)) } : State).set (HDR.PENDING pg) 0))

/-- A REG_WRITE of EVT_EN opens its window and waits for its answer; one that is narrower than a word, misaligned or off
the map is a BUS_ERROR, which for MGMT raises the store fault too; a store of MGMT outside register space goes to
its memories; a page without the right is ACCESS_DENIED. A window that has lasted 8 ticks gives its one writer
effect and answer; of two writers of RETIRE the protective value wins and the other is answered WRITE_SUPERSEDED; a
window that has not lasted stays open. An SPI read returns the word, an SPI write of COMMIT_TB takes effect, and a
misaligned address is a FORMAT error; an aborted read changes nothing and an aborted write performs its words. A
JTAG read and a JTAG write of COMMIT_TB do likewise in M3 and M7, every JTAG access is denied in any other mode, and
one off the map is a BUS_ERROR. -/
def Obligations.Ports : Prop :=
  (∀ (s : State) (c : Cls) (a pg data : Nat),
      assigned pg = true → pg < 0x200 → s.takes c (HDR.EVT_EN pg) (trunc 32 data) = true →
      exec (.regWrite c a 4 (regAddr pg 0x010) data) s = .next ({ s with
        windows := [⟨HDR.EVT_EN pg, s.ao, [{ cls := c, agent := a, val := trunc 32 data, tick := s.ao, word := 1 }]⟩],
        words := [⟨1, c, regAddr pg 0x010, stOK, false, 1⟩] } : State)) ∧
    (∀ (s : State) (c : Cls) (a size addr data : Nat),
      s.deaf = false → c ≠ .mgmt → size ≠ 4 ∨ inRegs addr = false ∨ addr % 4 ≠ 0 →
      exec (.regWrite c a size addr data) s = .next ((s.refuse c addr stBUS_ERROR).reply c [] stBUS_ERROR)) ∧
    (∀ (s : State) (a size addr data : Nat),
      s.deaf = false → inRegs addr = true → size ≠ 4 ∨ addr % 4 ≠ 0 →
      exec (.regWrite .mgmt a size addr data) s = .next (({ s.refuse .mgmt addr stBUS_ERROR with
        mgmt := { s.mgmt with storeFault := some addr } } : State).reply .mgmt [] stBUS_ERROR)) ∧
    (∀ (s : State) (a size addr data : Nat),
      s.deaf = false → inRegs addr = false →
      exec (.regWrite .mgmt a size addr data) s = .next (s.store addr size data)) ∧
    (∀ (s : State) (c : Cls) (a addr data : Nat),
      s.deaf = false → inRegs addr = true → addr % 4 = 0 → assigned (pageOf addr) = true → s.right (pageOf addr) c < 2 →
        c ≠ .test → c ≠ .mgmt →
      exec (.regWrite c a 4 addr data) s =
      .next ((s.refuse c (regAddr (pageOf addr) (offOf addr)) stDENIED).reply c [] stDENIED)) ∧
    (∀ (s : State) (w : WinWrite) (pg at_ : Nat),
      s.deaf = false → s.triggers = [] → assigned pg = true → s.windows = [⟨HDR.CLOVE_SEL pg, at_, [w]⟩] →
        s.words = [⟨w.word, w.cls, regAddr pg 0x014, stOK, false, 1⟩] → at_ + 8 ≤ s.ao → w.val < 8 →
      exec .coincidenceWindowClose s = .next ((({ s with windows := [], words := [], acks := [(w.word, ⟨w.cls, [], stOK⟩)] } : State).set
      (HDR.CLOVE_SEL pg) w.val).reply w.cls [] stOK)) ∧
    (∀ (s : State) (x y : WinWrite) (p at_ : Nat),
      s.deaf = false → s.triggers = [] → p < 64 → s.windows = [⟨TXPATH.RETIRE p, at_, [x, y]⟩] →
        s.words = [⟨x.word, x.cls, regAddr (txPage p) 0x068, stOK, false, 1⟩, ⟨y.word, y.cls, regAddr (txPage p) 0x068, stOK, false, 1⟩] →
        x.word ≠ y.word → x.cls ≠ y.cls → at_ + 8 ≤ s.ao → x.val = 1 → y.val = 0 →
      ∃ t : State, exec .coincidenceWindowClose s = .next t ∧ t.get (TXPATH.RETIRE p) = 1 ∧ t.windows = [] ∧ t.words = [] ∧
      t.acks = [(x.word, ⟨x.cls, [], stOK⟩), (y.word, ⟨y.cls, [], stSUPERSEDED⟩)] ∧ t.get ARBITER.WINNER = x.cls.code ∧
      t.get ARBITER.LOSER = y.cls.code ∧ t.get ARBITER.PROTECTIVE = 1) ∧
    (∀ (s : State),
      s.windows.all (fun w => decide (s.ao < w.openAt + 8)) = true →
        s.triggers.all (fun t => decide (s.ao < t.actAt)) = true →
      exec .coincidenceWindowClose s = .next ({ s with acks := [] } : State)) ∧
    (∀ (s : State) (i : Bool) (pg off n : Nat),
      s.deaf = false → pg < 0x200 → off % 4 = 0 → off < 4096 → n ≤ 1 → (s.readWord .host pg off).1 = stOK →
      exec (.spiTransaction true i (regAddr pg off) n []) s = .next ((s.readWord .host pg off).2.2.reply .host [(s.readWord .host pg off).2.1] 0xA0)) ∧
    (∀ (s : State) (i : Bool) (pg v : Nat),
      assigned pg = true → hasShadow pg = true → s.takes .host (HDR.COMMIT_TB_LO pg) (trunc 32 v) = true →
      exec (.spiTransaction false i (regAddr pg 0x024) 1 [v]) s =
      .next ((s.lands .host (HDR.COMMIT_TB_LO pg) [fun u => u.set (HDR.COMMIT_TB_LO pg) v] []).reply .host [] 0xA0)) ∧
    (∀ (s : State) (r i : Bool) (addr n : Nat) (ws : List Nat),
      s.deaf = false → trunc 32 addr % 4 ≠ 0 →
      exec (.spiTransaction r i addr n ws) s = .next ((s.refuse .host (trunc 32 addr) stFORMAT).reply .host [] 0xA6)) ∧
    (∀ (s : State) (i : Bool) (addr : Nat) (ws : List Nat),
      s.deaf = false → trunc 32 addr % 4 = 0 →
      exec (.spiAbort true i addr ws) s = .next ({ s with answer := none } : State) ∧
      exec (.spiAbort false i addr ws) s = .next ({ (s.portWrites .capture .host i (trunc 32 addr) (ws.take 64)).2 with answer := none } : State)) ∧
    (∀ (s : State) (pg d : Nat),
      assigned pg = true → hasShadow pg = true → s.mode = 3 ∨ s.mode = 7 →
        s.takes .test (HDR.COMMIT_TB_LO pg) (trunc 32 d) = true →
      exec (.jtagRegAccess true (regAddr pg 0x024) d) s = .next (s.lands .test (HDR.COMMIT_TB_LO pg) [fun u => u.set (HDR.COMMIT_TB_LO pg) d] [])) ∧
    (∀ (s : State) (pg off d : Nat),
      s.deaf = false → pg < 0x200 → off % 4 = 0 → off < 4096 → s.mode = 3 ∨ s.mode = 7 →
        (s.readWord .test pg off).1 = stOK →
      exec (.jtagRegAccess false (regAddr pg off) d) s = .next ((s.readWord .test pg off).2.2.reply .test [(s.readWord .test pg off).2.1] stOK)) ∧
    (∀ (s : State) (w : Bool) (addr d : Nat),
      s.deaf = false → s.mode ≠ 3 → s.mode ≠ 7 →
      exec (.jtagRegAccess w addr d) s = .next ((s.refuse .test (trunc 32 addr) stDENIED).reply .test (if w then [] else [0]) stDENIED)) ∧
    (∀ (s : State) (w : Bool) (addr d : Nat),
      s.deaf = false → s.mode = 3 ∨ s.mode = 7 → inRegs (trunc 32 addr) = false →
      exec (.jtagRegAccess w addr d) s = .next ((s.refuse .test (trunc 32 addr) stBUS_ERROR).reply .test (if w then [] else [0]) stBUS_ERROR))

/-- A loop that searches, with REFCLK there, fVCO in range and 256 comparisons passed, declares lock with BAND a free
value, and does nothing where one of these is missing; in step 1 of a start the lock of LPLL after CPLL commands
V_START. A locked loop is READY after 64 further comparisons. Loss of lock of a READY loop takes READY, mutes,
counts and searches again; before READY it takes LOCKED only, with the same count and event. A failed search sets
BAND_FAIL with its event and ERR. The loss of REFCLK takes REF_OK and puts a running time base under REF_HOLD
without VALID; its return gives the rate, and INC at once or, under REF_HOLD, later. -/
def Obligations.Loops : Prop :=
  (∀ (s : State) (k : Nat),
      k < 4 → s.loop k = .search → s.on CPLL.REF_OK = true → s.vcoInRange k = true → s.compared k 256 = true →
        s.modes.step ≠ 1 →
      ∃ t : State, exec (.lock k) s = .next t ∧ t.loop k = .locked ∧ t.get (Loop.LOCKED k) = 1 ∧
        t.get (Loop.BAND_FAIL k) = 0 ∧
      t.get (Loop.BAND k) = Config.freeValue s.fv % 64 ∧ bitOf (t.get (HDR.EVT (loopPage k))) evLOCK = true ∧
        t.mem = s.mem ∧
      SameRegs ([(Loop.LOCKED k).key, (Loop.BAND_FAIL k).key, (Loop.BAND k).key] ++ evKeys (loopPage k)) s t) ∧
    (∀ (s : State) (k : Nat),
      k < 4 → s.loop k ≠ .search ∨ s.on CPLL.REF_OK = false ∨ s.vcoInRange k = false ∨ s.compared k 256 = false →
        s.modes.step ≠ 1 →
      ∃ t : State, exec (.lock k) s = .next t ∧ t.clk = s.clk ∧ t.mem = s.mem ∧ SameRegs [] s t) ∧
    (∀ (s : State),
      s.loop 3 = .search → s.on CPLL.REF_OK = true → s.compared 3 256 = true → s.modes.step = 1 → s.on CPLL.LOCKED = true →
      ∃ t : State, exec (.lock 3) s = .next t ∧ t.get LPLL.LOCKED = 1 ∧ t.get AVS.TARGET = s.get AVS.V_START ∧
        t.modes.step = 2 ∧
      t.modes.stepAt = s.ao ∧ t.age.cmdAt = some s.ao ∧ t.mem = s.mem) ∧
    (∀ (s : State),
      s.loop 3 = .locked → s.compared 3 64 = true → s.clk.lost.getD 3 false = false →
      exec (.loopReady 3) s = .next ({ ((s.setLoop 3 .ready).set (Loop.READY 3) 1).set (Loop.MUTED 3) 0 with
        clk := { (s.setLoop 3 .ready).clk with readyAt := s.clk.readyAt.set 3 s.ao } } : State)) ∧
    (∀ (s : State),
      s.loop 0 = .locked → s.compared 0 64 = true →
      ∃ t : State, exec (.loopReady 0) s = .next t ∧ t.loop 0 = .ready ∧ t.get (Loop.READY 0) = 1 ∧
        t.get (Loop.MUTED 0) = 0 ∧ t.get CPLL.BYPASS = 0 ∧
      t.mem = s.mem ∧ SameRegs [(Loop.READY 0).key, (Loop.MUTED 0).key, CPLL.BYPASS.key, ERL1.EVT_LOST_CNT.key] s t) ∧
    (∀ (s : State) (k : Nat),
      k = 1 ∨ k = 2 → s.loop k = .locked → s.compared k 64 = true →
      ∃ t : State, exec (.loopReady k) s = .next t ∧ t.get (Loop.READY k) = 1 ∧ t.get (Loop.MUTED k) = 0 ∧ t.mem = s.mem ∧
        t.otp = s.otp) ∧
    (∀ (s : State) (k : Nat),
      k < 4 → s.loop k = .locked →
      exec (.lol k) s = .next (((((s.setLoop k .search).countFrom k).set (Loop.LOCKED k) 0).count (Loop.LOL_CNT k)).raise (loopPage k) evLOL)) ∧
    (∀ (s : State) (k : Nat),
      k < 4 → s.loop k = .ready →
      ∃ t : State, exec (.lol k) s = .next t ∧ t.loop k = .search ∧ t.get (Loop.READY k) = 0 ∧ t.get (Loop.MUTED k) = 1 ∧
      t.get (Loop.LOL_CNT k) = min (2 ^ (Loop.LOL_CNT k).wid - 1) (s.get (Loop.LOL_CNT k) + 1) ∧
      bitOf (t.get (HDR.EVT (loopPage k))) evLOL = true ∧ t.otp = s.otp) ∧
    (∀ (s : State) (k : Nat),
      k < 4 → s.loop k = .search →
      exec (.bandFail k) s = .next ((((s.setLoop k .failed).set (Loop.BAND_FAIL k) 1).raise (loopPage k) evBAND_FAIL).raiseErr (loopPage k))) ∧
    (∀ (s : State),
      s.on CPLL.REF_OK = true →
      ∃ t : State, exec .refLoss s = .next t ∧ t.get CPLL.REF_OK = 0 ∧ t.get CPLL.REF_RATE = 3 ∧ t.tb = s.tb ∧
        t.clk.resume = none ∧
      bitOf (t.get (HDR.EVT 0x004)) EV.CPLL.REF_LOSS = true ∧
      (s.tbRun = true → t.get TIMEBASE.REF_HOLD = 1 ∧ t.get TIMEBASE.VALID = 0)) ∧
    (∀ (s : State) (r : Nat),
      r < 3 → s.on CPLL.REF_OK = false → s.clk.lowPfd = (r == 0) → s.on TIMEBASE.REF_HOLD = false →
      ∃ t : State, exec (.refBack r) s = .next t ∧ t.get CPLL.REF_OK = 1 ∧ t.get CPLL.REF_RATE = r ∧
        t.get TIMEBASE.INC = incOf r ∧
      t.tbRun = s.tbRun ∧ t.tb = s.tb ∧ bitOf (t.get (HDR.EVT 0x004)) EV.CPLL.REF_BACK = true ∧ t.mem = s.mem ∧
      SameRegs ([CPLL.REF_OK.key, CPLL.REF_RATE.key, TIMEBASE.INC.key] ++ evKeys 0x004) s t) ∧
    (∀ (s : State) (r : Nat),
      r < 3 → s.on CPLL.REF_OK = false → s.clk.lowPfd = (r == 0) → s.on TIMEBASE.REF_HOLD = true →
      ∃ t : State, exec (.refBack r) s = .next t ∧ t.get CPLL.REF_OK = 1 ∧ t.clk.resume = some (incOf r) ∧
        t.get TIMEBASE.INC = s.get TIMEBASE.INC ∧
      t.tb = s.tb ∧ t.mem = s.mem ∧ SameRegs ([CPLL.REF_OK.key, CPLL.REF_RATE.key] ++ evKeys 0x004) s t)

/-- STEP_GO arms a step outside M5 and is refused with its event in M5; an armed step is added at the next REFCLK edge
and sets VALID, and is refused where M5 has been entered. VALID_SET sets VALID. A TSYNC pulse at a REFCLK edge loads
PRESET in load mode outside M5, checks in check mode, and in M5 is blocked with the mode kept; each pulse is
counted. TSYNCO rises half a REFCLK period after an edge from OUT_TB on, for OUT_WIDTH periods; at its end it
disarms, or with OUT_REPEAT moves OUT_TB by PERIOD. A read of NOW_LO answers the low word of the count and latches
the high word for its class. -/
def Obligations.TimeBase : Prop :=
  (∀ (s : State) (c : Cls),
      s.triggered c TIMEBASE.STEP_GO = true → (s.ripe c TIMEBASE.STEP_GO).mode ≠ 5 →
      exec (.stepGo c) s = .next (s.lands c TIMEBASE.STEP_GO [] [fun u => { u with clk := { u.clk with stepGo := true } }])) ∧
    (∀ (s : State) (c : Cls),
      s.triggered c TIMEBASE.STEP_GO = true → (s.ripe c TIMEBASE.STEP_GO).mode = 5 →
      exec (.stepGo c) s = .next (s.lands c TIMEBASE.STEP_GO [] [fun u => u.raise 0x008 EV.TIMEBASE.STEP_REFUSED])) ∧
    (∀ (s : State),
      s.clk.stepGo = true → s.tbRun = true → s.mode ≠ 5 → s.tb % s.inc = 0 →
        s.caps.all (fun x => x.seg.isNone && x.feed.isEmpty) = true →
      ∃ t : State, exec .stepDone s = .next t ∧
      t.tb = (((s.tb : Int) + toSigned 28 (s.get TIMEBASE.STEP_VAL) * 16) % (2 ^ 64 : Nat)).toNat ∧
      t.clk.stepGo = false ∧ t.get TIMEBASE.VALID = 1 ∧ bitOf (t.get (HDR.EVT 0x008)) EV.TIMEBASE.STEP_DONE = true ∧
        t.mem = s.mem) ∧
    (∀ (s : State),
      s.clk.stepGo = true → s.mode = 5 →
      exec .stepDone s = .next (({ s with clk := { s.clk with stepGo := false } } : State).raise 0x008 EV.TIMEBASE.STEP_REFUSED)) ∧
    (∀ (s : State) (c : Cls),
      s.triggered c TIMEBASE.VALID_SET = true →
      exec (.validSet c) s = .next (s.lands c TIMEBASE.VALID_SET [] [fun u => u.set TIMEBASE.VALID 1])) ∧
    (∀ (s : State),
      s.act 0x009 = true → s.tbRun = true → s.mode ≠ 0 → s.mode ≠ 5 → s.tb % s.inc = 0 → s.get TSYNC.MODE = 1 →
        s.caps.all (fun x => x.seg.isNone && x.feed.isEmpty) = true →
      ∃ t : State, exec .tsyncLoad s = .next t ∧
        t.tb = join64 (s.get TIMEBASE.PRESET_LO * 16) (s.get TIMEBASE.PRESET_HI) % 2 ^ 64 ∧
      t.get TSYNC.MODE = 2 ∧ t.get TIMEBASE.VALID = 1 ∧ t.clk.stepGo = false ∧
        bitOf (t.get (HDR.EVT 0x009)) EV.TSYNC.LOADED = true ∧
      t.get TSYNC.PULSES = min (2 ^ TSYNC.PULSES.wid - 1) (s.get TSYNC.PULSES + 1) ∧ t.mem = s.mem) ∧
    (∀ (s : State),
      s.act 0x009 = true → s.tbRun = true → s.mode ≠ 0 → s.tb % s.inc = 0 → s.get TSYNC.MODE = 2 →
      ∃ t : State, exec .tsyncCheck s = .next t ∧ t.tb = s.tb ∧ bitOf (t.get (HDR.EVT 0x009)) EV.TSYNC.CHECKED = true ∧
      t.get TSYNC.PULSES = min (2 ^ TSYNC.PULSES.wid - 1) (s.get TSYNC.PULSES + 1) ∧
      t.get64 TSYNC.LAST_TB_LO TSYNC.LAST_TB_HI = s.tb % 2 ^ 64 ∧ t.mem = s.mem ∧
      SameRegs ([TSYNC.PULSES.key, TSYNC.LAST_TB_LO.key, TSYNC.LAST_TB_HI.key, TSYNC.DIFF.key, TSYNC.DIFF_ERRS.key] ++ evKeys 0x009) s t) ∧
    (∀ (s : State),
      s.act 0x009 = true → s.tbRun = true → s.mode = 5 → s.tb % s.inc = 0 → s.get TSYNC.MODE = 1 →
      ∃ t : State, exec .tsyncCheck s = .next t ∧ t.tb = s.tb ∧
        bitOf (t.get (HDR.EVT 0x009)) EV.TSYNC.LOAD_BLOCKED = true ∧ t.get TSYNC.MODE = 1 ∧ t.mem = s.mem) ∧
    (∀ (s : State),
      s.act 0x009 = true → s.on TSYNC.OUT_ARM = true → s.clk.tsynco = none →
        s.get64 TSYNC.OUT_TB_LO TSYNC.OUT_TB_HI + s.inc / 2 ≤ s.tb → s.tb % s.inc = s.inc / 2 →
      exec .tsyncoPulse s = .next ({ s with clk := { s.clk with tsynco := some (s.ao + max 2 (s.get TSYNC.OUT_WIDTH) * s.inc) } } : State)) ∧
    (∀ (s : State) (e : Nat),
      s.clk.tsynco = some e → e ≤ s.ao → s.on TSYNC.OUT_REPEAT = false ∨ s.get TSYNC.PERIOD = 0 →
      exec .outSent s = .next ((({ s with clk := { s.clk with tsynco := none } } : State).set TSYNC.OUT_ARM 0).raise 0x009 EV.TSYNC.OUT_SENT)) ∧
    (∀ (s : State) (e : Nat),
      s.clk.tsynco = some e → e ≤ s.ao → s.on TSYNC.OUT_REPEAT = true → s.get TSYNC.PERIOD ≠ 0 →
      exec .outSent s = .next ((({ s with clk := { s.clk with tsynco := none } } : State).set64 TSYNC.OUT_TB_LO TSYNC.OUT_TB_HI
      (s.get64 TSYNC.OUT_TB_LO TSYNC.OUT_TB_HI + s.get TSYNC.PERIOD * 16)).raise 0x009 EV.TSYNC.OUT_SENT)) ∧
    (∀ (s : State) (c : Cls),
      s.deaf = false → s.right 0x008 c ≠ 0 → c ≠ .test → s.windows = [] → s.triggers = [] →
      ∃ t : State, exec (.nowLoRead c) s = .next t ∧ t.answer = some ⟨c, [s.now % 2 ^ 32], stOK⟩ ∧
      t.latches.find? (fun x => x.1 == c.code && x.2.1 == TIMEBASE.NOW_HI.key) = some (c.code, TIMEBASE.NOW_HI.key, s.now / 2 ^ 32) ∧
      t.tb = s.tb ∧ t.mem = s.mem ∧ SameRegs [] s t)

/-- A threshold crossing of a receiving path engages 12 dB at once with the hold and decay then in force, and is counted
with its event only from 0 dB. A due release step takes 0.5 dB off, and the last one clears OVL_ACT. A modulator
reset makes 64 ticks INVALID, is counted and raised, and logged where the protection is enabled. A waiting
comparator selection takes effect at a permitted even tick off the bypass, is counted and raised. A sample that
meets a full ADC queue is discarded, counted, raised and logged, and for CALRX discarded alone. DEC_ALIGN starts the
alignment at the next multiple of 16, and 2G after it ALIGN_DONE is raised. -/
def Obligations.Overload : Prop :=
  (∀ (s : State) (n : Nat),
      n < 64 → s.act (rxPage n) = true → s.on (RXPATH.OVL_EN n) = true → (s.path n).st.receives = true →
        s.get (RXPATH.ATT_NOW n) = 0 →
      exec (.ovlEngage n) s = .next ((((((s.set (RXPATH.ATT_NOW n) 24).set (RXPATH.OVL_ACT n) 1).setRx n (fun r => { r with ovlAt := s.ao, ovlStep := false, ovlHold := s.get (RXPATH.OVL_HOLD n), ovlDecay := s.get (RXPATH.OVL_DECAY n) })).count
      (RXPATH.OVL_CNT n)).raise (rxPage n) EV.RXPATH.OVL))) ∧
    (∀ (s : State) (n : Nat),
      n < 64 → s.act (rxPage n) = true → s.on (RXPATH.OVL_EN n) = true → (s.path n).st.receives = true →
        s.get (RXPATH.ATT_NOW n) ≠ 0 →
      exec (.ovlEngage n) s = .next (((s.set (RXPATH.ATT_NOW n) 24).set (RXPATH.OVL_ACT n) 1).setRx n (fun r => { r with ovlAt := s.ao, ovlStep := false, ovlHold := s.get (RXPATH.OVL_HOLD n), ovlDecay := s.get (RXPATH.OVL_DECAY n) }))) ∧
    (∀ (s : State) (n b : Nat),
      n < 64 → 1 < s.get (RXPATH.ATT_NOW n) → s.on (RXPATH.OVL_FORCE n) = false → s.ovlDue n b = true →
      exec (.ovlReleaseStep n b) s = .next ((s.set (RXPATH.ATT_NOW n) (s.get (RXPATH.ATT_NOW n) - 1)).setRx n (fun r => { r with ovlAt := s.ao, ovlStep := true }))) ∧
    (∀ (s : State) (n b : Nat),
      n < 64 → s.get (RXPATH.ATT_NOW n) = 1 → s.on (RXPATH.OVL_FORCE n) = false → s.ovlDue n b = true →
      ∃ t : State, exec (.ovlReleaseStep n b) s = .next t ∧ t.get (RXPATH.ATT_NOW n) = 0 ∧ t.get (RXPATH.OVL_ACT n) = 0 ∧
        t.mem = s.mem ∧
      SameRegs [(RXPATH.ATT_NOW n).key, (RXPATH.OVL_ACT n).key] s t) ∧
    (∀ (s : State) (n : Nat),
      n < 64 → s.modRuns (rxPage n) = true →
      let u : State := (s.rxInvalid n (s.ao + 64)).count (RXPATH.MODRST_CNT n);
      exec (.modReset n) s = .next (if s.on (RXPATH.OVL_EN n) then u.raiseLog 2 (rxPage n) EV.RXPATH.MOD_RESET else u.raise (rxPage n) EV.RXPATH.MOD_RESET)) ∧
    (∀ (s : State) (n mi mq si sq : Nat),
      n < 64 → (s.rx n).comp = some (mi, mq, si, sq) → s.compPermitted n = true → s.tb % 2 = 0 → s.onEdge = true →
      ∃ t : State, exec (.compSwap n) s = .next t ∧ t.get (RXPATH.COMP_MAP_I n) = trunc (RXPATH.COMP_MAP_I n).wid mi ∧
      t.get (RXPATH.COMP_MAP_Q n) = trunc (RXPATH.COMP_MAP_Q n).wid mq ∧
        t.get (RXPATH.SPARES_I n) = trunc (RXPATH.SPARES_I n).wid si ∧
      t.get (RXPATH.SPARES_Q n) = trunc (RXPATH.SPARES_Q n).wid sq ∧
        bitOf (t.get (HDR.EVT (rxPage n))) EV.RXPATH.COMP_SWAP = true ∧ t.mem = s.mem ∧
      SameRegs ([(RXPATH.COMP_MAP_I n).key, (RXPATH.COMP_MAP_Q n).key, (RXPATH.SPARES_I n).key, (RXPATH.SPARES_Q n).key,
        (RXPATH.COMP_SWAP_CNT n).key] ++ evKeys (rxPage n)) s t) ∧
    (∀ (s : State) (n : Nat),
      n < 64 → s.act (rxPage n) = true →
      exec (.rxqOverflow n) s = .next (((s.setRx n (fun r => { r with ovfUntil := s.ao + 1 })).count (RXPATH.RXQ_OVF_CNT n)).raiseLog 2 (rxPage n) EV.RXPATH.RXQ_OVERFLOW)) ∧
    (∀ (s : State),
      exec (.rxqOverflow 64) s = .next (s.setRx 64 (fun r => { r with ovfUntil := s.ao + 1 }))) ∧
    (∀ (s : State) (c : Cls) (n : Nat),
      n < 64 → s.triggered c (RXPATH.DEC_ALIGN n) = true →
      exec (.decAlign c n) s = .next (s.lands c (RXPATH.DEC_ALIGN n) []
      [fun u => (u.setRx n (fun x => { x with align := some (u.ao + (16 - u.tb % 16) % 16) })).set (RXPATH.THR_COUNT n) 0])) ∧
    (∀ (s : State) (n r : Nat),
      n < 64 → (s.rx n).align = some r →
        (r : Int) * 256 + 2 * (gRx s.ulRate * 256 + s.geti (CALT.NOW_DLY 1 n)) ≤ s.ao * 256 →
      exec (.alignDone n) s = .next ((s.setRx n (fun x => { x with align := none })).raise (rxPage n) EV.RXPATH.ALIGN_DONE))

/-- A crossing that is due turns THR_STATE over with its event, COUNT 0 and the stamp of the deciding sample; with none
due nothing happens. A qualifying valid sample that brings COUNT to max(1, HOLD) makes one due, and one that does
not qualify returns COUNT to 0. A write of THR_HI, THR_LO or THR_CFG clears COUNT and what was due. A peak window of
a publishing tap gives the peak with its stamp, or VALID 0 where it held no valid sample; a mean-square window gives
the rounded mean of its valid samples, their number and the stamp of its end. An envelope word goes to the capture
port or the core that ENV_DEST and ENV_IDX name, and nowhere with the other destinations. -/
def Obligations.Detectors : Prop :=
  (∀ (s : State) (tx : Bool) (n k : Nat),
      n < 64 → s.txs.length = 65 → s.rxs.length = 65 → s.thrDue tx n = some k →
      ∃ t : State, exec (.thresholdCrossing tx n) s = .next t ∧ t.on (thrRegs tx n).state = !s.on (thrRegs tx n).state ∧
      t.get (thrRegs tx n).count = 0 ∧ t.get64 (thrRegs tx n).tbLo (thrRegs tx n).tbHi = k % 2 ^ 64 ∧ t.thrDue tx n = none ∧
      bitOf (t.get (HDR.EVT (thrRegs tx n).page)) (if s.on (thrRegs tx n).state then EV.RXPATH.THR_FALL else EV.RXPATH.THR_RISE) = true ∧
        t.mem = s.mem ∧
      SameRegs ([(thrRegs tx n).state.key, (thrRegs tx n).count.key, (thrRegs tx n).tbLo.key, (thrRegs tx n).tbHi.key] ++ evKeys (thrRegs tx n).page) s t) ∧
    (∀ (s : State) (tx : Bool) (n : Nat),
      s.thrDue tx n = none →
      exec (.thresholdCrossing tx n) s = .next s) ∧
    (∀ (s : State) (tx : Bool) (n : Nat) (x : Sample),
      n < 64 → s.txs.length = 65 → s.rxs.length = 65 → s.thrDue tx n = none → s.on (thrRegs tx n).en = true →
        x.invalid = false → s.thrQualifies tx (thrRegs tx n) x = true →
        max 1 (s.get (thrRegs tx n).hold) ≤ s.get (thrRegs tx n).count + 1 →
      (s.thrSample tx n x).thrDue tx n = some x.stamp) ∧
    (∀ (s : State) (tx : Bool) (n : Nat) (x : Sample),
      s.thrDue tx n = none → s.on (thrRegs tx n).en = true → x.invalid = false →
        s.thrQualifies tx (thrRegs tx n) x = false →
      s.thrSample tx n x = s.set (thrRegs tx n).count 0) ∧
    (∀ (s : State) (c : Cls) (a : Nat) (tx : Bool) (n d : Nat),
      n < 64 → s.takes c (thrRegs tx n).hi (trunc 32 d) = true →
      exec (.thrCfgWrite c a tx n 0 d) s = .next (s.lands c (thrRegs tx n).hi
      [fun u => ((u.set (thrRegs tx n).hi d).set (thrRegs tx n).count 0).setThrDue tx n none] [])) ∧
    (∀ (s : State) (c : Cls) (a : Nat) (tx : Bool) (n d : Nat),
      n < 64 → s.takes c (thrRegs tx n).lo (trunc 32 d) = true →
      exec (.thrCfgWrite c a tx n 1 d) s = .next (s.lands c (thrRegs tx n).lo
      [fun u => ((u.set (thrRegs tx n).lo d).set (thrRegs tx n).count 0).setThrDue tx n none] [])) ∧
    (∀ (s : State) (c : Cls) (a : Nat) (tx : Bool) (n d : Nat),
      n < 64 → s.takes c (thrRegs tx n).en (trunc 32 d) = true → s.takes c (thrRegs tx n).ovlHi (trunc 32 d) = true →
        s.takes c (thrRegs tx n).hold (trunc 32 d) = true →
      exec (.thrCfgWrite c a tx n 2 d) s = .next (s.lands c (thrRegs tx n).en
      ([(thrRegs tx n).en, (thrRegs tx n).ovlHi, (thrRegs tx n).hold].map (fun l u => u.thrWritten tx n l (bits (trunc 32 d) l.lo l.wid))) [])) ∧
    (∀ (s : State) (t : Nat) (x : Sample),
      t < 8 → s.tapEnds t (s.peakTicks t) = true → (s.taps.getD t {}).pk = some x →
      ∃ u : State, exec (.peakNew t) s = .next u ∧ u.get (MONTAP.PEAK t) = trunc (MONTAP.PEAK t).wid x.mag ∧
        u.get (MONTAP.PEAK_VALID t) = 1 ∧
      u.get64 (MONTAP.PEAK_TB_LO t) (MONTAP.PEAK_TB_HI t) = x.stamp % 2 ^ 64 ∧ u.get (MONTAP.PEAK_STALE t) = 0 ∧
      bitOf (u.get (HDR.EVT (tapPage t))) EV.MONTAP.PEAK_NEW = true ∧ u.mem = s.mem ∧
      SameRegs ([(MONTAP.PEAK t).key, (MONTAP.PEAK_VALID t).key, (MONTAP.PEAK_TB_LO t).key, (MONTAP.PEAK_TB_HI t).key, (MONTAP.PEAK_STALE t).key,
        (HDR.STALE (tapPage t)).key] ++ evKeys (tapPage t)) s u) ∧
    (∀ (s : State) (t : Nat),
      t < 8 → s.tapEnds t (s.peakTicks t) = true → (s.taps.getD t {}).pk = none →
      ∃ u : State, exec (.peakNew t) s = .next u ∧ u.get (MONTAP.PEAK t) = 0 ∧ u.get (MONTAP.PEAK_VALID t) = 0 ∧
      bitOf (u.get (HDR.EVT (tapPage t))) EV.MONTAP.PEAK_NEW = true ∧ u.mem = s.mem ∧
      SameRegs ([(MONTAP.PEAK t).key, (MONTAP.PEAK_VALID t).key, (MONTAP.PEAK_STALE t).key, (HDR.STALE (tapPage t)).key] ++ evKeys (tapPage t)) s u) ∧
    (∀ (s : State) (t : Nat),
      t < 8 → s.tapEnds t (s.msTicks t) = true → (s.taps.getD t {}).cnt ≠ 0 →
        allPaths.all (fun p => s.get (DPD1.PHASE p) == 0) = true →
      ∃ u : State, exec (.msNew t) s = .next u ∧
        u.get (MONTAP.MS t) = trunc (MONTAP.MS t).wid (divConv (s.taps.getD t {}).sum (s.taps.getD t {}).cnt).toNat ∧
      u.get (MONTAP.MS_VALID t) = 1 ∧ u.get (MONTAP.MS_NVALID t) = trunc (MONTAP.MS_NVALID t).wid (s.taps.getD t {}).cnt ∧
      u.get64 (MONTAP.MS_TB_LO t) (MONTAP.MS_TB_HI t) = s.tapTime t % 2 ^ 64 ∧ u.get (MONTAP.MS_STALE t) = 0 ∧
      bitOf (u.get (HDR.EVT (tapPage t))) EV.MONTAP.MS_NEW = true ∧ u.mem = s.mem ∧ u.dpd = s.dpd) ∧
    (∀ (s : State) (t : Nat),
      t < 8 → s.tapEnds t 128 = true → s.get (MONTAP.ENV_DEST t) = 0 ∨ s.get (MONTAP.ENV_DEST t) = 3 →
      exec (.envelopeWord t) s = .next ({ s with fv := s.fv + 1 } : State)) ∧
    (∀ (s : State) (t : Nat),
      t < 8 → s.tapEnds t 128 = true → s.get (MONTAP.ENV_DEST t) = 1 →
      exec (.envelopeWord t) s = .next (({ s with fv := s.fv + 1 } : State).capFeed t (s.get (MONTAP.ENV_IDX t)) (envWord (s.taps.getD t {}).env (s.taps.getD t {}).envOvl (Config.freeValue s.fv)))) ∧
    (∀ (s : State) (t : Nat),
      t < 8 → s.tapEnds t 128 = true → s.get (MONTAP.ENV_DEST t) = 2 → s.act (0x100 + s.get (MONTAP.ENV_IDX t)) = true →
        s.get (MONTAP.ENV_IDX t) < 8 → s.cores.length = 8 → (s.core (s.get (MONTAP.ENV_IDX t))).stream.length < 64 →
      ∃ u : State, exec (.envelopeWord t) s = .next u ∧
      (u.core (s.get (MONTAP.ENV_IDX t))).stream = (s.core (s.get (MONTAP.ENV_IDX t))).stream ++ [(envWord (s.taps.getD t {}).env (s.taps.getD t {}).envOvl (Config.freeValue s.fv))] ∧
        u.mem = s.mem ∧ SameRegs [] s u)

/-- A DAC queue underflow of an enabled path marks the hole in its stream, and is counted, raised and logged; that of
CALTX is counted, raised and logged. An upstream underflow is counted, raised and logged, and loses the next window.
A waiting cell selection takes effect at a permitted even tick off the bypass, is counted and raised. A range change
switches 96 ticks and ends 160 ticks after its start. TX_MUTE = 1 mutes with CAUSE_SW; TX_MUTE = 0 clears every
cause, and the output resumes at the next slot boundary in M5 and otherwise at the next multiple of 16 ticks.
TXKILL_N mutes all 65 outputs with their cause, and its release clears KILL_PIN alone. A compliance fault of an
active output is shown and raised, and mutes where CMPL_MUTE stands, and always for CALTX. RETIRE = 1 shows the path
as retired and raises PATH_RETIRED; RETIRE = 0 in M5 clears it and leaves the driver to the next slot boundary. -/
def Obligations.TransmitPaths : Prop :=
  (∀ (s : State) (n : Nat),
      n < 64 → s.drv n ≠ 0 →
      exec (.txqUnderflow n) s =
        .next (((s.setTx n (fun x => { x with hole := some (s.ao + 18) })).count (TXPATH.TXQ_UFL_CNT n)).raiseLog 2 (txPage n) EV.TXPATH.TXQ_UNDERFLOW)) ∧
    (∀ (s : State),
      s.drvOf 64 ≠ 0 →
      exec (.txqUnderflow 64) s = .next ((s.count CAL0.TXQ_UFL_CNT).raiseLog 2 0x0AC EV.CAL0.TXQ_UNDERFLOW)) ∧
    (∀ (s : State),
      exec .usUnderflow s =
        .next (({ s.count LINK.US_UFL_CNT with lanes := { s.lanes with lost := true } } : State).raiseLog 2 0x0B0 EV.LINK.US_UNDERFLOW)) ∧
    (∀ (s : State) (n mi mq si sq : Nat),
      n < 64 → (s.tx n).cell = some (mi, mq, si, sq) → s.cellPermitted n = true → s.tb % 2 = 0 → s.onEdge = true →
      ∃ t : State, exec (.cellSwap n) s = .next t ∧ t.get (TXPATH.CELL_MAP_I n) = trunc (TXPATH.CELL_MAP_I n).wid mi ∧
      t.get (TXPATH.CELL_MAP_Q n) = trunc (TXPATH.CELL_MAP_Q n).wid mq ∧
        t.get (TXPATH.CELL_SPARES_I n) = trunc (TXPATH.CELL_SPARES_I n).wid si ∧
      t.get (TXPATH.CELL_SPARES_Q n) = trunc (TXPATH.CELL_SPARES_Q n).wid sq ∧
        bitOf (t.get (HDR.EVT (txPage n))) EV.TXPATH.CELL_SWAP = true ∧ t.mem = s.mem ∧
      SameRegs ([(TXPATH.CELL_MAP_I n).key, (TXPATH.CELL_MAP_Q n).key, (TXPATH.CELL_SPARES_I n).key, (TXPATH.CELL_SPARES_Q n).key,
        (TXPATH.CELL_SWAP_CNT n).key] ++ evKeys (txPage n)) s t) ∧
    (∀ (s : State) (n b r : Nat),
      n < 64 → (s.tx n).range = some (b, r, false) → b + 96 ≤ s.ao → s.onEdge = true →
      exec (.rangeSwitch n) s = .next ((s.setTx n (fun x => { x with range := some (b, r, true) })).set (TXPATH.RANGE_ACT n) r)) ∧
    (∀ (s : State) (n b r : Nat),
      n < 64 → (s.tx n).range = some (b, r, true) → b + 160 ≤ s.ao → s.onEdge = true → (s.tx n).rangeQ = [] →
        s.txs.length = 65 →
      exec (.rangeDone n) s = .next (((s.setTx n (fun x => { x with range := none })).set (TXPATH.RANGE_BUSY n) 0).raise (txPage n) EV.TXPATH.RANGE_DONE)) ∧
    (∀ (s : State) (c : Cls) (a n v : Nat),
      n ≤ 64 → s.accepts c (muteLoc n) v = true → trunc 1 v = 1 →
      exec (.txMuteWrite c a n v) s =
        .next (s.lands c (muteLoc n) [fun u => (u.set (muteLoc n) 1).set (causeSW n) 1] [])) ∧
    (∀ (s : State) (c : Cls) (a n v : Nat),
      n < 64 → (s.ripe c (muteLoc n)).mode ≠ 5 → s.accepts c (muteLoc n) v = true → trunc 1 v = 0 →
        (s.ripe c (muteLoc n)).on (muteLoc n) = true →
      exec (.txMuteWrite c a n v) s = .next (s.lands c (muteLoc n)
        [fun u => ((((u.set (muteLoc n) 0).set (causeSW n) 0).set (causeKILL n) 0).set (causeCMPL n) 0).setTx n (fun x => { x with muteUntil := u.ao + (16 - u.tb % 16) })] [])) ∧
    (∀ (s : State) (c : Cls) (a n v : Nat),
      n < 64 → (s.ripe c (muteLoc n)).mode = 5 → s.accepts c (muteLoc n) v = true → trunc 1 v = 0 →
        (s.ripe c (muteLoc n)).on (muteLoc n) = true →
      exec (.txMuteWrite c a n v) s = .next (s.lands c (muteLoc n)
        [fun u => ((((u.set (muteLoc n) 0).set (causeSW n) 0).set (causeKILL n) 0).set (causeCMPL n) 0).setPath n (fun p => { p with muteToSlot := true })] [])) ∧
    (∀ (s : State) (c : Cls) (a v : Nat),
      (s.ripe c (muteLoc 64)).mode ≠ 5 → s.accepts c (muteLoc 64) v = true → trunc 1 v = 0 →
        (s.ripe c (muteLoc 64)).on (muteLoc 64) = true →
      exec (.txMuteWrite c a 64 v) s = .next (s.lands c (muteLoc 64)
        [fun u => ((((u.set (muteLoc 64) 0).set (causeSW 64) 0).set (causeKILL 64) 0).set (causeCMPL 64) 0).setTx 64 (fun x => { x with muteUntil := u.ao + (16 - u.tb % 16) })] [])) ∧
    (∀ (s : State) (c : Cls) (a v : Nat),
      (s.ripe c (muteLoc 64)).mode = 5 → s.accepts c (muteLoc 64) v = true → trunc 1 v = 0 →
        (s.ripe c (muteLoc 64)).on (muteLoc 64) = true →
      exec (.txMuteWrite c a 64 v) s = .next (s.lands c (muteLoc 64)
        [fun u => ((((u.set (muteLoc 64) 0).set (causeSW 64) 0).set (causeKILL 64) 0).set (causeCMPL 64) 0).setTx 64 (fun x => { x with muteUntil := u.ao + (slotTicks - u.inSlot u.tb) })] [])) ∧
    (∀ (s : State),
      s.pwr.vaux = true → s.pwr.kill = false →
      ∃ t : State, exec .txkillAssert s = .next t ∧ t.pwr.kill = true ∧
      (List.range 65).all (fun n => t.on (muteLoc n) && t.on (causeKILL n) && t.on (killPin n)) = true ∧ t.mem = s.mem ∧
        t.otp = s.otp) ∧
    (∀ (s : State),
      s.pwr.kill = true → bitOf s.pwr.vio 3 = true →
      ∃ t : State, exec .txkillDeassert s = .next t ∧ t.pwr.kill = false ∧
        (List.range 65).all (fun n => t.get (killPin n) == 0 && t.get (muteLoc n) == s.get (muteLoc n)) = true ∧
      t.mem = s.mem ∧ SameRegs ((List.range 65).map (fun n => (killPin n).key)) s t) ∧
    (∀ (s : State) (n : Nat) (b : Bool),
      n < 64 → s.drv n = 2 → s.on (TXPATH.CMPL_MUTE n) = false → s.get AGEING.CMPL_RETIRE ≠ 0 →
        s.get AGEING.CMPL_RETIRE ≠ 1 → s.cal.cmpl = [] →
      ∃ t : State, exec (.complianceFault n b) s = .next t ∧ t.on (if b then TXPATH.SHORT n else TXPATH.OPEN n) = true ∧
      bitOf (t.get (HDR.EVT (txPage n))) (if b then EV.TXPATH.CMPL_SHORT else EV.TXPATH.CMPL_OPEN) = true ∧
        t.get (TXPATH.TX_MUTE n) = s.get (TXPATH.TX_MUTE n) ∧
      t.cal.cmpl = [(n, s.ao)] ∧ t.mem = s.mem ∧
      SameRegs ([(TXPATH.SHORT n).key, (TXPATH.OPEN n).key, (TXPATH.CMPL_CNT n).key] ++ evKeys (txPage n)) s t) ∧
    (∀ (s : State) (n : Nat) (b : Bool),
      n < 64 → s.drv n = 2 → s.on (TXPATH.CMPL_MUTE n) = true →
      ∃ t : State, exec (.complianceFault n b) s = .next t ∧ t.on (TXPATH.TX_MUTE n) = true ∧
        t.on (TXPATH.CAUSE_CMPL n) = true ∧ t.mem = s.mem) ∧
    (∀ (s : State) (b : Bool),
      s.calDrv = 2 →
      exec (.complianceFault 64 b) s = .next ((((s.count CAL0.CMPL_CNT).raise 0x0AC (if b then EV.CAL0.CMPL_SHORT else EV.CAL0.CMPL_OPEN)).set CAL0.TX_MUTE 1).set CAL0.CAUSE_CMPL 1)) ∧
    (∀ (s : State) (c : Cls) (a n v : Nat),
      n < 64 → s.accepts c (TXPATH.RETIRE n) v = true → trunc 1 v = 0 →
        (s.ripe c (TXPATH.RETIRE n)).on (TXPATH.RETIRE n) = true → (s.ripe c (TXPATH.RETIRE n)).mode = 5 →
      exec (.retireWrite c a n v) s = .next (s.lands c (TXPATH.RETIRE n) [fun u =>
        ((u.set (TXPATH.RETIRE n) 0).setPath n (fun p => { p with retTx := !p.retTx })).set (retiredTx n) (clearBit (u.get (retiredTx n)) (n % 32))] [])) ∧
    (∀ (s : State) (c : Cls) (a n v : Nat),
      n < 64 → s.accepts c (TXPATH.RETIRE n) v = true → trunc 1 v = 1 →
        (s.ripe c (TXPATH.RETIRE n)).get (TXPATH.RETIRE n) = 0 →
      ∃ t : State, exec (.retireWrite c a n v) s = .next t ∧ t.get (TXPATH.RETIRE n) = 1 ∧
        bitOf (t.get (retiredTx n)) (n % 32) = true ∧
      bitOf (t.get (HDR.EVT 0x000)) EV.DEVICE.PATH_RETIRED = true ∧ t.mem = (s.ripe c (TXPATH.RETIRE n)).mem ∧
        t.answer = some ⟨c, [], stOK⟩)

/-- A word of VBIASk.CFG stores its fields, with CODE clamped by the range it names, and FORCE_SAFE = 1 steps the output
to BIAS_SAFE. One 100 us interval of a slew, up or down, moves OUT_CODE by SLEW_RATE towards CODE. A due range
switch takes RANGE in force, with the code of the nearest voltage. -/
def Obligations.GateBias : Prop :=
  (∀ (s : State) (c : Cls) (a k d : Nat),
      k < 16 → s.takes c (AUXDAC.FORCE_SAFE k) (trunc 32 d) = true → s.takes c (AUXDAC.KILL_SAFE k) (trunc 32 d) = true →
        s.takes c (AUXDAC.SLEW_RATE k) (trunc 32 d) = true → s.takes c (AUXDAC.RANGE k) (trunc 32 d) = true →
        s.takes c (AUXDAC.CODE k) (trunc 32 d) = true →
        ((s.ripe c (AUXDAC.FORCE_SAFE k) 5).fieldHeld (AUXDAC.FORCE_SAFE k)).isNone = true →
      let u : State := s.ripe c (AUXDAC.FORCE_SAFE k) 5;
      ∃ t : State, exec (.vbiasCfgWrite c a k d) s = .next t ∧
        t.get (AUXDAC.CODE k) = min (u.biasLimit k (bits d 16 1)) (bits d 0 12) ∧
      t.get (AUXDAC.RANGE k) = bits d 16 1 ∧ t.get (AUXDAC.SLEW_RATE k) = bits d 20 8 ∧
        t.get (AUXDAC.KILL_SAFE k) = bits d 30 1 ∧
      t.get (AUXDAC.FORCE_SAFE k) = bits d 31 1 ∧ t.get (AUXDAC.WRITTEN k) = 1 ∧ t.mem = u.mem ∧
        t.answer = some ⟨c, [], stOK⟩ ∧
      SameRegs ([(AUXDAC.FORCE_SAFE k).key, (AUXDAC.KILL_SAFE k).key, (AUXDAC.SLEW_RATE k).key, (AUXDAC.RANGE k).key, (AUXDAC.CODE k).key, (AUXDAC.WRITTEN k).key,
          (AUXDAC.AT_SAFE k).key, (AUXDAC.SLEWING k).key, (AUXDAC.RANGE_ACT k).key, (AUXDAC.OUT_CODE k).key] ++ evKeys 0x125) u t) ∧
    (∀ (s : State) (c : Cls) (a k d : Nat),
      k < 16 → s.takes c (AUXDAC.FORCE_SAFE k) (trunc 32 d) = true → s.takes c (AUXDAC.KILL_SAFE k) (trunc 32 d) = true →
        s.takes c (AUXDAC.SLEW_RATE k) (trunc 32 d) = true → s.takes c (AUXDAC.RANGE k) (trunc 32 d) = true →
        s.takes c (AUXDAC.CODE k) (trunc 32 d) = true →
        ((s.ripe c (AUXDAC.FORCE_SAFE k) 5).fieldHeld (AUXDAC.FORCE_SAFE k)).isNone = true → bits d 31 1 = 1 →
      let u : State := s.ripe c (AUXDAC.FORCE_SAFE k) 5;
      ∃ t : State, exec (.vbiasCfgWrite c a k d) s = .next t ∧ (u.get (AUXDAC.FORCE_SAFE k) = 0 →
        t.get (AUXDAC.OUT_CODE k) = u.get (AUXDAC.SAFE_CODE k) ∧
      t.get (AUXDAC.RANGE_ACT k) = u.get (AUXDAC.SAFE_RANGE k))) ∧
    (∀ (s : State) (k : Nat),
      k < 16 → s.biasHeld k = false → s.on (AUXDAC.SLEWING k) = true → (s.bias.getD k {}).rangeAt = none →
        (s.bias.getD k {}).lastUs + 100 ≤ s.uptimeUs →
        s.get (AUXDAC.OUT_CODE k) + s.get (AUXDAC.SLEW_RATE k) < s.get (AUXDAC.CODE k) → s.get (AUXDAC.SLEW_RATE k) ≠ 0 →
      ∃ t : State, exec (.vbiasSlewStep k) s = .next t ∧
        t.get (AUXDAC.OUT_CODE k) = s.get (AUXDAC.OUT_CODE k) + s.get (AUXDAC.SLEW_RATE k) ∧
      t.get (AUXDAC.SLEWING k) = 1 ∧ t.mem = s.mem ∧
        SameRegs [(AUXDAC.OUT_CODE k).key, (AUXDAC.AT_SAFE k).key, (AUXDAC.SLEWING k).key] s t) ∧
    (∀ (s : State) (k : Nat),
      k < 16 → s.biasHeld k = false → s.on (AUXDAC.SLEWING k) = true → (s.bias.getD k {}).rangeAt = none →
        (s.bias.getD k {}).lastUs + 100 ≤ s.uptimeUs →
        s.get (AUXDAC.CODE k) ≤ s.get (AUXDAC.OUT_CODE k) - s.get (AUXDAC.SLEW_RATE k) →
        s.get (AUXDAC.CODE k) < s.get (AUXDAC.OUT_CODE k) → s.get (AUXDAC.SLEW_RATE k) ≠ 0 →
        s.get (AUXDAC.CODE k) ≠ s.get (AUXDAC.OUT_CODE k) - s.get (AUXDAC.SLEW_RATE k) →
      ∃ t : State, exec (.vbiasSlewStep k) s = .next t ∧
        t.get (AUXDAC.OUT_CODE k) = s.get (AUXDAC.OUT_CODE k) - s.get (AUXDAC.SLEW_RATE k) ∧
      t.get (AUXDAC.SLEWING k) = 1 ∧ t.mem = s.mem ∧
        SameRegs [(AUXDAC.OUT_CODE k).key, (AUXDAC.AT_SAFE k).key, (AUXDAC.SLEWING k).key] s t) ∧
    (∀ (s : State) (k w : Nat),
      k < 16 → (s.bias.getD k {}).rangeAt = some w → w + 1000 ≤ s.uptimeUs → s.biasHeld k = false →
        s.get (AUXDAC.RANGE k) ≠ s.get (AUXDAC.RANGE_ACT k) → s.get (AUXDAC.SLEW_RATE k) ≠ 0 →
        nearestCode (s.get (AUXDAC.RANGE k) == 1) (s.get (AUXDAC.OUT_CODE k)) ≠ s.get (AUXDAC.CODE k) →
        nearestCode (s.get (AUXDAC.RANGE k) == 1) (s.get (AUXDAC.OUT_CODE k)) < 4096 → s.get (AUXDAC.RANGE k) < 2 →
      ∃ t : State, exec (.vbiasRangeSwitch k) s = .next t ∧ t.get (AUXDAC.RANGE_ACT k) = s.get (AUXDAC.RANGE k) ∧
      t.get (AUXDAC.OUT_CODE k) = nearestCode (s.get (AUXDAC.RANGE k) == 1) (s.get (AUXDAC.OUT_CODE k)) ∧
        t.get (AUXDAC.SLEWING k) = 1 ∧ t.mem = s.mem ∧
      SameRegs [(AUXDAC.RANGE_ACT k).key, (AUXDAC.OUT_CODE k).key, (AUXDAC.SLEWING k).key] s t)

/-- An accepted word of a set table stores its five fields and nothing else; one that assigns a block which another bank
has raises BLK_CONFLICT on arrival. An accepted weight is stored, and an address outside the window gives BUS_ERROR.
FILL_GO starts the fill of the block that FILL_BLK names, and the fill zeroes its 6,144 bytes with FILL_DONE. Gains
that are ready let a commit proceed, and those of a forcing change come into force, which are 1 where RENORM_EN is
0. A damaged weight is shown with its set, layer and path and starts new gains. At the end of a limiter window the
attenuations step as the measured powers ask, and come into force 512 ticks later, that of a path with the thermal
back-off added, to 127 at most. -/
def Obligations.Beams : Prop :=
  (∀ (s : State) (c : Cls) (a d set data : Nat),
      d < 2 → set < 256 → s.takes c (BEAMSET.BLK0 d set) (trunc 32 data) = true →
        s.takes c (BEAMSET.BLK0_VALID d set) (trunc 32 data) = true →
        s.takes c (BEAMSET.BLK1 d set) (trunc 32 data) = true →
        s.takes c (BEAMSET.BLK1_VALID d set) (trunc 32 data) = true →
        s.takes c (BEAMSET.SWAP_REQ d set) (trunc 32 data) = true →
      let u : State := s.ripe c (BEAMSET.SWAP_REQ d set) 5;
      ∃ t : State, exec (.setTableWrite c a d set data) s = .next t ∧ t.get (BEAMSET.BLK0 d set) = bits data 0 9 ∧
        t.get (BEAMSET.BLK0_VALID d set) = bits data 9 1 ∧
      t.get (BEAMSET.BLK1 d set) = bits data 16 9 ∧ t.get (BEAMSET.BLK1_VALID d set) = bits data 25 1 ∧
        t.get (BEAMSET.SWAP_REQ d set) = bits data 31 1 ∧
      t.answer = some ⟨c, [], stOK⟩ ∧ t.mem = u.mem ∧
      SameRegs [(BEAMSET.BLK0 d set).key, (BEAMSET.BLK0_VALID d set).key, (BEAMSET.BLK1 d set).key, (BEAMSET.BLK1_VALID d set).key, (BEAMSET.SWAP_REQ d set).key] u t) ∧
    (∀ (s : State) (c : Cls) (a d set data b : Nat),
      d < 2 → set < 256 → b < 2 → data < 2 ^ 32 → s.deaf = false →
        (s.wordRefusal c (setPage d) (0x040 + 4 * set) data).isNone = true → s.blkConflict d set b data = true →
        bits data (9 + 16 * b) 1 ≠ s.get (blkValid d set b) ∨ bits data (16 * b) 9 ≠ s.get (blkOf d set b) →
      bitOf ((s.arrive c a (setPage d) (0x040 + 4 * set) data (wordParts (setPage d) (0x040 + 4 * set) data)).2.get (HDR.EVT (setPage d))) EV.BEAMSET.BLK_CONFLICT = true) ∧
    (∀ (s : State) (c : Cls) (a v d set b o p m i : Nat),
      s.deaf = false → windowParts a = (d, set, b, o) → s.windowAddr a = some p → s.windowRefusal c a true = none →
        s.bankRefusal d set b = none → codeWordOf p = some (m, i) → s.isolated m = false → s.eccOf m i = 0 →
      exec (.weightWrite c a v) s = .next ((s.setWord p (trunc 32 v)).reply c [] stOK)) ∧
    (∀ (s : State) (c : Cls) (a v : Nat),
      s.deaf = false → s.windowAddr a = none →
      exec (.weightWrite c a v) s = .next ((s.refuse c a stBUS_ERROR).reply c [] stBUS_ERROR)) ∧
    (∀ (s : State) (c : Cls),
      s.triggered c (BEAM.FILL_GO 0) (s.get (BEAM.FILL_BLK 0)) = true →
      exec (.fillGo c) s = .next (s.lands c (BEAM.FILL_GO 0) []
        [fun u => ({ u with wts := { u.wts with fillBlk := u.get (BEAM.FILL_BLK 0) } } : State).set (BEAM.FILL_BUSY 0) 1])) ∧
    (∀ (s : State),
      s.on (BEAM.FILL_BUSY 0) = true →
      ∃ t : State, exec .fillDone s = .next t ∧ t.get (BEAM.FILL_BUSY 0) = 0 ∧
        bitOf (t.get (HDR.EVT (beamPage 0))) EV.BEAM.FILL_DONE = true ∧
      t.mem = Memory.clear s.mem (weightBase + s.wts.fillBlk * 6144) 6144) ∧
    (∀ (s : State) (d : Nat),
      d < 2 → (s.beams.getD d {}).redo = false →
      exec (.renormDone d) s = .next ((s.setBeam d (fun _ => {})).set (BEAM.RENORM_BUSY d) 0)) ∧
    (∀ (s : State) (d blk : Nat),
      d < 2 → (s.beams.getD d {}).redo = true → s.block d (s.get (BEAM.SET_ACT d)) (s.bankInForce d) = some blk →
        s.on (BEAM.RENORM_EN d) = false →
      ∃ t : State, exec (.renormDone d) s = .next t ∧ t.get (BEAM.RENORM_BUSY d) = 0 ∧
        (List.range 24).all (fun l => t.get (BEAM.GAIN d l) == 0x4000) = true ∧ t.mem = s.mem ∧
      SameRegs ((BEAM.RENORM_BUSY d).key :: ((List.range 24).map (fun l => (BEAM.GAIN d l).key) ++ evKeys (beamPage d))) s t) ∧
    (∀ (s : State) (d l k blk : Nat),
      d < 2 → l < s.get (BEAM.NLAYERS d) → k < 32 → s.block d (s.get (BEAM.SET_ACT d)) (s.bankInForce d) = some blk →
        s.wts.damaged.look (weightWord blk l k) = 0 →
      ∃ t : State, exec (.weightDamaged d l k) s = .next t ∧
        t.get (damagedOf d (s.get (BEAM.SET_ACT d)) (s.bankInForce d)) = 1 ∧
      t.get (BEAM.DMG_SET d) = s.get (BEAM.SET_ACT d) ∧ t.get (BEAM.DMG_PATH d) = trunc (BEAM.DMG_PATH d).wid (2 * k) ∧
      t.get (BEAM.DMG_LAYER d) = trunc (BEAM.DMG_LAYER d).wid l ∧ t.get (BEAM.RENORM_BUSY d) = 1 ∧
        t.eccOf 4 (weightWord blk l k) = 0xFF ∧ t.mem = s.mem) ∧
    (∀ (s : State),
      s.tb % (2 ^ 14 * rateL s.dlRate) = 0 →
      ∃ t : State, exec .limiterWindowEnd s = .next t ∧
      t.wts.limAtt = allPaths.map (fun p => limitStep (s.wts.limAtt.getD p 0) (s.pathPower p) (s.pathCap p)) ∧
      t.strm.attNext = some (s.tb + 512, t.wts.limAtt, (List.range 24).map (fun l => limitStep (s.get (BEAM.LAYER_ATT 0 l)) (s.layerPower l) (s.layerCap l))) ∧
      t.mem = s.mem ∧ SameRegs ((BEAM.LIM_CNT 0).key :: evKeys (beamPage 0)) s t) ∧
    (∀ (s : State) (e : Nat) (ps ls : List Nat),
      s.strm.attNext = some (e, ps, ls) → e ≤ s.tb →
      (List.range 64).all (fun p => s.attTick.get (BEAM.PATH_ATT 0 p) == min 127 (ps.getD p 0 + s.thermalAtt p)) = true ∧
      (List.range 24).all (fun l => s.attTick.get (BEAM.LAYER_ATT 0 l) == trunc (BEAM.LAYER_ATT 0 l).wid (ls.getD l 0)) = true ∧
        s.attTick.strm.attNext = none)

/-- A committed DPD_EN, or its absence, reaches its path where the driver is disabled or the path is in TURN. A core
that may take a job takes the next path of the lap. A capture starts where the job is 256 ticks old, the path is in
OBS and stays there, drives and is clocked, at a multiple of 1,024 ticks; with no job, without adaptation, outside
M5 or off the boundary nothing happens. A capture that is whole hands the job registers over; one that is not is
void and is made again. JOB_RELEASE ends the job with result 0. -/
def Obligations.DpdLap : Prop :=
  (∀ (s : State) (p : Nat),
      p < 64 → s.cellPermitted p = true → s.on (DPD1.DPD_EN p) = true → s.act 0x0A4 = true →
        s.get (DPD1.DPD_EN_ACT p) = 0 → s.eccAny 5 = false →
      exec (.dpdEnApply p) s = .next (((s.set (DPD1.DPD_EN_ACT p) 1).gdNote p).dpdNote)) ∧
    (∀ (s : State) (p : Nat),
      p < 64 → s.cellPermitted p = true → s.on (DPD1.DPD_EN p) = false ∨ s.act 0x0A4 = false →
        s.get (DPD1.DPD_EN_ACT p) = 1 → s.get (DPD1.PHASE p) = 0 →
      exec (.dpdEnApply p) s = .next (((s.set (DPD1.DPD_EN_ACT p) 0).gdNote p).dpdNote)) ∧
    (∀ (s : State) (c p : Nat),
      s.dpdMayAssign c = true → s.dpdNext = some p → s.dpdClocked p = true →
      exec (.dpdAssign c) s = .next ((s.setDpdJob c (some { path := p, at_ := s.tb })).dpdNote)) ∧
    (∀ (s : State) (c : Nat),
      s.dpdJob c = none ∨ s.on DPD0.ADAPT_EN = false ∨ s.mode ≠ 5 ∨ s.tb % 1024 ≠ 0 →
      exec (.dpdCaptureStart c) s = .next s) ∧
    (∀ (s : State) (c : Nat) (j : DpdJob),
      c < 8 → s.dpdJob c = some j → s.on DPD0.ADAPT_EN = true → s.mode = 5 → s.tb % 1024 = 0 → j.at_ + 256 ≤ s.tb →
        j.cap = none → (s.path j.path).st = .obs → s.drv j.path = 2 →
        s.staysObs j.path (s.tb + s.dpdN + s.lagNom j.path + 64) = true → s.dpdClocked j.path = true →
        s.on (CP.ARMED (s.get DPD0.CAP_PORT_REF)) = false → s.on (CP.ARMED (s.get DPD0.CAP_PORT_OBS)) = false →
        s.get DPD0.CAP_PORT_REF ≠ s.get DPD0.CAP_PORT_OBS → s.dpd.jobs.length = 8 → s.caps.length = 8 →
        s.act (capPage (s.get DPD0.CAP_PORT_REF)) = true → s.act (capPage (s.get DPD0.CAP_PORT_OBS)) = true →
        ((s.dpdPort (s.get DPD0.CAP_PORT_REF) 2 j.path s.tb (s.tb + s.dpdN)).dpdPort (s.get DPD0.CAP_PORT_OBS) 1 j.path (s.tb + s.lagNom j.path - 64) (s.tb + s.lagNom j.path + s.dpdN + 64)).on (CP.ARMED (s.get DPD0.CAP_PORT_REF)) = true →
        ((s.dpdPort (s.get DPD0.CAP_PORT_REF) 2 j.path s.tb (s.tb + s.dpdN)).dpdPort (s.get DPD0.CAP_PORT_OBS) 1 j.path (s.tb + s.lagNom j.path - 64) (s.tb + s.lagNom j.path + s.dpdN + 64)).on (CP.ARMED (s.get DPD0.CAP_PORT_OBS)) = true →

      ∃ t : State, exec (.dpdCaptureStart c) s = .next t ∧ t.dpdJob c = some { j with cap := some s.tb } ∧
        t.on (CP.ARMED (s.get DPD0.CAP_PORT_REF)) = true ∧
      t.on (CP.ARMED (s.get DPD0.CAP_PORT_OBS)) = true ∧ t.mem = s.mem) ∧
    (∀ (s : State) (c : Nat) (j : DpdJob) (w : Nat),
      c < 8 → s.dpdJob c = some j → j.cap = some w → j.done = false → w + s.lagNom j.path + s.dpdN + 64 ≤ s.tb →
        s.segWhole (s.get DPD0.CAP_PORT_REF) (w + s.dpdN) s.dpdN = true →
        s.segWhole (s.get DPD0.CAP_PORT_OBS) (w + s.lagNom j.path + s.dpdN + 64) (s.dpdN + 128) = true →
        s.dpd.jobs.length = 8 → j.path < 64 →
      ∃ t : State, exec (.dpdCaptureDone c) s = .next t ∧ t.dpdJob c = some { j with done := true } ∧
        t.get (DPD2.VALID c) = 1 ∧ t.get (DPD2.PATH c) = j.path ∧
      t.get (DPD2.BANK c) = s.get (DPD1.ACT_BANK j.path) ∧ t.get64 (DPD2.REF_TB_LO c) (DPD2.REF_TB_HI c) = w % 2 ^ 64) ∧
    (∀ (s : State) (c : Nat) (j : DpdJob) (w : Nat),
      c < 8 → s.dpdJob c = some j → j.cap = some w → j.done = false → w + s.lagNom j.path + s.dpdN + 64 ≤ s.tb →
        s.segWhole (s.get DPD0.CAP_PORT_REF) (w + s.dpdN) s.dpdN = false ∨ s.segWhole (s.get DPD0.CAP_PORT_OBS) (w + s.lagNom j.path + s.dpdN + 64) (s.dpdN + 128) = false →

      exec (.dpdCaptureDone c) s = .next ((s.dpdCapStop.setDpdJob c (some { j with cap := none })).raise 0x0A4 EV.DPD0.CAP_VOID)) ∧
    (∀ (s : State) (c : Cls) (k : Nat) (j : DpdJob),
      k < 8 → s.triggered c (DPD2.JOB_RELEASE k) = true → (s.ripe c (DPD2.JOB_RELEASE k)).dpdJob k = some j →
      exec (.jobRelease c k) s = .next (s.lands c (DPD2.JOB_RELEASE k) [] [fun u => u.dpdResult j.path 0]))

/-- UPD_REQ during a management restart has result 9; one whose check fails has the result of the check, counted and
raised; one that passes swaps the bank with result 10 where the guard is off and the clocks of the path are ready,
waits for the clocks where they are not, and otherwise starts the baseline. A full baseline swaps the bank and
starts the evaluation 128 ticks on. A full evaluation gives both ratios and keeps the bank with result 1, or
restores it, freezes the path and raises DIVERGED. GUARD_TO ends the baseline with result 7 and the evaluation,
which restores the bank, with result 8. An accepted word of the model memory is stored, and a refused one is
answered with its code. A damaged word of the model freezes the path. -/
def Obligations.DpdUpdates : Prop :=
  (∀ (s : State) (c : Cls) (p : Nat),
      p < 64 → s.triggered c (DPD1.UPD_REQ p) = true → (s.ripe c (DPD1.UPD_REQ p)).mgmtDown = true →
      exec (.updReq c p) s = .next (s.lands c (DPD1.UPD_REQ p) [] [fun u => u.dpdResult p 9])) ∧
    (∀ (s : State) (c : Cls) (p r : Nat),
      p < 64 → s.triggered c (DPD1.UPD_REQ p) = true → (s.ripe c (DPD1.UPD_REQ p)).mgmtDown = false →
        (s.ripe c (DPD1.UPD_REQ p)).updCheck p = some r →
      exec (.updReq c p) s = .next (s.lands c (DPD1.UPD_REQ p) [] [fun u => ((u.dpdResult p r).count DPD0.CHKFAIL_CNT).raise 0x0A4 EV.DPD0.CHECK_FAIL])) ∧
    (∀ (s : State) (c : Cls) (p : Nat),
      p < 64 → s.triggered c (DPD1.UPD_REQ p) = true → (s.ripe c (DPD1.UPD_REQ p)).mgmtDown = false →
        (s.ripe c (DPD1.UPD_REQ p)).updCheck p = none → (s.ripe c (DPD1.UPD_REQ p)).on DPD0.GUARD_EN = false →
        (s.ripe c (DPD1.UPD_REQ p)).dpdClocked p = true → (s.ripe c (DPD1.UPD_REQ p)).eccAny 5 = false →
      exec (.updReq c p) s = .next (s.lands c (DPD1.UPD_REQ p) [] [fun u => (u.set (DPD1.ACT_BANK p) (1 - u.get (DPD1.ACT_BANK p))).dpdResult p 10])) ∧
    (∀ (s : State) (c : Cls) (p : Nat),
      p < 64 → s.triggered c (DPD1.UPD_REQ p) = true → (s.ripe c (DPD1.UPD_REQ p)).mgmtDown = false →
        (s.ripe c (DPD1.UPD_REQ p)).updCheck p = none → (s.ripe c (DPD1.UPD_REQ p)).on DPD0.GUARD_EN = false →
        (s.ripe c (DPD1.UPD_REQ p)).dpdClocked p = false →
      exec (.updReq c p) s = .next (s.lands c (DPD1.UPD_REQ p) [] [fun u => (u.set (DPD1.PHASE p) 1).setDpdPath p (fun g => { lapped := g.lapped, timer := u.ao, bare := true, aim := none, since := u.tb })])) ∧
    (∀ (s : State) (c : Cls) (p : Nat),
      p < 64 → s.triggered c (DPD1.UPD_REQ p) = true → (s.ripe c (DPD1.UPD_REQ p)).mgmtDown = false →
        (s.ripe c (DPD1.UPD_REQ p)).updCheck p = none → (s.ripe c (DPD1.UPD_REQ p)).on DPD0.GUARD_EN = true →
      exec (.updReq c p) s = .next (s.lands c (DPD1.UPD_REQ p) [] [fun u => (u.set (DPD1.PHASE p) 1).setDpdPath p (fun g => { lapped := g.lapped, timer := u.ao, aim := some u.tb, since := u.tb })])) ∧
    (∀ (s : State) (p : Nat),
      p < 64 → s.get (DPD1.PHASE p) = 1 → (s.dpdPath p).bare = false → s.guardFull p = true → s.mgmtDown = false →
        s.dpdClocked p = true → s.eccAny 5 = false →
      let u : State := (s.set (DPD1.PHASE p) 2).setDpdPath p
        (fun g => { g with timer := s.ao, paused := none, since := s.tb + 128, n := 0, c := 0, a := 0, c0 := g.c, a0 := g.a });
      exec (.guardBaselineDone p) s = .next (u.set (DPD1.ACT_BANK p) (1 - s.get (DPD1.ACT_BANK p)))) ∧
    (∀ (s : State) (p : Nat),
      p < 64 → s.get (DPD1.PHASE p) = 2 → s.guardFull p = true →
        diverged (s.get DPD0.GUARD_MARGIN) (s.dpdPath p).c0 (s.dpdPath p).a0 (s.dpdPath p).c (s.dpdPath p).a = false →
      ∃ t : State, exec (.guardVerdict p) s = .next t ∧ t.get (DPD1.PHASE p) = 0 ∧ t.get (DPD1.LAST_RESULT p) = 1 ∧
        t.get (DPD1.ACT_BANK p) = s.get (DPD1.ACT_BANK p) ∧
      t.get (DPD3.ACLR_BEFORE p) = aclr (s.dpdPath p).c0 (s.dpdPath p).a0 (Config.freeValue s.fv) ∧
      t.get (DPD3.ACLR_AFTER p) = aclr (s.dpdPath p).c (s.dpdPath p).a (Config.freeValue (s.fv + 1)) ∧ t.mem = s.mem) ∧
    (∀ (s : State) (p : Nat),
      p < 64 → s.get (DPD1.PHASE p) = 2 → s.guardFull p = true →
        diverged (s.get DPD0.GUARD_MARGIN) (s.dpdPath p).c0 (s.dpdPath p).a0 (s.dpdPath p).c (s.dpdPath p).a = true →
      ∃ t : State, exec (.guardVerdict p) s = .next t ∧ t.get (DPD1.PHASE p) = 0 ∧ t.get (DPD1.LAST_RESULT p) = 2 ∧
        t.get (DPD1.FROZEN p) = 1 ∧
      t.get (DPD1.ACT_BANK p) = (1 - s.get (DPD1.ACT_BANK p)) % 2 ∧ bitOf (t.get (HDR.EVT 0x0A4)) EV.DPD0.DIVERGED = true ∧
        t.mem = s.mem) ∧
    (∀ (s : State) (p : Nat),
      p < 64 → s.get (DPD1.PHASE p) = 1 → (s.dpdPath p).bare = false → (s.dpdPath p).paused = none →
        s.guardFull p = false → (s.dpdPath p).timer + max 1 (s.get DPD0.GUARD_TO) * 2 ^ 20 ≤ s.ao →
      exec (.guardTimeout p) s = .next ((s.dpdResult p 7).raise 0x0A4 EV.DPD0.GUARD_TIMEOUT)) ∧
    (∀ (s : State) (p : Nat),
      p < 64 → s.get (DPD1.PHASE p) = 2 → (s.dpdPath p).bare = false → (s.dpdPath p).paused = none →
        s.guardFull p = false → (s.dpdPath p).timer + max 1 (s.get DPD0.GUARD_TO) * 2 ^ 20 ≤ s.ao →
      exec (.guardTimeout p) s = .next (((s.set (DPD1.ACT_BANK p) (1 - s.get (DPD1.ACT_BANK p))).dpdResult p 8).raise 0x0A4 EV.DPD0.GUARD_TIMEOUT)) ∧
    (∀ (s : State) (c : Cls) (a v k m i : Nat),
      s.deaf = false → s.modelRefusal c a = none → modelMask (a % 0x400) = some k → codeWordOf a = some (m, i) →
        s.isolated m = false → s.eccOf m i = 0 →
      exec (.modelWrite c a v) s = .next ((s.setWord a (trunc 32 v &&& k)).reply c [] stOK)) ∧
    (∀ (s : State) (c : Cls) (a v r : Nat),
      s.deaf = false → s.modelRefusal c a = some r →
      exec (.modelWrite c a v) s = .next ((s.refuse c a r).reply c [] r)) ∧
    (∀ (s : State) (p w : Nat),
      p < 64 → w < 128 → s.on (DPD1.DPD_EN_ACT p) = true →
      ∃ t : State, exec (.modelDamaged p w) s = .next t ∧ t.get (DPD1.FROZEN p) = 1 ∧
        bitOf (t.get (HDR.EVT 0x0A4)) EV.DPD0.MODEL_DAMAGED = true ∧
      t.eccOf 5 (p * 256 + s.get (DPD1.ACT_BANK p) * 128 + w) = 0xFF ∧ t.mem = s.mem)

/-- At a slot boundary outside M5 each path of the octet loses its suppression and its mute to the slot and keeps its
state, and SLOT_NOW is 0; in M5 SLOT_NOW is the slot of the pattern, and released mutes and retirements act. Off a
boundary and outside M5 nothing happens. 640 ticks into a turn-round the driver takes what its target carries, with
FIRST_SAMPLE where that is signal on an operational page. 1,280 ticks into it the path takes RX; TX or OFF is taken
likewise, with the overload attenuator released unless OVL_FORCE holds it. TRSW_NOW takes the level of the switch
output at an edge of the clock in use. -/
def Obligations.Slots : Prop :=
  (∀ (s : State) (g : Nat),
      g < 8 → s.octs.length = 8 → s.tbRun = true → s.isBoundary s.tb = true → s.mode ≠ 5 →
        (octPaths g).all (fun n => !(s.path n).drv && (s.path n).wdrTo.isNone && !(s.path n).retTx && !(s.path n).retRx) = true →

      ∃ t : State, exec (.slotBoundary g) s = .next t ∧ t.get (OCTET.SLOT_NOW g) = 0 ∧ (t.oct g).reported = false ∧
        (t.oct g).moved = false ∧
      (octPaths g).all (fun n => (t.path n).supp == 0 && (t.path n).muteToSlot == false && (t.path n).st == (s.path n).st) = true ∧
        t.mem = s.mem ∧
      SameRegs [(OCTET.SLOT_NOW g).key] s t) ∧
    (∀ (s : State) (g : Nat),
      g < 8 → s.tbRun = true → s.isBoundary s.tb = true → s.mode = 5 →
      ∃ t : State, exec (.slotBoundary g) s = .next t ∧ t.get (OCTET.SLOT_NOW g) = s.slotIndex s.tb ∧ t.tb = s.tb ∧
        t.mem = s.mem ∧
      (octPaths g).all (fun n => !(t.path n).muteToSlot && !(t.path n).retTx && !(t.path n).retRx) = true) ∧
    (∀ (s : State) (g : Nat),
      s.tbRun = true → s.isBoundary s.tb = false → s.mode ≠ 5 →
      exec (.slotBoundary g) s = .next s) ∧
    (∀ (s : State) (n : Nat),
      n < 64 → (s.path n).st = .turn → (s.path n).drvDone = false → (s.path n).t1 + 640 ≤ s.ao → s.act (txPage n) = true →
        (s.path n).tgt.carries = true →
      exec (.turnDriverSwitch n) s = .next ((s.set (TXPATH.FIRST_SAMPLE n) 1).setPath n (fun p => { p with drv := p.tgt.carries, drvDone := true }))) ∧
    (∀ (s : State) (n : Nat),
      n < 64 → (s.path n).st = .turn → (s.path n).drvDone = false → (s.path n).t1 + 640 ≤ s.ao →
        s.act (txPage n) = false ∨ (s.path n).tgt.carries = false →
      exec (.turnDriverSwitch n) s = .next (s.setPath n (fun p => { p with drv := p.tgt.carries, drvDone := true }))) ∧
    (∀ (s : State) (n : Nat),
      n < 64 → s.paths.length = 64 → (s.path n).st = .turn → (s.path n).drvDone = true → (s.path n).t1 + 1280 ≤ s.ao →
        (s.path n).tgt = .rx →
      exec (.turnRoundSettled n) s = .next ((s.setPath n (fun p => { p with st := .rx, left := .rx })).setPath n (fun p => { p with since := s.tb }))) ∧
    (∀ (s : State) (n : Nat),
      n < 64 → s.paths.length = 64 → (s.path n).st = .turn → (s.path n).drvDone = true → (s.path n).t1 + 1280 ≤ s.ao →
        (s.path n).tgt = .tx ∨ (s.path n).tgt = .off →
      ∃ t : State, exec (.turnRoundSettled n) s = .next t ∧ (t.path n).st = (s.path n).tgt ∧
        (t.path n).left = (s.path n).tgt ∧
      t.get (RXPATH.OVL_ACT n) = (if s.on (RXPATH.OVL_FORCE n) then 1 else 0) ∧
        t.get (RXPATH.ATT_NOW n) = (if s.on (RXPATH.OVL_FORCE n) then 24 else 0) ∧ t.mem = s.mem) ∧
    (∀ (s : State) (g : Nat),
      s.onEdge = true →
      exec (.trswChange g) s = .next (s.set (OCTET.TRSW_NOW g) (if s.trsw g then 1 else 0)))

/-- An accepted ENQ_ACT pushes what its class has written, at once; one that meets a full queue is answered with
COMMIT_PENDING, raises Q_FULL and changes no queue. FLUSH takes the entries from 512 ticks on out of its queue. A
due entry leaves its queue and is performed: WINDOW, SET and ONESHOT put each path that they name into the state,
COMMIT leaves the other queues and is a write of REQ, which a pending commit refuses, RANGE starts the range change,
RFFE starts the sequence, TRIG holds TRIGOUT to the latest end. One that is malformed or cannot be read is dropped
with reason 3, one that its mode does not permit with reason 2, a timed one whose time has passed with reason 1. A
window that ends gives its path the state of the pattern or mode, a ONESHOT that ends the state RET, and TRIGOUT
falls at its end. -/
def Obligations.TimelineQueue : Prop :=
  (∀ (s : State) (c : Cls) (act : Nat),
      s.deaf = false → (s.wordRefusal c 0x0A8 0x054 (trunc 32 act)).isNone = true →
        (s.partRefusal c (trunc 32 act) TIMELINE0.ENQ_CODE).isNone = true →
      let u : State := { s with acks := [] };
      exec (.enqAct c act) s = .next ((u.push c (join64 (u.written c TIMELINE0.ENQ_TB_LO * 16) (u.written c TIMELINE0.ENQ_TB_HI)) (trunc 32 act)
        (u.written c TIMELINE0.ENQ_ARG)).reply c [] stOK)) ∧
    (∀ (s : State) (c : Cls) (act : Nat),
      s.deaf = false → (s.wordRefusal c 0x0A8 0x054 (trunc 32 act)).isNone = true →
        s.partRefusal c (trunc 32 act) TIMELINE0.ENQ_CODE = some stPENDING →
      ∃ t : State, exec (.enqAct c act) s = .next t ∧ bitOf (t.get (HDR.EVT 0x0A8)) EV.TIMELINE0.Q_FULL = true ∧
        t.answer = some ⟨c, [], stPENDING⟩ ∧ t.octs = s.octs ∧ t.mem = s.mem ∧
      SameRegs (refusalKeys ++ evKeys 0x0A8) s t) ∧
    (∀ (s : State) (c : Cls) (g : Nat),
      g < 8 → s.triggered c (TIMELINE1.FLUSH g) = true →
      exec (.queueFlush c g) s = .next (s.lands c (TIMELINE1.FLUSH g) []
        [fun u => (u.setOct g (fun o => { o with queue := o.queue.filter (fun e => decide (e.t < u.tb + 512)) })).queueNote g])) ∧
    (∀ (s : State) (g : Nat) (e : QEntry),
      g < 8 → s.dueEntry g 1 = some e → ((entryWords g e).all (fun i => s.eccOf 7 i == 0) && !s.isolated 7) = true →
        s.malformed e = false → actPermitted e s.mode = true → s.tb ≤ e.t → e.code = 1 → 0 < e.arg % 2 ^ 24 →
      let u : State := (s.setOct g (fun o => { o with queue := o.queue.tail })).queueNote g;
      exec (.tlWindow g) s = .next ((entryPaths g e.mask).foldl (fun s n =>
        s.actPath n e (fun p => { p with win := some (e.t + 16 * (e.arg % 2 ^ 24)), shot := none, held := false })) u)) ∧
    (∀ (s : State) (g : Nat) (e : QEntry),
      g < 8 → s.dueEntry g 2 = some e → ((entryWords g e).all (fun i => s.eccOf 7 i == 0) && !s.isolated 7) = true →
        s.malformed e = false → actPermitted e s.mode = true → s.tb ≤ e.t → e.code = 2 →
      let u : State := (s.setOct g (fun o => { o with queue := o.queue.tail })).queueNote g;
      exec (.tlSet g) s = .next ((entryPaths g e.mask).foldl (fun s n => s.actPath n e (fun p => { p with win := none, shot := none, held := true })) u)) ∧
    (∀ (s : State) (g : Nat) (e : QEntry),
      g < 8 → s.dueEntry g 3 = some e → ((entryWords g e).all (fun i => s.eccOf 7 i == 0) && !s.isolated 7) = true →
        s.malformed e = false → actPermitted e s.mode = true → s.tb ≤ e.t → e.code = 3 →
      let u : State := (s.setOct g (fun o => { o with queue := o.queue.tail })).queueNote g;
      exec (.tlOneshot g) s = .next ((entryPaths g e.mask).foldl (fun s n => s.actPath n e (fun p =>
        { p with win := none, shot := some (e.t + 16 * (e.arg % 2 ^ 24), PState.ofCode e.ret), held := true })) u)) ∧
    (∀ (s : State) (g : Nat) (e : QEntry),
      g < 8 → s.dueEntry g 4 = some e → ((entryWords g e).all (fun i => s.eccOf 7 i == 0) && !s.isolated 7) = true →
        s.malformed e = false → e.code = 4 → s.on (HDR.PENDING (e.arg % 512)) = false →
      let u : State := (s.setOct g (fun o => { o with queue := o.queue.tail })).queueNote g;
      exec (.tlCommit g) s = .next (let v : State := (List.range 8).foldl (fun s o =>
        (s.setOct o (fun x => { x with queue := x.queue.filter (fun y => decide (y.id ≠ e.id)) })).queueNote o) u; v.commitReq (e.arg % 512))) ∧
    (∀ (s : State) (g : Nat) (e : QEntry),
      g < 8 → s.dueEntry g 4 = some e → ((entryWords g e).all (fun i => s.eccOf 7 i == 0) && !s.isolated 7) = true →
        s.malformed e = false → e.code = 4 → s.on (HDR.PENDING (e.arg % 512)) = true →
      let u : State := (s.setOct g (fun o => { o with queue := o.queue.tail })).queueNote g;
      exec (.tlCommit g) s = .next (let v : State := (List.range 8).foldl (fun s o =>
        (s.setOct o (fun x => { x with queue := x.queue.filter (fun y => decide (y.id ≠ e.id)) })).queueNote o) u; v.refuse e.cls (regAddr (e.arg % 512) 0x020) stPENDING)) ∧
    (∀ (s : State) (g : Nat) (e : QEntry),
      g < 8 → s.dueEntry g 5 = some e → ((entryWords g e).all (fun i => s.eccOf 7 i == 0) && !s.isolated 7) = true →
        s.malformed e = false → actPermitted e s.mode = true → s.tb ≤ e.t → e.code = 5 →
      let u : State := (s.setOct g (fun o => { o with queue := o.queue.tail })).queueNote g;
      exec (.tlRange g) s = .next ((entryPaths g e.mask).foldl (fun s n => (s.set (TXPATH.FS_RANGE n) e.range).rangeStart n (s.aoAt e.t) e.range) u)) ∧
    (∀ (s : State) (g : Nat) (e : QEntry),
      g < 8 → s.dueEntry g 6 = some e → ((entryWords g e).all (fun i => s.eccOf 7 i == 0) && !s.isolated 7) = true →
        s.malformed e = false → actPermitted e s.mode = true → s.tb ≤ e.t → e.code = 6 →
      let u : State := (s.setOct g (fun o => { o with queue := o.queue.tail })).queueNote g;
      exec (.tlRffe g) s = .next (u.seqStart g (e.arg % 16) e.t)) ∧
    (∀ (s : State) (g : Nat) (e : QEntry),
      g < 8 → s.dueEntry g 7 = some e → ((entryWords g e).all (fun i => s.eccOf 7 i == 0) && !s.isolated 7) = true →
        s.malformed e = false → actPermitted e s.mode = true → s.tb ≤ e.t → e.code = 7 →
      let u : State := (s.setOct g (fun o => { o with queue := o.queue.tail })).queueNote g;
      exec (.tlTrig g) s = .next ({ u with tl := { u.tl with trigEnd := some (match s.tl.trigEnd with
        | some x => max x (s.aoAt e.t + max 16 (e.arg % 2 ^ 16)) | none => s.aoAt e.t + max 16 (e.arg % 2 ^ 16)) } } : State)) ∧
    (∀ (s : State) (g : Nat) (e : QEntry),
      g < 8 → s.dueEntry g 2 = some e → ((entryWords g e).all (fun i => s.eccOf 7 i == 0) && !s.isolated 7) = true →
        s.malformed e = true → e.code = 4 ∨ s.tb ≤ e.t →
      exec (.tlSet g) s = .next (((s.setOct g (fun o => { o with queue := o.queue.tail })).queueNote g).dropAction g e.code e.t 3)) ∧
    (∀ (s : State) (g : Nat) (e : QEntry),
      g < 8 → s.dueEntry g 2 = some e → ((entryWords g e).all (fun i => s.eccOf 7 i == 0) && !s.isolated 7) = true →
        s.malformed e = false → e.code = 2 → s.tb ≤ e.t → actPermitted e s.mode = false →
      exec (.tlSet g) s = .next (((s.setOct g (fun o => { o with queue := o.queue.tail })).queueNote g).dropAction g e.code e.t 2)) ∧
    (∀ (s : State) (g : Nat) (e : QEntry),
      g < 8 → s.dueEntry g 1 = some e → ((entryWords g e).all (fun i => s.eccOf 7 i == 0) && !s.isolated 7) = true →
        e.code ≠ 4 → e.t < s.tb →
      exec (.tlWindow g) s = .next (((s.setOct g (fun o => { o with queue := o.queue.tail })).queueNote g).dropAction g e.code e.t 1)) ∧
    (∀ (s : State) (g : Nat) (e : QEntry),
      g < 8 → s.dueEntry g 7 = some e → (s.entryRead g e).1 = false →
      exec (.tlTrig g) s = .next ((((s.entryRead g e).2.setOct g (fun o => { o with queue := o.queue.tail })).queueNote g).dropAction g e.code e.t 3)) ∧
    (∀ (s : State) (n e : Nat),
      n < 64 → (s.path n).win = some e → e ≤ s.tb →
      let u : State := s.setPath n (fun p => { p with win := none });
      exec (.windowEnd n) s = .next (u.goPath n e (u.setState n e))) ∧
    (∀ (s : State) (n e : Nat) (q : PState),
      n < 64 → (s.path n).shot = some (e, q) → e ≤ s.tb →
      exec (.oneshotEnd n) s = .next ((s.setPath n (fun p => { p with shot := none })).goPath n e q)) ∧
    (∀ (s : State) (e : Nat),
      s.tl.trigEnd = some e → e ≤ s.ao → s.onEdge = true →
      exec .trigoutEnd s = .next ({ s with tl := { s.tl with trigEnd := none } } : State))

/-- The RFFE sequence of an octet starts once for a turn-round that changes its switch, LEAD ticks before it settles. A
command that completes frees its bus and ends the last run, and a Register Read stores its data with its parity and
raises RFFE_READ, and RFFE_PERR where the parity is wrong. A direction that is awake goes to the sleep asked for,
deep sleep of the downstream lanes without block lock; one that is no longer to sleep wakes in 118 ticks from light
sleep and 7,864 from deep sleep, not before its entry ends, and is awake at the end. A wake request wakes it for
2,048 ticks more; that of a waiting event packet does so with EVT_WAKE. A downstream lane in use without block lock
at the end of a wake is a failed wake, counted and raised. -/
def Obligations.RffeAndSleep : Prop :=
  (∀ (s : State) (g m : Nat) (b : Bool),
      g < 8 → s.trswChanges g m b = true →
        m + 1280 ≤ s.tb + s.get (if b then OCTET.RFFE_TX_LEAD g else OCTET.RFFE_RX_LEAD g) →
        (s.oct g).rffeFor ≠ some (m, b) →
      exec (.rffeSequenceStart g m b) s = .next ((s.setOct g (fun o => { o with rffeFor := some (m, b) })).seqStart g (s.get (if b then OCTET.RFFE_TX_SEQ g else OCTET.RFFE_RX_SEQ g))
      (m + 1280 - s.get (if b then OCTET.RFFE_TX_LEAD g else OCTET.RFFE_RX_LEAD g)))) ∧
    (∀ (s : State) (b d e : Nat) (p : Bool) (r : RffeRun),
      b < 4 → s.tl.rffe.busy.getD b none = some e → e ≤ s.tb → s.tl.rffe.runs = [r] → r.started = true →
        s.get (TIMELINE3.BUS (s.cmdIndex r.seq r.idx)) = b → s.get (TIMELINE3.TYPE (s.cmdIndex r.seq r.idx)) ≠ 1 →
        s.get (TIMELINE2.LEN r.seq) ≤ r.idx + 1 →
      ∃ t : State, exec (.rffeCommandDone b d p) s = .next t ∧ t.get (TIMELINE2.BUSY b) = 0 ∧ t.tl.rffe.runs = [] ∧
        t.tl.rffe.busy = s.tl.rffe.busy.set b none ∧ t.mem = s.mem ∧
      SameRegs [(TIMELINE2.BUSY b).key] s t) ∧
    (∀ (s : State) (b d e : Nat) (p : Bool) (r : RffeRun),
      b < 4 → s.tl.rffe.busy.getD b none = some e → e ≤ s.tb → s.tl.rffe.runs = [r] → r.started = true →
        s.get (TIMELINE3.BUS (s.cmdIndex r.seq r.idx)) = b → s.get (TIMELINE3.TYPE (s.cmdIndex r.seq r.idx)) = 1 →
        s.get (TIMELINE2.LEN r.seq) ≤ r.idx + 1 →
      ∃ t : State, exec (.rffeCommandDone b d p) s = .next t ∧ t.get (TIMELINE2.BUSY b) = 0 ∧ t.tl.rffe.runs = [] ∧
        t.get (TIMELINE2.RD_VALID b) = 1 ∧
      t.get (TIMELINE2.RD_PERR b) = (if p then 1 else 0) ∧ t.get (TIMELINE2.RD_DATA b) = d % 256 ∧
      bitOf (t.get (HDR.EVT 0x0A8)) EV.TIMELINE0.RFFE_READ = true ∧ (p = true →
        bitOf (t.get (HDR.EVT 0x0A8)) EV.TIMELINE0.RFFE_PERR = true) ∧ t.mem = s.mem) ∧
    (∀ (s : State) (b : Bool),
      s.lanePwr b = 0 → 2 ≤ s.laneWant b → b = false ∨ s.laneWant b ≠ 3 →
      exec (.laneSleepEnter b) s = .next ((s.setLanePwr b (s.laneWant b)).setLane b (fun l => { l with entryEnd := s.tb + 32 }))) ∧
    (∀ (s : State),
      s.lanePwr true = 0 → s.laneWant true = 3 →
      ∃ t : State, exec (.laneSleepEnter true) s = .next t ∧ t.lanePwr true = 3 ∧ (t.lane true).entryEnd = s.tb + 32 ∧
        t.get LINK.DS_BLOCK_LOCK = 0 ∧
      (List.range 16).all (fun k => t.get (DS.BLOCK_LOCK k) == 0) = true ∧ t.mem = s.mem ∧
      SameRegs ([TIMELINE0.DS_STATE.key, LINK.DS_PWR.key, LINK.DS_BLOCK_LOCK.key] ++ (List.range 16).map (fun k => (DS.BLOCK_LOCK k).key)) s t) ∧
    (∀ (s : State) (b : Bool),
      s.laneWant b = 0 → 2 ≤ s.lanePwr b →
      exec (.laneWakeStart b) s = .next ((s.setLanePwr b 1).setLane b (fun l => { l with wakeEnd := max s.tb l.entryEnd + (if s.lanePwr b = 3 then 7864 else 118) }))) ∧
    (∀ (s : State) (b : Bool),
      s.lanePwr b = 1 → (s.lane b).wakeEnd ≤ s.tb →
      exec (.laneAwake b) s = .next (s.setLanePwr b 0)) ∧
    (∀ (s : State) (b : Bool),
      2 ≤ s.lanePwr b →
      ∃ t : State, exec (.laneWakeRequest b false) s = .next t ∧ t.lanePwr b = 1 ∧
        (t.lane b).wakeEnd = max s.tb (s.lane b).entryEnd + (if s.lanePwr b = 3 then 7864 else 118) ∧
      (t.lane b).holdUntil = (t.lane b).wakeEnd + 2048 ∧ t.mem = s.mem) ∧
    (∀ (s : State),
      2 ≤ s.lanePwr false → s.on TIMELINE0.EVT_WAKE = true → s.evtQ ≠ [] →
      ∃ t : State, exec (.laneWakeRequest false true) s = .next t ∧ t.lanePwr false = 1 ∧
        (t.lane false).holdUntil = (t.lane false).wakeEnd + 2048 ∧ t.evtQ = s.evtQ ∧ t.mem = s.mem) ∧
    (∀ (s : State),
      s.lanePwr true = 1 → s.tl.ds.wakeEnd ≤ s.tb →
        (List.range 16).any (fun k => s.act (0x0B8 + k) && !s.on (DS.BLOCK_LOCK k)) = true →
      exec .wakeFail s = .next ((((s.setLanePwr true 0).setLane true (fun l => { l with failed := true })).count LINK.WAKE_FAIL_CNT).raise 0x0B0 EV.LINK.WAKE_FAIL))

/-- The reference check stores its deviation, with REF_OK up to 500 and otherwise a logged REF_FAULT. A selection of
kind 3 or 7 waits for its permitted boundary, kind 4 takes effect in both banks, each with RES_NEW; where a loop of
the path is not ready the result fails with reason 5. A waiting trim takes effect at a permitted even tick. The
phases of an LO take effect for its octets 40,960 ticks after their measurement started. The corrections of all
entries move at each multiple of 32,768 ticks in M5 and at no other. An array result that has its AVG measurements
is stored with VALID and AGE 0, that of the reference path as 1 at delay 0; one of another chip is published in ROLE
1. -/
def Obligations.Calibration : Prop :=
  (∀ (s : State) (d : Int),
      s.cal.refAt = none → d.natAbs ≤ 500 →
      exec (.refCheck d) s = .next ((({ s with cal := { s.cal with refAt := some s.ao } } : State).seti CAL0.REF_DEV d).set CAL0.REF_OK 1)) ∧
    (∀ (s : State) (d : Int),
      s.cal.refAt = none → 500 < d.natAbs →
      exec (.refCheck d) s = .next (((({ s with cal := { s.cal with refAt := some s.ao } } : State).seti CAL0.REF_DEV d).set CAL0.REF_OK 0).raiseLog 2 0x0AC EV.CAL0.REF_FAULT)) ∧
    (∀ (s : State) (k p r o : Nat) (a b c d : Nat),
      k = 3 ∨ k = 7 → o % 4 = 0 → selectionOk k [a, b, c, d] = true → p < 64 → s.calRunning k p = true →
        s.calReason k p r = 0 → s.on (HDR.PENDING (kindPage k p)) = false → s.copying.look (kindPage k p) ≠ s.tb + 1 →
        s.cal.fg = [] → s.tb % 2 = 0 →
      ∃ t : State, exec (.calResult k p [a, b, c, d] r o) s = .next t ∧ (k = 3 →
        (t.rx p).comp = some (a, b, c, d) ∨ s.rxs.length ≤ p) ∧ (k = 7 →
        (t.tx p).cell = some (a, b, c, d) ∨ s.txs.length ≤ p) ∧
      bitOf (t.get (HDR.EVT 0x0AC)) EV.CAL0.RES_NEW = true ∧ t.cal.due.look (k * 128 + p) = 0 ∧ t.mem = s.mem ∧
        SameRegs (evKeys 0x0AC) s t) ∧
    (∀ (s : State) (p r o : Nat) (a b : Nat),
      p < 64 → s.calRunning 4 p = true → s.calReason 4 p r = 0 → s.on (HDR.PENDING (kindPage 4 p)) = false →
        s.copying.look (kindPage 4 p) ≠ s.tb + 1 → s.cal.fg = [] → s.tb % 2 = 0 →
      ∃ t : State, exec (.calResult 4 p [a, b] r o) s = .next t ∧ t.get (TXPATH.DCT_I p) = trunc (TXPATH.DCT_I p).wid a ∧
        t.get (TXPATH.DCT_Q p) = trunc (TXPATH.DCT_Q p).wid b ∧
      t.inactive (TXPATH.DCT_I p) = trunc (TXPATH.DCT_I p).wid a ∧ bitOf (t.get (HDR.EVT 0x0AC)) EV.CAL0.RES_NEW = true ∧
        t.mem = s.mem ∧
      SameRegs ([(TXPATH.DCT_I p).key, (TXPATH.DCT_Q p).key] ++ evKeys 0x0AC) s t) ∧
    (∀ (s : State) (k p r o : Nat) (v : List Nat),
      k < 8 → k ≠ 3 → k ≠ 7 → p < 64 → s.calRunning k p = true → s.act (kindPage k p) = true → s.calClocked p = false →
        s.tb % 2 = 0 →
      exec (.calResult k p v r o) s = .next (s.calFail 5 k p)) ∧
    (∀ (s : State) (p v : Nat),
      p < 64 → s.cal.trims = [⟨2, p, [v]⟩] → s.tb % 2 = 0 → s.compPermitted p = true →
      exec (.trimApply p) s = .next (({ s with cal := { s.cal with trims := [] } } : State).set (RXPATH.BBF_TRIM p) v)) ∧
    (∀ (s : State) (p a b : Nat),
      p < 64 → s.cal.trims = [⟨0, p, [a, b]⟩] → s.tb % 2 = 0 → s.compPermitted p = true →
      exec (.trimApply p) s = .next ((({ s with cal := { s.cal with trims := [] } } : State).setBoth (RXPATH.DC_I p) a).setBoth (RXPATH.DC_Q p) b)) ∧
    (∀ (s : State) (x r : Nat) (ph : List Nat),
      x < 2 → s.clk.loCal.getD x none = some r → r + 40960 ≤ s.tb →
      ∃ t : State, exec (.loPhaseDone x ph) s = .next t ∧ t.clk.loCal = s.clk.loCal.set x none ∧
      (List.range 8).all (fun g => t.get (CAL0.OCT_PHASE g) == (if bitOf (s.loopOctets (x + 1)) g then trunc (CAL0.OCT_PHASE g).wid (ph.getD g 0) else s.get (CAL0.OCT_PHASE g))) = true ∧
      t.mem = s.mem ∧ SameRegs ((List.range 8).map (fun g => (CAL0.OCT_PHASE g).key)) s t) ∧
    (∀ (s : State),
      s.mode ≠ 5 ∨ s.tb % 32768 ≠ 0 →
      exec .corrSlewUpdate s = .next s) ∧
    (∀ (s : State),
      s.mode = 5 → s.tb % 32768 = 0 →
      exec .corrSlewUpdate s = .next (allPaths.foldl (fun s n => s.gdNote n) ([0, 1].foldl (fun s x => (List.range 65).foldl (fun s p =>
      if s.calClocked p = false then s else if (s.path p).wdr ∧ p < 64 then s.corrAtOnce x p else s.corrStep x p) s) s))) ∧
    (∀ (s : State) (p g y : Nat),
      p < 64 → max 1 (s.get CAL0.AVG) ≤ s.cal.arrDone.look p → s.calRunning 11 p = true → s.calClocked p = true →
        p ≠ s.get CAL0.REF_PATH → s.on CAL0.ARR_AUTO_TX = false → s.cal.fg = [] →
      ∃ t : State, exec (.arrayResult false 0 p g y) s = .next t ∧ t.get (CAL3.RES_TX_G p) = trunc 32 g ∧
        t.get (CAL3.RES_TX_D p) = y % 2 ^ 18 ∧ t.get (CAL3.STAT_TX_VALID p) = 1 ∧
      t.arrayAge 0 p = 0 ∧ t.mem = s.mem ∧
      SameRegs [(CAL3.RES_TX_G p).key, (CAL3.RES_TX_D p).key, (CAL3.STAT_TX_VALID p).key, (CAL3.STAT_TX_TEMP_CAL p).key] s t) ∧
    (∀ (s : State) (p g y : Nat),
      p < 64 → max 1 (s.get CAL0.AVG) ≤ s.cal.arrDone.look (128 + p) → s.calRunning 10 p = true → s.calClocked p = true →
        p = s.get CAL0.REF_PATH → s.on CAL0.ARR_AUTO_RX = false → s.cal.fg = [] →
      ∃ t : State, exec (.arrayResult false 1 p g y) s = .next t ∧ t.get (CAL3.RES_RX_G p) = 0x40000000 ∧
        t.get (CAL3.RES_RX_D p) = 0 ∧ t.get (CAL3.STAT_RX_VALID p) = 1 ∧
      t.mem = s.mem ∧
        SameRegs [(CAL3.RES_RX_G p).key, (CAL3.RES_RX_D p).key, (CAL3.STAT_RX_VALID p).key, (CAL3.STAT_RX_TEMP_CAL p).key] s t) ∧
    (∀ (s : State) (d q g y : Nat),
      s.get CAL0.ROLE = 1 → 64 ≤ q → q < 256 → s.calRunning 11 q = true →
      exec (.arrayResult true d q g y) s = .next ((s.set (SOUND3.ARR_G q) g).set (SOUND3.ARR_D q) (y % 2 ^ 18)))

/-- GO in M5 with every path operational takes BUSY and the kinds of the named paths; in any mode but M5 and M6 it fails
with reason 1 and the lowest kind named; during a run it does nothing. ABORT ends the kinds in progress with reason
4. In M5 the run ends with FG_DONE when every kind has ended. A kind whose interval or temperature asks for it is
due, and kind 2 shows DUE to firmware with RES_NEW. -/
def Obligations.ForegroundCal : Prop :=
  (∀ (s : State) (c : Cls),
      s.triggered c CAL0.FG_GO = true → (s.ripe c CAL0.FG_GO).on CAL0.FG_BUSY = false → (s.ripe c CAL0.FG_GO).mode = 5 →
        allPaths.all (fun p => (s.ripe c CAL0.FG_GO).operational p) = true →
      let u : State := s.ripe c CAL0.FG_GO;
      ∃ t : State, exec (.fgGo c) s = .next t ∧ t.get CAL0.FG_BUSY = 1 ∧
      t.cal.fg = (allPaths.filter (fun p => u.pathBit CAL0.FG_PATH_LO CAL0.FG_PATH_HI p)).map (fun p => (p, fgKinds 5 (u.get CAL0.KIND_MASK))) ∧
      t.answer = some ⟨c, [], stOK⟩ ∧ t.mem = u.mem ∧ SameRegs [CAL0.FG_BUSY.key] u t) ∧
    (∀ (s : State) (c : Cls),
      s.triggered c CAL0.FG_GO = true → (s.ripe c CAL0.FG_GO).on CAL0.FG_BUSY = false → (s.ripe c CAL0.FG_GO).mode ≠ 5 →
        (s.ripe c CAL0.FG_GO).mode ≠ 6 →
      exec (.fgGo c) s = .next (s.lands c CAL0.FG_GO [] [fun u => u.calFail 1 (((List.range 12).find? (fun k => bitOf (u.get CAL0.KIND_MASK) k)).getD 0) 0])) ∧
    (∀ (s : State) (c : Cls),
      s.triggered c CAL0.FG_GO = true → (s.ripe c CAL0.FG_GO).on CAL0.FG_BUSY = true →
      exec (.fgGo c) s = .next (s.lands c CAL0.FG_GO [] [fun u => u])) ∧
    (∀ (s : State) (c : Cls),
      s.triggered c CAL0.FG_ABORT = true → (s.ripe c CAL0.FG_ABORT).on CAL0.FG_BUSY = true →
      exec (.fgAbort c) s = .next (s.lands c CAL0.FG_ABORT [] [fun u => u.fgEnd (fun _ => true) 0xFFF 4])) ∧
    (∀ (s : State),
      s.on CAL0.FG_BUSY = true → s.cal.fg.all (fun e => e.2 == 0) = true → s.mode = 5 →
      exec .fgDone s = .next (({ s.set CAL0.FG_BUSY 0 with cal := { s.cal with fg := [] } } : State).raise 0x0AC EV.CAL0.FG_DONE)) ∧
    (∀ (s : State) (k p : Nat),
      p < 64 → k < 12 → k ≠ 2 → k ≠ 6 → s.calIsDue k p = true →
      exec (.calDue k p) s = .next ({ s with cal := { s.cal with due := s.cal.due.put (k * 128 + p) 1 } } : State)) ∧
    (∀ (s : State) (p : Nat),
      p < 64 → s.calIsDue 2 p = true →
      exec (.calDue 2 p) s = .next ((({ s with cal := { s.cal with due := s.cal.due.put (2 * 128 + p) 1 } } : State).set (CAL3.STAT_RX_DUE p) 1).raise 0x0AC EV.CAL0.RES_NEW))

/-- A crossing slip re-centres the buffer at 8, is raised, and its group loses block lock. A clock without transitions
is shown and raised, and a downstream one takes the block lock of its group. A downstream clock that toggles is
shown with its deviation. A lane with its clock and LPLL ready, not asleep, gains block lock with its event; its
loss is shown and raised on both pages, and counts 16 headers where the checker is off. The eye monitor publishes
its readings each 2^20 ticks with the least margin seen, and raises EYE_LOW below EYE_MIN. BITSLIP moves BIT_POS on
by one of 66. -/
def Obligations.Lanes : Prop :=
  (∀ (s : State) (g : Nat),
      g < 2 → s.act (ckPage g) = true →
      exec (.crossSlip g) s = .next (((s.set (CK.CROSS_FILL g) 8).raise (ckPage g) EV.CK.CROSS_SLIP).lanesLoss (groupLanes g))) ∧
    (∀ (s : State) (k : Nat),
      2 ≤ k → k < 4 → s.act (ckPage k) = true → s.awake false = true →
      exec (.clkLoss k) s = .next ((s.set (CK.CLK_PRESENT k) 0).raise (ckPage k) EV.CK.CLK_LOSS)) ∧
    (∀ (s : State) (k : Nat),
      k < 2 → s.act (ckPage k) = true → s.awake true = true →
      exec (.clkLoss k) s = .next (((s.set (CK.CLK_PRESENT k) 0).raise (ckPage k) EV.CK.CLK_LOSS).lanesLoss (groupLanes k))) ∧
    (∀ (s : State) (k : Nat) (d : Int),
      k < 2 →
      exec (.dsckPresent k d) s = .next ((s.set (CK.CLK_PRESENT k) 1).seti (CK.FREQ_DEV k) d)) ∧
    (∀ (s : State) (n : Nat),
      n < 16 → s.act (dsPage n) = true → s.act (ckPage (n / 8)) = true → s.on LPLL.READY = true → s.lanePwr true ≤ 1 →
        s.on (DS.BLOCK_LOCK n) = false →
      ∃ t : State, exec (.blockLock n) s = .next t ∧ t.get (DS.BLOCK_LOCK n) = 1 ∧
        bitOf (t.get LINK.DS_BLOCK_LOCK) n = true ∧ t.get (CK.CLK_PRESENT (n / 8)) = 1 ∧
      bitOf (t.get (HDR.EVT (dsPage n))) EV.DS.BLOCK_LOCK = true ∧ t.mem = s.mem ∧
      SameRegs ([(DS.BLOCK_LOCK n).key, LINK.DS_BLOCK_LOCK.key, (CK.CLK_PRESENT (n / 8)).key] ++ evKeys (dsPage n)) s t) ∧
    (∀ (s : State) (n : Nat),
      n < 16 → s.act (dsPage n) = true → s.awake true = true → s.on (DS.BLOCK_LOCK n) = true → s.on (DS.CHK_EN n) = true →
      ∃ t : State, exec (.blockLoss n) s = .next t ∧ t.get (DS.BLOCK_LOCK n) = 0 ∧
        bitOf (t.get LINK.DS_BLOCK_LOCK) n = false ∧
      bitOf (t.get (HDR.EVT (dsPage n))) EV.DS.BLOCK_LOSS = true ∧
        bitOf (t.get (HDR.EVT 0x0B0)) EV.LINK.BLOCK_LOSS = true ∧ t.mem = s.mem ∧
      SameRegs ([(DS.BLOCK_LOCK n).key, LINK.DS_BLOCK_LOCK.key] ++ evKeys (dsPage n) ++ evKeys 0x0B0) s t) ∧
    (∀ (s : State) (n : Nat),
      n < 16 → s.act (dsPage n) = true → s.awake true = true → s.on (DS.BLOCK_LOCK n) = false →
        s.on (DS.CHK_EN n) = false →
      exec (.blockLoss n) s = .next (s.count (DS.HDR_ERR_CNT n) 16)) ∧
    (∀ (s : State) (c : Cls) (n : Nat),
      n < 16 → s.triggered c (DS.BITSLIP n) = true →
      exec (.bitslip c n) s = .next (s.lands c (DS.BITSLIP n) [] [fun u => u.set (DS.BIT_POS n) ((u.get (DS.BIT_POS n) + 1) % 66)])) ∧
    (∀ (s : State) (n a b : Nat),
      n < 16 → s.act (dsPage n) = true → s.awake true = true → s.tb % 2 ^ 20 = 0 → a < 256 → b < 256 →
        s.on (DS.TRACK_EN n) = false → s.get LINK.EYE_MIN ≤ min 255 (a + b) →
      ∃ t : State, exec (.eyePublish n a b) s = .next t ∧ t.get (DS.EYE_LEFT n) = a ∧ t.get (DS.EYE_RIGHT n) = b ∧
        t.get (DS.EYE_MARGIN n) = min 255 (a + b) ∧
      t.get (DS.EYE_MIN_SEEN n) = min (min 255 (a + b)) (s.get (DS.EYE_MIN_SEEN n)) ∧ t.mem = s.mem ∧
      SameRegs [(DS.EYE_LEFT n).key, (DS.EYE_RIGHT n).key, (DS.EYE_MARGIN n).key, (DS.EYE_MIN_SEEN n).key] s t) ∧
    (∀ (s : State) (n a b : Nat),
      n < 16 → s.act (dsPage n) = true → s.awake true = true → s.tb % 2 ^ 20 = 0 → a < 256 → b < 256 →
        s.on (DS.TRACK_EN n) = false → min 255 (a + b) < s.get LINK.EYE_MIN →
      ∃ t : State, exec (.eyePublish n a b) s = .next t ∧ bitOf (t.get (HDR.EVT (dsPage n))) EV.DS.EYE_LOW = true ∧
        bitOf (t.get (HDR.EVT 0x0B0)) EV.LINK.EYE_LOW = true ∧
      t.get (DS.EYE_MARGIN n) = min 255 (a + b) ∧ t.mem = s.mem)

/-- A checker that synchronises counts bits from then on; its loss of synchronisation adds its errors modulo 2^48 and is
raised. CNT_CLR sets both counts to 0. Outside M5 INJ_SINGLE has 1 bit pending and INJ_BURST the bits of BURST_LEN +
1; in M5 neither does anything. Bits that have been sent raise INJ_DONE, and in M7 with LOOP the synchronised
checker of the lane counts them. -/
def Obligations.LaneTests : Prop :=
  (∀ (s : State) (n : Nat),
      n < 16 → s.checking n = true → s.on (DS.PRBS_SYNC n) = false →
      exec (.prbsSync n) s = .next (((s.set (DS.PRBS_SYNC n) 1).setSync n (some s.ao)).raise (dsPage n) EV.DS.PRBS_SYNC)) ∧
    (∀ (s : State) (n e : Nat),
      n < 16 → s.checking n = true → s.on (DS.PRBS_SYNC n) = true →
      ∃ t : State, exec (.prbsLoss n e) s = .next t ∧ t.get (DS.PRBS_SYNC n) = 0 ∧
      t.get64 (DS.ERR_CNT_LO n) (DS.ERR_CNT_HI n) = (s.get64 (DS.ERR_CNT_LO n) (DS.ERR_CNT_HI n) + e) % 2 ^ 48 ∧
      bitOf (t.get (HDR.EVT (dsPage n))) EV.DS.PRBS_LOSS = true ∧ t.mem = s.mem ∧
      SameRegs ([(DS.PRBS_SYNC n).key, (DS.ERR_CNT_LO n).key, (DS.ERR_CNT_HI n).key, (DS.BIT_CNT_LO n).key, (DS.BIT_CNT_HI n).key] ++ evKeys (dsPage n)) s t) ∧
    (∀ (s : State) (c : Cls) (n : Nat),
      n < 16 → s.triggered c (DS.CNT_CLR n) = true →
      let u : State := s.ripe c (DS.CNT_CLR n);
      ∃ t : State, exec (.cntClr c n) s = .next t ∧ t.get64 (DS.ERR_CNT_LO n) (DS.ERR_CNT_HI n) = 0 ∧
        t.get64 (DS.BIT_CNT_LO n) (DS.BIT_CNT_HI n) = 0 ∧
      t.answer = some ⟨c, [], stOK⟩ ∧ t.mem = u.mem ∧
        SameRegs [(DS.ERR_CNT_LO n).key, (DS.ERR_CNT_HI n).key, (DS.BIT_CNT_LO n).key, (DS.BIT_CNT_HI n).key] u t) ∧
    (∀ (s : State) (c : Cls) (n : Nat),
      n < 16 → s.triggered c (US.INJ_SINGLE n) = true → (s.ripe c (US.INJ_SINGLE n)).mode ≠ 5 →
        (s.ripe c (US.INJ_SINGLE n)).lanes.inj.getD n 0 = 0 →
      exec (.injSingle c n) s = .next (s.lands c (US.INJ_SINGLE n) [] [fun u => u.setInj n 1])) ∧
    (∀ (s : State) (c : Cls) (n : Nat),
      n < 16 → s.triggered c (US.INJ_SINGLE n) = true → (s.ripe c (US.INJ_SINGLE n)).mode = 5 →
      exec (.injSingle c n) s = .next (s.lands c (US.INJ_SINGLE n) [] [fun u => u])) ∧
    (∀ (s : State) (c : Cls) (n : Nat),
      n < 16 → s.triggered c (US.INJ_BURST n) = true → (s.ripe c (US.INJ_BURST n)).mode ≠ 5 →
        (s.ripe c (US.INJ_BURST n)).lanes.inj.getD n 0 = 0 →
      exec (.injBurst c n) s = .next (s.lands c (US.INJ_BURST n) [] [fun u => u.setInj n (u.get (US.BURST_LEN n) + 1)])) ∧
    (∀ (s : State) (c : Cls) (n : Nat),
      n < 16 → s.triggered c (US.INJ_BURST n) = true → (s.ripe c (US.INJ_BURST n)).mode = 5 →
      exec (.injBurst c n) s = .next (s.lands c (US.INJ_BURST n) [] [fun u => u])) ∧
    (∀ (s : State) (n : Nat),
      n < 16 → s.lanes.inj.getD n 0 ≠ 0 → s.act (usPage n) = true → s.mode ≠ 7 →
      exec (.injDone n) s = .next ((s.setInj n 0).raise (usPage n) EV.US.INJ_DONE)) ∧
    (∀ (s : State) (n : Nat),
      n < 16 → s.lanes.inj.getD n 0 ≠ 0 → s.act (usPage n) = true → s.mode = 7 → s.on LINK.LOOP = true →
        s.checking n = true → s.on (DS.PRBS_SYNC n) = true →
      exec (.injDone n) s = .next (((s.setInj n 0).raise (usPage n) EV.US.INJ_DONE).addErrors n (s.lanes.inj.getD n 0)))

/-- At a frame tick within a block of it, or after a wake with RESUME, the marker of each upstream lane in use that is
on goes out. A block of another type than marker or idle is malformed; the good marker of a lane within its window
and 8 words of skew is noted. A good window after 63 aligns, where no test runs. A cause that stands takes the link
down, with its cause, its event, the frames held and the time measurement lost. The link comes up aligned with LPLL
ready, and reports the outage before it. -/
def Obligations.LinkMarkers : Prop :=
  (∀ (s : State) (o : Nat) (r : Bool),
      s.act 0x0B1 = true → s.awake false = true → r = true ∨ s.tb % 2048 = 0 ∧ o * s.uiPerTick ≤ 66 * 256 →
      exec (.markerSend o r) s = .next ({ s with erl := { s.erl with out := ((List.range s.lanesUs).filter (fun n => s.act (usPage n))).map (fun n => [markerBlock n (s.tb / 2048) o r]) } } : State)) ∧
    (∀ (s : State) (l b f k : Nat),
      l < 16 → s.act 0x0B1 = true → s.act (dsPage l) = true → bits b 0 8 ≠ 0xA5 → bits b 0 8 ≠ 0x3C →
      exec (.markerReceive l b f k) s = .next ((s.count ERL0.MALF_CNT).raise 0x0B1 EV.ERL0.MALFORMED)) ∧
    (∀ (s : State) (l f k : Nat),
      l < 16 → l ≠ 0 → s.act 0x0B1 = true → s.act (dsPage l) = true → s.tb < 2 ^ 31 → s.tb % 2048 < 512 → k ≤ 8 →
      exec (.markerReceive l (markerBlock l (s.tb / 2048) 0 false) f k) s =
      .next ((s.set (DS.WORD_SKEW l) k).setErl (fun e => { e with skip := false, good := setBit e.good l }))) ∧
    (∀ (s : State),
      s.act 0x0B1 = true → s.awake true = true → s.tb % 2048 = 512 → s.laneTest true = false → s.laneTest false = false →
        (List.range s.lanesDs).all (fun n => bitOf s.erl.good n) = true → 63 ≤ s.erl.run → s.erl.fails = [] →
      ∃ t : State, exec .markerWindowEnd s = .next t ∧ t.get ERL0.FRAME_ALIGNED = 1 ∧ t.erl.run = s.erl.run + 1 ∧
        t.erl.good = 0 ∧ t.mem = s.mem ∧ SameRegs [ERL0.FRAME_ALIGNED.key] s t) ∧
    (∀ (s : State) (c : Nat),
      s.downCause c = true → s.on ERL0.LINK_UP = true → c < 8 →
      ∃ t : State, exec (.linkDown c) s = .next t ∧ t.get ERL0.LINK_UP = 0 ∧ t.get ERL0.FRAME_ALIGNED = 0 ∧
        t.get ERL0.DOWN_CAUSE = c ∧ t.erl.held = [] ∧ t.erl.downAt = s.ao ∧
      t.tim.meas = none ∧ bitOf (t.get (HDR.EVT 0x0B1)) EV.ERL0.LINK_DOWN = true ∧ t.mem = s.mem) ∧
    (∀ (s : State),
      s.on ERL0.FRAME_ALIGNED = true → s.on LPLL.READY = true → s.on ERL0.LINK_UP = false → s.erl.downAt = 0 →
      exec .linkUp s = .next ((s.set ERL0.LINK_UP 1).raise 0x0B1 EV.ERL0.LINK_UP)) ∧
    (∀ (s : State),
      s.on ERL0.FRAME_ALIGNED = true → s.on LPLL.READY = true → s.on ERL0.LINK_UP = false → s.erl.downAt ≠ 0 →
      exec .linkUp s = .next (((s.set ERL0.LINK_UP 1).raise 0x0B1 EV.ERL0.LINK_UP).queueEvt (.status 4 (s.get ERL0.DOWN_CAUSE) s.erl.downTb)))

/-- A malformed IQD packet is counted and raised and the stream is ignored up to the next marker; a bad CRC is counted.
A packet of its format, length and stream in its arrival window is held for playout, one before it is early and one
after it late, counted. A stream without its samples at its window is a miss, raised where none was before. An
uplink window goes where the link is open and BEAM1 operational, at its instant and not wholly INVALID, with its
maps and payload. The first event packet goes while the link is open. Capture export without its grant is denied
once; with it the words that are ready go in a CAP packet of up to 256. -/
def Obligations.LinkStreams : Prop :=
  (∀ (s : State) (ws : List Nat) (b : Bool),
      s.act 0x0B1 = true → s.erl.skip = false → badPacket ws b = true →
      exec (.iqdPacket ws b) s = .next (((s.count ERL0.MALF_CNT).raise 0x0B1 EV.ERL0.MALFORMED).setErl (fun e => { e with skip := true }))) ∧
    (∀ (s : State) (ws : List Nat) (b : Bool),
      s.act 0x0B1 = true → s.erl.skip = true →
      exec (.iqdPacket ws b) s = .next s) ∧
    (∀ (s : State) (ws : List Nat),
      s.act 0x0B1 = true → s.erl.skip = false → badPacket ws false = false → crc32 ws.dropLast ≠ ws.getLastD 0 →
      exec (.iqdPacket ws false) s = .next (s.count ERL0.CRC_ERR_CNT)) ∧
    (∀ (s : State) (ws : List Nat) (b : Bool) (p : Packet),
      (s.receiveAs 1 none ws b).1 = some p →
        bits p.sub 6 2 = (s.receiveAs 1 none ws b).2.fmtAt (join64 (p.body.getD 0 0) (p.body.getD 1 0)) →
        p.body.length + 4 = 2 * sampleLen (bits p.sub 6 2) →
        (s.receiveAs 1 none ws b).2.streamOk 0 (bits p.sub 0 6) = true →
        (s.receiveAs 1 none ws b).2.tb + 128 ≤ join64 (p.body.getD 0 0) (p.body.getD 1 0) →
        join64 (p.body.getD 0 0) (p.body.getD 1 0) ≤ (s.receiveAs 1 none ws b).2.tb + 16640 →
        ((s.receiveAs 1 none ws b).2.erl.held.any (fun x => x.stream == bits p.sub 0 6 && x.stamp == join64 (p.body.getD 0 0) (p.body.getD 1 0))) = false →

      let u : State := (s.receiveAs 1 none ws b).2;
      exec (.iqdPacket ws b) s = .next (u.setErl (fun e => { e with
        held := u.erl.held.filter (fun x => !(x.stream == bits p.sub 0 6 && x.stamp == join64 (p.body.getD 0 0) (p.body.getD 1 0)) && decide (u.tb < x.stamp + 128 * rateL u.dlRate)) ++
          [⟨bits p.sub 6 2, bits p.sub 0 6, join64 (p.body.getD 0 0) (p.body.getD 1 0), bits p.w1 0 16, p.body.drop 2⟩] }))) ∧
    (∀ (s : State) (ws : List Nat) (b : Bool) (p : Packet),
      (s.receiveAs 1 none ws b).1 = some p →
        bits p.sub 6 2 = (s.receiveAs 1 none ws b).2.fmtAt (join64 (p.body.getD 0 0) (p.body.getD 1 0)) →
        p.body.length + 4 = 2 * sampleLen (bits p.sub 6 2) →
        (s.receiveAs 1 none ws b).2.streamOk 0 (bits p.sub 0 6) = true →
        join64 (p.body.getD 0 0) (p.body.getD 1 0) < (s.receiveAs 1 none ws b).2.tb + 128 →
      exec (.iqdPacket ws b) s = .next ((s.receiveAs 1 none ws b).2.count ERL1.DL_LATE_CNT)) ∧
    (∀ (s : State) (ws : List Nat) (b : Bool) (p : Packet),
      (s.receiveAs 1 none ws b).1 = some p →
        bits p.sub 6 2 = (s.receiveAs 1 none ws b).2.fmtAt (join64 (p.body.getD 0 0) (p.body.getD 1 0)) →
        p.body.length + 4 = 2 * sampleLen (bits p.sub 6 2) →
        (s.receiveAs 1 none ws b).2.streamOk 0 (bits p.sub 0 6) = true →
        (s.receiveAs 1 none ws b).2.tb + 16640 < join64 (p.body.getD 0 0) (p.body.getD 1 0) →
      exec (.iqdPacket ws b) s = .next ((s.receiveAs 1 none ws b).2.count ERL1.DL_EARLY_CNT)) ∧
    (∀ (s : State) (k : Nat),
      s.act (beamPage 0) = true → s.streamOk 0 k = true → s.tb % (128 * rateL s.dlRate) = 0 →
        s.erl.held.any (fun x => x.stream == k && x.stamp == s.tb) = false → s.erl.missAt = none →
      exec (.playoutMiss k) s = .next (((s.count ERL1.DL_MISS_CNT).setErl (fun e => { e with missAt := some s.ao })).raise 0x0B1 EV.ERL0.DL_MISS)) ∧
    (∀ (s : State),
      s.linkOpen = false ∨ s.act (beamPage 1) = false →
      exec .iquWindowSend s = .next s.sendClear) ∧
    (∀ (s : State) (w r f : Nat) (e : Option Nat),
      s.linkOpen = true → s.act (beamPage 1) = true → 16 * s.get ERL0.LAT_UL ≤ s.tb →
        s.ulSetting (s.tb - 16 * s.get ERL0.LAT_UL) = (w, r, f, e) → w % (128 * rateL r) ≠ 0 →
      exec .iquWindowSend s = .next s.sendClear) ∧
    (∀ (s : State) (w r f : Nat) (e : Option Nat) (k : Nat),
      s.linkOpen = true → s.act (beamPage 1) = true → 16 * s.get ERL0.LAT_UL ≤ s.tb →
        s.ulSetting (s.tb - 16 * s.get ERL0.LAT_UL) = (w, r, f, e) → w % (128 * rateL r) = 0 →
        (List.range 64).filter (s.streamOk 1) = [k] → (s.ulWindow w (rateL r) k e).all (fun y => y.invalid) = true →
      exec .iquWindowSend s = .next { s.sendClear with lanes := { s.lanes with lost := false } }) ∧
    (∀ (s : State) (w r f : Nat) (e : Option Nat) (k : Nat),
      s.linkOpen = true → s.act (beamPage 1) = true → 16 * s.get ERL0.LAT_UL ≤ s.tb →
        s.ulSetting (s.tb - 16 * s.get ERL0.LAT_UL) = (w, r, f, e) → w % (128 * rateL r) = 0 →
        (List.range 64).filter (s.streamOk 1) = [k] → (s.ulWindow w (rateL r) k e).all (fun y => y.invalid) = false →
      let u : State := { s.sendClear with lanes := { s.lanes with lost := false } };
      exec .iquWindowSend s = .next (u.send 2 (f * 64 + k) (groupMap (fun y => y.ovl) (s.ulWindow w (rateL r) k e) * 2 ^ 16 + groupMap (fun y => y.invalid) (s.ulWindow w (rateL r) k e))
        ([w % 2 ^ 32, w / 2 ^ 32] ++ iquPayload f (s.ulWindow w (rateL r) k e)))) ∧
    (∀ (s : State) (pg b k : Nat) (r : List EvtPkt),
      s.evtQ = .events pg b k :: r → s.linkOpen = true →
      exec .evtPacketSend s = .next (({ s.sendClear with evtQ := r } : State).send 7 1 pg [b, k % 2 ^ 32, k / 2 ^ 32, 0])) ∧
    (∀ (s : State) (c d k : Nat) (r : List EvtPkt),
      s.evtQ = .status c d k :: r → s.linkOpen = true →
      exec .evtPacketSend s = .next (({ s.sendClear with evtQ := r } : State).send 7 2 c [d, k % 2 ^ 32, k / 2 ^ 32, 0])) ∧
    (∀ (s : State),
      s.evtQ = [] ∨ s.linkOpen = false →
      exec .evtPacketSend s = .next s.sendClear) ∧
    (∀ (s : State) (k : Nat),
      k < 8 → s.act (capPage k) = true → s.on (CP.EXP_BB k) = true → s.expBbPermitted = false →
        (s.cap k).expDenied = false →
      exec (.captureExport k) s = .next ((s.sendClear.setCap k (fun c => { c with expDenied := true })).raise (capPage k) EV.CP.EXPORT_DENIED)) ∧
    (∀ (s : State) (k : Nat),
      k < 8 → s.caps.length = 8 → s.act (capPage k) = true → s.on (CP.EXP_BB k) = true → s.expBbPermitted = true →
        s.linkOpen = true → (s.cap k).expStop = false → 4 ≤ s.capReady k - (s.cap k).expPos →
        ((s.sendClear.exportWords k (s.cap k).expPos (min 256 ((s.capReady k - (s.cap k).expPos) / 4))).2.cap k).expStop = false →

      let r : State := (s.sendClear.exportWords k (s.cap k).expPos (min 256 ((s.capReady k - (s.cap k).expPos) / 4))).2;
      exec (.captureExport k) s = .next ((r.setCap k (fun c => { c with expPos := c.expPos + 4 * min 256 ((s.capReady k - (s.cap k).expPos) / 4) })).send 6 k (s.cap k).expPos
        (s.sendClear.exportWords k (s.cap k).expPos (min 256 ((s.capReady k - (s.cap k).expPos) / 4))).1))

/-- A CTL packet is acted on and acknowledged, a seventeenth that waits is counted: a weight pair is stored in its
block, or answered with BUS_ERROR where its bank has none; a timeline entry is pushed; COMMIT writes COMMIT_TB and
REQ as class BB; SLEEP sets or clears what the link asks of a direction. MGT REG reads or writes its words as class
BB and answers them with their statuses. REQ opens a time exchange, RSP sends its two times, FIN closes it with
offset and delay and is rejected without an exchange. A time source that lapses leaves the time base without one. -/
def Obligations.LinkControl : Prop :=
  (∀ (s : State) (w : Nat) (ws : List Nat) (b : Bool) (p : Packet) (k : Nat),
      (s.sendClear.receiveAs 3 (some 1) ws b).1 = some p → w < 16 → bits p.w1 0 6 = 1 → 2 ≤ p.body.length →
        (s.sendClear.receiveAs 3 (some 1) ws b).2.block (bits p.w1 31 1) (bits p.w1 22 8) (bits p.w1 30 1) = some k →
        bits p.w1 16 5 < 24 → bits p.w1 8 5 < 32 →
        (s.sendClear.receiveAs 3 (some 1) ws b).2.pageRefusal .bb (setPage (bits p.w1 31 1)) = none →
        (s.sendClear.receiveAs 3 (some 1) ws b).2.bankRefusal (bits p.w1 31 1) (bits p.w1 22 8) (bits p.w1 30 1) = none →
      let u : State := (s.sendClear.receiveAs 3 (some 1) ws b).2;
      exec (.ctlWeights w ws b) s = .next ((u.weightWhole k (bits p.w1 16 5) (bits p.w1 8 5) (p.body.getD 0 0) (p.body.getD 1 0)).ctlAck p [stOK])) ∧
    (∀ (s : State) (w : Nat) (ws : List Nat) (b : Bool) (p : Packet),
      (s.sendClear.receiveAs 3 (some 1) ws b).1 = some p → 16 ≤ w →
      exec (.ctlWeights w ws b) s = .next ((s.sendClear.receiveAs 3 (some 1) ws b).2.count ERL1.CTL_OVF_CNT)) ∧
    (∀ (s : State) (w : Nat) (ws : List Nat) (b : Bool) (p : Packet),
      (s.sendClear.receiveAs 3 (some 1) ws b).1 = some p → w < 16 → bits p.w1 0 6 = 1 → 2 ≤ p.body.length →
        (s.sendClear.receiveAs 3 (some 1) ws b).2.block (bits p.w1 31 1) (bits p.w1 22 8) (bits p.w1 30 1) = none →
      let u : State := (s.sendClear.receiveAs 3 (some 1) ws b).2;
      exec (.ctlWeights w ws b) s = .next ((u.refuse .bb (0x50000000 + bits p.w1 31 1 * 0x400000 + bits p.w1 22 8 * 0x4000 + bits p.w1 30 1 * 0x2000 + bits p.w1 16 5 * 0x100 + 8 * bits p.w1 8 5) stBUS_ERROR).ctlAck p [stBUS_ERROR])) ∧
    (∀ (s : State) (w : Nat) (ws : List Nat) (b : Bool) (p : Packet),
      (s.sendClear.receiveAs 3 (some 2) ws b).1 = some p → w < 16 → bits p.w1 0 6 = 1 → 4 ≤ p.body.length →
        (s.sendClear.receiveAs 3 (some 2) ws b).2.writeRefusal .bb TIMELINE0.ENQ_CODE 1 ((s.sendClear.receiveAs 3 (some 2) ws b).2.pushRefusal .bb (p.body.getD 2 0) (p.body.getD 3 0)) = none →

      let u : State := (s.sendClear.receiveAs 3 (some 2) ws b).2;
      exec (.ctlTimeline w ws b) s = .next ((u.push .bb (join64 (p.body.getD 0 0) (p.body.getD 1 0)) (p.body.getD 2 0) (p.body.getD 3 0)).ctlAck p [stOK])) ∧
    (∀ (s : State) (w : Nat) (ws : List Nat) (b : Bool) (p : Packet),
      (s.sendClear.receiveAs 3 (some 2) ws b).1 = some p → 16 ≤ w →
      exec (.ctlTimeline w ws b) s = .next ((s.sendClear.receiveAs 3 (some 2) ws b).2.count ERL1.CTL_OVF_CNT)) ∧
    (∀ (s : State) (w : Nat) (ws : List Nat) (b : Bool) (p : Packet),
      (s.sendClear.receiveAs 3 (some 3) ws b).1 = some p → w < 16 →
      let u : State := (s.sendClear.receiveAs 3 (some 3) ws b).2;
      exec (.ctlCommit w ws b) s = .next (let x := u.carryWords .bb 0 (bits p.w1 0 9) [(0x024, (p.body.getD 0 0)), (0x028, (p.body.getD 1 0)), (0x020, 1 + 4 * bits p.w1 31 1)]; x.2.ctlAck p [(x.1.find? (fun y => y != stOK)).getD stOK])) ∧
    (∀ (s : State) (w : Nat) (ws : List Nat) (b : Bool) (p : Packet),
      (s.sendClear.receiveAs 3 (some 3) ws b).1 = some p → 16 ≤ w →
      exec (.ctlCommit w ws b) s = .next ((s.sendClear.receiveAs 3 (some 3) ws b).2.count ERL1.CTL_OVF_CNT)) ∧
    (∀ (s : State) (w : Nat) (ws : List Nat) (b : Bool) (p : Packet),
      (s.sendClear.receiveAs 3 (some 4) ws b).1 = some p → w < 16 → bits p.w1 0 2 = 1 ∨ bits p.w1 0 2 = 2 →
        bits p.w1 4 2 = 3 →
      let u : State := (s.sendClear.receiveAs 3 (some 4) ws b).2;
      exec (.ctlSleep w ws b) s = .next ((u.setLane true (fun l => { l with erl := some (bits p.w1 0 2, join64 (p.body.getD 0 0) (p.body.getD 1 0), join64 (p.body.getD 2 0) (p.body.getD 3 0)) })).ctlAck p [stOK])) ∧
    (∀ (s : State) (w : Nat) (ws : List Nat) (b : Bool) (p : Packet),
      (s.sendClear.receiveAs 3 (some 4) ws b).1 = some p → 16 ≤ w →
      exec (.ctlSleep w ws b) s = .next ((s.sendClear.receiveAs 3 (some 4) ws b).2.count ERL1.CTL_OVF_CNT)) ∧
    (∀ (s : State) (w : Nat) (ws : List Nat) (b : Bool) (p : Packet),
      (s.sendClear.receiveAs 3 (some 4) ws b).1 = some p → w < 16 → bits p.w1 0 2 = 3 → bits p.w1 4 2 = 0 →
      let u : State := (s.sendClear.receiveAs 3 (some 4) ws b).2;
      exec (.ctlSleep w ws b) s = .next ((u.setLane false (fun l => { l with erl := none })).ctlAck p [stOK])) ∧
    (∀ (s : State) (w : Nat) (ws : List Nat) (b : Bool) (p : Packet),
      (s.sendClear.receiveAs 4 (some 1) ws b).1 = some p → (s.sendClear.receiveAs 4 (some 1) ws b).2.updJobs = [] → w < 8 →
        bitOf p.w1 7 = true →
      let u : State := (s.sendClear.receiveAs 4 (some 1) ws b).2;
      exec (.mgtReg w ws b) s = .next ((u.portReads .weights .bb (bitOf p.w1 6) (p.body.getD 0 0) (bits p.w1 0 6 + 1)).2.2.send 4 0x81 (p.w1 / 2 ^ 24 * 2 ^ 24 + p.w1 % 256)
        ([p.body.getD 0 0, 0] ++ (u.portReads .weights .bb (bitOf p.w1 6) (p.body.getD 0 0) (bits p.w1 0 6 + 1)).2.1 ++
          packStatus (u.portReads .weights .bb (bitOf p.w1 6) (p.body.getD 0 0) (bits p.w1 0 6 + 1)).1))) ∧
    (∀ (s : State) (w : Nat) (ws : List Nat) (b : Bool) (p : Packet),
      (s.sendClear.receiveAs 4 (some 1) ws b).1 = some p → (s.sendClear.receiveAs 4 (some 1) ws b).2.updJobs = [] → w < 8 →
        bitOf p.w1 7 = false →
      let u : State := (s.sendClear.receiveAs 4 (some 1) ws b).2;
      exec (.mgtReg w ws b) s = .next ((u.portWrites .weights .bb (bitOf p.w1 6) (p.body.getD 0 0) ((p.body.drop 2).take (bits p.w1 0 6 + 1))).2.send 4 0x81 (p.w1 / 2 ^ 24 * 2 ^ 24 + p.w1 % 256)
        ([p.body.getD 0 0, 0] ++ packStatus (u.portWrites .weights .bb (bitOf p.w1 6) (p.body.getD 0 0) ((p.body.drop 2).take (bits p.w1 0 6 + 1))).1))) ∧
    (∀ (s : State) (ws : List Nat) (b : Bool) (t2 : Nat) (p : Packet),
      (s.receiveAs 5 (some 1) ws b).1 = some p → s.tim.opened = [] →
      exec (.timReq ws b t2) s = .next ((s.receiveAs 5 (some 1) ws b).2.setTim (fun x => { x with opened := [(bits p.w1 0 16, timeAt p.body 0, t2, 0)] }))) ∧
    (∀ (s : State) (i t1 t2 t3 : Nat),
      s.tim.opened = [(i, t1, t2, 0)] → s.linkOpen = true ∨ s.mode = 2 ∨ s.on ERL0.FRAME_ALIGNED = false →
      exec (.timRsp i t3) s = .next ((s.sendClear.setTim (fun x => { x with opened := [(i, t1, t2, t3)] })).send 5 2 i (timeWords t2 ++ timeWords t3))) ∧
    (∀ (s : State) (ws : List Nat) (b : Bool) (p : Packet) (t1 t2 t3 : Nat),
      (s.receiveAs 5 (some 3) ws b).1 = some p → s.tim.opened = [(bits p.w1 0 16, t1, t2, t3)] → t3 ≠ 0 →
        s.tim.deltas = [] →
      ∃ t : State, exec (.timFin ws b) s = .next t ∧ t.tim.opened = [] ∧
        t.tim.meas = some ((timOffset t1 t2 t3 (timeAt p.body 0) (s.geti ERL2.ASYM)).1, s.tb) ∧
      t.geti ERL2.OFFSET = satSigned ERL2.OFFSET.wid (timOffset t1 t2 t3 (timeAt p.body 0) (s.geti ERL2.ASYM)).1 ∧
      t.geti ERL2.DELAY = satSigned ERL2.DELAY.wid (timOffset t1 t2 t3 (timeAt p.body 0) (s.geti ERL2.ASYM)).2 ∧
      bitOf (t.get (HDR.EVT 0x0B1)) EV.ERL0.TIM_DONE = true ∧ t.mem = s.mem) ∧
    (∀ (s : State) (ws : List Nat) (b : Bool) (p : Packet),
      (s.receiveAs 5 (some 3) ws b).1 = some p → s.tim.opened = [] →
      exec (.timFin ws b) s = .next (((s.receiveAs 5 (some 3) ws b).2.count ERL2.REJECTED).raise 0x0B1 EV.ERL0.TIM_REJECT)) ∧
    (∀ (s : State),
      s.activeSource = 0 → s.get TIMEBASE.SRC_ACT = 1 →
      exec .timMeasLapse s = .next ((((s.set TIMEBASE.SRC_ACT 0).seti TIMEBASE.NET_OFFSET 0).seti TIMEBASE.FREQ_ERR 0).raise 0x008 EV.TIMEBASE.SRC_CHANGE)) ∧
    (∀ (s : State),
      s.activeSource = 0 → s.get TIMEBASE.SRC_ACT = 2 →
      exec .cuminMeasLapse s = .next ((((s.set TIMEBASE.SRC_ACT 0).seti TIMEBASE.NET_OFFSET 0).seti TIMEBASE.FREQ_ERR 0).raise 0x008 EV.TIMEBASE.SRC_CHANGE))

/-- At the burst instant of an operational, permitted Cumin the codeword of its identity, time and number is sent, at
TX_LVL or, raised, at the cap of the record; without TX_EN, with a window too short or with a burst under way it is
skipped, counted and raised; without an instant, an operational page or the permission nothing happens. A burst that
has lasted 40,960 ticks ends with TX_LAST, its record and the next number. The AGC steps by up to 24 towards its
target while it is not frozen. A detection freezes it and starts the decoding, a false one goes back to the search.
A decoded burst whose CRC holds is a record of the queue, or lost where it holds 16, and is kept for matching; one
that was cut off or fails is counted, and the latter raised. POP takes the first record off. GO starts the
evaluation, and is refused with COMMIT_PENDING while one runs. An exchange that fails a check gives its reason; one
that passes gives THETA and DELTA, and with the reference of its peer the measurement. -/
def Obligations.Cumin : Prop :=
  (∀ (s : State),
      s.burstPaths ≠ [] → s.act 0x0E0 = true → s.sndPermitted = true → s.on SOUND0.TX_EN = true →
        (allPaths.filter (fun n => (s.path n).st == .sndTx)).all s.burstFits = true → s.snd.burst = none →
        s.cuminCap ≤ s.get SOUND0.TX_LVL →
      ∃ t : State, exec .burstStart s = .next t ∧
      t.snd.burst = some (s.tb, ofBits (ldpcEncode (burstInfo (s.get SOUND0.OWN_ID) (s.tb / 16 % 2 ^ 40) (s.get SOUND0.SEQ_NEXT)))) ∧
      t.get SOUND0.TX_LVL_ACT = s.get SOUND0.TX_LVL ∧ t.tb = s.tb ∧ t.ao = s.ao ∧ t.paths = s.paths ∧ t.mem = s.mem) ∧
    (∀ (s : State),
      s.burstPaths ≠ [] → s.act 0x0E0 = true → s.sndPermitted = true → s.on SOUND0.TX_EN = true →
        (allPaths.filter (fun n => (s.path n).st == .sndTx)).all s.burstFits = true → s.snd.burst = none →
        s.get SOUND0.TX_LVL < s.cuminCap →
      ∃ t : State, exec .burstStart s = .next t ∧ t.get SOUND0.TX_LVL_ACT = s.cuminCap ∧ t.snd.burst.isSome = true ∧
        bitOf (t.get (HDR.EVT 0x0E0)) EV.SOUND0.PWR_CLAMPED = true ∧
      t.paths = s.paths ∧ t.mem = s.mem) ∧
    (∀ (s : State),
      s.burstPaths ≠ [] → s.act 0x0E0 = true → s.sndPermitted = true →
        s.on SOUND0.TX_EN = false ∨ (allPaths.filter (fun n => (s.path n).st == .sndTx)).all s.burstFits = false ∨ s.snd.burst.isSome = true →

      exec .burstStart s = .next ((s.count SOUND0.SKIP_CNT).raise 0x0E0 EV.SOUND0.BURST_SKIP)) ∧
    (∀ (s : State),
      s.burstPaths = [] ∨ s.act 0x0E0 = false ∨ s.sndPermitted = false →
      exec .burstStart s = .next s) ∧
    (∀ (s : State) (b x : Nat),
      s.snd.burst = some (b, x) → b + 40960 ≤ s.tb →
      ∃ t : State, exec .burstSent s = .next t ∧ t.snd.burst = none ∧
        t.snd.own.getLast? = some (s.get SOUND0.SEQ_NEXT, b * 256 + s.get SOUND0.TX_BOARD_DLY) ∧
      t.snd.own.length = min 16 (s.snd.own.length + 1) ∧
      t.get SOUND0.SEQ_NEXT = (s.get SOUND0.SEQ_NEXT + 1) % 256 ∧
      t.get SOUND0.TX_LAST_LO = (b * 256 + s.get SOUND0.TX_BOARD_DLY) / 256 % 2 ^ 32 ∧
      t.get SOUND0.TX_LAST_HI = (b * 256 + s.get SOUND0.TX_BOARD_DLY) / 2 ^ 40 % 2 ^ 32 ∧
      t.get SOUND0.TX_LAST_INFO = (s.get SOUND0.SEQ_NEXT * 2 ^ 24 + (b * 256 + s.get SOUND0.TX_BOARD_DLY) % 256) % 2 ^ 32 ∧
      bitOf (t.get (HDR.EVT 0x0E0)) EV.SOUND0.BURST_SENT = true ∧ t.mem = s.mem ∧
      SameRegs ([SOUND0.SEQ_NEXT.key, SOUND0.TX_LAST_LO.key, SOUND0.TX_LAST_HI.key, SOUND0.TX_LAST_INFO.key, SOUND0.BURST_CNT.key] ++ evKeys 0x0E0) s t) ∧
    (∀ (s : State) (lvl : Int),
      s.sndListening = true → s.snd.frozen = true →
      exec (.agcStep lvl) s = .next s) ∧
    (∀ (s : State) (lvl : Int),
      s.sndListening = true → s.snd.frozen = false → s.snd.agc ≤ 60 →
        s.sndRxPaths.any (fun n => decide ((s.path n).since < s.tb) && (s.tb - (s.path n).since) % 1024 == 0) = true →
      ∃ t : State, exec (.agcStep lvl) s = .next t ∧
        (t.snd.agc : Int) = clip 0 60 (s.snd.agc + clip (-24) 24 (lvl - s.get SOUND0.AGC_TGT)) ∧
      t.mem = s.mem ∧ SameRegs ((List.range 64).map (fun n => (RXPATH.GAIN_ANT n).key)) s t) ∧
    (∀ (s : State) (b : Bool),
      s.sndListening = true → s.get SOUND0.RX_STATE = 1 →
      exec (.burstDetect b) s = .next (((s.setSnd (fun d => { d with frozen := true, beamB := b && s.on SOUND0.RX_DIV })).set SOUND0.RX_STATE 2).count SOUND0.DET_CNT)) ∧
    (∀ (s : State),
      s.get SOUND0.RX_STATE = 2 →
      exec .falseDetect s = .next (((s.count SOUND0.FALSE_DET_CNT).setSnd (fun d => { d with frozen := false })).set SOUND0.RX_STATE (if s.sndRxPaths.isEmpty then 0 else 1))) ∧
    (∀ (s : State) (b : Burst),
      2 ≤ s.get SOUND0.RX_STATE → b.bad = true →
      exec (.rxRecord b) s = .next (((s.count SOUND0.DEC_FAIL_CNT).setSnd (fun d => { d with frozen := false })).set SOUND0.RX_STATE (if s.sndRxPaths.isEmpty then 0 else 1))) ∧
    (∀ (s : State) (b : Burst),
      2 ≤ s.get SOUND0.RX_STATE → b.bad = false →
        readInfo (ldpcDecode s.maxIter b.llr).1 (b.arrival - s.get SOUND0.RX_BOARD_DLY) = none →
      exec (.rxRecord b) s = .next ((((s.count SOUND0.DEC_FAIL_CNT).raise 0x0E0 EV.SOUND0.DECODE_FAIL).setSnd (fun d => { d with frozen := false })).set SOUND0.RX_STATE (if s.sndRxPaths.isEmpty then 0 else 1))) ∧
    (∀ (s : State) (b : Burst) (x : SndRx),
      2 ≤ s.get SOUND0.RX_STATE → b.bad = false →
        readInfo (ldpcDecode s.maxIter b.llr).1 (b.arrival - s.get SOUND0.RX_BOARD_DLY) = some x →
        s.snd.queue.length < 16 →
      ∃ t : State, exec (.rxRecord b) s = .next t ∧
        t.snd.queue = s.snd.queue ++ [s.rxRecord b x (ldpcDecode s.maxIter b.llr).2] ∧ t.snd.hist.getLast? = some x ∧
      t.snd.frozen = false ∧ t.get SOUND2.FILL = s.snd.queue.length + 1 ∧
        bitOf (t.get (HDR.EVT 0x0E0)) EV.SOUND0.RX_RECORD = true ∧ t.mem = s.mem ∧
      SameRegs ([SOUND0.RX_STATE.key, SOUND2.FILL.key] ++ (List.range 8).map (fun i => (SOUND2.RXQ_W i).key) ++ evKeys 0x0E0) s t) ∧
    (∀ (s : State) (b : Burst) (x : SndRx),
      2 ≤ s.get SOUND0.RX_STATE → b.bad = false →
        readInfo (ldpcDecode s.maxIter b.llr).1 (b.arrival - s.get SOUND0.RX_BOARD_DLY) = some x →
        16 ≤ s.snd.queue.length →
      ∃ t : State, exec (.rxRecord b) s = .next t ∧ t.snd.queue = s.snd.queue ∧
        bitOf (t.get (HDR.EVT 0x0E0)) EV.SOUND0.RXQ_LOST = true ∧ t.mem = s.mem ∧
      SameRegs ([SOUND0.RX_STATE.key] ++ evKeys 0x0E0) s t) ∧
    (∀ (s : State) (c : Cls),
      s.triggered c SOUND2.POP = true →
      let u : State := s.ripe c SOUND2.POP;
      ∃ t : State, exec (.soundRxqPop c) s = .next t ∧ t.snd.queue = u.snd.queue.tail ∧
        t.get SOUND2.FILL = (u.snd.queue.length - 1) % 32 ∧
      (∀ i, i < 8 → t.get (SOUND2.RXQ_W i) = (u.snd.queue.tail.headD []).getD i 0 % 2 ^ 32) ∧
        t.answer = some ⟨c, [], stOK⟩ ∧ t.mem = u.mem ∧
      SameRegs (SOUND2.FILL.key :: (List.range 8).map (fun i => (SOUND2.RXQ_W i).key)) u t) ∧
    (∀ (s : State) (c : Cls),
      s.triggered c SOUND2.REM_GO = true →
      exec (.remGo c) s = .next (s.lands c SOUND2.REM_GO [] [fun u => u.set SOUND2.REM_BUSY 1])) ∧
    (∀ (s : State) (c : Cls),
      s.refusesPart c SOUND2.REM_GO 0 stPENDING = true →
      exec (.remGo c) s = .next ((({ s with acks := [] } : State).refuseWrite c (regAddr SOUND2.REM_GO.page SOUND2.REM_GO.off) stPENDING).reply c [] stPENDING)) ∧
    (∀ (s : State) (r : Nat),
      s.on SOUND2.REM_BUSY = true → (s.set SOUND2.REM_BUSY 0).xferCheck = .inl r →
      exec .xferDone s = .next (((s.set SOUND2.REM_BUSY 0).remPeerNote.set SOUND2.REM_RESULT r).raise 0x0E0 EV.SOUND0.XFER_REJECT)) ∧
    (∀ (s : State) (x : Xfer),
      s.on SOUND2.REM_BUSY = true → (s.set SOUND2.REM_BUSY 0).xferCheck = .inr x → x.peer < 16 → s.snd.deltas.length = 16 →
        s.on (SOUND3.PEER_REF x.peer) = false ∨ bitOf (s.get (SOUND2.REM_W 8)) 0 = false →
      ∃ t : State, exec .xferDone s = .next t ∧ t.get SOUND2.REM_BUSY = 0 ∧ t.get SOUND2.REM_RESULT = 0 ∧
        t.get SOUND2.PEER_IDX = x.peer ∧
      t.geti (SOUND3.THETA x.peer) = satSigned 32 x.theta ∧ t.geti (SOUND3.DELTA x.peer) = satSigned 32 x.delta ∧
        t.cum = s.cum ∧
      (t.snd.deltas.getD x.peer []).getLast? = some x.delta ∧ bitOf (t.get (HDR.EVT 0x0E0)) EV.SOUND0.XFER_DONE = true ∧
        t.mem = s.mem ∧
      SameRegs ([SOUND2.REM_BUSY.key, SOUND2.REM_RESULT.key, SOUND2.PEER_IDX.key, (SOUND3.THETA x.peer).key, (SOUND3.DELTA x.peer).key, (SOUND3.PEER_CNT x.peer).key] ++ evKeys 0x0E0) s t) ∧
    (∀ (s : State) (x : Xfer),
      s.on SOUND2.REM_BUSY = true → (s.set SOUND2.REM_BUSY 0).xferCheck = .inr x → x.peer < 16 → s.snd.deltas.length = 16 →
        s.on (SOUND3.PEER_REF x.peer) = true → bitOf (s.get (SOUND2.REM_W 8)) 0 = true →
      ∃ t : State, exec .xferDone s = .next t ∧ t.geti (SOUND3.THETA x.peer) = satSigned 32 x.theta ∧
        t.geti (SOUND3.DELTA x.peer) = satSigned 32 x.delta ∧
      t.cum.meas = some (x.theta + toSigned 32 (s.get (SOUND2.REM_W 7)), s.tb) ∧
        t.geti SOUND3.MEAS = satSigned 32 (x.theta + toSigned 32 (s.get (SOUND2.REM_W 7))) ∧
      bitOf (t.get (HDR.EVT 0x0E0)) EV.SOUND0.XFER_DONE = true ∧ t.mem = s.mem)

/-- EN = 1 starts Anise where the mode and the record permit it. A word of CFG with a frequency outside the band raises
BAND_ERR and changes nothing else; one inside it is stored, and tunes an operational Anise, with the front end
calibrated for a new standard. The synthesiser locks, and its calibration ends the hold of the quality. An
alternative that is better by the margin and not barred is hopped to, and a worse one passed over; one whose PI
differs is barred and left, one whose PI stays for two groups is kept. Two seconds without DAB synchronisation try
the first candidate, 300 ms each the next, and the last ends the pass; HOLD_FREQ holds it. CAL GO starts a
calibration and CAL CLR clears CAL_VALID. One second without a frame in the gate ends the measurement. POP and FLUSH
take the first record or every record off the queue. -/
def Obligations.AniseTuning : Prop :=
  (∀ (s : State),
      s.on (HDR.EN 0x0E4) = true → s.aniseAllowed = true → s.act 0x0E4 = false → s.seqOf 0x0E4 = 0 →
      exec .anisePermit s = .next ((((s.set BCAST0.NOT_PERMITTED 0).startSeq 0x0E4 1).set BCAST0.QUAL_STALE 1).set (HDR.STALE 0x0E4) 1)) ∧
    (∀ (s : State),
      s.on (HDR.EN 0x0E4) = false ∨ s.aniseAllowed = false →
      exec .anisePermit s = .next s) ∧
    (∀ (s : State) (c : Cls) (a std khz : Nat),
      std < 2 → khz < 2 ^ 18 → s.takes c BCAST0.STD (std * 2 ^ 30 + khz) = true →
        s.takes c BCAST0.FREQ (std * 2 ^ 30 + khz) = true → bandOk std khz = false →
      exec (.bcastRetune c a std khz) s = .next (s.lands c BCAST0.STD [fun u => u, fun u => u.raise 0x0E4 EV.BCAST0.BAND_ERR] [])) ∧
    (∀ (s : State) (c : Cls) (a std khz : Nat),
      std < 2 → khz < 2 ^ 18 → s.takes c BCAST0.STD (std * 2 ^ 30 + khz) = true →
        s.takes c BCAST0.FREQ (std * 2 ^ 30 + khz) = true → bandOk std khz = true →
        (s.ripe c BCAST0.STD 2).act 0x0E4 = false →
        std ≠ (s.ripe c BCAST0.STD 2).get BCAST0.STD ∨ khz ≠ (s.ripe c BCAST0.STD 2).get BCAST0.FREQ →
      let u : State := s.ripe c BCAST0.STD 2;
      ∃ t : State, exec (.bcastRetune c a std khz) s = .next t ∧ t.get BCAST0.STD = std ∧ t.get BCAST0.FREQ = khz ∧
        t.bc.hop = none ∧ t.bc.left = [] ∧
      t.get BCAST0.FREQ_ACT = u.get BCAST0.FREQ_ACT ∧ t.mem = u.mem ∧ t.answer = some ⟨c, [], stOK⟩) ∧
    (∀ (s : State) (c : Cls) (a std khz : Nat),
      std < 2 → khz < 2 ^ 18 → s.takes c BCAST0.STD (std * 2 ^ 30 + khz) = true →
        s.takes c BCAST0.FREQ (std * 2 ^ 30 + khz) = true → bandOk std khz = true →
        (s.ripe c BCAST0.STD 2).act 0x0E4 = true → std ≠ (s.ripe c BCAST0.STD 2).get BCAST0.STD →
      let u : State := s.ripe c BCAST0.STD 2;
      ∃ t : State, exec (.bcastRetune c a std khz) s = .next t ∧ t.get BCAST0.STD = std ∧ t.get BCAST0.FREQ = khz ∧
        t.get BCAST0.FREQ_ACT = khz ∧
      t.get BCAST0.SYNC = 0 ∧ t.bc.locked = false ∧ t.bc.feCal = true ∧ t.get BCAST0.QUAL_STALE = 1 ∧ t.bc.bound = false ∧
        t.mem = u.mem ∧ t.answer = some ⟨c, [], stOK⟩) ∧
    (∀ (s : State),
      s.act 0x0E4 = true → s.on CPLL.REF_OK = true →
      exec .synthLock s = .next (s.setBc (fun b => { b with locked := true }))) ∧
    (∀ (s : State),
      s.bc.feCal = true → s.bc.locked = true →
      exec .bcastFeCalDone s = .next (((s.setBc (fun b => { b with feCal := false })).set BCAST0.QUAL_STALE 0).set (HDR.STALE 0x0E4) 0)) ∧
    (∀ (s : State) (lv : Int) (i : Nat),
      s.aniseRuns = true → s.get BCAST0.STD = 0 → s.on BCAST0.AF_EN = true → 0 < s.get BCAST1.AF_CNT →
        s.bc.afNext = some i → s.bc.bars.any (fun x => x.1 == afKHz (s.get (BCAST1.AF i)) && decide (s.ao < x.2)) = false →
        afKHz (s.get (BCAST1.AF i)) ≠ s.get BCAST0.FREQ_ACT → s.aerLevel + (s.get BCAST0.AF_MARGIN : Int) < lv →
        bandOk 0 (afKHz (s.get (BCAST1.AF i))) = true →
      exec (.afCheck lv) s = .next ((((s.setBc (fun b => { b with afNext := none, hop := some (s.get BCAST0.FREQ_ACT, s.get BCAST1.PI, 0) })).aniseTune (afKHz (s.get (BCAST1.AF i))) false).count
      BCAST0.HOP_CNT).raise 0x0E4 EV.BCAST0.HOP)) ∧
    (∀ (s : State) (lv : Int) (i : Nat),
      s.aniseRuns = true → s.get BCAST0.STD = 0 → s.on BCAST0.AF_EN = true → 0 < s.get BCAST1.AF_CNT →
        s.bc.afNext = some i → lv ≤ s.aerLevel + (s.get BCAST0.AF_MARGIN : Int) →
      exec (.afCheck lv) s = .next (s.setBc (fun b => { b with afNext := if i + 1 < s.get BCAST1.AF_CNT then some (i + 1) else none }))) ∧
    (∀ (s : State) (pi khz was n : Nat),
      s.bc.hop = some (khz, was, n) → n ≤ 2 → pi % 2 ^ 16 ≠ was →
      exec (.afPiCheck pi) s = .next ((((s.setBc (fun b => { b with
        hop := none, bars := b.bars.filter (fun x => x.1 != s.get BCAST0.FREQ_ACT) ++ [(s.get BCAST0.FREQ_ACT, s.ao + 58982400000)] })).aniseTune khz false).count BCAST0.HOP_CNT).raise 0x0E4 EV.BCAST0.HOP)) ∧
    (∀ (s : State) (pi khz was : Nat),
      s.bc.hop = some (khz, was, 2) → pi % 2 ^ 16 = was →
      exec (.afPiCheck pi) s = .next (s.setBc (fun b => { b with hop := none }))) ∧
    (∀ (s : State) (t0 k : Nat) (ks : List Nat),
      s.act 0x0E4 = true → s.get BCAST0.STD = 1 → s.on BCAST0.AF_EN = true → s.on BCAST0.SYNC = false →
        s.bc.lostAt = some t0 → t0 + 1966080000 ≤ s.ao → s.followHeld = false → s.bc.candAt = none →
        (s.bc.cand.1 ++ s.bc.cand.2).filter (fun k => bandOk 1 k) = k :: ks →
      exec .dabFollow s = .next (((s.setBc (fun b => { b with left := k :: ks })).aniseTune k false).setBc (fun b => { b with left := ks, candAt := some s.ao }))) ∧
    (∀ (s : State),
      s.followHeld = true →
      exec .dabFollow s = .next s) ∧
    (∀ (s : State) (t0 k : Nat) (ks : List Nat),
      s.bc.candAt = some t0 → t0 + 294912000 ≤ s.ao → s.on BCAST0.SYNC = false → s.followHeld = false →
        s.bc.left = k :: ks →
      exec .dabCandidateTimeout s = .next ((s.aniseTune k false).setBc (fun b => { b with left := ks, candAt := some s.ao }))) ∧
    (∀ (s : State) (t0 : Nat),
      s.bc.candAt = some t0 → t0 + 294912000 ≤ s.ao → s.on BCAST0.SYNC = false → s.followHeld = false → s.bc.left = [] →
      exec .dabCandidateTimeout s = .next (s.setBc (fun b => { b with candAt := none }))) ∧
    (∀ (s : State) (c : Cls),
      s.triggered c BCAST2.CAL_GO = true →
      exec (.timingCalGo c) s = .next (s.lands c BCAST2.CAL_GO [] [fun u => u.setBc (fun b => { b with go := true, cal := none })])) ∧
    (∀ (s : State) (c : Cls),
      s.triggered c BCAST2.CAL_CLR = true →
      exec (.timingCalClr c) s = .next (s.lands c BCAST2.CAL_CLR [] [fun u => u.set BCAST2.CAL_VALID 0])) ∧
    (∀ (s : State) (t0 : Nat),
      s.ani.passed = some t0 → t0 + 983040000 ≤ s.tb → s.get TIMEBASE.SRC_ACT ≠ 3 →
      ∃ t : State, exec .measTimeout s = .next t ∧ t.get BCAST2.MEAS_VALID = 0 ∧ t.ani.passed = none ∧ t.ani.ms = [] ∧
        t.mem = s.mem) ∧
    (∀ (s : State) (c : Cls),
      s.triggered c BCAST3.POP = true → (s.ripe c BCAST3.POP).bc.queue.length ≤ 64 →
      let u : State := s.ripe c BCAST3.POP;
      ∃ t : State, exec (.sdqPop c) s = .next t ∧ t.bc.queue = u.bc.queue.tail ∧ t.get BCAST3.FILL = u.bc.queue.length - 1 ∧
      (∀ i, i < 32 → t.get (BCAST3.SDQ_W i) = (u.bc.queue.tail.headD []).getD i 0 % 2 ^ 32) ∧
        t.answer = some ⟨c, [], stOK⟩ ∧ t.mem = u.mem ∧
      SameRegs (BCAST3.FILL.key :: (List.range 32).map (fun i => (BCAST3.SDQ_W i).key)) u t) ∧
    (∀ (s : State) (c : Cls),
      s.triggered c BCAST3.FLUSH = true →
      let u : State := s.ripe c BCAST3.FLUSH;
      ∃ t : State, exec (.sdqFlush c) s = .next t ∧ t.bc.queue = [] ∧ t.get BCAST3.FILL = 0 ∧ (∀ i, i < 32 →
        t.get (BCAST3.SDQ_W i) = 0) ∧ t.answer = some ⟨c, [], stOK⟩ ∧ t.mem = u.mem ∧
      SameRegs (BCAST3.FILL.key :: (List.range 32).map (fun i => (BCAST3.SDQ_W i).key)) u t)

/-- Outside FM reception a block and a group do nothing. With RDS synchronisation a good block clears the count of bad
ones, a bad one is counted, and the twelfth loses synchronisation; the third good block in order gains it. A group
gives ECC, a TMC or alarm record, TA with PS, and AF, after what its block A and B say. A DAB frame without its PRS
is counted as bad, one with it as good, and the third of a row synchronises; a synchronised one gives its stamp, the
list of packet sub-channels and PKT_BAD. The fifth bad frame loses synchronisation. A packet of the address chosen
becomes a record, a bad one is counted and any other ignored. -/
def Obligations.AniseReception : Prop :=
  (∀ (s : State) (o : Nat) (k : Bool) (q : Quality),
      s.aniseRuns = false ∨ s.get BCAST0.STD ≠ 0 →
      exec (.rdsBlock o k q) s = .next s) ∧
    (∀ (s : State) (o : Nat) (q : Quality),
      s.aniseRuns = true → s.get BCAST0.STD = 0 → (((s.qualNote q).divDecide q).weakNote).on BCAST1.RDS_SYNC = true →
      exec (.rdsBlock o true q) s = .next ((((s.qualNote q).divDecide q).weakNote).setBc (fun b => { b with bad := 0, lastOfs := o }))) ∧
    (∀ (s : State) (o : Nat) (q : Quality),
      s.aniseRuns = true → s.get BCAST0.STD = 0 → (((s.qualNote q).divDecide q).weakNote).on BCAST1.RDS_SYNC = true →
        (((s.qualNote q).divDecide q).weakNote).bc.bad < 11 →
      exec (.rdsBlock o false q) s = .next (((((s.qualNote q).divDecide q).weakNote).count BCAST0.BLK_ERR_CNT).setBc (fun b => { b with bad := b.bad + 1 }))) ∧
    (∀ (s : State) (o : Nat) (q : Quality),
      s.aniseRuns = true → s.get BCAST0.STD = 0 → (((s.qualNote q).divDecide q).weakNote).on BCAST1.RDS_SYNC = true →
        (((s.qualNote q).divDecide q).weakNote).bc.bad = 11 →
        (((s.qualNote q).divDecide q).weakNote).on BCAST0.SYNC = true →
      ∃ t : State, exec (.rdsBlock o false q) s = .next t ∧ t.get BCAST1.RDS_SYNC = 0 ∧ t.get BCAST0.SYNC = 0 ∧
        t.bc.lostAt = some s.ao ∧ bitOf (t.get (HDR.EVT 0x0E4)) EV.BCAST0.SYNC_LOSS = true ∧ t.mem = s.mem) ∧
    (∀ (s : State) (o : Nat) (q : Quality),
      s.aniseRuns = true → s.get BCAST0.STD = 0 → (((s.qualNote q).divDecide q).weakNote).on BCAST1.RDS_SYNC = false →
        2 ≤ (((s.qualNote q).divDecide q).weakNote).bc.run →
        ofsFollows (((s.qualNote q).divDecide q).weakNote).bc.lastOfs o = true →
      ∃ t : State, exec (.rdsBlock o true q) s = .next t ∧ t.get BCAST1.RDS_SYNC = 1 ∧ t.get BCAST0.SYNC = 1 ∧
        t.bc.bad = 0 ∧ bitOf (t.get (HDR.EVT 0x0E4)) EV.BCAST0.SYNC = true ∧ t.mem = s.mem) ∧
    (∀ (s : State) (a b c d k : Nat),
      s.aniseRuns = false ∨ s.get BCAST0.STD ≠ 0 ∨ s.on BCAST1.RDS_SYNC = false →
      exec (.rdsGroup a b c d k) s = .next s) ∧
    (∀ (s : State) (a b c d k : Nat),
      s.aniseRuns = true → s.get BCAST0.STD = 0 → s.on BCAST1.RDS_SYNC = true → bits b 11 5 = 2 → bits c 12 3 = 0 →
        s.get BCAST1.PTY = 31 ∨ (s.rdsHead a b).get BCAST1.PTY ≠ 31 →
      exec (.rdsGroup a b c d k) s = .next (((s.rdsHead a b).setBc (fun x => { x with hop := x.hop.map (fun h => (h.1, h.2.1, h.2.2 + 1)) })).set BCAST1.ECC (c % 256))) ∧
    (∀ (s : State) (a b c d k : Nat),
      s.aniseRuns = true → s.get BCAST0.STD = 0 → s.on BCAST1.RDS_SYNC = true → bits b 11 5 = 8 →
        s.get BCAST1.PTY = 31 ∨ (s.rdsHead a b).get BCAST1.PTY ≠ 31 →
      exec (.rdsGroup a b c d k) s = .next (((s.rdsHead a b).setBc (fun x => { x with hop := x.hop.map (fun h => (h.1, h.2.1, h.2.2 + 1)) })).sdq 3 false true k (a % 2 ^ 16 * 2 ^ 16 + 8) [b % 2 ^ 16 + c % 2 ^ 16 * 2 ^ 16, d % 2 ^ 16])) ∧
    (∀ (s : State) (a b c d k : Nat),
      s.aniseRuns = true → s.get BCAST0.STD = 0 → s.on BCAST1.RDS_SYNC = true → bits b 11 5 = 18 →
      exec (.rdsGroup a b c d k) s = .next ((((s.rdsHead a b).setBc (fun x => { x with hop := x.hop.map (fun h => (h.1, h.2.1, h.2.2 + 1)) })).raise 0x0E4 EV.BCAST0.ALARM).sdq 4 true true k (a % 2 ^ 16 * 2 ^ 16 + 18) [b % 2 ^ 16 + c % 2 ^ 16 * 2 ^ 16, d % 2 ^ 16])) ∧
    (∀ (s : State) (a b c d k : Nat),
      s.aniseRuns = true → s.get BCAST0.STD = 0 → s.on BCAST1.RDS_SYNC = true → bits b 11 5 = 1 →
        s.get BCAST1.PTY = 31 ∨ (s.rdsHead a b).get BCAST1.PTY ≠ 31 →
      exec (.rdsGroup a b c d k) s = .next ((((s.rdsHead a b).setBc (fun x => { x with hop := x.hop.map (fun h => (h.1, h.2.1, h.2.2 + 1)) })).set BCAST1.TA (bits b 4 1)).rdsPs false k (a % 2 ^ 16 * 2 ^ 16 + 1) (b % 4) d)) ∧
    (∀ (s : State) (a b c d k : Nat),
      s.aniseRuns = true → s.get BCAST0.STD = 0 → s.on BCAST1.RDS_SYNC = true → bits b 11 5 = 0 →
        s.get BCAST1.PTY = 31 ∨ (s.rdsHead a b).get BCAST1.PTY ≠ 31 →
      exec (.rdsGroup a b c d k) s = .next (((((s.rdsHead a b).setBc (fun x => { x with hop := x.hop.map (fun h => (h.1, h.2.1, h.2.2 + 1)) })).set BCAST1.TA (bits b 4 1)).rdsPs false k (a % 2 ^ 16 * 2 ^ 16) (b % 4) d).rdsAf false k (a % 2 ^ 16 * 2 ^ 16) c)) ∧
    (∀ (s : State) (x : DabFrame),
      s.aniseRuns = true → s.get BCAST0.STD = 1 → x.prs = none →
      exec (.dabFrame x) s = .next (((s.dabAerial x.qual).qualNote x.qual).setBc (fun b => { b with run := 0, bad := b.bad + 1 }))) ∧
    (∀ (s : State) (x : DabFrame) (f : Nat),
      s.aniseRuns = true → s.get BCAST0.STD = 1 → x.prs = some f → s.on BCAST0.SYNC = false → s.bc.run < 2 →
      exec (.dabFrame x) s = .next (((s.dabAerial x.qual).qualNote x.qual).setBc (fun b => { b with run := b.run + 1, bad := 0 }))) ∧
    (∀ (s : State) (x : DabFrame) (f : Nat),
      s.aniseRuns = true → s.get BCAST0.STD = 1 → x.prs = some f → s.on BCAST0.SYNC = false → 2 ≤ s.bc.run →
        s.bc.candAt = none →
      let u : State := (((s.dabAerial x.qual).qualNote x.qual).setBc (fun b => { b with run := b.run + 1, bad := 0 })).set BCAST0.SYNC 1;
      exec (.dabFrame x) s = .next (((u.raise 0x0E4 EV.BCAST0.SYNC).setBc (fun b => { b with lostAt := none, left := [], candAt := none, alarm := false })).dabBody x
        ((f + 2 ^ 72 - 1274880 * 256) % 2 ^ 72))) ∧
    (∀ (s : State) (x : DabFrame) (f : Nat),
      s.aniseRuns = true → s.get BCAST0.STD = 1 → x.prs = some f → s.on BCAST0.SYNC = true →
      ∃ t : State, exec (.dabFrame x) s = .next t ∧
        t.get BCAST2.FRAME_TB_LO = ((f + 2 ^ 72 - 1274880 * 256) % 2 ^ 72) / 256 % 2 ^ 32 ∧
        t.get BCAST2.FRAME_TB_HI = ((f + 2 ^ 72 - 1274880 * 256) % 2 ^ 72) / 256 / 2 ^ 32 % 2 ^ 32 ∧
        t.get BCAST2.FRAC = ((f + 2 ^ 72 - 1274880 * 256) % 2 ^ 72) % 256 ∧
      t.get BCAST0.PKT_BAD = (if s.on BCAST2.PKT_EN ∧ x.subs.contains (s.get BCAST2.SUBCH) = false then 1 else 0) ∧
        t.bc.subs = x.subs ∧ t.mem = s.mem) ∧
    (∀ (s : State),
      s.get BCAST0.STD = 1 → s.aniseRuns = true → 5 ≤ s.bc.bad → s.on BCAST0.SYNC = true →
      ∃ t : State, exec .dabSyncLoss s = .next t ∧ t.get BCAST0.SYNC = 0 ∧ t.get BCAST2.ENS_VALID = 0 ∧
        t.bc.lostAt = some s.ao ∧ t.bc.bad = 0 ∧ bitOf (t.get (HDR.EVT 0x0E4)) EV.BCAST0.SYNC_LOSS = true ∧ t.mem = s.mem ∧
      SameRegs ([BCAST0.SYNC.key, BCAST1.RDS_SYNC.key, BCAST2.ENS_VALID.key] ++ evKeys 0x0E4) s t) ∧
    (∀ (s : State) (ad : Nat) (l : List Nat) (f : Nat),
      s.aniseRuns = true → s.get BCAST0.STD = 1 → s.on BCAST0.SYNC = true → s.on BCAST2.PKT_EN = true →
        s.subLocated = true →
      exec (.dabPacket ad l false f) s = .next (s.count BCAST0.PKT_ERR_CNT)) ∧
    (∀ (s : State) (ad : Nat) (l : List Nat) (f : Nat),
      s.aniseRuns = true → s.get BCAST0.STD = 1 → s.on BCAST0.SYNC = true → s.on BCAST2.PKT_EN = true →
        s.subLocated = true → s.get BCAST2.PKT_ADDR = 1023 ∧ ad ≠ 0 ∨ s.get BCAST2.PKT_ADDR ≠ 1023 ∧
        ad = s.get BCAST2.PKT_ADDR →
      exec (.dabPacket ad l true f) s = .next (s.sdq 21 false false (f / 256) (s.dabW3 0 0) (payload ([ad % 256, ad / 256 % 4] ++ l.take 91)))) ∧
    (∀ (s : State) (ad : Nat) (l : List Nat) (f : Nat),
      s.aniseRuns = true → s.get BCAST0.STD = 1 → s.on BCAST0.SYNC = true → s.on BCAST2.PKT_EN = true →
        s.subLocated = true → s.get BCAST2.PKT_ADDR = 1023 ∧ ad = 0 ∨ s.get BCAST2.PKT_ADDR ≠ 1023 ∧
        ad ≠ s.get BCAST2.PKT_ADDR →
      exec (.dabPacket ad l true f) s = .next s)

/-- An ARM raises SRC_ERR for a reserved source and REGION_ERR for a bad region; with both good the arm starts with its
pointers at 0, and on an armed port it is refused with COMMIT_PENDING. DISARM ends the segment in progress at its
tick, or just the arm. A software trigger acts, where selected, with its arrival stamp. A trigger opens a segment
whose end is the trigger sample plus POST, with PRE_ACT held samples before it; one in another segment is a miss,
one of the same stamp takes the lower cause. AUTO_TO without a trigger forces one. A segment whose end has come ends
with its count and SEG_DONE, an open one goes on, and stream mode records what has come. Lost samples make a gap
record with its counts and event. RD_PTR is written by software. -/
def Obligations.CaptureArms : Prop :=
  (∀ (s : State) (c : Cls) (k : Nat),
      k < 8 → s.triggered c (CP.ARM k) = true → (s.ripe c (CP.ARM k)).act (capPage k) = true →
        (s.ripe c (CP.ARM k)).on (CP.ARMED k) = false → 5 ≤ (s.ripe c (CP.ARM k)).get (CP.SRC_KIND k) →
        bitOf ((s.ripe c (CP.ARM k)).get (CP.SRC_MASK k)) 0 = false →
      exec (.arm c k) s = .next (s.lands c (CP.ARM k) [] [fun u => u.raise (capPage k) EV.CP.SRC_ERR])) ∧
    (∀ (s : State) (c : Cls) (k : Nat),
      k < 8 → s.triggered c (CP.ARM k) = true → (s.ripe c (CP.ARM k)).act (capPage k) = true →
        (s.ripe c (CP.ARM k)).on (CP.ARMED k) = false → (s.ripe c (CP.ARM k)).get (CP.SRC_KIND k) < 5 →
        (s.ripe c (CP.ARM k)).capRegionOk k = false → bitOf ((s.ripe c (CP.ARM k)).get (CP.SRC_MASK k)) 0 = false →
      exec (.arm c k) s = .next (s.lands c (CP.ARM k) [] [fun u => u.raise (capPage k) EV.CP.REGION_ERR])) ∧
    (∀ (s : State) (c : Cls) (k : Nat),
      k < 8 → s.triggered c (CP.ARM k) = true → (s.ripe c (CP.ARM k)).act (capPage k) = true →
        (s.ripe c (CP.ARM k)).on (CP.ARMED k) = false → (s.ripe c (CP.ARM k)).caps.length = 8 →
        (s.ripe c (CP.ARM k)).get (CP.SRC_KIND k) < 5 → (s.ripe c (CP.ARM k)).capRegionOk k = true →
        (s.ripe c (CP.ARM k)).on (CP.BUF_MODE k) = false → bitOf ((s.ripe c (CP.ARM k)).get (CP.SRC_MASK k)) 0 = false →
      let u : State := s.ripe c (CP.ARM k);
      ∃ t : State, exec (.arm c k) s = .next t ∧ t.cap k = { armAt := u.tb } ∧ t.get (CP.ARMED k) = 1 ∧
        t.get (CP.FULL k) = 0 ∧ t.get (CP.SEG_NOW k) = 0 ∧ t.get (CP.WR_PTR k) = 0 ∧
      t.get (CP.RD_PTR k) = 0 ∧ t.answer = some ⟨c, [], stOK⟩ ∧ t.mem = u.mem ∧
        SameRegs [(CP.ARMED k).key, (CP.FULL k).key, (CP.SEG_NOW k).key, (CP.WR_PTR k).key, (CP.RD_PTR k).key] u t) ∧
    (∀ (s : State) (c : Cls) (k : Nat),
      k < 8 → s.refusesPart c (CP.ARM k) 0 stPENDING = true →
      exec (.arm c k) s = .next ((({ s with acks := [] } : State).refuseWrite c (regAddr (CP.ARM k).page (CP.ARM k).off) stPENDING).reply c [] stPENDING)) ∧
    (∀ (s : State) (c : Cls) (k : Nat),
      k < 8 → s.triggered c (CP.DISARM k) = true → (s.ripe c (CP.DISARM k)).caps.length = 8 →
        (s.ripe c (CP.DISARM k)).on (CP.ARMED k) = true → ((s.ripe c (CP.DISARM k)).cap k).seg = none →
      let u : State := s.ripe c (CP.DISARM k);
      ∃ t : State, exec (.disarm c k) s = .next t ∧ t.get (CP.ARMED k) = 0 ∧ (t.cap k).seg = none ∧ (t.cap k).feed = [] ∧
        t.answer = some ⟨c, [], stOK⟩ ∧ t.mem = u.mem ∧ SameRegs [(CP.ARMED k).key] u t) ∧
    (∀ (s : State) (c : Cls) (k : Nat) (g : SegSt),
      k < 8 → s.triggered c (CP.DISARM k) = true → (s.ripe c (CP.DISARM k)).on (CP.ARMED k) = true →
        ((s.ripe c (CP.DISARM k)).cap k).seg = some g →
      exec (.disarm c k) s = .next (s.lands c (CP.DISARM k) [] [fun u => u.capEnd k u.tb true])) ∧
    (∀ (s : State) (c : Cls) (k : Nat),
      k < 8 → s.triggered c (CP.TRIG k) = true → bitOf ((s.ripe c (CP.TRIG k)).get (CP.SRC_MASK k)) 5 = true →
      exec (.captureSoftTrig c k) s = .next (s.lands c (CP.TRIG k) [] [fun u => u.capTrigger k 6 (u.tb - 8) 0])) ∧
    (∀ (s : State) (c : Cls) (k : Nat),
      k < 8 → s.triggered c (CP.TRIG k) = true → bitOf ((s.ripe c (CP.TRIG k)).get (CP.SRC_MASK k)) 5 = false →
      exec (.captureSoftTrig c k) s = .next (s.lands c (CP.TRIG k) [] [fun u => u])) ∧
    (∀ (s : State) (k cause fr t0 f : Nat),
      k < 8 → s.caps.length = 8 → s.capSource k cause fr = some (t0, f) → s.on (CP.ARMED k) = true →
        s.on (CP.WIN_EN k) = false → s.on (CP.BUF_MODE k) = false → (s.cap k).seg = none → (s.cap k).segEnd = none →
        (s.cap k).lastTrig = none → s.get (CP.PRE k) = 0 ∨ (s.cap k).dpd = true → (s.cap k).armAt ≤ t0 →
      ∃ t : State, exec (.captureTrigger k cause fr) s = .next t ∧
        (t.cap k).lastTrig = some ((t0 + (if f = 0 then 0 else 1) + s.capL k - 1) / s.capL k * s.capL k) ∧
        ((t.cap k).seg.map (·.trig)) = some t0 ∧ ((t.cap k).seg.map (·.frac)) = some f ∧
      ((t.cap k).seg.map (·.cause)) = some cause ∧ ((t.cap k).seg.map (·.preAct)) = some 0 ∧
        ((t.cap k).seg.map (·.first)) = some ((t0 + (if f = 0 then 0 else 1) + s.capL k - 1) / s.capL k * s.capL k) ∧
      ((t.cap k).seg.map (·.stop)) = some ((t0 + (if f = 0 then 0 else 1) + s.capL k - 1) / s.capL k * s.capL k + orIf0 (s.get (CP.POST k) % 2 ^ 24) 1 * s.capL k) ∧
      ((t.cap k).seg.map (·.pos)) = some ((s.cap k).endPos + 32) ∧ t.mem = s.mem ∧ SameRegs [] s t) ∧
    (∀ (s : State) (k cause fr t0 f : Nat),
      k < 8 → s.caps.length = 8 → s.capSource k cause fr = some (t0, f) → s.on (CP.ARMED k) = true →
        s.on (CP.WIN_EN k) = false → s.on (CP.BUF_MODE k) = false → (s.cap k).dpd = false → (s.cap k).seg = none →
        (s.cap k).segEnd = none → (s.cap k).lastTrig = none → s.get (CP.PRE k) % 8192 ≤ (s.cap k).feed.length →
        (s.cap k).armAt ≤ t0 →
        (s.cap k).feed.all (fun y => decide ((s.cap k).armAt ≤ y.stamp) && decide (y.stamp < t0)) = true →
      ∃ t : State, exec (.captureTrigger k cause fr) s = .next t ∧
        ((t.cap k).seg.map (·.preAct)) = some (min 8191 (s.get (CP.PRE k) % 8192)) ∧
      ((t.cap k).seg.map (·.stop)) = some ((t0 + (if f = 0 then 0 else 1) + s.capL k - 1) / s.capL k * s.capL k + orIf0 (s.get (CP.POST k) % 2 ^ 24) 1 * s.capL k) ∧
        (t.cap k).feed = (s.cap k).feed ∧ t.mem = s.mem ∧ SameRegs [] s t) ∧
    (∀ (s : State) (k cause fr t0 f : Nat) (g : SegSt),
      k < 8 → s.caps.length = 8 → s.capSource k cause fr = some (t0, f) → s.on (CP.ARMED k) = true →
        s.on (CP.WIN_EN k) = false → s.on (CP.BUF_MODE k) = false → (s.cap k).seg = some g → g.trig ≠ t0 ∨ g.frac ≠ f →
      exec (.captureTrigger k cause fr) s = .next (((s.setCap k (fun c => { c with tbDone := c.tbDone || cause == 1 })).count (CP.TRIG_MISS_CNT k)).raise (capPage k) EV.CP.TRIG_MISS)) ∧
    (∀ (s : State) (k cause fr t0 f : Nat) (g : SegSt),
      k < 8 → s.caps.length = 8 → s.capSource k cause fr = some (t0, f) → s.on (CP.ARMED k) = true →
        s.on (CP.WIN_EN k) = false → s.on (CP.BUF_MODE k) = false → (s.cap k).seg = some g → g.trig = t0 → g.frac = f →
      exec (.captureTrigger k cause fr) s = .next (s.setCap k (fun c => { c with seg := some { g with cause := min g.cause cause } }))) ∧
    (∀ (s : State) (k cause fr t0 f e : Nat),
      k < 8 → s.caps.length = 8 → s.capSource k cause fr = some (t0, f) → s.on (CP.ARMED k) = true →
        s.on (CP.WIN_EN k) = false → s.on (CP.BUF_MODE k) = false → (s.cap k).seg = none → (s.cap k).segEnd = some e →
        t0 < e + 251 →
      exec (.captureTrigger k cause fr) s = .next (((s.setCap k (fun c => { c with tbDone := c.tbDone || cause == 1 })).count (CP.TRIG_MISS_CNT k)).raise (capPage k) EV.CP.TRIG_MISS)) ∧
    (∀ (s : State) (k cause fr : Nat),
      s.capSource k cause fr = none →
      exec (.captureTrigger k cause fr) s = .next s) ∧
    (∀ (s : State) (k : Nat),
      s.on (CP.AUTO_EN k) = true → (s.cap k).dpd = false → (s.cap k).seg = none → (s.cap k).segEnd = none →
        (s.cap k).armAt + s.get (CP.AUTO_TO k) * 1024 ≤ s.tb →
      exec (.autoTimeout k) s = .next (s.capTrigger k 7 ((s.cap k).armAt + s.get (CP.AUTO_TO k) * 1024) 0)) ∧
    (∀ (s : State) (k : Nat) (g : SegSt),
      k < 8 → s.caps.length = 8 → s.on (CP.ARMED k) = true → s.on (CP.BUF_MODE k) = false → (s.cap k).seg = some g →
        g.stop ≤ s.tb →
      ∃ t : State, exec (.segDone k) s = .next t ∧ (t.cap k).seg = none ∧
        t.get (CP.SEG_CNT k) = min (2 ^ 32 - 1) (s.get (CP.SEG_CNT k) + 1) ∧
      bitOf (t.get (HDR.EVT (capPage k))) EV.CP.SEG_DONE = true ∧ t.paths = s.paths ∧ t.dmas = s.dmas) ∧
    (∀ (s : State) (k : Nat) (g : SegSt),
      (s.cap k).seg = some g → s.on (CP.BUF_MODE k) = false → s.tb < g.stop → g.full = false →
      exec (.segDone k) s = .next s) ∧
    (∀ (s : State) (k : Nat) (g : SegSt),
      (s.cap k).seg = some g → s.on (CP.BUF_MODE k) = true →
      exec (.segDone k) s = .next (s.capTake k s.tb)) ∧
    (∀ (s : State) (k first res : Nat) (g : SegSt),
      k < 8 → s.caps.length = 8 → (s.cap k).seg = some g →
        (s.cap k).feed.all (fun x => decide (first ≤ x.stamp) && decide (x.stamp < res)) = true → (s.cap k).feed ≠ [] →
        (s.cap k).lost = none → g.block = [] → s.on (CP.BUF_MODE k) = true →
      exec (.gap k first res) s = .next ((((((s.setCap k (fun c => { c with feed := [] })).capPut k g.pos
      [2 ^ 29 + k * 2 ^ 25, 0, min (s.cap k).feed.length (2 ^ 32 - 1), first % 2 ^ 32, first / 2 ^ 32, res % 2 ^ 32, res / 2 ^ 32, 0]).set
      (CP.WR_PTR k) ((g.pos + 32) % max 1 (s.capSize k))).setCap k (fun c => { c with seg := some { g with pos := g.pos + 32, bad := true } })).count
      (CP.LOST_CNT k) (s.cap k).feed.length).count (CP.GAP_CNT k) |>.raise (capPage k) EV.CP.GAP)) ∧
    (∀ (s : State) (k first res : Nat),
      (s.cap k).seg = none → (s.cap k).feed = [] → (s.cap k).lost = none →
      exec (.gap k first res) s = .next (s.setCap k (fun c => c))) ∧
    (∀ (s : State) (c : Cls) (a k v : Nat),
      k < 8 → s.accepts c (CP.RD_PTR k) v = true →
      exec (.rdPtrWrite c a k v) s = .next (s.lands c (CP.RD_PTR k) [fun u => u.set (CP.RD_PTR k) (v % 2 ^ 24)] []))

/-- A doorbell on a busy channel is refused; on an idle one the chain waits while another runs, and ends with status 5
where its descriptor has no place. The running descriptor moves its words, is written back and, as the last of the
chain, ends it with status 0; a failed access has ended it before. A paused channel whose ring is filled to HI is
pending again. ABORT does nothing on an idle channel, ends a waiting or paused chain with status 1, and a running
one after a burst. A target that gives no answer ends the chain with status 3 and the address of the access. -/
def Obligations.DmaChains : Prop :=
  (∀ (s : State) (q : Cls) (c d : Nat),
      c < 8 → s.refusesPart q (DMAC.DESC c) (trunc 32 d) stPENDING = true →
      exec (.dmaDoorbell q c d) s = .next ((({ s with acks := [] } : State).refuseWrite q (regAddr (DMAC.DESC c).page (DMAC.DESC c).off) stPENDING).reply q [] stPENDING)) ∧
    (∀ (s : State) (q : Cls) (c d : Nat),
      c < 8 → d < 2 ^ 32 → s.triggered q (DMAC.DESC c) d = true → (s.ripe q (DMAC.DESC c)).act (dmaPage c) = true →
        (List.range 8).any (fun i => i != c && (s.ripe q (DMAC.DESC c)).get (DMAC.STATE i) == 2) = true →
      let u : State := s.ripe q (DMAC.DESC c);
      ∃ t : State, exec (.dmaDoorbell q c d) s = .next t ∧ t.get (DMAC.STATE c) = 1 ∧ t.get (DMAC.DESC_CNT c) = 0 ∧
        (u.dmas.length = 8 → t.dma c = { cls := q, desc := d }) ∧
      t.answer = some ⟨q, [], stOK⟩ ∧ t.mem = u.mem ∧
        SameRegs [(DMAC.STATE c).key, (DMAC.DESC_CNT c).key, DMA.PAUSED.key, DMA.PENDING.key, DMA.BUSY.key, DMA.ACTIVE.key] u t) ∧
    (∀ (s : State) (q : Cls) (c d : Nat),
      c < 8 → d < 2 ^ 32 → s.triggered q (DMAC.DESC c) d = true → (s.ripe q (DMAC.DESC c)).dmas.length = 8 →
        (s.ripe q (DMAC.DESC c)).act (dmaPage c) = true →
        (List.range 8).all (fun i => (s.ripe q (DMAC.DESC c)).get (DMAC.STATE i) == 0) = true → descPlace d = false →
      let u : State := s.ripe q (DMAC.DESC c);
      ∃ t : State, exec (.dmaDoorbell q c d) s = .next t ∧ t.get (DMAC.STATE c) = 0 ∧ t.get (DMAC.STATUS c) = 5 ∧
        t.get (DMAC.FAIL_ADDR c) = d ∧ t.get DMA.BUSY = 0 ∧
      bitOf (t.get (HDR.EVT (dmaPage c))) (dmaEvent 5) = true ∧ t.answer = some ⟨q, [], stOK⟩ ∧ t.mem = u.mem) ∧
    (∀ (s : State) (c : Nat),
      s.get (DMAC.STATE (c % 8)) ≠ 2 →
      exec (.dmaDescDone c) s = .next s) ∧
    (∀ (s : State) (c : Nat),
      c < 8 → s.get (DMAC.STATE c) = 2 → (s.dmaMove c (s.dma c).len 65536).1 = true →
        bitOf ((s.dmaMove c (s.dma c).len 65536).2.dma c).ctl 29 = false → bitOf (s.dma c).ctl 31 = true →
        bitOf ((s.dmaMove c (s.dma c).len 65536).2.dma c).ctl 31 = true →
      let r : State := (s.dmaMove c (s.dma c).len 65536).2;
      exec (.dmaDescDone c) s = .next ((((r.dmaBack c true 0 0).count (DMAC.DESC_CNT c)).dmaEnd c 0 0 true).dmaPick 16)) ∧
    (∀ (s : State) (c : Nat),
      c < 8 → s.get (DMAC.STATE c) = 2 → (s.dmaMove c (s.dma c).len 65536).1 = false →
      exec (.dmaDescDone c) s = .next ((s.dmaMove c (s.dma c).len 65536).2.dmaPick 16)) ∧
    (∀ (s : State) (c : Nat),
      c < 8 → s.get (DMAC.STATE c) = 3 → dmaHi (s.dma c) ≤ s.capFill ((s.dma c).ctl % 16 - 1) →
      exec (.dmaPaceResume c) s = .next ((s.set (DMAC.STATE c) 1).dmaPick 16)) ∧
    (∀ (s : State) (c : Nat),
      c < 8 → s.get (DMAC.STATE c) ≠ 3 ∨ s.capFill ((s.dma c).ctl % 16 - 1) < dmaHi (s.dma c) →
      exec (.dmaPaceResume c) s = .next s) ∧
    (∀ (s : State) (q : Cls) (c : Nat),
      c < 8 → s.triggered q (DMAC.ABORT c) = true → (s.ripe q (DMAC.ABORT c)).get (DMAC.STATE c) = 0 →
      exec (.dmaAbort q c) s = .next (s.lands q (DMAC.ABORT c) [] [fun u => u])) ∧
    (∀ (s : State) (q : Cls) (c : Nat),
      c < 8 → s.triggered q (DMAC.ABORT c) = true →
        (s.ripe q (DMAC.ABORT c)).get (DMAC.STATE c) = 1 ∨ (s.ripe q (DMAC.ABORT c)).get (DMAC.STATE c) = 3 ∨ ((s.ripe q (DMAC.ABORT c)).get (DMAC.STATE c) = 2 ∧
        ((s.ripe q (DMAC.ABORT c)).dma c).ctl % 16 ≠ 0) →
      exec (.dmaAbort q c) s = .next (s.lands q (DMAC.ABORT c) []
      [fun u => (u.dmaEnd c 1 (if (u.dma c).loaded then (u.dma c).dst + (u.dma c).moved else 0) false).dmaPick 16])) ∧
    (∀ (s : State) (q : Cls) (c : Nat),
      c < 8 → s.triggered q (DMAC.ABORT c) = true → (s.ripe q (DMAC.ABORT c)).get (DMAC.STATE c) = 2 →
        ((s.ripe q (DMAC.ABORT c)).dma c).ctl % 16 = 0 →
      exec (.dmaAbort q c) s = .next (s.lands q (DMAC.ABORT c) []
      [fun u => let r := u.freeNat.2.dmaMove c (min (u.dma c).len ((u.dma c).moved + (1 + u.freeNat.1 % ((u.dma c).len / 256 + 1)) * 256)) 65536;
                (if r.1 then r.2.dmaEnd c 1 ((r.2.dma c).dst + (r.2.dma c).moved) false else r.2).dmaPick 16])) ∧
    (∀ (s : State) (c o : Nat) (w : Bool),
      c < 8 → s.get (DMAC.STATE c) = 2 → (s.dma c).moved = 0 → (s.dma c).len ≤ 256 → 4 ≤ (s.dma c).len →
        o < (s.dma c).len → o % 4 = 0 → (s.dma c).len % 4 = 0 →
      exec (.targetTimeout c o w) s = .next ((s.dmaEnd c 3 ((if w then (s.dma c).dst else (s.dma c).src) + o) false).dmaPick 16)) ∧
    (∀ (s : State) (c o : Nat) (w : Bool),
      s.get (DMAC.STATE (c % 8)) ≠ 2 →
      exec (.targetTimeout c o w) s = .next s)

/-- Where core c executes the instruction at its PC, each ALU operation leaves its exact result modulo 2^56 in its
accumulator, with ZF and NF of that result and AW set where the exact value differs; CMP and CMPR change flags only,
MAX and MIN no flag, NORM writes the count of sign bits to its register, and a class 0 word multiplies, adds or
subtracts exactly with AW likewise, both multiplications of a word or a load by an address register with its step.
No other register changes, PC goes on, and no field but INSTR_CNT and STATE changes. -/
def Obligations.CloveArithmetic : Prop :=
  (∀ (s t : State) (c : Nat) (a b : Nat),
      s.fetches c (.alu 0 a b 0 ⟨none, none, none⟩) t = true → (t.core c).acc.length = 4 → a < 4 →
      ∃ u : State, exec (.tfr c a b ⟨none, none, none⟩) s = .next u ∧ (u.core c).acc.getD a 0 = (t.core c).accV.getD b 0 ∧
        (2, 8 + a, (t.core c).accV.getD b 0) ∈ (u.core c).flight ∧
        bitOf (u.core c).sr srZF = decide ((t.core c).accV.getD b 0 = 0) ∧
        bitOf (u.core c).sr srNF = bitOf ((t.core c).accV.getD b 0) 55 ∧ (u.core c).sr / 16 = (t.core c).sr / 16 ∧
        bitOf (u.core c).sr srAW = bitOf (t.core c).sr srAW ∧
      u.cores.length = 8 ∧ ((t.core c).quiet = true → (t.core c).steps [8 + a, 39] (u.core c) = true) ∧ u.mem = t.mem ∧
        SameRegs (coreKeys c) t u) ∧
    (∀ (s t : State) (c : Nat) (a b : Nat),
      s.fetches c (.alu 1 a b 0 ⟨none, none, none⟩) t = true → (t.core c).acc.length = 4 → a < 4 →
      ∃ u : State, exec (.add c a b ⟨none, none, none⟩) s = .next u ∧
        (u.core c).acc.getD a 0 = ofSigned 56 (toSigned 56 ((t.core c).accV.getD a 0) + toSigned 56 ((t.core c).accV.getD b 0)) ∧
        (2, 8 + a, ofSigned 56 (toSigned 56 ((t.core c).accV.getD a 0) + toSigned 56 ((t.core c).accV.getD b 0))) ∈ (u.core c).flight ∧
        bitOf (u.core c).sr srZF = decide (ofSigned 56 (toSigned 56 ((t.core c).accV.getD a 0) + toSigned 56 ((t.core c).accV.getD b 0)) = 0) ∧
        bitOf (u.core c).sr srNF = bitOf (ofSigned 56 (toSigned 56 ((t.core c).accV.getD a 0) + toSigned 56 ((t.core c).accV.getD b 0))) 55 ∧
        (u.core c).sr / 16 = (t.core c).sr / 16 ∧
        bitOf (u.core c).sr srAW = (bitOf (t.core c).sr srAW || decide (toSigned 56 (ofSigned 56 (toSigned 56 ((t.core c).accV.getD a 0) + toSigned 56 ((t.core c).accV.getD b 0))) ≠ toSigned 56 ((t.core c).accV.getD a 0) + toSigned 56 ((t.core c).accV.getD b 0))) ∧
      u.cores.length = 8 ∧ ((t.core c).quiet = true → (t.core c).steps [8 + a, 39] (u.core c) = true) ∧ u.mem = t.mem ∧
        SameRegs (coreKeys c) t u) ∧
    (∀ (s t : State) (c : Nat) (a b : Nat),
      s.fetches c (.alu 2 a b 0 ⟨none, none, none⟩) t = true → (t.core c).acc.length = 4 → a < 4 →
      ∃ u : State, exec (.sub c a b ⟨none, none, none⟩) s = .next u ∧
        (u.core c).acc.getD a 0 = ofSigned 56 (toSigned 56 ((t.core c).accV.getD a 0) - toSigned 56 ((t.core c).accV.getD b 0)) ∧
        (2, 8 + a, ofSigned 56 (toSigned 56 ((t.core c).accV.getD a 0) - toSigned 56 ((t.core c).accV.getD b 0))) ∈ (u.core c).flight ∧
        bitOf (u.core c).sr srZF = decide (ofSigned 56 (toSigned 56 ((t.core c).accV.getD a 0) - toSigned 56 ((t.core c).accV.getD b 0)) = 0) ∧
        bitOf (u.core c).sr srNF = bitOf (ofSigned 56 (toSigned 56 ((t.core c).accV.getD a 0) - toSigned 56 ((t.core c).accV.getD b 0))) 55 ∧
        (u.core c).sr / 16 = (t.core c).sr / 16 ∧
        bitOf (u.core c).sr srAW = (bitOf (t.core c).sr srAW || decide (toSigned 56 (ofSigned 56 (toSigned 56 ((t.core c).accV.getD a 0) - toSigned 56 ((t.core c).accV.getD b 0))) ≠ toSigned 56 ((t.core c).accV.getD a 0) - toSigned 56 ((t.core c).accV.getD b 0))) ∧
      u.cores.length = 8 ∧ ((t.core c).quiet = true → (t.core c).steps [8 + a, 39] (u.core c) = true) ∧ u.mem = t.mem ∧
        SameRegs (coreKeys c) t u) ∧
    (∀ (s t : State) (c : Nat) (a b : Nat),
      s.fetches c (.alu 3 a b 0 ⟨none, none, none⟩) t = true → (t.core c).acc.length = 4 → a < 4 →
      ∃ u : State, exec (.neg c a b ⟨none, none, none⟩) s = .next u ∧
        (u.core c).acc.getD a 0 = ofSigned 56 (-toSigned 56 ((t.core c).accV.getD b 0)) ∧
        (2, 8 + a, ofSigned 56 (-toSigned 56 ((t.core c).accV.getD b 0))) ∈ (u.core c).flight ∧
        bitOf (u.core c).sr srZF = decide (ofSigned 56 (-toSigned 56 ((t.core c).accV.getD b 0)) = 0) ∧
        bitOf (u.core c).sr srNF = bitOf (ofSigned 56 (-toSigned 56 ((t.core c).accV.getD b 0))) 55 ∧
        (u.core c).sr / 16 = (t.core c).sr / 16 ∧
        bitOf (u.core c).sr srAW = (bitOf (t.core c).sr srAW || decide (toSigned 56 (ofSigned 56 (-toSigned 56 ((t.core c).accV.getD b 0))) ≠ -toSigned 56 ((t.core c).accV.getD b 0))) ∧
      u.cores.length = 8 ∧ ((t.core c).quiet = true → (t.core c).steps [8 + a, 39] (u.core c) = true) ∧ u.mem = t.mem ∧
        SameRegs (coreKeys c) t u) ∧
    (∀ (s t : State) (c : Nat) (a b : Nat),
      s.fetches c (.alu 4 a b 0 ⟨none, none, none⟩) t = true → (t.core c).acc.length = 4 → a < 4 →
      ∃ u : State, exec (.abs c a b ⟨none, none, none⟩) s = .next u ∧
        (u.core c).acc.getD a 0 = ofSigned 56 ((toSigned 56 ((t.core c).accV.getD b 0)).natAbs) ∧
        (2, 8 + a, ofSigned 56 ((toSigned 56 ((t.core c).accV.getD b 0)).natAbs)) ∈ (u.core c).flight ∧
        bitOf (u.core c).sr srZF = decide (ofSigned 56 ((toSigned 56 ((t.core c).accV.getD b 0)).natAbs) = 0) ∧
        bitOf (u.core c).sr srNF = bitOf (ofSigned 56 ((toSigned 56 ((t.core c).accV.getD b 0)).natAbs)) 55 ∧
        (u.core c).sr / 16 = (t.core c).sr / 16 ∧
        bitOf (u.core c).sr srAW = (bitOf (t.core c).sr srAW || decide (toSigned 56 (ofSigned 56 ((toSigned 56 ((t.core c).accV.getD b 0)).natAbs)) ≠ ((toSigned 56 ((t.core c).accV.getD b 0)).natAbs : Int))) ∧
      u.cores.length = 8 ∧ ((t.core c).quiet = true → (t.core c).steps [8 + a, 39] (u.core c) = true) ∧ u.mem = t.mem ∧
        SameRegs (coreKeys c) t u) ∧
    (∀ (s t : State) (c : Nat) (a : Nat),
      s.fetches c (.alu 5 a 0 0 ⟨none, none, none⟩) t = true → (t.core c).acc.length = 4 → a < 4 →
      ∃ u : State, exec (.clr c a ⟨none, none, none⟩) s = .next u ∧ (u.core c).acc.getD a 0 = 0 ∧
        (2, 8 + a, 0) ∈ (u.core c).flight ∧ bitOf (u.core c).sr srZF = decide (0 = 0) ∧
        bitOf (u.core c).sr srNF = bitOf (0) 55 ∧ (u.core c).sr / 16 = (t.core c).sr / 16 ∧
        bitOf (u.core c).sr srAW = bitOf (t.core c).sr srAW ∧
      u.cores.length = 8 ∧ ((t.core c).quiet = true → (t.core c).steps [8 + a, 39] (u.core c) = true) ∧ u.mem = t.mem ∧
        SameRegs (coreKeys c) t u) ∧
    (∀ (s t : State) (c : Nat) (a : Nat),
      s.fetches c (.alu 6 a 0 0 ⟨none, none, none⟩) t = true → (t.core c).acc.length = 4 → a < 4 →
      ∃ u : State, exec (.rnd c a ⟨none, none, none⟩) s = .next u ∧
        (u.core c).acc.getD a 0 = ofSigned 56 (divConv (toSigned 56 ((t.core c).accV.getD a 0)) (2 ^ 24) * 2 ^ 24) ∧
        (2, 8 + a, ofSigned 56 (divConv (toSigned 56 ((t.core c).accV.getD a 0)) (2 ^ 24) * 2 ^ 24)) ∈ (u.core c).flight ∧
        bitOf (u.core c).sr srZF = decide (ofSigned 56 (divConv (toSigned 56 ((t.core c).accV.getD a 0)) (2 ^ 24) * 2 ^ 24) = 0) ∧
        bitOf (u.core c).sr srNF = bitOf (ofSigned 56 (divConv (toSigned 56 ((t.core c).accV.getD a 0)) (2 ^ 24) * 2 ^ 24)) 55 ∧
        (u.core c).sr / 16 = (t.core c).sr / 16 ∧
        bitOf (u.core c).sr srAW = (bitOf (t.core c).sr srAW || decide (toSigned 56 (ofSigned 56 (divConv (toSigned 56 ((t.core c).accV.getD a 0)) (2 ^ 24) * 2 ^ 24)) ≠ divConv (toSigned 56 ((t.core c).accV.getD a 0)) (2 ^ 24) * 2 ^ 24)) ∧
      u.cores.length = 8 ∧ ((t.core c).quiet = true → (t.core c).steps [8 + a, 39] (u.core c) = true) ∧ u.mem = t.mem ∧
        SameRegs (coreKeys c) t u) ∧
    (∀ (s t : State) (c : Nat) (a : Nat),
      s.fetches c (.alu 7 a 0 0 ⟨none, none, none⟩) t = true → (t.core c).acc.length = 4 → a < 4 →
      ∃ u : State, exec (.sat c a ⟨none, none, none⟩) s = .next u ∧
        (u.core c).acc.getD a 0 = ofSigned 56 (max (-(2 ^ 47)) (min (2 ^ 47 - 1) (toSigned 56 ((t.core c).accV.getD a 0)))) ∧ (2, 8 + a, ofSigned 56 (max (-(2 ^ 47)) (min (2 ^ 47 - 1) (toSigned 56 ((t.core c).accV.getD a 0))))) ∈ (u.core c).flight ∧
        bitOf (u.core c).sr srZF = decide (ofSigned 56 (max (-(2 ^ 47)) (min (2 ^ 47 - 1) (toSigned 56 ((t.core c).accV.getD a 0)))) = 0) ∧
        bitOf (u.core c).sr srNF = bitOf (ofSigned 56 (max (-(2 ^ 47)) (min (2 ^ 47 - 1) (toSigned 56 ((t.core c).accV.getD a 0))))) 55 ∧
        (u.core c).sr / 16 = (t.core c).sr / 16 ∧ bitOf (u.core c).sr srAW = bitOf (t.core c).sr srAW ∧
      u.cores.length = 8 ∧ ((t.core c).quiet = true → (t.core c).steps [8 + a, 39] (u.core c) = true) ∧ u.mem = t.mem ∧
        SameRegs (coreKeys c) t u) ∧
    (∀ (s t : State) (c : Nat) (a n : Nat),
      s.fetches c (.alu 8 a 0 n ⟨none, none, none⟩) t = true → (t.core c).acc.length = 4 → a < 4 → n ≤ 55 →
      ∃ u : State, exec (.asl c a n ⟨none, none, none⟩) s = .next u ∧
        (u.core c).acc.getD a 0 = ofSigned 56 (toSigned 56 ((t.core c).accV.getD a 0) * 2 ^ n) ∧
        (2, 8 + a, ofSigned 56 (toSigned 56 ((t.core c).accV.getD a 0) * 2 ^ n)) ∈ (u.core c).flight ∧
        bitOf (u.core c).sr srZF = decide (ofSigned 56 (toSigned 56 ((t.core c).accV.getD a 0) * 2 ^ n) = 0) ∧
        bitOf (u.core c).sr srNF = bitOf (ofSigned 56 (toSigned 56 ((t.core c).accV.getD a 0) * 2 ^ n)) 55 ∧
        (u.core c).sr / 16 = (t.core c).sr / 16 ∧
        bitOf (u.core c).sr srAW = (bitOf (t.core c).sr srAW || decide (toSigned 56 (ofSigned 56 (toSigned 56 ((t.core c).accV.getD a 0) * 2 ^ n)) ≠ toSigned 56 ((t.core c).accV.getD a 0) * 2 ^ n)) ∧
      u.cores.length = 8 ∧ ((t.core c).quiet = true → (t.core c).steps [8 + a, 39] (u.core c) = true) ∧ u.mem = t.mem ∧
        SameRegs (coreKeys c) t u) ∧
    (∀ (s t : State) (c : Nat) (a n : Nat),
      s.fetches c (.alu 9 a 0 n ⟨none, none, none⟩) t = true → (t.core c).acc.length = 4 → a < 4 → n ≤ 55 →
      ∃ u : State, exec (.asr c a n ⟨none, none, none⟩) s = .next u ∧
        (u.core c).acc.getD a 0 = ofSigned 56 (toSigned 56 ((t.core c).accV.getD a 0) / 2 ^ n) ∧
        (2, 8 + a, ofSigned 56 (toSigned 56 ((t.core c).accV.getD a 0) / 2 ^ n)) ∈ (u.core c).flight ∧
        bitOf (u.core c).sr srZF = decide (ofSigned 56 (toSigned 56 ((t.core c).accV.getD a 0) / 2 ^ n) = 0) ∧
        bitOf (u.core c).sr srNF = bitOf (ofSigned 56 (toSigned 56 ((t.core c).accV.getD a 0) / 2 ^ n)) 55 ∧
        (u.core c).sr / 16 = (t.core c).sr / 16 ∧ bitOf (u.core c).sr srAW = bitOf (t.core c).sr srAW ∧
      u.cores.length = 8 ∧ ((t.core c).quiet = true → (t.core c).steps [8 + a, 39] (u.core c) = true) ∧ u.mem = t.mem ∧
        SameRegs (coreKeys c) t u) ∧
    (∀ (s t : State) (c : Nat) (a r : Nat),
      s.fetches c (.alu 10 a 0 r ⟨none, none, none⟩) t = true → (t.core c).acc.length = 4 → a < 4 →
      ∃ u : State, exec (.addr c a r ⟨none, none, none⟩) s = .next u ∧
        (u.core c).acc.getD a 0 = ofSigned 56 (toSigned 56 ((t.core c).accV.getD a 0) + toSigned 56 (place ((t.core c).read r).1)) ∧
        (2, 8 + a, ofSigned 56 (toSigned 56 ((t.core c).accV.getD a 0) + toSigned 56 (place ((t.core c).read r).1))) ∈ (u.core c).flight ∧
        bitOf (u.core c).sr srZF = decide (ofSigned 56 (toSigned 56 ((t.core c).accV.getD a 0) + toSigned 56 (place ((t.core c).read r).1)) = 0) ∧
        bitOf (u.core c).sr srNF = bitOf (ofSigned 56 (toSigned 56 ((t.core c).accV.getD a 0) + toSigned 56 (place ((t.core c).read r).1))) 55 ∧
        (u.core c).sr / 16 = (t.core c).sr / 16 ∧
        bitOf (u.core c).sr srAW = (bitOf (t.core c).sr srAW || decide (toSigned 56 (ofSigned 56 (toSigned 56 ((t.core c).accV.getD a 0) + toSigned 56 (place ((t.core c).read r).1))) ≠ toSigned 56 ((t.core c).accV.getD a 0) + toSigned 56 (place ((t.core c).read r).1))) ∧
      u.cores.length = 8 ∧ ((t.core c).quiet = true → (t.core c).steps [8 + a, 39] (u.core c) = true) ∧ u.mem = t.mem ∧
        SameRegs (coreKeys c) t u) ∧
    (∀ (s t : State) (c : Nat) (a r : Nat),
      s.fetches c (.alu 11 a 0 r ⟨none, none, none⟩) t = true → (t.core c).acc.length = 4 → a < 4 →
      ∃ u : State, exec (.subr c a r ⟨none, none, none⟩) s = .next u ∧
        (u.core c).acc.getD a 0 = ofSigned 56 (toSigned 56 ((t.core c).accV.getD a 0) - toSigned 56 (place ((t.core c).read r).1)) ∧
        (2, 8 + a, ofSigned 56 (toSigned 56 ((t.core c).accV.getD a 0) - toSigned 56 (place ((t.core c).read r).1))) ∈ (u.core c).flight ∧
        bitOf (u.core c).sr srZF = decide (ofSigned 56 (toSigned 56 ((t.core c).accV.getD a 0) - toSigned 56 (place ((t.core c).read r).1)) = 0) ∧
        bitOf (u.core c).sr srNF = bitOf (ofSigned 56 (toSigned 56 ((t.core c).accV.getD a 0) - toSigned 56 (place ((t.core c).read r).1))) 55 ∧
        (u.core c).sr / 16 = (t.core c).sr / 16 ∧
        bitOf (u.core c).sr srAW = (bitOf (t.core c).sr srAW || decide (toSigned 56 (ofSigned 56 (toSigned 56 ((t.core c).accV.getD a 0) - toSigned 56 (place ((t.core c).read r).1))) ≠ toSigned 56 ((t.core c).accV.getD a 0) - toSigned 56 (place ((t.core c).read r).1))) ∧
      u.cores.length = 8 ∧ ((t.core c).quiet = true → (t.core c).steps [8 + a, 39] (u.core c) = true) ∧ u.mem = t.mem ∧
        SameRegs (coreKeys c) t u) ∧
    (∀ (s t : State) (c : Nat) (a b : Nat),
      s.fetches c (.alu 12 a b 0 ⟨none, none, none⟩) t = true → (t.core c).acc.length = 4 →
      ∃ u : State, exec (.cmp c a b ⟨none, none, none⟩) s = .next u ∧
        bitOf (u.core c).sr srZF = decide (ofSigned 56 (toSigned 56 ((t.core c).accV.getD a 0) - toSigned 56 ((t.core c).accV.getD b 0)) = 0) ∧
        bitOf (u.core c).sr srNF = bitOf (ofSigned 56 (toSigned 56 ((t.core c).accV.getD a 0) - toSigned 56 ((t.core c).accV.getD b 0))) 55 ∧
        (u.core c).sr / 16 = (t.core c).sr / 16 ∧
        bitOf (u.core c).sr srAW = (bitOf (t.core c).sr srAW || decide (toSigned 56 (ofSigned 56 (toSigned 56 ((t.core c).accV.getD a 0) - toSigned 56 ((t.core c).accV.getD b 0))) ≠ toSigned 56 ((t.core c).accV.getD a 0) - toSigned 56 ((t.core c).accV.getD b 0))) ∧
      u.cores.length = 8 ∧ ((t.core c).quiet = true → (t.core c).steps [39] (u.core c) = true) ∧ u.mem = t.mem ∧
        SameRegs (coreKeys c) t u) ∧
    (∀ (s t : State) (c : Nat) (a r : Nat),
      s.fetches c (.alu 13 a 0 r ⟨none, none, none⟩) t = true → (t.core c).acc.length = 4 →
      ∃ u : State, exec (.cmpr c a r ⟨none, none, none⟩) s = .next u ∧
        bitOf (u.core c).sr srZF = decide (ofSigned 56 (toSigned 56 ((t.core c).accV.getD a 0) - toSigned 56 (place ((t.core c).read r).1)) = 0) ∧
        bitOf (u.core c).sr srNF = bitOf (ofSigned 56 (toSigned 56 ((t.core c).accV.getD a 0) - toSigned 56 (place ((t.core c).read r).1))) 55 ∧
        (u.core c).sr / 16 = (t.core c).sr / 16 ∧
        bitOf (u.core c).sr srAW = (bitOf (t.core c).sr srAW || decide (toSigned 56 (ofSigned 56 (toSigned 56 ((t.core c).accV.getD a 0) - toSigned 56 (place ((t.core c).read r).1))) ≠ toSigned 56 ((t.core c).accV.getD a 0) - toSigned 56 (place ((t.core c).read r).1))) ∧
      u.cores.length = 8 ∧ ((t.core c).quiet = true → (t.core c).steps [39] (u.core c) = true) ∧ u.mem = t.mem ∧
        SameRegs (coreKeys c) t u) ∧
    (∀ (s t : State) (c : Nat) (a r : Nat),
      s.fetches c (.alu 14 a 0 r ⟨none, none, none⟩) t = true → (t.core c).acc.length = 4 → a < 4 →
      ∃ u : State, exec (.and c a r ⟨none, none, none⟩) s = .next u ∧
        (u.core c).acc.getD a 0 = (putBits ((t.core c).accV.getD a 0) 24 24 (bits ((t.core c).accV.getD a 0) 24 24 &&& ((t.core c).read r).1)) ∧
        (2, 8 + a, (putBits ((t.core c).accV.getD a 0) 24 24 (bits ((t.core c).accV.getD a 0) 24 24 &&& ((t.core c).read r).1))) ∈ (u.core c).flight ∧
        bitOf (u.core c).sr srZF = decide ((putBits ((t.core c).accV.getD a 0) 24 24 (bits ((t.core c).accV.getD a 0) 24 24 &&& ((t.core c).read r).1)) = 0) ∧
        bitOf (u.core c).sr srNF = bitOf ((putBits ((t.core c).accV.getD a 0) 24 24 (bits ((t.core c).accV.getD a 0) 24 24 &&& ((t.core c).read r).1))) 55 ∧
        (u.core c).sr / 16 = (t.core c).sr / 16 ∧ bitOf (u.core c).sr srAW = bitOf (t.core c).sr srAW ∧
      u.cores.length = 8 ∧ ((t.core c).quiet = true → (t.core c).steps [8 + a, 39] (u.core c) = true) ∧ u.mem = t.mem ∧
        SameRegs (coreKeys c) t u) ∧
    (∀ (s t : State) (c : Nat) (a r : Nat),
      s.fetches c (.alu 15 a 0 r ⟨none, none, none⟩) t = true → (t.core c).acc.length = 4 → a < 4 →
      ∃ u : State, exec (.or c a r ⟨none, none, none⟩) s = .next u ∧
        (u.core c).acc.getD a 0 = (putBits ((t.core c).accV.getD a 0) 24 24 (bits ((t.core c).accV.getD a 0) 24 24 ||| ((t.core c).read r).1)) ∧
        (2, 8 + a, (putBits ((t.core c).accV.getD a 0) 24 24 (bits ((t.core c).accV.getD a 0) 24 24 ||| ((t.core c).read r).1))) ∈ (u.core c).flight ∧
        bitOf (u.core c).sr srZF = decide ((putBits ((t.core c).accV.getD a 0) 24 24 (bits ((t.core c).accV.getD a 0) 24 24 ||| ((t.core c).read r).1)) = 0) ∧
        bitOf (u.core c).sr srNF = bitOf ((putBits ((t.core c).accV.getD a 0) 24 24 (bits ((t.core c).accV.getD a 0) 24 24 ||| ((t.core c).read r).1))) 55 ∧
        (u.core c).sr / 16 = (t.core c).sr / 16 ∧ bitOf (u.core c).sr srAW = bitOf (t.core c).sr srAW ∧
      u.cores.length = 8 ∧ ((t.core c).quiet = true → (t.core c).steps [8 + a, 39] (u.core c) = true) ∧ u.mem = t.mem ∧
        SameRegs (coreKeys c) t u) ∧
    (∀ (s t : State) (c : Nat) (a r : Nat),
      s.fetches c (.alu 16 a 0 r ⟨none, none, none⟩) t = true → (t.core c).acc.length = 4 → a < 4 →
      ∃ u : State, exec (.xor c a r ⟨none, none, none⟩) s = .next u ∧
        (u.core c).acc.getD a 0 = (putBits ((t.core c).accV.getD a 0) 24 24 (bits ((t.core c).accV.getD a 0) 24 24 ^^^ ((t.core c).read r).1)) ∧
        (2, 8 + a, (putBits ((t.core c).accV.getD a 0) 24 24 (bits ((t.core c).accV.getD a 0) 24 24 ^^^ ((t.core c).read r).1))) ∈ (u.core c).flight ∧
        bitOf (u.core c).sr srZF = decide ((putBits ((t.core c).accV.getD a 0) 24 24 (bits ((t.core c).accV.getD a 0) 24 24 ^^^ ((t.core c).read r).1)) = 0) ∧
        bitOf (u.core c).sr srNF = bitOf ((putBits ((t.core c).accV.getD a 0) 24 24 (bits ((t.core c).accV.getD a 0) 24 24 ^^^ ((t.core c).read r).1))) 55 ∧
        (u.core c).sr / 16 = (t.core c).sr / 16 ∧ bitOf (u.core c).sr srAW = bitOf (t.core c).sr srAW ∧
      u.cores.length = 8 ∧ ((t.core c).quiet = true → (t.core c).steps [8 + a, 39] (u.core c) = true) ∧ u.mem = t.mem ∧
        SameRegs (coreKeys c) t u) ∧
    (∀ (s t : State) (c : Nat) (a b : Nat),
      s.fetches c (.alu 17 a b 0 ⟨none, none, none⟩) t = true → (t.core c).acc.length = 4 → a < 4 →
      ∃ u : State, exec (.max c a b ⟨none, none, none⟩) s = .next u ∧
        (u.core c).acc.getD a 0 = (if toSigned 56 ((t.core c).accV.getD a 0) < toSigned 56 ((t.core c).accV.getD b 0) then (t.core c).accV.getD b 0 else (t.core c).accV.getD a 0) ∧
        (2, 8 + a, (if toSigned 56 ((t.core c).accV.getD a 0) < toSigned 56 ((t.core c).accV.getD b 0) then (t.core c).accV.getD b 0 else (t.core c).accV.getD a 0)) ∈ (u.core c).flight ∧
      u.cores.length = 8 ∧ ((t.core c).quiet = true → (t.core c).steps [8 + a] (u.core c) = true) ∧ u.mem = t.mem ∧
        SameRegs (coreKeys c) t u) ∧
    (∀ (s t : State) (c : Nat) (a b : Nat),
      s.fetches c (.alu 18 a b 0 ⟨none, none, none⟩) t = true → (t.core c).acc.length = 4 → a < 4 →
      ∃ u : State, exec (.min c a b ⟨none, none, none⟩) s = .next u ∧
        (u.core c).acc.getD a 0 = (if toSigned 56 ((t.core c).accV.getD b 0) < toSigned 56 ((t.core c).accV.getD a 0) then (t.core c).accV.getD b 0 else (t.core c).accV.getD a 0) ∧
        (2, 8 + a, (if toSigned 56 ((t.core c).accV.getD b 0) < toSigned 56 ((t.core c).accV.getD a 0) then (t.core c).accV.getD b 0 else (t.core c).accV.getD a 0)) ∈ (u.core c).flight ∧
      u.cores.length = 8 ∧ ((t.core c).quiet = true → (t.core c).steps [8 + a] (u.core c) = true) ∧ u.mem = t.mem ∧
        SameRegs (coreKeys c) t u) ∧
    (∀ (s t : State) (c : Nat) (a r : Nat),
      s.fetches c (.alu 19 a 0 r ⟨none, none, none⟩) t = true → (t.core c).acc.length = 4 → (t.core c).i.length = 8 →
        (t.core c).m.length = 8 → (t.core c).k.length = 8 → (t.core c).x.length = 4 → (t.core c).y.length = 4 → r < 42 →
      ∃ u : State, exec (.norm c a r ⟨none, none, none⟩) s = .next u ∧ ((t.core c).quiet = true →
        (u.core c).reg r = regValue r (signBits ((t.core c).accV.getD a 0))) ∧
      u.cores.length = 8 ∧ ((t.core c).quiet = true → (t.core c).steps [r] (u.core c) = true) ∧ u.mem = t.mem ∧
        SameRegs (coreKeys c) t u) ∧
    (∀ (s t : State) (c : Nat) (m : MacF),
      s.fetches c (.par (some m) none ⟨none, none, none⟩) t = true → (t.core c).acc.length = 4 → m.a < 4 → m.op = 1 →
      ∃ u : State, exec (.parallelDsp c (some m) none ⟨none, none, none⟩) s = .next u ∧
        (u.core c).acc.getD m.a 0 = ofSigned 56 (toSigned 24 ((t.core c).x.getD m.x 0) * toSigned 24 ((t.core c).y.getD m.y 0) * 2) ∧
        (2, 8 + m.a, ofSigned 56 (toSigned 24 ((t.core c).x.getD m.x 0) * toSigned 24 ((t.core c).y.getD m.y 0) * 2)) ∈ (u.core c).flight ∧
        bitOf (u.core c).sr srAW = (bitOf (t.core c).sr srAW || decide (toSigned 56 (ofSigned 56 (toSigned 24 ((t.core c).x.getD m.x 0) * toSigned 24 ((t.core c).y.getD m.y 0) * 2)) ≠ toSigned 24 ((t.core c).x.getD m.x 0) * toSigned 24 ((t.core c).y.getD m.y 0) * 2)) ∧
        (u.core c).sr / 8 = (t.core c).sr / 8 ∧ (u.core c).sr % 4 = (t.core c).sr % 4 ∧
      u.cores.length = 8 ∧ ((t.core c).quiet = true → (t.core c).steps [8 + m.a, 39] (u.core c) = true) ∧ u.mem = t.mem ∧
        SameRegs (coreKeys c) t u) ∧
    (∀ (s t : State) (c : Nat) (m : MacF),
      s.fetches c (.par (some m) none ⟨none, none, none⟩) t = true → (t.core c).acc.length = 4 → m.a < 4 → m.op = 2 →
      ∃ u : State, exec (.parallelDsp c (some m) none ⟨none, none, none⟩) s = .next u ∧
        (u.core c).acc.getD m.a 0 = ofSigned 56 (toSigned 56 ((t.core c).acc.getD m.a 0) + toSigned 24 ((t.core c).x.getD m.x 0) * toSigned 24 ((t.core c).y.getD m.y 0) * 2) ∧
        (2, 8 + m.a, ofSigned 56 (toSigned 56 ((t.core c).acc.getD m.a 0) + toSigned 24 ((t.core c).x.getD m.x 0) * toSigned 24 ((t.core c).y.getD m.y 0) * 2)) ∈ (u.core c).flight ∧
        bitOf (u.core c).sr srAW = (bitOf (t.core c).sr srAW || decide (toSigned 56 (ofSigned 56 (toSigned 56 ((t.core c).acc.getD m.a 0) + toSigned 24 ((t.core c).x.getD m.x 0) * toSigned 24 ((t.core c).y.getD m.y 0) * 2)) ≠ toSigned 56 ((t.core c).acc.getD m.a 0) + toSigned 24 ((t.core c).x.getD m.x 0) * toSigned 24 ((t.core c).y.getD m.y 0) * 2)) ∧
        (u.core c).sr / 8 = (t.core c).sr / 8 ∧ (u.core c).sr % 4 = (t.core c).sr % 4 ∧
      u.cores.length = 8 ∧ ((t.core c).quiet = true → (t.core c).steps [8 + m.a, 39] (u.core c) = true) ∧ u.mem = t.mem ∧
        SameRegs (coreKeys c) t u) ∧
    (∀ (s t : State) (c : Nat) (m : MacF),
      s.fetches c (.par (some m) none ⟨none, none, none⟩) t = true → (t.core c).acc.length = 4 → m.a < 4 → m.op = 3 →
      ∃ u : State, exec (.parallelDsp c (some m) none ⟨none, none, none⟩) s = .next u ∧
        (u.core c).acc.getD m.a 0 = ofSigned 56 (toSigned 56 ((t.core c).acc.getD m.a 0) - toSigned 24 ((t.core c).x.getD m.x 0) * toSigned 24 ((t.core c).y.getD m.y 0) * 2) ∧
        (2, 8 + m.a, ofSigned 56 (toSigned 56 ((t.core c).acc.getD m.a 0) - toSigned 24 ((t.core c).x.getD m.x 0) * toSigned 24 ((t.core c).y.getD m.y 0) * 2)) ∈ (u.core c).flight ∧
        bitOf (u.core c).sr srAW = (bitOf (t.core c).sr srAW || decide (toSigned 56 (ofSigned 56 (toSigned 56 ((t.core c).acc.getD m.a 0) - toSigned 24 ((t.core c).x.getD m.x 0) * toSigned 24 ((t.core c).y.getD m.y 0) * 2)) ≠ toSigned 56 ((t.core c).acc.getD m.a 0) - toSigned 24 ((t.core c).x.getD m.x 0) * toSigned 24 ((t.core c).y.getD m.y 0) * 2)) ∧
        (u.core c).sr / 8 = (t.core c).sr / 8 ∧ (u.core c).sr % 4 = (t.core c).sr % 4 ∧
      u.cores.length = 8 ∧ ((t.core c).quiet = true → (t.core c).steps [8 + m.a, 39] (u.core c) = true) ∧ u.mem = t.mem ∧
        SameRegs (coreKeys c) t u) ∧
    (∀ (s t : State) (c : Nat) (m n : MacF),
      s.fetches c (.par (some m) (some n) ⟨none, none, none⟩) t = true → (t.core c).acc.length = 4 → m.a < 4 → n.a < 4 →
        m.a ≠ n.a →
      ∃ u : State, exec (.parallelDsp c (some m) (some n) ⟨none, none, none⟩) s = .next u ∧
        (u.core c).acc.getD m.a 0 = ((t.core c).mac m).1 ∧ (u.core c).acc.getD n.a 0 = ((t.core c).mac n).1 ∧
      u.cores.length = 8 ∧ ((t.core c).quiet = true → (t.core c).steps [8 + m.a, 8 + n.a, 39] (u.core c) = true) ∧
        u.mem = t.mem ∧ SameRegs (coreKeys c) t u) ∧
    (∀ (s t : State) (c : Nat) (r i v : Nat),
      s.fetches c (.par none none ⟨some ⟨false, r, i, 1⟩, none, none⟩) t = true → r < 4 → i < 8 → (t.core c).x.length = 4 →
        (t.core c).i.length = 8 → (t.core c).ig.length = 8 → (t.core c).kg.getD i 0 = 0 →
        (t.set (CLOVE.STATE c) 1).dataRead c false ((t.core c).ig.getD i 0) = (some v, (t.set (CLOVE.STATE c) 1)) →
      ∃ u : State, exec (.parallelDsp c none none ⟨some ⟨false, r, i, 1⟩, none, none⟩) s = .next u ∧
        (u.core c).x.getD r 0 = v % 2 ^ 24 ∧ (u.core c).i.getD i 0 = ((t.core c).ig.getD i 0 + 1) % 2 ^ 24 ∧
        (u.core c).ig.getD i 0 = ((t.core c).ig.getD i 0 + 1) % 2 ^ 24 ∧
      u.cores.length = 8 ∧ ((t.core c).quiet = true → (t.core c).steps [r, 12 + i] (u.core c) = true) ∧ u.mem = t.mem ∧
        SameRegs (coreKeys c) t u)

/-- LI, MOVE and ADDI leave in the register the value that R359 and R363 give it. ASAVE stores the low, middle and
sign-extended high part of an accumulator in three words of X memory and no other byte; ALOAD loads an accumulator
from three words. Each leaves its address register three on, and no other register changes. -/
def Obligations.CloveMoves : Prop :=
  (∀ (s t : State) (c : Nat) (r v : Nat),
      s.fetches c (.li r v) t = true → (t.core c).acc.length = 4 → (t.core c).i.length = 8 → (t.core c).m.length = 8 →
        (t.core c).k.length = 8 → (t.core c).x.length = 4 → (t.core c).y.length = 4 → r < 42 →
      ∃ u : State, exec (.li c r v) s = .next u ∧ ((t.core c).quiet = true → (u.core c).reg r = regValue r v) ∧
      u.cores.length = 8 ∧ ((t.core c).quiet = true → (t.core c).steps [r] (u.core c) = true) ∧ u.mem = t.mem ∧
        SameRegs (coreKeys c) t u) ∧
    (∀ (s t : State) (c : Nat) (d r : Nat),
      s.fetches c (.mvs 0 d r 0) t = true → (t.core c).acc.length = 4 → (t.core c).i.length = 8 → (t.core c).m.length = 8 →
        (t.core c).k.length = 8 → (t.core c).x.length = 4 → (t.core c).y.length = 4 → d < 42 →
      ∃ u : State, exec (.move c d r) s = .next u ∧ ((t.core c).quiet = true →
        (u.core c).reg d = regValue d ((t.core c).read r).1) ∧
      u.cores.length = 8 ∧ ((t.core c).quiet = true → (t.core c).steps [d, 39] (u.core c) = true) ∧ u.mem = t.mem ∧
        SameRegs (coreKeys c) t u) ∧
    (∀ (s t : State) (c : Nat) (d v : Nat),
      s.fetches c (.mvs 1 d 0 v) t = true → (t.core c).acc.length = 4 → (t.core c).i.length = 8 → (t.core c).m.length = 8 →
        (t.core c).k.length = 8 → (t.core c).x.length = 4 → (t.core c).y.length = 4 → 12 ≤ d → d < 36 →
      ∃ u : State, exec (.addi c d v) s = .next u ∧ (u.core c).reg d = ((t.core c).reg d + v) % 2 ^ 24 ∧
      u.cores.length = 8 ∧ ((t.core c).quiet = true → (t.core c).steps [d] (u.core c) = true) ∧ u.mem = t.mem ∧
        SameRegs (coreKeys c) t u) ∧
    (∀ (s t : State) (c : Nat) (d r : Nat),
      s.fetches c (.mvs 2 d r 0) t = true → 12 ≤ d → d < 20 → 8 ≤ r → r < 12 → (t.core c).i.length = 8 →
        (t.core c).ig.length = 8 → (t.core c).kg.getD (d - 12) 0 = 0 → (t.core c).ig.getD (d - 12) 0 + 3 < 0x10000 →
        (t.set (CLOVE.STATE c) 1).isolated (16 + c) = false →
      ∃ u : State, exec (.asave c d r) s = .next u ∧
        u.word (cloveX c + 4 * (t.core c).ig.getD (d - 12) 0) = (t.core c).accV.getD (r - 8) 0 % 2 ^ 24 ∧
        u.word (cloveX c + 4 * (t.core c).ig.getD (d - 12) 0 + 4) = bits ((t.core c).accV.getD (r - 8) 0) 24 24 ∧
        u.word (cloveX c + 4 * (t.core c).ig.getD (d - 12) 0 + 8) = ofSigned 24 (toSigned 8 (bits ((t.core c).accV.getD (r - 8) 0) 48 8)) ∧
        (u.core c).i.getD (d - 12) 0 = (t.core c).ig.getD (d - 12) 0 + 3 ∧
        (∀ a : Nat, (a < cloveX c + 4 * (t.core c).ig.getD (d - 12) 0 ∨ cloveX c + 4 * (t.core c).ig.getD (d - 12) 0 + 12 ≤ a) →
        Memory.read u.mem a = Memory.read t.mem a) ∧
      u.cores.length = 8 ∧ ((t.core c).quiet = true → (t.core c).steps [d] (u.core c) = true) ∧
        SameRegs (coreKeys c ++ [(ECC.HEAL_CNT (16 + c)).key] ++ evKeys 0x118) t u) ∧
    (∀ (s t : State) (c : Nat) (d r v0 v1 v2 : Nat),
      s.fetches c (.mvs 3 d r 0) t = true → 12 ≤ r → r < 20 → 8 ≤ d → d < 12 → (t.core c).i.length = 8 →
        (t.core c).ig.length = 8 → (t.core c).kg.getD (r - 12) 0 = 0 → (t.core c).ig.getD (r - 12) 0 + 3 < 2 ^ 24 →
        (t.set (CLOVE.STATE c) 1).dataRead c false ((t.core c).ig.getD (r - 12) 0 + 0) = (some v0, (t.set (CLOVE.STATE c) 1)) →
        (t.set (CLOVE.STATE c) 1).dataRead c false ((t.core c).ig.getD (r - 12) 0 + 1) = (some v1, (t.set (CLOVE.STATE c) 1)) →
        (t.set (CLOVE.STATE c) 1).dataRead c false ((t.core c).ig.getD (r - 12) 0 + 2) = (some v2, (t.set (CLOVE.STATE c) 1)) →

      ∃ u : State, exec (.aload c d r) s = .next u ∧
        (2, 8 + (d - 8), v0 + v1 * 2 ^ 24 + v2 % 2 ^ 8 * 2 ^ 48) ∈ (u.core c).flight ∧
        (2, 48 + (d - 8), v0 + v1 * 2 ^ 24 + v2 % 2 ^ 8 * 2 ^ 48) ∈ (u.core c).flight ∧
        (u.core c).i.getD (r - 12) 0 = (t.core c).ig.getD (r - 12) 0 + 3 ∧
      u.cores.length = 8 ∧ ((t.core c).quiet = true → (t.core c).steps [r] (u.core c) = true) ∧ u.mem = t.mem ∧
        SameRegs (coreKeys c) t u)

/-- JMP whose condition holds branches after two more instructions, and otherwise goes on. JSR also pushes PC + 3, RTS
returns to the last address pushed; a fifth JSR and an RTS on an empty stack are fault 4. RETI returns to SPC with
SR from SSR. DO sets LC, LS and LE, and with a count of 0 goes on after the body. YIELD and WAIT perform a swap that
is due; otherwise YIELD goes on, and WAIT goes on where a line is pending and waits where none is. HALT stops the
core and raises HALTED, EI sets and DI clears SR.IE, and NOP goes on. A core that does not run executes nothing. -/
def Obligations.CloveControl : Prop :=
  (∀ (s t : State) (c : Nat),
      s.fetches c (.ctl 0 0 false 0 0 0) t = true →
      let u : State := t.set (CLOVE.STATE c) 1;
      exec (.nop c) s = .next (u.coreNext c)) ∧
    (∀ (s t : State) (c : Nat) (n a : Nat),
      s.fetches c (.ctl 1 n false 0 0 a) t = true → (t.core c).cond n = true →
      let u : State := t.set (CLOVE.STATE c) 1;
      exec (.jmp c n a) s = .next ((u.coreNext c).setCore c (fun k => { k with branch := k.branch ++ [(2, a % 2 ^ 15)] }))) ∧
    (∀ (s t : State) (c : Nat) (n a : Nat),
      s.fetches c (.ctl 1 n false 0 0 a) t = true → (t.core c).cond n = false →
      let u : State := t.set (CLOVE.STATE c) 1;
      exec (.jmp c n a) s = .next (u.coreNext c)) ∧
    (∀ (s t : State) (c : Nat) (n a : Nat),
      s.fetches c (.ctl 2 n false 0 0 a) t = true → (t.core c).cond n = true → (t.core c).sd < 4 →
      let u : State := t.set (CLOVE.STATE c) 1;
      exec (.jsr c n a) s = .next ((u.setCore c (fun k => { k with stack := k.stack.set k.sd ((k.pc + 3) % 2 ^ 15) }.setSd (k.sd + 1))).branchTo c a)) ∧
    (∀ (s t : State) (c : Nat) (n a : Nat),
      s.fetches c (.ctl 2 n false 0 0 a) t = true → (t.core c).cond n = true → 4 ≤ (t.core c).sd →
      let u : State := t.set (CLOVE.STATE c) 1;
      exec (.jsr c n a) s = .next (u.coreFault c 4 0)) ∧
    (∀ (s t : State) (c : Nat) (n a : Nat),
      s.fetches c (.ctl 2 n false 0 0 a) t = true → (t.core c).cond n = false →
      let u : State := t.set (CLOVE.STATE c) 1;
      exec (.jsr c n a) s = .next (u.coreNext c)) ∧
    (∀ (s t : State) (c : Nat) (n : Nat),
      s.fetches c (.ctl 3 n false 0 0 0) t = true → (t.core c).cond n = true → 0 < (t.core c).sd → (t.core c).sd ≤ 4 →
      let u : State := t.set (CLOVE.STATE c) 1;
      exec (.rts c n) s = .next ((u.setCore c (fun k => k.setSd (k.sd - 1))).branchTo c ((t.core c).stack.getD ((t.core c).sd - 1) 0))) ∧
    (∀ (s t : State) (c : Nat) (n : Nat),
      s.fetches c (.ctl 3 n false 0 0 0) t = true → (t.core c).cond n = true → (t.core c).sd = 0 →
      let u : State := t.set (CLOVE.STATE c) 1;
      exec (.rts c n) s = .next (u.coreFault c 4 0)) ∧
    (∀ (s t : State) (c : Nat) (n : Nat),
      s.fetches c (.ctl 3 n false 0 0 0) t = true → (t.core c).cond n = false →
      let u : State := t.set (CLOVE.STATE c) 1;
      exec (.rts c n) s = .next (u.coreNext c)) ∧
    (∀ (s t : State) (c : Nat),
      s.fetches c (.ctl 4 0 false 0 0 0) t = true →
      let u : State := t.set (CLOVE.STATE c) 1;
      exec (.reti c) s = .next ((u.branchTo c (t.core c).spc).setCore c (fun j => { j with sr := (t.core c).ssr &&& srMask, nz := (t.core c).ssr % 4 }.drop 39))) ∧
    (∀ (s t : State) (c : Nat) (n a : Nat),
      s.fetches c (.ctl 5 0 false 0 n a) t = true → 0 < n →
      let u : State := t.set (CLOVE.STATE c) 1;
      exec (.doLoop c false 0 n a) s = .next ((u.setCore c (fun k => { ((k.drop 36).drop 37).drop 38 with lc := n, lcV := n, ls := (k.pc + 1) % 2 ^ 15, lsV := (k.pc + 1) % 2 ^ 15, le := a, leV := a })).coreNext c)) ∧
    (∀ (s t : State) (c : Nat) (a : Nat),
      s.fetches c (.ctl 5 0 false 0 0 a) t = true →
      let u : State := t.set (CLOVE.STATE c) 1;
      exec (.doLoop c false 0 0 a) s = .next (((u.setCore c (fun k => { ((k.drop 36).drop 37).drop 38 with lc := 0, lcV := 0, ls := (k.pc + 1) % 2 ^ 15, lsV := (k.pc + 1) % 2 ^ 15, le := a, leV := a })).coreNext c).setCore c (fun k => { k with pc := (a + 1) % 2 ^ 15 }))) ∧
    (∀ (s t : State) (c : Nat) (r a : Nat),
      s.fetches c (.ctl 5 0 true r 0 a) t = true → r < 8 ∨ 12 ≤ r → ((t.core c).read r).1 ≠ 0 →
      let u : State := t.set (CLOVE.STATE c) 1;
      exec (.doLoop c true r 0 a) s = .next ((u.setCore c (fun k => { ((k.drop 36).drop 37).drop 38 with lc := (k.read r).1, lcV := (k.read r).1, ls := (k.pc + 1) % 2 ^ 15, lsV := (k.pc + 1) % 2 ^ 15, le := a, leV := a })).coreNext c)) ∧
    (∀ (s t : State) (c : Nat),
      s.fetches c (.ctl 6 0 false 0 0 0) t = true → t.swapDue c = true →
      let u : State := t.set (CLOVE.STATE c) 1;
      exec (.yield c) s = .next ((u.instrDone c).coreSwap c)) ∧
    (∀ (s t : State) (c : Nat),
      s.fetches c (.ctl 7 0 false 0 0 0) t = true → t.swapDue c = true →
      let u : State := t.set (CLOVE.STATE c) 1;
      exec (.wait c) s = .next ((u.instrDone c).coreSwap c)) ∧
    (∀ (s t : State) (c : Nat),
      s.fetches c (.ctl 6 0 false 0 0 0) t = true → t.swapDue c = false →
      let u : State := t.set (CLOVE.STATE c) 1;
      exec (.yield c) s = .next (u.coreNext c)) ∧
    (∀ (s t : State) (c : Nat),
      s.fetches c (.ctl 7 0 false 0 0 0) t = true → t.swapDue c = false → (t.core c).ipend ≠ 0 →
      let u : State := t.set (CLOVE.STATE c) 1;
      exec (.wait c) s = .next (u.coreNext c)) ∧
    (∀ (s t : State) (c : Nat),
      s.fetches c (.ctl 7 0 false 0 0 0) t = true → t.swapDue c = false → (t.core c).ipend = 0 →
      let u : State := t.set (CLOVE.STATE c) 1;
      exec (.wait c) s = .next ((u.coreNext c).set (CLOVE.STATE c) 2)) ∧
    (∀ (s t : State) (c : Nat),
      s.fetches c (.ctl 8 0 false 0 0 0) t = true →
      let u : State := t.set (CLOVE.STATE c) 1;
      exec (.halt c) s = .next (((u.coreNext c).set (CLOVE.STATE c) 0).raise (0x100 + c) EV.CLOVE.HALTED)) ∧
    (∀ (s t : State) (c : Nat),
      s.fetches c (.ctl 9 0 false 0 0 0) t = true →
      let u : State := t.set (CLOVE.STATE c) 1;
      exec (.ei c) s = .next ((u.setCore c (fun k => { k with sr := setBit k.sr 9 })).coreNext c)) ∧
    (∀ (s t : State) (c : Nat),
      s.fetches c (.ctl 10 0 false 0 0 0) t = true →
      let u : State := t.set (CLOVE.STATE c) 1;
      exec (.di c) s = .next ((u.setCore c (fun k => { k with sr := clearBit k.sr 9 })).coreNext c)) ∧
    (∀ (s : State) (c : Nat),
      s.coreRuns (c % 8) = false →
      exec (.nop c) s = .next s)

/-- A pending enabled line enters the handler at IVEC with PC in SPC, SR in SSR and IE clear, and otherwise nothing
happens. An illegal word stops the core with its fault recorded and raised; a core that does not run has no fault. A
write of IPEND clears lines, MBOX_OUT is passed on and raised, a read of TB0 latches the time base, a write of TCMP2
arms the timer, which ends with line 5 at its time. A read of STR_DATA takes the oldest word, or reads 1. A write of
BR_CMD starts an access, unless one runs; it completes with its status and data as class DSP and line 3. A semaphore
is set by its read and released by a write. -/
def Obligations.CloveIo : Prop :=
  (∀ (s : State) (c : Nat),
      c < 8 → s.cores.length = 8 → s.coreRuns c = true → bitOf (s.core c).sr srIE = true →
        (s.core c).ipend &&& (s.core c).imask ≠ 0 → (s.core c).branch = [] →
      ∃ u : State, exec (.interruptEntry c) s = .next u ∧ (u.core c).spc = (s.core c).pc ∧ (u.core c).ssr = (s.core c).sr ∧
        (u.core c).pc = (s.core c).ivec ∧ (u.core c).sr = clearBit (s.core c).sr srIE ∧
      (u.core c).flight = [] ∧ (u.core c).ipend = (s.core c).ipend ∧ (u.core c).x = (s.core c).x ∧
        (u.core c).stack = (s.core c).stack ∧ u.mem = s.mem ∧ SameRegs [(CLOVE.STATE c).key] s u) ∧
    (∀ (s : State) (c : Nat),
      bitOf (s.core (c % 8)).sr srIE = false ∨ (s.core (c % 8)).ipend &&& (s.core (c % 8)).imask = 0 ∨ (s.core (c % 8)).branch ≠ [] →

      exec (.interruptEntry c) s = .next s) ∧
    (∀ (s t : State) (c w : Nat),
      c < 8 → s.coreRuns c = true → s.coreFetch c = (some w, t) → cloveDecode w = none →
      ∃ u : State, exec (.coreFault c) s = .next u ∧ u.get (CLOVE.STATE c) = 3 ∧ (t.dpdJob c = none →
        u.get (CLOVE.FAULT c) = (2 ^ 16 + (t.core c).pc) % 2 ^ 32 ∧
        bitOf (u.get (HDR.EVT (0x100 + c))) EV.CLOVE.FAULT = true ∧ u.mem = t.mem)) ∧
    (∀ (s : State) (c : Nat),
      s.coreRuns (c % 8) = false →
      exec (.coreFault c) s = .next s) ∧
    (∀ (s : State) (c v : Nat),
      c < 8 → s.coreRuns c = true →
      exec (.ipendClear c v) s = .next ((s.setCore c (fun k => { k with ipend := clearMask 6 k.ipend (v % 2 ^ 24) })).reply .dsp [] stOK)) ∧
    (∀ (s : State) (c v : Nat),
      c < 8 → s.coreRuns c = true →
      exec (.mboxOut c v) s = .next (((s.set (CLOVE.MBOX_FROM_CORE c) (v % 2 ^ 24)).raise (0x100 + c) EV.CLOVE.MBOX).reply .dsp [] stOK)) ∧
    (∀ (s : State) (c : Nat),
      c < 8 → s.coreRuns c = true →
      exec (.tb0Read c) s = .next ((s.setCore c (fun k => { k with tbL := s.tb })).reply .dsp [s.tb % 2 ^ 24] stOK)) ∧
    (∀ (s : State) (c v : Nat),
      c < 8 → s.coreRuns c = true →
      exec (.tcmpArm c v) s = .next ((s.setCore c (fun k => { k with tcmp := k.tcmp % 2 ^ 48 + v % 2 ^ 16 * 2 ^ 48, tcArm := true })).reply .dsp [] stOK)) ∧
    (∀ (s : State) (c : Nat),
      c < 8 → s.act (0x100 + c) = true → (s.core c).tcArm = true → s.tbRun = true → (s.core c).tcmp ≤ s.tb →
      exec (.coreTimer c) s = .next ((s.setCore c (fun k => { k with tcArm := false })).setCore c (fun k => { k with ipend := setBit k.ipend 5 }))) ∧
    (∀ (s : State) (c : Nat),
      (s.core (c % 8)).tcArm = false ∨ s.tb < (s.core (c % 8)).tcmp →
      exec (.coreTimer c) s = .next s) ∧
    (∀ (s : State) (c w : Nat) (l : List Nat),
      c < 8 → s.coreRuns c = true → (s.core c).stream = w :: l →
      exec (.strDataRead c) s = .next ((s.setCore c (fun k => { k with stream := l })).reply .dsp [(bits w 16 16 * 2 ^ 8 + w % 4) % 2 ^ 24] stOK)) ∧
    (∀ (s : State) (c : Nat),
      c < 8 → s.coreRuns c = true → (s.core c).stream = [] →
      exec (.strDataRead c) s = .next (s.reply .dsp [1] stOK)) ∧
    (∀ (s : State) (c : Nat),
      c < 8 → s.coreRuns c = true → (s.core c).brRun = none →
      exec (.brRead c) s = .next ((s.setCore c (fun k => { k with brRun := some false })).reply .dsp [] stOK)) ∧
    (∀ (s : State) (c : Nat),
      c < 8 → s.coreRuns c = true → s.cores.length = 8 → (s.core c).brRun.isSome = true →
      ∃ u : State, exec (.brRead c) s = .next u ∧ u.cores = s.cores ∧ u.answer = some ⟨.dsp, [], stOK⟩ ∧ u.mem = s.mem ∧
        SameRegs [] s u) ∧
    (∀ (s : State) (c : Nat),
      c < 8 → s.coreRuns c = true → (s.core c).brRun = none →
      exec (.brWrite c) s = .next ((s.setCore c (fun k => { k with brRun := some true })).reply .dsp [] stOK)) ∧
    (∀ (s : State) (c : Nat),
      c < 8 → s.coreRuns c = true → s.cores.length = 8 → (s.core c).brRun.isSome = true →
      ∃ u : State, exec (.brWrite c) s = .next u ∧ u.cores = s.cores ∧ u.answer = some ⟨.dsp, [], stOK⟩ ∧ u.mem = s.mem ∧
        SameRegs [] s u) ∧
    (∀ (s : State) (c n : Nat),
      c < 8 → s.coreRuns c = true → n < 32 →
      exec (.semAcquire c n) s = .next (({ s with sems := setBit s.sems n } : State).reply .dsp [if bitOf s.sems n then 1 else 0] stOK)) ∧
    (∀ (s : State) (c n : Nat),
      c < 8 → s.coreRuns c = true → n < 32 →
      exec (.semRelease c n) s = .next (({ s with sems := clearBit s.sems n } : State).reply .dsp [] stOK)) ∧
    (∀ (s : State) (c n : Nat),
      s.coreRuns (c % 8) = false →
      exec (.semAcquire c n) s = .next s) ∧
    (∀ (s : State) (c n : Nat),
      s.coreRuns (c % 8) = false →
      exec (.semRelease c n) s = .next s) ∧
    (∀ (s : State) (c : Nat),
      c < 8 → (s.core c).brRun = some true →
      let r : State := (s.portWrite .all .dsp c (s.core c).brAddr (s.core c).brData).2;
      exec (.bridgeDone c) s = .next ((r.setCore c (fun k => { k with
        brRun := none, brCode := (s.portWrite .all .dsp c (s.core c).brAddr (s.core c).brData).1, brData := (s.core c).brData })).setCore c (fun k => { k with ipend := setBit k.ipend 3 }))) ∧
    (∀ (s : State) (c : Nat),
      c < 8 → (s.core c).brRun = some false →
      let r : State := (s.portRead .all .dsp (s.core c).brAddr).2.2;
      exec (.bridgeDone c) s = .next ((r.setCore c (fun k => { k with
        brRun := none, brCode := (s.portRead .all .dsp (s.core c).brAddr).1, brData := (s.portRead .all .dsp (s.core c).brAddr).2.1 })).setCore c (fun k => { k with ipend := setBit k.ipend 3 }))) ∧
    (∀ (s : State) (c : Nat),
      c < 8 → (s.core c).brRun = none →
      exec (.bridgeDone c) s = .next s)

/-- A LOAD of MGMT stores HITLESS and starts a load, and is refused with COMMIT_PENDING while one runs or a swap is
armed. A load that cannot be read fails with result 7, one with a wrong MAGIC with 2, and a whole image is installed
or fails with the result of its checks. RUN = 0 stops the core; RUN = 1 starts a stopped one at ENTRY with SR, LC
and the stack cleared and its registers kept, and does no more on another. MBOX_IRQ sets line 4. SWAP_GO does
nothing without SWAP_READY, and with it arms the swap at its multiple of 2,048 ticks, with LATE where SWAP_TB has
passed. At the boundary a core that does not run swaps halves and starts the new kernel; after SWAP_TO the swap is
abandoned with its event. -/
def Obligations.CloveKernels : Prop :=
  (∀ (s : State) (a c : Nat),
      c < 8 → s.takes .mgmt (CLOVE.HITLESS c) (2 ^ 31 + 0) = true → s.takes .mgmt (CLOVE.LOAD c) (2 ^ 31 + 0) = true →
        (s.ripe .mgmt (CLOVE.HITLESS c) 2).cores.length = 8 → (s.ripe .mgmt (CLOVE.HITLESS c) 2).act (0x100 + c) = true →
      let u : State := s.ripe .mgmt (CLOVE.HITLESS c) 2;
      ∃ t : State, exec (.kernelLoad .mgmt a c) s = .next t ∧ t.get (CLOVE.LOAD_BUSY c) = 1 ∧ t.get (CLOVE.HITLESS c) = 0 ∧
        (t.core c).loadHit = false ∧ t.answer = some ⟨.mgmt, [], stOK⟩ ∧ t.mem = u.mem ∧
      SameRegs [(CLOVE.LOAD_BUSY c).key, (CLOVE.HITLESS c).key] u t) ∧
    (∀ (s : State) (a c : Nat),
      c < 8 → s.takes .mgmt (CLOVE.HITLESS c) (2 ^ 31 + 0) = true →
        s.refusesPart .mgmt (CLOVE.LOAD c) (2 ^ 31 + 0) stPENDING = true →
      ∃ t : State, exec (.kernelLoad .mgmt a c) s = .next t ∧ t.answer = some ⟨.mgmt, [], stPENDING⟩ ∧
        t.get (CLOVE.HITLESS c) = 0) ∧
    (∀ (s : State) (a c : Nat),
      c < 8 → s.takes .mgmt (CLOVE.HITLESS c) (2 ^ 31 + 1) = true → s.takes .mgmt (CLOVE.LOAD c) (2 ^ 31 + 1) = true →
        (s.ripe .mgmt (CLOVE.HITLESS c) 2).cores.length = 8 → (s.ripe .mgmt (CLOVE.HITLESS c) 2).act (0x100 + c) = true →
      let u : State := s.ripe .mgmt (CLOVE.HITLESS c) 2;
      ∃ t : State, exec (.hitlessLoad .mgmt a c) s = .next t ∧ t.get (CLOVE.LOAD_BUSY c) = 1 ∧
        t.get (CLOVE.HITLESS c) = 1 ∧ (t.core c).loadHit = true ∧ t.answer = some ⟨.mgmt, [], stOK⟩ ∧ t.mem = u.mem ∧
      SameRegs [(CLOVE.LOAD_BUSY c).key, (CLOVE.HITLESS c).key] u t) ∧
    (∀ (s : State) (a c : Nat),
      c < 8 → s.takes .mgmt (CLOVE.HITLESS c) (2 ^ 31 + 1) = true →
        s.refusesPart .mgmt (CLOVE.LOAD c) (2 ^ 31 + 1) stPENDING = true →
      ∃ t : State, exec (.hitlessLoad .mgmt a c) s = .next t ∧ t.answer = some ⟨.mgmt, [], stPENDING⟩ ∧
        t.get (CLOVE.HITLESS c) = 1) ∧
    (∀ (s : State) (c : Nat),
      c < 8 → s.on (CLOVE.LOAD_BUSY c) = false →
      exec (.loadDone c) s = .next s) ∧
    (∀ (s u : State) (c : Nat),
      c < 8 → s.on (CLOVE.LOAD_BUSY c) = true →
        (s.set (CLOVE.LOAD_BUSY c) 0).kernelRead (s.get (CLOVE.LOAD_ADDR c) / 4 * 4) 48 = (none, u) →
      exec (.loadDone c) s = .next (((u.set (CLOVE.LOAD_RESULT c) 7).count (CLOVE.LOAD_FAIL_CNT c)).raise (0x100 + c) EV.CLOVE.LOAD_FAIL)) ∧
    (∀ (s u : State) (c : Nat) (h : List Nat),
      c < 8 → s.on (CLOVE.LOAD_BUSY c) = true →
        (s.set (CLOVE.LOAD_BUSY c) 0).kernelRead (s.get (CLOVE.LOAD_ADDR c) / 4 * 4) 48 = (some h, u) →
        h.getD 0 0 ≠ 0x4B564C43 →
      exec (.loadDone c) s = .next (((u.set (CLOVE.LOAD_RESULT c) 2).count (CLOVE.LOAD_FAIL_CNT c)).raise (0x100 + c) EV.CLOVE.LOAD_FAIL)) ∧
    (∀ (s u v : State) (c : Nat) (h b : List Nat),
      c < 8 → s.on (CLOVE.LOAD_BUSY c) = true →
        (s.set (CLOVE.LOAD_BUSY c) 0).kernelRead (s.get (CLOVE.LOAD_ADDR c) / 4 * 4) 48 = (some h, u) →
        h.getD 0 0 = 0x4B564C43 → 0 < h.getD 2 0 → h.getD 2 0 ≤ 32768 → h.getD 3 0 ≤ 65536 → h.getD 4 0 ≤ 65536 →
        u.kernelRead (s.get (CLOVE.LOAD_ADDR c) / 4 * 4 + 192) (2 * h.getD 2 0 + h.getD 3 0 + h.getD 4 0) = (some b, v) →
      exec (.loadDone c) s = .next (if v.kernelCheck c h b = 1 then v.kernelInstall c h b
      else ((v.set (CLOVE.LOAD_RESULT c) (v.kernelCheck c h b)).count (CLOVE.LOAD_FAIL_CNT c)).raise (0x100 + c) EV.CLOVE.LOAD_FAIL)) ∧
    (∀ (s : State) (a c v : Nat),
      c < 8 → s.accepts .mgmt (CLOVE.RUN c) v = true → v % 2 = 0 →
      exec (.runWrite .mgmt a c v) s = .next (s.lands .mgmt (CLOVE.RUN c) [fun u => (u.set (CLOVE.RUN c) 0).set (CLOVE.STATE c) 0] [])) ∧
    (∀ (s : State) (a c v : Nat),
      c < 8 → s.accepts .mgmt (CLOVE.RUN c) v = true → v % 2 = 1 → (s.ripe .mgmt (CLOVE.RUN c)).cores.length = 8 →
        (s.ripe .mgmt (CLOVE.RUN c)).get (CLOVE.STATE c) = 0 → (s.ripe .mgmt (CLOVE.RUN c)).act (0x100 + c) = true →
      let u : State := s.ripe .mgmt (CLOVE.RUN c);
      ∃ t : State, exec (.runWrite .mgmt a c v) s = .next t ∧ t.get (CLOVE.RUN c) = 1 ∧ t.get (CLOVE.STATE c) = 1 ∧
        (t.core c).pc = (u.core c).entry ∧ (t.core c).sr = 0 ∧ (t.core c).lc = 0 ∧ (t.core c).stack = [0, 0, 0, 0] ∧
      (t.core c).x = (u.core c).x ∧ (t.core c).ipend = (u.core c).ipend ∧ t.mem = u.mem ∧
        SameRegs [(CLOVE.RUN c).key, (CLOVE.STATE c).key] u t) ∧
    (∀ (s : State) (a c v : Nat),
      c < 8 → s.accepts .mgmt (CLOVE.RUN c) v = true → v % 2 = 1 →
        (s.ripe .mgmt (CLOVE.RUN c)).get (CLOVE.STATE c) ≠ 0 ∨ (s.ripe .mgmt (CLOVE.RUN c)).act (0x100 + c) = false →
      exec (.runWrite .mgmt a c v) s = .next (s.lands .mgmt (CLOVE.RUN c) [fun u => u.set (CLOVE.RUN c) 1] [])) ∧
    (∀ (s : State) (q : Cls) (c : Nat),
      c < 8 → s.triggered q (CLOVE.MBOX_IRQ c) = true →
      exec (.mboxIrq q c) s = .next (s.lands q (CLOVE.MBOX_IRQ c) [] [fun u => u.setCore c (fun k => { k with ipend := setBit k.ipend 4 })])) ∧
    (∀ (s : State) (q : Cls) (c : Nat),
      c < 8 → s.triggered q (CLOVE.SWAP_GO c) = true → (s.ripe q (CLOVE.SWAP_GO c)).on (CLOVE.SWAP_READY c) = false →
      exec (.swapGo q c) s = .next (s.lands q (CLOVE.SWAP_GO c) [] [fun u => u])) ∧
    (∀ (s : State) (q : Cls) (c : Nat),
      c < 8 → s.triggered q (CLOVE.SWAP_GO c) = true → (s.ripe q (CLOVE.SWAP_GO c)).on (CLOVE.SWAP_READY c) = true →
        (s.ripe q (CLOVE.SWAP_GO c)).tb ≤ (s.ripe q (CLOVE.SWAP_GO c)).get64 (CLOVE.SWAP_TB_LO c) (CLOVE.SWAP_TB_HI c) →
      exec (.swapGo q c) s = .next (s.lands q (CLOVE.SWAP_GO c) []
      [fun u => (u.set (CLOVE.SWAP_ARMED c) 1).setCore c (fun k => { k with beta := (u.get64 (CLOVE.SWAP_TB_LO c) (CLOVE.SWAP_TB_HI c) + 2047) / 2048 * 2048 })])) ∧
    (∀ (s : State) (q : Cls) (c : Nat),
      c < 8 → s.triggered q (CLOVE.SWAP_GO c) = true → (s.ripe q (CLOVE.SWAP_GO c)).on (CLOVE.SWAP_READY c) = true →
        (s.ripe q (CLOVE.SWAP_GO c)).get64 (CLOVE.SWAP_TB_LO c) (CLOVE.SWAP_TB_HI c) < (s.ripe q (CLOVE.SWAP_GO c)).tb →
      exec (.swapGo q c) s = .next (s.lands q (CLOVE.SWAP_GO c) []
      [fun u => ((u.set (CLOVE.SWAP_ARMED c) 1).setCore c (fun k => { k with beta := (u.tb / 2048 + 1) * 2048 })).raise (0x100 + c) evLATE])) ∧
    (∀ (s : State) (c : Nat),
      c < 8 → s.act (0x100 + c) = true → s.swapDue c = true → s.coreState c ≠ 1 → s.cores.length = 8 →
        s.on (CLOVE.RUN c) = true →
      ∃ u : State, exec (.swapBoundary c) s = .next u ∧ u.get (CLOVE.PROG_HALF c) = 1 - s.get (CLOVE.PROG_HALF c) ∧
        u.get (CLOVE.KVER_ACT c) = (s.core c).nVer % 2 ^ 16 ∧ u.get (CLOVE.SWAP_ARMED c) = 0 ∧
        u.get (CLOVE.SWAP_READY c) = 0 ∧
      u.get (CLOVE.STATE c) = 1 ∧ (u.core c).pc = (s.core c).nEntry ∧ (u.core c).sr = 0 ∧
        (u.core c).ipend = (s.core c).ipend ∧ (u.core c).x = (s.core c).x ∧
        bitOf (u.get (HDR.EVT (0x100 + c))) EV.CLOVE.SWAP_DONE = true ∧ u.mem = s.mem) ∧
    (∀ (s : State) (c : Nat),
      s.swapDue (c % 8) = false →
      exec (.swapBoundary c) s = .next s) ∧
    (∀ (s : State) (c : Nat),
      c < 8 → s.on (CLOVE.SWAP_ARMED c) = true → (s.core c).beta + max 1 (s.get (CLOVE.SWAP_TO c)) * 2 ^ 20 ≤ s.tb →
      exec (.swapTimeout c) s = .next ((s.set (CLOVE.SWAP_ARMED c) 0).raise (0x100 + c) EV.CLOVE.SWAP_TIMEOUT)) ∧
    (∀ (s : State) (c : Nat),
      s.on (CLOVE.SWAP_ARMED (c % 8)) = false →
      exec (.swapTimeout c) s = .next s)

/-- Cleaning writes a dirty line without errors to memory and keeps it; one with a damaged word goes to memory poisoned
and out of the cache, and the access faults; a clean or absent line is left. Invalidating drops the line, cleaning
and invalidating does both, and CSR 0x7C3 empties the instruction cache. MTIME reaching MTIMECMP sets the timer
interrupt, and before it nothing happens. WD_EN starts the watchdog once, 0x5A kicks it where it is enabled, any
other value is counted, and its expiry restarts the management with reason 8, which no period begun later or
watchdog off does. -/
def Obligations.Pepper : Prop :=
  (∀ (s : State) (a w : Nat) (l : CacheLine),
      a < 2 ^ 32 → s.lineOf a = some l → l.dirty = true → (List.range 4).all (fun w => s.eccOf 33 (l.code w) == 0) = true →
      exec (.cacheClean a w 0) s = .next ((s.writeWhole l.addr ((List.range 8).map (fun i => if cloveData l.addr then l.words.getD i 0 % 2 ^ 24 else l.words.getD i 0))).setMgmt (fun m => { m with dcache := m.dcache.filter (fun x => x.addr != l.addr / 32 * 32) ++ [{ l with dirty := false }] }))) ∧
    (∀ (s : State) (a w e : Nat) (l : CacheLine),
      a < 2 ^ 32 → s.lineOf a = some l → l.dirty = true → w < 4 → 73 ≤ e →
      ∃ t : State, exec (.cacheClean a w e) s = .next t ∧ t.mgmt.accessFault = some a ∧ t.lineOf a = none ∧
      (∀ i, i < 2 → s.bist.mems = [] → codeWordOf (l.addr + 8 * w) = some (0, (l.addr + 8 * w - 0x10000000) / 8) →
        t.eccOf 0 ((l.addr + 8 * w - 0x10000000) / 8) = 0xFF)) ∧
    (∀ (s : State) (a w : Nat) (l : CacheLine),
      a < 2 ^ 32 → s.lineOf a = some l → l.dirty = false →
      exec (.cacheClean a w 0) s = .next s) ∧
    (∀ (s : State) (a w e : Nat),
      a < 2 ^ 32 → s.lineOf a = none →
      exec (.cacheClean a w e) s = .next s) ∧
    (∀ (s : State) (a : Nat),
      exec (.cacheInvalidate a) s = .next (s.setMgmt (fun m => { m with dcache := m.dcache.filter (fun x => x.addr != a % 2 ^ 32 / 32 * 32) }))) ∧
    (∀ (s : State) (a w : Nat) (l : CacheLine),
      a < 2 ^ 32 → s.lineOf a = some l → l.dirty = true → (List.range 4).all (fun w => s.eccOf 33 (l.code w) == 0) = true →
      ∃ t : State, exec (.cacheCleanInvalidate a w 0) s = .next t ∧ t.lineOf a = none ∧
        t.mem = (s.writeWhole l.addr ((List.range 8).map (fun i => if cloveData l.addr then l.words.getD i 0 % 2 ^ 24 else l.words.getD i 0))).mem ∧
        t.mgmt.accessFault = s.mgmt.accessFault ∧
      t.mgmt.dcache = s.mgmt.dcache.filter (fun x => x.addr != a / 32 * 32) ∧
      SameRegs ((List.range 64).map (fun i => (ECC.HEAL_CNT i).key) ++ evKeys 0x118) s t) ∧
    (∀ (s : State) (a w : Nat) (l : CacheLine),
      a < 2 ^ 32 → s.lineOf a = some l → l.dirty = false →
      exec (.cacheCleanInvalidate a w 0) s = .next (s.setMgmt (fun m => { m with dcache := m.dcache.filter (fun x => x.addr != a / 32 * 32) }))) ∧
    (∀ (s : State),
      exec .icacheInvalidate s = .next (s.setMgmt (fun m => { m with icache := [] }))) ∧
    (∀ (s : State),
      s.get64 MGMT.MTIMECMP_LO MGMT.MTIMECMP_HI ≤ s.uptimeUs % 2 ^ 64 →
      exec .mtimeCompare s = .next (s.setMgmt (fun m => { m with mtip := true }))) ∧
    (∀ (s : State),
      s.uptimeUs % 2 ^ 64 < s.get64 MGMT.MTIMECMP_LO MGMT.MTIMECMP_HI →
      exec .mtimeCompare s = .next s) ∧
    (∀ (s : State) (c : Cls) (a : Nat),
      s.accepts c MGMT.WD_EN 1 = true → (s.ripe c MGMT.WD_EN).on MGMT.WD_EN = false →
      exec (.wdEnable c a) s = .next (s.lands c MGMT.WD_EN [fun u => (u.set MGMT.WD_EN 1).setMgmt (fun m => { m with wdAt := u.ao })] [])) ∧
    (∀ (s : State) (c : Cls) (a : Nat),
      s.accepts c MGMT.WD_EN 1 = true → (s.ripe c MGMT.WD_EN).on MGMT.WD_EN = true →
      exec (.wdEnable c a) s = .next (s.lands c MGMT.WD_EN [fun u => u] [])) ∧
    (∀ (s : State) (c : Cls),
      s.triggered c MGMT.KICK 0x5A = true → (s.ripe c MGMT.KICK).on MGMT.WD_EN = true →
      exec (.wdKick c 0x5A) s = .next (s.lands c MGMT.KICK [] [fun u => u.setMgmt (fun m => { m with wdAt := u.ao })])) ∧
    (∀ (s : State) (c : Cls),
      s.triggered c MGMT.KICK 0x5A = true → (s.ripe c MGMT.KICK).on MGMT.WD_EN = false →
      exec (.wdKick c 0x5A) s = .next (s.lands c MGMT.KICK [] [fun u => u])) ∧
    (∀ (s : State) (c : Cls) (v : Nat),
      v < 256 → s.triggered c MGMT.KICK v = true → v ≠ 0x5A →
      exec (.wdKick c v) s = .next (s.lands c MGMT.KICK [] [fun u => u.count MGMT.WD_BAD_CNT])) ∧
    (∀ (s : State) (f : Nat),
      s.on MGMT.WD_EN = true → s.on DEVICE.BOOT_OK_SEEN = true → s.on MGMT.RUNNING = true → s.deaf = false →
        s.mgmt.wdAt + max 1 (s.get MGMT.WD_PERIOD) * 9830400 ≤ s.ao →
      exec (.runtimeWatchdogExpiry f) s = .next (s.mgmtRestart 8 f)) ∧
    (∀ (s : State) (f : Nat),
      s.on MGMT.WD_EN = false ∨ s.ao < s.mgmt.wdAt + max 1 (s.get MGMT.WD_PERIOD) * 9830400 →
      exec (.runtimeWatchdogExpiry f) s = .next s)

/-- GO with an operation stores OP and ARG of the class and starts it; while one is in progress its result is 11, and
with the engine off nothing starts. Nothing completes where none waits. OPEN of a slot that is not running begins a
session of its class; a failed operation has the result its checks give and changes neither memory nor OTP; another
class gets 2. CHUNK programs its words, erases the blocks that begin in it, and counts them, without a record.
VERIFY of a bad image gives 6; ACTIVATE, CONFIRM write the directory, ABORT ends the session and the image, and
RB_ADVANCE raises the rollback count. An MGT packet carries an operation of BB. -/
def Obligations.Updates : Prop :=
  (∀ (s : State) (c : Cls) (a : Nat),
      a < 256 → s.takes c UPDATE.OP (2 ^ 31 + 256 + a) = true → s.takes c UPDATE.ARG (2 ^ 31 + 256 + a) = true →
        s.takes c UPDATE.GO (2 ^ 31 + 256 + a) = true → (s.ripe c UPDATE.OP 3).act 0x112 = true →
        (s.ripe c UPDATE.OP 3).on UPDATE.BUSY = false → (s.ripe c UPDATE.OP 3).mgmtDown = false →
      exec (.updOpen c a) s = .next (s.lands c UPDATE.OP [fun u => u.set (perClass UPDATE.OP c) 1, fun u => u.set (perClass UPDATE.ARG c) a]
      [fun u => ({ u with updJobs := u.updJobs ++ [{ cls := c, op := 1, arg := a, ofs := u.get (perClass UPDATE.OFS c), len := u.get (perClass UPDATE.LEN c), data := u.win UPDATE.BUF (min 768 (u.get (perClass UPDATE.LEN c) / 4)), tag := none }] } : State).set UPDATE.BUSY 1])) ∧
    (∀ (s : State) (c : Cls) (a : Nat),
      a < 256 → s.takes c UPDATE.OP (2 ^ 31 + 256 + a) = true → s.takes c UPDATE.ARG (2 ^ 31 + 256 + a) = true →
        s.takes c UPDATE.GO (2 ^ 31 + 256 + a) = true → (s.ripe c UPDATE.OP 3).act 0x112 = true →
        (s.ripe c UPDATE.OP 3).on UPDATE.BUSY = true →
      exec (.updOpen c a) s = .next (s.lands c UPDATE.OP [fun u => u.set (perClass UPDATE.OP c) 1, fun u => u.set (perClass UPDATE.ARG c) a] [fun u => u.set UPDATE.RESULT 11])) ∧
    (∀ (s : State) (c : Cls) (a : Nat),
      a < 256 → s.takes c UPDATE.OP (2 ^ 31 + 256 + a) = true → s.takes c UPDATE.ARG (2 ^ 31 + 256 + a) = true →
        s.takes c UPDATE.GO (2 ^ 31 + 256 + a) = true → (s.ripe c UPDATE.OP 3).act 0x112 = false →
      exec (.updOpen c a) s = .next (s.lands c UPDATE.OP [fun u => u.set (perClass UPDATE.OP c) 1, fun u => u.set (perClass UPDATE.ARG c) a] [fun u => u])) ∧
    (∀ (s : State) (c : Cls) (a : Nat),
      a < 256 → s.takes c UPDATE.OP (2 ^ 31 + 512 + a) = true → s.takes c UPDATE.ARG (2 ^ 31 + 512 + a) = true →
        s.takes c UPDATE.GO (2 ^ 31 + 512 + a) = true → (s.ripe c UPDATE.OP 3).act 0x112 = true →
        (s.ripe c UPDATE.OP 3).on UPDATE.BUSY = false → (s.ripe c UPDATE.OP 3).mgmtDown = false →
      exec (.updChunk c a) s = .next (s.lands c UPDATE.OP [fun u => u.set (perClass UPDATE.OP c) 2, fun u => u.set (perClass UPDATE.ARG c) a]
      [fun u => ({ u with updJobs := u.updJobs ++ [{ cls := c, op := 2, arg := a, ofs := u.get (perClass UPDATE.OFS c), len := u.get (perClass UPDATE.LEN c), data := u.win UPDATE.BUF (min 768 (u.get (perClass UPDATE.LEN c) / 4)), tag := none }] } : State).set UPDATE.BUSY 1])) ∧
    (∀ (s : State) (c : Cls) (a : Nat),
      a < 256 → s.takes c UPDATE.OP (2 ^ 31 + 512 + a) = true → s.takes c UPDATE.ARG (2 ^ 31 + 512 + a) = true →
        s.takes c UPDATE.GO (2 ^ 31 + 512 + a) = true → (s.ripe c UPDATE.OP 3).act 0x112 = true →
        (s.ripe c UPDATE.OP 3).on UPDATE.BUSY = true →
      exec (.updChunk c a) s = .next (s.lands c UPDATE.OP [fun u => u.set (perClass UPDATE.OP c) 2, fun u => u.set (perClass UPDATE.ARG c) a] [fun u => u.set UPDATE.RESULT 11])) ∧
    (∀ (s : State) (c : Cls) (a : Nat),
      a < 256 → s.takes c UPDATE.OP (2 ^ 31 + 768 + a) = true → s.takes c UPDATE.ARG (2 ^ 31 + 768 + a) = true →
        s.takes c UPDATE.GO (2 ^ 31 + 768 + a) = true → (s.ripe c UPDATE.OP 3).act 0x112 = true →
        (s.ripe c UPDATE.OP 3).on UPDATE.BUSY = false → (s.ripe c UPDATE.OP 3).mgmtDown = false →
      exec (.updVerify c a) s = .next (s.lands c UPDATE.OP [fun u => u.set (perClass UPDATE.OP c) 3, fun u => u.set (perClass UPDATE.ARG c) a]
      [fun u => ({ u with updJobs := u.updJobs ++ [{ cls := c, op := 3, arg := a, ofs := u.get (perClass UPDATE.OFS c), len := u.get (perClass UPDATE.LEN c), data := u.win UPDATE.BUF (min 768 (u.get (perClass UPDATE.LEN c) / 4)), tag := none }] } : State).set UPDATE.BUSY 1])) ∧
    (∀ (s : State) (c : Cls) (a : Nat),
      a < 256 → s.takes c UPDATE.OP (2 ^ 31 + 768 + a) = true → s.takes c UPDATE.ARG (2 ^ 31 + 768 + a) = true →
        s.takes c UPDATE.GO (2 ^ 31 + 768 + a) = true → (s.ripe c UPDATE.OP 3).act 0x112 = true →
        (s.ripe c UPDATE.OP 3).on UPDATE.BUSY = true →
      exec (.updVerify c a) s = .next (s.lands c UPDATE.OP [fun u => u.set (perClass UPDATE.OP c) 3, fun u => u.set (perClass UPDATE.ARG c) a] [fun u => u.set UPDATE.RESULT 11])) ∧
    (∀ (s : State) (c : Cls) (a : Nat),
      a < 256 → s.takes c UPDATE.OP (2 ^ 31 + 1024 + a) = true → s.takes c UPDATE.ARG (2 ^ 31 + 1024 + a) = true →
        s.takes c UPDATE.GO (2 ^ 31 + 1024 + a) = true → (s.ripe c UPDATE.OP 3).act 0x112 = true →
        (s.ripe c UPDATE.OP 3).on UPDATE.BUSY = false → (s.ripe c UPDATE.OP 3).mgmtDown = false →
      exec (.updActivate c a) s = .next (s.lands c UPDATE.OP [fun u => u.set (perClass UPDATE.OP c) 4, fun u => u.set (perClass UPDATE.ARG c) a]
      [fun u => ({ u with updJobs := u.updJobs ++ [{ cls := c, op := 4, arg := a, ofs := u.get (perClass UPDATE.OFS c), len := u.get (perClass UPDATE.LEN c), data := u.win UPDATE.BUF (min 768 (u.get (perClass UPDATE.LEN c) / 4)), tag := none }] } : State).set UPDATE.BUSY 1])) ∧
    (∀ (s : State) (c : Cls) (a : Nat),
      a < 256 → s.takes c UPDATE.OP (2 ^ 31 + 1024 + a) = true → s.takes c UPDATE.ARG (2 ^ 31 + 1024 + a) = true →
        s.takes c UPDATE.GO (2 ^ 31 + 1024 + a) = true → (s.ripe c UPDATE.OP 3).act 0x112 = true →
        (s.ripe c UPDATE.OP 3).on UPDATE.BUSY = true →
      exec (.updActivate c a) s = .next (s.lands c UPDATE.OP [fun u => u.set (perClass UPDATE.OP c) 4, fun u => u.set (perClass UPDATE.ARG c) a] [fun u => u.set UPDATE.RESULT 11])) ∧
    (∀ (s : State) (c : Cls) (a : Nat),
      a < 256 → s.takes c UPDATE.OP (2 ^ 31 + 1280 + a) = true → s.takes c UPDATE.ARG (2 ^ 31 + 1280 + a) = true →
        s.takes c UPDATE.GO (2 ^ 31 + 1280 + a) = true → (s.ripe c UPDATE.OP 3).act 0x112 = true →
        (s.ripe c UPDATE.OP 3).on UPDATE.BUSY = false → (s.ripe c UPDATE.OP 3).mgmtDown = false →
      exec (.updConfirm c a) s = .next (s.lands c UPDATE.OP [fun u => u.set (perClass UPDATE.OP c) 5, fun u => u.set (perClass UPDATE.ARG c) a]
      [fun u => ({ u with updJobs := u.updJobs ++ [{ cls := c, op := 5, arg := a, ofs := u.get (perClass UPDATE.OFS c), len := u.get (perClass UPDATE.LEN c), data := u.win UPDATE.BUF (min 768 (u.get (perClass UPDATE.LEN c) / 4)), tag := none }] } : State).set UPDATE.BUSY 1])) ∧
    (∀ (s : State) (c : Cls) (a : Nat),
      a < 256 → s.takes c UPDATE.OP (2 ^ 31 + 1280 + a) = true → s.takes c UPDATE.ARG (2 ^ 31 + 1280 + a) = true →
        s.takes c UPDATE.GO (2 ^ 31 + 1280 + a) = true → (s.ripe c UPDATE.OP 3).act 0x112 = true →
        (s.ripe c UPDATE.OP 3).on UPDATE.BUSY = true →
      exec (.updConfirm c a) s = .next (s.lands c UPDATE.OP [fun u => u.set (perClass UPDATE.OP c) 5, fun u => u.set (perClass UPDATE.ARG c) a] [fun u => u.set UPDATE.RESULT 11])) ∧
    (∀ (s : State) (c : Cls) (a : Nat),
      a < 256 → s.takes c UPDATE.OP (2 ^ 31 + 1536 + a) = true → s.takes c UPDATE.ARG (2 ^ 31 + 1536 + a) = true →
        s.takes c UPDATE.GO (2 ^ 31 + 1536 + a) = true → (s.ripe c UPDATE.OP 3).act 0x112 = true →
        (s.ripe c UPDATE.OP 3).on UPDATE.BUSY = false → (s.ripe c UPDATE.OP 3).mgmtDown = false →
      exec (.updAbort c a) s = .next (s.lands c UPDATE.OP [fun u => u.set (perClass UPDATE.OP c) 6, fun u => u.set (perClass UPDATE.ARG c) a]
      [fun u => ({ u with updJobs := u.updJobs ++ [{ cls := c, op := 6, arg := a, ofs := u.get (perClass UPDATE.OFS c), len := u.get (perClass UPDATE.LEN c), data := u.win UPDATE.BUF (min 768 (u.get (perClass UPDATE.LEN c) / 4)), tag := none }] } : State).set UPDATE.BUSY 1])) ∧
    (∀ (s : State) (c : Cls) (a : Nat),
      a < 256 → s.takes c UPDATE.OP (2 ^ 31 + 1536 + a) = true → s.takes c UPDATE.ARG (2 ^ 31 + 1536 + a) = true →
        s.takes c UPDATE.GO (2 ^ 31 + 1536 + a) = true → (s.ripe c UPDATE.OP 3).act 0x112 = true →
        (s.ripe c UPDATE.OP 3).on UPDATE.BUSY = true →
      exec (.updAbort c a) s = .next (s.lands c UPDATE.OP [fun u => u.set (perClass UPDATE.OP c) 6, fun u => u.set (perClass UPDATE.ARG c) a] [fun u => u.set UPDATE.RESULT 11])) ∧
    (∀ (s : State) (c : Cls) (a : Nat),
      a < 256 → s.takes c UPDATE.OP (2 ^ 31 + 1792 + a) = true → s.takes c UPDATE.ARG (2 ^ 31 + 1792 + a) = true →
        s.takes c UPDATE.GO (2 ^ 31 + 1792 + a) = true → (s.ripe c UPDATE.OP 3).act 0x112 = true →
        (s.ripe c UPDATE.OP 3).on UPDATE.BUSY = false → (s.ripe c UPDATE.OP 3).mgmtDown = false →
      exec (.rbAdvance c a) s = .next (s.lands c UPDATE.OP [fun u => u.set (perClass UPDATE.OP c) 7, fun u => u.set (perClass UPDATE.ARG c) a]
      [fun u => ({ u with updJobs := u.updJobs ++ [{ cls := c, op := 7, arg := a, ofs := u.get (perClass UPDATE.OFS c), len := u.get (perClass UPDATE.LEN c), data := u.win UPDATE.BUF (min 768 (u.get (perClass UPDATE.LEN c) / 4)), tag := none }] } : State).set UPDATE.BUSY 1])) ∧
    (∀ (s : State) (c : Cls) (a : Nat),
      a < 256 → s.takes c UPDATE.OP (2 ^ 31 + 1792 + a) = true → s.takes c UPDATE.ARG (2 ^ 31 + 1792 + a) = true →
        s.takes c UPDATE.GO (2 ^ 31 + 1792 + a) = true → (s.ripe c UPDATE.OP 3).act 0x112 = true →
        (s.ripe c UPDATE.OP 3).on UPDATE.BUSY = true →
      exec (.rbAdvance c a) s = .next (s.lands c UPDATE.OP [fun u => u.set (perClass UPDATE.OP c) 7, fun u => u.set (perClass UPDATE.ARG c) a] [fun u => u.set UPDATE.RESULT 11])) ∧
    (∀ (s : State) (b : Bool) (f : Nat),
      s.updJobs = [] →
      exec (.updDone b f) s = .next s) ∧
    (∀ (s : State) (j : UpdJob) (l : List UpdJob) (b : Bool) (f : Nat),
      s.updJobs = j :: l → j.tag = none → j.op = 1 → s.get UPDATE.STATE = 0 →
        s.on MGMT.RUNNING = false ∨ j.arg % 2 ≠ s.get MGMT.SLOT →
      ∃ t : State, exec (.updDone b f) s = .next t ∧ t.updJobs = l ∧ t.get UPDATE.RESULT = 0 ∧
        bitOf (t.get (HDR.EVT 0x112)) EV.UPDATE.UPD_DONE = true ∧ t.get UPDATE.OWNER = j.cls.code ∧
        t.get UPDATE.TARGET = j.arg % 2 ∧ t.get UPDATE.RECEIVED = 0 ∧ t.get UPDATE.STATE = 1 ∧ t.mem = s.mem ∧
      SameRegs ([UPDATE.BUSY.key, UPDATE.RESULT.key, UPDATE.OWNER.key, UPDATE.TARGET.key, UPDATE.RECEIVED.key, UPDATE.STATE.key] ++ logKeys ++ evKeys 0x112) s t) ∧
    (∀ (s : State) (j : UpdJob) (l : List UpdJob) (b : Bool) (f : Nat),
      s.updJobs = j :: l → j.tag = none → s.updResult j b ≠ 0 →
      ∃ t : State, exec (.updDone b f) s = .next t ∧ t.updJobs = l ∧ t.get UPDATE.RESULT = s.updResult j b ∧
        bitOf (t.get (HDR.EVT 0x112)) EV.UPDATE.UPD_DONE = true ∧ t.mem = s.mem ∧ t.otp = s.otp ∧
      SameRegs ([UPDATE.BUSY.key, UPDATE.RESULT.key] ++ logKeys ++ evKeys 0x112) s t) ∧
    (∀ (s : State) (j : UpdJob) (l : List UpdJob) (b : Bool) (f : Nat),
      s.updJobs = j :: l → j.tag = none → j.op = 2 → s.get UPDATE.STATE = 1 → s.get UPDATE.OWNER ≠ j.cls.code →
      ∃ t : State, exec (.updDone b f) s = .next t ∧ t.updJobs = l ∧ t.get UPDATE.RESULT = 2 ∧
        bitOf (t.get (HDR.EVT 0x112)) EV.UPDATE.UPD_DONE = true ∧ t.mem = s.mem) ∧
    (∀ (s : State) (j : UpdJob) (l : List UpdJob) (b : Bool) (f : Nat),
      s.updJobs = j :: l → j.tag = none → j.op = 2 → s.get UPDATE.STATE = 1 → s.get UPDATE.OWNER = j.cls.code →
        s.writeOk = true → b = false → j.len % 4 = 0 → 4 ≤ j.len → j.len ≤ 3072 → j.data.length = j.len / 4 →
        j.ofs = s.get UPDATE.RECEIVED → j.ofs + j.len ≤ slotSize →
      ∃ t : State, exec (.updDone b f) s = .next t ∧ t.updJobs = l ∧ t.get UPDATE.RESULT = 0 ∧
        bitOf (t.get (HDR.EVT 0x112)) EV.UPDATE.UPD_DONE = true ∧ t.get UPDATE.RECEIVED = j.ofs + j.len ∧
        t.log.recs = s.log.recs ∧
      (∀ i, i < j.data.length → t.word (slotBase (s.get UPDATE.TARGET) + j.ofs + 4 * i) = j.data.getD i 0 % 2 ^ 32) ∧
      (∀ a : Nat, (a < slotBase (s.get UPDATE.TARGET) + j.ofs ∨ slotBase (s.get UPDATE.TARGET) + (j.ofs + j.len + 65535) / 65536 * 65536 ≤ a) →
        Memory.read t.mem a = Memory.read s.mem a) ∧
      SameRegs ([UPDATE.BUSY.key, UPDATE.RESULT.key, UPDATE.RECEIVED.key] ++ evKeys 0x112) s t) ∧
    (∀ (s : State) (j : UpdJob) (l : List UpdJob) (b : Bool) (f : Nat),
      s.updJobs = j :: l → j.tag = none → j.op = 3 → s.get UPDATE.STATE = 1 → s.get UPDATE.OWNER = j.cls.code → b = false →
        s.imageCheck (s.get UPDATE.TARGET) = 2 →
      ∃ t : State, exec (.updDone b f) s = .next t ∧ t.updJobs = l ∧ t.get UPDATE.RESULT = 6 ∧
        bitOf (t.get (HDR.EVT 0x112)) EV.UPDATE.UPD_DONE = true ∧ t.get UPDATE.STATE = 1 ∧ t.mem = s.mem ∧
        SameRegs ([UPDATE.BUSY.key, UPDATE.RESULT.key] ++ logKeys ++ evKeys 0x112) s t) ∧
    (∀ (s : State) (j : UpdJob) (l : List UpdJob) (b : Bool) (f : Nat),
      s.updJobs = j :: l → j.tag = none → j.op = 4 → s.get UPDATE.STATE = 2 → s.get UPDATE.OWNER = j.cls.code → b = false →
        s.writeOk = true → j.arg % 4 = 0 →
      ∃ t : State, exec (.updDone b f) s = .next t ∧ t.updJobs = l ∧ t.get UPDATE.RESULT = 0 ∧
        bitOf (t.get (HDR.EVT 0x112)) EV.UPDATE.UPD_DONE = true ∧ t.get UPDATE.STATE = 0 ∧
        t.mem = (s.dirWrite (s.get UPDATE.TARGET) true).mem ∧
        SameRegs ([UPDATE.BUSY.key, UPDATE.RESULT.key, UPDATE.STATE.key] ++ logKeys ++ evKeys 0x112) s t) ∧
    (∀ (s : State) (j : UpdJob) (l : List UpdJob) (b : Bool) (f : Nat),
      s.updJobs = j :: l → j.tag = none → j.op = 5 → j.cls = .mgmt → s.on MGMT.RUNNING = true →
        s.get MGMT.SLOT = s.dirPref → b = false → s.writeOk = true →
      ∃ t : State, exec (.updDone b f) s = .next t ∧ t.updJobs = l ∧ t.get UPDATE.RESULT = 0 ∧
        bitOf (t.get (HDR.EVT 0x112)) EV.UPDATE.UPD_DONE = true ∧ t.mem = (s.dirWrite s.dirPref false).mem ∧
        SameRegs ([UPDATE.BUSY.key, UPDATE.RESULT.key] ++ logKeys ++ evKeys 0x112) s t) ∧
    (∀ (s : State) (j : UpdJob) (l : List UpdJob) (b : Bool) (f : Nat),
      s.updJobs = j :: l → j.tag = none → j.op = 6 → s.get UPDATE.STATE ≠ 0 →
        s.get UPDATE.OWNER = j.cls.code ∨ j.cls = .mgmt →
      ∃ t : State, exec (.updDone b f) s = .next t ∧ t.updJobs = l ∧ t.get UPDATE.RESULT = 0 ∧
        bitOf (t.get (HDR.EVT 0x112)) EV.UPDATE.UPD_DONE = true ∧ t.get UPDATE.STATE = 0 ∧
        t.word (slotBase (s.get UPDATE.TARGET)) = 0 ∧
        SameRegs ([UPDATE.BUSY.key, UPDATE.RESULT.key, UPDATE.STATE.key] ++ logKeys ++ evKeys 0x112) s t) ∧
    (∀ (s : State) (j : UpdJob) (l : List UpdJob) (b : Bool) (f : Nat),
      s.updJobs = j :: l → j.tag = none → j.op = 7 → j.cls = .mgmt → s.dirTrial = false → j.arg % 64 ≤ s.get MGMT.RB_ACT →
        b = false → s.writeOk = true →
      ∃ t : State, exec (.updDone b f) s = .next t ∧ t.updJobs = l ∧ t.get UPDATE.RESULT = 0 ∧
        bitOf (t.get (HDR.EVT 0x112)) EV.UPDATE.UPD_DONE = true ∧ t.otp = { s.otp with rb := max s.otp.rb (j.arg % 64) } ∧
        t.mem = s.mem ∧ SameRegs ([UPDATE.BUSY.key, UPDATE.RESULT.key, UPDATE.RB_CNT.key] ++ logKeys ++ evKeys 0x112) s t) ∧
    (∀ (s : State) (ws : List Nat) (b : Bool) (p : Packet),
      (s.sendClear.receiveAs 4 (some 2) ws b).1 = some p → (s.sendClear.receiveAs 4 (some 2) ws b).2.updJobs = [] →
        (s.sendClear.receiveAs 4 (some 2) ws b).2.act 0x112 = true →
        (s.sendClear.receiveAs 4 (some 2) ws b).2.mgmtDown = false →
      let u : State := (s.sendClear.receiveAs 4 (some 2) ws b).2;
      exec (.mgtUpdate ws b) s = .next (({ u with updJobs := [{ cls := .bb, op := bits p.w1 28 4, arg := bits p.w1 0 8, ofs := p.body.getD 0 0, len := p.body.getD 1 0, data := (p.body.drop 2).take (p.body.getD 1 0 / 4), tag := some (bits p.w1 16 8) }] } : State).set UPDATE.BUSY 1))

/-- GO with a firmware type writes a record of its class with the three words written; another type is refused with
ACCESS_DENIED. A record of DSP joins log RAM last, with the next sequence number. A due or commanded flush outside
the temperature window is deferred, once, with its event; else a CHECKPOINT and the unflushed records go to flash.
Without unflushed records nothing happens. RD_SEQ shows a record of log RAM, begins a read of one in flash, or
misses, and the end of that read shows it. An MGT log read is answered with its records. -/
def Obligations.LogRecords : Prop :=
  (∀ (s : State) (c : Cls) (t v : Nat),
      s.triggered c LOG.GO (2 ^ 31 + v % 4 * 65536 + t) = true → t < 256 →
      exec (.fwLogRecord c t v) s = .next (s.lands c LOG.GO []
      [fun u => u.logAs c.code t (v % 4) 0 (u.get (perClass LOG.FW_W4 c)) (u.get (perClass LOG.FW_W5 c)) (u.get (perClass LOG.FW_W6 c))])) ∧
    (∀ (s : State) (c : Cls) (t v : Nat),
      s.refusesPart c LOG.GO (2 ^ 31 + v % 4 * 65536 + t) stDENIED = true → t < 0x80 →
      exec (.fwLogRecord c t v) s = .next ((({ s with acks := [] } : State).refuseWrite c (regAddr LOG.GO.page LOG.GO.off) stDENIED).reply c [] stDENIED)) ∧
    (∀ (s : State) (t v : Nat),
      s.triggered .dsp LOG.GO (2 ^ 31 + v % 4 * 65536 + t) = true → t < 256 → (s.ripe .dsp LOG.GO).log.unflushed < 2048 →
        (s.ripe .dsp LOG.GO).log.head.length = 32 →
      let u : State := s.ripe .dsp LOG.GO;
      ∃ w : State, exec (.fwLogRecord .dsp t v) s = .next w ∧ (w.log.recs.getLast?.map (·.type)) = some t ∧
        (w.log.recs.getLast?.map (·.cls)) = some (Cls.dsp.code) ∧ (w.log.recs.getLast?.map (·.sev)) = some (v % 4) ∧
      (w.log.recs.getLast?.map (·.seq)) = some u.log.next ∧ w.get LOG.HEAD_SEQ = u.log.next % 2 ^ 32 ∧
        w.log.unflushed = u.log.unflushed + 1 ∧ w.mem = u.mem ∧ SameRegs (logKeys) u w) ∧
    (∀ (s : State),
      s.flushDue = true → 0 < s.log.unflushed → s.writeOk = false → s.log.deferred = false →
      exec (.logFlush) s = .next (((s.setLog (fun l => { l with deferred := true })).raise 0x111 EV.LOG.FLUSH_DEFERRED))) ∧
    (∀ (s : State),
      s.flushDue = true → 0 < s.log.unflushed → s.writeOk = true → s.log.unflushed < 2048 → s.log.lost = 0 →
        s.log.unflushed ≤ s.log.recs.length → s.log.recs.length < 2048 → s.ecc = [] → s.eccBase.look 1 = 0 →
      ∃ t : State, exec (.logFlush) s = .next t ∧ t.log.unflushed = 0 ∧ t.log.flashN = s.log.flashN + s.log.unflushed + 1 ∧
        t.log.flushAt = s.ao ∧ (t.log.flash.getLast?.map (·.type)) = some 1 ∧ t.get LOG.FLUSHED_SEQ = s.log.next % 2 ^ 32 ∧
      t.get LOG.HEAD_SEQ = s.log.next % 2 ^ 32 ∧ t.mem = s.mem ∧ SameRegs (LOG.FLUSHED_SEQ.key :: logKeys) s t) ∧
    (∀ (s : State) (c : Cls),
      s.triggered c LOG.FLUSH = true → 0 < (s.ripe c LOG.FLUSH).log.unflushed → (s.ripe c LOG.FLUSH).writeOk = false →
        (s.ripe c LOG.FLUSH).log.deferred = false →
      exec (.logFlushCmd c) s = .next (s.lands c LOG.FLUSH [] [fun u => ((u.setLog (fun l => { l with deferred := true })).raise 0x111 EV.LOG.FLUSH_DEFERRED)])) ∧
    (∀ (s : State) (c : Cls),
      s.triggered c LOG.FLUSH = true → 0 < (s.ripe c LOG.FLUSH).log.unflushed → (s.ripe c LOG.FLUSH).writeOk = true →
        (s.ripe c LOG.FLUSH).log.unflushed < 2048 → (s.ripe c LOG.FLUSH).log.lost = 0 →
        (s.ripe c LOG.FLUSH).log.unflushed ≤ (s.ripe c LOG.FLUSH).log.recs.length →
        (s.ripe c LOG.FLUSH).log.recs.length < 2048 → (s.ripe c LOG.FLUSH).ecc = [] →
        (s.ripe c LOG.FLUSH).eccBase.look 1 = 0 →
      let u : State := s.ripe c LOG.FLUSH;
      ∃ t : State, exec (.logFlushCmd c) s = .next t ∧ t.log.unflushed = 0 ∧
        t.log.flashN = u.log.flashN + u.log.unflushed + 1 ∧ t.log.flushAt = u.ao ∧
        (t.log.flash.getLast?.map (·.type)) = some 1 ∧ t.get LOG.FLUSHED_SEQ = u.log.next % 2 ^ 32 ∧
      t.get LOG.HEAD_SEQ = u.log.next % 2 ^ 32 ∧ t.mem = u.mem ∧ SameRegs (LOG.FLUSHED_SEQ.key :: logKeys) u t) ∧
    (∀ (s : State),
      s.flushDue = false ∨ s.log.unflushed = 0 →
      exec .logFlush s = .next s) ∧
    (∀ (s : State) (c : Cls),
      s.triggered c LOG.FLUSH = true → (s.ripe c LOG.FLUSH).log.unflushed = 0 →
      exec (.logFlushCmd c) s = .next (s.lands c LOG.FLUSH [] [fun u => u])) ∧
    (∀ (s : State) (c : Cls) (a q : Nat) (r : LogRec),
      s.accepts c LOG.RD_SEQ q = true → q < 2 ^ 32 → (s.ripe c LOG.RD_SEQ).ramRec q = some r →
      let u : State := s.ripe c LOG.RD_SEQ;
      ∃ t : State, exec (.logRdSeq c a q) s = .next t ∧ t.get LOG.RD_SEQ = q ∧ (∀ i, i < 8 →
        t.get (LOG.RD_W i) = r.words.getD i 0 % 2 ^ 32) ∧ t.get LOG.RD_MISS = 0 ∧ t.get LOG.RD_BUSY = 0 ∧ t.mem = u.mem ∧
      SameRegs ([LOG.RD_SEQ.key, LOG.RD_MISS.key, LOG.RD_BUSY.key] ++ (List.range 8).map (fun i => (LOG.RD_W i).key)) u t) ∧
    (∀ (s : State) (c : Cls) (a q : Nat) (r : LogRec),
      s.accepts c LOG.RD_SEQ q = true → q < 2 ^ 32 → (s.ripe c LOG.RD_SEQ).ramRec q = none →
        (s.ripe c LOG.RD_SEQ).flashRec q = some r →
      exec (.logRdSeq c a q) s = .next (s.lands c LOG.RD_SEQ
      [fun u => (((u.set LOG.RD_SEQ q).set LOG.RD_BUSY 1).set LOG.RD_MISS 0).setLog (fun l => { l with rd := some q })] [])) ∧
    (∀ (s : State) (c : Cls) (a q : Nat),
      s.accepts c LOG.RD_SEQ q = true → q < 2 ^ 32 → (s.ripe c LOG.RD_SEQ).ramRec q = none →
        (s.ripe c LOG.RD_SEQ).flashRec q = none →
      let u : State := s.ripe c LOG.RD_SEQ;
      ∃ t : State, exec (.logRdSeq c a q) s = .next t ∧ t.get LOG.RD_SEQ = q ∧ (∀ i, i < 8 → t.get (LOG.RD_W i) = 0) ∧
        t.get LOG.RD_MISS = 1 ∧ t.get LOG.RD_BUSY = 0 ∧ t.mem = u.mem ∧
      SameRegs ([LOG.RD_SEQ.key, LOG.RD_MISS.key, LOG.RD_BUSY.key] ++ (List.range 8).map (fun i => (LOG.RD_W i).key)) u t) ∧
    (∀ (s : State) (q : Nat) (r : LogRec),
      s.log.rd = some q → s.flashRec q = some r →
      ∃ t : State, exec .logFlashReadDone s = .next t ∧ (∀ i, i < 8 → t.get (LOG.RD_W i) = r.words.getD i 0 % 2 ^ 32) ∧
        t.get LOG.RD_MISS = 0 ∧ t.get LOG.RD_BUSY = 0 ∧ t.log.rd = none ∧ t.mem = s.mem ∧
      SameRegs ([LOG.RD_MISS.key, LOG.RD_BUSY.key] ++ (List.range 8).map (fun i => (LOG.RD_W i).key)) s t) ∧
    (∀ (s : State),
      s.log.rd = none →
      exec .logFlashReadDone s = .next s) ∧
    (∀ (s : State) (ws : List Nat) (b : Bool) (p : Packet),
      (s.sendClear.receiveAs 4 (some 3) ws b).1 = some p → 0 < p.w1 % 2 ^ 16 → p.w1 % 2 ^ 16 ≤ 64 →
      let u : State := (s.sendClear.receiveAs 4 (some 3) ws b).2;
      exec (.mgtLogRead ws b) s = .next (u.send 4 0x83 (p.w1 / 2 ^ 24 * 2 ^ 24 + (u.logRun (p.body.getD 0 0) (p.w1 % 2 ^ 16)).length) ([p.body.getD 0 0, 0] ++ ((u.logRun (p.body.getD 0 0) (p.w1 % 2 ^ 16)).map LogRec.words).flatten)))

/-- Where Sumac hears, each command counts for the 600 s. MODE, BAUD and RECOVER at level 0 and UPD below level 2 answer
ERR 9, WR at level 0 ACCESS_DENIED, and where Sumac does not hear nothing happens. At its level INFO shows its
words, RD and LOG read up to 64 items and answer ERR 8 for another count, CHAL answers a nonce, DROP ends the level,
START asks for M1 in M0 with BOOTSEL 2 and is else denied, WR writes a word, MODE and BAUD write their fields, or
answer ERR 8 beyond 7, RECOVER restarts from M2 with reason 5 and is else denied, and UPD issues an operation of
MON. ELEV of another length answers ERR 8; a token that fails is counted and logged, and the third in a row locks
elevation for 300 s. A break, the end of the times and MONITOR.DROP end the level; the lock ends at its time. -/
def Obligations.Sumac : Prop :=
  (∀ (s : State) (m : Nat),
      s.monHears = true → s.monElevated = false →
      exec (.sumacMode m) s = .next ((s.monDrop.setMon (fun m => { m with lastCmd := s.ao })).reply .mon [] 9)) ∧
    (∀ (s : State) (m : Nat),
      s.monHears = true → s.monElevated = false →
      exec (.sumacBaud m) s = .next ((s.monDrop.setMon (fun m => { m with lastCmd := s.ao })).reply .mon [] 9)) ∧
    (∀ (s : State),
      s.monHears = true → s.monElevated = false →
      exec (.sumacRecover) s = .next ((s.monDrop.setMon (fun m => { m with lastCmd := s.ao })).reply .mon [] 9)) ∧
    (∀ (s : State) (o a f : Nat) (d : List Nat),
      s.monHears = true → s.monElevated = true → (s.setMon (fun m => { m with lastCmd := s.ao })).monLevel < 2 →
      exec (.sumacUpd o a f d) s = .next ((s.setMon (fun m => { m with lastCmd := s.ao })).reply .mon [] 9)) ∧
    (∀ (s : State),
      s.monHears = false →
      exec (.sumacInfo) s = .next s) ∧
    (∀ (s : State) (a n : Nat),
      s.monHears = false →
      exec (.sumacRd a n) s = .next s) ∧
    (∀ (s : State),
      s.monHears = false →
      exec (.sumacChal) s = .next s) ∧
    (∀ (s : State) (w : List Nat),
      s.monHears = false →
      exec (.sumacElev w) s = .next s) ∧
    (∀ (s : State) (a v : Nat),
      s.monHears = false →
      exec (.sumacWr a v) s = .next s) ∧
    (∀ (s : State),
      s.monHears = true → s.monElevated = true → (s.setMon (fun m => { m with lastCmd := s.ao })).monElevated = true →
      let u : State := (s.setMon (fun m => { m with lastCmd := s.ao }));
      exec (.sumacInfo) s = .next (u.reply .mon [s.get DEVICE.PART, s.get DEVICE.STEP, s.otp.serial % 2 ^ 32, s.otp.serial / 2 ^ 32, s.mode, s.get DEVICE.BOOT_REASON, s.get DEVICE.LAST_FAIL, s.get DEVICE.FAIL_COUNT, s.get MGMT.SLOT, s.get MGMT.IMG_VER_ACT, s.get MGMT.RB_ACT] stOK)) ∧
    (∀ (s : State) (a n : Nat),
      s.monHears = true → s.monElevated = true → (s.setMon (fun m => { m with lastCmd := s.ao })).monElevated = true →
        0 < n → n ≤ 64 →
      let u : State := (s.setMon (fun m => { m with lastCmd := s.ao }));
      exec (.sumacRd a n) s = .next ((u.portReads .capture .mon true (a % 2 ^ 32) n).2.2.reply .mon (u.portReads .capture .mon true (a % 2 ^ 32) n).2.1 (firstBad (u.portReads .capture .mon true (a % 2 ^ 32) n).1))) ∧
    (∀ (s : State) (a n : Nat),
      s.monHears = true → s.monElevated = true → (s.setMon (fun m => { m with lastCmd := s.ao })).monElevated = true →
        n = 0 ∨ 64 < n →
      let u : State := (s.setMon (fun m => { m with lastCmd := s.ao }));
      exec (.sumacRd a n) s = .next (u.reply .mon [] 8)) ∧
    (∀ (s : State) (q n : Nat),
      s.monHears = true → s.monElevated = true → (s.setMon (fun m => { m with lastCmd := s.ao })).monElevated = true →
        0 < n → n ≤ 64 →
      let u : State := (s.setMon (fun m => { m with lastCmd := s.ao }));
      exec (.sumacLog q n) s = .next (u.reply .mon ((u.logRun (q % 2 ^ 32) n).map LogRec.words).flatten stOK)) ∧
    (∀ (s : State),
      s.monHears = true → s.monElevated = true → (s.setMon (fun m => { m with lastCmd := s.ao })).monElevated = true →
        s.rngFailed = false →
      let u : State := (s.setMon (fun m => { m with lastCmd := s.ao }));
      exec (.sumacChal) s = .next (((u.rngs 4).2.setMon (fun m => { m with nonce := some (u.rngs 4).1 })).reply .mon (u.rngs 4).1 stOK)) ∧
    (∀ (s : State),
      s.monHears = true → s.monElevated = true → (s.setMon (fun m => { m with lastCmd := s.ao })).monElevated = true →
      let u : State := (s.setMon (fun m => { m with lastCmd := s.ao }));
      exec (.sumacDrop) s = .next ((({ u with mon := { u.mon with until_ := 0 } } : State).set MONITOR.LEVEL 0).reply .mon [] stOK)) ∧
    (∀ (s : State),
      s.monHears = true → s.monElevated = true → (s.setMon (fun m => { m with lastCmd := s.ao })).monElevated = true →
        s.mode = 0 → s.get MGMT.BOOTSEL = 2 → s.trans = none →
      let u : State := (s.setMon (fun m => { m with lastCmd := s.ao }));
      exec (.sumacStart) s = .next ((u.modeJudge .mon false 1).reply .mon [] stOK)) ∧
    (∀ (s : State),
      s.monHears = true → s.monElevated = true → (s.setMon (fun m => { m with lastCmd := s.ao })).monElevated = true →
        s.mode ≠ 0 ∨ s.get MGMT.BOOTSEL ≠ 2 →
      let u : State := (s.setMon (fun m => { m with lastCmd := s.ao }));
      exec (.sumacStart) s = .next (u.reply .mon [] stDENIED)) ∧
    (∀ (s : State) (a v : Nat),
      s.monHears = true → s.monElevated = true → (s.setMon (fun m => { m with lastCmd := s.ao })).monElevated = true →
        1 ≤ (s.setMon (fun m => { m with lastCmd := s.ao })).get MONITOR.LEVEL →
      let u : State := (s.setMon (fun m => { m with lastCmd := s.ao }));
      exec (.sumacWr a v) s = .next ((u.portWrite .capture .mon 0 (a % 2 ^ 32) (v % 2 ^ 32)).2.reply .mon [] (u.portWrite .capture .mon 0 (a % 2 ^ 32) (v % 2 ^ 32)).1)) ∧
    (∀ (s : State) (a v : Nat),
      s.monHears = true → s.monElevated = false →
      exec (.sumacWr a v) s = .next ((s.monDrop.setMon (fun m => { m with lastCmd := s.ao })).reply .mon [] stDENIED)) ∧
    (∀ (s : State) (m : Nat),
      s.monHears = true → s.monElevated = true → (s.setMon (fun m => { m with lastCmd := s.ao })).monElevated = true →
        1 ≤ (s.setMon (fun m => { m with lastCmd := s.ao })).get MONITOR.LEVEL → m ≤ 7 →
        (s.setMon (fun m => { m with lastCmd := s.ao })).accepts .mon DEVICE.MODE_REQ m = true →
      let u : State := (s.setMon (fun m => { m with lastCmd := s.ao }));
      exec (.sumacMode m) s = .next (u.lands .mon DEVICE.MODE_REQ [fun w => w.modeReq .mon m] [])) ∧
    (∀ (s : State) (m : Nat),
      s.monHears = true → s.monElevated = true → (s.setMon (fun m => { m with lastCmd := s.ao })).monElevated = true →
        1 ≤ (s.setMon (fun m => { m with lastCmd := s.ao })).get MONITOR.LEVEL → 7 < m →
      let u : State := (s.setMon (fun m => { m with lastCmd := s.ao }));
      exec (.sumacMode m) s = .next (u.reply .mon [] 8)) ∧
    (∀ (s : State) (m : Nat),
      s.monHears = true → s.monElevated = true → (s.setMon (fun m => { m with lastCmd := s.ao })).monElevated = true →
        1 ≤ (s.setMon (fun m => { m with lastCmd := s.ao })).get MONITOR.LEVEL → m ≤ 7 →
        (s.setMon (fun m => { m with lastCmd := s.ao })).accepts .mon MONITOR.BAUD m = true →
      let u : State := (s.setMon (fun m => { m with lastCmd := s.ao }));
      exec (.sumacBaud m) s = .next (u.lands .mon MONITOR.BAUD [fun w => w.set MONITOR.BAUD m] [])) ∧
    (∀ (s : State) (m : Nat),
      s.monHears = true → s.monElevated = true → (s.setMon (fun m => { m with lastCmd := s.ao })).monElevated = true →
        1 ≤ (s.setMon (fun m => { m with lastCmd := s.ao })).get MONITOR.LEVEL → 7 < m →
      let u : State := (s.setMon (fun m => { m with lastCmd := s.ao }));
      exec (.sumacBaud m) s = .next (u.reply .mon [] 8)) ∧
    (∀ (s : State),
      s.monHears = true → s.monElevated = true → (s.setMon (fun m => { m with lastCmd := s.ao })).monElevated = true →
        1 ≤ (s.setMon (fun m => { m with lastCmd := s.ao })).get MONITOR.LEVEL → s.mode = 2 →
      let u : State := (s.setMon (fun m => { m with lastCmd := s.ao }));
      exec (.sumacRecover) s = .next ((u.deviceReset 5).reply .mon [] stOK)) ∧
    (∀ (s : State),
      s.monHears = true → s.monElevated = true → (s.setMon (fun m => { m with lastCmd := s.ao })).monElevated = true →
        1 ≤ (s.setMon (fun m => { m with lastCmd := s.ao })).get MONITOR.LEVEL → s.mode ≠ 2 →
      let u : State := (s.setMon (fun m => { m with lastCmd := s.ao }));
      exec (.sumacRecover) s = .next (u.reply .mon [] stDENIED)) ∧
    (∀ (s : State) (o a f : Nat) (d : List Nat),
      s.monHears = true → s.monElevated = true → (s.setMon (fun m => { m with lastCmd := s.ao })).monElevated = true →
        2 ≤ (s.setMon (fun m => { m with lastCmd := s.ao })).get MONITOR.LEVEL → o ≤ 7 → a ≤ 255 → d.length ≤ 64 →
        (s.setMon (fun m => { m with lastCmd := s.ao })).writeRefusal .mon UPDATE.GO 1 none = none → s.act 0x112 = true →
        s.on UPDATE.BUSY = false →
      let u : State := (s.setMon (fun m => { m with lastCmd := s.ao }));
      exec (.sumacUpd o a f d) s = .next ((u.updIssue { cls := .mon, op := o, arg := a, ofs := f % 2 ^ 32, len := 4 * d.length, data := d.map (trunc 32), tag := none }).reply .mon [] stOK)) ∧
    (∀ (s : State) (w : List Nat),
      s.monHears = true → s.monElevated = true → (s.setMon (fun m => { m with lastCmd := s.ao })).monElevated = true →
        w.length ≠ 42 →
      let u : State := (s.setMon (fun m => { m with lastCmd := s.ao }));
      exec (.sumacElev w) s = .next (u.reply .mon [] 8)) ∧
    (∀ (s : State) (w : List Nat),
      s.monHears = true → s.monElevated = true → (s.setMon (fun m => { m with lastCmd := s.ao })).monElevated = true →
        w.length = 42 → s.monLocked = false →
        ((s.setMon (fun m => { m with lastCmd := s.ao })).setMon (fun m => { m with nonce := none })).tokenCheck (w.map (trunc 32)) 1 s.mon.nonce ≠ 0 →
        s.mon.fails < 2 →
      ∃ t : State, exec (.sumacElev w) s = .next t ∧ t.mon.fails = s.mon.fails + 1 ∧ t.mon.nonce = none ∧
        t.answer = some ⟨.mon, [], stDENIED⟩ ∧ t.get MONITOR.LEVEL = s.get MONITOR.LEVEL ∧
        (t.log.recs.getLast?.map (·.type)) = some 7 ∧ t.mem = s.mem ∧
      SameRegs (MONITOR.ELEV_FAIL_CNT.key :: logKeys) s t) ∧
    (∀ (s : State) (w : List Nat),
      s.monHears = true → s.monElevated = true → (s.setMon (fun m => { m with lastCmd := s.ao })).monElevated = true →
        w.length = 42 → s.monLocked = false →
        ((s.setMon (fun m => { m with lastCmd := s.ao })).setMon (fun m => { m with nonce := none })).tokenCheck (w.map (trunc 32)) 1 s.mon.nonce ≠ 0 →
        2 ≤ s.mon.fails →
      ∃ t : State, exec (.sumacElev w) s = .next t ∧ t.mon.fails = 0 ∧ t.mon.lockEnd = s.ao + 300 * tickS ∧
        bitOf (t.get (HDR.EVT 0x113)) EV.MONITOR.ELEV_LOCKED = true ∧ t.answer = some ⟨.mon, [], stDENIED⟩ ∧
        t.mem = s.mem) ∧
    (∀ (s : State),
      s.deaf = false →
      exec .monrxBreak s = .next (({ s with mon := { s.mon with until_ := 0 } } : State).set MONITOR.LEVEL 0)) ∧
    (∀ (s : State),
      s.mon.until_ ≤ s.ao ∨ s.mon.lastCmd + 600 * tickS ≤ s.ao →
      exec .elevationExpiry s = .next (({ s with mon := { s.mon with until_ := 0 } } : State).set MONITOR.LEVEL 0)) ∧
    (∀ (s : State),
      s.monElevated = true →
      exec .elevationExpiry s = .next s) ∧
    (∀ (s : State),
      s.mon.lockEnd ≤ s.ao →
      exec .elevLockExpiry s = .next (s.setMon (fun m => { m with lockEnd := 0 }))) ∧
    (∀ (s : State),
      s.ao < s.mon.lockEnd →
      exec .elevLockExpiry s = .next s) ∧
    (∀ (s : State) (c : Cls),
      s.triggered c MONITOR.DROP = true →
      exec (.monitorDrop c) s = .next (s.lands c MONITOR.DROP [] [fun u => ({ u with mon := { u.mon with until_ := 0 } } : State).set MONITOR.LEVEL 0]))

/-- GO with an OTP operation stores OP and ARG and starts it, or stores them only while one is in progress. Nothing
completes where none was started. An operation that is not performed ends with the result of its checks and changes
no OTP bit, one whose read-back differs with 5 and a record; SCAN_PERMIT, REVOKE, PROG_HASH, LR_ADVANCE and GEN_ID,
performed, set their bits, words or counts and no other part of OTP, and show them. LR_GO starts a load of the
limits record at its aligned address, or fails with 9 while one runs. A record that fails a check ends with that
result and one that cannot be read with 8, with LR_FAIL. -/
def Obligations.OtpAndLimits : Prop :=
  (∀ (s : State) (c : Cls) (arg : Nat),
      arg < 32 → s.takes c SECURITY.OTP_OP (2 ^ 31 + 65536 + arg) = true →
        s.takes c SECURITY.OTP_ARG (2 ^ 31 + 65536 + arg) = true →
        s.takes c SECURITY.OTP_GO (2 ^ 31 + 65536 + arg) = true →
        (s.ripe c SECURITY.OTP_OP 3).on SECURITY.OTP_BUSY = false →
      exec (.progHash c arg) s = .next (s.lands c SECURITY.OTP_OP [fun u => u.set SECURITY.OTP_OP 1, fun u => u.set SECURITY.OTP_ARG arg]
      [fun u => (u.setSec (fun x => { x with otpJob := some (1, arg) })).set SECURITY.OTP_BUSY 1])) ∧
    (∀ (s : State) (c : Cls) (arg : Nat),
      arg < 32 → s.takes c SECURITY.OTP_OP (2 ^ 31 + 65536 + arg) = true →
        s.takes c SECURITY.OTP_ARG (2 ^ 31 + 65536 + arg) = true →
        s.takes c SECURITY.OTP_GO (2 ^ 31 + 65536 + arg) = true →
        (s.ripe c SECURITY.OTP_OP 3).on SECURITY.OTP_BUSY = true →
      exec (.progHash c arg) s = .next (s.lands c SECURITY.OTP_OP [fun u => u.set SECURITY.OTP_OP 1, fun u => u.set SECURITY.OTP_ARG arg] [fun u => u])) ∧
    (∀ (s : State) (c : Cls) (arg : Nat),
      arg < 32 → s.takes c SECURITY.OTP_OP (2 ^ 31 + 131072 + arg) = true →
        s.takes c SECURITY.OTP_ARG (2 ^ 31 + 131072 + arg) = true →
        s.takes c SECURITY.OTP_GO (2 ^ 31 + 131072 + arg) = true →
        (s.ripe c SECURITY.OTP_OP 3).on SECURITY.OTP_BUSY = false →
      exec (.revoke c arg) s = .next (s.lands c SECURITY.OTP_OP [fun u => u.set SECURITY.OTP_OP 2, fun u => u.set SECURITY.OTP_ARG arg]
      [fun u => (u.setSec (fun x => { x with otpJob := some (2, arg) })).set SECURITY.OTP_BUSY 1])) ∧
    (∀ (s : State) (c : Cls) (arg : Nat),
      arg < 32 → s.takes c SECURITY.OTP_OP (2 ^ 31 + 131072 + arg) = true →
        s.takes c SECURITY.OTP_ARG (2 ^ 31 + 131072 + arg) = true →
        s.takes c SECURITY.OTP_GO (2 ^ 31 + 131072 + arg) = true →
        (s.ripe c SECURITY.OTP_OP 3).on SECURITY.OTP_BUSY = true →
      exec (.revoke c arg) s = .next (s.lands c SECURITY.OTP_OP [fun u => u.set SECURITY.OTP_OP 2, fun u => u.set SECURITY.OTP_ARG arg] [fun u => u])) ∧
    (∀ (s : State) (c : Cls) (arg : Nat),
      arg < 32 → s.takes c SECURITY.OTP_OP (2 ^ 31 + 196608 + arg) = true →
        s.takes c SECURITY.OTP_ARG (2 ^ 31 + 196608 + arg) = true →
        s.takes c SECURITY.OTP_GO (2 ^ 31 + 196608 + arg) = true →
        (s.ripe c SECURITY.OTP_OP 3).on SECURITY.OTP_BUSY = false →
      exec (.scanPermit c arg) s = .next (s.lands c SECURITY.OTP_OP [fun u => u.set SECURITY.OTP_OP 3, fun u => u.set SECURITY.OTP_ARG arg]
      [fun u => (u.setSec (fun x => { x with otpJob := some (3, arg) })).set SECURITY.OTP_BUSY 1])) ∧
    (∀ (s : State) (c : Cls) (arg : Nat),
      arg < 32 → s.takes c SECURITY.OTP_OP (2 ^ 31 + 196608 + arg) = true →
        s.takes c SECURITY.OTP_ARG (2 ^ 31 + 196608 + arg) = true →
        s.takes c SECURITY.OTP_GO (2 ^ 31 + 196608 + arg) = true →
        (s.ripe c SECURITY.OTP_OP 3).on SECURITY.OTP_BUSY = true →
      exec (.scanPermit c arg) s = .next (s.lands c SECURITY.OTP_OP [fun u => u.set SECURITY.OTP_OP 3, fun u => u.set SECURITY.OTP_ARG arg] [fun u => u])) ∧
    (∀ (s : State) (c : Cls) (arg : Nat),
      arg < 32 → s.takes c SECURITY.OTP_OP (2 ^ 31 + 262144 + arg) = true →
        s.takes c SECURITY.OTP_ARG (2 ^ 31 + 262144 + arg) = true →
        s.takes c SECURITY.OTP_GO (2 ^ 31 + 262144 + arg) = true →
        (s.ripe c SECURITY.OTP_OP 3).on SECURITY.OTP_BUSY = false →
      exec (.genId c arg) s = .next (s.lands c SECURITY.OTP_OP [fun u => u.set SECURITY.OTP_OP 4, fun u => u.set SECURITY.OTP_ARG arg]
      [fun u => (u.setSec (fun x => { x with otpJob := some (4, arg) })).set SECURITY.OTP_BUSY 1])) ∧
    (∀ (s : State) (c : Cls) (arg : Nat),
      arg < 32 → s.takes c SECURITY.OTP_OP (2 ^ 31 + 262144 + arg) = true →
        s.takes c SECURITY.OTP_ARG (2 ^ 31 + 262144 + arg) = true →
        s.takes c SECURITY.OTP_GO (2 ^ 31 + 262144 + arg) = true →
        (s.ripe c SECURITY.OTP_OP 3).on SECURITY.OTP_BUSY = true →
      exec (.genId c arg) s = .next (s.lands c SECURITY.OTP_OP [fun u => u.set SECURITY.OTP_OP 4, fun u => u.set SECURITY.OTP_ARG arg] [fun u => u])) ∧
    (∀ (s : State) (c : Cls) (arg : Nat),
      arg < 32 → s.takes c SECURITY.OTP_OP (2 ^ 31 + 327680 + arg) = true →
        s.takes c SECURITY.OTP_ARG (2 ^ 31 + 327680 + arg) = true →
        s.takes c SECURITY.OTP_GO (2 ^ 31 + 327680 + arg) = true →
        (s.ripe c SECURITY.OTP_OP 3).on SECURITY.OTP_BUSY = false →
      exec (.lrAdvance c arg) s = .next (s.lands c SECURITY.OTP_OP [fun u => u.set SECURITY.OTP_OP 5, fun u => u.set SECURITY.OTP_ARG arg]
      [fun u => (u.setSec (fun x => { x with otpJob := some (5, arg) })).set SECURITY.OTP_BUSY 1])) ∧
    (∀ (s : State) (c : Cls) (arg : Nat),
      arg < 32 → s.takes c SECURITY.OTP_OP (2 ^ 31 + 327680 + arg) = true →
        s.takes c SECURITY.OTP_ARG (2 ^ 31 + 327680 + arg) = true →
        s.takes c SECURITY.OTP_GO (2 ^ 31 + 327680 + arg) = true →
        (s.ripe c SECURITY.OTP_OP 3).on SECURITY.OTP_BUSY = true →
      exec (.lrAdvance c arg) s = .next (s.lands c SECURITY.OTP_OP [fun u => u.set SECURITY.OTP_OP 5, fun u => u.set SECURITY.OTP_ARG arg] [fun u => u])) ∧
    (∀ (s : State) (bad : Bool),
      s.sec.otpJob = none →
      exec (.otpDone bad) s = .next s) ∧
    (∀ (s : State) (bad : Bool) (op arg : Nat),
      s.sec.otpJob = some (op, arg) → op ≤ 5 → s.otpResult op arg bad ≠ 1 → s.otpResult op arg bad ≠ 5 →
      ∃ t : State, exec (.otpDone bad) s = .next t ∧ t.get SECURITY.OTP_BUSY = 0 ∧
        t.get SECURITY.OTP_RESULT = s.otpResult op arg bad ∧ t.sec.otpJob = none ∧
        bitOf (t.get (HDR.EVT 0x002)) EV.SECURITY.OTP_DONE = true ∧ t.otp = s.otp ∧ t.mem = s.mem ∧
      SameRegs ([SECURITY.OTP_BUSY.key, SECURITY.OTP_RESULT.key] ++ evKeys 0x002) s t) ∧
    (∀ (s : State) (bad : Bool) (op arg : Nat),
      s.sec.otpJob = some (op, arg) → s.otpResult op arg bad = 5 →
      ∃ t : State, exec (.otpDone bad) s = .next t ∧ t.get SECURITY.OTP_BUSY = 0 ∧
        t.get SECURITY.OTP_RESULT = s.otpResult op arg bad ∧ t.sec.otpJob = none ∧
        bitOf (t.get (HDR.EVT 0x002)) EV.SECURITY.OTP_DONE = true ∧ t.otp = s.otp ∧ t.mem = s.mem ∧
      SameRegs ([SECURITY.OTP_BUSY.key, SECURITY.OTP_RESULT.key] ++ evKeys 0x002 ++ logKeys) s t) ∧
    (∀ (s : State) (bad : Bool),
      s.sec.otpJob = some (3, 0) → s.otpResult 3 0 bad = 1 →
      ∃ t : State, exec (.otpDone bad) s = .next t ∧ t.get SECURITY.OTP_BUSY = 0 ∧
        t.get SECURITY.OTP_RESULT = s.otpResult 3 0 bad ∧ t.sec.otpJob = none ∧
        bitOf (t.get (HDR.EVT 0x002)) EV.SECURITY.OTP_DONE = true ∧ t.otp.scanPermit = true ∧
        { t.otp with scanPermit := s.otp.scanPermit } = s.otp ∧ t.get SECURITY.SCAN_PERMIT = 1 ∧ t.mem = s.mem ∧
      SameRegs ([SECURITY.OTP_BUSY.key, SECURITY.OTP_RESULT.key, SECURITY.SCAN_PERMIT.key] ++ evKeys 0x002) s t) ∧
    (∀ (s : State) (bad : Bool) (k : Nat),
      s.sec.otpJob = some (2, k) → s.otpResult 2 k bad = 1 →
      ∃ t : State, exec (.otpDone bad) s = .next t ∧ t.get SECURITY.OTP_BUSY = 0 ∧
        t.get SECURITY.OTP_RESULT = s.otpResult 2 k bad ∧ t.sec.otpJob = none ∧
        bitOf (t.get (HDR.EVT 0x002)) EV.SECURITY.OTP_DONE = true ∧ bitOf t.otp.revoke k = true ∧ (∀ j, j ≠ k →
        bitOf t.otp.revoke j = bitOf s.otp.revoke j) ∧ { t.otp with revoke := s.otp.revoke } = s.otp ∧ t.mem = s.mem ∧
      SameRegs ([SECURITY.OTP_BUSY.key, SECURITY.OTP_RESULT.key, SECURITY.REVOKE.key] ++ evKeys 0x002) s t) ∧
    (∀ (s : State) (bad : Bool) (k : Nat),
      s.sec.otpJob = some (1, k) → s.otpResult 1 k bad = 1 → s.otp.hashes.length = 4 →
      ∃ t : State, exec (.otpDone bad) s = .next t ∧ t.get SECURITY.OTP_BUSY = 0 ∧
        t.get SECURITY.OTP_RESULT = s.otpResult 1 k bad ∧ t.sec.otpJob = none ∧
        bitOf (t.get (HDR.EVT 0x002)) EV.SECURITY.OTP_DONE = true ∧ t.otp.hashes.getD k [] = s.win SECURITY.KEY_HASH_IN 8 ∧
        { t.otp with hashes := s.otp.hashes } = s.otp ∧ (∀ i, i < 8 →
        t.get (SECURITY.HASH k i) = s.get (SECURITY.KEY_HASH_IN i)) ∧ t.mem = s.mem ∧
      SameRegs ([SECURITY.OTP_BUSY.key, SECURITY.OTP_RESULT.key, SECURITY.PROGRAMMED.key] ++ evKeys 0x002 ++ (List.range 8).map (fun i => (SECURITY.HASH k i).key)) s t) ∧
    (∀ (s : State) (bad : Bool) (v : Nat),
      s.sec.otpJob = some (5, v) → s.otpResult 5 v bad = 1 → s.otp.lrRb < 32 →
      ∃ t : State, exec (.otpDone bad) s = .next t ∧ t.get SECURITY.OTP_BUSY = 0 ∧
        t.get SECURITY.OTP_RESULT = s.otpResult 5 v bad ∧ t.sec.otpJob = none ∧
        bitOf (t.get (HDR.EVT 0x002)) EV.SECURITY.OTP_DONE = true ∧ t.otp.lrRb = max s.otp.lrRb v ∧
        { t.otp with lrRb := s.otp.lrRb } = s.otp ∧ t.mem = s.mem ∧
      SameRegs ([SECURITY.OTP_BUSY.key, SECURITY.OTP_RESULT.key, SECURITY.LR_RB.key] ++ evKeys 0x002) s t) ∧
    (∀ (s : State) (bad : Bool),
      s.sec.otpJob = some (4, 0) → s.otpResult 4 0 bad = 1 →
      ∃ t : State, exec (.otpDone bad) s = .next t ∧ t.get SECURITY.OTP_BUSY = 0 ∧
        t.get SECURITY.OTP_RESULT = s.otpResult 4 0 bad ∧ t.sec.otpJob = none ∧
        bitOf (t.get (HDR.EVT 0x002)) EV.SECURITY.OTP_DONE = true ∧ t.otp.provisioned = true ∧
        t.get SECURITY.PROVISIONED = 1 ∧ (∀ i, i < 16 →
        t.get (SECURITY.ID_PUB i) = (Config.pubOf t.otp.idPriv).getD i 0 % 2 ^ 32) ∧
        { t.otp with provisioned := s.otp.provisioned, idPriv := s.otp.idPriv } = s.otp ∧ t.mem = s.mem ∧
      SameRegs ([SECURITY.OTP_BUSY.key, SECURITY.OTP_RESULT.key, SECURITY.PROVISIONED.key] ++ evKeys 0x002 ++ (List.range 16).map (fun i => (SECURITY.ID_PUB i).key)) s t) ∧
    (∀ (s : State) (c : Cls),
      s.triggered c SECURITY.LR_GO = true → (s.ripe c SECURITY.LR_GO).on SECURITY.LR_BUSY = false →
      exec (.lrLoad c) s = .next (s.lands c SECURITY.LR_GO []
      [fun u => (u.setSec (fun x => { x with lrJob := some (u.get SECURITY.LR_ADDR / 4 * 4) })).set SECURITY.LR_BUSY 1])) ∧
    (∀ (s : State) (c : Cls),
      s.triggered c SECURITY.LR_GO = true → (s.ripe c SECURITY.LR_GO).on SECURITY.LR_BUSY = true →
      let u : State := s.ripe c SECURITY.LR_GO;
      ∃ t : State, exec (.lrLoad c) s = .next t ∧ t.get SECURITY.LR_RESULT = 9 ∧ t.sec = u.sec ∧
        t.get SECURITY.LR_BUSY = 1 ∧ bitOf (t.get (HDR.EVT 0x002)) EV.SECURITY.LR_FAIL = true ∧ t.mem = u.mem ∧
      SameRegs ([SECURITY.LR_RESULT.key, SECURITY.LR_FAIL_CNT.key] ++ evKeys 0x002) u t) ∧
    (∀ (s : State),
      s.sec.lrJob = none →
      exec .lrLoadDone s = .next s) ∧
    (∀ (s : State) (a : Nat) (w : List Nat),
      s.sec.lrJob = some a → s.lrRead a 132 = (some w, s) → s.lrCheck w ≠ 1 →
      ∃ t : State, exec .lrLoadDone s = .next t ∧ t.get SECURITY.LR_RESULT = s.lrCheck w ∧ t.sec.lrJob = none ∧
        t.get SECURITY.LR_BUSY = 0 ∧ bitOf (t.get (HDR.EVT 0x002)) EV.SECURITY.LR_FAIL = true ∧ t.mem = s.mem ∧
      SameRegs ([SECURITY.LR_RESULT.key, SECURITY.LR_BUSY.key, SECURITY.LR_FAIL_CNT.key] ++ evKeys 0x002) s t) ∧
    (∀ (s : State) (a : Nat),
      s.sec.lrJob = some a → s.lrRead a 132 = (none, s) →
      ∃ t : State, exec .lrLoadDone s = .next t ∧ t.get SECURITY.LR_RESULT = 8 ∧ t.sec.lrJob = none ∧
        t.get SECURITY.LR_BUSY = 0 ∧ bitOf (t.get (HDR.EVT 0x002)) EV.SECURITY.LR_FAIL = true ∧ t.mem = s.mem ∧
      SameRegs ([SECURITY.LR_RESULT.key, SECURITY.LR_BUSY.key, SECURITY.LR_FAIL_CNT.key] ++ evKeys 0x002) s t)

/-- GO with a key operation stores OP and starts it, or gives 8 while one runs; nothing ends where none was started.
With the generator failed it ends with 6; GEN_EPH makes an ephemeral key and shows its public key; DERIVE that fails
a check ends with that result; ATTEST shows the report and its signature. A session key takes effect at KEY_TB with
the frame counters at 0, and not before. RNG_DATA gives a word to MGMT with the generator ready, and 0 otherwise; a
failed health test sets RNG_STAT and raises RNG_FAIL. CHAL makes a fresh nonce, or none with the generator failed.
UNLOCK in M7 starts the clearing and elsewhere gives 8; at its end without the scan permit the unlock fails with 7. -/
def Obligations.KeysAndDebug : Prop :=
  (∀ (s : State) (c : Cls),
      s.takes c SECURITY.KE_OP (2 ^ 31 + 65536) = true → s.takes c SECURITY.KE_GO (2 ^ 31 + 65536) = true →
        (s.ripe c SECURITY.KE_OP 2).on SECURITY.KE_BUSY = false →
      exec (.genEph c) s = .next (s.lands c SECURITY.KE_OP [fun u => u.set SECURITY.KE_OP 1] [fun u => (u.setSec (fun x => { x with keJob := some 1 })).set SECURITY.KE_BUSY 1])) ∧
    (∀ (s : State) (c : Cls),
      s.takes c SECURITY.KE_OP (2 ^ 31 + 65536) = true → s.takes c SECURITY.KE_GO (2 ^ 31 + 65536) = true →
        (s.ripe c SECURITY.KE_OP 2).on SECURITY.KE_BUSY = true →
      exec (.genEph c) s = .next (s.lands c SECURITY.KE_OP [fun u => u.set SECURITY.KE_OP 1] [fun u => u.set SECURITY.KE_RESULT 8])) ∧
    (∀ (s : State) (c : Cls),
      s.takes c SECURITY.KE_OP (2 ^ 31 + 131072) = true → s.takes c SECURITY.KE_GO (2 ^ 31 + 131072) = true →
        (s.ripe c SECURITY.KE_OP 2).on SECURITY.KE_BUSY = false →
      exec (.derive c) s = .next (s.lands c SECURITY.KE_OP [fun u => u.set SECURITY.KE_OP 2] [fun u => (u.setSec (fun x => { x with keJob := some 2 })).set SECURITY.KE_BUSY 1])) ∧
    (∀ (s : State) (c : Cls),
      s.takes c SECURITY.KE_OP (2 ^ 31 + 131072) = true → s.takes c SECURITY.KE_GO (2 ^ 31 + 131072) = true →
        (s.ripe c SECURITY.KE_OP 2).on SECURITY.KE_BUSY = true →
      exec (.derive c) s = .next (s.lands c SECURITY.KE_OP [fun u => u.set SECURITY.KE_OP 2] [fun u => u.set SECURITY.KE_RESULT 8])) ∧
    (∀ (s : State) (c : Cls),
      s.takes c SECURITY.KE_OP (2 ^ 31 + 196608) = true → s.takes c SECURITY.KE_GO (2 ^ 31 + 196608) = true →
        (s.ripe c SECURITY.KE_OP 2).on SECURITY.KE_BUSY = false →
      exec (.attest c) s = .next (s.lands c SECURITY.KE_OP [fun u => u.set SECURITY.KE_OP 3] [fun u => (u.setSec (fun x => { x with keJob := some 3 })).set SECURITY.KE_BUSY 1])) ∧
    (∀ (s : State) (c : Cls),
      s.takes c SECURITY.KE_OP (2 ^ 31 + 196608) = true → s.takes c SECURITY.KE_GO (2 ^ 31 + 196608) = true →
        (s.ripe c SECURITY.KE_OP 2).on SECURITY.KE_BUSY = true →
      exec (.attest c) s = .next (s.lands c SECURITY.KE_OP [fun u => u.set SECURITY.KE_OP 3] [fun u => u.set SECURITY.KE_RESULT 8])) ∧
    (∀ (s : State),
      s.sec.keJob = none →
      exec .keDone s = .next s) ∧
    (∀ (s : State) (op : Nat),
      s.sec.keJob = some op → s.rngFailed = true →
      ∃ t : State, exec .keDone s = .next t ∧ t.get SECURITY.KE_RESULT = 6 ∧ t.get SECURITY.KE_BUSY = 0 ∧
        t.sec.keJob = none ∧ bitOf (t.get (HDR.EVT 0x002)) EV.SECURITY.KE_DONE = true ∧
        { t.sec with keJob := some op } = s.sec ∧ t.mem = s.mem ∧
      SameRegs ([SECURITY.KE_BUSY.key, SECURITY.KE_RESULT.key] ++ evKeys 0x002) s t) ∧
    (∀ (s : State),
      s.sec.keJob = some 1 → s.rngFailed = false →
      ∃ t : State, exec .keDone s = .next t ∧ t.get SECURITY.KE_RESULT = 1 ∧ t.get SECURITY.KE_BUSY = 0 ∧
        t.sec.keJob = none ∧ bitOf (t.get (HDR.EVT 0x002)) EV.SECURITY.KE_DONE = true ∧ t.sec.eph.isSome ∧
        t.sec.key = s.sec.key ∧ (∀ i, i < 16 →
        t.get (SECURITY.KE_PUB i) = (Config.pubOf (t.sec.eph.getD 0)).getD i 0 % 2 ^ 32) ∧ t.mem = s.mem ∧
      SameRegs ([SECURITY.KE_BUSY.key, SECURITY.KE_RESULT.key] ++ (List.range 16).map (fun i => (SECURITY.KE_PUB i).key) ++ evKeys 0x002) s t) ∧
    (∀ (s : State),
      s.sec.keJob = some 2 → s.rngFailed = false → s.keyRamBad = none → s.deriveCheck ≠ 1 →
      ∃ t : State, exec .keDone s = .next t ∧ t.get SECURITY.KE_RESULT = s.deriveCheck ∧ t.get SECURITY.KE_BUSY = 0 ∧
        t.sec.keJob = none ∧ bitOf (t.get (HDR.EVT 0x002)) EV.SECURITY.KE_DONE = true ∧
        { t.sec with keJob := some 2 } = s.sec ∧ t.mem = s.mem ∧
      SameRegs ([SECURITY.KE_BUSY.key, SECURITY.KE_RESULT.key] ++ evKeys 0x002) s t) ∧
    (∀ (s : State),
      s.sec.keJob = some 3 → s.rngFailed = false → s.keyRamBad = none →
      ∃ t : State, exec .keDone s = .next t ∧ t.get SECURITY.KE_RESULT = 1 ∧ t.get SECURITY.KE_BUSY = 0 ∧
        t.sec.keJob = none ∧ bitOf (t.get (HDR.EVT 0x002)) EV.SECURITY.KE_DONE = true ∧ t.sec.key = s.sec.key ∧
        (∀ i, i < 32 → t.get (SECURITY.ATT_W i) = s.report.getD i 0 % 2 ^ 32) ∧ t.mem = s.mem ∧
      SameRegs ([SECURITY.KE_BUSY.key, SECURITY.KE_RESULT.key] ++ (List.range 32).map (fun i => (SECURITY.ATT_W i).key) ++ (List.range 16).map (fun i => (SECURITY.KE_SIG i).key) ++ evKeys 0x002) s t) ∧
    (∀ (s : State) (t k : Nat),
      s.sec.keyAt = some t → s.sec.newKey = some k → t ≤ s.tb →
      exec .sessionKeySwitch s = .next (((s.setSec (fun c => { c with key := k, newKey := none, keyAt := none })).setErl (fun e => { e with ctr := [] })).set64 SECURITY.KEY_TB_LO SECURITY.KEY_TB_HI t)) ∧
    (∀ (s : State),
      (s.sec.keyAt.any (fun t => decide (t ≤ s.tb)) && s.sec.newKey.isSome) = false →
      exec .sessionKeySwitch s = .next s) ∧
    (∀ (s : State),
      s.deaf = false → 1 ≤ s.right 0x002 .mgmt → s.testPortAllows .mgmt false 0x002 0x064 0 = true →
        bitOf (s.get SECURITY.RNG_STAT) 0 = true →
      exec (.rngDataRead .mgmt) s = .next (s.rng.2.reply .mgmt [s.rng.1] stOK)) ∧
    (∀ (s : State) (c : Cls),
      s.deaf = false → 1 ≤ s.right 0x002 c → s.testPortAllows c false 0x002 0x064 0 = true →
        c ≠ .mgmt ∨ bitOf (s.get SECURITY.RNG_STAT) 0 = false →
      exec (.rngDataRead c) s = .next (s.reply c [0] stOK)) ∧
    (∀ (s : State),
      ∃ t : State, exec .rngFail s = .next t ∧ t.get SECURITY.RNG_STAT = 2 ∧ t.rngFailed = true ∧
        bitOf (t.get (HDR.EVT 0x002)) EV.SECURITY.RNG_FAIL = true ∧ t.mem = s.mem ∧
      SameRegs (SECURITY.RNG_STAT.key :: evKeys 0x002) s t) ∧
    (∀ (s : State) (c : Cls),
      s.triggered c SECURITY.CHAL = true → (s.ripe c SECURITY.CHAL).rngFailed = false →
      exec (.dbgChal c) s = .next (s.lands c SECURITY.CHAL []
      [fun u => ((u.rngs 4).2.setWin SECURITY.DBG_NONCE (u.rngs 4).1).setSec (fun x => { x with dbgLive := true })])) ∧
    (∀ (s : State) (c : Cls),
      s.triggered c SECURITY.CHAL = true → (s.ripe c SECURITY.CHAL).rngFailed = true →
      exec (.dbgChal c) s = .next (s.lands c SECURITY.CHAL [] [fun u => u])) ∧
    (∀ (s : State) (c : Cls),
      s.triggered c SECURITY.UNLOCK = true → (s.ripe c SECURITY.UNLOCK).mode = 7 →
      exec (.dbgUnlock c) s = .next (s.lands c SECURITY.UNLOCK [] [fun u => u.setSec (fun x => { x with unlocking := true })])) ∧
    (∀ (s : State) (c : Cls),
      s.triggered c SECURITY.UNLOCK = true → (s.ripe c SECURITY.UNLOCK).mode ≠ 7 →
      exec (.dbgUnlock c) s = .next (s.lands c SECURITY.UNLOCK []
      [fun u => ((u.set SECURITY.DBG_RESULT 8).count SECURITY.UNLOCK_FAIL_CNT).raiseLog 2 0x002 EV.SECURITY.UNLOCK_FAIL])) ∧
    (∀ (s : State),
      s.sec.unlocking = false →
      exec .clearDone s = .next s) ∧
    (∀ (s : State),
      s.sec.unlocking = true → s.otp.scanPermit = false →
      ∃ t : State, exec .clearDone s = .next t ∧ t.get SECURITY.DBG_RESULT = 7 ∧
        bitOf (t.get (HDR.EVT 0x002)) EV.SECURITY.UNLOCK_FAIL = true ∧
        bitOf (t.get (HDR.EVT 0x002)) EV.SECURITY.CLEAR_DONE = true ∧ t.sec.unlocking = false ∧
        t.get SECURITY.DBG_EN = s.get SECURITY.DBG_EN ∧ t.get SECURITY.SCAN_EN = s.get SECURITY.SCAN_EN)

/-- A visit on a memory that is not scrubbed does nothing; a sound word moves it on, a correctable one is corrected and
reported, an uncorrectable one stays and is reported. GO of the fuse map stores OP and ARG and starts the operation,
or stores them only while one runs; a failed one ends with its result, PROG_FAIL and a record, a good one writes the
next empty slot or cancels the one named. A self-test outside M7 gives 4, while one runs or on a memory in use 5,
and otherwise starts; the test of the taps holds their results. ABORT marks the run. Each test ends with its result,
event and findings, an aborted one with 6, that of the data cache with the cache empty, and POP takes a result off. -/
def Obligations.ScrubFuseBist : Prop :=
  (∀ (s : State) (m upset : Nat),
      s.scrubs m = false →
      exec (.scrubVisit m upset) s = .next s) ∧
    (∀ (s : State) (m : Nat),
      s.scrubs m = true → s.bist.scrubAt.look m ≠ 0 → s.bist.scrubAt.look m + 1 < scrubWords m →
        s.eccOf m (s.bist.scrubAt.look m) = 0 →
      exec (.scrubVisit m 0) s = .next (s.setBist (fun b => { b with scrubAt := b.scrubAt.put m (s.bist.scrubAt.look m + 1) }))) ∧
    (∀ (s : State) (m b : Nat),
      s.scrubs m = true → s.bist.scrubAt.look m ≠ 0 → s.bist.scrubAt.look m + 1 < scrubWords m → b < 72 → m ≠ 2 → m ≠ 33 ∧
        m ≠ 34 →
      let u : State := (s.setEcc m (s.bist.scrubAt.look m) 0).eccCE m (s.bist.scrubAt.look m) b reqSCRUB;
      exec (.scrubVisit m (b + 1)) s = .next (u.setBist (fun x => { x with scrubAt := x.scrubAt.put m (s.bist.scrubAt.look m + 1) }))) ∧
    (∀ (s : State) (m : Nat),
      s.scrubs m = true → s.bist.scrubAt.look m ≠ 0 → s.bist.scrubAt.look m + 1 < scrubWords m → m ≠ 2 →
      let u : State := (s.setEcc m (s.bist.scrubAt.look m) 0xFF).eccUE m (s.bist.scrubAt.look m) reqSCRUB;
      exec (.scrubVisit m 255) s = .next (u.setBist (fun x => { x with scrubAt := x.scrubAt.put m (s.bist.scrubAt.look m + 1) }))) ∧
    (∀ (s : State) (c : Cls),
      s.takes c FUSEMAP.OP (2 ^ 31 + 256 + 0) = true → s.takes c FUSEMAP.ARG (2 ^ 31 + 256 + 0) = true →
        s.takes c FUSEMAP.GO (2 ^ 31 + 256 + 0) = true → (s.ripe c FUSEMAP.OP 3).on FUSEMAP.BUSY = false →
      exec (.fuseProgram c) s = .next (s.lands c FUSEMAP.OP [fun u => u.set FUSEMAP.OP 1, fun u => u.set FUSEMAP.ARG 0]
      [fun u => (u.setBist (fun b => { b with fuse := some (1, 0, u.get FUSEMAP.PROG_ENTRY) })).set FUSEMAP.BUSY 1])) ∧
    (∀ (s : State) (c : Cls),
      s.takes c FUSEMAP.OP (2 ^ 31 + 256 + 0) = true → s.takes c FUSEMAP.ARG (2 ^ 31 + 256 + 0) = true →
        s.takes c FUSEMAP.GO (2 ^ 31 + 256 + 0) = true → (s.ripe c FUSEMAP.OP 3).on FUSEMAP.BUSY = true →
      exec (.fuseProgram c) s = .next (s.lands c FUSEMAP.OP [fun u => u.set FUSEMAP.OP 1, fun u => u.set FUSEMAP.ARG 0] [fun u => u])) ∧
    (∀ (s : State) (c : Cls) (arg : Nat),
      arg < 32 → s.takes c FUSEMAP.OP (2 ^ 31 + 512 + arg) = true → s.takes c FUSEMAP.ARG (2 ^ 31 + 512 + arg) = true →
        s.takes c FUSEMAP.GO (2 ^ 31 + 512 + arg) = true → (s.ripe c FUSEMAP.OP 3).on FUSEMAP.BUSY = false →
      exec (.fuseCancel c arg) s = .next (s.lands c FUSEMAP.OP [fun u => u.set FUSEMAP.OP 2, fun u => u.set FUSEMAP.ARG arg]
      [fun u => (u.setBist (fun b => { b with fuse := some (2, arg, u.get FUSEMAP.PROG_ENTRY) })).set FUSEMAP.BUSY 1])) ∧
    (∀ (s : State) (c : Cls) (arg : Nat),
      arg < 32 → s.takes c FUSEMAP.OP (2 ^ 31 + 512 + arg) = true → s.takes c FUSEMAP.ARG (2 ^ 31 + 512 + arg) = true →
        s.takes c FUSEMAP.GO (2 ^ 31 + 512 + arg) = true → (s.ripe c FUSEMAP.OP 3).on FUSEMAP.BUSY = true →
      exec (.fuseCancel c arg) s = .next (s.lands c FUSEMAP.OP [fun u => u.set FUSEMAP.OP 2, fun u => u.set FUSEMAP.ARG arg] [fun u => u])) ∧
    (∀ (s : State) (bad : Bool),
      s.bist.fuse = none →
      exec (.fuseDone bad) s = .next s) ∧
    (∀ (s : State) (bad : Bool) (op arg e : Nat),
      s.bist.fuse = some (op, arg, e) → s.fuseResult op arg e bad ≠ 1 →
      ∃ t : State, exec (.fuseDone bad) s = .next t ∧ t.get FUSEMAP.RESULT = s.fuseResult op arg e bad ∧
        t.get FUSEMAP.BUSY = 0 ∧ bitOf (t.get (HDR.EVT 0x11A)) EV.FUSEMAP.PROG_FAIL = true ∧ t.bist.fuse = none ∧
        t.otp = s.otp ∧ t.mem = s.mem ∧
      SameRegs ([FUSEMAP.RESULT.key, FUSEMAP.BUSY.key] ++ evKeys 0x11A ++ logKeys) s t) ∧
    (∀ (s : State) (arg e k : Nat),
      s.bist.fuse = some (1, arg, e) → s.fuseResult 1 arg e false = 1 → s.otp.field.findIdx? (fun x => x == 0) = some k →
      ∃ t : State, exec (.fuseDone false) s = .next t ∧ t.get FUSEMAP.RESULT = 1 ∧ t.get FUSEMAP.BUSY = 0 ∧
        t.get FUSEMAP.PENDING = 1 ∧ bitOf (t.get (HDR.EVT 0x11A)) EV.FUSEMAP.PROG_DONE = true ∧ t.bist.fuse = none ∧
        t.otp.field = s.otp.field.set k e ∧ { t.otp with field := s.otp.field } = s.otp ∧ t.mem = s.mem ∧
      SameRegs ([FUSEMAP.RESULT.key, FUSEMAP.BUSY.key, FUSEMAP.PENDING.key, FUSEMAP.FIELD_USED.key, (FUSEMAP.FIELD k).key] ++ evKeys 0x11A) s t) ∧
    (∀ (s : State) (k e : Nat),
      s.bist.fuse = some (2, k, e) → s.fuseResult 2 k e false = 1 →
      ∃ t : State, exec (.fuseDone false) s = .next t ∧ t.get FUSEMAP.RESULT = 1 ∧ t.get FUSEMAP.BUSY = 0 ∧
        t.get FUSEMAP.PENDING = 1 ∧ bitOf (t.get (HDR.EVT 0x11A)) EV.FUSEMAP.PROG_DONE = true ∧ t.bist.fuse = none ∧
        t.otp.field = s.otp.field.set k (s.otp.field.getD k 0 ||| 3 * 2 ^ 30) ∧
        { t.otp with field := s.otp.field } = s.otp ∧ t.mem = s.mem ∧
      SameRegs ([FUSEMAP.RESULT.key, FUSEMAP.BUSY.key, FUSEMAP.PENDING.key, FUSEMAP.FIELD_USED.key, (FUSEMAP.FIELD k).key] ++ evKeys 0x11A) s t) ∧
    (∀ (s : State) (c : Cls) (t : Nat),
      t < 256 → s.takes c BIST.TARGET (2 ^ 31 + t) = true → s.takes c BIST.GO (2 ^ 31 + t) = true →
        (s.ripe c BIST.TARGET 2).mode ≠ 7 →
      exec (.bistGo c t) s = .next (s.lands c BIST.TARGET [fun u => u.set BIST.TARGET t] [fun u => u.set BIST.RESULT 4])) ∧
    (∀ (s : State) (c : Cls) (t : Nat),
      t < 256 → s.takes c BIST.TARGET (2 ^ 31 + t) = true → s.takes c BIST.GO (2 ^ 31 + t) = true →
        (s.ripe c BIST.TARGET 2).mode = 7 → (s.ripe c BIST.TARGET 2).on BIST.BUSY = true ∨ t < 36 ∧
        (s.ripe c BIST.TARGET 2).memInUse t = true →
      exec (.bistGo c t) s = .next (s.lands c BIST.TARGET [fun u => u.set BIST.TARGET t] [fun u => u.set BIST.RESULT 5])) ∧
    (∀ (s : State) (c : Cls) (t : Nat),
      t < 256 → s.takes c BIST.TARGET (2 ^ 31 + t) = true → s.takes c BIST.GO (2 ^ 31 + t) = true →
        (s.ripe c BIST.TARGET 2).mode = 7 → (s.ripe c BIST.TARGET 2).on BIST.BUSY = false → 0x40 ≤ t → t ≤ 0x44 →
        t ≠ 0x42 →
      exec (.bistGo c t) s = .next (s.lands c BIST.TARGET [fun u => u.set BIST.TARGET t] [fun u => ((u.setBist (fun b => { b with mems := [], run := some t, abort := false })).set BIST.BUSY 1).count BIST.RUN_CNT])) ∧
    (∀ (s : State) (c : Cls),
      s.takes c BIST.TARGET (2 ^ 31 + 0x42) = true → s.takes c BIST.GO (2 ^ 31 + 0x42) = true →
        (s.ripe c BIST.TARGET 2).mode = 7 → (s.ripe c BIST.TARGET 2).on BIST.BUSY = false →
      exec (.bistGo c 0x42) s = .next (s.lands c BIST.TARGET [fun u => u.set BIST.TARGET 0x42] [fun u => (((u.setBist (fun b => { b with mems := [], run := some 0x42, abort := false })).tapsTest true).set BIST.BUSY 1).count BIST.RUN_CNT])) ∧
    (∀ (s : State) (c : Cls) (t : Nat),
      t < 256 → s.takes c BIST.TARGET (2 ^ 31 + t) = true → s.takes c BIST.GO (2 ^ 31 + t) = true →
        (s.ripe c BIST.TARGET 2).mode = 7 → (s.ripe c BIST.TARGET 2).on BIST.BUSY = false → t < 3 ∨ t = 33 ∨ t = 34 →
        (s.ripe c BIST.TARGET 2).memInUse t = false →
      exec (.bistGo c t) s = .next (s.lands c BIST.TARGET [fun u => u.set BIST.TARGET t] [fun u => ((u.setBist (fun b => { b with mems := [t], run := some t, abort := false })).set BIST.BUSY 1).count BIST.RUN_CNT])) ∧
    (∀ (s : State) (c : Cls) (t : Nat),
      s.triggered c BIST.ABORT = true → (s.ripe c BIST.ABORT).bist.run = some t →
      exec (.bistAbort c) s = .next (s.lands c BIST.ABORT [] [fun u => u.setBist (fun b => { b with abort := true })])) ∧
    (∀ (s : State) (c : Cls),
      s.triggered c BIST.ABORT = true → (s.ripe c BIST.ABORT).bist.run = none →
      exec (.bistAbort c) s = .next (s.lands c BIST.ABORT [] [fun u => u])) ∧
    (∀ (s : State) (fl : List (Nat × Nat)) (tx rx cal : Nat) (dev : Int),
      s.bist.run = none →
      exec (.bistDone fl tx rx cal dev) s = .next s) ∧
    (∀ (s : State) (fl : List (Nat × Nat)) (tx rx cal : Nat) (dev : Int),
      s.bist.run = some 0x40 → s.bist.mems = [] → s.bist.abort = false → dev.natAbs < 32768 →
      ∃ t : State, exec (.bistDone fl tx rx cal dev) s = .next t ∧
        t.get BIST.RESULT = (if dev.natAbs ≤ 500 then 1 else 3) ∧ t.geti BIST.RREF_DEV = dev ∧ t.get BIST.BUSY = 0 ∧
        t.bist.run = none ∧ t.bist.abort = false ∧ bitOf (t.get (HDR.EVT 0x119)) EV.BIST.BIST_DONE = true ∧ t.mem = s.mem ∧
      SameRegs ([BIST.BUSY.key, BIST.RESULT.key, BIST.RREF_DEV.key] ++ evKeys 0x119) s t) ∧
    (∀ (s : State) (fl : List (Nat × Nat)) (tx rx cal : Nat) (dev : Int),
      s.bist.run = some 0x41 → s.bist.mems = [] → s.bist.abort = false → dev.natAbs < 32768 →
      ∃ t : State, exec (.bistDone fl tx rx cal dev) s = .next t ∧
        t.get BIST.RESULT = (if dev.natAbs ≤ 100 then 1 else 3) ∧ t.geti BIST.HK_DEV = dev ∧ t.get BIST.BUSY = 0 ∧
        t.bist.run = none ∧ t.bist.abort = false ∧ bitOf (t.get (HDR.EVT 0x119)) EV.BIST.BIST_DONE = true ∧ t.mem = s.mem ∧
      SameRegs ([BIST.BUSY.key, BIST.RESULT.key, BIST.HK_DEV.key] ++ evKeys 0x119) s t) ∧
    (∀ (s : State) (fl : List (Nat × Nat)) (tx rx cal : Nat) (dev : Int) (k : Nat),
      s.bist.run = some k → s.bist.abort = true → s.bist.mems = [] →
      ∃ t : State, exec (.bistDone fl tx rx cal dev) s = .next t ∧ t.get BIST.RESULT = 6 ∧ t.get BIST.BUSY = 0 ∧
        t.bist.run = none ∧ t.bist.abort = false ∧ bitOf (t.get (HDR.EVT 0x119)) EV.BIST.BIST_DONE = true ∧ t.mem = s.mem ∧
      SameRegs ([BIST.BUSY.key, BIST.RESULT.key] ++ evKeys 0x119) s t) ∧
    (∀ (s : State) (fl : List (Nat × Nat)) (tx rx cal : Nat) (dev : Int),
      s.bist.run = some 0x43 → s.bist.mems = [] → s.bist.abort = false → rx < 2 ^ 64 →
      ∃ t : State, exec (.bistDone fl tx rx cal dev) s = .next t ∧ t.get BIST.RESULT = (if rx = 0 ∧
        cal / 2 % 2 = 0 then 1 else 3) ∧
        t.get BIST.PATH_FAIL_RX_LO = (s.get BIST.PATH_FAIL_RX_LO ||| rx % 2 ^ 32) % 2 ^ 32 ∧
        t.get BIST.PATH_FAIL_RX_HI = (s.get BIST.PATH_FAIL_RX_HI ||| rx / 2 ^ 32) % 2 ^ 32 ∧ t.get BIST.BUSY = 0 ∧
        t.bist.run = none ∧ t.bist.abort = false ∧ bitOf (t.get (HDR.EVT 0x119)) EV.BIST.BIST_DONE = true ∧ t.mem = s.mem ∧
      SameRegs ([BIST.BUSY.key, BIST.RESULT.key, BIST.CAL_FAIL.key, BIST.PATH_FAIL_RX_LO.key, BIST.PATH_FAIL_RX_HI.key] ++ evKeys 0x119) s t) ∧
    (∀ (s : State) (fl : List (Nat × Nat)) (tx rx cal : Nat) (dev : Int),
      s.bist.run = some 33 → s.bist.mems = [33] → s.bist.abort = false →
      ∃ t : State, exec (.bistDone fl tx rx cal dev) s = .next t ∧
        t.get BIST.RESULT = (if fl = [] then 1 else if fl.all (fun e => bitOf e.2 8) then 2 else 3) ∧
        t.bist.fifo = s.bist.fifo ++ fl.take (16 - s.bist.fifo.length) ∧ t.get BIST.BUSY = 0 ∧ t.bist.run = none ∧
        t.bist.abort = false ∧ bitOf (t.get (HDR.EVT 0x119)) EV.BIST.BIST_DONE = true ∧ t.mgmt.dcache = [] ∧ t.mem = s.mem ∧
      SameRegs ([BIST.BUSY.key, BIST.RESULT.key, BIST.RES_CNT.key, BIST.RES_W0.key, BIST.RES_W1.key, BIST.OVF.key, BIST.FAIL_CNT.key] ++ evKeys 0x119) s t) ∧
    (∀ (s : State) (c : Cls),
      s.triggered c BIST.RES_POP = true →
      let u : State := s.ripe c BIST.RES_POP;
      ∃ t : State, exec (.bistResPop c) s = .next t ∧ t.bist.fifo = u.bist.fifo.tail ∧ (u.bist.fifo.length ≤ 16 →
        t.get BIST.RES_CNT = u.bist.fifo.length - 1) ∧ { t.bist with fifo := u.bist.fifo } = u.bist ∧
        t.answer = some ⟨c, [], stOK⟩ ∧ t.mem = u.mem ∧
      SameRegs [BIST.RES_CNT.key, BIST.RES_W0.key, BIST.RES_W1.key] u t)

/-- GO stores the channel and requests a conversion, unless the converter is off or the channel reserved. The schedule
waits for its period and its requests, and then requests a pass. A comparator that is armed requests a conversion
and is disarmed; otherwise nothing happens. A conversion of a queue cause writes LASTch and its entry, or is counted
where the queue is full, with its average; during a calibration or without VAUX nothing happens. The supervisor
writes a reading and, below the levels, sets none. A calibration holds the results, and its end gives the deviation,
REF_OK within 100 and REF_FAULT beyond. POP takes an entry off. -/
def Obligations.Housekeeping : Prop :=
  (∀ (s : State) (c : Cls) (ch : Nat),
      ch < 64 → s.takes c HKADC.CH (2 ^ 31 + ch) = true → s.takes c HKADC.GO (2 ^ 31 + ch) = true →
        (s.ripe c HKADC.CH 2).act 0x120 = true → ch < 35 →
      exec (.hkadcGo c ch) s = .next (s.lands c HKADC.CH [fun u => u.set HKADC.CH ch] [fun u => u.setHk (fun h => { h with reqs := h.reqs ++ [(ch, 2)] })])) ∧
    (∀ (s : State) (c : Cls) (ch : Nat),
      ch < 64 → s.takes c HKADC.CH (2 ^ 31 + ch) = true → s.takes c HKADC.GO (2 ^ 31 + ch) = true →
        (s.ripe c HKADC.CH 2).act 0x120 = false ∨ 35 ≤ ch →
      exec (.hkadcGo c ch) s = .next (s.lands c HKADC.CH [fun u => u.set HKADC.CH ch] [fun u => u])) ∧
    (∀ (s : State),
      s.get HKADC.SEQ_PERIOD = 0 ∨ s.act 0x120 = false ∨ s.ao < s.hk.passAt + s.get HKADC.SEQ_PERIOD * tickMs ∨ s.hk.reqs.any (fun e => e.2 == 0) = true →

      exec .hkadcSchedule s = .next s) ∧
    (∀ (s : State),
      s.get HKADC.SEQ_PERIOD ≠ 0 → s.act 0x120 = true → s.hk.passAt + s.get HKADC.SEQ_PERIOD * tickMs ≤ s.ao →
        s.hk.reqs.any (fun e => e.2 == 0) = false → s.get HKADC.SEQ_LEN ≤ 16 → ∀ i, i < s.get HKADC.SEQ_LEN →
        s.get (HKADC.SEQ i) < 35 →
      exec .hkadcSchedule s = .next (s.setHk (fun h => { h with passAt := s.ao, reqs := h.reqs ++ (List.range (s.get HKADC.SEQ_LEN)).map (fun i => (s.get (HKADC.SEQ i), 0)) }))) ∧
    (∀ (s : State) (ch : Nat) (back : Bool),
      ch < 8 ∨ 12 ≤ ch ∧ ch < 16 → s.act 0x120 = true → s.on (HKADC.CMP_EN ch) = true →
        back = true ∨ s.hk.disarmed.look ch = 0 →
      ∃ t : State, exec (.hkadcCmpHit ch back) s = .next t ∧
        t.hk = { s.hk with disarmed := s.hk.disarmed.put ch 1, reqs := s.hk.reqs ++ [(ch, 1)] } ∧
        bitOf (t.get (HDR.EVT 0x120)) EV.HKADC.CMP_HIT = true ∧ t.mem = s.mem ∧ SameRegs (evKeys 0x120) s t) ∧
    (∀ (s : State) (ch : Nat) (back : Bool),
      s.act 0x120 = false ∨ s.on (HKADC.CMP_EN ch) = false ∨ back = false ∧ s.hk.disarmed.look ch ≠ 0 →
      exec (.hkadcCmpHit ch back) s = .next s) ∧
    (∀ (s : State) (x : Int) (bad : Bool) (ch cause : Nat),
      s.pwr.vaux = true → s.hk.calAt = none → s.act 0x120 = true → s.hkNext = some (ch, cause) → 12 ≤ ch ∧ ch < 16 →
        cause < 4 → s.get HKADC.AVG_A = 0 → -2 ^ 23 ≤ x ∧ x < 2 ^ 23 → s.hk.queue.length < 64 →
      ∃ t : State, exec (.hkadcConversionDone false ch [x] bad) s = .next t ∧ t.geti (HKADC.LAST ch) = x ∧
        t.hk.queue = s.hk.queue ++ [(ch * 2 ^ 26 + cause * 2 ^ 24 + ofSigned 24 x, s.mtime % 2 ^ 32)] ∧
        t.hk.reqs = dropReq (ch, cause) s.hk.reqs ∧ t.get HKADC.Q_FILL = s.hk.queue.length + 1 ∧ (s.hk.queue = [] →
        bitOf (t.get (HDR.EVT 0x120)) EV.HKADC.Q_NEW = true) ∧ t.mem = s.mem ∧
      SameRegs ([(HKADC.LAST ch).key, HKADC.Q_FILL.key, HKADC.Q_W0.key, HKADC.Q_W1.key] ++ evKeys 0x120) s t) ∧
    (∀ (s : State) (xs : List Int) (bad : Bool) (ch cause a k : Nat),
      s.pwr.vaux = true → s.hk.calAt = none → s.act 0x120 = true → s.hkNext = some (ch, cause) → 12 ≤ ch ∧ ch < 16 →
        cause < 4 → s.get HKADC.AVG_A = a → 1 ≤ a ∧ a ≤ 8 → s.get HKADC.SHIFT = k → k ≤ 8 → 64 ≤ s.hk.queue.length →
        xs.length = 2 ^ a →
      ∃ t : State, exec (.hkadcConversionDone false ch xs bad) s = .next t ∧
        t.geti (HKADC.LAST ch) = satSigned 24 (xs.foldl (· + ·) 0 / (2 ^ k : Nat)) ∧ t.hk.queue = s.hk.queue ∧
        bitOf (t.get (HDR.EVT 0x120)) EV.HKADC.Q_OVF = true ∧ t.mem = s.mem ∧
      SameRegs ([(HKADC.LAST ch).key, HKADC.Q_OVF_CNT.key] ++ evKeys 0x120) s t) ∧
    (∀ (s : State) (sup : Bool) (ch : Nat) (xs : List Int) (bad : Bool),
      s.pwr.vaux = false ∨ s.hk.calAt ≠ none →
      exec (.hkadcConversionDone sup ch xs bad) s = .next s) ∧
    (∀ (s : State) (v : Int) (k : Nat),
      s.pwr.vaux = true → s.hk.calAt = none → isThermal k = true → s.on (THERMAL.SEN_EN k) = true → -2 ^ 23 ≤ v ∧
        v < 2 ^ 23 →
      ∃ t : State, exec (.hkadcConversionDone true k [v] false) s = .next t ∧ t.geti (HKADC.LAST k) = v) ∧
    (∀ (s : State) (v : Int) (k : Nat),
      s.pwr.vaux = true → s.hk.calAt = none → isThermal k = true → s.on (THERMAL.SEN_EN k) = true → -2 ^ 23 ≤ v ∧
        v < 2 ^ 23 → s.on (THERMAL.BROKEN k) = false →
        v < s.geti (THERMAL.LIM_WARN k) * 64 - s.get (THERMAL.HYST k) * 128 →
        s.geti (THERMAL.LIM_WARN k) ≤ s.geti (THERMAL.LIM_THROTTLE k) →
        s.geti (THERMAL.LIM_WARN k) ≤ s.geti (THERMAL.SHUT k) → s.on (THERMAL.ST_WARN k) = false →
        s.on (THERMAL.ST_THROTTLE k) = false →
      ∃ t : State, exec (.hkadcConversionDone true k [v] false) s = .next t ∧ t.geti (THERMAL.READING k) = v ∧
        t.geti THERMAL.T_MAX = t.tMax ∧ t.on (THERMAL.ST_WARN k) = false ∧ t.on (THERMAL.ST_THROTTLE k) = false ∧
        t.on THERMAL.WRITE_OK = t.windowOpen ∧ t.hk.convAt.look k = s.ao + 1 ∧ t.mem = s.mem ∧
      SameRegs ([(HKADC.LAST k).key, (THERMAL.READING k).key, THERMAL.T_MAX.key, THERMAL.WRITE_OK.key, (THERMAL.BROKEN k).key, (THERMAL.ST_WARN k).key, (THERMAL.ST_THROTTLE k).key] ++ evKeys 0x121) s t) ∧
    (∀ (s : State) (d : Int),
      s.hk.calAt = none → s.hk.calNext ≠ 0 → s.hk.calNext ≤ s.ao + 1 →
      exec (.hkadcCalibration true d) s = .next (((s.setHk (fun h => { h with calAt := some s.ao })).set HKADC.STALE 1).set (HDR.STALE 0x120) 1)) ∧
    (∀ (s : State) (d : Int) (t : Nat),
      s.hk.calAt = some t → d.natAbs ≤ 100 →
      exec (.hkadcCalibration false d) s = .next (((((s.setHk (fun h => { h with calAt := none, calNext := t + 60 * tickS + 1 })).set HKADC.STALE 0).set (HDR.STALE 0x120) 0).seti (HKADC.LAST 34) d).set HKADC.REF_OK 1)) ∧
    (∀ (s : State) (d : Int) (a : Nat),
      s.hk.calAt = some a → 100 < d.natAbs →
      ∃ t : State, exec (.hkadcCalibration false d) s = .next t ∧ t.on HKADC.REF_OK = false ∧ t.hk.calAt = none ∧
        t.on HKADC.STALE = false ∧ bitOf (t.get (HDR.EVT 0x120)) EV.HKADC.REF_FAULT = true ∧ t.mem = s.mem ∧
      SameRegs ([HKADC.STALE.key, (HDR.STALE 0x120).key, (HKADC.LAST 34).key, HKADC.REF_OK.key] ++ evKeys 0x120 ++ logKeys) s t) ∧
    (∀ (s : State) (c : Cls),
      s.triggered c HKADC.Q_POP = true → (s.ripe c HKADC.Q_POP).hk.queue.length ≤ 64 →
      let u : State := s.ripe c HKADC.Q_POP;
      ∃ t : State, exec (.hkadcQPop c) s = .next t ∧ t.hk = { u.hk with queue := u.hk.queue.tail } ∧
        t.get HKADC.Q_FILL = u.hk.queue.length - 1 ∧ t.answer = some ⟨c, [], stOK⟩ ∧ t.mem = u.mem ∧
      SameRegs [HKADC.Q_FILL.key, HKADC.Q_W0.key, HKADC.Q_W1.key] u t)

/-- A slack window ends at multiples of 2^20 ticks with MINFILL, the slack counts, the regulator loop and its stage, and
nowhere else. Telemetry is stored when it is due, and an alert with its pin supplied. A voltage in its range ends
the check; one outside or unacknowledged is a fault, commanded again; without a command there is no check. A
candidate whose grace is over is retired by hardware, and no other. RX_RETIRE takes effect, in M5 with the slot. A
day that is due is closed, counted where at most 12 hours were held, and no other. -/
def Obligations.AgeingAndVoltage : Prop :=
  (∀ (s : State) (adc dac : List Nat) (up : Nat),
      s.tbRun = false ∨ s.tb % 2 ^ 20 ≠ 0 →
      exec (.slackWindowEnd adc dac up) s = .next s) ∧
    (∀ (s : State) (adc dac : List Nat) (up : Nat),
      s.tbRun = true → s.tb % 2 ^ 20 = 0 →
      let u : State := allPaths.foldl (fun (x : State) n => if x.act (txPage n) then x.set (TXPATH.MINFILL n) (min 64 (dac.getD n 64)) else x) s;
      exec (.slackWindowEnd adc dac up) s = .next ((((List.range 18).foldl (fun x r => x.slackNote ⟨adc, dac, up⟩ r) u).avsLoop).stageNote)) ∧
    (∀ (s : State) (v i : Nat) (q : Int),
      s.pwr.vaux = true → s.hk.telAt + max 1 (s.get AVS.TEL_MS) * tickMs ≤ s.ao → v < 2 ^ 16 → i < 2 ^ 16 →
      ∃ t : State, exec (.pmTelemetry v i q) s = .next t ∧ t.get AVS.READ_VOUT = v ∧ t.hk = { s.hk with telAt := s.ao } ∧
        t.mem = s.mem ∧ SameRegs [AVS.READ_VOUT.key, AVS.READ_IOUT.key, AVS.READ_TEMP.key] s t) ∧
    (∀ (s : State) (v i : Nat) (q : Int),
      s.pwr.vaux = false ∨ s.ao < s.hk.telAt + max 1 (s.get AVS.TEL_MS) * tickMs →
      exec (.pmTelemetry v i q) s = .next s) ∧
    (∀ (s : State) (w : Nat),
      s.pwr.vaux = true → bitOf s.pwr.vio 1 = true →
      exec (.pmAlert w) s = .next ((s.set AVS.PM_STATUS (w % 2 ^ 16)).raise 0x123 EV.AVS.PM_ALERT)) ∧
    (∀ (s : State) (w : Nat),
      s.pwr.vaux = false ∨ bitOf s.pwr.vio 1 = false →
      exec (.pmAlert w) s = .next s) ∧
    (∀ (s : State) (ack : Bool) (v : Nat),
      s.age.cmdAt = none →
      exec (.pmVoutCheck ack v) s = .next s) ∧
    (∀ (s : State) (v a : Nat),
      s.age.cmdAt = some a → a + 1966080 ≤ s.ao → s.modes.step ≠ 2 → v < 2 ^ 16 → v ≤ s.get AVS.TARGET + 15 →
        s.get AVS.TARGET ≤ v + 15 →
      ∃ t : State, exec (.pmVoutCheck true v) s = .next t ∧ t.get AVS.READ_VOUT = v ∧
        t.age = { s.age with cmdAt := none } ∧ t.mem = s.mem ∧ SameRegs [AVS.READ_VOUT.key] s t) ∧
    (∀ (s : State) (ack : Bool) (v a : Nat),
      s.age.cmdAt = some a → a + 1966080 ≤ s.ao → s.modes.step ≠ 2 →
        ack = false ∨ v + 15 < s.get AVS.TARGET ∨ s.get AVS.TARGET + 15 < v →
      ∃ t : State, exec (.pmVoutCheck ack v) s = .next t ∧ t.age = { s.age with cmdAt := none, again := true } ∧
        bitOf (t.get (HDR.EVT 0x123)) EV.AVS.PM_FAULT = true ∧ t.mem = s.mem ∧
      SameRegs ([AVS.READ_VOUT.key, AVS.PM_FAULT_CNT.key] ++ evKeys 0x123 ++ logKeys) s t) ∧
    (∀ (s : State) (d n : Nat),
      s.graceOver (d % 2) (n % 64) = false →
      exec (.retireGraceExpiry d n) s = .next s) ∧
    (∀ (s : State) (n : Nat),
      n < 64 → s.graceOver 0 n = true →
      exec (.retireGraceExpiry 0 n) s = .next ((s.retireWritten n 1).count AGEING.HW_RETIRED)) ∧
    (∀ (s : State) (n : Nat),
      n < 64 → s.graceOver 1 n = true →
      exec (.retireGraceExpiry 1 n) s = .next ((s.rxRetireWritten (rxRetireLoc n) (setBit (s.get (rxRetireLoc n)) (n % 32))).count AGEING.HW_RETIRED)) ∧
    (∀ (s : State) (c : Cls) (agent v : Nat),
      s.accepts c AGEING.RX_RETIRE_HI v = true → v < 2 ^ 32 →
      let u : State := s.ripe c AGEING.RX_RETIRE_HI;
      ∃ t : State, exec (.rxRetireWrite c agent true v) s = .next t ∧ t.get AGEING.RX_RETIRE_HI = v ∧
        t.answer = some ⟨c, [], stOK⟩ ∧ (u.mode = 5 → t.mem = u.mem ∧ SameRegs [(AGEING.RX_RETIRE_HI).key] u t) ∧
        (∀ i, i < 32 → u.mode ≠ 5 → bitOf v i ≠ bitOf (u.get AGEING.RX_RETIRE_HI) i →
        bitOf (t.get DEVICE.RETIRED_RX_HI) i = bitOf v i)) ∧
    (∀ (s : State) (c : Cls) (agent v : Nat),
      s.accepts c AGEING.RX_RETIRE_LO v = true → v < 2 ^ 32 →
      let u : State := s.ripe c AGEING.RX_RETIRE_LO;
      ∃ t : State, exec (.rxRetireWrite c agent false v) s = .next t ∧ t.get AGEING.RX_RETIRE_LO = v ∧
        t.answer = some ⟨c, [], stOK⟩ ∧ (u.mode = 5 → t.mem = u.mem ∧ SameRegs [(AGEING.RX_RETIRE_LO).key] u t) ∧
        (∀ i, i < 32 → u.mode ≠ 5 → bitOf v i ≠ bitOf (u.get AGEING.RX_RETIRE_LO) i →
        bitOf (t.get DEVICE.RETIRED_RX_LO) i = bitOf v i)) ∧
    (∀ (s : State),
      s.age.dayDue = false →
      exec .lifeDayClose s = .next s) ∧
    (∀ (s : State),
      s.age.dayDue = true → s.age.dayHeld ≤ 12 * tickHour → s.get AGEING.LIFE_N + 1 < 2 ^ 32 →
      ∃ t : State, exec .lifeDayClose s = .next t ∧ t.get AGEING.LIFE_N = s.get AGEING.LIFE_N + 1 ∧
        t.age = { s.age with dayDue := false, dayTicks := 0, dayTgt := 0, dayTemp := 0, dayHeld := 0 } ∧
        bitOf (t.get (HDR.EVT 0x122)) EV.AGEING.LIFE_UPDATE = true ∧ t.mem = s.mem) ∧
    (∀ (s : State),
      s.age.dayDue = true → 12 * tickHour < s.age.dayHeld →
      ∃ t : State, exec .lifeDayClose s = .next t ∧
        t.age = { s.age with dayDue := false, dayTicks := 0, dayTgt := 0, dayTemp := 0, dayHeld := 0 } ∧
        bitOf (t.get (HDR.EVT 0x122)) EV.AGEING.LIFE_UPDATE = true ∧ t.mem = s.mem ∧
      SameRegs ([AGEING.LIFE_A.key, AGEING.LIFE_B.key, AGEING.LIFE_LEFT.key, AGEING.LIFE_VALID.key] ++ evKeys 0x122 ++ logKeys) s t)

/-- For every command c and state s, the step of s with c at the front of its queue is exec of c on s with the rest of
the queue. -/
def Obligations.StepRunsFront : Prop :=
  ∀ (c : Instr) (rest : List Instr) (s : State), step { s with pending := c :: rest } = exec c { s with pending := rest }

/-- With an empty queue and VAUX in its range, a step answers a next state in which the always-on clock has advanced by
one tick and the time base, where it runs, by one modulo 2^64; OTP is unchanged, and memory where no capture segment
is in progress. With VAUX out of its range nothing passes. Log entry 2: the tick is the model's choice. -/
def Obligations.EmptyQueueTicks : Prop :=
  (∀ s : State, s.pending = [] → s.pwr.vaux = true → ∃ t : State, step s = .next t ∧ t.ao = s.ao + 1 ∧
      t.tb = (if s.tbRun then (s.tb + 1) % 2 ^ 64 else s.tb) ∧ (s.caps.all (fun k => k.seg.isNone) = true →
        t.mem = s.mem) ∧ t.otp = s.otp ∧ t.pending = []) ∧
    (∀ s : State, s.pending = [] → s.pwr.vaux = false → step s = .next s)

/-- State.reset satisfies State.Sound: stores and memory in their one form, the block's units present, no event packet
waiting beyond 32. -/
def Obligations.ResetSound : Prop :=
  State.Sound State.reset

/-- After reset DEVICE.MODE, DEVICE.TRANS, DEVICE.HALT, DEVICE.FAIL_COUNT, LIMITS.LR_VALID, SECURITY.DBG_EN,
SECURITY.SCAN_EN, ERL0.SECURED, ERL1.EVT_LOST_CNT, MONITOR.LEVEL, BIST.BUSY, LOG.HEAD_SEQ, ARBITER.LAST_REF_ADDR,
TIMEBASE.REF_HOLD are 0; DEVICE.PART is 1600, DEVICE.STEP is 176, DEVICE.SVC_LEVEL is 2, SECURITY.LR_ADDR is
537001984, CPLL.REF_RATE is 3, TIMEBASE.INC is 8, DPD0.GUARD_MARGIN is 10, DPD0.STEP_MAX is 1024, CAL0.AVG is 16,
ERL0.LAT_UL is 256, ERL0.DOWN_TO is 100, ERL2.TOL is 512, SOUND0.MAX_ITER is 20, SOUND3.TOL is 512, BCAST0.FREQ is
225648; and for every path, octet, tap, direction, synthesiser and lane RXPATH.GAIN_ANT is 60, RXPATH.OVL_THR is 14,
RXPATH.IQ_GAIN is 65536, TXPATH.CMPL_MUTE is 1, TXPATH.CFR_PAR is 80, TXPATH.CFR_WIN is 12, OCTET.SPLIT_OFS is
15360, MONTAP.RMS_K is 10, BEAM.RENORM_MAX is 6, LO.OUTDIV is 1, DS.DESKEW is 64, US.SWING is 8. -/
def Obligations.ResetValues : Prop :=
  State.reset.get DEVICE.MODE = 0 ∧
    State.reset.get DEVICE.TRANS = 0 ∧
    State.reset.get DEVICE.HALT = 0 ∧
    State.reset.get DEVICE.FAIL_COUNT = 0 ∧
    State.reset.get LIMITS.LR_VALID = 0 ∧
    State.reset.get SECURITY.DBG_EN = 0 ∧
    State.reset.get SECURITY.SCAN_EN = 0 ∧
    State.reset.get ERL0.SECURED = 0 ∧
    State.reset.get ERL1.EVT_LOST_CNT = 0 ∧
    State.reset.get MONITOR.LEVEL = 0 ∧
    State.reset.get BIST.BUSY = 0 ∧
    State.reset.get LOG.HEAD_SEQ = 0 ∧
    State.reset.get ARBITER.LAST_REF_ADDR = 0 ∧
    State.reset.get TIMEBASE.REF_HOLD = 0 ∧
    State.reset.get DEVICE.PART = 1600 ∧
    State.reset.get DEVICE.STEP = 176 ∧
    State.reset.get DEVICE.SVC_LEVEL = 2 ∧
    State.reset.get SECURITY.LR_ADDR = 537001984 ∧
    State.reset.get CPLL.REF_RATE = 3 ∧
    State.reset.get TIMEBASE.INC = 8 ∧
    State.reset.get DPD0.GUARD_MARGIN = 10 ∧
    State.reset.get DPD0.STEP_MAX = 1024 ∧
    State.reset.get CAL0.AVG = 16 ∧
    State.reset.get ERL0.LAT_UL = 256 ∧
    State.reset.get ERL0.DOWN_TO = 100 ∧
    State.reset.get ERL2.TOL = 512 ∧
    State.reset.get SOUND0.MAX_ITER = 20 ∧
    State.reset.get SOUND3.TOL = 512 ∧
    State.reset.get BCAST0.FREQ = 225648 ∧
    (∀ n, n < 64 → State.reset.get (RXPATH.GAIN_ANT n) = 60) ∧
    (∀ n, n < 64 → State.reset.get (RXPATH.OVL_THR n) = 14) ∧
    (∀ n, n < 64 → State.reset.get (RXPATH.IQ_GAIN n) = 65536) ∧
    (∀ n, n < 64 → State.reset.get (TXPATH.CMPL_MUTE n) = 1) ∧
    (∀ n, n < 64 → State.reset.get (TXPATH.CFR_PAR n) = 80) ∧
    (∀ n, n < 64 → State.reset.get (TXPATH.CFR_WIN n) = 12) ∧
    (∀ n, n < 8 → State.reset.get (OCTET.SPLIT_OFS n) = 15360) ∧
    (∀ n, n < 8 → State.reset.get (MONTAP.RMS_K n) = 10) ∧
    (∀ n, n < 2 → State.reset.get (BEAM.RENORM_MAX n) = 6) ∧
    (∀ n, n < 2 → State.reset.get (LO.OUTDIV n) = 1) ∧
    (∀ n, n < 16 → State.reset.get (DS.DESKEW n) = 64) ∧
    (∀ n, n < 16 → State.reset.get (US.SWING n) = 8)

/-- For every command, with every operand, and every state, exec answers a next state: none stops with a fault or a
refusal. -/
def Obligations.EveryCommandCompletes : Prop :=
  ∀ (c : Instr) (s : State), ∃ t : State, exec c s = .next t

/-- An occurrence of event b of a page sets bit b of EVT, whatever EVT_EN holds, and leaves the other bits. A W1C write
to EVT, 8 ticks on, clears the bits it names but those whose event occurs on that tick, and leaves every other bit. -/
def Obligations.EventsAreSet : Prop :=
  (∀ (s : State) (pg b : Nat), b < 32 → bitOf ((s.raise pg b).get (HDR.EVT pg)) b = true ∧
      ∀ j, j < 32 → j ≠ b → bitOf ((s.raise pg b).get (HDR.EVT pg)) j = bitOf (s.get (HDR.EVT pg)) j) ∧
    (∀ (s : State) (c : Cls) (pg mask again : Nat), mask < 2 ^ 32 →
      s.triggered c (HDR.EVT pg) (mask + again * 2 ^ 32) = true →
      ∃ t : State, exec (.evtClear c pg mask again) s = .next t ∧ t.answer = some ⟨c, [], stOK⟩ ∧
        ∀ j, j < 32 → bitOf (t.get (HDR.EVT pg)) j = (bitOf again j ||
          (bitOf ((s.ripe c (HDR.EVT pg)).get (HDR.EVT pg)) j && (!bitOf mask j || bitOf ((s.ripe c (HDR.EVT pg)).evtNow.look pg) j)))) ∧
    (∀ (s : State) (pg b m : Nat), b < 32 →
      bitOf (((s.raise pg b).clearBits (HDR.EVT pg) m).get (HDR.EVT pg)) b = true)

/-- A write of EN = 1 during a shut-down sequence leaves the sequence in progress and stores EN. When the sequence ends,
ACT reads 0 and ACT_CHANGE is raised; with EN = 1 the enable sequence then starts by itself, where the page's own
conditions (its rails, a permitted LO frequency, the Anise gate, a waiting soft reset) do not keep it from starting. -/
def Obligations.EnableDuringShutDown : Prop :=
  (∀ (s : State) (c : Cls) (agent pg : Nat), noEnable pg = false → s.accepts c (HDR.EN pg) 1 = true →
    (s.ripe c (HDR.EN pg)).seqOf pg = 2 →
      ∃ t : State, exec (.pageEnable c agent pg 1) s = .next t ∧ t.on (HDR.EN pg) = true ∧ t.seqOf pg = 2 ∧
        t.act pg = (s.ripe c (HDR.EN pg)).act pg) ∧
    (∀ (s : State) (pg : Nat), s.seqOf pg = 2 → s.seqMayEnd pg = true →
      ∃ t : State, exec (.sequenceEnd pg) s = .next t ∧ t.act pg = false ∧ bitOf (t.get (HDR.EVT pg)) evACT_CHANGE = true) ∧
    (∀ (s : State) (pg : Nat), s.seqOf pg = 2 → s.seqMayEnd pg = true → s.on (HDR.EN pg) = true → s.srst.look pg = 0 →
      pg ≠ 0x0E4 → s.railsOk pg = true → s.loBarred pg = false →
      ∃ t : State, exec (.sequenceEnd pg) s = .next t ∧ t.seqOf pg = 1)

/-- A register write from BB or HOST that CTRL does not name is refused with ACCESS_DENIED whatever ACCESS grants,
changes no register but the record of the refusal, and leaves memory; for MGMT, DSP, MON and TEST CTRL changes no
refusal; and CTRL changes the status of no read. -/
def Obligations.ControllerNames : Prop :=
  (∀ (s : State) (agent addr data : Nat) (c : Cls), s.deaf = false → inRegs addr = true → addr % 4 = 0 →
    assigned (pageOf addr) = true →
      (c = .bb ∧ bitOf (s.get (HDR.CTRL (pageOf addr))) 0 = false ∨ c = .host ∧
        bitOf (s.get (HDR.CTRL (pageOf addr))) 1 = false) →
      ∃ t : State, exec (.regWrite c agent 4 addr data) s = .next t ∧ t.answer = some ⟨c, [], stDENIED⟩ ∧
        t.windows = s.windows ∧
        t.triggers = s.triggers ∧ t.mem = s.mem ∧ SameRegs refusalKeys s t) ∧
    (∀ (s : State) (c : Cls) (pg off data v : Nat), c = .mgmt ∨ c = .dsp ∨ c = .mon ∨ c = .test →
      (s.set (HDR.CTRL pg) v).wordRefusal c pg off data = s.wordRefusal c pg off data) ∧
    (∀ (s : State) (c : Cls) (pg off v : Nat), ((s.set (HDR.CTRL pg) v).readWord c pg off).1 = (s.readWord c pg off).1)

/-- NOW is the time base as it stands between REFCLK edges. Where no write waits, a read of NOW_LO answers bits [31:0]
of NOW and latches bits [63:32] for the next read of NOW_HI by the same class, which returns them whatever NOW has
become and uses the latch up; a read of NOW_HI without a latch of its class returns the live value; reads of other
classes keep a class's latch. -/
def Obligations.NowLatches : Prop :=
  (∀ (s : State) (c : Cls), s.quiet = true → 1 ≤ s.right 0x008 c → s.testPortAllows c false 0x008 0x040 0 = true →
      ∃ t : State, exec (.nowLoRead c) s = .next t ∧ t.answer = some ⟨c, [s.now % 2 ^ 32], stOK⟩ ∧
        (∀ u : State, u.latches = t.latches → u.readField c TIMEBASE.NOW_HI = s.now / 2 ^ 32) ∧
        (∀ d : Cls, d ≠ c → ∀ u : State, u.latches = t.latches → u.now = s.now →
          u.readField d TIMEBASE.NOW_HI = s.readField d TIMEBASE.NOW_HI)) ∧
    (∀ (s : State) (c : Cls), 1 ≤ s.right 0x008 c → s.testPortAllows c false 0x008 0x040 0 = true →
      s.latches.all (fun x => x.2.1 != TIMEBASE.NOW_LO.key) = true →
      (s.readWord c 0x008 0x040).2.1 = s.now % 2 ^ 32 ∧
      ∀ u : State, u.latches = (s.readWord c 0x008 0x040).2.2.latches → u.readField c TIMEBASE.NOW_HI = s.now / 2 ^ 32) ∧
    (∀ (s : State) (c : Cls), 1 ≤ s.right 0x008 c → s.testPortAllows c false 0x008 0x044 0 = true →
      (s.readWord c 0x008 0x044).2.1 = s.readField c TIMEBASE.NOW_HI ∧
      ∀ u : State, u.latches = (s.readWord c 0x008 0x044).2.2.latches →
        u.readField c TIMEBASE.NOW_HI = u.now / 2 ^ 32 % 2 ^ 32) ∧
    (∀ (s : State) (c : Cls), s.latches = [] → s.readField c TIMEBASE.NOW_HI = s.now / 2 ^ 32 % 2 ^ 32)

/-- A window with a write has a winner. It is the latest write of its writer; where the latest write of some writer is
protective the winner is protective and best among those, else best of all; best is the higher-ranked class, among
equals the later arrival, and on the same tick the lower agent. Where every write carries one value, nothing is
superseded and that value takes effect. -/
def Obligations.ArbitrationWinner : Prop :=
  (∀ (s : State) (l : Loc) (ws : List WinWrite), ws ≠ [] → ∃ w p, s.winner l ws = some (w, p)) ∧
    (∀ (s : State) (l : Loc) (ws : List WinWrite) (w : WinWrite) (p : Bool), s.winner l ws = some (w, p) →
      w ∈ latestWrites ws ∧ (p = true ↔ ∃ x ∈ latestWrites ws, s.protective l x.val = true) ∧ (p = true →
        s.protective l w.val = true) ∧
      ∀ x ∈ latestWrites ws, (p = true → s.protective l x.val = true) → w.cls.code ≤ x.cls.code ∧
        (x.cls = w.cls → x.tick ≤ w.tick ∧ (x.tick = w.tick → w.agent ≤ x.agent))) ∧
    (∀ (s : State) (l : Loc) (ws : List WinWrite) (v at_ : Nat), ws ≠ [] → (∀ x ∈ ws, x.val = v) →
      s.resolve l ws none at_ = (some v, s))

/-- A write, by any class, with any size, to an address in register space, or by another class than MGMT to any address,
that is no push of the timeline queue and no entry of a set table, answers a next state in which memory, OTP, the
banks and every register are as before but for the record of a refusal; what it writes only waits in its windows and
triggers, and those of earlier writes still wait. -/
def Obligations.WritesOnlyWait : Prop :=
  ∀ (s : State) (c : Cls) (agent size addr data : Nat), (c ≠ .mgmt ∨ inRegs addr = true) →
      (pageOf addr ≠ 0x0A8 ∨ offOf addr ≠ 0x054) → pageOf addr ≠ 0x0A2 → pageOf addr ≠ 0x0A3 →
      ∃ t : State, exec (.regWrite c agent size addr data) s = .next t ∧ t.mem = s.mem ∧ t.otp = s.otp ∧ t.bank = s.bank ∧
        t.tb = s.tb ∧
        t.paths = s.paths ∧ SameRegs refusalKeys s t ∧
        s.windows.map Window.loc <+: t.windows.map Window.loc ∧ s.triggers <+: t.triggers

/-- For every command and every state, the commands that wait after it are those that waited before it. -/
def Obligations.QueueKept : Prop :=
  ∀ (c : Instr) (s t : State), exec c s = .next t → t.pending = s.pending

/-- For every command and state, where the command does not end in M2 (on entry into which the ROM sets ACCESS anew):
where ACC_LOCK of a page is set before and after the command, no window of an earlier write to ACCESS or CONTROLLER
of the page is open, and no device reset waits to act, no right of any class on the page and no bit of its
CONTROLLER.CTRL has changed. -/
def Obligations.LockedAccessStands : Prop :=
  ∀ (c : Instr) (s t : State) (pg : Nat), exec c s = .next t → pg < 0x200 → t.mode ≠ 2 → s.on (HDR.ACC_LOCK pg) = true →
    t.on (HDR.ACC_LOCK pg) = true →
      (∀ w ∈ s.windows, w.loc.page = pg → w.loc.off ≠ 0x018 ∧ w.loc.off ≠ 0x01C) →
        (∀ x ∈ s.triggers, x.loc ≠ DEVICE.DEVICE_RESET) →
      (∀ x : Cls, t.right pg x = s.right pg x) ∧ t.get (HDR.CTRL pg) = s.get (HDR.CTRL pg)

/-- For every sound state, if a step answers a next state, that state is sound: the stores and memory keep their one
form, every unit stays, and no more than 32 event packets wait. -/
def Obligations.StepKeepsSound : Prop :=
  ∀ s t : State, s.Sound → step s = .next t → t.Sound

/-- For every command but VAUX_LEAVE_RANGE and VAUX_ENTER_RANGE, and every state in which DEVICE.HALT is 1, HALT is 1
after it; and after the loss of VAUX it is 0. -/
def Obligations.HaltLatched : Prop :=
  (∀ (c : Instr) (s t : State), (∀ b mv, c ≠ .vauxEnterRange b mv) → c ≠ .vauxLeaveRange → exec c s = .next t →
      s.on DEVICE.HALT = true → t.on DEVICE.HALT = true) ∧
    (∀ s t : State, exec .vauxLeaveRange s = .next t → t.on DEVICE.HALT = false)

/-- For every command and state: the serial number stays; revocations, PROVISIONED, SCAN_PERMIT and the bits of every
fuse entry that were set stay set; the anti-rollback counts do not fall; a written key hash and a provisioned
identity scalar stay; and only the ends of OTP, fuse and update operations change OTP at all. -/
def Obligations.OtpNeverClears : Prop :=
  (∀ (c : Instr) (s t : State), exec c s = .next t → (∀ b, c ≠ .otpDone b) → (∀ b, c ≠ .fuseDone b) →
    (∀ b f, c ≠ .updDone b f) → t.otp = s.otp) ∧
    (∀ (c : Instr) (s t : State), exec c s = .next t → OtpGrows s.otp t.otp)
end

