-- ==== Sys2Proof/Laws/Exec.lean ====
section
/-! SUPPORT. What `exec` calls for each command, one lemma per constructor, so that no later proof unfolds the dispatch. -/

namespace Sys2Proof.Machine

@[simp] theorem exec_vauxEnterRange (bootsel mv : Nat) (s : State) :
    exec (.vauxEnterRange bootsel mv) s = execVauxEnterRange bootsel mv s := rfl
@[simp] theorem exec_vauxLeaveRange (s : State) :
    exec .vauxLeaveRange s = execVauxLeaveRange s := rfl
@[simp] theorem exec_biasSafeRead (s : State) :
    exec .biasSafeRead s = execBiasSafeRead s := rfl
@[simp] theorem exec_radioRailGood (rail : Nat) (s : State) :
    exec (.radioRailGood rail) s = execRadioRailGood rail s := rfl
@[simp] theorem exec_radioRailNotGood (rail : Nat) (s : State) :
    exec (.radioRailNotGood rail) s = execRadioRailNotGood rail s := rfl
@[simp] theorem exec_vcoreNotGood (s : State) :
    exec .vcoreNotGood s = execVcoreNotGood s := rfl
@[simp] theorem exec_bankLoss (b : Nat) (s : State) :
    exec (.bankLoss b) s = execBankLoss b s := rfl
@[simp] theorem exec_startBegin (find : SelfTest) (flashBad : Nat) (s : State) :
    exec (.startBegin find flashBad) s = execStartBegin find flashBad s := rfl
@[simp] theorem exec_resetNAssert (s : State) :
    exec .resetNAssert s = execResetNAssert s := rfl
@[simp] theorem exec_resetNRelease (bootsel : Nat) (s : State) :
    exec (.resetNRelease bootsel) s = execResetNRelease bootsel s := rfl
@[simp] theorem exec_deviceReset (c : Cls) (s : State) :
    exec (.deviceReset c) s = execDeviceReset c s := rfl
@[simp] theorem exec_modeReqWrite (c : Cls) (agent v : Nat) (s : State) :
    exec (.modeReqWrite c agent v) s = execModeReqWrite c agent v s := rfl
@[simp] theorem exec_modeTransitionDone (s : State) :
    exec .modeTransitionDone s = execModeTransitionDone s := rfl
@[simp] theorem exec_bootOk (c : Cls) (s : State) :
    exec (.bootOk c) s = execBootOk c s := rfl
@[simp] theorem exec_bootWatchdogExpiry (s : State) :
    exec .bootWatchdogExpiry s = execBootWatchdogExpiry s := rfl
@[simp] theorem exec_mgmtRestart (c : Cls) (flashBad : Nat) (s : State) :
    exec (.mgmtRestart c flashBad) s = execMgmtRestart c flashBad s := rfl
@[simp] theorem exec_contExpired (s : State) :
    exec .contExpired s = execContExpired s := rfl
@[simp] theorem exec_contHoldExpiry (s : State) :
    exec .contHoldExpiry s = execContHoldExpiry s := rfl
@[simp] theorem exec_stableTimeExpiry (s : State) :
    exec .stableTimeExpiry s = execStableTimeExpiry s := rfl
@[simp] theorem exec_thermalHalt (k : Nat) (s : State) :
    exec (.thermalHalt k) s = execThermalHalt k s := rfl
@[simp] theorem exec_regWrite (c : Cls) (agent size addr data : Nat) (s : State) :
    exec (.regWrite c agent size addr data) s = execRegWrite c agent size addr data s := rfl
@[simp] theorem exec_pageEnable (c : Cls) (agent pg v : Nat) (s : State) :
    exec (.pageEnable c agent pg v) s = execPageEnable c agent pg v s := rfl
@[simp] theorem exec_sequenceEnd (pg : Nat) (s : State) :
    exec (.sequenceEnd pg) s = execSequenceEnd pg s := rfl
@[simp] theorem exec_softReset (c : Cls) (agent pg en : Nat) (s : State) :
    exec (.softReset c agent pg en) s = execSoftReset c agent pg en s := rfl
@[simp] theorem exec_levelReqWrite (c : Cls) (agent pg v : Nat) (s : State) :
    exec (.levelReqWrite c agent pg v) s = execLevelReqWrite c agent pg v s := rfl
@[simp] theorem exec_evtClear (c : Cls) (pg mask again : Nat) (s : State) :
    exec (.evtClear c pg mask again) s = execEvtClear c pg mask again s := rfl
@[simp] theorem exec_evtEnWrite (c : Cls) (agent pg v : Nat) (s : State) :
    exec (.evtEnWrite c agent pg v) s = execEvtEnWrite c agent pg v s := rfl
@[simp] theorem exec_accessWrite (c : Cls) (agent pg data : Nat) (s : State) :
    exec (.accessWrite c agent pg data) s = execAccessWrite c agent pg data s := rfl
@[simp] theorem exec_accLock (c : Cls) (agent pg : Nat) (s : State) :
    exec (.accLock c agent pg) s = execAccLock c agent pg s := rfl
@[simp] theorem exec_fieldLock (c : Cls) (agent pg : Nat) (s : State) :
    exec (.fieldLock c agent pg) s = execFieldLock c agent pg s := rfl
@[simp] theorem exec_commitReq (c : Cls) (agent pg immed : Nat) (s : State) :
    exec (.commitReq c agent pg immed) s = execCommitReq c agent pg immed s := rfl
@[simp] theorem exec_commitCancel (c : Cls) (pg : Nat) (s : State) :
    exec (.commitCancel c pg) s = execCommitCancel c pg s := rfl
@[simp] theorem exec_commitSwap (pg : Nat) (s : State) :
    exec (.commitSwap pg) s = execCommitSwap pg s := rfl
@[simp] theorem exec_commitCopyDone (pg : Nat) (s : State) :
    exec (.commitCopyDone pg) s = execCommitCopyDone pg s := rfl
@[simp] theorem exec_coincidenceWindowClose (s : State) :
    exec .coincidenceWindowClose s = execCoincidenceWindowClose s := rfl
@[simp] theorem exec_spiTransaction (rd inc : Bool) (addr n : Nat) (ws : List Nat) (s : State) :
    exec (.spiTransaction rd inc addr n ws) s = execSpiTransaction rd inc addr n ws s := rfl
@[simp] theorem exec_spiAbort (rd inc : Bool) (addr : Nat) (ws : List Nat) (s : State) :
    exec (.spiAbort rd inc addr ws) s = execSpiAbort rd inc addr ws s := rfl
@[simp] theorem exec_jtagRegAccess (write : Bool) (addr data : Nat) (s : State) :
    exec (.jtagRegAccess write addr data) s = execJtagRegAccess write addr data s := rfl
@[simp] theorem exec_refLoss (s : State) :
    exec .refLoss s = execRefLoss s := rfl
@[simp] theorem exec_refBack (rate : Nat) (s : State) :
    exec (.refBack rate) s = execRefBack rate s := rfl
@[simp] theorem exec_lock (k : Nat) (s : State) :
    exec (.lock k) s = execLock k s := rfl
@[simp] theorem exec_loopReady (k : Nat) (s : State) :
    exec (.loopReady k) s = execLoopReady k s := rfl
@[simp] theorem exec_lol (k : Nat) (s : State) :
    exec (.lol k) s = execLol k s := rfl
@[simp] theorem exec_bandFail (k : Nat) (s : State) :
    exec (.bandFail k) s = execBandFail k s := rfl
@[simp] theorem exec_tsyncLoad (s : State) :
    exec .tsyncLoad s = execTsyncLoad s := rfl
@[simp] theorem exec_tsyncCheck (s : State) :
    exec .tsyncCheck s = execTsyncCheck s := rfl
@[simp] theorem exec_tsyncoPulse (s : State) :
    exec .tsyncoPulse s = execTsyncoPulse s := rfl
@[simp] theorem exec_outSent (s : State) :
    exec .outSent s = execOutSent s := rfl
@[simp] theorem exec_stepGo (c : Cls) (s : State) :
    exec (.stepGo c) s = execStepGo c s := rfl
@[simp] theorem exec_stepDone (s : State) :
    exec .stepDone s = execStepDone s := rfl
@[simp] theorem exec_validSet (c : Cls) (s : State) :
    exec (.validSet c) s = execValidSet c s := rfl
@[simp] theorem exec_nowLoRead (c : Cls) (s : State) :
    exec (.nowLoRead c) s = execNowLoRead c s := rfl
@[simp] theorem exec_ovlEngage (n : Nat) (s : State) :
    exec (.ovlEngage n) s = execOvlEngage n s := rfl
@[simp] theorem exec_ovlReleaseStep (n below : Nat) (s : State) :
    exec (.ovlReleaseStep n below) s = execOvlReleaseStep n below s := rfl
@[simp] theorem exec_modReset (n : Nat) (s : State) :
    exec (.modReset n) s = execModReset n s := rfl
@[simp] theorem exec_compSwap (n : Nat) (s : State) :
    exec (.compSwap n) s = execCompSwap n s := rfl
@[simp] theorem exec_rxqOverflow (n : Nat) (s : State) :
    exec (.rxqOverflow n) s = execRxqOverflow n s := rfl
@[simp] theorem exec_txqUnderflow (n : Nat) (s : State) :
    exec (.txqUnderflow n) s = execTxqUnderflow n s := rfl
@[simp] theorem exec_usUnderflow (s : State) :
    exec .usUnderflow s = execUsUnderflow s := rfl
@[simp] theorem exec_decAlign (c : Cls) (n : Nat) (s : State) :
    exec (.decAlign c n) s = execDecAlign c n s := rfl
@[simp] theorem exec_alignDone (n : Nat) (s : State) :
    exec (.alignDone n) s = execAlignDone n s := rfl
@[simp] theorem exec_thresholdCrossing (tx : Bool) (n : Nat) (s : State) :
    exec (.thresholdCrossing tx n) s = execThresholdCrossing tx n s := rfl
@[simp] theorem exec_thrCfgWrite (c : Cls) (agent : Nat) (tx : Bool) (n which data : Nat) (s : State) :
    exec (.thrCfgWrite c agent tx n which data) s = execThrCfgWrite c agent tx n which data s := rfl
@[simp] theorem exec_peakNew (t : Nat) (s : State) :
    exec (.peakNew t) s = execPeakNew t s := rfl
@[simp] theorem exec_msNew (t : Nat) (s : State) :
    exec (.msNew t) s = execMsNew t s := rfl
@[simp] theorem exec_envelopeWord (t : Nat) (s : State) :
    exec (.envelopeWord t) s = execEnvelopeWord t s := rfl
@[simp] theorem exec_cellSwap (n : Nat) (s : State) :
    exec (.cellSwap n) s = execCellSwap n s := rfl
@[simp] theorem exec_rangeSwitch (n : Nat) (s : State) :
    exec (.rangeSwitch n) s = execRangeSwitch n s := rfl
@[simp] theorem exec_rangeDone (n : Nat) (s : State) :
    exec (.rangeDone n) s = execRangeDone n s := rfl
@[simp] theorem exec_txMuteWrite (c : Cls) (agent n v : Nat) (s : State) :
    exec (.txMuteWrite c agent n v) s = execTxMuteWrite c agent n v s := rfl
@[simp] theorem exec_txkillAssert (s : State) :
    exec .txkillAssert s = execTxkillAssert s := rfl
@[simp] theorem exec_txkillDeassert (s : State) :
    exec .txkillDeassert s = execTxkillDeassert s := rfl
@[simp] theorem exec_complianceFault (n : Nat) (short : Bool) (s : State) :
    exec (.complianceFault n short) s = execComplianceFault n short s := rfl
@[simp] theorem exec_retireWrite (c : Cls) (agent n v : Nat) (s : State) :
    exec (.retireWrite c agent n v) s = execRetireWrite c agent n v s := rfl
@[simp] theorem exec_vbiasCfgWrite (c : Cls) (agent k data : Nat) (s : State) :
    exec (.vbiasCfgWrite c agent k data) s = execVbiasCfgWrite c agent k data s := rfl
@[simp] theorem exec_vbiasSlewStep (k : Nat) (s : State) :
    exec (.vbiasSlewStep k) s = execVbiasSlewStep k s := rfl
@[simp] theorem exec_vbiasRangeSwitch (k : Nat) (s : State) :
    exec (.vbiasRangeSwitch k) s = execVbiasRangeSwitch k s := rfl
@[simp] theorem exec_setTableWrite (c : Cls) (agent d set data : Nat) (s : State) :
    exec (.setTableWrite c agent d set data) s = execSetTableWrite c agent d set data s := rfl
@[simp] theorem exec_weightWrite (c : Cls) (addr v : Nat) (s : State) :
    exec (.weightWrite c addr v) s = execWeightWrite c addr v s := rfl
@[simp] theorem exec_fillGo (c : Cls) (s : State) :
    exec (.fillGo c) s = execFillGo c s := rfl
@[simp] theorem exec_fillDone (s : State) :
    exec .fillDone s = execFillDone s := rfl
@[simp] theorem exec_renormDone (d : Nat) (s : State) :
    exec (.renormDone d) s = execRenormDone d s := rfl
@[simp] theorem exec_weightDamaged (d l k : Nat) (s : State) :
    exec (.weightDamaged d l k) s = execWeightDamaged d l k s := rfl
@[simp] theorem exec_limiterWindowEnd (s : State) :
    exec .limiterWindowEnd s = execLimiterWindowEnd s := rfl
@[simp] theorem exec_dpdEnApply (p : Nat) (s : State) :
    exec (.dpdEnApply p) s = execDpdEnApply p s := rfl
@[simp] theorem exec_dpdAssign (c : Nat) (s : State) :
    exec (.dpdAssign c) s = execDpdAssign c s := rfl
@[simp] theorem exec_dpdCaptureStart (c : Nat) (s : State) :
    exec (.dpdCaptureStart c) s = execDpdCaptureStart c s := rfl
@[simp] theorem exec_dpdCaptureDone (c : Nat) (s : State) :
    exec (.dpdCaptureDone c) s = execDpdCaptureDone c s := rfl
@[simp] theorem exec_jobRelease (c : Cls) (core : Nat) (s : State) :
    exec (.jobRelease c core) s = execJobRelease c core s := rfl
@[simp] theorem exec_updReq (c : Cls) (p : Nat) (s : State) :
    exec (.updReq c p) s = execUpdReq c p s := rfl
@[simp] theorem exec_guardBaselineDone (p : Nat) (s : State) :
    exec (.guardBaselineDone p) s = execGuardBaselineDone p s := rfl
@[simp] theorem exec_guardVerdict (p : Nat) (s : State) :
    exec (.guardVerdict p) s = execGuardVerdict p s := rfl
@[simp] theorem exec_guardTimeout (p : Nat) (s : State) :
    exec (.guardTimeout p) s = execGuardTimeout p s := rfl
@[simp] theorem exec_modelWrite (c : Cls) (addr v : Nat) (s : State) :
    exec (.modelWrite c addr v) s = execModelWrite c addr v s := rfl
@[simp] theorem exec_modelDamaged (p w : Nat) (s : State) :
    exec (.modelDamaged p w) s = execModelDamaged p w s := rfl
@[simp] theorem exec_slotBoundary (g : Nat) (s : State) :
    exec (.slotBoundary g) s = execSlotBoundary g s := rfl
@[simp] theorem exec_turnDriverSwitch (n : Nat) (s : State) :
    exec (.turnDriverSwitch n) s = execTurnDriverSwitch n s := rfl
@[simp] theorem exec_turnRoundSettled (n : Nat) (s : State) :
    exec (.turnRoundSettled n) s = execTurnRoundSettled n s := rfl
@[simp] theorem exec_trswChange (g : Nat) (s : State) :
    exec (.trswChange g) s = execTrswChange g s := rfl
@[simp] theorem exec_enqAct (c : Cls) (act : Nat) (s : State) :
    exec (.enqAct c act) s = execEnqAct c act s := rfl
@[simp] theorem exec_queueFlush (c : Cls) (g : Nat) (s : State) :
    exec (.queueFlush c g) s = execQueueFlush c g s := rfl
@[simp] theorem exec_tlWindow (g : Nat) (s : State) :
    exec (.tlWindow g) s = execTlWindow g s := rfl
@[simp] theorem exec_tlSet (g : Nat) (s : State) :
    exec (.tlSet g) s = execTlSet g s := rfl
@[simp] theorem exec_tlOneshot (g : Nat) (s : State) :
    exec (.tlOneshot g) s = execTlOneshot g s := rfl
@[simp] theorem exec_tlCommit (g : Nat) (s : State) :
    exec (.tlCommit g) s = execTlCommit g s := rfl
@[simp] theorem exec_tlRange (g : Nat) (s : State) :
    exec (.tlRange g) s = execTlRange g s := rfl
@[simp] theorem exec_tlRffe (g : Nat) (s : State) :
    exec (.tlRffe g) s = execTlRffe g s := rfl
@[simp] theorem exec_tlTrig (g : Nat) (s : State) :
    exec (.tlTrig g) s = execTlTrig g s := rfl
@[simp] theorem exec_windowEnd (n : Nat) (s : State) :
    exec (.windowEnd n) s = execWindowEnd n s := rfl
@[simp] theorem exec_oneshotEnd (n : Nat) (s : State) :
    exec (.oneshotEnd n) s = execOneshotEnd n s := rfl
@[simp] theorem exec_trigoutEnd (s : State) :
    exec .trigoutEnd s = execTrigoutEnd s := rfl
@[simp] theorem exec_rffeSequenceStart (g t : Nat) (tx : Bool) (s : State) :
    exec (.rffeSequenceStart g t tx) s = execRffeSequenceStart g t tx s := rfl
@[simp] theorem exec_rffeCommandDone (b data : Nat) (perr : Bool) (s : State) :
    exec (.rffeCommandDone b data perr) s = execRffeCommandDone b data perr s := rfl
@[simp] theorem exec_laneSleepEnter (ds : Bool) (s : State) :
    exec (.laneSleepEnter ds) s = execLaneSleepEnter ds s := rfl
@[simp] theorem exec_laneWakeStart (ds : Bool) (s : State) :
    exec (.laneWakeStart ds) s = execLaneWakeStart ds s := rfl
@[simp] theorem exec_laneAwake (ds : Bool) (s : State) :
    exec (.laneAwake ds) s = execLaneAwake ds s := rfl
@[simp] theorem exec_laneWakeRequest (ds evt : Bool) (s : State) :
    exec (.laneWakeRequest ds evt) s = execLaneWakeRequest ds evt s := rfl
@[simp] theorem exec_wakeFail (s : State) :
    exec .wakeFail s = execWakeFail s := rfl
@[simp] theorem exec_refCheck (dev : Int) (s : State) :
    exec (.refCheck dev) s = execRefCheck dev s := rfl
@[simp] theorem exec_calResult (k p : Nat) (vals : List Nat) (reason out : Nat) (s : State) :
    exec (.calResult k p vals reason out) s = execCalResult k p vals reason out s := rfl
@[simp] theorem exec_trimApply (p : Nat) (s : State) :
    exec (.trimApply p) s = execTrimApply p s := rfl
@[simp] theorem exec_loPhaseDone (x : Nat) (phases : List Nat) (s : State) :
    exec (.loPhaseDone x phases) s = execLoPhaseDone x phases s := rfl
@[simp] theorem exec_corrSlewUpdate (s : State) :
    exec .corrSlewUpdate s = execCorrSlewUpdate s := rfl
@[simp] theorem exec_arrayResult (other : Bool) (d p g dly : Nat) (s : State) :
    exec (.arrayResult other d p g dly) s = execArrayResult other d p g dly s := rfl
@[simp] theorem exec_fgGo (c : Cls) (s : State) :
    exec (.fgGo c) s = execFgGo c s := rfl
@[simp] theorem exec_fgAbort (c : Cls) (s : State) :
    exec (.fgAbort c) s = execFgAbort c s := rfl
@[simp] theorem exec_fgDone (s : State) :
    exec .fgDone s = execFgDone s := rfl
@[simp] theorem exec_calDue (k p : Nat) (s : State) :
    exec (.calDue k p) s = execCalDue k p s := rfl
@[simp] theorem exec_crossSlip (g : Nat) (s : State) :
    exec (.crossSlip g) s = execCrossSlip g s := rfl
@[simp] theorem exec_clkLoss (k : Nat) (s : State) :
    exec (.clkLoss k) s = execClkLoss k s := rfl
@[simp] theorem exec_blockLock (n : Nat) (s : State) :
    exec (.blockLock n) s = execBlockLock n s := rfl
@[simp] theorem exec_blockLoss (n : Nat) (s : State) :
    exec (.blockLoss n) s = execBlockLoss n s := rfl
@[simp] theorem exec_bitslip (c : Cls) (n : Nat) (s : State) :
    exec (.bitslip c n) s = execBitslip c n s := rfl
@[simp] theorem exec_eyePublish (n left right : Nat) (s : State) :
    exec (.eyePublish n left right) s = execEyePublish n left right s := rfl
@[simp] theorem exec_prbsSync (n : Nat) (s : State) :
    exec (.prbsSync n) s = execPrbsSync n s := rfl
@[simp] theorem exec_prbsLoss (n errs : Nat) (s : State) :
    exec (.prbsLoss n errs) s = execPrbsLoss n errs s := rfl
@[simp] theorem exec_cntClr (c : Cls) (n : Nat) (s : State) :
    exec (.cntClr c n) s = execCntClr c n s := rfl
@[simp] theorem exec_injSingle (c : Cls) (n : Nat) (s : State) :
    exec (.injSingle c n) s = execInjSingle c n s := rfl
@[simp] theorem exec_injBurst (c : Cls) (n : Nat) (s : State) :
    exec (.injBurst c n) s = execInjBurst c n s := rfl
@[simp] theorem exec_injDone (n : Nat) (s : State) :
    exec (.injDone n) s = execInjDone n s := rfl
@[simp] theorem exec_markerSend (ofs : Nat) (resume : Bool) (s : State) :
    exec (.markerSend ofs resume) s = execMarkerSend ofs resume s := rfl
@[simp] theorem exec_markerReceive (lane block frac skew : Nat) (s : State) :
    exec (.markerReceive lane block frac skew) s = execMarkerReceive lane block frac skew s := rfl
@[simp] theorem exec_iqdPacket (ws : List Nat) (broken : Bool) (s : State) :
    exec (.iqdPacket ws broken) s = execIqdPacket ws broken s := rfl
@[simp] theorem exec_playoutMiss (k : Nat) (s : State) :
    exec (.playoutMiss k) s = execPlayoutMiss k s := rfl
@[simp] theorem exec_iquWindowSend (s : State) :
    exec .iquWindowSend s = execIquWindowSend s := rfl
@[simp] theorem exec_ctlWeights (waiting : Nat) (ws : List Nat) (broken : Bool) (s : State) :
    exec (.ctlWeights waiting ws broken) s = execCtlWeights waiting ws broken s := rfl
@[simp] theorem exec_ctlTimeline (waiting : Nat) (ws : List Nat) (broken : Bool) (s : State) :
    exec (.ctlTimeline waiting ws broken) s = execCtlTimeline waiting ws broken s := rfl
@[simp] theorem exec_ctlCommit (waiting : Nat) (ws : List Nat) (broken : Bool) (s : State) :
    exec (.ctlCommit waiting ws broken) s = execCtlCommit waiting ws broken s := rfl
@[simp] theorem exec_ctlSleep (waiting : Nat) (ws : List Nat) (broken : Bool) (s : State) :
    exec (.ctlSleep waiting ws broken) s = execCtlSleep waiting ws broken s := rfl
@[simp] theorem exec_mgtReg (waiting : Nat) (ws : List Nat) (broken : Bool) (s : State) :
    exec (.mgtReg waiting ws broken) s = execMgtReg waiting ws broken s := rfl
@[simp] theorem exec_mgtUpdate (ws : List Nat) (broken : Bool) (s : State) :
    exec (.mgtUpdate ws broken) s = execMgtUpdate ws broken s := rfl
@[simp] theorem exec_mgtLogRead (ws : List Nat) (broken : Bool) (s : State) :
    exec (.mgtLogRead ws broken) s = execMgtLogRead ws broken s := rfl
@[simp] theorem exec_evtPacketSend (s : State) :
    exec .evtPacketSend s = execEvtPacketSend s := rfl
@[simp] theorem exec_captureExport (k : Nat) (s : State) :
    exec (.captureExport k) s = execCaptureExport k s := rfl
@[simp] theorem exec_timReq (ws : List Nat) (broken : Bool) (t2 : Nat) (s : State) :
    exec (.timReq ws broken t2) s = execTimReq ws broken t2 s := rfl
@[simp] theorem exec_timFin (ws : List Nat) (broken : Bool) (s : State) :
    exec (.timFin ws broken) s = execTimFin ws broken s := rfl
@[simp] theorem exec_linkDown (c : Nat) (s : State) :
    exec (.linkDown c) s = execLinkDown c s := rfl
@[simp] theorem exec_linkDownTimeout (s : State) :
    exec .linkDownTimeout s = execLinkDownTimeout s := rfl
@[simp] theorem exec_linkUp (s : State) :
    exec .linkUp s = execLinkUp s := rfl
@[simp] theorem exec_burstStart (s : State) :
    exec .burstStart s = execBurstStart s := rfl
@[simp] theorem exec_burstSent (s : State) :
    exec .burstSent s = execBurstSent s := rfl
@[simp] theorem exec_agcStep (lvl : Int) (s : State) :
    exec (.agcStep lvl) s = execAgcStep lvl s := rfl
@[simp] theorem exec_burstDetect (beamB : Bool) (s : State) :
    exec (.burstDetect beamB) s = execBurstDetect beamB s := rfl
@[simp] theorem exec_falseDetect (s : State) :
    exec .falseDetect s = execFalseDetect s := rfl
@[simp] theorem exec_rxRecord (b : Burst) (s : State) :
    exec (.rxRecord b) s = execRxRecord b s := rfl
@[simp] theorem exec_soundRxqPop (c : Cls) (s : State) :
    exec (.soundRxqPop c) s = execSoundRxqPop c s := rfl
@[simp] theorem exec_remGo (c : Cls) (s : State) :
    exec (.remGo c) s = execRemGo c s := rfl
@[simp] theorem exec_xferDone (s : State) :
    exec .xferDone s = execXferDone s := rfl
@[simp] theorem exec_anisePermit (s : State) :
    exec .anisePermit s = execAnisePermit s := rfl
@[simp] theorem exec_bcastRetune (c : Cls) (agent std khz : Nat) (s : State) :
    exec (.bcastRetune c agent std khz) s = execBcastRetune c agent std khz s := rfl
@[simp] theorem exec_synthLock (s : State) :
    exec .synthLock s = execSynthLock s := rfl
@[simp] theorem exec_bcastFeCalDone (s : State) :
    exec .bcastFeCalDone s = execBcastFeCalDone s := rfl
@[simp] theorem exec_rdsBlock (ofs : Nat) (ok : Bool) (q : Quality) (s : State) :
    exec (.rdsBlock ofs ok q) s = execRdsBlock ofs ok q s := rfl
@[simp] theorem exec_rdsGroup (a b c d stamp : Nat) (s : State) :
    exec (.rdsGroup a b c d stamp) s = execRdsGroup a b c d stamp s := rfl
@[simp] theorem exec_afCheck (level : Int) (s : State) :
    exec (.afCheck level) s = execAfCheck level s := rfl
@[simp] theorem exec_afPiCheck (pi : Nat) (s : State) :
    exec (.afPiCheck pi) s = execAfPiCheck pi s := rfl
@[simp] theorem exec_dabFrame (x : DabFrame) (s : State) :
    exec (.dabFrame x) s = execDabFrame x s := rfl
@[simp] theorem exec_dabPacket (addr : Nat) (data : List Nat) (ok : Bool) (f : Nat) (s : State) :
    exec (.dabPacket addr data ok f) s = execDabPacket addr data ok f s := rfl
@[simp] theorem exec_dabFollow (s : State) :
    exec .dabFollow s = execDabFollow s := rfl
@[simp] theorem exec_dabCandidateTimeout (s : State) :
    exec .dabCandidateTimeout s = execDabCandidateTimeout s := rfl
@[simp] theorem exec_timingCalGo (c : Cls) (s : State) :
    exec (.timingCalGo c) s = execTimingCalGo c s := rfl
@[simp] theorem exec_timingCalClr (c : Cls) (s : State) :
    exec (.timingCalClr c) s = execTimingCalClr c s := rfl
@[simp] theorem exec_measTimeout (s : State) :
    exec .measTimeout s = execMeasTimeout s := rfl
@[simp] theorem exec_sdqPop (c : Cls) (s : State) :
    exec (.sdqPop c) s = execSdqPop c s := rfl
@[simp] theorem exec_sdqFlush (c : Cls) (s : State) :
    exec (.sdqFlush c) s = execSdqFlush c s := rfl
@[simp] theorem exec_arm (c : Cls) (k : Nat) (s : State) :
    exec (.arm c k) s = execArm c k s := rfl
@[simp] theorem exec_disarm (c : Cls) (k : Nat) (s : State) :
    exec (.disarm c k) s = execDisarm c k s := rfl
@[simp] theorem exec_captureSoftTrig (c : Cls) (k : Nat) (s : State) :
    exec (.captureSoftTrig c k) s = execCaptureSoftTrig c k s := rfl
@[simp] theorem exec_captureTrigger (k cause frac : Nat) (s : State) :
    exec (.captureTrigger k cause frac) s = execCaptureTrigger k cause frac s := rfl
@[simp] theorem exec_autoTimeout (k : Nat) (s : State) :
    exec (.autoTimeout k) s = execAutoTimeout k s := rfl
@[simp] theorem exec_segDone (k : Nat) (s : State) :
    exec (.segDone k) s = execSegDone k s := rfl
@[simp] theorem exec_gap (k first resume : Nat) (s : State) :
    exec (.gap k first resume) s = execGap k first resume s := rfl
@[simp] theorem exec_rdPtrWrite (c : Cls) (agent k v : Nat) (s : State) :
    exec (.rdPtrWrite c agent k v) s = execRdPtrWrite c agent k v s := rfl
@[simp] theorem exec_dmaDoorbell (cls : Cls) (c desc : Nat) (s : State) :
    exec (.dmaDoorbell cls c desc) s = execDmaDoorbell cls c desc s := rfl
@[simp] theorem exec_dmaAbort (cls : Cls) (c : Nat) (s : State) :
    exec (.dmaAbort cls c) s = execDmaAbort cls c s := rfl
@[simp] theorem exec_dmaDescDone (c : Nat) (s : State) :
    exec (.dmaDescDone c) s = execDmaDescDone c s := rfl
@[simp] theorem exec_dmaPaceResume (c : Nat) (s : State) :
    exec (.dmaPaceResume c) s = execDmaPaceResume c s := rfl
@[simp] theorem exec_targetTimeout (c ofs : Nat) (wr : Bool) (s : State) :
    exec (.targetTimeout c ofs wr) s = execTargetTimeout c ofs wr s := rfl
@[simp] theorem exec_parallelDsp (c : Nat) (m0 m1 : Option MacF) (mv : Moves) (s : State) :
    exec (.parallelDsp c m0 m1 mv) s = execParallelDsp c m0 m1 mv s := rfl
@[simp] theorem exec_tfr (c a b : Nat) (mv : Moves) (s : State) :
    exec (.tfr c a b mv) s = execTfr c a b mv s := rfl
@[simp] theorem exec_add (c a b : Nat) (mv : Moves) (s : State) :
    exec (.add c a b mv) s = execAdd c a b mv s := rfl
@[simp] theorem exec_sub (c a b : Nat) (mv : Moves) (s : State) :
    exec (.sub c a b mv) s = execSub c a b mv s := rfl
@[simp] theorem exec_neg (c a b : Nat) (mv : Moves) (s : State) :
    exec (.neg c a b mv) s = execNeg c a b mv s := rfl
@[simp] theorem exec_abs (c a b : Nat) (mv : Moves) (s : State) :
    exec (.abs c a b mv) s = execAbs c a b mv s := rfl
@[simp] theorem exec_clr (c a : Nat) (mv : Moves) (s : State) :
    exec (.clr c a mv) s = execClr c a mv s := rfl
@[simp] theorem exec_rnd (c a : Nat) (mv : Moves) (s : State) :
    exec (.rnd c a mv) s = execRnd c a mv s := rfl
@[simp] theorem exec_sat (c a : Nat) (mv : Moves) (s : State) :
    exec (.sat c a mv) s = execSat c a mv s := rfl
@[simp] theorem exec_asl (c a n : Nat) (mv : Moves) (s : State) :
    exec (.asl c a n mv) s = execAsl c a n mv s := rfl
@[simp] theorem exec_asr (c a n : Nat) (mv : Moves) (s : State) :
    exec (.asr c a n mv) s = execAsr c a n mv s := rfl
@[simp] theorem exec_addr (c a r : Nat) (mv : Moves) (s : State) :
    exec (.addr c a r mv) s = execAddr c a r mv s := rfl
@[simp] theorem exec_subr (c a r : Nat) (mv : Moves) (s : State) :
    exec (.subr c a r mv) s = execSubr c a r mv s := rfl
@[simp] theorem exec_cmp (c a b : Nat) (mv : Moves) (s : State) :
    exec (.cmp c a b mv) s = execCmp c a b mv s := rfl
@[simp] theorem exec_cmpr (c a r : Nat) (mv : Moves) (s : State) :
    exec (.cmpr c a r mv) s = execCmpr c a r mv s := rfl
@[simp] theorem exec_and (c a r : Nat) (mv : Moves) (s : State) :
    exec (.and c a r mv) s = execAnd c a r mv s := rfl
@[simp] theorem exec_or (c a r : Nat) (mv : Moves) (s : State) :
    exec (.or c a r mv) s = execOr c a r mv s := rfl
@[simp] theorem exec_xor (c a r : Nat) (mv : Moves) (s : State) :
    exec (.xor c a r mv) s = execXor c a r mv s := rfl
@[simp] theorem exec_max (c a b : Nat) (mv : Moves) (s : State) :
    exec (.max c a b mv) s = execMax c a b mv s := rfl
@[simp] theorem exec_min (c a b : Nat) (mv : Moves) (s : State) :
    exec (.min c a b mv) s = execMin c a b mv s := rfl
@[simp] theorem exec_norm (c a r : Nat) (mv : Moves) (s : State) :
    exec (.norm c a r mv) s = execNorm c a r mv s := rfl
@[simp] theorem exec_li (c r imm : Nat) (s : State) :
    exec (.li c r imm) s = execLi c r imm s := rfl
@[simp] theorem exec_move (c dst src : Nat) (s : State) :
    exec (.move c dst src) s = execMove c dst src s := rfl
@[simp] theorem exec_addi (c dst imm : Nat) (s : State) :
    exec (.addi c dst imm) s = execAddi c dst imm s := rfl
@[simp] theorem exec_asave (c dst src : Nat) (s : State) :
    exec (.asave c dst src) s = execAsave c dst src s := rfl
@[simp] theorem exec_aload (c dst src : Nat) (s : State) :
    exec (.aload c dst src) s = execAload c dst src s := rfl
@[simp] theorem exec_nop (c : Nat) (s : State) :
    exec (.nop c) s = execNop c s := rfl
@[simp] theorem exec_jmp (c cond target : Nat) (s : State) :
    exec (.jmp c cond target) s = execJmp c cond target s := rfl
@[simp] theorem exec_jsr (c cond target : Nat) (s : State) :
    exec (.jsr c cond target) s = execJsr c cond target s := rfl
@[simp] theorem exec_rts (c cond : Nat) (s : State) :
    exec (.rts c cond) s = execRts c cond s := rfl
@[simp] theorem exec_reti (c : Nat) (s : State) :
    exec (.reti c) s = execReti c s := rfl
@[simp] theorem exec_doLoop (c : Nat) (fromReg : Bool) (reg count target : Nat) (s : State) :
    exec (.doLoop c fromReg reg count target) s = execDo c fromReg reg count target s := rfl
@[simp] theorem exec_yield (c : Nat) (s : State) :
    exec (.yield c) s = execYield c s := rfl
@[simp] theorem exec_wait (c : Nat) (s : State) :
    exec (.wait c) s = execWait c s := rfl
@[simp] theorem exec_halt (c : Nat) (s : State) :
    exec (.halt c) s = execHalt c s := rfl
@[simp] theorem exec_ei (c : Nat) (s : State) :
    exec (.ei c) s = execEi c s := rfl
@[simp] theorem exec_di (c : Nat) (s : State) :
    exec (.di c) s = execDi c s := rfl
@[simp] theorem exec_interruptEntry (c : Nat) (s : State) :
    exec (.interruptEntry c) s = execInterruptEntry c s := rfl
@[simp] theorem exec_coreFault (c : Nat) (s : State) :
    exec (.coreFault c) s = execCoreFault c s := rfl
@[simp] theorem exec_ipendClear (c v : Nat) (s : State) :
    exec (.ipendClear c v) s = execIpendClear c v s := rfl
@[simp] theorem exec_mboxOut (c v : Nat) (s : State) :
    exec (.mboxOut c v) s = execMboxOut c v s := rfl
@[simp] theorem exec_tb0Read (c : Nat) (s : State) :
    exec (.tb0Read c) s = execTb0Read c s := rfl
@[simp] theorem exec_tcmpArm (c v : Nat) (s : State) :
    exec (.tcmpArm c v) s = execTcmpArm c v s := rfl
@[simp] theorem exec_coreTimer (c : Nat) (s : State) :
    exec (.coreTimer c) s = execCoreTimer c s := rfl
@[simp] theorem exec_strDataRead (c : Nat) (s : State) :
    exec (.strDataRead c) s = execStrDataRead c s := rfl
@[simp] theorem exec_brRead (c : Nat) (s : State) :
    exec (.brRead c) s = execBrRead c s := rfl
@[simp] theorem exec_brWrite (c : Nat) (s : State) :
    exec (.brWrite c) s = execBrWrite c s := rfl
@[simp] theorem exec_bridgeDone (c : Nat) (s : State) :
    exec (.bridgeDone c) s = execBridgeDone c s := rfl
@[simp] theorem exec_semAcquire (c n : Nat) (s : State) :
    exec (.semAcquire c n) s = execSemAcquire c n s := rfl
@[simp] theorem exec_semRelease (c n : Nat) (s : State) :
    exec (.semRelease c n) s = execSemRelease c n s := rfl
@[simp] theorem exec_kernelLoad (cls : Cls) (agent c : Nat) (s : State) :
    exec (.kernelLoad cls agent c) s = execKernelLoad cls agent c s := rfl
@[simp] theorem exec_hitlessLoad (cls : Cls) (agent c : Nat) (s : State) :
    exec (.hitlessLoad cls agent c) s = execHitlessLoad cls agent c s := rfl
@[simp] theorem exec_loadDone (c : Nat) (s : State) :
    exec (.loadDone c) s = execLoadDone c s := rfl
@[simp] theorem exec_runWrite (cls : Cls) (agent c v : Nat) (s : State) :
    exec (.runWrite cls agent c v) s = execRunWrite cls agent c v s := rfl
@[simp] theorem exec_mboxIrq (cls : Cls) (c : Nat) (s : State) :
    exec (.mboxIrq cls c) s = execMboxIrq cls c s := rfl
@[simp] theorem exec_swapGo (cls : Cls) (c : Nat) (s : State) :
    exec (.swapGo cls c) s = execSwapGo cls c s := rfl
@[simp] theorem exec_swapBoundary (c : Nat) (s : State) :
    exec (.swapBoundary c) s = execSwapBoundary c s := rfl
@[simp] theorem exec_swapTimeout (c : Nat) (s : State) :
    exec (.swapTimeout c) s = execSwapTimeout c s := rfl
@[simp] theorem exec_cacheClean (a word upset : Nat) (s : State) :
    exec (.cacheClean a word upset) s = execCacheClean a word upset s := rfl
@[simp] theorem exec_cacheInvalidate (a : Nat) (s : State) :
    exec (.cacheInvalidate a) s = execCacheInvalidate a s := rfl
@[simp] theorem exec_cacheCleanInvalidate (a word upset : Nat) (s : State) :
    exec (.cacheCleanInvalidate a word upset) s = execCacheCleanInvalidate a word upset s := rfl
@[simp] theorem exec_icacheInvalidate (s : State) :
    exec .icacheInvalidate s = execIcacheInvalidate s := rfl
@[simp] theorem exec_mtimeCompare (s : State) :
    exec .mtimeCompare s = execMtimeCompare s := rfl
@[simp] theorem exec_wdEnable (c : Cls) (agent : Nat) (s : State) :
    exec (.wdEnable c agent) s = execWdEnable c agent s := rfl
@[simp] theorem exec_wdKick (c : Cls) (v : Nat) (s : State) :
    exec (.wdKick c v) s = execWdKick c v s := rfl
@[simp] theorem exec_runtimeWatchdogExpiry (flashBad : Nat) (s : State) :
    exec (.runtimeWatchdogExpiry flashBad) s = execRuntimeWatchdogExpiry flashBad s := rfl
@[simp] theorem exec_updOpen (c : Cls) (arg : Nat) (s : State) :
    exec (.updOpen c arg) s = execUpdOpen c arg s := rfl
@[simp] theorem exec_updChunk (c : Cls) (arg : Nat) (s : State) :
    exec (.updChunk c arg) s = execUpdChunk c arg s := rfl
@[simp] theorem exec_updVerify (c : Cls) (arg : Nat) (s : State) :
    exec (.updVerify c arg) s = execUpdVerify c arg s := rfl
@[simp] theorem exec_updActivate (c : Cls) (arg : Nat) (s : State) :
    exec (.updActivate c arg) s = execUpdActivate c arg s := rfl
@[simp] theorem exec_updConfirm (c : Cls) (arg : Nat) (s : State) :
    exec (.updConfirm c arg) s = execUpdConfirm c arg s := rfl
@[simp] theorem exec_updAbort (c : Cls) (arg : Nat) (s : State) :
    exec (.updAbort c arg) s = execUpdAbort c arg s := rfl
@[simp] theorem exec_rbAdvance (c : Cls) (arg : Nat) (s : State) :
    exec (.rbAdvance c arg) s = execRbAdvance c arg s := rfl
@[simp] theorem exec_updDone (bad : Bool) (flashBad : Nat) (s : State) :
    exec (.updDone bad flashBad) s = execUpdDone bad flashBad s := rfl
@[simp] theorem exec_fwLogRecord (c : Cls) (type sev : Nat) (s : State) :
    exec (.fwLogRecord c type sev) s = execFwLogRecord c type sev s := rfl
@[simp] theorem exec_logFlush (s : State) :
    exec .logFlush s = execLogFlush s := rfl
@[simp] theorem exec_logFlushCmd (c : Cls) (s : State) :
    exec (.logFlushCmd c) s = execLogFlushCmd c s := rfl
@[simp] theorem exec_logRdSeq (c : Cls) (agent q : Nat) (s : State) :
    exec (.logRdSeq c agent q) s = execLogRdSeq c agent q s := rfl
@[simp] theorem exec_logFlashReadDone (s : State) :
    exec .logFlashReadDone s = execLogFlashReadDone s := rfl
@[simp] theorem exec_sumacInfo (s : State) :
    exec .sumacInfo s = execSumacInfo s := rfl
@[simp] theorem exec_sumacRd (a n : Nat) (s : State) :
    exec (.sumacRd a n) s = execSumacRd a n s := rfl
@[simp] theorem exec_sumacLog (q n : Nat) (s : State) :
    exec (.sumacLog q n) s = execSumacLog q n s := rfl
@[simp] theorem exec_sumacChal (s : State) :
    exec .sumacChal s = execSumacChal s := rfl
@[simp] theorem exec_sumacElev (w : List Nat) (s : State) :
    exec (.sumacElev w) s = execSumacElev w s := rfl
@[simp] theorem exec_sumacDrop (s : State) :
    exec .sumacDrop s = execSumacDrop s := rfl
@[simp] theorem exec_sumacStart (s : State) :
    exec .sumacStart s = execSumacStart s := rfl
@[simp] theorem exec_sumacWr (a v : Nat) (s : State) :
    exec (.sumacWr a v) s = execSumacWr a v s := rfl
@[simp] theorem exec_sumacMode (m : Nat) (s : State) :
    exec (.sumacMode m) s = execSumacMode m s := rfl
@[simp] theorem exec_sumacBaud (r : Nat) (s : State) :
    exec (.sumacBaud r) s = execSumacBaud r s := rfl
@[simp] theorem exec_sumacRecover (s : State) :
    exec .sumacRecover s = execSumacRecover s := rfl
@[simp] theorem exec_sumacUpd (op arg ofs : Nat) (data : List Nat) (s : State) :
    exec (.sumacUpd op arg ofs data) s = execSumacUpd op arg ofs data s := rfl
@[simp] theorem exec_monrxBreak (s : State) :
    exec .monrxBreak s = execMonrxBreak s := rfl
@[simp] theorem exec_elevationExpiry (s : State) :
    exec .elevationExpiry s = execElevationExpiry s := rfl
@[simp] theorem exec_elevLockExpiry (s : State) :
    exec .elevLockExpiry s = execElevLockExpiry s := rfl
@[simp] theorem exec_monitorDrop (c : Cls) (s : State) :
    exec (.monitorDrop c) s = execMonitorDrop c s := rfl
@[simp] theorem exec_progHash (c : Cls) (arg : Nat) (s : State) :
    exec (.progHash c arg) s = execProgHash c arg s := rfl
@[simp] theorem exec_revoke (c : Cls) (arg : Nat) (s : State) :
    exec (.revoke c arg) s = execRevoke c arg s := rfl
@[simp] theorem exec_scanPermit (c : Cls) (arg : Nat) (s : State) :
    exec (.scanPermit c arg) s = execScanPermit c arg s := rfl
@[simp] theorem exec_genId (c : Cls) (arg : Nat) (s : State) :
    exec (.genId c arg) s = execGenId c arg s := rfl
@[simp] theorem exec_lrAdvance (c : Cls) (arg : Nat) (s : State) :
    exec (.lrAdvance c arg) s = execLrAdvance c arg s := rfl
@[simp] theorem exec_otpDone (bad : Bool) (s : State) :
    exec (.otpDone bad) s = execOtpDone bad s := rfl
@[simp] theorem exec_lrLoad (c : Cls) (s : State) :
    exec (.lrLoad c) s = execLrLoad c s := rfl
@[simp] theorem exec_lrLoadDone (s : State) :
    exec .lrLoadDone s = execLrLoadDone s := rfl
@[simp] theorem exec_genEph (c : Cls) (s : State) :
    exec (.genEph c) s = execGenEph c s := rfl
@[simp] theorem exec_derive (c : Cls) (s : State) :
    exec (.derive c) s = execDerive c s := rfl
@[simp] theorem exec_attest (c : Cls) (s : State) :
    exec (.attest c) s = execAttest c s := rfl
@[simp] theorem exec_keDone (s : State) :
    exec .keDone s = execKeDone s := rfl
@[simp] theorem exec_sessionKeySwitch (s : State) :
    exec .sessionKeySwitch s = execSessionKeySwitch s := rfl
@[simp] theorem exec_rngDataRead (c : Cls) (s : State) :
    exec (.rngDataRead c) s = execRngDataRead c s := rfl
@[simp] theorem exec_rngFail (s : State) :
    exec .rngFail s = execRngFail s := rfl
@[simp] theorem exec_dbgChal (c : Cls) (s : State) :
    exec (.dbgChal c) s = execDbgChal c s := rfl
@[simp] theorem exec_dbgUnlock (c : Cls) (s : State) :
    exec (.dbgUnlock c) s = execDbgUnlock c s := rfl
@[simp] theorem exec_clearDone (s : State) :
    exec .clearDone s = execClearDone s := rfl
@[simp] theorem exec_scrubVisit (m upset : Nat) (s : State) :
    exec (.scrubVisit m upset) s = execScrubVisit m upset s := rfl
@[simp] theorem exec_fuseProgram (c : Cls) (s : State) :
    exec (.fuseProgram c) s = execFuseProgram c s := rfl
@[simp] theorem exec_fuseCancel (c : Cls) (arg : Nat) (s : State) :
    exec (.fuseCancel c arg) s = execFuseCancel c arg s := rfl
@[simp] theorem exec_fuseDone (bad : Bool) (s : State) :
    exec (.fuseDone bad) s = execFuseDone bad s := rfl
@[simp] theorem exec_bistGo (c : Cls) (t : Nat) (s : State) :
    exec (.bistGo c t) s = execBistGo c t s := rfl
@[simp] theorem exec_bistAbort (c : Cls) (s : State) :
    exec (.bistAbort c) s = execBistAbort c s := rfl
@[simp] theorem exec_bistDone (fails : List (Nat × Nat)) (tx rx cal : Nat) (dev : Int) (s : State) :
    exec (.bistDone fails tx rx cal dev) s = execBistDone fails tx rx cal dev s := rfl
@[simp] theorem exec_bistResPop (c : Cls) (s : State) :
    exec (.bistResPop c) s = execBistResPop c s := rfl
@[simp] theorem exec_hkadcGo (c : Cls) (ch : Nat) (s : State) :
    exec (.hkadcGo c ch) s = execHkadcGo c ch s := rfl
@[simp] theorem exec_hkadcSchedule (s : State) :
    exec .hkadcSchedule s = execHkadcSchedule s := rfl
@[simp] theorem exec_hkadcCmpHit (ch : Nat) (back : Bool) (s : State) :
    exec (.hkadcCmpHit ch back) s = execHkadcCmpHit ch back s := rfl
@[simp] theorem exec_hkadcConversionDone (sup : Bool) (ch : Nat) (xs : List Int) (bad : Bool) (s : State) :
    exec (.hkadcConversionDone sup ch xs bad) s = execHkadcConversionDone sup ch xs bad s := rfl
@[simp] theorem exec_hkadcCalibration (start : Bool) (dev : Int) (s : State) :
    exec (.hkadcCalibration start dev) s = execHkadcCalibration start dev s := rfl
@[simp] theorem exec_hkadcQPop (c : Cls) (s : State) :
    exec (.hkadcQPop c) s = execHkadcQPop c s := rfl
@[simp] theorem exec_slackWindowEnd (adc dac : List Nat) (up : Nat) (s : State) :
    exec (.slackWindowEnd adc dac up) s = execSlackWindowEnd adc dac up s := rfl
@[simp] theorem exec_pmTelemetry (vout iout : Nat) (temp : Int) (s : State) :
    exec (.pmTelemetry vout iout temp) s = execPmTelemetry vout iout temp s := rfl
@[simp] theorem exec_pmAlert (status : Nat) (s : State) :
    exec (.pmAlert status) s = execPmAlert status s := rfl
@[simp] theorem exec_pmVoutCheck (ack : Bool) (vout : Nat) (s : State) :
    exec (.pmVoutCheck ack vout) s = execPmVoutCheck ack vout s := rfl
@[simp] theorem exec_retireGraceExpiry (d n : Nat) (s : State) :
    exec (.retireGraceExpiry d n) s = execRetireGraceExpiry d n s := rfl
@[simp] theorem exec_rxRetireWrite (c : Cls) (agent : Nat) (hi : Bool) (v : Nat) (s : State) :
    exec (.rxRetireWrite c agent hi v) s = execRxRetireWrite c agent hi v s := rfl
@[simp] theorem exec_lifeDayClose (s : State) :
    exec .lifeDayClose s = execLifeDayClose s := rfl
@[simp] theorem exec_gpioEdge (k : Nat) (rising : Bool) (s : State) :
    exec (.gpioEdge k rising) s = execGpioEdge k rising s := rfl
@[simp] theorem exec_timMeasLapse (s : State) :
    exec .timMeasLapse s = execTimMeasLapse s := rfl
@[simp] theorem exec_cuminMeasLapse (s : State) :
    exec .cuminMeasLapse s = execCuminMeasLapse s := rfl
@[simp] theorem exec_timRsp (id t3 : Nat) (s : State) :
    exec (.timRsp id t3) s = execTimRsp id t3 s := rfl
@[simp] theorem exec_markerWindowEnd (s : State) :
    exec .markerWindowEnd s = execMarkerWindowEnd s := rfl
@[simp] theorem exec_dabSyncLoss (s : State) :
    exec .dabSyncLoss s = execDabSyncLoss s := rfl
@[simp] theorem exec_dsckPresent (k : Nat) (dev : Int) (s : State) :
    exec (.dsckPresent k dev) s = execDsckPresent k dev s := rfl
@[simp] theorem exec_startLockTimeout (s : State) :
    exec .startLockTimeout s = execStartLockTimeout s := rfl

end Sys2Proof.Machine
end

