-- ==== Sys2Proof/Laws/Memory.lean ====
section
/-! SUPPORT. Laws of addressed memory: a read after a write, and that every operation keeps the canonical form. -/

namespace Sys2Proof.Machine

/-- Every address of the memory is above `k`. -/
def Memory.above (k : Nat) (m : Memory) : Prop := ∀ e ∈ m, k < e.1

theorem Memory.wf_cons {a : Nat} {v : BitVec 8} {t : Memory} :
    Memory.wf ((a, v) :: t) = true ↔ v ≠ 0 ∧ Memory.above a t ∧ Memory.wf t = true := by
  induction t generalizing a v with
  | nil => simp [Memory.wf, Memory.above]
  | cons e t ih =>
    obtain ⟨b, w⟩ := e
    have h := @ih b w
    simp only [Memory.wf, Bool.and_eq_true, decide_eq_true_eq, h]
    constructor
    · rintro ⟨⟨hv, hab⟩, hw, hb, ht⟩
      refine ⟨hv, ?_, hw, hb, ht⟩
      intro e he
      rcases List.mem_cons.1 he with rfl | he
      · exact hab
      · exact Nat.lt_trans hab (hb e he)
    · rintro ⟨hv, hab, hw, hb, ht⟩
      exact ⟨⟨hv, hab (b, w) (List.mem_cons_self ..)⟩, hw, hb, ht⟩

/-- Taking cells out keeps the canonical form. -/
theorem Memory.filter_wf (m : Memory) (p : Host.Cell → Bool) (h : Memory.wf m = true) : Memory.wf (m.filter p) = true := by
  induction m with
  | nil => rfl
  | cons e t ih =>
    obtain ⟨a, v⟩ := e
    obtain ⟨hv, ha, ht⟩ := Memory.wf_cons.1 h
    rw [List.filter_cons]
    split
    · exact Memory.wf_cons.2 ⟨hv, fun e he => ha e (List.mem_of_mem_filter he), ih ht⟩
    · exact ih ht

theorem Memory.ins_above {m : Memory} {j k : Nat} {v : BitVec 8} (hm : Memory.above j m) (hk : j < k) :
    Memory.above j (Memory.ins m k v) := by
  induction m with
  | nil =>
    intro e he
    rw [Memory.ins, List.mem_singleton] at he
    exact he ▸ hk
  | cons e t ih =>
    obtain ⟨a, w⟩ := e
    rw [Memory.ins]
    split
    · intro x hx
      rcases List.mem_cons.1 hx with rfl | hx
      · exact hk
      · exact hm x hx
    · intro x hx
      rcases List.mem_cons.1 hx with rfl | hx
      · exact hm _ (List.mem_cons_self ..)
      · exact ih (fun e he => hm e (List.mem_cons_of_mem _ he)) x hx

theorem Memory.ins_wf {m : Memory} {k : Nat} {v : BitVec 8} (h : Memory.wf m = true) (hk : ∀ e ∈ m, e.1 ≠ k) (hv : v ≠ 0) :
    Memory.wf (Memory.ins m k v) = true := by
  induction m with
  | nil => simpa [Memory.ins, Memory.wf] using hv
  | cons e t ih =>
    obtain ⟨a, w⟩ := e
    obtain ⟨hw, ha, ht⟩ := Memory.wf_cons.1 h
    have hak : a ≠ k := hk _ (List.mem_cons_self ..)
    rw [Memory.ins]
    split
    · rename_i hlt
      refine Memory.wf_cons.2 ⟨hv, ?_, h⟩
      intro x hx
      rcases List.mem_cons.1 hx with rfl | hx
      · exact hlt
      · exact Nat.lt_trans hlt (ha x hx)
    · rename_i hlt
      exact Memory.wf_cons.2 ⟨hw, Memory.ins_above ha (by omega), ih ht (fun e he => hk e (List.mem_cons_of_mem _ he))⟩

/-- Writing a byte keeps the canonical form. -/
theorem Memory.write_wf (m : Memory) (k : Nat) (v : BitVec 8) (h : Memory.wf m = true) : Memory.wf (Memory.write m k v) = true := by
  have hf := Memory.filter_wf m (fun e => decide (e.1 ≠ k)) h
  unfold Memory.write
  split
  · exact hf
  · rename_i hv
    exact Memory.ins_wf hf (fun e he => by simpa using (List.mem_filter.1 he).2) hv

/-- Taking the cells of a range out keeps the canonical form. -/
theorem Memory.clear_wf (m : Memory) (lo len : Nat) (h : Memory.wf m = true) : Memory.wf (Memory.clear m lo len) = true :=
  Memory.filter_wf _ _ h

/-- Two memories of canonical form, the first wholly below the second, make one. -/
theorem Memory.append_wf {a b : Memory} (ha : Memory.wf a = true) (hb : Memory.wf b = true)
    (h : ∀ x ∈ a, ∀ y ∈ b, x.1 < y.1) : Memory.wf (a ++ b) = true := by
  induction a with
  | nil => exact hb
  | cons e t ih =>
    obtain ⟨k, v⟩ := e
    obtain ⟨hv, hk, ht⟩ := Memory.wf_cons.1 ha
    refine Memory.wf_cons.2 ⟨hv, ?_, ih ht (fun x hx y hy => h x (List.mem_cons_of_mem _ hx) y hy)⟩
    intro x hx
    rcases List.mem_append.1 hx with hx | hx
    · exact hk x hx
    · exact h _ (List.mem_cons_self ..) x hx

/-- A run of equal bytes other than 0 has the canonical form. -/
theorem Memory.run_wf (lo len : Nat) {v : BitVec 8} (hv : v ≠ 0) :
    Memory.wf ((List.range len).map (fun i => (lo + i, v))) = true := by
  induction len with
  | zero => rfl
  | succ n ih =>
    rw [List.range_succ, List.map_append]
    refine Memory.append_wf ih (by simpa [Memory.wf] using hv) ?_
    intro x hx y hy
    obtain ⟨i, hi, rfl⟩ := List.mem_map.1 hx
    simp only [List.map_cons, List.map_nil, List.mem_singleton] at hy
    subst hy
    exact Nat.add_lt_add_left (List.mem_range.1 hi) lo

/-- Filling a range keeps the canonical form. -/
theorem Memory.fill_wf (m : Memory) (lo len : Nat) (v : BitVec 8) (h : Memory.wf m = true) :
    Memory.wf (Memory.fill m lo len v) = true := by
  unfold Memory.fill
  have hl := Memory.filter_wf m (fun e => decide (e.1 < lo)) h
  have hr := Memory.filter_wf m (fun e => decide (lo + len ≤ e.1)) h
  have hlt : ∀ x ∈ m.filter (fun e => decide (e.1 < lo)), x.1 < lo := fun x hx => by simpa using (List.mem_filter.1 hx).2
  have hge : ∀ y ∈ m.filter (fun e => decide (lo + len ≤ e.1)), lo + len ≤ y.1 := fun y hy => by
    simpa using (List.mem_filter.1 hy).2
  split
  · rw [List.append_nil]
    exact Memory.append_wf hl hr (fun x hx y hy => by have := hlt x hx; have := hge y hy; omega)
  · rename_i hv
    have hin : ∀ x ∈ (List.range len).map (fun i => (lo + i, v)), lo ≤ x.1 ∧ x.1 < lo + len := by
      intro x hx
      obtain ⟨i, hi, rfl⟩ := List.mem_map.1 hx
      have := List.mem_range.1 hi
      exact ⟨Nat.le_add_right .., Nat.add_lt_add_left this lo⟩
    refine Memory.append_wf (Memory.append_wf hl (Memory.run_wf lo len hv) ?_) hr ?_
    · intro x hx y hy; have := hlt x hx; have := (hin y hy).1; omega
    · intro x hx y hy
      have := hge y hy
      rcases List.mem_append.1 hx with hx | hx
      · have := hlt x hx; omega
      · have := (hin x hx).2; omega

theorem Memory.read_filter (m : Memory) (p : Nat → Bool) (k : Nat) :
    Memory.read (m.filter (fun e => p e.1)) k = if p k then Memory.read m k else 0 := by
  induction m with
  | nil => simp [Memory.read]
  | cons e t ih =>
    obtain ⟨a, w⟩ := e
    rw [List.filter_cons]
    by_cases hak : a = k
    · subst hak
      by_cases hp : p a = true
      · simp [hp, Memory.read]
      · simp [hp, ih]
    · by_cases hp : p a = true <;> simp [hp, Memory.read, hak, ih]

theorem Memory.read_ins (m : Memory) (k : Nat) (v : BitVec 8) (j : Nat) (hk : ∀ e ∈ m, e.1 ≠ k) :
    Memory.read (Memory.ins m k v) j = if j = k then v else Memory.read m j := by
  induction m with
  | nil =>
    by_cases h : j = k
    · simp [Memory.ins, Memory.read, h]
    · simp [Memory.ins, Memory.read, h, Ne.symm h]
  | cons e t ih =>
    obtain ⟨a, w⟩ := e
    have ih' := ih (fun e he => hk e (List.mem_cons_of_mem _ he))
    have hak : a ≠ k := hk (a, w) (List.mem_cons_self ..)
    rw [Memory.ins]
    split
    · by_cases h : j = k
      · simp [Memory.read, h]
      · simp [Memory.read, h, Ne.symm h]
    · by_cases h : j = k
      · subst h; simp [Memory.read, hak, ih']
      · by_cases hj : a = j <;> simp [Memory.read, hj, ih', h]

/-- A read after a write: the byte written at its address, every other byte as before. -/
theorem Memory.read_write (m : Memory) (k : Nat) (v : BitVec 8) (j : Nat) :
    Memory.read (Memory.write m k v) j = if j = k then v else Memory.read m j := by
  have hf : Memory.read (m.filter (fun e => decide (e.1 ≠ k))) j = if j = k then 0 else Memory.read m j := by
    rw [Memory.read_filter m (fun x => decide (x ≠ k))]
    by_cases h : j = k <;> simp [h]
  unfold Memory.write
  split
  · rename_i hv
    subst hv; exact hf
  · rw [Memory.read_ins _ _ _ _ (fun e he => by simpa using (List.mem_filter.1 he).2), hf]
    by_cases h : j = k <;> simp [h]

/-- Taking a range out: its bytes read 0, every other byte as before. -/
theorem Memory.read_clear (m : Memory) (lo len k : Nat) :
    Memory.read (Memory.clear m lo len) k = if k < lo ∨ lo + len ≤ k then Memory.read m k else 0 := by
  unfold Memory.clear
  rw [Memory.read_filter m (fun x => decide (x < lo ∨ lo + len ≤ x))]
  simp

end Sys2Proof.Machine
end

