-- ==== Sys2Proof/Laws/Store.lean ====
section
/-! SUPPORT. Laws of the sparse store of register values: what a read sees after a write, and that every operation keeps
the one form a content has. -/

namespace Sys2Proof

theorem length_upd {α : Type} (l : List α) (i : Nat) (f : α → α) : (upd l i f).length = l.length := by
  induction l generalizing i with
  | nil => rfl
  | cons a t ih => cases i <;> simp [upd, ih]

theorem getD_upd_same {α : Type} {l : List α} {i : Nat} (f : α → α) (d : α) (h : i < l.length) :
    (upd l i f).getD i d = f (l.getD i d) := by
  induction l generalizing i with
  | nil => exact absurd h (Nat.not_lt_zero i)
  | cons a t ih =>
    cases i with
    | zero => rfl
    | succ i => simpa [upd] using ih (by simpa using h)

theorem getD_upd_other {α : Type} (l : List α) {i j : Nat} (f : α → α) (d : α) (h : j ≠ i) :
    (upd l i f).getD j d = l.getD j d := by
  induction l generalizing i j with
  | nil => rfl
  | cons a t ih =>
    cases i with
    | zero => cases j with
      | zero => exact absurd rfl h
      | succ j => rfl
    | succ i => cases j with
      | zero => rfl
      | succ j => simpa [upd] using ih (fun e => h (congrArg Nat.succ e))

/-- Every number of the store is above `k`. -/
def Store.above (k : Nat) (m : Store) : Prop := ∀ e ∈ m, k < e.1

/-- The one form, unfolded: the first entry holds no 0, lies below the rest, and the rest has the form. -/
theorem Store.wf_cons {a v : Nat} {t : Store} : Store.wf ((a, v) :: t) = true ↔ v ≠ 0 ∧ Store.above a t ∧ t.wf = true := by
  induction t generalizing a v with
  | nil => simp [Store.wf, Store.above]
  | cons e t ih =>
    obtain ⟨b, w⟩ := e
    have h := @ih b w
    simp only [Store.wf, Bool.and_eq_true, decide_eq_true_eq, h]
    constructor
    · rintro ⟨⟨hv, hab⟩, hw, hb, ht⟩
      refine ⟨hv, ?_, hw, hb, ht⟩
      intro e he
      rcases List.mem_cons.1 he with rfl | he
      · exact hab
      · exact Nat.lt_trans hab (hb e he)
    · rintro ⟨hv, hab, hw, hb, ht⟩
      exact ⟨⟨hv, hab (b, w) (List.mem_cons_self ..)⟩, hw, hb, ht⟩

theorem Store.above_filter {k : Nat} {m : Store} (p : Nat × Nat → Bool) (h : m.above k) : Store.above k (m.filter p) :=
  fun e he => h e (List.mem_of_mem_filter he)

/-- Taking entries out keeps the form. -/
theorem Store.filter_wf (m : Store) (p : Nat × Nat → Bool) (h : m.wf = true) : Store.wf (m.filter p) = true := by
  induction m with
  | nil => rfl
  | cons e t ih =>
    obtain ⟨a, v⟩ := e
    obtain ⟨hv, ha, ht⟩ := Store.wf_cons.1 h
    rw [List.filter_cons]
    split
    · exact Store.wf_cons.2 ⟨hv, Store.above_filter p ha, ih ht⟩
    · exact ih ht

theorem Store.ins_above {m : Store} {j k v : Nat} (hm : m.above j) (hk : j < k) : Store.above j (m.ins k v) := by
  induction m with
  | nil =>
    intro e he
    rw [Store.ins, List.mem_singleton] at he
    exact he ▸ hk
  | cons e t ih =>
    obtain ⟨a, w⟩ := e
    rw [Store.ins]
    split
    · intro x hx
      rcases List.mem_cons.1 hx with rfl | hx
      · exact hk
      · exact hm x hx
    · intro x hx
      rcases List.mem_cons.1 hx with rfl | hx
      · exact hm _ (List.mem_cons_self ..)
      · exact ih (fun e he => hm e (List.mem_cons_of_mem _ he)) x hx

/-- Inserting a value other than 0 under a new number keeps the form. -/
theorem Store.ins_wf {m : Store} {k v : Nat} (h : m.wf = true) (hk : ∀ e ∈ m, e.1 ≠ k) (hv : v ≠ 0) :
    (m.ins k v).wf = true := by
  induction m with
  | nil => simpa [Store.ins, Store.wf] using hv
  | cons e t ih =>
    obtain ⟨a, w⟩ := e
    obtain ⟨hw, ha, ht⟩ := Store.wf_cons.1 h
    have hak : a ≠ k := hk _ (List.mem_cons_self ..)
    rw [Store.ins]
    split
    · rename_i hlt
      refine Store.wf_cons.2 ⟨hv, ?_, h⟩
      intro x hx
      rcases List.mem_cons.1 hx with rfl | hx
      · exact hlt
      · exact Nat.lt_trans hlt (ha x hx)
    · rename_i hlt
      refine Store.wf_cons.2 ⟨hw, Store.ins_above ha (by omega), ih ht (fun e he => hk e (List.mem_cons_of_mem _ he))⟩

/-- Storing a value keeps the form. -/
theorem Store.put_wf (m : Store) (k v : Nat) (h : m.wf = true) : (m.put k v).wf = true := by
  have hf := Store.filter_wf m (fun e => decide (e.1 ≠ k)) h
  unfold Store.put
  split
  · exact hf
  · rename_i hv
    refine Store.ins_wf hf (fun e he => ?_) hv
    simpa using (List.mem_filter.1 he).2

theorem Store.look_filter (m : Store) (p : Nat → Bool) (k : Nat) :
    Store.look (m.filter (fun e => p e.1)) k = if p k then m.look k else 0 := by
  induction m with
  | nil => simp [Store.look]
  | cons e t ih =>
    obtain ⟨a, w⟩ := e
    rw [List.filter_cons]
    by_cases hak : a = k
    · subst hak
      by_cases hp : p a = true
      · simp [hp, Store.look]
      · simp [hp, ih]
    · by_cases hp : p a = true
      · simp [hp, Store.look, hak, ih]
      · simp [hp, Store.look, hak, ih]

theorem Store.look_ins (m : Store) (k v j : Nat) (hk : ∀ e ∈ m, e.1 ≠ k) :
    (m.ins k v).look j = if j = k then v else m.look j := by
  induction m with
  | nil =>
    by_cases h : j = k
    · simp [Store.ins, Store.look, h]
    · simp [Store.ins, Store.look, h, Ne.symm h]
  | cons e t ih =>
    obtain ⟨a, w⟩ := e
    have ih' := ih (fun e he => hk e (List.mem_cons_of_mem _ he))
    have hak : a ≠ k := hk (a, w) (List.mem_cons_self ..)
    rw [Store.ins]
    split
    · by_cases h : j = k
      · simp [Store.look, h]
      · simp [Store.look, h, Ne.symm h]
    · by_cases h : j = k
      · subst h; simp [Store.look, hak, ih']
      · by_cases hj : a = j <;> simp [Store.look, hj, ih', h]

/-- A read after a write: the value written under its number, every other number as before. -/
theorem Store.look_put (m : Store) (k v j : Nat) : (m.put k v).look j = if j = k then v else m.look j := by
  have hf : Store.look (m.filter (fun e => decide (e.1 ≠ k))) j = if j = k then 0 else m.look j := by
    rw [Store.look_filter m (fun x => decide (x ≠ k))]
    by_cases h : j = k <;> simp [h]
  unfold Store.put
  split
  · rename_i hv
    subst hv; exact hf
  · rw [Store.look_ins _ _ _ _ (fun e he => by simpa using (List.mem_filter.1 he).2), hf]
    by_cases h : j = k <;> simp [h]

end Sys2Proof
end

