-- ==== Sys2Proof/Laws/Ops.lean ====
section
/-! SUPPORT. What each shared operation over State can do, said once: the fields it writes, and that every other field
keeps its value. -/

namespace Sys2Proof

theorem trunc_of_lt {w v : Nat} (h : v < 2 ^ w) : trunc w v = v := Nat.mod_eq_of_lt h

theorem trunc_lt (w v : Nat) : trunc w v < 2 ^ w := Nat.mod_lt _ (Nat.two_pow_pos w)

/-- Two fields of different pages have different numbers. -/
theorem Loc.key_ne_of_page {a b : Loc} (ha : a.off < 4096) (ha' : a.lo < 32) (hb : b.off < 4096) (hb' : b.lo < 32)
    (h : a.page ≠ b.page) : a.key ≠ b.key := by
  unfold Loc.key; omega

/-- Two fields at different offsets have different numbers. -/
theorem Loc.key_ne_of_off {a b : Loc} (ha : a.off < 4096) (ha' : a.lo < 32) (hb : b.off < 4096) (hb' : b.lo < 32)
    (h : a.off / 4 ≠ b.off / 4) : a.key ≠ b.key := by
  unfold Loc.key; omega

namespace Machine

variable {s t u : State} {ks js : List Nat}

/-! ### Fields -/

@[simp] theorem get_set_same (s : State) (l : Loc) (v : Nat) : (s.set l v).get l = trunc l.wid v := by
  simp [State.get, State.set, Store.look_put]

theorem get_set_other (s : State) {l m : Loc} (v : Nat) (h : m.key ≠ l.key) : (s.set l v).get m = s.get m := by
  simp [State.get, State.set, Store.look_put, h]

@[simp] theorem get_edit (s : State) (l m : Loc) (v : Nat) : (s.edit l v).get m = s.get m := rfl

@[simp] theorem inactive_edit_same (s : State) (l : Loc) (v : Nat) : (s.edit l v).inactive l = trunc l.wid v := by
  have h : (s.edit l v).get l = s.get l := rfl
  simp only [State.inactive, h]
  simp [State.edit, Store.look_put]

theorem count_same (s : State) (l : Loc) (k : Nat) : (s.count l k).get l = min (2 ^ l.wid - 1) (s.get l + k) := by
  rw [State.count, get_set_same, trunc_of_lt]
  have := Nat.two_pow_pos l.wid
  omega

theorem count_other (s : State) {l m : Loc} (k : Nat) (h : m.key ≠ l.key) : (s.count l k).get m = s.get m :=
  get_set_other s _ h

/-! ### The frame of registers -/

theorem SameRegs.refl (s : State) : SameRegs ks s s := fun _ _ => rfl

theorem SameRegs.trans (h : SameRegs ks s t) (h' : SameRegs ks t u) : SameRegs ks s u :=
  fun l hl => (h' l hl).trans (h l hl)

theorem SameRegs.mono (h : SameRegs ks s t) (hs : ∀ k ∈ ks, k ∈ js) : SameRegs js s t := fun l hl => h l (fun hk => hl (hs _ hk))

theorem SameRegs.set (h : SameRegs ks s t) {l : Loc} {v : Nat} (hl : l.key ∈ ks) : SameRegs ks s (t.set l v) := by
  intro m hm
  have hne : m.key ≠ l.key := fun e => hm (by rw [e]; exact hl)
  rw [get_set_other t v hne]
  exact h m hm

theorem SameRegs.count (h : SameRegs ks s t) {l : Loc} {k : Nat} (hl : l.key ∈ ks) : SameRegs ks s (t.count l k) := h.set hl

/-- States with the same store read the same. -/
theorem SameRegs.of_regs (h : SameRegs ks s t) (e : u.regs = t.regs) : SameRegs ks s u := by
  intro l hl
  have : u.get l = t.get l := by simp only [State.get, e]
  exact this.trans (h l hl)

theorem SameRegs.set64 (h : SameRegs ks s t) {lo hi : Loc} {v : Nat} (h1 : lo.key ∈ ks) (h2 : hi.key ∈ ks) :
    SameRegs ks s (t.set64 lo hi v) := (h.set h1).set h2

theorem SameRegs.queueEvt (h : SameRegs ks s t) {p : EvtPkt} (hl : ERL1.EVT_LOST_CNT.key ∈ ks) : SameRegs ks s (t.queueEvt p) := by
  unfold State.queueEvt
  split
  · split
    · exact h.of_regs rfl
    · split
      · exact h.of_regs rfl
      · exact h.count hl
  · split
    · exact h.of_regs rfl
    · exact h.count hl

theorem SameRegs.deliver (h : SameRegs ks s t) {pg b : Nat} (hl : ERL1.EVT_LOST_CNT.key ∈ ks) : SameRegs ks s (t.deliver pg b) := by
  unfold State.deliver
  extract_lets t'
  have ht : SameRegs ks s t' := by
    show SameRegs ks s (if _ then _ else _)
    split
    · exact h.of_regs rfl
    · exact h
  split
  · exact ht.queueEvt hl
  · exact ht

/-- An event changes its page's EVT register and, where its packet is lost, the count of lost packets. -/
theorem SameRegs.raise (h : SameRegs ks s t) {pg b : Nat} (hk : ∀ k ∈ evKeys pg, k ∈ ks) : SameRegs ks s (t.raise pg b) := by
  have h1 : (HDR.EVT pg).key ∈ ks := hk _ (by simp [evKeys])
  have h2 : ERL1.EVT_LOST_CNT.key ∈ ks := hk _ (by simp [evKeys])
  unfold State.raise
  extract_lets t' old t2 t3
  have ht : SameRegs ks s t' := h.of_regs rfl
  have h3 : SameRegs ks s t3 := SameRegs.of_regs (ht.set h1) rfl
  split
  · exact ht
  · split
    · exact h3.deliver h2
    · exact h3

/-- A log record changes the fields of `logKeys` alone. -/
theorem SameRegs.logAs (h : SameRegs ks s t) {c ty sv pg w4 w5 w6 : Nat} (hk : ∀ k ∈ logKeys, k ∈ ks) :
    SameRegs ks s (t.logAs c ty sv pg w4 w5 w6) := by
  have hl : LOG.LOST_CNT.key ∈ ks := hk _ (by simp [logKeys])
  have hs : LOG.HEAD_SEQ.key ∈ ks := hk _ (by simp [logKeys])
  have hh : (ECC.HEAL_CNT 1).key ∈ ks := hk _ (by simp [logKeys])
  have e1 : ∀ k ∈ evKeys 0x111, k ∈ ks := fun k hk' => hk k (by simp only [logKeys, List.mem_append]; exact .inl (.inr hk'))
  have e2 : ∀ k ∈ evKeys 0x118, k ∈ ks := fun k hk' => hk k (by simp only [logKeys, List.mem_append]; exact .inr hk')
  unfold State.logAs
  extract_lets lost t1 r here ill t2 t3 recs l t4
  have h1 : SameRegs ks s t1 := by
    show SameRegs ks s (if _ then _ else _)
    split
    · exact (h.count hl).raise e1
    · exact h
  have h2 : SameRegs ks s t2 := by
    show SameRegs ks s (if _ then _ else _)
    split
    · exact h1
    · exact (h1.count hh).raise e2
  have h3 : SameRegs ks s t3 := h2.of_regs rfl
  have h4 : SameRegs ks s t4 := h3.of_regs rfl
  exact h4.set hs

/-- An event with its log record. -/
theorem SameRegs.raiseLog (h : SameRegs ks s t) {sv pg b : Nat} (h1 : ∀ k ∈ evKeys pg, k ∈ ks) (h2 : ∀ k ∈ logKeys, k ∈ ks) :
    SameRegs ks s (t.raiseLog sv pg b) := (h.raise h1).logAs h2

theorem SameRegs.reply (h : SameRegs ks s t) {c : Cls} {d : List Nat} {st : Nat} : SameRegs ks s (t.reply c d st) := h.of_regs rfl

/-- A refused access changes the fields of `refusalKeys` alone. -/
theorem SameRegs.refuse (h : SameRegs ks s t) {c : Cls} {a code : Nat} (hk : ∀ k ∈ refusalKeys, k ∈ ks) :
    SameRegs ks s (t.refuse c a code) := by
  have h1 : ARBITER.LAST_REF_ADDR.key ∈ ks := hk _ (by simp [refusalKeys])
  have h2 : ARBITER.CLASS.key ∈ ks := hk _ (by simp [refusalKeys])
  have h3 : ARBITER.CODE.key ∈ ks := hk _ (by simp [refusalKeys])
  exact (((h.set h1).set h2).set h3).raise (fun k hk' => hk k (by simp only [refusalKeys, List.mem_append]; exact .inr hk'))

/-! ### Events -/

theorem bitOf_setBit {v b : Nat} : bitOf (setBit v b) b = true := by
  unfold setBit
  split
  · assumption
  · rename_i h
    simp only [bitOf, bits, beq_iff_eq, pow_one] at h ⊢
    have hp := Nat.two_pow_pos b
    rw [Nat.add_div_right _ hp]
    omega

theorem bitOf_trunc {w v b : Nat} (h : b < w) : bitOf (trunc w v) b = bitOf v b := by
  have : bits (trunc w v) b 1 = bits v b 1 := by
    unfold bits trunc
    obtain ⟨k, rfl⟩ := Nat.exists_eq_add_of_lt h
    rw [show b + k + 1 = b + (k + 1) by omega, pow_add, Nat.mod_mul_right_div_self]
    exact Nat.mod_mod_of_dvd _ (by rw [pow_one]; exact Dvd.intro_left (2 ^ k) (by rw [pow_succ]))
  simp only [bitOf, this]

theorem evt_ne_lost (pg : Nat) : (HDR.EVT pg).key ≠ ERL1.EVT_LOST_CNT.key := by
  simp only [Loc.key, HDR.EVT, ERL1.EVT_LOST_CNT]; omega

/-- After an event its bit is set in EVT (R39). -/
theorem raise_sets (s : State) (pg : Nat) {b : Nat} (h : b < 32) : bitOf ((s.raise pg b).get (HDR.EVT pg)) b = true := by
  unfold State.raise
  extract_lets s' old s2 s3
  split
  · rename_i hb; exact hb
  · have h2 : bitOf (s3.get (HDR.EVT pg)) b = true := by
      show bitOf ((s'.set (HDR.EVT pg) (setBit old b)).get (HDR.EVT pg)) b = true
      rw [get_set_same]
      exact (bitOf_trunc h).trans bitOf_setBit
    split
    · have hd : SameRegs [ERL1.EVT_LOST_CNT.key] s3 (s3.deliver pg b) := (SameRegs.refl s3).deliver (by simp)
      rw [hd (HDR.EVT pg) (by simpa using evt_ne_lost pg)]
      exact h2
    · exact h2

/-! ### Answers -/

theorem SameRegs.refuseWrite (h : SameRegs ks s t) {c : Cls} {a code : Nat} (hk : ∀ k ∈ refusalKeys, k ∈ ks) :
    SameRegs ks s (t.refuseWrite c a code) := by
  unfold State.refuseWrite
  extract_lets t'
  have h' : SameRegs ks s t' := h.refuse hk
  split
  · exact h'.of_regs rfl
  · exact h'

theorem SameRegs.credit (h : SameRegs ks s t) {id : Nat} {sup : Bool} : SameRegs ks s (t.credit id sup) := by
  unfold State.credit
  split
  · exact h
  · dsimp only
    split <;> exact h.of_regs rfl

@[simp] theorem credit_mem (s : State) (id : Nat) (sup : Bool) : (s.credit id sup).mem = s.mem := by
  unfold State.credit; split
  · rfl
  · dsimp only; split <;> rfl

/-! ### Time (log entry 2) -/

/-- The same writes and triggers wait, over another state. -/
def State.waiting (t s : State) : State := { t with windows := s.windows, triggers := s.triggers, words := s.words, acks := s.acks }

theorem passTick_eq (s : State) (now : Nat) : s.passTick now = (s.aside.idle.waiting s).dueAt now := rfl

theorem afterTicks_aside (s : State) (n : Nat) : s.aside.afterTicks n = s.afterTicks n := by
  induction n with
  | zero => rfl
  | succ n ih => simp only [State.afterTicks, ih]

theorem afterTicks_next (s : State) (n : Nat) : s.aside.idle.afterTicks n = s.afterTicks (n + 1) := by
  induction n with
  | zero => rfl
  | succ n ih => rw [State.afterTicks, ih]; rfl

/-- Nothing is due on this tick. -/
theorem dueAt_early {now : Nat} (h : ∀ d, s.nextDue = some d → now < d) : s.dueAt now = s := by
  unfold State.dueAt
  generalize s.windows.length + s.triggers.length = n
  cases n with
  | zero => rfl
  | succ n =>
    unfold State.closeDue
    split
    · rfl
    · rename_i d hd
      simp [h d hd]

/-- While nothing is due, nothing but time acts. -/
theorem pass_before (n : Nat) (now : Nat) (h : ∀ d, s.nextDue = some d → now + n < d) :
    s.pass now n = (s.afterTicks n).waiting s := by
  induction n generalizing s now with
  | zero => rfl
  | succ n ih =>
    have hp : s.passTick (now + 1) = s.aside.idle.waiting s := by
      rw [passTick_eq]
      exact dueAt_early (fun d hd => by have := h d hd; omega)
    rw [State.pass, hp, ih]
    · rw [← afterTicks_aside]
      show ((s.aside.idle.aside.afterTicks n).waiting s) = _
      rw [afterTicks_aside, afterTicks_next]
    · intro d hd
      have := h d hd
      omega

theorem pass_add (s : State) (now n : Nat) : s.pass now (n + 1) = (s.pass now n).passTick (now + n + 1) := by
  induction n generalizing s now with
  | zero => rfl
  | succ n ih => rw [State.pass, ih, State.pass]; congr 1; omega

theorem waiting_waiting (t u s : State) : (t.waiting (u.waiting s)) = t.waiting s := rfl

theorem aside_waiting (t s : State) : (t.waiting s).aside = t.aside := rfl

theorem afterTicks_idem (s : State) (n : Nat) : (s.afterTicks n).aside = s.afterTicks n := by cases n <;> rfl

/-- One tick later what is due on it happens. -/
theorem pass_due (n now : Nat) (h : ∀ d, s.nextDue = some d → now + n < d) :
    s.pass now (n + 1) = ((s.afterTicks (n + 1)).waiting s).dueAt (now + n + 1) := by
  rw [pass_add, pass_before n now h, passTick_eq, aside_waiting, waiting_waiting, afterTicks_idem]
  rfl

/-! ### A word that meets no other (R45, R57, R60) -/

theorem quiet_parts (h : s.quiet = true) : s.windows = [] ∧ s.triggers = [] ∧ s.words = [] ∧ s.deaf = false := by
  simpa [State.quiet, and_assoc] using h

theorem partRefusal_acks (s : State) (c : Cls) (data : Nat) (l : Loc) (a : List (Nat × Answer)) :
    ({ s with acks := a } : State).partRefusal c data l = s.partRefusal c data l := rfl

theorem wordRefusal_acks (s : State) (c : Cls) (pg off data : Nat) (a : List (Nat × Answer)) :
    ({ s with acks := a } : State).wordRefusal c pg off data = s.wordRefusal c pg off data := rfl

/-- A part that is refused: the word is answered at once with its code (R45). -/
theorem arrive_refused {c : Cls} {agent : Nat} {l : Loc} {data code : Nat} (hd : s.deaf = false) (ha : assigned l.page = true)
    (hw : s.wordRefusal c l.page l.off (data % 2 ^ 32) = none) (hp : s.partRefusal c data l = some code) :
    s.arrive c agent l.page l.off data [l] =
      (none, ((s.refuseWrite c (regAddr l.page l.off) code).arriveEvents l.page l.off data [code]).reply c [] code) := by
  have hc : [l].filterMap (s.partRefusal c data) = [code] := by simp [hp]
  have hg : [l].filter (fun l => (s.partRefusal c data l).isNone) = [] := by simp [hp]
  have hx : wordCode [code] = code := by simp [wordCode]
  unfold State.arrive
  rw [hw, hc, hg]
  simp only [hx, hd, ha, List.filter_nil, if_true, if_false, Bool.false_eq_true, reduceCtorEq, List.cons_ne_nil, List.contains_nil]

theorem carry_refused {c : Cls} {agent : Nat} {l : Loc} {data code : Nat} (h : s.refusesPart c l data code = true) :
    s.carry c agent l.page l.off data [l] =
      ((({ s with acks := [] } : State).refuseWrite c (regAddr l.page l.off) code).arriveEvents l.page l.off data [code]).reply c []
        code := by
  simp only [State.refusesPart, Bool.and_eq_true, beq_iff_eq, Option.isNone_iff_eq_none] at h
  obtain ⟨⟨⟨hq, ha⟩, hw⟩, hp⟩ := h
  have hd : ({ s with acks := [] } : State).deaf = false := (quiet_parts hq).2.2.2
  have := arrive_refused (agent := agent) hd ha ((wordRefusal_acks s c l.page l.off _ []).trans hw)
    ((partRefusal_acks s c data l []).trans hp)
  unfold State.carry
  rw [this]

/-- A part that no check refuses, of a word that meets no other, joins its window, or waits as a trigger. -/
theorem arrive_taken {c : Cls} {agent : Nat} {l : Loc} {data : Nat} (hd : s.deaf = false) (ha : assigned l.page = true)
    (hw : s.wordRefusal c l.page l.off (data % 2 ^ 32) = none) (hp : s.partRefusal c data l = none) (he : l ≠ TIMELINE0.ENQ_CODE)
    (hs : l.page ≠ 0x0A2 ∧ l.page ≠ 0x0A3) (ht : s.triggers = []) (hn : s.words = []) :
    s.arrive c agent l.page l.off data [l] =
      (some 1, { s.joinPart c agent 1 data l with words := [⟨1, c, regAddr l.page l.off, stOK, false, 1⟩] }) := by
  have hc : [l].filterMap (s.partRefusal c data) = [] := by simp [hp]
  have hg : [l].filter (fun l => (s.partRefusal c data l).isNone) = [l] := by simp [hp]
  have hj : [l].filter (fun l => l != TIMELINE0.ENQ_CODE && !s.triggerMerges c agent l) = [l] := by
    simp [he, State.triggerMerges, ht]
  have hx : wordCode [] = stOK := rfl
  have hv : s.arriveEvents l.page l.off data [] = s := by simp [State.arriveEvents, hs.1, hs.2]
  have hi : s.newWord = 1 := by simp [State.newWord, hn]
  have hq : ([l].contains TIMELINE0.ENQ_CODE) = false := by simpa using fun e => he e.symm
  have hwj : (s.joinPart c agent 1 data l).words = s.words := by
    unfold State.joinPart State.joinWindow
    split
    · split <;> rfl
    · rfl
  unfold State.arrive
  rw [hw, hc, hg]
  simp only [hj, hx, hd, ha, hv, hi, hq, List.foldl_cons, List.foldl_nil, List.length_cons, List.length_nil, hwj, hn, List.nil_append,
    Bool.false_eq_true, if_false, if_true, reduceCtorEq, List.cons_ne_nil]

/-- A word that was taken and joined as `u`, with one part due 8 ticks on: what happens on that tick. -/
theorem carry_taken {c : Cls} {agent : Nat} {l : Loc} {data : Nat} {u : State}
    (hr : ({ s with acks := [] } : State).arrive c agent l.page l.off data [l] = (some 1, u))
    (hn : ∀ d, u.nextDue = some d → s.ao + 7 < d) (ha : u.aside = s.aside) :
    s.carry c agent l.page l.off data [l] = (((s.afterTicks 8).waiting u).dueAt (s.ao + 8)).answered 1 := by
  have h8 : u.pass s.ao 8 = ((s.afterTicks 8).waiting u).dueAt (s.ao + 8) := by
    rw [pass_due 7 s.ao hn, ← afterTicks_aside, ha, afterTicks_aside]
  unfold State.carry
  rw [hr]
  exact congrArg (fun t : State => t.answered 1) h8

/-- One word awaits its answer: crediting its one part answers it. -/
theorem credit_one {c : Cls} {a : Nat} (h : s.words = [⟨1, c, a, stOK, false, 1⟩]) :
    s.credit 1 false = { s.reply c [] stOK with words := [], acks := s.acks ++ [(1, ⟨c, [], stOK⟩)] } := by
  simp [State.credit, h, State.ack, State.reply]

theorem ripe_words (s : State) (c : Cls) (l : Loc) : (s.ripe c l).words = [⟨1, c, regAddr l.page l.off, stOK, false, 1⟩] := rfl

theorem ripe_acks (s : State) (c : Cls) (l : Loc) : (s.ripe c l).acks = [] := rfl

/-- The waiting part is the only one, a trigger: it acts. -/
theorem close_trigger {x : State} {r : Trigger} {now : Nat} (hw : x.windows = []) (ht : x.triggers = [r]) (hr : r.actAt = now) :
    x.dueAt now = x.triggerActs r := by
  simp [State.dueAt, hw, ht, State.closeDue, State.nextDue, hr]

/-- The waiting part is the only one, a window: it closes. -/
theorem close_window {x : State} {w : Window} {now : Nat} (hw : x.windows = [w]) (ht : x.triggers = []) (hr : w.openAt + 8 = now) :
    x.dueAt now = x.closeWindow w := by
  simp [State.dueAt, hw, ht, State.closeDue, State.nextDue, hr]

/-- With what waits taken out but the one word, the tick on which a word takes effect. -/
theorem waiting_ripe {c : Cls} {l : Loc} {u : State} (hn : u.words = (s.ripe c l).words) (ha : u.acks = []) :
    { (s.afterTicks 8).waiting u with windows := [], triggers := [] } = s.ripe c l := by
  simp only [State.waiting, hn, ha]
  rfl

theorem answered_one {t : State} {a : Answer} (h : t.acks = [(1, a)]) : t.answered 1 = { t with answer := some a } := by
  simp [State.answered, h]

/-- A word answered with its last part: the answer stands. -/
theorem credit_answered {c : Cls} {l : Loc} {t : State} (hw : t.words = (s.ripe c l).words) (ha : t.acks = []) :
    (t.credit 1 false).answered 1 = (t.credit 1 false).reply c [] stOK := by
  rw [credit_one (hw.trans (ripe_words s c l))]
  simp [State.answered, ha, State.reply]

/-- A trigger joins those that wait. -/
theorem joinPart_trigger {c : Cls} {agent id data : Nat} {l : Loc} (hl : Loc.arbitrated l = false) (ws : List WordSt) :
    let u : State := { s.joinPart c agent id data l with words := ws }
    u.windows = s.windows ∧ u.triggers = s.triggers ++ [⟨l, c, agent, data, s.ao + 8, id⟩] ∧ u.words = ws ∧ u.acks = s.acks ∧
      u.pwr = s.pwr ∧ u.ao = s.ao ∧ u.aside = s.aside := by
  simp [State.joinPart, hl, State.aside]

/-- A field opens its window. -/
theorem joinPart_field {c : Cls} {agent id data : Nat} {l : Loc} (hl : Loc.arbitrated l = true) (hc : isPerClass l = false)
    (hw : s.windows = []) (ws : List WordSt) :
    let u : State := { s.joinPart c agent id data l with words := ws }
    u.windows = [⟨l, s.ao, [⟨c, agent, bits data l.lo l.wid, s.ao, id⟩]⟩] ∧ u.triggers = s.triggers ∧ u.words = ws ∧
      u.acks = s.acks ∧ u.pwr = s.pwr ∧ u.ao = s.ao ∧ u.aside = s.aside := by
  simp [State.joinPart, hl, hc, State.joinWindow, State.windowOf, hw, State.aside]

/-- A trigger that is taken acts 8 ticks on, and its word is answered (R60). `hw`, `ha`: its effect is on no waiting word. -/
theorem rowTrig_lands {c : Cls} {l : Loc} {data : Nat} (h : s.takes c l data = true) (hl : Loc.arbitrated l = false)
    (he : l ≠ TIMELINE0.ENQ_CODE) (hs : l.page ≠ 0x0A2 ∧ l.page ≠ 0x0A3)
    (hw : ((s.ripe c l).trigAct c l data s.ao).words = (s.ripe c l).words)
    (ha : ((s.ripe c l).trigAct c l data s.ao).acks = []) :
    s.rowTrig c l data = s.lands c l [] [fun u => u.trigAct c l data s.ao] := by
  simp only [State.takes, Bool.and_eq_true, Option.isNone_iff_eq_none] at h
  obtain ⟨⟨⟨hq, has⟩, hwr⟩, hp⟩ := h
  obtain ⟨h1, h2, h3, hd⟩ := quiet_parts hq
  have hr := arrive_taken (agent := 0) (s := { s with acks := [] }) (c := c) (l := l) (data := data) hd has
    ((wordRefusal_acks s c l.page l.off _ []).trans hwr) ((partRefusal_acks s c data l []).trans hp) he hs h2 h3
  have hf := joinPart_trigger (s := { s with acks := [] }) (c := c) (agent := 0) (id := 1) (data := data) hl
    [⟨1, c, regAddr l.page l.off, stOK, false, 1⟩]
  generalize { (({ s with acks := [] } : State).joinPart c 0 1 data l) with words := [⟨1, c, regAddr l.page l.off, stOK, false, 1⟩] } = u
    at hr hf
  obtain ⟨f1, f2, u3, u4, f5, f6, f7⟩ := hf
  have u1 : u.windows = [] := f1.trans h1
  have u2 : u.triggers = [⟨l, c, 0, data, s.ao + 8, 1⟩] := by
    rw [f2]
    show s.triggers ++ _ = _
    rw [h2]; rfl
  have hc := carry_taken hr (by
    intro d e; simp [State.nextDue, u1, u2] at e; omega) f7
  rw [close_trigger (x := (s.afterTicks 8).waiting u) (r := ⟨l, c, 0, data, s.ao + 8, 1⟩) u1 u2 rfl] at hc
  have ht : ((s.afterTicks 8).waiting u).triggerActs ⟨l, c, 0, data, s.ao + 8, 1⟩ =
      ((s.ripe c l).trigAct c l data s.ao).credit 1 false := by
    have e : { (s.afterTicks 8).waiting u with triggers := ((s.afterTicks 8).waiting u).triggers.erase ⟨l, c, 0, data, s.ao + 8, 1⟩ }
        = s.ripe c l := by
      rw [← waiting_ripe (u := u) u3 u4]
      simp [State.waiting, u1, u2]
    simp only [State.triggerActs, e, Nat.add_sub_cancel]
  rw [State.rowTrig, hc, ht, credit_answered hw ha]
  rfl

/-- The bits of a word that carries one field. -/
theorem bits_field {l : Loc} (v : Nat) : bits (trunc l.wid v * 2 ^ l.lo) l.lo l.wid = trunc l.wid v := by
  have := trunc_lt l.wid v
  simp [bits, Nat.mod_eq_of_lt this]

/-- One write decides its window. -/
theorem winner_one (s : State) (l : Loc) (w : WinWrite) : ∃ p, s.winner l [w] = some (w, p) := by
  cases hp : s.protective l w.val <;> simp [State.winner, latestWrites, bestWrite, hp]

theorem resolve_one (s : State) (l : Loc) (w : WinWrite) (at_ : Nat) : s.resolve l [w] none at_ = (some w.val, s) := by
  obtain ⟨p, hp⟩ := winner_one s l w
  simp [State.resolve, hp, latestWrites, State.supersede, lastSuperseded]

/-- A field whose write is accepted takes its value 8 ticks on, and its word is answered (R57, R58). `ha`: its effect is on no
answer. -/
theorem rowField_lands {c : Cls} {agent : Nat} {l : Loc} {v : Nat} (h : s.accepts c l v = true) (hl : Loc.arbitrated l = true)
    (hk : isPerClass l = false) (hs : l.page ≠ 0x0A2 ∧ l.page ≠ 0x0A3) (hpg : l.page < 0x200)
    (h1' : l ≠ BCAST0.STD ∧ l ≠ BCAST0.FREQ) (h2' : l.page ≠ auxPage)
    (hn : (((s.ripe c l).credit 1 false).fieldEff c l (trunc l.wid v)).acks = ((s.ripe c l).credit 1 false).acks) :
    s.rowField c agent l v = s.lands c l [fun u => u.fieldEff c l (trunc l.wid v)] [] := by
  simp only [State.accepts, State.takes, Bool.and_eq_true, Option.isNone_iff_eq_none] at h
  obtain ⟨⟨⟨⟨hq, has⟩, hwr⟩, hp⟩, hh⟩ := h
  obtain ⟨h1, h2, h3, hd⟩ := quiet_parts hq
  have he : l ≠ TIMELINE0.ENQ_CODE := by rintro rfl; exact absurd hl (by decide)
  have hr := arrive_taken (agent := agent) (s := { s with acks := [] }) (c := c) (l := l) hd has
    ((wordRefusal_acks s c l.page l.off _ []).trans hwr) ((partRefusal_acks s c _ l []).trans hp) he hs h2 h3
  have hf := joinPart_field (s := { s with acks := [] }) (c := c) (agent := agent) (id := 1)
    (data := trunc l.wid v * 2 ^ l.lo) hl hk h1 [⟨1, c, regAddr l.page l.off, stOK, false, 1⟩]
  rw [bits_field] at hf
  generalize { (({ s with acks := [] } : State).joinPart c agent 1 (trunc l.wid v * 2 ^ l.lo) l) with
    words := [⟨1, c, regAddr l.page l.off, stOK, false, 1⟩] } = u at hr hf
  obtain ⟨u1, f2, u3, u4, f5, f6, f7⟩ := hf
  have u2 : u.triggers = [] := f2.trans h2
  have hc := carry_taken hr (by
    intro d e; simp [State.nextDue, u1, u2] at e; omega) f7
  rw [close_window (x := (s.afterTicks 8).waiting u) (w := ⟨l, s.ao, [⟨c, agent, trunc l.wid v, s.ao, 1⟩]⟩) u1 u2 rfl] at hc
  have ht : ((s.afterTicks 8).waiting u).closeWindow ⟨l, s.ao, [⟨c, agent, trunc l.wid v, s.ao, 1⟩]⟩ =
      ((s.ripe c l).credit 1 false).fieldEff c l (trunc l.wid v) := by
    have e : { (s.afterTicks 8).waiting u with
        windows := ((s.afterTicks 8).waiting u).windows.filter (fun x => decide (x.loc ≠ l)) } = s.ripe c l := by
      rw [← waiting_ripe (u := u) u3 u4]
      simp [State.waiting, u1, u2]
    generalize (s.afterTicks 8).waiting u = x at e
    have hcl : x.windowClass ⟨l, s.ao, [⟨c, agent, trunc l.wid v, s.ao, 1⟩]⟩ = c := by
      obtain ⟨p, hp⟩ := winner_one x l ⟨c, agent, trunc l.wid v, s.ao, 1⟩
      simp [State.windowClass, hp]
    have htw : x.takeWindow ⟨l, s.ao, [⟨c, agent, trunc l.wid v, s.ao, 1⟩]⟩ = (some (trunc l.wid v), (s.ripe c l).credit 1 false) := by
      unfold State.takeWindow
      simp only [e, hh, resolve_one]
      simp [State.creditAll, latestWrites]
    unfold State.closeWindow
    simp only [hcl, htw, h1'.1, h1'.2, h2', or_self, false_and, if_false, Nat.not_le.2 hpg]
  have hr2 : ((s.ripe c l).credit 1 false).acks = [(1, ⟨c, [], stOK⟩)] := by
    rw [credit_one (ripe_words s c l)]; rfl
  rw [State.rowField, hc, ht]
  rw [answered_one (hn.trans hr2)]
  rfl


end Machine
end Sys2Proof
end

