-- ==== Sys2Proof/WellFormed.lean ====
section
/-! DEFINITION. The operands that a command can carry: numbers of paths, lanes, pages and the like in their ranges, and
words of their widths. Nothing outside these ranges exists on the hardware. -/

namespace Sys2Proof

/-- The operands of the command lie in their ranges. -/
def wellFormed (i : Instr) : Bool :=
  match i with
  | .vauxEnterRange bootsel _ => decide (bootsel < 4)
  | .vauxLeaveRange => true
  | .biasSafeRead => true
  | .radioRailGood rail => decide (rail < 8)
  | .radioRailNotGood rail => decide (rail < 8)
  | .vcoreNotGood => true
  | .bankLoss b => decide (b < 4)
  | .startBegin _ flashBad => decide (flashBad < 4)
  | .resetNAssert => true
  | .resetNRelease bootsel => decide (bootsel < 4)
  | .deviceReset _ => true
  | .modeReqWrite _ agent v => decide (agent < 16 ∧ v < 8)
  | .modeTransitionDone => true
  | .bootOk _ => true
  | .bootWatchdogExpiry => true
  | .mgmtRestart _ flashBad => decide (flashBad < 4)
  | .contExpired => true
  | .contHoldExpiry => true
  | .stableTimeExpiry => true
  | .thermalHalt k => decide (k < 25)
  | .regWrite _ agent size addr data => decide (agent < 16 ∧ size ≤ 4 ∧ addr < 2 ^ 32 ∧ data < 2 ^ 32)
  | .pageEnable _ agent pg v => decide (agent < 16 ∧ pg < 512 ∧ v < 2)
  | .sequenceEnd pg => decide (pg < 512)
  | .softReset _ agent pg en => decide (agent < 16 ∧ pg < 512 ∧ en < 2)
  | .levelReqWrite _ agent pg v => decide (agent < 16 ∧ pg < 512 ∧ v < 256)
  | .evtClear _ pg mask again => decide (pg < 512 ∧ mask < 2 ^ 32 ∧ again < 2 ^ 32)
  | .evtEnWrite _ agent pg v => decide (agent < 16 ∧ pg < 512 ∧ v < 2 ^ 32)
  | .accessWrite _ agent pg data => decide (agent < 16 ∧ pg < 512 ∧ data < 2 ^ 32)
  | .accLock _ agent pg => decide (agent < 16 ∧ pg < 512)
  | .fieldLock _ agent pg => decide (agent < 16 ∧ pg < 512)
  | .commitReq _ agent pg immed => decide (agent < 16 ∧ pg < 512 ∧ immed < 2)
  | .commitCancel _ pg => decide (pg < 512)
  | .commitSwap pg => decide (pg < 512)
  | .commitCopyDone pg => decide (pg < 512)
  | .coincidenceWindowClose => true
  | .spiTransaction _ _ addr n ws => decide (addr < 2 ^ 32 ∧ n < 65 ∧ ws.length ≤ 64)
  | .spiAbort _ _ addr ws => decide (addr < 2 ^ 32 ∧ ws.length ≤ 64)
  | .jtagRegAccess _ addr data => decide (addr < 2 ^ 32 ∧ data < 2 ^ 32)
  | .refLoss => true
  | .refBack rate => decide (rate < 3)
  | .lock k => decide (k < 4)
  | .loopReady k => decide (k < 4)
  | .lol k => decide (k < 4)
  | .bandFail k => decide (k < 4)
  | .tsyncLoad => true
  | .tsyncCheck => true
  | .tsyncoPulse => true
  | .outSent => true
  | .stepGo _ => true
  | .stepDone => true
  | .validSet _ => true
  | .nowLoRead _ => true
  | .ovlEngage n => decide (n < 64)
  | .ovlReleaseStep n _ => decide (n < 64)
  | .modReset n => decide (n < 64)
  | .compSwap n => decide (n < 64)
  | .rxqOverflow n => decide (n < 65)
  | .txqUnderflow n => decide (n < 64)
  | .usUnderflow => true
  | .decAlign _ n => decide (n < 64)
  | .alignDone n => decide (n < 64)
  | .thresholdCrossing _ n => decide (n < 64)
  | .thrCfgWrite _ agent _ n which data => decide (agent < 16 ∧ n < 64 ∧ which < 3 ∧ data < 2 ^ 32)
  | .peakNew t => decide (t < 8)
  | .msNew t => decide (t < 8)
  | .envelopeWord t => decide (t < 8)
  | .cellSwap n => decide (n < 64)
  | .rangeSwitch n => decide (n < 64)
  | .rangeDone n => decide (n < 64)
  | .txMuteWrite _ agent n v => decide (agent < 16 ∧ n < 65 ∧ v < 2)
  | .txkillAssert => true
  | .txkillDeassert => true
  | .complianceFault n _ => decide (n < 65)
  | .retireWrite _ agent n v => decide (agent < 16 ∧ n < 64 ∧ v < 2)
  | .vbiasCfgWrite _ agent k data => decide (agent < 16 ∧ k < 16 ∧ data < 2 ^ 32)
  | .vbiasSlewStep k => decide (k < 16)
  | .vbiasRangeSwitch k => decide (k < 16)
  | .setTableWrite _ agent d set data => decide (agent < 16 ∧ d < 2 ∧ set < 256 ∧ data < 2 ^ 32)
  | .weightWrite _ addr v => decide (addr < 2 ^ 32 ∧ v < 2 ^ 32)
  | .fillGo _ => true
  | .fillDone => true
  | .renormDone d => decide (d < 2)
  | .weightDamaged d l k => decide (d < 2 ∧ l < 24 ∧ k < 32)
  | .limiterWindowEnd => true
  | .dpdEnApply p => decide (p < 64)
  | .dpdAssign c => decide (c < 8)
  | .dpdCaptureStart c => decide (c < 8)
  | .dpdCaptureDone c => decide (c < 8)
  | .jobRelease _ core => decide (core < 8)
  | .updReq _ p => decide (p < 64)
  | .guardBaselineDone p => decide (p < 64)
  | .guardVerdict p => decide (p < 64)
  | .guardTimeout p => decide (p < 64)
  | .modelWrite _ addr v => decide (addr < 2 ^ 32 ∧ v < 2 ^ 32)
  | .modelDamaged p w => decide (p < 64 ∧ w < 256)
  | .slotBoundary g => decide (g < 8)
  | .turnDriverSwitch n => decide (n < 64)
  | .turnRoundSettled n => decide (n < 64)
  | .trswChange g => decide (g < 8)
  | .enqAct _ act => decide (act < 2 ^ 32)
  | .queueFlush _ g => decide (g < 8)
  | .tlWindow g => decide (g < 8)
  | .tlSet g => decide (g < 8)
  | .tlOneshot g => decide (g < 8)
  | .tlCommit g => decide (g < 8)
  | .tlRange g => decide (g < 8)
  | .tlRffe g => decide (g < 8)
  | .tlTrig g => decide (g < 8)
  | .windowEnd n => decide (n < 64)
  | .oneshotEnd n => decide (n < 64)
  | .trigoutEnd => true
  | .rffeSequenceStart g _ _ => decide (g < 8)
  | .rffeCommandDone b data _ => decide (b < 4 ∧ data < 256)
  | .laneSleepEnter _ => true
  | .laneWakeStart _ => true
  | .laneAwake _ => true
  | .laneWakeRequest _ _ => true
  | .wakeFail => true
  | .refCheck _ => true
  | .calResult k p _ _ _ => decide (k < 12 ∧ p < 65)
  | .trimApply p => decide (p < 64)
  | .loPhaseDone x _ => decide (x < 2)
  | .corrSlewUpdate => true
  | .arrayResult _ d p _ _ => decide (d < 2 ∧ p < 256)
  | .fgGo _ => true
  | .fgAbort _ => true
  | .fgDone => true
  | .calDue k p => decide (k < 12 ∧ p < 65)
  | .crossSlip g => decide (g < 2)
  | .clkLoss k => decide (k < 4)
  | .blockLock n => decide (n < 16)
  | .blockLoss n => decide (n < 16)
  | .bitslip _ n => decide (n < 16)
  | .eyePublish n left right => decide (n < 16 ∧ left < 256 ∧ right < 256)
  | .prbsSync n => decide (n < 16)
  | .prbsLoss n _ => decide (n < 16)
  | .cntClr _ n => decide (n < 16)
  | .injSingle _ n => decide (n < 16)
  | .injBurst _ n => decide (n < 16)
  | .injDone n => decide (n < 16)
  | .markerSend _ _ => true
  | .markerReceive lane block frac skew => decide (lane < 16 ∧ block < 2 ^ 64 ∧ frac < 256 ∧ skew < 9)
  | .iqdPacket _ _ => true
  | .playoutMiss k => decide (k < 64)
  | .iquWindowSend => true
  | .ctlWeights _ _ _ => true
  | .ctlTimeline _ _ _ => true
  | .ctlCommit _ _ _ => true
  | .ctlSleep _ _ _ => true
  | .mgtReg _ _ _ => true
  | .mgtUpdate _ _ => true
  | .mgtLogRead _ _ => true
  | .evtPacketSend => true
  | .captureExport k => decide (k < 8)
  | .timReq _ _ t2 => decide (t2 < 2 ^ 72)
  | .timFin _ _ => true
  | .linkDown c => decide (c < 6)
  | .linkDownTimeout => true
  | .linkUp => true
  | .burstStart => true
  | .burstSent => true
  | .agcStep _ => true
  | .burstDetect _ => true
  | .falseDetect => true
  | .rxRecord b => decide (b.llr.length = 160)
  | .soundRxqPop _ => true
  | .remGo _ => true
  | .xferDone => true
  | .anisePermit => true
  | .bcastRetune _ agent std khz => decide (agent < 16 ∧ std < 4 ∧ khz < 2 ^ 18)
  | .synthLock => true
  | .bcastFeCalDone => true
  | .rdsBlock _ _ _ => true
  | .rdsGroup a b c d _ => decide (a < 2 ^ 16 ∧ b < 2 ^ 16 ∧ c < 2 ^ 16 ∧ d < 2 ^ 16)
  | .afCheck _ => true
  | .afPiCheck _ => true
  | .dabFrame _ => true
  | .dabPacket _ _ _ _ => true
  | .dabFollow => true
  | .dabCandidateTimeout => true
  | .timingCalGo _ => true
  | .timingCalClr _ => true
  | .measTimeout => true
  | .sdqPop _ => true
  | .sdqFlush _ => true
  | .arm _ k => decide (k < 8)
  | .disarm _ k => decide (k < 8)
  | .captureSoftTrig _ k => decide (k < 8)
  | .captureTrigger k cause frac => decide (k < 8 ∧ cause < 9 ∧ frac < 256)
  | .autoTimeout k => decide (k < 8)
  | .segDone k => decide (k < 8)
  | .gap k _ _ => decide (k < 8)
  | .rdPtrWrite _ agent k v => decide (agent < 16 ∧ k < 8 ∧ v < 2 ^ 24)
  | .dmaDoorbell _ c desc => decide (c < 8 ∧ desc < 2 ^ 32)
  | .dmaAbort _ c => decide (c < 8)
  | .dmaDescDone c => decide (c < 8)
  | .dmaPaceResume c => decide (c < 8)
  | .targetTimeout c _ _ => decide (c < 8)
  | .parallelDsp c _ _ _ => decide (c < 8)
  | .tfr c a b _ => decide (c < 8 ∧ a < 4 ∧ b < 4)
  | .add c a b _ => decide (c < 8 ∧ a < 4 ∧ b < 4)
  | .sub c a b _ => decide (c < 8 ∧ a < 4 ∧ b < 4)
  | .neg c a b _ => decide (c < 8 ∧ a < 4 ∧ b < 4)
  | .abs c a b _ => decide (c < 8 ∧ a < 4 ∧ b < 4)
  | .clr c a _ => decide (c < 8 ∧ a < 4)
  | .rnd c a _ => decide (c < 8 ∧ a < 4)
  | .sat c a _ => decide (c < 8 ∧ a < 4)
  | .asl c a n _ => decide (c < 8 ∧ a < 4 ∧ n < 64)
  | .asr c a n _ => decide (c < 8 ∧ a < 4 ∧ n < 64)
  | .addr c a r _ => decide (c < 8 ∧ a < 4 ∧ r < 8)
  | .subr c a r _ => decide (c < 8 ∧ a < 4 ∧ r < 8)
  | .cmp c a b _ => decide (c < 8 ∧ a < 4 ∧ b < 4)
  | .cmpr c a r _ => decide (c < 8 ∧ a < 4 ∧ r < 8)
  | .and c a r _ => decide (c < 8 ∧ a < 4 ∧ r < 8)
  | .or c a r _ => decide (c < 8 ∧ a < 4 ∧ r < 8)
  | .xor c a r _ => decide (c < 8 ∧ a < 4 ∧ r < 8)
  | .max c a b _ => decide (c < 8 ∧ a < 4 ∧ b < 4)
  | .min c a b _ => decide (c < 8 ∧ a < 4 ∧ b < 4)
  | .norm c a r _ => decide (c < 8 ∧ a < 4 ∧ r < 8)
  | .li c r imm => decide (c < 8 ∧ r < 64 ∧ imm < 2 ^ 24)
  | .move c dst src => decide (c < 8 ∧ dst < 64 ∧ src < 64)
  | .addi c dst imm => decide (c < 8 ∧ dst < 64 ∧ imm < 2 ^ 24)
  | .asave c dst src => decide (c < 8 ∧ dst < 64 ∧ src < 64)
  | .aload c dst src => decide (c < 8 ∧ dst < 64 ∧ src < 64)
  | .nop c => decide (c < 8)
  | .jmp c cond target => decide (c < 8 ∧ cond < 16 ∧ target < 2 ^ 16)
  | .jsr c cond target => decide (c < 8 ∧ cond < 16 ∧ target < 2 ^ 16)
  | .rts c cond => decide (c < 8 ∧ cond < 16)
  | .reti c => decide (c < 8)
  | .doLoop c _ reg count target => decide (c < 8 ∧ reg < 64 ∧ count < 2 ^ 16 ∧ target < 2 ^ 16)
  | .yield c => decide (c < 8)
  | .wait c => decide (c < 8)
  | .halt c => decide (c < 8)
  | .ei c => decide (c < 8)
  | .di c => decide (c < 8)
  | .interruptEntry c => decide (c < 8)
  | .coreFault c => decide (c < 8)
  | .ipendClear c v => decide (c < 8 ∧ v < 2 ^ 24)
  | .mboxOut c v => decide (c < 8 ∧ v < 2 ^ 24)
  | .tb0Read c => decide (c < 8)
  | .tcmpArm c v => decide (c < 8 ∧ v < 2 ^ 24)
  | .coreTimer c => decide (c < 8)
  | .strDataRead c => decide (c < 8)
  | .brRead c => decide (c < 8)
  | .brWrite c => decide (c < 8)
  | .bridgeDone c => decide (c < 8)
  | .semAcquire c n => decide (c < 8 ∧ n < 32)
  | .semRelease c n => decide (c < 8 ∧ n < 32)
  | .kernelLoad _ agent c => decide (agent < 16 ∧ c < 8)
  | .hitlessLoad _ agent c => decide (agent < 16 ∧ c < 8)
  | .loadDone c => decide (c < 8)
  | .runWrite _ agent c v => decide (agent < 16 ∧ c < 8 ∧ v < 2)
  | .mboxIrq _ c => decide (c < 8)
  | .swapGo _ c => decide (c < 8)
  | .swapBoundary c => decide (c < 8)
  | .swapTimeout c => decide (c < 8)
  | .cacheClean a word upset => decide (a < 2 ^ 32 ∧ word < 4 ∧ upset < 256)
  | .cacheInvalidate a => decide (a < 2 ^ 32)
  | .cacheCleanInvalidate a word upset => decide (a < 2 ^ 32 ∧ word < 4 ∧ upset < 256)
  | .icacheInvalidate => true
  | .mtimeCompare => true
  | .wdEnable _ agent => decide (agent < 16)
  | .wdKick _ v => decide (v < 256)
  | .runtimeWatchdogExpiry flashBad => decide (flashBad < 4)
  | .updOpen _ arg => decide (arg < 256)
  | .updChunk _ arg => decide (arg < 256)
  | .updVerify _ arg => decide (arg < 256)
  | .updActivate _ arg => decide (arg < 256)
  | .updConfirm _ arg => decide (arg < 256)
  | .updAbort _ arg => decide (arg < 256)
  | .rbAdvance _ arg => decide (arg < 256)
  | .updDone _ flashBad => decide (flashBad < 4)
  | .fwLogRecord _ type sev => decide (type < 256 ∧ sev < 4)
  | .logFlush => true
  | .logFlushCmd _ => true
  | .logRdSeq _ agent q => decide (agent < 16 ∧ q < 2 ^ 32)
  | .logFlashReadDone => true
  | .sumacInfo => true
  | .sumacRd a n => decide (a < 2 ^ 32 ∧ n < 2 ^ 32)
  | .sumacLog q n => decide (q < 2 ^ 32 ∧ n < 2 ^ 32)
  | .sumacChal => true
  | .sumacElev w => decide (w.length < 256)
  | .sumacDrop => true
  | .sumacStart => true
  | .sumacWr a v => decide (a < 2 ^ 32 ∧ v < 2 ^ 32)
  | .sumacMode m => decide (m < 2 ^ 32)
  | .sumacBaud r => decide (r < 2 ^ 32)
  | .sumacRecover => true
  | .sumacUpd op arg ofs data => decide (op < 2 ^ 32 ∧ arg < 2 ^ 32 ∧ ofs < 2 ^ 32 ∧ data.length < 256)
  | .monrxBreak => true
  | .elevationExpiry => true
  | .elevLockExpiry => true
  | .monitorDrop _ => true
  | .progHash _ arg => decide (arg < 32)
  | .revoke _ arg => decide (arg < 32)
  | .scanPermit _ arg => decide (arg < 32)
  | .genId _ arg => decide (arg < 32)
  | .lrAdvance _ arg => decide (arg < 32)
  | .otpDone _ => true
  | .lrLoad _ => true
  | .lrLoadDone => true
  | .genEph _ => true
  | .derive _ => true
  | .attest _ => true
  | .keDone => true
  | .sessionKeySwitch => true
  | .rngDataRead _ => true
  | .rngFail => true
  | .dbgChal _ => true
  | .dbgUnlock _ => true
  | .clearDone => true
  | .scrubVisit m upset => decide (m < 36 ∧ upset < 256)
  | .fuseProgram _ => true
  | .fuseCancel _ arg => decide (arg < 32)
  | .fuseDone _ => true
  | .bistGo _ t => decide (t < 256)
  | .bistAbort _ => true
  | .bistDone _ _ _ _ _ => true
  | .bistResPop _ => true
  | .hkadcGo _ ch => decide (ch < 64)
  | .hkadcSchedule => true
  | .hkadcCmpHit ch _ => decide (ch < 64)
  | .hkadcConversionDone _ ch _ _ => decide (ch < 64)
  | .hkadcCalibration _ _ => true
  | .hkadcQPop _ => true
  | .slackWindowEnd _ _ up => decide (up < 65)
  | .pmTelemetry _ _ _ => true
  | .pmAlert status => decide (status < 2 ^ 16)
  | .pmVoutCheck _ _ => true
  | .retireGraceExpiry d n => decide (d < 2 ∧ n < 64)
  | .rxRetireWrite _ agent _ v => decide (agent < 16 ∧ v < 2 ^ 32)
  | .lifeDayClose => true
  | .gpioEdge k _ => decide (k < 16)
  | .timMeasLapse => true
  | .cuminMeasLapse => true
  | .timRsp _ t3 => decide (t3 < 2 ^ 72)
  | .markerWindowEnd => true
  | .dabSyncLoss => true
  | .dsckPresent k _ => decide (k < 2)
  | .startLockTimeout => true

end Sys2Proof
end

