-- ==== Sys2Proof/Laws/PerInstr.lean ====
section
/-! SUPPORT. The family `Occurs`: for every command the checks of WellFormed leave operands with which it can occur. -/

namespace Sys2Proof.Laws.Occurs

/-- The command of this constructor occurs with some well-formed operands. -/
def Statement (i : Instr) : Prop := ∃ j : Instr, j.ctorIdx = i.ctorIdx ∧ wellFormed j = true

theorem vauxEnterRange (bootsel mv : Nat) : Statement (.vauxEnterRange bootsel mv) := ⟨.vauxEnterRange 0 0, rfl, by decide⟩
theorem vauxLeaveRange : Statement (.vauxLeaveRange) := ⟨.vauxLeaveRange, rfl, by decide⟩
theorem biasSafeRead : Statement (.biasSafeRead) := ⟨.biasSafeRead, rfl, by decide⟩
theorem radioRailGood (rail : Nat) : Statement (.radioRailGood rail) := ⟨.radioRailGood 0, rfl, by decide⟩
theorem radioRailNotGood (rail : Nat) : Statement (.radioRailNotGood rail) := ⟨.radioRailNotGood 0, rfl, by decide⟩
theorem vcoreNotGood : Statement (.vcoreNotGood) := ⟨.vcoreNotGood, rfl, by decide⟩
theorem bankLoss (b : Nat) : Statement (.bankLoss b) := ⟨.bankLoss 0, rfl, by decide⟩
theorem startBegin (find : SelfTest) (flashBad : Nat) : Statement (.startBegin find flashBad) := ⟨.startBegin {} 0, rfl, by decide⟩
theorem resetNAssert : Statement (.resetNAssert) := ⟨.resetNAssert, rfl, by decide⟩
theorem resetNRelease (bootsel : Nat) : Statement (.resetNRelease bootsel) := ⟨.resetNRelease 0, rfl, by decide⟩
theorem deviceReset (c : Cls) : Statement (.deviceReset c) := ⟨.deviceReset .host, rfl, by decide⟩
theorem modeReqWrite (c : Cls) (agent v : Nat) : Statement (.modeReqWrite c agent v) := ⟨.modeReqWrite .host 0 0, rfl, by decide⟩
theorem modeTransitionDone : Statement (.modeTransitionDone) := ⟨.modeTransitionDone, rfl, by decide⟩
theorem bootOk (c : Cls) : Statement (.bootOk c) := ⟨.bootOk .host, rfl, by decide⟩
theorem bootWatchdogExpiry : Statement (.bootWatchdogExpiry) := ⟨.bootWatchdogExpiry, rfl, by decide⟩
theorem mgmtRestart (c : Cls) (flashBad : Nat) : Statement (.mgmtRestart c flashBad) := ⟨.mgmtRestart .host 0, rfl, by decide⟩
theorem contExpired : Statement (.contExpired) := ⟨.contExpired, rfl, by decide⟩
theorem contHoldExpiry : Statement (.contHoldExpiry) := ⟨.contHoldExpiry, rfl, by decide⟩
theorem stableTimeExpiry : Statement (.stableTimeExpiry) := ⟨.stableTimeExpiry, rfl, by decide⟩
theorem thermalHalt (k : Nat) : Statement (.thermalHalt k) := ⟨.thermalHalt 0, rfl, by decide⟩
theorem regWrite (c : Cls) (agent size addr data : Nat) : Statement (.regWrite c agent size addr data) := ⟨.regWrite .host 0 0 0 0, rfl, by decide⟩
theorem pageEnable (c : Cls) (agent pg v : Nat) : Statement (.pageEnable c agent pg v) := ⟨.pageEnable .host 0 0 0, rfl, by decide⟩
theorem sequenceEnd (pg : Nat) : Statement (.sequenceEnd pg) := ⟨.sequenceEnd 0, rfl, by decide⟩
theorem softReset (c : Cls) (agent pg en : Nat) : Statement (.softReset c agent pg en) := ⟨.softReset .host 0 0 0, rfl, by decide⟩
theorem levelReqWrite (c : Cls) (agent pg v : Nat) : Statement (.levelReqWrite c agent pg v) := ⟨.levelReqWrite .host 0 0 0, rfl, by decide⟩
theorem evtClear (c : Cls) (pg mask again : Nat) : Statement (.evtClear c pg mask again) := ⟨.evtClear .host 0 0 0, rfl, by decide⟩
theorem evtEnWrite (c : Cls) (agent pg v : Nat) : Statement (.evtEnWrite c agent pg v) := ⟨.evtEnWrite .host 0 0 0, rfl, by decide⟩
theorem accessWrite (c : Cls) (agent pg data : Nat) : Statement (.accessWrite c agent pg data) := ⟨.accessWrite .host 0 0 0, rfl, by decide⟩
theorem accLock (c : Cls) (agent pg : Nat) : Statement (.accLock c agent pg) := ⟨.accLock .host 0 0, rfl, by decide⟩
theorem fieldLock (c : Cls) (agent pg : Nat) : Statement (.fieldLock c agent pg) := ⟨.fieldLock .host 0 0, rfl, by decide⟩
theorem commitReq (c : Cls) (agent pg immed : Nat) : Statement (.commitReq c agent pg immed) := ⟨.commitReq .host 0 0 0, rfl, by decide⟩
theorem commitCancel (c : Cls) (pg : Nat) : Statement (.commitCancel c pg) := ⟨.commitCancel .host 0, rfl, by decide⟩
theorem commitSwap (pg : Nat) : Statement (.commitSwap pg) := ⟨.commitSwap 0, rfl, by decide⟩
theorem commitCopyDone (pg : Nat) : Statement (.commitCopyDone pg) := ⟨.commitCopyDone 0, rfl, by decide⟩
theorem coincidenceWindowClose : Statement (.coincidenceWindowClose) := ⟨.coincidenceWindowClose, rfl, by decide⟩
theorem spiTransaction (rd inc : Bool) (addr n : Nat) (ws : List Nat) : Statement (.spiTransaction rd inc addr n ws) := ⟨.spiTransaction false false 0 0 [], rfl, by decide⟩
theorem spiAbort (rd inc : Bool) (addr : Nat) (ws : List Nat) : Statement (.spiAbort rd inc addr ws) := ⟨.spiAbort false false 0 [], rfl, by decide⟩
theorem jtagRegAccess (write : Bool) (addr data : Nat) : Statement (.jtagRegAccess write addr data) := ⟨.jtagRegAccess false 0 0, rfl, by decide⟩
theorem refLoss : Statement (.refLoss) := ⟨.refLoss, rfl, by decide⟩
theorem refBack (rate : Nat) : Statement (.refBack rate) := ⟨.refBack 0, rfl, by decide⟩
theorem lock (k : Nat) : Statement (.lock k) := ⟨.lock 0, rfl, by decide⟩
theorem loopReady (k : Nat) : Statement (.loopReady k) := ⟨.loopReady 0, rfl, by decide⟩
theorem lol (k : Nat) : Statement (.lol k) := ⟨.lol 0, rfl, by decide⟩
theorem bandFail (k : Nat) : Statement (.bandFail k) := ⟨.bandFail 0, rfl, by decide⟩
theorem tsyncLoad : Statement (.tsyncLoad) := ⟨.tsyncLoad, rfl, by decide⟩
theorem tsyncCheck : Statement (.tsyncCheck) := ⟨.tsyncCheck, rfl, by decide⟩
theorem tsyncoPulse : Statement (.tsyncoPulse) := ⟨.tsyncoPulse, rfl, by decide⟩
theorem outSent : Statement (.outSent) := ⟨.outSent, rfl, by decide⟩
theorem stepGo (c : Cls) : Statement (.stepGo c) := ⟨.stepGo .host, rfl, by decide⟩
theorem stepDone : Statement (.stepDone) := ⟨.stepDone, rfl, by decide⟩
theorem validSet (c : Cls) : Statement (.validSet c) := ⟨.validSet .host, rfl, by decide⟩
theorem nowLoRead (c : Cls) : Statement (.nowLoRead c) := ⟨.nowLoRead .host, rfl, by decide⟩
theorem ovlEngage (n : Nat) : Statement (.ovlEngage n) := ⟨.ovlEngage 0, rfl, by decide⟩
theorem ovlReleaseStep (n below : Nat) : Statement (.ovlReleaseStep n below) := ⟨.ovlReleaseStep 0 0, rfl, by decide⟩
theorem modReset (n : Nat) : Statement (.modReset n) := ⟨.modReset 0, rfl, by decide⟩
theorem compSwap (n : Nat) : Statement (.compSwap n) := ⟨.compSwap 0, rfl, by decide⟩
theorem rxqOverflow (n : Nat) : Statement (.rxqOverflow n) := ⟨.rxqOverflow 0, rfl, by decide⟩
theorem txqUnderflow (n : Nat) : Statement (.txqUnderflow n) := ⟨.txqUnderflow 0, rfl, by decide⟩
theorem usUnderflow : Statement (.usUnderflow) := ⟨.usUnderflow, rfl, by decide⟩
theorem decAlign (c : Cls) (n : Nat) : Statement (.decAlign c n) := ⟨.decAlign .host 0, rfl, by decide⟩
theorem alignDone (n : Nat) : Statement (.alignDone n) := ⟨.alignDone 0, rfl, by decide⟩
theorem thresholdCrossing (tx : Bool) (n : Nat) : Statement (.thresholdCrossing tx n) := ⟨.thresholdCrossing false 0, rfl, by decide⟩
theorem thrCfgWrite (c : Cls) (agent : Nat) (tx : Bool) (n which data : Nat) : Statement (.thrCfgWrite c agent tx n which data) := ⟨.thrCfgWrite .host 0 false 0 0 0, rfl, by decide⟩
theorem peakNew (t : Nat) : Statement (.peakNew t) := ⟨.peakNew 0, rfl, by decide⟩
theorem msNew (t : Nat) : Statement (.msNew t) := ⟨.msNew 0, rfl, by decide⟩
theorem envelopeWord (t : Nat) : Statement (.envelopeWord t) := ⟨.envelopeWord 0, rfl, by decide⟩
theorem cellSwap (n : Nat) : Statement (.cellSwap n) := ⟨.cellSwap 0, rfl, by decide⟩
theorem rangeSwitch (n : Nat) : Statement (.rangeSwitch n) := ⟨.rangeSwitch 0, rfl, by decide⟩
theorem rangeDone (n : Nat) : Statement (.rangeDone n) := ⟨.rangeDone 0, rfl, by decide⟩
theorem txMuteWrite (c : Cls) (agent n v : Nat) : Statement (.txMuteWrite c agent n v) := ⟨.txMuteWrite .host 0 0 0, rfl, by decide⟩
theorem txkillAssert : Statement (.txkillAssert) := ⟨.txkillAssert, rfl, by decide⟩
theorem txkillDeassert : Statement (.txkillDeassert) := ⟨.txkillDeassert, rfl, by decide⟩
theorem complianceFault (n : Nat) (short : Bool) : Statement (.complianceFault n short) := ⟨.complianceFault 0 false, rfl, by decide⟩
theorem retireWrite (c : Cls) (agent n v : Nat) : Statement (.retireWrite c agent n v) := ⟨.retireWrite .host 0 0 0, rfl, by decide⟩
theorem vbiasCfgWrite (c : Cls) (agent k data : Nat) : Statement (.vbiasCfgWrite c agent k data) := ⟨.vbiasCfgWrite .host 0 0 0, rfl, by decide⟩
theorem vbiasSlewStep (k : Nat) : Statement (.vbiasSlewStep k) := ⟨.vbiasSlewStep 0, rfl, by decide⟩
theorem vbiasRangeSwitch (k : Nat) : Statement (.vbiasRangeSwitch k) := ⟨.vbiasRangeSwitch 0, rfl, by decide⟩
theorem setTableWrite (c : Cls) (agent d set data : Nat) : Statement (.setTableWrite c agent d set data) := ⟨.setTableWrite .host 0 0 0 0, rfl, by decide⟩
theorem weightWrite (c : Cls) (addr v : Nat) : Statement (.weightWrite c addr v) := ⟨.weightWrite .host 0 0, rfl, by decide⟩
theorem fillGo (c : Cls) : Statement (.fillGo c) := ⟨.fillGo .host, rfl, by decide⟩
theorem fillDone : Statement (.fillDone) := ⟨.fillDone, rfl, by decide⟩
theorem renormDone (d : Nat) : Statement (.renormDone d) := ⟨.renormDone 0, rfl, by decide⟩
theorem weightDamaged (d l k : Nat) : Statement (.weightDamaged d l k) := ⟨.weightDamaged 0 0 0, rfl, by decide⟩
theorem limiterWindowEnd : Statement (.limiterWindowEnd) := ⟨.limiterWindowEnd, rfl, by decide⟩
theorem dpdEnApply (p : Nat) : Statement (.dpdEnApply p) := ⟨.dpdEnApply 0, rfl, by decide⟩
theorem dpdAssign (c : Nat) : Statement (.dpdAssign c) := ⟨.dpdAssign 0, rfl, by decide⟩
theorem dpdCaptureStart (c : Nat) : Statement (.dpdCaptureStart c) := ⟨.dpdCaptureStart 0, rfl, by decide⟩
theorem dpdCaptureDone (c : Nat) : Statement (.dpdCaptureDone c) := ⟨.dpdCaptureDone 0, rfl, by decide⟩
theorem jobRelease (c : Cls) (core : Nat) : Statement (.jobRelease c core) := ⟨.jobRelease .host 0, rfl, by decide⟩
theorem updReq (c : Cls) (p : Nat) : Statement (.updReq c p) := ⟨.updReq .host 0, rfl, by decide⟩
theorem guardBaselineDone (p : Nat) : Statement (.guardBaselineDone p) := ⟨.guardBaselineDone 0, rfl, by decide⟩
theorem guardVerdict (p : Nat) : Statement (.guardVerdict p) := ⟨.guardVerdict 0, rfl, by decide⟩
theorem guardTimeout (p : Nat) : Statement (.guardTimeout p) := ⟨.guardTimeout 0, rfl, by decide⟩
theorem modelWrite (c : Cls) (addr v : Nat) : Statement (.modelWrite c addr v) := ⟨.modelWrite .host 0 0, rfl, by decide⟩
theorem modelDamaged (p w : Nat) : Statement (.modelDamaged p w) := ⟨.modelDamaged 0 0, rfl, by decide⟩
theorem slotBoundary (g : Nat) : Statement (.slotBoundary g) := ⟨.slotBoundary 0, rfl, by decide⟩
theorem turnDriverSwitch (n : Nat) : Statement (.turnDriverSwitch n) := ⟨.turnDriverSwitch 0, rfl, by decide⟩
theorem turnRoundSettled (n : Nat) : Statement (.turnRoundSettled n) := ⟨.turnRoundSettled 0, rfl, by decide⟩
theorem trswChange (g : Nat) : Statement (.trswChange g) := ⟨.trswChange 0, rfl, by decide⟩
theorem enqAct (c : Cls) (act : Nat) : Statement (.enqAct c act) := ⟨.enqAct .host 0, rfl, by decide⟩
theorem queueFlush (c : Cls) (g : Nat) : Statement (.queueFlush c g) := ⟨.queueFlush .host 0, rfl, by decide⟩
theorem tlWindow (g : Nat) : Statement (.tlWindow g) := ⟨.tlWindow 0, rfl, by decide⟩
theorem tlSet (g : Nat) : Statement (.tlSet g) := ⟨.tlSet 0, rfl, by decide⟩
theorem tlOneshot (g : Nat) : Statement (.tlOneshot g) := ⟨.tlOneshot 0, rfl, by decide⟩
theorem tlCommit (g : Nat) : Statement (.tlCommit g) := ⟨.tlCommit 0, rfl, by decide⟩
theorem tlRange (g : Nat) : Statement (.tlRange g) := ⟨.tlRange 0, rfl, by decide⟩
theorem tlRffe (g : Nat) : Statement (.tlRffe g) := ⟨.tlRffe 0, rfl, by decide⟩
theorem tlTrig (g : Nat) : Statement (.tlTrig g) := ⟨.tlTrig 0, rfl, by decide⟩
theorem windowEnd (n : Nat) : Statement (.windowEnd n) := ⟨.windowEnd 0, rfl, by decide⟩
theorem oneshotEnd (n : Nat) : Statement (.oneshotEnd n) := ⟨.oneshotEnd 0, rfl, by decide⟩
theorem trigoutEnd : Statement (.trigoutEnd) := ⟨.trigoutEnd, rfl, by decide⟩
theorem rffeSequenceStart (g t : Nat) (tx : Bool) : Statement (.rffeSequenceStart g t tx) := ⟨.rffeSequenceStart 0 0 false, rfl, by decide⟩
theorem rffeCommandDone (b data : Nat) (perr : Bool) : Statement (.rffeCommandDone b data perr) := ⟨.rffeCommandDone 0 0 false, rfl, by decide⟩
theorem laneSleepEnter (ds : Bool) : Statement (.laneSleepEnter ds) := ⟨.laneSleepEnter false, rfl, by decide⟩
theorem laneWakeStart (ds : Bool) : Statement (.laneWakeStart ds) := ⟨.laneWakeStart false, rfl, by decide⟩
theorem laneAwake (ds : Bool) : Statement (.laneAwake ds) := ⟨.laneAwake false, rfl, by decide⟩
theorem laneWakeRequest (ds evt : Bool) : Statement (.laneWakeRequest ds evt) := ⟨.laneWakeRequest false false, rfl, by decide⟩
theorem wakeFail : Statement (.wakeFail) := ⟨.wakeFail, rfl, by decide⟩
theorem refCheck (dev : Int) : Statement (.refCheck dev) := ⟨.refCheck 0, rfl, by decide⟩
theorem calResult (k p : Nat) (vals : List Nat) (reason out : Nat) : Statement (.calResult k p vals reason out) := ⟨.calResult 0 0 [] 0 0, rfl, by decide⟩
theorem trimApply (p : Nat) : Statement (.trimApply p) := ⟨.trimApply 0, rfl, by decide⟩
theorem loPhaseDone (x : Nat) (phases : List Nat) : Statement (.loPhaseDone x phases) := ⟨.loPhaseDone 0 [], rfl, by decide⟩
theorem corrSlewUpdate : Statement (.corrSlewUpdate) := ⟨.corrSlewUpdate, rfl, by decide⟩
theorem arrayResult (other : Bool) (d p g dly : Nat) : Statement (.arrayResult other d p g dly) := ⟨.arrayResult false 0 0 0 0, rfl, by decide⟩
theorem fgGo (c : Cls) : Statement (.fgGo c) := ⟨.fgGo .host, rfl, by decide⟩
theorem fgAbort (c : Cls) : Statement (.fgAbort c) := ⟨.fgAbort .host, rfl, by decide⟩
theorem fgDone : Statement (.fgDone) := ⟨.fgDone, rfl, by decide⟩
theorem calDue (k p : Nat) : Statement (.calDue k p) := ⟨.calDue 0 0, rfl, by decide⟩
theorem crossSlip (g : Nat) : Statement (.crossSlip g) := ⟨.crossSlip 0, rfl, by decide⟩
theorem clkLoss (k : Nat) : Statement (.clkLoss k) := ⟨.clkLoss 0, rfl, by decide⟩
theorem blockLock (n : Nat) : Statement (.blockLock n) := ⟨.blockLock 0, rfl, by decide⟩
theorem blockLoss (n : Nat) : Statement (.blockLoss n) := ⟨.blockLoss 0, rfl, by decide⟩
theorem bitslip (c : Cls) (n : Nat) : Statement (.bitslip c n) := ⟨.bitslip .host 0, rfl, by decide⟩
theorem eyePublish (n left right : Nat) : Statement (.eyePublish n left right) := ⟨.eyePublish 0 0 0, rfl, by decide⟩
theorem prbsSync (n : Nat) : Statement (.prbsSync n) := ⟨.prbsSync 0, rfl, by decide⟩
theorem prbsLoss (n errs : Nat) : Statement (.prbsLoss n errs) := ⟨.prbsLoss 0 0, rfl, by decide⟩
theorem cntClr (c : Cls) (n : Nat) : Statement (.cntClr c n) := ⟨.cntClr .host 0, rfl, by decide⟩
theorem injSingle (c : Cls) (n : Nat) : Statement (.injSingle c n) := ⟨.injSingle .host 0, rfl, by decide⟩
theorem injBurst (c : Cls) (n : Nat) : Statement (.injBurst c n) := ⟨.injBurst .host 0, rfl, by decide⟩
theorem injDone (n : Nat) : Statement (.injDone n) := ⟨.injDone 0, rfl, by decide⟩
theorem markerSend (ofs : Nat) (resume : Bool) : Statement (.markerSend ofs resume) := ⟨.markerSend 0 false, rfl, by decide⟩
theorem markerReceive (lane block frac skew : Nat) : Statement (.markerReceive lane block frac skew) := ⟨.markerReceive 0 0 0 0, rfl, by decide⟩
theorem iqdPacket (ws : List Nat) (broken : Bool) : Statement (.iqdPacket ws broken) := ⟨.iqdPacket [] false, rfl, by decide⟩
theorem playoutMiss (k : Nat) : Statement (.playoutMiss k) := ⟨.playoutMiss 0, rfl, by decide⟩
theorem iquWindowSend : Statement (.iquWindowSend) := ⟨.iquWindowSend, rfl, by decide⟩
theorem ctlWeights (waiting : Nat) (ws : List Nat) (broken : Bool) : Statement (.ctlWeights waiting ws broken) := ⟨.ctlWeights 0 [] false, rfl, by decide⟩
theorem ctlTimeline (waiting : Nat) (ws : List Nat) (broken : Bool) : Statement (.ctlTimeline waiting ws broken) := ⟨.ctlTimeline 0 [] false, rfl, by decide⟩
theorem ctlCommit (waiting : Nat) (ws : List Nat) (broken : Bool) : Statement (.ctlCommit waiting ws broken) := ⟨.ctlCommit 0 [] false, rfl, by decide⟩
theorem ctlSleep (waiting : Nat) (ws : List Nat) (broken : Bool) : Statement (.ctlSleep waiting ws broken) := ⟨.ctlSleep 0 [] false, rfl, by decide⟩
theorem mgtReg (waiting : Nat) (ws : List Nat) (broken : Bool) : Statement (.mgtReg waiting ws broken) := ⟨.mgtReg 0 [] false, rfl, by decide⟩
theorem mgtUpdate (ws : List Nat) (broken : Bool) : Statement (.mgtUpdate ws broken) := ⟨.mgtUpdate [] false, rfl, by decide⟩
theorem mgtLogRead (ws : List Nat) (broken : Bool) : Statement (.mgtLogRead ws broken) := ⟨.mgtLogRead [] false, rfl, by decide⟩
theorem evtPacketSend : Statement (.evtPacketSend) := ⟨.evtPacketSend, rfl, by decide⟩
theorem captureExport (k : Nat) : Statement (.captureExport k) := ⟨.captureExport 0, rfl, by decide⟩
theorem timReq (ws : List Nat) (broken : Bool) (t2 : Nat) : Statement (.timReq ws broken t2) := ⟨.timReq [] false 0, rfl, by decide⟩
theorem timFin (ws : List Nat) (broken : Bool) : Statement (.timFin ws broken) := ⟨.timFin [] false, rfl, by decide⟩
theorem linkDown (c : Nat) : Statement (.linkDown c) := ⟨.linkDown 0, rfl, by decide⟩
theorem linkDownTimeout : Statement (.linkDownTimeout) := ⟨.linkDownTimeout, rfl, by decide⟩
theorem linkUp : Statement (.linkUp) := ⟨.linkUp, rfl, by decide⟩
theorem burstStart : Statement (.burstStart) := ⟨.burstStart, rfl, by decide⟩
theorem burstSent : Statement (.burstSent) := ⟨.burstSent, rfl, by decide⟩
theorem agcStep (lvl : Int) : Statement (.agcStep lvl) := ⟨.agcStep 0, rfl, by decide⟩
theorem burstDetect (beamB : Bool) : Statement (.burstDetect beamB) := ⟨.burstDetect false, rfl, by decide⟩
theorem falseDetect : Statement (.falseDetect) := ⟨.falseDetect, rfl, by decide⟩
theorem rxRecord (b : Burst) : Statement (.rxRecord b) := ⟨.rxRecord ⟨List.replicate 160 1, 0, 0, 0, false⟩, rfl, by decide +kernel⟩
theorem soundRxqPop (c : Cls) : Statement (.soundRxqPop c) := ⟨.soundRxqPop .host, rfl, by decide⟩
theorem remGo (c : Cls) : Statement (.remGo c) := ⟨.remGo .host, rfl, by decide⟩
theorem xferDone : Statement (.xferDone) := ⟨.xferDone, rfl, by decide⟩
theorem anisePermit : Statement (.anisePermit) := ⟨.anisePermit, rfl, by decide⟩
theorem bcastRetune (c : Cls) (agent std khz : Nat) : Statement (.bcastRetune c agent std khz) := ⟨.bcastRetune .host 0 0 0, rfl, by decide⟩
theorem synthLock : Statement (.synthLock) := ⟨.synthLock, rfl, by decide⟩
theorem bcastFeCalDone : Statement (.bcastFeCalDone) := ⟨.bcastFeCalDone, rfl, by decide⟩
theorem rdsBlock (ofs : Nat) (ok : Bool) (q : Quality) : Statement (.rdsBlock ofs ok q) := ⟨.rdsBlock 0 false ⟨0, 0, 0, 0⟩, rfl, by decide⟩
theorem rdsGroup (a b c d stamp : Nat) : Statement (.rdsGroup a b c d stamp) := ⟨.rdsGroup 0 0 0 0 0, rfl, by decide⟩
theorem afCheck (level : Int) : Statement (.afCheck level) := ⟨.afCheck 0, rfl, by decide⟩
theorem afPiCheck (pi : Nat) : Statement (.afPiCheck pi) := ⟨.afPiCheck 0, rfl, by decide⟩
theorem dabFrame (x : DabFrame) : Statement (.dabFrame x) := ⟨.dabFrame ⟨none, none, [], false, 0, [], ⟨0, 0, 0, 0⟩⟩, rfl, by decide⟩
theorem dabPacket (addr : Nat) (data : List Nat) (ok : Bool) (f : Nat) : Statement (.dabPacket addr data ok f) := ⟨.dabPacket 0 [] false 0, rfl, by decide⟩
theorem dabFollow : Statement (.dabFollow) := ⟨.dabFollow, rfl, by decide⟩
theorem dabCandidateTimeout : Statement (.dabCandidateTimeout) := ⟨.dabCandidateTimeout, rfl, by decide⟩
theorem timingCalGo (c : Cls) : Statement (.timingCalGo c) := ⟨.timingCalGo .host, rfl, by decide⟩
theorem timingCalClr (c : Cls) : Statement (.timingCalClr c) := ⟨.timingCalClr .host, rfl, by decide⟩
theorem measTimeout : Statement (.measTimeout) := ⟨.measTimeout, rfl, by decide⟩
theorem sdqPop (c : Cls) : Statement (.sdqPop c) := ⟨.sdqPop .host, rfl, by decide⟩
theorem sdqFlush (c : Cls) : Statement (.sdqFlush c) := ⟨.sdqFlush .host, rfl, by decide⟩
theorem arm (c : Cls) (k : Nat) : Statement (.arm c k) := ⟨.arm .host 0, rfl, by decide⟩
theorem disarm (c : Cls) (k : Nat) : Statement (.disarm c k) := ⟨.disarm .host 0, rfl, by decide⟩
theorem captureSoftTrig (c : Cls) (k : Nat) : Statement (.captureSoftTrig c k) := ⟨.captureSoftTrig .host 0, rfl, by decide⟩
theorem captureTrigger (k cause frac : Nat) : Statement (.captureTrigger k cause frac) := ⟨.captureTrigger 0 0 0, rfl, by decide⟩
theorem autoTimeout (k : Nat) : Statement (.autoTimeout k) := ⟨.autoTimeout 0, rfl, by decide⟩
theorem segDone (k : Nat) : Statement (.segDone k) := ⟨.segDone 0, rfl, by decide⟩
theorem gap (k first resume : Nat) : Statement (.gap k first resume) := ⟨.gap 0 0 0, rfl, by decide⟩
theorem rdPtrWrite (c : Cls) (agent k v : Nat) : Statement (.rdPtrWrite c agent k v) := ⟨.rdPtrWrite .host 0 0 0, rfl, by decide⟩
theorem dmaDoorbell (cls : Cls) (c desc : Nat) : Statement (.dmaDoorbell cls c desc) := ⟨.dmaDoorbell .host 0 0, rfl, by decide⟩
theorem dmaAbort (cls : Cls) (c : Nat) : Statement (.dmaAbort cls c) := ⟨.dmaAbort .host 0, rfl, by decide⟩
theorem dmaDescDone (c : Nat) : Statement (.dmaDescDone c) := ⟨.dmaDescDone 0, rfl, by decide⟩
theorem dmaPaceResume (c : Nat) : Statement (.dmaPaceResume c) := ⟨.dmaPaceResume 0, rfl, by decide⟩
theorem targetTimeout (c ofs : Nat) (wr : Bool) : Statement (.targetTimeout c ofs wr) := ⟨.targetTimeout 0 0 false, rfl, by decide⟩
theorem parallelDsp (c : Nat) (m0 m1 : Option MacF) (mv : Moves) : Statement (.parallelDsp c m0 m1 mv) := ⟨.parallelDsp 0 none none ⟨none, none, none⟩, rfl, by decide⟩
theorem tfr (c a b : Nat) (mv : Moves) : Statement (.tfr c a b mv) := ⟨.tfr 0 0 0 ⟨none, none, none⟩, rfl, by decide⟩
theorem add (c a b : Nat) (mv : Moves) : Statement (.add c a b mv) := ⟨.add 0 0 0 ⟨none, none, none⟩, rfl, by decide⟩
theorem sub (c a b : Nat) (mv : Moves) : Statement (.sub c a b mv) := ⟨.sub 0 0 0 ⟨none, none, none⟩, rfl, by decide⟩
theorem neg (c a b : Nat) (mv : Moves) : Statement (.neg c a b mv) := ⟨.neg 0 0 0 ⟨none, none, none⟩, rfl, by decide⟩
theorem abs (c a b : Nat) (mv : Moves) : Statement (.abs c a b mv) := ⟨.abs 0 0 0 ⟨none, none, none⟩, rfl, by decide⟩
theorem clr (c a : Nat) (mv : Moves) : Statement (.clr c a mv) := ⟨.clr 0 0 ⟨none, none, none⟩, rfl, by decide⟩
theorem rnd (c a : Nat) (mv : Moves) : Statement (.rnd c a mv) := ⟨.rnd 0 0 ⟨none, none, none⟩, rfl, by decide⟩
theorem sat (c a : Nat) (mv : Moves) : Statement (.sat c a mv) := ⟨.sat 0 0 ⟨none, none, none⟩, rfl, by decide⟩
theorem asl (c a n : Nat) (mv : Moves) : Statement (.asl c a n mv) := ⟨.asl 0 0 0 ⟨none, none, none⟩, rfl, by decide⟩
theorem asr (c a n : Nat) (mv : Moves) : Statement (.asr c a n mv) := ⟨.asr 0 0 0 ⟨none, none, none⟩, rfl, by decide⟩
theorem addr (c a r : Nat) (mv : Moves) : Statement (.addr c a r mv) := ⟨.addr 0 0 0 ⟨none, none, none⟩, rfl, by decide⟩
theorem subr (c a r : Nat) (mv : Moves) : Statement (.subr c a r mv) := ⟨.subr 0 0 0 ⟨none, none, none⟩, rfl, by decide⟩
theorem cmp (c a b : Nat) (mv : Moves) : Statement (.cmp c a b mv) := ⟨.cmp 0 0 0 ⟨none, none, none⟩, rfl, by decide⟩
theorem cmpr (c a r : Nat) (mv : Moves) : Statement (.cmpr c a r mv) := ⟨.cmpr 0 0 0 ⟨none, none, none⟩, rfl, by decide⟩
theorem and (c a r : Nat) (mv : Moves) : Statement (.and c a r mv) := ⟨.and 0 0 0 ⟨none, none, none⟩, rfl, by decide⟩
theorem or (c a r : Nat) (mv : Moves) : Statement (.or c a r mv) := ⟨.or 0 0 0 ⟨none, none, none⟩, rfl, by decide⟩
theorem xor (c a r : Nat) (mv : Moves) : Statement (.xor c a r mv) := ⟨.xor 0 0 0 ⟨none, none, none⟩, rfl, by decide⟩
theorem max (c a b : Nat) (mv : Moves) : Statement (.max c a b mv) := ⟨.max 0 0 0 ⟨none, none, none⟩, rfl, by decide⟩
theorem min (c a b : Nat) (mv : Moves) : Statement (.min c a b mv) := ⟨.min 0 0 0 ⟨none, none, none⟩, rfl, by decide⟩
theorem norm (c a r : Nat) (mv : Moves) : Statement (.norm c a r mv) := ⟨.norm 0 0 0 ⟨none, none, none⟩, rfl, by decide⟩
theorem li (c r imm : Nat) : Statement (.li c r imm) := ⟨.li 0 0 0, rfl, by decide⟩
theorem move (c dst src : Nat) : Statement (.move c dst src) := ⟨.move 0 0 0, rfl, by decide⟩
theorem addi (c dst imm : Nat) : Statement (.addi c dst imm) := ⟨.addi 0 0 0, rfl, by decide⟩
theorem asave (c dst src : Nat) : Statement (.asave c dst src) := ⟨.asave 0 0 0, rfl, by decide⟩
theorem aload (c dst src : Nat) : Statement (.aload c dst src) := ⟨.aload 0 0 0, rfl, by decide⟩
theorem nop (c : Nat) : Statement (.nop c) := ⟨.nop 0, rfl, by decide⟩
theorem jmp (c cond target : Nat) : Statement (.jmp c cond target) := ⟨.jmp 0 0 0, rfl, by decide⟩
theorem jsr (c cond target : Nat) : Statement (.jsr c cond target) := ⟨.jsr 0 0 0, rfl, by decide⟩
theorem rts (c cond : Nat) : Statement (.rts c cond) := ⟨.rts 0 0, rfl, by decide⟩
theorem reti (c : Nat) : Statement (.reti c) := ⟨.reti 0, rfl, by decide⟩
theorem doLoop (c : Nat) (fromReg : Bool) (reg count target : Nat) : Statement (.doLoop c fromReg reg count target) := ⟨.doLoop 0 false 0 0 0, rfl, by decide⟩
theorem yield (c : Nat) : Statement (.yield c) := ⟨.yield 0, rfl, by decide⟩
theorem wait (c : Nat) : Statement (.wait c) := ⟨.wait 0, rfl, by decide⟩
theorem halt (c : Nat) : Statement (.halt c) := ⟨.halt 0, rfl, by decide⟩
theorem ei (c : Nat) : Statement (.ei c) := ⟨.ei 0, rfl, by decide⟩
theorem di (c : Nat) : Statement (.di c) := ⟨.di 0, rfl, by decide⟩
theorem interruptEntry (c : Nat) : Statement (.interruptEntry c) := ⟨.interruptEntry 0, rfl, by decide⟩
theorem coreFault (c : Nat) : Statement (.coreFault c) := ⟨.coreFault 0, rfl, by decide⟩
theorem ipendClear (c v : Nat) : Statement (.ipendClear c v) := ⟨.ipendClear 0 0, rfl, by decide⟩
theorem mboxOut (c v : Nat) : Statement (.mboxOut c v) := ⟨.mboxOut 0 0, rfl, by decide⟩
theorem tb0Read (c : Nat) : Statement (.tb0Read c) := ⟨.tb0Read 0, rfl, by decide⟩
theorem tcmpArm (c v : Nat) : Statement (.tcmpArm c v) := ⟨.tcmpArm 0 0, rfl, by decide⟩
theorem coreTimer (c : Nat) : Statement (.coreTimer c) := ⟨.coreTimer 0, rfl, by decide⟩
theorem strDataRead (c : Nat) : Statement (.strDataRead c) := ⟨.strDataRead 0, rfl, by decide⟩
theorem brRead (c : Nat) : Statement (.brRead c) := ⟨.brRead 0, rfl, by decide⟩
theorem brWrite (c : Nat) : Statement (.brWrite c) := ⟨.brWrite 0, rfl, by decide⟩
theorem bridgeDone (c : Nat) : Statement (.bridgeDone c) := ⟨.bridgeDone 0, rfl, by decide⟩
theorem semAcquire (c n : Nat) : Statement (.semAcquire c n) := ⟨.semAcquire 0 0, rfl, by decide⟩
theorem semRelease (c n : Nat) : Statement (.semRelease c n) := ⟨.semRelease 0 0, rfl, by decide⟩
theorem kernelLoad (cls : Cls) (agent c : Nat) : Statement (.kernelLoad cls agent c) := ⟨.kernelLoad .host 0 0, rfl, by decide⟩
theorem hitlessLoad (cls : Cls) (agent c : Nat) : Statement (.hitlessLoad cls agent c) := ⟨.hitlessLoad .host 0 0, rfl, by decide⟩
theorem loadDone (c : Nat) : Statement (.loadDone c) := ⟨.loadDone 0, rfl, by decide⟩
theorem runWrite (cls : Cls) (agent c v : Nat) : Statement (.runWrite cls agent c v) := ⟨.runWrite .host 0 0 0, rfl, by decide⟩
theorem mboxIrq (cls : Cls) (c : Nat) : Statement (.mboxIrq cls c) := ⟨.mboxIrq .host 0, rfl, by decide⟩
theorem swapGo (cls : Cls) (c : Nat) : Statement (.swapGo cls c) := ⟨.swapGo .host 0, rfl, by decide⟩
theorem swapBoundary (c : Nat) : Statement (.swapBoundary c) := ⟨.swapBoundary 0, rfl, by decide⟩
theorem swapTimeout (c : Nat) : Statement (.swapTimeout c) := ⟨.swapTimeout 0, rfl, by decide⟩
theorem cacheClean (a word upset : Nat) : Statement (.cacheClean a word upset) := ⟨.cacheClean 0 0 0, rfl, by decide⟩
theorem cacheInvalidate (a : Nat) : Statement (.cacheInvalidate a) := ⟨.cacheInvalidate 0, rfl, by decide⟩
theorem cacheCleanInvalidate (a word upset : Nat) : Statement (.cacheCleanInvalidate a word upset) := ⟨.cacheCleanInvalidate 0 0 0, rfl, by decide⟩
theorem icacheInvalidate : Statement (.icacheInvalidate) := ⟨.icacheInvalidate, rfl, by decide⟩
theorem mtimeCompare : Statement (.mtimeCompare) := ⟨.mtimeCompare, rfl, by decide⟩
theorem wdEnable (c : Cls) (agent : Nat) : Statement (.wdEnable c agent) := ⟨.wdEnable .host 0, rfl, by decide⟩
theorem wdKick (c : Cls) (v : Nat) : Statement (.wdKick c v) := ⟨.wdKick .host 0, rfl, by decide⟩
theorem runtimeWatchdogExpiry (flashBad : Nat) : Statement (.runtimeWatchdogExpiry flashBad) := ⟨.runtimeWatchdogExpiry 0, rfl, by decide⟩
theorem updOpen (c : Cls) (arg : Nat) : Statement (.updOpen c arg) := ⟨.updOpen .host 0, rfl, by decide⟩
theorem updChunk (c : Cls) (arg : Nat) : Statement (.updChunk c arg) := ⟨.updChunk .host 0, rfl, by decide⟩
theorem updVerify (c : Cls) (arg : Nat) : Statement (.updVerify c arg) := ⟨.updVerify .host 0, rfl, by decide⟩
theorem updActivate (c : Cls) (arg : Nat) : Statement (.updActivate c arg) := ⟨.updActivate .host 0, rfl, by decide⟩
theorem updConfirm (c : Cls) (arg : Nat) : Statement (.updConfirm c arg) := ⟨.updConfirm .host 0, rfl, by decide⟩
theorem updAbort (c : Cls) (arg : Nat) : Statement (.updAbort c arg) := ⟨.updAbort .host 0, rfl, by decide⟩
theorem rbAdvance (c : Cls) (arg : Nat) : Statement (.rbAdvance c arg) := ⟨.rbAdvance .host 0, rfl, by decide⟩
theorem updDone (bad : Bool) (flashBad : Nat) : Statement (.updDone bad flashBad) := ⟨.updDone false 0, rfl, by decide⟩
theorem fwLogRecord (c : Cls) (type sev : Nat) : Statement (.fwLogRecord c type sev) := ⟨.fwLogRecord .host 0 0, rfl, by decide⟩
theorem logFlush : Statement (.logFlush) := ⟨.logFlush, rfl, by decide⟩
theorem logFlushCmd (c : Cls) : Statement (.logFlushCmd c) := ⟨.logFlushCmd .host, rfl, by decide⟩
theorem logRdSeq (c : Cls) (agent q : Nat) : Statement (.logRdSeq c agent q) := ⟨.logRdSeq .host 0 0, rfl, by decide⟩
theorem logFlashReadDone : Statement (.logFlashReadDone) := ⟨.logFlashReadDone, rfl, by decide⟩
theorem sumacInfo : Statement (.sumacInfo) := ⟨.sumacInfo, rfl, by decide⟩
theorem sumacRd (a n : Nat) : Statement (.sumacRd a n) := ⟨.sumacRd 0 0, rfl, by decide⟩
theorem sumacLog (q n : Nat) : Statement (.sumacLog q n) := ⟨.sumacLog 0 0, rfl, by decide⟩
theorem sumacChal : Statement (.sumacChal) := ⟨.sumacChal, rfl, by decide⟩
theorem sumacElev (w : List Nat) : Statement (.sumacElev w) := ⟨.sumacElev [], rfl, by decide⟩
theorem sumacDrop : Statement (.sumacDrop) := ⟨.sumacDrop, rfl, by decide⟩
theorem sumacStart : Statement (.sumacStart) := ⟨.sumacStart, rfl, by decide⟩
theorem sumacWr (a v : Nat) : Statement (.sumacWr a v) := ⟨.sumacWr 0 0, rfl, by decide⟩
theorem sumacMode (m : Nat) : Statement (.sumacMode m) := ⟨.sumacMode 0, rfl, by decide⟩
theorem sumacBaud (r : Nat) : Statement (.sumacBaud r) := ⟨.sumacBaud 0, rfl, by decide⟩
theorem sumacRecover : Statement (.sumacRecover) := ⟨.sumacRecover, rfl, by decide⟩
theorem sumacUpd (op arg ofs : Nat) (data : List Nat) : Statement (.sumacUpd op arg ofs data) := ⟨.sumacUpd 0 0 0 [], rfl, by decide⟩
theorem monrxBreak : Statement (.monrxBreak) := ⟨.monrxBreak, rfl, by decide⟩
theorem elevationExpiry : Statement (.elevationExpiry) := ⟨.elevationExpiry, rfl, by decide⟩
theorem elevLockExpiry : Statement (.elevLockExpiry) := ⟨.elevLockExpiry, rfl, by decide⟩
theorem monitorDrop (c : Cls) : Statement (.monitorDrop c) := ⟨.monitorDrop .host, rfl, by decide⟩
theorem progHash (c : Cls) (arg : Nat) : Statement (.progHash c arg) := ⟨.progHash .host 0, rfl, by decide⟩
theorem revoke (c : Cls) (arg : Nat) : Statement (.revoke c arg) := ⟨.revoke .host 0, rfl, by decide⟩
theorem scanPermit (c : Cls) (arg : Nat) : Statement (.scanPermit c arg) := ⟨.scanPermit .host 0, rfl, by decide⟩
theorem genId (c : Cls) (arg : Nat) : Statement (.genId c arg) := ⟨.genId .host 0, rfl, by decide⟩
theorem lrAdvance (c : Cls) (arg : Nat) : Statement (.lrAdvance c arg) := ⟨.lrAdvance .host 0, rfl, by decide⟩
theorem otpDone (bad : Bool) : Statement (.otpDone bad) := ⟨.otpDone false, rfl, by decide⟩
theorem lrLoad (c : Cls) : Statement (.lrLoad c) := ⟨.lrLoad .host, rfl, by decide⟩
theorem lrLoadDone : Statement (.lrLoadDone) := ⟨.lrLoadDone, rfl, by decide⟩
theorem genEph (c : Cls) : Statement (.genEph c) := ⟨.genEph .host, rfl, by decide⟩
theorem derive (c : Cls) : Statement (.derive c) := ⟨.derive .host, rfl, by decide⟩
theorem attest (c : Cls) : Statement (.attest c) := ⟨.attest .host, rfl, by decide⟩
theorem keDone : Statement (.keDone) := ⟨.keDone, rfl, by decide⟩
theorem sessionKeySwitch : Statement (.sessionKeySwitch) := ⟨.sessionKeySwitch, rfl, by decide⟩
theorem rngDataRead (c : Cls) : Statement (.rngDataRead c) := ⟨.rngDataRead .host, rfl, by decide⟩
theorem rngFail : Statement (.rngFail) := ⟨.rngFail, rfl, by decide⟩
theorem dbgChal (c : Cls) : Statement (.dbgChal c) := ⟨.dbgChal .host, rfl, by decide⟩
theorem dbgUnlock (c : Cls) : Statement (.dbgUnlock c) := ⟨.dbgUnlock .host, rfl, by decide⟩
theorem clearDone : Statement (.clearDone) := ⟨.clearDone, rfl, by decide⟩
theorem scrubVisit (m upset : Nat) : Statement (.scrubVisit m upset) := ⟨.scrubVisit 0 0, rfl, by decide⟩
theorem fuseProgram (c : Cls) : Statement (.fuseProgram c) := ⟨.fuseProgram .host, rfl, by decide⟩
theorem fuseCancel (c : Cls) (arg : Nat) : Statement (.fuseCancel c arg) := ⟨.fuseCancel .host 0, rfl, by decide⟩
theorem fuseDone (bad : Bool) : Statement (.fuseDone bad) := ⟨.fuseDone false, rfl, by decide⟩
theorem bistGo (c : Cls) (t : Nat) : Statement (.bistGo c t) := ⟨.bistGo .host 0, rfl, by decide⟩
theorem bistAbort (c : Cls) : Statement (.bistAbort c) := ⟨.bistAbort .host, rfl, by decide⟩
theorem bistDone (fails : List (Nat × Nat)) (tx rx cal : Nat) (dev : Int) : Statement (.bistDone fails tx rx cal dev) := ⟨.bistDone [] 0 0 0 0, rfl, by decide⟩
theorem bistResPop (c : Cls) : Statement (.bistResPop c) := ⟨.bistResPop .host, rfl, by decide⟩
theorem hkadcGo (c : Cls) (ch : Nat) : Statement (.hkadcGo c ch) := ⟨.hkadcGo .host 0, rfl, by decide⟩
theorem hkadcSchedule : Statement (.hkadcSchedule) := ⟨.hkadcSchedule, rfl, by decide⟩
theorem hkadcCmpHit (ch : Nat) (back : Bool) : Statement (.hkadcCmpHit ch back) := ⟨.hkadcCmpHit 0 false, rfl, by decide⟩
theorem hkadcConversionDone (sup : Bool) (ch : Nat) (xs : List Int) (bad : Bool) : Statement (.hkadcConversionDone sup ch xs bad) := ⟨.hkadcConversionDone false 0 [] false, rfl, by decide⟩
theorem hkadcCalibration (start : Bool) (dev : Int) : Statement (.hkadcCalibration start dev) := ⟨.hkadcCalibration false 0, rfl, by decide⟩
theorem hkadcQPop (c : Cls) : Statement (.hkadcQPop c) := ⟨.hkadcQPop .host, rfl, by decide⟩
theorem slackWindowEnd (adc dac : List Nat) (up : Nat) : Statement (.slackWindowEnd adc dac up) := ⟨.slackWindowEnd [] [] 0, rfl, by decide⟩
theorem pmTelemetry (vout iout : Nat) (temp : Int) : Statement (.pmTelemetry vout iout temp) := ⟨.pmTelemetry 0 0 0, rfl, by decide⟩
theorem pmAlert (status : Nat) : Statement (.pmAlert status) := ⟨.pmAlert 0, rfl, by decide⟩
theorem pmVoutCheck (ack : Bool) (vout : Nat) : Statement (.pmVoutCheck ack vout) := ⟨.pmVoutCheck false 0, rfl, by decide⟩
theorem retireGraceExpiry (d n : Nat) : Statement (.retireGraceExpiry d n) := ⟨.retireGraceExpiry 0 0, rfl, by decide⟩
theorem rxRetireWrite (c : Cls) (agent : Nat) (hi : Bool) (v : Nat) : Statement (.rxRetireWrite c agent hi v) := ⟨.rxRetireWrite .host 0 false 0, rfl, by decide⟩
theorem lifeDayClose : Statement (.lifeDayClose) := ⟨.lifeDayClose, rfl, by decide⟩
theorem gpioEdge (k : Nat) (rising : Bool) : Statement (.gpioEdge k rising) := ⟨.gpioEdge 0 false, rfl, by decide⟩
theorem timMeasLapse : Statement (.timMeasLapse) := ⟨.timMeasLapse, rfl, by decide⟩
theorem cuminMeasLapse : Statement (.cuminMeasLapse) := ⟨.cuminMeasLapse, rfl, by decide⟩
theorem timRsp (id t3 : Nat) : Statement (.timRsp id t3) := ⟨.timRsp 0 0, rfl, by decide⟩
theorem markerWindowEnd : Statement (.markerWindowEnd) := ⟨.markerWindowEnd, rfl, by decide⟩
theorem dabSyncLoss : Statement (.dabSyncLoss) := ⟨.dabSyncLoss, rfl, by decide⟩
theorem dsckPresent (k : Nat) (dev : Int) : Statement (.dsckPresent k dev) := ⟨.dsckPresent 0 0, rfl, by decide⟩
theorem startLockTimeout : Statement (.startLockTimeout) := ⟨.startLockTimeout, rfl, by decide⟩

end Sys2Proof.Laws.Occurs
end

