-- ==== Sys2Proof/Laws/State.lean ====
section
/-! SUPPORT. What each update of State leaves as it was, and what an update of one unit puts into its field: one lemma
for each field and update, so that no proof unfolds a record update. -/

namespace Sys2Proof.Machine

/-! ### `State.set` -/

@[simp] theorem State.set_bank (s : State) (l : Loc) (v : Nat) : (s.set l v).bank = s.bank := rfl
@[simp] theorem State.set_seqs (s : State) (l : Loc) (v : Nat) : (s.set l v).seqs = s.seqs := rfl
@[simp] theorem State.set_copying (s : State) (l : Loc) (v : Nat) : (s.set l v).copying = s.copying := rfl
@[simp] theorem State.set_windows (s : State) (l : Loc) (v : Nat) : (s.set l v).windows = s.windows := rfl
@[simp] theorem State.set_triggers (s : State) (l : Loc) (v : Nat) : (s.set l v).triggers = s.triggers := rfl
@[simp] theorem State.set_words (s : State) (l : Loc) (v : Nat) : (s.set l v).words = s.words := rfl
@[simp] theorem State.set_acks (s : State) (l : Loc) (v : Nat) : (s.set l v).acks = s.acks := rfl
@[simp] theorem State.set_answer (s : State) (l : Loc) (v : Nat) : (s.set l v).answer = s.answer := rfl
@[simp] theorem State.set_latches (s : State) (l : Loc) (v : Nat) : (s.set l v).latches = s.latches := rfl
@[simp] theorem State.set_tb (s : State) (l : Loc) (v : Nat) : (s.set l v).tb = s.tb := rfl
@[simp] theorem State.set_tbRun (s : State) (l : Loc) (v : Nat) : (s.set l v).tbRun = s.tbRun := rfl
@[simp] theorem State.set_ao (s : State) (l : Loc) (v : Nat) : (s.set l v).ao = s.ao := rfl
@[simp] theorem State.set_fv (s : State) (l : Loc) (v : Nat) : (s.set l v).fv = s.fv := rfl
@[simp] theorem State.set_pwr (s : State) (l : Loc) (v : Nat) : (s.set l v).pwr = s.pwr := rfl
@[simp] theorem State.set_clk (s : State) (l : Loc) (v : Nat) : (s.set l v).clk = s.clk := rfl
@[simp] theorem State.set_paths (s : State) (l : Loc) (v : Nat) : (s.set l v).paths = s.paths := rfl
@[simp] theorem State.set_rxs (s : State) (l : Loc) (v : Nat) : (s.set l v).rxs = s.rxs := rfl
@[simp] theorem State.set_txs (s : State) (l : Loc) (v : Nat) : (s.set l v).txs = s.txs := rfl
@[simp] theorem State.set_octs (s : State) (l : Loc) (v : Nat) : (s.set l v).octs = s.octs := rfl
@[simp] theorem State.set_tl (s : State) (l : Loc) (v : Nat) : (s.set l v).tl = s.tl := rfl
@[simp] theorem State.set_bias (s : State) (l : Loc) (v : Nat) : (s.set l v).bias = s.bias := rfl
@[simp] theorem State.set_log (s : State) (l : Loc) (v : Nat) : (s.set l v).log = s.log := rfl
@[simp] theorem State.set_cores (s : State) (l : Loc) (v : Nat) : (s.set l v).cores = s.cores := rfl
@[simp] theorem State.set_evtQ (s : State) (l : Loc) (v : Nat) : (s.set l v).evtQ = s.evtQ := rfl
@[simp] theorem State.set_mem (s : State) (l : Loc) (v : Nat) : (s.set l v).mem = s.mem := rfl
@[simp] theorem State.set_ecc (s : State) (l : Loc) (v : Nat) : (s.set l v).ecc = s.ecc := rfl
@[simp] theorem State.set_eccBase (s : State) (l : Loc) (v : Nat) : (s.set l v).eccBase = s.eccBase := rfl
@[simp] theorem State.set_ceLog (s : State) (l : Loc) (v : Nat) : (s.set l v).ceLog = s.ceLog := rfl
@[simp] theorem State.set_caps (s : State) (l : Loc) (v : Nat) : (s.set l v).caps = s.caps := rfl
@[simp] theorem State.set_dmas (s : State) (l : Loc) (v : Nat) : (s.set l v).dmas = s.dmas := rfl
@[simp] theorem State.set_commits (s : State) (l : Loc) (v : Nat) : (s.set l v).commits = s.commits := rfl
@[simp] theorem State.set_trans (s : State) (l : Loc) (v : Nat) : (s.set l v).trans = s.trans := rfl
@[simp] theorem State.set_tim (s : State) (l : Loc) (v : Nat) : (s.set l v).tim = s.tim := rfl
@[simp] theorem State.set_cum (s : State) (l : Loc) (v : Nat) : (s.set l v).cum = s.cum := rfl
@[simp] theorem State.set_ani (s : State) (l : Loc) (v : Nat) : (s.set l v).ani = s.ani := rfl
@[simp] theorem State.set_beams (s : State) (l : Loc) (v : Nat) : (s.set l v).beams = s.beams := rfl
@[simp] theorem State.set_wts (s : State) (l : Loc) (v : Nat) : (s.set l v).wts = s.wts := rfl
@[simp] theorem State.set_taps (s : State) (l : Loc) (v : Nat) : (s.set l v).taps = s.taps := rfl
@[simp] theorem State.set_strm (s : State) (l : Loc) (v : Nat) : (s.set l v).strm = s.strm := rfl
@[simp] theorem State.set_dpd (s : State) (l : Loc) (v : Nat) : (s.set l v).dpd = s.dpd := rfl
@[simp] theorem State.set_mgmtDown (s : State) (l : Loc) (v : Nat) : (s.set l v).mgmtDown = s.mgmtDown := rfl
@[simp] theorem State.set_cal (s : State) (l : Loc) (v : Nat) : (s.set l v).cal = s.cal := rfl
@[simp] theorem State.set_ret (s : State) (l : Loc) (v : Nat) : (s.set l v).ret = s.ret := rfl
@[simp] theorem State.set_lanes (s : State) (l : Loc) (v : Nat) : (s.set l v).lanes = s.lanes := rfl
@[simp] theorem State.set_erl (s : State) (l : Loc) (v : Nat) : (s.set l v).erl = s.erl := rfl
@[simp] theorem State.set_snd (s : State) (l : Loc) (v : Nat) : (s.set l v).snd = s.snd := rfl
@[simp] theorem State.set_bc (s : State) (l : Loc) (v : Nat) : (s.set l v).bc = s.bc := rfl
@[simp] theorem State.set_sems (s : State) (l : Loc) (v : Nat) : (s.set l v).sems = s.sems := rfl
@[simp] theorem State.set_mgmt (s : State) (l : Loc) (v : Nat) : (s.set l v).mgmt = s.mgmt := rfl
@[simp] theorem State.set_updJobs (s : State) (l : Loc) (v : Nat) : (s.set l v).updJobs = s.updJobs := rfl
@[simp] theorem State.set_otp (s : State) (l : Loc) (v : Nat) : (s.set l v).otp = s.otp := rfl
@[simp] theorem State.set_sec (s : State) (l : Loc) (v : Nat) : (s.set l v).sec = s.sec := rfl
@[simp] theorem State.set_mon (s : State) (l : Loc) (v : Nat) : (s.set l v).mon = s.mon := rfl
@[simp] theorem State.set_bist (s : State) (l : Loc) (v : Nat) : (s.set l v).bist = s.bist := rfl
@[simp] theorem State.set_modes (s : State) (l : Loc) (v : Nat) : (s.set l v).modes = s.modes := rfl
@[simp] theorem State.set_seqAt (s : State) (l : Loc) (v : Nat) : (s.set l v).seqAt = s.seqAt := rfl
@[simp] theorem State.set_seqMod (s : State) (l : Loc) (v : Nat) : (s.set l v).seqMod = s.seqMod := rfl
@[simp] theorem State.set_srst (s : State) (l : Loc) (v : Nat) : (s.set l v).srst = s.srst := rfl
@[simp] theorem State.set_hk (s : State) (l : Loc) (v : Nat) : (s.set l v).hk = s.hk := rfl
@[simp] theorem State.set_age (s : State) (l : Loc) (v : Nat) : (s.set l v).age = s.age := rfl
@[simp] theorem State.set_evtNow (s : State) (l : Loc) (v : Nat) : (s.set l v).evtNow = s.evtNow := rfl
@[simp] theorem State.set_evtAt (s : State) (l : Loc) (v : Nat) : (s.set l v).evtAt = s.evtAt := rfl
@[simp] theorem State.set_pending (s : State) (l : Loc) (v : Nat) : (s.set l v).pending = s.pending := rfl

/-! ### `State.edit` -/

@[simp] theorem State.edit_regs (s : State) (l : Loc) (v : Nat) : (s.edit l v).regs = s.regs := rfl
@[simp] theorem State.edit_seqs (s : State) (l : Loc) (v : Nat) : (s.edit l v).seqs = s.seqs := rfl
@[simp] theorem State.edit_copying (s : State) (l : Loc) (v : Nat) : (s.edit l v).copying = s.copying := rfl
@[simp] theorem State.edit_windows (s : State) (l : Loc) (v : Nat) : (s.edit l v).windows = s.windows := rfl
@[simp] theorem State.edit_triggers (s : State) (l : Loc) (v : Nat) : (s.edit l v).triggers = s.triggers := rfl
@[simp] theorem State.edit_words (s : State) (l : Loc) (v : Nat) : (s.edit l v).words = s.words := rfl
@[simp] theorem State.edit_acks (s : State) (l : Loc) (v : Nat) : (s.edit l v).acks = s.acks := rfl
@[simp] theorem State.edit_answer (s : State) (l : Loc) (v : Nat) : (s.edit l v).answer = s.answer := rfl
@[simp] theorem State.edit_latches (s : State) (l : Loc) (v : Nat) : (s.edit l v).latches = s.latches := rfl
@[simp] theorem State.edit_tb (s : State) (l : Loc) (v : Nat) : (s.edit l v).tb = s.tb := rfl
@[simp] theorem State.edit_tbRun (s : State) (l : Loc) (v : Nat) : (s.edit l v).tbRun = s.tbRun := rfl
@[simp] theorem State.edit_ao (s : State) (l : Loc) (v : Nat) : (s.edit l v).ao = s.ao := rfl
@[simp] theorem State.edit_fv (s : State) (l : Loc) (v : Nat) : (s.edit l v).fv = s.fv := rfl
@[simp] theorem State.edit_pwr (s : State) (l : Loc) (v : Nat) : (s.edit l v).pwr = s.pwr := rfl
@[simp] theorem State.edit_clk (s : State) (l : Loc) (v : Nat) : (s.edit l v).clk = s.clk := rfl
@[simp] theorem State.edit_paths (s : State) (l : Loc) (v : Nat) : (s.edit l v).paths = s.paths := rfl
@[simp] theorem State.edit_rxs (s : State) (l : Loc) (v : Nat) : (s.edit l v).rxs = s.rxs := rfl
@[simp] theorem State.edit_txs (s : State) (l : Loc) (v : Nat) : (s.edit l v).txs = s.txs := rfl
@[simp] theorem State.edit_octs (s : State) (l : Loc) (v : Nat) : (s.edit l v).octs = s.octs := rfl
@[simp] theorem State.edit_tl (s : State) (l : Loc) (v : Nat) : (s.edit l v).tl = s.tl := rfl
@[simp] theorem State.edit_bias (s : State) (l : Loc) (v : Nat) : (s.edit l v).bias = s.bias := rfl
@[simp] theorem State.edit_log (s : State) (l : Loc) (v : Nat) : (s.edit l v).log = s.log := rfl
@[simp] theorem State.edit_cores (s : State) (l : Loc) (v : Nat) : (s.edit l v).cores = s.cores := rfl
@[simp] theorem State.edit_evtQ (s : State) (l : Loc) (v : Nat) : (s.edit l v).evtQ = s.evtQ := rfl
@[simp] theorem State.edit_mem (s : State) (l : Loc) (v : Nat) : (s.edit l v).mem = s.mem := rfl
@[simp] theorem State.edit_ecc (s : State) (l : Loc) (v : Nat) : (s.edit l v).ecc = s.ecc := rfl
@[simp] theorem State.edit_eccBase (s : State) (l : Loc) (v : Nat) : (s.edit l v).eccBase = s.eccBase := rfl
@[simp] theorem State.edit_ceLog (s : State) (l : Loc) (v : Nat) : (s.edit l v).ceLog = s.ceLog := rfl
@[simp] theorem State.edit_caps (s : State) (l : Loc) (v : Nat) : (s.edit l v).caps = s.caps := rfl
@[simp] theorem State.edit_dmas (s : State) (l : Loc) (v : Nat) : (s.edit l v).dmas = s.dmas := rfl
@[simp] theorem State.edit_commits (s : State) (l : Loc) (v : Nat) : (s.edit l v).commits = s.commits := rfl
@[simp] theorem State.edit_trans (s : State) (l : Loc) (v : Nat) : (s.edit l v).trans = s.trans := rfl
@[simp] theorem State.edit_tim (s : State) (l : Loc) (v : Nat) : (s.edit l v).tim = s.tim := rfl
@[simp] theorem State.edit_cum (s : State) (l : Loc) (v : Nat) : (s.edit l v).cum = s.cum := rfl
@[simp] theorem State.edit_ani (s : State) (l : Loc) (v : Nat) : (s.edit l v).ani = s.ani := rfl
@[simp] theorem State.edit_beams (s : State) (l : Loc) (v : Nat) : (s.edit l v).beams = s.beams := rfl
@[simp] theorem State.edit_wts (s : State) (l : Loc) (v : Nat) : (s.edit l v).wts = s.wts := rfl
@[simp] theorem State.edit_taps (s : State) (l : Loc) (v : Nat) : (s.edit l v).taps = s.taps := rfl
@[simp] theorem State.edit_strm (s : State) (l : Loc) (v : Nat) : (s.edit l v).strm = s.strm := rfl
@[simp] theorem State.edit_dpd (s : State) (l : Loc) (v : Nat) : (s.edit l v).dpd = s.dpd := rfl
@[simp] theorem State.edit_mgmtDown (s : State) (l : Loc) (v : Nat) : (s.edit l v).mgmtDown = s.mgmtDown := rfl
@[simp] theorem State.edit_cal (s : State) (l : Loc) (v : Nat) : (s.edit l v).cal = s.cal := rfl
@[simp] theorem State.edit_ret (s : State) (l : Loc) (v : Nat) : (s.edit l v).ret = s.ret := rfl
@[simp] theorem State.edit_lanes (s : State) (l : Loc) (v : Nat) : (s.edit l v).lanes = s.lanes := rfl
@[simp] theorem State.edit_erl (s : State) (l : Loc) (v : Nat) : (s.edit l v).erl = s.erl := rfl
@[simp] theorem State.edit_snd (s : State) (l : Loc) (v : Nat) : (s.edit l v).snd = s.snd := rfl
@[simp] theorem State.edit_bc (s : State) (l : Loc) (v : Nat) : (s.edit l v).bc = s.bc := rfl
@[simp] theorem State.edit_sems (s : State) (l : Loc) (v : Nat) : (s.edit l v).sems = s.sems := rfl
@[simp] theorem State.edit_mgmt (s : State) (l : Loc) (v : Nat) : (s.edit l v).mgmt = s.mgmt := rfl
@[simp] theorem State.edit_updJobs (s : State) (l : Loc) (v : Nat) : (s.edit l v).updJobs = s.updJobs := rfl
@[simp] theorem State.edit_otp (s : State) (l : Loc) (v : Nat) : (s.edit l v).otp = s.otp := rfl
@[simp] theorem State.edit_sec (s : State) (l : Loc) (v : Nat) : (s.edit l v).sec = s.sec := rfl
@[simp] theorem State.edit_mon (s : State) (l : Loc) (v : Nat) : (s.edit l v).mon = s.mon := rfl
@[simp] theorem State.edit_bist (s : State) (l : Loc) (v : Nat) : (s.edit l v).bist = s.bist := rfl
@[simp] theorem State.edit_modes (s : State) (l : Loc) (v : Nat) : (s.edit l v).modes = s.modes := rfl
@[simp] theorem State.edit_seqAt (s : State) (l : Loc) (v : Nat) : (s.edit l v).seqAt = s.seqAt := rfl
@[simp] theorem State.edit_seqMod (s : State) (l : Loc) (v : Nat) : (s.edit l v).seqMod = s.seqMod := rfl
@[simp] theorem State.edit_srst (s : State) (l : Loc) (v : Nat) : (s.edit l v).srst = s.srst := rfl
@[simp] theorem State.edit_hk (s : State) (l : Loc) (v : Nat) : (s.edit l v).hk = s.hk := rfl
@[simp] theorem State.edit_age (s : State) (l : Loc) (v : Nat) : (s.edit l v).age = s.age := rfl
@[simp] theorem State.edit_evtNow (s : State) (l : Loc) (v : Nat) : (s.edit l v).evtNow = s.evtNow := rfl
@[simp] theorem State.edit_evtAt (s : State) (l : Loc) (v : Nat) : (s.edit l v).evtAt = s.evtAt := rfl
@[simp] theorem State.edit_pending (s : State) (l : Loc) (v : Nat) : (s.edit l v).pending = s.pending := rfl
@[simp] theorem State.edit_get (s : State) (l : Loc) (v : Nat) (m : Loc) : (s.edit l v).get m = s.get m := rfl
@[simp] theorem State.edit_on (s : State) (l : Loc) (v : Nat) (m : Loc) : (s.edit l v).on m = s.on m := rfl
@[simp] theorem State.edit_mode (s : State) (l : Loc) (v : Nat) : (s.edit l v).mode = s.mode := rfl

/-! ### `State.setBoth` -/

@[simp] theorem State.setBoth_seqs (s : State) (l : Loc) (v : Nat) : (s.setBoth l v).seqs = s.seqs := rfl
@[simp] theorem State.setBoth_copying (s : State) (l : Loc) (v : Nat) : (s.setBoth l v).copying = s.copying := rfl
@[simp] theorem State.setBoth_windows (s : State) (l : Loc) (v : Nat) : (s.setBoth l v).windows = s.windows := rfl
@[simp] theorem State.setBoth_triggers (s : State) (l : Loc) (v : Nat) : (s.setBoth l v).triggers = s.triggers := rfl
@[simp] theorem State.setBoth_words (s : State) (l : Loc) (v : Nat) : (s.setBoth l v).words = s.words := rfl
@[simp] theorem State.setBoth_acks (s : State) (l : Loc) (v : Nat) : (s.setBoth l v).acks = s.acks := rfl
@[simp] theorem State.setBoth_answer (s : State) (l : Loc) (v : Nat) : (s.setBoth l v).answer = s.answer := rfl
@[simp] theorem State.setBoth_latches (s : State) (l : Loc) (v : Nat) : (s.setBoth l v).latches = s.latches := rfl
@[simp] theorem State.setBoth_tb (s : State) (l : Loc) (v : Nat) : (s.setBoth l v).tb = s.tb := rfl
@[simp] theorem State.setBoth_tbRun (s : State) (l : Loc) (v : Nat) : (s.setBoth l v).tbRun = s.tbRun := rfl
@[simp] theorem State.setBoth_ao (s : State) (l : Loc) (v : Nat) : (s.setBoth l v).ao = s.ao := rfl
@[simp] theorem State.setBoth_fv (s : State) (l : Loc) (v : Nat) : (s.setBoth l v).fv = s.fv := rfl
@[simp] theorem State.setBoth_pwr (s : State) (l : Loc) (v : Nat) : (s.setBoth l v).pwr = s.pwr := rfl
@[simp] theorem State.setBoth_clk (s : State) (l : Loc) (v : Nat) : (s.setBoth l v).clk = s.clk := rfl
@[simp] theorem State.setBoth_paths (s : State) (l : Loc) (v : Nat) : (s.setBoth l v).paths = s.paths := rfl
@[simp] theorem State.setBoth_rxs (s : State) (l : Loc) (v : Nat) : (s.setBoth l v).rxs = s.rxs := rfl
@[simp] theorem State.setBoth_txs (s : State) (l : Loc) (v : Nat) : (s.setBoth l v).txs = s.txs := rfl
@[simp] theorem State.setBoth_octs (s : State) (l : Loc) (v : Nat) : (s.setBoth l v).octs = s.octs := rfl
@[simp] theorem State.setBoth_tl (s : State) (l : Loc) (v : Nat) : (s.setBoth l v).tl = s.tl := rfl
@[simp] theorem State.setBoth_bias (s : State) (l : Loc) (v : Nat) : (s.setBoth l v).bias = s.bias := rfl
@[simp] theorem State.setBoth_log (s : State) (l : Loc) (v : Nat) : (s.setBoth l v).log = s.log := rfl
@[simp] theorem State.setBoth_cores (s : State) (l : Loc) (v : Nat) : (s.setBoth l v).cores = s.cores := rfl
@[simp] theorem State.setBoth_evtQ (s : State) (l : Loc) (v : Nat) : (s.setBoth l v).evtQ = s.evtQ := rfl
@[simp] theorem State.setBoth_mem (s : State) (l : Loc) (v : Nat) : (s.setBoth l v).mem = s.mem := rfl
@[simp] theorem State.setBoth_ecc (s : State) (l : Loc) (v : Nat) : (s.setBoth l v).ecc = s.ecc := rfl
@[simp] theorem State.setBoth_eccBase (s : State) (l : Loc) (v : Nat) : (s.setBoth l v).eccBase = s.eccBase := rfl
@[simp] theorem State.setBoth_ceLog (s : State) (l : Loc) (v : Nat) : (s.setBoth l v).ceLog = s.ceLog := rfl
@[simp] theorem State.setBoth_caps (s : State) (l : Loc) (v : Nat) : (s.setBoth l v).caps = s.caps := rfl
@[simp] theorem State.setBoth_dmas (s : State) (l : Loc) (v : Nat) : (s.setBoth l v).dmas = s.dmas := rfl
@[simp] theorem State.setBoth_commits (s : State) (l : Loc) (v : Nat) : (s.setBoth l v).commits = s.commits := rfl
@[simp] theorem State.setBoth_trans (s : State) (l : Loc) (v : Nat) : (s.setBoth l v).trans = s.trans := rfl
@[simp] theorem State.setBoth_tim (s : State) (l : Loc) (v : Nat) : (s.setBoth l v).tim = s.tim := rfl
@[simp] theorem State.setBoth_cum (s : State) (l : Loc) (v : Nat) : (s.setBoth l v).cum = s.cum := rfl
@[simp] theorem State.setBoth_ani (s : State) (l : Loc) (v : Nat) : (s.setBoth l v).ani = s.ani := rfl
@[simp] theorem State.setBoth_beams (s : State) (l : Loc) (v : Nat) : (s.setBoth l v).beams = s.beams := rfl
@[simp] theorem State.setBoth_wts (s : State) (l : Loc) (v : Nat) : (s.setBoth l v).wts = s.wts := rfl
@[simp] theorem State.setBoth_taps (s : State) (l : Loc) (v : Nat) : (s.setBoth l v).taps = s.taps := rfl
@[simp] theorem State.setBoth_strm (s : State) (l : Loc) (v : Nat) : (s.setBoth l v).strm = s.strm := rfl
@[simp] theorem State.setBoth_dpd (s : State) (l : Loc) (v : Nat) : (s.setBoth l v).dpd = s.dpd := rfl
@[simp] theorem State.setBoth_mgmtDown (s : State) (l : Loc) (v : Nat) : (s.setBoth l v).mgmtDown = s.mgmtDown := rfl
@[simp] theorem State.setBoth_cal (s : State) (l : Loc) (v : Nat) : (s.setBoth l v).cal = s.cal := rfl
@[simp] theorem State.setBoth_ret (s : State) (l : Loc) (v : Nat) : (s.setBoth l v).ret = s.ret := rfl
@[simp] theorem State.setBoth_lanes (s : State) (l : Loc) (v : Nat) : (s.setBoth l v).lanes = s.lanes := rfl
@[simp] theorem State.setBoth_erl (s : State) (l : Loc) (v : Nat) : (s.setBoth l v).erl = s.erl := rfl
@[simp] theorem State.setBoth_snd (s : State) (l : Loc) (v : Nat) : (s.setBoth l v).snd = s.snd := rfl
@[simp] theorem State.setBoth_bc (s : State) (l : Loc) (v : Nat) : (s.setBoth l v).bc = s.bc := rfl
@[simp] theorem State.setBoth_sems (s : State) (l : Loc) (v : Nat) : (s.setBoth l v).sems = s.sems := rfl
@[simp] theorem State.setBoth_mgmt (s : State) (l : Loc) (v : Nat) : (s.setBoth l v).mgmt = s.mgmt := rfl
@[simp] theorem State.setBoth_updJobs (s : State) (l : Loc) (v : Nat) : (s.setBoth l v).updJobs = s.updJobs := rfl
@[simp] theorem State.setBoth_otp (s : State) (l : Loc) (v : Nat) : (s.setBoth l v).otp = s.otp := rfl
@[simp] theorem State.setBoth_sec (s : State) (l : Loc) (v : Nat) : (s.setBoth l v).sec = s.sec := rfl
@[simp] theorem State.setBoth_mon (s : State) (l : Loc) (v : Nat) : (s.setBoth l v).mon = s.mon := rfl
@[simp] theorem State.setBoth_bist (s : State) (l : Loc) (v : Nat) : (s.setBoth l v).bist = s.bist := rfl
@[simp] theorem State.setBoth_modes (s : State) (l : Loc) (v : Nat) : (s.setBoth l v).modes = s.modes := rfl
@[simp] theorem State.setBoth_seqAt (s : State) (l : Loc) (v : Nat) : (s.setBoth l v).seqAt = s.seqAt := rfl
@[simp] theorem State.setBoth_seqMod (s : State) (l : Loc) (v : Nat) : (s.setBoth l v).seqMod = s.seqMod := rfl
@[simp] theorem State.setBoth_srst (s : State) (l : Loc) (v : Nat) : (s.setBoth l v).srst = s.srst := rfl
@[simp] theorem State.setBoth_hk (s : State) (l : Loc) (v : Nat) : (s.setBoth l v).hk = s.hk := rfl
@[simp] theorem State.setBoth_age (s : State) (l : Loc) (v : Nat) : (s.setBoth l v).age = s.age := rfl
@[simp] theorem State.setBoth_evtNow (s : State) (l : Loc) (v : Nat) : (s.setBoth l v).evtNow = s.evtNow := rfl
@[simp] theorem State.setBoth_evtAt (s : State) (l : Loc) (v : Nat) : (s.setBoth l v).evtAt = s.evtAt := rfl
@[simp] theorem State.setBoth_pending (s : State) (l : Loc) (v : Nat) : (s.setBoth l v).pending = s.pending := rfl

/-! ### `State.count` -/

@[simp] theorem State.count_bank (s : State) (l : Loc) (k : Nat) : (s.count l k).bank = s.bank := rfl
@[simp] theorem State.count_seqs (s : State) (l : Loc) (k : Nat) : (s.count l k).seqs = s.seqs := rfl
@[simp] theorem State.count_copying (s : State) (l : Loc) (k : Nat) : (s.count l k).copying = s.copying := rfl
@[simp] theorem State.count_windows (s : State) (l : Loc) (k : Nat) : (s.count l k).windows = s.windows := rfl
@[simp] theorem State.count_triggers (s : State) (l : Loc) (k : Nat) : (s.count l k).triggers = s.triggers := rfl
@[simp] theorem State.count_words (s : State) (l : Loc) (k : Nat) : (s.count l k).words = s.words := rfl
@[simp] theorem State.count_acks (s : State) (l : Loc) (k : Nat) : (s.count l k).acks = s.acks := rfl
@[simp] theorem State.count_answer (s : State) (l : Loc) (k : Nat) : (s.count l k).answer = s.answer := rfl
@[simp] theorem State.count_latches (s : State) (l : Loc) (k : Nat) : (s.count l k).latches = s.latches := rfl
@[simp] theorem State.count_tb (s : State) (l : Loc) (k : Nat) : (s.count l k).tb = s.tb := rfl
@[simp] theorem State.count_tbRun (s : State) (l : Loc) (k : Nat) : (s.count l k).tbRun = s.tbRun := rfl
@[simp] theorem State.count_ao (s : State) (l : Loc) (k : Nat) : (s.count l k).ao = s.ao := rfl
@[simp] theorem State.count_fv (s : State) (l : Loc) (k : Nat) : (s.count l k).fv = s.fv := rfl
@[simp] theorem State.count_pwr (s : State) (l : Loc) (k : Nat) : (s.count l k).pwr = s.pwr := rfl
@[simp] theorem State.count_clk (s : State) (l : Loc) (k : Nat) : (s.count l k).clk = s.clk := rfl
@[simp] theorem State.count_paths (s : State) (l : Loc) (k : Nat) : (s.count l k).paths = s.paths := rfl
@[simp] theorem State.count_rxs (s : State) (l : Loc) (k : Nat) : (s.count l k).rxs = s.rxs := rfl
@[simp] theorem State.count_txs (s : State) (l : Loc) (k : Nat) : (s.count l k).txs = s.txs := rfl
@[simp] theorem State.count_octs (s : State) (l : Loc) (k : Nat) : (s.count l k).octs = s.octs := rfl
@[simp] theorem State.count_tl (s : State) (l : Loc) (k : Nat) : (s.count l k).tl = s.tl := rfl
@[simp] theorem State.count_bias (s : State) (l : Loc) (k : Nat) : (s.count l k).bias = s.bias := rfl
@[simp] theorem State.count_log (s : State) (l : Loc) (k : Nat) : (s.count l k).log = s.log := rfl
@[simp] theorem State.count_cores (s : State) (l : Loc) (k : Nat) : (s.count l k).cores = s.cores := rfl
@[simp] theorem State.count_evtQ (s : State) (l : Loc) (k : Nat) : (s.count l k).evtQ = s.evtQ := rfl
@[simp] theorem State.count_mem (s : State) (l : Loc) (k : Nat) : (s.count l k).mem = s.mem := rfl
@[simp] theorem State.count_ecc (s : State) (l : Loc) (k : Nat) : (s.count l k).ecc = s.ecc := rfl
@[simp] theorem State.count_eccBase (s : State) (l : Loc) (k : Nat) : (s.count l k).eccBase = s.eccBase := rfl
@[simp] theorem State.count_ceLog (s : State) (l : Loc) (k : Nat) : (s.count l k).ceLog = s.ceLog := rfl
@[simp] theorem State.count_caps (s : State) (l : Loc) (k : Nat) : (s.count l k).caps = s.caps := rfl
@[simp] theorem State.count_dmas (s : State) (l : Loc) (k : Nat) : (s.count l k).dmas = s.dmas := rfl
@[simp] theorem State.count_commits (s : State) (l : Loc) (k : Nat) : (s.count l k).commits = s.commits := rfl
@[simp] theorem State.count_trans (s : State) (l : Loc) (k : Nat) : (s.count l k).trans = s.trans := rfl
@[simp] theorem State.count_tim (s : State) (l : Loc) (k : Nat) : (s.count l k).tim = s.tim := rfl
@[simp] theorem State.count_cum (s : State) (l : Loc) (k : Nat) : (s.count l k).cum = s.cum := rfl
@[simp] theorem State.count_ani (s : State) (l : Loc) (k : Nat) : (s.count l k).ani = s.ani := rfl
@[simp] theorem State.count_beams (s : State) (l : Loc) (k : Nat) : (s.count l k).beams = s.beams := rfl
@[simp] theorem State.count_wts (s : State) (l : Loc) (k : Nat) : (s.count l k).wts = s.wts := rfl
@[simp] theorem State.count_taps (s : State) (l : Loc) (k : Nat) : (s.count l k).taps = s.taps := rfl
@[simp] theorem State.count_strm (s : State) (l : Loc) (k : Nat) : (s.count l k).strm = s.strm := rfl
@[simp] theorem State.count_dpd (s : State) (l : Loc) (k : Nat) : (s.count l k).dpd = s.dpd := rfl
@[simp] theorem State.count_mgmtDown (s : State) (l : Loc) (k : Nat) : (s.count l k).mgmtDown = s.mgmtDown := rfl
@[simp] theorem State.count_cal (s : State) (l : Loc) (k : Nat) : (s.count l k).cal = s.cal := rfl
@[simp] theorem State.count_ret (s : State) (l : Loc) (k : Nat) : (s.count l k).ret = s.ret := rfl
@[simp] theorem State.count_lanes (s : State) (l : Loc) (k : Nat) : (s.count l k).lanes = s.lanes := rfl
@[simp] theorem State.count_erl (s : State) (l : Loc) (k : Nat) : (s.count l k).erl = s.erl := rfl
@[simp] theorem State.count_snd (s : State) (l : Loc) (k : Nat) : (s.count l k).snd = s.snd := rfl
@[simp] theorem State.count_bc (s : State) (l : Loc) (k : Nat) : (s.count l k).bc = s.bc := rfl
@[simp] theorem State.count_sems (s : State) (l : Loc) (k : Nat) : (s.count l k).sems = s.sems := rfl
@[simp] theorem State.count_mgmt (s : State) (l : Loc) (k : Nat) : (s.count l k).mgmt = s.mgmt := rfl
@[simp] theorem State.count_updJobs (s : State) (l : Loc) (k : Nat) : (s.count l k).updJobs = s.updJobs := rfl
@[simp] theorem State.count_otp (s : State) (l : Loc) (k : Nat) : (s.count l k).otp = s.otp := rfl
@[simp] theorem State.count_sec (s : State) (l : Loc) (k : Nat) : (s.count l k).sec = s.sec := rfl
@[simp] theorem State.count_mon (s : State) (l : Loc) (k : Nat) : (s.count l k).mon = s.mon := rfl
@[simp] theorem State.count_bist (s : State) (l : Loc) (k : Nat) : (s.count l k).bist = s.bist := rfl
@[simp] theorem State.count_modes (s : State) (l : Loc) (k : Nat) : (s.count l k).modes = s.modes := rfl
@[simp] theorem State.count_seqAt (s : State) (l : Loc) (k : Nat) : (s.count l k).seqAt = s.seqAt := rfl
@[simp] theorem State.count_seqMod (s : State) (l : Loc) (k : Nat) : (s.count l k).seqMod = s.seqMod := rfl
@[simp] theorem State.count_srst (s : State) (l : Loc) (k : Nat) : (s.count l k).srst = s.srst := rfl
@[simp] theorem State.count_hk (s : State) (l : Loc) (k : Nat) : (s.count l k).hk = s.hk := rfl
@[simp] theorem State.count_age (s : State) (l : Loc) (k : Nat) : (s.count l k).age = s.age := rfl
@[simp] theorem State.count_evtNow (s : State) (l : Loc) (k : Nat) : (s.count l k).evtNow = s.evtNow := rfl
@[simp] theorem State.count_evtAt (s : State) (l : Loc) (k : Nat) : (s.count l k).evtAt = s.evtAt := rfl
@[simp] theorem State.count_pending (s : State) (l : Loc) (k : Nat) : (s.count l k).pending = s.pending := rfl

/-! ### `State.bump` -/

@[simp] theorem State.bump_bank (s : State) (l : Loc) : (s.bump l).bank = s.bank := rfl
@[simp] theorem State.bump_seqs (s : State) (l : Loc) : (s.bump l).seqs = s.seqs := rfl
@[simp] theorem State.bump_copying (s : State) (l : Loc) : (s.bump l).copying = s.copying := rfl
@[simp] theorem State.bump_windows (s : State) (l : Loc) : (s.bump l).windows = s.windows := rfl
@[simp] theorem State.bump_triggers (s : State) (l : Loc) : (s.bump l).triggers = s.triggers := rfl
@[simp] theorem State.bump_words (s : State) (l : Loc) : (s.bump l).words = s.words := rfl
@[simp] theorem State.bump_acks (s : State) (l : Loc) : (s.bump l).acks = s.acks := rfl
@[simp] theorem State.bump_answer (s : State) (l : Loc) : (s.bump l).answer = s.answer := rfl
@[simp] theorem State.bump_latches (s : State) (l : Loc) : (s.bump l).latches = s.latches := rfl
@[simp] theorem State.bump_tb (s : State) (l : Loc) : (s.bump l).tb = s.tb := rfl
@[simp] theorem State.bump_tbRun (s : State) (l : Loc) : (s.bump l).tbRun = s.tbRun := rfl
@[simp] theorem State.bump_ao (s : State) (l : Loc) : (s.bump l).ao = s.ao := rfl
@[simp] theorem State.bump_fv (s : State) (l : Loc) : (s.bump l).fv = s.fv := rfl
@[simp] theorem State.bump_pwr (s : State) (l : Loc) : (s.bump l).pwr = s.pwr := rfl
@[simp] theorem State.bump_clk (s : State) (l : Loc) : (s.bump l).clk = s.clk := rfl
@[simp] theorem State.bump_paths (s : State) (l : Loc) : (s.bump l).paths = s.paths := rfl
@[simp] theorem State.bump_rxs (s : State) (l : Loc) : (s.bump l).rxs = s.rxs := rfl
@[simp] theorem State.bump_txs (s : State) (l : Loc) : (s.bump l).txs = s.txs := rfl
@[simp] theorem State.bump_octs (s : State) (l : Loc) : (s.bump l).octs = s.octs := rfl
@[simp] theorem State.bump_tl (s : State) (l : Loc) : (s.bump l).tl = s.tl := rfl
@[simp] theorem State.bump_bias (s : State) (l : Loc) : (s.bump l).bias = s.bias := rfl
@[simp] theorem State.bump_log (s : State) (l : Loc) : (s.bump l).log = s.log := rfl
@[simp] theorem State.bump_cores (s : State) (l : Loc) : (s.bump l).cores = s.cores := rfl
@[simp] theorem State.bump_evtQ (s : State) (l : Loc) : (s.bump l).evtQ = s.evtQ := rfl
@[simp] theorem State.bump_mem (s : State) (l : Loc) : (s.bump l).mem = s.mem := rfl
@[simp] theorem State.bump_ecc (s : State) (l : Loc) : (s.bump l).ecc = s.ecc := rfl
@[simp] theorem State.bump_eccBase (s : State) (l : Loc) : (s.bump l).eccBase = s.eccBase := rfl
@[simp] theorem State.bump_ceLog (s : State) (l : Loc) : (s.bump l).ceLog = s.ceLog := rfl
@[simp] theorem State.bump_caps (s : State) (l : Loc) : (s.bump l).caps = s.caps := rfl
@[simp] theorem State.bump_dmas (s : State) (l : Loc) : (s.bump l).dmas = s.dmas := rfl
@[simp] theorem State.bump_commits (s : State) (l : Loc) : (s.bump l).commits = s.commits := rfl
@[simp] theorem State.bump_trans (s : State) (l : Loc) : (s.bump l).trans = s.trans := rfl
@[simp] theorem State.bump_tim (s : State) (l : Loc) : (s.bump l).tim = s.tim := rfl
@[simp] theorem State.bump_cum (s : State) (l : Loc) : (s.bump l).cum = s.cum := rfl
@[simp] theorem State.bump_ani (s : State) (l : Loc) : (s.bump l).ani = s.ani := rfl
@[simp] theorem State.bump_beams (s : State) (l : Loc) : (s.bump l).beams = s.beams := rfl
@[simp] theorem State.bump_wts (s : State) (l : Loc) : (s.bump l).wts = s.wts := rfl
@[simp] theorem State.bump_taps (s : State) (l : Loc) : (s.bump l).taps = s.taps := rfl
@[simp] theorem State.bump_strm (s : State) (l : Loc) : (s.bump l).strm = s.strm := rfl
@[simp] theorem State.bump_dpd (s : State) (l : Loc) : (s.bump l).dpd = s.dpd := rfl
@[simp] theorem State.bump_mgmtDown (s : State) (l : Loc) : (s.bump l).mgmtDown = s.mgmtDown := rfl
@[simp] theorem State.bump_cal (s : State) (l : Loc) : (s.bump l).cal = s.cal := rfl
@[simp] theorem State.bump_ret (s : State) (l : Loc) : (s.bump l).ret = s.ret := rfl
@[simp] theorem State.bump_lanes (s : State) (l : Loc) : (s.bump l).lanes = s.lanes := rfl
@[simp] theorem State.bump_erl (s : State) (l : Loc) : (s.bump l).erl = s.erl := rfl
@[simp] theorem State.bump_snd (s : State) (l : Loc) : (s.bump l).snd = s.snd := rfl
@[simp] theorem State.bump_bc (s : State) (l : Loc) : (s.bump l).bc = s.bc := rfl
@[simp] theorem State.bump_sems (s : State) (l : Loc) : (s.bump l).sems = s.sems := rfl
@[simp] theorem State.bump_mgmt (s : State) (l : Loc) : (s.bump l).mgmt = s.mgmt := rfl
@[simp] theorem State.bump_updJobs (s : State) (l : Loc) : (s.bump l).updJobs = s.updJobs := rfl
@[simp] theorem State.bump_otp (s : State) (l : Loc) : (s.bump l).otp = s.otp := rfl
@[simp] theorem State.bump_sec (s : State) (l : Loc) : (s.bump l).sec = s.sec := rfl
@[simp] theorem State.bump_mon (s : State) (l : Loc) : (s.bump l).mon = s.mon := rfl
@[simp] theorem State.bump_bist (s : State) (l : Loc) : (s.bump l).bist = s.bist := rfl
@[simp] theorem State.bump_modes (s : State) (l : Loc) : (s.bump l).modes = s.modes := rfl
@[simp] theorem State.bump_seqAt (s : State) (l : Loc) : (s.bump l).seqAt = s.seqAt := rfl
@[simp] theorem State.bump_seqMod (s : State) (l : Loc) : (s.bump l).seqMod = s.seqMod := rfl
@[simp] theorem State.bump_srst (s : State) (l : Loc) : (s.bump l).srst = s.srst := rfl
@[simp] theorem State.bump_hk (s : State) (l : Loc) : (s.bump l).hk = s.hk := rfl
@[simp] theorem State.bump_age (s : State) (l : Loc) : (s.bump l).age = s.age := rfl
@[simp] theorem State.bump_evtNow (s : State) (l : Loc) : (s.bump l).evtNow = s.evtNow := rfl
@[simp] theorem State.bump_evtAt (s : State) (l : Loc) : (s.bump l).evtAt = s.evtAt := rfl
@[simp] theorem State.bump_pending (s : State) (l : Loc) : (s.bump l).pending = s.pending := rfl

/-! ### `State.seti` -/

@[simp] theorem State.seti_bank (s : State) (l : Loc) (x : Int) : (s.seti l x).bank = s.bank := rfl
@[simp] theorem State.seti_seqs (s : State) (l : Loc) (x : Int) : (s.seti l x).seqs = s.seqs := rfl
@[simp] theorem State.seti_copying (s : State) (l : Loc) (x : Int) : (s.seti l x).copying = s.copying := rfl
@[simp] theorem State.seti_windows (s : State) (l : Loc) (x : Int) : (s.seti l x).windows = s.windows := rfl
@[simp] theorem State.seti_triggers (s : State) (l : Loc) (x : Int) : (s.seti l x).triggers = s.triggers := rfl
@[simp] theorem State.seti_words (s : State) (l : Loc) (x : Int) : (s.seti l x).words = s.words := rfl
@[simp] theorem State.seti_acks (s : State) (l : Loc) (x : Int) : (s.seti l x).acks = s.acks := rfl
@[simp] theorem State.seti_answer (s : State) (l : Loc) (x : Int) : (s.seti l x).answer = s.answer := rfl
@[simp] theorem State.seti_latches (s : State) (l : Loc) (x : Int) : (s.seti l x).latches = s.latches := rfl
@[simp] theorem State.seti_tb (s : State) (l : Loc) (x : Int) : (s.seti l x).tb = s.tb := rfl
@[simp] theorem State.seti_tbRun (s : State) (l : Loc) (x : Int) : (s.seti l x).tbRun = s.tbRun := rfl
@[simp] theorem State.seti_ao (s : State) (l : Loc) (x : Int) : (s.seti l x).ao = s.ao := rfl
@[simp] theorem State.seti_fv (s : State) (l : Loc) (x : Int) : (s.seti l x).fv = s.fv := rfl
@[simp] theorem State.seti_pwr (s : State) (l : Loc) (x : Int) : (s.seti l x).pwr = s.pwr := rfl
@[simp] theorem State.seti_clk (s : State) (l : Loc) (x : Int) : (s.seti l x).clk = s.clk := rfl
@[simp] theorem State.seti_paths (s : State) (l : Loc) (x : Int) : (s.seti l x).paths = s.paths := rfl
@[simp] theorem State.seti_rxs (s : State) (l : Loc) (x : Int) : (s.seti l x).rxs = s.rxs := rfl
@[simp] theorem State.seti_txs (s : State) (l : Loc) (x : Int) : (s.seti l x).txs = s.txs := rfl
@[simp] theorem State.seti_octs (s : State) (l : Loc) (x : Int) : (s.seti l x).octs = s.octs := rfl
@[simp] theorem State.seti_tl (s : State) (l : Loc) (x : Int) : (s.seti l x).tl = s.tl := rfl
@[simp] theorem State.seti_bias (s : State) (l : Loc) (x : Int) : (s.seti l x).bias = s.bias := rfl
@[simp] theorem State.seti_log (s : State) (l : Loc) (x : Int) : (s.seti l x).log = s.log := rfl
@[simp] theorem State.seti_cores (s : State) (l : Loc) (x : Int) : (s.seti l x).cores = s.cores := rfl
@[simp] theorem State.seti_evtQ (s : State) (l : Loc) (x : Int) : (s.seti l x).evtQ = s.evtQ := rfl
@[simp] theorem State.seti_mem (s : State) (l : Loc) (x : Int) : (s.seti l x).mem = s.mem := rfl
@[simp] theorem State.seti_ecc (s : State) (l : Loc) (x : Int) : (s.seti l x).ecc = s.ecc := rfl
@[simp] theorem State.seti_eccBase (s : State) (l : Loc) (x : Int) : (s.seti l x).eccBase = s.eccBase := rfl
@[simp] theorem State.seti_ceLog (s : State) (l : Loc) (x : Int) : (s.seti l x).ceLog = s.ceLog := rfl
@[simp] theorem State.seti_caps (s : State) (l : Loc) (x : Int) : (s.seti l x).caps = s.caps := rfl
@[simp] theorem State.seti_dmas (s : State) (l : Loc) (x : Int) : (s.seti l x).dmas = s.dmas := rfl
@[simp] theorem State.seti_commits (s : State) (l : Loc) (x : Int) : (s.seti l x).commits = s.commits := rfl
@[simp] theorem State.seti_trans (s : State) (l : Loc) (x : Int) : (s.seti l x).trans = s.trans := rfl
@[simp] theorem State.seti_tim (s : State) (l : Loc) (x : Int) : (s.seti l x).tim = s.tim := rfl
@[simp] theorem State.seti_cum (s : State) (l : Loc) (x : Int) : (s.seti l x).cum = s.cum := rfl
@[simp] theorem State.seti_ani (s : State) (l : Loc) (x : Int) : (s.seti l x).ani = s.ani := rfl
@[simp] theorem State.seti_beams (s : State) (l : Loc) (x : Int) : (s.seti l x).beams = s.beams := rfl
@[simp] theorem State.seti_wts (s : State) (l : Loc) (x : Int) : (s.seti l x).wts = s.wts := rfl
@[simp] theorem State.seti_taps (s : State) (l : Loc) (x : Int) : (s.seti l x).taps = s.taps := rfl
@[simp] theorem State.seti_strm (s : State) (l : Loc) (x : Int) : (s.seti l x).strm = s.strm := rfl
@[simp] theorem State.seti_dpd (s : State) (l : Loc) (x : Int) : (s.seti l x).dpd = s.dpd := rfl
@[simp] theorem State.seti_mgmtDown (s : State) (l : Loc) (x : Int) : (s.seti l x).mgmtDown = s.mgmtDown := rfl
@[simp] theorem State.seti_cal (s : State) (l : Loc) (x : Int) : (s.seti l x).cal = s.cal := rfl
@[simp] theorem State.seti_ret (s : State) (l : Loc) (x : Int) : (s.seti l x).ret = s.ret := rfl
@[simp] theorem State.seti_lanes (s : State) (l : Loc) (x : Int) : (s.seti l x).lanes = s.lanes := rfl
@[simp] theorem State.seti_erl (s : State) (l : Loc) (x : Int) : (s.seti l x).erl = s.erl := rfl
@[simp] theorem State.seti_snd (s : State) (l : Loc) (x : Int) : (s.seti l x).snd = s.snd := rfl
@[simp] theorem State.seti_bc (s : State) (l : Loc) (x : Int) : (s.seti l x).bc = s.bc := rfl
@[simp] theorem State.seti_sems (s : State) (l : Loc) (x : Int) : (s.seti l x).sems = s.sems := rfl
@[simp] theorem State.seti_mgmt (s : State) (l : Loc) (x : Int) : (s.seti l x).mgmt = s.mgmt := rfl
@[simp] theorem State.seti_updJobs (s : State) (l : Loc) (x : Int) : (s.seti l x).updJobs = s.updJobs := rfl
@[simp] theorem State.seti_otp (s : State) (l : Loc) (x : Int) : (s.seti l x).otp = s.otp := rfl
@[simp] theorem State.seti_sec (s : State) (l : Loc) (x : Int) : (s.seti l x).sec = s.sec := rfl
@[simp] theorem State.seti_mon (s : State) (l : Loc) (x : Int) : (s.seti l x).mon = s.mon := rfl
@[simp] theorem State.seti_bist (s : State) (l : Loc) (x : Int) : (s.seti l x).bist = s.bist := rfl
@[simp] theorem State.seti_modes (s : State) (l : Loc) (x : Int) : (s.seti l x).modes = s.modes := rfl
@[simp] theorem State.seti_seqAt (s : State) (l : Loc) (x : Int) : (s.seti l x).seqAt = s.seqAt := rfl
@[simp] theorem State.seti_seqMod (s : State) (l : Loc) (x : Int) : (s.seti l x).seqMod = s.seqMod := rfl
@[simp] theorem State.seti_srst (s : State) (l : Loc) (x : Int) : (s.seti l x).srst = s.srst := rfl
@[simp] theorem State.seti_hk (s : State) (l : Loc) (x : Int) : (s.seti l x).hk = s.hk := rfl
@[simp] theorem State.seti_age (s : State) (l : Loc) (x : Int) : (s.seti l x).age = s.age := rfl
@[simp] theorem State.seti_evtNow (s : State) (l : Loc) (x : Int) : (s.seti l x).evtNow = s.evtNow := rfl
@[simp] theorem State.seti_evtAt (s : State) (l : Loc) (x : Int) : (s.seti l x).evtAt = s.evtAt := rfl
@[simp] theorem State.seti_pending (s : State) (l : Loc) (x : Int) : (s.seti l x).pending = s.pending := rfl

/-! ### `State.set64` -/

@[simp] theorem State.set64_bank (s : State) (lo hi : Loc) (v : Nat) : (s.set64 lo hi v).bank = s.bank := rfl
@[simp] theorem State.set64_seqs (s : State) (lo hi : Loc) (v : Nat) : (s.set64 lo hi v).seqs = s.seqs := rfl
@[simp] theorem State.set64_copying (s : State) (lo hi : Loc) (v : Nat) : (s.set64 lo hi v).copying = s.copying := rfl
@[simp] theorem State.set64_windows (s : State) (lo hi : Loc) (v : Nat) : (s.set64 lo hi v).windows = s.windows := rfl
@[simp] theorem State.set64_triggers (s : State) (lo hi : Loc) (v : Nat) : (s.set64 lo hi v).triggers = s.triggers := rfl
@[simp] theorem State.set64_words (s : State) (lo hi : Loc) (v : Nat) : (s.set64 lo hi v).words = s.words := rfl
@[simp] theorem State.set64_acks (s : State) (lo hi : Loc) (v : Nat) : (s.set64 lo hi v).acks = s.acks := rfl
@[simp] theorem State.set64_answer (s : State) (lo hi : Loc) (v : Nat) : (s.set64 lo hi v).answer = s.answer := rfl
@[simp] theorem State.set64_latches (s : State) (lo hi : Loc) (v : Nat) : (s.set64 lo hi v).latches = s.latches := rfl
@[simp] theorem State.set64_tb (s : State) (lo hi : Loc) (v : Nat) : (s.set64 lo hi v).tb = s.tb := rfl
@[simp] theorem State.set64_tbRun (s : State) (lo hi : Loc) (v : Nat) : (s.set64 lo hi v).tbRun = s.tbRun := rfl
@[simp] theorem State.set64_ao (s : State) (lo hi : Loc) (v : Nat) : (s.set64 lo hi v).ao = s.ao := rfl
@[simp] theorem State.set64_fv (s : State) (lo hi : Loc) (v : Nat) : (s.set64 lo hi v).fv = s.fv := rfl
@[simp] theorem State.set64_pwr (s : State) (lo hi : Loc) (v : Nat) : (s.set64 lo hi v).pwr = s.pwr := rfl
@[simp] theorem State.set64_clk (s : State) (lo hi : Loc) (v : Nat) : (s.set64 lo hi v).clk = s.clk := rfl
@[simp] theorem State.set64_paths (s : State) (lo hi : Loc) (v : Nat) : (s.set64 lo hi v).paths = s.paths := rfl
@[simp] theorem State.set64_rxs (s : State) (lo hi : Loc) (v : Nat) : (s.set64 lo hi v).rxs = s.rxs := rfl
@[simp] theorem State.set64_txs (s : State) (lo hi : Loc) (v : Nat) : (s.set64 lo hi v).txs = s.txs := rfl
@[simp] theorem State.set64_octs (s : State) (lo hi : Loc) (v : Nat) : (s.set64 lo hi v).octs = s.octs := rfl
@[simp] theorem State.set64_tl (s : State) (lo hi : Loc) (v : Nat) : (s.set64 lo hi v).tl = s.tl := rfl
@[simp] theorem State.set64_bias (s : State) (lo hi : Loc) (v : Nat) : (s.set64 lo hi v).bias = s.bias := rfl
@[simp] theorem State.set64_log (s : State) (lo hi : Loc) (v : Nat) : (s.set64 lo hi v).log = s.log := rfl
@[simp] theorem State.set64_cores (s : State) (lo hi : Loc) (v : Nat) : (s.set64 lo hi v).cores = s.cores := rfl
@[simp] theorem State.set64_evtQ (s : State) (lo hi : Loc) (v : Nat) : (s.set64 lo hi v).evtQ = s.evtQ := rfl
@[simp] theorem State.set64_mem (s : State) (lo hi : Loc) (v : Nat) : (s.set64 lo hi v).mem = s.mem := rfl
@[simp] theorem State.set64_ecc (s : State) (lo hi : Loc) (v : Nat) : (s.set64 lo hi v).ecc = s.ecc := rfl
@[simp] theorem State.set64_eccBase (s : State) (lo hi : Loc) (v : Nat) : (s.set64 lo hi v).eccBase = s.eccBase := rfl
@[simp] theorem State.set64_ceLog (s : State) (lo hi : Loc) (v : Nat) : (s.set64 lo hi v).ceLog = s.ceLog := rfl
@[simp] theorem State.set64_caps (s : State) (lo hi : Loc) (v : Nat) : (s.set64 lo hi v).caps = s.caps := rfl
@[simp] theorem State.set64_dmas (s : State) (lo hi : Loc) (v : Nat) : (s.set64 lo hi v).dmas = s.dmas := rfl
@[simp] theorem State.set64_commits (s : State) (lo hi : Loc) (v : Nat) : (s.set64 lo hi v).commits = s.commits := rfl
@[simp] theorem State.set64_trans (s : State) (lo hi : Loc) (v : Nat) : (s.set64 lo hi v).trans = s.trans := rfl
@[simp] theorem State.set64_tim (s : State) (lo hi : Loc) (v : Nat) : (s.set64 lo hi v).tim = s.tim := rfl
@[simp] theorem State.set64_cum (s : State) (lo hi : Loc) (v : Nat) : (s.set64 lo hi v).cum = s.cum := rfl
@[simp] theorem State.set64_ani (s : State) (lo hi : Loc) (v : Nat) : (s.set64 lo hi v).ani = s.ani := rfl
@[simp] theorem State.set64_beams (s : State) (lo hi : Loc) (v : Nat) : (s.set64 lo hi v).beams = s.beams := rfl
@[simp] theorem State.set64_wts (s : State) (lo hi : Loc) (v : Nat) : (s.set64 lo hi v).wts = s.wts := rfl
@[simp] theorem State.set64_taps (s : State) (lo hi : Loc) (v : Nat) : (s.set64 lo hi v).taps = s.taps := rfl
@[simp] theorem State.set64_strm (s : State) (lo hi : Loc) (v : Nat) : (s.set64 lo hi v).strm = s.strm := rfl
@[simp] theorem State.set64_dpd (s : State) (lo hi : Loc) (v : Nat) : (s.set64 lo hi v).dpd = s.dpd := rfl
@[simp] theorem State.set64_mgmtDown (s : State) (lo hi : Loc) (v : Nat) : (s.set64 lo hi v).mgmtDown = s.mgmtDown := rfl
@[simp] theorem State.set64_cal (s : State) (lo hi : Loc) (v : Nat) : (s.set64 lo hi v).cal = s.cal := rfl
@[simp] theorem State.set64_ret (s : State) (lo hi : Loc) (v : Nat) : (s.set64 lo hi v).ret = s.ret := rfl
@[simp] theorem State.set64_lanes (s : State) (lo hi : Loc) (v : Nat) : (s.set64 lo hi v).lanes = s.lanes := rfl
@[simp] theorem State.set64_erl (s : State) (lo hi : Loc) (v : Nat) : (s.set64 lo hi v).erl = s.erl := rfl
@[simp] theorem State.set64_snd (s : State) (lo hi : Loc) (v : Nat) : (s.set64 lo hi v).snd = s.snd := rfl
@[simp] theorem State.set64_bc (s : State) (lo hi : Loc) (v : Nat) : (s.set64 lo hi v).bc = s.bc := rfl
@[simp] theorem State.set64_sems (s : State) (lo hi : Loc) (v : Nat) : (s.set64 lo hi v).sems = s.sems := rfl
@[simp] theorem State.set64_mgmt (s : State) (lo hi : Loc) (v : Nat) : (s.set64 lo hi v).mgmt = s.mgmt := rfl
@[simp] theorem State.set64_updJobs (s : State) (lo hi : Loc) (v : Nat) : (s.set64 lo hi v).updJobs = s.updJobs := rfl
@[simp] theorem State.set64_otp (s : State) (lo hi : Loc) (v : Nat) : (s.set64 lo hi v).otp = s.otp := rfl
@[simp] theorem State.set64_sec (s : State) (lo hi : Loc) (v : Nat) : (s.set64 lo hi v).sec = s.sec := rfl
@[simp] theorem State.set64_mon (s : State) (lo hi : Loc) (v : Nat) : (s.set64 lo hi v).mon = s.mon := rfl
@[simp] theorem State.set64_bist (s : State) (lo hi : Loc) (v : Nat) : (s.set64 lo hi v).bist = s.bist := rfl
@[simp] theorem State.set64_modes (s : State) (lo hi : Loc) (v : Nat) : (s.set64 lo hi v).modes = s.modes := rfl
@[simp] theorem State.set64_seqAt (s : State) (lo hi : Loc) (v : Nat) : (s.set64 lo hi v).seqAt = s.seqAt := rfl
@[simp] theorem State.set64_seqMod (s : State) (lo hi : Loc) (v : Nat) : (s.set64 lo hi v).seqMod = s.seqMod := rfl
@[simp] theorem State.set64_srst (s : State) (lo hi : Loc) (v : Nat) : (s.set64 lo hi v).srst = s.srst := rfl
@[simp] theorem State.set64_hk (s : State) (lo hi : Loc) (v : Nat) : (s.set64 lo hi v).hk = s.hk := rfl
@[simp] theorem State.set64_age (s : State) (lo hi : Loc) (v : Nat) : (s.set64 lo hi v).age = s.age := rfl
@[simp] theorem State.set64_evtNow (s : State) (lo hi : Loc) (v : Nat) : (s.set64 lo hi v).evtNow = s.evtNow := rfl
@[simp] theorem State.set64_evtAt (s : State) (lo hi : Loc) (v : Nat) : (s.set64 lo hi v).evtAt = s.evtAt := rfl
@[simp] theorem State.set64_pending (s : State) (lo hi : Loc) (v : Nat) : (s.set64 lo hi v).pending = s.pending := rfl

/-! ### `State.setByte` -/

@[simp] theorem State.setByte_regs (s : State) (a v : Nat) : (s.setByte a v).regs = s.regs := rfl
@[simp] theorem State.setByte_bank (s : State) (a v : Nat) : (s.setByte a v).bank = s.bank := rfl
@[simp] theorem State.setByte_seqs (s : State) (a v : Nat) : (s.setByte a v).seqs = s.seqs := rfl
@[simp] theorem State.setByte_copying (s : State) (a v : Nat) : (s.setByte a v).copying = s.copying := rfl
@[simp] theorem State.setByte_windows (s : State) (a v : Nat) : (s.setByte a v).windows = s.windows := rfl
@[simp] theorem State.setByte_triggers (s : State) (a v : Nat) : (s.setByte a v).triggers = s.triggers := rfl
@[simp] theorem State.setByte_words (s : State) (a v : Nat) : (s.setByte a v).words = s.words := rfl
@[simp] theorem State.setByte_acks (s : State) (a v : Nat) : (s.setByte a v).acks = s.acks := rfl
@[simp] theorem State.setByte_answer (s : State) (a v : Nat) : (s.setByte a v).answer = s.answer := rfl
@[simp] theorem State.setByte_latches (s : State) (a v : Nat) : (s.setByte a v).latches = s.latches := rfl
@[simp] theorem State.setByte_tb (s : State) (a v : Nat) : (s.setByte a v).tb = s.tb := rfl
@[simp] theorem State.setByte_tbRun (s : State) (a v : Nat) : (s.setByte a v).tbRun = s.tbRun := rfl
@[simp] theorem State.setByte_ao (s : State) (a v : Nat) : (s.setByte a v).ao = s.ao := rfl
@[simp] theorem State.setByte_fv (s : State) (a v : Nat) : (s.setByte a v).fv = s.fv := rfl
@[simp] theorem State.setByte_pwr (s : State) (a v : Nat) : (s.setByte a v).pwr = s.pwr := rfl
@[simp] theorem State.setByte_clk (s : State) (a v : Nat) : (s.setByte a v).clk = s.clk := rfl
@[simp] theorem State.setByte_paths (s : State) (a v : Nat) : (s.setByte a v).paths = s.paths := rfl
@[simp] theorem State.setByte_rxs (s : State) (a v : Nat) : (s.setByte a v).rxs = s.rxs := rfl
@[simp] theorem State.setByte_txs (s : State) (a v : Nat) : (s.setByte a v).txs = s.txs := rfl
@[simp] theorem State.setByte_octs (s : State) (a v : Nat) : (s.setByte a v).octs = s.octs := rfl
@[simp] theorem State.setByte_tl (s : State) (a v : Nat) : (s.setByte a v).tl = s.tl := rfl
@[simp] theorem State.setByte_bias (s : State) (a v : Nat) : (s.setByte a v).bias = s.bias := rfl
@[simp] theorem State.setByte_log (s : State) (a v : Nat) : (s.setByte a v).log = s.log := rfl
@[simp] theorem State.setByte_cores (s : State) (a v : Nat) : (s.setByte a v).cores = s.cores := rfl
@[simp] theorem State.setByte_evtQ (s : State) (a v : Nat) : (s.setByte a v).evtQ = s.evtQ := rfl
@[simp] theorem State.setByte_ecc (s : State) (a v : Nat) : (s.setByte a v).ecc = s.ecc := rfl
@[simp] theorem State.setByte_eccBase (s : State) (a v : Nat) : (s.setByte a v).eccBase = s.eccBase := rfl
@[simp] theorem State.setByte_ceLog (s : State) (a v : Nat) : (s.setByte a v).ceLog = s.ceLog := rfl
@[simp] theorem State.setByte_caps (s : State) (a v : Nat) : (s.setByte a v).caps = s.caps := rfl
@[simp] theorem State.setByte_dmas (s : State) (a v : Nat) : (s.setByte a v).dmas = s.dmas := rfl
@[simp] theorem State.setByte_commits (s : State) (a v : Nat) : (s.setByte a v).commits = s.commits := rfl
@[simp] theorem State.setByte_trans (s : State) (a v : Nat) : (s.setByte a v).trans = s.trans := rfl
@[simp] theorem State.setByte_tim (s : State) (a v : Nat) : (s.setByte a v).tim = s.tim := rfl
@[simp] theorem State.setByte_cum (s : State) (a v : Nat) : (s.setByte a v).cum = s.cum := rfl
@[simp] theorem State.setByte_ani (s : State) (a v : Nat) : (s.setByte a v).ani = s.ani := rfl
@[simp] theorem State.setByte_beams (s : State) (a v : Nat) : (s.setByte a v).beams = s.beams := rfl
@[simp] theorem State.setByte_wts (s : State) (a v : Nat) : (s.setByte a v).wts = s.wts := rfl
@[simp] theorem State.setByte_taps (s : State) (a v : Nat) : (s.setByte a v).taps = s.taps := rfl
@[simp] theorem State.setByte_strm (s : State) (a v : Nat) : (s.setByte a v).strm = s.strm := rfl
@[simp] theorem State.setByte_dpd (s : State) (a v : Nat) : (s.setByte a v).dpd = s.dpd := rfl
@[simp] theorem State.setByte_mgmtDown (s : State) (a v : Nat) : (s.setByte a v).mgmtDown = s.mgmtDown := rfl
@[simp] theorem State.setByte_cal (s : State) (a v : Nat) : (s.setByte a v).cal = s.cal := rfl
@[simp] theorem State.setByte_ret (s : State) (a v : Nat) : (s.setByte a v).ret = s.ret := rfl
@[simp] theorem State.setByte_lanes (s : State) (a v : Nat) : (s.setByte a v).lanes = s.lanes := rfl
@[simp] theorem State.setByte_erl (s : State) (a v : Nat) : (s.setByte a v).erl = s.erl := rfl
@[simp] theorem State.setByte_snd (s : State) (a v : Nat) : (s.setByte a v).snd = s.snd := rfl
@[simp] theorem State.setByte_bc (s : State) (a v : Nat) : (s.setByte a v).bc = s.bc := rfl
@[simp] theorem State.setByte_sems (s : State) (a v : Nat) : (s.setByte a v).sems = s.sems := rfl
@[simp] theorem State.setByte_mgmt (s : State) (a v : Nat) : (s.setByte a v).mgmt = s.mgmt := rfl
@[simp] theorem State.setByte_updJobs (s : State) (a v : Nat) : (s.setByte a v).updJobs = s.updJobs := rfl
@[simp] theorem State.setByte_otp (s : State) (a v : Nat) : (s.setByte a v).otp = s.otp := rfl
@[simp] theorem State.setByte_sec (s : State) (a v : Nat) : (s.setByte a v).sec = s.sec := rfl
@[simp] theorem State.setByte_mon (s : State) (a v : Nat) : (s.setByte a v).mon = s.mon := rfl
@[simp] theorem State.setByte_bist (s : State) (a v : Nat) : (s.setByte a v).bist = s.bist := rfl
@[simp] theorem State.setByte_modes (s : State) (a v : Nat) : (s.setByte a v).modes = s.modes := rfl
@[simp] theorem State.setByte_seqAt (s : State) (a v : Nat) : (s.setByte a v).seqAt = s.seqAt := rfl
@[simp] theorem State.setByte_seqMod (s : State) (a v : Nat) : (s.setByte a v).seqMod = s.seqMod := rfl
@[simp] theorem State.setByte_srst (s : State) (a v : Nat) : (s.setByte a v).srst = s.srst := rfl
@[simp] theorem State.setByte_hk (s : State) (a v : Nat) : (s.setByte a v).hk = s.hk := rfl
@[simp] theorem State.setByte_age (s : State) (a v : Nat) : (s.setByte a v).age = s.age := rfl
@[simp] theorem State.setByte_evtNow (s : State) (a v : Nat) : (s.setByte a v).evtNow = s.evtNow := rfl
@[simp] theorem State.setByte_evtAt (s : State) (a v : Nat) : (s.setByte a v).evtAt = s.evtAt := rfl
@[simp] theorem State.setByte_pending (s : State) (a v : Nat) : (s.setByte a v).pending = s.pending := rfl
@[simp] theorem State.setByte_get (s : State) (a v : Nat) (m : Loc) : (s.setByte a v).get m = s.get m := rfl
@[simp] theorem State.setByte_on (s : State) (a v : Nat) (m : Loc) : (s.setByte a v).on m = s.on m := rfl
@[simp] theorem State.setByte_mode (s : State) (a v : Nat) : (s.setByte a v).mode = s.mode := rfl
@[simp] theorem State.setByte_inactive (s : State) (a v : Nat) (m : Loc) : (s.setByte a v).inactive m = s.inactive m := rfl

/-! ### `State.setEcc` -/

@[simp] theorem State.setEcc_regs (s : State) (j i v : Nat) : (s.setEcc j i v).regs = s.regs := rfl
@[simp] theorem State.setEcc_bank (s : State) (j i v : Nat) : (s.setEcc j i v).bank = s.bank := rfl
@[simp] theorem State.setEcc_seqs (s : State) (j i v : Nat) : (s.setEcc j i v).seqs = s.seqs := rfl
@[simp] theorem State.setEcc_copying (s : State) (j i v : Nat) : (s.setEcc j i v).copying = s.copying := rfl
@[simp] theorem State.setEcc_windows (s : State) (j i v : Nat) : (s.setEcc j i v).windows = s.windows := rfl
@[simp] theorem State.setEcc_triggers (s : State) (j i v : Nat) : (s.setEcc j i v).triggers = s.triggers := rfl
@[simp] theorem State.setEcc_words (s : State) (j i v : Nat) : (s.setEcc j i v).words = s.words := rfl
@[simp] theorem State.setEcc_acks (s : State) (j i v : Nat) : (s.setEcc j i v).acks = s.acks := rfl
@[simp] theorem State.setEcc_answer (s : State) (j i v : Nat) : (s.setEcc j i v).answer = s.answer := rfl
@[simp] theorem State.setEcc_latches (s : State) (j i v : Nat) : (s.setEcc j i v).latches = s.latches := rfl
@[simp] theorem State.setEcc_tb (s : State) (j i v : Nat) : (s.setEcc j i v).tb = s.tb := rfl
@[simp] theorem State.setEcc_tbRun (s : State) (j i v : Nat) : (s.setEcc j i v).tbRun = s.tbRun := rfl
@[simp] theorem State.setEcc_ao (s : State) (j i v : Nat) : (s.setEcc j i v).ao = s.ao := rfl
@[simp] theorem State.setEcc_fv (s : State) (j i v : Nat) : (s.setEcc j i v).fv = s.fv := rfl
@[simp] theorem State.setEcc_pwr (s : State) (j i v : Nat) : (s.setEcc j i v).pwr = s.pwr := rfl
@[simp] theorem State.setEcc_clk (s : State) (j i v : Nat) : (s.setEcc j i v).clk = s.clk := rfl
@[simp] theorem State.setEcc_paths (s : State) (j i v : Nat) : (s.setEcc j i v).paths = s.paths := rfl
@[simp] theorem State.setEcc_rxs (s : State) (j i v : Nat) : (s.setEcc j i v).rxs = s.rxs := rfl
@[simp] theorem State.setEcc_txs (s : State) (j i v : Nat) : (s.setEcc j i v).txs = s.txs := rfl
@[simp] theorem State.setEcc_octs (s : State) (j i v : Nat) : (s.setEcc j i v).octs = s.octs := rfl
@[simp] theorem State.setEcc_tl (s : State) (j i v : Nat) : (s.setEcc j i v).tl = s.tl := rfl
@[simp] theorem State.setEcc_bias (s : State) (j i v : Nat) : (s.setEcc j i v).bias = s.bias := rfl
@[simp] theorem State.setEcc_log (s : State) (j i v : Nat) : (s.setEcc j i v).log = s.log := rfl
@[simp] theorem State.setEcc_cores (s : State) (j i v : Nat) : (s.setEcc j i v).cores = s.cores := rfl
@[simp] theorem State.setEcc_evtQ (s : State) (j i v : Nat) : (s.setEcc j i v).evtQ = s.evtQ := rfl
@[simp] theorem State.setEcc_mem (s : State) (j i v : Nat) : (s.setEcc j i v).mem = s.mem := rfl
@[simp] theorem State.setEcc_eccBase (s : State) (j i v : Nat) : (s.setEcc j i v).eccBase = s.eccBase := rfl
@[simp] theorem State.setEcc_ceLog (s : State) (j i v : Nat) : (s.setEcc j i v).ceLog = s.ceLog := rfl
@[simp] theorem State.setEcc_caps (s : State) (j i v : Nat) : (s.setEcc j i v).caps = s.caps := rfl
@[simp] theorem State.setEcc_dmas (s : State) (j i v : Nat) : (s.setEcc j i v).dmas = s.dmas := rfl
@[simp] theorem State.setEcc_commits (s : State) (j i v : Nat) : (s.setEcc j i v).commits = s.commits := rfl
@[simp] theorem State.setEcc_trans (s : State) (j i v : Nat) : (s.setEcc j i v).trans = s.trans := rfl
@[simp] theorem State.setEcc_tim (s : State) (j i v : Nat) : (s.setEcc j i v).tim = s.tim := rfl
@[simp] theorem State.setEcc_cum (s : State) (j i v : Nat) : (s.setEcc j i v).cum = s.cum := rfl
@[simp] theorem State.setEcc_ani (s : State) (j i v : Nat) : (s.setEcc j i v).ani = s.ani := rfl
@[simp] theorem State.setEcc_beams (s : State) (j i v : Nat) : (s.setEcc j i v).beams = s.beams := rfl
@[simp] theorem State.setEcc_wts (s : State) (j i v : Nat) : (s.setEcc j i v).wts = s.wts := rfl
@[simp] theorem State.setEcc_taps (s : State) (j i v : Nat) : (s.setEcc j i v).taps = s.taps := rfl
@[simp] theorem State.setEcc_strm (s : State) (j i v : Nat) : (s.setEcc j i v).strm = s.strm := rfl
@[simp] theorem State.setEcc_dpd (s : State) (j i v : Nat) : (s.setEcc j i v).dpd = s.dpd := rfl
@[simp] theorem State.setEcc_mgmtDown (s : State) (j i v : Nat) : (s.setEcc j i v).mgmtDown = s.mgmtDown := rfl
@[simp] theorem State.setEcc_cal (s : State) (j i v : Nat) : (s.setEcc j i v).cal = s.cal := rfl
@[simp] theorem State.setEcc_ret (s : State) (j i v : Nat) : (s.setEcc j i v).ret = s.ret := rfl
@[simp] theorem State.setEcc_lanes (s : State) (j i v : Nat) : (s.setEcc j i v).lanes = s.lanes := rfl
@[simp] theorem State.setEcc_erl (s : State) (j i v : Nat) : (s.setEcc j i v).erl = s.erl := rfl
@[simp] theorem State.setEcc_snd (s : State) (j i v : Nat) : (s.setEcc j i v).snd = s.snd := rfl
@[simp] theorem State.setEcc_bc (s : State) (j i v : Nat) : (s.setEcc j i v).bc = s.bc := rfl
@[simp] theorem State.setEcc_sems (s : State) (j i v : Nat) : (s.setEcc j i v).sems = s.sems := rfl
@[simp] theorem State.setEcc_mgmt (s : State) (j i v : Nat) : (s.setEcc j i v).mgmt = s.mgmt := rfl
@[simp] theorem State.setEcc_updJobs (s : State) (j i v : Nat) : (s.setEcc j i v).updJobs = s.updJobs := rfl
@[simp] theorem State.setEcc_otp (s : State) (j i v : Nat) : (s.setEcc j i v).otp = s.otp := rfl
@[simp] theorem State.setEcc_sec (s : State) (j i v : Nat) : (s.setEcc j i v).sec = s.sec := rfl
@[simp] theorem State.setEcc_mon (s : State) (j i v : Nat) : (s.setEcc j i v).mon = s.mon := rfl
@[simp] theorem State.setEcc_bist (s : State) (j i v : Nat) : (s.setEcc j i v).bist = s.bist := rfl
@[simp] theorem State.setEcc_modes (s : State) (j i v : Nat) : (s.setEcc j i v).modes = s.modes := rfl
@[simp] theorem State.setEcc_seqAt (s : State) (j i v : Nat) : (s.setEcc j i v).seqAt = s.seqAt := rfl
@[simp] theorem State.setEcc_seqMod (s : State) (j i v : Nat) : (s.setEcc j i v).seqMod = s.seqMod := rfl
@[simp] theorem State.setEcc_srst (s : State) (j i v : Nat) : (s.setEcc j i v).srst = s.srst := rfl
@[simp] theorem State.setEcc_hk (s : State) (j i v : Nat) : (s.setEcc j i v).hk = s.hk := rfl
@[simp] theorem State.setEcc_age (s : State) (j i v : Nat) : (s.setEcc j i v).age = s.age := rfl
@[simp] theorem State.setEcc_evtNow (s : State) (j i v : Nat) : (s.setEcc j i v).evtNow = s.evtNow := rfl
@[simp] theorem State.setEcc_evtAt (s : State) (j i v : Nat) : (s.setEcc j i v).evtAt = s.evtAt := rfl
@[simp] theorem State.setEcc_pending (s : State) (j i v : Nat) : (s.setEcc j i v).pending = s.pending := rfl
@[simp] theorem State.setEcc_get (s : State) (j i v : Nat) (m : Loc) : (s.setEcc j i v).get m = s.get m := rfl
@[simp] theorem State.setEcc_on (s : State) (j i v : Nat) (m : Loc) : (s.setEcc j i v).on m = s.on m := rfl
@[simp] theorem State.setEcc_mode (s : State) (j i v : Nat) : (s.setEcc j i v).mode = s.mode := rfl
@[simp] theorem State.setEcc_inactive (s : State) (j i v : Nat) (m : Loc) : (s.setEcc j i v).inactive m = s.inactive m := rfl

/-! ### `State.setLoop` -/

@[simp] theorem State.setLoop_regs (s : State) (k : Nat) (p : LoopPhase) : (s.setLoop k p).regs = s.regs := rfl
@[simp] theorem State.setLoop_bank (s : State) (k : Nat) (p : LoopPhase) : (s.setLoop k p).bank = s.bank := rfl
@[simp] theorem State.setLoop_seqs (s : State) (k : Nat) (p : LoopPhase) : (s.setLoop k p).seqs = s.seqs := rfl
@[simp] theorem State.setLoop_copying (s : State) (k : Nat) (p : LoopPhase) : (s.setLoop k p).copying = s.copying := rfl
@[simp] theorem State.setLoop_windows (s : State) (k : Nat) (p : LoopPhase) : (s.setLoop k p).windows = s.windows := rfl
@[simp] theorem State.setLoop_triggers (s : State) (k : Nat) (p : LoopPhase) : (s.setLoop k p).triggers = s.triggers := rfl
@[simp] theorem State.setLoop_words (s : State) (k : Nat) (p : LoopPhase) : (s.setLoop k p).words = s.words := rfl
@[simp] theorem State.setLoop_acks (s : State) (k : Nat) (p : LoopPhase) : (s.setLoop k p).acks = s.acks := rfl
@[simp] theorem State.setLoop_answer (s : State) (k : Nat) (p : LoopPhase) : (s.setLoop k p).answer = s.answer := rfl
@[simp] theorem State.setLoop_latches (s : State) (k : Nat) (p : LoopPhase) : (s.setLoop k p).latches = s.latches := rfl
@[simp] theorem State.setLoop_tb (s : State) (k : Nat) (p : LoopPhase) : (s.setLoop k p).tb = s.tb := rfl
@[simp] theorem State.setLoop_tbRun (s : State) (k : Nat) (p : LoopPhase) : (s.setLoop k p).tbRun = s.tbRun := rfl
@[simp] theorem State.setLoop_ao (s : State) (k : Nat) (p : LoopPhase) : (s.setLoop k p).ao = s.ao := rfl
@[simp] theorem State.setLoop_fv (s : State) (k : Nat) (p : LoopPhase) : (s.setLoop k p).fv = s.fv := rfl
@[simp] theorem State.setLoop_pwr (s : State) (k : Nat) (p : LoopPhase) : (s.setLoop k p).pwr = s.pwr := rfl
@[simp] theorem State.setLoop_paths (s : State) (k : Nat) (p : LoopPhase) : (s.setLoop k p).paths = s.paths := rfl
@[simp] theorem State.setLoop_rxs (s : State) (k : Nat) (p : LoopPhase) : (s.setLoop k p).rxs = s.rxs := rfl
@[simp] theorem State.setLoop_txs (s : State) (k : Nat) (p : LoopPhase) : (s.setLoop k p).txs = s.txs := rfl
@[simp] theorem State.setLoop_octs (s : State) (k : Nat) (p : LoopPhase) : (s.setLoop k p).octs = s.octs := rfl
@[simp] theorem State.setLoop_tl (s : State) (k : Nat) (p : LoopPhase) : (s.setLoop k p).tl = s.tl := rfl
@[simp] theorem State.setLoop_bias (s : State) (k : Nat) (p : LoopPhase) : (s.setLoop k p).bias = s.bias := rfl
@[simp] theorem State.setLoop_log (s : State) (k : Nat) (p : LoopPhase) : (s.setLoop k p).log = s.log := rfl
@[simp] theorem State.setLoop_cores (s : State) (k : Nat) (p : LoopPhase) : (s.setLoop k p).cores = s.cores := rfl
@[simp] theorem State.setLoop_evtQ (s : State) (k : Nat) (p : LoopPhase) : (s.setLoop k p).evtQ = s.evtQ := rfl
@[simp] theorem State.setLoop_mem (s : State) (k : Nat) (p : LoopPhase) : (s.setLoop k p).mem = s.mem := rfl
@[simp] theorem State.setLoop_ecc (s : State) (k : Nat) (p : LoopPhase) : (s.setLoop k p).ecc = s.ecc := rfl
@[simp] theorem State.setLoop_eccBase (s : State) (k : Nat) (p : LoopPhase) : (s.setLoop k p).eccBase = s.eccBase := rfl
@[simp] theorem State.setLoop_ceLog (s : State) (k : Nat) (p : LoopPhase) : (s.setLoop k p).ceLog = s.ceLog := rfl
@[simp] theorem State.setLoop_caps (s : State) (k : Nat) (p : LoopPhase) : (s.setLoop k p).caps = s.caps := rfl
@[simp] theorem State.setLoop_dmas (s : State) (k : Nat) (p : LoopPhase) : (s.setLoop k p).dmas = s.dmas := rfl
@[simp] theorem State.setLoop_commits (s : State) (k : Nat) (p : LoopPhase) : (s.setLoop k p).commits = s.commits := rfl
@[simp] theorem State.setLoop_trans (s : State) (k : Nat) (p : LoopPhase) : (s.setLoop k p).trans = s.trans := rfl
@[simp] theorem State.setLoop_tim (s : State) (k : Nat) (p : LoopPhase) : (s.setLoop k p).tim = s.tim := rfl
@[simp] theorem State.setLoop_cum (s : State) (k : Nat) (p : LoopPhase) : (s.setLoop k p).cum = s.cum := rfl
@[simp] theorem State.setLoop_ani (s : State) (k : Nat) (p : LoopPhase) : (s.setLoop k p).ani = s.ani := rfl
@[simp] theorem State.setLoop_beams (s : State) (k : Nat) (p : LoopPhase) : (s.setLoop k p).beams = s.beams := rfl
@[simp] theorem State.setLoop_wts (s : State) (k : Nat) (p : LoopPhase) : (s.setLoop k p).wts = s.wts := rfl
@[simp] theorem State.setLoop_taps (s : State) (k : Nat) (p : LoopPhase) : (s.setLoop k p).taps = s.taps := rfl
@[simp] theorem State.setLoop_strm (s : State) (k : Nat) (p : LoopPhase) : (s.setLoop k p).strm = s.strm := rfl
@[simp] theorem State.setLoop_dpd (s : State) (k : Nat) (p : LoopPhase) : (s.setLoop k p).dpd = s.dpd := rfl
@[simp] theorem State.setLoop_mgmtDown (s : State) (k : Nat) (p : LoopPhase) : (s.setLoop k p).mgmtDown = s.mgmtDown := rfl
@[simp] theorem State.setLoop_cal (s : State) (k : Nat) (p : LoopPhase) : (s.setLoop k p).cal = s.cal := rfl
@[simp] theorem State.setLoop_ret (s : State) (k : Nat) (p : LoopPhase) : (s.setLoop k p).ret = s.ret := rfl
@[simp] theorem State.setLoop_lanes (s : State) (k : Nat) (p : LoopPhase) : (s.setLoop k p).lanes = s.lanes := rfl
@[simp] theorem State.setLoop_erl (s : State) (k : Nat) (p : LoopPhase) : (s.setLoop k p).erl = s.erl := rfl
@[simp] theorem State.setLoop_snd (s : State) (k : Nat) (p : LoopPhase) : (s.setLoop k p).snd = s.snd := rfl
@[simp] theorem State.setLoop_bc (s : State) (k : Nat) (p : LoopPhase) : (s.setLoop k p).bc = s.bc := rfl
@[simp] theorem State.setLoop_sems (s : State) (k : Nat) (p : LoopPhase) : (s.setLoop k p).sems = s.sems := rfl
@[simp] theorem State.setLoop_mgmt (s : State) (k : Nat) (p : LoopPhase) : (s.setLoop k p).mgmt = s.mgmt := rfl
@[simp] theorem State.setLoop_updJobs (s : State) (k : Nat) (p : LoopPhase) : (s.setLoop k p).updJobs = s.updJobs := rfl
@[simp] theorem State.setLoop_otp (s : State) (k : Nat) (p : LoopPhase) : (s.setLoop k p).otp = s.otp := rfl
@[simp] theorem State.setLoop_sec (s : State) (k : Nat) (p : LoopPhase) : (s.setLoop k p).sec = s.sec := rfl
@[simp] theorem State.setLoop_mon (s : State) (k : Nat) (p : LoopPhase) : (s.setLoop k p).mon = s.mon := rfl
@[simp] theorem State.setLoop_bist (s : State) (k : Nat) (p : LoopPhase) : (s.setLoop k p).bist = s.bist := rfl
@[simp] theorem State.setLoop_modes (s : State) (k : Nat) (p : LoopPhase) : (s.setLoop k p).modes = s.modes := rfl
@[simp] theorem State.setLoop_seqAt (s : State) (k : Nat) (p : LoopPhase) : (s.setLoop k p).seqAt = s.seqAt := rfl
@[simp] theorem State.setLoop_seqMod (s : State) (k : Nat) (p : LoopPhase) : (s.setLoop k p).seqMod = s.seqMod := rfl
@[simp] theorem State.setLoop_srst (s : State) (k : Nat) (p : LoopPhase) : (s.setLoop k p).srst = s.srst := rfl
@[simp] theorem State.setLoop_hk (s : State) (k : Nat) (p : LoopPhase) : (s.setLoop k p).hk = s.hk := rfl
@[simp] theorem State.setLoop_age (s : State) (k : Nat) (p : LoopPhase) : (s.setLoop k p).age = s.age := rfl
@[simp] theorem State.setLoop_evtNow (s : State) (k : Nat) (p : LoopPhase) : (s.setLoop k p).evtNow = s.evtNow := rfl
@[simp] theorem State.setLoop_evtAt (s : State) (k : Nat) (p : LoopPhase) : (s.setLoop k p).evtAt = s.evtAt := rfl
@[simp] theorem State.setLoop_pending (s : State) (k : Nat) (p : LoopPhase) : (s.setLoop k p).pending = s.pending := rfl
@[simp] theorem State.setLoop_get (s : State) (k : Nat) (p : LoopPhase) (m : Loc) : (s.setLoop k p).get m = s.get m := rfl
@[simp] theorem State.setLoop_on (s : State) (k : Nat) (p : LoopPhase) (m : Loc) : (s.setLoop k p).on m = s.on m := rfl
@[simp] theorem State.setLoop_mode (s : State) (k : Nat) (p : LoopPhase) : (s.setLoop k p).mode = s.mode := rfl
@[simp] theorem State.setLoop_inactive (s : State) (k : Nat) (p : LoopPhase) (m : Loc) : (s.setLoop k p).inactive m = s.inactive m := rfl

/-! ### `State.setLost` -/

@[simp] theorem State.setLost_regs (s : State) (k : Nat) (b : Bool) : (s.setLost k b).regs = s.regs := rfl
@[simp] theorem State.setLost_bank (s : State) (k : Nat) (b : Bool) : (s.setLost k b).bank = s.bank := rfl
@[simp] theorem State.setLost_seqs (s : State) (k : Nat) (b : Bool) : (s.setLost k b).seqs = s.seqs := rfl
@[simp] theorem State.setLost_copying (s : State) (k : Nat) (b : Bool) : (s.setLost k b).copying = s.copying := rfl
@[simp] theorem State.setLost_windows (s : State) (k : Nat) (b : Bool) : (s.setLost k b).windows = s.windows := rfl
@[simp] theorem State.setLost_triggers (s : State) (k : Nat) (b : Bool) : (s.setLost k b).triggers = s.triggers := rfl
@[simp] theorem State.setLost_words (s : State) (k : Nat) (b : Bool) : (s.setLost k b).words = s.words := rfl
@[simp] theorem State.setLost_acks (s : State) (k : Nat) (b : Bool) : (s.setLost k b).acks = s.acks := rfl
@[simp] theorem State.setLost_answer (s : State) (k : Nat) (b : Bool) : (s.setLost k b).answer = s.answer := rfl
@[simp] theorem State.setLost_latches (s : State) (k : Nat) (b : Bool) : (s.setLost k b).latches = s.latches := rfl
@[simp] theorem State.setLost_tb (s : State) (k : Nat) (b : Bool) : (s.setLost k b).tb = s.tb := rfl
@[simp] theorem State.setLost_tbRun (s : State) (k : Nat) (b : Bool) : (s.setLost k b).tbRun = s.tbRun := rfl
@[simp] theorem State.setLost_ao (s : State) (k : Nat) (b : Bool) : (s.setLost k b).ao = s.ao := rfl
@[simp] theorem State.setLost_fv (s : State) (k : Nat) (b : Bool) : (s.setLost k b).fv = s.fv := rfl
@[simp] theorem State.setLost_pwr (s : State) (k : Nat) (b : Bool) : (s.setLost k b).pwr = s.pwr := rfl
@[simp] theorem State.setLost_paths (s : State) (k : Nat) (b : Bool) : (s.setLost k b).paths = s.paths := rfl
@[simp] theorem State.setLost_rxs (s : State) (k : Nat) (b : Bool) : (s.setLost k b).rxs = s.rxs := rfl
@[simp] theorem State.setLost_txs (s : State) (k : Nat) (b : Bool) : (s.setLost k b).txs = s.txs := rfl
@[simp] theorem State.setLost_octs (s : State) (k : Nat) (b : Bool) : (s.setLost k b).octs = s.octs := rfl
@[simp] theorem State.setLost_tl (s : State) (k : Nat) (b : Bool) : (s.setLost k b).tl = s.tl := rfl
@[simp] theorem State.setLost_bias (s : State) (k : Nat) (b : Bool) : (s.setLost k b).bias = s.bias := rfl
@[simp] theorem State.setLost_log (s : State) (k : Nat) (b : Bool) : (s.setLost k b).log = s.log := rfl
@[simp] theorem State.setLost_cores (s : State) (k : Nat) (b : Bool) : (s.setLost k b).cores = s.cores := rfl
@[simp] theorem State.setLost_evtQ (s : State) (k : Nat) (b : Bool) : (s.setLost k b).evtQ = s.evtQ := rfl
@[simp] theorem State.setLost_mem (s : State) (k : Nat) (b : Bool) : (s.setLost k b).mem = s.mem := rfl
@[simp] theorem State.setLost_ecc (s : State) (k : Nat) (b : Bool) : (s.setLost k b).ecc = s.ecc := rfl
@[simp] theorem State.setLost_eccBase (s : State) (k : Nat) (b : Bool) : (s.setLost k b).eccBase = s.eccBase := rfl
@[simp] theorem State.setLost_ceLog (s : State) (k : Nat) (b : Bool) : (s.setLost k b).ceLog = s.ceLog := rfl
@[simp] theorem State.setLost_caps (s : State) (k : Nat) (b : Bool) : (s.setLost k b).caps = s.caps := rfl
@[simp] theorem State.setLost_dmas (s : State) (k : Nat) (b : Bool) : (s.setLost k b).dmas = s.dmas := rfl
@[simp] theorem State.setLost_commits (s : State) (k : Nat) (b : Bool) : (s.setLost k b).commits = s.commits := rfl
@[simp] theorem State.setLost_trans (s : State) (k : Nat) (b : Bool) : (s.setLost k b).trans = s.trans := rfl
@[simp] theorem State.setLost_tim (s : State) (k : Nat) (b : Bool) : (s.setLost k b).tim = s.tim := rfl
@[simp] theorem State.setLost_cum (s : State) (k : Nat) (b : Bool) : (s.setLost k b).cum = s.cum := rfl
@[simp] theorem State.setLost_ani (s : State) (k : Nat) (b : Bool) : (s.setLost k b).ani = s.ani := rfl
@[simp] theorem State.setLost_beams (s : State) (k : Nat) (b : Bool) : (s.setLost k b).beams = s.beams := rfl
@[simp] theorem State.setLost_wts (s : State) (k : Nat) (b : Bool) : (s.setLost k b).wts = s.wts := rfl
@[simp] theorem State.setLost_taps (s : State) (k : Nat) (b : Bool) : (s.setLost k b).taps = s.taps := rfl
@[simp] theorem State.setLost_strm (s : State) (k : Nat) (b : Bool) : (s.setLost k b).strm = s.strm := rfl
@[simp] theorem State.setLost_dpd (s : State) (k : Nat) (b : Bool) : (s.setLost k b).dpd = s.dpd := rfl
@[simp] theorem State.setLost_mgmtDown (s : State) (k : Nat) (b : Bool) : (s.setLost k b).mgmtDown = s.mgmtDown := rfl
@[simp] theorem State.setLost_cal (s : State) (k : Nat) (b : Bool) : (s.setLost k b).cal = s.cal := rfl
@[simp] theorem State.setLost_ret (s : State) (k : Nat) (b : Bool) : (s.setLost k b).ret = s.ret := rfl
@[simp] theorem State.setLost_lanes (s : State) (k : Nat) (b : Bool) : (s.setLost k b).lanes = s.lanes := rfl
@[simp] theorem State.setLost_erl (s : State) (k : Nat) (b : Bool) : (s.setLost k b).erl = s.erl := rfl
@[simp] theorem State.setLost_snd (s : State) (k : Nat) (b : Bool) : (s.setLost k b).snd = s.snd := rfl
@[simp] theorem State.setLost_bc (s : State) (k : Nat) (b : Bool) : (s.setLost k b).bc = s.bc := rfl
@[simp] theorem State.setLost_sems (s : State) (k : Nat) (b : Bool) : (s.setLost k b).sems = s.sems := rfl
@[simp] theorem State.setLost_mgmt (s : State) (k : Nat) (b : Bool) : (s.setLost k b).mgmt = s.mgmt := rfl
@[simp] theorem State.setLost_updJobs (s : State) (k : Nat) (b : Bool) : (s.setLost k b).updJobs = s.updJobs := rfl
@[simp] theorem State.setLost_otp (s : State) (k : Nat) (b : Bool) : (s.setLost k b).otp = s.otp := rfl
@[simp] theorem State.setLost_sec (s : State) (k : Nat) (b : Bool) : (s.setLost k b).sec = s.sec := rfl
@[simp] theorem State.setLost_mon (s : State) (k : Nat) (b : Bool) : (s.setLost k b).mon = s.mon := rfl
@[simp] theorem State.setLost_bist (s : State) (k : Nat) (b : Bool) : (s.setLost k b).bist = s.bist := rfl
@[simp] theorem State.setLost_modes (s : State) (k : Nat) (b : Bool) : (s.setLost k b).modes = s.modes := rfl
@[simp] theorem State.setLost_seqAt (s : State) (k : Nat) (b : Bool) : (s.setLost k b).seqAt = s.seqAt := rfl
@[simp] theorem State.setLost_seqMod (s : State) (k : Nat) (b : Bool) : (s.setLost k b).seqMod = s.seqMod := rfl
@[simp] theorem State.setLost_srst (s : State) (k : Nat) (b : Bool) : (s.setLost k b).srst = s.srst := rfl
@[simp] theorem State.setLost_hk (s : State) (k : Nat) (b : Bool) : (s.setLost k b).hk = s.hk := rfl
@[simp] theorem State.setLost_age (s : State) (k : Nat) (b : Bool) : (s.setLost k b).age = s.age := rfl
@[simp] theorem State.setLost_evtNow (s : State) (k : Nat) (b : Bool) : (s.setLost k b).evtNow = s.evtNow := rfl
@[simp] theorem State.setLost_evtAt (s : State) (k : Nat) (b : Bool) : (s.setLost k b).evtAt = s.evtAt := rfl
@[simp] theorem State.setLost_pending (s : State) (k : Nat) (b : Bool) : (s.setLost k b).pending = s.pending := rfl
@[simp] theorem State.setLost_get (s : State) (k : Nat) (b : Bool) (m : Loc) : (s.setLost k b).get m = s.get m := rfl
@[simp] theorem State.setLost_on (s : State) (k : Nat) (b : Bool) (m : Loc) : (s.setLost k b).on m = s.on m := rfl
@[simp] theorem State.setLost_mode (s : State) (k : Nat) (b : Bool) : (s.setLost k b).mode = s.mode := rfl
@[simp] theorem State.setLost_inactive (s : State) (k : Nat) (b : Bool) (m : Loc) : (s.setLost k b).inactive m = s.inactive m := rfl

/-! ### `State.setDpdPath` -/

@[simp] theorem State.setDpdPath_regs (s : State) (p : Nat) (f : DpdPath → DpdPath) : (s.setDpdPath p f).regs = s.regs := rfl
@[simp] theorem State.setDpdPath_bank (s : State) (p : Nat) (f : DpdPath → DpdPath) : (s.setDpdPath p f).bank = s.bank := rfl
@[simp] theorem State.setDpdPath_seqs (s : State) (p : Nat) (f : DpdPath → DpdPath) : (s.setDpdPath p f).seqs = s.seqs := rfl
@[simp] theorem State.setDpdPath_copying (s : State) (p : Nat) (f : DpdPath → DpdPath) : (s.setDpdPath p f).copying = s.copying := rfl
@[simp] theorem State.setDpdPath_windows (s : State) (p : Nat) (f : DpdPath → DpdPath) : (s.setDpdPath p f).windows = s.windows := rfl
@[simp] theorem State.setDpdPath_triggers (s : State) (p : Nat) (f : DpdPath → DpdPath) : (s.setDpdPath p f).triggers = s.triggers := rfl
@[simp] theorem State.setDpdPath_words (s : State) (p : Nat) (f : DpdPath → DpdPath) : (s.setDpdPath p f).words = s.words := rfl
@[simp] theorem State.setDpdPath_acks (s : State) (p : Nat) (f : DpdPath → DpdPath) : (s.setDpdPath p f).acks = s.acks := rfl
@[simp] theorem State.setDpdPath_answer (s : State) (p : Nat) (f : DpdPath → DpdPath) : (s.setDpdPath p f).answer = s.answer := rfl
@[simp] theorem State.setDpdPath_latches (s : State) (p : Nat) (f : DpdPath → DpdPath) : (s.setDpdPath p f).latches = s.latches := rfl
@[simp] theorem State.setDpdPath_tb (s : State) (p : Nat) (f : DpdPath → DpdPath) : (s.setDpdPath p f).tb = s.tb := rfl
@[simp] theorem State.setDpdPath_tbRun (s : State) (p : Nat) (f : DpdPath → DpdPath) : (s.setDpdPath p f).tbRun = s.tbRun := rfl
@[simp] theorem State.setDpdPath_ao (s : State) (p : Nat) (f : DpdPath → DpdPath) : (s.setDpdPath p f).ao = s.ao := rfl
@[simp] theorem State.setDpdPath_fv (s : State) (p : Nat) (f : DpdPath → DpdPath) : (s.setDpdPath p f).fv = s.fv := rfl
@[simp] theorem State.setDpdPath_pwr (s : State) (p : Nat) (f : DpdPath → DpdPath) : (s.setDpdPath p f).pwr = s.pwr := rfl
@[simp] theorem State.setDpdPath_clk (s : State) (p : Nat) (f : DpdPath → DpdPath) : (s.setDpdPath p f).clk = s.clk := rfl
@[simp] theorem State.setDpdPath_paths (s : State) (p : Nat) (f : DpdPath → DpdPath) : (s.setDpdPath p f).paths = s.paths := rfl
@[simp] theorem State.setDpdPath_rxs (s : State) (p : Nat) (f : DpdPath → DpdPath) : (s.setDpdPath p f).rxs = s.rxs := rfl
@[simp] theorem State.setDpdPath_txs (s : State) (p : Nat) (f : DpdPath → DpdPath) : (s.setDpdPath p f).txs = s.txs := rfl
@[simp] theorem State.setDpdPath_octs (s : State) (p : Nat) (f : DpdPath → DpdPath) : (s.setDpdPath p f).octs = s.octs := rfl
@[simp] theorem State.setDpdPath_tl (s : State) (p : Nat) (f : DpdPath → DpdPath) : (s.setDpdPath p f).tl = s.tl := rfl
@[simp] theorem State.setDpdPath_bias (s : State) (p : Nat) (f : DpdPath → DpdPath) : (s.setDpdPath p f).bias = s.bias := rfl
@[simp] theorem State.setDpdPath_log (s : State) (p : Nat) (f : DpdPath → DpdPath) : (s.setDpdPath p f).log = s.log := rfl
@[simp] theorem State.setDpdPath_cores (s : State) (p : Nat) (f : DpdPath → DpdPath) : (s.setDpdPath p f).cores = s.cores := rfl
@[simp] theorem State.setDpdPath_evtQ (s : State) (p : Nat) (f : DpdPath → DpdPath) : (s.setDpdPath p f).evtQ = s.evtQ := rfl
@[simp] theorem State.setDpdPath_mem (s : State) (p : Nat) (f : DpdPath → DpdPath) : (s.setDpdPath p f).mem = s.mem := rfl
@[simp] theorem State.setDpdPath_ecc (s : State) (p : Nat) (f : DpdPath → DpdPath) : (s.setDpdPath p f).ecc = s.ecc := rfl
@[simp] theorem State.setDpdPath_eccBase (s : State) (p : Nat) (f : DpdPath → DpdPath) : (s.setDpdPath p f).eccBase = s.eccBase := rfl
@[simp] theorem State.setDpdPath_ceLog (s : State) (p : Nat) (f : DpdPath → DpdPath) : (s.setDpdPath p f).ceLog = s.ceLog := rfl
@[simp] theorem State.setDpdPath_caps (s : State) (p : Nat) (f : DpdPath → DpdPath) : (s.setDpdPath p f).caps = s.caps := rfl
@[simp] theorem State.setDpdPath_dmas (s : State) (p : Nat) (f : DpdPath → DpdPath) : (s.setDpdPath p f).dmas = s.dmas := rfl
@[simp] theorem State.setDpdPath_commits (s : State) (p : Nat) (f : DpdPath → DpdPath) : (s.setDpdPath p f).commits = s.commits := rfl
@[simp] theorem State.setDpdPath_trans (s : State) (p : Nat) (f : DpdPath → DpdPath) : (s.setDpdPath p f).trans = s.trans := rfl
@[simp] theorem State.setDpdPath_tim (s : State) (p : Nat) (f : DpdPath → DpdPath) : (s.setDpdPath p f).tim = s.tim := rfl
@[simp] theorem State.setDpdPath_cum (s : State) (p : Nat) (f : DpdPath → DpdPath) : (s.setDpdPath p f).cum = s.cum := rfl
@[simp] theorem State.setDpdPath_ani (s : State) (p : Nat) (f : DpdPath → DpdPath) : (s.setDpdPath p f).ani = s.ani := rfl
@[simp] theorem State.setDpdPath_beams (s : State) (p : Nat) (f : DpdPath → DpdPath) : (s.setDpdPath p f).beams = s.beams := rfl
@[simp] theorem State.setDpdPath_wts (s : State) (p : Nat) (f : DpdPath → DpdPath) : (s.setDpdPath p f).wts = s.wts := rfl
@[simp] theorem State.setDpdPath_taps (s : State) (p : Nat) (f : DpdPath → DpdPath) : (s.setDpdPath p f).taps = s.taps := rfl
@[simp] theorem State.setDpdPath_strm (s : State) (p : Nat) (f : DpdPath → DpdPath) : (s.setDpdPath p f).strm = s.strm := rfl
@[simp] theorem State.setDpdPath_mgmtDown (s : State) (p : Nat) (f : DpdPath → DpdPath) : (s.setDpdPath p f).mgmtDown = s.mgmtDown := rfl
@[simp] theorem State.setDpdPath_cal (s : State) (p : Nat) (f : DpdPath → DpdPath) : (s.setDpdPath p f).cal = s.cal := rfl
@[simp] theorem State.setDpdPath_ret (s : State) (p : Nat) (f : DpdPath → DpdPath) : (s.setDpdPath p f).ret = s.ret := rfl
@[simp] theorem State.setDpdPath_lanes (s : State) (p : Nat) (f : DpdPath → DpdPath) : (s.setDpdPath p f).lanes = s.lanes := rfl
@[simp] theorem State.setDpdPath_erl (s : State) (p : Nat) (f : DpdPath → DpdPath) : (s.setDpdPath p f).erl = s.erl := rfl
@[simp] theorem State.setDpdPath_snd (s : State) (p : Nat) (f : DpdPath → DpdPath) : (s.setDpdPath p f).snd = s.snd := rfl
@[simp] theorem State.setDpdPath_bc (s : State) (p : Nat) (f : DpdPath → DpdPath) : (s.setDpdPath p f).bc = s.bc := rfl
@[simp] theorem State.setDpdPath_sems (s : State) (p : Nat) (f : DpdPath → DpdPath) : (s.setDpdPath p f).sems = s.sems := rfl
@[simp] theorem State.setDpdPath_mgmt (s : State) (p : Nat) (f : DpdPath → DpdPath) : (s.setDpdPath p f).mgmt = s.mgmt := rfl
@[simp] theorem State.setDpdPath_updJobs (s : State) (p : Nat) (f : DpdPath → DpdPath) : (s.setDpdPath p f).updJobs = s.updJobs := rfl
@[simp] theorem State.setDpdPath_otp (s : State) (p : Nat) (f : DpdPath → DpdPath) : (s.setDpdPath p f).otp = s.otp := rfl
@[simp] theorem State.setDpdPath_sec (s : State) (p : Nat) (f : DpdPath → DpdPath) : (s.setDpdPath p f).sec = s.sec := rfl
@[simp] theorem State.setDpdPath_mon (s : State) (p : Nat) (f : DpdPath → DpdPath) : (s.setDpdPath p f).mon = s.mon := rfl
@[simp] theorem State.setDpdPath_bist (s : State) (p : Nat) (f : DpdPath → DpdPath) : (s.setDpdPath p f).bist = s.bist := rfl
@[simp] theorem State.setDpdPath_modes (s : State) (p : Nat) (f : DpdPath → DpdPath) : (s.setDpdPath p f).modes = s.modes := rfl
@[simp] theorem State.setDpdPath_seqAt (s : State) (p : Nat) (f : DpdPath → DpdPath) : (s.setDpdPath p f).seqAt = s.seqAt := rfl
@[simp] theorem State.setDpdPath_seqMod (s : State) (p : Nat) (f : DpdPath → DpdPath) : (s.setDpdPath p f).seqMod = s.seqMod := rfl
@[simp] theorem State.setDpdPath_srst (s : State) (p : Nat) (f : DpdPath → DpdPath) : (s.setDpdPath p f).srst = s.srst := rfl
@[simp] theorem State.setDpdPath_hk (s : State) (p : Nat) (f : DpdPath → DpdPath) : (s.setDpdPath p f).hk = s.hk := rfl
@[simp] theorem State.setDpdPath_age (s : State) (p : Nat) (f : DpdPath → DpdPath) : (s.setDpdPath p f).age = s.age := rfl
@[simp] theorem State.setDpdPath_evtNow (s : State) (p : Nat) (f : DpdPath → DpdPath) : (s.setDpdPath p f).evtNow = s.evtNow := rfl
@[simp] theorem State.setDpdPath_evtAt (s : State) (p : Nat) (f : DpdPath → DpdPath) : (s.setDpdPath p f).evtAt = s.evtAt := rfl
@[simp] theorem State.setDpdPath_pending (s : State) (p : Nat) (f : DpdPath → DpdPath) : (s.setDpdPath p f).pending = s.pending := rfl
@[simp] theorem State.setDpdPath_get (s : State) (p : Nat) (f : DpdPath → DpdPath) (m : Loc) : (s.setDpdPath p f).get m = s.get m := rfl
@[simp] theorem State.setDpdPath_on (s : State) (p : Nat) (f : DpdPath → DpdPath) (m : Loc) : (s.setDpdPath p f).on m = s.on m := rfl
@[simp] theorem State.setDpdPath_mode (s : State) (p : Nat) (f : DpdPath → DpdPath) : (s.setDpdPath p f).mode = s.mode := rfl
@[simp] theorem State.setDpdPath_inactive (s : State) (p : Nat) (f : DpdPath → DpdPath) (m : Loc) : (s.setDpdPath p f).inactive m = s.inactive m := rfl

/-! ### `State.setDpdJob` -/

@[simp] theorem State.setDpdJob_regs (s : State) (c : Nat) (j : Option DpdJob) : (s.setDpdJob c j).regs = s.regs := rfl
@[simp] theorem State.setDpdJob_bank (s : State) (c : Nat) (j : Option DpdJob) : (s.setDpdJob c j).bank = s.bank := rfl
@[simp] theorem State.setDpdJob_seqs (s : State) (c : Nat) (j : Option DpdJob) : (s.setDpdJob c j).seqs = s.seqs := rfl
@[simp] theorem State.setDpdJob_copying (s : State) (c : Nat) (j : Option DpdJob) : (s.setDpdJob c j).copying = s.copying := rfl
@[simp] theorem State.setDpdJob_windows (s : State) (c : Nat) (j : Option DpdJob) : (s.setDpdJob c j).windows = s.windows := rfl
@[simp] theorem State.setDpdJob_triggers (s : State) (c : Nat) (j : Option DpdJob) : (s.setDpdJob c j).triggers = s.triggers := rfl
@[simp] theorem State.setDpdJob_words (s : State) (c : Nat) (j : Option DpdJob) : (s.setDpdJob c j).words = s.words := rfl
@[simp] theorem State.setDpdJob_acks (s : State) (c : Nat) (j : Option DpdJob) : (s.setDpdJob c j).acks = s.acks := rfl
@[simp] theorem State.setDpdJob_answer (s : State) (c : Nat) (j : Option DpdJob) : (s.setDpdJob c j).answer = s.answer := rfl
@[simp] theorem State.setDpdJob_latches (s : State) (c : Nat) (j : Option DpdJob) : (s.setDpdJob c j).latches = s.latches := rfl
@[simp] theorem State.setDpdJob_tb (s : State) (c : Nat) (j : Option DpdJob) : (s.setDpdJob c j).tb = s.tb := rfl
@[simp] theorem State.setDpdJob_tbRun (s : State) (c : Nat) (j : Option DpdJob) : (s.setDpdJob c j).tbRun = s.tbRun := rfl
@[simp] theorem State.setDpdJob_ao (s : State) (c : Nat) (j : Option DpdJob) : (s.setDpdJob c j).ao = s.ao := rfl
@[simp] theorem State.setDpdJob_fv (s : State) (c : Nat) (j : Option DpdJob) : (s.setDpdJob c j).fv = s.fv := rfl
@[simp] theorem State.setDpdJob_pwr (s : State) (c : Nat) (j : Option DpdJob) : (s.setDpdJob c j).pwr = s.pwr := rfl
@[simp] theorem State.setDpdJob_clk (s : State) (c : Nat) (j : Option DpdJob) : (s.setDpdJob c j).clk = s.clk := rfl
@[simp] theorem State.setDpdJob_paths (s : State) (c : Nat) (j : Option DpdJob) : (s.setDpdJob c j).paths = s.paths := rfl
@[simp] theorem State.setDpdJob_rxs (s : State) (c : Nat) (j : Option DpdJob) : (s.setDpdJob c j).rxs = s.rxs := rfl
@[simp] theorem State.setDpdJob_txs (s : State) (c : Nat) (j : Option DpdJob) : (s.setDpdJob c j).txs = s.txs := rfl
@[simp] theorem State.setDpdJob_octs (s : State) (c : Nat) (j : Option DpdJob) : (s.setDpdJob c j).octs = s.octs := rfl
@[simp] theorem State.setDpdJob_tl (s : State) (c : Nat) (j : Option DpdJob) : (s.setDpdJob c j).tl = s.tl := rfl
@[simp] theorem State.setDpdJob_bias (s : State) (c : Nat) (j : Option DpdJob) : (s.setDpdJob c j).bias = s.bias := rfl
@[simp] theorem State.setDpdJob_log (s : State) (c : Nat) (j : Option DpdJob) : (s.setDpdJob c j).log = s.log := rfl
@[simp] theorem State.setDpdJob_cores (s : State) (c : Nat) (j : Option DpdJob) : (s.setDpdJob c j).cores = s.cores := rfl
@[simp] theorem State.setDpdJob_evtQ (s : State) (c : Nat) (j : Option DpdJob) : (s.setDpdJob c j).evtQ = s.evtQ := rfl
@[simp] theorem State.setDpdJob_mem (s : State) (c : Nat) (j : Option DpdJob) : (s.setDpdJob c j).mem = s.mem := rfl
@[simp] theorem State.setDpdJob_ecc (s : State) (c : Nat) (j : Option DpdJob) : (s.setDpdJob c j).ecc = s.ecc := rfl
@[simp] theorem State.setDpdJob_eccBase (s : State) (c : Nat) (j : Option DpdJob) : (s.setDpdJob c j).eccBase = s.eccBase := rfl
@[simp] theorem State.setDpdJob_ceLog (s : State) (c : Nat) (j : Option DpdJob) : (s.setDpdJob c j).ceLog = s.ceLog := rfl
@[simp] theorem State.setDpdJob_caps (s : State) (c : Nat) (j : Option DpdJob) : (s.setDpdJob c j).caps = s.caps := rfl
@[simp] theorem State.setDpdJob_dmas (s : State) (c : Nat) (j : Option DpdJob) : (s.setDpdJob c j).dmas = s.dmas := rfl
@[simp] theorem State.setDpdJob_commits (s : State) (c : Nat) (j : Option DpdJob) : (s.setDpdJob c j).commits = s.commits := rfl
@[simp] theorem State.setDpdJob_trans (s : State) (c : Nat) (j : Option DpdJob) : (s.setDpdJob c j).trans = s.trans := rfl
@[simp] theorem State.setDpdJob_tim (s : State) (c : Nat) (j : Option DpdJob) : (s.setDpdJob c j).tim = s.tim := rfl
@[simp] theorem State.setDpdJob_cum (s : State) (c : Nat) (j : Option DpdJob) : (s.setDpdJob c j).cum = s.cum := rfl
@[simp] theorem State.setDpdJob_ani (s : State) (c : Nat) (j : Option DpdJob) : (s.setDpdJob c j).ani = s.ani := rfl
@[simp] theorem State.setDpdJob_beams (s : State) (c : Nat) (j : Option DpdJob) : (s.setDpdJob c j).beams = s.beams := rfl
@[simp] theorem State.setDpdJob_wts (s : State) (c : Nat) (j : Option DpdJob) : (s.setDpdJob c j).wts = s.wts := rfl
@[simp] theorem State.setDpdJob_taps (s : State) (c : Nat) (j : Option DpdJob) : (s.setDpdJob c j).taps = s.taps := rfl
@[simp] theorem State.setDpdJob_strm (s : State) (c : Nat) (j : Option DpdJob) : (s.setDpdJob c j).strm = s.strm := rfl
@[simp] theorem State.setDpdJob_mgmtDown (s : State) (c : Nat) (j : Option DpdJob) : (s.setDpdJob c j).mgmtDown = s.mgmtDown := rfl
@[simp] theorem State.setDpdJob_cal (s : State) (c : Nat) (j : Option DpdJob) : (s.setDpdJob c j).cal = s.cal := rfl
@[simp] theorem State.setDpdJob_ret (s : State) (c : Nat) (j : Option DpdJob) : (s.setDpdJob c j).ret = s.ret := rfl
@[simp] theorem State.setDpdJob_lanes (s : State) (c : Nat) (j : Option DpdJob) : (s.setDpdJob c j).lanes = s.lanes := rfl
@[simp] theorem State.setDpdJob_erl (s : State) (c : Nat) (j : Option DpdJob) : (s.setDpdJob c j).erl = s.erl := rfl
@[simp] theorem State.setDpdJob_snd (s : State) (c : Nat) (j : Option DpdJob) : (s.setDpdJob c j).snd = s.snd := rfl
@[simp] theorem State.setDpdJob_bc (s : State) (c : Nat) (j : Option DpdJob) : (s.setDpdJob c j).bc = s.bc := rfl
@[simp] theorem State.setDpdJob_sems (s : State) (c : Nat) (j : Option DpdJob) : (s.setDpdJob c j).sems = s.sems := rfl
@[simp] theorem State.setDpdJob_mgmt (s : State) (c : Nat) (j : Option DpdJob) : (s.setDpdJob c j).mgmt = s.mgmt := rfl
@[simp] theorem State.setDpdJob_updJobs (s : State) (c : Nat) (j : Option DpdJob) : (s.setDpdJob c j).updJobs = s.updJobs := rfl
@[simp] theorem State.setDpdJob_otp (s : State) (c : Nat) (j : Option DpdJob) : (s.setDpdJob c j).otp = s.otp := rfl
@[simp] theorem State.setDpdJob_sec (s : State) (c : Nat) (j : Option DpdJob) : (s.setDpdJob c j).sec = s.sec := rfl
@[simp] theorem State.setDpdJob_mon (s : State) (c : Nat) (j : Option DpdJob) : (s.setDpdJob c j).mon = s.mon := rfl
@[simp] theorem State.setDpdJob_bist (s : State) (c : Nat) (j : Option DpdJob) : (s.setDpdJob c j).bist = s.bist := rfl
@[simp] theorem State.setDpdJob_modes (s : State) (c : Nat) (j : Option DpdJob) : (s.setDpdJob c j).modes = s.modes := rfl
@[simp] theorem State.setDpdJob_seqAt (s : State) (c : Nat) (j : Option DpdJob) : (s.setDpdJob c j).seqAt = s.seqAt := rfl
@[simp] theorem State.setDpdJob_seqMod (s : State) (c : Nat) (j : Option DpdJob) : (s.setDpdJob c j).seqMod = s.seqMod := rfl
@[simp] theorem State.setDpdJob_srst (s : State) (c : Nat) (j : Option DpdJob) : (s.setDpdJob c j).srst = s.srst := rfl
@[simp] theorem State.setDpdJob_hk (s : State) (c : Nat) (j : Option DpdJob) : (s.setDpdJob c j).hk = s.hk := rfl
@[simp] theorem State.setDpdJob_age (s : State) (c : Nat) (j : Option DpdJob) : (s.setDpdJob c j).age = s.age := rfl
@[simp] theorem State.setDpdJob_evtNow (s : State) (c : Nat) (j : Option DpdJob) : (s.setDpdJob c j).evtNow = s.evtNow := rfl
@[simp] theorem State.setDpdJob_evtAt (s : State) (c : Nat) (j : Option DpdJob) : (s.setDpdJob c j).evtAt = s.evtAt := rfl
@[simp] theorem State.setDpdJob_pending (s : State) (c : Nat) (j : Option DpdJob) : (s.setDpdJob c j).pending = s.pending := rfl
@[simp] theorem State.setDpdJob_get (s : State) (c : Nat) (j : Option DpdJob) (m : Loc) : (s.setDpdJob c j).get m = s.get m := rfl
@[simp] theorem State.setDpdJob_on (s : State) (c : Nat) (j : Option DpdJob) (m : Loc) : (s.setDpdJob c j).on m = s.on m := rfl
@[simp] theorem State.setDpdJob_mode (s : State) (c : Nat) (j : Option DpdJob) : (s.setDpdJob c j).mode = s.mode := rfl
@[simp] theorem State.setDpdJob_inactive (s : State) (c : Nat) (j : Option DpdJob) (m : Loc) : (s.setDpdJob c j).inactive m = s.inactive m := rfl

/-! ### `State.setCorr` -/

@[simp] theorem State.setCorr_regs (s : State) (x p : Nat) (c : CorrSt) : (s.setCorr x p c).regs = s.regs := rfl
@[simp] theorem State.setCorr_bank (s : State) (x p : Nat) (c : CorrSt) : (s.setCorr x p c).bank = s.bank := rfl
@[simp] theorem State.setCorr_seqs (s : State) (x p : Nat) (c : CorrSt) : (s.setCorr x p c).seqs = s.seqs := rfl
@[simp] theorem State.setCorr_copying (s : State) (x p : Nat) (c : CorrSt) : (s.setCorr x p c).copying = s.copying := rfl
@[simp] theorem State.setCorr_windows (s : State) (x p : Nat) (c : CorrSt) : (s.setCorr x p c).windows = s.windows := rfl
@[simp] theorem State.setCorr_triggers (s : State) (x p : Nat) (c : CorrSt) : (s.setCorr x p c).triggers = s.triggers := rfl
@[simp] theorem State.setCorr_words (s : State) (x p : Nat) (c : CorrSt) : (s.setCorr x p c).words = s.words := rfl
@[simp] theorem State.setCorr_acks (s : State) (x p : Nat) (c : CorrSt) : (s.setCorr x p c).acks = s.acks := rfl
@[simp] theorem State.setCorr_answer (s : State) (x p : Nat) (c : CorrSt) : (s.setCorr x p c).answer = s.answer := rfl
@[simp] theorem State.setCorr_latches (s : State) (x p : Nat) (c : CorrSt) : (s.setCorr x p c).latches = s.latches := rfl
@[simp] theorem State.setCorr_tb (s : State) (x p : Nat) (c : CorrSt) : (s.setCorr x p c).tb = s.tb := rfl
@[simp] theorem State.setCorr_tbRun (s : State) (x p : Nat) (c : CorrSt) : (s.setCorr x p c).tbRun = s.tbRun := rfl
@[simp] theorem State.setCorr_ao (s : State) (x p : Nat) (c : CorrSt) : (s.setCorr x p c).ao = s.ao := rfl
@[simp] theorem State.setCorr_fv (s : State) (x p : Nat) (c : CorrSt) : (s.setCorr x p c).fv = s.fv := rfl
@[simp] theorem State.setCorr_pwr (s : State) (x p : Nat) (c : CorrSt) : (s.setCorr x p c).pwr = s.pwr := rfl
@[simp] theorem State.setCorr_clk (s : State) (x p : Nat) (c : CorrSt) : (s.setCorr x p c).clk = s.clk := rfl
@[simp] theorem State.setCorr_paths (s : State) (x p : Nat) (c : CorrSt) : (s.setCorr x p c).paths = s.paths := rfl
@[simp] theorem State.setCorr_rxs (s : State) (x p : Nat) (c : CorrSt) : (s.setCorr x p c).rxs = s.rxs := rfl
@[simp] theorem State.setCorr_txs (s : State) (x p : Nat) (c : CorrSt) : (s.setCorr x p c).txs = s.txs := rfl
@[simp] theorem State.setCorr_octs (s : State) (x p : Nat) (c : CorrSt) : (s.setCorr x p c).octs = s.octs := rfl
@[simp] theorem State.setCorr_tl (s : State) (x p : Nat) (c : CorrSt) : (s.setCorr x p c).tl = s.tl := rfl
@[simp] theorem State.setCorr_bias (s : State) (x p : Nat) (c : CorrSt) : (s.setCorr x p c).bias = s.bias := rfl
@[simp] theorem State.setCorr_log (s : State) (x p : Nat) (c : CorrSt) : (s.setCorr x p c).log = s.log := rfl
@[simp] theorem State.setCorr_cores (s : State) (x p : Nat) (c : CorrSt) : (s.setCorr x p c).cores = s.cores := rfl
@[simp] theorem State.setCorr_evtQ (s : State) (x p : Nat) (c : CorrSt) : (s.setCorr x p c).evtQ = s.evtQ := rfl
@[simp] theorem State.setCorr_mem (s : State) (x p : Nat) (c : CorrSt) : (s.setCorr x p c).mem = s.mem := rfl
@[simp] theorem State.setCorr_ecc (s : State) (x p : Nat) (c : CorrSt) : (s.setCorr x p c).ecc = s.ecc := rfl
@[simp] theorem State.setCorr_eccBase (s : State) (x p : Nat) (c : CorrSt) : (s.setCorr x p c).eccBase = s.eccBase := rfl
@[simp] theorem State.setCorr_ceLog (s : State) (x p : Nat) (c : CorrSt) : (s.setCorr x p c).ceLog = s.ceLog := rfl
@[simp] theorem State.setCorr_caps (s : State) (x p : Nat) (c : CorrSt) : (s.setCorr x p c).caps = s.caps := rfl
@[simp] theorem State.setCorr_dmas (s : State) (x p : Nat) (c : CorrSt) : (s.setCorr x p c).dmas = s.dmas := rfl
@[simp] theorem State.setCorr_commits (s : State) (x p : Nat) (c : CorrSt) : (s.setCorr x p c).commits = s.commits := rfl
@[simp] theorem State.setCorr_trans (s : State) (x p : Nat) (c : CorrSt) : (s.setCorr x p c).trans = s.trans := rfl
@[simp] theorem State.setCorr_tim (s : State) (x p : Nat) (c : CorrSt) : (s.setCorr x p c).tim = s.tim := rfl
@[simp] theorem State.setCorr_cum (s : State) (x p : Nat) (c : CorrSt) : (s.setCorr x p c).cum = s.cum := rfl
@[simp] theorem State.setCorr_ani (s : State) (x p : Nat) (c : CorrSt) : (s.setCorr x p c).ani = s.ani := rfl
@[simp] theorem State.setCorr_beams (s : State) (x p : Nat) (c : CorrSt) : (s.setCorr x p c).beams = s.beams := rfl
@[simp] theorem State.setCorr_wts (s : State) (x p : Nat) (c : CorrSt) : (s.setCorr x p c).wts = s.wts := rfl
@[simp] theorem State.setCorr_taps (s : State) (x p : Nat) (c : CorrSt) : (s.setCorr x p c).taps = s.taps := rfl
@[simp] theorem State.setCorr_strm (s : State) (x p : Nat) (c : CorrSt) : (s.setCorr x p c).strm = s.strm := rfl
@[simp] theorem State.setCorr_dpd (s : State) (x p : Nat) (c : CorrSt) : (s.setCorr x p c).dpd = s.dpd := rfl
@[simp] theorem State.setCorr_mgmtDown (s : State) (x p : Nat) (c : CorrSt) : (s.setCorr x p c).mgmtDown = s.mgmtDown := rfl
@[simp] theorem State.setCorr_ret (s : State) (x p : Nat) (c : CorrSt) : (s.setCorr x p c).ret = s.ret := rfl
@[simp] theorem State.setCorr_lanes (s : State) (x p : Nat) (c : CorrSt) : (s.setCorr x p c).lanes = s.lanes := rfl
@[simp] theorem State.setCorr_erl (s : State) (x p : Nat) (c : CorrSt) : (s.setCorr x p c).erl = s.erl := rfl
@[simp] theorem State.setCorr_snd (s : State) (x p : Nat) (c : CorrSt) : (s.setCorr x p c).snd = s.snd := rfl
@[simp] theorem State.setCorr_bc (s : State) (x p : Nat) (c : CorrSt) : (s.setCorr x p c).bc = s.bc := rfl
@[simp] theorem State.setCorr_sems (s : State) (x p : Nat) (c : CorrSt) : (s.setCorr x p c).sems = s.sems := rfl
@[simp] theorem State.setCorr_mgmt (s : State) (x p : Nat) (c : CorrSt) : (s.setCorr x p c).mgmt = s.mgmt := rfl
@[simp] theorem State.setCorr_updJobs (s : State) (x p : Nat) (c : CorrSt) : (s.setCorr x p c).updJobs = s.updJobs := rfl
@[simp] theorem State.setCorr_otp (s : State) (x p : Nat) (c : CorrSt) : (s.setCorr x p c).otp = s.otp := rfl
@[simp] theorem State.setCorr_sec (s : State) (x p : Nat) (c : CorrSt) : (s.setCorr x p c).sec = s.sec := rfl
@[simp] theorem State.setCorr_mon (s : State) (x p : Nat) (c : CorrSt) : (s.setCorr x p c).mon = s.mon := rfl
@[simp] theorem State.setCorr_bist (s : State) (x p : Nat) (c : CorrSt) : (s.setCorr x p c).bist = s.bist := rfl
@[simp] theorem State.setCorr_modes (s : State) (x p : Nat) (c : CorrSt) : (s.setCorr x p c).modes = s.modes := rfl
@[simp] theorem State.setCorr_seqAt (s : State) (x p : Nat) (c : CorrSt) : (s.setCorr x p c).seqAt = s.seqAt := rfl
@[simp] theorem State.setCorr_seqMod (s : State) (x p : Nat) (c : CorrSt) : (s.setCorr x p c).seqMod = s.seqMod := rfl
@[simp] theorem State.setCorr_srst (s : State) (x p : Nat) (c : CorrSt) : (s.setCorr x p c).srst = s.srst := rfl
@[simp] theorem State.setCorr_hk (s : State) (x p : Nat) (c : CorrSt) : (s.setCorr x p c).hk = s.hk := rfl
@[simp] theorem State.setCorr_age (s : State) (x p : Nat) (c : CorrSt) : (s.setCorr x p c).age = s.age := rfl
@[simp] theorem State.setCorr_evtNow (s : State) (x p : Nat) (c : CorrSt) : (s.setCorr x p c).evtNow = s.evtNow := rfl
@[simp] theorem State.setCorr_evtAt (s : State) (x p : Nat) (c : CorrSt) : (s.setCorr x p c).evtAt = s.evtAt := rfl
@[simp] theorem State.setCorr_pending (s : State) (x p : Nat) (c : CorrSt) : (s.setCorr x p c).pending = s.pending := rfl
@[simp] theorem State.setCorr_get (s : State) (x p : Nat) (c : CorrSt) (m : Loc) : (s.setCorr x p c).get m = s.get m := rfl
@[simp] theorem State.setCorr_on (s : State) (x p : Nat) (c : CorrSt) (m : Loc) : (s.setCorr x p c).on m = s.on m := rfl
@[simp] theorem State.setCorr_mode (s : State) (x p : Nat) (c : CorrSt) : (s.setCorr x p c).mode = s.mode := rfl
@[simp] theorem State.setCorr_inactive (s : State) (x p : Nat) (c : CorrSt) (m : Loc) : (s.setCorr x p c).inactive m = s.inactive m := rfl

/-! ### `State.setInj` -/

@[simp] theorem State.setInj_regs (s : State) (n k : Nat) : (s.setInj n k).regs = s.regs := rfl
@[simp] theorem State.setInj_bank (s : State) (n k : Nat) : (s.setInj n k).bank = s.bank := rfl
@[simp] theorem State.setInj_seqs (s : State) (n k : Nat) : (s.setInj n k).seqs = s.seqs := rfl
@[simp] theorem State.setInj_copying (s : State) (n k : Nat) : (s.setInj n k).copying = s.copying := rfl
@[simp] theorem State.setInj_windows (s : State) (n k : Nat) : (s.setInj n k).windows = s.windows := rfl
@[simp] theorem State.setInj_triggers (s : State) (n k : Nat) : (s.setInj n k).triggers = s.triggers := rfl
@[simp] theorem State.setInj_words (s : State) (n k : Nat) : (s.setInj n k).words = s.words := rfl
@[simp] theorem State.setInj_acks (s : State) (n k : Nat) : (s.setInj n k).acks = s.acks := rfl
@[simp] theorem State.setInj_answer (s : State) (n k : Nat) : (s.setInj n k).answer = s.answer := rfl
@[simp] theorem State.setInj_latches (s : State) (n k : Nat) : (s.setInj n k).latches = s.latches := rfl
@[simp] theorem State.setInj_tb (s : State) (n k : Nat) : (s.setInj n k).tb = s.tb := rfl
@[simp] theorem State.setInj_tbRun (s : State) (n k : Nat) : (s.setInj n k).tbRun = s.tbRun := rfl
@[simp] theorem State.setInj_ao (s : State) (n k : Nat) : (s.setInj n k).ao = s.ao := rfl
@[simp] theorem State.setInj_fv (s : State) (n k : Nat) : (s.setInj n k).fv = s.fv := rfl
@[simp] theorem State.setInj_pwr (s : State) (n k : Nat) : (s.setInj n k).pwr = s.pwr := rfl
@[simp] theorem State.setInj_clk (s : State) (n k : Nat) : (s.setInj n k).clk = s.clk := rfl
@[simp] theorem State.setInj_paths (s : State) (n k : Nat) : (s.setInj n k).paths = s.paths := rfl
@[simp] theorem State.setInj_rxs (s : State) (n k : Nat) : (s.setInj n k).rxs = s.rxs := rfl
@[simp] theorem State.setInj_txs (s : State) (n k : Nat) : (s.setInj n k).txs = s.txs := rfl
@[simp] theorem State.setInj_octs (s : State) (n k : Nat) : (s.setInj n k).octs = s.octs := rfl
@[simp] theorem State.setInj_tl (s : State) (n k : Nat) : (s.setInj n k).tl = s.tl := rfl
@[simp] theorem State.setInj_bias (s : State) (n k : Nat) : (s.setInj n k).bias = s.bias := rfl
@[simp] theorem State.setInj_log (s : State) (n k : Nat) : (s.setInj n k).log = s.log := rfl
@[simp] theorem State.setInj_cores (s : State) (n k : Nat) : (s.setInj n k).cores = s.cores := rfl
@[simp] theorem State.setInj_evtQ (s : State) (n k : Nat) : (s.setInj n k).evtQ = s.evtQ := rfl
@[simp] theorem State.setInj_mem (s : State) (n k : Nat) : (s.setInj n k).mem = s.mem := rfl
@[simp] theorem State.setInj_ecc (s : State) (n k : Nat) : (s.setInj n k).ecc = s.ecc := rfl
@[simp] theorem State.setInj_eccBase (s : State) (n k : Nat) : (s.setInj n k).eccBase = s.eccBase := rfl
@[simp] theorem State.setInj_ceLog (s : State) (n k : Nat) : (s.setInj n k).ceLog = s.ceLog := rfl
@[simp] theorem State.setInj_caps (s : State) (n k : Nat) : (s.setInj n k).caps = s.caps := rfl
@[simp] theorem State.setInj_dmas (s : State) (n k : Nat) : (s.setInj n k).dmas = s.dmas := rfl
@[simp] theorem State.setInj_commits (s : State) (n k : Nat) : (s.setInj n k).commits = s.commits := rfl
@[simp] theorem State.setInj_trans (s : State) (n k : Nat) : (s.setInj n k).trans = s.trans := rfl
@[simp] theorem State.setInj_tim (s : State) (n k : Nat) : (s.setInj n k).tim = s.tim := rfl
@[simp] theorem State.setInj_cum (s : State) (n k : Nat) : (s.setInj n k).cum = s.cum := rfl
@[simp] theorem State.setInj_ani (s : State) (n k : Nat) : (s.setInj n k).ani = s.ani := rfl
@[simp] theorem State.setInj_beams (s : State) (n k : Nat) : (s.setInj n k).beams = s.beams := rfl
@[simp] theorem State.setInj_wts (s : State) (n k : Nat) : (s.setInj n k).wts = s.wts := rfl
@[simp] theorem State.setInj_taps (s : State) (n k : Nat) : (s.setInj n k).taps = s.taps := rfl
@[simp] theorem State.setInj_strm (s : State) (n k : Nat) : (s.setInj n k).strm = s.strm := rfl
@[simp] theorem State.setInj_dpd (s : State) (n k : Nat) : (s.setInj n k).dpd = s.dpd := rfl
@[simp] theorem State.setInj_mgmtDown (s : State) (n k : Nat) : (s.setInj n k).mgmtDown = s.mgmtDown := rfl
@[simp] theorem State.setInj_cal (s : State) (n k : Nat) : (s.setInj n k).cal = s.cal := rfl
@[simp] theorem State.setInj_ret (s : State) (n k : Nat) : (s.setInj n k).ret = s.ret := rfl
@[simp] theorem State.setInj_erl (s : State) (n k : Nat) : (s.setInj n k).erl = s.erl := rfl
@[simp] theorem State.setInj_snd (s : State) (n k : Nat) : (s.setInj n k).snd = s.snd := rfl
@[simp] theorem State.setInj_bc (s : State) (n k : Nat) : (s.setInj n k).bc = s.bc := rfl
@[simp] theorem State.setInj_sems (s : State) (n k : Nat) : (s.setInj n k).sems = s.sems := rfl
@[simp] theorem State.setInj_mgmt (s : State) (n k : Nat) : (s.setInj n k).mgmt = s.mgmt := rfl
@[simp] theorem State.setInj_updJobs (s : State) (n k : Nat) : (s.setInj n k).updJobs = s.updJobs := rfl
@[simp] theorem State.setInj_otp (s : State) (n k : Nat) : (s.setInj n k).otp = s.otp := rfl
@[simp] theorem State.setInj_sec (s : State) (n k : Nat) : (s.setInj n k).sec = s.sec := rfl
@[simp] theorem State.setInj_mon (s : State) (n k : Nat) : (s.setInj n k).mon = s.mon := rfl
@[simp] theorem State.setInj_bist (s : State) (n k : Nat) : (s.setInj n k).bist = s.bist := rfl
@[simp] theorem State.setInj_modes (s : State) (n k : Nat) : (s.setInj n k).modes = s.modes := rfl
@[simp] theorem State.setInj_seqAt (s : State) (n k : Nat) : (s.setInj n k).seqAt = s.seqAt := rfl
@[simp] theorem State.setInj_seqMod (s : State) (n k : Nat) : (s.setInj n k).seqMod = s.seqMod := rfl
@[simp] theorem State.setInj_srst (s : State) (n k : Nat) : (s.setInj n k).srst = s.srst := rfl
@[simp] theorem State.setInj_hk (s : State) (n k : Nat) : (s.setInj n k).hk = s.hk := rfl
@[simp] theorem State.setInj_age (s : State) (n k : Nat) : (s.setInj n k).age = s.age := rfl
@[simp] theorem State.setInj_evtNow (s : State) (n k : Nat) : (s.setInj n k).evtNow = s.evtNow := rfl
@[simp] theorem State.setInj_evtAt (s : State) (n k : Nat) : (s.setInj n k).evtAt = s.evtAt := rfl
@[simp] theorem State.setInj_pending (s : State) (n k : Nat) : (s.setInj n k).pending = s.pending := rfl
@[simp] theorem State.setInj_get (s : State) (n k : Nat) (m : Loc) : (s.setInj n k).get m = s.get m := rfl
@[simp] theorem State.setInj_on (s : State) (n k : Nat) (m : Loc) : (s.setInj n k).on m = s.on m := rfl
@[simp] theorem State.setInj_mode (s : State) (n k : Nat) : (s.setInj n k).mode = s.mode := rfl
@[simp] theorem State.setInj_inactive (s : State) (n k : Nat) (m : Loc) : (s.setInj n k).inactive m = s.inactive m := rfl

/-! ### `State.setSync` -/

@[simp] theorem State.setSync_regs (s : State) (n : Nat) (t : Option Nat) : (s.setSync n t).regs = s.regs := rfl
@[simp] theorem State.setSync_bank (s : State) (n : Nat) (t : Option Nat) : (s.setSync n t).bank = s.bank := rfl
@[simp] theorem State.setSync_seqs (s : State) (n : Nat) (t : Option Nat) : (s.setSync n t).seqs = s.seqs := rfl
@[simp] theorem State.setSync_copying (s : State) (n : Nat) (t : Option Nat) : (s.setSync n t).copying = s.copying := rfl
@[simp] theorem State.setSync_windows (s : State) (n : Nat) (t : Option Nat) : (s.setSync n t).windows = s.windows := rfl
@[simp] theorem State.setSync_triggers (s : State) (n : Nat) (t : Option Nat) : (s.setSync n t).triggers = s.triggers := rfl
@[simp] theorem State.setSync_words (s : State) (n : Nat) (t : Option Nat) : (s.setSync n t).words = s.words := rfl
@[simp] theorem State.setSync_acks (s : State) (n : Nat) (t : Option Nat) : (s.setSync n t).acks = s.acks := rfl
@[simp] theorem State.setSync_answer (s : State) (n : Nat) (t : Option Nat) : (s.setSync n t).answer = s.answer := rfl
@[simp] theorem State.setSync_latches (s : State) (n : Nat) (t : Option Nat) : (s.setSync n t).latches = s.latches := rfl
@[simp] theorem State.setSync_tb (s : State) (n : Nat) (t : Option Nat) : (s.setSync n t).tb = s.tb := rfl
@[simp] theorem State.setSync_tbRun (s : State) (n : Nat) (t : Option Nat) : (s.setSync n t).tbRun = s.tbRun := rfl
@[simp] theorem State.setSync_ao (s : State) (n : Nat) (t : Option Nat) : (s.setSync n t).ao = s.ao := rfl
@[simp] theorem State.setSync_fv (s : State) (n : Nat) (t : Option Nat) : (s.setSync n t).fv = s.fv := rfl
@[simp] theorem State.setSync_pwr (s : State) (n : Nat) (t : Option Nat) : (s.setSync n t).pwr = s.pwr := rfl
@[simp] theorem State.setSync_clk (s : State) (n : Nat) (t : Option Nat) : (s.setSync n t).clk = s.clk := rfl
@[simp] theorem State.setSync_paths (s : State) (n : Nat) (t : Option Nat) : (s.setSync n t).paths = s.paths := rfl
@[simp] theorem State.setSync_rxs (s : State) (n : Nat) (t : Option Nat) : (s.setSync n t).rxs = s.rxs := rfl
@[simp] theorem State.setSync_txs (s : State) (n : Nat) (t : Option Nat) : (s.setSync n t).txs = s.txs := rfl
@[simp] theorem State.setSync_octs (s : State) (n : Nat) (t : Option Nat) : (s.setSync n t).octs = s.octs := rfl
@[simp] theorem State.setSync_tl (s : State) (n : Nat) (t : Option Nat) : (s.setSync n t).tl = s.tl := rfl
@[simp] theorem State.setSync_bias (s : State) (n : Nat) (t : Option Nat) : (s.setSync n t).bias = s.bias := rfl
@[simp] theorem State.setSync_log (s : State) (n : Nat) (t : Option Nat) : (s.setSync n t).log = s.log := rfl
@[simp] theorem State.setSync_cores (s : State) (n : Nat) (t : Option Nat) : (s.setSync n t).cores = s.cores := rfl
@[simp] theorem State.setSync_evtQ (s : State) (n : Nat) (t : Option Nat) : (s.setSync n t).evtQ = s.evtQ := rfl
@[simp] theorem State.setSync_mem (s : State) (n : Nat) (t : Option Nat) : (s.setSync n t).mem = s.mem := rfl
@[simp] theorem State.setSync_ecc (s : State) (n : Nat) (t : Option Nat) : (s.setSync n t).ecc = s.ecc := rfl
@[simp] theorem State.setSync_eccBase (s : State) (n : Nat) (t : Option Nat) : (s.setSync n t).eccBase = s.eccBase := rfl
@[simp] theorem State.setSync_ceLog (s : State) (n : Nat) (t : Option Nat) : (s.setSync n t).ceLog = s.ceLog := rfl
@[simp] theorem State.setSync_caps (s : State) (n : Nat) (t : Option Nat) : (s.setSync n t).caps = s.caps := rfl
@[simp] theorem State.setSync_dmas (s : State) (n : Nat) (t : Option Nat) : (s.setSync n t).dmas = s.dmas := rfl
@[simp] theorem State.setSync_commits (s : State) (n : Nat) (t : Option Nat) : (s.setSync n t).commits = s.commits := rfl
@[simp] theorem State.setSync_trans (s : State) (n : Nat) (t : Option Nat) : (s.setSync n t).trans = s.trans := rfl
@[simp] theorem State.setSync_tim (s : State) (n : Nat) (t : Option Nat) : (s.setSync n t).tim = s.tim := rfl
@[simp] theorem State.setSync_cum (s : State) (n : Nat) (t : Option Nat) : (s.setSync n t).cum = s.cum := rfl
@[simp] theorem State.setSync_ani (s : State) (n : Nat) (t : Option Nat) : (s.setSync n t).ani = s.ani := rfl
@[simp] theorem State.setSync_beams (s : State) (n : Nat) (t : Option Nat) : (s.setSync n t).beams = s.beams := rfl
@[simp] theorem State.setSync_wts (s : State) (n : Nat) (t : Option Nat) : (s.setSync n t).wts = s.wts := rfl
@[simp] theorem State.setSync_taps (s : State) (n : Nat) (t : Option Nat) : (s.setSync n t).taps = s.taps := rfl
@[simp] theorem State.setSync_strm (s : State) (n : Nat) (t : Option Nat) : (s.setSync n t).strm = s.strm := rfl
@[simp] theorem State.setSync_dpd (s : State) (n : Nat) (t : Option Nat) : (s.setSync n t).dpd = s.dpd := rfl
@[simp] theorem State.setSync_mgmtDown (s : State) (n : Nat) (t : Option Nat) : (s.setSync n t).mgmtDown = s.mgmtDown := rfl
@[simp] theorem State.setSync_cal (s : State) (n : Nat) (t : Option Nat) : (s.setSync n t).cal = s.cal := rfl
@[simp] theorem State.setSync_ret (s : State) (n : Nat) (t : Option Nat) : (s.setSync n t).ret = s.ret := rfl
@[simp] theorem State.setSync_erl (s : State) (n : Nat) (t : Option Nat) : (s.setSync n t).erl = s.erl := rfl
@[simp] theorem State.setSync_snd (s : State) (n : Nat) (t : Option Nat) : (s.setSync n t).snd = s.snd := rfl
@[simp] theorem State.setSync_bc (s : State) (n : Nat) (t : Option Nat) : (s.setSync n t).bc = s.bc := rfl
@[simp] theorem State.setSync_sems (s : State) (n : Nat) (t : Option Nat) : (s.setSync n t).sems = s.sems := rfl
@[simp] theorem State.setSync_mgmt (s : State) (n : Nat) (t : Option Nat) : (s.setSync n t).mgmt = s.mgmt := rfl
@[simp] theorem State.setSync_updJobs (s : State) (n : Nat) (t : Option Nat) : (s.setSync n t).updJobs = s.updJobs := rfl
@[simp] theorem State.setSync_otp (s : State) (n : Nat) (t : Option Nat) : (s.setSync n t).otp = s.otp := rfl
@[simp] theorem State.setSync_sec (s : State) (n : Nat) (t : Option Nat) : (s.setSync n t).sec = s.sec := rfl
@[simp] theorem State.setSync_mon (s : State) (n : Nat) (t : Option Nat) : (s.setSync n t).mon = s.mon := rfl
@[simp] theorem State.setSync_bist (s : State) (n : Nat) (t : Option Nat) : (s.setSync n t).bist = s.bist := rfl
@[simp] theorem State.setSync_modes (s : State) (n : Nat) (t : Option Nat) : (s.setSync n t).modes = s.modes := rfl
@[simp] theorem State.setSync_seqAt (s : State) (n : Nat) (t : Option Nat) : (s.setSync n t).seqAt = s.seqAt := rfl
@[simp] theorem State.setSync_seqMod (s : State) (n : Nat) (t : Option Nat) : (s.setSync n t).seqMod = s.seqMod := rfl
@[simp] theorem State.setSync_srst (s : State) (n : Nat) (t : Option Nat) : (s.setSync n t).srst = s.srst := rfl
@[simp] theorem State.setSync_hk (s : State) (n : Nat) (t : Option Nat) : (s.setSync n t).hk = s.hk := rfl
@[simp] theorem State.setSync_age (s : State) (n : Nat) (t : Option Nat) : (s.setSync n t).age = s.age := rfl
@[simp] theorem State.setSync_evtNow (s : State) (n : Nat) (t : Option Nat) : (s.setSync n t).evtNow = s.evtNow := rfl
@[simp] theorem State.setSync_evtAt (s : State) (n : Nat) (t : Option Nat) : (s.setSync n t).evtAt = s.evtAt := rfl
@[simp] theorem State.setSync_pending (s : State) (n : Nat) (t : Option Nat) : (s.setSync n t).pending = s.pending := rfl
@[simp] theorem State.setSync_get (s : State) (n : Nat) (t : Option Nat) (m : Loc) : (s.setSync n t).get m = s.get m := rfl
@[simp] theorem State.setSync_on (s : State) (n : Nat) (t : Option Nat) (m : Loc) : (s.setSync n t).on m = s.on m := rfl
@[simp] theorem State.setSync_mode (s : State) (n : Nat) (t : Option Nat) : (s.setSync n t).mode = s.mode := rfl
@[simp] theorem State.setSync_inactive (s : State) (n : Nat) (t : Option Nat) (m : Loc) : (s.setSync n t).inactive m = s.inactive m := rfl

/-! ### `State.setRffe` -/

@[simp] theorem State.setRffe_regs (s : State) (f : RffeSt → RffeSt) : (s.setRffe f).regs = s.regs := rfl
@[simp] theorem State.setRffe_bank (s : State) (f : RffeSt → RffeSt) : (s.setRffe f).bank = s.bank := rfl
@[simp] theorem State.setRffe_seqs (s : State) (f : RffeSt → RffeSt) : (s.setRffe f).seqs = s.seqs := rfl
@[simp] theorem State.setRffe_copying (s : State) (f : RffeSt → RffeSt) : (s.setRffe f).copying = s.copying := rfl
@[simp] theorem State.setRffe_windows (s : State) (f : RffeSt → RffeSt) : (s.setRffe f).windows = s.windows := rfl
@[simp] theorem State.setRffe_triggers (s : State) (f : RffeSt → RffeSt) : (s.setRffe f).triggers = s.triggers := rfl
@[simp] theorem State.setRffe_words (s : State) (f : RffeSt → RffeSt) : (s.setRffe f).words = s.words := rfl
@[simp] theorem State.setRffe_acks (s : State) (f : RffeSt → RffeSt) : (s.setRffe f).acks = s.acks := rfl
@[simp] theorem State.setRffe_answer (s : State) (f : RffeSt → RffeSt) : (s.setRffe f).answer = s.answer := rfl
@[simp] theorem State.setRffe_latches (s : State) (f : RffeSt → RffeSt) : (s.setRffe f).latches = s.latches := rfl
@[simp] theorem State.setRffe_tb (s : State) (f : RffeSt → RffeSt) : (s.setRffe f).tb = s.tb := rfl
@[simp] theorem State.setRffe_tbRun (s : State) (f : RffeSt → RffeSt) : (s.setRffe f).tbRun = s.tbRun := rfl
@[simp] theorem State.setRffe_ao (s : State) (f : RffeSt → RffeSt) : (s.setRffe f).ao = s.ao := rfl
@[simp] theorem State.setRffe_fv (s : State) (f : RffeSt → RffeSt) : (s.setRffe f).fv = s.fv := rfl
@[simp] theorem State.setRffe_pwr (s : State) (f : RffeSt → RffeSt) : (s.setRffe f).pwr = s.pwr := rfl
@[simp] theorem State.setRffe_clk (s : State) (f : RffeSt → RffeSt) : (s.setRffe f).clk = s.clk := rfl
@[simp] theorem State.setRffe_paths (s : State) (f : RffeSt → RffeSt) : (s.setRffe f).paths = s.paths := rfl
@[simp] theorem State.setRffe_rxs (s : State) (f : RffeSt → RffeSt) : (s.setRffe f).rxs = s.rxs := rfl
@[simp] theorem State.setRffe_txs (s : State) (f : RffeSt → RffeSt) : (s.setRffe f).txs = s.txs := rfl
@[simp] theorem State.setRffe_octs (s : State) (f : RffeSt → RffeSt) : (s.setRffe f).octs = s.octs := rfl
@[simp] theorem State.setRffe_bias (s : State) (f : RffeSt → RffeSt) : (s.setRffe f).bias = s.bias := rfl
@[simp] theorem State.setRffe_log (s : State) (f : RffeSt → RffeSt) : (s.setRffe f).log = s.log := rfl
@[simp] theorem State.setRffe_cores (s : State) (f : RffeSt → RffeSt) : (s.setRffe f).cores = s.cores := rfl
@[simp] theorem State.setRffe_evtQ (s : State) (f : RffeSt → RffeSt) : (s.setRffe f).evtQ = s.evtQ := rfl
@[simp] theorem State.setRffe_mem (s : State) (f : RffeSt → RffeSt) : (s.setRffe f).mem = s.mem := rfl
@[simp] theorem State.setRffe_ecc (s : State) (f : RffeSt → RffeSt) : (s.setRffe f).ecc = s.ecc := rfl
@[simp] theorem State.setRffe_eccBase (s : State) (f : RffeSt → RffeSt) : (s.setRffe f).eccBase = s.eccBase := rfl
@[simp] theorem State.setRffe_ceLog (s : State) (f : RffeSt → RffeSt) : (s.setRffe f).ceLog = s.ceLog := rfl
@[simp] theorem State.setRffe_caps (s : State) (f : RffeSt → RffeSt) : (s.setRffe f).caps = s.caps := rfl
@[simp] theorem State.setRffe_dmas (s : State) (f : RffeSt → RffeSt) : (s.setRffe f).dmas = s.dmas := rfl
@[simp] theorem State.setRffe_commits (s : State) (f : RffeSt → RffeSt) : (s.setRffe f).commits = s.commits := rfl
@[simp] theorem State.setRffe_trans (s : State) (f : RffeSt → RffeSt) : (s.setRffe f).trans = s.trans := rfl
@[simp] theorem State.setRffe_tim (s : State) (f : RffeSt → RffeSt) : (s.setRffe f).tim = s.tim := rfl
@[simp] theorem State.setRffe_cum (s : State) (f : RffeSt → RffeSt) : (s.setRffe f).cum = s.cum := rfl
@[simp] theorem State.setRffe_ani (s : State) (f : RffeSt → RffeSt) : (s.setRffe f).ani = s.ani := rfl
@[simp] theorem State.setRffe_beams (s : State) (f : RffeSt → RffeSt) : (s.setRffe f).beams = s.beams := rfl
@[simp] theorem State.setRffe_wts (s : State) (f : RffeSt → RffeSt) : (s.setRffe f).wts = s.wts := rfl
@[simp] theorem State.setRffe_taps (s : State) (f : RffeSt → RffeSt) : (s.setRffe f).taps = s.taps := rfl
@[simp] theorem State.setRffe_strm (s : State) (f : RffeSt → RffeSt) : (s.setRffe f).strm = s.strm := rfl
@[simp] theorem State.setRffe_dpd (s : State) (f : RffeSt → RffeSt) : (s.setRffe f).dpd = s.dpd := rfl
@[simp] theorem State.setRffe_mgmtDown (s : State) (f : RffeSt → RffeSt) : (s.setRffe f).mgmtDown = s.mgmtDown := rfl
@[simp] theorem State.setRffe_cal (s : State) (f : RffeSt → RffeSt) : (s.setRffe f).cal = s.cal := rfl
@[simp] theorem State.setRffe_ret (s : State) (f : RffeSt → RffeSt) : (s.setRffe f).ret = s.ret := rfl
@[simp] theorem State.setRffe_lanes (s : State) (f : RffeSt → RffeSt) : (s.setRffe f).lanes = s.lanes := rfl
@[simp] theorem State.setRffe_erl (s : State) (f : RffeSt → RffeSt) : (s.setRffe f).erl = s.erl := rfl
@[simp] theorem State.setRffe_snd (s : State) (f : RffeSt → RffeSt) : (s.setRffe f).snd = s.snd := rfl
@[simp] theorem State.setRffe_bc (s : State) (f : RffeSt → RffeSt) : (s.setRffe f).bc = s.bc := rfl
@[simp] theorem State.setRffe_sems (s : State) (f : RffeSt → RffeSt) : (s.setRffe f).sems = s.sems := rfl
@[simp] theorem State.setRffe_mgmt (s : State) (f : RffeSt → RffeSt) : (s.setRffe f).mgmt = s.mgmt := rfl
@[simp] theorem State.setRffe_updJobs (s : State) (f : RffeSt → RffeSt) : (s.setRffe f).updJobs = s.updJobs := rfl
@[simp] theorem State.setRffe_otp (s : State) (f : RffeSt → RffeSt) : (s.setRffe f).otp = s.otp := rfl
@[simp] theorem State.setRffe_sec (s : State) (f : RffeSt → RffeSt) : (s.setRffe f).sec = s.sec := rfl
@[simp] theorem State.setRffe_mon (s : State) (f : RffeSt → RffeSt) : (s.setRffe f).mon = s.mon := rfl
@[simp] theorem State.setRffe_bist (s : State) (f : RffeSt → RffeSt) : (s.setRffe f).bist = s.bist := rfl
@[simp] theorem State.setRffe_modes (s : State) (f : RffeSt → RffeSt) : (s.setRffe f).modes = s.modes := rfl
@[simp] theorem State.setRffe_seqAt (s : State) (f : RffeSt → RffeSt) : (s.setRffe f).seqAt = s.seqAt := rfl
@[simp] theorem State.setRffe_seqMod (s : State) (f : RffeSt → RffeSt) : (s.setRffe f).seqMod = s.seqMod := rfl
@[simp] theorem State.setRffe_srst (s : State) (f : RffeSt → RffeSt) : (s.setRffe f).srst = s.srst := rfl
@[simp] theorem State.setRffe_hk (s : State) (f : RffeSt → RffeSt) : (s.setRffe f).hk = s.hk := rfl
@[simp] theorem State.setRffe_age (s : State) (f : RffeSt → RffeSt) : (s.setRffe f).age = s.age := rfl
@[simp] theorem State.setRffe_evtNow (s : State) (f : RffeSt → RffeSt) : (s.setRffe f).evtNow = s.evtNow := rfl
@[simp] theorem State.setRffe_evtAt (s : State) (f : RffeSt → RffeSt) : (s.setRffe f).evtAt = s.evtAt := rfl
@[simp] theorem State.setRffe_pending (s : State) (f : RffeSt → RffeSt) : (s.setRffe f).pending = s.pending := rfl
@[simp] theorem State.setRffe_get (s : State) (f : RffeSt → RffeSt) (m : Loc) : (s.setRffe f).get m = s.get m := rfl
@[simp] theorem State.setRffe_on (s : State) (f : RffeSt → RffeSt) (m : Loc) : (s.setRffe f).on m = s.on m := rfl
@[simp] theorem State.setRffe_mode (s : State) (f : RffeSt → RffeSt) : (s.setRffe f).mode = s.mode := rfl
@[simp] theorem State.setRffe_inactive (s : State) (f : RffeSt → RffeSt) (m : Loc) : (s.setRffe f).inactive m = s.inactive m := rfl

/-! ### `State.setBc` -/

@[simp] theorem State.setBc_regs (s : State) (f : AniSt → AniSt) : (s.setBc f).regs = s.regs := rfl
@[simp] theorem State.setBc_bank (s : State) (f : AniSt → AniSt) : (s.setBc f).bank = s.bank := rfl
@[simp] theorem State.setBc_seqs (s : State) (f : AniSt → AniSt) : (s.setBc f).seqs = s.seqs := rfl
@[simp] theorem State.setBc_copying (s : State) (f : AniSt → AniSt) : (s.setBc f).copying = s.copying := rfl
@[simp] theorem State.setBc_windows (s : State) (f : AniSt → AniSt) : (s.setBc f).windows = s.windows := rfl
@[simp] theorem State.setBc_triggers (s : State) (f : AniSt → AniSt) : (s.setBc f).triggers = s.triggers := rfl
@[simp] theorem State.setBc_words (s : State) (f : AniSt → AniSt) : (s.setBc f).words = s.words := rfl
@[simp] theorem State.setBc_acks (s : State) (f : AniSt → AniSt) : (s.setBc f).acks = s.acks := rfl
@[simp] theorem State.setBc_answer (s : State) (f : AniSt → AniSt) : (s.setBc f).answer = s.answer := rfl
@[simp] theorem State.setBc_latches (s : State) (f : AniSt → AniSt) : (s.setBc f).latches = s.latches := rfl
@[simp] theorem State.setBc_tb (s : State) (f : AniSt → AniSt) : (s.setBc f).tb = s.tb := rfl
@[simp] theorem State.setBc_tbRun (s : State) (f : AniSt → AniSt) : (s.setBc f).tbRun = s.tbRun := rfl
@[simp] theorem State.setBc_ao (s : State) (f : AniSt → AniSt) : (s.setBc f).ao = s.ao := rfl
@[simp] theorem State.setBc_fv (s : State) (f : AniSt → AniSt) : (s.setBc f).fv = s.fv := rfl
@[simp] theorem State.setBc_pwr (s : State) (f : AniSt → AniSt) : (s.setBc f).pwr = s.pwr := rfl
@[simp] theorem State.setBc_clk (s : State) (f : AniSt → AniSt) : (s.setBc f).clk = s.clk := rfl
@[simp] theorem State.setBc_paths (s : State) (f : AniSt → AniSt) : (s.setBc f).paths = s.paths := rfl
@[simp] theorem State.setBc_rxs (s : State) (f : AniSt → AniSt) : (s.setBc f).rxs = s.rxs := rfl
@[simp] theorem State.setBc_txs (s : State) (f : AniSt → AniSt) : (s.setBc f).txs = s.txs := rfl
@[simp] theorem State.setBc_octs (s : State) (f : AniSt → AniSt) : (s.setBc f).octs = s.octs := rfl
@[simp] theorem State.setBc_tl (s : State) (f : AniSt → AniSt) : (s.setBc f).tl = s.tl := rfl
@[simp] theorem State.setBc_bias (s : State) (f : AniSt → AniSt) : (s.setBc f).bias = s.bias := rfl
@[simp] theorem State.setBc_log (s : State) (f : AniSt → AniSt) : (s.setBc f).log = s.log := rfl
@[simp] theorem State.setBc_cores (s : State) (f : AniSt → AniSt) : (s.setBc f).cores = s.cores := rfl
@[simp] theorem State.setBc_evtQ (s : State) (f : AniSt → AniSt) : (s.setBc f).evtQ = s.evtQ := rfl
@[simp] theorem State.setBc_mem (s : State) (f : AniSt → AniSt) : (s.setBc f).mem = s.mem := rfl
@[simp] theorem State.setBc_ecc (s : State) (f : AniSt → AniSt) : (s.setBc f).ecc = s.ecc := rfl
@[simp] theorem State.setBc_eccBase (s : State) (f : AniSt → AniSt) : (s.setBc f).eccBase = s.eccBase := rfl
@[simp] theorem State.setBc_ceLog (s : State) (f : AniSt → AniSt) : (s.setBc f).ceLog = s.ceLog := rfl
@[simp] theorem State.setBc_caps (s : State) (f : AniSt → AniSt) : (s.setBc f).caps = s.caps := rfl
@[simp] theorem State.setBc_dmas (s : State) (f : AniSt → AniSt) : (s.setBc f).dmas = s.dmas := rfl
@[simp] theorem State.setBc_commits (s : State) (f : AniSt → AniSt) : (s.setBc f).commits = s.commits := rfl
@[simp] theorem State.setBc_trans (s : State) (f : AniSt → AniSt) : (s.setBc f).trans = s.trans := rfl
@[simp] theorem State.setBc_tim (s : State) (f : AniSt → AniSt) : (s.setBc f).tim = s.tim := rfl
@[simp] theorem State.setBc_cum (s : State) (f : AniSt → AniSt) : (s.setBc f).cum = s.cum := rfl
@[simp] theorem State.setBc_ani (s : State) (f : AniSt → AniSt) : (s.setBc f).ani = s.ani := rfl
@[simp] theorem State.setBc_beams (s : State) (f : AniSt → AniSt) : (s.setBc f).beams = s.beams := rfl
@[simp] theorem State.setBc_wts (s : State) (f : AniSt → AniSt) : (s.setBc f).wts = s.wts := rfl
@[simp] theorem State.setBc_taps (s : State) (f : AniSt → AniSt) : (s.setBc f).taps = s.taps := rfl
@[simp] theorem State.setBc_strm (s : State) (f : AniSt → AniSt) : (s.setBc f).strm = s.strm := rfl
@[simp] theorem State.setBc_dpd (s : State) (f : AniSt → AniSt) : (s.setBc f).dpd = s.dpd := rfl
@[simp] theorem State.setBc_mgmtDown (s : State) (f : AniSt → AniSt) : (s.setBc f).mgmtDown = s.mgmtDown := rfl
@[simp] theorem State.setBc_cal (s : State) (f : AniSt → AniSt) : (s.setBc f).cal = s.cal := rfl
@[simp] theorem State.setBc_ret (s : State) (f : AniSt → AniSt) : (s.setBc f).ret = s.ret := rfl
@[simp] theorem State.setBc_lanes (s : State) (f : AniSt → AniSt) : (s.setBc f).lanes = s.lanes := rfl
@[simp] theorem State.setBc_erl (s : State) (f : AniSt → AniSt) : (s.setBc f).erl = s.erl := rfl
@[simp] theorem State.setBc_snd (s : State) (f : AniSt → AniSt) : (s.setBc f).snd = s.snd := rfl
@[simp] theorem State.setBc_sems (s : State) (f : AniSt → AniSt) : (s.setBc f).sems = s.sems := rfl
@[simp] theorem State.setBc_mgmt (s : State) (f : AniSt → AniSt) : (s.setBc f).mgmt = s.mgmt := rfl
@[simp] theorem State.setBc_updJobs (s : State) (f : AniSt → AniSt) : (s.setBc f).updJobs = s.updJobs := rfl
@[simp] theorem State.setBc_otp (s : State) (f : AniSt → AniSt) : (s.setBc f).otp = s.otp := rfl
@[simp] theorem State.setBc_sec (s : State) (f : AniSt → AniSt) : (s.setBc f).sec = s.sec := rfl
@[simp] theorem State.setBc_mon (s : State) (f : AniSt → AniSt) : (s.setBc f).mon = s.mon := rfl
@[simp] theorem State.setBc_bist (s : State) (f : AniSt → AniSt) : (s.setBc f).bist = s.bist := rfl
@[simp] theorem State.setBc_modes (s : State) (f : AniSt → AniSt) : (s.setBc f).modes = s.modes := rfl
@[simp] theorem State.setBc_seqAt (s : State) (f : AniSt → AniSt) : (s.setBc f).seqAt = s.seqAt := rfl
@[simp] theorem State.setBc_seqMod (s : State) (f : AniSt → AniSt) : (s.setBc f).seqMod = s.seqMod := rfl
@[simp] theorem State.setBc_srst (s : State) (f : AniSt → AniSt) : (s.setBc f).srst = s.srst := rfl
@[simp] theorem State.setBc_hk (s : State) (f : AniSt → AniSt) : (s.setBc f).hk = s.hk := rfl
@[simp] theorem State.setBc_age (s : State) (f : AniSt → AniSt) : (s.setBc f).age = s.age := rfl
@[simp] theorem State.setBc_evtNow (s : State) (f : AniSt → AniSt) : (s.setBc f).evtNow = s.evtNow := rfl
@[simp] theorem State.setBc_evtAt (s : State) (f : AniSt → AniSt) : (s.setBc f).evtAt = s.evtAt := rfl
@[simp] theorem State.setBc_pending (s : State) (f : AniSt → AniSt) : (s.setBc f).pending = s.pending := rfl
@[simp] theorem State.setBc_bc (s : State) (f : AniSt → AniSt) : (s.setBc f).bc = f s.bc := rfl
@[simp] theorem State.setBc_get (s : State) (f : AniSt → AniSt) (m : Loc) : (s.setBc f).get m = s.get m := rfl
@[simp] theorem State.setBc_on (s : State) (f : AniSt → AniSt) (m : Loc) : (s.setBc f).on m = s.on m := rfl
@[simp] theorem State.setBc_mode (s : State) (f : AniSt → AniSt) : (s.setBc f).mode = s.mode := rfl
@[simp] theorem State.setBc_inactive (s : State) (f : AniSt → AniSt) (m : Loc) : (s.setBc f).inactive m = s.inactive m := rfl

/-! ### `State.setCal` -/

@[simp] theorem State.setCal_regs (s : State) (f : CalSt → CalSt) : (s.setCal f).regs = s.regs := rfl
@[simp] theorem State.setCal_bank (s : State) (f : CalSt → CalSt) : (s.setCal f).bank = s.bank := rfl
@[simp] theorem State.setCal_seqs (s : State) (f : CalSt → CalSt) : (s.setCal f).seqs = s.seqs := rfl
@[simp] theorem State.setCal_copying (s : State) (f : CalSt → CalSt) : (s.setCal f).copying = s.copying := rfl
@[simp] theorem State.setCal_windows (s : State) (f : CalSt → CalSt) : (s.setCal f).windows = s.windows := rfl
@[simp] theorem State.setCal_triggers (s : State) (f : CalSt → CalSt) : (s.setCal f).triggers = s.triggers := rfl
@[simp] theorem State.setCal_words (s : State) (f : CalSt → CalSt) : (s.setCal f).words = s.words := rfl
@[simp] theorem State.setCal_acks (s : State) (f : CalSt → CalSt) : (s.setCal f).acks = s.acks := rfl
@[simp] theorem State.setCal_answer (s : State) (f : CalSt → CalSt) : (s.setCal f).answer = s.answer := rfl
@[simp] theorem State.setCal_latches (s : State) (f : CalSt → CalSt) : (s.setCal f).latches = s.latches := rfl
@[simp] theorem State.setCal_tb (s : State) (f : CalSt → CalSt) : (s.setCal f).tb = s.tb := rfl
@[simp] theorem State.setCal_tbRun (s : State) (f : CalSt → CalSt) : (s.setCal f).tbRun = s.tbRun := rfl
@[simp] theorem State.setCal_ao (s : State) (f : CalSt → CalSt) : (s.setCal f).ao = s.ao := rfl
@[simp] theorem State.setCal_fv (s : State) (f : CalSt → CalSt) : (s.setCal f).fv = s.fv := rfl
@[simp] theorem State.setCal_pwr (s : State) (f : CalSt → CalSt) : (s.setCal f).pwr = s.pwr := rfl
@[simp] theorem State.setCal_clk (s : State) (f : CalSt → CalSt) : (s.setCal f).clk = s.clk := rfl
@[simp] theorem State.setCal_paths (s : State) (f : CalSt → CalSt) : (s.setCal f).paths = s.paths := rfl
@[simp] theorem State.setCal_rxs (s : State) (f : CalSt → CalSt) : (s.setCal f).rxs = s.rxs := rfl
@[simp] theorem State.setCal_txs (s : State) (f : CalSt → CalSt) : (s.setCal f).txs = s.txs := rfl
@[simp] theorem State.setCal_octs (s : State) (f : CalSt → CalSt) : (s.setCal f).octs = s.octs := rfl
@[simp] theorem State.setCal_tl (s : State) (f : CalSt → CalSt) : (s.setCal f).tl = s.tl := rfl
@[simp] theorem State.setCal_bias (s : State) (f : CalSt → CalSt) : (s.setCal f).bias = s.bias := rfl
@[simp] theorem State.setCal_log (s : State) (f : CalSt → CalSt) : (s.setCal f).log = s.log := rfl
@[simp] theorem State.setCal_cores (s : State) (f : CalSt → CalSt) : (s.setCal f).cores = s.cores := rfl
@[simp] theorem State.setCal_evtQ (s : State) (f : CalSt → CalSt) : (s.setCal f).evtQ = s.evtQ := rfl
@[simp] theorem State.setCal_mem (s : State) (f : CalSt → CalSt) : (s.setCal f).mem = s.mem := rfl
@[simp] theorem State.setCal_ecc (s : State) (f : CalSt → CalSt) : (s.setCal f).ecc = s.ecc := rfl
@[simp] theorem State.setCal_eccBase (s : State) (f : CalSt → CalSt) : (s.setCal f).eccBase = s.eccBase := rfl
@[simp] theorem State.setCal_ceLog (s : State) (f : CalSt → CalSt) : (s.setCal f).ceLog = s.ceLog := rfl
@[simp] theorem State.setCal_caps (s : State) (f : CalSt → CalSt) : (s.setCal f).caps = s.caps := rfl
@[simp] theorem State.setCal_dmas (s : State) (f : CalSt → CalSt) : (s.setCal f).dmas = s.dmas := rfl
@[simp] theorem State.setCal_commits (s : State) (f : CalSt → CalSt) : (s.setCal f).commits = s.commits := rfl
@[simp] theorem State.setCal_trans (s : State) (f : CalSt → CalSt) : (s.setCal f).trans = s.trans := rfl
@[simp] theorem State.setCal_tim (s : State) (f : CalSt → CalSt) : (s.setCal f).tim = s.tim := rfl
@[simp] theorem State.setCal_cum (s : State) (f : CalSt → CalSt) : (s.setCal f).cum = s.cum := rfl
@[simp] theorem State.setCal_ani (s : State) (f : CalSt → CalSt) : (s.setCal f).ani = s.ani := rfl
@[simp] theorem State.setCal_beams (s : State) (f : CalSt → CalSt) : (s.setCal f).beams = s.beams := rfl
@[simp] theorem State.setCal_wts (s : State) (f : CalSt → CalSt) : (s.setCal f).wts = s.wts := rfl
@[simp] theorem State.setCal_taps (s : State) (f : CalSt → CalSt) : (s.setCal f).taps = s.taps := rfl
@[simp] theorem State.setCal_strm (s : State) (f : CalSt → CalSt) : (s.setCal f).strm = s.strm := rfl
@[simp] theorem State.setCal_dpd (s : State) (f : CalSt → CalSt) : (s.setCal f).dpd = s.dpd := rfl
@[simp] theorem State.setCal_mgmtDown (s : State) (f : CalSt → CalSt) : (s.setCal f).mgmtDown = s.mgmtDown := rfl
@[simp] theorem State.setCal_ret (s : State) (f : CalSt → CalSt) : (s.setCal f).ret = s.ret := rfl
@[simp] theorem State.setCal_lanes (s : State) (f : CalSt → CalSt) : (s.setCal f).lanes = s.lanes := rfl
@[simp] theorem State.setCal_erl (s : State) (f : CalSt → CalSt) : (s.setCal f).erl = s.erl := rfl
@[simp] theorem State.setCal_snd (s : State) (f : CalSt → CalSt) : (s.setCal f).snd = s.snd := rfl
@[simp] theorem State.setCal_bc (s : State) (f : CalSt → CalSt) : (s.setCal f).bc = s.bc := rfl
@[simp] theorem State.setCal_sems (s : State) (f : CalSt → CalSt) : (s.setCal f).sems = s.sems := rfl
@[simp] theorem State.setCal_mgmt (s : State) (f : CalSt → CalSt) : (s.setCal f).mgmt = s.mgmt := rfl
@[simp] theorem State.setCal_updJobs (s : State) (f : CalSt → CalSt) : (s.setCal f).updJobs = s.updJobs := rfl
@[simp] theorem State.setCal_otp (s : State) (f : CalSt → CalSt) : (s.setCal f).otp = s.otp := rfl
@[simp] theorem State.setCal_sec (s : State) (f : CalSt → CalSt) : (s.setCal f).sec = s.sec := rfl
@[simp] theorem State.setCal_mon (s : State) (f : CalSt → CalSt) : (s.setCal f).mon = s.mon := rfl
@[simp] theorem State.setCal_bist (s : State) (f : CalSt → CalSt) : (s.setCal f).bist = s.bist := rfl
@[simp] theorem State.setCal_modes (s : State) (f : CalSt → CalSt) : (s.setCal f).modes = s.modes := rfl
@[simp] theorem State.setCal_seqAt (s : State) (f : CalSt → CalSt) : (s.setCal f).seqAt = s.seqAt := rfl
@[simp] theorem State.setCal_seqMod (s : State) (f : CalSt → CalSt) : (s.setCal f).seqMod = s.seqMod := rfl
@[simp] theorem State.setCal_srst (s : State) (f : CalSt → CalSt) : (s.setCal f).srst = s.srst := rfl
@[simp] theorem State.setCal_hk (s : State) (f : CalSt → CalSt) : (s.setCal f).hk = s.hk := rfl
@[simp] theorem State.setCal_age (s : State) (f : CalSt → CalSt) : (s.setCal f).age = s.age := rfl
@[simp] theorem State.setCal_evtNow (s : State) (f : CalSt → CalSt) : (s.setCal f).evtNow = s.evtNow := rfl
@[simp] theorem State.setCal_evtAt (s : State) (f : CalSt → CalSt) : (s.setCal f).evtAt = s.evtAt := rfl
@[simp] theorem State.setCal_pending (s : State) (f : CalSt → CalSt) : (s.setCal f).pending = s.pending := rfl
@[simp] theorem State.setCal_cal (s : State) (f : CalSt → CalSt) : (s.setCal f).cal = f s.cal := rfl
@[simp] theorem State.setCal_get (s : State) (f : CalSt → CalSt) (m : Loc) : (s.setCal f).get m = s.get m := rfl
@[simp] theorem State.setCal_on (s : State) (f : CalSt → CalSt) (m : Loc) : (s.setCal f).on m = s.on m := rfl
@[simp] theorem State.setCal_mode (s : State) (f : CalSt → CalSt) : (s.setCal f).mode = s.mode := rfl
@[simp] theorem State.setCal_inactive (s : State) (f : CalSt → CalSt) (m : Loc) : (s.setCal f).inactive m = s.inactive m := rfl

/-! ### `State.setBist` -/

@[simp] theorem State.setBist_regs (s : State) (f : BistSt → BistSt) : (s.setBist f).regs = s.regs := rfl
@[simp] theorem State.setBist_bank (s : State) (f : BistSt → BistSt) : (s.setBist f).bank = s.bank := rfl
@[simp] theorem State.setBist_seqs (s : State) (f : BistSt → BistSt) : (s.setBist f).seqs = s.seqs := rfl
@[simp] theorem State.setBist_copying (s : State) (f : BistSt → BistSt) : (s.setBist f).copying = s.copying := rfl
@[simp] theorem State.setBist_windows (s : State) (f : BistSt → BistSt) : (s.setBist f).windows = s.windows := rfl
@[simp] theorem State.setBist_triggers (s : State) (f : BistSt → BistSt) : (s.setBist f).triggers = s.triggers := rfl
@[simp] theorem State.setBist_words (s : State) (f : BistSt → BistSt) : (s.setBist f).words = s.words := rfl
@[simp] theorem State.setBist_acks (s : State) (f : BistSt → BistSt) : (s.setBist f).acks = s.acks := rfl
@[simp] theorem State.setBist_answer (s : State) (f : BistSt → BistSt) : (s.setBist f).answer = s.answer := rfl
@[simp] theorem State.setBist_latches (s : State) (f : BistSt → BistSt) : (s.setBist f).latches = s.latches := rfl
@[simp] theorem State.setBist_tb (s : State) (f : BistSt → BistSt) : (s.setBist f).tb = s.tb := rfl
@[simp] theorem State.setBist_tbRun (s : State) (f : BistSt → BistSt) : (s.setBist f).tbRun = s.tbRun := rfl
@[simp] theorem State.setBist_ao (s : State) (f : BistSt → BistSt) : (s.setBist f).ao = s.ao := rfl
@[simp] theorem State.setBist_fv (s : State) (f : BistSt → BistSt) : (s.setBist f).fv = s.fv := rfl
@[simp] theorem State.setBist_pwr (s : State) (f : BistSt → BistSt) : (s.setBist f).pwr = s.pwr := rfl
@[simp] theorem State.setBist_clk (s : State) (f : BistSt → BistSt) : (s.setBist f).clk = s.clk := rfl
@[simp] theorem State.setBist_paths (s : State) (f : BistSt → BistSt) : (s.setBist f).paths = s.paths := rfl
@[simp] theorem State.setBist_rxs (s : State) (f : BistSt → BistSt) : (s.setBist f).rxs = s.rxs := rfl
@[simp] theorem State.setBist_txs (s : State) (f : BistSt → BistSt) : (s.setBist f).txs = s.txs := rfl
@[simp] theorem State.setBist_octs (s : State) (f : BistSt → BistSt) : (s.setBist f).octs = s.octs := rfl
@[simp] theorem State.setBist_tl (s : State) (f : BistSt → BistSt) : (s.setBist f).tl = s.tl := rfl
@[simp] theorem State.setBist_bias (s : State) (f : BistSt → BistSt) : (s.setBist f).bias = s.bias := rfl
@[simp] theorem State.setBist_log (s : State) (f : BistSt → BistSt) : (s.setBist f).log = s.log := rfl
@[simp] theorem State.setBist_cores (s : State) (f : BistSt → BistSt) : (s.setBist f).cores = s.cores := rfl
@[simp] theorem State.setBist_evtQ (s : State) (f : BistSt → BistSt) : (s.setBist f).evtQ = s.evtQ := rfl
@[simp] theorem State.setBist_mem (s : State) (f : BistSt → BistSt) : (s.setBist f).mem = s.mem := rfl
@[simp] theorem State.setBist_ecc (s : State) (f : BistSt → BistSt) : (s.setBist f).ecc = s.ecc := rfl
@[simp] theorem State.setBist_eccBase (s : State) (f : BistSt → BistSt) : (s.setBist f).eccBase = s.eccBase := rfl
@[simp] theorem State.setBist_ceLog (s : State) (f : BistSt → BistSt) : (s.setBist f).ceLog = s.ceLog := rfl
@[simp] theorem State.setBist_caps (s : State) (f : BistSt → BistSt) : (s.setBist f).caps = s.caps := rfl
@[simp] theorem State.setBist_dmas (s : State) (f : BistSt → BistSt) : (s.setBist f).dmas = s.dmas := rfl
@[simp] theorem State.setBist_commits (s : State) (f : BistSt → BistSt) : (s.setBist f).commits = s.commits := rfl
@[simp] theorem State.setBist_trans (s : State) (f : BistSt → BistSt) : (s.setBist f).trans = s.trans := rfl
@[simp] theorem State.setBist_tim (s : State) (f : BistSt → BistSt) : (s.setBist f).tim = s.tim := rfl
@[simp] theorem State.setBist_cum (s : State) (f : BistSt → BistSt) : (s.setBist f).cum = s.cum := rfl
@[simp] theorem State.setBist_ani (s : State) (f : BistSt → BistSt) : (s.setBist f).ani = s.ani := rfl
@[simp] theorem State.setBist_beams (s : State) (f : BistSt → BistSt) : (s.setBist f).beams = s.beams := rfl
@[simp] theorem State.setBist_wts (s : State) (f : BistSt → BistSt) : (s.setBist f).wts = s.wts := rfl
@[simp] theorem State.setBist_taps (s : State) (f : BistSt → BistSt) : (s.setBist f).taps = s.taps := rfl
@[simp] theorem State.setBist_strm (s : State) (f : BistSt → BistSt) : (s.setBist f).strm = s.strm := rfl
@[simp] theorem State.setBist_dpd (s : State) (f : BistSt → BistSt) : (s.setBist f).dpd = s.dpd := rfl
@[simp] theorem State.setBist_mgmtDown (s : State) (f : BistSt → BistSt) : (s.setBist f).mgmtDown = s.mgmtDown := rfl
@[simp] theorem State.setBist_cal (s : State) (f : BistSt → BistSt) : (s.setBist f).cal = s.cal := rfl
@[simp] theorem State.setBist_ret (s : State) (f : BistSt → BistSt) : (s.setBist f).ret = s.ret := rfl
@[simp] theorem State.setBist_lanes (s : State) (f : BistSt → BistSt) : (s.setBist f).lanes = s.lanes := rfl
@[simp] theorem State.setBist_erl (s : State) (f : BistSt → BistSt) : (s.setBist f).erl = s.erl := rfl
@[simp] theorem State.setBist_snd (s : State) (f : BistSt → BistSt) : (s.setBist f).snd = s.snd := rfl
@[simp] theorem State.setBist_bc (s : State) (f : BistSt → BistSt) : (s.setBist f).bc = s.bc := rfl
@[simp] theorem State.setBist_sems (s : State) (f : BistSt → BistSt) : (s.setBist f).sems = s.sems := rfl
@[simp] theorem State.setBist_mgmt (s : State) (f : BistSt → BistSt) : (s.setBist f).mgmt = s.mgmt := rfl
@[simp] theorem State.setBist_updJobs (s : State) (f : BistSt → BistSt) : (s.setBist f).updJobs = s.updJobs := rfl
@[simp] theorem State.setBist_otp (s : State) (f : BistSt → BistSt) : (s.setBist f).otp = s.otp := rfl
@[simp] theorem State.setBist_sec (s : State) (f : BistSt → BistSt) : (s.setBist f).sec = s.sec := rfl
@[simp] theorem State.setBist_mon (s : State) (f : BistSt → BistSt) : (s.setBist f).mon = s.mon := rfl
@[simp] theorem State.setBist_modes (s : State) (f : BistSt → BistSt) : (s.setBist f).modes = s.modes := rfl
@[simp] theorem State.setBist_seqAt (s : State) (f : BistSt → BistSt) : (s.setBist f).seqAt = s.seqAt := rfl
@[simp] theorem State.setBist_seqMod (s : State) (f : BistSt → BistSt) : (s.setBist f).seqMod = s.seqMod := rfl
@[simp] theorem State.setBist_srst (s : State) (f : BistSt → BistSt) : (s.setBist f).srst = s.srst := rfl
@[simp] theorem State.setBist_hk (s : State) (f : BistSt → BistSt) : (s.setBist f).hk = s.hk := rfl
@[simp] theorem State.setBist_age (s : State) (f : BistSt → BistSt) : (s.setBist f).age = s.age := rfl
@[simp] theorem State.setBist_evtNow (s : State) (f : BistSt → BistSt) : (s.setBist f).evtNow = s.evtNow := rfl
@[simp] theorem State.setBist_evtAt (s : State) (f : BistSt → BistSt) : (s.setBist f).evtAt = s.evtAt := rfl
@[simp] theorem State.setBist_pending (s : State) (f : BistSt → BistSt) : (s.setBist f).pending = s.pending := rfl
@[simp] theorem State.setBist_bist (s : State) (f : BistSt → BistSt) : (s.setBist f).bist = f s.bist := rfl
@[simp] theorem State.setBist_get (s : State) (f : BistSt → BistSt) (m : Loc) : (s.setBist f).get m = s.get m := rfl
@[simp] theorem State.setBist_on (s : State) (f : BistSt → BistSt) (m : Loc) : (s.setBist f).on m = s.on m := rfl
@[simp] theorem State.setBist_mode (s : State) (f : BistSt → BistSt) : (s.setBist f).mode = s.mode := rfl
@[simp] theorem State.setBist_inactive (s : State) (f : BistSt → BistSt) (m : Loc) : (s.setBist f).inactive m = s.inactive m := rfl

/-! ### `State.setErl` -/

@[simp] theorem State.setErl_regs (s : State) (f : ErlSt → ErlSt) : (s.setErl f).regs = s.regs := rfl
@[simp] theorem State.setErl_bank (s : State) (f : ErlSt → ErlSt) : (s.setErl f).bank = s.bank := rfl
@[simp] theorem State.setErl_seqs (s : State) (f : ErlSt → ErlSt) : (s.setErl f).seqs = s.seqs := rfl
@[simp] theorem State.setErl_copying (s : State) (f : ErlSt → ErlSt) : (s.setErl f).copying = s.copying := rfl
@[simp] theorem State.setErl_windows (s : State) (f : ErlSt → ErlSt) : (s.setErl f).windows = s.windows := rfl
@[simp] theorem State.setErl_triggers (s : State) (f : ErlSt → ErlSt) : (s.setErl f).triggers = s.triggers := rfl
@[simp] theorem State.setErl_words (s : State) (f : ErlSt → ErlSt) : (s.setErl f).words = s.words := rfl
@[simp] theorem State.setErl_acks (s : State) (f : ErlSt → ErlSt) : (s.setErl f).acks = s.acks := rfl
@[simp] theorem State.setErl_answer (s : State) (f : ErlSt → ErlSt) : (s.setErl f).answer = s.answer := rfl
@[simp] theorem State.setErl_latches (s : State) (f : ErlSt → ErlSt) : (s.setErl f).latches = s.latches := rfl
@[simp] theorem State.setErl_tb (s : State) (f : ErlSt → ErlSt) : (s.setErl f).tb = s.tb := rfl
@[simp] theorem State.setErl_tbRun (s : State) (f : ErlSt → ErlSt) : (s.setErl f).tbRun = s.tbRun := rfl
@[simp] theorem State.setErl_ao (s : State) (f : ErlSt → ErlSt) : (s.setErl f).ao = s.ao := rfl
@[simp] theorem State.setErl_fv (s : State) (f : ErlSt → ErlSt) : (s.setErl f).fv = s.fv := rfl
@[simp] theorem State.setErl_pwr (s : State) (f : ErlSt → ErlSt) : (s.setErl f).pwr = s.pwr := rfl
@[simp] theorem State.setErl_clk (s : State) (f : ErlSt → ErlSt) : (s.setErl f).clk = s.clk := rfl
@[simp] theorem State.setErl_paths (s : State) (f : ErlSt → ErlSt) : (s.setErl f).paths = s.paths := rfl
@[simp] theorem State.setErl_rxs (s : State) (f : ErlSt → ErlSt) : (s.setErl f).rxs = s.rxs := rfl
@[simp] theorem State.setErl_txs (s : State) (f : ErlSt → ErlSt) : (s.setErl f).txs = s.txs := rfl
@[simp] theorem State.setErl_octs (s : State) (f : ErlSt → ErlSt) : (s.setErl f).octs = s.octs := rfl
@[simp] theorem State.setErl_tl (s : State) (f : ErlSt → ErlSt) : (s.setErl f).tl = s.tl := rfl
@[simp] theorem State.setErl_bias (s : State) (f : ErlSt → ErlSt) : (s.setErl f).bias = s.bias := rfl
@[simp] theorem State.setErl_log (s : State) (f : ErlSt → ErlSt) : (s.setErl f).log = s.log := rfl
@[simp] theorem State.setErl_cores (s : State) (f : ErlSt → ErlSt) : (s.setErl f).cores = s.cores := rfl
@[simp] theorem State.setErl_evtQ (s : State) (f : ErlSt → ErlSt) : (s.setErl f).evtQ = s.evtQ := rfl
@[simp] theorem State.setErl_mem (s : State) (f : ErlSt → ErlSt) : (s.setErl f).mem = s.mem := rfl
@[simp] theorem State.setErl_ecc (s : State) (f : ErlSt → ErlSt) : (s.setErl f).ecc = s.ecc := rfl
@[simp] theorem State.setErl_eccBase (s : State) (f : ErlSt → ErlSt) : (s.setErl f).eccBase = s.eccBase := rfl
@[simp] theorem State.setErl_ceLog (s : State) (f : ErlSt → ErlSt) : (s.setErl f).ceLog = s.ceLog := rfl
@[simp] theorem State.setErl_caps (s : State) (f : ErlSt → ErlSt) : (s.setErl f).caps = s.caps := rfl
@[simp] theorem State.setErl_dmas (s : State) (f : ErlSt → ErlSt) : (s.setErl f).dmas = s.dmas := rfl
@[simp] theorem State.setErl_commits (s : State) (f : ErlSt → ErlSt) : (s.setErl f).commits = s.commits := rfl
@[simp] theorem State.setErl_trans (s : State) (f : ErlSt → ErlSt) : (s.setErl f).trans = s.trans := rfl
@[simp] theorem State.setErl_tim (s : State) (f : ErlSt → ErlSt) : (s.setErl f).tim = s.tim := rfl
@[simp] theorem State.setErl_cum (s : State) (f : ErlSt → ErlSt) : (s.setErl f).cum = s.cum := rfl
@[simp] theorem State.setErl_ani (s : State) (f : ErlSt → ErlSt) : (s.setErl f).ani = s.ani := rfl
@[simp] theorem State.setErl_beams (s : State) (f : ErlSt → ErlSt) : (s.setErl f).beams = s.beams := rfl
@[simp] theorem State.setErl_wts (s : State) (f : ErlSt → ErlSt) : (s.setErl f).wts = s.wts := rfl
@[simp] theorem State.setErl_taps (s : State) (f : ErlSt → ErlSt) : (s.setErl f).taps = s.taps := rfl
@[simp] theorem State.setErl_strm (s : State) (f : ErlSt → ErlSt) : (s.setErl f).strm = s.strm := rfl
@[simp] theorem State.setErl_dpd (s : State) (f : ErlSt → ErlSt) : (s.setErl f).dpd = s.dpd := rfl
@[simp] theorem State.setErl_mgmtDown (s : State) (f : ErlSt → ErlSt) : (s.setErl f).mgmtDown = s.mgmtDown := rfl
@[simp] theorem State.setErl_cal (s : State) (f : ErlSt → ErlSt) : (s.setErl f).cal = s.cal := rfl
@[simp] theorem State.setErl_ret (s : State) (f : ErlSt → ErlSt) : (s.setErl f).ret = s.ret := rfl
@[simp] theorem State.setErl_lanes (s : State) (f : ErlSt → ErlSt) : (s.setErl f).lanes = s.lanes := rfl
@[simp] theorem State.setErl_snd (s : State) (f : ErlSt → ErlSt) : (s.setErl f).snd = s.snd := rfl
@[simp] theorem State.setErl_bc (s : State) (f : ErlSt → ErlSt) : (s.setErl f).bc = s.bc := rfl
@[simp] theorem State.setErl_sems (s : State) (f : ErlSt → ErlSt) : (s.setErl f).sems = s.sems := rfl
@[simp] theorem State.setErl_mgmt (s : State) (f : ErlSt → ErlSt) : (s.setErl f).mgmt = s.mgmt := rfl
@[simp] theorem State.setErl_updJobs (s : State) (f : ErlSt → ErlSt) : (s.setErl f).updJobs = s.updJobs := rfl
@[simp] theorem State.setErl_otp (s : State) (f : ErlSt → ErlSt) : (s.setErl f).otp = s.otp := rfl
@[simp] theorem State.setErl_sec (s : State) (f : ErlSt → ErlSt) : (s.setErl f).sec = s.sec := rfl
@[simp] theorem State.setErl_mon (s : State) (f : ErlSt → ErlSt) : (s.setErl f).mon = s.mon := rfl
@[simp] theorem State.setErl_bist (s : State) (f : ErlSt → ErlSt) : (s.setErl f).bist = s.bist := rfl
@[simp] theorem State.setErl_modes (s : State) (f : ErlSt → ErlSt) : (s.setErl f).modes = s.modes := rfl
@[simp] theorem State.setErl_seqAt (s : State) (f : ErlSt → ErlSt) : (s.setErl f).seqAt = s.seqAt := rfl
@[simp] theorem State.setErl_seqMod (s : State) (f : ErlSt → ErlSt) : (s.setErl f).seqMod = s.seqMod := rfl
@[simp] theorem State.setErl_srst (s : State) (f : ErlSt → ErlSt) : (s.setErl f).srst = s.srst := rfl
@[simp] theorem State.setErl_hk (s : State) (f : ErlSt → ErlSt) : (s.setErl f).hk = s.hk := rfl
@[simp] theorem State.setErl_age (s : State) (f : ErlSt → ErlSt) : (s.setErl f).age = s.age := rfl
@[simp] theorem State.setErl_evtNow (s : State) (f : ErlSt → ErlSt) : (s.setErl f).evtNow = s.evtNow := rfl
@[simp] theorem State.setErl_evtAt (s : State) (f : ErlSt → ErlSt) : (s.setErl f).evtAt = s.evtAt := rfl
@[simp] theorem State.setErl_pending (s : State) (f : ErlSt → ErlSt) : (s.setErl f).pending = s.pending := rfl
@[simp] theorem State.setErl_erl (s : State) (f : ErlSt → ErlSt) : (s.setErl f).erl = f s.erl := rfl
@[simp] theorem State.setErl_get (s : State) (f : ErlSt → ErlSt) (m : Loc) : (s.setErl f).get m = s.get m := rfl
@[simp] theorem State.setErl_on (s : State) (f : ErlSt → ErlSt) (m : Loc) : (s.setErl f).on m = s.on m := rfl
@[simp] theorem State.setErl_mode (s : State) (f : ErlSt → ErlSt) : (s.setErl f).mode = s.mode := rfl
@[simp] theorem State.setErl_inactive (s : State) (f : ErlSt → ErlSt) (m : Loc) : (s.setErl f).inactive m = s.inactive m := rfl

/-! ### `State.setTim` -/

@[simp] theorem State.setTim_regs (s : State) (f : TimSt → TimSt) : (s.setTim f).regs = s.regs := rfl
@[simp] theorem State.setTim_bank (s : State) (f : TimSt → TimSt) : (s.setTim f).bank = s.bank := rfl
@[simp] theorem State.setTim_seqs (s : State) (f : TimSt → TimSt) : (s.setTim f).seqs = s.seqs := rfl
@[simp] theorem State.setTim_copying (s : State) (f : TimSt → TimSt) : (s.setTim f).copying = s.copying := rfl
@[simp] theorem State.setTim_windows (s : State) (f : TimSt → TimSt) : (s.setTim f).windows = s.windows := rfl
@[simp] theorem State.setTim_triggers (s : State) (f : TimSt → TimSt) : (s.setTim f).triggers = s.triggers := rfl
@[simp] theorem State.setTim_words (s : State) (f : TimSt → TimSt) : (s.setTim f).words = s.words := rfl
@[simp] theorem State.setTim_acks (s : State) (f : TimSt → TimSt) : (s.setTim f).acks = s.acks := rfl
@[simp] theorem State.setTim_answer (s : State) (f : TimSt → TimSt) : (s.setTim f).answer = s.answer := rfl
@[simp] theorem State.setTim_latches (s : State) (f : TimSt → TimSt) : (s.setTim f).latches = s.latches := rfl
@[simp] theorem State.setTim_tb (s : State) (f : TimSt → TimSt) : (s.setTim f).tb = s.tb := rfl
@[simp] theorem State.setTim_tbRun (s : State) (f : TimSt → TimSt) : (s.setTim f).tbRun = s.tbRun := rfl
@[simp] theorem State.setTim_ao (s : State) (f : TimSt → TimSt) : (s.setTim f).ao = s.ao := rfl
@[simp] theorem State.setTim_fv (s : State) (f : TimSt → TimSt) : (s.setTim f).fv = s.fv := rfl
@[simp] theorem State.setTim_pwr (s : State) (f : TimSt → TimSt) : (s.setTim f).pwr = s.pwr := rfl
@[simp] theorem State.setTim_clk (s : State) (f : TimSt → TimSt) : (s.setTim f).clk = s.clk := rfl
@[simp] theorem State.setTim_paths (s : State) (f : TimSt → TimSt) : (s.setTim f).paths = s.paths := rfl
@[simp] theorem State.setTim_rxs (s : State) (f : TimSt → TimSt) : (s.setTim f).rxs = s.rxs := rfl
@[simp] theorem State.setTim_txs (s : State) (f : TimSt → TimSt) : (s.setTim f).txs = s.txs := rfl
@[simp] theorem State.setTim_octs (s : State) (f : TimSt → TimSt) : (s.setTim f).octs = s.octs := rfl
@[simp] theorem State.setTim_tl (s : State) (f : TimSt → TimSt) : (s.setTim f).tl = s.tl := rfl
@[simp] theorem State.setTim_bias (s : State) (f : TimSt → TimSt) : (s.setTim f).bias = s.bias := rfl
@[simp] theorem State.setTim_log (s : State) (f : TimSt → TimSt) : (s.setTim f).log = s.log := rfl
@[simp] theorem State.setTim_cores (s : State) (f : TimSt → TimSt) : (s.setTim f).cores = s.cores := rfl
@[simp] theorem State.setTim_evtQ (s : State) (f : TimSt → TimSt) : (s.setTim f).evtQ = s.evtQ := rfl
@[simp] theorem State.setTim_mem (s : State) (f : TimSt → TimSt) : (s.setTim f).mem = s.mem := rfl
@[simp] theorem State.setTim_ecc (s : State) (f : TimSt → TimSt) : (s.setTim f).ecc = s.ecc := rfl
@[simp] theorem State.setTim_eccBase (s : State) (f : TimSt → TimSt) : (s.setTim f).eccBase = s.eccBase := rfl
@[simp] theorem State.setTim_ceLog (s : State) (f : TimSt → TimSt) : (s.setTim f).ceLog = s.ceLog := rfl
@[simp] theorem State.setTim_caps (s : State) (f : TimSt → TimSt) : (s.setTim f).caps = s.caps := rfl
@[simp] theorem State.setTim_dmas (s : State) (f : TimSt → TimSt) : (s.setTim f).dmas = s.dmas := rfl
@[simp] theorem State.setTim_commits (s : State) (f : TimSt → TimSt) : (s.setTim f).commits = s.commits := rfl
@[simp] theorem State.setTim_trans (s : State) (f : TimSt → TimSt) : (s.setTim f).trans = s.trans := rfl
@[simp] theorem State.setTim_cum (s : State) (f : TimSt → TimSt) : (s.setTim f).cum = s.cum := rfl
@[simp] theorem State.setTim_ani (s : State) (f : TimSt → TimSt) : (s.setTim f).ani = s.ani := rfl
@[simp] theorem State.setTim_beams (s : State) (f : TimSt → TimSt) : (s.setTim f).beams = s.beams := rfl
@[simp] theorem State.setTim_wts (s : State) (f : TimSt → TimSt) : (s.setTim f).wts = s.wts := rfl
@[simp] theorem State.setTim_taps (s : State) (f : TimSt → TimSt) : (s.setTim f).taps = s.taps := rfl
@[simp] theorem State.setTim_strm (s : State) (f : TimSt → TimSt) : (s.setTim f).strm = s.strm := rfl
@[simp] theorem State.setTim_dpd (s : State) (f : TimSt → TimSt) : (s.setTim f).dpd = s.dpd := rfl
@[simp] theorem State.setTim_mgmtDown (s : State) (f : TimSt → TimSt) : (s.setTim f).mgmtDown = s.mgmtDown := rfl
@[simp] theorem State.setTim_cal (s : State) (f : TimSt → TimSt) : (s.setTim f).cal = s.cal := rfl
@[simp] theorem State.setTim_ret (s : State) (f : TimSt → TimSt) : (s.setTim f).ret = s.ret := rfl
@[simp] theorem State.setTim_lanes (s : State) (f : TimSt → TimSt) : (s.setTim f).lanes = s.lanes := rfl
@[simp] theorem State.setTim_erl (s : State) (f : TimSt → TimSt) : (s.setTim f).erl = s.erl := rfl
@[simp] theorem State.setTim_snd (s : State) (f : TimSt → TimSt) : (s.setTim f).snd = s.snd := rfl
@[simp] theorem State.setTim_bc (s : State) (f : TimSt → TimSt) : (s.setTim f).bc = s.bc := rfl
@[simp] theorem State.setTim_sems (s : State) (f : TimSt → TimSt) : (s.setTim f).sems = s.sems := rfl
@[simp] theorem State.setTim_mgmt (s : State) (f : TimSt → TimSt) : (s.setTim f).mgmt = s.mgmt := rfl
@[simp] theorem State.setTim_updJobs (s : State) (f : TimSt → TimSt) : (s.setTim f).updJobs = s.updJobs := rfl
@[simp] theorem State.setTim_otp (s : State) (f : TimSt → TimSt) : (s.setTim f).otp = s.otp := rfl
@[simp] theorem State.setTim_sec (s : State) (f : TimSt → TimSt) : (s.setTim f).sec = s.sec := rfl
@[simp] theorem State.setTim_mon (s : State) (f : TimSt → TimSt) : (s.setTim f).mon = s.mon := rfl
@[simp] theorem State.setTim_bist (s : State) (f : TimSt → TimSt) : (s.setTim f).bist = s.bist := rfl
@[simp] theorem State.setTim_modes (s : State) (f : TimSt → TimSt) : (s.setTim f).modes = s.modes := rfl
@[simp] theorem State.setTim_seqAt (s : State) (f : TimSt → TimSt) : (s.setTim f).seqAt = s.seqAt := rfl
@[simp] theorem State.setTim_seqMod (s : State) (f : TimSt → TimSt) : (s.setTim f).seqMod = s.seqMod := rfl
@[simp] theorem State.setTim_srst (s : State) (f : TimSt → TimSt) : (s.setTim f).srst = s.srst := rfl
@[simp] theorem State.setTim_hk (s : State) (f : TimSt → TimSt) : (s.setTim f).hk = s.hk := rfl
@[simp] theorem State.setTim_age (s : State) (f : TimSt → TimSt) : (s.setTim f).age = s.age := rfl
@[simp] theorem State.setTim_evtNow (s : State) (f : TimSt → TimSt) : (s.setTim f).evtNow = s.evtNow := rfl
@[simp] theorem State.setTim_evtAt (s : State) (f : TimSt → TimSt) : (s.setTim f).evtAt = s.evtAt := rfl
@[simp] theorem State.setTim_pending (s : State) (f : TimSt → TimSt) : (s.setTim f).pending = s.pending := rfl
@[simp] theorem State.setTim_tim (s : State) (f : TimSt → TimSt) : (s.setTim f).tim = f s.tim := rfl
@[simp] theorem State.setTim_get (s : State) (f : TimSt → TimSt) (m : Loc) : (s.setTim f).get m = s.get m := rfl
@[simp] theorem State.setTim_on (s : State) (f : TimSt → TimSt) (m : Loc) : (s.setTim f).on m = s.on m := rfl
@[simp] theorem State.setTim_mode (s : State) (f : TimSt → TimSt) : (s.setTim f).mode = s.mode := rfl
@[simp] theorem State.setTim_inactive (s : State) (f : TimSt → TimSt) (m : Loc) : (s.setTim f).inactive m = s.inactive m := rfl

/-! ### `State.setHk` -/

@[simp] theorem State.setHk_regs (s : State) (f : HkSt → HkSt) : (s.setHk f).regs = s.regs := rfl
@[simp] theorem State.setHk_bank (s : State) (f : HkSt → HkSt) : (s.setHk f).bank = s.bank := rfl
@[simp] theorem State.setHk_seqs (s : State) (f : HkSt → HkSt) : (s.setHk f).seqs = s.seqs := rfl
@[simp] theorem State.setHk_copying (s : State) (f : HkSt → HkSt) : (s.setHk f).copying = s.copying := rfl
@[simp] theorem State.setHk_windows (s : State) (f : HkSt → HkSt) : (s.setHk f).windows = s.windows := rfl
@[simp] theorem State.setHk_triggers (s : State) (f : HkSt → HkSt) : (s.setHk f).triggers = s.triggers := rfl
@[simp] theorem State.setHk_words (s : State) (f : HkSt → HkSt) : (s.setHk f).words = s.words := rfl
@[simp] theorem State.setHk_acks (s : State) (f : HkSt → HkSt) : (s.setHk f).acks = s.acks := rfl
@[simp] theorem State.setHk_answer (s : State) (f : HkSt → HkSt) : (s.setHk f).answer = s.answer := rfl
@[simp] theorem State.setHk_latches (s : State) (f : HkSt → HkSt) : (s.setHk f).latches = s.latches := rfl
@[simp] theorem State.setHk_tb (s : State) (f : HkSt → HkSt) : (s.setHk f).tb = s.tb := rfl
@[simp] theorem State.setHk_tbRun (s : State) (f : HkSt → HkSt) : (s.setHk f).tbRun = s.tbRun := rfl
@[simp] theorem State.setHk_ao (s : State) (f : HkSt → HkSt) : (s.setHk f).ao = s.ao := rfl
@[simp] theorem State.setHk_fv (s : State) (f : HkSt → HkSt) : (s.setHk f).fv = s.fv := rfl
@[simp] theorem State.setHk_pwr (s : State) (f : HkSt → HkSt) : (s.setHk f).pwr = s.pwr := rfl
@[simp] theorem State.setHk_clk (s : State) (f : HkSt → HkSt) : (s.setHk f).clk = s.clk := rfl
@[simp] theorem State.setHk_paths (s : State) (f : HkSt → HkSt) : (s.setHk f).paths = s.paths := rfl
@[simp] theorem State.setHk_rxs (s : State) (f : HkSt → HkSt) : (s.setHk f).rxs = s.rxs := rfl
@[simp] theorem State.setHk_txs (s : State) (f : HkSt → HkSt) : (s.setHk f).txs = s.txs := rfl
@[simp] theorem State.setHk_octs (s : State) (f : HkSt → HkSt) : (s.setHk f).octs = s.octs := rfl
@[simp] theorem State.setHk_tl (s : State) (f : HkSt → HkSt) : (s.setHk f).tl = s.tl := rfl
@[simp] theorem State.setHk_bias (s : State) (f : HkSt → HkSt) : (s.setHk f).bias = s.bias := rfl
@[simp] theorem State.setHk_log (s : State) (f : HkSt → HkSt) : (s.setHk f).log = s.log := rfl
@[simp] theorem State.setHk_cores (s : State) (f : HkSt → HkSt) : (s.setHk f).cores = s.cores := rfl
@[simp] theorem State.setHk_evtQ (s : State) (f : HkSt → HkSt) : (s.setHk f).evtQ = s.evtQ := rfl
@[simp] theorem State.setHk_mem (s : State) (f : HkSt → HkSt) : (s.setHk f).mem = s.mem := rfl
@[simp] theorem State.setHk_ecc (s : State) (f : HkSt → HkSt) : (s.setHk f).ecc = s.ecc := rfl
@[simp] theorem State.setHk_eccBase (s : State) (f : HkSt → HkSt) : (s.setHk f).eccBase = s.eccBase := rfl
@[simp] theorem State.setHk_ceLog (s : State) (f : HkSt → HkSt) : (s.setHk f).ceLog = s.ceLog := rfl
@[simp] theorem State.setHk_caps (s : State) (f : HkSt → HkSt) : (s.setHk f).caps = s.caps := rfl
@[simp] theorem State.setHk_dmas (s : State) (f : HkSt → HkSt) : (s.setHk f).dmas = s.dmas := rfl
@[simp] theorem State.setHk_commits (s : State) (f : HkSt → HkSt) : (s.setHk f).commits = s.commits := rfl
@[simp] theorem State.setHk_trans (s : State) (f : HkSt → HkSt) : (s.setHk f).trans = s.trans := rfl
@[simp] theorem State.setHk_tim (s : State) (f : HkSt → HkSt) : (s.setHk f).tim = s.tim := rfl
@[simp] theorem State.setHk_cum (s : State) (f : HkSt → HkSt) : (s.setHk f).cum = s.cum := rfl
@[simp] theorem State.setHk_ani (s : State) (f : HkSt → HkSt) : (s.setHk f).ani = s.ani := rfl
@[simp] theorem State.setHk_beams (s : State) (f : HkSt → HkSt) : (s.setHk f).beams = s.beams := rfl
@[simp] theorem State.setHk_wts (s : State) (f : HkSt → HkSt) : (s.setHk f).wts = s.wts := rfl
@[simp] theorem State.setHk_taps (s : State) (f : HkSt → HkSt) : (s.setHk f).taps = s.taps := rfl
@[simp] theorem State.setHk_strm (s : State) (f : HkSt → HkSt) : (s.setHk f).strm = s.strm := rfl
@[simp] theorem State.setHk_dpd (s : State) (f : HkSt → HkSt) : (s.setHk f).dpd = s.dpd := rfl
@[simp] theorem State.setHk_mgmtDown (s : State) (f : HkSt → HkSt) : (s.setHk f).mgmtDown = s.mgmtDown := rfl
@[simp] theorem State.setHk_cal (s : State) (f : HkSt → HkSt) : (s.setHk f).cal = s.cal := rfl
@[simp] theorem State.setHk_ret (s : State) (f : HkSt → HkSt) : (s.setHk f).ret = s.ret := rfl
@[simp] theorem State.setHk_lanes (s : State) (f : HkSt → HkSt) : (s.setHk f).lanes = s.lanes := rfl
@[simp] theorem State.setHk_erl (s : State) (f : HkSt → HkSt) : (s.setHk f).erl = s.erl := rfl
@[simp] theorem State.setHk_snd (s : State) (f : HkSt → HkSt) : (s.setHk f).snd = s.snd := rfl
@[simp] theorem State.setHk_bc (s : State) (f : HkSt → HkSt) : (s.setHk f).bc = s.bc := rfl
@[simp] theorem State.setHk_sems (s : State) (f : HkSt → HkSt) : (s.setHk f).sems = s.sems := rfl
@[simp] theorem State.setHk_mgmt (s : State) (f : HkSt → HkSt) : (s.setHk f).mgmt = s.mgmt := rfl
@[simp] theorem State.setHk_updJobs (s : State) (f : HkSt → HkSt) : (s.setHk f).updJobs = s.updJobs := rfl
@[simp] theorem State.setHk_otp (s : State) (f : HkSt → HkSt) : (s.setHk f).otp = s.otp := rfl
@[simp] theorem State.setHk_sec (s : State) (f : HkSt → HkSt) : (s.setHk f).sec = s.sec := rfl
@[simp] theorem State.setHk_mon (s : State) (f : HkSt → HkSt) : (s.setHk f).mon = s.mon := rfl
@[simp] theorem State.setHk_bist (s : State) (f : HkSt → HkSt) : (s.setHk f).bist = s.bist := rfl
@[simp] theorem State.setHk_modes (s : State) (f : HkSt → HkSt) : (s.setHk f).modes = s.modes := rfl
@[simp] theorem State.setHk_seqAt (s : State) (f : HkSt → HkSt) : (s.setHk f).seqAt = s.seqAt := rfl
@[simp] theorem State.setHk_seqMod (s : State) (f : HkSt → HkSt) : (s.setHk f).seqMod = s.seqMod := rfl
@[simp] theorem State.setHk_srst (s : State) (f : HkSt → HkSt) : (s.setHk f).srst = s.srst := rfl
@[simp] theorem State.setHk_age (s : State) (f : HkSt → HkSt) : (s.setHk f).age = s.age := rfl
@[simp] theorem State.setHk_evtNow (s : State) (f : HkSt → HkSt) : (s.setHk f).evtNow = s.evtNow := rfl
@[simp] theorem State.setHk_evtAt (s : State) (f : HkSt → HkSt) : (s.setHk f).evtAt = s.evtAt := rfl
@[simp] theorem State.setHk_pending (s : State) (f : HkSt → HkSt) : (s.setHk f).pending = s.pending := rfl
@[simp] theorem State.setHk_hk (s : State) (f : HkSt → HkSt) : (s.setHk f).hk = f s.hk := rfl
@[simp] theorem State.setHk_get (s : State) (f : HkSt → HkSt) (m : Loc) : (s.setHk f).get m = s.get m := rfl
@[simp] theorem State.setHk_on (s : State) (f : HkSt → HkSt) (m : Loc) : (s.setHk f).on m = s.on m := rfl
@[simp] theorem State.setHk_mode (s : State) (f : HkSt → HkSt) : (s.setHk f).mode = s.mode := rfl
@[simp] theorem State.setHk_inactive (s : State) (f : HkSt → HkSt) (m : Loc) : (s.setHk f).inactive m = s.inactive m := rfl

/-! ### `State.setAge` -/

@[simp] theorem State.setAge_regs (s : State) (f : AgeSt → AgeSt) : (s.setAge f).regs = s.regs := rfl
@[simp] theorem State.setAge_bank (s : State) (f : AgeSt → AgeSt) : (s.setAge f).bank = s.bank := rfl
@[simp] theorem State.setAge_seqs (s : State) (f : AgeSt → AgeSt) : (s.setAge f).seqs = s.seqs := rfl
@[simp] theorem State.setAge_copying (s : State) (f : AgeSt → AgeSt) : (s.setAge f).copying = s.copying := rfl
@[simp] theorem State.setAge_windows (s : State) (f : AgeSt → AgeSt) : (s.setAge f).windows = s.windows := rfl
@[simp] theorem State.setAge_triggers (s : State) (f : AgeSt → AgeSt) : (s.setAge f).triggers = s.triggers := rfl
@[simp] theorem State.setAge_words (s : State) (f : AgeSt → AgeSt) : (s.setAge f).words = s.words := rfl
@[simp] theorem State.setAge_acks (s : State) (f : AgeSt → AgeSt) : (s.setAge f).acks = s.acks := rfl
@[simp] theorem State.setAge_answer (s : State) (f : AgeSt → AgeSt) : (s.setAge f).answer = s.answer := rfl
@[simp] theorem State.setAge_latches (s : State) (f : AgeSt → AgeSt) : (s.setAge f).latches = s.latches := rfl
@[simp] theorem State.setAge_tb (s : State) (f : AgeSt → AgeSt) : (s.setAge f).tb = s.tb := rfl
@[simp] theorem State.setAge_tbRun (s : State) (f : AgeSt → AgeSt) : (s.setAge f).tbRun = s.tbRun := rfl
@[simp] theorem State.setAge_ao (s : State) (f : AgeSt → AgeSt) : (s.setAge f).ao = s.ao := rfl
@[simp] theorem State.setAge_fv (s : State) (f : AgeSt → AgeSt) : (s.setAge f).fv = s.fv := rfl
@[simp] theorem State.setAge_pwr (s : State) (f : AgeSt → AgeSt) : (s.setAge f).pwr = s.pwr := rfl
@[simp] theorem State.setAge_clk (s : State) (f : AgeSt → AgeSt) : (s.setAge f).clk = s.clk := rfl
@[simp] theorem State.setAge_paths (s : State) (f : AgeSt → AgeSt) : (s.setAge f).paths = s.paths := rfl
@[simp] theorem State.setAge_rxs (s : State) (f : AgeSt → AgeSt) : (s.setAge f).rxs = s.rxs := rfl
@[simp] theorem State.setAge_txs (s : State) (f : AgeSt → AgeSt) : (s.setAge f).txs = s.txs := rfl
@[simp] theorem State.setAge_octs (s : State) (f : AgeSt → AgeSt) : (s.setAge f).octs = s.octs := rfl
@[simp] theorem State.setAge_tl (s : State) (f : AgeSt → AgeSt) : (s.setAge f).tl = s.tl := rfl
@[simp] theorem State.setAge_bias (s : State) (f : AgeSt → AgeSt) : (s.setAge f).bias = s.bias := rfl
@[simp] theorem State.setAge_log (s : State) (f : AgeSt → AgeSt) : (s.setAge f).log = s.log := rfl
@[simp] theorem State.setAge_cores (s : State) (f : AgeSt → AgeSt) : (s.setAge f).cores = s.cores := rfl
@[simp] theorem State.setAge_evtQ (s : State) (f : AgeSt → AgeSt) : (s.setAge f).evtQ = s.evtQ := rfl
@[simp] theorem State.setAge_mem (s : State) (f : AgeSt → AgeSt) : (s.setAge f).mem = s.mem := rfl
@[simp] theorem State.setAge_ecc (s : State) (f : AgeSt → AgeSt) : (s.setAge f).ecc = s.ecc := rfl
@[simp] theorem State.setAge_eccBase (s : State) (f : AgeSt → AgeSt) : (s.setAge f).eccBase = s.eccBase := rfl
@[simp] theorem State.setAge_ceLog (s : State) (f : AgeSt → AgeSt) : (s.setAge f).ceLog = s.ceLog := rfl
@[simp] theorem State.setAge_caps (s : State) (f : AgeSt → AgeSt) : (s.setAge f).caps = s.caps := rfl
@[simp] theorem State.setAge_dmas (s : State) (f : AgeSt → AgeSt) : (s.setAge f).dmas = s.dmas := rfl
@[simp] theorem State.setAge_commits (s : State) (f : AgeSt → AgeSt) : (s.setAge f).commits = s.commits := rfl
@[simp] theorem State.setAge_trans (s : State) (f : AgeSt → AgeSt) : (s.setAge f).trans = s.trans := rfl
@[simp] theorem State.setAge_tim (s : State) (f : AgeSt → AgeSt) : (s.setAge f).tim = s.tim := rfl
@[simp] theorem State.setAge_cum (s : State) (f : AgeSt → AgeSt) : (s.setAge f).cum = s.cum := rfl
@[simp] theorem State.setAge_ani (s : State) (f : AgeSt → AgeSt) : (s.setAge f).ani = s.ani := rfl
@[simp] theorem State.setAge_beams (s : State) (f : AgeSt → AgeSt) : (s.setAge f).beams = s.beams := rfl
@[simp] theorem State.setAge_wts (s : State) (f : AgeSt → AgeSt) : (s.setAge f).wts = s.wts := rfl
@[simp] theorem State.setAge_taps (s : State) (f : AgeSt → AgeSt) : (s.setAge f).taps = s.taps := rfl
@[simp] theorem State.setAge_strm (s : State) (f : AgeSt → AgeSt) : (s.setAge f).strm = s.strm := rfl
@[simp] theorem State.setAge_dpd (s : State) (f : AgeSt → AgeSt) : (s.setAge f).dpd = s.dpd := rfl
@[simp] theorem State.setAge_mgmtDown (s : State) (f : AgeSt → AgeSt) : (s.setAge f).mgmtDown = s.mgmtDown := rfl
@[simp] theorem State.setAge_cal (s : State) (f : AgeSt → AgeSt) : (s.setAge f).cal = s.cal := rfl
@[simp] theorem State.setAge_ret (s : State) (f : AgeSt → AgeSt) : (s.setAge f).ret = s.ret := rfl
@[simp] theorem State.setAge_lanes (s : State) (f : AgeSt → AgeSt) : (s.setAge f).lanes = s.lanes := rfl
@[simp] theorem State.setAge_erl (s : State) (f : AgeSt → AgeSt) : (s.setAge f).erl = s.erl := rfl
@[simp] theorem State.setAge_snd (s : State) (f : AgeSt → AgeSt) : (s.setAge f).snd = s.snd := rfl
@[simp] theorem State.setAge_bc (s : State) (f : AgeSt → AgeSt) : (s.setAge f).bc = s.bc := rfl
@[simp] theorem State.setAge_sems (s : State) (f : AgeSt → AgeSt) : (s.setAge f).sems = s.sems := rfl
@[simp] theorem State.setAge_mgmt (s : State) (f : AgeSt → AgeSt) : (s.setAge f).mgmt = s.mgmt := rfl
@[simp] theorem State.setAge_updJobs (s : State) (f : AgeSt → AgeSt) : (s.setAge f).updJobs = s.updJobs := rfl
@[simp] theorem State.setAge_otp (s : State) (f : AgeSt → AgeSt) : (s.setAge f).otp = s.otp := rfl
@[simp] theorem State.setAge_sec (s : State) (f : AgeSt → AgeSt) : (s.setAge f).sec = s.sec := rfl
@[simp] theorem State.setAge_mon (s : State) (f : AgeSt → AgeSt) : (s.setAge f).mon = s.mon := rfl
@[simp] theorem State.setAge_bist (s : State) (f : AgeSt → AgeSt) : (s.setAge f).bist = s.bist := rfl
@[simp] theorem State.setAge_modes (s : State) (f : AgeSt → AgeSt) : (s.setAge f).modes = s.modes := rfl
@[simp] theorem State.setAge_seqAt (s : State) (f : AgeSt → AgeSt) : (s.setAge f).seqAt = s.seqAt := rfl
@[simp] theorem State.setAge_seqMod (s : State) (f : AgeSt → AgeSt) : (s.setAge f).seqMod = s.seqMod := rfl
@[simp] theorem State.setAge_srst (s : State) (f : AgeSt → AgeSt) : (s.setAge f).srst = s.srst := rfl
@[simp] theorem State.setAge_hk (s : State) (f : AgeSt → AgeSt) : (s.setAge f).hk = s.hk := rfl
@[simp] theorem State.setAge_evtNow (s : State) (f : AgeSt → AgeSt) : (s.setAge f).evtNow = s.evtNow := rfl
@[simp] theorem State.setAge_evtAt (s : State) (f : AgeSt → AgeSt) : (s.setAge f).evtAt = s.evtAt := rfl
@[simp] theorem State.setAge_pending (s : State) (f : AgeSt → AgeSt) : (s.setAge f).pending = s.pending := rfl
@[simp] theorem State.setAge_age (s : State) (f : AgeSt → AgeSt) : (s.setAge f).age = f s.age := rfl
@[simp] theorem State.setAge_get (s : State) (f : AgeSt → AgeSt) (m : Loc) : (s.setAge f).get m = s.get m := rfl
@[simp] theorem State.setAge_on (s : State) (f : AgeSt → AgeSt) (m : Loc) : (s.setAge f).on m = s.on m := rfl
@[simp] theorem State.setAge_mode (s : State) (f : AgeSt → AgeSt) : (s.setAge f).mode = s.mode := rfl
@[simp] theorem State.setAge_inactive (s : State) (f : AgeSt → AgeSt) (m : Loc) : (s.setAge f).inactive m = s.inactive m := rfl

/-! ### `State.setLog` -/

@[simp] theorem State.setLog_regs (s : State) (f : LogSt → LogSt) : (s.setLog f).regs = s.regs := rfl
@[simp] theorem State.setLog_bank (s : State) (f : LogSt → LogSt) : (s.setLog f).bank = s.bank := rfl
@[simp] theorem State.setLog_seqs (s : State) (f : LogSt → LogSt) : (s.setLog f).seqs = s.seqs := rfl
@[simp] theorem State.setLog_copying (s : State) (f : LogSt → LogSt) : (s.setLog f).copying = s.copying := rfl
@[simp] theorem State.setLog_windows (s : State) (f : LogSt → LogSt) : (s.setLog f).windows = s.windows := rfl
@[simp] theorem State.setLog_triggers (s : State) (f : LogSt → LogSt) : (s.setLog f).triggers = s.triggers := rfl
@[simp] theorem State.setLog_words (s : State) (f : LogSt → LogSt) : (s.setLog f).words = s.words := rfl
@[simp] theorem State.setLog_acks (s : State) (f : LogSt → LogSt) : (s.setLog f).acks = s.acks := rfl
@[simp] theorem State.setLog_answer (s : State) (f : LogSt → LogSt) : (s.setLog f).answer = s.answer := rfl
@[simp] theorem State.setLog_latches (s : State) (f : LogSt → LogSt) : (s.setLog f).latches = s.latches := rfl
@[simp] theorem State.setLog_tb (s : State) (f : LogSt → LogSt) : (s.setLog f).tb = s.tb := rfl
@[simp] theorem State.setLog_tbRun (s : State) (f : LogSt → LogSt) : (s.setLog f).tbRun = s.tbRun := rfl
@[simp] theorem State.setLog_ao (s : State) (f : LogSt → LogSt) : (s.setLog f).ao = s.ao := rfl
@[simp] theorem State.setLog_fv (s : State) (f : LogSt → LogSt) : (s.setLog f).fv = s.fv := rfl
@[simp] theorem State.setLog_pwr (s : State) (f : LogSt → LogSt) : (s.setLog f).pwr = s.pwr := rfl
@[simp] theorem State.setLog_clk (s : State) (f : LogSt → LogSt) : (s.setLog f).clk = s.clk := rfl
@[simp] theorem State.setLog_paths (s : State) (f : LogSt → LogSt) : (s.setLog f).paths = s.paths := rfl
@[simp] theorem State.setLog_rxs (s : State) (f : LogSt → LogSt) : (s.setLog f).rxs = s.rxs := rfl
@[simp] theorem State.setLog_txs (s : State) (f : LogSt → LogSt) : (s.setLog f).txs = s.txs := rfl
@[simp] theorem State.setLog_octs (s : State) (f : LogSt → LogSt) : (s.setLog f).octs = s.octs := rfl
@[simp] theorem State.setLog_tl (s : State) (f : LogSt → LogSt) : (s.setLog f).tl = s.tl := rfl
@[simp] theorem State.setLog_bias (s : State) (f : LogSt → LogSt) : (s.setLog f).bias = s.bias := rfl
@[simp] theorem State.setLog_cores (s : State) (f : LogSt → LogSt) : (s.setLog f).cores = s.cores := rfl
@[simp] theorem State.setLog_evtQ (s : State) (f : LogSt → LogSt) : (s.setLog f).evtQ = s.evtQ := rfl
@[simp] theorem State.setLog_mem (s : State) (f : LogSt → LogSt) : (s.setLog f).mem = s.mem := rfl
@[simp] theorem State.setLog_ecc (s : State) (f : LogSt → LogSt) : (s.setLog f).ecc = s.ecc := rfl
@[simp] theorem State.setLog_eccBase (s : State) (f : LogSt → LogSt) : (s.setLog f).eccBase = s.eccBase := rfl
@[simp] theorem State.setLog_ceLog (s : State) (f : LogSt → LogSt) : (s.setLog f).ceLog = s.ceLog := rfl
@[simp] theorem State.setLog_caps (s : State) (f : LogSt → LogSt) : (s.setLog f).caps = s.caps := rfl
@[simp] theorem State.setLog_dmas (s : State) (f : LogSt → LogSt) : (s.setLog f).dmas = s.dmas := rfl
@[simp] theorem State.setLog_commits (s : State) (f : LogSt → LogSt) : (s.setLog f).commits = s.commits := rfl
@[simp] theorem State.setLog_trans (s : State) (f : LogSt → LogSt) : (s.setLog f).trans = s.trans := rfl
@[simp] theorem State.setLog_tim (s : State) (f : LogSt → LogSt) : (s.setLog f).tim = s.tim := rfl
@[simp] theorem State.setLog_cum (s : State) (f : LogSt → LogSt) : (s.setLog f).cum = s.cum := rfl
@[simp] theorem State.setLog_ani (s : State) (f : LogSt → LogSt) : (s.setLog f).ani = s.ani := rfl
@[simp] theorem State.setLog_beams (s : State) (f : LogSt → LogSt) : (s.setLog f).beams = s.beams := rfl
@[simp] theorem State.setLog_wts (s : State) (f : LogSt → LogSt) : (s.setLog f).wts = s.wts := rfl
@[simp] theorem State.setLog_taps (s : State) (f : LogSt → LogSt) : (s.setLog f).taps = s.taps := rfl
@[simp] theorem State.setLog_strm (s : State) (f : LogSt → LogSt) : (s.setLog f).strm = s.strm := rfl
@[simp] theorem State.setLog_dpd (s : State) (f : LogSt → LogSt) : (s.setLog f).dpd = s.dpd := rfl
@[simp] theorem State.setLog_mgmtDown (s : State) (f : LogSt → LogSt) : (s.setLog f).mgmtDown = s.mgmtDown := rfl
@[simp] theorem State.setLog_cal (s : State) (f : LogSt → LogSt) : (s.setLog f).cal = s.cal := rfl
@[simp] theorem State.setLog_ret (s : State) (f : LogSt → LogSt) : (s.setLog f).ret = s.ret := rfl
@[simp] theorem State.setLog_lanes (s : State) (f : LogSt → LogSt) : (s.setLog f).lanes = s.lanes := rfl
@[simp] theorem State.setLog_erl (s : State) (f : LogSt → LogSt) : (s.setLog f).erl = s.erl := rfl
@[simp] theorem State.setLog_snd (s : State) (f : LogSt → LogSt) : (s.setLog f).snd = s.snd := rfl
@[simp] theorem State.setLog_bc (s : State) (f : LogSt → LogSt) : (s.setLog f).bc = s.bc := rfl
@[simp] theorem State.setLog_sems (s : State) (f : LogSt → LogSt) : (s.setLog f).sems = s.sems := rfl
@[simp] theorem State.setLog_mgmt (s : State) (f : LogSt → LogSt) : (s.setLog f).mgmt = s.mgmt := rfl
@[simp] theorem State.setLog_updJobs (s : State) (f : LogSt → LogSt) : (s.setLog f).updJobs = s.updJobs := rfl
@[simp] theorem State.setLog_otp (s : State) (f : LogSt → LogSt) : (s.setLog f).otp = s.otp := rfl
@[simp] theorem State.setLog_sec (s : State) (f : LogSt → LogSt) : (s.setLog f).sec = s.sec := rfl
@[simp] theorem State.setLog_mon (s : State) (f : LogSt → LogSt) : (s.setLog f).mon = s.mon := rfl
@[simp] theorem State.setLog_bist (s : State) (f : LogSt → LogSt) : (s.setLog f).bist = s.bist := rfl
@[simp] theorem State.setLog_modes (s : State) (f : LogSt → LogSt) : (s.setLog f).modes = s.modes := rfl
@[simp] theorem State.setLog_seqAt (s : State) (f : LogSt → LogSt) : (s.setLog f).seqAt = s.seqAt := rfl
@[simp] theorem State.setLog_seqMod (s : State) (f : LogSt → LogSt) : (s.setLog f).seqMod = s.seqMod := rfl
@[simp] theorem State.setLog_srst (s : State) (f : LogSt → LogSt) : (s.setLog f).srst = s.srst := rfl
@[simp] theorem State.setLog_hk (s : State) (f : LogSt → LogSt) : (s.setLog f).hk = s.hk := rfl
@[simp] theorem State.setLog_age (s : State) (f : LogSt → LogSt) : (s.setLog f).age = s.age := rfl
@[simp] theorem State.setLog_evtNow (s : State) (f : LogSt → LogSt) : (s.setLog f).evtNow = s.evtNow := rfl
@[simp] theorem State.setLog_evtAt (s : State) (f : LogSt → LogSt) : (s.setLog f).evtAt = s.evtAt := rfl
@[simp] theorem State.setLog_pending (s : State) (f : LogSt → LogSt) : (s.setLog f).pending = s.pending := rfl
@[simp] theorem State.setLog_log (s : State) (f : LogSt → LogSt) : (s.setLog f).log = f s.log := rfl
@[simp] theorem State.setLog_get (s : State) (f : LogSt → LogSt) (m : Loc) : (s.setLog f).get m = s.get m := rfl
@[simp] theorem State.setLog_on (s : State) (f : LogSt → LogSt) (m : Loc) : (s.setLog f).on m = s.on m := rfl
@[simp] theorem State.setLog_mode (s : State) (f : LogSt → LogSt) : (s.setLog f).mode = s.mode := rfl
@[simp] theorem State.setLog_inactive (s : State) (f : LogSt → LogSt) (m : Loc) : (s.setLog f).inactive m = s.inactive m := rfl

/-! ### `State.setMgmt` -/

@[simp] theorem State.setMgmt_regs (s : State) (f : MgmtSt → MgmtSt) : (s.setMgmt f).regs = s.regs := rfl
@[simp] theorem State.setMgmt_bank (s : State) (f : MgmtSt → MgmtSt) : (s.setMgmt f).bank = s.bank := rfl
@[simp] theorem State.setMgmt_seqs (s : State) (f : MgmtSt → MgmtSt) : (s.setMgmt f).seqs = s.seqs := rfl
@[simp] theorem State.setMgmt_copying (s : State) (f : MgmtSt → MgmtSt) : (s.setMgmt f).copying = s.copying := rfl
@[simp] theorem State.setMgmt_windows (s : State) (f : MgmtSt → MgmtSt) : (s.setMgmt f).windows = s.windows := rfl
@[simp] theorem State.setMgmt_triggers (s : State) (f : MgmtSt → MgmtSt) : (s.setMgmt f).triggers = s.triggers := rfl
@[simp] theorem State.setMgmt_words (s : State) (f : MgmtSt → MgmtSt) : (s.setMgmt f).words = s.words := rfl
@[simp] theorem State.setMgmt_acks (s : State) (f : MgmtSt → MgmtSt) : (s.setMgmt f).acks = s.acks := rfl
@[simp] theorem State.setMgmt_answer (s : State) (f : MgmtSt → MgmtSt) : (s.setMgmt f).answer = s.answer := rfl
@[simp] theorem State.setMgmt_latches (s : State) (f : MgmtSt → MgmtSt) : (s.setMgmt f).latches = s.latches := rfl
@[simp] theorem State.setMgmt_tb (s : State) (f : MgmtSt → MgmtSt) : (s.setMgmt f).tb = s.tb := rfl
@[simp] theorem State.setMgmt_tbRun (s : State) (f : MgmtSt → MgmtSt) : (s.setMgmt f).tbRun = s.tbRun := rfl
@[simp] theorem State.setMgmt_ao (s : State) (f : MgmtSt → MgmtSt) : (s.setMgmt f).ao = s.ao := rfl
@[simp] theorem State.setMgmt_fv (s : State) (f : MgmtSt → MgmtSt) : (s.setMgmt f).fv = s.fv := rfl
@[simp] theorem State.setMgmt_pwr (s : State) (f : MgmtSt → MgmtSt) : (s.setMgmt f).pwr = s.pwr := rfl
@[simp] theorem State.setMgmt_clk (s : State) (f : MgmtSt → MgmtSt) : (s.setMgmt f).clk = s.clk := rfl
@[simp] theorem State.setMgmt_paths (s : State) (f : MgmtSt → MgmtSt) : (s.setMgmt f).paths = s.paths := rfl
@[simp] theorem State.setMgmt_rxs (s : State) (f : MgmtSt → MgmtSt) : (s.setMgmt f).rxs = s.rxs := rfl
@[simp] theorem State.setMgmt_txs (s : State) (f : MgmtSt → MgmtSt) : (s.setMgmt f).txs = s.txs := rfl
@[simp] theorem State.setMgmt_octs (s : State) (f : MgmtSt → MgmtSt) : (s.setMgmt f).octs = s.octs := rfl
@[simp] theorem State.setMgmt_tl (s : State) (f : MgmtSt → MgmtSt) : (s.setMgmt f).tl = s.tl := rfl
@[simp] theorem State.setMgmt_bias (s : State) (f : MgmtSt → MgmtSt) : (s.setMgmt f).bias = s.bias := rfl
@[simp] theorem State.setMgmt_log (s : State) (f : MgmtSt → MgmtSt) : (s.setMgmt f).log = s.log := rfl
@[simp] theorem State.setMgmt_cores (s : State) (f : MgmtSt → MgmtSt) : (s.setMgmt f).cores = s.cores := rfl
@[simp] theorem State.setMgmt_evtQ (s : State) (f : MgmtSt → MgmtSt) : (s.setMgmt f).evtQ = s.evtQ := rfl
@[simp] theorem State.setMgmt_mem (s : State) (f : MgmtSt → MgmtSt) : (s.setMgmt f).mem = s.mem := rfl
@[simp] theorem State.setMgmt_ecc (s : State) (f : MgmtSt → MgmtSt) : (s.setMgmt f).ecc = s.ecc := rfl
@[simp] theorem State.setMgmt_eccBase (s : State) (f : MgmtSt → MgmtSt) : (s.setMgmt f).eccBase = s.eccBase := rfl
@[simp] theorem State.setMgmt_ceLog (s : State) (f : MgmtSt → MgmtSt) : (s.setMgmt f).ceLog = s.ceLog := rfl
@[simp] theorem State.setMgmt_caps (s : State) (f : MgmtSt → MgmtSt) : (s.setMgmt f).caps = s.caps := rfl
@[simp] theorem State.setMgmt_dmas (s : State) (f : MgmtSt → MgmtSt) : (s.setMgmt f).dmas = s.dmas := rfl
@[simp] theorem State.setMgmt_commits (s : State) (f : MgmtSt → MgmtSt) : (s.setMgmt f).commits = s.commits := rfl
@[simp] theorem State.setMgmt_trans (s : State) (f : MgmtSt → MgmtSt) : (s.setMgmt f).trans = s.trans := rfl
@[simp] theorem State.setMgmt_tim (s : State) (f : MgmtSt → MgmtSt) : (s.setMgmt f).tim = s.tim := rfl
@[simp] theorem State.setMgmt_cum (s : State) (f : MgmtSt → MgmtSt) : (s.setMgmt f).cum = s.cum := rfl
@[simp] theorem State.setMgmt_ani (s : State) (f : MgmtSt → MgmtSt) : (s.setMgmt f).ani = s.ani := rfl
@[simp] theorem State.setMgmt_beams (s : State) (f : MgmtSt → MgmtSt) : (s.setMgmt f).beams = s.beams := rfl
@[simp] theorem State.setMgmt_wts (s : State) (f : MgmtSt → MgmtSt) : (s.setMgmt f).wts = s.wts := rfl
@[simp] theorem State.setMgmt_taps (s : State) (f : MgmtSt → MgmtSt) : (s.setMgmt f).taps = s.taps := rfl
@[simp] theorem State.setMgmt_strm (s : State) (f : MgmtSt → MgmtSt) : (s.setMgmt f).strm = s.strm := rfl
@[simp] theorem State.setMgmt_dpd (s : State) (f : MgmtSt → MgmtSt) : (s.setMgmt f).dpd = s.dpd := rfl
@[simp] theorem State.setMgmt_mgmtDown (s : State) (f : MgmtSt → MgmtSt) : (s.setMgmt f).mgmtDown = s.mgmtDown := rfl
@[simp] theorem State.setMgmt_cal (s : State) (f : MgmtSt → MgmtSt) : (s.setMgmt f).cal = s.cal := rfl
@[simp] theorem State.setMgmt_ret (s : State) (f : MgmtSt → MgmtSt) : (s.setMgmt f).ret = s.ret := rfl
@[simp] theorem State.setMgmt_lanes (s : State) (f : MgmtSt → MgmtSt) : (s.setMgmt f).lanes = s.lanes := rfl
@[simp] theorem State.setMgmt_erl (s : State) (f : MgmtSt → MgmtSt) : (s.setMgmt f).erl = s.erl := rfl
@[simp] theorem State.setMgmt_snd (s : State) (f : MgmtSt → MgmtSt) : (s.setMgmt f).snd = s.snd := rfl
@[simp] theorem State.setMgmt_bc (s : State) (f : MgmtSt → MgmtSt) : (s.setMgmt f).bc = s.bc := rfl
@[simp] theorem State.setMgmt_sems (s : State) (f : MgmtSt → MgmtSt) : (s.setMgmt f).sems = s.sems := rfl
@[simp] theorem State.setMgmt_updJobs (s : State) (f : MgmtSt → MgmtSt) : (s.setMgmt f).updJobs = s.updJobs := rfl
@[simp] theorem State.setMgmt_otp (s : State) (f : MgmtSt → MgmtSt) : (s.setMgmt f).otp = s.otp := rfl
@[simp] theorem State.setMgmt_sec (s : State) (f : MgmtSt → MgmtSt) : (s.setMgmt f).sec = s.sec := rfl
@[simp] theorem State.setMgmt_mon (s : State) (f : MgmtSt → MgmtSt) : (s.setMgmt f).mon = s.mon := rfl
@[simp] theorem State.setMgmt_bist (s : State) (f : MgmtSt → MgmtSt) : (s.setMgmt f).bist = s.bist := rfl
@[simp] theorem State.setMgmt_modes (s : State) (f : MgmtSt → MgmtSt) : (s.setMgmt f).modes = s.modes := rfl
@[simp] theorem State.setMgmt_seqAt (s : State) (f : MgmtSt → MgmtSt) : (s.setMgmt f).seqAt = s.seqAt := rfl
@[simp] theorem State.setMgmt_seqMod (s : State) (f : MgmtSt → MgmtSt) : (s.setMgmt f).seqMod = s.seqMod := rfl
@[simp] theorem State.setMgmt_srst (s : State) (f : MgmtSt → MgmtSt) : (s.setMgmt f).srst = s.srst := rfl
@[simp] theorem State.setMgmt_hk (s : State) (f : MgmtSt → MgmtSt) : (s.setMgmt f).hk = s.hk := rfl
@[simp] theorem State.setMgmt_age (s : State) (f : MgmtSt → MgmtSt) : (s.setMgmt f).age = s.age := rfl
@[simp] theorem State.setMgmt_evtNow (s : State) (f : MgmtSt → MgmtSt) : (s.setMgmt f).evtNow = s.evtNow := rfl
@[simp] theorem State.setMgmt_evtAt (s : State) (f : MgmtSt → MgmtSt) : (s.setMgmt f).evtAt = s.evtAt := rfl
@[simp] theorem State.setMgmt_pending (s : State) (f : MgmtSt → MgmtSt) : (s.setMgmt f).pending = s.pending := rfl
@[simp] theorem State.setMgmt_mgmt (s : State) (f : MgmtSt → MgmtSt) : (s.setMgmt f).mgmt = f s.mgmt := rfl
@[simp] theorem State.setMgmt_get (s : State) (f : MgmtSt → MgmtSt) (m : Loc) : (s.setMgmt f).get m = s.get m := rfl
@[simp] theorem State.setMgmt_on (s : State) (f : MgmtSt → MgmtSt) (m : Loc) : (s.setMgmt f).on m = s.on m := rfl
@[simp] theorem State.setMgmt_mode (s : State) (f : MgmtSt → MgmtSt) : (s.setMgmt f).mode = s.mode := rfl
@[simp] theorem State.setMgmt_inactive (s : State) (f : MgmtSt → MgmtSt) (m : Loc) : (s.setMgmt f).inactive m = s.inactive m := rfl

/-! ### `State.setModes` -/

@[simp] theorem State.setModes_regs (s : State) (f : ModeSt → ModeSt) : (s.setModes f).regs = s.regs := rfl
@[simp] theorem State.setModes_bank (s : State) (f : ModeSt → ModeSt) : (s.setModes f).bank = s.bank := rfl
@[simp] theorem State.setModes_seqs (s : State) (f : ModeSt → ModeSt) : (s.setModes f).seqs = s.seqs := rfl
@[simp] theorem State.setModes_copying (s : State) (f : ModeSt → ModeSt) : (s.setModes f).copying = s.copying := rfl
@[simp] theorem State.setModes_windows (s : State) (f : ModeSt → ModeSt) : (s.setModes f).windows = s.windows := rfl
@[simp] theorem State.setModes_triggers (s : State) (f : ModeSt → ModeSt) : (s.setModes f).triggers = s.triggers := rfl
@[simp] theorem State.setModes_words (s : State) (f : ModeSt → ModeSt) : (s.setModes f).words = s.words := rfl
@[simp] theorem State.setModes_acks (s : State) (f : ModeSt → ModeSt) : (s.setModes f).acks = s.acks := rfl
@[simp] theorem State.setModes_answer (s : State) (f : ModeSt → ModeSt) : (s.setModes f).answer = s.answer := rfl
@[simp] theorem State.setModes_latches (s : State) (f : ModeSt → ModeSt) : (s.setModes f).latches = s.latches := rfl
@[simp] theorem State.setModes_tb (s : State) (f : ModeSt → ModeSt) : (s.setModes f).tb = s.tb := rfl
@[simp] theorem State.setModes_tbRun (s : State) (f : ModeSt → ModeSt) : (s.setModes f).tbRun = s.tbRun := rfl
@[simp] theorem State.setModes_ao (s : State) (f : ModeSt → ModeSt) : (s.setModes f).ao = s.ao := rfl
@[simp] theorem State.setModes_fv (s : State) (f : ModeSt → ModeSt) : (s.setModes f).fv = s.fv := rfl
@[simp] theorem State.setModes_pwr (s : State) (f : ModeSt → ModeSt) : (s.setModes f).pwr = s.pwr := rfl
@[simp] theorem State.setModes_clk (s : State) (f : ModeSt → ModeSt) : (s.setModes f).clk = s.clk := rfl
@[simp] theorem State.setModes_paths (s : State) (f : ModeSt → ModeSt) : (s.setModes f).paths = s.paths := rfl
@[simp] theorem State.setModes_rxs (s : State) (f : ModeSt → ModeSt) : (s.setModes f).rxs = s.rxs := rfl
@[simp] theorem State.setModes_txs (s : State) (f : ModeSt → ModeSt) : (s.setModes f).txs = s.txs := rfl
@[simp] theorem State.setModes_octs (s : State) (f : ModeSt → ModeSt) : (s.setModes f).octs = s.octs := rfl
@[simp] theorem State.setModes_tl (s : State) (f : ModeSt → ModeSt) : (s.setModes f).tl = s.tl := rfl
@[simp] theorem State.setModes_bias (s : State) (f : ModeSt → ModeSt) : (s.setModes f).bias = s.bias := rfl
@[simp] theorem State.setModes_log (s : State) (f : ModeSt → ModeSt) : (s.setModes f).log = s.log := rfl
@[simp] theorem State.setModes_cores (s : State) (f : ModeSt → ModeSt) : (s.setModes f).cores = s.cores := rfl
@[simp] theorem State.setModes_evtQ (s : State) (f : ModeSt → ModeSt) : (s.setModes f).evtQ = s.evtQ := rfl
@[simp] theorem State.setModes_mem (s : State) (f : ModeSt → ModeSt) : (s.setModes f).mem = s.mem := rfl
@[simp] theorem State.setModes_ecc (s : State) (f : ModeSt → ModeSt) : (s.setModes f).ecc = s.ecc := rfl
@[simp] theorem State.setModes_eccBase (s : State) (f : ModeSt → ModeSt) : (s.setModes f).eccBase = s.eccBase := rfl
@[simp] theorem State.setModes_ceLog (s : State) (f : ModeSt → ModeSt) : (s.setModes f).ceLog = s.ceLog := rfl
@[simp] theorem State.setModes_caps (s : State) (f : ModeSt → ModeSt) : (s.setModes f).caps = s.caps := rfl
@[simp] theorem State.setModes_dmas (s : State) (f : ModeSt → ModeSt) : (s.setModes f).dmas = s.dmas := rfl
@[simp] theorem State.setModes_commits (s : State) (f : ModeSt → ModeSt) : (s.setModes f).commits = s.commits := rfl
@[simp] theorem State.setModes_trans (s : State) (f : ModeSt → ModeSt) : (s.setModes f).trans = s.trans := rfl
@[simp] theorem State.setModes_tim (s : State) (f : ModeSt → ModeSt) : (s.setModes f).tim = s.tim := rfl
@[simp] theorem State.setModes_cum (s : State) (f : ModeSt → ModeSt) : (s.setModes f).cum = s.cum := rfl
@[simp] theorem State.setModes_ani (s : State) (f : ModeSt → ModeSt) : (s.setModes f).ani = s.ani := rfl
@[simp] theorem State.setModes_beams (s : State) (f : ModeSt → ModeSt) : (s.setModes f).beams = s.beams := rfl
@[simp] theorem State.setModes_wts (s : State) (f : ModeSt → ModeSt) : (s.setModes f).wts = s.wts := rfl
@[simp] theorem State.setModes_taps (s : State) (f : ModeSt → ModeSt) : (s.setModes f).taps = s.taps := rfl
@[simp] theorem State.setModes_strm (s : State) (f : ModeSt → ModeSt) : (s.setModes f).strm = s.strm := rfl
@[simp] theorem State.setModes_dpd (s : State) (f : ModeSt → ModeSt) : (s.setModes f).dpd = s.dpd := rfl
@[simp] theorem State.setModes_mgmtDown (s : State) (f : ModeSt → ModeSt) : (s.setModes f).mgmtDown = s.mgmtDown := rfl
@[simp] theorem State.setModes_cal (s : State) (f : ModeSt → ModeSt) : (s.setModes f).cal = s.cal := rfl
@[simp] theorem State.setModes_ret (s : State) (f : ModeSt → ModeSt) : (s.setModes f).ret = s.ret := rfl
@[simp] theorem State.setModes_lanes (s : State) (f : ModeSt → ModeSt) : (s.setModes f).lanes = s.lanes := rfl
@[simp] theorem State.setModes_erl (s : State) (f : ModeSt → ModeSt) : (s.setModes f).erl = s.erl := rfl
@[simp] theorem State.setModes_snd (s : State) (f : ModeSt → ModeSt) : (s.setModes f).snd = s.snd := rfl
@[simp] theorem State.setModes_bc (s : State) (f : ModeSt → ModeSt) : (s.setModes f).bc = s.bc := rfl
@[simp] theorem State.setModes_sems (s : State) (f : ModeSt → ModeSt) : (s.setModes f).sems = s.sems := rfl
@[simp] theorem State.setModes_mgmt (s : State) (f : ModeSt → ModeSt) : (s.setModes f).mgmt = s.mgmt := rfl
@[simp] theorem State.setModes_updJobs (s : State) (f : ModeSt → ModeSt) : (s.setModes f).updJobs = s.updJobs := rfl
@[simp] theorem State.setModes_otp (s : State) (f : ModeSt → ModeSt) : (s.setModes f).otp = s.otp := rfl
@[simp] theorem State.setModes_sec (s : State) (f : ModeSt → ModeSt) : (s.setModes f).sec = s.sec := rfl
@[simp] theorem State.setModes_mon (s : State) (f : ModeSt → ModeSt) : (s.setModes f).mon = s.mon := rfl
@[simp] theorem State.setModes_bist (s : State) (f : ModeSt → ModeSt) : (s.setModes f).bist = s.bist := rfl
@[simp] theorem State.setModes_seqAt (s : State) (f : ModeSt → ModeSt) : (s.setModes f).seqAt = s.seqAt := rfl
@[simp] theorem State.setModes_seqMod (s : State) (f : ModeSt → ModeSt) : (s.setModes f).seqMod = s.seqMod := rfl
@[simp] theorem State.setModes_srst (s : State) (f : ModeSt → ModeSt) : (s.setModes f).srst = s.srst := rfl
@[simp] theorem State.setModes_hk (s : State) (f : ModeSt → ModeSt) : (s.setModes f).hk = s.hk := rfl
@[simp] theorem State.setModes_age (s : State) (f : ModeSt → ModeSt) : (s.setModes f).age = s.age := rfl
@[simp] theorem State.setModes_evtNow (s : State) (f : ModeSt → ModeSt) : (s.setModes f).evtNow = s.evtNow := rfl
@[simp] theorem State.setModes_evtAt (s : State) (f : ModeSt → ModeSt) : (s.setModes f).evtAt = s.evtAt := rfl
@[simp] theorem State.setModes_pending (s : State) (f : ModeSt → ModeSt) : (s.setModes f).pending = s.pending := rfl
@[simp] theorem State.setModes_modes (s : State) (f : ModeSt → ModeSt) : (s.setModes f).modes = f s.modes := rfl
@[simp] theorem State.setModes_get (s : State) (f : ModeSt → ModeSt) (m : Loc) : (s.setModes f).get m = s.get m := rfl
@[simp] theorem State.setModes_on (s : State) (f : ModeSt → ModeSt) (m : Loc) : (s.setModes f).on m = s.on m := rfl
@[simp] theorem State.setModes_mode (s : State) (f : ModeSt → ModeSt) : (s.setModes f).mode = s.mode := rfl
@[simp] theorem State.setModes_inactive (s : State) (f : ModeSt → ModeSt) (m : Loc) : (s.setModes f).inactive m = s.inactive m := rfl

/-! ### `State.setPwr` -/

@[simp] theorem State.setPwr_regs (s : State) (f : PowerSt → PowerSt) : (s.setPwr f).regs = s.regs := rfl
@[simp] theorem State.setPwr_bank (s : State) (f : PowerSt → PowerSt) : (s.setPwr f).bank = s.bank := rfl
@[simp] theorem State.setPwr_seqs (s : State) (f : PowerSt → PowerSt) : (s.setPwr f).seqs = s.seqs := rfl
@[simp] theorem State.setPwr_copying (s : State) (f : PowerSt → PowerSt) : (s.setPwr f).copying = s.copying := rfl
@[simp] theorem State.setPwr_windows (s : State) (f : PowerSt → PowerSt) : (s.setPwr f).windows = s.windows := rfl
@[simp] theorem State.setPwr_triggers (s : State) (f : PowerSt → PowerSt) : (s.setPwr f).triggers = s.triggers := rfl
@[simp] theorem State.setPwr_words (s : State) (f : PowerSt → PowerSt) : (s.setPwr f).words = s.words := rfl
@[simp] theorem State.setPwr_acks (s : State) (f : PowerSt → PowerSt) : (s.setPwr f).acks = s.acks := rfl
@[simp] theorem State.setPwr_answer (s : State) (f : PowerSt → PowerSt) : (s.setPwr f).answer = s.answer := rfl
@[simp] theorem State.setPwr_latches (s : State) (f : PowerSt → PowerSt) : (s.setPwr f).latches = s.latches := rfl
@[simp] theorem State.setPwr_tb (s : State) (f : PowerSt → PowerSt) : (s.setPwr f).tb = s.tb := rfl
@[simp] theorem State.setPwr_tbRun (s : State) (f : PowerSt → PowerSt) : (s.setPwr f).tbRun = s.tbRun := rfl
@[simp] theorem State.setPwr_ao (s : State) (f : PowerSt → PowerSt) : (s.setPwr f).ao = s.ao := rfl
@[simp] theorem State.setPwr_fv (s : State) (f : PowerSt → PowerSt) : (s.setPwr f).fv = s.fv := rfl
@[simp] theorem State.setPwr_clk (s : State) (f : PowerSt → PowerSt) : (s.setPwr f).clk = s.clk := rfl
@[simp] theorem State.setPwr_paths (s : State) (f : PowerSt → PowerSt) : (s.setPwr f).paths = s.paths := rfl
@[simp] theorem State.setPwr_rxs (s : State) (f : PowerSt → PowerSt) : (s.setPwr f).rxs = s.rxs := rfl
@[simp] theorem State.setPwr_txs (s : State) (f : PowerSt → PowerSt) : (s.setPwr f).txs = s.txs := rfl
@[simp] theorem State.setPwr_octs (s : State) (f : PowerSt → PowerSt) : (s.setPwr f).octs = s.octs := rfl
@[simp] theorem State.setPwr_tl (s : State) (f : PowerSt → PowerSt) : (s.setPwr f).tl = s.tl := rfl
@[simp] theorem State.setPwr_bias (s : State) (f : PowerSt → PowerSt) : (s.setPwr f).bias = s.bias := rfl
@[simp] theorem State.setPwr_log (s : State) (f : PowerSt → PowerSt) : (s.setPwr f).log = s.log := rfl
@[simp] theorem State.setPwr_cores (s : State) (f : PowerSt → PowerSt) : (s.setPwr f).cores = s.cores := rfl
@[simp] theorem State.setPwr_evtQ (s : State) (f : PowerSt → PowerSt) : (s.setPwr f).evtQ = s.evtQ := rfl
@[simp] theorem State.setPwr_mem (s : State) (f : PowerSt → PowerSt) : (s.setPwr f).mem = s.mem := rfl
@[simp] theorem State.setPwr_ecc (s : State) (f : PowerSt → PowerSt) : (s.setPwr f).ecc = s.ecc := rfl
@[simp] theorem State.setPwr_eccBase (s : State) (f : PowerSt → PowerSt) : (s.setPwr f).eccBase = s.eccBase := rfl
@[simp] theorem State.setPwr_ceLog (s : State) (f : PowerSt → PowerSt) : (s.setPwr f).ceLog = s.ceLog := rfl
@[simp] theorem State.setPwr_caps (s : State) (f : PowerSt → PowerSt) : (s.setPwr f).caps = s.caps := rfl
@[simp] theorem State.setPwr_dmas (s : State) (f : PowerSt → PowerSt) : (s.setPwr f).dmas = s.dmas := rfl
@[simp] theorem State.setPwr_commits (s : State) (f : PowerSt → PowerSt) : (s.setPwr f).commits = s.commits := rfl
@[simp] theorem State.setPwr_trans (s : State) (f : PowerSt → PowerSt) : (s.setPwr f).trans = s.trans := rfl
@[simp] theorem State.setPwr_tim (s : State) (f : PowerSt → PowerSt) : (s.setPwr f).tim = s.tim := rfl
@[simp] theorem State.setPwr_cum (s : State) (f : PowerSt → PowerSt) : (s.setPwr f).cum = s.cum := rfl
@[simp] theorem State.setPwr_ani (s : State) (f : PowerSt → PowerSt) : (s.setPwr f).ani = s.ani := rfl
@[simp] theorem State.setPwr_beams (s : State) (f : PowerSt → PowerSt) : (s.setPwr f).beams = s.beams := rfl
@[simp] theorem State.setPwr_wts (s : State) (f : PowerSt → PowerSt) : (s.setPwr f).wts = s.wts := rfl
@[simp] theorem State.setPwr_taps (s : State) (f : PowerSt → PowerSt) : (s.setPwr f).taps = s.taps := rfl
@[simp] theorem State.setPwr_strm (s : State) (f : PowerSt → PowerSt) : (s.setPwr f).strm = s.strm := rfl
@[simp] theorem State.setPwr_dpd (s : State) (f : PowerSt → PowerSt) : (s.setPwr f).dpd = s.dpd := rfl
@[simp] theorem State.setPwr_mgmtDown (s : State) (f : PowerSt → PowerSt) : (s.setPwr f).mgmtDown = s.mgmtDown := rfl
@[simp] theorem State.setPwr_cal (s : State) (f : PowerSt → PowerSt) : (s.setPwr f).cal = s.cal := rfl
@[simp] theorem State.setPwr_ret (s : State) (f : PowerSt → PowerSt) : (s.setPwr f).ret = s.ret := rfl
@[simp] theorem State.setPwr_lanes (s : State) (f : PowerSt → PowerSt) : (s.setPwr f).lanes = s.lanes := rfl
@[simp] theorem State.setPwr_erl (s : State) (f : PowerSt → PowerSt) : (s.setPwr f).erl = s.erl := rfl
@[simp] theorem State.setPwr_snd (s : State) (f : PowerSt → PowerSt) : (s.setPwr f).snd = s.snd := rfl
@[simp] theorem State.setPwr_bc (s : State) (f : PowerSt → PowerSt) : (s.setPwr f).bc = s.bc := rfl
@[simp] theorem State.setPwr_sems (s : State) (f : PowerSt → PowerSt) : (s.setPwr f).sems = s.sems := rfl
@[simp] theorem State.setPwr_mgmt (s : State) (f : PowerSt → PowerSt) : (s.setPwr f).mgmt = s.mgmt := rfl
@[simp] theorem State.setPwr_updJobs (s : State) (f : PowerSt → PowerSt) : (s.setPwr f).updJobs = s.updJobs := rfl
@[simp] theorem State.setPwr_otp (s : State) (f : PowerSt → PowerSt) : (s.setPwr f).otp = s.otp := rfl
@[simp] theorem State.setPwr_sec (s : State) (f : PowerSt → PowerSt) : (s.setPwr f).sec = s.sec := rfl
@[simp] theorem State.setPwr_mon (s : State) (f : PowerSt → PowerSt) : (s.setPwr f).mon = s.mon := rfl
@[simp] theorem State.setPwr_bist (s : State) (f : PowerSt → PowerSt) : (s.setPwr f).bist = s.bist := rfl
@[simp] theorem State.setPwr_modes (s : State) (f : PowerSt → PowerSt) : (s.setPwr f).modes = s.modes := rfl
@[simp] theorem State.setPwr_seqAt (s : State) (f : PowerSt → PowerSt) : (s.setPwr f).seqAt = s.seqAt := rfl
@[simp] theorem State.setPwr_seqMod (s : State) (f : PowerSt → PowerSt) : (s.setPwr f).seqMod = s.seqMod := rfl
@[simp] theorem State.setPwr_srst (s : State) (f : PowerSt → PowerSt) : (s.setPwr f).srst = s.srst := rfl
@[simp] theorem State.setPwr_hk (s : State) (f : PowerSt → PowerSt) : (s.setPwr f).hk = s.hk := rfl
@[simp] theorem State.setPwr_age (s : State) (f : PowerSt → PowerSt) : (s.setPwr f).age = s.age := rfl
@[simp] theorem State.setPwr_evtNow (s : State) (f : PowerSt → PowerSt) : (s.setPwr f).evtNow = s.evtNow := rfl
@[simp] theorem State.setPwr_evtAt (s : State) (f : PowerSt → PowerSt) : (s.setPwr f).evtAt = s.evtAt := rfl
@[simp] theorem State.setPwr_pending (s : State) (f : PowerSt → PowerSt) : (s.setPwr f).pending = s.pending := rfl
@[simp] theorem State.setPwr_pwr (s : State) (f : PowerSt → PowerSt) : (s.setPwr f).pwr = f s.pwr := rfl
@[simp] theorem State.setPwr_get (s : State) (f : PowerSt → PowerSt) (m : Loc) : (s.setPwr f).get m = s.get m := rfl
@[simp] theorem State.setPwr_on (s : State) (f : PowerSt → PowerSt) (m : Loc) : (s.setPwr f).on m = s.on m := rfl
@[simp] theorem State.setPwr_mode (s : State) (f : PowerSt → PowerSt) : (s.setPwr f).mode = s.mode := rfl
@[simp] theorem State.setPwr_inactive (s : State) (f : PowerSt → PowerSt) (m : Loc) : (s.setPwr f).inactive m = s.inactive m := rfl

/-! ### `State.setSec` -/

@[simp] theorem State.setSec_regs (s : State) (f : SecSt → SecSt) : (s.setSec f).regs = s.regs := rfl
@[simp] theorem State.setSec_bank (s : State) (f : SecSt → SecSt) : (s.setSec f).bank = s.bank := rfl
@[simp] theorem State.setSec_seqs (s : State) (f : SecSt → SecSt) : (s.setSec f).seqs = s.seqs := rfl
@[simp] theorem State.setSec_copying (s : State) (f : SecSt → SecSt) : (s.setSec f).copying = s.copying := rfl
@[simp] theorem State.setSec_windows (s : State) (f : SecSt → SecSt) : (s.setSec f).windows = s.windows := rfl
@[simp] theorem State.setSec_triggers (s : State) (f : SecSt → SecSt) : (s.setSec f).triggers = s.triggers := rfl
@[simp] theorem State.setSec_words (s : State) (f : SecSt → SecSt) : (s.setSec f).words = s.words := rfl
@[simp] theorem State.setSec_acks (s : State) (f : SecSt → SecSt) : (s.setSec f).acks = s.acks := rfl
@[simp] theorem State.setSec_answer (s : State) (f : SecSt → SecSt) : (s.setSec f).answer = s.answer := rfl
@[simp] theorem State.setSec_latches (s : State) (f : SecSt → SecSt) : (s.setSec f).latches = s.latches := rfl
@[simp] theorem State.setSec_tb (s : State) (f : SecSt → SecSt) : (s.setSec f).tb = s.tb := rfl
@[simp] theorem State.setSec_tbRun (s : State) (f : SecSt → SecSt) : (s.setSec f).tbRun = s.tbRun := rfl
@[simp] theorem State.setSec_ao (s : State) (f : SecSt → SecSt) : (s.setSec f).ao = s.ao := rfl
@[simp] theorem State.setSec_fv (s : State) (f : SecSt → SecSt) : (s.setSec f).fv = s.fv := rfl
@[simp] theorem State.setSec_pwr (s : State) (f : SecSt → SecSt) : (s.setSec f).pwr = s.pwr := rfl
@[simp] theorem State.setSec_clk (s : State) (f : SecSt → SecSt) : (s.setSec f).clk = s.clk := rfl
@[simp] theorem State.setSec_paths (s : State) (f : SecSt → SecSt) : (s.setSec f).paths = s.paths := rfl
@[simp] theorem State.setSec_rxs (s : State) (f : SecSt → SecSt) : (s.setSec f).rxs = s.rxs := rfl
@[simp] theorem State.setSec_txs (s : State) (f : SecSt → SecSt) : (s.setSec f).txs = s.txs := rfl
@[simp] theorem State.setSec_octs (s : State) (f : SecSt → SecSt) : (s.setSec f).octs = s.octs := rfl
@[simp] theorem State.setSec_tl (s : State) (f : SecSt → SecSt) : (s.setSec f).tl = s.tl := rfl
@[simp] theorem State.setSec_bias (s : State) (f : SecSt → SecSt) : (s.setSec f).bias = s.bias := rfl
@[simp] theorem State.setSec_log (s : State) (f : SecSt → SecSt) : (s.setSec f).log = s.log := rfl
@[simp] theorem State.setSec_cores (s : State) (f : SecSt → SecSt) : (s.setSec f).cores = s.cores := rfl
@[simp] theorem State.setSec_evtQ (s : State) (f : SecSt → SecSt) : (s.setSec f).evtQ = s.evtQ := rfl
@[simp] theorem State.setSec_mem (s : State) (f : SecSt → SecSt) : (s.setSec f).mem = s.mem := rfl
@[simp] theorem State.setSec_ecc (s : State) (f : SecSt → SecSt) : (s.setSec f).ecc = s.ecc := rfl
@[simp] theorem State.setSec_eccBase (s : State) (f : SecSt → SecSt) : (s.setSec f).eccBase = s.eccBase := rfl
@[simp] theorem State.setSec_ceLog (s : State) (f : SecSt → SecSt) : (s.setSec f).ceLog = s.ceLog := rfl
@[simp] theorem State.setSec_caps (s : State) (f : SecSt → SecSt) : (s.setSec f).caps = s.caps := rfl
@[simp] theorem State.setSec_dmas (s : State) (f : SecSt → SecSt) : (s.setSec f).dmas = s.dmas := rfl
@[simp] theorem State.setSec_commits (s : State) (f : SecSt → SecSt) : (s.setSec f).commits = s.commits := rfl
@[simp] theorem State.setSec_trans (s : State) (f : SecSt → SecSt) : (s.setSec f).trans = s.trans := rfl
@[simp] theorem State.setSec_tim (s : State) (f : SecSt → SecSt) : (s.setSec f).tim = s.tim := rfl
@[simp] theorem State.setSec_cum (s : State) (f : SecSt → SecSt) : (s.setSec f).cum = s.cum := rfl
@[simp] theorem State.setSec_ani (s : State) (f : SecSt → SecSt) : (s.setSec f).ani = s.ani := rfl
@[simp] theorem State.setSec_beams (s : State) (f : SecSt → SecSt) : (s.setSec f).beams = s.beams := rfl
@[simp] theorem State.setSec_wts (s : State) (f : SecSt → SecSt) : (s.setSec f).wts = s.wts := rfl
@[simp] theorem State.setSec_taps (s : State) (f : SecSt → SecSt) : (s.setSec f).taps = s.taps := rfl
@[simp] theorem State.setSec_strm (s : State) (f : SecSt → SecSt) : (s.setSec f).strm = s.strm := rfl
@[simp] theorem State.setSec_dpd (s : State) (f : SecSt → SecSt) : (s.setSec f).dpd = s.dpd := rfl
@[simp] theorem State.setSec_mgmtDown (s : State) (f : SecSt → SecSt) : (s.setSec f).mgmtDown = s.mgmtDown := rfl
@[simp] theorem State.setSec_cal (s : State) (f : SecSt → SecSt) : (s.setSec f).cal = s.cal := rfl
@[simp] theorem State.setSec_ret (s : State) (f : SecSt → SecSt) : (s.setSec f).ret = s.ret := rfl
@[simp] theorem State.setSec_lanes (s : State) (f : SecSt → SecSt) : (s.setSec f).lanes = s.lanes := rfl
@[simp] theorem State.setSec_erl (s : State) (f : SecSt → SecSt) : (s.setSec f).erl = s.erl := rfl
@[simp] theorem State.setSec_snd (s : State) (f : SecSt → SecSt) : (s.setSec f).snd = s.snd := rfl
@[simp] theorem State.setSec_bc (s : State) (f : SecSt → SecSt) : (s.setSec f).bc = s.bc := rfl
@[simp] theorem State.setSec_sems (s : State) (f : SecSt → SecSt) : (s.setSec f).sems = s.sems := rfl
@[simp] theorem State.setSec_mgmt (s : State) (f : SecSt → SecSt) : (s.setSec f).mgmt = s.mgmt := rfl
@[simp] theorem State.setSec_updJobs (s : State) (f : SecSt → SecSt) : (s.setSec f).updJobs = s.updJobs := rfl
@[simp] theorem State.setSec_otp (s : State) (f : SecSt → SecSt) : (s.setSec f).otp = s.otp := rfl
@[simp] theorem State.setSec_mon (s : State) (f : SecSt → SecSt) : (s.setSec f).mon = s.mon := rfl
@[simp] theorem State.setSec_bist (s : State) (f : SecSt → SecSt) : (s.setSec f).bist = s.bist := rfl
@[simp] theorem State.setSec_modes (s : State) (f : SecSt → SecSt) : (s.setSec f).modes = s.modes := rfl
@[simp] theorem State.setSec_seqAt (s : State) (f : SecSt → SecSt) : (s.setSec f).seqAt = s.seqAt := rfl
@[simp] theorem State.setSec_seqMod (s : State) (f : SecSt → SecSt) : (s.setSec f).seqMod = s.seqMod := rfl
@[simp] theorem State.setSec_srst (s : State) (f : SecSt → SecSt) : (s.setSec f).srst = s.srst := rfl
@[simp] theorem State.setSec_hk (s : State) (f : SecSt → SecSt) : (s.setSec f).hk = s.hk := rfl
@[simp] theorem State.setSec_age (s : State) (f : SecSt → SecSt) : (s.setSec f).age = s.age := rfl
@[simp] theorem State.setSec_evtNow (s : State) (f : SecSt → SecSt) : (s.setSec f).evtNow = s.evtNow := rfl
@[simp] theorem State.setSec_evtAt (s : State) (f : SecSt → SecSt) : (s.setSec f).evtAt = s.evtAt := rfl
@[simp] theorem State.setSec_pending (s : State) (f : SecSt → SecSt) : (s.setSec f).pending = s.pending := rfl
@[simp] theorem State.setSec_sec (s : State) (f : SecSt → SecSt) : (s.setSec f).sec = f s.sec := rfl
@[simp] theorem State.setSec_get (s : State) (f : SecSt → SecSt) (m : Loc) : (s.setSec f).get m = s.get m := rfl
@[simp] theorem State.setSec_on (s : State) (f : SecSt → SecSt) (m : Loc) : (s.setSec f).on m = s.on m := rfl
@[simp] theorem State.setSec_mode (s : State) (f : SecSt → SecSt) : (s.setSec f).mode = s.mode := rfl
@[simp] theorem State.setSec_inactive (s : State) (f : SecSt → SecSt) (m : Loc) : (s.setSec f).inactive m = s.inactive m := rfl

/-! ### `State.setOtp` -/

@[simp] theorem State.setOtp_regs (s : State) (f : OtpSt → OtpSt) : (s.setOtp f).regs = s.regs := rfl
@[simp] theorem State.setOtp_bank (s : State) (f : OtpSt → OtpSt) : (s.setOtp f).bank = s.bank := rfl
@[simp] theorem State.setOtp_seqs (s : State) (f : OtpSt → OtpSt) : (s.setOtp f).seqs = s.seqs := rfl
@[simp] theorem State.setOtp_copying (s : State) (f : OtpSt → OtpSt) : (s.setOtp f).copying = s.copying := rfl
@[simp] theorem State.setOtp_windows (s : State) (f : OtpSt → OtpSt) : (s.setOtp f).windows = s.windows := rfl
@[simp] theorem State.setOtp_triggers (s : State) (f : OtpSt → OtpSt) : (s.setOtp f).triggers = s.triggers := rfl
@[simp] theorem State.setOtp_words (s : State) (f : OtpSt → OtpSt) : (s.setOtp f).words = s.words := rfl
@[simp] theorem State.setOtp_acks (s : State) (f : OtpSt → OtpSt) : (s.setOtp f).acks = s.acks := rfl
@[simp] theorem State.setOtp_answer (s : State) (f : OtpSt → OtpSt) : (s.setOtp f).answer = s.answer := rfl
@[simp] theorem State.setOtp_latches (s : State) (f : OtpSt → OtpSt) : (s.setOtp f).latches = s.latches := rfl
@[simp] theorem State.setOtp_tb (s : State) (f : OtpSt → OtpSt) : (s.setOtp f).tb = s.tb := rfl
@[simp] theorem State.setOtp_tbRun (s : State) (f : OtpSt → OtpSt) : (s.setOtp f).tbRun = s.tbRun := rfl
@[simp] theorem State.setOtp_ao (s : State) (f : OtpSt → OtpSt) : (s.setOtp f).ao = s.ao := rfl
@[simp] theorem State.setOtp_fv (s : State) (f : OtpSt → OtpSt) : (s.setOtp f).fv = s.fv := rfl
@[simp] theorem State.setOtp_pwr (s : State) (f : OtpSt → OtpSt) : (s.setOtp f).pwr = s.pwr := rfl
@[simp] theorem State.setOtp_clk (s : State) (f : OtpSt → OtpSt) : (s.setOtp f).clk = s.clk := rfl
@[simp] theorem State.setOtp_paths (s : State) (f : OtpSt → OtpSt) : (s.setOtp f).paths = s.paths := rfl
@[simp] theorem State.setOtp_rxs (s : State) (f : OtpSt → OtpSt) : (s.setOtp f).rxs = s.rxs := rfl
@[simp] theorem State.setOtp_txs (s : State) (f : OtpSt → OtpSt) : (s.setOtp f).txs = s.txs := rfl
@[simp] theorem State.setOtp_octs (s : State) (f : OtpSt → OtpSt) : (s.setOtp f).octs = s.octs := rfl
@[simp] theorem State.setOtp_tl (s : State) (f : OtpSt → OtpSt) : (s.setOtp f).tl = s.tl := rfl
@[simp] theorem State.setOtp_bias (s : State) (f : OtpSt → OtpSt) : (s.setOtp f).bias = s.bias := rfl
@[simp] theorem State.setOtp_log (s : State) (f : OtpSt → OtpSt) : (s.setOtp f).log = s.log := rfl
@[simp] theorem State.setOtp_cores (s : State) (f : OtpSt → OtpSt) : (s.setOtp f).cores = s.cores := rfl
@[simp] theorem State.setOtp_evtQ (s : State) (f : OtpSt → OtpSt) : (s.setOtp f).evtQ = s.evtQ := rfl
@[simp] theorem State.setOtp_mem (s : State) (f : OtpSt → OtpSt) : (s.setOtp f).mem = s.mem := rfl
@[simp] theorem State.setOtp_ecc (s : State) (f : OtpSt → OtpSt) : (s.setOtp f).ecc = s.ecc := rfl
@[simp] theorem State.setOtp_eccBase (s : State) (f : OtpSt → OtpSt) : (s.setOtp f).eccBase = s.eccBase := rfl
@[simp] theorem State.setOtp_ceLog (s : State) (f : OtpSt → OtpSt) : (s.setOtp f).ceLog = s.ceLog := rfl
@[simp] theorem State.setOtp_caps (s : State) (f : OtpSt → OtpSt) : (s.setOtp f).caps = s.caps := rfl
@[simp] theorem State.setOtp_dmas (s : State) (f : OtpSt → OtpSt) : (s.setOtp f).dmas = s.dmas := rfl
@[simp] theorem State.setOtp_commits (s : State) (f : OtpSt → OtpSt) : (s.setOtp f).commits = s.commits := rfl
@[simp] theorem State.setOtp_trans (s : State) (f : OtpSt → OtpSt) : (s.setOtp f).trans = s.trans := rfl
@[simp] theorem State.setOtp_tim (s : State) (f : OtpSt → OtpSt) : (s.setOtp f).tim = s.tim := rfl
@[simp] theorem State.setOtp_cum (s : State) (f : OtpSt → OtpSt) : (s.setOtp f).cum = s.cum := rfl
@[simp] theorem State.setOtp_ani (s : State) (f : OtpSt → OtpSt) : (s.setOtp f).ani = s.ani := rfl
@[simp] theorem State.setOtp_beams (s : State) (f : OtpSt → OtpSt) : (s.setOtp f).beams = s.beams := rfl
@[simp] theorem State.setOtp_wts (s : State) (f : OtpSt → OtpSt) : (s.setOtp f).wts = s.wts := rfl
@[simp] theorem State.setOtp_taps (s : State) (f : OtpSt → OtpSt) : (s.setOtp f).taps = s.taps := rfl
@[simp] theorem State.setOtp_strm (s : State) (f : OtpSt → OtpSt) : (s.setOtp f).strm = s.strm := rfl
@[simp] theorem State.setOtp_dpd (s : State) (f : OtpSt → OtpSt) : (s.setOtp f).dpd = s.dpd := rfl
@[simp] theorem State.setOtp_mgmtDown (s : State) (f : OtpSt → OtpSt) : (s.setOtp f).mgmtDown = s.mgmtDown := rfl
@[simp] theorem State.setOtp_cal (s : State) (f : OtpSt → OtpSt) : (s.setOtp f).cal = s.cal := rfl
@[simp] theorem State.setOtp_ret (s : State) (f : OtpSt → OtpSt) : (s.setOtp f).ret = s.ret := rfl
@[simp] theorem State.setOtp_lanes (s : State) (f : OtpSt → OtpSt) : (s.setOtp f).lanes = s.lanes := rfl
@[simp] theorem State.setOtp_erl (s : State) (f : OtpSt → OtpSt) : (s.setOtp f).erl = s.erl := rfl
@[simp] theorem State.setOtp_snd (s : State) (f : OtpSt → OtpSt) : (s.setOtp f).snd = s.snd := rfl
@[simp] theorem State.setOtp_bc (s : State) (f : OtpSt → OtpSt) : (s.setOtp f).bc = s.bc := rfl
@[simp] theorem State.setOtp_sems (s : State) (f : OtpSt → OtpSt) : (s.setOtp f).sems = s.sems := rfl
@[simp] theorem State.setOtp_mgmt (s : State) (f : OtpSt → OtpSt) : (s.setOtp f).mgmt = s.mgmt := rfl
@[simp] theorem State.setOtp_updJobs (s : State) (f : OtpSt → OtpSt) : (s.setOtp f).updJobs = s.updJobs := rfl
@[simp] theorem State.setOtp_sec (s : State) (f : OtpSt → OtpSt) : (s.setOtp f).sec = s.sec := rfl
@[simp] theorem State.setOtp_mon (s : State) (f : OtpSt → OtpSt) : (s.setOtp f).mon = s.mon := rfl
@[simp] theorem State.setOtp_bist (s : State) (f : OtpSt → OtpSt) : (s.setOtp f).bist = s.bist := rfl
@[simp] theorem State.setOtp_modes (s : State) (f : OtpSt → OtpSt) : (s.setOtp f).modes = s.modes := rfl
@[simp] theorem State.setOtp_seqAt (s : State) (f : OtpSt → OtpSt) : (s.setOtp f).seqAt = s.seqAt := rfl
@[simp] theorem State.setOtp_seqMod (s : State) (f : OtpSt → OtpSt) : (s.setOtp f).seqMod = s.seqMod := rfl
@[simp] theorem State.setOtp_srst (s : State) (f : OtpSt → OtpSt) : (s.setOtp f).srst = s.srst := rfl
@[simp] theorem State.setOtp_hk (s : State) (f : OtpSt → OtpSt) : (s.setOtp f).hk = s.hk := rfl
@[simp] theorem State.setOtp_age (s : State) (f : OtpSt → OtpSt) : (s.setOtp f).age = s.age := rfl
@[simp] theorem State.setOtp_evtNow (s : State) (f : OtpSt → OtpSt) : (s.setOtp f).evtNow = s.evtNow := rfl
@[simp] theorem State.setOtp_evtAt (s : State) (f : OtpSt → OtpSt) : (s.setOtp f).evtAt = s.evtAt := rfl
@[simp] theorem State.setOtp_pending (s : State) (f : OtpSt → OtpSt) : (s.setOtp f).pending = s.pending := rfl
@[simp] theorem State.setOtp_otp (s : State) (f : OtpSt → OtpSt) : (s.setOtp f).otp = f s.otp := rfl
@[simp] theorem State.setOtp_get (s : State) (f : OtpSt → OtpSt) (m : Loc) : (s.setOtp f).get m = s.get m := rfl
@[simp] theorem State.setOtp_on (s : State) (f : OtpSt → OtpSt) (m : Loc) : (s.setOtp f).on m = s.on m := rfl
@[simp] theorem State.setOtp_mode (s : State) (f : OtpSt → OtpSt) : (s.setOtp f).mode = s.mode := rfl
@[simp] theorem State.setOtp_inactive (s : State) (f : OtpSt → OtpSt) (m : Loc) : (s.setOtp f).inactive m = s.inactive m := rfl

/-! ### `State.setMon` -/

@[simp] theorem State.setMon_regs (s : State) (f : MonSt → MonSt) : (s.setMon f).regs = s.regs := rfl
@[simp] theorem State.setMon_bank (s : State) (f : MonSt → MonSt) : (s.setMon f).bank = s.bank := rfl
@[simp] theorem State.setMon_seqs (s : State) (f : MonSt → MonSt) : (s.setMon f).seqs = s.seqs := rfl
@[simp] theorem State.setMon_copying (s : State) (f : MonSt → MonSt) : (s.setMon f).copying = s.copying := rfl
@[simp] theorem State.setMon_windows (s : State) (f : MonSt → MonSt) : (s.setMon f).windows = s.windows := rfl
@[simp] theorem State.setMon_triggers (s : State) (f : MonSt → MonSt) : (s.setMon f).triggers = s.triggers := rfl
@[simp] theorem State.setMon_words (s : State) (f : MonSt → MonSt) : (s.setMon f).words = s.words := rfl
@[simp] theorem State.setMon_acks (s : State) (f : MonSt → MonSt) : (s.setMon f).acks = s.acks := rfl
@[simp] theorem State.setMon_answer (s : State) (f : MonSt → MonSt) : (s.setMon f).answer = s.answer := rfl
@[simp] theorem State.setMon_latches (s : State) (f : MonSt → MonSt) : (s.setMon f).latches = s.latches := rfl
@[simp] theorem State.setMon_tb (s : State) (f : MonSt → MonSt) : (s.setMon f).tb = s.tb := rfl
@[simp] theorem State.setMon_tbRun (s : State) (f : MonSt → MonSt) : (s.setMon f).tbRun = s.tbRun := rfl
@[simp] theorem State.setMon_ao (s : State) (f : MonSt → MonSt) : (s.setMon f).ao = s.ao := rfl
@[simp] theorem State.setMon_fv (s : State) (f : MonSt → MonSt) : (s.setMon f).fv = s.fv := rfl
@[simp] theorem State.setMon_pwr (s : State) (f : MonSt → MonSt) : (s.setMon f).pwr = s.pwr := rfl
@[simp] theorem State.setMon_clk (s : State) (f : MonSt → MonSt) : (s.setMon f).clk = s.clk := rfl
@[simp] theorem State.setMon_paths (s : State) (f : MonSt → MonSt) : (s.setMon f).paths = s.paths := rfl
@[simp] theorem State.setMon_rxs (s : State) (f : MonSt → MonSt) : (s.setMon f).rxs = s.rxs := rfl
@[simp] theorem State.setMon_txs (s : State) (f : MonSt → MonSt) : (s.setMon f).txs = s.txs := rfl
@[simp] theorem State.setMon_octs (s : State) (f : MonSt → MonSt) : (s.setMon f).octs = s.octs := rfl
@[simp] theorem State.setMon_tl (s : State) (f : MonSt → MonSt) : (s.setMon f).tl = s.tl := rfl
@[simp] theorem State.setMon_bias (s : State) (f : MonSt → MonSt) : (s.setMon f).bias = s.bias := rfl
@[simp] theorem State.setMon_log (s : State) (f : MonSt → MonSt) : (s.setMon f).log = s.log := rfl
@[simp] theorem State.setMon_cores (s : State) (f : MonSt → MonSt) : (s.setMon f).cores = s.cores := rfl
@[simp] theorem State.setMon_evtQ (s : State) (f : MonSt → MonSt) : (s.setMon f).evtQ = s.evtQ := rfl
@[simp] theorem State.setMon_mem (s : State) (f : MonSt → MonSt) : (s.setMon f).mem = s.mem := rfl
@[simp] theorem State.setMon_ecc (s : State) (f : MonSt → MonSt) : (s.setMon f).ecc = s.ecc := rfl
@[simp] theorem State.setMon_eccBase (s : State) (f : MonSt → MonSt) : (s.setMon f).eccBase = s.eccBase := rfl
@[simp] theorem State.setMon_ceLog (s : State) (f : MonSt → MonSt) : (s.setMon f).ceLog = s.ceLog := rfl
@[simp] theorem State.setMon_caps (s : State) (f : MonSt → MonSt) : (s.setMon f).caps = s.caps := rfl
@[simp] theorem State.setMon_dmas (s : State) (f : MonSt → MonSt) : (s.setMon f).dmas = s.dmas := rfl
@[simp] theorem State.setMon_commits (s : State) (f : MonSt → MonSt) : (s.setMon f).commits = s.commits := rfl
@[simp] theorem State.setMon_trans (s : State) (f : MonSt → MonSt) : (s.setMon f).trans = s.trans := rfl
@[simp] theorem State.setMon_tim (s : State) (f : MonSt → MonSt) : (s.setMon f).tim = s.tim := rfl
@[simp] theorem State.setMon_cum (s : State) (f : MonSt → MonSt) : (s.setMon f).cum = s.cum := rfl
@[simp] theorem State.setMon_ani (s : State) (f : MonSt → MonSt) : (s.setMon f).ani = s.ani := rfl
@[simp] theorem State.setMon_beams (s : State) (f : MonSt → MonSt) : (s.setMon f).beams = s.beams := rfl
@[simp] theorem State.setMon_wts (s : State) (f : MonSt → MonSt) : (s.setMon f).wts = s.wts := rfl
@[simp] theorem State.setMon_taps (s : State) (f : MonSt → MonSt) : (s.setMon f).taps = s.taps := rfl
@[simp] theorem State.setMon_strm (s : State) (f : MonSt → MonSt) : (s.setMon f).strm = s.strm := rfl
@[simp] theorem State.setMon_dpd (s : State) (f : MonSt → MonSt) : (s.setMon f).dpd = s.dpd := rfl
@[simp] theorem State.setMon_mgmtDown (s : State) (f : MonSt → MonSt) : (s.setMon f).mgmtDown = s.mgmtDown := rfl
@[simp] theorem State.setMon_cal (s : State) (f : MonSt → MonSt) : (s.setMon f).cal = s.cal := rfl
@[simp] theorem State.setMon_ret (s : State) (f : MonSt → MonSt) : (s.setMon f).ret = s.ret := rfl
@[simp] theorem State.setMon_lanes (s : State) (f : MonSt → MonSt) : (s.setMon f).lanes = s.lanes := rfl
@[simp] theorem State.setMon_erl (s : State) (f : MonSt → MonSt) : (s.setMon f).erl = s.erl := rfl
@[simp] theorem State.setMon_snd (s : State) (f : MonSt → MonSt) : (s.setMon f).snd = s.snd := rfl
@[simp] theorem State.setMon_bc (s : State) (f : MonSt → MonSt) : (s.setMon f).bc = s.bc := rfl
@[simp] theorem State.setMon_sems (s : State) (f : MonSt → MonSt) : (s.setMon f).sems = s.sems := rfl
@[simp] theorem State.setMon_mgmt (s : State) (f : MonSt → MonSt) : (s.setMon f).mgmt = s.mgmt := rfl
@[simp] theorem State.setMon_updJobs (s : State) (f : MonSt → MonSt) : (s.setMon f).updJobs = s.updJobs := rfl
@[simp] theorem State.setMon_otp (s : State) (f : MonSt → MonSt) : (s.setMon f).otp = s.otp := rfl
@[simp] theorem State.setMon_sec (s : State) (f : MonSt → MonSt) : (s.setMon f).sec = s.sec := rfl
@[simp] theorem State.setMon_bist (s : State) (f : MonSt → MonSt) : (s.setMon f).bist = s.bist := rfl
@[simp] theorem State.setMon_modes (s : State) (f : MonSt → MonSt) : (s.setMon f).modes = s.modes := rfl
@[simp] theorem State.setMon_seqAt (s : State) (f : MonSt → MonSt) : (s.setMon f).seqAt = s.seqAt := rfl
@[simp] theorem State.setMon_seqMod (s : State) (f : MonSt → MonSt) : (s.setMon f).seqMod = s.seqMod := rfl
@[simp] theorem State.setMon_srst (s : State) (f : MonSt → MonSt) : (s.setMon f).srst = s.srst := rfl
@[simp] theorem State.setMon_hk (s : State) (f : MonSt → MonSt) : (s.setMon f).hk = s.hk := rfl
@[simp] theorem State.setMon_age (s : State) (f : MonSt → MonSt) : (s.setMon f).age = s.age := rfl
@[simp] theorem State.setMon_evtNow (s : State) (f : MonSt → MonSt) : (s.setMon f).evtNow = s.evtNow := rfl
@[simp] theorem State.setMon_evtAt (s : State) (f : MonSt → MonSt) : (s.setMon f).evtAt = s.evtAt := rfl
@[simp] theorem State.setMon_pending (s : State) (f : MonSt → MonSt) : (s.setMon f).pending = s.pending := rfl
@[simp] theorem State.setMon_mon (s : State) (f : MonSt → MonSt) : (s.setMon f).mon = f s.mon := rfl
@[simp] theorem State.setMon_get (s : State) (f : MonSt → MonSt) (m : Loc) : (s.setMon f).get m = s.get m := rfl
@[simp] theorem State.setMon_on (s : State) (f : MonSt → MonSt) (m : Loc) : (s.setMon f).on m = s.on m := rfl
@[simp] theorem State.setMon_mode (s : State) (f : MonSt → MonSt) : (s.setMon f).mode = s.mode := rfl
@[simp] theorem State.setMon_inactive (s : State) (f : MonSt → MonSt) (m : Loc) : (s.setMon f).inactive m = s.inactive m := rfl

/-! ### `State.setSnd` -/

@[simp] theorem State.setSnd_regs (s : State) (f : SndSt → SndSt) : (s.setSnd f).regs = s.regs := rfl
@[simp] theorem State.setSnd_bank (s : State) (f : SndSt → SndSt) : (s.setSnd f).bank = s.bank := rfl
@[simp] theorem State.setSnd_seqs (s : State) (f : SndSt → SndSt) : (s.setSnd f).seqs = s.seqs := rfl
@[simp] theorem State.setSnd_copying (s : State) (f : SndSt → SndSt) : (s.setSnd f).copying = s.copying := rfl
@[simp] theorem State.setSnd_windows (s : State) (f : SndSt → SndSt) : (s.setSnd f).windows = s.windows := rfl
@[simp] theorem State.setSnd_triggers (s : State) (f : SndSt → SndSt) : (s.setSnd f).triggers = s.triggers := rfl
@[simp] theorem State.setSnd_words (s : State) (f : SndSt → SndSt) : (s.setSnd f).words = s.words := rfl
@[simp] theorem State.setSnd_acks (s : State) (f : SndSt → SndSt) : (s.setSnd f).acks = s.acks := rfl
@[simp] theorem State.setSnd_answer (s : State) (f : SndSt → SndSt) : (s.setSnd f).answer = s.answer := rfl
@[simp] theorem State.setSnd_latches (s : State) (f : SndSt → SndSt) : (s.setSnd f).latches = s.latches := rfl
@[simp] theorem State.setSnd_tb (s : State) (f : SndSt → SndSt) : (s.setSnd f).tb = s.tb := rfl
@[simp] theorem State.setSnd_tbRun (s : State) (f : SndSt → SndSt) : (s.setSnd f).tbRun = s.tbRun := rfl
@[simp] theorem State.setSnd_ao (s : State) (f : SndSt → SndSt) : (s.setSnd f).ao = s.ao := rfl
@[simp] theorem State.setSnd_fv (s : State) (f : SndSt → SndSt) : (s.setSnd f).fv = s.fv := rfl
@[simp] theorem State.setSnd_pwr (s : State) (f : SndSt → SndSt) : (s.setSnd f).pwr = s.pwr := rfl
@[simp] theorem State.setSnd_clk (s : State) (f : SndSt → SndSt) : (s.setSnd f).clk = s.clk := rfl
@[simp] theorem State.setSnd_paths (s : State) (f : SndSt → SndSt) : (s.setSnd f).paths = s.paths := rfl
@[simp] theorem State.setSnd_rxs (s : State) (f : SndSt → SndSt) : (s.setSnd f).rxs = s.rxs := rfl
@[simp] theorem State.setSnd_txs (s : State) (f : SndSt → SndSt) : (s.setSnd f).txs = s.txs := rfl
@[simp] theorem State.setSnd_octs (s : State) (f : SndSt → SndSt) : (s.setSnd f).octs = s.octs := rfl
@[simp] theorem State.setSnd_tl (s : State) (f : SndSt → SndSt) : (s.setSnd f).tl = s.tl := rfl
@[simp] theorem State.setSnd_bias (s : State) (f : SndSt → SndSt) : (s.setSnd f).bias = s.bias := rfl
@[simp] theorem State.setSnd_log (s : State) (f : SndSt → SndSt) : (s.setSnd f).log = s.log := rfl
@[simp] theorem State.setSnd_cores (s : State) (f : SndSt → SndSt) : (s.setSnd f).cores = s.cores := rfl
@[simp] theorem State.setSnd_evtQ (s : State) (f : SndSt → SndSt) : (s.setSnd f).evtQ = s.evtQ := rfl
@[simp] theorem State.setSnd_mem (s : State) (f : SndSt → SndSt) : (s.setSnd f).mem = s.mem := rfl
@[simp] theorem State.setSnd_ecc (s : State) (f : SndSt → SndSt) : (s.setSnd f).ecc = s.ecc := rfl
@[simp] theorem State.setSnd_eccBase (s : State) (f : SndSt → SndSt) : (s.setSnd f).eccBase = s.eccBase := rfl
@[simp] theorem State.setSnd_ceLog (s : State) (f : SndSt → SndSt) : (s.setSnd f).ceLog = s.ceLog := rfl
@[simp] theorem State.setSnd_caps (s : State) (f : SndSt → SndSt) : (s.setSnd f).caps = s.caps := rfl
@[simp] theorem State.setSnd_dmas (s : State) (f : SndSt → SndSt) : (s.setSnd f).dmas = s.dmas := rfl
@[simp] theorem State.setSnd_commits (s : State) (f : SndSt → SndSt) : (s.setSnd f).commits = s.commits := rfl
@[simp] theorem State.setSnd_trans (s : State) (f : SndSt → SndSt) : (s.setSnd f).trans = s.trans := rfl
@[simp] theorem State.setSnd_tim (s : State) (f : SndSt → SndSt) : (s.setSnd f).tim = s.tim := rfl
@[simp] theorem State.setSnd_cum (s : State) (f : SndSt → SndSt) : (s.setSnd f).cum = s.cum := rfl
@[simp] theorem State.setSnd_ani (s : State) (f : SndSt → SndSt) : (s.setSnd f).ani = s.ani := rfl
@[simp] theorem State.setSnd_beams (s : State) (f : SndSt → SndSt) : (s.setSnd f).beams = s.beams := rfl
@[simp] theorem State.setSnd_wts (s : State) (f : SndSt → SndSt) : (s.setSnd f).wts = s.wts := rfl
@[simp] theorem State.setSnd_taps (s : State) (f : SndSt → SndSt) : (s.setSnd f).taps = s.taps := rfl
@[simp] theorem State.setSnd_strm (s : State) (f : SndSt → SndSt) : (s.setSnd f).strm = s.strm := rfl
@[simp] theorem State.setSnd_dpd (s : State) (f : SndSt → SndSt) : (s.setSnd f).dpd = s.dpd := rfl
@[simp] theorem State.setSnd_mgmtDown (s : State) (f : SndSt → SndSt) : (s.setSnd f).mgmtDown = s.mgmtDown := rfl
@[simp] theorem State.setSnd_cal (s : State) (f : SndSt → SndSt) : (s.setSnd f).cal = s.cal := rfl
@[simp] theorem State.setSnd_ret (s : State) (f : SndSt → SndSt) : (s.setSnd f).ret = s.ret := rfl
@[simp] theorem State.setSnd_lanes (s : State) (f : SndSt → SndSt) : (s.setSnd f).lanes = s.lanes := rfl
@[simp] theorem State.setSnd_erl (s : State) (f : SndSt → SndSt) : (s.setSnd f).erl = s.erl := rfl
@[simp] theorem State.setSnd_bc (s : State) (f : SndSt → SndSt) : (s.setSnd f).bc = s.bc := rfl
@[simp] theorem State.setSnd_sems (s : State) (f : SndSt → SndSt) : (s.setSnd f).sems = s.sems := rfl
@[simp] theorem State.setSnd_mgmt (s : State) (f : SndSt → SndSt) : (s.setSnd f).mgmt = s.mgmt := rfl
@[simp] theorem State.setSnd_updJobs (s : State) (f : SndSt → SndSt) : (s.setSnd f).updJobs = s.updJobs := rfl
@[simp] theorem State.setSnd_otp (s : State) (f : SndSt → SndSt) : (s.setSnd f).otp = s.otp := rfl
@[simp] theorem State.setSnd_sec (s : State) (f : SndSt → SndSt) : (s.setSnd f).sec = s.sec := rfl
@[simp] theorem State.setSnd_mon (s : State) (f : SndSt → SndSt) : (s.setSnd f).mon = s.mon := rfl
@[simp] theorem State.setSnd_bist (s : State) (f : SndSt → SndSt) : (s.setSnd f).bist = s.bist := rfl
@[simp] theorem State.setSnd_modes (s : State) (f : SndSt → SndSt) : (s.setSnd f).modes = s.modes := rfl
@[simp] theorem State.setSnd_seqAt (s : State) (f : SndSt → SndSt) : (s.setSnd f).seqAt = s.seqAt := rfl
@[simp] theorem State.setSnd_seqMod (s : State) (f : SndSt → SndSt) : (s.setSnd f).seqMod = s.seqMod := rfl
@[simp] theorem State.setSnd_srst (s : State) (f : SndSt → SndSt) : (s.setSnd f).srst = s.srst := rfl
@[simp] theorem State.setSnd_hk (s : State) (f : SndSt → SndSt) : (s.setSnd f).hk = s.hk := rfl
@[simp] theorem State.setSnd_age (s : State) (f : SndSt → SndSt) : (s.setSnd f).age = s.age := rfl
@[simp] theorem State.setSnd_evtNow (s : State) (f : SndSt → SndSt) : (s.setSnd f).evtNow = s.evtNow := rfl
@[simp] theorem State.setSnd_evtAt (s : State) (f : SndSt → SndSt) : (s.setSnd f).evtAt = s.evtAt := rfl
@[simp] theorem State.setSnd_pending (s : State) (f : SndSt → SndSt) : (s.setSnd f).pending = s.pending := rfl
@[simp] theorem State.setSnd_snd (s : State) (f : SndSt → SndSt) : (s.setSnd f).snd = f s.snd := rfl
@[simp] theorem State.setSnd_get (s : State) (f : SndSt → SndSt) (m : Loc) : (s.setSnd f).get m = s.get m := rfl
@[simp] theorem State.setSnd_on (s : State) (f : SndSt → SndSt) (m : Loc) : (s.setSnd f).on m = s.on m := rfl
@[simp] theorem State.setSnd_mode (s : State) (f : SndSt → SndSt) : (s.setSnd f).mode = s.mode := rfl
@[simp] theorem State.setSnd_inactive (s : State) (f : SndSt → SndSt) (m : Loc) : (s.setSnd f).inactive m = s.inactive m := rfl

/-! ### `State.setBeam` -/

@[simp] theorem State.setBeam_regs (s : State) (k : Nat) (f : BeamSt → BeamSt) : (s.setBeam k f).regs = s.regs := rfl
@[simp] theorem State.setBeam_bank (s : State) (k : Nat) (f : BeamSt → BeamSt) : (s.setBeam k f).bank = s.bank := rfl
@[simp] theorem State.setBeam_seqs (s : State) (k : Nat) (f : BeamSt → BeamSt) : (s.setBeam k f).seqs = s.seqs := rfl
@[simp] theorem State.setBeam_copying (s : State) (k : Nat) (f : BeamSt → BeamSt) : (s.setBeam k f).copying = s.copying := rfl
@[simp] theorem State.setBeam_windows (s : State) (k : Nat) (f : BeamSt → BeamSt) : (s.setBeam k f).windows = s.windows := rfl
@[simp] theorem State.setBeam_triggers (s : State) (k : Nat) (f : BeamSt → BeamSt) : (s.setBeam k f).triggers = s.triggers := rfl
@[simp] theorem State.setBeam_words (s : State) (k : Nat) (f : BeamSt → BeamSt) : (s.setBeam k f).words = s.words := rfl
@[simp] theorem State.setBeam_acks (s : State) (k : Nat) (f : BeamSt → BeamSt) : (s.setBeam k f).acks = s.acks := rfl
@[simp] theorem State.setBeam_answer (s : State) (k : Nat) (f : BeamSt → BeamSt) : (s.setBeam k f).answer = s.answer := rfl
@[simp] theorem State.setBeam_latches (s : State) (k : Nat) (f : BeamSt → BeamSt) : (s.setBeam k f).latches = s.latches := rfl
@[simp] theorem State.setBeam_tb (s : State) (k : Nat) (f : BeamSt → BeamSt) : (s.setBeam k f).tb = s.tb := rfl
@[simp] theorem State.setBeam_tbRun (s : State) (k : Nat) (f : BeamSt → BeamSt) : (s.setBeam k f).tbRun = s.tbRun := rfl
@[simp] theorem State.setBeam_ao (s : State) (k : Nat) (f : BeamSt → BeamSt) : (s.setBeam k f).ao = s.ao := rfl
@[simp] theorem State.setBeam_fv (s : State) (k : Nat) (f : BeamSt → BeamSt) : (s.setBeam k f).fv = s.fv := rfl
@[simp] theorem State.setBeam_pwr (s : State) (k : Nat) (f : BeamSt → BeamSt) : (s.setBeam k f).pwr = s.pwr := rfl
@[simp] theorem State.setBeam_clk (s : State) (k : Nat) (f : BeamSt → BeamSt) : (s.setBeam k f).clk = s.clk := rfl
@[simp] theorem State.setBeam_paths (s : State) (k : Nat) (f : BeamSt → BeamSt) : (s.setBeam k f).paths = s.paths := rfl
@[simp] theorem State.setBeam_rxs (s : State) (k : Nat) (f : BeamSt → BeamSt) : (s.setBeam k f).rxs = s.rxs := rfl
@[simp] theorem State.setBeam_txs (s : State) (k : Nat) (f : BeamSt → BeamSt) : (s.setBeam k f).txs = s.txs := rfl
@[simp] theorem State.setBeam_octs (s : State) (k : Nat) (f : BeamSt → BeamSt) : (s.setBeam k f).octs = s.octs := rfl
@[simp] theorem State.setBeam_tl (s : State) (k : Nat) (f : BeamSt → BeamSt) : (s.setBeam k f).tl = s.tl := rfl
@[simp] theorem State.setBeam_bias (s : State) (k : Nat) (f : BeamSt → BeamSt) : (s.setBeam k f).bias = s.bias := rfl
@[simp] theorem State.setBeam_log (s : State) (k : Nat) (f : BeamSt → BeamSt) : (s.setBeam k f).log = s.log := rfl
@[simp] theorem State.setBeam_cores (s : State) (k : Nat) (f : BeamSt → BeamSt) : (s.setBeam k f).cores = s.cores := rfl
@[simp] theorem State.setBeam_evtQ (s : State) (k : Nat) (f : BeamSt → BeamSt) : (s.setBeam k f).evtQ = s.evtQ := rfl
@[simp] theorem State.setBeam_mem (s : State) (k : Nat) (f : BeamSt → BeamSt) : (s.setBeam k f).mem = s.mem := rfl
@[simp] theorem State.setBeam_ecc (s : State) (k : Nat) (f : BeamSt → BeamSt) : (s.setBeam k f).ecc = s.ecc := rfl
@[simp] theorem State.setBeam_eccBase (s : State) (k : Nat) (f : BeamSt → BeamSt) : (s.setBeam k f).eccBase = s.eccBase := rfl
@[simp] theorem State.setBeam_ceLog (s : State) (k : Nat) (f : BeamSt → BeamSt) : (s.setBeam k f).ceLog = s.ceLog := rfl
@[simp] theorem State.setBeam_caps (s : State) (k : Nat) (f : BeamSt → BeamSt) : (s.setBeam k f).caps = s.caps := rfl
@[simp] theorem State.setBeam_dmas (s : State) (k : Nat) (f : BeamSt → BeamSt) : (s.setBeam k f).dmas = s.dmas := rfl
@[simp] theorem State.setBeam_commits (s : State) (k : Nat) (f : BeamSt → BeamSt) : (s.setBeam k f).commits = s.commits := rfl
@[simp] theorem State.setBeam_trans (s : State) (k : Nat) (f : BeamSt → BeamSt) : (s.setBeam k f).trans = s.trans := rfl
@[simp] theorem State.setBeam_tim (s : State) (k : Nat) (f : BeamSt → BeamSt) : (s.setBeam k f).tim = s.tim := rfl
@[simp] theorem State.setBeam_cum (s : State) (k : Nat) (f : BeamSt → BeamSt) : (s.setBeam k f).cum = s.cum := rfl
@[simp] theorem State.setBeam_ani (s : State) (k : Nat) (f : BeamSt → BeamSt) : (s.setBeam k f).ani = s.ani := rfl
@[simp] theorem State.setBeam_wts (s : State) (k : Nat) (f : BeamSt → BeamSt) : (s.setBeam k f).wts = s.wts := rfl
@[simp] theorem State.setBeam_taps (s : State) (k : Nat) (f : BeamSt → BeamSt) : (s.setBeam k f).taps = s.taps := rfl
@[simp] theorem State.setBeam_strm (s : State) (k : Nat) (f : BeamSt → BeamSt) : (s.setBeam k f).strm = s.strm := rfl
@[simp] theorem State.setBeam_dpd (s : State) (k : Nat) (f : BeamSt → BeamSt) : (s.setBeam k f).dpd = s.dpd := rfl
@[simp] theorem State.setBeam_mgmtDown (s : State) (k : Nat) (f : BeamSt → BeamSt) : (s.setBeam k f).mgmtDown = s.mgmtDown := rfl
@[simp] theorem State.setBeam_cal (s : State) (k : Nat) (f : BeamSt → BeamSt) : (s.setBeam k f).cal = s.cal := rfl
@[simp] theorem State.setBeam_ret (s : State) (k : Nat) (f : BeamSt → BeamSt) : (s.setBeam k f).ret = s.ret := rfl
@[simp] theorem State.setBeam_lanes (s : State) (k : Nat) (f : BeamSt → BeamSt) : (s.setBeam k f).lanes = s.lanes := rfl
@[simp] theorem State.setBeam_erl (s : State) (k : Nat) (f : BeamSt → BeamSt) : (s.setBeam k f).erl = s.erl := rfl
@[simp] theorem State.setBeam_snd (s : State) (k : Nat) (f : BeamSt → BeamSt) : (s.setBeam k f).snd = s.snd := rfl
@[simp] theorem State.setBeam_bc (s : State) (k : Nat) (f : BeamSt → BeamSt) : (s.setBeam k f).bc = s.bc := rfl
@[simp] theorem State.setBeam_sems (s : State) (k : Nat) (f : BeamSt → BeamSt) : (s.setBeam k f).sems = s.sems := rfl
@[simp] theorem State.setBeam_mgmt (s : State) (k : Nat) (f : BeamSt → BeamSt) : (s.setBeam k f).mgmt = s.mgmt := rfl
@[simp] theorem State.setBeam_updJobs (s : State) (k : Nat) (f : BeamSt → BeamSt) : (s.setBeam k f).updJobs = s.updJobs := rfl
@[simp] theorem State.setBeam_otp (s : State) (k : Nat) (f : BeamSt → BeamSt) : (s.setBeam k f).otp = s.otp := rfl
@[simp] theorem State.setBeam_sec (s : State) (k : Nat) (f : BeamSt → BeamSt) : (s.setBeam k f).sec = s.sec := rfl
@[simp] theorem State.setBeam_mon (s : State) (k : Nat) (f : BeamSt → BeamSt) : (s.setBeam k f).mon = s.mon := rfl
@[simp] theorem State.setBeam_bist (s : State) (k : Nat) (f : BeamSt → BeamSt) : (s.setBeam k f).bist = s.bist := rfl
@[simp] theorem State.setBeam_modes (s : State) (k : Nat) (f : BeamSt → BeamSt) : (s.setBeam k f).modes = s.modes := rfl
@[simp] theorem State.setBeam_seqAt (s : State) (k : Nat) (f : BeamSt → BeamSt) : (s.setBeam k f).seqAt = s.seqAt := rfl
@[simp] theorem State.setBeam_seqMod (s : State) (k : Nat) (f : BeamSt → BeamSt) : (s.setBeam k f).seqMod = s.seqMod := rfl
@[simp] theorem State.setBeam_srst (s : State) (k : Nat) (f : BeamSt → BeamSt) : (s.setBeam k f).srst = s.srst := rfl
@[simp] theorem State.setBeam_hk (s : State) (k : Nat) (f : BeamSt → BeamSt) : (s.setBeam k f).hk = s.hk := rfl
@[simp] theorem State.setBeam_age (s : State) (k : Nat) (f : BeamSt → BeamSt) : (s.setBeam k f).age = s.age := rfl
@[simp] theorem State.setBeam_evtNow (s : State) (k : Nat) (f : BeamSt → BeamSt) : (s.setBeam k f).evtNow = s.evtNow := rfl
@[simp] theorem State.setBeam_evtAt (s : State) (k : Nat) (f : BeamSt → BeamSt) : (s.setBeam k f).evtAt = s.evtAt := rfl
@[simp] theorem State.setBeam_pending (s : State) (k : Nat) (f : BeamSt → BeamSt) : (s.setBeam k f).pending = s.pending := rfl
@[simp] theorem State.setBeam_beams (s : State) (k : Nat) (f : BeamSt → BeamSt) : (s.setBeam k f).beams = upd s.beams k f := rfl
@[simp] theorem State.setBeam_get (s : State) (k : Nat) (f : BeamSt → BeamSt) (m : Loc) : (s.setBeam k f).get m = s.get m := rfl
@[simp] theorem State.setBeam_on (s : State) (k : Nat) (f : BeamSt → BeamSt) (m : Loc) : (s.setBeam k f).on m = s.on m := rfl
@[simp] theorem State.setBeam_mode (s : State) (k : Nat) (f : BeamSt → BeamSt) : (s.setBeam k f).mode = s.mode := rfl
@[simp] theorem State.setBeam_inactive (s : State) (k : Nat) (f : BeamSt → BeamSt) (m : Loc) : (s.setBeam k f).inactive m = s.inactive m := rfl

/-! ### `State.setCap` -/

@[simp] theorem State.setCap_regs (s : State) (k : Nat) (f : CapSt → CapSt) : (s.setCap k f).regs = s.regs := rfl
@[simp] theorem State.setCap_bank (s : State) (k : Nat) (f : CapSt → CapSt) : (s.setCap k f).bank = s.bank := rfl
@[simp] theorem State.setCap_seqs (s : State) (k : Nat) (f : CapSt → CapSt) : (s.setCap k f).seqs = s.seqs := rfl
@[simp] theorem State.setCap_copying (s : State) (k : Nat) (f : CapSt → CapSt) : (s.setCap k f).copying = s.copying := rfl
@[simp] theorem State.setCap_windows (s : State) (k : Nat) (f : CapSt → CapSt) : (s.setCap k f).windows = s.windows := rfl
@[simp] theorem State.setCap_triggers (s : State) (k : Nat) (f : CapSt → CapSt) : (s.setCap k f).triggers = s.triggers := rfl
@[simp] theorem State.setCap_words (s : State) (k : Nat) (f : CapSt → CapSt) : (s.setCap k f).words = s.words := rfl
@[simp] theorem State.setCap_acks (s : State) (k : Nat) (f : CapSt → CapSt) : (s.setCap k f).acks = s.acks := rfl
@[simp] theorem State.setCap_answer (s : State) (k : Nat) (f : CapSt → CapSt) : (s.setCap k f).answer = s.answer := rfl
@[simp] theorem State.setCap_latches (s : State) (k : Nat) (f : CapSt → CapSt) : (s.setCap k f).latches = s.latches := rfl
@[simp] theorem State.setCap_tb (s : State) (k : Nat) (f : CapSt → CapSt) : (s.setCap k f).tb = s.tb := rfl
@[simp] theorem State.setCap_tbRun (s : State) (k : Nat) (f : CapSt → CapSt) : (s.setCap k f).tbRun = s.tbRun := rfl
@[simp] theorem State.setCap_ao (s : State) (k : Nat) (f : CapSt → CapSt) : (s.setCap k f).ao = s.ao := rfl
@[simp] theorem State.setCap_fv (s : State) (k : Nat) (f : CapSt → CapSt) : (s.setCap k f).fv = s.fv := rfl
@[simp] theorem State.setCap_pwr (s : State) (k : Nat) (f : CapSt → CapSt) : (s.setCap k f).pwr = s.pwr := rfl
@[simp] theorem State.setCap_clk (s : State) (k : Nat) (f : CapSt → CapSt) : (s.setCap k f).clk = s.clk := rfl
@[simp] theorem State.setCap_paths (s : State) (k : Nat) (f : CapSt → CapSt) : (s.setCap k f).paths = s.paths := rfl
@[simp] theorem State.setCap_rxs (s : State) (k : Nat) (f : CapSt → CapSt) : (s.setCap k f).rxs = s.rxs := rfl
@[simp] theorem State.setCap_txs (s : State) (k : Nat) (f : CapSt → CapSt) : (s.setCap k f).txs = s.txs := rfl
@[simp] theorem State.setCap_octs (s : State) (k : Nat) (f : CapSt → CapSt) : (s.setCap k f).octs = s.octs := rfl
@[simp] theorem State.setCap_tl (s : State) (k : Nat) (f : CapSt → CapSt) : (s.setCap k f).tl = s.tl := rfl
@[simp] theorem State.setCap_bias (s : State) (k : Nat) (f : CapSt → CapSt) : (s.setCap k f).bias = s.bias := rfl
@[simp] theorem State.setCap_log (s : State) (k : Nat) (f : CapSt → CapSt) : (s.setCap k f).log = s.log := rfl
@[simp] theorem State.setCap_cores (s : State) (k : Nat) (f : CapSt → CapSt) : (s.setCap k f).cores = s.cores := rfl
@[simp] theorem State.setCap_evtQ (s : State) (k : Nat) (f : CapSt → CapSt) : (s.setCap k f).evtQ = s.evtQ := rfl
@[simp] theorem State.setCap_mem (s : State) (k : Nat) (f : CapSt → CapSt) : (s.setCap k f).mem = s.mem := rfl
@[simp] theorem State.setCap_ecc (s : State) (k : Nat) (f : CapSt → CapSt) : (s.setCap k f).ecc = s.ecc := rfl
@[simp] theorem State.setCap_eccBase (s : State) (k : Nat) (f : CapSt → CapSt) : (s.setCap k f).eccBase = s.eccBase := rfl
@[simp] theorem State.setCap_ceLog (s : State) (k : Nat) (f : CapSt → CapSt) : (s.setCap k f).ceLog = s.ceLog := rfl
@[simp] theorem State.setCap_dmas (s : State) (k : Nat) (f : CapSt → CapSt) : (s.setCap k f).dmas = s.dmas := rfl
@[simp] theorem State.setCap_commits (s : State) (k : Nat) (f : CapSt → CapSt) : (s.setCap k f).commits = s.commits := rfl
@[simp] theorem State.setCap_trans (s : State) (k : Nat) (f : CapSt → CapSt) : (s.setCap k f).trans = s.trans := rfl
@[simp] theorem State.setCap_tim (s : State) (k : Nat) (f : CapSt → CapSt) : (s.setCap k f).tim = s.tim := rfl
@[simp] theorem State.setCap_cum (s : State) (k : Nat) (f : CapSt → CapSt) : (s.setCap k f).cum = s.cum := rfl
@[simp] theorem State.setCap_ani (s : State) (k : Nat) (f : CapSt → CapSt) : (s.setCap k f).ani = s.ani := rfl
@[simp] theorem State.setCap_beams (s : State) (k : Nat) (f : CapSt → CapSt) : (s.setCap k f).beams = s.beams := rfl
@[simp] theorem State.setCap_wts (s : State) (k : Nat) (f : CapSt → CapSt) : (s.setCap k f).wts = s.wts := rfl
@[simp] theorem State.setCap_taps (s : State) (k : Nat) (f : CapSt → CapSt) : (s.setCap k f).taps = s.taps := rfl
@[simp] theorem State.setCap_strm (s : State) (k : Nat) (f : CapSt → CapSt) : (s.setCap k f).strm = s.strm := rfl
@[simp] theorem State.setCap_dpd (s : State) (k : Nat) (f : CapSt → CapSt) : (s.setCap k f).dpd = s.dpd := rfl
@[simp] theorem State.setCap_mgmtDown (s : State) (k : Nat) (f : CapSt → CapSt) : (s.setCap k f).mgmtDown = s.mgmtDown := rfl
@[simp] theorem State.setCap_cal (s : State) (k : Nat) (f : CapSt → CapSt) : (s.setCap k f).cal = s.cal := rfl
@[simp] theorem State.setCap_ret (s : State) (k : Nat) (f : CapSt → CapSt) : (s.setCap k f).ret = s.ret := rfl
@[simp] theorem State.setCap_lanes (s : State) (k : Nat) (f : CapSt → CapSt) : (s.setCap k f).lanes = s.lanes := rfl
@[simp] theorem State.setCap_erl (s : State) (k : Nat) (f : CapSt → CapSt) : (s.setCap k f).erl = s.erl := rfl
@[simp] theorem State.setCap_snd (s : State) (k : Nat) (f : CapSt → CapSt) : (s.setCap k f).snd = s.snd := rfl
@[simp] theorem State.setCap_bc (s : State) (k : Nat) (f : CapSt → CapSt) : (s.setCap k f).bc = s.bc := rfl
@[simp] theorem State.setCap_sems (s : State) (k : Nat) (f : CapSt → CapSt) : (s.setCap k f).sems = s.sems := rfl
@[simp] theorem State.setCap_mgmt (s : State) (k : Nat) (f : CapSt → CapSt) : (s.setCap k f).mgmt = s.mgmt := rfl
@[simp] theorem State.setCap_updJobs (s : State) (k : Nat) (f : CapSt → CapSt) : (s.setCap k f).updJobs = s.updJobs := rfl
@[simp] theorem State.setCap_otp (s : State) (k : Nat) (f : CapSt → CapSt) : (s.setCap k f).otp = s.otp := rfl
@[simp] theorem State.setCap_sec (s : State) (k : Nat) (f : CapSt → CapSt) : (s.setCap k f).sec = s.sec := rfl
@[simp] theorem State.setCap_mon (s : State) (k : Nat) (f : CapSt → CapSt) : (s.setCap k f).mon = s.mon := rfl
@[simp] theorem State.setCap_bist (s : State) (k : Nat) (f : CapSt → CapSt) : (s.setCap k f).bist = s.bist := rfl
@[simp] theorem State.setCap_modes (s : State) (k : Nat) (f : CapSt → CapSt) : (s.setCap k f).modes = s.modes := rfl
@[simp] theorem State.setCap_seqAt (s : State) (k : Nat) (f : CapSt → CapSt) : (s.setCap k f).seqAt = s.seqAt := rfl
@[simp] theorem State.setCap_seqMod (s : State) (k : Nat) (f : CapSt → CapSt) : (s.setCap k f).seqMod = s.seqMod := rfl
@[simp] theorem State.setCap_srst (s : State) (k : Nat) (f : CapSt → CapSt) : (s.setCap k f).srst = s.srst := rfl
@[simp] theorem State.setCap_hk (s : State) (k : Nat) (f : CapSt → CapSt) : (s.setCap k f).hk = s.hk := rfl
@[simp] theorem State.setCap_age (s : State) (k : Nat) (f : CapSt → CapSt) : (s.setCap k f).age = s.age := rfl
@[simp] theorem State.setCap_evtNow (s : State) (k : Nat) (f : CapSt → CapSt) : (s.setCap k f).evtNow = s.evtNow := rfl
@[simp] theorem State.setCap_evtAt (s : State) (k : Nat) (f : CapSt → CapSt) : (s.setCap k f).evtAt = s.evtAt := rfl
@[simp] theorem State.setCap_pending (s : State) (k : Nat) (f : CapSt → CapSt) : (s.setCap k f).pending = s.pending := rfl
@[simp] theorem State.setCap_caps (s : State) (k : Nat) (f : CapSt → CapSt) : (s.setCap k f).caps = upd s.caps k f := rfl
@[simp] theorem State.setCap_get (s : State) (k : Nat) (f : CapSt → CapSt) (m : Loc) : (s.setCap k f).get m = s.get m := rfl
@[simp] theorem State.setCap_on (s : State) (k : Nat) (f : CapSt → CapSt) (m : Loc) : (s.setCap k f).on m = s.on m := rfl
@[simp] theorem State.setCap_mode (s : State) (k : Nat) (f : CapSt → CapSt) : (s.setCap k f).mode = s.mode := rfl
@[simp] theorem State.setCap_inactive (s : State) (k : Nat) (f : CapSt → CapSt) (m : Loc) : (s.setCap k f).inactive m = s.inactive m := rfl

/-! ### `State.setCore` -/

@[simp] theorem State.setCore_regs (s : State) (k : Nat) (f : CoreSt → CoreSt) : (s.setCore k f).regs = s.regs := rfl
@[simp] theorem State.setCore_bank (s : State) (k : Nat) (f : CoreSt → CoreSt) : (s.setCore k f).bank = s.bank := rfl
@[simp] theorem State.setCore_seqs (s : State) (k : Nat) (f : CoreSt → CoreSt) : (s.setCore k f).seqs = s.seqs := rfl
@[simp] theorem State.setCore_copying (s : State) (k : Nat) (f : CoreSt → CoreSt) : (s.setCore k f).copying = s.copying := rfl
@[simp] theorem State.setCore_windows (s : State) (k : Nat) (f : CoreSt → CoreSt) : (s.setCore k f).windows = s.windows := rfl
@[simp] theorem State.setCore_triggers (s : State) (k : Nat) (f : CoreSt → CoreSt) : (s.setCore k f).triggers = s.triggers := rfl
@[simp] theorem State.setCore_words (s : State) (k : Nat) (f : CoreSt → CoreSt) : (s.setCore k f).words = s.words := rfl
@[simp] theorem State.setCore_acks (s : State) (k : Nat) (f : CoreSt → CoreSt) : (s.setCore k f).acks = s.acks := rfl
@[simp] theorem State.setCore_answer (s : State) (k : Nat) (f : CoreSt → CoreSt) : (s.setCore k f).answer = s.answer := rfl
@[simp] theorem State.setCore_latches (s : State) (k : Nat) (f : CoreSt → CoreSt) : (s.setCore k f).latches = s.latches := rfl
@[simp] theorem State.setCore_tb (s : State) (k : Nat) (f : CoreSt → CoreSt) : (s.setCore k f).tb = s.tb := rfl
@[simp] theorem State.setCore_tbRun (s : State) (k : Nat) (f : CoreSt → CoreSt) : (s.setCore k f).tbRun = s.tbRun := rfl
@[simp] theorem State.setCore_ao (s : State) (k : Nat) (f : CoreSt → CoreSt) : (s.setCore k f).ao = s.ao := rfl
@[simp] theorem State.setCore_fv (s : State) (k : Nat) (f : CoreSt → CoreSt) : (s.setCore k f).fv = s.fv := rfl
@[simp] theorem State.setCore_pwr (s : State) (k : Nat) (f : CoreSt → CoreSt) : (s.setCore k f).pwr = s.pwr := rfl
@[simp] theorem State.setCore_clk (s : State) (k : Nat) (f : CoreSt → CoreSt) : (s.setCore k f).clk = s.clk := rfl
@[simp] theorem State.setCore_paths (s : State) (k : Nat) (f : CoreSt → CoreSt) : (s.setCore k f).paths = s.paths := rfl
@[simp] theorem State.setCore_rxs (s : State) (k : Nat) (f : CoreSt → CoreSt) : (s.setCore k f).rxs = s.rxs := rfl
@[simp] theorem State.setCore_txs (s : State) (k : Nat) (f : CoreSt → CoreSt) : (s.setCore k f).txs = s.txs := rfl
@[simp] theorem State.setCore_octs (s : State) (k : Nat) (f : CoreSt → CoreSt) : (s.setCore k f).octs = s.octs := rfl
@[simp] theorem State.setCore_tl (s : State) (k : Nat) (f : CoreSt → CoreSt) : (s.setCore k f).tl = s.tl := rfl
@[simp] theorem State.setCore_bias (s : State) (k : Nat) (f : CoreSt → CoreSt) : (s.setCore k f).bias = s.bias := rfl
@[simp] theorem State.setCore_log (s : State) (k : Nat) (f : CoreSt → CoreSt) : (s.setCore k f).log = s.log := rfl
@[simp] theorem State.setCore_evtQ (s : State) (k : Nat) (f : CoreSt → CoreSt) : (s.setCore k f).evtQ = s.evtQ := rfl
@[simp] theorem State.setCore_mem (s : State) (k : Nat) (f : CoreSt → CoreSt) : (s.setCore k f).mem = s.mem := rfl
@[simp] theorem State.setCore_ecc (s : State) (k : Nat) (f : CoreSt → CoreSt) : (s.setCore k f).ecc = s.ecc := rfl
@[simp] theorem State.setCore_eccBase (s : State) (k : Nat) (f : CoreSt → CoreSt) : (s.setCore k f).eccBase = s.eccBase := rfl
@[simp] theorem State.setCore_ceLog (s : State) (k : Nat) (f : CoreSt → CoreSt) : (s.setCore k f).ceLog = s.ceLog := rfl
@[simp] theorem State.setCore_caps (s : State) (k : Nat) (f : CoreSt → CoreSt) : (s.setCore k f).caps = s.caps := rfl
@[simp] theorem State.setCore_dmas (s : State) (k : Nat) (f : CoreSt → CoreSt) : (s.setCore k f).dmas = s.dmas := rfl
@[simp] theorem State.setCore_commits (s : State) (k : Nat) (f : CoreSt → CoreSt) : (s.setCore k f).commits = s.commits := rfl
@[simp] theorem State.setCore_trans (s : State) (k : Nat) (f : CoreSt → CoreSt) : (s.setCore k f).trans = s.trans := rfl
@[simp] theorem State.setCore_tim (s : State) (k : Nat) (f : CoreSt → CoreSt) : (s.setCore k f).tim = s.tim := rfl
@[simp] theorem State.setCore_cum (s : State) (k : Nat) (f : CoreSt → CoreSt) : (s.setCore k f).cum = s.cum := rfl
@[simp] theorem State.setCore_ani (s : State) (k : Nat) (f : CoreSt → CoreSt) : (s.setCore k f).ani = s.ani := rfl
@[simp] theorem State.setCore_beams (s : State) (k : Nat) (f : CoreSt → CoreSt) : (s.setCore k f).beams = s.beams := rfl
@[simp] theorem State.setCore_wts (s : State) (k : Nat) (f : CoreSt → CoreSt) : (s.setCore k f).wts = s.wts := rfl
@[simp] theorem State.setCore_taps (s : State) (k : Nat) (f : CoreSt → CoreSt) : (s.setCore k f).taps = s.taps := rfl
@[simp] theorem State.setCore_strm (s : State) (k : Nat) (f : CoreSt → CoreSt) : (s.setCore k f).strm = s.strm := rfl
@[simp] theorem State.setCore_dpd (s : State) (k : Nat) (f : CoreSt → CoreSt) : (s.setCore k f).dpd = s.dpd := rfl
@[simp] theorem State.setCore_mgmtDown (s : State) (k : Nat) (f : CoreSt → CoreSt) : (s.setCore k f).mgmtDown = s.mgmtDown := rfl
@[simp] theorem State.setCore_cal (s : State) (k : Nat) (f : CoreSt → CoreSt) : (s.setCore k f).cal = s.cal := rfl
@[simp] theorem State.setCore_ret (s : State) (k : Nat) (f : CoreSt → CoreSt) : (s.setCore k f).ret = s.ret := rfl
@[simp] theorem State.setCore_lanes (s : State) (k : Nat) (f : CoreSt → CoreSt) : (s.setCore k f).lanes = s.lanes := rfl
@[simp] theorem State.setCore_erl (s : State) (k : Nat) (f : CoreSt → CoreSt) : (s.setCore k f).erl = s.erl := rfl
@[simp] theorem State.setCore_snd (s : State) (k : Nat) (f : CoreSt → CoreSt) : (s.setCore k f).snd = s.snd := rfl
@[simp] theorem State.setCore_bc (s : State) (k : Nat) (f : CoreSt → CoreSt) : (s.setCore k f).bc = s.bc := rfl
@[simp] theorem State.setCore_sems (s : State) (k : Nat) (f : CoreSt → CoreSt) : (s.setCore k f).sems = s.sems := rfl
@[simp] theorem State.setCore_mgmt (s : State) (k : Nat) (f : CoreSt → CoreSt) : (s.setCore k f).mgmt = s.mgmt := rfl
@[simp] theorem State.setCore_updJobs (s : State) (k : Nat) (f : CoreSt → CoreSt) : (s.setCore k f).updJobs = s.updJobs := rfl
@[simp] theorem State.setCore_otp (s : State) (k : Nat) (f : CoreSt → CoreSt) : (s.setCore k f).otp = s.otp := rfl
@[simp] theorem State.setCore_sec (s : State) (k : Nat) (f : CoreSt → CoreSt) : (s.setCore k f).sec = s.sec := rfl
@[simp] theorem State.setCore_mon (s : State) (k : Nat) (f : CoreSt → CoreSt) : (s.setCore k f).mon = s.mon := rfl
@[simp] theorem State.setCore_bist (s : State) (k : Nat) (f : CoreSt → CoreSt) : (s.setCore k f).bist = s.bist := rfl
@[simp] theorem State.setCore_modes (s : State) (k : Nat) (f : CoreSt → CoreSt) : (s.setCore k f).modes = s.modes := rfl
@[simp] theorem State.setCore_seqAt (s : State) (k : Nat) (f : CoreSt → CoreSt) : (s.setCore k f).seqAt = s.seqAt := rfl
@[simp] theorem State.setCore_seqMod (s : State) (k : Nat) (f : CoreSt → CoreSt) : (s.setCore k f).seqMod = s.seqMod := rfl
@[simp] theorem State.setCore_srst (s : State) (k : Nat) (f : CoreSt → CoreSt) : (s.setCore k f).srst = s.srst := rfl
@[simp] theorem State.setCore_hk (s : State) (k : Nat) (f : CoreSt → CoreSt) : (s.setCore k f).hk = s.hk := rfl
@[simp] theorem State.setCore_age (s : State) (k : Nat) (f : CoreSt → CoreSt) : (s.setCore k f).age = s.age := rfl
@[simp] theorem State.setCore_evtNow (s : State) (k : Nat) (f : CoreSt → CoreSt) : (s.setCore k f).evtNow = s.evtNow := rfl
@[simp] theorem State.setCore_evtAt (s : State) (k : Nat) (f : CoreSt → CoreSt) : (s.setCore k f).evtAt = s.evtAt := rfl
@[simp] theorem State.setCore_pending (s : State) (k : Nat) (f : CoreSt → CoreSt) : (s.setCore k f).pending = s.pending := rfl
@[simp] theorem State.setCore_cores (s : State) (k : Nat) (f : CoreSt → CoreSt) : (s.setCore k f).cores = upd s.cores k f := rfl
@[simp] theorem State.setCore_get (s : State) (k : Nat) (f : CoreSt → CoreSt) (m : Loc) : (s.setCore k f).get m = s.get m := rfl
@[simp] theorem State.setCore_on (s : State) (k : Nat) (f : CoreSt → CoreSt) (m : Loc) : (s.setCore k f).on m = s.on m := rfl
@[simp] theorem State.setCore_mode (s : State) (k : Nat) (f : CoreSt → CoreSt) : (s.setCore k f).mode = s.mode := rfl
@[simp] theorem State.setCore_inactive (s : State) (k : Nat) (f : CoreSt → CoreSt) (m : Loc) : (s.setCore k f).inactive m = s.inactive m := rfl

/-! ### `State.setDma` -/

@[simp] theorem State.setDma_regs (s : State) (k : Nat) (f : DmaSt → DmaSt) : (s.setDma k f).regs = s.regs := rfl
@[simp] theorem State.setDma_bank (s : State) (k : Nat) (f : DmaSt → DmaSt) : (s.setDma k f).bank = s.bank := rfl
@[simp] theorem State.setDma_seqs (s : State) (k : Nat) (f : DmaSt → DmaSt) : (s.setDma k f).seqs = s.seqs := rfl
@[simp] theorem State.setDma_copying (s : State) (k : Nat) (f : DmaSt → DmaSt) : (s.setDma k f).copying = s.copying := rfl
@[simp] theorem State.setDma_windows (s : State) (k : Nat) (f : DmaSt → DmaSt) : (s.setDma k f).windows = s.windows := rfl
@[simp] theorem State.setDma_triggers (s : State) (k : Nat) (f : DmaSt → DmaSt) : (s.setDma k f).triggers = s.triggers := rfl
@[simp] theorem State.setDma_words (s : State) (k : Nat) (f : DmaSt → DmaSt) : (s.setDma k f).words = s.words := rfl
@[simp] theorem State.setDma_acks (s : State) (k : Nat) (f : DmaSt → DmaSt) : (s.setDma k f).acks = s.acks := rfl
@[simp] theorem State.setDma_answer (s : State) (k : Nat) (f : DmaSt → DmaSt) : (s.setDma k f).answer = s.answer := rfl
@[simp] theorem State.setDma_latches (s : State) (k : Nat) (f : DmaSt → DmaSt) : (s.setDma k f).latches = s.latches := rfl
@[simp] theorem State.setDma_tb (s : State) (k : Nat) (f : DmaSt → DmaSt) : (s.setDma k f).tb = s.tb := rfl
@[simp] theorem State.setDma_tbRun (s : State) (k : Nat) (f : DmaSt → DmaSt) : (s.setDma k f).tbRun = s.tbRun := rfl
@[simp] theorem State.setDma_ao (s : State) (k : Nat) (f : DmaSt → DmaSt) : (s.setDma k f).ao = s.ao := rfl
@[simp] theorem State.setDma_fv (s : State) (k : Nat) (f : DmaSt → DmaSt) : (s.setDma k f).fv = s.fv := rfl
@[simp] theorem State.setDma_pwr (s : State) (k : Nat) (f : DmaSt → DmaSt) : (s.setDma k f).pwr = s.pwr := rfl
@[simp] theorem State.setDma_clk (s : State) (k : Nat) (f : DmaSt → DmaSt) : (s.setDma k f).clk = s.clk := rfl
@[simp] theorem State.setDma_paths (s : State) (k : Nat) (f : DmaSt → DmaSt) : (s.setDma k f).paths = s.paths := rfl
@[simp] theorem State.setDma_rxs (s : State) (k : Nat) (f : DmaSt → DmaSt) : (s.setDma k f).rxs = s.rxs := rfl
@[simp] theorem State.setDma_txs (s : State) (k : Nat) (f : DmaSt → DmaSt) : (s.setDma k f).txs = s.txs := rfl
@[simp] theorem State.setDma_octs (s : State) (k : Nat) (f : DmaSt → DmaSt) : (s.setDma k f).octs = s.octs := rfl
@[simp] theorem State.setDma_tl (s : State) (k : Nat) (f : DmaSt → DmaSt) : (s.setDma k f).tl = s.tl := rfl
@[simp] theorem State.setDma_bias (s : State) (k : Nat) (f : DmaSt → DmaSt) : (s.setDma k f).bias = s.bias := rfl
@[simp] theorem State.setDma_log (s : State) (k : Nat) (f : DmaSt → DmaSt) : (s.setDma k f).log = s.log := rfl
@[simp] theorem State.setDma_cores (s : State) (k : Nat) (f : DmaSt → DmaSt) : (s.setDma k f).cores = s.cores := rfl
@[simp] theorem State.setDma_evtQ (s : State) (k : Nat) (f : DmaSt → DmaSt) : (s.setDma k f).evtQ = s.evtQ := rfl
@[simp] theorem State.setDma_mem (s : State) (k : Nat) (f : DmaSt → DmaSt) : (s.setDma k f).mem = s.mem := rfl
@[simp] theorem State.setDma_ecc (s : State) (k : Nat) (f : DmaSt → DmaSt) : (s.setDma k f).ecc = s.ecc := rfl
@[simp] theorem State.setDma_eccBase (s : State) (k : Nat) (f : DmaSt → DmaSt) : (s.setDma k f).eccBase = s.eccBase := rfl
@[simp] theorem State.setDma_ceLog (s : State) (k : Nat) (f : DmaSt → DmaSt) : (s.setDma k f).ceLog = s.ceLog := rfl
@[simp] theorem State.setDma_caps (s : State) (k : Nat) (f : DmaSt → DmaSt) : (s.setDma k f).caps = s.caps := rfl
@[simp] theorem State.setDma_commits (s : State) (k : Nat) (f : DmaSt → DmaSt) : (s.setDma k f).commits = s.commits := rfl
@[simp] theorem State.setDma_trans (s : State) (k : Nat) (f : DmaSt → DmaSt) : (s.setDma k f).trans = s.trans := rfl
@[simp] theorem State.setDma_tim (s : State) (k : Nat) (f : DmaSt → DmaSt) : (s.setDma k f).tim = s.tim := rfl
@[simp] theorem State.setDma_cum (s : State) (k : Nat) (f : DmaSt → DmaSt) : (s.setDma k f).cum = s.cum := rfl
@[simp] theorem State.setDma_ani (s : State) (k : Nat) (f : DmaSt → DmaSt) : (s.setDma k f).ani = s.ani := rfl
@[simp] theorem State.setDma_beams (s : State) (k : Nat) (f : DmaSt → DmaSt) : (s.setDma k f).beams = s.beams := rfl
@[simp] theorem State.setDma_wts (s : State) (k : Nat) (f : DmaSt → DmaSt) : (s.setDma k f).wts = s.wts := rfl
@[simp] theorem State.setDma_taps (s : State) (k : Nat) (f : DmaSt → DmaSt) : (s.setDma k f).taps = s.taps := rfl
@[simp] theorem State.setDma_strm (s : State) (k : Nat) (f : DmaSt → DmaSt) : (s.setDma k f).strm = s.strm := rfl
@[simp] theorem State.setDma_dpd (s : State) (k : Nat) (f : DmaSt → DmaSt) : (s.setDma k f).dpd = s.dpd := rfl
@[simp] theorem State.setDma_mgmtDown (s : State) (k : Nat) (f : DmaSt → DmaSt) : (s.setDma k f).mgmtDown = s.mgmtDown := rfl
@[simp] theorem State.setDma_cal (s : State) (k : Nat) (f : DmaSt → DmaSt) : (s.setDma k f).cal = s.cal := rfl
@[simp] theorem State.setDma_ret (s : State) (k : Nat) (f : DmaSt → DmaSt) : (s.setDma k f).ret = s.ret := rfl
@[simp] theorem State.setDma_lanes (s : State) (k : Nat) (f : DmaSt → DmaSt) : (s.setDma k f).lanes = s.lanes := rfl
@[simp] theorem State.setDma_erl (s : State) (k : Nat) (f : DmaSt → DmaSt) : (s.setDma k f).erl = s.erl := rfl
@[simp] theorem State.setDma_snd (s : State) (k : Nat) (f : DmaSt → DmaSt) : (s.setDma k f).snd = s.snd := rfl
@[simp] theorem State.setDma_bc (s : State) (k : Nat) (f : DmaSt → DmaSt) : (s.setDma k f).bc = s.bc := rfl
@[simp] theorem State.setDma_sems (s : State) (k : Nat) (f : DmaSt → DmaSt) : (s.setDma k f).sems = s.sems := rfl
@[simp] theorem State.setDma_mgmt (s : State) (k : Nat) (f : DmaSt → DmaSt) : (s.setDma k f).mgmt = s.mgmt := rfl
@[simp] theorem State.setDma_updJobs (s : State) (k : Nat) (f : DmaSt → DmaSt) : (s.setDma k f).updJobs = s.updJobs := rfl
@[simp] theorem State.setDma_otp (s : State) (k : Nat) (f : DmaSt → DmaSt) : (s.setDma k f).otp = s.otp := rfl
@[simp] theorem State.setDma_sec (s : State) (k : Nat) (f : DmaSt → DmaSt) : (s.setDma k f).sec = s.sec := rfl
@[simp] theorem State.setDma_mon (s : State) (k : Nat) (f : DmaSt → DmaSt) : (s.setDma k f).mon = s.mon := rfl
@[simp] theorem State.setDma_bist (s : State) (k : Nat) (f : DmaSt → DmaSt) : (s.setDma k f).bist = s.bist := rfl
@[simp] theorem State.setDma_modes (s : State) (k : Nat) (f : DmaSt → DmaSt) : (s.setDma k f).modes = s.modes := rfl
@[simp] theorem State.setDma_seqAt (s : State) (k : Nat) (f : DmaSt → DmaSt) : (s.setDma k f).seqAt = s.seqAt := rfl
@[simp] theorem State.setDma_seqMod (s : State) (k : Nat) (f : DmaSt → DmaSt) : (s.setDma k f).seqMod = s.seqMod := rfl
@[simp] theorem State.setDma_srst (s : State) (k : Nat) (f : DmaSt → DmaSt) : (s.setDma k f).srst = s.srst := rfl
@[simp] theorem State.setDma_hk (s : State) (k : Nat) (f : DmaSt → DmaSt) : (s.setDma k f).hk = s.hk := rfl
@[simp] theorem State.setDma_age (s : State) (k : Nat) (f : DmaSt → DmaSt) : (s.setDma k f).age = s.age := rfl
@[simp] theorem State.setDma_evtNow (s : State) (k : Nat) (f : DmaSt → DmaSt) : (s.setDma k f).evtNow = s.evtNow := rfl
@[simp] theorem State.setDma_evtAt (s : State) (k : Nat) (f : DmaSt → DmaSt) : (s.setDma k f).evtAt = s.evtAt := rfl
@[simp] theorem State.setDma_pending (s : State) (k : Nat) (f : DmaSt → DmaSt) : (s.setDma k f).pending = s.pending := rfl
@[simp] theorem State.setDma_dmas (s : State) (k : Nat) (f : DmaSt → DmaSt) : (s.setDma k f).dmas = upd s.dmas k f := rfl
@[simp] theorem State.setDma_get (s : State) (k : Nat) (f : DmaSt → DmaSt) (m : Loc) : (s.setDma k f).get m = s.get m := rfl
@[simp] theorem State.setDma_on (s : State) (k : Nat) (f : DmaSt → DmaSt) (m : Loc) : (s.setDma k f).on m = s.on m := rfl
@[simp] theorem State.setDma_mode (s : State) (k : Nat) (f : DmaSt → DmaSt) : (s.setDma k f).mode = s.mode := rfl
@[simp] theorem State.setDma_inactive (s : State) (k : Nat) (f : DmaSt → DmaSt) (m : Loc) : (s.setDma k f).inactive m = s.inactive m := rfl

/-! ### `State.setPath` -/

@[simp] theorem State.setPath_regs (s : State) (k : Nat) (f : PathSt → PathSt) : (s.setPath k f).regs = s.regs := rfl
@[simp] theorem State.setPath_bank (s : State) (k : Nat) (f : PathSt → PathSt) : (s.setPath k f).bank = s.bank := rfl
@[simp] theorem State.setPath_seqs (s : State) (k : Nat) (f : PathSt → PathSt) : (s.setPath k f).seqs = s.seqs := rfl
@[simp] theorem State.setPath_copying (s : State) (k : Nat) (f : PathSt → PathSt) : (s.setPath k f).copying = s.copying := rfl
@[simp] theorem State.setPath_windows (s : State) (k : Nat) (f : PathSt → PathSt) : (s.setPath k f).windows = s.windows := rfl
@[simp] theorem State.setPath_triggers (s : State) (k : Nat) (f : PathSt → PathSt) : (s.setPath k f).triggers = s.triggers := rfl
@[simp] theorem State.setPath_words (s : State) (k : Nat) (f : PathSt → PathSt) : (s.setPath k f).words = s.words := rfl
@[simp] theorem State.setPath_acks (s : State) (k : Nat) (f : PathSt → PathSt) : (s.setPath k f).acks = s.acks := rfl
@[simp] theorem State.setPath_answer (s : State) (k : Nat) (f : PathSt → PathSt) : (s.setPath k f).answer = s.answer := rfl
@[simp] theorem State.setPath_latches (s : State) (k : Nat) (f : PathSt → PathSt) : (s.setPath k f).latches = s.latches := rfl
@[simp] theorem State.setPath_tb (s : State) (k : Nat) (f : PathSt → PathSt) : (s.setPath k f).tb = s.tb := rfl
@[simp] theorem State.setPath_tbRun (s : State) (k : Nat) (f : PathSt → PathSt) : (s.setPath k f).tbRun = s.tbRun := rfl
@[simp] theorem State.setPath_ao (s : State) (k : Nat) (f : PathSt → PathSt) : (s.setPath k f).ao = s.ao := rfl
@[simp] theorem State.setPath_fv (s : State) (k : Nat) (f : PathSt → PathSt) : (s.setPath k f).fv = s.fv := rfl
@[simp] theorem State.setPath_pwr (s : State) (k : Nat) (f : PathSt → PathSt) : (s.setPath k f).pwr = s.pwr := rfl
@[simp] theorem State.setPath_clk (s : State) (k : Nat) (f : PathSt → PathSt) : (s.setPath k f).clk = s.clk := rfl
@[simp] theorem State.setPath_rxs (s : State) (k : Nat) (f : PathSt → PathSt) : (s.setPath k f).rxs = s.rxs := rfl
@[simp] theorem State.setPath_txs (s : State) (k : Nat) (f : PathSt → PathSt) : (s.setPath k f).txs = s.txs := rfl
@[simp] theorem State.setPath_octs (s : State) (k : Nat) (f : PathSt → PathSt) : (s.setPath k f).octs = s.octs := rfl
@[simp] theorem State.setPath_tl (s : State) (k : Nat) (f : PathSt → PathSt) : (s.setPath k f).tl = s.tl := rfl
@[simp] theorem State.setPath_bias (s : State) (k : Nat) (f : PathSt → PathSt) : (s.setPath k f).bias = s.bias := rfl
@[simp] theorem State.setPath_log (s : State) (k : Nat) (f : PathSt → PathSt) : (s.setPath k f).log = s.log := rfl
@[simp] theorem State.setPath_cores (s : State) (k : Nat) (f : PathSt → PathSt) : (s.setPath k f).cores = s.cores := rfl
@[simp] theorem State.setPath_evtQ (s : State) (k : Nat) (f : PathSt → PathSt) : (s.setPath k f).evtQ = s.evtQ := rfl
@[simp] theorem State.setPath_mem (s : State) (k : Nat) (f : PathSt → PathSt) : (s.setPath k f).mem = s.mem := rfl
@[simp] theorem State.setPath_ecc (s : State) (k : Nat) (f : PathSt → PathSt) : (s.setPath k f).ecc = s.ecc := rfl
@[simp] theorem State.setPath_eccBase (s : State) (k : Nat) (f : PathSt → PathSt) : (s.setPath k f).eccBase = s.eccBase := rfl
@[simp] theorem State.setPath_ceLog (s : State) (k : Nat) (f : PathSt → PathSt) : (s.setPath k f).ceLog = s.ceLog := rfl
@[simp] theorem State.setPath_caps (s : State) (k : Nat) (f : PathSt → PathSt) : (s.setPath k f).caps = s.caps := rfl
@[simp] theorem State.setPath_dmas (s : State) (k : Nat) (f : PathSt → PathSt) : (s.setPath k f).dmas = s.dmas := rfl
@[simp] theorem State.setPath_commits (s : State) (k : Nat) (f : PathSt → PathSt) : (s.setPath k f).commits = s.commits := rfl
@[simp] theorem State.setPath_trans (s : State) (k : Nat) (f : PathSt → PathSt) : (s.setPath k f).trans = s.trans := rfl
@[simp] theorem State.setPath_tim (s : State) (k : Nat) (f : PathSt → PathSt) : (s.setPath k f).tim = s.tim := rfl
@[simp] theorem State.setPath_cum (s : State) (k : Nat) (f : PathSt → PathSt) : (s.setPath k f).cum = s.cum := rfl
@[simp] theorem State.setPath_ani (s : State) (k : Nat) (f : PathSt → PathSt) : (s.setPath k f).ani = s.ani := rfl
@[simp] theorem State.setPath_beams (s : State) (k : Nat) (f : PathSt → PathSt) : (s.setPath k f).beams = s.beams := rfl
@[simp] theorem State.setPath_wts (s : State) (k : Nat) (f : PathSt → PathSt) : (s.setPath k f).wts = s.wts := rfl
@[simp] theorem State.setPath_taps (s : State) (k : Nat) (f : PathSt → PathSt) : (s.setPath k f).taps = s.taps := rfl
@[simp] theorem State.setPath_strm (s : State) (k : Nat) (f : PathSt → PathSt) : (s.setPath k f).strm = s.strm := rfl
@[simp] theorem State.setPath_dpd (s : State) (k : Nat) (f : PathSt → PathSt) : (s.setPath k f).dpd = s.dpd := rfl
@[simp] theorem State.setPath_mgmtDown (s : State) (k : Nat) (f : PathSt → PathSt) : (s.setPath k f).mgmtDown = s.mgmtDown := rfl
@[simp] theorem State.setPath_cal (s : State) (k : Nat) (f : PathSt → PathSt) : (s.setPath k f).cal = s.cal := rfl
@[simp] theorem State.setPath_ret (s : State) (k : Nat) (f : PathSt → PathSt) : (s.setPath k f).ret = s.ret := rfl
@[simp] theorem State.setPath_lanes (s : State) (k : Nat) (f : PathSt → PathSt) : (s.setPath k f).lanes = s.lanes := rfl
@[simp] theorem State.setPath_erl (s : State) (k : Nat) (f : PathSt → PathSt) : (s.setPath k f).erl = s.erl := rfl
@[simp] theorem State.setPath_snd (s : State) (k : Nat) (f : PathSt → PathSt) : (s.setPath k f).snd = s.snd := rfl
@[simp] theorem State.setPath_bc (s : State) (k : Nat) (f : PathSt → PathSt) : (s.setPath k f).bc = s.bc := rfl
@[simp] theorem State.setPath_sems (s : State) (k : Nat) (f : PathSt → PathSt) : (s.setPath k f).sems = s.sems := rfl
@[simp] theorem State.setPath_mgmt (s : State) (k : Nat) (f : PathSt → PathSt) : (s.setPath k f).mgmt = s.mgmt := rfl
@[simp] theorem State.setPath_updJobs (s : State) (k : Nat) (f : PathSt → PathSt) : (s.setPath k f).updJobs = s.updJobs := rfl
@[simp] theorem State.setPath_otp (s : State) (k : Nat) (f : PathSt → PathSt) : (s.setPath k f).otp = s.otp := rfl
@[simp] theorem State.setPath_sec (s : State) (k : Nat) (f : PathSt → PathSt) : (s.setPath k f).sec = s.sec := rfl
@[simp] theorem State.setPath_mon (s : State) (k : Nat) (f : PathSt → PathSt) : (s.setPath k f).mon = s.mon := rfl
@[simp] theorem State.setPath_bist (s : State) (k : Nat) (f : PathSt → PathSt) : (s.setPath k f).bist = s.bist := rfl
@[simp] theorem State.setPath_modes (s : State) (k : Nat) (f : PathSt → PathSt) : (s.setPath k f).modes = s.modes := rfl
@[simp] theorem State.setPath_seqAt (s : State) (k : Nat) (f : PathSt → PathSt) : (s.setPath k f).seqAt = s.seqAt := rfl
@[simp] theorem State.setPath_seqMod (s : State) (k : Nat) (f : PathSt → PathSt) : (s.setPath k f).seqMod = s.seqMod := rfl
@[simp] theorem State.setPath_srst (s : State) (k : Nat) (f : PathSt → PathSt) : (s.setPath k f).srst = s.srst := rfl
@[simp] theorem State.setPath_hk (s : State) (k : Nat) (f : PathSt → PathSt) : (s.setPath k f).hk = s.hk := rfl
@[simp] theorem State.setPath_age (s : State) (k : Nat) (f : PathSt → PathSt) : (s.setPath k f).age = s.age := rfl
@[simp] theorem State.setPath_evtNow (s : State) (k : Nat) (f : PathSt → PathSt) : (s.setPath k f).evtNow = s.evtNow := rfl
@[simp] theorem State.setPath_evtAt (s : State) (k : Nat) (f : PathSt → PathSt) : (s.setPath k f).evtAt = s.evtAt := rfl
@[simp] theorem State.setPath_pending (s : State) (k : Nat) (f : PathSt → PathSt) : (s.setPath k f).pending = s.pending := rfl
@[simp] theorem State.setPath_paths (s : State) (k : Nat) (f : PathSt → PathSt) : (s.setPath k f).paths = upd s.paths k f := rfl
@[simp] theorem State.setPath_get (s : State) (k : Nat) (f : PathSt → PathSt) (m : Loc) : (s.setPath k f).get m = s.get m := rfl
@[simp] theorem State.setPath_on (s : State) (k : Nat) (f : PathSt → PathSt) (m : Loc) : (s.setPath k f).on m = s.on m := rfl
@[simp] theorem State.setPath_mode (s : State) (k : Nat) (f : PathSt → PathSt) : (s.setPath k f).mode = s.mode := rfl
@[simp] theorem State.setPath_inactive (s : State) (k : Nat) (f : PathSt → PathSt) (m : Loc) : (s.setPath k f).inactive m = s.inactive m := rfl

/-! ### `State.setRx` -/

@[simp] theorem State.setRx_regs (s : State) (k : Nat) (f : RxSt → RxSt) : (s.setRx k f).regs = s.regs := rfl
@[simp] theorem State.setRx_bank (s : State) (k : Nat) (f : RxSt → RxSt) : (s.setRx k f).bank = s.bank := rfl
@[simp] theorem State.setRx_seqs (s : State) (k : Nat) (f : RxSt → RxSt) : (s.setRx k f).seqs = s.seqs := rfl
@[simp] theorem State.setRx_copying (s : State) (k : Nat) (f : RxSt → RxSt) : (s.setRx k f).copying = s.copying := rfl
@[simp] theorem State.setRx_windows (s : State) (k : Nat) (f : RxSt → RxSt) : (s.setRx k f).windows = s.windows := rfl
@[simp] theorem State.setRx_triggers (s : State) (k : Nat) (f : RxSt → RxSt) : (s.setRx k f).triggers = s.triggers := rfl
@[simp] theorem State.setRx_words (s : State) (k : Nat) (f : RxSt → RxSt) : (s.setRx k f).words = s.words := rfl
@[simp] theorem State.setRx_acks (s : State) (k : Nat) (f : RxSt → RxSt) : (s.setRx k f).acks = s.acks := rfl
@[simp] theorem State.setRx_answer (s : State) (k : Nat) (f : RxSt → RxSt) : (s.setRx k f).answer = s.answer := rfl
@[simp] theorem State.setRx_latches (s : State) (k : Nat) (f : RxSt → RxSt) : (s.setRx k f).latches = s.latches := rfl
@[simp] theorem State.setRx_tb (s : State) (k : Nat) (f : RxSt → RxSt) : (s.setRx k f).tb = s.tb := rfl
@[simp] theorem State.setRx_tbRun (s : State) (k : Nat) (f : RxSt → RxSt) : (s.setRx k f).tbRun = s.tbRun := rfl
@[simp] theorem State.setRx_ao (s : State) (k : Nat) (f : RxSt → RxSt) : (s.setRx k f).ao = s.ao := rfl
@[simp] theorem State.setRx_fv (s : State) (k : Nat) (f : RxSt → RxSt) : (s.setRx k f).fv = s.fv := rfl
@[simp] theorem State.setRx_pwr (s : State) (k : Nat) (f : RxSt → RxSt) : (s.setRx k f).pwr = s.pwr := rfl
@[simp] theorem State.setRx_clk (s : State) (k : Nat) (f : RxSt → RxSt) : (s.setRx k f).clk = s.clk := rfl
@[simp] theorem State.setRx_paths (s : State) (k : Nat) (f : RxSt → RxSt) : (s.setRx k f).paths = s.paths := rfl
@[simp] theorem State.setRx_txs (s : State) (k : Nat) (f : RxSt → RxSt) : (s.setRx k f).txs = s.txs := rfl
@[simp] theorem State.setRx_octs (s : State) (k : Nat) (f : RxSt → RxSt) : (s.setRx k f).octs = s.octs := rfl
@[simp] theorem State.setRx_tl (s : State) (k : Nat) (f : RxSt → RxSt) : (s.setRx k f).tl = s.tl := rfl
@[simp] theorem State.setRx_bias (s : State) (k : Nat) (f : RxSt → RxSt) : (s.setRx k f).bias = s.bias := rfl
@[simp] theorem State.setRx_log (s : State) (k : Nat) (f : RxSt → RxSt) : (s.setRx k f).log = s.log := rfl
@[simp] theorem State.setRx_cores (s : State) (k : Nat) (f : RxSt → RxSt) : (s.setRx k f).cores = s.cores := rfl
@[simp] theorem State.setRx_evtQ (s : State) (k : Nat) (f : RxSt → RxSt) : (s.setRx k f).evtQ = s.evtQ := rfl
@[simp] theorem State.setRx_mem (s : State) (k : Nat) (f : RxSt → RxSt) : (s.setRx k f).mem = s.mem := rfl
@[simp] theorem State.setRx_ecc (s : State) (k : Nat) (f : RxSt → RxSt) : (s.setRx k f).ecc = s.ecc := rfl
@[simp] theorem State.setRx_eccBase (s : State) (k : Nat) (f : RxSt → RxSt) : (s.setRx k f).eccBase = s.eccBase := rfl
@[simp] theorem State.setRx_ceLog (s : State) (k : Nat) (f : RxSt → RxSt) : (s.setRx k f).ceLog = s.ceLog := rfl
@[simp] theorem State.setRx_caps (s : State) (k : Nat) (f : RxSt → RxSt) : (s.setRx k f).caps = s.caps := rfl
@[simp] theorem State.setRx_dmas (s : State) (k : Nat) (f : RxSt → RxSt) : (s.setRx k f).dmas = s.dmas := rfl
@[simp] theorem State.setRx_commits (s : State) (k : Nat) (f : RxSt → RxSt) : (s.setRx k f).commits = s.commits := rfl
@[simp] theorem State.setRx_trans (s : State) (k : Nat) (f : RxSt → RxSt) : (s.setRx k f).trans = s.trans := rfl
@[simp] theorem State.setRx_tim (s : State) (k : Nat) (f : RxSt → RxSt) : (s.setRx k f).tim = s.tim := rfl
@[simp] theorem State.setRx_cum (s : State) (k : Nat) (f : RxSt → RxSt) : (s.setRx k f).cum = s.cum := rfl
@[simp] theorem State.setRx_ani (s : State) (k : Nat) (f : RxSt → RxSt) : (s.setRx k f).ani = s.ani := rfl
@[simp] theorem State.setRx_beams (s : State) (k : Nat) (f : RxSt → RxSt) : (s.setRx k f).beams = s.beams := rfl
@[simp] theorem State.setRx_wts (s : State) (k : Nat) (f : RxSt → RxSt) : (s.setRx k f).wts = s.wts := rfl
@[simp] theorem State.setRx_taps (s : State) (k : Nat) (f : RxSt → RxSt) : (s.setRx k f).taps = s.taps := rfl
@[simp] theorem State.setRx_strm (s : State) (k : Nat) (f : RxSt → RxSt) : (s.setRx k f).strm = s.strm := rfl
@[simp] theorem State.setRx_dpd (s : State) (k : Nat) (f : RxSt → RxSt) : (s.setRx k f).dpd = s.dpd := rfl
@[simp] theorem State.setRx_mgmtDown (s : State) (k : Nat) (f : RxSt → RxSt) : (s.setRx k f).mgmtDown = s.mgmtDown := rfl
@[simp] theorem State.setRx_cal (s : State) (k : Nat) (f : RxSt → RxSt) : (s.setRx k f).cal = s.cal := rfl
@[simp] theorem State.setRx_ret (s : State) (k : Nat) (f : RxSt → RxSt) : (s.setRx k f).ret = s.ret := rfl
@[simp] theorem State.setRx_lanes (s : State) (k : Nat) (f : RxSt → RxSt) : (s.setRx k f).lanes = s.lanes := rfl
@[simp] theorem State.setRx_erl (s : State) (k : Nat) (f : RxSt → RxSt) : (s.setRx k f).erl = s.erl := rfl
@[simp] theorem State.setRx_snd (s : State) (k : Nat) (f : RxSt → RxSt) : (s.setRx k f).snd = s.snd := rfl
@[simp] theorem State.setRx_bc (s : State) (k : Nat) (f : RxSt → RxSt) : (s.setRx k f).bc = s.bc := rfl
@[simp] theorem State.setRx_sems (s : State) (k : Nat) (f : RxSt → RxSt) : (s.setRx k f).sems = s.sems := rfl
@[simp] theorem State.setRx_mgmt (s : State) (k : Nat) (f : RxSt → RxSt) : (s.setRx k f).mgmt = s.mgmt := rfl
@[simp] theorem State.setRx_updJobs (s : State) (k : Nat) (f : RxSt → RxSt) : (s.setRx k f).updJobs = s.updJobs := rfl
@[simp] theorem State.setRx_otp (s : State) (k : Nat) (f : RxSt → RxSt) : (s.setRx k f).otp = s.otp := rfl
@[simp] theorem State.setRx_sec (s : State) (k : Nat) (f : RxSt → RxSt) : (s.setRx k f).sec = s.sec := rfl
@[simp] theorem State.setRx_mon (s : State) (k : Nat) (f : RxSt → RxSt) : (s.setRx k f).mon = s.mon := rfl
@[simp] theorem State.setRx_bist (s : State) (k : Nat) (f : RxSt → RxSt) : (s.setRx k f).bist = s.bist := rfl
@[simp] theorem State.setRx_modes (s : State) (k : Nat) (f : RxSt → RxSt) : (s.setRx k f).modes = s.modes := rfl
@[simp] theorem State.setRx_seqAt (s : State) (k : Nat) (f : RxSt → RxSt) : (s.setRx k f).seqAt = s.seqAt := rfl
@[simp] theorem State.setRx_seqMod (s : State) (k : Nat) (f : RxSt → RxSt) : (s.setRx k f).seqMod = s.seqMod := rfl
@[simp] theorem State.setRx_srst (s : State) (k : Nat) (f : RxSt → RxSt) : (s.setRx k f).srst = s.srst := rfl
@[simp] theorem State.setRx_hk (s : State) (k : Nat) (f : RxSt → RxSt) : (s.setRx k f).hk = s.hk := rfl
@[simp] theorem State.setRx_age (s : State) (k : Nat) (f : RxSt → RxSt) : (s.setRx k f).age = s.age := rfl
@[simp] theorem State.setRx_evtNow (s : State) (k : Nat) (f : RxSt → RxSt) : (s.setRx k f).evtNow = s.evtNow := rfl
@[simp] theorem State.setRx_evtAt (s : State) (k : Nat) (f : RxSt → RxSt) : (s.setRx k f).evtAt = s.evtAt := rfl
@[simp] theorem State.setRx_pending (s : State) (k : Nat) (f : RxSt → RxSt) : (s.setRx k f).pending = s.pending := rfl
@[simp] theorem State.setRx_rxs (s : State) (k : Nat) (f : RxSt → RxSt) : (s.setRx k f).rxs = upd s.rxs k f := rfl
@[simp] theorem State.setRx_get (s : State) (k : Nat) (f : RxSt → RxSt) (m : Loc) : (s.setRx k f).get m = s.get m := rfl
@[simp] theorem State.setRx_on (s : State) (k : Nat) (f : RxSt → RxSt) (m : Loc) : (s.setRx k f).on m = s.on m := rfl
@[simp] theorem State.setRx_mode (s : State) (k : Nat) (f : RxSt → RxSt) : (s.setRx k f).mode = s.mode := rfl
@[simp] theorem State.setRx_inactive (s : State) (k : Nat) (f : RxSt → RxSt) (m : Loc) : (s.setRx k f).inactive m = s.inactive m := rfl

/-! ### `State.setTx` -/

@[simp] theorem State.setTx_regs (s : State) (k : Nat) (f : TxSt → TxSt) : (s.setTx k f).regs = s.regs := rfl
@[simp] theorem State.setTx_bank (s : State) (k : Nat) (f : TxSt → TxSt) : (s.setTx k f).bank = s.bank := rfl
@[simp] theorem State.setTx_seqs (s : State) (k : Nat) (f : TxSt → TxSt) : (s.setTx k f).seqs = s.seqs := rfl
@[simp] theorem State.setTx_copying (s : State) (k : Nat) (f : TxSt → TxSt) : (s.setTx k f).copying = s.copying := rfl
@[simp] theorem State.setTx_windows (s : State) (k : Nat) (f : TxSt → TxSt) : (s.setTx k f).windows = s.windows := rfl
@[simp] theorem State.setTx_triggers (s : State) (k : Nat) (f : TxSt → TxSt) : (s.setTx k f).triggers = s.triggers := rfl
@[simp] theorem State.setTx_words (s : State) (k : Nat) (f : TxSt → TxSt) : (s.setTx k f).words = s.words := rfl
@[simp] theorem State.setTx_acks (s : State) (k : Nat) (f : TxSt → TxSt) : (s.setTx k f).acks = s.acks := rfl
@[simp] theorem State.setTx_answer (s : State) (k : Nat) (f : TxSt → TxSt) : (s.setTx k f).answer = s.answer := rfl
@[simp] theorem State.setTx_latches (s : State) (k : Nat) (f : TxSt → TxSt) : (s.setTx k f).latches = s.latches := rfl
@[simp] theorem State.setTx_tb (s : State) (k : Nat) (f : TxSt → TxSt) : (s.setTx k f).tb = s.tb := rfl
@[simp] theorem State.setTx_tbRun (s : State) (k : Nat) (f : TxSt → TxSt) : (s.setTx k f).tbRun = s.tbRun := rfl
@[simp] theorem State.setTx_ao (s : State) (k : Nat) (f : TxSt → TxSt) : (s.setTx k f).ao = s.ao := rfl
@[simp] theorem State.setTx_fv (s : State) (k : Nat) (f : TxSt → TxSt) : (s.setTx k f).fv = s.fv := rfl
@[simp] theorem State.setTx_pwr (s : State) (k : Nat) (f : TxSt → TxSt) : (s.setTx k f).pwr = s.pwr := rfl
@[simp] theorem State.setTx_clk (s : State) (k : Nat) (f : TxSt → TxSt) : (s.setTx k f).clk = s.clk := rfl
@[simp] theorem State.setTx_paths (s : State) (k : Nat) (f : TxSt → TxSt) : (s.setTx k f).paths = s.paths := rfl
@[simp] theorem State.setTx_rxs (s : State) (k : Nat) (f : TxSt → TxSt) : (s.setTx k f).rxs = s.rxs := rfl
@[simp] theorem State.setTx_octs (s : State) (k : Nat) (f : TxSt → TxSt) : (s.setTx k f).octs = s.octs := rfl
@[simp] theorem State.setTx_tl (s : State) (k : Nat) (f : TxSt → TxSt) : (s.setTx k f).tl = s.tl := rfl
@[simp] theorem State.setTx_bias (s : State) (k : Nat) (f : TxSt → TxSt) : (s.setTx k f).bias = s.bias := rfl
@[simp] theorem State.setTx_log (s : State) (k : Nat) (f : TxSt → TxSt) : (s.setTx k f).log = s.log := rfl
@[simp] theorem State.setTx_cores (s : State) (k : Nat) (f : TxSt → TxSt) : (s.setTx k f).cores = s.cores := rfl
@[simp] theorem State.setTx_evtQ (s : State) (k : Nat) (f : TxSt → TxSt) : (s.setTx k f).evtQ = s.evtQ := rfl
@[simp] theorem State.setTx_mem (s : State) (k : Nat) (f : TxSt → TxSt) : (s.setTx k f).mem = s.mem := rfl
@[simp] theorem State.setTx_ecc (s : State) (k : Nat) (f : TxSt → TxSt) : (s.setTx k f).ecc = s.ecc := rfl
@[simp] theorem State.setTx_eccBase (s : State) (k : Nat) (f : TxSt → TxSt) : (s.setTx k f).eccBase = s.eccBase := rfl
@[simp] theorem State.setTx_ceLog (s : State) (k : Nat) (f : TxSt → TxSt) : (s.setTx k f).ceLog = s.ceLog := rfl
@[simp] theorem State.setTx_caps (s : State) (k : Nat) (f : TxSt → TxSt) : (s.setTx k f).caps = s.caps := rfl
@[simp] theorem State.setTx_dmas (s : State) (k : Nat) (f : TxSt → TxSt) : (s.setTx k f).dmas = s.dmas := rfl
@[simp] theorem State.setTx_commits (s : State) (k : Nat) (f : TxSt → TxSt) : (s.setTx k f).commits = s.commits := rfl
@[simp] theorem State.setTx_trans (s : State) (k : Nat) (f : TxSt → TxSt) : (s.setTx k f).trans = s.trans := rfl
@[simp] theorem State.setTx_tim (s : State) (k : Nat) (f : TxSt → TxSt) : (s.setTx k f).tim = s.tim := rfl
@[simp] theorem State.setTx_cum (s : State) (k : Nat) (f : TxSt → TxSt) : (s.setTx k f).cum = s.cum := rfl
@[simp] theorem State.setTx_ani (s : State) (k : Nat) (f : TxSt → TxSt) : (s.setTx k f).ani = s.ani := rfl
@[simp] theorem State.setTx_beams (s : State) (k : Nat) (f : TxSt → TxSt) : (s.setTx k f).beams = s.beams := rfl
@[simp] theorem State.setTx_wts (s : State) (k : Nat) (f : TxSt → TxSt) : (s.setTx k f).wts = s.wts := rfl
@[simp] theorem State.setTx_taps (s : State) (k : Nat) (f : TxSt → TxSt) : (s.setTx k f).taps = s.taps := rfl
@[simp] theorem State.setTx_strm (s : State) (k : Nat) (f : TxSt → TxSt) : (s.setTx k f).strm = s.strm := rfl
@[simp] theorem State.setTx_dpd (s : State) (k : Nat) (f : TxSt → TxSt) : (s.setTx k f).dpd = s.dpd := rfl
@[simp] theorem State.setTx_mgmtDown (s : State) (k : Nat) (f : TxSt → TxSt) : (s.setTx k f).mgmtDown = s.mgmtDown := rfl
@[simp] theorem State.setTx_cal (s : State) (k : Nat) (f : TxSt → TxSt) : (s.setTx k f).cal = s.cal := rfl
@[simp] theorem State.setTx_ret (s : State) (k : Nat) (f : TxSt → TxSt) : (s.setTx k f).ret = s.ret := rfl
@[simp] theorem State.setTx_lanes (s : State) (k : Nat) (f : TxSt → TxSt) : (s.setTx k f).lanes = s.lanes := rfl
@[simp] theorem State.setTx_erl (s : State) (k : Nat) (f : TxSt → TxSt) : (s.setTx k f).erl = s.erl := rfl
@[simp] theorem State.setTx_snd (s : State) (k : Nat) (f : TxSt → TxSt) : (s.setTx k f).snd = s.snd := rfl
@[simp] theorem State.setTx_bc (s : State) (k : Nat) (f : TxSt → TxSt) : (s.setTx k f).bc = s.bc := rfl
@[simp] theorem State.setTx_sems (s : State) (k : Nat) (f : TxSt → TxSt) : (s.setTx k f).sems = s.sems := rfl
@[simp] theorem State.setTx_mgmt (s : State) (k : Nat) (f : TxSt → TxSt) : (s.setTx k f).mgmt = s.mgmt := rfl
@[simp] theorem State.setTx_updJobs (s : State) (k : Nat) (f : TxSt → TxSt) : (s.setTx k f).updJobs = s.updJobs := rfl
@[simp] theorem State.setTx_otp (s : State) (k : Nat) (f : TxSt → TxSt) : (s.setTx k f).otp = s.otp := rfl
@[simp] theorem State.setTx_sec (s : State) (k : Nat) (f : TxSt → TxSt) : (s.setTx k f).sec = s.sec := rfl
@[simp] theorem State.setTx_mon (s : State) (k : Nat) (f : TxSt → TxSt) : (s.setTx k f).mon = s.mon := rfl
@[simp] theorem State.setTx_bist (s : State) (k : Nat) (f : TxSt → TxSt) : (s.setTx k f).bist = s.bist := rfl
@[simp] theorem State.setTx_modes (s : State) (k : Nat) (f : TxSt → TxSt) : (s.setTx k f).modes = s.modes := rfl
@[simp] theorem State.setTx_seqAt (s : State) (k : Nat) (f : TxSt → TxSt) : (s.setTx k f).seqAt = s.seqAt := rfl
@[simp] theorem State.setTx_seqMod (s : State) (k : Nat) (f : TxSt → TxSt) : (s.setTx k f).seqMod = s.seqMod := rfl
@[simp] theorem State.setTx_srst (s : State) (k : Nat) (f : TxSt → TxSt) : (s.setTx k f).srst = s.srst := rfl
@[simp] theorem State.setTx_hk (s : State) (k : Nat) (f : TxSt → TxSt) : (s.setTx k f).hk = s.hk := rfl
@[simp] theorem State.setTx_age (s : State) (k : Nat) (f : TxSt → TxSt) : (s.setTx k f).age = s.age := rfl
@[simp] theorem State.setTx_evtNow (s : State) (k : Nat) (f : TxSt → TxSt) : (s.setTx k f).evtNow = s.evtNow := rfl
@[simp] theorem State.setTx_evtAt (s : State) (k : Nat) (f : TxSt → TxSt) : (s.setTx k f).evtAt = s.evtAt := rfl
@[simp] theorem State.setTx_pending (s : State) (k : Nat) (f : TxSt → TxSt) : (s.setTx k f).pending = s.pending := rfl
@[simp] theorem State.setTx_txs (s : State) (k : Nat) (f : TxSt → TxSt) : (s.setTx k f).txs = upd s.txs k f := rfl
@[simp] theorem State.setTx_get (s : State) (k : Nat) (f : TxSt → TxSt) (m : Loc) : (s.setTx k f).get m = s.get m := rfl
@[simp] theorem State.setTx_on (s : State) (k : Nat) (f : TxSt → TxSt) (m : Loc) : (s.setTx k f).on m = s.on m := rfl
@[simp] theorem State.setTx_mode (s : State) (k : Nat) (f : TxSt → TxSt) : (s.setTx k f).mode = s.mode := rfl
@[simp] theorem State.setTx_inactive (s : State) (k : Nat) (f : TxSt → TxSt) (m : Loc) : (s.setTx k f).inactive m = s.inactive m := rfl

/-! ### `State.setOct` -/

@[simp] theorem State.setOct_regs (s : State) (k : Nat) (f : OctSt → OctSt) : (s.setOct k f).regs = s.regs := rfl
@[simp] theorem State.setOct_bank (s : State) (k : Nat) (f : OctSt → OctSt) : (s.setOct k f).bank = s.bank := rfl
@[simp] theorem State.setOct_seqs (s : State) (k : Nat) (f : OctSt → OctSt) : (s.setOct k f).seqs = s.seqs := rfl
@[simp] theorem State.setOct_copying (s : State) (k : Nat) (f : OctSt → OctSt) : (s.setOct k f).copying = s.copying := rfl
@[simp] theorem State.setOct_windows (s : State) (k : Nat) (f : OctSt → OctSt) : (s.setOct k f).windows = s.windows := rfl
@[simp] theorem State.setOct_triggers (s : State) (k : Nat) (f : OctSt → OctSt) : (s.setOct k f).triggers = s.triggers := rfl
@[simp] theorem State.setOct_words (s : State) (k : Nat) (f : OctSt → OctSt) : (s.setOct k f).words = s.words := rfl
@[simp] theorem State.setOct_acks (s : State) (k : Nat) (f : OctSt → OctSt) : (s.setOct k f).acks = s.acks := rfl
@[simp] theorem State.setOct_answer (s : State) (k : Nat) (f : OctSt → OctSt) : (s.setOct k f).answer = s.answer := rfl
@[simp] theorem State.setOct_latches (s : State) (k : Nat) (f : OctSt → OctSt) : (s.setOct k f).latches = s.latches := rfl
@[simp] theorem State.setOct_tb (s : State) (k : Nat) (f : OctSt → OctSt) : (s.setOct k f).tb = s.tb := rfl
@[simp] theorem State.setOct_tbRun (s : State) (k : Nat) (f : OctSt → OctSt) : (s.setOct k f).tbRun = s.tbRun := rfl
@[simp] theorem State.setOct_ao (s : State) (k : Nat) (f : OctSt → OctSt) : (s.setOct k f).ao = s.ao := rfl
@[simp] theorem State.setOct_fv (s : State) (k : Nat) (f : OctSt → OctSt) : (s.setOct k f).fv = s.fv := rfl
@[simp] theorem State.setOct_pwr (s : State) (k : Nat) (f : OctSt → OctSt) : (s.setOct k f).pwr = s.pwr := rfl
@[simp] theorem State.setOct_clk (s : State) (k : Nat) (f : OctSt → OctSt) : (s.setOct k f).clk = s.clk := rfl
@[simp] theorem State.setOct_paths (s : State) (k : Nat) (f : OctSt → OctSt) : (s.setOct k f).paths = s.paths := rfl
@[simp] theorem State.setOct_rxs (s : State) (k : Nat) (f : OctSt → OctSt) : (s.setOct k f).rxs = s.rxs := rfl
@[simp] theorem State.setOct_txs (s : State) (k : Nat) (f : OctSt → OctSt) : (s.setOct k f).txs = s.txs := rfl
@[simp] theorem State.setOct_tl (s : State) (k : Nat) (f : OctSt → OctSt) : (s.setOct k f).tl = s.tl := rfl
@[simp] theorem State.setOct_bias (s : State) (k : Nat) (f : OctSt → OctSt) : (s.setOct k f).bias = s.bias := rfl
@[simp] theorem State.setOct_log (s : State) (k : Nat) (f : OctSt → OctSt) : (s.setOct k f).log = s.log := rfl
@[simp] theorem State.setOct_cores (s : State) (k : Nat) (f : OctSt → OctSt) : (s.setOct k f).cores = s.cores := rfl
@[simp] theorem State.setOct_evtQ (s : State) (k : Nat) (f : OctSt → OctSt) : (s.setOct k f).evtQ = s.evtQ := rfl
@[simp] theorem State.setOct_mem (s : State) (k : Nat) (f : OctSt → OctSt) : (s.setOct k f).mem = s.mem := rfl
@[simp] theorem State.setOct_ecc (s : State) (k : Nat) (f : OctSt → OctSt) : (s.setOct k f).ecc = s.ecc := rfl
@[simp] theorem State.setOct_eccBase (s : State) (k : Nat) (f : OctSt → OctSt) : (s.setOct k f).eccBase = s.eccBase := rfl
@[simp] theorem State.setOct_ceLog (s : State) (k : Nat) (f : OctSt → OctSt) : (s.setOct k f).ceLog = s.ceLog := rfl
@[simp] theorem State.setOct_caps (s : State) (k : Nat) (f : OctSt → OctSt) : (s.setOct k f).caps = s.caps := rfl
@[simp] theorem State.setOct_dmas (s : State) (k : Nat) (f : OctSt → OctSt) : (s.setOct k f).dmas = s.dmas := rfl
@[simp] theorem State.setOct_commits (s : State) (k : Nat) (f : OctSt → OctSt) : (s.setOct k f).commits = s.commits := rfl
@[simp] theorem State.setOct_trans (s : State) (k : Nat) (f : OctSt → OctSt) : (s.setOct k f).trans = s.trans := rfl
@[simp] theorem State.setOct_tim (s : State) (k : Nat) (f : OctSt → OctSt) : (s.setOct k f).tim = s.tim := rfl
@[simp] theorem State.setOct_cum (s : State) (k : Nat) (f : OctSt → OctSt) : (s.setOct k f).cum = s.cum := rfl
@[simp] theorem State.setOct_ani (s : State) (k : Nat) (f : OctSt → OctSt) : (s.setOct k f).ani = s.ani := rfl
@[simp] theorem State.setOct_beams (s : State) (k : Nat) (f : OctSt → OctSt) : (s.setOct k f).beams = s.beams := rfl
@[simp] theorem State.setOct_wts (s : State) (k : Nat) (f : OctSt → OctSt) : (s.setOct k f).wts = s.wts := rfl
@[simp] theorem State.setOct_taps (s : State) (k : Nat) (f : OctSt → OctSt) : (s.setOct k f).taps = s.taps := rfl
@[simp] theorem State.setOct_strm (s : State) (k : Nat) (f : OctSt → OctSt) : (s.setOct k f).strm = s.strm := rfl
@[simp] theorem State.setOct_dpd (s : State) (k : Nat) (f : OctSt → OctSt) : (s.setOct k f).dpd = s.dpd := rfl
@[simp] theorem State.setOct_mgmtDown (s : State) (k : Nat) (f : OctSt → OctSt) : (s.setOct k f).mgmtDown = s.mgmtDown := rfl
@[simp] theorem State.setOct_cal (s : State) (k : Nat) (f : OctSt → OctSt) : (s.setOct k f).cal = s.cal := rfl
@[simp] theorem State.setOct_ret (s : State) (k : Nat) (f : OctSt → OctSt) : (s.setOct k f).ret = s.ret := rfl
@[simp] theorem State.setOct_lanes (s : State) (k : Nat) (f : OctSt → OctSt) : (s.setOct k f).lanes = s.lanes := rfl
@[simp] theorem State.setOct_erl (s : State) (k : Nat) (f : OctSt → OctSt) : (s.setOct k f).erl = s.erl := rfl
@[simp] theorem State.setOct_snd (s : State) (k : Nat) (f : OctSt → OctSt) : (s.setOct k f).snd = s.snd := rfl
@[simp] theorem State.setOct_bc (s : State) (k : Nat) (f : OctSt → OctSt) : (s.setOct k f).bc = s.bc := rfl
@[simp] theorem State.setOct_sems (s : State) (k : Nat) (f : OctSt → OctSt) : (s.setOct k f).sems = s.sems := rfl
@[simp] theorem State.setOct_mgmt (s : State) (k : Nat) (f : OctSt → OctSt) : (s.setOct k f).mgmt = s.mgmt := rfl
@[simp] theorem State.setOct_updJobs (s : State) (k : Nat) (f : OctSt → OctSt) : (s.setOct k f).updJobs = s.updJobs := rfl
@[simp] theorem State.setOct_otp (s : State) (k : Nat) (f : OctSt → OctSt) : (s.setOct k f).otp = s.otp := rfl
@[simp] theorem State.setOct_sec (s : State) (k : Nat) (f : OctSt → OctSt) : (s.setOct k f).sec = s.sec := rfl
@[simp] theorem State.setOct_mon (s : State) (k : Nat) (f : OctSt → OctSt) : (s.setOct k f).mon = s.mon := rfl
@[simp] theorem State.setOct_bist (s : State) (k : Nat) (f : OctSt → OctSt) : (s.setOct k f).bist = s.bist := rfl
@[simp] theorem State.setOct_modes (s : State) (k : Nat) (f : OctSt → OctSt) : (s.setOct k f).modes = s.modes := rfl
@[simp] theorem State.setOct_seqAt (s : State) (k : Nat) (f : OctSt → OctSt) : (s.setOct k f).seqAt = s.seqAt := rfl
@[simp] theorem State.setOct_seqMod (s : State) (k : Nat) (f : OctSt → OctSt) : (s.setOct k f).seqMod = s.seqMod := rfl
@[simp] theorem State.setOct_srst (s : State) (k : Nat) (f : OctSt → OctSt) : (s.setOct k f).srst = s.srst := rfl
@[simp] theorem State.setOct_hk (s : State) (k : Nat) (f : OctSt → OctSt) : (s.setOct k f).hk = s.hk := rfl
@[simp] theorem State.setOct_age (s : State) (k : Nat) (f : OctSt → OctSt) : (s.setOct k f).age = s.age := rfl
@[simp] theorem State.setOct_evtNow (s : State) (k : Nat) (f : OctSt → OctSt) : (s.setOct k f).evtNow = s.evtNow := rfl
@[simp] theorem State.setOct_evtAt (s : State) (k : Nat) (f : OctSt → OctSt) : (s.setOct k f).evtAt = s.evtAt := rfl
@[simp] theorem State.setOct_pending (s : State) (k : Nat) (f : OctSt → OctSt) : (s.setOct k f).pending = s.pending := rfl
@[simp] theorem State.setOct_octs (s : State) (k : Nat) (f : OctSt → OctSt) : (s.setOct k f).octs = upd s.octs k f := rfl
@[simp] theorem State.setOct_get (s : State) (k : Nat) (f : OctSt → OctSt) (m : Loc) : (s.setOct k f).get m = s.get m := rfl
@[simp] theorem State.setOct_on (s : State) (k : Nat) (f : OctSt → OctSt) (m : Loc) : (s.setOct k f).on m = s.on m := rfl
@[simp] theorem State.setOct_mode (s : State) (k : Nat) (f : OctSt → OctSt) : (s.setOct k f).mode = s.mode := rfl
@[simp] theorem State.setOct_inactive (s : State) (k : Nat) (f : OctSt → OctSt) (m : Loc) : (s.setOct k f).inactive m = s.inactive m := rfl

/-! ### `State.setTap` -/

@[simp] theorem State.setTap_regs (s : State) (k : Nat) (f : TapSt → TapSt) : (s.setTap k f).regs = s.regs := rfl
@[simp] theorem State.setTap_bank (s : State) (k : Nat) (f : TapSt → TapSt) : (s.setTap k f).bank = s.bank := rfl
@[simp] theorem State.setTap_seqs (s : State) (k : Nat) (f : TapSt → TapSt) : (s.setTap k f).seqs = s.seqs := rfl
@[simp] theorem State.setTap_copying (s : State) (k : Nat) (f : TapSt → TapSt) : (s.setTap k f).copying = s.copying := rfl
@[simp] theorem State.setTap_windows (s : State) (k : Nat) (f : TapSt → TapSt) : (s.setTap k f).windows = s.windows := rfl
@[simp] theorem State.setTap_triggers (s : State) (k : Nat) (f : TapSt → TapSt) : (s.setTap k f).triggers = s.triggers := rfl
@[simp] theorem State.setTap_words (s : State) (k : Nat) (f : TapSt → TapSt) : (s.setTap k f).words = s.words := rfl
@[simp] theorem State.setTap_acks (s : State) (k : Nat) (f : TapSt → TapSt) : (s.setTap k f).acks = s.acks := rfl
@[simp] theorem State.setTap_answer (s : State) (k : Nat) (f : TapSt → TapSt) : (s.setTap k f).answer = s.answer := rfl
@[simp] theorem State.setTap_latches (s : State) (k : Nat) (f : TapSt → TapSt) : (s.setTap k f).latches = s.latches := rfl
@[simp] theorem State.setTap_tb (s : State) (k : Nat) (f : TapSt → TapSt) : (s.setTap k f).tb = s.tb := rfl
@[simp] theorem State.setTap_tbRun (s : State) (k : Nat) (f : TapSt → TapSt) : (s.setTap k f).tbRun = s.tbRun := rfl
@[simp] theorem State.setTap_ao (s : State) (k : Nat) (f : TapSt → TapSt) : (s.setTap k f).ao = s.ao := rfl
@[simp] theorem State.setTap_fv (s : State) (k : Nat) (f : TapSt → TapSt) : (s.setTap k f).fv = s.fv := rfl
@[simp] theorem State.setTap_pwr (s : State) (k : Nat) (f : TapSt → TapSt) : (s.setTap k f).pwr = s.pwr := rfl
@[simp] theorem State.setTap_clk (s : State) (k : Nat) (f : TapSt → TapSt) : (s.setTap k f).clk = s.clk := rfl
@[simp] theorem State.setTap_paths (s : State) (k : Nat) (f : TapSt → TapSt) : (s.setTap k f).paths = s.paths := rfl
@[simp] theorem State.setTap_rxs (s : State) (k : Nat) (f : TapSt → TapSt) : (s.setTap k f).rxs = s.rxs := rfl
@[simp] theorem State.setTap_txs (s : State) (k : Nat) (f : TapSt → TapSt) : (s.setTap k f).txs = s.txs := rfl
@[simp] theorem State.setTap_octs (s : State) (k : Nat) (f : TapSt → TapSt) : (s.setTap k f).octs = s.octs := rfl
@[simp] theorem State.setTap_tl (s : State) (k : Nat) (f : TapSt → TapSt) : (s.setTap k f).tl = s.tl := rfl
@[simp] theorem State.setTap_bias (s : State) (k : Nat) (f : TapSt → TapSt) : (s.setTap k f).bias = s.bias := rfl
@[simp] theorem State.setTap_log (s : State) (k : Nat) (f : TapSt → TapSt) : (s.setTap k f).log = s.log := rfl
@[simp] theorem State.setTap_cores (s : State) (k : Nat) (f : TapSt → TapSt) : (s.setTap k f).cores = s.cores := rfl
@[simp] theorem State.setTap_evtQ (s : State) (k : Nat) (f : TapSt → TapSt) : (s.setTap k f).evtQ = s.evtQ := rfl
@[simp] theorem State.setTap_mem (s : State) (k : Nat) (f : TapSt → TapSt) : (s.setTap k f).mem = s.mem := rfl
@[simp] theorem State.setTap_ecc (s : State) (k : Nat) (f : TapSt → TapSt) : (s.setTap k f).ecc = s.ecc := rfl
@[simp] theorem State.setTap_eccBase (s : State) (k : Nat) (f : TapSt → TapSt) : (s.setTap k f).eccBase = s.eccBase := rfl
@[simp] theorem State.setTap_ceLog (s : State) (k : Nat) (f : TapSt → TapSt) : (s.setTap k f).ceLog = s.ceLog := rfl
@[simp] theorem State.setTap_caps (s : State) (k : Nat) (f : TapSt → TapSt) : (s.setTap k f).caps = s.caps := rfl
@[simp] theorem State.setTap_dmas (s : State) (k : Nat) (f : TapSt → TapSt) : (s.setTap k f).dmas = s.dmas := rfl
@[simp] theorem State.setTap_commits (s : State) (k : Nat) (f : TapSt → TapSt) : (s.setTap k f).commits = s.commits := rfl
@[simp] theorem State.setTap_trans (s : State) (k : Nat) (f : TapSt → TapSt) : (s.setTap k f).trans = s.trans := rfl
@[simp] theorem State.setTap_tim (s : State) (k : Nat) (f : TapSt → TapSt) : (s.setTap k f).tim = s.tim := rfl
@[simp] theorem State.setTap_cum (s : State) (k : Nat) (f : TapSt → TapSt) : (s.setTap k f).cum = s.cum := rfl
@[simp] theorem State.setTap_ani (s : State) (k : Nat) (f : TapSt → TapSt) : (s.setTap k f).ani = s.ani := rfl
@[simp] theorem State.setTap_beams (s : State) (k : Nat) (f : TapSt → TapSt) : (s.setTap k f).beams = s.beams := rfl
@[simp] theorem State.setTap_wts (s : State) (k : Nat) (f : TapSt → TapSt) : (s.setTap k f).wts = s.wts := rfl
@[simp] theorem State.setTap_strm (s : State) (k : Nat) (f : TapSt → TapSt) : (s.setTap k f).strm = s.strm := rfl
@[simp] theorem State.setTap_dpd (s : State) (k : Nat) (f : TapSt → TapSt) : (s.setTap k f).dpd = s.dpd := rfl
@[simp] theorem State.setTap_mgmtDown (s : State) (k : Nat) (f : TapSt → TapSt) : (s.setTap k f).mgmtDown = s.mgmtDown := rfl
@[simp] theorem State.setTap_cal (s : State) (k : Nat) (f : TapSt → TapSt) : (s.setTap k f).cal = s.cal := rfl
@[simp] theorem State.setTap_ret (s : State) (k : Nat) (f : TapSt → TapSt) : (s.setTap k f).ret = s.ret := rfl
@[simp] theorem State.setTap_lanes (s : State) (k : Nat) (f : TapSt → TapSt) : (s.setTap k f).lanes = s.lanes := rfl
@[simp] theorem State.setTap_erl (s : State) (k : Nat) (f : TapSt → TapSt) : (s.setTap k f).erl = s.erl := rfl
@[simp] theorem State.setTap_snd (s : State) (k : Nat) (f : TapSt → TapSt) : (s.setTap k f).snd = s.snd := rfl
@[simp] theorem State.setTap_bc (s : State) (k : Nat) (f : TapSt → TapSt) : (s.setTap k f).bc = s.bc := rfl
@[simp] theorem State.setTap_sems (s : State) (k : Nat) (f : TapSt → TapSt) : (s.setTap k f).sems = s.sems := rfl
@[simp] theorem State.setTap_mgmt (s : State) (k : Nat) (f : TapSt → TapSt) : (s.setTap k f).mgmt = s.mgmt := rfl
@[simp] theorem State.setTap_updJobs (s : State) (k : Nat) (f : TapSt → TapSt) : (s.setTap k f).updJobs = s.updJobs := rfl
@[simp] theorem State.setTap_otp (s : State) (k : Nat) (f : TapSt → TapSt) : (s.setTap k f).otp = s.otp := rfl
@[simp] theorem State.setTap_sec (s : State) (k : Nat) (f : TapSt → TapSt) : (s.setTap k f).sec = s.sec := rfl
@[simp] theorem State.setTap_mon (s : State) (k : Nat) (f : TapSt → TapSt) : (s.setTap k f).mon = s.mon := rfl
@[simp] theorem State.setTap_bist (s : State) (k : Nat) (f : TapSt → TapSt) : (s.setTap k f).bist = s.bist := rfl
@[simp] theorem State.setTap_modes (s : State) (k : Nat) (f : TapSt → TapSt) : (s.setTap k f).modes = s.modes := rfl
@[simp] theorem State.setTap_seqAt (s : State) (k : Nat) (f : TapSt → TapSt) : (s.setTap k f).seqAt = s.seqAt := rfl
@[simp] theorem State.setTap_seqMod (s : State) (k : Nat) (f : TapSt → TapSt) : (s.setTap k f).seqMod = s.seqMod := rfl
@[simp] theorem State.setTap_srst (s : State) (k : Nat) (f : TapSt → TapSt) : (s.setTap k f).srst = s.srst := rfl
@[simp] theorem State.setTap_hk (s : State) (k : Nat) (f : TapSt → TapSt) : (s.setTap k f).hk = s.hk := rfl
@[simp] theorem State.setTap_age (s : State) (k : Nat) (f : TapSt → TapSt) : (s.setTap k f).age = s.age := rfl
@[simp] theorem State.setTap_evtNow (s : State) (k : Nat) (f : TapSt → TapSt) : (s.setTap k f).evtNow = s.evtNow := rfl
@[simp] theorem State.setTap_evtAt (s : State) (k : Nat) (f : TapSt → TapSt) : (s.setTap k f).evtAt = s.evtAt := rfl
@[simp] theorem State.setTap_pending (s : State) (k : Nat) (f : TapSt → TapSt) : (s.setTap k f).pending = s.pending := rfl
@[simp] theorem State.setTap_taps (s : State) (k : Nat) (f : TapSt → TapSt) : (s.setTap k f).taps = upd s.taps k f := rfl
@[simp] theorem State.setTap_get (s : State) (k : Nat) (f : TapSt → TapSt) (m : Loc) : (s.setTap k f).get m = s.get m := rfl
@[simp] theorem State.setTap_on (s : State) (k : Nat) (f : TapSt → TapSt) (m : Loc) : (s.setTap k f).on m = s.on m := rfl
@[simp] theorem State.setTap_mode (s : State) (k : Nat) (f : TapSt → TapSt) : (s.setTap k f).mode = s.mode := rfl
@[simp] theorem State.setTap_inactive (s : State) (k : Nat) (f : TapSt → TapSt) (m : Loc) : (s.setTap k f).inactive m = s.inactive m := rfl

end Sys2Proof.Machine
end

