-- ==== Sys2Proof/Tests/Slice0.lean ====
section
/-! SUPPORT. The model's own tests: operands that are refused as ill-formed, worked examples of the spec, single steps, and
for every statement with hypotheses a state and operands that meet them all. -/

namespace Sys2Proof.Tests

set_option Elab.async false
set_option linter.unusedVariables false

open Sys2Proof.Machine

/-! ### Ill-formed operands, one for each check of WellFormed -/

theorem test_ill_formed_1 :
    wellFormed (.vauxEnterRange 4 0) = false ∧
    wellFormed (.radioRailGood 8) = false ∧
    wellFormed (.radioRailNotGood 8) = false ∧
    wellFormed (.bankLoss 4) = false ∧
    wellFormed (.startBegin {} 4) = false ∧
    wellFormed (.resetNRelease 4) = false ∧
    wellFormed (.modeReqWrite .mgmt 16 0) = false ∧
    wellFormed (.modeReqWrite .mgmt 0 8) = false ∧
    wellFormed (.mgmtRestart .mgmt 4) = false ∧
    wellFormed (.thermalHalt 25) = false ∧
    wellFormed (.regWrite .mgmt 16 4 0 0) = false ∧
    wellFormed (.regWrite .mgmt 0 5 0 0) = false ∧
    wellFormed (.regWrite .mgmt 0 4 (2 ^ 32) 0) = false ∧
    wellFormed (.regWrite .mgmt 0 4 0 (2 ^ 32)) = false ∧
    wellFormed (.pageEnable .mgmt 16 0 0) = false ∧
    wellFormed (.pageEnable .mgmt 0 512 0) = false ∧
    wellFormed (.pageEnable .mgmt 0 0 2) = false ∧
    wellFormed (.sequenceEnd 512) = false ∧
    wellFormed (.softReset .mgmt 16 0 0) = false ∧
    wellFormed (.softReset .mgmt 0 512 0) = false ∧
    wellFormed (.softReset .mgmt 0 0 2) = false ∧
    wellFormed (.levelReqWrite .mgmt 16 0 0) = false ∧
    wellFormed (.levelReqWrite .mgmt 0 512 0) = false ∧
    wellFormed (.levelReqWrite .mgmt 0 0 256) = false := by decide +kernel

theorem test_ill_formed_2 :
    wellFormed (.evtClear .mgmt 512 0 0) = false ∧
    wellFormed (.evtClear .mgmt 0 (2 ^ 32) 0) = false ∧
    wellFormed (.evtClear .mgmt 0 0 (2 ^ 32)) = false ∧
    wellFormed (.evtEnWrite .mgmt 16 0 0) = false ∧
    wellFormed (.evtEnWrite .mgmt 0 512 0) = false ∧
    wellFormed (.evtEnWrite .mgmt 0 0 (2 ^ 32)) = false ∧
    wellFormed (.accessWrite .mgmt 16 0 0) = false ∧
    wellFormed (.accessWrite .mgmt 0 512 0) = false ∧
    wellFormed (.accessWrite .mgmt 0 0 (2 ^ 32)) = false ∧
    wellFormed (.accLock .mgmt 16 0) = false ∧
    wellFormed (.accLock .mgmt 0 512) = false ∧
    wellFormed (.fieldLock .mgmt 16 0) = false ∧
    wellFormed (.fieldLock .mgmt 0 512) = false ∧
    wellFormed (.commitReq .mgmt 16 0 0) = false ∧
    wellFormed (.commitReq .mgmt 0 512 0) = false ∧
    wellFormed (.commitReq .mgmt 0 0 2) = false ∧
    wellFormed (.commitCancel .mgmt 512) = false ∧
    wellFormed (.commitSwap 512) = false ∧
    wellFormed (.commitCopyDone 512) = false ∧
    wellFormed (.spiTransaction false false (2 ^ 32) 0 []) = false ∧
    wellFormed (.spiTransaction false false 0 65 []) = false ∧
    wellFormed (.spiTransaction false false 0 0 (List.replicate 65 0)) = false ∧
    wellFormed (.spiAbort false false (2 ^ 32) []) = false ∧
    wellFormed (.spiAbort false false 0 (List.replicate 65 0)) = false := by decide +kernel

theorem test_ill_formed_3 :
    wellFormed (.jtagRegAccess false (2 ^ 32) 0) = false ∧
    wellFormed (.jtagRegAccess false 0 (2 ^ 32)) = false ∧
    wellFormed (.refBack 3) = false ∧
    wellFormed (.lock 4) = false ∧
    wellFormed (.loopReady 4) = false ∧
    wellFormed (.lol 4) = false ∧
    wellFormed (.bandFail 4) = false ∧
    wellFormed (.ovlEngage 64) = false ∧
    wellFormed (.ovlReleaseStep 64 0) = false ∧
    wellFormed (.modReset 64) = false ∧
    wellFormed (.compSwap 64) = false ∧
    wellFormed (.rxqOverflow 65) = false ∧
    wellFormed (.txqUnderflow 64) = false ∧
    wellFormed (.decAlign .mgmt 64) = false ∧
    wellFormed (.alignDone 64) = false ∧
    wellFormed (.thresholdCrossing false 64) = false ∧
    wellFormed (.thrCfgWrite .mgmt 16 false 0 0 0) = false ∧
    wellFormed (.thrCfgWrite .mgmt 0 false 64 0 0) = false ∧
    wellFormed (.thrCfgWrite .mgmt 0 false 0 3 0) = false ∧
    wellFormed (.thrCfgWrite .mgmt 0 false 0 0 (2 ^ 32)) = false ∧
    wellFormed (.peakNew 8) = false ∧
    wellFormed (.msNew 8) = false ∧
    wellFormed (.envelopeWord 8) = false ∧
    wellFormed (.cellSwap 64) = false := by decide +kernel

theorem test_ill_formed_4 :
    wellFormed (.rangeSwitch 64) = false ∧
    wellFormed (.rangeDone 64) = false ∧
    wellFormed (.txMuteWrite .mgmt 16 0 0) = false ∧
    wellFormed (.txMuteWrite .mgmt 0 65 0) = false ∧
    wellFormed (.txMuteWrite .mgmt 0 0 2) = false ∧
    wellFormed (.complianceFault 65 false) = false ∧
    wellFormed (.retireWrite .mgmt 16 0 0) = false ∧
    wellFormed (.retireWrite .mgmt 0 64 0) = false ∧
    wellFormed (.retireWrite .mgmt 0 0 2) = false ∧
    wellFormed (.vbiasCfgWrite .mgmt 16 0 0) = false ∧
    wellFormed (.vbiasCfgWrite .mgmt 0 16 0) = false ∧
    wellFormed (.vbiasCfgWrite .mgmt 0 0 (2 ^ 32)) = false ∧
    wellFormed (.vbiasSlewStep 16) = false ∧
    wellFormed (.vbiasRangeSwitch 16) = false ∧
    wellFormed (.setTableWrite .mgmt 16 0 0 0) = false ∧
    wellFormed (.setTableWrite .mgmt 0 2 0 0) = false ∧
    wellFormed (.setTableWrite .mgmt 0 0 256 0) = false ∧
    wellFormed (.setTableWrite .mgmt 0 0 0 (2 ^ 32)) = false ∧
    wellFormed (.weightWrite .mgmt (2 ^ 32) 0) = false ∧
    wellFormed (.weightWrite .mgmt 0 (2 ^ 32)) = false ∧
    wellFormed (.renormDone 2) = false ∧
    wellFormed (.weightDamaged 2 0 0) = false ∧
    wellFormed (.weightDamaged 0 24 0) = false ∧
    wellFormed (.weightDamaged 0 0 32) = false := by decide +kernel

theorem test_ill_formed_5 :
    wellFormed (.dpdEnApply 64) = false ∧
    wellFormed (.dpdAssign 8) = false ∧
    wellFormed (.dpdCaptureStart 8) = false ∧
    wellFormed (.dpdCaptureDone 8) = false ∧
    wellFormed (.jobRelease .mgmt 8) = false ∧
    wellFormed (.updReq .mgmt 64) = false ∧
    wellFormed (.guardBaselineDone 64) = false ∧
    wellFormed (.guardVerdict 64) = false ∧
    wellFormed (.guardTimeout 64) = false ∧
    wellFormed (.modelWrite .mgmt (2 ^ 32) 0) = false ∧
    wellFormed (.modelWrite .mgmt 0 (2 ^ 32)) = false ∧
    wellFormed (.modelDamaged 64 0) = false ∧
    wellFormed (.modelDamaged 0 256) = false ∧
    wellFormed (.slotBoundary 8) = false ∧
    wellFormed (.turnDriverSwitch 64) = false ∧
    wellFormed (.turnRoundSettled 64) = false ∧
    wellFormed (.trswChange 8) = false ∧
    wellFormed (.enqAct .mgmt (2 ^ 32)) = false ∧
    wellFormed (.queueFlush .mgmt 8) = false ∧
    wellFormed (.tlWindow 8) = false ∧
    wellFormed (.tlSet 8) = false ∧
    wellFormed (.tlOneshot 8) = false ∧
    wellFormed (.tlCommit 8) = false ∧
    wellFormed (.tlRange 8) = false := by decide +kernel

theorem test_ill_formed_6 :
    wellFormed (.tlRffe 8) = false ∧
    wellFormed (.tlTrig 8) = false ∧
    wellFormed (.windowEnd 64) = false ∧
    wellFormed (.oneshotEnd 64) = false ∧
    wellFormed (.rffeSequenceStart 8 0 false) = false ∧
    wellFormed (.rffeCommandDone 4 0 false) = false ∧
    wellFormed (.rffeCommandDone 0 256 false) = false ∧
    wellFormed (.calResult 12 0 [] 0 0) = false ∧
    wellFormed (.calResult 0 65 [] 0 0) = false ∧
    wellFormed (.trimApply 64) = false ∧
    wellFormed (.loPhaseDone 2 []) = false ∧
    wellFormed (.arrayResult false 2 0 0 0) = false ∧
    wellFormed (.arrayResult false 0 256 0 0) = false ∧
    wellFormed (.calDue 12 0) = false ∧
    wellFormed (.calDue 0 65) = false ∧
    wellFormed (.crossSlip 2) = false ∧
    wellFormed (.clkLoss 4) = false ∧
    wellFormed (.blockLock 16) = false ∧
    wellFormed (.blockLoss 16) = false ∧
    wellFormed (.bitslip .mgmt 16) = false ∧
    wellFormed (.eyePublish 16 0 0) = false ∧
    wellFormed (.eyePublish 0 256 0) = false ∧
    wellFormed (.eyePublish 0 0 256) = false ∧
    wellFormed (.prbsSync 16) = false := by decide +kernel

theorem test_ill_formed_7 :
    wellFormed (.prbsLoss 16 0) = false ∧
    wellFormed (.cntClr .mgmt 16) = false ∧
    wellFormed (.injSingle .mgmt 16) = false ∧
    wellFormed (.injBurst .mgmt 16) = false ∧
    wellFormed (.injDone 16) = false ∧
    wellFormed (.markerReceive 16 0 0 0) = false ∧
    wellFormed (.markerReceive 0 (2 ^ 64) 0 0) = false ∧
    wellFormed (.markerReceive 0 0 256 0) = false ∧
    wellFormed (.markerReceive 0 0 0 9) = false ∧
    wellFormed (.playoutMiss 64) = false ∧
    wellFormed (.captureExport 8) = false ∧
    wellFormed (.timReq [] false (2 ^ 72)) = false ∧
    wellFormed (.linkDown 6) = false ∧
    wellFormed (.bcastRetune .mgmt 16 0 0) = false ∧
    wellFormed (.bcastRetune .mgmt 0 4 0) = false ∧
    wellFormed (.bcastRetune .mgmt 0 0 (2 ^ 18)) = false ∧
    wellFormed (.rdsGroup (2 ^ 16) 0 0 0 0) = false ∧
    wellFormed (.rdsGroup 0 (2 ^ 16) 0 0 0) = false ∧
    wellFormed (.rdsGroup 0 0 (2 ^ 16) 0 0) = false ∧
    wellFormed (.rdsGroup 0 0 0 (2 ^ 16) 0) = false ∧
    wellFormed (.arm .mgmt 8) = false ∧
    wellFormed (.disarm .mgmt 8) = false ∧
    wellFormed (.captureSoftTrig .mgmt 8) = false ∧
    wellFormed (.captureTrigger 8 0 0) = false := by decide +kernel

theorem test_ill_formed_8 :
    wellFormed (.captureTrigger 0 9 0) = false ∧
    wellFormed (.captureTrigger 0 0 256) = false ∧
    wellFormed (.autoTimeout 8) = false ∧
    wellFormed (.segDone 8) = false ∧
    wellFormed (.gap 8 0 0) = false ∧
    wellFormed (.rdPtrWrite .mgmt 16 0 0) = false ∧
    wellFormed (.rdPtrWrite .mgmt 0 8 0) = false ∧
    wellFormed (.rdPtrWrite .mgmt 0 0 (2 ^ 24)) = false ∧
    wellFormed (.dmaDoorbell .mgmt 8 0) = false ∧
    wellFormed (.dmaDoorbell .mgmt 0 (2 ^ 32)) = false ∧
    wellFormed (.dmaAbort .mgmt 8) = false ∧
    wellFormed (.dmaDescDone 8) = false ∧
    wellFormed (.dmaPaceResume 8) = false ∧
    wellFormed (.targetTimeout 8 0 false) = false ∧
    wellFormed (.parallelDsp 8 none none ⟨none, none, none⟩) = false ∧
    wellFormed (.tfr 8 0 0 ⟨none, none, none⟩) = false ∧
    wellFormed (.tfr 0 4 0 ⟨none, none, none⟩) = false ∧
    wellFormed (.tfr 0 0 4 ⟨none, none, none⟩) = false ∧
    wellFormed (.add 8 0 0 ⟨none, none, none⟩) = false ∧
    wellFormed (.add 0 4 0 ⟨none, none, none⟩) = false ∧
    wellFormed (.add 0 0 4 ⟨none, none, none⟩) = false ∧
    wellFormed (.sub 8 0 0 ⟨none, none, none⟩) = false ∧
    wellFormed (.sub 0 4 0 ⟨none, none, none⟩) = false ∧
    wellFormed (.sub 0 0 4 ⟨none, none, none⟩) = false := by decide +kernel

theorem test_ill_formed_9 :
    wellFormed (.neg 8 0 0 ⟨none, none, none⟩) = false ∧
    wellFormed (.neg 0 4 0 ⟨none, none, none⟩) = false ∧
    wellFormed (.neg 0 0 4 ⟨none, none, none⟩) = false ∧
    wellFormed (.abs 8 0 0 ⟨none, none, none⟩) = false ∧
    wellFormed (.abs 0 4 0 ⟨none, none, none⟩) = false ∧
    wellFormed (.abs 0 0 4 ⟨none, none, none⟩) = false ∧
    wellFormed (.clr 8 0 ⟨none, none, none⟩) = false ∧
    wellFormed (.clr 0 4 ⟨none, none, none⟩) = false ∧
    wellFormed (.rnd 8 0 ⟨none, none, none⟩) = false ∧
    wellFormed (.rnd 0 4 ⟨none, none, none⟩) = false ∧
    wellFormed (.sat 8 0 ⟨none, none, none⟩) = false ∧
    wellFormed (.sat 0 4 ⟨none, none, none⟩) = false ∧
    wellFormed (.asl 8 0 0 ⟨none, none, none⟩) = false ∧
    wellFormed (.asl 0 4 0 ⟨none, none, none⟩) = false ∧
    wellFormed (.asl 0 0 64 ⟨none, none, none⟩) = false ∧
    wellFormed (.asr 8 0 0 ⟨none, none, none⟩) = false ∧
    wellFormed (.asr 0 4 0 ⟨none, none, none⟩) = false ∧
    wellFormed (.asr 0 0 64 ⟨none, none, none⟩) = false ∧
    wellFormed (.addr 8 0 0 ⟨none, none, none⟩) = false ∧
    wellFormed (.addr 0 4 0 ⟨none, none, none⟩) = false ∧
    wellFormed (.addr 0 0 8 ⟨none, none, none⟩) = false ∧
    wellFormed (.subr 8 0 0 ⟨none, none, none⟩) = false ∧
    wellFormed (.subr 0 4 0 ⟨none, none, none⟩) = false ∧
    wellFormed (.subr 0 0 8 ⟨none, none, none⟩) = false := by decide +kernel

theorem test_ill_formed_10 :
    wellFormed (.cmp 8 0 0 ⟨none, none, none⟩) = false ∧
    wellFormed (.cmp 0 4 0 ⟨none, none, none⟩) = false ∧
    wellFormed (.cmp 0 0 4 ⟨none, none, none⟩) = false ∧
    wellFormed (.cmpr 8 0 0 ⟨none, none, none⟩) = false ∧
    wellFormed (.cmpr 0 4 0 ⟨none, none, none⟩) = false ∧
    wellFormed (.cmpr 0 0 8 ⟨none, none, none⟩) = false ∧
    wellFormed (.and 8 0 0 ⟨none, none, none⟩) = false ∧
    wellFormed (.and 0 4 0 ⟨none, none, none⟩) = false ∧
    wellFormed (.and 0 0 8 ⟨none, none, none⟩) = false ∧
    wellFormed (.or 8 0 0 ⟨none, none, none⟩) = false ∧
    wellFormed (.or 0 4 0 ⟨none, none, none⟩) = false ∧
    wellFormed (.or 0 0 8 ⟨none, none, none⟩) = false ∧
    wellFormed (.xor 8 0 0 ⟨none, none, none⟩) = false ∧
    wellFormed (.xor 0 4 0 ⟨none, none, none⟩) = false ∧
    wellFormed (.xor 0 0 8 ⟨none, none, none⟩) = false ∧
    wellFormed (.max 8 0 0 ⟨none, none, none⟩) = false ∧
    wellFormed (.max 0 4 0 ⟨none, none, none⟩) = false ∧
    wellFormed (.max 0 0 4 ⟨none, none, none⟩) = false ∧
    wellFormed (.min 8 0 0 ⟨none, none, none⟩) = false ∧
    wellFormed (.min 0 4 0 ⟨none, none, none⟩) = false ∧
    wellFormed (.min 0 0 4 ⟨none, none, none⟩) = false ∧
    wellFormed (.norm 8 0 0 ⟨none, none, none⟩) = false ∧
    wellFormed (.norm 0 4 0 ⟨none, none, none⟩) = false ∧
    wellFormed (.norm 0 0 8 ⟨none, none, none⟩) = false := by decide +kernel

theorem test_ill_formed_11 :
    wellFormed (.li 8 0 0) = false ∧
    wellFormed (.li 0 64 0) = false ∧
    wellFormed (.li 0 0 (2 ^ 24)) = false ∧
    wellFormed (.move 8 0 0) = false ∧
    wellFormed (.move 0 64 0) = false ∧
    wellFormed (.move 0 0 64) = false ∧
    wellFormed (.addi 8 0 0) = false ∧
    wellFormed (.addi 0 64 0) = false ∧
    wellFormed (.addi 0 0 (2 ^ 24)) = false ∧
    wellFormed (.asave 8 0 0) = false ∧
    wellFormed (.asave 0 64 0) = false ∧
    wellFormed (.asave 0 0 64) = false ∧
    wellFormed (.aload 8 0 0) = false ∧
    wellFormed (.aload 0 64 0) = false ∧
    wellFormed (.aload 0 0 64) = false ∧
    wellFormed (.nop 8) = false ∧
    wellFormed (.jmp 8 0 0) = false ∧
    wellFormed (.jmp 0 16 0) = false ∧
    wellFormed (.jmp 0 0 (2 ^ 16)) = false ∧
    wellFormed (.jsr 8 0 0) = false ∧
    wellFormed (.jsr 0 16 0) = false ∧
    wellFormed (.jsr 0 0 (2 ^ 16)) = false ∧
    wellFormed (.rts 8 0) = false ∧
    wellFormed (.rts 0 16) = false := by decide +kernel

theorem test_ill_formed_12 :
    wellFormed (.reti 8) = false ∧
    wellFormed (.doLoop 8 false 0 0 0) = false ∧
    wellFormed (.doLoop 0 false 64 0 0) = false ∧
    wellFormed (.doLoop 0 false 0 (2 ^ 16) 0) = false ∧
    wellFormed (.doLoop 0 false 0 0 (2 ^ 16)) = false ∧
    wellFormed (.yield 8) = false ∧
    wellFormed (.wait 8) = false ∧
    wellFormed (.halt 8) = false ∧
    wellFormed (.ei 8) = false ∧
    wellFormed (.di 8) = false ∧
    wellFormed (.interruptEntry 8) = false ∧
    wellFormed (.coreFault 8) = false ∧
    wellFormed (.ipendClear 8 0) = false ∧
    wellFormed (.ipendClear 0 (2 ^ 24)) = false ∧
    wellFormed (.mboxOut 8 0) = false ∧
    wellFormed (.mboxOut 0 (2 ^ 24)) = false ∧
    wellFormed (.tb0Read 8) = false ∧
    wellFormed (.tcmpArm 8 0) = false ∧
    wellFormed (.tcmpArm 0 (2 ^ 24)) = false ∧
    wellFormed (.coreTimer 8) = false ∧
    wellFormed (.strDataRead 8) = false ∧
    wellFormed (.brRead 8) = false ∧
    wellFormed (.brWrite 8) = false ∧
    wellFormed (.bridgeDone 8) = false := by decide +kernel

theorem test_ill_formed_13 :
    wellFormed (.semAcquire 8 0) = false ∧
    wellFormed (.semAcquire 0 32) = false ∧
    wellFormed (.semRelease 8 0) = false ∧
    wellFormed (.semRelease 0 32) = false ∧
    wellFormed (.kernelLoad .mgmt 16 0) = false ∧
    wellFormed (.kernelLoad .mgmt 0 8) = false ∧
    wellFormed (.hitlessLoad .mgmt 16 0) = false ∧
    wellFormed (.hitlessLoad .mgmt 0 8) = false ∧
    wellFormed (.loadDone 8) = false ∧
    wellFormed (.runWrite .mgmt 16 0 0) = false ∧
    wellFormed (.runWrite .mgmt 0 8 0) = false ∧
    wellFormed (.runWrite .mgmt 0 0 2) = false ∧
    wellFormed (.mboxIrq .mgmt 8) = false ∧
    wellFormed (.swapGo .mgmt 8) = false ∧
    wellFormed (.swapBoundary 8) = false ∧
    wellFormed (.swapTimeout 8) = false ∧
    wellFormed (.cacheClean (2 ^ 32) 0 0) = false ∧
    wellFormed (.cacheClean 0 4 0) = false ∧
    wellFormed (.cacheClean 0 0 256) = false ∧
    wellFormed (.cacheInvalidate (2 ^ 32)) = false ∧
    wellFormed (.cacheCleanInvalidate (2 ^ 32) 0 0) = false ∧
    wellFormed (.cacheCleanInvalidate 0 4 0) = false ∧
    wellFormed (.cacheCleanInvalidate 0 0 256) = false ∧
    wellFormed (.wdEnable .mgmt 16) = false := by decide +kernel

theorem test_ill_formed_14 :
    wellFormed (.wdKick .mgmt 256) = false ∧
    wellFormed (.runtimeWatchdogExpiry 4) = false ∧
    wellFormed (.updOpen .mgmt 256) = false ∧
    wellFormed (.updChunk .mgmt 256) = false ∧
    wellFormed (.updVerify .mgmt 256) = false ∧
    wellFormed (.updActivate .mgmt 256) = false ∧
    wellFormed (.updConfirm .mgmt 256) = false ∧
    wellFormed (.updAbort .mgmt 256) = false ∧
    wellFormed (.rbAdvance .mgmt 256) = false ∧
    wellFormed (.updDone false 4) = false ∧
    wellFormed (.fwLogRecord .mgmt 256 0) = false ∧
    wellFormed (.fwLogRecord .mgmt 0 4) = false ∧
    wellFormed (.logRdSeq .mgmt 16 0) = false ∧
    wellFormed (.logRdSeq .mgmt 0 (2 ^ 32)) = false ∧
    wellFormed (.sumacRd (2 ^ 32) 0) = false ∧
    wellFormed (.sumacRd 0 (2 ^ 32)) = false ∧
    wellFormed (.sumacLog (2 ^ 32) 0) = false ∧
    wellFormed (.sumacLog 0 (2 ^ 32)) = false ∧
    wellFormed (.sumacElev (List.replicate 256 0)) = false ∧
    wellFormed (.sumacWr (2 ^ 32) 0) = false ∧
    wellFormed (.sumacWr 0 (2 ^ 32)) = false ∧
    wellFormed (.sumacMode (2 ^ 32)) = false ∧
    wellFormed (.sumacBaud (2 ^ 32)) = false ∧
    wellFormed (.sumacUpd (2 ^ 32) 0 0 []) = false := by decide +kernel

theorem test_ill_formed_15 :
    wellFormed (.sumacUpd 0 (2 ^ 32) 0 []) = false ∧
    wellFormed (.sumacUpd 0 0 (2 ^ 32) []) = false ∧
    wellFormed (.sumacUpd 0 0 0 (List.replicate 256 0)) = false ∧
    wellFormed (.progHash .mgmt 32) = false ∧
    wellFormed (.revoke .mgmt 32) = false ∧
    wellFormed (.scanPermit .mgmt 32) = false ∧
    wellFormed (.genId .mgmt 32) = false ∧
    wellFormed (.lrAdvance .mgmt 32) = false ∧
    wellFormed (.scrubVisit 36 0) = false ∧
    wellFormed (.scrubVisit 0 256) = false ∧
    wellFormed (.fuseCancel .mgmt 32) = false ∧
    wellFormed (.bistGo .mgmt 256) = false ∧
    wellFormed (.hkadcGo .mgmt 64) = false ∧
    wellFormed (.hkadcCmpHit 64 false) = false ∧
    wellFormed (.hkadcConversionDone false 64 [] false) = false ∧
    wellFormed (.slackWindowEnd [] [] 65) = false ∧
    wellFormed (.pmAlert (2 ^ 16)) = false ∧
    wellFormed (.retireGraceExpiry 2 0) = false ∧
    wellFormed (.retireGraceExpiry 0 64) = false ∧
    wellFormed (.rxRetireWrite .mgmt 16 false 0) = false ∧
    wellFormed (.rxRetireWrite .mgmt 0 false (2 ^ 32)) = false ∧
    wellFormed (.gpioEdge 16 false) = false ∧
    wellFormed (.timRsp 0 (2 ^ 72)) = false ∧
    wellFormed (.dsckPresent 2 0) = false := by decide +kernel

theorem test_ill_formed_16 :
    wellFormed (.rxRecord ⟨[], 0, 0, 0, false⟩) = false := by decide +kernel

theorem test_well_formed : wellFormed (.ovlEngage 63) = true ∧ wellFormed (.regWrite .host 15 4 0x40061004 1) = true ∧
    wellFormed (.asl 7 3 63 ⟨none, none, none⟩) = true := by decide +kernel

/-! ### Worked examples of the spec -/

/-- No row of the table has bits: no word spells a command. -/
theorem test_no_word_spells (n w : Nat) : decodeTableWord n w = none := rfl

/-- R377's example: MAC A0 += X0 × Y0; MSU A1 −= X1 × Y1; X0 = [I0]+1; Y0 = [I4]+1. -/
theorem test_clove_word :
    cloveDecode 0x201AB00C2200 = some (.par (some ⟨2, 0, 0, 0⟩) (some ⟨3, 1, 1, 1⟩)
      ⟨some ⟨false, 0, 0, 1⟩, some ⟨false, 0, 4, 1⟩, none⟩) := by decide +kernel

/-- The example of R58 and R502: TX_MUTE, BB writes 0 and HOST writes 1 in one window. -/
theorem test_arbitration :
    (State.reset.winner (TXPATH.TX_MUTE 17) [⟨.bb, 0, 0, 1000, 1⟩, ⟨.host, 0, 1, 1005, 2⟩]) = some (⟨.host, 0, 1, 1005, 2⟩, true) := by
  decide +kernel

theorem test_arbitration_record :
    let r := State.reset.resolve (TXPATH.TX_MUTE 17) [⟨.bb, 0, 0, 1000, 1⟩, ⟨.host, 0, 1, 1005, 2⟩] none 1008
    r.1 = some 1 ∧ r.2.get ARBITER.LOSER = 1 ∧ r.2.get ARBITER.WINNER = 2 ∧ r.2.get ARBITER.PROTECTIVE = 1 := by
  decide +kernel

/-- The example of chapter 3: LOB at NINT 60, FRAC 3,713,707, D = 2 lies at 3,700 MHz. -/
theorem test_lo_frequency : loKHz 12288 60 3713707 0 = 3700000 ∧ loKHz 12288 113 15641259 1 = 3500000 := by decide +kernel

/-- The example of R297: θ = 250.5 ticks and δ = 181.5 ticks. -/
theorem test_tim_offset :
    timOffset (1000000000 * 256) (999999929 * 256 + 192) (1000004929 * 256 + 192) (1000005363 * 256) (5 * 128)
      = (64128, 363 * 128) := by decide +kernel

/-- The example of R315 and R316: θ = 40.25 ticks, δ = 1,639.5 ticks. -/
theorem test_cumin_offset :
    let x : Xfer := ⟨0, 2000000003 * 256, 2000001682 * 256 + 192, 2000983042 * 256 + 128, 2000984641 * 256 + 192⟩
    x.theta = 40 * 256 + 64 ∧ x.delta = 1639 * 256 + 128 ∧ -3200 + x.theta = 7104 := by decide +kernel

/-- The example of R316: MEAS reads 7,104 when the transfer is evaluated. -/
theorem test_cumin_meas :
    let s := (((((((((State.reset.set (SOUND3.PEER_EN 0) 1).set (SOUND3.PEER_REF 0) 1).set (SOUND3.PEER_ID 0) 9).set
      (SOUND2.REM_W 0) (9 * 65536 + 0x1240)).set64 (SOUND2.REM_W 1) (SOUND2.REM_W 2) 2000001682).set (SOUND2.REM_W 3) 192).set64
      (SOUND2.REM_W 4) (SOUND2.REM_W 5) 2000983042).set (SOUND2.REM_W 6) 128).set (SOUND2.REM_W 7) (2 ^ 32 - 3200)).set
      (SOUND2.REM_W 8) 1
    let t := { s.set SOUND2.REM_BUSY 1 with snd := { s.snd with
      own := [(0x12, 2000000003 * 256)], hist := [{ sender := 9, seq := 0x40, at_ := 2000984641 * 256 + 192, ts := 125061440 }] } }
    (match execXferDone t with
      | .next u => decide (u.geti SOUND3.MEAS = 7104 ∧ u.get SOUND2.REM_RESULT = 0)
      | _ => false) = true := by decide +kernel

/-- The example of R432: the weight at 0x5000_0344 lies in block 0, layer 3, code word 104. -/
theorem test_weight_address : 
    (State.reset.set (blkValid 0 0 0) 1).windowAddr 0x50000344 = some (weightAddr 0 3 17) ∧ weightWord 0 3 8 = 104 := by decide +kernel

/-- The example of R478: LIFE_A and LIFE_B of the line through (2, 740), (4, 760) and (6, 780). -/
theorem test_life_fit :
    let s := ((((State.reset.addSum AGEING.SX_LO AGEING.SX_HI (12 * 256)).addSum AGEING.SY_LO AGEING.SY_HI 2280000).addSum
      AGEING.SXY_LO AGEING.SXY_HI (256 * (2 * 740000 + 4 * 760000 + 6 * 780000))).addSum AGEING.SXX_LO AGEING.SXX_HI
      (65536 * 56)).set AGEING.LIFE_N 3
    (s.lifeFit 1296 0).geti AGEING.LIFE_A = 720000 ∧ (s.lifeFit 1296 0).geti AGEING.LIFE_B = 10000 := by decide +kernel

/-- The example of R478 with eight days on the line: LIFE_LEFT reads 19,440. -/
theorem test_life_left :
    let s := (((((State.reset.addSum AGEING.SX_LO AGEING.SX_HI (32 * 256)).addSum AGEING.SY_LO AGEING.SY_HI 6080000).addSum
      AGEING.SXY_LO AGEING.SXY_HI (256 * 4 * (2 * 740000 + 6 * 780000))).addSum AGEING.SXX_LO AGEING.SXX_HI
      (65536 * 160)).set AGEING.LIFE_N 8).set AVS.VMAX 850
    ((s.set AGEING.LIFE_MARGIN 10).lifeFit 1296 0).get AGEING.LIFE_LEFT = 19440 := by decide +kernel

/-! ### Single steps -/

theorem test_step_takes_the_front :
    (match step { State.reset with pending := [.elevLockExpiry, .trigoutEnd] } with
      | .next t => decide (t.pending = [.trigoutEnd])
      | _ => false) = true := by decide +kernel

/-- R45: a write by HOST without the right is refused, and recorded. -/
theorem test_refused_write :
    (match execRegWrite .mon 0 4 0x40113044 1 State.reset with
      | .next t => decide (t.answer = some ⟨.mon, [], stDENIED⟩ ∧ t.get ARBITER.LAST_REF_ADDR = 0x40113044 ∧
          t.get ARBITER.CODE = 2)
      | _ => false) = true := by decide +kernel

/-- R57: a write waits in its window, which closes 8 ticks later. -/
theorem test_window :
    (match execRegWrite .mgmt 0 4 0x400AC054 0x1234 State.reset with
      | .next t => match execCoincidenceWindowClose { t with ao := t.ao + 8 } with
        | .next u => decide (t.get CAL0.CODE_REL = 30 ∧ u.get CAL0.CODE_REL = 0x12 ∧ u.get CAL0.CALTX_ATT = 0x34)
        | _ => false
      | _ => false) = true := by decide +kernel

/-- R45: an access narrower than a word is BUS_ERROR. -/
theorem test_narrow_write :
    (match execRegWrite .host 0 2 0x40113044 1 State.reset with
      | .next t => decide (t.answer = some ⟨.host, [], stBUS_ERROR⟩)
      | _ => false) = true := by decide +kernel

/-- R57: a row that writes a field is carried to the close of its window. -/
theorem test_row_write :
    (match execRdPtrWrite .mgmt 0 3 0x40 State.reset with
      | .next t => decide (t.get (CP.RD_PTR 3) = 0x40 ∧ t.ao = State.reset.ao + 8 ∧ t.answer = some ⟨.mgmt, [], stOK⟩)
      | _ => false) = true := by decide +kernel

/-- R123: convergent rounding takes a half to the even neighbour. -/
theorem test_convergent : divConv 5 2 = 2 ∧ divConv 7 2 = 4 ∧ divConv (-5) 2 = -2 ∧ divConv (-7) 2 = -4 := by decide +kernel

/-! ### States and operands that meet the hypotheses of each statement, clause by clause -/

/-- A packet as it arrives: its words with their CRC-32. -/
def pkt (cls sub w1 : Nat) (body : List Nat) : List Nat :=
  let inner := [cls * 2 ^ 28 + (2 + body.length / 2) * 2 ^ 16 + sub, w1] ++ body ++ [0]
  inner ++ [crc32 inner]

theorem witness_PowerUp_1 :
    (let s : State := { State.reset with pwr := { vaux := false } }; let b : Nat := 1; let mv : Nat := 3300; s.pwr.vaux = false ∧ s.pwr.kill = false ∧ b % 4 < 3) ∧
    (let s : State := { State.reset with pwr := { vaux := false } }; let mv : Nat := 3300; s.pwr.vaux = false ∧ s.pwr.kill = false ∧ s.pwr.resetN = false) ∧
    (let s : State := State.reset; s.pwr.vaux = true) ∧
    (let s : State := State.reset; s.pwr.vaux = true ∧ s.pwr.biasRead = false) ∧
    (let s : State := { State.reset with pwr := { vcore := true, vcnv := true, vana := true } }; let rail : Nat := 3; rail < 4 ∧ s.mode ≠ 2 ∧ (s.setRail rail true).railsGood = true ∧ s.railsGood = false) ∧
    (let s : State := State.reset; let rail : Nat := 0; rail < 4 ∧ (s.setRail rail true).railsGood = false ∨ s.railsGood = true) ∧
    (let s : State := State.reset; let b : Nat := 0; b < 4) ∧
    (let s : State := State.reset.set DEVICE.MODE 5; let rail : Nat := 3; 1 ≤ rail ∧ rail < 4 ∧ s.pwr.vaux = true ∧ s.on DEVICE.HALT = false ∧ 3 ≤ s.mode) ∧
    (let s : State := ({ State.reset with trans := none }.set DEVICE.MODE 1); let rail : Nat := 3; 1 ≤ rail ∧ rail < 4 ∧ s.pwr.vaux = true ∧ s.on DEVICE.HALT = false ∧ s.mode = 1 ∧ s.trans = none) ∧
    (let s : State := (State.reset.set DEVICE.MODE 5); s.pwr.vaux = true ∧ s.on DEVICE.HALT = false ∧ 3 ≤ s.mode) ∧
    (let s : State := ({ State.reset with trans := none }.set DEVICE.MODE 1); s.pwr.vaux = true ∧ s.on DEVICE.HALT = false ∧ s.mode = 1 ∧ s.trans = none) ∧
    (let s : State := State.reset; let b : Nat := 1; (b = 1 ∨ b = 2) ∧ bitOf s.pwr.vio b = true ∧ s.pwr.vaux = true) :=
  by and_intros <;> decide +kernel

theorem witness_PowerUp_2 :
    (let s : State := State.reset; let b : Nat := 3; (b = 0 ∨ b = 3) ∧ bitOf s.pwr.vio b = true ∧ s.pwr.vaux = true) ∧
    (let s : State := (State.reset.set GPIO.RISE 1); let k : Nat := 0; let r : Bool := true; k < 16 ∧ s.pwr.vaux = true ∧ bitOf s.pwr.vio (gpioBank k) = true ∧ bitOf (s.get GPIO.INP) k = !r ∧ bitOf (s.get (if r then GPIO.RISE else GPIO.FALL)) k = true) :=
  by and_intros <;> decide +kernel

theorem witness_Resets :
    (let s : State := { State.reset with ao := 983040, pwr := { vcore := true, vcnv := true, vana := true, vrf := true } }; let find : SelfTest := {}; let bad : Nat := 0; s.startDue = true ∧ (s.mode = 0 ∨ s.mode = 1) ∧ s.modes.next = none) ∧
    (let s : State := State.reset; s.pwr.resetN = false ∧ s.pwr.vaux = true) ∧
    (let s : State := { State.reset with pwr := { resetN := true } }; let b : Nat := 0; s.pwr.resetN = true ∧ bitOf s.pwr.vio 0 = true ∧ s.pwr.vaux = true ∧ s.on DEVICE.HALT = false ∧ b < 3) ∧
    (let s : State := { State.reset with pwr := { resetN := true } }; s.pwr.resetN = true ∧ bitOf s.pwr.vio 0 = true ∧ s.pwr.vaux = true ∧ s.on DEVICE.HALT = false) ∧
    (let s : State := ({ State.reset with pwr := { resetN := true } }.set DEVICE.HALT 1); let b : Nat := 0; s.pwr.resetN = true ∧ bitOf s.pwr.vio 0 = true ∧ s.pwr.vaux = true ∧ s.on DEVICE.HALT = true) ∧
    (let s : State := State.reset; let c : Cls := .mgmt; s.triggered c DEVICE.DEVICE_RESET = true ∧ (s.ripe c DEVICE.DEVICE_RESET).on DEVICE.HALT = false) ∧
    (let s : State := (State.reset.set DEVICE.HALT 1); let c : Cls := .mgmt; s.triggered c DEVICE.DEVICE_RESET = true ∧ (s.ripe c DEVICE.DEVICE_RESET).on DEVICE.HALT = true) ∧
    (let s : State := State.reset; let k : Nat := 16; 16 ≤ k ∧ k < 25 ∧ s.on DEVICE.HALT = false ∧ s.pwr.vaux = true) :=
  by and_intros <;> decide +kernel

theorem witness_ModesAndStarts_1 :
    (let s : State := ({ State.reset with trans := none }.set DEVICE.MODE 3); let c : Cls := .mgmt; let a : Nat := 0; let v : Nat := 0; s.accepts c DEVICE.MODE_REQ v = true ∧ (s.ripe c DEVICE.MODE_REQ).trans = none ∧ (s.ripe c DEVICE.MODE_REQ).modes.expired = none ∧ trunc 3 v ≠ (s.ripe c DEVICE.MODE_REQ).mode ∧ ((s.ripe c DEVICE.MODE_REQ).set DEVICE.MODE_REQ v).modeRefusal c (trunc 3 v) = 0) ∧
    (let s : State := ({ State.reset with trans := none }.set DEVICE.MODE 3); let c : Cls := .mgmt; let a : Nat := 0; let v : Nat := 4; s.accepts c DEVICE.MODE_REQ v = true ∧ (s.ripe c DEVICE.MODE_REQ).trans = none ∧ (s.ripe c DEVICE.MODE_REQ).modes.expired = none ∧ trunc 3 v ≠ (s.ripe c DEVICE.MODE_REQ).mode ∧ ((s.ripe c DEVICE.MODE_REQ).set DEVICE.MODE_REQ v).modeRefusal c (trunc 3 v) ≠ 0) ∧
    (let s : State := State.reset; let c : Cls := .mgmt; let a : Nat := 0; let v : Nat := 3; s.accepts c DEVICE.MODE_REQ v = true ∧ (s.ripe c DEVICE.MODE_REQ).trans.isSome = true ∧ (s.ripe c DEVICE.MODE_REQ).modes.expired = none) ∧
    (let s : State := ({ State.reset with trans := some ⟨4, 0, false⟩ }.set DEVICE.MODE 3); let x : Transit := ⟨4, 0, false⟩; s.trans = some x ∧ s.modeDue x = true ∧ s.modes.expired = none ∧ s.modes.next = none ∧ x.target < 8 ∧ (s.mode ≠ 7 ∨ s.m7Held = false)) ∧
    (let s : State := (({ State.reset with trans := some ⟨3, 0, false⟩ }.set DEVICE.MODE 7).set SECURITY.DBG_EN 1); let x : Transit := ⟨3, 0, false⟩; s.trans = some x ∧ s.modeDue x = true ∧ s.modes.expired = none ∧ s.modes.next = none ∧ s.mode = 7 ∧ s.m7Held = true) ∧
    (let s : State := (State.reset.set MGMT.RUNNING 1); let c : Cls := .mgmt; s.triggered c DEVICE.BOOT_OK = true ∧ (s.ripe c DEVICE.BOOT_OK).on MGMT.RUNNING = true ∧ (s.ripe c DEVICE.BOOT_OK).modes.expired = none ∧ (s.ripe c DEVICE.BOOT_OK).mgmtDown = false ∧ (s.ripe c DEVICE.BOOT_OK).on DEVICE.BOOT_OK_SEEN = false) ∧
    (let s : State := ({ State.reset with mgmtDown := true }.set MGMT.RUNNING 1); let c : Cls := .mgmt; s.triggered c DEVICE.BOOT_OK = true ∧ (s.ripe c DEVICE.BOOT_OK).on MGMT.RUNNING = true ∧ (s.ripe c DEVICE.BOOT_OK).modes.expired = none ∧ (s.ripe c DEVICE.BOOT_OK).mgmtDown = true) ∧
    (let s : State := { State.reset with ao := 19660800000, modes := { wdAt := some 0 } }; let w : Nat := 0; s.modes.wdAt = some w ∧ s.mgmtDown = false ∧ s.deaf = false ∧ w + 19660800000 ≤ s.ao ∧ s.on DEVICE.HALT = false) ∧
    (let s : State := ({ State.reset with ao := 19660800000, modes := { wdAt := some 0 } }.set DEVICE.HALT 1); let w : Nat := 0; s.modes.wdAt = some w ∧ s.mgmtDown = false ∧ s.deaf = false ∧ w + 19660800000 ≤ s.ao ∧ s.on DEVICE.HALT = true) ∧
    (let s : State := (State.reset.set MGMT.RUNNING 1); let c : Cls := .mgmt; let bad : Nat := 0; s.triggered c DEVICE.MGMT_RESTART (bad * 2 ^ 32) = true ∧ (s.ripe c DEVICE.MGMT_RESTART).on MGMT.RUNNING = true ∨ (s.ripe c DEVICE.MGMT_RESTART).mgmtDown = true ∧ (s.ripe c DEVICE.MGMT_RESTART).on DEVICE.HALT = false ∧ (s.ripe c DEVICE.MGMT_RESTART).modes.expired = none) ∧
    (let s : State := { State.reset with mgmtDown := true, ao := 4915200000 }; s.mgmtDown = true ∧ s.modes.expired = none ∧ s.modes.contAt + 4915200000 ≤ s.ao) ∧
    (let s : State := { State.reset with ao := 98304000, modes := { holdAt := some 0, expired := some 0x11 } }; let w : Nat := 0; let code : Nat := 0x11; s.modes.holdAt = some w ∧ s.modes.expired = some code ∧ w + 98304000 ≤ s.ao) :=
  by and_intros <;> decide +kernel

theorem witness_ModesAndStarts_2 :
    (let s : State := { State.reset with ao := 589824000000, modes := { stableAt := some 0 } }; let w : Nat := 0; s.modes.stableAt = some w ∧ w + 600 * 983040000 ≤ s.ao) ∧
    (let s : State := ((({ State.reset with ao := 98304000000 }.set MGMT.WD_EN 1).set DEVICE.BOOT_OK_SEEN 1).set MGMT.RUNNING 1); let bad : Nat := 0; s.on MGMT.WD_EN = true ∧ s.on DEVICE.BOOT_OK_SEEN = true ∧ s.on MGMT.RUNNING = true ∧ s.on DEVICE.HALT = false ∧ s.deaf = false ∧ s.mgmt.wdAt + max 1 (s.get MGMT.WD_PERIOD) * 9830400 ≤ s.ao) ∧
    (let s : State := { State.reset with ao := 9830400, modes := { step := 1 } }; s.modes.step = 1 ∧ s.modes.stepAt + 9830400 ≤ s.ao ∧ (s.on CPLL.LOCKED = false ∨ s.on LPLL.LOCKED = false)) ∧
    (let s : State := (({ State.reset with trans := none, ao := 4915200000 }.set DEVICE.MODE 5).set ERL0.DOWN_M3 1); s.mode = 5 ∧ s.on ERL0.LINK_UP = false ∧ s.on ERL0.DOWN_M3 = true ∧ s.erl.downAt + max 1 (s.get ERL0.DOWN_TO) * 983040 ≤ s.ao ∧ s.trans = none ∧ (s.set DEVICE.MODE_REQ 3).modeRefusal .mgmt 3 = 0) :=
  by and_intros <;> decide +kernel

theorem witness_HeaderFields_1 :
    (let s : State := { State.reset with pwr := { vaux := true, isolated := false } }; let c : Cls := .mgmt; let a : Nat := 0; let pg : Nat := 0x0E0; let v : Nat := 1; assigned pg = true ∧ noEnable pg = false ∧ pg ≠ 0x0E4 ∧ s.accepts c (HDR.EN pg) v = true ∧ trunc 1 v = 1 ∧ (s.ripe c (HDR.EN pg)).seqOf pg = 0 ∧ (s.ripe c (HDR.EN pg)).act pg = false ∧ (s.ripe c (HDR.EN pg)).railsOk pg = true ∧ isLoopPage pg = false) ∧
    (let s : State := State.reset.set (HDR.ACT 0x0E1) 1; let c : Cls := .mgmt; let a : Nat := 0; let pg : Nat := 0x0E1; let v : Nat := 0; assigned pg = true ∧ noEnable pg = false ∧ pg ≠ 0x0E4 ∧ s.accepts c (HDR.EN pg) v = true ∧ trunc 1 v = 0 ∧ (s.ripe c (HDR.EN pg)).seqOf pg = 1 ∨ (s.ripe c (HDR.EN pg)).seqOf pg = 0 ∧ (s.ripe c (HDR.EN pg)).act pg = true) ∧
    (let s : State := State.reset.startSeq 0x0E1 2; let c : Cls := .mgmt; let a : Nat := 0; let pg : Nat := 0x0E1; let v : Nat := 0; assigned pg = true ∧ noEnable pg = false ∧ pg ≠ 0x0E4 ∧ s.accepts c (HDR.EN pg) v = true ∧ (s.ripe c (HDR.EN pg)).seqOf pg = 2 ∨ (s.ripe c (HDR.EN pg)).seqOf pg = 1 ∧ trunc 1 v = 1 ∨ (s.ripe c (HDR.EN pg)).seqOf pg = 0 ∧ (s.ripe c (HDR.EN pg)).on (HDR.ACT pg) = (trunc 1 v == 1)) ∧
    (let s : State := State.reset.startSeq 0x0E1 1; let pg : Nat := 0x0E1; s.seqOf pg = 1 ∧ s.seqMayEnd pg = true ∧ isRxPage pg = false ∧ isTxPage pg = false ∧ pg ≠ 0x0E4 ∧ pg ≠ 0x125) ∧
    (let s : State := State.reset.startSeq 0x0E1 2; let pg : Nat := 0x0E1; s.seqOf pg = 2 ∧ s.seqMayEnd pg = true ∧ isRxPage pg = false ∧ isTxPage pg = false ∧ pg ≠ 0x0E4 ∧ pg ≠ 0x125 ∧ s.srst.look pg = 0 ∧ s.on (HDR.EN pg) = false) ∧
    (let s : State := State.reset.set (HDR.ACT 0x0E1) 1; let c : Cls := .mgmt; let a : Nat := 0; let pg : Nat := 0x0E1; let e : Nat := 1; assigned pg = true ∧ noEnable pg = false ∧ s.takes c (HDR.EN pg) (2 + e % 2) = true ∧ s.takes c (HDR.SRST pg) (2 + e % 2) = true) ∧
    (let s : State := State.reset; let c : Cls := .mgmt; let a : Nat := 0; let pg : Nat := 0x0E1; let e : Nat := 0; assigned pg = true ∧ noEnable pg = false ∧ s.takes c (HDR.EN pg) (2 + e % 2) = true ∧ s.takes c (HDR.SRST pg) (2 + e % 2) = true ∧ (s.ripe c (HDR.EN pg) 2).seqOf pg = 0 ∧ (s.ripe c (HDR.EN pg) 2).act pg = false ∧ e % 2 = 0 ∧ isRxPage pg = false ∧ isTxPage pg = false ∧ pg ≠ 0x0AC ∧ pg ≠ 0x125 ∧ (s.ripe c (HDR.EN pg) 2).on (HDR.FIELD_LOCK pg) = false) ∧
    (let s : State := State.reset; let c : Cls := .mgmt; let a : Nat := 0; let pg : Nat := 0x0E1; let v : Nat := 2; assigned pg = true ∧ s.accepts c (HDR.LEVEL_REQ pg) v = true) ∧
    (let s : State := State.reset.set (HDR.EVT 0x0E1) 7; let c : Cls := .mgmt; let pg : Nat := 0x0E1; let m : Nat := 6; let n : Nat := 2; assigned pg = true ∧ s.triggered c (HDR.EVT pg) (m % 2 ^ 32 + n * 2 ^ 32) = true) ∧
    (let s : State := State.reset.set (HDR.EVT 0x0E1) 7; let c : Cls := .mgmt; let pg : Nat := 0x0E1; let m : Nat := 6; assigned pg = true ∧ s.triggered c (HDR.EVT pg) (m % 2 ^ 32) = true ∧ (s.ripe c (HDR.EVT pg)).evtNow = []) ∧
    (let s : State := State.reset.set (HDR.EVT 0x0E1) 7; let c : Cls := .mgmt; let a : Nat := 0; let pg : Nat := 0x0E1; let v : Nat := 6; assigned pg = true ∧ s.accepts c (HDR.EVT_EN pg) v = true) ∧
    (let s : State := State.reset.set (HDR.EVT 0x0E1) 1; let c : Cls := .mgmt; let a : Nat := 0; let pg : Nat := 0x0E1; let v : Nat := 6; assigned pg = true ∧ s.accepts c (HDR.EVT_EN pg) v = true ∧ (s.ripe c (HDR.EVT_EN pg)).get (HDR.EVT pg) &&& trunc 32 v = 0) :=
  by and_intros <;> decide +kernel

theorem witness_HeaderFields_2 :
    (let s : State := State.reset; let a : Nat := 0; let pg : Nat := 0x004; let data : Nat := 0xFFF; assigned pg = true ∧ s.quiet = true ∧ s.right pg .mgmt = 3 ∧ s.on (HDR.ACC_LOCK pg) = false) ∧
    (let s : State := State.reset; let c : Cls := .mgmt; let a : Nat := 0; let pg : Nat := 0x004; assigned pg = true ∧ s.accepts c (HDR.ACC_LOCK pg) 1 = true) ∧
    (let s : State := State.reset; let c : Cls := .mgmt; let a : Nat := 0; let pg : Nat := 0x004; assigned pg = true ∧ s.accepts c (HDR.FIELD_LOCK pg) 1 = true) :=
  by and_intros <;> decide +kernel

theorem witness_Commits :
    (let s : State := State.reset; let c : Cls := .mgmt; let a : Nat := 0; let pg : Nat := 0x005; let i : Nat := 1; assigned pg = true ∧ hasShadow pg = true ∧ s.takes c (HDR.IMMED pg) (1 + i % 2 * 4) = true ∧ s.takes c (HDR.REQ pg) (1 + i % 2 * 4) = true ∧ (s.ripe c (HDR.IMMED pg) 2).on (HDR.PENDING pg) = false ∧ pg ≠ 0x0A0 ∧ pg ≠ 0x0A1 ∧ i % 2 = 1) ∧
    (let s : State := { State.reset.set (HDR.COMMIT_TB_LO 0x005) 77 with tb := 100 }; let c : Cls := .mgmt; let a : Nat := 0; let pg : Nat := 0x005; let i : Nat := 0; assigned pg = true ∧ hasShadow pg = true ∧ s.takes c (HDR.IMMED pg) (1 + i % 2 * 4) = true ∧ s.takes c (HDR.REQ pg) (1 + i % 2 * 4) = true ∧ (s.ripe c (HDR.IMMED pg) 2).on (HDR.PENDING pg) = false ∧ pg ≠ 0x0A0 ∧ pg ≠ 0x0A1 ∧ i % 2 = 0) ∧
    (let s : State := State.reset; let c : Cls := .mgmt; let a : Nat := 0; let pg : Nat := 0x0A0; let i : Nat := 1; assigned pg = true ∧ hasShadow pg = true ∧ s.takes c (HDR.IMMED pg) (1 + i % 2 * 4) = true ∧ s.takes c (HDR.REQ pg) (1 + i % 2 * 4) = true ∧ (s.ripe c (HDR.IMMED pg) 2).on (HDR.PENDING pg) = false ∧ (pg = 0x0A0 ∨ pg = 0x0A1) ∧ i % 2 = 1) ∧
    (let s : State := State.reset.commitAt 0x005 5 false; let c : Cls := .mgmt; let pg : Nat := 0x005; assigned pg = true ∧ hasShadow pg = true ∧ s.triggered c (HDR.CANCEL pg) 2 = true ∧ (s.ripe c (HDR.CANCEL pg)).copying.look pg = 0) ∧
    (let s : State := { State.reset with copying := State.reset.copying.put 0x005 1 }; let c : Cls := .mgmt; let pg : Nat := 0x005; assigned pg = true ∧ hasShadow pg = true ∧ s.triggered c (HDR.CANCEL pg) 2 = true ∧ (s.ripe c (HDR.CANCEL pg)).copying.look pg ≠ 0) ∧
    (let s : State := { State.reset with tbRun := true, commits := [⟨0x0A5, 0, true, false⟩] }; let c : CommitSt := ⟨0x0A5, 0, true, false⟩; s.commits.find? (fun x => decide (x.page = c.page)) = some c ∧ s.tbRun = true ∧ c.target ≤ s.tb ∧ s.swapBoundaryOf c.page = true) ∧
    (let s : State := { State.reset with copying := State.reset.copying.put 0x005 1 }; let pg : Nat := 0x005; s.copying.look pg ≠ 0 ∧ (pg < 0x010 ∨ 0x090 ≤ pg) ∧ pg ≠ 0x0AD ∧ pg ≠ 0x0AE) :=
  by and_intros <;> decide +kernel

theorem witness_Ports_1 :
    (let s : State := State.reset; let c : Cls := .mgmt; let a : Nat := 0; let pg : Nat := 0x005; let data : Nat := 7; assigned pg = true ∧ pg < 0x200 ∧ s.takes c (HDR.EVT_EN pg) (trunc 32 data) = true) ∧
    (let s : State := State.reset; let c : Cls := .host; let a : Nat := 0; let size : Nat := 2; let addr : Nat := 0x40000000; let data : Nat := 7; s.deaf = false ∧ c ≠ .mgmt ∧ (size ≠ 4 ∨ inRegs addr = false ∨ addr % 4 ≠ 0)) ∧
    (let s : State := State.reset; let a : Nat := 0; let size : Nat := 4; let addr : Nat := 0x40000001; let data : Nat := 7; s.deaf = false ∧ inRegs addr = true ∧ (size ≠ 4 ∨ addr % 4 ≠ 0)) ∧
    (let s : State := State.reset; let a : Nat := 0; let size : Nat := 4; let addr : Nat := 0x10000000; let data : Nat := 7; s.deaf = false ∧ inRegs addr = false) ∧
    (let s : State := State.reset; let c : Cls := .bb; let a : Nat := 0; let addr : Nat := 0x40000010; let data : Nat := 7; s.deaf = false ∧ inRegs addr = true ∧ addr % 4 = 0 ∧ assigned (pageOf addr) = true ∧ s.right (pageOf addr) c < 2 ∧ c ≠ .test ∧ c ≠ .mgmt) ∧
    (let s : State := { State.reset with ao := 8, windows := [⟨HDR.CLOVE_SEL 0x004, 0, [⟨.bb, 0, 5, 0, 1⟩]⟩], words := [⟨1, .bb, regAddr 0x004 0x014, stOK, false, 1⟩] }; let w : WinWrite := ⟨.bb, 0, 5, 0, 1⟩; let pg : Nat := 0x004; let at_ : Nat := 0; s.deaf = false ∧ s.triggers = [] ∧ assigned pg = true ∧ s.windows = [⟨HDR.CLOVE_SEL pg, at_, [w]⟩] ∧ s.words = [⟨w.word, w.cls, regAddr pg 0x014, stOK, false, 1⟩] ∧ at_ + 8 ≤ s.ao ∧ w.val < 8) ∧
    (let s : State := { State.reset with ao := 8, windows := [⟨TXPATH.RETIRE 3, 0, [⟨.host, 0, 1, 0, 1⟩, ⟨.bb, 0, 0, 2, 2⟩]⟩], words := [⟨1, .host, regAddr (txPage 3) 0x068, stOK, false, 1⟩, ⟨2, .bb, regAddr (txPage 3) 0x068, stOK, false, 1⟩] }; let x : WinWrite := ⟨.host, 0, 1, 0, 1⟩; let y : WinWrite := ⟨.bb, 0, 0, 2, 2⟩; let p : Nat := 3; let at_ : Nat := 0; s.deaf = false ∧ s.triggers = [] ∧ p < 64 ∧ s.windows = [⟨TXPATH.RETIRE p, at_, [x, y]⟩] ∧ s.words = [⟨x.word, x.cls, regAddr (txPage p) 0x068, stOK, false, 1⟩, ⟨y.word, y.cls, regAddr (txPage p) 0x068, stOK, false, 1⟩] ∧ x.word ≠ y.word ∧ x.cls ≠ y.cls ∧ at_ + 8 ≤ s.ao ∧ x.val = 1 ∧ y.val = 0) ∧
    (let s : State := { State.reset with windows := [⟨HDR.CLOVE_SEL 0x004, 0, []⟩] }; s.windows.all (fun w => decide (s.ao < w.openAt + 8)) = true ∧ s.triggers.all (fun t => decide (s.ao < t.actAt)) = true) ∧
    (let s : State := State.reset.set (HDR.RIGHT 0x004 .host) 1; let i : Bool := false; let pg : Nat := 0x004; let off : Nat := 0; let n : Nat := 1; s.deaf = false ∧ pg < 0x200 ∧ off % 4 = 0 ∧ off < 4096 ∧ n ≤ 1 ∧ (s.readWord .host pg off).1 = stOK) ∧
    (let s : State := (State.reset.set (HDR.RIGHT 0x005 .host) 3).set (HDR.CTRL 0x005) 3; let i : Bool := false; let pg : Nat := 0x005; let v : Nat := 5; assigned pg = true ∧ hasShadow pg = true ∧ s.takes .host (HDR.COMMIT_TB_LO pg) (trunc 32 v) = true) ∧
    (let s : State := State.reset; let r : Bool := true; let i : Bool := false; let addr : Nat := 6; let n : Nat := 1; let ws : List Nat := []; s.deaf = false ∧ trunc 32 addr % 4 ≠ 0) ∧
    (let s : State := State.reset; let i : Bool := true; let addr : Nat := 8; let ws : List Nat := []; s.deaf = false ∧ trunc 32 addr % 4 = 0) :=
  by and_intros <;> decide +kernel

theorem witness_Ports_2 :
    (let s : State := (State.reset.set DEVICE.MODE 7).set (HDR.RIGHT 0x005 .test) 3; let pg : Nat := 0x005; let d : Nat := 5; assigned pg = true ∧ hasShadow pg = true ∧ (s.mode = 3 ∨ s.mode = 7) ∧ s.takes .test (HDR.COMMIT_TB_LO pg) (trunc 32 d) = true) ∧
    (let s : State := (State.reset.set DEVICE.MODE 7).set (HDR.RIGHT 0x004 .test) 1; let pg : Nat := 0x004; let off : Nat := 0x010; let d : Nat := 5; s.deaf = false ∧ pg < 0x200 ∧ off % 4 = 0 ∧ off < 4096 ∧ (s.mode = 3 ∨ s.mode = 7) ∧ (s.readWord .test pg off).1 = stOK) ∧
    (let s : State := State.reset; let w : Bool := true; let addr : Nat := 0x40000000; let d : Nat := 5; s.deaf = false ∧ s.mode ≠ 3 ∧ s.mode ≠ 7) ∧
    (let s : State := State.reset.set DEVICE.MODE 3; let w : Bool := true; let addr : Nat := 0x40200000; let d : Nat := 5; s.deaf = false ∧ (s.mode = 3 ∨ s.mode = 7) ∧ inRegs (trunc 32 addr) = false) :=
  by and_intros <;> decide +kernel

theorem witness_Loops :
    (let s : State := { (State.reset.set CPLL.REF_OK 1).setLoop 0 .search with ao := 4096 }; let k : Nat := 0; k < 4 ∧ s.loop k = .search ∧ s.on CPLL.REF_OK = true ∧ s.vcoInRange k = true ∧ s.compared k 256 = true ∧ s.modes.step ≠ 1) ∧
    (let s : State := State.reset; let k : Nat := 0; k < 4 ∧ (s.loop k ≠ .search ∨ s.on CPLL.REF_OK = false ∨ s.vcoInRange k = false ∨ s.compared k 256 = false) ∧ s.modes.step ≠ 1) ∧
    (let s : State := { ((State.reset.set CPLL.REF_OK 1).set CPLL.LOCKED 1).setLoop 3 .search with ao := 4096, modes := { step := 1 } }; s.loop 3 = .search ∧ s.on CPLL.REF_OK = true ∧ s.compared 3 256 = true ∧ s.modes.step = 1 ∧ s.on CPLL.LOCKED = true) ∧
    (let s : State := { State.reset.setLoop 3 .locked with ao := 1024 }; s.loop 3 = .locked ∧ s.compared 3 64 = true ∧ s.clk.lost.getD 3 false = false) ∧
    (let s : State := { State.reset.setLoop 0 .locked with ao := 1024 }; s.loop 0 = .locked ∧ s.compared 0 64 = true) ∧
    (let s : State := { State.reset.setLoop 1 .locked with ao := 1024 }; let k : Nat := 1; (k = 1 ∨ k = 2) ∧ s.loop k = .locked ∧ s.compared k 64 = true) ∧
    (let s : State := State.reset.setLoop 2 .locked; let k : Nat := 2; k < 4 ∧ s.loop k = .locked) ∧
    (let s : State := State.reset.setLoop 0 .ready; let k : Nat := 0; k < 4 ∧ s.loop k = .ready) ∧
    (let s : State := State.reset.setLoop 1 .search; let k : Nat := 1; k < 4 ∧ s.loop k = .search) ∧
    (let s : State := { State.reset.set CPLL.REF_OK 1 with tbRun := true }; s.on CPLL.REF_OK = true) ∧
    (let s : State := { State.reset.set CPLL.REF_OK 0 with clk := { lowPfd := false } }; let r : Nat := 1; r < 3 ∧ s.on CPLL.REF_OK = false ∧ s.clk.lowPfd = (r == 0) ∧ s.on TIMEBASE.REF_HOLD = false) ∧
    (let s : State := ({ State.reset.set CPLL.REF_OK 0 with clk := { lowPfd := false } } : State).set TIMEBASE.REF_HOLD 1; let r : Nat := 1; r < 3 ∧ s.on CPLL.REF_OK = false ∧ s.clk.lowPfd = (r == 0) ∧ s.on TIMEBASE.REF_HOLD = true) :=
  by and_intros <;> decide +kernel

theorem witness_TimeBase :
    (let s : State := State.reset; let c : Cls := .mgmt; s.triggered c TIMEBASE.STEP_GO = true ∧ (s.ripe c TIMEBASE.STEP_GO).mode ≠ 5) ∧
    (let s : State := State.reset.set DEVICE.MODE 5; let c : Cls := .mgmt; s.triggered c TIMEBASE.STEP_GO = true ∧ (s.ripe c TIMEBASE.STEP_GO).mode = 5) ∧
    (let s : State := ({ State.reset with tbRun := true, tb := 64, clk := { stepGo := true } } : State).set TIMEBASE.STEP_VAL 0xFFFFFFF; s.clk.stepGo = true ∧ s.tbRun = true ∧ s.mode ≠ 5 ∧ s.tb % s.inc = 0 ∧ s.caps.all (fun x => x.seg.isNone && x.feed.isEmpty) = true) ∧
    (let s : State := ({ State.reset with clk := { stepGo := true } } : State).set DEVICE.MODE 5; s.clk.stepGo = true ∧ s.mode = 5) ∧
    (let s : State := State.reset; let c : Cls := .mgmt; s.triggered c TIMEBASE.VALID_SET = true) ∧
    (let s : State := ((({ State.reset with tbRun := true, tb := 64 } : State).set TSYNC.MODE 1).set DEVICE.MODE 3).set (HDR.ACT 0x009) 1; s.act 0x009 = true ∧ s.tbRun = true ∧ s.mode ≠ 0 ∧ s.mode ≠ 5 ∧ s.tb % s.inc = 0 ∧ s.get TSYNC.MODE = 1 ∧ s.caps.all (fun x => x.seg.isNone && x.feed.isEmpty) = true) ∧
    (let s : State := ((({ State.reset with tbRun := true, tb := 64 } : State).set TSYNC.MODE 2).set DEVICE.MODE 3).set (HDR.ACT 0x009) 1; s.act 0x009 = true ∧ s.tbRun = true ∧ s.mode ≠ 0 ∧ s.tb % s.inc = 0 ∧ s.get TSYNC.MODE = 2) ∧
    (let s : State := ((({ State.reset with tbRun := true, tb := 64 } : State).set TSYNC.MODE 1).set DEVICE.MODE 5).set (HDR.ACT 0x009) 1; s.act 0x009 = true ∧ s.tbRun = true ∧ s.mode = 5 ∧ s.tb % s.inc = 0 ∧ s.get TSYNC.MODE = 1) ∧
    (let s : State := ({ State.reset with tb := 4 }.set TSYNC.OUT_ARM 1).set (HDR.ACT 0x009) 1; s.act 0x009 = true ∧ s.on TSYNC.OUT_ARM = true ∧ s.clk.tsynco = none ∧ s.get64 TSYNC.OUT_TB_LO TSYNC.OUT_TB_HI + s.inc / 2 ≤ s.tb ∧ s.tb % s.inc = s.inc / 2) ∧
    (let s : State := { State.reset with clk := { tsynco := some 0 } }; let e : Nat := 0; s.clk.tsynco = some e ∧ e ≤ s.ao ∧ (s.on TSYNC.OUT_REPEAT = false ∨ s.get TSYNC.PERIOD = 0)) ∧
    (let s : State := (({ State.reset with clk := { tsynco := some 0 } } : State).set TSYNC.OUT_REPEAT 1).set TSYNC.PERIOD 5; let e : Nat := 0; s.clk.tsynco = some e ∧ e ≤ s.ao ∧ s.on TSYNC.OUT_REPEAT = true ∧ s.get TSYNC.PERIOD ≠ 0) ∧
    (let s : State := { State.reset with tb := 2 ^ 33 + 5 }; let c : Cls := .mgmt; s.deaf = false ∧ s.right 0x008 c ≠ 0 ∧ c ≠ .test ∧ s.windows = [] ∧ s.triggers = []) :=
  by and_intros <;> decide +kernel

theorem witness_Overload :
    (let s : State := (((State.reset.set (HDR.ACT (rxPage 3)) 1).set (RXPATH.OVL_EN 3) 1).setPath 3 (fun p => { p with st := .rx })); let n : Nat := 3; n < 64 ∧ s.act (rxPage n) = true ∧ s.on (RXPATH.OVL_EN n) = true ∧ (s.path n).st.receives = true ∧ s.get (RXPATH.ATT_NOW n) = 0) ∧
    (let s : State := ((((State.reset.set (HDR.ACT (rxPage 3)) 1).set (RXPATH.OVL_EN 3) 1).set (RXPATH.ATT_NOW 3) 5).setPath 3 (fun p => { p with st := .rx })); let n : Nat := 3; n < 64 ∧ s.act (rxPage n) = true ∧ s.on (RXPATH.OVL_EN n) = true ∧ (s.path n).st.receives = true ∧ s.get (RXPATH.ATT_NOW n) ≠ 0) ∧
    (let s : State := { State.reset.set (RXPATH.ATT_NOW 3) 5 with ao := 100000000 }; let n : Nat := 3; let b : Nat := 100000; n < 64 ∧ 1 < s.get (RXPATH.ATT_NOW n) ∧ s.on (RXPATH.OVL_FORCE n) = false ∧ s.ovlDue n b = true) ∧
    (let s : State := { State.reset.set (RXPATH.ATT_NOW 3) 1 with ao := 100000000 }; let n : Nat := 3; let b : Nat := 100000; n < 64 ∧ s.get (RXPATH.ATT_NOW n) = 1 ∧ s.on (RXPATH.OVL_FORCE n) = false ∧ s.ovlDue n b = true) ∧
    (let s : State := (State.reset.set (HDR.ACT (rxPage 3)) 1); let n : Nat := 3; n < 64 ∧ s.modRuns (rxPage n) = true) ∧
    (let s : State := State.reset.setRx 3 (fun r => { r with comp := some (1, 2, 3, 4) }); let n : Nat := 3; let mi : Nat := 1; let mq : Nat := 2; let si : Nat := 3; let sq : Nat := 4; n < 64 ∧ (s.rx n).comp = some (mi, mq, si, sq) ∧ s.compPermitted n = true ∧ s.tb % 2 = 0 ∧ s.onEdge = true) ∧
    (let s : State := (State.reset.set (HDR.ACT (rxPage 3)) 1); let n : Nat := 3; n < 64 ∧ s.act (rxPage n) = true) ∧
    (let s : State := State.reset; let c : Cls := .mgmt; let n : Nat := 3; n < 64 ∧ s.triggered c (RXPATH.DEC_ALIGN n) = true) ∧
    (let s : State := { State.reset.setRx 3 (fun r => { r with align := some 0 }) with ao := 10000 }; let n : Nat := 3; let r : Nat := 0; n < 64 ∧ (s.rx n).align = some r ∧ (r : Int) * 256 + 2 * (gRx s.ulRate * 256 + s.geti (CALT.NOW_DLY 1 n)) ≤ s.ao * 256) :=
  by and_intros <;> decide +kernel

theorem witness_Detectors_1 :
    (let s : State := State.reset.setThrDue false 3 (some 77); let tx : Bool := false; let n : Nat := 3; let k : Nat := 77; n < 64 ∧ s.txs.length = 65 ∧ s.rxs.length = 65 ∧ s.thrDue tx n = some k) ∧
    (let s : State := State.reset; let tx : Bool := false; let n : Nat := 3; s.thrDue tx n = none) ∧
    (let s : State := (State.reset.set (thrRegs false 3).en 1).set (thrRegs false 3).hi 9; let tx : Bool := false; let n : Nat := 3; let x : Sample := ⟨77, 30000, 0, false, false⟩; n < 64 ∧ s.txs.length = 65 ∧ s.rxs.length = 65 ∧ s.thrDue tx n = none ∧ s.on (thrRegs tx n).en = true ∧ x.invalid = false ∧ s.thrQualifies tx (thrRegs tx n) x = true ∧ max 1 (s.get (thrRegs tx n).hold) ≤ s.get (thrRegs tx n).count + 1) ∧
    (let s : State := ((State.reset.set (thrRegs false 3).en 1).set (thrRegs false 3).hi 9); let tx : Bool := false; let n : Nat := 3; let x : Sample := ⟨77, 0, 0, false, false⟩; s.thrDue tx n = none ∧ s.on (thrRegs tx n).en = true ∧ x.invalid = false ∧ s.thrQualifies tx (thrRegs tx n) x = false) ∧
    (let s : State := State.reset; let c : Cls := .mgmt; let a : Nat := 0; let tx : Bool := true; let n : Nat := 3; let d : Nat := 99; n < 64 ∧ s.takes c (thrRegs tx n).hi (trunc 32 d) = true) ∧
    (let s : State := State.reset; let c : Cls := .mgmt; let a : Nat := 0; let tx : Bool := true; let n : Nat := 3; let d : Nat := 99; n < 64 ∧ s.takes c (thrRegs tx n).lo (trunc 32 d) = true) ∧
    (let s : State := State.reset; let c : Cls := .mgmt; let a : Nat := 0; let tx : Bool := true; let n : Nat := 3; let d : Nat := 99; n < 64 ∧ s.takes c (thrRegs tx n).en (trunc 32 d) = true ∧ s.takes c (thrRegs tx n).ovlHi (trunc 32 d) = true ∧ s.takes c (thrRegs tx n).hold (trunc 32 d) = true) ∧
    (let s : State := { State.reset.set (HDR.ACT (tapPage 2)) 1 with tb := 2 ^ 30 }.setTap 2 (fun x => { x with pk := some ⟨77, 5, 0, false, false⟩ }); let t : Nat := 2; let x : Sample := ⟨77, 5, 0, false, false⟩; t < 8 ∧ s.tapEnds t (s.peakTicks t) = true ∧ (s.taps.getD t {}).pk = some x) ∧
    (let s : State := { State.reset.set (HDR.ACT (tapPage 2)) 1 with tb := 2 ^ 30 }; let t : Nat := 2; t < 8 ∧ s.tapEnds t (s.peakTicks t) = true ∧ (s.taps.getD t {}).pk = none) ∧
    (let s : State := { State.reset.set (HDR.ACT (tapPage 2)) 1 with tb := 2 ^ 30 }.setTap 2 (fun x => { x with cnt := 3, sum := 30 }); let t : Nat := 2; t < 8 ∧ s.tapEnds t (s.msTicks t) = true ∧ (s.taps.getD t {}).cnt ≠ 0 ∧ allPaths.all (fun p => s.get (DPD1.PHASE p) == 0) = true) ∧
    (let s : State := { State.reset.set (HDR.ACT (tapPage 2)) 1 with tb := 2 ^ 30 }; let t : Nat := 2; t < 8 ∧ s.tapEnds t 128 = true ∧ (s.get (MONTAP.ENV_DEST t) = 0 ∨ s.get (MONTAP.ENV_DEST t) = 3)) ∧
    (let s : State := { (State.reset.set (HDR.ACT (tapPage 2)) 1).set (MONTAP.ENV_DEST 2) 1 with tb := 2 ^ 30 }; let t : Nat := 2; t < 8 ∧ s.tapEnds t 128 = true ∧ s.get (MONTAP.ENV_DEST t) = 1) :=
  by and_intros <;> decide +kernel

theorem witness_Detectors_2 :
    (let s : State := { (((State.reset.set (HDR.ACT (tapPage 2)) 1).set (MONTAP.ENV_DEST 2) 2).set (HDR.ACT 0x100) 1) with tb := 2 ^ 30 }; let t : Nat := 2; t < 8 ∧ s.tapEnds t 128 = true ∧ s.get (MONTAP.ENV_DEST t) = 2 ∧ s.act (0x100 + s.get (MONTAP.ENV_IDX t)) = true ∧ s.get (MONTAP.ENV_IDX t) < 8 ∧ s.cores.length = 8 ∧ (s.core (s.get (MONTAP.ENV_IDX t))).stream.length < 64) :=
  by decide +kernel

theorem witness_TransmitPaths_1 :
    (let s : State := { (((State.reset.set (HDR.ACT (txPage 3)) 1)).set (TXPATH.FIRST_SAMPLE 3) 1).setPath 3 (fun p => { p with drv := true }) with pwr := { vaux := true, vrf := true, isolated := false } }; let n : Nat := 3; n < 64 ∧ s.drv n ≠ 0) ∧
    (let s : State := { ((State.reset.set (HDR.ACT 0x0AC) 1).set CPLL.READY 1).set (Loop.READY 1) 1 with pwr := { vaux := true, vrf := true, isolated := false } }; s.drvOf 64 ≠ 0) ∧
    (let s : State := State.reset.setTx 3 (fun r => { r with cell := some (1, 2, 3, 4) }); let n : Nat := 3; let mi : Nat := 1; let mq : Nat := 2; let si : Nat := 3; let sq : Nat := 4; n < 64 ∧ (s.tx n).cell = some (mi, mq, si, sq) ∧ s.cellPermitted n = true ∧ s.tb % 2 = 0 ∧ s.onEdge = true) ∧
    (let s : State := { State.reset.setTx 3 (fun r => { r with range := some (0, 2, false) }) with ao := 96 }; let n : Nat := 3; let b : Nat := 0; let r : Nat := 2; n < 64 ∧ (s.tx n).range = some (b, r, false) ∧ b + 96 ≤ s.ao ∧ s.onEdge = true) ∧
    (let s : State := { State.reset.setTx 3 (fun r => { r with range := some (0, 2, true) }) with ao := 160 }; let n : Nat := 3; let b : Nat := 0; let r : Nat := 2; n < 64 ∧ (s.tx n).range = some (b, r, true) ∧ b + 160 ≤ s.ao ∧ s.onEdge = true ∧ (s.tx n).rangeQ = [] ∧ s.txs.length = 65) ∧
    (let s : State := State.reset; let c : Cls := .mgmt; let a : Nat := 0; let n : Nat := 64; let v : Nat := 1; n ≤ 64 ∧ s.accepts c (muteLoc n) v = true ∧ trunc 1 v = 1) ∧
    (let s : State := State.reset.set (TXPATH.TX_MUTE 3) 1; let c : Cls := .mgmt; let a : Nat := 0; let n : Nat := 3; let v : Nat := 0; n < 64 ∧ (s.ripe c (muteLoc n)).mode ≠ 5 ∧ s.accepts c (muteLoc n) v = true ∧ trunc 1 v = 0 ∧ (s.ripe c (muteLoc n)).on (muteLoc n) = true) ∧
    (let s : State := (State.reset.set (TXPATH.TX_MUTE 3) 1).set DEVICE.MODE 5; let c : Cls := .mgmt; let a : Nat := 0; let n : Nat := 3; let v : Nat := 0; n < 64 ∧ (s.ripe c (muteLoc n)).mode = 5 ∧ s.accepts c (muteLoc n) v = true ∧ trunc 1 v = 0 ∧ (s.ripe c (muteLoc n)).on (muteLoc n) = true) ∧
    (let s : State := State.reset.set CAL0.TX_MUTE 1; let c : Cls := .mgmt; let a : Nat := 0; let v : Nat := 0; (s.ripe c (muteLoc 64)).mode ≠ 5 ∧ s.accepts c (muteLoc 64) v = true ∧ trunc 1 v = 0 ∧ (s.ripe c (muteLoc 64)).on (muteLoc 64) = true) ∧
    (let s : State := (State.reset.set CAL0.TX_MUTE 1).set DEVICE.MODE 5; let c : Cls := .mgmt; let a : Nat := 0; let v : Nat := 0; (s.ripe c (muteLoc 64)).mode = 5 ∧ s.accepts c (muteLoc 64) v = true ∧ trunc 1 v = 0 ∧ (s.ripe c (muteLoc 64)).on (muteLoc 64) = true) ∧
    (let s : State := State.reset; s.pwr.vaux = true ∧ s.pwr.kill = false) ∧
    (let s : State := ({ State.reset with pwr := { State.reset.pwr with kill := true } } : State); s.pwr.kill = true ∧ bitOf s.pwr.vio 3 = true) :=
  by and_intros <;> decide +kernel

theorem witness_TransmitPaths_2 :
    (let s : State := (({ (((((State.reset.set (HDR.ACT (txPage 3)) 1).set CPLL.READY 1).set (LO.READY 0) 1).set (TXPATH.FIRST_SAMPLE 3) 1)).setPath 3 (fun p => { p with drv := true }) with pwr := { vaux := true, vrf := true, isolated := false } } : State).set (TXPATH.TX_MUTE 3) 0).set (TXPATH.CMPL_MUTE 3) 0; let n : Nat := 3; let b : Bool := true; n < 64 ∧ s.drv n = 2 ∧ s.on (TXPATH.CMPL_MUTE n) = false ∧ s.get AGEING.CMPL_RETIRE ≠ 0 ∧ s.get AGEING.CMPL_RETIRE ≠ 1 ∧ s.cal.cmpl = []) ∧
    (let s : State := (({ (((((State.reset.set (HDR.ACT (txPage 3)) 1).set CPLL.READY 1).set (LO.READY 0) 1).set (TXPATH.FIRST_SAMPLE 3) 1)).setPath 3 (fun p => { p with drv := true }) with pwr := { vaux := true, vrf := true, isolated := false } } : State).set (TXPATH.TX_MUTE 3) 0).set (TXPATH.CMPL_MUTE 3) 1; let n : Nat := 3; let b : Bool := true; n < 64 ∧ s.drv n = 2 ∧ s.on (TXPATH.CMPL_MUTE n) = true) ∧
    (let s : State := ({ ((State.reset.set (HDR.ACT 0x0AC) 1).set CPLL.READY 1).set (Loop.READY 1) 1 with pwr := { vaux := true, vrf := true, isolated := false } }).set CAL0.TX_MUTE 0; let b : Bool := true; s.calDrv = 2) ∧
    (let s : State := (State.reset.set (TXPATH.RETIRE 3) 1).set DEVICE.MODE 5; let c : Cls := .mgmt; let a : Nat := 0; let n : Nat := 3; let v : Nat := 0; n < 64 ∧ s.accepts c (TXPATH.RETIRE n) v = true ∧ trunc 1 v = 0 ∧ (s.ripe c (TXPATH.RETIRE n)).on (TXPATH.RETIRE n) = true ∧ (s.ripe c (TXPATH.RETIRE n)).mode = 5) ∧
    (let s : State := State.reset; let c : Cls := .mgmt; let a : Nat := 0; let n : Nat := 3; let v : Nat := 1; n < 64 ∧ s.accepts c (TXPATH.RETIRE n) v = true ∧ trunc 1 v = 1 ∧ (s.ripe c (TXPATH.RETIRE n)).get (TXPATH.RETIRE n) = 0) :=
  by and_intros <;> decide +kernel

theorem witness_GateBias :
    (let s : State := State.reset; let c : Cls := .mgmt; let a : Nat := 0; let k : Nat := 3; let d : Nat := 2 ^ 16 + 5; k < 16 ∧ s.takes c (AUXDAC.FORCE_SAFE k) (trunc 32 d) = true ∧ s.takes c (AUXDAC.KILL_SAFE k) (trunc 32 d) = true ∧ s.takes c (AUXDAC.SLEW_RATE k) (trunc 32 d) = true ∧ s.takes c (AUXDAC.RANGE k) (trunc 32 d) = true ∧ s.takes c (AUXDAC.CODE k) (trunc 32 d) = true ∧ ((s.ripe c (AUXDAC.FORCE_SAFE k) 5).fieldHeld (AUXDAC.FORCE_SAFE k)).isNone = true) ∧
    (let s : State := State.reset; let c : Cls := .mgmt; let a : Nat := 0; let k : Nat := 3; let d : Nat := 2 ^ 31 + 5; k < 16 ∧ s.takes c (AUXDAC.FORCE_SAFE k) (trunc 32 d) = true ∧ s.takes c (AUXDAC.KILL_SAFE k) (trunc 32 d) = true ∧ s.takes c (AUXDAC.SLEW_RATE k) (trunc 32 d) = true ∧ s.takes c (AUXDAC.RANGE k) (trunc 32 d) = true ∧ s.takes c (AUXDAC.CODE k) (trunc 32 d) = true ∧ ((s.ripe c (AUXDAC.FORCE_SAFE k) 5).fieldHeld (AUXDAC.FORCE_SAFE k)).isNone = true ∧ bits d 31 1 = 1) ∧
    (let s : State := { ((State.reset.set (AUXDAC.SLEWING 3) 1).set (AUXDAC.SLEW_RATE 3) 7).set (AUXDAC.CODE 3) 400 with ao := 10 ^ 6 }; let k : Nat := 3; k < 16 ∧ s.biasHeld k = false ∧ s.on (AUXDAC.SLEWING k) = true ∧ (s.bias.getD k {}).rangeAt = none ∧ (s.bias.getD k {}).lastUs + 100 ≤ s.uptimeUs ∧ s.get (AUXDAC.OUT_CODE k) + s.get (AUXDAC.SLEW_RATE k) < s.get (AUXDAC.CODE k) ∧ s.get (AUXDAC.SLEW_RATE k) ≠ 0) ∧
    (let s : State := { (((State.reset.set (AUXDAC.SLEWING 3) 1).set (AUXDAC.SLEW_RATE 3) 7).set (AUXDAC.CODE 3) 400).set (AUXDAC.OUT_CODE 3) 500 with ao := 10 ^ 6 }; let k : Nat := 3; k < 16 ∧ s.biasHeld k = false ∧ s.on (AUXDAC.SLEWING k) = true ∧ (s.bias.getD k {}).rangeAt = none ∧ (s.bias.getD k {}).lastUs + 100 ≤ s.uptimeUs ∧ s.get (AUXDAC.CODE k) ≤ s.get (AUXDAC.OUT_CODE k) - s.get (AUXDAC.SLEW_RATE k) ∧ s.get (AUXDAC.CODE k) < s.get (AUXDAC.OUT_CODE k) ∧ s.get (AUXDAC.SLEW_RATE k) ≠ 0 ∧ s.get (AUXDAC.CODE k) ≠ s.get (AUXDAC.OUT_CODE k) - s.get (AUXDAC.SLEW_RATE k)) ∧
    (let s : State := ({ (((State.reset.set (AUXDAC.RANGE 3) 1).set (AUXDAC.SLEW_RATE 3) 7).set (AUXDAC.CODE 3) 400).set (AUXDAC.OUT_CODE 3) 500 with ao := 10 ^ 7, bias := upd State.reset.bias 3 (fun b => { b with rangeAt := some 0 }) }); let k : Nat := 3; let w : Nat := 0; k < 16 ∧ (s.bias.getD k {}).rangeAt = some w ∧ w + 1000 ≤ s.uptimeUs ∧ s.biasHeld k = false ∧ s.get (AUXDAC.RANGE k) ≠ s.get (AUXDAC.RANGE_ACT k) ∧ s.get (AUXDAC.SLEW_RATE k) ≠ 0 ∧ nearestCode (s.get (AUXDAC.RANGE k) == 1) (s.get (AUXDAC.OUT_CODE k)) ≠ s.get (AUXDAC.CODE k) ∧ nearestCode (s.get (AUXDAC.RANGE k) == 1) (s.get (AUXDAC.OUT_CODE k)) < 4096 ∧ s.get (AUXDAC.RANGE k) < 2) :=
  by and_intros <;> decide +kernel

theorem witness_Beams :
    (let s : State := State.reset; let c : Cls := .mgmt; let a : Nat := 0; let d : Nat := 1; let set : Nat := 5; let data : Nat := 2 ^ 31 + 2 ^ 25 + 2 ^ 16 * 267 + 2 ^ 9 + 266; d < 2 ∧ set < 256 ∧ s.takes c (BEAMSET.BLK0 d set) (trunc 32 data) = true ∧ s.takes c (BEAMSET.BLK0_VALID d set) (trunc 32 data) = true ∧ s.takes c (BEAMSET.BLK1 d set) (trunc 32 data) = true ∧ s.takes c (BEAMSET.BLK1_VALID d set) (trunc 32 data) = true ∧ s.takes c (BEAMSET.SWAP_REQ d set) (trunc 32 data) = true) ∧
    (let s : State := State.reset.set (BEAMSET.BLK0_VALID 1 5) 0; let c : Cls := .mgmt; let a : Nat := 0; let d : Nat := 1; let set : Nat := 5; let data : Nat := 2 ^ 9 + 9; let b : Nat := 0; d < 2 ∧ set < 256 ∧ b < 2 ∧ data < 2 ^ 32 ∧ s.deaf = false ∧ (s.wordRefusal c (setPage d) (0x040 + 4 * set) data).isNone = true ∧ s.blkConflict d set b data = true ∧ (bits data (9 + 16 * b) 1 ≠ s.get (blkValid d set b) ∨ bits data (16 * b) 9 ≠ s.get (blkOf d set b))) ∧
    (let s : State := State.reset; let c : Cls := .mgmt; let a : Nat := 0x50000000 + 6 * 0x4000 + 4; let v : Nat := 77; let d : Nat := 0; let set : Nat := 6; let b : Nat := 0; let o : Nat := 4; let p : Nat := weightBase + 12 * 6144 + 4; let m : Nat := 4; let i : Nat := 9216; s.deaf = false ∧ windowParts a = (d, set, b, o) ∧ s.windowAddr a = some p ∧ s.windowRefusal c a true = none ∧ s.bankRefusal d set b = none ∧ codeWordOf p = some (m, i) ∧ s.isolated m = false ∧ s.eccOf m i = 0) ∧
    (let s : State := State.reset; let c : Cls := .mgmt; let a : Nat := 0x50001800; let v : Nat := 77; s.deaf = false ∧ s.windowAddr a = none) ∧
    (let s : State := State.reset.set (BEAM.FILL_BLK 0) 12; let c : Cls := .mgmt; s.triggered c (BEAM.FILL_GO 0) (s.get (BEAM.FILL_BLK 0)) = true) ∧
    (let s : State := State.reset.set (BEAM.FILL_BUSY 0) 1; s.on (BEAM.FILL_BUSY 0) = true) ∧
    (let s : State := State.reset; let d : Nat := 1; d < 2 ∧ (s.beams.getD d {}).redo = false) ∧
    (let s : State := ((({ State.reset with beams := [{ redo := true }, {}] } : State).set (BEAMSET.BLK0 0 0) 9).set (BEAMSET.BLK0_VALID 0 0) 1).set (BEAM.RENORM_EN 0) 0; let d : Nat := 0; let blk : Nat := 9; d < 2 ∧ (s.beams.getD d {}).redo = true ∧ s.block d (s.get (BEAM.SET_ACT d)) (s.bankInForce d) = some blk ∧ s.on (BEAM.RENORM_EN d) = false) ∧
    (let s : State := ((State.reset.set (BEAMSET.BLK0 0 0) 9).set (BEAMSET.BLK0_VALID 0 0) 1).set (BEAM.NLAYERS 0) 4; let d : Nat := 0; let l : Nat := 3; let k : Nat := 5; let blk : Nat := 9; d < 2 ∧ l < s.get (BEAM.NLAYERS d) ∧ k < 32 ∧ s.block d (s.get (BEAM.SET_ACT d)) (s.bankInForce d) = some blk ∧ s.wts.damaged.look (weightWord blk l k) = 0) ∧
    (let s : State := State.reset; s.tb % (2 ^ 14 * rateL s.dlRate) = 0) ∧
    (let s : State := { State.reset with strm := { State.reset.strm with attNext := some (0, [3, 4], [5]) } }; let e : Nat := 0; let ps : List Nat := [3, 4]; let ls : List Nat := [5]; s.strm.attNext = some (e, ps, ls) ∧ e ≤ s.tb) :=
  by and_intros <;> decide +kernel

theorem witness_DpdLap :
    (let s : State := (State.reset.set (DPD1.DPD_EN 3) 1).set (HDR.ACT 0x0A4) 1; let p : Nat := 3; p < 64 ∧ s.cellPermitted p = true ∧ s.on (DPD1.DPD_EN p) = true ∧ s.act 0x0A4 = true ∧ s.get (DPD1.DPD_EN_ACT p) = 0 ∧ s.eccAny 5 = false) ∧
    (let s : State := State.reset.set (DPD1.DPD_EN_ACT 3) 1; let p : Nat := 3; p < 64 ∧ s.cellPermitted p = true ∧ (s.on (DPD1.DPD_EN p) = false ∨ s.act 0x0A4 = false) ∧ s.get (DPD1.DPD_EN_ACT p) = 1 ∧ s.get (DPD1.PHASE p) = 0) ∧
    (let s : State := (((((((State.reset.set DEVICE.MODE 5).set DPD0.ADAPT_EN 1).set DPD0.CORE_MASK 1).set (HDR.ACT 0x0A4) 1).set DPD0.LAP_MASK_LO 8).set (DPD1.DPD_EN_ACT 3) 1).set CPLL.READY 1).set (LO.READY 0) 1; let c : Nat := 0; let p : Nat := 3; s.dpdMayAssign c = true ∧ s.dpdNext = some p ∧ s.dpdClocked p = true) ∧
    (let s : State := State.reset; let c : Nat := 0; (s.dpdJob c = none ∨ s.on DPD0.ADAPT_EN = false ∨ s.mode ≠ 5 ∨ s.tb % 1024 ≠ 0)) ∧
    (let s : State := (({ ((((((((((((((((((State.reset.set DEVICE.MODE 5).set DPD0.ADAPT_EN 1).set DPD0.CAP_LEN 0).set DPD0.CAP_PORT_REF 0).set DPD0.CAP_PORT_OBS 1).set (HDR.ACT (txPage 3)) 1).set (HDR.ACT 0x0E8) 1).set (HDR.ACT 0x0E9) 1).set CPLL.READY 1).set (LO.READY 0) 1).set (TXPATH.FIRST_SAMPLE 3) 1).set (TXPATH.TX_MUTE 3) 0).set (CP.SIZE 0) 16).set (CP.SIZE 1) 16).set (CP.BASE 1) 16).set (OCTET.PAT_EN 0) 0).set (CP.BUF_MODE 0) 0).setPath 3 (fun p => { p with drv := true, st := .obs, win := some 100000 })) with tb := 1024, pwr := { vaux := true, vrf := true, isolated := false } } : State)).setDpdJob 0 (some { path := 3, at_ := 0 }); let c : Nat := 0; let j : DpdJob := { path := 3, at_ := 0 }; c < 8 ∧ s.dpdJob c = some j ∧ s.on DPD0.ADAPT_EN = true ∧ s.mode = 5 ∧ s.tb % 1024 = 0 ∧ j.at_ + 256 ≤ s.tb ∧ j.cap = none ∧ (s.path j.path).st = .obs ∧ s.drv j.path = 2 ∧ s.staysObs j.path (s.tb + s.dpdN + s.lagNom j.path + 64) = true ∧ s.dpdClocked j.path = true ∧ s.on (CP.ARMED (s.get DPD0.CAP_PORT_REF)) = false ∧ s.on (CP.ARMED (s.get DPD0.CAP_PORT_OBS)) = false ∧ s.get DPD0.CAP_PORT_REF ≠ s.get DPD0.CAP_PORT_OBS ∧ s.dpd.jobs.length = 8 ∧ s.caps.length = 8 ∧ s.act (capPage (s.get DPD0.CAP_PORT_REF)) = true ∧ s.act (capPage (s.get DPD0.CAP_PORT_OBS)) = true ∧ ((s.dpdPort (s.get DPD0.CAP_PORT_REF) 2 j.path s.tb (s.tb + s.dpdN)).dpdPort (s.get DPD0.CAP_PORT_OBS) 1 j.path (s.tb + s.lagNom j.path - 64) (s.tb + s.lagNom j.path + s.dpdN + 64)).on (CP.ARMED (s.get DPD0.CAP_PORT_REF)) = true ∧ ((s.dpdPort (s.get DPD0.CAP_PORT_REF) 2 j.path s.tb (s.tb + s.dpdN)).dpdPort (s.get DPD0.CAP_PORT_OBS) 1 j.path (s.tb + s.lagNom j.path - 64) (s.tb + s.lagNom j.path + s.dpdN + 64)).on (CP.ARMED (s.get DPD0.CAP_PORT_OBS)) = true) ∧
    (let s : State := ((({ State.reset with tb := 100000 } : State).setDpdJob 0 (some { path := 3, at_ := 0, cap := some 0 })).setCap 6 (fun c => { c with seg := some { no := 0, hdr := 0, pos := 0, trig := 0, frac := 0, cause := 8, forced := false, first := 0, lo := 0, stop := 0, preAct := 0, nsamp := State.reset.dpdN } })).setCap 7 (fun c => { c with seg := some { no := 0, hdr := 0, pos := 0, trig := 0, frac := 0, cause := 8, forced := false, first := 0, lo := 0, stop := 0, preAct := 0, nsamp := (State.reset.dpdN + 128) } }); let c : Nat := 0; let j : DpdJob := { path := 3, at_ := 0, cap := some 0 }; let w : Nat := 0; c < 8 ∧ s.dpdJob c = some j ∧ j.cap = some w ∧ j.done = false ∧ w + s.lagNom j.path + s.dpdN + 64 ≤ s.tb ∧ s.segWhole (s.get DPD0.CAP_PORT_REF) (w + s.dpdN) s.dpdN = true ∧ s.segWhole (s.get DPD0.CAP_PORT_OBS) (w + s.lagNom j.path + s.dpdN + 64) (s.dpdN + 128) = true ∧ s.dpd.jobs.length = 8 ∧ j.path < 64) ∧
    (let s : State := ({ State.reset with tb := 100000 } : State).setDpdJob 0 (some { path := 3, at_ := 0, cap := some 0 }); let c : Nat := 0; let j : DpdJob := { path := 3, at_ := 0, cap := some 0 }; let w : Nat := 0; c < 8 ∧ s.dpdJob c = some j ∧ j.cap = some w ∧ j.done = false ∧ w + s.lagNom j.path + s.dpdN + 64 ≤ s.tb ∧ (s.segWhole (s.get DPD0.CAP_PORT_REF) (w + s.dpdN) s.dpdN = false ∨ s.segWhole (s.get DPD0.CAP_PORT_OBS) (w + s.lagNom j.path + s.dpdN + 64) (s.dpdN + 128) = false)) ∧
    (let s : State := State.reset.setDpdJob 0 (some { path := 3, at_ := 0 }); let c : Cls := .mgmt; let k : Nat := 0; let j : DpdJob := { path := 3, at_ := 0 }; k < 8 ∧ s.triggered c (DPD2.JOB_RELEASE k) = true ∧ (s.ripe c (DPD2.JOB_RELEASE k)).dpdJob k = some j) :=
  by and_intros <;> decide +kernel

theorem witness_DpdUpdates_1 :
    (let s : State := { State.reset with mgmtDown := true }; let c : Cls := .mgmt; let p : Nat := 3; p < 64 ∧ s.triggered c (DPD1.UPD_REQ p) = true ∧ (s.ripe c (DPD1.UPD_REQ p)).mgmtDown = true) ∧
    (let s : State := State.reset.setWord (modelAddr 3 1 0) 1; let c : Cls := .mgmt; let p : Nat := 3; let r : Nat := 3; p < 64 ∧ s.triggered c (DPD1.UPD_REQ p) = true ∧ (s.ripe c (DPD1.UPD_REQ p)).mgmtDown = false ∧ (s.ripe c (DPD1.UPD_REQ p)).updCheck p = some r) ∧
    (let s : State := ((State.reset.set DPD0.GUARD_EN 0).set CPLL.READY 1).set (LO.READY 0) 1; let c : Cls := .mgmt; let p : Nat := 3; p < 64 ∧ s.triggered c (DPD1.UPD_REQ p) = true ∧ (s.ripe c (DPD1.UPD_REQ p)).mgmtDown = false ∧ (s.ripe c (DPD1.UPD_REQ p)).updCheck p = none ∧ (s.ripe c (DPD1.UPD_REQ p)).on DPD0.GUARD_EN = false ∧ (s.ripe c (DPD1.UPD_REQ p)).dpdClocked p = true ∧ (s.ripe c (DPD1.UPD_REQ p)).eccAny 5 = false) ∧
    (let s : State := State.reset.set DPD0.GUARD_EN 0; let c : Cls := .mgmt; let p : Nat := 3; p < 64 ∧ s.triggered c (DPD1.UPD_REQ p) = true ∧ (s.ripe c (DPD1.UPD_REQ p)).mgmtDown = false ∧ (s.ripe c (DPD1.UPD_REQ p)).updCheck p = none ∧ (s.ripe c (DPD1.UPD_REQ p)).on DPD0.GUARD_EN = false ∧ (s.ripe c (DPD1.UPD_REQ p)).dpdClocked p = false) ∧
    (let s : State := State.reset; let c : Cls := .mgmt; let p : Nat := 3; p < 64 ∧ s.triggered c (DPD1.UPD_REQ p) = true ∧ (s.ripe c (DPD1.UPD_REQ p)).mgmtDown = false ∧ (s.ripe c (DPD1.UPD_REQ p)).updCheck p = none ∧ (s.ripe c (DPD1.UPD_REQ p)).on DPD0.GUARD_EN = true) ∧
    (let s : State := (((State.reset.set (DPD1.PHASE 3) 1).set CPLL.READY 1).set (LO.READY 0) 1).setDpdPath 3 (fun g => { g with n := 100 }); let p : Nat := 3; p < 64 ∧ s.get (DPD1.PHASE p) = 1 ∧ (s.dpdPath p).bare = false ∧ s.guardFull p = true ∧ s.mgmtDown = false ∧ s.dpdClocked p = true ∧ s.eccAny 5 = false) ∧
    (let s : State := (State.reset.set (DPD1.PHASE 3) 2).setDpdPath 3 (fun g => { g with n := 100 }); let p : Nat := 3; p < 64 ∧ s.get (DPD1.PHASE p) = 2 ∧ s.guardFull p = true ∧ diverged (s.get DPD0.GUARD_MARGIN) (s.dpdPath p).c0 (s.dpdPath p).a0 (s.dpdPath p).c (s.dpdPath p).a = false) ∧
    (let s : State := (State.reset.set (DPD1.PHASE 3) 2).setDpdPath 3 (fun g => { g with n := 100, c0 := 1000000, a0 := 1, c := 1, a := 10000 }); let p : Nat := 3; p < 64 ∧ s.get (DPD1.PHASE p) = 2 ∧ s.guardFull p = true ∧ diverged (s.get DPD0.GUARD_MARGIN) (s.dpdPath p).c0 (s.dpdPath p).a0 (s.dpdPath p).c (s.dpdPath p).a = true) ∧
    (let s : State := { State.reset.set (DPD1.PHASE 3) 1 with ao := 2 ^ 50 }; let p : Nat := 3; p < 64 ∧ s.get (DPD1.PHASE p) = 1 ∧ (s.dpdPath p).bare = false ∧ (s.dpdPath p).paused = none ∧ s.guardFull p = false ∧ (s.dpdPath p).timer + max 1 (s.get DPD0.GUARD_TO) * 2 ^ 20 ≤ s.ao) ∧
    (let s : State := { State.reset.set (DPD1.PHASE 3) 2 with ao := 2 ^ 50 }; let p : Nat := 3; p < 64 ∧ s.get (DPD1.PHASE p) = 2 ∧ (s.dpdPath p).bare = false ∧ (s.dpdPath p).paused = none ∧ s.guardFull p = false ∧ (s.dpdPath p).timer + max 1 (s.get DPD0.GUARD_TO) * 2 ^ 20 ≤ s.ao) ∧
    (let s : State := State.reset; let c : Cls := .mgmt; let a : Nat := modelAddr 3 1 0x100; let v : Nat := 77; let k : Nat := 0xFFFFFF; let m : Nat := 5; let i : Nat := 928; s.deaf = false ∧ s.modelRefusal c a = none ∧ modelMask (a % 0x400) = some k ∧ codeWordOf a = some (m, i) ∧ s.isolated m = false ∧ s.eccOf m i = 0) ∧
    (let s : State := State.reset; let c : Cls := .mgmt; let a : Nat := modelAddr 3 0 0x100; let v : Nat := 77; let r : Nat := stLOCKED; s.deaf = false ∧ s.modelRefusal c a = some r) :=
  by and_intros <;> decide +kernel

theorem witness_DpdUpdates_2 :
    (let s : State := State.reset.set (DPD1.DPD_EN_ACT 3) 1; let p : Nat := 3; let w : Nat := 5; p < 64 ∧ w < 128 ∧ s.on (DPD1.DPD_EN_ACT p) = true) :=
  by decide +kernel

theorem witness_Slots :
    (let s : State := { State.reset with tbRun := true }; let g : Nat := 2; g < 8 ∧ s.octs.length = 8 ∧ s.tbRun = true ∧ s.isBoundary s.tb = true ∧ s.mode ≠ 5 ∧ (octPaths g).all (fun n => !(s.path n).drv && (s.path n).wdrTo.isNone && !(s.path n).retTx && !(s.path n).retRx) = true) ∧
    (let s : State := { State.reset.set DEVICE.MODE 5 with tbRun := true }; let g : Nat := 2; g < 8 ∧ s.tbRun = true ∧ s.isBoundary s.tb = true ∧ s.mode = 5) ∧
    (let s : State := { State.reset with tbRun := true, tb := 1 }; let g : Nat := 2; s.tbRun = true ∧ s.isBoundary s.tb = false ∧ s.mode ≠ 5) ∧
    (let s : State := { (State.reset.set (HDR.ACT (txPage 3)) 1).setPath 3 (fun p => { p with st := .turn, tgt := .tx }) with ao := 640 }; let n : Nat := 3; n < 64 ∧ (s.path n).st = .turn ∧ (s.path n).drvDone = false ∧ (s.path n).t1 + 640 ≤ s.ao ∧ s.act (txPage n) = true ∧ (s.path n).tgt.carries = true) ∧
    (let s : State := { State.reset.setPath 3 (fun p => { p with st := .turn, tgt := .rx }) with ao := 640 }; let n : Nat := 3; n < 64 ∧ (s.path n).st = .turn ∧ (s.path n).drvDone = false ∧ (s.path n).t1 + 640 ≤ s.ao ∧ (s.act (txPage n) = false ∨ (s.path n).tgt.carries = false)) ∧
    (let s : State := { State.reset.setPath 3 (fun p => { p with st := .turn, tgt := .rx, drvDone := true }) with ao := 1280 }; let n : Nat := 3; n < 64 ∧ s.paths.length = 64 ∧ (s.path n).st = .turn ∧ (s.path n).drvDone = true ∧ (s.path n).t1 + 1280 ≤ s.ao ∧ (s.path n).tgt = .rx) ∧
    (let s : State := { State.reset.setPath 3 (fun p => { p with st := .turn, tgt := .off, drvDone := true }) with ao := 1280 }; let n : Nat := 3; n < 64 ∧ s.paths.length = 64 ∧ (s.path n).st = .turn ∧ (s.path n).drvDone = true ∧ (s.path n).t1 + 1280 ≤ s.ao ∧ (s.path n).tgt = .tx ∨ (s.path n).tgt = .off) ∧
    (let s : State := State.reset; let g : Nat := 3; s.onEdge = true) :=
  by and_intros <;> decide +kernel

theorem witness_TimelineQueue_1 :
    (let s : State := State.reset; let c : Cls := .mgmt; let act : Nat := 2 ^ 28 + 1; s.deaf = false ∧ (s.wordRefusal c 0x0A8 0x054 (trunc 32 act)).isNone = true ∧ (s.partRefusal c (trunc 32 act) TIMELINE0.ENQ_CODE).isNone = true) ∧
    (let s : State := State.reset.setOct 0 (fun o => { o with queue := List.replicate 1024 { id := 0, cls := .mgmt, t := 0, code := 1, st := 0, ret := 0, range := 0, mask := 0, arg := 0 } }); let c : Cls := .mgmt; let act : Nat := 2 ^ 28 + 1; s.deaf = false ∧ (s.wordRefusal c 0x0A8 0x054 (trunc 32 act)).isNone = true ∧ s.partRefusal c (trunc 32 act) TIMELINE0.ENQ_CODE = some stPENDING) ∧
    (let s : State := State.reset; let c : Cls := .mgmt; let g : Nat := 2; g < 8 ∧ s.triggered c (TIMELINE1.FLUSH g) = true) ∧
    (let s : State := { ((State.reset.set DEVICE.MODE 5)).setOct 2 (fun o => { o with queue := [{ id := 0, cls := .mgmt, t := 0, code := 1, st := 1, ret := 0, range := 0, mask := 1, arg := 5 }] }) with tbRun := true }; let g : Nat := 2; let e : QEntry := { id := 0, cls := .mgmt, t := 0, code := 1, st := 1, ret := 0, range := 0, mask := 1, arg := 5 }; g < 8 ∧ s.dueEntry g 1 = some e ∧ ((entryWords g e).all (fun i => s.eccOf 7 i == 0) && !s.isolated 7) = true ∧ s.malformed e = false ∧ actPermitted e s.mode = true ∧ s.tb ≤ e.t ∧ e.code = 1 ∧ 0 < e.arg % 2 ^ 24) ∧
    (let s : State := { ((State.reset.set DEVICE.MODE 6)).setOct 2 (fun o => { o with queue := [{ id := 0, cls := .mgmt, t := 0, code := 2, st := 1, ret := 0, range := 0, mask := 1, arg := 0 }] }) with tbRun := true }; let g : Nat := 2; let e : QEntry := { id := 0, cls := .mgmt, t := 0, code := 2, st := 1, ret := 0, range := 0, mask := 1, arg := 0 }; g < 8 ∧ s.dueEntry g 2 = some e ∧ ((entryWords g e).all (fun i => s.eccOf 7 i == 0) && !s.isolated 7) = true ∧ s.malformed e = false ∧ actPermitted e s.mode = true ∧ s.tb ≤ e.t ∧ e.code = 2) ∧
    (let s : State := { ((State.reset.set DEVICE.MODE 6)).setOct 2 (fun o => { o with queue := [{ id := 0, cls := .mgmt, t := 0, code := 3, st := 1, ret := 0, range := 0, mask := 1, arg := 0 }] }) with tbRun := true }; let g : Nat := 2; let e : QEntry := { id := 0, cls := .mgmt, t := 0, code := 3, st := 1, ret := 0, range := 0, mask := 1, arg := 0 }; g < 8 ∧ s.dueEntry g 3 = some e ∧ ((entryWords g e).all (fun i => s.eccOf 7 i == 0) && !s.isolated 7) = true ∧ s.malformed e = false ∧ actPermitted e s.mode = true ∧ s.tb ≤ e.t ∧ e.code = 3) ∧
    (let s : State := { ((State.reset.set DEVICE.MODE 5)).setOct 2 (fun o => { o with queue := [{ id := 0, cls := .mgmt, t := 0, code := 4, st := 1, ret := 0, range := 0, mask := 1, arg := 16 }] }) with tbRun := true }; let g : Nat := 2; let e : QEntry := { id := 0, cls := .mgmt, t := 0, code := 4, st := 1, ret := 0, range := 0, mask := 1, arg := 16 }; g < 8 ∧ s.dueEntry g 4 = some e ∧ ((entryWords g e).all (fun i => s.eccOf 7 i == 0) && !s.isolated 7) = true ∧ s.malformed e = false ∧ e.code = 4 ∧ s.on (HDR.PENDING (e.arg % 512)) = false) ∧
    (let s : State := { ((State.reset.set DEVICE.MODE 5).set (HDR.PENDING 16) 1).setOct 2 (fun o => { o with queue := [{ id := 0, cls := .mgmt, t := 0, code := 4, st := 1, ret := 0, range := 0, mask := 1, arg := 16 }] }) with tbRun := true }; let g : Nat := 2; let e : QEntry := { id := 0, cls := .mgmt, t := 0, code := 4, st := 1, ret := 0, range := 0, mask := 1, arg := 16 }; g < 8 ∧ s.dueEntry g 4 = some e ∧ ((entryWords g e).all (fun i => s.eccOf 7 i == 0) && !s.isolated 7) = true ∧ s.malformed e = false ∧ e.code = 4 ∧ s.on (HDR.PENDING (e.arg % 512)) = true) ∧
    (let s : State := { ((State.reset.set DEVICE.MODE 5)).setOct 2 (fun o => { o with queue := [{ id := 0, cls := .mgmt, t := 0, code := 5, st := 1, ret := 0, range := 0, mask := 1, arg := 0 }] }) with tbRun := true }; let g : Nat := 2; let e : QEntry := { id := 0, cls := .mgmt, t := 0, code := 5, st := 1, ret := 0, range := 0, mask := 1, arg := 0 }; g < 8 ∧ s.dueEntry g 5 = some e ∧ ((entryWords g e).all (fun i => s.eccOf 7 i == 0) && !s.isolated 7) = true ∧ s.malformed e = false ∧ actPermitted e s.mode = true ∧ s.tb ≤ e.t ∧ e.code = 5) ∧
    (let s : State := { ((State.reset.set DEVICE.MODE 5)).setOct 2 (fun o => { o with queue := [{ id := 0, cls := .mgmt, t := 0, code := 6, st := 1, ret := 0, range := 0, mask := 1, arg := 3 }] }) with tbRun := true }; let g : Nat := 2; let e : QEntry := { id := 0, cls := .mgmt, t := 0, code := 6, st := 1, ret := 0, range := 0, mask := 1, arg := 3 }; g < 8 ∧ s.dueEntry g 6 = some e ∧ ((entryWords g e).all (fun i => s.eccOf 7 i == 0) && !s.isolated 7) = true ∧ s.malformed e = false ∧ actPermitted e s.mode = true ∧ s.tb ≤ e.t ∧ e.code = 6) ∧
    (let s : State := { ((State.reset.set DEVICE.MODE 5)).setOct 2 (fun o => { o with queue := [{ id := 0, cls := .mgmt, t := 0, code := 7, st := 1, ret := 0, range := 0, mask := 1, arg := 3 }] }) with tbRun := true }; let g : Nat := 2; let e : QEntry := { id := 0, cls := .mgmt, t := 0, code := 7, st := 1, ret := 0, range := 0, mask := 1, arg := 3 }; g < 8 ∧ s.dueEntry g 7 = some e ∧ ((entryWords g e).all (fun i => s.eccOf 7 i == 0) && !s.isolated 7) = true ∧ s.malformed e = false ∧ actPermitted e s.mode = true ∧ s.tb ≤ e.t ∧ e.code = 7) ∧
    (let s : State := { (State.reset.set DEVICE.MODE 6).setOct 2 (fun o => { o with queue := [{ id := 0, cls := .mgmt, t := 0, code := 2, st := 3, ret := 0, range := 0, mask := 1, arg := 0 }] }) with tbRun := true }; let g : Nat := 2; let e : QEntry := { id := 0, cls := .mgmt, t := 0, code := 2, st := 3, ret := 0, range := 0, mask := 1, arg := 0 }; g < 8 ∧ s.dueEntry g 2 = some e ∧ ((entryWords g e).all (fun i => s.eccOf 7 i == 0) && !s.isolated 7) = true ∧ s.malformed e = true ∧ (e.code = 4 ∨ s.tb ≤ e.t)) :=
  by and_intros <;> decide +kernel

theorem witness_TimelineQueue_2 :
    (let s : State := { (State.reset.set DEVICE.MODE 5).setOct 2 (fun o => { o with queue := [{ id := 0, cls := .mgmt, t := 0, code := 2, st := 1, ret := 0, range := 0, mask := 1, arg := 0 }] }) with tbRun := true }; let g : Nat := 2; let e : QEntry := { id := 0, cls := .mgmt, t := 0, code := 2, st := 1, ret := 0, range := 0, mask := 1, arg := 0 }; g < 8 ∧ s.dueEntry g 2 = some e ∧ ((entryWords g e).all (fun i => s.eccOf 7 i == 0) && !s.isolated 7) = true ∧ s.malformed e = false ∧ e.code = 2 ∧ s.tb ≤ e.t ∧ actPermitted e s.mode = false) ∧
    (let s : State := { (State.reset.set DEVICE.MODE 5).setOct 2 (fun o => { o with queue := [{ id := 0, cls := .mgmt, t := 0, code := 1, st := 1, ret := 0, range := 0, mask := 1, arg := 0 }] }) with tbRun := true, tb := 1 }; let g : Nat := 2; let e : QEntry := { id := 0, cls := .mgmt, t := 0, code := 1, st := 1, ret := 0, range := 0, mask := 1, arg := 0 }; g < 8 ∧ s.dueEntry g 1 = some e ∧ ((entryWords g e).all (fun i => s.eccOf 7 i == 0) && !s.isolated 7) = true ∧ e.code ≠ 4 ∧ e.t < s.tb) ∧
    (let s : State := { ((State.reset.set DEVICE.MODE 5).setEcc 7 4097 0xFF).setOct 2 (fun o => { o with queue := [{ id := 0, cls := .mgmt, t := 0, code := 7, st := 1, ret := 0, range := 0, mask := 1, arg := 0 }] }) with tbRun := true }; let g : Nat := 2; let e : QEntry := { id := 0, cls := .mgmt, t := 0, code := 7, st := 1, ret := 0, range := 0, mask := 1, arg := 0 }; g < 8 ∧ s.dueEntry g 7 = some e ∧ (s.entryRead g e).1 = false) ∧
    (let s : State := State.reset.setPath 3 (fun p => { p with win := some 0 }); let n : Nat := 3; let e : Nat := 0; n < 64 ∧ (s.path n).win = some e ∧ e ≤ s.tb) ∧
    (let s : State := State.reset.setPath 3 (fun p => { p with shot := some (0, .rx) }); let n : Nat := 3; let e : Nat := 0; let q : PState := .rx; n < 64 ∧ (s.path n).shot = some (e, q) ∧ e ≤ s.tb) ∧
    (let s : State := { State.reset with tl := { trigEnd := some 0 } }; let e : Nat := 0; s.tl.trigEnd = some e ∧ e ≤ s.ao ∧ s.onEdge = true) :=
  by and_intros <;> decide +kernel

theorem witness_RffeAndSleep :
    (let s : State := { (State.reset.set (HDR.ACT (txPage 3)) 1).setPath 3 (fun p => { p with st := .turn, tgt := .tx, t1 := 0, left := .off }) with tb := 5000 }; let g : Nat := 0; let m : Nat := 0; let b : Bool := true; g < 8 ∧ s.trswChanges g m b = true ∧ m + 1280 ≤ s.tb + s.get (if b then OCTET.RFFE_TX_LEAD g else OCTET.RFFE_RX_LEAD g) ∧ (s.oct g).rffeFor ≠ some (m, b)) ∧
    (let s : State := State.reset.setRffe (fun x => { x with busy := [some 0, none, none, none], runs := [⟨3, 0, 0, true⟩] }); let b : Nat := 0; let d : Nat := 0; let e : Nat := 0; let p : Bool := false; let r : RffeRun := ⟨3, 0, 0, true⟩; b < 4 ∧ s.tl.rffe.busy.getD b none = some e ∧ e ≤ s.tb ∧ s.tl.rffe.runs = [r] ∧ r.started = true ∧ s.get (TIMELINE3.BUS (s.cmdIndex r.seq r.idx)) = b ∧ s.get (TIMELINE3.TYPE (s.cmdIndex r.seq r.idx)) ≠ 1 ∧ s.get (TIMELINE2.LEN r.seq) ≤ r.idx + 1) ∧
    (let s : State := (State.reset.setRffe (fun x => { x with busy := [some 0, none, none, none], runs := [⟨3, 0, 0, true⟩] })).set (TIMELINE3.TYPE 0) 1; let b : Nat := 0; let d : Nat := 77; let e : Nat := 0; let p : Bool := true; let r : RffeRun := ⟨3, 0, 0, true⟩; b < 4 ∧ s.tl.rffe.busy.getD b none = some e ∧ e ≤ s.tb ∧ s.tl.rffe.runs = [r] ∧ r.started = true ∧ s.get (TIMELINE3.BUS (s.cmdIndex r.seq r.idx)) = b ∧ s.get (TIMELINE3.TYPE (s.cmdIndex r.seq r.idx)) = 1 ∧ s.get (TIMELINE2.LEN r.seq) ≤ r.idx + 1) ∧
    (let s : State := State.reset.set LINK.DS_FORCE 1; let b : Bool := true; s.lanePwr b = 0 ∧ 2 ≤ s.laneWant b ∧ (b = false ∨ s.laneWant b ≠ 3)) ∧
    (let s : State := State.reset.set LINK.DS_FORCE 2; s.lanePwr true = 0 ∧ s.laneWant true = 3) ∧
    (let s : State := State.reset.setLanePwr true 3; let b : Bool := true; s.laneWant b = 0 ∧ 2 ≤ s.lanePwr b) ∧
    (let s : State := State.reset.setLanePwr true 1; let b : Bool := true; s.lanePwr b = 1 ∧ (s.lane b).wakeEnd ≤ s.tb) ∧
    (let s : State := State.reset.setLanePwr true 3; let b : Bool := true; 2 ≤ s.lanePwr b) ∧
    (let s : State := (({ State.reset with evtQ := [.status 1 0 0] } : State).setLanePwr false 3).set TIMELINE0.EVT_WAKE 1; 2 ≤ s.lanePwr false ∧ s.on TIMELINE0.EVT_WAKE = true ∧ s.evtQ ≠ []) ∧
    (let s : State := (State.reset.setLanePwr true 1).set (HDR.ACT 0x0B8) 1; s.lanePwr true = 1 ∧ s.tl.ds.wakeEnd ≤ s.tb ∧ (List.range 16).any (fun k => s.act (0x0B8 + k) && !s.on (DS.BLOCK_LOCK k)) = true) :=
  by and_intros <;> decide +kernel

theorem witness_Calibration_1 :
    (let s : State := State.reset; let d : Int := -5; s.cal.refAt = none ∧ d.natAbs ≤ 500) ∧
    (let s : State := State.reset; let d : Int := -501; s.cal.refAt = none ∧ 500 < d.natAbs) ∧
    (let s : State := ((((((State.reset.set DEVICE.MODE 5).set CAL0.BG_EN 1).set (HDR.ACT (rxPage 3)) 1).set (HDR.ACT (txPage 3)) 1).set CPLL.READY 1).set (LO.READY 0) 1).set CAL0.REF_OK 1; let k : Nat := 3; let p : Nat := 3; let r : Nat := 0; let o : Nat := 0; let a : Nat := 0x7FFF; let b : Nat := 0x3FFF8; let c : Nat := 3; let d : Nat := 2; (k = 3 ∨ k = 7) ∧ o % 4 = 0 ∧ selectionOk k [a, b, c, d] = true ∧ p < 64 ∧ s.calRunning k p = true ∧ s.calReason k p r = 0 ∧ s.on (HDR.PENDING (kindPage k p)) = false ∧ s.copying.look (kindPage k p) ≠ s.tb + 1 ∧ s.cal.fg = [] ∧ s.tb % 2 = 0) ∧
    (let s : State := (((((State.reset.set DEVICE.MODE 5).set CAL0.BG_EN 1).set (HDR.ACT (rxPage 3)) 1).set (HDR.ACT (txPage 3)) 1).set CPLL.READY 1).set (LO.READY 0) 1; let p : Nat := 3; let r : Nat := 0; let o : Nat := 0; let a : Nat := 5; let b : Nat := 6; p < 64 ∧ s.calRunning 4 p = true ∧ s.calReason 4 p r = 0 ∧ s.on (HDR.PENDING (kindPage 4 p)) = false ∧ s.copying.look (kindPage 4 p) ≠ s.tb + 1 ∧ s.cal.fg = [] ∧ s.tb % 2 = 0) ∧
    (let s : State := ((((((State.reset.set DEVICE.MODE 5).set CAL0.BG_EN 1).set (HDR.ACT (rxPage 3)) 1).set (HDR.ACT (txPage 3)) 1).set CPLL.READY 1).set (LO.READY 0) 1).set CPLL.READY 0; let k : Nat := 4; let p : Nat := 3; let r : Nat := 0; let o : Nat := 0; let v : List Nat := []; k < 8 ∧ k ≠ 3 ∧ k ≠ 7 ∧ p < 64 ∧ s.calRunning k p = true ∧ s.act (kindPage k p) = true ∧ s.calClocked p = false ∧ s.tb % 2 = 0) ∧
    (let s : State := { State.reset with cal := { State.reset.cal with trims := [⟨2, 3, [9]⟩] } }; let p : Nat := 3; let v : Nat := 9; p < 64 ∧ s.cal.trims = [⟨2, p, [v]⟩] ∧ s.tb % 2 = 0 ∧ s.compPermitted p = true) ∧
    (let s : State := { State.reset with cal := { State.reset.cal with trims := [⟨0, 3, [9, 8]⟩] } }; let p : Nat := 3; let a : Nat := 9; let b : Nat := 8; p < 64 ∧ s.cal.trims = [⟨0, p, [a, b]⟩] ∧ s.tb % 2 = 0 ∧ s.compPermitted p = true) ∧
    (let s : State := { State.reset with tb := 40960, clk := { State.reset.clk with loCal := [some 0, none] } }; let x : Nat := 0; let r : Nat := 0; let ph : List Nat := [1, 2, 3]; x < 2 ∧ s.clk.loCal.getD x none = some r ∧ r + 40960 ≤ s.tb) ∧
    (let s : State := State.reset; (s.mode ≠ 5 ∨ s.tb % 32768 ≠ 0)) ∧
    (let s : State := State.reset.set DEVICE.MODE 5; s.mode = 5 ∧ s.tb % 32768 = 0) ∧
    (let s : State := ({ ((((((((State.reset.set DEVICE.MODE 5).set CAL0.BG_EN 1).set (HDR.ACT (rxPage 3)) 1).set (HDR.ACT (txPage 3)) 1).set CPLL.READY 1).set (LO.READY 0) 1).set CAL0.REF_PATH 9).set CAL0.ARR_AUTO_TX 0) with cal := { State.reset.cal with arrDone := [(3, 300)] } } : State); let p : Nat := 3; let g : Nat := 2 ^ 33 + 5; let y : Nat := 2 ^ 18 + 7; p < 64 ∧ max 1 (s.get CAL0.AVG) ≤ s.cal.arrDone.look p ∧ s.calRunning 11 p = true ∧ s.calClocked p = true ∧ p ≠ s.get CAL0.REF_PATH ∧ s.on CAL0.ARR_AUTO_TX = false ∧ s.cal.fg = []) ∧
    (let s : State := ({ ((((((((State.reset.set DEVICE.MODE 5).set CAL0.BG_EN 1).set (HDR.ACT (rxPage 3)) 1).set (HDR.ACT (txPage 3)) 1).set CPLL.READY 1).set (LO.READY 0) 1).set CAL0.REF_PATH 3).set CAL0.ARR_AUTO_RX 0) with cal := { State.reset.cal with arrDone := [(131, 300)] } } : State); let p : Nat := 3; let g : Nat := 2 ^ 33 + 5; let y : Nat := 2 ^ 18 + 7; p < 64 ∧ max 1 (s.get CAL0.AVG) ≤ s.cal.arrDone.look (128 + p) ∧ s.calRunning 10 p = true ∧ s.calClocked p = true ∧ p = s.get CAL0.REF_PATH ∧ s.on CAL0.ARR_AUTO_RX = false ∧ s.cal.fg = []) :=
  by and_intros <;> decide +kernel

theorem witness_Calibration_2 :
    (let s : State := ((((((State.reset.set DEVICE.MODE 5).set CAL0.BG_EN 1).set (HDR.ACT (rxPage 3)) 1).set (HDR.ACT (txPage 3)) 1).set CPLL.READY 1).set (LO.READY 0) 1).set CAL0.ROLE 1; let d : Nat := 0; let q : Nat := 70; let g : Nat := 5; let y : Nat := 6; s.get CAL0.ROLE = 1 ∧ 64 ≤ q ∧ q < 256 ∧ s.calRunning 11 q = true) :=
  by decide +kernel

theorem witness_ForegroundCal :
    (let s : State := (allPaths.foldl (fun (s : State) n => s.set (HDR.ACT (rxPage n)) 1) (State.reset.set DEVICE.MODE 5)).set CAL0.FG_PATH_LO 5; let c : Cls := .mgmt; s.triggered c CAL0.FG_GO = true ∧ (s.ripe c CAL0.FG_GO).on CAL0.FG_BUSY = false ∧ (s.ripe c CAL0.FG_GO).mode = 5 ∧ allPaths.all (fun p => (s.ripe c CAL0.FG_GO).operational p) = true) ∧
    (let s : State := State.reset; let c : Cls := .mgmt; s.triggered c CAL0.FG_GO = true ∧ (s.ripe c CAL0.FG_GO).on CAL0.FG_BUSY = false ∧ (s.ripe c CAL0.FG_GO).mode ≠ 5 ∧ (s.ripe c CAL0.FG_GO).mode ≠ 6) ∧
    (let s : State := State.reset.set CAL0.FG_BUSY 1; let c : Cls := .mgmt; s.triggered c CAL0.FG_GO = true ∧ (s.ripe c CAL0.FG_GO).on CAL0.FG_BUSY = true) ∧
    (let s : State := State.reset.set CAL0.FG_BUSY 1; let c : Cls := .mgmt; s.triggered c CAL0.FG_ABORT = true ∧ (s.ripe c CAL0.FG_ABORT).on CAL0.FG_BUSY = true) ∧
    (let s : State := (State.reset.set CAL0.FG_BUSY 1).set DEVICE.MODE 5; s.on CAL0.FG_BUSY = true ∧ s.cal.fg.all (fun e => e.2 == 0) = true ∧ s.mode = 5) ∧
    (let s : State := State.reset.set (CAL0.INTERVAL 1) 5; let k : Nat := 1; let p : Nat := 3; p < 64 ∧ k < 12 ∧ k ≠ 2 ∧ k ≠ 6 ∧ s.calIsDue k p = true) ∧
    (let s : State := State.reset.set (CAL0.INTERVAL 2) 5; let p : Nat := 3; p < 64 ∧ s.calIsDue 2 p = true) :=
  by and_intros <;> decide +kernel

theorem witness_Lanes :
    (let s : State := State.reset.set (HDR.ACT 0x0B4) 1; let g : Nat := 0; g < 2 ∧ s.act (ckPage g) = true) ∧
    (let s : State := State.reset.set (HDR.ACT 0x0B6) 1; let k : Nat := 2; 2 ≤ k ∧ k < 4 ∧ s.act (ckPage k) = true ∧ s.awake false = true) ∧
    (let s : State := State.reset.set (HDR.ACT 0x0B4) 1; let k : Nat := 0; k < 2 ∧ s.act (ckPage k) = true ∧ s.awake true = true) ∧
    (let s : State := State.reset; let k : Nat := 0; let d : Int := -7; k < 2) ∧
    (let s : State := ((State.reset.set (HDR.ACT 0x0B4) 1).set (HDR.ACT 0x0BB) 1).set LPLL.READY 1; let n : Nat := 3; n < 16 ∧ s.act (dsPage n) = true ∧ s.act (ckPage (n / 8)) = true ∧ s.on LPLL.READY = true ∧ s.lanePwr true ≤ 1 ∧ s.on (DS.BLOCK_LOCK n) = false) ∧
    (let s : State := ((State.reset.set (DS.BLOCK_LOCK 3) 1).set (HDR.ACT 0x0BB) 1).set (DS.CHK_EN 3) 1; let n : Nat := 3; n < 16 ∧ s.act (dsPage n) = true ∧ s.awake true = true ∧ s.on (DS.BLOCK_LOCK n) = true ∧ s.on (DS.CHK_EN n) = true) ∧
    (let s : State := State.reset.set (HDR.ACT 0x0BB) 1; let n : Nat := 3; n < 16 ∧ s.act (dsPage n) = true ∧ s.awake true = true ∧ s.on (DS.BLOCK_LOCK n) = false ∧ s.on (DS.CHK_EN n) = false) ∧
    (let s : State := State.reset; let c : Cls := .mgmt; let n : Nat := 3; n < 16 ∧ s.triggered c (DS.BITSLIP n) = true) ∧
    (let s : State := (State.reset.set (HDR.ACT 0x0BB) 1).set (DS.TRACK_EN 3) 0; let n : Nat := 3; let a : Nat := 200; let b : Nat := 100; n < 16 ∧ s.act (dsPage n) = true ∧ s.awake true = true ∧ s.tb % 2 ^ 20 = 0 ∧ a < 256 ∧ b < 256 ∧ s.on (DS.TRACK_EN n) = false ∧ s.get LINK.EYE_MIN ≤ min 255 (a + b)) ∧
    (let s : State := ((State.reset.set (HDR.ACT 0x0BB) 1).set (DS.TRACK_EN 3) 0).set LINK.EYE_MIN 20; let n : Nat := 3; let a : Nat := 2; let b : Nat := 1; n < 16 ∧ s.act (dsPage n) = true ∧ s.awake true = true ∧ s.tb % 2 ^ 20 = 0 ∧ a < 256 ∧ b < 256 ∧ s.on (DS.TRACK_EN n) = false ∧ min 255 (a + b) < s.get LINK.EYE_MIN) :=
  by and_intros <;> decide +kernel

theorem witness_LaneTests :
    (let s : State := ((State.reset.set (HDR.ACT 0x0BB) 1).set (DS.CHK_EN 3) 1).set (DS.PRBS_SEL 3) 2; let n : Nat := 3; n < 16 ∧ s.checking n = true ∧ s.on (DS.PRBS_SYNC n) = false) ∧
    (let s : State := (((State.reset.set (HDR.ACT 0x0BB) 1).set (DS.CHK_EN 3) 1).set (DS.PRBS_SEL 3) 2).set (DS.PRBS_SYNC 3) 1; let n : Nat := 3; let e : Nat := 2 ^ 48 + 5; n < 16 ∧ s.checking n = true ∧ s.on (DS.PRBS_SYNC n) = true) ∧
    (let s : State := State.reset.set (DS.ERR_CNT_LO 3) 5; let c : Cls := .mgmt; let n : Nat := 3; n < 16 ∧ s.triggered c (DS.CNT_CLR n) = true) ∧
    (let s : State := State.reset; let c : Cls := .mgmt; let n : Nat := 3; n < 16 ∧ s.triggered c (US.INJ_SINGLE n) = true ∧ (s.ripe c (US.INJ_SINGLE n)).mode ≠ 5 ∧ (s.ripe c (US.INJ_SINGLE n)).lanes.inj.getD n 0 = 0) ∧
    (let s : State := State.reset.set DEVICE.MODE 5; let c : Cls := .mgmt; let n : Nat := 3; n < 16 ∧ s.triggered c (US.INJ_SINGLE n) = true ∧ (s.ripe c (US.INJ_SINGLE n)).mode = 5) ∧
    (let s : State := State.reset; let c : Cls := .mgmt; let n : Nat := 3; n < 16 ∧ s.triggered c (US.INJ_BURST n) = true ∧ (s.ripe c (US.INJ_BURST n)).mode ≠ 5 ∧ (s.ripe c (US.INJ_BURST n)).lanes.inj.getD n 0 = 0) ∧
    (let s : State := State.reset.set DEVICE.MODE 5; let c : Cls := .mgmt; let n : Nat := 3; n < 16 ∧ s.triggered c (US.INJ_BURST n) = true ∧ (s.ripe c (US.INJ_BURST n)).mode = 5) ∧
    (let s : State := (State.reset.set (HDR.ACT 0x0CB) 1).setInj 3 5; let n : Nat := 3; n < 16 ∧ s.lanes.inj.getD n 0 ≠ 0 ∧ s.act (usPage n) = true ∧ s.mode ≠ 7) ∧
    (let s : State := ((((((State.reset.set (HDR.ACT 0x0BB) 1).set (DS.CHK_EN 3) 1).set (DS.PRBS_SEL 3) 2).set (DS.PRBS_SYNC 3) 1).set (HDR.ACT 0x0CB) 1).set DEVICE.MODE 7).set LINK.LOOP 1 |>.setInj 3 5; let n : Nat := 3; n < 16 ∧ s.lanes.inj.getD n 0 ≠ 0 ∧ s.act (usPage n) = true ∧ s.mode = 7 ∧ s.on LINK.LOOP = true ∧ s.checking n = true ∧ s.on (DS.PRBS_SYNC n) = true) :=
  by and_intros <;> decide +kernel

theorem witness_LinkMarkers :
    (let s : State := (((State.reset.set (HDR.ACT 0x0B1) 1).set ERL0.LINK_UP 1).set ERL0.FRAME_ALIGNED 1); let o : Nat := 5; let r : Bool := true; s.act 0x0B1 = true ∧ s.awake false = true ∧ (r = true ∨ s.tb % 2048 = 0 ∧ o * s.uiPerTick ≤ 66 * 256)) ∧
    (let s : State := (((State.reset.set (HDR.ACT 0x0B1) 1).set ERL0.LINK_UP 1).set ERL0.FRAME_ALIGNED 1).set (HDR.ACT 0x0B8) 1; let l : Nat := 0; let b : Nat := 7; let f : Nat := 0; let k : Nat := 0; l < 16 ∧ s.act 0x0B1 = true ∧ s.act (dsPage l) = true ∧ bits b 0 8 ≠ 0xA5 ∧ bits b 0 8 ≠ 0x3C) ∧
    (let s : State := (((State.reset.set (HDR.ACT 0x0B1) 1).set ERL0.LINK_UP 1).set ERL0.FRAME_ALIGNED 1).set (HDR.ACT 0x0B9) 1; let l : Nat := 1; let f : Nat := 0; let k : Nat := 3; l < 16 ∧ l ≠ 0 ∧ s.act 0x0B1 = true ∧ s.act (dsPage l) = true ∧ s.tb < 2 ^ 31 ∧ s.tb % 2048 < 512 ∧ k ≤ 8) ∧
    (let s : State := { State.reset.set (HDR.ACT 0x0B1) 1 with tb := 512, erl := { good := 0xFFFF, run := 63 } }; s.act 0x0B1 = true ∧ s.awake true = true ∧ s.tb % 2048 = 512 ∧ s.laneTest true = false ∧ s.laneTest false = false ∧ (List.range s.lanesDs).all (fun n => bitOf s.erl.good n) = true ∧ 63 ≤ s.erl.run ∧ s.erl.fails = []) ∧
    (let s : State := (((State.reset.set (HDR.ACT 0x0B1) 1).set ERL0.LINK_UP 1).set ERL0.FRAME_ALIGNED 1); let c : Nat := 2; s.downCause c = true ∧ s.on ERL0.LINK_UP = true ∧ c < 8) ∧
    (let s : State := ((State.reset.set (HDR.ACT 0x0B1) 1).set LPLL.READY 1).set ERL0.FRAME_ALIGNED 1; s.on ERL0.FRAME_ALIGNED = true ∧ s.on LPLL.READY = true ∧ s.on ERL0.LINK_UP = false ∧ s.erl.downAt = 0) ∧
    (let s : State := { ((State.reset.set (HDR.ACT 0x0B1) 1).set LPLL.READY 1).set ERL0.FRAME_ALIGNED 1 with erl := { downAt := 5 } }; s.on ERL0.FRAME_ALIGNED = true ∧ s.on LPLL.READY = true ∧ s.on ERL0.LINK_UP = false ∧ s.erl.downAt ≠ 0) :=
  by and_intros <;> decide +kernel

theorem witness_LinkStreams_1 :
    (let s : State := (((State.reset.set (HDR.ACT 0x0B1) 1).set ERL0.LINK_UP 1).set ERL0.FRAME_ALIGNED 1); let ws : List Nat := []; let b : Bool := false; s.act 0x0B1 = true ∧ s.erl.skip = false ∧ badPacket ws b = true) ∧
    (let s : State := { (((State.reset.set (HDR.ACT 0x0B1) 1).set ERL0.LINK_UP 1).set ERL0.FRAME_ALIGNED 1) with erl := { skip := true } }; let ws : List Nat := []; let b : Bool := false; s.act 0x0B1 = true ∧ s.erl.skip = true) ∧
    (let s : State := (((State.reset.set (HDR.ACT 0x0B1) 1).set ERL0.LINK_UP 1).set ERL0.FRAME_ALIGNED 1); let ws : List Nat := [2 ^ 28 + 2 * 2 ^ 16, 0, 0, 5]; s.act 0x0B1 = true ∧ s.erl.skip = false ∧ badPacket ws false = false ∧ crc32 ws.dropLast ≠ ws.getLastD 0) ∧
    (let s : State := ((((State.reset.set (HDR.ACT 0x0B1) 1).set ERL0.LINK_UP 1).set ERL0.FRAME_ALIGNED 1).set (BEAM.NLAYERS 0) 4).set (BEAM.FMT 0) 2; let ws : List Nat := pkt 1 130 7 ([200, 0] ++ List.replicate 74 9); let b : Bool := false; let p : Packet := ⟨1, 0, 130, 7, [200, 0] ++ List.replicate 74 9⟩; (s.receiveAs 1 none ws b).1 = some p ∧ bits p.sub 6 2 = (s.receiveAs 1 none ws b).2.fmtAt (join64 (p.body.getD 0 0) (p.body.getD 1 0)) ∧ p.body.length + 4 = 2 * sampleLen (bits p.sub 6 2) ∧ (s.receiveAs 1 none ws b).2.streamOk 0 (bits p.sub 0 6) = true ∧ (s.receiveAs 1 none ws b).2.tb + 128 ≤ join64 (p.body.getD 0 0) (p.body.getD 1 0) ∧ join64 (p.body.getD 0 0) (p.body.getD 1 0) ≤ (s.receiveAs 1 none ws b).2.tb + 16640 ∧ ((s.receiveAs 1 none ws b).2.erl.held.any (fun x => x.stream == bits p.sub 0 6 && x.stamp == join64 (p.body.getD 0 0) (p.body.getD 1 0))) = false) ∧
    (let s : State := ((((State.reset.set (HDR.ACT 0x0B1) 1).set ERL0.LINK_UP 1).set ERL0.FRAME_ALIGNED 1).set (BEAM.NLAYERS 0) 4).set (BEAM.FMT 0) 2; let ws : List Nat := pkt 1 130 7 ([100, 0] ++ List.replicate 74 9); let b : Bool := false; let p : Packet := ⟨1, 0, 130, 7, [100, 0] ++ List.replicate 74 9⟩; (s.receiveAs 1 none ws b).1 = some p ∧ bits p.sub 6 2 = (s.receiveAs 1 none ws b).2.fmtAt (join64 (p.body.getD 0 0) (p.body.getD 1 0)) ∧ p.body.length + 4 = 2 * sampleLen (bits p.sub 6 2) ∧ (s.receiveAs 1 none ws b).2.streamOk 0 (bits p.sub 0 6) = true ∧ join64 (p.body.getD 0 0) (p.body.getD 1 0) < (s.receiveAs 1 none ws b).2.tb + 128) ∧
    (let s : State := ((((State.reset.set (HDR.ACT 0x0B1) 1).set ERL0.LINK_UP 1).set ERL0.FRAME_ALIGNED 1).set (BEAM.NLAYERS 0) 4).set (BEAM.FMT 0) 2; let ws : List Nat := pkt 1 130 7 ([100, 1] ++ List.replicate 74 9); let b : Bool := false; let p : Packet := ⟨1, 0, 130, 7, [100, 1] ++ List.replicate 74 9⟩; (s.receiveAs 1 none ws b).1 = some p ∧ bits p.sub 6 2 = (s.receiveAs 1 none ws b).2.fmtAt (join64 (p.body.getD 0 0) (p.body.getD 1 0)) ∧ p.body.length + 4 = 2 * sampleLen (bits p.sub 6 2) ∧ (s.receiveAs 1 none ws b).2.streamOk 0 (bits p.sub 0 6) = true ∧ (s.receiveAs 1 none ws b).2.tb + 16640 < join64 (p.body.getD 0 0) (p.body.getD 1 0)) ∧
    (let s : State := (State.reset.set (HDR.ACT 0x0A0) 1).set (BEAM.NLAYERS 0) 4; let k : Nat := 2; s.act (beamPage 0) = true ∧ s.streamOk 0 k = true ∧ s.tb % (128 * rateL s.dlRate) = 0 ∧ s.erl.held.any (fun x => x.stream == k && x.stamp == s.tb) = false ∧ s.erl.missAt = none) ∧
    (let s : State := State.reset; (s.linkOpen = false ∨ s.act (beamPage 1) = false)) ∧
    (let s : State := { (((((State.reset.set (HDR.ACT 0x0B1) 1).set ERL0.LINK_UP 1).set ERL0.FRAME_ALIGNED 1).set (HDR.ACT 0x0A1) 1).set (BEAM.NLAYERS 1) 1).set (BEAM.MODE 1) 0 with tb := (16 * State.reset.get ERL0.LAT_UL + 128 * 64 - gRx State.reset.ulRate - 32) + 1 }; let w : Nat := (128 * 64 + 1); let r : Nat := State.reset.ulRate; let f : Nat := (State.reset.get (BEAM.FMT 1)); let e : Option Nat := none; s.linkOpen = true ∧ s.act (beamPage 1) = true ∧ 16 * s.get ERL0.LAT_UL ≤ s.tb ∧ s.ulSetting (s.tb - 16 * s.get ERL0.LAT_UL) = (w, r, f, e) ∧ w % (128 * rateL r) ≠ 0) ∧
    (let s : State := { (((((State.reset.set (HDR.ACT 0x0B1) 1).set ERL0.LINK_UP 1).set ERL0.FRAME_ALIGNED 1).set (HDR.ACT 0x0A1) 1).set (BEAM.NLAYERS 1) 1).set (BEAM.MODE 1) 0 with tb := (16 * State.reset.get ERL0.LAT_UL + 128 * 64 - gRx State.reset.ulRate - 32) }; let w : Nat := (128 * 64); let r : Nat := State.reset.ulRate; let f : Nat := (State.reset.get (BEAM.FMT 1)); let e : Option Nat := none; let k : Nat := 0; s.linkOpen = true ∧ s.act (beamPage 1) = true ∧ 16 * s.get ERL0.LAT_UL ≤ s.tb ∧ s.ulSetting (s.tb - 16 * s.get ERL0.LAT_UL) = (w, r, f, e) ∧ w % (128 * rateL r) = 0 ∧ (List.range 64).filter (s.streamOk 1) = [k] ∧ (s.ulWindow w (rateL r) k e).all (fun y => y.invalid) = true) ∧
    (let s : State := { (((((State.reset.set (HDR.ACT 0x0B1) 1).set ERL0.LINK_UP 1).set ERL0.FRAME_ALIGNED 1).set (HDR.ACT 0x0A1) 1).set (BEAM.NLAYERS 1) 1).set (BEAM.MODE 1) 0 with tb := (16 * State.reset.get ERL0.LAT_UL + 128 * 64 - gRx State.reset.ulRate - 32), strm := { State.reset.strm with ul := [(0, [⟨128 * 64, 5, 6, false, false⟩])] } }; let w : Nat := (128 * 64); let r : Nat := State.reset.ulRate; let f : Nat := (State.reset.get (BEAM.FMT 1)); let e : Option Nat := none; let k : Nat := 0; s.linkOpen = true ∧ s.act (beamPage 1) = true ∧ 16 * s.get ERL0.LAT_UL ≤ s.tb ∧ s.ulSetting (s.tb - 16 * s.get ERL0.LAT_UL) = (w, r, f, e) ∧ w % (128 * rateL r) = 0 ∧ (List.range 64).filter (s.streamOk 1) = [k] ∧ (s.ulWindow w (rateL r) k e).all (fun y => y.invalid) = false) ∧
    (let s : State := { (((State.reset.set (HDR.ACT 0x0B1) 1).set ERL0.LINK_UP 1).set ERL0.FRAME_ALIGNED 1) with evtQ := [.events 5 1 9] }; let pg : Nat := 5; let b : Nat := 1; let k : Nat := 9; let r : List EvtPkt := []; s.evtQ = .events pg b k :: r ∧ s.linkOpen = true) :=
  by and_intros <;> decide +kernel

theorem witness_LinkStreams_2 :
    (let s : State := { (((State.reset.set (HDR.ACT 0x0B1) 1).set ERL0.LINK_UP 1).set ERL0.FRAME_ALIGNED 1) with evtQ := [.status 5 1 9] }; let c : Nat := 5; let d : Nat := 1; let k : Nat := 9; let r : List EvtPkt := []; s.evtQ = .status c d k :: r ∧ s.linkOpen = true) ∧
    (let s : State := State.reset; (s.evtQ = [] ∨ s.linkOpen = false)) ∧
    (let s : State := ((State.reset.set (HDR.ACT 0x0EB) 1).set (CP.EXP_BB 3) 1); let k : Nat := 3; k < 8 ∧ s.act (capPage k) = true ∧ s.on (CP.EXP_BB k) = true ∧ s.expBbPermitted = false ∧ (s.cap k).expDenied = false) ∧
    (let s : State := ({ ((((((State.reset.set (HDR.ACT 0x0B1) 1).set ERL0.LINK_UP 1).set ERL0.FRAME_ALIGNED 1).set (HDR.ACT 0x0EB) 1).set (CP.EXP_BB 3) 1).set LIMITS.LR_VALID 1).set (LIMITS.REC 5) 8 with tb := 0 } : State).setCap 3 (fun c => { c with endPos := 8 }); let k : Nat := 3; k < 8 ∧ s.caps.length = 8 ∧ s.act (capPage k) = true ∧ s.on (CP.EXP_BB k) = true ∧ s.expBbPermitted = true ∧ s.linkOpen = true ∧ (s.cap k).expStop = false ∧ 4 ≤ s.capReady k - (s.cap k).expPos ∧ ((s.sendClear.exportWords k (s.cap k).expPos (min 256 ((s.capReady k - (s.cap k).expPos) / 4))).2.cap k).expStop = false) :=
  by and_intros <;> decide +kernel

theorem witness_LinkControl_1 :
    (let s : State := ((((State.reset.set (HDR.ACT 0x0B1) 1).set ERL0.LINK_UP 1).set ERL0.FRAME_ALIGNED 1).set (HDR.RIGHT 0x0A2 .bb) 3 |>.set (HDR.CTRL 0x0A2) 1); let w : Nat := 0; let ws : List Nat := pkt 3 1 (7 * 2 ^ 22 + 1) [1, 2]; let b : Bool := false; let p : Packet := ⟨3, 0, 1, (7 * 2 ^ 22 + 1), [1, 2]⟩; let k : Nat := 14; (s.sendClear.receiveAs 3 (some 1) ws b).1 = some p ∧ w < 16 ∧ bits p.w1 0 6 = 1 ∧ 2 ≤ p.body.length ∧ (s.sendClear.receiveAs 3 (some 1) ws b).2.block (bits p.w1 31 1) (bits p.w1 22 8) (bits p.w1 30 1) = some k ∧ bits p.w1 16 5 < 24 ∧ bits p.w1 8 5 < 32 ∧ (s.sendClear.receiveAs 3 (some 1) ws b).2.pageRefusal .bb (setPage (bits p.w1 31 1)) = none ∧ (s.sendClear.receiveAs 3 (some 1) ws b).2.bankRefusal (bits p.w1 31 1) (bits p.w1 22 8) (bits p.w1 30 1) = none) ∧
    (let s : State := (((State.reset.set (HDR.ACT 0x0B1) 1).set ERL0.LINK_UP 1).set ERL0.FRAME_ALIGNED 1); let w : Nat := 16; let ws : List Nat := pkt 3 1 1 [1, 2]; let b : Bool := false; let p : Packet := ⟨3, 0, 1, 1, [1, 2]⟩; (s.sendClear.receiveAs 3 (some 1) ws b).1 = some p ∧ 16 ≤ w) ∧
    (let s : State := ((((State.reset.set (HDR.ACT 0x0B1) 1).set ERL0.LINK_UP 1).set ERL0.FRAME_ALIGNED 1)); let w : Nat := 0; let ws : List Nat := pkt 3 1 (200 * 2 ^ 22 + 1) [1, 2]; let b : Bool := false; let p : Packet := ⟨3, 0, 1, (200 * 2 ^ 22 + 1), [1, 2]⟩; (s.sendClear.receiveAs 3 (some 1) ws b).1 = some p ∧ w < 16 ∧ bits p.w1 0 6 = 1 ∧ 2 ≤ p.body.length ∧ (s.sendClear.receiveAs 3 (some 1) ws b).2.block (bits p.w1 31 1) (bits p.w1 22 8) (bits p.w1 30 1) = none) ∧
    (let s : State := ((((State.reset.set (HDR.ACT 0x0B1) 1).set ERL0.LINK_UP 1).set ERL0.FRAME_ALIGNED 1).set (HDR.RIGHT 0x0A8 .bb) 3 |>.set (HDR.CTRL 0x0A8) 1); let w : Nat := 0; let ws : List Nat := pkt 3 2 1 [9000, 0, 2 ^ 28 + 1, 0]; let b : Bool := false; let p : Packet := ⟨3, 0, 2, 1, [9000, 0, 2 ^ 28 + 1, 0]⟩; (s.sendClear.receiveAs 3 (some 2) ws b).1 = some p ∧ w < 16 ∧ bits p.w1 0 6 = 1 ∧ 4 ≤ p.body.length ∧ (s.sendClear.receiveAs 3 (some 2) ws b).2.writeRefusal .bb TIMELINE0.ENQ_CODE 1 ((s.sendClear.receiveAs 3 (some 2) ws b).2.pushRefusal .bb (p.body.getD 2 0) (p.body.getD 3 0)) = none) ∧
    (let s : State := (((State.reset.set (HDR.ACT 0x0B1) 1).set ERL0.LINK_UP 1).set ERL0.FRAME_ALIGNED 1); let w : Nat := 16; let ws : List Nat := pkt 3 2 1 [1, 2]; let b : Bool := false; let p : Packet := ⟨3, 0, 2, 1, [1, 2]⟩; (s.sendClear.receiveAs 3 (some 2) ws b).1 = some p ∧ 16 ≤ w) ∧
    (let s : State := ((((State.reset.set (HDR.ACT 0x0B1) 1).set ERL0.LINK_UP 1).set ERL0.FRAME_ALIGNED 1)); let w : Nat := 0; let ws : List Nat := pkt 3 3 16 [9000, 0]; let b : Bool := false; let p : Packet := ⟨3, 0, 3, 16, [9000, 0]⟩; (s.sendClear.receiveAs 3 (some 3) ws b).1 = some p ∧ w < 16) ∧
    (let s : State := (((State.reset.set (HDR.ACT 0x0B1) 1).set ERL0.LINK_UP 1).set ERL0.FRAME_ALIGNED 1); let w : Nat := 16; let ws : List Nat := pkt 3 3 1 [1, 2]; let b : Bool := false; let p : Packet := ⟨3, 0, 3, 1, [1, 2]⟩; (s.sendClear.receiveAs 3 (some 3) ws b).1 = some p ∧ 16 ≤ w) ∧
    (let s : State := ((((State.reset.set (HDR.ACT 0x0B1) 1).set ERL0.LINK_UP 1).set ERL0.FRAME_ALIGNED 1)); let w : Nat := 0; let ws : List Nat := pkt 3 4 (1 + 48) [5, 0, 9000, 0]; let b : Bool := false; let p : Packet := ⟨3, 0, 4, (1 + 48), [5, 0, 9000, 0]⟩; (s.sendClear.receiveAs 3 (some 4) ws b).1 = some p ∧ w < 16 ∧ (bits p.w1 0 2 = 1 ∨ bits p.w1 0 2 = 2) ∧ bits p.w1 4 2 = 3) ∧
    (let s : State := (((State.reset.set (HDR.ACT 0x0B1) 1).set ERL0.LINK_UP 1).set ERL0.FRAME_ALIGNED 1); let w : Nat := 16; let ws : List Nat := pkt 3 4 1 [1, 2]; let b : Bool := false; let p : Packet := ⟨3, 0, 4, 1, [1, 2]⟩; (s.sendClear.receiveAs 3 (some 4) ws b).1 = some p ∧ 16 ≤ w) ∧
    (let s : State := ((((State.reset.set (HDR.ACT 0x0B1) 1).set ERL0.LINK_UP 1).set ERL0.FRAME_ALIGNED 1)); let w : Nat := 0; let ws : List Nat := pkt 3 4 3 [5, 0, 9000, 0]; let b : Bool := false; let p : Packet := ⟨3, 0, 4, 3, [5, 0, 9000, 0]⟩; (s.sendClear.receiveAs 3 (some 4) ws b).1 = some p ∧ w < 16 ∧ bits p.w1 0 2 = 3 ∧ bits p.w1 4 2 = 0) ∧
    (let s : State := (((State.reset.set (HDR.ACT 0x0B1) 1).set ERL0.LINK_UP 1).set ERL0.FRAME_ALIGNED 1); let w : Nat := 0; let ws : List Nat := pkt 4 1 0x80 [0x40000000, 0]; let b : Bool := false; let p : Packet := ⟨4, 0, 1, 0x80, [0x40000000, 0]⟩; (s.sendClear.receiveAs 4 (some 1) ws b).1 = some p ∧ (s.sendClear.receiveAs 4 (some 1) ws b).2.updJobs = [] ∧ w < 8 ∧ bitOf p.w1 7 = true) ∧
    (let s : State := (((State.reset.set (HDR.ACT 0x0B1) 1).set ERL0.LINK_UP 1).set ERL0.FRAME_ALIGNED 1); let w : Nat := 0; let ws : List Nat := pkt 4 1 0 [0x40000010, 0, 5, 0]; let b : Bool := false; let p : Packet := ⟨4, 0, 1, 0, [0x40000010, 0, 5, 0]⟩; (s.sendClear.receiveAs 4 (some 1) ws b).1 = some p ∧ (s.sendClear.receiveAs 4 (some 1) ws b).2.updJobs = [] ∧ w < 8 ∧ bitOf p.w1 7 = false) :=
  by and_intros <;> decide +kernel

theorem witness_LinkControl_2 :
    (let s : State := (((State.reset.set (HDR.ACT 0x0B1) 1).set ERL0.LINK_UP 1).set ERL0.FRAME_ALIGNED 1); let ws : List Nat := pkt 5 1 9 [1, 0, 3, 0]; let b : Bool := false; let t2 : Nat := 777; let p : Packet := ⟨5, 0, 1, 9, [1, 0, 3, 0]⟩; (s.receiveAs 5 (some 1) ws b).1 = some p ∧ s.tim.opened = []) ∧
    (let s : State := { (((State.reset.set (HDR.ACT 0x0B1) 1).set ERL0.LINK_UP 1).set ERL0.FRAME_ALIGNED 1) with tim := { opened := [(9, 1, 2, 0)] } }; let i : Nat := 9; let t1 : Nat := 1; let t2 : Nat := 2; let t3 : Nat := 3; s.tim.opened = [(i, t1, t2, 0)] ∧ (s.linkOpen = true ∨ s.mode = 2 ∨ s.on ERL0.FRAME_ALIGNED = false)) ∧
    (let s : State := { (((State.reset.set (HDR.ACT 0x0B1) 1).set ERL0.LINK_UP 1).set ERL0.FRAME_ALIGNED 1) with tim := { opened := [(9, 1, 2, 3)] } }; let ws : List Nat := pkt 5 3 9 [1, 0, 3, 0]; let b : Bool := false; let p : Packet := ⟨5, 0, 3, 9, [1, 0, 3, 0]⟩; let t1 : Nat := 1; let t2 : Nat := 2; let t3 : Nat := 3; (s.receiveAs 5 (some 3) ws b).1 = some p ∧ s.tim.opened = [(bits p.w1 0 16, t1, t2, t3)] ∧ t3 ≠ 0 ∧ s.tim.deltas = []) ∧
    (let s : State := (((State.reset.set (HDR.ACT 0x0B1) 1).set ERL0.LINK_UP 1).set ERL0.FRAME_ALIGNED 1); let ws : List Nat := pkt 5 3 9 [1, 0, 3, 0]; let b : Bool := false; let p : Packet := ⟨5, 0, 3, 9, [1, 0, 3, 0]⟩; (s.receiveAs 5 (some 3) ws b).1 = some p ∧ s.tim.opened = []) ∧
    (let s : State := State.reset.set TIMEBASE.SRC_ACT 1; s.activeSource = 0 ∧ s.get TIMEBASE.SRC_ACT = 1) ∧
    (let s : State := State.reset.set TIMEBASE.SRC_ACT 2; s.activeSource = 0 ∧ s.get TIMEBASE.SRC_ACT = 2) :=
  by and_intros <;> decide +kernel

theorem witness_Cumin_1 :
    (let s : State := ((((State.reset.set (HDR.ACT 0x0E0) 1).set LIMITS.LR_VALID 1).set (LIMITS.REC 5) 1).set SOUND0.TX_EN 1).setPath 3 (fun p => { p with st := .sndTx, win := some 50000 }); s.burstPaths ≠ [] ∧ s.act 0x0E0 = true ∧ s.sndPermitted = true ∧ s.on SOUND0.TX_EN = true ∧ (allPaths.filter (fun n => (s.path n).st == .sndTx)).all s.burstFits = true ∧ s.snd.burst = none ∧ s.cuminCap ≤ s.get SOUND0.TX_LVL) ∧
    (let s : State := (((((State.reset.set (HDR.ACT 0x0E0) 1).set LIMITS.LR_VALID 1).set (LIMITS.REC 5) 1).set (LIMITS.REC 5) (1 + 60 * 65536)).set SOUND0.TX_EN 1).setPath 3 (fun p => { p with st := .sndTx, win := some 50000 }); s.burstPaths ≠ [] ∧ s.act 0x0E0 = true ∧ s.sndPermitted = true ∧ s.on SOUND0.TX_EN = true ∧ (allPaths.filter (fun n => (s.path n).st == .sndTx)).all s.burstFits = true ∧ s.snd.burst = none ∧ s.get SOUND0.TX_LVL < s.cuminCap) ∧
    (let s : State := (((State.reset.set (HDR.ACT 0x0E0) 1).set LIMITS.LR_VALID 1).set (LIMITS.REC 5) 1).setPath 3 (fun p => { p with st := .sndTx }); s.burstPaths ≠ [] ∧ s.act 0x0E0 = true ∧ s.sndPermitted = true ∧ (s.on SOUND0.TX_EN = false ∨ (allPaths.filter (fun n => (s.path n).st == .sndTx)).all s.burstFits = false ∨ s.snd.burst.isSome = true)) ∧
    (let s : State := State.reset; (s.burstPaths = [] ∨ s.act 0x0E0 = false ∨ s.sndPermitted = false)) ∧
    (let s : State := { ((State.reset.set (HDR.ACT 0x0E0) 1).set LIMITS.LR_VALID 1).set (LIMITS.REC 5) 1 with tb := 41000, snd := { State.reset.snd with burst := some (30, 5), own := List.replicate 16 (7, 7) } }; let b : Nat := 30; let x : Nat := 5; s.snd.burst = some (b, x) ∧ b + 40960 ≤ s.tb) ∧
    (let s : State := { ((State.reset.set (HDR.ACT 0x0E0) 1).set DEVICE.MODE 5).setPath 3 (fun p => { p with st := .sndRx }) with snd := { State.reset.snd with frozen := true } }; let lvl : Int := 3; s.sndListening = true ∧ s.snd.frozen = true) ∧
    (let s : State := { ((State.reset.set (HDR.ACT 0x0E0) 1).set DEVICE.MODE 5).setPath 3 (fun p => { p with st := .sndRx }) with tb := 1024 }; let lvl : Int := 3; s.sndListening = true ∧ s.snd.frozen = false ∧ s.snd.agc ≤ 60 ∧ s.sndRxPaths.any (fun n => decide ((s.path n).since < s.tb) && (s.tb - (s.path n).since) % 1024 == 0) = true) ∧
    (let s : State := (((State.reset.set (HDR.ACT 0x0E0) 1).set DEVICE.MODE 5).setPath 3 (fun p => { p with st := .sndRx })).set SOUND0.RX_STATE 1; let b : Bool := true; s.sndListening = true ∧ s.get SOUND0.RX_STATE = 1) ∧
    (let s : State := (((State.reset.set (HDR.ACT 0x0E0) 1).set DEVICE.MODE 5).setPath 3 (fun p => { p with st := .sndRx })).set SOUND0.RX_STATE 2; s.get SOUND0.RX_STATE = 2) ∧
    (let s : State := (((State.reset.set (HDR.ACT 0x0E0) 1).set DEVICE.MODE 5).setPath 3 (fun p => { p with st := .sndRx })).set SOUND0.RX_STATE 2; let b : Burst := ⟨List.replicate 160 5, 5, 999999, 3, true⟩; 2 ≤ s.get SOUND0.RX_STATE ∧ b.bad = true) ∧
    (let s : State := (((State.reset.set (HDR.ACT 0x0E0) 1).set DEVICE.MODE 5).setPath 3 (fun p => { p with st := .sndRx })).set SOUND0.RX_STATE 2; let b : Burst := ⟨List.replicate 160 5, 5, 999999, 3, false⟩; 2 ≤ s.get SOUND0.RX_STATE ∧ b.bad = false ∧ readInfo (ldpcDecode s.maxIter b.llr).1 (b.arrival - s.get SOUND0.RX_BOARD_DLY) = none) ∧
    (let s : State := (((State.reset.set (HDR.ACT 0x0E0) 1).set DEVICE.MODE 5).setPath 3 (fun p => { p with st := .sndRx })).set SOUND0.RX_STATE 2; let b : Burst := ⟨(ldpcEncode (burstInfo 5 1000 9)).map (fun b => if b then -5 else 5), 5, 999999, 3, false⟩; let x : SndRx := ⟨5, 9, 1000, 999999⟩; 2 ≤ s.get SOUND0.RX_STATE ∧ b.bad = false ∧ readInfo (ldpcDecode s.maxIter b.llr).1 (b.arrival - s.get SOUND0.RX_BOARD_DLY) = some x ∧ s.snd.queue.length < 16) :=
  by and_intros <;> decide +kernel

theorem witness_Cumin_2 :
    (let s : State := { (((State.reset.set (HDR.ACT 0x0E0) 1).set DEVICE.MODE 5).setPath 3 (fun p => { p with st := .sndRx })).set SOUND0.RX_STATE 2 with snd := { State.reset.snd with queue := List.replicate 16 [0] } }; let b : Burst := ⟨(ldpcEncode (burstInfo 5 1000 9)).map (fun b => if b then -5 else 5), 5, 999999, 3, false⟩; let x : SndRx := ⟨5, 9, 1000, 999999⟩; 2 ≤ s.get SOUND0.RX_STATE ∧ b.bad = false ∧ readInfo (ldpcDecode s.maxIter b.llr).1 (b.arrival - s.get SOUND0.RX_BOARD_DLY) = some x ∧ 16 ≤ s.snd.queue.length) ∧
    (let s : State := { State.reset with snd := { State.reset.snd with queue := [[1, 2], [3, 4]] } }; let c : Cls := .mgmt; s.triggered c SOUND2.POP = true) ∧
    (let s : State := State.reset; let c : Cls := .mgmt; s.triggered c SOUND2.REM_GO = true) ∧
    (let s : State := State.reset.set SOUND2.REM_BUSY 1; let c : Cls := .mgmt; s.refusesPart c SOUND2.REM_GO 0 stPENDING = true) ∧
    (let s : State := State.reset.set SOUND2.REM_BUSY 1; let r : Nat := 1; s.on SOUND2.REM_BUSY = true ∧ (s.set SOUND2.REM_BUSY 0).xferCheck = .inl r) ∧
    (let s : State := { ((((((((((((State.reset.set SOUND2.REM_BUSY 1).set (SOUND3.PEER_EN 2) 1).set (SOUND3.PEER_ID 2) 7).set (SOUND3.PEER_REF 2) 1).set (SOUND2.REM_W 0) (7 * 65536 + 0x1240)).set (SOUND2.REM_W 1) 2000001682).set (SOUND2.REM_W 3) 192).set (SOUND2.REM_W 4) 2000983042).set (SOUND2.REM_W 6) 128)).set (SOUND2.REM_W 7) 0xFFFFF380).set (SOUND2.REM_W 8) 0) with
      snd := { State.reset.snd with own := [(0x12, 2000000003 * 256)], hist := [⟨7, 0x40, 0x7744940, 2000984641 * 256 + 192⟩] } }; let x : Xfer := ⟨2, 2000000003 * 256, 2000001682 * 256 + 192, 2000983042 * 256 + 128, 2000984641 * 256 + 192⟩; s.on SOUND2.REM_BUSY = true ∧ (s.set SOUND2.REM_BUSY 0).xferCheck = .inr x ∧ x.peer < 16 ∧ s.snd.deltas.length = 16 ∧ (s.on (SOUND3.PEER_REF x.peer) = false ∨ bitOf (s.get (SOUND2.REM_W 8)) 0 = false)) ∧
    (let s : State := { ((((((((((((State.reset.set SOUND2.REM_BUSY 1).set (SOUND3.PEER_EN 2) 1).set (SOUND3.PEER_ID 2) 7).set (SOUND3.PEER_REF 2) 1).set (SOUND2.REM_W 0) (7 * 65536 + 0x1240)).set (SOUND2.REM_W 1) 2000001682).set (SOUND2.REM_W 3) 192).set (SOUND2.REM_W 4) 2000983042).set (SOUND2.REM_W 6) 128)).set (SOUND2.REM_W 7) 0xFFFFF380).set (SOUND2.REM_W 8) 1) with
      snd := { State.reset.snd with own := [(0x12, 2000000003 * 256)], hist := [⟨7, 0x40, 0x7744940, 2000984641 * 256 + 192⟩] } }; let x : Xfer := ⟨2, 2000000003 * 256, 2000001682 * 256 + 192, 2000983042 * 256 + 128, 2000984641 * 256 + 192⟩; s.on SOUND2.REM_BUSY = true ∧ (s.set SOUND2.REM_BUSY 0).xferCheck = .inr x ∧ x.peer < 16 ∧ s.snd.deltas.length = 16 ∧ s.on (SOUND3.PEER_REF x.peer) = true ∧ bitOf (s.get (SOUND2.REM_W 8)) 0 = true) :=
  by and_intros <;> decide +kernel

theorem witness_AniseTuning_1 :
    (let s : State := ((((State.reset.set (HDR.EN 0x0E4) 1).set DEVICE.MODE 5).set LIMITS.LR_VALID 1).set (LIMITS.REC 5) 2); s.on (HDR.EN 0x0E4) = true ∧ s.aniseAllowed = true ∧ s.act 0x0E4 = false ∧ s.seqOf 0x0E4 = 0) ∧
    (let s : State := State.reset; (s.on (HDR.EN 0x0E4) = false ∨ s.aniseAllowed = false)) ∧
    (let s : State := State.reset; let c : Cls := .mgmt; let a : Nat := 0; let std : Nat := 0; let khz : Nat := 50000; std < 2 ∧ khz < 2 ^ 18 ∧ s.takes c BCAST0.STD (std * 2 ^ 30 + khz) = true ∧ s.takes c BCAST0.FREQ (std * 2 ^ 30 + khz) = true ∧ bandOk std khz = false) ∧
    (let s : State := State.reset; let c : Cls := .mgmt; let a : Nat := 0; let std : Nat := 0; let khz : Nat := 100000; std < 2 ∧ khz < 2 ^ 18 ∧ s.takes c BCAST0.STD (std * 2 ^ 30 + khz) = true ∧ s.takes c BCAST0.FREQ (std * 2 ^ 30 + khz) = true ∧ bandOk std khz = true ∧ (s.ripe c BCAST0.STD 2).act 0x0E4 = false ∧ (std ≠ (s.ripe c BCAST0.STD 2).get BCAST0.STD ∨ khz ≠ (s.ripe c BCAST0.STD 2).get BCAST0.FREQ)) ∧
    (let s : State := ((((State.reset.set (HDR.ACT 0x0E4) 1).set CPLL.REF_OK 1).set BCAST0.FREQ_ACT 225648).setBc (fun b => { b with locked := true })); let c : Cls := .mgmt; let a : Nat := 0; let std : Nat := 0; let khz : Nat := 100000; std < 2 ∧ khz < 2 ^ 18 ∧ s.takes c BCAST0.STD (std * 2 ^ 30 + khz) = true ∧ s.takes c BCAST0.FREQ (std * 2 ^ 30 + khz) = true ∧ bandOk std khz = true ∧ (s.ripe c BCAST0.STD 2).act 0x0E4 = true ∧ std ≠ (s.ripe c BCAST0.STD 2).get BCAST0.STD) ∧
    (let s : State := ((((State.reset.set (HDR.ACT 0x0E4) 1).set CPLL.REF_OK 1).set BCAST0.FREQ_ACT 225648).setBc (fun b => { b with locked := true })); s.act 0x0E4 = true ∧ s.on CPLL.REF_OK = true) ∧
    (let s : State := ((((State.reset.set (HDR.ACT 0x0E4) 1).set CPLL.REF_OK 1).set BCAST0.FREQ_ACT 225648).setBc (fun b => { b with locked := true })).setBc (fun b => { b with feCal := true }); s.bc.feCal = true ∧ s.bc.locked = true) ∧
    (let s : State := ((((((((State.reset.set (HDR.ACT 0x0E4) 1).set CPLL.REF_OK 1).set BCAST0.FREQ_ACT 225648).setBc (fun b => { b with locked := true })).set BCAST0.STD 0).set BCAST0.FREQ_ACT 100000).set BCAST1.AF_CNT 3).set (BCAST1.AF 1) 50).setBc (fun b => { b with afNext := some 1 }); let lv : Int := -40; let i : Nat := 1; s.aniseRuns = true ∧ s.get BCAST0.STD = 0 ∧ s.on BCAST0.AF_EN = true ∧ 0 < s.get BCAST1.AF_CNT ∧ s.bc.afNext = some i ∧ s.bc.bars.any (fun x => x.1 == afKHz (s.get (BCAST1.AF i)) && decide (s.ao < x.2)) = false ∧ afKHz (s.get (BCAST1.AF i)) ≠ s.get BCAST0.FREQ_ACT ∧ s.aerLevel + (s.get BCAST0.AF_MARGIN : Int) < lv ∧ bandOk 0 (afKHz (s.get (BCAST1.AF i))) = true) ∧
    (let s : State := ((((((((State.reset.set (HDR.ACT 0x0E4) 1).set CPLL.REF_OK 1).set BCAST0.FREQ_ACT 225648).setBc (fun b => { b with locked := true })).set BCAST0.STD 0).set BCAST0.FREQ_ACT 100000).set BCAST1.AF_CNT 3).set (BCAST1.AF 1) 50).setBc (fun b => { b with afNext := some 1 }); let lv : Int := -125; let i : Nat := 1; s.aniseRuns = true ∧ s.get BCAST0.STD = 0 ∧ s.on BCAST0.AF_EN = true ∧ 0 < s.get BCAST1.AF_CNT ∧ s.bc.afNext = some i ∧ lv ≤ s.aerLevel + (s.get BCAST0.AF_MARGIN : Int)) ∧
    (let s : State := ((((((State.reset.set (HDR.ACT 0x0E4) 1).set CPLL.REF_OK 1).set BCAST0.FREQ_ACT 225648).setBc (fun b => { b with locked := true })).set BCAST0.STD 0).set BCAST0.FREQ_ACT 100000).setBc (fun b => { b with hop := some (90000, 7, 1) }); let pi : Nat := 8; let khz : Nat := 90000; let was : Nat := 7; let n : Nat := 1; s.bc.hop = some (khz, was, n) ∧ n ≤ 2 ∧ pi % 2 ^ 16 ≠ was) ∧
    (let s : State := ((((((State.reset.set (HDR.ACT 0x0E4) 1).set CPLL.REF_OK 1).set BCAST0.FREQ_ACT 225648).setBc (fun b => { b with locked := true })).set BCAST0.STD 0).set BCAST0.FREQ_ACT 100000).setBc (fun b => { b with hop := some (90000, 7, 2) }); let pi : Nat := 7; let khz : Nat := 90000; let was : Nat := 7; s.bc.hop = some (khz, was, 2) ∧ pi % 2 ^ 16 = was) ∧
    (let s : State := { ((((State.reset.set (HDR.ACT 0x0E4) 1).set CPLL.REF_OK 1).set BCAST0.FREQ_ACT 225648).setBc (fun b => { b with locked := true })).setBc (fun b => { b with lostAt := some 5, cand := ([222064], [174000, 5]) }) with ao := 1966080005 }; let t0 : Nat := 5; let k : Nat := 222064; let ks : List Nat := [174000]; s.act 0x0E4 = true ∧ s.get BCAST0.STD = 1 ∧ s.on BCAST0.AF_EN = true ∧ s.on BCAST0.SYNC = false ∧ s.bc.lostAt = some t0 ∧ t0 + 1966080000 ≤ s.ao ∧ s.followHeld = false ∧ s.bc.candAt = none ∧ (s.bc.cand.1 ++ s.bc.cand.2).filter (fun k => bandOk 1 k) = k :: ks) :=
  by and_intros <;> decide +kernel

theorem witness_AniseTuning_2 :
    (let s : State := (State.reset.set BCAST0.HOLD_FREQ 1).set BCAST2.CAL_VALID 1; s.followHeld = true) ∧
    (let s : State := { ((((State.reset.set (HDR.ACT 0x0E4) 1).set CPLL.REF_OK 1).set BCAST0.FREQ_ACT 225648).setBc (fun b => { b with locked := true })).setBc (fun b => { b with candAt := some 5, left := [174000] }) with ao := 294912005 }; let t0 : Nat := 5; let k : Nat := 174000; let ks : List Nat := []; s.bc.candAt = some t0 ∧ t0 + 294912000 ≤ s.ao ∧ s.on BCAST0.SYNC = false ∧ s.followHeld = false ∧ s.bc.left = k :: ks) ∧
    (let s : State := { ((((State.reset.set (HDR.ACT 0x0E4) 1).set CPLL.REF_OK 1).set BCAST0.FREQ_ACT 225648).setBc (fun b => { b with locked := true })).setBc (fun b => { b with candAt := some 5 }) with ao := 294912005 }; let t0 : Nat := 5; s.bc.candAt = some t0 ∧ t0 + 294912000 ≤ s.ao ∧ s.on BCAST0.SYNC = false ∧ s.followHeld = false ∧ s.bc.left = []) ∧
    (let s : State := State.reset; let c : Cls := .mgmt; s.triggered c BCAST2.CAL_GO = true) ∧
    (let s : State := State.reset.set BCAST2.CAL_VALID 1; let c : Cls := .mgmt; s.triggered c BCAST2.CAL_CLR = true) ∧
    (let s : State := { State.reset.set BCAST2.MEAS_VALID 1 with tb := 983040009, ani := { ms := [5], passed := some 9 } }; let t0 : Nat := 9; s.ani.passed = some t0 ∧ t0 + 983040000 ≤ s.tb ∧ s.get TIMEBASE.SRC_ACT ≠ 3) ∧
    (let s : State := State.reset.setBc (fun b => { b with queue := [[1], [2]] }); let c : Cls := .mgmt; s.triggered c BCAST3.POP = true ∧ (s.ripe c BCAST3.POP).bc.queue.length ≤ 64) ∧
    (let s : State := State.reset.setBc (fun b => { b with queue := [[1], [2]] }); let c : Cls := .mgmt; s.triggered c BCAST3.FLUSH = true) :=
  by and_intros <;> decide +kernel

theorem witness_AniseReception_1 :
    (let s : State := State.reset; let o : Nat := 0; let k : Bool := true; let q : Quality := ⟨-50, -50, 40, 40⟩; (s.aniseRuns = false ∨ s.get BCAST0.STD ≠ 0)) ∧
    (let s : State := ((((((State.reset.set (HDR.ACT 0x0E4) 1).set CPLL.REF_OK 1).set BCAST0.FREQ_ACT 225648).setBc (fun b => { b with locked := true })).set BCAST0.STD 0).set BCAST0.FREQ_ACT 100000).set BCAST1.RDS_SYNC 1; let o : Nat := 0; let q : Quality := ⟨-50, -50, 40, 40⟩; s.aniseRuns = true ∧ s.get BCAST0.STD = 0 ∧ (((s.qualNote q).divDecide q).weakNote).on BCAST1.RDS_SYNC = true) ∧
    (let s : State := ((((((State.reset.set (HDR.ACT 0x0E4) 1).set CPLL.REF_OK 1).set BCAST0.FREQ_ACT 225648).setBc (fun b => { b with locked := true })).set BCAST0.STD 0).set BCAST0.FREQ_ACT 100000).set BCAST1.RDS_SYNC 1; let o : Nat := 0; let q : Quality := ⟨-50, -50, 40, 40⟩; s.aniseRuns = true ∧ s.get BCAST0.STD = 0 ∧ (((s.qualNote q).divDecide q).weakNote).on BCAST1.RDS_SYNC = true ∧ (((s.qualNote q).divDecide q).weakNote).bc.bad < 11) ∧
    (let s : State := ((((((((State.reset.set (HDR.ACT 0x0E4) 1).set CPLL.REF_OK 1).set BCAST0.FREQ_ACT 225648).setBc (fun b => { b with locked := true })).set BCAST0.STD 0).set BCAST0.FREQ_ACT 100000).set BCAST1.RDS_SYNC 1).set BCAST0.SYNC 1).setBc (fun b => { b with bad := 11 }); let o : Nat := 0; let q : Quality := ⟨-50, -50, 40, 40⟩; s.aniseRuns = true ∧ s.get BCAST0.STD = 0 ∧ (((s.qualNote q).divDecide q).weakNote).on BCAST1.RDS_SYNC = true ∧ (((s.qualNote q).divDecide q).weakNote).bc.bad = 11 ∧ (((s.qualNote q).divDecide q).weakNote).on BCAST0.SYNC = true) ∧
    (let s : State := ((((((State.reset.set (HDR.ACT 0x0E4) 1).set CPLL.REF_OK 1).set BCAST0.FREQ_ACT 225648).setBc (fun b => { b with locked := true })).set BCAST0.STD 0).set BCAST0.FREQ_ACT 100000).setBc (fun b => { b with run := 2, lastOfs := 1 }); let o : Nat := 4; let q : Quality := ⟨-50, -50, 40, 40⟩; s.aniseRuns = true ∧ s.get BCAST0.STD = 0 ∧ (((s.qualNote q).divDecide q).weakNote).on BCAST1.RDS_SYNC = false ∧ 2 ≤ (((s.qualNote q).divDecide q).weakNote).bc.run ∧ ofsFollows (((s.qualNote q).divDecide q).weakNote).bc.lastOfs o = true) ∧
    (let s : State := State.reset; let a : Nat := 1; let b : Nat := 2; let c : Nat := 3; let d : Nat := 4; let k : Nat := 5; (s.aniseRuns = false ∨ s.get BCAST0.STD ≠ 0 ∨ s.on BCAST1.RDS_SYNC = false)) ∧
    (let s : State := ((((((((State.reset.set (HDR.ACT 0x0E4) 1).set CPLL.REF_OK 1).set BCAST0.FREQ_ACT 225648).setBc (fun b => { b with locked := true })).set BCAST0.STD 0).set BCAST0.FREQ_ACT 100000).set BCAST1.RDS_SYNC 1).set (BCAST3.TAG_EN) 0xFFFFFFFF); let a : Nat := 1; let b : Nat := 2 * 2048; let c : Nat := 0xE2; let d : Nat := 4; let k : Nat := 5; s.aniseRuns = true ∧ s.get BCAST0.STD = 0 ∧ s.on BCAST1.RDS_SYNC = true ∧ bits b 11 5 = 2 ∧ bits c 12 3 = 0 ∧ (s.get BCAST1.PTY = 31 ∨ (s.rdsHead a b).get BCAST1.PTY ≠ 31)) ∧
    (let s : State := ((((((((State.reset.set (HDR.ACT 0x0E4) 1).set CPLL.REF_OK 1).set BCAST0.FREQ_ACT 225648).setBc (fun b => { b with locked := true })).set BCAST0.STD 0).set BCAST0.FREQ_ACT 100000).set BCAST1.RDS_SYNC 1).set (BCAST3.TAG_EN) 0xFFFFFFFF); let a : Nat := 1; let b : Nat := 8 * 2048; let c : Nat := 0xE2; let d : Nat := 4; let k : Nat := 5; s.aniseRuns = true ∧ s.get BCAST0.STD = 0 ∧ s.on BCAST1.RDS_SYNC = true ∧ bits b 11 5 = 8 ∧ (s.get BCAST1.PTY = 31 ∨ (s.rdsHead a b).get BCAST1.PTY ≠ 31)) ∧
    (let s : State := ((((((((State.reset.set (HDR.ACT 0x0E4) 1).set CPLL.REF_OK 1).set BCAST0.FREQ_ACT 225648).setBc (fun b => { b with locked := true })).set BCAST0.STD 0).set BCAST0.FREQ_ACT 100000).set BCAST1.RDS_SYNC 1).set (BCAST3.TAG_EN) 0xFFFFFFFF); let a : Nat := 1; let b : Nat := 18 * 2048; let c : Nat := 0xE2; let d : Nat := 4; let k : Nat := 5; s.aniseRuns = true ∧ s.get BCAST0.STD = 0 ∧ s.on BCAST1.RDS_SYNC = true ∧ bits b 11 5 = 18) ∧
    (let s : State := ((((((((State.reset.set (HDR.ACT 0x0E4) 1).set CPLL.REF_OK 1).set BCAST0.FREQ_ACT 225648).setBc (fun b => { b with locked := true })).set BCAST0.STD 0).set BCAST0.FREQ_ACT 100000).set BCAST1.RDS_SYNC 1).set (BCAST3.TAG_EN) 0xFFFFFFFF); let a : Nat := 1; let b : Nat := 1 * 2048 + 2; let c : Nat := 0xE2; let d : Nat := 4; let k : Nat := 5; s.aniseRuns = true ∧ s.get BCAST0.STD = 0 ∧ s.on BCAST1.RDS_SYNC = true ∧ bits b 11 5 = 1 ∧ (s.get BCAST1.PTY = 31 ∨ (s.rdsHead a b).get BCAST1.PTY ≠ 31)) ∧
    (let s : State := ((((((((State.reset.set (HDR.ACT 0x0E4) 1).set CPLL.REF_OK 1).set BCAST0.FREQ_ACT 225648).setBc (fun b => { b with locked := true })).set BCAST0.STD 0).set BCAST0.FREQ_ACT 100000).set BCAST1.RDS_SYNC 1).set (BCAST3.TAG_EN) 0xFFFFFFFF); let a : Nat := 1; let b : Nat := 2; let c : Nat := 0xE2; let d : Nat := 4; let k : Nat := 5; s.aniseRuns = true ∧ s.get BCAST0.STD = 0 ∧ s.on BCAST1.RDS_SYNC = true ∧ bits b 11 5 = 0 ∧ (s.get BCAST1.PTY = 31 ∨ (s.rdsHead a b).get BCAST1.PTY ≠ 31)) ∧
    (let s : State := ((((State.reset.set (HDR.ACT 0x0E4) 1).set CPLL.REF_OK 1).set BCAST0.FREQ_ACT 225648).setBc (fun b => { b with locked := true })); let x : DabFrame := ⟨none, some (0xE1C0, 5, false), [], false, 1, [0], ⟨-50, -50, 40, 40⟩⟩; s.aniseRuns = true ∧ s.get BCAST0.STD = 1 ∧ x.prs = none) :=
  by and_intros <;> decide +kernel

theorem witness_AniseReception_2 :
    (let s : State := ((((State.reset.set (HDR.ACT 0x0E4) 1).set CPLL.REF_OK 1).set BCAST0.FREQ_ACT 225648).setBc (fun b => { b with locked := true })); let x : DabFrame := ⟨some 100000000, some (0xE1C0, 5, false), [], false, 1, [0], ⟨-50, -50, 40, 40⟩⟩; let f : Nat := 100000000; s.aniseRuns = true ∧ s.get BCAST0.STD = 1 ∧ x.prs = some f ∧ s.on BCAST0.SYNC = false ∧ s.bc.run < 2) ∧
    (let s : State := ((((State.reset.set (HDR.ACT 0x0E4) 1).set CPLL.REF_OK 1).set BCAST0.FREQ_ACT 225648).setBc (fun b => { b with locked := true })).setBc (fun b => { b with run := 2 }); let x : DabFrame := ⟨some 100000000, some (0xE1C0, 5, false), [], false, 1, [0], ⟨-50, -50, 40, 40⟩⟩; let f : Nat := 100000000; s.aniseRuns = true ∧ s.get BCAST0.STD = 1 ∧ x.prs = some f ∧ s.on BCAST0.SYNC = false ∧ 2 ≤ s.bc.run ∧ s.bc.candAt = none) ∧
    (let s : State := ((((State.reset.set (HDR.ACT 0x0E4) 1).set CPLL.REF_OK 1).set BCAST0.FREQ_ACT 225648).setBc (fun b => { b with locked := true })).set BCAST0.SYNC 1; let x : DabFrame := ⟨some 100000000, some (0xE1C0, 5, false), [⟨1, 0, [1, 2], []⟩], false, 1, [0], ⟨-50, -50, 40, 40⟩⟩; let f : Nat := 100000000; s.aniseRuns = true ∧ s.get BCAST0.STD = 1 ∧ x.prs = some f ∧ s.on BCAST0.SYNC = true) ∧
    (let s : State := (((((State.reset.set (HDR.ACT 0x0E4) 1).set CPLL.REF_OK 1).set BCAST0.FREQ_ACT 225648).setBc (fun b => { b with locked := true })).set BCAST0.SYNC 1).setBc (fun b => { b with bad := 5 }); s.get BCAST0.STD = 1 ∧ s.aniseRuns = true ∧ 5 ≤ s.bc.bad ∧ s.on BCAST0.SYNC = true) ∧
    (let s : State := ((((((State.reset.set (HDR.ACT 0x0E4) 1).set CPLL.REF_OK 1).set BCAST0.FREQ_ACT 225648).setBc (fun b => { b with locked := true })).set BCAST0.SYNC 1).set BCAST2.PKT_EN 1).setBc (fun b => { b with subs := [0] }); let ad : Nat := 5; let l : List Nat := [1]; let f : Nat := 9; s.aniseRuns = true ∧ s.get BCAST0.STD = 1 ∧ s.on BCAST0.SYNC = true ∧ s.on BCAST2.PKT_EN = true ∧ s.subLocated = true) ∧
    (let s : State := ((((((State.reset.set (HDR.ACT 0x0E4) 1).set CPLL.REF_OK 1).set BCAST0.FREQ_ACT 225648).setBc (fun b => { b with locked := true })).set BCAST0.SYNC 1).set BCAST2.PKT_EN 1).setBc (fun b => { b with subs := [0] }); let ad : Nat := 5; let l : List Nat := [1]; let f : Nat := 9; s.aniseRuns = true ∧ s.get BCAST0.STD = 1 ∧ s.on BCAST0.SYNC = true ∧ s.on BCAST2.PKT_EN = true ∧ s.subLocated = true ∧ (s.get BCAST2.PKT_ADDR = 1023 ∧ ad ≠ 0 ∨ s.get BCAST2.PKT_ADDR ≠ 1023 ∧ ad = s.get BCAST2.PKT_ADDR)) ∧
    (let s : State := ((((((State.reset.set (HDR.ACT 0x0E4) 1).set CPLL.REF_OK 1).set BCAST0.FREQ_ACT 225648).setBc (fun b => { b with locked := true })).set BCAST0.SYNC 1).set BCAST2.PKT_EN 1).setBc (fun b => { b with subs := [0] }); let ad : Nat := 0; let l : List Nat := [1]; let f : Nat := 9; s.aniseRuns = true ∧ s.get BCAST0.STD = 1 ∧ s.on BCAST0.SYNC = true ∧ s.on BCAST2.PKT_EN = true ∧ s.subLocated = true ∧ (s.get BCAST2.PKT_ADDR = 1023 ∧ ad = 0 ∨ s.get BCAST2.PKT_ADDR ≠ 1023 ∧ ad ≠ s.get BCAST2.PKT_ADDR)) :=
  by and_intros <;> decide +kernel

theorem witness_CaptureArms_1 :
    (let s : State := (State.reset.set (HDR.ACT 0x0EB) 1).set (CP.SRC_KIND 3) 6; let c : Cls := .mgmt; let k : Nat := 3; k < 8 ∧ s.triggered c (CP.ARM k) = true ∧ (s.ripe c (CP.ARM k)).act (capPage k) = true ∧ (s.ripe c (CP.ARM k)).on (CP.ARMED k) = false ∧ 5 ≤ (s.ripe c (CP.ARM k)).get (CP.SRC_KIND k) ∧ bitOf ((s.ripe c (CP.ARM k)).get (CP.SRC_MASK k)) 0 = false) ∧
    (let s : State := (State.reset.set (HDR.ACT 0x0EB) 1).set (CP.SIZE 3) 0; let c : Cls := .mgmt; let k : Nat := 3; k < 8 ∧ s.triggered c (CP.ARM k) = true ∧ (s.ripe c (CP.ARM k)).act (capPage k) = true ∧ (s.ripe c (CP.ARM k)).on (CP.ARMED k) = false ∧ (s.ripe c (CP.ARM k)).get (CP.SRC_KIND k) < 5 ∧ (s.ripe c (CP.ARM k)).capRegionOk k = false ∧ bitOf ((s.ripe c (CP.ARM k)).get (CP.SRC_MASK k)) 0 = false) ∧
    (let s : State := ((State.reset.set (HDR.ACT 0x0EB) 1).set (CP.WR_PTR 3) 64).set (CP.FULL 3) 1; let c : Cls := .mgmt; let k : Nat := 3; k < 8 ∧ s.triggered c (CP.ARM k) = true ∧ (s.ripe c (CP.ARM k)).act (capPage k) = true ∧ (s.ripe c (CP.ARM k)).on (CP.ARMED k) = false ∧ (s.ripe c (CP.ARM k)).caps.length = 8 ∧ (s.ripe c (CP.ARM k)).get (CP.SRC_KIND k) < 5 ∧ (s.ripe c (CP.ARM k)).capRegionOk k = true ∧ (s.ripe c (CP.ARM k)).on (CP.BUF_MODE k) = false ∧ bitOf ((s.ripe c (CP.ARM k)).get (CP.SRC_MASK k)) 0 = false) ∧
    (let s : State := ((State.reset.set (HDR.ACT 0x0EB) 1).set (CP.ARMED 3) 1); let c : Cls := .mgmt; let k : Nat := 3; k < 8 ∧ s.refusesPart c (CP.ARM k) 0 stPENDING = true) ∧
    (let s : State := ((State.reset.set (HDR.ACT 0x0EB) 1).set (CP.ARMED 3) 1); let c : Cls := .mgmt; let k : Nat := 3; k < 8 ∧ s.triggered c (CP.DISARM k) = true ∧ (s.ripe c (CP.DISARM k)).caps.length = 8 ∧ (s.ripe c (CP.DISARM k)).on (CP.ARMED k) = true ∧ ((s.ripe c (CP.DISARM k)).cap k).seg = none) ∧
    (let s : State := ((State.reset.set (HDR.ACT 0x0EB) 1).set (CP.ARMED 3) 1).setCap 3 (fun c => { c with seg := some { no := 0, hdr := 0, pos := 32, trig := 5, frac := 0, cause := 6, forced := false, first := 5, lo := 5, stop := 100, preAct := 0 }, feed := [⟨5, 1, 2, false, false⟩, ⟨6, 1, 2, false, false⟩] }); let c : Cls := .mgmt; let k : Nat := 3; let g : SegSt := { no := 0, hdr := 0, pos := 32, trig := 5, frac := 0, cause := 6, forced := false, first := 5, lo := 5, stop := 100, preAct := 0 }; k < 8 ∧ s.triggered c (CP.DISARM k) = true ∧ (s.ripe c (CP.DISARM k)).on (CP.ARMED k) = true ∧ ((s.ripe c (CP.DISARM k)).cap k).seg = some g) ∧
    (let s : State := ((State.reset.set (HDR.ACT 0x0EB) 1).set (CP.ARMED 3) 1).set (CP.SRC_MASK 3) 32; let c : Cls := .mgmt; let k : Nat := 3; k < 8 ∧ s.triggered c (CP.TRIG k) = true ∧ bitOf ((s.ripe c (CP.TRIG k)).get (CP.SRC_MASK k)) 5 = true) ∧
    (let s : State := ((State.reset.set (HDR.ACT 0x0EB) 1).set (CP.ARMED 3) 1); let c : Cls := .mgmt; let k : Nat := 3; k < 8 ∧ s.triggered c (CP.TRIG k) = true ∧ bitOf ((s.ripe c (CP.TRIG k)).get (CP.SRC_MASK k)) 5 = false) ∧
    (let s : State := { (((State.reset.set (HDR.ACT 0x0EB) 1).set (CP.ARMED 3) 1).set (CP.SRC_MASK 3) 16) with tb := 777, pwr := { State.reset.pwr with vio := 15 } }; let k : Nat := 3; let cause : Nat := 5; let fr : Nat := 9; let t0 : Nat := 777; let f : Nat := 9; k < 8 ∧ s.caps.length = 8 ∧ s.capSource k cause fr = some (t0, f) ∧ s.on (CP.ARMED k) = true ∧ s.on (CP.WIN_EN k) = false ∧ s.on (CP.BUF_MODE k) = false ∧ (s.cap k).seg = none ∧ (s.cap k).segEnd = none ∧ (s.cap k).lastTrig = none ∧ (s.get (CP.PRE k) = 0 ∨ (s.cap k).dpd = true) ∧ (s.cap k).armAt ≤ t0) ∧
    (let s : State := ({ (((State.reset.set (HDR.ACT 0x0EB) 1).set (CP.ARMED 3) 1).set (CP.SRC_MASK 3) 16) with tb := 777, pwr := { State.reset.pwr with vio := 15 } } : State).set (CP.PRE 3) 2 |>.setCap 3 (fun c => { c with feed := [⟨5, 1, 2, false, false⟩, ⟨6, 1, 2, false, false⟩, ⟨7, 3, 4, false, false⟩] }); let k : Nat := 3; let cause : Nat := 5; let fr : Nat := 9; let t0 : Nat := 777; let f : Nat := 9; k < 8 ∧ s.caps.length = 8 ∧ s.capSource k cause fr = some (t0, f) ∧ s.on (CP.ARMED k) = true ∧ s.on (CP.WIN_EN k) = false ∧ s.on (CP.BUF_MODE k) = false ∧ (s.cap k).dpd = false ∧ (s.cap k).seg = none ∧ (s.cap k).segEnd = none ∧ (s.cap k).lastTrig = none ∧ s.get (CP.PRE k) % 8192 ≤ (s.cap k).feed.length ∧ (s.cap k).armAt ≤ t0 ∧ (s.cap k).feed.all (fun y => decide ((s.cap k).armAt ≤ y.stamp) && decide (y.stamp < t0)) = true) ∧
    (let s : State := ({ (((State.reset.set (HDR.ACT 0x0EB) 1).set (CP.ARMED 3) 1).set (CP.SRC_MASK 3) 16) with tb := 777, pwr := { State.reset.pwr with vio := 15 } } : State).setCap 3 (fun c => { c with seg := some { no := 0, hdr := 0, pos := 32, trig := 5, frac := 0, cause := 6, forced := false, first := 5, lo := 5, stop := 1000, preAct := 0 } }); let k : Nat := 3; let cause : Nat := 5; let fr : Nat := 9; let t0 : Nat := 777; let f : Nat := 9; let g : SegSt := { no := 0, hdr := 0, pos := 32, trig := 5, frac := 0, cause := 6, forced := false, first := 5, lo := 5, stop := 1000, preAct := 0 }; k < 8 ∧ s.caps.length = 8 ∧ s.capSource k cause fr = some (t0, f) ∧ s.on (CP.ARMED k) = true ∧ s.on (CP.WIN_EN k) = false ∧ s.on (CP.BUF_MODE k) = false ∧ (s.cap k).seg = some g ∧ (g.trig ≠ t0 ∨ g.frac ≠ f)) ∧
    (let s : State := ({ (((State.reset.set (HDR.ACT 0x0EB) 1).set (CP.ARMED 3) 1).set (CP.SRC_MASK 3) 16) with tb := 777, pwr := { State.reset.pwr with vio := 15 } } : State).setCap 3 (fun c => { c with seg := some { no := 0, hdr := 0, pos := 32, trig := 777, frac := 0, cause := 6, forced := false, first := 5, lo := 5, stop := 1000, preAct := 0 } }); let k : Nat := 3; let cause : Nat := 5; let fr : Nat := 0; let t0 : Nat := 777; let f : Nat := 0; let g : SegSt := { no := 0, hdr := 0, pos := 32, trig := 777, frac := 0, cause := 6, forced := false, first := 5, lo := 5, stop := 1000, preAct := 0 }; k < 8 ∧ s.caps.length = 8 ∧ s.capSource k cause fr = some (t0, f) ∧ s.on (CP.ARMED k) = true ∧ s.on (CP.WIN_EN k) = false ∧ s.on (CP.BUF_MODE k) = false ∧ (s.cap k).seg = some g ∧ g.trig = t0 ∧ g.frac = f) :=
  by and_intros <;> decide +kernel

theorem witness_CaptureArms_2 :
    (let s : State := ({ (((State.reset.set (HDR.ACT 0x0EB) 1).set (CP.ARMED 3) 1).set (CP.SRC_MASK 3) 16) with tb := 777, pwr := { State.reset.pwr with vio := 15 } } : State).setCap 3 (fun c => { c with segEnd := some 600 }); let k : Nat := 3; let cause : Nat := 5; let fr : Nat := 9; let t0 : Nat := 777; let f : Nat := 9; let e : Nat := 600; k < 8 ∧ s.caps.length = 8 ∧ s.capSource k cause fr = some (t0, f) ∧ s.on (CP.ARMED k) = true ∧ s.on (CP.WIN_EN k) = false ∧ s.on (CP.BUF_MODE k) = false ∧ (s.cap k).seg = none ∧ (s.cap k).segEnd = some e ∧ t0 < e + 251) ∧
    (let s : State := State.reset; let k : Nat := 3; let cause : Nat := 5; let fr : Nat := 0; s.capSource k cause fr = none) ∧
    (let s : State := { (((State.reset.set (HDR.ACT 0x0EB) 1).set (CP.ARMED 3) 1).set (CP.AUTO_EN 3) 1) with tb := 1048576 }; let k : Nat := 3; s.on (CP.AUTO_EN k) = true ∧ (s.cap k).dpd = false ∧ (s.cap k).seg = none ∧ (s.cap k).segEnd = none ∧ (s.cap k).armAt + s.get (CP.AUTO_TO k) * 1024 ≤ s.tb) ∧
    (let s : State := { (((State.reset.set (HDR.ACT 0x0EB) 1).set (CP.ARMED 3) 1).setCap 3 (fun c => { c with seg := some { no := 0, hdr := 0, pos := 32, trig := 5, frac := 0, cause := 6, forced := false, first := 5, lo := 5, stop := 7, preAct := 0 }, feed := [⟨5, 1, 2, false, false⟩, ⟨6, 1, 2, false, false⟩] })) with tb := 777 }; let k : Nat := 3; let g : SegSt := { no := 0, hdr := 0, pos := 32, trig := 5, frac := 0, cause := 6, forced := false, first := 5, lo := 5, stop := 7, preAct := 0 }; k < 8 ∧ s.caps.length = 8 ∧ s.on (CP.ARMED k) = true ∧ s.on (CP.BUF_MODE k) = false ∧ (s.cap k).seg = some g ∧ g.stop ≤ s.tb) ∧
    (let s : State := ((State.reset.set (HDR.ACT 0x0EB) 1).set (CP.ARMED 3) 1).setCap 3 (fun c => { c with seg := some { no := 0, hdr := 0, pos := 32, trig := 5, frac := 0, cause := 6, forced := false, first := 5, lo := 5, stop := 7, preAct := 0 }, feed := [⟨5, 1, 2, false, false⟩, ⟨6, 1, 2, false, false⟩] }); let k : Nat := 3; let g : SegSt := { no := 0, hdr := 0, pos := 32, trig := 5, frac := 0, cause := 6, forced := false, first := 5, lo := 5, stop := 7, preAct := 0 }; (s.cap k).seg = some g ∧ s.on (CP.BUF_MODE k) = false ∧ s.tb < g.stop ∧ g.full = false) ∧
    (let s : State := ({ (((State.reset.set (HDR.ACT 0x0EB) 1).set (CP.ARMED 3) 1).setCap 3 (fun c => { c with seg := some { no := 0, hdr := 0, pos := 32, trig := 5, frac := 0, cause := 6, forced := false, first := 5, lo := 5, stop := 7, preAct := 0 }, feed := [⟨5, 1, 2, false, false⟩, ⟨6, 1, 2, false, false⟩] })) with tb := 777 } : State).set (CP.BUF_MODE 3) 1; let k : Nat := 3; let g : SegSt := { no := 0, hdr := 0, pos := 32, trig := 5, frac := 0, cause := 6, forced := false, first := 5, lo := 5, stop := 7, preAct := 0 }; (s.cap k).seg = some g ∧ s.on (CP.BUF_MODE k) = true) ∧
    (let s : State := (((State.reset.set (HDR.ACT 0x0EB) 1).set (CP.ARMED 3) 1).setCap 3 (fun c => { c with seg := some { no := 0, hdr := 0, pos := 32, trig := 5, frac := 0, cause := 6, forced := false, first := 5, lo := 5, stop := 1000, preAct := 0 }, feed := [⟨5, 1, 2, false, false⟩, ⟨6, 1, 2, false, false⟩] })).set (CP.BUF_MODE 3) 1; let k : Nat := 3; let first : Nat := 5; let res : Nat := 9; let g : SegSt := { no := 0, hdr := 0, pos := 32, trig := 5, frac := 0, cause := 6, forced := false, first := 5, lo := 5, stop := 1000, preAct := 0 }; k < 8 ∧ s.caps.length = 8 ∧ (s.cap k).seg = some g ∧ (s.cap k).feed.all (fun x => decide (first ≤ x.stamp) && decide (x.stamp < res)) = true ∧ (s.cap k).feed ≠ [] ∧ (s.cap k).lost = none ∧ g.block = [] ∧ s.on (CP.BUF_MODE k) = true) ∧
    (let s : State := State.reset; let k : Nat := 3; let first : Nat := 5; let res : Nat := 9; (s.cap k).seg = none ∧ (s.cap k).feed = [] ∧ (s.cap k).lost = none) ∧
    (let s : State := State.reset; let c : Cls := .mgmt; let a : Nat := 0; let k : Nat := 3; let v : Nat := 0x140; k < 8 ∧ s.accepts c (CP.RD_PTR k) v = true) :=
  by and_intros <;> decide +kernel

theorem witness_DmaChains_1 :
    (let s : State := ((State.reset.set (HDR.ACT 0x0F1) 1).set (HDR.ACT 0x0F3) 1).set (DMAC.STATE 2) 1; let q : Cls := .mgmt; let c : Nat := 2; let d : Nat := 0x30000000; c < 8 ∧ s.refusesPart q (DMAC.DESC c) (trunc 32 d) stPENDING = true) ∧
    (let s : State := ((State.reset.set (HDR.ACT 0x0F1) 1).set (HDR.ACT 0x0F3) 1).set (DMAC.STATE 5) 2; let q : Cls := .mgmt; let c : Nat := 2; let d : Nat := 0x30000000; c < 8 ∧ d < 2 ^ 32 ∧ s.triggered q (DMAC.DESC c) d = true ∧ (s.ripe q (DMAC.DESC c)).act (dmaPage c) = true ∧ (List.range 8).any (fun i => i != c && (s.ripe q (DMAC.DESC c)).get (DMAC.STATE i) == 2) = true) ∧
    (let s : State := ((State.reset.set (HDR.ACT 0x0F1) 1).set (HDR.ACT 0x0F3) 1); let q : Cls := .mgmt; let c : Nat := 2; let d : Nat := 0x30000004; c < 8 ∧ d < 2 ^ 32 ∧ s.triggered q (DMAC.DESC c) d = true ∧ (s.ripe q (DMAC.DESC c)).dmas.length = 8 ∧ (s.ripe q (DMAC.DESC c)).act (dmaPage c) = true ∧ (List.range 8).all (fun i => (s.ripe q (DMAC.DESC c)).get (DMAC.STATE i) == 0) = true ∧ descPlace d = false) ∧
    (let s : State := State.reset; let c : Nat := 2; s.get (DMAC.STATE (c % 8)) ≠ 2) ∧
    (let s : State := (State.setDma (((State.reset.set (HDR.ACT 0x0F1) 1).set (HDR.ACT 0x0F3) 1).set (DMAC.STATE 2) 2) 2 (fun x => { x with loaded := true, desc := 0x10000000, src := 0x10000100, dst := 0x10000200, len := 16, ctl := 2 ^ 31 })); let c : Nat := 2; c < 8 ∧ s.get (DMAC.STATE c) = 2 ∧ (s.dmaMove c (s.dma c).len 65536).1 = true ∧ bitOf ((s.dmaMove c (s.dma c).len 65536).2.dma c).ctl 29 = false ∧ bitOf (s.dma c).ctl 31 = true ∧ bitOf ((s.dmaMove c (s.dma c).len 65536).2.dma c).ctl 31 = true) ∧
    (let s : State := (State.setDma (((State.reset.set (HDR.ACT 0x0F1) 1).set (HDR.ACT 0x0F3) 1).set (DMAC.STATE 2) 2) 2 (fun x => { x with loaded := true, desc := 0x10000000, src := 0x10, dst := 0x10000200, len := 16, ctl := 2 ^ 31 })); let c : Nat := 2; c < 8 ∧ s.get (DMAC.STATE c) = 2 ∧ (s.dmaMove c (s.dma c).len 65536).1 = false) ∧
    (let s : State := (State.setDma ((((State.reset.set (HDR.ACT 0x0F1) 1).set (HDR.ACT 0x0F3) 1).set (DMAC.STATE 2) 3).set (CP.WR_PTR 0) 128) 2 (fun x => { x with loaded := true, desc := 0x30000000, dst := 0x30000200, len := 16, ctl := 2 ^ 31 + 1, water := 65536 })); let c : Nat := 2; c < 8 ∧ s.get (DMAC.STATE c) = 3 ∧ dmaHi (s.dma c) ≤ s.capFill ((s.dma c).ctl % 16 - 1)) ∧
    (let s : State := State.reset; let c : Nat := 2; c < 8 ∧ (s.get (DMAC.STATE c) ≠ 3 ∨ s.capFill ((s.dma c).ctl % 16 - 1) < dmaHi (s.dma c))) ∧
    (let s : State := State.reset; let q : Cls := .mgmt; let c : Nat := 2; c < 8 ∧ s.triggered q (DMAC.ABORT c) = true ∧ (s.ripe q (DMAC.ABORT c)).get (DMAC.STATE c) = 0) ∧
    (let s : State := ((State.reset.set (HDR.ACT 0x0F1) 1).set (HDR.ACT 0x0F3) 1).set (DMAC.STATE 2) 1; let q : Cls := .mgmt; let c : Nat := 2; c < 8 ∧ s.triggered q (DMAC.ABORT c) = true ∧ (s.ripe q (DMAC.ABORT c)).get (DMAC.STATE c) = 1 ∨ (s.ripe q (DMAC.ABORT c)).get (DMAC.STATE c) = 3 ∨ ((s.ripe q (DMAC.ABORT c)).get (DMAC.STATE c) = 2 ∧ ((s.ripe q (DMAC.ABORT c)).dma c).ctl % 16 ≠ 0)) ∧
    (let s : State := (State.setDma (((State.reset.set (HDR.ACT 0x0F1) 1).set (HDR.ACT 0x0F3) 1).set (DMAC.STATE 2) 2) 2 (fun x => { x with loaded := true, desc := 0x10000000, src := 0x10000100, dst := 0x10000200, len := 16, ctl := 2 ^ 31 })); let q : Cls := .mgmt; let c : Nat := 2; c < 8 ∧ s.triggered q (DMAC.ABORT c) = true ∧ (s.ripe q (DMAC.ABORT c)).get (DMAC.STATE c) = 2 ∧ ((s.ripe q (DMAC.ABORT c)).dma c).ctl % 16 = 0) ∧
    (let s : State := (State.setDma (((State.reset.set (HDR.ACT 0x0F1) 1).set (HDR.ACT 0x0F3) 1).set (DMAC.STATE 2) 2) 2 (fun x => { x with loaded := true, desc := 0x10000000, src := 0x10000100, dst := 0x10000200, len := 16, ctl := 2 ^ 31 })); let c : Nat := 2; let o : Nat := 8; let w : Bool := true; c < 8 ∧ s.get (DMAC.STATE c) = 2 ∧ (s.dma c).moved = 0 ∧ (s.dma c).len ≤ 256 ∧ 4 ≤ (s.dma c).len ∧ o < (s.dma c).len ∧ o % 4 = 0 ∧ (s.dma c).len % 4 = 0) :=
  by and_intros <;> decide +kernel

theorem witness_DmaChains_2 :
    (let s : State := State.reset; let c : Nat := 2; let o : Nat := 8; let w : Bool := true; s.get (DMAC.STATE (c % 8)) ≠ 2) :=
  by decide +kernel

theorem witness_CloveArithmetic_1 :
    (let s : State := ((((State.reset.set (HDR.ACT 0x102) 1).set (CLOVE.STATE 2) 1).writeWhole (programBase 2) [1, 196608]).setCore 2 (fun k => { k with acc := [5, 0x40000000000000, 7, 8], accV := [3, 0x7F000000000001, 0xFFFFFFFFFFFFF0, 9] })); let t : State := (s.coreFetch 2).2; let c : Nat := 2; let a : Nat := 1; let b : Nat := 2; s.fetches c (.alu 0 a b 0 ⟨none, none, none⟩) t = true ∧ (t.core c).acc.length = 4 ∧ a < 4) ∧
    (let s : State := ((((State.reset.set (HDR.ACT 0x102) 1).set (CLOVE.STATE 2) 1).writeWhole (programBase 2) [1, 720896]).setCore 2 (fun k => { k with acc := [5, 0x40000000000000, 7, 8], accV := [3, 0x7F000000000001, 0xFFFFFFFFFFFFF0, 9] })); let t : State := (s.coreFetch 2).2; let c : Nat := 2; let a : Nat := 1; let b : Nat := 2; s.fetches c (.alu 1 a b 0 ⟨none, none, none⟩) t = true ∧ (t.core c).acc.length = 4 ∧ a < 4) ∧
    (let s : State := ((((State.reset.set (HDR.ACT 0x102) 1).set (CLOVE.STATE 2) 1).writeWhole (programBase 2) [1, 1245184]).setCore 2 (fun k => { k with acc := [5, 0x40000000000000, 7, 8], accV := [3, 0x7F000000000001, 0xFFFFFFFFFFFFF0, 9] })); let t : State := (s.coreFetch 2).2; let c : Nat := 2; let a : Nat := 1; let b : Nat := 2; s.fetches c (.alu 2 a b 0 ⟨none, none, none⟩) t = true ∧ (t.core c).acc.length = 4 ∧ a < 4) ∧
    (let s : State := ((((State.reset.set (HDR.ACT 0x102) 1).set (CLOVE.STATE 2) 1).writeWhole (programBase 2) [1, 1769472]).setCore 2 (fun k => { k with acc := [5, 0x40000000000000, 7, 8], accV := [3, 0x7F000000000001, 0xFFFFFFFFFFFFF0, 9] })); let t : State := (s.coreFetch 2).2; let c : Nat := 2; let a : Nat := 1; let b : Nat := 2; s.fetches c (.alu 3 a b 0 ⟨none, none, none⟩) t = true ∧ (t.core c).acc.length = 4 ∧ a < 4) ∧
    (let s : State := ((((State.reset.set (HDR.ACT 0x102) 1).set (CLOVE.STATE 2) 1).writeWhole (programBase 2) [1, 2293760]).setCore 2 (fun k => { k with acc := [5, 0x40000000000000, 7, 8], accV := [3, 0x7F000000000001, 0xFFFFFFFFFFFFF0, 9] })); let t : State := (s.coreFetch 2).2; let c : Nat := 2; let a : Nat := 1; let b : Nat := 2; s.fetches c (.alu 4 a b 0 ⟨none, none, none⟩) t = true ∧ (t.core c).acc.length = 4 ∧ a < 4) ∧
    (let s : State := ((((State.reset.set (HDR.ACT 0x102) 1).set (CLOVE.STATE 2) 1).writeWhole (programBase 2) [1, 2752512]).setCore 2 (fun k => { k with acc := [5, 0x40000000000000, 7, 8], accV := [3, 0x7F000000000001, 0xFFFFFFFFFFFFF0, 9] })); let t : State := (s.coreFetch 2).2; let c : Nat := 2; let a : Nat := 1; s.fetches c (.alu 5 a 0 0 ⟨none, none, none⟩) t = true ∧ (t.core c).acc.length = 4 ∧ a < 4) ∧
    (let s : State := ((((State.reset.set (HDR.ACT 0x102) 1).set (CLOVE.STATE 2) 1).writeWhole (programBase 2) [1, 3276800]).setCore 2 (fun k => { k with acc := [5, 0x40000000000000, 7, 8], accV := [3, 0x7F000000000001, 0xFFFFFFFFFFFFF0, 9] })); let t : State := (s.coreFetch 2).2; let c : Nat := 2; let a : Nat := 1; s.fetches c (.alu 6 a 0 0 ⟨none, none, none⟩) t = true ∧ (t.core c).acc.length = 4 ∧ a < 4) ∧
    (let s : State := ((((State.reset.set (HDR.ACT 0x102) 1).set (CLOVE.STATE 2) 1).writeWhole (programBase 2) [1, 3801088]).setCore 2 (fun k => { k with acc := [5, 0x40000000000000, 7, 8], accV := [3, 0x7F000000000001, 0xFFFFFFFFFFFFF0, 9] })); let t : State := (s.coreFetch 2).2; let c : Nat := 2; let a : Nat := 1; s.fetches c (.alu 7 a 0 0 ⟨none, none, none⟩) t = true ∧ (t.core c).acc.length = 4 ∧ a < 4) ∧
    (let s : State := ((((State.reset.set (HDR.ACT 0x102) 1).set (CLOVE.STATE 2) 1).writeWhole (programBase 2) [1, 4335616]).setCore 2 (fun k => { k with acc := [5, 0x40000000000000, 7, 8], accV := [3, 0x7F000000000001, 0xFFFFFFFFFFFFF0, 9] })); let t : State := (s.coreFetch 2).2; let c : Nat := 2; let a : Nat := 1; let n : Nat := 20; s.fetches c (.alu 8 a 0 n ⟨none, none, none⟩) t = true ∧ (t.core c).acc.length = 4 ∧ a < 4 ∧ n ≤ 55) ∧
    (let s : State := ((((State.reset.set (HDR.ACT 0x102) 1).set (CLOVE.STATE 2) 1).writeWhole (programBase 2) [1, 4859904]).setCore 2 (fun k => { k with acc := [5, 0x40000000000000, 7, 8], accV := [3, 0x7F000000000001, 0xFFFFFFFFFFFFF0, 9] })); let t : State := (s.coreFetch 2).2; let c : Nat := 2; let a : Nat := 1; let n : Nat := 20; s.fetches c (.alu 9 a 0 n ⟨none, none, none⟩) t = true ∧ (t.core c).acc.length = 4 ∧ a < 4 ∧ n ≤ 55) ∧
    (let s : State := ((((State.reset.set (HDR.ACT 0x102) 1).set (CLOVE.STATE 2) 1).writeWhole (programBase 2) [1, 5378048]).setCore 2 (fun k => { k with acc := [5, 0x40000000000000, 7, 8], accV := [3, 0x7F000000000001, 0xFFFFFFFFFFFFF0, 9] })); let t : State := (s.coreFetch 2).2; let c : Nat := 2; let a : Nat := 1; let r : Nat := 8; s.fetches c (.alu 10 a 0 r ⟨none, none, none⟩) t = true ∧ (t.core c).acc.length = 4 ∧ a < 4) ∧
    (let s : State := ((((State.reset.set (HDR.ACT 0x102) 1).set (CLOVE.STATE 2) 1).writeWhole (programBase 2) [1, 5902336]).setCore 2 (fun k => { k with acc := [5, 0x40000000000000, 7, 8], accV := [3, 0x7F000000000001, 0xFFFFFFFFFFFFF0, 9] })); let t : State := (s.coreFetch 2).2; let c : Nat := 2; let a : Nat := 1; let r : Nat := 8; s.fetches c (.alu 11 a 0 r ⟨none, none, none⟩) t = true ∧ (t.core c).acc.length = 4 ∧ a < 4) :=
  by and_intros <;> decide +kernel

theorem witness_CloveArithmetic_2 :
    (let s : State := ((((State.reset.set (HDR.ACT 0x102) 1).set (CLOVE.STATE 2) 1).writeWhole (programBase 2) [1, 6488064]).setCore 2 (fun k => { k with acc := [5, 0x40000000000000, 7, 8], accV := [3, 0x7F000000000001, 0xFFFFFFFFFFFFF0, 9] })); let t : State := (s.coreFetch 2).2; let c : Nat := 2; let a : Nat := 1; let b : Nat := 2; s.fetches c (.alu 12 a b 0 ⟨none, none, none⟩) t = true ∧ (t.core c).acc.length = 4) ∧
    (let s : State := ((((State.reset.set (HDR.ACT 0x102) 1).set (CLOVE.STATE 2) 1).writeWhole (programBase 2) [1, 6950912]).setCore 2 (fun k => { k with acc := [5, 0x40000000000000, 7, 8], accV := [3, 0x7F000000000001, 0xFFFFFFFFFFFFF0, 9] })); let t : State := (s.coreFetch 2).2; let c : Nat := 2; let a : Nat := 1; let r : Nat := 8; s.fetches c (.alu 13 a 0 r ⟨none, none, none⟩) t = true ∧ (t.core c).acc.length = 4) ∧
    (let s : State := ((((State.reset.set (HDR.ACT 0x102) 1).set (CLOVE.STATE 2) 1).writeWhole (programBase 2) [1, 7475200]).setCore 2 (fun k => { k with acc := [5, 0x40000000000000, 7, 8], accV := [3, 0x7F000000000001, 0xFFFFFFFFFFFFF0, 9] })); let t : State := (s.coreFetch 2).2; let c : Nat := 2; let a : Nat := 1; let r : Nat := 8; s.fetches c (.alu 14 a 0 r ⟨none, none, none⟩) t = true ∧ (t.core c).acc.length = 4 ∧ a < 4) ∧
    (let s : State := ((((State.reset.set (HDR.ACT 0x102) 1).set (CLOVE.STATE 2) 1).writeWhole (programBase 2) [1, 7999488]).setCore 2 (fun k => { k with acc := [5, 0x40000000000000, 7, 8], accV := [3, 0x7F000000000001, 0xFFFFFFFFFFFFF0, 9] })); let t : State := (s.coreFetch 2).2; let c : Nat := 2; let a : Nat := 1; let r : Nat := 8; s.fetches c (.alu 15 a 0 r ⟨none, none, none⟩) t = true ∧ (t.core c).acc.length = 4 ∧ a < 4) ∧
    (let s : State := ((((State.reset.set (HDR.ACT 0x102) 1).set (CLOVE.STATE 2) 1).writeWhole (programBase 2) [1, 8523776]).setCore 2 (fun k => { k with acc := [5, 0x40000000000000, 7, 8], accV := [3, 0x7F000000000001, 0xFFFFFFFFFFFFF0, 9] })); let t : State := (s.coreFetch 2).2; let c : Nat := 2; let a : Nat := 1; let r : Nat := 8; s.fetches c (.alu 16 a 0 r ⟨none, none, none⟩) t = true ∧ (t.core c).acc.length = 4 ∧ a < 4) ∧
    (let s : State := ((((State.reset.set (HDR.ACT 0x102) 1).set (CLOVE.STATE 2) 1).writeWhole (programBase 2) [1, 9109504]).setCore 2 (fun k => { k with acc := [5, 0x40000000000000, 7, 8], accV := [3, 0x7F000000000001, 0xFFFFFFFFFFFFF0, 9] })); let t : State := (s.coreFetch 2).2; let c : Nat := 2; let a : Nat := 1; let b : Nat := 2; s.fetches c (.alu 17 a b 0 ⟨none, none, none⟩) t = true ∧ (t.core c).acc.length = 4 ∧ a < 4) ∧
    (let s : State := ((((State.reset.set (HDR.ACT 0x102) 1).set (CLOVE.STATE 2) 1).writeWhole (programBase 2) [1, 9633792]).setCore 2 (fun k => { k with acc := [5, 0x40000000000000, 7, 8], accV := [3, 0x7F000000000001, 0xFFFFFFFFFFFFF0, 9] })); let t : State := (s.coreFetch 2).2; let c : Nat := 2; let a : Nat := 1; let b : Nat := 2; s.fetches c (.alu 18 a b 0 ⟨none, none, none⟩) t = true ∧ (t.core c).acc.length = 4 ∧ a < 4) ∧
    (let s : State := ((((State.reset.set (HDR.ACT 0x102) 1).set (CLOVE.STATE 2) 1).writeWhole (programBase 2) [1, 10098688]).setCore 2 (fun k => { k with accV := [3, 0x007F0000000001, 0xFFFFFFFFFFFFF0, 9] })); let t : State := (s.coreFetch 2).2; let c : Nat := 2; let a : Nat := 1; let r : Nat := 12; s.fetches c (.alu 19 a 0 r ⟨none, none, none⟩) t = true ∧ (t.core c).acc.length = 4 ∧ (t.core c).i.length = 8 ∧ (t.core c).m.length = 8 ∧ (t.core c).k.length = 8 ∧ (t.core c).x.length = 4 ∧ (t.core c).y.length = 4 ∧ r < 42) ∧
    (let s : State := ((((State.reset.set (HDR.ACT 0x102) 1).set (CLOVE.STATE 2) 1).writeWhole (programBase 2) [0, 1490944]).setCore 2 (fun k => { k with x := [1, 0x800000, 3, 4], y := [5, 6, 0x800000, 8], acc := [0, 0, 0, 0x7FFFFFFFFFFFFF] })); let t : State := (s.coreFetch 2).2; let c : Nat := 2; let m : MacF := ⟨1, 1, 2, 3⟩; s.fetches c (.par (some m) none ⟨none, none, none⟩) t = true ∧ (t.core c).acc.length = 4 ∧ m.a < 4 ∧ m.op = 1) ∧
    (let s : State := ((((State.reset.set (HDR.ACT 0x102) 1).set (CLOVE.STATE 2) 1).writeWhole (programBase 2) [0, 2539520]).setCore 2 (fun k => { k with x := [1, 0x800000, 3, 4], y := [5, 6, 0x800000, 8], acc := [0, 0, 0, 0x7FFFFFFFFFFFFF] })); let t : State := (s.coreFetch 2).2; let c : Nat := 2; let m : MacF := ⟨2, 1, 2, 3⟩; s.fetches c (.par (some m) none ⟨none, none, none⟩) t = true ∧ (t.core c).acc.length = 4 ∧ m.a < 4 ∧ m.op = 2) ∧
    (let s : State := ((((State.reset.set (HDR.ACT 0x102) 1).set (CLOVE.STATE 2) 1).writeWhole (programBase 2) [0, 3588096]).setCore 2 (fun k => { k with x := [1, 0x800000, 3, 4], y := [5, 6, 0x800000, 8], acc := [0, 0, 0, 0x7FFFFFFFFFFFFF] })); let t : State := (s.coreFetch 2).2; let c : Nat := 2; let m : MacF := ⟨3, 1, 2, 3⟩; s.fetches c (.par (some m) none ⟨none, none, none⟩) t = true ∧ (t.core c).acc.length = 4 ∧ m.a < 4 ∧ m.op = 3) ∧
    (let s : State := ((((State.reset.set (HDR.ACT 0x102) 1).set (CLOVE.STATE 2) 1).writeWhole (programBase 2) [0, 2546432]).setCore 2 (fun k => { k with x := [1, 0x800000, 3, 4], y := [5, 6, 0x800000, 8] })); let t : State := (s.coreFetch 2).2; let c : Nat := 2; let m : MacF := ⟨2, 1, 2, 3⟩; let n : MacF := ⟨3, 1, 2, 0⟩; s.fetches c (.par (some m) (some n) ⟨none, none, none⟩) t = true ∧ (t.core c).acc.length = 4 ∧ m.a < 4 ∧ n.a < 4 ∧ m.a ≠ n.a) :=
  by and_intros <;> decide +kernel

theorem witness_CloveArithmetic_3 :
    (let s : State := (((((State.reset.set (HDR.ACT 0x102) 1).set (CLOVE.STATE 2) 1).writeWhole (programBase 2) [6815744, 18]).writeWhole (cloveX 2 + 4 * 77) [0x345678]).setCore 2 (fun k => { k with i := [0, 0, 0, 77, 0, 0, 0, 0], ig := [0, 0, 0, 77, 0, 0, 0, 0] })); let t : State := (s.coreFetch 2).2; let c : Nat := 2; let r : Nat := 2; let i : Nat := 3; let v : Nat := 0x345678; s.fetches c (.par none none ⟨some ⟨false, r, i, 1⟩, none, none⟩) t = true ∧ r < 4 ∧ i < 8 ∧ (t.core c).x.length = 4 ∧ (t.core c).i.length = 8 ∧ (t.core c).ig.length = 8 ∧ (t.core c).kg.getD i 0 = 0 ∧ (t.set (CLOVE.STATE c) 1).dataRead c false ((t.core c).ig.getD i 0) = (some v, (t.set (CLOVE.STATE c) 1))) :=
  by decide +kernel

theorem witness_CloveMoves :
    (let s : State := (((State.reset.set (HDR.ACT 0x102) 1).set (CLOVE.STATE 2) 1).writeWhole (programBase 2) [6188922, 3407877]); let t : State := (s.coreFetch 2).2; let c : Nat := 2; let r : Nat := 13; let v : Nat := 0xABCDEF; s.fetches c (.li r v) t = true ∧ (t.core c).acc.length = 4 ∧ (t.core c).i.length = 8 ∧ (t.core c).m.length = 8 ∧ (t.core c).k.length = 8 ∧ (t.core c).x.length = 4 ∧ (t.core c).y.length = 4 ∧ r < 42) ∧
    (let s : State := ((((State.reset.set (HDR.ACT 0x102) 1).set (CLOVE.STATE 2) 1).writeWhole (programBase 2) [3, 301568]).setCore 2 (fun k => { k with i := [1, 0x812345, 2, 3, 4, 5, 6, 7] })); let t : State := (s.coreFetch 2).2; let c : Nat := 2; let d : Nat := 9; let r : Nat := 13; s.fetches c (.mvs 0 d r 0) t = true ∧ (t.core c).acc.length = 4 ∧ (t.core c).i.length = 8 ∧ (t.core c).m.length = 8 ∧ (t.core c).k.length = 8 ∧ (t.core c).x.length = 4 ∧ (t.core c).y.length = 4 ∧ d < 42) ∧
    (let s : State := ((((State.reset.set (HDR.ACT 0x102) 1).set (CLOVE.STATE 2) 1).writeWhole (programBase 2) [6188923, 2523141]).setCore 2 (fun k => { k with i := [1, 0x812345, 2, 3, 4, 5, 6, 7] })); let t : State := (s.coreFetch 2).2; let c : Nat := 2; let d : Nat := 13; let v : Nat := 0xABCDEF; s.fetches c (.mvs 1 d 0 v) t = true ∧ (t.core c).acc.length = 4 ∧ (t.core c).i.length = 8 ∧ (t.core c).m.length = 8 ∧ (t.core c).k.length = 8 ∧ (t.core c).x.length = 4 ∧ (t.core c).y.length = 4 ∧ 12 ≤ d ∧ d < 36) ∧
    (let s : State := ((((State.reset.set (HDR.ACT 0x102) 1).set (CLOVE.STATE 2) 1).writeWhole (programBase 2) [3, 4624896]).setCore 2 (fun k => { k with i := [0, 77, 0, 0, 0, 0, 0, 0], ig := [0, 77, 0, 0, 0, 0, 0, 0], accV := [0, 0xF0123456789ABC, 0, 0] })); let t : State := (s.coreFetch 2).2; let c : Nat := 2; let d : Nat := 13; let r : Nat := 9; s.fetches c (.mvs 2 d r 0) t = true ∧ 12 ≤ d ∧ d < 20 ∧ 8 ≤ r ∧ r < 12 ∧ (t.core c).i.length = 8 ∧ (t.core c).ig.length = 8 ∧ (t.core c).kg.getD (d - 12) 0 = 0 ∧ (t.core c).ig.getD (d - 12) 0 + 3 < 0x10000 ∧ (t.set (CLOVE.STATE c) 1).isolated (16 + c) = false) ∧
    (let s : State := (((((State.reset.set (HDR.ACT 0x102) 1).set (CLOVE.STATE 2) 1).writeWhole (programBase 2) [3, 6593024]).writeWhole (cloveX 2 + 4 * 77) [0x111111, 0x222222, 0xFFFFF0]).setCore 2 (fun k => { k with i := [0, 77, 0, 0, 0, 0, 0, 0], ig := [0, 77, 0, 0, 0, 0, 0, 0] })); let t : State := (s.coreFetch 2).2; let c : Nat := 2; let d : Nat := 9; let r : Nat := 13; let v0 : Nat := 0x111111; let v1 : Nat := 0x222222; let v2 : Nat := 0xFFFFF0; s.fetches c (.mvs 3 d r 0) t = true ∧ 12 ≤ r ∧ r < 20 ∧ 8 ≤ d ∧ d < 12 ∧ (t.core c).i.length = 8 ∧ (t.core c).ig.length = 8 ∧ (t.core c).kg.getD (r - 12) 0 = 0 ∧ (t.core c).ig.getD (r - 12) 0 + 3 < 2 ^ 24 ∧ (t.set (CLOVE.STATE c) 1).dataRead c false ((t.core c).ig.getD (r - 12) 0 + 0) = (some v0, (t.set (CLOVE.STATE c) 1)) ∧ (t.set (CLOVE.STATE c) 1).dataRead c false ((t.core c).ig.getD (r - 12) 0 + 1) = (some v1, (t.set (CLOVE.STATE c) 1)) ∧ (t.set (CLOVE.STATE c) 1).dataRead c false ((t.core c).ig.getD (r - 12) 0 + 2) = (some v2, (t.set (CLOVE.STATE c) 1))) :=
  by and_intros <;> decide +kernel

theorem witness_CloveControl_1 :
    (let s : State := (((State.reset.set (HDR.ACT 0x102) 1).set (CLOVE.STATE 2) 1).writeWhole (programBase 2) [4, 0]); let t : State := (s.coreFetch 2).2; let c : Nat := 2; s.fetches c (.ctl 0 0 false 0 0 0) t = true) ∧
    (let s : State := (((State.reset.set (HDR.ACT 0x102) 1).set (CLOVE.STATE 2) 1).writeWhole (programBase 2) [796, 524288]); let t : State := (s.coreFetch 2).2; let c : Nat := 2; let n : Nat := 0; let a : Nat := 99; s.fetches c (.ctl 1 n false 0 0 a) t = true ∧ (t.core c).cond n = true) ∧
    (let s : State := (((State.reset.set (HDR.ACT 0x102) 1).set (CLOVE.STATE 2) 1).writeWhole (programBase 2) [796, 557056]); let t : State := (s.coreFetch 2).2; let c : Nat := 2; let n : Nat := 1; let a : Nat := 99; s.fetches c (.ctl 1 n false 0 0 a) t = true ∧ (t.core c).cond n = false) ∧
    (let s : State := (((State.reset.set (HDR.ACT 0x102) 1).set (CLOVE.STATE 2) 1).writeWhole (programBase 2) [796, 1048576]); let t : State := (s.coreFetch 2).2; let c : Nat := 2; let n : Nat := 0; let a : Nat := 99; s.fetches c (.ctl 2 n false 0 0 a) t = true ∧ (t.core c).cond n = true ∧ (t.core c).sd < 4) ∧
    (let s : State := ((((State.reset.set (HDR.ACT 0x102) 1).set (CLOVE.STATE 2) 1).writeWhole (programBase 2) [796, 1048576]).setCore 2 (fun k => { k with sr := 0x1000 })); let t : State := (s.coreFetch 2).2; let c : Nat := 2; let n : Nat := 0; let a : Nat := 99; s.fetches c (.ctl 2 n false 0 0 a) t = true ∧ (t.core c).cond n = true ∧ 4 ≤ (t.core c).sd) ∧
    (let s : State := (((State.reset.set (HDR.ACT 0x102) 1).set (CLOVE.STATE 2) 1).writeWhole (programBase 2) [796, 1081344]); let t : State := (s.coreFetch 2).2; let c : Nat := 2; let n : Nat := 1; let a : Nat := 99; s.fetches c (.ctl 2 n false 0 0 a) t = true ∧ (t.core c).cond n = false) ∧
    (let s : State := ((((State.reset.set (HDR.ACT 0x102) 1).set (CLOVE.STATE 2) 1).writeWhole (programBase 2) [4, 1572864]).setCore 2 (fun k => { k with sr := 0x400, stack := [123, 0, 0, 0] })); let t : State := (s.coreFetch 2).2; let c : Nat := 2; let n : Nat := 0; s.fetches c (.ctl 3 n false 0 0 0) t = true ∧ (t.core c).cond n = true ∧ 0 < (t.core c).sd ∧ (t.core c).sd ≤ 4) ∧
    (let s : State := (((State.reset.set (HDR.ACT 0x102) 1).set (CLOVE.STATE 2) 1).writeWhole (programBase 2) [4, 1572864]); let t : State := (s.coreFetch 2).2; let c : Nat := 2; let n : Nat := 0; s.fetches c (.ctl 3 n false 0 0 0) t = true ∧ (t.core c).cond n = true ∧ (t.core c).sd = 0) ∧
    (let s : State := (((State.reset.set (HDR.ACT 0x102) 1).set (CLOVE.STATE 2) 1).writeWhole (programBase 2) [4, 1605632]); let t : State := (s.coreFetch 2).2; let c : Nat := 2; let n : Nat := 1; s.fetches c (.ctl 3 n false 0 0 0) t = true ∧ (t.core c).cond n = false) ∧
    (let s : State := ((((State.reset.set (HDR.ACT 0x102) 1).set (CLOVE.STATE 2) 1).writeWhole (programBase 2) [4, 2097152]).setCore 2 (fun k => { k with spc := 55, ssr := 0x201 })); let t : State := (s.coreFetch 2).2; let c : Nat := 2; s.fetches c (.ctl 4 0 false 0 0 0) t = true) ∧
    (let s : State := (((State.reset.set (HDR.ACT 0x102) 1).set (CLOVE.STATE 2) 1).writeWhole (programBase 2) [1835804, 2621440]); let t : State := (s.coreFetch 2).2; let c : Nat := 2; let n : Nat := 7; let a : Nat := 99; s.fetches c (.ctl 5 0 false 0 n a) t = true ∧ 0 < n) ∧
    (let s : State := (((State.reset.set (HDR.ACT 0x102) 1).set (CLOVE.STATE 2) 1).writeWhole (programBase 2) [796, 2621440]); let t : State := (s.coreFetch 2).2; let c : Nat := 2; let a : Nat := 99; s.fetches c (.ctl 5 0 false 0 0 a) t = true) :=
  by and_intros <;> decide +kernel

theorem witness_CloveControl_2 :
    (let s : State := ((((State.reset.set (HDR.ACT 0x102) 1).set (CLOVE.STATE 2) 1).writeWhole (programBase 2) [796, 2641152]).setCore 2 (fun k => { k with i := [0, 77, 0, 0, 0, 0, 0, 0] })); let t : State := (s.coreFetch 2).2; let c : Nat := 2; let r : Nat := 13; let a : Nat := 99; s.fetches c (.ctl 5 0 true r 0 a) t = true ∧ (r < 8 ∨ 12 ≤ r) ∧ ((t.core c).read r).1 ≠ 0) ∧
    (let s : State := ((((State.reset.set (HDR.ACT 0x102) 1).set (CLOVE.STATE 2) 1).writeWhole (programBase 2) [4, 3145728]).set (CLOVE.SWAP_ARMED 2) 1); let t : State := (s.coreFetch 2).2; let c : Nat := 2; s.fetches c (.ctl 6 0 false 0 0 0) t = true ∧ t.swapDue c = true) ∧
    (let s : State := ((((State.reset.set (HDR.ACT 0x102) 1).set (CLOVE.STATE 2) 1).writeWhole (programBase 2) [4, 3670016]).set (CLOVE.SWAP_ARMED 2) 1); let t : State := (s.coreFetch 2).2; let c : Nat := 2; s.fetches c (.ctl 7 0 false 0 0 0) t = true ∧ t.swapDue c = true) ∧
    (let s : State := (((State.reset.set (HDR.ACT 0x102) 1).set (CLOVE.STATE 2) 1).writeWhole (programBase 2) [4, 3145728]); let t : State := (s.coreFetch 2).2; let c : Nat := 2; s.fetches c (.ctl 6 0 false 0 0 0) t = true ∧ t.swapDue c = false) ∧
    (let s : State := ((((State.reset.set (HDR.ACT 0x102) 1).set (CLOVE.STATE 2) 1).writeWhole (programBase 2) [4, 3670016]).setCore 2 (fun k => { k with ipend := 4 })); let t : State := (s.coreFetch 2).2; let c : Nat := 2; s.fetches c (.ctl 7 0 false 0 0 0) t = true ∧ t.swapDue c = false ∧ (t.core c).ipend ≠ 0) ∧
    (let s : State := (((State.reset.set (HDR.ACT 0x102) 1).set (CLOVE.STATE 2) 1).writeWhole (programBase 2) [4, 3670016]); let t : State := (s.coreFetch 2).2; let c : Nat := 2; s.fetches c (.ctl 7 0 false 0 0 0) t = true ∧ t.swapDue c = false ∧ (t.core c).ipend = 0) ∧
    (let s : State := (((State.reset.set (HDR.ACT 0x102) 1).set (CLOVE.STATE 2) 1).writeWhole (programBase 2) [4, 4194304]); let t : State := (s.coreFetch 2).2; let c : Nat := 2; s.fetches c (.ctl 8 0 false 0 0 0) t = true) ∧
    (let s : State := (((State.reset.set (HDR.ACT 0x102) 1).set (CLOVE.STATE 2) 1).writeWhole (programBase 2) [4, 4718592]); let t : State := (s.coreFetch 2).2; let c : Nat := 2; s.fetches c (.ctl 9 0 false 0 0 0) t = true) ∧
    (let s : State := (((State.reset.set (HDR.ACT 0x102) 1).set (CLOVE.STATE 2) 1).writeWhole (programBase 2) [4, 5242880]); let t : State := (s.coreFetch 2).2; let c : Nat := 2; s.fetches c (.ctl 10 0 false 0 0 0) t = true) ∧
    (let s : State := State.reset; let c : Nat := 2; s.coreRuns (c % 8) = false) :=
  by and_intros <;> decide +kernel

theorem witness_CloveIo_1 :
    (let s : State := ((State.reset.set (HDR.ACT 0x102) 1).set (CLOVE.STATE 2) 1).setCore 2 (fun k => { k with sr := 0x200, ipend := 2, imask := 6, pc := 40, ivec := 9, flight := [(2, 8, 5)] }); let c : Nat := 2; c < 8 ∧ s.cores.length = 8 ∧ s.coreRuns c = true ∧ bitOf (s.core c).sr srIE = true ∧ (s.core c).ipend &&& (s.core c).imask ≠ 0 ∧ (s.core c).branch = []) ∧
    (let s : State := State.reset; let c : Nat := 2; (bitOf (s.core (c % 8)).sr srIE = false ∨ (s.core (c % 8)).ipend &&& (s.core (c % 8)).imask = 0 ∨ (s.core (c % 8)).branch ≠ [])) ∧
    (let s : State := (((State.reset.set (HDR.ACT 0x102) 1).set (CLOVE.STATE 2) 1).writeWhole (programBase 2) [7, 0]); let t : State := (s.coreFetch 2).2; let c : Nat := 2; let w : Nat := 7; c < 8 ∧ s.coreRuns c = true ∧ s.coreFetch c = (some w, t) ∧ cloveDecode w = none) ∧
    (let s : State := State.reset; let c : Nat := 2; s.coreRuns (c % 8) = false) ∧
    (let s : State := ((State.reset.set (HDR.ACT 0x102) 1).set (CLOVE.STATE 2) 1).setCore 2 (fun k => { k with ipend := 7 }); let c : Nat := 2; let v : Nat := 5; c < 8 ∧ s.coreRuns c = true) ∧
    (let s : State := ((State.reset.set (HDR.ACT 0x102) 1).set (CLOVE.STATE 2) 1); let c : Nat := 2; let v : Nat := 5; c < 8 ∧ s.coreRuns c = true) ∧
    (let s : State := { ((State.reset.set (HDR.ACT 0x102) 1).set (CLOVE.STATE 2) 1) with tb := 2 ^ 40 + 5 }; let c : Nat := 2; c < 8 ∧ s.coreRuns c = true) ∧
    (let s : State := ((State.reset.set (HDR.ACT 0x102) 1).set (CLOVE.STATE 2) 1); let c : Nat := 2; let v : Nat := 5; c < 8 ∧ s.coreRuns c = true) ∧
    (let s : State := { ((State.reset.set (HDR.ACT 0x102) 1).set (CLOVE.STATE 2) 1).setCore 2 (fun k => { k with tcArm := true, tcmp := 5 }) with tbRun := true, tb := 5 }; let c : Nat := 2; c < 8 ∧ s.act (0x100 + c) = true ∧ (s.core c).tcArm = true ∧ s.tbRun = true ∧ (s.core c).tcmp ≤ s.tb) ∧
    (let s : State := State.reset; let c : Nat := 2; (s.core (c % 8)).tcArm = false ∨ s.tb < (s.core (c % 8)).tcmp) ∧
    (let s : State := ((State.reset.set (HDR.ACT 0x102) 1).set (CLOVE.STATE 2) 1).setCore 2 (fun k => { k with stream := [0x12345673, 9] }); let c : Nat := 2; let w : Nat := 0x12345673; let l : List Nat := [9]; c < 8 ∧ s.coreRuns c = true ∧ (s.core c).stream = w :: l) ∧
    (let s : State := ((State.reset.set (HDR.ACT 0x102) 1).set (CLOVE.STATE 2) 1); let c : Nat := 2; c < 8 ∧ s.coreRuns c = true ∧ (s.core c).stream = []) :=
  by and_intros <;> decide +kernel

theorem witness_CloveIo_2 :
    (let s : State := ((State.reset.set (HDR.ACT 0x102) 1).set (CLOVE.STATE 2) 1); let c : Nat := 2; c < 8 ∧ s.coreRuns c = true ∧ (s.core c).brRun = none) ∧
    (let s : State := ((State.reset.set (HDR.ACT 0x102) 1).set (CLOVE.STATE 2) 1).setCore 2 (fun k => { k with brRun := some true }); let c : Nat := 2; c < 8 ∧ s.coreRuns c = true ∧ s.cores.length = 8 ∧ (s.core c).brRun.isSome = true) ∧
    (let s : State := ((State.reset.set (HDR.ACT 0x102) 1).set (CLOVE.STATE 2) 1); let c : Nat := 2; c < 8 ∧ s.coreRuns c = true ∧ (s.core c).brRun = none) ∧
    (let s : State := ((State.reset.set (HDR.ACT 0x102) 1).set (CLOVE.STATE 2) 1).setCore 2 (fun k => { k with brRun := some true }); let c : Nat := 2; c < 8 ∧ s.coreRuns c = true ∧ s.cores.length = 8 ∧ (s.core c).brRun.isSome = true) ∧
    (let s : State := { ((State.reset.set (HDR.ACT 0x102) 1).set (CLOVE.STATE 2) 1) with sems := 8 }; let c : Nat := 2; let n : Nat := 3; c < 8 ∧ s.coreRuns c = true ∧ n < 32) ∧
    (let s : State := { ((State.reset.set (HDR.ACT 0x102) 1).set (CLOVE.STATE 2) 1) with sems := 8 }; let c : Nat := 2; let n : Nat := 3; c < 8 ∧ s.coreRuns c = true ∧ n < 32) ∧
    (let s : State := State.reset; let c : Nat := 2; let n : Nat := 3; s.coreRuns (c % 8) = false) ∧
    (let s : State := State.reset; let c : Nat := 2; let n : Nat := 3; s.coreRuns (c % 8) = false) ∧
    (let s : State := ((State.reset.set (HDR.ACT 0x102) 1).set (CLOVE.STATE 2) 1).setCore 2 (fun k => { k with brRun := some true, brAddr := 0x40100004, brData := 5 }); let c : Nat := 2; c < 8 ∧ (s.core c).brRun = some true) ∧
    (let s : State := ((State.reset.set (HDR.ACT 0x102) 1).set (CLOVE.STATE 2) 1).setCore 2 (fun k => { k with brRun := some false, brAddr := 0x40000010 }); let c : Nat := 2; c < 8 ∧ (s.core c).brRun = some false) ∧
    (let s : State := State.reset; let c : Nat := 2; c < 8 ∧ (s.core c).brRun = none) :=
  by and_intros <;> decide +kernel

theorem witness_CloveKernels_1 :
    (let s : State := ((State.reset.set (HDR.ACT 0x102) 1).set (CLOVE.STATE 2) 1); let a : Nat := 0; let c : Nat := 2; c < 8 ∧ s.takes .mgmt (CLOVE.HITLESS c) (2 ^ 31 + 0) = true ∧ s.takes .mgmt (CLOVE.LOAD c) (2 ^ 31 + 0) = true ∧ (s.ripe .mgmt (CLOVE.HITLESS c) 2).cores.length = 8 ∧ (s.ripe .mgmt (CLOVE.HITLESS c) 2).act (0x100 + c) = true) ∧
    (let s : State := ((State.reset.set (HDR.ACT 0x102) 1).set (CLOVE.STATE 2) 1).set (CLOVE.LOAD_BUSY 2) 1; let a : Nat := 0; let c : Nat := 2; c < 8 ∧ s.takes .mgmt (CLOVE.HITLESS c) (2 ^ 31 + 0) = true ∧ s.refusesPart .mgmt (CLOVE.LOAD c) (2 ^ 31 + 0) stPENDING = true) ∧
    (let s : State := ((State.reset.set (HDR.ACT 0x102) 1).set (CLOVE.STATE 2) 1); let a : Nat := 0; let c : Nat := 2; c < 8 ∧ s.takes .mgmt (CLOVE.HITLESS c) (2 ^ 31 + 1) = true ∧ s.takes .mgmt (CLOVE.LOAD c) (2 ^ 31 + 1) = true ∧ (s.ripe .mgmt (CLOVE.HITLESS c) 2).cores.length = 8 ∧ (s.ripe .mgmt (CLOVE.HITLESS c) 2).act (0x100 + c) = true) ∧
    (let s : State := ((State.reset.set (HDR.ACT 0x102) 1).set (CLOVE.STATE 2) 1).set (CLOVE.LOAD_BUSY 2) 1; let a : Nat := 0; let c : Nat := 2; c < 8 ∧ s.takes .mgmt (CLOVE.HITLESS c) (2 ^ 31 + 1) = true ∧ s.refusesPart .mgmt (CLOVE.LOAD c) (2 ^ 31 + 1) stPENDING = true) ∧
    (let s : State := State.reset; let c : Nat := 2; c < 8 ∧ s.on (CLOVE.LOAD_BUSY c) = false) ∧
    (let s : State := ((State.reset.set (HDR.ACT 0x102) 1).set (CLOVE.STATE 2) 1).set (CLOVE.LOAD_BUSY 2) 1; let u : State := ((s.set (CLOVE.LOAD_BUSY 2) 0).kernelRead (s.get (CLOVE.LOAD_ADDR 2) / 4 * 4) 48).2; let c : Nat := 2; c < 8 ∧ s.on (CLOVE.LOAD_BUSY c) = true ∧ (s.set (CLOVE.LOAD_BUSY c) 0).kernelRead (s.get (CLOVE.LOAD_ADDR c) / 4 * 4) 48 = (none, u)) ∧
    (let s : State := (((State.reset.set (HDR.ACT 0x102) 1).set (CLOVE.STATE 2) 1).set (CLOVE.LOAD_BUSY 2) 1).set (CLOVE.LOAD_ADDR 2) 0x10000000; let u : State := ((s.set (CLOVE.LOAD_BUSY 2) 0).kernelRead (s.get (CLOVE.LOAD_ADDR 2) / 4 * 4) 48).2; let c : Nat := 2; let h : List Nat := List.replicate 48 0; c < 8 ∧ s.on (CLOVE.LOAD_BUSY c) = true ∧ (s.set (CLOVE.LOAD_BUSY c) 0).kernelRead (s.get (CLOVE.LOAD_ADDR c) / 4 * 4) 48 = (some h, u) ∧ h.getD 0 0 ≠ 0x4B564C43) ∧
    (let s : State := (((State.reset.set (HDR.ACT 0x102) 1).set (CLOVE.LOAD_BUSY 2) 1).set (CLOVE.LOAD_ADDR 2) 0x10000000).setWords 0x10000000 ([0x4B564C43, 0, 1, 0, 0, 3, 4] ++ List.replicate 41 0 ++ [4, 0]); let u : State := ((s.set (CLOVE.LOAD_BUSY 2) 0).kernelRead (s.get (CLOVE.LOAD_ADDR 2) / 4 * 4) 48).2; let v : State := (u.kernelRead (s.get (CLOVE.LOAD_ADDR 2) / 4 * 4 + 192) 2).2; let c : Nat := 2; let h : List Nat := [0x4B564C43, 0, 1, 0, 0, 3, 4] ++ List.replicate 41 0; let b : List Nat := [4, 0]; c < 8 ∧ s.on (CLOVE.LOAD_BUSY c) = true ∧ (s.set (CLOVE.LOAD_BUSY c) 0).kernelRead (s.get (CLOVE.LOAD_ADDR c) / 4 * 4) 48 = (some h, u) ∧ h.getD 0 0 = 0x4B564C43 ∧ 0 < h.getD 2 0 ∧ h.getD 2 0 ≤ 32768 ∧ h.getD 3 0 ≤ 65536 ∧ h.getD 4 0 ≤ 65536 ∧ u.kernelRead (s.get (CLOVE.LOAD_ADDR c) / 4 * 4 + 192) (2 * h.getD 2 0 + h.getD 3 0 + h.getD 4 0) = (some b, v)) ∧
    (let s : State := ((State.reset.set (HDR.ACT 0x102) 1).set (CLOVE.STATE 2) 1); let a : Nat := 0; let c : Nat := 2; let v : Nat := 0; c < 8 ∧ s.accepts .mgmt (CLOVE.RUN c) v = true ∧ v % 2 = 0) ∧
    (let s : State := (State.reset.set (HDR.ACT 0x102) 1).setCore 2 (fun k => { k with entry := 77, sr := 3 }); let a : Nat := 0; let c : Nat := 2; let v : Nat := 1; c < 8 ∧ s.accepts .mgmt (CLOVE.RUN c) v = true ∧ v % 2 = 1 ∧ (s.ripe .mgmt (CLOVE.RUN c)).cores.length = 8 ∧ (s.ripe .mgmt (CLOVE.RUN c)).get (CLOVE.STATE c) = 0 ∧ (s.ripe .mgmt (CLOVE.RUN c)).act (0x100 + c) = true) ∧
    (let s : State := ((State.reset.set (HDR.ACT 0x102) 1).set (CLOVE.STATE 2) 1); let a : Nat := 0; let c : Nat := 2; let v : Nat := 1; c < 8 ∧ s.accepts .mgmt (CLOVE.RUN c) v = true ∧ v % 2 = 1 ∧ (s.ripe .mgmt (CLOVE.RUN c)).get (CLOVE.STATE c) ≠ 0 ∨ (s.ripe .mgmt (CLOVE.RUN c)).act (0x100 + c) = false) ∧
    (let s : State := State.reset; let q : Cls := .mgmt; let c : Nat := 2; c < 8 ∧ s.triggered q (CLOVE.MBOX_IRQ c) = true) :=
  by and_intros <;> decide +kernel

theorem witness_CloveKernels_2 :
    (let s : State := State.reset; let q : Cls := .mgmt; let c : Nat := 2; c < 8 ∧ s.triggered q (CLOVE.SWAP_GO c) = true ∧ (s.ripe q (CLOVE.SWAP_GO c)).on (CLOVE.SWAP_READY c) = false) ∧
    (let s : State := (State.reset.set (CLOVE.SWAP_READY 2) 1).set (CLOVE.SWAP_TB_LO 2) 5000; let q : Cls := .mgmt; let c : Nat := 2; c < 8 ∧ s.triggered q (CLOVE.SWAP_GO c) = true ∧ (s.ripe q (CLOVE.SWAP_GO c)).on (CLOVE.SWAP_READY c) = true ∧ (s.ripe q (CLOVE.SWAP_GO c)).tb ≤ (s.ripe q (CLOVE.SWAP_GO c)).get64 (CLOVE.SWAP_TB_LO c) (CLOVE.SWAP_TB_HI c)) ∧
    (let s : State := { State.reset.set (CLOVE.SWAP_READY 2) 1 with tb := 2048 }; let q : Cls := .mgmt; let c : Nat := 2; c < 8 ∧ s.triggered q (CLOVE.SWAP_GO c) = true ∧ (s.ripe q (CLOVE.SWAP_GO c)).on (CLOVE.SWAP_READY c) = true ∧ (s.ripe q (CLOVE.SWAP_GO c)).get64 (CLOVE.SWAP_TB_LO c) (CLOVE.SWAP_TB_HI c) < (s.ripe q (CLOVE.SWAP_GO c)).tb) ∧
    (let s : State := ((State.reset.set (HDR.ACT 0x102) 1).set (CLOVE.SWAP_ARMED 2) 1 |>.set (CLOVE.RUN 2) 1).setCore 2 (fun k => { k with nEntry := 9, nVer := 5 }); let c : Nat := 2; c < 8 ∧ s.act (0x100 + c) = true ∧ s.swapDue c = true ∧ s.coreState c ≠ 1 ∧ s.cores.length = 8 ∧ s.on (CLOVE.RUN c) = true) ∧
    (let s : State := State.reset; let c : Nat := 2; s.swapDue (c % 8) = false) ∧
    (let s : State := { State.reset.set (CLOVE.SWAP_ARMED 2) 1 with tb := 2 ^ 40 }; let c : Nat := 2; c < 8 ∧ s.on (CLOVE.SWAP_ARMED c) = true ∧ (s.core c).beta + max 1 (s.get (CLOVE.SWAP_TO c)) * 2 ^ 20 ≤ s.tb) ∧
    (let s : State := State.reset; let c : Nat := 2; s.on (CLOVE.SWAP_ARMED (c % 8)) = false) :=
  by and_intros <;> decide +kernel

theorem witness_Pepper_1 :
    (let s : State := State.reset.setMgmt (fun m => { m with dcache := [⟨0x10000040, 0, true, [1, 2, 3, 4, 5, 6, 7, 8]⟩] }); let a : Nat := 0x10000044; let w : Nat := 0; let l : CacheLine := ⟨0x10000040, 0, true, [1, 2, 3, 4, 5, 6, 7, 8]⟩; a < 2 ^ 32 ∧ s.lineOf a = some l ∧ l.dirty = true ∧ (List.range 4).all (fun w => s.eccOf 33 (l.code w) == 0) = true) ∧
    (let s : State := State.reset.setMgmt (fun m => { m with dcache := [⟨0x10000040, 0, true, [1, 2, 3, 4, 5, 6, 7, 8]⟩] }); let a : Nat := 0x10000044; let w : Nat := 1; let e : Nat := 80; let l : CacheLine := ⟨0x10000040, 0, true, [1, 2, 3, 4, 5, 6, 7, 8]⟩; a < 2 ^ 32 ∧ s.lineOf a = some l ∧ l.dirty = true ∧ w < 4 ∧ 73 ≤ e) ∧
    (let s : State := State.reset.setMgmt (fun m => { m with dcache := [⟨0x10000040, 0, false, [1, 2, 3, 4, 5, 6, 7, 8]⟩] }); let a : Nat := 0x10000044; let w : Nat := 0; let l : CacheLine := ⟨0x10000040, 0, false, [1, 2, 3, 4, 5, 6, 7, 8]⟩; a < 2 ^ 32 ∧ s.lineOf a = some l ∧ l.dirty = false) ∧
    (let s : State := State.reset; let a : Nat := 0x10000044; let w : Nat := 0; let e : Nat := 3; a < 2 ^ 32 ∧ s.lineOf a = none) ∧
    (let s : State := State.reset.setMgmt (fun m => { m with dcache := [⟨0x10000040, 0, true, [1, 2, 3, 4, 5, 6, 7, 8]⟩] }); let a : Nat := 0x10000044; let w : Nat := 0; let l : CacheLine := ⟨0x10000040, 0, true, [1, 2, 3, 4, 5, 6, 7, 8]⟩; a < 2 ^ 32 ∧ s.lineOf a = some l ∧ l.dirty = true ∧ (List.range 4).all (fun w => s.eccOf 33 (l.code w) == 0) = true) ∧
    (let s : State := State.reset.setMgmt (fun m => { m with dcache := [⟨0x10000040, 0, false, [1, 2, 3, 4, 5, 6, 7, 8]⟩] }); let a : Nat := 0x10000044; let w : Nat := 0; let l : CacheLine := ⟨0x10000040, 0, false, [1, 2, 3, 4, 5, 6, 7, 8]⟩; a < 2 ^ 32 ∧ s.lineOf a = some l ∧ l.dirty = false) ∧
    (let s : State := (State.reset.set MGMT.MTIMECMP_LO 0).set MGMT.MTIMECMP_HI 0; s.get64 MGMT.MTIMECMP_LO MGMT.MTIMECMP_HI ≤ s.uptimeUs % 2 ^ 64) ∧
    (let s : State := State.reset; s.uptimeUs % 2 ^ 64 < s.get64 MGMT.MTIMECMP_LO MGMT.MTIMECMP_HI) ∧
    (let s : State := { State.reset with ao := 77 }; let c : Cls := .mgmt; let a : Nat := 0; s.accepts c MGMT.WD_EN 1 = true ∧ (s.ripe c MGMT.WD_EN).on MGMT.WD_EN = false) ∧
    (let s : State := { State.reset.set MGMT.WD_EN 1 with ao := 77 }; let c : Cls := .mgmt; let a : Nat := 0; s.accepts c MGMT.WD_EN 1 = true ∧ (s.ripe c MGMT.WD_EN).on MGMT.WD_EN = true) ∧
    (let s : State := { State.reset.set MGMT.WD_EN 1 with ao := 77 }; let c : Cls := .mgmt; s.triggered c MGMT.KICK 0x5A = true ∧ (s.ripe c MGMT.KICK).on MGMT.WD_EN = true) ∧
    (let s : State := State.reset; let c : Cls := .mgmt; s.triggered c MGMT.KICK 0x5A = true ∧ (s.ripe c MGMT.KICK).on MGMT.WD_EN = false) :=
  by and_intros <;> decide +kernel

theorem witness_Pepper_2 :
    (let s : State := State.reset; let c : Cls := .mgmt; let v : Nat := 0x5B; v < 256 ∧ s.triggered c MGMT.KICK v = true ∧ v ≠ 0x5A) ∧
    (let s : State := { ((State.reset.set MGMT.WD_EN 1).set DEVICE.BOOT_OK_SEEN 1).set MGMT.RUNNING 1 with ao := 10 ^ 12 }; let f : Nat := 0; s.on MGMT.WD_EN = true ∧ s.on DEVICE.BOOT_OK_SEEN = true ∧ s.on MGMT.RUNNING = true ∧ s.deaf = false ∧ s.mgmt.wdAt + max 1 (s.get MGMT.WD_PERIOD) * 9830400 ≤ s.ao) ∧
    (let s : State := State.reset; let f : Nat := 0; (s.on MGMT.WD_EN = false ∨ s.ao < s.mgmt.wdAt + max 1 (s.get MGMT.WD_PERIOD) * 9830400)) :=
  by and_intros <;> decide +kernel

theorem witness_Updates_1 :
    (let s : State := (State.reset.set (HDR.ACT 0x112) 1); let c : Cls := .mgmt; let a : Nat := 1; a < 256 ∧ s.takes c UPDATE.OP (2 ^ 31 + 256 + a) = true ∧ s.takes c UPDATE.ARG (2 ^ 31 + 256 + a) = true ∧ s.takes c UPDATE.GO (2 ^ 31 + 256 + a) = true ∧ (s.ripe c UPDATE.OP 3).act 0x112 = true ∧ (s.ripe c UPDATE.OP 3).on UPDATE.BUSY = false ∧ (s.ripe c UPDATE.OP 3).mgmtDown = false) ∧
    (let s : State := (State.reset.set (HDR.ACT 0x112) 1).set UPDATE.BUSY 1; let c : Cls := .mgmt; let a : Nat := 1; a < 256 ∧ s.takes c UPDATE.OP (2 ^ 31 + 256 + a) = true ∧ s.takes c UPDATE.ARG (2 ^ 31 + 256 + a) = true ∧ s.takes c UPDATE.GO (2 ^ 31 + 256 + a) = true ∧ (s.ripe c UPDATE.OP 3).act 0x112 = true ∧ (s.ripe c UPDATE.OP 3).on UPDATE.BUSY = true) ∧
    (let s : State := State.reset.set (HDR.ACT 0x112) 0; let c : Cls := .mgmt; let a : Nat := 1; a < 256 ∧ s.takes c UPDATE.OP (2 ^ 31 + 256 + a) = true ∧ s.takes c UPDATE.ARG (2 ^ 31 + 256 + a) = true ∧ s.takes c UPDATE.GO (2 ^ 31 + 256 + a) = true ∧ (s.ripe c UPDATE.OP 3).act 0x112 = false) ∧
    (let s : State := (State.reset.set (HDR.ACT 0x112) 1); let c : Cls := .mgmt; let a : Nat := 1; a < 256 ∧ s.takes c UPDATE.OP (2 ^ 31 + 512 + a) = true ∧ s.takes c UPDATE.ARG (2 ^ 31 + 512 + a) = true ∧ s.takes c UPDATE.GO (2 ^ 31 + 512 + a) = true ∧ (s.ripe c UPDATE.OP 3).act 0x112 = true ∧ (s.ripe c UPDATE.OP 3).on UPDATE.BUSY = false ∧ (s.ripe c UPDATE.OP 3).mgmtDown = false) ∧
    (let s : State := (State.reset.set (HDR.ACT 0x112) 1).set UPDATE.BUSY 1; let c : Cls := .mgmt; let a : Nat := 1; a < 256 ∧ s.takes c UPDATE.OP (2 ^ 31 + 512 + a) = true ∧ s.takes c UPDATE.ARG (2 ^ 31 + 512 + a) = true ∧ s.takes c UPDATE.GO (2 ^ 31 + 512 + a) = true ∧ (s.ripe c UPDATE.OP 3).act 0x112 = true ∧ (s.ripe c UPDATE.OP 3).on UPDATE.BUSY = true) ∧
    (let s : State := (State.reset.set (HDR.ACT 0x112) 1); let c : Cls := .mgmt; let a : Nat := 1; a < 256 ∧ s.takes c UPDATE.OP (2 ^ 31 + 768 + a) = true ∧ s.takes c UPDATE.ARG (2 ^ 31 + 768 + a) = true ∧ s.takes c UPDATE.GO (2 ^ 31 + 768 + a) = true ∧ (s.ripe c UPDATE.OP 3).act 0x112 = true ∧ (s.ripe c UPDATE.OP 3).on UPDATE.BUSY = false ∧ (s.ripe c UPDATE.OP 3).mgmtDown = false) ∧
    (let s : State := (State.reset.set (HDR.ACT 0x112) 1).set UPDATE.BUSY 1; let c : Cls := .mgmt; let a : Nat := 1; a < 256 ∧ s.takes c UPDATE.OP (2 ^ 31 + 768 + a) = true ∧ s.takes c UPDATE.ARG (2 ^ 31 + 768 + a) = true ∧ s.takes c UPDATE.GO (2 ^ 31 + 768 + a) = true ∧ (s.ripe c UPDATE.OP 3).act 0x112 = true ∧ (s.ripe c UPDATE.OP 3).on UPDATE.BUSY = true) ∧
    (let s : State := (State.reset.set (HDR.ACT 0x112) 1); let c : Cls := .mgmt; let a : Nat := 1; a < 256 ∧ s.takes c UPDATE.OP (2 ^ 31 + 1024 + a) = true ∧ s.takes c UPDATE.ARG (2 ^ 31 + 1024 + a) = true ∧ s.takes c UPDATE.GO (2 ^ 31 + 1024 + a) = true ∧ (s.ripe c UPDATE.OP 3).act 0x112 = true ∧ (s.ripe c UPDATE.OP 3).on UPDATE.BUSY = false ∧ (s.ripe c UPDATE.OP 3).mgmtDown = false) ∧
    (let s : State := (State.reset.set (HDR.ACT 0x112) 1).set UPDATE.BUSY 1; let c : Cls := .mgmt; let a : Nat := 1; a < 256 ∧ s.takes c UPDATE.OP (2 ^ 31 + 1024 + a) = true ∧ s.takes c UPDATE.ARG (2 ^ 31 + 1024 + a) = true ∧ s.takes c UPDATE.GO (2 ^ 31 + 1024 + a) = true ∧ (s.ripe c UPDATE.OP 3).act 0x112 = true ∧ (s.ripe c UPDATE.OP 3).on UPDATE.BUSY = true) ∧
    (let s : State := (State.reset.set (HDR.ACT 0x112) 1); let c : Cls := .mgmt; let a : Nat := 1; a < 256 ∧ s.takes c UPDATE.OP (2 ^ 31 + 1280 + a) = true ∧ s.takes c UPDATE.ARG (2 ^ 31 + 1280 + a) = true ∧ s.takes c UPDATE.GO (2 ^ 31 + 1280 + a) = true ∧ (s.ripe c UPDATE.OP 3).act 0x112 = true ∧ (s.ripe c UPDATE.OP 3).on UPDATE.BUSY = false ∧ (s.ripe c UPDATE.OP 3).mgmtDown = false) ∧
    (let s : State := (State.reset.set (HDR.ACT 0x112) 1).set UPDATE.BUSY 1; let c : Cls := .mgmt; let a : Nat := 1; a < 256 ∧ s.takes c UPDATE.OP (2 ^ 31 + 1280 + a) = true ∧ s.takes c UPDATE.ARG (2 ^ 31 + 1280 + a) = true ∧ s.takes c UPDATE.GO (2 ^ 31 + 1280 + a) = true ∧ (s.ripe c UPDATE.OP 3).act 0x112 = true ∧ (s.ripe c UPDATE.OP 3).on UPDATE.BUSY = true) ∧
    (let s : State := (State.reset.set (HDR.ACT 0x112) 1); let c : Cls := .mgmt; let a : Nat := 1; a < 256 ∧ s.takes c UPDATE.OP (2 ^ 31 + 1536 + a) = true ∧ s.takes c UPDATE.ARG (2 ^ 31 + 1536 + a) = true ∧ s.takes c UPDATE.GO (2 ^ 31 + 1536 + a) = true ∧ (s.ripe c UPDATE.OP 3).act 0x112 = true ∧ (s.ripe c UPDATE.OP 3).on UPDATE.BUSY = false ∧ (s.ripe c UPDATE.OP 3).mgmtDown = false) :=
  by and_intros <;> decide +kernel

theorem witness_Updates_2 :
    (let s : State := (State.reset.set (HDR.ACT 0x112) 1).set UPDATE.BUSY 1; let c : Cls := .mgmt; let a : Nat := 1; a < 256 ∧ s.takes c UPDATE.OP (2 ^ 31 + 1536 + a) = true ∧ s.takes c UPDATE.ARG (2 ^ 31 + 1536 + a) = true ∧ s.takes c UPDATE.GO (2 ^ 31 + 1536 + a) = true ∧ (s.ripe c UPDATE.OP 3).act 0x112 = true ∧ (s.ripe c UPDATE.OP 3).on UPDATE.BUSY = true) ∧
    (let s : State := (State.reset.set (HDR.ACT 0x112) 1); let c : Cls := .mgmt; let a : Nat := 1; a < 256 ∧ s.takes c UPDATE.OP (2 ^ 31 + 1792 + a) = true ∧ s.takes c UPDATE.ARG (2 ^ 31 + 1792 + a) = true ∧ s.takes c UPDATE.GO (2 ^ 31 + 1792 + a) = true ∧ (s.ripe c UPDATE.OP 3).act 0x112 = true ∧ (s.ripe c UPDATE.OP 3).on UPDATE.BUSY = false ∧ (s.ripe c UPDATE.OP 3).mgmtDown = false) ∧
    (let s : State := (State.reset.set (HDR.ACT 0x112) 1).set UPDATE.BUSY 1; let c : Cls := .mgmt; let a : Nat := 1; a < 256 ∧ s.takes c UPDATE.OP (2 ^ 31 + 1792 + a) = true ∧ s.takes c UPDATE.ARG (2 ^ 31 + 1792 + a) = true ∧ s.takes c UPDATE.GO (2 ^ 31 + 1792 + a) = true ∧ (s.ripe c UPDATE.OP 3).act 0x112 = true ∧ (s.ripe c UPDATE.OP 3).on UPDATE.BUSY = true) ∧
    (let s : State := State.reset; let b : Bool := false; let f : Nat := 0; s.updJobs = []) ∧
    (let s : State := { (State.reset.set (HDR.ACT 0x112) 1) with updJobs := [⟨.mgmt, 1, 1, 0, 0, [], none⟩] }; let j : UpdJob := ⟨.mgmt, 1, 1, 0, 0, [], none⟩; let l : List UpdJob := []; let b : Bool := false; let f : Nat := 0; s.updJobs = j :: l ∧ j.tag = none ∧ j.op = 1 ∧ s.get UPDATE.STATE = 0 ∧ (s.on MGMT.RUNNING = false ∨ j.arg % 2 ≠ s.get MGMT.SLOT)) ∧
    (let s : State := { (State.reset.set (HDR.ACT 0x112) 1) with updJobs := [⟨.mgmt, 2, 0, 0, 0, [], none⟩] }; let j : UpdJob := ⟨.mgmt, 2, 0, 0, 0, [], none⟩; let l : List UpdJob := []; let b : Bool := false; let f : Nat := 0; s.updJobs = j :: l ∧ j.tag = none ∧ s.updResult j b ≠ 0) ∧
    (let s : State := { (State.reset.set (HDR.ACT 0x112) 1).set UPDATE.STATE 1 with updJobs := [⟨.bb, 2, 0, 0, 0, [], none⟩] }; let j : UpdJob := ⟨.bb, 2, 0, 0, 0, [], none⟩; let l : List UpdJob := []; let b : Bool := false; let f : Nat := 0; s.updJobs = j :: l ∧ j.tag = none ∧ j.op = 2 ∧ s.get UPDATE.STATE = 1 ∧ s.get UPDATE.OWNER ≠ j.cls.code) ∧
    (let s : State := { ((((State.reset.set (HDR.ACT 0x112) 1).set UPDATE.STATE 1).set THERMAL.WRITE_OK 1).set UPDATE.OWNER 0).set UPDATE.RECEIVED 8 with updJobs := [⟨.mgmt, 2, 0, 8, 8, [7, 9], none⟩] }; let j : UpdJob := ⟨.mgmt, 2, 0, 8, 8, [7, 9], none⟩; let l : List UpdJob := []; let b : Bool := false; let f : Nat := 0; s.updJobs = j :: l ∧ j.tag = none ∧ j.op = 2 ∧ s.get UPDATE.STATE = 1 ∧ s.get UPDATE.OWNER = j.cls.code ∧ s.writeOk = true ∧ b = false ∧ j.len % 4 = 0 ∧ 4 ≤ j.len ∧ j.len ≤ 3072 ∧ j.data.length = j.len / 4 ∧ j.ofs = s.get UPDATE.RECEIVED ∧ j.ofs + j.len ≤ slotSize) ∧
    (let s : State := { ((((State.reset.set (HDR.ACT 0x112) 1).set UPDATE.STATE 1).set THERMAL.WRITE_OK 1).set UPDATE.OWNER 0) with updJobs := [⟨.mgmt, 3, 0, 0, 0, [], none⟩] }; let j : UpdJob := ⟨.mgmt, 3, 0, 0, 0, [], none⟩; let l : List UpdJob := []; let b : Bool := false; let f : Nat := 0; s.updJobs = j :: l ∧ j.tag = none ∧ j.op = 3 ∧ s.get UPDATE.STATE = 1 ∧ s.get UPDATE.OWNER = j.cls.code ∧ b = false ∧ s.imageCheck (s.get UPDATE.TARGET) = 2) ∧
    (let s : State := { (((((State.reset.set (HDR.ACT 0x112) 1).set UPDATE.STATE 1).set THERMAL.WRITE_OK 1).set UPDATE.OWNER 0)).set UPDATE.STATE 2 with updJobs := [⟨.mgmt, 4, 0, 0, 0, [], none⟩] }; let j : UpdJob := ⟨.mgmt, 4, 0, 0, 0, [], none⟩; let l : List UpdJob := []; let b : Bool := false; let f : Nat := 0; s.updJobs = j :: l ∧ j.tag = none ∧ j.op = 4 ∧ s.get UPDATE.STATE = 2 ∧ s.get UPDATE.OWNER = j.cls.code ∧ b = false ∧ s.writeOk = true ∧ j.arg % 4 = 0) ∧
    (let s : State := { (((((State.reset.set (HDR.ACT 0x112) 1).set UPDATE.STATE 1).set THERMAL.WRITE_OK 1).set UPDATE.OWNER 0)).set MGMT.RUNNING 1 with updJobs := [⟨.mgmt, 5, 0, 0, 0, [], none⟩] }; let j : UpdJob := ⟨.mgmt, 5, 0, 0, 0, [], none⟩; let l : List UpdJob := []; let b : Bool := false; let f : Nat := 0; s.updJobs = j :: l ∧ j.tag = none ∧ j.op = 5 ∧ j.cls = .mgmt ∧ s.on MGMT.RUNNING = true ∧ s.get MGMT.SLOT = s.dirPref ∧ b = false ∧ s.writeOk = true) ∧
    (let s : State := { ((((State.reset.set (HDR.ACT 0x112) 1).set UPDATE.STATE 1).set THERMAL.WRITE_OK 1).set UPDATE.OWNER 0) with updJobs := [⟨.mgmt, 6, 0, 0, 0, [], none⟩] }; let j : UpdJob := ⟨.mgmt, 6, 0, 0, 0, [], none⟩; let l : List UpdJob := []; let b : Bool := false; let f : Nat := 0; s.updJobs = j :: l ∧ j.tag = none ∧ j.op = 6 ∧ s.get UPDATE.STATE ≠ 0 ∧ (s.get UPDATE.OWNER = j.cls.code ∨ j.cls = .mgmt)) :=
  by and_intros <;> decide +kernel

theorem witness_Updates_3 :
    (let s : State := { (((((State.reset.set (HDR.ACT 0x112) 1).set UPDATE.STATE 1).set THERMAL.WRITE_OK 1).set UPDATE.OWNER 0)).set MGMT.RB_ACT 7 with updJobs := [⟨.mgmt, 7, 5, 0, 0, [], none⟩] }; let j : UpdJob := ⟨.mgmt, 7, 5, 0, 0, [], none⟩; let l : List UpdJob := []; let b : Bool := false; let f : Nat := 0; s.updJobs = j :: l ∧ j.tag = none ∧ j.op = 7 ∧ j.cls = .mgmt ∧ s.dirTrial = false ∧ j.arg % 64 ≤ s.get MGMT.RB_ACT ∧ b = false ∧ s.writeOk = true) ∧
    (let s : State := (((State.reset.set (HDR.ACT 0x0B1) 1).set ERL0.LINK_UP 1).set ERL0.FRAME_ALIGNED 1).set (HDR.ACT 0x112) 1; let ws : List Nat := pkt 4 2 (2 ^ 28 + 5 * 65536 + 1) [0, 0]; let b : Bool := false; let p : Packet := ⟨4, 0, 2, 2 ^ 28 + 5 * 65536 + 1, [0, 0]⟩; (s.sendClear.receiveAs 4 (some 2) ws b).1 = some p ∧ (s.sendClear.receiveAs 4 (some 2) ws b).2.updJobs = [] ∧ (s.sendClear.receiveAs 4 (some 2) ws b).2.act 0x112 = true ∧ (s.sendClear.receiveAs 4 (some 2) ws b).2.mgmtDown = false) :=
  by and_intros <;> decide +kernel

theorem witness_LogRecords_1 :
    (let s : State := State.reset; let c : Cls := .mgmt; let t : Nat := 0x85; let v : Nat := 1; s.triggered c LOG.GO (2 ^ 31 + v % 4 * 65536 + t) = true ∧ t < 256) ∧
    (let s : State := State.reset; let c : Cls := .mgmt; let t : Nat := 0x15; let v : Nat := 1; s.refusesPart c LOG.GO (2 ^ 31 + v % 4 * 65536 + t) stDENIED = true ∧ t < 0x80) ∧
    (let s : State := State.reset.set (HDR.RIGHT 0x111 .dsp) 2; let t : Nat := 0x85; let v : Nat := 1; s.triggered .dsp LOG.GO (2 ^ 31 + v % 4 * 65536 + t) = true ∧ t < 256 ∧ (s.ripe .dsp LOG.GO).log.unflushed < 2048 ∧ (s.ripe .dsp LOG.GO).log.head.length = 32) ∧
    (let s : State := ((State.reset.logHw 2 0 0 1 2 3)).set LOG.FLUSH_THR 1; s.flushDue = true ∧ 0 < s.log.unflushed ∧ s.writeOk = false ∧ s.log.deferred = false) ∧
    (let s : State := (((State.reset.set THERMAL.WRITE_OK 1).setHk (fun h => { h with convAt := (List.range 9).foldl (fun b i => b.put (16 + i) 1) h.convAt })).logHw 2 0 0 1 2 3).set LOG.FLUSH_THR 1; s.flushDue = true ∧ 0 < s.log.unflushed ∧ s.writeOk = true ∧ s.log.unflushed < 2048 ∧ s.log.lost = 0 ∧ s.log.unflushed ≤ s.log.recs.length ∧ s.log.recs.length < 2048 ∧ s.ecc = [] ∧ s.eccBase.look 1 = 0) ∧
    (let s : State := (State.reset.logHw 2 0 0 1 2 3); let c : Cls := .mgmt; s.triggered c LOG.FLUSH = true ∧ 0 < (s.ripe c LOG.FLUSH).log.unflushed ∧ (s.ripe c LOG.FLUSH).writeOk = false ∧ (s.ripe c LOG.FLUSH).log.deferred = false) ∧
    (let s : State := ((State.reset.set THERMAL.WRITE_OK 1).setHk (fun h => { h with convAt := (List.range 9).foldl (fun b i => b.put (16 + i) 1) h.convAt })).logHw 2 0 0 1 2 3; let c : Cls := .mgmt; s.triggered c LOG.FLUSH = true ∧ 0 < (s.ripe c LOG.FLUSH).log.unflushed ∧ (s.ripe c LOG.FLUSH).writeOk = true ∧ (s.ripe c LOG.FLUSH).log.unflushed < 2048 ∧ (s.ripe c LOG.FLUSH).log.lost = 0 ∧ (s.ripe c LOG.FLUSH).log.unflushed ≤ (s.ripe c LOG.FLUSH).log.recs.length ∧ (s.ripe c LOG.FLUSH).log.recs.length < 2048 ∧ (s.ripe c LOG.FLUSH).ecc = [] ∧ (s.ripe c LOG.FLUSH).eccBase.look 1 = 0) ∧
    (let s : State := State.reset; (s.flushDue = false ∨ s.log.unflushed = 0)) ∧
    (let s : State := State.reset; let c : Cls := .mgmt; s.triggered c LOG.FLUSH = true ∧ (s.ripe c LOG.FLUSH).log.unflushed = 0) ∧
    (let s : State := State.reset.setLog (fun l => { l with recs := [⟨5, 2, 0, 15, 0, 99, 1, 2, 3, 4⟩] }); let c : Cls := .mgmt; let a : Nat := 0; let q : Nat := 5; let r : LogRec := ⟨5, 2, 0, 15, 0, 99, 1, 2, 3, 4⟩; s.accepts c LOG.RD_SEQ q = true ∧ q < 2 ^ 32 ∧ (s.ripe c LOG.RD_SEQ).ramRec q = some r) ∧
    (let s : State := State.reset.setLog (fun l => { l with flash := [⟨5, 2, 0, 15, 0, 99, 1, 2, 3, 4⟩] }); let c : Cls := .mgmt; let a : Nat := 0; let q : Nat := 5; let r : LogRec := ⟨5, 2, 0, 15, 0, 99, 1, 2, 3, 4⟩; s.accepts c LOG.RD_SEQ q = true ∧ q < 2 ^ 32 ∧ (s.ripe c LOG.RD_SEQ).ramRec q = none ∧ (s.ripe c LOG.RD_SEQ).flashRec q = some r) ∧
    (let s : State := State.reset; let c : Cls := .mgmt; let a : Nat := 0; let q : Nat := 5; s.accepts c LOG.RD_SEQ q = true ∧ q < 2 ^ 32 ∧ (s.ripe c LOG.RD_SEQ).ramRec q = none ∧ (s.ripe c LOG.RD_SEQ).flashRec q = none) :=
  by and_intros <;> decide +kernel

theorem witness_LogRecords_2 :
    (let s : State := State.reset.setLog (fun l => { l with rd := some 5, flash := [⟨5, 2, 0, 15, 0, 99, 1, 2, 3, 4⟩] }); let q : Nat := 5; let r : LogRec := ⟨5, 2, 0, 15, 0, 99, 1, 2, 3, 4⟩; s.log.rd = some q ∧ s.flashRec q = some r) ∧
    (let s : State := State.reset; s.log.rd = none) ∧
    (let s : State := (((State.reset.set (HDR.ACT 0x0B1) 1).set ERL0.LINK_UP 1).set ERL0.FRAME_ALIGNED 1).setLog (fun l => { l with recs := [⟨5, 2, 0, 15, 0, 99, 1, 2, 3, 4⟩] }); let ws : List Nat := pkt 4 3 (7 * 2 ^ 24 + 2) [5, 0]; let b : Bool := false; let p : Packet := ⟨4, 0, 3, 7 * 2 ^ 24 + 2, [5, 0]⟩; (s.sendClear.receiveAs 4 (some 3) ws b).1 = some p ∧ 0 < p.w1 % 2 ^ 16 ∧ p.w1 % 2 ^ 16 ≤ 64) :=
  by and_intros <;> decide +kernel

theorem witness_Sumac_1 :
    (let s : State := State.reset; let m : Nat := 3; s.monHears = true ∧ s.monElevated = false) ∧
    (let s : State := State.reset; let m : Nat := 3; s.monHears = true ∧ s.monElevated = false) ∧
    (let s : State := State.reset; s.monHears = true ∧ s.monElevated = false) ∧
    (let s : State := ({ State.reset.set MONITOR.LEVEL 1 with mon := { until_ := 10 ^ 15, lastCmd := 0 } } : State); let o : Nat := 1; let a : Nat := 0; let f : Nat := 0; let d : List Nat := []; s.monHears = true ∧ s.monElevated = true ∧ (s.setMon (fun m => { m with lastCmd := s.ao })).monLevel < 2) ∧
    (let s : State := { State.reset with pwr := { State.reset.pwr with resetN := true } }; s.monHears = false) ∧
    (let s : State := { State.reset with pwr := { State.reset.pwr with resetN := true } }; let a : Nat := 0x40000000; let n : Nat := 1; s.monHears = false) ∧
    (let s : State := { State.reset with pwr := { State.reset.pwr with resetN := true } }; s.monHears = false) ∧
    (let s : State := { State.reset with pwr := { State.reset.pwr with resetN := true } }; let w : List Nat := []; s.monHears = false) ∧
    (let s : State := { State.reset with pwr := { State.reset.pwr with resetN := true } }; let a : Nat := 0x40000000; let v : Nat := 1; s.monHears = false) ∧
    (let s : State := ({ State.reset.set MONITOR.LEVEL 2 with mon := { until_ := 10 ^ 15, lastCmd := 0 } } : State); s.monHears = true ∧ s.monElevated = true ∧ (s.setMon (fun m => { m with lastCmd := s.ao })).monElevated = true) ∧
    (let s : State := ({ State.reset.set MONITOR.LEVEL 2 with mon := { until_ := 10 ^ 15, lastCmd := 0 } } : State); let a : Nat := 0x40000000; let n : Nat := 3; s.monHears = true ∧ s.monElevated = true ∧ (s.setMon (fun m => { m with lastCmd := s.ao })).monElevated = true ∧ 0 < n ∧ n ≤ 64) ∧
    (let s : State := ({ State.reset.set MONITOR.LEVEL 2 with mon := { until_ := 10 ^ 15, lastCmd := 0 } } : State); let a : Nat := 0x40000000; let n : Nat := 65; s.monHears = true ∧ s.monElevated = true ∧ (s.setMon (fun m => { m with lastCmd := s.ao })).monElevated = true ∧ (n = 0 ∨ 64 < n)) :=
  by and_intros <;> decide +kernel

theorem witness_Sumac_2 :
    (let s : State := ({ State.reset.set MONITOR.LEVEL 2 with mon := { until_ := 10 ^ 15, lastCmd := 0 } } : State); let q : Nat := 0; let n : Nat := 3; s.monHears = true ∧ s.monElevated = true ∧ (s.setMon (fun m => { m with lastCmd := s.ao })).monElevated = true ∧ 0 < n ∧ n ≤ 64) ∧
    (let s : State := ({ State.reset.set MONITOR.LEVEL 2 with mon := { until_ := 10 ^ 15, lastCmd := 0 } } : State); s.monHears = true ∧ s.monElevated = true ∧ (s.setMon (fun m => { m with lastCmd := s.ao })).monElevated = true ∧ s.rngFailed = false) ∧
    (let s : State := ({ State.reset.set MONITOR.LEVEL 2 with mon := { until_ := 10 ^ 15, lastCmd := 0 } } : State); s.monHears = true ∧ s.monElevated = true ∧ (s.setMon (fun m => { m with lastCmd := s.ao })).monElevated = true) ∧
    (let s : State := ({ (State.reset.set MGMT.BOOTSEL 2).set MONITOR.LEVEL 2 with trans := none, mon := { until_ := 10 ^ 15, lastCmd := 0 } } : State); s.monHears = true ∧ s.monElevated = true ∧ (s.setMon (fun m => { m with lastCmd := s.ao })).monElevated = true ∧ s.mode = 0 ∧ s.get MGMT.BOOTSEL = 2 ∧ s.trans = none) ∧
    (let s : State := ({ State.reset.set MONITOR.LEVEL 2 with mon := { until_ := 10 ^ 15, lastCmd := 0 } } : State); s.monHears = true ∧ s.monElevated = true ∧ (s.setMon (fun m => { m with lastCmd := s.ao })).monElevated = true ∧ (s.mode ≠ 0 ∨ s.get MGMT.BOOTSEL ≠ 2)) ∧
    (let s : State := ({ State.reset.set MONITOR.LEVEL 2 with mon := { until_ := 10 ^ 15, lastCmd := 0 } } : State); let a : Nat := 0x40113040; let v : Nat := 3; s.monHears = true ∧ s.monElevated = true ∧ (s.setMon (fun m => { m with lastCmd := s.ao })).monElevated = true ∧ 1 ≤ (s.setMon (fun m => { m with lastCmd := s.ao })).get MONITOR.LEVEL) ∧
    (let s : State := State.reset; let a : Nat := 0x40113040; let v : Nat := 3; s.monHears = true ∧ s.monElevated = false) ∧
    (let s : State := ({ (State.reset.set (HDR.RIGHT 0x000 .mon) 2).set MONITOR.LEVEL 2 with mon := { until_ := 10 ^ 15, lastCmd := 0 } } : State); let m : Nat := 3; s.monHears = true ∧ s.monElevated = true ∧ (s.setMon (fun m => { m with lastCmd := s.ao })).monElevated = true ∧ 1 ≤ (s.setMon (fun m => { m with lastCmd := s.ao })).get MONITOR.LEVEL ∧ m ≤ 7 ∧ (s.setMon (fun m => { m with lastCmd := s.ao })).accepts .mon DEVICE.MODE_REQ m = true) ∧
    (let s : State := ({ State.reset.set MONITOR.LEVEL 2 with mon := { until_ := 10 ^ 15, lastCmd := 0 } } : State); let m : Nat := 9; s.monHears = true ∧ s.monElevated = true ∧ (s.setMon (fun m => { m with lastCmd := s.ao })).monElevated = true ∧ 1 ≤ (s.setMon (fun m => { m with lastCmd := s.ao })).get MONITOR.LEVEL ∧ 7 < m) ∧
    (let s : State := ({ (State.reset.set (HDR.RIGHT 0x113 .mon) 2).set MONITOR.LEVEL 2 with mon := { until_ := 10 ^ 15, lastCmd := 0 } } : State); let m : Nat := 3; s.monHears = true ∧ s.monElevated = true ∧ (s.setMon (fun m => { m with lastCmd := s.ao })).monElevated = true ∧ 1 ≤ (s.setMon (fun m => { m with lastCmd := s.ao })).get MONITOR.LEVEL ∧ m ≤ 7 ∧ (s.setMon (fun m => { m with lastCmd := s.ao })).accepts .mon MONITOR.BAUD m = true) ∧
    (let s : State := ({ State.reset.set MONITOR.LEVEL 2 with mon := { until_ := 10 ^ 15, lastCmd := 0 } } : State); let m : Nat := 9; s.monHears = true ∧ s.monElevated = true ∧ (s.setMon (fun m => { m with lastCmd := s.ao })).monElevated = true ∧ 1 ≤ (s.setMon (fun m => { m with lastCmd := s.ao })).get MONITOR.LEVEL ∧ 7 < m) ∧
    (let s : State := ({ (State.reset.set DEVICE.MODE 2).set MONITOR.LEVEL 2 with mon := { until_ := 10 ^ 15, lastCmd := 0 } } : State); s.monHears = true ∧ s.monElevated = true ∧ (s.setMon (fun m => { m with lastCmd := s.ao })).monElevated = true ∧ 1 ≤ (s.setMon (fun m => { m with lastCmd := s.ao })).get MONITOR.LEVEL ∧ s.mode = 2) :=
  by and_intros <;> decide +kernel

theorem witness_Sumac_3 :
    (let s : State := ({ State.reset.set MONITOR.LEVEL 2 with mon := { until_ := 10 ^ 15, lastCmd := 0 } } : State); s.monHears = true ∧ s.monElevated = true ∧ (s.setMon (fun m => { m with lastCmd := s.ao })).monElevated = true ∧ 1 ≤ (s.setMon (fun m => { m with lastCmd := s.ao })).get MONITOR.LEVEL ∧ s.mode ≠ 2) ∧
    (let s : State := ({ ((State.reset.set (HDR.ACT 0x112) 1).set (HDR.RIGHT 0x112 .mon) 2).set MONITOR.LEVEL 2 with mon := { until_ := 10 ^ 15, lastCmd := 0 } } : State); let o : Nat := 1; let a : Nat := 0; let f : Nat := 0; let d : List Nat := []; s.monHears = true ∧ s.monElevated = true ∧ (s.setMon (fun m => { m with lastCmd := s.ao })).monElevated = true ∧ 2 ≤ (s.setMon (fun m => { m with lastCmd := s.ao })).get MONITOR.LEVEL ∧ o ≤ 7 ∧ a ≤ 255 ∧ d.length ≤ 64 ∧ (s.setMon (fun m => { m with lastCmd := s.ao })).writeRefusal .mon UPDATE.GO 1 none = none ∧ s.act 0x112 = true ∧ s.on UPDATE.BUSY = false) ∧
    (let s : State := ({ State.reset.set MONITOR.LEVEL 2 with mon := { until_ := 10 ^ 15, lastCmd := 0 } } : State); let w : List Nat := []; s.monHears = true ∧ s.monElevated = true ∧ (s.setMon (fun m => { m with lastCmd := s.ao })).monElevated = true ∧ w.length ≠ 42) ∧
    (let s : State := ({ State.reset.set MONITOR.LEVEL 2 with mon := { until_ := 10 ^ 15, lastCmd := 0 } } : State); let w : List Nat := (List.replicate 42 0); s.monHears = true ∧ s.monElevated = true ∧ (s.setMon (fun m => { m with lastCmd := s.ao })).monElevated = true ∧ w.length = 42 ∧ s.monLocked = false ∧ ((s.setMon (fun m => { m with lastCmd := s.ao })).setMon (fun m => { m with nonce := none })).tokenCheck (w.map (trunc 32)) 1 s.mon.nonce ≠ 0 ∧ s.mon.fails < 2) ∧
    (let s : State := ({ State.reset.set MONITOR.LEVEL 2 with mon := { until_ := 10 ^ 15, lastCmd := 0, fails := 2 } } : State); let w : List Nat := (List.replicate 42 0); s.monHears = true ∧ s.monElevated = true ∧ (s.setMon (fun m => { m with lastCmd := s.ao })).monElevated = true ∧ w.length = 42 ∧ s.monLocked = false ∧ ((s.setMon (fun m => { m with lastCmd := s.ao })).setMon (fun m => { m with nonce := none })).tokenCheck (w.map (trunc 32)) 1 s.mon.nonce ≠ 0 ∧ 2 ≤ s.mon.fails) ∧
    (let s : State := ({ State.reset.set MONITOR.LEVEL 2 with mon := { until_ := 10 ^ 15, lastCmd := 0 } } : State); s.deaf = false) ∧
    (let s : State := { ({ State.reset.set MONITOR.LEVEL 2 with mon := { until_ := 10 ^ 15, lastCmd := 0 } } : State) with ao := 10 ^ 15 }; (s.mon.until_ ≤ s.ao ∨ s.mon.lastCmd + 600 * tickS ≤ s.ao)) ∧
    (let s : State := ({ State.reset.set MONITOR.LEVEL 2 with mon := { until_ := 10 ^ 15, lastCmd := 0 } } : State); s.monElevated = true) ∧
    (let s : State := State.reset; s.mon.lockEnd ≤ s.ao) ∧
    (let s : State := State.reset.setMon (fun m => { m with lockEnd := 5 }); s.ao < s.mon.lockEnd) ∧
    (let s : State := ({ State.reset.set MONITOR.LEVEL 2 with mon := { until_ := 10 ^ 15, lastCmd := 0 } } : State); let c : Cls := .mgmt; s.triggered c MONITOR.DROP = true) :=
  by and_intros <;> decide +kernel

theorem witness_OtpAndLimits_1 :
    (let s : State := State.reset; let c : Cls := .mgmt; let arg : Nat := 3; arg < 32 ∧ s.takes c SECURITY.OTP_OP (2 ^ 31 + 65536 + arg) = true ∧ s.takes c SECURITY.OTP_ARG (2 ^ 31 + 65536 + arg) = true ∧ s.takes c SECURITY.OTP_GO (2 ^ 31 + 65536 + arg) = true ∧ (s.ripe c SECURITY.OTP_OP 3).on SECURITY.OTP_BUSY = false) ∧
    (let s : State := State.reset.set SECURITY.OTP_BUSY 1; let c : Cls := .mgmt; let arg : Nat := 3; arg < 32 ∧ s.takes c SECURITY.OTP_OP (2 ^ 31 + 65536 + arg) = true ∧ s.takes c SECURITY.OTP_ARG (2 ^ 31 + 65536 + arg) = true ∧ s.takes c SECURITY.OTP_GO (2 ^ 31 + 65536 + arg) = true ∧ (s.ripe c SECURITY.OTP_OP 3).on SECURITY.OTP_BUSY = true) ∧
    (let s : State := State.reset; let c : Cls := .mgmt; let arg : Nat := 3; arg < 32 ∧ s.takes c SECURITY.OTP_OP (2 ^ 31 + 131072 + arg) = true ∧ s.takes c SECURITY.OTP_ARG (2 ^ 31 + 131072 + arg) = true ∧ s.takes c SECURITY.OTP_GO (2 ^ 31 + 131072 + arg) = true ∧ (s.ripe c SECURITY.OTP_OP 3).on SECURITY.OTP_BUSY = false) ∧
    (let s : State := State.reset.set SECURITY.OTP_BUSY 1; let c : Cls := .mgmt; let arg : Nat := 3; arg < 32 ∧ s.takes c SECURITY.OTP_OP (2 ^ 31 + 131072 + arg) = true ∧ s.takes c SECURITY.OTP_ARG (2 ^ 31 + 131072 + arg) = true ∧ s.takes c SECURITY.OTP_GO (2 ^ 31 + 131072 + arg) = true ∧ (s.ripe c SECURITY.OTP_OP 3).on SECURITY.OTP_BUSY = true) ∧
    (let s : State := State.reset; let c : Cls := .mgmt; let arg : Nat := 3; arg < 32 ∧ s.takes c SECURITY.OTP_OP (2 ^ 31 + 196608 + arg) = true ∧ s.takes c SECURITY.OTP_ARG (2 ^ 31 + 196608 + arg) = true ∧ s.takes c SECURITY.OTP_GO (2 ^ 31 + 196608 + arg) = true ∧ (s.ripe c SECURITY.OTP_OP 3).on SECURITY.OTP_BUSY = false) ∧
    (let s : State := State.reset.set SECURITY.OTP_BUSY 1; let c : Cls := .mgmt; let arg : Nat := 3; arg < 32 ∧ s.takes c SECURITY.OTP_OP (2 ^ 31 + 196608 + arg) = true ∧ s.takes c SECURITY.OTP_ARG (2 ^ 31 + 196608 + arg) = true ∧ s.takes c SECURITY.OTP_GO (2 ^ 31 + 196608 + arg) = true ∧ (s.ripe c SECURITY.OTP_OP 3).on SECURITY.OTP_BUSY = true) ∧
    (let s : State := State.reset; let c : Cls := .mgmt; let arg : Nat := 3; arg < 32 ∧ s.takes c SECURITY.OTP_OP (2 ^ 31 + 262144 + arg) = true ∧ s.takes c SECURITY.OTP_ARG (2 ^ 31 + 262144 + arg) = true ∧ s.takes c SECURITY.OTP_GO (2 ^ 31 + 262144 + arg) = true ∧ (s.ripe c SECURITY.OTP_OP 3).on SECURITY.OTP_BUSY = false) ∧
    (let s : State := State.reset.set SECURITY.OTP_BUSY 1; let c : Cls := .mgmt; let arg : Nat := 3; arg < 32 ∧ s.takes c SECURITY.OTP_OP (2 ^ 31 + 262144 + arg) = true ∧ s.takes c SECURITY.OTP_ARG (2 ^ 31 + 262144 + arg) = true ∧ s.takes c SECURITY.OTP_GO (2 ^ 31 + 262144 + arg) = true ∧ (s.ripe c SECURITY.OTP_OP 3).on SECURITY.OTP_BUSY = true) ∧
    (let s : State := State.reset; let c : Cls := .mgmt; let arg : Nat := 3; arg < 32 ∧ s.takes c SECURITY.OTP_OP (2 ^ 31 + 327680 + arg) = true ∧ s.takes c SECURITY.OTP_ARG (2 ^ 31 + 327680 + arg) = true ∧ s.takes c SECURITY.OTP_GO (2 ^ 31 + 327680 + arg) = true ∧ (s.ripe c SECURITY.OTP_OP 3).on SECURITY.OTP_BUSY = false) ∧
    (let s : State := State.reset.set SECURITY.OTP_BUSY 1; let c : Cls := .mgmt; let arg : Nat := 3; arg < 32 ∧ s.takes c SECURITY.OTP_OP (2 ^ 31 + 327680 + arg) = true ∧ s.takes c SECURITY.OTP_ARG (2 ^ 31 + 327680 + arg) = true ∧ s.takes c SECURITY.OTP_GO (2 ^ 31 + 327680 + arg) = true ∧ (s.ripe c SECURITY.OTP_OP 3).on SECURITY.OTP_BUSY = true) ∧
    (let s : State := State.reset; let bad : Bool := false; s.sec.otpJob = none) ∧
    (let s : State := ({ State.reset with sec := { State.reset.sec with otpJob := some (1, 4) } }); let bad : Bool := false; let op : Nat := 1; let arg : Nat := 4; s.sec.otpJob = some (op, arg) ∧ op ≤ 5 ∧ s.otpResult op arg bad ≠ 1 ∧ s.otpResult op arg bad ≠ 5) :=
  by and_intros <;> decide +kernel

theorem witness_OtpAndLimits_2 :
    (let s : State := (({ State.reset with sec := { State.reset.sec with otpJob := some (3, 0) } } : State).set THERMAL.WRITE_OK 1); let bad : Bool := true; let op : Nat := 3; let arg : Nat := 0; s.sec.otpJob = some (op, arg) ∧ s.otpResult op arg bad = 5) ∧
    (let s : State := (({ State.reset with sec := { State.reset.sec with otpJob := some (3, 0) } } : State).set THERMAL.WRITE_OK 1); let bad : Bool := false; s.sec.otpJob = some (3, 0) ∧ s.otpResult 3 0 bad = 1) ∧
    (let s : State := (({ State.reset with sec := { State.reset.sec with otpJob := some (2, 1) } } : State).set THERMAL.WRITE_OK 1); let bad : Bool := false; let k : Nat := 1; s.sec.otpJob = some (2, k) ∧ s.otpResult 2 k bad = 1) ∧
    (let s : State := (({ State.reset with sec := { State.reset.sec with otpJob := some (1, 2) } } : State).set THERMAL.WRITE_OK 1); let bad : Bool := false; let k : Nat := 2; s.sec.otpJob = some (1, k) ∧ s.otpResult 1 k bad = 1 ∧ s.otp.hashes.length = 4) ∧
    (let s : State := ((({ State.reset with sec := { State.reset.sec with otpJob := some (5, 3) } } : State).set THERMAL.WRITE_OK 1).set LIMITS.LR_VALID 1).set (LIMITS.REC 1) 0x500; let bad : Bool := false; let v : Nat := 3; s.sec.otpJob = some (5, v) ∧ s.otpResult 5 v bad = 1 ∧ s.otp.lrRb < 32) ∧
    (let s : State := (({ State.reset with sec := { State.reset.sec with otpJob := some (4, 0) } } : State).set THERMAL.WRITE_OK 1); let bad : Bool := false; s.sec.otpJob = some (4, 0) ∧ s.otpResult 4 0 bad = 1) ∧
    (let s : State := State.reset; let c : Cls := .mgmt; s.triggered c SECURITY.LR_GO = true ∧ (s.ripe c SECURITY.LR_GO).on SECURITY.LR_BUSY = false) ∧
    (let s : State := State.reset.set SECURITY.LR_BUSY 1; let c : Cls := .mgmt; s.triggered c SECURITY.LR_GO = true ∧ (s.ripe c SECURITY.LR_GO).on SECURITY.LR_BUSY = true) ∧
    (let s : State := State.reset; s.sec.lrJob = none) ∧
    (let s : State := ({ State.reset with sec := { State.reset.sec with lrJob := some 0x10000000 } } : State); let a : Nat := 0x10000000; let w : List Nat := List.replicate 132 0; s.sec.lrJob = some a ∧ s.lrRead a 132 = (some w, s) ∧ s.lrCheck w ≠ 1) ∧
    (let s : State := ({ State.reset with sec := { State.reset.sec with lrJob := some 0xF0000001 } } : State); let a : Nat := 0xF0000001; s.sec.lrJob = some a ∧ s.lrRead a 132 = (none, s)) :=
  by and_intros <;> decide +kernel

theorem witness_KeysAndDebug_1 :
    (let s : State := State.reset; let c : Cls := .mgmt; s.takes c SECURITY.KE_OP (2 ^ 31 + 65536) = true ∧ s.takes c SECURITY.KE_GO (2 ^ 31 + 65536) = true ∧ (s.ripe c SECURITY.KE_OP 2).on SECURITY.KE_BUSY = false) ∧
    (let s : State := State.reset.set SECURITY.KE_BUSY 1; let c : Cls := .mgmt; s.takes c SECURITY.KE_OP (2 ^ 31 + 65536) = true ∧ s.takes c SECURITY.KE_GO (2 ^ 31 + 65536) = true ∧ (s.ripe c SECURITY.KE_OP 2).on SECURITY.KE_BUSY = true) ∧
    (let s : State := State.reset; let c : Cls := .mgmt; s.takes c SECURITY.KE_OP (2 ^ 31 + 131072) = true ∧ s.takes c SECURITY.KE_GO (2 ^ 31 + 131072) = true ∧ (s.ripe c SECURITY.KE_OP 2).on SECURITY.KE_BUSY = false) ∧
    (let s : State := State.reset.set SECURITY.KE_BUSY 1; let c : Cls := .mgmt; s.takes c SECURITY.KE_OP (2 ^ 31 + 131072) = true ∧ s.takes c SECURITY.KE_GO (2 ^ 31 + 131072) = true ∧ (s.ripe c SECURITY.KE_OP 2).on SECURITY.KE_BUSY = true) ∧
    (let s : State := State.reset; let c : Cls := .mgmt; s.takes c SECURITY.KE_OP (2 ^ 31 + 196608) = true ∧ s.takes c SECURITY.KE_GO (2 ^ 31 + 196608) = true ∧ (s.ripe c SECURITY.KE_OP 2).on SECURITY.KE_BUSY = false) ∧
    (let s : State := State.reset.set SECURITY.KE_BUSY 1; let c : Cls := .mgmt; s.takes c SECURITY.KE_OP (2 ^ 31 + 196608) = true ∧ s.takes c SECURITY.KE_GO (2 ^ 31 + 196608) = true ∧ (s.ripe c SECURITY.KE_OP 2).on SECURITY.KE_BUSY = true) ∧
    (let s : State := State.reset; s.sec.keJob = none) ∧
    (let s : State := ({ State.reset with sec := { State.reset.sec with keJob := some 1 } } : State).set SECURITY.RNG_STAT 2; let op : Nat := 1; s.sec.keJob = some op ∧ s.rngFailed = true) ∧
    (let s : State := ({ State.reset with sec := { State.reset.sec with keJob := some 1 } } : State); s.sec.keJob = some 1 ∧ s.rngFailed = false) ∧
    (let s : State := ({ State.reset with sec := { State.reset.sec with keJob := some 2 } } : State); s.sec.keJob = some 2 ∧ s.rngFailed = false ∧ s.keyRamBad = none ∧ s.deriveCheck ≠ 1) ∧
    (let s : State := ({ State.reset with sec := { State.reset.sec with keJob := some 3 } } : State); s.sec.keJob = some 3 ∧ s.rngFailed = false ∧ s.keyRamBad = none) ∧
    (let s : State := ({ State.reset with tb := 4096, sec := { State.reset.sec with keyAt := some 4096, newKey := some 7 } }); let t : Nat := 4096; let k : Nat := 7; s.sec.keyAt = some t ∧ s.sec.newKey = some k ∧ t ≤ s.tb) :=
  by and_intros <;> decide +kernel

theorem witness_KeysAndDebug_2 :
    (let s : State := ({ State.reset with sec := { State.reset.sec with keyAt := some 4096, newKey := some 7 } }); (s.sec.keyAt.any (fun t => decide (t ≤ s.tb)) && s.sec.newKey.isSome) = false) ∧
    (let s : State := State.reset.set SECURITY.RNG_STAT 1; s.deaf = false ∧ 1 ≤ s.right 0x002 .mgmt ∧ s.testPortAllows .mgmt false 0x002 0x064 0 = true ∧ bitOf (s.get SECURITY.RNG_STAT) 0 = true) ∧
    (let s : State := State.reset; let c : Cls := .mgmt; s.deaf = false ∧ 1 ≤ s.right 0x002 c ∧ s.testPortAllows c false 0x002 0x064 0 = true ∧ (c ≠ .mgmt ∨ bitOf (s.get SECURITY.RNG_STAT) 0 = false)) ∧
    (let s : State := State.reset; let c : Cls := .mgmt; s.triggered c SECURITY.CHAL = true ∧ (s.ripe c SECURITY.CHAL).rngFailed = false) ∧
    (let s : State := State.reset.set SECURITY.RNG_STAT 2; let c : Cls := .mgmt; s.triggered c SECURITY.CHAL = true ∧ (s.ripe c SECURITY.CHAL).rngFailed = true) ∧
    (let s : State := State.reset.set DEVICE.MODE 7; let c : Cls := .mgmt; s.triggered c SECURITY.UNLOCK = true ∧ (s.ripe c SECURITY.UNLOCK).mode = 7) ∧
    (let s : State := State.reset; let c : Cls := .mgmt; s.triggered c SECURITY.UNLOCK = true ∧ (s.ripe c SECURITY.UNLOCK).mode ≠ 7) ∧
    (let s : State := State.reset; s.sec.unlocking = false) ∧
    (let s : State := ({ State.reset with sec := { State.reset.sec with unlocking := true } }); s.sec.unlocking = true ∧ s.otp.scanPermit = false) :=
  by and_intros <;> decide +kernel

theorem witness_ScrubFuseBist_1 :
    (let s : State := State.reset; let m : Nat := 0; let upset : Nat := 0; s.scrubs m = false) ∧
    (let s : State := (({ State.reset with bist := { State.reset.bist with scrubAt := [(0, 5)], lapAt := [(0, 1)] } } : State).set DEVICE.MODE 3); let m : Nat := 0; s.scrubs m = true ∧ s.bist.scrubAt.look m ≠ 0 ∧ s.bist.scrubAt.look m + 1 < scrubWords m ∧ s.eccOf m (s.bist.scrubAt.look m) = 0) ∧
    (let s : State := (({ State.reset with bist := { State.reset.bist with scrubAt := [(0, 5)], lapAt := [(0, 1)] } } : State).set DEVICE.MODE 3); let m : Nat := 0; let b : Nat := 9; s.scrubs m = true ∧ s.bist.scrubAt.look m ≠ 0 ∧ s.bist.scrubAt.look m + 1 < scrubWords m ∧ b < 72 ∧ m ≠ 2 ∧ m ≠ 33 ∧ m ≠ 34) ∧
    (let s : State := (({ State.reset with bist := { State.reset.bist with scrubAt := [(5, 5)], lapAt := [(5, 1)] } } : State).set DEVICE.MODE 3); let m : Nat := 5; s.scrubs m = true ∧ s.bist.scrubAt.look m ≠ 0 ∧ s.bist.scrubAt.look m + 1 < scrubWords m ∧ m ≠ 2) ∧
    (let s : State := State.reset; let c : Cls := .mgmt; s.takes c FUSEMAP.OP (2 ^ 31 + 256 + 0) = true ∧ s.takes c FUSEMAP.ARG (2 ^ 31 + 256 + 0) = true ∧ s.takes c FUSEMAP.GO (2 ^ 31 + 256 + 0) = true ∧ (s.ripe c FUSEMAP.OP 3).on FUSEMAP.BUSY = false) ∧
    (let s : State := State.reset.set FUSEMAP.BUSY 1; let c : Cls := .mgmt; s.takes c FUSEMAP.OP (2 ^ 31 + 256 + 0) = true ∧ s.takes c FUSEMAP.ARG (2 ^ 31 + 256 + 0) = true ∧ s.takes c FUSEMAP.GO (2 ^ 31 + 256 + 0) = true ∧ (s.ripe c FUSEMAP.OP 3).on FUSEMAP.BUSY = true) ∧
    (let s : State := State.reset; let c : Cls := .mgmt; let arg : Nat := 3; arg < 32 ∧ s.takes c FUSEMAP.OP (2 ^ 31 + 512 + arg) = true ∧ s.takes c FUSEMAP.ARG (2 ^ 31 + 512 + arg) = true ∧ s.takes c FUSEMAP.GO (2 ^ 31 + 512 + arg) = true ∧ (s.ripe c FUSEMAP.OP 3).on FUSEMAP.BUSY = false) ∧
    (let s : State := State.reset.set FUSEMAP.BUSY 1; let c : Cls := .mgmt; let arg : Nat := 3; arg < 32 ∧ s.takes c FUSEMAP.OP (2 ^ 31 + 512 + arg) = true ∧ s.takes c FUSEMAP.ARG (2 ^ 31 + 512 + arg) = true ∧ s.takes c FUSEMAP.GO (2 ^ 31 + 512 + arg) = true ∧ (s.ripe c FUSEMAP.OP 3).on FUSEMAP.BUSY = true) ∧
    (let s : State := State.reset; let bad : Bool := false; s.bist.fuse = none) ∧
    (let s : State := ({ State.reset with bist := { State.reset.bist with fuse := some (1, 0, 0x40000000) } } : State); let bad : Bool := false; let op : Nat := 1; let arg : Nat := 0; let e : Nat := 0x40000000; s.bist.fuse = some (op, arg, e) ∧ s.fuseResult op arg e bad ≠ 1) ∧
    (let s : State := ({ State.reset with bist := { State.reset.bist with fuse := some (1, 0, 0x40000000) } } : State).set THERMAL.WRITE_OK 1; let arg : Nat := 0; let e : Nat := 0x40000000; let k : Nat := 0; s.bist.fuse = some (1, arg, e) ∧ s.fuseResult 1 arg e false = 1 ∧ s.otp.field.findIdx? (fun x => x == 0) = some k) ∧
    (let s : State := ({ State.reset with otp := { State.reset.otp with field := 0x40000000 :: List.replicate 31 0 }, bist := { State.reset.bist with fuse := some (2, 0, 0) } } : State).set THERMAL.WRITE_OK 1; let k : Nat := 0; let e : Nat := 0; s.bist.fuse = some (2, k, e) ∧ s.fuseResult 2 k e false = 1) :=
  by and_intros <;> decide +kernel

theorem witness_ScrubFuseBist_2 :
    (let s : State := State.reset; let c : Cls := .mgmt; let t : Nat := 5; t < 256 ∧ s.takes c BIST.TARGET (2 ^ 31 + t) = true ∧ s.takes c BIST.GO (2 ^ 31 + t) = true ∧ (s.ripe c BIST.TARGET 2).mode ≠ 7) ∧
    (let s : State := (State.reset.set DEVICE.MODE 7).set BIST.BUSY 1; let c : Cls := .mgmt; let t : Nat := 5; t < 256 ∧ s.takes c BIST.TARGET (2 ^ 31 + t) = true ∧ s.takes c BIST.GO (2 ^ 31 + t) = true ∧ (s.ripe c BIST.TARGET 2).mode = 7 ∧ (s.ripe c BIST.TARGET 2).on BIST.BUSY = true ∨ t < 36 ∧ (s.ripe c BIST.TARGET 2).memInUse t = true) ∧
    (let s : State := State.reset.set DEVICE.MODE 7; let c : Cls := .mgmt; let t : Nat := 0x41; t < 256 ∧ s.takes c BIST.TARGET (2 ^ 31 + t) = true ∧ s.takes c BIST.GO (2 ^ 31 + t) = true ∧ (s.ripe c BIST.TARGET 2).mode = 7 ∧ (s.ripe c BIST.TARGET 2).on BIST.BUSY = false ∧ 0x40 ≤ t ∧ t ≤ 0x44 ∧ t ≠ 0x42) ∧
    (let s : State := State.reset.set DEVICE.MODE 7; let c : Cls := .mgmt; s.takes c BIST.TARGET (2 ^ 31 + 0x42) = true ∧ s.takes c BIST.GO (2 ^ 31 + 0x42) = true ∧ (s.ripe c BIST.TARGET 2).mode = 7 ∧ (s.ripe c BIST.TARGET 2).on BIST.BUSY = false) ∧
    (let s : State := State.reset.set DEVICE.MODE 7; let c : Cls := .mgmt; let t : Nat := 33; t < 256 ∧ s.takes c BIST.TARGET (2 ^ 31 + t) = true ∧ s.takes c BIST.GO (2 ^ 31 + t) = true ∧ (s.ripe c BIST.TARGET 2).mode = 7 ∧ (s.ripe c BIST.TARGET 2).on BIST.BUSY = false ∧ (t < 3 ∨ t = 33 ∨ t = 34) ∧ (s.ripe c BIST.TARGET 2).memInUse t = false) ∧
    (let s : State := ({ State.reset with bist := { State.reset.bist with run := some 0x42 } }); let c : Cls := .mgmt; let t : Nat := 0x42; s.triggered c BIST.ABORT = true ∧ (s.ripe c BIST.ABORT).bist.run = some t) ∧
    (let s : State := State.reset; let c : Cls := .mgmt; s.triggered c BIST.ABORT = true ∧ (s.ripe c BIST.ABORT).bist.run = none) ∧
    (let s : State := State.reset; let fl : List (Nat × Nat) := []; let tx : Nat := 0; let rx : Nat := 0; let cal : Nat := 0; let dev : Int := 0; s.bist.run = none) ∧
    (let s : State := ({ State.reset with bist := { State.reset.bist with run := some 0x40, mems := [] } } : State); let fl : List (Nat × Nat) := []; let tx : Nat := 0; let rx : Nat := 0; let cal : Nat := 0; let dev : Int := 501; s.bist.run = some 0x40 ∧ s.bist.mems = [] ∧ s.bist.abort = false ∧ dev.natAbs < 32768) ∧
    (let s : State := ({ State.reset with bist := { State.reset.bist with run := some 0x41, mems := [] } } : State); let fl : List (Nat × Nat) := []; let tx : Nat := 0; let rx : Nat := 0; let cal : Nat := 0; let dev : Int := -100; s.bist.run = some 0x41 ∧ s.bist.mems = [] ∧ s.bist.abort = false ∧ dev.natAbs < 32768) ∧
    (let s : State := ({ State.reset with bist := { State.reset.bist with run := some 0x42, mems := [], abort := true } } : State); let fl : List (Nat × Nat) := []; let tx : Nat := 0; let rx : Nat := 0; let cal : Nat := 0; let dev : Int := 0; let k : Nat := 0x42; s.bist.run = some k ∧ s.bist.abort = true ∧ s.bist.mems = []) ∧
    (let s : State := ({ State.reset with bist := { State.reset.bist with run := some 0x43, mems := [] } } : State); let fl : List (Nat × Nat) := []; let tx : Nat := 3; let rx : Nat := 5; let cal : Nat := 2; let dev : Int := 0; s.bist.run = some 0x43 ∧ s.bist.mems = [] ∧ s.bist.abort = false ∧ rx < 2 ^ 64) :=
  by and_intros <;> decide +kernel

theorem witness_ScrubFuseBist_3 :
    (let s : State := ({ State.reset with bist := { State.reset.bist with run := some 33, mems := [33] } } : State); let fl : List (Nat × Nat) := [(7, 0x100)]; let tx : Nat := 0; let rx : Nat := 0; let cal : Nat := 0; let dev : Int := 0; s.bist.run = some 33 ∧ s.bist.mems = [33] ∧ s.bist.abort = false) ∧
    (let s : State := ({ State.reset with bist := { State.reset.bist with fifo := [(1, 2), (3, 4)] } }); let c : Cls := .mgmt; s.triggered c BIST.RES_POP = true) :=
  by and_intros <;> decide +kernel

theorem witness_Housekeeping_1 :
    (let s : State := (State.reset.set (HDR.ACT 0x120) 1); let c : Cls := .mgmt; let ch : Nat := 12; ch < 64 ∧ s.takes c HKADC.CH (2 ^ 31 + ch) = true ∧ s.takes c HKADC.GO (2 ^ 31 + ch) = true ∧ (s.ripe c HKADC.CH 2).act 0x120 = true ∧ ch < 35) ∧
    (let s : State := (State.reset.set (HDR.ACT 0x120) 1); let c : Cls := .mgmt; let ch : Nat := 35; ch < 64 ∧ s.takes c HKADC.CH (2 ^ 31 + ch) = true ∧ s.takes c HKADC.GO (2 ^ 31 + ch) = true ∧ (s.ripe c HKADC.CH 2).act 0x120 = false ∨ 35 ≤ ch) ∧
    (let s : State := State.reset; (s.get HKADC.SEQ_PERIOD = 0 ∨ s.act 0x120 = false ∨ s.ao < s.hk.passAt + s.get HKADC.SEQ_PERIOD * tickMs ∨ s.hk.reqs.any (fun e => e.2 == 0) = true)) ∧
    (let s : State := ({ (((State.reset.set (HDR.ACT 0x120) 1).set HKADC.SEQ_PERIOD 1).set HKADC.SEQ_LEN 2).set (HKADC.SEQ 1) 9 with ao := 983040 } : State); s.get HKADC.SEQ_PERIOD ≠ 0 ∧ s.act 0x120 = true ∧ s.hk.passAt + s.get HKADC.SEQ_PERIOD * tickMs ≤ s.ao ∧ s.hk.reqs.any (fun e => e.2 == 0) = false ∧ s.get HKADC.SEQ_LEN ≤ 16 ∧ (∀ i, i < s.get HKADC.SEQ_LEN → s.get (HKADC.SEQ i) < 35)) ∧
    (let s : State := (State.reset.set (HDR.ACT 0x120) 1).set (HKADC.CMP_EN 13) 1; let ch : Nat := 13; let back : Bool := false; (ch < 8 ∨ 12 ≤ ch ∧ ch < 16) ∧ s.act 0x120 = true ∧ s.on (HKADC.CMP_EN ch) = true ∧ (back = true ∨ s.hk.disarmed.look ch = 0)) ∧
    (let s : State := State.reset; let ch : Nat := 3; let back : Bool := true; (s.act 0x120 = false ∨ s.on (HKADC.CMP_EN ch) = false ∨ back = false ∧ s.hk.disarmed.look ch ≠ 0)) ∧
    (let s : State := ({ (State.reset.set (HDR.ACT 0x120) 1) with hk := { State.reset.hk with reqs := [(12, 2)], calAt := none } } : State); let x : Int := -5; let bad : Bool := false; let ch : Nat := 12; let cause : Nat := 2; s.pwr.vaux = true ∧ s.hk.calAt = none ∧ s.act 0x120 = true ∧ s.hkNext = some (ch, cause) ∧ 12 ≤ ch ∧ ch < 16 ∧ cause < 4 ∧ s.get HKADC.AVG_A = 0 ∧ -2 ^ 23 ≤ x ∧ x < 2 ^ 23 ∧ s.hk.queue.length < 64) ∧
    (let s : State := ({ ((State.reset.set (HDR.ACT 0x120) 1).set HKADC.AVG_A 1).set HKADC.SHIFT 1 with hk := { State.reset.hk with reqs := [(12, 2)], calAt := none, queue := List.replicate 64 (0, 0) } } : State); let xs : List Int := [7, 6]; let bad : Bool := false; let ch : Nat := 12; let cause : Nat := 2; let a : Nat := 1; let k : Nat := 1; s.pwr.vaux = true ∧ s.hk.calAt = none ∧ s.act 0x120 = true ∧ s.hkNext = some (ch, cause) ∧ 12 ≤ ch ∧ ch < 16 ∧ cause < 4 ∧ s.get HKADC.AVG_A = a ∧ 1 ≤ a ∧ a ≤ 8 ∧ s.get HKADC.SHIFT = k ∧ k ≤ 8 ∧ 64 ≤ s.hk.queue.length ∧ xs.length = 2 ^ a) ∧
    (let s : State := { State.reset with hk := { State.reset.hk with calAt := some 5 } }; let sup : Bool := true; let ch : Nat := 16; let xs : List Int := [5]; let bad : Bool := false; (s.pwr.vaux = false ∨ s.hk.calAt ≠ none)) ∧
    (let s : State := ({ State.reset.set (THERMAL.SEN_EN 16) 1 with hk := { State.reset.hk with calAt := none } } : State); let v : Int := 6400; let k : Nat := 16; s.pwr.vaux = true ∧ s.hk.calAt = none ∧ isThermal k = true ∧ s.on (THERMAL.SEN_EN k) = true ∧ -2 ^ 23 ≤ v ∧ v < 2 ^ 23) ∧
    (let s : State := ((({ State.reset.set (THERMAL.SEN_EN 16) 1 with hk := { State.reset.hk with calAt := none, convAt := [(16, 1)] } } : State).set (THERMAL.BROKEN 16) 0)); let v : Int := 6400; let k : Nat := 16; s.pwr.vaux = true ∧ s.hk.calAt = none ∧ isThermal k = true ∧ s.on (THERMAL.SEN_EN k) = true ∧ -2 ^ 23 ≤ v ∧ v < 2 ^ 23 ∧ s.on (THERMAL.BROKEN k) = false ∧ v < s.geti (THERMAL.LIM_WARN k) * 64 - s.get (THERMAL.HYST k) * 128 ∧ s.geti (THERMAL.LIM_WARN k) ≤ s.geti (THERMAL.LIM_THROTTLE k) ∧ s.geti (THERMAL.LIM_WARN k) ≤ s.geti (THERMAL.SHUT k) ∧ s.on (THERMAL.ST_WARN k) = false ∧ s.on (THERMAL.ST_THROTTLE k) = false) ∧
    (let s : State := ({ State.reset with hk := { State.reset.hk with calNext := 1, calAt := none } }); let d : Int := 0; s.hk.calAt = none ∧ s.hk.calNext ≠ 0 ∧ s.hk.calNext ≤ s.ao + 1) :=
  by and_intros <;> decide +kernel

theorem witness_Housekeeping_2 :
    (let s : State := ({ State.reset with hk := { State.reset.hk with calAt := some 5 } }); let d : Int := -100; let t : Nat := 5; s.hk.calAt = some t ∧ d.natAbs ≤ 100) ∧
    (let s : State := ({ State.reset with hk := { State.reset.hk with calAt := some 5 } }); let d : Int := 101; let a : Nat := 5; s.hk.calAt = some a ∧ 100 < d.natAbs) ∧
    (let s : State := ({ State.reset with hk := { State.reset.hk with queue := [(1, 2), (3, 4)] } }); let c : Cls := .mgmt; s.triggered c HKADC.Q_POP = true ∧ (s.ripe c HKADC.Q_POP).hk.queue.length ≤ 64) :=
  by and_intros <;> decide +kernel

theorem witness_AgeingAndVoltage_1 :
    (let s : State := { State.reset with tb := 5 }; let adc : List Nat := []; let dac : List Nat := []; let up : Nat := 0; (s.tbRun = false ∨ s.tb % 2 ^ 20 ≠ 0)) ∧
    (let s : State := { State.reset with tb := 2 ^ 20, tbRun := true }; let adc : List Nat := []; let dac : List Nat := []; let up : Nat := 0; s.tbRun = true ∧ s.tb % 2 ^ 20 = 0) ∧
    (let s : State := { State.reset with ao := 10 ^ 12 }; let v : Nat := 780; let i : Nat := 9; let q : Int := 100; s.pwr.vaux = true ∧ s.hk.telAt + max 1 (s.get AVS.TEL_MS) * tickMs ≤ s.ao ∧ v < 2 ^ 16 ∧ i < 2 ^ 16) ∧
    (let s : State := State.reset; let v : Nat := 780; let i : Nat := 9; let q : Int := 100; (s.pwr.vaux = false ∨ s.ao < s.hk.telAt + max 1 (s.get AVS.TEL_MS) * tickMs)) ∧
    (let s : State := { State.reset with pwr := { State.reset.pwr with vio := 15 } }; let w : Nat := 7; s.pwr.vaux = true ∧ bitOf s.pwr.vio 1 = true) ∧
    (let s : State := { State.reset with pwr := { State.reset.pwr with vio := 0 } }; let w : Nat := 7; (s.pwr.vaux = false ∨ bitOf s.pwr.vio 1 = false)) ∧
    (let s : State := State.reset; let ack : Bool := true; let v : Nat := 780; s.age.cmdAt = none) ∧
    (let s : State := ({ State.reset with ao := 10 ^ 12, age := { State.reset.age with cmdAt := some 0 } } : State).set AVS.TARGET 780; let v : Nat := 795; let a : Nat := 0; s.age.cmdAt = some a ∧ a + 1966080 ≤ s.ao ∧ s.modes.step ≠ 2 ∧ v < 2 ^ 16 ∧ v ≤ s.get AVS.TARGET + 15 ∧ s.get AVS.TARGET ≤ v + 15) ∧
    (let s : State := ({ State.reset with ao := 10 ^ 12, age := { State.reset.age with cmdAt := some 0 } } : State).set AVS.TARGET 780; let ack : Bool := true; let v : Nat := 796; let a : Nat := 0; s.age.cmdAt = some a ∧ a + 1966080 ≤ s.ao ∧ s.modes.step ≠ 2 ∧ (ack = false ∨ v + 15 < s.get AVS.TARGET ∨ s.get AVS.TARGET + 15 < v)) ∧
    (let s : State := State.reset; let d : Nat := 0; let n : Nat := 5; s.graceOver (d % 2) (n % 64) = false) ∧
    (let s : State := (((({ State.reset with ao := 10 ^ 15, ret := { State.reset.ret with candAt := [(5, 1)] } } : State).set AGEING.AUTO_RETIRE 1).set (candLoc 0 5) 32).set AGEING.RETIRE_MAX 4); let n : Nat := 5; n < 64 ∧ s.graceOver 0 n = true) ∧
    (let s : State := (((({ State.reset with ao := 10 ^ 15, ret := { State.reset.ret with candAt := [(69, 1)] } } : State).set AGEING.AUTO_RETIRE 1).set (candLoc 1 5) 32).set AGEING.RETIRE_MAX 4); let n : Nat := 5; n < 64 ∧ s.graceOver 1 n = true) :=
  by and_intros <;> decide +kernel

theorem witness_AgeingAndVoltage_2 :
    (let s : State := State.reset.set DEVICE.MODE 5; let c : Cls := .mgmt; let agent : Nat := 0; let v : Nat := 32; s.accepts c AGEING.RX_RETIRE_HI v = true ∧ v < 2 ^ 32) ∧
    (let s : State := State.reset.set DEVICE.MODE 5; let c : Cls := .mgmt; let agent : Nat := 0; let v : Nat := 32; s.accepts c AGEING.RX_RETIRE_LO v = true ∧ v < 2 ^ 32) ∧
    (let s : State := State.reset; s.age.dayDue = false) ∧
    (let s : State := { State.reset with age := { State.reset.age with dayDue := true } }; s.age.dayDue = true ∧ s.age.dayHeld ≤ 12 * tickHour ∧ s.get AGEING.LIFE_N + 1 < 2 ^ 32) ∧
    (let s : State := { State.reset with age := { State.reset.age with dayDue := true, dayHeld := 13 * tickHour } }; s.age.dayDue = true ∧ 12 * tickHour < s.age.dayHeld) :=
  by and_intros <;> decide +kernel

theorem witness_EmptyQueueTicks :
    (let s : State := State.reset; s.pending = [] ∧ s.pwr.vaux = true) ∧
    (let s : State := { State.reset with pwr := { State.reset.pwr with vaux := false } }; s.pending = [] ∧ s.pwr.vaux = false) :=
  by and_intros <;> decide +kernel

theorem witness_EventsAreSet :
    (let b : Nat := 3; b < 32) ∧
    (let s : State := State.reset; let c : Cls := .mgmt; let pg : Nat := 0x120; let mask : Nat := 5; let again : Nat := 1; mask < 2 ^ 32 ∧ s.triggered c (HDR.EVT pg) (mask + again * 2 ^ 32) = true) :=
  by and_intros <;> decide +kernel

theorem witness_EnableDuringShutDown :
    (let s : State := { State.reset with seqs := [(0x120, 2)] }; let c : Cls := .mgmt; let pg : Nat := 0x120; noEnable pg = false ∧ s.accepts c (HDR.EN pg) 1 = true ∧ (s.ripe c (HDR.EN pg)).seqOf pg = 2) ∧
    (let s : State := { State.reset with seqs := [(0x120, 2)] }.set (HDR.EN 0x120) 1; let pg : Nat := 0x120; s.seqOf pg = 2 ∧ s.seqMayEnd pg = true ∧ s.on (HDR.EN pg) = true ∧ s.srst.look pg = 0 ∧ pg ≠ 0x0E4 ∧ s.railsOk pg = true ∧ s.loBarred pg = false) :=
  by and_intros <;> decide +kernel

theorem witness_ControllerNames :
    (let s : State := State.reset.set (HDR.CTRL 0x120) 1; let addr : Nat := 0x40120040; let c : Cls := .host; s.deaf = false ∧ inRegs addr = true ∧ addr % 4 = 0 ∧ assigned (pageOf addr) = true ∧ (c = .bb ∧ bitOf (s.get (HDR.CTRL (pageOf addr))) 0 = false ∨ c = .host ∧ bitOf (s.get (HDR.CTRL (pageOf addr))) 1 = false)) :=
  by decide +kernel

theorem witness_NowLatches :
    (let s : State := State.reset; let c : Cls := .mgmt; s.quiet = true ∧ 1 ≤ s.right 0x008 c ∧ s.testPortAllows c false 0x008 0x040 0 = true ∧ s.latches.all (fun x => x.2.1 != TIMEBASE.NOW_LO.key) = true) ∧
    (let s : State := State.reset; let c : Cls := .mgmt; 1 ≤ s.right 0x008 c ∧ s.testPortAllows c false 0x008 0x044 0 = true) ∧
    (let s : State := State.reset; s.latches = []) :=
  by and_intros <;> decide +kernel

theorem witness_ArbitrationWinner :
    (let ws : List WinWrite := [⟨.bb, 0, 3, 5, 0⟩, ⟨.mgmt, 1, 3, 4, 0⟩]; ws ≠ [] ∧ (∀ x ∈ ws, x.val = 3)) ∧
    (let s : State := State.reset.set DEVICE.MODE 5; let l : Loc := DEVICE.MODE_REQ; let ws : List WinWrite := [⟨.mgmt, 0, 6, 4, 0⟩, ⟨.bb, 0, 3, 5, 0⟩]; let w : WinWrite := ⟨.bb, 0, 3, 5, 0⟩; let p : Bool := true; s.winner l ws = some (w, p)) :=
  by and_intros <;> decide +kernel

theorem witness_WritesOnlyWait :
    (let c : Cls := .mgmt; let addr : Nat := 0x40100044; (c ≠ .mgmt ∨ inRegs addr = true) ∧ (pageOf addr ≠ 0x0A8 ∨ offOf addr ≠ 0x054) ∧ pageOf addr ≠ 0x0A2 ∧ pageOf addr ≠ 0x0A3) :=
  by decide +kernel

/-- A locked page whose ACCESS no command changed: the lock after a failed ELEV ends. -/
theorem witness_LockedAccessStands :
    let s := State.reset.set (HDR.ACC_LOCK 0x0AC) 1
    let t := s.setMon (fun m => { m with lockEnd := 0 })
    (exec .elevLockExpiry s = .next t) ∧ t.mode ≠ 2 ∧ s.on (HDR.ACC_LOCK 0x0AC) = true ∧ t.on (HDR.ACC_LOCK 0x0AC) = true ∧
      (∀ w ∈ s.windows, w.loc.page = 0x0AC → w.loc.off ≠ 0x018 ∧ w.loc.off ≠ 0x01C) ∧
      (∀ x ∈ s.triggers, x.loc ≠ DEVICE.DEVICE_RESET) := by
  refine ⟨rfl, ?_⟩
  and_intros <;> decide +kernel

/-- A halted state in which a command runs. -/
theorem witness_HaltLatched :
    let s := State.reset.set DEVICE.HALT 1
    let t := s.setMon (fun m => { m with lockEnd := 0 })
    (exec .elevLockExpiry s = .next t) ∧ s.on DEVICE.HALT = true := ⟨rfl, by decide +kernel⟩

/-- A sound state with a step that answers a next state. -/
theorem witness_StepKeepsSound :
    let s := { State.reset with pending := [.elevLockExpiry] }
    s.Sound ∧ step s = .next (State.reset.setMon (fun m => { m with lockEnd := 0 })) :=
  ⟨by constructor <;> decide +kernel, rfl⟩

end Sys2Proof.Tests
end

section
/-! PROOFS. Every step keeps the state sound (O58).

A state-valued function `State.f` of the model keeps the state sound by the lemma `State.Sound.f`, and the proof of
`State.Sound.f` is the function's own body with a state's soundness `h` in the place of the state: `h.set.raise` for
`(s.set l v).raise pg b`. The lemmas of the first part take over the control flow (a branch, a fold, a pair); the
others stand in the order of the model's files. A lemma says nothing of the other arguments of its function, so they are
left implicit.

A function that matches on a memory read is unfolded by itself (`show State.f = _`), before it meets its arguments:
unfolded where it is applied, it has the kernel evaluate the read at a literal address. -/

namespace Sys2Proof.Machine

/-- The parts of a state that `State.Sound` speaks of. -/
def State.units (s : State) : Store × Store × List Host.Cell × List PathSt × List RxSt × List TxSt × List OctSt ×
    List BiasSt × List CoreSt × List CapSt × List DmaSt × List TapSt × List BeamSt × List EvtPkt :=
  (s.regs, s.bank, s.mem, s.paths, s.rxs, s.txs, s.octs, s.bias, s.cores, s.caps, s.dmas, s.taps, s.beams, s.evtQ)

namespace State.Sound

/-! ### Control flow -/

/-- A change made under a condition, as `if c then t else s`. -/
theorem upon {s t : State} {c : Prop} {_ : Decidable c} (h : s.Sound) (f : s.Sound → t.Sound) :
    (if c then t else s).Sound := by
  split
  · exact f h
  · exact h

/-- A change made unless a condition holds, as `if c then s else t`. -/
theorem except {s t : State} {c : Prop} {_ : Decidable c} (h : s.Sound) (f : s.Sound → t.Sound) :
    (if c then s else t).Sound := by
  split
  · exact h
  · exact f h

theorem ite {s t : State} {c : Prop} {_ : Decidable c} (h : s.Sound) (ht : t.Sound) :
    (if c then s else t).Sound := by
  split
  · exact h
  · exact ht

/-- `ite` where a branch answers a value and a state. -/
theorem ite₂ {α : Type} {p q : α × State} {c : Prop} {_ : Decidable c} (h : p.2.Sound) (ht : q.2.Sound) :
    (if c then p else q).2.Sound := by
  split
  · exact h
  · exact ht

/-- `ite` where a branch answers two values and a state. -/
theorem ite₃ {α β : Type} {p q : α × β × State} {c : Prop} {_ : Decidable c} (h : p.2.2.Sound)
    (ht : q.2.2.Sound) : (if c then p else q).2.2.Sound := by
  split
  · exact h
  · exact ht

theorem foldl {α : Type} {s : State} {l : List α} {f : State → α → State} (h : s.Sound)
    (hf : ∀ {t a}, t.Sound → (f t a).Sound) : (l.foldl f s).Sound := by
  induction l generalizing s with
  | nil => exact h
  | cons a l ih => exact ih (hf h)

/-- `foldl` with a value carried beside the state. -/
theorem foldl₂ {α β : Type} {l : List β} {p : α × State} {f : α × State → β → α × State} (h : p.2.Sound)
    (hf : ∀ {q b}, q.2.Sound → (f q b).2.Sound) : (l.foldl f p).2.Sound := by
  induction l generalizing p with
  | nil => exact h
  | cons b l ih => exact ih (hf h)

theorem snd {α : Type} {a : α} {t : State} (h : t.Sound) : (a, t).2.Sound := h

/-- The state that a `match` on a pair names. -/
theorem of_eq {α : Type} {p : α × State} {a : α} {t : State} (h : p.2.Sound) (e : p = (a, t)) : t.Sound := by
  subst e
  exact h

/-- `of_eq` for a triple. -/
theorem of_eq₂ {α β : Type} {p : α × β × State} {a : α} {b : β} {t : State} (h : p.2.2.Sound)
    (e : p = (a, b, t)) : t.Sound := by
  subst e
  exact h

/-- Soundness rests on the fields of `State.units` alone. They are written out for `s`, so that `rfl` compares field by
field and never the two states. -/
theorem same {s t : State} (h : s.Sound)
    (e : t.units = (s.regs, s.bank, s.mem, s.paths, s.rxs, s.txs, s.octs, s.bias, s.cores, s.caps, s.dmas,
      s.taps, s.beams, s.evtQ)) : t.Sound := by
  simp only [State.units, Prod.mk.injEq] at e
  constructor
  all_goals simp only [e, h.regs, h.bank, h.mem, h.paths, h.rxs, h.txs, h.octs, h.bias, h.cores, h.caps, h.dmas,
    h.taps, h.beams, h.evtQ]

theorem reset : State.reset.Sound := by
  constructor <;> decide

theorem swapStores_wf {pg : Nat} {bank regs : Store} (h : regs.wf = true) : (swapStores pg bank regs).wf = true :=
  List.foldlRecOn (motive := fun r => Store.wf r = true) _ _ h fun _ hr _ _ => Store.put_wf _ _ _ hr

variable {s : State}

/-! ### `Ops` -/

theorem set {l v} (h : s.Sound) : (s.set l v).Sound :=
  { h with regs := Store.put_wf _ _ _ h.regs }

theorem seti {l x} (h : s.Sound) : (s.seti l x).Sound :=
  h.set

theorem set64 {lo hi v} (h : s.Sound) : (s.set64 lo hi v).Sound :=
  h.set.set

theorem count {l k} (h : s.Sound) : (s.count l k).Sound :=
  h.set

theorem bump {l} (h : s.Sound) : (s.bump l).Sound :=
  h.set

theorem edit {l v} (h : s.Sound) : (s.edit l v).Sound :=
  { h with bank := Store.put_wf _ _ _ h.bank }

theorem setLive {l v} (h : s.Sound) : (s.setLive l v).Sound :=
  .ite h.set h.set.edit

theorem setBoth {l v} (h : s.Sound) : (s.setBoth l v).Sound :=
  h.set.edit

theorem forget {p} (h : s.Sound) : (s.forget p).Sound :=
  { h with regs := Store.filter_wf _ _ h.regs, bank := Store.filter_wf _ _ h.bank }

theorem forgetKeys {p} (h : s.Sound) : (s.forgetKeys p).Sound :=
  { h with regs := Store.filter_wf _ _ h.regs, bank := Store.filter_wf _ _ h.bank }

theorem freeNat (h : s.Sound) : s.freeNat.2.Sound :=
  { h with }

theorem queueEvt {p} (h : s.Sound) : (s.queueEvt p).Sound := by
  have joined {q} : ({ s with evtQ := s.evtQ.dropLast ++ [q] } : State).Sound := by
    have hq := h.evtQ
    exact { h with evtQ := by simp; omega }
  have queued (hl : s.evtQ.length < 32) : ({ s with evtQ := s.evtQ ++ [p] } : State).Sound :=
    { h with evtQ := by simpa using hl }
  unfold State.queueEvt
  split
  · split
    · exact joined
    · split
      · exact queued ‹_›
      · exact h.count
  · split
    · exact queued ‹_›
    · exact h.count

theorem deliver {pg b} (h : s.Sound) : (s.deliver pg b).Sound :=
  .upon (h.upon fun h => { h with cores := (length_upd ..).trans h.cores }) (·.queueEvt)

theorem raise {pg b} (h : s.Sound) : (s.raise pg b).Sound :=
  .except { h with } fun h => .upon (.same h.set rfl) (·.deliver)

theorem raiseErr {pg} (h : s.Sound) : (s.raiseErr pg).Sound :=
  h.set.raise

theorem startSeq {pg k} (h : s.Sound) : (s.startSeq pg k).Sound :=
  .set { h with }

theorem forceShut {pg} (h : s.Sound) : (s.forceShut pg).Sound :=
  .ite h.startSeq <| h.upon (·.startSeq)

theorem logAs {cls type sev pg w4 w5 w6} (h : s.Sound) : (s.logAs cls type sev pg w4 w5 w6).Sound :=
  .set <| .same (.same ((h.upon (·.count.raise)).except (·.count.raise)) rfl) rfl

theorem logHw {type sev pg w4 w5 w6} (h : s.Sound) : (s.logHw type sev pg w4 w5 w6).Sound :=
  h.logAs

theorem logEvent {sev pg b} (h : s.Sound) : (s.logEvent sev pg b).Sound :=
  h.logHw

theorem raiseLog {sev pg b} (h : s.Sound) : (s.raiseLog sev pg b).Sound :=
  h.raise.logEvent

theorem refuse {c addr code} (h : s.Sound) : (s.refuse c addr code).Sound :=
  h.set.set.set.raise

theorem reply {c data status} (h : s.Sound) : (s.reply c data status).Sound :=
  { h with }

theorem supersede {l losers winner prot at_} (h : s.Sound) : (s.supersede l losers winner prot at_).Sound := by
  unfold State.supersede
  split
  · exact h
  · exact (h.foldl (·.count)).set.set.set.set.set64.raise

theorem resolve {l ws held at_} (h : s.Sound) : (s.resolve l ws held at_).2.Sound := by
  unfold State.resolve
  split
  · exact h.supersede
  · split
    · exact h
    · exact h.supersede

theorem joinWindow {l w} (h : s.Sound) : (s.joinWindow l w).Sound := by
  unfold State.joinWindow
  split <;> exact { h with }

theorem refuseWrite {c addr code} (h : s.Sound) : (s.refuseWrite c addr code).Sound :=
  h.refuse.upon fun h => { h with }

theorem noField {c pg off} (h : s.Sound) : (s.noField c pg off).Sound :=
  h.except fun h => .ite h.refuseWrite.reply h.reply

/-! ### `Mem` -/

theorem setByte {a v} (h : s.Sound) : (s.setByte a v).Sound :=
  { h with mem := Memory.write_wf _ _ _ h.mem }

theorem setWord {a v} (h : s.Sound) : (s.setWord a v).Sound :=
  h.setByte.setByte.setByte.setByte

theorem setWords {a ws} (h : s.Sound) : (s.setWords a ws).Sound := by
  induction ws generalizing s a with
  | nil => exact h
  | cons v t ih =>
    unfold State.setWords
    exact ih h.setWord

theorem setEcc {mem idx v} (h : s.Sound) : (s.setEcc mem idx v).Sound :=
  { h with }

theorem eccAll {mem v} (h : s.Sound) : (s.eccAll mem v).Sound :=
  { h with }

theorem eccNote {mem idx bit req ue} (h : s.Sound) : (s.eccNote mem idx bit req ue).Sound :=
  h.set.set.set

theorem eccCE {mem idx bit req} (h : s.Sound) : (s.eccCE mem idx bit req).Sound :=
  (h.eccNote.count.set.raise.upon (·.raise)).upon fun h => .same h.logEvent rfl

theorem eccUE {mem idx req} (h : s.Sound) : (s.eccUE mem idx req).Sound :=
  h.eccNote.count.set.raiseLog

theorem eccReadWord {req m i} (h : s.Sound) : (s.eccReadWord req m i).2.Sound :=
  .ite₂ h <| .ite₂ h <| .ite₂ h.eccUE h.eccCE

theorem eccRead {req a} (h : s.Sound) : (s.eccRead req a).2.Sound := by
  unfold State.eccRead
  split
  · exact h
  · exact h.eccReadWord

theorem eccWholeWord {m i} (h : s.Sound) : (s.eccWholeWord m i).Sound :=
  h.except fun h => h.setEcc.upon (·.count.raise)

theorem eccWhole {a} (h : s.Sound) : (s.eccWhole a).Sound := by
  unfold State.eccWhole
  split
  · exact h
  · exact h.eccWholeWord

theorem eccMerge {m i req} (h : s.Sound) : (s.eccMerge m i req).2.Sound :=
  .ite₂ h <| .ite₂ h <| .ite₂ h.eccUE (h.setEcc.eccNote.count.count.set.upon (·.raise)).raise.raiseLog

theorem eccPartial {req a} (h : s.Sound) : (s.eccPartial req a).2.Sound := by
  unfold State.eccPartial
  split
  · exact h
  · exact h.eccMerge

theorem readMem {req a} (h : s.Sound) : (s.readMem req a).2.Sound := by
  unfold State.readMem
  split
  next t e => exact h.eccRead.of_eq e
  next t e => exact h.eccRead.of_eq e

theorem writePartial {req a v} (h : s.Sound) : (s.writePartial req a v).2.Sound := by
  unfold State.writePartial
  split
  next t e => exact (h.eccPartial.of_eq e).setWord
  next t e => exact h.eccPartial.of_eq e

theorem writeWhole {a ws} (h : s.Sound) : (s.writeWhole a ws).Sound := by
  induction ws generalizing s a with
  | nil => exact h
  | cons v t ih => exact ih (h.except (·.eccWhole.setWord))

theorem clearMem {lo len} (h : s.Sound) : (s.clearMem lo len).Sound := by
  unfold State.clearMem
  dsimp only
  split
  · exact .eccAll { h with mem := Memory.clear_wf _ _ _ h.mem }
  · exact { h with mem := Memory.clear_wf _ _ _ h.mem }

theorem poisonMem {lo len} (h : s.Sound) : (s.poisonMem lo len).Sound := by
  unfold State.poisonMem
  dsimp only
  split
  · exact .eccAll { h with mem := Memory.clear_wf _ _ _ h.mem }
  · exact { h with mem := Memory.clear_wf _ _ _ h.mem }

/-! ### `Paths` -/

theorem setPath {n f} (h : s.Sound) : (s.setPath n f).Sound :=
  { h with paths := (length_upd ..).trans h.paths }

theorem setRx {n f} (h : s.Sound) : (s.setRx n f).Sound :=
  { h with rxs := (length_upd ..).trans h.rxs }

theorem setTx {n f} (h : s.Sound) : (s.setTx n f).Sound :=
  { h with txs := (length_upd ..).trans h.txs }

theorem setOct {g f} (h : s.Sound) : (s.setOct g f).Sound :=
  { h with octs := (length_upd ..).trans h.octs }

theorem ovlDrop {n} (h : s.Sound) : (s.ovlDrop n).Sound :=
  h.set.set

theorem entered {n q} (h : s.Sound) : (s.entered n q).Sound := by
  unfold State.entered
  dsimp only
  split
  · exact h.setPath
  · exact h.setPath
  · exact h.setPath
  · exact h.setPath.upon fun h => .set <| .same h.setLive.setRx rfl
  · exact h.setPath.ovlDrop

theorem reportSupp {g cause} (h : s.Sound) : (s.reportSupp g cause).Sound :=
  h.except (·.setOct.set64.set.count.raiseLog.queueEvt)

theorem checkReady {n q} (h : s.Sound) : (s.checkReady n q).Sound :=
  h.except fun h => h.except (·.setPath.reportSupp)

theorem goPath {n t q} (h : s.Sound) : (s.goPath n t q).Sound :=
  h.except fun h => .ite (.ite h.setPath h.setPath) <|
    h.except fun h => .ite (h.upon (·.setRx)).setPath.entered.checkReady h.setPath.ovlDrop

theorem turnDriver {n} (h : s.Sound) : (s.turnDriver n).Sound :=
  (h.upon (·.set)).setPath

theorem turnSettle {n} (h : s.Sound) : (s.turnSettle n).Sound :=
  (h.except (·.turnDriver)).setPath.entered.checkReady

theorem mutePath {n cause} (h : s.Sound) : (s.mutePath n cause).Sound :=
  h.set.set

theorem failPage {pg} (h : s.Sound) : (s.failPage pg).Sound :=
  h.upon (·.set.set.raiseErr)

theorem dropIfOff {n} (h : s.Sound) : (s.dropIfOff n).Sound :=
  h.except (·.setPath.ovlDrop)

theorem clearUp (h : s.Sound) : s.clearUp.Sound :=
  { h with }

theorem streamMoved {by_} (h : s.Sound) : (s.streamMoved by_).Sound :=
  { h with }

/-! ### `Capture` -/

theorem setCap {k f} (h : s.Sound) : (s.setCap k f).Sound :=
  { h with caps := (length_upd ..).trans h.caps }

theorem capPut {k o ws} (h : s.Sound) : (s.capPut k o ws).Sound := by
  induction ws generalizing s o with
  | nil => exact h
  | cons v t ih => exact ih h.writeWhole

theorem capEmit {k g ws} (h : s.Sound) : (s.capEmit k g ws).2.Sound :=
  .ite₂ h h.capPut.set

theorem capSample {k g x} (h : s.Sound) : (s.capSample k g x).2.Sound :=
  .ite₂ h <| .ite₂ h h.capEmit

theorem capClose {k g} (h : s.Sound) : (s.capClose k g).2.Sound :=
  .ite₂ h h.capEmit

theorem capTake {k e} (h : s.Sound) : (s.capTake k e).Sound := by
  unfold State.capTake
  split
  · exact h
  · exact .setCap <| .foldl₂ h.setCap fun h => .ite₂ h.setCap h.capSample

theorem capDisarm {k} (h : s.Sound) : (s.capDisarm k).Sound :=
  h.set.setCap

theorem capEnd {k e last} (h : s.Sound) : (s.capEnd k e last).Sound := by
  unfold State.capEnd
  dsimp only
  split
  · exact h.capTake.upon (·.capDisarm)
  · exact
      have h₁ := (h.capTake.capClose.except (·.capPut)).setCap.set.count.raise
      .ite h₁.set.raise.capDisarm <| .ite h₁.capDisarm <| h₁.upon (·.raise.capDisarm)

theorem capArm {k dpd} (h : s.Sound) : (s.capArm k dpd).Sound :=
  h.except fun h => .ite h.raise <| .ite h.raise h.setCap.set.set.set.set.set

theorem capMiss {k cause} (h : s.Sound) : (s.capMiss k cause).Sound :=
  h.setCap.count.raise

theorem capTrigger {k cause t f} (h : s.Sound) : (s.capTrigger k cause t f).Sound := by
  refine h.except fun h => h.except fun h => ?_
  split
  · exact .ite h.setCap <| h.except (·.capMiss)
  · exact .ite h.capMiss <| (h.setCap.upon (·.raise)).upon (·.capPut.set)

theorem capFeeds {k xs} (h : s.Sound) : (s.capFeeds k xs).Sound :=
  h.upon (·.setCap)

theorem capDrain {k} (h : s.Sound) : (s.capDrain k).Sound := by
  unfold State.capDrain
  dsimp only
  split
  · exact h.setCap
  · split
    · exact h.upon (·.capTake)
    · exact h

theorem capFeed {tap k w} (h : s.Sound) : (s.capFeed tap k w).Sound :=
  h.upon (·.capFeeds)

theorem softArm {k} (h : s.Sound) : (s.softArm k).Sound :=
  have h₁ := h.capArm
  .ite h₁.capTrigger <| h₁.upon (·.capTrigger)

theorem capStop {k} (h : s.Sound) : (s.capStop k).Sound :=
  h.upon (·.capEnd)

theorem softTrig {k at_} (h : s.Sound) : (s.softTrig k at_).Sound :=
  h.upon (·.capTrigger)

theorem captureTrigger {k cause frac} (h : s.Sound) : (s.captureTrigger k cause frac).Sound := by
  unfold State.captureTrigger
  split
  · exact h.capTrigger
  · exact h

theorem autoTimeout {k} (h : s.Sound) : (s.autoTimeout k).Sound :=
  h.upon (·.capTrigger)

theorem segDone {k} (h : s.Sound) : (s.segDone k).Sound := by
  unfold State.segDone
  split
  · exact .ite h.capTake <| .ite h.capEnd <| h.upon (·.capEnd)
  · exact h

theorem capMoved {by_ k} (h : s.Sound) : (s.capMoved by_ k).Sound :=
  h.capTake.setCap

theorem capGap {k first resume} (h : s.Sound) : (s.capGap k first resume).Sound := by
  unfold State.capGap
  extract_lets s₁ n s₂ c
  have h₂ : s₂.Sound := h.capTake.setCap
  clear_value s₂
  split
  split
  · exact h₂
  · exact h₂.except (·.capClose.capEmit.setCap.count.count.raise)

/-! ### `Rx` -/

theorem ovlEngage {n} (h : s.Sound) : (s.ovlEngage n).Sound :=
  h.upon fun h => h.set.set.setRx.upon (·.count.raise)

theorem ovlRelease {n below} (h : s.Sound) : (s.ovlRelease n below).Sound :=
  h.upon fun h => h.set.setRx.upon (·.set.setRx)

theorem ovlForceWritten {n v} (h : s.Sound) : (s.ovlForceWritten n v).Sound :=
  have h₁ := h.set
  .ite h₁.set.set.setRx <| h₁.except (·.ovlDrop)

theorem ovlEnWritten {n v} (h : s.Sound) : (s.ovlEnWritten n v).Sound :=
  h.upon (·.set)

theorem rxInvalid {n t} (h : s.Sound) : (s.rxInvalid n t).Sound :=
  h.setRx

theorem modReset {n} (h : s.Sound) : (s.modReset n).Sound :=
  h.upon fun h =>
    have h₁ := h.rxInvalid.count
    .ite h₁.raiseLog h₁.raise

theorem compSwap {n} (h : s.Sound) : (s.compSwap n).Sound := by
  unfold State.compSwap
  split
  · exact h.upon (·.setRx.set.set.set.set.count.raise)
  · exact h

theorem rxqOverflow {n} (h : s.Sound) : (s.rxqOverflow n).Sound :=
  .ite h.setRx <| h.upon (·.setRx.count.raiseLog)

theorem alignPath {n r} (h : s.Sound) : (s.alignPath n r).Sound :=
  h.setRx.set

theorem decAlign {n} (h : s.Sound) : (s.decAlign n).Sound :=
  h.alignPath

theorem alignDone {n} (h : s.Sound) : (s.alignDone n).Sound := by
  unfold State.alignDone
  split
  · exact h.upon (·.setRx.raise)
  · exact h

theorem setThrDue {tx n v} (h : s.Sound) : (s.setThrDue tx n v).Sound :=
  .ite h.setTx h.setRx

theorem thrSample {tx n x} (h : s.Sound) : (s.thrSample tx n x).Sound :=
  h.except fun h => .ite (.ite h.setThrDue h.set) h.set

theorem thrCross {tx n} (h : s.Sound) : (s.thrCross tx n).Sound := by
  unfold State.thrCross
  dsimp only
  split
  · exact h
  · exact h.setThrDue.set.set.set64.raise

theorem thrWritten {tx n l v} (h : s.Sound) : (s.thrWritten tx n l v).Sound :=
  h.set.set.setThrDue.upon (·.set)

theorem setTap {t f} (h : s.Sound) : (s.setTap t f).Sound :=
  { h with taps := (length_upd ..).trans h.taps }

theorem tapHold {t} (h : s.Sound) : (s.tapHold t).Sound :=
  h.set.set.set

theorem tapRelease {t} (h : s.Sound) : (s.tapRelease t).Sound :=
  h.setTap

theorem withdraw {n b} (h : s.Sound) : (s.withdraw n b).Sound :=
  h.setPath.foldl fun h => h.upon fun h => .ite h.tapHold h.tapRelease

theorem tapFresh {t l} (h : s.Sound) : (s.tapFresh t l).Sound :=
  h.set.except (·.set)

theorem peakNew {t} (h : s.Sound) : (s.peakNew t).Sound := by
  refine h.upon fun h => .raise <| .tapFresh ?_
  split
  · exact h.set.set64.set
  · exact h.set.set

theorem guardWindow {p} (h : s.Sound) : (s.guardWindow p).Sound :=
  h.upon fun h => { h with }

theorem guardWindows (h : s.Sound) : s.guardWindows.Sound :=
  h.foldl (·.guardWindow)

theorem msNew {t} (h : s.Sound) : (s.msNew t).Sound :=
  h.upon (·.set.set.set64.set.tapFresh.raise.guardWindows)

theorem streamPush {c w} (h : s.Sound) : (s.streamPush c w).2.Sound :=
  .ite₂ { h with cores := (length_upd ..).trans h.cores } h

theorem envelope {t} (h : s.Sound) : (s.envelope t).Sound :=
  h.upon fun h =>
    have h₁ := h.freeNat
    .ite (h₁.streamPush.except (·.count.raise)) <| h₁.upon (·.capFeed)

theorem rxCommitted {old : State} {n} (h : s.Sound) : (s.rxCommitted old n).Sound :=
  ((h.upon (·.rxInvalid)).upon (·.rxInvalid)).upon (·.set)

/-! ### `CalBase` -/

theorem retireCand {d n cause} (h : s.Sound) : (s.retireCand d n cause).Sound :=
  h.except fun h => .same h.set.raise.logHw rfl

theorem cmplNote {n} (h : s.Sound) : (s.cmplNote n).Sound :=
  .upon { h with } (·.retireCand)

theorem calFail {reason kind p} (h : s.Sound) : (s.calFail reason kind p).Sound :=
  .upon (.same h.count.raise.set.set.set.set rfl) (·.retireCand)

theorem fgMap {f} (h : s.Sound) : (s.fgMap f).Sound :=
  { h with }

theorem withdrawnNote {p v} (h : s.Sound) : (s.withdrawnNote p v).Sound :=
  h.set.set

theorem fgNext (h : s.Sound) : s.fgNext.Sound :=
  h.except fun h => .foldl (h.foldl fun h => h.except fun h => .ite h.setPath h.setPath) (·.setPath)

theorem fgEnd {q m reason} (h : s.Sound) : (s.fgEnd q m reason).Sound :=
  .fgNext <| .fgMap <| h.foldl fun h => h.upon fun h => h.foldl fun h => h.upon (·.calFail)

theorem setBeam {d f} (h : s.Sound) : (s.setBeam d f).Sound :=
  { h with beams := (length_upd ..).trans h.beams }

theorem forcingChanged {d} (h : s.Sound) : (s.forcingChanged d).Sound :=
  h.setBeam.set

theorem withdrawNow {n b} (h : s.Sound) : (s.withdrawNow n b).Sound :=
  h.withdraw.setPath.withdrawnNote.forcingChanged.forcingChanged.upon (·.raise)

theorem slewFrom {l iq n start} (h : s.Sound) : (s.slewFrom l iq n start).Sound :=
  .ite { h with } { h with }

theorem slewCommitted {old : State} {n fields} (h : s.Sound) : (s.slewCommitted old n fields).Sound :=
  h.foldl fun h => h.except (·.slewFrom)

/-! ### `DpdBase` -/

theorem modelIdentity (h : s.Sound) : s.modelIdentity.Sound :=
  .foldl (h.clearMem.foldl fun h => h.foldl (·.setWord.setWord)) (·.set)

theorem setDpdPath {p f} (h : s.Sound) : (s.setDpdPath p f).Sound :=
  { h with }

theorem setDpdJob {c j} (h : s.Sound) : (s.setDpdJob c j).Sound :=
  { h with }

theorem dpdNote (h : s.Sound) : s.dpdNote.Sound := by
  unfold State.dpdNote
  split
  · exact h.set
  · exact h

theorem dpdLap (h : s.Sound) : s.dpdLap.Sound :=
  h.upon fun h => .same h.set.count.raise rfl

theorem dpdCapStop (h : s.Sound) : s.dpdCapStop.Sound :=
  h.foldl fun h => h.upon (·.capDisarm)

theorem dpdResult {p r} (h : s.Sound) : (s.dpdResult p r).Sound := by
  refine .dpdNote <| .dpdLap <| .upon (h.set.set.setDpdPath.foldl fun h => ?_) (·.count.set.raise)
  split
  · exact h.upon fun h => (h.upon (·.dpdCapStop)).setDpdJob.set
  · exact h

theorem dpdToggle {p} (h : s.Sound) : (s.dpdToggle p).Sound :=
  h.set

theorem dpdAbort {p} (h : s.Sound) : (s.dpdAbort p).Sound :=
  h.except fun h => .ite h.dpdToggle.dpdResult h.dpdResult

theorem dpdLeave {p} (h : s.Sound) : (s.dpdLeave p).Sound :=
  .ite h.dpdResult h.dpdAbort

theorem dpdStale {p} (h : s.Sound) : (s.dpdStale p).Sound :=
  h.dpdAbort.setDpdPath.set.raise.dpdNote

theorem dpdVoid {c} (h : s.Sound) : (s.dpdVoid c).Sound := by
  unfold State.dpdVoid
  split
  · exact h.upon (·.dpdCapStop.setDpdJob.raise)
  · exact h

theorem dpdWatchJob {c} (h : s.Sound) : (s.dpdWatchJob c).Sound := by
  unfold State.dpdWatchJob
  split
  · exact h.upon (·.dpdVoid)
  · exact h

theorem dpdAim {p} (h : s.Sound) : (s.dpdAim p).Sound :=
  (h.foldl (·.setBoth.setBoth.setTap)).setBoth.setDpdPath

theorem dpdWatchPath {p} (h : s.Sound) : (s.dpdWatchPath p).Sound := by
  refine h.except fun h => ?_
  dsimp only
  split
  · exact ((h.upon (·.dpdAim)).except (·.setDpdPath)).setDpdPath
  · exact ((h.upon (·.dpdAim)).except (·.setDpdPath)).setDpdPath
  · exact (h.upon (·.dpdAim)).except (·.setDpdPath)

theorem dpdWatch (h : s.Sound) : s.dpdWatch.Sound :=
  (h.foldl (·.dpdWatchJob)).foldl (·.dpdWatchPath)

/-! ### `Tx` -/

theorem txqUnderflow {n} (h : s.Sound) : (s.txqUnderflow n).Sound :=
  h.except fun h => .ite h.count.raiseLog h.setTx.count.raiseLog

theorem cellSwap {n} (h : s.Sound) : (s.cellSwap n).Sound := by
  unfold State.cellSwap
  split
  · exact h.upon (·.setTx.set.set.set.set.count.raise)
  · exact h

theorem rangeStart {n b r} (h : s.Sound) : (s.rangeStart n b r).Sound := by
  unfold State.rangeStart
  split
  · exact h.setTx
  · exact h.setTx.set.dpdStale

theorem rangeSwitch {n} (h : s.Sound) : (s.rangeSwitch n).Sound := by
  unfold State.rangeSwitch
  split
  · exact h.upon (·.setTx.set)
  · exact h

theorem rangeDone {n} (h : s.Sound) : (s.rangeDone n).Sound := by
  unfold State.rangeDone
  split
  · refine h.upon fun h => ?_
    dsimp only
    split
    · exact (h.except (·.set)).setTx.set.raise.setTx.rangeStart
    · exact (h.except (·.set)).setTx.set.raise
  · exact h

theorem txCommitted {old : State} {n} (h : s.Sound) : (s.txCommitted old n).Sound :=
  h.except fun h => .ite h.set.raise h.rangeStart

theorem muteWritten {n v} (h : s.Sound) : (s.muteWritten n v).Sound :=
  .ite h.set.set <| h.set.set.set.set.except fun h => .ite h.setTx <| .ite h.setPath h.setTx

theorem biasNote {k moving} (h : s.Sound) : (s.biasNote k moving).Sound :=
  h.set.set

theorem biasSafe {k} (h : s.Sound) : (s.biasSafe k).Sound :=
  .biasNote <| .set <| .set { h with bias := (length_upd ..).trans h.bias }

theorem biasShadow {k} (h : s.Sound) : (s.biasShadow k).Sound :=
  h.set.set.set

theorem biasEntry {k} (h : s.Sound) : (s.biasEntry k).Sound :=
  h.biasShadow.set.set.set.biasSafe

theorem biasReached {k} (h : s.Sound) : (s.biasReached k).Sound :=
  .upon (.biasNote { h with bias := (length_upd ..).trans h.bias }) (·.raise)

theorem biasRange {k} (h : s.Sound) : (s.biasRange k).Sound :=
  have h₁ := h.biasSafe
  .set { h₁ with bias := (length_upd ..).trans h₁.bias }

theorem biasAim {k} (h : s.Sound) : (s.biasAim k).Sound :=
  h.except fun h => .ite h.biasRange <| .ite h.biasReached <| .ite h.set.biasReached <| .biasNote <|
    h.except fun h => { h with bias := (length_upd ..).trans h.bias }

theorem biasCode {k v} (h : s.Sound) : (s.biasCode k v).Sound :=
  .ite h.set.raise h.set

theorem biasTarget {k range code} (h : s.Sound) : (s.biasTarget k range code).Sound := by
  refine .ite (.except ?_ (·.biasRange)) (.except ?_ (·.biasAim))
  all_goals
    split
    · exact h.set.set.biasCode
    · exact h.set.set.upon (·.biasCode)

theorem biasWritten {k l v} (h : s.Sound) : (s.biasWritten k l v).Sound :=
  have h₁ := h.set
  .ite h₁.biasTarget <| .ite h₁.biasTarget <| .ite (h₁.except fun h => .ite h.set.biasSafe h.set.biasAim) h₁.set

theorem biasSlew {k} (h : s.Sound) : (s.biasSlew k).Sound :=
  h.upon fun h => .ite (.biasReached <| .set { h with bias := (length_upd ..).trans h.bias }) <| .biasNote <|
    .set { h with bias := (length_upd ..).trans h.bias }

theorem biasRangeSwitch {k} (h : s.Sound) : (s.biasRangeSwitch k).Sound := by
  have switched {f} : ({ s with bias := upd s.bias k f } : State).Sound :=
    { h with bias := (length_upd ..).trans h.bias }
  unfold State.biasRangeSwitch
  split
  · exact h.upon fun _ => .ite switched.set.set.biasReached <| .ite switched.set.set.set.biasReached
      switched.set.set.set
  · exact h

theorem biasForce {k} (h : s.Sound) : (s.biasForce k).Sound :=
  h.set.biasSafe.raise

theorem killPath {n} (h : s.Sound) : (s.killPath n).Sound :=
  h.set.set.set.raise

theorem killStays (h : s.Sound) : s.killStays.Sound :=
  h.upon fun h => h.foldl (·.set.set.set)

theorem kill (h : s.Sound) : s.kill.Sound :=
  h.except fun h => .logEvent <| .foldl (.fgEnd <| .foldl { h with } (·.killPath)) fun h => h.upon (·.biasForce)

theorem unkill (h : s.Sound) : s.unkill.Sound :=
  h.upon fun h => .foldl { h with } (·.set)

theorem compliance {n short} (h : s.Sound) : (s.compliance n short).Sound :=
  .ite (h.upon (·.count.raise.set.set)) <| h.upon fun h => h.set.count.raise.cmplNote.upon (·.mutePath)

theorem rxRetired {n} (h : s.Sound) : (s.rxRetired n).Sound :=
  .ite h.set.raise.forcingChanged h.set.forcingChanged

theorem rxRetireWritten {l v} (h : s.Sound) : (s.rxRetireWritten l v).Sound :=
  h.set.foldl fun h => h.except fun h => .ite h.setPath h.rxRetired

theorem retireWritten {n v} (h : s.Sound) : (s.retireWritten n v).Sound :=
  h.except fun h =>
    have h₁ := h.set
    .ite (.fgEnd <| .dpdLeave <| .raise <| .set <| .ite h₁.setPath h₁.forcingChanged) <| .set <|
      .ite h₁.setPath h₁.forcingChanged

/-! ### `Timeline` -/

theorem commitAt {pg tgt immed} (h : s.Sound) : (s.commitAt pg tgt immed).Sound :=
  h.except fun h => .upon (.set { h with }) fun h => .set { h with beams := (length_upd ..).trans h.beams }

theorem commitReq {pg} (h : s.Sound) : (s.commitReq pg).Sound :=
  h.commitAt

theorem queueNote {g} (h : s.Sound) : (s.queueNote g).Sound :=
  h.set.set64

theorem dropAction {g code t reason} (h : s.Sound) : (s.dropAction g code t reason).Sound :=
  h.count.count.set.set.set.set64.raise

theorem enqueueOne {g e} (h : s.Sound) : (s.enqueueOne g e).Sound :=
  .ite h.dropAction (h.foldl (·.eccWholeWord)).setOct.queueNote

theorem entryRead {g e} (h : s.Sound) : (s.entryRead g e).2.Sound :=
  .foldl₂ h (·.eccReadWord)

theorem push {c t act arg} (h : s.Sound) : (s.push c t act arg).Sound :=
  .foldl { h with } (·.enqueueOne)

theorem enqAct {c act} (h : s.Sound) : (s.enqAct c act).Sound :=
  h.push

theorem flush {g} (h : s.Sound) : (s.flush g).Sound :=
  h.setOct.queueNote

theorem dropLate (h : s.Sound) : s.dropLate.Sound :=
  h.foldl fun h => (h.foldl (·.dropAction)).setOct.queueNote

theorem patternStep {g} (h : s.Sound) : (s.patternStep g).Sound :=
  h.foldl fun h => h.upon (·.goPath)

theorem boundaryCheck {g} (h : s.Sound) : (s.boundaryCheck g).Sound :=
  h.foldl fun h => h.upon (·.checkReady)

theorem boundaryClear {n} (h : s.Sound) : (s.boundaryClear n).Sound := by
  unfold State.boundaryClear
  dsimp only
  split
  · exact
      have h₁ := ((h.setPath.upon (·.forcingChanged)).upon (·.rxRetired)).withdrawNow
      .ite h₁.dpdLeave h₁.fgNext
  · exact (h.setPath.upon (·.forcingChanged)).upon (·.rxRetired)

theorem slotBoundary {g} (h : s.Sound) : (s.slotBoundary g).Sound :=
  h.except fun h => .ite (h.setOct.set.foldl (·.boundaryClear)).patternStep.boundaryCheck <| h.upon (·.patternStep)

theorem turnDriverDue {n} (h : s.Sound) : (s.turnDriverDue n).Sound :=
  h.upon (·.turnDriver)

theorem turnSettleDue {n} (h : s.Sound) : (s.turnSettleDue n).Sound :=
  h.upon (·.turnSettle)

theorem trswChange {g} (h : s.Sound) : (s.trswChange g).Sound :=
  h.upon (·.set)

theorem runEntry {g code eff} (h : s.Sound) (hf : ∀ {e t}, t.Sound → (eff e t).Sound) :
    (s.runEntry g code eff).Sound := by
  unfold State.runEntry
  split
  · exact h
  · exact
      have h₁ := h.entryRead.setOct.queueNote
      .ite h₁.dropAction <| .ite h₁.dropAction <| .ite h₁.dropAction <| .ite h₁.dropAction <| hf h₁

theorem actPath {n e f} (h : s.Sound) : (s.actPath n e f).Sound :=
  h.upon (·.setPath.goPath)

theorem tlWindow {g e} (h : s.Sound) : (s.tlWindow g e).Sound :=
  h.except fun h => h.foldl (·.actPath)

theorem tlSet {g e} (h : s.Sound) : (s.tlSet g e).Sound :=
  h.foldl (·.actPath)

theorem tlOneshot {g e} (h : s.Sound) : (s.tlOneshot g e).Sound :=
  h.foldl (·.actPath)

theorem tlCommit {e} (h : s.Sound) : (s.tlCommit e).Sound :=
  have h₁ := h.foldl (·.setOct.queueNote)
  .ite h₁.refuse h₁.commitReq

theorem tlRange {g e} (h : s.Sound) : (s.tlRange g e).Sound :=
  h.foldl (·.set.rangeStart)

theorem setRffe {f} (h : s.Sound) : (s.setRffe f).Sound :=
  { h with }

theorem rffeIssue {r} (h : s.Sound) : (s.rffeIssue r).2.Sound :=
  .ite₂ h h.setRffe.set

theorem rffeNext (h : s.Sound) : s.rffeNext.Sound := by
  unfold State.rffeNext
  extract_lets r
  have hr : r.2.Sound := .foldl₂ h (·.rffeIssue)
  exact hr.setRffe

theorem seqStart {g q t} (h : s.Sound) : (s.seqStart g q t).Sound :=
  h.except fun h => .ite h.dropAction <| .ite h.dropAction h.setRffe.rffeNext

theorem tlTrig {e} (h : s.Sound) : (s.tlTrig e).Sound :=
  { h with }

theorem windowEnd {n} (h : s.Sound) : (s.windowEnd n).Sound := by
  unfold State.windowEnd
  split
  · exact h.upon (·.setPath.goPath)
  · exact h

theorem oneshotEnd {n} (h : s.Sound) : (s.oneshotEnd n).Sound := by
  unfold State.oneshotEnd
  split
  · exact h.upon (·.setPath.goPath)
  · exact h

theorem trigoutEnd (h : s.Sound) : s.trigoutEnd.Sound := by
  unfold State.trigoutEnd
  split
  · exact h.upon fun h => { h with }
  · exact h

theorem rffeStart {g t tx} (h : s.Sound) : (s.rffeStart g t tx).Sound :=
  h.upon (·.setOct.seqStart)

theorem rffeDone {b data perr} (h : s.Sound) : (s.rffeDone b data perr).Sound := by
  unfold State.rffeDone
  split
  · exact h
  · refine h.except fun h => ?_
    split
    · exact h.setRffe.set
    · exact .rffeNext <| .setRffe <| h.setRffe.set.upon fun h => h.set.set.set.set.set.raise.upon (·.raise)

theorem setLane {ds f} (h : s.Sound) : (s.setLane ds f).Sound :=
  .ite { h with } { h with }

theorem setLanePwr {ds v} (h : s.Sound) : (s.setLanePwr ds v).Sound :=
  .ite h.set.set h.set.set

theorem laneSleepEnter {ds} (h : s.Sound) : (s.laneSleepEnter ds).Sound :=
  h.upon fun h => .setLane <| .setLanePwr <| h.upon fun h => (h.foldl (·.set)).set

theorem laneWake {ds} (h : s.Sound) : (s.laneWake ds).Sound :=
  h.upon (·.setLanePwr.setLane)

theorem laneWakeStart {ds} (h : s.Sound) : (s.laneWakeStart ds).Sound :=
  h.upon (·.laneWake)

theorem laneAwake {ds} (h : s.Sound) : (s.laneAwake ds).Sound :=
  h.upon (·.setLanePwr)

theorem laneWakeRequest {ds evt} (h : s.Sound) : (s.laneWakeRequest ds evt).Sound :=
  h.except fun h => h.upon (·.laneWake.setLane)

theorem wakeFail (h : s.Sound) : s.wakeFail.Sound :=
  h.upon (·.setLanePwr.setLane.count.raise)

theorem octCommitted {g} (h : s.Sound) : (s.octCommitted g).Sound :=
  h.set.upon (·.raise)

/-! ### `Lanes` -/

theorem setLock {n v} (h : s.Sound) : (s.setLock n v).Sound :=
  h.set.set

theorem laneLoss {n} (h : s.Sound) : (s.laneLoss n).Sound :=
  h.upon fun h => h.setLock.upon (·.raise.raise)

theorem lanesLoss {ns} (h : s.Sound) : (s.lanesLoss ns).Sound :=
  h.foldl (·.laneLoss)

theorem crossSlip {g} (h : s.Sound) : (s.crossSlip g).Sound :=
  h.upon (·.set.raise.lanesLoss)

theorem clkLoss {k} (h : s.Sound) : (s.clkLoss k).Sound :=
  h.upon fun h => h.set.raise.upon (·.lanesLoss)

theorem dsckPresent {k dev} (h : s.Sound) : (s.dsckPresent k dev).Sound :=
  h.upon (·.set.seti)

theorem blockLock {n} (h : s.Sound) : (s.blockLock n).Sound :=
  h.upon (·.set.setLock.raise)

theorem blockLoss {n} (h : s.Sound) : (s.blockLoss n).Sound :=
  h.upon fun h => (h.except (·.count)).laneLoss

theorem usUnderflow (h : s.Sound) : s.usUnderflow.Sound :=
  .raiseLog <| .same h.count rfl

theorem deskew {n v} (h : s.Sound) : (s.deskew n v).Sound :=
  .set { h with }

theorem deskewJump {n v b} (h : s.Sound) : (s.deskewJump n v b).Sound :=
  .same h.set.set.raise rfl

theorem bitslip {n} (h : s.Sound) : (s.bitslip n).Sound :=
  h.set

theorem trackStep {n later} (h : s.Sound) : (s.trackStep n later).Sound :=
  .ite h.deskewJump <| .ite h.deskewJump h.deskew

theorem eyePublish {n left right} (h : s.Sound) : (s.eyePublish n left right).Sound :=
  h.upon fun h => (h.set.set.set.set.upon (·.raise.raise)).upon (·.trackStep)

theorem setSync {n t} (h : s.Sound) : (s.setSync n t).Sound :=
  { h with }

theorem bitNote {n go} (h : s.Sound) : (s.bitNote n go).Sound :=
  h.set64.setSync

theorem addErrors {n k} (h : s.Sound) : (s.addErrors n k).Sound :=
  h.set64

theorem prbsSync {n} (h : s.Sound) : (s.prbsSync n).Sound :=
  h.upon (·.set.setSync.raise)

theorem prbsLoss {n errs} (h : s.Sound) : (s.prbsLoss n errs).Sound :=
  h.upon (·.addErrors.bitNote.set.raise)

theorem checkerOff {n} (h : s.Sound) : (s.checkerOff n).Sound :=
  h.bitNote.set

theorem cntClr {n} (h : s.Sound) : (s.cntClr n).Sound :=
  h.bitNote.set64.set64

theorem setInj {n k} (h : s.Sound) : (s.setInj n k).Sound :=
  { h with }

theorem inject {n k} (h : s.Sound) : (s.inject n k).Sound :=
  h.except (·.setInj)

theorem injDone {n} (h : s.Sound) : (s.injDone n).Sound :=
  h.except fun h => h.setInj.raise.upon (·.addErrors)

theorem laneTestWritten {l v} (h : s.Sound) : (s.laneTestWritten l v).Sound :=
  h.except fun h => .upon (.ite h.set.set h.set) (·.checkerOff)

/-! ### `AniBase` -/

theorem setBc {f} (h : s.Sound) : (s.setBc f).Sound :=
  { h with }

theorem aniseLapse (h : s.Sound) : s.aniseLapse.Sound :=
  .set { h with }

theorem aniseUnsync (h : s.Sound) : s.aniseUnsync.Sound := by
  unfold State.aniseUnsync
  exact h.set.set.set.setBc

theorem aniseSyncLoss (h : s.Sound) : s.aniseSyncLoss.Sound :=
  h.upon (·.aniseUnsync.setBc.raise)

theorem aniRefLoss (h : s.Sound) : s.aniRefLoss.Sound :=
  h.upon (·.aniseSyncLoss.aniseLapse.setBc)

theorem aniseGate (h : s.Sound) : s.aniseGate.Sound :=
  .ite h.set <| .ite (h.set.except (·.startSeq.set.set)) <| h.forceShut.except (·.set.raise)

/-! ### `Clocks` -/

theorem selectSource (h : s.Sound) : s.selectSource.Sound :=
  (h.set.seti.seti.except (·.setBc)).except (·.raise)

theorem endMeasures (h : s.Sound) : s.endMeasures.Sound :=
  .selectSource <| .aniseLapse { h with }

theorem setLoop {k p} (h : s.Sound) : (s.setLoop k p).Sound :=
  { h with }

theorem setLost {k b} (h : s.Sound) : (s.setLost k b).Sound :=
  { h with }

theorem countFrom {k} (h : s.Sound) : (s.countFrom k).Sound :=
  { h with }

theorem loopMute {k} (h : s.Sound) : (s.loopMute k).Sound :=
  h.set.set.set.upon (·.set)

theorem loopStart {k} (h : s.Sound) : (s.loopStart k).Sound :=
  h.loopMute.setLoop.countFrom

theorem loopStop {k} (h : s.Sound) : (s.loopStop k).Sound :=
  h.loopMute.setLoop.setLost

theorem lockLoop {k} (h : s.Sound) : (s.lockLoop k).Sound :=
  h.upon (·.freeNat.setLoop.countFrom.set.set.set.raise)

theorem loopSuppress {k} (h : s.Sound) : (s.loopSuppress k).Sound :=
  h.foldl fun h => h.upon (·.checkReady)

theorem loPhaseStart {k} (h : s.Sound) : (s.loPhaseStart k).Sound :=
  h.upon fun h => .foldl { h with } fun h => h.upon (·.rxInvalid)

theorem calVoid {k} (h : s.Sound) : (s.calVoid k).Sound :=
  .foldl (h.upon fun h => .foldl { h with } fun h => h.upon (·.calFail)) fun h => h.upon (·.calFail)

theorem loopReady {k} (h : s.Sound) : (s.loopReady k).Sound :=
  h.upon fun h => .upon (.upon (.loPhaseStart <| .upon (.same h.setLoop.set.set rfl) (·.set)) (·.loopSuppress))
      (·.setLost.queueEvt)

theorem limitLo (h : s.Sound) : s.limitLo.Sound :=
  h.count.raise

theorem noteModulators (h : s.Sound) : s.noteModulators.Sound :=
  { h with }

theorem lol {k} (h : s.Sound) : (s.lol k).Sound := by
  unfold State.lol
  split
  · exact (h.upon (·.noteModulators)).loopStart.setLost.count.raise.loopSuppress.calVoid.upon (·.lanesLoss)
  · exact h.setLoop.countFrom.set.count.raise
  · exact h

theorem bandFail {k} (h : s.Sound) : (s.bandFail k).Sound :=
  h.upon (·.setLoop.set.raise.raiseErr)

theorem bypassEdge (h : s.Sound) : s.bypassEdge.Sound :=
  { h with }

theorem octMoved {g} (h : s.Sound) : (s.octMoved g).Sound :=
  h.setOct.except fun h => h.foldl fun h => h.except (·.setPath.reportSupp)

theorem loopCommitted {old : State} {k} (h : s.Sound) : (s.loopCommitted old k).Sound :=
  .ite h.bypassEdge <| .ite (.ite (h.upon (·.loopStart)) <| .ite h.set.raise <| h.lanesLoss.except (·.loopStart)) <|
    .except (.ite h.set.set.set.limitLo <| h.upon (·.loopStart)) fun h => h.foldl fun h => h.upon (·.octMoved)

theorem refLoss (h : s.Sound) : s.refLoss.Sound :=
  h.set.set.except fun h => .upon (.selectSource <| .aniRefLoss <| .same (h.raise.foldl (·.lol)) rfl)
      (·.set.set.raise)

theorem refBack {rate} (h : s.Sound) : (s.refBack rate).Sound := by
  unfold State.refBack
  refine .ite h.refLoss ?_
  extract_lets s₁ low changed s₂ c s₃ s₄ s₅
  have h₁ : s₁.Sound := h.upon (·.refLoss)
  have h₂ : s₂.Sound := h₁.set.set.raise
  clear_value s₂
  have h₃ : s₃.Sound := { h₂ with }
  clear_value s₃
  have h₄ : s₄.Sound := h₃.foldl (·.upon (·.countFrom))
  have h₅ : s₅.Sound := h₄.upon (·.foldl (·.except (·.loopMute.setLoop)))
  clear_value s₅
  exact h₁.except fun _ => .ite { h₅ with } h₅.set

theorem spansMoved {by_} (h : s.Sound) : (s.spansMoved by_).Sound :=
  .same (.same { h with } rfl) rfl

theorem timeMoved {new} (h : s.Sound) : (s.timeMoved new).Sound := by
  unfold State.timeMoved
  extract_lets old s₁ c s₂
  have h₁ : s₁.Sound := h.foldl (·.capMoved)
  clear_value s₁
  have h₂ : s₂.Sound := { h₁ with taps := (List.length_map ..).trans h₁.taps }
  exact h₂.streamMoved.spansMoved.dropLate.endMeasures

theorem tsyncLoad (h : s.Sound) : s.tsyncLoad.Sound :=
  .upon (.raise <| .set <| .set <| .set64 <| .foldl (.bypassEdge <| .clearUp <| .foldl (.timeMoved { h with })
      (·.alignPath)) fun h => h.upon (·.loopStart)) (·.raise)

theorem tsyncCheck (h : s.Sound) : s.tsyncCheck.Sound :=
  h.set64.seti.raise.except (·.count.raise)

theorem tsyncPulse (h : s.Sound) : s.tsyncPulse.Sound :=
  h.except fun h =>
    have h₁ := h.count
    .ite h₁.tsyncLoad <| .ite h₁.tsyncCheck.raise <| h₁.upon (·.tsyncCheck)

theorem tsyncoPulse (h : s.Sound) : s.tsyncoPulse.Sound :=
  h.upon fun h => { h with }

theorem outSent (h : s.Sound) : s.outSent.Sound := by
  unfold State.outSent
  split
  · exact h.upon fun h => .raise <| .ite (.set64 { h with }) <| .set { h with }
  · exact h

theorem stepGo (h : s.Sound) : s.stepGo.Sound :=
  .ite h.raise { h with }

theorem stepDone (h : s.Sound) : s.stepDone.Sound :=
  .ite (.raise { h with }) <| h.upon fun h => .raise <| .set <| .timeMoved { h with }

theorem validSet (h : s.Sound) : s.validSet.Sound :=
  h.set

theorem nowLo {c} (h : s.Sound) : (s.nowLo c).Sound :=
  { h with }

theorem slewHold (h : s.Sound) : s.slewHold.Sound :=
  { h with }

theorem tick (h : s.Sound) : s.tick.Sound := by
  unfold State.tick
  dsimp only
  split
  · exact .upon (.slewHold <| .dpdWatch { h with }) fun h => .set <| .set { h with }
  · exact .slewHold <| .dpdWatch { h with }

/-! ### `Beam` -/

theorem windowWrite {c a v} (h : s.Sound) : (s.windowWrite c a v).2.Sound := by
  unfold State.windowWrite
  split
  split
  · exact h
  · split
    · exact h
    · split
      · exact h
      · split
        next t e => exact h.writePartial.of_eq e
        next t e => exact h.writePartial.of_eq e

theorem windowRead {c a} (h : s.Sound) : (s.windowRead c a).2.2.Sound := by
  unfold State.windowRead
  split
  · exact h
  · split
    · exact h
    · split
      next t e => exact h.readMem.of_eq e
      next t e => exact h.readMem.of_eq e

theorem finish {c addr status data} (h : s.Sound) : (s.finish c addr status data).Sound :=
  .ite h.refuse.reply h.reply

theorem weightWrite {c a v} (h : s.Sound) : (s.weightWrite c a v).Sound :=
  h.except (·.windowWrite.finish)

theorem fillGo (h : s.Sound) : s.fillGo.Sound :=
  .set { h with }

theorem healBank {blk} (h : s.Sound) : (s.healBank blk).Sound :=
  .foldl { h with } (·.set)

theorem fillDone (h : s.Sound) : s.fillDone.Sound :=
  h.upon fun h => .raise <| .set <| .healBank <|
    .except (.foldl { h with mem := Memory.clear_wf _ _ _ h.mem } (·.setEcc)) (·.count.raise)

theorem renorm {d} (h : s.Sound) : (s.renorm d).Sound :=
  (h.foldl (·.set)).except (·.raise)

theorem renormDone {d} (h : s.Sound) : (s.renormDone d).Sound :=
  h.setBeam.set.upon (·.renorm)

theorem weightDamaged {d l k} (h : s.Sound) : (s.weightDamaged d l k).Sound := by
  unfold State.weightDamaged
  dsimp only
  split
  · exact h
  · exact h.except fun h => .forcingChanged <| .queueEvt <|
      .upon (.set64 <| .set <| .set <| .set <| .set <| .count <| .set <| .eccUE <| .setEcc { h with }) (·.raise)

theorem weightScan {d} (h : s.Sound) : (s.weightScan d).Sound := by
  unfold State.weightScan
  split
  · exact h
  · exact h.except fun h => h.foldl fun h => h.foldl fun h => h.upon (·.weightDamaged)

theorem weightWhole {blk l k even odd} (h : s.Sound) : (s.weightWhole blk l k even odd).Sound := by
  unfold State.weightWhole
  extract_lets w s₁ d s₂ d' s₃ n
  have h₁ : s₁.Sound := h.eccWhole.setWords
  clear_value s₁
  have h₂ : s₂.Sound := h₁.except fun h => { h with }
  clear_value s₂
  have h₃ : s₃.Sound := { h₂ with }
  exact h₃.upon (·.healBank)

theorem limitNote {old new ev} (h : s.Sound) : (s.limitNote old new ev).Sound :=
  h.upon (·.count.raise)

theorem setAtts {ps ls} (h : s.Sound) : (s.setAtts ps ls).Sound :=
  (h.foldl (·.set)).foldl (·.set)

theorem limiterEnd (h : s.Sound) : s.limiterEnd.Sound :=
  h.upon fun h => .foldl (.foldl { h with } (·.limitNote)) (·.limitNote)

theorem gdNote {n} (h : s.Sound) : (s.gdNote n).Sound :=
  h.set.set

theorem keep {old : State} {l} (h : s.Sound) : (s.keep old l).Sound :=
  h.set

theorem swapSets {d} (h : s.Sound) : (s.swapSets d).Sound :=
  h.foldl fun h => h.upon fun h =>
    have h₁ := h.set
    .ite h₁.set h₁.raise

theorem beamCommitted {old : State} {d} (h : s.Sound) : (s.beamCommitted old d).Sound := by
  unfold State.beamCommitted
  extract_lets lim s₁ fields changed kept s₂ erl late s₃ up strm s₄ s₅ set s₆ empty s₇ s₈ s₉
  have h₁ : s₁.Sound := h.upon (·.set)
  have hk : kept.Sound := h₁.keep.keep.keep.raise
  have h₂ : s₂.Sound := .ite (h₁.foldl (·.keep)).raise <| h₁.upon fun _ => hk.upon (·.set)
  have h₃ : s₃.Sound := h₂.except fun h => .ite { h with } <| .count { h with }
  have h₄ : s₄.Sound :=
    h₃.except fun h => .ite (h.foldl (·.upon (·.decAlign))) <| .same h.clearUp rfl
  have h₉ : s₉.Sound := (h₄.swapSets.set.set.set.upon (·.raise)).setBeam.set.renorm.weightScan
  exact h₉.except (·.foldl (·.gdNote))

/-! ### `Dpd` -/

theorem frozenWritten {p v} (h : s.Sound) : (s.frozenWritten p v).Sound :=
  have h₁ := h.set
  .ite h₁.dpdLeave.dpdLap.dpdNote h₁.dpdNote

theorem modelDamaged {p w} (h : s.Sound) : (s.modelDamaged p w).Sound :=
  h.upon (·.setEcc.eccUE.frozenWritten.raise)

theorem modelScan {p} (h : s.Sound) : (s.modelScan p).Sound :=
  h.except fun h => h.foldl fun h => h.upon (·.modelDamaged)

theorem dpdSwap {p} (h : s.Sound) : (s.dpdSwap p).Sound :=
  h.dpdToggle.modelScan

theorem dpdEnApply {p} (h : s.Sound) : (s.dpdEnApply p).Sound :=
  h.except fun h =>
    have h₁ := h.set.gdNote
    .dpdNote <| .ite h₁.dpdAbort h₁.modelScan

theorem dpdAssign {c} (h : s.Sound) : (s.dpdAssign c).Sound := by
  unfold State.dpdAssign
  split
  · exact h.upon (·.setDpdJob.dpdNote)
  · exact h

theorem dpdPort {k kind p a b} (h : s.Sound) : (s.dpdPort k kind p a b).Sound :=
  h.set.set.set.capArm.upon (·.capFeeds.capTrigger.setCap)

theorem dpdCapture {c} (h : s.Sound) : (s.dpdCapture c).Sound := by
  unfold State.dpdCapture
  split
  · exact h
  · exact h.upon fun h =>
      have h₁ := h.dpdPort.dpdPort
      .ite h₁.setDpdJob h₁.dpdCapStop

theorem ipend {c i} (h : s.Sound) : (s.ipend c i).Sound :=
  { h with cores := (length_upd ..).trans h.cores }

theorem jobWrite {c p t} (h : s.Sound) : (s.jobWrite c p t).Sound :=
  h.set.set.set.set.set.set64.set.raise.ipend

theorem dpdCaptured {c} (h : s.Sound) : (s.dpdCaptured c).Sound := by
  unfold State.dpdCaptured
  split
  · exact h
  · split
    · exact h
    · exact h.except fun h => .ite h.dpdVoid h.capEnd.capEnd.setDpdJob.jobWrite

theorem jobRelease {c} (h : s.Sound) : (s.jobRelease c).Sound := by
  unfold State.jobRelease
  split
  · exact h.dpdResult
  · exact h

theorem dpdBare {p} (h : s.Sound) : (s.dpdBare p).Sound :=
  h.dpdSwap.dpdResult

theorem bareTick (h : s.Sound) : s.bareTick.Sound :=
  h.foldl fun h => h.upon (·.dpdBare)

theorem updReq {p} (h : s.Sound) : (s.updReq p).Sound := by
  refine .ite h.dpdResult ?_
  split
  · exact h.dpdResult.count.raise
  · exact .ite h.dpdBare h.set.setDpdPath

theorem guardBaseline {p} (h : s.Sound) : (s.guardBaseline p).Sound :=
  h.upon (·.set.setDpdPath.dpdSwap)

theorem guardVerdict {p} (h : s.Sound) : (s.guardVerdict p).Sound :=
  h.upon fun h =>
    have h₁ := h.freeNat.freeNat.set.set
    .ite h₁.dpdToggle.set.dpdResult.count.raise h₁.dpdResult

theorem guardTimeout {p} (h : s.Sound) : (s.guardTimeout p).Sound :=
  h.upon fun h => .raise <| .ite h.dpdResult h.dpdToggle.dpdResult

theorem modelWrite {c a v} (h : s.Sound) : (s.modelWrite c a v).2.Sound := by
  unfold State.modelWrite
  split
  · exact h
  · split
    · exact h
    · split
      next t e => exact h.writePartial.of_eq e
      next t e => exact h.writePartial.of_eq e

theorem modelRead {c a} (h : s.Sound) : (s.modelRead c a).2.2.Sound := by
  refine .ite₃ h <| .ite₃ h <| .ite₃ h ?_
  split
  next t e => exact h.readMem.of_eq e
  next t e => exact h.readMem.of_eq e

/-! ### `Cal` -/

theorem setCal {f} (h : s.Sound) : (s.setCal f).Sound :=
  { h with }

theorem refCheck {dev} (h : s.Sound) : (s.refCheck dev).Sound :=
  h.except fun h =>
    have h₁ := h.setCal.seti
    .ite h₁.set h₁.set.raiseLog

theorem target {l iq n v} (h : s.Sound) : (s.target l iq n v).Sound :=
  h.setBoth.slewFrom

theorem targets {n fs vs} (h : s.Sound) : (s.targets n fs vs).Sound := by
  induction fs generalizing s vs with
  | nil => exact h
  | cons f fs ih =>
    cases vs with
    | nil => exact h
    | cons v vs => exact ih h.target

theorem calApply {r} (h : s.Sound) : (s.calApply r).Sound :=
  .raise <| .ite h.setCal.targets <| .ite h.targets <| .ite h.setCal <| .ite h.setRx <| .ite h.targets <|
    .ite h.targets h.setTx

theorem sparesOut {k p out} (h : s.Sound) : (s.sparesOut k p out).Sound :=
  h.except fun h =>
    have h₁ := (h.upon (·.set)).upon (·.set)
    .ite h₁.raiseLog.retireCand h₁.raiseLog.retireCand

theorem calStamp {k p} (h : s.Sound) : (s.calStamp k p).Sound :=
  have h₁ := h.setCal
  .ite h₁.set <| h₁.upon (·.set)

theorem fgKindEnd {k p} (h : s.Sound) : (s.fgKindEnd k p).Sound :=
  h.fgMap.fgNext

theorem calResult {k p vals reason out} (h : s.Sound) : (s.calResult k p vals reason out).Sound :=
  h.except fun h =>
    have h₁ := h.upon (·.sparesOut)
    .ite h₁.calFail <| .ite h₁.calFail.fgKindEnd <|
      have h₁ := h₁.calStamp.fgKindEnd
      .ite h₁.set <| .ite h₁.count.raise <| .ite h₁.setCal h₁.calApply

theorem calPageFree {pg} (h : s.Sound) : (s.calPageFree pg).Sound :=
  h.setCal.foldl (·.calApply)

theorem trimApply {p} (h : s.Sound) : (s.trimApply p).Sound :=
  h.setCal.foldl fun h => .ite h.setBoth.setBoth <| .ite h.set h.set

theorem loPhaseDone {x phases} (h : s.Sound) : (s.loPhaseDone x phases).Sound := by
  unfold State.loPhaseDone
  split
  · exact h.upon fun h => .foldl { h with } fun h => h.upon (·.set)
  · exact h

theorem setCorr {x p c} (h : s.Sound) : (s.setCorr x p c).Sound :=
  h.setCal

theorem setNow {x p re im} (h : s.Sound) : (s.setNow x p re im).Sound :=
  h.set.set

theorem gainReached {x p} (h : s.Sound) : (s.gainReached x p).Sound := by
  unfold State.gainReached
  split <;> exact h.setNow

theorem corrAtOnce {x p} (h : s.Sound) : (s.corrAtOnce x p).Sound :=
  h.gainReached.seti.setCorr.upon (·.gdNote)

theorem corrStep {x p} (h : s.Sound) : (s.corrStep x p).Sound :=
  .ite (.setCorr <| .seti <| .ite₂ h <| .ite₂ h.gainReached h.setNow) <| .setCorr <| .ite₂ h <|
    .ite₂ h.gainReached h.setNow

theorem corrUpdate (h : s.Sound) : s.corrUpdate.Sound :=
  h.upon fun h => .foldl (h.foldl fun h => h.foldl fun h => h.except fun h => .ite h.corrAtOnce h.corrStep)
      (·.gdNote)

theorem calCommitted {x} (h : s.Sound) : (s.calCommitted x).Sound :=
  .foldl (h.foldl fun h => h.upon (·.corrAtOnce)) (·.gdNote)

theorem arrayApply {x p re im dly} (h : s.Sound) : (s.arrayApply x p re im dly).Sound :=
  (h.setBoth.setBoth.setBoth.except (·.corrAtOnce)).raise

theorem arrayResult {d p g dly} (h : s.Sound) : (s.arrayResult d p g dly).Sound :=
  h.except fun h => .ite h.calFail <|
    have h₁ := h.setCal
    .upon (.fgKindEnd <| .calStamp <| .setCal <| .seti <| .ite h₁.set.set.set h₁.set.set.set) fun h =>
      have h₁ := h.freeNat
      .ite h₁.count.raise <| .ite h₁.setCal h₁.arrayApply

theorem arrayOther {q g dly} (h : s.Sound) : (s.arrayOther q g dly).Sound :=
  h.upon (·.set.set)

theorem arrayPageFree {x} (h : s.Sound) : (s.arrayPageFree x).Sound :=
  h.setCal.foldl (·.arrayApply)

theorem fgGo (h : s.Sound) : s.fgGo.Sound :=
  h.except fun h => .ite h.calFail <|
    have h₁ := h.set.setCal.fgEnd
    .ite (h₁.foldl fun h => h.upon (·.rangeStart)) h₁.fgNext

theorem fgAbort (h : s.Sound) : s.fgAbort.Sound :=
  h.upon (·.fgEnd)

theorem fgDone (h : s.Sound) : s.fgDone.Sound :=
  h.upon fun h => h.set.setCal.raise.upon fun h => h.foldl fun h => h.upon (·.rangeStart)

theorem calDue {k p} (h : s.Sound) : (s.calDue k p).Sound :=
  h.except fun h =>
    have h₁ := h.setCal
    .ite h₁.set.raise <| h₁.upon (·.set.raise)

/-! ### `Erl` -/

theorem setErl {f} (h : s.Sound) : (s.setErl f).Sound :=
  { h with }

theorem markerSend {ofs resume} (h : s.Sound) : (s.markerSend ofs resume).Sound :=
  h.upon (·.setErl)

theorem markerReceive {lane block frac skew} (h : s.Sound) : (s.markerReceive lane block frac skew).Sound :=
  h.except fun h => .ite (h.except (·.count.raise)) <|
    h.except fun h => (h.setErl.upon (·.seti)).set.upon (·.setErl)

theorem linkDown {cause} (h : s.Sound) : (s.linkDown cause).Sound := by
  unfold State.linkDown
  extract_lets up s₁ s₂ s₃ s₄ s₅
  have h₂ : s₂.Sound := h.set.set.setErl
  have h₅ : s₅.Sound := h₂.set.count.raiseLog.setErl
  exact h₂.upon fun _ => .selectSource { h₅ with }

theorem windowJudge (h : s.Sound) : s.windowJudge.Sound :=
  h.upon fun h =>
    have h₁ := h.setErl
    .ite h₁.linkDown <| h₁.upon (·.set)

theorem linkUp (h : s.Sound) : s.linkUp.Sound :=
  h.upon fun h => h.set.raise.except (·.queueEvt)

theorem openEnvelope {cls ws} (h : s.Sound) : (s.openEnvelope cls ws).2.Sound := by
  rw [show State.openEnvelope = _ from by delta State.openEnvelope; rfl]
  dsimp only
  refine .ite₂ h.count <| .ite₂ h.count ?_
  split
  · exact .snd h.setErl
  · exact .snd h.count.raiseLog

theorem receive {ws broken} (h : s.Sound) : (s.receive ws broken).2.Sound := by
  unfold State.receive
  extract_lets w0 cls seq prev s₁ s₂
  have h₂ : s₂.Sound := (h.except (·.count)).setErl
  clear_value s₂
  refine .ite₂ h <| .ite₂ h <| .ite₂ (.snd h.count.raise.setErl) <| .ite₂ h.count <| .ite₂ h.count.raise <|
    .ite₂ h₂ <| .ite₂ ?_ h₂
  split
  next t e => exact h₂.openEnvelope.of_eq e
  next t e => exact h₂.openEnvelope.of_eq e

theorem receiveAs {cls sub ws broken} (h : s.Sound) : (s.receiveAs cls sub ws broken).2.Sound := by
  unfold State.receiveAs
  split
  next t e => exact .ite₂ (h.receive.of_eq e) (h.receive.of_eq e)
  · exact h.receive

theorem packet {cls sub w1 body} (h : s.Sound) : (s.packet cls sub w1 body).Sound := by
  unfold State.packet
  exact h.setErl

theorem send {cls sub w1 body} (h : s.Sound) : (s.send cls sub w1 body).Sound :=
  h.upon (·.packet)

theorem sendClear (h : s.Sound) : s.sendClear.Sound :=
  h.setErl

theorem iqd {p} (h : s.Sound) : (s.iqd p).Sound :=
  .ite h.count <| .ite h.count <| .ite h.count (h.upon (·.count)).setErl

theorem iqdPacket {ws broken} (h : s.Sound) : (s.iqdPacket ws broken).Sound := by
  unfold State.iqdPacket
  split
  next t e => exact (h.receiveAs.of_eq e).iqd
  next t e => exact h.receiveAs.of_eq e

theorem playoutMiss {k} (h : s.Sound) : (s.playoutMiss k).Sound :=
  h.upon fun h => h.count.except (·.setErl.raise)

theorem iquWindow (h : s.Sound) : s.iquWindow.Sound :=
  h.sendClear.upon fun h => .except { h with } fun h => h.foldl (·.send)

theorem ctlAck {p status} (h : s.Sound) : (s.ctlAck p status).Sound :=
  h.send

theorem ctl {sub waiting ws broken eff} (h : s.Sound) (hf : ∀ {p t}, t.Sound → (eff p t).2.Sound) :
    (s.ctl sub waiting ws broken eff).Sound := by
  unfold State.ctl
  split
  next t e =>
    have h₁ := h.sendClear.receiveAs.of_eq e
    exact .ite h₁.count (hf h₁).ctlAck
  next t e => exact h.sendClear.receiveAs.of_eq e

theorem ctlPair {d set b l k even odd} (h : s.Sound) : (s.ctlPair d set b l k even odd).2.Sound := by
  unfold State.ctlPair
  dsimp only
  split
  · exact h
  · refine .ite₂ h ?_
    split
    · exact h
    · split
      · exact h
      · exact h.weightWhole

theorem ctlWeights {p} (h : s.Sound) : (s.ctlWeights p).2.Sound :=
  .foldl₂ h fun h => .ite h.ctlPair.refuse h.ctlPair

theorem ctlEntry {t act arg} (h : s.Sound) : (s.ctlEntry t act arg).2.Sound := by
  unfold State.ctlEntry
  dsimp only
  split
  · exact h.refuse.upon (·.raise)
  · exact h.push

theorem ctlTimeline {p} (h : s.Sound) : (s.ctlTimeline p).2.Sound :=
  .foldl₂ h (·.ctlEntry)

theorem ctlSleep {p} (h : s.Sound) : (s.ctlSleep p).2.Sound :=
  .ite (h.except (·.setLane)) (h.except (·.setLane)).setLane

theorem evtSend (h : s.Sound) : s.evtSend.Sound := by
  unfold State.evtSend
  extract_lets s₁
  have h₁ : s₁.Sound := h.sendClear
  split
  next => exact h₁
  next e t hq =>
    have ht : t.length ≤ 32 := by
      have := h₁.evtQ
      rw [hq, List.length_cons] at this
      omega
    have hs : ({ s₁ with evtQ := t } : State).Sound := { h₁ with evtQ := ht }
    refine .ite ?_ h₁
    split <;> exact hs.send

theorem exportWords {k o n} (h : s.Sound) : (s.exportWords k o n).2.Sound := by
  induction n generalizing s o with
  | zero => exact h
  | succ n ih =>
    unfold State.exportWords
    split
    next t e => exact ih (h.readMem.of_eq e)
    next t e => exact (h.readMem.of_eq e).setCap

theorem captureExport {k} (h : s.Sound) : (s.captureExport k).Sound :=
  h.sendClear.except fun h => .ite (h.except (·.setCap.raise)) <|
    h.except fun h => .ite h.exportWords h.exportWords.setCap.send

theorem setTim {f} (h : s.Sound) : (s.setTim f).Sound :=
  { h with }

theorem timReject (h : s.Sound) : s.timReject.Sound :=
  h.count.raise

theorem timReq {ws broken t2} (h : s.Sound) : (s.timReq ws broken t2).Sound := by
  unfold State.timReq
  split
  next t e => exact ((h.receiveAs.of_eq e).setTim.upon (·.setTim.timReject)).setTim
  next t e => exact h.receiveAs.of_eq e

theorem timRsp {id t3} (h : s.Sound) : (s.timRsp id t3).Sound := by
  unfold State.timRsp
  dsimp only
  split
  · exact h.sendClear.upon (·.setTim.send)
  · exact h.sendClear

theorem timFin {ws broken} (h : s.Sound) : (s.timFin ws broken).Sound := by
  unfold State.timFin
  split
  next t e =>
    dsimp only
    split
    · exact (h.receiveAs.of_eq e).timReject
    · exact
        have h₁ := (h.receiveAs.of_eq e).setTim
        .ite h₁.timReject <| .ite h₁.timReject h₁.freeNat.setTim.seti.seti.count.raise.selectSource
  next t e => exact h.receiveAs.of_eq e

/-! ### `Cumin` -/

theorem setSnd {f} (h : s.Sound) : (s.setSnd f).Sound :=
  { h with }

theorem burstStart (h : s.Sound) : s.burstStart.Sound :=
  h.except fun h => .ite (h.setSnd.set.upon (·.raise)) h.count.raise

theorem burstSent (h : s.Sound) : s.burstSent.Sound := by
  unfold State.burstSent
  split
  · exact h.except (·.setSnd.set.set.set.bump.count.raise)
  · exact h

theorem agcStep {lvl} (h : s.Sound) : (s.agcStep lvl).Sound :=
  h.upon fun h => h.except fun h => h.setSnd.foldl (·.setLive.rxInvalid)

theorem burstDetect {beamB} (h : s.Sound) : (s.burstDetect beamB).Sound :=
  h.upon (·.setSnd.set.count)

theorem sndSearch (h : s.Sound) : s.sndSearch.Sound :=
  h.setSnd.set

theorem falseDetect (h : s.Sound) : s.falseDetect.Sound :=
  h.upon (·.count.sndSearch)

theorem rxqNote (h : s.Sound) : s.rxqNote.Sound :=
  h.set.foldl (·.set)

theorem sndRecord {b} (h : s.Sound) : (s.sndRecord b).Sound := by
  refine h.except fun h => .ite h.count.sndSearch ?_
  dsimp only
  split
  · exact h.count.raise.sndSearch
  · exact
      have h₁ := h.setSnd
      .sndSearch <| .ite h₁.raise h₁.setSnd.rxqNote.raise

theorem sndPop (h : s.Sound) : s.sndPop.Sound :=
  h.setSnd.rxqNote

theorem remPeerNote (h : s.Sound) : s.remPeerNote.Sound := by
  unfold State.remPeerNote
  split
  · exact h.set
  · exact h

theorem xferDone (h : s.Sound) : s.xferDone.Sound := by
  refine h.except fun h => ?_
  dsimp only
  split
  · exact h.set.remPeerNote.set.raise
  · exact h.set.set.set.seti.seti.count.setSnd.raise.upon fun h => .selectSource <| .seti <| .same h.freeNat rfl

/-! ### `TxStream` -/

theorem limiterSum {ys} (h : s.Sound) : (s.limiterSum ys).Sound :=
  { h with }

theorem downlink (h : s.Sound) : s.downlink.Sound := by
  unfold State.downlink
  extract_lets vs ys zero s₁ m s₂
  have h₁ : s₁.Sound := h.limiterSum
  clear_value s₁
  have h₂ : s₂.Sound := { h₁ with }
  exact h.except fun _ => h₂.foldl (·.count.raise)

theorem cfrLimit {n} (h : s.Sound) : (s.cfrLimit n).Sound :=
  h.except fun h => .raise { h with }

theorem cfrStep {d x} (h : s.Sound) : (s.cfrStep d x).2.2.Sound := by
  refine .ite₃ h ?_
  dsimp only
  split
  · exact .ite₂ h.count h.cfrLimit
  · exact h

theorem txFront {d} (h : s.Sound) : (s.txFront d).2.2.Sound :=
  .ite₃ h h.cfrStep

theorem txStep {d} (h : s.Sound) : (s.txStep d).2.Sound :=
  h.txFront.upon (·.count.raise)

/-! ### `Stream` -/

theorem rxTick {pages} (h : s.Sound) : (s.rxTick pages).Sound :=
  .foldl { h with } (·.count.raise)

theorem txTick {pages} (h : s.Sound) : (s.txTick pages).Sound := by
  unfold State.txTick
  extract_lets m s₁ s₂ r
  have h₁ : s₁.Sound := { h with }
  have h₂ : s₂.Sound := h₁.downlink
  have hr : r.2.Sound := .foldl₂ h₂ (·.txStep)
  clear_value r
  exact { hr with }

theorem uplink (h : s.Sound) : s.uplink.Sound :=
  h.except fun h => .foldl { h with } (·.count.raise)

theorem thrTick (h : s.Sound) : s.thrTick.Sound := by
  refine .foldl (h.foldl ?_) ?_
  all_goals
    intro t n h
    split
    · exact h.thrSample
    · exact h

theorem tapStart {t} (h : s.Sound) : (s.tapStart t).Sound :=
  h.setTap

theorem tapTake {t x} (h : s.Sound) : (s.tapTake t x).Sound :=
  h.setTap

theorem tapTick {t} (h : s.Sound) : (s.tapTick t).Sound := by
  unfold State.tapTick
  refine .ite h.setTap ?_
  extract_lets s₁
  have h₁ : s₁.Sound := h.tapStart
  split
  · exact h₁
  · refine .ite ?_ h₁.setTap.tapTake
    extract_lets x s₂
    have h₂ : s₂.Sound := h₁.setTap
    split
    · exact h₂.tapTake
    · exact h₂

theorem capTick {k} (h : s.Sound) : (s.capTick k).Sound := by
  refine h.except fun h => ?_
  split
  · exact h.capFeeds.capDrain
  · exact h

theorem burstReplay {d} (h : s.Sound) : (s.burstReplay d).2.Sound := by
  unfold State.burstReplay
  extract_lets lead r
  have hr : r.2.Sound := .foldl₂ h fun h => .txStep { h with }
  clear_value r
  exact .snd { hr with }

theorem burstSend (h : s.Sound) : s.burstSend.Sound := by
  unfold State.burstSend
  extract_lets t r
  have ht : t.Sound := h.burstStart
  clear_value t
  have hr : r.2.Sound := .foldl₂ ht fun h => .ite₂ h.burstReplay h
  clear_value r
  exact .ite ht { hr with }

theorem sndHist (h : s.Sound) : s.sndHist.Sound :=
  { h with }

theorem sndTick (h : s.Sound) : s.sndTick.Sound :=
  have h₁ := h.sndHist
  .ite h₁.setSnd <| h₁.except (·.setSnd)

theorem arrCount {key} (h : s.Sound) : (s.arrCount key).Sound :=
  { h with }

theorem arrTick (h : s.Sound) : s.arrTick.Sound :=
  h.except fun h => .upon { h with } fun h => .same (h.foldl (·.arrCount)) rfl

theorem attTick (h : s.Sound) : s.attTick.Sound := by
  unfold State.attTick
  split
  · exact h.except fun h => .setAtts { h with }
  · exact h

theorem streamTick (h : s.Sound) : s.streamTick.Sound :=
  h.except fun h => ((h.attTick.rxTick.txTick.uplink.thrTick.foldl (·.tapTick)).foldl (·.capTick)).sndTick.arrTick

/-! ### `Anise` -/

theorem aniseUnbind (h : s.Sound) : s.aniseUnbind.Sound :=
  h.upon (·.setBc.aniseLapse.raise.selectSource)

theorem aniseTune {khz newStd} (h : s.Sound) : (s.aniseTune khz newStd).Sound :=
  h.except fun h => h.set.aniseUnsync.aniseUnbind.setBc.upon (·.set.set)

theorem retune {std khz} (h : s.Sound) : (s.retune std khz).Sound :=
  .ite h.raise <| h.except (·.set.set.setBc.aniseTune)

theorem aniseOn (h : s.Sound) : s.aniseOn.Sound :=
  h.setBc.set.set.set

theorem aniseOff (h : s.Sound) : s.aniseOff.Sound :=
  h.aniseUnsync.aniseLapse.set.set.set.setBc.selectSource

theorem synthLock (h : s.Sound) : s.synthLock.Sound :=
  h.upon (·.setBc)

theorem feCalDone (h : s.Sound) : s.feCalDone.Sound :=
  h.upon (·.setBc.set.set)

theorem qualNote {q} (h : s.Sound) : (s.qualNote q).Sound :=
  h.except (·.seti.seti.set)

theorem aerForced (h : s.Sound) : s.aerForced.Sound :=
  h.upon (·.set)

theorem sdqNote (h : s.Sound) : s.sdqNote.Sound :=
  h.set.foldl (·.set)

theorem sdq {tag prio fm stamp w3 p} (h : s.Sound) : (s.sdq tag prio fm stamp w3 p).Sound :=
  h.except fun h => (h.upon (·.count.raise)).except fun h => h.setBc.sdqNote.upon (·.raise)

theorem sdqPop (h : s.Sound) : s.sdqPop.Sound :=
  h.setBc.sdqNote

theorem sdqFlush (h : s.Sound) : s.sdqFlush.Sound :=
  h.setBc.sdqNote

theorem divDecide {q} (h : s.Sound) : (s.divDecide q).Sound :=
  .ite h.setBc <| .ite (.ite h.set.setBc h.setBc) h.setBc

theorem weakNote (h : s.Sound) : s.weakNote.Sound :=
  .ite h.setBc h.setBc

theorem rdsBlock {ofs ok q} (h : s.Sound) : (s.rdsBlock ofs ok q).Sound :=
  h.except fun h =>
    have h₁ := h.qualNote.divDecide.weakNote
    .ite (.ite h₁.setBc <| h₁.count.setBc.upon (·.aniseSyncLoss)) <| h₁.setBc.upon (·.setBc.set.set.raise)

theorem piChange (h : s.Sound) : s.piChange.Sound := by
  unfold State.piChange
  exact (h.set.set.set.set.foldl (·.set)).setBc

theorem rdsHead {a b} (h : s.Sound) : (s.rdsHead a b).Sound :=
  (h.setBc.upon (·.piChange)).upon (·.set.set.set.set)

theorem rdsPs {prio stamp w3 seg d} (h : s.Sound) : (s.rdsPs prio stamp w3 seg d).Sound :=
  h.setBc.upon fun h => h.except (·.set.set.sdq)

theorem rdsAf {prio stamp w3 c} (h : s.Sound) : (s.rdsAf prio stamp w3 c).Sound := by
  unfold State.rdsAf
  dsimp only
  split
  · exact .ite (h.setBc.upon fun h => (h.set.foldl (·.set)).sdq) h.setBc
  · exact h

theorem rdsGroup {a b c d stamp} (h : s.Sound) : (s.rdsGroup a b c d stamp).Sound :=
  h.except fun h =>
    have h₁ := h.rdsHead.setBc.upon (·.raise)
    .ite (h₁.set.rdsPs.upon (·.rdsAf)) <| .ite (h₁.upon (·.set)) <| .ite h₁.sdq <| .ite h₁.sdq <| .ite h₁.sdq <|
      h₁.upon (·.sdq)

theorem aniseHop {khz} (h : s.Sound) : (s.aniseHop khz).Sound :=
  h.aniseTune.count.raise

theorem afCheck {level} (h : s.Sound) : (s.afCheck level).Sound := by
  refine h.except fun h => ?_
  dsimp only
  split
  · exact h.upon (·.setBc)
  · exact (h.upon (·.setBc)).setBc.upon (·.setBc.aniseHop)

theorem afPi {pi} (h : s.Sound) : (s.afPi pi).Sound := by
  unfold State.afPi
  split
  · exact h
  · exact .ite h.setBc <| .ite (h.upon (·.setBc)) h.setBc.aniseHop

theorem calFrame {f} (h : s.Sound) : (s.calFrame f).Sound :=
  .ite h.setBc <| h.except fun h => h.setBc.except (·.freeNat.set.set.set.set.setBc.set.raise)

theorem gatePass {f ph} (h : s.Sound) : (s.gatePass f ph).Sound :=
  .selectSource <| .setBc <| .set <| .set <| .seti <| .same h.freeNat.freeNat rfl

theorem gateMiss {ph} (h : s.Sound) : (s.gateMiss ph).Sound :=
  h.setBc.except fun h => .ite h.setBc.raise h.set.aniseLapse.setBc.raise.selectSource

theorem gateFrame {f} (h : s.Sound) : (s.gateFrame f).Sound :=
  h.set.except fun h => .ite (.ite h.gatePass h.gateMiss) h.aniseUnbind

theorem fig00 {eid cif} (h : s.Sound) : (s.fig00 eid cif).Sound :=
  (h.except (·.setBc)).set.set.set

theorem fig {stamp alarm g} (h : s.Sound) : (s.fig stamp alarm g).Sound := by
  unfold State.fig
  dsimp only
  split
  · exact h
  · exact h
  · exact h
  · exact h.setBc.sdq
  · exact h.sdq
  · exact h
  · exact h.upon (·.sdq)
  · exact h.setBc.sdq
  · exact h.setBc.sdq
  · exact h.sdq
  · exact h.upon (·.sdq)

theorem dabAerial {q} (h : s.Sound) : (s.dabAerial q).Sound :=
  h.except fun h => .ite h.set <| h.upon (·.set)

theorem dabSync (h : s.Sound) : s.dabSync.Sound :=
  h.setBc.except fun h => h.set.raise.setBc.upon (·.count.raise)

theorem dabBody {x f} (h : s.Sound) : (s.dabBody x f).Sound := by
  refine .set <| .foldl (.setBc <| .upon (.gateFrame <| .calFrame <| .set <| .set <| .set ?_) (·.raise)) (·.fig)
  split
  · exact h.count.fig00
  · exact h.count

theorem dabFrame {x} (h : s.Sound) : (s.dabFrame x).Sound := by
  refine h.except fun h => ?_
  dsimp only
  split
  · exact h.dabAerial.qualNote.dabSync.upon (·.dabBody)
  · exact h.dabAerial.qualNote.setBc

theorem dabPacket {addr data ok f} (h : s.Sound) : (s.dabPacket addr data ok f).Sound :=
  h.except fun h => .ite h.count <| h.upon (·.sdq)

theorem tryCandidate (h : s.Sound) : s.tryCandidate.Sound := by
  unfold State.tryCandidate
  split
  · exact h.setBc
  · exact h.aniseTune.setBc

theorem dabFollow (h : s.Sound) : s.dabFollow.Sound :=
  h.upon (·.setBc.tryCandidate)

theorem candidateTimeout (h : s.Sound) : s.candidateTimeout.Sound := by
  unfold State.candidateTimeout
  split
  · exact h.upon (·.tryCandidate)
  · exact h

theorem timingCalGo (h : s.Sound) : s.timingCalGo.Sound :=
  h.setBc

theorem timingCalClr (h : s.Sound) : s.timingCalClr.Sound :=
  h.set

theorem aniseTimeout (h : s.Sound) : s.aniseTimeout.Sound := by
  unfold State.aniseTimeout
  split
  · exact h.upon (·.aniseLapse.selectSource)
  · exact h

/-! ### `Bus` -/

theorem readAs {c a refusal} (h : s.Sound) : (s.readAs c a refusal).2.2.Sound := by
  unfold State.readAs
  split
  · exact h
  · split
    next t e => exact h.readMem.of_eq e
    next t e => exact h.readMem.of_eq e

theorem busRead {c a} (h : s.Sound) : (s.busRead c a).2.2.Sound :=
  .ite₃ h <| .ite₃ h.readAs <| .ite₃ h <| .ite₃ h.readAs <| .ite₃ h.readAs <| .ite₃ h.windowRead <|
    .ite₃ h.modelRead h

theorem writeAs {c a v whole refusal} (h : s.Sound) : (s.writeAs c a v whole refusal).2.Sound := by
  unfold State.writeAs
  split
  · exact h
  · refine .ite₂ h.writeWhole ?_
    split
    next t e => exact h.writePartial.of_eq e
    next t e => exact h.writePartial.of_eq e

theorem busWrite {c a v} (h : s.Sound) : (s.busWrite c a v).2.Sound :=
  .ite₂ h <| .ite₂ h.writeAs <| .ite₂ h.writeAs <| .ite₂ h.writeAs <| .ite₂ h.windowWrite <| .ite₂ h.modelWrite h

theorem busWritePair {c a v w} (h : s.Sound) : (s.busWritePair c a v w).2.Sound := by
  refine .ite₂ h.writeWhole <| .ite₂ (.ite₂ h.writeAs.writeWhole h.writeAs) <| .ite₂ ?_ <| .ite₂ ?_ <|
    .ite₂ h.busWrite.busWrite h.busWrite
  · split
    split
    · split
      · exact h
      · split
        · exact h
        · exact h.weightWhole
    · exact h
  · split
    · exact h
    · split
      · exact h
      · exact h.writeWhole

theorem busWriteAll {c a ws} (h : s.Sound) : (s.busWriteAll c a ws).2.2.Sound := by
  induction ws using List.twoStepInduction generalizing s a with
  | nil => exact h
  | singleton v => exact h.busWrite
  | cons_cons v w t ih₁ ih₂ =>
    unfold State.busWriteAll
    exact .ite₃ (.ite₃ (ih₁ h.busWritePair) h.busWritePair) (.ite₃ (ih₂ _ h.busWrite) h.busWrite)

theorem busReadAll {c a n} (h : s.Sound) : (s.busReadAll c a n).2.2.2.Sound := by
  induction n generalizing s a with
  | zero => exact h
  | succ n ih =>
    unfold State.busReadAll
    extract_lets r
    have hr : r.2.2.Sound := h.busRead
    clear_value r
    split
    · exact ih hr
    · exact hr

/-! ### `Dma` -/

theorem setDma {c f} (h : s.Sound) : (s.setDma c f).Sound :=
  { h with dmas := (length_upd ..).trans h.dmas }

theorem dmaNote (h : s.Sound) : s.dmaNote.Sound := by
  unfold State.dmaNote
  dsimp only
  split
  · exact h.set.set.set.set
  · exact h.set.set.set

theorem dmaBack {c done status residue} (h : s.Sound) : (s.dmaBack c done status residue).Sound :=
  h.upon (·.busWriteAll)

theorem dmaEnd {c status fail done} (h : s.Sound) : (s.dmaEnd c status fail done).Sound :=
  h.dmaBack.set.set.set.set.raise

theorem dmaBurst {c n} (h : s.Sound) : (s.dmaBurst c n).2.Sound :=
  .ite₂ h.busReadAll.refuse.dmaEnd <| .ite₂ h.busReadAll.busWriteAll.refuse.dmaEnd <|
    (h.busReadAll.busWriteAll.except (·.set)).setDma.upon (·.raise)

theorem dmaMove {c stop n} (h : s.Sound) : (s.dmaMove c stop n).2.Sound := by
  induction n generalizing s with
  | zero => exact h
  | succ n ih => exact .ite₂ h <| .ite₂ (ih h.dmaBurst) h.dmaBurst

theorem dmaPaced {c n} (h : s.Sound) : (s.dmaPaced c n).2.Sound := by
  induction n generalizing s with
  | zero => exact h
  | succ n ih => exact .ite₂ h <| .ite₂ (ih h.dmaBurst) h.dmaBurst

theorem dmaLoad {c} (h : s.Sound) : (s.dmaLoad c).2.Sound :=
  have h₁ := h.set
  .ite₂ h₁.setDma.dmaEnd <| .ite₂ (.dmaEnd <| .setDma <| .ite h₁.busReadAll h₁.busReadAll.refuse) <|
    .ite₂ (.dmaEnd <| .setDma <| .ite h₁.busReadAll h₁.busReadAll.refuse) <| .setDma <|
    .ite h₁.busReadAll h₁.busReadAll.refuse

theorem dmaRun {c} (h : s.Sound) : (s.dmaRun c).Sound :=
  .ite (.ite₂ h h.dmaLoad) <| .ite (.set <| .ite₂ h h.dmaLoad) <| .ite (.set <| .ite₂ h h.dmaLoad) <|
    .ite (.dmaPaced <| .ite₂ h h.dmaLoad) <| .set <| .dmaPaced <| .ite₂ h h.dmaLoad

theorem dmaPick {n} (h : s.Sound) : (s.dmaPick n).Sound := by
  induction n generalizing s with
  | zero => exact h.dmaNote
  | succ n ih =>
    unfold State.dmaPick
    refine .ite h.dmaNote ?_
    split
    · exact h.dmaNote
    · exact ih h.dmaRun

theorem dmaDoorbell {c cls desc} (h : s.Sound) : (s.dmaDoorbell c cls desc).Sound :=
  h.except (·.setDma.set.set.dmaPick)

theorem dmaDescDone {c} (h : s.Sound) : (s.dmaDescDone c).Sound :=
  h.except fun h => .ite h.dmaMove.dmaPick <|
    have h₁ := h.dmaMove.dmaBack.count.upon (·.raise)
    .ite h₁.dmaEnd.dmaPick <| .ite h₁.dmaEnd.dmaPick h₁.setDma.set.dmaPick

theorem dmaResume {c} (h : s.Sound) : (s.dmaResume c).Sound :=
  h.upon (·.set.dmaPick)

theorem dmaAbort {c} (h : s.Sound) : (s.dmaAbort c).Sound := by
  have moved {n k} : (s.freeNat.2.dmaMove c n k).2.Sound := h.freeNat.dmaMove
  exact h.except fun h => .ite (.dmaPick <| .ite moved.dmaEnd moved) h.dmaEnd.dmaPick

theorem dmaTimeout {c ofs wr} (h : s.Sound) : (s.dmaTimeout c ofs wr).Sound :=
  h.except fun h => .ite h.dmaMove.dmaPick h.dmaMove.dmaEnd.dmaPick

/-! ### `CloveCore` -/

theorem setCore {c f} (h : s.Sound) : (s.setCore c f).Sound :=
  { h with cores := (length_upd ..).trans h.cores }

theorem line {c i} (h : s.Sound) : (s.line c i).Sound :=
  h.setCore

theorem strRead {c} (h : s.Sound) : (s.strRead c).2.Sound := by
  unfold State.strRead
  split
  · exact h
  · exact h.setCore

theorem tb0Read {c} (h : s.Sound) : (s.tb0Read c).2.Sound :=
  h.setCore

theorem semRead {n} (h : s.Sound) : (s.semRead n).2.Sound :=
  { h with }

theorem ioRead {c off} (h : s.Sound) : (s.ioRead c off).2.Sound := by
  refine .ite₂ h.semRead ?_
  split
  case h_4 => exact h.tb0Read
  case h_10 => exact h.strRead
  all_goals exact h

theorem ipendClear {c v} (h : s.Sound) : (s.ipendClear c v).Sound :=
  h.setCore

theorem mboxOut {c v} (h : s.Sound) : (s.mboxOut c v).Sound :=
  h.set.raise

theorem tcmpArm {c v} (h : s.Sound) : (s.tcmpArm c v).Sound :=
  h.setCore

theorem brCmd {c write} (h : s.Sound) : (s.brCmd c write).Sound :=
  h.setCore

theorem semWrite {n v} (h : s.Sound) : (s.semWrite n v).Sound :=
  h.upon fun h => { h with }

theorem ioWrite {c off v} (h : s.Sound) : (s.ioWrite c off v).Sound := by
  refine .ite h.semWrite ?_
  split
  · exact h.ipendClear
  · exact h.setCore
  · exact h.mboxOut
  · exact h.setCore
  · exact h.setCore
  · exact h.tcmpArm
  · exact h.setCore
  · exact h.setCore
  · exact h.setCore
  · exact h.setCore
  · exact h.setCore
  · exact .ite h.brCmd <| h.upon (·.brCmd)
  · exact h

theorem dataRead {c y a} (h : s.Sound) : (s.dataRead c y a).2.Sound := by
  rw [show State.dataRead = _ from by delta State.dataRead; rfl]
  split
  · split
    next t e => exact h.readMem.of_eq e
    next t e => exact h.readMem.of_eq e
  · refine .ite₂ ?_ <| .ite₂ (.ite₂ h <| .snd h.ioRead) <| .ite₂ ?_ h
    · split
      next t e => exact h.modelRead.of_eq₂ e
      next t e => exact .snd (h.modelRead.of_eq₂ e).refuse
      next t e => exact .snd (h.modelRead.of_eq₂ e).refuse
    · split
      next t e => exact h.busRead.of_eq₂ e
      next t e => exact .snd (h.busRead.of_eq₂ e).refuse
      next t e => exact .snd (h.busRead.of_eq₂ e).refuse

theorem storeRefused {c a code} (h : s.Sound) : (s.storeRefused c a code).Sound :=
  h.setCore

theorem dataWrite {c y a v} (h : s.Sound) : (s.dataWrite c y a v).2.Sound := by
  rw [show State.dataWrite = _ from by delta State.dataWrite; rfl]
  split
  · exact h.writeWhole
  · refine .ite₂ ?_ <| .ite₂ (.ite₂ h <| .snd h.ioWrite) h
    split
    next t e => exact h.modelWrite.of_eq e
    next t e => exact .snd (h.modelWrite.of_eq e).refuse
    next t e => exact .snd (h.modelWrite.of_eq e).refuse.storeRefused

theorem coreStarts {c} (h : s.Sound) : (s.coreStarts c).Sound :=
  h.set.setCore

theorem coreFault {c cause addr} (h : s.Sound) : (s.coreFault c cause addr).Sound := by
  unfold State.coreFault
  dsimp only
  split
  · exact (h.set.upon (·.set)).set.count.raise.setCore.dpdResult
  · exact (h.set.upon (·.set)).set.count.raise.setCore

theorem coreFetch {c} (h : s.Sound) : (s.coreFetch c).2.Sound := by
  have hr {s : State} {k a} (h : s.Sound) : (s.readMem k a).2.Sound := h.readMem
  rw [show State.coreFetch = _ from by delta State.coreFetch; rfl]
  -- the read stands for itself: the kernel must not evaluate it at this address
  obtain ⟨read, e⟩ : ∃ f, f = State.readMem := ⟨_, rfl⟩
  rw [← e] at hr ⊢
  dsimp only
  split
  next e => exact (hr h).of_eq e
  next e =>
    split
    all_goals next e' => exact (hr ((hr h).of_eq e)).of_eq e'

theorem instrDone {c} (h : s.Sound) : (s.instrDone c).Sound :=
  h.set64

theorem coreNext {c} (h : s.Sound) : (s.coreNext c).Sound :=
  h.instrDone.setCore

theorem move {c y x} (h : s.Sound) : (s.move c y x).2.2.Sound := by
  unfold State.move
  split
  · exact h
  · refine .ite₃ (.ite h.setCore.dataWrite h.setCore.dataWrite.coreFault) ?_
    dsimp only
    split
    · exact h.dataRead
    · exact h.dataRead.coreFault

theorem moves {c mv} (h : s.Sound) : (s.moves c mv).2.Sound :=
  .ite₂ (.ite₃ h.move h.move) <| .ite₂ (.ite₃ (.move <| .ite₃ h.move h.move) <| .move <| .ite₃ h.move h.move) <|
    .ite₃ (.move <| .ite₃ h.move h.move) <| .move <| .ite₃ h.move h.move

theorem corePar {c m0 m1 mv} (h : s.Sound) : (s.corePar c m0 m1 mv).Sound := by
  unfold State.corePar
  dsimp only
  split
  next t e => exact h.moves.of_eq e
  next t e => exact (h.moves.of_eq e).freeNat.setCore.coreNext

theorem coreAlu {c op a b r mv} (h : s.Sound) : (s.coreAlu c op a b r mv).Sound := by
  unfold State.coreAlu
  dsimp only
  split
  next t e => exact h.setCore.moves.of_eq e
  next t e => exact (h.setCore.moves.of_eq e).freeNat.setCore.coreNext

theorem coreLi {c r imm} (h : s.Sound) : (s.coreLi c r imm).Sound :=
  h.setCore.coreNext

theorem coreMove {c dst src} (h : s.Sound) : (s.coreMove c dst src).Sound :=
  h.setCore.coreNext

theorem coreAddi {c dst imm} (h : s.Sound) : (s.coreAddi c dst imm).Sound :=
  h.setCore.coreNext

theorem storeList {c ws} (h : s.Sound) : (s.storeList c ws).2.Sound := by
  induction ws generalizing s with
  | nil => exact h
  | cons w t ih => exact .ite₂ (ih h.dataWrite) h.dataWrite

theorem coreAsave {c a n} (h : s.Sound) : (s.coreAsave c a n).Sound := by
  unfold State.coreAsave
  dsimp only
  split
  next t e => exact (h.storeList.of_eq e).coreFault
  next t e => exact (h.storeList.of_eq e).setCore.coreNext

theorem loadList {c as} (h : s.Sound) : (s.loadList c as).2.Sound := by
  induction as generalizing s with
  | nil => exact h
  | cons a t ih =>
    unfold State.loadList
    split
    next t e => exact h.dataRead.of_eq e
    next t e =>
      have h₁ := ih (h.dataRead.of_eq e)
      split
      next t' e' => exact h₁.of_eq e'
      next t' e' => exact h₁.of_eq e'

theorem coreAload {c n a} (h : s.Sound) : (s.coreAload c n a).Sound := by
  unfold State.coreAload
  dsimp only
  split
  next t e => exact (h.loadList.of_eq e).coreFault
  next t e => exact (h.loadList.of_eq e).setCore.coreNext

theorem branchTo {c target} (h : s.Sound) : (s.branchTo c target).Sound :=
  h.coreNext.setCore

theorem coreJmp {c cond target} (h : s.Sound) : (s.coreJmp c cond target).Sound :=
  .ite h.branchTo h.coreNext

theorem coreJsr {c cond target} (h : s.Sound) : (s.coreJsr c cond target).Sound :=
  .ite h.coreNext <| .ite h.coreFault h.setCore.branchTo

theorem coreRts {c cond} (h : s.Sound) : (s.coreRts c cond).Sound :=
  .ite h.coreNext <| .ite h.coreFault h.setCore.branchTo

theorem coreReti {c} (h : s.Sound) : (s.coreReti c).Sound :=
  h.branchTo.setCore

theorem coreDo {c fromReg reg count target} (h : s.Sound) : (s.coreDo c fromReg reg count target).Sound :=
  have h₁ := h.setCore
  .ite h₁.coreNext.setCore h₁.coreNext

theorem kernelStart {c} (h : s.Sound) : (s.kernelStart c).Sound :=
  h.setCore

theorem coreSwap {c} (h : s.Sound) : (s.coreSwap c).Sound :=
  (h.set.setCore.kernelStart.set.set.set.set.upon (·.coreStarts)).count.raise

theorem coreYield {c} (h : s.Sound) : (s.coreYield c).Sound :=
  .ite h.instrDone.coreSwap h.coreNext

theorem coreWait {c} (h : s.Sound) : (s.coreWait c).Sound :=
  .ite h.instrDone.coreSwap <| .ite h.coreNext h.coreNext.set

theorem coreHalt {c} (h : s.Sound) : (s.coreHalt c).Sound :=
  h.coreNext.set.raise

theorem coreDo1 {c op} (h : s.Sound) : (s.coreDo1 c op).Sound := by
  unfold State.coreDo1
  dsimp only
  split
  · exact h.set.corePar
  · exact h.set.coreAlu
  · exact h.set.coreLi
  · exact h.set.coreMove
  · exact h.set.coreAddi
  · exact h.set.coreAsave
  · exact h.set.coreAload
  · exact h.set.coreJmp
  · exact h.set.coreJsr
  · exact h.set.coreRts
  · exact h.set.coreReti
  · exact h.set.coreDo
  · exact h.set.coreYield
  · exact h.set.coreWait
  · exact h.set.coreHalt
  · exact h.set.setCore.coreNext
  · exact h.set.setCore.coreNext
  · exact h.set.coreNext

theorem coreRun {c op} (h : s.Sound) : (s.coreRun c op).Sound := by
  rw [show State.coreRun = _ from by delta State.coreRun; rfl]
  refine h.except fun h => ?_
  split
  next t e => exact .ite (h.coreFetch.of_eq e).coreDo1 h
  next => exact h

theorem coreAny {c} (h : s.Sound) : (s.coreAny c).Sound := by
  rw [show State.coreAny = _ from by delta State.coreAny; rfl]
  split
  next t e => exact (h.coreFetch.of_eq e).coreFault
  next t e =>
    have h₁ := h.coreFetch.of_eq e
    split
    · exact h₁.coreDo1
    · exact h₁.coreFault

/-! ### `Clove` -/

theorem interruptEntry {c} (h : s.Sound) : (s.interruptEntry c).Sound :=
  h.upon (·.set.setCore)

theorem ioAccess {c off write} (h : s.Sound) : (s.ioAccess c off write).Sound := by
  refine h.except fun h => ?_
  split
  · exact h.ioWrite.reply
  · exact h.ioRead.reply

theorem coreTimer {c} (h : s.Sound) : (s.coreTimer c).Sound :=
  h.upon (·.setCore.line)

theorem loadStart {c} (h : s.Sound) : (s.loadStart c).Sound :=
  h.upon (·.set.setCore)

theorem runWritten {c v} (h : s.Sound) : (s.runWritten c v).Sound :=
  have h₁ := h.set
  .ite h₁.set <| h₁.upon (·.kernelStart.coreStarts)

theorem swapGo {c} (h : s.Sound) : (s.swapGo c).Sound :=
  h.except fun h => h.set.setCore.upon (·.raise)

theorem swapBoundary {c} (h : s.Sound) : (s.swapBoundary c).Sound :=
  h.upon (·.coreSwap)

theorem swapTimeout {c} (h : s.Sound) : (s.swapTimeout c).Sound :=
  h.upon (·.set.raise)

theorem coreOff {c} (h : s.Sound) : (s.coreOff c).Sound :=
  h.set.set.set.setCore

theorem cloveClear (h : s.Sound) : s.cloveClear.Sound := by
  unfold State.cloveClear
  exact (h.foldl (·.clearMem.clearMem.clearMem.coreOff.set)).clearMem

theorem rateTick (h : s.Sound) : s.rateTick.Sound :=
  h.upon fun h => h.foldl (·.freeNat.set.setCore)

/-! ### `Keys` -/

theorem setWin {f l} (h : s.Sound) : (s.setWin f l).Sound :=
  h.foldl (·.set)

theorem otpShadows (h : s.Sound) : s.otpShadows.Sound :=
  (((h.set64.set.set.set.set.set.foldl (·.setWin)).set.upon (·.setWin)).setWin.setWin.foldl (·.biasShadow)).set.set

theorem otpForget (h : s.Sound) : s.otpForget.Sound :=
  h.forget

theorem keyRamClear (h : s.Sound) : s.keyRamClear.Sound :=
  .eccAll { h with }

theorem rng (h : s.Sound) : s.rng.2.Sound :=
  h.freeNat

theorem rngs {n} (h : s.Sound) : (s.rngs n).2.Sound := by
  induction n generalizing s with
  | zero => exact h
  | succ n ih => exact ih h.rng

theorem scalar (h : s.Sound) : s.scalar.2.Sound :=
  h.freeNat

/-! ### `Mgmt` -/

theorem setMgmt {f} (h : s.Sound) : (s.setMgmt f).Sound :=
  { h with }

theorem accessFault {a} (h : s.Sound) : (s.accessFault a).Sound :=
  h.setMgmt

theorem lineRead {l} (h : s.Sound) : (s.lineRead l).Sound :=
  h.foldl fun h => h.except fun h => .ite h.eccUE h.eccCE

theorem poisonUnder {a} (h : s.Sound) : (s.poisonUnder a).Sound := by
  refine h.foldl fun h => ?_
  split
  · exact h.except (·.setEcc)
  · exact h

theorem lineOut {l} (h : s.Sound) : (s.lineOut l).Sound :=
  h.lineRead.writeWhole.foldl (·.poisonUnder)

theorem cacheDrop {a} (h : s.Sound) : (s.cacheDrop a).Sound :=
  h.setMgmt

theorem putLine {l} (h : s.Sound) : (s.putLine l).Sound :=
  h.cacheDrop.setMgmt

theorem lineClean {l a} (h : s.Sound) : (s.lineClean l a).2.Sound :=
  .ite₂ h <| .ite₂ h.lineOut.putLine h.lineOut.cacheDrop.accessFault

theorem cacheUpset {a w e} (h : s.Sound) : (s.cacheUpset a w e).Sound := by
  unfold State.cacheUpset
  split
  · exact h.except (·.setEcc)
  · exact h

theorem cacheClean {a} (h : s.Sound) : (s.cacheClean a).Sound := by
  unfold State.cacheClean
  split
  · exact h.lineClean
  · exact h

theorem freeWay {a} (h : s.Sound) : (s.freeWay a).2.Sound := by
  unfold State.freeWay
  extract_lets here k s₁
  have h₁ : s₁.Sound := h.setMgmt
  split
  · exact h
  · split
    · exact h₁
    · split
      next t e => exact (h₁.lineClean.of_eq e).cacheDrop
      next t e => exact h₁.lineClean.of_eq e

theorem fillWords {as} (h : s.Sound) : (s.fillWords as).2.Sound := by
  induction as generalizing s with
  | nil => exact h
  | cons a t ih => exact ih (.ite₂ h h.readMem)

theorem lineFill {a} (h : s.Sound) : (s.lineFill a).2.Sound := by
  unfold State.lineFill
  dsimp only
  split
  · exact h.fillWords.accessFault
  · split
    next t e => exact h.fillWords.freeWay.of_eq e
    next t e => exact ((h.fillWords.freeWay.of_eq e).foldl (·.setEcc)).putLine

theorem lineFor {a} (h : s.Sound) : (s.lineFor a).2.Sound := by
  unfold State.lineFor
  split
  · exact h.lineFill
  · exact .ite₂ h <| .ite₂ h.lineClean h.lineRead.cacheDrop.lineFill

theorem store {a size v} (h : s.Sound) : (s.store a size v).Sound := by
  refine .ite h.accessFault <| .ite (.ite h.accessFault ?_) <|
    .ite (.ite h.accessFault <| .ite h.busWrite h.busWrite.refuse.accessFault) h.accessFault
  split
  next t e => exact h.lineFor.of_eq e
  next t e =>
    have h₁ := h.lineFor.of_eq e
    dsimp only
    split
    next t' e' => exact (h₁.eccMerge.of_eq e').accessFault
    next t' e' => exact (h₁.eccMerge.of_eq e').putLine

theorem mtimecmpWritten {l v} (h : s.Sound) : (s.mtimecmpWritten l v).Sound :=
  h.set.except (·.setMgmt)

theorem wdEnable {v} (h : s.Sound) : (s.wdEnable v).Sound :=
  h.upon (·.set.setMgmt)

theorem wdKick {v} (h : s.Sound) : (s.wdKick v).Sound :=
  .ite (h.upon (·.setMgmt)) h.count

/-! ### `LogB` -/

theorem setLog {f} (h : s.Sound) : (s.setLog f).Sound :=
  { h with }

theorem fwRecord {c type sev} (h : s.Sound) : (s.fwRecord c type sev).Sound :=
  h.logAs

theorem logFlush (h : s.Sound) : s.logFlush.Sound :=
  h.except fun h => .ite (h.except (·.setLog.raise)) (h.logHw.except (·.setLog.logHw)).count.setLog.set

theorem flushThr {v} (h : s.Sound) : (s.flushThr v).Sound :=
  h.set

theorem rdShow {r} (h : s.Sound) : (s.rdShow r).Sound := by
  unfold State.rdShow
  exact h.setWin.set.set.setLog

theorem rdSeq {q} (h : s.Sound) : (s.rdSeq q).Sound := by
  unfold State.rdSeq
  dsimp only
  split
  · exact h.set.rdShow
  · split
    · exact h.set.set.set.setLog
    · exact h.set.rdShow

theorem rdDone (h : s.Sound) : s.rdDone.Sound := by
  unfold State.rdDone
  split
  · exact h.rdShow
  · exact h

theorem mgtLogRead {ws broken} (h : s.Sound) : (s.mgtLogRead ws broken).Sound := by
  unfold State.mgtLogRead
  split
  next t e => exact (h.sendClear.receiveAs.of_eq e).send
  next t e => exact h.sendClear.receiveAs.of_eq e

/-! ### `Update` -/

theorem dirWrite {pref trial} (h : s.Sound) : (s.dirWrite pref trial).Sound :=
  .setWords { h with mem := Memory.fill_wf _ _ _ _ h.mem }

theorem updIdle (h : s.Sound) : s.updIdle.Sound :=
  h.set

theorem updAbort (h : s.Sound) : s.updAbort.Sound :=
  h.except (·.setWord.updIdle)

theorem updDrop (h : s.Sound) : s.updDrop.Sound :=
  .updIdle { h with }

theorem program {slot ofs len data} (h : s.Sound) : (s.program slot ofs len data).Sound :=
  .setWords { h with mem := Memory.fill_wf _ _ _ _ h.mem }

theorem updEffect {j} (h : s.Sound) : (s.updEffect j).Sound := by
  unfold State.updEffect
  split
  · exact h.set.set.set.set
  · exact h.program.set
  · exact h.set
  · exact h.dirWrite.updIdle
  · exact h.dirWrite
  · exact h.updAbort
  · exact .set { h with }
  · exact h

theorem updPublish {j r} (h : s.Sound) : (s.updPublish j r).Sound := by
  unfold State.updPublish
  dsimp only
  split
  · exact (h.set.except (·.logHw)).raise.send
  · exact (h.set.except (·.logHw)).raise

theorem updComplete {bad} (h : s.Sound) : (s.updComplete bad).2.Sound := by
  unfold State.updComplete
  split
  · exact h
  · exact .updPublish <| .sendClear <| .set <| .same (h.upon (·.updEffect)) rfl

theorem updIssue {j} (h : s.Sound) : (s.updIssue j).Sound :=
  .ite h.updPublish <| .set { h with }

theorem updGo {c op arg} (h : s.Sound) : (s.updGo c op arg).Sound :=
  h.set.set.except fun h => .ite h.set h.updIssue

theorem mgtUpdate {ws broken} (h : s.Sound) : (s.mgtUpdate ws broken).Sound := by
  unfold State.mgtUpdate
  split
  next t e =>
    exact .ite (h.sendClear.receiveAs.of_eq e).count <| (h.sendClear.receiveAs.of_eq e).except (·.updIssue)
  next t e => exact h.sendClear.receiveAs.of_eq e

/-! ### `Security` -/

theorem setSec {f} (h : s.Sound) : (s.setSec f).Sound :=
  { h with }

theorem setOtp {f} (h : s.Sound) : (s.setOtp f).Sound :=
  { h with }

theorem otpEffect {op arg} (h : s.Sound) : (s.otpEffect op arg).Sound := by
  unfold State.otpEffect
  split
  · exact h.setOtp.setWin.except (·.set)
  · exact h.setOtp.set
  · exact h.setOtp.set
  · exact h.scalar.setOtp.set.setWin
  · exact h.setOtp.set

theorem otpGo {op arg} (h : s.Sound) : (s.otpGo op arg).Sound :=
  h.set.set.except fun h => .ite h.set.raise h.setSec.set

theorem otpDone {bad} (h : s.Sound) : (s.otpDone bad).Sound := by
  unfold State.otpDone
  split
  · exact h
  · exact
      have h₁ := (h.upon (·.otpEffect)).setSec.set.set
      .ite h₁.raiseLog h₁.raise

theorem lrFail {r} (h : s.Sound) : (s.lrFail r).Sound :=
  h.set.count.raise

theorem lrGo (h : s.Sound) : s.lrGo.Sound :=
  .ite h.lrFail h.setSec.set

theorem lrRead {a n} (h : s.Sound) : (s.lrRead a n).2.Sound := by
  induction n generalizing s a with
  | zero => exact h
  | succ n ih =>
    unfold State.lrRead
    extract_lets r
    have hr : r.2.2.Sound := .ite₃ h <| .ite₃ h h.busRead
    exact .ite₂ (ih hr) hr

theorem lrInForce {w} (h : s.Sound) : (s.lrInForce w).Sound :=
  h.setWin.set.set.set.set.raise.aniseGate

theorem lrDone (h : s.Sound) : s.lrDone.Sound := by
  unfold State.lrDone
  split
  · exact h
  · exact h.except fun h =>
      have h₁ := h.lrRead.setSec.set
      .ite h₁.lrInForce h₁.lrFail

theorem keGo {op} (h : s.Sound) : (s.keGo op).Sound :=
  have h₁ := h.set
  .ite h₁.set <| h₁.except (·.setSec.set)

theorem keSign {digest} (h : s.Sound) : (s.keSign digest).Sound := by
  refine .setWin ?_
  split
  · exact h.scalar
  · exact h.scalar.scalar

theorem keyArm (h : s.Sound) : s.keyArm.Sound :=
  h.upon (·.setSec)

theorem genEph (h : s.Sound) : s.genEph.Sound :=
  h.scalar.setSec.setWin

theorem derive (h : s.Sound) : s.derive.Sound :=
  h.keSign.setSec.upon (·.keyArm)

theorem attest (h : s.Sound) : s.attest.Sound :=
  h.setWin.keSign

theorem keRun {op} (h : s.Sound) : (s.keRun op).2.Sound := by
  refine .ite₂ h <| .ite₂ h.genEph ?_
  split
  · exact h.eccUE.keyRamClear
  · exact .ite₂ h.attest <| h.upon (·.derive)

theorem keDone (h : s.Sound) : s.keDone.Sound := by
  unfold State.keDone
  split
  · exact h
  · exact h.setSec.keRun.set.set.raise

theorem keySwitch (h : s.Sound) : s.keySwitch.Sound := by
  unfold State.keySwitch
  split
  · exact h.except (·.setSec.setErl.set64)
  · exact h

theorem secure {v} (h : s.Sound) : (s.secure v).Sound :=
  h.upon (·.set.keyArm)

theorem rngWord {c} (h : s.Sound) : (s.rngWord c).2.Sound :=
  .ite₂ h.rng h

theorem rngRead {c} (h : s.Sound) : (s.rngRead c).Sound :=
  h.except fun h => .ite h.refuse.reply h.rngWord.reply

theorem rngFail (h : s.Sound) : s.rngFail.Sound :=
  h.set.raise

theorem dbgChal (h : s.Sound) : s.dbgChal.Sound :=
  h.except (·.rngs.setWin.setSec)

theorem unlockFail {r} (h : s.Sound) : (s.unlockFail r).Sound :=
  h.set.count.raiseLog

theorem dbgUnlock (h : s.Sound) : s.dbgUnlock.Sound :=
  .ite h.setSec h.unlockFail

theorem clearing (h : s.Sound) : s.clearing.Sound :=
  h.keyRamClear.eccAll.otpForget.poisonMem.poisonMem.poisonMem.poisonMem.foldl (·.poisonMem.poisonMem.poisonMem)

theorem clearDone (h : s.Sound) : s.clearDone.Sound :=
  h.except fun h =>
    have h₁ := h.setSec.clearing.raise
    .ite h₁.unlockFail <|
      have h₁ := h₁.setSec
      .ite h₁.unlockFail (h₁.set.set.upon (·.set)).logEvent

/-! ### `Ecc` -/

theorem setBist {f} (h : s.Sound) : (s.setBist f).Sound :=
  { h with }

theorem lapEnd {m} (h : s.Sound) : (s.lapEnd m).Sound :=
  h.set.upon (·.raise)

theorem scrubVisit {m upset} (h : s.Sound) : (s.scrubVisit m upset).Sound :=
  h.except fun h => .upon (.setBist <| (h.upon (·.setBist)).except fun h => .ite h.count <| .ite h.setEcc.eccUE
      h.setEcc.eccCE) (·.lapEnd)

theorem applyFuses (h : s.Sound) : s.applyFuses.Sound :=
  (h.forget.foldl (·.set)).set

theorem fuseGo {op arg} (h : s.Sound) : (s.fuseGo op arg).Sound :=
  h.set.set.except (·.setBist.set)

theorem setFuse {k e} (h : s.Sound) : (s.setFuse k e).Sound :=
  h.setOtp.set.set.set

theorem fuseDone {bad} (h : s.Sound) : (s.fuseDone bad).Sound := by
  unfold State.fuseDone
  split
  · exact h
  · exact
      have h₁ := h.setBist.set.set
      .ite h₁.raiseLog <| .ite h₁.raise <| .upon (.raise <| .ite h₁.setFuse h₁.setFuse) (·.raise)

theorem bistPoison {m} (h : s.Sound) : (s.bistPoison m).Sound := by
  refine .ite h.keyRamClear.eccAll <| h.upon fun h => ?_
  split
  · exact h.poisonMem
  · exact h

theorem bistRestore {m} (h : s.Sound) : (s.bistRestore m).Sound := by
  unfold State.bistRestore
  extract_lets s₁
  have h₁ : s₁.Sound := by
    unfold s₁
    split
    · exact h.clearMem
    · exact h.eccAll
  exact .ite h₁.setLog <| .ite { h₁ with } <| .ite h₁.modelIdentity <| .ite h₁.setErl <|
    .ite (h₁.foldl (·.setOct.queueNote)) <| .ite h₁.setMgmt <| .ite h₁.setMgmt <| h₁.upon (·.keyRamClear)

theorem tapsTest {b} (h : s.Sound) : (s.tapsTest b).Sound :=
  h.foldl fun h =>
    have h₁ := h.setTap
    .ite h₁.tapHold h₁.tapRelease

theorem bistGo {t} (h : s.Sound) : (s.bistGo t).Sound :=
  have h₁ := h.set
  .ite h₁.set <| .ite h₁.set <| .ite h₁.set <|
    h₁.except fun h => ((h.foldl (·.bistPoison)).setBist.upon (·.tapsTest)).set.count

theorem bistAbort (h : s.Sound) : s.bistAbort.Sound :=
  h.upon (·.setBist)

theorem bistShow (h : s.Sound) : s.bistShow.Sound :=
  h.set.set.set

theorem bistPush {l} (h : s.Sound) : (s.bistPush l).Sound :=
  (h.setBist.count.upon (·.set)).bistShow

theorem orPair {lo hi m} (h : s.Sound) : (s.orPair lo hi m).Sound :=
  h.set.set

theorem loopFails {m} (h : s.Sound) : (s.loopFails m).Sound :=
  h.foldl fun h => h.upon (·.retireCand.retireCand)

theorem bistJudge {t f} (h : s.Sound) : (s.bistJudge t f).2.Sound :=
  .ite₂ h.seti <| .ite₂ h.seti <| .ite₂ (h.orPair.orPair.upon (·.loopFails)).set h.bistPush

theorem bistDone {f} (h : s.Sound) : (s.bistDone f).Sound := by
  unfold State.bistDone
  split
  · exact h
  · exact .upon (.raise <| .set <| .set <| .upon (.foldl (.setBist <| .ite₂ h h.bistJudge) (·.bistRestore))
        (·.tapsTest)) (·.raise)

theorem bistPop (h : s.Sound) : s.bistPop.Sound :=
  h.setBist.bistShow

/-! ### `KernelLoad` -/

theorem healSpan {m i n} (h : s.Sound) : (s.healSpan m i n).Sound :=
  .except (.except { h with } fun h => h.foldl (·.setEcc)) (·.count.raise)

theorem loadSpan {m lo i n ws} (h : s.Sound) : (s.loadSpan m lo i n ws).Sound :=
  have h₁ := h.healSpan
  .setWords { h₁ with mem := Memory.clear_wf _ _ _ h₁.mem }

theorem kernelRead {a n} (h : s.Sound) : (s.kernelRead a n).2.Sound :=
  .ite₂ h <| .ite₂ h.busReadAll h

theorem loadFail {c r} (h : s.Sound) : (s.loadFail c r).Sound :=
  h.set.count.raise

theorem kernelInstall {c h' body} (h : s.Sound) : (s.kernelInstall c h' body).Sound :=
  have h₁ := h.set
  .raise <| .ite h₁.loadSpan.set.setCore h₁.loadSpan.loadSpan.loadSpan.set.set.set.set.set.setCore

theorem loadDone {c} (h : s.Sound) : (s.loadDone c).Sound := by
  rw [show State.loadDone = _ from by delta State.loadDone; rfl]
  dsimp only
  refine h.except fun h => ?_
  have h₁ {l v} := h.set (l := l) (v := v)
  split
  next t e => exact (h₁.kernelRead.of_eq e).loadFail
  next t e =>
    have h₂ := h₁.kernelRead.of_eq e
    refine .ite h₂.loadFail ?_
    split
    next t' e' => exact (h₂.kernelRead.of_eq e').loadFail
    next t' e' =>
      have h₃ := h₂.kernelRead.of_eq e'
      exact .ite h₃.kernelInstall h₃.loadFail

/-! ### `Blocks` -/

theorem enableBegin {pg} (h : s.Sound) : (s.enableBegin pg).Sound :=
  .ite h.aniseGate <| h.except fun h => .ite h.limitLo <| h.startSeq.upon (·.loopStart)

theorem shutEnds {pg} (h : s.Sound) : (s.shutEnds pg).Sound :=
  .ite ((h.upon (·.noteModulators)).loopStop.loopSuppress.calVoid.upon (·.lanesLoss)) <| .ite h.set <|
    .ite h.ovlDrop <| .ite (h.upon (·.lanesLoss)) <| .ite h.laneLoss.checkerOff <| .ite h.capDisarm <|
    .ite h.dmaAbort <| .ite h.coreOff <| .ite (h.foldl (·.dpdLeave)) <| .ite (.set { h with }) <| .ite { h with } <|
    .ite h.updAbort <| h.upon fun h => h.foldl (·.biasSafe)

theorem shutBegin {pg} (h : s.Sound) : (s.shutBegin pg).Sound :=
  .shutEnds <| h.startSeq.except fun h => { h with }

theorem enableWritten {pg v} (h : s.Sound) : (s.enableWritten pg v).Sound :=
  have h₁ := h.set
  .ite h₁.aniseGate <|
    have h₁ := h₁.upon (·.set)
    .ite (h₁.upon (·.enableBegin)) <| h₁.upon (·.shutBegin)

theorem pathJoins {pg was} (h : s.Sound) : (s.pathJoins pg was).Sound :=
  (h.upon (·.setPath)).except (·.goPath)

theorem enableEnd {pg} (h : s.Sound) : (s.enableEnd pg).Sound :=
  .ite (.pathJoins <| .raise <| .set <| .set { h with }) <| .ite (.aniseOn <| .raise <| .set <| .set { h with }) <|
    .upon (.raise <| .set <| .set { h with }) fun h => h.foldl (·.biasAim)

theorem srstHidden {pg} (h : s.Sound) : (s.srstHidden pg).Sound :=
  .ite h.setRx <| .ite h.setTx <| .ite h.setTap <| .ite { h with } <| .ite h.setCap <| .ite h.setInj <|
    .ite h.setCal <| h.upon fun h => { h with }

theorem srstAfter {pg} (h : s.Sound) : (s.srstAfter pg).Sound :=
  .ite (h.upon (·.set)).gdNote <| .ite h.gdNote <| .ite (h.upon (·.set)) <| h.upon fun h => h.foldl (·.biasEntry)

theorem srstRegs {pg} (h : s.Sound) : (s.srstRegs pg).Sound :=
  (h.upon (·.retireWritten)).srstHidden.forgetKeys.set.set.srstAfter

theorem shutEnd {pg} (h : s.Sound) : (s.shutEnd pg).Sound := by
  unfold State.shutEnd
  extract_lets s₁ s₂ s₃ s₄
  have h₂ : s₂.Sound := .raise <| .set <| .set { h with }
  have h₃ : s₃.Sound := .ite h₂.dropIfOff <| .ite h₂.aniseOff <| h₂.upon (·.foldl (·.biasSafe))
  have h₄ : s₄.Sound := h₃.except fun h => .srstRegs { h with }
  exact h₄.upon (·.enableBegin)

theorem sequenceEnd {pg} (h : s.Sound) : (s.sequenceEnd pg).Sound :=
  h.except fun h => .ite h.enableEnd h.shutEnd

theorem withdrawCommit {pg} (h : s.Sound) : (s.withdrawCommit pg).Sound :=
  .upon (.set <| .same { h with } rfl) (·.setBeam)

theorem softReset {pg} (h : s.Sound) : (s.softReset pg).Sound :=
  h.except fun h =>
    have h₁ := h.withdrawCommit
    .ite (h₁.srstRegs.upon (·.enableBegin)) <| .except { h₁ with } (·.shutBegin)

theorem dropPage {pg} (h : s.Sound) : (s.dropPage pg).Sound :=
  .ite (.upon (.same h.failPage rfl) (·.ovlDrop)) <| h.except fun h => .set { h with }

theorem railPages {vana vcnv vrf} (h : s.Sound) : (s.railPages vana vcnv vrf).Sound :=
  .foldl (.upon ((h.upon (·.dropPage)).upon fun h => h.foldl (·.dropPage)) fun h => h.foldl (·.dropPage.set))
      (·.dropIfOff)

/-! ### `Modes` -/

theorem setModes {f} (h : s.Sound) : (s.setModes f).Sound :=
  { h with }

theorem setPwr {f} (h : s.Sound) : (s.setPwr f).Sound :=
  { h with }

theorem outOpen (h : s.Sound) : s.outOpen.Sound := by
  unfold State.outOpen
  split
  · exact h
  · exact h.setModes.count

theorem outClose (h : s.Sound) : s.outClose.Sound := by
  unfold State.outClose
  split
  · exact h.setModes
  · exact h

theorem radioReset {keep} (h : s.Sound) : (s.radioReset keep).Sound := by
  unfold State.radioReset
  extract_lets s₁ radio z
  have h₁ : s₁.Sound := h.forgetKeys
  have hz : z.Sound := .reset
  exact .killStays
    { hz with regs := h₁.regs, bank := h₁.bank, mem := h₁.mem, bias := h₁.bias, evtQ := Nat.zero_le _ }

theorem aonReset (h : s.Sound) : s.aonReset.Sound := by
  unfold State.aonReset
  extract_lets forced s₁ s₂ s₃ s₄ s₅
  have h₄ : s₄.Sound := (h.forgetKeys.foldl (·.set)).updDrop.keyRamClear.set
  have h₅ : s₅.Sound := h₄.otpShadows.foldl (·.biasEntry)
  clear_value s₅
  exact { h₅ with }

theorem resetAll (h : s.Sound) : s.resetAll.Sound := by
  unfold State.resetAll
  extract_lets s₁
  have h₁ : s₁.Sound := h.logFlush.radioReset.aonReset
  clear_value s₁
  exact .setPwr { h₁ with }

theorem modeChange {old new} (h : s.Sound) : (s.modeChange old new).Sound :=
  .logHw <| .raise <| .set <| .same h.set.set rfl

theorem enterM1 {reason} (h : s.Sound) : (s.enterM1 reason).Sound := by
  unfold State.enterM1
  extract_lets old s₁
  have h₁ : s₁.Sound := h.resetAll.modeChange
  clear_value s₁
  exact .set <| .set <| .setModes { h₁ with }

theorem m2Link (h : s.Sound) : s.m2Link.Sound :=
  h.upon fun h => h.set.set.foldl (·.enableWritten)

theorem showRef (h : s.Sound) : s.showRef.Sound :=
  h.set

theorem m2Power (h : s.Sound) : s.m2Power.Sound :=
  h.upon fun h => .m2Link <| .setPwr <| .same (h.upon (·.showRef)) rfl

theorem enterM2 {code} (h : s.Sound) : (s.enterM2 code).Sound :=
  .m2Power <| h.resetAll.modeChange.outOpen.set.foldl fun h => (h.foldl (·.set)).set.set

theorem failedStart {code} (h : s.Sound) : (s.failedStart code).Sound :=
  h.except fun h =>
    have h₁ := h.set.logHw
    .except (.raise <| .outOpen <| .set <| .ite h₁.enterM1 h₁.enterM2) (·.raise)

theorem deviceReset {reason} (h : s.Sound) : (s.deviceReset reason).Sound :=
  .ite h.resetAll h.enterM1

theorem runImage {slot} (h : s.Sound) : (s.runImage slot).Sound :=
  h.writeWhole.set.set.set.set.setMgmt.setModes.logHw

theorem repairOne {m x t} (h : s.Sound) (e : s.repairOne m x = some t) : t.Sound := by
  unfold State.repairOne at e
  split at e
  · cases e
  · extract_lets l s₁ f at e
    have h₁ : s₁.Sound := h.set.set
    split at e
    · split at e
      · cases e
        exact h₁.setFuse.upon (·.raise)
      · cases e
        exact h₁.logEvent
    · cases e
      exact h₁.logEvent

theorem repairAll {m t} {ts : List (Nat × Nat)} {o : Option State} (h : ∀ {u}, o = some u → u.Sound)
    (e : ts.foldl (fun a x => a.bind (fun s => s.repairOne m x)) o = some t) : t.Sound := by
  induction ts generalizing o with
  | nil => exact h e
  | cons x ts ih =>
    refine ih (fun hu => ?_) e
    obtain ⟨v, hv, hx⟩ := Option.bind_eq_some_iff.mp hu
    exact (h hv).repairOne hx

theorem repair {fs t} (h : s.Sound) (e : s.repair fs = some t) : t.Sound := by
  induction fs generalizing s with
  | nil => cases e; exact h
  | cons f fs ih =>
    unfold State.repair at e
    split at e
    next u hu => exact ih (repairAll (fun hs => Option.some.inj hs ▸ h) hu) e
    next => cases e

theorem romMemories (h : s.Sound) : s.romMemories.Sound := by
  unfold State.romMemories
  extract_lets s₁ s₂ s₃
  have h₂ : s₂.Sound := h.clearMem.clearMem.cloveClear.modelIdentity.clearMem
  clear_value s₂
  have h₃ : s₃.Sound := { h₂ with }
  exact h₃.foldl (·.eccAll)

theorem romRest (h : s.Sound) : s.romRest.Sound := by
  unfold State.romRest
  extract_lets s₁ f
  have h₁ : s₁.Sound := h.otpShadows.applyFuses.romMemories
  clear_value s₁
  split
  · exact h₁.failedStart
  next t e =>
    have h₂ := h₁.repair e
    extract_lets s₂ s₃ s₄ s₅
    have h₅ : s₅.Sound := h₂.seti.orPair.orPair.set.loopFails.upon (·.setSec)
    clear_value s₅
    refine .ite h₂.seti.failedStart ?_
    split
    · exact h₅.runImage
    · exact h₅.failedStart

theorem lrNone (h : s.Sound) : s.lrNone.Sound :=
  h.forget

theorem startRun {find flashBad} (h : s.Sound) : (s.startRun find flashBad).Sound := by
  unfold State.startRun
  extract_lets s₁ s₂ s₃ s₄ s₅ k c s₆ s₇
  have h₁ : s₁.Sound := .ite h.radioReset.modeChange (.set { h with })
  clear_value s₁
  have h₃ : s₃.Sound := h₁.keyRamClear.lrNone.aniseGate.except (·.set)
  clear_value s₃
  have h₄ : s₄.Sound := .setPwr <| .showRef { h₃ with }
  have h₅ : s₅.Sound := h₄.set.set.set
  clear_value s₅
  have h₆ : s₆.Sound := { h₅ with }
  exact h₆.setModes.enableWritten.enableWritten

theorem lockTimeout (h : s.Sound) : s.lockTimeout.Sound :=
  h.upon fun h => .ite h.failedStart <| h.upon (·.failedStart)

theorem lockStep {k} (h : s.Sound) : (s.lockStep k).Sound := by
  unfold State.lockStep
  extract_lets s₁ a s₂ s₃
  have h₁ : s₁.Sound := h.lockLoop
  clear_value s₁
  have h₂ : s₂.Sound := { h₁ with }
  have h₃ : s₃.Sound := h₂.set.setModes
  clear_value s₃
  exact h₂.upon fun _ => { h₃ with }

theorem voutCheck {ack vout} (h : s.Sound) : (s.voutCheck ack vout).Sound := by
  unfold State.voutCheck
  split
  · exact h
  · refine h.except fun h => ?_
    extract_lets a s₁ s₂ tgt s₃
    have h₁ : s₁.Sound := { h with }
    have h₂ : s₂.Sound := h₁.upon (·.set.setModes)
    clear_value s₂
    have h₃ : s₃.Sound := h₂.count.raiseLog
    clear_value s₃
    exact .ite (h₂.upon (·.romRest)) <| .ite { h₃ with } <| .ite h₃.failedStart { h₃ with }

theorem contExpire {code} (h : s.Sound) : (s.contExpire code).Sound :=
  .set <| .same h.setModes.raise rfl

theorem mgmtRestart {reason flashBad} (h : s.Sound) : (s.mgmtRestart reason flashBad).Sound := by
  refine h.except fun h => ?_
  dsimp only
  split
  · exact .runImage <| .setModes <| .setMgmt <| .set <| .set <| .set <| .set { h with }
  · exact .contExpire <| .setModes <| .setMgmt <| .set <| .set <| .set <| .set { h with }

theorem contExpired (h : s.Sound) : s.contExpired.Sound :=
  h.upon (·.contExpire)

theorem holdExpiry (h : s.Sound) : s.holdExpiry.Sound := by
  unfold State.holdExpiry
  split
  · exact h.upon (·.failedStart)
  · exact h

theorem pepperReset (h : s.Sound) : s.pepperReset.Sound :=
  h.set.set.setMgmt.setModes

theorem runWatchdog {flashBad} (h : s.Sound) : (s.runWatchdog flashBad).Sound :=
  h.upon fun h => .ite h.pepperReset h.mgmtRestart

theorem updEnds {bad flashBad} (h : s.Sound) : (s.updEnds bad flashBad).Sound :=
  .ite h.updComplete.mgmtRestart <| .ite h.updComplete.deviceReset h.updComplete

theorem stableFrom (h : s.Sound) : s.stableFrom.Sound :=
  h.setModes

theorem bootOk (h : s.Sound) : s.bootOk.Sound :=
  h.except fun h => .ite (.stableFrom <| .setMgmt <| .setModes <| .set <| .set { h with }) <|
    h.except (·.set.setModes.stableFrom)

theorem bootWatchdog (h : s.Sound) : s.bootWatchdog.Sound := by
  unfold State.bootWatchdog
  split
  · exact h.upon fun h => .ite h.pepperReset h.failedStart
  · exact h

theorem stableExpiry (h : s.Sound) : s.stableExpiry.Sound :=
  h.upon (·.set)

theorem modeRefused {v cause} (h : s.Sound) : (s.modeRefused v cause).Sound :=
  h.set.set.raise.logHw

theorem modeJudge {c hw v} (h : s.Sound) : (s.modeJudge c hw v).Sound :=
  h.except fun h => .ite h.modeRefused <| .set <| .same (h.except (·.outClose)) rfl

theorem takeNext (h : s.Sound) : s.takeNext.Sound := by
  unfold State.takeNext
  split
  · exact h.setModes.modeJudge
  · exact h

theorem startBegin {find flashBad} (h : s.Sound) : (s.startBegin find flashBad).Sound :=
  h.upon (·.startRun.takeNext)

theorem modeReq {c v} (h : s.Sound) : (s.modeReq c v).Sound :=
  have h₁ := h.set
  .ite h₁.modeRefused <| .ite h₁.setModes h₁.modeJudge

theorem pathToMode {n v} (h : s.Sound) : (s.pathToMode n v).Sound :=
  h.setPath.goPath

theorem leaveM5 (h : s.Sound) : s.leaveM5.Sound :=
  (h.foldl (·.setOct.set)).foldl fun h => (h.boundaryClear.upon (·.withdrawNow)).dpdLeave

theorem leaveM7 (h : s.Sound) : s.leaveM7.Sound :=
  (((h.foldl (·.set.set)).foldl (·.setTap)).set.foldl (·.checkerOff.set.set.setInj)).bistAbort

theorem enterM0 (h : s.Sound) : s.enterM0.Sound := by
  unfold State.enterM0
  extract_lets s₁ s₂
  have h₂ : s₂.Sound := h.logFlush.keyRamClear.radioReset.foldl (·.biasSafe)
  clear_value s₂
  exact .setPwr { h₂ with }

theorem modeTake {v} (h : s.Sound) : (s.modeTake v).Sound := by
  unfold State.modeTake
  extract_lets old s₁ s₂ s₃ s₄ s₅ s₆
  have h₃ : s₃.Sound := ((h.upon (·.fgAbort)).upon (·.leaveM5)).upon (·.leaveM7)
  have h₄ : s₄.Sound := .ite (.set { h₃ with }) h₃.modeChange
  have h₅ : s₅.Sound := .ite (h₄.upon (·.outClose)).enterM0 <|
    .ite (h₄.foldl (·.slotBoundary)).outClose (h₄.foldl (·.pathToMode))
  exact h₅.aniseGate.setModes

theorem modeDone (h : s.Sound) : s.modeDone.Sound := by
  unfold State.modeDone
  split
  · exact h
  · exact h.except fun h => .ite (.takeNext <| .modeRefused <| .set { h with }) <|
      .ite h.modeTake.set.setModes.outOpen (h.modeTake.upon (·.outOpen)).takeNext

theorem linkTimeout (h : s.Sound) : s.linkTimeout.Sound :=
  h.upon fun h =>
    have h₁ := h.set
    .ite h₁.setModes h₁.modeJudge

theorem halt (h : s.Sound) : s.halt.Sound := by
  unfold State.halt
  refine h.except fun h => ?_
  extract_lets old s₁ s₂ s₃ m s₄ s₅ s₆
  have h₁ : s₁.Sound := h.set.raiseLog
  clear_value s₁
  have h₂ : s₂.Sound := .ite (.set { h₁ with }) h₁.modeChange.logFlush
  have h₃ : s₃.Sound := h₂.radioReset
  clear_value s₃
  have h₄ : s₄.Sound := .setPwr { h₃ with }
  exact (h₄.set.set.keyRamClear.foldl (·.biasForce)).setModes.outOpen

/-! ### `Power` -/

theorem sampleStraps {b} (h : s.Sound) : (s.sampleStraps b).Sound :=
  h.set.set

theorem powerUp {vaux} (h : s.Sound) : (s.powerUp vaux).Sound :=
  have hz := State.Sound.reset
  { hz with mem := Memory.filter_wf _ _ h.mem }

theorem keepRef {old : State} (h : s.Sound) : (s.keepRef old).Sound :=
  h.set.set.set

theorem vauxOn {bootsel mv} (h : s.Sound) : (s.vauxOn bootsel mv).Sound := by
  unfold State.vauxOn
  refine h.except fun h => ?_
  extract_lets old s₁ m s₂ s₃ s₄
  have h₁ : s₁.Sound := h.powerUp.keepRef.otpShadows.foldl (·.biasEntry)
  clear_value s₁
  have h₂ : s₂.Sound := .setPwr { h₁ with }
  have h₄ : s₄.Sound := h₂.sampleStraps.upon (·.setPwr.kill)
  clear_value s₄
  exact .ite (h₄.except (·.enterM2)) <| h₄.upon fun h => .set { h with }

theorem vauxOff (h : s.Sound) : s.vauxOff.Sound :=
  h.upon (·.powerUp.keepRef)

theorem biasRead (h : s.Sound) : s.biasRead.Sound :=
  h.upon fun h => h.setPwr.foldl fun h => h.except (·.biasSafe)

theorem setRail {rail b} (h : s.Sound) : (s.setRail rail b).Sound :=
  h.setPwr

theorem railGood {rail} (h : s.Sound) : (s.railGood rail).Sound :=
  h.setRail.except fun h => (h.upon (·.setPwr)).m2Power

theorem railDown {rail} (h : s.Sound) : (s.railDown rail).Sound :=
  have h₁ := h.railPages
  .ite (h₁.foldl (·.lol)) <| h₁.upon (·.lanesLoss.linkDown)

theorem railLost {rail} (h : s.Sound) : (s.railLost rail).Sound :=
  h.except fun h => h.setRail.except fun h => .ite h.railDown <| .ite h.failedStart <| h.upon (·.lanesLoss.linkDown)

theorem vcoreLost (h : s.Sound) : s.vcoreLost.Sound :=
  h.setRail.except fun h => .ite h.logHw.enterM1 <| .ite h.failedStart <| h.upon fun h => .setPwr { h with }

theorem resetAssert (h : s.Sound) : s.resetAssert.Sound :=
  h.except fun h => h.setPwr.except fun h => .forget <|
    .foldl (.setModes <| .set <| .setPwr <| .same h.radioReset rfl) (·.biasSafe)

theorem resetRelease {bootsel} (h : s.Sound) : (s.resetRelease bootsel).Sound :=
  h.except fun h => h.setPwr.except fun h =>
    have h₁ := h.sampleStraps
    .ite h₁.resetAll <| .ite h₁.enterM2 h₁.enterM1

theorem bankLoss {b} (h : s.Sound) : (s.bankLoss b).Sound :=
  h.except fun h =>
    have h₁ := h.setRail
    .ite h₁.setPwr <|
      have h₁ := h₁.raise.set
      .ite h₁.resetAssert <| h₁.upon (·.kill)

theorem gpioEdge {k rising} (h : s.Sound) : (s.gpioEdge k rising).Sound :=
  h.except fun h => h.set.upon (·.raise)

/-! ### `Health` -/

theorem setHk {f} (h : s.Sound) : (s.setHk f).Sound :=
  { h with }

theorem setAge {f} (h : s.Sound) : (s.setAge f).Sound :=
  { h with }

theorem hkShow (h : s.Sound) : s.hkShow.Sound :=
  h.set.set.set

theorem hkPush {ch cause v} (h : s.Sound) : (s.hkPush ch cause v).Sound :=
  .ite h.count.raise <| h.setHk.hkShow.upon (·.raise)

theorem hkPop (h : s.Sound) : s.hkPop.Sound :=
  h.setHk.hkShow

theorem hkRequest {ch cause} (h : s.Sound) : (s.hkRequest ch cause).Sound :=
  h.upon (·.setHk)

theorem hkGo {ch} (h : s.Sound) : (s.hkGo ch).Sound :=
  h.set.hkRequest

theorem hkSchedule (h : s.Sound) : s.hkSchedule.Sound :=
  h.except fun h => h.setHk.foldl (·.hkRequest)

theorem cmpHit {ch back} (h : s.Sound) : (s.cmpHit ch back).Sound :=
  h.upon (·.setHk.hkRequest.raise)

theorem thermalJudge {k} (h : s.Sound) : (s.thermalJudge k).Sound :=
  have h₁ := (h.upon (·.raiseLog)).set.set
  .upon (.ite h₁.raiseLog <| h₁.upon (·.raise)) (·.halt)

theorem writeWindow (h : s.Sound) : s.writeWindow.Sound :=
  h.except (·.set.raise)

theorem brokenNote {k bad} (h : s.Sound) : (s.brokenNote k bad).Sound :=
  have h₁ := h.setHk
  .ite h₁.set.raiseLog <| h₁.upon (·.set)

theorem sensorSeen {k bad} (h : s.Sound) : (s.sensorSeen k bad).Sound :=
  h.brokenNote.except (·.thermalJudge.writeWindow)

theorem supervise {k v bad} (h : s.Sound) : (s.supervise k v bad).Sound :=
  h.seti.setHk.brokenNote.thermalJudge.seti.writeWindow

theorem hkResult {xs} (h : s.Sound) : (s.hkResult xs).2.Sound :=
  .ite₂ h <| .ite₂ h.freeNat h

theorem refJudge {dev} (h : s.Sound) : (s.refJudge dev).Sound :=
  .ite h.set h.set.raiseLog

theorem conversion {sup ch xs bad} (h : s.Sound) : (s.conversion sup ch xs bad).Sound := by
  refine h.except fun h => .ite (h.upon (·.seti.supervise)) ?_
  split
  · exact h
  · exact h.except fun h =>
      have h₁ := h.setHk.hkResult.seti
      .hkPush <| .ite h₁.sensorSeen <| h₁.upon (·.refJudge)

theorem hkCalibrate {start dev} (h : s.Sound) : (s.hkCalibrate start dev).Sound := by
  unfold State.hkCalibrate
  split
  · exact h.except (·.setHk.set.set)
  · exact h.setHk.set.set.seti.refJudge
  · exact h

theorem slackNote {w r} (h : s.Sound) : (s.slackNote w r).Sound := by
  unfold State.slackNote
  split
  · exact h.set
  · exact h.set.set.upon (·.set)

theorem voutCommand (h : s.Sound) : s.voutCommand.Sound :=
  h.setAge

theorem avsLoop (h : s.Sound) : s.avsLoop.Sound :=
  .upon (h.except fun h => (h.setAge.except (·.set.voutCommand.raise)).upon (·.setAge.raise)) (·.voutCommand)

theorem planIntervals (h : s.Sound) : s.planIntervals.Sound :=
  h.except fun h => h.foldl (·.set)

theorem stageNote (h : s.Sound) : s.stageNote.Sound := by
  unfold State.stageNote
  extract_lets vs s₁ level s₂ n
  have h₂ : s₂.Sound := (h.foldl (·.set.set)).setAge
  exact h₂.except (·.set.raiseLog.planIntervals)

theorem slackEnd {w} (h : s.Sound) : (s.slackEnd w).Sound :=
  h.upon fun h => .stageNote <| .avsLoop <| .foldl (h.foldl fun h => h.upon (·.set)) (·.slackNote)

theorem telemetry {vout iout temp} (h : s.Sound) : (s.telemetry vout iout temp).Sound :=
  h.upon (·.setHk.set.set.seti)

theorem pmAlert {status} (h : s.Sound) : (s.pmAlert status).Sound :=
  h.upon (·.set.raise)

theorem hwRetire {d n} (h : s.Sound) : (s.hwRetire d n).Sound :=
  h.except fun h => .count <| .ite h.retireWritten h.rxRetireWritten

theorem lifeTick (h : s.Sound) : s.lifeTick.Sound :=
  h.except fun h => h.setAge.except fun h => h.setAge.set.upon (·.setAge)

theorem addSum {lo hi x} (h : s.Sound) : (s.addSum lo hi x).Sound :=
  h.set64

theorem lifeFit {d f} (h : s.Sound) : (s.lifeFit d f).Sound :=
  have h₁ := h.seti.seti
  .ite h₁.set.set h₁.set.set

theorem dayClose (h : s.Sound) : s.dayClose.Sound :=
  h.except fun h => (h.freeNat.except (·.addSum.addSum.addSum.addSum.set)).lifeFit.setAge.raiseLog

/-! ### `Write` -/

theorem evtEnWritten {pg v} (h : s.Sound) : (s.evtEnWritten pg v).Sound :=
  h.set.foldl fun h => h.upon (·.deliver)

theorem levelWritten {pg v} (h : s.Sound) : (s.levelWritten pg v).Sound :=
  h.set.set

theorem headerWritten {l v} (h : s.Sound) : (s.headerWritten l v).Sound :=
  .ite (.ite h.set h.enableWritten) <| .ite h.levelWritten <| .ite h.evtEnWritten <| .ite h.set h.set

theorem pathFieldWritten {tx n l v} (h : s.Sound) : (s.pathFieldWritten tx n l v).Sound :=
  .ite h.thrWritten <| .ite (.ite h.muteWritten <| .ite h.retireWritten h.set) <| .ite h.ovlEnWritten <|
    .ite h.ovlForceWritten h.set

theorem blockWritten {c l v} (h : s.Sound) : (s.blockWritten c l v).Sound :=
  .ite h.pathFieldWritten <| .ite h.pathFieldWritten <| .ite h.modeReq <| .ite h.set.selectSource <|
    .ite h.muteWritten <| .ite h.frozenWritten <| .ite h.laneTestWritten <| .ite h.deskew <| .ite h.secure <|
    .ite h.retune <| .ite h.retune <| .ite h.set.aerForced <| .ite h.runWritten <| .ite h.wdEnable <|
    .ite h.mtimecmpWritten <| .ite h.flushThr <| .ite h.rdSeq <| .ite h.rxRetireWritten <| .ite h.set.setHk <|
    .ite h.biasWritten h.set

theorem fieldEff {c l v} (h : s.Sound) : (s.fieldEff c l v).Sound :=
  .ite h.edit <| .ite h.headerWritten h.blockWritten

theorem clearEvents {pg m} (h : s.Sound) : (s.clearEvents pg m).Sound :=
  h.set.foldl fun h => h.upon (·.deliver)

theorem clearBits {l m} (h : s.Sound) : (s.clearBits l m).Sound :=
  .ite (.clearEvents <| h.foldl fun h => h.upon (·.raise)) <| h.set.upon fun h => { h with }

theorem monDrop (h : s.Sound) : s.monDrop.Sound :=
  .set { h with }

theorem commitCancel {pg} (h : s.Sound) : (s.commitCancel pg).Sound :=
  h.upon (·.withdrawCommit)

theorem headerTrigger {l} (h : s.Sound) : (s.headerTrigger l).Sound :=
  .ite h.softReset <| .ite h.commitCancel <| h.upon (·.commitReq)

theorem lowTrigger {l data} (h : s.Sound) : (s.lowTrigger l data).Sound :=
  .ite h.bootOk <| .ite h.deviceReset <| .ite h.mgmtRestart <| .ite h.otpGo <| .ite h.lrGo <| .ite h.keGo <|
    .ite h.dbgChal <| .ite h.dbgUnlock <| .ite h.stepGo <| .ite h.validSet <| .ite h.decAlign <| .ite h.fillGo <|
    .ite h.updReq <| .ite h.jobRelease <| .ite h.flush <| .ite h.fgGo <| .ite h.fgAbort <|
    .ite (.ite h.bitslip <| h.upon (·.cntClr)) <| h.upon fun h => .ite h.inject <| h.upon (·.inject)

theorem highTrigger {c l data at_} (h : s.Sound) : (s.highTrigger c l data at_).Sound :=
  .ite h.sndPop <| .ite h.set <| .ite h.timingCalGo <| .ite h.timingCalClr <| .ite h.sdqPop <| .ite h.sdqFlush <|
    .ite (.ite h.softTrig <| .ite h.capStop <| h.upon (·.softArm)) <|
    .ite (.ite h.dmaDoorbell <| h.upon (·.dmaAbort)) <|
    .ite (.ite h.swapGo <| .ite h.line <| h.upon (·.loadStart)) <| .ite h.wdKick <| .ite h.logFlush <|
    .ite h.fwRecord <| .ite h.updGo <| .ite h.monDrop <| .ite h.bistGo <| .ite h.bistAbort <| .ite h.bistPop <|
    .ite h.fuseGo <| .ite h.hkGo <| h.upon (·.hkPop)

theorem trigAct {c l data at_} (h : s.Sound) : (s.trigAct c l data at_).Sound :=
  .ite h.clearBits <| .ite h.clearBits <| .ite h.headerTrigger <| .ite h.lowTrigger h.highTrigger

/-! ### `Read` -/

theorem readLatch {c ls} (h : s.Sound) : (s.readLatch c ls).Sound :=
  h.except fun h => { h with }

theorem readWord {c pg off} (h : s.Sound) : (s.readWord c pg off).2.2.Sound :=
  .ite₃ h <| .ite₃ h.rngWord h.readLatch

/-! ### `Access` -/

theorem idle (h : s.Sound) : s.idle.Sound :=
  h.upon (·.streamTick.tick.bareTick.rateTick.lifeTick.writeWindow)

theorem joinPart {c agent id data l} (h : s.Sound) : (s.joinPart c agent id data l).Sound :=
  .ite h.joinWindow { h with }

theorem arriveEvents {pg off data codes} (h : s.Sound) : (s.arriveEvents pg off data codes).Sound :=
  .ite h.raise <| h.upon (·.raise)

theorem arrive {c agent pg off data ls} (h : s.Sound) : (s.arrive c agent pg off data ls).2.Sound := by
  refine .ite₂ h <| .ite₂ h.noField ?_
  split
  · exact h.refuseWrite.reply
  · exact
      have h₁ := (h.except (·.refuseWrite)).arriveEvents.upon (·.enqAct)
      .ite₂ h₁.reply <| .same (h₁.foldl (·.joinPart)) rfl

theorem ack {w} (h : s.Sound) : (s.ack w).Sound := by
  unfold State.ack
  extract_lets st s₁
  have h₁ : s₁.Sound := h.reply
  exact { h₁ with }

theorem credit {id sup} (h : s.Sound) : (s.credit id sup).Sound := by
  unfold State.credit
  split
  · exact h
  · exact .ite (.ack { h with }) { h with }

theorem creditAll {ws v} (h : s.Sound) : (s.creditAll ws v).Sound :=
  h.foldl (·.credit)

theorem takeWindow {w} (h : s.Sound) : (s.takeWindow w).2.Sound :=
  .creditAll <| .resolve { h with }

theorem takeDue {l} (h : s.Sound) : (s.takeDue l).2.Sound := by
  unfold State.takeDue
  split
  · exact h.takeWindow
  · exact h

theorem closeTune (h : s.Sound) : s.closeTune.Sound :=
  h.takeDue.takeDue.retune

theorem closeBias {k} (h : s.Sound) : (s.closeBias k).Sound :=
  .ite h.takeDue.takeDue h.takeDue.takeDue.biasTarget

theorem closeWindow {w} (h : s.Sound) : (s.closeWindow w).Sound := by
  refine .ite h.closeTune <| .ite h.closeBias ?_
  dsimp only
  split
  · exact .ite h.takeWindow.set h.takeWindow.fieldEff
  · exact h.takeWindow

theorem triggerActs {t} (h : s.Sound) : (s.triggerActs t).Sound :=
  .credit <| .trigAct { h with }

theorem closeDue {now n} (h : s.Sound) : (s.closeDue now n).Sound := by
  induction n generalizing s with
  | zero => exact h
  | succ n ih =>
    unfold State.closeDue
    split
    · exact h
    · refine .ite h ?_
      split
      · exact ih h.closeWindow
      · split
        · exact ih h.triggerActs
        · exact h

theorem dueAt {now} (h : s.Sound) : (s.dueAt now).Sound :=
  h.closeDue

theorem windowsClose (h : s.Sound) : s.windowsClose.Sound :=
  h.except (·.dueAt)

theorem passTick {now} (h : s.Sound) : (s.passTick now).Sound := by
  unfold State.passTick
  extract_lets t
  have ht : t.Sound := .idle { h with }
  exact .dueAt { ht with }

theorem pass {now n} (h : s.Sound) : (s.pass now n).Sound := by
  induction n generalizing s now with
  | zero => exact h
  | succ n ih => exact ih h.passTick

theorem answered {id} (h : s.Sound) : (s.answered id).Sound := by
  unfold State.answered
  split
  · exact { h with }
  · exact h

theorem carry {c agent pg off data ls} (h : s.Sound) : (s.carry c agent pg off data ls).Sound := by
  unfold State.carry
  dsimp only
  split
  · exact .arrive { h with }
  · exact .answered <| .pass <| .arrive { h with }

theorem rowField {c agent l v} (h : s.Sound) : (s.rowField c agent l v).Sound :=
  h.carry

theorem rowTrig {c l data} (h : s.Sound) : (s.rowTrig c l data).Sound :=
  h.carry

theorem carryWords {c agent pg ws} (h : s.Sound) : (s.carryWords c agent pg ws).2.Sound := by
  unfold State.carryWords
  extract_lets r t
  have hr : r.2.Sound := .foldl₂ (.snd { h with }) (·.arrive)
  clear_value r
  have ht : t.Sound := hr.pass
  clear_value t
  exact ht

theorem writeWord {c agent pg off data} (h : s.Sound) : (s.writeWord c agent pg off data).Sound :=
  h.carry

theorem loadWait {c pg} (h : s.Sound) : (s.loadWait c pg).Sound :=
  h.upon (·.pass)

theorem badAddr {c addr status} (h : s.Sound) : (s.badAddr c addr status).Sound :=
  h.refuseWrite.reply

theorem tapCommitted {t} (h : s.Sound) : (s.tapCommitted t).Sound :=
  h.setTap.upon (·.tapHold)

theorem committed {old : State} {pg} (h : s.Sound) : (s.committed old pg).Sound :=
  .ite h.loopCommitted <| .ite h.rxCommitted.slewCommitted <| .ite h.txCommitted.slewCommitted <|
    .ite h.octCommitted <| .ite h.tapCommitted <| .ite h.beamCommitted <| h.upon (·.calCommitted)

theorem swapBanks {pg} (h : s.Sound) : (s.swapBanks pg).Sound :=
  .set { h with regs := swapStores_wf h.regs }

theorem commitSwap {pg} (h : s.Sound) : (s.commitSwap pg).Sound := by
  unfold State.commitSwap
  split
  · exact h
  · exact h.except fun h => .raise <| .committed <| .upon (.set <| .same h.swapBanks rfl) (·.raise)

theorem copyDone {pg} (h : s.Sound) : (s.copyDone pg).Sound :=
  h.except fun h => .ite (.calPageFree <| .set { h with bank := Store.filter_wf _ _ h.bank }) <|
    .upon (.set { h with bank := Store.filter_wf _ _ h.bank }) (·.arrayPageFree)

theorem portWrite {r c agent a v} (h : s.Sound) : (s.portWrite r c agent a v).2.Sound :=
  .ite₂ h.refuse <| .ite₂ h.refuse <| .ite₂ h.writeWord <| .ite₂ (.ite h.busWrite.refuse h.busWrite) h.refuse

theorem portRead {r c a} (h : s.Sound) : (s.portRead r c a).2.2.Sound :=
  .ite₃ (.refuse <| .ite₃ h <| .ite₃ h <| .ite₃ h.readWord <| .ite₃ h.busRead h) <| .ite₃ h <| .ite₃ h <|
    .ite₃ h.readWord <| .ite₃ h.busRead h

theorem portWrites {r c inc a ws} (h : s.Sound) : (s.portWrites r c inc a ws).2.Sound := by
  induction ws generalizing s a with
  | nil => exact h
  | cons v t ih => exact ih h.portWrite

theorem portReads {r c inc a n} (h : s.Sound) : (s.portReads r c inc a n).2.2.Sound := by
  induction n generalizing s a with
  | zero => exact h
  | succ n ih => exact ih h.portRead

theorem spi {rd inc addr n ws} (h : s.Sound) : (s.spi rd inc addr n ws).Sound :=
  h.except fun h => .ite h.refuse.reply <| .ite h.portReads.reply h.portWrites.reply

theorem spiAbort {rd inc addr ws} (h : s.Sound) : (s.spiAbort rd inc addr ws).Sound :=
  h.except fun h => .ite { h with } <| .same h.portWrites rfl

theorem jtag {write addr data} (h : s.Sound) : (s.jtag write addr data).Sound :=
  h.except fun h => .ite h.portWrite.reply h.portRead.reply

theorem mgtReg {waiting ws broken} (h : s.Sound) : (s.mgtReg waiting ws broken).Sound := by
  unfold State.mgtReg
  split
  next t e => exact h.sendClear.receiveAs.of_eq e
  next t e =>
    have h₁ := h.sendClear.receiveAs.of_eq e
    refine .ite h₁.count ?_
    extract_lets inc n addr r r'
    exact .ite h₁.portReads.send h₁.portWrites.send

theorem bridgeDone {c} (h : s.Sound) : (s.bridgeDone c).Sound := by
  unfold State.bridgeDone
  split
  · exact h
  · exact .line <| .setCore <| .ite₃ h.portWrite h.portRead

/-! ### `Sumac` -/

theorem setMon {f} (h : s.Sound) : (s.setMon f).Sound :=
  { h with }

theorem monReply {data status} (h : s.Sound) : (s.monReply data status).Sound :=
  h.reply

theorem monCommand {level eff} (h : s.Sound) (hf : ∀ {t}, t.Sound → (eff t).Sound) :
    (s.monCommand level eff).Sound :=
  h.except fun h =>
    have h₁ := (h.except (·.monDrop)).setMon
    .ite h₁.monReply (hf h₁)

theorem monInfo (h : s.Sound) : s.monInfo.Sound :=
  h.monReply

theorem monRead {a n} (h : s.Sound) : (s.monRead a n).Sound :=
  .ite h.monReply h.portReads.monReply

theorem monLog {q n} (h : s.Sound) : (s.monLog q n).Sound :=
  .ite h.monReply h.monReply

theorem monChal (h : s.Sound) : s.monChal.Sound :=
  .ite h.setMon.monReply h.rngs.setMon.monReply

theorem elevFailed (h : s.Sound) : s.elevFailed.Sound :=
  have h₁ := h.count
  .ite h₁.setMon.raise h₁.setMon

theorem monElev {w} (h : s.Sound) : (s.monElev w).Sound :=
  .ite h.monReply <|
    have h₁ := h.setMon
    .ite h₁.freeNat.logHw.count.monReply <|
      have h₁ := h₁.logHw
      .ite h₁.setMon.set.set.raise.monReply h₁.elevFailed.monReply

theorem monStart (h : s.Sound) : s.monStart.Sound :=
  .ite h.modeJudge.monReply h.monReply

theorem monWrite {a v} (h : s.Sound) : (s.monWrite a v).Sound :=
  .ite h.monReply h.portWrite.monReply

theorem monMode {m} (h : s.Sound) : (s.monMode m).Sound :=
  .ite h.monReply h.rowField

theorem monBaud {r} (h : s.Sound) : (s.monBaud r).Sound :=
  .ite h.monReply h.rowField

theorem monRecover (h : s.Sound) : s.monRecover.Sound :=
  .ite h.deviceReset.monReply h.monReply

theorem monUpd {op arg ofs data} (h : s.Sound) : (s.monUpd op arg ofs data).Sound := by
  refine .ite h.monReply ?_
  split
  · exact h.refuse.monReply
  · exact .ite h.monReply <| .ite h.set.monReply h.updIssue.monReply

/-! ### `Rows` -/

theorem nowLoRead {c} (h : s.Sound) : (s.nowLoRead c).Sound :=
  h.except fun h =>
    have h₁ := h.loadWait
    .ite h₁.refuse.reply h₁.nowLo.reply

theorem loadWord {cls agent c hit} (h : s.Sound) : (s.loadWord cls agent c hit).Sound :=
  h.carry

theorem updOp {c op arg} (h : s.Sound) : (s.updOp c op arg).Sound :=
  h.carry

theorem otpOp {c op arg} (h : s.Sound) : (s.otpOp c op arg).Sound :=
  h.carry

theorem keOp {c op} (h : s.Sound) : (s.keOp c op).Sound :=
  h.carry

theorem fuseOp {c op arg} (h : s.Sound) : (s.fuseOp c op arg).Sound :=
  h.carry

theorem ctlCommit {p} (h : s.Sound) : (s.ctlCommit p).2.Sound := by
  unfold State.ctlCommit
  extract_lets r
  have hr : r.2.Sound := h.carryWords
  clear_value r
  exact hr

/-! ### `Dispatch` -/

/-- Each command answers a next state, and a sound one. -/
theorem exec {c} (h : s.Sound) : ∃ t, exec c s = .next t ∧ t.Sound :=
  match c with
  | .vauxEnterRange .. => ⟨_, rfl, h.vauxOn⟩
  | .vauxLeaveRange => ⟨_, rfl, h.vauxOff⟩
  | .biasSafeRead => ⟨_, rfl, h.biasRead⟩
  | .radioRailGood .. => ⟨_, rfl, h.railGood⟩
  | .radioRailNotGood .. => ⟨_, rfl, h.railLost⟩
  | .vcoreNotGood => ⟨_, rfl, h.vcoreLost⟩
  | .bankLoss .. => ⟨_, rfl, h.bankLoss⟩
  | .startBegin .. => ⟨_, rfl, h.startBegin⟩
  | .resetNAssert => ⟨_, rfl, h.resetAssert⟩
  | .resetNRelease .. => ⟨_, rfl, h.resetRelease⟩
  | .deviceReset .. => ⟨_, rfl, h.rowTrig⟩
  | .modeReqWrite .. => ⟨_, rfl, h.rowField⟩
  | .modeTransitionDone => ⟨_, rfl, h.modeDone⟩
  | .bootOk .. => ⟨_, rfl, h.rowTrig⟩
  | .bootWatchdogExpiry => ⟨_, rfl, h.bootWatchdog⟩
  | .mgmtRestart .. => ⟨_, rfl, h.rowTrig⟩
  | .contExpired => ⟨_, rfl, h.contExpired⟩
  | .contHoldExpiry => ⟨_, rfl, h.holdExpiry⟩
  | .stableTimeExpiry => ⟨_, rfl, h.stableExpiry⟩
  | .thermalHalt .. => ⟨_, rfl, h.upon (·.halt)⟩
  | .regWrite .. => ⟨_, rfl, h.except fun h => .ite h.store <| .ite h.badAddr h.arrive⟩
  | .pageEnable .. => ⟨_, rfl, h.carry⟩
  | .sequenceEnd .. => ⟨_, rfl, h.sequenceEnd⟩
  | .softReset .. => ⟨_, rfl, h.carry⟩
  | .levelReqWrite .. => ⟨_, rfl, h.rowField⟩
  | .evtClear .. => ⟨_, rfl, h.rowTrig⟩
  | .evtEnWrite .. => ⟨_, rfl, h.rowField⟩
  | .accessWrite .. => ⟨_, rfl, h.carry⟩
  | .accLock .. => ⟨_, rfl, h.rowField⟩
  | .fieldLock .. => ⟨_, rfl, h.rowField⟩
  | .commitReq .. => ⟨_, rfl, h.carry⟩
  | .commitCancel .. => ⟨_, rfl, h.carry⟩
  | .commitSwap .. => ⟨_, rfl, h.commitSwap⟩
  | .commitCopyDone .. => ⟨_, rfl, h.copyDone⟩
  | .coincidenceWindowClose => ⟨_, rfl, .windowsClose { h with }⟩
  | .spiTransaction .. => ⟨_, rfl, h.spi⟩
  | .spiAbort .. => ⟨_, rfl, h.spiAbort⟩
  | .jtagRegAccess .. => ⟨_, rfl, h.jtag⟩
  | .refLoss => ⟨_, rfl, h.refLoss⟩
  | .refBack .. => ⟨_, rfl, h.refBack⟩
  | .lock .. => ⟨_, rfl, h.lockStep⟩
  | .loopReady .. => ⟨_, rfl, h.loopReady⟩
  | .lol .. => ⟨_, rfl, h.lol⟩
  | .bandFail .. => ⟨_, rfl, h.bandFail⟩
  | .tsyncLoad => ⟨_, rfl, h.tsyncPulse⟩
  | .tsyncCheck => ⟨_, rfl, h.except (·.tsyncPulse)⟩
  | .tsyncoPulse => ⟨_, rfl, h.tsyncoPulse⟩
  | .outSent => ⟨_, rfl, h.outSent⟩
  | .stepGo .. => ⟨_, rfl, h.rowTrig⟩
  | .stepDone => ⟨_, rfl, h.stepDone⟩
  | .validSet .. => ⟨_, rfl, h.rowTrig⟩
  | .nowLoRead .. => ⟨_, rfl, h.nowLoRead⟩
  | .ovlEngage .. => ⟨_, rfl, h.ovlEngage⟩
  | .ovlReleaseStep .. => ⟨_, rfl, h.ovlRelease⟩
  | .modReset .. => ⟨_, rfl, h.modReset⟩
  | .compSwap .. => ⟨_, rfl, h.compSwap⟩
  | .rxqOverflow .. => ⟨_, rfl, h.rxqOverflow⟩
  | .txqUnderflow .. => ⟨_, rfl, h.txqUnderflow⟩
  | .usUnderflow => ⟨_, rfl, h.usUnderflow⟩
  | .decAlign .. => ⟨_, rfl, h.rowTrig⟩
  | .alignDone .. => ⟨_, rfl, h.alignDone⟩
  | .thresholdCrossing .. => ⟨_, rfl, h.thrCross⟩
  | .thrCfgWrite .. => ⟨_, rfl, h.carry⟩
  | .peakNew .. => ⟨_, rfl, h.peakNew⟩
  | .msNew .. => ⟨_, rfl, h.msNew⟩
  | .envelopeWord .. => ⟨_, rfl, h.envelope⟩
  | .cellSwap .. => ⟨_, rfl, h.cellSwap⟩
  | .rangeSwitch .. => ⟨_, rfl, h.rangeSwitch⟩
  | .rangeDone .. => ⟨_, rfl, h.rangeDone⟩
  | .txMuteWrite .. => ⟨_, rfl, h.rowField⟩
  | .txkillAssert => ⟨_, rfl, h.kill⟩
  | .txkillDeassert => ⟨_, rfl, h.unkill⟩
  | .complianceFault .. => ⟨_, rfl, h.compliance⟩
  | .retireWrite .. => ⟨_, rfl, h.rowField⟩
  | .vbiasCfgWrite .. => ⟨_, rfl, h.writeWord⟩
  | .vbiasSlewStep .. => ⟨_, rfl, h.biasSlew⟩
  | .vbiasRangeSwitch .. => ⟨_, rfl, h.biasRangeSwitch⟩
  | .setTableWrite .. => ⟨_, rfl, h.writeWord⟩
  | .weightWrite .. => ⟨_, rfl, h.weightWrite⟩
  | .fillGo .. => ⟨_, rfl, h.rowTrig⟩
  | .fillDone => ⟨_, rfl, h.fillDone⟩
  | .renormDone .. => ⟨_, rfl, h.renormDone⟩
  | .weightDamaged .. => ⟨_, rfl, h.weightDamaged⟩
  | .limiterWindowEnd => ⟨_, rfl, h.limiterEnd⟩
  | .dpdEnApply .. => ⟨_, rfl, h.dpdEnApply⟩
  | .dpdAssign .. => ⟨_, rfl, h.dpdAssign⟩
  | .dpdCaptureStart .. => ⟨_, rfl, h.dpdCapture⟩
  | .dpdCaptureDone .. => ⟨_, rfl, h.dpdCaptured⟩
  | .jobRelease .. => ⟨_, rfl, h.rowTrig⟩
  | .updReq .. => ⟨_, rfl, h.rowTrig⟩
  | .guardBaselineDone .. => ⟨_, rfl, h.guardBaseline⟩
  | .guardVerdict .. => ⟨_, rfl, h.guardVerdict⟩
  | .guardTimeout .. => ⟨_, rfl, h.guardTimeout⟩
  | .modelWrite .. => ⟨_, rfl, h.except (·.modelWrite.finish)⟩
  | .modelDamaged .. => ⟨_, rfl, h.modelDamaged⟩
  | .slotBoundary .. => ⟨_, rfl, h.slotBoundary⟩
  | .turnDriverSwitch .. => ⟨_, rfl, h.turnDriverDue⟩
  | .turnRoundSettled .. => ⟨_, rfl, h.turnSettleDue⟩
  | .trswChange .. => ⟨_, rfl, h.trswChange⟩
  | .enqAct .. => ⟨_, rfl, h.rowTrig⟩
  | .queueFlush .. => ⟨_, rfl, h.rowTrig⟩
  | .tlWindow .. => ⟨_, rfl, h.runEntry (·.tlWindow)⟩
  | .tlSet .. => ⟨_, rfl, h.runEntry (·.tlSet)⟩
  | .tlOneshot .. => ⟨_, rfl, h.runEntry (·.tlOneshot)⟩
  | .tlCommit .. => ⟨_, rfl, h.runEntry (·.tlCommit)⟩
  | .tlRange .. => ⟨_, rfl, h.runEntry (·.tlRange)⟩
  | .tlRffe .. => ⟨_, rfl, h.runEntry (·.seqStart)⟩
  | .tlTrig .. => ⟨_, rfl, h.runEntry (·.tlTrig)⟩
  | .windowEnd .. => ⟨_, rfl, h.windowEnd⟩
  | .oneshotEnd .. => ⟨_, rfl, h.oneshotEnd⟩
  | .trigoutEnd => ⟨_, rfl, h.trigoutEnd⟩
  | .rffeSequenceStart .. => ⟨_, rfl, h.rffeStart⟩
  | .rffeCommandDone .. => ⟨_, rfl, h.rffeDone⟩
  | .laneSleepEnter .. => ⟨_, rfl, h.laneSleepEnter⟩
  | .laneWakeStart .. => ⟨_, rfl, h.laneWakeStart⟩
  | .laneAwake .. => ⟨_, rfl, h.laneAwake⟩
  | .laneWakeRequest .. => ⟨_, rfl, h.laneWakeRequest⟩
  | .wakeFail => ⟨_, rfl, h.wakeFail⟩
  | .refCheck .. => ⟨_, rfl, h.refCheck⟩
  | .calResult .. => ⟨_, rfl, h.calResult⟩
  | .trimApply .. => ⟨_, rfl, h.trimApply⟩
  | .loPhaseDone .. => ⟨_, rfl, h.loPhaseDone⟩
  | .corrSlewUpdate => ⟨_, rfl, h.corrUpdate⟩
  | .arrayResult .. => ⟨_, rfl, .ite h.arrayOther h.arrayResult⟩
  | .fgGo .. => ⟨_, rfl, h.rowTrig⟩
  | .fgAbort .. => ⟨_, rfl, h.rowTrig⟩
  | .fgDone => ⟨_, rfl, h.fgDone⟩
  | .calDue .. => ⟨_, rfl, h.calDue⟩
  | .crossSlip .. => ⟨_, rfl, h.crossSlip⟩
  | .clkLoss .. => ⟨_, rfl, h.clkLoss⟩
  | .blockLock .. => ⟨_, rfl, h.blockLock⟩
  | .blockLoss .. => ⟨_, rfl, h.blockLoss⟩
  | .bitslip .. => ⟨_, rfl, h.rowTrig⟩
  | .eyePublish .. => ⟨_, rfl, h.eyePublish⟩
  | .prbsSync .. => ⟨_, rfl, h.prbsSync⟩
  | .prbsLoss .. => ⟨_, rfl, h.prbsLoss⟩
  | .cntClr .. => ⟨_, rfl, h.rowTrig⟩
  | .injSingle .. => ⟨_, rfl, h.rowTrig⟩
  | .injBurst .. => ⟨_, rfl, h.rowTrig⟩
  | .injDone .. => ⟨_, rfl, h.injDone⟩
  | .markerSend .. => ⟨_, rfl, h.markerSend⟩
  | .markerReceive .. => ⟨_, rfl, h.markerReceive⟩
  | .iqdPacket .. => ⟨_, rfl, h.iqdPacket⟩
  | .playoutMiss .. => ⟨_, rfl, h.playoutMiss⟩
  | .iquWindowSend => ⟨_, rfl, h.iquWindow⟩
  | .ctlWeights .. => ⟨_, rfl, h.ctl (·.ctlWeights)⟩
  | .ctlTimeline .. => ⟨_, rfl, h.ctl (·.ctlTimeline)⟩
  | .ctlCommit .. => ⟨_, rfl, h.ctl (·.ctlCommit)⟩
  | .ctlSleep .. => ⟨_, rfl, h.ctl (·.ctlSleep)⟩
  | .mgtReg .. => ⟨_, rfl, h.mgtReg⟩
  | .mgtUpdate .. => ⟨_, rfl, h.mgtUpdate⟩
  | .mgtLogRead .. => ⟨_, rfl, h.mgtLogRead⟩
  | .evtPacketSend => ⟨_, rfl, h.evtSend⟩
  | .captureExport .. => ⟨_, rfl, h.captureExport⟩
  | .timReq .. => ⟨_, rfl, h.timReq⟩
  | .timFin .. => ⟨_, rfl, h.timFin⟩
  | .linkDown .. => ⟨_, rfl, h.upon (·.linkDown)⟩
  | .linkDownTimeout => ⟨_, rfl, h.linkTimeout⟩
  | .linkUp => ⟨_, rfl, h.linkUp⟩
  | .burstStart => ⟨_, rfl, h.burstSend⟩
  | .burstSent => ⟨_, rfl, h.burstSent⟩
  | .agcStep .. => ⟨_, rfl, h.agcStep⟩
  | .burstDetect .. => ⟨_, rfl, h.burstDetect⟩
  | .falseDetect => ⟨_, rfl, h.falseDetect⟩
  | .rxRecord .. => ⟨_, rfl, h.sndRecord⟩
  | .soundRxqPop .. => ⟨_, rfl, h.rowTrig⟩
  | .remGo .. => ⟨_, rfl, h.rowTrig⟩
  | .xferDone => ⟨_, rfl, h.xferDone⟩
  | .anisePermit => ⟨_, rfl, h.upon (·.aniseGate)⟩
  | .bcastRetune .. => ⟨_, rfl, h.carry⟩
  | .synthLock => ⟨_, rfl, h.synthLock⟩
  | .bcastFeCalDone => ⟨_, rfl, h.feCalDone⟩
  | .rdsBlock .. => ⟨_, rfl, h.rdsBlock⟩
  | .rdsGroup .. => ⟨_, rfl, h.rdsGroup⟩
  | .afCheck .. => ⟨_, rfl, h.afCheck⟩
  | .afPiCheck .. => ⟨_, rfl, h.afPi⟩
  | .dabFrame .. => ⟨_, rfl, h.dabFrame⟩
  | .dabPacket .. => ⟨_, rfl, h.dabPacket⟩
  | .dabFollow => ⟨_, rfl, h.dabFollow⟩
  | .dabCandidateTimeout => ⟨_, rfl, h.candidateTimeout⟩
  | .timingCalGo .. => ⟨_, rfl, h.rowTrig⟩
  | .timingCalClr .. => ⟨_, rfl, h.rowTrig⟩
  | .measTimeout => ⟨_, rfl, h.aniseTimeout⟩
  | .sdqPop .. => ⟨_, rfl, h.rowTrig⟩
  | .sdqFlush .. => ⟨_, rfl, h.rowTrig⟩
  | .arm .. => ⟨_, rfl, h.rowTrig⟩
  | .disarm .. => ⟨_, rfl, h.rowTrig⟩
  | .captureSoftTrig .. => ⟨_, rfl, h.rowTrig⟩
  | .captureTrigger .. => ⟨_, rfl, h.captureTrigger⟩
  | .autoTimeout .. => ⟨_, rfl, h.autoTimeout⟩
  | .segDone .. => ⟨_, rfl, h.segDone⟩
  | .gap .. => ⟨_, rfl, h.capGap⟩
  | .rdPtrWrite .. => ⟨_, rfl, h.rowField⟩
  | .dmaDoorbell .. => ⟨_, rfl, h.rowTrig⟩
  | .dmaAbort .. => ⟨_, rfl, h.rowTrig⟩
  | .dmaDescDone .. => ⟨_, rfl, h.dmaDescDone⟩
  | .dmaPaceResume .. => ⟨_, rfl, h.dmaResume⟩
  | .targetTimeout .. => ⟨_, rfl, h.dmaTimeout⟩
  | .parallelDsp .. => ⟨_, rfl, h.coreRun⟩
  | .tfr .. => ⟨_, rfl, h.coreRun⟩
  | .add .. => ⟨_, rfl, h.coreRun⟩
  | .sub .. => ⟨_, rfl, h.coreRun⟩
  | .neg .. => ⟨_, rfl, h.coreRun⟩
  | .abs .. => ⟨_, rfl, h.coreRun⟩
  | .clr .. => ⟨_, rfl, h.coreRun⟩
  | .rnd .. => ⟨_, rfl, h.coreRun⟩
  | .sat .. => ⟨_, rfl, h.coreRun⟩
  | .asl .. => ⟨_, rfl, h.coreRun⟩
  | .asr .. => ⟨_, rfl, h.coreRun⟩
  | .addr .. => ⟨_, rfl, h.coreRun⟩
  | .subr .. => ⟨_, rfl, h.coreRun⟩
  | .cmp .. => ⟨_, rfl, h.coreRun⟩
  | .cmpr .. => ⟨_, rfl, h.coreRun⟩
  | .and .. => ⟨_, rfl, h.coreRun⟩
  | .or .. => ⟨_, rfl, h.coreRun⟩
  | .xor .. => ⟨_, rfl, h.coreRun⟩
  | .max .. => ⟨_, rfl, h.coreRun⟩
  | .min .. => ⟨_, rfl, h.coreRun⟩
  | .norm .. => ⟨_, rfl, h.coreRun⟩
  | .li .. => ⟨_, rfl, h.coreRun⟩
  | .move .. => ⟨_, rfl, h.coreRun⟩
  | .addi .. => ⟨_, rfl, h.coreRun⟩
  | .asave .. => ⟨_, rfl, h.coreRun⟩
  | .aload .. => ⟨_, rfl, h.coreRun⟩
  | .nop .. => ⟨_, rfl, h.coreRun⟩
  | .jmp .. => ⟨_, rfl, h.coreRun⟩
  | .jsr .. => ⟨_, rfl, h.coreRun⟩
  | .rts .. => ⟨_, rfl, h.coreRun⟩
  | .reti .. => ⟨_, rfl, h.coreRun⟩
  | .doLoop .. => ⟨_, rfl, h.coreRun⟩
  | .yield .. => ⟨_, rfl, h.coreRun⟩
  | .wait .. => ⟨_, rfl, h.coreRun⟩
  | .halt .. => ⟨_, rfl, h.coreRun⟩
  | .ei .. => ⟨_, rfl, h.coreRun⟩
  | .di .. => ⟨_, rfl, h.coreRun⟩
  | .interruptEntry .. => ⟨_, rfl, h.interruptEntry⟩
  | .coreFault .. => ⟨_, rfl, h.upon fun h => .ite h.coreAny h⟩
  | .ipendClear .. => ⟨_, rfl, h.ioAccess⟩
  | .mboxOut .. => ⟨_, rfl, h.ioAccess⟩
  | .tb0Read .. => ⟨_, rfl, h.ioAccess⟩
  | .tcmpArm .. => ⟨_, rfl, h.ioAccess⟩
  | .coreTimer .. => ⟨_, rfl, h.coreTimer⟩
  | .strDataRead .. => ⟨_, rfl, h.ioAccess⟩
  | .brRead .. => ⟨_, rfl, h.ioAccess⟩
  | .brWrite .. => ⟨_, rfl, h.ioAccess⟩
  | .bridgeDone .. => ⟨_, rfl, h.bridgeDone⟩
  | .semAcquire .. => ⟨_, rfl, h.ioAccess⟩
  | .semRelease .. => ⟨_, rfl, h.ioAccess⟩
  | .kernelLoad .. => ⟨_, rfl, h.loadWord⟩
  | .hitlessLoad .. => ⟨_, rfl, h.loadWord⟩
  | .loadDone .. => ⟨_, rfl, h.loadDone⟩
  | .runWrite .. => ⟨_, rfl, h.rowField⟩
  | .mboxIrq .. => ⟨_, rfl, h.rowTrig⟩
  | .swapGo .. => ⟨_, rfl, h.rowTrig⟩
  | .swapBoundary .. => ⟨_, rfl, h.swapBoundary⟩
  | .swapTimeout .. => ⟨_, rfl, h.swapTimeout⟩
  | .cacheClean .. => ⟨_, rfl, h.cacheUpset.cacheClean⟩
  | .cacheInvalidate .. => ⟨_, rfl, h.cacheDrop⟩
  | .cacheCleanInvalidate .. => ⟨_, rfl, h.cacheUpset.cacheClean.cacheDrop⟩
  | .icacheInvalidate => ⟨_, rfl, h.setMgmt⟩
  | .mtimeCompare => ⟨_, rfl, h.upon (·.setMgmt)⟩
  | .wdEnable .. => ⟨_, rfl, h.rowField⟩
  | .wdKick .. => ⟨_, rfl, h.rowTrig⟩
  | .runtimeWatchdogExpiry .. => ⟨_, rfl, h.runWatchdog⟩
  | .updOpen .. => ⟨_, rfl, h.updOp⟩
  | .updChunk .. => ⟨_, rfl, h.updOp⟩
  | .updVerify .. => ⟨_, rfl, h.updOp⟩
  | .updActivate .. => ⟨_, rfl, h.updOp⟩
  | .updConfirm .. => ⟨_, rfl, h.updOp⟩
  | .updAbort .. => ⟨_, rfl, h.updOp⟩
  | .rbAdvance .. => ⟨_, rfl, h.updOp⟩
  | .updDone .. => ⟨_, rfl, h.updEnds⟩
  | .fwLogRecord .. => ⟨_, rfl, h.rowTrig⟩
  | .logFlush => ⟨_, rfl, h.upon (·.logFlush)⟩
  | .logFlushCmd .. => ⟨_, rfl, h.rowTrig⟩
  | .logRdSeq .. => ⟨_, rfl, h.rowField⟩
  | .logFlashReadDone => ⟨_, rfl, h.rdDone⟩
  | .sumacInfo => ⟨_, rfl, h.monCommand (·.monInfo)⟩
  | .sumacRd .. => ⟨_, rfl, h.monCommand (·.monRead)⟩
  | .sumacLog .. => ⟨_, rfl, h.monCommand (·.monLog)⟩
  | .sumacChal => ⟨_, rfl, h.monCommand (·.monChal)⟩
  | .sumacElev .. => ⟨_, rfl, h.monCommand (·.monElev)⟩
  | .sumacDrop => ⟨_, rfl, h.monCommand (·.monDrop.monReply)⟩
  | .sumacStart => ⟨_, rfl, h.monCommand (·.monStart)⟩
  | .sumacWr .. => ⟨_, rfl, h.monCommand (·.monWrite)⟩
  | .sumacMode .. => ⟨_, rfl, h.monCommand (·.monMode)⟩
  | .sumacBaud .. => ⟨_, rfl, h.monCommand (·.monBaud)⟩
  | .sumacRecover => ⟨_, rfl, h.monCommand (·.monRecover)⟩
  | .sumacUpd .. => ⟨_, rfl, h.monCommand (·.monUpd)⟩
  | .monrxBreak => ⟨_, rfl, h.except (·.monDrop)⟩
  | .elevationExpiry => ⟨_, rfl, h.except (·.monDrop)⟩
  | .elevLockExpiry => ⟨_, rfl, h.except (·.setMon)⟩
  | .monitorDrop .. => ⟨_, rfl, h.rowTrig⟩
  | .progHash .. => ⟨_, rfl, h.otpOp⟩
  | .revoke .. => ⟨_, rfl, h.otpOp⟩
  | .scanPermit .. => ⟨_, rfl, h.otpOp⟩
  | .genId .. => ⟨_, rfl, h.otpOp⟩
  | .lrAdvance .. => ⟨_, rfl, h.otpOp⟩
  | .otpDone .. => ⟨_, rfl, h.otpDone⟩
  | .lrLoad .. => ⟨_, rfl, h.rowTrig⟩
  | .lrLoadDone => ⟨_, rfl, h.lrDone⟩
  | .genEph .. => ⟨_, rfl, h.keOp⟩
  | .derive .. => ⟨_, rfl, h.keOp⟩
  | .attest .. => ⟨_, rfl, h.keOp⟩
  | .keDone => ⟨_, rfl, h.keDone⟩
  | .sessionKeySwitch => ⟨_, rfl, h.keySwitch⟩
  | .rngDataRead .. => ⟨_, rfl, h.except (·.loadWait.rngRead)⟩
  | .rngFail => ⟨_, rfl, h.rngFail⟩
  | .dbgChal .. => ⟨_, rfl, h.rowTrig⟩
  | .dbgUnlock .. => ⟨_, rfl, h.rowTrig⟩
  | .clearDone => ⟨_, rfl, h.clearDone⟩
  | .scrubVisit .. => ⟨_, rfl, h.scrubVisit⟩
  | .fuseProgram .. => ⟨_, rfl, h.fuseOp⟩
  | .fuseCancel .. => ⟨_, rfl, h.fuseOp⟩
  | .fuseDone .. => ⟨_, rfl, h.fuseDone⟩
  | .bistGo .. => ⟨_, rfl, h.carry⟩
  | .bistAbort .. => ⟨_, rfl, h.rowTrig⟩
  | .bistDone .. => ⟨_, rfl, h.bistDone⟩
  | .bistResPop .. => ⟨_, rfl, h.rowTrig⟩
  | .hkadcGo .. => ⟨_, rfl, h.carry⟩
  | .hkadcSchedule => ⟨_, rfl, h.hkSchedule⟩
  | .hkadcCmpHit .. => ⟨_, rfl, h.cmpHit⟩
  | .hkadcConversionDone .. => ⟨_, rfl, h.conversion⟩
  | .hkadcCalibration .. => ⟨_, rfl, h.hkCalibrate⟩
  | .hkadcQPop .. => ⟨_, rfl, h.rowTrig⟩
  | .slackWindowEnd .. => ⟨_, rfl, h.slackEnd⟩
  | .pmTelemetry .. => ⟨_, rfl, h.telemetry⟩
  | .pmAlert .. => ⟨_, rfl, h.pmAlert⟩
  | .pmVoutCheck .. => ⟨_, rfl, h.voutCheck⟩
  | .retireGraceExpiry .. => ⟨_, rfl, h.hwRetire⟩
  | .rxRetireWrite .. => ⟨_, rfl, h.rowField⟩
  | .lifeDayClose => ⟨_, rfl, h.dayClose⟩
  | .gpioEdge .. => ⟨_, rfl, h.gpioEdge⟩
  | .timMeasLapse => ⟨_, rfl, h.selectSource⟩
  | .cuminMeasLapse => ⟨_, rfl, h.selectSource⟩
  | .timRsp .. => ⟨_, rfl, h.timRsp⟩
  | .markerWindowEnd => ⟨_, rfl, h.windowJudge⟩
  | .dabSyncLoss => ⟨_, rfl, h.upon (·.aniseSyncLoss)⟩
  | .dsckPresent .. => ⟨_, rfl, h.dsckPresent⟩
  | .startLockTimeout => ⟨_, rfl, h.lockTimeout⟩

/-! ### `Step` -/

theorem step (h : s.Sound) : ∃ t, step s = .next t ∧ t.Sound := by
  unfold Machine.step
  split
  · exact ⟨_, rfl, h.idle⟩
  · exact exec { h with }

end State.Sound

/-- Settles O58: every function a step is built of keeps the state sound. -/
theorem stepKeepsSound : Obligations.StepKeepsSound := by
  unfold Obligations.StepKeepsSound
  intro s t h e
  obtain ⟨u, eu, hu⟩ := h.step
  obtain rfl : u = t := by simpa [eu] using e
  exact hu

end Sys2Proof.Machine
end

section
/-! PROOFS. The mode machine (O3). The statement fails at a state that no run reaches: MODE is a field of 3 bits, but a `State`
can hold any number under it, and MODE_REQ, written back to MODE by a refused request, is cut to its width. -/

namespace Sys2Proof.Machine

/-- The reset state with no transition in progress and 9 stored under MODE. -/
def modeNine : State := { State.reset with regs := [(DEVICE.MODE.key, 9)], trans := none }

theorem modeNine_accepts : modeNine.accepts .mgmt DEVICE.MODE_REQ 0 = true := by decide +kernel

/-- On the tick on which MODE_REQ = 0 takes effect MODE still reads 9, and the request is refused with cause 1 (R17). -/
theorem modeNine_ripe :
    (modeNine.ripe .mgmt DEVICE.MODE_REQ).trans = none ∧ (modeNine.ripe .mgmt DEVICE.MODE_REQ).modes.expired = none ∧
      (modeNine.ripe .mgmt DEVICE.MODE_REQ).mode = 9 ∧
      ((modeNine.ripe .mgmt DEVICE.MODE_REQ).set DEVICE.MODE_REQ 0).modeRefusal .mgmt (trunc 3 0) = 1 := by decide +kernel

theorem modeNine_request : (modeNine.rowField .mgmt 0 DEVICE.MODE_REQ 0).get DEVICE.MODE_REQ = 1 := by decide +kernel

/-- Refutes O3: in `modeNine` a refused request of M0 leaves MODE_REQ = 9 mod 8 = 1, not the 9 that MODE reads. -/
theorem not_modesAndStarts : ¬ Obligations.ModesAndStarts := by
  unfold Obligations.ModesAndStarts
  intro ⟨_, refused, _⟩
  obtain ⟨htrans, hexp, hmode, hcause⟩ := modeNine_ripe
  obtain ⟨t, ht, hreq, _⟩ := refused modeNine .mgmt 0 0 modeNine_accepts htrans hexp (by rw [hmode]; decide)
    (by rw [hcause]; decide)
  obtain rfl : modeNine.rowField .mgmt 0 DEVICE.MODE_REQ 0 = t := by simpa [execModeReqWrite] using ht
  rw [modeNine_request, hmode] at hreq
  exact absurd hreq (by decide)

end Sys2Proof.Machine
end

section
/-! PROOFS. Bits and events: what setting and clearing a bit, and raising an event, keep. -/

namespace Sys2Proof.Machine

variable {s : State}

/-! ### Bits -/

/-- The bits from `i + 1` on do not see a bit `i` that is set from 0. -/
theorem bitOf_add_two_pow_above {v i j : Nat} (hi : bitOf v i = false) (hj : i < j) : bitOf (v + 2 ^ i) j = bitOf v j := by
  have hq : (v + 2 ^ i) / 2 ^ (i + 1) = v / 2 ^ (i + 1) := by
    have hv : v / 2 ^ i % 2 = 0 := by
      simp only [bitOf, bits, pow_one, beq_eq_false_iff_ne] at hi
      omega
    rw [pow_succ, ← Nat.div_div_eq_div_mul, ← Nat.div_div_eq_div_mul, Nat.add_div_right _ (Nat.two_pow_pos i)]
    omega
  obtain ⟨k, rfl⟩ := Nat.exists_eq_add_of_lt hj
  simp only [bitOf, bits, Nat.add_right_comm i k 1, pow_add 2 (i + 1) k, ← Nat.div_div_eq_div_mul, hq]

/-- Setting a bit keeps every bit that is set. -/
theorem bitOf_setBit_of {v i j : Nat} (h : bitOf v j = true) : bitOf (setBit v i) j = true := by
  unfold setBit
  split
  · exact h
  next hi =>
    rcases Nat.lt_trichotomy i j with hij | rfl | hij
    · rw [bitOf_add_two_pow_above (by simpa using hi) hij, h]
    · exact absurd h hi
    · simp only [bitOf, bits, ← Nat.testBit_eq_decide_div_mod_eq, beq_eq_decide, pow_one] at h ⊢
      rwa [Nat.add_comm, Nat.testBit_two_pow_add_gt hij]

theorem bitOf_clearBit {v b : Nat} : bitOf (clearBit v b) b = false := by
  unfold clearBit
  split
  next h =>
    simp only [bitOf, bits, beq_iff_eq, pow_one, beq_eq_false_iff_ne] at h ⊢
    have hp := Nat.two_pow_pos b
    have hle : 2 ^ b ≤ v := by
      by_contra hlt
      rw [Nat.div_eq_of_lt (by omega)] at h
      omega
    have := Nat.add_div_right (v - 2 ^ b) hp
    rw [Nat.sub_add_cancel hle] at this
    omega
  next h => simpa using h

/-! ### Fields and events -/

theorem get_set (s : State) (l m : Loc) (v : Nat) :
    (s.set l v).get m = if m.key = l.key then trunc l.wid v ^^^ l.rst ^^^ m.rst else s.get m := by
  split
  next h => simp only [State.get, State.set, Store.look_put, h, if_true]
  next h => exact get_set_other s v h

/-- A fold that gives `l` the value `v` at `n`, and keeps it there at every step, leaves it so. -/
theorem foldl_get {f : State → Nat → State} {l : Loc} {ns : List Nat} {n v : Nat} (hn : n ∈ ns) (hs : ∀ u : State, (f u n).get l = v)
    (hk : ∀ (u : State), ∀ m ∈ ns, u.get l = v → (f u m).get l = v) : (ns.foldl f s).get l = v := by
  induction ns generalizing s with
  | nil => exact absurd hn List.not_mem_nil
  | cons m ns ih =>
    have hk' : ∀ (u : State), ∀ i ∈ ns, u.get l = v → (f u i).get l = v := fun u i hi => hk u i (List.mem_cons_of_mem _ hi)
    by_cases hmem : n ∈ ns
    · exact ih hmem hk'
    · obtain rfl : n = m := (List.mem_cons.1 hn).resolve_right hmem
      exact List.foldlRecOn (motive := fun u : State => u.get l = v) ns f (hs s) fun u hu i hi => hk' u i hi hu

theorem raise_other {pg b : Nat} {l : Loc} (h : l.key ≠ (HDR.EVT pg).key) (h' : l.key ≠ ERL1.EVT_LOST_CNT.key) :
    (s.raise pg b).get l = s.get l :=
  (SameRegs.refl s).raise (fun _ hk => hk) l (by simp [evKeys, h, h'])

/-- The state without what events change: registers, and what carries events. -/
def State.eventless (s : State) : State := { s with regs := [], evtQ := [], evtNow := [], evtAt := [], cores := [] }

theorem queueEvt_eventless (s : State) (p : EvtPkt) : (s.queueEvt p).eventless = s.eventless := by
  unfold State.queueEvt
  repeat' split
  all_goals rfl

theorem deliver_eventless (s : State) (pg b : Nat) : (s.deliver pg b).eventless = s.eventless := by
  unfold State.deliver
  extract_lets s'
  have h : s'.eventless = s.eventless := by
    show State.eventless (if _ then _ else _) = _
    split <;> rfl
  split
  · rw [queueEvt_eventless, h]
  · exact h

/-- An event changes registers and what carries events, and nothing else of a state. -/
theorem raise_eventless (s : State) (pg b : Nat) : (s.raise pg b).eventless = s.eventless := by
  unfold State.raise
  extract_lets s' old s2 s3
  split
  · rfl
  · split
    · exact deliver_eventless s3 pg b
    · rfl

@[simp] theorem raise_mem (s : State) (pg b : Nat) : (s.raise pg b).mem = s.mem :=
  (congrArg State.mem (raise_eventless s pg b) :)

/-- An event clears no event of any page. -/
theorem raise_keeps_evt {s : State} {pg b q j : Nat} (hj : j < 32) (h : bitOf (s.get (HDR.EVT q)) j = true) :
    bitOf ((s.raise pg b).get (HDR.EVT q)) j = true := by
  unfold State.raise
  extract_lets s' old s2 s3
  split
  · exact h
  · have h3 : bitOf (s3.get (HDR.EVT q)) j = true := by
      show bitOf ((s'.set (HDR.EVT pg) (setBit old b)).get (HDR.EVT q)) j = true
      by_cases hpg : q = pg
      · subst hpg
        rw [get_set_same]
        exact (bitOf_trunc hj).trans (bitOf_setBit_of h)
      · rw [get_set_other _ _ (Loc.key_ne_of_page (show 12 < 4096 by decide) (show 0 < 32 by decide) (show 12 < 4096 by decide)
          (show 0 < 32 by decide) hpg)]
        exact h
    split
    · have hd : SameRegs [ERL1.EVT_LOST_CNT.key] s3 (s3.deliver pg b) := (SameRegs.refl s3).deliver (by simp)
      rw [hd (HDR.EVT q) (by simpa using evt_ne_lost q)]
      exact h3
    · exact h3

end Sys2Proof.Machine
end

section
/-! PROOFS. Lanes and forwarded clocks (O21). Block lock and the eye monitor set a few fields and raise their events; the frame of
registers of each follows the order of its updates. -/

namespace Sys2Proof.Machine

variable {s t : State} {ks : List Nat} {n : Nat}

/-- A lane that gains or loses block lock: its own bit, and its bit in the mask of the link page. -/
theorem SameRegs.setLock (h : SameRegs ks s t) {v : Nat} (hl : (DS.BLOCK_LOCK n).key ∈ ks) (hm : LINK.DS_BLOCK_LOCK.key ∈ ks) :
    SameRegs ks s (t.setLock n v) := (h.set hl).set hm

theorem lock_ne_mask (n : Nat) : (DS.BLOCK_LOCK n).key ≠ LINK.DS_BLOCK_LOCK.key := by
  simp only [Loc.key, DS.BLOCK_LOCK, LINK.DS_BLOCK_LOCK]; omega

theorem setLock_lock (s : State) (n v : Nat) : (s.setLock n v).get (DS.BLOCK_LOCK n) = trunc 1 v := by
  rw [State.setLock, get_set_other _ _ (lock_ne_mask n), get_set_same]
  rfl

theorem setLock_mask (s : State) {n : Nat} (v : Nat) (hn : n < 16) :
    bitOf ((s.setLock n v).get LINK.DS_BLOCK_LOCK) n = decide (v = 1) := by
  rw [State.setLock, get_set_same, bitOf_trunc (by exact hn)]
  split
  next h => simpa [h] using bitOf_setBit
  next h => simpa [h] using bitOf_clearBit

/-! ### Gain and loss of block lock -/

theorem blockLock_eq (hd : s.act (dsPage n) = true) (hc : s.act (ckPage (n / 8)) = true) (hr : s.on LPLL.READY = true)
    (hp : s.lanePwr true ≤ 1) (hl : s.on (DS.BLOCK_LOCK n) = false) :
    s.blockLock n = ((s.set (CK.CLK_PRESENT (n / 8)) 1).setLock n 1).raise (dsPage n) EV.DS.BLOCK_LOCK := by
  simp [State.blockLock, hd, hc, hr, hp, hl]

theorem blockLoss_locked (hd : s.act (dsPage n) = true) (ha : s.awake true = true) (hl : s.on (DS.BLOCK_LOCK n) = true)
    (hc : s.on (DS.CHK_EN n) = true) :
    s.blockLoss n = ((s.setLock n 0).raise (dsPage n) EV.DS.BLOCK_LOSS).raise 0x0B0 EV.LINK.BLOCK_LOSS := by
  have ha' : (s.setLock n 0).awake true = true := by
    have hk : TIMELINE0.DS_STATE.key ∉ [(DS.BLOCK_LOCK n).key, LINK.DS_BLOCK_LOCK.key] := by
      simp only [Loc.key, DS.BLOCK_LOCK, LINK.DS_BLOCK_LOCK, TIMELINE0.DS_STATE, List.mem_cons, List.not_mem_nil, or_false, not_or]
      omega
    have hg := (SameRegs.refl s).setLock (v := 0) (n := n) (List.mem_cons_self ..) (List.mem_cons_of_mem _ (List.mem_cons_self ..)) _ hk
    simpa [State.awake, State.lanePwr, hg] using ha
  simp [State.blockLoss, State.laneLoss, hd, ha, hl, hc, ha']

theorem blockLoss_unlocked (hd : s.act (dsPage n) = true) (ha : s.awake true = true) (hl : s.on (DS.BLOCK_LOCK n) = false)
    (hc : s.on (DS.CHK_EN n) = false) : s.blockLoss n = s.count (DS.HDR_ERR_CNT n) 16 := by
  have hk : (DS.BLOCK_LOCK n).key ≠ (DS.HDR_ERR_CNT n).key := by
    simp only [Loc.key, DS.BLOCK_LOCK, DS.HDR_ERR_CNT]; omega
  have hl' : (s.count (DS.HDR_ERR_CNT n) 16).on (DS.BLOCK_LOCK n) = false := by
    simpa only [State.on, count_other s 16 hk] using hl
  simp [State.blockLoss, State.laneLoss, hd, ha, hc, hl']

theorem exec_blockLock_gain (hn : n < 16) (hd : s.act (dsPage n) = true) (hc : s.act (ckPage (n / 8)) = true)
    (hr : s.on LPLL.READY = true) (hp : s.lanePwr true ≤ 1) (hl : s.on (DS.BLOCK_LOCK n) = false) :
    let t := ((s.set (CK.CLK_PRESENT (n / 8)) 1).setLock n 1).raise (dsPage n) EV.DS.BLOCK_LOCK
    exec (.blockLock n) s = .next t ∧ t.get (DS.BLOCK_LOCK n) = 1 ∧ bitOf (t.get LINK.DS_BLOCK_LOCK) n = true ∧
      t.get (CK.CLK_PRESENT (n / 8)) = 1 ∧ bitOf (t.get (HDR.EVT (dsPage n))) EV.DS.BLOCK_LOCK = true ∧ t.mem = s.mem ∧
      SameRegs ([(DS.BLOCK_LOCK n).key, LINK.DS_BLOCK_LOCK.key, (CK.CLK_PRESENT (n / 8)).key] ++ evKeys (dsPage n)) s t := by
  have hk : ∀ l ∈ [DS.BLOCK_LOCK n, LINK.DS_BLOCK_LOCK, CK.CLK_PRESENT (n / 8)],
      l.key ≠ (HDR.EVT (dsPage n)).key ∧ l.key ≠ ERL1.EVT_LOST_CNT.key := by
    simp only [Loc.key, DS.BLOCK_LOCK, LINK.DS_BLOCK_LOCK, CK.CLK_PRESENT, HDR.EVT, ERL1.EVT_LOST_CNT, dsPage, List.forall_mem_cons,
      List.not_mem_nil, IsEmpty.forall_iff, implies_true, and_true]
    omega
  have hg : ∀ l ∈ [DS.BLOCK_LOCK n, LINK.DS_BLOCK_LOCK, CK.CLK_PRESENT (n / 8)], ∀ u : State,
      (u.raise (dsPage n) EV.DS.BLOCK_LOCK).get l = u.get l := fun l hl u => raise_other (hk l hl).1 (hk l hl).2
  refine ⟨by rw [exec_blockLock, execBlockLock, blockLock_eq hd hc hr hp hl], ?_, ?_, ?_, raise_sets _ _ (by decide), by simp [State.setLock],
    (((SameRegs.refl s).set (by simp)).setLock (by simp) (by simp)).raise (by simp +contextual)⟩
  · rw [hg _ (by simp), setLock_lock]
    rfl
  · rw [hg _ (by simp), setLock_mask _ _ hn]
    rfl
  · have hp : (CK.CLK_PRESENT (n / 8)).key ≠ (DS.BLOCK_LOCK n).key ∧ (CK.CLK_PRESENT (n / 8)).key ≠ LINK.DS_BLOCK_LOCK.key := by
      simp only [Loc.key, DS.BLOCK_LOCK, LINK.DS_BLOCK_LOCK, CK.CLK_PRESENT]
      omega
    rw [hg _ (by simp), State.setLock, get_set_other _ _ hp.2, get_set_other _ _ hp.1, get_set_same]
    rfl

theorem exec_blockLoss_lock (hn : n < 16) (hd : s.act (dsPage n) = true) (ha : s.awake true = true)
    (hl : s.on (DS.BLOCK_LOCK n) = true) (hc : s.on (DS.CHK_EN n) = true) :
    let t := ((s.setLock n 0).raise (dsPage n) EV.DS.BLOCK_LOSS).raise 0x0B0 EV.LINK.BLOCK_LOSS
    exec (.blockLoss n) s = .next t ∧ t.get (DS.BLOCK_LOCK n) = 0 ∧ bitOf (t.get LINK.DS_BLOCK_LOCK) n = false ∧
      bitOf (t.get (HDR.EVT (dsPage n))) EV.DS.BLOCK_LOSS = true ∧ bitOf (t.get (HDR.EVT 0x0B0)) EV.LINK.BLOCK_LOSS = true ∧
      t.mem = s.mem ∧ SameRegs ([(DS.BLOCK_LOCK n).key, LINK.DS_BLOCK_LOCK.key] ++ evKeys (dsPage n) ++ evKeys 0x0B0) s t := by
  have hk : ∀ l ∈ [DS.BLOCK_LOCK n, LINK.DS_BLOCK_LOCK], ∀ q ∈ [dsPage n, 0x0B0],
      l.key ≠ (HDR.EVT q).key ∧ l.key ≠ ERL1.EVT_LOST_CNT.key := by
    simp only [Loc.key, DS.BLOCK_LOCK, LINK.DS_BLOCK_LOCK, HDR.EVT, ERL1.EVT_LOST_CNT, dsPage, List.forall_mem_cons,
      List.not_mem_nil, IsEmpty.forall_iff, implies_true, and_true]
    omega
  have hg : ∀ l ∈ [DS.BLOCK_LOCK n, LINK.DS_BLOCK_LOCK], ∀ u : State,
      ((u.raise (dsPage n) EV.DS.BLOCK_LOSS).raise 0x0B0 EV.LINK.BLOCK_LOSS).get l = u.get l := fun l hl u => by
    obtain ⟨h1, h2⟩ := hk l hl (dsPage n) (by simp)
    rw [raise_other (hk l hl 0x0B0 (by simp)).1 h2, raise_other h1 h2]
  refine ⟨by rw [exec_blockLoss, execBlockLoss, blockLoss_locked hd ha hl hc], ?_, ?_,
    raise_keeps_evt (by decide) (raise_sets _ _ (by decide)), raise_sets _ _ (by decide), by simp [State.setLock],
    (((SameRegs.refl s).setLock (by simp) (by simp)).raise (by simp +contextual)).raise (by simp +contextual)⟩
  · rw [hg _ (by simp), setLock_lock]
    rfl
  · rw [hg _ (by simp), setLock_mask _ _ hn]
    rfl

/-! ### The eye monitor -/

/-- The fields of the eye of lane `n`. -/
def eyeKeys (n : Nat) : List Nat := [(DS.EYE_LEFT n).key, (DS.EYE_RIGHT n).key, (DS.EYE_MARGIN n).key, (DS.EYE_MIN_SEEN n).key]

/-- The readings of the eye of lane `n`: left `a`, right `b`, their margin, and the least margin seen. -/
def State.eyeRead (s : State) (n a b : Nat) : State :=
  let m := min 255 (a + b)
  let s := ((s.set (DS.EYE_LEFT n) a).set (DS.EYE_RIGHT n) b).set (DS.EYE_MARGIN n) m
  s.set (DS.EYE_MIN_SEEN n) (min m (s.get (DS.EYE_MIN_SEEN n)))

/-- Below EYE_MIN, EYE_LOW is raised on the lane's page and on the page of the link. -/
def State.eyeNote (s : State) (n a b : Nat) : State :=
  if min 255 (a + b) < (s.eyeRead n a b).get LINK.EYE_MIN then
    ((s.eyeRead n a b).raise (dsPage n) EV.DS.EYE_LOW).raise 0x0B0 EV.LINK.EYE_LOW
  else s.eyeRead n a b

theorem SameRegs.eyeRead (h : SameRegs ks s t) {a b : Nat} (hk : ∀ k ∈ eyeKeys n, k ∈ ks) : SameRegs ks s (t.eyeRead n a b) := by
  have hl : (DS.EYE_LEFT n).key ∈ ks := hk _ (by simp [eyeKeys])
  have hr : (DS.EYE_RIGHT n).key ∈ ks := hk _ (by simp [eyeKeys])
  have hm : (DS.EYE_MARGIN n).key ∈ ks := hk _ (by simp [eyeKeys])
  have hs : (DS.EYE_MIN_SEEN n).key ∈ ks := hk _ (by simp [eyeKeys])
  exact (((h.set hl).set hr).set hm).set hs

theorem eyeRead_fields (s : State) (n : Nat) {a b : Nat} (ha : a < 256) (hb : b < 256) :
    (s.eyeRead n a b).get (DS.EYE_LEFT n) = a ∧ (s.eyeRead n a b).get (DS.EYE_RIGHT n) = b ∧
      (s.eyeRead n a b).get (DS.EYE_MARGIN n) = min 255 (a + b) ∧
      (s.eyeRead n a b).get (DS.EYE_MIN_SEEN n) = min (min 255 (a + b)) (s.get (DS.EYE_MIN_SEEN n)) := by
  have ht : ∀ {v}, v < 256 → trunc 8 v = v := fun hv => trunc_of_lt hv
  simp only [State.eyeRead, get_set, Loc.key, DS.EYE_LEFT, DS.EYE_RIGHT, DS.EYE_MARGIN, DS.EYE_MIN_SEEN]
  simp [ht, ha, hb]

theorem eyeRead_eyeMin (hn : n < 16) (a b : Nat) : (s.eyeRead n a b).get LINK.EYE_MIN = s.get LINK.EYE_MIN := by
  refine (SameRegs.refl s).eyeRead (ks := eyeKeys n) (fun _ hk => hk) _ ?_
  simp only [eyeKeys, Loc.key, DS.EYE_LEFT, DS.EYE_RIGHT, DS.EYE_MARGIN, DS.EYE_MIN_SEEN, LINK.EYE_MIN, List.mem_cons,
    List.not_mem_nil, or_false, not_or]
  omega

theorem SameRegs.eyeNote {a b : Nat} : SameRegs (eyeKeys n ++ evKeys (dsPage n) ++ evKeys 0x0B0) s (s.eyeNote n a b) := by
  have hr : SameRegs (eyeKeys n ++ evKeys (dsPage n) ++ evKeys 0x0B0) s (s.eyeRead n a b) :=
    (SameRegs.refl s).eyeRead (by simp +contextual)
  unfold State.eyeNote
  split
  · exact (hr.raise (by simp +contextual)).raise (by simp +contextual)
  · exact hr

/-- With tracking off a publication only notes its readings. -/
theorem eyePublish_eq {a b : Nat} (hd : s.act (dsPage n) = true) (ha : s.awake true = true) (ht : s.tb % 2 ^ 20 = 0)
    (he : s.on (DS.TRACK_EN n) = false) : s.eyePublish n a b = s.eyeNote n a b := by
  have hg : (s.eyeNote n a b).get (DS.TRACK_EN n) = s.get (DS.TRACK_EN n) := SameRegs.eyeNote _ (by
    simp only [eyeKeys, evKeys, Loc.key, DS.EYE_LEFT, DS.EYE_RIGHT, DS.EYE_MARGIN, DS.EYE_MIN_SEEN, DS.TRACK_EN, HDR.EVT, dsPage,
      ERL1.EVT_LOST_CNT, List.cons_append, List.nil_append, List.mem_cons, List.not_mem_nil, or_false, not_or]
    omega)
  have hoff : (s.eyeNote n a b).on (DS.TRACK_EN n) = false := by rw [State.on, hg]; exact he
  unfold State.eyePublish
  rw [if_pos (by rw [hd, ha, ht]; rfl)]
  show (if ((s.eyeNote n a b).on (DS.TRACK_EN n) && _) = true then _ else s.eyeNote n a b) = _
  rw [hoff]
  rfl

/-! ### BITSLIP -/

theorem trigAct_low {c : Cls} {l : Loc} {data at_ : Nat} (he : l ≠ HDR.EVT l.page) (ha : l.acc ≠ .w1c) (ho : 0x02C ≤ l.off)
    (hp : l.page < 0x0E0) : s.trigAct c l data at_ = s.lowTrigger l data := by
  simp [State.trigAct, he, ha, Nat.not_lt.2 ho, hp]

theorem trigAct_bitslip (hn : n < 16) (c : Cls) (data at_ : Nat) : s.trigAct c (DS.BITSLIP n) data at_ = s.bitslip n := by
  rw [trigAct_low (by simp [DS.BITSLIP, HDR.EVT]) (by simp [DS.BITSLIP]) (by simp [DS.BITSLIP]) (by simp [DS.BITSLIP]; omega)]
  have hne : ∀ m : Loc, m.page < 0x0B8 → DS.BITSLIP n ≠ m := fun m hm e => by
    rw [← e] at hm
    simp only [DS.BITSLIP] at hm
    omega
  have hp : (DS.BITSLIP n).page = 0x0B8 + n := rfl
  unfold State.lowTrigger
  dsimp only
  iterate 10 rw [if_neg (hne _ (by decide))]
  rw [hp, if_neg (by simp only [isRxPage, decide_eq_true_eq]; omega), if_neg (hne _ (by decide)), if_neg (by omega),
    if_neg (by omega), if_neg (by omega), if_neg (hne _ (by decide)), if_neg (hne _ (by decide)), if_pos (by omega),
    Nat.add_sub_cancel_left, if_pos rfl]

theorem rowTrig_bitslip {c : Cls} (hn : n < 16) (h : s.triggered c (DS.BITSLIP n) = true) :
    s.rowTrig c (DS.BITSLIP n) = s.lands c (DS.BITSLIP n) [] [fun u => u.bitslip n] := by
  have hp : (DS.BITSLIP n).page = 0x0B8 + n := rfl
  have he : DS.BITSLIP n ≠ TIMELINE0.ENQ_CODE := fun e => by
    have := congrArg Loc.page e
    simp only [DS.BITSLIP, TIMELINE0.ENQ_CODE] at this
    omega
  rw [rowTrig_lands h rfl he (by omega)
    (by rw [trigAct_bitslip hn]; rfl) (by rw [trigAct_bitslip hn]; rfl)]
  simp only [trigAct_bitslip hn]

/-- Settles O21: with its conditions met each event takes the one branch that the rule names. -/
theorem lanes : Obligations.Lanes := by
  unfold Obligations.Lanes
  refine ⟨?_, ?_, ?_, ?_, ?_, ?_, ?_, ?_, ?_, ?_⟩
  · intro s g _ ha
    simp [State.crossSlip, execCrossSlip, ha]
  · intro s k hk _ ha hw
    simp [execClkLoss, State.clkLoss, ha, hw, Nat.not_lt.2 hk]
  · intro s k hk ha hw
    simp [execClkLoss, State.clkLoss, ha, hw, hk]
  · intro s k d hk
    simp [execDsckPresent, State.dsckPresent, hk]
  · intro s n hn hd hc hr hp hl
    exact ⟨_, exec_blockLock_gain hn hd hc hr hp hl⟩
  · intro s n hn hd ha hl hc
    exact ⟨_, exec_blockLoss_lock hn hd ha hl hc⟩
  · intro s n _ hd ha hl hc
    simp [execBlockLoss, blockLoss_unlocked hd ha hl hc]
  · intro s c n hn h
    simp only [exec_bitslip, execBitslip, rowTrig_bitslip hn h]
    rfl
  · intro s n a b hn hd ha ht hx hy he hm
    obtain ⟨hl, hr, hg, hs⟩ := eyeRead_fields s n hx hy
    refine ⟨s.eyeRead n a b, ?_, hl, hr, hg, hs, rfl, (SameRegs.refl s).eyeRead fun _ hk => hk⟩
    rw [exec_eyePublish, execEyePublish, trunc_of_lt hx, trunc_of_lt hy, eyePublish_eq hd ha ht he, State.eyeNote,
      if_neg (by rw [eyeRead_eyeMin hn]; exact Nat.not_lt.2 hm)]
  · intro s n a b hn hd ha ht hx hy he hm
    obtain ⟨-, -, hg, -⟩ := eyeRead_fields s n hx hy
    refine ⟨((s.eyeRead n a b).raise (dsPage n) EV.DS.EYE_LOW).raise 0x0B0 EV.LINK.EYE_LOW, ?_,
      raise_keeps_evt (by decide) (raise_sets _ _ (by decide)), raise_sets _ _ (by decide), ?_, by simp [State.eyeRead]⟩
    · rw [exec_eyePublish, execEyePublish, trunc_of_lt hx, trunc_of_lt hy, eyePublish_eq hd ha ht he, State.eyeNote,
        if_pos (by rw [eyeRead_eyeMin hn]; exact hm)]
    · have hk : ∀ q, 0x0B0 ≤ q → (DS.EYE_MARGIN n).key ≠ (HDR.EVT q).key := fun q _ => by
        simp only [Loc.key, DS.EYE_MARGIN, HDR.EVT]; omega
      have hk' : (DS.EYE_MARGIN n).key ≠ ERL1.EVT_LOST_CNT.key := by
        simp only [Loc.key, DS.EYE_MARGIN, ERL1.EVT_LOST_CNT]; omega
      rw [raise_other (hk _ (by decide)) hk', raise_other (hk _ (by simp [dsPage]; omega)) hk', hg]

end Sys2Proof.Machine
end

section
/-! PROOFS. A frame for the side effects of hardware: events, log records, calibration failures, gate biases and the end of a
predistorter's update touch neither the fields of `steadyFields` and `steadyTx` nor the units of `State.steadyUnits`, and clear no
event of DEVICE. As for `State.Sound`, the proof of `State.Steady.f` is the body of `State.f` with the frame `h` in the place of
the state. -/

namespace Sys2Proof.Machine

/-- The fields that the frame keeps on single pages: what modes, the halt and transmit retirement show in DEVICE, the
straps and RUNNING, EN of the CPLL and the LPLL, and the mute of CALTX. -/
def steadyFields : List Loc :=
  [DEVICE.MODE, DEVICE.TRANS, DEVICE.HALT, DEVICE.BOOT_OK_SEEN, DEVICE.RETIRED_TX_LO, DEVICE.RETIRED_TX_HI, HDR.EN 0x004,
    HDR.EN 0x007, MGMT.BOOTSEL, MGMT.RUNNING, CAL0.TX_MUTE, CAL0.CAUSE_KILL, CAL0.KILL_PIN]

/-- The fields that it keeps on the page of transmit path `n`. -/
def steadyTx (n : Nat) : List Loc :=
  [TXPATH.TX_MUTE n, TXPATH.CAUSE_KILL n, TXPATH.KILL_PIN n, TXPATH.CMPL_MUTE n, TXPATH.RETIRE n]

/-- The number is that of a field that the frame keeps. -/
def steadyKey (k : Nat) : Bool :=
  (steadyFields.map Loc.key).contains k ||
    isTxPage (keyPage k) && ((steadyTx 0).map (fun l => l.key % 32768)).contains (k % 32768)

/-- The number is that of a field outside the frame: neither one that it keeps nor EVT of DEVICE. -/
def looseKey (k : Nat) : Bool := !steadyKey k && k != (HDR.EVT 0x000).key

theorem looseKey_iff {k : Nat} : looseKey k = true ↔ steadyKey k = false ∧ k ≠ (HDR.EVT 0x000).key := by
  simp [looseKey]

theorem keyPage_key {l : Loc} (ho : l.off < 4096) (hl : l.lo < 32) : keyPage l.key = l.page := by
  unfold keyPage Loc.key; omega

theorem key_mod_page {l : Loc} (ho : l.off < 4096) (hl : l.lo < 32) : l.key % 32768 = l.off / 4 * 32 + l.lo := by
  unfold Loc.key; omega

theorem steadyFields_range :
    ∀ l ∈ steadyFields, l.off < 4096 ∧ l.lo < 32 ∧ l.page ∈ [0x000, 0x004, 0x007, 0x0AC, 0x110] := by
  decide

/-- A field of a page that has none of the frame's. -/
theorem looseKey_page {l : Loc} (hp : l.page ∉ [0x000, 0x004, 0x007, 0x0AC, 0x110]) (ht : isTxPage l.page = false)
    (ho : l.off < 4096) (hl : l.lo < 32) : looseKey l.key = true := by
  refine looseKey_iff.2 ⟨?_, Loc.key_ne_of_page ho hl (by decide) (by decide) fun e => hp (e ▸ List.mem_cons_self ..)⟩
  simp only [steadyKey, keyPage_key ho hl, ht, Bool.false_and, Bool.or_false, List.contains_eq_mem, decide_eq_false_iff_not,
    List.mem_map, not_exists, not_and]
  intro m hm' e
  obtain ⟨hmo, hml, hmp⟩ := steadyFields_range m hm'
  exact Loc.key_ne_of_page hmo hml ho hl (fun e' => hp (e' ▸ hmp)) e

/-- The places in their pages, word and lowest bit, of the fields that the frame keeps. -/
def steadyPlaces : List Nat := (steadyFields ++ steadyTx 0).map (fun l => l.key % 32768)

theorem steadyKey_place {k : Nat} (h : k % 32768 ∉ steadyPlaces) : steadyKey k = false := by
  simp only [steadyPlaces, List.map_append, List.mem_append, not_or] at h
  obtain ⟨hf, ht⟩ := h
  simp only [steadyKey, Bool.or_eq_false_iff, List.contains_eq_mem, decide_eq_false_iff_not]
  refine ⟨fun hk => hf ?_, by simp [ht]⟩
  obtain ⟨l, hl, rfl⟩ := List.mem_map.1 hk
  exact List.mem_map.2 ⟨l, hl, rfl⟩

/-- A field at a place in its page where no field of the frame stands, whatever the page. -/
theorem looseKey_place {k : Nat} (h : k % 32768 ∉ (HDR.EVT 0x000).key % 32768 :: steadyPlaces) : looseKey k = true := by
  rw [List.mem_cons, not_or] at h
  exact looseKey_iff.2 ⟨steadyKey_place h.2, fun e => h.1 (e ▸ rfl)⟩

/-- A field beyond the pages of the frame. -/
theorem looseKey_above {k : Nat} (h : 0x111 * 32768 ≤ k) : looseKey k = true := by
  have hmax : ∀ l ∈ HDR.EVT 0x000 :: steadyFields, l.key < 0x111 * 32768 := by decide
  have hne : ∀ l ∈ HDR.EVT 0x000 :: steadyFields, l.key ≠ k := fun l hl e => by have := hmax l hl; omega
  have hp : isTxPage (keyPage k) = false := decide_eq_false (by unfold keyPage; omega)
  refine looseKey_iff.2 ⟨?_, (hne _ (List.mem_cons_self ..)).symm⟩
  simp only [steadyKey, hp, Bool.false_and, Bool.or_false, List.contains_eq_mem, decide_eq_false_iff_not, List.mem_map, not_exists,
    not_and]
  exact fun l hl => hne l (List.mem_cons_of_mem _ hl)

/-! ### The relation -/

/-- The units that no event, log record, calibration failure or gate bias touches. -/
def State.steadyUnits (s : State) : List WordSt × List (Nat × Answer) × Option Transit × ModeSt × PowerSt × OtpSt ×
    List Host.Cell × Nat × Bool × Nat × Bool :=
  (s.words, s.acks, s.trans, s.modes, s.pwr, s.otp, s.mem, s.tb, s.tbRun, s.ao, s.mgmtDown)

/-- From `s` to `t` the fields of the frame keep their values, no event of DEVICE is cleared, and the units of `steadyUnits` are
the same. -/
structure State.Steady (s t : State) : Prop where
  regs : ∀ l : Loc, steadyKey l.key = true → t.get l = s.get l
  evt : ∀ b < 32, bitOf (s.get (HDR.EVT 0x000)) b = true → bitOf (t.get (HDR.EVT 0x000)) b = true
  units : t.steadyUnits = s.steadyUnits

namespace State.Steady

variable {s t u : State}

theorem refl (s : State) : s.Steady s := ⟨fun _ _ => rfl, fun _ _ h => h, rfl⟩

theorem trans (h : s.Steady t) (h' : t.Steady u) : s.Steady u :=
  ⟨fun l hl => (h'.regs l hl).trans (h.regs l hl), fun b hb he => h'.evt b hb (h.evt b hb he), h'.units.trans h.units⟩

/-- Units outside the frame change. -/
theorem other (h : s.Steady t) (e : u.regs = t.regs) (hu : u.steadyUnits = t.steadyUnits) : s.Steady u := by
  have hg : ∀ l, u.get l = t.get l := fun l => by simp only [State.get, e]
  exact ⟨fun l hl => (hg l).trans (h.regs l hl), fun b hb he => by rw [hg]; exact h.evt b hb he, hu.trans h.units⟩

/-- A change made under a condition, as `if c then u else t`. -/
theorem upon {c : Prop} {_ : Decidable c} (h : s.Steady t) (f : s.Steady t → s.Steady u) : s.Steady (if c then u else t) := by
  split
  · exact f h
  · exact h

/-- A change made unless a condition holds, as `if c then t else u`. -/
theorem except {c : Prop} {_ : Decidable c} (h : s.Steady t) (f : s.Steady t → s.Steady u) : s.Steady (if c then t else u) := by
  split
  · exact h
  · exact f h

theorem ite {c : Prop} {_ : Decidable c} (h : s.Steady t) (h' : s.Steady u) : s.Steady (if c then t else u) := by
  split
  · exact h
  · exact h'

theorem foldl {α : Type} {l : List α} {f : State → α → State} (h : s.Steady t)
    (hf : ∀ {u a}, a ∈ l → s.Steady u → s.Steady (f u a)) : s.Steady (l.foldl f t) :=
  List.foldlRecOn (motive := fun u => s.Steady u) l f h fun _ hu _ ha => hf ha hu

theorem set {l : Loc} {v : Nat} (h : s.Steady t) (hl : looseKey l.key = true := by decide) : s.Steady (t.set l v) := by
  obtain ⟨hs, he⟩ := looseKey_iff.1 hl
  refine ⟨fun m hm => ?_, fun b hb hv => ?_, h.units⟩
  · rw [get_set_other _ _ (fun e => by rw [e, hs] at hm; exact Bool.false_ne_true hm)]
    exact h.regs m hm
  · rw [get_set_other _ _ he.symm]
    exact h.evt b hb hv

/-- A field beyond the pages of the frame is set. -/
theorem setAbove {l : Loc} {v : Nat} (h : s.Steady t) (hl : Nat.ble 0x111 l.page = true := by rfl) : s.Steady (t.set l v) :=
  h.set (looseKey_above (by have := Nat.le_of_ble_eq_true hl; unfold Loc.key; omega))

theorem count {l : Loc} {k : Nat} (h : s.Steady t) (hl : looseKey l.key = true := by decide) : s.Steady (t.count l k) := h.set hl

theorem queueEvt {p} (h : s.Steady t) : s.Steady (t.queueEvt p) := by
  unfold State.queueEvt
  split
  · refine .ite (h.other rfl rfl) (.ite (h.other rfl rfl) h.count)
  · exact .ite (h.other rfl rfl) h.count

theorem steadyKey_evt (pg : Nat) : steadyKey (HDR.EVT pg).key = false := by
  refine steadyKey_place ?_
  rw [key_mod_page (show 12 < 4096 by decide) (show 0 < 32 by decide)]
  simp only [HDR.EVT]
  decide

theorem raise_units (s : State) (pg b : Nat) : (s.raise pg b).steadyUnits = s.steadyUnits :=
  (congrArg State.steadyUnits (raise_eventless s pg b) :)

theorem raise {pg b : Nat} (h : s.Steady t) : s.Steady (t.raise pg b) := by
  refine h.trans ⟨fun l hl => ?_, fun j hj hv => raise_keeps_evt hj hv, raise_units t pg b⟩
  refine (SameRegs.refl t).raise (fun k hk => hk) l fun hk => ?_
  simp only [evKeys, List.mem_cons, List.not_mem_nil, or_false] at hk
  rcases hk with e | e
  · rw [e, steadyKey_evt] at hl
    exact Bool.false_ne_true hl
  · rw [e] at hl
    exact absurd hl (by decide)


/-! ### The log -/

theorem logAs {c ty sv pg w4 w5 w6 : Nat} (h : s.Steady t) : s.Steady (t.logAs c ty sv pg w4 w5 w6) := by
  unfold State.logAs
  extract_lets lost t1 r here ill t2 t3 recs l t4
  have h1 : s.Steady t1 := h.upon fun h => h.count.raise
  have h2 : s.Steady t2 := h1.except fun h => (h.count (looseKey_above (by decide))).raise
  have h3 : s.Steady t3 := h2.other rfl rfl
  have h4 : s.Steady t4 := h3.other rfl rfl
  exact h4.set

theorem logHw {ty sv pg w4 w5 w6 : Nat} (h : s.Steady t) : s.Steady (t.logHw ty sv pg w4 w5 w6) := h.logAs

theorem logEvent {sv pg b : Nat} (h : s.Steady t) : s.Steady (t.logEvent sv pg b) := h.logHw

theorem raiseLog {sv pg b : Nat} (h : s.Steady t) : s.Steady (t.raiseLog sv pg b) := h.raise.logEvent

/-! ### Paths and calibration -/

theorem setPath {n : Nat} {f : PathSt → PathSt} (h : s.Steady t) : s.Steady (t.setPath n f) := h.other rfl rfl

theorem looseKey_candLoc (d n : Nat) : looseKey (candLoc d n).key = true := by
  unfold candLoc
  split <;> split <;> decide

theorem retireCand {d n c : Nat} (h : s.Steady t) : s.Steady (t.retireCand d n c) := by
  unfold State.retireCand
  extract_lets l t1 t2
  split
  · exact h
  · have h1 : s.Steady t1 := (h.set (looseKey_candLoc d n)).raise
    have h2 : s.Steady t2 := h1.logHw
    exact h2.other rfl rfl

theorem cmplNote {n : Nat} (h : s.Steady t) : s.Steady (t.cmplNote n) := by
  unfold State.cmplNote
  extract_lets day l cal t1 k
  have h1 : s.Steady t1 := h.other rfl rfl
  exact h1.upon retireCand

theorem calFail {reason kind p : Nat} (h : s.Steady t) : s.Steady (t.calFail reason kind p) := by
  unfold State.calFail
  extract_lets t1 t2 t3 key k cal t4
  have h3 : s.Steady t3 := h.count.raise.set.set.set.set
  have h4 : s.Steady t4 := h3.other rfl rfl
  exact h4.upon retireCand

theorem fgNext (h : s.Steady t) : s.Steady t.fgNext :=
  h.except fun h => (h.foldl fun _ h => h.except fun h => h.setPath.ite h.setPath).foldl fun _ h => h.setPath

theorem fgMap {f : Nat × Nat → Nat} (h : s.Steady t) : s.Steady (t.fgMap f) := h.other rfl rfl

theorem fgEnd {q : Nat → Bool} {m reason : Nat} (h : s.Steady t) : s.Steady (t.fgEnd q m reason) :=
  (h.foldl fun _ h => h.upon fun h => h.foldl fun _ h => h.upon calFail).fgMap.fgNext

theorem forcingChanged {d : Nat} (h : s.Steady t) (hd : d < 2) : s.Steady (t.forcingChanged d) :=
  (h.other rfl rfl : s.Steady (t.setBeam d _)).set (by interval_cases d <;> decide)

/-! ### Gate bias -/

theorem biasUnits {b : List BiasSt} (h : s.Steady t) : s.Steady { t with bias := b } := h.other rfl rfl

theorem biasNote {k : Nat} {b : Bool} (h : s.Steady t) : s.Steady (t.biasNote k b) := h.setAbove.setAbove

theorem biasSafe {k : Nat} (h : s.Steady t) : s.Steady (t.biasSafe k) := h.biasUnits.setAbove.setAbove.biasNote

theorem biasShadow {k : Nat} (h : s.Steady t) : s.Steady (t.biasShadow k) := h.setAbove.setAbove.setAbove

theorem biasEntry {k : Nat} (h : s.Steady t) : s.Steady (t.biasEntry k) := h.biasShadow.setAbove.setAbove.setAbove.biasSafe

theorem biasForce {k : Nat} (h : s.Steady t) : s.Steady (t.biasForce k) := h.setAbove.biasSafe.raise

/-! ### Predistorters -/

theorem looseKey_dpd {l : Loc} (hp : l.page = 0x0A5 ∨ l.page = 0x0A6) (ho : l.off < 4096) (hl : l.lo < 32) : looseKey l.key = true := by
  rcases hp with hp | hp <;> exact looseKey_page (by rw [hp]; decide) (by rw [hp]; rfl) ho hl

theorem capDisarm {k : Nat} (h : s.Steady t) : s.Steady (t.capDisarm k) := by
  have hk : (CP.ARMED k).key % 32768 = 1024 := by
    simp only [Loc.key, CP.ARMED]
    omega
  exact (h.set (looseKey_place (by rw [hk]; decide)) : s.Steady (t.set (CP.ARMED k) 0)).other rfl rfl

theorem dpdCapStop (h : s.Steady t) : s.Steady t.dpdCapStop := h.foldl fun _ h => h.upon capDisarm

theorem setDpdPath {p : Nat} {f : DpdPath → DpdPath} (h : s.Steady t) : s.Steady (t.setDpdPath p f) := h.other rfl rfl

theorem setDpdJob {c : Nat} {j : Option DpdJob} (h : s.Steady t) : s.Steady (t.setDpdJob c j) := h.other rfl rfl

theorem dpdNote (h : s.Steady t) : s.Steady t.dpdNote := by
  unfold State.dpdNote
  split
  · exact h.set
  · exact h

theorem dpdLap (h : s.Steady t) : s.Steady t.dpdLap := h.upon fun h => (h.set.count.raise).other rfl rfl

theorem dpdResult {p r : Nat} (h : s.Steady t) (hp : p < 64) : s.Steady (t.dpdResult p r) := by
  have hd : ∀ l : Loc, l.page = 0x0A5 → l.off = 0x040 + 4 * p → Nat.blt l.lo 32 = true → looseKey l.key = true :=
    fun l hl ho hlo => looseKey_dpd (.inl hl) (by omega) (Nat.le_of_ble_eq_true hlo)
  unfold State.dpdResult
  extract_lets t1 t2 t3 t4
  have h1 : s.Steady t1 := (h.set (hd _ rfl rfl rfl)).set (hd _ rfl rfl rfl)
  have h3 : s.Steady t3 := h1.setDpdPath.foldl fun {u c} hc h => by
    have hv : looseKey (DPD2.VALID c).key = true := by
      have := List.mem_range.1 hc
      exact looseKey_dpd (.inr rfl) (show 0x040 + 32 * c < 4096 by omega) (show 31 < 32 by decide)
    split
    · exact h.upon fun h => (h.upon fun h => h.dpdCapStop).setDpdJob.set hv
    · exact h
  have h4 : s.Steady t4 := h3.upon fun h => (h.count.set (hd _ rfl rfl rfl)).raise
  exact h4.dpdLap.dpdNote

theorem dpdAbort {p : Nat} (h : s.Steady t) (hp : p < 64) : s.Steady (t.dpdAbort p) := by
  have ht : s.Steady t → s.Steady (t.dpdToggle p) := fun h =>
    h.set (looseKey_dpd (.inl rfl) (show 0x040 + 4 * p < 4096 by omega) (show 16 < 32 by decide))
  exact h.except fun h => .ite ((ht h).dpdResult hp) (h.dpdResult hp)

theorem dpdLeave {p : Nat} (h : s.Steady t) (hp : p < 64) : s.Steady (t.dpdLeave p) := .ite (h.dpdResult hp) (h.dpdAbort hp)

/-! ### Starts: the loops, the log, the key RAM and Anise -/

theorem startSeq {pg k : Nat} (h : s.Steady t) : s.Steady (t.startSeq pg k) := by
  have hk : (HDR.TRANS pg).key % 32768 = 65 := by
    simp only [Loc.key, HDR.TRANS]
    omega
  have h1 : s.Steady { t with seqs := t.seqs.put pg k, seqAt := t.seqAt.put pg (t.ao + 1), seqMod := t.seqMod.put pg 0 } :=
    h.other rfl rfl
  exact h1.set (looseKey_place (by rw [hk]; decide))

theorem limitLo (h : s.Steady t) : s.Steady t.limitLo := h.count.raise

theorem loopStart {k : Nat} (h : s.Steady t) (hk : k = 0 ∨ k = 3) : s.Steady (t.loopStart k) := by
  have hm : s.Steady (t.loopMute k) := by
    rcases hk with rfl | rfl
    · exact h.set.set.set.set
    · exact h.set.set.set
  exact hm.other rfl rfl

theorem enableBegin {pg : Nat} (h : s.Steady t) (hp : pg = 0x004 ∨ pg = 0x007) : s.Steady (t.enableBegin pg) := by
  unfold State.enableBegin
  rw [if_neg (by omega)]
  exact h.except fun h => .ite h.limitLo (h.startSeq.upon fun h => h.loopStart (by omega))

/-- A sequence that EN = 1 starts leaves EN as written. -/
theorem enableWritten {pg : Nat} (h : s.Steady (t.set (HDR.EN pg) 1)) (hp : pg = 0x004 ∨ pg = 0x007) :
    s.Steady (t.enableWritten pg 1) := by
  unfold State.enableWritten
  extract_lets t1 t2
  have h2 : s.Steady t2 := by
    show s.Steady (if _ then _ else _)
    rw [if_neg (by omega)]
    exact h
  rw [if_neg (by omega), if_pos rfl]
  exact h2.upon fun h => h.enableBegin hp

theorem forceShut {pg : Nat} (h : s.Steady t) : s.Steady (t.forceShut pg) := .ite h.startSeq (h.upon startSeq)

theorem aniseGate (h : s.Steady t) : s.Steady t.aniseGate :=
  .ite h.set (.ite (h.set.except fun h => h.startSeq.set.set) (h.forceShut.except fun h => h.set.raise))

theorem keyRamClear (h : s.Steady t) : s.Steady t.keyRamClear := h.other rfl rfl

theorem showRef (h : s.Steady t) : s.Steady t.showRef := h.set

theorem setLog {f : LogSt → LogSt} (h : s.Steady t) : s.Steady (t.setLog f) := h.other rfl rfl

theorem logFlush (h : s.Steady t) : s.Steady t.logFlush := by
  unfold State.logFlush
  extract_lets hs t1 n t2 out bad good t3 t4
  have h2 : s.Steady t2 := h.logHw.except fun h => h.setLog.logHw
  have h4 : s.Steady t4 := h2.count.setLog
  exact h.except fun h => .ite (h.except fun h => h.setLog.raise) h4.set

end State.Steady

end Sys2Proof.Machine
end

section
/-! PROOFS. Fields of the transmit paths and of CALTX that are written: which effect `State.fieldEff` has for them, and the step
of their word (`rowField_lands`). -/

namespace Sys2Proof.Machine

variable {s : State} {c : Cls} {a n v : Nat}

@[simp] theorem credit_get (s : State) (id : Nat) (sup : Bool) (l : Loc) : (s.credit id sup).get l = s.get l :=
  (SameRegs.refl (ks := []) s).credit l (List.not_mem_nil)

/-- The state in which the one field of a word takes effect. -/
theorem lands_field (s : State) (c : Cls) (l : Loc) (f : State → State) :
    s.lands c l [f] [] = (f ((s.ripe c l).credit 1 false)).reply c [] stOK := rfl

/-- A word's one field takes effect as `f`, where it does so on the tick of the effect. -/
theorem rowField_effect {l : Loc} {f : State → State} (h : s.accepts c l v = true) (hl : Loc.arbitrated l = true)
    (hk : isPerClass l = false) (hp : 0x050 ≤ l.page ∧ l.page < 0x0AD) (hs : l.page ≠ 0x0A2 ∧ l.page ≠ 0x0A3)
    (he : ∀ u : State, u = (s.ripe c l).credit 1 false → u.fieldEff c l (trunc l.wid v) = f u ∧ (f u).acks = u.acks) :
    s.rowField c a l v = s.lands c l [f] [] := by
  obtain ⟨hf, hn⟩ := he _ rfl
  have hb : l ≠ BCAST0.STD ∧ l ≠ BCAST0.FREQ := by
    constructor <;> rintro rfl <;> exact absurd hp (by decide)
  rw [rowField_lands h hl hk hs (by omega) hb (show l.page ≠ 0x125 by omega) (by rw [hf, hn]), lands_field, lands_field, hf]

theorem isPerClass_txPage {l : Loc} (hp : 0x050 ≤ l.page ∧ l.page < 0x090) : isPerClass l = false := by
  have hne : ∀ m : Loc, ¬(0x050 ≤ m.page ∧ m.page < 0x090) → (l == m) = false := fun m hm =>
    beq_eq_false_iff_ne.2 fun e => hm (e ▸ hp)
  unfold isPerClass
  iterate 10 rw [hne _ (by decide)]
  rfl

/-- The effect of a field of a transmit page, not shadowed and outside the header. -/
theorem fieldEff_txField {l : Loc} (hn : n < 64) (hp : l.page = 0x050 + n) (ha : l.acc = .rw) (ho : 0x02C ≤ l.off)
    (hc : l.off ≠ 0x04C ∧ l.off ≠ 0x050) : s.fieldEff c l v = s.pathFieldWritten true n l v := by
  have hr : isRxPage l.page = false := decide_eq_false (by omega)
  have ht : isTxPage l.page = true := decide_eq_true (by omega)
  have hn' : pathOf l.page = n := by unfold pathOf; omega
  have hv : s.fieldClip l v = v := by
    simp [State.fieldClip, hr, ht, hc, show l.off ≠ 0x010 by omega, show l.off ≠ 0x018 by omega]
  simp [State.fieldEff, hv, ha, Nat.not_lt.2 ho, State.blockWritten, hr, ht, hn']

end Sys2Proof.Machine
end

section
/-! PROOFS. Transmit paths (O11). -/

namespace Sys2Proof.Machine

variable {s t : State} {ks : List Nat} {c : Cls} {a n v : Nat}

/-! ### Cells and ranges -/

/-- The four fields of a cell selection. -/
def cellKeys (n : Nat) : List Nat :=
  [(TXPATH.CELL_MAP_I n).key, (TXPATH.CELL_MAP_Q n).key, (TXPATH.CELL_SPARES_I n).key, (TXPATH.CELL_SPARES_Q n).key]

/-- A selection is stored. -/
def State.cellSet (s : State) (n mi mq si sq : Nat) : State :=
  (((s.set (TXPATH.CELL_MAP_I n) mi).set (TXPATH.CELL_MAP_Q n) mq).set (TXPATH.CELL_SPARES_I n) si).set (TXPATH.CELL_SPARES_Q n) sq

theorem cellSet_get (s : State) (n mi mq si sq : Nat) :
    (s.cellSet n mi mq si sq).get (TXPATH.CELL_MAP_I n) = trunc 8 mi ∧ (s.cellSet n mi mq si sq).get (TXPATH.CELL_MAP_Q n) = trunc 8 mq ∧
      (s.cellSet n mi mq si sq).get (TXPATH.CELL_SPARES_I n) = trunc 2 si ∧
      (s.cellSet n mi mq si sq).get (TXPATH.CELL_SPARES_Q n) = trunc 2 sq := by
  simp only [State.cellSet, get_set, Loc.key, TXPATH.CELL_MAP_I, TXPATH.CELL_MAP_Q, TXPATH.CELL_SPARES_I, TXPATH.CELL_SPARES_Q]
  simp
  omega

/-- A selection takes effect: stored, counted and raised (R148). -/
def State.cellSwapped (s : State) (n mi mq si sq : Nat) : State :=
  (((s.setTx n (fun r => { r with cell := none })).cellSet n mi mq si sq).count (TXPATH.CELL_SWAP_CNT n)).raise (txPage n)
    EV.TXPATH.CELL_SWAP

theorem cellSwapped_fields (s : State) (n mi mq si sq : Nat) :
    (s.cellSwapped n mi mq si sq).get (TXPATH.CELL_MAP_I n) = trunc 8 mi ∧
      (s.cellSwapped n mi mq si sq).get (TXPATH.CELL_MAP_Q n) = trunc 8 mq ∧
      (s.cellSwapped n mi mq si sq).get (TXPATH.CELL_SPARES_I n) = trunc 2 si ∧
      (s.cellSwapped n mi mq si sq).get (TXPATH.CELL_SPARES_Q n) = trunc 2 sq ∧
      SameRegs (cellKeys n ++ [(TXPATH.CELL_SWAP_CNT n).key] ++ evKeys (txPage n)) s (s.cellSwapped n mi mq si sq) := by
  have hk : ∀ l ∈ [TXPATH.CELL_MAP_I n, TXPATH.CELL_MAP_Q n, TXPATH.CELL_SPARES_I n, TXPATH.CELL_SPARES_Q n],
      l.key ≠ (TXPATH.CELL_SWAP_CNT n).key ∧ l.key ≠ (HDR.EVT (txPage n)).key ∧ l.key ≠ ERL1.EVT_LOST_CNT.key := by
    simp only [Loc.key, TXPATH.CELL_MAP_I, TXPATH.CELL_MAP_Q, TXPATH.CELL_SPARES_I, TXPATH.CELL_SPARES_Q, TXPATH.CELL_SWAP_CNT, HDR.EVT,
      txPage, ERL1.EVT_LOST_CNT, List.forall_mem_cons, List.not_mem_nil, IsEmpty.forall_iff, implies_true, and_true]
    omega
  have hg : ∀ l ∈ [TXPATH.CELL_MAP_I n, TXPATH.CELL_MAP_Q n, TXPATH.CELL_SPARES_I n, TXPATH.CELL_SPARES_Q n],
      (s.cellSwapped n mi mq si sq).get l = ((s.setTx n (fun r => { r with cell := none })).cellSet n mi mq si sq).get l :=
    fun l hl => by
      obtain ⟨h1, h2, h3⟩ := hk l hl
      rw [State.cellSwapped, raise_other h2 h3, count_other _ _ h1]
  obtain ⟨h1, h2, h3, h4⟩ := cellSet_get (s.setTx n (fun r => { r with cell := none })) n mi mq si sq
  refine ⟨(hg _ (by simp)).trans h1, (hg _ (by simp)).trans h2, (hg _ (by simp)).trans h3, (hg _ (by simp)).trans h4, ?_⟩
  have h0 : SameRegs (cellKeys n ++ [(TXPATH.CELL_SWAP_CNT n).key] ++ evKeys (txPage n)) s
      (s.setTx n (fun r => { r with cell := none })) := (SameRegs.refl s).of_regs rfl
  exact (((((h0.set (by simp [cellKeys])).set (by simp [cellKeys])).set (by simp [cellKeys])).set (by simp [cellKeys])).count
    (by simp)).raise (by simp +contextual)

theorem exec_cellSwap_due {mi mq si sq : Nat} (hn : n < 64) (hc : (s.tx n).cell = some (mi, mq, si, sq))
    (hp : s.cellPermitted n = true) (hb : s.tb % 2 = 0) (he : s.onEdge = true) :
    exec (.cellSwap n) s = .next (s.cellSwapped n mi mq si sq) := by
  rw [exec_cellSwap, execCellSwap, State.cellSwap, hc]
  dsimp only
  rw [if_pos ⟨hn, hp, hb, he⟩]
  rfl

theorem rangeSwitch_due {b r : Nat} (h : (s.tx n).range = some (b, r, false)) (hb : b + 96 ≤ s.ao) (he : s.onEdge = true) :
    s.rangeSwitch n = (s.setTx n (fun x => { x with range := some (b, r, true) })).set (TXPATH.RANGE_ACT n) r := by
  rw [State.rangeSwitch, h]
  exact if_pos ⟨hb, he⟩

theorem getD_upd_same {α : Type} (l : List α) {i : Nat} (f : α → α) (d : α) (hi : i < l.length) :
    (upd l i f).getD i d = f (l.getD i d) := by
  induction l generalizing i with
  | nil => exact absurd hi (Nat.not_lt_zero _)
  | cons x l ih =>
    cases i with
    | zero => rfl
    | succ i => simpa [upd] using ih (Nat.lt_of_succ_lt_succ hi)

theorem rangeDone_due {b r : Nat} (hn : n < 64) (h : (s.tx n).range = some (b, r, true)) (hb : b + 160 ≤ s.ao)
    (he : s.onEdge = true) (hq : (s.tx n).rangeQ = []) (hl : s.txs.length = 65) :
    s.rangeDone n =
      ((s.setTx n (fun x => { x with range := none })).set (TXPATH.RANGE_BUSY n) 0).raise (txPage n) EV.TXPATH.RANGE_DONE := by
  have hq' : ((((s.setTx n (fun x => { x with range := none })).set (TXPATH.RANGE_BUSY n) 0).raise (txPage n)
      EV.TXPATH.RANGE_DONE).tx n).rangeQ = [] := by
    have ht : ((((s.setTx n (fun x => { x with range := none })).set (TXPATH.RANGE_BUSY n) 0).raise (txPage n)
        EV.TXPATH.RANGE_DONE).txs) = upd s.txs n (fun x => { x with range := none }) := (congrArg State.txs (raise_eventless _ _ _) :)
    rw [State.tx, ht, getD_upd_same _ _ _ (by omega)]
    exact hq
  rw [State.rangeDone, h]
  dsimp only
  rw [if_pos ⟨hb, he⟩]
  simp only [if_true, hq']

/-! ### Mutes -/

theorem muteLoc_path (hn : n < 64) : muteLoc n = TXPATH.TX_MUTE n := if_neg (by omega)

theorem fieldEff_mute (hn : n ≤ 64) : s.fieldEff c (muteLoc n) v = s.muteWritten n v := by
  rcases Nat.lt_or_eq_of_le hn with hn | rfl
  · rw [muteLoc_path hn, fieldEff_txField hn rfl rfl (show 0x02C ≤ 0x044 by decide) (show 0x044 ≠ 0x04C ∧ 0x044 ≠ 0x050 by decide)]
    simp [State.pathFieldWritten, TXPATH.TX_MUTE]
  · rfl

theorem muteWritten_acks : (s.muteWritten n v).acks = s.acks := by
  unfold State.muteWritten
  dsimp only
  repeat' split
  all_goals rfl

/-- The fields of a mute: the output's TX_MUTE and its causes. -/
def muteKeys (n : Nat) : List Nat := [(muteLoc n).key, (causeSW n).key, (causeKILL n).key, (causeCMPL n).key]

/-- The mute is released, with every cause (R160). -/
def State.muteClear (s : State) (n : Nat) : State :=
  (((s.set (muteLoc n) 0).set (causeSW n) 0).set (causeKILL n) 0).set (causeCMPL n) 0

theorem SameRegs.muteClear (h : SameRegs ks s t) (hk : ∀ k ∈ muteKeys n, k ∈ ks) : SameRegs ks s (t.muteClear n) := by
  have h1 : (muteLoc n).key ∈ ks := hk _ (by simp [muteKeys])
  have h2 : (causeSW n).key ∈ ks := hk _ (by simp [muteKeys])
  have h3 : (causeKILL n).key ∈ ks := hk _ (by simp [muteKeys])
  have h4 : (causeCMPL n).key ∈ ks := hk _ (by simp [muteKeys])
  exact (((h.set h1).set h2).set h3).set h4

/-- A field of a page below the path pages, or of the timeline, is not one of a mute's. -/
theorem key_not_mute {l : Loc} (hp : l.page < 0x050 ∨ 0x0AD ≤ l.page ∨ 0x090 ≤ l.page ∧ l.page < 0x0AC) (ho : l.off < 4096)
    (hl : l.lo < 32) (hn : n ≤ 64) : l.key ∉ muteKeys n := by
  have hm : ∀ m ∈ [muteLoc n, causeSW n, causeKILL n, causeCMPL n],
      (0x050 ≤ m.page ∧ m.page < 0x090 ∨ m.page = 0x0AC) ∧ m.off < 4096 ∧ m.lo < 32 := by
    simp only [muteLoc, causeSW, causeKILL, causeCMPL, List.forall_mem_cons, List.not_mem_nil, IsEmpty.forall_iff, implies_true, and_true]
    split <;> simp [CAL0.TX_MUTE, CAL0.CAUSE_SW, CAL0.CAUSE_KILL, CAL0.CAUSE_CMPL, TXPATH.TX_MUTE, TXPATH.CAUSE_SW, TXPATH.CAUSE_KILL,
      TXPATH.CAUSE_CMPL]
    omega
  intro hk
  obtain ⟨m, hmem, e⟩ := List.mem_map.1 (show l.key ∈ [muteLoc n, causeSW n, causeKILL n, causeCMPL n].map Loc.key from hk)
  obtain ⟨hmp, hmo, hml⟩ := hm m hmem
  exact Loc.key_ne_of_page hmo hml ho hl (by omega) e

theorem muteClear_mode (hn : n ≤ 64) : (s.muteClear n).mode = s.mode :=
  (SameRegs.refl s).muteClear (fun _ hk => hk) _ (key_not_mute (by decide) (by decide) (by decide) hn)

theorem muteClear_inSlot (hn : n ≤ 64) (x : Nat) : (s.muteClear n).inSlot x = s.inSlot x := by
  have hg : ∀ l : Loc, l.key ∉ muteKeys n → (s.muteClear n).get l = s.get l := fun l hl =>
    (SameRegs.refl s).muteClear (fun _ hk => hk) _ hl
  simp only [State.inSlot, State.epoch, hg _ (key_not_mute (l := TIMELINE0.EPOCH_LO) (by decide) (by decide) (by decide) hn),
    hg _ (key_not_mute (l := TIMELINE0.EPOCH_HI) (by decide) (by decide) (by decide) hn)]

/-- A release of a muted output (R160). -/
theorem muteWritten_release (hn : n ≤ 64) (h : s.on (muteLoc n) = true) :
    s.muteWritten n 0 =
      if s.mode ≠ 5 then (s.muteClear n).setTx n (fun x => { x with muteUntil := s.ao + (16 - s.tb % 16) })
      else if n < 64 then (s.muteClear n).setPath n (fun p => { p with muteToSlot := true })
      else (s.muteClear n).setTx n (fun x => { x with muteUntil := s.ao + (slotTicks - s.inSlot s.tb) }) := by
  rw [← muteClear_mode hn, ← muteClear_inSlot hn]
  unfold State.muteWritten
  rw [if_neg (by decide), h]
  rfl

/-- A write of TX_MUTE takes effect as `f`. -/
theorem txMuteWrite_effect {f : State → State} (hn : n ≤ 64) (h : s.accepts c (muteLoc n) v = true)
    (hf : ∀ u : State, (∀ l, u.get l = (s.ripe c (muteLoc n)).get l) → u.muteWritten n (trunc 1 v) = f u) :
    exec (.txMuteWrite c a n v) s = .next (s.lands c (muteLoc n) [f] []) := by
  have hw : (muteLoc n).wid = 1 := by unfold muteLoc; split <;> rfl
  rw [exec_txMuteWrite, execTxMuteWrite, rowField_effect (f := f) h]
  · unfold muteLoc; split <;> rfl
  · rcases Nat.lt_or_eq_of_le hn with hn | rfl
    · rw [muteLoc_path hn]
      exact isPerClass_txPage (by simp only [TXPATH.TX_MUTE]; omega)
    · decide
  · unfold muteLoc
    split <;> simp only [CAL0.TX_MUTE, TXPATH.TX_MUTE] <;> omega
  · unfold muteLoc
    split <;> simp only [CAL0.TX_MUTE, TXPATH.TX_MUTE] <;> omega
  · rintro u rfl
    have e : ((s.ripe c (muteLoc n)).credit 1 false).muteWritten n (trunc 1 v) = f ((s.ripe c (muteLoc n)).credit 1 false) :=
      hf _ fun l => credit_get _ _ _ l
    rw [hw, ← e]
    exact ⟨fieldEff_mute hn, muteWritten_acks⟩


/-! ### TXKILL_N -/

theorem steadyKey_txField {l : Loc} (hn : n < 64) (hp : l.page = 0x050 + n) (ho : l.off < 4096) (hl : l.lo < 32)
    (hm : l.off / 4 * 32 + l.lo ∈ (steadyTx 0).map (fun l => l.key % 32768)) : steadyKey l.key = true := by
  have ht : isTxPage l.page = true := decide_eq_true (by omega)
  simp only [steadyKey, keyPage_key ho hl, key_mod_page ho hl, ht, Bool.true_and, Bool.or_eq_true, List.contains_eq_mem,
    decide_eq_true_eq]
  exact .inr hm

/-- The fields that the kill sets in output `n`. -/
def killFields (n : Nat) : List Loc := [muteLoc n, causeKILL n, killPin n]

theorem killFields_steady (hn : n ≤ 64) : ∀ l ∈ killFields n, steadyKey l.key = true ∧ l.wid = 1 ∧ l.rst = 0 := by
  rcases Nat.lt_or_eq_of_le hn with hn | rfl
  · have h64 : n ≠ 64 := by omega
    simp only [killFields, muteLoc, causeKILL, killPin, h64, if_false, List.forall_mem_cons]
    refine ⟨⟨steadyKey_txField hn rfl ?_ ?_ ?_, rfl, rfl⟩, ⟨steadyKey_txField hn rfl ?_ ?_ ?_, rfl, rfl⟩,
      ⟨steadyKey_txField hn rfl ?_ ?_ ?_, rfl, rfl⟩, by simp⟩ <;>
      simp only [TXPATH.TX_MUTE, TXPATH.CAUSE_KILL, TXPATH.KILL_PIN] <;> decide
  · decide

theorem mute_steady (hn : n < 64) : steadyKey (TXPATH.TX_MUTE n).key = true := by
  rw [← muteLoc_path hn]
  exact (killFields_steady (Nat.le_of_lt hn) (muteLoc n) (by simp [killFields])).1

theorem cmplMute_steady (hn : n < 64) : steadyKey (TXPATH.CMPL_MUTE n).key = true :=
  steadyKey_txField hn rfl (show 0x040 < 4096 by decide) (show 16 < 32 by decide) (by
    simp only [TXPATH.CMPL_MUTE]
    decide)

/-- A set of a field of one bit gives any such field its value, or leaves it. -/
theorem set_bit_keeps {l m : Loc} (hl : l.rst = 0) (hm : m.rst = 0) (hw : m.wid = 1) (hv : v < 2) (h : s.get l = v) :
    (s.set m v).get l = v := by
  rw [get_set]
  split
  · simpa [hl, hm, hw] using trunc_of_lt (w := 1) hv
  · exact h

theorem killPath_keeps {m : Nat} {l : Loc} (hm : m ≤ 64) (hs : steadyKey l.key = true) (hl : l.rst = 0) (h : s.get l = 1) :
    (s.killPath m).get l = 1 := by
  have hf := killFields_steady hm
  simp only [killFields, List.forall_mem_cons] at hf
  obtain ⟨⟨-, hw1, hr1⟩, ⟨-, hw2, hr2⟩, ⟨-, hw3, hr3⟩, -⟩ := hf
  rw [State.killPath, (State.Steady.refl _).raise.regs l hs]
  exact set_bit_keeps hl hr3 hw3 (by decide) (set_bit_keeps hl hr2 hw2 (by decide) (set_bit_keeps hl hr1 hw1 (by decide) h))

theorem killPath_sets {l : Loc} (hn : n ≤ 64) (hl : l ∈ killFields n) : (s.killPath n).get l = 1 := by
  have hf := killFields_steady hn
  rw [State.killPath, (State.Steady.refl _).raise.regs l (hf l hl).1]
  simp only [killFields, List.forall_mem_cons] at hf
  obtain ⟨⟨-, hw1, hr1⟩, ⟨-, hw2, hr2⟩, ⟨-, hw3, hr3⟩, -⟩ := hf
  simp only [killFields, List.mem_cons, List.not_mem_nil, or_false] at hl
  rcases hl with rfl | rfl | rfl
  · exact set_bit_keeps hr1 hr3 hw3 (by decide) (set_bit_keeps hr1 hr2 hw2 (by decide) (by rw [get_set_same, hw1]; rfl))
  · exact set_bit_keeps hr2 hr3 hw3 (by decide) (by rw [get_set_same, hw2]; rfl)
  · rw [get_set_same, hw3]
    rfl

/-- The kill of all 65 outputs. -/
def State.killPaths (s : State) : State := (List.range 65).foldl (fun s n => s.killPath n) s

theorem killPaths_get {l : Loc} (hn : n < 65) (hl : l ∈ killFields n) : s.killPaths.get l = 1 := by
  obtain ⟨hs, -, hr⟩ := killFields_steady (Nat.le_of_lt_succ hn) l hl
  exact foldl_get (List.mem_range.2 hn) (fun u => killPath_sets (Nat.le_of_lt_succ hn) hl) fun u m hm h =>
    killPath_keeps (Nat.le_of_lt_succ (List.mem_range.1 hm)) hs hr h

theorem killPaths_units (s : State) : s.killPaths.steadyUnits = s.steadyUnits :=
  List.foldlRecOn (motive := fun u : State => u.steadyUnits = s.steadyUnits) _ _ rfl fun _ hu _ _ =>
    (State.Steady.raise_units _ _ _).trans hu

/-- After the mutes of TXKILL_N, what else it does is outside the frame. -/
theorem kill_steady (hv : s.pwr.vaux = true) (hk : s.pwr.kill = false) :
    State.Steady (State.killPaths { s with pwr := { s.pwr with kill := true } }) s.kill := by
  unfold State.kill
  rw [if_neg (by simp [hv, hk])]
  exact ((State.Steady.refl _).fgEnd.foldl fun _ h => h.upon State.Steady.biasForce).logEvent

/-! ### Compliance -/

/-- The field and the event of a compliance fault of a path. -/
def cmplLoc (n : Nat) (b : Bool) : Loc := if b then TXPATH.SHORT n else TXPATH.OPEN n
def cmplEvent (b : Bool) : Nat := if b then EV.TXPATH.CMPL_SHORT else EV.TXPATH.CMPL_OPEN

/-- A compliance fault of a path is shown, counted and raised. -/
def State.cmplShown (s : State) (n : Nat) (b : Bool) : State :=
  ((s.set (cmplLoc n b) 1).count (TXPATH.CMPL_CNT n)).raise (txPage n) (cmplEvent b)

theorem compliance_path (hn : n < 64) (hd : s.drv n = 2) (b : Bool) :
    s.compliance n b =
      if ((s.cmplShown n b).cmplNote n).on (TXPATH.CMPL_MUTE n) then ((s.cmplShown n b).cmplNote n).mutePath n (TXPATH.CAUSE_CMPL n)
      else (s.cmplShown n b).cmplNote n := by
  rw [State.compliance, if_neg (by omega), if_pos hd]
  rfl

/-- The fields that a compliance fault of a path changes (R162). -/
def cmplKeys (n : Nat) : List Nat :=
  [(TXPATH.SHORT n).key, (TXPATH.OPEN n).key, (TXPATH.CMPL_CNT n).key] ++ evKeys (txPage n)

theorem SameRegs.cmplShown {b : Bool} : SameRegs (cmplKeys n) s (s.cmplShown n b) := by
  have hb : (cmplLoc n b).key ∈ cmplKeys n := by cases b <;> simp [cmplLoc, cmplKeys]
  exact (((SameRegs.refl s).set hb).count (by simp [cmplKeys])).raise (by simp +contextual [cmplKeys])

theorem key_not_cmpl {l : Loc} (ho : l.off < 4096) (hl : l.lo < 32) (he : l.key ≠ ERL1.EVT_LOST_CNT.key)
    (h : l.page ≠ 0x050 + n ∨ l.off / 4 ∉ [3, 12, 24]) : l.key ∉ cmplKeys n := by
  have hm : ∀ m ∈ [TXPATH.SHORT n, TXPATH.OPEN n, TXPATH.CMPL_CNT n, HDR.EVT (txPage n)],
      m.page = 0x050 + n ∧ m.off < 4096 ∧ m.lo < 32 ∧ m.off / 4 ∈ [3, 12, 24] := by
    simp [TXPATH.SHORT, TXPATH.OPEN, TXPATH.CMPL_CNT, HDR.EVT, txPage]
  intro hk
  simp only [cmplKeys, evKeys, List.mem_append, List.mem_cons, List.not_mem_nil, or_false, he, or_assoc] at hk
  obtain ⟨m, hmem, e⟩ := List.mem_map.1
    (show l.key ∈ [TXPATH.SHORT n, TXPATH.OPEN n, TXPATH.CMPL_CNT n, HDR.EVT (txPage n)].map Loc.key by simpa using hk)
  obtain ⟨hp, hmo, hml, hw⟩ := hm m hmem
  rcases h with h | h
  · exact Loc.key_ne_of_page ho hl hmo hml (fun e' => h (e'.trans hp)) e.symm
  · exact Loc.key_ne_of_off ho hl hmo hml (fun e' => h (by rw [e']; exact hw)) e.symm

/-- The list of compliance faults is replaced. -/
def State.withCmpl (s : State) (l : List (Nat × Nat)) : State := { s with cal := { s.cal with cmpl := l } }

/-- The first fault of a path, where more than one makes a candidate of it, is only noted. -/
theorem cmplNote_first (hc : s.cal.cmpl = []) (h0 : s.get AGEING.CMPL_RETIRE ≠ 0) (h1 : s.get AGEING.CMPL_RETIRE ≠ 1) :
    s.cmplNote n = s.withCmpl [(n, s.ao)] := by
  unfold State.cmplNote
  simp only [hc, List.filter_nil, List.nil_append]
  refine if_neg ?_
  show ¬ max 1 (s.get AGEING.CMPL_RETIRE) ≤ _
  simp only [decide_true, List.filter_cons_of_pos, List.filter_nil, List.length_cons, List.length_nil]
  omega

theorem cmplShown_steady (s : State) (n : Nat) (b : Bool) : s.Steady (s.cmplShown n b) := by
  have hk : ∀ l : Loc, l.key % 32768 = 769 ∨ l.key % 32768 = 768 ∨ l.key % 32768 = 384 → looseKey l.key = true := fun l hl =>
    looseKey_place (by rcases hl with e | e | e <;> rw [e] <;> decide)
  have hb : looseKey (cmplLoc n b).key = true := hk _ (by
    cases b <;> simp only [cmplLoc, TXPATH.SHORT, TXPATH.OPEN, Loc.key, if_true, if_false, Bool.false_eq_true] <;> omega)
  have hc : looseKey (TXPATH.CMPL_CNT n).key = true := hk _ (by simp only [TXPATH.CMPL_CNT, Loc.key]; omega)
  exact (((State.Steady.refl s).set hb).count hc).raise

/-! ### Retirement -/

theorem retiredTx_steady (n : Nat) : steadyKey (retiredTx n).key = true := by
  unfold retiredTx
  split <;> decide

theorem fieldEff_retire (hn : n < 64) : s.fieldEff c (TXPATH.RETIRE n) v = s.retireWritten n v := by
  rw [fieldEff_txField hn rfl rfl (show 0x02C ≤ 0x068 by decide) (show 0x068 ≠ 0x04C ∧ 0x068 ≠ 0x050 by decide)]
  simp [State.pathFieldWritten, TXPATH.TX_MUTE, TXPATH.RETIRE]

/-- A write of RETIRE takes effect as `f`. -/
theorem retireWrite_effect {f : State → State} (hn : n < 64) (h : s.accepts c (TXPATH.RETIRE n) v = true)
    (hf : ∀ u : State, (∀ l, u.get l = (s.ripe c (TXPATH.RETIRE n)).get l) →
      u.retireWritten n (trunc 1 v) = f u ∧ (f u).acks = u.acks) :
    exec (.retireWrite c a n v) s = .next (s.lands c (TXPATH.RETIRE n) [f] []) := by
  rw [exec_retireWrite, execRetireWrite, rowField_effect (f := f) h rfl]
  · exact isPerClass_txPage (by simp only [TXPATH.RETIRE]; omega)
  · simp only [TXPATH.RETIRE]; omega
  · simp only [TXPATH.RETIRE]; omega
  · rintro u rfl
    rw [fieldEff_retire hn]
    exact hf _ fun l => credit_get _ _ _ l

theorem retire_other (hn : n < 64) {l : Loc} (ho : l.off < 4096) (hl : l.lo < 32) (hp : l.page = 0) :
    (s.set (TXPATH.RETIRE n) v).get l = s.get l :=
  get_set_other _ _ (Loc.key_ne_of_page ho hl (show 0x068 < 4096 by decide) (show 0 < 32 by decide)
    (show l.page ≠ 0x050 + n by omega))

theorem retiredTx_place (n : Nat) : (retiredTx n).off < 4096 ∧ (retiredTx n).lo < 32 ∧ (retiredTx n).page = 0 := by
  unfold retiredTx
  split <;> decide

/-- RETIRE = 0 in M5 (R163). -/
theorem retireWritten_end (hn : n < 64) (hr : s.on (TXPATH.RETIRE n) = true) (hm : s.mode = 5) :
    s.retireWritten n 0 = ((s.set (TXPATH.RETIRE n) 0).setPath n (fun p => { p with retTx := !p.retTx })).set (retiredTx n)
      (clearBit (s.get (retiredTx n)) (n % 32)) := by
  have hr' : s.get (TXPATH.RETIRE n) = 1 := by simpa [State.on] using hr
  have hm' : (s.set (TXPATH.RETIRE n) 0).mode = 5 := (retire_other hn (by decide) (by decide) rfl).trans hm
  obtain ⟨ho, hl, hp⟩ := retiredTx_place n
  unfold State.retireWritten
  rw [hr', if_neg (by decide)]
  dsimp only
  rw [if_pos hm', if_neg (by decide), ← retire_other (v := 0) (s := s) hn ho hl hp]
  rfl

/-- A path that is retired: RETIRE, and its bit in DEVICE. -/
def State.retireBegin (s : State) (n : Nat) : State :=
  let s := s.set (TXPATH.RETIRE n) 1
  let s := if s.mode = 5 then s.setPath n (fun p => { p with retTx := !p.retTx }) else s.forcingChanged 0
  s.set (retiredTx n) (setBit (s.get (retiredTx n)) (n % 32))

theorem retireWritten_begin (h : s.get (TXPATH.RETIRE n) = 0) :
    s.retireWritten n 1 = (((s.retireBegin n).raise 0x000 EV.DEVICE.PATH_RETIRED).dpdLeave n).fgEnd (fun p => p == n) 0xFFF 4 := by
  unfold State.retireWritten
  rw [h, if_neg (by decide)]
  rfl

/-- Once the path is shown as retired and the event is raised, the rest of the write is outside the frame. -/
theorem retireWritten_steady (hn : n < 64) (h : s.get (TXPATH.RETIRE n) = 0) :
    State.Steady ((s.retireBegin n).raise 0x000 EV.DEVICE.PATH_RETIRED) (s.retireWritten n 1) := by
  rw [retireWritten_begin h]
  exact ((State.Steady.refl _).dpdLeave hn).fgEnd

theorem retireBegin_units (s : State) (n : Nat) : (s.retireBegin n).steadyUnits = s.steadyUnits := by
  show State.steadyUnits (State.set (if _ then _ else _) _ _) = _
  split <;> rfl

theorem retireBegin_fields (hn : n < 64) :
    (s.retireBegin n).get (TXPATH.RETIRE n) = 1 ∧ bitOf ((s.retireBegin n).get (retiredTx n)) (n % 32) = true := by
  obtain ⟨ho, hl, hp⟩ := retiredTx_place n
  have hne : (TXPATH.RETIRE n).key ≠ (retiredTx n).key :=
    (Loc.key_ne_of_page ho hl (show 0x068 < 4096 by decide) (show 0 < 32 by decide) (show (retiredTx n).page ≠ 0x050 + n by omega)).symm
  have hw : (retiredTx n).wid = 32 := by unfold retiredTx; split <;> rfl
  unfold State.retireBegin
  extract_lets u u'
  have hu : u'.get (TXPATH.RETIRE n) = 1 := by
    have hb : (BEAM.RENORM_BUSY 0).key ≠ (TXPATH.RETIRE n).key := by simp only [Loc.key, BEAM.RENORM_BUSY, TXPATH.RETIRE]; omega
    show State.get (if _ then _ else State.set _ _ _) _ = 1
    split
    · exact get_set_same s _ 1
    · exact (get_set_other _ _ hb.symm).trans (get_set_same s _ 1)
  rw [get_set_other _ _ hne, get_set_same, hw, bitOf_trunc (Nat.mod_lt _ (by decide))]
  exact ⟨hu, bitOf_setBit⟩

/-! ### The statement -/

theorem exec_txkillAssert_kills (hv : s.pwr.vaux = true) (hk : s.pwr.kill = false) :
    exec .txkillAssert s = .next s.kill ∧ s.kill.pwr.kill = true ∧
      (List.range 65).all (fun n => s.kill.on (muteLoc n) && s.kill.on (causeKILL n) && s.kill.on (killPin n)) = true ∧
      s.kill.mem = s.mem ∧ s.kill.otp = s.otp := by
  have h := kill_steady hv hk
  have hu := h.units.trans (killPaths_units _)
  simp only [State.steadyUnits, Prod.mk.injEq] at hu
  obtain ⟨-, -, -, -, hpwr, hotp, hmem, -⟩ := hu
  refine ⟨exec_txkillAssert s, by rw [hpwr], ?_, hmem, hotp⟩
  simp only [List.all_eq_true, List.mem_range, Bool.and_eq_true, State.on, beq_iff_eq]
  intro n hn
  have hg : ∀ l ∈ killFields n, s.kill.get l = 1 := fun l hl =>
    (h.regs l (killFields_steady (Nat.le_of_lt_succ hn) l hl).1).trans (killPaths_get hn hl)
  simp only [killFields, List.forall_mem_cons] at hg
  exact ⟨⟨hg.1, hg.2.1⟩, hg.2.2.1⟩

/-- KILL_PIN of all 65 outputs is cleared. -/
def State.clearPins (s : State) : State := (List.range 65).foldl (fun s n => s.set (killPin n) 0) s

theorem clearPins_units (s : State) : s.clearPins.steadyUnits = s.steadyUnits :=
  List.foldlRecOn (motive := fun u : State => u.steadyUnits = s.steadyUnits) _ _ rfl fun _ h _ _ => h

theorem clearPins_same (s : State) : SameRegs ((List.range 65).map (fun n => (killPin n).key)) s s.clearPins :=
  List.foldlRecOn (motive := fun u : State => SameRegs _ s u) _ _ (SameRegs.refl s) fun _ h _ hn => h.set (List.mem_map_of_mem hn)

theorem clearPins_pin (s : State) (hn : n < 65) : s.clearPins.get (killPin n) = 0 := by
  have hpin : ∀ m < 65, (killPin m).wid = 1 ∧ (killPin m).rst = 0 := fun m hm =>
    (killFields_steady (Nat.le_of_lt_succ hm) (killPin m) (by simp [killFields])).2
  refine foldl_get (List.mem_range.2 hn) (fun u => by rw [get_set_same, (hpin n hn).1]; rfl) fun u m hm h => ?_
  obtain ⟨hw, hr⟩ := hpin m (List.mem_range.1 hm)
  exact set_bit_keeps (hpin n hn).2 hr hw (by decide) h

theorem clearPins_mute (s : State) (n : Nat) : s.clearPins.get (muteLoc n) = s.get (muteLoc n) := by
  refine clearPins_same s _ fun hmem => ?_
  obtain ⟨m, -, e⟩ := List.mem_map.1 hmem
  revert e
  unfold killPin muteLoc
  split <;> split <;> simp only [Loc.key, CAL0.KILL_PIN, TXPATH.KILL_PIN, CAL0.TX_MUTE, TXPATH.TX_MUTE] <;> omega

theorem exec_txkillDeassert_releases (hk : s.pwr.kill = true) (hv : bitOf s.pwr.vio 3 = true) :
    exec .txkillDeassert s = .next s.unkill ∧ s.unkill.pwr.kill = false ∧
      (List.range 65).all (fun n => s.unkill.get (killPin n) == 0 && s.unkill.get (muteLoc n) == s.get (muteLoc n)) = true ∧
      s.unkill.mem = s.mem ∧ SameRegs ((List.range 65).map (fun n => (killPin n).key)) s s.unkill := by
  have he : s.unkill = State.clearPins { s with pwr := { s.pwr with kill := false } } := if_pos ⟨hk, hv⟩
  rw [he]
  have hu := clearPins_units { s with pwr := { s.pwr with kill := false } }
  simp only [State.steadyUnits, Prod.mk.injEq] at hu
  obtain ⟨-, -, -, -, hpwr, hotp, hmem, -⟩ := hu
  refine ⟨by rw [← he]; exact exec_txkillDeassert s, by rw [hpwr], ?_, hmem, clearPins_same _⟩
  simp only [List.all_eq_true, List.mem_range, Bool.and_eq_true, beq_iff_eq]
  exact fun n hn => ⟨clearPins_pin _ hn, clearPins_mute _ n⟩

/-- A compliance fault without CMPL_MUTE, the first of its path. -/
theorem exec_complianceFault_note {b : Bool} (hn : n < 64) (hd : s.drv n = 2) (hm : s.on (TXPATH.CMPL_MUTE n) = false)
    (h0 : s.get AGEING.CMPL_RETIRE ≠ 0) (h1 : s.get AGEING.CMPL_RETIRE ≠ 1) (hc : s.cal.cmpl = []) :
    exec (.complianceFault n b) s =
      .next ((s.cmplShown n b).withCmpl [(n, s.ao)]) := by
  have hsame := SameRegs.cmplShown (s := s) (n := n) (b := b)
  have hg : (s.cmplShown n b).get AGEING.CMPL_RETIRE = s.get AGEING.CMPL_RETIRE :=
    hsame _ (key_not_cmpl (by decide) (by decide) (by decide) (.inl (show 0x122 ≠ 0x050 + n by omega)))
  have hmute : (s.cmplShown n b).get (TXPATH.CMPL_MUTE n) = s.get (TXPATH.CMPL_MUTE n) :=
    (cmplShown_steady s n b).regs _ (cmplMute_steady hn)
  have hcal : (s.cmplShown n b).cal = s.cal := (congrArg State.cal (raise_eventless _ _ _) :)
  have hao : (s.cmplShown n b).ao = s.ao := (congrArg State.ao (raise_eventless _ _ _) :)
  have hnote := cmplNote_first (s := s.cmplShown n b) (n := n) (by rw [hcal, hc]) (by rwa [hg]) (by rwa [hg])
  rw [hao] at hnote
  have hoff : ((s.cmplShown n b).withCmpl [(n, s.ao)]).on (TXPATH.CMPL_MUTE n) = false := by
    show ((s.cmplShown n b).get (TXPATH.CMPL_MUTE n) == 1) = false
    rw [hmute]
    exact hm
  rw [exec_complianceFault, execComplianceFault, compliance_path hn hd, hnote, hoff]
  rfl

theorem cmplShown_fields (s : State) (hn : n < 64) (b : Bool) :
    (s.cmplShown n b).on (cmplLoc n b) = true ∧ bitOf ((s.cmplShown n b).get (HDR.EVT (txPage n))) (cmplEvent b) = true := by
  have hk : (cmplLoc n b).key ≠ (HDR.EVT (txPage n)).key ∧ (cmplLoc n b).key ≠ ERL1.EVT_LOST_CNT.key ∧
      (cmplLoc n b).key ≠ (TXPATH.CMPL_CNT n).key := by
    cases b <;> simp only [cmplLoc, TXPATH.SHORT, TXPATH.OPEN, Loc.key, HDR.EVT, ERL1.EVT_LOST_CNT, TXPATH.CMPL_CNT, txPage, if_true,
      if_false, Bool.false_eq_true] <;> omega
  obtain ⟨h1, h2, h3⟩ := hk
  have hw : (cmplLoc n b).wid = 1 := by cases b <;> rfl
  refine ⟨?_, raise_sets _ _ (by cases b <;> decide)⟩
  rw [State.on, State.cmplShown, raise_other h1 h2, count_other _ _ h3, get_set_same, hw]
  rfl

/-- A compliance fault with CMPL_MUTE mutes the path. -/
theorem exec_complianceFault_mute {b : Bool} (hn : n < 64) (hd : s.drv n = 2) (hm : s.on (TXPATH.CMPL_MUTE n) = true) :
    let t := ((s.cmplShown n b).cmplNote n).mutePath n (TXPATH.CAUSE_CMPL n)
    exec (.complianceFault n b) s = .next t ∧ t.on (TXPATH.TX_MUTE n) = true ∧ t.on (TXPATH.CAUSE_CMPL n) = true ∧ t.mem = s.mem := by
  have h := (cmplShown_steady s n b).cmplNote (n := n)
  have hm' : ((s.cmplShown n b).cmplNote n).on (TXPATH.CMPL_MUTE n) = true := by
    rw [State.on, h.regs _ (cmplMute_steady hn)]
    exact hm
  have hu := h.units
  simp only [State.steadyUnits, Prod.mk.injEq] at hu
  obtain ⟨-, -, -, -, -, -, hmem, -⟩ := hu
  have hne : (TXPATH.TX_MUTE n).key ≠ (TXPATH.CAUSE_CMPL n).key := by
    simp only [Loc.key, TXPATH.TX_MUTE, TXPATH.CAUSE_CMPL]; omega
  refine ⟨by rw [exec_complianceFault, execComplianceFault, compliance_path hn hd, if_pos hm'], ?_, ?_, hmem⟩
  · rw [State.on, State.mutePath, get_set_other _ _ hne, get_set_same]
    rfl
  · rw [State.on, State.mutePath, get_set_same]
    rfl

/-- What RETIRE = 1 shows (R163), and what it leaves as it was. -/
theorem retireWritten_fields (hn : n < 64) (h : s.get (TXPATH.RETIRE n) = 0) :
    (s.retireWritten n 1).get (TXPATH.RETIRE n) = 1 ∧ bitOf ((s.retireWritten n 1).get (retiredTx n)) (n % 32) = true ∧
      bitOf ((s.retireWritten n 1).get (HDR.EVT 0x000)) EV.DEVICE.PATH_RETIRED = true ∧ (s.retireWritten n 1).mem = s.mem ∧
      (s.retireWritten n 1).acks = s.acks := by
  have hs := retireWritten_steady hn h
  have hu := hs.units.trans ((State.Steady.raise_units _ _ _).trans (retireBegin_units s n))
  simp only [State.steadyUnits, Prod.mk.injEq] at hu
  obtain ⟨-, hacks, -, -, -, -, hmem, -⟩ := hu
  obtain ⟨hb, hb'⟩ := retireBegin_fields (s := s) hn
  have hR : steadyKey (TXPATH.RETIRE n).key = true :=
    steadyKey_txField hn rfl (show 0x068 < 4096 by decide) (show 0 < 32 by decide) (by simp only [TXPATH.RETIRE]; decide)
  have hg : ∀ l, steadyKey l.key = true → (s.retireWritten n 1).get l = (s.retireBegin n).get l := fun l hl =>
    (hs.regs l hl).trans ((State.Steady.refl _).raise.regs l hl)
  rw [hg _ hR, hg _ (retiredTx_steady n)]
  exact ⟨hb, hb', hs.evt _ (by decide) (raise_sets _ _ (by decide)), hmem, hacks⟩

theorem exec_retireWrite_begin (hn : n < 64) (h : s.accepts c (TXPATH.RETIRE n) v = true) (hv : trunc 1 v = 1)
    (hr : (s.ripe c (TXPATH.RETIRE n)).get (TXPATH.RETIRE n) = 0) :
    let t := s.lands c (TXPATH.RETIRE n) [fun u => u.retireWritten n 1] []
    exec (.retireWrite c a n v) s = .next t ∧ t.get (TXPATH.RETIRE n) = 1 ∧ bitOf (t.get (retiredTx n)) (n % 32) = true ∧
      bitOf (t.get (HDR.EVT 0x000)) EV.DEVICE.PATH_RETIRED = true ∧ t.mem = (s.ripe c (TXPATH.RETIRE n)).mem ∧
      t.answer = some ⟨c, [], stOK⟩ := by
  have hr' : ((s.ripe c (TXPATH.RETIRE n)).credit 1 false).get (TXPATH.RETIRE n) = 0 := by rw [credit_get, hr]
  obtain ⟨h1, h2, h3, h4, -⟩ := retireWritten_fields hn hr'
  refine ⟨retireWrite_effect hn h fun u hu => ?_, h1, h2, h3, h4.trans (credit_mem _ _ _), rfl⟩
  obtain ⟨-, -, -, -, hacks⟩ := retireWritten_fields (s := u) hn (by rw [hu, hr])
  exact ⟨by rw [hv], hacks⟩

/-- Settles O11: the streams, cells and ranges by their due branches, the writes by the effect of their word, and TXKILL_N, compliance
and retirement by the frame `State.Steady`. -/
theorem transmitPaths : Obligations.TransmitPaths := by
  unfold Obligations.TransmitPaths
  refine ⟨?_, ?_, ?_, ?_, ?_, ?_, ?_, ?_, ?_, ?_, ?_, ?_, ?_, ?_, ?_, ?_, ?_, ?_⟩
  · intro s n hn hd
    have h64 : n ≠ 64 := by omega
    have hd' : s.drvOf n ≠ 0 := by simpa [State.drvOf, h64] using hd
    simp [execTxqUnderflow, State.txqUnderflow, hd', h64]
  · intro s hd
    simp [execTxqUnderflow, State.txqUnderflow, hd]
  · intro s
    rfl
  · intro s n mi mq si sq hn hc hp hb he
    obtain ⟨h1, h2, h3, h4, h5⟩ := cellSwapped_fields s n mi mq si sq
    exact ⟨_, exec_cellSwap_due hn hc hp hb he, h1, h2, h3, h4, raise_sets _ _ (by decide), raise_mem _ _ _, h5⟩
  · intro s n b r _ h hb he
    rw [exec_rangeSwitch, execRangeSwitch, rangeSwitch_due h hb he]
  · intro s n b r hn h hb he hq hl
    rw [exec_rangeDone, execRangeDone, rangeDone_due hn h hb he hq hl]
  · intro s c a n v hn h hv
    refine txMuteWrite_effect hn h fun u _ => ?_
    rw [hv, State.muteWritten, if_pos rfl]
  · intro s c a n v hn hm h hv hon
    refine txMuteWrite_effect (Nat.le_of_lt hn) h fun u hu => ?_
    rw [hv, muteWritten_release (Nat.le_of_lt hn) (by rw [State.on, hu]; exact hon), if_pos (by rw [State.mode, hu]; exact hm)]
    rfl
  · intro s c a n v hn hm h hv hon
    refine txMuteWrite_effect (Nat.le_of_lt hn) h fun u hu => ?_
    rw [hv, muteWritten_release (Nat.le_of_lt hn) (by rw [State.on, hu]; exact hon),
      if_neg (by rw [State.mode, hu]; exact not_not.2 hm), if_pos hn]
    rfl
  · intro s c a v hm h hv hon
    refine txMuteWrite_effect (le_refl 64) h fun u hu => ?_
    rw [hv, muteWritten_release (le_refl 64) (by rw [State.on, hu]; exact hon), if_pos (by rw [State.mode, hu]; exact hm)]
    rfl
  · intro s c a v hm h hv hon
    refine txMuteWrite_effect (le_refl 64) h fun u hu => ?_
    rw [hv, muteWritten_release (le_refl 64) (by rw [State.on, hu]; exact hon),
      if_neg (by rw [State.mode, hu]; exact not_not.2 hm), if_neg (by decide)]
    rfl
  · exact fun s hv hk => ⟨_, exec_txkillAssert_kills hv hk⟩
  · exact fun s hk hv => ⟨_, exec_txkillDeassert_releases hk hv⟩
  · intro s n b hn hd hm h0 h1 hc
    obtain ⟨hl, he⟩ := cmplShown_fields s hn b
    exact ⟨_, exec_complianceFault_note hn hd hm h0 h1 hc, hl, he, (cmplShown_steady s n b).regs _ (mute_steady hn), rfl,
      raise_mem _ _ _, SameRegs.cmplShown.of_regs rfl⟩
  · exact fun s n b hn hd hm => ⟨_, exec_complianceFault_mute hn hd hm⟩
  · intro s b hd
    simp [execComplianceFault, State.compliance, hd]
  · intro s c a n v hn h hv hr hm
    refine retireWrite_effect hn h fun u hu => ?_
    have e := retireWritten_end (s := u) hn (by rw [State.on, hu]; exact hr) (by rw [State.mode, hu]; exact hm)
    exact ⟨by rw [hv, e], rfl⟩
  · exact fun s c a n v hn h hv hr => ⟨_, exec_retireWrite_begin hn h hv hr⟩

end Sys2Proof.Machine
end

section
/-! PROOFS. What the resets of R42 keep: the always-on pages outlast a reset of the radio domains; answers, OTP, supplies and
memory outlast both resets. -/

namespace Sys2Proof.Machine

variable {s : State}

theorem get_of_regs {t : State} (h : t.regs = s.regs) (l : Loc) : t.get l = s.get l := by
  simp only [State.get, h]

theorem get_forgetKeys (s : State) {p : Nat → Bool} {l : Loc} (h : p l.key = false) : (s.forgetKeys p).get l = s.get l := by
  have := Store.look_filter s.regs (fun k => ! p k) l.key
  rw [h] at this
  simp only [State.get, State.forgetKeys, this, Bool.not_false, if_true]

theorem get_forget (s : State) {p : Nat → Nat → Bool} {l : Loc} (h : p (keyPage l.key) (keyOff l.key) = false) :
    (s.forget p).get l = s.get l := by
  have := Store.look_filter s.regs (fun k => ! p (keyPage k) (keyOff k)) l.key
  rw [h] at this
  simp only [State.get, State.forget, this, Bool.not_false, if_true]

/-- No limits record in force: only fields of page 0x001 change. -/
theorem State.Steady.lrNone {t : State} (h : s.Steady t) : s.Steady t.lrNone := by
  have hp : ∀ l : Loc, keyPage l.key ≠ 1 → t.lrNone.get l = t.get l := fun l hl => get_forget t (by simp [hl])
  have hs : ∀ l : Loc, steadyKey l.key = true → keyPage l.key ≠ 1 := fun l hl he => by
    simp only [steadyKey, he, Bool.or_eq_true, Bool.and_eq_true, List.contains_eq_mem, decide_eq_true_eq] at hl
    rcases hl with hl | ⟨hl, -⟩
    · obtain ⟨m, hm, e⟩ := List.mem_map.1 hl
      have hall : ∀ m ∈ steadyFields, keyPage m.key ≠ 1 := by decide
      exact hall m hm (by rw [e, he])
    · exact absurd hl (by decide)
  exact h.trans ⟨fun l hl => hp l (hs l hl), fun b _ he => by rw [hp _ (by decide)]; exact he, rfl⟩

/-! ### The radio domains -/

theorem killStays_units (s : State) : s.killStays.steadyUnits = s.steadyUnits := by
  unfold State.killStays
  split
  · exact List.foldlRecOn (motive := fun u : State => u.steadyUnits = s.steadyUnits) _ _ rfl fun _ h _ _ => h
  · rfl

/-- The mute of TXKILL_N touches the pages of the outputs alone. -/
theorem killStays_get (s : State) {l : Loc} (hp : l.page < 0x050 ∨ 0x0AD ≤ l.page) (ho : l.off < 4096) (hl : l.lo < 32) :
    s.killStays.get l = s.get l := by
  have hne : ∀ m : Loc, 0x050 ≤ m.page ∧ m.page < 0x0AD → m.off < 4096 → m.lo < 32 → l.key ≠ m.key := fun m hm hmo hml =>
    Loc.key_ne_of_page ho hl hmo hml (by omega)
  have hf : ∀ n < 65, ∀ m ∈ [muteLoc n, causeKILL n, killPin n], l.key ≠ m.key := fun n hn m hm => by
    have hr : (0x050 ≤ m.page ∧ m.page < 0x0AD) ∧ m.off < 4096 ∧ m.lo < 32 := by
      simp only [muteLoc, causeKILL, killPin, List.mem_cons, List.not_mem_nil, or_false] at hm
      rcases hm with rfl | rfl | rfl <;> split <;>
        simp only [CAL0.TX_MUTE, CAL0.CAUSE_KILL, CAL0.KILL_PIN, TXPATH.TX_MUTE, TXPATH.CAUSE_KILL, TXPATH.KILL_PIN] <;> omega
    exact hne m hr.1 hr.2.1 hr.2.2
  unfold State.killStays
  split
  · refine List.foldlRecOn (motive := fun u : State => u.get l = s.get l) _ _ rfl fun u h n hn => ?_
    have hk := hf n (List.mem_range.1 hn)
    simp only [List.forall_mem_cons] at hk
    obtain ⟨h1, h2, h3, -⟩ := hk
    rw [get_set_other _ _ h3, get_set_other _ _ h2, get_set_other _ _ h1]
    exact h
  · rfl

/-- A reset of the radio domains keeps the units of the frame, but for words that wait on its pages. -/
theorem radioReset_units (s : State) (keep : Bool) : (s.radioReset keep).steadyUnits.2 = s.steadyUnits.2 := by
  unfold State.radioReset
  rw [killStays_units]
  rfl

/-- It keeps the fields of the always-on pages. -/
theorem radioReset_get (s : State) (keep : Bool) {l : Loc} (hp : l.page < 0x004 ∨ 0x110 ≤ l.page ∧ l.page < 0x200)
    (ho : l.off < 4096) (hl : l.lo < 32) : (s.radioReset keep).get l = s.get l := by
  have ha : alwaysOn (keyPage l.key % 0x200) = true := by
    rw [keyPage_key ho hl, Nat.mod_eq_of_lt (by omega)]
    simp only [alwaysOn, Bool.or_eq_true, decide_eq_true_eq]
    omega
  have hg := get_forgetKeys s (l := l) (p := fun k => !alwaysOn (keyPage k % 0x200) && !radioKept k
    && !(keep && (keyOff k == 0x018 || keyOff k == 0x01C))) (by simp [ha])
  unfold State.radioReset
  rw [killStays_get _ (by omega) ho hl]
  exact (get_of_regs rfl l).trans hg

/-! ### The always-on domain -/

/-- From `s` to `t` the units of the frame are the same, whatever becomes of registers. -/
def State.UnitsKept (s t : State) : Prop := t.steadyUnits = s.steadyUnits

namespace State.UnitsKept

variable {t : State}

theorem refl (s : State) : s.UnitsKept s := rfl

theorem set {l : Loc} {v : Nat} (h : s.UnitsKept t) : s.UnitsKept (t.set l v) := h

theorem set64 {lo hi : Loc} {v : Nat} (h : s.UnitsKept t) : s.UnitsKept (t.set64 lo hi v) := h

theorem upon {u : State} {c : Prop} {_ : Decidable c} (h : s.UnitsKept t) (f : s.UnitsKept t → s.UnitsKept u) :
    s.UnitsKept (if c then u else t) := by
  split
  · exact f h
  · exact h

theorem foldl {α : Type} {l : List α} {f : State → α → State} (h : s.UnitsKept t)
    (hf : ∀ {u a}, s.UnitsKept u → s.UnitsKept (f u a)) : s.UnitsKept (l.foldl f t) :=
  List.foldlRecOn (motive := fun u => s.UnitsKept u) l f h fun _ hu _ _ => hf hu

theorem steady {u : State} (h : s.UnitsKept t) (hs : t.Steady u) : s.UnitsKept u := hs.units.trans h

theorem setWin {f : Nat → Loc} {l : List Nat} (h : s.UnitsKept t) : s.UnitsKept (t.setWin f l) := h.foldl fun h => h.set

theorem biasShadow {k : Nat} (h : s.UnitsKept t) : s.UnitsKept (t.biasShadow k) := h.steady (.biasShadow (.refl t))

theorem biasEntry {k : Nat} (h : s.UnitsKept t) : s.UnitsKept (t.biasEntry k) := h.steady (.biasEntry (.refl t))

theorem otpShadows (h : s.UnitsKept t) : s.UnitsKept t.otpShadows := by
  unfold State.otpShadows
  extract_lets t1 t2 t3 t4 t5 t6 t7 t8 t9 t10 used
  have h5 : s.UnitsKept t5 := h.set64.set.set.set.set.set
  have h7 : s.UnitsKept t7 := (h5.foldl fun h => h.setWin).set
  have h9 : s.UnitsKept t9 := (h7.upon fun h => h.setWin).setWin.setWin
  exact (h9.foldl fun h => h.biasShadow).set.set

end State.UnitsKept

/-- A reset of the always-on domain sets aside the words that wait, and keeps answers, supplies, OTP and memory. -/
theorem aonReset_units (s : State) :
    s.aonReset.words = [] ∧ s.aonReset.acks = s.acks ∧ s.aonReset.pwr = s.pwr ∧ s.aonReset.otp = s.otp ∧ s.aonReset.mem = s.mem := by
  unfold State.aonReset
  extract_lets forced t1 t2 t3 t4 t5
  have h1 : s.UnitsKept t1 := rfl
  have h2 : s.UnitsKept t2 := h1.foldl fun h => h.set
  have h3 : s.UnitsKept t3 := h2
  have h5 : s.UnitsKept t5 := (h3.set : s.UnitsKept t4).otpShadows.foldl fun h => h.biasEntry
  clear_value t5
  simp only [State.UnitsKept, State.steadyUnits, Prod.mk.injEq] at h5
  obtain ⟨-, hacks, -, -, hpwr, hotp, hmem, -⟩ := h5
  exact ⟨rfl, hacks, hpwr, hotp, hmem⟩

/-- A device reset (R42). -/
theorem resetAll_units (s : State) :
    s.resetAll.words = [] ∧ s.resetAll.acks = s.acks ∧ s.resetAll.otp = s.otp ∧ s.resetAll.mem = s.mem ∧
      s.resetAll.pwr.vcore = s.pwr.vcore := by
  have hf := ((State.Steady.refl s).logFlush).units
  have hr := (radioReset_units s.logFlush false).trans (congrArg Prod.snd hf)
  unfold State.resetAll
  extract_lets t
  have ht : t = (s.logFlush.radioReset false).aonReset := rfl
  clear_value t
  generalize s.logFlush.radioReset false = u at hr ht
  obtain ⟨hw, hacks, hpwr, hotp, hmem⟩ := aonReset_units u
  rw [← ht] at hw hacks hpwr hotp hmem
  simp only [State.steadyUnits, Prod.mk.injEq] at hr
  obtain ⟨hacks', -, -, hpwr', hotp', hmem', -⟩ := hr
  exact ⟨hw, hacks.trans hacks', hotp.trans hotp', hmem.trans hmem', (congrArg PowerSt.vcore (hpwr.trans hpwr') :)⟩

/-! ### Changes of mode -/

/-- What a change of mode shows in DEVICE. -/
def State.modeShown (s : State) (old new : Nat) : State :=
  { (s.set DEVICE.PREV old).set DEVICE.MODE new with trans := none }.set DEVICE.TRANS 0

/-- MODE_DONE and the MODE record are outside the frame. -/
theorem modeChange_steady (s : State) (old new : Nat) : (s.modeShown old new).Steady (s.modeChange old new) :=
  (State.Steady.refl _).raise.logHw

theorem modeShown_mode (s : State) (old new : Nat) : (s.modeShown old new).get DEVICE.MODE = trunc 3 new := by
  rw [State.modeShown, get_set_other _ _ (by decide)]
  exact get_set_same _ DEVICE.MODE new

theorem modeShown_trans (s : State) (old new : Nat) : (s.modeShown old new).get DEVICE.TRANS = 0 := by
  rw [State.modeShown, get_set_same]
  rfl

theorem modeShown_other (s : State) (old new : Nat) {l : Loc}
    (h : l.key ∉ [DEVICE.PREV.key, DEVICE.MODE.key, DEVICE.TRANS.key]) : (s.modeShown old new).get l = s.get l := by
  simp only [List.mem_cons, List.not_mem_nil, or_false, not_or] at h
  obtain ⟨hp, hm, ht⟩ := h
  rw [State.modeShown, get_set_other _ _ ht]
  exact (get_set_other _ _ hm).trans (get_set_other _ _ hp)

/-- M1 is entered with no word waiting, and no answer is touched. -/
theorem enterM1_words (s : State) (reason : Nat) : (s.enterM1 reason).words = [] ∧ (s.enterM1 reason).acks = s.acks := by
  obtain ⟨hw, hacks, -⟩ := resetAll_units s
  have hm := (modeChange_steady s.resetAll s.mode 1).units
  unfold State.enterM1
  extract_lets old t
  have ht : t = s.resetAll.modeChange s.mode 1 := rfl
  clear_value t
  generalize s.resetAll = u at hw hacks hm ht
  rw [← ht] at hm
  simp only [State.steadyUnits, Prod.mk.injEq] at hm
  obtain ⟨hw', hacks', -⟩ := hm
  exact ⟨hw'.trans hw, hacks'.trans hacks⟩

/-! ### Unavailability -/

theorem outOpen_get (s : State) {l : Loc} (h : l.key ≠ DEVICE.OUTAGE_COUNT.key) : s.outOpen.get l = s.get l := by
  unfold State.outOpen
  split
  · rfl
  · exact (count_other _ 1 h).trans (get_of_regs rfl l)

theorem outOpen_units (s : State) :
    s.outOpen.pwr = s.pwr ∧ s.outOpen.otp = s.otp ∧ s.outOpen.tbRun = s.tbRun ∧ s.outOpen.mgmtDown = s.mgmtDown := by
  unfold State.outOpen
  split <;> exact ⟨rfl, rfl, rfl, rfl⟩

end Sys2Proof.Machine
end

section
/-! PROOFS. Starts, resets and the thermal halt (O2). -/

namespace Sys2Proof.Machine

variable {s t : State} {c : Cls}

/-! ### Starts -/

/-- M1 is entered, or the wait for the rails ends in it. -/
def State.startEnter (s : State) : State :=
  if s.mode = 0 then (s.radioReset true).modeChange 0 1 else { s with trans := none }.set DEVICE.TRANS 0

/-- What a start clears and judges before the time base counts. -/
def State.startClear (s : State) : State :=
  let s := s.keyRamClear.lrNone.aniseGate
  if s.rngFailed then s else s.set SECURITY.RNG_STAT 1

/-- The time base counts from 0, and step 1 begins. -/
def State.startStep (s : State) (find : SelfTest) (flashBad : Nat) : State :=
  let s := { s with tb := 0, tbRun := true }.showRef.setPwr (fun p => { p with isolated := false })
  let s := ((s.set DEVICE.BOOT_REASON s.modes.reason).set DEVICE.BOOT_OK_SEEN 0).set MGMT.RUNNING 0
  let s : State := { s with hk := { s.hk with calNext := s.ao + 1 }, cal := { s.cal with refAt := none } }
  s.setModes (fun m => { m with
    find := find, flashBad := flashBad, step := 1, stepAt := s.ao, acked := false, wdAt := none, stableAt := none })

theorem startRun_eq (s : State) (find : SelfTest) (bad : Nat) :
    s.startRun find bad = ((s.startEnter.startClear.startStep find bad).enableWritten 0x004 1).enableWritten 0x007 1 := rfl

theorem startEnter_fields (hm : s.mode = 0 ∨ s.mode = 1) :
    s.startEnter.get DEVICE.MODE = 1 ∧ s.startEnter.get DEVICE.TRANS = 0 ∧ s.startEnter.modes = s.modes ∧
      s.startEnter.otp = s.otp ∧ s.startEnter.ao = s.ao := by
  unfold State.startEnter
  split
  · have hr := radioReset_units s true
    generalize s.radioReset true = u at hr
    have hs := modeChange_steady u 0 1
    have hu := hs.units
    generalize u.modeChange 0 1 = t at hs hu
    simp only [State.steadyUnits, Prod.mk.injEq] at hr hu
    obtain ⟨-, -, hmodes', -, hotp', -, -, -, hao', -⟩ := hr
    obtain ⟨-, -, -, hmodes, -, hotp, -, -, -, hao, -⟩ := hu
    exact ⟨(hs.regs _ (by decide)).trans (modeShown_mode u 0 1), (hs.regs _ (by decide)).trans (modeShown_trans u 0 1),
      hmodes.trans hmodes', hotp.trans hotp', hao.trans hao'⟩
  next h0 =>
    refine ⟨?_, by rw [get_set_same]; rfl, rfl, rfl, rfl⟩
    rw [get_set_other _ _ (by decide)]
    exact hm.resolve_left h0

theorem startClear_steady (s : State) : s.Steady s.startClear := by
  unfold State.startClear
  exact (State.Steady.refl s).keyRamClear.lrNone.aniseGate.except fun h => h.set

/-- The fields that the step writes. -/
def State.startFields (s : State) : State :=
  ((s.showRef.set DEVICE.BOOT_REASON s.modes.reason).set DEVICE.BOOT_OK_SEEN 0).set MGMT.RUNNING 0

theorem startStep_get (s : State) (find : SelfTest) (bad : Nat) (l : Loc) : (s.startStep find bad).get l = s.startFields.get l :=
  get_of_regs rfl l

theorem startStep_other (s : State) (find : SelfTest) (bad : Nat) {l : Loc}
    (h : l.key ∉ [TIMEBASE.REF_HOLD.key, DEVICE.BOOT_REASON.key, DEVICE.BOOT_OK_SEEN.key, MGMT.RUNNING.key]) :
    (s.startStep find bad).get l = s.get l := by
  simp only [List.mem_cons, List.not_mem_nil, or_false, not_or] at h
  obtain ⟨h1, h2, h3, h4⟩ := h
  rw [startStep_get, State.startFields, get_set_other _ _ h4, get_set_other _ _ h3, get_set_other _ _ h2, State.showRef,
    get_set_other _ _ h1]

theorem startStep_cleared (s : State) (find : SelfTest) (bad : Nat) :
    (s.startStep find bad).get DEVICE.BOOT_OK_SEEN = 0 ∧ (s.startStep find bad).get MGMT.RUNNING = 0 := by
  rw [startStep_get, startStep_get, State.startFields, get_set_same, get_set_other _ _ (by decide), get_set_same]
  exact ⟨rfl, rfl⟩

theorem startStep_units (s : State) (find : SelfTest) (bad : Nat) :
    (s.startStep find bad).tb = 0 ∧ (s.startStep find bad).tbRun = true ∧ (s.startStep find bad).otp = s.otp ∧
      (s.startStep find bad).modes = { s.modes with
        find := find, flashBad := bad, step := 1, stepAt := s.ao, acked := false, wdAt := none, stableAt := none } :=
  ⟨rfl, rfl, rfl, rfl⟩

/-- EN of the CPLL and of the LPLL are written 1; what their sequences do is outside the frame. -/
theorem enableLoops (s : State) :
    let t := (s.enableWritten 0x004 1).enableWritten 0x007 1
    (∀ l : Loc, steadyKey l.key = true → l.key ∉ [(HDR.EN 0x004).key, (HDR.EN 0x007).key] → t.get l = s.get l) ∧
      t.get (HDR.EN 0x004) = 1 ∧ t.get (HDR.EN 0x007) = 1 ∧ t.steadyUnits = s.steadyUnits := by
  have h4 : (s.set (HDR.EN 0x004) 1).Steady (s.enableWritten 0x004 1) := (State.Steady.refl _).enableWritten (.inl rfl)
  generalize s.enableWritten 0x004 1 = u at h4
  have h7 : (u.set (HDR.EN 0x007) 1).Steady (u.enableWritten 0x007 1) := (State.Steady.refl _).enableWritten (.inr rfl)
  refine ⟨fun l hl hne => ?_, ?_, ?_, h7.units.trans h4.units⟩
  · simp only [List.mem_cons, List.not_mem_nil, or_false, not_or] at hne
    rw [h7.regs l hl, get_set_other _ _ hne.2, h4.regs l hl, get_set_other _ _ hne.1]
  · rw [h7.regs _ (by decide), get_set_other _ _ (by decide), h4.regs _ (by decide), get_set_same]
    rfl
  · rw [h7.regs _ (by decide), get_set_same]
    rfl

theorem exec_startBegin_runs (find : SelfTest) (bad : Nat) (hd : s.startDue = true) (hm : s.mode = 0 ∨ s.mode = 1)
    (hn : s.modes.next = none) :
    let t := s.startRun find bad
    exec (.startBegin find bad) s = .next t ∧ t.tb = 0 ∧ t.tbRun = true ∧ t.modes.step = 1 ∧ t.modes.stepAt = s.ao ∧
      t.modes.find = find ∧ t.modes.wdAt = none ∧ t.get MGMT.RUNNING = 0 ∧ t.get DEVICE.BOOT_OK_SEEN = 0 ∧
      t.get DEVICE.TRANS = 0 ∧ t.get DEVICE.MODE = 1 ∧ t.get (HDR.EN 0x004) = 1 ∧ t.get (HDR.EN 0x007) = 1 ∧ t.otp = s.otp := by
  obtain ⟨hmode, htrans, hmodes, hotp, hao⟩ := startEnter_fields hm
  have hc := startClear_steady s.startEnter
  have hcu := hc.units
  obtain ⟨hl, h4, h7, hu⟩ := enableLoops (s.startEnter.startClear.startStep find bad)
  obtain ⟨hb, hr⟩ := startStep_cleared s.startEnter.startClear find bad
  obtain ⟨htb, hrun, hotp2, hmodes2⟩ := startStep_units s.startEnter.startClear find bad
  have hall : ∀ l ∈ [DEVICE.MODE, DEVICE.TRANS], steadyKey l.key = true ∧
      l.key ∉ [TIMEBASE.REF_HOLD.key, DEVICE.BOOT_REASON.key, DEVICE.BOOT_OK_SEEN.key, MGMT.RUNNING.key] := by decide
  have hg : ∀ l ∈ [DEVICE.MODE, DEVICE.TRANS],
      (s.startEnter.startClear.startStep find bad).get l = s.startEnter.get l := fun l hl => by
    rw [startStep_other _ find bad (hall l hl).2, hc.regs l (hall l hl).1]
  rw [← startRun_eq] at hl h4 h7 hu
  simp only [State.steadyUnits, Prod.mk.injEq] at hu hcu
  obtain ⟨-, -, -, humodes, -, huotp, -, hutb, hurun, -⟩ := hu
  obtain ⟨-, -, -, hcmodes, -, hcotp, -, -, -, hcao, -⟩ := hcu
  rw [hmodes2, hcmodes, hmodes, hcao, hao] at humodes
  have hnext : (s.startRun find bad).modes.next = none := by rw [humodes]; exact hn
  refine ⟨?_, hutb.trans htb, hurun.trans hrun, by rw [humodes], by rw [humodes], by rw [humodes], by rw [humodes],
    (hl _ (by decide) (by decide)).trans hr, (hl _ (by decide) (by decide)).trans hb,
    (hl _ (by decide) (by decide)).trans ((hg _ (by simp)).trans htrans),
    (hl _ (by decide) (by decide)).trans ((hg _ (by simp)).trans hmode), h4, h7,
    huotp.trans (hotp2.trans (hcotp.trans hotp))⟩
  rw [exec_startBegin, execStartBegin, State.startBegin, if_pos hd, State.takeNext, hnext]

/-! ### RESET_N -/

/-- RESET_N as recognised: the radio domains are isolated, the time base stops, no transition runs. -/
def State.resetHeld (s : State) : State :=
  let s := (s.setPwr (fun p => { p with resetN := true })).radioReset true
  let s := { s with tb := 0, tbRun := false, mgmt := {}, trans := none }.setPwr (fun p => { p with isolated := true })
  (s.set DEVICE.TRANS 0).setModes (fun m => { m with
    next := none, step := 0, wdAt := none, expired := none, holdAt := none, stableAt := none })

theorem resetHeld_units (s : State) :
    s.resetHeld.pwr.resetN = true ∧ s.resetHeld.pwr.isolated = true ∧ s.resetHeld.tbRun = false ∧ s.resetHeld.trans = none ∧
      s.resetHeld.otp = s.otp ∧ s.resetHeld.mem = s.mem := by
  have hr := radioReset_units (s.setPwr (fun p => { p with resetN := true })) true
  unfold State.resetHeld
  generalize State.radioReset _ true = u at hr
  simp only [State.steadyUnits, Prod.mk.injEq] at hr
  obtain ⟨-, -, -, hpwr, hotp, hmem, -⟩ := hr
  exact ⟨congrArg PowerSt.resetN hpwr, rfl, rfl, rfl, hotp, hmem⟩

theorem resetAssert_eq (hr : s.pwr.resetN = false) (hv : s.pwr.vaux = true) :
    s.resetAssert = ((List.range 16).foldl (fun s k => s.biasSafe k) s.resetHeld).forget
      (fun pg off => pg == 0x124 && decide (0x040 ≤ off ∧ off < 0x058) && off != 0x048) := by
  unfold State.resetAssert
  rw [hr, if_neg (by decide)]
  exact if_neg (by simp [State.setPwr, hv])

theorem exec_resetNAssert_holds (hr : s.pwr.resetN = false) (hv : s.pwr.vaux = true) :
    exec .resetNAssert s = .next s.resetAssert ∧ s.resetAssert.pwr.resetN = true ∧ s.resetAssert.pwr.isolated = true ∧
      s.resetAssert.tbRun = false ∧ s.resetAssert.trans = none ∧ s.resetAssert.otp = s.otp ∧ s.resetAssert.mem = s.mem := by
  have hu : s.resetAssert.steadyUnits = s.resetHeld.steadyUnits := by
    rw [resetAssert_eq hr hv]
    exact ((State.Steady.refl s.resetHeld).foldl fun _ h => h.biasSafe).units
  obtain ⟨h1, h2, h3, h4, h5, h6⟩ := resetHeld_units s
  simp only [State.steadyUnits, Prod.mk.injEq] at hu
  obtain ⟨-, -, htrans, -, hpwr, hotp, hmem, -, htb, -⟩ := hu
  exact ⟨exec_resetNAssert s, by rw [hpwr, h1], by rw [hpwr, h2], htb.trans h3, htrans.trans h4, hotp.trans h5, hmem.trans h6⟩

theorem sampleStraps_halt (s : State) (b : Nat) : (s.sampleStraps b).get DEVICE.HALT = s.get DEVICE.HALT := by
  rw [State.sampleStraps, get_set_other _ _ (by decide), get_set_other _ _ (by decide)]

/-- RESET_N is released, and BOOTSEL sampled. -/
def State.released (s : State) (b : Nat) : State := ({ s with pwr := { s.pwr with resetN := false } } : State).sampleStraps b

/-- The release of RESET_N (R490). -/
theorem resetRelease_eq {b : Nat} (hr : s.pwr.resetN = true) (hb : bitOf s.pwr.vio 0 = true) (hv : s.pwr.vaux = true) :
    s.resetRelease b =
      if s.on DEVICE.HALT then (s.released b).resetAll
      else if b % 4 = 3 then (s.released b).enterM2 6 else (s.released b).enterM1 2 := by
  have hh : (s.released b).on DEVICE.HALT = s.on DEVICE.HALT := by
    rw [State.on, State.released, sampleStraps_halt]
    rfl
  unfold State.resetRelease
  rw [if_neg (by simp [hr, hb])]
  dsimp only
  rw [if_neg (by simp [State.setPwr, hv]), ← hh]
  rfl

/-! ### DEVICE_RESET -/

/-- A trigger that is taken acts 8 ticks on, with its word not yet answered. (`rowTrig_lands` has the answer too, but asks that the
word outlast the effect, and a reset sets it aside.) -/
theorem rowTrig_acts {l : Loc} {data : Nat} (h : s.takes c l data = true) (hl : Loc.arbitrated l = false)
    (he : l ≠ TIMELINE0.ENQ_CODE) (hs : l.page ≠ 0x0A2 ∧ l.page ≠ 0x0A3) :
    s.rowTrig c l data = (((s.ripe c l).trigAct c l data s.ao).credit 1 false).answered 1 := by
  simp only [State.takes, Bool.and_eq_true, Option.isNone_iff_eq_none] at h
  obtain ⟨⟨⟨hq, has⟩, hwr⟩, hp⟩ := h
  obtain ⟨h1, h2, h3, hd⟩ := quiet_parts hq
  have hr := arrive_taken (agent := 0) (s := { s with acks := [] }) hd has ((wordRefusal_acks s c l.page l.off _ []).trans hwr)
    ((partRefusal_acks s c data l []).trans hp) he hs h2 h3
  obtain ⟨hw, ht, hn, ha, -, -, hx⟩ := joinPart_trigger (s := { s with acks := [] }) (c := c) (agent := 0) (id := 1) (data := data) hl
    [⟨1, c, regAddr l.page l.off, stOK, false, 1⟩]
  generalize { (({ s with acks := [] } : State).joinPart c 0 1 data l) with words := [⟨1, c, regAddr l.page l.off, stOK, false, 1⟩] } = u
    at hr hw ht hn ha hx
  have hwin : u.windows = [] := hw.trans h1
  have htrig : u.triggers = [⟨l, c, 0, data, s.ao + 8, 1⟩] := by
    rw [ht]
    show s.triggers ++ _ = _
    rw [h2, List.nil_append]
  have hdue : ∀ d, u.nextDue = some d → s.ao + 7 < d := fun d e => by
    simp only [State.nextDue, hwin, htrig, List.map_nil, List.nil_append, List.map_cons, List.min?_singleton, Option.some.injEq] at e
    omega
  have hripe : { (s.afterTicks 8).waiting u with
      triggers := ((s.afterTicks 8).waiting u).triggers.erase ⟨l, c, 0, data, s.ao + 8, 1⟩ } = s.ripe c l := by
    rw [← waiting_ripe (u := u) hn ha]
    simp [State.waiting, hwin, htrig]
  rw [State.rowTrig, carry_taken hr hdue hx, close_trigger (x := (s.afterTicks 8).waiting u)
    (r := ⟨l, c, 0, data, s.ao + 8, 1⟩) hwin htrig rfl]
  simp only [State.triggerActs, hripe, Nat.add_sub_cancel]

/-- A trigger that sets aside every word that waits leaves its own unanswered. -/
theorem unanswered {t : State} (hw : t.words = []) (ha : t.acks = []) : (t.credit 1 false).answered 1 = t := by
  have h : t.credit 1 false = t := by simp [State.credit, hw]
  rw [h]
  simp [State.answered, ha]

theorem trigAct_deviceReset (s : State) (c : Cls) (data at_ : Nat) :
    s.trigAct c DEVICE.DEVICE_RESET data at_ = s.deviceReset 3 := by
  rw [trigAct_low (by decide) (by decide) (by decide) (by decide), State.lowTrigger]
  rw [if_neg (by decide), if_pos rfl]

theorem deviceReset_words (s : State) (k : Nat) : (s.deviceReset k).words = [] ∧ (s.deviceReset k).acks = s.acks := by
  unfold State.deviceReset
  split
  · obtain ⟨hw, ha, -⟩ := resetAll_units s
    exact ⟨hw, ha⟩
  · exact enterM1_words s k

theorem exec_deviceReset_eq (h : s.triggered c DEVICE.DEVICE_RESET = true) :
    exec (.deviceReset c) s = .next ((s.ripe c DEVICE.DEVICE_RESET).deviceReset 3) := by
  obtain ⟨hw, ha⟩ := deviceReset_words (s.ripe c DEVICE.DEVICE_RESET) 3
  rw [exec_deviceReset, execDeviceReset, rowTrig_acts h (by decide) (by decide) (by decide), trigAct_deviceReset,
    unanswered hw (ha.trans (ripe_acks s c _))]

/-! ### The thermal halt -/

/-- The halt is shown: HALT with its event, and M0. OTP is `o`. -/
structure State.HaltShown (s : State) (o : OtpSt) : Prop where
  halt : s.get DEVICE.HALT = 1
  mode : s.get DEVICE.MODE = 0
  evt : bitOf (s.get (HDR.EVT 0x000)) EV.DEVICE.HALT = true
  otp : s.otp = o

namespace State.HaltShown

variable {o : OtpSt}

/-- It is shown in any state with the same fields of DEVICE, and the same OTP. -/
theorem of_get {u : State} (h : s.HaltShown o)
    (e : ∀ l ∈ [DEVICE.HALT, DEVICE.MODE, HDR.EVT 0x000], u.get l = s.get l) (eo : u.otp = s.otp) : u.HaltShown o :=
  ⟨(e _ (by simp)).trans h.halt, (e _ (by simp)).trans h.mode, by rw [e _ (by simp)]; exact h.evt, eo.trans h.otp⟩

theorem steady {u : State} (h : s.HaltShown o) (hs : s.Steady u) : u.HaltShown o := by
  have hu := hs.units
  simp only [State.steadyUnits, Prod.mk.injEq] at hu
  obtain ⟨-, -, -, -, -, hotp, -⟩ := hu
  exact ⟨(hs.regs _ (by decide)).trans h.halt, (hs.regs _ (by decide)).trans h.mode, hs.evt _ (by decide) h.evt,
    hotp.trans h.otp⟩

theorem radioReset {k : Bool} (h : s.HaltShown o) : (s.radioReset k).HaltShown o := by
  have hu := radioReset_units s k
  simp only [State.steadyUnits, Prod.mk.injEq] at hu
  obtain ⟨-, -, -, -, hotp, -⟩ := hu
  have hp : ∀ l ∈ [DEVICE.HALT, DEVICE.MODE, HDR.EVT 0x000],
      (l.page < 0x004 ∨ 0x110 ≤ l.page ∧ l.page < 0x200) ∧ l.off < 4096 ∧ l.lo < 32 := by decide
  exact h.of_get (fun l hl => radioReset_get s k (hp l hl).1 (hp l hl).2.1 (hp l hl).2.2) hotp

end State.HaltShown

/-- HALT latches, with its event and its record. -/
def State.haltLatch (s : State) : State := (s.set DEVICE.HALT 1).raiseLog 3 0x000 EV.DEVICE.HALT

/-- M0 is entered, and the log flushed. -/
def State.haltEnter (s : State) (old : Nat) : State :=
  if old = 0 then { s with trans := none }.set DEVICE.TRANS 0 else (s.modeChange old 0).logFlush

/-- The radio domains lose their supply; the time base stops, and a restart. -/
def State.haltCut (s : State) : State :=
  let s := s.radioReset true
  { s with tb := 0, tbRun := false, mgmtDown := false, mon := { s.mon with until_ := 0 } }.setPwr (fun p => { p with isolated := true })

/-- The key RAM is cleared and the gate biases are forced safe. -/
def State.haltSafe (s : State) : State :=
  let s := ((s.set DEVICE.MGMT_RESTART_ACT 0).set MONITOR.LEVEL 0).keyRamClear
  (List.range 16).foldl (fun s k => s.biasForce k) s

theorem halt_eq (hh : s.on DEVICE.HALT = false) (hv : s.pwr.vaux = true) :
    s.halt = ((s.haltLatch.haltEnter s.mode).haltCut.haltSafe.setModes (fun m => { m with
      next := none, step := 0, expired := none, holdAt := none, stableAt := none })).outOpen := by
  unfold State.halt
  rw [if_neg (by simp [hh, hv])]
  rfl

theorem haltLatch_shown (s : State) :
    s.haltLatch.get DEVICE.HALT = 1 ∧ s.haltLatch.get DEVICE.MODE = s.get DEVICE.MODE ∧
      bitOf (s.haltLatch.get (HDR.EVT 0x000)) EV.DEVICE.HALT = true ∧ s.haltLatch.otp = s.otp := by
  have h : (s.set DEVICE.HALT 1).Steady s.haltLatch := (State.Steady.refl _).raiseLog
  have hl : ((s.set DEVICE.HALT 1).raise 0x000 EV.DEVICE.HALT).Steady s.haltLatch := (State.Steady.refl _).logEvent
  have hu := h.units
  simp only [State.steadyUnits, Prod.mk.injEq] at hu
  obtain ⟨-, -, -, -, -, hotp, -⟩ := hu
  refine ⟨?_, ?_, hl.evt _ (by decide) (raise_sets _ _ (by decide)), hotp⟩
  · rw [h.regs _ (by decide), get_set_same]
    rfl
  · rw [h.regs _ (by decide), get_set_other _ _ (by decide)]

theorem haltEnter_shown (s : State) : (s.haltLatch.haltEnter s.mode).HaltShown s.otp := by
  obtain ⟨hhalt, hmode, hevt, hotp⟩ := haltLatch_shown s
  unfold State.haltEnter
  split
  next h0 =>
    refine State.HaltShown.of_get (s := s.haltLatch) ⟨hhalt, hmode.trans h0, hevt, hotp⟩ (fun l hl => ?_) rfl
    have hne : ∀ l ∈ [DEVICE.HALT, DEVICE.MODE, HDR.EVT 0x000], l.key ≠ DEVICE.TRANS.key := by decide
    exact (get_set_other _ _ (hne l hl)).trans (get_of_regs rfl l)
  · refine State.HaltShown.steady ?_ (modeChange_steady s.haltLatch s.mode 0).logFlush
    refine ⟨?_, modeShown_mode _ _ _, ?_, hotp⟩
    · rw [modeShown_other _ _ _ (by decide), hhalt]
    · rw [modeShown_other _ _ _ (by decide)]
      exact hevt

theorem haltCut_shown {o : OtpSt} (h : s.HaltShown o) : s.haltCut.HaltShown o :=
  h.radioReset.of_get (fun l _ => get_of_regs rfl l) rfl

theorem haltSafe_steady (s : State) : s.Steady s.haltSafe :=
  (State.Steady.refl s).set.set.keyRamClear.foldl fun _ h => h.biasForce

theorem haltSafe_shown (s : State) :
    let t := (s.haltLatch.haltEnter s.mode).haltCut.haltSafe
    t.HaltShown s.otp ∧ t.pwr.isolated = true ∧ t.tbRun = false ∧ t.mgmtDown = false := by
  have hs := haltSafe_steady (s.haltLatch.haltEnter s.mode).haltCut
  have hu := hs.units
  have hcut : ∀ u : State, u.haltCut.pwr.isolated = true ∧ u.haltCut.tbRun = false ∧ u.haltCut.mgmtDown = false :=
    fun _ => ⟨rfl, rfl, rfl⟩
  obtain ⟨hiso, htb, hdown⟩ := hcut (s.haltLatch.haltEnter s.mode)
  simp only [State.steadyUnits, Prod.mk.injEq] at hu
  obtain ⟨-, -, -, -, hpwr, -, -, -, hrun, -, hmgmt⟩ := hu
  exact ⟨(haltCut_shown (haltEnter_shown s)).steady hs, by rw [hpwr, hiso], hrun.trans htb, hmgmt.trans hdown⟩

theorem exec_thermalHalt_halts {k : Nat} (hk : 16 ≤ k) (hk' : k < 25) (hh : s.on DEVICE.HALT = false) (hv : s.pwr.vaux = true) :
    exec (.thermalHalt k) s = .next s.halt ∧ s.halt.get DEVICE.HALT = 1 ∧ s.halt.get DEVICE.MODE = 0 ∧
      s.halt.pwr.isolated = true ∧ s.halt.tbRun = false ∧ s.halt.mgmtDown = false ∧ s.halt.otp = s.otp ∧
      bitOf (s.halt.get (HDR.EVT 0x000)) EV.DEVICE.HALT = true := by
  obtain ⟨hshown, hiso, htb, hdown⟩ := haltSafe_shown s
  have he := halt_eq hh hv
  generalize (s.haltLatch.haltEnter s.mode).haltCut.haltSafe = x at hshown hiso htb hdown he
  obtain ⟨hp, ho, ht, hd⟩ := outOpen_units (x.setModes (fun m => { m with
    next := none, step := 0, expired := none, holdAt := none, stableAt := none }))
  have hf : s.halt.HaltShown s.otp := by
    have hne : ∀ l ∈ [DEVICE.HALT, DEVICE.MODE, HDR.EVT 0x000], l.key ≠ DEVICE.OUTAGE_COUNT.key := by decide
    rw [he]
    exact hshown.of_get (fun l hl => (outOpen_get _ (hne l hl)).trans (get_of_regs rfl l)) ho
  rw [← he] at hp ht hd
  refine ⟨?_, hf.halt, hf.mode, ?_, ht.trans htb, hd.trans hdown, hf.otp, hf.evt⟩
  · rw [exec_thermalHalt, execThermalHalt, if_pos ⟨hk, hk'⟩]
  · rw [hp]
    exact hiso

/-- Settles O2: the start, RESET_N and the halt by the frame, DEVICE_RESET by its trigger, whose word the reset sets aside. -/
theorem resets : Obligations.Resets := by
  unfold Obligations.Resets
  refine ⟨?_, ?_, ?_, ?_, ?_, ?_, ?_, ?_⟩
  · exact fun s find bad hd hm hn => ⟨_, exec_startBegin_runs find bad hd hm hn⟩
  · exact fun s hr hv => ⟨_, exec_resetNAssert_holds hr hv⟩
  · intro s b hr hb hv hh hb3
    rw [exec_resetNRelease, execResetNRelease, resetRelease_eq hr hb hv, hh, if_neg Bool.false_ne_true, if_neg (by omega)]
    rfl
  · intro s hr hb hv hh
    rw [exec_resetNRelease, execResetNRelease, resetRelease_eq hr hb hv, hh, if_neg Bool.false_ne_true, if_pos rfl]
    rfl
  · intro s b hr hb hv hh
    rw [exec_resetNRelease, execResetNRelease, resetRelease_eq hr hb hv, hh, if_pos rfl]
    rfl
  · intro s c h hh
    rw [exec_deviceReset_eq h, State.deviceReset, hh, if_neg Bool.false_ne_true]
  · intro s c h hh
    rw [exec_deviceReset_eq h, State.deviceReset, hh, if_pos rfl]
  · exact fun s k hk hk' hh hv => ⟨_, exec_thermalHalt_halts hk hk' hh hv⟩

end Sys2Proof.Machine
end

section
/-! PROOFS. VAUX enters its range with the recovery strap (O1). The statement fails at a state that no run reaches: a key slot holds
a hash of 8 words, but a `State` can hold one of any length, and the reset shows a hash in successive words from `SECURITY.HASH`
on, up to that of MGMT.BOOTSEL, after the straps were sampled. -/

namespace Sys2Proof.Machine

variable {s t : State} {w : List Nat} {mv : Nat}

/-! ### A window of zeros -/

/-- A hash of zeros with a word at MGMT.BOOTSEL. -/
structure Overlong (w : List Nat) : Prop where
  zero : ∀ i, w.getD i 0 = 0
  reaches : ∃ i < w.length, (SECURITY.HASH 0 i).key = MGMT.BOOTSEL.key

theorem setWin_overlong (hw : Overlong w) (s : State) : (s.setWin (SECURITY.HASH 0) w).get MGMT.BOOTSEL = 0 := by
  have hz : ∀ (u : State) (i : Nat), u.get MGMT.BOOTSEL = 0 ∨ (SECURITY.HASH 0 i).key = MGMT.BOOTSEL.key →
      (u.set (SECURITY.HASH 0 i) (w.getD i 0)).get MGMT.BOOTSEL = 0 := fun u i h => by
    rw [hw.zero, get_set]
    split
    · simp [trunc, SECURITY.HASH, MGMT.BOOTSEL]
    next hne => exact h.resolve_right fun e => hne e.symm
  obtain ⟨i, hi, he⟩ := hw.reaches
  exact foldl_get (List.mem_range.2 hi) (fun u => hz u i (.inr he)) fun u j _ h => hz u j (.inl h)

theorem State.Steady.setWin {f : Nat → Loc} (h : s.Steady t) (hf : ∀ i, Nat.ble 0x111 (f i).page = true) :
    s.Steady (t.setWin f w) := h.foldl fun _ h => h.setAbove (hf _)

/-! ### The reset -/

/-- The parts of a state on which BOOTSEL turns: the one hash `w`, no identity, VCORE not good and RESET_N not asserted. -/
structure State.Keyed (s : State) (w : List Nat) : Prop where
  hashes : s.otp.hashes = [w]
  provisioned : s.otp.provisioned = false
  vcore : s.pwr.vcore = false
  resetN : s.pwr.resetN = false

theorem State.Keyed.of_eq (h : s.Keyed w) (ho : t.otp = s.otp) (hp : t.pwr = s.pwr) : t.Keyed w :=
  ⟨by rw [ho, h.hashes], by rw [ho, h.provisioned], by rw [hp, h.vcore], by rw [hp, h.resetN]⟩

theorem State.Keyed.kept (h : s.Keyed w) (hu : s.UnitsKept t) : t.Keyed w := by
  simp only [State.UnitsKept, State.steadyUnits, Prod.mk.injEq] at hu
  obtain ⟨-, -, -, -, hpwr, hotp, -⟩ := hu
  exact h.of_eq hotp hpwr

/-- The hashes are shown: `w` alone has words. -/
theorem hashWindows_eq (h : s.Keyed w) :
    (List.range 4).foldl (fun s k => s.setWin (SECURITY.HASH k) (s.slotHash k)) s = s.setWin (SECURITY.HASH 0) w := by
  have h0 : s.slotHash 0 = w := by rw [State.slotHash, h.hashes]; rfl
  have hk : ∀ k, (s.setWin (SECURITY.HASH 0) w).slotHash (k + 1) = [] := fun k => by
    rw [State.slotHash, (h.kept (State.UnitsKept.refl s).setWin).hashes]
    rfl
  have hn : ∀ (u : State) (f : Nat → Loc), u.setWin f [] = u := fun _ _ => rfl
  rw [show List.range 4 = [0, 1, 2, 3] from rfl]
  simp only [List.foldl_cons, List.foldl_nil, h0]
  rw [hk 0, hn, hk 1, hn, hk 2, hn]

/-- The shadows of OTP clear BOOTSEL. -/
theorem otpShadows_bootsel (hw : Overlong w) (h : s.Keyed w) : s.otpShadows.get MGMT.BOOTSEL = 0 := by
  unfold State.otpShadows
  extract_lets t1 t2 t3 t4 t5 t6 t7 t8 t9 t10 used
  have k5 : t5.Keyed w := h.kept (State.UnitsKept.refl s).set64.set.set.set.set.set
  have e6 : t6 = t5.setWin (SECURITY.HASH 0) w := hashWindows_eq k5
  have k7 : t7.Keyed w := k5.kept ((State.UnitsKept.refl t5).foldl fun h => h.setWin).set
  have h7 : t6.Steady t7 := (State.Steady.refl t6).setAbove
  have e8 : t8 = t7 := if_neg (by rw [k7.provisioned]; decide)
  have h9 : t8.Steady t9 := ((State.Steady.refl t8).setWin fun _ => rfl).setWin fun _ => rfl
  have h10 : t9.Steady t10 := (State.Steady.refl t9).foldl fun _ h => h.biasShadow
  clear_value t10 t9 t8 t7 t6 t5
  subst e6 e8
  have hs := ((h7.trans h9).trans h10).setAbove (l := FUSEMAP.FACT_CNT) (v := used t10.otp.fact)
  exact (hs.setAbove.regs MGMT.BOOTSEL (by decide)).trans (setWin_overlong hw t5)

theorem aonReset_bootsel (hw : Overlong w) (h : s.Keyed w) : s.aonReset.get MGMT.BOOTSEL = 0 := by
  unfold State.aonReset
  extract_lets forced t1 t2 t3 t4 t5
  have k1 : t1.Keyed w := h.of_eq rfl rfl
  have k3 : t3.Keyed w := k1.kept ((State.UnitsKept.refl t1).foldl fun h => h.set)
  have k4 : t4.Keyed w := k3.of_eq rfl rfl
  have h5 : t4.otpShadows.Steady t5 := (State.Steady.refl _).foldl fun _ h => h.biasEntry
  clear_value t5 t4
  exact (get_of_regs rfl _).trans ((h5.regs _ (by decide)).trans (otpShadows_bootsel hw k4))

/-- A device reset clears BOOTSEL. -/
theorem resetAll_bootsel (hw : Overlong w) (h : s.Keyed w) :
    s.resetAll.get MGMT.BOOTSEL = 0 ∧ s.resetAll.pwr.vcore = false := by
  obtain ⟨-, -, -, -, hv⟩ := resetAll_units s
  refine ⟨?_, hv.trans h.vcore⟩
  have hf : (s.logFlush.radioReset false).Keyed w := by
    have hk := h.kept ((State.Steady.refl s).logFlush).units
    have hr := radioReset_units s.logFlush false
    simp only [State.steadyUnits, Prod.mk.injEq] at hr
    obtain ⟨-, -, -, hpwr, hotp, -⟩ := hr
    exact hk.of_eq hotp hpwr
  have hb := aonReset_bootsel hw hf
  unfold State.resetAll
  extract_lets u
  have hu : u.get MGMT.BOOTSEL = 0 := hb
  clear_value u
  exact (get_of_regs rfl _).trans hu

/-! ### M2 -/

/-- The rights of M2 are set on one page (R398). -/
theorem m2Rights_steady (pg : Nat) {u : State} (h : s.Steady u) :
    s.Steady ((([Cls.bb, .host, .dsp, .mon, .test].foldl (fun (s : State) c => s.set (HDR.RIGHT pg c) (m2Right pg c)) u).set
      (HDR.CTRL pg) 3).set (HDR.ACC_LOCK pg) 1) := by
  have hr : ∀ c ∈ [Cls.bb, .host, .dsp, .mon, .test], looseKey (HDR.RIGHT pg c).key = true := fun c hc => by
    have hk : (HDR.RIGHT pg c).key % 32768 = 192 + 2 * c.code := by
      have : c.code < 6 := by cases c <;> decide
      simp only [Loc.key, HDR.RIGHT]
      omega
    refine looseKey_place ?_
    rw [hk]
    revert hc
    cases c <;> decide
  have hc : (HDR.CTRL pg).key % 32768 = 224 := by simp only [Loc.key, HDR.CTRL]; omega
  have hl : (HDR.ACC_LOCK pg).key % 32768 = 223 := by simp only [Loc.key, HDR.ACC_LOCK]; omega
  exact ((h.foldl fun hc h => h.set (hr _ hc)).set (looseKey_place (by rw [hc]; decide))).set (looseKey_place (by rw [hl]; decide))

/-- Without VCORE M2 does not serve its link. -/
theorem m2Power_get (h : s.pwr.vcore = false) (l : Loc) : s.m2Power.get l = s.get l := by
  unfold State.m2Power
  split
  · extract_lets u
    have hu : u = s := if_neg (by simp [h])
    clear_value u
    subst hu
    have hl : ∀ x : State, x.pwr.vcore = false → x.m2Link = x := fun x hx => if_neg (by simp [hx])
    refine (congrArg (fun x : State => x.get l) (hl _ ?_)).trans (get_of_regs rfl l)
    exact h
  · rfl

/-- The entry into M2 resets the device, and BOOTSEL with it. -/
theorem enterM2_bootsel (hw : Overlong w) (h : s.Keyed w) (code : Nat) : (s.enterM2 code).get MGMT.BOOTSEL = 0 := by
  obtain ⟨hb, hv⟩ := resetAll_bootsel hw h
  have hm := modeChange_steady s.resetAll s.mode 2
  have hb1 : (s.resetAll.modeChange s.mode 2).get MGMT.BOOTSEL = 0 := by
    rw [hm.regs _ (by decide), modeShown_other _ _ _ (by decide), hb]
  have hv1 : (s.resetAll.modeChange s.mode 2).pwr.vcore = false := by
    have hu := hm.units
    simp only [State.steadyUnits, Prod.mk.injEq] at hu
    obtain ⟨-, -, -, -, hpwr, -⟩ := hu
    rw [hpwr]
    exact hv
  unfold State.enterM2
  extract_lets old t1 t2 t3
  have h1 : t1.get MGMT.BOOTSEL = 0 ∧ t1.pwr.vcore = false :=
    ⟨(outOpen_get _ (by decide)).trans hb1, (congrArg PowerSt.vcore (outOpen_units _).1).trans hv1⟩
  clear_value t1
  have h2 : t2.get MGMT.BOOTSEL = 0 ∧ t2.pwr.vcore = false := ⟨(get_set_other _ _ (by decide)).trans h1.1, h1.2⟩
  have h3 : t2.Steady t3 := (State.Steady.refl t2).foldl fun _ h => m2Rights_steady _ h
  clear_value t2 t3
  have hu := h3.units
  simp only [State.steadyUnits, Prod.mk.injEq] at hu
  obtain ⟨-, -, -, -, hpwr, -⟩ := hu
  rw [m2Power_get (by rw [hpwr, h2.2]), h3.regs _ (by decide), h2.1]

/-! ### VAUX enters its range -/

/-- The entry with the recovery strap leaves BOOTSEL 0. -/
theorem vauxOn_bootsel (hw : Overlong w) (h : s.Keyed w) (hv : s.pwr.vaux = false) (hk : s.pwr.kill = false) :
    (s.vauxOn 3 mv).get MGMT.BOOTSEL = 0 := by
  have h0 : (s.powerUp true).Keyed w := ⟨h.hashes, h.provisioned, h.vcore, h.resetN⟩
  have hu : (s.powerUp true).UnitsKept ((s.powerUp true).keepRef s) := (State.UnitsKept.refl _).set.set.set
  unfold State.vauxOn
  rw [if_neg (by rw [hv]; exact Bool.false_ne_true)]
  extract_lets old t1 ms t2 t3 t4
  have h1 : t1.Keyed w := h0.kept (hu.otpShadows.foldl fun h => h.biasEntry)
  clear_value t1
  have h2 : t2.Keyed w := ⟨h1.hashes, h1.provisioned, h1.vcore, h1.resetN⟩
  clear_value t2
  have h3 : t3.Keyed w := h2.kept (State.UnitsKept.refl t2).set.set
  have h4 : t4 = t3 := if_neg (by rw [hk]; exact Bool.false_ne_true)
  clear_value t4
  subst h4
  rw [if_pos (by decide), if_neg (by rw [h3.resetN]; exact Bool.false_ne_true)]
  exact enterM2_bootsel hw h3 6

/-- VAUX out of its range, and the hash `w` in key slot 0. -/
def hashed (w : List Nat) : State :=
  { State.reset with pwr := { vaux := false }, otp := { State.reset.otp with hashes := [w] } }

theorem overlong_zeros : Overlong (List.replicate 276465 0) where
  zero i := by
    rw [List.getD_eq_getElem?_getD, List.getElem?_replicate]
    split <;> rfl
  reaches := ⟨276464, by rw [List.length_replicate]; decide, by decide⟩

/-- Refutes O1: with a hash of 276,465 zeros in key slot 0 the entry with the recovery strap leaves BOOTSEL 0, not 3. -/
theorem not_powerUp : ¬ Obligations.PowerUp := by
  unfold Obligations.PowerUp
  intro ⟨_, recovery, _⟩
  obtain ⟨t, ht, -, -, -, -, hb, -⟩ := recovery (hashed (List.replicate 276465 0)) 0 rfl rfl rfl
  have hw := overlong_zeros
  generalize List.replicate 276465 0 = w at hw ht
  obtain rfl : (hashed w).vauxOn 3 0 = t := by simpa [execVauxEnterRange] using ht
  rw [vauxOn_bootsel hw ⟨rfl, rfl, rfl, rfl⟩ rfl rfl] at hb
  exact absurd hb (by decide)

end Sys2Proof.Machine
end

section
/-! PROOFS. Words for the header of BEAM2 and BEAM3 (O4, O6, O50). The model judges every word for these pages as one of the set
table: a header word, below offset 0x040, as that of set 0. Where its bits 9 and 25 are set and both halves name one block, its
arrival raises BLK_CONFLICT (R176), an event that the statements on header words leave out. The state after reset shows it. -/

namespace Sys2Proof.Machine

/-- A word that, in a set table, names block 0 for both banks of its set. -/
def twiceBlock0 : Nat := 2 ^ 25 + 2 ^ 9

/-- The model takes EVT and EVT_EN of BEAM2 for the word of set 0, and a conflict for its assignment. -/
theorem headerWord_setConflict :
    State.reset.setConflict 0 (((HDR.EVT 0x0A2).off - 0x040) / 4) twiceBlock0 = true ∧
      State.reset.setConflict 0 (((HDR.EVT_EN 0x0A2).off - 0x040) / 4) twiceBlock0 = true := by decide

/-- The EVT register of BEAM2 after a command. -/
def beam2Events : Out → Nat
  | .next t => t.get (HDR.EVT 0x0A2)
  | _ => 0

theorem reset_takes_words :
    State.reset.triggered .mgmt (HDR.EVT 0x0A2) twiceBlock0 = true ∧ State.reset.accepts .mgmt (HDR.EVT_EN 0x0A2) twiceBlock0 = true ∧
      State.reset.takes .mgmt (HDR.EVT_EN 0x0A2) (trunc 32 twiceBlock0) = true := by decide +kernel

/-- A clear of EVT, a row's write and a port's write of EVT_EN leave BLK_CONFLICT set. -/
theorem headerWord_raises :
    beam2Events (exec (.evtClear .mgmt 0x0A2 twiceBlock0 0) State.reset) = 1 ∧
      beam2Events (exec (.evtEnWrite .mgmt 0 0x0A2 twiceBlock0) State.reset) = 1 ∧
      beam2Events (exec (.regWrite .mgmt 0 4 (regAddr 0x0A2 0x010) twiceBlock0) State.reset) = 1 := by decide +kernel

/-- Time alone raises no event of BEAM2. -/
theorem ripe_noEvents :
    (State.reset.ripe .mgmt (HDR.EVT 0x0A2)).get (HDR.EVT 0x0A2) = 0 ∧
      (State.reset.ripe .mgmt (HDR.EVT_EN 0x0A2)).get (HDR.EVT 0x0A2) = 0 := by decide +kernel

/-- Refutes O50: after reset a clear of bits 9 and 25 of BEAM2's EVT, none of which is set, leaves bit 0 set. -/
theorem not_eventsAreSet : ¬ Obligations.EventsAreSet := by
  unfold Obligations.EventsAreSet
  intro ⟨_, clears, _⟩
  obtain ⟨t, ht, -, hbits⟩ := clears State.reset .mgmt 0x0A2 twiceBlock0 0 (by decide) reset_takes_words.1
  have he : t.get (HDR.EVT 0x0A2) = 1 := (congrArg beam2Events ht).symm.trans headerWord_raises.1
  have h0 := hbits 0 (by decide)
  rw [he, ripe_noEvents.1] at h0
  exact absurd h0 (by decide)

/-- Refutes O4: after reset a write of bits 9 and 25 to BEAM2's EVT_EN changes EVT too. -/
theorem not_headerFields : ¬ Obligations.HeaderFields := by
  unfold Obligations.HeaderFields
  intro ⟨_, _, _, _, _, _, _, _, _, _, enables, _⟩
  obtain ⟨t, ht, -, -, -, hsame⟩ := enables State.reset .mgmt 0 0x0A2 twiceBlock0 (by decide) reset_takes_words.2.1
  have he : t.get (HDR.EVT 0x0A2) = 1 := (congrArg beam2Events ht).symm.trans headerWord_raises.2.1
  have h0 := hsame (HDR.EVT 0x0A2) (by decide)
  rw [he, ripe_noEvents.2] at h0
  exact absurd h0 (by decide)

/-- Refutes O6: after reset a port's write of bits 9 and 25 to BEAM2's EVT_EN raises an event beside opening its window. -/
theorem not_ports : ¬ Obligations.Ports := by
  unfold Obligations.Ports
  intro ⟨opens, _⟩
  have ht := opens State.reset .mgmt 0 0x0A2 twiceBlock0 (by decide) (by decide) reset_takes_words.2.2
  have he := (congrArg beam2Events ht).symm.trans headerWord_raises.2.2
  exact absurd he (by decide)

end Sys2Proof.Machine
end

section
/-! PROOFS. The lapse of a measurement of network time (O25). Without TIM or Cumin the model abandons a calibration run of Anise
(R334), which the statement leaves out. -/

namespace Sys2Proof.Machine

variable {s : State}

@[simp] theorem raise_bc (s : State) (pg b : Nat) : (s.raise pg b).bc = s.bc :=
  (congrArg State.bc (raise_eventless s pg b) :)

theorem selectSource_none_go (h : s.activeSource = 0) : s.selectSource.bc.go = false := by
  unfold State.selectSource
  rw [h]
  dsimp only
  split
  · rfl
  · rw [raise_bc]
    rfl

/-- The state after reset with TIM as the source in use, and a calibration run of Anise that was asked for. -/
def calAsked : State := { State.reset with regs := [(TIMEBASE.SRC_ACT.key, 1)], bc := { go := true } }

/-- Refutes O25: in `calAsked` the lapse of TIM withdraws the run as well. -/
theorem not_linkControl : ¬ Obligations.LinkControl := by
  unfold Obligations.LinkControl
  intro ⟨_, _, _, _, _, _, _, _, _, _, _, _, _, _, _, _, lapse, _⟩
  have hsource : calAsked.activeSource = 0 := by decide
  have ht := lapse calAsked hsource (by decide)
  rw [exec_timMeasLapse, execTimMeasLapse, Host.Outcome.next.injEq] at ht
  have hgo := (congrArg (fun t : State => t.bc.go) ht).symm.trans (selectSource_none_go hsource)
  simp [State.seti, calAsked] at hgo

end Sys2Proof.Machine
end

section
/-! PROOFS. Who wins a window (O54): the order of R58 on writes, and the best write of a list. -/

namespace Sys2Proof.Machine

variable {s : State} {l : Loc} {ws : List WinWrite} {w x y : WinWrite}

theorem Cls.code_inj {c d : Cls} (h : c.code = d.code) : c = d := by
  revert h
  cases c <;> cases d <;> decide

/-- `w` is no worse than `x` by R58: rank, then the later arrival, then the lower agent. -/
def NoWorse (w x : WinWrite) : Prop :=
  w.cls.code ≤ x.cls.code ∧ (x.cls = w.cls → x.tick ≤ w.tick ∧ (x.tick = w.tick → w.agent ≤ x.agent))

theorem NoWorse.refl (w : WinWrite) : NoWorse w w := ⟨Nat.le_refl _, fun _ => ⟨Nat.le_refl _, fun _ => Nat.le_refl _⟩⟩

theorem NoWorse.trans (h : NoWorse w x) (h' : NoWorse x y) : NoWorse w y := by
  obtain ⟨hc, ht⟩ := h
  obtain ⟨hc', ht'⟩ := h'
  refine ⟨Nat.le_trans hc hc', fun e => ?_⟩
  have hx : x.cls = w.cls := Cls.code_inj (by rw [e] at hc'; omega)
  obtain ⟨h1, h2⟩ := ht hx
  obtain ⟨h1', h2'⟩ := ht' (e.trans hx.symm)
  exact ⟨Nat.le_trans h1' h1, fun et => Nat.le_trans (h2 (by omega)) (h2' (by omega))⟩

theorem noWorse_of_outranks (h : outranks x w = true) : NoWorse x w := by
  simp only [outranks, Bool.or_eq_true, Bool.and_eq_true, decide_eq_true_eq] at h
  rcases h with h | ⟨h, ht⟩
  · exact ⟨Nat.le_of_lt h, fun e => absurd h (by rw [e]; exact Nat.lt_irrefl _)⟩
  · exact ⟨Nat.le_of_eq (by rw [h]), fun _ => by omega⟩

theorem noWorse_of_not_outranks (h : outranks x w = false) : NoWorse w x := by
  simp only [outranks, Bool.or_eq_false_iff, Bool.and_eq_false_imp, decide_eq_true_eq, decide_eq_false_iff_not] at h
  obtain ⟨hc, ht⟩ := h
  exact ⟨Nat.le_of_not_lt hc, fun e => ⟨Nat.le_of_not_lt (ht e).1, fun et => Nat.le_of_not_lt ((ht e).2 et.symm)⟩⟩

theorem bestWrite_eq_none : bestWrite ws = none ↔ ws = [] := by
  cases ws with
  | nil => simp [bestWrite]
  | cons a t =>
    unfold bestWrite
    split
    · simp
    · split <;> simp

/-- The best write of a list is one of it, and no worse than any. -/
theorem bestWrite_spec (h : bestWrite ws = some w) : w ∈ ws ∧ ∀ x ∈ ws, NoWorse w x := by
  induction ws generalizing w with
  | nil => cases h
  | cons a t ih =>
    unfold bestWrite at h
    split at h
    next hn =>
      obtain rfl : a = w := by simpa using h
      obtain rfl := bestWrite_eq_none.1 hn
      simpa using NoWorse.refl a
    next b hb =>
      obtain ⟨hmem, hbest⟩ := ih hb
      split at h
      next ho =>
        obtain rfl : b = w := by simpa using h
        exact ⟨List.mem_cons_of_mem _ hmem, List.forall_mem_cons.2 ⟨noWorse_of_outranks ho, hbest⟩⟩
      next ho =>
        obtain rfl : a = w := by simpa using h
        have hab : NoWorse a b := noWorse_of_not_outranks (by simpa using ho)
        exact ⟨List.mem_cons_self .., List.forall_mem_cons.2 ⟨.refl a, fun x hx => hab.trans (hbest x hx)⟩⟩

theorem latestWrites_subset : ∀ x ∈ latestWrites ws, x ∈ ws := by
  induction ws with
  | nil => simp [latestWrites]
  | cons a t ih =>
    unfold latestWrites
    split
    · exact fun x hx => List.mem_cons_of_mem _ (ih x hx)
    · exact List.forall_mem_cons.2 ⟨List.mem_cons_self .., fun x hx => List.mem_cons_of_mem _ (ih x hx)⟩

theorem latestWrites_eq_nil : latestWrites ws = [] ↔ ws = [] := by
  induction ws with
  | nil => simp [latestWrites]
  | cons a t ih =>
    unfold latestWrites
    split
    next h =>
      obtain ⟨x, hx, -⟩ := List.any_eq_true.1 h
      simpa using fun e => List.not_mem_nil (ih.1 e ▸ hx)
    · simp

/-- What decides a window: the best of the protective values of the latest writes or, where none is, the best of all. -/
theorem winner_spec {p : Bool} (h : s.winner l ws = some (w, p)) :
    bestWrite (if p then (latestWrites ws).filter (fun x => s.protective l x.val) else latestWrites ws) = some w ∧
      (p = true ↔ ∃ x ∈ latestWrites ws, s.protective l x.val = true) := by
  unfold State.winner at h
  dsimp only at h
  split at h
  next b hb =>
    obtain ⟨rfl, rfl⟩ : b = w ∧ true = p := by simpa using h
    obtain ⟨hmem, hpr⟩ := List.mem_filter.1 (bestWrite_spec hb).1
    exact ⟨hb, iff_of_true rfl ⟨b, hmem, hpr⟩⟩
  next hn =>
    obtain ⟨hw, rfl⟩ : bestWrite (latestWrites ws) = some w ∧ false = p := by simpa using h
    refine ⟨hw, iff_of_false Bool.false_ne_true ?_⟩
    rintro ⟨x, hx, hpr⟩
    exact List.not_mem_nil (bestWrite_eq_none.1 hn ▸ List.mem_filter.2 ⟨hx, hpr⟩)

theorem winner_exists (s : State) (l : Loc) (h : ws ≠ []) : ∃ w p, s.winner l ws = some (w, p) := by
  unfold State.winner
  dsimp only
  split
  · exact ⟨_, _, rfl⟩
  · cases hb : bestWrite (latestWrites ws) with
    | none => exact absurd (latestWrites_eq_nil.1 (bestWrite_eq_none.1 hb)) h
    | some w => exact ⟨w, false, rfl⟩

/-- The winner is one of the latest writes, and the best of those that compete. -/
theorem winner_best {p : Bool} (h : s.winner l ws = some (w, p)) :
    w ∈ latestWrites ws ∧ (p = true → s.protective l w.val = true) ∧
      ∀ x ∈ latestWrites ws, (p = true → s.protective l x.val = true) → NoWorse w x := by
  obtain ⟨hb, hbest⟩ := bestWrite_spec (winner_spec h).1
  cases p with
  | false => exact ⟨hb, by simp, fun x hx _ => hbest x hx⟩
  | true =>
    obtain ⟨hmem, hpr⟩ := List.mem_filter.1 hb
    exact ⟨hmem, fun _ => hpr, fun x hx hp => hbest x (List.mem_filter.2 ⟨hx, hp rfl⟩)⟩

/-- Where every write carries one value, none is superseded. -/
theorem resolve_agreed (s : State) (l : Loc) {v at_ : Nat} (hne : ws ≠ []) (hv : ∀ x ∈ ws, x.val = v) :
    s.resolve l ws none at_ = (some v, s) := by
  obtain ⟨w, p, hw⟩ := winner_exists s l hne
  have hlatest : ∀ x ∈ latestWrites ws, x.val = v := fun x hx => hv x (latestWrites_subset x hx)
  have hwv : w.val = v := hlatest w (winner_best hw).1
  have hlost : (latestWrites ws).filter (fun x => decide (x.val ≠ w.val)) = [] :=
    List.filter_eq_nil_iff.2 fun x hx => by simp [hlatest x hx, hwv]
  unfold State.resolve
  dsimp only
  rw [hw]
  dsimp only
  rw [hlost, hwv]
  simp [State.supersede, lastSuperseded]

/-- Settles O54: the winner is the best of the competing latest writes. -/
theorem arbitrationWinner : Obligations.ArbitrationWinner := by
  unfold Obligations.ArbitrationWinner
  refine ⟨fun s l ws h => winner_exists s l h, fun s l ws w p h => ?_, fun s l ws v at_ => resolve_agreed s l⟩
  obtain ⟨hmem, hpr, hbest⟩ := winner_best h
  exact ⟨hmem, (winner_spec h).2, hpr, hbest⟩

end Sys2Proof.Machine
end

section
/-! PROOFS. A port's write that no chapter takes at once (O52, O55): it is refused, with the record of that, or waits. -/

namespace Sys2Proof.Machine

variable {s t u : State} {c : Cls} {agent pg off data code : Nat} {ls : List Loc}

/-! ### Refusals -/

/-- A refusal changes registers and what carries events, and nothing else of a state. -/
theorem refuse_eventless (s : State) (c : Cls) (a code : Nat) : (s.refuse c a code).eventless = s.eventless :=
  raise_eventless _ _ _

theorem refuseWrite_of_ne_mgmt (hc : c ≠ .mgmt) (a : Nat) : s.refuseWrite c a code = s.refuse c a code := if_neg hc

/-- A word that check 2 or 3 of R45 refuses is answered at once. -/
theorem arrive_wordRefused (hd : s.deaf = false) (ha : assigned pg = true) (h : s.wordRefusal c pg off (data % 2 ^ 32) = some code) :
    (s.arrive c agent pg off data ls).2 = (s.refuseWrite c (regAddr pg off) code).reply c [] code := by
  unfold State.arrive
  rw [if_neg (by simp [hd]), if_neg (by simp [ha]), h]

/-! ### CONTROLLER.CTRL -/

theorem right_ne_ctrl (p q : Nat) (c : Cls) : (HDR.RIGHT p c).key ≠ (HDR.CTRL q).key := by
  have : c.code < 6 := by cases c <;> decide
  simp only [Loc.key, HDR.RIGHT, HDR.CTRL]
  omega

theorem mode_ne_ctrl (q : Nat) : DEVICE.MODE.key ≠ (HDR.CTRL q).key := by
  simp only [Loc.key, DEVICE.MODE, HDR.CTRL]
  omega

@[simp] theorem setCtrl_right (s : State) (q v p : Nat) (c : Cls) : (s.set (HDR.CTRL q) v).right p c = s.right p c :=
  get_set_other _ _ (right_ne_ctrl p q c)

@[simp] theorem setCtrl_testPortAllows (s : State) (q v : Nat) (c : Cls) (w : Bool) (p off data : Nat) :
    (s.set (HDR.CTRL q) v).testPortAllows c w p off data = s.testPortAllows c w p off data := by
  have hm : (s.set (HDR.CTRL q) v).mode = s.mode := get_set_other _ _ (mode_ne_ctrl q)
  simp only [State.testPortAllows, hm]

/-- CTRL excludes a class that it bears on and does not name. -/
theorem wordRefusal_uncontrolled (hc : c ≠ .test) (h : s.controls pg c = false) : s.wordRefusal c pg off data = some stDENIED := by
  have ht : s.testPortAllows c true pg off data = true := by
    cases c with
    | test => exact absurd rfl hc
    | _ => rfl
  simp [State.wordRefusal, ht, State.pageRefusal, h]

theorem readWord_status (s : State) (c : Cls) (pg off : Nat) :
    (s.readWord c pg off).1 = if s.testPortAllows c false pg off 0 = false ∨ s.right pg c < 1 then stDENIED else stOK := by
  unfold State.readWord
  split
  · rfl
  · split <;> rfl

/-- Settles O52: what CTRL excludes is refused at check 3 of R45, and no other check or read looks at CTRL. -/
theorem controllerNames : Obligations.ControllerNames := by
  unfold Obligations.ControllerNames
  refine ⟨fun s agent addr data c hd hr ha has h => ?_, fun s c pg off data v hc => ?_, fun s c pg off v => ?_⟩
  · have hctl : s.controls (pageOf addr) c = false := by rcases h with ⟨rfl, h⟩ | ⟨rfl, h⟩ <;> exact h
    have hm : c ≠ .mgmt := by rcases h with ⟨rfl, -⟩ | ⟨rfl, -⟩ <;> decide
    have ht : c ≠ .test := by rcases h with ⟨rfl, -⟩ | ⟨rfl, -⟩ <;> decide
    have hu := refuse_eventless s c (regAddr (pageOf addr) (offOf addr)) stDENIED
    refine ⟨(s.refuse c (regAddr (pageOf addr) (offOf addr)) stDENIED).reply c [] stDENIED, ?_, rfl, (congrArg State.windows hu :),
      (congrArg State.triggers hu :), (congrArg State.mem hu :), ((SameRegs.refl s).refuse fun _ hk => hk).reply⟩
    simp only [exec_regWrite, execRegWrite, hd, hm, hr, ha, arrive_wordRefused hd has (wordRefusal_uncontrolled ht hctl),
      refuseWrite_of_ne_mgmt hm]
    simp
  · have hctl : ∀ u : State, u.controls pg c = true := fun u => by rcases hc with rfl | rfl | rfl | rfl <;> rfl
    simp [State.wordRefusal, State.pageRefusal, hctl]
  · simp [readWord_status]

/-! ### The fields of a word -/

/-- A field of a word stands in the row that covers the word. -/
theorem mem_findWord {rows : List WordRow} {l : Loc} (hl : l ∈ findWord rows off) :
    ∃ r ∈ rows, r.off ≤ off ∧ (off - r.off) % r.stride = 0 ∧ (off - r.off) / r.stride < r.cnt ∧ l ∈ r.locs ((off - r.off) / r.stride) := by
  unfold findWord at hl
  split at hl
  next r hr =>
    have hc := List.find?_some hr
    simp only [decide_eq_true_eq] at hc
    obtain ⟨h1, h2, h3⟩ := hc
    exact ⟨r, List.mem_of_find?_eq_some hr, h1, h2, h3, hl⟩
  next => exact absurd hl List.not_mem_nil

/-- Every field of the rows lies on page `pg`. -/
def OnPage (pg : Nat) (rows : List WordRow) : Prop :=
  rows.map (fun r i => (r.locs i).map Loc.page) = rows.map (fun r i => (r.locs i).map (fun _ => pg))

namespace OnPage

variable {rows rows' : List WordRow}

theorem ite {p : Prop} {_ : Decidable p} (h : p → OnPage pg rows) (h' : OnPage pg rows') : OnPage pg (if p then rows else rows') := by
  split
  next hp => exact h hp
  next => exact h'

theorem of_eq {q : Nat} (h : pg = q) (hr : OnPage q rows) : OnPage pg rows := h ▸ hr

theorem of_le {base : Nat} (h : base ≤ pg) (f : Nat → List WordRow) (hf : ∀ n, OnPage (base + n) (f n)) : OnPage pg (f (pg - base)) := by
  have := hf (pg - base)
  rwa [Nat.add_sub_cancel' h] at this

theorem page_eq (h : OnPage pg rows) {l : Loc} (hl : l ∈ findWord rows off) : l.page = pg := by
  obtain ⟨r, hr, -, -, -, hl⟩ := mem_findWord hl
  exact List.map_inj_left.1 (congrFun (List.map_inj_left.1 h r hr) _) l hl

end OnPage

theorem LO.words_onPage (n : Nat) : OnPage (0x005 + n) (LO.words n) := by
  by_cases h : n = 0 <;> simp only [LO.words, h, if_true, if_false] <;> rfl

theorem BEAM.words_onPage (n : Nat) : OnPage (0x0A0 + n) (BEAM.words n) := by
  by_cases h : n = 0 <;> simp only [BEAM.words, h, if_true, if_false] <;> rfl

theorem CK.words_onPage (n : Nat) : OnPage (0x0B4 + n) (CK.words n) := by
  by_cases h : n < 2 <;> simp only [CK.words, h, if_true, if_false] <;> rfl

/-- The register map puts every field of a page's words on that page. -/
theorem pageWords_onPage (pg : Nat) : OnPage pg (pageWords pg) :=
  .ite (fun h => .of_eq h rfl) <|
  .ite (fun h => .of_eq h rfl) <|
  .ite (fun h => .of_eq h rfl) <|
  .ite (fun h => .of_eq h rfl) <|
  .ite (fun h => .of_eq h rfl) <|
  .ite (fun h => .of_le h.1 _ LO.words_onPage) <|
  .ite (fun h => .of_eq h rfl) <|
  .ite (fun h => .of_eq h rfl) <|
  .ite (fun h => .of_eq h rfl) <|
  .ite (fun h => .of_le h.1 _ fun _ => rfl) <|
  .ite (fun h => .of_le h.1 _ fun _ => rfl) <|
  .ite (fun h => .of_le h.1 _ fun _ => rfl) <|
  .ite (fun h => .of_le h.1 _ fun _ => rfl) <|
  .ite (fun h => .of_le h.1 _ BEAM.words_onPage) <|
  .ite (fun h => .of_le h.1 _ fun _ => rfl) <|
  .ite (fun h => .of_eq h rfl) <|
  .ite (fun h => .of_eq h rfl) <|
  .ite (fun h => .of_eq h rfl) <|
  .ite (fun h => .of_eq h rfl) <|
  .ite (fun h => .of_eq h rfl) <|
  .ite (fun h => .of_eq h rfl) <|
  .ite (fun h => .of_eq h rfl) <|
  .ite (fun h => .of_eq h rfl) <|
  .ite (fun h => .of_eq h rfl) <|
  .ite (fun h => .of_le h.1 _ fun _ => rfl) <|
  .ite (fun h => .of_eq h rfl) <|
  .ite (fun h => .of_eq h rfl) <|
  .ite (fun h => .of_eq h rfl) <|
  .ite (fun h => .of_eq h rfl) <|
  .ite (fun h => .of_eq h rfl) <|
  .ite (fun h => .of_le h.1 _ CK.words_onPage) <|
  .ite (fun h => .of_le h.1 _ fun _ => rfl) <|
  .ite (fun h => .of_le h.1 _ fun _ => rfl) <|
  .ite (fun h => .of_eq h rfl) <|
  .ite (fun h => .of_eq h rfl) <|
  .ite (fun h => .of_eq h rfl) <|
  .ite (fun h => .of_eq h rfl) <|
  .ite (fun h => .of_eq h rfl) <|
  .ite (fun h => .of_eq h rfl) <|
  .ite (fun h => .of_eq h rfl) <|
  .ite (fun h => .of_eq h rfl) <|
  .ite (fun h => .of_le h.1 _ fun _ => rfl) <|
  .ite (fun h => .of_eq h rfl) <|
  .ite (fun h => .of_le h.1 _ fun _ => rfl) <|
  .ite (fun h => .of_le h.1 _ fun _ => rfl) <|
  .ite (fun h => .of_eq h rfl) <|
  .ite (fun h => .of_eq h rfl) <|
  .ite (fun h => .of_eq h rfl) <|
  .ite (fun h => .of_eq h rfl) <|
  .ite (fun h => .of_eq h rfl) <|
  .ite (fun h => .of_eq h rfl) <|
  .ite (fun h => .of_eq h rfl) <|
  .ite (fun h => .of_eq h rfl) <|
  .ite (fun h => .of_eq h rfl) <|
  .ite (fun h => .of_eq h rfl) <|
  .ite (fun h => .of_eq h rfl) <|
  .ite (fun h => .of_eq h rfl) <|
  .ite (fun h => .of_eq h rfl) <|
  rfl

/-- Every field of the list lies in the word at `off` of page `pg`. -/
def OnWord (pg off : Nat) (ls : List Loc) : Prop := ∀ l ∈ ls, l.page = pg ∧ l.off = off

namespace OnWord

variable {ls' : List Loc}

theorem ite {p : Prop} {_ : Decidable p} (h : p → OnWord pg off ls) (h' : OnWord pg off ls') :
    OnWord pg off (if p then ls else ls') := by
  split
  next hp => exact h hp
  next => exact h'

theorem of_eq {o : Nat} (h : off = o) (e : ls.map (fun l => (l.page, l.off)) = ls.map (fun _ => (pg, o))) : OnWord pg off ls :=
  fun l hl => Prod.mk.inj (h ▸ List.map_inj_left.1 e l hl)

end OnWord

theorem headerWord_onWord (pg off : Nat) : OnWord pg off (headerWord pg off) :=
  .ite (fun h => .of_eq h rfl) <| .ite (fun h => .of_eq h rfl) <| .ite (fun h => .of_eq h rfl) <| .ite (fun h => .of_eq h rfl) <|
  .ite (fun h => .of_eq h rfl) <| .ite (fun h => .of_eq h rfl) <| .ite (fun h => .of_eq h rfl) <| .ite (fun h => .of_eq h rfl) <|
  .ite (fun _ _ hl => absurd hl List.not_mem_nil) <|
  .ite (fun h => .of_eq h rfl) <| .ite (fun h => .of_eq h rfl) <| .ite (fun h => .of_eq h rfl) fun _ hl => absurd hl List.not_mem_nil

theorem wordLocs_page {l : Loc} (hl : l ∈ wordLocs pg off) : l.page = pg := by
  unfold wordLocs at hl
  split at hl
  next => exact absurd hl List.not_mem_nil
  next =>
    split at hl
    next => exact (headerWord_onWord _ _ _ hl).1
    next => exact (pageWords_onPage pg).page_eq hl

/-- ENQ_CODE lies in one word. -/
theorem enqCode_mem (h : TIMELINE0.ENQ_CODE ∈ wordLocs pg off) : pg = 0x0A8 ∧ off = 0x054 := by
  obtain rfl : 0x0A8 = pg := wordLocs_page h
  refine ⟨rfl, ?_⟩
  have hrow : ∀ r ∈ TIMELINE0.words, r.stride = 4 ∧ r.cnt = 1 ∧ (TIMELINE0.ENQ_CODE ∈ r.locs 0 → r.off = 0x054) := by decide
  unfold wordLocs at h
  rw [if_neg (by decide)] at h
  split at h
  next => exact (headerWord_onWord _ _ _ h).2.symm
  next =>
    obtain ⟨r, hr, hle, hmod, hlt, hl⟩ := mem_findWord h
    obtain ⟨hs, hc, ho⟩ := hrow r hr
    rw [hs] at hmod hlt hl
    rw [hc] at hlt
    rw [Nat.lt_one_iff.1 hlt] at hl
    have := ho hl
    omega

theorem enqCode_mem_parts (h : TIMELINE0.ENQ_CODE ∈ wordParts pg off data) : pg = 0x0A8 ∧ off = 0x054 := by
  refine enqCode_mem ?_
  rcases List.mem_append.1 h with h | h
  · exact (List.mem_filter.1 h).1
  · exact (List.mem_filter.1 h).1

/-! ### Writes wait (O55) -/

/-- From `s` to `t` memory, OTP, the banks, time and paths stay, no register changes but the record of a refusal, and the writes
that wait still wait. -/
structure State.OnlyWaits (s t : State) : Prop where
  units : (t.mem, t.otp, t.bank, t.tb, t.paths) = (s.mem, s.otp, s.bank, s.tb, s.paths)
  regs : SameRegs refusalKeys s t
  windows : s.windows.map Window.loc <+: t.windows.map Window.loc
  triggers : s.triggers <+: t.triggers

namespace State.OnlyWaits

theorem refl (s : State) : s.OnlyWaits s := ⟨rfl, .refl s, List.prefix_refl _, List.prefix_refl _⟩

/-- Other units change. -/
theorem other (h : s.OnlyWaits t)
    (e : (u.regs, u.windows, u.triggers, u.mem, u.otp, u.bank, u.tb, u.paths) =
      (t.regs, t.windows, t.triggers, t.mem, t.otp, t.bank, t.tb, t.paths)) : s.OnlyWaits u := by
  simp only [Prod.mk.injEq] at e
  obtain ⟨hr, hw, ht, hm, ho, hb, htb, hp⟩ := e
  exact ⟨by rw [hm, ho, hb, htb, hp, h.units], h.regs.of_regs hr, by rw [hw]; exact h.windows, by rw [ht]; exact h.triggers⟩

theorem reply {d : List Nat} {st : Nat} (h : s.OnlyWaits t) : s.OnlyWaits (t.reply c d st) := h.other rfl

theorem refuse {a : Nat} (h : s.OnlyWaits t) : s.OnlyWaits (t.refuse c a code) := by
  have hu := refuse_eventless t c a code
  have hw : (t.refuse c a code).windows = t.windows := (congrArg State.windows hu :)
  have ht : (t.refuse c a code).triggers = t.triggers := (congrArg State.triggers hu :)
  exact ⟨(congrArg (fun x : State => (x.mem, x.otp, x.bank, x.tb, x.paths)) hu :).trans h.units, h.regs.refuse fun _ hk => hk,
    by rw [hw]; exact h.windows, by rw [ht]; exact h.triggers⟩

theorem refuseWrite {a : Nat} (h : s.OnlyWaits t) : s.OnlyWaits (t.refuseWrite c a code) := by
  unfold State.refuseWrite
  extract_lets t'
  have h' : s.OnlyWaits t' := h.refuse
  split
  · exact h'.other rfl
  · exact h'

theorem joinWindow {l : Loc} {w : WinWrite} (h : s.OnlyWaits t) : s.OnlyWaits (t.joinWindow l w) := by
  unfold State.joinWindow
  split
  · have e : (t.windows.map (fun x => if x.loc = l then { x with writes := x.writes ++ [w] } else x)).map Window.loc =
        t.windows.map Window.loc := by
      rw [List.map_map]
      refine List.map_congr_left fun x _ => ?_
      by_cases hx : x.loc = l <;> simp [hx]
    exact ⟨h.units, h.regs.of_regs rfl, by rw [e]; exact h.windows, h.triggers⟩
  · refine ⟨h.units, h.regs.of_regs rfl, ?_, h.triggers⟩
    rw [List.map_append]
    exact h.windows.trans (List.prefix_append _ _)

theorem joinPart {id : Nat} {l : Loc} (h : s.OnlyWaits t) : s.OnlyWaits (t.joinPart c agent id data l) := by
  unfold State.joinPart
  split
  · exact h.joinWindow
  · exact ⟨h.units, h.regs.of_regs rfl, h.windows, h.triggers.trans (List.prefix_append _ _)⟩

theorem noField (h : s.OnlyWaits t) : s.OnlyWaits (t.noField c pg off) := by
  unfold State.noField
  split
  · exact h
  · split
    · exact h.refuseWrite.reply
    · exact h.reply

/-- A word arrives that is no entry of a set table and no push. -/
theorem arrive (h : s.OnlyWaits t) (hq : TIMELINE0.ENQ_CODE ∉ ls) (hp : pg ≠ 0x0A8 ∨ off ≠ 0x054) (h2 : pg ≠ 0x0A2)
    (h3 : pg ≠ 0x0A3) : s.OnlyWaits (t.arrive c agent pg off data ls).2 := by
  unfold State.arrive
  split
  · exact h
  split
  · exact h.noField
  split
  · exact h.refuseWrite.reply
  extract_lets codes good joins id t1 t2 t3 t4
  have h1 : s.OnlyWaits t1 := by
    show s.OnlyWaits (if _ then _ else _)
    split
    · exact h
    · exact h.refuseWrite
  have e2 : t2 = t1 := by
    show (if _ then _ else _) = _
    rw [if_neg (by tauto), if_neg (by tauto)]
  have e3 : t3 = t2 := if_neg (by simp [good, hq])
  have h3 : s.OnlyWaits t3 := by rw [e3, e2]; exact h1
  have h4 : s.OnlyWaits t4 := List.foldlRecOn (motive := fun u => s.OnlyWaits u) joins _ h3 fun _ hu _ _ => hu.joinPart
  split
  · exact h3.reply
  · exact h4.other rfl

end State.OnlyWaits

/-- Settles O55: a word that arrives is refused, or joins its windows and triggers. -/
theorem writesOnlyWait : Obligations.WritesOnlyWait := by
  unfold Obligations.WritesOnlyWait
  intro s c agent size addr data hc hq h2 h3
  have hparts : ∀ d, TIMELINE0.ENQ_CODE ∉ wordParts (pageOf addr) (offOf addr) d := fun d hm => by
    obtain ⟨hp, ho⟩ := enqCode_mem_parts hm
    exact hq.elim (fun h => h hp) fun h => h ho
  suffices h : ∃ t : State, exec (.regWrite c agent size addr data) s = .next t ∧ s.OnlyWaits t by
    obtain ⟨t, ht, hw⟩ := h
    have hu := hw.units
    simp only [Prod.mk.injEq] at hu
    obtain ⟨hm, ho, hb, htb, hp⟩ := hu
    exact ⟨t, ht, hm, ho, hb, htb, hp, hw.regs, hw.windows, hw.triggers⟩
  refine ⟨_, rfl, ?_⟩
  split
  · exact .refl s
  split
  next hs =>
    obtain ⟨hm, hoff⟩ := hs
    exact absurd (hc.resolve_left fun h => h hm) (by rw [hoff]; decide)
  split
  · exact (State.OnlyWaits.refl s).refuseWrite.reply
  · exact (State.OnlyWaits.refl s).arrive (hparts _) hq h2 h3

end Sys2Proof.Machine
end

section
/-! PROOFS. Words of several parts that meet no other (R45, R57, R60), and what a header field does when it takes effect: the
step of a header word, on any page. -/

namespace Sys2Proof.Machine

variable {s x : State} {c : Cls} {agent pg off data : Nat} {l : Loc} {ls : List Loc}

/-! ### The arrival of a word -/

/-- The number with which a word that meets no other is noted, and its parts. -/
def oneWord (c : Cls) (pg off n : Nat) : List WordSt := [⟨1, c, regAddr pg off, stOK, false, n⟩]

theorem joinPart_units (s : State) (c : Cls) (agent id data : Nat) (l : Loc) :
    (s.joinPart c agent id data l).words = s.words ∧ (s.joinPart c agent id data l).aside = s.aside := by
  unfold State.joinPart State.joinWindow
  split
  · split <;> exact ⟨rfl, rfl⟩
  · exact ⟨rfl, rfl⟩

/-- The parts of a word that meets no other, none refused, join their windows and triggers. `hv`: its page has no events of
arrival. -/
theorem arrive_parts (hd : s.deaf = false) (ha : assigned pg = true) (hw : s.wordRefusal c pg off (data % 2 ^ 32) = none)
    (hp : ∀ l ∈ ls, s.partRefusal c data l = none) (he : TIMELINE0.ENQ_CODE ∉ ls) (hne : ls ≠ [])
    (hv : s.arriveEvents pg off data [] = s) (ht : s.triggers = []) (hn : s.words = []) :
    s.arrive c agent pg off data ls = (some 1,
      { ls.foldl (fun s l => s.joinPart c agent 1 data l) s with words := oneWord c pg off ls.length }) := by
  have hc : ls.filterMap (s.partRefusal c data) = [] := List.filterMap_eq_nil_iff.2 hp
  have hg : ls.filter (fun l => (s.partRefusal c data l).isNone) = ls := List.filter_eq_self.2 fun l hl => by rw [hp l hl]; rfl
  have hj : ls.filter (fun l => l != TIMELINE0.ENQ_CODE && !s.triggerMerges c agent l) = ls :=
    List.filter_eq_self.2 fun l hl => by
      have hle : l ≠ TIMELINE0.ENQ_CODE := fun e => he (e ▸ hl)
      simp [hle, State.triggerMerges, ht]
  have hi : s.newWord = 1 := by simp [State.newWord, hn]
  have hq : ls.contains TIMELINE0.ENQ_CODE = false := by simpa using he
  have hwords : (ls.foldl (fun s l => s.joinPart c agent 1 data l) s).words = [] :=
    List.foldlRecOn (motive := fun u : State => u.words = []) ls _ hn fun u hu l _ => (joinPart_units u c agent 1 data l).1.trans hu
  unfold State.arrive
  rw [if_neg (by simp [hd]), if_neg (by simp [ha]), hw, hc, hg]
  simp only [hj, hv, hi, hq, hne, hwords, if_true, if_false, Bool.false_eq_true, List.nil_append]
  rfl

/-- The tick on which a word takes effect, with the parts that wait for it. -/
def State.dueState (s u : State) : State := ((s.afterTicks 8).waiting u).dueAt (s.ao + 8)

/-- A word that arrived as `u`, with nothing due before 8 ticks are over. -/
theorem carry_parts {u : State} (hr : ({ s with acks := [] } : State).arrive c agent pg off data ls = (some 1, u))
    (hn : ∀ d, u.nextDue = some d → s.ao + 7 < d) (ha : u.aside = s.aside) :
    s.carry c agent pg off data ls = (s.dueState u).answered 1 := by
  have h8 : u.pass s.ao 8 = s.dueState u := by
    rw [pass_due 7 s.ao hn, ← afterTicks_aside, ha, afterTicks_aside]
    rfl
  unfold State.carry
  rw [hr]
  exact congrArg (fun t : State => t.answered 1) h8

theorem takes_iff {l : Loc} : s.takes c l data = true ↔ s.quiet = true ∧ assigned l.page = true ∧
    s.wordRefusal c l.page l.off (data % 2 ^ 32) = none ∧ s.partRefusal c data l = none := by
  simp only [State.takes, Bool.and_eq_true, Option.isNone_iff_eq_none, and_assoc]

/-! ### Header fields -/

/-- A page with fewer than 512 others before it: every assigned one. -/
theorem assigned_lt (h : assigned pg = true) : pg < 0x200 := by
  by_contra hge
  have h0 : pageId pg = (0, 0) := by
    unfold pageId
    repeat rw [if_neg (by omega)]
  simp [assigned, h0] at h

/-- A field of the header is none of a chapter's. -/
theorem header_ne {m : Loc} (hl : l.off < 0x02C) (hm : Nat.ble 0x02C m.off = true) : l ≠ m := fun e => by
  have := Nat.le_of_ble_eq_true hm
  rw [← e] at this
  omega

theorem isPerClass_header (hl : l.off < 0x02C) : isPerClass l = false := by
  have hne : ∀ m : Loc, Nat.ble 0x02C m.off = true → (l == m) = false := fun m hm => beq_eq_false_iff_ne.2 (header_ne hl hm)
  unfold isPerClass
  iterate 10 rw [hne _ (by rfl)]
  rfl

/-- No hardware safety condition holds a header field (R59). -/
theorem fieldHeld_header (s : State) (hl : l.off < 0x02C) : s.fieldHeld l = none := by
  have hm : ¬(isTxPage l.page ∧ l = TXPATH.TX_MUTE (pathOf l.page) ∨ l = CAL0.TX_MUTE) := fun h => by
    rcases h with ⟨-, h⟩ | h
    · exact header_ne hl (by rfl) h
    · exact header_ne hl (by rfl) h
  rw [State.fieldHeld, if_neg hm, if_neg (by omega)]

/-- A header field but EVT_EN and those of ACCESS is stored as written. -/
theorem fieldClip_header (s : State) (v : Nat) (hl : l.off < 0x02C) (he : l.off ≠ 0x010) (hr : l.off ≠ 0x018) :
    s.fieldClip l v = v := by
  have hne : ∀ m : Loc, Nat.ble 0x02C m.off = true → l ≠ m := fun m hm => header_ne hl hm
  have ho : ∀ n, Nat.ble 0x02C n = true → l.off ≠ n ∧ ¬n ≤ l.off := fun n hn => by
    have := Nat.le_of_ble_eq_true hn
    omega
  unfold State.fieldClip
  simp [he, hr, ho 0x040 rfl, ho 0x044 rfl, ho 0x050 rfl, ho 0x04C rfl, ho 0x080 rfl, ho 0x200 rfl,
    hne (BEAM.SHIFT 0) rfl, hne DPD0.CAP_LEN rfl,
    hne ERL0.LANES_US rfl, hne ERL0.LANES_DS rfl, hne ERL0.LAT_UL rfl, hne ERL0.LAT_DL rfl, hne SOUND0.MAX_ITER rfl, hne AVS.V_START rfl,
    hne AVS.VMAX rfl, hne AVS.VMIN rfl]

/-- The effect of a header field that is stored as written. -/
theorem fieldEff_header (s : State) (c : Cls) (v : Nat) (hl : l.off < 0x02C) (he : l.off ≠ 0x010) (hr : l.off ≠ 0x018)
    (ha : l.acc ≠ .rws) : s.fieldEff c l v = s.headerWritten l v := by
  rw [State.fieldEff, fieldClip_header s v hl he hr]
  simp [ha, hl]

/-- The window of a header field that has one write closes: the write's value takes effect, and its word has one part less to
wait for. -/
theorem closeWindow_header {w : WinWrite} {at_ : Nat} (hx : x.windows = [⟨l, at_, [w]⟩]) (hl : l.off < 0x02C) (hp : l.page < 0x200) :
    x.closeWindow ⟨l, at_, [w]⟩ = (({ x with windows := [] } : State).credit w.word false).fieldEff w.cls l w.val := by
  have e : { x with windows := x.windows.filter (fun y => decide (y.loc ≠ l)) } = { x with windows := [] } := by simp [hx]
  have hcl : x.windowClass ⟨l, at_, [w]⟩ = w.cls := by
    obtain ⟨p, hp⟩ := winner_one x l w
    simp [State.windowClass, hp]
  have ht : x.takeWindow ⟨l, at_, [w]⟩ = (some w.val, ({ x with windows := [] } : State).credit w.word false) := by
    unfold State.takeWindow
    simp only [e, fieldHeld_header _ hl, resolve_one]
    simp [State.creditAll, latestWrites]
  unfold State.closeWindow
  simp only [hcl, ht, header_ne hl (m := BCAST0.STD) rfl, header_ne hl (m := BCAST0.FREQ) rfl,
    header_ne hl (m := AUXDAC.RANGE ((l.off - 0x040) / 4)) (by simp [AUXDAC.RANGE]; omega),
    header_ne hl (m := AUXDAC.CODE ((l.off - 0x040) / 4)) (by simp [AUXDAC.CODE]; omega), or_self, and_false, if_false,
    Nat.not_le.2 hp]

/-! ### One header field (R34, R57) -/

/-- The word of one header field, on any page: 8 ticks on the field takes effect, and the word is answered. -/
theorem rowField_header {v : Nat} (h : s.accepts c l v = true) (ha : Loc.arbitrated l = true) (hl : l.off < 0x02C)
    (hv : ({ s with acks := [] } : State).arriveEvents l.page l.off (trunc l.wid v * 2 ^ l.lo) [] = { s with acks := [] }) :
    s.rowField c agent l v = (((s.ripe c l).credit 1 false).fieldEff c l (trunc l.wid v)).answered 1 := by
  obtain ⟨hq, has, hw, hp⟩ := takes_iff.1 (Bool.and_eq_true .. ▸ h).1
  obtain ⟨h1, h2, h3, hd⟩ := quiet_parts hq
  have he : TIMELINE0.ENQ_CODE ∉ [l] := fun hm => header_ne hl (m := TIMELINE0.ENQ_CODE) rfl (List.mem_singleton.1 hm).symm
  have hr := arrive_parts (agent := agent) (s := { s with acks := [] }) (ls := [l]) hd has hw
    (List.forall_mem_singleton.2 hp) he (List.cons_ne_nil _ _) hv h2 h3
  have hf := joinPart_field (s := { s with acks := [] }) (c := c) (agent := agent) (id := 1)
    (data := trunc l.wid v * 2 ^ l.lo) ha (isPerClass_header hl) h1 (oneWord c l.page l.off 1)
  rw [bits_field] at hf
  simp only [List.foldl_cons, List.foldl_nil, List.length_singleton] at hr
  generalize { (({ s with acks := [] } : State).joinPart c agent 1 (trunc l.wid v * 2 ^ l.lo) l) with
    words := oneWord c l.page l.off 1 } = u at hr hf
  obtain ⟨u1, f2, u3, u4, f5, f6, f7⟩ := hf
  have u2 : u.triggers = [] := f2.trans h2
  have hc := carry_parts hr (by
    intro d e; simp [State.nextDue, u1, u2] at e; omega) f7
  rw [State.dueState,
    close_window (x := (s.afterTicks 8).waiting u) (w := ⟨l, s.ao, [⟨c, agent, trunc l.wid v, s.ao, 1⟩]⟩) u1 u2 rfl,
    closeWindow_header (x := (s.afterTicks 8).waiting u) u1 hl (assigned_lt has)] at hc
  have e : ({ (s.afterTicks 8).waiting u with windows := [] } : State) = s.ripe c l := by
    rw [← waiting_ripe (u := u) u3 u4]
    simp [State.waiting, u2]
  rw [State.rowField, hc, e]

/-- An answer changes nothing but the answer. -/
theorem answered_eq (s : State) (id : Nat) : ∃ a, s.answered id = { s with answer := a } := by
  unfold State.answered
  split
  · exact ⟨_, rfl⟩
  · exact ⟨s.answer, rfl⟩

end Sys2Proof.Machine
end

section
/-! PROOFS. EN during a shut-down (O51). A frame for the end of a sequence: what a page's chapter does besides touches neither EN
nor ACT of any page, and clears no event. As for `State.Sound`, the proof of `State.HeadKept.f` is the body of `State.f` with the
frame `h` in the place of the state. -/

namespace Sys2Proof.Machine

variable {s t u : State} {c : Cls} {agent pg : Nat}

/-! ### The frame -/

/-- The places in a page of EN and ACT. -/
def headPlaces : List Nat := [32, 64]

/-- The number is that of a field outside the frame: of no page's EN, ACT or EVT. -/
def offHead (k : Nat) : Bool := !(headPlaces.contains (k % 32768)) && k % 32768 != 96

/-- From `s` to `t` EN and ACT of every page keep their values, and no event is cleared. -/
structure State.HeadKept (s t : State) : Prop where
  regs : ∀ l : Loc, l.key % 32768 ∈ headPlaces → t.get l = s.get l
  evt : ∀ q b, b < 32 → bitOf (s.get (HDR.EVT q)) b = true → bitOf (t.get (HDR.EVT q)) b = true

theorem headPlace_en (pg : Nat) : (HDR.EN pg).key % 32768 ∈ headPlaces := by
  have : (HDR.EN pg).key % 32768 = 32 := by simp only [Loc.key, HDR.EN]; omega
  rw [this]; decide

theorem headPlace_act (pg : Nat) : (HDR.ACT pg).key % 32768 ∈ headPlaces := by
  have : (HDR.ACT pg).key % 32768 = 64 := by simp only [Loc.key, HDR.ACT]; omega
  rw [this]; decide

theorem evt_place (pg : Nat) : (HDR.EVT pg).key % 32768 = 96 := by simp only [Loc.key, HDR.EVT]; omega

/-- A field of a chapter: at 0x02C or above in its page. -/
def onBlock (l : Loc) : Bool := Nat.ble 0x02C l.off && Nat.blt l.off 4096 && Nat.blt l.lo 32

theorem offHead_block {l : Loc} (h : onBlock l = true) : offHead l.key = true := by
  simp only [onBlock, Bool.and_eq_true, Nat.ble_eq, Nat.blt_eq] at h
  obtain ⟨⟨ho, hp⟩, hl⟩ := h
  simp only [offHead, headPlaces, key_mod_page hp hl, List.contains_cons, List.contains_nil, Bool.or_false, Bool.and_eq_true,
    Bool.not_eq_true', Bool.or_eq_false_iff, beq_eq_false_iff_ne, bne_iff_ne]
  omega

/-- The header's fields outside the frame. -/
theorem offHead_header (q : Nat) :
    offHead (HDR.TRANS q).key = true ∧ offHead (HDR.ERR q).key = true ∧ offHead (HDR.STALE q).key = true := by
  have hk : (HDR.TRANS q).key % 32768 = 65 ∧ (HDR.ERR q).key % 32768 = 66 ∧ (HDR.STALE q).key % 32768 = 67 := by
    simp only [Loc.key, HDR.TRANS, HDR.ERR, HDR.STALE]
    omega
  simp only [offHead, hk]
  decide

namespace State.HeadKept

theorem refl (s : State) : s.HeadKept s := ⟨fun _ _ => rfl, fun _ _ _ h => h⟩

theorem trans (h : s.HeadKept t) (h' : t.HeadKept u) : s.HeadKept u :=
  ⟨fun l hl => (h'.regs l hl).trans (h.regs l hl), fun q b hb he => h'.evt q b hb (h.evt q b hb he)⟩

/-- Fields outside the frame change. -/
theorem of_get (h : s.HeadKept t) (e : ∀ l : Loc, offHead l.key = false → u.get l = t.get l) : s.HeadKept u := by
  refine h.trans ⟨fun l hl => e l ?_, fun q b _ hb => ?_⟩
  · simp [offHead, hl]
  · rw [e _ (by simp [offHead, evt_place])]
    exact hb

/-- Units other than registers change. -/
theorem other (h : s.HeadKept t) (e : u.regs = t.regs) : s.HeadKept u := h.of_get fun l _ => get_of_regs e l

theorem upon {p : Prop} {_ : Decidable p} (h : s.HeadKept t) (f : s.HeadKept t → s.HeadKept u) :
    s.HeadKept (if p then u else t) := by
  split
  · exact f h
  · exact h

theorem except {p : Prop} {_ : Decidable p} (h : s.HeadKept t) (f : s.HeadKept t → s.HeadKept u) :
    s.HeadKept (if p then t else u) := by
  split
  · exact h
  · exact f h

theorem ite {p : Prop} {_ : Decidable p} (h : s.HeadKept t) (h' : s.HeadKept u) : s.HeadKept (if p then t else u) := by
  split
  · exact h
  · exact h'

theorem foldl {α : Type} {l : List α} {f : State → α → State} (h : s.HeadKept t)
    (hf : ∀ {u a}, a ∈ l → s.HeadKept u → s.HeadKept (f u a)) : s.HeadKept (l.foldl f t) :=
  List.foldlRecOn (motive := fun u => s.HeadKept u) l f h fun _ hu _ ha => hf ha hu

theorem setOff {l : Loc} {v : Nat} (h : s.HeadKept t) (hl : offHead l.key = true) : s.HeadKept (t.set l v) :=
  h.of_get fun m hm => get_set_other _ _ fun e => by rw [e, hl] at hm; exact Bool.noConfusion hm

/-- A field of a chapter is set. -/
theorem set {l : Loc} {v : Nat} (h : s.HeadKept t) (hl : onBlock l = true := by rfl) : s.HeadKept (t.set l v) :=
  h.setOff (offHead_block hl)

theorem seti {l : Loc} {x : Int} (h : s.HeadKept t) (hl : onBlock l = true := by rfl) : s.HeadKept (t.seti l x) := h.set hl

theorem count {l : Loc} {k : Nat} (h : s.HeadKept t) (hl : onBlock l = true := by rfl) : s.HeadKept (t.count l k) := h.set hl

theorem raise {q b : Nat} (h : s.HeadKept t) : s.HeadKept (t.raise q b) := by
  refine h.trans ⟨fun l hl => raise_other ?_ ?_, fun q b hb he => raise_keeps_evt hb he⟩
  · intro e
    rw [e, evt_place] at hl
    exact absurd hl (by decide)
  · intro e
    rw [e] at hl
    exact absurd hl (by decide)

theorem setPath {n : Nat} {f : PathSt → PathSt} (h : s.HeadKept t) : s.HeadKept (t.setPath n f) := h.other rfl

/-! ### What the ends of sequences do besides -/

theorem ovlDrop {n : Nat} (h : s.HeadKept t) : s.HeadKept (t.ovlDrop n) := h.set.set

theorem dropIfOff {n : Nat} (h : s.HeadKept t) : s.HeadKept (t.dropIfOff n) := h.except fun h => h.setPath.ovlDrop

theorem setBc {f : AniSt → AniSt} (h : s.HeadKept t) : s.HeadKept (t.setBc f) := h.other rfl

theorem stale {q v : Nat} (h : s.HeadKept t) : s.HeadKept (t.set (HDR.STALE q) v) := h.setOff (offHead_header q).2.2

theorem err {q v : Nat} (h : s.HeadKept t) : s.HeadKept (t.set (HDR.ERR q) v) := h.setOff (offHead_header q).2.1

theorem busy {q v : Nat} (h : s.HeadKept t) : s.HeadKept (t.set (HDR.TRANS q) v) := h.setOff (offHead_header q).1

theorem selectSource (h : s.HeadKept t) : s.HeadKept t.selectSource :=
  .except (.except (h.set.seti.seti) setBc) raise

theorem aniseUnsync (h : s.HeadKept t) : s.HeadKept t.aniseUnsync := by
  unfold State.aniseUnsync
  exact h.set.set.set.setBc

theorem aniseLapse (h : s.HeadKept t) : s.HeadKept t.aniseLapse := by
  unfold State.aniseLapse
  exact .set (h.other rfl)

theorem aniseOff (h : s.HeadKept t) : s.HeadKept t.aniseOff := by
  unfold State.aniseOff
  exact h.aniseUnsync.aniseLapse.set.set.stale.setBc.selectSource

/-- A field of a gate-bias output. -/
theorem onBlock_bias {l : Loc} {k : Nat} (hk : k < 16) (ho : l.off = 0x040 + 4 * k ∨ l.off = 0x080 + 4 * k ∨ l.off = 0x0C0 + 4 * k)
    (hl : Nat.blt l.lo 32 = true) : onBlock l = true := by
  simp only [onBlock, hl, Bool.and_true, Bool.and_eq_true, Nat.ble_eq, Nat.blt_eq]
  omega

theorem biasNote {k : Nat} {b : Bool} (h : s.HeadKept t) (hk : k < 16) : s.HeadKept (t.biasNote k b) :=
  (h.set (onBlock_bias hk (.inr (.inl rfl)) rfl)).set (onBlock_bias hk (.inr (.inl rfl)) rfl)

theorem biasSafe {k : Nat} (h : s.HeadKept t) (hk : k < 16) : s.HeadKept (t.biasSafe k) :=
  biasNote (.set (.set (h.other rfl) (onBlock_bias hk (.inr (.inl rfl)) rfl)) (onBlock_bias hk (.inr (.inl rfl)) rfl)) hk

theorem biasShadow {k : Nat} (h : s.HeadKept t) (hk : k < 16) : s.HeadKept (t.biasShadow k) :=
  ((h.set (onBlock_bias hk (.inr (.inr rfl)) rfl)).set (onBlock_bias hk (.inr (.inr rfl)) rfl)).set
    (onBlock_bias hk (.inr (.inr rfl)) rfl)

theorem biasEntry {k : Nat} (h : s.HeadKept t) (hk : k < 16) : s.HeadKept (t.biasEntry k) :=
  ((((h.biasShadow hk).set (onBlock_bias hk (.inl rfl) rfl)).set (onBlock_bias hk (.inl rfl) rfl)).set
    (onBlock_bias hk (.inr (.inl rfl)) rfl)).biasSafe hk

/-- A step of every gate-bias output. -/
theorem eachBias {f : State → Nat → State} (h : s.HeadKept t) (hf : ∀ {u k}, k < 16 → s.HeadKept u → s.HeadKept (f u k)) :
    s.HeadKept ((List.range 16).foldl f t) := h.foldl fun hk h => hf (List.mem_range.1 hk) h

theorem gdNote {n : Nat} (h : s.HeadKept t) : s.HeadKept (t.gdNote n) := h.set.set

theorem forcingChanged (h : s.HeadKept t) : s.HeadKept (t.forcingChanged 0) := by
  unfold State.forcingChanged
  exact .set (h.other rfl)

theorem retireEnd {n : Nat} (h : s.HeadKept t) : s.HeadKept (t.retireWritten n 0) := by
  have hr : ∀ m, onBlock (retiredTx m) = true := fun m => by unfold retiredTx; split <;> rfl
  unfold State.retireWritten
  extract_lets t1 t2
  have h1 : s.HeadKept t1 := h.set
  have h2 : s.HeadKept t2 := h1.setPath.ite h1.forcingChanged
  exact h.except fun _ => h2.set (hr n)

theorem srstHidden (h : s.HeadKept t) : s.HeadKept (t.srstHidden pg) := by
  refine h.other ?_
  unfold State.srstHidden
  repeat' split
  all_goals rfl

theorem srstAfter (h : s.HeadKept t) : s.HeadKept (t.srstAfter pg) :=
  .ite (h.upon fun h => h.set).gdNote <| .ite h.gdNote <| .ite (h.upon fun h => h.set) <|
  h.upon fun h => h.eachBias fun hk h => h.biasEntry hk

theorem forgetBlock {p : Nat → Bool} (h : s.HeadKept t) (hp : ∀ k, p k = true → 0x02C ≤ keyOff k) : s.HeadKept (t.forgetKeys p) := by
  refine h.of_get fun l hl => get_forgetKeys t (Bool.eq_false_iff.2 fun e => ?_)
  have hk := hp _ e
  simp only [offHead, headPlaces, List.contains_cons, List.contains_nil, Bool.or_false, Bool.and_eq_false_iff, Bool.not_eq_false',
    Bool.or_eq_true, beq_iff_eq, bne_eq_false_iff_eq] at hl
  unfold keyOff at hk
  omega

theorem srstRegs (h : s.HeadKept t) : s.HeadKept (t.srstRegs pg) := by
  unfold State.srstRegs
  extract_lets kept locked t1 t2
  have h1 : s.HeadKept t1 := h.upon retireEnd
  have h2 : s.HeadKept t2 := h1.srstHidden
  exact (forgetBlock h2 fun k hk => by simp only [Bool.and_eq_true, decide_eq_true_eq] at hk; exact hk.1.1.2).err.stale.srstAfter

theorem limitLo (h : s.HeadKept t) : s.HeadKept t.limitLo := h.count.raise

theorem startSeq {k : Nat} (h : s.HeadKept t) : s.HeadKept (t.startSeq pg k) := .busy (h.other rfl)

theorem forceShut (h : s.HeadKept t) : s.HeadKept (t.forceShut pg) := .ite h.startSeq (h.upon startSeq)

theorem aniseGate (h : s.HeadKept t) : s.HeadKept t.aniseGate :=
  .ite h.set <| .ite (h.set.except fun h => h.startSeq.set.stale) <| h.forceShut.except fun h => h.set.raise

theorem loopStart {k : Nat} (h : s.HeadKept t) : s.HeadKept (t.loopStart k) := by
  have hl : onBlock (Loop.LOCKED k) = true ∧ onBlock (Loop.READY k) = true ∧ onBlock (Loop.MUTED k) = true := by
    unfold Loop.LOCKED Loop.READY Loop.MUTED
    repeat' split
    all_goals exact ⟨rfl, rfl, rfl⟩
  have hm : s.HeadKept (t.loopMute k) := (((h.set hl.1).set hl.2.1).set hl.2.2).upon fun h => h.set
  exact hm.other rfl

theorem enableBegin (h : s.HeadKept t) : s.HeadKept (t.enableBegin pg) :=
  .ite h.aniseGate <| h.except fun h => .ite h.limitLo <| h.startSeq.upon fun h => h.loopStart

end State.HeadKept

/-! ### The end of a shut-down -/

/-- The page is off: what the end of its shut-down shows before its chapter and EN are looked at (R35). -/
def State.shutShown (s : State) (pg : Nat) : State :=
  (({ s with seqs := s.seqs.put pg 0 }.set (HDR.TRANS pg) 0).set (HDR.ACT pg) 0).raise pg evACT_CHANGE

/-- What the page's chapter does when it is off. -/
def State.shutChapter (s : State) (pg : Nat) : State :=
  if isRxPage pg || isTxPage pg then s.dropIfOff (pathOf pg)
  else if pg = 0x0E4 then s.aniseOff
  else if pg = auxPage then (List.range 16).foldl (fun s k => s.biasSafe k) s
  else s

/-- A soft reset that waited for the end acts. -/
def State.shutReset (s : State) (pg : Nat) : State :=
  if s.srst.look pg = 0 then s else State.srstRegs { s with srst := s.srst.put pg 0 } pg

theorem shutEnd_eq (s : State) (pg : Nat) :
    s.shutEnd pg =
      if (((s.shutShown pg).shutChapter pg).shutReset pg).on (HDR.EN pg) then
        (((s.shutShown pg).shutChapter pg).shutReset pg).enableBegin pg
      else ((s.shutShown pg).shutChapter pg).shutReset pg := rfl

theorem sequenceEnd_shut (hs : s.seqOf pg = 2) (he : s.seqMayEnd pg = true) : s.sequenceEnd pg = s.shutEnd pg := by
  simp [State.sequenceEnd, he, hs]

theorem shutShown_get {l : Loc} (h : l.key ∉ [(HDR.TRANS pg).key, (HDR.ACT pg).key] ++ evKeys pg) :
    (s.shutShown pg).get l = s.get l := by
  have h0 : SameRegs ([(HDR.TRANS pg).key, (HDR.ACT pg).key] ++ evKeys pg) s { s with seqs := s.seqs.put pg 0 } :=
    (SameRegs.refl s).of_regs rfl
  exact ((h0.set (by simp)).set (by simp)).raise (by simp +contextual) l h

theorem shutShown_act (s : State) (pg : Nat) : (s.shutShown pg).get (HDR.ACT pg) = 0 := by
  rw [State.shutShown, raise_other (by simp [Loc.key, HDR.ACT, HDR.EVT]) (by simp only [Loc.key, HDR.ACT, ERL1.EVT_LOST_CNT]; omega),
    get_set_same]
  rfl

theorem State.HeadKept.shutChapter (h : s.HeadKept t) : s.HeadKept (t.shutChapter pg) :=
  .ite h.dropIfOff <| .ite h.aniseOff <| h.upon fun h => h.eachBias fun hk h => h.biasSafe hk

theorem State.HeadKept.shutReset (h : s.HeadKept t) : s.HeadKept (t.shutReset pg) := h.except fun h => .srstRegs (h.other rfl)

theorem shutEnd_headKept (s : State) (pg : Nat) : (s.shutShown pg).HeadKept (s.shutEnd pg) := by
  rw [shutEnd_eq]
  exact (State.HeadKept.refl _).shutChapter.shutReset.upon fun h => h.enableBegin

end Sys2Proof.Machine
end

section
/-! PROOFS. The statement on EN during a shut-down (O51). -/

namespace Sys2Proof.Machine

variable {s : State} {c : Cls} {agent pg v data off : Nat}

/-! ### The write of EN -/

/-- A word whose bits 9 and 25 are clear assigns no block. -/
theorem arriveEvents_small (h : data < 2 ^ 9) : s.arriveEvents pg off data [] = s := by
  have hb : ∀ d set, s.setConflict d set data = false := fun d set => by
    have h9 : bits data 9 1 = 0 := by unfold bits; omega
    have h25 : bits data 25 1 = 0 := by unfold bits; omega
    simp [State.setConflict, State.blkConflict, bitOf, h9, h25]
  simp [State.arriveEvents, hb]

theorem pageEnable_eq (hn : noEnable pg = false) (v : Nat) :
    exec (.pageEnable c agent pg v) s = .next (s.rowField c agent (HDR.EN pg) v) := by
  simp [execPageEnable, State.rowField, hn, HDR.EN, trunc]

/-- EN takes effect by itself, where no soft reset waits beside it. -/
theorem fieldEff_en (hn : noEnable pg = false) (ht : s.triggers = []) : s.fieldEff c (HDR.EN pg) v = s.enableWritten pg v := by
  rw [fieldEff_header s c v (show 0x004 < 0x02C by decide) (show 0x004 ≠ 0x010 by decide) (show 0x004 ≠ 0x018 by decide)
    (by simp [HDR.EN, hn])]
  simp [State.headerWritten, ht, show (HDR.EN pg).page = pg from rfl]

theorem aniseGate_seqs (h : s.seqOf 0x0E4 = 2) : s.aniseGate.seqs = s.seqs := by
  have hf : s.forceShut 0x0E4 = s := by simp [State.forceShut, h]
  unfold State.aniseGate
  split
  · rfl
  split
  · have h0 : s.seqOf 0x0E4 ≠ 0 := by rw [h]; decide
    dsimp only
    rw [if_pos (.inr h0)]
    rfl
  · rw [hf]
    dsimp only
    split
    · rfl
    · exact (congrArg State.seqs (raise_eventless _ _ _) :)

/-- EN = 1 during a shut-down is stored, and the sequence goes on (R35). -/
theorem enableWritten_shutting (h : s.seqOf pg = 2) :
    (s.enableWritten pg 1).get (HDR.EN pg) = 1 ∧ (s.enableWritten pg 1).seqOf pg = 2 ∧
      (s.enableWritten pg 1).get (HDR.ACT pg) = s.get (HDR.ACT pg) := by
  have hen : (s.set (HDR.EN pg) 1).get (HDR.EN pg) = 1 := by rw [get_set_same]; rfl
  have hact : (s.set (HDR.EN pg) 1).get (HDR.ACT pg) = s.get (HDR.ACT pg) :=
    get_set_other _ _ (by simp only [Loc.key, HDR.ACT, HDR.EN]; omega)
  have h1 : (s.set (HDR.EN pg) 1).seqOf pg = 2 := h
  unfold State.enableWritten
  generalize s.set (HDR.EN pg) 1 = u at hen hact h1
  by_cases hp : pg = 0x0E4
  · subst hp
    rw [if_pos ⟨rfl, rfl⟩]
    have hk := (State.HeadKept.refl u).aniseGate
    refine ⟨(hk.regs _ (headPlace_en _)).trans hen, ?_, (hk.regs _ (headPlace_act _)).trans hact⟩
    rw [State.seqOf, aniseGate_seqs h1]
    exact h1
  · simp only [hp, false_and, if_false, if_true, h1, OfNat.ofNat_ne_zero]
    exact ⟨hen, trivial, hact⟩

theorem exec_pageEnable_shutting (hn : noEnable pg = false) (ha : s.accepts c (HDR.EN pg) 1 = true)
    (hs : (s.ripe c (HDR.EN pg)).seqOf pg = 2) :
    ∃ t : State, exec (.pageEnable c agent pg 1) s = .next t ∧ t.on (HDR.EN pg) = true ∧ t.seqOf pg = 2 ∧
      t.act pg = (s.ripe c (HDR.EN pg)).act pg := by
  have hr := rowField_header (agent := agent) ha (by simp [Loc.arbitrated, HDR.EN, hn]) (show 0x004 < 0x02C by decide)
    (arriveEvents_small (by simp [HDR.EN, trunc]))
  have hu := credit_one (ripe_words s c (HDR.EN pg))
  rw [hu, show trunc (HDR.EN pg).wid 1 = 1 from rfl, fieldEff_en hn (by rfl)] at hr
  obtain ⟨hen, hseq, hact⟩ := enableWritten_shutting (pg := pg)
    (s := { (s.ripe c (HDR.EN pg)).reply c [] stOK with words := [], acks := (s.ripe c (HDR.EN pg)).acks ++ [(1, ⟨c, [], stOK⟩)] }) hs
  obtain ⟨a, hans⟩ := answered_eq (State.enableWritten _ pg 1) 1
  rw [hans] at hr
  refine ⟨_, (pageEnable_eq hn 1).trans (congrArg Host.Outcome.next hr), beq_iff_eq.2 hen, hseq, congrArg (· == 1) hact⟩

/-! ### The enable sequence that follows -/

/-- What the end shows touches registers and events alone. -/
theorem shutShown_units (s : State) (pg : Nat) :
    (s.shutShown pg).pwr = s.pwr ∧ (s.shutShown pg).clk = s.clk ∧ (s.shutShown pg).srst = s.srst := by
  have h := raise_eventless (({ s with seqs := s.seqs.put pg 0 }.set (HDR.TRANS pg) 0).set (HDR.ACT pg) 0) pg evACT_CHANGE
  exact ⟨(congrArg State.pwr h :), (congrArg State.clk h :), (congrArg State.srst h :)⟩

theorem railsOk_congr {t : State} (hp : t.pwr = s.pwr) (hm : t.mode = s.mode) : t.railsOk pg = s.railsOk pg := by
  simp only [State.railsOk, hp, hm]

/-- The end of a shut-down and the page's chapter leave what the next enable asks for: no soft reset, the rails and a permitted LO
frequency. -/
structure State.EnableReady (s t : State) (pg : Nat) : Prop where
  srst : t.srst = s.srst
  rails : t.railsOk pg = s.railsOk pg
  lo : t.loBarred pg = s.loBarred pg

/-- The end shows itself in no field of a chapter but the count of lost events. -/
theorem shutShown_block {l : Loc} (hq : l.page ≠ 0x0B2) (hl : onBlock l = true := by rfl) : (s.shutShown pg).get l = s.get l := by
  simp only [onBlock, Bool.and_eq_true, Nat.ble_eq, Nat.blt_eq] at hl
  obtain ⟨⟨ho, hp⟩, hl⟩ := hl
  refine shutShown_get ?_
  simp only [evKeys, Loc.key, HDR.TRANS, HDR.ACT, HDR.EVT, ERL1.EVT_LOST_CNT, List.cons_append, List.nil_append, List.mem_cons,
    List.not_mem_nil, or_false, not_or]
  omega

theorem loPermitted_congr {t : State} {f : Nat} (hv : t.lrValid = s.lrValid)
    (hw : ∀ w, w < 24 → t.lrWord w = s.lrWord w) : t.loPermitted f = s.loPermitted f := by
  have h7 : bits (s.lrWord 6) 0 3 < 8 := by unfold bits; omega
  unfold State.loPermitted
  rw [hv, hw 6 (by decide)]
  refine congrArg (!s.lrValid || ·) ?_
  rw [Bool.eq_iff_iff, List.any_eq_true, List.any_eq_true]
  refine exists_congr fun k => and_congr_right fun hk => ?_
  have := List.mem_range.1 hk
  rw [hw _ (by omega), hw _ (by omega)]

theorem loBarred_of_ne (h5 : pg ≠ 0x005) (h6 : pg ≠ 0x006) : s.loBarred pg = false := by simp [State.loBarred, h5, h6]

theorem onBlock_rec {w : Nat} (h : w < 24) : onBlock (LIMITS.REC w) = true := by
  simp only [onBlock, LIMITS.REC, Bool.and_eq_true, Nat.ble_eq, Nat.blt_eq]
  omega

theorem shutShown_ready (s : State) (pg : Nat) : s.EnableReady (s.shutShown pg) pg := by
  obtain ⟨hp, hc, hs⟩ := shutShown_units s pg
  refine ⟨hs, railsOk_congr hp (shutShown_block (by decide)), ?_⟩
  by_cases h : pg = 0x005 ∨ pg = 0x006
  · have hpage : 0x005 + (pg - 5) ≠ 0x0B2 := by omega
    have hv : (s.shutShown pg).lrValid = s.lrValid := congrArg (· == 1) (shutShown_block (l := LIMITS.LR_VALID) (by decide))
    have hf : (s.shutShown pg).fpfd = s.fpfd := by simp only [State.fpfd, hc]
    have hrec : ∀ w, w < 24 → (s.shutShown pg).lrWord w = s.lrWord w := fun w hw =>
      shutShown_block (show 0x001 ≠ 0x0B2 by decide) (onBlock_rec hw)
    simp only [State.loBarred, hf, loPermitted_congr hv hrec, shutShown_block (l := LO.NINT (pg - 5)) hpage,
      shutShown_block (l := LO.FRAC (pg - 5)) hpage, shutShown_block (l := LO.OUTDIV (pg - 5)) hpage]
  · rw [not_or] at h
    rw [loBarred_of_ne h.1 h.2, loBarred_of_ne h.1 h.2]

theorem dropIfOff_ready (s : State) (n : Nat) (h5 : pg ≠ 0x005) (h6 : pg ≠ 0x006) : s.EnableReady (s.dropIfOff n) pg := by
  have hm : ((s.setPath n fun _ => {}).ovlDrop n).mode = s.mode := by
    unfold State.ovlDrop
    extract_lets t
    exact (get_set_other _ _ (by simp only [Loc.key, DEVICE.MODE, RXPATH.OVL_ACT]; omega)).trans
      (get_set_other _ _ (by simp only [Loc.key, DEVICE.MODE, RXPATH.ATT_NOW]; omega))
  unfold State.dropIfOff
  split
  · exact ⟨rfl, rfl, rfl⟩
  · exact ⟨rfl, railsOk_congr rfl hm, by rw [loBarred_of_ne h5 h6, loBarred_of_ne h5 h6]⟩

theorem shutChapter_ready (s : State) (h : pg ≠ 0x0E4) : s.EnableReady (s.shutChapter pg) pg := by
  unfold State.shutChapter
  split
  next hp =>
    simp only [isRxPage, isTxPage, Bool.or_eq_true, decide_eq_true_eq] at hp
    exact dropIfOff_ready s _ (by omega) (by omega)
  next =>
    split
    next ha =>
      subst ha
      have hon : ∀ u : State, u.railsOk auxPage = true := fun u => by simp [State.railsOk, alwaysOn, auxPage]
      exact ⟨List.foldlRecOn (motive := fun u : State => u.srst = s.srst) _ _ rfl fun _ hu _ _ => hu, by rw [hon, hon],
        by rw [loBarred_of_ne (by decide) (by decide), loBarred_of_ne (by decide) (by decide)]⟩
    next => exact ⟨rfl, rfl, rfl⟩

/-- Where its conditions hold, the enable sequence of a page starts. -/
theorem enableBegin_starts (h : pg ≠ 0x0E4) (hr : s.railsOk pg = true) (hl : s.loBarred pg = false) :
    (s.enableBegin pg).seqOf pg = 1 := by
  have hs : (s.startSeq pg 1).seqOf pg = 1 := by simp [State.seqOf, State.startSeq, State.set, Store.look_put]
  have hk : ∀ (t : State) (k : Nat), (t.loopStart k).seqs = t.seqs := fun t k => by
    unfold State.loopStart State.loopMute
    split <;> rfl
  simp only [State.enableBegin, h, hr, hl, if_false, Bool.true_eq_false, Bool.false_eq_true]
  split
  · exact (congrArg (Store.look · pg) (hk _ _)).trans hs
  · exact hs

theorem shutEnd_restarts (h : pg ≠ 0x0E4) (he : s.on (HDR.EN pg) = true) (hs : s.srst.look pg = 0) (hr : s.railsOk pg = true)
    (hl : s.loBarred pg = false) : (s.shutEnd pg).seqOf pg = 1 := by
  have r1 := shutShown_ready s pg
  have r2 := shutChapter_ready (s.shutShown pg) h
  have hen : ((s.shutShown pg).shutChapter pg).on (HDR.EN pg) = true := by
    have hk := (State.HeadKept.refl (s.shutShown pg)).shutChapter (pg := pg)
    rw [State.on, hk.regs _ (headPlace_en pg), shutShown_get (by
      simp only [evKeys, Loc.key, HDR.TRANS, HDR.ACT, HDR.EN, HDR.EVT, ERL1.EVT_LOST_CNT, List.cons_append, List.nil_append, List.mem_cons,
        List.not_mem_nil, or_false, not_or]
      omega)]
    exact he
  have hreset : ((s.shutShown pg).shutChapter pg).shutReset pg = (s.shutShown pg).shutChapter pg :=
    if_pos (by rw [r2.srst, r1.srst, hs])
  rw [shutEnd_eq, hreset, if_pos hen]
  exact enableBegin_starts h (by rw [r2.rails, r1.rails, hr]) (by rw [r2.lo, r1.lo, hl])

/-! ### The statement -/

/-- The end of a shut-down leaves ACT 0, and its event stands. -/
theorem shutEnd_shows (s : State) (pg : Nat) :
    (s.shutEnd pg).act pg = false ∧ bitOf ((s.shutEnd pg).get (HDR.EVT pg)) evACT_CHANGE = true := by
  have hk := shutEnd_headKept s pg
  refine ⟨?_, hk.evt pg _ (by decide) (raise_sets _ _ (by decide))⟩
  rw [State.act, State.on, hk.regs _ (headPlace_act pg), shutShown_act]
  rfl

/-- Settles O51: EN is stored beside the sequence, whose end looks at it. -/
theorem enableDuringShutDown : Obligations.EnableDuringShutDown := by
  unfold Obligations.EnableDuringShutDown
  refine ⟨fun s c agent pg hn ha hs => exec_pageEnable_shutting hn ha hs, fun s pg hs he => ?_, fun s pg hs he hen hr hp hra hl => ?_⟩
  · exact ⟨_, congrArg Host.Outcome.next (sequenceEnd_shut hs he), shutEnd_shows s pg⟩
  · exact ⟨_, congrArg Host.Outcome.next (sequenceEnd_shut hs he), shutEnd_restarts hp hen hr hra hl⟩

end Sys2Proof.Machine
end

section
/-! PROOFS. Commits (O5). The word of a request carries a field and a trigger: IMMED takes effect, then REQ acts on it. -/

namespace Sys2Proof.Machine

variable {s x : State} {c : Cls} {agent pg i data : Nat} {l m : Loc}

/-! ### A word of a field and a trigger -/

/-- A field opens its window, and a trigger joins those that wait. -/
theorem joinPart_fieldTrigger {id : Nat} (hl : Loc.arbitrated l = true) (hc : isPerClass l = false) (hm : Loc.arbitrated m = false)
    (hw : s.windows = []) (ws : List WordSt) :
    let u : State := { (s.joinPart c agent id data l).joinPart c agent id data m with words := ws }
    u.windows = [⟨l, s.ao, [⟨c, agent, bits data l.lo l.wid, s.ao, id⟩]⟩] ∧
      u.triggers = s.triggers ++ [⟨m, c, agent, data, s.ao + 8, id⟩] ∧ u.words = ws ∧ u.acks = s.acks ∧ u.aside = s.aside := by
  simp [State.joinPart, hl, hc, hm, State.joinWindow, State.windowOf, hw, State.aside]

/-- A window and a trigger are due: the window closes first. -/
theorem close_windowTrigger {w : Window} {r : Trigger} {now : Nat} (hw : x.windows = [w]) (ht : x.triggers = [r])
    (ho : w.openAt + 8 = now) (hr : r.actAt = now) (hcw : (x.closeWindow w).windows = []) (hct : (x.closeWindow w).triggers = [r]) :
    x.dueAt now = (x.closeWindow w).triggerActs r := by
  simp [State.dueAt, hw, ht, State.closeDue, State.nextDue, ho, hr, hcw, hct]

/-- One of two parts of a word is settled. -/
theorem credit_two {a : Nat} (h : s.words = [⟨1, c, a, stOK, false, 2⟩]) :
    s.credit 1 false = { s with words := [⟨1, c, a, stOK, false, 1⟩] } := by
  simp [State.credit, h]

/-! ### The request -/

theorem hasShadow_page (h : hasShadow pg = true) : pg ≠ 0x0A2 ∧ pg ≠ 0x0A3 := by
  simp only [hasShadow, Bool.or_eq_true, decide_eq_true_eq] at h
  omega

/-- The word that a request writes. -/
def reqWord (i : Nat) : Nat := 1 + i % 2 * 4

theorem bits_reqWord (i : Nat) : bits (reqWord i) 2 1 = i % 2 := by
  unfold bits reqWord
  omega

/-- The state in which REQ acts: 8 ticks on, with IMMED in force. -/
def State.requesting (s : State) (c : Cls) (pg i : Nat) : State :=
  { s.ripe c (HDR.IMMED pg) 2 with words := (s.ripe c (HDR.IMMED pg)).words }.set (HDR.IMMED pg) (i % 2)

theorem trigAct_req (s : State) (c : Cls) (pg data at_ : Nat) : s.trigAct c (HDR.REQ pg) data at_ = s.commitReq pg := by
  simp [State.trigAct, State.headerTrigger, HDR.REQ, HDR.EVT, HDR.SRST, HDR.CANCEL]

theorem fieldEff_immed (s : State) (c : Cls) (pg v : Nat) : s.fieldEff c (HDR.IMMED pg) v = s.set (HDR.IMMED pg) v := by
  rw [fieldEff_header s c v (show 0x020 < 0x02C by decide) (show 0x020 ≠ 0x010 by decide) (show 0x020 ≠ 0x018 by decide)
    (show Acc.rw ≠ .rws by decide)]
  simp [State.headerWritten, HDR.IMMED, HDR.EN, HDR.LEVEL_REQ, HDR.EVT_EN, HDR.FIELD_LOCK]

/-- A request that meets no other word and is not refused: IMMED takes effect, and REQ acts. -/
theorem exec_commitReq_taken (ha : assigned pg = true) (hs : hasShadow pg = true) (h1 : s.takes c (HDR.IMMED pg) (reqWord i) = true)
    (h2 : s.takes c (HDR.REQ pg) (reqWord i) = true) :
    exec (.commitReq c agent pg i) s = .next ((((s.requesting c pg i).commitReq pg).credit 1 false).answered 1) := by
  obtain ⟨hq, -, hw, hp1⟩ := takes_iff.1 h1
  obtain ⟨-, -, -, hp2⟩ := takes_iff.1 h2
  obtain ⟨q1, q2, q3, hd⟩ := quiet_parts hq
  obtain ⟨hne2, hne3⟩ := hasShadow_page hs
  have hv : ({ s with acks := [] } : State).arriveEvents pg 0x020 (reqWord i) [] = { s with acks := [] } := by
    simp [State.arriveEvents, hne2, hne3]
  have hp : ∀ l ∈ [HDR.IMMED pg, HDR.REQ pg], ({ s with acks := [] } : State).partRefusal c (reqWord i) l = none :=
    List.forall_mem_cons.2 ⟨hp1, List.forall_mem_singleton.2 hp2⟩
  have he : TIMELINE0.ENQ_CODE ∉ [HDR.IMMED pg, HDR.REQ pg] := by simp [TIMELINE0.ENQ_CODE, HDR.IMMED, HDR.REQ]
  have hr := arrive_parts (agent := agent) (s := { s with acks := [] }) (off := 0x020) hd ha hw hp he (List.cons_ne_nil _ _) hv q2 q3
  have hf := joinPart_fieldTrigger (s := { s with acks := [] }) (c := c) (agent := agent) (id := 1) (data := reqWord i)
    (l := HDR.IMMED pg) (m := HDR.REQ pg) rfl (isPerClass_header (show 0x020 < 0x02C by decide)) rfl q1 (oneWord c pg 0x020 2)
  rw [show bits (reqWord i) (HDR.IMMED pg).lo (HDR.IMMED pg).wid = i % 2 from bits_reqWord i] at hf
  simp only [List.foldl_cons, List.foldl_nil, List.length_cons, List.length_nil, Nat.zero_add, Nat.reduceAdd] at hr
  generalize { ((({ s with acks := [] } : State).joinPart c agent 1 (reqWord i) (HDR.IMMED pg)).joinPart c agent 1 (reqWord i)
    (HDR.REQ pg)) with words := oneWord c pg 0x020 2 } = u at hr hf
  obtain ⟨u1, u2, u3, u4, u5⟩ := hf
  have u1 : u.windows = [⟨HDR.IMMED pg, s.ao, [⟨c, agent, i % 2, s.ao, 1⟩]⟩] := u1
  have u2 : u.triggers = [⟨HDR.REQ pg, c, agent, reqWord i, s.ao + 8, 1⟩] := by rw [u2, q2]; rfl
  have hc := carry_parts hr (by
    intro d e
    simp [State.nextDue, u1, u2] at e
    omega) u5
  have hcw := closeWindow_header (x := (s.afterTicks 8).waiting u) u1 (show 0x020 < 0x02C by decide) (assigned_lt ha)
  have e : { (s.afterTicks 8).waiting u with windows := [] } =
      { s.ripe c (HDR.IMMED pg) 2 with triggers := [⟨HDR.REQ pg, c, agent, reqWord i, s.ao + 8, 1⟩] } := by
    simp only [State.waiting, u2, u3, u4]
    rfl
  rw [e, fieldEff_immed, credit_two rfl] at hcw
  rw [State.dueState, close_windowTrigger (x := (s.afterTicks 8).waiting u) u1 u2 rfl rfl (by rw [hcw]; rfl) (by rw [hcw]; rfl), hcw,
    State.triggerActs, trigAct_req] at hc
  have hx : exec (.commitReq c agent pg i) s = .next (s.carry c agent pg 0x020 (reqWord i) [HDR.IMMED pg, HDR.REQ pg]) := by
    rw [exec_commitReq, execCommitReq, if_pos hs, reqWord]
  rw [hx, hc]
  refine congrArg (fun t : State => Host.Outcome.next (((t.commitReq pg).credit 1 false).answered 1)) ?_
  simp only [State.set_triggers, List.erase_cons_head]
  rfl

/-- The commit that a request makes pending. -/
def State.commitEntry (s : State) (pg : Nat) : CommitSt :=
  let tgt := s.get64 (HDR.COMMIT_TB_LO pg) (HDR.COMMIT_TB_HI pg)
  let late := !s.on (HDR.IMMED pg) && decide (tgt < s.tb)
  ⟨pg, if s.on (HDR.IMMED pg) || late then s.tb + 1 else tgt, s.on (HDR.IMMED pg), late⟩

theorem commitEntry_immed (h : s.on (HDR.IMMED pg) = true) : s.commitEntry pg = ⟨pg, s.tb + 1, true, false⟩ := by
  simp [State.commitEntry, h]

theorem commitEntry_timed (h : s.on (HDR.IMMED pg) = false) :
    s.commitEntry pg =
      if s.get64 (HDR.COMMIT_TB_LO pg) (HDR.COMMIT_TB_HI pg) < s.tb then ⟨pg, s.tb + 1, false, true⟩
      else ⟨pg, s.get64 (HDR.COMMIT_TB_LO pg) (HDR.COMMIT_TB_HI pg), false, false⟩ := by
  split <;> rename_i ht <;> simp [State.commitEntry, h, ht]

/-- The commit waits, and PENDING shows it. -/
def State.commitPends (s : State) (pg : Nat) : State := { s with commits := s.commits ++ [s.commitEntry pg] }.set (HDR.PENDING pg) 1

theorem commitReq_page (hs : hasShadow pg = true) (hp : s.on (HDR.PENDING pg) = false) (h0 : pg ≠ 0x0A0) (h1 : pg ≠ 0x0A1) :
    s.commitReq pg = s.commitPends pg := by
  rw [State.commitReq, State.commitAt, if_neg (by simp [hp, hs])]
  exact if_neg (not_or.2 ⟨h0, h1⟩)

theorem commitReq_beam (hs : hasShadow pg = true) (hp : s.on (HDR.PENDING pg) = false) (hb : pg = 0x0A0 ∨ pg = 0x0A1) :
    s.commitReq pg =
      ((s.commitPends pg).setBeam (pg - 0x0A0) fun b => { b with wait := true }).set (BEAM.RENORM_BUSY (pg - 0x0A0)) 1 := by
  rw [State.commitReq, State.commitAt, if_neg (by simp [hp, hs])]
  exact if_pos hb

/-! ### The request's word -/

theorem immed_ne (pg : Nat) : ∀ l ∈ [HDR.PENDING pg, HDR.COMMIT_TB_LO pg, HDR.COMMIT_TB_HI pg], l.key ≠ (HDR.IMMED pg).key := by
  simp only [List.forall_mem_cons, List.not_mem_nil, false_imp_iff, implies_true, and_true, Loc.key, HDR.PENDING, HDR.COMMIT_TB_LO,
    HDR.COMMIT_TB_HI, HDR.IMMED]
  omega

theorem requesting_get {l : Loc} (h : l.key ≠ (HDR.IMMED pg).key) : (s.requesting c pg i).get l = (s.ripe c (HDR.IMMED pg) 2).get l :=
  get_set_other _ _ h

theorem requesting_immed (s : State) (c : Cls) (pg i : Nat) : (s.requesting c pg i).get (HDR.IMMED pg) = i % 2 := by
  rw [State.requesting, get_set_same]
  exact Nat.mod_mod i 2

theorem commitReq_units (s : State) (pg : Nat) : (s.commitReq pg).words = s.words ∧ (s.commitReq pg).acks = s.acks := by
  unfold State.commitReq State.commitAt
  extract_lets
  repeat' split
  all_goals exact ⟨rfl, rfl⟩

/-- A request's word is answered when REQ has acted. -/
theorem exec_commitReq_answered (ha : assigned pg = true) (hs : hasShadow pg = true)
    (h1 : s.takes c (HDR.IMMED pg) (reqWord i) = true) (h2 : s.takes c (HDR.REQ pg) (reqWord i) = true) :
    exec (.commitReq c agent pg i) s =
      .next { ((s.requesting c pg i).commitReq pg).reply c [] stOK with words := [], acks := [(1, ⟨c, [], stOK⟩)] } := by
  obtain ⟨hw, hk⟩ := commitReq_units (s.requesting c pg i) pg
  have hw : ((s.requesting c pg i).commitReq pg).words = (s.ripe c (HDR.IMMED pg)).words := hw
  have hk : ((s.requesting c pg i).commitReq pg).acks = [] := hk
  rw [exec_commitReq_taken ha hs h1 h2, credit_answered hw hk, credit_one (hw.trans (ripe_words s c _)), hk]
  rfl

/-- What a commit that waits changes of the state in which its request acts. -/
theorem commitPends_requesting (s : State) (c : Cls) (pg i : Nat) :
    ((s.requesting c pg i).commitPends pg).get (HDR.PENDING pg) = 1 ∧
      ((s.requesting c pg i).commitPends pg).get (HDR.IMMED pg) = i % 2 ∧
      SameRegs [(HDR.IMMED pg).key, (HDR.PENDING pg).key] (s.ripe c (HDR.IMMED pg) 2) ((s.requesting c pg i).commitPends pg) := by
  have hne : (HDR.IMMED pg).key ≠ (HDR.PENDING pg).key := (immed_ne pg _ (by simp)).symm
  refine ⟨(get_set_same _ _ _).trans rfl, (get_set_other _ _ hne).trans (requesting_immed s c pg i), ?_⟩
  exact .set (.of_regs (u := { s.requesting c pg i with commits := _ }) (.set (.of_regs (.refl _) rfl) (by simp)) rfl) (by simp)

theorem requesting_entry (s : State) (c : Cls) (pg i : Nat) :
    (s.requesting c pg i).commitEntry pg =
      if i % 2 = 1 then ⟨pg, (s.ripe c (HDR.IMMED pg) 2).tb + 1, true, false⟩
      else if (s.ripe c (HDR.IMMED pg) 2).get64 (HDR.COMMIT_TB_LO pg) (HDR.COMMIT_TB_HI pg) < (s.ripe c (HDR.IMMED pg) 2).tb then
        ⟨pg, (s.ripe c (HDR.IMMED pg) 2).tb + 1, false, true⟩
      else ⟨pg, (s.ripe c (HDR.IMMED pg) 2).get64 (HDR.COMMIT_TB_LO pg) (HDR.COMMIT_TB_HI pg), false, false⟩ := by
  have ho : (s.requesting c pg i).on (HDR.IMMED pg) = (i % 2 == 1) := congrArg (· == 1) (requesting_immed s c pg i)
  have hg : (s.requesting c pg i).get64 (HDR.COMMIT_TB_LO pg) (HDR.COMMIT_TB_HI pg) =
      (s.ripe c (HDR.IMMED pg) 2).get64 (HDR.COMMIT_TB_LO pg) (HDR.COMMIT_TB_HI pg) := by
    simp only [State.get64, requesting_get (immed_ne pg _ (show HDR.COMMIT_TB_LO pg ∈ _ by simp)),
      requesting_get (immed_ne pg _ (show HDR.COMMIT_TB_HI pg ∈ _ by simp))]
  by_cases hi : i % 2 = 1
  · rw [if_pos hi, commitEntry_immed (ho.trans (beq_iff_eq.2 hi))]
    rfl
  · rw [if_neg hi, commitEntry_timed (ho.trans (beq_eq_false_iff_ne.2 hi)), hg]
    rfl

/-- A request on a page other than a beam's: its commit waits. -/
theorem exec_commitReq_page (ha : assigned pg = true) (hs : hasShadow pg = true)
    (h1 : s.takes c (HDR.IMMED pg) (reqWord i) = true) (h2 : s.takes c (HDR.REQ pg) (reqWord i) = true)
    (hp : (s.ripe c (HDR.IMMED pg) 2).on (HDR.PENDING pg) = false) (hA0 : pg ≠ 0x0A0) (hA1 : pg ≠ 0x0A1) :
    ∃ t : State, exec (.commitReq c agent pg i) s = .next t ∧ t.get (HDR.PENDING pg) = 1 ∧ t.get (HDR.IMMED pg) = i % 2 ∧
      t.commits = (s.ripe c (HDR.IMMED pg) 2).commits ++ [(s.requesting c pg i).commitEntry pg] ∧
      t.bank = (s.ripe c (HDR.IMMED pg) 2).bank ∧ t.mem = (s.ripe c (HDR.IMMED pg) 2).mem ∧
      SameRegs [(HDR.IMMED pg).key, (HDR.PENDING pg).key] (s.ripe c (HDR.IMMED pg) 2) t ∧ t.answer = some ⟨c, [], stOK⟩ := by
  have hx := exec_commitReq_answered (agent := agent) ha hs h1 h2
  have hpend : (s.requesting c pg i).on (HDR.PENDING pg) = false := by
    rw [State.on, requesting_get (immed_ne pg _ (by simp))]
    exact hp
  rw [commitReq_page hs hpend hA0 hA1] at hx
  obtain ⟨g1, g2, g3⟩ := commitPends_requesting s c pg i
  exact ⟨_, hx, g1, g2, rfl, rfl, rfl, g3.of_regs rfl, rfl⟩

/-- A request on a beam page: its commit waits, and awaits the gains of the incoming weights too. -/
theorem exec_commitReq_beam (ha : assigned pg = true) (hs : hasShadow pg = true)
    (h1 : s.takes c (HDR.IMMED pg) (reqWord i) = true) (h2 : s.takes c (HDR.REQ pg) (reqWord i) = true)
    (hp : (s.ripe c (HDR.IMMED pg) 2).on (HDR.PENDING pg) = false) (hb : pg = 0x0A0 ∨ pg = 0x0A1) :
    ∃ t : State, exec (.commitReq c agent pg i) s = .next t ∧ t.get (HDR.PENDING pg) = 1 ∧
      t.get (BEAM.RENORM_BUSY (pg - 0x0A0)) = 1 ∧
      t.commits = (s.ripe c (HDR.IMMED pg) 2).commits ++ [(s.requesting c pg i).commitEntry pg] ∧
      t.mem = (s.ripe c (HDR.IMMED pg) 2).mem ∧
      SameRegs [(HDR.IMMED pg).key, (HDR.PENDING pg).key, (BEAM.RENORM_BUSY (pg - 0x0A0)).key] (s.ripe c (HDR.IMMED pg) 2) t := by
  have hx := exec_commitReq_answered (agent := agent) ha hs h1 h2
  have hpend : (s.requesting c pg i).on (HDR.PENDING pg) = false := by
    rw [State.on, requesting_get (immed_ne pg _ (by simp))]
    exact hp
  rw [commitReq_beam hs hpend hb] at hx
  obtain ⟨g1, -, g3⟩ := commitPends_requesting s c pg i
  have hne : (HDR.PENDING pg).key ≠ (BEAM.RENORM_BUSY (pg - 0x0A0)).key := by
    simp only [Loc.key, HDR.PENDING, BEAM.RENORM_BUSY]
    omega
  refine ⟨_, hx, (get_set_other _ _ hne).trans g1, (get_set_same _ _ _).trans rfl, rfl, rfl, ?_⟩
  have h3 := g3.mono (js := [(HDR.IMMED pg).key, (HDR.PENDING pg).key, (BEAM.RENORM_BUSY (pg - 0x0A0)).key]) (by simp)
  have h4 : SameRegs _ (s.ripe c (HDR.IMMED pg) 2) (((s.requesting c pg i).commitPends pg).setBeam (pg - 0x0A0) fun b =>
    { b with wait := true }) := h3.of_regs rfl
  exact (h4.set (l := BEAM.RENORM_BUSY (pg - 0x0A0)) (v := 1) (by simp)).of_regs rfl

/-! ### The withdrawal -/

theorem trigAct_cancel (s : State) (c : Cls) (pg data at_ : Nat) : s.trigAct c (HDR.CANCEL pg) data at_ = s.commitCancel pg := by
  simp [State.trigAct, State.headerTrigger, HDR.EVT, HDR.SRST, HDR.CANCEL]

/-- A withdrawal takes PENDING and the page's commits, and no bank. -/
theorem withdrawCommit_takes (s : State) (pg : Nat) :
    (s.withdrawCommit pg).get (HDR.PENDING pg) = 0 ∧ (s.withdrawCommit pg).commits = s.commits.filter (fun x => decide (x.page ≠ pg)) ∧
      (s.withdrawCommit pg).bank = s.bank ∧ (s.withdrawCommit pg).mem = s.mem ∧
      SameRegs [(HDR.PENDING pg).key] s (s.withdrawCommit pg) ∧ (s.withdrawCommit pg).words = s.words ∧
      (s.withdrawCommit pg).acks = s.acks := by
  unfold State.withdrawCommit
  extract_lets t u
  have hg : u.get (HDR.PENDING pg) = 0 := (get_set_same _ _ _).trans rfl
  have hr : SameRegs [(HDR.PENDING pg).key] s u := .set (.of_regs (.refl s) rfl) (by simp)
  split
  · exact ⟨hg, rfl, rfl, rfl, hr.of_regs rfl, rfl, rfl⟩
  · exact ⟨hg, rfl, rfl, rfl, hr, rfl, rfl⟩

/-- A withdrawal that meets no other word and is not refused acts, and is answered. -/
theorem exec_commitCancel_taken (hs : hasShadow pg = true) (h : s.triggered c (HDR.CANCEL pg) 2 = true)
    (hw : ((s.ripe c (HDR.CANCEL pg)).commitCancel pg).words = (s.ripe c (HDR.CANCEL pg)).words)
    (ha : ((s.ripe c (HDR.CANCEL pg)).commitCancel pg).acks = []) :
    exec (.commitCancel c pg) s = .next (s.lands c (HDR.CANCEL pg) [] [fun u => u.commitCancel pg]) := by
  have hr := rowTrig_lands h rfl (by simp [TIMELINE0.ENQ_CODE, HDR.CANCEL]) (hasShadow_page hs) (by rw [trigAct_cancel, hw])
    (by rw [trigAct_cancel, ha])
  simp only [trigAct_cancel] at hr
  rw [exec_commitCancel, execCommitCancel, if_pos hs, ← hr]
  rfl

/-! ### The statement -/

/-- Settles O5: a request waits, a withdrawal takes it back until the swap, and the swap and the copy end it. -/
theorem commits : Obligations.Commits := by
  unfold Obligations.Commits
  refine ⟨fun s c a pg i ha hs h1 h2 hp hA0 hA1 hi => ?_, fun s c a pg i ha hs h1 h2 hp hA0 hA1 hi => ?_,
    fun s c a pg i ha hs h1 h2 hp hb hi => ?_, fun s c pg ha hs h hc => ?_, fun s c pg ha hs h hc => ?_,
    fun s c hf hr ht hb => ?_, fun s pg hc hp hD hE => ?_⟩
  · have h := exec_commitReq_page (agent := a) ha hs h1 h2 hp hA0 hA1
    rwa [requesting_entry, if_pos hi, hi] at h
  · have h := exec_commitReq_page (agent := a) ha hs h1 h2 hp hA0 hA1
    rwa [requesting_entry, if_neg (by omega), hi] at h
  · have h := exec_commitReq_beam (agent := a) ha hs h1 h2 hp hb
    rwa [requesting_entry, if_pos hi] at h
  · have hcc : (s.ripe c (HDR.CANCEL pg)).commitCancel pg = (s.ripe c (HDR.CANCEL pg)).withdrawCommit pg := if_pos hc
    obtain ⟨g1, g2, g3, g4, g5, g6, g7⟩ := withdrawCommit_takes (s.ripe c (HDR.CANCEL pg)) pg
    refine ⟨_, exec_commitCancel_taken hs h (by rw [hcc, g6]) (by rw [hcc, g7]; rfl), ?_⟩
    simp only [State.lands, List.foldl_cons, List.foldl_nil, List.length_cons, List.length_nil, Nat.zero_add]
    rw [hcc, credit_one (g6.trans (ripe_words s c _))]
    exact ⟨g1, g2, g3, g4, g5.of_regs rfl, rfl⟩
  · have hcc : (s.ripe c (HDR.CANCEL pg)).commitCancel pg = s.ripe c (HDR.CANCEL pg) := if_neg hc
    rw [exec_commitCancel_taken hs h (by rw [hcc]) (by rw [hcc]; rfl)]
    simp only [State.lands, List.foldl_cons, List.foldl_nil, List.length_cons, List.length_nil, Nat.zero_add, hcc]
  · intro a b d
    rw [exec_commitSwap, execCommitSwap, State.commitSwap, hf]
    exact congrArg Host.Outcome.next (if_neg (by simp [hr, hb]; omega))
  · have hpath : (isRxPage pg || isTxPage pg) = false := by simp [isRxPage, isTxPage]; omega
    rw [exec_commitCopyDone, execCommitCopyDone, State.copyDone, if_neg hc]
    simp only [hpath, hD, hE, or_self, if_false, Bool.false_eq_true]

end Sys2Proof.Machine
end

section
/-! PROOFS. The latched read of NOW (O53, R85): a read of NOW_LO leaves one latch of NOW_HI for its class, which the next read of
NOW_HI by that class finds and uses up. -/

namespace Sys2Proof.Machine

variable {s u : State} {c d : Cls} {L : List (Nat × Nat × Nat)} {keep : Nat × Nat × Nat → Bool} {v : Nat}

/-- The entry `x` is a latch of field `l` for class `c`. -/
def latchFor (c : Cls) (l : Loc) (x : Nat × Nat × Nat) : Bool := x.1 == c.code && x.2.1 == l.key

/-! ### The list of latches -/

theorem latchFor_new (c : Cls) (l : Loc) (v : Nat) : latchFor c l (c.code, l.key, v) = true := by simp [latchFor]

theorem latchFor_other (h : d ≠ c) (l m : Loc) (v : Nat) : latchFor d l (c.code, m.key, v) = false := by
  have hcode : c.code ≠ d.code := fun e => h (Cls.code_inj e.symm)
  simp [latchFor, hcode]

/-- A class that latches a field anew finds the new latch. -/
theorem find_latch_replaced {l : Loc} (hk : ∀ x, latchFor c l x = true → keep x = false) (v : Nat) :
    (L.filter keep ++ [(c.code, l.key, v)]).find? (latchFor c l) = some (c.code, l.key, v) := by
  have hnone : (L.filter keep).find? (latchFor c l) = none := List.find?_eq_none.2 fun x hx hl => by
    have hkept := (List.mem_filter.1 hx).2
    rw [hk x hl] at hkept
    exact Bool.false_ne_true hkept
  rw [List.find?_append, hnone, List.find?_singleton, latchFor_new]
  rfl

/-- Another class finds what it found before. -/
theorem find_latch_other {l m : Loc} (h : d ≠ c) (hk : ∀ x, x.1 ≠ c.code → keep x = true) (v : Nat) :
    (L.filter keep ++ [(c.code, m.key, v)]).find? (latchFor d l) = L.find? (latchFor d l) := by
  have hd : ∀ x, latchFor d l x = true → keep x = true := fun x hx => hk x fun e => by
    simp only [latchFor, Bool.and_eq_true, beq_iff_eq] at hx
    exact h (Cls.code_inj (hx.1.symm.trans e))
  have hfilter : (fun x => keep x && latchFor d l x) = latchFor d l := funext fun x => by
    cases hx : latchFor d l x with
    | true => simp [hd x hx]
    | false => simp
  simp only [List.find?_append, List.find?_filter, List.find?_singleton, latchFor_other h, ← Bool.and_eq_true,
    Bool.decide_eq_true, hfilter]
  simp

/-! ### The two words of NOW -/

/-- A read-only field that has no copy for each class reads its latch for the class, or else its value now. -/
theorem readField_ro {l : Loc} (ha : l.acc = .ro) (hp : isPerClass l = false) :
    s.readField c l = ((s.latches.find? (latchFor c l)).map (fun x => x.2.2)).getD (trunc l.wid (s.liveField l)) := by
  unfold State.readField latchFor
  rw [if_neg (by simp [ha]), if_neg (by simp [ha])]
  split
  next h => rw [h]; rfl
  next h => rw [h, hp]; rfl

theorem readField_nowLo (s : State) (c : Cls) :
    s.readField c TIMEBASE.NOW_LO =
      ((s.latches.find? (latchFor c TIMEBASE.NOW_LO)).map (fun x => x.2.2)).getD (s.now % 2 ^ 32) := by
  have hlive : trunc 32 (s.liveField TIMEBASE.NOW_LO) = s.now % 2 ^ 32 := Nat.mod_mod _ _
  rw [readField_ro rfl (by decide), ← hlive]
  rfl

theorem readField_nowHi (s : State) (c : Cls) :
    s.readField c TIMEBASE.NOW_HI =
      ((s.latches.find? (latchFor c TIMEBASE.NOW_HI)).map (fun x => x.2.2)).getD (s.now / 2 ^ 32 % 2 ^ 32) :=
  readField_ro rfl (by decide)

theorem readField_nowHi_latched (h : s.latches.find? (latchFor c TIMEBASE.NOW_HI) = some (c.code, TIMEBASE.NOW_HI.key, v)) :
    s.readField c TIMEBASE.NOW_HI = v := by
  rw [readField_nowHi, h]
  rfl

/-! ### What a read leaves -/

theorem nowLo_own (s : State) (c : Cls) :
    (s.nowLo c).latches.find? (latchFor c TIMEBASE.NOW_HI) = some (c.code, TIMEBASE.NOW_HI.key, s.now / 2 ^ 32) :=
  find_latch_replaced (fun x hx => by simpa [latchFor, imp_iff_not_or] using hx) _

theorem nowLo_other (s : State) (h : d ≠ c) :
    (s.nowLo c).latches.find? (latchFor d TIMEBASE.NOW_HI) = s.latches.find? (latchFor d TIMEBASE.NOW_HI) :=
  find_latch_other h (fun x hx => by simp [hx]) _

/-- The row of a read of NOW_LO that no check refuses and that waits for no write. -/
theorem exec_nowLoRead_read (hd : s.deaf = false) (hw : s.windows = []) (ht : s.triggers = []) (hr : s.right 0x008 c ≠ 0)
    (hp : s.testPortAllows c false 0x008 0x040 0 = true) :
    exec (.nowLoRead c) s = .next ((s.nowLo c).reply c [s.now % 2 ^ 32] stOK) := by
  have hwait : s.loadWait c 0x008 = s := by simp [State.loadWait, hw, ht]
  simp [execNowLoRead, State.nowLoRead, hd, hwait, hr, hp]

theorem readWord_now {off : Nat} {l : Loc} (hl : wordLocs 0x008 off = [l]) (h0 : l.lo = 0) (hr : 1 ≤ s.right 0x008 c)
    (hp : s.testPortAllows c false 0x008 off 0 = true) :
    s.readWord c 0x008 off = (stOK, s.readField c l, s.readLatch c [l]) := by
  simp [State.readWord, hp, Nat.not_lt.2 hr, hl, h0]

theorem readLatch_nowLo (s : State) (c : Cls) :
    (s.readLatch c [TIMEBASE.NOW_LO]).latches.find? (latchFor c TIMEBASE.NOW_HI) =
      some (c.code, TIMEBASE.NOW_HI.key, s.now / 2 ^ 32) :=
  find_latch_replaced (L := s.latches)
    (keep := fun x => !(x.1 == c.code && [TIMEBASE.NOW_LO.key, TIMEBASE.NOW_HI.key].contains x.2.1))
    (fun x hx => by simp only [latchFor, Bool.and_eq_true, beq_iff_eq] at hx; simp [hx]) _

/-- A read of NOW_HI uses up the latch of its class. -/
theorem readLatch_nowHi (s : State) (c : Cls) :
    (s.readLatch c [TIMEBASE.NOW_HI]).latches.find? (latchFor c TIMEBASE.NOW_HI) = none := by
  have hused : (fun x : Nat × Nat × Nat => x.1 == c.code && [TIMEBASE.NOW_HI.key].contains x.2.1) = latchFor c TIMEBASE.NOW_HI :=
    funext fun x => by simp only [latchFor, List.contains_cons, List.contains_nil, Bool.or_false]
  have hread : s.readLatch c [TIMEBASE.NOW_HI] =
      if !(s.latches.any (latchFor c TIMEBASE.NOW_HI)) then s
      else { s with latches := s.latches.filter (fun x => !latchFor c TIMEBASE.NOW_HI x) ++ [] } := by
    rw [← hused]
    rfl
  rw [hread]
  split
  next h => exact List.find?_eq_none.2 (by simpa using h)
  next => exact List.find?_eq_none.2 (by simp)

/-- Settles O53: a latch of NOW_HI is found by its class alone, and without one the value is live. -/
theorem nowLatches : Obligations.NowLatches := by
  unfold Obligations.NowLatches
  refine ⟨fun s c hq hr hp => ?_, fun s c hr hp hl => ?_, fun s c hr hp => ?_, fun s c hl => ?_⟩
  · obtain ⟨hw, ht, -, hd⟩ := quiet_parts hq
    refine ⟨_, exec_nowLoRead_read hd hw ht (by omega) hp, rfl, fun u hu => readField_nowHi_latched (hu ▸ nowLo_own s c),
      fun d hne u hu hnow => ?_⟩
    have hother : u.latches.find? (latchFor d TIMEBASE.NOW_HI) = s.latches.find? (latchFor d TIMEBASE.NOW_HI) :=
      hu ▸ nowLo_other s hne
    rw [readField_nowHi, readField_nowHi, hother, hnow]
  · have hnone : s.latches.find? (latchFor c TIMEBASE.NOW_LO) = none := List.find?_eq_none.2 fun x hx => by
      have := List.all_eq_true.1 hl x hx
      simpa [latchFor] using fun _ => this
    rw [readWord_now (l := TIMEBASE.NOW_LO) rfl rfl hr hp]
    exact ⟨by rw [readField_nowLo, hnone]; rfl, fun u hu => readField_nowHi_latched (hu ▸ readLatch_nowLo s c)⟩
  · rw [readWord_now (l := TIMEBASE.NOW_HI) rfl rfl hr hp]
    refine ⟨rfl, fun u hu => ?_⟩
    have hnone : u.latches.find? (latchFor c TIMEBASE.NOW_HI) = none := hu ▸ readLatch_nowHi s c
    rw [readField_nowHi, hnone]
    rfl
  · rw [readField_nowHi, hl]
    rfl

end Sys2Proof.Machine
end

section
/-! PROOFS. Steps and loads of the time base (R88, R91). They have many side effects; as for `State.Steady`, a frame carries the
count, PULSES and memory past them. -/

namespace Sys2Proof.Machine

variable {s t u : State} {l : Loc}

/-! ### What the side effects of a step or load keep -/

/-- The count, the request of a step, and memory. -/
def State.countUnits (s : State) : Nat × Bool × List Host.Cell := (s.tb, s.clk.stepGo, s.mem)

/-- From `s` to `t` the units of `countUnits` and the count of TSYNC pulses are the same. -/
structure State.CountKept (s t : State) : Prop where
  pulses : t.get TSYNC.PULSES = s.get TSYNC.PULSES
  units : t.countUnits = s.countUnits

/-- A field of a page above that of TSYNC. -/
theorem pulses_ne_above (h : Nat.ble 0x00A l.page = true) : TSYNC.PULSES.key ≠ l.key := by
  have hp : 0x00A ≤ l.page := Nat.le_of_ble_eq_true h
  simp only [Loc.key, TSYNC.PULSES]
  omega

theorem pulses_ne_evt (pg : Nat) : TSYNC.PULSES.key ≠ (HDR.EVT pg).key := by
  simp only [Loc.key, TSYNC.PULSES, HDR.EVT]
  omega

theorem raise_countUnits (s : State) (pg b : Nat) : (s.raise pg b).countUnits = s.countUnits :=
  (congrArg State.countUnits (raise_eventless s pg b) :)

namespace State.CountKept

theorem refl (s : State) : s.CountKept s := ⟨rfl, rfl⟩

theorem trans (h : s.CountKept t) (h' : t.CountKept u) : s.CountKept u := ⟨h'.pulses.trans h.pulses, h'.units.trans h.units⟩

theorem tb (h : s.CountKept t) : t.tb = s.tb := congrArg (fun x => x.1) h.units

theorem step (h : s.CountKept t) : t.clk.stepGo = s.clk.stepGo := congrArg (fun x => x.2.1) h.units

theorem mem (h : s.CountKept t) : t.mem = s.mem := congrArg (fun x => x.2.2) h.units

theorem other (h : s.CountKept t) (e : u.regs = t.regs) (hu : u.countUnits = t.countUnits) : s.CountKept u :=
  ⟨(get_of_regs e _).trans h.pulses, hu.trans h.units⟩

theorem upon {p : Prop} {_ : Decidable p} (h : s.CountKept t) (f : s.CountKept t → s.CountKept u) :
    s.CountKept (if p then u else t) := by
  split
  · exact f h
  · exact h

theorem except {p : Prop} {_ : Decidable p} (h : s.CountKept t) (f : s.CountKept t → s.CountKept u) :
    s.CountKept (if p then t else u) := by
  split
  · exact h
  · exact f h

theorem foldl {α : Type} {as : List α} {f : State → α → State} (h : s.CountKept t)
    (hf : ∀ {u a}, s.CountKept u → s.CountKept (f u a)) : s.CountKept (as.foldl f t) :=
  List.foldlRecOn (motive := fun u => s.CountKept u) as f h fun _ hu _ _ => hf hu

theorem set {v : Nat} (h : s.CountKept t) (hl : TSYNC.PULSES.key ≠ l.key := by decide) : s.CountKept (t.set l v) :=
  ⟨(get_set_other t v hl).trans h.pulses, h.units⟩

theorem setAbove {v : Nat} (h : s.CountKept t) (hl : Nat.ble 0x00A l.page = true := by rfl) : s.CountKept (t.set l v) :=
  h.set (pulses_ne_above hl)

theorem raise {pg b : Nat} (h : s.CountKept t) : s.CountKept (t.raise pg b) :=
  ⟨(raise_other (pulses_ne_evt pg) (by decide)).trans h.pulses, (raise_countUnits t pg b).trans h.units⟩

/-! ### The timed actions and the measurements -/

theorem dropAction {g code at_ reason : Nat} (h : s.CountKept t) : s.CountKept (t.dropAction g code at_ reason) := by
  have hc : s.CountKept ((t.count (TIMELINE1.DROP_CNT g)).count TIMELINE0.DROP_CNT) := (h.setAbove : s.CountKept (t.count _)).set
  exact (hc.set.set.set.set.set).raise

theorem queueNote {g : Nat} (h : s.CountKept t) : s.CountKept (t.queueNote g) := h.setAbove.setAbove.setAbove

theorem dropLate (h : s.CountKept t) : s.CountKept t.dropLate :=
  h.foldl fun h => .queueNote ((h.foldl dropAction).other rfl rfl)

theorem selectSource (h : s.CountKept t) : s.CountKept t.selectSource :=
  .except (.except (h.set.set.set) fun h => h.other rfl rfl) raise

theorem aniseLapse (h : s.CountKept t) : s.CountKept t.aniseLapse := by
  unfold State.aniseLapse
  exact .set (h.other rfl rfl)

theorem endMeasures (h : s.CountKept t) : s.CountKept t.endMeasures := .selectSource (.aniseLapse (h.other rfl rfl))

/-! ### The loops and the paths -/

theorem loopStart {k : Nat} (h : s.CountKept t) : s.CountKept (t.loopStart k) := by
  have hoff : ∀ m : Loc, Nat.blt m.off 0x05C = true → Nat.blt m.lo 32 = true → TSYNC.PULSES.key ≠ m.key := fun m ho hl => by
    have ho := Nat.le_of_ble_eq_true ho
    exact Loc.key_ne_of_off (by decide) (by decide) (by omega) (Nat.le_of_ble_eq_true hl) (by simp only [TSYNC.PULSES]; omega)
  have hne : TSYNC.PULSES.key ≠ (Loop.LOCKED k).key ∧ TSYNC.PULSES.key ≠ (Loop.READY k).key ∧
      TSYNC.PULSES.key ≠ (Loop.MUTED k).key := by
    unfold Loop.LOCKED Loop.READY Loop.MUTED
    repeat' split
    all_goals exact ⟨hoff _ rfl rfl, hoff _ rfl rfl, hoff _ rfl rfl⟩
  have hm : s.CountKept (t.loopMute k) := (((h.set hne.1).set hne.2.1).set hne.2.2).upon fun h => h.set
  exact hm.other rfl rfl

theorem alignPath {n r : Nat} (h : s.CountKept t) : s.CountKept (t.alignPath n r) :=
  (h.other rfl rfl : s.CountKept (t.setRx n _)).set (pulses_ne_above (Nat.ble_eq_true_of_le (by simp only [RXPATH.THR_COUNT]; omega)))

theorem clearUp (h : s.CountKept t) : s.CountKept t.clearUp := h.other rfl rfl

theorem bypassEdge (h : s.CountKept t) : s.CountKept t.bypassEdge := h.other rfl rfl

end State.CountKept

/-! ### Capture ports without a segment -/

theorem forall_mem_upd {α : Type} {p : α → Prop} {as : List α} {i : Nat} {f : α → α} (h : ∀ a ∈ as, p a) (hf : ∀ a, p a → p (f a)) :
    ∀ a ∈ upd as i f, p a := by
  induction as generalizing i with
  | nil => exact h
  | cons b as ih =>
    obtain ⟨hb, has⟩ := List.forall_mem_cons.1 h
    cases i with
    | zero => exact List.forall_mem_cons.2 ⟨hf b hb, has⟩
    | succ i => exact List.forall_mem_cons.2 ⟨hb, ih has⟩

/-- No capture port records a segment. -/
def State.noSegment (s : State) : Prop := ∀ x ∈ s.caps, x.seg = none

theorem noSegment_cap (h : s.noSegment) (k : Nat) : (s.cap k).seg = none := by
  rw [State.cap, List.getD_eq_getElem?_getD]
  cases hx : s.caps[k]? with
  | none => rfl
  | some x => exact h x (List.mem_of_getElem? hx)

/-- A move of the time base leaves such a port without a segment, and only its own places move. -/
theorem capMoved_noSegment {d : Int} (h : s.noSegment) (k : Nat) :
    (s.capMoved d k).noSegment ∧ s.CountKept (s.capMoved d k) := by
  have htake : s.capTake k s.tb = s := by simp [State.capTake, noSegment_cap h k]
  unfold State.capMoved
  extract_lets at_
  rw [htake]
  exact ⟨forall_mem_upd h fun x hx => by simp [hx], .other (.refl s) rfl rfl⟩

/-! ### Steps and loads -/

theorem timeMoved_kept (h : s.noSegment) (new : Nat) : { s with tb := new % 2 ^ 64 }.CountKept (s.timeMoved new) := by
  unfold State.timeMoved
  extract_lets old t1 late t2
  have h1 : s.CountKept t1 :=
    (List.foldlRecOn (motive := fun u => u.noSegment ∧ s.CountKept u) _ _ ⟨h, .refl s⟩ fun u ⟨hu, hk⟩ k _ =>
      have ⟨hn, hm⟩ := capMoved_noSegment hu k
      ⟨hn, hk.trans hm⟩).2
  clear_value t1
  have hclk : t2.clk.stepGo = t1.clk.stepGo := by
    show (if t1.mode = 4 then _ else _ : ClockSt).stepGo = _
    split <;> rfl
  have hregs : t2.regs = t1.regs := rfl
  have hunits : t2.countUnits = (new % 2 ^ 64, t2.clk.stepGo, t1.mem) := rfl
  clear_value t2
  have h2 : { s with tb := new % 2 ^ 64 }.CountKept t2 :=
    ⟨(get_of_regs hregs _).trans h1.pulses, by rw [hunits, hclk, h1.step, h1.mem]; rfl⟩
  have h3 : { s with tb := new % 2 ^ 64 }.CountKept ((t2.streamMoved ((new : Int) - old)).spansMoved ((new : Int) - old)) :=
    h2.other rfl rfl
  exact h3.dropLate.endMeasures

/-- The state in which a step or load of the count to `new` has been taken up. -/
def State.taken (s : State) (new : Nat) : State := { s with tb := new % 2 ^ 64, clk := { s.clk with stepGo := false } }

theorem taken_get (s : State) (new : Nat) (l : Loc) : (s.taken new).get l = s.get l := get_of_regs rfl l

/-- What a step adds to the count, in units of 16 ticks (R88). -/
def State.stepped (s : State) : Nat := (((s.tb : Int) + toSigned 28 (s.get TIMEBASE.STEP_VAL) * 16) % (2 ^ 64 : Nat)).toNat

theorem stepped_lt (s : State) : s.stepped % 2 ^ 64 = s.stepped := by
  unfold State.stepped
  omega

theorem noSegment_of_idle (h : s.caps.all (fun x => x.seg.isNone && x.feed.isEmpty) = true) : s.noSegment := fun x hx => by
  have hi := List.all_eq_true.1 h x hx
  simp only [Bool.and_eq_true, Option.isNone_iff_eq_none] at hi
  exact hi.1

theorem stepDone_eq (hg : s.clk.stepGo = true) (hr : s.tbRun = true) (hm : s.mode ≠ 5) (he : s.tb % s.inc = 0) :
    s.stepDone = ((({ s with clk := { s.clk with stepGo := false } }.timeMoved s.stepped).set TIMEBASE.VALID 1).raise 0x008
      EV.TIMEBASE.STEP_DONE) := by
  rw [State.stepDone, if_neg (fun h => hm h.2), if_pos ⟨hg, hr, he⟩]
  rfl

theorem stepDone_kept (hg : s.clk.stepGo = true) (hr : s.tbRun = true) (hm : s.mode ≠ 5) (he : s.tb % s.inc = 0)
    (hc : s.noSegment) : (s.taken s.stepped).CountKept s.stepDone := by
  have h : (s.taken s.stepped).CountKept ({ s with clk := { s.clk with stepGo := false } }.timeMoved s.stepped) :=
    timeMoved_kept (s := { s with clk := { s.clk with stepGo := false } }) hc _
  rw [stepDone_eq hg hr hm he]
  exact h.set.raise

/-- PRESET as a count. -/
def State.preset (s : State) : Nat := join64 (s.get TIMEBASE.PRESET_LO * 16) (s.get TIMEBASE.PRESET_HI)

/-- The load is shown: LAST_TB, MODE and VALID, with its event. -/
def State.loadShown (s : State) (preset : Nat) : State :=
  (((s.set64 TSYNC.LAST_TB_LO TSYNC.LAST_TB_HI preset).set TSYNC.MODE 2).set TIMEBASE.VALID 1).raise 0x009 EV.TSYNC.LOADED

theorem State.CountKept.loadShown {n : Nat} (h : s.CountKept t) : s.CountKept (t.loadShown n) :=
  (h.set : s.CountKept (t.set TSYNC.LAST_TB_LO n)).set.set.set.raise

/-- A load shows itself over a state in which only the count has moved and the step waits no more; a step that waited is
refused. -/
theorem tsyncLoad_shows (hc : s.noSegment) :
    ∃ u : State, (s.taken s.preset).CountKept u ∧
      s.tsyncLoad = if s.clk.stepGo then (u.loadShown s.preset).raise 0x008 EV.TIMEBASE.STEP_REFUSED else u.loadShown s.preset := by
  unfold State.tsyncLoad
  extract_lets preset refused clk t1 t2 t3 t4 t5
  have h1 : (s.taken s.preset).CountKept t1 := timeMoved_kept (s := { s with clk := { s.clk with stepGo := false } }) hc _
  clear_value t1
  have h2 : (s.taken s.preset).CountKept t2 :=
    (h1.foldl fun h => h.alignPath).clearUp.bypassEdge
  clear_value t2
  have h3 : (s.taken s.preset).CountKept t3 := h2.foldl fun h => h.upon fun h => h.loopStart
  clear_value t3
  exact ⟨t3, h3, rfl⟩

theorem loadShown_fields (s : State) (preset : Nat) :
    (s.loadShown preset).get TSYNC.MODE = 2 ∧ (s.loadShown preset).get TIMEBASE.VALID = 1 ∧
      bitOf ((s.loadShown preset).get (HDR.EVT 0x009)) EV.TSYNC.LOADED = true := by
  unfold State.loadShown
  refine ⟨?_, ?_, raise_sets _ _ (by decide)⟩
  · rw [raise_other (by decide) (by decide), get_set_other _ _ (by decide)]
    exact get_set_same _ TSYNC.MODE 2
  · rw [raise_other (by decide) (by decide)]
    exact get_set_same _ TIMEBASE.VALID 1

/-- A load takes PRESET as the count, and shows itself. -/
theorem tsyncLoad_loads (hc : s.noSegment) :
    (s.taken s.preset).CountKept s.tsyncLoad ∧ s.tsyncLoad.get TSYNC.MODE = 2 ∧ s.tsyncLoad.get TIMEBASE.VALID = 1 ∧
      bitOf (s.tsyncLoad.get (HDR.EVT 0x009)) EV.TSYNC.LOADED = true := by
  obtain ⟨u, hu, hload⟩ := tsyncLoad_shows hc
  obtain ⟨hmode, hvalid, hevt⟩ := loadShown_fields u s.preset
  rw [hload]
  split
  · refine ⟨hu.loadShown.raise, ?_, ?_, raise_keeps_evt (by decide) hevt⟩
    · rw [raise_other (by decide) (by decide), hmode]
    · rw [raise_other (by decide) (by decide), hvalid]
  · exact ⟨hu.loadShown, hmode, hvalid, hevt⟩

end Sys2Proof.Machine
end

section
/-! PROOFS. The time base (O8): pulses of TSYNC at a REFCLK edge, TSYNCO, and the two triggers of its page. -/

namespace Sys2Proof.Machine

variable {s : State} {c : Cls} {l : Loc}

/-! ### Checks -/

/-- The numbers of the fields that a check can change. -/
def checkKeys : List Nat := [TSYNC.LAST_TB_LO.key, TSYNC.LAST_TB_HI.key, TSYNC.DIFF.key, TSYNC.DIFF_ERRS.key] ++ evKeys 0x009

/-- A check records the count and its difference, and a difference that is not 0. -/
theorem tsyncCheck_cases (s : State) : ∃ d : Int,
    let t := ((s.set64 TSYNC.LAST_TB_LO TSYNC.LAST_TB_HI s.tb).seti TSYNC.DIFF d).raise 0x009 EV.TSYNC.CHECKED
    s.tsyncCheck = t ∨ s.tsyncCheck = (t.count TSYNC.DIFF_ERRS).raise 0x009 EV.TSYNC.DIFF_ERR := by
  unfold State.tsyncCheck
  extract_lets preset period d diff t1 t2
  exact ⟨diff, ite_eq_or_eq ..⟩

theorem tsyncCheck_same (s : State) : SameRegs checkKeys s s.tsyncCheck := by
  have hev : ∀ k ∈ evKeys 0x009, k ∈ checkKeys := fun _ hk => List.mem_append_right _ hk
  obtain ⟨d, h⟩ := tsyncCheck_cases s
  have ht : SameRegs checkKeys s
      (((s.set64 TSYNC.LAST_TB_LO TSYNC.LAST_TB_HI s.tb).seti TSYNC.DIFF d).raise 0x009 EV.TSYNC.CHECKED) :=
    (((SameRegs.refl s).set64 (by decide) (by decide)).set (by decide)).raise hev
  rcases h with h | h
  · rw [h]; exact ht
  · rw [h]; exact (ht.count (by decide)).raise hev

theorem tsyncCheck_kept (s : State) : s.CountKept s.tsyncCheck := by
  obtain ⟨d, h⟩ := tsyncCheck_cases s
  have ht : s.CountKept (((s.set64 TSYNC.LAST_TB_LO TSYNC.LAST_TB_HI s.tb).seti TSYNC.DIFF d).raise 0x009 EV.TSYNC.CHECKED) :=
    (((State.CountKept.refl s).set : s.CountKept (s.set TSYNC.LAST_TB_LO s.tb)).set.set).raise
  rcases h with h | h
  · rw [h]; exact ht
  · rw [h]; exact (ht.set : s.CountKept (State.count _ TSYNC.DIFF_ERRS)).raise

theorem get64_set64_lastTb (s : State) (n : Nat) :
    (s.set64 TSYNC.LAST_TB_LO TSYNC.LAST_TB_HI n).get64 TSYNC.LAST_TB_LO TSYNC.LAST_TB_HI = n % 2 ^ 64 := by
  rw [State.get64, State.set64, get_set_same, get_set_other _ _ (by decide), get_set_same]
  simp only [join64, trunc, TSYNC.LAST_TB_LO, TSYNC.LAST_TB_HI]
  omega

/-- A check shows its event and the count. -/
theorem tsyncCheck_shows (s : State) :
    bitOf (s.tsyncCheck.get (HDR.EVT 0x009)) EV.TSYNC.CHECKED = true ∧
      s.tsyncCheck.get64 TSYNC.LAST_TB_LO TSYNC.LAST_TB_HI = s.tb % 2 ^ 64 := by
  obtain ⟨d, h⟩ := tsyncCheck_cases s
  generalize ht : ((s.set64 TSYNC.LAST_TB_LO TSYNC.LAST_TB_HI s.tb).seti TSYNC.DIFF d).raise 0x009 EV.TSYNC.CHECKED = t at h
  have hevt : bitOf (t.get (HDR.EVT 0x009)) EV.TSYNC.CHECKED = true := ht ▸ raise_sets _ _ (by decide)
  have hlast : t.get64 TSYNC.LAST_TB_LO TSYNC.LAST_TB_HI = s.tb % 2 ^ 64 := by
    rw [← get64_set64_lastTb s s.tb, ← ht]
    simp only [State.get64]
    rw [raise_other (by decide) (by decide), raise_other (by decide) (by decide), State.seti, get_set_other _ _ (by decide),
      get_set_other _ _ (by decide)]
  rcases h with h | h
  · rw [h]; exact ⟨hevt, hlast⟩
  · rw [h]
    refine ⟨raise_keeps_evt (by decide) ?_, ?_⟩
    · rwa [count_other _ _ (by decide)]
    · rw [← hlast]
      simp only [State.get64]
      rw [raise_other (by decide) (by decide), raise_other (by decide) (by decide), count_other _ _ (by decide),
        count_other _ _ (by decide)]

/-! ### Pulses of TSYNC -/

/-- The state with a pulse counted. -/
def State.pulsed (s : State) : State := s.count TSYNC.PULSES

theorem pulsed_get (h : l.key ≠ TSYNC.PULSES.key) : s.pulsed.get l = s.get l := count_other s 1 h

theorem pulsed_pulses (s : State) : s.pulsed.get TSYNC.PULSES = min (2 ^ TSYNC.PULSES.wid - 1) (s.get TSYNC.PULSES + 1) :=
  count_same s TSYNC.PULSES 1

theorem pulsed_preset (s : State) : s.pulsed.preset = s.preset := by
  simp only [State.preset, pulsed_get (s := s) (l := TIMEBASE.PRESET_LO) (by decide),
    pulsed_get (s := s) (l := TIMEBASE.PRESET_HI) (by decide)]

/-- A pulse at a REFCLK edge is counted, and MODE and M5 say what else it does (R91, R92). -/
theorem tsyncPulse_heard (ha : s.act 0x009 = true) (hr : s.tbRun = true) (hm : s.mode ≠ 0) (he : s.tb % s.inc = 0) :
    s.tsyncPulse =
      if s.get TSYNC.MODE = 1 ∧ s.mode ≠ 5 then s.pulsed.tsyncLoad
      else if s.get TSYNC.MODE = 1 then s.pulsed.tsyncCheck.raise 0x009 EV.TSYNC.LOAD_BLOCKED
      else if s.get TSYNC.MODE = 2 then s.pulsed.tsyncCheck
      else s.pulsed := by
  rw [State.tsyncPulse, if_neg (by simp [ha, hr, hm, he]), ← pulsed_get (s := s) (l := TSYNC.MODE) (by decide),
    show s.mode = s.pulsed.mode from (pulsed_get (by decide)).symm]
  rfl

/-- A load by a pulse. -/
theorem tsyncPulse_loads (ha : s.act 0x009 = true) (hr : s.tbRun = true) (hm : s.mode ≠ 0) (h5 : s.mode ≠ 5)
    (he : s.tb % s.inc = 0) (h1 : s.get TSYNC.MODE = 1) : s.tsyncPulse = s.pulsed.tsyncLoad := by
  rw [tsyncPulse_heard ha hr hm he, if_pos ⟨h1, h5⟩]

theorem exec_tsyncCheck_pulse (h : s.get TSYNC.MODE ≠ 1 ∨ s.mode = 5) : exec .tsyncCheck s = .next s.tsyncPulse := by
  rw [exec_tsyncCheck, execTsyncCheck, if_neg (by tauto)]

/-! ### The triggers of the page -/

/-- A trigger of the page that acts as `g` lands as `g`. -/
theorem rowTrig_timebase {g : State → State} (h : s.triggered c l = true) (hl : l = TIMEBASE.STEP_GO ∨ l = TIMEBASE.VALID_SET)
    (hg : (s.ripe c l).trigAct c l 0 s.ao = g (s.ripe c l)) (hw : (g (s.ripe c l)).words = (s.ripe c l).words)
    (ha : (g (s.ripe c l)).acks = []) : s.rowTrig c l = s.lands c l [] [g] := by
  have hlands := rowTrig_lands (s := s) (c := c) (l := l) (data := 0) h (by rcases hl with rfl | rfl <;> rfl)
    (by rcases hl with rfl | rfl <;> decide) (by rcases hl with rfl | rfl <;> decide) (by rw [hg, hw]) (by rw [hg, ha])
  rw [hlands]
  show (((s.ripe c l).trigAct c l 0 s.ao).credit 1 false).reply c [] stOK = _
  rw [hg]
  rfl

theorem trigAct_stepGo (s : State) (c : Cls) (data at_ : Nat) : s.trigAct c TIMEBASE.STEP_GO data at_ = s.stepGo := by
  rw [trigAct_low (by decide) (by decide) (by decide) (by decide)]
  rfl

theorem trigAct_validSet (s : State) (c : Cls) (data at_ : Nat) : s.trigAct c TIMEBASE.VALID_SET data at_ = s.validSet := by
  rw [trigAct_low (by decide) (by decide) (by decide) (by decide)]
  rfl

theorem exec_stepGo_arms (h : s.triggered c TIMEBASE.STEP_GO = true) (h5 : (s.ripe c TIMEBASE.STEP_GO).mode ≠ 5) :
    exec (.stepGo c) s =
      .next (s.lands c TIMEBASE.STEP_GO [] [fun u => { u with clk := { u.clk with stepGo := true } }]) :=
  congrArg Host.Outcome.next
    (rowTrig_timebase h (.inl rfl) (by rw [trigAct_stepGo, State.stepGo, if_neg h5]) rfl rfl)

theorem exec_stepGo_refused (h : s.triggered c TIMEBASE.STEP_GO = true) (h5 : (s.ripe c TIMEBASE.STEP_GO).mode = 5) :
    exec (.stepGo c) s = .next (s.lands c TIMEBASE.STEP_GO [] [fun u => u.raise 0x008 EV.TIMEBASE.STEP_REFUSED]) :=
  congrArg Host.Outcome.next
    (rowTrig_timebase h (.inl rfl) (by rw [trigAct_stepGo, State.stepGo, if_pos h5])
      (congrArg State.words (raise_eventless (s.ripe c TIMEBASE.STEP_GO) 0x008 EV.TIMEBASE.STEP_REFUSED) :)
      (congrArg State.acks (raise_eventless (s.ripe c TIMEBASE.STEP_GO) 0x008 EV.TIMEBASE.STEP_REFUSED) :))

theorem exec_validSet_lands (h : s.triggered c TIMEBASE.VALID_SET = true) :
    exec (.validSet c) s = .next (s.lands c TIMEBASE.VALID_SET [] [fun u => u.set TIMEBASE.VALID 1]) :=
  congrArg Host.Outcome.next (rowTrig_timebase h (.inr rfl) (by rw [trigAct_validSet, State.validSet]) rfl rfl)

/-! ### TSYNCO -/

theorem tsyncoPulse_rises (ha : s.act 0x009 = true) (hr : s.on TSYNC.OUT_ARM = true) (hn : s.clk.tsynco = none)
    (ht : s.get64 TSYNC.OUT_TB_LO TSYNC.OUT_TB_HI + s.inc / 2 ≤ s.tb) (he : s.tb % s.inc = s.inc / 2) :
    s.tsyncoPulse = { s with clk := { s.clk with tsynco := some (s.ao + max 2 (s.get TSYNC.OUT_WIDTH) * s.inc) } } := by
  simp [State.tsyncoPulse, ha, hr, hn, ht, he]

/-- The pulse ends: OUT_TB moves where it repeats with a period, else it disarms. -/
theorem outSent_due {e : Nat} (h : s.clk.tsynco = some e) (he : e ≤ s.ao) :
    s.outSent =
      (if s.on TSYNC.OUT_REPEAT ∧ s.get TSYNC.PERIOD * 16 ≠ 0 then
        { s with clk := { s.clk with tsynco := none } }.set64 TSYNC.OUT_TB_LO TSYNC.OUT_TB_HI
          (s.get64 TSYNC.OUT_TB_LO TSYNC.OUT_TB_HI + s.get TSYNC.PERIOD * 16)
      else { s with clk := { s.clk with tsynco := none } }.set TSYNC.OUT_ARM 0).raise 0x009 EV.TSYNC.OUT_SENT := by
  unfold State.outSent
  rw [h]
  exact if_pos he

/-! ### The statement -/

theorem stepDone_adds (hg : s.clk.stepGo = true) (hr : s.tbRun = true) (hm : s.mode ≠ 5) (he : s.tb % s.inc = 0)
    (hc : s.noSegment) :
    s.stepDone.tb = s.stepped ∧ s.stepDone.clk.stepGo = false ∧ s.stepDone.get TIMEBASE.VALID = 1 ∧
      bitOf (s.stepDone.get (HDR.EVT 0x008)) EV.TIMEBASE.STEP_DONE = true ∧ s.stepDone.mem = s.mem := by
  have hk := stepDone_kept hg hr hm he hc
  refine ⟨hk.tb.trans (stepped_lt s), hk.step, ?_, ?_, hk.mem⟩
  · rw [stepDone_eq hg hr hm he, raise_other (by decide) (by decide)]
    exact get_set_same _ TIMEBASE.VALID 1
  · rw [stepDone_eq hg hr hm he]
    exact raise_sets _ _ (by decide)

theorem exec_tsyncLoad_loads (ha : s.act 0x009 = true) (hr : s.tbRun = true) (hm : s.mode ≠ 0) (h5 : s.mode ≠ 5)
    (he : s.tb % s.inc = 0) (h1 : s.get TSYNC.MODE = 1) (hc : s.noSegment) :
    ∃ t : State, exec .tsyncLoad s = .next t ∧ t.tb = s.preset % 2 ^ 64 ∧ t.get TSYNC.MODE = 2 ∧ t.get TIMEBASE.VALID = 1 ∧
      t.clk.stepGo = false ∧ bitOf (t.get (HDR.EVT 0x009)) EV.TSYNC.LOADED = true ∧
      t.get TSYNC.PULSES = min (2 ^ TSYNC.PULSES.wid - 1) (s.get TSYNC.PULSES + 1) ∧ t.mem = s.mem := by
  obtain ⟨hk, hmode, hvalid, hevt⟩ := tsyncLoad_loads (s := s.pulsed) hc
  refine ⟨s.pulsed.tsyncLoad, ?_, ?_, hmode, hvalid, hk.step, hevt, ?_, hk.mem⟩
  · rw [exec_tsyncLoad, execTsyncLoad, tsyncPulse_loads ha hr hm h5 he h1]
  · rw [hk.tb, ← pulsed_preset s]
    rfl
  · rw [hk.pulses, taken_get, pulsed_pulses]

theorem exec_tsyncCheck_checks (ha : s.act 0x009 = true) (hr : s.tbRun = true) (hm : s.mode ≠ 0) (he : s.tb % s.inc = 0)
    (h2 : s.get TSYNC.MODE = 2) : exec .tsyncCheck s = .next s.pulsed.tsyncCheck := by
  rw [exec_tsyncCheck_pulse (by omega), tsyncPulse_heard ha hr hm he, if_neg (by omega), if_neg (by omega), if_pos h2]

theorem exec_tsyncCheck_blocked (ha : s.act 0x009 = true) (hr : s.tbRun = true) (hm : s.mode = 5) (he : s.tb % s.inc = 0)
    (h1 : s.get TSYNC.MODE = 1) :
    exec .tsyncCheck s = .next (s.pulsed.tsyncCheck.raise 0x009 EV.TSYNC.LOAD_BLOCKED) := by
  rw [exec_tsyncCheck_pulse (.inr hm), tsyncPulse_heard ha hr (by omega) he, if_neg (by omega), if_pos h1]

/-- A checked pulse is counted, and changes fields of its page alone. -/
theorem pulsed_tsyncCheck_same (s : State) : SameRegs (TSYNC.PULSES.key :: checkKeys) s s.pulsed.tsyncCheck :=
  ((SameRegs.refl s).count (List.mem_cons_self ..)).trans
    ((tsyncCheck_same s.pulsed).mono fun _ hk => List.mem_cons_of_mem _ hk)

/-- Settles O8: a step or load by what its side effects keep, a check and a read by what they write. -/
theorem timeBase : Obligations.TimeBase := by
  unfold Obligations.TimeBase
  refine ⟨fun s c h h5 => exec_stepGo_arms h h5, fun s c h h5 => exec_stepGo_refused h h5, fun s hg hr hm he hc => ?_,
    fun s hg hm => ?_, fun s c h => exec_validSet_lands h, fun s ha hr hm h5 he h1 hc => ?_, fun s ha hr hm he h2 => ?_,
    fun s ha hr hm he h1 => ?_, fun s ha hr hn ht he => ?_, fun s e h he hrep => ?_, fun s e h he hrep hp => ?_,
    fun s c hd hr hc hw ht => ?_⟩
  · exact ⟨s.stepDone, exec_stepDone s, stepDone_adds hg hr hm he (noSegment_of_idle hc)⟩
  · rw [exec_stepDone, execStepDone, State.stepDone, if_pos ⟨hg, hm⟩]
  · exact exec_tsyncLoad_loads ha hr hm h5 he h1 (noSegment_of_idle hc)
  · obtain ⟨hevt, hlast⟩ := tsyncCheck_shows s.pulsed
    have hk := tsyncCheck_kept s.pulsed
    exact ⟨s.pulsed.tsyncCheck, exec_tsyncCheck_checks ha hr hm he h2, hk.tb, hevt, hk.pulses.trans (pulsed_pulses s), hlast, hk.mem,
      pulsed_tsyncCheck_same s⟩
  · have hk := (tsyncCheck_kept s.pulsed).raise (pg := 0x009) (b := EV.TSYNC.LOAD_BLOCKED)
    refine ⟨_, exec_tsyncCheck_blocked ha hr hm he h1, hk.tb, raise_sets _ _ (by decide), ?_, hk.mem⟩
    rw [raise_other (by decide) (by decide), pulsed_tsyncCheck_same s TSYNC.MODE (by decide), h1]
  · rw [exec_tsyncoPulse, execTsyncoPulse, tsyncoPulse_rises ha hr hn ht he]
  · rw [exec_outSent, execOutSent, outSent_due h he, if_neg]
    rintro ⟨hon, hp⟩
    rcases hrep with h0 | h0
    · exact Bool.false_ne_true (h0.symm.trans hon)
    · exact hp (by rw [h0])
  · rw [exec_outSent, execOutSent, outSent_due h he, if_pos ⟨hrep, by omega⟩]
  · have hp : s.testPortAllows c false 0x008 0x040 0 = true := by
      cases c with
      | test => exact absurd rfl hc
      | _ => rfl
    exact ⟨_, exec_nowLoRead_read hd hw ht hr hp, rfl, nowLo_own s c, rfl, rfl, (SameRegs.refl s).of_regs rfl⟩

end Sys2Proof.Machine
end

section
/-! PROOFS. REFCLK and the loops (O7). The statement fails at a state that no run reaches: V_START is a field of 10 bits, but a
`State` can hold any number under it, and TARGET, which takes it when step 1 of a start ends, is cut to its width. -/

namespace Sys2Proof.Machine

variable {s : State}

/-! ### The lock of the LPLL in step 1 of a start -/

/-- The numbers of the fields that the lock of loop `k` can change. -/
def lockKeys (k : Nat) : List Nat := [(Loop.LOCKED k).key, (Loop.BAND_FAIL k).key, (Loop.BAND k).key] ++ evKeys (loopPage k)

theorem lockLoop_same (s : State) (k : Nat) : SameRegs (lockKeys k) s (s.lockLoop k) := by
  unfold State.lockLoop
  split
  · have h : SameRegs (lockKeys k) s (({ s with fv := s.fv + 1 }.setLoop k .locked).countFrom k) := (SameRegs.refl s).of_regs rfl
    exact (((h.set (by simp [lockKeys])).set (by simp [lockKeys])).set (by simp [lockKeys])).raise
      fun _ hk => List.mem_append_right _ hk
  · exact .refl s

theorem lockLoop_modes (s : State) (k : Nat) : (s.lockLoop k).modes = s.modes := by
  unfold State.lockLoop
  split
  · exact (congrArg State.modes (raise_eventless _ _ _) :)
  · rfl

theorem lockLoop_locks (hl : s.loop 3 = .search) (hr : s.on CPLL.REF_OK = true) (hc : s.compared 3 256 = true) :
    (s.lockLoop 3).get LPLL.LOCKED = 1 := by
  unfold State.lockLoop
  rw [if_pos ⟨hl, hr, rfl, hc⟩]
  dsimp only
  rw [raise_other (by decide) (by decide), get_set_other _ _ (by decide), get_set_other _ _ (by decide)]
  exact get_set_same _ LPLL.LOCKED 1

/-- When the lock of the LPLL ends step 1, TARGET takes the low 32 bits of V_START. -/
theorem lockStep_target (hl : s.loop 3 = .search) (hr : s.on CPLL.REF_OK = true) (hc : s.compared 3 256 = true)
    (hs : s.modes.step = 1) (hcpll : s.on CPLL.LOCKED = true) :
    (s.lockStep 3).get AVS.TARGET = trunc 32 (s.get AVS.V_START) := by
  have hboth : (s.lockLoop 3).modes.step = 1 ∧ (s.lockLoop 3).on CPLL.LOCKED = true ∧ (s.lockLoop 3).on LPLL.LOCKED = true := by
    refine ⟨by rw [lockLoop_modes, hs], ?_, by rw [State.on, lockLoop_locks hl hr hc]; rfl⟩
    rwa [State.on, lockLoop_same s 3 CPLL.LOCKED (by decide)]
  have htarget : ((s.lockLoop 3).set AVS.TARGET ((s.lockLoop 3).get AVS.V_START)).get AVS.TARGET = trunc 32 (s.get AVS.V_START) := by
    rw [get_set_same, lockLoop_same s 3 AVS.V_START (by decide)]
    rfl
  unfold State.lockStep
  extract_lets t age t1
  have hstep : t1.modes.step = 1 ∧ t1.on CPLL.LOCKED = true ∧ t1.on LPLL.LOCKED = true := hboth
  rw [if_pos hstep]
  exact htarget

/-! ### The counterexample -/

/-- A start in step 1 with REFCLK there: the CPLL is locked, the LPLL has searched through 256 comparisons, and V_START reads
2^32 + 750. -/
def startWide : State :=
  { State.reset with
    regs := [(CPLL.REF_OK.key, 1), (CPLL.LOCKED.key, 1), (AVS.V_START.key, 2 ^ 32)]
    ao := 2048
    clk := { loops := [.off, .off, .off, .search] }
    modes := { reason := 1, step := 1 } }

theorem startWide_start : startWide.get AVS.V_START = 2 ^ 32 + 750 := by decide

/-- Refutes O7: in `startWide` the lock of the LPLL leaves TARGET = 750, the low 32 bits of V_START. -/
theorem not_loops : ¬ Obligations.Loops := by
  unfold Obligations.Loops
  intro ⟨_, _, lock, _⟩
  have hl : startWide.loop 3 = .search := by decide
  have hr : startWide.on CPLL.REF_OK = true := by decide
  have hc : startWide.compared 3 256 = true := by decide
  have hs : startWide.modes.step = 1 := by decide
  have hcpll : startWide.on CPLL.LOCKED = true := by decide
  obtain ⟨t, ht, -, htarget, -⟩ := lock startWide hl hr hc hs hcpll
  obtain rfl : startWide.lockStep 3 = t := by simpa [execLock] using ht
  rw [lockStep_target hl hr hc hs hcpll, startWide_start] at htarget
  exact absurd htarget (by decide)

end Sys2Proof.Machine
end

section
/-! PROOFS. Overload protection and converter events of a receive path (O9): a crossing, a release step and a waiting selection by
the state they lead to, DEC_ALIGN by its trigger. -/

namespace Sys2Proof.Machine

variable {s : State} {c : Cls} {n : Nat}

/-! ### Overload -/

/-- 12 dB in force, with the hold and decay of OVL_CFG (R111, R114). -/
def State.ovlEngaged (s : State) (n : Nat) : State :=
  ((s.set (RXPATH.ATT_NOW n) 24).set (RXPATH.OVL_ACT n) 1).setRx n (fun r =>
    { r with ovlAt := s.ao, ovlStep := false, ovlHold := s.get (RXPATH.OVL_HOLD n), ovlDecay := s.get (RXPATH.OVL_DECAY n) })

theorem ovlStat_keeps (n : Nat) {l : Loc} (hl : l = RXPATH.OVL_HOLD n ∨ l = RXPATH.OVL_DECAY n) (s : State) :
    ((s.set (RXPATH.ATT_NOW n) 24).set (RXPATH.OVL_ACT n) 1).get l = s.get l := by
  obtain ⟨hact, hatt⟩ : l.key ≠ (RXPATH.OVL_ACT n).key ∧ l.key ≠ (RXPATH.ATT_NOW n).key := by
    rcases hl with rfl | rfl <;>
      simp only [Loc.key, RXPATH.OVL_HOLD, RXPATH.OVL_DECAY, RXPATH.OVL_ACT, RXPATH.ATT_NOW] <;> omega
  rw [get_set_other _ _ hact, get_set_other _ _ hatt]

/-- A crossing engages 12 dB, and counts as an engagement from 0 dB alone (R111). -/
theorem ovlEngage_crossed (ha : s.act (rxPage n) = true) (he : s.on (RXPATH.OVL_EN n) = true)
    (hr : (s.path n).st.receives = true) :
    s.ovlEngage n =
      if s.get (RXPATH.ATT_NOW n) = 0 then ((s.ovlEngaged n).count (RXPATH.OVL_CNT n)).raise (rxPage n) EV.RXPATH.OVL
      else s.ovlEngaged n := by
  unfold State.ovlEngage
  rw [if_pos (by rw [ha, he, hr]; rfl)]
  simp only [ovlStat_keeps n (.inl rfl), ovlStat_keeps n (.inr rfl), beq_iff_eq]
  rfl

/-- A release step is taken: 0.5 dB comes off (R112). -/
def State.ovlStepped (s : State) (n : Nat) : State :=
  (s.set (RXPATH.ATT_NOW n) (s.get (RXPATH.ATT_NOW n) - 1)).setRx n (fun r => { r with ovlAt := s.ao, ovlStep := true })

/-- A due release step takes 0.5 dB off, and the one that reaches 0 dB ends the engagement. -/
theorem ovlRelease_due {b : Nat} (h0 : 0 < s.get (RXPATH.ATT_NOW n)) (hf : s.on (RXPATH.OVL_FORCE n) = false)
    (hd : s.ovlDue n b = true) :
    s.ovlRelease n b =
      if s.get (RXPATH.ATT_NOW n) = 1 then
        ((s.ovlStepped n).set (RXPATH.OVL_ACT n) 0).setRx n (fun r => { r with ovlHold := 0, ovlDecay := 0 })
      else s.ovlStepped n := by
  unfold State.ovlRelease
  dsimp only
  rw [if_pos (by simp [h0, hf, hd])]
  rfl

theorem ovlReleased_fields (h1 : s.get (RXPATH.ATT_NOW n) = 1) :
    ((s.ovlStepped n).set (RXPATH.OVL_ACT n) 0).get (RXPATH.ATT_NOW n) = 0 ∧
      ((s.ovlStepped n).set (RXPATH.OVL_ACT n) 0).get (RXPATH.OVL_ACT n) = 0 ∧
      SameRegs [(RXPATH.ATT_NOW n).key, (RXPATH.OVL_ACT n).key] s ((s.ovlStepped n).set (RXPATH.OVL_ACT n) 0) := by
  have hk : (RXPATH.ATT_NOW n).key ≠ (RXPATH.OVL_ACT n).key := by
    simp only [Loc.key, RXPATH.ATT_NOW, RXPATH.OVL_ACT]; omega
  refine ⟨?_, get_set_same _ (RXPATH.OVL_ACT n) 0, ?_⟩
  · have ha : (s.ovlStepped n).get (RXPATH.ATT_NOW n) = trunc 5 (s.get (RXPATH.ATT_NOW n) - 1) := get_set_same ..
    rw [get_set_other _ _ hk, ha, h1]
    rfl
  · exact (((SameRegs.refl s).set (by simp)).of_regs (u := s.ovlStepped n) rfl).set (by simp)

/-! ### Modulator resets -/

/-- A reset of a running modulator makes 64 ticks INVALID, and is a fault where the protection is enabled (R110). -/
theorem modReset_runs (h : s.modRuns (rxPage n) = true) :
    s.modReset n =
      if s.on (RXPATH.OVL_EN n) then
        ((s.rxInvalid n (s.ao + 64)).count (RXPATH.MODRST_CNT n)).raiseLog 2 (rxPage n) EV.RXPATH.MOD_RESET
      else ((s.rxInvalid n (s.ao + 64)).count (RXPATH.MODRST_CNT n)).raise (rxPage n) EV.RXPATH.MOD_RESET := by
  have hk : (RXPATH.OVL_EN n).key ≠ (RXPATH.MODRST_CNT n).key := by
    simp only [Loc.key, RXPATH.OVL_EN, RXPATH.MODRST_CNT]; omega
  have hen : ((s.rxInvalid n (s.ao + 64)).count (RXPATH.MODRST_CNT n)).on (RXPATH.OVL_EN n) = s.on (RXPATH.OVL_EN n) := by
    rw [State.on, count_other _ _ hk]
    rfl
  unfold State.modReset
  rw [if_pos h]
  dsimp only
  rw [hen]

/-! ### Comparator selections -/

/-- The four fields of a comparator selection. -/
def compKeys (n : Nat) : List Nat :=
  [(RXPATH.COMP_MAP_I n).key, (RXPATH.COMP_MAP_Q n).key, (RXPATH.SPARES_I n).key, (RXPATH.SPARES_Q n).key]

/-- A selection is stored. -/
def State.compSet (s : State) (n mi mq si sq : Nat) : State :=
  (((s.set (RXPATH.COMP_MAP_I n) mi).set (RXPATH.COMP_MAP_Q n) mq).set (RXPATH.SPARES_I n) si).set (RXPATH.SPARES_Q n) sq

theorem compSet_get (s : State) (n mi mq si sq : Nat) :
    (s.compSet n mi mq si sq).get (RXPATH.COMP_MAP_I n) = trunc 18 mi ∧
      (s.compSet n mi mq si sq).get (RXPATH.COMP_MAP_Q n) = trunc 18 mq ∧
      (s.compSet n mi mq si sq).get (RXPATH.SPARES_I n) = trunc 2 si ∧
      (s.compSet n mi mq si sq).get (RXPATH.SPARES_Q n) = trunc 2 sq := by
  simp (disch := simp only [Loc.key, RXPATH.COMP_MAP_I, RXPATH.COMP_MAP_Q, RXPATH.SPARES_I, RXPATH.SPARES_Q]; omega) only
    [State.compSet, get_set_same, get_set_other]
  exact ⟨rfl, rfl, rfl, rfl⟩

/-- A selection takes effect: stored, counted and raised (R108). -/
def State.compSwapped (s : State) (n mi mq si sq : Nat) : State :=
  (((s.setRx n (fun r => { r with comp := none })).compSet n mi mq si sq).count (RXPATH.COMP_SWAP_CNT n)).raise (rxPage n)
    EV.RXPATH.COMP_SWAP

/-- The count and the event leave the selection as it was stored. -/
theorem compSwapped_get {mi mq si sq : Nat} {l : Loc} (hl : l.key ∈ compKeys n) :
    (s.compSwapped n mi mq si sq).get l = ((s.setRx n (fun r => { r with comp := none })).compSet n mi mq si sq).get l := by
  obtain ⟨hcnt, hevt, hlost⟩ : l.key ≠ (RXPATH.COMP_SWAP_CNT n).key ∧ l.key ≠ (HDR.EVT (rxPage n)).key ∧
      l.key ≠ ERL1.EVT_LOST_CNT.key := by
    simp only [compKeys, List.mem_cons, List.not_mem_nil, or_false] at hl
    generalize l.key = k at hl ⊢
    simp only [Loc.key, RXPATH.COMP_MAP_I, RXPATH.COMP_MAP_Q, RXPATH.SPARES_I, RXPATH.SPARES_Q, RXPATH.COMP_SWAP_CNT, HDR.EVT, rxPage,
      ERL1.EVT_LOST_CNT] at hl ⊢
    omega
  rw [State.compSwapped, raise_other hevt hlost, count_other _ _ hcnt]

theorem compSwapped_same (s : State) (n mi mq si sq : Nat) :
    SameRegs (compKeys n ++ [(RXPATH.COMP_SWAP_CNT n).key] ++ evKeys (rxPage n)) s (s.compSwapped n mi mq si sq) := by
  have h0 : SameRegs (compKeys n ++ [(RXPATH.COMP_SWAP_CNT n).key] ++ evKeys (rxPage n)) s
      (s.setRx n (fun r => { r with comp := none })) := (SameRegs.refl s).of_regs rfl
  exact (((((h0.set (by simp [compKeys])).set (by simp [compKeys])).set (by simp [compKeys])).set (by simp [compKeys])).count
    (by simp)).raise (by simp +contextual)

theorem compSwap_permitted {mi mq si sq : Nat} (hc : (s.rx n).comp = some (mi, mq, si, sq)) (hp : s.compPermitted n = true)
    (hb : s.tb % 2 = 0) (he : s.onEdge = true) : s.compSwap n = s.compSwapped n mi mq si sq := by
  rw [State.compSwap, hc]
  dsimp only
  rw [if_pos (by simp [hp, hb, he])]
  rfl

/-! ### DEC_ALIGN -/

theorem trigAct_decAlign (hn : n < 64) (s : State) (c : Cls) (data at_ : Nat) :
    s.trigAct c (RXPATH.DEC_ALIGN n) data at_ = s.decAlign n := by
  have hp : (RXPATH.DEC_ALIGN n).page = 0x010 + n := rfl
  have hne : ∀ m : Loc, m.page < 0x010 ∨ 0x050 ≤ m.page → RXPATH.DEC_ALIGN n ≠ m := fun m hm e => by
    rw [← e, hp] at hm
    omega
  rw [trigAct_low (by simp [RXPATH.DEC_ALIGN, HDR.EVT]) (by simp [RXPATH.DEC_ALIGN]) (by simp [RXPATH.DEC_ALIGN]) (by omega)]
  unfold State.lowTrigger
  dsimp only
  iterate 10 rw [if_neg (hne _ (by decide))]
  rw [hp, if_pos (by simp only [isRxPage, decide_eq_true_eq]; omega), pathOf, Nat.add_sub_cancel_left, Nat.mod_eq_of_lt hn]

theorem rowTrig_decAlign (hn : n < 64) (h : s.triggered c (RXPATH.DEC_ALIGN n) = true) :
    s.rowTrig c (RXPATH.DEC_ALIGN n) = s.lands c (RXPATH.DEC_ALIGN n) [] [fun u => u.decAlign n] := by
  have hp : (RXPATH.DEC_ALIGN n).page = 0x010 + n := rfl
  have he : RXPATH.DEC_ALIGN n ≠ TIMELINE0.ENQ_CODE := fun e => by
    have hpage : 0x010 + n = TIMELINE0.ENQ_CODE.page := congrArg Loc.page e
    simp only [TIMELINE0.ENQ_CODE] at hpage
    omega
  rw [rowTrig_lands h rfl he (by omega) (by rw [trigAct_decAlign hn]; rfl) (by rw [trigAct_decAlign hn]; rfl)]
  simp only [trigAct_decAlign hn]

theorem alignDone_due {r : Nat} (h : (s.rx n).align = some r)
    (hd : (r : Int) * 256 + 2 * (gRx s.ulRate * 256 + s.geti (CALT.NOW_DLY 1 n)) ≤ s.ao * 256) :
    s.alignDone n = (s.setRx n (fun x => { x with align := none })).raise (rxPage n) EV.RXPATH.ALIGN_DONE := by
  rw [State.alignDone, h]
  exact if_pos hd

/-! ### The statement -/

/-- Settles O9: with its conditions met each event takes the one branch that the rule names, and DEC_ALIGN lands as its trigger. -/
theorem overload : Obligations.Overload := by
  unfold Obligations.Overload
  refine ⟨?_, ?_, ?_, ?_, ?_, ?_, ?_, ?_, ?_, ?_⟩
  · intro s n _ ha he hr h0
    rw [exec_ovlEngage, execOvlEngage, ovlEngage_crossed ha he hr, if_pos h0]
    rfl
  · intro s n _ ha he hr h0
    rw [exec_ovlEngage, execOvlEngage, ovlEngage_crossed ha he hr, if_neg h0]
    rfl
  · intro s n b _ h1 hf hd
    rw [exec_ovlReleaseStep, execOvlReleaseStep, ovlRelease_due (by omega) hf hd, if_neg (by omega)]
    rfl
  · intro s n b _ h1 hf hd
    obtain ⟨hatt, hact, hsame⟩ := ovlReleased_fields h1
    have hlast := (ovlRelease_due (by omega) hf hd).trans (if_pos h1)
    exact ⟨_, congrArg Host.Outcome.next hlast, hatt, hact, rfl, hsame.of_regs rfl⟩
  · intro s n _ hm
    rw [exec_modReset, execModReset, modReset_runs hm]
  · intro s n mi mq si sq _ hc hp hb he
    obtain ⟨hmi, hmq, hsi, hsq⟩ := compSet_get (s.setRx n (fun r => { r with comp := none })) n mi mq si sq
    refine ⟨s.compSwapped n mi mq si sq, ?_, (compSwapped_get ?_).trans hmi, (compSwapped_get ?_).trans hmq,
      (compSwapped_get ?_).trans hsi, (compSwapped_get ?_).trans hsq, raise_sets _ _ (by decide), raise_mem _ _ _,
      compSwapped_same s n mi mq si sq⟩
    · rw [exec_compSwap, execCompSwap, compSwap_permitted hc hp hb he]
    all_goals simp [compKeys]
  · intro s n hn ha
    rw [exec_rxqOverflow, execRxqOverflow, State.rxqOverflow, if_neg (by omega), if_pos ha]
  · intro s
    rfl
  · intro s c n hn h
    rw [exec_decAlign, execDecAlign, rowTrig_decAlign hn h]
    rfl
  · intro s n r _ h hd
    rw [exec_alignDone, execAlignDone, alignDone_due h hd]

end Sys2Proof.Machine
end

section
/-! PROOFS. Words of several fields of a path page that meet no other (R45, R57, R60): 8 ticks on their windows close in the order
of the fields, and the word is answered. -/

namespace Sys2Proof.Machine

variable {s x : State} {c : Cls} {agent pg off data at_ : Nat} {l : Loc} {ls : List Loc} {f : Loc → State → State}

/-! ### The effect of one field -/

/-- From a word `data` of class `c` the field `m` of a path page takes effect as `f m`: no hardware safety condition holds it, and
its effect neither sees nor changes what waits. -/
structure TakesEffect (c : Cls) (data : Nat) (f : Loc → State → State) (m : Loc) : Prop where
  page : 0x010 ≤ m.page ∧ m.page < 0x090
  arbitrated : Loc.arbitrated m = true
  free : ∀ u : State, u.fieldHeld m = none
  effect : ∀ u : State, u.fieldEff c m (bits data m.lo m.wid) = f m u
  waiting : ∀ t w : State, f m (t.waiting w) = (f m t).waiting w

theorem ne_of_pathPage {m : Loc} (hl : 0x010 ≤ l.page ∧ l.page < 0x090) (hm : m.page < 0x010 ∨ 0x090 ≤ m.page) : l ≠ m := fun e => by
  rw [e] at hl
  omega

theorem isPerClass_pathPage (hl : 0x010 ≤ l.page ∧ l.page < 0x090) : isPerClass l = false := by
  have hne : ∀ m : Loc, m.page < 0x010 ∨ 0x090 ≤ m.page → (l == m) = false := fun m hm => beq_eq_false_iff_ne.2 (ne_of_pathPage hl hm)
  unfold isPerClass
  iterate 10 rw [hne _ (by decide)]
  rfl

/-- An effect that does not see what waits keeps it. -/
theorem TakesEffect.keeps {m : Loc} (h : TakesEffect c data f m) (t : State) :
    (f m t).windows = t.windows ∧ (f m t).triggers = t.triggers ∧ (f m t).words = t.words ∧ (f m t).acks = t.acks := by
  have hw : f m t = (f m t).waiting t := h.waiting t t
  exact ⟨(congrArg State.windows hw :), (congrArg State.triggers hw :), (congrArg State.words hw :), (congrArg State.acks hw :)⟩

/-- The state with other open windows. -/
def State.withWindows (s : State) (ws : List Window) : State := { s with windows := ws }

theorem TakesEffect.withWindows {m : Loc} (h : TakesEffect c data f m) (t : State) (ws : List Window) :
    f m (t.withWindows ws) = (f m t).withWindows ws := by
  obtain ⟨-, ht, hw, ha⟩ := h.keeps t
  calc f m (t.withWindows ws) = (f m t).waiting (t.withWindows ws) := h.waiting t (t.withWindows ws)
    _ = (f m t).withWindows ws := by simp only [State.waiting, State.withWindows, ← ht, ← hw, ← ha]

theorem credit_withWindows (s : State) (id : Nat) (sup : Bool) (ws : List Window) :
    (s.withWindows ws).credit id sup = (s.credit id sup).withWindows ws := by
  unfold State.credit
  dsimp only [State.withWindows]
  split
  · rfl
  · split <;> rfl

theorem credit_triggers (s : State) (id : Nat) (sup : Bool) : (s.credit id sup).triggers = s.triggers := by
  unfold State.credit
  split
  · rfl
  · dsimp only
    split <;> rfl

/-! ### The windows of a word -/

/-- The window that a field's part of a word opens. -/
def partWindow (c : Cls) (agent data at_ : Nat) (m : Loc) : Window := ⟨m, at_, [⟨c, agent, bits data m.lo m.wid, at_, 1⟩]⟩

@[simp] theorem partWindow_loc (c : Cls) (agent data at_ : Nat) (m : Loc) : (partWindow c agent data at_ m).loc = m := rfl

@[simp] theorem partWindow_openAt (c : Cls) (agent data at_ : Nat) (m : Loc) : (partWindow c agent data at_ m).openAt = at_ := rfl

@[simp] theorem partWindow_writes (c : Cls) (agent data at_ : Nat) (m : Loc) :
    (partWindow c agent data at_ m).writes = [⟨c, agent, bits data m.lo m.wid, at_, 1⟩] := rfl

/-- Fields of which none has an open window open theirs, in their order. -/
theorem foldl_joinPart (hls : ∀ m ∈ ls, TakesEffect c data f m) (hnd : ls.Nodup) (hw : ∀ w ∈ s.windows, w.loc ∉ ls) :
    ls.foldl (fun u m => u.joinPart c agent 1 data m) s = s.withWindows (s.windows ++ ls.map (partWindow c agent data s.ao)) := by
  induction ls generalizing s with
  | nil => simp [State.withWindows]
  | cons m ls ih =>
    obtain ⟨hm, hls⟩ := List.forall_mem_cons.1 hls
    obtain ⟨hml, hnd⟩ := List.nodup_cons.1 hnd
    have hn : s.windowOf m = none := List.find?_eq_none.2 fun w hw' => by
      simpa using fun e : w.loc = m => hw w hw' (e ▸ List.mem_cons_self ..)
    have hj : s.joinPart c agent 1 data m = s.withWindows (s.windows ++ [partWindow c agent data s.ao m]) := by
      rw [State.joinPart, if_pos hm.arbitrated, if_neg (by simp [isPerClass_pathPage hm.page]), State.joinWindow, hn]
      rfl
    rw [List.foldl_cons, hj, ih hls hnd]
    · simp [State.withWindows]
    · intro w hw'
      rcases List.mem_append.1 hw' with hw' | hw'
      · exact fun hl => hw w hw' (List.mem_cons_of_mem _ hl)
      · obtain rfl := List.mem_singleton.1 hw'
        exact hml

/-- The first of the windows of a word closes: its field takes effect, and the word has one part less to wait for. -/
theorem closeWindow_part {m : Loc} (hm : TakesEffect c data f m) (hml : m ∉ ls)
    (hx : x.windows = (m :: ls).map (partWindow c agent data at_)) :
    x.closeWindow (partWindow c agent data at_ m) =
      f m ((x.withWindows (ls.map (partWindow c agent data at_))).credit 1 false) := by
  have hrest : x.windows.filter (fun w => decide (w.loc ≠ m)) = ls.map (partWindow c agent data at_) := by
    rw [hx, List.map_cons, List.filter_cons_of_neg (by simp), List.filter_eq_self.2]
    intro w hw
    obtain ⟨k, hk, rfl⟩ := List.mem_map.1 hw
    exact decide_eq_true fun e : k = m => hml (e ▸ hk)
  have hcl : x.windowClass (partWindow c agent data at_ m) = c := by
    obtain ⟨p, hp⟩ := winner_one x m ⟨c, agent, bits data m.lo m.wid, at_, 1⟩
    simp [State.windowClass, hp]
  have ht : x.takeWindow (partWindow c agent data at_ m) =
      (some (bits data m.lo m.wid), (x.withWindows (ls.map (partWindow c agent data at_))).credit 1 false) := by
    show x.takeWindow ⟨m, at_, [⟨c, agent, bits data m.lo m.wid, at_, 1⟩]⟩ = _
    simp only [State.takeWindow, hrest, hm.free, resolve_one]
    simp [State.creditAll, latestWrites, State.withWindows]
  have hpg := hm.page
  unfold State.closeWindow
  simp only [hcl, ht, partWindow_loc, ne_of_pathPage hpg (m := BCAST0.STD) (by decide), ne_of_pathPage hpg (m := BCAST0.FREQ) (by decide),
    show m.page ≠ auxPage by unfold auxPage; omega, or_self, false_and, if_false, show ¬0x200 ≤ m.page by omega]
  exact hm.effect _

theorem nextDue_parts {m : Loc} (hx : x.windows = (m :: ls).map (partWindow c agent data at_)) (ht : x.triggers = []) :
    x.nextDue = some (at_ + 8) := by
  have hr : x.windows.map (fun w => w.openAt + 8) = List.replicate (ls.length + 1) (at_ + 8) := by
    rw [hx, List.map_map, List.eq_replicate_iff]
    simp
  rw [State.nextDue, ht, hr, List.map_nil, List.append_nil, List.min?_replicate_of_pos (Nat.succ_pos _)]

/-- The windows of a word close on their tick one after the other. -/
theorem closeDue_parts (hls : ∀ m ∈ ls, TakesEffect c data f m) (hnd : ls.Nodup)
    (hx : x.windows = ls.map (partWindow c agent data at_)) (ht : x.triggers = []) :
    x.closeDue (at_ + 8) ls.length = ls.foldl (fun u m => f m (u.credit 1 false)) (x.withWindows []) := by
  induction ls generalizing x with
  | nil =>
    have hw : x.windows = [] := hx
    show x = { x with windows := [] }
    rw [← hw]
  | cons m ls ih =>
    obtain ⟨hm, hls⟩ := List.forall_mem_cons.1 hls
    obtain ⟨hml, hnd⟩ := List.nodup_cons.1 hnd
    have hf : x.windows.find? (fun w => decide (w.openAt + 8 = at_ + 8)) = some (partWindow c agent data at_ m) := by
      simp [hx]
    obtain ⟨hkw, hkt, -, -⟩ := hm.keeps ((x.withWindows (ls.map (partWindow c agent data at_))).credit 1 false)
    rw [credit_withWindows] at hkw hkt
    rw [List.length_cons, State.closeDue, nextDue_parts hx ht]
    dsimp only
    rw [if_neg (lt_irrefl _), hf]
    dsimp only
    rw [closeWindow_part hm hml hx, credit_withWindows, ih hls hnd hkw (hkt.trans ((credit_triggers x 1 false).trans ht)), List.foldl_cons, credit_withWindows,
      hm.withWindows, hm.withWindows]
    rfl

/-! ### The answer of a word -/

/-- A word is answered with its last part. -/
theorem foldl_credit_acks {a : Nat} (hls : ∀ m ∈ ls, TakesEffect c data f m) (hne : ls ≠ [])
    (hw : s.words = [⟨1, c, a, stOK, false, ls.length⟩]) (ha : s.acks = []) :
    (ls.foldl (fun u m => f m (u.credit 1 false)) s).acks = [(1, ⟨c, [], stOK⟩)] := by
  induction ls generalizing s with
  | nil => exact absurd rfl hne
  | cons m ls ih =>
    obtain ⟨hm, hls⟩ := List.forall_mem_cons.1 hls
    obtain ⟨-, -, hkw, hka⟩ := hm.keeps (s.credit 1 false)
    rw [List.foldl_cons]
    cases ls with
    | nil =>
      rw [List.foldl_nil, hka, credit_one hw, ha]
      rfl
    | cons k ls =>
      have hc : s.credit 1 false = { s with words := [⟨1, c, a, stOK, false, (k :: ls).length⟩] } := by
        simp [State.credit, hw]
      exact ih hls (List.cons_ne_nil _ _) (hkw.trans (by rw [hc])) (hka.trans (by rw [hc, ha]))

/-- A word of fields of a path page that meets no other and of which no part is refused: 8 ticks on its fields take effect in
their order, and it is answered with OK. -/
theorem carry_fields (hls : ∀ m ∈ ls, TakesEffect c data f m) (hnd : ls.Nodup) (ht : ∀ m ∈ ls, s.takes c m data = true)
    (hl : l ∈ ls) : s.carry c agent l.page l.off data ls = s.lands c l (ls.map f) [] := by
  obtain ⟨hq, has, hw, -⟩ := takes_iff.1 (ht l hl)
  obtain ⟨q1, q2, q3, hd⟩ := quiet_parts hq
  have hne : ls ≠ [] := List.ne_nil_of_mem hl
  have he : TIMELINE0.ENQ_CODE ∉ ls := fun h => ne_of_pathPage (hls _ h).page (.inr (by decide)) rfl
  have hpg := (hls l hl).page
  have hv : ({ s with acks := [] } : State).arriveEvents l.page l.off data [] = { s with acks := [] } := by
    simp [State.arriveEvents, show l.page ≠ 0x0A2 by omega, show l.page ≠ 0x0A3 by omega]
  have hr := arrive_parts (agent := agent) (s := { s with acks := [] }) hd has hw (fun m hm => (takes_iff.1 (ht m hm)).2.2.2) he hne hv q2
    q3
  have hj := foldl_joinPart (agent := agent) (s := { s with acks := [] }) hls hnd (by simp [q1])
  rw [hj] at hr
  generalize hu : ({ ({ s with acks := [] } : State).withWindows _ with words := oneWord c l.page l.off ls.length } : State) = u at hr
  have u1 : u.windows = ls.map (partWindow c agent data s.ao) := by
    rw [← hu]
    simp [State.withWindows, q1]
  have u2 : u.triggers = [] := by rw [← hu]; exact q2
  have u3 : u.words = oneWord c l.page l.off ls.length := by rw [← hu]
  have u4 : u.acks = [] := by rw [← hu]; rfl
  have u5 : u.aside = s.aside := by rw [← hu]; rfl
  obtain ⟨k, ks, rfl⟩ := List.exists_cons_of_ne_nil hne
  have hc := carry_parts hr (by
    intro d e
    rw [nextDue_parts u1 u2] at e
    obtain rfl := Option.some.inj e
    omega) u5
  have hdue : s.dueState u =
      (k :: ks).foldl (fun u m => f m (u.credit 1 false)) (s.ripe c l (k :: ks).length) := by
    have hlen : ((s.afterTicks 8).waiting u).windows.length + ((s.afterTicks 8).waiting u).triggers.length = (k :: ks).length := by
      simp [State.waiting, u1, u2]
    rw [State.dueState, State.dueAt, hlen, closeDue_parts (x := (s.afterTicks 8).waiting u) hls hnd u1 u2]
    congr 1
    simp only [State.waiting, State.withWindows, u2, u3, u4]
    rfl
  rw [hc, hdue, answered_one (foldl_credit_acks hls hne rfl rfl)]
  simp only [State.lands, List.foldl_map, List.length_map, List.length_nil, Nat.add_zero, List.foldl_nil]
  rfl

end Sys2Proof.Machine
end

section
/-! PROOFS. Threshold detectors and monitor taps (O10): a crossing, a sample and a publication by the state they lead to, and the
words of a detector by the fields that they write. -/

namespace Sys2Proof.Machine

variable {s : State} {c : Cls} {tx : Bool} {a n d t : Nat} {l : Loc} {x : Sample}

/-- A value put into two registers of 32 bits reads back, cut to 64 bits. -/
theorem get64_set64 (s : State) {lo hi : Loc} (v : Nat) (hne : lo.key ≠ hi.key) (hlo : lo.wid = 32) (hhi : hi.wid = 32) :
    (s.set64 lo hi v).get64 lo hi = v % 2 ^ 64 := by
  rw [State.get64, State.set64, get_set_same, get_set_other _ _ hne, get_set_same, hlo, hhi]
  simp only [join64, trunc]
  omega

/-! ### Crossings (R130) -/

/-- The fields that a crossing sets. -/
def thrKeys (tx : Bool) (n : Nat) : List Nat :=
  [(thrRegs tx n).state.key, (thrRegs tx n).count.key, (thrRegs tx n).tbLo.key, (thrRegs tx n).tbHi.key]

theorem thrKeys_nodup (tx : Bool) (n : Nat) : (thrKeys tx n).Nodup := by
  cases tx <;> simp [thrKeys, thrRegs, Loc.key, RXPATH.THR_STATE, RXPATH.THR_COUNT, RXPATH.THR_TB_LO, RXPATH.THR_TB_HI,
    TXPATH.THR_STATE, TXPATH.THR_COUNT, TXPATH.THR_TB_LO, TXPATH.THR_TB_HI] <;> omega

theorem thrKeys_ne_event {k : Nat} (hk : k ∈ thrKeys tx n) : k ≠ (HDR.EVT (thrRegs tx n).page).key ∧ k ≠ ERL1.EVT_LOST_CNT.key := by
  cases tx <;> simp [thrKeys, thrRegs, Loc.key, RXPATH.THR_STATE, RXPATH.THR_COUNT, RXPATH.THR_TB_LO, RXPATH.THR_TB_HI,
    TXPATH.THR_STATE, TXPATH.THR_COUNT, TXPATH.THR_TB_LO, TXPATH.THR_TB_HI, HDR.EVT, ERL1.EVT_LOST_CNT, rxPage, txPage] at hk ⊢ <;>
    omega

theorem thrRegs_wid (tx : Bool) (n : Nat) :
    (thrRegs tx n).state.wid = 1 ∧ (thrRegs tx n).tbLo.wid = 32 ∧ (thrRegs tx n).tbHi.wid = 32 := by
  cases tx <;> exact ⟨rfl, rfl, rfl⟩

@[simp] theorem setThrDue_regs (s : State) (tx : Bool) (n : Nat) (v : Option Nat) : (s.setThrDue tx n v).regs = s.regs := by
  cases tx <;> rfl

@[simp] theorem setThrDue_mem (s : State) (tx : Bool) (n : Nat) (v : Option Nat) : (s.setThrDue tx n v).mem = s.mem := by
  cases tx <;> rfl

theorem setThrDue_due (v : Option Nat) (hn : n < 64) (htx : s.txs.length = 65) (hrx : s.rxs.length = 65) :
    (s.setThrDue tx n v).thrDue tx n = v := by
  cases tx
  · exact congrArg RxSt.thrDue (getD_upd_same _ _ _ (by omega))
  · exact congrArg TxSt.thrDue (getD_upd_same _ _ _ (by omega))

/-- What is due at a detector stands in the units of the paths. -/
theorem thrDue_of_units {u : State} (hrx : u.rxs = s.rxs) (htx : u.txs = s.txs) : u.thrDue tx n = s.thrDue tx n := by
  simp only [State.thrDue, State.tx, State.rx, hrx, htx]

theorem raise_thrDue (s : State) (pg b : Nat) : (s.raise pg b).thrDue tx n = s.thrDue tx n :=
  thrDue_of_units (congrArg State.rxs (raise_eventless s pg b) :) (congrArg State.txs (raise_eventless s pg b) :)

/-- A crossing with its deciding sample at `k`: the other state, COUNT 0 and the stamp. -/
def State.thrCrossed (s : State) (tx : Bool) (n k : Nat) : State :=
  (((s.setThrDue tx n none).set (thrRegs tx n).state (if s.on (thrRegs tx n).state then 0 else 1)).set (thrRegs tx n).count 0).set64
    (thrRegs tx n).tbLo (thrRegs tx n).tbHi k

theorem thrCross_due {k : Nat} (h : s.thrDue tx n = some k) :
    s.thrCross tx n = (s.thrCrossed tx n k).raise (thrRegs tx n).page
      (if s.on (thrRegs tx n).state then EV.RXPATH.THR_FALL else EV.RXPATH.THR_RISE) := by
  rw [State.thrCross, h]
  cases hs : s.on (thrRegs tx n).state <;> simp [State.thrCrossed, hs]

theorem thrCross_none (h : s.thrDue tx n = none) : s.thrCross tx n = s := by
  rw [State.thrCross, h]

theorem thrCrossed_fields (s : State) (tx : Bool) (n k : Nat) :
    (s.thrCrossed tx n k).on (thrRegs tx n).state = !s.on (thrRegs tx n).state ∧ (s.thrCrossed tx n k).get (thrRegs tx n).count = 0 ∧
      (s.thrCrossed tx n k).get64 (thrRegs tx n).tbLo (thrRegs tx n).tbHi = k % 2 ^ 64 := by
  obtain ⟨hws, hwl, hwh⟩ := thrRegs_wid tx n
  have hne := thrKeys_nodup tx n
  simp only [thrKeys, List.nodup_cons, List.mem_cons, List.not_mem_nil, or_false, not_or] at hne
  obtain ⟨⟨hsc, hsl, hsh⟩, ⟨hcl, hch⟩, hlh, -⟩ := hne
  refine ⟨?_, ?_, get64_set64 _ _ hlh hwl hwh⟩
  · rw [State.on, State.thrCrossed, State.set64, get_set_other _ _ hsh, get_set_other _ _ hsl, get_set_other _ _ hsc, get_set_same, hws]
    cases s.on (thrRegs tx n).state <;> rfl
  · rw [State.thrCrossed, State.set64, get_set_other _ _ hch, get_set_other _ _ hcl, get_set_same]
    exact Nat.zero_mod _

theorem thrCrossed_same (s : State) (tx : Bool) (n k : Nat) : SameRegs (thrKeys tx n) s (s.thrCrossed tx n k) := by
  have h : SameRegs (thrKeys tx n) s (s.setThrDue tx n none) := (SameRegs.refl s).of_regs (setThrDue_regs ..)
  exact ((h.set (by simp [thrKeys])).set (by simp [thrKeys])).set64 (by simp [thrKeys]) (by simp [thrKeys])

theorem thrCrossed_due (k : Nat) (hn : n < 64) (htx : s.txs.length = 65) (hrx : s.rxs.length = 65) :
    (s.thrCrossed tx n k).thrDue tx n = none :=
  (thrDue_of_units rfl rfl).trans (setThrDue_due none hn htx hrx)

/-- A crossing that is due. -/
theorem exec_thresholdCrossing_due {k : Nat} (hn : n < 64) (htx : s.txs.length = 65) (hrx : s.rxs.length = 65)
    (h : s.thrDue tx n = some k) :
    let t := (s.thrCrossed tx n k).raise (thrRegs tx n).page
      (if s.on (thrRegs tx n).state then EV.RXPATH.THR_FALL else EV.RXPATH.THR_RISE)
    exec (.thresholdCrossing tx n) s = .next t ∧ t.on (thrRegs tx n).state = !s.on (thrRegs tx n).state ∧
      t.get (thrRegs tx n).count = 0 ∧ t.get64 (thrRegs tx n).tbLo (thrRegs tx n).tbHi = k % 2 ^ 64 ∧ t.thrDue tx n = none ∧
      bitOf (t.get (HDR.EVT (thrRegs tx n).page)) (if s.on (thrRegs tx n).state then EV.RXPATH.THR_FALL else EV.RXPATH.THR_RISE) =
        true ∧ t.mem = s.mem ∧ SameRegs (thrKeys tx n ++ evKeys (thrRegs tx n).page) s t := by
  intro t
  obtain ⟨hstate, hcount, hstamp⟩ := thrCrossed_fields s tx n k
  have hget : ∀ l : Loc, l.key ∈ thrKeys tx n → t.get l = (s.thrCrossed tx n k).get l := fun l hl =>
    raise_other (thrKeys_ne_event hl).1 (thrKeys_ne_event hl).2
  refine ⟨?_, ?_, ?_, ?_, ?_, ?_, ?_, ?_⟩
  · rw [exec_thresholdCrossing, execThresholdCrossing, thrCross_due h]
  · rw [State.on, hget _ (by simp [thrKeys])]
    exact hstate
  · rw [hget _ (by simp [thrKeys]), hcount]
  · rw [State.get64, hget _ (by simp [thrKeys]), hget _ (by simp [thrKeys])]
    exact hstamp
  · exact (raise_thrDue _ _ _).trans (thrCrossed_due k hn htx hrx)
  · exact raise_sets _ _ (by split <;> decide)
  · exact (raise_mem _ _ _).trans (setThrDue_mem s tx n none)
  · exact ((thrCrossed_same s tx n k).mono fun _ hk => List.mem_append_left _ hk).raise fun _ hk => List.mem_append_right _ hk

/-! ### Samples (R130, R131) -/

/-- A sample that a detector takes. -/
theorem thrSample_taken (hd : s.thrDue tx n = none) (he : s.on (thrRegs tx n).en = true) (hx : x.invalid = false) :
    s.thrSample tx n x =
      if s.thrQualifies tx (thrRegs tx n) x then
        if max 1 (s.get (thrRegs tx n).hold) ≤ s.get (thrRegs tx n).count + 1 then s.setThrDue tx n (some x.stamp)
        else s.set (thrRegs tx n).count (s.get (thrRegs tx n).count + 1)
      else s.set (thrRegs tx n).count 0 := by
  rw [State.thrSample, if_neg (by simp [hd, he, hx])]

/-! ### Words (R131) -/

/-- The written fields of a detector. -/
def thrWritable (tx : Bool) (n : Nat) : List Loc :=
  [(thrRegs tx n).hi, (thrRegs tx n).lo, (thrRegs tx n).en, (thrRegs tx n).ovlHi, (thrRegs tx n).hold]

theorem thrWritable_place (hl : l ∈ thrWritable tx n) :
    l.page = (if tx then 0x050 else 0x010) + n ∧ l.acc = .rw ∧ 0x0C0 ≤ l.off ∧ l.off < 0x0CC := by
  revert l
  cases tx <;> simp [thrWritable, thrRegs, RXPATH.THR_HI, RXPATH.THR_LO, RXPATH.THR_EN, RXPATH.OVL_HI, RXPATH.THR_HOLD,
    TXPATH.THR_HI, TXPATH.THR_LO, TXPATH.THR_EN, TXPATH.OVL_HI, TXPATH.THR_HOLD]

/-- A field of a receive page, not shadowed and outside the header. -/
theorem fieldEff_rxField {v : Nat} (hn : n < 64) (hp : l.page = 0x010 + n) (ha : l.acc = .rw) (ho : 0x02C ≤ l.off)
    (hc : l.off ≠ 0x040 ∧ l.off ≠ 0x044) : s.fieldEff c l v = s.pathFieldWritten false n l v := by
  have hr : isRxPage l.page = true := decide_eq_true (by omega)
  have hn' : pathOf l.page = n := by unfold pathOf; omega
  have hv : s.fieldClip l v = v := by
    simp [State.fieldClip, hr, hc, show l.off ≠ 0x010 by omega, show l.off ≠ 0x018 by omega]
  simp [State.fieldEff, hv, ha, Nat.not_lt.2 ho, State.blockWritten, hr, hn']

theorem fieldEff_thr {v : Nat} (hn : n < 64) (hl : l ∈ thrWritable tx n) : s.fieldEff c l v = s.thrWritten tx n l v := by
  obtain ⟨hp, ha, ho, ho'⟩ := thrWritable_place hl
  have hw : s.pathFieldWritten tx n l v = s.thrWritten tx n l v := if_pos ⟨ho, ho'⟩
  cases tx
  · exact (fieldEff_rxField hn hp ha (by omega) (by omega)).trans hw
  · exact (fieldEff_txField hn hp ha (by omega) (by omega)).trans hw

theorem thrWritten_waiting (t w : State) (tx : Bool) (n : Nat) (l : Loc) (v : Nat) :
    (t.waiting w).thrWritten tx n l v = (t.thrWritten tx n l v).waiting w := by
  unfold State.thrWritten
  cases tx <;> dsimp only <;> split <;> rfl

theorem fieldHeld_thr (hn : n < 64) (hl : l ∈ thrWritable tx n) : s.fieldHeld l = none := by
  obtain ⟨hp, -, ho, -⟩ := thrWritable_place hl
  have hpg : l.page ≠ 0x125 ∧ l.page ≠ 0x0AC := by split at hp <;> omega
  have hm : ¬(isTxPage l.page ∧ l = TXPATH.TX_MUTE (pathOf l.page) ∨ l = CAL0.TX_MUTE) := fun h => by
    rcases h with ⟨-, h⟩ | h
    · have := congrArg Loc.off h
      simp only [TXPATH.TX_MUTE] at this
      omega
    · exact hpg.2 (congrArg Loc.page h)
  rw [State.fieldHeld, if_neg hm, if_neg (by simp [hpg.1])]

theorem takesEffect_thr (data : Nat) (hn : n < 64) (hl : l ∈ thrWritable tx n) :
    TakesEffect c data (fun m u => u.thrWritten tx n m (bits data m.lo m.wid)) l where
  page := by
    obtain ⟨hp, -⟩ := thrWritable_place hl
    split at hp <;> omega
  arbitrated := by
    obtain ⟨-, ha, -⟩ := thrWritable_place hl
    rw [Loc.arbitrated, ha]
  free _ := fieldHeld_thr hn hl
  effect _ := fieldEff_thr hn hl
  waiting t w := thrWritten_waiting t w ..

/-- A word of fields of a detector: each takes effect with COUNT cleared and nothing due. -/
theorem carry_thr {data : Nat} {ls : List Loc} (hn : n < 64) (hls : ∀ m ∈ ls, m ∈ thrWritable tx n) (hnd : ls.Nodup)
    (ht : ∀ m ∈ ls, s.takes c m data = true) (hl : l ∈ ls) :
    s.carry c a l.page l.off data ls =
      s.lands c l (ls.map (fun m u => u.thrWritten tx n m (bits data m.lo m.wid))) [] :=
  carry_fields (fun m hm => takesEffect_thr data hn (hls m hm)) hnd ht hl

theorem set_trunc (s : State) (l : Loc) (v : Nat) : s.set l (trunc l.wid v) = s.set l v := by
  simp only [State.set, trunc, Nat.mod_mod]

/-- A threshold takes effect: THR_HI and THR_LO are whole registers. -/
theorem thrWritten_level (s : State) (d : Nat) (hl : l = (thrRegs tx n).hi ∨ l = (thrRegs tx n).lo) :
    s.thrWritten tx n l (bits (trunc 32 d) l.lo l.wid) = ((s.set l d).set (thrRegs tx n).count 0).setThrDue tx n none := by
  obtain ⟨hlo, hw, hen⟩ : l.lo = 0 ∧ l.wid = 32 ∧ l ≠ (thrRegs tx n).en := by
    rcases hl with rfl | rfl <;> cases tx <;>
      simp [thrRegs, RXPATH.THR_HI, RXPATH.THR_LO, RXPATH.THR_EN, TXPATH.THR_HI, TXPATH.THR_LO, TXPATH.THR_EN]
  have hb : bits (trunc 32 d) l.lo l.wid = trunc l.wid d := by simp [hlo, hw, bits, trunc]
  rw [hb, State.thrWritten, set_trunc]
  exact if_neg fun h => hen h.1

/-- A word of THR_HI or THR_LO. -/
theorem carry_threshold (hn : n < 64) (hl : l = (thrRegs tx n).hi ∨ l = (thrRegs tx n).lo) (ht : s.takes c l (trunc 32 d) = true) :
    s.carry c a l.page l.off (trunc 32 d) [l] =
      s.lands c l [fun u => ((u.set l d).set (thrRegs tx n).count 0).setThrDue tx n none] [] := by
  have hw : l ∈ thrWritable tx n := by rcases hl with rfl | rfl <;> simp [thrWritable]
  rw [carry_thr hn (List.forall_mem_singleton.2 hw) (List.nodup_singleton l) (List.forall_mem_singleton.2 ht) (List.mem_singleton_self l)]
  simp only [List.map_cons, List.map_nil, thrWritten_level _ d hl]

/-- A word of THR_CFG. -/
theorem carry_thrCfg (hn : n < 64) (h1 : s.takes c (thrRegs tx n).en d = true) (h2 : s.takes c (thrRegs tx n).ovlHi d = true)
    (h3 : s.takes c (thrRegs tx n).hold d = true) :
    s.carry c a (thrRegs tx n).en.page (thrRegs tx n).en.off d [(thrRegs tx n).en, (thrRegs tx n).ovlHi, (thrRegs tx n).hold] =
      s.lands c (thrRegs tx n).en
        ([(thrRegs tx n).en, (thrRegs tx n).ovlHi, (thrRegs tx n).hold].map
          (fun m u => u.thrWritten tx n m (bits d m.lo m.wid))) [] := by
  refine carry_thr hn (by simp [thrWritable]) ?_ (by simp [h1, h2, h3]) (by simp)
  cases tx <;> simp [thrRegs, RXPATH.THR_EN, RXPATH.OVL_HI, RXPATH.THR_HOLD, TXPATH.THR_EN, TXPATH.OVL_HI, TXPATH.THR_HOLD]

theorem exec_thrCfgWrite_carry (c : Cls) (a : Nat) (tx : Bool) (n which d : Nat) (s : State) :
    exec (.thrCfgWrite c a tx n which d) s =
      .next (s.carry c a (thrRegs tx n).page (0x0C0 + 4 * which) (trunc 32 d) (thrFields (thrRegs tx n) which)) := rfl

theorem thrRegs_offset (tx : Bool) (n : Nat) :
    ((thrRegs tx n).hi.page = (thrRegs tx n).page ∧ (thrRegs tx n).hi.off = 0x0C0) ∧
      ((thrRegs tx n).lo.page = (thrRegs tx n).page ∧ (thrRegs tx n).lo.off = 0x0C4) ∧
      (thrRegs tx n).en.page = (thrRegs tx n).page ∧ (thrRegs tx n).en.off = 0x0C8 := by
  cases tx <;> exact ⟨⟨rfl, rfl⟩, ⟨rfl, rfl⟩, rfl, rfl⟩

/-! ### Publications (R133, R136) -/

/-- The keys of the fields that a publication with STALE bit `l` changes. -/
def publishKeys (t : Nat) (l : Loc) : List Nat := [l.key, (HDR.STALE (tapPage t)).key] ++ evKeys (tapPage t)

/-- A detector of a tap publishes: its STALE bit `l` clears, and event `b` is raised. -/
def State.publish (s : State) (t : Nat) (l : Loc) (b : Nat) : State := (s.tapFresh t l).raise (tapPage t) b

theorem tapFresh_same (s : State) (t : Nat) (l : Loc) : SameRegs [l.key, (HDR.STALE (tapPage t)).key] s (s.tapFresh t l) := by
  have h : SameRegs [l.key, (HDR.STALE (tapPage t)).key] s (s.set l 0) := (SameRegs.refl s).set (List.mem_cons_self ..)
  unfold State.tapFresh
  dsimp only
  split
  · exact h
  · exact h.set (by simp)

theorem publish_same (s : State) (t : Nat) (l : Loc) (b : Nat) : SameRegs (publishKeys t l) s (s.publish t l b) :=
  ((tapFresh_same s t l).mono fun _ hk => List.mem_append_left _ hk).raise fun _ hk => List.mem_append_right _ hk

/-- A publication after changes of the fields `ks`. -/
theorem SameRegs.publish {u : State} {ks : List Nat} (h : SameRegs ks s u) {b : Nat} :
    SameRegs (ks ++ publishKeys t l) s (u.publish t l b) :=
  (h.mono fun _ hk => List.mem_append_left _ hk).trans ((publish_same u t l b).mono fun _ hk => List.mem_append_right _ hk)

theorem tapFresh_units (s : State) (t : Nat) (l : Loc) : (s.tapFresh t l).mem = s.mem ∧ (s.tapFresh t l).dpd = s.dpd := by
  unfold State.tapFresh
  dsimp only
  split <;> exact ⟨rfl, rfl⟩

theorem publish_units (s : State) (t : Nat) (l : Loc) (b : Nat) :
    (s.publish t l b).mem = s.mem ∧ (s.publish t l b).dpd = s.dpd := by
  obtain ⟨hm, hd⟩ := tapFresh_units s t l
  exact ⟨(raise_mem _ _ _).trans hm, (congrArg State.dpd (raise_eventless _ _ _) :).trans hd⟩

/-- A publication clears its STALE bit. -/
theorem publish_stale (s : State) (b : Nat) (hl : l = MONTAP.PEAK_STALE t ∨ l = MONTAP.MS_STALE t) : (s.publish t l b).get l = 0 := by
  obtain ⟨hstale, hevt, hlost⟩ : l.key ≠ (HDR.STALE (tapPage t)).key ∧ l.key ≠ (HDR.EVT (tapPage t)).key ∧
      l.key ≠ ERL1.EVT_LOST_CNT.key := by
    rcases hl with rfl | rfl <;>
      simp only [Loc.key, MONTAP.PEAK_STALE, MONTAP.MS_STALE, HDR.STALE, HDR.EVT, ERL1.EVT_LOST_CNT, tapPage] <;> omega
  have h0 : (s.set l 0).get l = 0 := (get_set_same s l 0).trans (Nat.zero_mod _)
  rw [State.publish, raise_other hevt hlost, State.tapFresh]
  split
  · exact h0
  · rw [get_set_other _ _ hstale, h0]

theorem publish_event (s : State) (t : Nat) (l : Loc) {b : Nat} (hb : b < 32) :
    bitOf ((s.publish t l b).get (HDR.EVT (tapPage t))) b = true := raise_sets _ _ hb

/-! ### Peak windows -/

/-- A peak is shown with its stamp. -/
def State.peakShown (s : State) (t : Nat) (x : Sample) : State :=
  ((s.set (MONTAP.PEAK t) x.mag).set64 (MONTAP.PEAK_TB_LO t) (MONTAP.PEAK_TB_HI t) x.stamp).set (MONTAP.PEAK_VALID t) 1

/-- A peak window without a valid sample is shown. -/
def State.peakNone (s : State) (t : Nat) : State := (s.set (MONTAP.PEAK t) 0).set (MONTAP.PEAK_VALID t) 0

theorem peakNew_shown (h : s.tapEnds t (s.peakTicks t) = true) (hx : (s.taps.getD t {}).pk = some x) :
    s.peakNew t = (s.peakShown t x).publish t (MONTAP.PEAK_STALE t) EV.MONTAP.PEAK_NEW := by
  rw [State.peakNew, if_pos h, hx]
  rfl

theorem peakNew_none (h : s.tapEnds t (s.peakTicks t) = true) (hx : (s.taps.getD t {}).pk = none) :
    s.peakNew t = (s.peakNone t).publish t (MONTAP.PEAK_STALE t) EV.MONTAP.PEAK_NEW := by
  rw [State.peakNew, if_pos h, hx]
  rfl

/-- The fields of a peak. -/
def peakLocs (t : Nat) : List Loc := [MONTAP.PEAK t, MONTAP.PEAK_VALID t, MONTAP.PEAK_TB_LO t, MONTAP.PEAK_TB_HI t]

theorem peakLocs_notMem_publish (ht : t < 8) (hl : l ∈ peakLocs t) : l.key ∉ publishKeys t (MONTAP.PEAK_STALE t) := by
  simp only [peakLocs, List.mem_cons, List.not_mem_nil, or_false] at hl
  rcases hl with rfl | rfl | rfl | rfl <;>
    simp [publishKeys, evKeys, Loc.key, MONTAP.PEAK, MONTAP.PEAK_VALID, MONTAP.PEAK_TB_LO, MONTAP.PEAK_TB_HI, MONTAP.PEAK_STALE,
      HDR.STALE, HDR.EVT, ERL1.EVT_LOST_CNT, tapPage] <;> omega

/-- A publication leaves the peak as it was shown. -/
theorem publish_peak (s : State) (b : Nat) (ht : t < 8) (hl : l ∈ peakLocs t) :
    (s.publish t (MONTAP.PEAK_STALE t) b).get l = s.get l := publish_same s t _ b l (peakLocs_notMem_publish ht hl)

theorem peakLocs_nodup (t : Nat) : ((peakLocs t).map Loc.key).Nodup := by
  simp [peakLocs, Loc.key, MONTAP.PEAK, MONTAP.PEAK_VALID, MONTAP.PEAK_TB_LO, MONTAP.PEAK_TB_HI]

theorem peakShown_fields (s : State) (t : Nat) (x : Sample) :
    (s.peakShown t x).get (MONTAP.PEAK t) = trunc 32 x.mag ∧ (s.peakShown t x).get (MONTAP.PEAK_VALID t) = 1 ∧
      (s.peakShown t x).get64 (MONTAP.PEAK_TB_LO t) (MONTAP.PEAK_TB_HI t) = x.stamp % 2 ^ 64 := by
  have hne := peakLocs_nodup t
  simp only [peakLocs, List.map_cons, List.map_nil, List.nodup_cons, List.mem_cons, List.not_mem_nil, or_false, not_or] at hne
  obtain ⟨⟨hpv, hpl, hph⟩, ⟨hvl, hvh⟩, hlh, -⟩ := hne
  refine ⟨?_, get_set_same _ (MONTAP.PEAK_VALID t) 1, ?_⟩
  · rw [State.peakShown, State.set64, get_set_other _ _ hpv, get_set_other _ _ hph, get_set_other _ _ hpl, get_set_same]
    rfl
  · rw [State.get64, State.peakShown, get_set_other _ _ (Ne.symm hvl), get_set_other _ _ (Ne.symm hvh)]
    exact get64_set64 _ _ hlh rfl rfl

theorem peakShown_same (s : State) (t : Nat) (x : Sample) : SameRegs ((peakLocs t).map Loc.key) s (s.peakShown t x) :=
  (((SameRegs.refl s).set (by simp [peakLocs])).set64 (by simp [peakLocs]) (by simp [peakLocs])).set (by simp [peakLocs])

theorem peakNone_same (s : State) (t : Nat) : SameRegs [(MONTAP.PEAK t).key, (MONTAP.PEAK_VALID t).key] s (s.peakNone t) :=
  ((SameRegs.refl s).set (by simp)).set (by simp)

theorem peakNone_fields (s : State) (t : Nat) :
    (s.peakNone t).get (MONTAP.PEAK t) = 0 ∧ (s.peakNone t).get (MONTAP.PEAK_VALID t) = 0 := by
  have hpv : (MONTAP.PEAK t).key ≠ (MONTAP.PEAK_VALID t).key := by simp only [Loc.key, MONTAP.PEAK, MONTAP.PEAK_VALID]; omega
  exact ⟨(get_set_other _ _ hpv).trans (get_set_same s (MONTAP.PEAK t) 0), get_set_same _ (MONTAP.PEAK_VALID t) 0⟩

/-! ### Mean-square windows (R133) -/

/-- The mean of a window with valid samples is shown with their number and the stamp of its end. -/
def State.msShown (s : State) (t : Nat) : State :=
  (((s.set (MONTAP.MS t) (divConv (s.taps.getD t {}).sum (s.taps.getD t {}).cnt).toNat).set (MONTAP.MS_VALID t) 1).set64
    (MONTAP.MS_TB_LO t) (MONTAP.MS_TB_HI t) (s.tapTime t)).set (MONTAP.MS_NVALID t) (s.taps.getD t {}).cnt

/-- The fields of a mean square. -/
def msLocs (t : Nat) : List Loc := [MONTAP.MS t, MONTAP.MS_VALID t, MONTAP.MS_TB_LO t, MONTAP.MS_TB_HI t, MONTAP.MS_NVALID t]

theorem msLocs_nodup (t : Nat) : ((msLocs t).map Loc.key).Nodup := by
  simp [msLocs, Loc.key, MONTAP.MS, MONTAP.MS_VALID, MONTAP.MS_TB_LO, MONTAP.MS_TB_HI, MONTAP.MS_NVALID]
  omega

theorem msLocs_notMem_publish (ht : t < 8) (hl : l ∈ msLocs t) : l.key ∉ publishKeys t (MONTAP.MS_STALE t) := by
  simp only [msLocs, List.mem_cons, List.not_mem_nil, or_false] at hl
  rcases hl with rfl | rfl | rfl | rfl | rfl <;>
    simp [publishKeys, evKeys, Loc.key, MONTAP.MS, MONTAP.MS_VALID, MONTAP.MS_TB_LO, MONTAP.MS_TB_HI, MONTAP.MS_NVALID,
      MONTAP.MS_STALE, HDR.STALE, HDR.EVT, ERL1.EVT_LOST_CNT, tapPage] <;> omega

/-- A publication leaves the mean square as it was shown. -/
theorem publish_ms (s : State) (b : Nat) (ht : t < 8) (hl : l ∈ msLocs t) :
    (s.publish t (MONTAP.MS_STALE t) b).get l = s.get l := publish_same s t _ b l (msLocs_notMem_publish ht hl)

theorem msShown_fields (s : State) (t : Nat) :
    (s.msShown t).get (MONTAP.MS t) = trunc 32 (divConv (s.taps.getD t {}).sum (s.taps.getD t {}).cnt).toNat ∧
      (s.msShown t).get (MONTAP.MS_VALID t) = 1 ∧ (s.msShown t).get (MONTAP.MS_NVALID t) = trunc 25 (s.taps.getD t {}).cnt ∧
      (s.msShown t).get64 (MONTAP.MS_TB_LO t) (MONTAP.MS_TB_HI t) = s.tapTime t % 2 ^ 64 := by
  have hne := msLocs_nodup t
  simp only [msLocs, List.map_cons, List.map_nil, List.nodup_cons, List.mem_cons, List.not_mem_nil, or_false, not_or] at hne
  obtain ⟨⟨hmv, hml, hmh, hmn⟩, ⟨hvl, hvh, hvn⟩, ⟨hlh, hln⟩, hhn, -⟩ := hne
  refine ⟨?_, ?_, get_set_same _ (MONTAP.MS_NVALID t) _, ?_⟩
  · rw [State.msShown, State.set64, get_set_other _ _ hmn, get_set_other _ _ hmh, get_set_other _ _ hml, get_set_other _ _ hmv,
      get_set_same]
    rfl
  · rw [State.msShown, State.set64, get_set_other _ _ hvn, get_set_other _ _ hvh, get_set_other _ _ hvl, get_set_same]
    rfl
  · rw [State.get64, State.msShown, get_set_other _ _ hln, get_set_other _ _ hhn]
    exact get64_set64 _ _ hlh rfl rfl

theorem msShown_same (s : State) (t : Nat) : SameRegs ((msLocs t).map Loc.key) s (s.msShown t) :=
  ((((SameRegs.refl s).set (by simp [msLocs])).set (by simp [msLocs])).set64 (by simp [msLocs]) (by simp [msLocs])).set
    (by simp [msLocs])

/-- The registers of a mean square are none of those that say which instant of its source a tap has reached. -/
theorem tapTime_msStored (s : State) (t v w : Nat) : ((s.set (MONTAP.MS t) v).set (MONTAP.MS_VALID t) w).tapTime t = s.tapTime t := by
  have hget : ∀ l ∈ [MONTAP.BAND_BW t, MONTAP.SRC_KIND t, BEAM.RATE 1],
      ((s.set (MONTAP.MS t) v).set (MONTAP.MS_VALID t) w).get l = s.get l := fun l hl => by
    obtain ⟨hms, hvalid⟩ : l.key ≠ (MONTAP.MS t).key ∧ l.key ≠ (MONTAP.MS_VALID t).key := by
      simp only [List.mem_cons, List.not_mem_nil, or_false] at hl
      rcases hl with rfl | rfl | rfl <;>
        simp only [Loc.key, MONTAP.BAND_BW, MONTAP.SRC_KIND, BEAM.RATE, MONTAP.MS, MONTAP.MS_VALID] <;> omega
    rw [get_set_other _ _ hvalid, get_set_other _ _ hms]
  unfold State.tapTime State.tapLag State.banded State.tapL State.ulRate
  rw [hget (MONTAP.BAND_BW t) (by simp), hget (MONTAP.SRC_KIND t) (by simp), hget (BEAM.RATE 1) (by simp)]
  rfl

/-- No mean-square window touches the phase of an update. -/
theorem publish_msShown_phase (s : State) (t b p : Nat) :
    ((s.msShown t).publish t (MONTAP.MS_STALE t) b).get (DPD1.PHASE p) = s.get (DPD1.PHASE p) := by
  have hpub : (DPD1.PHASE p).key ∉ publishKeys t (MONTAP.MS_STALE t) := by
    simp only [publishKeys, evKeys, List.cons_append, List.nil_append, List.mem_cons, List.not_mem_nil, or_false, Loc.key, DPD1.PHASE,
      MONTAP.MS_STALE, HDR.STALE, HDR.EVT, ERL1.EVT_LOST_CNT, tapPage]
    omega
  have hms : (DPD1.PHASE p).key ∉ (msLocs t).map Loc.key := by
    simp only [msLocs, List.map_cons, List.map_nil, List.mem_cons, List.not_mem_nil, or_false, Loc.key, DPD1.PHASE, MONTAP.MS,
      MONTAP.MS_VALID, MONTAP.MS_TB_LO, MONTAP.MS_TB_HI, MONTAP.MS_NVALID]
    omega
  rw [publish_same _ t _ b _ hpub, msShown_same s t _ hms]

/-- Without an update under guard no guard counts a window (R204). -/
theorem guardWindows_idle (h : ∀ p ∈ allPaths, s.get (DPD1.PHASE p) = 0) : s.guardWindows = s :=
  List.foldlRecOn (motive := fun u => u = s) allPaths _ rfl fun u hu p hp => by
    rw [hu, State.guardWindow]
    simp [h p hp]

theorem msNew_shown (h : s.tapEnds t (s.msTicks t) = true) (hc : (s.taps.getD t {}).cnt ≠ 0)
    (hp : ∀ p ∈ allPaths, s.get (DPD1.PHASE p) = 0) :
    s.msNew t = (s.msShown t).publish t (MONTAP.MS_STALE t) EV.MONTAP.MS_NEW := by
  have hms : s.msNew t = ((s.msShown t).publish t (MONTAP.MS_STALE t) EV.MONTAP.MS_NEW).guardWindows := by
    rw [State.msNew, if_pos h]
    simp only [if_neg hc, tapTime_msStored]
    rfl
  rw [hms, guardWindows_idle fun p hm => (publish_msShown_phase s t _ p).trans (hp p hm)]

/-! ### Envelope words (R134) -/

/-- The envelope word of the interval of a tap that ends. -/
def State.envelopeValue (s : State) (t : Nat) : Nat :=
  envWord (s.taps.getD t {}).env (s.taps.getD t {}).envOvl (Config.freeValue s.fv)

/-- The state with the rounding bit of its next free value used up. -/
def State.freeTaken (s : State) : State := { s with fv := s.fv + 1 }

/-- An interval that ends sends its word to ENV_DEST. -/
theorem envelope_ends (h : s.tapEnds t 128 = true) :
    s.envelope t =
      if s.get (MONTAP.ENV_DEST t) = 2 then
        if (s.freeTaken.streamPush (s.get (MONTAP.ENV_IDX t)) (s.envelopeValue t)).1 then
          (s.freeTaken.streamPush (s.get (MONTAP.ENV_IDX t)) (s.envelopeValue t)).2
        else ((s.freeTaken.streamPush (s.get (MONTAP.ENV_IDX t)) (s.envelopeValue t)).2.count (MONTAP.ENV_DROP_CNT t)).raise
          (tapPage t) EV.MONTAP.ENV_DROP
      else if s.get (MONTAP.ENV_DEST t) = 1 then s.freeTaken.capFeed t (s.get (MONTAP.ENV_IDX t)) (s.envelopeValue t)
      else s.freeTaken := by
  rw [State.envelope, if_pos h]
  rfl

/-- A core that can accept a word takes it at the end of its queue. -/
theorem streamPush_accepts {k w : Nat} (ha : s.act (0x100 + k) = true) (hk : k < s.cores.length)
    (hl : (s.core k).stream.length < 64) :
    (s.streamPush k w).1 = true ∧ ((s.streamPush k w).2.core k).stream = (s.core k).stream ++ [w] ∧
      (s.streamPush k w).2.mem = s.mem ∧ (s.streamPush k w).2.regs = s.regs := by
  rw [State.streamPush, if_pos (by rw [ha, Bool.true_and]; exact decide_eq_true hl)]
  exact ⟨rfl, congrArg CoreSt.stream (getD_upd_same _ _ _ hk), rfl, rfl⟩

/-! ### The statement -/

/-- Settles O10: a crossing, a sample and the end of a window take the one branch that the rule names, and a word of a detector
carries its fields one after the other. -/
theorem detectors : Obligations.Detectors := by
  unfold Obligations.Detectors
  refine ⟨fun s tx n k hn htx hrx hd => ?_, fun s tx n hd => ?_, fun s tx n x hn htx hrx hd he hx hq hc => ?_,
    fun s tx n x hd he hx hq => ?_, fun s c a tx n d hn h => ?_, fun s c a tx n d hn h => ?_, fun s c a tx n d hn h1 h2 h3 => ?_,
    fun s t x ht he hx => ?_, fun s t ht he hx => ?_, fun s t ht he hc hp => ?_, fun s t ht he hd => ?_, fun s t ht he hd => ?_,
    fun s t ht he hd ha hi hcores hl => ?_⟩
  · exact ⟨_, exec_thresholdCrossing_due hn htx hrx hd⟩
  · rw [exec_thresholdCrossing, execThresholdCrossing, thrCross_none hd]
  · rw [thrSample_taken hd he hx, if_pos hq, if_pos hc, setThrDue_due _ hn htx hrx]
  · rw [thrSample_taken hd he hx, if_neg (by simp [hq])]
  · obtain ⟨⟨hp, ho⟩, -, -⟩ := thrRegs_offset tx n
    rw [exec_thrCfgWrite_carry, ← carry_threshold hn (.inl rfl) h, hp, ho]
    rfl
  · obtain ⟨-, ⟨hp, ho⟩, -⟩ := thrRegs_offset tx n
    rw [exec_thrCfgWrite_carry, ← carry_threshold hn (.inr rfl) h, hp, ho]
    rfl
  · obtain ⟨-, -, hp, ho⟩ := thrRegs_offset tx n
    rw [exec_thrCfgWrite_carry, ← carry_thrCfg hn h1 h2 h3, hp, ho]
    rfl
  · obtain ⟨hpeak, hvalid, hstamp⟩ := peakShown_fields s t x
    refine ⟨_, congrArg Host.Outcome.next (peakNew_shown he hx), (publish_peak _ _ ht (by simp [peakLocs])).trans hpeak,
      (publish_peak _ _ ht (by simp [peakLocs])).trans hvalid, ?_, publish_stale _ _ (.inl rfl), publish_event _ _ _ (by decide),
      (publish_units ..).1, (peakShown_same s t x).publish⟩
    rw [State.get64, publish_peak _ _ ht (by simp [peakLocs]), publish_peak _ _ ht (by simp [peakLocs])]
    exact hstamp
  · obtain ⟨hpeak, hvalid⟩ := peakNone_fields s t
    refine ⟨_, congrArg Host.Outcome.next (peakNew_none he hx), (publish_peak _ _ ht (by simp [peakLocs])).trans hpeak,
      (publish_peak _ _ ht (by simp [peakLocs])).trans hvalid, publish_event _ _ _ (by decide), (publish_units ..).1,
      (peakNone_same s t).publish⟩
  · obtain ⟨hms, hvalid, hnum, hstamp⟩ := msShown_fields s t
    have hp : ∀ p ∈ allPaths, s.get (DPD1.PHASE p) = 0 := fun p hm => beq_iff_eq.1 (List.all_eq_true.1 hp p hm)
    refine ⟨_, congrArg Host.Outcome.next (msNew_shown he hc hp), (publish_ms _ _ ht (by simp [msLocs])).trans hms,
      (publish_ms _ _ ht (by simp [msLocs])).trans hvalid, (publish_ms _ _ ht (by simp [msLocs])).trans hnum, ?_,
      publish_stale _ _ (.inr rfl), publish_event _ _ _ (by decide), (publish_units ..).1, (publish_units ..).2⟩
    rw [State.get64, publish_ms _ _ ht (by simp [msLocs]), publish_ms _ _ ht (by simp [msLocs])]
    exact hstamp
  · rw [exec_envelopeWord, execEnvelopeWord, envelope_ends he, if_neg (by omega), if_neg (by omega)]
    rfl
  · rw [exec_envelopeWord, execEnvelopeWord, envelope_ends he, if_neg (by omega), if_pos hd]
    rfl
  · obtain ⟨hok, hstream, hmem, hregs⟩ :=
      streamPush_accepts (s := s.freeTaken) (w := s.envelopeValue t) ha (by rw [show s.freeTaken.cores = s.cores from rfl]; omega) hl
    refine ⟨_, ?_, hstream, hmem, (SameRegs.refl s).of_regs hregs⟩
    rw [exec_envelopeWord, execEnvelopeWord, envelope_ends he, if_pos hd, if_pos hok]

end Sys2Proof.Machine
end

section
/-! PROOFS. Gate biases (O12). The statement fails at a state that no run reaches: CODE is a field of 12 bits, but a `State` can
hold any number under it, and OUT_CODE, which slews towards CODE, is cut to its width when it steps past 4,095. -/

namespace Sys2Proof.Machine

variable {s : State} {k : Nat}

/-! ### One interval of a slew upwards (R168) -/

/-- What follows the code in force leaves the code. -/
theorem biasNote_outCode (s : State) (k : Nat) (moving : Bool) :
    (s.biasNote k moving).get (AUXDAC.OUT_CODE k) = s.get (AUXDAC.OUT_CODE k) := by
  have hne : (AUXDAC.OUT_CODE k).key ≠ (AUXDAC.SLEWING k).key ∧ (AUXDAC.OUT_CODE k).key ≠ (AUXDAC.AT_SAFE k).key := by
    simp only [Loc.key, AUXDAC.OUT_CODE, AUXDAC.SLEWING, AUXDAC.AT_SAFE]
    omega
  rw [State.biasNote, get_set_other _ _ hne.1, get_set_other _ _ hne.2]

/-- An interval that ends below its target adds SLEW_RATE to OUT_CODE, which keeps 12 bits. -/
theorem biasSlew_rises (hh : s.biasHeld k = false) (hs : s.on (AUXDAC.SLEWING k) = true) (hr : (s.bias.getD k {}).rangeAt = none)
    (hl : (s.bias.getD k {}).lastUs + 100 ≤ s.uptimeUs) (hrate : s.get (AUXDAC.SLEW_RATE k) ≠ 0)
    (hlt : s.get (AUXDAC.OUT_CODE k) + s.get (AUXDAC.SLEW_RATE k) < s.get (AUXDAC.CODE k)) :
    (s.biasSlew k).get (AUXDAC.OUT_CODE k) = trunc 12 (s.get (AUXDAC.OUT_CODE k) + s.get (AUXDAC.SLEW_RATE k)) := by
  have hnext : min (s.get (AUXDAC.CODE k)) (s.get (AUXDAC.OUT_CODE k) + s.get (AUXDAC.SLEW_RATE k)) =
      s.get (AUXDAC.OUT_CODE k) + s.get (AUXDAC.SLEW_RATE k) := min_eq_right hlt.le
  have hle : s.get (AUXDAC.OUT_CODE k) ≤ s.get (AUXDAC.CODE k) := by omega
  unfold State.biasSlew
  rw [if_pos ⟨hh, hs, hr, hl⟩]
  simp only [if_neg hrate, if_pos hle, hnext, if_neg hlt.ne]
  rw [biasNote_outCode]
  exact get_set_same _ _ _

/-! ### The counterexample -/

/-- Output 0 slews upwards from 4,090 at the rate 16 of the reset, towards a CODE that reads 5,000. -/
def slewWide : State :=
  { State.reset with
    regs := [((AUXDAC.SLEWING 0).key, 1), ((AUXDAC.OUT_CODE 0).key, 4090), ((AUXDAC.CODE 0).key, 5000)] ++ State.reset.regs
    ao := 10 ^ 6 }

theorem slewWide_fields :
    slewWide.get (AUXDAC.OUT_CODE 0) = 4090 ∧ slewWide.get (AUXDAC.SLEW_RATE 0) = 16 ∧ slewWide.get (AUXDAC.CODE 0) = 5000 := by
  decide +kernel

/-- Output 0 is not held, and an interval of its slew is over. -/
theorem slewWide_slews :
    slewWide.biasHeld 0 = false ∧ slewWide.on (AUXDAC.SLEWING 0) = true ∧ (slewWide.bias.getD 0 {}).rangeAt = none ∧
      (slewWide.bias.getD 0 {}).lastUs + 100 ≤ slewWide.uptimeUs := by decide +kernel

/-- Refutes O12: in `slewWide` one interval of the slew leaves OUT_CODE = 4,106 mod 4,096 = 10, not 4,090 + 16. -/
theorem not_gateBias : ¬ Obligations.GateBias := by
  unfold Obligations.GateBias
  intro ⟨_, _, rises, _⟩
  obtain ⟨hout, hrate, hcode⟩ := slewWide_fields
  obtain ⟨hh, hs, hr, hl⟩ := slewWide_slews
  have hlt : slewWide.get (AUXDAC.OUT_CODE 0) + slewWide.get (AUXDAC.SLEW_RATE 0) < slewWide.get (AUXDAC.CODE 0) := by
    rw [hout, hrate, hcode]
    decide
  have hne : slewWide.get (AUXDAC.SLEW_RATE 0) ≠ 0 := by
    rw [hrate]
    decide
  obtain ⟨t, ht, hstep, -⟩ := rises slewWide 0 (by decide) hh hs hr hl hlt hne
  obtain rfl : slewWide.biasSlew 0 = t := by simpa [execVbiasSlewStep] using ht
  rw [biasSlew_rises hh hs hr hl hne hlt, hout, hrate] at hstep
  exact absurd hstep (by decide)

end Sys2Proof.Machine
end

section
/-! PROOFS. Beamforming (O13). The statement fails at a state that no run reaches: SET_ACT is a field of 8 bits, but a `State` can
hold any number under it, and DMG_SET, which takes it when a weight is damaged, is cut to its width. -/

namespace Sys2Proof.Machine

variable {s t : State} {ks : List Nat} {d l k blk : Nat}

/-! ### A damaged weight (R187) -/

/-- The numbers of the fields that a damaged weight changes once DMG_SET names its set. -/
def damageKeys (d : Nat) : List Nat :=
  [(BEAM.DMG_BANK d).key, (BEAM.DMG_LAYER d).key, (BEAM.DMG_PATH d).key, (BEAM.DMG_TB_LO d).key, (BEAM.DMG_TB_HI d).key,
    (BEAM.RENORM_BUSY d).key] ++ evKeys (beamPage d)

theorem dmgSet_not_mem_damageKeys (d : Nat) : (BEAM.DMG_SET d).key ∉ damageKeys d := by
  simp only [damageKeys, evKeys, beamPage, List.mem_append, List.mem_cons, List.not_mem_nil, or_false, Loc.key, BEAM.DMG_SET,
    BEAM.DMG_BANK, BEAM.DMG_LAYER, BEAM.DMG_PATH, BEAM.DMG_TB_LO, BEAM.DMG_TB_HI, BEAM.RENORM_BUSY, HDR.EVT, ERL1.EVT_LOST_CNT]
  omega

/-- A change of forcing changes RENORM_BUSY alone (R186). -/
theorem SameRegs.forcingChanged (h : SameRegs ks s t) (hk : (BEAM.RENORM_BUSY d).key ∈ ks) : SameRegs ks s (t.forcingChanged d) :=
  SameRegs.set (h.of_regs rfl) hk

/-- A weight found damaged in the block in force leaves the set in force in DMG_SET, which keeps 8 bits of it. -/
theorem weightDamaged_dmgSet (hb : s.block d (s.get (BEAM.SET_ACT d)) (s.bankInForce d) = some blk)
    (hw : s.wts.damaged.look (weightWord blk l k) = 0) (hl : l < s.get (BEAM.NLAYERS d)) :
    (s.weightDamaged d l k).get (BEAM.DMG_SET d) = trunc 8 (s.get (BEAM.SET_ACT d)) := by
  unfold State.weightDamaged
  extract_lets set b
  split
  next h => exact absurd (hb.symm.trans h) nofun
  next blk' h =>
    obtain rfl : blk = blk' := Option.some.inj (hb.symm.trans h)
    extract_lets w t1 t2 first t3 t4 t5 t6 t7
    rw [if_neg (not_or.2 ⟨not_not.2 hw, hl.not_ge⟩)]
    have hev : ∀ n ∈ evKeys (beamPage d), n ∈ damageKeys d := fun _ hn => List.mem_append_right _ hn
    have h4 : SameRegs (damageKeys d) (t3.set (BEAM.DMG_SET d) set) t4 :=
      ((SameRegs.refl _).set (by simp [damageKeys])).set (by simp [damageKeys])
    have h5 : SameRegs (damageKeys d) (t3.set (BEAM.DMG_SET d) set) t5 :=
      (h4.set (by simp [damageKeys])).set64 (by simp [damageKeys]) (by simp [damageKeys])
    have h6 : SameRegs (damageKeys d) (t3.set (BEAM.DMG_SET d) set) t6 := by
      show SameRegs _ _ (if first = true then _ else _)
      split
      · exact h5.raise hev
      · exact h5
    have h7 : SameRegs (damageKeys d) (t3.set (BEAM.DMG_SET d) set) (t7.forcingChanged d) :=
      (h6.queueEvt (hev _ (by simp [evKeys]))).forcingChanged (by simp [damageKeys])
    exact (h7 _ (dmgSet_not_mem_damageKeys d)).trans (get_set_same ..)

/-! ### The counterexample -/

/-- Set 261 is in force for the downlink, with block 0 in its bank 0, and one layer is in use. -/
def setWide : State :=
  { State.reset with
    regs := [((BEAM.SET_ACT 0).key, 261), ((BEAMSET.BLK0_VALID 0 261).key, 1), ((BEAM.NLAYERS 0).key, 1)] }

theorem setWide_setAct : setWide.get (BEAM.SET_ACT 0) = 261 := by decide

/-- The weights of paths 0 and 1 of layer 0 are in use and not damaged. -/
theorem setWide_weight :
    0 < setWide.get (BEAM.NLAYERS 0) ∧ setWide.block 0 (setWide.get (BEAM.SET_ACT 0)) (setWide.bankInForce 0) = some 0 ∧
      setWide.wts.damaged.look (weightWord 0 0 0) = 0 := by decide

/-- Refutes O13: in `setWide` a damaged weight leaves DMG_SET = 261 mod 256 = 5, not the 261 that SET_ACT reads. -/
theorem not_beams : ¬ Obligations.Beams := by
  unfold Obligations.Beams
  intro ⟨_, _, _, _, _, _, _, _, damaged, _⟩
  obtain ⟨hl, hb, hw⟩ := setWide_weight
  obtain ⟨t, ht, -, hset, -⟩ := damaged setWide 0 0 0 0 (by decide) hl (by decide) hb hw
  obtain rfl : setWide.weightDamaged 0 0 0 = t := by simpa [execWeightDamaged] using ht
  rw [weightDamaged_dmgSet hb hw hl, setWide_setAct] at hset
  exact absurd hset (by decide)

end Sys2Proof.Machine
end

section
/-! PROOFS. The adaptation lap (O14). The statement fails at a state that no run reaches: ACT_BANK is a field of 1 bit, but a
`State` can hold any number under it, and a capture that is whole copies it into BANK of the job, which is cut to 1 bit. -/

namespace Sys2Proof.Machine

variable {s : State} {c t : Nat} {j : DpdJob}

/-! ### A capture that is whole (R201) -/

/-- The job registers hold the bank in force, in 1 bit. -/
theorem jobWrite_bank (s : State) (c p t : Nat) :
    (s.jobWrite c p t).get (DPD2.BANK c) = trunc 1 (s.get (DPD1.ACT_BANK p)) := by
  have hne : ∀ l ∈ [DPD2.PATH c, DPD2.REF_ADDR c, DPD2.OBS_ADDR c, DPD2.REF_TB_LO c, DPD2.REF_TB_HI c, DPD2.LAG_NOM c, HDR.EVT 0x0A6,
      ERL1.EVT_LOST_CNT], (DPD2.BANK c).key ≠ l.key := by
    simp only [List.forall_mem_cons, Loc.key, DPD2.BANK, DPD2.PATH, DPD2.REF_ADDR, DPD2.OBS_ADDR, DPD2.REF_TB_LO, DPD2.REF_TB_HI,
      DPD2.LAG_NOM, HDR.EVT, ERL1.EVT_LOST_CNT, List.not_mem_nil, false_imp_iff, implies_true, and_true]
    omega
  simp only [List.forall_mem_cons, List.not_mem_nil, false_imp_iff, implies_true, and_true] at hne
  obtain ⟨hpath, href, hobs, hlo, hhi, hlag, hevt, hlost⟩ := hne
  unfold State.jobWrite
  extract_lets s1 s2 s3
  show (s3.raise 0x0A6 c).get (DPD2.BANK c) = _
  rw [raise_other hevt hlost, get_set_other _ _ hlag, State.set64, get_set_other _ _ hhi, get_set_other _ _ hlo,
    get_set_other _ _ hobs, get_set_other _ _ href, get_set_other _ _ hpath]
  exact get_set_same ..

/-- A capture that is whole at its end hands the job registers over. -/
theorem dpdCaptured_whole (hj : s.dpdJob c = some j) (hcap : j.cap = some t) (hd : j.done = false)
    (ht : t + s.lagNom j.path + s.dpdN + 64 ≤ s.tb) (hr : s.segWhole (s.get DPD0.CAP_PORT_REF) (t + s.dpdN) s.dpdN = true)
    (ho : s.segWhole (s.get DPD0.CAP_PORT_OBS) (t + s.lagNom j.path + s.dpdN + 64) (s.dpdN + 128) = true) :
    ∃ u : State, s.dpdCaptured c = u.jobWrite c j.path t := by
  unfold State.dpdCaptured
  rw [hj]
  dsimp only
  rw [hcap]
  dsimp only
  rw [if_neg (by simp only [hd, Bool.false_eq_true, false_or]; omega), hr, ho]
  exact ⟨_, rfl⟩

/-! ### The counterexample -/

/-- Core 0 has captured path 0 from tick 0 on, whole in ports 6 and 7, and ACT_BANK of the path reads 2. -/
def bankWide : State :=
  let seg (n : Nat) : CapSt :=
    { seg := some { no := 0, hdr := 0, pos := 0, trig := 0, frac := 0, cause := 8, forced := false, first := 0, lo := 0, stop := 0,
                    preAct := 0, nsamp := n } }
  { State.reset with
    regs := [((DPD1.ACT_BANK 0).key, 2)]
    tb := 10000
    dpd := { jobs := some { path := 0, at_ := 0, cap := some 0 } :: List.replicate 7 none, paths := [] }
    caps := List.replicate 6 {} ++ [seg 4096, seg 4224] }

theorem bankWide_job :
    bankWide.dpdJob 0 = some { path := 0, at_ := 0, cap := some 0 } ∧ bankWide.dpd.jobs.length = 8 ∧
      bankWide.get (DPD1.ACT_BANK 0) = 2 := by decide

/-- Both captures are over, and whole. -/
theorem bankWide_whole :
    0 + bankWide.lagNom 0 + bankWide.dpdN + 64 ≤ bankWide.tb ∧
      bankWide.segWhole (bankWide.get DPD0.CAP_PORT_REF) (0 + bankWide.dpdN) bankWide.dpdN = true ∧
      bankWide.segWhole (bankWide.get DPD0.CAP_PORT_OBS) (0 + bankWide.lagNom 0 + bankWide.dpdN + 64) (bankWide.dpdN + 128) = true := by
  decide +kernel

/-- Refutes O14: in `bankWide` the capture leaves a BANK of 1 bit, not the 2 that ACT_BANK reads. -/
theorem not_dpdLap : ¬ Obligations.DpdLap := by
  unfold Obligations.DpdLap
  intro ⟨_, _, _, _, _, captured, _⟩
  obtain ⟨hj, hlen, hbank⟩ := bankWide_job
  obtain ⟨htb, href, hobs⟩ := bankWide_whole
  obtain ⟨t, ht, -, -, -, hget, -⟩ := captured bankWide 0 _ 0 (by decide) hj rfl rfl htb href hobs hlen (by decide)
  obtain ⟨u, hu⟩ := dpdCaptured_whole hj rfl rfl htb href hobs
  obtain rfl : bankWide.dpdCaptured 0 = t := by simpa [execDpdCaptureDone] using ht
  have hlt : trunc 1 (u.get (DPD1.ACT_BANK 0)) < 2 := trunc_lt 1 _
  rw [hu, jobWrite_bank, hbank] at hget
  exact absurd hget hlt.ne

end Sys2Proof.Machine
end

section
/-! PROOFS. The end of a predistorter's update (O15): a frame for the fields of DPD1 and DPD3 and for the code words of the model
memory. The end of an update changes the path's result, phase and staleness; whatever else it does, to its captures, the lap and
the log, lies outside the frame. -/

namespace Sys2Proof.Machine

/-! ### The frame -/

/-- The number is that of a field of DPD1 or DPD3. -/
def isDpdKey (k : Nat) : Bool := keyPage k == 0x0A5 || keyPage k == 0x0A7

theorem isDpdKey_iff {k : Nat} : isDpdKey k = true ↔ keyPage k = 0x0A5 ∨ keyPage k = 0x0A7 := by
  simp [isDpdKey]

theorem isDpdKey_key {l : Loc} (hp : l.page = 0x0A5 ∨ l.page = 0x0A7) (ho : l.off < 4096) (hl : l.lo < 32) :
    isDpdKey l.key = true := by
  rwa [isDpdKey_iff, keyPage_key ho hl]

/-- From `s` to `t` the fields of DPD1 and DPD3 keep their values, but for those whose number is among `ks`, and so do the code
words of the model memory. -/
structure State.DpdKept (ks : List Nat) (s t : State) : Prop where
  fields : ∀ l : Loc, isDpdKey l.key = true → l.key ∉ ks → t.get l = s.get l
  ecc : ∀ i, t.eccOf 5 i = s.eccOf 5 i

namespace State.DpdKept

variable {ks js : List Nat} {s t u : State} {l : Loc} {v k p r pg b : Nat}

theorem refl (s : State) : s.DpdKept ks s := ⟨fun _ _ _ => rfl, fun _ => rfl⟩

theorem trans (h : s.DpdKept ks t) (h' : t.DpdKept ks u) : s.DpdKept ks u :=
  ⟨fun l hl hk => (h'.fields l hl hk).trans (h.fields l hl hk), fun i => (h'.ecc i).trans (h.ecc i)⟩

theorem mono (h : s.DpdKept ks t) (hs : ∀ k ∈ ks, k ∈ js) : s.DpdKept js t :=
  ⟨fun l hl hk => h.fields l hl fun hk' => hk (hs _ hk'), h.ecc⟩

/-- Units outside the frame change. -/
theorem other (h : s.DpdKept ks t) (hr : u.regs = t.regs) (he : u.ecc = t.ecc) (hb : u.eccBase = t.eccBase) : s.DpdKept ks u :=
  h.trans ⟨fun l _ _ => by simp only [State.get, hr], fun i => by simp only [State.eccOf, he, hb]⟩

/-- A change of registers outside the frame. -/
theorem regs (h : s.DpdKept ks t) (hr : SameRegs js t u) (hj : ∀ k ∈ js, isDpdKey k = false) (he : u.ecc = t.ecc)
    (hb : u.eccBase = t.eccBase) : s.DpdKept ks u :=
  h.trans ⟨fun l hl _ => hr l fun hk => by rw [hj _ hk] at hl; exact Bool.false_ne_true hl,
    fun i => by simp only [State.eccOf, he, hb]⟩

/-- A change made under a condition, as `if c then u else t`. -/
theorem upon {c : Prop} {_ : Decidable c} (h : s.DpdKept ks t) (f : s.DpdKept ks t → s.DpdKept ks u) :
    s.DpdKept ks (if c then u else t) := by
  split
  · exact f h
  · exact h

theorem ite {c : Prop} {_ : Decidable c} (h : s.DpdKept ks t) (h' : s.DpdKept ks u) : s.DpdKept ks (if c then t else u) := by
  split
  · exact h
  · exact h'

theorem foldl {α : Type} {as : List α} {f : State → α → State} (h : s.DpdKept ks t)
    (hf : ∀ {u a}, a ∈ as → s.DpdKept ks u → s.DpdKept ks (f u a)) : s.DpdKept ks (as.foldl f t) :=
  List.foldlRecOn (motive := fun u => s.DpdKept ks u) as f h fun _ hu _ ha => hf ha hu

/-- A field outside the frame is set. -/
theorem set (h : s.DpdKept ks t) (hl : isDpdKey l.key = false := by decide) : s.DpdKept ks (t.set l v) :=
  h.regs ((SameRegs.refl t).set (List.mem_singleton_self l.key)) (by simpa using hl) rfl rfl

/-- A field among `ks` is set. -/
theorem setIn (h : s.DpdKept ks t) (hl : l.key ∈ ks) : s.DpdKept ks (t.set l v) := by
  have hg : ∀ m : Loc, m.key ∉ ks → (t.set l v).get m = t.get m := fun m hm => get_set_other t v fun e => hm (by rw [e]; exact hl)
  have he : ∀ i, (t.set l v).eccOf 5 i = t.eccOf 5 i := fun i => by simp only [State.eccOf, State.set]
  exact h.trans ⟨fun m _ hm => hg m hm, he⟩

theorem count (h : s.DpdKept ks t) (hl : isDpdKey l.key = false := by decide) : s.DpdKept ks (t.count l k) := h.set hl

theorem raise (h : s.DpdKept ks t) (hp : isDpdKey (HDR.EVT pg).key = false := by decide) : s.DpdKept ks (t.raise pg b) :=
  h.regs ((SameRegs.refl t).raise fun _ hk => hk)
    (by simpa only [evKeys, List.forall_mem_cons, List.not_mem_nil, false_imp_iff, implies_true, and_true] using ⟨hp, by decide⟩)
    (congrArg State.ecc (raise_eventless t pg b) :) (congrArg State.eccBase (raise_eventless t pg b) :)

/-! ### The log -/

/-- A log record heals words of the log RAM alone (R436). -/
theorem logAs_ecc (s : State) (c ty sv pg w4 w5 w6 i : Nat) : (s.logAs c ty sv pg w4 w5 w6).eccOf 5 i = s.eccOf 5 i := by
  unfold State.logAs
  extract_lets lost t1 r here ill t2 t3 recs l t4
  have h1 : (t1.ecc, t1.eccBase) = (s.ecc, s.eccBase) := by
    show (State.ecc (if _ then _ else _), State.eccBase (if _ then _ else _)) = _
    split
    · exact (congrArg (fun t => (t.ecc, t.eccBase)) (raise_eventless (s.count LOG.LOST_CNT) 0x111 EV.LOG.LOST) :)
    · rfl
  have h2 : (t2.ecc, t2.eccBase) = (t1.ecc, t1.eccBase) := by
    show (State.ecc (if _ then _ else _), State.eccBase (if _ then _ else _)) = _
    split
    · rfl
    · exact (congrArg (fun t => (t.ecc, t.eccBase)) (raise_eventless (t1.count (ECC.HEAL_CNT 1) ill) 0x118 EV.ECC.HEAL) :)
  obtain ⟨he, hb⟩ := Prod.mk.injEq .. ▸ h2.trans h1
  have hf := Store.look_filter t2.ecc (fun k => !(k / 2 ^ 22 == 1 && k % 2 ^ 22 / 4 == r.seq % 2048)) (eccKey 5 i)
  have hk : ((eccKey 5 i) / 2 ^ 22 == 1) = false := by
    simp only [eccKey, beq_eq_false_iff_ne]
    omega
  rw [hk, Bool.false_and, Bool.not_false, if_pos rfl] at hf
  show Store.look (t2.ecc.filter _) _ ^^^ t2.eccBase.look 5 = _
  rw [hf, he, hb]
  rfl

theorem logKeys_dpd : ∀ k ∈ logKeys, isDpdKey k = false := by decide

theorem logAs {c ty sv w4 w5 w6 : Nat} (h : s.DpdKept ks t) : s.DpdKept ks (t.logAs c ty sv pg w4 w5 w6) :=
  h.trans ⟨fun l hl _ => (SameRegs.refl t).logAs (fun _ hk => hk) l fun hk => by
    rw [logKeys_dpd _ hk] at hl; exact Bool.false_ne_true hl, logAs_ecc t c ty sv pg w4 w5 w6⟩

theorem raiseLog {sv : Nat} (h : s.DpdKept ks t) (hp : isDpdKey (HDR.EVT pg).key = false := by decide) :
    s.DpdKept ks (t.raiseLog sv pg b) := (h.raise hp).logAs

/-- An uncorrectable word of the model memory is noted, counted, raised and recorded. -/
theorem eccUE {i req : Nat} (h : s.DpdKept ks t) : s.DpdKept ks (t.eccUE 5 i req) := h.set.set.set.count.set.raiseLog

/-! ### The lap and its captures -/

theorem capDisarm (h : s.DpdKept ks t) : s.DpdKept ks (t.capDisarm k) := by
  have hk : isDpdKey (CP.ARMED k).key = false := by
    simp only [isDpdKey, keyPage, Loc.key, CP.ARMED, Bool.or_eq_false_iff, beq_eq_false_iff_ne]
    omega
  exact (h.set hk : s.DpdKept ks (t.set (CP.ARMED k) 0)).other rfl rfl rfl

theorem dpdCapStop (h : s.DpdKept ks t) : s.DpdKept ks t.dpdCapStop := h.foldl fun _ h => h.upon capDisarm

theorem dpdNote (h : s.DpdKept ks t) : s.DpdKept ks t.dpdNote := by
  unfold State.dpdNote
  split
  · exact h.set
  · exact h

theorem dpdLap (h : s.DpdKept ks t) : s.DpdKept ks t.dpdLap := h.upon fun h => h.set.count.raise.other rfl rfl rfl

/-- Past its result and phase the end of an update changes MODEL_STALE alone. -/
theorem dpdResult (s : State) (p r : Nat) :
    ((s.set (DPD1.LAST_RESULT p) r).set (DPD1.PHASE p) 0).DpdKept [(DPD1.MODEL_STALE p).key] (s.dpdResult p r) := by
  unfold State.dpdResult
  extract_lets t1 t2 t3 t4
  have h3 : t1.DpdKept [(DPD1.MODEL_STALE p).key] t3 := ((refl t1).other rfl rfl rfl : t1.DpdKept _ t2).foldl fun {u c} hc h => by
    have hv : isDpdKey (DPD2.VALID c).key = false := by
      have := List.mem_range.1 hc
      simp only [isDpdKey, keyPage, Loc.key, DPD2.VALID, Bool.or_eq_false_iff, beq_eq_false_iff_ne]
      omega
    split
    · exact h.upon fun h => ((h.upon dpdCapStop).other rfl rfl rfl : t1.DpdKept _ (State.setDpdJob _ c none)).set hv
    · exact h
  have h4 : t1.DpdKept [(DPD1.MODEL_STALE p).key] t4 := h3.upon fun h => (h.count.setIn (List.mem_singleton_self _)).raise
  exact h4.dpdLap.dpdNote

/-- The fields of DPD1 that a path's leaving the lap can change. -/
def leaveKeys (p : Nat) : List Nat :=
  [(DPD1.LAST_RESULT p).key, (DPD1.PHASE p).key, (DPD1.MODEL_STALE p).key, (DPD1.ACT_BANK p).key]

theorem dpdResultIn (h : s.DpdKept (leaveKeys p) t) : s.DpdKept (leaveKeys p) (t.dpdResult p r) :=
  ((h.setIn (by simp [leaveKeys])).setIn (by simp [leaveKeys])).trans ((dpdResult t p r).mono (by simp [leaveKeys]))

theorem dpdLeave (h : s.DpdKept (leaveKeys p) t) : s.DpdKept (leaveKeys p) (t.dpdLeave p) := by
  have ht : s.DpdKept (leaveKeys p) (t.dpdToggle p) := h.setIn (by simp [leaveKeys])
  exact .ite h.dpdResultIn (.ite h (.ite ht.dpdResultIn h.dpdResultIn))

end State.DpdKept

end Sys2Proof.Machine
end

section
/-! PROOFS. Updates, the divergence guard and the model memory (O15). -/

namespace Sys2Proof.Machine

variable {s t : State} {c : Cls} {a i k m p r v w : Nat}

/-! ### What the end of an update shows -/

theorem State.Steady.mem (h : s.Steady t) : t.mem = s.mem := (congrArg (fun u => u.2.2.2.2.2.2.1) h.units :)

theorem State.Steady.words (h : s.Steady t) : t.words = s.words := (congrArg (fun u => u.1) h.units :)

theorem State.Steady.acks (h : s.Steady t) : t.acks = s.acks := (congrArg (fun u => u.2.1) h.units :)

theorem dpdResult_mem (s : State) (hp : p < 64) (r : Nat) : (s.dpdResult p r).mem = s.mem :=
  ((State.Steady.refl s).dpdResult hp).mem

theorem isDpdKey_ofPath {l : Loc} (hp : p < 64) (hl : l.page = 0x0A5 ∨ l.page = 0x0A7) (ho : l.off = 0x040 + 4 * p) (hb : l.lo < 32) :
    isDpdKey l.key = true := isDpdKey_key hl (by omega) hb

/-- A field of path `p` that the end of its update does not write keeps its value. -/
theorem dpdResult_other {l : Loc} (hd : isDpdKey l.key = true)
    (hk : l.key ≠ (DPD1.LAST_RESULT p).key ∧ l.key ≠ (DPD1.PHASE p).key ∧ l.key ≠ (DPD1.MODEL_STALE p).key) :
    (s.dpdResult p r).get l = s.get l := by
  rw [(State.DpdKept.dpdResult s p r).fields l hd (by simpa using hk.2.2), get_set_other _ _ hk.2.1, get_set_other _ _ hk.1]

/-- The update's result, and no phase (R203). -/
theorem dpdResult_shown (s : State) (hp : p < 64) (r : Nat) :
    (s.dpdResult p r).get (DPD1.PHASE p) = 0 ∧ (s.dpdResult p r).get (DPD1.LAST_RESULT p) = trunc 4 r := by
  have hne : (DPD1.PHASE p).key ∉ [(DPD1.MODEL_STALE p).key] ∧ (DPD1.LAST_RESULT p).key ∉ [(DPD1.MODEL_STALE p).key] ∧
      (DPD1.LAST_RESULT p).key ≠ (DPD1.PHASE p).key := by
    simp only [Loc.key, DPD1.PHASE, DPD1.LAST_RESULT, DPD1.MODEL_STALE, List.mem_singleton]
    omega
  have hf := (State.DpdKept.dpdResult s p r).fields
  rw [hf _ (isDpdKey_ofPath hp (.inl rfl) rfl (by simp [DPD1.PHASE])) hne.1,
    hf _ (isDpdKey_ofPath hp (.inl rfl) rfl (by simp [DPD1.LAST_RESULT])) hne.2.1, get_set_other _ _ hne.2.2]
  exact ⟨get_set_same _ (DPD1.PHASE p) 0, get_set_same _ (DPD1.LAST_RESULT p) r⟩

/-! ### UPD_REQ -/

theorem trigAct_updReq (hp : p < 64) (s : State) (c : Cls) (data at_ : Nat) :
    s.trigAct c (DPD1.UPD_REQ p) data at_ = s.updReq p := by
  have hpg : (DPD1.UPD_REQ p).page = 0x0A5 := rfl
  have hne : ∀ m : Loc, m.page ≠ 0x0A5 → DPD1.UPD_REQ p ≠ m := fun m hm e => hm (e ▸ hpg)
  have hoff : ((DPD1.UPD_REQ p).off - 0x040) / 4 = p := by
    simp only [DPD1.UPD_REQ]
    omega
  rw [trigAct_low (by simp [DPD1.UPD_REQ, HDR.EVT]) (by simp [DPD1.UPD_REQ]) (by simp [DPD1.UPD_REQ]; omega)
    (by rw [hpg]; decide)]
  unfold State.lowTrigger
  dsimp only
  iterate 10 rw [if_neg (hne _ (by decide))]
  rw [hpg, if_neg (by decide), if_neg (hne _ (by decide)), if_pos rfl, hoff]

/-- A taken UPD_REQ lands as what it does to the path. -/
theorem exec_updReq_lands {g : State → State} (hp : p < 64) (h : s.triggered c (DPD1.UPD_REQ p) = true)
    (hg : (s.ripe c (DPD1.UPD_REQ p)).updReq p = g (s.ripe c (DPD1.UPD_REQ p)))
    (hs : (s.ripe c (DPD1.UPD_REQ p)).Steady (g (s.ripe c (DPD1.UPD_REQ p)))) :
    exec (.updReq c p) s = .next (s.lands c (DPD1.UPD_REQ p) [] [g]) := by
  have he : DPD1.UPD_REQ p ≠ TIMELINE0.ENQ_CODE := fun e => absurd (congrArg Loc.page e) (show (0x0A5 : Nat) ≠ 0x0A8 by decide)
  have hl := rowTrig_lands h rfl he (show (0x0A5 : Nat) ≠ 0x0A2 ∧ (0x0A5 : Nat) ≠ 0x0A3 by decide)
    (by rw [trigAct_updReq hp, hg]; exact hs.words)
    (by rw [trigAct_updReq hp, hg]; exact hs.acks)
  rw [exec_updReq, execUpdReq, hl]
  show Host.Outcome.next ((((s.ripe c _).trigAct c _ 0 s.ao).credit 1 false).reply c [] stOK) = _
  rw [trigAct_updReq hp, hg]
  rfl

theorem updReq_aborted (h : s.mgmtDown = true) : s.updReq p = s.dpdResult p 9 := by
  rw [State.updReq, if_pos h]

theorem updReq_failed (h : s.mgmtDown = false) (hc : s.updCheck p = some r) :
    s.updReq p = ((s.dpdResult p r).count DPD0.CHKFAIL_CNT).raise 0x0A4 EV.DPD0.CHECK_FAIL := by
  simp only [State.updReq, h, Bool.false_eq_true, if_false, hc]

/-- An update that passes its checks swaps at once where it has no guard and its clocks; else its phase begins (R204, R207). -/
theorem updReq_passed (h : s.mgmtDown = false) (hc : s.updCheck p = none) :
    s.updReq p =
      if s.on DPD0.GUARD_EN = false ∧ s.dpdClocked p = true then s.dpdBare p
      else (s.set (DPD1.PHASE p) 1).setDpdPath p (fun g =>
        { lapped := g.lapped, timer := s.ao, bare := !s.on DPD0.GUARD_EN, aim := if s.on DPD0.GUARD_EN then some s.tb else none,
          since := s.tb }) := by
  simp only [State.updReq, h, Bool.false_eq_true, if_false, hc]
  rfl

/-- A bank without errors comes into force as it stands. -/
theorem dpdSwap_sound (h : s.eccAny 5 = false) : s.dpdSwap p = s.set (DPD1.ACT_BANK p) (1 - s.get (DPD1.ACT_BANK p)) := by
  rw [State.dpdSwap, State.modelScan, if_pos (show (s.dpdToggle p).eccAny 5 = false from h), State.dpdToggle]

theorem looseKey_ofPath {l : Loc} (hp : p < 64) (hl : l.page = 0x0A5) (ho : l.off = 0x040 + 4 * p) (hb : l.lo < 32) :
    looseKey l.key = true := State.Steady.looseKey_dpd (.inl hl) (by omega) hb

/-! ### The guard -/

theorem guardBaseline_swaps (h1 : s.get (DPD1.PHASE p) = 1) (hb : (s.dpdPath p).bare = false) (hf : s.guardFull p = true)
    (hm : s.mgmtDown = false) (hc : s.dpdClocked p = true) :
    s.guardBaseline p = State.dpdSwap ((s.set (DPD1.PHASE p) 2).setDpdPath p (fun g =>
      { g with timer := s.ao, paused := none, since := s.tb + 128, n := 0, c := 0, a := 0, c0 := g.c, a0 := g.a })) p := by
  rw [State.guardBaseline, if_pos ⟨h1, hb, hf, hm, hc⟩]

/-- A ratio has a code of 8 bits (R204). -/
theorem aclr_lt (c a free : Nat) : aclr c a free < 2 ^ 8 := by
  unfold aclr
  split
  · decide
  · split <;> omega

/-- The state with both ratios of an evaluation. -/
def State.ratios (s : State) (p : Nat) : State :=
  (({ s with fv := s.fv + 2 } : State).set (DPD3.ACLR_BEFORE p)
    (aclr (s.dpdPath p).c0 (s.dpdPath p).a0 (Config.freeValue s.fv))).set (DPD3.ACLR_AFTER p)
    (aclr (s.dpdPath p).c (s.dpdPath p).a (Config.freeValue (s.fv + 1)))

theorem ratios_get (s : State) (p : Nat) :
    (s.ratios p).get (DPD3.ACLR_BEFORE p) = aclr (s.dpdPath p).c0 (s.dpdPath p).a0 (Config.freeValue s.fv) ∧
      (s.ratios p).get (DPD3.ACLR_AFTER p) = aclr (s.dpdPath p).c (s.dpdPath p).a (Config.freeValue (s.fv + 1)) := by
  have hne : (DPD3.ACLR_BEFORE p).key ≠ (DPD3.ACLR_AFTER p).key := by
    simp only [Loc.key, DPD3.ACLR_BEFORE, DPD3.ACLR_AFTER]
    omega
  rw [State.ratios, get_set_other _ _ hne, get_set_same, get_set_same]
  exact ⟨trunc_of_lt (aclr_lt ..), trunc_of_lt (aclr_lt ..)⟩

theorem ratios_other {l : Loc} (s : State) (h : l.key ≠ (DPD3.ACLR_BEFORE p).key ∧ l.key ≠ (DPD3.ACLR_AFTER p).key) :
    (s.ratios p).get l = s.get l := by
  rw [State.ratios, get_set_other _ _ h.2, get_set_other _ _ h.1]
  rfl

/-- The bank goes back, the path is frozen, and the update ends with result 2. -/
def State.restored (s : State) (p : Nat) : State := ((s.dpdToggle p).set (DPD1.FROZEN p) 1).dpdResult p 2

/-- A full evaluation gives both ratios, and restores the bank where it diverged (R204). -/
theorem guardVerdict_full (h2 : s.get (DPD1.PHASE p) = 2) (hf : s.guardFull p = true) :
    s.guardVerdict p =
      if diverged (s.get DPD0.GUARD_MARGIN) (s.dpdPath p).c0 (s.dpdPath p).a0 (s.dpdPath p).c (s.dpdPath p).a then
        (((s.ratios p).restored p).count DPD0.RESTORE_CNT).raise 0x0A4 EV.DPD0.DIVERGED
      else (s.ratios p).dpdResult p 1 := by
  have hm : DPD0.GUARD_MARGIN.key ≠ (DPD3.ACLR_BEFORE p).key ∧ DPD0.GUARD_MARGIN.key ≠ (DPD3.ACLR_AFTER p).key := by
    simp only [Loc.key, DPD0.GUARD_MARGIN, DPD3.ACLR_BEFORE, DPD3.ACLR_AFTER]
    omega
  rw [State.guardVerdict, if_pos ⟨h2, hf⟩, ← ratios_other s hm]
  rfl

/-- An evaluation that is kept (R204). -/
theorem ratios_dpdResult_shown (hp : p < 64) :
    ((s.ratios p).dpdResult p 1).get (DPD1.PHASE p) = 0 ∧ ((s.ratios p).dpdResult p 1).get (DPD1.LAST_RESULT p) = 1 ∧
      ((s.ratios p).dpdResult p 1).get (DPD1.ACT_BANK p) = s.get (DPD1.ACT_BANK p) ∧
      ((s.ratios p).dpdResult p 1).get (DPD3.ACLR_BEFORE p) = aclr (s.dpdPath p).c0 (s.dpdPath p).a0 (Config.freeValue s.fv) ∧
      ((s.ratios p).dpdResult p 1).get (DPD3.ACLR_AFTER p) = aclr (s.dpdPath p).c (s.dpdPath p).a (Config.freeValue (s.fv + 1)) ∧
      ((s.ratios p).dpdResult p 1).mem = s.mem := by
  obtain ⟨hphase, hresult⟩ := dpdResult_shown (s.ratios p) hp 1
  obtain ⟨hbefore, hafter⟩ := ratios_get s p
  have hkeep : ∀ l : Loc, l.page = 0x0A5 ∨ l.page = 0x0A7 → l.off = 0x040 + 4 * p → l.lo = 16 ∨ l.page = 0x0A7 ∧ l.lo = 24 →
      ((s.ratios p).dpdResult p 1).get l = (s.ratios p).get l := fun l hl ho hb => by
    refine dpdResult_other (isDpdKey_ofPath hp hl ho (by omega)) ?_
    simp only [Loc.key, DPD1.LAST_RESULT, DPD1.PHASE, DPD1.MODEL_STALE]
    omega
  refine ⟨hphase, hresult, ?_, ?_, ?_, dpdResult_mem _ hp 1⟩
  · rw [hkeep _ (.inl rfl) rfl (.inl rfl)]
    refine ratios_other s ?_
    simp only [Loc.key, DPD1.ACT_BANK, DPD3.ACLR_BEFORE, DPD3.ACLR_AFTER]
    omega
  · rw [hkeep _ (.inr rfl) rfl (.inl rfl), hbefore]
  · rw [hkeep _ (.inr rfl) rfl (.inr ⟨rfl, rfl⟩), hafter]

/-- An evaluation that is undone (R204, R206). -/
theorem restored_shown (s : State) (hp : p < 64) :
    (s.restored p).get (DPD1.PHASE p) = 0 ∧ (s.restored p).get (DPD1.LAST_RESULT p) = 2 ∧ (s.restored p).get (DPD1.FROZEN p) = 1 ∧
      (s.restored p).get (DPD1.ACT_BANK p) = (1 - s.get (DPD1.ACT_BANK p)) % 2 ∧ (s.restored p).mem = s.mem := by
  obtain ⟨hphase, hresult⟩ := dpdResult_shown ((s.dpdToggle p).set (DPD1.FROZEN p) 1) hp 2
  have hkeep : ∀ l : Loc, l.page = 0x0A5 → l.off = 0x040 + 4 * p → l.lo = 16 ∨ l.lo = 31 →
      (s.restored p).get l = ((s.dpdToggle p).set (DPD1.FROZEN p) 1).get l := fun l hl ho hb => by
    refine dpdResult_other (isDpdKey_ofPath hp (.inl hl) ho (by omega)) ?_
    simp only [Loc.key, DPD1.LAST_RESULT, DPD1.PHASE, DPD1.MODEL_STALE]
    omega
  have hne : (DPD1.ACT_BANK p).key ≠ (DPD1.FROZEN p).key := by
    simp only [Loc.key, DPD1.ACT_BANK, DPD1.FROZEN]
    omega
  refine ⟨hphase, hresult, ?_, ?_, dpdResult_mem _ hp 2⟩
  · rw [hkeep _ rfl rfl (.inr rfl)]
    exact get_set_same ..
  · rw [hkeep _ rfl rfl (.inl rfl), get_set_other _ _ hne]
    exact get_set_same ..

/-! ### The model memory -/

theorem pageRefusal_denied {pg : Nat} (h : s.pageRefusal c pg = some r) : r = stDENIED := by
  unfold State.pageRefusal at h
  split at h
  · exact (Option.some.inj h).symm
  · split at h
    · exact absurd h nofun
    · exact (Option.some.inj h).symm

/-- A refusal of a model word is one of check 2 or later, and so is recorded (R45). -/
theorem modelRefusal_recorded (h : s.modelRefusal c a = some r) : 2 ≤ r := by
  unfold State.modelRefusal at h
  dsimp only at h
  split at h
  · obtain rfl : stBUS_ERROR = r := Option.some.inj h
    decide
  · split at h
    next hpage =>
      obtain rfl := pageRefusal_denied hpage
      obtain rfl : stDENIED = r := Option.some.inj h
      decide
    · split at h
      · obtain rfl : stLOCKED = r := Option.some.inj h
        decide
      · split at h
        · obtain rfl : stPENDING = r := Option.some.inj h
          decide
        · exact absurd h nofun

/-- A word in a code word without an error is merged as it stands (R434). -/
theorem writePartial_sound {q : Nat} (hw : codeWordOf a = some (m, i)) (hi : s.isolated m = false) (he : s.eccOf m i = 0) :
    s.writePartial q a v = (true, s.setWord a v) := by
  simp [State.writePartial, State.eccPartial, State.eccMerge, hw, hi, he]

theorem modelWrite_stored (hr : s.modelRefusal c a = none) (hk : modelMask (a % 0x400) = some k) (hw : codeWordOf a = some (m, i))
    (hi : s.isolated m = false) (he : s.eccOf m i = 0) : s.modelWrite c a v = (stOK, s.setWord a (v &&& k)) := by
  simp only [State.modelWrite, hr, hk, writePartial_sound hw hi he]

theorem modelWrite_refused (hr : s.modelRefusal c a = some r) : s.modelWrite c a v = (r, s) := by
  simp only [State.modelWrite, hr]

theorem finish_ok (s : State) (c : Cls) (a : Nat) : s.finish c a stOK [] = s.reply c [] stOK := if_neg (by decide)

theorem finish_refused (h : 2 ≤ r) : s.finish c a r [] = (s.refuse c a r).reply c [] r := if_pos h

/-! ### A damaged word of the model -/

/-- The number of code word `w` of a bank (R192). -/
theorem modelAddr_word (p b w : Nat) : (modelAddr p b (8 * w) - modelBase) / 8 = p * 256 + b * 128 + w := by
  simp only [modelAddr]
  omega

theorem eccOf_setEcc (s : State) (m i v : Nat) : (s.setEcc m i v).eccOf m i = v := by
  simp only [State.eccOf, State.setEcc, Store.look_put, if_true, Nat.xor_assoc, Nat.xor_self, Nat.xor_zero]

/-- Code word `i` of the model memory is found uncorrectable. -/
def State.modelBad (s : State) (i : Nat) : State := (s.setEcc 5 i 0xFF).eccUE 5 i reqDATAPATH

/-- The path is frozen and leaves the lap (R206). -/
def State.frozen (s : State) (p : Nat) : State := ((s.set (DPD1.FROZEN p) 1).dpdLeave p).dpdLap.dpdNote

theorem modelDamaged_enabled (hw : w < 128) (h : s.on (DPD1.DPD_EN_ACT p) = true) :
    s.modelDamaged p w =
      ((s.modelBad (p * 256 + s.get (DPD1.ACT_BANK p) * 128 + w)).frozen p).raise 0x0A4 EV.DPD0.MODEL_DAMAGED := by
  unfold State.modelDamaged
  dsimp only
  rw [if_pos h, Nat.mod_eq_of_lt hw, modelAddr_word, State.frozenWritten, if_pos rfl]
  rfl

theorem modelBad_ecc (s : State) (i : Nat) : (s.modelBad i).eccOf 5 i = 0xFF :=
  ((State.DpdKept.refl (ks := []) (s.setEcc 5 i 0xFF)).eccUE.ecc i).trans (eccOf_setEcc s 5 i 0xFF)

theorem frozen_kept (s : State) (p : Nat) : (s.set (DPD1.FROZEN p) 1).DpdKept (State.DpdKept.leaveKeys p) (s.frozen p) :=
  (State.DpdKept.refl _).dpdLeave.dpdLap.dpdNote

theorem frozen_shown (s : State) (hp : p < 64) : (s.frozen p).get (DPD1.FROZEN p) = 1 := by
  have hk : (DPD1.FROZEN p).key ∉ State.DpdKept.leaveKeys p := by
    simp only [State.DpdKept.leaveKeys, Loc.key, DPD1.FROZEN, DPD1.LAST_RESULT, DPD1.PHASE, DPD1.MODEL_STALE, DPD1.ACT_BANK,
      List.mem_cons, List.not_mem_nil, or_false]
    omega
  rw [(frozen_kept s p).fields _ (isDpdKey_ofPath hp (.inl rfl) rfl (by simp [DPD1.FROZEN])) hk]
  exact get_set_same _ (DPD1.FROZEN p) 1

theorem frozen_ecc (s : State) (p i : Nat) : (s.frozen p).eccOf 5 i = s.eccOf 5 i := by
  rw [(frozen_kept s p).ecc i]
  simp only [State.eccOf, State.set]

theorem State.Steady.modelBad (s : State) (i : Nat) : s.Steady (s.modelBad i) := by
  have h : s.Steady (s.setEcc 5 i 0xFF) := (State.Steady.refl s).other rfl rfl
  exact (h.setAbove.setAbove.setAbove.setAbove.setAbove).raiseLog

theorem State.Steady.frozen (h : s.Steady t) (hp : p < 64) : s.Steady (t.frozen p) :=
  ((h.set (looseKey_ofPath hp rfl rfl (by simp [DPD1.FROZEN]))).dpdLeave hp).dpdLap.dpdNote

/-! ### The statement -/

/-- Settles O15: each event takes the one branch that the rule names; an end of an update leaves the frame of `State.DpdKept` but
for the path's result, phase and staleness. -/
theorem dpdUpdates : Obligations.DpdUpdates := by
  unfold Obligations.DpdUpdates
  refine ⟨?_, ?_, ?_, ?_, ?_, ?_, ?_, ?_, ?_, ?_, ?_, ?_, ?_⟩
  · intro s c p hp ht hm
    exact exec_updReq_lands hp ht (updReq_aborted hm) ((State.Steady.refl _).dpdResult hp)
  · intro s c p r hp ht hm hc
    exact exec_updReq_lands hp ht (updReq_failed hm hc) ((State.Steady.refl _).dpdResult hp).count.raise
  · intro s c p hp ht hm hc hg hk he
    refine exec_updReq_lands hp ht ?_ (((State.Steady.refl _).set (looseKey_ofPath hp rfl rfl (by simp [DPD1.ACT_BANK]))).dpdResult hp)
    rw [updReq_passed hm hc, if_pos ⟨hg, hk⟩, State.dpdBare, dpdSwap_sound he]
  · intro s c p hp ht hm hc hg hk
    refine exec_updReq_lands hp ht ?_ ((State.Steady.refl _).set (looseKey_ofPath hp rfl rfl (by simp [DPD1.PHASE]))).setDpdPath
    rw [updReq_passed hm hc, if_neg (by simp [hk]), hg]
    rfl
  · intro s c p hp ht hm hc hg
    refine exec_updReq_lands hp ht ?_ ((State.Steady.refl _).set (looseKey_ofPath hp rfl rfl (by simp [DPD1.PHASE]))).setDpdPath
    rw [updReq_passed hm hc, if_neg (by simp [hg]), hg]
    rfl
  · intro s p _ h1 hb hf hm hk he u
    have hbank : u.get (DPD1.ACT_BANK p) = s.get (DPD1.ACT_BANK p) := get_set_other s 2 (by
      simp only [Loc.key, DPD1.ACT_BANK, DPD1.PHASE]
      omega)
    have hswap : u.dpdSwap p = u.set (DPD1.ACT_BANK p) (1 - s.get (DPD1.ACT_BANK p)) := hbank ▸ dpdSwap_sound (s := u) he
    rw [exec_guardBaselineDone, execGuardBaselineDone, guardBaseline_swaps h1 hb hf hm hk]
    exact congrArg Host.Outcome.next hswap
  · intro s p hp h2 hf hd
    refine ⟨(s.ratios p).dpdResult p 1, ?_, ratios_dpdResult_shown hp⟩
    rw [exec_guardVerdict, execGuardVerdict, guardVerdict_full h2 hf, hd]
    rfl
  · intro s p hp h2 hf hd
    obtain ⟨hphase, hresult, hfrozen, hbank, hmem⟩ := restored_shown (s.ratios p) hp
    have hkeep : ∀ l : Loc, l.page = 0x0A5 → l.off = 0x040 + 4 * p → l.lo < 32 →
      ((((s.ratios p).restored p).count DPD0.RESTORE_CNT).raise 0x0A4 EV.DPD0.DIVERGED).get l = ((s.ratios p).restored p).get l :=
      fun l hl ho hb => ((State.DpdKept.refl (ks := []) _).count.raise).fields l (isDpdKey_ofPath hp (.inl hl) ho hb) List.not_mem_nil
    refine ⟨(((s.ratios p).restored p).count DPD0.RESTORE_CNT).raise 0x0A4 EV.DPD0.DIVERGED, ?_, ?_, ?_, ?_, ?_,
      raise_sets _ _ (by decide), ?_⟩
    · rw [exec_guardVerdict, execGuardVerdict, guardVerdict_full h2 hf, if_pos hd]
    · rw [hkeep _ rfl rfl (by simp [DPD1.PHASE]), hphase]
    · rw [hkeep _ rfl rfl (by simp [DPD1.LAST_RESULT]), hresult]
    · rw [hkeep _ rfl rfl (by simp [DPD1.FROZEN]), hfrozen]
    · rw [hkeep _ rfl rfl (by simp [DPD1.ACT_BANK]), hbank, ratios_other]
      simp only [Loc.key, DPD1.ACT_BANK, DPD3.ACLR_BEFORE, DPD3.ACLR_AFTER]
      omega
    · rw [raise_mem]
      exact hmem
  · intro s p _ h1 hb hn hf ht
    rw [exec_guardTimeout, execGuardTimeout, State.guardTimeout, if_pos ⟨.inl h1, hb, hn, hf, ht⟩, if_pos h1]
  · intro s p _ h2 hb hn hf ht
    rw [exec_guardTimeout, execGuardTimeout, State.guardTimeout, if_pos ⟨.inr h2, hb, hn, hf, ht⟩, if_neg (by omega)]
    rfl
  · intro s c a v k m i hd hr hk hw hi he
    rw [exec_modelWrite, execModelWrite, modelWrite_stored hr hk hw hi he, hd]
    exact congrArg Host.Outcome.next (finish_ok _ c a)
  · intro s c a v r hd hr
    rw [exec_modelWrite, execModelWrite, modelWrite_refused hr, hd]
    exact congrArg Host.Outcome.next (finish_refused (modelRefusal_recorded hr))
  · intro s p w hp hw hen
    refine ⟨_, by rw [exec_modelDamaged, execModelDamaged, modelDamaged_enabled hw hen], ?_, raise_sets _ _ (by decide), ?_, ?_⟩
    · rw [raise_other]
      · exact frozen_shown _ hp
      all_goals
        simp only [Loc.key, DPD1.FROZEN, HDR.EVT, ERL1.EVT_LOST_CNT]
        omega
    · rw [((State.DpdKept.refl (ks := []) _).raise).ecc, frozen_ecc, modelBad_ecc]
    · rw [raise_mem]
      exact ((State.Steady.modelBad s _).frozen hp).mem

end Sys2Proof.Machine
end

section
/-! PROOFS. Slot boundaries (O16): a frame for what a boundary does besides SLOT_NOW. Suppressions, withdrawals, retirements and
path states that it lets act touch neither SLOT_NOW nor the time base nor memory, and leave no path a change that waits for a
boundary. As for `State.Sound`, the proof of `State.SlotKept.f` is the body of `State.f` with the frame `h` in the place of the
state. -/

namespace Sys2Proof.Machine

variable {s t u : State} {g n m : Nat}

/-! ### Paths after an update of one -/

theorem path_setPath_same {f : PathSt → PathSt} (hn : n < s.paths.length) : (s.setPath n f).path n = f (s.path n) :=
  Sys2Proof.getD_upd_same f {} hn

theorem path_setPath_other (f : PathSt → PathSt) (h : m ≠ n) : (s.setPath n f).path m = s.path m := getD_upd_other _ f {} h

theorem path_beyond (h : s.paths.length ≤ n) : s.path n = {} := by
  rw [State.path, List.getD_eq_getElem?_getD, List.getElem?_eq_none h, Option.getD_none]

/-- An update that keeps the path at rest does so whether or not the state holds the path. -/
theorem path_setPath_fixed {f : PathSt → PathSt} (hf : f {} = {}) : (s.setPath n f).path n = f (s.path n) := by
  by_cases hn : n < s.paths.length
  · exact path_setPath_same hn
  · have hl : (s.setPath n f).paths.length = s.paths.length := length_upd ..
    rw [path_beyond (by omega), path_beyond (by omega), hf]

theorem path_setPath_cases (s : State) (n : Nat) (f : PathSt → PathSt) (m : Nat) :
    (s.setPath n f).path m = s.path m ∨ (s.setPath n f).path m = f (s.path m) := by
  by_cases hm : m = n
  · subst hm
    by_cases hn : m < s.paths.length
    · exact .inr (path_setPath_same hn)
    · have hl : (s.setPath m f).paths.length = s.paths.length := length_upd ..
      rw [path_beyond (by omega), path_beyond (by omega)]
      exact .inl rfl
  · exact .inl (path_setPath_other f hm)

/-! ### Units that events and the log leave -/

/-- The paths, the time base and memory. -/
def State.pathUnits (s : State) : List PathSt × Nat × List Host.Cell := (s.paths, s.tb, s.mem)

theorem set_pathUnits (s : State) (l : Loc) (v : Nat) : (s.set l v).pathUnits = s.pathUnits := rfl

theorem raise_pathUnits (s : State) (pg b : Nat) : (s.raise pg b).pathUnits = s.pathUnits :=
  (congrArg State.pathUnits (raise_eventless s pg b) :)

theorem queueEvt_pathUnits (s : State) (p : EvtPkt) : (s.queueEvt p).pathUnits = s.pathUnits :=
  (congrArg State.pathUnits (queueEvt_eventless s p) :)

theorem logAs_pathUnits (s : State) (c ty sv pg w4 w5 w6 : Nat) : (s.logAs c ty sv pg w4 w5 w6).pathUnits = s.pathUnits := by
  unfold State.logAs
  extract_lets lost t1 r here ill t2 t3 recs l t4
  have h1 : t1.pathUnits = s.pathUnits := by
    show State.pathUnits (if _ then _ else _) = _
    split
    · exact raise_pathUnits _ _ _
    · rfl
  have h2 : t2.pathUnits = t1.pathUnits := by
    show State.pathUnits (if _ then _ else _) = _
    split
    · rfl
    · exact raise_pathUnits _ _ _
  exact h2.trans h1

theorem raiseLog_pathUnits (s : State) (sv pg b : Nat) : (s.raiseLog sv pg b).pathUnits = s.pathUnits :=
  (logAs_pathUnits ..).trans (raise_pathUnits ..)

/-! ### The frame -/

/-- The field is no SLOT_NOW: its lowest bit is another, or it lies before that word of its page. -/
def notSlot (l : Loc) : Bool := Nat.blt l.lo 32 && (l.lo != 8 || Nat.blt l.off 0x068)

theorem slotNow_ne {l : Loc} (h : notSlot l = true) (g : Nat) : (OCTET.SLOT_NOW g).key ≠ l.key := by
  simp only [notSlot, Bool.and_eq_true, Bool.or_eq_true, bne_iff_ne, Nat.blt_eq] at h
  simp only [Loc.key, OCTET.SLOT_NOW]
  omega

/-- No change of the path waits for a slot boundary: neither a released mute nor a retirement. -/
def PathSt.settled (p : PathSt) : Bool := !p.muteToSlot && !p.retTx && !p.retRx

/-- The path without what a slot boundary ends or lets act. -/
def PathSt.cleared (p : PathSt) : PathSt := { p with supp := 0, muteToSlot := false, retTx := false, retRx := false, wdrTo := none }

/-- From `s` to `t` every SLOT_NOW, the time base and memory are the same, and a path for which nothing waits stays so. -/
structure State.SlotKept (s t : State) : Prop where
  slot : ∀ g, t.get (OCTET.SLOT_NOW g) = s.get (OCTET.SLOT_NOW g)
  tb : t.tb = s.tb
  mem : t.mem = s.mem
  settled : ∀ n, (s.path n).settled = true → (t.path n).settled = true

namespace State.SlotKept

theorem refl (s : State) : s.SlotKept s := ⟨fun _ => rfl, rfl, rfl, fun _ h => h⟩

theorem trans (h : s.SlotKept t) (h' : t.SlotKept u) : s.SlotKept u :=
  ⟨fun g => (h'.slot g).trans (h.slot g), h'.tb.trans h.tb, h'.mem.trans h.mem, fun n hn => h'.settled n (h.settled n hn)⟩

/-- Registers other than SLOT_NOW change, and no unit of `pathUnits`. -/
theorem same (h : s.SlotKept t) (hg : ∀ g, u.get (OCTET.SLOT_NOW g) = t.get (OCTET.SLOT_NOW g))
    (hu : u.pathUnits = t.pathUnits) : s.SlotKept u := by
  simp only [State.pathUnits, Prod.mk.injEq] at hu
  obtain ⟨hp, ht, hm⟩ := hu
  have hpath : ∀ n, u.path n = t.path n := fun n => by simp only [State.path, hp]
  exact ⟨fun g => (hg g).trans (h.slot g), ht.trans h.tb, hm.trans h.mem, fun n hn => by rw [hpath]; exact h.settled n hn⟩

/-- Units outside the frame change. -/
theorem other (h : s.SlotKept t) (hr : u.regs = t.regs) (hu : u.pathUnits = t.pathUnits) : s.SlotKept u :=
  h.same (fun _ => get_of_regs hr _) hu

/-- A change made under a condition, as `if c then u else t`. -/
theorem upon {c : Prop} {_ : Decidable c} (h : s.SlotKept t) (f : s.SlotKept t → s.SlotKept u) :
    s.SlotKept (if c then u else t) := by
  split
  · exact f h
  · exact h

/-- A change made unless a condition holds, as `if c then t else u`. -/
theorem except {c : Prop} {_ : Decidable c} (h : s.SlotKept t) (f : s.SlotKept t → s.SlotKept u) :
    s.SlotKept (if c then t else u) := by
  split
  · exact h
  · exact f h

theorem ite {c : Prop} {_ : Decidable c} (h : s.SlotKept t) (h' : s.SlotKept u) : s.SlotKept (if c then t else u) := by
  split
  · exact h
  · exact h'

theorem foldl {α : Type} {as : List α} {f : State → α → State} (h : s.SlotKept t)
    (hf : ∀ {u a}, s.SlotKept u → s.SlotKept (f u a)) : s.SlotKept (as.foldl f t) :=
  List.foldlRecOn (motive := fun u => s.SlotKept u) as f h fun _ hu _ _ => hf hu

theorem set {l : Loc} {v : Nat} (h : s.SlotKept t) (hl : notSlot l = true := by rfl) : s.SlotKept (t.set l v) :=
  h.same (fun g => get_set_other t v (slotNow_ne hl g)) rfl

theorem count {l : Loc} {k : Nat} (h : s.SlotKept t) (hl : notSlot l = true := by rfl) : s.SlotKept (t.count l k) := h.set hl

theorem edit {l : Loc} {v : Nat} (h : s.SlotKept t) : s.SlotKept (t.edit l v) := h.other rfl rfl

theorem setLive {l : Loc} {v : Nat} (h : s.SlotKept t) (hl : notSlot l = true := by rfl) : s.SlotKept (t.setLive l v) :=
  .ite (h.set hl) (h.set hl).edit

theorem queueEvt {p : EvtPkt} (h : s.SlotKept t) : s.SlotKept (t.queueEvt p) :=
  h.same (fun g => (SameRegs.refl t).queueEvt (List.mem_singleton_self _) _
    (fun hk => slotNow_ne (l := ERL1.EVT_LOST_CNT) rfl g (List.mem_singleton.1 hk))) (queueEvt_pathUnits t p)

theorem raise {pg b : Nat} (h : s.SlotKept t) : s.SlotKept (t.raise pg b) :=
  h.same (fun g => raise_other (slotNow_ne rfl g) (slotNow_ne rfl g)) (raise_pathUnits t pg b)

theorem logKeys_bit : ∀ k ∈ logKeys, k % 32 ≠ 8 := by decide

theorem raiseLog {sv pg b : Nat} (h : s.SlotKept t) : s.SlotKept (t.raiseLog sv pg b) := by
  refine h.raise.same (fun g => (SameRegs.refl _).logAs (fun _ hk => hk) _ fun hk => logKeys_bit _ hk ?_) (logAs_pathUnits ..)
  simp only [Loc.key, OCTET.SLOT_NOW]
  omega

theorem setPath {f : PathSt → PathSt} (h : s.SlotKept t)
    (hf : ∀ p, p.settled = true → (f p).settled = true := by exact fun _ h => h) : s.SlotKept (t.setPath n f) :=
  ⟨h.slot, h.tb, h.mem, fun m hm => by
    rcases path_setPath_cases t n f m with e | e <;> rw [e]
    · exact h.settled m hm
    · exact hf _ (h.settled m hm)⟩

/-! ### Path states and suppression -/

theorem setRx {f : RxSt → RxSt} (h : s.SlotKept t) : s.SlotKept (t.setRx n f) := h.other rfl rfl

theorem ovlDrop (h : s.SlotKept t) : s.SlotKept (t.ovlDrop n) := h.set.set

theorem entered {q : PState} (h : s.SlotKept t) : s.SlotKept (t.entered n q) := by
  unfold State.entered
  dsimp only
  split
  · exact h.setPath
  · exact h.setPath
  · exact h.setPath
  · exact h.setPath.upon fun h =>
      have hl : s.SlotKept (State.setLive _ (RXPATH.GAIN_ANT n) (min 60 (State.get _ SOUND0.AGC_INIT))) := h.setLive
      .set (hl.other rfl rfl)
  · exact h.setPath.ovlDrop

theorem reportSupp {c : Nat} (h : s.SlotKept t) : s.SlotKept (t.reportSupp g c) :=
  h.except fun h => .queueEvt <| .raiseLog <| .count <| .set <| .set <| .set <| .other h rfl rfl

theorem checkReady {q : PState} (h : s.SlotKept t) : s.SlotKept (t.checkReady n q) :=
  h.except fun h => h.except fun h => h.setPath.reportSupp

theorem goPath {at_ : Nat} {q : PState} (h : s.SlotKept t) : s.SlotKept (t.goPath n at_ q) :=
  h.except fun h => .ite (.ite h.setPath h.setPath) <|
    h.except fun h => .ite (h.upon fun h => h.setRx).setPath.entered.checkReady h.setPath.ovlDrop

/-! ### Withdrawals and retirements -/

theorem forcingChanged {d : Nat} (h : s.SlotKept t) : s.SlotKept (t.forcingChanged d) :=
  (h.other rfl rfl : s.SlotKept (t.setBeam d _)).set

theorem retiredRx_notSlot (n : Nat) : notSlot (retiredRx n) = true := by
  unfold retiredRx
  split <;> rfl

theorem rxRetired (h : s.SlotKept t) : s.SlotKept (t.rxRetired n) :=
  .ite (h.set (retiredRx_notSlot n)).raise.forcingChanged (h.set (retiredRx_notSlot n)).forcingChanged

theorem withdraw {b : Bool} (h : s.SlotKept t) : s.SlotKept (t.withdraw n b) :=
  h.setPath.foldl fun h => h.upon fun h => .ite h.set.set.set (h.other rfl rfl)

theorem withdrawNow {b : Bool} (h : s.SlotKept t) : s.SlotKept (t.withdrawNow n b) :=
  have hw : s.SlotKept ((t.withdraw n b).setPath n _) := h.withdraw.setPath
  hw.set.set.forcingChanged.forcingChanged.upon raise

theorem fgNext (h : s.SlotKept t) : s.SlotKept t.fgNext :=
  h.except fun h => (h.foldl fun h => h.except fun h => h.setPath.ite h.setPath).foldl fun h => h.setPath

/-! ### Predistorters -/

theorem capDisarm {k : Nat} (h : s.SlotKept t) : s.SlotKept (t.capDisarm k) := (h.set : s.SlotKept (t.set (CP.ARMED k) 0)).other rfl rfl

theorem dpdCapStop (h : s.SlotKept t) : s.SlotKept t.dpdCapStop := h.foldl fun h => h.upon capDisarm

theorem dpdNote (h : s.SlotKept t) : s.SlotKept t.dpdNote := by
  unfold State.dpdNote
  split
  · exact h.set
  · exact h

theorem dpdLap (h : s.SlotKept t) : s.SlotKept t.dpdLap := h.upon fun h => (h.set.count.raise).other rfl rfl

theorem dpdResult {p r : Nat} (h : s.SlotKept t) : s.SlotKept (t.dpdResult p r) := by
  unfold State.dpdResult
  extract_lets t1 t2 t3 t4
  have h2 : s.SlotKept t2 := h.set.set.other rfl rfl
  have h3 : s.SlotKept t3 := h2.foldl fun {u c} h => by
    split
    · exact h.upon fun h => ((h.upon fun h => h.dpdCapStop).other rfl rfl : s.SlotKept (State.setDpdJob _ c none)).set
    · exact h
  exact (h3.upon fun h => h.count.set.raise).dpdLap.dpdNote

theorem dpdLeave {p : Nat} (h : s.SlotKept t) : s.SlotKept (t.dpdLeave p) :=
  .ite h.dpdResult <| h.except fun h => .ite h.set.dpdResult h.dpdResult

/-! ### The boundary -/

/-- Once the path is cleared, what a boundary lets act on it stays within the frame. -/
theorem boundaryClear_cleared (s : State) (n : Nat) : (s.setPath n PathSt.cleared).SlotKept (s.boundaryClear n) := by
  unfold State.boundaryClear
  extract_lets dest tx rx t1 t2 t3
  have h1 : (s.setPath n PathSt.cleared).SlotKept t1 := .refl _
  have h3 : (s.setPath n PathSt.cleared).SlotKept t3 := (h1.upon fun h => h.forcingChanged).upon fun h => h.rxRetired
  clear_value dest
  cases dest with
  | some b => exact .ite h3.withdrawNow.dpdLeave h3.withdrawNow.fgNext
  | none => exact h3

theorem boundaryClear (h : s.SlotKept t) : s.SlotKept (t.boundaryClear n) :=
  (h.setPath fun _ _ => rfl).trans (boundaryClear_cleared t n)

theorem patternStep (h : s.SlotKept t) : s.SlotKept (t.patternStep g) := h.foldl fun h => h.upon fun h => h.goPath

theorem boundaryCheck (h : s.SlotKept t) : s.SlotKept (t.boundaryCheck g) := h.foldl fun h => h.upon fun h => h.checkReady

end State.SlotKept

end Sys2Proof.Machine
end

section
/-! PROOFS. Slots, turn-rounds and the switch outputs (O16). -/

namespace Sys2Proof.Machine

variable {s t : State} {g n m : Nat}

/-! ### What a slot boundary ends -/

/-- A slot boundary starts: nothing is reported or moved in the new slot, and SLOT_NOW takes its index. -/
def State.slotOpened (s : State) (g : Nat) : State :=
  (s.setOct g (fun o => { o with reported := false, moved := false })).set (OCTET.SLOT_NOW g) (if s.mode = 5 then s.slotIndex s.tb else 0)

theorem slotBoundary_at (hr : s.tbRun = true) (hb : s.isBoundary s.tb = true) (g : Nat) :
    s.slotBoundary g =
      (((octPaths g).foldl (fun s n => s.boundaryClear n) (s.slotOpened g)).patternStep g).boundaryCheck g := by
  rw [State.slotBoundary, if_neg (by simp [hr]), if_pos hb]
  rfl

/-- No withdrawal or retirement of the path waits for a slot boundary. -/
def PathSt.still (p : PathSt) : Bool := p.wdrTo.isNone && !p.retTx && !p.retRx

theorem boundaryClear_still (h : (s.path n).still = true) : s.boundaryClear n = s.setPath n PathSt.cleared := by
  simp only [PathSt.still, Bool.and_eq_true, Option.isNone_iff_eq_none, Bool.not_eq_true'] at h
  obtain ⟨⟨hw, htx⟩, hrx⟩ := h
  simp only [State.boundaryClear, hw, htx, hrx, Bool.false_eq_true, if_false]
  rfl

/-- The state with the paths `ns` cleared. -/
def State.clearedPaths (s : State) (ns : List Nat) : State := ns.foldl (fun s n => s.setPath n PathSt.cleared) s

theorem clearedPaths_eq (s : State) (ns : List Nat) : s.clearedPaths ns = { s with paths := (s.clearedPaths ns).paths } := by
  induction ns generalizing s with
  | nil => rfl
  | cons n ns ih => exact ih (s.setPath n PathSt.cleared)

theorem foldl_boundaryClear_still {ns : List Nat} (h : ∀ n ∈ ns, (s.path n).still = true) :
    ns.foldl (fun s n => s.boundaryClear n) s = s.clearedPaths ns := by
  induction ns generalizing s with
  | nil => rfl
  | cons n ns ih =>
    obtain ⟨hn, hns⟩ := List.forall_mem_cons.1 h
    rw [List.foldl_cons, boundaryClear_still hn]
    refine ih fun m hm => ?_
    rcases path_setPath_cases s n PathSt.cleared m with e | e <;> rw [e]
    · exact hns m hm
    · rfl

theorem path_clearedPaths_cases (s : State) (ns : List Nat) (m : Nat) :
    (s.clearedPaths ns).path m = s.path m ∨ (s.clearedPaths ns).path m = (s.path m).cleared := by
  induction ns generalizing s with
  | nil => exact .inl rfl
  | cons n ns ih =>
    show ((s.setPath n PathSt.cleared).clearedPaths ns).path m = _ ∨ ((s.setPath n PathSt.cleared).clearedPaths ns).path m = _
    rcases ih (s.setPath n PathSt.cleared) with e | e <;> rcases path_setPath_cases s n PathSt.cleared m with e' | e' <;> rw [e, e']
    · exact .inl rfl
    · exact .inr rfl
    · exact .inr rfl
    · exact .inr rfl

theorem path_clearedPaths {ns : List Nat} (h : m ∈ ns) : (s.clearedPaths ns).path m = (s.path m).cleared := by
  induction ns generalizing s with
  | nil => exact absurd h List.not_mem_nil
  | cons n ns ih =>
    show ((s.setPath n PathSt.cleared).clearedPaths ns).path m = _
    by_cases hm : m = n
    · subst hm
      have hs := path_setPath_fixed (s := s) (n := m) (f := PathSt.cleared) rfl
      rcases path_clearedPaths_cases (s.setPath m PathSt.cleared) ns m with e | e <;> rw [e, hs]
      rfl
    · rw [ih ((List.mem_cons.1 h).resolve_left hm), path_setPath_other _ hm]

/-- Outside M5 no path changes its state at a boundary. -/
theorem patternStep_idle (h : s.mode ≠ 5) (g : Nat) : s.patternStep g = s :=
  List.foldlRecOn (motive := fun u => u = s) _ _ rfl fun u hu n _ => by rw [hu]; exact if_neg fun hc => h hc.1

/-- A path whose driver is off is not checked. -/
theorem boundaryCheck_idle (h : ∀ n ∈ octPaths g, (s.path n).drv = false) : s.boundaryCheck g = s :=
  List.foldlRecOn (motive := fun u => u = s) _ _ rfl fun u hu n hn => by rw [hu, h n hn]; rfl

/-- A boundary outside M5 at which no path has anything to do but to be cleared. -/
theorem slotBoundary_still (hr : s.tbRun = true) (hb : s.isBoundary s.tb = true) (hm : s.mode ≠ 5)
    (hp : ∀ n ∈ octPaths g, (s.path n).drv = false ∧ (s.path n).still = true) :
    s.slotBoundary g = (s.slotOpened g).clearedPaths (octPaths g) := by
  have hmode : ((s.slotOpened g).clearedPaths (octPaths g)).mode ≠ 5 := by
    rw [clearedPaths_eq]
    show (s.slotOpened g).get DEVICE.MODE ≠ 5
    rw [State.slotOpened, get_set_other _ _ (slotNow_ne rfl g).symm]
    exact hm
  have hdrv : ∀ n ∈ octPaths g, (((s.slotOpened g).clearedPaths (octPaths g)).path n).drv = false := fun n hn => by
    rw [path_clearedPaths hn]
    exact (hp n hn).1
  rw [slotBoundary_at hr hb, foldl_boundaryClear_still (s := s.slotOpened g) fun n hn => (hp n hn).2, patternStep_idle hmode,
    boundaryCheck_idle hdrv]

theorem slotBoundary_off (hb : s.isBoundary s.tb = false) (hm : s.mode ≠ 5) (g : Nat) : s.slotBoundary g = s := by
  simp [State.slotBoundary, hb, hm]

theorem slotIndex_lt (s : State) (at_ : Nat) : s.slotIndex at_ < 32 := by
  simp only [State.slotIndex, State.inPattern, slotTicks, patternTicks]
  omega

/-- A step of a fold that brings about a property, which every other step keeps. -/
theorem foldl_brings {α : Type} {p : State → Prop} {f : State → α → State} {as : List α} {a : α} (ha : a ∈ as)
    (hs : ∀ u, p (f u a)) (hk : ∀ u b, p u → p (f u b)) : p (as.foldl f s) := by
  induction as generalizing s with
  | nil => exact absurd ha List.not_mem_nil
  | cons b as ih =>
    by_cases hmem : a ∈ as
    · exact ih hmem
    · obtain rfl : a = b := (List.mem_cons.1 ha).resolve_right hmem
      exact List.foldlRecOn (motive := p) as f (hs s) fun u hu c _ => hk u c hu

theorem boundaryClear_settled (s : State) (n : Nat) : ((s.boundaryClear n).path n).settled = true :=
  (State.SlotKept.boundaryClear_cleared s n).settled n (by rw [path_setPath_fixed rfl]; rfl)

/-- After a boundary nothing waits for one on the paths of the octet. -/
theorem slotBoundary_settled (hr : s.tbRun = true) (hb : s.isBoundary s.tb = true) (hn : n ∈ octPaths g) :
    ((s.slotBoundary g).path n).settled = true := by
  have hclear : (((octPaths g).foldl (fun s n => s.boundaryClear n) (s.slotOpened g)).path n).settled = true :=
    foldl_brings (p := fun u => (u.path n).settled = true) hn (fun u => boundaryClear_settled u n) fun u m hu =>
      (State.SlotKept.refl u).boundaryClear.settled n hu
  rw [slotBoundary_at hr hb]
  exact (State.SlotKept.refl _).patternStep.boundaryCheck.settled n hclear

/-- A boundary leaves SLOT_NOW as the slot that starts shows it. -/
theorem slotBoundary_kept (hr : s.tbRun = true) (hb : s.isBoundary s.tb = true) (g : Nat) :
    (s.slotOpened g).SlotKept (s.slotBoundary g) := by
  rw [slotBoundary_at hr hb]
  exact ((State.SlotKept.refl _).foldl fun h => h.boundaryClear).patternStep.boundaryCheck

theorem slotOpened_slotNow (hm : s.mode = 5) (g : Nat) : (s.slotOpened g).get (OCTET.SLOT_NOW g) = s.slotIndex s.tb := by
  rw [State.slotOpened, if_pos hm, get_set_same]
  exact trunc_of_lt (slotIndex_lt s s.tb)

/-! ### The turn-round -/

theorem turnDriverDue_due (h : (s.path n).st = .turn) (hd : (s.path n).drvDone = false) (ht : (s.path n).t1 + 640 ≤ s.ao) :
    s.turnDriverDue n = s.turnDriver n := by
  simp [State.turnDriverDue, h, hd, ht]

theorem turnSettleDue_due (h : (s.path n).st = .turn) (ht : (s.path n).t1 + 1280 ≤ s.ao) :
    s.turnSettleDue n = s.turnSettle n := by
  simp [State.turnSettleDue, h, ht]

/-- The path takes its target state, in force from now on. -/
theorem turnSettle_done (hd : (s.path n).drvDone = true) :
    s.turnSettle n = ((s.setPath n (fun p => { p with st := (s.path n).tgt, left := (s.path n).tgt })).entered n
      (s.path n).tgt).checkReady n (s.path n).tgt := by
  rw [State.turnSettle, if_pos hd]

/-- A path whose driver is to carry no signal is not suppressed. -/
theorem checkReady_quiet {q : PState} (h : q.carries = false) : s.checkReady n q = s := if_pos (.inl h)

theorem entered_quiet {q : PState} (h : q = .tx ∨ q = .off) :
    s.entered n q = (s.setPath n (fun p => { p with since := s.tb })).ovlDrop n := by
  rcases h with rfl | rfl <;> rfl

/-! ### Suppression -/

/-- The numbers of the fields that a report of a suppressed slot changes (R227). -/
def suppKeys (g : Nat) : List Nat :=
  [(OCTET.SUPP_TB_LO g).key, (OCTET.SUPP_TB_HI g).key, (OCTET.SUPP_CAUSE g).key, (OCTET.SUPP_CNT g).key] ++ evKeys (0x090 + g) ++ logKeys

theorem SameRegs.reportSupp {ks : List Nat} {c : Nat} (h : SameRegs ks s t) (hk : ∀ k ∈ suppKeys g, k ∈ ks) :
    SameRegs ks s (t.reportSupp g c) := by
  simp only [suppKeys, List.forall_mem_append, List.forall_mem_cons, List.not_mem_nil, false_imp_iff, implies_true, and_true] at hk
  obtain ⟨⟨⟨hlo, hhi, hcause, hcnt⟩, hev⟩, hlog⟩ := hk
  have hl : ERL1.EVT_LOST_CNT.key ∈ ks := hev _ (by simp [evKeys])
  unfold State.reportSupp
  extract_lets start t1 t2 t3 t4 t5
  have h1 : SameRegs ks s t1 := h.of_regs rfl
  have h2 : SameRegs ks s t2 := h1.set64 hlo hhi
  have h4 : SameRegs ks s t4 := (h2.set hcause).count hcnt
  split
  · exact h
  · exact (h4.raiseLog hev hlog).queueEvt hl

theorem reportSupp_pathUnits (s : State) (g c : Nat) : (s.reportSupp g c).pathUnits = s.pathUnits := by
  unfold State.reportSupp
  extract_lets start t1 t2 t3 t4 t5
  have h2 : t2.pathUnits = s.pathUnits := (set_pathUnits ..).trans (set_pathUnits ..)
  have h4 : t4.pathUnits = t2.pathUnits := (set_pathUnits ..).trans (set_pathUnits ..)
  have h5 : t5.pathUnits = t4.pathUnits := raiseLog_pathUnits ..
  split
  · rfl
  · exact (queueEvt_pathUnits ..).trans (h5.trans (h4.trans h2))

/-- The readiness check at most suppresses the path and reports that. -/
theorem checkReady_cases (s : State) (n : Nat) (q : PState) :
    s.checkReady n q = s ∨ ∃ c, s.checkReady n q = (s.setPath n (fun p => { p with supp := c })).reportSupp (n / 8) c := by
  unfold State.checkReady
  split
  · exact .inl rfl
  · dsimp only
    split
    · exact .inl rfl
    · exact .inr ⟨_, rfl⟩

/-- The readiness check leaves the state of its path, memory, and all registers but the report's. -/
theorem checkReady_keeps (s : State) (n : Nat) (q : PState) :
    ((s.checkReady n q).path n).st = (s.path n).st ∧ ((s.checkReady n q).path n).left = (s.path n).left ∧
      (s.checkReady n q).mem = s.mem ∧ SameRegs (suppKeys (n / 8)) s (s.checkReady n q) := by
  rcases checkReady_cases s n q with e | ⟨c, e⟩ <;> rw [e]
  · exact ⟨rfl, rfl, rfl, .refl s⟩
  · have hu := reportSupp_pathUnits (s.setPath n (fun p => { p with supp := c })) (n / 8) c
    simp only [State.pathUnits, Prod.mk.injEq] at hu
    obtain ⟨hp, -, hm⟩ := hu
    have hpath : ∀ u : State, u.paths = (s.setPath n (fun p => { p with supp := c })).paths →
        (u.path n).st = (s.path n).st ∧ (u.path n).left = (s.path n).left := fun u hu => by
      have hun : u.path n = (s.setPath n (fun p => { p with supp := c })).path n := by simp only [State.path, hu]
      rw [hun]
      rcases path_setPath_cases s n (fun p => { p with supp := c }) n with e' | e' <;> rw [e'] <;> exact ⟨rfl, rfl⟩
    obtain ⟨hst, hleft⟩ := hpath _ hp
    have hr : SameRegs (suppKeys (n / 8)) s (s.setPath n (fun p => { p with supp := c })) := (SameRegs.refl s).of_regs rfl
    exact ⟨hst, hleft, hm, hr.reportSupp fun _ hk => hk⟩

/-! ### The statement -/

theorem oct_setOct_same {f : OctSt → OctSt} (h : g < s.octs.length) : (s.setOct g f).oct g = f (s.oct g) :=
  Sys2Proof.getD_upd_same f {} h

/-- Outside M5 a boundary clears the paths of its octet, and SLOT_NOW (R209, R226). -/
theorem exec_slotBoundary_still (hl : g < s.octs.length) (hr : s.tbRun = true) (hb : s.isBoundary s.tb = true) (hm : s.mode ≠ 5)
    (hp : ∀ n ∈ octPaths g, (s.path n).drv = false ∧ (s.path n).still = true) :
    ∃ t : State, exec (.slotBoundary g) s = .next t ∧ t.get (OCTET.SLOT_NOW g) = 0 ∧ (t.oct g).reported = false ∧
      (t.oct g).moved = false ∧
      (octPaths g).all (fun n => (t.path n).supp == 0 && (t.path n).muteToSlot == false && (t.path n).st == (s.path n).st) = true ∧
      t.mem = s.mem ∧ SameRegs [(OCTET.SLOT_NOW g).key] s t := by
  have he := slotBoundary_still hr hb hm hp
  have ho : (s.slotOpened g).oct g = { s.oct g with reported := false, moved := false } := oct_setOct_same hl
  refine ⟨_, by rw [exec_slotBoundary, execSlotBoundary, he], ?_⟩
  have hpath : ∀ n ∈ octPaths g, ((s.slotOpened g).clearedPaths (octPaths g)).path n = (s.path n).cleared := fun n hn =>
    path_clearedPaths (s := s.slotOpened g) hn
  have hall : (octPaths g).all (fun n => (((s.slotOpened g).clearedPaths (octPaths g)).path n).supp == 0 &&
      (((s.slotOpened g).clearedPaths (octPaths g)).path n).muteToSlot == false &&
      (((s.slotOpened g).clearedPaths (octPaths g)).path n).st == (s.path n).st) = true :=
    List.all_eq_true.2 fun n hn => by simp [hpath n hn, PathSt.cleared]
  rw [clearedPaths_eq] at hall ⊢
  refine ⟨?_, congrArg OctSt.reported ho, congrArg OctSt.moved ho, hall, rfl, ?_⟩
  · show (s.slotOpened g).get _ = 0
    rw [State.slotOpened, if_neg hm, get_set_same]
    rfl
  · exact ((SameRegs.refl s).of_regs rfl |>.set (List.mem_singleton_self _) : SameRegs _ s (s.slotOpened g)).of_regs rfl

/-- In M5 a boundary shows the slot of the pattern, and lets what waits for it act (R210, R226). -/
theorem exec_slotBoundary_pattern (hr : s.tbRun = true) (hb : s.isBoundary s.tb = true) (hm : s.mode = 5) :
    ∃ t : State, exec (.slotBoundary g) s = .next t ∧ t.get (OCTET.SLOT_NOW g) = s.slotIndex s.tb ∧ t.tb = s.tb ∧ t.mem = s.mem ∧
      (octPaths g).all (fun n => !(t.path n).muteToSlot && !(t.path n).retTx && !(t.path n).retRx) = true :=
  have hk := slotBoundary_kept hr hb g
  ⟨_, rfl, (hk.slot g).trans (slotOpened_slotNow hm g), hk.tb, hk.mem,
    List.all_eq_true.2 fun _ hn => slotBoundary_settled hr hb hn⟩

/-- A turn-round to RX settles: the path receives from now on (R214). -/
theorem turnSettle_rx (hd : (s.path n).drvDone = true) (hq : (s.path n).tgt = .rx) :
    s.turnSettle n = (s.setPath n (fun p => { p with st := .rx, left := .rx })).setPath n (fun p => { p with since := s.tb }) := by
  rw [turnSettle_done hd, hq, checkReady_quiet rfl]
  rfl

theorem ovlDrop_shown (s : State) (n : Nat) :
    (s.ovlDrop n).get (RXPATH.OVL_ACT n) = (if s.on (RXPATH.OVL_FORCE n) then 1 else 0) ∧
      (s.ovlDrop n).get (RXPATH.ATT_NOW n) = (if s.on (RXPATH.OVL_FORCE n) then 24 else 0) := by
  have hne : (RXPATH.ATT_NOW n).key ≠ (RXPATH.OVL_ACT n).key ∧ (RXPATH.OVL_FORCE n).key ≠ (RXPATH.ATT_NOW n).key := by
    simp only [Loc.key, RXPATH.ATT_NOW, RXPATH.OVL_ACT, RXPATH.OVL_FORCE]
    omega
  have hf : ∀ v, (s.set (RXPATH.ATT_NOW n) v).on (RXPATH.OVL_FORCE n) = s.on (RXPATH.OVL_FORCE n) := fun v => by
    rw [State.on, get_set_other _ _ hne.2, State.on]
  simp only [State.ovlDrop, hf, get_set_same, get_set_other _ _ hne.1]
  split <;> exact ⟨rfl, rfl⟩

/-- The fields of a receive page are not among those of a report. -/
theorem rxKey_not_mem_suppKeys (hn : n < 64) {l : Loc} (hp : l.page = rxPage n) (ho : l.off = 0x050) (hl : l.lo < 32) :
    l.key ∉ suppKeys (n / 8) := by
  have hk : l.key = (0x010 + n) * 32768 + 640 + l.lo := by
    rw [Loc.key, hp, ho, rxPage]
    omega
  have hlog : ∀ k ∈ logKeys, 0x0A0 * 32768 ≤ k := by decide
  simp only [suppKeys, evKeys, List.mem_append, List.mem_cons, List.not_mem_nil, or_false, not_or, Loc.key, OCTET.SUPP_TB_LO,
    OCTET.SUPP_TB_HI, OCTET.SUPP_CAUSE, OCTET.SUPP_CNT, HDR.EVT, ERL1.EVT_LOST_CNT] at hk ⊢
  refine ⟨?_, fun h => ?_⟩
  · omega
  · have := hlog _ h
    omega

/-- A turn-round to TX or OFF settles: the path takes the state, and the overload attenuator is released (R115, R214). -/
theorem exec_turnRoundSettled_left (hn : n < 64) (hl : s.paths.length = 64) (h : (s.path n).st = .turn)
    (hd : (s.path n).drvDone = true) (ht : (s.path n).t1 + 1280 ≤ s.ao) (hq : (s.path n).tgt = .tx ∨ (s.path n).tgt = .off) :
    ∃ t : State, exec (.turnRoundSettled n) s = .next t ∧ (t.path n).st = (s.path n).tgt ∧ (t.path n).left = (s.path n).tgt ∧
      t.get (RXPATH.OVL_ACT n) = (if s.on (RXPATH.OVL_FORCE n) then 1 else 0) ∧
      t.get (RXPATH.ATT_NOW n) = (if s.on (RXPATH.OVL_FORCE n) then 24 else 0) ∧ t.mem = s.mem := by
  refine ⟨_, by rw [exec_turnRoundSettled, execTurnRoundSettled, turnSettleDue_due h ht, turnSettle_done hd, entered_quiet hq], ?_⟩
  generalize hu : (s.setPath n (fun p => { p with st := (s.path n).tgt, left := (s.path n).tgt })) = u
  generalize hv : u.setPath n (fun p => { p with since := u.tb }) = v
  have hpath : (v.path n).st = (s.path n).tgt ∧ (v.path n).left = (s.path n).tgt := by
    have hu' : n < u.paths.length := by rw [← hu]; exact (length_upd ..).symm ▸ (hl ▸ hn)
    rw [← hv, path_setPath_same hu', ← hu, path_setPath_same (hl ▸ hn)]
    exact ⟨rfl, rfl⟩
  have hmem : v.mem = s.mem := by rw [← hv, ← hu]; rfl
  have hreg : v.on (RXPATH.OVL_FORCE n) = s.on (RXPATH.OVL_FORCE n) := by rw [← hv, ← hu]; rfl
  obtain ⟨hact, hatt⟩ := ovlDrop_shown v n
  obtain ⟨hst, hleft, hm, hr⟩ := checkReady_keeps (v.ovlDrop n) n (s.path n).tgt
  refine ⟨hst.trans hpath.1, hleft.trans hpath.2, ?_, ?_, hm.trans hmem⟩
  · rw [hr _ (rxKey_not_mem_suppKeys hn rfl rfl (by simp [RXPATH.OVL_ACT])), hact, hreg]
  · rw [hr _ (rxKey_not_mem_suppKeys hn rfl rfl (by simp [RXPATH.ATT_NOW])), hatt, hreg]

/-- Settles O16: outside M5 a boundary clears paths alone, in M5 it stays within `State.SlotKept`, and each instant of a turn-round
takes the one branch that its target names. -/
theorem slots : Obligations.Slots := by
  unfold Obligations.Slots
  refine ⟨?_, ?_, ?_, ?_, ?_, ?_, ?_, ?_⟩
  · intro s g hg hl hr hb hm hp
    refine exec_slotBoundary_still (hl ▸ hg) hr hb hm fun n hn => ?_
    simpa [PathSt.still, and_assoc] using List.all_eq_true.1 hp n hn
  · exact fun s g _ hr hb hm => exec_slotBoundary_pattern hr hb hm
  · intro s g _ hb hm
    rw [exec_slotBoundary, execSlotBoundary, slotBoundary_off hb hm]
  · intro s n _ h hd ht ha hc
    rw [exec_turnDriverSwitch, execTurnDriverSwitch, turnDriverDue_due h hd ht, State.turnDriver, if_pos ⟨ha, hc⟩]
  · intro s n _ h hd ht hc
    rw [exec_turnDriverSwitch, execTurnDriverSwitch, turnDriverDue_due h hd ht, State.turnDriver,
      if_neg (fun ⟨ha, hc'⟩ => by rcases hc with hc | hc <;> simp_all)]
  · intro s n _ _ h hd ht hq
    rw [exec_turnRoundSettled, execTurnRoundSettled, turnSettleDue_due h ht, turnSettle_rx hd hq]
  · exact fun s n hn hl h hd ht hq => exec_turnRoundSettled_left hn hl h hd ht hq
  · intro s g he
    rw [exec_trswChange, execTrswChange, State.trswChange, if_pos he]

end Sys2Proof.Machine
end

section
/-! PROOFS. The octet queues and their actions (O17). The sequencer reads a due entry, takes it from its queue and judges it: one
lemma for each of its verdicts, which every command of the timeline cites. -/

namespace Sys2Proof.Machine

variable {s t : State} {c : Cls} {g n m : Nat} {e : QEntry} {l : Loc}

/-! ### The fields that follow a queue -/

/-- FILL and NEXT_TB of a queue follow it, and no other register does (R217). -/
theorem queueNote_other
    (h : l.key ≠ (TIMELINE1.FILL g).key ∧ l.key ≠ (TIMELINE1.NEXT_TB_LO g).key ∧ l.key ≠ (TIMELINE1.NEXT_TB_HI g).key) :
    (s.queueNote g).get l = s.get l := by
  obtain ⟨hfill, hlo, hhi⟩ := h
  rw [State.queueNote, State.set64, get_set_other _ _ hhi, get_set_other _ _ hlo, get_set_other _ _ hfill]

/-- A field before the page of the queues. -/
theorem queueNote_before (h : l.key < 0x0A9 * 32768) : (s.queueNote g).get l = s.get l := by
  refine queueNote_other ?_
  simp only [Loc.key, TIMELINE1.FILL, TIMELINE1.NEXT_TB_LO, TIMELINE1.NEXT_TB_HI] at h ⊢
  omega

theorem queueNote_pending (s : State) (g pg : Nat) : (s.queueNote g).on (HDR.PENDING pg) = s.on (HDR.PENDING pg) := by
  rw [State.on, queueNote_other, State.on]
  simp only [Loc.key, TIMELINE1.FILL, TIMELINE1.NEXT_TB_LO, TIMELINE1.NEXT_TB_HI, HDR.PENDING]
  omega

/-- The head of a queue is taken. -/
def State.dequeued (s : State) (g : Nat) : State := (s.setOct g (fun o => { o with queue := o.queue.tail })).queueNote g

theorem dequeued_mode (s : State) (g : Nat) : (s.dequeued g).mode = s.mode := queueNote_before (by decide)

theorem dequeued_malformed (s : State) (g : Nat) (e : QEntry) : (s.dequeued g).malformed e = s.malformed e := by
  have hepoch : (s.dequeued g).epoch = s.epoch := by
    have h : ∀ m ∈ [TIMELINE0.EPOCH_LO, TIMELINE0.EPOCH_HI], (s.dequeued g).get m = s.get m := fun m hm =>
      queueNote_before ((by decide : ∀ m ∈ [TIMELINE0.EPOCH_LO, TIMELINE0.EPOCH_HI], m.key < 0x0A9 * 32768) m hm)
    rw [State.epoch, h _ (by simp), h _ (by simp), State.epoch]
  simp only [State.malformed, dequeued_mode, State.isBoundary, State.inSlot, hepoch]

theorem dequeued_pending (s : State) (g pg : Nat) : (s.dequeued g).on (HDR.PENDING pg) = s.on (HDR.PENDING pg) :=
  queueNote_pending _ g pg

/-! ### The verdicts on a due entry (R220, R221, R224, R439) -/

/-- Both code words of an entry can be read, and neither holds an error. -/
def State.readable (s : State) (g : Nat) (e : QEntry) : Bool := (entryWords g e).all (fun i => s.eccOf 7 i == 0) && !s.isolated 7

theorem entryRead_readable (h : s.readable g e = true) : s.entryRead g e = (true, s) := by
  simp only [State.readable, entryWords, List.all_cons, List.all_nil, Bool.and_true, Bool.and_eq_true, beq_iff_eq,
    Bool.not_eq_true'] at h
  obtain ⟨⟨hlo, hhi⟩, hi⟩ := h
  simp [State.entryRead, entryWords, State.eccReadWord, hi, hlo, hhi]

variable {code : Nat} {eff : QEntry → State → State}

theorem runEntry_unread (hd : s.dueEntry g code = some e) (hr : (s.entryRead g e).1 = false) :
    s.runEntry g code eff = ((s.entryRead g e).2.dequeued g).dropAction g e.code e.t 3 := by
  rw [State.runEntry, hd]
  exact if_pos hr

/-- What becomes of an entry that can be read. -/
theorem runEntry_readable (hd : s.dueEntry g code = some e) (hr : s.readable g e = true) :
    s.runEntry g code eff =
      if e.code ≠ 4 ∧ e.t < s.tb then (s.dequeued g).dropAction g e.code e.t 1
      else if s.malformed e then (s.dequeued g).dropAction g e.code e.t 3
      else if e.code ≠ 4 ∧ actPermitted e s.mode = false then (s.dequeued g).dropAction g e.code e.t 2
      else eff e (s.dequeued g) := by
  rw [State.runEntry, hd]
  dsimp only
  rw [entryRead_readable hr, if_neg nofun, ← dequeued_malformed s g, ← dequeued_mode s g]
  rfl

theorem runEntry_late (hd : s.dueEntry g code = some e) (hr : s.readable g e = true) (h4 : e.code ≠ 4) (ht : e.t < s.tb) :
    s.runEntry g code eff = (s.dequeued g).dropAction g e.code e.t 1 := by
  rw [runEntry_readable hd hr, if_pos ⟨h4, ht⟩]

theorem runEntry_malformed (hd : s.dueEntry g code = some e) (hr : s.readable g e = true) (ht : e.code = 4 ∨ s.tb ≤ e.t)
    (hm : s.malformed e = true) : s.runEntry g code eff = (s.dequeued g).dropAction g e.code e.t 3 := by
  rw [runEntry_readable hd hr, if_neg (by omega), if_pos hm]

theorem runEntry_barred (hd : s.dueEntry g code = some e) (hr : s.readable g e = true) (h4 : e.code ≠ 4) (ht : s.tb ≤ e.t)
    (hm : s.malformed e = false) (hp : actPermitted e s.mode = false) :
    s.runEntry g code eff = (s.dequeued g).dropAction g e.code e.t 2 := by
  rw [runEntry_readable hd hr, if_neg (by omega), if_neg (by simp [hm]), if_pos ⟨h4, hp⟩]

theorem runEntry_performed (hd : s.dueEntry g code = some e) (hr : s.readable g e = true) (hm : s.malformed e = false)
    (hp : actPermitted e s.mode = true) (ht : s.tb ≤ e.t) : s.runEntry g code eff = eff e (s.dequeued g) := by
  rw [runEntry_readable hd hr, if_neg (by omega), if_neg (by simp [hm]), if_neg (by simp [hp])]

/-- A COMMIT is performed however late it is, and in every mode. -/
theorem runEntry_commit (hd : s.dueEntry g code = some e) (hr : s.readable g e = true) (hm : s.malformed e = false)
    (h4 : e.code = 4) : s.runEntry g code eff = eff e (s.dequeued g) := by
  rw [runEntry_readable hd hr, if_neg (by simp [h4]), if_neg (by simp [hm]), if_neg (by simp [h4])]

/-! ### COMMIT (R47, R48) -/

/-- The copies of a push leave every queue. -/
def State.pushGone (s : State) (id : Nat) : State :=
  (List.range 8).foldl (fun s o => (s.setOct o (fun x => { x with queue := x.queue.filter (fun y => decide (y.id ≠ id)) })).queueNote o) s

theorem pushGone_pending (s : State) (id pg : Nat) : (s.pushGone id).on (HDR.PENDING pg) = s.on (HDR.PENDING pg) :=
  List.foldlRecOn (motive := fun u : State => u.on (HDR.PENDING pg) = s.on (HDR.PENDING pg)) _ _ rfl fun _ hu o _ =>
    (queueNote_pending _ o pg).trans hu

theorem tlCommit_requests (h : s.on (HDR.PENDING (e.arg % 512)) = false) :
    s.tlCommit e = (s.pushGone e.id).commitReq (e.arg % 512) :=
  if_neg fun hp => Bool.false_ne_true (h.symm.trans ((pushGone_pending ..).symm.trans hp))

theorem tlCommit_refused (h : s.on (HDR.PENDING (e.arg % 512)) = true) :
    s.tlCommit e = (s.pushGone e.id).refuse e.cls (regAddr (e.arg % 512) 0x020) stPENDING := if_pos ((pushGone_pending ..).trans h)

/-! ### WINDOW (R222) -/

theorem tlWindow_positive (h : 0 < e.arg % 2 ^ 24) (s : State) (g : Nat) :
    s.tlWindow g e = (entryPaths g e.mask).foldl (fun s n =>
      s.actPath n e (fun p => { p with win := some (e.t + 16 * (e.arg % 2 ^ 24)), shot := none, held := false })) s :=
  if_neg (by omega)

/-! ### Pushes (R218, R219) -/

/-- A push that no check refuses is made and answered at once. -/
theorem arrive_enq {data : Nat} (hd : s.deaf = false) (hw : s.wordRefusal c 0x0A8 0x054 (data % 2 ^ 32) = none)
    (hp : s.partRefusal c data TIMELINE0.ENQ_CODE = none) :
    s.arrive c 0 0x0A8 0x054 data [TIMELINE0.ENQ_CODE] = (none, (s.enqAct c data).reply c [] stOK) := by
  have hcodes : [TIMELINE0.ENQ_CODE].filterMap (s.partRefusal c data) = [] := by simp [hp]
  have hgood : [TIMELINE0.ENQ_CODE].filter (fun l => (s.partRefusal c data l).isNone) = [TIMELINE0.ENQ_CODE] := by simp [hp]
  have hjoins : [TIMELINE0.ENQ_CODE].filter (fun l => l != TIMELINE0.ENQ_CODE && !s.triggerMerges c 0 l) = [] := by simp
  unfold State.arrive
  rw [hw, hcodes, hgood]
  simp only [hd, hjoins, Bool.false_eq_true, if_false, if_true]
  rfl

theorem carry_answered {u : State} {agent pg off data : Nat} {ls : List Loc}
    (h : ({ s with acks := [] } : State).arrive c agent pg off data ls = (none, u)) : s.carry c agent pg off data ls = u := by
  rw [State.carry, h]

theorem exec_enqAct_pushed {act : Nat} (hd : s.deaf = false) (hw : s.wordRefusal c 0x0A8 0x054 (trunc 32 act) = none)
    (hp : s.partRefusal c (trunc 32 act) TIMELINE0.ENQ_CODE = none) :
    exec (.enqAct c act) s = .next ((({ s with acks := [] } : State).enqAct c (trunc 32 act)).reply c [] stOK) :=
  have hmod : trunc 32 act % 2 ^ 32 = trunc 32 act := Nat.mod_mod ..
  congrArg Host.Outcome.next (carry_answered (arrive_enq (s := { s with acks := [] }) hd
    ((wordRefusal_acks s c 0x0A8 0x054 _ []).trans (hmod ▸ hw)) ((partRefusal_acks s c _ _ []).trans hp)))

theorem refuseWrite_octs (s : State) (c : Cls) (a code : Nat) : (s.refuseWrite c a code).octs = s.octs := by
  have h : (s.refuse c a code).octs = s.octs := (congrArg State.octs (refuse_eventless s c a code) :)
  unfold State.refuseWrite
  dsimp only
  split <;> exact h

theorem refuseWrite_mem (s : State) (c : Cls) (a code : Nat) : (s.refuseWrite c a code).mem = s.mem := by
  have h : (s.refuse c a code).mem = s.mem := (congrArg State.mem (refuse_eventless s c a code) :)
  unfold State.refuseWrite
  dsimp only
  split <;> exact h

/-- The answer to a push that meets a full queue (R219). -/
def State.pushRefused (s : State) (c : Cls) : State :=
  ((s.refuseWrite c (regAddr 0x0A8 0x054) stPENDING).raise 0x0A8 EV.TIMELINE0.Q_FULL).reply c [] stPENDING

theorem arrive_enq_full {data : Nat} (hd : s.deaf = false) (hw : s.wordRefusal c 0x0A8 0x054 (data % 2 ^ 32) = none)
    (hp : s.partRefusal c data TIMELINE0.ENQ_CODE = some stPENDING) :
    s.arrive c 0 0x0A8 0x054 data [TIMELINE0.ENQ_CODE] = (none, s.pushRefused c) :=
  arrive_refused (l := TIMELINE0.ENQ_CODE) hd (by decide) hw hp

/-- Such a push raises Q_FULL and changes no queue. -/
theorem pushRefused_shown (s : State) (c : Cls) :
    bitOf ((s.pushRefused c).get (HDR.EVT 0x0A8)) EV.TIMELINE0.Q_FULL = true ∧ (s.pushRefused c).octs = s.octs ∧
      (s.pushRefused c).mem = s.mem ∧ SameRegs (refusalKeys ++ evKeys 0x0A8) s (s.pushRefused c) := by
  have hocts := refuseWrite_octs s c (regAddr 0x0A8 0x054) stPENDING
  have hmem := refuseWrite_mem s c (regAddr 0x0A8 0x054) stPENDING
  have hregs : SameRegs (refusalKeys ++ evKeys 0x0A8) s (s.refuseWrite c (regAddr 0x0A8 0x054) stPENDING) :=
    (SameRegs.refl s).refuseWrite fun _ hk => List.mem_append_left _ hk
  unfold State.pushRefused
  generalize s.refuseWrite c (regAddr 0x0A8 0x054) stPENDING = u at *
  exact ⟨raise_sets u 0x0A8 (by decide), (congrArg State.octs (raise_eventless u 0x0A8 EV.TIMELINE0.Q_FULL) :).trans hocts,
    (raise_mem u 0x0A8 _).trans hmem, (hregs.raise fun _ hk => List.mem_append_right _ hk).reply⟩

theorem exec_enqAct_full {act : Nat} (hd : s.deaf = false) (hw : s.wordRefusal c 0x0A8 0x054 (trunc 32 act) = none)
    (hp : s.partRefusal c (trunc 32 act) TIMELINE0.ENQ_CODE = some stPENDING) :
    exec (.enqAct c act) s = .next (({ s with acks := [] } : State).pushRefused c) :=
  have hmod : trunc 32 act % 2 ^ 32 = trunc 32 act := Nat.mod_mod ..
  congrArg Host.Outcome.next (carry_answered (arrive_enq_full (s := { s with acks := [] }) hd
    ((wordRefusal_acks s c 0x0A8 0x054 _ []).trans (hmod ▸ hw)) ((partRefusal_acks s c _ _ []).trans hp)))

/-! ### FLUSH (R219) -/

theorem trigAct_flush (hg : g < 8) (s : State) (c : Cls) (data at_ : Nat) : s.trigAct c (TIMELINE1.FLUSH g) data at_ = s.flush g := by
  have hpg : (TIMELINE1.FLUSH g).page = 0x0A9 := rfl
  have hne : ∀ m : Loc, m.page ≠ 0x0A9 → TIMELINE1.FLUSH g ≠ m := fun m hm e => hm (e ▸ hpg)
  have hoff : ((TIMELINE1.FLUSH g).off - 0x040) / 16 = g := by
    simp only [TIMELINE1.FLUSH]
    omega
  rw [trigAct_low (by simp [TIMELINE1.FLUSH, HDR.EVT]) (by simp [TIMELINE1.FLUSH]) (by simp [TIMELINE1.FLUSH]; omega)
    (by rw [hpg]; decide)]
  unfold State.lowTrigger
  dsimp only
  iterate 10 rw [if_neg (hne _ (by decide))]
  rw [hpg, if_neg (by decide), if_neg (hne _ (by decide)), if_neg (by decide), if_neg (by decide), if_pos rfl, hoff]

theorem exec_queueFlush_lands (hg : g < 8) (h : s.triggered c (TIMELINE1.FLUSH g) = true) :
    exec (.queueFlush c g) s = .next (s.lands c (TIMELINE1.FLUSH g) [] [fun u => u.flush g]) := by
  have he : TIMELINE1.FLUSH g ≠ TIMELINE0.ENQ_CODE := fun e => absurd (congrArg Loc.page e) (show (0x0A9 : Nat) ≠ 0x0A8 by decide)
  have hl := rowTrig_lands h rfl he (show (0x0A9 : Nat) ≠ 0x0A2 ∧ (0x0A9 : Nat) ≠ 0x0A3 by decide)
    (by rw [trigAct_flush hg]; rfl) (by rw [trigAct_flush hg]; rfl)
  rw [exec_queueFlush, execQueueFlush, hl]
  show Host.Outcome.next ((((s.ripe c _).trigAct c _ 0 s.ao).credit 1 false).reply c [] stOK) = _
  rw [trigAct_flush hg]
  rfl

/-! ### Ends (R222, R223) -/

theorem windowEnd_due {stop : Nat} (h : (s.path n).win = some stop) (ht : stop ≤ s.tb) :
    s.windowEnd n = (s.setPath n (fun p => { p with win := none })).goPath n stop (s.setState n stop) := by
  rw [State.windowEnd, h]
  exact if_pos ht

theorem oneshotEnd_due {stop : Nat} {q : PState} (h : (s.path n).shot = some (stop, q)) (ht : stop ≤ s.tb) :
    s.oneshotEnd n = (s.setPath n (fun p => { p with shot := none })).goPath n stop q := by
  rw [State.oneshotEnd, h]
  exact if_pos ht

theorem trigoutEnd_due {stop : Nat} (h : s.tl.trigEnd = some stop) (ht : stop ≤ s.ao) (he : s.onEdge = true) :
    s.trigoutEnd = { s with tl := { s.tl with trigEnd := none } } := by
  rw [State.trigoutEnd, h]
  exact if_pos ⟨ht, he⟩

/-! ### The statement -/

/-- Settles O17: pushes and FLUSH by the effect of their word, a due entry by its verdict, and each end by its due branch. -/
theorem timelineQueue : Obligations.TimelineQueue := by
  unfold Obligations.TimelineQueue
  refine ⟨?_, ?_, ?_, ?_, ?_, ?_, ?_, ?_, ?_, ?_, ?_, ?_, ?_, ?_, ?_, ?_, ?_, ?_⟩
  · exact fun s c act hd hw hp => exec_enqAct_pushed hd (Option.isNone_iff_eq_none.1 hw) (Option.isNone_iff_eq_none.1 hp)
  · intro s c act hd hw hp
    obtain ⟨hfull, hocts, hmem, hregs⟩ := pushRefused_shown { s with acks := [] } c
    exact ⟨_, exec_enqAct_full hd (Option.isNone_iff_eq_none.1 hw) hp, hfull, rfl, hocts, hmem, hregs⟩
  · exact fun s c g hg h => exec_queueFlush_lands hg h
  · intro s g e _ hd hr hm hp ht _ hpos
    exact congrArg Host.Outcome.next ((runEntry_performed hd hr hm hp ht).trans (tlWindow_positive hpos _ g))
  · exact fun s g e _ hd hr hm hp ht _ => congrArg Host.Outcome.next (runEntry_performed hd hr hm hp ht)
  · exact fun s g e _ hd hr hm hp ht _ => congrArg Host.Outcome.next (runEntry_performed hd hr hm hp ht)
  · intro s g e _ hd hr hm h4 hpend
    exact congrArg Host.Outcome.next ((runEntry_commit hd hr hm h4).trans (tlCommit_requests ((dequeued_pending s g _).trans hpend)))
  · intro s g e _ hd hr hm h4 hpend
    exact congrArg Host.Outcome.next ((runEntry_commit hd hr hm h4).trans (tlCommit_refused ((dequeued_pending s g _).trans hpend)))
  · exact fun s g e _ hd hr hm hp ht _ => congrArg Host.Outcome.next (runEntry_performed hd hr hm hp ht)
  · exact fun s g e _ hd hr hm hp ht _ => congrArg Host.Outcome.next (runEntry_performed hd hr hm hp ht)
  · exact fun s g e _ hd hr hm hp ht _ => congrArg Host.Outcome.next (runEntry_performed hd hr hm hp ht)
  · exact fun s g e _ hd hr hm ht => congrArg Host.Outcome.next (runEntry_malformed hd hr ht hm)
  · exact fun s g e _ hd hr hm hc ht hp => congrArg Host.Outcome.next (runEntry_barred hd hr (by omega) ht hm hp)
  · exact fun s g e _ hd hr h4 ht => congrArg Host.Outcome.next (runEntry_late hd hr h4 ht)
  · exact fun s g e _ hd hr => congrArg Host.Outcome.next (runEntry_unread hd hr)
  · exact fun s n stop _ h ht => congrArg Host.Outcome.next (windowEnd_due h ht)
  · exact fun s n stop q _ h ht => congrArg Host.Outcome.next (oneshotEnd_due h ht)
  · exact fun s stop h ht he => congrArg Host.Outcome.next (trigoutEnd_due h ht he)

end Sys2Proof.Machine
end

section
/-! PROOFS. RFFE sequences (O18). The statement fails at a state that no run reaches: the 15 sequences have their LEN in page 0x0AA,
but a run of a `State` can hold any number, and LEN of sequence 8,184 would be EVT_LOST_CNT of the link. A Register Read whose
event packet is lost counts there, so that the run, whose one command it was, is not over. -/

namespace Sys2Proof.Machine

/-! ### A sequence beyond its page -/

/-- The first command of sequence 8,184, whose LEN has the number of EVT_LOST_CNT. -/
def beyondRun : RffeRun := ⟨8184, 0, 0, true⟩

/-- The command of `beyondRun`, a Register Read, ends on bus 0. RFFE_READ is enabled and sent to the baseband, 32 packets wait, and
one has been lost. -/
def readBeyond : State :=
  { (((State.reset.set (TIMELINE3.TYPE 0) 1).set (HDR.EVT_EN 0x0A8) (2 ^ EV.TIMELINE0.RFFE_READ)).set (HDR.TO_BB 0x0A8) 1).set
      ERL1.EVT_LOST_CNT 1 with
    evtQ := List.replicate 32 (.status 1 0 0)
    tl := { rffe := { runs := [beyondRun], busy := [some 0, none, none, none] } } }

/-- The command is the last of its run, and reads a register on bus 0. -/
theorem readBeyond_last :
    readBeyond.get (TIMELINE3.BUS (readBeyond.cmdIndex beyondRun.seq beyondRun.idx)) = 0 ∧
      readBeyond.get (TIMELINE3.TYPE (readBeyond.cmdIndex beyondRun.seq beyondRun.idx)) = 1 ∧
      readBeyond.get (TIMELINE2.LEN beyondRun.seq) ≤ beyondRun.idx + 1 := by decide +kernel

/-- With the packet lost, LEN reads 2, and the run goes on to its second command. -/
theorem readBeyond_runs : (readBeyond.rffeDone 0 0 false).tl.rffe.runs ≠ [] := by decide +kernel

/-- Refutes O18: in `readBeyond` the end of a run's last command leaves the run in progress. -/
theorem not_rffeAndSleep : ¬ Obligations.RffeAndSleep := by
  unfold Obligations.RffeAndSleep
  intro ⟨_, _, read, _⟩
  obtain ⟨hbus, htype, hlen⟩ := readBeyond_last
  obtain ⟨t, ht, -, hruns, -⟩ := read readBeyond 0 0 0 false beyondRun (by decide) (by decide) (by decide) rfl rfl hbus htype hlen
  obtain rfl : readBeyond.rffeDone 0 0 false = t := by simpa [execRffeCommandDone] using ht
  exact readBeyond_runs hruns

end Sys2Proof.Machine
end

section
/-! PROOFS. Calibration (O19): the RREF check, results, trims, the LO phase, the corrections and array results, each by the state
that it leads to. A result touches the calibration's unit, the fields it names and its event. -/

namespace Sys2Proof.Machine

variable {s t : State} {ks : List Nat} {k p : Nat}

/-! ### RREF (R233) -/

/-- The first check since the entry into M1 finds a deviation of at most 0.5 %. -/
theorem refCheck_passed {d : Int} (h : s.cal.refAt = none) (hd : d.natAbs ≤ 500) :
    s.refCheck d = ((s.setCal fun c => { c with refAt := some s.ao }).seti CAL0.REF_DEV d).set CAL0.REF_OK 1 := by
  simp [State.refCheck, h, hd]

/-- It finds a greater one: REF_FAULT, with its log record. -/
theorem refCheck_failed {d : Int} (h : s.cal.refAt = none) (hd : 500 < d.natAbs) :
    s.refCheck d =
      (((s.setCal fun c => { c with refAt := some s.ao }).seti CAL0.REF_DEV d).set CAL0.REF_OK 0).raiseLog 2 0x0AC EV.CAL0.REF_FAULT := by
  simp [State.refCheck, h, Nat.not_le.2 hd]

/-! ### The end of a kind outside a foreground run (R244, R246) -/

/-- Without a foreground run no path is to be withdrawn or to return. -/
theorem fgNext_none (h : s.cal.fg = []) : s.fgNext = s := by
  unfold State.fgNext
  split
  · rfl
  · simp only [h, List.foldl_nil, List.filter_nil, List.take_nil]

theorem fgMap_none (h : s.cal.fg = []) (f : Nat × Nat → Nat) : s.fgMap f = s := by
  simp only [State.fgMap, h, List.map_nil]
  rw [← h]

theorem fgKindEnd_none (h : s.cal.fg = []) (k p : Nat) : s.fgKindEnd k p = s := by
  rw [State.fgKindEnd, fgMap_none h, fgNext_none h]

/-- The calibration's unit once kind `k` has run on path `p`: its time and temperature are kept, it is not due, and its failures in
a row end. -/
def State.calStamped (s : State) (k p : Nat) : CalSt :=
  { s.cal with
    last := s.cal.last.put (k * 128 + p) (s.ao + 1)
    lastTemp := s.cal.lastTemp.put (k * 128 + p) (s.get (THERMAL.READING (16 + p / 8)))
    due := s.cal.due.put (k * 128 + p) 0
    fails := s.cal.fails.put (kindDir k * 128 + p) 0 }

/-- The kinds that firmware does not run show no DUE. -/
theorem calStamp_eq (h2 : k ≠ 2) (h6 : k ≠ 6) (p : Nat) : s.calStamp k p = s.setCal fun _ => s.calStamped k p := by
  unfold State.calStamp
  dsimp only
  rw [if_neg h2, if_neg h6]
  rfl

/-! ### Results (R234 to R236) -/

theorem sparesOut_none {o : Nat} (h : o % 4 = 0) (k p : Nat) : s.sparesOut k p o = s := if_pos h

/-- A result of a kind that firmware does not run, measured with no fault, whose page neither waits for a commit nor is
being copied, takes effect. -/
theorem calResult_applied {r o : Nat} {v : List Nat} (h8 : k < 8) (h2 : k ≠ 2) (h6 : k ≠ 6) (hp : p < 64)
    (hrun : s.calRunning k p = true) (hok : selectionOk k v = true) (ht : s.tb % 2 = 0) (hr : s.calReason k p r = 0)
    (ho : k = 3 ∨ k = 7 → o % 4 = 0) (hpend : s.on (HDR.PENDING (kindPage k p)) = false)
    (hcopy : s.copying.look (kindPage k p) ≠ s.tb + 1) (hfg : s.cal.fg = []) :
    s.calResult k p v r o = (s.setCal fun _ => s.calStamped k p).calApply ⟨k, p, v⟩ := by
  have hspares : (if (k = 3 ∨ k = 7) ∧ ((0 : Nat) = 0 ∨ (0 : Nat) = 3) then s.sparesOut k p o else s) = s := by
    split
    next h => exact sparesOut_none (ho h.1) k p
    next => rfl
  unfold State.calResult
  rw [if_neg (by simp only [hrun, hok, Bool.true_eq_false, false_or]; omega)]
  dsimp only
  rw [hr, hspares, if_neg (by decide), if_neg (by decide), calStamp_eq h2 h6,
    fgKindEnd_none (s := s.setCal fun _ => s.calStamped k p) hfg, if_neg (by omega), if_neg fun h => hcopy h.1]
  exact if_neg (by simpa using hpend)

/-- While a loop of the path is not ready a result that changes no selection fails with reason 5. -/
theorem calResult_unclocked {r o : Nat} {v : List Nat} (h8 : k < 8) (h3 : k ≠ 3) (h7 : k ≠ 7) (hp : p < 64)
    (hrun : s.calRunning k p = true) (hact : s.act (kindPage k p) = true) (hclk : s.calClocked p = false) (ht : s.tb % 2 = 0) :
    s.calResult k p v r o = s.calFail 5 k p := by
  have hok : selectionOk k v = true := by simp [selectionOk, h3, h7]
  have hr : s.calReason k p r = 5 := by simp [State.calReason, hact, hclk]
  unfold State.calResult
  rw [if_neg (by simp only [hrun, hok, Bool.true_eq_false, false_or]; omega)]
  simp [hr, h3, h7]

theorem calApply_comp (p a b c d : Nat) :
    s.calApply ⟨3, p, [a, b, c, d]⟩ = (s.setRx p fun x => { x with comp := some (a, b, c, d) }).raise 0x0AC EV.CAL0.RES_NEW := rfl

theorem calApply_cell (p a b c d : Nat) :
    s.calApply ⟨7, p, [a, b, c, d]⟩ = (s.setTx p fun x => { x with cell := some (a, b, c, d) }).raise 0x0AC EV.CAL0.RES_NEW := rfl

theorem calApply_offsets (p a b : Nat) :
    s.calApply ⟨4, p, [a, b]⟩ =
      ((s.target (TXPATH.DCT_I p) false p a).target (TXPATH.DCT_Q p) false p b).raise 0x0AC EV.CAL0.RES_NEW := rfl

@[simp] theorem raise_cal (s : State) (pg b : Nat) : (s.raise pg b).cal = s.cal :=
  (congrArg State.cal (raise_eventless s pg b) :)

@[simp] theorem raise_bank (s : State) (pg b : Nat) : (s.raise pg b).bank = s.bank :=
  (congrArg State.bank (raise_eventless s pg b) :)

theorem raise_rxs (s : State) (pg b : Nat) : (s.raise pg b).rxs = s.rxs := (congrArg State.rxs (raise_eventless s pg b) :)

theorem raise_txs (s : State) (pg b : Nat) : (s.raise pg b).txs = s.txs := (congrArg State.txs (raise_eventless s pg b) :)

theorem calStamped_due (s : State) (k p : Nat) : (s.calStamped k p).due.look (k * 128 + p) = 0 := by
  simp [State.calStamped, Store.look_put]

/-- What RES_NEW shows of a result that has taken effect in `u`, of which it has changed no register. -/
theorem resNew_shown {u : State} (hm : u.mem = s.mem) (hr : u.regs = s.regs) :
    bitOf ((u.raise 0x0AC EV.CAL0.RES_NEW).get (HDR.EVT 0x0AC)) EV.CAL0.RES_NEW = true ∧
      (u.raise 0x0AC EV.CAL0.RES_NEW).mem = s.mem ∧ SameRegs (evKeys 0x0AC) s (u.raise 0x0AC EV.CAL0.RES_NEW) :=
  ⟨raise_sets u 0x0AC (by decide), (raise_mem u _ _).trans hm, ((SameRegs.refl s).of_regs hr).raise fun _ hk => hk⟩

/-- An updated unit of a list, where the list has it. -/
theorem getD_upd_or {α : Type} (l : List α) (i : Nat) (f : α → α) (d : α) :
    (upd l i f).getD i d = f (l.getD i d) ∨ l.length ≤ i :=
  (Nat.lt_or_ge i l.length).imp_left (getD_upd_same l f d)

theorem comp_waits (s : State) (p a b c d : Nat) :
    ((s.calApply ⟨3, p, [a, b, c, d]⟩).rx p).comp = some (a, b, c, d) ∨ s.rxs.length ≤ p := by
  refine (getD_upd_or s.rxs p (fun x => { x with comp := some (a, b, c, d) }) {}).imp_left fun h => ?_
  rw [calApply_comp, State.rx, raise_rxs, State.setRx_rxs, h]

theorem cell_waits (s : State) (p a b c d : Nat) :
    ((s.calApply ⟨7, p, [a, b, c, d]⟩).tx p).cell = some (a, b, c, d) ∨ s.txs.length ≤ p := by
  refine (getD_upd_or s.txs p (fun x => { x with cell := some (a, b, c, d) }) {}).imp_left fun h => ?_
  rw [calApply_cell, State.tx, raise_txs, State.setTx_txs, h]

/-- A selection waits, is no longer due, and is shown by RES_NEW. -/
theorem selection_shown (hk : k = 3 ∨ k = 7) (s : State) (p a b c d : Nat) :
    let t := (s.setCal fun _ => s.calStamped k p).calApply ⟨k, p, [a, b, c, d]⟩
    (k = 3 → (t.rx p).comp = some (a, b, c, d) ∨ s.rxs.length ≤ p) ∧
      (k = 7 → (t.tx p).cell = some (a, b, c, d) ∨ s.txs.length ≤ p) ∧
      bitOf (t.get (HDR.EVT 0x0AC)) EV.CAL0.RES_NEW = true ∧ t.cal.due.look (k * 128 + p) = 0 ∧ t.mem = s.mem ∧
      SameRegs (evKeys 0x0AC) s t := by
  have hdue := calStamped_due s k p
  rcases hk with rfl | rfl
  · refine ⟨fun _ => comp_waits _ p a b c d, fun h => absurd h (by decide), ?_⟩
    obtain ⟨hevt, hmem, hregs⟩ := resNew_shown (s := s)
      (u := (s.setCal fun _ => s.calStamped 3 p).setRx p fun x => { x with comp := some (a, b, c, d) }) rfl rfl
    rw [calApply_comp]
    exact ⟨hevt, by rw [raise_cal]; exact hdue, hmem, hregs⟩
  · refine ⟨fun h => absurd h (by decide), fun _ => cell_waits _ p a b c d, ?_⟩
    obtain ⟨hevt, hmem, hregs⟩ := resNew_shown (s := s)
      (u := (s.setCal fun _ => s.calStamped 7 p).setTx p fun x => { x with cell := some (a, b, c, d) }) rfl rfl
    rw [calApply_cell]
    exact ⟨hevt, by rw [raise_cal]; exact hdue, hmem, hregs⟩

/-! ### Digital targets (R235) -/

theorem slewFrom_eq (s : State) (l : Loc) (iq : Bool) (n : Nat) (x : Int) :
    s.slewFrom l iq n x = { s with cal := (s.slewFrom l iq n x).cal } := by
  unfold State.slewFrom
  dsimp only
  split <;> rfl

/-- A target changes both banks of its field, and the slews. -/
theorem target_eq (s : State) (l : Loc) (iq : Bool) (n v : Nat) :
    s.target l iq n v = { s.setBoth l v with cal := (s.target l iq n v).cal } := slewFrom_eq (s.setBoth l v) l iq n (s.corrNow l)

theorem inactive_setBoth_other (s : State) {l m : Loc} (v : Nat) (h : m.key ≠ l.key) : (s.setBoth l v).inactive m = s.inactive m := by
  simp only [State.inactive, State.setBoth, get_edit, get_set_other s v h]
  simp [State.edit, Store.look_put, h]

/-- A target stands in both banks. -/
theorem target_same (s : State) (l : Loc) (iq : Bool) (n v : Nat) :
    (s.target l iq n v).get l = trunc l.wid v ∧ (s.target l iq n v).inactive l = trunc l.wid v := by
  rw [target_eq]
  exact ⟨get_set_same s l v, inactive_edit_same (s.set l v) l v⟩

theorem target_other (s : State) {l m : Loc} (iq : Bool) (n v : Nat) (h : m.key ≠ l.key) :
    (s.target l iq n v).get m = s.get m ∧ (s.target l iq n v).inactive m = s.inactive m := by
  rw [target_eq]
  exact ⟨get_set_other s v h, inactive_setBoth_other s v h⟩

theorem target_mem (s : State) (l : Loc) (iq : Bool) (n v : Nat) : (s.target l iq n v).mem = s.mem := by
  rw [target_eq]
  rfl

theorem SameRegs.target {l : Loc} (h : SameRegs ks s t) {iq : Bool} {n v : Nat} (hl : l.key ∈ ks) :
    SameRegs ks s (t.target l iq n v) := by
  rw [target_eq]
  exact (h.set (v := v) hl).of_regs rfl

theorem inactive_raise_other {l : Loc} {pg b : Nat} (h : l.key ≠ (HDR.EVT pg).key) (h' : l.key ≠ ERL1.EVT_LOST_CNT.key) :
    (s.raise pg b).inactive l = s.inactive l := by
  simp only [State.inactive, raise_bank, raise_other h h']

/-- The offsets of kind 4 stand: I in both banks, and Q. -/
theorem offsets_shown (hp : p < 64) (s : State) (a b : Nat) :
    let t := s.calApply ⟨4, p, [a, b]⟩
    t.get (TXPATH.DCT_I p) = trunc (TXPATH.DCT_I p).wid a ∧ t.get (TXPATH.DCT_Q p) = trunc (TXPATH.DCT_Q p).wid b ∧
      t.inactive (TXPATH.DCT_I p) = trunc (TXPATH.DCT_I p).wid a ∧ bitOf (t.get (HDR.EVT 0x0AC)) EV.CAL0.RES_NEW = true ∧
      t.mem = s.mem ∧ SameRegs ([(TXPATH.DCT_I p).key, (TXPATH.DCT_Q p).key] ++ evKeys 0x0AC) s t := by
  have hevt : ∀ l ∈ [TXPATH.DCT_I p, TXPATH.DCT_Q p], l.key ≠ (HDR.EVT 0x0AC).key ∧ l.key ≠ ERL1.EVT_LOST_CNT.key := by
    simp only [Loc.key, TXPATH.DCT_I, TXPATH.DCT_Q, HDR.EVT, ERL1.EVT_LOST_CNT, List.forall_mem_cons, List.not_mem_nil,
      IsEmpty.forall_iff, implies_true, and_true]
    omega
  have hiq : (TXPATH.DCT_I p).key ≠ (TXPATH.DCT_Q p).key := by
    simp only [Loc.key, TXPATH.DCT_I, TXPATH.DCT_Q]
    omega
  obtain ⟨hi, hi'⟩ := hevt _ (List.mem_cons_self ..)
  obtain ⟨hq, hq'⟩ := hevt _ (List.mem_cons_of_mem _ (List.mem_cons_self ..))
  obtain ⟨higet, hiina⟩ := target_same s (TXPATH.DCT_I p) false p a
  obtain ⟨hqget, -⟩ := target_same (s.target (TXPATH.DCT_I p) false p a) (TXPATH.DCT_Q p) false p b
  obtain ⟨hkeep, hkeep'⟩ := target_other (s.target (TXPATH.DCT_I p) false p a) false p b hiq
  dsimp only
  rw [calApply_offsets]
  refine ⟨?_, ?_, ?_, raise_sets _ _ (by decide), ?_,
    (((SameRegs.refl s).target (by simp)).target (by simp)).raise (by simp +contextual)⟩
  · rw [raise_other hi hi', hkeep, higet]
  · rw [raise_other hq hq', hqget]
  · rw [inactive_raise_other hi hi', hkeep', hiina]
  · rw [raise_mem, target_mem, target_mem]

/-! ### Trims (R236) -/

theorem trimPermitted_rx {r : CalRes} (hk : r.kind ≠ 6) (ht : s.tb % 2 = 0) (hperm : s.compPermitted r.path = true) :
    s.trimPermitted r = true := by
  simp [State.trimPermitted, ht, hk, hperm]

/-- The trim of the baseband filter waits alone, and takes effect. -/
theorem trimApply_filter {v : Nat} (htr : s.cal.trims = [⟨2, p, [v]⟩]) (ht : s.tb % 2 = 0) (hperm : s.compPermitted p = true) :
    s.trimApply p = (s.setCal fun c => { c with trims := [] }).set (RXPATH.BBF_TRIM p) v := by
  have hgo : s.trimPermitted ⟨2, p, [v]⟩ = true := trimPermitted_rx (by simp) ht hperm
  simp [State.trimApply, State.setCal, htr, hgo]

/-- The analogue codes of kind 0 wait alone, and take effect in both banks. -/
theorem trimApply_codes {a b : Nat} (htr : s.cal.trims = [⟨0, p, [a, b]⟩]) (ht : s.tb % 2 = 0) (hperm : s.compPermitted p = true) :
    s.trimApply p = ((s.setCal fun c => { c with trims := [] }).setBoth (RXPATH.DC_I p) a).setBoth (RXPATH.DC_Q p) b := by
  have hgo : s.trimPermitted ⟨0, p, [a, b]⟩ = true := trimPermitted_rx (by simp) ht hperm
  simp [State.trimApply, State.setCal, htr, hgo]

/-! ### The LO phase (R237) -/

/-- Of the octets `gs`, those of LOA (0) or LOB (1) take their phases. -/
def State.phasesSet (s : State) (x : Nat) (ph gs : List Nat) : State :=
  gs.foldl (fun s g => if bitOf (s.loopOctets (x + 1)) g then s.set (CAL0.OCT_PHASE g) (ph.getD g 0) else s) s

theorem loPhaseDone_due {x r : Nat} (h : s.clk.loCal.getD x none = some r) (hr : r + 40960 ≤ s.tb) (ph : List Nat) :
    s.loPhaseDone x ph = ({ s with clk := { s.clk with loCal := s.clk.loCal.set x none } } : State).phasesSet x ph (List.range 8) := by
  rw [State.loPhaseDone, h]
  exact if_pos hr

theorem phasesSet_eq (s : State) (x : Nat) (ph gs : List Nat) : s.phasesSet x ph gs = { s with regs := (s.phasesSet x ph gs).regs } :=
  List.foldlRecOn (motive := fun u : State => u = { s with regs := u.regs }) gs _ rfl fun u hu g _ => by
    split
    · exact congrArg (fun w : State => w.set (CAL0.OCT_PHASE g) (ph.getD g 0)) hu
    · exact hu

theorem phasesSet_same (s : State) (x : Nat) (ph gs : List Nat) :
    SameRegs (gs.map fun g => (CAL0.OCT_PHASE g).key) s (s.phasesSet x ph gs) :=
  List.foldlRecOn (motive := fun u => SameRegs (gs.map fun g => (CAL0.OCT_PHASE g).key) s u) gs _ (SameRegs.refl s)
    fun u hu g hg => by
      split
      · exact hu.set (List.mem_map.2 ⟨g, hg, rfl⟩)
      · exact hu

theorem octPhase_key {g j : Nat} : (CAL0.OCT_PHASE g).key = (CAL0.OCT_PHASE j).key ↔ g = j := by
  simp only [Loc.key, CAL0.OCT_PHASE]
  omega

/-- A phase does not move an octet to another LO. -/
theorem loopOctets_set_phase (s : State) (g v k : Nat) : (s.set (CAL0.OCT_PHASE g) v).loopOctets k = s.loopOctets k := by
  have h : (LO.LO_ASSIGN 0).key ≠ (CAL0.OCT_PHASE g).key := by
    simp only [Loc.key, LO.LO_ASSIGN, CAL0.OCT_PHASE]
    omega
  simp only [State.loopOctets, get_set_other s v h]

theorem phasesSet_get (s : State) (x : Nat) (ph gs : List Nat) (g : Nat) :
    (s.phasesSet x ph gs).get (CAL0.OCT_PHASE g) =
      if g ∈ gs ∧ bitOf (s.loopOctets (x + 1)) g then trunc (CAL0.OCT_PHASE g).wid (ph.getD g 0) else s.get (CAL0.OCT_PHASE g) := by
  induction gs generalizing s with
  | nil => simp [State.phasesSet]
  | cons j gs ih =>
    by_cases hj : bitOf (s.loopOctets (x + 1)) j = true
    · have hstep : s.phasesSet x ph (j :: gs) = (s.set (CAL0.OCT_PHASE j) (ph.getD j 0)).phasesSet x ph gs := by
        simp [State.phasesSet, hj]
      rw [hstep, ih, loopOctets_set_phase]
      by_cases hg : g = j
      · subst hg
        simp [hj]
      · rw [get_set_other _ _ (fun e => hg (octPhase_key.1 e))]
        simp [hg]
    · have hstep : s.phasesSet x ph (j :: gs) = s.phasesSet x ph gs := by simp [State.phasesSet, hj]
      rw [hstep, ih]
      by_cases hg : g = j
      · subst hg
        simp [hj]
      · simp [hg]

/-- The phases of an LO stand, for its octets alone. -/
theorem loPhaseDone_shown {x r : Nat} (h : s.clk.loCal.getD x none = some r) (hr : r + 40960 ≤ s.tb) (ph : List Nat) :
    let t := s.loPhaseDone x ph
    t.clk.loCal = s.clk.loCal.set x none ∧
      (List.range 8).all (fun g => t.get (CAL0.OCT_PHASE g) == (if bitOf (s.loopOctets (x + 1)) g then
        trunc (CAL0.OCT_PHASE g).wid (ph.getD g 0) else s.get (CAL0.OCT_PHASE g))) = true ∧
      t.mem = s.mem ∧ SameRegs ((List.range 8).map (fun g => (CAL0.OCT_PHASE g).key)) s t := by
  dsimp only
  rw [loPhaseDone_due h hr]
  generalize hu : ({ s with clk := { s.clk with loCal := s.clk.loCal.set x none } } : State) = u
  have heq := phasesSet_eq u x ph (List.range 8)
  refine ⟨(congrArg (fun w : State => w.clk.loCal) heq).trans (by subst hu; rfl), List.all_eq_true.2 fun g hg => ?_,
    (congrArg State.mem heq).trans (by subst hu; rfl), ?_⟩
  · rw [beq_iff_eq, phasesSet_get]
    subst hu
    simp only [hg, true_and]
    rfl
  · exact ((SameRegs.refl s).of_regs (by subst hu; rfl)).trans (phasesSet_same u x ph _)

/-! ### Corrections in force (R238, R239) -/

theorem corrUpdate_off (h : s.mode ≠ 5 ∨ s.tb % 32768 ≠ 0) : s.corrUpdate = s := if_neg (by tauto)

/-- The update at a multiple of 32,768 ticks in M5. -/
theorem corrUpdate_due (hm : s.mode = 5) (ht : s.tb % 32768 = 0) :
    s.corrUpdate = allPaths.foldl (fun s n => s.gdNote n) ([0, 1].foldl (fun s x => (List.range 65).foldl (fun s p =>
      if s.calClocked p = false then s else if (s.path p).wdr ∧ p < 64 then s.corrAtOnce x p else s.corrStep x p) s) s) :=
  if_pos ⟨hm, ht⟩

/-! ### Array results (R243) -/

/-- The fields of an array result: direction 0 transmits, 1 receives. -/
def arrG (d p : Nat) : Loc := if d = 0 then CAL3.RES_TX_G p else CAL3.RES_RX_G p
def arrD (d p : Nat) : Loc := if d = 0 then CAL3.RES_TX_D p else CAL3.RES_RX_D p
def arrValid (d p : Nat) : Loc := if d = 0 then CAL3.STAT_TX_VALID p else CAL3.STAT_RX_VALID p
def arrTemp (d p : Nat) : Loc := if d = 0 then CAL3.STAT_TX_TEMP_CAL p else CAL3.STAT_RX_TEMP_CAL p
def arrAuto (d : Nat) : Loc := if d = 0 then CAL0.ARR_AUTO_TX else CAL0.ARR_AUTO_RX

/-- The four fields of a result have different numbers, above those of CAL0. -/
theorem arr_keys (d : Nat) (hp : p < 64) :
    [(arrG d p).key, (arrD d p).key, (arrValid d p).key, (arrTemp d p).key].Nodup ∧
      ∀ l ∈ [arrG d p, arrD d p, arrValid d p, arrTemp d p], 0x0AF * 32768 ≤ l.key := by
  by_cases hd : d = 0 <;>
  · simp only [arrG, arrD, arrValid, arrTemp, hd, if_true, if_false, Loc.key, CAL3.RES_TX_G, CAL3.RES_TX_D, CAL3.STAT_TX_VALID,
      CAL3.STAT_TX_TEMP_CAL, CAL3.RES_RX_G, CAL3.RES_RX_D, CAL3.STAT_RX_VALID, CAL3.STAT_RX_TEMP_CAL, List.nodup_cons, List.mem_cons,
      List.not_mem_nil, or_false, not_or, List.nodup_nil, and_true, not_false_eq_true, forall_eq_or_imp, forall_eq]
    omega

/-- A result is stored: gain word `g`, delay `y`, VALID, and the octet's temperature. -/
def State.arrayStored (s : State) (d p g y : Nat) : State :=
  let u := ((s.set (arrG d p) g).set (arrD d p) y).set (arrValid d p) 1
  u.seti (arrTemp d p) (u.octTemp (p / 8 % 8) / 256)

theorem arrayStored_same (s : State) (d p g y : Nat) :
    SameRegs [(arrG d p).key, (arrD d p).key, (arrValid d p).key, (arrTemp d p).key] s (s.arrayStored d p g y) :=
  ((((SameRegs.refl s).set (by simp)).set (by simp)).set (by simp)).set (by simp)

theorem arrayStored_fields (d : Nat) (hp : p < 64) (s : State) (g y : Nat) :
    (s.arrayStored d p g y).get (arrG d p) = trunc (arrG d p).wid g ∧
      (s.arrayStored d p g y).get (arrD d p) = trunc (arrD d p).wid y ∧
      (s.arrayStored d p g y).get (arrValid d p) = trunc (arrValid d p).wid 1 := by
  obtain ⟨hnd, -⟩ := arr_keys d hp
  simp only [List.nodup_cons, List.mem_cons, List.not_mem_nil, or_false, not_or] at hnd
  obtain ⟨⟨hgd, hgv, hgt⟩, ⟨hdv, hdt⟩, hvt, -⟩ := hnd
  simp only [State.arrayStored, State.seti]
  refine ⟨?_, ?_, ?_⟩
  · rw [get_set_other _ _ hgt, get_set_other _ _ hgv, get_set_other _ _ hgd, get_set_same]
  · rw [get_set_other _ _ hdt, get_set_other _ _ hdv, get_set_same]
  · rw [get_set_other _ _ hvt, get_set_same]

theorem arrayStored_auto (d : Nat) (hp : p < 64) (s : State) (g y : Nat) :
    (s.arrayStored d p g y).on (arrAuto d) = s.on (arrAuto d) := by
  obtain ⟨-, habove⟩ := arr_keys d hp
  have hlow : (arrAuto d).key < 0x0AF * 32768 := by
    unfold arrAuto
    split <;> decide
  have hne : (arrAuto d).key ∉ [arrG d p, arrD d p, arrValid d p, arrTemp d p].map Loc.key := fun h => by
    obtain ⟨l, hl, he⟩ := List.mem_map.1 h
    have := habove l hl
    omega
  rw [State.on, arrayStored_same s d p g y _ hne, State.on]

/-- The measurements that a result of direction `d` on path `p` has used count no more. -/
def State.arrayTaken (s : State) (d p : Nat) : State :=
  s.setCal fun c => { c with arrDone := c.arrDone.put (d * 128 + p) 0 }

/-- The age of a result counts from now. -/
def State.arrayAged (s : State) (d p : Nat) : State :=
  s.setCal fun c => { c with arrAt := c.arrAt.put (d * 128 + p) (s.ao + 1) }

/-- The gain word and the delay that a result gives: the reference path's are 1 and 0. -/
def State.arrayGain (s : State) (p g : Nat) : Nat := if p = s.get CAL0.REF_PATH then 0x40000000 else g
def State.arrayDelay (s : State) (p y : Nat) : Nat := if p = s.get CAL0.REF_PATH then 0 else y % 2 ^ 18

/-- A result with its AVG measurements, which is not applied to a target, is stored. -/
theorem arrayResult_stored {d g y : Nat} (hd : d = 0 ∨ d = 1) (hp : p < 64)
    (havg : max 1 (s.get CAL0.AVG) ≤ s.cal.arrDone.look (d * 128 + p)) (hrun : s.calRunning (11 - d) p = true)
    (hclk : s.calClocked p = true) (hauto : s.on (arrAuto d) = false) (hfg : s.cal.fg = []) :
    s.arrayResult d p g y =
      let u := ((s.arrayTaken d p).arrayStored d p (s.arrayGain p g) (s.arrayDelay p y)).arrayAged d p
      u.setCal fun _ => u.calStamped (11 - d) p := by
  have hauto' := (arrayStored_auto d hp (s.arrayTaken d p) (s.arrayGain p g) (s.arrayDelay p y)).trans hauto
  unfold State.arrayResult
  dsimp only
  rw [if_neg (by simp only [hrun, Bool.true_eq_false, false_or]; omega), if_neg (by simp [hclk])]
  rcases hd with rfl | rfl <;>
  · simp only [if_true, if_false, one_ne_zero, decide_eq_true_eq]
    rw [calStamp_eq (by decide) (by decide), fgKindEnd_none (by exact hfg)]
    exact if_neg fun h : _ ∧ _ => Bool.false_ne_true (hauto'.symm.trans h.1)

/-- A stored result shows its gain word, its delay, VALID and AGE 0. -/
theorem arrayResult_shown {d g y : Nat} (hd : d = 0 ∨ d = 1) (hp : p < 64)
    (havg : max 1 (s.get CAL0.AVG) ≤ s.cal.arrDone.look (d * 128 + p)) (hrun : s.calRunning (11 - d) p = true)
    (hclk : s.calClocked p = true) (hauto : s.on (arrAuto d) = false) (hfg : s.cal.fg = []) :
    let t := s.arrayResult d p g y
    t.get (arrG d p) = trunc (arrG d p).wid (s.arrayGain p g) ∧ t.get (arrD d p) = trunc (arrD d p).wid (s.arrayDelay p y) ∧
      t.get (arrValid d p) = trunc (arrValid d p).wid 1 ∧ t.arrayAge d p = 0 ∧ t.mem = s.mem ∧
      SameRegs [(arrG d p).key, (arrD d p).key, (arrValid d p).key, (arrTemp d p).key] s t := by
  obtain ⟨hg, hy, hv⟩ := arrayStored_fields d hp (s.arrayTaken d p) (s.arrayGain p g) (s.arrayDelay p y)
  have hregs := arrayStored_same (s.arrayTaken d p) d p (s.arrayGain p g) (s.arrayDelay p y)
  have hmem : ((s.arrayTaken d p).arrayStored d p (s.arrayGain p g) (s.arrayDelay p y)).mem = s.mem := rfl
  dsimp only
  rw [arrayResult_stored hd hp havg hrun hclk hauto hfg]
  generalize (s.arrayTaken d p).arrayStored d p (s.arrayGain p g) (s.arrayDelay p y) = u at hg hy hv hregs hmem ⊢
  refine ⟨hg, hy, hv, ?_, hmem, hregs.of_regs rfl⟩
  simp [State.arrayAge, State.arrayAged, State.calStamped, Store.look_put]

/-- In ROLE 1 another chip's result is published (R317). -/
theorem arrayOther_published {q : Nat} (hrole : s.get CAL0.ROLE = 1) (hq : 64 ≤ q) (hq' : q < 256) (hrun : s.calRunning 11 q = true)
    (g y : Nat) : s.arrayOther q g y = (s.set (SOUND3.ARR_G q) g).set (SOUND3.ARR_D q) (y % 2 ^ 18) :=
  if_pos ⟨hrole, hq, hq', hrun⟩

/-! ### The statement -/

/-- Settles O19: with its conditions met each command takes the one branch that the rule names. -/
theorem calibration : Obligations.Calibration := by
  unfold Obligations.Calibration
  refine ⟨?_, ?_, ?_, ?_, ?_, ?_, ?_, ?_, ?_, ?_, ?_, ?_, ?_⟩
  · intro s d h hd
    exact congrArg Host.Outcome.next (refCheck_passed h hd)
  · intro s d h hd
    exact congrArg Host.Outcome.next (refCheck_failed h hd)
  · intro s k p r o a b c d hk ho hok hp hrun hr hpend hcopy hfg ht
    exact ⟨_, congrArg Host.Outcome.next (calResult_applied (by omega) (by omega) (by omega) hp hrun hok ht hr (fun _ => ho) hpend hcopy
      hfg), selection_shown hk s p a b c d⟩
  · intro s p r o a b hp hrun hr hpend hcopy hfg ht
    exact ⟨_, congrArg Host.Outcome.next (calResult_applied (by decide) (by decide) (by decide) hp hrun rfl ht hr (by omega) hpend
      hcopy hfg), offsets_shown hp _ a b⟩
  · intro s k p r o v h8 h3 h7 hp hrun hact hclk ht
    exact congrArg Host.Outcome.next (calResult_unclocked h8 h3 h7 hp hrun hact hclk ht)
  · intro s p v _ htr ht hperm
    exact congrArg Host.Outcome.next (trimApply_filter htr ht hperm)
  · intro s p a b _ htr ht hperm
    exact congrArg Host.Outcome.next (trimApply_codes htr ht hperm)
  · intro s x r ph _ h hr
    exact ⟨_, rfl, loPhaseDone_shown h hr ph⟩
  · intro s h
    exact congrArg Host.Outcome.next (corrUpdate_off h)
  · intro s hm ht
    exact congrArg Host.Outcome.next (corrUpdate_due hm ht)
  · intro s p g y hp havg hrun hclk href hauto hfg
    obtain ⟨hg, hy, hv, hage, hmem, hregs⟩ := arrayResult_shown (g := g) (y := y) (.inl rfl) hp (by simpa using havg) hrun
      hclk hauto hfg
    have hlt : y % 2 ^ 18 < 2 ^ 32 := by omega
    exact ⟨_, rfl, hg.trans (by rw [State.arrayGain, if_neg href]; rfl),
      hy.trans (by rw [State.arrayDelay, if_neg href]; exact trunc_of_lt hlt), hv, hage, hmem, hregs⟩
  · intro s p g y hp havg hrun hclk href hauto hfg
    obtain ⟨hg, hy, hv, -, hmem, hregs⟩ := arrayResult_shown (g := g) (y := y) (.inr rfl) hp (by simpa using havg) hrun
      hclk hauto hfg
    exact ⟨_, rfl, hg.trans (by rw [State.arrayGain, if_pos href]; rfl), hy.trans (by rw [State.arrayDelay, if_pos href]; rfl), hv,
      hmem, hregs⟩
  · intro s d q g y hrole hq hq' hrun
    exact congrArg Host.Outcome.next (arrayOther_published hrole hq hq' hrun g y)

end Sys2Proof.Machine
end

section
/-! PROOFS. Calibration runs and schedules (O20). FG_GO and FG_ABORT land as their effects on the state, which keep the word that
waits by the frame `State.Steady`. -/

namespace Sys2Proof.Machine

variable {s : State} {c : Cls} {k p : Nat} {l : Loc}

/-! ### A run in M5 (R244) -/

/-- The state without its paths. -/
def State.pathless (s : State) : State := { s with paths := [] }

theorem foldl_pathless {f : State → Nat × Nat → State} (hf : ∀ u e, (f u e).pathless = u.pathless) (es : List (Nat × Nat))
    (s : State) : (es.foldl f s).pathless = s.pathless :=
  List.foldlRecOn (motive := fun u : State => u.pathless = s.pathless) es f rfl fun u hu e _ => (hf u e).trans hu

/-- Withdrawals and returns change the paths alone. -/
theorem fgNext_pathless (s : State) : s.fgNext.pathless = s.pathless := by
  unfold State.fgNext
  extract_lets u out room next
  have hu : u.pathless = s.pathless := foldl_pathless (fun v e => by
    split
    · rfl
    · split <;> rfl) s.cal.fg s
  split
  · rfl
  · exact (foldl_pathless (by exact fun _ _ => rfl) next u).trans hu

/-- Where `q` holds of no path of the run, no kind ends. -/
theorem fgEnd_none {q : Nat → Bool} (h : ∀ e ∈ s.cal.fg, q e.1 = false) (m reason : Nat) : s.fgEnd q m reason = s.fgNext := by
  have hfold : ∀ f : State → Nat × Nat → State, s.cal.fg.foldl (fun s e => if q e.1 then f s e else s) s = s := fun f =>
    List.foldlRecOn (motive := fun u => u = s) _ _ rfl fun u hu e he => by rw [h e he]; exact hu
  have hmap : s.cal.fg.map (fun e => (e.1, if q e.1 then clearMask 12 e.2 m else e.2)) = s.cal.fg :=
    (List.map_congr_left fun e he => by rw [h e he]; rfl).trans (List.map_id _)
  have hkeep : s.fgMap (fun e => if q e.1 then clearMask 12 e.2 m else e.2) = s := by
    unfold State.fgMap
    rw [hmap]
  unfold State.fgEnd
  dsimp only
  rw [hfold, hkeep]

/-- A run of the paths named takes BUSY, and the kinds that M5 permits (R244). -/
def State.fgTaken (s : State) : State :=
  (s.set CAL0.FG_BUSY 1).setCal fun c => { c with
    fg := (allPaths.filter fun p => s.pathBit CAL0.FG_PATH_LO CAL0.FG_PATH_HI p).map
      fun p => (p, fgKinds 5 (s.get CAL0.KIND_MASK)) }

theorem fgTaken_act (s : State) (pg : Nat) : s.fgTaken.act pg = s.act pg := by
  have h : (HDR.ACT pg).key ≠ CAL0.FG_BUSY.key := by
    simp only [Loc.key, HDR.ACT, CAL0.FG_BUSY]
    omega
  simp only [State.act, State.on, State.fgTaken, State.setCal_get, get_set_other s 1 h]

theorem fgTaken_mode (s : State) : s.fgTaken.mode = s.mode :=
  get_set_other s (l := CAL0.FG_BUSY) (m := DEVICE.MODE) 1 (by decide)

/-- FG_GO in M5 with every path operational. -/
theorem fgGo_operational (hb : s.on CAL0.FG_BUSY = false) (hm : s.mode = 5) (hop : allPaths.all (fun p => s.operational p) = true) :
    s.fgGo = s.fgTaken.fgNext.fgNext := by
  have hall : ∀ e ∈ s.fgTaken.cal.fg, (!s.fgTaken.operational e.1) = false := fun e he => by
    obtain ⟨p, hp, rfl⟩ := List.mem_map.1 he
    have := List.all_eq_true.1 hop p (List.mem_of_mem_filter hp)
    simpa only [State.operational, fgTaken_act, Bool.not_eq_false'] using this
  have hmode : s.fgTaken.fgNext.mode = 5 := ((congrArg State.mode (fgNext_pathless s.fgTaken) :).trans (fgTaken_mode s)).trans hm
  unfold State.fgGo
  rw [if_neg (by simp [hb]), if_neg (by simp [hm])]
  dsimp only
  rw [hm, show (s.set CAL0.FG_BUSY 1).setCal _ = s.fgTaken from rfl, fgEnd_none hall, if_neg (by rw [hmode]; decide)]

/-- FG_GO in a mode that permits no run fails with reason 1 and the lowest kind named. -/
theorem fgGo_barred (hb : s.on CAL0.FG_BUSY = false) (h5 : s.mode ≠ 5) (h6 : s.mode ≠ 6) :
    s.fgGo = s.calFail 1 (((List.range 12).find? (fun k => bitOf (s.get CAL0.KIND_MASK) k)).getD 0) 0 := by
  rw [State.fgGo, if_neg (by simp [hb]), if_pos ⟨h5, h6⟩]

/-- In M5 a run whose kinds have all ended ends with FG_DONE. -/
theorem fgDone_background (hb : s.on CAL0.FG_BUSY = true) (hall : s.cal.fg.all (fun e => e.2 == 0) = true) (hm : s.mode = 5) :
    s.fgDone = ((s.set CAL0.FG_BUSY 0).setCal fun c => { c with fg := [] }).raise 0x0AC EV.CAL0.FG_DONE := by
  have hmode : (((s.set CAL0.FG_BUSY 0).setCal fun c => { c with fg := [] }).raise 0x0AC EV.CAL0.FG_DONE).mode = 5 := by
    rw [State.mode, raise_other (by decide) (by decide), State.setCal_get, get_set_other _ _ (by decide)]
    exact hm
  unfold State.fgDone
  rw [if_pos ⟨hb, hall⟩]
  exact if_neg fun h => h hmode

/-! ### Schedules (R246) -/

/-- A kind that the engine runs itself is due. -/
theorem calDue_engine (h2 : k ≠ 2) (h6 : k ≠ 6) (hdue : s.calIsDue k p = true) :
    s.calDue k p = s.setCal fun c => { c with due := c.due.put (k * 128 + p) 1 } := by
  unfold State.calDue
  dsimp only
  rw [if_neg (by simp [hdue]), if_neg h2, if_neg h6]

/-- Kind 2, which firmware runs, shows DUE with RES_NEW. -/
theorem calDue_firmware (hdue : s.calIsDue 2 p = true) :
    s.calDue 2 p =
      ((s.setCal fun c => { c with due := c.due.put (2 * 128 + p) 1 }).set (CAL3.STAT_RX_DUE p) 1).raise 0x0AC EV.CAL0.RES_NEW := by
  unfold State.calDue
  dsimp only
  rw [if_neg (by simp [hdue]), if_pos rfl]

/-! ### The triggers -/

theorem trigAct_fgGo (s : State) (c : Cls) (data at_ : Nat) : s.trigAct c CAL0.FG_GO data at_ = s.fgGo := by
  rw [trigAct_low (by decide) (by decide) (by decide) (by decide)]
  rfl

theorem trigAct_fgAbort (s : State) (c : Cls) (data at_ : Nat) : s.trigAct c CAL0.FG_ABORT data at_ = s.fgAbort := by
  rw [trigAct_low (by decide) (by decide) (by decide) (by decide)]
  rfl

/-- A trigger of the run that acts as `g`, which keeps what `State.Steady` does, lands as `g`. -/
theorem rowTrig_foreground {g : State → State} (h : s.triggered c l = true) (hl : l = CAL0.FG_GO ∨ l = CAL0.FG_ABORT)
    (hg : (s.ripe c l).trigAct c l 0 s.ao = g (s.ripe c l)) (hs : (s.ripe c l).Steady (g (s.ripe c l))) :
    s.rowTrig c l = s.lands c l [] [g] := by
  have hwords : (g (s.ripe c l)).words = (s.ripe c l).words := (congrArg (fun u => u.1) hs.units :)
  have hacks : (g (s.ripe c l)).acks = (s.ripe c l).acks := (congrArg (fun u => u.2.1) hs.units :)
  rw [rowTrig_lands (s := s) (c := c) (l := l) (data := 0) h (by rcases hl with rfl | rfl <;> rfl)
    (by rcases hl with rfl | rfl <;> decide) (by rcases hl with rfl | rfl <;> decide) (by rw [hg, hwords]) (by rw [hg, hacks]; rfl)]
  show (((s.ripe c l).trigAct c l 0 s.ao).credit 1 false).reply c [] stOK = _
  rw [hg]
  rfl

theorem fgTaken_steady (s : State) : s.Steady s.fgTaken :=
  ((State.Steady.refl s).set : s.Steady (s.set CAL0.FG_BUSY 1)).other rfl rfl

theorem lands_trigger (s : State) (c : Cls) (l : Loc) (g : State → State) :
    s.lands c l [] [g] = ((g (s.ripe c l)).credit 1 false).reply c [] stOK := rfl

theorem credit_cal (s : State) (id : Nat) (sup : Bool) : (s.credit id sup).cal = s.cal := by
  unfold State.credit
  split
  · rfl
  · dsimp only
    split <;> rfl

/-- What stands once FG_GO has landed: BUSY, the kinds of the paths, and the answer. -/
theorem exec_fgGo_runs (h : s.triggered c CAL0.FG_GO = true) (hb : (s.ripe c CAL0.FG_GO).on CAL0.FG_BUSY = false)
    (hm : (s.ripe c CAL0.FG_GO).mode = 5) (hop : allPaths.all (fun p => (s.ripe c CAL0.FG_GO).operational p) = true) :
    let u : State := s.ripe c CAL0.FG_GO
    ∃ t : State, exec (.fgGo c) s = .next t ∧ t.get CAL0.FG_BUSY = 1 ∧
      t.cal.fg = (allPaths.filter (fun p => u.pathBit CAL0.FG_PATH_LO CAL0.FG_PATH_HI p)).map
        (fun p => (p, fgKinds 5 (u.get CAL0.KIND_MASK))) ∧
      t.answer = some ⟨c, [], stOK⟩ ∧ t.mem = u.mem ∧ SameRegs [CAL0.FG_BUSY.key] u t := by
  have hland := rowTrig_foreground (g := fun u => u.fgTaken.fgNext.fgNext) h (.inl rfl)
    (by rw [trigAct_fgGo, fgGo_operational hb hm hop]) (fgTaken_steady _).fgNext.fgNext
  have hpaths : (s.ripe c CAL0.FG_GO).fgTaken.fgNext.fgNext.pathless = (s.ripe c CAL0.FG_GO).fgTaken.pathless :=
    (fgNext_pathless _).trans (fgNext_pathless _)
  rw [lands_trigger] at hland
  dsimp only
  generalize s.ripe c CAL0.FG_GO = u at hland hpaths ⊢
  have hregs : u.fgTaken.fgNext.fgNext.regs = u.fgTaken.regs := (congrArg State.regs hpaths :)
  have hcal : u.fgTaken.fgNext.fgNext.cal = u.fgTaken.cal := (congrArg State.cal hpaths :)
  have hsame : SameRegs [CAL0.FG_BUSY.key] u u.fgTaken := ((SameRegs.refl u).set (v := 1) (List.mem_cons_self ..)).of_regs rfl
  refine ⟨_, congrArg Host.Outcome.next hland, ?_, ?_, rfl, ?_, (hsame.of_regs hregs).credit.reply⟩
  · show ((u.fgTaken.fgNext.fgNext).credit 1 false).get CAL0.FG_BUSY = 1
    rw [credit_get, State.get, hregs]
    exact get_set_same u CAL0.FG_BUSY 1
  · show ((u.fgTaken.fgNext.fgNext).credit 1 false).cal.fg = _
    rw [credit_cal, hcal]
    rfl
  · exact (credit_mem _ _ _).trans (congrArg State.mem hpaths :)

/-- Settles O20: the triggers land as their effects, and the other commands take the one branch that the rule names. -/
theorem foregroundCal : Obligations.ForegroundCal := by
  unfold Obligations.ForegroundCal
  refine ⟨?_, ?_, ?_, ?_, ?_, ?_, ?_⟩
  · exact fun s c h hb hm hop => exec_fgGo_runs h hb hm hop
  · intro s c h hb h5 h6
    exact congrArg Host.Outcome.next (rowTrig_foreground h (.inl rfl) (by rw [trigAct_fgGo, fgGo_barred hb h5 h6])
      (State.Steady.refl _).calFail)
  · intro s c h hb
    exact congrArg Host.Outcome.next (rowTrig_foreground h (.inl rfl) (by rw [trigAct_fgGo, State.fgGo, if_pos hb])
      (State.Steady.refl _))
  · intro s c h hb
    exact congrArg Host.Outcome.next (rowTrig_foreground h (.inr rfl) (by rw [trigAct_fgAbort, State.fgAbort, if_pos hb])
      (State.Steady.refl _).fgEnd)
  · intro s hb hall hm
    exact congrArg Host.Outcome.next (fgDone_background hb hall hm)
  · intro s k p _ _ h2 h6 hdue
    exact congrArg Host.Outcome.next (calDue_engine h2 h6 hdue)
  · intro s p _ hdue
    exact congrArg Host.Outcome.next (calDue_firmware hdue)

end Sys2Proof.Machine
end

section
/-! PROOFS. The step of a queue, the state after reset and the answers of `exec` (O45, O47, O49). -/

namespace Sys2Proof.Machine

-- In order: a kernel evaluation waits for the proofs before it, and would hold a thread of its own until then.
set_option Elab.async false

/-- Settles O45: `step` answers `exec` of the command that it takes off the queue. -/
theorem stepRunsFront : Obligations.StepRunsFront := by
  unfold Obligations.StepRunsFront
  intros
  rfl

/-- Settles O47. -/
theorem resetSound : Obligations.ResetSound := State.Sound.reset

/-- Settles O49: each command's arm of `exec` is `.next` of a state, so the state it answers is read off, command by command. -/
theorem everyCommandCompletes : Obligations.EveryCommandCompletes := by
  unfold Obligations.EveryCommandCompletes
  intro c s
  cases c <;> exact ⟨_, rfl⟩

end Sys2Proof.Machine
end

section
/-! PROOFS. Cumin (O26). The statement fails at a state that no run reaches: TX_LVL is a field of 8 bits, but a `State` can hold
any number under it, and TX_LVL_ACT, which takes it when a burst is sent, is cut to its width. -/

namespace Sys2Proof.Machine

-- In order: a kernel evaluation waits for the proofs before it, and would hold a thread of its own until then.
set_option Elab.async false

/-- Path 0 is in its sounding state since the tick at hand, Cumin is operational and permitted, and TX_LVL reads 300. -/
def burstWide : State :=
  { State.reset with
    regs := [((HDR.ACT 0x0E0).key, 1), (LIMITS.LR_VALID.key, 1), ((LIMITS.REC 5).key, 1), (SOUND0.TX_EN.key, 1), (SOUND0.TX_LVL.key, 260)]
    paths := { st := .sndTx } :: List.replicate 63 {} }

/-- It is the burst instant of path 0, and a burst is permitted. -/
theorem burstWide_instant :
    burstWide.burstPaths ≠ [] ∧ burstWide.act 0x0E0 = true ∧ burstWide.sndPermitted = true ∧ burstWide.on SOUND0.TX_EN = true := by
  decide +kernel

/-- The window holds the burst, none is under way, and the record's cap does not raise the level. -/
theorem burstWide_fits :
    (allPaths.filter (fun n => (burstWide.path n).st == .sndTx)).all burstWide.burstFits = true ∧ burstWide.snd.burst = none ∧
      burstWide.cuminCap ≤ burstWide.get SOUND0.TX_LVL := by
  decide +kernel

theorem burstWide_level : burstWide.get SOUND0.TX_LVL = 300 ∧ burstWide.burstSend.get SOUND0.TX_LVL_ACT = 44 := by
  decide +kernel

/-- Refutes O26: in `burstWide` the burst leaves TX_LVL_ACT = 300 mod 256 = 44, not the 300 that TX_LVL reads. -/
theorem not_cumin : ¬ Obligations.Cumin := by
  unfold Obligations.Cumin
  intro ⟨sent, _⟩
  obtain ⟨hpaths, hact, hperm, hen⟩ := burstWide_instant
  obtain ⟨hfits, hnone, hcap⟩ := burstWide_fits
  obtain ⟨hlvl, hsent⟩ := burstWide_level
  obtain ⟨t, ht, -, hact', -⟩ := sent burstWide hpaths hact hperm hen hfits hnone hcap
  obtain rfl : burstWide.burstSend = t := by simpa [execBurstStart] using ht
  rw [hsent, hlvl] at hact'
  exact absurd hact' (by decide)

end Sys2Proof.Machine
end

section
/-! PROOFS. Anise tuning (O27). The statement fails without a reference: following the ensemble needs CPLL.REF_OK (as the lock
of the synthesiser does, R319), and the clause on the first candidate does not ask for it. -/

namespace Sys2Proof.Machine

-- In order: a kernel evaluation waits for the proofs before it, and would hold a thread of its own until then.
set_option Elab.async false

/-- For DAB with AF_EN, as after reset: synchronisation has been lost for two seconds, the first candidate is 174 MHz, and REF_OK
is 0. -/
def followUnlocked : State :=
  { State.reset with
    regs := [((HDR.ACT 0x0E4).key, 1)]
    ao := 1966080000
    bc := { State.reset.bc with lostAt := some 0, cand := ([174000], []) } }

/-- Anise runs for DAB with AF_EN, has lost synchronisation, and holds no frequency. -/
theorem followUnlocked_lost :
    followUnlocked.act 0x0E4 = true ∧ followUnlocked.get BCAST0.STD = 1 ∧ followUnlocked.on BCAST0.AF_EN = true ∧
      followUnlocked.on BCAST0.SYNC = false ∧ followUnlocked.followHeld = false := by
  decide +kernel

theorem followUnlocked_candidates :
    (followUnlocked.bc.cand.1 ++ followUnlocked.bc.cand.2).filter (fun k => bandOk 1 k) = [174000] := by
  decide +kernel

theorem followUnlocked_refOk : followUnlocked.on CPLL.REF_OK = false := by decide +kernel

/-- Without the reference no candidate is tried. -/
theorem dabFollow_of_refLost {s : State} (h : s.on CPLL.REF_OK = false) : s.dabFollow = s := by
  unfold State.dabFollow
  simp [h]

/-- Refutes O27: in `followUnlocked` the command leaves CAND_AT empty, where the statement has the first candidate tried. -/
theorem not_aniseTuning : ¬ Obligations.AniseTuning := by
  unfold Obligations.AniseTuning
  intro ⟨_, _, _, _, _, _, _, _, _, _, _, follow, _⟩
  obtain ⟨hact, hstd, haf, hsync, hheld⟩ := followUnlocked_lost
  have hnext := follow followUnlocked 0 174000 [] hact hstd haf hsync rfl (Nat.le_refl _) hheld rfl followUnlocked_candidates
  rw [exec_dabFollow, execDabFollow, dabFollow_of_refLost followUnlocked_refOk] at hnext
  have hcand : followUnlocked.bc.candAt = some followUnlocked.ao := congrArg (fun t : State => t.bc.candAt) (Host.Outcome.next.inj hnext)
  exact absurd hcand (by decide)

end Sys2Proof.Machine
end

section
/-! PROOFS. DMA chains (O30). The statement fails for a paced channel: the access that found no answer is in the ring of its
capture port, at RD_PTR (R356), not at the source address of its descriptor, which a paced channel does not use. -/

namespace Sys2Proof.Machine

-- In order: a kernel evaluation waits for the proofs before it, and would hold a thread of its own until then.
set_option Elab.async false

/-- Channel 0 runs a chain of 4 bytes that capture port 0 paces, with 0 as the source address of its descriptor. -/
def dmaPaced : State :=
  { State.reset with
    regs := [((DMAC.STATE 0).key, 2)]
    dmas := { ctl := 1, len := 4 } :: List.replicate 7 {} }

theorem dmaPaced_state : dmaPaced.get (DMAC.STATE 0) = 2 := by decide

/-- FAIL_ADDR after the command, and in the state that the statement gives. -/
theorem dmaPaced_failAddr :
    (dmaPaced.dmaTimeout 0 0 false).get (DMAC.FAIL_ADDR 0) = 0x30000000 ∧
      ((dmaPaced.dmaEnd 0 3 ((dmaPaced.dma 0).src + 0) false).dmaPick 16).get (DMAC.FAIL_ADDR 0) = 0 := by
  decide +kernel

/-- Refutes O30: in `dmaPaced` a read without an answer leaves FAIL_ADDR at the ring of port 0, not at 0. -/
theorem not_dmaChains : ¬ Obligations.DmaChains := by
  unfold Obligations.DmaChains
  intro ⟨_, _, _, _, _, _, _, _, _, _, _, timeout, _⟩
  obtain ⟨hring, hsrc⟩ := dmaPaced_failAddr
  have hnext := timeout dmaPaced 0 0 false (by decide) dmaPaced_state rfl (by decide) (by decide) (by decide) (by decide) (by decide)
  have hfail := congrArg (fun t : State => t.get (DMAC.FAIL_ADDR 0)) (Host.Outcome.next.inj hnext)
  exact absurd (hring.symm.trans (hfail.trans hsrc)) (by decide)

end Sys2Proof.Machine
end

section
/-! PROOFS. Clove arithmetic (O31). The statement fails at a state that no run reaches: an accumulator has 56 bits, but a
`CoreSt` can hold any number in it, and TFR gives ZF of the value's low 56 bits. -/

namespace Sys2Proof.Machine

-- In order: a kernel evaluation waits for the proofs before it, and would hold a thread of its own until then.
set_option Elab.async false

/-- Core 0 runs, with TFR A0, A0 as its instruction and 2^56 in A0 as instructions read it. -/
def tfrWide : State :=
  { State.reset with
    regs := [((HDR.ACT 0x100).key, 1), ((CLOVE.STATE 0).key, 1)]
    mem := [(0x110000000, 1)]
    cores := { accV := [2 ^ 56, 0, 0, 0] } :: List.replicate 7 {} }

theorem tfrWide_fetches : tfrWide.fetches 0 (.alu 0 0 0 0 ⟨none, none, none⟩) (tfrWide.coreFetch 0).2 = true := by
  decide +kernel

theorem tfrWide_acc :
    ((tfrWide.coreFetch 0).2.core 0).acc.length = 4 ∧ ((tfrWide.coreFetch 0).2.core 0).accV.getD 0 0 = 2 ^ 56 := by
  decide +kernel

theorem tfrWide_zero : bitOf ((tfrWide.coreRun 0 (.alu 0 0 0 0 ⟨none, none, none⟩)).core 0).sr srZF = true := by
  decide +kernel

/-- Refutes O31: in `tfrWide` TFR sets ZF, though the value that it moves is 2^56 and not 0. -/
theorem not_cloveArithmetic : ¬ Obligations.CloveArithmetic := by
  unfold Obligations.CloveArithmetic
  intro ⟨tfr, _⟩
  obtain ⟨hlen, hval⟩ := tfrWide_acc
  obtain ⟨u, hu, -, -, hzf, -⟩ := tfr tfrWide _ 0 0 0 tfrWide_fetches hlen (by decide)
  obtain rfl : tfrWide.coreRun 0 (.alu 0 0 0 0 ⟨none, none, none⟩) = u := by simpa [execTfr] using hu
  rw [tfrWide_zero, hval] at hzf
  exact absurd hzf (by decide)

end Sys2Proof.Machine
end

section
/-! PROOFS. Clove control flow (O33). A command of an instruction that the core fetches is that instruction on the state that
the fetch leaves. -/

namespace Sys2Proof.Machine

variable {s t : State} {c : Nat} {op : CloveOp}

/-- What `fetches` says, taken apart. -/
theorem fetches_iff :
    s.fetches c op t = true ↔ c < 8 ∧ s.coreRuns c = true ∧ s.cores.length = 8 ∧
      s.coreFetch c = (some ((s.coreFetch c).1.getD 0), t) ∧ cloveDecode ((s.coreFetch c).1.getD 0) = some op := by
  simp only [State.fetches, Bool.and_eq_true, decide_eq_true_eq, beq_iff_eq]
  tauto

/-- The core executes the instruction that it fetches. -/
theorem coreRun_of_fetches (h : s.fetches c op t = true) : s.coreRun (c % 8) op = t.coreDo1 c op := by
  obtain ⟨hc, hr, -, hf, hd⟩ := fetches_iff.mp h
  unfold State.coreRun
  rw [Nat.mod_eq_of_lt hc, hr, if_neg (by decide), hf]
  simp only [hd, if_true]

theorem coreRun_of_stopped (h : s.coreRuns c = false) : s.coreRun c op = s := by
  unfold State.coreRun
  rw [if_pos h]

/-- A field's new value is nothing to the cores. -/
@[simp] theorem core_set (s : State) (l : Loc) (v d : Nat) : (s.set l v).core d = s.core d := by
  simp [State.core]

theorem upd_congr {α : Type} {f g : α → α} {d : α} : ∀ {l : List α} {i : Nat}, f (l.getD i d) = g (l.getD i d) → upd l i f = upd l i g
  | [], _, _ => rfl
  | _ :: _, 0, h => congrArg (· :: _) h
  | _ :: t, i + 1, h => congrArg (_ :: ·) (upd_congr (l := t) (i := i) h)

/-- An update that takes the core's own value may as well name it. -/
theorem setCore_congr {f g : CoreSt → CoreSt} (h : f (s.core c) = g (s.core c)) : s.setCore c f = s.setCore c g := by
  rw [State.setCore, upd_congr h, State.setCore]

/-- SWAP_ARMED and the boundary are not of STATE. -/
theorem swapDue_state (s : State) (c v : Nat) : (s.set (CLOVE.STATE c) v).swapDue c = s.swapDue c := by
  have hne : (CLOVE.SWAP_ARMED c).key ≠ (CLOVE.STATE c).key := by
    simp only [Loc.key, CLOVE.SWAP_ARMED, CLOVE.STATE]
    omega
  simp [State.swapDue, State.on, get_set_other _ _ hne]

/-- Reading a register that is not an accumulator leaves the core as it was. -/
theorem read_snd {k : CoreSt} {r : Nat} (h : r < 8 ∨ 12 ≤ r) : (k.read r).2 = k := by
  unfold CoreSt.read
  split_ifs <;> first | rfl | omega

/-! ### The instructions of class 4 -/

theorem coreDo1_nop (t : State) (c : Nat) : t.coreDo1 c (.ctl 0 0 false 0 0 0) = (t.set (CLOVE.STATE c) 1).coreNext c := rfl
theorem coreDo1_jmp (t : State) (c n a : Nat) : t.coreDo1 c (.ctl 1 n false 0 0 a) = (t.set (CLOVE.STATE c) 1).coreJmp c n a := rfl
theorem coreDo1_jsr (t : State) (c n a : Nat) : t.coreDo1 c (.ctl 2 n false 0 0 a) = (t.set (CLOVE.STATE c) 1).coreJsr c n a := rfl
theorem coreDo1_rts (t : State) (c n : Nat) : t.coreDo1 c (.ctl 3 n false 0 0 0) = (t.set (CLOVE.STATE c) 1).coreRts c n := rfl
theorem coreDo1_reti (t : State) (c : Nat) : t.coreDo1 c (.ctl 4 0 false 0 0 0) = (t.set (CLOVE.STATE c) 1).coreReti c := rfl
theorem coreDo1_do (t : State) (c : Nat) (f : Bool) (r n a : Nat) :
    t.coreDo1 c (.ctl 5 0 f r n a) = (t.set (CLOVE.STATE c) 1).coreDo c f r n a := rfl
theorem coreDo1_yield (t : State) (c : Nat) : t.coreDo1 c (.ctl 6 0 false 0 0 0) = (t.set (CLOVE.STATE c) 1).coreYield c := rfl
theorem coreDo1_wait (t : State) (c : Nat) : t.coreDo1 c (.ctl 7 0 false 0 0 0) = (t.set (CLOVE.STATE c) 1).coreWait c := rfl
theorem coreDo1_halt (t : State) (c : Nat) : t.coreDo1 c (.ctl 8 0 false 0 0 0) = (t.set (CLOVE.STATE c) 1).coreHalt c := by
  unfold State.coreDo1
  split <;> simp_all
theorem coreDo1_ei (t : State) (c : Nat) :
    t.coreDo1 c (.ctl 9 0 false 0 0 0) = ((t.set (CLOVE.STATE c) 1).setCore c (fun k => k.srSet srIE)).coreNext c := rfl
theorem coreDo1_di (t : State) (c : Nat) :
    t.coreDo1 c (.ctl 10 0 false 0 0 0) = ((t.set (CLOVE.STATE c) 1).setCore c (fun k => k.srClr srIE)).coreNext c := rfl

/-- What DO leaves in the loop's registers and in their copies. -/
def CoreSt.loop (k : CoreSt) (n target : Nat) : CoreSt :=
  let k := ((k.drop 36).drop 37).drop 38
  let ls := (k.pc + 1) % 2 ^ 15
  { k with lc := n, lcV := n, ls := ls, lsV := ls, le := target, leV := target }

theorem coreDo_eq (s : State) (c : Nat) (fromReg : Bool) (reg count target : Nat) :
    s.coreDo c fromReg reg count target =
      let rd := if fromReg then (s.core c).read reg else (count, s.core c)
      let s := s.setCore c (fun _ => rd.2.loop rd.1 target)
      if rd.1 = 0 then (s.coreNext c).setCore c (fun k => { k with pc := (target + 1) % 2 ^ 15 }) else s.coreNext c := by
  rw [State.coreDo]
  rfl

/-- An update by a constant that is the core's own new value. -/
theorem setCore_own (f : CoreSt → CoreSt) : s.setCore c (fun _ => f (s.core c)) = s.setCore c f := setCore_congr rfl

/-- DO with an immediate count that is not 0. -/
theorem coreDo_count {n : Nat} (a : Nat) (h : 0 < n) : s.coreDo c false 0 n a = (s.setCore c (fun k => k.loop n a)).coreNext c := by
  rw [coreDo_eq, ← setCore_own (fun k => k.loop n a)]
  simp only [Bool.false_eq_true, if_false, if_neg h.ne']

/-- DO with a count of 0 goes on after the body. -/
theorem coreDo_zero (a : Nat) :
    s.coreDo c false 0 0 a = ((s.setCore c (fun k => k.loop 0 a)).coreNext c).setCore c (fun k => { k with pc := (a + 1) % 2 ^ 15 }) := by
  rw [coreDo_eq, ← setCore_own (fun k => k.loop 0 a)]
  simp only [Bool.false_eq_true, if_false, if_true]

/-- DO with a count from a register that is not an accumulator, and not 0. -/
theorem coreDo_reg {r : Nat} (a : Nat) (hr : r < 8 ∨ 12 ≤ r) (h : ((s.core c).read r).1 ≠ 0) :
    s.coreDo c true r 0 a = (s.setCore c (fun k => k.loop (k.read r).1 a)).coreNext c := by
  rw [coreDo_eq, ← setCore_own (fun k => k.loop (k.read r).1 a)]
  simp only [if_true, if_neg h, read_snd hr]

/-- Settles O33: each clause is the branch of its instruction on the state that the fetch leaves. -/
theorem cloveControl : Obligations.CloveControl := by
  unfold Obligations.CloveControl
  refine ⟨?nop, ?jmp, ?jmpNot, ?jsr, ?jsrFull, ?jsrNot, ?rts, ?rtsEmpty, ?rtsNot, ?reti, ?doCount, ?doZero, ?doReg, ?yieldSwap, ?waitSwap,
    ?yieldOn, ?waitOn, ?waitHeld, ?halt, ?ei, ?di, ?stopped⟩
  case nop =>
    intro s t c h u
    rw [exec_nop, execNop, coreRun_of_fetches h, coreDo1_nop]
  case jmp =>
    intro s t c n a h hn u
    rw [exec_jmp, execJmp, coreRun_of_fetches h, coreDo1_jmp, State.coreJmp, core_set, if_pos hn, State.branchTo]
  case jmpNot =>
    intro s t c n a h hn u
    rw [exec_jmp, execJmp, coreRun_of_fetches h, coreDo1_jmp, State.coreJmp, core_set, hn, if_neg (by decide)]
  case jsr =>
    intro s t c n a h hn hsd u
    rw [exec_jsr, execJsr, coreRun_of_fetches h, coreDo1_jsr, State.coreJsr]
    simp only [core_set, hn, Bool.true_eq_false, if_false, if_neg hsd.not_ge]
    rfl
  case jsrFull =>
    intro s t c n a h hn hsd u
    rw [exec_jsr, execJsr, coreRun_of_fetches h, coreDo1_jsr, State.coreJsr]
    simp only [core_set, hn, Bool.true_eq_false, if_false, if_pos hsd]
    rfl
  case jsrNot =>
    intro s t c n a h hn u
    rw [exec_jsr, execJsr, coreRun_of_fetches h, coreDo1_jsr, State.coreJsr]
    simp only [core_set, hn, if_true]
    rfl
  case rts =>
    intro s t c n h hn hpos hsd u
    rw [exec_rts, execRts, coreRun_of_fetches h, coreDo1_rts, State.coreRts]
    simp only [core_set, hn, Bool.true_eq_false, if_false]
    rw [if_neg (by omega)]
  case rtsEmpty =>
    intro s t c n h hn hsd u
    rw [exec_rts, execRts, coreRun_of_fetches h, coreDo1_rts, State.coreRts]
    simp only [core_set, hn, Bool.true_eq_false, if_false, hsd, true_or, if_true]
    rfl
  case rtsNot =>
    intro s t c n h hn u
    rw [exec_rts, execRts, coreRun_of_fetches h, coreDo1_rts, State.coreRts]
    simp only [core_set, hn, if_true]
    rfl
  case reti =>
    intro s t c h u
    rw [exec_reti, execReti, coreRun_of_fetches h, coreDo1_reti, State.coreReti]
    simp only [core_set]
    rfl
  case doCount =>
    intro s t c n a h hn u
    rw [exec_doLoop, execDo, coreRun_of_fetches h, coreDo1_do, coreDo_count a hn]
    rfl
  case doZero =>
    intro s t c a h u
    rw [exec_doLoop, execDo, coreRun_of_fetches h, coreDo1_do, coreDo_zero]
    rfl
  case doReg =>
    intro s t c r a h hr hn u
    rw [exec_doLoop, execDo, coreRun_of_fetches h, coreDo1_do, coreDo_reg a hr (by rwa [core_set])]
    rfl
  case yieldSwap =>
    intro s t c h hd u
    rw [exec_yield, execYield, coreRun_of_fetches h, coreDo1_yield, State.coreYield, swapDue_state, if_pos hd]
  case waitSwap =>
    intro s t c h hd u
    rw [exec_wait, execWait, coreRun_of_fetches h, coreDo1_wait, State.coreWait, swapDue_state, if_pos hd]
  case yieldOn =>
    intro s t c h hd u
    rw [exec_yield, execYield, coreRun_of_fetches h, coreDo1_yield, State.coreYield, swapDue_state, hd, if_neg (by decide)]
  case waitOn =>
    intro s t c h hd hp u
    rw [exec_wait, execWait, coreRun_of_fetches h, coreDo1_wait, State.coreWait, swapDue_state, hd, if_neg (by decide), core_set, if_pos hp]
  case waitHeld =>
    intro s t c h hd hp u
    rw [exec_wait, execWait, coreRun_of_fetches h, coreDo1_wait, State.coreWait, swapDue_state, hd, if_neg (by decide), core_set,
      if_neg (not_not.mpr hp)]
  case halt =>
    intro s t c h u
    rw [exec_halt, execHalt, coreRun_of_fetches h, coreDo1_halt, State.coreHalt]
  case ei =>
    intro s t c h u
    rw [exec_ei, execEi, coreRun_of_fetches h, coreDo1_ei]
    rfl
  case di =>
    intro s t c h u
    rw [exec_di, execDi, coreRun_of_fetches h, coreDo1_di]
    rfl
  case stopped =>
    intro s c h
    exact congrArg Host.Outcome.next (coreRun_of_stopped h)

end Sys2Proof.Machine
end

section
/-! PROOFS. Clove moves (O32): the file of registers, what the end of an instruction keeps of it, and the stores to X memory. -/

namespace Sys2Proof.Machine

/-! ### The file of registers (R359, R363) -/

theorem toSigned_trunc (w v : Nat) : toSigned w (v % 2 ^ w) = toSigned w v := by
  simp [toSigned]

theorem place_trunc (v : Nat) : place (v % 2 ^ 24) = place v := by
  rw [place, place, toSigned_trunc]

/-- The registers in the order of their codes. -/
def CoreSt.file (k : CoreSt) : List Nat :=
  k.x ++ (k.y ++ (k.acc ++ (k.i ++ (k.m ++ (k.k ++ [k.lc, k.ls, k.le, k.sr, k.spc, k.ssr])))))

/-- Each file of registers has its length. -/
structure CoreSt.Full (k : CoreSt) : Prop where
  x : k.x.length = 4
  y : k.y.length = 4
  acc : k.acc.length = 4
  i : k.i.length = 8
  m : k.m.length = 8
  k : k.k.length = 8

/-- A register's value, read off the files of registers. -/
theorem reg_eq (k : CoreSt) (r : Nat) :
    k.reg r =
      if r < 4 then k.x.getD r 0 else if r < 8 then k.y.getD (r - 4) 0 else if r < 12 then k.acc.getD (r - 8) 0
      else if r < 20 then k.i.getD (r - 12) 0 else if r < 28 then k.m.getD (r - 20) 0 else if r < 36 then k.k.getD (r - 28) 0
      else ([k.lc, k.ls, k.le, k.sr, k.spc, k.ssr] : List Nat).getD (r - 36) 0 := by
  unfold CoreSt.reg CoreSt.read
  split_ifs <;> first | rfl | omega

theorem reg_eq_file {k : CoreSt} (hk : k.Full) (r : Nat) : k.reg r = k.file.getD r 0 := by
  obtain ⟨hx, hy, ha, hi, hm, hk⟩ := hk
  simp only [reg_eq, CoreSt.file, List.getD_eq_getElem?_getD, List.getElem?_append, hx, hy, ha, hi, hm, hk,
    Nat.sub_sub, Nat.reduceAdd]
  split_ifs <;> first | rfl | omega

theorem set_file {k : CoreSt} (hk : k.Full) (r v : Nat) :
    k.file.set r v =
      if r < 4 then k.x.set r v ++ (k.y ++ (k.acc ++ (k.i ++ (k.m ++ (k.k ++ [k.lc, k.ls, k.le, k.sr, k.spc, k.ssr])))))
      else if r < 8 then k.x ++ (k.y.set (r - 4) v ++ (k.acc ++ (k.i ++ (k.m ++ (k.k ++ [k.lc, k.ls, k.le, k.sr, k.spc, k.ssr])))))
      else if r < 12 then k.x ++ (k.y ++ (k.acc.set (r - 8) v ++ (k.i ++ (k.m ++ (k.k ++ [k.lc, k.ls, k.le, k.sr, k.spc, k.ssr])))))
      else if r < 20 then k.x ++ (k.y ++ (k.acc ++ (k.i.set (r - 12) v ++ (k.m ++ (k.k ++ [k.lc, k.ls, k.le, k.sr, k.spc, k.ssr])))))
      else if r < 28 then k.x ++ (k.y ++ (k.acc ++ (k.i ++ (k.m.set (r - 20) v ++ (k.k ++ [k.lc, k.ls, k.le, k.sr, k.spc, k.ssr])))))
      else if r < 36 then k.x ++ (k.y ++ (k.acc ++ (k.i ++ (k.m ++ (k.k.set (r - 28) v ++ [k.lc, k.ls, k.le, k.sr, k.spc, k.ssr])))))
      else k.x ++ (k.y ++ (k.acc ++ (k.i ++ (k.m ++ (k.k ++ [k.lc, k.ls, k.le, k.sr, k.spc, k.ssr].set (r - 36) v))))) := by
  obtain ⟨hx, hy, ha, hi, hm, hk⟩ := hk
  simp only [CoreSt.file, List.set_append, hx, hy, ha, hi, hm, hk, Nat.sub_sub, Nat.reduceAdd]
  split_ifs <;> first | rfl | omega

/-- A register written holds the value in its form, and no other changes. -/
theorem file_write {k : CoreSt} {r : Nat} (hk : k.Full) (v : Nat) (hr : r < 42) : (k.write r v).file = k.file.set r (regValue r v) := by
  have hmod : v % 2 ^ 24 % 2 ^ 15 = v % 2 ^ 15 := Nat.mod_mod_of_dvd _ (by decide)
  have hmask : v % 2 ^ 24 &&& srMask = v &&& srMask := by
    rw [← Nat.and_two_pow_sub_one_eq_mod, Nat.and_assoc]
    rfl
  rw [CoreSt.write, set_file hk, regValue]
  by_cases h1 : r < 4
  · rw [if_pos h1, if_pos h1, if_neg (by omega), if_neg (by omega), if_neg (by omega)]
    rfl
  rw [if_neg h1, if_neg h1]
  by_cases h2 : r < 8
  · rw [if_pos h2, if_pos h2, if_neg (by omega), if_neg (by omega), if_neg (by omega)]
    rfl
  rw [if_neg h2, if_neg h2]
  by_cases h3 : r < 12
  · rw [if_pos h3, if_pos h3, if_pos (by omega), place_trunc]
    rfl
  have hacc : ¬ (8 ≤ r ∧ r < 12) := fun h => h3 h.2
  rw [if_neg h3, if_neg h3, if_neg hacc]
  by_cases h4 : r < 20
  · rw [if_pos h4, if_pos h4, if_neg (by omega), if_neg (by omega)]
    rfl
  rw [if_neg h4, if_neg h4]
  by_cases h5 : r < 28
  · rw [if_pos h5, if_pos h5, if_neg (by omega), if_neg (by omega)]
    rfl
  rw [if_neg h5, if_neg h5]
  by_cases h6 : r < 36
  · rw [if_pos h6, if_pos h6, if_neg (by omega), if_neg (by omega)]
    rfl
  rw [if_neg h6, if_neg h6, hmod, hmask]
  obtain rfl | rfl | rfl | rfl | rfl | rfl : r = 36 ∨ r = 37 ∨ r = 38 ∨ r = 39 ∨ r = 40 ∨ r = 41 := by omega
  all_goals rfl

theorem file_length {k : CoreSt} (hk : k.Full) : k.file.length = 42 := by
  obtain ⟨hx, hy, ha, hi, hm, hk⟩ := hk
  simp [CoreSt.file, hx, hy, ha, hi, hm, hk]

theorem reg_of_file {k j : CoreSt} (hk : k.Full) (hj : j.Full) {r v : Nat} (hr : r < 42) (h : j.file = k.file.set r v) :
    j.reg r = v ∧ ∀ q, q ≠ r → j.reg q = k.reg q := by
  refine ⟨?_, fun q hq => ?_⟩
  · rw [reg_eq_file hj, h, List.getD_eq_getElem?_getD, List.getElem?_set_self (by rw [file_length hk]; exact hr)]
    rfl
  · rw [reg_eq_file hj, reg_eq_file hk, h, List.getD_eq_getElem?_getD, List.getElem?_set_ne hq.symm, List.getD_eq_getElem?_getD]

/-- No result in flight is due with the instruction at hand. -/
theorem age_of_late {k : CoreSt} (h : ∀ f ∈ k.flight, 1 < f.1) : k.age = { k with flight := k.flight.map (fun f => (f.1 - 1, f.2)) } := by
  have hdue : k.flight.filter (fun f => decide (f.1 ≤ 1)) = [] := List.filter_eq_nil_iff.mpr fun f hf => by simpa using h f hf
  have hlate : k.flight.filter (fun f => decide (1 < f.1)) = k.flight := List.filter_eq_self.mpr fun f hf => by simpa using h f hf
  rw [CoreSt.age, hdue, hlate, List.foldl_nil]

/-- Where the instruction at PC does not end a turn of the loop, and no branch and no result is due, PC goes on. -/
theorem advance_of_quiet {k : CoreSt} (hb : k.branch = []) (hl : ¬ (k.pc = k.leV ∧ 1 < k.lcV)) (hf : ∀ f ∈ k.flight, 1 < f.1) :
    k.advance = { k with pc := (k.pc + 1) % 2 ^ 15, flight := k.flight.map (fun f => (f.1 - 1, f.2)) } := by
  have hback : (k.pc == k.leV && decide (1 < k.lcV)) = false := by simpa using hl
  have hbr : CoreSt.branches { k with pc := (k.pc + 1) % 2 ^ 15 } = { k with pc := (k.pc + 1) % 2 ^ 15 } := by
    unfold CoreSt.branches
    simp only [hb, List.find?_nil, List.filter_nil, List.map_nil]
  rw [CoreSt.advance, hback]
  simp only [Bool.false_eq_true, if_false]
  rw [hbr]
  exact age_of_late (k := { k with pc := (k.pc + 1) % 2 ^ 15 }) hf

theorem quiet_iff {k : CoreSt} : k.quiet = true ↔ k.flight = [] ∧ k.branch = [] ∧ ¬ (k.pc = k.leV ∧ 1 < k.lcV) := by
  simp only [CoreSt.quiet, Bool.and_eq_true, List.isEmpty_iff, Bool.not_eq_true', Bool.and_eq_false_iff, beq_eq_false_iff_ne,
    decide_eq_false_iff_not, and_assoc, not_and_or, ne_eq]

theorem steps_iff {ks : List Nat} {k j : CoreSt} :
    k.steps ks j = true ↔ (∀ r, r < 42 → r ∈ ks ∨ j.reg r = k.reg r) ∧ j.stack = k.stack ∧ j.pc = (k.pc + 1) % 2 ^ 15 := by
  simp only [CoreSt.steps, Bool.and_eq_true, List.all_eq_true, List.mem_range, Bool.or_eq_true, List.contains_iff_mem, beq_iff_eq, and_assoc]

/-- From `k` to `j` an instruction has written results: its place in the program stands, and what it left in flight is not due. -/
structure CoreSt.Wrote (k j : CoreSt) : Prop where
  pc : j.pc = k.pc
  stack : j.stack = k.stack
  branch : j.branch = k.branch
  leV : j.leV = k.leV
  lcV : j.lcV = k.lcV
  flight : ∀ f ∈ j.flight, f ∈ k.flight ∨ f.1 = 3

theorem drop_wrote (k : CoreSt) (n : Nat) : k.Wrote (k.drop n) :=
  ⟨rfl, rfl, rfl, rfl, rfl, fun _ hf => .inl (List.mem_of_mem_filter hf)⟩

theorem fly_wrote (k : CoreSt) (n v : Nat) : k.Wrote (k.fly 3 n v) :=
  ⟨rfl, rfl, rfl, rfl, rfl, fun _ hf => (List.mem_append.mp hf).imp id fun h => by rw [List.mem_singleton.mp h]⟩

theorem CoreSt.Wrote.trans {k j i : CoreSt} (h : k.Wrote j) (h' : j.Wrote i) : k.Wrote i :=
  ⟨h'.pc.trans h.pc, h'.stack.trans h.stack, h'.branch.trans h.branch, h'.leV.trans h.leV, h'.lcV.trans h.lcV,
    fun f hf => (h'.flight f hf).elim (h.flight f) .inr⟩

theorem CoreSt.Wrote.fly {k j : CoreSt} (h : k.Wrote j) (n v : Nat) : k.Wrote (j.fly 3 n v) := h.trans (fly_wrote j n v)

theorem loadAcc_wrote (k : CoreSt) (a v : Nat) : k.Wrote (k.loadAcc a v) :=
  have h := (drop_wrote k (8 + a)).trans (drop_wrote _ (48 + a))
  ⟨h.pc, h.stack, h.branch, h.leV, h.lcV, h.flight⟩

theorem setI_wrote (k : CoreSt) (n v : Nat) : k.Wrote (k.setI n v) :=
  have h := drop_wrote k (12 + n)
  ⟨h.pc, h.stack, h.branch, h.leV, h.lcV, h.flight⟩

/-- Writes to registers alone. -/
theorem CoreSt.Wrote.same {k j : CoreSt} (hp : j.pc = k.pc) (hs : j.stack = k.stack) (hb : j.branch = k.branch) (he : j.leV = k.leV)
    (hl : j.lcV = k.lcV) (hf : j.flight = k.flight) : k.Wrote j :=
  ⟨hp, hs, hb, he, hl, fun _ h => .inl (hf ▸ h)⟩

theorem CoreSt.Wrote.ite {k j i : CoreSt} {p : Prop} {_ : Decidable p} (h : k.Wrote j) (h' : k.Wrote i) : k.Wrote (if p then j else i) := by
  split
  · exact h
  · exact h'

theorem CoreSt.Full.ite {j i : CoreSt} {p : Prop} {_ : Decidable p} (h : j.Full) (h' : i.Full) : (if p then j else i).Full := by
  split
  · exact h
  · exact h'

theorem write_wrote (k : CoreSt) (r v : Nat) : k.Wrote (k.write r v) := by
  rw [CoreSt.write]
  repeat' apply CoreSt.Wrote.ite
  all_goals first
    | exact loadAcc_wrote _ _ _
    | exact .same rfl rfl rfl rfl rfl rfl
    | (refine .fly ?_ _ _; exact .same rfl rfl rfl rfl rfl rfl)

theorem write_full {k : CoreSt} (h : k.Full) (r v : Nat) : (k.write r v).Full := by
  obtain ⟨hx, hy, ha, hi, hm, hk⟩ := h
  rw [CoreSt.write]
  repeat' apply CoreSt.Full.ite
  all_goals constructor <;> first | assumption | exact (List.length_set ..).trans ‹_›

/-- After an instruction that wrote results, with nothing before it in flight, PC goes on and the registers stand. -/
theorem advance_of_wrote {k j : CoreSt} (hq : k.quiet = true) (h : k.Wrote j) :
    j.advance = { j with pc := (k.pc + 1) % 2 ^ 15, flight := j.flight.map (fun f => (f.1 - 1, f.2)) } := by
  obtain ⟨hf, hb, hl⟩ := quiet_iff.mp hq
  rw [advance_of_quiet (h.branch.trans hb) (by rwa [h.pc, h.leV, h.lcV]), h.pc]
  intro f hf'
  have h3 : f ∈ k.flight ∨ f.1 = 3 := h.flight f hf'
  simp only [hf, List.not_mem_nil, false_or] at h3
  omega

theorem reg_advance_of_wrote {k j : CoreSt} (hq : k.quiet = true) (h : k.Wrote j) (r : Nat) : j.advance.reg r = j.reg r := by
  rw [advance_of_wrote hq h, reg_eq, reg_eq]

theorem steps_of_wrote {k j : CoreSt} {ks : List Nat} (hq : k.quiet = true) (h : k.Wrote j)
    (hr : ∀ r, r < 42 → r ∉ ks → j.reg r = k.reg r) : k.steps ks j.advance = true := by
  refine steps_iff.mpr ⟨fun r hlt => ?_, ?_, ?_⟩
  · rw [reg_advance_of_wrote hq h]
    exact or_iff_not_imp_left.mpr (hr r hlt)
  · rw [advance_of_wrote hq h]
    exact h.stack
  · rw [advance_of_wrote hq h]


/-! ### The number of cores -/

/-- The block's eight cores are present. -/
structure State.Eight (s : State) : Prop where
  cores : s.cores.length = 8

namespace State.Eight

variable {s t : State}

/-- A change made under a condition. -/
theorem upon {p : Prop} {_ : Decidable p} (h : s.Eight) (f : s.Eight → t.Eight) : (if p then t else s).Eight := by
  split
  · exact f h
  · exact h

theorem ite {p : Prop} {_ : Decidable p} (h : s.Eight) (ht : t.Eight) : (if p then s else t).Eight := by
  split
  · exact h
  · exact ht

/-- `ite` where a branch answers a value and a state. -/
theorem ite₂ {α : Type} {a b : α × State} {p : Prop} {_ : Decidable p} (h : a.2.Eight) (h' : b.2.Eight) : (if p then a else b).2.Eight := by
  split
  · exact h
  · exact h'

/-- The state that a `match` on a pair names. -/
theorem of_eq {α : Type} {p : α × State} {a : α} (h : p.2.Eight) (e : p = (a, t)) : t.Eight := by
  subst e
  exact h

theorem set {l v} (h : s.Eight) : (s.set l v).Eight := { h with }
theorem count {l n} (h : s.Eight) : (s.count l n).Eight := { h with }
theorem set64 {lo hi v} (h : s.Eight) : (s.set64 lo hi v).Eight := { h with }
theorem setByte {a v} (h : s.Eight) : (s.setByte a v).Eight := { h with }
theorem setEcc {m i v} (h : s.Eight) : (s.setEcc m i v).Eight := { h with }
theorem setCore {c f} (h : s.Eight) : (s.setCore c f).Eight := ⟨(length_upd ..).trans h.cores⟩

theorem queueEvt {p} (h : s.Eight) : (s.queueEvt p).Eight := by
  unfold State.queueEvt
  split
  · exact .ite { h with } (.ite { h with } h.count)
  · exact .ite { h with } h.count

theorem deliver {pg b} (h : s.Eight) : (s.deliver pg b).Eight :=
  .upon (h.upon fun h => ⟨(length_upd ..).trans h.cores⟩) (·.queueEvt)

theorem raise {pg b} (h : s.Eight) : (s.raise pg b).Eight :=
  .ite { h with } (.upon { h with } (·.deliver))

theorem logAs {cls type sev pg w4 w5 w6} (h : s.Eight) : (s.logAs cls type sev pg w4 w5 w6).Eight :=
  have lost {p : Prop} {_ : Decidable p} : (if p then (s.count LOG.LOST_CNT).raise 0x111 EV.LOG.LOST else s).Eight := h.upon (·.count.raise)
  .set { State.Eight.ite lost lost.count.raise with }

theorem raiseLog {sev pg b} (h : s.Eight) : (s.raiseLog sev pg b).Eight := h.raise.logAs

theorem eccNote {m i b req ue} (h : s.Eight) : (s.eccNote m i b req ue).Eight := h.set.set.set

theorem eccCE {m i b req} (h : s.Eight) : (s.eccCE m i b req).Eight :=
  (h.eccNote.count.set.raise.upon (·.raise)).upon fun h => ⟨(h.logAs).cores⟩

theorem eccUE {m i req} (h : s.Eight) : (s.eccUE m i req).Eight := h.eccNote.count.set.raiseLog

theorem eccReadWord {req m i} (h : s.Eight) : (s.eccReadWord req m i).2.Eight := .ite₂ h <| .ite₂ h <| .ite₂ h.eccUE h.eccCE

theorem eccRead {req a} (h : s.Eight) : (s.eccRead req a).2.Eight := by
  unfold State.eccRead
  split
  · exact h
  · exact h.eccReadWord

theorem readMem {req a} (h : s.Eight) : (s.readMem req a).2.Eight := by
  unfold State.readMem
  split
  next e => exact h.eccRead.of_eq e
  next e => exact h.eccRead.of_eq e

theorem coreFetch {c} (h : s.Eight) : (s.coreFetch c).2.Eight := by
  have hr {s : State} {k a} (h : s.Eight) : (s.readMem k a).2.Eight := h.readMem
  rw [show State.coreFetch = _ from by delta State.coreFetch; rfl]
  -- the kernel must not evaluate the read at the program's address
  obtain ⟨read, hread⟩ : ∃ f, f = State.readMem := ⟨_, rfl⟩
  rw [← hread] at hr ⊢
  dsimp only
  split
  next e => exact (hr h).of_eq e
  next e =>
    split
    all_goals next e' => exact (hr ((hr h).of_eq e)).of_eq e'

theorem coreNext {c} (h : s.Eight) : (s.coreNext c).Eight := h.set64.setCore

end State.Eight

/-- The fetch leaves the eight cores. -/
theorem eight_of_fetches {s t : State} {c : Nat} {op : CloveOp} (h : s.fetches c op t = true) : t.Eight := by
  obtain ⟨-, -, hl, hf, -⟩ := fetches_iff.mp h
  exact (State.Eight.coreFetch ⟨hl⟩).of_eq hf

/-! ### The completion of an instruction -/

theorem instrDone_sets (s : State) (c : Nat) : SameRegs (coreKeys c) s (s.instrDone c) := by
  unfold State.instrDone
  extract_lets n
  exact (SameRegs.refl s).set64 (by simp [coreKeys]) (by simp [coreKeys])

theorem instrDone_mem (s : State) (c : Nat) : (s.instrDone c).mem = s.mem := by
  unfold State.instrDone
  extract_lets n
  exact State.set64_mem ..

theorem instrDone_cores (s : State) (c : Nat) : (s.instrDone c).cores = s.cores := by
  unfold State.instrDone
  extract_lets n
  exact State.set64_cores ..

theorem coreNext_mem (s : State) (c : Nat) : (s.coreNext c).mem = s.mem := by
  rw [State.coreNext, State.setCore_mem, instrDone_mem]

theorem coreNext_sets (s : State) (c : Nat) : SameRegs (coreKeys c) s (s.coreNext c) :=
  (instrDone_sets s c).of_regs (State.setCore_regs ..)

theorem core_setCore {s : State} {c : Nat} (f : CoreSt → CoreSt) (hc : c < s.cores.length) : (s.setCore c f).core c = f (s.core c) :=
  getD_upd_same _ f {} hc

theorem core_coreNext {s : State} {c : Nat} (hc : c < s.cores.length) : (s.coreNext c).core c = (s.core c).advance := by
  have hlen : c < (s.instrDone c).cores.length := by rwa [instrDone_cores]
  rw [State.coreNext, core_setCore _ hlen, State.core, instrDone_cores, State.core]

/-- An instruction that writes registers alone: what it leaves is the core with the writes, advanced. -/
theorem next_of_writes {s t : State} {c : Nat} {op : CloveOp} (h : s.fetches c op t = true) (f : CoreSt → CoreSt) :
    let u : State := ((t.set (CLOVE.STATE c) 1).setCore c f).coreNext c
    u.core c = (f (t.core c)).advance ∧ u.cores.length = 8 ∧ u.mem = t.mem ∧ SameRegs (coreKeys c) t u := by
  have h8 : t.Eight := eight_of_fetches h
  have hc : c < 8 := (fetches_iff.mp h).1
  have hlen : c < ((t.set (CLOVE.STATE c) 1).setCore c f).cores.length := hc.trans_eq h8.set.setCore.cores.symm
  refine ⟨?_, h8.set.setCore.coreNext.cores, ?_, ?_⟩
  · rw [core_coreNext hlen, core_setCore f (hc.trans_eq h8.set.cores.symm), core_set]
  · rw [coreNext_mem, State.setCore_mem, State.set_mem]
  · have hstate : SameRegs (coreKeys c) t (t.set (CLOVE.STATE c) 1) := (SameRegs.refl t).set (by simp [coreKeys])
    exact (hstate.of_regs (State.setCore_regs ..)).trans (coreNext_sets _ c)

/-! ### What the end of an instruction keeps -/

/-- From `k` to `j` the registers I, M and K keep their values, as results that land reach copies and no register of them. -/
structure CoreSt.Landed (k j : CoreSt) : Prop where
  i : j.i = k.i
  m : j.m = k.m
  k : j.k = k.k

theorem CoreSt.Landed.ite {k j i : CoreSt} {p : Prop} {_ : Decidable p} (h : k.Landed j) (h' : k.Landed i) : k.Landed (if p then j else i) := by
  split
  · exact h
  · exact h'

theorem CoreSt.Landed.trans {k j i : CoreSt} (h : k.Landed j) (h' : j.Landed i) : k.Landed i :=
  ⟨h'.i.trans h.i, h'.m.trans h.m, h'.k.trans h.k⟩

theorem land_landed (k : CoreSt) (t v : Nat) : k.Landed (k.land t v) := by
  rw [CoreSt.land]
  repeat' apply CoreSt.Landed.ite
  all_goals exact ⟨rfl, rfl, rfl⟩

theorem land_flight (k : CoreSt) (t v : Nat) : (k.land t v).flight = k.flight := by
  rw [CoreSt.land]
  simp only [apply_ite CoreSt.flight, ite_self]

theorem foldl_land_landed (l : List (Nat × Nat × Nat)) (k : CoreSt) : k.Landed (l.foldl (fun k f => k.land f.2.1 f.2.2) k) := by
  induction l generalizing k with
  | nil => exact ⟨rfl, rfl, rfl⟩
  | cons f l ih => exact (land_landed k _ _).trans (ih _)

theorem foldl_land_flight (l : List (Nat × Nat × Nat)) (k : CoreSt) : (l.foldl (fun k f => k.land f.2.1 f.2.2) k).flight = k.flight := by
  induction l generalizing k with
  | nil => rfl
  | cons f l ih => exact (ih _).trans (land_flight k _ _)

theorem age_landed (k : CoreSt) : k.Landed k.age := by
  rw [CoreSt.age]
  refine .trans ?_ (foldl_land_landed _ _)
  exact ⟨rfl, rfl, rfl⟩

theorem age_flight (k : CoreSt) : k.age.flight = (k.flight.filter (fun f => decide (1 < f.1))).map (fun f => (f.1 - 1, f.2)) :=
  foldl_land_flight ..

theorem branches_landed (k : CoreSt) : k.Landed k.branches := by
  unfold CoreSt.branches
  dsimp only
  split <;> exact ⟨rfl, rfl, rfl⟩

theorem branches_flight (k : CoreSt) : k.branches.flight = k.flight := by
  unfold CoreSt.branches
  dsimp only
  split <;> rfl

theorem advance_landed (k : CoreSt) : k.Landed k.advance := by
  rw [CoreSt.advance]
  refine .trans (.trans ?_ (branches_landed _)) (age_landed _)
  exact .ite ⟨rfl, rfl, rfl⟩ ⟨rfl, rfl, rfl⟩

/-- A result three instructions off, not of the loop counter, is two off after this one. -/
theorem mem_flight_advance {k : CoreSt} {t v : Nat} (h : (3, t, v) ∈ k.flight) (ht : t ≠ 36) : (2, t, v) ∈ k.advance.flight := by
  rw [CoreSt.advance, age_flight, branches_flight]
  refine List.mem_map.mpr ⟨(3, t, v), List.mem_filter.mpr ⟨?_, rfl⟩, rfl⟩
  split
  · exact List.mem_filter.mpr ⟨h, by simpa using ht⟩
  · exact h

/-- A register of I, M or K is what the instruction left in it. -/
theorem reg_advance {k : CoreSt} {r : Nat} (h : 12 ≤ r) (h' : r < 36) : k.advance.reg r = k.reg r := by
  obtain ⟨hi, hm, hk⟩ := advance_landed k
  rw [reg_eq, reg_eq, hi, hm, hk]
  split_ifs <;> first | rfl | omega

theorem regValue_addr {r : Nat} (v : Nat) (h : 12 ≤ r) (h' : r < 36) : regValue r v = v % 2 ^ 24 := by
  rw [regValue, if_neg (by omega), if_neg (by omega), if_neg (by omega)]

theorem reg_eq_read {k : CoreSt} {r : Nat} (h : r < 8 ∨ 12 ≤ r) : k.reg r = (k.read r).1 := by
  rw [CoreSt.reg, if_neg (by omega)]

/-! ### Reading a register -/

/-- Reading a register may set CL. -/
theorem read_leaves (k : CoreSt) (r : Nat) : (k.read r).2 = k ∨ (k.read r).2 = k.srSet srCL := by
  unfold CoreSt.read
  dsimp only
  split_ifs <;> simp

theorem read_wrote (k : CoreSt) (r : Nat) : k.Wrote (k.read r).2 := by
  obtain h | h := read_leaves k r <;> rw [h] <;> exact .same rfl rfl rfl rfl rfl rfl

theorem read_full {k : CoreSt} (hk : k.Full) (r : Nat) : (k.read r).2.Full := by
  obtain h | h := read_leaves k r <;> rw [h]
  · exact hk
  · exact ⟨hk.x, hk.y, hk.acc, hk.i, hk.m, hk.k⟩

theorem reg_read {k : CoreSt} (hk : k.Full) (r : Nat) {q : Nat} (hq : q ≠ 39) : (k.read r).2.reg q = k.reg q := by
  obtain h | h := read_leaves k r
  · rw [h]
  · have hfile : (k.srSet srCL).file = k.file.set 39 (setBit k.sr srCL) := by
      rw [set_file hk, if_neg (by decide), if_neg (by decide), if_neg (by decide), if_neg (by decide), if_neg (by decide), if_neg (by decide)]
      rfl
    rw [h]
    exact (reg_of_file hk (h ▸ read_full hk r) (by decide) hfile).2 q hq

/-! ### LI, MOVE and ADDI -/

variable {s t : State} {c d r v : Nat}

theorem reg_write {k : CoreSt} (hk : k.Full) {r : Nat} (v : Nat) (hr : r < 42) :
    (k.write r v).reg r = regValue r v ∧ ∀ q, q ≠ r → (k.write r v).reg q = k.reg q :=
  reg_of_file hk (write_full hk r v) hr (file_write hk v hr)

theorem coreDo1_li (t : State) (c r v : Nat) :
    t.coreDo1 c (.li r v) = ((t.set (CLOVE.STATE c) 1).setCore c (fun k => k.write r v)).coreNext c := rfl

theorem coreDo1_move (t : State) (c d r : Nat) :
    t.coreDo1 c (.mvs 0 d r 0) = ((t.set (CLOVE.STATE c) 1).setCore c (fun k => (k.read r).2.write d (k.read r).1)).coreNext c := rfl

theorem coreDo1_addi (t : State) (c d v : Nat) :
    t.coreDo1 c (.mvs 1 d 0 v) = ((t.set (CLOVE.STATE c) 1).setCore c (fun k => k.write d ((k.read d).1 + v))).coreNext c := rfl

theorem moves_li (hf : s.fetches c (.li r v) t = true) (hk : (t.core c).Full) (hr : r < 42) :
    ∃ u : State, exec (.li c r v) s = .next u ∧ ((t.core c).quiet = true → (u.core c).reg r = regValue r v) ∧
      u.cores.length = 8 ∧ ((t.core c).quiet = true → (t.core c).steps [r] (u.core c) = true) ∧ u.mem = t.mem ∧
        SameRegs (coreKeys c) t u := by
  obtain ⟨hcore, hlen, hmem, hregs⟩ := next_of_writes hf (fun k => k.write r v)
  obtain ⟨hsame, hother⟩ := reg_write hk v hr
  refine ⟨_, congrArg Host.Outcome.next ((coreRun_of_fetches hf).trans (coreDo1_li t c r v)), fun hq => ?_, hlen, fun hq => ?_, hmem, hregs⟩
  · rw [hcore, reg_advance_of_wrote hq (write_wrote _ _ _), hsame]
  · rw [hcore]
    exact steps_of_wrote hq (write_wrote _ _ _) fun q _ hq' => hother q (by simpa using hq')

theorem moves_move (hf : s.fetches c (.mvs 0 d r 0) t = true) (hk : (t.core c).Full) (hd : d < 42) :
    ∃ u : State, exec (.move c d r) s = .next u ∧ ((t.core c).quiet = true → (u.core c).reg d = regValue d ((t.core c).read r).1) ∧
      u.cores.length = 8 ∧ ((t.core c).quiet = true → (t.core c).steps [d, 39] (u.core c) = true) ∧ u.mem = t.mem ∧
        SameRegs (coreKeys c) t u := by
  obtain ⟨hcore, hlen, hmem, hregs⟩ := next_of_writes hf (fun k => (k.read r).2.write d (k.read r).1)
  obtain ⟨hsame, hother⟩ := reg_write (read_full hk r) ((t.core c).read r).1 hd
  have hw : (t.core c).Wrote (((t.core c).read r).2.write d ((t.core c).read r).1) := (read_wrote _ _).trans (write_wrote _ _ _)
  refine ⟨_, congrArg Host.Outcome.next ((coreRun_of_fetches hf).trans (coreDo1_move t c d r)), fun hq => ?_, hlen, fun hq => ?_, hmem, hregs⟩
  · rw [hcore, reg_advance_of_wrote hq hw, hsame]
  · rw [hcore]
    refine steps_of_wrote hq hw fun q _ hq' => ?_
    simp only [List.mem_cons, List.not_mem_nil, or_false, not_or] at hq'
    rw [hother q hq'.1, reg_read hk r hq'.2]

theorem moves_addi (hf : s.fetches c (.mvs 1 d 0 v) t = true) (hk : (t.core c).Full) (hd : 12 ≤ d) (hd' : d < 36) :
    ∃ u : State, exec (.addi c d v) s = .next u ∧ (u.core c).reg d = ((t.core c).reg d + v) % 2 ^ 24 ∧
      u.cores.length = 8 ∧ ((t.core c).quiet = true → (t.core c).steps [d] (u.core c) = true) ∧ u.mem = t.mem ∧
        SameRegs (coreKeys c) t u := by
  obtain ⟨hcore, hlen, hmem, hregs⟩ := next_of_writes hf (fun k => k.write d ((k.read d).1 + v))
  obtain ⟨hsame, hother⟩ := reg_write hk (((t.core c).read d).1 + v) (show d < 42 by omega)
  refine ⟨_, congrArg Host.Outcome.next ((coreRun_of_fetches hf).trans (coreDo1_addi t c d v)), ?_, hlen, fun hq => ?_, hmem, hregs⟩
  · rw [hcore, reg_advance hd hd', hsame, regValue_addr _ hd hd', reg_eq_read (.inr hd)]
  · rw [hcore]
    exact steps_of_wrote hq (write_wrote _ _ _) fun q _ hq' => hother q (by simpa using hq')

/-! ### The addresses of ASAVE and ALOAD (R366) -/

theorem stepAddr_linear {i k : Nat} (hk : k = 0) (hi : i + 1 < 2 ^ 24) : stepAddr i 1 k = i + 1 := by
  subst hk
  show (((i : Int) + 1) % (2 ^ 24 : Nat)).toNat = i + 1
  omega

/-- Where K does not ask for another mode, the three addresses follow each other. -/
theorem three_linear {k : CoreSt} {n : Nat} (hk : k.kg.getD n 0 = 0) (hi : k.ig.getD n 0 + 3 < 2 ^ 24) :
    k.three n = ([k.ig.getD n 0, k.ig.getD n 0 + 1, k.ig.getD n 0 + 2], k.ig.getD n 0 + 3) := by
  rw [CoreSt.three]
  simp only [stepAddr_linear hk (show k.ig.getD n 0 + 1 < 2 ^ 24 by omega), stepAddr_linear hk (show k.ig.getD n 0 + 1 + 1 < 2 ^ 24 by omega),
    stepAddr_linear hk (show k.ig.getD n 0 + 1 + 1 + 1 < 2 ^ 24 by omega)]

theorem reg_fly (k : CoreSt) (n t v q : Nat) : (k.fly n t v).reg q = k.reg q := by
  rw [reg_eq, reg_eq]
  rfl

/-- An address update writes its register alone. -/
theorem reg_setI {k : CoreSt} {n : Nat} (v : Nat) {q : Nat} (hq : q ≠ 12 + n) : (k.setI n v).reg q = k.reg q := by
  rw [reg_eq, reg_eq, CoreSt.setI]
  split_ifs
  all_goals try rfl
  exact (by
    show (k.i.set n v).getD (q - 12) 0 = _
    rw [List.getD_eq_getElem?_getD, List.getElem?_set_ne (by omega), List.getD_eq_getElem?_getD])

theorem i_setI {k : CoreSt} {n : Nat} (v : Nat) (hn : n < k.i.length) : (k.setI n v).i.getD n 0 = v := by
  show (k.i.set n v).getD n 0 = v
  simp [List.getD_eq_getElem?_getD, hn]

/-! ### ALOAD -/

theorem coreDo1_aload (t : State) (c d r : Nat) :
    t.coreDo1 c (.mvs 3 d r 0) = (t.set (CLOVE.STATE c) 1).coreAload c (r - 12) (d - 8) := rfl

theorem loadList_three {a b e v0 v1 v2 : Nat} (h0 : s.dataRead c false a = (some v0, s)) (h1 : s.dataRead c false b = (some v1, s))
    (h2 : s.dataRead c false e = (some v2, s)) : s.loadList c [a, b, e] = (.inr [v0, v1, v2], s) := by
  simp only [State.loadList, h0, h1, h2]

theorem moves_aload {v0 v1 v2 : Nat} (hf : s.fetches c (.mvs 3 d r 0) t = true) (hr : 12 ≤ r) (hr' : r < 20) (hd : 8 ≤ d) (hd' : d < 12)
    (hi : (t.core c).i.length = 8) (hkg : (t.core c).kg.getD (r - 12) 0 = 0) (ha : (t.core c).ig.getD (r - 12) 0 + 3 < 2 ^ 24)
    (h0 : (t.set (CLOVE.STATE c) 1).dataRead c false ((t.core c).ig.getD (r - 12) 0) = (some v0, (t.set (CLOVE.STATE c) 1)))
    (h1 : (t.set (CLOVE.STATE c) 1).dataRead c false ((t.core c).ig.getD (r - 12) 0 + 1) = (some v1, (t.set (CLOVE.STATE c) 1)))
    (h2 : (t.set (CLOVE.STATE c) 1).dataRead c false ((t.core c).ig.getD (r - 12) 0 + 2) = (some v2, (t.set (CLOVE.STATE c) 1))) :
    ∃ u : State, exec (.aload c d r) s = .next u ∧
        (2, 8 + (d - 8), v0 + v1 * 2 ^ 24 + v2 % 2 ^ 8 * 2 ^ 48) ∈ (u.core c).flight ∧
        (2, 48 + (d - 8), v0 + v1 * 2 ^ 24 + v2 % 2 ^ 8 * 2 ^ 48) ∈ (u.core c).flight ∧
        (u.core c).i.getD (r - 12) 0 = (t.core c).ig.getD (r - 12) 0 + 3 ∧
      u.cores.length = 8 ∧ ((t.core c).quiet = true → (t.core c).steps [r] (u.core c) = true) ∧ u.mem = t.mem ∧
        SameRegs (coreKeys c) t u := by
  obtain ⟨v, hv⟩ : ∃ v, v = v0 + v1 * 2 ^ 24 + v2 % 2 ^ 8 * 2 ^ 48 := ⟨_, rfl⟩
  obtain ⟨a, hadr⟩ : ∃ a, a = (t.core c).ig.getD (r - 12) 0 := ⟨_, rfl⟩
  rw [← hv, ← hadr]
  have hdo : t.coreDo1 c (.mvs 3 d r 0) = ((t.set (CLOVE.STATE c) 1).setCore c (fun k =>
      ((k.setI (r - 12) (a + 3)).fly 3 (8 + (d - 8)) v).fly 3 (48 + (d - 8)) v)).coreNext c := by
    rw [coreDo1_aload, State.coreAload]
    simp only [core_set, three_linear hkg ha]
    rw [loadList_three h0 h1 h2, hv, hadr]
    rfl
  obtain ⟨hcore, hlen, hmem, hregs⟩ := next_of_writes hf (fun k => ((k.setI (r - 12) (a + 3)).fly 3 (8 + (d - 8)) v).fly 3 (48 + (d - 8)) v)
  have hw : (t.core c).Wrote ((((t.core c).setI (r - 12) (a + 3)).fly 3 (8 + (d - 8)) v).fly 3 (48 + (d - 8)) v) :=
    .fly (.fly (setI_wrote _ _ _) _ _) _ _
  refine ⟨_, congrArg Host.Outcome.next ((coreRun_of_fetches hf).trans hdo), ?_, ?_, ?_, hlen, fun hq => ?_, hmem, hregs⟩
  · rw [hcore]
    refine mem_flight_advance ?_ (by omega)
    simp [CoreSt.fly]
  · rw [hcore]
    refine mem_flight_advance ?_ (by omega)
    simp [CoreSt.fly]
  · rw [hcore, (advance_landed _).i]
    exact i_setI _ (by omega)
  · rw [hcore]
    refine steps_of_wrote hq hw fun q _ hq' => ?_
    have hne : q ≠ 12 + (r - 12) := by
      simp only [List.mem_singleton] at hq'
      omega
    rw [reg_fly, reg_fly, reg_setI _ hne]

/-! ### ASAVE -/

theorem coreDo1_asave (t : State) (c d r : Nat) :
    t.coreDo1 c (.mvs 2 d r 0) = (t.set (CLOVE.STATE c) 1).coreAsave c (r - 8) (d - 12) := rfl

/-- A word of X memory is a code word of its own (R431). -/
theorem codeWordOf_cloveX {x : Nat} (hc : c < 8) (hx : x < 0x10000) : codeWordOf (cloveX c + 4 * x) = some (16 + c, x) := by
  have hcore : (cloveX c + 4 * x - 0x38000000) / 0x100000 = c := by simp only [cloveX]; omega
  have hofs : (cloveX c + 4 * x - 0x38000000) % 0x100000 = 4 * x := by simp only [cloveX]; omega
  unfold codeWordOf
  rw [if_neg (by simp only [sramBase, cloveX]; omega), if_neg (by simp only [captureBase, captureSize, cloveX]; omega),
    if_neg (by simp only [weightBase, cloveX]; omega), if_neg (by simp only [modelBase, cloveX]; omega),
    if_pos (by simp only [cloveX]; omega)]
  dsimp only
  rw [hcore, hofs, if_pos (by omega), Nat.mul_div_cancel_left x (by decide)]

/-- The core with other lines pending. -/
def CoreSt.lined (k : CoreSt) (p : Nat) : CoreSt := { k with ipend := p }

theorem queueEvt_cores (s : State) (p : EvtPkt) : (s.queueEvt p).cores = s.cores := by
  unfold State.queueEvt
  repeat' split
  all_goals rfl

theorem core_upd_lined (s : State) (k c : Nat) :
    ∃ p, (upd s.cores k (fun j => { j with ipend := setBit j.ipend 1 })).getD c {} = (s.core c).lined p := by
  by_cases hk : c = k
  · subst hk
    by_cases hlen : c < s.cores.length
    · exact ⟨setBit (s.core c).ipend 1, getD_upd_same s.cores _ {} hlen⟩
    · refine ⟨(s.core c).ipend, ?_⟩
      rw [List.getD_eq_default _ _ (by rw [length_upd]; omega), State.core, List.getD_eq_default _ _ (by omega)]
      rfl
  · exact ⟨(s.core c).ipend, getD_upd_other _ _ _ hk⟩

theorem core_deliver (s : State) (pg b c : Nat) : ∃ p, (s.deliver pg b).core c = (s.core c).lined p := by
  have htold : ∃ p, (if s.on (HDR.TO_CLOVE pg) then
      { s with cores := upd s.cores (s.get (HDR.CLOVE_SEL pg)) (fun c => { c with ipend := setBit c.ipend 1 }) } else s).core c =
      (s.core c).lined p := by
    split
    · exact core_upd_lined s _ c
    · exact ⟨_, rfl⟩
  unfold State.deliver
  extract_lets s'
  obtain ⟨p, hp⟩ : ∃ p, s'.core c = (s.core c).lined p := htold
  refine ⟨p, ?_⟩
  split
  · rw [State.core, queueEvt_cores]
    exact hp
  · exact hp

/-- An event may set a line of a core, and changes nothing else of it. -/
theorem core_raise (s : State) (pg b c : Nat) : ∃ p, (s.raise pg b).core c = (s.core c).lined p := by
  unfold State.raise
  extract_lets s1 old s2 s3
  split
  · exact ⟨_, rfl⟩
  · split
    · exact core_deliver s3 pg b c
    · exact ⟨_, rfl⟩

theorem raise_bist (s : State) (pg b : Nat) : (s.raise pg b).bist = s.bist := (congrArg State.bist (raise_eventless s pg b) :)

/-- What writing the code words of X memory leaves of the rest: the same memories isolated, the eight cores, and no register changed
but the healing of a code word. -/
structure State.HealsX (s : State) (c : Nat) (u : State) : Prop where
  bist : u.bist = s.bist
  eight : s.Eight → u.Eight
  core : ∃ p, u.core c = (s.core c).lined p
  regs : SameRegs ((ECC.HEAL_CNT (16 + c)).key :: evKeys 0x118) s u

theorem State.HealsX.refl (s : State) (c : Nat) : s.HealsX c s := ⟨rfl, id, ⟨(s.core c).ipend, rfl⟩, .refl s⟩

theorem State.HealsX.trans {u v : State} (h : s.HealsX c u) (h' : u.HealsX c v) : s.HealsX c v := by
  obtain ⟨p, hp⟩ := h.core
  obtain ⟨q, hq⟩ := h'.core
  exact ⟨h'.bist.trans h.bist, h'.eight ∘ h.eight, ⟨q, by rw [hq, hp]; rfl⟩, h.regs.trans h'.regs⟩

theorem State.HealsX.count (h : s.HealsX c t) : s.HealsX c (t.count (ECC.HEAL_CNT (16 + c))) :=
  ⟨(State.count_bist ..).trans h.bist, fun h8 => (h.eight h8).count, by rw [State.core, State.count_cores]; exact h.core,
    h.regs.count (by simp)⟩

theorem State.HealsX.raise {b : Nat} (h : s.HealsX c t) : s.HealsX c (t.raise 0x118 b) := by
  obtain ⟨p, hp⟩ := h.core
  obtain ⟨q, hq⟩ := core_raise t 0x118 b c
  exact ⟨(raise_bist ..).trans h.bist, fun h8 => (h.eight h8).raise, ⟨q, by rw [hq, hp]; rfl⟩,
    h.regs.raise fun k hk => List.mem_cons_of_mem _ hk⟩

theorem State.HealsX.setEcc {m i v : Nat} (h : s.HealsX c t) : s.HealsX c (t.setEcc m i v) :=
  ⟨h.bist, fun h8 => (h.eight h8).setEcc, h.core, h.regs.of_regs rfl⟩

theorem State.HealsX.setByte {a v : Nat} (h : s.HealsX c t) : s.HealsX c (t.setByte a v) :=
  ⟨h.bist, fun h8 => (h.eight h8).setByte, h.core, h.regs.of_regs rfl⟩

theorem eccWhole_of {a m i : Nat} (h : codeWordOf a = some (m, i)) : s.eccWhole a = s.eccWholeWord m i := by
  rw [State.eccWhole, h]

theorem eccWholeWord_heals (s : State) (c i : Nat) : s.HealsX c (s.eccWholeWord (16 + c) i) := by
  unfold State.eccWholeWord
  dsimp only
  split
  · exact .refl s c
  · split
    · exact (State.HealsX.refl s c).setEcc.count.raise
    · exact (State.HealsX.refl s c).setEcc

theorem eccWhole_heals {x : Nat} (hc : c < 8) (hx : x < 0x10000) : s.HealsX c (s.eccWhole (cloveX c + 4 * x)) := by
  rw [eccWhole_of (codeWordOf_cloveX hc hx)]
  exact eccWholeWord_heals s c x

theorem eccWholeWord_mem (s : State) (m i : Nat) : (s.eccWholeWord m i).mem = s.mem := by
  unfold State.eccWholeWord
  dsimp only
  split
  · rfl
  · split
    · rw [raise_mem, State.count_mem, State.setEcc_mem]
    · exact State.setEcc_mem ..

theorem eccWhole_mem (s : State) (a : Nat) : (s.eccWhole a).mem = s.mem := by
  unfold State.eccWhole
  split
  · rfl
  · exact eccWholeWord_mem ..

/-! ### Words of memory -/

theorem byte_setByte (s : State) (a v b : Nat) : (s.setByte a v).byte b = if b = a then v % 2 ^ 8 else s.byte b := by
  unfold State.byte State.setByte
  rw [Memory.read_write]
  split
  · exact BitVec.toNat_ofNat ..
  · rfl

theorem word_setWord_same (s : State) (a v : Nat) : (s.setWord a v).word a = v % 2 ^ 32 := by
  simp only [State.word, State.setWord, byte_setByte]
  simp
  omega

theorem byte_setWord_other (s : State) {a b : Nat} (v : Nat) (h : b < a ∨ a + 4 ≤ b) : (s.setWord a v).byte b = s.byte b := by
  unfold State.setWord
  simp only [byte_setByte]
  rw [if_neg (by omega), if_neg (by omega), if_neg (by omega), if_neg (by omega)]

theorem word_setWord_other (s : State) {a b : Nat} (v : Nat) (h : b + 4 ≤ a ∨ a + 4 ≤ b) : (s.setWord a v).word b = s.word b := by
  unfold State.word
  rw [byte_setWord_other s v (by omega), byte_setWord_other s v (by omega), byte_setWord_other s v (by omega),
    byte_setWord_other s v (by omega)]

theorem read_setWord_other (s : State) {a b : Nat} (v : Nat) (h : b < a ∨ a + 4 ≤ b) :
    Memory.read (s.setWord a v).mem b = Memory.read s.mem b := BitVec.eq_of_toNat_eq (byte_setWord_other s v h)

theorem word_of_mem {s t : State} (h : s.mem = t.mem) (a : Nat) : s.word a = t.word a := by
  unfold State.word State.byte
  rw [h]

/-! ### A store to X memory -/

/-- A store to X memory outside a self-test writes the whole code word. -/
theorem dataWrite_x {x : Nat} (v : Nat) (hc : c < 8) (hx : x < 0x10000) (hiso : s.isolated (16 + c) = false) :
    s.dataWrite c false x v = (true, (s.eccWhole (cloveX c + 4 * x)).setWord (cloveX c + 4 * x) (v % 2 ^ 24)) := by
  have hbyte : dataByte c false x = some (cloveX c + 4 * x) := if_pos hx
  have hcode := codeWordOf_cloveX hc hx
  generalize cloveX c + 4 * x = b at hbyte hcode ⊢
  unfold State.dataWrite
  rw [hbyte]
  dsimp only
  rw [State.writeWhole, hcode]
  simp only [hiso, Bool.false_eq_true, if_false]
  rfl

/-- The state after a store to X memory. -/
def State.storedX (s : State) (c x v : Nat) : State := (s.eccWhole (cloveX c + 4 * x)).setWord (cloveX c + 4 * x) v

theorem storedX_heals {x : Nat} (v : Nat) (hc : c < 8) (hx : x < 0x10000) : s.HealsX c (s.storedX c x v) :=
  (eccWhole_heals hc hx).setByte.setByte.setByte.setByte

theorem word_storedX_same (s : State) (c x v : Nat) : (s.storedX c x v).word (cloveX c + 4 * x) = v % 2 ^ 32 := word_setWord_same ..

theorem word_storedX_other (s : State) (c : Nat) {x y : Nat} (v : Nat) (h : x ≠ y) :
    (s.storedX c x v).word (cloveX c + 4 * y) = s.word (cloveX c + 4 * y) := by
  rw [State.storedX, word_setWord_other _ _ (by omega)]
  exact word_of_mem (eccWhole_mem ..) _

theorem read_storedX_other (s : State) {c x a : Nat} (v : Nat) (h : a < cloveX c + 4 * x ∨ cloveX c + 4 * x + 4 ≤ a) :
    Memory.read (s.storedX c x v).mem a = Memory.read s.mem a := by
  rw [State.storedX, read_setWord_other _ _ h, eccWhole_mem]

theorem isolated_of_heals {m : Nat} (h : s.HealsX c t) (hiso : s.isolated m = false) : t.isolated m = false := by
  rw [State.isolated, h.bist]
  exact hiso

/-- Three stores to X memory that follow each other. -/
def State.stored3 (s : State) (c a u v w : Nat) : State :=
  ((s.storedX c a (u % 2 ^ 24)).storedX c (a + 1) (v % 2 ^ 24)).storedX c (a + 2) (w % 2 ^ 24)

section
variable {a : Nat} (u v w : Nat) (hc : c < 8) (ha : a + 3 < 0x10000)
include hc ha

theorem stored3_heals (s : State) : s.HealsX c (s.stored3 c a u v w) :=
  ((storedX_heals _ hc (by omega)).trans (storedX_heals _ hc (by omega))).trans (storedX_heals _ hc (by omega))

theorem storeList_three (hiso : s.isolated (16 + c) = false) :
    s.storeList c [(a, u), (a + 1, v), (a + 2, w)] = (none, s.stored3 c a u v w) := by
  have h1 : s.HealsX c (s.storedX c a (u % 2 ^ 24)) := storedX_heals _ hc (by omega)
  have h2 : s.HealsX c ((s.storedX c a (u % 2 ^ 24)).storedX c (a + 1) (v % 2 ^ 24)) := h1.trans (storedX_heals _ hc (by omega))
  rw [State.storeList, dataWrite_x u hc (by omega) hiso]
  show State.storeList (s.storedX c a (u % 2 ^ 24)) c _ = _
  rw [State.storeList, dataWrite_x v hc (by omega) (isolated_of_heals h1 hiso)]
  show State.storeList ((s.storedX c a (u % 2 ^ 24)).storedX c (a + 1) (v % 2 ^ 24)) c _ = _
  rw [State.storeList, dataWrite_x w hc (by omega) (isolated_of_heals h2 hiso)]
  rfl

omit hc ha in
theorem word_stored3 (s : State) :
    (s.stored3 c a u v w).word (cloveX c + 4 * a) = u % 2 ^ 24 ∧ (s.stored3 c a u v w).word (cloveX c + 4 * a + 4) = v % 2 ^ 24 ∧
      (s.stored3 c a u v w).word (cloveX c + 4 * a + 8) = w % 2 ^ 24 := by
  have hmod (x : Nat) : x % 2 ^ 24 % 2 ^ 32 = x % 2 ^ 24 := by omega
  rw [show cloveX c + 4 * a + 4 = cloveX c + 4 * (a + 1) by omega, show cloveX c + 4 * a + 8 = cloveX c + 4 * (a + 2) by omega]
  unfold State.stored3
  refine ⟨?_, ?_, ?_⟩
  · rw [word_storedX_other _ _ _ (by omega), word_storedX_other _ _ _ (by omega), word_storedX_same, hmod]
  · rw [word_storedX_other _ _ _ (by omega), word_storedX_same, hmod]
  · rw [word_storedX_same, hmod]

omit hc ha in
theorem read_stored3 (s : State) {b : Nat} (h : b < cloveX c + 4 * a ∨ cloveX c + 4 * a + 12 ≤ b) :
    Memory.read (s.stored3 c a u v w).mem b = Memory.read s.mem b := by
  unfold State.stored3
  rw [read_storedX_other _ _ (by omega), read_storedX_other _ _ (by omega), read_storedX_other _ _ (by omega)]

end

theorem moves_asave (hf : s.fetches c (.mvs 2 d r 0) t = true) (hd : 12 ≤ d) (hd' : d < 20) (hi : (t.core c).i.length = 8)
    (hkg : (t.core c).kg.getD (d - 12) 0 = 0) (ha : (t.core c).ig.getD (d - 12) 0 + 3 < 0x10000)
    (hiso : (t.set (CLOVE.STATE c) 1).isolated (16 + c) = false) :
    ∃ u : State, exec (.asave c d r) s = .next u ∧
        u.word (cloveX c + 4 * (t.core c).ig.getD (d - 12) 0) = (t.core c).accV.getD (r - 8) 0 % 2 ^ 24 ∧
        u.word (cloveX c + 4 * (t.core c).ig.getD (d - 12) 0 + 4) = bits ((t.core c).accV.getD (r - 8) 0) 24 24 ∧
        u.word (cloveX c + 4 * (t.core c).ig.getD (d - 12) 0 + 8) = ofSigned 24 (toSigned 8 (bits ((t.core c).accV.getD (r - 8) 0) 48 8)) ∧
        (u.core c).i.getD (d - 12) 0 = (t.core c).ig.getD (d - 12) 0 + 3 ∧
        (∀ a : Nat, (a < cloveX c + 4 * (t.core c).ig.getD (d - 12) 0 ∨ cloveX c + 4 * (t.core c).ig.getD (d - 12) 0 + 12 ≤ a) →
        Memory.read u.mem a = Memory.read t.mem a) ∧
      u.cores.length = 8 ∧ ((t.core c).quiet = true → (t.core c).steps [d] (u.core c) = true) ∧
        SameRegs (coreKeys c ++ [(ECC.HEAL_CNT (16 + c)).key] ++ evKeys 0x118) t u := by
  have hc : c < 8 := (fetches_iff.mp hf).1
  have h8 : t.Eight := eight_of_fetches hf
  generalize hv : (t.core c).accV.getD (r - 8) 0 = v
  generalize hadr : (t.core c).ig.getD (d - 12) 0 = a at ha
  generalize hhi : ofSigned 24 (toSigned 8 (bits v 48 8)) = w
  generalize h0 : t.set (CLOVE.STATE c) 1 = s0 at hiso
  have h0core : s0.core c = t.core c := by rw [← h0, core_set]
  have h0mem : s0.mem = t.mem := by rw [← h0, State.set_mem]
  have h0regs : SameRegs (coreKeys c) t s0 := h0 ▸ (SameRegs.refl t).set (by simp [coreKeys])
  have hmid : bits v 24 24 % 2 ^ 24 = bits v 24 24 := Nat.mod_mod ..
  have hlow : v % 2 ^ 24 % 2 ^ 24 = v % 2 ^ 24 := Nat.mod_mod ..
  have hguard : w % 2 ^ 24 = w := by
    rw [← hhi, ofSigned]
    omega
  have hheal : s0.HealsX c (s0.stored3 c a (v % 2 ^ 24) (bits v 24 24) w) := stored3_heals _ _ _ hc ha s0
  obtain ⟨hw0, hw1, hw2⟩ := word_stored3 (c := c) (a := a) (v % 2 ^ 24) (bits v 24 24) w s0
  have hread (b : Nat) := read_stored3 (c := c) (a := a) (v % 2 ^ 24) (bits v 24 24) w s0 (b := b)
  have hdo : t.coreDo1 c (.mvs 2 d r 0) =
      ((s0.stored3 c a (v % 2 ^ 24) (bits v 24 24) w).setCore c (fun k => k.setI (d - 12) (a + 3))).coreNext c := by
    rw [coreDo1_asave, h0, State.coreAsave]
    simp only [h0core, three_linear hkg (show (t.core c).ig.getD (d - 12) 0 + 3 < 2 ^ 24 by omega), hadr, hv, hhi, List.zip_cons_cons,
      List.zip_nil_left, storeList_three _ _ _ hc ha hiso]
  generalize s0.stored3 c a (v % 2 ^ 24) (bits v 24 24) w = s3 at hheal hw0 hw1 hw2 hread hdo
  obtain ⟨p, hp⟩ := hheal.core
  have h3 : s3.Eight := hheal.eight (h0 ▸ h8.set)
  have hcore : ((s3.setCore c (fun k => k.setI (d - 12) (a + 3))).coreNext c).core c = (((t.core c).lined p).setI (d - 12) (a + 3)).advance := by
    rw [core_coreNext (hc.trans_eq h3.setCore.cores.symm), core_setCore _ (hc.trans_eq h3.cores.symm), hp, h0core]
  have hmem : ((s3.setCore c (fun k => k.setI (d - 12) (a + 3))).coreNext c).mem = s3.mem := by rw [coreNext_mem, State.setCore_mem]
  refine ⟨_, congrArg Host.Outcome.next ((coreRun_of_fetches hf).trans hdo), ?_, ?_, ?_, ?_, fun b hb => ?_, ?_, fun hq => ?_, ?_⟩
  · rw [word_of_mem hmem, hw0, hlow]
  · rw [word_of_mem hmem, hw1, hmid]
  · rw [word_of_mem hmem, hw2, hguard]
  · rw [hcore, (advance_landed _).i]
    exact i_setI _ (by show _ < (t.core c).i.length; omega)
  · rw [hmem, hread b hb, h0mem]
  · exact h3.setCore.coreNext.cores
  · rw [hcore]
    have hwrote : (t.core c).Wrote (((t.core c).lined p).setI (d - 12) (a + 3)) :=
      have hlined : (t.core c).Wrote ((t.core c).lined p) := .same rfl rfl rfl rfl rfl rfl
      hlined.trans (setI_wrote _ _ _)
    refine steps_of_wrote hq hwrote fun q _ hq' => ?_
    have hne : q ≠ 12 + (d - 12) := by
      simp only [List.mem_singleton] at hq'
      omega
    rw [reg_setI _ hne, reg_eq, reg_eq]
    rfl
  · have hall : SameRegs (coreKeys c ++ [(ECC.HEAL_CNT (16 + c)).key] ++ evKeys 0x118) t s3 :=
      (h0regs.mono fun k hk => by simp [hk]).trans (hheal.regs.mono fun k hk => by rw [List.append_assoc]; exact List.mem_append_right _ hk)
    exact (hall.of_regs (State.setCore_regs ..)).trans ((coreNext_sets _ c).mono fun k hk => by simp [hk])

/-- Settles O32: a lemma for each of the five instructions. -/
theorem cloveMoves : Obligations.CloveMoves := by
  unfold Obligations.CloveMoves
  refine ⟨?_, ?_, ?_, ?_, ?_⟩
  · intro s t c r v hf ha hi hm hk hx hy hr
    exact moves_li hf ⟨hx, hy, ha, hi, hm, hk⟩ hr
  · intro s t c d r hf ha hi hm hk hx hy hd
    exact moves_move hf ⟨hx, hy, ha, hi, hm, hk⟩ hd
  · intro s t c d v hf ha hi hm hk hx hy hd hd'
    exact moves_addi hf ⟨hx, hy, ha, hi, hm, hk⟩ hd hd'
  · intro s t c d r hf hd hd' _ _ hi _ hkg ha hiso
    exact moves_asave hf hd hd' hi hkg ha hiso
  · intro s t c d r v0 v1 v2 hf hr hr' hd hd' hi _ hkg ha h0 h1 h2
    exact moves_aload hf hr hr' hd hd' hi hkg ha h0 h1 h2

end Sys2Proof.Machine
end
section
/-! PROOFS. Clove's kernels (O35). The clause on the boundary fails where the core itself hears SWAP_DONE: EVT_EN enables the event
and EVT_ROUTE sends it to this core, so its line 1 becomes pending with the swap (R40, R381). -/

namespace Sys2Proof.Machine

-- In order: a kernel evaluation waits for the proofs before it, and would hold a thread of its own until then.
set_option Elab.async false

/-- Core 0 is stopped with RUN = 1 and an armed swap that is due; its own event SWAP_DONE is enabled and routed to it. -/
def swapHeard : State :=
  { State.reset with
    regs := [((HDR.ACT 0x100).key, 1), ((CLOVE.RUN 0).key, 1), ((CLOVE.SWAP_ARMED 0).key, 1),
      ((HDR.EVT_EN 0x100).key, 2 ^ EV.CLOVE.SWAP_DONE), ((HDR.TO_CLOVE 0x100).key, 1)] }

/-- The swap of core 0 is due, and the core does not run. -/
theorem swapHeard_due :
    swapHeard.act (0x100 + 0) = true ∧ swapHeard.swapDue 0 = true ∧ swapHeard.coreState 0 ≠ 1 ∧ swapHeard.cores.length = 8 ∧
      swapHeard.on (CLOVE.RUN 0) = true := by
  decide +kernel

/-- No line is pending before the swap, and line 1 is pending after it. -/
theorem swapHeard_lines : (swapHeard.core 0).ipend = 0 ∧ ((swapHeard.swapBoundary 0).core 0).ipend = 2 := by
  decide +kernel

/-- Refutes O35: in `swapHeard` the boundary sets line 1 of core 0, which the statement says is kept. -/
theorem not_cloveKernels : ¬ Obligations.CloveKernels := by
  unfold Obligations.CloveKernels
  intro ⟨_, _, _, _, _, _, _, _, _, _, _, _, _, _, _, boundary, _⟩
  obtain ⟨hact, hdue, hstop, hcores, hrun⟩ := swapHeard_due
  obtain ⟨hbefore, hafter⟩ := swapHeard_lines
  obtain ⟨t, ht, -, -, -, -, -, -, -, hkept, -⟩ := boundary swapHeard 0 (by decide) hact hdue hstop hcores hrun
  obtain rfl : swapHeard.swapBoundary 0 = t := by simpa [execSwapBoundary] using ht
  rw [hafter, hbefore] at hkept
  exact absurd hkept (by decide)

end Sys2Proof.Machine
end
section
/-! PROOFS. OTP operations (O40). The clause on PROG_HASH compares two reads without a bound on the value stored: a read of
KEY_HASH_IN returns the stored word whole, and the window HASH takes it modulo 2^32. -/

namespace Sys2Proof.Machine

-- In order: a kernel evaluation waits for the proofs before it, and would hold a thread of its own until then.
set_option Elab.async false

/-- PROG_HASH of the empty slot 0 is in progress, and KEY_HASH_IN 0 holds more than its 32 bits. -/
def hashWide : State :=
  { State.reset with
    regs := [((SECURITY.KEY_HASH_IN 0).key, 2 ^ 32 + 1), (THERMAL.WRITE_OK.key, 1)]
    sec := { State.reset.sec with otpJob := some (1, 0) }
    otp := { State.reset.otp with hashes := List.replicate 4 [] } }

/-- The operation is performed. -/
theorem hashWide_result : hashWide.otpResult 1 0 false = 1 := by decide +kernel

/-- The slot's word reads 1 after the operation, and the word of KEY_HASH_IN read 2^32 + 1. -/
theorem hashWide_words :
    (hashWide.otpDone false).get (SECURITY.HASH 0 0) = 1 ∧ hashWide.get (SECURITY.KEY_HASH_IN 0) = 2 ^ 32 + 1 := by
  decide +kernel

/-- Refutes O40: in `hashWide` PROG_HASH leaves HASH 0 0 = 1, not the 2^32 + 1 that KEY_HASH_IN 0 reads. -/
theorem not_otpAndLimits : ¬ Obligations.OtpAndLimits := by
  unfold Obligations.OtpAndLimits
  intro ⟨_, _, _, _, _, _, _, _, _, _, _, _, _, _, _, progHash, _⟩
  obtain ⟨hslot, hin⟩ := hashWide_words
  obtain ⟨t, ht, -, -, -, -, -, -, hword, -⟩ := progHash hashWide false 0 rfl hashWide_result rfl
  obtain rfl : hashWide.otpDone false = t := by simpa [execOtpDone] using ht
  have hread := hword 0 (by decide)
  rw [hslot, hin] at hread
  exact absurd hread (by decide)

end Sys2Proof.Machine
end
section
/-! PROOFS. Keys, random numbers and debug (O41). The clauses on a read of RNG_DATA fail where an earlier store of Pepper's to the
page still waits: the load waits for its window (R49), so 8 ticks pass and the store takes effect with it. -/

namespace Sys2Proof.Machine

-- In order: a kernel evaluation waits for the proofs before it, and would hold a thread of its own until then.
set_option Elab.async false

/-- Pepper has just written 5 to KE_NONCE 0, on the page of RNG_DATA; the window of that write is open. -/
def nonceWaits : State :=
  { State.reset with windows := [{ loc := SECURITY.KE_NONCE 0, openAt := 0, writes := [{ cls := .mgmt, agent := 0, val := 5, tick := 0 }] }] }

/-- Pepper may read RNG_DATA, and the generator is not ready. -/
theorem nonceWaits_reads :
    nonceWaits.deaf = false ∧ 1 ≤ nonceWaits.right 0x002 .mgmt ∧ nonceWaits.testPortAllows .mgmt false 0x002 0x064 0 = true ∧
      bitOf (nonceWaits.get SECURITY.RNG_STAT) 0 = false := by
  decide +kernel

/-- The load waits: the always-on clock moves on by 8 ticks. -/
theorem nonceWaits_waits : ((nonceWaits.loadWait .mgmt 0x002).rngRead .mgmt).ao = 8 := by
  decide +kernel

/-- Refutes O41: in `nonceWaits` the read of RNG_DATA ends 8 ticks later, not on the tick on which it began. -/
theorem not_keysAndDebug : ¬ Obligations.KeysAndDebug := by
  unfold Obligations.KeysAndDebug
  intro ⟨_, _, _, _, _, _, _, _, _, _, _, _, _, _, readZero, _⟩
  obtain ⟨hears, hright, hport, hstat⟩ := nonceWaits_reads
  have hread := readZero nonceWaits .mgmt hears hright hport (.inr hstat)
  rw [exec_rngDataRead, execRngDataRead, if_neg (by rw [hears]; decide)] at hread
  have hao := nonceWaits_waits
  rw [Host.Outcome.next.inj hread] at hao
  exact absurd hao (by decide +kernel)

end Sys2Proof.Machine
end
section
/-! PROOFS. Scrubbing, the fuse map and the self-test (O42). The clause on the end of test 0x43 fails at a state that no run reaches:
PATH_FAIL_TX_LO is a register of 32 bits, but a `State` can store more in it, and the test writes back what it read, without a
failing transmit path, modulo 2^32. -/

namespace Sys2Proof.Machine

-- In order: a kernel evaluation waits for the proofs before it, and would hold a thread of its own until then.
set_option Elab.async false

/-- Test 0x43 runs, and PATH_FAIL_TX_LO holds more than its 32 bits. -/
def txFailWide : State :=
  { State.reset with
    regs := [(BIST.PATH_FAIL_TX_LO.key, 2 ^ 32)]
    bist := { State.reset.bist with run := some 0x43 } }

/-- The test runs on no memory and is not aborted. -/
theorem txFailWide_runs : txFailWide.bist.run = some 0x43 ∧ txFailWide.bist.mems = [] ∧ txFailWide.bist.abort = false := by
  decide +kernel

/-- The register reads 2^32 before the end of the test and 0 after it. -/
theorem txFailWide_reads :
    txFailWide.get BIST.PATH_FAIL_TX_LO = 2 ^ 32 ∧
      (txFailWide.bistDone ⟨[], 0, 0, 0, 0⟩).get BIST.PATH_FAIL_TX_LO = 0 := by
  decide +kernel

/-- Refutes O42: in `txFailWide` the end of test 0x43 changes PATH_FAIL_TX_LO, which the statement says it keeps. -/
theorem not_scrubFuseBist : ¬ Obligations.ScrubFuseBist := by
  unfold Obligations.ScrubFuseBist
  intro ⟨_, _, _, _, _, _, _, _, _, _, _, _, _, _, _, _, _, _, _, _, _, _, _, rxPaths, _⟩
  obtain ⟨hrun, hmems, hgo⟩ := txFailWide_runs
  obtain ⟨hbefore, hafter⟩ := txFailWide_reads
  obtain ⟨t, ht, -, -, -, -, -, -, -, -, hregs⟩ := rxPaths txFailWide [] 0 0 0 0 hrun hmems hgo (by decide)
  obtain rfl : txFailWide.bistDone ⟨[], 0, 0, 0, 0⟩ = t := by simpa [execBistDone] using ht
  have hkept := hregs BIST.PATH_FAIL_TX_LO (by decide)
  rw [hafter, hbefore] at hkept
  exact absurd hkept (by decide)

end Sys2Proof.Machine
end
section
/-! PROOFS. Clove's interrupts, faults, core I/O and register bridge (O34). An access to an I/O register is what its offset says; an
end of a job after a fault sets no field at STATE's place in its word. -/

namespace Sys2Proof.Machine

variable {s t u : State} {c : Nat}

/-! ### Interrupt entry (R370) -/

/-- From `k` to `j` the registers that interrupt entry reads, the lines, X and the stack are the same. -/
structure CoreSt.Interrupted (k j : CoreSt) : Prop where
  pc : j.pc = k.pc
  sr : j.sr = k.sr
  ivec : j.ivec = k.ivec
  ipend : j.ipend = k.ipend
  x : j.x = k.x
  stack : j.stack = k.stack

theorem CoreSt.Interrupted.ite {k j i : CoreSt} {p : Prop} {_ : Decidable p} (h : k.Interrupted j) (h' : k.Interrupted i) :
    k.Interrupted (if p then j else i) := by
  split
  · exact h
  · exact h'

theorem land_interrupted (k : CoreSt) (n v : Nat) : k.Interrupted (k.land n v) := by
  rw [CoreSt.land]
  repeat' apply CoreSt.Interrupted.ite
  all_goals exact ⟨rfl, rfl, rfl, rfl, rfl, rfl⟩

theorem foldl_land_interrupted (l : List (Nat × Nat × Nat)) (k : CoreSt) :
    k.Interrupted (l.foldl (fun k f => k.land f.2.1 f.2.2) k) := by
  induction l generalizing k with
  | nil => exact ⟨rfl, rfl, rfl, rfl, rfl, rfl⟩
  | cons f l ih =>
    obtain ⟨hpc, hsr, hivec, hipend, hx, hstack⟩ := ih (k.land f.2.1 f.2.2)
    obtain ⟨lpc, lsr, livec, lipend, lx, lstack⟩ := land_interrupted k f.2.1 f.2.2
    exact ⟨hpc.trans lpc, hsr.trans lsr, hivec.trans livec, hipend.trans lipend, hx.trans lx, hstack.trans lstack⟩

theorem landAll_interrupted (k : CoreSt) : k.Interrupted k.landAll := by
  obtain ⟨hpc, hsr, hivec, hipend, hx, hstack⟩ := foldl_land_interrupted k.flight { k with flight := [] }
  exact ⟨hpc, hsr, hivec, hipend, hx, hstack⟩

theorem landAll_flight (k : CoreSt) : k.landAll.flight = [] := foldl_land_flight ..

/-- What interrupt entry makes of the core. -/
def CoreSt.entered (k : CoreSt) : CoreSt :=
  { k.landAll with spc := k.landAll.pc, ssr := k.landAll.sr, pc := k.landAll.ivec }.srClr srIE

theorem interruptEntry_taken (hr : s.coreRuns c = true) (hie : bitOf (s.core c).sr srIE = true)
    (hp : (s.core c).ipend &&& (s.core c).imask ≠ 0) (hb : (s.core c).branch = []) :
    s.interruptEntry c = (s.set (CLOVE.STATE c) 1).setCore c CoreSt.entered := by
  unfold State.interruptEntry
  rw [if_pos ⟨hr, hie, hp, hb⟩]
  rfl

theorem interruptEntry_none (h : bitOf (s.core c).sr srIE = false ∨ (s.core c).ipend &&& (s.core c).imask = 0 ∨ (s.core c).branch ≠ []) :
    s.interruptEntry c = s := by
  unfold State.interruptEntry
  dsimp only
  rw [if_neg]
  rintro ⟨-, hie, hp, hb⟩
  rcases h with h | h | h
  · rw [hie] at h
    exact Bool.noConfusion h
  · exact hp h
  · exact h hb

/-! ### Faults (R371) -/

/-- From `s` to `t` the fields whose lowest bit is bit 30 keep their values. -/
def State.Kept30 (s t : State) : Prop := ∀ l : Loc, l.key % 32 = 30 → t.get l = s.get l

namespace State.Kept30

theorem refl (s : State) : s.Kept30 s := fun _ _ => rfl

theorem of_regs (h : s.Kept30 t) (e : u.regs = t.regs) : s.Kept30 u := fun l hl => by
  rw [← h l hl]
  simp only [State.get, e]

theorem set {l : Loc} {v : Nat} (h : s.Kept30 t) (hl : l.lo % 32 ≠ 30) : s.Kept30 (t.set l v) := fun m hm => by
  rw [get_set_other]
  · exact h m hm
  · intro e
    rw [e] at hm
    unfold Loc.key at hm
    omega

theorem count {l : Loc} {k : Nat} (h : s.Kept30 t) (hl : l.lo % 32 ≠ 30) : s.Kept30 (t.count l k) := h.set hl

theorem raise {pg b : Nat} (h : s.Kept30 t) : s.Kept30 (t.raise pg b) := fun l hl => by
  rw [raise_other]
  · exact h l hl
  all_goals
    intro e
    rw [e] at hl
    simp only [Loc.key, HDR.EVT, ERL1.EVT_LOST_CNT] at hl
    omega

theorem ite {p : Prop} {_ : Decidable p} (h : s.Kept30 t) (h' : s.Kept30 u) : s.Kept30 (if p then t else u) := by
  split
  · exact h
  · exact h'

theorem foldl {α : Type} {l : List α} {f : State → α → State} (h : s.Kept30 t) (hf : ∀ {u a}, s.Kept30 u → s.Kept30 (f u a)) :
    s.Kept30 (l.foldl f t) :=
  List.foldlRecOn (motive := fun u => s.Kept30 u) l f h fun _ hu _ _ => hf hu

theorem setDpdPath {p f} (h : s.Kept30 t) : s.Kept30 (t.setDpdPath p f) := h.of_regs (State.setDpdPath_regs ..)

theorem setDpdJob {k j} (h : s.Kept30 t) : s.Kept30 (t.setDpdJob k j) := h.of_regs (State.setDpdJob_regs ..)

theorem capDisarm {k} (h : s.Kept30 t) : s.Kept30 (t.capDisarm k) :=
  (h.set (l := CP.ARMED k) (v := 0) (show 0 % 32 ≠ 30 by decide)).of_regs (State.setCap_regs ..)

theorem dpdCapStop (h : s.Kept30 t) : s.Kept30 t.dpdCapStop := h.foldl fun h => .ite h.capDisarm h

theorem dpdLap (h : s.Kept30 t) : s.Kept30 t.dpdLap := by
  unfold State.dpdLap
  refine .ite (.of_regs (.raise (.count (.set h ?_) ?_)) rfl) h <;> decide

theorem dpdNote (h : s.Kept30 t) : s.Kept30 t.dpdNote := by
  unfold State.dpdNote
  split
  · exact h.set (by decide)
  · exact h

/-- The jobs on a path that has a result end. -/
theorem jobsEnd {p : Nat} {l : List Nat} (h : s.Kept30 t) : s.Kept30 (l.foldl (fun s c =>
    match s.dpdJob c with
    | some j => if j.path = p then (if j.cap.isSome ∧ j.done = false then s.dpdCapStop else s).setDpdJob c none |>.set (DPD2.VALID c) 0
      else s
    | none => s) t) := by
  refine h.foldl fun hv => ?_
  split
  · exact .ite ((State.Kept30.ite hv.dpdCapStop hv).setDpdJob.set (show 31 % 32 ≠ 30 by decide)) hv
  · exact hv

theorem dpdResult {p r} (h : s.Kept30 t) : s.Kept30 (t.dpdResult p r) := by
  have hshown : s.Kept30 ((t.set (DPD1.LAST_RESULT p) r).set (DPD1.PHASE p) 0) :=
    (h.set (show 20 % 32 ≠ 30 by decide)).set (show 24 % 32 ≠ 30 by decide)
  have hfree := (hshown.setDpdPath (p := p) (f := fun _ => { lapped := true })).jobsEnd (p := p) (l := List.range 8)
  unfold State.dpdResult
  exact (State.Kept30.ite (.raise (.set (.count hfree (by decide)) (show 29 % 32 ≠ 30 by decide))) hfree).dpdLap.dpdNote

end State.Kept30

/-- A fault of the core by an illegal word, before the end of the job that the core has. -/
def State.stopped (s : State) (c : Nat) : State :=
  ((((s.set (CLOVE.FAULT c) (2 ^ 16 + (s.core c).pc)).set (CLOVE.STATE c) 3).count (CLOVE.FAULT_CNT c)).raise (0x100 + c)
    EV.CLOVE.FAULT).setCore c (fun k => { k with faulted := true })

theorem coreFault_illegal (s : State) (c : Nat) :
    s.coreFault c 1 0 = match (s.stopped c).dpdJob c with | some j => (s.stopped c).dpdResult j.path 0 | none => s.stopped c := rfl

theorem stopped_regs (s : State) (c : Nat) :
    (s.stopped c).regs = ((((s.set (CLOVE.FAULT c) (2 ^ 16 + (s.core c).pc)).set (CLOVE.STATE c) 3).count (CLOVE.FAULT_CNT c)).raise (0x100 + c)
      EV.CLOVE.FAULT).regs := State.setCore_regs ..

theorem stopped_get (s : State) (c : Nat) (l : Loc) :
    (s.stopped c).get l = ((((s.set (CLOVE.FAULT c) (2 ^ 16 + (s.core c).pc)).set (CLOVE.STATE c) 3).count (CLOVE.FAULT_CNT c)).raise (0x100 + c)
      EV.CLOVE.FAULT).get l := by
  simp only [State.get, stopped_regs]

theorem stopped_state (s : State) (c : Nat) : (s.stopped c).get (CLOVE.STATE c) = 3 := by
  rw [stopped_get, State.Kept30.raise (.refl _) (CLOVE.STATE c), count_other, get_set_same]
  · rfl
  all_goals
    simp only [Loc.key, CLOVE.STATE, CLOVE.FAULT_CNT]
    omega

theorem stopped_fault (s : State) (c : Nat) : (s.stopped c).get (CLOVE.FAULT c) = (2 ^ 16 + (s.core c).pc) % 2 ^ 32 := by
  rw [stopped_get, raise_other, count_other, get_set_other, get_set_same]
  · rfl
  all_goals
    simp only [Loc.key, CLOVE.FAULT, CLOVE.STATE, CLOVE.FAULT_CNT, HDR.EVT, ERL1.EVT_LOST_CNT, ne_eq]
    omega

theorem stopped_event (s : State) (c : Nat) : bitOf ((s.stopped c).get (HDR.EVT (0x100 + c))) EV.CLOVE.FAULT = true := by
  rw [stopped_get]
  exact raise_sets _ _ (by decide)

theorem stopped_mem (s : State) (c : Nat) : (s.stopped c).mem = s.mem := by
  rw [State.stopped, State.setCore_mem, raise_mem, State.count_mem, State.set_mem, State.set_mem]

theorem raise_dpd (s : State) (pg b : Nat) : (s.raise pg b).dpd = s.dpd := (congrArg State.dpd (raise_eventless s pg b) :)

theorem stopped_dpdJob (s : State) (c k : Nat) : (s.stopped c).dpdJob k = s.dpdJob k := by
  have hdpd : (s.stopped c).dpd = s.dpd := by
    rw [State.stopped, State.setCore_dpd, raise_dpd, State.count_dpd, State.set_dpd, State.set_dpd]
  simp only [State.dpdJob, hdpd]

theorem coreFault_state (s : State) (c : Nat) : (s.coreFault c 1 0).get (CLOVE.STATE c) = 3 := by
  rw [coreFault_illegal]
  split
  · rw [State.Kept30.dpdResult (.refl _) (CLOVE.STATE c), stopped_state]
    simp only [Loc.key, CLOVE.STATE]
    omega
  · exact stopped_state s c

theorem coreFault_free (h : s.dpdJob c = none) : s.coreFault c 1 0 = s.stopped c := by
  rw [coreFault_illegal, stopped_dpdJob, h]

theorem coreAny_illegal {w : Nat} (hf : s.coreFetch c = (some w, t)) (hd : cloveDecode w = none) : s.coreAny c = t.coreFault c 1 0 := by
  rw [show State.coreAny = _ from by delta State.coreAny; rfl]
  split
  next h => simp [hf] at h
  next v x h =>
    obtain ⟨rfl, rfl⟩ : w = v ∧ t = x := by simpa [hf] using h
    split
    next h' => simp [hd] at h'
    next => rfl

theorem exec_coreFault_illegal {w : Nat} (hc : c < 8) (hr : s.coreRuns c = true) (hf : s.coreFetch c = (some w, t))
    (hd : cloveDecode w = none) : exec (.coreFault c) s = .next (t.coreFault c 1 0) := by
  rw [exec_coreFault, execCoreFault, Nat.mod_eq_of_lt hc, coreAny_illegal hf hd]
  dsimp only
  rw [if_pos hr, if_pos (coreFault_state t c)]

theorem exec_coreFault_stopped (h : s.coreRuns (c % 8) = false) : exec (.coreFault c) s = .next s := by
  rw [exec_coreFault, execCoreFault]
  dsimp only
  rw [if_neg (by rw [h]; decide)]

/-! ### Core I/O (R373 to R375) -/

theorem ioAccess_write (h : s.coreRuns c = true) (off v : Nat) : s.ioAccess c off (some v) = (s.ioWrite c off v).reply .dsp [] stOK := by
  unfold State.ioAccess
  rw [if_neg (by rw [h]; decide)]

theorem ioAccess_read (h : s.coreRuns c = true) (off : Nat) :
    s.ioAccess c off none = (s.ioRead c off).2.reply .dsp [(s.ioRead c off).1 % 2 ^ 24] stOK := by
  unfold State.ioAccess
  rw [if_neg (by rw [h]; decide)]

theorem ioAccess_stopped (h : s.coreRuns c = false) (off : Nat) (w : Option Nat) : s.ioAccess c off w = s := by
  unfold State.ioAccess
  rw [if_pos h]

theorem ioWrite_sem {n : Nat} (hn : n < 32) : s.ioWrite c (0x20 + n) 0 = { s with sems := clearBit s.sems n } := by
  unfold State.ioWrite
  rw [if_pos (by omega), Nat.add_sub_cancel_left]
  rfl

theorem ioRead_sem {n : Nat} (hn : n < 32) : s.ioRead c (0x20 + n) = (if bitOf s.sems n then 1 else 0, { s with sems := setBit s.sems n }) := by
  unfold State.ioRead
  dsimp only
  rw [if_pos (by omega), Nat.add_sub_cancel_left]
  rfl

theorem ioRead_stream (s : State) (c : Nat) : s.ioRead c 0x0A = s.strRead c := rfl

theorem strRead_cons {w : Nat} {l : List Nat} (h : (s.core c).stream = w :: l) :
    s.strRead c = (bits w 16 16 * 2 ^ 8 + w % 4, s.setCore c (fun k => { k with stream := l })) := by
  unfold State.strRead
  rw [h]

theorem strRead_nil (h : (s.core c).stream = []) : s.strRead c = (1, s) := by
  unfold State.strRead
  rw [h]

/-- BR_CMD starts an access where none is in progress. -/
theorem brCmd_idle (h : (s.core c).brRun = none) (w : Bool) : s.brCmd c w = s.setCore c (fun k => { k with brRun := some w }) :=
  setCore_congr (by rw [h]; rfl)

theorem upd_self {α : Type} {f : α → α} {d : α} : ∀ {l : List α} {i : Nat}, f (l.getD i d) = l.getD i d → upd l i f = l
  | [], _, _ => rfl
  | _ :: _, 0, h => congrArg (· :: _) h
  | _ :: t, i + 1, h => congrArg (_ :: ·) (upd_self (l := t) (i := i) h)

/-- BR_CMD has no effect while an access is in progress. -/
theorem brCmd_busy (h : (s.core c).brRun.isSome = true) (w : Bool) : (s.brCmd c w).cores = s.cores :=
  upd_self (d := {}) (by rw [show s.cores.getD c {} = s.core c from rfl, if_pos h])

theorem reply_of_brCmd (h : (s.core c).brRun.isSome = true) (w : Bool) :
    let u : State := (s.brCmd c w).reply .dsp [] stOK
    u.cores = s.cores ∧ u.answer = some ⟨.dsp, [], stOK⟩ ∧ u.mem = s.mem ∧ SameRegs [] s u :=
  ⟨brCmd_busy h w, rfl, rfl, (SameRegs.refl s).of_regs rfl⟩

/-! ### The timer and the bridge -/

theorem coreTimer_due (ha : s.act (0x100 + c) = true) (harm : (s.core c).tcArm = true) (hr : s.tbRun = true) (ht : (s.core c).tcmp ≤ s.tb) :
    s.coreTimer c = (s.setCore c (fun k => { k with tcArm := false })).line c 5 := by
  unfold State.coreTimer
  rw [if_pos ⟨ha, harm, hr, ht⟩]

theorem coreTimer_early (h : (s.core c).tcArm = false ∨ s.tb < (s.core c).tcmp) : s.coreTimer c = s := by
  unfold State.coreTimer
  dsimp only
  rw [if_neg]
  rintro ⟨-, harm, -, ht⟩
  rcases h with h | h
  · rw [harm] at h
    exact Bool.noConfusion h
  · omega

theorem bridgeDone_write (h : (s.core c).brRun = some true) :
    s.bridgeDone c = ((s.portWrite .all .dsp c (s.core c).brAddr (s.core c).brData).2.setCore c (fun k => { k with
      brRun := none, brCode := (s.portWrite .all .dsp c (s.core c).brAddr (s.core c).brData).1, brData := (s.core c).brData })).line c 3 := by
  unfold State.bridgeDone
  rw [h]
  rfl

theorem bridgeDone_read (h : (s.core c).brRun = some false) :
    s.bridgeDone c = ((s.portRead .all .dsp (s.core c).brAddr).2.2.setCore c (fun k => { k with
      brRun := none, brCode := (s.portRead .all .dsp (s.core c).brAddr).1, brData := (s.portRead .all .dsp (s.core c).brAddr).2.1 })).line c 3 := by
  unfold State.bridgeDone
  rw [h]
  rfl

theorem bridgeDone_none (h : (s.core c).brRun = none) : s.bridgeDone c = s := by
  unfold State.bridgeDone
  rw [h]

/-! ### The statement -/

/-- Settles O34: interrupt entry by the results that land, a fault by the frame of the job's end, and each access by its offset. -/
theorem cloveIo : Obligations.CloveIo := by
  unfold Obligations.CloveIo
  refine ⟨fun s c hc h8 hr hie hp hb => ?_, fun s c h => ?_, fun s t c w hc hr hf hd => ?_, fun s c h => exec_coreFault_stopped h,
    fun s c v hc hr => ?_, fun s c v hc hr => ?_, fun s c hc hr => ?_, fun s c v hc hr => ?_, fun s c hc ha harm hrun ht => ?_,
    fun s c h => ?_, fun s c w l hc hr hs => ?_, fun s c hc hr hs => ?_, fun s c hc hr hb => ?_, fun s c hc hr h8 hb => ?_,
    fun s c hc hr hb => ?_, fun s c hc hr h8 hb => ?_, fun s c n hc hr hn => ?_, fun s c n hc hr hn => ?_, fun s c n hr => ?_,
    fun s c n hr => ?_, fun s c hc hb => ?_, fun s c hc hb => ?_, fun s c hc hb => ?_⟩
  case refine_1 =>
    obtain ⟨hpc, hsr, hivec, hipend, hx, hstack⟩ := landAll_interrupted (s.core c)
    have hlen : c < (s.set (CLOVE.STATE c) 1).cores.length := by
      rw [State.set_cores]
      omega
    refine ⟨(s.set (CLOVE.STATE c) 1).setCore c CoreSt.entered, ?_, ?_⟩
    · rw [exec_interruptEntry, execInterruptEntry, Nat.mod_eq_of_lt hc, interruptEntry_taken hr hie hp hb]
    · rw [core_setCore _ hlen, core_set, State.setCore_mem, State.set_mem]
      refine ⟨hpc, hsr, hivec, ?_, landAll_flight _, hipend, hx, hstack, rfl, ?_⟩
      · exact congrArg (fun v => clearBit v srIE) hsr
      · exact ((SameRegs.refl s).set (by simp)).of_regs (State.setCore_regs ..)
  case refine_2 => rw [exec_interruptEntry, execInterruptEntry, interruptEntry_none h]
  case refine_3 =>
    refine ⟨t.coreFault c 1 0, exec_coreFault_illegal hc hr hf hd, coreFault_state t c, fun hj => ?_⟩
    rw [coreFault_free hj]
    exact ⟨stopped_fault t c, stopped_event t c, stopped_mem t c⟩
  case refine_4 => rw [exec_ipendClear, execIpendClear, Nat.mod_eq_of_lt hc, ioAccess_write hr]; rfl
  case refine_5 => rw [exec_mboxOut, execMboxOut, Nat.mod_eq_of_lt hc, ioAccess_write hr]; rfl
  case refine_6 =>
    rw [exec_tb0Read, execTb0Read, Nat.mod_eq_of_lt hc, ioAccess_read hr]
    show Host.Outcome.next ((s.tb0Read c).2.reply .dsp [s.tb % 2 ^ 24 % 2 ^ 24] stOK) = _
    rw [Nat.mod_mod]
    rfl
  case refine_7 =>
    rw [exec_tcmpArm, execTcmpArm, Nat.mod_eq_of_lt hc, ioAccess_write hr]
    show Host.Outcome.next ((s.tcmpArm c (v % 2 ^ 24)).reply .dsp [] stOK) = _
    rw [State.tcmpArm, Nat.mod_mod_of_dvd v (by decide : 2 ^ 16 ∣ 2 ^ 24)]
  case refine_8 => rw [exec_coreTimer, execCoreTimer, Nat.mod_eq_of_lt hc, coreTimer_due ha harm hrun ht, State.line]
  case refine_9 => rw [exec_coreTimer, execCoreTimer, coreTimer_early h]
  case refine_10 => rw [exec_strDataRead, execStrDataRead, Nat.mod_eq_of_lt hc, ioAccess_read hr, ioRead_stream, strRead_cons hs]
  case refine_11 => rw [exec_strDataRead, execStrDataRead, Nat.mod_eq_of_lt hc, ioAccess_read hr, ioRead_stream, strRead_nil hs]; rfl
  case refine_12 => rw [exec_brRead, execBrRead, Nat.mod_eq_of_lt hc, ioAccess_write hr, ← brCmd_idle hb]; rfl
  case refine_13 =>
    refine ⟨(s.brCmd c false).reply .dsp [] stOK, ?_, reply_of_brCmd hb false⟩
    rw [exec_brRead, execBrRead, Nat.mod_eq_of_lt hc, ioAccess_write hr]
    rfl
  case refine_14 => rw [exec_brWrite, execBrWrite, Nat.mod_eq_of_lt hc, ioAccess_write hr, ← brCmd_idle hb]; rfl
  case refine_15 =>
    refine ⟨(s.brCmd c true).reply .dsp [] stOK, ?_, reply_of_brCmd hb true⟩
    rw [exec_brWrite, execBrWrite, Nat.mod_eq_of_lt hc, ioAccess_write hr]
    rfl
  case refine_16 =>
    rw [exec_semAcquire, execSemAcquire, Nat.mod_eq_of_lt hc, Nat.mod_eq_of_lt hn, ioAccess_read hr, ioRead_sem hn]
    dsimp only
    rw [Nat.mod_eq_of_lt (by split <;> decide)]
  case refine_17 => rw [exec_semRelease, execSemRelease, Nat.mod_eq_of_lt hc, Nat.mod_eq_of_lt hn, ioAccess_write hr, ioWrite_sem hn]
  case refine_18 => rw [exec_semAcquire, execSemAcquire, ioAccess_stopped hr]
  case refine_19 => rw [exec_semRelease, execSemRelease, ioAccess_stopped hr]
  case refine_20 => rw [exec_bridgeDone, execBridgeDone, Nat.mod_eq_of_lt hc, bridgeDone_write hb, State.line]
  case refine_21 => rw [exec_bridgeDone, execBridgeDone, Nat.mod_eq_of_lt hc, bridgeDone_read hb, State.line]
  case refine_22 => rw [exec_bridgeDone, execBridgeDone, Nat.mod_eq_of_lt hc, bridgeDone_none hb]

end Sys2Proof.Machine
end
section
/-! PROOFS. Pepper (O36). The clause on the expiry of the run-time watchdog fails while the thermal halt is latched: Pepper alone is
then reset, and no restart of management begins (R22, R396); the clause does not ask for HALT = 0. -/

namespace Sys2Proof.Machine

-- In order: a kernel evaluation waits for the proofs before it, and would hold a thread of its own until then.
set_option Elab.async false

/-- After BOOT_OK the watchdog's period has run out, and the thermal halt is latched. -/
def haltedDog : State :=
  { State.reset with
    regs := [(MGMT.WD_EN.key, 1), (DEVICE.BOOT_OK_SEEN.key, 1), (MGMT.RUNNING.key, 1), (DEVICE.HALT.key, 1)]
    ao := 98304000000 }

/-- The watchdog has expired. -/
theorem haltedDog_expired :
    haltedDog.on MGMT.WD_EN = true ∧ haltedDog.on DEVICE.BOOT_OK_SEEN = true ∧ haltedDog.on MGMT.RUNNING = true ∧
      haltedDog.deaf = false ∧ haltedDog.mgmt.wdAt + max 1 (haltedDog.get MGMT.WD_PERIOD) * 9830400 ≤ haltedDog.ao := by
  decide +kernel

/-- The expiry ends the image that runs; a restart of management would leave it under the halt. -/
theorem haltedDog_running :
    (haltedDog.runWatchdog 0).get MGMT.RUNNING = 0 ∧ (haltedDog.mgmtRestart 8 0).get MGMT.RUNNING = 1 := by
  decide +kernel

/-- Refutes O36: in `haltedDog` the watchdog's expiry resets Pepper, and does not restart management. -/
theorem not_pepper : ¬ Obligations.Pepper := by
  unfold Obligations.Pepper
  intro ⟨_, _, _, _, _, _, _, _, _, _, _, _, _, _, _, expiry, _⟩
  obtain ⟨hen, hok, hrun, hdeaf, hdue⟩ := haltedDog_expired
  obtain ⟨hreset, hkept⟩ := haltedDog_running
  have hrestart := expiry haltedDog 0 hen hok hrun hdeaf hdue
  rw [exec_runtimeWatchdogExpiry, execRuntimeWatchdogExpiry] at hrestart
  rw [Host.Outcome.next.inj hrestart, hkept] at hreset
  exact absurd hreset (by decide)

end Sys2Proof.Machine
end

section
/-! PROOFS. Log records: what a record keeps of the state, and which record is then the last. -/

namespace Sys2Proof.Machine

variable {s : State}

/-- The state without what events and log records change. -/
def State.recordless (s : State) : State := { s.eventless with log := State.reset.log, ecc := [] }

theorem recordless_of_eventless {t : State} (h : t.eventless = s.eventless) : t.recordless = s.recordless :=
  congrArg (fun u : State => { u with log := State.reset.log, ecc := [] }) h

@[simp] theorem recordless_set (s : State) (l : Loc) (v : Nat) : (s.set l v).recordless = s.recordless := rfl

@[simp] theorem recordless_count (s : State) (l : Loc) (k : Nat) : (s.count l k).recordless = s.recordless := rfl

@[simp] theorem recordless_raise (s : State) (pg b : Nat) : (s.raise pg b).recordless = s.recordless :=
  recordless_of_eventless (raise_eventless s pg b)

/-- A log record changes registers, what carries events, the log and the errors that it heals, and nothing else of a state. -/
@[simp] theorem logAs_recordless (s : State) (c ty sv pg w4 w5 w6 : Nat) : (s.logAs c ty sv pg w4 w5 w6).recordless = s.recordless := by
  unfold State.logAs
  extract_lets lost t1 r here ill t2 t3 recs l t4
  have h1 : t1.recordless = s.recordless := by
    show State.recordless (if _ then _ else _) = _
    split
    · rw [recordless_raise, recordless_count]
    · rfl
  have h2 : t2.recordless = t1.recordless := by
    show State.recordless (if _ then _ else _) = _
    split
    · rfl
    · rw [recordless_raise, recordless_count]
  exact h2.trans h1

@[simp] theorem logHw_recordless (s : State) (ty sv pg w4 w5 w6 : Nat) : (s.logHw ty sv pg w4 w5 w6).recordless = s.recordless :=
  logAs_recordless ..

@[simp] theorem raise_log (s : State) (pg b : Nat) : (s.raise pg b).log = s.log := (congrArg State.log (raise_eventless s pg b) :)

theorem getLast?_drop_concat {α : Type} (l : List α) (r : α) {n : Nat} (h : n ≤ l.length) : ((l ++ [r]).drop n).getLast? = some r := by
  rw [List.drop_append_of_le_length h, List.getLast?_concat]

/-- The record written is the last of the log. -/
theorem logAs_last (s : State) (c ty sv pg w4 w5 w6 : Nat) :
    ((s.logAs c ty sv pg w4 w5 w6).log.recs.getLast?).map (·.type) = some ty := by
  unfold State.logAs
  extract_lets lost t1 r here ill t2 t3 recs l t4
  have hrecs : recs = t3.log.recs ++ [r] := rfl
  have hlog : (t4.set LOG.HEAD_SEQ r.seq).log.recs = recs.drop (recs.length - 2048) := by simp only [State.set, t4]
  rw [hlog]
  clear_value recs
  rw [hrecs, getLast?_drop_concat _ _ (by rw [List.length_append, List.length_singleton]; omega)]
  rfl

end Sys2Proof.Machine
end

section
/-! PROOFS. Sumac (O39). A command that is heard counts for the 600 s and acts at its level; each clause is then the branch of its
command. -/

namespace Sys2Proof.Machine

variable {s : State}

/-- Sumac has heard a command: the 600 s begin again. -/
def State.heard (s : State) : State := s.setMon (fun m => { m with lastCmd := s.ao })

theorem heard_def (s : State) : s.setMon (fun m => { m with lastCmd := s.ao }) = s.heard := rfl

theorem monCommand_unheard (h : s.monHears = false) (level : Nat) (eff : State → State) : s.monCommand level eff = s := if_pos h

theorem monCommand_elevated (hh : s.monHears = true) (he : s.monElevated = true) (level : Nat) (eff : State → State) :
    s.monCommand level eff = if s.heard.monLevel < level then s.heard.reply .mon [] 9 else eff s.heard := by
  rw [State.monCommand, if_neg (by simp [hh]), if_pos he]
  rfl

theorem monCommand_granted (hh : s.monHears = true) (he : s.monElevated = true) {level : Nat} (h : level ≤ s.heard.monLevel)
    (eff : State → State) : s.monCommand level eff = eff s.heard := by
  rw [monCommand_elevated hh he, if_neg (Nat.not_lt.2 h)]

/-- An elevation that is over leaves level 0. -/
theorem dropped_level (s : State) : s.monDrop.heard.monLevel = 0 := by
  have h : s.monDrop.heard.monElevated = false := by
    have hu : s.monDrop.heard.mon.until_ = 0 := rfl
    simp [State.monElevated, hu]
  simp [State.monLevel, h]

theorem monCommand_dropped (hh : s.monHears = true) (he : s.monElevated = false) (level : Nat) (eff : State → State) :
    s.monCommand level eff = if 0 < level then s.monDrop.heard.reply .mon [] 9 else eff s.monDrop.heard := by
  have hd : (if s.monElevated = true then s else s.monDrop) = s.monDrop := if_neg (by simp [he])
  rw [State.monCommand, if_neg (by simp [hh])]
  dsimp only
  rw [hd, heard_def, dropped_level]
  rfl

theorem monCommand_low (hh : s.monHears = true) (he : s.monElevated = false) (eff : State → State) {level : Nat} (h : 0 < level) :
    s.monCommand level eff = (s.monDrop.setMon (fun m => { m with lastCmd := s.ao })).reply .mon [] 9 := by
  rw [monCommand_dropped hh he, if_pos h]
  rfl

/-- An elevation in force has the level of LEVEL. -/
theorem monLevel_elevated (h : s.monElevated = true) : s.monLevel = s.get MONITOR.LEVEL := if_pos h

/-! ### Elevation -/

theorem elevFailed_first (h : s.mon.fails < 2) :
    s.elevFailed = (s.count MONITOR.ELEV_FAIL_CNT).setMon (fun m => { m with fails := m.fails + 1 }) := by
  have h' : ¬ 3 ≤ (s.count MONITOR.ELEV_FAIL_CNT).mon.fails + 1 := by
    show ¬ 3 ≤ s.mon.fails + 1
    omega
  rw [State.elevFailed, if_neg h']

theorem elevFailed_third (h : 2 ≤ s.mon.fails) :
    s.elevFailed = ((s.count MONITOR.ELEV_FAIL_CNT).setMon (fun m => { m with fails := 0, lockEnd := s.ao + 300 * tickS })).raise 0x113
      EV.MONITOR.ELEV_LOCKED := by
  have h' : 3 ≤ (s.count MONITOR.ELEV_FAIL_CNT).mon.fails + 1 := by
    show 3 ≤ s.mon.fails + 1
    omega
  rw [State.elevFailed, if_pos h']
  rfl

/-- A token that fails its check is logged, and the failure noted. -/
theorem monElev_failed {w : List Nat} (hw : w.length = 42) (hl : s.monLocked = false)
    (hc : (s.setMon (fun m => { m with nonce := none })).tokenCheck w 1 s.mon.nonce ≠ 0) :
    ∃ w4, s.monElev w =
      ((s.setMon (fun m => { m with nonce := none })).logHw 0x07 1 0x113 w4 0 0).elevFailed.reply .mon [] stDENIED := by
  have hl' : (s.setMon (fun m => { m with nonce := none })).monLocked = false := hl
  refine ⟨bits (w.getD 1 0) 16 4 % 4 + bits (w.getD 1 0) 8 2 * 16 +
    (s.setMon (fun m => { m with nonce := none })).tokenCheck w 1 s.mon.nonce * 256, ?_⟩
  rw [State.monElev, if_neg (by simp [hw])]
  dsimp only
  rw [if_neg (by simp [hl']), if_neg hc]
  rfl

/-- What the record of a failed elevation keeps. -/
theorem elevLogged (s : State) (w4 : Nat) :
    let v := (s.heard.setMon (fun m => { m with nonce := none })).logHw 0x07 1 0x113 w4 0 0
    v.mon.fails = s.mon.fails ∧ v.mon.nonce = none ∧ v.ao = s.ao ∧ v.mem = s.mem ∧
      v.log.recs.getLast?.map (·.type) = some 7 ∧ SameRegs logKeys s v := by
  intro v
  have h : v.recordless = (s.heard.setMon (fun m => { m with nonce := none })).recordless := logHw_recordless ..
  have hm : v.mon = (s.heard.setMon (fun m => { m with nonce := none })).mon := (congrArg State.mon h :)
  refine ⟨by rw [hm]; rfl, by rw [hm]; rfl, (congrArg State.ao h :), (congrArg State.mem h :), logAs_last .., ?_⟩
  have hs : SameRegs logKeys s (s.heard.setMon (fun m => { m with nonce := none })) := (SameRegs.refl s).of_regs rfl
  exact hs.logAs fun _ hk => hk

theorem raise_mon (s : State) (pg b : Nat) : (s.raise pg b).mon = s.mon := (congrArg State.mon (raise_eventless s pg b) :)

/-! ### MODE, BAUD and DROP -/

theorem modeRefused_acks (s : State) (v cause : Nat) : (s.modeRefused v cause).acks = s.acks := by
  have h : (s.modeRefused v cause).recordless = s.recordless := by
    rw [State.modeRefused]
    simp
  exact (congrArg State.acks h :)

theorem outClose_acks (s : State) : s.outClose.acks = s.acks := by
  unfold State.outClose
  split <;> rfl

theorem modeJudge_acks (s : State) (c : Cls) (hw : Bool) (v : Nat) : (s.modeJudge c hw v).acks = s.acks := by
  unfold State.modeJudge
  split
  · rfl
  · dsimp only
    split
    · exact modeRefused_acks ..
    · show State.acks (if _ then _ else _) = _
      split
      · rfl
      · exact outClose_acks s

theorem modeReq_acks (s : State) (c : Cls) (v : Nat) : (s.modeReq c v).acks = s.acks := by
  unfold State.modeReq
  dsimp only
  split
  · exact modeRefused_acks ..
  · split
    · rfl
    · exact modeJudge_acks ..

theorem fieldEff_modeReq (s : State) (c : Cls) (v : Nat) : s.fieldEff c DEVICE.MODE_REQ v = s.modeReq c v := rfl

theorem fieldEff_baud (s : State) (c : Cls) (v : Nat) : s.fieldEff c MONITOR.BAUD v = s.set MONITOR.BAUD v := rfl

theorem rowField_modeReq {c : Cls} {agent v : Nat} (h : s.accepts c DEVICE.MODE_REQ v = true) (hv : v ≤ 7) :
    s.rowField c agent DEVICE.MODE_REQ v = s.lands c DEVICE.MODE_REQ [fun w => w.modeReq c v] [] := by
  rw [rowField_lands h (by decide) (by decide) (by decide) (by decide) (by decide) (by decide)
    (by rw [fieldEff_modeReq, modeReq_acks])]
  have ht : trunc DEVICE.MODE_REQ.wid v = v := trunc_of_lt (show v < 2 ^ 3 by omega)
  simp only [fieldEff_modeReq, ht]

theorem rowField_baud {c : Cls} {agent v : Nat} (h : s.accepts c MONITOR.BAUD v = true) (hv : v ≤ 7) :
    s.rowField c agent MONITOR.BAUD v = s.lands c MONITOR.BAUD [fun w => w.set MONITOR.BAUD v] [] := by
  rw [rowField_lands h (by decide) (by decide) (by decide) (by decide) (by decide) (by decide) (by rw [fieldEff_baud]; rfl)]
  have ht : trunc MONITOR.BAUD.wid v = v := trunc_of_lt (show v < 2 ^ 3 by omega)
  simp only [fieldEff_baud, ht]

theorem trigAct_monitorDrop (s : State) (c : Cls) (data at_ : Nat) : s.trigAct c MONITOR.DROP data at_ = s.monDrop := rfl

theorem rowTrig_monitorDrop {c : Cls} (h : s.triggered c MONITOR.DROP = true) :
    s.rowTrig c MONITOR.DROP = s.lands c MONITOR.DROP [] [State.monDrop] := by
  rw [rowTrig_lands h (by decide) (by decide) (by decide) (by rw [trigAct_monitorDrop]; rfl) (by rw [trigAct_monitorDrop]; rfl)]
  rfl

/-- Settles O39: each clause is the branch of its command at the level in force. -/
theorem sumac : Obligations.Sumac := by
  unfold Obligations.Sumac
  refine ⟨?modeLow, ?baudLow, ?recoverLow, ?updLow, ?infoDeaf, ?rdDeaf, ?chalDeaf, ?elevDeaf, ?wrDeaf, ?info, ?rd, ?rdBad, ?log, ?chal,
    ?drop, ?start, ?startDenied, ?wr, ?wrLow, ?mode, ?modeBad, ?baud, ?baudBad, ?recover, ?recoverDenied, ?upd, ?elevBad, ?elevFails,
    ?elevLocks, ?brk, ?expired, ?inForce, ?unlocks, ?locked, ?monitorDrop⟩
  case modeLow =>
    intro s m hh he
    rw [exec_sumacMode, execSumacMode, monCommand_low hh he _ Nat.one_pos]
  case baudLow =>
    intro s m hh he
    rw [exec_sumacBaud, execSumacBaud, monCommand_low hh he _ Nat.one_pos]
  case recoverLow =>
    intro s hh he
    rw [exec_sumacRecover, execSumacRecover, monCommand_low hh he _ Nat.one_pos]
  case updLow =>
    intro s o a f d hh he hl
    rw [heard_def] at hl ⊢
    rw [exec_sumacUpd, execSumacUpd, monCommand_elevated hh he, if_pos hl]
  case infoDeaf =>
    intro s hh
    rw [exec_sumacInfo, execSumacInfo, monCommand_unheard hh]
  case rdDeaf =>
    intro s a n hh
    rw [exec_sumacRd, execSumacRd, monCommand_unheard hh]
  case chalDeaf =>
    intro s hh
    rw [exec_sumacChal, execSumacChal, monCommand_unheard hh]
  case elevDeaf =>
    intro s w hh
    rw [exec_sumacElev, execSumacElev, monCommand_unheard hh]
  case wrDeaf =>
    intro s a v hh
    rw [exec_sumacWr, execSumacWr, monCommand_unheard hh]
  case info =>
    intro s hh he hu u
    rw [exec_sumacInfo, execSumacInfo, monCommand_granted hh he (Nat.zero_le _)]
    rfl
  case rd =>
    intro s a n hh he hu h0 hn u
    rw [exec_sumacRd, execSumacRd, monCommand_granted hh he (Nat.zero_le _), State.monRead, if_neg (by omega)]
    rfl
  case rdBad =>
    intro s a n hh he hu hn u
    rw [exec_sumacRd, execSumacRd, monCommand_granted hh he (Nat.zero_le _), State.monRead, if_pos hn]
    rfl
  case log =>
    intro s q n hh he hu h0 hn u
    rw [exec_sumacLog, execSumacLog, monCommand_granted hh he (Nat.zero_le _), State.monLog, if_neg (by omega)]
    rfl
  case chal =>
    intro s hh he hu hr u
    have hr' : s.heard.rngFailed = false := hr
    rw [exec_sumacChal, execSumacChal, monCommand_granted hh he (Nat.zero_le _), State.monChal, if_neg (by simp [hr'])]
    rfl
  case drop =>
    intro s hh he hu u
    rw [exec_sumacDrop, execSumacDrop, monCommand_granted hh he (Nat.zero_le _)]
    rfl
  case start =>
    intro s hh he hu hm hb ht u
    rw [exec_sumacStart, execSumacStart, monCommand_granted hh he (Nat.zero_le _), State.monStart,
      if_pos (show s.heard.mode = 0 ∧ s.heard.get MGMT.BOOTSEL = 2 ∧ s.heard.trans = none from ⟨hm, hb, ht⟩)]
    rfl
  case startDenied =>
    intro s hh he hu hb u
    have hn : ¬ (s.heard.mode = 0 ∧ s.heard.get MGMT.BOOTSEL = 2 ∧ s.heard.trans = none) := fun h =>
      hb.elim (· h.1) (· h.2.1)
    rw [exec_sumacStart, execSumacStart, monCommand_granted hh he (Nat.zero_le _), State.monStart, if_neg hn]
    rfl
  case wr =>
    intro s a v hh he hu hl u
    rw [heard_def] at hu hl
    rw [exec_sumacWr, execSumacWr, monCommand_granted hh he (Nat.zero_le _), State.monWrite, monLevel_elevated hu, if_neg (by omega)]
    rfl
  case wrLow =>
    intro s a v hh he
    rw [exec_sumacWr, execSumacWr, monCommand_dropped hh he, if_neg (Nat.lt_irrefl 0), State.monWrite, if_pos (dropped_level s)]
    rfl
  case mode =>
    intro s m hh he hu hl hm ha u
    rw [heard_def] at hu hl ha
    rw [exec_sumacMode, execSumacMode, monCommand_granted hh he (by rwa [monLevel_elevated hu]), State.monMode, if_neg (by omega),
      rowField_modeReq ha hm]
    rfl
  case modeBad =>
    intro s m hh he hu hl hm u
    rw [heard_def] at hu hl
    rw [exec_sumacMode, execSumacMode, monCommand_granted hh he (by rwa [monLevel_elevated hu]), State.monMode, if_pos hm]
    rfl
  case baud =>
    intro s m hh he hu hl hm ha u
    rw [heard_def] at hu hl ha
    rw [exec_sumacBaud, execSumacBaud, monCommand_granted hh he (by rwa [monLevel_elevated hu]), State.monBaud, if_neg (by omega),
      rowField_baud ha hm]
    rfl
  case baudBad =>
    intro s m hh he hu hl hm u
    rw [heard_def] at hu hl
    rw [exec_sumacBaud, execSumacBaud, monCommand_granted hh he (by rwa [monLevel_elevated hu]), State.monBaud, if_pos hm]
    rfl
  case recover =>
    intro s hh he hu hl hm u
    rw [heard_def] at hu hl
    rw [exec_sumacRecover, execSumacRecover, monCommand_granted hh he (by rwa [monLevel_elevated hu]), State.monRecover,
      if_pos (show s.heard.mode = 2 from hm)]
    rfl
  case recoverDenied =>
    intro s hh he hu hl hm u
    rw [heard_def] at hu hl
    rw [exec_sumacRecover, execSumacRecover, monCommand_granted hh he (by rwa [monLevel_elevated hu]), State.monRecover,
      if_neg (show s.heard.mode ≠ 2 from hm)]
    rfl
  case upd =>
    intro s o a f d hh he hu hl ho ha hd hw hact hb u
    rw [heard_def] at hu hl hw
    have hact' : ¬ s.heard.act 0x112 = false := by
      show ¬ s.act 0x112 = false
      simp [hact]
    have hb' : ¬ s.heard.on UPDATE.BUSY = true := by
      show ¬ s.on UPDATE.BUSY = true
      simp [hb]
    rw [exec_sumacUpd, execSumacUpd, monCommand_granted hh he (by rwa [monLevel_elevated hu]), State.monUpd,
      if_neg (by rw [List.length_map]; omega), hw]
    dsimp only
    rw [if_neg hact', if_neg hb', List.length_map]
    rfl
  case elevBad =>
    intro s w hh he hu hw u
    rw [exec_sumacElev, execSumacElev, monCommand_granted hh he (Nat.zero_le _), State.monElev, if_pos (by rwa [List.length_map])]
    rfl
  case elevFails =>
    intro s w hh he hu hw hl hc hf
    obtain ⟨w4, h⟩ := monElev_failed (s := s.heard) (by rwa [List.length_map]) hl hc
    obtain ⟨hfails, hnonce, -, hmem, hlast, hsame⟩ := elevLogged s w4
    rw [exec_sumacElev, execSumacElev, monCommand_granted hh he (Nat.zero_le _), h]
    generalize (s.heard.setMon (fun m => { m with nonce := none })).logHw 0x07 1 0x113 w4 0 0 = v at hfails hnonce hmem hlast hsame ⊢
    have hs : SameRegs (MONITOR.ELEV_FAIL_CNT.key :: logKeys) s (v.count MONITOR.ELEV_FAIL_CNT) :=
      (hsame.mono fun _ hk => List.mem_cons_of_mem _ hk).count (List.mem_cons_self ..)
    rw [elevFailed_first (by omega)]
    exact ⟨_, rfl, congrArg (· + 1) hfails, hnonce, rfl, hs MONITOR.LEVEL (by decide), hlast, hmem, (hs.of_regs rfl)⟩
  case elevLocks =>
    intro s w hh he hu hw hl hc hf
    obtain ⟨w4, h⟩ := monElev_failed (s := s.heard) (by rwa [List.length_map]) hl hc
    obtain ⟨hfails, hnonce, hao, hmem, -, -⟩ := elevLogged s w4
    rw [exec_sumacElev, execSumacElev, monCommand_granted hh he (Nat.zero_le _), h]
    generalize (s.heard.setMon (fun m => { m with nonce := none })).logHw 0x07 1 0x113 w4 0 0 = v at hfails hnonce hao hmem ⊢
    have hmon := raise_mon ((v.count MONITOR.ELEV_FAIL_CNT).setMon (fun m => { m with fails := 0, lockEnd := v.ao + 300 * tickS }))
      0x113 EV.MONITOR.ELEV_LOCKED
    rw [elevFailed_third (by omega)]
    refine ⟨_, rfl, ?_, ?_, raise_sets _ _ (by decide), rfl, (raise_mem ..).trans hmem⟩
    · exact congrArg MonSt.fails hmon
    · rw [← hao]
      exact congrArg MonSt.lockEnd hmon
  case brk =>
    intro s hd
    rw [exec_monrxBreak, execMonrxBreak, if_neg (by simp [hd])]
    rfl
  case expired =>
    intro s h
    have he : s.monElevated = false := by
      simp only [State.monElevated, Bool.and_eq_false_iff, decide_eq_false_iff_not]
      omega
    rw [exec_elevationExpiry, execElevationExpiry, if_neg (by simp [he])]
    rfl
  case inForce =>
    intro s h
    rw [exec_elevationExpiry, execElevationExpiry, if_pos h]
  case unlocks =>
    intro s h
    rw [exec_elevLockExpiry, execElevLockExpiry, if_neg (by simpa [State.monLocked] using h)]
  case locked =>
    intro s h
    rw [exec_elevLockExpiry, execElevLockExpiry, if_pos (by simpa [State.monLocked] using h)]
  case monitorDrop =>
    intro s c h
    rw [exec_monitorDrop, execMonitorDrop, rowTrig_monitorDrop h]
    rfl

end Sys2Proof.Machine
end

section
/-! PROOFS. The log (O38). What a record adds to the log, what a flush writes, and what RD_SEQ shows. -/

namespace Sys2Proof.Machine

variable {s : State}

/-! ### Words that land: what stands beside the effect -/

/-- A trigger that leaves the waiting word alone: its effect, with the word answered. -/
theorem lands_trigger_one {c : Cls} {l : Loc} {g : State → State} (h : (g (s.ripe c l)).words = (s.ripe c l).words) :
    s.lands c l [] [g] = { g (s.ripe c l) with
      words := [], acks := (g (s.ripe c l)).acks ++ [(1, ⟨c, [], stOK⟩)], answer := some ⟨c, [], stOK⟩ } := by
  rw [lands_trigger, credit_one (h.trans (ripe_words s c l))]
  rfl

/-- The state in which a field takes effect is that of the tick, with the word answered. -/
theorem ripe_credit (s : State) (c : Cls) (l : Loc) :
    (s.ripe c l).credit 1 false =
      { s.ripe c l with words := [], acks := [(1, ⟨c, [], stOK⟩)], answer := some ⟨c, [], stOK⟩ } := by
  rw [credit_one (ripe_words s c l)]
  rfl

/-! ### Records -/

/-- The record that is written next. -/
def State.recordOf (s : State) (c ty sv pg w4 w5 w6 : Nat) : LogRec :=
  { seq := s.log.next, type := ty, sev := sv, cls := c, page := pg, stamp := s.stamp, w4 := w4, w5 := w5, w6 := w6,
    link := (bytesWords 1 s.log.head).getD 0 0 }

/-- A record joins a log that holds fewer than 2,048 unflushed ones. -/
def LogSt.add (l : LogSt) (r : LogRec) : LogSt :=
  { l with next := (l.next + 1) % 2 ^ 32, recs := (l.recs ++ [r]).drop ((l.recs ++ [r]).length - 2048), unflushed := l.unflushed + 1,
           head := sha256 (l.head ++ wordsBytes r.words) }

theorem logAs_log (h : s.log.unflushed < 2048) (c ty sv pg w4 w5 w6 : Nat) :
    (s.logAs c ty sv pg w4 w5 w6).log = s.log.add (s.recordOf c ty sv pg w4 w5 w6) := by
  unfold State.logAs
  extract_lets lost t1 r here ill t2 t3 recs l t4
  have hlost : lost = false := decide_eq_false (Nat.not_le.2 h)
  have h1 : t1 = s := by
    show (if lost = true then _ else s) = s
    rw [if_neg (by simp [hlost])]
  have h3 : t3.log = s.log := by
    show (if ill = 0 then t1 else _ : State).log = s.log
    rw [h1]
    split
    · rfl
    · exact raise_log ..
  have hr : r = s.recordOf c ty sv pg w4 w5 w6 := by
    simp only [r, h1, State.recordOf]
  have hl : (t4.set LOG.HEAD_SEQ r.seq).log = { t3.log with
      next := (t3.log.next + 1) % 2 ^ 32, recs := recs.drop (recs.length - 2048), unflushed := if lost = true then 2048 else t3.log.unflushed + 1,
      lost := if lost = true then t3.log.lost + 1 else t3.log.lost, head := sha256 (t3.log.head ++ wordsBytes r.words) } := by
    simp only [State.set, t4, l]
  rw [hl]
  simp only [recs, hlost, h3, hr, LogSt.add, Bool.false_eq_true, if_false]

theorem logAs_headSeq (s : State) (c ty sv pg w4 w5 w6 : Nat) :
    (s.logAs c ty sv pg w4 w5 w6).get LOG.HEAD_SEQ = s.log.next % 2 ^ 32 := by
  unfold State.logAs
  extract_lets lost t1 r here ill t2 t3 recs l t4
  have h1 : t1.log = s.log := by
    show State.log (if _ then _ else _) = _
    split
    · exact raise_log ..
    · rfl
  rw [get_set_same]
  show trunc 32 t1.log.next = _
  rw [h1]
  rfl

theorem logAs_eccBase (s : State) (c ty sv pg w4 w5 w6 : Nat) : (s.logAs c ty sv pg w4 w5 w6).eccBase = s.eccBase :=
  (congrArg State.eccBase (logAs_recordless s c ty sv pg w4 w5 w6) :)

theorem raise_ecc (s : State) (pg b : Nat) : (s.raise pg b).ecc = s.ecc := (congrArg State.ecc (raise_eventless s pg b) :)

/-- Where no code word is damaged, none is after a record. -/
theorem logAs_ecc (h : s.ecc = []) (c ty sv pg w4 w5 w6 : Nat) : (s.logAs c ty sv pg w4 w5 w6).ecc = [] := by
  unfold State.logAs
  extract_lets lost t1 r here ill t2 t3 recs l t4
  have h1 : t1.ecc = [] := by
    show State.ecc (if _ then _ else _) = _
    split
    · exact (raise_ecc ..).trans h
    · exact h
  have h2 : t2.ecc = [] := by
    show State.ecc (if _ then _ else _) = _
    split
    · exact h1
    · exact (raise_ecc ..).trans h1
  show t2.ecc.filter _ = []
  rw [h2]
  rfl

/-- A log that is not full keeps its records before the one that joins it. -/
theorem add_recs {l : LogSt} {r : LogRec} (h : l.recs.length < 2048) : (l.add r).recs = l.recs ++ [r] := by
  have hz : (l.recs ++ [r]).length - 2048 = 0 := by
    rw [List.length_append, List.length_singleton]
    omega
  simp only [LogSt.add, hz, List.drop_zero]

theorem add_last (l : LogSt) (r : LogRec) : (l.add r).recs.getLast? = some r := by
  simp only [LogSt.add]
  rw [getLast?_drop_concat]
  rw [List.length_append, List.length_singleton]
  omega

/-! ### Flushes -/

theorem flashKeep_last {l : List LogRec} {r : LogRec} {n : Nat} : (flashKeep n (l ++ [r])).getLast? = some r := by
  unfold flashKeep
  dsimp only
  rw [getLast?_drop_concat]
  rw [List.length_append, List.length_singleton]
  omega

theorem recBad_sound (he : s.ecc = []) (hb : s.eccBase.look 1 = 0) (r : LogRec) : s.recBad r = false := by
  have h : ∀ i, s.eccOf 1 i = 0 := fun i => by simp [State.eccOf, he, hb, Store.look]
  simp [State.recBad, h]

/-- The CHECKPOINT that a flush writes first. -/
def State.checkpoint (s : State) : State :=
  let h := bytesWords 4 s.log.head
  s.logHw 0x01 0 0x111 (h.getD 1 0) (h.getD 2 0) (h.getD 3 0)

/-- What a flush leaves that writes the records `out`. -/
def State.flushed (s : State) (out : List LogRec) : State :=
  let v := (s.count LOG.LOST_CNT 0).setLog (fun l => { l with
    flash := flashKeep (l.flashN + out.length) (l.flash ++ out), flashN := l.flashN + out.length, unflushed := 0, deferred := false,
    flushAt := s.ao })
  v.set LOG.FLUSHED_SEQ (v.get LOG.HEAD_SEQ)

theorem logFlush_deferred (h0 : 0 < s.log.unflushed) (hw : s.writeOk = false) (hd : s.log.deferred = false) :
    s.logFlush = (s.setLog (fun l => { l with deferred := true })).raise 0x111 EV.LOG.FLUSH_DEFERRED := by
  rw [State.logFlush, if_neg (by omega), if_pos hw, if_neg (by simp [hd])]

theorem logFlush_none (h : s.log.unflushed = 0) : s.logFlush = s := if_pos h

/-- Nothing was lost and no record is damaged: the CHECKPOINT and every unflushed record go to flash. -/
theorem logFlush_whole (h0 : 0 < s.log.unflushed) (hw : s.writeOk = true) (hl : s.checkpoint.log.lost = 0) (he : s.checkpoint.ecc = [])
    (hb : s.checkpoint.eccBase.look 1 = 0) :
    s.logFlush = s.checkpoint.flushed (s.checkpoint.log.recs.drop (s.checkpoint.log.recs.length - s.checkpoint.log.unflushed)) := by
  have hgood : ∀ l : List LogRec, l.filter (fun r => !s.checkpoint.recBad r) = l := fun l =>
    List.filter_eq_self.2 fun r _ => by simp [recBad_sound he hb]
  have hbad : ∀ l : List LogRec, l.filter (fun r => s.checkpoint.recBad r) = [] := fun l =>
    List.filter_eq_nil_iff.2 fun r _ => by simp [recBad_sound he hb]
  rw [State.logFlush, if_neg (by omega), if_neg (by simp [hw])]
  dsimp only
  rw [show s.logHw 0x01 0 0x111 _ _ _ = s.checkpoint from rfl, if_pos hl]
  simp only [hgood, hbad]
  rfl

/-- What a flush with none of its records lost leaves. -/
structure State.FlushedFrom (s t : State) : Prop where
  unflushed : t.log.unflushed = 0
  count : t.log.flashN = s.log.flashN + s.log.unflushed + 1
  at_ : t.log.flushAt = s.ao
  last : t.log.flash.getLast?.map (·.type) = some 1
  seq : t.get LOG.FLUSHED_SEQ = s.log.next % 2 ^ 32
  head : t.get LOG.HEAD_SEQ = s.log.next % 2 ^ 32
  mem : t.mem = s.mem
  regs : SameRegs (LOG.FLUSHED_SEQ.key :: logKeys) s t

theorem logFlush_all (h0 : 0 < s.log.unflushed) (hw : s.writeOk = true) (hu : s.log.unflushed < 2048) (hl : s.log.lost = 0)
    (hle : s.log.unflushed ≤ s.log.recs.length) (hn : s.log.recs.length < 2048) (he : s.ecc = []) (hb : s.eccBase.look 1 = 0) :
    s.FlushedFrom s.logFlush := by
  obtain ⟨r, hr, hlog⟩ : ∃ r : LogRec, r.type = 1 ∧ s.checkpoint.log = s.log.add r := ⟨_, rfl, logAs_log hu ..⟩
  have hkept : s.checkpoint.recordless = s.recordless := logHw_recordless ..
  have hregs : SameRegs logKeys s s.checkpoint := SameRegs.logAs (.refl s) fun _ hk => hk
  have hhead : s.checkpoint.get LOG.HEAD_SEQ = s.log.next % 2 ^ 32 := logAs_headSeq ..
  have hout : s.checkpoint.log.recs.drop (s.checkpoint.log.recs.length - s.checkpoint.log.unflushed) =
      s.log.recs.drop (s.log.recs.length - s.log.unflushed) ++ [r] := by
    rw [hlog, add_recs hn, List.length_append, List.length_singleton]
    show List.drop (s.log.recs.length + 1 - (s.log.unflushed + 1)) _ = _
    rw [Nat.add_sub_add_right, List.drop_append_of_le_length (Nat.sub_le ..)]
  have hlen : (s.log.recs.drop (s.log.recs.length - s.log.unflushed) ++ [r]).length = s.log.unflushed + 1 := by
    rw [List.length_append, List.length_drop, List.length_singleton]
    omega
  rw [logFlush_whole h0 hw (by rw [hlog]; exact hl) (logAs_ecc he ..) (by rw [State.checkpoint, State.logHw, logAs_eccBase]; exact hb), hout]
  generalize s.log.recs.drop (s.log.recs.length - s.log.unflushed) = out at hlen
  generalize s.checkpoint = v at hlog hkept hregs hhead
  have hset : SameRegs (LOG.FLUSHED_SEQ.key :: logKeys) s (v.flushed (out ++ [r])) :=
    SameRegs.set (SameRegs.of_regs ((hregs.mono fun _ hk => List.mem_cons_of_mem _ hk).count (by decide)) rfl) (List.mem_cons_self ..)
  have hh : ((v.count LOG.LOST_CNT 0).get LOG.HEAD_SEQ) = s.log.next % 2 ^ 32 := by rw [count_other v 0 (by decide), hhead]
  exact {
    unflushed := rfl
    count := by
      show v.log.flashN + (out ++ [r]).length = _
      rw [hlen, hlog]
      rfl
    at_ := (congrArg State.ao hkept :)
    last := by
      show (flashKeep _ (v.log.flash ++ (out ++ [r]))).getLast?.map _ = _
      rw [← List.append_assoc, flashKeep_last]
      exact congrArg some hr
    seq := by
      show State.get (State.set _ _ (State.get (State.count v LOG.LOST_CNT 0) LOG.HEAD_SEQ)) LOG.FLUSHED_SEQ = _
      rw [get_set_same, hh]
      exact Nat.mod_mod ..
    head := (get_set_other _ _ (by decide)).trans hh
    mem := (congrArg State.mem hkept :)
    regs := hset }

/-! ### Reading records -/

theorem rdW_key {i j : Nat} (h : i ≠ j) : (LOG.RD_W i).key ≠ (LOG.RD_W j).key := by
  simp only [Loc.key, LOG.RD_W]
  omega

/-- The words that RD_W0 to RD_W7 show for a record, or for none. -/
def rdWords (o : Option LogRec) : List Nat :=
  match o with
  | some r => r.words
  | none => List.replicate 8 0

theorem rdWords_length (o : Option LogRec) : (rdWords o).length = 8 := by
  cases o <;> rfl

theorem setWin_rdW {l : List Nat} {i : Nat} (hi : i < l.length) : (s.setWin LOG.RD_W l).get (LOG.RD_W i) = l.getD i 0 % 2 ^ 32 := by
  refine foldl_get (List.mem_range.2 hi) (fun u => get_set_same ..) fun u m _ hu => ?_
  by_cases hm : i = m
  · subst hm
    exact get_set_same ..
  · rw [get_set_other _ _ (rdW_key hm), hu]

/-- The fields that show a record. -/
def rdKeys : List Nat := [LOG.RD_MISS.key, LOG.RD_BUSY.key] ++ (List.range 8).map (fun i => (LOG.RD_W i).key)

theorem setWin_rdW_same {l : List Nat} (h : l.length = 8) : SameRegs rdKeys s (s.setWin LOG.RD_W l) := by
  unfold State.setWin
  rw [h]
  exact List.foldlRecOn (motive := fun u : State => SameRegs rdKeys s u) _ _ (.refl s) fun u hu i hi =>
    hu.set (List.mem_append_right _ (List.mem_map_of_mem hi))

theorem setWin_mem (s : State) (f : Nat → Loc) (l : List Nat) : (s.setWin f l).mem = s.mem :=
  List.foldlRecOn (motive := fun u : State => u.mem = s.mem) _ _ rfl fun _ hu _ _ => hu

/-- What RD_W and RD_STAT show after a record, or none, has been selected. -/
structure State.Shows (s t : State) (o : Option LogRec) : Prop where
  words : ∀ i, i < 8 → t.get (LOG.RD_W i) = (rdWords o).getD i 0 % 2 ^ 32
  miss : t.get LOG.RD_MISS = if o.isSome then 0 else 1
  busy : t.get LOG.RD_BUSY = 0
  rd : t.log.rd = none
  mem : t.mem = s.mem
  regs : SameRegs rdKeys s t

theorem get_setLog (s : State) (f : LogSt → LogSt) (l : Loc) : (s.setLog f).get l = s.get l := rfl

theorem rdShow_shows (s : State) (o : Option LogRec) : s.Shows (s.rdShow o) o := by
  have hdef : s.rdShow o = (((s.setWin LOG.RD_W (rdWords o)).set LOG.RD_MISS (if o.isSome then 0 else 1)).set LOG.RD_BUSY 0).setLog
      (fun l => { l with rd := none }) := rfl
  have hw : ∀ i, (LOG.RD_W i).key ≠ LOG.RD_MISS.key ∧ (LOG.RD_W i).key ≠ LOG.RD_BUSY.key := fun i => by
    simp only [Loc.key, LOG.RD_W, LOG.RD_MISS, LOG.RD_BUSY]
    omega
  have h1 : SameRegs rdKeys s ((s.setWin LOG.RD_W (rdWords o)).set LOG.RD_MISS (if o.isSome then 0 else 1)) :=
    (setWin_rdW_same (rdWords_length o)).set (by decide)
  have h2 : SameRegs rdKeys s (((s.setWin LOG.RD_W (rdWords o)).set LOG.RD_MISS (if o.isSome then 0 else 1)).set LOG.RD_BUSY 0) :=
    h1.set (by decide)
  rw [hdef]
  exact {
    words := fun i hi => by
      rw [get_setLog, get_set_other _ _ (hw i).2, get_set_other _ _ (hw i).1, setWin_rdW (by rw [rdWords_length]; exact hi)]
    miss := by
      rw [get_setLog, get_set_other _ _ (by decide), get_set_same]
      cases o <;> rfl
    busy := by
      rw [get_setLog, get_set_same]
      rfl
    rd := rfl
    mem := setWin_mem s _ _
    regs := h2.of_regs rfl }

theorem fieldEff_rdSeq (s : State) (c : Cls) (v : Nat) : s.fieldEff c LOG.RD_SEQ v = s.rdSeq v := rfl

theorem rdShow_acks (s : State) (o : Option LogRec) : (s.rdShow o).acks = s.acks :=
  List.foldlRecOn (motive := fun u : State => u.acks = s.acks) (List.range (rdWords o).length) _ rfl fun _ hu _ _ => hu

theorem rdSeq_acks (s : State) (q : Nat) : (s.rdSeq q).acks = s.acks := by
  unfold State.rdSeq
  dsimp only
  split
  · exact rdShow_acks ..
  · split
    · rfl
    · exact rdShow_acks ..

theorem exec_logRdSeq_lands {c : Cls} {a q : Nat} (h : s.accepts c LOG.RD_SEQ q = true) (hq : q < 2 ^ 32) :
    exec (.logRdSeq c a q) s = .next (s.lands c LOG.RD_SEQ [fun u => u.rdSeq q] []) := by
  have ht : trunc LOG.RD_SEQ.wid q = q := trunc_of_lt hq
  rw [exec_logRdSeq, execLogRdSeq, rowField_lands h (by decide) (by decide) (by decide) (by decide) (by decide) (by decide)
    (by rw [fieldEff_rdSeq, rdSeq_acks])]
  simp only [fieldEff_rdSeq, ht]

theorem rdSeq_ram {q : Nat} {r : LogRec} (h : s.ramRec q = some r) : s.rdSeq q = (s.set LOG.RD_SEQ q).rdShow (some r) := by
  have h' : (s.set LOG.RD_SEQ q).ramRec q = some r := h
  simp only [State.rdSeq, h']

theorem rdSeq_flash {q : Nat} {r : LogRec} (h : s.ramRec q = none) (hf : s.flashRec q = some r) :
    s.rdSeq q = (((s.set LOG.RD_SEQ q).set LOG.RD_BUSY 1).set LOG.RD_MISS 0).setLog (fun l => { l with rd := some q }) := by
  have h' : (s.set LOG.RD_SEQ q).ramRec q = none := h
  have hf' : (s.set LOG.RD_SEQ q).flashRec q = some r := hf
  simp only [State.rdSeq, h', hf']

theorem rdSeq_miss {q : Nat} (h : s.ramRec q = none) (hf : s.flashRec q = none) : s.rdSeq q = (s.set LOG.RD_SEQ q).rdShow none := by
  have h' : (s.set LOG.RD_SEQ q).ramRec q = none := h
  have hf' : (s.set LOG.RD_SEQ q).flashRec q = none := hf
  simp only [State.rdSeq, h', hf']

theorem ripe_ramRec (s : State) (c : Cls) (l : Loc) (q : Nat) : ((s.ripe c l).credit 1 false).ramRec q = (s.ripe c l).ramRec q := by
  rw [ripe_credit]
  rfl

theorem ripe_flashRec (s : State) (c : Cls) (l : Loc) (q : Nat) : ((s.ripe c l).credit 1 false).flashRec q = (s.ripe c l).flashRec q := by
  rw [ripe_credit]
  rfl

/-- RD_SEQ where it shows a record at once, or none. -/
theorem shows_lands {c : Cls} {q : Nat} {o : Option LogRec} (hq : q < 2 ^ 32)
    (h : ((s.ripe c LOG.RD_SEQ).credit 1 false).rdSeq q = (((s.ripe c LOG.RD_SEQ).credit 1 false).set LOG.RD_SEQ q).rdShow o) :
    let t := s.lands c LOG.RD_SEQ [fun u => u.rdSeq q] []
    t.get LOG.RD_SEQ = q ∧ (∀ i, i < 8 → t.get (LOG.RD_W i) = (rdWords o).getD i 0 % 2 ^ 32) ∧
      t.get LOG.RD_MISS = (if o.isSome then 0 else 1) ∧ t.get LOG.RD_BUSY = 0 ∧ t.mem = (s.ripe c LOG.RD_SEQ).mem ∧
      SameRegs ([LOG.RD_SEQ.key, LOG.RD_MISS.key, LOG.RD_BUSY.key] ++ (List.range 8).map (fun i => (LOG.RD_W i).key))
        (s.ripe c LOG.RD_SEQ) t := by
  intro t
  obtain ⟨hw, hm, hb, -, hmem, hr⟩ := rdShow_shows (((s.ripe c LOG.RD_SEQ).credit 1 false).set LOG.RD_SEQ q) o
  have ht : t = ((((s.ripe c LOG.RD_SEQ).credit 1 false).set LOG.RD_SEQ q).rdShow o).reply c [] stOK := by
    show s.lands c LOG.RD_SEQ [fun u => u.rdSeq q] [] = _
    rw [lands_field, h]
  rw [ht]
  refine ⟨?_, hw, hm, hb, hmem.trans (credit_mem ..), ?_⟩
  · refine (hr LOG.RD_SEQ (by decide)).trans ((get_set_same ..).trans (trunc_of_lt hq))
  · have h0 : SameRegs (LOG.RD_SEQ.key :: rdKeys) (s.ripe c LOG.RD_SEQ) (((s.ripe c LOG.RD_SEQ).credit 1 false).set LOG.RD_SEQ q) :=
      (SameRegs.refl _).credit.set (List.mem_cons_self ..)
    exact (h0.trans (hr.mono fun _ hk => List.mem_cons_of_mem _ hk)).reply

/-! ### FW_CMD and FLUSH -/

theorem trigAct_logGo (s : State) (c : Cls) (data at_ : Nat) :
    s.trigAct c LOG.GO data at_ = s.fwRecord c (bits data 0 8) (bits data 16 2) := rfl

theorem trigAct_logFlush (s : State) (c : Cls) (data at_ : Nat) : s.trigAct c LOG.FLUSH data at_ = s.logFlush := rfl

theorem fwData_fields {t : Nat} (v : Nat) (ht : t < 256) :
    bits (2 ^ 31 + v % 4 * 65536 + t) 0 8 = t ∧ bits (2 ^ 31 + v % 4 * 65536 + t) 16 2 = v % 4 := by
  simp only [bits]
  omega

theorem logAs_acks (s : State) (c ty sv pg w4 w5 w6 : Nat) : (s.logAs c ty sv pg w4 w5 w6).acks = s.acks :=
  (congrArg State.acks (logAs_recordless s c ty sv pg w4 w5 w6) :)

theorem logAs_words (s : State) (c ty sv pg w4 w5 w6 : Nat) : (s.logAs c ty sv pg w4 w5 w6).words = s.words :=
  (congrArg State.words (logAs_recordless s c ty sv pg w4 w5 w6) :)

theorem logFlush_waiting (s : State) : s.logFlush.words = s.words ∧ s.logFlush.acks = s.acks := by
  have h : s.Steady s.logFlush := (State.Steady.refl s).logFlush
  exact ⟨(congrArg (fun u => u.1) h.units :), (congrArg (fun u => u.2.1) h.units :)⟩

theorem exec_fwLogRecord_lands {c : Cls} {t v : Nat} (h : s.triggered c LOG.GO (2 ^ 31 + v % 4 * 65536 + t) = true) (ht : t < 256) :
    exec (.fwLogRecord c t v) s = .next (s.lands c LOG.GO [] [fun u => u.logAs c.code t (v % 4) 0 (u.get (perClass LOG.FW_W4 c))
      (u.get (perClass LOG.FW_W5 c)) (u.get (perClass LOG.FW_W6 c))]) := by
  have hd : 2 ^ 31 + v % 4 * 2 ^ 16 + t % 256 = 2 ^ 31 + v % 4 * 65536 + t := by omega
  obtain ⟨hty, hsv⟩ := fwData_fields v ht
  have hact : ∀ u : State, u.trigAct c LOG.GO (2 ^ 31 + v % 4 * 65536 + t) s.ao = u.logAs c.code t (v % 4) 0
      (u.get (perClass LOG.FW_W4 c)) (u.get (perClass LOG.FW_W5 c)) (u.get (perClass LOG.FW_W6 c)) := fun u => by
    rw [trigAct_logGo, hty, hsv, State.fwRecord, Nat.mod_eq_of_lt ht, Nat.mod_mod]
  rw [exec_fwLogRecord, execFwLogRecord, hd, rowTrig_lands h (by decide) (by decide) (by decide) (by rw [hact, logAs_words])
    (by rw [hact, logAs_acks]; rfl)]
  simp only [hact]

theorem exec_logFlushCmd_lands {c : Cls} (h : s.triggered c LOG.FLUSH = true) :
    exec (.logFlushCmd c) s = .next (s.lands c LOG.FLUSH [] [State.logFlush]) := by
  obtain ⟨hw, ha⟩ := logFlush_waiting (s.ripe c LOG.FLUSH)
  rw [exec_logFlushCmd, execLogFlushCmd, rowTrig_lands h (by decide) (by decide) (by decide) (by rw [trigAct_logFlush, hw])
    (by rw [trigAct_logFlush, ha]; rfl)]
  rfl

/-- Two effects that agree on the tick of the trigger land alike. -/
theorem lands_trigger_congr {c : Cls} {l : Loc} {f g : State → State} (h : f (s.ripe c l) = g (s.ripe c l)) :
    s.lands c l [] [f] = s.lands c l [] [g] := by
  rw [lands_trigger, lands_trigger, h]

theorem lands_field_congr {c : Cls} {l : Loc} {f g : State → State} (h : f ((s.ripe c l).credit 1 false) = g ((s.ripe c l).credit 1 false)) :
    s.lands c l [f] [] = s.lands c l [g] [] := by
  rw [lands_field, lands_field, h]

theorem flushedFrom_answered {t : State} (h : s.FlushedFrom t) (ws : List WordSt) (as : List (Nat × Answer)) (a : Option Answer) :
    s.FlushedFrom { t with words := ws, acks := as, answer := a } :=
  ⟨h.unflushed, h.count, h.at_, h.last, h.seq, h.head, h.mem, h.regs.of_regs rfl⟩

/-- A record that joins a log which is not full of unflushed ones, its word answered. -/
theorem logAs_added (h : s.log.unflushed < 2048) (c ty sv pg w4 w5 w6 : Nat) (ws : List WordSt) (as : List (Nat × Answer))
    (a : Option Answer) :
    let w : State := { s.logAs c ty sv pg w4 w5 w6 with words := ws, acks := as, answer := a }
    w.log.recs.getLast?.map (·.type) = some ty ∧ w.log.recs.getLast?.map (·.cls) = some c ∧
      w.log.recs.getLast?.map (·.sev) = some sv ∧ w.log.recs.getLast?.map (·.seq) = some s.log.next ∧
      w.get LOG.HEAD_SEQ = s.log.next % 2 ^ 32 ∧ w.log.unflushed = s.log.unflushed + 1 ∧ w.mem = s.mem ∧ SameRegs logKeys s w := by
  have hlog := logAs_log h c ty sv pg w4 w5 w6
  have hlast := add_last s.log (s.recordOf c ty sv pg w4 w5 w6)
  have hseq := logAs_headSeq s c ty sv pg w4 w5 w6
  have hregs : SameRegs logKeys s (s.logAs c ty sv pg w4 w5 w6) := SameRegs.logAs (.refl s) fun _ hk => hk
  have hmem : (s.logAs c ty sv pg w4 w5 w6).mem = s.mem := (congrArg State.mem (logAs_recordless s c ty sv pg w4 w5 w6) :)
  have hun : (s.log.add (s.recordOf c ty sv pg w4 w5 w6)).unflushed = s.log.unflushed + 1 := rfl
  rw [← hlog] at hlast hun
  generalize s.logAs c ty sv pg w4 w5 w6 = v at hlog hlast hseq hregs hmem hun
  simp only [hlast, Option.map_some]
  exact ⟨rfl, rfl, rfl, rfl, hseq, hun, hmem, hregs.of_regs rfl⟩

/-- Settles O38: each clause is one branch of the command, with the frame of what it writes. -/
theorem logRecords : Obligations.LogRecords := by
  unfold Obligations.LogRecords
  refine ⟨?record, ?refused, ?recordDsp, ?deferred, ?flush, ?cmdDeferred, ?cmdFlush, ?idle, ?cmdIdle, ?ram, ?flash, ?miss, ?flashDone, ?noRead,
    ?mgt⟩
  case record =>
    intro s c t v h ht
    exact exec_fwLogRecord_lands h ht
  case refused =>
    intro s c t v h ht
    have hd : 2 ^ 31 + v % 4 * 2 ^ 16 + t % 256 = 2 ^ 31 + v % 4 * 65536 + t := by omega
    rw [exec_fwLogRecord, execFwLogRecord, hd, State.rowTrig, carry_refused h]
    rfl
  case recordDsp =>
    intro s t v h ht hu _ u
    refine ⟨_, exec_fwLogRecord_lands h ht, ?_⟩
    rw [lands_trigger_one (logAs_words ..)]
    exact logAs_added hu ..
  case deferred =>
    intro s hd h0 hw hdef
    rw [exec_logFlush, execLogFlush, if_pos hd, logFlush_deferred h0 hw hdef]
  case flush =>
    intro s hd h0 hw hu hl hle hn he hb
    rw [exec_logFlush, execLogFlush, if_pos hd]
    obtain ⟨h1, h2, h3, h4, h5, h6, h7, h8⟩ := logFlush_all h0 hw hu hl hle hn he hb
    exact ⟨_, rfl, h1, h2, h3, h4, h5, h6, h7, h8⟩
  case cmdDeferred =>
    intro s c h h0 hw hdef
    rw [exec_logFlushCmd_lands h]
    exact congrArg Host.Outcome.next (lands_trigger_congr (logFlush_deferred h0 hw hdef))
  case cmdFlush =>
    intro s c h h0 hw hu hl hle hn he hb u
    refine ⟨_, exec_logFlushCmd_lands h, ?_⟩
    rw [lands_trigger_one (logFlush_waiting _).1]
    obtain ⟨h1, h2, h3, h4, h5, h6, h7, h8⟩ := flushedFrom_answered (logFlush_all h0 hw hu hl hle hn he hb) []
      ((s.ripe c LOG.FLUSH).logFlush.acks ++ [(1, ⟨c, [], stOK⟩)]) (some ⟨c, [], stOK⟩)
    exact ⟨h1, h2, h3, h4, h5, h6, h7, h8⟩
  case idle =>
    intro s h
    rw [exec_logFlush, execLogFlush]
    rcases h with h | h
    · rw [if_neg (by simp [h])]
    · rw [logFlush_none h, ite_self]
  case cmdIdle =>
    intro s c h h0
    rw [exec_logFlushCmd_lands h]
    exact congrArg Host.Outcome.next (lands_trigger_congr (g := fun u => u) (logFlush_none h0))
  case ram =>
    intro s c a q r h hq hr u
    exact ⟨_, exec_logRdSeq_lands h hq, shows_lands (o := some r) hq (rdSeq_ram ((ripe_ramRec ..).trans hr))⟩
  case flash =>
    intro s c a q r h hq hr hf
    rw [exec_logRdSeq_lands h hq]
    exact congrArg Host.Outcome.next (lands_field_congr (rdSeq_flash ((ripe_ramRec ..).trans hr) ((ripe_flashRec ..).trans hf)))
  case miss =>
    intro s c a q h hq hr hf u
    obtain ⟨h1, h2, h3, h4, h5, h6⟩ := shows_lands (s := s) (c := c) (o := none) hq
      (rdSeq_miss ((ripe_ramRec ..).trans hr) ((ripe_flashRec ..).trans hf))
    refine ⟨_, exec_logRdSeq_lands h hq, h1, fun i hi => ?_, h3, h4, h5, h6⟩
    rw [h2 i hi, rdWords, List.getD_replicate _ hi]
    rfl
  case flashDone =>
    intro s q r h hf
    have hd : s.rdDone = s.rdShow (some r) := by simp only [State.rdDone, h, hf]
    obtain ⟨h1, h2, h3, h4, h5, h6⟩ := rdShow_shows s (some r)
    rw [exec_logFlashReadDone, execLogFlashReadDone, hd]
    exact ⟨_, rfl, h1, h2, h3, h4, h5, h6⟩
  case noRead =>
    intro s h
    rw [exec_logFlashReadDone, execLogFlashReadDone, State.rdDone, h]
  case mgt =>
    intro s ws b p hp h0 hn u
    obtain ⟨u', hu⟩ : ∃ u', s.sendClear.receiveAs 4 (some 3) ws b = (some p, u') := ⟨_, Prod.ext hp rfl⟩
    have hm : min 64 (max 1 (p.w1 % 2 ^ 16)) = p.w1 % 2 ^ 16 := by omega
    rw [exec_mgtLogRead, execMgtLogRead, State.mgtLogRead, hu]
    dsimp only
    rw [hm]
    simp only [u, hu]

end Sys2Proof.Machine
end

section
/-! PROOFS. Checkers and error injection (O22). The counts are two registers; each event sets its own and raises its event. -/

namespace Sys2Proof.Machine

variable {s t : State} {n : Nat}

/-! ### Two registers as one number -/

theorem get64_set64_same {lo hi : Loc} (hne : lo.key ≠ hi.key) (hl : lo.wid = 32) (hh : hi.wid = 32) {v : Nat} (hv : v < 2 ^ 64) :
    (s.set64 lo hi v).get64 lo hi = v := by
  rw [State.get64, State.set64, get_set_other _ _ hne, get_set_same, get_set_same, hl, hh]
  simp only [trunc, join64]
  omega

theorem get64_set_other {lo hi l : Loc} (v : Nat) (h1 : lo.key ≠ l.key) (h2 : hi.key ≠ l.key) :
    (s.set l v).get64 lo hi = s.get64 lo hi := by
  rw [State.get64, State.get64, get_set_other _ _ h1, get_set_other _ _ h2]

theorem get64_set64_other {lo hi a b : Loc} (v : Nat) (h1 : lo.key ≠ a.key) (h2 : hi.key ≠ a.key) (h3 : lo.key ≠ b.key)
    (h4 : hi.key ≠ b.key) : (s.set64 a b v).get64 lo hi = s.get64 lo hi := by
  rw [State.set64, get64_set_other _ h3 h4, get64_set_other _ h1 h2]

theorem set_mem (s : State) (l : Loc) (v : Nat) : (s.set l v).mem = s.mem := rfl

theorem set64_mem (s : State) (lo hi : Loc) (v : Nat) : (s.set64 lo hi v).mem = s.mem := rfl

/-! ### The fields of a checker -/

/-- The fields that a checker of lane `n` writes. -/
def chkLocs (n : Nat) : List Loc := [DS.PRBS_SYNC n, DS.ERR_CNT_LO n, DS.ERR_CNT_HI n, DS.BIT_CNT_LO n, DS.BIT_CNT_HI n]

/-- They are five fields, and none of them is an event's. -/
theorem chkLocs_apart (n : Nat) :
    (chkLocs n).Pairwise (fun a b => a.key ≠ b.key) ∧
      ∀ l ∈ chkLocs n, l.key ≠ (HDR.EVT (dsPage n)).key ∧ l.key ≠ ERL1.EVT_LOST_CNT.key := by
  simp only [chkLocs, List.pairwise_cons, List.forall_mem_cons, List.not_mem_nil, IsEmpty.forall_iff, implies_true, and_true,
    List.Pairwise.nil, Loc.key, DS.PRBS_SYNC, DS.ERR_CNT_LO, DS.ERR_CNT_HI, DS.BIT_CNT_LO, DS.BIT_CNT_HI, HDR.EVT, ERL1.EVT_LOST_CNT, dsPage]
  omega

theorem errCnt_ne (n : Nat) : (DS.ERR_CNT_LO n).key ≠ (DS.ERR_CNT_HI n).key := by
  simp only [Loc.key, DS.ERR_CNT_LO, DS.ERR_CNT_HI]
  omega

theorem bitCnt_ne (n : Nat) : (DS.BIT_CNT_LO n).key ≠ (DS.BIT_CNT_HI n).key := by
  simp only [Loc.key, DS.BIT_CNT_LO, DS.BIT_CNT_HI]
  omega

theorem errCnt_ne_bitCnt (n : Nat) :
    (DS.ERR_CNT_LO n).key ≠ (DS.BIT_CNT_LO n).key ∧ (DS.ERR_CNT_HI n).key ≠ (DS.BIT_CNT_LO n).key ∧
      (DS.ERR_CNT_LO n).key ≠ (DS.BIT_CNT_HI n).key ∧ (DS.ERR_CNT_HI n).key ≠ (DS.BIT_CNT_HI n).key := by
  simp only [Loc.key, DS.ERR_CNT_LO, DS.ERR_CNT_HI, DS.BIT_CNT_LO, DS.BIT_CNT_HI]
  omega

/-- Storing the bits compared touches BIT_CNT alone. -/
theorem bitNote_get64_err (s : State) (n : Nat) (go : Bool) :
    (s.bitNote n go).get64 (DS.ERR_CNT_LO n) (DS.ERR_CNT_HI n) = s.get64 (DS.ERR_CNT_LO n) (DS.ERR_CNT_HI n) := by
  obtain ⟨h1, h2, h3, h4⟩ := errCnt_ne_bitCnt n
  exact get64_set64_other _ h1 h2 h3 h4

theorem SameRegs.bitNote {ks : List Nat} (h : SameRegs ks s t) {go : Bool} (h1 : (DS.BIT_CNT_LO n).key ∈ ks) (h2 : (DS.BIT_CNT_HI n).key ∈ ks) :
    SameRegs ks s (t.bitNote n go) := (h.set64 h1 h2).of_regs rfl

theorem bitNote_mem (s : State) (n : Nat) (go : Bool) : (s.bitNote n go).mem = s.mem := by
  rw [State.bitNote]
  exact set64_mem s (DS.BIT_CNT_LO n) (DS.BIT_CNT_HI n) (s.bitCount n)

theorem addErrors_get64 (s : State) (n k : Nat) :
    (s.addErrors n k).get64 (DS.ERR_CNT_LO n) (DS.ERR_CNT_HI n) = (s.get64 (DS.ERR_CNT_LO n) (DS.ERR_CNT_HI n) + k) % 2 ^ 48 := by
  rw [State.addErrors, get64_set64_same (errCnt_ne n) rfl rfl ((Nat.mod_lt _ (by decide)).trans (by decide))]

theorem addErrors_mem (s : State) (n k : Nat) : (s.addErrors n k).mem = s.mem := by
  rw [State.addErrors, set64_mem]

theorem prbsLoss_synced (hc : s.checking n = true) (hs : s.on (DS.PRBS_SYNC n) = true) (e : Nat) :
    s.prbsLoss n e = (((s.addErrors n e).bitNote n false).set (DS.PRBS_SYNC n) 0).raise (dsPage n) EV.DS.PRBS_LOSS := by
  rw [State.prbsLoss, hc, hs]
  rfl

theorem prbsSync_found (hc : s.checking n = true) (hs : s.on (DS.PRBS_SYNC n) = false) :
    s.prbsSync n = ((s.set (DS.PRBS_SYNC n) 1).setSync n (some s.ao)).raise (dsPage n) EV.DS.PRBS_SYNC := by
  rw [State.prbsSync, hc, hs]
  rfl

theorem prbsLoss_effect (s : State) (n e : Nat) :
    let t := (((s.addErrors n e).bitNote n false).set (DS.PRBS_SYNC n) 0).raise (dsPage n) EV.DS.PRBS_LOSS
    t.get (DS.PRBS_SYNC n) = 0 ∧
      t.get64 (DS.ERR_CNT_LO n) (DS.ERR_CNT_HI n) = (s.get64 (DS.ERR_CNT_LO n) (DS.ERR_CNT_HI n) + e) % 2 ^ 48 ∧
      bitOf (t.get (HDR.EVT (dsPage n))) EV.DS.PRBS_LOSS = true ∧ t.mem = s.mem ∧
      SameRegs ((chkLocs n).map Loc.key ++ evKeys (dsPage n)) s t := by
  intro t
  obtain ⟨hpair, hev⟩ := chkLocs_apart n
  simp only [chkLocs, List.pairwise_cons, List.forall_mem_cons] at hpair hev
  obtain ⟨⟨hsl, hsh, -⟩, -⟩ := hpair
  obtain ⟨⟨e1, e2⟩, ⟨e3, e4⟩, ⟨e5, e6⟩, -⟩ := hev
  refine ⟨?_, ?_, raise_sets _ _ (by decide), by rw [raise_mem, set_mem, bitNote_mem, addErrors_mem], ?_⟩
  · rw [raise_other e1 e2, get_set_same]
    rfl
  · rw [State.get64, raise_other e3 e4, raise_other e5 e6, ← State.get64, get64_set_other _ hsl.symm hsh.symm, bitNote_get64_err,
      addErrors_get64]
  · have h1 : SameRegs ((chkLocs n).map Loc.key ++ evKeys (dsPage n)) s (s.addErrors n e) :=
      (SameRegs.refl s).set64 (by simp [chkLocs]) (by simp [chkLocs])
    exact ((h1.bitNote (by simp [chkLocs]) (by simp [chkLocs])).set (by simp [chkLocs])).raise fun _ hk => List.mem_append_right _ hk

theorem cntClr_effect (s : State) (n : Nat) :
    (s.cntClr n).get64 (DS.ERR_CNT_LO n) (DS.ERR_CNT_HI n) = 0 ∧ (s.cntClr n).get64 (DS.BIT_CNT_LO n) (DS.BIT_CNT_HI n) = 0 ∧
      (s.cntClr n).mem = s.mem ∧
      SameRegs [(DS.ERR_CNT_LO n).key, (DS.ERR_CNT_HI n).key, (DS.BIT_CNT_LO n).key, (DS.BIT_CNT_HI n).key] s (s.cntClr n) := by
  obtain ⟨h1, h2, h3, h4⟩ := errCnt_ne_bitCnt n
  unfold State.cntClr
  dsimp only
  refine ⟨?_, get64_set64_same (bitCnt_ne n) rfl rfl (by decide), rfl, ?_⟩
  · rw [get64_set64_other _ h1 h2 h3 h4, get64_set64_same (errCnt_ne n) rfl rfl (by decide)]
  · exact (((SameRegs.refl s).bitNote (by simp) (by simp)).set64 (by simp) (by simp)).set64 (by simp) (by simp)

/-! ### The triggers of the lane pages -/

theorem lowTrigger_lane {l : Loc} (hp : 0x0B8 ≤ l.page ∧ l.page < 0x0C8) (data : Nat) :
    s.lowTrigger l data = if l = DS.BITSLIP (l.page - 0x0B8) then s.bitslip (l.page - 0x0B8)
      else if l = DS.CNT_CLR (l.page - 0x0B8) then s.cntClr (l.page - 0x0B8) else s := by
  have hne : ∀ m : Loc, m.page < 0x0B8 → l ≠ m := fun m hm e => by
    rw [← e] at hm
    omega
  unfold State.lowTrigger
  dsimp only
  iterate 10 rw [if_neg (hne _ (by decide))]
  rw [if_neg (by simp only [isRxPage, decide_eq_true_eq]; omega), if_neg (hne _ (by decide)), if_neg (by omega), if_neg (by omega),
    if_neg (by omega), if_neg (hne _ (by decide)), if_neg (hne _ (by decide)), if_pos (by omega)]

theorem lowTrigger_usLane {l : Loc} (hp : 0x0C8 ≤ l.page ∧ l.page < 0x0D8) (data : Nat) :
    s.lowTrigger l data = if l = US.INJ_SINGLE (l.page - 0x0C8) then s.inject (l.page - 0x0C8) 1
      else if l = US.INJ_BURST (l.page - 0x0C8) then s.inject (l.page - 0x0C8) (s.get (US.BURST_LEN (l.page - 0x0C8)) + 1) else s := by
  have hne : ∀ m : Loc, m.page < 0x0C8 → l ≠ m := fun m hm e => by
    rw [← e] at hm
    omega
  unfold State.lowTrigger
  dsimp only
  iterate 10 rw [if_neg (hne _ (by decide))]
  rw [if_neg (by simp only [isRxPage, decide_eq_true_eq]; omega), if_neg (hne _ (by decide)), if_neg (by omega), if_neg (by omega),
    if_neg (by omega), if_neg (hne _ (by decide)), if_neg (hne _ (by decide)), if_neg (by omega), if_pos (by omega)]

theorem trigAct_cntClr (hn : n < 16) (s : State) (c : Cls) (data at_ : Nat) : s.trigAct c (DS.CNT_CLR n) data at_ = s.cntClr n := by
  have hp : (DS.CNT_CLR n).page = 0x0B8 + n := rfl
  rw [trigAct_low (by simp [DS.CNT_CLR, HDR.EVT]) (by simp [DS.CNT_CLR]) (by simp [DS.CNT_CLR]) (by omega),
    lowTrigger_lane (by omega), hp, Nat.add_sub_cancel_left, if_neg (by simp [DS.CNT_CLR, DS.BITSLIP]), if_pos rfl]

theorem trigAct_injSingle (hn : n < 16) (s : State) (c : Cls) (data at_ : Nat) :
    s.trigAct c (US.INJ_SINGLE n) data at_ = s.inject n 1 := by
  have hp : (US.INJ_SINGLE n).page = 0x0C8 + n := rfl
  rw [trigAct_low (by simp [US.INJ_SINGLE, HDR.EVT]) (by simp [US.INJ_SINGLE]) (by simp [US.INJ_SINGLE]) (by omega),
    lowTrigger_usLane (by omega), hp, Nat.add_sub_cancel_left, if_pos rfl]

theorem trigAct_injBurst (hn : n < 16) (s : State) (c : Cls) (data at_ : Nat) :
    s.trigAct c (US.INJ_BURST n) data at_ = s.inject n (s.get (US.BURST_LEN n) + 1) := by
  have hp : (US.INJ_BURST n).page = 0x0C8 + n := rfl
  rw [trigAct_low (by simp [US.INJ_BURST, HDR.EVT]) (by simp [US.INJ_BURST]) (by simp [US.INJ_BURST]) (by omega),
    lowTrigger_usLane (by omega), hp, Nat.add_sub_cancel_left, if_neg (by simp [US.INJ_BURST, US.INJ_SINGLE]), if_pos rfl]

/-- A trigger of a lane page that acts as `g` lands as `g`, where `g` is on no waiting word. -/
theorem rowTrig_laneTrigger {c : Cls} {l : Loc} {g : State → State} (h : s.triggered c l = true) (hl : Loc.arbitrated l = false)
    (hp : 0x0B8 ≤ l.page) (hg : ∀ u : State, u.trigAct c l 0 s.ao = g u) (hw : ∀ u : State, (g u).words = u.words)
    (ha : ∀ u : State, (g u).acks = u.acks) : s.rowTrig c l = s.lands c l [] [g] := by
  have he : l ≠ TIMELINE0.ENQ_CODE := by
    rintro rfl
    exact absurd hp (by decide)
  rw [rowTrig_lands h hl he (by omega) (by rw [hg, hw]) (by rw [hg, ha]; rfl)]
  simp only [hg]

theorem inject_waiting (s : State) (n k : Nat) : (s.inject n k).words = s.words ∧ (s.inject n k).acks = s.acks := by
  unfold State.inject
  split <;> exact ⟨rfl, rfl⟩

theorem exec_cntClr_lands {c : Cls} (hn : n < 16) (h : s.triggered c (DS.CNT_CLR n) = true) :
    exec (.cntClr c n) s = .next (s.lands c (DS.CNT_CLR n) [] [fun u => u.cntClr n]) := by
  rw [exec_cntClr, execCntClr, rowTrig_laneTrigger h rfl (by simp [DS.CNT_CLR]) (fun u => trigAct_cntClr hn u ..) (fun _ => rfl) fun _ => rfl]

theorem exec_injSingle_lands {c : Cls} (hn : n < 16) (h : s.triggered c (US.INJ_SINGLE n) = true) :
    exec (.injSingle c n) s = .next (s.lands c (US.INJ_SINGLE n) [] [fun u => u.inject n 1]) := by
  rw [exec_injSingle, execInjSingle, rowTrig_laneTrigger h rfl (by simp [US.INJ_SINGLE]; omega) (fun u => trigAct_injSingle hn u ..)
    (fun u => (inject_waiting u ..).1) fun u => (inject_waiting u ..).2]

theorem exec_injBurst_lands {c : Cls} (hn : n < 16) (h : s.triggered c (US.INJ_BURST n) = true) :
    exec (.injBurst c n) s = .next (s.lands c (US.INJ_BURST n) [] [fun u => u.inject n (u.get (US.BURST_LEN n) + 1)]) := by
  rw [exec_injBurst, execInjBurst, rowTrig_laneTrigger h rfl (by simp [US.INJ_BURST]; omega) (fun u => trigAct_injBurst hn u ..)
    (fun u => (inject_waiting u ..).1) fun u => (inject_waiting u ..).2]

theorem inject_pending {k : Nat} (hm : s.mode ≠ 5) (hi : s.lanes.inj.getD n 0 = 0) : s.inject n k = s.setInj n k :=
  if_neg fun h => h.elim hm (· hi)

theorem inject_m5 {k : Nat} (hm : s.mode = 5) : s.inject n k = s := if_pos (.inl hm)

/-! ### The end of an injection -/

/-- INJ_DONE is no event of the fields that a checker reads. -/
theorem injRaised_get {l : Loc} (h : l.page < 0x0C8) (ho : l.off < 4096) (hl : l.lo < 32) (h' : l.key ≠ ERL1.EVT_LOST_CNT.key)
    (s : State) (k : Nat) : ((s.setInj n k).raise (usPage n) EV.US.INJ_DONE).get l = s.get l := by
  rw [raise_other (Loc.key_ne_of_page ho hl (show 12 < 4096 by decide) (show 0 < 32 by decide) (show l.page ≠ (HDR.EVT (usPage n)).page by simp only [HDR.EVT, usPage]; omega)) h']
  rfl

/-- The condition under which the lane's own checker counts the injected bits. -/
theorem injRaised_counts (hn : n < 16) (s : State) :
    let u := (s.setInj n 0).raise (usPage n) EV.US.INJ_DONE
    u.mode = s.mode ∧ u.on LINK.LOOP = s.on LINK.LOOP ∧ u.checking n = s.checking n ∧ u.on (DS.PRBS_SYNC n) = s.on (DS.PRBS_SYNC n) := by
  have hk : ∀ l ∈ [HDR.ACT (dsPage n), DS.CHK_EN n, DS.PRBS_SEL n, DS.PRBS_SYNC n], l.page < 0x0C8 ∧ l.key ≠ ERL1.EVT_LOST_CNT.key := by
    simp only [HDR.ACT, DS.CHK_EN, DS.PRBS_SEL, DS.PRBS_SYNC, dsPage, ERL1.EVT_LOST_CNT, Loc.key, List.forall_mem_cons, List.not_mem_nil,
      IsEmpty.forall_iff, implies_true, and_true]
    omega
  simp only [List.forall_mem_cons] at hk
  obtain ⟨⟨a1, a2⟩, ⟨b1, b2⟩, ⟨c1, c2⟩, ⟨d1, d2⟩, -⟩ := hk
  intro u
  have hmode : u.mode = s.mode := injRaised_get (by decide) (by decide) (by decide) (by decide) s 0
  have hloop : u.get LINK.LOOP = s.get LINK.LOOP := injRaised_get (by decide) (by decide) (by decide) (by decide) s 0
  have hact : u.get (HDR.ACT (dsPage n)) = s.get (HDR.ACT (dsPage n)) := injRaised_get a1 (by simp [HDR.ACT]) (by simp [HDR.ACT]) a2 s 0
  have hen : u.get (DS.CHK_EN n) = s.get (DS.CHK_EN n) := injRaised_get b1 (by simp [DS.CHK_EN]) (by simp [DS.CHK_EN]) b2 s 0
  have hsel : u.get (DS.PRBS_SEL n) = s.get (DS.PRBS_SEL n) := injRaised_get c1 (by simp [DS.PRBS_SEL]) (by simp [DS.PRBS_SEL]) c2 s 0
  have hsync : u.get (DS.PRBS_SYNC n) = s.get (DS.PRBS_SYNC n) := injRaised_get d1 (by simp [DS.PRBS_SYNC]) (by simp [DS.PRBS_SYNC]) d2 s 0
  exact ⟨hmode, by rw [State.on, State.on, hloop], by simp only [State.checking, State.act, State.on, hact, hen, hsel],
    by rw [State.on, State.on, hsync]⟩

theorem injDone_raised (hi : s.lanes.inj.getD n 0 ≠ 0) (ha : s.act (usPage n) = true) :
    s.injDone n =
      let u := (s.setInj n 0).raise (usPage n) EV.US.INJ_DONE
      if u.mode = 7 ∧ u.on LINK.LOOP ∧ u.checking n ∧ u.on (DS.PRBS_SYNC n) then u.addErrors n (s.lanes.inj.getD n 0) else u := by
  rw [State.injDone]
  dsimp only
  rw [if_neg fun h => h.elim hi (by simp [ha])]

/-- Settles O22: each clause is the branch of its event, with the frame of the fields that the event writes. -/
theorem laneTests : Obligations.LaneTests := by
  unfold Obligations.LaneTests
  refine ⟨?sync, ?loss, ?clear, ?single, ?singleM5, ?burst, ?burstM5, ?done, ?counted⟩
  case sync =>
    intro s n _ hc hs
    rw [exec_prbsSync, execPrbsSync, prbsSync_found hc hs]
  case loss =>
    intro s n e _ hc hs
    exact ⟨_, by rw [exec_prbsLoss, execPrbsLoss, prbsLoss_synced hc hs], prbsLoss_effect s n e⟩
  case clear =>
    intro s c n hn h u
    obtain ⟨he, hb, hm, hr⟩ := cntClr_effect u n
    refine ⟨_, exec_cntClr_lands hn h, ?_⟩
    rw [lands_trigger_one (g := fun u => u.cntClr n) rfl]
    exact ⟨he, hb, rfl, hm, hr.of_regs rfl⟩
  case single =>
    intro s c n hn h hm hi
    rw [exec_injSingle_lands hn h]
    exact congrArg Host.Outcome.next (lands_trigger_congr (inject_pending hm hi))
  case singleM5 =>
    intro s c n hn h hm
    rw [exec_injSingle_lands hn h]
    exact congrArg Host.Outcome.next (lands_trigger_congr (inject_m5 hm))
  case burst =>
    intro s c n hn h hm hi
    rw [exec_injBurst_lands hn h]
    exact congrArg Host.Outcome.next (lands_trigger_congr (inject_pending hm hi))
  case burstM5 =>
    intro s c n hn h hm
    rw [exec_injBurst_lands hn h]
    exact congrArg Host.Outcome.next (lands_trigger_congr (inject_m5 hm))
  case done =>
    intro s n hn hi ha hm
    obtain ⟨hmode, -⟩ := injRaised_counts hn s
    rw [exec_injDone, execInjDone, injDone_raised hi ha]
    dsimp only
    rw [if_neg fun h => hm (hmode ▸ h.1)]
  case counted =>
    intro s n hn hi ha hm hl hc hs
    obtain ⟨hmode, hloop, hchk, hsync⟩ := injRaised_counts hn s
    rw [exec_injDone, execInjDone, injDone_raised hi ha]
    dsimp only
    rw [if_pos ⟨hmode.trans hm, hloop.trans hl, hchk.trans hc, hsync.trans hs⟩]

end Sys2Proof.Machine
end

section
/-! PROOFS. Markers, alignment, link down and link up (O23). A marker block says its own lane and frame; an outage sets a few fields
before its event, and what follows the event keeps them. -/

namespace Sys2Proof.Machine

variable {s t : State} {n : Nat}

/-! ### Marker blocks -/

theorem crc8Bit_lt (c : Nat) (b : Bool) : crc8Bit c b < 256 := by
  unfold crc8Bit
  dsimp only
  split
  · exact Nat.xor_lt_two_pow (n := 8) (Nat.mod_lt _ (by decide)) (by decide)
  · exact Nat.mod_lt _ (by decide)

theorem foldl_crc8Bit_lt {c : Nat} (h : c < 256) (l : List Bool) : l.foldl crc8Bit c < 256 :=
  List.foldlRecOn (motive := fun c => c < 256) l _ h fun c _ b _ => crc8Bit_lt c b

theorem crc8_lt (n v : Nat) : crc8 n v < 256 := foldl_crc8Bit_lt (by decide) _

/-- The bits of a block below its CRC8. -/
def markerBody (lane frame : Nat) : Nat := frame % 2 ^ 20 * 2 ^ 16 + lane % 16 * 2 ^ 8 + 0xA5

theorem markerBlock_eq (lane frame : Nat) :
    markerBlock lane frame 0 false = crc8 56 (markerBody lane frame) * 2 ^ 56 + markerBody lane frame := by
  simp only [markerBlock, markerBody, Nat.zero_mod, Nat.zero_mul, Nat.zero_add, Bool.false_eq_true, if_false, Nat.add_zero]

theorem markerBody_lt (lane frame : Nat) : markerBody lane frame < 2 ^ 36 := by
  unfold markerBody
  omega

/-- A marker that was sent at a frame tick without RESUME says so, and its CRC8 holds. -/
theorem markerBlock_fields {lane frame : Nat} (hl : lane < 16) (hf : frame < 2 ^ 20) :
    let b := markerBlock lane frame 0 false
    bits b 0 8 = 0xA5 ∧ crc8 56 (b % 2 ^ 56) = bits b 56 8 ∧ bits b 8 4 = lane ∧ bits b 16 20 = frame ∧ bitOf b 12 = false := by
  have hlt := markerBody_lt lane frame
  have hc := crc8_lt 56 (markerBody lane frame)
  have hm : markerBody lane frame = frame * 2 ^ 16 + lane * 2 ^ 8 + 0xA5 := by
    rw [markerBody, Nat.mod_eq_of_lt hl, Nat.mod_eq_of_lt hf]
  intro b
  have hb : b = crc8 56 (markerBody lane frame) * 2 ^ 56 + markerBody lane frame := markerBlock_eq ..
  have hlow : b % 2 ^ 56 = markerBody lane frame := by omega
  rw [hlow, hb]
  generalize crc8 56 (markerBody lane frame) = c at hc
  rw [hm]
  simp only [bits, bitOf, beq_eq_false_iff_ne, pow_one]
  omega

theorem nearFrame_own (m : Nat) : nearFrame m m = m := by
  simp [nearFrame]

/-- A good marker of a lane other than the first, in its window. -/
theorem markerReceive_good {l f k : Nat} (hl : l < 16) (h0 : l ≠ 0) (ha : s.act 0x0B1 = true) (hd : s.act (dsPage l) = true)
    (ht : s.tb < 2 ^ 31) (hw : s.tb % 2048 < 512) (hk : k ≤ 8) :
    s.markerReceive l (markerBlock l (s.tb / 2048) 0 false) f k =
      (s.set (DS.WORD_SKEW l) k).setErl (fun e => { e with skip := false, good := setBit e.good l }) := by
  obtain ⟨h1, h2, h3, h4, h5⟩ := markerBlock_fields (lane := l) (frame := s.tb / 2048) hl (by omega)
  generalize markerBlock l (s.tb / 2048) 0 false = b at h1 h2 h3 h4 h5
  unfold State.markerReceive
  rw [if_neg (by simp [ha, hd]), if_neg (by simp [h1]), if_neg fun h => h.elim (· h2) (· h3)]
  have htb : (s.setErl (fun e => { e with skip := false })).tb = s.tb := rfl
  simp only [h4, h5, htb, nearFrame_own, Bool.false_eq_true, if_false, if_neg h0, Nat.min_eq_right hk,
    add_zero]
  rw [if_pos ⟨by omega, by omega, .inr trivial, hk⟩]
  rfl

theorem markerReceive_malformed {l b f k : Nat} (ha : s.act 0x0B1 = true) (hd : s.act (dsPage l) = true) (h1 : bits b 0 8 ≠ 0xA5)
    (h2 : bits b 0 8 ≠ 0x3C) : s.markerReceive l b f k = (s.count ERL0.MALF_CNT).raise 0x0B1 EV.ERL0.MALFORMED := by
  rw [State.markerReceive, if_neg (by simp [ha, hd]), if_pos h1, if_neg h2]

/-! ### The arrival window -/

theorem foldl_put_zero (l : List Nat) (n : Nat) : (l.foldl (fun f i => Store.put f i 0) []).look n = 0 :=
  List.foldlRecOn (motive := fun f : Store => f.look n = 0) l _ rfl fun f hf i _ => by
    rw [Store.look_put, hf, ite_self]

/-- Every lane in use had a good marker, no test runs, and 63 frames before were good. -/
theorem windowJudge_aligns (ha : s.act 0x0B1 = true) (hw : s.awake true = true) (ht : s.tb % 2048 = 512) (h1 : s.laneTest true = false)
    (h2 : s.laneTest false = false) (hg : (List.range s.lanesDs).all (fun n => bitOf s.erl.good n) = true) (hr : 63 ≤ s.erl.run)
    (hf : s.erl.fails = []) :
    ∃ fs, s.windowJudge = (s.setErl (fun e => { e with good := 0, fails := fs, run := s.erl.run + 1 })).set ERL0.FRAME_ALIGNED 1 := by
  let fs := (List.range s.lanesDs).foldl (fun f n => f.put n (if bitOf s.erl.good n && true && true then 0 else f.look n + 1)) s.erl.fails
  refine ⟨fs, ?_⟩
  have hlook : ∀ n, fs.look n = 0 := fun n => by
    have hfs : fs = (List.range s.lanesDs).foldl (fun f i => Store.put f i 0) [] := by
      simp only [fs, hf, Bool.and_true]
      exact List.foldl_ext _ _ _ fun f i hi => by rw [if_pos (List.all_eq_true.1 hg i hi)]
    rw [hfs, foldl_put_zero]
  have hany : (List.range s.lanesDs).any (fun n => decide (4 ≤ fs.look n)) = false := by simp [hlook]
  unfold State.windowJudge
  rw [if_pos (by simp [ha, hw, ht])]
  simp only [h1, h2, Bool.not_false, Bool.and_true, hg, if_true]
  simp only [fs, Bool.and_true] at hany ⊢
  rw [if_neg (by simp [hany]), if_pos (by show 64 ≤ s.erl.run + 1; omega)]
  rfl

/-! ### Link down -/

theorem raise_erl (s : State) (pg b : Nat) : (s.raise pg b).erl = s.erl := (congrArg State.erl (raise_eventless s pg b) :)

theorem raise_tim (s : State) (pg b : Nat) : (s.raise pg b).tim = s.tim := (congrArg State.tim (raise_eventless s pg b) :)

/-- The fields that follow the sources. -/
def sourceKeys : List Nat := [TIMEBASE.SRC_ACT.key, TIMEBASE.NET_OFFSET.key, TIMEBASE.FREQ_ERR.key] ++ evKeys 0x008

/-- Choosing the source sets its fields, and ends a calibration run of Anise. -/
theorem selectSource_kept (s : State) :
    SameRegs sourceKeys s s.selectSource ∧ s.selectSource.erl = s.erl ∧ s.selectSource.tim = s.tim ∧ s.selectSource.mem = s.mem := by
  unfold State.selectSource
  extract_lets k old
  split
  next v f _ =>
    extract_lets s1 s2
    have hr : SameRegs sourceKeys s s1 := (((SameRegs.refl s).set (by decide)).set (by decide)).set (by decide)
    have h2 : SameRegs sourceKeys s s2 ∧ s2.erl = s.erl ∧ s2.tim = s.tim ∧ s2.mem = s.mem := by
      show SameRegs sourceKeys s (if _ then _ else _) ∧ State.erl (if _ then _ else _) = _ ∧ State.tim (if _ then _ else _) = _ ∧
        State.mem (if _ then _ else _) = _
      split
      · exact ⟨hr, rfl, rfl, rfl⟩
      · exact ⟨hr.of_regs rfl, rfl, rfl, rfl⟩
    split
    · exact h2
    · obtain ⟨h, he, ht, hm⟩ := h2
      exact ⟨h.raise (by simp +contextual [sourceKeys]), by rw [raise_erl, he], by rw [raise_tim, ht], by rw [raise_mem, hm]⟩

/-- A cause that stands is one of R298. -/
theorem downCause_le {c : Nat} (h : s.downCause c = true) : c ≤ 6 := by
  by_contra hc
  rw [State.downCause, if_neg (by omega), if_neg (by omega), if_neg (by omega), if_neg (by omega), if_neg (by omega), if_neg (by omega)] at h
  exact absurd h (by decide)

/-- The state of the link that has gone down, with its event not yet logged. -/
def State.broken (s : State) (c : Nat) : State :=
  ((((s.set ERL0.LINK_UP 0).set ERL0.FRAME_ALIGNED 0).setErl (fun e => { e with run := 0, fails := [] })).set ERL0.DOWN_CAUSE c).count
    ERL0.LINK_DOWN_CNT

/-- The outage is noted, and a measurement of time over the link is lost. -/
def State.outNoted (s : State) : State :=
  let u := s.setErl (fun e => { e with held := [], downAt := s.ao, downTb := s.tb })
  { u with tim := { u.tim with meas := none } }

theorem linkDown_up (h : s.on ERL0.LINK_UP = true) (c : Nat) :
    s.linkDown c = (((s.broken c).raiseLog 2 0x0B1 EV.ERL0.LINK_DOWN).outNoted).selectSource := by
  rw [State.linkDown]
  dsimp only
  rw [h]
  rfl

theorem broken_get (s : State) {c : Nat} (hc : c ≤ 6) :
    (s.broken c).get ERL0.LINK_UP = 0 ∧ (s.broken c).get ERL0.FRAME_ALIGNED = 0 ∧ (s.broken c).get ERL0.DOWN_CAUSE = c := by
  have hs : ∀ {l : Loc}, l.key ≠ ERL0.LINK_DOWN_CNT.key → (s.broken c).get l =
      ((((s.set ERL0.LINK_UP 0).set ERL0.FRAME_ALIGNED 0).setErl (fun e => { e with run := 0, fails := [] })).set ERL0.DOWN_CAUSE c).get l :=
    fun h => count_other _ _ h
  have he : ∀ (u : State) (f : ErlSt → ErlSt) (l : Loc), (u.setErl f).get l = u.get l := fun _ _ _ => rfl
  refine ⟨?_, ?_, ?_⟩
  · rw [hs (by decide), get_set_other _ _ (by decide), he, get_set_other _ _ (by decide), get_set_same]
    rfl
  · rw [hs (by decide), get_set_other _ _ (by decide), he, get_set_same]
    rfl
  · rw [hs (by decide), get_set_same]
    exact trunc_of_lt (show c < 2 ^ 8 by omega)

theorem outNoted_get (s : State) (l : Loc) : s.outNoted.get l = s.get l := rfl

/-- What an outage leaves. -/
theorem linkDown_outage (h : s.on ERL0.LINK_UP = true) {c : Nat} (hc : c ≤ 6) :
    let t := s.linkDown c
    t.get ERL0.LINK_UP = 0 ∧ t.get ERL0.FRAME_ALIGNED = 0 ∧ t.get ERL0.DOWN_CAUSE = c ∧ t.erl.held = [] ∧ t.erl.downAt = s.ao ∧
      t.tim.meas = none ∧ bitOf (t.get (HDR.EVT 0x0B1)) EV.ERL0.LINK_DOWN = true ∧ t.mem = s.mem := by
  intro t
  have ht : t = (((s.broken c).raiseLog 2 0x0B1 EV.ERL0.LINK_DOWN).outNoted).selectSource := linkDown_up h c
  obtain ⟨hup, hal, hcause⟩ := broken_get s hc
  have hlog : SameRegs (evKeys 0x0B1 ++ logKeys) (s.broken c) ((s.broken c).raiseLog 2 0x0B1 EV.ERL0.LINK_DOWN) :=
    (SameRegs.refl _).raiseLog (by simp +contextual) (by simp +contextual)
  have hrec : ((s.broken c).raiseLog 2 0x0B1 EV.ERL0.LINK_DOWN).recordless = (s.broken c).recordless := by
    rw [State.raiseLog, State.logEvent, logHw_recordless, recordless_raise]
  have hev : bitOf (((s.broken c).raiseLog 2 0x0B1 EV.ERL0.LINK_DOWN).get (HDR.EVT 0x0B1)) EV.ERL0.LINK_DOWN = true := by
    have hk : SameRegs logKeys ((s.broken c).raise 0x0B1 EV.ERL0.LINK_DOWN) ((s.broken c).raiseLog 2 0x0B1 EV.ERL0.LINK_DOWN) :=
      SameRegs.logAs (.refl _) fun _ hk => hk
    rw [hk _ (by decide)]
    exact raise_sets _ _ (by decide)
  have hao : ((s.broken c).raiseLog 2 0x0B1 EV.ERL0.LINK_DOWN).ao = s.ao := (congrArg State.ao hrec :)
  have hmem : ((s.broken c).raiseLog 2 0x0B1 EV.ERL0.LINK_DOWN).mem = s.mem := (congrArg State.mem hrec :)
  generalize (s.broken c).raiseLog 2 0x0B1 EV.ERL0.LINK_DOWN = v at ht hlog hev hao hmem
  obtain ⟨hr, he, htim, hm⟩ := selectSource_kept v.outNoted
  rw [← ht] at hr he htim hm
  have hget : ∀ l : Loc, l.key ∉ sourceKeys → l.key ∉ evKeys 0x0B1 ++ logKeys → t.get l = (s.broken c).get l := fun l h1 h2 => by
    rw [hr l h1, outNoted_get, hlog l h2]
  refine ⟨(hget _ (by decide) (by decide)).trans hup, (hget _ (by decide) (by decide)).trans hal,
    (hget _ (by decide) (by decide)).trans hcause, by rw [he]; rfl, by rw [he]; exact hao, by rw [htim]; rfl, ?_, hm.trans hmem⟩
  rw [hr _ (by decide), outNoted_get]
  exact hev

/-- Settles O23: a marker says its lane and frame, and each event is one branch of the link's. -/
theorem linkMarkers : Obligations.LinkMarkers := by
  unfold Obligations.LinkMarkers
  refine ⟨?send, ?malformed, ?good, ?aligns, ?down, ?up, ?upAgain⟩
  case send =>
    intro s o r ha hw h
    have hcond : (s.act 0x0B1 && s.awake false && (r || (s.tb % 2048 == 0 && decide (o * s.uiPerTick ≤ 66 * 256)))) = true := by
      rcases h with h | ⟨h1, h2⟩
      · simp [ha, hw, h]
      · simp [ha, hw, h1, h2]
    rw [exec_markerSend, execMarkerSend, State.markerSend, if_pos hcond]
    rfl
  case malformed =>
    intro s l b f k hl ha hd h1 h2
    rw [exec_markerReceive, execMarkerReceive, Nat.mod_eq_of_lt hl, markerReceive_malformed ha hd h1 h2]
  case good =>
    intro s l f k hl h0 ha hd ht hw hk
    rw [exec_markerReceive, execMarkerReceive, Nat.mod_eq_of_lt hl, markerReceive_good hl h0 ha hd ht hw hk]
  case aligns =>
    intro s ha hw ht h1 h2 hg hr hf
    obtain ⟨fs, h⟩ := windowJudge_aligns ha hw ht h1 h2 hg hr hf
    rw [exec_markerWindowEnd, execMarkerWindowEnd, h]
    have hsame : SameRegs [ERL0.FRAME_ALIGNED.key] s (s.setErl (fun e => { e with good := 0, fails := fs, run := s.erl.run + 1 })) :=
      (SameRegs.refl s).of_regs rfl
    exact ⟨_, rfl, get_set_same .., rfl, rfl, rfl, hsame.set (List.mem_singleton_self _)⟩
  case down =>
    intro s c hc hup _
    rw [exec_linkDown, execLinkDown, if_pos hc]
    exact ⟨_, rfl, linkDown_outage hup (downCause_le hc)⟩
  case up =>
    intro s ha hr hup hd
    rw [exec_linkUp, execLinkUp, State.linkUp, if_pos (by simp [ha, hr, hup])]
    dsimp only
    rw [if_pos hd]
  case upAgain =>
    intro s ha hr hup hd
    rw [exec_linkUp, execLinkUp, State.linkUp, if_pos (by simp [ha, hr, hup])]
    dsimp only
    rw [if_neg hd]

end Sys2Proof.Machine
end

section
/-! PROOFS. Sample packets, playout, uplink windows and what goes upstream (O24). Clearing what was sent changes nothing that a
command of the link reads; each clause is then one branch. -/

namespace Sys2Proof.Machine

variable {s : State} {ws : List Nat} {b : Bool} {p : Packet} {k : Nat}

/-! ### Packets downstream -/

theorem receive_malformed (ha : s.act 0x0B1 = true) (hs : s.erl.skip = false) (hb : badPacket ws b = true) :
    s.receive ws b = (none, ((s.count ERL0.MALF_CNT).raise 0x0B1 EV.ERL0.MALFORMED).setErl (fun e => { e with skip := true })) := by
  unfold State.receive
  dsimp only
  rw [if_neg (by simp [ha]), if_neg (by simp [hs]), if_pos hb]

theorem receive_skipped (ha : s.act 0x0B1 = true) (hs : s.erl.skip = true) : s.receive ws b = (none, s) := by
  unfold State.receive
  dsimp only
  rw [if_neg (by simp [ha]), if_pos hs]

theorem receive_badCrc (ha : s.act 0x0B1 = true) (hs : s.erl.skip = false) (hb : badPacket ws b = false)
    (hc : crc32 ws.dropLast ≠ ws.getLastD 0) : s.receive ws b = (none, s.count ERL0.CRC_ERR_CNT) := by
  unfold State.receive
  dsimp only
  rw [if_neg (by simp [ha]), if_neg (by simp [hs]), if_neg (by simp [hb]), if_pos hc]

theorem iqdPacket_of_none {t : State} (h : s.receive ws b = (none, t)) : s.iqdPacket ws b = t := by
  simp only [State.iqdPacket, State.receiveAs, h]

theorem iqdPacket_of_some (h : (s.receiveAs 1 none ws b).1 = some p) : s.iqdPacket ws b = (s.receiveAs 1 none ws b).2.iqd p := by
  obtain ⟨u, hu⟩ : ∃ u, s.receiveAs 1 none ws b = (some p, u) := ⟨_, Prod.ext h rfl⟩
  simp only [State.iqdPacket, hu]

/-- A sample packet of the format, length and stream that are expected. -/
structure State.Fits (s : State) (p : Packet) : Prop where
  fmt : bits p.sub 6 2 = s.fmtAt (join64 (p.body.getD 0 0) (p.body.getD 1 0))
  len : p.body.length + 4 = 2 * sampleLen (bits p.sub 6 2)
  stream : s.streamOk 0 (bits p.sub 0 6) = true

theorem State.Fits.good (h : s.Fits p) :
    ¬(bits p.sub 6 2 ≠ s.fmtAt (join64 (p.body.getD 0 0) (p.body.getD 1 0)) ∨ p.body.length + 4 ≠ 2 * sampleLen (bits p.sub 6 2) ∨
      s.streamOk 0 (bits p.sub 0 6) = false) := by
  rintro (hf | hl | hs)
  · exact hf h.fmt
  · exact hl h.len
  · exact absurd (h.stream.symm.trans hs) (by decide)

theorem iqd_late (h : s.Fits p) (ht : join64 (p.body.getD 0 0) (p.body.getD 1 0) < s.tb + 128) : s.iqd p = s.count ERL1.DL_LATE_CNT := by
  unfold State.iqd
  dsimp only
  rw [if_neg h.good, if_pos ht]

theorem iqd_early (h : s.Fits p) (ht : s.tb + 16640 < join64 (p.body.getD 0 0) (p.body.getD 1 0)) :
    s.iqd p = s.count ERL1.DL_EARLY_CNT := by
  unfold State.iqd
  dsimp only
  rw [if_neg h.good, if_neg (by omega), if_pos ht]

theorem iqd_held (h : s.Fits p) (h1 : s.tb + 128 ≤ join64 (p.body.getD 0 0) (p.body.getD 1 0))
    (h2 : join64 (p.body.getD 0 0) (p.body.getD 1 0) ≤ s.tb + 16640)
    (hn : s.erl.held.any (fun x => x.stream == bits p.sub 0 6 && x.stamp == join64 (p.body.getD 0 0) (p.body.getD 1 0)) = false) :
    s.iqd p = s.setErl (fun e => { e with
      held := s.erl.held.filter (fun x => !(x.stream == bits p.sub 0 6 && x.stamp == join64 (p.body.getD 0 0) (p.body.getD 1 0)) &&
        decide (s.tb < x.stamp + 128 * rateL s.dlRate)) ++
        [⟨bits p.sub 6 2, bits p.sub 0 6, join64 (p.body.getD 0 0) (p.body.getD 1 0), bits p.w1 0 16, p.body.drop 2⟩] }) := by
  unfold State.iqd
  dsimp only
  rw [if_neg h.good, if_neg (by omega), if_neg (by omega), hn]
  rfl

/-! ### Playout -/

theorem playoutMiss_first (ha : s.act (beamPage 0) = true) (hs : s.streamOk 0 k = true) (ht : s.tb % (128 * rateL s.dlRate) = 0)
    (hh : s.erl.held.any (fun x => x.stream == k && x.stamp == s.tb) = false) (hm : s.erl.missAt = none) :
    s.playoutMiss k =
      ((s.count ERL1.DL_MISS_CNT).setErl (fun e => { e with missAt := some s.ao })).raise 0x0B1 EV.ERL0.DL_MISS := by
  have hm' : (s.count ERL1.DL_MISS_CNT).erl.missAt = none := hm
  unfold State.playoutMiss
  dsimp only
  rw [if_pos (by rw [ha, hs, ht, hh]; rfl), hm']
  rfl

/-! ### Uplink windows -/

/-- The window that is looked at: where the link is open and its instant has come. -/
theorem iquWindow_eq {w r f : Nat} {e : Option Nat} (h : s.ulSetting (s.tb - 16 * s.get ERL0.LAT_UL) = (w, r, f, e)) :
    s.iquWindow = if s.linkOpen && s.act (beamPage 1) && decide (16 * s.get ERL0.LAT_UL ≤ s.tb) && w % (128 * rateL r) == 0 then
      let ys := ((List.range 64).filter (s.streamOk 1)).map (fun k => (k, s.ulWindow w (rateL r) k e))
      let u : State := { s.sendClear with lanes := { s.lanes with lost := false } }
      if ys.all (fun x => x.2.all (fun y => y.invalid)) then u
      else ys.foldl (fun s x => s.send 2 (f * 64 + x.1) (groupMap (fun y => y.ovl) x.2 * 2 ^ 16 + groupMap (fun y => y.invalid) x.2)
        ([w % 2 ^ 32, w / 2 ^ 32] ++ iquPayload f x.2)) u
      else s.sendClear := by
  have h' : s.sendClear.ulSetting (s.sendClear.tb - 16 * s.sendClear.get ERL0.LAT_UL) = (w, r, f, e) := h
  unfold State.iquWindow
  simp only [h']
  rfl

theorem iquWindow_closed (h : s.linkOpen = false ∨ s.act (beamPage 1) = false) : s.iquWindow = s.sendClear := by
  rw [iquWindow_eq (w := (s.ulSetting (s.tb - 16 * s.get ERL0.LAT_UL)).1) rfl, if_neg (by rcases h with h | h <;> simp [h])]

/-- The one stream of a window that is due. -/
theorem iquWindow_one {w r f : Nat} {e : Option Nat} (ho : s.linkOpen = true) (ha : s.act (beamPage 1) = true)
    (ht : 16 * s.get ERL0.LAT_UL ≤ s.tb) (h : s.ulSetting (s.tb - 16 * s.get ERL0.LAT_UL) = (w, r, f, e)) (hw : w % (128 * rateL r) = 0)
    (hk : (List.range 64).filter (s.streamOk 1) = [k]) :
    s.iquWindow =
      let u : State := { s.sendClear with lanes := { s.lanes with lost := false } }
      if (s.ulWindow w (rateL r) k e).all (fun y => y.invalid) then u
      else u.send 2 (f * 64 + k) (groupMap (fun y => y.ovl) (s.ulWindow w (rateL r) k e) * 2 ^ 16 +
        groupMap (fun y => y.invalid) (s.ulWindow w (rateL r) k e)) ([w % 2 ^ 32, w / 2 ^ 32] ++ iquPayload f (s.ulWindow w (rateL r) k e)) := by
  rw [iquWindow_eq h, if_pos (by simp [ho, ha, ht, hw]), hk]
  simp only [List.map_cons, List.map_nil, List.all_cons, List.all_nil, Bool.and_true, List.foldl_cons, List.foldl_nil]

/-! ### Events and the words of a capture port -/

theorem evtSend_open {q : EvtPkt} {r : List EvtPkt} (h : s.evtQ = q :: r) (ho : s.linkOpen = true) :
    s.evtSend = match q with
      | .events pg b tick => ({ s.sendClear with evtQ := r } : State).send 7 1 pg [b, tick % 2 ^ 32, tick / 2 ^ 32, 0]
      | .status c d st => ({ s.sendClear with evtQ := r } : State).send 7 2 c [d, st % 2 ^ 32, st / 2 ^ 32, 0] := by
  have h' : s.sendClear.evtQ = q :: r := h
  have ho' : s.sendClear.linkOpen = true := ho
  unfold State.evtSend
  dsimp only
  rw [h']
  dsimp only
  rw [if_pos ho']
  cases q <;> rfl

theorem evtSend_none (h : s.evtQ = [] ∨ s.linkOpen = false) : s.evtSend = s.sendClear := by
  unfold State.evtSend
  dsimp only
  split
  · rfl
  next e t he =>
    have ho : s.sendClear.linkOpen = false := h.resolve_left fun h0 => by
      have he' : s.evtQ = e :: t := he
      exact absurd (h0.symm.trans he') (by simp)
    rw [if_neg (by simp [ho])]

theorem captureExport_denied (ha : s.act (capPage k) = true) (he : s.on (CP.EXP_BB k) = true) (hp : s.expBbPermitted = false)
    (hd : (s.cap k).expDenied = false) :
    s.captureExport k = (s.sendClear.setCap k (fun c => { c with expDenied := true })).raise (capPage k) EV.CP.EXPORT_DENIED := by
  have ha' : s.sendClear.act (capPage k) = true := ha
  have he' : s.sendClear.on (CP.EXP_BB k) = true := he
  have hp' : s.sendClear.expBbPermitted = false := hp
  have hd' : (s.sendClear.cap k).expDenied = false := hd
  unfold State.captureExport
  dsimp only
  rw [if_neg (by simp [ha', he']), if_pos hp', if_neg (by simp [hd'])]

theorem captureExport_sent (ha : s.act (capPage k) = true) (he : s.on (CP.EXP_BB k) = true) (hp : s.expBbPermitted = true)
    (ho : s.linkOpen = true) (hd : (s.cap k).expStop = false) (hn : 4 ≤ s.capReady k - (s.cap k).expPos)
    (hx : ((s.sendClear.exportWords k (s.cap k).expPos (min 256 ((s.capReady k - (s.cap k).expPos) / 4))).2.cap k).expStop = false) :
    s.captureExport k =
      let n := min 256 ((s.capReady k - (s.cap k).expPos) / 4)
      let r := s.sendClear.exportWords k (s.cap k).expPos n
      (r.2.setCap k (fun c => { c with expPos := c.expPos + 4 * n })).send 6 k (s.cap k).expPos r.1 := by
  have ha' : s.sendClear.act (capPage k) = true := ha
  have he' : s.sendClear.on (CP.EXP_BB k) = true := he
  have hp' : s.sendClear.expBbPermitted = true := hp
  have ho' : s.sendClear.linkOpen = true := ho
  have hc : s.sendClear.cap k = s.cap k := rfl
  have hr : s.sendClear.capReady k = s.capReady k := rfl
  have hpos : min 256 ((s.capReady k - (s.cap k).expPos) / 4) ≠ 0 := by omega
  unfold State.captureExport
  dsimp only
  rw [hc, hr, if_neg (by simp [ha', he']), if_neg (by simp [hp']), if_neg (by simp only [ho', hd, hpos]; simp), if_neg (by simp [hx])]

/-- Settles O24: each clause is the branch of its command. -/
theorem linkStreams : Obligations.LinkStreams := by
  unfold Obligations.LinkStreams
  refine ⟨?malformed, ?skipped, ?badCrc, ?held, ?late, ?early, ?miss, ?closed, ?notDue, ?invalid, ?window, ?events, ?status, ?noEvent, ?denied,
    ?sent⟩
  case malformed =>
    intro s ws b ha hs hb
    rw [exec_iqdPacket, execIqdPacket, iqdPacket_of_none (receive_malformed ha hs hb)]
  case skipped =>
    intro s ws b ha hs
    rw [exec_iqdPacket, execIqdPacket, iqdPacket_of_none (receive_skipped ha hs)]
  case badCrc =>
    intro s ws ha hs hb hc
    rw [exec_iqdPacket, execIqdPacket, iqdPacket_of_none (receive_badCrc ha hs hb hc)]
  case held =>
    intro s ws b p h hf hl hs h1 h2 hn u
    rw [exec_iqdPacket, execIqdPacket, iqdPacket_of_some h, iqd_held ⟨hf, hl, hs⟩ h1 h2 hn]
  case late =>
    intro s ws b p h hf hl hs ht
    rw [exec_iqdPacket, execIqdPacket, iqdPacket_of_some h, iqd_late ⟨hf, hl, hs⟩ ht]
  case early =>
    intro s ws b p h hf hl hs ht
    rw [exec_iqdPacket, execIqdPacket, iqdPacket_of_some h, iqd_early ⟨hf, hl, hs⟩ ht]
  case miss =>
    intro s k ha hs ht hh hm
    rw [exec_playoutMiss, execPlayoutMiss, playoutMiss_first ha hs ht hh hm]
  case closed =>
    intro s h
    rw [exec_iquWindowSend, execIquWindowSend, iquWindow_closed h]
  case notDue =>
    intro s w r f e _ _ _ h hw
    rw [exec_iquWindowSend, execIquWindowSend, iquWindow_eq h, if_neg (by simp [hw])]
  case invalid =>
    intro s w r f e k ho ha ht h hw hk hi
    rw [exec_iquWindowSend, execIquWindowSend, iquWindow_one ho ha ht h hw hk]
    dsimp only
    rw [if_pos hi]
  case window =>
    intro s w r f e k ho ha ht h hw hk hi u
    rw [exec_iquWindowSend, execIquWindowSend, iquWindow_one ho ha ht h hw hk]
    dsimp only
    rw [if_neg (by simp [hi])]
  case events =>
    intro s pg b k r h ho
    rw [exec_evtPacketSend, execEvtPacketSend, evtSend_open h ho]
  case status =>
    intro s c d k r h ho
    rw [exec_evtPacketSend, execEvtPacketSend, evtSend_open h ho]
  case noEvent =>
    intro s h
    rw [exec_evtPacketSend, execEvtPacketSend, evtSend_none h]
  case denied =>
    intro s k _ ha he hp hd
    rw [exec_captureExport, execCaptureExport, captureExport_denied ha he hp hd]
  case sent =>
    intro s k _ _ ha he hp ho hd hn hx r
    rw [exec_captureExport, execCaptureExport, captureExport_sent ha he hp ho hd hn hx]

end Sys2Proof.Machine
end

section
/-! PROOFS. Slack windows, the regulator, retirement and the days of life (O44). -/

namespace Sys2Proof.Machine

variable {s t : State} {ks : List Nat}

/-! ### Other bits -/

theorem bitOf_add_two_pow_other {v i j : Nat} (hi : bitOf v i = false) (h : i ≠ j) : bitOf (v + 2 ^ i) j = bitOf v j := by
  rcases Nat.lt_or_gt_of_ne h with hij | hij
  · exact bitOf_add_two_pow_above hi hij
  · simp only [bitOf, bits, ← Nat.testBit_eq_decide_div_mod_eq, beq_eq_decide, pow_one]
    rw [Nat.add_comm, Nat.testBit_two_pow_add_gt hij]

theorem bitOf_setBit_other {v i j : Nat} (h : i ≠ j) : bitOf (setBit v i) j = bitOf v j := by
  unfold setBit
  split
  · rfl
  next hi => exact bitOf_add_two_pow_other (by simpa using hi) h

theorem bitOf_clearBit_other {v i j : Nat} (h : i ≠ j) : bitOf (clearBit v i) j = bitOf v j := by
  by_cases hb : bitOf v i = true
  · have hlow : bitOf (clearBit v i) i = false := bitOf_clearBit
    have hle : 2 ^ i ≤ v := by
      by_contra hlt
      simp [bitOf, bits, Nat.div_eq_of_lt (Nat.not_le.1 hlt)] at hb
    have hc : clearBit v i = v - 2 ^ i := if_pos hb
    rw [← bitOf_add_two_pow_other hlow h, hc, Nat.sub_add_cancel hle]
  · rw [clearBit, if_neg hb]

theorem age_of_recordless (h : t.recordless = s.recordless) : t.age = s.age := (congrArg State.age h :)

theorem mem_of_recordless (h : t.recordless = s.recordless) : t.mem = s.mem := (congrArg State.mem h :)

/-! ### The regulator -/

theorem seti_kept (s : State) (l : Loc) (x : Int) : (s.seti l x).hk = s.hk ∧ (s.seti l x).mem = s.mem := ⟨rfl, rfl⟩

theorem set_hk (s : State) (l : Loc) (v : Nat) : (s.set l v).hk = s.hk := rfl

theorem telemetry_due (hv : s.pwr.vaux = true) (ht : s.hk.telAt + max 1 (s.get AVS.TEL_MS) * tickMs ≤ s.ao) (v i : Nat) (q : Int) :
    s.telemetry v i q = (((s.setHk (fun h => { h with telAt := s.ao })).set AVS.READ_VOUT v).set AVS.READ_IOUT i).seti AVS.READ_TEMP q :=
  if_pos ⟨hv, ht⟩

theorem voutCheck_early (h : s.age.cmdAt = none) (ack : Bool) (v : Nat) : s.voutCheck ack v = s := by
  simp only [State.voutCheck, h]

/-- The check is over: no command waits. -/
def State.checked (s : State) : State := { s with age := { s.age with cmdAt := none } }

/-- What the regulator has acknowledged. -/
def State.acknowledged (s : State) (ack : Bool) (v : Nat) : State :=
  if ack then (s.set AVS.READ_VOUT v).setModes (fun m => { m with acked := true }) else s

theorem acknowledged_kept (s : State) (ack : Bool) (v : Nat) :
    (s.acknowledged ack v).modes.step = s.modes.step ∧ (s.acknowledged ack v).age = s.age ∧ (s.acknowledged ack v).mem = s.mem ∧
      SameRegs [AVS.READ_VOUT.key] s (s.acknowledged ack v) := by
  unfold State.acknowledged
  split
  · exact ⟨rfl, rfl, rfl, ((SameRegs.refl s).set (List.mem_singleton_self _) : SameRegs _ s (s.set AVS.READ_VOUT v)).of_regs rfl⟩
  · exact ⟨rfl, rfl, rfl, SameRegs.refl s⟩

theorem acknowledged_target (s : State) (ack : Bool) (v : Nat) : (s.acknowledged ack v).get AVS.TARGET = s.get AVS.TARGET :=
  (acknowledged_kept s ack v).2.2.2 _ (by decide)

/-- A fault of the regulator: its count, and its event with a record. -/
def State.voutFaulted (s : State) : State := (s.count AVS.PM_FAULT_CNT).raiseLog 2 0x123 EV.AVS.PM_FAULT

theorem voutFaulted_recordless (s : State) : s.voutFaulted.recordless = s.recordless := by
  rw [State.voutFaulted, State.raiseLog, State.logEvent, logHw_recordless, recordless_raise, recordless_count]

theorem voutCheck_due {a : Nat} (hc : s.age.cmdAt = some a) (ht : a + 1966080 ≤ s.ao) (hm : s.modes.step ≠ 2) (ack : Bool) (v : Nat) :
    s.voutCheck ack v =
      let u := s.checked.acknowledged ack v
      let w := u.voutFaulted
      if ack = true ∧ v ≤ s.get AVS.TARGET + 15 ∧ s.get AVS.TARGET ≤ v + 15 then u
      else { w with age := { w.age with again := true } } := by
  have hstep : (s.checked.acknowledged ack v).modes.step = s.modes.step := (acknowledged_kept s.checked ack v).1
  have htgt : (s.checked.acknowledged ack v).get AVS.TARGET = s.get AVS.TARGET := acknowledged_target ..
  have hmodes : (s.checked.acknowledged ack v).voutFaulted.modes = (s.checked.acknowledged ack v).modes :=
    (congrArg State.modes (voutFaulted_recordless (s.checked.acknowledged ack v)) :)
  unfold State.voutCheck
  rw [hc]
  dsimp only
  rw [if_neg (by omega)]
  change (let u := s.checked.acknowledged ack v
    let w := u.voutFaulted
    if ack = true ∧ v ≤ u.get AVS.TARGET + 15 ∧ u.get AVS.TARGET ≤ v + 15 then (if u.modes.step = 2 then u.romRest else u)
    else if w.modes.step ≠ 2 then { w with age := { w.age with again := true } }
    else if w.modes.stepAt + 49152000 ≤ w.ao then w.failedStart (if w.modes.acked then 0x51 else 0x52)
    else { w with age := { w.age with cmdAt := some w.ao } }) = _
  dsimp only
  rw [htgt, hmodes, hstep, if_neg hm, if_pos hm]

theorem voutFaulted_effect (s : State) :
    s.voutFaulted.age = s.age ∧ s.voutFaulted.mem = s.mem ∧ bitOf (s.voutFaulted.get (HDR.EVT 0x123)) EV.AVS.PM_FAULT = true ∧
      SameRegs ([AVS.PM_FAULT_CNT.key] ++ evKeys 0x123 ++ logKeys) s s.voutFaulted := by
  have h := voutFaulted_recordless s
  have hk : SameRegs logKeys ((s.count AVS.PM_FAULT_CNT).raise 0x123 EV.AVS.PM_FAULT) s.voutFaulted := SameRegs.logAs (.refl _) fun _ hk => hk
  refine ⟨(congrArg State.age h :), (congrArg State.mem h :), ?_, ?_⟩
  · rw [hk _ (by decide)]
    exact raise_sets _ _ (by decide)
  · have h1 : SameRegs ([AVS.PM_FAULT_CNT.key] ++ evKeys 0x123 ++ logKeys) s (s.count AVS.PM_FAULT_CNT) := (SameRegs.refl s).count (by simp)
    exact h1.raiseLog (by simp +contextual) (by simp +contextual)

/-! ### Receive retirement -/

/-- The word of RX_RETIRE, and the word of DEVICE that shows it. -/
def rxWord (hi : Bool) : Loc := if hi then AGEING.RX_RETIRE_HI else AGEING.RX_RETIRE_LO
def rxShown (hi : Bool) : Loc := if hi then DEVICE.RETIRED_RX_HI else DEVICE.RETIRED_RX_LO

/-- The first path of a word. -/
def rxBase (hi : Bool) : Nat := if hi then 32 else 0

theorem rxWord_of_path (hi : Bool) {i : Nat} (h : i < 32) :
    rxRetireLoc (rxBase hi + i) = rxWord hi ∧ retiredRx (rxBase hi + i) = rxShown hi ∧ (rxBase hi + i) % 32 = i := by
  cases hi
  · refine ⟨if_pos ?_, if_pos ?_, ?_⟩ <;> simp only [rxBase, Bool.false_eq_true, if_false] <;> omega
  · refine ⟨if_neg ?_, if_neg ?_, ?_⟩ <;> simp only [rxBase, if_true] <;> omega

theorem forcingChanged_kept (s : State) (d : Nat) :
    SameRegs [(BEAM.RENORM_BUSY d).key] s (s.forcingChanged d) ∧ (s.forcingChanged d).acks = s.acks :=
  ⟨((SameRegs.refl s).of_regs rfl : SameRegs _ s (s.setBeam d _)).set (List.mem_singleton_self _), rfl⟩

theorem raise_acks (s : State) (pg b : Nat) : (s.raise pg b).acks = s.acks := (congrArg State.acks (raise_eventless s pg b) :)

/-- A changed path follows RX_RETIRE in the word of DEVICE: its own bit there, and no other. -/
theorem rxRetired_effect (s : State) (hi : Bool) {i : Nat} (h : i < 32) :
    bitOf ((s.rxRetired (rxBase hi + i)).get (rxShown hi)) i = bitOf (s.get (rxWord hi)) i ∧
      (∀ j, j < 32 → i ≠ j → bitOf ((s.rxRetired (rxBase hi + i)).get (rxShown hi)) j = bitOf (s.get (rxShown hi)) j) ∧
      SameRegs ([(rxShown hi).key, (BEAM.RENORM_BUSY 1).key] ++ evKeys 0x000) s (s.rxRetired (rxBase hi + i)) ∧
      (s.rxRetired (rxBase hi + i)).acks = s.acks := by
  obtain ⟨hr, hs, hm⟩ := rxWord_of_path hi h
  have hw : (rxShown hi).wid = 32 := by cases hi <;> rfl
  have hne : (rxShown hi).key ∉ [(BEAM.RENORM_BUSY 1).key] := by cases hi <;> decide
  have hev : (rxShown hi).key ≠ (HDR.EVT 0x000).key ∧ (rxShown hi).key ≠ ERL1.EVT_LOST_CNT.key := by cases hi <;> decide
  unfold State.rxRetired
  dsimp only
  rw [hr, hs, hm]
  split
  next hb =>
    obtain ⟨hf, ha⟩ := forcingChanged_kept ((s.set (rxShown hi) (setBit (s.get (rxShown hi)) i)).raise 0x000 EV.DEVICE.PATH_RETIRED) 1
    have hget := (hf _ hne).trans ((raise_other hev.1 hev.2).trans (get_set_same s (rxShown hi) (setBit (s.get (rxShown hi)) i)))
    rw [hget, hw, hb]
    refine ⟨(bitOf_trunc h).trans bitOf_setBit, fun j hj hij => (bitOf_trunc hj).trans (bitOf_setBit_other hij), ?_, ?_⟩
    · have h1 : SameRegs ([(rxShown hi).key, (BEAM.RENORM_BUSY 1).key] ++ evKeys 0x000) s
          ((s.set (rxShown hi) (setBit (s.get (rxShown hi)) i)).raise 0x000 EV.DEVICE.PATH_RETIRED) :=
        ((SameRegs.refl s).set (by simp)).raise (by simp +contextual)
      exact h1.trans (hf.mono (by simp))
    · rw [ha, raise_acks]
      rfl
  next hb =>
    obtain ⟨hf, ha⟩ := forcingChanged_kept (s.set (rxShown hi) (clearBit (s.get (rxShown hi)) i)) 1
    have hget := (hf _ hne).trans (get_set_same s (rxShown hi) (clearBit (s.get (rxShown hi)) i))
    rw [hget, hw, Bool.eq_false_iff.2 hb]
    refine ⟨(bitOf_trunc h).trans bitOf_clearBit, fun j hj hij => (bitOf_trunc hj).trans (bitOf_clearBit_other hij), ?_, ?_⟩
    · have h1 : SameRegs ([(rxShown hi).key, (BEAM.RENORM_BUSY 1).key] ++ evKeys 0x000) s
          (s.set (rxShown hi) (clearBit (s.get (rxShown hi)) i)) := (SameRegs.refl s).set (by simp)
      exact h1.trans (hf.mono (by simp))
    · rw [ha]
      rfl

/-- A fold establishes what its step at `n` does, where every step keeps `P`, and every other step what is established. -/
theorem foldl_establish {P Q : State → Prop} {f : State → Nat → State} {ns : List Nat} {n : Nat} {s : State} (hn : n ∈ ns) (h : P s)
    (hp : ∀ u, ∀ m ∈ ns, P u → P (f u m)) (hq : ∀ u, P u → Q (f u n)) (hk : ∀ u, ∀ m ∈ ns, n ≠ m → P u → Q u → Q (f u m)) :
    Q (ns.foldl f s) := by
  induction ns generalizing s with
  | nil => exact absurd hn List.not_mem_nil
  | cons m ns ih =>
    have hp' : ∀ u, ∀ i ∈ ns, P u → P (f u i) := fun u i hi => hp u i (List.mem_cons_of_mem _ hi)
    have hk' : ∀ u, ∀ i ∈ ns, n ≠ i → P u → Q u → Q (f u i) := fun u i hi => hk u i (List.mem_cons_of_mem _ hi)
    by_cases hmem : n ∈ ns
    · exact ih hmem (hp s m (List.mem_cons_self ..) h) hp' hk'
    · obtain rfl : n = m := (List.mem_cons.1 hn).resolve_right hmem
      have hne : ∀ i ∈ ns, n ≠ i := fun i hi e => hmem (e ▸ hi)
      exact (List.foldlRecOn (motive := fun u : State => P u ∧ Q u) ns f ⟨hp s n (List.mem_cons_self ..) h, hq s h⟩
        fun u hu i hi => ⟨hp' u i hi hu.1, hk' u i hi (hne i hi) hu.1 hu.2⟩).2

/-- One path of a word of RX_RETIRE that takes effect over the word's old value. -/
def State.rxFollow (s : State) (hi : Bool) (old v i : Nat) : State :=
  if bitOf old i = bitOf v i then s
  else if s.mode = 5 then s.setPath (rxBase hi + i) (fun p => { p with retRx := !p.retRx })
  else s.rxRetired (rxBase hi + i)

theorem rxRetireWritten_eq (s : State) (hi : Bool) (v : Nat) :
    s.rxRetireWritten (rxWord hi) v = (List.range 32).foldl (fun u i => u.rxFollow hi (s.get (rxWord hi)) v i) (s.set (rxWord hi) v) := by
  cases hi <;> rfl

/-- In M5 a path follows with the slot: no register changes. -/
theorem rxFollow_m5 (hm : s.mode = 5) (hi : Bool) (old v i : Nat) : (s.rxFollow hi old v i).regs = s.regs ∧
    (s.rxFollow hi old v i).mem = s.mem := by
  unfold State.rxFollow
  split
  · exact ⟨rfl, rfl⟩
  · exact ⟨rfl, rfl⟩

theorem rxFollow_acks (s : State) (hi : Bool) {i : Nat} (h : i < 32) (old v : Nat) : (s.rxFollow hi old v i).acks = s.acks := by
  unfold State.rxFollow
  split
  · rfl
  · split
    · rfl
    · exact (rxRetired_effect s hi h).2.2.2

/-- No path changes RX_RETIRE, or the mode. -/
theorem rxFollow_keeps (s : State) (hi : Bool) {i : Nat} (h : i < 32) (old v : Nat) :
    (s.rxFollow hi old v i).get (rxWord hi) = s.get (rxWord hi) ∧ (s.rxFollow hi old v i).mode = s.mode := by
  unfold State.rxFollow
  split
  · exact ⟨rfl, rfl⟩
  · split
    · exact ⟨rfl, rfl⟩
    · obtain ⟨-, -, hr, -⟩ := rxRetired_effect s hi h
      exact ⟨hr _ (by cases hi <;> decide), hr _ (by cases hi <;> decide)⟩

theorem rxRetireWritten_acks (s : State) (hi : Bool) (v : Nat) : (s.rxRetireWritten (rxWord hi) v).acks = s.acks := by
  rw [rxRetireWritten_eq]
  exact List.foldlRecOn (motive := fun u : State => u.acks = s.acks) (List.range 32) _ rfl fun u hu i hi' =>
    (rxFollow_acks u hi (List.mem_range.1 hi') ..).trans hu

theorem rxRetireWritten_word (s : State) (hi : Bool) {v : Nat} (hv : v < 2 ^ 32) : (s.rxRetireWritten (rxWord hi) v).get (rxWord hi) = v := by
  have hw : (rxWord hi).wid = 32 := by cases hi <;> rfl
  rw [rxRetireWritten_eq]
  refine List.foldlRecOn (motive := fun u : State => u.get (rxWord hi) = v) (List.range 32) _ ?_ fun u hu i hi' =>
    ((rxFollow_keeps u hi (List.mem_range.1 hi') ..).1).trans hu
  rw [get_set_same, hw, trunc_of_lt hv]

theorem rxRetireWritten_m5 (hm : s.mode = 5) (hi : Bool) (v : Nat) :
    (s.rxRetireWritten (rxWord hi) v).mem = s.mem ∧ SameRegs [(rxWord hi).key] s (s.rxRetireWritten (rxWord hi) v) := by
  have h0 : (s.set (rxWord hi) v).mode = 5 := (get_set_other s v (by cases hi <;> decide)).trans hm
  rw [rxRetireWritten_eq]
  obtain ⟨-, hmem, hr⟩ := List.foldlRecOn
    (motive := fun u : State => u.mode = 5 ∧ u.mem = s.mem ∧ SameRegs [(rxWord hi).key] s u) (List.range 32)
    (fun u i => u.rxFollow hi (s.get (rxWord hi)) v i) ⟨h0, rfl, (SameRegs.refl s).set (List.mem_singleton_self _)⟩
    fun u ⟨hu, hmem, hr⟩ i hi' => by
      obtain ⟨hregs, hm'⟩ := rxFollow_m5 hu hi (s.get (rxWord hi)) v i
      exact ⟨((rxFollow_keeps u hi (List.mem_range.1 hi') ..).2).trans hu, hm'.trans hmem, hr.of_regs hregs⟩
  exact ⟨hmem, hr⟩

/-- Outside M5 the word of DEVICE follows at every path that changes. -/
theorem rxRetireWritten_shown (hm : s.mode ≠ 5) (hi : Bool) {v i : Nat} (hv : v < 2 ^ 32) (h : i < 32)
    (hc : bitOf v i ≠ bitOf (s.get (rxWord hi)) i) :
    bitOf ((s.rxRetireWritten (rxWord hi) v).get (rxShown hi)) i = bitOf v i := by
  have hw : (rxWord hi).wid = 32 := by cases hi <;> rfl
  have h0 : (s.set (rxWord hi) v).mode ≠ 5 := by
    rw [State.mode, get_set_other s v (by cases hi <;> decide)]
    exact hm
  rw [rxRetireWritten_eq]
  refine foldl_establish (P := fun u => u.get (rxWord hi) = v ∧ u.mode ≠ 5) (Q := fun u => bitOf (u.get (rxShown hi)) i = bitOf v i)
    (List.mem_range.2 h) ⟨by rw [get_set_same, hw, trunc_of_lt hv], h0⟩ ?_ ?_ ?_
  · intro u m hm' ⟨hu, hmode⟩
    obtain ⟨h1, h2⟩ := rxFollow_keeps u hi (List.mem_range.1 hm') (s.get (rxWord hi)) v
    exact ⟨h1.trans hu, by rw [h2]; exact hmode⟩
  · intro u ⟨hu, hmode⟩
    rw [State.rxFollow, if_neg (Ne.symm hc), if_neg hmode, (rxRetired_effect u hi h).1, hu]
  · intro u m hm' hne ⟨_, hmode⟩ hq
    rw [State.rxFollow]
    split
    · exact hq
    · rw [(rxRetired_effect u hi (List.mem_range.1 hm')).2.1 i h (Ne.symm hne), hq]

theorem fieldEff_rxRetire (s : State) (c : Cls) (hi : Bool) (v : Nat) :
    s.fieldEff c (rxWord hi) v = s.rxRetireWritten (rxWord hi) v := by
  cases hi <;> rfl

theorem rxRetireWrite_lands {c : Cls} {agent v : Nat} {hi : Bool} (h : s.accepts c (rxWord hi) v = true) (hv : v < 2 ^ 32) :
    s.rowField c agent (rxWord hi) v = s.lands c (rxWord hi) [fun u => u.rxRetireWritten (rxWord hi) v] [] := by
  have hw : trunc (rxWord hi).wid v = v := trunc_of_lt (show v < 2 ^ (rxWord hi).wid by cases hi <;> exact hv)
  rw [rowField_lands h (by cases hi <;> decide) (by cases hi <;> decide) (by cases hi <;> decide) (by cases hi <;> decide)
    (by cases hi <;> decide) (by cases hi <;> decide) (by rw [fieldEff_rxRetire, rxRetireWritten_acks])]
  simp only [fieldEff_rxRetire, hw]

/-- What a write of RX_RETIRE that takes effect leaves. -/
theorem rxRetireWrite_effect {c : Cls} {agent v : Nat} {hi : Bool} (h : s.accepts c (rxWord hi) v = true) (hv : v < 2 ^ 32) :
    let u : State := s.ripe c (rxWord hi)
    let t := s.rowField c agent (rxWord hi) v
    t.get (rxWord hi) = v ∧ t.answer = some ⟨c, [], stOK⟩ ∧ (u.mode = 5 → t.mem = u.mem ∧ SameRegs [(rxWord hi).key] u t) ∧
      ∀ i, i < 32 → u.mode ≠ 5 → bitOf v i ≠ bitOf (u.get (rxWord hi)) i → bitOf (t.get (rxShown hi)) i = bitOf v i := by
  intro u t
  have ht : t = ((u.credit 1 false).rxRetireWritten (rxWord hi) v).reply c [] stOK := rxRetireWrite_lands h hv
  have hu : SameRegs [] u (u.credit 1 false) := (SameRegs.refl u).credit
  have hmode : (u.credit 1 false).mode = u.mode := hu _ List.not_mem_nil
  have hget : ∀ l, (u.credit 1 false).get l = u.get l := fun l => hu l List.not_mem_nil
  rw [ht]
  refine ⟨rxRetireWritten_word _ hi hv, rfl, fun hm => ?_, fun i hi' hm hc => ?_⟩
  · obtain ⟨hmem, hr⟩ := rxRetireWritten_m5 (hmode.trans hm) hi v
    exact ⟨hmem.trans (credit_mem ..), ((hu.mono fun _ hk => absurd hk List.not_mem_nil).trans hr).reply⟩
  · exact rxRetireWritten_shown (by rw [hmode]; exact hm) hi hv hi' (by rwa [hget])

/-! ### The days of life -/

/-- The fields that the fit of a life shows. -/
def fitKeys : List Nat := [AGEING.LIFE_A.key, AGEING.LIFE_B.key, AGEING.LIFE_LEFT.key, AGEING.LIFE_VALID.key]

/-- The fit as it is shown. -/
def State.fitShown (s : State) (a b : Int) (valid left : Nat) : State :=
  (((s.seti AGEING.LIFE_A a).seti AGEING.LIFE_B b).set AGEING.LIFE_VALID valid).set AGEING.LIFE_LEFT left

theorem lifeFit_shown (s : State) (d f : Nat) : ∃ a b v l, s.lifeFit d f = s.fitShown a b v l := by
  rw [show State.lifeFit = _ from by delta State.lifeFit; rfl]
  extract_lets n sx sy sxy sxx den b a s1 v stop
  by_cases h : n < 8 ∨ b ≤ 0
  · exact ⟨a, b, 0, 0xFFFF, if_pos h⟩
  · exact ⟨a, b, 1, (clip 0 65534 (stop - d)).toNat, if_neg h⟩

theorem lifeFit_kept (s : State) (d f : Nat) : SameRegs fitKeys s (s.lifeFit d f) ∧ (s.lifeFit d f).recordless = s.recordless := by
  obtain ⟨a, b, v, l, h⟩ := lifeFit_shown s d f
  have h1 : SameRegs fitKeys s (s.seti AGEING.LIFE_A a) := (SameRegs.refl s).set (by decide)
  have h2 : SameRegs fitKeys s ((s.seti AGEING.LIFE_A a).seti AGEING.LIFE_B b) := h1.set (by decide)
  have h3 : SameRegs fitKeys s (((s.seti AGEING.LIFE_A a).seti AGEING.LIFE_B b).set AGEING.LIFE_VALID v) := h2.set (by decide)
  rw [h]
  exact ⟨h3.set (by decide), by rw [State.fitShown, State.seti, State.seti, recordless_set, recordless_set, recordless_set, recordless_set]⟩

/-- The day's sums, and one day more. -/
def State.dayCounted (s : State) (x y : Int) : State :=
  let s := (s.addSum AGEING.SX_LO AGEING.SX_HI x).addSum AGEING.SY_LO AGEING.SY_HI y
  let s := (s.addSum AGEING.SXY_LO AGEING.SXY_HI (x * y)).addSum AGEING.SXX_LO AGEING.SXX_HI (x * x)
  s.set AGEING.LIFE_N (s.get AGEING.LIFE_N + 1)

theorem addSum_get {lo hi l : Loc} (s : State) (x : Int) (h1 : l.key ≠ lo.key) (h2 : l.key ≠ hi.key) :
    (s.addSum lo hi x).get l = s.get l := by
  rw [State.addSum, State.set64, get_set_other _ _ h2, get_set_other _ _ h1]

theorem dayCounted_n (s : State) (x y : Int) (h : s.get AGEING.LIFE_N + 1 < 2 ^ 32) :
    (s.dayCounted x y).get AGEING.LIFE_N = s.get AGEING.LIFE_N + 1 := by
  unfold State.dayCounted
  dsimp only
  rw [get_set_same, addSum_get _ _ (by decide) (by decide), addSum_get _ _ (by decide) (by decide), addSum_get _ _ (by decide) (by decide),
    addSum_get _ _ (by decide) (by decide)]
  exact trunc_of_lt h

theorem recordless_addSum (s : State) (lo hi : Loc) (x : Int) : (s.addSum lo hi x).recordless = s.recordless := by
  rw [State.addSum, State.set64, recordless_set, recordless_set]

theorem dayCounted_recordless (s : State) (x y : Int) : (s.dayCounted x y).recordless = s.recordless := by
  unfold State.dayCounted
  dsimp only
  rw [recordless_set, recordless_addSum, recordless_addSum, recordless_addSum, recordless_addSum]

/-- A day begins. -/
def State.dayBegun (s : State) : State :=
  s.setAge (fun a => { a with dayDue := false, dayTicks := 0, dayTgt := 0, dayTemp := 0, dayHeld := 0 })

/-- A day that is due is closed: counted where the processor was not held, its fit shown, and its event logged. -/
theorem dayClose_due (h : s.age.dayDue = true) :
    ∃ (x y : Int) (d f : Nat), s.dayClose =
      ((((if 12 * tickHour < s.age.dayHeld then s.freeNat.2 else s.freeNat.2.dayCounted x y).lifeFit d f).dayBegun).raiseLog 0 0x122
        EV.AGEING.LIFE_UPDATE) := by
  refine ⟨(s.freeNat.2.dayPoint (s.get AGEING.LIFE_HOURS / 24) s.freeNat.1).1, (s.freeNat.2.dayPoint (s.get AGEING.LIFE_HOURS / 24) s.freeNat.1).2,
    s.get AGEING.LIFE_HOURS / 24, s.freeNat.1 / 4, ?_⟩
  rw [State.dayClose, if_neg (by simp [h])]
  rfl

theorem freeNat_age (s : State) : s.freeNat.2.age = s.age ∧ s.freeNat.2.mem = s.mem := ⟨rfl, rfl⟩

/-- What the end of a day leaves, over the state `u` in which its point is counted or not. -/
theorem dayEnd_effect (u : State) (d f : Nat) :
    let t := ((u.lifeFit d f).dayBegun).raiseLog 0 0x122 EV.AGEING.LIFE_UPDATE
    t.age = { u.age with dayDue := false, dayTicks := 0, dayTgt := 0, dayTemp := 0, dayHeld := 0 } ∧
      bitOf (t.get (HDR.EVT 0x122)) EV.AGEING.LIFE_UPDATE = true ∧ t.mem = u.mem ∧ SameRegs (fitKeys ++ evKeys 0x122 ++ logKeys) u t := by
  intro t
  obtain ⟨hfit, hrec⟩ := lifeFit_kept u d f
  generalize hv : u.lifeFit d f = v at hfit hrec
  have ht : t = (v.dayBegun).raiseLog 0 0x122 EV.AGEING.LIFE_UPDATE := by
    show ((u.lifeFit d f).dayBegun).raiseLog 0 0x122 EV.AGEING.LIFE_UPDATE = _
    rw [hv]
  have htr : t.recordless = v.dayBegun.recordless := by
    rw [ht, State.raiseLog, State.logEvent, logHw_recordless, recordless_raise]
  have hage : v.age = u.age := (congrArg State.age hrec :)
  have hmem : v.mem = u.mem := (congrArg State.mem hrec :)
  have hk : SameRegs logKeys ((v.dayBegun).raise 0x122 EV.AGEING.LIFE_UPDATE) t := by
    rw [ht]
    exact SameRegs.logAs (.refl _) fun _ hk => hk
  refine ⟨?_, ?_, ((congrArg State.mem htr :) : t.mem = v.mem).trans hmem, ?_⟩
  · rw [← hage]
    exact (congrArg State.age htr :)
  · rw [hk _ (by decide)]
    exact raise_sets _ _ (by decide)
  · have h1 : SameRegs (fitKeys ++ evKeys 0x122 ++ logKeys) u v.dayBegun := (hfit.mono (by simp +contextual)).of_regs rfl
    rw [ht]
    exact h1.raiseLog (by simp +contextual) (by simp +contextual)

/-- Settles O44: each clause is the branch of its command, with the frame of what it writes. -/
theorem ageingAndVoltage : Obligations.AgeingAndVoltage := by
  unfold Obligations.AgeingAndVoltage
  refine ⟨?noWindow, ?window, ?telemetry, ?noTelemetry, ?alert, ?noAlert, ?noCheck, ?good, ?fault, ?inGrace, ?graceTx, ?graceRx, ?retireHi,
    ?retireLo, ?noDay, ?day, ?heldDay⟩
  case noWindow =>
    intro s adc dac up h
    rw [exec_slackWindowEnd, execSlackWindowEnd, State.slackEnd, if_neg fun hc => h.elim (fun h => by simp [h] at hc) (· hc.2)]
  case window =>
    intro s adc dac up hr ht u
    rw [exec_slackWindowEnd, execSlackWindowEnd, State.slackEnd, if_pos ⟨hr, ht⟩]
  case telemetry =>
    intro s v i q hv ht hlv hli
    rw [exec_pmTelemetry, execPmTelemetry, telemetry_due hv ht]
    have h0 : SameRegs [AVS.READ_VOUT.key, AVS.READ_IOUT.key, AVS.READ_TEMP.key] s (s.setHk (fun h => { h with telAt := s.ao })) :=
      (SameRegs.refl s).of_regs rfl
    have h1 := ((h0.set (l := AVS.READ_VOUT) (v := v) (by decide)).set (l := AVS.READ_IOUT) (v := i) (by decide)).set
      (l := AVS.READ_TEMP) (v := ofSigned AVS.READ_TEMP.wid (satSigned AVS.READ_TEMP.wid q)) (by decide)
    obtain ⟨hhk, hmem⟩ := seti_kept (((s.setHk (fun h => { h with telAt := s.ao })).set AVS.READ_VOUT v).set AVS.READ_IOUT i) AVS.READ_TEMP q
    refine ⟨_, rfl, ?_, ?_, ?_, h1⟩
    rotate_left
    · rw [hhk, set_hk, set_hk]
      rfl
    · rw [hmem, set_mem, set_mem]
      rfl
    rw [State.seti, get_set_other _ _ (by decide), get_set_other _ _ (by decide), get_set_same]
    exact trunc_of_lt (show v < 2 ^ 32 by omega)
  case noTelemetry =>
    intro s v i q h
    rw [exec_pmTelemetry, execPmTelemetry, State.telemetry, if_neg fun hc => h.elim (fun h => by simp [h] at hc) fun h => by omega]
  case alert =>
    intro s w hv hb
    rw [exec_pmAlert, execPmAlert, State.pmAlert, if_pos ⟨hv, hb⟩]
  case noAlert =>
    intro s w h
    rw [exec_pmAlert, execPmAlert, State.pmAlert, if_neg fun hc => h.elim (fun h => by simp [h] at hc) fun h => by simp [h] at hc]
  case noCheck =>
    intro s ack v h
    rw [exec_pmVoutCheck, execPmVoutCheck, voutCheck_early h]
  case good =>
    intro s v a hc ht hm hv h1 h2
    obtain ⟨-, hage, hmem, hr⟩ := acknowledged_kept s.checked true v
    rw [exec_pmVoutCheck, execPmVoutCheck, voutCheck_due hc ht hm]
    dsimp only
    rw [if_pos ⟨rfl, h1, h2⟩]
    exact ⟨_, rfl, (get_set_same ..).trans (trunc_of_lt (show v < 2 ^ 32 by omega)), hage, hmem,
      ((SameRegs.refl s).of_regs rfl : SameRegs _ s s.checked).trans hr⟩
  case fault =>
    intro s ack v a hc ht hm h
    obtain ⟨-, hage, hmem, hr⟩ := acknowledged_kept s.checked ack v
    obtain ⟨hage', hmem', hev, hr'⟩ := voutFaulted_effect (s.checked.acknowledged ack v)
    rw [exec_pmVoutCheck, execPmVoutCheck, voutCheck_due hc ht hm]
    dsimp only
    rw [if_neg (by rintro ⟨rfl, h1, h2⟩; rcases h with h | h | h <;> first | exact absurd h (by decide) | omega)]
    generalize (s.checked.acknowledged ack v).voutFaulted = w at hage' hmem' hev hr'
    have h0 : SameRegs ([AVS.READ_VOUT.key, AVS.PM_FAULT_CNT.key] ++ evKeys 0x123 ++ logKeys) s (s.checked.acknowledged ack v) :=
      ((SameRegs.refl s).of_regs rfl : SameRegs _ s s.checked).trans (hr.mono (by simp))
    refine ⟨_, rfl, ?_, hev, hmem'.trans hmem, (h0.trans (hr'.mono fun k hk => ?_)).of_regs rfl⟩
    · rw [hage', hage]
      rfl
    · exact List.mem_cons_of_mem _ hk
  case inGrace =>
    intro s d n h
    rw [exec_retireGraceExpiry, execRetireGraceExpiry, State.hwRetire, if_pos h]
  case graceTx =>
    intro s n hn h
    rw [exec_retireGraceExpiry, execRetireGraceExpiry, Nat.mod_eq_of_lt hn, State.hwRetire, if_neg (by simp [h])]
    rfl
  case graceRx =>
    intro s n hn h
    rw [exec_retireGraceExpiry, execRetireGraceExpiry, Nat.mod_eq_of_lt hn, State.hwRetire, if_neg (by simp [h])]
    rfl
  case retireHi =>
    intro s c agent v h hv u
    exact ⟨_, rfl, rxRetireWrite_effect (hi := true) h hv⟩
  case retireLo =>
    intro s c agent v h hv u
    exact ⟨_, rfl, rxRetireWrite_effect (hi := false) h hv⟩
  case noDay =>
    intro s h
    rw [exec_lifeDayClose, execLifeDayClose, State.dayClose, if_pos h]
  case day =>
    intro s h hd hn
    obtain ⟨x, y, d, f, hc⟩ := dayClose_due h
    rw [if_neg (Nat.not_lt.2 hd)] at hc
    obtain ⟨hage, hev, hmem, hr⟩ := dayEnd_effect (s.freeNat.2.dayCounted x y) d f
    have hrec := dayCounted_recordless s.freeNat.2 x y
    have hage' : (s.freeNat.2.dayCounted x y).age = s.age := (age_of_recordless hrec).trans (freeNat_age s).1
    have hmem' : (s.freeNat.2.dayCounted x y).mem = s.mem := (mem_of_recordless hrec).trans (freeNat_age s).2
    have hcount := dayCounted_n s.freeNat.2 x y hn
    rw [exec_lifeDayClose, execLifeDayClose, hc]
    generalize s.freeNat.2.dayCounted x y = u at hage hev hmem hr hage' hmem' hcount
    exact ⟨_, rfl, (hr _ (by decide)).trans hcount, by rw [hage, hage'], hev, hmem.trans hmem'⟩
  case heldDay =>
    intro s h hd
    obtain ⟨x, y, d, f, hc⟩ := dayClose_due h
    rw [if_pos hd] at hc
    obtain ⟨hage, hev, hmem, hr⟩ := dayEnd_effect s.freeNat.2 d f
    rw [exec_lifeDayClose, execLifeDayClose, hc]
    exact ⟨_, rfl, hage, hev, hmem, ((SameRegs.refl s).of_regs rfl : SameRegs _ s s.freeNat.2).trans hr⟩

end Sys2Proof.Machine
end

section
/-! PROOFS. Stores (for O37): a value put again where it stands leaves the list as it is. -/

namespace Sys2Proof

namespace Store

variable {m t : Store} {k j a v w : Nat}

/-- The entries of other numbers. -/
def without (m : Store) (k : Nat) : Store := m.filter (fun e => decide (e.1 ≠ k))

/-- No entry is of number `k`. -/
def Lacks (m : Store) (k : Nat) : Prop := ∀ e ∈ m, e.1 ≠ k

theorem put_eq (m : Store) (k v : Nat) : m.put k v = if v = 0 then m.without k else (m.without k).ins k v := rfl

theorem without_lacks (m : Store) (k : Nat) : (m.without k).Lacks k := fun e he => by
  simpa using (List.mem_filter.1 he).2

theorem without_of_lacks (h : m.Lacks k) : m.without k = m := List.filter_eq_self.2 fun e he => decide_eq_true (h e he)

theorem without_cons_other (h : a ≠ k) : without ((a, w) :: t) k = (a, w) :: t.without k := by simp [without, h]

theorem without_cons_same : without ((k, w) :: t) k = t.without k := by simp [without]

theorem lacks_cons : Lacks ((a, w) :: t) k ↔ a ≠ k ∧ t.Lacks k := List.forall_mem_cons

theorem lacks_without (h : m.Lacks k) : (m.without j).Lacks k := fun e he => h e (List.mem_of_mem_filter he)

theorem ins_before (h : k < a) : ins ((a, w) :: t) k v = (k, v) :: (a, w) :: t := by rw [ins, if_pos h]

theorem ins_after (h : ¬k < a) : ins ((a, w) :: t) k v = (a, w) :: ins t k v := by rw [ins, if_neg h]

theorem lacks_ins (hm : m.Lacks k) (h : j ≠ k) : (m.ins j w).Lacks k := by
  induction m with
  | nil => exact lacks_cons.2 ⟨h, hm⟩
  | cons x t ih =>
    obtain ⟨ha, ht⟩ := lacks_cons.1 hm
    rw [ins]
    split
    · exact lacks_cons.2 ⟨h, hm⟩
    · exact lacks_cons.2 ⟨ha, ih ht⟩

/-- An entry taken out again. -/
theorem without_ins_same (h : m.Lacks k) : (m.ins k v).without k = m := by
  induction m with
  | nil => exact without_cons_same
  | cons x t ih =>
    obtain ⟨ha, ht⟩ := lacks_cons.1 h
    rw [ins]
    split
    · rw [without_cons_same, without_of_lacks h]
    · rw [without_cons_other ha, ih ht]

/-- Entries of a smaller number go out alike before and after an entry goes in. -/
theorem without_ins_lt (h : j < k) : (m.ins k v).without j = (m.without j).ins k v := by
  induction m with
  | nil => exact without_cons_other (Nat.ne_of_gt h)
  | cons x t ih =>
    obtain ⟨a, w⟩ := x
    by_cases hka : k < a
    · rw [ins_before hka, without_cons_other (by omega), without_cons_other (by omega), ins_before hka]
    · rw [ins_after hka]
      by_cases haj : a = j
      · subst haj
        rw [without_cons_same, without_cons_same, ih]
      · rw [without_cons_other haj, without_cons_other haj, ins_after hka, ih]

/-- An entry taken out and put back, beside one of a smaller number, stands where it stood. -/
theorem ins_without_ins (h : j < k) (hm : m.Lacks k) : (((m.ins k v).ins j w).without k).ins k v = (m.ins k v).ins j w := by
  have hkj : ¬k < j := by omega
  have hjk : j ≠ k := by omega
  induction m with
  | nil => rw [ins, ins_before h, without_cons_other hjk, without_cons_same, ins_after hkj]; rfl
  | cons x t ih =>
    obtain ⟨a, y⟩ := x
    obtain ⟨ha, ht⟩ := lacks_cons.1 hm
    by_cases hka : k < a
    · rw [ins_before hka, ins_before h, without_cons_other hjk, without_cons_same, without_of_lacks hm, ins_after hkj, ins_before hka]
    · rw [ins_after hka]
      by_cases hja : j < a
      · rw [ins_before hja, without_cons_other hjk, without_cons_other ha, without_ins_same ht, ins_after hkj, ins_after hka]
      · rw [ins_after hja, without_cons_other ha, ins_after hka, ih ht]

theorem put_put_same (m : Store) (k v : Nat) : (m.put k v).put k v = m.put k v := by
  have hw : (m.put k v).without k = m.without k := by
    rw [put_eq]
    split
    · exact without_of_lacks (without_lacks m k)
    · exact without_ins_same (without_lacks m k)
  rw [put_eq (m.put k v), hw]
  rfl

/-- The value of `k` put again, after one of a smaller number. -/
theorem put_put_lt (m : Store) (h : j < k) : ((m.put k v).put j w).put k v = (m.put k v).put j w := by
  have hl : ((m.without k).without j).Lacks k := lacks_without (without_lacks m k)
  by_cases hv : v = 0
  · have hp : (m.put k v).put j w = if w = 0 then (m.without k).without j else ((m.without k).without j).ins j w := by
      rw [put_eq m, if_pos hv, put_eq]
    have hlacks : ((m.put k v).put j w).Lacks k := by
      rw [hp]
      split
      · exact hl
      · exact lacks_ins hl (Nat.ne_of_lt h)
    rw [put_eq _ k, if_pos hv, without_of_lacks hlacks]
  · have hp : (m.put k v).put j w =
        if w = 0 then ((m.without k).without j).ins k v else (((m.without k).without j).ins k v).ins j w := by
      rw [put_eq m, if_neg hv, put_eq, without_ins_lt h]
    rw [put_eq _ k, if_neg hv, hp]
    split
    · rw [without_ins_same hl]
    · exact ins_without_ins h hl

end Store

end Sys2Proof
end

section
/-! PROOFS. The words of UPDATE.OP (O37, R399, R400): OP and ARG of the class take effect, then GO acts with them. -/

namespace Sys2Proof.Machine

variable {s x : State} {c : Cls} {agent data op a : Nat} {l m : Loc}

/-- A field that each class has its own of, and stores as written. -/
def IsUpdOperand (l : Loc) : Prop := l = UPDATE.OP ∨ l = UPDATE.ARG

/-- Two windows and a trigger are due: the windows close first, in their order. -/
theorem close_windowsTrigger {v w : Window} {r : Trigger} {now : Nat} (hw : x.windows = [v, w]) (ht : x.triggers = [r])
    (hv : v.openAt + 8 = now) (ho : w.openAt + 8 = now) (hr : r.actAt = now)
    (h1 : (x.closeWindow v).windows = [w]) (h2 : (x.closeWindow v).triggers = [r])
    (h3 : ((x.closeWindow v).closeWindow w).windows = []) (h4 : ((x.closeWindow v).closeWindow w).triggers = [r]) :
    x.dueAt now = ((x.closeWindow v).closeWindow w).triggerActs r := by
  simp [State.dueAt, hw, ht, State.closeDue, State.nextDue, hv, ho, hr, h1, h2, h3, h4]

/-- One of the parts of a word is settled, and others are left. -/
theorem credit_more {r n : Nat} (h : s.words = [⟨1, c, r, stOK, false, n + 2⟩]) :
    s.credit 1 false = { s with words := [⟨1, c, r, stOK, false, n + 1⟩] } := by
  simp [State.credit, h]

/-- A class's operand of UPDATE takes effect as written. -/
theorem closeWindow_updOperand {v id at_ tk : Nat} {ws : List Window} (hl : IsUpdOperand l)
    (hx : x.windows = ⟨perClass l c, at_, [⟨c, agent, v, tk, id⟩]⟩ :: ws) (hn : ∀ w ∈ ws, w.loc ≠ perClass l c) :
    x.closeWindow ⟨perClass l c, at_, [⟨c, agent, v, tk, id⟩]⟩ = ((x.withWindows ws).credit id false).set (perClass l c) v := by
  have hrest : x.windows.filter (fun w => decide (w.loc ≠ perClass l c)) = ws := by
    rw [hx, List.filter_cons_of_neg (by simp), List.filter_eq_self.2 fun w hw => decide_eq_true (hn w hw)]
  have hcl : x.windowClass ⟨perClass l c, at_, [⟨c, agent, v, tk, id⟩]⟩ = c := by
    obtain ⟨p, hp⟩ := winner_one x (perClass l c) ⟨c, agent, v, tk, id⟩
    simp [State.windowClass, hp]
  have hfree : ∀ u : State, u.fieldHeld (perClass l c) = none := fun u => by
    rcases hl with rfl | rfl <;> cases c <;> rfl
  have ht : x.takeWindow ⟨perClass l c, at_, [⟨c, agent, v, tk, id⟩]⟩ = (some v, (x.withWindows ws).credit id false) := by
    simp only [State.takeWindow, hrest, hfree, resolve_one]
    simp [State.creditAll, latestWrites, State.withWindows]
  have hk : perClass l c ≠ BCAST0.STD ∧ perClass l c ≠ BCAST0.FREQ ∧ (perClass l c).page ≠ auxPage := by
    rcases hl with rfl | rfl <;> cases c <;> decide
  have he : ∀ (u : State) (v : Nat), (if 0x200 ≤ (perClass l c).page then u.set (perClass l c) v else u.fieldEff c (perClass l c) v)
      = u.set (perClass l c) v := fun u v => by
    cases c with
    | mgmt => rcases hl with rfl | rfl <;> rfl
    | _ => rcases hl with rfl | rfl <;> rfl
  unfold State.closeWindow
  simp only [hk, ht, hcl, he, or_self, false_and, if_false]

/-- OP and ARG of a class open their windows, and GO waits. -/
theorem joinParts_upd {id : Nat} (hw : s.windows = []) (ws : List WordSt) :
    let u : State := { ((s.joinPart c agent id data UPDATE.OP).joinPart c agent id data UPDATE.ARG).joinPart c agent id data UPDATE.GO with
      words := ws }
    u.windows = [⟨perClass UPDATE.OP c, s.ao, [⟨c, agent, bits data 8 3, s.ao, id⟩]⟩,
        ⟨perClass UPDATE.ARG c, s.ao, [⟨c, agent, bits data 0 8, s.ao, id⟩]⟩] ∧
      u.triggers = s.triggers ++ [⟨UPDATE.GO, c, agent, data, s.ao + 8, id⟩] ∧ u.words = ws ∧ u.acks = s.acks ∧ u.aside = s.aside := by
  have hne : perClass UPDATE.OP c ≠ perClass UPDATE.ARG c := by simp [perClass, UPDATE.OP, UPDATE.ARG]
  have h1 : Loc.arbitrated UPDATE.OP = true := rfl
  have h2 : Loc.arbitrated UPDATE.ARG = true := rfl
  have h3 : Loc.arbitrated UPDATE.GO = false := rfl
  have h4 : isPerClass UPDATE.OP = true := rfl
  have h5 : isPerClass UPDATE.ARG = true := rfl
  have hn : s.windowOf (perClass UPDATE.OP c) = none := by simp [State.windowOf, hw]
  have e1 : s.joinPart c agent id data UPDATE.OP =
      s.withWindows [⟨perClass UPDATE.OP c, s.ao, [⟨c, agent, bits data 8 3, s.ao, id⟩]⟩] := by
    rw [State.joinPart, if_pos h1, if_pos h4, State.joinWindow, hn]
    simp [hw, State.withWindows, UPDATE.OP]
  have hn2 : (s.withWindows [⟨perClass UPDATE.OP c, s.ao, [⟨c, agent, bits data 8 3, s.ao, id⟩]⟩]).windowOf (perClass UPDATE.ARG c) =
      none := by simp [State.windowOf, State.withWindows, hne]
  have e2 : (s.joinPart c agent id data UPDATE.OP).joinPart c agent id data UPDATE.ARG =
      s.withWindows [⟨perClass UPDATE.OP c, s.ao, [⟨c, agent, bits data 8 3, s.ao, id⟩]⟩,
        ⟨perClass UPDATE.ARG c, s.ao, [⟨c, agent, bits data 0 8, s.ao, id⟩]⟩] := by
    rw [e1, State.joinPart, if_pos h2, if_pos h5, State.joinWindow, hn2]
    rfl
  rw [e2, State.joinPart, if_neg (by rw [h3]; decide)]
  exact ⟨rfl, rfl, rfl, rfl, rfl⟩

theorem set_set_same (s : State) (l : Loc) (v : Nat) : (s.set l v).set l v = s.set l v :=
  congrArg (fun r => { s with regs := r }) (Store.put_put_same ..)

/-- A value put again into a field, after a write of one before it. -/
theorem set_set_lt (s : State) (v w : Nat) (h : m.key < l.key) : ((s.set l v).set m w).set l v = (s.set l v).set m w :=
  congrArg (fun r => { s with regs := r }) (Store.put_put_lt _ h)

/-- Operands that a class has in force are put in force again by GO without a change. -/
theorem set_operands_again (s : State) (c : Cls) (op a : Nat) :
    let u := (s.set (perClass UPDATE.OP c) op).set (perClass UPDATE.ARG c) a
    (u.set (perClass UPDATE.OP c) (u.get (perClass UPDATE.OP c))).set (perClass UPDATE.ARG c) (u.get (perClass UPDATE.ARG c)) = u := by
  have hlt : (perClass UPDATE.ARG c).key < (perClass UPDATE.OP c).key := by simp [Loc.key, perClass, UPDATE.OP, UPDATE.ARG]
  dsimp only
  rw [get_set_same, get_set_other _ _ (Nat.ne_of_gt hlt), get_set_same, set_trunc, set_trunc, set_set_lt _ _ _ hlt, set_set_same]

/-- The state in which GO acts: 8 ticks on, with the operands in force. -/
def State.operated (s : State) (c : Cls) (op a : Nat) : State :=
  ((s.ripe c UPDATE.OP).set (perClass UPDATE.OP c) op).set (perClass UPDATE.ARG c) a

theorem ripe_credit_more (s : State) (c : Cls) (n : Nat) : (s.ripe c UPDATE.OP (n + 2)).credit 1 false = s.ripe c UPDATE.OP (n + 1) :=
  credit_more rfl

/-- One part of a word whose fields take effect is settled. -/
theorem operand_credit (s : State) (c : Cls) (l : Loc) (v : Nat) :
    ((s.ripe c UPDATE.OP 2).set l v).credit 1 false = (s.ripe c UPDATE.OP).set l v :=
  credit_more rfl

theorem trigAct_updGo (s : State) (c : Cls) (data at_ : Nat) :
    s.trigAct c UPDATE.GO data at_ = s.updGo c (s.get (perClass UPDATE.OP c)) (s.get (perClass UPDATE.ARG c)) := rfl

/-- The word of an operation: OP and ARG of the class take effect, GO acts with them, and the word is answered (R60). -/
theorem updOp_lands (ho : op < 8) (ha : a < 256) (h1 : s.takes c UPDATE.OP (2 ^ 31 + op * 2 ^ 8 + a) = true)
    (h2 : s.takes c UPDATE.ARG (2 ^ 31 + op * 2 ^ 8 + a) = true) (h3 : s.takes c UPDATE.GO (2 ^ 31 + op * 2 ^ 8 + a) = true)
    {g : State → State} (hg : (s.operated c op a).updGo c ((s.operated c op a).get (perClass UPDATE.OP c))
      ((s.operated c op a).get (perClass UPDATE.ARG c)) = g (s.operated c op a))
    (hgw : (g (s.operated c op a)).words = (s.operated c op a).words) (hga : (g (s.operated c op a)).acks = []) :
    s.updOp c op a = s.lands c UPDATE.OP [fun u => u.set (perClass UPDATE.OP c) op, fun u => u.set (perClass UPDATE.ARG c) a] [g] := by
  set data := 2 ^ 31 + op * 2 ^ 8 + a with hdata
  have hb : bits data 8 3 = op ∧ bits data 0 8 = a := by
    unfold bits
    omega
  obtain ⟨hq, -, hw, hp1⟩ := takes_iff.1 h1
  obtain ⟨-, -, -, hp2⟩ := takes_iff.1 h2
  obtain ⟨-, -, -, hp3⟩ := takes_iff.1 h3
  obtain ⟨q1, q2, q3, hd⟩ := quiet_parts hq
  have hp : ∀ l ∈ [UPDATE.OP, UPDATE.ARG, UPDATE.GO], ({ s with acks := [] } : State).partRefusal c data l = none :=
    List.forall_mem_cons.2 ⟨hp1, List.forall_mem_cons.2 ⟨hp2, List.forall_mem_singleton.2 hp3⟩⟩
  have hr := arrive_parts (agent := 0) (s := { s with acks := [] }) (pg := 0x112) (off := 0x040) hd rfl hw hp (by decide)
    (List.cons_ne_nil _ _) rfl q2 q3
  have hf := joinParts_upd (s := { s with acks := [] }) (c := c) (agent := 0) (id := 1) (data := data) q1 (oneWord c 0x112 0x040 3)
  rw [hb.1, hb.2] at hf
  simp only [List.foldl_cons, List.foldl_nil, List.length_cons, List.length_nil, Nat.zero_add, Nat.reduceAdd] at hr
  generalize { (((({ s with acks := [] } : State).joinPart c 0 1 data UPDATE.OP).joinPart c 0 1 data UPDATE.ARG).joinPart c 0 1 data
    UPDATE.GO) with words := oneWord c 0x112 0x040 3 } = u at hr hf
  obtain ⟨u1, u2, u3, u4, u5⟩ := hf
  have u1 : u.windows = [⟨perClass UPDATE.OP c, s.ao, [⟨c, 0, op, s.ao, 1⟩]⟩, ⟨perClass UPDATE.ARG c, s.ao, [⟨c, 0, a, s.ao, 1⟩]⟩] := u1
  have u2 : u.triggers = [⟨UPDATE.GO, c, 0, data, s.ao + 8, 1⟩] := by rw [u2, q2]; rfl
  have hc := carry_parts hr (by
    intro d e
    simp [State.nextDue, u1, u2] at e
    omega) u5
  have hne : perClass UPDATE.ARG c ≠ perClass UPDATE.OP c := by simp [perClass, UPDATE.OP, UPDATE.ARG]
  have ht0 : (s.afterTicks 8).waiting u = { s.ripe c UPDATE.OP 3 with windows := u.windows, triggers := u.triggers } := by
    simp only [State.waiting, u3, u4]
    rfl
  have hw1 : ((s.afterTicks 8).waiting u).closeWindow ⟨perClass UPDATE.OP c, s.ao, [⟨c, 0, op, s.ao, 1⟩]⟩ =
      { (s.ripe c UPDATE.OP 2).set (perClass UPDATE.OP c) op with
        windows := [⟨perClass UPDATE.ARG c, s.ao, [⟨c, 0, a, s.ao, 1⟩]⟩], triggers := u.triggers } := by
    rw [closeWindow_updOperand (x := (s.afterTicks 8).waiting u) (Or.inl rfl) u1 (List.forall_mem_singleton.2 hne), ht0,
      credit_more (n := 1) rfl]
    rfl
  have hw2 : (((s.afterTicks 8).waiting u).closeWindow ⟨perClass UPDATE.OP c, s.ao, [⟨c, 0, op, s.ao, 1⟩]⟩).closeWindow
      ⟨perClass UPDATE.ARG c, s.ao, [⟨c, 0, a, s.ao, 1⟩]⟩ = { s.operated c op a with triggers := u.triggers } := by
    rw [hw1, closeWindow_updOperand (Or.inr rfl) rfl (fun _ h => absurd h List.not_mem_nil), credit_more (n := 0) rfl]
    rfl
  have hact : (((s.afterTicks 8).waiting u).dueAt (s.ao + 8)) = (g (s.operated c op a)).credit 1 false := by
    rw [close_windowsTrigger (x := (s.afterTicks 8).waiting u) u1 u2 rfl rfl rfl (by rw [hw1]) (by rw [hw1]; exact u2)
      (by rw [hw2]; rfl) (by rw [hw2]; exact u2), hw2, u2, State.triggerActs, List.erase_cons_head]
    exact congrArg (fun t : State => t.credit 1 false) hg
  rw [State.updOp, Nat.mod_eq_of_lt ha, hc, State.dueState, hact, credit_answered (s := s) (l := UPDATE.OP) hgw hga]
  simp only [State.lands, List.foldl_cons, List.foldl_nil, List.length_cons, List.length_nil, Nat.zero_add, Nat.reduceAdd,
    ripe_credit_more s c 1, operand_credit]
  rfl

theorem operated_operands (s : State) (c : Cls) {op a : Nat} (ho : op < 8) (ha : a < 256) :
    (s.operated c op a).get (perClass UPDATE.OP c) = op ∧ (s.operated c op a).get (perClass UPDATE.ARG c) = a := by
  have hne : (perClass UPDATE.OP c).key ≠ (perClass UPDATE.ARG c).key := by simp [Loc.key, perClass, UPDATE.OP, UPDATE.ARG]
  unfold State.operated
  rw [get_set_other _ _ hne, get_set_same, get_set_same]
  exact ⟨Nat.mod_eq_of_lt ho, Nat.mod_eq_of_lt ha⟩

/-- The operands are neither ACT nor BUSY of the page. -/
theorem operated_get (s : State) (c : Cls) (op a : Nat) (hl : l = HDR.ACT 0x112 ∨ l = UPDATE.BUSY) :
    (s.operated c op a).get l = (s.ripe c UPDATE.OP).get l := by
  have hk : ∀ m, IsUpdOperand m → l.key ≠ (perClass m c).key := fun m hm => by
    rcases hl with rfl | rfl <;> rcases hm with rfl | rfl <;> cases c <;> decide
  rw [State.operated, get_set_other _ _ (hk _ (.inr rfl)), get_set_other _ _ (hk _ (.inl rfl))]

/-- The operation that GO issues. -/
def updJobOf (c : Cls) (op a : Nat) (u : State) : UpdJob :=
  { cls := c, op := op, arg := a, ofs := u.get (perClass UPDATE.OFS c), len := u.get (perClass UPDATE.LEN c),
    data := u.win UPDATE.BUF (min 768 (u.get (perClass UPDATE.LEN c) / 4)), tag := none }

/-- What GO does with the operands in force. -/
theorem operated_updGo (s : State) (c : Cls) {op a : Nat} (ho : op < 8) (ha : a < 256) :
    (s.operated c op a).updGo c ((s.operated c op a).get (perClass UPDATE.OP c)) ((s.operated c op a).get (perClass UPDATE.ARG c)) =
      if (s.ripe c UPDATE.OP).act 0x112 = false then s.operated c op a
      else if (s.ripe c UPDATE.OP).on UPDATE.BUSY then (s.operated c op a).set UPDATE.RESULT 11
      else (s.operated c op a).updIssue (updJobOf c op a (s.operated c op a)) := by
  obtain ⟨h1, h2⟩ := operated_operands s c ho ha
  have hagain : ((s.operated c op a).set (perClass UPDATE.OP c) ((s.operated c op a).get (perClass UPDATE.OP c))).set
      (perClass UPDATE.ARG c) ((s.operated c op a).get (perClass UPDATE.ARG c)) = s.operated c op a := set_operands_again ..
  unfold State.updGo
  simp only [hagain]
  have hact : (s.operated c op a).act 0x112 = (s.ripe c UPDATE.OP).act 0x112 := by
    rw [State.act, State.on, operated_get s c op a (.inl rfl)]
    rfl
  have hbusy : (s.operated c op a).on UPDATE.BUSY = (s.ripe c UPDATE.OP).on UPDATE.BUSY := by
    rw [State.on, operated_get s c op a (.inr rfl)]
    rfl
  rw [hact, hbusy, h1, h2, Nat.mod_eq_of_lt ho, Nat.mod_eq_of_lt ha]
  rfl

section
variable (ho : op < 8) (ha : a < 256) (h1 : s.takes c UPDATE.OP (2 ^ 31 + op * 2 ^ 8 + a) = true)
  (h2 : s.takes c UPDATE.ARG (2 ^ 31 + op * 2 ^ 8 + a) = true) (h3 : s.takes c UPDATE.GO (2 ^ 31 + op * 2 ^ 8 + a) = true)
include ho ha h1 h2 h3

theorem updOp_starts (hact : (s.ripe c UPDATE.OP 3).act 0x112 = true) (hb : (s.ripe c UPDATE.OP 3).on UPDATE.BUSY = false)
    (hm : (s.ripe c UPDATE.OP 3).mgmtDown = false) :
    s.updOp c op a = s.lands c UPDATE.OP [fun u => u.set (perClass UPDATE.OP c) op, fun u => u.set (perClass UPDATE.ARG c) a]
      [fun u => ({ u with updJobs := u.updJobs ++ [updJobOf c op a u] } : State).set UPDATE.BUSY 1] := by
  have hact : (s.ripe c UPDATE.OP).act 0x112 = true := hact
  have hb : (s.ripe c UPDATE.OP).on UPDATE.BUSY = false := hb
  refine updOp_lands ho ha h1 h2 h3 ?_ rfl rfl
  rw [operated_updGo s c ho ha, if_neg (by rw [hact]; decide), if_neg (by rw [hb]; decide), State.updIssue]
  exact if_neg (Bool.eq_false_iff.1 hm)

theorem updOp_busy (hact : (s.ripe c UPDATE.OP 3).act 0x112 = true) (hb : (s.ripe c UPDATE.OP 3).on UPDATE.BUSY = true) :
    s.updOp c op a = s.lands c UPDATE.OP [fun u => u.set (perClass UPDATE.OP c) op, fun u => u.set (perClass UPDATE.ARG c) a]
      [fun u => u.set UPDATE.RESULT 11] := by
  have hact : (s.ripe c UPDATE.OP).act 0x112 = true := hact
  have hb : (s.ripe c UPDATE.OP).on UPDATE.BUSY = true := hb
  refine updOp_lands ho ha h1 h2 h3 ?_ rfl rfl
  rw [operated_updGo s c ho ha, if_neg (by rw [hact]; decide), if_pos hb]

theorem updOp_off (hact : (s.ripe c UPDATE.OP 3).act 0x112 = false) :
    s.updOp c op a = s.lands c UPDATE.OP [fun u => u.set (perClass UPDATE.OP c) op, fun u => u.set (perClass UPDATE.ARG c) a]
      [fun u => u] := by
  have hact : (s.ripe c UPDATE.OP).act 0x112 = false := hact
  refine updOp_lands ho ha h1 h2 h3 ?_ rfl rfl
  rw [operated_updGo s c ho ha, if_pos hact]

end

end Sys2Proof.Machine
end

section
/-! PROOFS. The end of an operation of the UPDATE engine (O37, R399, R400): words of memory, the result, and what is published. -/

namespace Sys2Proof.Machine

variable {s t : State} {j : UpdJob}

/-! ### Ranges of memory -/

theorem read_cons (e : Host.Cell) (m : Memory) (k : Nat) : Memory.read (e :: m) k = if e.1 = k then e.2 else Memory.read m k := rfl

theorem read_append_left {m n : Memory} {k : Nat} (h : ∀ e ∈ n, e.1 ≠ k) : Memory.read (m ++ n) k = Memory.read m k := by
  induction m with
  | nil =>
    induction n with
    | nil => rfl
    | cons e n ih =>
      obtain ⟨he, hn⟩ := List.forall_mem_cons.1 h
      rw [List.nil_append] at ih ⊢
      rw [read_cons, if_neg he, ih hn]
  | cons e m ih => rw [List.cons_append, read_cons, read_cons, ih]

theorem read_append_right {m n : Memory} {k : Nat} (h : ∀ e ∈ m, e.1 ≠ k) : Memory.read (m ++ n) k = Memory.read n k := by
  induction m with
  | nil => rfl
  | cons e m ih =>
    obtain ⟨he, hm⟩ := List.forall_mem_cons.1 h
    rw [List.cons_append, read_cons, if_neg he, ih hm]

theorem read_filter {m : Memory} {k : Nat} {p : Nat → Bool} (h : p k = true) :
    Memory.read (m.filter (fun e => p e.1)) k = Memory.read m k := by
  induction m with
  | nil => rfl
  | cons e m ih =>
    by_cases he : e.1 = k
    · rw [List.filter_cons_of_pos (p := fun e : Host.Cell => p e.1) (by rw [he]; exact h), read_cons, read_cons, if_pos he, if_pos he]
    · rw [read_cons, if_neg he]
      by_cases hp : p e.1 = true
      · rw [List.filter_cons_of_pos (p := fun e : Host.Cell => p e.1) hp, read_cons, if_neg he, ih]
      · rw [List.filter_cons_of_neg (p := fun e : Host.Cell => p e.1) hp, ih]

/-- A range that is filled leaves the bytes outside it. -/
theorem read_fill_other {m : Memory} {lo len k : Nat} (v : BitVec 8) (h : k < lo ∨ lo + len ≤ k) :
    Memory.read (Memory.fill m lo len v) k = Memory.read m k := by
  have hmid : ∀ e ∈ (if v = 0 then [] else (List.range len).map (fun i => (lo + i, v)) : Memory), e.1 ≠ k := fun e he => by
    split at he
    · exact absurd he List.not_mem_nil
    · obtain ⟨i, hi, rfl⟩ := List.mem_map.1 he
      have := List.mem_range.1 hi
      show lo + i ≠ k
      omega
  unfold Memory.fill
  rcases h with h | h
  · have hhigh : ∀ e ∈ m.filter (fun e => decide (lo + len ≤ e.1)), e.1 ≠ k := fun e he => by
      have := of_decide_eq_true (List.mem_filter.1 he).2
      omega
    rw [read_append_left hhigh, read_append_left hmid]
    exact read_filter (p := fun a => decide (a < lo)) (decide_eq_true h)
  · have hlow : ∀ e ∈ m.filter (fun e => decide (e.1 < lo)), e.1 ≠ k := fun e he => by
      have := of_decide_eq_true (List.mem_filter.1 he).2
      omega
    rw [List.append_assoc, read_append_right hlow, read_append_right hmid]
    exact read_filter (p := fun a => decide (lo + len ≤ a)) (decide_eq_true h)

theorem setWords_cons (s : State) (a w : Nat) (ws : List Nat) : s.setWords a (w :: ws) = (s.setWord a w).setWords (a + 4) ws := by
  conv => lhs; unfold State.setWords

theorem read_setWords_other (ws : List Nat) {a b : Nat} (h : b < a ∨ a + 4 * ws.length ≤ b) :
    Memory.read (s.setWords a ws).mem b = Memory.read s.mem b := by
  induction ws generalizing s a with
  | nil => rfl
  | cons w ws ih =>
    rw [List.length_cons] at h
    have h1 : b < a + 4 ∨ a + 4 + 4 * ws.length ≤ b := by omega
    have h2 : b < a ∨ a + 4 ≤ b := by omega
    rw [setWords_cons, ih (s := s.setWord a w) h1]
    exact read_setWord_other s w h2

/-- The words of a range, as they are written. -/
theorem word_setWords {ws : List Nat} {a i : Nat} (h : i < ws.length) : (s.setWords a ws).word (a + 4 * i) = ws.getD i 0 % 2 ^ 32 := by
  induction ws generalizing s a i with
  | nil => exact absurd h (Nat.not_lt_zero _)
  | cons w ws ih =>
    rw [setWords_cons]
    cases i with
    | zero =>
      have hb : ∀ k, k < 4 → ((s.setWord a w).setWords (a + 4) ws).byte (a + k) = (s.setWord a w).byte (a + k) := fun k hk => by
        have hk' : a + k < a + 4 ∨ a + 4 + 4 * ws.length ≤ a + k := .inl (by omega)
        exact congrArg BitVec.toNat (read_setWords_other (s := s.setWord a w) ws hk')
      have hw : ((s.setWord a w).setWords (a + 4) ws).word a = (s.setWord a w).word a := by
        have h0 := hb 0 (by decide)
        have h0 : ((s.setWord a w).setWords (a + 4) ws).byte a = (s.setWord a w).byte a := h0
        rw [State.word, State.word, h0, hb 1 (by decide), hb 2 (by decide), hb 3 (by decide)]
      exact hw.trans (word_setWord_same ..)
    | succ i =>
      rw [show a + 4 * (i + 1) = a + 4 + 4 * i by omega, ih (s := s.setWord a w) (Nat.lt_of_succ_lt_succ h)]
      rfl

/-! ### Results -/

theorem updResult_lt (s : State) (j : UpdJob) (b : Bool) : s.updResult j b < 16 := by
  have hi : ∀ n, [0, 0, 6, 8, 7, 9, 10].getD n 0 < 16 := fun n => by
    rw [List.getD_eq_getElem?_getD]
    match n with
    | 0 | 1 | 2 | 3 | 4 | 5 | 6 => decide
    | n + 7 => simp
  have hf : (if s.writeOk = false then 4 else if b then 5 else 0) < 16 := by
    split
    · decide
    · split <;> decide
  unfold State.updResult
  dsimp only
  split
  · split <;> decide
  · split; · decide
    split; · decide
    split; · decide
    exact hf
  · split; · decide
    split; · decide
    split; · decide
    exact hi _
  · split; · decide
    split; · decide
    split; · decide
    exact hf
  · split; · decide
    split; · decide
    exact hf
  · split; · decide
    split <;> decide
  · split; · decide
    split; · decide
    split; · decide
    exact hf
  · decide

/-! ### What is published -/

/-- The fields that show the end of an operation. -/
def updShownKeys : List Nat := [UPDATE.BUSY.key, UPDATE.RESULT.key]

theorem updPublish_effect (s : State) {r : Nat} (hr : r < 16) (ht : j.tag = none) :
    (s.updPublish j r).recordless = s.recordless ∧ (s.updPublish j r).get UPDATE.RESULT = r ∧
      bitOf ((s.updPublish j r).get (HDR.EVT 0x112)) EV.UPDATE.UPD_DONE = true ∧
      SameRegs ([UPDATE.RESULT.key] ++ logKeys ++ evKeys 0x112) s (s.updPublish j r) := by
  unfold State.updPublish
  extract_lets t1 t2 t3
  rw [ht]
  show t3.recordless = _ ∧ t3.get _ = _ ∧ _ ∧ SameRegs _ s t3
  have h2r : t2.recordless = s.recordless := by
    show State.recordless (if _ then _ else _) = _
    split
    · rfl
    · rw [logHw_recordless]
      rfl
  have h1 : SameRegs ([UPDATE.RESULT.key] ++ logKeys ++ evKeys 0x112) s t1 := (SameRegs.refl s).set (by simp)
  have h12 : SameRegs logKeys t1 t2 := by
    show SameRegs logKeys t1 (if _ then _ else _)
    split
    · exact .refl t1
    · exact (SameRegs.refl t1).logAs fun _ h => h
  have h23 : SameRegs (evKeys 0x112) t2 t3 := (SameRegs.refl t2).raise fun _ h => h
  refine ⟨(recordless_raise ..).trans h2r, ?_, raise_sets _ _ (by decide), ?_⟩
  · rw [h23 _ (by decide), h12 _ (by decide)]
    exact (get_set_same ..).trans (Nat.mod_eq_of_lt hr)
  · exact (h1.trans (h12.mono fun _ h => by simp [h])).trans (h23.mono fun _ h => by simp [h])

/-- CHUNK writes no record. -/
theorem updPublish_chunk (s : State) (r : Nat) (ht : j.tag = none) (ho : j.op = 2) :
    SameRegs ([UPDATE.RESULT.key] ++ evKeys 0x112) s (s.updPublish j r) ∧ (s.updPublish j r).log = s.log := by
  unfold State.updPublish
  dsimp only
  rw [ht, if_pos ho]
  exact ⟨((SameRegs.refl s).set (by simp)).raise fun _ h => by simp [h], raise_log ..⟩

/-- The operation in progress has had its effect, and the next is in progress. -/
def State.updEnded (s : State) (l : List UpdJob) : State := ({ s with updJobs := l }.set UPDATE.BUSY (if l = [] then 0 else 1)).sendClear

/-- The end of an operation that asks for no restart. -/
theorem updDone_ended (b : Bool) (f : Nat) {l : List UpdJob} (h : s.updJobs = j :: l)
    (hr : s.updResult j b ≠ 0 ∨ j.op ≠ 4 ∨ j.arg % 4 = 0) :
    exec (.updDone b f) s = .next (((if s.updResult j b = 0 then s.updEffect j else s).updEnded l).updPublish j (s.updResult j b)) := by
  have hz : (if s.updResult j b = 0 ∧ j.op = 4 then j.arg % 4 else 0) = 0 := by
    split
    · tauto
    · rfl
  have hc : s.updComplete b =
      (0, ((if s.updResult j b = 0 then s.updEffect j else s).updEnded l).updPublish j (s.updResult j b)) := by
    unfold State.updComplete
    rw [h]
    exact congrArg (fun n => (n, _)) hz
  show Host.Outcome.next (s.updEnds b f) = _
  unfold State.updEnds
  rw [hc]
  rfl

/-- How the end of an operation leaves what `u` is when it has had its effect. -/
theorem updPublished (u : State) {r : Nat} (hr : r < 16) (ht : j.tag = none) (l : List UpdJob) :
    ((u.updEnded l).updPublish j r).updJobs = l ∧ ((u.updEnded l).updPublish j r).get UPDATE.RESULT = r ∧
      bitOf (((u.updEnded l).updPublish j r).get (HDR.EVT 0x112)) EV.UPDATE.UPD_DONE = true ∧
      ((u.updEnded l).updPublish j r).mem = u.mem ∧ ((u.updEnded l).updPublish j r).otp = u.otp ∧
      SameRegs (updShownKeys ++ logKeys ++ evKeys 0x112) u ((u.updEnded l).updPublish j r) := by
  obtain ⟨hrec, hres, hevt, hsame⟩ := updPublish_effect (u.updEnded l) hr ht
  have h0 : SameRegs (updShownKeys ++ logKeys ++ evKeys 0x112) u (u.updEnded l) :=
    SameRegs.of_regs ((SameRegs.of_regs (.refl u) rfl : SameRegs _ u { u with updJobs := l }).set (by simp [updShownKeys])) rfl
  refine ⟨(congrArg State.updJobs hrec :), hres, hevt, (congrArg State.mem hrec :), (congrArg State.otp hrec :), h0.trans (hsame.mono ?_)⟩
  intro k hk
  simp only [updShownKeys, List.mem_append, List.mem_cons, List.not_mem_nil, or_false] at hk ⊢
  tauto

end Sys2Proof.Machine
end

section
/-! PROOFS. The UPDATE engine (O37): what each operation's end leaves, and the statement. -/

namespace Sys2Proof.Machine

variable {s : State} {j : UpdJob} {l : List UpdJob} {b : Bool} {c : Cls} {op a : Nat}

/-- A failed operation has no effect. -/
theorem updDone_failed (h : s.updJobs = j :: l) (ht : j.tag = none) (f : Nat) (hr : s.updResult j b ≠ 0) :
    ∃ t : State, exec (.updDone b f) s = .next t ∧ t.updJobs = l ∧ t.get UPDATE.RESULT = s.updResult j b ∧
      bitOf (t.get (HDR.EVT 0x112)) EV.UPDATE.UPD_DONE = true ∧ t.mem = s.mem ∧ t.otp = s.otp ∧
      SameRegs (updShownKeys ++ logKeys ++ evKeys 0x112) s t := by
  refine ⟨_, updDone_ended b f h (.inl hr), ?_⟩
  rw [if_neg hr]
  exact updPublished s (updResult_lt s j b) ht l

/-- An operation that succeeds has its effect, and asks for no restart. -/
theorem updDone_good (h : s.updJobs = j :: l) (ht : j.tag = none) (f : Nat) (hr : s.updResult j b = 0) (ho : j.op ≠ 4 ∨ j.arg % 4 = 0) :
    ∃ t : State, exec (.updDone b f) s = .next t ∧ t.updJobs = l ∧ t.get UPDATE.RESULT = 0 ∧
      bitOf (t.get (HDR.EVT 0x112)) EV.UPDATE.UPD_DONE = true ∧ t.mem = (s.updEffect j).mem ∧ t.otp = (s.updEffect j).otp ∧
      SameRegs (updShownKeys ++ logKeys ++ evKeys 0x112) (s.updEffect j) t := by
  refine ⟨_, updDone_ended b f h (.inr ho), ?_⟩
  rw [hr, if_pos rfl]
  exact updPublished (s.updEffect j) (by decide) ht l

/-- What an operation leaves, where its effect changes the fields `ks`. -/
theorem sameRegs_effect {u t : State} {ks : List Nat} (hu : SameRegs ks s u) (ht : SameRegs (updShownKeys ++ logKeys ++ evKeys 0x112) u t) :
    SameRegs (updShownKeys ++ ks ++ logKeys ++ evKeys 0x112) s t := by
  refine (hu.mono fun k hk => ?_).trans (ht.mono fun k hk => ?_) <;> simp only [List.mem_append] at hk ⊢ <;> tauto

theorem setByte_regs (s : State) (a v : Nat) : (s.setByte a v).regs = s.regs ∧ (s.setByte a v).log = s.log := ⟨rfl, rfl⟩

theorem setWord_regs (s : State) (a v : Nat) : (s.setWord a v).regs = s.regs ∧ (s.setWord a v).log = s.log := by
  simp only [State.setWord, setByte_regs, and_self]

theorem setWords_regs (s : State) (a : Nat) (ws : List Nat) : (s.setWords a ws).regs = s.regs := by
  induction ws generalizing s a with
  | nil => rfl
  | cons w ws ih =>
    rw [setWords_cons, ih (s.setWord a w) (a + 4)]
    exact (setWord_regs ..).1

theorem dirWrite_regs (s : State) (p : Nat) (b : Bool) : (s.dirWrite p b).regs = s.regs := setWords_regs ..

/-- OPEN begins a session of its class on the slot of its argument. -/
theorem updEffect_open (ho : j.op = 1) : s.updEffect j =
    (((s.set UPDATE.OWNER j.cls.code).set UPDATE.TARGET (j.arg % 2)).set UPDATE.RECEIVED 0).set UPDATE.STATE 1 := by
  simp only [State.updEffect, ho]

theorem updResult_open (ho : j.op = 1) (hs : s.get UPDATE.STATE = 0) (hr : s.on MGMT.RUNNING = false ∨ j.arg % 2 ≠ s.get MGMT.SLOT) :
    s.updResult j b = 0 := by
  simp only [State.updResult, ho]
  refine if_neg ?_
  rw [hs]
  rcases hr with hr | hr
  · simp [hr]
  · simp [hr]

theorem updDone_open (f : Nat) (h : s.updJobs = j :: l) (ht : j.tag = none) (ho : j.op = 1) (hs : s.get UPDATE.STATE = 0)
    (hr : s.on MGMT.RUNNING = false ∨ j.arg % 2 ≠ s.get MGMT.SLOT) :
    ∃ t : State, exec (.updDone b f) s = .next t ∧ t.updJobs = l ∧ t.get UPDATE.RESULT = 0 ∧
      bitOf (t.get (HDR.EVT 0x112)) EV.UPDATE.UPD_DONE = true ∧ t.get UPDATE.OWNER = j.cls.code ∧
      t.get UPDATE.TARGET = j.arg % 2 ∧ t.get UPDATE.RECEIVED = 0 ∧ t.get UPDATE.STATE = 1 ∧ t.mem = s.mem ∧
      SameRegs ([UPDATE.BUSY.key, UPDATE.RESULT.key, UPDATE.OWNER.key, UPDATE.TARGET.key, UPDATE.RECEIVED.key, UPDATE.STATE.key] ++ logKeys ++ evKeys 0x112) s t := by
  obtain ⟨t, he, hj, hres, hevt, hm, -, hk⟩ := updDone_good (b := b) h ht f (updResult_open ho hs hr) (.inl (by rw [ho]; decide))
  rw [updEffect_open ho] at hm hk
  have hcode : j.cls.code < 2 ^ 4 := by cases j.cls <;> decide
  refine ⟨t, he, hj, hres, hevt, ?_, ?_, ?_, ?_, hm, sameRegs_effect (ks := [UPDATE.OWNER.key, UPDATE.TARGET.key, UPDATE.RECEIVED.key, UPDATE.STATE.key]) ?_ hk⟩
  · rw [hk _ (by decide), get_set_other _ _ (by decide), get_set_other _ _ (by decide), get_set_other _ _ (by decide), get_set_same]
    exact Nat.mod_eq_of_lt hcode
  · rw [hk _ (by decide), get_set_other _ _ (by decide), get_set_other _ _ (by decide), get_set_same]
    exact Nat.mod_eq_of_lt (Nat.mod_lt _ (by decide))
  · rw [hk _ (by decide), get_set_other _ _ (by decide), get_set_same]
    rfl
  · rw [hk _ (by decide), get_set_same]
    rfl
  · exact ((((SameRegs.refl s).set (by simp)).set (by simp)).set (by simp)).set (by simp)

/-- CHUNK of a class that does not own the session. -/
theorem updResult_notOwner (ho : j.op = 2) (hs : s.get UPDATE.STATE = 1) (hw : s.get UPDATE.OWNER ≠ j.cls.code) : s.updResult j b = 2 := by
  simp only [State.updResult, ho]
  exact if_pos ⟨by rw [hs]; decide, beq_eq_false_iff_ne.2 hw⟩

theorem updResult_chunk (ho : j.op = 2) (ht : j.tag = none) (hs : s.get UPDATE.STATE = 1) (hw : s.get UPDATE.OWNER = j.cls.code)
    (hok : s.writeOk = true) (hb : b = false) (h4 : j.len % 4 = 0) (h1 : 4 ≤ j.len) (h2 : j.len ≤ 3072)
    (hd : j.data.length = j.len / 4) (hofs : j.ofs = s.get UPDATE.RECEIVED) (hfit : j.ofs + j.len ≤ slotSize) : s.updResult j b = 0 := by
  have hmax : 3072 ≤ chunkMax j := by
    unfold chunkMax
    rw [ht]
    split
    · decide
    · split <;> decide
  have hgood : ¬(j.len < 4 ∨ chunkMax j < j.len ∨ j.len % 4 ≠ 0 ∨ j.data.length ≠ j.len / 4 ∨ j.ofs ≠ s.get UPDATE.RECEIVED
      ∨ slotSize < j.ofs + j.len) := by
    generalize slotSize = z at hfit
    omega
  simp only [State.updResult, ho]
  rw [if_neg (by rw [hw, beq_self_eq_true]; exact fun h => absurd h.2 (by decide)), if_neg (fun h => h hs), if_neg hgood,
    if_neg (by rw [hok]; decide), if_neg (by rw [hb]; decide)]

theorem updEffect_chunk (ho : j.op = 2) : s.updEffect j =
    (s.program (s.get UPDATE.TARGET) j.ofs j.len j.data).set UPDATE.RECEIVED (j.ofs + j.len) := by
  simp only [State.updEffect, ho]

theorem program_regs (s : State) (k ofs len : Nat) (d : List Nat) : (s.program k ofs len d).regs = s.regs := setWords_regs ..

theorem setWords_log (s : State) (a : Nat) (ws : List Nat) : (s.setWords a ws).log = s.log := by
  induction ws generalizing s a with
  | nil => rfl
  | cons w ws ih =>
    rw [setWords_cons, ih (s.setWord a w) (a + 4)]
    exact (setWord_regs ..).2

theorem program_log (s : State) (k ofs len : Nat) (d : List Nat) : (s.program k ofs len d).log = s.log := setWords_log ..

theorem program_word (s : State) (k ofs len : Nat) {d : List Nat} {i : Nat} (h : i < d.length) :
    (s.program k ofs len d).word (slotBase k + ofs + 4 * i) = d.getD i 0 % 2 ^ 32 := word_setWords h

/-- The bytes before a chunk, and those after the blocks that begin in it, are left. -/
theorem program_other (s : State) {k ofs len : Nat} {d : List Nat} {x : Nat} (hd : 4 * d.length = len)
    (h : x < slotBase k + ofs ∨ slotBase k + (ofs + len + 65535) / 65536 * 65536 ≤ x) :
    Memory.read (s.program k ofs len d).mem x = Memory.read s.mem x := by
  unfold State.program
  extract_lets first n t
  have hf : first = (ofs + 65535) / 65536 := rfl
  have hn : n = (ofs + len + 65535) / 65536 - first := rfl
  clear_value first n
  have hw : x < slotBase k + ofs ∨ slotBase k + ofs + 4 * d.length ≤ x := by
    generalize slotBase k = z at h ⊢
    omega
  have he : x < slotBase k + first * 0x10000 ∨ slotBase k + first * 0x10000 + n * 0x10000 ≤ x := by
    generalize slotBase k = z at h ⊢
    omega
  rw [read_setWords_other d hw]
  exact read_fill_other _ he

/-! ### VERIFY, ACTIVATE, CONFIRM, ABORT and RB_ADVANCE -/

theorem updResult_verify (ho : j.op = 3) (hs : s.get UPDATE.STATE = 1) (hw : s.get UPDATE.OWNER = j.cls.code) (hb : b = false)
    (hi : s.imageCheck (s.get UPDATE.TARGET) = 2) : s.updResult j b = 6 := by
  simp only [State.updResult, ho]
  rw [if_neg (by rw [hw, beq_self_eq_true]; exact fun h => absurd h.2 (by decide)), if_neg (fun h => h hs),
    if_neg (by rw [hb]; decide), hi]
  rfl

theorem updResult_activate (ho : j.op = 4) (hs : s.get UPDATE.STATE = 2) (hw : s.get UPDATE.OWNER = j.cls.code) (hb : b = false)
    (hok : s.writeOk = true) (ha : j.arg % 4 = 0) : s.updResult j b = 0 := by
  simp only [State.updResult, ho]
  rw [if_neg (by rw [hw, beq_self_eq_true]; exact fun h => absurd h.2 (by decide)), if_neg (fun h => h hs),
    if_neg (by rw [ha]; decide), if_neg (by rw [hok]; decide), if_neg (by rw [hb]; decide)]

theorem updEffect_activate (ho : j.op = 4) : s.updEffect j = (s.dirWrite (s.get UPDATE.TARGET) true).updIdle := by
  simp only [State.updEffect, ho]

theorem updResult_confirm (ho : j.op = 5) (hc : j.cls = .mgmt) (hr : s.on MGMT.RUNNING = true) (hs : s.get MGMT.SLOT = s.dirPref)
    (hb : b = false) (hok : s.writeOk = true) : s.updResult j b = 0 := by
  simp only [State.updResult, ho]
  rw [if_neg (by rw [hc]; decide), if_neg (by rw [hr]; exact fun h => h.elim (by decide) fun h => h hs),
    if_neg (by rw [hok]; decide), if_neg (by rw [hb]; decide)]

theorem updEffect_confirm (ho : j.op = 5) : s.updEffect j = s.dirWrite s.dirPref false := by
  simp only [State.updEffect, ho]

theorem updResult_abort (ho : j.op = 6) (hs : s.get UPDATE.STATE ≠ 0) (hw : s.get UPDATE.OWNER = j.cls.code ∨ j.cls = .mgmt) :
    s.updResult j b = 0 := by
  simp only [State.updResult, ho]
  rw [if_neg ?_, if_neg hs]
  rintro ⟨-, h1, h2⟩
  rcases hw with hw | hw
  · rw [hw, beq_self_eq_true] at h1
    exact absurd h1 (by decide)
  · rw [hw] at h2
    exact absurd h2 (by decide)

theorem updEffect_abort (ho : j.op = 6) (hs : s.get UPDATE.STATE ≠ 0) :
    s.updEffect j = (s.setWord (slotBase (s.get UPDATE.TARGET)) 0).updIdle := by
  simp only [State.updEffect, ho]
  exact if_neg hs

theorem updResult_rbAdvance (ho : j.op = 7) (hc : j.cls = .mgmt) (ht : s.dirTrial = false) (ha : j.arg % 64 ≤ s.get MGMT.RB_ACT)
    (hb : b = false) (hok : s.writeOk = true) : s.updResult j b = 0 := by
  simp only [State.updResult, ho]
  rw [if_neg (by rw [hc]; decide), if_neg (by rw [ht]; decide), if_neg (Nat.not_lt.2 ha), if_neg (by rw [hok]; decide),
    if_neg (by rw [hb]; decide)]

theorem updEffect_rbAdvance (ho : j.op = 7) : s.updEffect j =
    ({ s with otp := { s.otp with rb := max s.otp.rb (j.arg % 64) } }.set UPDATE.RB_CNT (max s.otp.rb (j.arg % 64))) := by
  simp only [State.updEffect, ho]

/-- CHUNK's words stand where they belong, and no record is written. -/
theorem updDone_chunk (f : Nat) (h : s.updJobs = j :: l) (ht : j.tag = none) (ho : j.op = 2) (hr : s.updResult j b = 0)
    (hd : 4 * j.data.length = j.len) (hfit : j.ofs + j.len ≤ slotSize) :
    ∃ t : State, exec (.updDone b f) s = .next t ∧ t.updJobs = l ∧ t.get UPDATE.RESULT = 0 ∧
      bitOf (t.get (HDR.EVT 0x112)) EV.UPDATE.UPD_DONE = true ∧ t.get UPDATE.RECEIVED = j.ofs + j.len ∧
      t.log.recs = s.log.recs ∧
      (∀ i, i < j.data.length → t.word (slotBase (s.get UPDATE.TARGET) + j.ofs + 4 * i) = j.data.getD i 0 % 2 ^ 32) ∧
      (∀ a : Nat, (a < slotBase (s.get UPDATE.TARGET) + j.ofs ∨ slotBase (s.get UPDATE.TARGET) + (j.ofs + j.len + 65535) / 65536 * 65536 ≤ a) →
        Memory.read t.mem a = Memory.read s.mem a) ∧
      SameRegs ([UPDATE.BUSY.key, UPDATE.RESULT.key, UPDATE.RECEIVED.key] ++ evKeys 0x112) s t := by
  set p : State := s.program (s.get UPDATE.TARGET) j.ofs j.len j.data with hp
  have he := updDone_ended b f h (.inr (.inl (by rw [ho]; decide)))
  rw [hr, if_pos rfl, updEffect_chunk ho, ← hp] at he
  obtain ⟨hj, hres, hevt, hmem, -, hall⟩ := updPublished (p.set UPDATE.RECEIVED (j.ofs + j.len)) (r := 0) (by decide) ht l
  obtain ⟨hk, hlog⟩ := updPublish_chunk ((p.set UPDATE.RECEIVED (j.ofs + j.len)).updEnded l) 0 ht ho
  have hpm : ((p.set UPDATE.RECEIVED (j.ofs + j.len)).updEnded l |>.updPublish j 0).mem = p.mem := hmem
  refine ⟨_, he, hj, hres, hevt, ?_, ?_, fun i hi => ?_, fun a ha => ?_, ?_⟩
  · rw [hall _ (by decide), get_set_same]
    exact Nat.mod_eq_of_lt (lt_of_le_of_lt hfit (by decide))
  · exact congrArg LogSt.recs (hlog.trans (program_log ..))
  · rw [word_of_mem hpm, hp, program_word _ _ _ _ hi]
  · rw [hpm, hp, program_other s hd ha]
  · have h0 : SameRegs [UPDATE.RECEIVED.key] s (p.set UPDATE.RECEIVED (j.ofs + j.len)) :=
      (SameRegs.of_regs (.refl s) (program_regs ..)).set (by simp)
    have h1 : SameRegs [UPDATE.BUSY.key] (p.set UPDATE.RECEIVED (j.ofs + j.len)) ((p.set UPDATE.RECEIVED (j.ofs + j.len)).updEnded l) :=
      SameRegs.of_regs ((SameRegs.of_regs (.refl _) rfl : SameRegs _ _ { p.set UPDATE.RECEIVED (j.ofs + j.len) with updJobs := l }).set
        (by simp)) rfl
    exact ((h0.mono fun _ h => by simp_all).trans (h1.mono fun _ h => by simp_all)).trans (hk.mono fun k h => by
      simp only [List.mem_append, List.mem_cons, List.not_mem_nil, or_false] at h ⊢
      tauto)

/-- An operation that a packet carries is issued. -/
theorem mgtUpdate_issues {ws : List Nat} {broken : Bool} {p : Packet} (hp : (s.sendClear.receiveAs 4 (some 2) ws broken).1 = some p)
    (hj : (s.sendClear.receiveAs 4 (some 2) ws broken).2.updJobs = [])
    (hact : (s.sendClear.receiveAs 4 (some 2) ws broken).2.act 0x112 = true)
    (hm : (s.sendClear.receiveAs 4 (some 2) ws broken).2.mgmtDown = false) :
    s.mgtUpdate ws broken = ({ (s.sendClear.receiveAs 4 (some 2) ws broken).2 with updJobs := [{ cls := .bb, op := bits p.w1 28 4, arg := bits p.w1 0 8, ofs := p.body.getD 0 0, len := p.body.getD 1 0, data := (p.body.drop 2).take (p.body.getD 1 0 / 4), tag := some (bits p.w1 16 8) }] } : State).set UPDATE.BUSY 1 := by
  unfold State.mgtUpdate
  generalize s.sendClear.receiveAs 4 (some 2) ws broken = r at hp hj hact hm
  obtain ⟨q, u⟩ := r
  obtain rfl : q = some p := hp
  have hj : u.updJobs = [] := hj
  dsimp only
  rw [hj, if_neg (by decide), if_neg (by rw [hact]; decide), State.updIssue, hj]
  exact if_neg (Bool.eq_false_iff.1 hm)

/-! ### The statement -/

/-- Settles O37: the page's word carries OP, ARG and GO; the end of an operation is its effect, if it has one, and what is published. -/
theorem updates : Obligations.Updates := by
  unfold Obligations.Updates
  refine ⟨fun s c a ha h1 h2 h3 hact hb hm => congrArg Host.Outcome.next (updOp_starts (by decide) ha h1 h2 h3 hact hb hm),
    fun s c a ha h1 h2 h3 hact hb => congrArg Host.Outcome.next (updOp_busy (by decide) ha h1 h2 h3 hact hb),
    fun s c a ha h1 h2 h3 hact => congrArg Host.Outcome.next (updOp_off (by decide) ha h1 h2 h3 hact),
    fun s c a ha h1 h2 h3 hact hb hm => congrArg Host.Outcome.next (updOp_starts (by decide) ha h1 h2 h3 hact hb hm),
    fun s c a ha h1 h2 h3 hact hb => congrArg Host.Outcome.next (updOp_busy (by decide) ha h1 h2 h3 hact hb),
    fun s c a ha h1 h2 h3 hact hb hm => congrArg Host.Outcome.next (updOp_starts (by decide) ha h1 h2 h3 hact hb hm),
    fun s c a ha h1 h2 h3 hact hb => congrArg Host.Outcome.next (updOp_busy (by decide) ha h1 h2 h3 hact hb),
    fun s c a ha h1 h2 h3 hact hb hm => congrArg Host.Outcome.next (updOp_starts (by decide) ha h1 h2 h3 hact hb hm),
    fun s c a ha h1 h2 h3 hact hb => congrArg Host.Outcome.next (updOp_busy (by decide) ha h1 h2 h3 hact hb),
    fun s c a ha h1 h2 h3 hact hb hm => congrArg Host.Outcome.next (updOp_starts (by decide) ha h1 h2 h3 hact hb hm),
    fun s c a ha h1 h2 h3 hact hb => congrArg Host.Outcome.next (updOp_busy (by decide) ha h1 h2 h3 hact hb),
    fun s c a ha h1 h2 h3 hact hb hm => congrArg Host.Outcome.next (updOp_starts (by decide) ha h1 h2 h3 hact hb hm),
    fun s c a ha h1 h2 h3 hact hb => congrArg Host.Outcome.next (updOp_busy (by decide) ha h1 h2 h3 hact hb),
    fun s c a ha h1 h2 h3 hact hb hm => congrArg Host.Outcome.next (updOp_starts (by decide) ha h1 h2 h3 hact hb hm),
    fun s c a ha h1 h2 h3 hact hb => congrArg Host.Outcome.next (updOp_busy (by decide) ha h1 h2 h3 hact hb),
    fun s b f h => ?_, fun s j l b f h ht ho hs hr => updDone_open f h ht ho hs hr,
    fun s j l b f h ht hr => updDone_failed h ht f hr, fun s j l b f h ht ho hs hw => ?_,
    fun s j l b f h ht ho hs hw hok hb h4 h1 h2 hd hofs hfit => ?_,
    fun s j l b f h ht ho hs hw hb hi => ?_, fun s j l b f h ht ho hs hw hb hok ha => ?_,
    fun s j l b f h ht ho hc hr hs hb hok => ?_, fun s j l b f h ht ho hs hw => ?_,
    fun s j l b f h ht ho hc htr ha hb hok => ?_, fun s ws b p hp hj hact hm => ?_⟩
  · show Host.Outcome.next (s.updEnds b f) = _
    unfold State.updEnds State.updComplete
    rw [h]
    rfl
  · have hr : s.updResult j b = 2 := updResult_notOwner ho hs hw
    obtain ⟨t, he, hj, hres, hevt, hmem, -, -⟩ := updDone_failed (b := b) h ht f (by rw [hr]; decide)
    exact ⟨t, he, hj, hres.trans hr, hevt, hmem⟩
  · exact updDone_chunk f h ht ho (updResult_chunk ho ht hs hw hok hb h4 h1 h2 hd hofs hfit) (by omega) hfit
  · have hr : s.updResult j b = 6 := updResult_verify ho hs hw hb hi
    obtain ⟨t, he, hj, hres, hevt, hmem, -, hk⟩ := updDone_failed (b := b) h ht f (by rw [hr]; decide)
    exact ⟨t, he, hj, hres.trans hr, hevt, (hk _ (by decide)).trans hs, hmem, hk⟩
  · obtain ⟨t, he, hj, hres, hevt, hmem, -, hk⟩ := updDone_good (b := b) h ht f (updResult_activate ho hs hw hb hok ha) (.inr ha)
    rw [updEffect_activate ho] at hmem hk
    refine ⟨t, he, hj, hres, hevt, ?_, hmem, sameRegs_effect (ks := [UPDATE.STATE.key]) ?_ hk⟩
    · rw [hk _ (by decide), State.updIdle, get_set_same]
      rfl
    · exact (SameRegs.of_regs (.refl s) (dirWrite_regs ..)).set (by simp)
  · obtain ⟨t, he, hj, hres, hevt, hmem, -, hk⟩ := updDone_good (b := b) h ht f (updResult_confirm ho hc hr hs hb hok)
      (.inl (by rw [ho]; decide))
    rw [updEffect_confirm ho] at hmem hk
    exact ⟨t, he, hj, hres, hevt, hmem, sameRegs_effect (ks := []) (.of_regs (.refl s) (dirWrite_regs ..)) hk⟩
  · obtain ⟨t, he, hj, hres, hevt, hmem, -, hk⟩ := updDone_good (b := b) h ht f (updResult_abort ho hs hw) (.inl (by rw [ho]; decide))
    rw [updEffect_abort ho hs] at hmem hk
    refine ⟨t, he, hj, hres, hevt, ?_, ?_, sameRegs_effect (ks := [UPDATE.STATE.key]) ?_ hk⟩
    · rw [hk _ (by decide), State.updIdle, get_set_same]
      rfl
    · rw [word_of_mem (t := s.setWord (slotBase (s.get UPDATE.TARGET)) 0) hmem, word_setWord_same]
      rfl
    · exact (SameRegs.of_regs (.refl s) (setWord_regs ..).1).set (by simp)
  · obtain ⟨t, he, hj, hres, hevt, hmem, hotp, hk⟩ := updDone_good (b := b) h ht f (updResult_rbAdvance ho hc htr ha hb hok)
      (.inl (by rw [ho]; decide))
    rw [updEffect_rbAdvance ho] at hmem hotp hk
    refine ⟨t, he, hj, hres, hevt, hotp, hmem, sameRegs_effect (ks := [UPDATE.RB_CNT.key]) ?_ hk⟩
    exact (SameRegs.of_regs (.refl s) rfl).set (by simp)
  · exact congrArg Host.Outcome.next (mgtUpdate_issues hp hj hact hm)

end Sys2Proof.Machine
end

section
/-! PROOFS. What passes with a tick (O46, O29): the functions of a tick keep the clocks, OTP, the queue of commands, and memory while no
capture segment is in progress. -/

namespace Sys2Proof.Machine

/-- No capture segment is in progress. -/
def State.Unrecording (s : State) : Prop := s.caps.all (fun k => k.seg.isNone) = true

theorem unrecording_cap {s : State} (h : s.Unrecording) (k : Nat) : (s.cap k).seg = none := by
  unfold State.cap
  rw [List.getD_eq_getElem?_getD]
  cases hk : s.caps[k]? with
  | none => rfl
  | some c => exact Option.isNone_iff_eq_none.1 (List.all_eq_true.1 h c (List.mem_of_getElem? hk))

theorem mem_upd {α : Type} {l : List α} {i : Nat} {f : α → α} {x : α} (h : x ∈ upd l i f) : x ∈ l ∨ ∃ y ∈ l, x = f y := by
  induction l generalizing i with
  | nil => exact .inl h
  | cons y l ih =>
    cases i with
    | zero =>
      rcases List.mem_cons.1 h with h | h
      · exact .inr ⟨y, List.mem_cons_self .., h⟩
      · exact .inl (List.mem_cons_of_mem _ h)
    | succ i =>
      rcases List.mem_cons.1 h with h | h
      · exact .inl (h ▸ List.mem_cons_self ..)
      · rcases ih h with h | ⟨z, hz, e⟩
        · exact .inl (List.mem_cons_of_mem _ h)
        · exact .inr ⟨z, List.mem_cons_of_mem _ hz, e⟩

theorem unrecording_upd {s : State} {k : Nat} {f : CapSt → CapSt} (hf : ∀ c : CapSt, c.seg = none → (f c).seg = none)
    (h : s.Unrecording) : (s.setCap k f).Unrecording := by
  refine List.all_eq_true.2 fun c hc => ?_
  rcases mem_upd (show c ∈ upd s.caps k f from hc) with hc | ⟨x, hx, rfl⟩
  · exact List.all_eq_true.1 h c hc
  · exact Option.isNone_iff_eq_none.2 (hf x (Option.isNone_iff_eq_none.1 (List.all_eq_true.1 h x hx)))

/-- `s` is `o` after what takes no time: the clocks, VAUX, OTP, what waits, the paths and the DMA channels are those of `o`, and so is
memory where no segment is in progress. -/
structure State.Still (o s : State) : Prop where
  ao : s.ao = o.ao
  tb : s.tb = o.tb
  tbRun : s.tbRun = o.tbRun
  otp : s.otp = o.otp
  pending : s.pending = o.pending
  pwr : s.pwr = o.pwr
  words : s.words = o.words
  acks : s.acks = o.acks
  paths : s.paths = o.paths
  dmas : s.dmas = o.dmas
  quiet : o.Unrecording → s.caps.all (fun k => k.seg.isNone) = true ∧ s.mem = o.mem

namespace State.Still

variable {o s t : State}

theorem refl (s : State) : s.Still s := ⟨rfl, rfl, rfl, rfl, rfl, rfl, rfl, rfl, rfl, rfl, fun h => ⟨h, rfl⟩⟩

/-- A change made under a condition, as `if c then t else s`. -/
theorem upon {c : Prop} {_ : Decidable c} (h : o.Still s) (f : o.Still s → o.Still t) : o.Still (if c then t else s) := by
  split
  · exact f h
  · exact h

/-- A change made unless a condition holds, as `if c then s else t`. -/
theorem except {c : Prop} {_ : Decidable c} (h : o.Still s) (f : o.Still s → o.Still t) : o.Still (if c then s else t) := by
  split
  · exact h
  · exact f h

theorem ite {c : Prop} {_ : Decidable c} (h : o.Still s) (ht : o.Still t) : o.Still (if c then s else t) := by
  split
  · exact h
  · exact ht

/-- `ite` where a branch answers a value and a state. -/
theorem ite₂ {α : Type} {p q : α × State} {c : Prop} {_ : Decidable c} (h : o.Still p.2) (ht : o.Still q.2) :
    o.Still (if c then p else q).2 := by
  split
  · exact h
  · exact ht

/-- `ite` where a branch answers two values and a state. -/
theorem ite₃ {α β : Type} {p q : α × β × State} {c : Prop} {_ : Decidable c} (h : o.Still p.2.2) (ht : o.Still q.2.2) :
    o.Still (if c then p else q).2.2 := by
  split
  · exact h
  · exact ht

theorem foldl {α : Type} {l : List α} {f : State → α → State} (h : o.Still s) (hf : ∀ {t a}, o.Still t → o.Still (f t a)) :
    o.Still (l.foldl f s) := by
  induction l generalizing s with
  | nil => exact h
  | cons a l ih => exact ih (hf h)

/-- `foldl` with a value carried beside the state. -/
theorem foldl₂ {α β : Type} {l : List β} {p : α × State} {f : α × State → β → α × State} (h : o.Still p.2)
    (hf : ∀ {q b}, o.Still q.2 → o.Still (f q b).2) : o.Still (l.foldl f p).2 := by
  induction l generalizing p with
  | nil => exact h
  | cons b l ih => exact ih (hf h)

/-- Other units change. They are written out for `s`, so that `rfl` compares field by field and never the two states. -/
theorem same (h : o.Still s) (e : (t.ao, t.tb, t.tbRun, t.otp, t.pending, t.pwr, t.words, t.acks, t.paths, t.dmas, t.caps, t.mem) =
    (s.ao, s.tb, s.tbRun, s.otp, s.pending, s.pwr, s.words, s.acks, s.paths, s.dmas, s.caps, s.mem)) : o.Still t := by
  simp only [Prod.mk.injEq] at e
  obtain ⟨h1, h2, h3, h4, h5, h6, h7, h8, h9, h10, h11, h12⟩ := e
  exact ⟨h1.trans h.ao, h2.trans h.tb, h3.trans h.tbRun, h4.trans h.otp, h5.trans h.pending, h6.trans h.pwr, h7.trans h.words,
    h8.trans h.acks, h9.trans h.paths, h10.trans h.dmas, fun ho => by rw [h11, h12]; exact h.quiet ho⟩

theorem set {l v} (h : o.Still s) : o.Still (s.set l v) :=
  { h with }

theorem count {l k} (h : o.Still s) : o.Still (s.count l k) :=
  h.set

theorem edit {l v} (h : o.Still s) : o.Still (s.edit l v) :=
  { h with }

theorem setBoth {l v} (h : o.Still s) : o.Still (s.setBoth l v) :=
  h.set.edit

theorem freeNat (h : o.Still s) : o.Still s.freeNat.2 :=
  { h with }

theorem queueEvt {p} (h : o.Still s) : o.Still (s.queueEvt p) := by
  unfold State.queueEvt
  split
  · exact .ite { h with } (.ite { h with } h.count)
  · exact .ite { h with } h.count

theorem deliver {pg b} (h : o.Still s) : o.Still (s.deliver pg b) :=
  .upon (h.upon fun h => { h with }) (·.queueEvt)

theorem raise {pg b} (h : o.Still s) : o.Still (s.raise pg b) :=
  .except { h with } fun h => .upon { h with } (·.deliver)

theorem logAs {cls type sev pg w4 w5 w6} (h : o.Still s) : o.Still (s.logAs cls type sev pg w4 w5 w6) := by
  unfold State.logAs
  extract_lets lost t1 r here ill t2 t3 recs l t4
  have h1 : o.Still t1 := h.upon (·.count.raise)
  have h2 : o.Still t2 := h1.except (·.count.raise)
  exact .set { h2 with }

theorem logHw {type sev pg w4 w5 w6} (h : o.Still s) : o.Still (s.logHw type sev pg w4 w5 w6) :=
  h.logAs

theorem logEvent {sev pg b} (h : o.Still s) : o.Still (s.logEvent sev pg b) :=
  h.logHw

theorem raiseLog {sev pg b} (h : o.Still s) : o.Still (s.raiseLog sev pg b) :=
  h.raise.logEvent

theorem setEcc {mem idx v} (h : o.Still s) : o.Still (s.setEcc mem idx v) :=
  { h with }

theorem eccNote {mem idx bit req ue} (h : o.Still s) : o.Still (s.eccNote mem idx bit req ue) :=
  h.set.set.set

theorem eccUE {mem idx req} (h : o.Still s) : o.Still (s.eccUE mem idx req) :=
  h.eccNote.count.set.raiseLog

theorem eccWholeWord {m i} (h : o.Still s) : o.Still (s.eccWholeWord m i) :=
  h.except fun h => h.setEcc.upon (·.count.raise)

theorem eccWhole {a} (h : o.Still s) : o.Still (s.eccWhole a) := by
  unfold State.eccWhole
  split
  · exact h
  · exact h.eccWholeWord

theorem setRx {n f} (h : o.Still s) : o.Still (s.setRx n f) :=
  { h with }

theorem setTx {n f} (h : o.Still s) : o.Still (s.setTx n f) :=
  { h with }

/-- A change of a port that leaves one without a segment without it. -/
theorem setCap {k f} (h : o.Still s) (hf : ∀ c : CapSt, c.seg = none → (f c).seg = none) : o.Still (s.setCap k f) :=
  { h with quiet := fun ho => ⟨unrecording_upd hf (h.quiet ho).1, (h.quiet ho).2⟩ }

/-- Where a segment was in progress, nothing is said of memory. -/
theorem setCap_recording {k f} (h : o.Still s) (ho : ¬o.Unrecording) : o.Still (s.setCap k f) :=
  { h with quiet := fun h => absurd h ho }

theorem setByte {a v} (h : o.Still s) (ho : ¬o.Unrecording) : o.Still (s.setByte a v) :=
  { h with quiet := fun h => absurd h ho }

theorem setWord {a v} (h : o.Still s) (ho : ¬o.Unrecording) : o.Still (s.setWord a v) :=
  (((h.setByte ho).setByte ho).setByte ho).setByte ho

theorem writeWhole {a ws} (h : o.Still s) (ho : ¬o.Unrecording) : o.Still (s.writeWhole a ws) := by
  induction ws generalizing s a with
  | nil => exact h
  | cons v t ih => exact ih (h.except (·.eccWhole.setWord ho))

theorem capPut {k p ws} (h : o.Still s) (ho : ¬o.Unrecording) : o.Still (s.capPut k p ws) := by
  induction ws generalizing s p with
  | nil => exact h
  | cons v t ih => exact ih (h.writeWhole ho)

theorem capEmit {k g ws} (h : o.Still s) (ho : ¬o.Unrecording) : o.Still (s.capEmit k g ws).2 :=
  .ite₂ h (h.capPut ho).set

theorem capSample {k g x} (h : o.Still s) (ho : ¬o.Unrecording) : o.Still (s.capSample k g x).2 :=
  .ite₂ h <| .ite₂ h (h.capEmit ho)

/-- Samples go to memory only where a segment is in progress. -/
theorem capTake {k e} (h : o.Still s) : o.Still (s.capTake k e) := by
  unfold State.capTake
  split
  · exact h
  next g hg =>
    have ho : ¬o.Unrecording := fun ho => by
      rw [unrecording_cap (h.quiet ho).1 k] at hg
      cases hg
    exact .setCap_recording (.foldl₂ (h.setCap_recording ho) fun h => .ite₂ (h.setCap_recording ho) (h.capSample ho)) ho

theorem capDisarm {k} (h : o.Still s) : o.Still (s.capDisarm k) :=
  h.set.setCap fun _ _ => rfl

theorem capFeeds {k xs} (h : o.Still s) : o.Still (s.capFeeds k xs) :=
  h.upon (·.setCap fun _ h => h)

theorem capDrain {k} (h : o.Still s) : o.Still (s.capDrain k) := by
  unfold State.capDrain
  dsimp only
  split
  · exact h.setCap fun _ h => h
  · split
    · exact h.upon (·.capTake)
    · exact h

theorem setThrDue {tx n v} (h : o.Still s) : o.Still (s.setThrDue tx n v) :=
  .ite h.setTx h.setRx

theorem thrSample {tx n x} (h : o.Still s) : o.Still (s.thrSample tx n x) :=
  h.except fun h => .ite (.ite h.setThrDue h.set) h.set

theorem setTap {t f} (h : o.Still s) : o.Still (s.setTap t f) :=
  { h with }

theorem setDpdPath {p f} (h : o.Still s) : o.Still (s.setDpdPath p f) :=
  { h with }

theorem setDpdJob {c j} (h : o.Still s) : o.Still (s.setDpdJob c j) :=
  { h with }

theorem dpdNote (h : o.Still s) : o.Still s.dpdNote := by
  unfold State.dpdNote
  split
  · exact h.set
  · exact h

theorem dpdLap (h : o.Still s) : o.Still s.dpdLap := by
  unfold State.dpdLap
  extract_lets ps s₁ s₂
  have h₁ : o.Still s₁ := h.set.count
  have h₂ : o.Still s₂ := h₁.raise
  exact h.upon fun _ => { h₂ with }

theorem dpdCapStop (h : o.Still s) : o.Still s.dpdCapStop :=
  h.foldl fun h => h.upon (·.capDisarm)

theorem dpdResult {p r} (h : o.Still s) : o.Still (s.dpdResult p r) := by
  refine .dpdNote <| .dpdLap <| .upon (h.set.set.setDpdPath.foldl fun h => ?_) (·.count.set.raise)
  split
  · exact h.upon fun h => (h.upon (·.dpdCapStop)).setDpdJob.set
  · exact h

theorem dpdToggle {p} (h : o.Still s) : o.Still (s.dpdToggle p) :=
  h.set

theorem dpdAbort {p} (h : o.Still s) : o.Still (s.dpdAbort p) :=
  h.except fun h => .ite h.dpdToggle.dpdResult h.dpdResult

theorem dpdLeave {p} (h : o.Still s) : o.Still (s.dpdLeave p) :=
  .ite h.dpdResult h.dpdAbort

theorem dpdVoid {c} (h : o.Still s) : o.Still (s.dpdVoid c) := by
  unfold State.dpdVoid
  split
  · exact h.upon (·.dpdCapStop.setDpdJob.raise)
  · exact h

theorem dpdWatchJob {c} (h : o.Still s) : o.Still (s.dpdWatchJob c) := by
  unfold State.dpdWatchJob
  split
  · exact h.upon (·.dpdVoid)
  · exact h

theorem dpdAim {p} (h : o.Still s) : o.Still (s.dpdAim p) :=
  (h.foldl (·.setBoth.setBoth.setTap)).setBoth.setDpdPath

theorem dpdWatchPath {p} (h : o.Still s) : o.Still (s.dpdWatchPath p) := by
  refine h.except fun h => ?_
  dsimp only
  split
  · exact ((h.upon (·.dpdAim)).except (·.setDpdPath)).setDpdPath
  · exact ((h.upon (·.dpdAim)).except (·.setDpdPath)).setDpdPath
  · exact (h.upon (·.dpdAim)).except (·.setDpdPath)

theorem dpdWatch (h : o.Still s) : o.Still s.dpdWatch :=
  (h.foldl (·.dpdWatchJob)).foldl (·.dpdWatchPath)

theorem setAtts {ps ls} (h : o.Still s) : o.Still (s.setAtts ps ls) :=
  (h.foldl (·.set)).foldl (·.set)

theorem frozenWritten {p v} (h : o.Still s) : o.Still (s.frozenWritten p v) :=
  have h₁ := h.set
  .ite h₁.dpdLeave.dpdLap.dpdNote h₁.dpdNote

theorem modelDamaged {p w} (h : o.Still s) : o.Still (s.modelDamaged p w) :=
  h.upon (·.setEcc.eccUE.frozenWritten.raise)

theorem modelScan {p} (h : o.Still s) : o.Still (s.modelScan p) :=
  h.except fun h => h.foldl fun h => h.upon (·.modelDamaged)

theorem dpdSwap {p} (h : o.Still s) : o.Still (s.dpdSwap p) :=
  h.dpdToggle.modelScan

theorem dpdBare {p} (h : o.Still s) : o.Still (s.dpdBare p) :=
  h.dpdSwap.dpdResult

theorem bareTick (h : o.Still s) : o.Still s.bareTick :=
  h.foldl fun h => h.upon (·.dpdBare)

theorem setSnd {f} (h : o.Still s) : o.Still (s.setSnd f) :=
  { h with }

theorem limiterSum {ys} (h : o.Still s) : o.Still (s.limiterSum ys) :=
  { h with }

theorem downlink (h : o.Still s) : o.Still s.downlink := by
  unfold State.downlink
  extract_lets vs ys zero s₁ m s₂
  have h₁ : o.Still s₁ := h.limiterSum
  clear_value s₁
  have h₂ : o.Still s₂ := { h₁ with }
  exact h.except fun _ => h₂.foldl (·.count.raise)

theorem cfrLimit {n} (h : o.Still s) : o.Still (s.cfrLimit n) :=
  h.except fun h => .raise { h with }

theorem cfrStep {d x} (h : o.Still s) : o.Still ((s.cfrStep d x).2.2) := by
  refine .ite₃ h ?_
  dsimp only
  split
  · exact .ite₂ h.count h.cfrLimit
  · exact h

theorem txFront {d} (h : o.Still s) : o.Still ((s.txFront d).2.2) :=
  .ite₃ h h.cfrStep

theorem txStep {d} (h : o.Still s) : o.Still ((s.txStep d).2) :=
  h.txFront.upon (·.count.raise)

theorem rxTick {pages} (h : o.Still s) : o.Still (s.rxTick pages) :=
  .foldl { h with } (·.count.raise)

theorem txTick {pages} (h : o.Still s) : o.Still (s.txTick pages) := by
  unfold State.txTick
  extract_lets m s₁ s₂ r
  have h₁ : o.Still s₁ := { h with }
  have h₂ : o.Still s₂ := h₁.downlink
  have hr : o.Still r.2 := .foldl₂ h₂ (·.txStep)
  clear_value r
  exact { hr with }

theorem uplink (h : o.Still s) : o.Still s.uplink :=
  h.except fun h => .foldl { h with } (·.count.raise)

theorem thrTick (h : o.Still s) : o.Still s.thrTick := by
  refine .foldl (h.foldl ?_) ?_
  all_goals
    intro t n h
    split
    · exact h.thrSample
    · exact h

theorem tapStart {t} (h : o.Still s) : o.Still (s.tapStart t) :=
  h.setTap

theorem tapTake {t x} (h : o.Still s) : o.Still (s.tapTake t x) :=
  h.setTap

theorem tapTick {t} (h : o.Still s) : o.Still (s.tapTick t) := by
  unfold State.tapTick
  refine .ite h.setTap ?_
  extract_lets s₁
  have h₁ : o.Still s₁ := h.tapStart
  split
  · exact h₁
  · refine .ite ?_ h₁.setTap.tapTake
    extract_lets x s₂
    have h₂ : o.Still s₂ := h₁.setTap
    split
    · exact h₂.tapTake
    · exact h₂

theorem capTick {k} (h : o.Still s) : o.Still (s.capTick k) := by
  refine h.except fun h => ?_
  split
  · exact h.capFeeds.capDrain
  · exact h

theorem sndHist (h : o.Still s) : o.Still s.sndHist :=
  { h with }

theorem sndTick (h : o.Still s) : o.Still s.sndTick :=
  have h₁ := h.sndHist
  .ite h₁.setSnd <| h₁.except (·.setSnd)

theorem arrCount {key} (h : o.Still s) : o.Still (s.arrCount key) :=
  { h with }

theorem arrTick (h : o.Still s) : o.Still s.arrTick :=
  h.except fun h => .upon { h with } fun h => .same (h.foldl (·.arrCount)) rfl

theorem attTick (h : o.Still s) : o.Still s.attTick := by
  unfold State.attTick
  split
  · exact h.except fun h => .setAtts { h with }
  · exact h

theorem streamTick (h : o.Still s) : o.Still s.streamTick :=
  h.except fun h => ((h.attTick.rxTick.txTick.uplink.thrTick.foldl (·.tapTick)).foldl (·.capTick)).sndTick.arrTick

theorem setCore {c f} (h : o.Still s) : o.Still (s.setCore c f) :=
  { h with }

theorem rateTick (h : o.Still s) : o.Still s.rateTick :=
  h.upon fun h => h.foldl (·.freeNat.set.setCore)

theorem setAge {f} (h : o.Still s) : o.Still (s.setAge f) :=
  { h with }

theorem writeWindow (h : o.Still s) : o.Still s.writeWindow :=
  h.except (·.set.raise)

theorem lifeTick (h : o.Still s) : o.Still s.lifeTick :=
  h.except fun h => h.setAge.except fun h => h.setAge.set.upon (·.setAge)

theorem slewHold (h : o.Still s) : o.Still s.slewHold :=
  { h with }

end State.Still

/-! ### A tick -/

variable {s : State}

/-- The clocks move on by a tick. -/
def State.ticked (s : State) : State :=
  { s with evtNow := [], ao := s.ao + 1, tb := if s.tbRun then (s.tb + 1) % 2 ^ 64 else s.tb }

theorem ticked_still (s : State) : s.ticked.Still s.tick := by
  have h : s.ticked.Still s.ticked.dpdWatch.slewHold := (State.Still.refl s.ticked).dpdWatch.slewHold
  show s.ticked.Still (match s.ticked.dpdWatch.slewHold.clk.resume with | some _ => _ | none => _)
  split
  · exact h.upon fun h => .set (.set { h with })
  · exact h

theorem idle_still (h : s.pwr.vaux = true) : s.streamTick.ticked.Still s.idle := by
  unfold State.idle
  rw [if_pos h]
  exact (ticked_still _).bareTick.rateTick.lifeTick.writeWindow

theorem idle_pwr (h : s.pwr.vaux = true) : s.idle.pwr = s.pwr :=
  (idle_still h).pwr.trans (State.Still.refl s).streamTick.pwr

theorem idle_ao (h : s.pwr.vaux = true) : s.idle.ao = s.ao + 1 :=
  (idle_still h).ao.trans (congrArg (· + 1) (State.Still.refl s).streamTick.ao)

/-- The always-on clock counts the ticks. -/
theorem afterTicks_ao (h : s.pwr.vaux = true) (n : Nat) : (s.afterTicks n).ao = s.ao + n ∧ (s.afterTicks n).pwr = s.pwr := by
  induction n with
  | zero => exact ⟨rfl, rfl⟩
  | succ n ih =>
    obtain ⟨ha, hp⟩ := ih
    have hv : (s.afterTicks n).pwr.vaux = true := by rw [hp, h]
    exact ⟨(idle_ao hv).trans (congrArg (· + 1) ha), (idle_pwr hv).trans hp⟩

/-- Settles O46: the functions of a tick are within `State.Still`, but for the clocks, which `State.ticked` moves on. -/
theorem emptyQueueTicks : Obligations.EmptyQueueTicks := by
  unfold Obligations.EmptyQueueTicks
  refine ⟨fun s hq hv => ?_, fun s hq hv => ?_⟩
  · have h0 := (State.Still.refl s).streamTick
    have h1 := idle_still hv
    refine ⟨s.idle, by rw [step, hq], idle_ao hv, ?_, fun hc => ?_, h1.otp.trans h0.otp, (h1.pending.trans h0.pending).trans hq⟩
    · rw [h1.tb, ← h0.tb, ← h0.tbRun]
      rfl
    · obtain ⟨hc', hm⟩ := h0.quiet hc
      exact (h1.quiet hc').2.trans hm
  · rw [step, hq]
    exact congrArg Host.Outcome.next (if_neg (by rw [hv]; decide))

end Sys2Proof.Machine
end

section
/-! PROOFS. Capture ports (O29, R341 to R350): their triggers' words, and what recording keeps. -/

namespace Sys2Proof.Machine

variable {s t u o : State} {c : Cls} {k : Nat}

/-! ### The words of a port -/

theorem highTrigger_capture {l : Loc} (hp : l.page = 0x0E8 + k) (hk : k < 8) (s : State) (c : Cls) (d a : Nat) :
    s.highTrigger c l d a = if l = CP.TRIG k then s.softTrig k a else if l = CP.DISARM k then s.capStop k
      else if l = CP.ARM k then s.softArm k else s := by
  have hne : ∀ m : Loc, m.page < 0x0E8 → l ≠ m := fun m hm e => by
    rw [← e] at hm
    omega
  unfold State.highTrigger
  dsimp only
  iterate 6 rw [if_neg (hne _ (by decide))]
  rw [if_pos (by omega), hp, Nat.add_sub_cancel_left]

theorem trigAct_capture {l : Loc} (ho : l.off = 0x07C) (hw : l.acc = .wo) (hp : l.page = 0x0E8 + k) (hk : k < 8) (s : State) (c : Cls)
    (d a : Nat) : s.trigAct c l d a = if l = CP.TRIG k then s.softTrig k a else if l = CP.DISARM k then s.capStop k
      else if l = CP.ARM k then s.softArm k else s := by
  have hne : l ≠ HDR.EVT l.page := fun e => by
    have h := congrArg Loc.off e
    rw [ho] at h
    exact absurd h (by simp [HDR.EVT])
  rw [State.trigAct, if_neg hne, if_neg (by rw [hw]; decide), if_neg (by omega), if_neg (by omega), highTrigger_capture hp hk]

theorem trigAct_arm (hk : k < 8) (s : State) (c : Cls) (d a : Nat) : s.trigAct c (CP.ARM k) d a = s.softArm k := by
  rw [trigAct_capture rfl rfl rfl hk, if_neg (by simp [CP.ARM, CP.TRIG]), if_neg (by simp [CP.ARM, CP.DISARM]), if_pos rfl]

theorem trigAct_disarm (hk : k < 8) (s : State) (c : Cls) (d a : Nat) : s.trigAct c (CP.DISARM k) d a = s.capStop k := by
  rw [trigAct_capture rfl rfl rfl hk, if_neg (by simp [CP.DISARM, CP.TRIG]), if_pos rfl]

theorem trigAct_softTrig (hk : k < 8) (s : State) (c : Cls) (d a : Nat) : s.trigAct c (CP.TRIG k) d a = s.softTrig k a := by
  rw [trigAct_capture rfl rfl rfl hk, if_pos rfl]

/-- The state with a segment in progress: of what is `Still` from it on nothing is said of memory. -/
def State.recording (s : State) : State :=
  { s with caps := [{ seg := some { no := 0, hdr := 0, pos := 0, trig := 0, frac := 0, cause := 0, forced := false, first := 0, lo := 0,
                                    stop := 0, preAct := 0 } }] }

theorem recording_not (s : State) : ¬s.recording.Unrecording := by
  intro h
  exact absurd (show false = true from h) (by decide)

theorem recording_still (s : State) : s.recording.Still s :=
  ⟨rfl, rfl, rfl, rfl, rfl, rfl, rfl, rfl, rfl, rfl, fun h => absurd h (recording_not s)⟩

namespace State.Still

theorem capClose {g} (h : o.Still s) (ho : ¬o.Unrecording) : o.Still (s.capClose k g).2 :=
  .ite₂ h (h.capEmit ho)

theorem capEnd {e last} (h : o.Still s) (ho : ¬o.Unrecording) : o.Still (s.capEnd k e last) := by
  unfold State.capEnd
  dsimp only
  split
  · exact h.capTake.upon (·.capDisarm)
  · exact
      have h₁ := (((h.capTake.capClose ho).except (·.capPut ho)).setCap_recording ho).set.count.raise
      .ite h₁.set.raise.capDisarm <| .ite h₁.capDisarm <| h₁.upon (·.raise.capDisarm)

theorem capMiss {cause} (h : o.Still s) : o.Still (s.capMiss k cause) :=
  .raise (.count (h.setCap fun _ h => h))

theorem capTrigger {cause t f} (h : o.Still s) (ho : ¬o.Unrecording) : o.Still (s.capTrigger k cause t f) := by
  refine h.except fun h => h.except fun h => ?_
  split
  · exact .ite (h.setCap_recording ho) <| h.except (·.capMiss)
  · exact .ite h.capMiss <| ((h.setCap_recording ho).upon (·.raise)).upon fun h => (h.capPut ho).set

theorem capArm {dpd} (h : o.Still s) : o.Still (s.capArm k dpd) :=
  h.except fun h => .ite h.raise <| .ite h.raise (h.setCap fun _ _ => rfl).set.set.set.set.set

end State.Still

/-- The word of a port's trigger that is taken: its effect, where that is `g`'s. -/
theorem capTrig_lands {l : Loc} {g : State → State} (hk : k < 8) (hp : l.page = 0x0E8 + k) (hl : Loc.arbitrated l = false)
    (h : s.triggered c l = true) (hg : (s.ripe c l).trigAct c l 0 s.ao = g (s.ripe c l))
    (hs : (s.ripe c l).recording.Still (g (s.ripe c l))) : s.rowTrig c l = s.lands c l [] [g] := by
  have hne : l ≠ TIMELINE0.ENQ_CODE := fun e => by
    rw [e] at hp
    simp only [TIMELINE0.ENQ_CODE] at hp
    omega
  rw [rowTrig_lands h hl hne (by omega) (by rw [hg]; exact hs.words) (by rw [hg]; exact hs.acks)]
  exact lands_trigger_congr hg

/-! ### Arming -/

/-- The page of a port is none of those whose events and counts recording changes. -/
theorem cp_ne_evt {l : Loc} (hp : l.page = 0x0E8 + k) (hk : k < 8) (ho : 0x02C ≤ l.off) (h1 : l.off < 4096) (h2 : l.lo < 32) :
    l.key ∉ evKeys (capPage k) := by
  simp only [evKeys, capPage, HDR.EVT, ERL1.EVT_LOST_CNT, Loc.key, List.mem_cons, List.not_mem_nil, or_false, not_or]
  omega

/-- An ARM that is refused by its source or region. -/
theorem softArm_failed {b : Nat} (hk : k < 8) (ha : s.capArm k false = s.raise (capPage k) b) (h : s.on (CP.ARMED k) = false)
    (hm : bitOf (s.get (CP.SRC_MASK k)) 0 = false) : s.softArm k = s.raise (capPage k) b := by
  have hr : SameRegs (evKeys (capPage k)) s (s.raise (capPage k) b) := (SameRegs.refl s).raise fun _ h => h
  have h1 : (s.raise (capPage k) b).get (CP.ARMED k) = s.get (CP.ARMED k) := hr _ (cp_ne_evt rfl hk (by simp [CP.ARMED]) (by simp [CP.ARMED]) (by simp [CP.ARMED]))
  have h2 : (s.raise (capPage k) b).get (CP.SRC_MASK k) = s.get (CP.SRC_MASK k) := hr _ (cp_ne_evt rfl hk (by simp [CP.SRC_MASK]) (by simp [CP.SRC_MASK]) (by simp [CP.SRC_MASK]))
  have h3 : (s.raise (capPage k) b).on (CP.ARMED k) = false := by rw [State.on, h1]; exact h
  unfold State.softArm
  rw [ha]
  dsimp only
  rw [if_neg (by rw [h3]; exact fun h => absurd h.1 (by decide)), if_neg (by rw [h2, hm]; exact fun h => absurd h.1 (by decide))]

theorem capArm_srcErr (ha : s.act (capPage k) = true) (h : 5 ≤ s.get (CP.SRC_KIND k)) (d : Bool) :
    s.capArm k d = s.raise (capPage k) EV.CP.SRC_ERR := by
  rw [State.capArm, if_neg (by rw [ha]; decide), if_pos h]

theorem capArm_regionErr (ha : s.act (capPage k) = true) (h : s.get (CP.SRC_KIND k) < 5) (hr : s.capRegionOk k = false) (d : Bool) :
    s.capArm k d = s.raise (capPage k) EV.CP.REGION_ERR := by
  rw [State.capArm, if_neg (by rw [ha]; decide), if_neg (Nat.not_le.2 h), if_pos hr]

/-- The fields that an arm sets. -/
def armKeys (k : Nat) : List Nat := [(CP.ARMED k).key, (CP.FULL k).key, (CP.SEG_NOW k).key, (CP.WR_PTR k).key, (CP.RD_PTR k).key]

/-- The port of an arm that starts. -/
def State.armed (s : State) (k : Nat) : State :=
  (((((s.setCap k (fun _ => { armAt := s.tb })).set (CP.ARMED k) 1).set (CP.FULL k) 0).set (CP.SEG_NOW k) 0).set (CP.WR_PTR k) 0).set
    (CP.RD_PTR k) 0

theorem armed_regs (s : State) (k : Nat) : SameRegs (armKeys k) s (s.armed k) := by
  have h0 : SameRegs (armKeys k) s (s.setCap k (fun _ => { armAt := s.tb })) := .of_regs (.refl s) rfl
  exact ((((h0.set (by simp [armKeys])).set (by simp [armKeys])).set (by simp [armKeys])).set (by simp [armKeys])).set (by simp [armKeys])

theorem armed_mem (s : State) (k : Nat) : (s.armed k).mem = s.mem := by
  simp only [State.armed, set_mem]
  rfl

theorem armed_cap (hc : s.caps.length = 8) (hk : k < 8) : (s.armed k).cap k = { armAt := s.tb } :=
  getD_upd_same _ _ _ (by omega)

theorem armed_get (s : State) (k : Nat) : (s.armed k).get (CP.ARMED k) = 1 ∧ (s.armed k).get (CP.FULL k) = 0 ∧
    (s.armed k).get (CP.SEG_NOW k) = 0 ∧ (s.armed k).get (CP.WR_PTR k) = 0 ∧ (s.armed k).get (CP.RD_PTR k) = 0 := by
  have hk : (CP.ARMED k).key = (CP.FULL k).key - 2 ∧ (CP.SEG_NOW k).key = (CP.FULL k).key + 14 ∧
      (CP.WR_PTR k).key = (CP.FULL k).key + 30 ∧ (CP.RD_PTR k).key = (CP.FULL k).key + 62 ∧ 2 ≤ (CP.FULL k).key := by
    refine ⟨?_, ?_, ?_, ?_, ?_⟩ <;> simp only [Loc.key, CP.ARMED, CP.FULL, CP.SEG_NOW, CP.WR_PTR, CP.RD_PTR] <;> omega
  obtain ⟨h1, h2, h3, h4, h5⟩ := hk
  unfold State.armed
  refine ⟨?_, ?_, ?_, ?_, ?_⟩
  · rw [get_set_other _ _ (by omega), get_set_other _ _ (by omega), get_set_other _ _ (by omega), get_set_other _ _ (by omega),
      get_set_same]
    rfl
  · rw [get_set_other _ _ (by omega), get_set_other _ _ (by omega), get_set_other _ _ (by omega), get_set_same]
    rfl
  · rw [get_set_other _ _ (by omega), get_set_other _ _ (by omega), get_set_same]
    rfl
  · rw [get_set_other _ _ (by omega), get_set_same]
    rfl
  · rw [get_set_same]
    rfl

theorem softArm_good (ha : s.act (capPage k) = true) (h : s.get (CP.SRC_KIND k) < 5) (hr : s.capRegionOk k = true)
    (hb : s.on (CP.BUF_MODE k) = false) (hm : bitOf (s.get (CP.SRC_MASK k)) 0 = false) : s.softArm k = s.armed k := by
  have hc : s.capArm k false = s.armed k := by
    rw [State.capArm, if_neg (by rw [ha]; decide), if_neg (Nat.not_le.2 h), if_neg (by rw [hr]; decide)]
    rfl
  have h1 : (s.armed k).on (CP.BUF_MODE k) = false := by
    rw [State.on, armed_regs s k _ (by simp [armKeys, Loc.key, CP.BUF_MODE, CP.ARMED, CP.FULL, CP.SEG_NOW, CP.WR_PTR, CP.RD_PTR]; omega)]
    exact hb
  have h2 : (s.armed k).get (CP.SRC_MASK k) = s.get (CP.SRC_MASK k) := by
    rw [armed_regs s k _ (by simp [armKeys, Loc.key, CP.SRC_MASK, CP.ARMED, CP.FULL, CP.SEG_NOW, CP.WR_PTR, CP.RD_PTR]; omega)]
  unfold State.softArm
  rw [hc]
  dsimp only
  rw [if_neg (by rw [h1]; exact fun h => absurd h.2.1 (by decide)), if_neg (by rw [h2, hm]; exact fun h => absurd h.1 (by decide))]

end Sys2Proof.Machine
end

section
/-! PROOFS. Capture triggers and segments (O29, R344 to R350). -/

namespace Sys2Proof.Machine

variable {s t u o : State} {c : Cls} {k cause tr f : Nat} {g : SegSt}

/-! ### Triggers -/

/-- A change of a port is what it makes of the port's state. -/
theorem setCap_congr {p q : CapSt → CapSt} (h : p (s.cap k) = q (s.cap k)) : s.setCap k p = s.setCap k q := by
  have hl : ∀ (l : List CapSt) (i : Nat), p (l.getD i {}) = q (l.getD i {}) → upd l i p = upd l i q := fun l => by
    induction l with
    | nil => exact fun _ _ => rfl
    | cons x l ih =>
      intro i h
      cases i with
      | zero => exact congrArg (· :: l) h
      | succ i => exact congrArg (x :: ·) (ih i h)
  exact congrArg (fun l => { s with caps := l }) (hl s.caps k h)

theorem cap_setCap (hk : k < s.caps.length) (p : CapSt → CapSt) : (s.setCap k p).cap k = p (s.cap k) := getD_upd_same _ _ _ hk

/-- A port that is left without a segment has none. -/
theorem seg_setCap_none (s : State) {p : CapSt → CapSt} (hp : ∀ c, (p c).seg = none) : ((s.setCap k p).cap k).seg = none := by
  by_cases hk : k < s.caps.length
  · rw [cap_setCap hk, hp]
  · have hl : (s.setCap k p).caps.length ≤ k := by
      rw [show (s.setCap k p).caps.length = s.caps.length from length_upd ..]
      omega
    rw [State.cap, List.getD_eq_default _ _ hl]

theorem length_setCap (s : State) (k : Nat) (p : CapSt → CapSt) : (s.setCap k p).caps.length = s.caps.length := length_upd ..

theorem setCap_setCap (s : State) (k : Nat) (p q : CapSt → CapSt) : (s.setCap k p).setCap k q = s.setCap k (fun c => q (p c)) := by
  have hl : ∀ (l : List CapSt) (i : Nat), upd (upd l i p) i q = upd l i (fun c => q (p c)) := fun l => by
    induction l with
    | nil => exact fun _ => rfl
    | cons x l ih =>
      intro i
      cases i with
      | zero => rfl
      | succ i => exact congrArg (x :: ·) (ih i)
  exact congrArg (fun l => { s with caps := l }) (hl s.caps k)

theorem setCap_id (s : State) (k : Nat) : s.setCap k (fun c => c) = s := by
  have hl : ∀ (l : List CapSt) (i : Nat), upd l i (fun c => c) = l := fun l => by
    induction l with
    | nil => exact fun _ => rfl
    | cons x l ih =>
      intro i
      cases i with
      | zero => rfl
      | succ i => exact congrArg (x :: ·) (ih i)
  exact congrArg (fun l => { s with caps := l }) (hl s.caps k)

section
variable (hs : s.on (CP.ARMED k) = true) (hw : s.on (CP.WIN_EN k) = false)
include hs hw

/-- An armed port without a window hears a trigger. -/
theorem capTrigger_heard (hb : s.on (CP.BUF_MODE k) = false) (hg : (s.cap k).seg = some g) :
    s.capTrigger k cause tr f = if g.trig = tr ∧ g.frac = f then s.setCap k (fun c => { c with seg := some { g with cause := min g.cause cause } })
      else s.capMiss k cause := by
  unfold State.capTrigger
  dsimp only
  rw [if_neg (by rw [hs]; decide), if_neg (by rw [hw]; exact fun h => Bool.noConfusion h.1), hg]
  dsimp only
  rw [if_neg (c := s.on (CP.BUF_MODE k) = true) (by rw [hb]; decide)]

/-- A trigger within 251 ticks of the last segment is a miss. -/
theorem capTrigger_rearm {e : Nat} (hg : (s.cap k).seg = none) (he : (s.cap k).segEnd = some e) (h : tr < e + 251) :
    s.capTrigger k cause tr f = s.capMiss k cause := by
  unfold State.capTrigger
  dsimp only
  rw [if_neg (by rw [hs]; decide), if_neg (by rw [hw]; exact fun h => Bool.noConfusion h.1), hg, he]
  exact if_pos (.inl (decide_eq_true h))

/-- The trigger sample of a trigger: the first of its source that is not before it. -/
def State.trigSample (s : State) (k tr f : Nat) : Nat :=
  (max (tr + (if f = 0 then 0 else 1)) (s.cap k).armAt + s.capL k - 1) / s.capL k * s.capL k

/-- The samples that a trigger finds held before it. -/
def State.heldBefore (s : State) (k x : Nat) : List Sample :=
  (s.cap k).feed.filter (fun y => decide ((s.cap k).armAt ≤ y.stamp ∧ y.stamp < x))

/-- How many of them a segment records. -/
def State.preOf (s : State) (k x : Nat) : Nat :=
  if (s.cap k).dpd then 0 else min (s.get (CP.PRE k) % 8192) (min 8191 (s.heldBefore k x).length)

/-- The segment that the first trigger of an arm opens. -/
def State.opened (s : State) (k cause tr f : Nat) : SegSt :=
  let x := s.trigSample k tr f
  let held := s.heldBefore k x
  let first := ((held.drop (held.length - s.preOf k x)).head?.map (fun y => y.stamp)).getD x
  { no := (s.cap k).segNo, hdr := (s.cap k).endPos, pos := (s.cap k).endPos + 32, trig := tr, frac := f, cause := cause,
    forced := cause == 7, first := first, lo := first, stop := x + orIf0 (s.get (CP.POST k) % 2 ^ 24) 1 * s.capL k,
    preAct := s.preOf k x, full := decide (s.on (CP.BUF_MODE k) = false ∧ s.capSize k < (s.cap k).endPos + 32) }

/-- What the first trigger of an arm makes of the port. -/
def State.openCap (s : State) (k cause tr f : Nat) (c : CapSt) : CapSt :=
  { c with seg := some (s.opened k cause tr f), lastTrig := some (s.trigSample k tr f), tbDone := c.tbDone || cause == 1 }

/-- The first trigger of an arm opens a segment. -/
theorem capTrigger_opens (hb : s.on (CP.BUF_MODE k) = false) (hg : (s.cap k).seg = none) (he : (s.cap k).segEnd = none)
    (hl : (s.cap k).lastTrig = none) (hc : cause ≠ 7) :
    s.capTrigger k cause tr f = s.setCap k (s.openCap k cause tr f) := by
  unfold State.capTrigger
  dsimp only
  rw [if_neg (by rw [hs]; decide), if_neg (by rw [hw]; exact fun h => Bool.noConfusion h.1), hg, he, hl]
  dsimp only
  rw [if_neg (by decide), if_neg (c := cause = 7) hc, if_neg (by
    show ¬State.on _ _ = true
    rw [show (s.setCap k _).on (CP.BUF_MODE k) = s.on (CP.BUF_MODE k) from rfl, hb]
    decide)]
  rfl

end

/-! ### What a port's records leave -/

/-- The number is that of a field of a capture page. -/
def capPageKey (n : Nat) : Prop := 0x0E8 * 32768 ≤ n ∧ n < 0x0F0 * 32768

/-- Words have been written to capture memory: the fields of the capture pages and the ports are as they were. -/
structure State.PortsKept (s t : State) : Prop where
  regs : ∀ l : Loc, capPageKey l.key → t.get l = s.get l
  caps : t.caps = s.caps

namespace State.PortsKept

theorem refl (s : State) : s.PortsKept s := ⟨fun _ _ => rfl, rfl⟩

theorem trans (h : s.PortsKept t) (h' : t.PortsKept u) : s.PortsKept u :=
  ⟨fun l hl => (h'.regs l hl).trans (h.regs l hl), h'.caps.trans h.caps⟩

theorem of_same {ks : List Nat} (h : SameRegs ks s t) (hk : ∀ n ∈ ks, ¬capPageKey n) (hc : t.caps = s.caps) : s.PortsKept t :=
  ⟨fun l hl => h l fun hm => hk _ hm hl, hc⟩

/-- The fields in which a healed word shows. -/
def healKeys (m : Nat) : List Nat := (ECC.HEAL_CNT m).key :: evKeys 0x118

theorem healKeys_out (m : Nat) : ∀ n ∈ healKeys m, ¬capPageKey n := by
  intro n hn
  simp only [healKeys, evKeys, List.mem_cons, List.not_mem_nil, or_false] at hn
  unfold capPageKey
  rcases hn with rfl | rfl | rfl
  · simp only [Loc.key, ECC.HEAL_CNT]
    omega
  · simp only [Loc.key, HDR.EVT]
    omega
  · simp only [Loc.key, ERL1.EVT_LOST_CNT]
    omega

theorem eccWholeWord (s : State) (m i : Nat) : s.PortsKept (s.eccWholeWord m i) := by
  unfold State.eccWholeWord
  dsimp only
  split
  · exact .refl s
  · have h1 : SameRegs (healKeys m) s (s.setEcc m i 0) := .of_regs (.refl s) rfl
    split
    · exact of_same ((h1.count (by simp [healKeys])).raise fun k hk => by simp [healKeys, hk]) (healKeys_out m)
        (congrArg State.caps (raise_eventless ((s.setEcc m i 0).count (ECC.HEAL_CNT m)) 0x118 EV.ECC.HEAL) :)
    · exact of_same h1 (healKeys_out m) rfl

theorem eccWhole (s : State) (a : Nat) : s.PortsKept (s.eccWhole a) := by
  unfold State.eccWhole
  split
  · exact .refl s
  · exact eccWholeWord ..

theorem setByte (s : State) (a v : Nat) : s.PortsKept (s.setByte a v) := ⟨fun _ _ => rfl, rfl⟩

theorem setWord (s : State) (a v : Nat) : s.PortsKept (s.setWord a v) :=
  (((setByte s _ _).trans (setByte _ _ _)).trans (setByte _ _ _)).trans (setByte _ _ _)

theorem writeWhole (s : State) (a : Nat) (ws : List Nat) : s.PortsKept (s.writeWhole a ws) := by
  induction ws generalizing s a with
  | nil => exact .refl s
  | cons v ws ih =>
    unfold State.writeWhole
    dsimp only
    have held : ∀ b : Bool, s.PortsKept (if b = true then s else (s.eccWhole a).setWord a v) := fun b => by
      cases b with
      | true => exact .refl s
      | false => exact (eccWhole s a).trans (setWord _ _ _)
    exact (held _).trans (ih _ _)

theorem capPut (s : State) (k p : Nat) (ws : List Nat) : s.PortsKept (s.capPut k p ws) := by
  induction ws generalizing s p with
  | nil => exact .refl s
  | cons v ws ih => exact (writeWhole s _ [v]).trans (ih ..)

end State.PortsKept

/-- Recording has gone on at port `k`: its count of segments and the number of ports are as they were. -/
structure State.Recorded (k : Nat) (s t : State) : Prop where
  count : t.get (CP.SEG_CNT k) = s.get (CP.SEG_CNT k)
  ports : t.caps.length = s.caps.length

namespace State.Recorded

theorem refl (s : State) : s.Recorded k s := ⟨rfl, rfl⟩

theorem trans (h : State.Recorded k s t) (h' : State.Recorded k t u) : State.Recorded k s u :=
  ⟨h'.count.trans h.count, h'.ports.trans h.ports⟩

theorem of_put (h : s.PortsKept t) (hk : k < 8) : s.Recorded k t := by
  refine ⟨h.regs _ ?_, congrArg List.length h.caps⟩
  simp only [capPageKey, Loc.key, CP.SEG_CNT]
  omega

theorem set (h : State.Recorded k s t) {l : Loc} {v : Nat} (hl : (CP.SEG_CNT k).key ≠ l.key) : State.Recorded k s (t.set l v) :=
  ⟨(get_set_other _ _ hl).trans h.count, h.ports⟩

theorem setCap (h : State.Recorded k s t) {p : CapSt → CapSt} : State.Recorded k s (t.setCap k p) :=
  ⟨h.count, (length_setCap ..).trans h.ports⟩

theorem capEmit (s : State) (g : SegSt) (ws : List Nat) (hk : k < 8) : s.Recorded k (s.capEmit k g ws).2 := by
  unfold State.capEmit
  split
  · exact .refl s
  · refine (of_put (.capPut s k g.pos ws) hk).set ?_
    simp only [Loc.key, CP.SEG_CNT, CP.WR_PTR]
    omega

theorem capSample (s : State) (g : SegSt) (x : Sample) (hk : k < 8) : s.Recorded k (s.capSample k g x).2 := by
  unfold State.capSample
  split
  · exact .refl s
  · dsimp only
    split
    · exact .refl s
    · exact capEmit s _ _ hk

theorem capClose (s : State) (g : SegSt) (hk : k < 8) : s.Recorded k (s.capClose k g).2 := by
  unfold State.capClose
  split
  · exact .refl s
  · exact capEmit s _ _ hk

end State.Recorded

/-- One sample of the feed is recorded, or lost in a full ring. -/
def capStep (k : Nat) (a : SegSt × State) (x : Sample) : SegSt × State :=
  if a.2.on (CP.BUF_MODE k) ∧ ((a.2.cap k).lost.isSome ∨ a.2.capFree k < 104) then
    (a.1, a.2.setCap k (fun c => { c with lost := match c.lost with
      | some (f, n) => some (f, n + 1)
      | none => some (x.stamp, 1) }))
  else a.2.capSample k a.1 x

/-- The samples that a segment still records, up to stamp `e`. -/
def State.due (s : State) (k e : Nat) (g : SegSt) : List Sample :=
  (s.cap k).feed.filter (fun x => decide (g.lo ≤ x.stamp ∧ x.stamp < e))

/-- The feed without them. -/
def State.unfed (s : State) (k e : Nat) : State := s.setCap k (fun c => { c with feed := c.feed.filter (fun x => decide (e ≤ x.stamp)) })

theorem capTake_some {e : Nat} (hg : (s.cap k).seg = some g) :
    s.capTake k e = ((s.due k e g).foldl (capStep k) (g, s.unfed k e)).2.setCap k
      (fun c => { c with seg := some ((s.due k e g).foldl (capStep k) (g, s.unfed k e)).1 }) := by
  unfold State.capTake
  rw [hg]
  rfl

namespace State.Recorded

/-- Recording leaves a segment in progress. -/
theorem capTake {e : Nat} (hg : (s.cap k).seg = some g) (hc : s.caps.length = 8) (hk : k < 8) :
    s.Recorded k (s.capTake k e) ∧ ((s.capTake k e).cap k).seg.isSome = true := by
  rw [capTake_some hg]
  have hr : s.Recorded k ((s.due k e g).foldl (capStep k) (g, s.unfed k e)).2 := by
    refine List.foldlRecOn (motive := fun a : SegSt × State => s.Recorded k a.2) _ _ (refl s).setCap fun a ha x _ => ?_
    unfold capStep
    split
    · exact ha.setCap
    · exact ha.trans (capSample a.2 a.1 x hk)
  refine ⟨hr.setCap, ?_⟩
  rw [cap_setCap (by rw [hr.ports]; omega)]
  rfl

end State.Recorded

/-- A segment has ended at port `k`, whose count of segments is `n`. -/
structure State.Ended (k n : Nat) (s : State) : Prop where
  seg : (s.cap k).seg = none
  count : s.get (CP.SEG_CNT k) = n
  done : bitOf (s.get (HDR.EVT (capPage k))) EV.CP.SEG_DONE = true

namespace State.Ended

variable {n : Nat}

theorem raise (h : s.Ended k n) (hk : k < 8) (b : Nat) : (s.raise (capPage k) b).Ended k n := by
  have hc : (s.raise (capPage k) b).caps = s.caps := (congrArg State.caps (raise_eventless s (capPage k) b) :)
  have hr : SameRegs (evKeys (capPage k)) s (s.raise (capPage k) b) := (SameRegs.refl s).raise fun _ h => h
  refine ⟨?_, ?_, raise_keeps_evt (by decide) h.done⟩
  · rw [State.cap, hc]
    exact h.seg
  · rw [hr _ (cp_ne_evt rfl hk (by simp [CP.SEG_CNT]) (by simp [CP.SEG_CNT]) (by simp [CP.SEG_CNT]))]
    exact h.count

/-- ARMED or FULL is written. -/
theorem set (h : s.Ended k n) {l : Loc} (hl : l = CP.ARMED k ∨ l = CP.FULL k) (v : Nat) : (s.set l v).Ended k n := by
  have h1 : (CP.SEG_CNT k).key ≠ l.key := by
    rcases hl with rfl | rfl <;> simp only [Loc.key, CP.SEG_CNT, CP.ARMED, CP.FULL] <;> omega
  have h2 : (HDR.EVT (capPage k)).key ≠ l.key := by
    rcases hl with rfl | rfl <;> simp only [Loc.key, HDR.EVT, capPage, CP.ARMED, CP.FULL] <;> omega
  exact ⟨h.seg, (get_set_other _ _ h1).trans h.count, by rw [get_set_other _ _ h2]; exact h.done⟩

theorem capDisarm (h : s.Ended k n) : (s.capDisarm k).Ended k n := by
  obtain ⟨-, hcount, hdone⟩ := h.set (.inl rfl) 0
  exact ⟨seg_setCap_none _ fun _ => rfl, hcount, hdone⟩

end State.Ended

/-- The state in which the segment in progress has its last record and its header. -/
def State.segClosed (s : State) (k : Nat) (g : SegSt) : State :=
  let r := s.capClose k g
  if r.2.on (CP.BUF_MODE k) then r.2 else r.2.capPut k r.1.hdr (r.2.segHeader k r.1 (r.1.pos - r.1.hdr) r.1.nsamp)

/-- What the end of a segment at stamp `e` makes of the port. -/
def segEnds (e pos : Nat) (c : CapSt) : CapSt := { c with seg := none, segEnd := some e, endPos := pos, segNo := c.segNo + 1 }

/-- The segment is counted and reported. -/
def State.segCounted (s : State) (k e pos : Nat) : State :=
  let s := s.setCap k (segEnds e pos)
  ((s.set (CP.SEG_NOW k) (s.cap k).segNo).count (CP.SEG_CNT k)).raise (capPage k) EV.CP.SEG_DONE

theorem capEnd_some {e : Nat} (hg : ((s.capTake k e).cap k).seg = some g) : ∃ (b : Bool) (m : Nat),
    let t := ((s.capTake k e).segClosed k g).segCounted k e ((s.capTake k e).capClose k g).1.pos
    s.capEnd k e false = if b then ((t.set (CP.FULL k) 1).raise (capPage k) EV.CP.FULL).capDisarm k
      else if m ≤ (t.cap k).segNo then (t.raise (capPage k) EV.CP.ARM_DONE).capDisarm k else t := by
  unfold State.capEnd
  dsimp only
  rw [hg]
  exact ⟨_, _, rfl⟩

theorem segClosed_recorded (s : State) (g : SegSt) (hk : k < 8) : s.Recorded k (s.segClosed k g) := by
  have h := State.Recorded.capClose s g hk
  unfold State.segClosed
  dsimp only
  split
  · exact h
  · exact h.trans (.of_put (.capPut _ _ _ _) hk)

theorem segCounted_ended (e pos : Nat) (hk : k < 8) (s : State) :
    (s.segCounted k e pos).Ended k (min (2 ^ 32 - 1) (s.get (CP.SEG_CNT k) + 1)) := by
  set u := s.setCap k (segEnds e pos) with hu
  have hseg : (u.cap k).seg = none := seg_setCap_none _ fun _ => rfl
  have hnow : (CP.SEG_CNT k).key ≠ (CP.SEG_NOW k).key := by
    simp only [Loc.key, CP.SEG_CNT, CP.SEG_NOW]
    omega
  have hcnt : ((u.set (CP.SEG_NOW k) (u.cap k).segNo).count (CP.SEG_CNT k)).get (CP.SEG_CNT k) =
      min (2 ^ 32 - 1) (s.get (CP.SEG_CNT k) + 1) := by
    rw [State.count, get_set_same, get_set_other _ _ hnow]
    exact Nat.mod_eq_of_lt (Nat.lt_of_le_of_lt (Nat.min_le_left _ _) (show 2 ^ 32 - 1 < 2 ^ 32 by decide))
  have hr := raise_eventless ((u.set (CP.SEG_NOW k) (u.cap k).segNo).count (CP.SEG_CNT k)) (capPage k) EV.CP.SEG_DONE
  refine ⟨?_, ?_, raise_sets _ _ (by decide)⟩
  · exact (congrArg (fun t : State => (t.cap k).seg) hr :).trans hseg
  · have hs : SameRegs (evKeys (capPage k)) ((u.set (CP.SEG_NOW k) (u.cap k).segNo).count (CP.SEG_CNT k)) (s.segCounted k e pos) :=
      (SameRegs.refl _).raise fun _ h => h
    rw [hs _ (cp_ne_evt rfl hk (by simp [CP.SEG_CNT]) (by simp [CP.SEG_CNT]) (by simp [CP.SEG_CNT]))]
    exact hcnt

/-- The segment in progress ends: it is counted and reported. -/
theorem capEnd_ended {e : Nat} (hg : (s.cap k).seg = some g) (hc : s.caps.length = 8) (hk : k < 8) :
    (s.capEnd k e false).Ended k (min (2 ^ 32 - 1) (s.get (CP.SEG_CNT k) + 1)) := by
  obtain ⟨htake, hseg⟩ := State.Recorded.capTake (e := e) hg hc hk
  obtain ⟨g₁, hg₁⟩ := Option.isSome_iff_exists.1 hseg
  have hcount := (htake.trans (segClosed_recorded _ g₁ hk)).count
  have h := segCounted_ended e ((s.capTake k e).capClose k g₁).1.pos hk ((s.capTake k e).segClosed k g₁)
  rw [hcount] at h
  obtain ⟨b, m, he⟩ := capEnd_some hg₁
  rw [he]
  split
  · exact ((h.set (.inr rfl) 1).raise hk _).capDisarm
  · split
    · exact (h.raise hk _).capDisarm
    · exact h

/-! ### Gaps -/

theorem capTake_none {e : Nat} (h : (s.cap k).seg = none) : s.capTake k e = s := by
  unfold State.capTake
  rw [h]

/-- With nothing to record up to stamp `e`, recording changes nothing. -/
theorem capTake_early {e : Nat} (hg : (s.cap k).seg = some g) (h : ∀ x ∈ (s.cap k).feed, e ≤ x.stamp) : s.capTake k e = s := by
  have hdue : s.due k e g = [] := by
    refine List.filter_eq_nil_iff.2 fun x hx => ?_
    have := h x hx
    simp only [decide_eq_true_eq, not_and, Nat.not_lt]
    exact fun _ => this
  have hfeed : (s.cap k).feed.filter (fun x => decide (e ≤ x.stamp)) = (s.cap k).feed :=
    List.filter_eq_self.2 fun x hx => decide_eq_true (h x hx)
  rw [capTake_some hg, hdue, List.foldl_nil, State.unfed, setCap_setCap]
  calc _ = s.setCap k (fun c => c) := setCap_congr (by rw [hfeed, ← hg])
    _ = s := setCap_id s k

/-- A port without a segment notes no gap. -/
theorem capGap_none {first resume : Nat} (hg : (s.cap k).seg = none) (hf : (s.cap k).feed = []) (hl : (s.cap k).lost = none) :
    s.capGap k first resume = s.setCap k (fun c => c) := by
  have he : s.setCap k (fun c => { c with feed := c.feed.filter (fun x => decide (resume ≤ x.stamp)) }) = s := by
    refine (setCap_congr ?_).trans (setCap_id s k)
    rw [hf, List.filter_nil, ← hf]
  unfold State.capGap
  rw [capTake_none hg]
  dsimp only
  rw [he, hg, hl, setCap_id]

/-- The words of a gap record. -/
def gapWords (k lost first resume : Nat) : List Nat :=
  [2 ^ 29 + k * 2 ^ 25, 0, min lost (2 ^ 32 - 1), first % 2 ^ 32, first / 2 ^ 32, resume % 2 ^ 32, resume / 2 ^ 32, 0]

/-- Samples of the feed that were lost make a gap record in a ring. -/
theorem capGap_lost {first resume : Nat} (hc : s.caps.length = 8) (hk : k < 8) (hg : (s.cap k).seg = some g)
    (hall : ∀ x ∈ (s.cap k).feed, first ≤ x.stamp ∧ x.stamp < resume) (hne : (s.cap k).feed ≠ []) (hl : (s.cap k).lost = none)
    (hb : g.block = []) (hm : s.on (CP.BUF_MODE k) = true) :
    s.capGap k first resume = ((((((s.setCap k (fun c => { c with feed := [] })).capPut k g.pos
      (gapWords k (s.cap k).feed.length first resume)).set
      (CP.WR_PTR k) ((g.pos + 32) % max 1 (s.capSize k))).setCap k (fun c => { c with seg := some { g with pos := g.pos + 32, bad := true } })).count
      (CP.LOST_CNT k) (s.cap k).feed.length).count (CP.GAP_CNT k)).raise (capPage k) EV.CP.GAP := by
  have hn : ((s.cap k).feed.filter (fun x => decide (x.stamp < resume))).length = (s.cap k).feed.length := by
    rw [List.filter_eq_self.2 fun x hx => decide_eq_true (hall x hx).2]
  have hfed : s.setCap k (fun c => { c with feed := c.feed.filter (fun x => decide (resume ≤ x.stamp)) }) =
      s.setCap k (fun c => { c with feed := [] }) := by
    refine setCap_congr ?_
    rw [List.filter_eq_nil_iff.2 fun x hx => by
      have := (hall x hx).2
      simp only [decide_eq_true_eq, Nat.not_le]
      exact this]
  have hcap : (s.setCap k (fun c => { c with feed := [] })).cap k = { s.cap k with feed := [] } := cap_setCap (by omega) _
  have hpos : (s.cap k).feed.length ≠ 0 := fun h => hne (List.length_eq_zero_iff.1 h)
  have hclose : ∀ u : State, u.capClose k { g with bad := true } = ({ g with bad := true }, u) := fun u => by
    rw [State.capClose, if_pos (.inl (by rw [hb]; rfl))]
    simp only [← hb]
  unfold State.capGap
  rw [capTake_early hg fun x hx => (hall x hx).1]
  dsimp only
  rw [hn, hfed, hcap]
  dsimp only
  rw [hl, hg]
  dsimp only
  rw [if_neg (by rintro (h | ⟨h, -⟩); exacts [hpos h, Bool.noConfusion h]), hclose]
  dsimp only
  set u := s.setCap k (fun c => { c with feed := [] }) with hu
  set p := u.capPut k g.pos (gapWords k (s.cap k).feed.length first resume) with hp
  have hput : u.PortsKept p := .capPut ..
  have hsize : p.capSize k = s.capSize k :=
    congrArg (· * 4096) (hput.regs _ (by simp only [capPageKey, Loc.key, CP.SIZE]; omega))
  have hlost : (p.cap k).lost = none := by
    rw [State.cap, hput.caps]
    exact (congrArg CapSt.lost hcap).trans hl
  have hemit : u.capEmit k { g with bad := true } (gapWords k (s.cap k).feed.length first resume) =
      ({ g with pos := g.pos + 32, bad := true }, p.set (CP.WR_PTR k)
        ((g.pos + 32) % max 1 (s.capSize k))) := by
    rw [State.capEmit, if_neg (by rw [show u.on (CP.BUF_MODE k) = s.on (CP.BUF_MODE k) from rfl, hm]; exact fun h => Bool.noConfusion h.1)]
    dsimp only
    rw [← hsize]
    rfl
  have hset : ∀ x : SegSt, (p.set (CP.WR_PTR k)
        ((g.pos + 32) % max 1 (s.capSize k))).setCap k (fun c => { c with seg := some x, lost := none }) =
      (p.set (CP.WR_PTR k)
        ((g.pos + 32) % max 1 (s.capSize k))).setCap k (fun c => { c with seg := some x }) := fun x => setCap_congr (by
    show ({ p.cap k with seg := some x, lost := none } : CapSt) = _
    rw [← hlost]
    rfl)
  rw [← hset]
  unfold gapWords at hemit
  rw [hemit]

/-! ### The statement -/

/-- The tick at which a software trigger acts is 8 after its arrival. -/
theorem ripe_ao (h : s.deaf = false) (c : Cls) (l : Loc) : (s.ripe c l).ao = s.ao + 8 := by
  have hv : s.pwr.vaux = true := by
    cases hv : s.pwr.vaux with
    | true => rfl
    | false => simp [State.deaf, hv] at h
  exact (afterTicks_ao hv 8).1

theorem triggered_deaf {l : Loc} {d : Nat} (h : s.triggered c l d = true) : s.deaf = false := (quiet_parts (takes_iff.1 h).1).2.2.2

theorem exec_arm_lands {w : State → State} (hk : k < 8) (h : s.triggered c (CP.ARM k) = true)
    (hg : (s.ripe c (CP.ARM k)).softArm k = w (s.ripe c (CP.ARM k))) (hs : (s.ripe c (CP.ARM k)).recording.Still (w (s.ripe c (CP.ARM k)))) :
    exec (.arm c k) s = .next (s.lands c (CP.ARM k) [] [w]) := by
  rw [exec_arm, execArm, capTrig_lands hk rfl rfl h ((trigAct_arm hk ..).trans hg) hs]

theorem exec_disarm_lands {w : State → State} (hk : k < 8) (h : s.triggered c (CP.DISARM k) = true)
    (hg : (s.ripe c (CP.DISARM k)).capStop k = w (s.ripe c (CP.DISARM k)))
    (hs : (s.ripe c (CP.DISARM k)).recording.Still (w (s.ripe c (CP.DISARM k)))) :
    exec (.disarm c k) s = .next (s.lands c (CP.DISARM k) [] [w]) := by
  rw [exec_disarm, execDisarm, capTrig_lands hk rfl rfl h ((trigAct_disarm hk ..).trans hg) hs]

theorem exec_softTrig_lands {w : State → State} (hk : k < 8) (h : s.triggered c (CP.TRIG k) = true)
    (hg : (s.ripe c (CP.TRIG k)).softTrig k s.ao = w (s.ripe c (CP.TRIG k)))
    (hs : (s.ripe c (CP.TRIG k)).recording.Still (w (s.ripe c (CP.TRIG k)))) :
    exec (.captureSoftTrig c k) s = .next (s.lands c (CP.TRIG k) [] [w]) := by
  rw [exec_captureSoftTrig, execCaptureSoftTrig, capTrig_lands hk rfl rfl h ((trigAct_softTrig hk ..).trans hg) hs]

theorem exec_captureTrigger_source {fr : Nat} (h : s.capSource k cause fr = some (tr, f)) :
    exec (.captureTrigger k cause fr) s = .next (s.capTrigger k cause tr f) := by
  rw [exec_captureTrigger, execCaptureTrigger, State.captureTrigger, h]

/-- No source is the lapse of AUTO_TO. -/
theorem capSource_cause {fr : Nat} (h : s.capSource k cause fr = some (tr, f)) : cause ≠ 7 := by
  rintro rfl
  have h : (none : Option (Nat × Nat)) = some (tr, f) := h
  cases h

theorem capL_pos (s : State) (k : Nat) : 0 < s.capL k := by
  unfold State.capL
  split
  · positivity
  · decide
  · decide

/-- The trigger sample of a trigger that is not before the arm. -/
theorem trigSample_after (f : Nat) (h : (s.cap k).armAt ≤ tr) :
    s.trigSample k tr f = (tr + (if f = 0 then 0 else 1) + s.capL k - 1) / s.capL k * s.capL k := by
  rw [State.trigSample, Nat.max_eq_left (h.trans (Nat.le_add_right ..))]

/-- The trigger sample is not before the trigger. -/
theorem trigSample_ge (k f : Nat) (h : (s.cap k).armAt ≤ tr) : tr ≤ s.trigSample k tr f := by
  rw [trigSample_after f h]
  have hp := capL_pos s k
  generalize s.capL k = n at hp
  have hd := Nat.div_add_mod (tr + (if f = 0 then 0 else 1) + n - 1) n
  have hm := Nat.mod_lt (tr + (if f = 0 then 0 else 1) + n - 1) hp
  rw [Nat.mul_comm] at hd
  generalize (tr + (if f = 0 then 0 else 1) + n - 1) / n * n = q at hd ⊢
  omega

theorem opened_first (h : s.preOf k (s.trigSample k tr f) = 0) : (s.opened k cause tr f).first = s.trigSample k tr f := by
  unfold State.opened
  dsimp only
  rw [h, Nat.sub_zero, List.drop_length]
  rfl

theorem fieldEff_rdPtr (hk : k < 8) (s : State) (c : Cls) (v : Nat) : s.fieldEff c (CP.RD_PTR k) v = s.set (CP.RD_PTR k) v := by
  interval_cases k <;> rfl

theorem rdPtr_lands {a v : Nat} (hk : k < 8) (h : s.accepts c (CP.RD_PTR k) v = true) :
    s.rowField c a (CP.RD_PTR k) v = s.lands c (CP.RD_PTR k) [fun u => u.set (CP.RD_PTR k) (v % 2 ^ 24)] [] := by
  rw [rowField_lands h rfl (by interval_cases k <;> rfl) (by simp only [CP.RD_PTR]; omega) (by simp only [CP.RD_PTR]; omega)
    (by interval_cases k <;> decide) (by simp only [CP.RD_PTR, auxPage]; omega) (by rw [fieldEff_rdPtr hk]; rfl)]
  exact lands_field_congr (fieldEff_rdPtr hk ..)

/-- Settles O29: words land as their effects; a trigger, an end and a gap take the branch that the rule names. -/
theorem captureArms : Obligations.CaptureArms := by
  unfold Obligations.CaptureArms
  refine ⟨fun s c k hk h ha h0 hs hm => ?_, fun s c k hk h ha h0 hs hr hm => ?_, fun s c k hk h ha h0 hc hs hr hb hm => ?_,
    fun s c k hk h => ?_, fun s c k hk h hc h1 hg => ?_, fun s c k g hk h h1 hg => ?_, fun s c k hk h hm => ?_,
    fun s c k hk h hm => ?_, fun s k cause fr tr f hk hc h h1 hw hb hg he hl hp ha => ?_,
    fun s k cause fr tr f hk hc h h1 hw hb hd hg he hl hp ha hall => ?_, fun s k cause fr tr f g hk hc h h1 hw hb hg hne => ?_,
    fun s k cause fr tr f g hk hc h h1 hw hb hg he hf => ?_, fun s k cause fr tr f e hk hc h h1 hw hb hg he ht => ?_,
    fun s k cause fr h => ?_, fun s k h hd hg he ht => ?_, fun s k g hk hc h1 hb hg ht => ?_, fun s k g hg hb ht hf => ?_,
    fun s k g hg hb => ?_, fun s k first res g hk hc hg hall hne hl hb hm => ?_, fun s k first res hg hf hl => ?_,
    fun s c a k v hk h => ?_⟩
  · exact exec_arm_lands hk h (softArm_failed hk (capArm_srcErr ha hs _) h0 hm) (recording_still _).raise
  · exact exec_arm_lands hk h (softArm_failed hk (capArm_regionErr ha hs hr _) h0 hm) (recording_still _).raise
  · intro u
    obtain ⟨g1, g2, g3, g4, g5⟩ := armed_get u k
    have hst : u.recording.Still (u.armed k) := ((recording_still u).setCap fun _ _ => rfl).set.set.set.set.set
    refine ⟨_, exec_arm_lands hk h (w := fun u => u.armed k) (softArm_good ha hs hr hb hm) hst, ?_⟩
    rw [lands_trigger_one hst.words]
    have hcap : (u.armed k).cap k = { armAt := u.tb } := armed_cap hc hk
    have hmem : (u.armed k).mem = u.mem := armed_mem u k
    have hsame : SameRegs (armKeys k) u (u.armed k) := armed_regs u k
    generalize u.armed k = w at g1 g2 g3 g4 g5 hcap hmem hsame
    exact ⟨hcap, g1, g2, g3, g4, g5, rfl, hmem, hsame.of_regs rfl⟩
  · have he : ∀ u : State, u.arriveEvents (CP.ARM k).page (CP.ARM k).off 0 [stPENDING] = u := fun u => by
      rw [State.arriveEvents, if_neg (by rintro ⟨h, -⟩; simp only [CP.ARM] at h; omega),
        if_neg (by rintro ⟨h, -⟩; simp only [CP.ARM] at h; omega)]
    have hc := carry_refused (agent := 0) h
    rw [he] at hc
    exact congrArg Host.Outcome.next hc
  · intro u
    have hstop : u.capStop k = u.capDisarm k := by
      rw [State.capStop, if_pos h1, State.capEnd, capTake_none hg]
      dsimp only
      rw [hg]
      rfl
    have hst : u.recording.Still (u.capDisarm k) := (recording_still u).capDisarm
    refine ⟨_, exec_disarm_lands hk h (w := fun u => u.capDisarm k) hstop hst, ?_⟩
    rw [lands_trigger_one hst.words]
    have hcap : (u.capDisarm k).cap k = { u.cap k with seg := none, feed := [], lost := none } :=
      cap_setCap (s := u.set (CP.ARMED k) 0) (by rw [State.set_caps, hc]; exact hk) _
    have harm : (u.capDisarm k).get (CP.ARMED k) = 0 := get_set_same ..
    have hmem : (u.capDisarm k).mem = u.mem := (set_mem u (CP.ARMED k) 0 :)
    have hsame : SameRegs [(CP.ARMED k).key] u (u.capDisarm k) := .of_regs ((SameRegs.refl u).set (by simp)) rfl
    generalize u.capDisarm k = w at hcap harm hmem hsame
    exact ⟨harm, congrArg CapSt.seg hcap, congrArg CapSt.feed hcap, rfl, hmem, hsame.of_regs rfl⟩
  · exact exec_disarm_lands hk h (if_pos h1) ((recording_still _).capEnd (recording_not _))
  · refine exec_softTrig_lands hk h ?_ ((recording_still _).capTrigger (recording_not _))
    rw [State.softTrig, if_pos hm, ripe_ao (triggered_deaf h), Nat.add_sub_cancel_left]
  · exact exec_softTrig_lands hk h (if_neg (by rw [hm]; decide)) (recording_still _)
  · refine ⟨_, exec_captureTrigger_source h, ?_⟩
    rw [capTrigger_opens h1 hw hb hg he hl (capSource_cause h)]
    have hpre : s.preOf k (s.trigSample k tr f) = 0 := by
      unfold State.preOf
      rcases hp with hp | hp
      · rw [hp]
        split
        · rfl
        · exact Nat.zero_min _
      · rw [if_pos hp]
    have hx := trigSample_after (k := k) f ha
    have hcap : (s.setCap k (s.openCap k cause tr f)).cap k = s.openCap k cause tr f (s.cap k) := cap_setCap (by omega) _
    rw [hcap, ← hx]
    exact ⟨rfl, rfl, rfl, rfl, congrArg some hpre, congrArg some (opened_first hpre), rfl, rfl, rfl, .of_regs (.refl s) rfl⟩
  · refine ⟨_, exec_captureTrigger_source h, ?_⟩
    rw [capTrigger_opens h1 hw hb hg he hl (capSource_cause h)]
    have hx := trigSample_after (k := k) f ha
    have hheld : s.heldBefore k (s.trigSample k tr f) = (s.cap k).feed := List.filter_eq_self.2 fun y hy => by
      have hy' := List.all_eq_true.1 hall y hy
      simp only [Bool.and_eq_true, decide_eq_true_eq] at hy' ⊢
      exact ⟨hy'.1, hy'.2.trans_le (trigSample_ge k f ha)⟩
    have hpre : s.preOf k (s.trigSample k tr f) = min 8191 (s.get (CP.PRE k) % 8192) := by
      rw [State.preOf, hheld, if_neg (by rw [hd]; decide)]
      omega
    have hcap : (s.setCap k (s.openCap k cause tr f)).cap k = s.openCap k cause tr f (s.cap k) := cap_setCap (by omega) _
    rw [hcap, ← hx]
    exact ⟨congrArg some hpre, rfl, rfl, rfl, .of_regs (.refl s) rfl⟩
  · rw [exec_captureTrigger_source h, capTrigger_heard h1 hw hb hg, if_neg (by tauto)]
    rfl
  · rw [exec_captureTrigger_source h, capTrigger_heard h1 hw hb hg, if_pos ⟨he, hf⟩]
  · rw [exec_captureTrigger_source h, capTrigger_rearm h1 hw hg he ht]
    rfl
  · rw [exec_captureTrigger, execCaptureTrigger, State.captureTrigger, h]
  · rw [exec_autoTimeout, execAutoTimeout, State.autoTimeout]
    rw [he, if_pos (by rw [h, hd, hg]; exact decide_eq_true ht)]
  · have hend : s.segDone k = s.capEnd k g.stop false := by
      unfold State.segDone
      rw [hg]
      dsimp only
      rw [if_neg (by rw [hb]; decide), if_pos ht]
    have hst : s.recording.Still (s.capEnd k g.stop false) := (recording_still s).capEnd (recording_not s)
    obtain ⟨hseg, hcnt, hdone⟩ := capEnd_ended (e := g.stop) hg hc hk
    rw [exec_segDone, execSegDone, hend]
    exact ⟨_, rfl, hseg, hcnt, hdone, hst.paths, hst.dmas⟩
  · rw [exec_segDone, execSegDone, State.segDone, hg]
    dsimp only
    rw [if_neg (by rw [hb]; decide), if_neg (Nat.not_le.2 ht), if_neg (by rw [hf]; decide)]
  · rw [exec_segDone, execSegDone, State.segDone, hg]
    exact congrArg Host.Outcome.next (if_pos hb)
  · have hall' : ∀ x ∈ (s.cap k).feed, first ≤ x.stamp ∧ x.stamp < res := fun x hx => by
      simpa using List.all_eq_true.1 hall x hx
    exact congrArg Host.Outcome.next (capGap_lost hc hk hg hall' hne hl hb hm)
  · exact congrArg Host.Outcome.next (capGap_none hg hf hl)
  · exact congrArg Host.Outcome.next (rdPtr_lands hk h)

end Sys2Proof.Machine
end

section
/-! PROOFS. Anise's reception (O28, R322 to R335): RDS blocks and groups, DAB frames and packets. -/

namespace Sys2Proof.Machine

variable {s t u : State} {q : Quality} {o k a b c d : Nat}

/-! ### What the readings keep -/

/-- The fields that the readings of the front ends change. -/
def readingKeys : List Nat := [BCAST0.RSSI_A.key, BCAST0.RSSI_B.key, BCAST0.SNR.key, BCAST0.AER_ACT.key]

/-- The readings of the front ends have been taken: other fields, time and memory are as they were. -/
structure State.ReadingsTaken (s t : State) : Prop where
  regs : SameRegs readingKeys s t
  units : (t.ao, t.mem) = (s.ao, s.mem)

theorem qualNote_taken (s : State) (q : Quality) : s.ReadingsTaken (s.qualNote q) := by
  unfold State.qualNote
  split
  · exact ⟨.refl s, rfl⟩
  · exact ⟨(((SameRegs.refl s).set (by simp [readingKeys])).set (by simp [readingKeys])).set (by simp [readingKeys]), rfl⟩

theorem State.ReadingsTaken.trans (h : s.ReadingsTaken t) (h' : t.ReadingsTaken u) : s.ReadingsTaken u :=
  ⟨h.regs.trans h'.regs, h'.units.trans h.units⟩

theorem divDecide_taken (s : State) (q : Quality) : s.ReadingsTaken (s.divDecide q) := by
  have hb : ∀ f : AniSt → AniSt, s.ReadingsTaken (s.setBc f) := fun f => ⟨.of_regs (.refl s) rfl, rfl⟩
  have hset : ∀ v f, s.ReadingsTaken ((s.set BCAST0.AER_ACT v).setBc f) := fun v f =>
    ⟨.of_regs ((SameRegs.refl s).set (l := BCAST0.AER_ACT) (v := v) (by simp [readingKeys])) rfl, rfl⟩
  have hstep : ∀ x y v : Nat, s.ReadingsTaken (if x < y then
      if 1 ≤ s.bc.div then (s.set BCAST0.AER_ACT v).setBc (fun b => { b with div := 0 }) else s.setBc (fun b => { b with div := b.div + 1 })
      else s.setBc (fun b => { b with div := 0 })) := fun x y v => by
    split
    · split
      · exact hset _ _
      · exact hb _
    · exact hb _
  unfold State.divDecide
  dsimp only
  split
  · exact hb _
  · exact hstep ..

theorem weakNote_taken (s : State) : s.ReadingsTaken s.weakNote := by
  unfold State.weakNote
  split
  · exact ⟨.of_regs (.refl s) rfl, rfl⟩
  · exact ⟨.of_regs (.refl s) rfl, rfl⟩

theorem dabAerial_taken (s : State) (q : Quality) : s.ReadingsTaken (s.dabAerial q) := by
  have hb : ∀ v, s.ReadingsTaken (s.set BCAST0.AER_ACT v) := fun v => ⟨(SameRegs.refl s).set (by simp [readingKeys]), rfl⟩
  unfold State.dabAerial
  dsimp only
  split
  · exact ⟨.refl s, rfl⟩
  · split
    · exact hb _
    · split
      · exact hb _
      · exact ⟨.refl s, rfl⟩

/-- The state in which a block is judged. -/
def State.blockRead (s : State) (q : Quality) : State := ((s.qualNote q).divDecide q).weakNote

theorem blockRead_taken (s : State) (q : Quality) : s.ReadingsTaken (s.blockRead q) :=
  ((qualNote_taken s q).trans (divDecide_taken _ q)).trans (weakNote_taken _)

/-! ### Blocks -/

theorem rdsBlock_idle {ok : Bool} (h : s.aniseRuns = false ∨ s.get BCAST0.STD ≠ 0) : s.rdsBlock o ok q = s := if_pos h

section
variable (hr : s.aniseRuns = true) (hstd : s.get BCAST0.STD = 0)
include hr hstd

theorem rdsBlock_eq (ok : Bool) : s.rdsBlock o ok q =
    if (s.blockRead q).on BCAST1.RDS_SYNC then
      if ok then (s.blockRead q).setBc (fun b => { b with bad := 0, lastOfs := o })
      else if 12 ≤ (s.blockRead q).bc.bad + 1 then
        (((s.blockRead q).count BCAST0.BLK_ERR_CNT).setBc (fun b => { b with bad := b.bad + 1 })).aniseSyncLoss
      else ((s.blockRead q).count BCAST0.BLK_ERR_CNT).setBc (fun b => { b with bad := b.bad + 1 })
    else
      let run := if ok then (if 1 ≤ (s.blockRead q).bc.run ∧ ofsFollows (s.blockRead q).bc.lastOfs o then (s.blockRead q).bc.run + 1 else 1) else 0
      let u := (s.blockRead q).setBc (fun b => { b with run := run, lastOfs := o })
      if 3 ≤ run then
        (((u.setBc (fun b => { b with bad := 0 })).set BCAST1.RDS_SYNC 1).set BCAST0.SYNC 1).raise 0x0E4 EV.BCAST0.SYNC
      else u := by
  unfold State.rdsBlock
  rw [if_neg (by rw [hr, hstd]; decide)]
  rfl

end

/-- Synchronisation is lost. -/
theorem aniseSyncLoss_shown (h : s.on BCAST0.SYNC = true) :
    s.aniseSyncLoss.get BCAST0.SYNC = 0 ∧ s.aniseSyncLoss.get BCAST1.RDS_SYNC = 0 ∧ s.aniseSyncLoss.get BCAST2.ENS_VALID = 0 ∧
      s.aniseSyncLoss.bc.lostAt = some s.ao ∧ s.aniseSyncLoss.bc.bad = 0 ∧
      bitOf (s.aniseSyncLoss.get (HDR.EVT 0x0E4)) EV.BCAST0.SYNC_LOSS = true ∧ s.aniseSyncLoss.mem = s.mem ∧
      SameRegs ([BCAST0.SYNC.key, BCAST1.RDS_SYNC.key, BCAST2.ENS_VALID.key] ++ evKeys 0x0E4) s s.aniseSyncLoss := by
  set u : State := s.aniseUnsync.setBc (fun b => { b with lostAt := some s.ao }) with hu
  have he : s.aniseSyncLoss = u.raise 0x0E4 EV.BCAST0.SYNC_LOSS := if_pos h
  have hrg : u.regs = (((s.set BCAST0.SYNC 0).set BCAST1.RDS_SYNC 0).set BCAST2.ENS_VALID 0).regs := rfl
  have h0 : SameRegs [BCAST0.SYNC.key, BCAST1.RDS_SYNC.key, BCAST2.ENS_VALID.key] s u :=
    .of_regs ((((SameRegs.refl s).set (by simp)).set (by simp)).set (by simp)) hrg
  have hg : ∀ l, u.get l = (((s.set BCAST0.SYNC 0).set BCAST1.RDS_SYNC 0).set BCAST2.ENS_VALID 0).get l := fun l => by
    rw [State.get, hrg]
    rfl
  have h1 : SameRegs (evKeys 0x0E4) u s.aniseSyncLoss := by
    rw [he]
    exact (SameRegs.refl u).raise fun _ h => h
  have hbc : s.aniseSyncLoss.bc = u.bc := by
    rw [he]
    exact (congrArg State.bc (raise_eventless u 0x0E4 EV.BCAST0.SYNC_LOSS) :)
  refine ⟨?_, ?_, ?_, ?_, ?_, ?_, ?_, (h0.mono fun _ h => List.mem_append_left _ h).trans (h1.mono fun _ h => List.mem_append_right _ h)⟩
  · rw [h1 _ (by decide), hg, get_set_other _ _ (by decide), get_set_other _ _ (by decide), get_set_same]
    rfl
  · rw [h1 _ (by decide), hg, get_set_other _ _ (by decide), get_set_same]
    rfl
  · rw [h1 _ (by decide), hg, get_set_same]
    rfl
  · rw [hbc]
    rfl
  · rw [hbc]
    rfl
  · rw [he]
    exact raise_sets _ _ (by decide)
  · rw [he, raise_mem]
    rfl

/-! ### Groups -/

/-- The state in which a group is read, once its blocks A and B are. -/
def State.groupRead (s : State) (a b : Nat) : State :=
  (s.rdsHead a b).setBc (fun x => { x with hop := x.hop.map (fun h => (h.1, h.2.1, h.2.2 + 1)) })

theorem rdsGroup_idle (h : s.aniseRuns = false ∨ s.get BCAST0.STD ≠ 0 ∨ s.on BCAST1.RDS_SYNC = false) : s.rdsGroup a b c d k = s := if_pos h

section
variable (hr : s.aniseRuns = true) (hstd : s.get BCAST0.STD = 0) (hs : s.on BCAST1.RDS_SYNC = true)
include hr hstd hs

/-- A group of code `n` that does not begin an alarm. -/
theorem rdsGroup_quiet {n : Nat} (hn : bits b 11 5 = n) (h18 : n ≠ 18)
    (hp : s.get BCAST1.PTY = 31 ∨ (s.rdsHead a b).get BCAST1.PTY ≠ 31) :
    s.rdsGroup a b c d k =
      if n / 2 = 0 then
        let u := ((s.groupRead a b).set BCAST1.TA (bits b 4 1)).rdsPs false k (a % 2 ^ 16 * 2 ^ 16 + n) (b % 4) d
        if n = 0 then u.rdsAf false k (a % 2 ^ 16 * 2 ^ 16 + n) c else u
      else if n = 2 then (if bits c 12 3 = 0 then (s.groupRead a b).set BCAST1.ECC (c % 256) else s.groupRead a b)
      else if n = 8 then (s.groupRead a b).sdq 3 false true k (a % 2 ^ 16 * 2 ^ 16 + n) (three b c d)
      else if n = 18 then (s.groupRead a b).sdq 4 true true k (a % 2 ^ 16 * 2 ^ 16 + n) (three b c d)
      else if n / 2 = 14 then (s.groupRead a b).sdq 5 false true k (a % 2 ^ 16 * 2 ^ 16 + n) (three b c d)
      else if (s.groupRead a b).on BCAST0.RAW_EN then
        (s.groupRead a b).sdq 6 false true k (a % 2 ^ 16 * 2 ^ 16 + n) [a % 2 ^ 16 + b % 2 ^ 16 * 2 ^ 16, c % 2 ^ 16 + d % 2 ^ 16 * 2 ^ 16]
      else s.groupRead a b := by
  have halarm : (s.get BCAST1.PTY != 31 && (s.groupRead a b).get BCAST1.PTY == 31) = false := by
    rcases hp with hp | hp
    · simp [hp]
    · have hp : (s.groupRead a b).get BCAST1.PTY ≠ 31 := hp
      simp [hp]
  unfold State.rdsGroup
  rw [if_neg (by rw [hr, hstd, hs]; decide)]
  dsimp only
  have hg : (s.rdsHead a b).setBc (fun x => { x with hop := x.hop.map (fun h => (h.1, h.2.1, h.2.2 + 1)) }) = s.groupRead a b := rfl
  have hraise : (if false = true ∨ n = 18 then (s.groupRead a b).raise 0x0E4 EV.BCAST0.ALARM else s.groupRead a b) = s.groupRead a b :=
    if_neg (by simp [h18])
  rw [hn, hg, halarm, hraise]

/-- A group of alarms. -/
theorem rdsGroup_alarm (hn : bits b 11 5 = 18) : s.rdsGroup a b c d k =
    ((s.groupRead a b).raise 0x0E4 EV.BCAST0.ALARM).sdq 4 true true k (a % 2 ^ 16 * 2 ^ 16 + 18) (three b c d) := by
  unfold State.rdsGroup
  rw [if_neg (by rw [hr, hstd, hs]; decide)]
  dsimp only
  have hg : (s.rdsHead a b).setBc (fun x => { x with hop := x.hop.map (fun h => (h.1, h.2.1, h.2.2 + 1)) }) = s.groupRead a b := rfl
  have hraise : ∀ p : Bool, (if p = true ∨ 18 = 18 then (s.groupRead a b).raise 0x0E4 EV.BCAST0.ALARM else s.groupRead a b) =
    (s.groupRead a b).raise 0x0E4 EV.BCAST0.ALARM := fun p => if_pos (.inr rfl)
  rw [hn, hg, hraise]
  rfl

end

/-! ### DAB -/

/-- The fields of a frame's stamp, and those by which PKT_BAD is judged. -/
def frameFields : List Loc := [BCAST2.FRAME_TB_LO, BCAST2.FRAME_TB_HI, BCAST2.FRAC, BCAST2.PKT_EN, BCAST2.SUBCH]

/-- The fields of `frameFields`, the list of sub-channels and memory are as they were. -/
structure State.FrameKept (s t : State) : Prop where
  regs : ∀ l ∈ frameFields, t.get l = s.get l
  units : (t.bc.subs, t.mem) = (s.bc.subs, s.mem)

namespace State.FrameKept

theorem refl (s : State) : s.FrameKept s := ⟨fun _ _ => rfl, rfl⟩

theorem trans (h : s.FrameKept t) (h' : t.FrameKept u) : s.FrameKept u :=
  ⟨fun l hl => (h'.regs l hl).trans (h.regs l hl), h'.units.trans h.units⟩

theorem other (h : s.FrameKept t) (hr : u.regs = t.regs) (hu : (u.bc.subs, u.mem) = (t.bc.subs, t.mem)) : s.FrameKept u :=
  ⟨fun l hl => by rw [State.get, hr]; exact h.regs l hl, hu.trans h.units⟩

theorem upon {p : Prop} {_ : Decidable p} (h : s.FrameKept t) (f : s.FrameKept t → s.FrameKept u) : s.FrameKept (if p then u else t) := by
  split
  · exact f h
  · exact h

theorem except {p : Prop} {_ : Decidable p} (h : s.FrameKept t) (f : s.FrameKept t → s.FrameKept u) : s.FrameKept (if p then t else u) := by
  split
  · exact h
  · exact f h

theorem ite {p : Prop} {_ : Decidable p} (h : s.FrameKept t) (h' : s.FrameKept u) : s.FrameKept (if p then t else u) := by
  split
  · exact h
  · exact h'

theorem foldl {α : Type} {l : List α} {f : State → α → State} (h : s.FrameKept t)
    (hf : ∀ {u x}, s.FrameKept u → s.FrameKept (f u x)) : s.FrameKept (l.foldl f t) :=
  List.foldlRecOn (motive := fun u => s.FrameKept u) l f h fun _ hu _ _ => hf hu

theorem set {l : Loc} {v : Nat} (h : s.FrameKept t) (hl : ∀ m ∈ frameFields, m.key ≠ l.key := by decide) : s.FrameKept (t.set l v) :=
  ⟨fun m hm => (get_set_other _ _ (hl m hm)).trans (h.regs m hm), h.units⟩

theorem seti {l : Loc} {v : Int} (h : s.FrameKept t) (hl : ∀ m ∈ frameFields, m.key ≠ l.key := by decide) : s.FrameKept (t.seti l v) :=
  h.set hl

theorem count {l : Loc} {n : Nat} (h : s.FrameKept t) (hl : ∀ m ∈ frameFields, m.key ≠ l.key := by decide) : s.FrameKept (t.count l n) :=
  h.set hl

theorem raise {pg n : Nat} (h : s.FrameKept t) (hp : ∀ m ∈ frameFields, m.key ∉ evKeys pg := by decide) : s.FrameKept (t.raise pg n) := by
  have hr : SameRegs (evKeys pg) t (t.raise pg n) := (SameRegs.refl t).raise fun _ h => h
  exact h.trans ⟨fun m hm => hr m (hp m hm), (congrArg (fun u : State => (u.bc.subs, u.mem)) (raise_eventless t pg n) :)⟩

theorem setBc {f : AniSt → AniSt} (h : s.FrameKept t) (hf : (f t.bc).subs = t.bc.subs := by rfl) : s.FrameKept (t.setBc f) :=
  h.trans ⟨fun _ _ => rfl, congrArg (·, t.mem) hf⟩

theorem freeNat (h : s.FrameKept t) : s.FrameKept t.freeNat.2 := h.other rfl rfl

theorem selectSource (h : s.FrameKept t) : s.FrameKept t.selectSource := by
  unfold State.selectSource
  dsimp only
  exact .ite ((h.set.seti.seti).except (·.setBc)) (((h.set.seti.seti).except (·.setBc)).raise)

theorem aniseLapse (h : s.FrameKept t) : s.FrameKept t.aniseLapse := .set (h.other rfl rfl)

theorem aniseUnbind (h : s.FrameKept t) : s.FrameKept t.aniseUnbind := h.upon (·.setBc.aniseLapse.raise.selectSource)

theorem gateMiss {ph : Nat} (h : s.FrameKept t) : s.FrameKept (t.gateMiss ph) :=
  have h1 := h.setBc
  .ite h1 <| .ite h1.setBc.raise h1.set.aniseLapse.setBc.raise.selectSource

theorem gatePass {f ph : Nat} (h : s.FrameKept t) : s.FrameKept (t.gatePass f ph) := by
  unfold State.gatePass
  extract_lets m
  have h1 : s.FrameKept t.freeNat.2.freeNat.2 := h.freeNat.freeNat
  dsimp only
  generalize t.freeNat.2.freeNat.2 = v at h1
  exact .selectSource (.setBc (.set (.set (.seti (h1.other rfl rfl)))))

theorem calFrame {f : Nat} (h : s.FrameKept t) : s.FrameKept (t.calFrame f) := by
  refine .ite h.setBc (h.except fun h => ?_)
  refine .ite h.setBc ?_
  exact .raise (.set (.setBc (.set (.set (.set (.set (.freeNat h.setBc)))))))

theorem gateFrame {f : Nat} (h : s.FrameKept t) : s.FrameKept (t.gateFrame f) :=
  have h1 := h.set
  .ite h1 <| .ite (.ite h1.gatePass h1.gateMiss) h1.aniseUnbind

theorem sdqNote (h : s.FrameKept t) : s.FrameKept t.sdqNote := by
  refine h.set.foldl fun {u i} hu => hu.set fun m hm => ?_
  have hlt : ∀ m ∈ frameFields, m.key < 0x0E7 * 32768 := by decide
  have := hlt m hm
  simp only [Loc.key, BCAST3.SDQ_W] at this ⊢
  omega

theorem sdq {tag stamp w3 : Nat} {prio fm : Bool} {p : List Nat} (h : s.FrameKept t) : s.FrameKept (t.sdq tag prio fm stamp w3 p) := by
  refine h.except fun h => ?_
  have h1 : s.FrameKept (if decide (64 ≤ t.bc.queue.length) then (t.count BCAST0.SDQ_LOST_CNT).raise 0x0E4 EV.BCAST0.SDQ_LOST else t) :=
    h.upon (·.count.raise)
  refine .ite h1 ?_
  exact .upon h1.setBc.sdqNote (·.raise)

theorem fig00 {e c : Nat} (h : s.FrameKept t) : s.FrameKept (t.fig00 e c) :=
  .set (.set (.set (h.except (·.setBc))))

theorem fig {stamp : Nat} {alarm : Bool} {g : Fig} (h : s.FrameKept t) : s.FrameKept (t.fig stamp alarm g) := by
  unfold State.fig
  dsimp only
  split
  · exact h
  · exact h
  · exact h
  · exact h.setBc.sdq
  · exact h.sdq
  · exact h
  · exact h.upon (·.sdq)
  · exact h.setBc.sdq
  · exact h.setBc.sdq
  · exact h.sdq
  · exact h.upon (·.sdq)

end State.FrameKept

theorem frame_taken (s : State) (q : Quality) : s.ReadingsTaken ((s.dabAerial q).qualNote q) :=
  (dabAerial_taken s q).trans (qualNote_taken _ q)

/-- The readings leave Anise's state as it is. -/
theorem frame_bc (s : State) (q : Quality) : ((s.dabAerial q).qualNote q).bc = s.bc := by
  have h1 : (s.dabAerial q).bc = s.bc := by
    have hb : ∀ v, (s.set BCAST0.AER_ACT v).bc = s.bc := fun _ => rfl
    unfold State.dabAerial
    dsimp only
    split
    · rfl
    · split
      · exact hb _
      · split
        · exact hb _
        · rfl
  have h2 : ∀ u : State, (u.qualNote q).bc = u.bc := fun u => by
    unfold State.qualNote
    split <;> rfl
  exact (h2 _).trans h1

section
variable (hr : s.aniseRuns = true) (hstd : s.get BCAST0.STD = 1)
include hr hstd

theorem dabFrame_lost {x : DabFrame} (hp : x.prs = none) :
    s.dabFrame x = ((s.dabAerial x.qual).qualNote x.qual).setBc (fun b => { b with run := 0, bad := b.bad + 1 }) := by
  unfold State.dabFrame
  rw [if_neg (by rw [hr, hstd]; decide), hp]

/-- A frame with its PRS. -/
theorem dabFrame_found {x : DabFrame} {f : Nat} (hp : x.prs = some f) :
    s.dabFrame x = if (((s.dabAerial x.qual).qualNote x.qual).dabSync).on BCAST0.SYNC then
      (((s.dabAerial x.qual).qualNote x.qual).dabSync).dabBody x (frameStamp f) else ((s.dabAerial x.qual).qualNote x.qual).dabSync := by
  unfold State.dabFrame
  rw [if_neg (by rw [hr, hstd]; decide), hp]

end

/-- The stamp and the sub-channels of a frame, and whether packets are out of place. -/
theorem dabBody_shows (s : State) (x : DabFrame) (f : Nat) :
    (s.dabBody x f).get BCAST2.FRAME_TB_LO = f / 256 % 2 ^ 32 ∧ (s.dabBody x f).get BCAST2.FRAME_TB_HI = f / 256 / 2 ^ 32 % 2 ^ 32 ∧
      (s.dabBody x f).get BCAST2.FRAC = f % 256 ∧
      (s.dabBody x f).get BCAST0.PKT_BAD = (if s.on BCAST2.PKT_EN ∧ x.subs.contains (s.get BCAST2.SUBCH) = false then 1 else 0) ∧
      (s.dabBody x f).bc.subs = x.subs ∧ (s.dabBody x f).mem = s.mem := by
  unfold State.dabBody
  extract_lets s1 s2 t s3 s4 flag on s5 s6 s7
  have h4 : s3.FrameKept s4 := (State.FrameKept.refl s3).calFrame.gateFrame
  have h5 : s3.FrameKept s5 := h4.upon (·.raise)
  have h67 : s6.FrameKept s7 := (State.FrameKept.refl s6).foldl (·.fig)
  have h2 : s.FrameKept s2 := by
    have h1 : s.FrameKept s1 := (State.FrameKept.refl s).count
    cases hx : x.ens with
    | none => simpa only [s2, hx] using h1
    | some y => simpa only [s2, hx] using h1.fig00
  have h : ∀ l ∈ frameFields, s7.get l = s3.get l := fun l hl => (h67.regs l hl).trans (h5.regs l hl)
  have h3 : ∀ l ∈ [BCAST2.PKT_EN, BCAST2.SUBCH], s7.get l = s.get l := fun l hl => by
    have hl' : l ∈ frameFields := List.mem_of_mem_drop (i := 3) (l := frameFields) hl
    have hk : l.key ≠ BCAST2.FRAME_TB_LO.key ∧ l.key ≠ BCAST2.FRAME_TB_HI.key ∧ l.key ≠ BCAST2.FRAC.key := by
      revert l
      decide
    rw [h l hl', get_set_other _ _ hk.2.2, get_set_other _ _ hk.2.1, get_set_other _ _ hk.1, h2.regs l hl']
  have hu : (s7.bc.subs, s7.mem) = (x.subs, s.mem) := h67.units.trans (congrArg (x.subs, ·) ((congrArg Prod.snd (h5.units.trans h2.units) :)))
  have hpkt : (s7.on BCAST2.PKT_EN = true ∧ s7.subLocated = false) = (s.on BCAST2.PKT_EN = true ∧ x.subs.contains (s.get BCAST2.SUBCH) = false) := by
    rw [State.on, State.on, State.subLocated, h3 BCAST2.PKT_EN (by simp), h3 BCAST2.SUBCH (by simp), show s7.bc.subs = x.subs from congrArg Prod.fst hu]
  refine ⟨?_, ?_, ?_, ?_, congrArg Prod.fst hu, congrArg Prod.snd hu⟩
  · rw [get_set_other _ _ (by decide), h _ (by decide), get_set_other _ _ (by decide), get_set_other _ _ (by decide), get_set_same]
    rfl
  · rw [get_set_other _ _ (by decide), h _ (by decide), get_set_other _ _ (by decide), get_set_same]
    rfl
  · rw [get_set_other _ _ (by decide), h _ (by decide), get_set_same]
    rfl
  · rw [get_set_same]
    simp only [hpkt]
    split <;> rfl

theorem dabSync_waits (h : s.on BCAST0.SYNC = true ∨ s.bc.run < 2) : s.dabSync = s.setBc (fun b => { b with run := b.run + 1, bad := 0 }) :=
  if_pos (h.imp_right Nat.succ_lt_succ)

theorem dabSync_gains (h : s.on BCAST0.SYNC = false) (hrun : 2 ≤ s.bc.run) (hc : s.bc.candAt = none) :
    s.dabSync = (((s.setBc (fun b => { b with run := b.run + 1, bad := 0 })).set BCAST0.SYNC 1).raise 0x0E4 EV.BCAST0.SYNC).setBc
      (fun b => { b with lostAt := none, left := [], candAt := none, alarm := false }) := by
  have hn : ¬((s.setBc (fun b => { b with run := b.run + 1, bad := 0 })).on BCAST0.SYNC = true ∨
      (s.setBc (fun b => { b with run := b.run + 1, bad := 0 })).bc.run < 3) :=
    not_or.2 ⟨fun hs => Bool.false_ne_true (h.symm.trans hs), Nat.not_lt.2 (Nat.succ_le_succ hrun)⟩
  have hcand : ∀ pg n, (((s.setBc (fun b => { b with run := b.run + 1, bad := 0 })).set BCAST0.SYNC 1).raise pg n).bc.candAt.isSome = false :=
    fun pg n => (congrArg (·.bc.candAt.isSome) (raise_eventless _ pg n) :).trans (congrArg Option.isSome hc)
  unfold State.dabSync
  rw [if_neg hn]
  dsimp only
  rw [hcand]
  exact if_neg Bool.false_ne_true

section
variable {x : DabFrame} {f : Nat} (hr : s.aniseRuns = true) (hstd : s.get BCAST0.STD = 1) (hp : x.prs = some f)
include hr hstd hp

theorem dabFrame_waits (hs : s.on BCAST0.SYNC = false) (hrun : s.bc.run < 2) :
    s.dabFrame x = ((s.dabAerial x.qual).qualNote x.qual).setBc (fun b => { b with run := b.run + 1, bad := 0 }) := by
  have hs' : ((s.dabAerial x.qual).qualNote x.qual).on BCAST0.SYNC = false := by
    rw [State.on, (frame_taken s x.qual).regs _ (by decide)]
    exact hs
  rw [dabFrame_found hr hstd hp, dabSync_waits (.inr (by rw [frame_bc]; exact hrun)), if_neg]
  exact Bool.not_eq_true _ ▸ hs'

theorem dabFrame_gains (hs : s.on BCAST0.SYNC = false) (hrun : 2 ≤ s.bc.run) (hc : s.bc.candAt = none) :
    s.dabFrame x = ((((((s.dabAerial x.qual).qualNote x.qual).setBc (fun b => { b with run := b.run + 1, bad := 0 })).set BCAST0.SYNC 1).raise
      0x0E4 EV.BCAST0.SYNC).setBc (fun b => { b with lostAt := none, left := [], candAt := none, alarm := false })).dabBody x (frameStamp f) := by
  have hs' : ((s.dabAerial x.qual).qualNote x.qual).on BCAST0.SYNC = false := by
    rw [State.on, (frame_taken s x.qual).regs _ (by decide)]
    exact hs
  have hon : ∀ u : State, ∀ g, (((u.set BCAST0.SYNC 1).raise 0x0E4 EV.BCAST0.SYNC).setBc g).on BCAST0.SYNC = true := fun u g => by
    have hg : (((u.set BCAST0.SYNC 1).raise 0x0E4 EV.BCAST0.SYNC).setBc g).get BCAST0.SYNC = (u.set BCAST0.SYNC 1).get BCAST0.SYNC :=
      ((SameRegs.refl (u.set BCAST0.SYNC 1)).raise (pg := 0x0E4) (b := EV.BCAST0.SYNC) fun _ h => h) BCAST0.SYNC (by decide)
    rw [State.on, hg, get_set_same]
    rfl
  rw [dabFrame_found hr hstd hp, dabSync_gains hs' (by rw [frame_bc]; exact hrun) (by rw [frame_bc]; exact hc), if_pos (hon _ _)]

theorem dabFrame_held (hs : s.on BCAST0.SYNC = true) :
    s.dabFrame x = (((s.dabAerial x.qual).qualNote x.qual).setBc (fun b => { b with run := b.run + 1, bad := 0 })).dabBody x (frameStamp f) := by
  have hs' : ((s.dabAerial x.qual).qualNote x.qual).on BCAST0.SYNC = true := by
    rw [State.on, (frame_taken s x.qual).regs _ (by decide)]
    exact hs
  rw [dabFrame_found hr hstd hp, dabSync_waits (.inl hs')]
  exact if_pos hs'

end

/-- A packet of a located sub-channel. -/
theorem dabPacket_placed (hr : s.aniseRuns = true) (hstd : s.get BCAST0.STD = 1) (hs : s.on BCAST0.SYNC = true)
    (hp : s.on BCAST2.PKT_EN = true) (hl : s.subLocated = true) {ad f : Nat} {l : List Nat} {ok : Bool} :
    s.dabPacket ad l ok f = if ok = false then s.count BCAST0.PKT_ERR_CNT
      else if (s.get BCAST2.PKT_ADDR = 1023 ∧ ad ≠ 0) ∨ (s.get BCAST2.PKT_ADDR ≠ 1023 ∧ ad = s.get BCAST2.PKT_ADDR) then
        s.sdq 21 false false (f / 256) (s.dabW3 0 0) (payload ([ad % 256, ad / 256 % 4] ++ l.take 91))
      else s :=
  if_neg (by rw [hr, hstd, hs, hp, hl]; decide)

/-! ### The obligation -/

section
variable (hr : s.aniseRuns = true) (hstd : s.get BCAST0.STD = 0)
include hr hstd

/-- The twelfth bad block in a row. -/
theorem rdsBlock_lost (hs : (s.blockRead q).on BCAST1.RDS_SYNC = true) (hb : (s.blockRead q).bc.bad = 11)
    (ho : (s.blockRead q).on BCAST0.SYNC = true) :
    (s.rdsBlock o false q).get BCAST1.RDS_SYNC = 0 ∧ (s.rdsBlock o false q).get BCAST0.SYNC = 0 ∧
      (s.rdsBlock o false q).bc.lostAt = some s.ao ∧
      bitOf ((s.rdsBlock o false q).get (HDR.EVT 0x0E4)) EV.BCAST0.SYNC_LOSS = true ∧ (s.rdsBlock o false q).mem = s.mem := by
  have hu := (blockRead_taken s q).units
  rw [rdsBlock_eq hr hstd, if_pos hs, if_neg Bool.false_ne_true, if_pos (by rw [hb])]
  obtain ⟨h1, h2, -, h3, -, h4, h5, -⟩ := aniseSyncLoss_shown
    (s := ((s.blockRead q).count BCAST0.BLK_ERR_CNT).setBc (fun b => { b with bad := b.bad + 1 }))
    ((congrArg (· == 1) (get_set_other (s.blockRead q) (l := BCAST0.BLK_ERR_CNT) (m := BCAST0.SYNC) _ (by decide)) :).trans ho)
  exact ⟨h2, h1, h3.trans (congrArg some (congrArg Prod.fst hu)), h4, h5.trans (congrArg Prod.snd hu)⟩

/-- The third good block in order. -/
theorem rdsBlock_gained (hs : (s.blockRead q).on BCAST1.RDS_SYNC = false) (hb : 2 ≤ (s.blockRead q).bc.run)
    (ho : ofsFollows (s.blockRead q).bc.lastOfs o = true) :
    (s.rdsBlock o true q).get BCAST1.RDS_SYNC = 1 ∧ (s.rdsBlock o true q).get BCAST0.SYNC = 1 ∧ (s.rdsBlock o true q).bc.bad = 0 ∧
      bitOf ((s.rdsBlock o true q).get (HDR.EVT 0x0E4)) EV.BCAST0.SYNC = true ∧ (s.rdsBlock o true q).mem = s.mem := by
  have hrun : (if 1 ≤ (s.blockRead q).bc.run ∧ ofsFollows (s.blockRead q).bc.lastOfs o = true then (s.blockRead q).bc.run + 1 else 1) =
      (s.blockRead q).bc.run + 1 := if_pos ⟨by omega, ho⟩
  rw [rdsBlock_eq hr hstd, if_neg (by rw [hs]; decide)]
  simp only [if_true, hrun]
  rw [if_pos (by omega)]
  set u : State := ((s.blockRead q).setBc (fun b => { b with run := (s.blockRead q).bc.run + 1, lastOfs := o })).setBc (fun b => { b with bad := 0 })
  set v : State := (u.set BCAST1.RDS_SYNC 1).set BCAST0.SYNC 1
  have hv : SameRegs (evKeys 0x0E4) v (v.raise 0x0E4 EV.BCAST0.SYNC) := (SameRegs.refl v).raise fun _ h => h
  refine ⟨?_, ?_, ?_, raise_sets _ _ (by decide), ?_⟩
  · rw [hv _ (by decide), get_set_other _ _ (by decide), get_set_same]
    rfl
  · rw [hv _ (by decide), get_set_same]
    rfl
  · exact (congrArg (·.bc.bad) (raise_eventless v 0x0E4 EV.BCAST0.SYNC) :)
  · rw [raise_mem]
    exact (congrArg Prod.snd (blockRead_taken s q).units :)

end

/-- Settles O28: the readings leave time, memory and the state of synchronisation alone, and a block, a group, a frame and
a packet are each read off their branch. -/
theorem aniseReception : Obligations.AniseReception := by
  refine ⟨fun s o k q h => congrArg Host.Outcome.next (rdsBlock_idle h), fun s o q hr hstd hs => ?_, fun s o q hr hstd hs hb => ?_,
    fun s o q hr hstd hs hb ho => ⟨_, rfl, rdsBlock_lost hr hstd hs hb ho⟩, fun s o q hr hstd hs hb ho => ⟨_, rfl, rdsBlock_gained hr hstd hs hb ho⟩,
    fun s a b c d k h => congrArg Host.Outcome.next (rdsGroup_idle h), fun s a b c d k hr hstd hs hn hc hp => ?_,
    fun s a b c d k hr hstd hs hn hp => congrArg Host.Outcome.next (rdsGroup_quiet hr hstd hs hn (by decide) hp),
    fun s a b c d k hr hstd hs hn => congrArg Host.Outcome.next (rdsGroup_alarm hr hstd hs hn),
    fun s a b c d k hr hstd hs hn hp => congrArg Host.Outcome.next (rdsGroup_quiet hr hstd hs hn (by decide) hp),
    fun s a b c d k hr hstd hs hn hp => congrArg Host.Outcome.next ?_,
    fun s x hr hstd hp => congrArg Host.Outcome.next (dabFrame_lost hr hstd hp),
    fun s x f hr hstd hp hs hrun => congrArg Host.Outcome.next (dabFrame_waits hr hstd hp hs hrun),
    fun s x f hr hstd hp hs hrun hc => congrArg Host.Outcome.next (dabFrame_gains hr hstd hp hs hrun hc),
    fun s x f hr hstd hp hs => ?_, fun s hstd hr hb hs => ?_, fun s ad l f hr hstd hs hp hl => ?_,
    fun s ad l f hr hstd hs hp hl ha => ?_, fun s ad l f hr hstd hs hp hl ha => ?_⟩
  · exact congrArg Host.Outcome.next ((rdsBlock_eq hr hstd true).trans ((if_pos hs).trans (if_pos rfl)))
  · exact congrArg Host.Outcome.next ((rdsBlock_eq hr hstd false).trans ((if_pos hs).trans ((if_neg Bool.false_ne_true).trans
      (if_neg (Nat.not_le.2 (Nat.succ_lt_succ hb))))))
  · exact congrArg Host.Outcome.next ((rdsGroup_quiet hr hstd hs hn (by decide) hp).trans (if_pos hc))
  · rw [rdsGroup_quiet hr hstd hs hn (by decide) hp, Nat.add_zero]
    rfl
  · have hr' := (frame_taken s x.qual).regs
    obtain ⟨h1, h2, h3, h4, h5, h6⟩ :=
      dabBody_shows (((s.dabAerial x.qual).qualNote x.qual).setBc (fun b => { b with run := b.run + 1, bad := 0 })) x (frameStamp f)
    refine ⟨_, congrArg Host.Outcome.next (dabFrame_held hr hstd hp hs), ?_⟩
    refine ⟨h1, h2, h3, h4.trans ?_, h5, h6.trans (congrArg Prod.snd (frame_taken s x.qual).units)⟩
    have hon : ∀ l : Loc, l.key ∉ readingKeys →
        (((s.dabAerial x.qual).qualNote x.qual).setBc (fun b => { b with run := b.run + 1, bad := 0 })).get l = s.get l := fun l hl => hr' l hl
    simp only [State.on, hon BCAST2.PKT_EN (by decide), hon BCAST2.SUBCH (by decide)]
    rfl
  · obtain ⟨h1, -, h2, h3, h4, h5, h6, h7⟩ := aniseSyncLoss_shown hs
    exact ⟨s.aniseSyncLoss, congrArg Host.Outcome.next (if_pos ⟨hstd, hr, hb⟩), h1, h2, h3, h4, h5, h6, h7⟩
  · exact congrArg Host.Outcome.next ((dabPacket_placed hr hstd hs hp hl).trans (if_pos rfl))
  · exact congrArg Host.Outcome.next ((dabPacket_placed hr hstd hs hp hl).trans ((if_neg Bool.noConfusion).trans (if_pos ha)))
  · refine congrArg Host.Outcome.next ((dabPacket_placed hr hstd hs hp hl).trans ((if_neg Bool.noConfusion).trans (if_neg ?_)))
    omega

end Sys2Proof.Machine
end

section
/-! PROOFS. The queue of commands (O56). As for `State.Sound`, the proof of `State.Queued.f` is the body of `State.f` with `h` in the
place of the state: what waits before `f` waits after it. The lemmas of the first part take over the control flow, the others stand in
the order of the model's files. -/

namespace Sys2Proof.Machine

-- Thousands of short proofs: elaborated one after another, they do not hold memory side by side.
set_option Elab.async false

/-- The commands `wq` wait. -/
structure State.Queued (s : State) (wq : List Instr) : Prop where
  pending : s.pending = wq

namespace State.Queued

variable {wq : List Instr}

/-! ### Control flow -/

/-- A change made under a condition, as `if c then t else s`. -/
theorem upon {s t : State} {c : Prop} {_ : Decidable c} (h : s.Queued wq) (f : s.Queued wq → t.Queued wq) :
    (if c then t else s).Queued wq := by
  split
  · exact f h
  · exact h

/-- A change made unless a condition holds, as `if c then s else t`. -/
theorem except {s t : State} {c : Prop} {_ : Decidable c} (h : s.Queued wq) (f : s.Queued wq → t.Queued wq) :
    (if c then s else t).Queued wq := by
  split
  · exact h
  · exact f h

theorem ite {s t : State} {c : Prop} {_ : Decidable c} (h : s.Queued wq) (ht : t.Queued wq) :
    (if c then s else t).Queued wq := by
  split
  · exact h
  · exact ht

/-- `ite` where a branch answers a value and a state. -/
theorem ite₂ {α : Type} {p q : α × State} {c : Prop} {_ : Decidable c} (h : p.2.Queued wq) (ht : q.2.Queued wq) :
    (if c then p else q).2.Queued wq := by
  split
  · exact h
  · exact ht

/-- `ite` where a branch answers two values and a state. -/
theorem ite₃ {α β : Type} {p q : α × β × State} {c : Prop} {_ : Decidable c} (h : p.2.2.Queued wq)
    (ht : q.2.2.Queued wq) : (if c then p else q).2.2.Queued wq := by
  split
  · exact h
  · exact ht

theorem foldl {α : Type} {s : State} {l : List α} {f : State → α → State} (h : s.Queued wq)
    (hf : ∀ {t a}, t.Queued wq → (f t a).Queued wq) : (l.foldl f s).Queued wq := by
  induction l generalizing s with
  | nil => exact h
  | cons a l ih => exact ih (hf h)

/-- `foldl` with a value carried beside the state. -/
theorem foldl₂ {α β : Type} {l : List β} {p : α × State} {f : α × State → β → α × State} (h : p.2.Queued wq)
    (hf : ∀ {q b}, q.2.Queued wq → (f q b).2.Queued wq) : (l.foldl f p).2.Queued wq := by
  induction l generalizing p with
  | nil => exact h
  | cons b l ih => exact ih (hf h)

theorem snd {α : Type} {a : α} {t : State} (h : t.Queued wq) : (a, t).2.Queued wq := h

/-- The state that a `match` on a pair names. -/
theorem of_eq {α : Type} {p : α × State} {a : α} {t : State} (h : p.2.Queued wq) (e : p = (a, t)) : t.Queued wq := by
  subst e
  exact h

/-- `of_eq` for a triple. -/
theorem of_eq₂ {α β : Type} {p : α × β × State} {a : α} {b : β} {t : State} (h : p.2.2.Queued wq)
    (e : p = (a, b, t)) : t.Queued wq := by
  subst e
  exact h

/-- Units beside the fields, the receivers and the queue change. They are written out for `s`, so that `rfl` compares part by part and
never the two states; the fields and the receivers tell which state `s` is. -/
theorem same {s t : State} (h : s.Queued wq) (e : (t.regs, t.rxs, t.pending) = (s.regs, s.rxs, s.pending)) : t.Queued wq :=
  ⟨(congrArg (fun p : Store × List RxSt × List Instr => p.2.2) e :).trans h.pending⟩

variable {s : State}

/-! ### `Ops` -/

theorem set {l v} (h : s.Queued wq) : (s.set l v).Queued wq :=
  { h with }

theorem seti {l x} (h : s.Queued wq) : (s.seti l x).Queued wq :=
  h.set

theorem set64 {lo hi v} (h : s.Queued wq) : (s.set64 lo hi v).Queued wq :=
  h.set.set

theorem count {l k} (h : s.Queued wq) : (s.count l k).Queued wq :=
  h.set

theorem bump {l} (h : s.Queued wq) : (s.bump l).Queued wq :=
  h.set

theorem edit {l v} (h : s.Queued wq) : (s.edit l v).Queued wq :=
  { h with }

theorem setLive {l v} (h : s.Queued wq) : (s.setLive l v).Queued wq :=
  .ite h.set h.set.edit

theorem setBoth {l v} (h : s.Queued wq) : (s.setBoth l v).Queued wq :=
  h.set.edit

theorem forget {p} (h : s.Queued wq) : (s.forget p).Queued wq :=
  { h with }

theorem forgetKeys {p} (h : s.Queued wq) : (s.forgetKeys p).Queued wq :=
  { h with }

theorem freeNat (h : s.Queued wq) : s.freeNat.2.Queued wq :=
  { h with }

theorem queueEvt {p} (h : s.Queued wq) : (s.queueEvt p).Queued wq := by
  unfold State.queueEvt
  split
  · exact .ite { h with } (.ite { h with } h.count)
  · exact .ite { h with } h.count

theorem deliver {pg b} (h : s.Queued wq) : (s.deliver pg b).Queued wq :=
  .upon (h.upon fun h => { h with }) (·.queueEvt)

theorem raise {pg b} (h : s.Queued wq) : (s.raise pg b).Queued wq :=
  .except { h with } fun h => .upon (.same h.set rfl) (·.deliver)

theorem raiseErr {pg} (h : s.Queued wq) : (s.raiseErr pg).Queued wq :=
  h.set.raise

theorem startSeq {pg k} (h : s.Queued wq) : (s.startSeq pg k).Queued wq :=
  .set { h with }

theorem forceShut {pg} (h : s.Queued wq) : (s.forceShut pg).Queued wq :=
  .ite h.startSeq <| h.upon (·.startSeq)

theorem logAs {cls type sev pg w4 w5 w6} (h : s.Queued wq) : (s.logAs cls type sev pg w4 w5 w6).Queued wq :=
  .set <| .same (.same ((h.upon (·.count.raise)).except (·.count.raise)) rfl) rfl

theorem logHw {type sev pg w4 w5 w6} (h : s.Queued wq) : (s.logHw type sev pg w4 w5 w6).Queued wq :=
  h.logAs

theorem logEvent {sev pg b} (h : s.Queued wq) : (s.logEvent sev pg b).Queued wq :=
  h.logHw

theorem raiseLog {sev pg b} (h : s.Queued wq) : (s.raiseLog sev pg b).Queued wq :=
  h.raise.logEvent

theorem refuse {c addr code} (h : s.Queued wq) : (s.refuse c addr code).Queued wq :=
  h.set.set.set.raise

theorem reply {c data status} (h : s.Queued wq) : (s.reply c data status).Queued wq :=
  { h with }

theorem supersede {l losers winner prot at_} (h : s.Queued wq) : (s.supersede l losers winner prot at_).Queued wq := by
  unfold State.supersede
  split
  · exact h
  · exact (h.foldl (·.count)).set.set.set.set.set64.raise

theorem resolve {l ws held at_} (h : s.Queued wq) : (s.resolve l ws held at_).2.Queued wq := by
  unfold State.resolve
  split
  · exact h.supersede
  · split
    · exact h
    · exact h.supersede

theorem joinWindow {l w} (h : s.Queued wq) : (s.joinWindow l w).Queued wq := by
  unfold State.joinWindow
  split <;> exact { h with }

theorem refuseWrite {c addr code} (h : s.Queued wq) : (s.refuseWrite c addr code).Queued wq :=
  h.refuse.upon fun h => { h with }

theorem noField {c pg off} (h : s.Queued wq) : (s.noField c pg off).Queued wq :=
  h.except fun h => .ite h.refuseWrite.reply h.reply

/-! ### `Mem` -/

theorem setByte {a v} (h : s.Queued wq) : (s.setByte a v).Queued wq :=
  { h with }

theorem setWord {a v} (h : s.Queued wq) : (s.setWord a v).Queued wq :=
  h.setByte.setByte.setByte.setByte

theorem setWords {a ws} (h : s.Queued wq) : (s.setWords a ws).Queued wq := by
  induction ws generalizing s a with
  | nil => exact h
  | cons v t ih =>
    unfold State.setWords
    exact ih h.setWord

theorem setEcc {mem idx v} (h : s.Queued wq) : (s.setEcc mem idx v).Queued wq :=
  { h with }

theorem eccAll {mem v} (h : s.Queued wq) : (s.eccAll mem v).Queued wq :=
  { h with }

theorem eccNote {mem idx bit req ue} (h : s.Queued wq) : (s.eccNote mem idx bit req ue).Queued wq :=
  h.set.set.set

theorem eccCE {mem idx bit req} (h : s.Queued wq) : (s.eccCE mem idx bit req).Queued wq :=
  (h.eccNote.count.set.raise.upon (·.raise)).upon fun h => .same h.logEvent rfl

theorem eccUE {mem idx req} (h : s.Queued wq) : (s.eccUE mem idx req).Queued wq :=
  h.eccNote.count.set.raiseLog

theorem eccReadWord {req m i} (h : s.Queued wq) : (s.eccReadWord req m i).2.Queued wq :=
  .ite₂ h <| .ite₂ h <| .ite₂ h.eccUE h.eccCE

theorem eccRead {req a} (h : s.Queued wq) : (s.eccRead req a).2.Queued wq := by
  unfold State.eccRead
  split
  · exact h
  · exact h.eccReadWord

theorem eccWholeWord {m i} (h : s.Queued wq) : (s.eccWholeWord m i).Queued wq :=
  h.except fun h => h.setEcc.upon (·.count.raise)

theorem eccWhole {a} (h : s.Queued wq) : (s.eccWhole a).Queued wq := by
  unfold State.eccWhole
  split
  · exact h
  · exact h.eccWholeWord

theorem eccMerge {m i req} (h : s.Queued wq) : (s.eccMerge m i req).2.Queued wq :=
  .ite₂ h <| .ite₂ h <| .ite₂ h.eccUE (h.setEcc.eccNote.count.count.set.upon (·.raise)).raise.raiseLog

theorem eccPartial {req a} (h : s.Queued wq) : (s.eccPartial req a).2.Queued wq := by
  unfold State.eccPartial
  split
  · exact h
  · exact h.eccMerge

theorem readMem {req a} (h : s.Queued wq) : (s.readMem req a).2.Queued wq := by
  unfold State.readMem
  split
  next t e => exact h.eccRead.of_eq e
  next t e => exact h.eccRead.of_eq e

theorem writePartial {req a v} (h : s.Queued wq) : (s.writePartial req a v).2.Queued wq := by
  unfold State.writePartial
  split
  next t e => exact (h.eccPartial.of_eq e).setWord
  next t e => exact h.eccPartial.of_eq e

theorem writeWhole {a ws} (h : s.Queued wq) : (s.writeWhole a ws).Queued wq := by
  induction ws generalizing s a with
  | nil => exact h
  | cons v t ih => exact ih (h.except (·.eccWhole.setWord))

theorem clearMem {lo len} (h : s.Queued wq) : (s.clearMem lo len).Queued wq := by
  unfold State.clearMem
  dsimp only
  split
  · exact .eccAll { h with }
  · exact { h with }

theorem poisonMem {lo len} (h : s.Queued wq) : (s.poisonMem lo len).Queued wq := by
  unfold State.poisonMem
  dsimp only
  split
  · exact .eccAll { h with }
  · exact { h with }

/-! ### `Paths` -/

theorem setPath {n f} (h : s.Queued wq) : (s.setPath n f).Queued wq :=
  { h with }

theorem setRx {n f} (h : s.Queued wq) : (s.setRx n f).Queued wq :=
  { h with }

theorem setTx {n f} (h : s.Queued wq) : (s.setTx n f).Queued wq :=
  { h with }

theorem setOct {g f} (h : s.Queued wq) : (s.setOct g f).Queued wq :=
  { h with }

theorem ovlDrop {n} (h : s.Queued wq) : (s.ovlDrop n).Queued wq :=
  h.set.set

theorem entered {n q} (h : s.Queued wq) : (s.entered n q).Queued wq := by
  unfold State.entered
  dsimp only
  split
  · exact h.setPath
  · exact h.setPath
  · exact h.setPath
  · exact h.setPath.upon fun h => .set <| .same h.setLive.setRx rfl
  · exact h.setPath.ovlDrop

theorem reportSupp {g cause} (h : s.Queued wq) : (s.reportSupp g cause).Queued wq :=
  h.except (·.setOct.set64.set.count.raiseLog.queueEvt)

theorem checkReady {n q} (h : s.Queued wq) : (s.checkReady n q).Queued wq :=
  h.except fun h => h.except (·.setPath.reportSupp)

theorem goPath {n t q} (h : s.Queued wq) : (s.goPath n t q).Queued wq :=
  h.except fun h => .ite (.ite h.setPath h.setPath) <|
    h.except fun h => .ite (h.upon (·.setRx)).setPath.entered.checkReady h.setPath.ovlDrop

theorem turnDriver {n} (h : s.Queued wq) : (s.turnDriver n).Queued wq :=
  (h.upon (·.set)).setPath

theorem turnSettle {n} (h : s.Queued wq) : (s.turnSettle n).Queued wq :=
  (h.except (·.turnDriver)).setPath.entered.checkReady

theorem mutePath {n cause} (h : s.Queued wq) : (s.mutePath n cause).Queued wq :=
  h.set.set

theorem failPage {pg} (h : s.Queued wq) : (s.failPage pg).Queued wq :=
  h.upon (·.set.set.raiseErr)

theorem dropIfOff {n} (h : s.Queued wq) : (s.dropIfOff n).Queued wq :=
  h.except (·.setPath.ovlDrop)

theorem clearUp (h : s.Queued wq) : s.clearUp.Queued wq :=
  { h with }

theorem streamMoved {by_} (h : s.Queued wq) : (s.streamMoved by_).Queued wq :=
  { h with }

/-! ### `Capture` -/

theorem setCap {k f} (h : s.Queued wq) : (s.setCap k f).Queued wq :=
  { h with }

theorem capPut {k o ws} (h : s.Queued wq) : (s.capPut k o ws).Queued wq := by
  induction ws generalizing s o with
  | nil => exact h
  | cons v t ih => exact ih h.writeWhole

theorem capEmit {k g ws} (h : s.Queued wq) : (s.capEmit k g ws).2.Queued wq :=
  .ite₂ h h.capPut.set

theorem capSample {k g x} (h : s.Queued wq) : (s.capSample k g x).2.Queued wq :=
  .ite₂ h <| .ite₂ h h.capEmit

theorem capClose {k g} (h : s.Queued wq) : (s.capClose k g).2.Queued wq :=
  .ite₂ h h.capEmit

theorem capTake {k e} (h : s.Queued wq) : (s.capTake k e).Queued wq := by
  unfold State.capTake
  split
  · exact h
  · exact .setCap <| .foldl₂ h.setCap fun h => .ite₂ h.setCap h.capSample

theorem capDisarm {k} (h : s.Queued wq) : (s.capDisarm k).Queued wq :=
  h.set.setCap

theorem capEnd {k e last} (h : s.Queued wq) : (s.capEnd k e last).Queued wq := by
  unfold State.capEnd
  dsimp only
  split
  · exact h.capTake.upon (·.capDisarm)
  · exact
      have h₁ := (h.capTake.capClose.except (·.capPut)).setCap.set.count.raise
      .ite h₁.set.raise.capDisarm <| .ite h₁.capDisarm <| h₁.upon (·.raise.capDisarm)

theorem capArm {k dpd} (h : s.Queued wq) : (s.capArm k dpd).Queued wq :=
  h.except fun h => .ite h.raise <| .ite h.raise h.setCap.set.set.set.set.set

theorem capMiss {k cause} (h : s.Queued wq) : (s.capMiss k cause).Queued wq :=
  h.setCap.count.raise

theorem capTrigger {k cause t f} (h : s.Queued wq) : (s.capTrigger k cause t f).Queued wq := by
  refine h.except fun h => h.except fun h => ?_
  split
  · exact .ite h.setCap <| h.except (·.capMiss)
  · exact .ite h.capMiss <| (h.setCap.upon (·.raise)).upon (·.capPut.set)

theorem capFeeds {k xs} (h : s.Queued wq) : (s.capFeeds k xs).Queued wq :=
  h.upon (·.setCap)

theorem capDrain {k} (h : s.Queued wq) : (s.capDrain k).Queued wq := by
  unfold State.capDrain
  dsimp only
  split
  · exact h.setCap
  · split
    · exact h.upon (·.capTake)
    · exact h

theorem capFeed {tap k w} (h : s.Queued wq) : (s.capFeed tap k w).Queued wq :=
  h.upon (·.capFeeds)

theorem softArm {k} (h : s.Queued wq) : (s.softArm k).Queued wq :=
  have h₁ := h.capArm
  .ite h₁.capTrigger <| h₁.upon (·.capTrigger)

theorem capStop {k} (h : s.Queued wq) : (s.capStop k).Queued wq :=
  h.upon (·.capEnd)

theorem softTrig {k at_} (h : s.Queued wq) : (s.softTrig k at_).Queued wq :=
  h.upon (·.capTrigger)

theorem captureTrigger {k cause frac} (h : s.Queued wq) : (s.captureTrigger k cause frac).Queued wq := by
  unfold State.captureTrigger
  split
  · exact h.capTrigger
  · exact h

theorem autoTimeout {k} (h : s.Queued wq) : (s.autoTimeout k).Queued wq :=
  h.upon (·.capTrigger)

theorem segDone {k} (h : s.Queued wq) : (s.segDone k).Queued wq := by
  unfold State.segDone
  split
  · exact .ite h.capTake <| .ite h.capEnd <| h.upon (·.capEnd)
  · exact h

theorem capMoved {by_ k} (h : s.Queued wq) : (s.capMoved by_ k).Queued wq :=
  h.capTake.setCap

theorem capGap {k first resume} (h : s.Queued wq) : (s.capGap k first resume).Queued wq := by
  unfold State.capGap
  extract_lets s₁ n s₂ c
  have h₂ : s₂.Queued wq := h.capTake.setCap
  clear_value s₂
  split
  split
  · exact h₂
  · exact h₂.except (·.capClose.capEmit.setCap.count.count.raise)

/-! ### `Rx` -/

theorem ovlEngage {n} (h : s.Queued wq) : (s.ovlEngage n).Queued wq :=
  h.upon fun h => h.set.set.setRx.upon (·.count.raise)

theorem ovlRelease {n below} (h : s.Queued wq) : (s.ovlRelease n below).Queued wq :=
  h.upon fun h => h.set.setRx.upon (·.set.setRx)

theorem ovlForceWritten {n v} (h : s.Queued wq) : (s.ovlForceWritten n v).Queued wq :=
  have h₁ := h.set
  .ite h₁.set.set.setRx <| h₁.except (·.ovlDrop)

theorem ovlEnWritten {n v} (h : s.Queued wq) : (s.ovlEnWritten n v).Queued wq :=
  h.upon (·.set)

theorem rxInvalid {n t} (h : s.Queued wq) : (s.rxInvalid n t).Queued wq :=
  h.setRx

theorem modReset {n} (h : s.Queued wq) : (s.modReset n).Queued wq :=
  h.upon fun h =>
    have h₁ := h.rxInvalid.count
    .ite h₁.raiseLog h₁.raise

theorem compSwap {n} (h : s.Queued wq) : (s.compSwap n).Queued wq := by
  unfold State.compSwap
  split
  · exact h.upon (·.setRx.set.set.set.set.count.raise)
  · exact h

theorem rxqOverflow {n} (h : s.Queued wq) : (s.rxqOverflow n).Queued wq :=
  .ite h.setRx <| h.upon (·.setRx.count.raiseLog)

theorem alignPath {n r} (h : s.Queued wq) : (s.alignPath n r).Queued wq :=
  h.setRx.set

theorem decAlign {n} (h : s.Queued wq) : (s.decAlign n).Queued wq :=
  h.alignPath

theorem alignDone {n} (h : s.Queued wq) : (s.alignDone n).Queued wq := by
  unfold State.alignDone
  split
  · exact h.upon (·.setRx.raise)
  · exact h

theorem setThrDue {tx n v} (h : s.Queued wq) : (s.setThrDue tx n v).Queued wq :=
  .ite h.setTx h.setRx

theorem thrSample {tx n x} (h : s.Queued wq) : (s.thrSample tx n x).Queued wq :=
  h.except fun h => .ite (.ite h.setThrDue h.set) h.set

theorem thrCross {tx n} (h : s.Queued wq) : (s.thrCross tx n).Queued wq := by
  unfold State.thrCross
  dsimp only
  split
  · exact h
  · exact h.setThrDue.set.set.set64.raise

theorem thrWritten {tx n l v} (h : s.Queued wq) : (s.thrWritten tx n l v).Queued wq :=
  h.set.set.setThrDue.upon (·.set)

theorem setTap {t f} (h : s.Queued wq) : (s.setTap t f).Queued wq :=
  { h with }

theorem tapHold {t} (h : s.Queued wq) : (s.tapHold t).Queued wq :=
  h.set.set.set

theorem tapRelease {t} (h : s.Queued wq) : (s.tapRelease t).Queued wq :=
  h.setTap

theorem withdraw {n b} (h : s.Queued wq) : (s.withdraw n b).Queued wq :=
  h.setPath.foldl fun h => h.upon fun h => .ite h.tapHold h.tapRelease

theorem tapFresh {t l} (h : s.Queued wq) : (s.tapFresh t l).Queued wq :=
  h.set.except (·.set)

theorem peakNew {t} (h : s.Queued wq) : (s.peakNew t).Queued wq := by
  refine h.upon fun h => .raise <| .tapFresh ?_
  split
  · exact h.set.set64.set
  · exact h.set.set

theorem guardWindow {p} (h : s.Queued wq) : (s.guardWindow p).Queued wq :=
  h.upon fun h => { h with }

theorem guardWindows (h : s.Queued wq) : s.guardWindows.Queued wq :=
  h.foldl (·.guardWindow)

theorem msNew {t} (h : s.Queued wq) : (s.msNew t).Queued wq :=
  h.upon (·.set.set.set64.set.tapFresh.raise.guardWindows)

theorem streamPush {c w} (h : s.Queued wq) : (s.streamPush c w).2.Queued wq :=
  .ite₂ { h with } h

theorem envelope {t} (h : s.Queued wq) : (s.envelope t).Queued wq :=
  h.upon fun h =>
    have h₁ := h.freeNat
    .ite (h₁.streamPush.except (·.count.raise)) <| h₁.upon (·.capFeed)

theorem rxCommitted {old : State} {n} (h : s.Queued wq) : (s.rxCommitted old n).Queued wq :=
  ((h.upon (·.rxInvalid)).upon (·.rxInvalid)).upon (·.set)

/-! ### `CalBase` -/

theorem retireCand {d n cause} (h : s.Queued wq) : (s.retireCand d n cause).Queued wq :=
  h.except fun h => .same h.set.raise.logHw rfl

theorem cmplNote {n} (h : s.Queued wq) : (s.cmplNote n).Queued wq :=
  .upon { h with } (·.retireCand)

theorem calFail {reason kind p} (h : s.Queued wq) : (s.calFail reason kind p).Queued wq :=
  .upon (.same h.count.raise.set.set.set.set rfl) (·.retireCand)

theorem fgMap {f} (h : s.Queued wq) : (s.fgMap f).Queued wq :=
  { h with }

theorem withdrawnNote {p v} (h : s.Queued wq) : (s.withdrawnNote p v).Queued wq :=
  h.set.set

theorem fgNext (h : s.Queued wq) : s.fgNext.Queued wq :=
  h.except fun h => .foldl (h.foldl fun h => h.except fun h => .ite h.setPath h.setPath) (·.setPath)

theorem fgEnd {q m reason} (h : s.Queued wq) : (s.fgEnd q m reason).Queued wq :=
  .fgNext <| .fgMap <| h.foldl fun h => h.upon fun h => h.foldl fun h => h.upon (·.calFail)

theorem setBeam {d f} (h : s.Queued wq) : (s.setBeam d f).Queued wq :=
  { h with }

theorem forcingChanged {d} (h : s.Queued wq) : (s.forcingChanged d).Queued wq :=
  h.setBeam.set

theorem withdrawNow {n b} (h : s.Queued wq) : (s.withdrawNow n b).Queued wq :=
  h.withdraw.setPath.withdrawnNote.forcingChanged.forcingChanged.upon (·.raise)

theorem slewFrom {l iq n start} (h : s.Queued wq) : (s.slewFrom l iq n start).Queued wq :=
  .ite { h with } { h with }

theorem slewCommitted {old : State} {n fields} (h : s.Queued wq) : (s.slewCommitted old n fields).Queued wq :=
  h.foldl fun h => h.except (·.slewFrom)

/-! ### `DpdBase` -/

theorem modelIdentity (h : s.Queued wq) : s.modelIdentity.Queued wq :=
  .foldl (h.clearMem.foldl fun h => h.foldl (·.setWord.setWord)) (·.set)

theorem setDpdPath {p f} (h : s.Queued wq) : (s.setDpdPath p f).Queued wq :=
  { h with }

theorem setDpdJob {c j} (h : s.Queued wq) : (s.setDpdJob c j).Queued wq :=
  { h with }

theorem dpdNote (h : s.Queued wq) : s.dpdNote.Queued wq := by
  unfold State.dpdNote
  split
  · exact h.set
  · exact h

theorem dpdLap (h : s.Queued wq) : s.dpdLap.Queued wq :=
  h.upon fun h => .same h.set.count.raise rfl

theorem dpdCapStop (h : s.Queued wq) : s.dpdCapStop.Queued wq :=
  h.foldl fun h => h.upon (·.capDisarm)

theorem dpdResult {p r} (h : s.Queued wq) : (s.dpdResult p r).Queued wq := by
  refine .dpdNote <| .dpdLap <| .upon (h.set.set.setDpdPath.foldl fun h => ?_) (·.count.set.raise)
  split
  · exact h.upon fun h => (h.upon (·.dpdCapStop)).setDpdJob.set
  · exact h

theorem dpdToggle {p} (h : s.Queued wq) : (s.dpdToggle p).Queued wq :=
  h.set

theorem dpdAbort {p} (h : s.Queued wq) : (s.dpdAbort p).Queued wq :=
  h.except fun h => .ite h.dpdToggle.dpdResult h.dpdResult

theorem dpdLeave {p} (h : s.Queued wq) : (s.dpdLeave p).Queued wq :=
  .ite h.dpdResult h.dpdAbort

theorem dpdStale {p} (h : s.Queued wq) : (s.dpdStale p).Queued wq :=
  h.dpdAbort.setDpdPath.set.raise.dpdNote

theorem dpdVoid {c} (h : s.Queued wq) : (s.dpdVoid c).Queued wq := by
  unfold State.dpdVoid
  split
  · exact h.upon (·.dpdCapStop.setDpdJob.raise)
  · exact h

theorem dpdWatchJob {c} (h : s.Queued wq) : (s.dpdWatchJob c).Queued wq := by
  unfold State.dpdWatchJob
  split
  · exact h.upon (·.dpdVoid)
  · exact h

theorem dpdAim {p} (h : s.Queued wq) : (s.dpdAim p).Queued wq :=
  (h.foldl (·.setBoth.setBoth.setTap)).setBoth.setDpdPath

theorem dpdWatchPath {p} (h : s.Queued wq) : (s.dpdWatchPath p).Queued wq := by
  refine h.except fun h => ?_
  dsimp only
  split
  · exact ((h.upon (·.dpdAim)).except (·.setDpdPath)).setDpdPath
  · exact ((h.upon (·.dpdAim)).except (·.setDpdPath)).setDpdPath
  · exact (h.upon (·.dpdAim)).except (·.setDpdPath)

theorem dpdWatch (h : s.Queued wq) : s.dpdWatch.Queued wq :=
  (h.foldl (·.dpdWatchJob)).foldl (·.dpdWatchPath)

/-! ### `Tx` -/

theorem txqUnderflow {n} (h : s.Queued wq) : (s.txqUnderflow n).Queued wq :=
  h.except fun h => .ite h.count.raiseLog h.setTx.count.raiseLog

theorem cellSwap {n} (h : s.Queued wq) : (s.cellSwap n).Queued wq := by
  unfold State.cellSwap
  split
  · exact h.upon (·.setTx.set.set.set.set.count.raise)
  · exact h

theorem rangeStart {n b r} (h : s.Queued wq) : (s.rangeStart n b r).Queued wq := by
  unfold State.rangeStart
  split
  · exact h.setTx
  · exact h.setTx.set.dpdStale

theorem rangeSwitch {n} (h : s.Queued wq) : (s.rangeSwitch n).Queued wq := by
  unfold State.rangeSwitch
  split
  · exact h.upon (·.setTx.set)
  · exact h

theorem rangeDone {n} (h : s.Queued wq) : (s.rangeDone n).Queued wq := by
  unfold State.rangeDone
  split
  · refine h.upon fun h => ?_
    dsimp only
    split
    · exact (h.except (·.set)).setTx.set.raise.setTx.rangeStart
    · exact (h.except (·.set)).setTx.set.raise
  · exact h

theorem txCommitted {old : State} {n} (h : s.Queued wq) : (s.txCommitted old n).Queued wq :=
  h.except fun h => .ite h.set.raise h.rangeStart

theorem muteWritten {n v} (h : s.Queued wq) : (s.muteWritten n v).Queued wq :=
  .ite h.set.set <| h.set.set.set.set.except fun h => .ite h.setTx <| .ite h.setPath h.setTx

theorem biasNote {k moving} (h : s.Queued wq) : (s.biasNote k moving).Queued wq :=
  h.set.set

theorem biasSafe {k} (h : s.Queued wq) : (s.biasSafe k).Queued wq :=
  .biasNote <| .set <| .set { h with }

theorem biasShadow {k} (h : s.Queued wq) : (s.biasShadow k).Queued wq :=
  h.set.set.set

theorem biasEntry {k} (h : s.Queued wq) : (s.biasEntry k).Queued wq :=
  h.biasShadow.set.set.set.biasSafe

theorem biasReached {k} (h : s.Queued wq) : (s.biasReached k).Queued wq :=
  .upon (.biasNote { h with }) (·.raise)

theorem biasRange {k} (h : s.Queued wq) : (s.biasRange k).Queued wq := by
  unfold State.biasRange
  extract_lets s₁ s₂
  have h₁ : s₁.Queued wq := h.biasSafe
  have h₂ : s₂.Queued wq := { h₁ with }
  exact h₂.set

theorem biasAim {k} (h : s.Queued wq) : (s.biasAim k).Queued wq :=
  h.except fun h => .ite h.biasRange <| .ite h.biasReached <| .ite h.set.biasReached <| .biasNote <|
    h.except fun h => { h with }

theorem biasCode {k v} (h : s.Queued wq) : (s.biasCode k v).Queued wq :=
  .ite h.set.raise h.set

theorem biasTarget {k range code} (h : s.Queued wq) : (s.biasTarget k range code).Queued wq := by
  refine .ite (.except ?_ (·.biasRange)) (.except ?_ (·.biasAim))
  all_goals
    split
    · exact h.set.set.biasCode
    · exact h.set.set.upon (·.biasCode)

theorem biasWritten {k l v} (h : s.Queued wq) : (s.biasWritten k l v).Queued wq :=
  have h₁ := h.set
  .ite h₁.biasTarget <| .ite h₁.biasTarget <| .ite (h₁.except fun h => .ite h.set.biasSafe h.set.biasAim) h₁.set

theorem biasSlew {k} (h : s.Queued wq) : (s.biasSlew k).Queued wq :=
  h.upon fun h => .ite (.biasReached <| .set { h with }) <| .biasNote <|
    .set { h with }

theorem biasRangeSwitch {k} (h : s.Queued wq) : (s.biasRangeSwitch k).Queued wq := by
  have switched {f} : ({ s with bias := upd s.bias k f } : State).Queued wq :=
    { h with }
  unfold State.biasRangeSwitch
  split
  · exact h.upon fun _ => .ite switched.set.set.biasReached <| .ite switched.set.set.set.biasReached
      switched.set.set.set
  · exact h

theorem biasForce {k} (h : s.Queued wq) : (s.biasForce k).Queued wq :=
  h.set.biasSafe.raise

theorem killPath {n} (h : s.Queued wq) : (s.killPath n).Queued wq :=
  h.set.set.set.raise

theorem killStays (h : s.Queued wq) : s.killStays.Queued wq :=
  h.upon fun h => h.foldl (·.set.set.set)

theorem kill (h : s.Queued wq) : s.kill.Queued wq :=
  h.except fun h => .logEvent <| .foldl (.fgEnd <| .foldl { h with } (·.killPath)) fun h => h.upon (·.biasForce)

theorem unkill (h : s.Queued wq) : s.unkill.Queued wq :=
  h.upon fun h => .foldl { h with } (·.set)

theorem compliance {n short} (h : s.Queued wq) : (s.compliance n short).Queued wq :=
  .ite (h.upon (·.count.raise.set.set)) <| h.upon fun h => h.set.count.raise.cmplNote.upon (·.mutePath)

theorem rxRetired {n} (h : s.Queued wq) : (s.rxRetired n).Queued wq :=
  .ite h.set.raise.forcingChanged h.set.forcingChanged

theorem rxRetireWritten {l v} (h : s.Queued wq) : (s.rxRetireWritten l v).Queued wq :=
  h.set.foldl fun h => h.except fun h => .ite h.setPath h.rxRetired

theorem retireWritten {n v} (h : s.Queued wq) : (s.retireWritten n v).Queued wq :=
  h.except fun h =>
    have h₁ := h.set
    .ite (.fgEnd <| .dpdLeave <| .raise <| .set <| .ite h₁.setPath h₁.forcingChanged) <| .set <|
      .ite h₁.setPath h₁.forcingChanged

/-! ### `Timeline` -/

theorem commitAt {pg tgt immed} (h : s.Queued wq) : (s.commitAt pg tgt immed).Queued wq :=
  h.except fun h => .upon (.set { h with }) fun h => .set { h with }

theorem commitReq {pg} (h : s.Queued wq) : (s.commitReq pg).Queued wq :=
  h.commitAt

theorem queueNote {g} (h : s.Queued wq) : (s.queueNote g).Queued wq :=
  h.set.set64

theorem dropAction {g code t reason} (h : s.Queued wq) : (s.dropAction g code t reason).Queued wq :=
  h.count.count.set.set.set.set64.raise

theorem enqueueOne {g e} (h : s.Queued wq) : (s.enqueueOne g e).Queued wq :=
  .ite h.dropAction (h.foldl (·.eccWholeWord)).setOct.queueNote

theorem entryRead {g e} (h : s.Queued wq) : (s.entryRead g e).2.Queued wq :=
  .foldl₂ h (·.eccReadWord)

theorem push {c t act arg} (h : s.Queued wq) : (s.push c t act arg).Queued wq :=
  .foldl { h with } (·.enqueueOne)

theorem enqAct {c act} (h : s.Queued wq) : (s.enqAct c act).Queued wq :=
  h.push

theorem flush {g} (h : s.Queued wq) : (s.flush g).Queued wq :=
  h.setOct.queueNote

theorem dropLate (h : s.Queued wq) : s.dropLate.Queued wq :=
  h.foldl fun h => (h.foldl (·.dropAction)).setOct.queueNote

theorem patternStep {g} (h : s.Queued wq) : (s.patternStep g).Queued wq :=
  h.foldl fun h => h.upon (·.goPath)

theorem boundaryCheck {g} (h : s.Queued wq) : (s.boundaryCheck g).Queued wq :=
  h.foldl fun h => h.upon (·.checkReady)

theorem boundaryClear {n} (h : s.Queued wq) : (s.boundaryClear n).Queued wq := by
  unfold State.boundaryClear
  dsimp only
  split
  · exact
      have h₁ := ((h.setPath.upon (·.forcingChanged)).upon (·.rxRetired)).withdrawNow
      .ite h₁.dpdLeave h₁.fgNext
  · exact (h.setPath.upon (·.forcingChanged)).upon (·.rxRetired)

theorem slotBoundary {g} (h : s.Queued wq) : (s.slotBoundary g).Queued wq :=
  h.except fun h => .ite (h.setOct.set.foldl (·.boundaryClear)).patternStep.boundaryCheck <| h.upon (·.patternStep)

theorem turnDriverDue {n} (h : s.Queued wq) : (s.turnDriverDue n).Queued wq :=
  h.upon (·.turnDriver)

theorem turnSettleDue {n} (h : s.Queued wq) : (s.turnSettleDue n).Queued wq :=
  h.upon (·.turnSettle)

theorem trswChange {g} (h : s.Queued wq) : (s.trswChange g).Queued wq :=
  h.upon (·.set)

theorem runEntry {g code eff} (h : s.Queued wq) (hf : ∀ {e t}, t.Queued wq → (eff e t).Queued wq) :
    (s.runEntry g code eff).Queued wq := by
  unfold State.runEntry
  split
  · exact h
  · exact
      have h₁ := h.entryRead.setOct.queueNote
      .ite h₁.dropAction <| .ite h₁.dropAction <| .ite h₁.dropAction <| .ite h₁.dropAction <| hf h₁

theorem actPath {n e f} (h : s.Queued wq) : (s.actPath n e f).Queued wq :=
  h.upon (·.setPath.goPath)

theorem tlWindow {g e} (h : s.Queued wq) : (s.tlWindow g e).Queued wq :=
  h.except fun h => h.foldl (·.actPath)

theorem tlSet {g e} (h : s.Queued wq) : (s.tlSet g e).Queued wq :=
  h.foldl (·.actPath)

theorem tlOneshot {g e} (h : s.Queued wq) : (s.tlOneshot g e).Queued wq :=
  h.foldl (·.actPath)

theorem tlCommit {e} (h : s.Queued wq) : (s.tlCommit e).Queued wq :=
  have h₁ := h.foldl (·.setOct.queueNote)
  .ite h₁.refuse h₁.commitReq

theorem tlRange {g e} (h : s.Queued wq) : (s.tlRange g e).Queued wq :=
  h.foldl (·.set.rangeStart)

theorem setRffe {f} (h : s.Queued wq) : (s.setRffe f).Queued wq :=
  { h with }

theorem rffeIssue {r} (h : s.Queued wq) : (s.rffeIssue r).2.Queued wq :=
  .ite₂ h h.setRffe.set

theorem rffeNext (h : s.Queued wq) : s.rffeNext.Queued wq := by
  unfold State.rffeNext
  extract_lets r
  have hr : r.2.Queued wq := .foldl₂ h (·.rffeIssue)
  exact hr.setRffe

theorem seqStart {g q t} (h : s.Queued wq) : (s.seqStart g q t).Queued wq :=
  h.except fun h => .ite h.dropAction <| .ite h.dropAction h.setRffe.rffeNext

theorem tlTrig {e} (h : s.Queued wq) : (s.tlTrig e).Queued wq :=
  { h with }

theorem windowEnd {n} (h : s.Queued wq) : (s.windowEnd n).Queued wq := by
  unfold State.windowEnd
  split
  · exact h.upon (·.setPath.goPath)
  · exact h

theorem oneshotEnd {n} (h : s.Queued wq) : (s.oneshotEnd n).Queued wq := by
  unfold State.oneshotEnd
  split
  · exact h.upon (·.setPath.goPath)
  · exact h

theorem trigoutEnd (h : s.Queued wq) : s.trigoutEnd.Queued wq := by
  unfold State.trigoutEnd
  split
  · exact h.upon fun h => { h with }
  · exact h

theorem rffeStart {g t tx} (h : s.Queued wq) : (s.rffeStart g t tx).Queued wq :=
  h.upon (·.setOct.seqStart)

theorem rffeDone {b data perr} (h : s.Queued wq) : (s.rffeDone b data perr).Queued wq := by
  unfold State.rffeDone
  split
  · exact h
  · refine h.except fun h => ?_
    split
    · exact h.setRffe.set
    · exact .rffeNext <| .setRffe <| h.setRffe.set.upon fun h => h.set.set.set.set.set.raise.upon (·.raise)

theorem setLane {ds f} (h : s.Queued wq) : (s.setLane ds f).Queued wq :=
  .ite { h with } { h with }

theorem setLanePwr {ds v} (h : s.Queued wq) : (s.setLanePwr ds v).Queued wq :=
  .ite h.set.set h.set.set

theorem laneSleepEnter {ds} (h : s.Queued wq) : (s.laneSleepEnter ds).Queued wq :=
  h.upon fun h => .setLane <| .setLanePwr <| h.upon fun h => (h.foldl (·.set)).set

theorem laneWake {ds} (h : s.Queued wq) : (s.laneWake ds).Queued wq :=
  h.upon (·.setLanePwr.setLane)

theorem laneWakeStart {ds} (h : s.Queued wq) : (s.laneWakeStart ds).Queued wq :=
  h.upon (·.laneWake)

theorem laneAwake {ds} (h : s.Queued wq) : (s.laneAwake ds).Queued wq :=
  h.upon (·.setLanePwr)

theorem laneWakeRequest {ds evt} (h : s.Queued wq) : (s.laneWakeRequest ds evt).Queued wq :=
  h.except fun h => h.upon (·.laneWake.setLane)

theorem wakeFail (h : s.Queued wq) : s.wakeFail.Queued wq :=
  h.upon (·.setLanePwr.setLane.count.raise)

theorem octCommitted {g} (h : s.Queued wq) : (s.octCommitted g).Queued wq :=
  h.set.upon (·.raise)

/-! ### `Lanes` -/

theorem setLock {n v} (h : s.Queued wq) : (s.setLock n v).Queued wq :=
  h.set.set

theorem laneLoss {n} (h : s.Queued wq) : (s.laneLoss n).Queued wq :=
  h.upon fun h => h.setLock.upon (·.raise.raise)

theorem lanesLoss {ns} (h : s.Queued wq) : (s.lanesLoss ns).Queued wq :=
  h.foldl (·.laneLoss)

theorem crossSlip {g} (h : s.Queued wq) : (s.crossSlip g).Queued wq :=
  h.upon (·.set.raise.lanesLoss)

theorem clkLoss {k} (h : s.Queued wq) : (s.clkLoss k).Queued wq :=
  h.upon fun h => h.set.raise.upon (·.lanesLoss)

theorem dsckPresent {k dev} (h : s.Queued wq) : (s.dsckPresent k dev).Queued wq :=
  h.upon (·.set.seti)

theorem blockLock {n} (h : s.Queued wq) : (s.blockLock n).Queued wq :=
  h.upon (·.set.setLock.raise)

theorem blockLoss {n} (h : s.Queued wq) : (s.blockLoss n).Queued wq :=
  h.upon fun h => (h.except (·.count)).laneLoss

theorem usUnderflow (h : s.Queued wq) : s.usUnderflow.Queued wq :=
  .raiseLog <| .same h.count rfl

theorem deskew {n v} (h : s.Queued wq) : (s.deskew n v).Queued wq :=
  .set { h with }

theorem deskewJump {n v b} (h : s.Queued wq) : (s.deskewJump n v b).Queued wq :=
  .same h.set.set.raise rfl

theorem bitslip {n} (h : s.Queued wq) : (s.bitslip n).Queued wq :=
  h.set

theorem trackStep {n later} (h : s.Queued wq) : (s.trackStep n later).Queued wq :=
  .ite h.deskewJump <| .ite h.deskewJump h.deskew

theorem eyePublish {n left right} (h : s.Queued wq) : (s.eyePublish n left right).Queued wq :=
  h.upon fun h => (h.set.set.set.set.upon (·.raise.raise)).upon (·.trackStep)

theorem setSync {n t} (h : s.Queued wq) : (s.setSync n t).Queued wq :=
  { h with }

theorem bitNote {n go} (h : s.Queued wq) : (s.bitNote n go).Queued wq :=
  h.set64.setSync

theorem addErrors {n k} (h : s.Queued wq) : (s.addErrors n k).Queued wq :=
  h.set64

theorem prbsSync {n} (h : s.Queued wq) : (s.prbsSync n).Queued wq :=
  h.upon (·.set.setSync.raise)

theorem prbsLoss {n errs} (h : s.Queued wq) : (s.prbsLoss n errs).Queued wq :=
  h.upon (·.addErrors.bitNote.set.raise)

theorem checkerOff {n} (h : s.Queued wq) : (s.checkerOff n).Queued wq :=
  h.bitNote.set

theorem cntClr {n} (h : s.Queued wq) : (s.cntClr n).Queued wq :=
  h.bitNote.set64.set64

theorem setInj {n k} (h : s.Queued wq) : (s.setInj n k).Queued wq :=
  { h with }

theorem inject {n k} (h : s.Queued wq) : (s.inject n k).Queued wq :=
  h.except (·.setInj)

theorem injDone {n} (h : s.Queued wq) : (s.injDone n).Queued wq :=
  h.except fun h => h.setInj.raise.upon (·.addErrors)

theorem laneTestWritten {l v} (h : s.Queued wq) : (s.laneTestWritten l v).Queued wq :=
  h.except fun h => .upon (.ite h.set.set h.set) (·.checkerOff)

/-! ### `AniBase` -/

theorem setBc {f} (h : s.Queued wq) : (s.setBc f).Queued wq :=
  { h with }

theorem aniseLapse (h : s.Queued wq) : s.aniseLapse.Queued wq :=
  .set { h with }

theorem aniseUnsync (h : s.Queued wq) : s.aniseUnsync.Queued wq := by
  unfold State.aniseUnsync
  exact h.set.set.set.setBc

theorem aniseSyncLoss (h : s.Queued wq) : s.aniseSyncLoss.Queued wq :=
  h.upon (·.aniseUnsync.setBc.raise)

theorem aniRefLoss (h : s.Queued wq) : s.aniRefLoss.Queued wq :=
  h.upon (·.aniseSyncLoss.aniseLapse.setBc)

theorem aniseGate (h : s.Queued wq) : s.aniseGate.Queued wq :=
  .ite h.set <| .ite (h.set.except (·.startSeq.set.set)) <| h.forceShut.except (·.set.raise)

/-! ### `Clocks` -/

theorem selectSource (h : s.Queued wq) : s.selectSource.Queued wq :=
  (h.set.seti.seti.except (·.setBc)).except (·.raise)

theorem endMeasures (h : s.Queued wq) : s.endMeasures.Queued wq :=
  .selectSource <| .aniseLapse { h with }

theorem setLoop {k p} (h : s.Queued wq) : (s.setLoop k p).Queued wq :=
  { h with }

theorem setLost {k b} (h : s.Queued wq) : (s.setLost k b).Queued wq :=
  { h with }

theorem countFrom {k} (h : s.Queued wq) : (s.countFrom k).Queued wq :=
  { h with }

theorem loopMute {k} (h : s.Queued wq) : (s.loopMute k).Queued wq :=
  h.set.set.set.upon (·.set)

theorem loopStart {k} (h : s.Queued wq) : (s.loopStart k).Queued wq :=
  h.loopMute.setLoop.countFrom

theorem loopStop {k} (h : s.Queued wq) : (s.loopStop k).Queued wq :=
  h.loopMute.setLoop.setLost

theorem lockLoop {k} (h : s.Queued wq) : (s.lockLoop k).Queued wq :=
  h.upon (·.freeNat.setLoop.countFrom.set.set.set.raise)

theorem loopSuppress {k} (h : s.Queued wq) : (s.loopSuppress k).Queued wq :=
  h.foldl fun h => h.upon (·.checkReady)

theorem loPhaseStart {k} (h : s.Queued wq) : (s.loPhaseStart k).Queued wq :=
  h.upon fun h => .foldl { h with } fun h => h.upon (·.rxInvalid)

theorem calVoid {k} (h : s.Queued wq) : (s.calVoid k).Queued wq :=
  .foldl (h.upon fun h => .foldl { h with } fun h => h.upon (·.calFail)) fun h => h.upon (·.calFail)

theorem loopReady {k} (h : s.Queued wq) : (s.loopReady k).Queued wq :=
  h.upon fun h => .upon (.upon (.loPhaseStart <| .upon (.same h.setLoop.set.set rfl) (·.set)) (·.loopSuppress))
      (·.setLost.queueEvt)

theorem limitLo (h : s.Queued wq) : s.limitLo.Queued wq :=
  h.count.raise

theorem noteModulators (h : s.Queued wq) : s.noteModulators.Queued wq :=
  { h with }

theorem lol {k} (h : s.Queued wq) : (s.lol k).Queued wq := by
  unfold State.lol
  split
  · exact (h.upon (·.noteModulators)).loopStart.setLost.count.raise.loopSuppress.calVoid.upon (·.lanesLoss)
  · exact h.setLoop.countFrom.set.count.raise
  · exact h

theorem bandFail {k} (h : s.Queued wq) : (s.bandFail k).Queued wq :=
  h.upon (·.setLoop.set.raise.raiseErr)

theorem bypassEdge (h : s.Queued wq) : s.bypassEdge.Queued wq :=
  { h with }

theorem octMoved {g} (h : s.Queued wq) : (s.octMoved g).Queued wq :=
  h.setOct.except fun h => h.foldl fun h => h.except (·.setPath.reportSupp)

theorem loopCommitted {old : State} {k} (h : s.Queued wq) : (s.loopCommitted old k).Queued wq :=
  .ite h.bypassEdge <| .ite (.ite (h.upon (·.loopStart)) <| .ite h.set.raise <| h.lanesLoss.except (·.loopStart)) <|
    .except (.ite h.set.set.set.limitLo <| h.upon (·.loopStart)) fun h => h.foldl fun h => h.upon (·.octMoved)

theorem refLoss (h : s.Queued wq) : s.refLoss.Queued wq :=
  h.set.set.except fun h => .upon (.selectSource <| .aniRefLoss <| .same (h.raise.foldl (·.lol)) rfl)
      (·.set.set.raise)

theorem refBack {rate} (h : s.Queued wq) : (s.refBack rate).Queued wq := by
  unfold State.refBack
  refine .ite h.refLoss ?_
  extract_lets s₁ low changed s₂ c s₃ s₄ s₅
  have h₁ : s₁.Queued wq := h.upon (·.refLoss)
  have h₂ : s₂.Queued wq := h₁.set.set.raise
  clear_value s₂
  have h₃ : s₃.Queued wq := { h₂ with }
  clear_value s₃
  have h₄ : s₄.Queued wq := h₃.foldl (·.upon (·.countFrom))
  have h₅ : s₅.Queued wq := h₄.upon (·.foldl (·.except (·.loopMute.setLoop)))
  clear_value s₅
  exact h₁.except fun _ => .ite { h₅ with } h₅.set

theorem spansMoved {by_} (h : s.Queued wq) : (s.spansMoved by_).Queued wq :=
  .same (.same { h with } rfl) rfl

theorem timeMoved {new} (h : s.Queued wq) : (s.timeMoved new).Queued wq := by
  unfold State.timeMoved
  extract_lets old s₁ c s₂
  have h₁ : s₁.Queued wq := h.foldl (·.capMoved)
  clear_value s₁
  have h₂ : s₂.Queued wq := { h₁ with }
  exact h₂.streamMoved.spansMoved.dropLate.endMeasures

theorem tsyncLoad (h : s.Queued wq) : s.tsyncLoad.Queued wq :=
  .upon (.raise <| .set <| .set <| .set64 <| .foldl (.bypassEdge <| .clearUp <| .foldl (.timeMoved { h with })
      (·.alignPath)) fun h => h.upon (·.loopStart)) (·.raise)

theorem tsyncCheck (h : s.Queued wq) : s.tsyncCheck.Queued wq :=
  h.set64.seti.raise.except (·.count.raise)

theorem tsyncPulse (h : s.Queued wq) : s.tsyncPulse.Queued wq :=
  h.except fun h =>
    have h₁ := h.count
    .ite h₁.tsyncLoad <| .ite h₁.tsyncCheck.raise <| h₁.upon (·.tsyncCheck)

theorem tsyncoPulse (h : s.Queued wq) : s.tsyncoPulse.Queued wq :=
  h.upon fun h => { h with }

theorem outSent (h : s.Queued wq) : s.outSent.Queued wq := by
  unfold State.outSent
  split
  · exact h.upon fun h => .raise <| .ite (.set64 { h with }) <| .set { h with }
  · exact h

theorem stepGo (h : s.Queued wq) : s.stepGo.Queued wq :=
  .ite h.raise { h with }

theorem stepDone (h : s.Queued wq) : s.stepDone.Queued wq :=
  .ite (.raise { h with }) <| h.upon fun h => .raise <| .set <| .timeMoved { h with }

theorem validSet (h : s.Queued wq) : s.validSet.Queued wq :=
  h.set

theorem nowLo {c} (h : s.Queued wq) : (s.nowLo c).Queued wq :=
  { h with }

theorem slewHold (h : s.Queued wq) : s.slewHold.Queued wq :=
  { h with }

theorem tick (h : s.Queued wq) : s.tick.Queued wq := by
  unfold State.tick
  dsimp only
  split
  · exact .upon (.slewHold <| .dpdWatch { h with }) fun h => .set <| .set { h with }
  · exact .slewHold <| .dpdWatch { h with }

/-! ### `Beam` -/

theorem windowWrite {c a v} (h : s.Queued wq) : (s.windowWrite c a v).2.Queued wq := by
  unfold State.windowWrite
  split
  split
  · exact h
  · split
    · exact h
    · split
      · exact h
      · split
        next t e => exact h.writePartial.of_eq e
        next t e => exact h.writePartial.of_eq e

theorem windowRead {c a} (h : s.Queued wq) : (s.windowRead c a).2.2.Queued wq := by
  unfold State.windowRead
  split
  · exact h
  · split
    · exact h
    · split
      next t e => exact h.readMem.of_eq e
      next t e => exact h.readMem.of_eq e

theorem finish {c addr status data} (h : s.Queued wq) : (s.finish c addr status data).Queued wq :=
  .ite h.refuse.reply h.reply

theorem weightWrite {c a v} (h : s.Queued wq) : (s.weightWrite c a v).Queued wq :=
  h.except (·.windowWrite.finish)

theorem fillGo (h : s.Queued wq) : s.fillGo.Queued wq :=
  .set { h with }

theorem healBank {blk} (h : s.Queued wq) : (s.healBank blk).Queued wq :=
  .foldl { h with } (·.set)

theorem fillDone (h : s.Queued wq) : s.fillDone.Queued wq :=
  h.upon fun h => .raise <| .set <| .healBank <|
    .except (.foldl { h with } (·.setEcc)) (·.count.raise)

theorem renorm {d} (h : s.Queued wq) : (s.renorm d).Queued wq :=
  (h.foldl (·.set)).except (·.raise)

theorem renormDone {d} (h : s.Queued wq) : (s.renormDone d).Queued wq :=
  h.setBeam.set.upon (·.renorm)

theorem weightDamaged {d l k} (h : s.Queued wq) : (s.weightDamaged d l k).Queued wq := by
  unfold State.weightDamaged
  dsimp only
  split
  · exact h
  · exact h.except fun h => .forcingChanged <| .queueEvt <|
      .upon (.set64 <| .set <| .set <| .set <| .set <| .count <| .set <| .eccUE <| .setEcc { h with }) (·.raise)

theorem weightScan {d} (h : s.Queued wq) : (s.weightScan d).Queued wq := by
  unfold State.weightScan
  split
  · exact h
  · exact h.except fun h => h.foldl fun h => h.foldl fun h => h.upon (·.weightDamaged)

theorem weightWhole {blk l k even odd} (h : s.Queued wq) : (s.weightWhole blk l k even odd).Queued wq := by
  unfold State.weightWhole
  extract_lets w s₁ d s₂ d' s₃ n
  have h₁ : s₁.Queued wq := h.eccWhole.setWords
  clear_value s₁
  have h₂ : s₂.Queued wq := h₁.except fun h => { h with }
  clear_value s₂
  have h₃ : s₃.Queued wq := { h₂ with }
  exact h₃.upon (·.healBank)

theorem limitNote {old new ev} (h : s.Queued wq) : (s.limitNote old new ev).Queued wq :=
  h.upon (·.count.raise)

theorem setAtts {ps ls} (h : s.Queued wq) : (s.setAtts ps ls).Queued wq :=
  (h.foldl (·.set)).foldl (·.set)

theorem limiterEnd (h : s.Queued wq) : s.limiterEnd.Queued wq :=
  h.upon fun h => .foldl (.foldl { h with } (·.limitNote)) (·.limitNote)

theorem gdNote {n} (h : s.Queued wq) : (s.gdNote n).Queued wq :=
  h.set.set

theorem keep {old : State} {l} (h : s.Queued wq) : (s.keep old l).Queued wq :=
  h.set

theorem swapSets {d} (h : s.Queued wq) : (s.swapSets d).Queued wq :=
  h.foldl fun h => h.upon fun h =>
    have h₁ := h.set
    .ite h₁.set h₁.raise

theorem beamCommitted {old : State} {d} (h : s.Queued wq) : (s.beamCommitted old d).Queued wq := by
  unfold State.beamCommitted
  extract_lets lim s₁ fields changed kept s₂ erl late s₃ up strm s₄ s₅ set s₆ empty s₇ s₈ s₉
  have h₁ : s₁.Queued wq := h.upon (·.set)
  have hk : kept.Queued wq := h₁.keep.keep.keep.raise
  have h₂ : s₂.Queued wq := .ite (h₁.foldl (·.keep)).raise <| h₁.upon fun _ => hk.upon (·.set)
  have h₃ : s₃.Queued wq := h₂.except fun h => .ite { h with } <| .count { h with }
  have h₄ : s₄.Queued wq :=
    h₃.except fun h => .ite (h.foldl (·.upon (·.decAlign))) <| .same h.clearUp rfl
  have h₉ : s₉.Queued wq := (h₄.swapSets.set.set.set.upon (·.raise)).setBeam.set.renorm.weightScan
  exact h₉.except (·.foldl (·.gdNote))

/-! ### `Dpd` -/

theorem frozenWritten {p v} (h : s.Queued wq) : (s.frozenWritten p v).Queued wq :=
  have h₁ := h.set
  .ite h₁.dpdLeave.dpdLap.dpdNote h₁.dpdNote

theorem modelDamaged {p w} (h : s.Queued wq) : (s.modelDamaged p w).Queued wq :=
  h.upon (·.setEcc.eccUE.frozenWritten.raise)

theorem modelScan {p} (h : s.Queued wq) : (s.modelScan p).Queued wq :=
  h.except fun h => h.foldl fun h => h.upon (·.modelDamaged)

theorem dpdSwap {p} (h : s.Queued wq) : (s.dpdSwap p).Queued wq :=
  h.dpdToggle.modelScan

theorem dpdEnApply {p} (h : s.Queued wq) : (s.dpdEnApply p).Queued wq :=
  h.except fun h =>
    have h₁ := h.set.gdNote
    .dpdNote <| .ite h₁.dpdAbort h₁.modelScan

theorem dpdAssign {c} (h : s.Queued wq) : (s.dpdAssign c).Queued wq := by
  unfold State.dpdAssign
  split
  · exact h.upon (·.setDpdJob.dpdNote)
  · exact h

theorem dpdPort {k kind p a b} (h : s.Queued wq) : (s.dpdPort k kind p a b).Queued wq :=
  h.set.set.set.capArm.upon (·.capFeeds.capTrigger.setCap)

theorem dpdCapture {c} (h : s.Queued wq) : (s.dpdCapture c).Queued wq := by
  unfold State.dpdCapture
  split
  · exact h
  · exact h.upon fun h =>
      have h₁ := h.dpdPort.dpdPort
      .ite h₁.setDpdJob h₁.dpdCapStop

theorem ipend {c i} (h : s.Queued wq) : (s.ipend c i).Queued wq :=
  { h with }

theorem jobWrite {c p t} (h : s.Queued wq) : (s.jobWrite c p t).Queued wq :=
  h.set.set.set.set.set.set64.set.raise.ipend

theorem dpdCaptured {c} (h : s.Queued wq) : (s.dpdCaptured c).Queued wq := by
  unfold State.dpdCaptured
  split
  · exact h
  · split
    · exact h
    · exact h.except fun h => .ite h.dpdVoid h.capEnd.capEnd.setDpdJob.jobWrite

theorem jobRelease {c} (h : s.Queued wq) : (s.jobRelease c).Queued wq := by
  unfold State.jobRelease
  split
  · exact h.dpdResult
  · exact h

theorem dpdBare {p} (h : s.Queued wq) : (s.dpdBare p).Queued wq :=
  h.dpdSwap.dpdResult

theorem bareTick (h : s.Queued wq) : s.bareTick.Queued wq :=
  h.foldl fun h => h.upon (·.dpdBare)

theorem updReq {p} (h : s.Queued wq) : (s.updReq p).Queued wq := by
  refine .ite h.dpdResult ?_
  split
  · exact h.dpdResult.count.raise
  · exact .ite h.dpdBare h.set.setDpdPath

theorem guardBaseline {p} (h : s.Queued wq) : (s.guardBaseline p).Queued wq :=
  h.upon (·.set.setDpdPath.dpdSwap)

theorem guardVerdict {p} (h : s.Queued wq) : (s.guardVerdict p).Queued wq :=
  h.upon fun h =>
    have h₁ := h.freeNat.freeNat.set.set
    .ite h₁.dpdToggle.set.dpdResult.count.raise h₁.dpdResult

theorem guardTimeout {p} (h : s.Queued wq) : (s.guardTimeout p).Queued wq :=
  h.upon fun h => .raise <| .ite h.dpdResult h.dpdToggle.dpdResult

theorem modelWrite {c a v} (h : s.Queued wq) : (s.modelWrite c a v).2.Queued wq := by
  unfold State.modelWrite
  split
  · exact h
  · split
    · exact h
    · split
      next t e => exact h.writePartial.of_eq e
      next t e => exact h.writePartial.of_eq e

theorem modelRead {c a} (h : s.Queued wq) : (s.modelRead c a).2.2.Queued wq := by
  refine .ite₃ h <| .ite₃ h <| .ite₃ h ?_
  split
  next t e => exact h.readMem.of_eq e
  next t e => exact h.readMem.of_eq e

/-! ### `Cal` -/

theorem setCal {f} (h : s.Queued wq) : (s.setCal f).Queued wq :=
  { h with }

theorem refCheck {dev} (h : s.Queued wq) : (s.refCheck dev).Queued wq :=
  h.except fun h =>
    have h₁ := h.setCal.seti
    .ite h₁.set h₁.set.raiseLog

theorem target {l iq n v} (h : s.Queued wq) : (s.target l iq n v).Queued wq :=
  h.setBoth.slewFrom

theorem targets {n fs vs} (h : s.Queued wq) : (s.targets n fs vs).Queued wq := by
  induction fs generalizing s vs with
  | nil => exact h
  | cons f fs ih =>
    cases vs with
    | nil => exact h
    | cons v vs => exact ih h.target

theorem calApply {r} (h : s.Queued wq) : (s.calApply r).Queued wq :=
  .raise <| .ite h.setCal.targets <| .ite h.targets <| .ite h.setCal <| .ite h.setRx <| .ite h.targets <|
    .ite h.targets h.setTx

theorem sparesOut {k p out} (h : s.Queued wq) : (s.sparesOut k p out).Queued wq :=
  h.except fun h =>
    have h₁ := (h.upon (·.set)).upon (·.set)
    .ite h₁.raiseLog.retireCand h₁.raiseLog.retireCand

theorem calStamp {k p} (h : s.Queued wq) : (s.calStamp k p).Queued wq :=
  have h₁ := h.setCal
  .ite h₁.set <| h₁.upon (·.set)

theorem fgKindEnd {k p} (h : s.Queued wq) : (s.fgKindEnd k p).Queued wq :=
  h.fgMap.fgNext

theorem calResult {k p vals reason out} (h : s.Queued wq) : (s.calResult k p vals reason out).Queued wq :=
  h.except fun h =>
    have h₁ := h.upon (·.sparesOut)
    .ite h₁.calFail <| .ite h₁.calFail.fgKindEnd <|
      have h₁ := h₁.calStamp.fgKindEnd
      .ite h₁.set <| .ite h₁.count.raise <| .ite h₁.setCal h₁.calApply

theorem calPageFree {pg} (h : s.Queued wq) : (s.calPageFree pg).Queued wq :=
  h.setCal.foldl (·.calApply)

theorem trimApply {p} (h : s.Queued wq) : (s.trimApply p).Queued wq :=
  h.setCal.foldl fun h => .ite h.setBoth.setBoth <| .ite h.set h.set

theorem loPhaseDone {x phases} (h : s.Queued wq) : (s.loPhaseDone x phases).Queued wq := by
  unfold State.loPhaseDone
  split
  · exact h.upon fun h => .foldl { h with } fun h => h.upon (·.set)
  · exact h

theorem setCorr {x p c} (h : s.Queued wq) : (s.setCorr x p c).Queued wq :=
  h.setCal

theorem setNow {x p re im} (h : s.Queued wq) : (s.setNow x p re im).Queued wq :=
  h.set.set

theorem gainReached {x p} (h : s.Queued wq) : (s.gainReached x p).Queued wq := by
  unfold State.gainReached
  split <;> exact h.setNow

theorem corrAtOnce {x p} (h : s.Queued wq) : (s.corrAtOnce x p).Queued wq :=
  h.gainReached.seti.setCorr.upon (·.gdNote)

theorem corrStep {x p} (h : s.Queued wq) : (s.corrStep x p).Queued wq :=
  .ite (.setCorr <| .seti <| .ite₂ h <| .ite₂ h.gainReached h.setNow) <| .setCorr <| .ite₂ h <|
    .ite₂ h.gainReached h.setNow

theorem corrUpdate (h : s.Queued wq) : s.corrUpdate.Queued wq :=
  h.upon fun h => .foldl (h.foldl fun h => h.foldl fun h => h.except fun h => .ite h.corrAtOnce h.corrStep)
      (·.gdNote)

theorem calCommitted {x} (h : s.Queued wq) : (s.calCommitted x).Queued wq :=
  .foldl (h.foldl fun h => h.upon (·.corrAtOnce)) (·.gdNote)

theorem arrayApply {x p re im dly} (h : s.Queued wq) : (s.arrayApply x p re im dly).Queued wq :=
  (h.setBoth.setBoth.setBoth.except (·.corrAtOnce)).raise

theorem arrayResult {d p g dly} (h : s.Queued wq) : (s.arrayResult d p g dly).Queued wq :=
  h.except fun h => .ite h.calFail <|
    have h₁ := h.setCal
    .upon (.fgKindEnd <| .calStamp <| .setCal <| .seti <| .ite h₁.set.set.set h₁.set.set.set) fun h =>
      have h₁ := h.freeNat
      .ite h₁.count.raise <| .ite h₁.setCal h₁.arrayApply

theorem arrayOther {q g dly} (h : s.Queued wq) : (s.arrayOther q g dly).Queued wq :=
  h.upon (·.set.set)

theorem arrayPageFree {x} (h : s.Queued wq) : (s.arrayPageFree x).Queued wq :=
  h.setCal.foldl (·.arrayApply)

theorem fgGo (h : s.Queued wq) : s.fgGo.Queued wq :=
  h.except fun h => .ite h.calFail <|
    have h₁ := h.set.setCal.fgEnd
    .ite (h₁.foldl fun h => h.upon (·.rangeStart)) h₁.fgNext

theorem fgAbort (h : s.Queued wq) : s.fgAbort.Queued wq :=
  h.upon (·.fgEnd)

theorem fgDone (h : s.Queued wq) : s.fgDone.Queued wq :=
  h.upon fun h => h.set.setCal.raise.upon fun h => h.foldl fun h => h.upon (·.rangeStart)

theorem calDue {k p} (h : s.Queued wq) : (s.calDue k p).Queued wq :=
  h.except fun h =>
    have h₁ := h.setCal
    .ite h₁.set.raise <| h₁.upon (·.set.raise)

/-! ### `Erl` -/

theorem setErl {f} (h : s.Queued wq) : (s.setErl f).Queued wq :=
  { h with }

theorem markerSend {ofs resume} (h : s.Queued wq) : (s.markerSend ofs resume).Queued wq :=
  h.upon (·.setErl)

theorem markerReceive {lane block frac skew} (h : s.Queued wq) : (s.markerReceive lane block frac skew).Queued wq :=
  h.except fun h => .ite (h.except (·.count.raise)) <|
    h.except fun h => (h.setErl.upon (·.seti)).set.upon (·.setErl)

theorem linkDown {cause} (h : s.Queued wq) : (s.linkDown cause).Queued wq := by
  unfold State.linkDown
  extract_lets up s₁ s₂ s₃ s₄ s₅
  have h₂ : s₂.Queued wq := h.set.set.setErl
  have h₅ : s₅.Queued wq := h₂.set.count.raiseLog.setErl
  exact h₂.upon fun _ => .selectSource { h₅ with }

theorem windowJudge (h : s.Queued wq) : s.windowJudge.Queued wq :=
  h.upon fun h =>
    have h₁ := h.setErl
    .ite h₁.linkDown <| h₁.upon (·.set)

theorem linkUp (h : s.Queued wq) : s.linkUp.Queued wq :=
  h.upon fun h => h.set.raise.except (·.queueEvt)

theorem openEnvelope {cls ws} (h : s.Queued wq) : (s.openEnvelope cls ws).2.Queued wq := by
  rw [show State.openEnvelope = _ from by delta State.openEnvelope; rfl]
  dsimp only
  refine .ite₂ h.count <| .ite₂ h.count ?_
  split
  · exact .snd h.setErl
  · exact .snd h.count.raiseLog

theorem receive {ws broken} (h : s.Queued wq) : (s.receive ws broken).2.Queued wq := by
  unfold State.receive
  extract_lets w0 cls seq prev s₁ s₂
  have h₂ : s₂.Queued wq := (h.except (·.count)).setErl
  clear_value s₂
  refine .ite₂ h <| .ite₂ h <| .ite₂ (.snd h.count.raise.setErl) <| .ite₂ h.count <| .ite₂ h.count.raise <|
    .ite₂ h₂ <| .ite₂ ?_ h₂
  split
  next t e => exact h₂.openEnvelope.of_eq e
  next t e => exact h₂.openEnvelope.of_eq e

theorem receiveAs {cls sub ws broken} (h : s.Queued wq) : (s.receiveAs cls sub ws broken).2.Queued wq := by
  unfold State.receiveAs
  split
  next t e => exact .ite₂ (h.receive.of_eq e) (h.receive.of_eq e)
  · exact h.receive

theorem packet {cls sub w1 body} (h : s.Queued wq) : (s.packet cls sub w1 body).Queued wq := by
  unfold State.packet
  exact h.setErl

theorem send {cls sub w1 body} (h : s.Queued wq) : (s.send cls sub w1 body).Queued wq :=
  h.upon (·.packet)

theorem sendClear (h : s.Queued wq) : s.sendClear.Queued wq :=
  h.setErl

theorem iqd {p} (h : s.Queued wq) : (s.iqd p).Queued wq :=
  .ite h.count <| .ite h.count <| .ite h.count (h.upon (·.count)).setErl

theorem iqdPacket {ws broken} (h : s.Queued wq) : (s.iqdPacket ws broken).Queued wq := by
  unfold State.iqdPacket
  split
  next t e => exact (h.receiveAs.of_eq e).iqd
  next t e => exact h.receiveAs.of_eq e

theorem playoutMiss {k} (h : s.Queued wq) : (s.playoutMiss k).Queued wq :=
  h.upon fun h => h.count.except (·.setErl.raise)

theorem iquWindow (h : s.Queued wq) : s.iquWindow.Queued wq :=
  h.sendClear.upon fun h => .except { h with } fun h => h.foldl (·.send)

theorem ctlAck {p status} (h : s.Queued wq) : (s.ctlAck p status).Queued wq :=
  h.send

theorem ctl {sub waiting ws broken eff} (h : s.Queued wq) (hf : ∀ {p t}, t.Queued wq → (eff p t).2.Queued wq) :
    (s.ctl sub waiting ws broken eff).Queued wq := by
  unfold State.ctl
  split
  next t e =>
    have h₁ := h.sendClear.receiveAs.of_eq e
    exact .ite h₁.count (hf h₁).ctlAck
  next t e => exact h.sendClear.receiveAs.of_eq e

theorem ctlPair {d set b l k even odd} (h : s.Queued wq) : (s.ctlPair d set b l k even odd).2.Queued wq := by
  unfold State.ctlPair
  dsimp only
  split
  · exact h
  · refine .ite₂ h ?_
    split
    · exact h
    · split
      · exact h
      · exact h.weightWhole

theorem ctlWeights {p} (h : s.Queued wq) : (s.ctlWeights p).2.Queued wq :=
  .foldl₂ h fun h => .ite h.ctlPair.refuse h.ctlPair

theorem ctlEntry {t act arg} (h : s.Queued wq) : (s.ctlEntry t act arg).2.Queued wq := by
  unfold State.ctlEntry
  dsimp only
  split
  · exact h.refuse.upon (·.raise)
  · exact h.push

theorem ctlTimeline {p} (h : s.Queued wq) : (s.ctlTimeline p).2.Queued wq :=
  .foldl₂ h (·.ctlEntry)

theorem ctlSleep {p} (h : s.Queued wq) : (s.ctlSleep p).2.Queued wq :=
  .ite (h.except (·.setLane)) (h.except (·.setLane)).setLane

theorem evtSend (h : s.Queued wq) : s.evtSend.Queued wq := by
  unfold State.evtSend
  extract_lets s₁
  have h₁ : s₁.Queued wq := h.sendClear
  split
  next => exact h₁
  next e t hq =>
    have hs : ({ s₁ with evtQ := t } : State).Queued wq := { h₁ with }
    refine .ite ?_ h₁
    split <;> exact hs.send

theorem exportWords {k o n} (h : s.Queued wq) : (s.exportWords k o n).2.Queued wq := by
  induction n generalizing s o with
  | zero => exact h
  | succ n ih =>
    unfold State.exportWords
    split
    next t e => exact ih (h.readMem.of_eq e)
    next t e => exact (h.readMem.of_eq e).setCap

theorem captureExport {k} (h : s.Queued wq) : (s.captureExport k).Queued wq :=
  h.sendClear.except fun h => .ite (h.except (·.setCap.raise)) <|
    h.except fun h => .ite h.exportWords h.exportWords.setCap.send

theorem setTim {f} (h : s.Queued wq) : (s.setTim f).Queued wq :=
  { h with }

theorem timReject (h : s.Queued wq) : s.timReject.Queued wq :=
  h.count.raise

theorem timReq {ws broken t2} (h : s.Queued wq) : (s.timReq ws broken t2).Queued wq := by
  unfold State.timReq
  split
  next t e => exact ((h.receiveAs.of_eq e).setTim.upon (·.setTim.timReject)).setTim
  next t e => exact h.receiveAs.of_eq e

theorem timRsp {id t3} (h : s.Queued wq) : (s.timRsp id t3).Queued wq := by
  unfold State.timRsp
  dsimp only
  split
  · exact h.sendClear.upon (·.setTim.send)
  · exact h.sendClear

theorem timFin {ws broken} (h : s.Queued wq) : (s.timFin ws broken).Queued wq := by
  unfold State.timFin
  split
  next t e =>
    dsimp only
    split
    · exact (h.receiveAs.of_eq e).timReject
    · exact
        have h₁ := (h.receiveAs.of_eq e).setTim
        .ite h₁.timReject <| .ite h₁.timReject h₁.freeNat.setTim.seti.seti.count.raise.selectSource
  next t e => exact h.receiveAs.of_eq e

/-! ### `Cumin` -/

theorem setSnd {f} (h : s.Queued wq) : (s.setSnd f).Queued wq :=
  { h with }

theorem burstStart (h : s.Queued wq) : s.burstStart.Queued wq :=
  h.except fun h => .ite (h.setSnd.set.upon (·.raise)) h.count.raise

theorem burstSent (h : s.Queued wq) : s.burstSent.Queued wq := by
  unfold State.burstSent
  split
  · exact h.except (·.setSnd.set.set.set.bump.count.raise)
  · exact h

theorem agcStep {lvl} (h : s.Queued wq) : (s.agcStep lvl).Queued wq :=
  h.upon fun h => h.except fun h => h.setSnd.foldl (·.setLive.rxInvalid)

theorem burstDetect {beamB} (h : s.Queued wq) : (s.burstDetect beamB).Queued wq :=
  h.upon (·.setSnd.set.count)

theorem sndSearch (h : s.Queued wq) : s.sndSearch.Queued wq :=
  h.setSnd.set

theorem falseDetect (h : s.Queued wq) : s.falseDetect.Queued wq :=
  h.upon (·.count.sndSearch)

theorem rxqNote (h : s.Queued wq) : s.rxqNote.Queued wq :=
  h.set.foldl (·.set)

theorem sndRecord {b} (h : s.Queued wq) : (s.sndRecord b).Queued wq := by
  refine h.except fun h => .ite h.count.sndSearch ?_
  dsimp only
  split
  · exact h.count.raise.sndSearch
  · exact
      have h₁ := h.setSnd
      .sndSearch <| .ite h₁.raise h₁.setSnd.rxqNote.raise

theorem sndPop (h : s.Queued wq) : s.sndPop.Queued wq :=
  h.setSnd.rxqNote

theorem remPeerNote (h : s.Queued wq) : s.remPeerNote.Queued wq := by
  unfold State.remPeerNote
  split
  · exact h.set
  · exact h

theorem xferDone (h : s.Queued wq) : s.xferDone.Queued wq := by
  refine h.except fun h => ?_
  dsimp only
  split
  · exact h.set.remPeerNote.set.raise
  · exact h.set.set.set.seti.seti.count.setSnd.raise.upon fun h => .selectSource <| .seti <| .same h.freeNat rfl

/-! ### `TxStream` -/

theorem limiterSum {ys} (h : s.Queued wq) : (s.limiterSum ys).Queued wq :=
  { h with }

theorem downlink (h : s.Queued wq) : s.downlink.Queued wq := by
  unfold State.downlink
  extract_lets vs ys zero s₁ m s₂
  have h₁ : s₁.Queued wq := h.limiterSum
  clear_value s₁
  have h₂ : s₂.Queued wq := { h₁ with }
  exact h.except fun _ => h₂.foldl (·.count.raise)

theorem cfrLimit {n} (h : s.Queued wq) : (s.cfrLimit n).Queued wq :=
  h.except fun h => .raise { h with }

theorem cfrStep {d x} (h : s.Queued wq) : (s.cfrStep d x).2.2.Queued wq := by
  refine .ite₃ h ?_
  dsimp only
  split
  · exact .ite₂ h.count h.cfrLimit
  · exact h

theorem txFront {d} (h : s.Queued wq) : (s.txFront d).2.2.Queued wq :=
  .ite₃ h h.cfrStep

theorem txStep {d} (h : s.Queued wq) : (s.txStep d).2.Queued wq :=
  h.txFront.upon (·.count.raise)

/-! ### `Stream` -/

theorem rxTick {pages} (h : s.Queued wq) : (s.rxTick pages).Queued wq :=
  .foldl { h with } (·.count.raise)

theorem txTick {pages} (h : s.Queued wq) : (s.txTick pages).Queued wq := by
  unfold State.txTick
  extract_lets m s₁ s₂ r
  have h₁ : s₁.Queued wq := { h with }
  have h₂ : s₂.Queued wq := h₁.downlink
  have hr : r.2.Queued wq := .foldl₂ h₂ (·.txStep)
  clear_value r
  exact { hr with }

theorem uplink (h : s.Queued wq) : s.uplink.Queued wq :=
  h.except fun h => .foldl { h with } (·.count.raise)

theorem thrTick (h : s.Queued wq) : s.thrTick.Queued wq := by
  refine .foldl (h.foldl ?_) ?_
  all_goals
    intro t n h
    split
    · exact h.thrSample
    · exact h

theorem tapStart {t} (h : s.Queued wq) : (s.tapStart t).Queued wq :=
  h.setTap

theorem tapTake {t x} (h : s.Queued wq) : (s.tapTake t x).Queued wq :=
  h.setTap

theorem tapTick {t} (h : s.Queued wq) : (s.tapTick t).Queued wq := by
  unfold State.tapTick
  refine .ite h.setTap ?_
  extract_lets s₁
  have h₁ : s₁.Queued wq := h.tapStart
  split
  · exact h₁
  · refine .ite ?_ h₁.setTap.tapTake
    extract_lets x s₂
    have h₂ : s₂.Queued wq := h₁.setTap
    split
    · exact h₂.tapTake
    · exact h₂

theorem capTick {k} (h : s.Queued wq) : (s.capTick k).Queued wq := by
  refine h.except fun h => ?_
  split
  · exact h.capFeeds.capDrain
  · exact h

theorem burstReplay {d} (h : s.Queued wq) : (s.burstReplay d).2.Queued wq := by
  unfold State.burstReplay
  extract_lets lead r
  have hr : r.2.Queued wq := .foldl₂ h fun h => .txStep { h with }
  clear_value r
  exact .snd { hr with }

theorem burstSend (h : s.Queued wq) : s.burstSend.Queued wq := by
  unfold State.burstSend
  extract_lets t r
  have ht : t.Queued wq := h.burstStart
  clear_value t
  have hr : r.2.Queued wq := .foldl₂ ht fun h => .ite₂ h.burstReplay h
  clear_value r
  exact .ite ht { hr with }

theorem sndHist (h : s.Queued wq) : s.sndHist.Queued wq :=
  { h with }

theorem sndTick (h : s.Queued wq) : s.sndTick.Queued wq :=
  have h₁ := h.sndHist
  .ite h₁.setSnd <| h₁.except (·.setSnd)

theorem arrCount {key} (h : s.Queued wq) : (s.arrCount key).Queued wq :=
  { h with }

theorem arrTick (h : s.Queued wq) : s.arrTick.Queued wq :=
  h.except fun h => .upon { h with } fun h => .same (h.foldl (·.arrCount)) rfl

theorem attTick (h : s.Queued wq) : s.attTick.Queued wq := by
  unfold State.attTick
  split
  · exact h.except fun h => .setAtts { h with }
  · exact h

theorem streamTick (h : s.Queued wq) : s.streamTick.Queued wq :=
  h.except fun h => ((h.attTick.rxTick.txTick.uplink.thrTick.foldl (·.tapTick)).foldl (·.capTick)).sndTick.arrTick

/-! ### `Anise` -/

theorem aniseUnbind (h : s.Queued wq) : s.aniseUnbind.Queued wq :=
  h.upon (·.setBc.aniseLapse.raise.selectSource)

theorem aniseTune {khz newStd} (h : s.Queued wq) : (s.aniseTune khz newStd).Queued wq :=
  h.except fun h => h.set.aniseUnsync.aniseUnbind.setBc.upon (·.set.set)

theorem retune {std khz} (h : s.Queued wq) : (s.retune std khz).Queued wq :=
  .ite h.raise <| h.except (·.set.set.setBc.aniseTune)

theorem aniseOn (h : s.Queued wq) : s.aniseOn.Queued wq :=
  h.setBc.set.set.set

theorem aniseOff (h : s.Queued wq) : s.aniseOff.Queued wq :=
  h.aniseUnsync.aniseLapse.set.set.set.setBc.selectSource

theorem synthLock (h : s.Queued wq) : s.synthLock.Queued wq :=
  h.upon (·.setBc)

theorem feCalDone (h : s.Queued wq) : s.feCalDone.Queued wq :=
  h.upon (·.setBc.set.set)

theorem qualNote {q} (h : s.Queued wq) : (s.qualNote q).Queued wq :=
  h.except (·.seti.seti.set)

theorem aerForced (h : s.Queued wq) : s.aerForced.Queued wq :=
  h.upon (·.set)

theorem sdqNote (h : s.Queued wq) : s.sdqNote.Queued wq :=
  h.set.foldl (·.set)

theorem sdq {tag prio fm stamp w3 p} (h : s.Queued wq) : (s.sdq tag prio fm stamp w3 p).Queued wq :=
  h.except fun h => (h.upon (·.count.raise)).except fun h => h.setBc.sdqNote.upon (·.raise)

theorem sdqPop (h : s.Queued wq) : s.sdqPop.Queued wq :=
  h.setBc.sdqNote

theorem sdqFlush (h : s.Queued wq) : s.sdqFlush.Queued wq :=
  h.setBc.sdqNote

theorem divDecide {q} (h : s.Queued wq) : (s.divDecide q).Queued wq :=
  .ite h.setBc <| .ite (.ite h.set.setBc h.setBc) h.setBc

theorem weakNote (h : s.Queued wq) : s.weakNote.Queued wq :=
  .ite h.setBc h.setBc

theorem rdsBlock {ofs ok q} (h : s.Queued wq) : (s.rdsBlock ofs ok q).Queued wq :=
  h.except fun h =>
    have h₁ := h.qualNote.divDecide.weakNote
    .ite (.ite h₁.setBc <| h₁.count.setBc.upon (·.aniseSyncLoss)) <| h₁.setBc.upon (·.setBc.set.set.raise)

theorem piChange (h : s.Queued wq) : s.piChange.Queued wq := by
  unfold State.piChange
  exact (h.set.set.set.set.foldl (·.set)).setBc

theorem rdsHead {a b} (h : s.Queued wq) : (s.rdsHead a b).Queued wq :=
  (h.setBc.upon (·.piChange)).upon (·.set.set.set.set)

theorem rdsPs {prio stamp w3 seg d} (h : s.Queued wq) : (s.rdsPs prio stamp w3 seg d).Queued wq :=
  h.setBc.upon fun h => h.except (·.set.set.sdq)

theorem rdsAf {prio stamp w3 c} (h : s.Queued wq) : (s.rdsAf prio stamp w3 c).Queued wq := by
  unfold State.rdsAf
  dsimp only
  split
  · exact .ite (h.setBc.upon fun h => (h.set.foldl (·.set)).sdq) h.setBc
  · exact h

theorem rdsGroup {a b c d stamp} (h : s.Queued wq) : (s.rdsGroup a b c d stamp).Queued wq :=
  h.except fun h =>
    have h₁ := h.rdsHead.setBc.upon (·.raise)
    .ite (h₁.set.rdsPs.upon (·.rdsAf)) <| .ite (h₁.upon (·.set)) <| .ite h₁.sdq <| .ite h₁.sdq <| .ite h₁.sdq <|
      h₁.upon (·.sdq)

theorem aniseHop {khz} (h : s.Queued wq) : (s.aniseHop khz).Queued wq :=
  h.aniseTune.count.raise

theorem afCheck {level} (h : s.Queued wq) : (s.afCheck level).Queued wq := by
  refine h.except fun h => ?_
  dsimp only
  split
  · exact h.upon (·.setBc)
  · exact (h.upon (·.setBc)).setBc.upon (·.setBc.aniseHop)

theorem afPi {pi} (h : s.Queued wq) : (s.afPi pi).Queued wq := by
  unfold State.afPi
  split
  · exact h
  · exact .ite h.setBc <| .ite (h.upon (·.setBc)) h.setBc.aniseHop

theorem calFrame {f} (h : s.Queued wq) : (s.calFrame f).Queued wq :=
  .ite h.setBc <| h.except fun h => h.setBc.except (·.freeNat.set.set.set.set.setBc.set.raise)

theorem gatePass {f ph} (h : s.Queued wq) : (s.gatePass f ph).Queued wq :=
  .selectSource <| .setBc <| .set <| .set <| .seti <| .same h.freeNat.freeNat rfl

theorem gateMiss {ph} (h : s.Queued wq) : (s.gateMiss ph).Queued wq :=
  h.setBc.except fun h => .ite h.setBc.raise h.set.aniseLapse.setBc.raise.selectSource

theorem gateFrame {f} (h : s.Queued wq) : (s.gateFrame f).Queued wq :=
  h.set.except fun h => .ite (.ite h.gatePass h.gateMiss) h.aniseUnbind

theorem fig00 {eid cif} (h : s.Queued wq) : (s.fig00 eid cif).Queued wq :=
  (h.except (·.setBc)).set.set.set

theorem fig {stamp alarm g} (h : s.Queued wq) : (s.fig stamp alarm g).Queued wq := by
  unfold State.fig
  dsimp only
  split
  · exact h
  · exact h
  · exact h
  · exact h.setBc.sdq
  · exact h.sdq
  · exact h
  · exact h.upon (·.sdq)
  · exact h.setBc.sdq
  · exact h.setBc.sdq
  · exact h.sdq
  · exact h.upon (·.sdq)

theorem dabAerial {q} (h : s.Queued wq) : (s.dabAerial q).Queued wq :=
  h.except fun h => .ite h.set <| h.upon (·.set)

theorem dabSync (h : s.Queued wq) : s.dabSync.Queued wq :=
  h.setBc.except fun h => h.set.raise.setBc.upon (·.count.raise)

theorem dabBody {x f} (h : s.Queued wq) : (s.dabBody x f).Queued wq := by
  refine .set <| .foldl (.setBc <| .upon (.gateFrame <| .calFrame <| .set <| .set <| .set ?_) (·.raise)) (·.fig)
  split
  · exact h.count.fig00
  · exact h.count

theorem dabFrame {x} (h : s.Queued wq) : (s.dabFrame x).Queued wq := by
  refine h.except fun h => ?_
  dsimp only
  split
  · exact h.dabAerial.qualNote.dabSync.upon (·.dabBody)
  · exact h.dabAerial.qualNote.setBc

theorem dabPacket {addr data ok f} (h : s.Queued wq) : (s.dabPacket addr data ok f).Queued wq :=
  h.except fun h => .ite h.count <| h.upon (·.sdq)

theorem tryCandidate (h : s.Queued wq) : s.tryCandidate.Queued wq := by
  unfold State.tryCandidate
  split
  · exact h.setBc
  · exact h.aniseTune.setBc

theorem dabFollow (h : s.Queued wq) : s.dabFollow.Queued wq :=
  h.upon (·.setBc.tryCandidate)

theorem candidateTimeout (h : s.Queued wq) : s.candidateTimeout.Queued wq := by
  unfold State.candidateTimeout
  split
  · exact h.upon (·.tryCandidate)
  · exact h

theorem timingCalGo (h : s.Queued wq) : s.timingCalGo.Queued wq :=
  h.setBc

theorem timingCalClr (h : s.Queued wq) : s.timingCalClr.Queued wq :=
  h.set

theorem aniseTimeout (h : s.Queued wq) : s.aniseTimeout.Queued wq := by
  unfold State.aniseTimeout
  split
  · exact h.upon (·.aniseLapse.selectSource)
  · exact h

/-! ### `Bus` -/

theorem readAs {c a refusal} (h : s.Queued wq) : (s.readAs c a refusal).2.2.Queued wq := by
  unfold State.readAs
  split
  · exact h
  · split
    next t e => exact h.readMem.of_eq e
    next t e => exact h.readMem.of_eq e

theorem busRead {c a} (h : s.Queued wq) : (s.busRead c a).2.2.Queued wq :=
  .ite₃ h <| .ite₃ h.readAs <| .ite₃ h <| .ite₃ h.readAs <| .ite₃ h.readAs <| .ite₃ h.windowRead <|
    .ite₃ h.modelRead h

theorem writeAs {c a v whole refusal} (h : s.Queued wq) : (s.writeAs c a v whole refusal).2.Queued wq := by
  unfold State.writeAs
  split
  · exact h
  · refine .ite₂ h.writeWhole ?_
    split
    next t e => exact h.writePartial.of_eq e
    next t e => exact h.writePartial.of_eq e

theorem busWrite {c a v} (h : s.Queued wq) : (s.busWrite c a v).2.Queued wq :=
  .ite₂ h <| .ite₂ h.writeAs <| .ite₂ h.writeAs <| .ite₂ h.writeAs <| .ite₂ h.windowWrite <| .ite₂ h.modelWrite h

theorem busWritePair {c a v w} (h : s.Queued wq) : (s.busWritePair c a v w).2.Queued wq := by
  refine .ite₂ h.writeWhole <| .ite₂ (.ite₂ h.writeAs.writeWhole h.writeAs) <| .ite₂ ?_ <| .ite₂ ?_ <|
    .ite₂ h.busWrite.busWrite h.busWrite
  · split
    split
    · split
      · exact h
      · split
        · exact h
        · exact h.weightWhole
    · exact h
  · split
    · exact h
    · split
      · exact h
      · exact h.writeWhole

theorem busWriteAll {c a ws} (h : s.Queued wq) : (s.busWriteAll c a ws).2.2.Queued wq := by
  induction ws using List.twoStepInduction generalizing s a with
  | nil => exact h
  | singleton v => exact h.busWrite
  | cons_cons v w t ih₁ ih₂ =>
    unfold State.busWriteAll
    exact .ite₃ (.ite₃ (ih₁ h.busWritePair) h.busWritePair) (.ite₃ (ih₂ _ h.busWrite) h.busWrite)

theorem busReadAll {c a n} (h : s.Queued wq) : (s.busReadAll c a n).2.2.2.Queued wq := by
  induction n generalizing s a with
  | zero => exact h
  | succ n ih =>
    unfold State.busReadAll
    extract_lets r
    have hr : r.2.2.Queued wq := h.busRead
    clear_value r
    split
    · exact ih hr
    · exact hr

/-! ### `Dma` -/

theorem setDma {c f} (h : s.Queued wq) : (s.setDma c f).Queued wq :=
  { h with }

theorem dmaNote (h : s.Queued wq) : s.dmaNote.Queued wq := by
  unfold State.dmaNote
  dsimp only
  split
  · exact h.set.set.set.set
  · exact h.set.set.set

theorem dmaBack {c done status residue} (h : s.Queued wq) : (s.dmaBack c done status residue).Queued wq :=
  h.upon (·.busWriteAll)

theorem dmaEnd {c status fail done} (h : s.Queued wq) : (s.dmaEnd c status fail done).Queued wq :=
  h.dmaBack.set.set.set.set.raise

theorem dmaBurst {c n} (h : s.Queued wq) : (s.dmaBurst c n).2.Queued wq :=
  .ite₂ h.busReadAll.refuse.dmaEnd <| .ite₂ h.busReadAll.busWriteAll.refuse.dmaEnd <|
    (h.busReadAll.busWriteAll.except (·.set)).setDma.upon (·.raise)

theorem dmaMove {c stop n} (h : s.Queued wq) : (s.dmaMove c stop n).2.Queued wq := by
  induction n generalizing s with
  | zero => exact h
  | succ n ih => exact .ite₂ h <| .ite₂ (ih h.dmaBurst) h.dmaBurst

theorem dmaPaced {c n} (h : s.Queued wq) : (s.dmaPaced c n).2.Queued wq := by
  induction n generalizing s with
  | zero => exact h
  | succ n ih => exact .ite₂ h <| .ite₂ (ih h.dmaBurst) h.dmaBurst

theorem dmaLoad {c} (h : s.Queued wq) : (s.dmaLoad c).2.Queued wq :=
  have h₁ := h.set
  .ite₂ h₁.setDma.dmaEnd <| .ite₂ (.dmaEnd <| .setDma <| .ite h₁.busReadAll h₁.busReadAll.refuse) <|
    .ite₂ (.dmaEnd <| .setDma <| .ite h₁.busReadAll h₁.busReadAll.refuse) <| .setDma <|
    .ite h₁.busReadAll h₁.busReadAll.refuse

theorem dmaRun {c} (h : s.Queued wq) : (s.dmaRun c).Queued wq :=
  .ite (.ite₂ h h.dmaLoad) <| .ite (.set <| .ite₂ h h.dmaLoad) <| .ite (.set <| .ite₂ h h.dmaLoad) <|
    .ite (.dmaPaced <| .ite₂ h h.dmaLoad) <| .set <| .dmaPaced <| .ite₂ h h.dmaLoad

theorem dmaPick {n} (h : s.Queued wq) : (s.dmaPick n).Queued wq := by
  induction n generalizing s with
  | zero => exact h.dmaNote
  | succ n ih =>
    unfold State.dmaPick
    refine .ite h.dmaNote ?_
    split
    · exact h.dmaNote
    · exact ih h.dmaRun

theorem dmaDoorbell {c cls desc} (h : s.Queued wq) : (s.dmaDoorbell c cls desc).Queued wq :=
  h.except (·.setDma.set.set.dmaPick)

theorem dmaDescDone {c} (h : s.Queued wq) : (s.dmaDescDone c).Queued wq :=
  h.except fun h => .ite h.dmaMove.dmaPick <|
    have h₁ := h.dmaMove.dmaBack.count.upon (·.raise)
    .ite h₁.dmaEnd.dmaPick <| .ite h₁.dmaEnd.dmaPick h₁.setDma.set.dmaPick

theorem dmaResume {c} (h : s.Queued wq) : (s.dmaResume c).Queued wq :=
  h.upon (·.set.dmaPick)

theorem dmaAbort {c} (h : s.Queued wq) : (s.dmaAbort c).Queued wq := by
  have moved {n k} : (s.freeNat.2.dmaMove c n k).2.Queued wq := h.freeNat.dmaMove
  exact h.except fun h => .ite (.dmaPick <| .ite moved.dmaEnd moved) h.dmaEnd.dmaPick

theorem dmaTimeout {c ofs wr} (h : s.Queued wq) : (s.dmaTimeout c ofs wr).Queued wq :=
  h.except fun h => .ite h.dmaMove.dmaPick h.dmaMove.dmaEnd.dmaPick

/-! ### `CloveCore` -/

theorem setCore {c f} (h : s.Queued wq) : (s.setCore c f).Queued wq :=
  { h with }

theorem line {c i} (h : s.Queued wq) : (s.line c i).Queued wq :=
  h.setCore

theorem strRead {c} (h : s.Queued wq) : (s.strRead c).2.Queued wq := by
  unfold State.strRead
  split
  · exact h
  · exact h.setCore

theorem tb0Read {c} (h : s.Queued wq) : (s.tb0Read c).2.Queued wq :=
  h.setCore

theorem semRead {n} (h : s.Queued wq) : (s.semRead n).2.Queued wq :=
  { h with }

theorem ioRead {c off} (h : s.Queued wq) : (s.ioRead c off).2.Queued wq := by
  refine .ite₂ h.semRead ?_
  split
  case h_4 => exact h.tb0Read
  case h_10 => exact h.strRead
  all_goals exact h

theorem ipendClear {c v} (h : s.Queued wq) : (s.ipendClear c v).Queued wq :=
  h.setCore

theorem mboxOut {c v} (h : s.Queued wq) : (s.mboxOut c v).Queued wq :=
  h.set.raise

theorem tcmpArm {c v} (h : s.Queued wq) : (s.tcmpArm c v).Queued wq :=
  h.setCore

theorem brCmd {c write} (h : s.Queued wq) : (s.brCmd c write).Queued wq :=
  h.setCore

theorem semWrite {n v} (h : s.Queued wq) : (s.semWrite n v).Queued wq :=
  h.upon fun h => { h with }

theorem ioWrite {c off v} (h : s.Queued wq) : (s.ioWrite c off v).Queued wq := by
  refine .ite h.semWrite ?_
  split
  · exact h.ipendClear
  · exact h.setCore
  · exact h.mboxOut
  · exact h.setCore
  · exact h.setCore
  · exact h.tcmpArm
  · exact h.setCore
  · exact h.setCore
  · exact h.setCore
  · exact h.setCore
  · exact h.setCore
  · exact .ite h.brCmd <| h.upon (·.brCmd)
  · exact h

theorem dataRead {c y a} (h : s.Queued wq) : (s.dataRead c y a).2.Queued wq := by
  rw [show State.dataRead = _ from by delta State.dataRead; rfl]
  split
  · split
    next t e => exact h.readMem.of_eq e
    next t e => exact h.readMem.of_eq e
  · refine .ite₂ ?_ <| .ite₂ (.ite₂ h <| .snd h.ioRead) <| .ite₂ ?_ h
    · split
      next t e => exact h.modelRead.of_eq₂ e
      next t e => exact .snd (h.modelRead.of_eq₂ e).refuse
      next t e => exact .snd (h.modelRead.of_eq₂ e).refuse
    · split
      next t e => exact h.busRead.of_eq₂ e
      next t e => exact .snd (h.busRead.of_eq₂ e).refuse
      next t e => exact .snd (h.busRead.of_eq₂ e).refuse

theorem storeRefused {c a code} (h : s.Queued wq) : (s.storeRefused c a code).Queued wq :=
  h.setCore

theorem dataWrite {c y a v} (h : s.Queued wq) : (s.dataWrite c y a v).2.Queued wq := by
  rw [show State.dataWrite = _ from by delta State.dataWrite; rfl]
  split
  · exact h.writeWhole
  · refine .ite₂ ?_ <| .ite₂ (.ite₂ h <| .snd h.ioWrite) h
    split
    next t e => exact h.modelWrite.of_eq e
    next t e => exact .snd (h.modelWrite.of_eq e).refuse
    next t e => exact .snd (h.modelWrite.of_eq e).refuse.storeRefused

theorem coreStarts {c} (h : s.Queued wq) : (s.coreStarts c).Queued wq :=
  h.set.setCore

theorem coreFault {c cause addr} (h : s.Queued wq) : (s.coreFault c cause addr).Queued wq := by
  unfold State.coreFault
  dsimp only
  split
  · exact (h.set.upon (·.set)).set.count.raise.setCore.dpdResult
  · exact (h.set.upon (·.set)).set.count.raise.setCore

theorem coreFetch {c} (h : s.Queued wq) : (s.coreFetch c).2.Queued wq := by
  have hr {s : State} {k a} (h : s.Queued wq) : (s.readMem k a).2.Queued wq := h.readMem
  rw [show State.coreFetch = _ from by delta State.coreFetch; rfl]
  -- the read stands for itself: the kernel must not evaluate it at this address
  obtain ⟨read, e⟩ : ∃ f, f = State.readMem := ⟨_, rfl⟩
  rw [← e] at hr ⊢
  dsimp only
  split
  next e => exact (hr h).of_eq e
  next e =>
    split
    all_goals next e' => exact (hr ((hr h).of_eq e)).of_eq e'

theorem instrDone {c} (h : s.Queued wq) : (s.instrDone c).Queued wq :=
  h.set64

theorem coreNext {c} (h : s.Queued wq) : (s.coreNext c).Queued wq :=
  h.instrDone.setCore

theorem move {c y x} (h : s.Queued wq) : (s.move c y x).2.2.Queued wq := by
  unfold State.move
  split
  · exact h
  · refine .ite₃ (.ite h.setCore.dataWrite h.setCore.dataWrite.coreFault) ?_
    dsimp only
    split
    · exact h.dataRead
    · exact h.dataRead.coreFault

theorem moves {c mv} (h : s.Queued wq) : (s.moves c mv).2.Queued wq :=
  .ite₂ (.ite₃ h.move h.move) <| .ite₂ (.ite₃ (.move <| .ite₃ h.move h.move) <| .move <| .ite₃ h.move h.move) <|
    .ite₃ (.move <| .ite₃ h.move h.move) <| .move <| .ite₃ h.move h.move

theorem corePar {c m0 m1 mv} (h : s.Queued wq) : (s.corePar c m0 m1 mv).Queued wq := by
  unfold State.corePar
  dsimp only
  split
  next t e => exact h.moves.of_eq e
  next t e => exact (h.moves.of_eq e).freeNat.setCore.coreNext

theorem coreAlu {c op a b r mv} (h : s.Queued wq) : (s.coreAlu c op a b r mv).Queued wq := by
  unfold State.coreAlu
  dsimp only
  split
  next t e => exact h.setCore.moves.of_eq e
  next t e => exact (h.setCore.moves.of_eq e).freeNat.setCore.coreNext

theorem coreLi {c r imm} (h : s.Queued wq) : (s.coreLi c r imm).Queued wq :=
  h.setCore.coreNext

theorem coreMove {c dst src} (h : s.Queued wq) : (s.coreMove c dst src).Queued wq :=
  h.setCore.coreNext

theorem coreAddi {c dst imm} (h : s.Queued wq) : (s.coreAddi c dst imm).Queued wq :=
  h.setCore.coreNext

theorem storeList {c ws} (h : s.Queued wq) : (s.storeList c ws).2.Queued wq := by
  induction ws generalizing s with
  | nil => exact h
  | cons w t ih => exact .ite₂ (ih h.dataWrite) h.dataWrite

theorem coreAsave {c a n} (h : s.Queued wq) : (s.coreAsave c a n).Queued wq := by
  unfold State.coreAsave
  dsimp only
  split
  next t e => exact (h.storeList.of_eq e).coreFault
  next t e => exact (h.storeList.of_eq e).setCore.coreNext

theorem loadList {c as} (h : s.Queued wq) : (s.loadList c as).2.Queued wq := by
  induction as generalizing s with
  | nil => exact h
  | cons a t ih =>
    unfold State.loadList
    split
    next t e => exact h.dataRead.of_eq e
    next t e =>
      have h₁ := ih (h.dataRead.of_eq e)
      split
      next t' e' => exact h₁.of_eq e'
      next t' e' => exact h₁.of_eq e'

theorem coreAload {c n a} (h : s.Queued wq) : (s.coreAload c n a).Queued wq := by
  unfold State.coreAload
  dsimp only
  split
  next t e => exact (h.loadList.of_eq e).coreFault
  next t e => exact (h.loadList.of_eq e).setCore.coreNext

theorem branchTo {c target} (h : s.Queued wq) : (s.branchTo c target).Queued wq :=
  h.coreNext.setCore

theorem coreJmp {c cond target} (h : s.Queued wq) : (s.coreJmp c cond target).Queued wq :=
  .ite h.branchTo h.coreNext

theorem coreJsr {c cond target} (h : s.Queued wq) : (s.coreJsr c cond target).Queued wq :=
  .ite h.coreNext <| .ite h.coreFault h.setCore.branchTo

theorem coreRts {c cond} (h : s.Queued wq) : (s.coreRts c cond).Queued wq :=
  .ite h.coreNext <| .ite h.coreFault h.setCore.branchTo

theorem coreReti {c} (h : s.Queued wq) : (s.coreReti c).Queued wq :=
  h.branchTo.setCore

theorem coreDo {c fromReg reg count target} (h : s.Queued wq) : (s.coreDo c fromReg reg count target).Queued wq :=
  have h₁ := h.setCore
  .ite h₁.coreNext.setCore h₁.coreNext

theorem kernelStart {c} (h : s.Queued wq) : (s.kernelStart c).Queued wq :=
  h.setCore

theorem coreSwap {c} (h : s.Queued wq) : (s.coreSwap c).Queued wq :=
  (h.set.setCore.kernelStart.set.set.set.set.upon (·.coreStarts)).count.raise

theorem coreYield {c} (h : s.Queued wq) : (s.coreYield c).Queued wq :=
  .ite h.instrDone.coreSwap h.coreNext

theorem coreWait {c} (h : s.Queued wq) : (s.coreWait c).Queued wq :=
  .ite h.instrDone.coreSwap <| .ite h.coreNext h.coreNext.set

theorem coreHalt {c} (h : s.Queued wq) : (s.coreHalt c).Queued wq :=
  h.coreNext.set.raise

theorem coreDo1 {c op} (h : s.Queued wq) : (s.coreDo1 c op).Queued wq := by
  unfold State.coreDo1
  dsimp only
  split
  · exact h.set.corePar
  · exact h.set.coreAlu
  · exact h.set.coreLi
  · exact h.set.coreMove
  · exact h.set.coreAddi
  · exact h.set.coreAsave
  · exact h.set.coreAload
  · exact h.set.coreJmp
  · exact h.set.coreJsr
  · exact h.set.coreRts
  · exact h.set.coreReti
  · exact h.set.coreDo
  · exact h.set.coreYield
  · exact h.set.coreWait
  · exact h.set.coreHalt
  · exact h.set.setCore.coreNext
  · exact h.set.setCore.coreNext
  · exact h.set.coreNext

theorem coreRun {c op} (h : s.Queued wq) : (s.coreRun c op).Queued wq := by
  rw [show State.coreRun = _ from by delta State.coreRun; rfl]
  refine h.except fun h => ?_
  split
  next t e => exact .ite (h.coreFetch.of_eq e).coreDo1 h
  next => exact h

theorem coreAny {c} (h : s.Queued wq) : (s.coreAny c).Queued wq := by
  rw [show State.coreAny = _ from by delta State.coreAny; rfl]
  split
  next t e => exact (h.coreFetch.of_eq e).coreFault
  next t e =>
    have h₁ := h.coreFetch.of_eq e
    split
    · exact h₁.coreDo1
    · exact h₁.coreFault

/-! ### `Clove` -/

theorem interruptEntry {c} (h : s.Queued wq) : (s.interruptEntry c).Queued wq :=
  h.upon (·.set.setCore)

theorem ioAccess {c off write} (h : s.Queued wq) : (s.ioAccess c off write).Queued wq := by
  refine h.except fun h => ?_
  split
  · exact h.ioWrite.reply
  · exact h.ioRead.reply

theorem coreTimer {c} (h : s.Queued wq) : (s.coreTimer c).Queued wq :=
  h.upon (·.setCore.line)

theorem loadStart {c} (h : s.Queued wq) : (s.loadStart c).Queued wq :=
  h.upon (·.set.setCore)

theorem runWritten {c v} (h : s.Queued wq) : (s.runWritten c v).Queued wq :=
  have h₁ := h.set
  .ite h₁.set <| h₁.upon (·.kernelStart.coreStarts)

theorem swapGo {c} (h : s.Queued wq) : (s.swapGo c).Queued wq :=
  h.except fun h => h.set.setCore.upon (·.raise)

theorem swapBoundary {c} (h : s.Queued wq) : (s.swapBoundary c).Queued wq :=
  h.upon (·.coreSwap)

theorem swapTimeout {c} (h : s.Queued wq) : (s.swapTimeout c).Queued wq :=
  h.upon (·.set.raise)

theorem coreOff {c} (h : s.Queued wq) : (s.coreOff c).Queued wq :=
  h.set.set.set.setCore

theorem cloveClear (h : s.Queued wq) : s.cloveClear.Queued wq := by
  unfold State.cloveClear
  exact (h.foldl (·.clearMem.clearMem.clearMem.coreOff.set)).clearMem

theorem rateTick (h : s.Queued wq) : s.rateTick.Queued wq :=
  h.upon fun h => h.foldl (·.freeNat.set.setCore)

/-! ### `Keys` -/

theorem setWin {f l} (h : s.Queued wq) : (s.setWin f l).Queued wq :=
  h.foldl (·.set)

theorem otpShadows (h : s.Queued wq) : s.otpShadows.Queued wq :=
  (((h.set64.set.set.set.set.set.foldl (·.setWin)).set.upon (·.setWin)).setWin.setWin.foldl (·.biasShadow)).set.set

theorem otpForget (h : s.Queued wq) : s.otpForget.Queued wq :=
  h.forget

theorem keyRamClear (h : s.Queued wq) : s.keyRamClear.Queued wq :=
  .eccAll { h with }

theorem rng (h : s.Queued wq) : s.rng.2.Queued wq :=
  h.freeNat

theorem rngs {n} (h : s.Queued wq) : (s.rngs n).2.Queued wq := by
  induction n generalizing s with
  | zero => exact h
  | succ n ih => exact ih h.rng

theorem scalar (h : s.Queued wq) : s.scalar.2.Queued wq :=
  h.freeNat

/-! ### `Mgmt` -/

theorem setMgmt {f} (h : s.Queued wq) : (s.setMgmt f).Queued wq :=
  { h with }

theorem accessFault {a} (h : s.Queued wq) : (s.accessFault a).Queued wq :=
  h.setMgmt

theorem lineRead {l} (h : s.Queued wq) : (s.lineRead l).Queued wq :=
  h.foldl fun h => h.except fun h => .ite h.eccUE h.eccCE

theorem poisonUnder {a} (h : s.Queued wq) : (s.poisonUnder a).Queued wq := by
  refine h.foldl fun h => ?_
  split
  · exact h.except (·.setEcc)
  · exact h

theorem lineOut {l} (h : s.Queued wq) : (s.lineOut l).Queued wq :=
  h.lineRead.writeWhole.foldl (·.poisonUnder)

theorem cacheDrop {a} (h : s.Queued wq) : (s.cacheDrop a).Queued wq :=
  h.setMgmt

theorem putLine {l} (h : s.Queued wq) : (s.putLine l).Queued wq :=
  h.cacheDrop.setMgmt

theorem lineClean {l a} (h : s.Queued wq) : (s.lineClean l a).2.Queued wq :=
  .ite₂ h <| .ite₂ h.lineOut.putLine h.lineOut.cacheDrop.accessFault

theorem cacheUpset {a w e} (h : s.Queued wq) : (s.cacheUpset a w e).Queued wq := by
  unfold State.cacheUpset
  split
  · exact h.except (·.setEcc)
  · exact h

theorem cacheClean {a} (h : s.Queued wq) : (s.cacheClean a).Queued wq := by
  unfold State.cacheClean
  split
  · exact h.lineClean
  · exact h

theorem freeWay {a} (h : s.Queued wq) : (s.freeWay a).2.Queued wq := by
  unfold State.freeWay
  extract_lets here k s₁
  have h₁ : s₁.Queued wq := h.setMgmt
  split
  · exact h
  · split
    · exact h₁
    · split
      next t e => exact (h₁.lineClean.of_eq e).cacheDrop
      next t e => exact h₁.lineClean.of_eq e

theorem fillWords {as} (h : s.Queued wq) : (s.fillWords as).2.Queued wq := by
  induction as generalizing s with
  | nil => exact h
  | cons a t ih => exact ih (.ite₂ h h.readMem)

theorem lineFill {a} (h : s.Queued wq) : (s.lineFill a).2.Queued wq := by
  unfold State.lineFill
  dsimp only
  split
  · exact h.fillWords.accessFault
  · split
    next t e => exact h.fillWords.freeWay.of_eq e
    next t e => exact ((h.fillWords.freeWay.of_eq e).foldl (·.setEcc)).putLine

theorem lineFor {a} (h : s.Queued wq) : (s.lineFor a).2.Queued wq := by
  unfold State.lineFor
  split
  · exact h.lineFill
  · exact .ite₂ h <| .ite₂ h.lineClean h.lineRead.cacheDrop.lineFill

theorem store {a size v} (h : s.Queued wq) : (s.store a size v).Queued wq := by
  refine .ite h.accessFault <| .ite (.ite h.accessFault ?_) <|
    .ite (.ite h.accessFault <| .ite h.busWrite h.busWrite.refuse.accessFault) h.accessFault
  split
  next t e => exact h.lineFor.of_eq e
  next t e =>
    have h₁ := h.lineFor.of_eq e
    dsimp only
    split
    next t' e' => exact (h₁.eccMerge.of_eq e').accessFault
    next t' e' => exact (h₁.eccMerge.of_eq e').putLine

theorem mtimecmpWritten {l v} (h : s.Queued wq) : (s.mtimecmpWritten l v).Queued wq :=
  h.set.except (·.setMgmt)

theorem wdEnable {v} (h : s.Queued wq) : (s.wdEnable v).Queued wq :=
  h.upon (·.set.setMgmt)

theorem wdKick {v} (h : s.Queued wq) : (s.wdKick v).Queued wq :=
  .ite (h.upon (·.setMgmt)) h.count

/-! ### `LogB` -/

theorem setLog {f} (h : s.Queued wq) : (s.setLog f).Queued wq :=
  { h with }

theorem fwRecord {c type sev} (h : s.Queued wq) : (s.fwRecord c type sev).Queued wq :=
  h.logAs

theorem logFlush (h : s.Queued wq) : s.logFlush.Queued wq :=
  h.except fun h => .ite (h.except (·.setLog.raise)) (h.logHw.except (·.setLog.logHw)).count.setLog.set

theorem flushThr {v} (h : s.Queued wq) : (s.flushThr v).Queued wq :=
  h.set

theorem rdShow {r} (h : s.Queued wq) : (s.rdShow r).Queued wq := by
  unfold State.rdShow
  exact h.setWin.set.set.setLog

theorem rdSeq {q} (h : s.Queued wq) : (s.rdSeq q).Queued wq := by
  unfold State.rdSeq
  dsimp only
  split
  · exact h.set.rdShow
  · split
    · exact h.set.set.set.setLog
    · exact h.set.rdShow

theorem rdDone (h : s.Queued wq) : s.rdDone.Queued wq := by
  unfold State.rdDone
  split
  · exact h.rdShow
  · exact h

theorem mgtLogRead {ws broken} (h : s.Queued wq) : (s.mgtLogRead ws broken).Queued wq := by
  unfold State.mgtLogRead
  split
  next t e => exact (h.sendClear.receiveAs.of_eq e).send
  next t e => exact h.sendClear.receiveAs.of_eq e

/-! ### `Update` -/

theorem dirWrite {pref trial} (h : s.Queued wq) : (s.dirWrite pref trial).Queued wq :=
  .setWords { h with }

theorem updIdle (h : s.Queued wq) : s.updIdle.Queued wq :=
  h.set

theorem updAbort (h : s.Queued wq) : s.updAbort.Queued wq :=
  h.except (·.setWord.updIdle)

theorem updDrop (h : s.Queued wq) : s.updDrop.Queued wq :=
  .updIdle { h with }

theorem program {slot ofs len data} (h : s.Queued wq) : (s.program slot ofs len data).Queued wq :=
  .setWords { h with }

theorem updEffect {j} (h : s.Queued wq) : (s.updEffect j).Queued wq := by
  unfold State.updEffect
  split
  · exact h.set.set.set.set
  · exact h.program.set
  · exact h.set
  · exact h.dirWrite.updIdle
  · exact h.dirWrite
  · exact h.updAbort
  · exact .set { h with }
  · exact h

theorem updPublish {j r} (h : s.Queued wq) : (s.updPublish j r).Queued wq := by
  unfold State.updPublish
  dsimp only
  split
  · exact (h.set.except (·.logHw)).raise.send
  · exact (h.set.except (·.logHw)).raise

theorem updComplete {bad} (h : s.Queued wq) : (s.updComplete bad).2.Queued wq := by
  unfold State.updComplete
  split
  · exact h
  · exact .updPublish <| .sendClear <| .set <| .same (h.upon (·.updEffect)) rfl

theorem updIssue {j} (h : s.Queued wq) : (s.updIssue j).Queued wq :=
  .ite h.updPublish <| .set { h with }

theorem updGo {c op arg} (h : s.Queued wq) : (s.updGo c op arg).Queued wq :=
  h.set.set.except fun h => .ite h.set h.updIssue

theorem mgtUpdate {ws broken} (h : s.Queued wq) : (s.mgtUpdate ws broken).Queued wq := by
  unfold State.mgtUpdate
  split
  next t e =>
    exact .ite (h.sendClear.receiveAs.of_eq e).count <| (h.sendClear.receiveAs.of_eq e).except (·.updIssue)
  next t e => exact h.sendClear.receiveAs.of_eq e

/-! ### `Security` -/

theorem setSec {f} (h : s.Queued wq) : (s.setSec f).Queued wq :=
  { h with }

theorem setOtp {f} (h : s.Queued wq) : (s.setOtp f).Queued wq :=
  { h with }

theorem otpEffect {op arg} (h : s.Queued wq) : (s.otpEffect op arg).Queued wq := by
  unfold State.otpEffect
  split
  · exact h.setOtp.setWin.except (·.set)
  · exact h.setOtp.set
  · exact h.setOtp.set
  · exact h.scalar.setOtp.set.setWin
  · exact h.setOtp.set

theorem otpGo {op arg} (h : s.Queued wq) : (s.otpGo op arg).Queued wq :=
  h.set.set.except fun h => .ite h.set.raise h.setSec.set

theorem otpDone {bad} (h : s.Queued wq) : (s.otpDone bad).Queued wq := by
  unfold State.otpDone
  split
  · exact h
  · exact
      have h₁ := (h.upon (·.otpEffect)).setSec.set.set
      .ite h₁.raiseLog h₁.raise

theorem lrFail {r} (h : s.Queued wq) : (s.lrFail r).Queued wq :=
  h.set.count.raise

theorem lrGo (h : s.Queued wq) : s.lrGo.Queued wq :=
  .ite h.lrFail h.setSec.set

theorem lrRead {a n} (h : s.Queued wq) : (s.lrRead a n).2.Queued wq := by
  induction n generalizing s a with
  | zero => exact h
  | succ n ih =>
    unfold State.lrRead
    extract_lets r
    have hr : r.2.2.Queued wq := .ite₃ h <| .ite₃ h h.busRead
    exact .ite₂ (ih hr) hr

theorem lrInForce {w} (h : s.Queued wq) : (s.lrInForce w).Queued wq :=
  h.setWin.set.set.set.set.raise.aniseGate

theorem lrDone (h : s.Queued wq) : s.lrDone.Queued wq := by
  unfold State.lrDone
  split
  · exact h
  · exact h.except fun h =>
      have h₁ := h.lrRead.setSec.set
      .ite h₁.lrInForce h₁.lrFail

theorem keGo {op} (h : s.Queued wq) : (s.keGo op).Queued wq :=
  have h₁ := h.set
  .ite h₁.set <| h₁.except (·.setSec.set)

theorem keSign {digest} (h : s.Queued wq) : (s.keSign digest).Queued wq := by
  refine .setWin ?_
  split
  · exact h.scalar
  · exact h.scalar.scalar

theorem keyArm (h : s.Queued wq) : s.keyArm.Queued wq :=
  h.upon (·.setSec)

theorem genEph (h : s.Queued wq) : s.genEph.Queued wq :=
  h.scalar.setSec.setWin

theorem derive (h : s.Queued wq) : s.derive.Queued wq :=
  h.keSign.setSec.upon (·.keyArm)

theorem attest (h : s.Queued wq) : s.attest.Queued wq :=
  h.setWin.keSign

theorem keRun {op} (h : s.Queued wq) : (s.keRun op).2.Queued wq := by
  refine .ite₂ h <| .ite₂ h.genEph ?_
  split
  · exact h.eccUE.keyRamClear
  · exact .ite₂ h.attest <| h.upon (·.derive)

theorem keDone (h : s.Queued wq) : s.keDone.Queued wq := by
  unfold State.keDone
  split
  · exact h
  · exact h.setSec.keRun.set.set.raise

theorem keySwitch (h : s.Queued wq) : s.keySwitch.Queued wq := by
  unfold State.keySwitch
  split
  · exact h.except (·.setSec.setErl.set64)
  · exact h

theorem secure {v} (h : s.Queued wq) : (s.secure v).Queued wq :=
  h.upon (·.set.keyArm)

theorem rngWord {c} (h : s.Queued wq) : (s.rngWord c).2.Queued wq :=
  .ite₂ h.rng h

theorem rngRead {c} (h : s.Queued wq) : (s.rngRead c).Queued wq :=
  h.except fun h => .ite h.refuse.reply h.rngWord.reply

theorem rngFail (h : s.Queued wq) : s.rngFail.Queued wq :=
  h.set.raise

theorem dbgChal (h : s.Queued wq) : s.dbgChal.Queued wq :=
  h.except (·.rngs.setWin.setSec)

theorem unlockFail {r} (h : s.Queued wq) : (s.unlockFail r).Queued wq :=
  h.set.count.raiseLog

theorem dbgUnlock (h : s.Queued wq) : s.dbgUnlock.Queued wq :=
  .ite h.setSec h.unlockFail

theorem clearing (h : s.Queued wq) : s.clearing.Queued wq :=
  h.keyRamClear.eccAll.otpForget.poisonMem.poisonMem.poisonMem.poisonMem.foldl (·.poisonMem.poisonMem.poisonMem)

theorem clearDone (h : s.Queued wq) : s.clearDone.Queued wq :=
  h.except fun h =>
    have h₁ := h.setSec.clearing.raise
    .ite h₁.unlockFail <|
      have h₁ := h₁.setSec
      .ite h₁.unlockFail (h₁.set.set.upon (·.set)).logEvent

/-! ### `Ecc` -/

theorem setBist {f} (h : s.Queued wq) : (s.setBist f).Queued wq :=
  { h with }

theorem lapEnd {m} (h : s.Queued wq) : (s.lapEnd m).Queued wq :=
  h.set.upon (·.raise)

theorem scrubVisit {m upset} (h : s.Queued wq) : (s.scrubVisit m upset).Queued wq :=
  h.except fun h => .upon (.setBist <| (h.upon (·.setBist)).except fun h => .ite h.count <| .ite h.setEcc.eccUE
      h.setEcc.eccCE) (·.lapEnd)

theorem applyFuses (h : s.Queued wq) : s.applyFuses.Queued wq :=
  (h.forget.foldl (·.set)).set

theorem fuseGo {op arg} (h : s.Queued wq) : (s.fuseGo op arg).Queued wq :=
  h.set.set.except (·.setBist.set)

theorem setFuse {k e} (h : s.Queued wq) : (s.setFuse k e).Queued wq :=
  h.setOtp.set.set.set

theorem fuseDone {bad} (h : s.Queued wq) : (s.fuseDone bad).Queued wq := by
  unfold State.fuseDone
  split
  · exact h
  · exact
      have h₁ := h.setBist.set.set
      .ite h₁.raiseLog <| .ite h₁.raise <| .upon (.raise <| .ite h₁.setFuse h₁.setFuse) (·.raise)

theorem bistPoison {m} (h : s.Queued wq) : (s.bistPoison m).Queued wq := by
  refine .ite h.keyRamClear.eccAll <| h.upon fun h => ?_
  split
  · exact h.poisonMem
  · exact h

theorem bistRestore {m} (h : s.Queued wq) : (s.bistRestore m).Queued wq := by
  unfold State.bistRestore
  extract_lets s₁
  have h₁ : s₁.Queued wq := by
    unfold s₁
    split
    · exact h.clearMem
    · exact h.eccAll
  exact .ite h₁.setLog <| .ite { h₁ with } <| .ite h₁.modelIdentity <| .ite h₁.setErl <|
    .ite (h₁.foldl (·.setOct.queueNote)) <| .ite h₁.setMgmt <| .ite h₁.setMgmt <| h₁.upon (·.keyRamClear)

theorem tapsTest {b} (h : s.Queued wq) : (s.tapsTest b).Queued wq :=
  h.foldl fun h =>
    have h₁ := h.setTap
    .ite h₁.tapHold h₁.tapRelease

theorem bistGo {t} (h : s.Queued wq) : (s.bistGo t).Queued wq :=
  have h₁ := h.set
  .ite h₁.set <| .ite h₁.set <| .ite h₁.set <|
    h₁.except fun h => ((h.foldl (·.bistPoison)).setBist.upon (·.tapsTest)).set.count

theorem bistAbort (h : s.Queued wq) : s.bistAbort.Queued wq :=
  h.upon (·.setBist)

theorem bistShow (h : s.Queued wq) : s.bistShow.Queued wq :=
  h.set.set.set

theorem bistPush {l} (h : s.Queued wq) : (s.bistPush l).Queued wq :=
  (h.setBist.count.upon (·.set)).bistShow

theorem orPair {lo hi m} (h : s.Queued wq) : (s.orPair lo hi m).Queued wq :=
  h.set.set

theorem loopFails {m} (h : s.Queued wq) : (s.loopFails m).Queued wq :=
  h.foldl fun h => h.upon (·.retireCand.retireCand)

theorem bistJudge {t f} (h : s.Queued wq) : (s.bistJudge t f).2.Queued wq :=
  .ite₂ h.seti <| .ite₂ h.seti <| .ite₂ (h.orPair.orPair.upon (·.loopFails)).set h.bistPush

theorem bistDone {f} (h : s.Queued wq) : (s.bistDone f).Queued wq := by
  unfold State.bistDone
  split
  · exact h
  · exact .upon (.raise <| .set <| .set <| .upon (.foldl (.setBist <| .ite₂ h h.bistJudge) (·.bistRestore))
        (·.tapsTest)) (·.raise)

theorem bistPop (h : s.Queued wq) : s.bistPop.Queued wq :=
  h.setBist.bistShow

/-! ### `KernelLoad` -/

theorem healSpan {m i n} (h : s.Queued wq) : (s.healSpan m i n).Queued wq :=
  .except (.except { h with } fun h => h.foldl (·.setEcc)) (·.count.raise)

theorem loadSpan {m lo i n ws} (h : s.Queued wq) : (s.loadSpan m lo i n ws).Queued wq :=
  have h₁ := h.healSpan
  .setWords { h₁ with }

theorem kernelRead {a n} (h : s.Queued wq) : (s.kernelRead a n).2.Queued wq :=
  .ite₂ h <| .ite₂ h.busReadAll h

theorem loadFail {c r} (h : s.Queued wq) : (s.loadFail c r).Queued wq :=
  h.set.count.raise

theorem kernelInstall {c h' body} (h : s.Queued wq) : (s.kernelInstall c h' body).Queued wq :=
  have h₁ := h.set
  .raise <| .ite h₁.loadSpan.set.setCore h₁.loadSpan.loadSpan.loadSpan.set.set.set.set.set.setCore

theorem loadDone {c} (h : s.Queued wq) : (s.loadDone c).Queued wq := by
  rw [show State.loadDone = _ from by delta State.loadDone; rfl]
  dsimp only
  refine h.except fun h => ?_
  have h₁ {l v} := h.set (l := l) (v := v)
  split
  next t e => exact (h₁.kernelRead.of_eq e).loadFail
  next t e =>
    have h₂ := h₁.kernelRead.of_eq e
    refine .ite h₂.loadFail ?_
    split
    next t' e' => exact (h₂.kernelRead.of_eq e').loadFail
    next t' e' =>
      have h₃ := h₂.kernelRead.of_eq e'
      exact .ite h₃.kernelInstall h₃.loadFail

/-! ### `Blocks` -/

theorem enableBegin {pg} (h : s.Queued wq) : (s.enableBegin pg).Queued wq :=
  .ite h.aniseGate <| h.except fun h => .ite h.limitLo <| h.startSeq.upon (·.loopStart)

theorem shutEnds {pg} (h : s.Queued wq) : (s.shutEnds pg).Queued wq :=
  .ite ((h.upon (·.noteModulators)).loopStop.loopSuppress.calVoid.upon (·.lanesLoss)) <| .ite h.set <|
    .ite h.ovlDrop <| .ite (h.upon (·.lanesLoss)) <| .ite h.laneLoss.checkerOff <| .ite h.capDisarm <|
    .ite h.dmaAbort <| .ite h.coreOff <| .ite (h.foldl (·.dpdLeave)) <| .ite (.set { h with }) <| .ite { h with } <|
    .ite h.updAbort <| h.upon fun h => h.foldl (·.biasSafe)

theorem shutBegin {pg} (h : s.Queued wq) : (s.shutBegin pg).Queued wq :=
  .shutEnds <| h.startSeq.except fun h => { h with }

theorem enableWritten {pg v} (h : s.Queued wq) : (s.enableWritten pg v).Queued wq :=
  have h₁ := h.set
  .ite h₁.aniseGate <|
    have h₁ := h₁.upon (·.set)
    .ite (h₁.upon (·.enableBegin)) <| h₁.upon (·.shutBegin)

theorem pathJoins {pg was} (h : s.Queued wq) : (s.pathJoins pg was).Queued wq :=
  (h.upon (·.setPath)).except (·.goPath)

theorem enableEnd {pg} (h : s.Queued wq) : (s.enableEnd pg).Queued wq :=
  .ite (.pathJoins <| .raise <| .set <| .set { h with }) <| .ite (.aniseOn <| .raise <| .set <| .set { h with }) <|
    .upon (.raise <| .set <| .set { h with }) fun h => h.foldl (·.biasAim)

theorem srstHidden {pg} (h : s.Queued wq) : (s.srstHidden pg).Queued wq :=
  .ite h.setRx <| .ite h.setTx <| .ite h.setTap <| .ite { h with } <| .ite h.setCap <| .ite h.setInj <|
    .ite h.setCal <| h.upon fun h => { h with }

theorem srstAfter {pg} (h : s.Queued wq) : (s.srstAfter pg).Queued wq :=
  .ite (h.upon (·.set)).gdNote <| .ite h.gdNote <| .ite (h.upon (·.set)) <| h.upon fun h => h.foldl (·.biasEntry)

theorem srstRegs {pg} (h : s.Queued wq) : (s.srstRegs pg).Queued wq :=
  (h.upon (·.retireWritten)).srstHidden.forgetKeys.set.set.srstAfter

theorem shutEnd {pg} (h : s.Queued wq) : (s.shutEnd pg).Queued wq := by
  unfold State.shutEnd
  extract_lets s₁ s₂ s₃ s₄
  have h₂ : s₂.Queued wq := .raise <| .set <| .set { h with }
  have h₃ : s₃.Queued wq := .ite h₂.dropIfOff <| .ite h₂.aniseOff <| h₂.upon (·.foldl (·.biasSafe))
  have h₄ : s₄.Queued wq := h₃.except fun h => .srstRegs { h with }
  exact h₄.upon (·.enableBegin)

theorem sequenceEnd {pg} (h : s.Queued wq) : (s.sequenceEnd pg).Queued wq :=
  h.except fun h => .ite h.enableEnd h.shutEnd

theorem withdrawCommit {pg} (h : s.Queued wq) : (s.withdrawCommit pg).Queued wq :=
  .upon (.set <| .same { h with } rfl) (·.setBeam)

theorem softReset {pg} (h : s.Queued wq) : (s.softReset pg).Queued wq :=
  h.except fun h =>
    have h₁ := h.withdrawCommit
    .ite (h₁.srstRegs.upon (·.enableBegin)) <| .except { h₁ with } (·.shutBegin)

theorem dropPage {pg} (h : s.Queued wq) : (s.dropPage pg).Queued wq :=
  .ite (.upon (.same h.failPage rfl) (·.ovlDrop)) <| h.except fun h => .set { h with }

theorem railPages {vana vcnv vrf} (h : s.Queued wq) : (s.railPages vana vcnv vrf).Queued wq :=
  .foldl (.upon ((h.upon (·.dropPage)).upon fun h => h.foldl (·.dropPage)) fun h => h.foldl (·.dropPage.set))
      (·.dropIfOff)

/-! ### `Modes` -/

theorem setModes {f} (h : s.Queued wq) : (s.setModes f).Queued wq :=
  { h with }

theorem setPwr {f} (h : s.Queued wq) : (s.setPwr f).Queued wq :=
  { h with }

theorem outOpen (h : s.Queued wq) : s.outOpen.Queued wq := by
  unfold State.outOpen
  split
  · exact h
  · exact h.setModes.count

theorem outClose (h : s.Queued wq) : s.outClose.Queued wq := by
  unfold State.outClose
  split
  · exact h.setModes
  · exact h

theorem radioReset {keep} (h : s.Queued wq) : (s.radioReset keep).Queued wq := by
  unfold State.radioReset
  extract_lets s₁ radio z
  have h₁ : s₁.Queued wq := h.forgetKeys
  exact .killStays { h₁ with }

theorem aonReset (h : s.Queued wq) : s.aonReset.Queued wq := by
  unfold State.aonReset
  extract_lets forced s₁ s₂ s₃ s₄ s₅
  have h₄ : s₄.Queued wq := (h.forgetKeys.foldl (·.set)).updDrop.keyRamClear.set
  have h₅ : s₅.Queued wq := h₄.otpShadows.foldl (·.biasEntry)
  clear_value s₅
  exact { h₅ with }

theorem resetAll (h : s.Queued wq) : s.resetAll.Queued wq := by
  unfold State.resetAll
  extract_lets s₁
  have h₁ : s₁.Queued wq := h.logFlush.radioReset.aonReset
  clear_value s₁
  exact .setPwr { h₁ with }

theorem modeChange {old new} (h : s.Queued wq) : (s.modeChange old new).Queued wq :=
  .logHw <| .raise <| .set <| .same h.set.set rfl

theorem enterM1 {reason} (h : s.Queued wq) : (s.enterM1 reason).Queued wq := by
  unfold State.enterM1
  extract_lets old s₁
  have h₁ : s₁.Queued wq := h.resetAll.modeChange
  clear_value s₁
  exact .set <| .set <| .setModes { h₁ with }

theorem m2Link (h : s.Queued wq) : s.m2Link.Queued wq :=
  h.upon fun h => h.set.set.foldl (·.enableWritten)

theorem showRef (h : s.Queued wq) : s.showRef.Queued wq :=
  h.set

theorem m2Power (h : s.Queued wq) : s.m2Power.Queued wq :=
  h.upon fun h => .m2Link <| .setPwr <| .same (h.upon (·.showRef)) rfl

theorem enterM2 {code} (h : s.Queued wq) : (s.enterM2 code).Queued wq :=
  .m2Power <| h.resetAll.modeChange.outOpen.set.foldl fun h => (h.foldl (·.set)).set.set

theorem failedStart {code} (h : s.Queued wq) : (s.failedStart code).Queued wq :=
  h.except fun h =>
    have h₁ := h.set.logHw
    .except (.raise <| .outOpen <| .set <| .ite h₁.enterM1 h₁.enterM2) (·.raise)

theorem deviceReset {reason} (h : s.Queued wq) : (s.deviceReset reason).Queued wq :=
  .ite h.resetAll h.enterM1

theorem runImage {slot} (h : s.Queued wq) : (s.runImage slot).Queued wq :=
  h.writeWhole.set.set.set.set.setMgmt.setModes.logHw

theorem repairOne {m x t} (h : s.Queued wq) (e : s.repairOne m x = some t) : t.Queued wq := by
  unfold State.repairOne at e
  split at e
  · cases e
  · extract_lets l s₁ f at e
    have h₁ : s₁.Queued wq := h.set.set
    split at e
    · split at e
      · cases e
        exact h₁.setFuse.upon (·.raise)
      · cases e
        exact h₁.logEvent
    · cases e
      exact h₁.logEvent

theorem repairAll {m t} {ts : List (Nat × Nat)} {o : Option State} (h : ∀ {u}, o = some u → u.Queued wq)
    (e : ts.foldl (fun a x => a.bind (fun s => s.repairOne m x)) o = some t) : t.Queued wq := by
  induction ts generalizing o with
  | nil => exact h e
  | cons x ts ih =>
    refine ih (fun hu => ?_) e
    obtain ⟨v, hv, hx⟩ := Option.bind_eq_some_iff.mp hu
    exact (h hv).repairOne hx

theorem repair {fs t} (h : s.Queued wq) (e : s.repair fs = some t) : t.Queued wq := by
  induction fs generalizing s with
  | nil => cases e; exact h
  | cons f fs ih =>
    unfold State.repair at e
    split at e
    next u hu => exact ih (repairAll (fun hs => Option.some.inj hs ▸ h) hu) e
    next => cases e

theorem romMemories (h : s.Queued wq) : s.romMemories.Queued wq := by
  unfold State.romMemories
  extract_lets s₁ s₂ s₃
  have h₂ : s₂.Queued wq := h.clearMem.clearMem.cloveClear.modelIdentity.clearMem
  clear_value s₂
  have h₃ : s₃.Queued wq := { h₂ with }
  exact h₃.foldl (·.eccAll)

theorem romRest (h : s.Queued wq) : s.romRest.Queued wq := by
  unfold State.romRest
  extract_lets s₁ f
  have h₁ : s₁.Queued wq := h.otpShadows.applyFuses.romMemories
  clear_value s₁
  split
  · exact h₁.failedStart
  next t e =>
    have h₂ := h₁.repair e
    extract_lets s₂ s₃ s₄ s₅
    have h₅ : s₅.Queued wq := h₂.seti.orPair.orPair.set.loopFails.upon (·.setSec)
    clear_value s₅
    refine .ite h₂.seti.failedStart ?_
    split
    · exact h₅.runImage
    · exact h₅.failedStart

theorem lrNone (h : s.Queued wq) : s.lrNone.Queued wq :=
  h.forget

theorem startRun {find flashBad} (h : s.Queued wq) : (s.startRun find flashBad).Queued wq := by
  unfold State.startRun
  extract_lets s₁ s₂ s₃ s₄ s₅ k c s₆ s₇
  have h₁ : s₁.Queued wq := .ite h.radioReset.modeChange (.set { h with })
  clear_value s₁
  have h₃ : s₃.Queued wq := h₁.keyRamClear.lrNone.aniseGate.except (·.set)
  clear_value s₃
  have h₄ : s₄.Queued wq := .setPwr <| .showRef { h₃ with }
  have h₅ : s₅.Queued wq := h₄.set.set.set
  clear_value s₅
  have h₆ : s₆.Queued wq := { h₅ with }
  exact h₆.setModes.enableWritten.enableWritten

theorem lockTimeout (h : s.Queued wq) : s.lockTimeout.Queued wq :=
  h.upon fun h => .ite h.failedStart <| h.upon (·.failedStart)

theorem lockStep {k} (h : s.Queued wq) : (s.lockStep k).Queued wq := by
  unfold State.lockStep
  extract_lets s₁ a s₂ s₃
  have h₁ : s₁.Queued wq := h.lockLoop
  clear_value s₁
  have h₂ : s₂.Queued wq := { h₁ with }
  have h₃ : s₃.Queued wq := h₂.set.setModes
  clear_value s₃
  exact h₂.upon fun _ => { h₃ with }

theorem voutCheck {ack vout} (h : s.Queued wq) : (s.voutCheck ack vout).Queued wq := by
  unfold State.voutCheck
  split
  · exact h
  · refine h.except fun h => ?_
    extract_lets a s₁ s₂ tgt s₃
    have h₁ : s₁.Queued wq := { h with }
    have h₂ : s₂.Queued wq := h₁.upon (·.set.setModes)
    clear_value s₂
    have h₃ : s₃.Queued wq := h₂.count.raiseLog
    clear_value s₃
    exact .ite (h₂.upon (·.romRest)) <| .ite { h₃ with } <| .ite h₃.failedStart { h₃ with }

theorem contExpire {code} (h : s.Queued wq) : (s.contExpire code).Queued wq :=
  .set <| .same h.setModes.raise rfl

theorem mgmtRestart {reason flashBad} (h : s.Queued wq) : (s.mgmtRestart reason flashBad).Queued wq := by
  refine h.except fun h => ?_
  dsimp only
  split
  · exact .runImage <| .setModes <| .setMgmt <| .set <| .set <| .set <| .set { h with }
  · exact .contExpire <| .setModes <| .setMgmt <| .set <| .set <| .set <| .set { h with }

theorem contExpired (h : s.Queued wq) : s.contExpired.Queued wq :=
  h.upon (·.contExpire)

theorem holdExpiry (h : s.Queued wq) : s.holdExpiry.Queued wq := by
  unfold State.holdExpiry
  split
  · exact h.upon (·.failedStart)
  · exact h

theorem pepperReset (h : s.Queued wq) : s.pepperReset.Queued wq :=
  h.set.set.setMgmt.setModes

theorem runWatchdog {flashBad} (h : s.Queued wq) : (s.runWatchdog flashBad).Queued wq :=
  h.upon fun h => .ite h.pepperReset h.mgmtRestart

theorem updEnds {bad flashBad} (h : s.Queued wq) : (s.updEnds bad flashBad).Queued wq :=
  .ite h.updComplete.mgmtRestart <| .ite h.updComplete.deviceReset h.updComplete

theorem stableFrom (h : s.Queued wq) : s.stableFrom.Queued wq :=
  h.setModes

theorem bootOk (h : s.Queued wq) : s.bootOk.Queued wq :=
  h.except fun h => .ite (.stableFrom <| .setMgmt <| .setModes <| .set <| .set { h with }) <|
    h.except (·.set.setModes.stableFrom)

theorem bootWatchdog (h : s.Queued wq) : s.bootWatchdog.Queued wq := by
  unfold State.bootWatchdog
  split
  · exact h.upon fun h => .ite h.pepperReset h.failedStart
  · exact h

theorem stableExpiry (h : s.Queued wq) : s.stableExpiry.Queued wq :=
  h.upon (·.set)

theorem modeRefused {v cause} (h : s.Queued wq) : (s.modeRefused v cause).Queued wq :=
  h.set.set.raise.logHw

theorem modeJudge {c hw v} (h : s.Queued wq) : (s.modeJudge c hw v).Queued wq :=
  h.except fun h => .ite h.modeRefused <| .set <| .same (h.except (·.outClose)) rfl

theorem takeNext (h : s.Queued wq) : s.takeNext.Queued wq := by
  unfold State.takeNext
  split
  · exact h.setModes.modeJudge
  · exact h

theorem startBegin {find flashBad} (h : s.Queued wq) : (s.startBegin find flashBad).Queued wq :=
  h.upon (·.startRun.takeNext)

theorem modeReq {c v} (h : s.Queued wq) : (s.modeReq c v).Queued wq :=
  have h₁ := h.set
  .ite h₁.modeRefused <| .ite h₁.setModes h₁.modeJudge

theorem pathToMode {n v} (h : s.Queued wq) : (s.pathToMode n v).Queued wq :=
  h.setPath.goPath

theorem leaveM5 (h : s.Queued wq) : s.leaveM5.Queued wq :=
  (h.foldl (·.setOct.set)).foldl fun h => (h.boundaryClear.upon (·.withdrawNow)).dpdLeave

theorem leaveM7 (h : s.Queued wq) : s.leaveM7.Queued wq :=
  (((h.foldl (·.set.set)).foldl (·.setTap)).set.foldl (·.checkerOff.set.set.setInj)).bistAbort

theorem enterM0 (h : s.Queued wq) : s.enterM0.Queued wq := by
  unfold State.enterM0
  extract_lets s₁ s₂
  have h₂ : s₂.Queued wq := h.logFlush.keyRamClear.radioReset.foldl (·.biasSafe)
  clear_value s₂
  exact .setPwr { h₂ with }

theorem modeTake {v} (h : s.Queued wq) : (s.modeTake v).Queued wq := by
  unfold State.modeTake
  extract_lets old s₁ s₂ s₃ s₄ s₅ s₆
  have h₃ : s₃.Queued wq := ((h.upon (·.fgAbort)).upon (·.leaveM5)).upon (·.leaveM7)
  have h₄ : s₄.Queued wq := .ite (.set { h₃ with }) h₃.modeChange
  have h₅ : s₅.Queued wq := .ite (h₄.upon (·.outClose)).enterM0 <|
    .ite (h₄.foldl (·.slotBoundary)).outClose (h₄.foldl (·.pathToMode))
  exact h₅.aniseGate.setModes

theorem modeDone (h : s.Queued wq) : s.modeDone.Queued wq := by
  unfold State.modeDone
  split
  · exact h
  · exact h.except fun h => .ite (.takeNext <| .modeRefused <| .set { h with }) <|
      .ite h.modeTake.set.setModes.outOpen (h.modeTake.upon (·.outOpen)).takeNext

theorem linkTimeout (h : s.Queued wq) : s.linkTimeout.Queued wq :=
  h.upon fun h =>
    have h₁ := h.set
    .ite h₁.setModes h₁.modeJudge

theorem halt (h : s.Queued wq) : s.halt.Queued wq := by
  unfold State.halt
  refine h.except fun h => ?_
  extract_lets old s₁ s₂ s₃ m s₄ s₅ s₆
  have h₁ : s₁.Queued wq := h.set.raiseLog
  clear_value s₁
  have h₂ : s₂.Queued wq := .ite (.set { h₁ with }) h₁.modeChange.logFlush
  have h₃ : s₃.Queued wq := h₂.radioReset
  clear_value s₃
  have h₄ : s₄.Queued wq := .setPwr { h₃ with }
  exact (h₄.set.set.keyRamClear.foldl (·.biasForce)).setModes.outOpen

/-! ### `Power` -/

theorem sampleStraps {b} (h : s.Queued wq) : (s.sampleStraps b).Queued wq :=
  h.set.set

theorem powerUp {vaux} (h : s.Queued wq) : (s.powerUp vaux).Queued wq :=
  { h with }

theorem keepRef {old : State} (h : s.Queued wq) : (s.keepRef old).Queued wq :=
  h.set.set.set

theorem vauxOn {bootsel mv} (h : s.Queued wq) : (s.vauxOn bootsel mv).Queued wq := by
  unfold State.vauxOn
  refine h.except fun h => ?_
  extract_lets old s₁ m s₂ s₃ s₄
  have h₁ : s₁.Queued wq := h.powerUp.keepRef.otpShadows.foldl (·.biasEntry)
  clear_value s₁
  have h₂ : s₂.Queued wq := .setPwr { h₁ with }
  have h₄ : s₄.Queued wq := h₂.sampleStraps.upon (·.setPwr.kill)
  clear_value s₄
  exact .ite (h₄.except (·.enterM2)) <| h₄.upon fun h => .set { h with }

theorem vauxOff (h : s.Queued wq) : s.vauxOff.Queued wq :=
  h.upon (·.powerUp.keepRef)

theorem biasRead (h : s.Queued wq) : s.biasRead.Queued wq :=
  h.upon fun h => h.setPwr.foldl fun h => h.except (·.biasSafe)

theorem setRail {rail b} (h : s.Queued wq) : (s.setRail rail b).Queued wq :=
  h.setPwr

theorem railGood {rail} (h : s.Queued wq) : (s.railGood rail).Queued wq :=
  h.setRail.except fun h => (h.upon (·.setPwr)).m2Power

theorem railDown {rail} (h : s.Queued wq) : (s.railDown rail).Queued wq :=
  have h₁ := h.railPages
  .ite (h₁.foldl (·.lol)) <| h₁.upon (·.lanesLoss.linkDown)

theorem railLost {rail} (h : s.Queued wq) : (s.railLost rail).Queued wq :=
  h.except fun h => h.setRail.except fun h => .ite h.railDown <| .ite h.failedStart <| h.upon (·.lanesLoss.linkDown)

theorem vcoreLost (h : s.Queued wq) : s.vcoreLost.Queued wq :=
  h.setRail.except fun h => .ite h.logHw.enterM1 <| .ite h.failedStart <| h.upon fun h => .setPwr { h with }

theorem resetAssert (h : s.Queued wq) : s.resetAssert.Queued wq :=
  h.except fun h => h.setPwr.except fun h => .forget <|
    .foldl (.setModes <| .set <| .setPwr <| .same h.radioReset rfl) (·.biasSafe)

theorem resetRelease {bootsel} (h : s.Queued wq) : (s.resetRelease bootsel).Queued wq :=
  h.except fun h => h.setPwr.except fun h =>
    have h₁ := h.sampleStraps
    .ite h₁.resetAll <| .ite h₁.enterM2 h₁.enterM1

theorem bankLoss {b} (h : s.Queued wq) : (s.bankLoss b).Queued wq :=
  h.except fun h =>
    have h₁ := h.setRail
    .ite h₁.setPwr <|
      have h₁ := h₁.raise.set
      .ite h₁.resetAssert <| h₁.upon (·.kill)

theorem gpioEdge {k rising} (h : s.Queued wq) : (s.gpioEdge k rising).Queued wq :=
  h.except fun h => h.set.upon (·.raise)

/-! ### `Health` -/

theorem setHk {f} (h : s.Queued wq) : (s.setHk f).Queued wq :=
  { h with }

theorem setAge {f} (h : s.Queued wq) : (s.setAge f).Queued wq :=
  { h with }

theorem hkShow (h : s.Queued wq) : s.hkShow.Queued wq :=
  h.set.set.set

theorem hkPush {ch cause v} (h : s.Queued wq) : (s.hkPush ch cause v).Queued wq :=
  .ite h.count.raise <| h.setHk.hkShow.upon (·.raise)

theorem hkPop (h : s.Queued wq) : s.hkPop.Queued wq :=
  h.setHk.hkShow

theorem hkRequest {ch cause} (h : s.Queued wq) : (s.hkRequest ch cause).Queued wq :=
  h.upon (·.setHk)

theorem hkGo {ch} (h : s.Queued wq) : (s.hkGo ch).Queued wq :=
  h.set.hkRequest

theorem hkSchedule (h : s.Queued wq) : s.hkSchedule.Queued wq :=
  h.except fun h => h.setHk.foldl (·.hkRequest)

theorem cmpHit {ch back} (h : s.Queued wq) : (s.cmpHit ch back).Queued wq :=
  h.upon (·.setHk.hkRequest.raise)

theorem thermalJudge {k} (h : s.Queued wq) : (s.thermalJudge k).Queued wq :=
  have h₁ := (h.upon (·.raiseLog)).set.set
  .upon (.ite h₁.raiseLog <| h₁.upon (·.raise)) (·.halt)

theorem writeWindow (h : s.Queued wq) : s.writeWindow.Queued wq :=
  h.except (·.set.raise)

theorem brokenNote {k bad} (h : s.Queued wq) : (s.brokenNote k bad).Queued wq :=
  have h₁ := h.setHk
  .ite h₁.set.raiseLog <| h₁.upon (·.set)

theorem sensorSeen {k bad} (h : s.Queued wq) : (s.sensorSeen k bad).Queued wq :=
  h.brokenNote.except (·.thermalJudge.writeWindow)

theorem supervise {k v bad} (h : s.Queued wq) : (s.supervise k v bad).Queued wq :=
  h.seti.setHk.brokenNote.thermalJudge.seti.writeWindow

theorem hkResult {xs} (h : s.Queued wq) : (s.hkResult xs).2.Queued wq :=
  .ite₂ h <| .ite₂ h.freeNat h

theorem refJudge {dev} (h : s.Queued wq) : (s.refJudge dev).Queued wq :=
  .ite h.set h.set.raiseLog

theorem conversion {sup ch xs bad} (h : s.Queued wq) : (s.conversion sup ch xs bad).Queued wq := by
  refine h.except fun h => .ite (h.upon (·.seti.supervise)) ?_
  split
  · exact h
  · exact h.except fun h =>
      have h₁ := h.setHk.hkResult.seti
      .hkPush <| .ite h₁.sensorSeen <| h₁.upon (·.refJudge)

theorem hkCalibrate {start dev} (h : s.Queued wq) : (s.hkCalibrate start dev).Queued wq := by
  unfold State.hkCalibrate
  split
  · exact h.except (·.setHk.set.set)
  · exact h.setHk.set.set.seti.refJudge
  · exact h

theorem slackNote {w r} (h : s.Queued wq) : (s.slackNote w r).Queued wq := by
  unfold State.slackNote
  split
  · exact h.set
  · exact h.set.set.upon (·.set)

theorem voutCommand (h : s.Queued wq) : s.voutCommand.Queued wq :=
  h.setAge

theorem avsLoop (h : s.Queued wq) : s.avsLoop.Queued wq :=
  .upon (h.except fun h => (h.setAge.except (·.set.voutCommand.raise)).upon (·.setAge.raise)) (·.voutCommand)

theorem planIntervals (h : s.Queued wq) : s.planIntervals.Queued wq :=
  h.except fun h => h.foldl (·.set)

theorem stageNote (h : s.Queued wq) : s.stageNote.Queued wq := by
  unfold State.stageNote
  extract_lets vs s₁ level s₂ n
  have h₂ : s₂.Queued wq := (h.foldl (·.set.set)).setAge
  exact h₂.except (·.set.raiseLog.planIntervals)

theorem slackEnd {w} (h : s.Queued wq) : (s.slackEnd w).Queued wq :=
  h.upon fun h => .stageNote <| .avsLoop <| .foldl (h.foldl fun h => h.upon (·.set)) (·.slackNote)

theorem telemetry {vout iout temp} (h : s.Queued wq) : (s.telemetry vout iout temp).Queued wq :=
  h.upon (·.setHk.set.set.seti)

theorem pmAlert {status} (h : s.Queued wq) : (s.pmAlert status).Queued wq :=
  h.upon (·.set.raise)

theorem hwRetire {d n} (h : s.Queued wq) : (s.hwRetire d n).Queued wq :=
  h.except fun h => .count <| .ite h.retireWritten h.rxRetireWritten

theorem lifeTick (h : s.Queued wq) : s.lifeTick.Queued wq :=
  h.except fun h => h.setAge.except fun h => h.setAge.set.upon (·.setAge)

theorem addSum {lo hi x} (h : s.Queued wq) : (s.addSum lo hi x).Queued wq :=
  h.set64

theorem lifeFit {d f} (h : s.Queued wq) : (s.lifeFit d f).Queued wq :=
  have h₁ := h.seti.seti
  .ite h₁.set.set h₁.set.set

theorem dayClose (h : s.Queued wq) : s.dayClose.Queued wq :=
  h.except fun h => (h.freeNat.except (·.addSum.addSum.addSum.addSum.set)).lifeFit.setAge.raiseLog

/-! ### `Write` -/

theorem evtEnWritten {pg v} (h : s.Queued wq) : (s.evtEnWritten pg v).Queued wq :=
  h.set.foldl fun h => h.upon (·.deliver)

theorem levelWritten {pg v} (h : s.Queued wq) : (s.levelWritten pg v).Queued wq :=
  h.set.set

theorem headerWritten {l v} (h : s.Queued wq) : (s.headerWritten l v).Queued wq :=
  .ite (.ite h.set h.enableWritten) <| .ite h.levelWritten <| .ite h.evtEnWritten <| .ite h.set h.set

theorem pathFieldWritten {tx n l v} (h : s.Queued wq) : (s.pathFieldWritten tx n l v).Queued wq :=
  .ite h.thrWritten <| .ite (.ite h.muteWritten <| .ite h.retireWritten h.set) <| .ite h.ovlEnWritten <|
    .ite h.ovlForceWritten h.set

theorem blockWritten {c l v} (h : s.Queued wq) : (s.blockWritten c l v).Queued wq :=
  .ite h.pathFieldWritten <| .ite h.pathFieldWritten <| .ite h.modeReq <| .ite h.set.selectSource <|
    .ite h.muteWritten <| .ite h.frozenWritten <| .ite h.laneTestWritten <| .ite h.deskew <| .ite h.secure <|
    .ite h.retune <| .ite h.retune <| .ite h.set.aerForced <| .ite h.runWritten <| .ite h.wdEnable <|
    .ite h.mtimecmpWritten <| .ite h.flushThr <| .ite h.rdSeq <| .ite h.rxRetireWritten <| .ite h.set.setHk <|
    .ite h.biasWritten h.set

theorem fieldEff {c l v} (h : s.Queued wq) : (s.fieldEff c l v).Queued wq :=
  .ite h.edit <| .ite h.headerWritten h.blockWritten

theorem clearEvents {pg m} (h : s.Queued wq) : (s.clearEvents pg m).Queued wq :=
  h.set.foldl fun h => h.upon (·.deliver)

theorem clearBits {l m} (h : s.Queued wq) : (s.clearBits l m).Queued wq :=
  .ite (.clearEvents <| h.foldl fun h => h.upon (·.raise)) <| h.set.upon fun h => { h with }

theorem monDrop (h : s.Queued wq) : s.monDrop.Queued wq :=
  .set { h with }

theorem commitCancel {pg} (h : s.Queued wq) : (s.commitCancel pg).Queued wq :=
  h.upon (·.withdrawCommit)

theorem headerTrigger {l} (h : s.Queued wq) : (s.headerTrigger l).Queued wq :=
  .ite h.softReset <| .ite h.commitCancel <| h.upon (·.commitReq)

theorem lowTrigger {l data} (h : s.Queued wq) : (s.lowTrigger l data).Queued wq :=
  .ite h.bootOk <| .ite h.deviceReset <| .ite h.mgmtRestart <| .ite h.otpGo <| .ite h.lrGo <| .ite h.keGo <|
    .ite h.dbgChal <| .ite h.dbgUnlock <| .ite h.stepGo <| .ite h.validSet <| .ite h.decAlign <| .ite h.fillGo <|
    .ite h.updReq <| .ite h.jobRelease <| .ite h.flush <| .ite h.fgGo <| .ite h.fgAbort <|
    .ite (.ite h.bitslip <| h.upon (·.cntClr)) <| h.upon fun h => .ite h.inject <| h.upon (·.inject)

theorem highTrigger {c l data at_} (h : s.Queued wq) : (s.highTrigger c l data at_).Queued wq :=
  .ite h.sndPop <| .ite h.set <| .ite h.timingCalGo <| .ite h.timingCalClr <| .ite h.sdqPop <| .ite h.sdqFlush <|
    .ite (.ite h.softTrig <| .ite h.capStop <| h.upon (·.softArm)) <|
    .ite (.ite h.dmaDoorbell <| h.upon (·.dmaAbort)) <|
    .ite (.ite h.swapGo <| .ite h.line <| h.upon (·.loadStart)) <| .ite h.wdKick <| .ite h.logFlush <|
    .ite h.fwRecord <| .ite h.updGo <| .ite h.monDrop <| .ite h.bistGo <| .ite h.bistAbort <| .ite h.bistPop <|
    .ite h.fuseGo <| .ite h.hkGo <| h.upon (·.hkPop)

theorem trigAct {c l data at_} (h : s.Queued wq) : (s.trigAct c l data at_).Queued wq :=
  .ite h.clearBits <| .ite h.clearBits <| .ite h.headerTrigger <| .ite h.lowTrigger h.highTrigger

/-! ### `Read` -/

theorem readLatch {c ls} (h : s.Queued wq) : (s.readLatch c ls).Queued wq :=
  h.except fun h => { h with }

theorem readWord {c pg off} (h : s.Queued wq) : (s.readWord c pg off).2.2.Queued wq :=
  .ite₃ h <| .ite₃ h.rngWord h.readLatch

/-! ### `Access` -/

theorem idle (h : s.Queued wq) : s.idle.Queued wq :=
  h.upon (·.streamTick.tick.bareTick.rateTick.lifeTick.writeWindow)

theorem joinPart {c agent id data l} (h : s.Queued wq) : (s.joinPart c agent id data l).Queued wq :=
  .ite h.joinWindow { h with }

theorem arriveEvents {pg off data codes} (h : s.Queued wq) : (s.arriveEvents pg off data codes).Queued wq :=
  .ite h.raise <| h.upon (·.raise)

theorem arrive {c agent pg off data ls} (h : s.Queued wq) : (s.arrive c agent pg off data ls).2.Queued wq := by
  refine .ite₂ h <| .ite₂ h.noField ?_
  split
  · exact h.refuseWrite.reply
  · exact
      have h₁ := (h.except (·.refuseWrite)).arriveEvents.upon (·.enqAct)
      .ite₂ h₁.reply <| .same (h₁.foldl (·.joinPart)) rfl

theorem ack {w} (h : s.Queued wq) : (s.ack w).Queued wq := by
  unfold State.ack
  extract_lets st s₁
  have h₁ : s₁.Queued wq := h.reply
  exact { h₁ with }

theorem credit {id sup} (h : s.Queued wq) : (s.credit id sup).Queued wq := by
  unfold State.credit
  split
  · exact h
  · exact .ite (.ack { h with }) { h with }

theorem creditAll {ws v} (h : s.Queued wq) : (s.creditAll ws v).Queued wq :=
  h.foldl (·.credit)

theorem takeWindow {w} (h : s.Queued wq) : (s.takeWindow w).2.Queued wq :=
  .creditAll <| .resolve { h with }

theorem takeDue {l} (h : s.Queued wq) : (s.takeDue l).2.Queued wq := by
  unfold State.takeDue
  split
  · exact h.takeWindow
  · exact h

theorem closeTune (h : s.Queued wq) : s.closeTune.Queued wq :=
  h.takeDue.takeDue.retune

theorem closeBias {k} (h : s.Queued wq) : (s.closeBias k).Queued wq :=
  .ite h.takeDue.takeDue h.takeDue.takeDue.biasTarget

theorem closeWindow {w} (h : s.Queued wq) : (s.closeWindow w).Queued wq := by
  refine .ite h.closeTune <| .ite h.closeBias ?_
  dsimp only
  split
  · exact .ite h.takeWindow.set h.takeWindow.fieldEff
  · exact h.takeWindow

theorem triggerActs {t} (h : s.Queued wq) : (s.triggerActs t).Queued wq :=
  .credit <| .trigAct { h with }

theorem closeDue {now n} (h : s.Queued wq) : (s.closeDue now n).Queued wq := by
  induction n generalizing s with
  | zero => exact h
  | succ n ih =>
    unfold State.closeDue
    split
    · exact h
    · refine .ite h ?_
      split
      · exact ih h.closeWindow
      · split
        · exact ih h.triggerActs
        · exact h

theorem dueAt {now} (h : s.Queued wq) : (s.dueAt now).Queued wq :=
  h.closeDue

theorem windowsClose (h : s.Queued wq) : s.windowsClose.Queued wq :=
  h.except (·.dueAt)

theorem passTick {now} (h : s.Queued wq) : (s.passTick now).Queued wq := by
  unfold State.passTick
  extract_lets t
  have ht : t.Queued wq := .idle { h with }
  exact .dueAt { ht with }

theorem pass {now n} (h : s.Queued wq) : (s.pass now n).Queued wq := by
  induction n generalizing s now with
  | zero => exact h
  | succ n ih => exact ih h.passTick

theorem answered {id} (h : s.Queued wq) : (s.answered id).Queued wq := by
  unfold State.answered
  split
  · exact { h with }
  · exact h

theorem carry {c agent pg off data ls} (h : s.Queued wq) : (s.carry c agent pg off data ls).Queued wq := by
  unfold State.carry
  dsimp only
  split
  · exact .arrive { h with }
  · exact .answered <| .pass <| .arrive { h with }

theorem rowField {c agent l v} (h : s.Queued wq) : (s.rowField c agent l v).Queued wq :=
  h.carry

theorem rowTrig {c l data} (h : s.Queued wq) : (s.rowTrig c l data).Queued wq :=
  h.carry

theorem carryWords {c agent pg ws} (h : s.Queued wq) : (s.carryWords c agent pg ws).2.Queued wq := by
  unfold State.carryWords
  extract_lets r t
  have hr : r.2.Queued wq := .foldl₂ (.snd { h with }) (·.arrive)
  clear_value r
  have ht : t.Queued wq := hr.pass
  clear_value t
  exact ht

theorem writeWord {c agent pg off data} (h : s.Queued wq) : (s.writeWord c agent pg off data).Queued wq :=
  h.carry

theorem loadWait {c pg} (h : s.Queued wq) : (s.loadWait c pg).Queued wq :=
  h.upon (·.pass)

theorem badAddr {c addr status} (h : s.Queued wq) : (s.badAddr c addr status).Queued wq :=
  h.refuseWrite.reply

theorem tapCommitted {t} (h : s.Queued wq) : (s.tapCommitted t).Queued wq :=
  h.setTap.upon (·.tapHold)

theorem committed {old : State} {pg} (h : s.Queued wq) : (s.committed old pg).Queued wq :=
  .ite h.loopCommitted <| .ite h.rxCommitted.slewCommitted <| .ite h.txCommitted.slewCommitted <|
    .ite h.octCommitted <| .ite h.tapCommitted <| .ite h.beamCommitted <| h.upon (·.calCommitted)

theorem swapBanks {pg} (h : s.Queued wq) : (s.swapBanks pg).Queued wq :=
  .set { h with }

theorem commitSwap {pg} (h : s.Queued wq) : (s.commitSwap pg).Queued wq := by
  unfold State.commitSwap
  split
  · exact h
  · exact h.except fun h => .raise <| .committed <| .upon (.set <| .same h.swapBanks rfl) (·.raise)

theorem copyDone {pg} (h : s.Queued wq) : (s.copyDone pg).Queued wq :=
  h.except fun h => .ite (.calPageFree <| .set { h with }) <|
    .upon (.set { h with }) (·.arrayPageFree)

theorem portWrite {r c agent a v} (h : s.Queued wq) : (s.portWrite r c agent a v).2.Queued wq :=
  .ite₂ h.refuse <| .ite₂ h.refuse <| .ite₂ h.writeWord <| .ite₂ (.ite h.busWrite.refuse h.busWrite) h.refuse

theorem portRead {r c a} (h : s.Queued wq) : (s.portRead r c a).2.2.Queued wq :=
  .ite₃ (.refuse <| .ite₃ h <| .ite₃ h <| .ite₃ h.readWord <| .ite₃ h.busRead h) <| .ite₃ h <| .ite₃ h <|
    .ite₃ h.readWord <| .ite₃ h.busRead h

theorem portWrites {r c inc a ws} (h : s.Queued wq) : (s.portWrites r c inc a ws).2.Queued wq := by
  induction ws generalizing s a with
  | nil => exact h
  | cons v t ih => exact ih h.portWrite

theorem portReads {r c inc a n} (h : s.Queued wq) : (s.portReads r c inc a n).2.2.Queued wq := by
  induction n generalizing s a with
  | zero => exact h
  | succ n ih => exact ih h.portRead

theorem spi {rd inc addr n ws} (h : s.Queued wq) : (s.spi rd inc addr n ws).Queued wq :=
  h.except fun h => .ite h.refuse.reply <| .ite h.portReads.reply h.portWrites.reply

theorem spiAbort {rd inc addr ws} (h : s.Queued wq) : (s.spiAbort rd inc addr ws).Queued wq :=
  h.except fun h => .ite { h with } <| .same h.portWrites rfl

theorem jtag {write addr data} (h : s.Queued wq) : (s.jtag write addr data).Queued wq :=
  h.except fun h => .ite h.portWrite.reply h.portRead.reply

theorem mgtReg {waiting ws broken} (h : s.Queued wq) : (s.mgtReg waiting ws broken).Queued wq := by
  unfold State.mgtReg
  split
  next t e => exact h.sendClear.receiveAs.of_eq e
  next t e =>
    have h₁ := h.sendClear.receiveAs.of_eq e
    refine .ite h₁.count ?_
    extract_lets inc n addr r r'
    exact .ite h₁.portReads.send h₁.portWrites.send

theorem bridgeDone {c} (h : s.Queued wq) : (s.bridgeDone c).Queued wq := by
  unfold State.bridgeDone
  split
  · exact h
  · exact .line <| .setCore <| .ite₃ h.portWrite h.portRead

/-! ### `Sumac` -/

theorem setMon {f} (h : s.Queued wq) : (s.setMon f).Queued wq :=
  { h with }

theorem monReply {data status} (h : s.Queued wq) : (s.monReply data status).Queued wq :=
  h.reply

theorem monCommand {level eff} (h : s.Queued wq) (hf : ∀ {t}, t.Queued wq → (eff t).Queued wq) :
    (s.monCommand level eff).Queued wq :=
  h.except fun h =>
    have h₁ := (h.except (·.monDrop)).setMon
    .ite h₁.monReply (hf h₁)

theorem monInfo (h : s.Queued wq) : s.monInfo.Queued wq :=
  h.monReply

theorem monRead {a n} (h : s.Queued wq) : (s.monRead a n).Queued wq :=
  .ite h.monReply h.portReads.monReply

theorem monLog {q n} (h : s.Queued wq) : (s.monLog q n).Queued wq :=
  .ite h.monReply h.monReply

theorem monChal (h : s.Queued wq) : s.monChal.Queued wq :=
  .ite h.setMon.monReply h.rngs.setMon.monReply

theorem elevFailed (h : s.Queued wq) : s.elevFailed.Queued wq :=
  have h₁ := h.count
  .ite h₁.setMon.raise h₁.setMon

theorem monElev {w} (h : s.Queued wq) : (s.monElev w).Queued wq :=
  .ite h.monReply <|
    have h₁ := h.setMon
    .ite h₁.freeNat.logHw.count.monReply <|
      have h₁ := h₁.logHw
      .ite h₁.setMon.set.set.raise.monReply h₁.elevFailed.monReply

theorem monStart (h : s.Queued wq) : s.monStart.Queued wq :=
  .ite h.modeJudge.monReply h.monReply

theorem monWrite {a v} (h : s.Queued wq) : (s.monWrite a v).Queued wq :=
  .ite h.monReply h.portWrite.monReply

theorem monMode {m} (h : s.Queued wq) : (s.monMode m).Queued wq :=
  .ite h.monReply h.rowField

theorem monBaud {r} (h : s.Queued wq) : (s.monBaud r).Queued wq :=
  .ite h.monReply h.rowField

theorem monRecover (h : s.Queued wq) : s.monRecover.Queued wq :=
  .ite h.deviceReset.monReply h.monReply

theorem monUpd {op arg ofs data} (h : s.Queued wq) : (s.monUpd op arg ofs data).Queued wq := by
  refine .ite h.monReply ?_
  split
  · exact h.refuse.monReply
  · exact .ite h.monReply <| .ite h.set.monReply h.updIssue.monReply

/-! ### `Rows` -/

theorem nowLoRead {c} (h : s.Queued wq) : (s.nowLoRead c).Queued wq :=
  h.except fun h =>
    have h₁ := h.loadWait
    .ite h₁.refuse.reply h₁.nowLo.reply

theorem loadWord {cls agent c hit} (h : s.Queued wq) : (s.loadWord cls agent c hit).Queued wq :=
  h.carry

theorem updOp {c op arg} (h : s.Queued wq) : (s.updOp c op arg).Queued wq :=
  h.carry

theorem otpOp {c op arg} (h : s.Queued wq) : (s.otpOp c op arg).Queued wq :=
  h.carry

theorem keOp {c op} (h : s.Queued wq) : (s.keOp c op).Queued wq :=
  h.carry

theorem fuseOp {c op arg} (h : s.Queued wq) : (s.fuseOp c op arg).Queued wq :=
  h.carry

theorem ctlCommit {p} (h : s.Queued wq) : (s.ctlCommit p).2.Queued wq := by
  unfold State.ctlCommit
  extract_lets r
  have hr : r.2.Queued wq := h.carryWords
  clear_value r
  exact hr

/-! ### `Dispatch` -/

/-- Each command answers a next state with the same queue. -/
theorem exec {c} (h : s.Queued wq) : ∃ t, exec c s = .next t ∧ t.Queued wq :=
  match c with
  | .vauxEnterRange .. => ⟨_, rfl, h.vauxOn⟩
  | .vauxLeaveRange => ⟨_, rfl, h.vauxOff⟩
  | .biasSafeRead => ⟨_, rfl, h.biasRead⟩
  | .radioRailGood .. => ⟨_, rfl, h.railGood⟩
  | .radioRailNotGood .. => ⟨_, rfl, h.railLost⟩
  | .vcoreNotGood => ⟨_, rfl, h.vcoreLost⟩
  | .bankLoss .. => ⟨_, rfl, h.bankLoss⟩
  | .startBegin .. => ⟨_, rfl, h.startBegin⟩
  | .resetNAssert => ⟨_, rfl, h.resetAssert⟩
  | .resetNRelease .. => ⟨_, rfl, h.resetRelease⟩
  | .deviceReset .. => ⟨_, rfl, h.rowTrig⟩
  | .modeReqWrite .. => ⟨_, rfl, h.rowField⟩
  | .modeTransitionDone => ⟨_, rfl, h.modeDone⟩
  | .bootOk .. => ⟨_, rfl, h.rowTrig⟩
  | .bootWatchdogExpiry => ⟨_, rfl, h.bootWatchdog⟩
  | .mgmtRestart .. => ⟨_, rfl, h.rowTrig⟩
  | .contExpired => ⟨_, rfl, h.contExpired⟩
  | .contHoldExpiry => ⟨_, rfl, h.holdExpiry⟩
  | .stableTimeExpiry => ⟨_, rfl, h.stableExpiry⟩
  | .thermalHalt .. => ⟨_, rfl, h.upon (·.halt)⟩
  | .regWrite .. => ⟨_, rfl, h.except fun h => .ite h.store <| .ite h.badAddr h.arrive⟩
  | .pageEnable .. => ⟨_, rfl, h.carry⟩
  | .sequenceEnd .. => ⟨_, rfl, h.sequenceEnd⟩
  | .softReset .. => ⟨_, rfl, h.carry⟩
  | .levelReqWrite .. => ⟨_, rfl, h.rowField⟩
  | .evtClear .. => ⟨_, rfl, h.rowTrig⟩
  | .evtEnWrite .. => ⟨_, rfl, h.rowField⟩
  | .accessWrite .. => ⟨_, rfl, h.carry⟩
  | .accLock .. => ⟨_, rfl, h.rowField⟩
  | .fieldLock .. => ⟨_, rfl, h.rowField⟩
  | .commitReq .. => ⟨_, rfl, h.carry⟩
  | .commitCancel .. => ⟨_, rfl, h.carry⟩
  | .commitSwap .. => ⟨_, rfl, h.commitSwap⟩
  | .commitCopyDone .. => ⟨_, rfl, h.copyDone⟩
  | .coincidenceWindowClose => ⟨_, rfl, .windowsClose { h with }⟩
  | .spiTransaction .. => ⟨_, rfl, h.spi⟩
  | .spiAbort .. => ⟨_, rfl, h.spiAbort⟩
  | .jtagRegAccess .. => ⟨_, rfl, h.jtag⟩
  | .refLoss => ⟨_, rfl, h.refLoss⟩
  | .refBack .. => ⟨_, rfl, h.refBack⟩
  | .lock .. => ⟨_, rfl, h.lockStep⟩
  | .loopReady .. => ⟨_, rfl, h.loopReady⟩
  | .lol .. => ⟨_, rfl, h.lol⟩
  | .bandFail .. => ⟨_, rfl, h.bandFail⟩
  | .tsyncLoad => ⟨_, rfl, h.tsyncPulse⟩
  | .tsyncCheck => ⟨_, rfl, h.except (·.tsyncPulse)⟩
  | .tsyncoPulse => ⟨_, rfl, h.tsyncoPulse⟩
  | .outSent => ⟨_, rfl, h.outSent⟩
  | .stepGo .. => ⟨_, rfl, h.rowTrig⟩
  | .stepDone => ⟨_, rfl, h.stepDone⟩
  | .validSet .. => ⟨_, rfl, h.rowTrig⟩
  | .nowLoRead .. => ⟨_, rfl, h.nowLoRead⟩
  | .ovlEngage .. => ⟨_, rfl, h.ovlEngage⟩
  | .ovlReleaseStep .. => ⟨_, rfl, h.ovlRelease⟩
  | .modReset .. => ⟨_, rfl, h.modReset⟩
  | .compSwap .. => ⟨_, rfl, h.compSwap⟩
  | .rxqOverflow .. => ⟨_, rfl, h.rxqOverflow⟩
  | .txqUnderflow .. => ⟨_, rfl, h.txqUnderflow⟩
  | .usUnderflow => ⟨_, rfl, h.usUnderflow⟩
  | .decAlign .. => ⟨_, rfl, h.rowTrig⟩
  | .alignDone .. => ⟨_, rfl, h.alignDone⟩
  | .thresholdCrossing .. => ⟨_, rfl, h.thrCross⟩
  | .thrCfgWrite .. => ⟨_, rfl, h.carry⟩
  | .peakNew .. => ⟨_, rfl, h.peakNew⟩
  | .msNew .. => ⟨_, rfl, h.msNew⟩
  | .envelopeWord .. => ⟨_, rfl, h.envelope⟩
  | .cellSwap .. => ⟨_, rfl, h.cellSwap⟩
  | .rangeSwitch .. => ⟨_, rfl, h.rangeSwitch⟩
  | .rangeDone .. => ⟨_, rfl, h.rangeDone⟩
  | .txMuteWrite .. => ⟨_, rfl, h.rowField⟩
  | .txkillAssert => ⟨_, rfl, h.kill⟩
  | .txkillDeassert => ⟨_, rfl, h.unkill⟩
  | .complianceFault .. => ⟨_, rfl, h.compliance⟩
  | .retireWrite .. => ⟨_, rfl, h.rowField⟩
  | .vbiasCfgWrite .. => ⟨_, rfl, h.writeWord⟩
  | .vbiasSlewStep .. => ⟨_, rfl, h.biasSlew⟩
  | .vbiasRangeSwitch .. => ⟨_, rfl, h.biasRangeSwitch⟩
  | .setTableWrite .. => ⟨_, rfl, h.writeWord⟩
  | .weightWrite .. => ⟨_, rfl, h.weightWrite⟩
  | .fillGo .. => ⟨_, rfl, h.rowTrig⟩
  | .fillDone => ⟨_, rfl, h.fillDone⟩
  | .renormDone .. => ⟨_, rfl, h.renormDone⟩
  | .weightDamaged .. => ⟨_, rfl, h.weightDamaged⟩
  | .limiterWindowEnd => ⟨_, rfl, h.limiterEnd⟩
  | .dpdEnApply .. => ⟨_, rfl, h.dpdEnApply⟩
  | .dpdAssign .. => ⟨_, rfl, h.dpdAssign⟩
  | .dpdCaptureStart .. => ⟨_, rfl, h.dpdCapture⟩
  | .dpdCaptureDone .. => ⟨_, rfl, h.dpdCaptured⟩
  | .jobRelease .. => ⟨_, rfl, h.rowTrig⟩
  | .updReq .. => ⟨_, rfl, h.rowTrig⟩
  | .guardBaselineDone .. => ⟨_, rfl, h.guardBaseline⟩
  | .guardVerdict .. => ⟨_, rfl, h.guardVerdict⟩
  | .guardTimeout .. => ⟨_, rfl, h.guardTimeout⟩
  | .modelWrite .. => ⟨_, rfl, h.except (·.modelWrite.finish)⟩
  | .modelDamaged .. => ⟨_, rfl, h.modelDamaged⟩
  | .slotBoundary .. => ⟨_, rfl, h.slotBoundary⟩
  | .turnDriverSwitch .. => ⟨_, rfl, h.turnDriverDue⟩
  | .turnRoundSettled .. => ⟨_, rfl, h.turnSettleDue⟩
  | .trswChange .. => ⟨_, rfl, h.trswChange⟩
  | .enqAct .. => ⟨_, rfl, h.rowTrig⟩
  | .queueFlush .. => ⟨_, rfl, h.rowTrig⟩
  | .tlWindow .. => ⟨_, rfl, h.runEntry (·.tlWindow)⟩
  | .tlSet .. => ⟨_, rfl, h.runEntry (·.tlSet)⟩
  | .tlOneshot .. => ⟨_, rfl, h.runEntry (·.tlOneshot)⟩
  | .tlCommit .. => ⟨_, rfl, h.runEntry (·.tlCommit)⟩
  | .tlRange .. => ⟨_, rfl, h.runEntry (·.tlRange)⟩
  | .tlRffe .. => ⟨_, rfl, h.runEntry (·.seqStart)⟩
  | .tlTrig .. => ⟨_, rfl, h.runEntry (·.tlTrig)⟩
  | .windowEnd .. => ⟨_, rfl, h.windowEnd⟩
  | .oneshotEnd .. => ⟨_, rfl, h.oneshotEnd⟩
  | .trigoutEnd => ⟨_, rfl, h.trigoutEnd⟩
  | .rffeSequenceStart .. => ⟨_, rfl, h.rffeStart⟩
  | .rffeCommandDone .. => ⟨_, rfl, h.rffeDone⟩
  | .laneSleepEnter .. => ⟨_, rfl, h.laneSleepEnter⟩
  | .laneWakeStart .. => ⟨_, rfl, h.laneWakeStart⟩
  | .laneAwake .. => ⟨_, rfl, h.laneAwake⟩
  | .laneWakeRequest .. => ⟨_, rfl, h.laneWakeRequest⟩
  | .wakeFail => ⟨_, rfl, h.wakeFail⟩
  | .refCheck .. => ⟨_, rfl, h.refCheck⟩
  | .calResult .. => ⟨_, rfl, h.calResult⟩
  | .trimApply .. => ⟨_, rfl, h.trimApply⟩
  | .loPhaseDone .. => ⟨_, rfl, h.loPhaseDone⟩
  | .corrSlewUpdate => ⟨_, rfl, h.corrUpdate⟩
  | .arrayResult .. => ⟨_, rfl, .ite h.arrayOther h.arrayResult⟩
  | .fgGo .. => ⟨_, rfl, h.rowTrig⟩
  | .fgAbort .. => ⟨_, rfl, h.rowTrig⟩
  | .fgDone => ⟨_, rfl, h.fgDone⟩
  | .calDue .. => ⟨_, rfl, h.calDue⟩
  | .crossSlip .. => ⟨_, rfl, h.crossSlip⟩
  | .clkLoss .. => ⟨_, rfl, h.clkLoss⟩
  | .blockLock .. => ⟨_, rfl, h.blockLock⟩
  | .blockLoss .. => ⟨_, rfl, h.blockLoss⟩
  | .bitslip .. => ⟨_, rfl, h.rowTrig⟩
  | .eyePublish .. => ⟨_, rfl, h.eyePublish⟩
  | .prbsSync .. => ⟨_, rfl, h.prbsSync⟩
  | .prbsLoss .. => ⟨_, rfl, h.prbsLoss⟩
  | .cntClr .. => ⟨_, rfl, h.rowTrig⟩
  | .injSingle .. => ⟨_, rfl, h.rowTrig⟩
  | .injBurst .. => ⟨_, rfl, h.rowTrig⟩
  | .injDone .. => ⟨_, rfl, h.injDone⟩
  | .markerSend .. => ⟨_, rfl, h.markerSend⟩
  | .markerReceive .. => ⟨_, rfl, h.markerReceive⟩
  | .iqdPacket .. => ⟨_, rfl, h.iqdPacket⟩
  | .playoutMiss .. => ⟨_, rfl, h.playoutMiss⟩
  | .iquWindowSend => ⟨_, rfl, h.iquWindow⟩
  | .ctlWeights .. => ⟨_, rfl, h.ctl (·.ctlWeights)⟩
  | .ctlTimeline .. => ⟨_, rfl, h.ctl (·.ctlTimeline)⟩
  | .ctlCommit .. => ⟨_, rfl, h.ctl (·.ctlCommit)⟩
  | .ctlSleep .. => ⟨_, rfl, h.ctl (·.ctlSleep)⟩
  | .mgtReg .. => ⟨_, rfl, h.mgtReg⟩
  | .mgtUpdate .. => ⟨_, rfl, h.mgtUpdate⟩
  | .mgtLogRead .. => ⟨_, rfl, h.mgtLogRead⟩
  | .evtPacketSend => ⟨_, rfl, h.evtSend⟩
  | .captureExport .. => ⟨_, rfl, h.captureExport⟩
  | .timReq .. => ⟨_, rfl, h.timReq⟩
  | .timFin .. => ⟨_, rfl, h.timFin⟩
  | .linkDown .. => ⟨_, rfl, h.upon (·.linkDown)⟩
  | .linkDownTimeout => ⟨_, rfl, h.linkTimeout⟩
  | .linkUp => ⟨_, rfl, h.linkUp⟩
  | .burstStart => ⟨_, rfl, h.burstSend⟩
  | .burstSent => ⟨_, rfl, h.burstSent⟩
  | .agcStep .. => ⟨_, rfl, h.agcStep⟩
  | .burstDetect .. => ⟨_, rfl, h.burstDetect⟩
  | .falseDetect => ⟨_, rfl, h.falseDetect⟩
  | .rxRecord .. => ⟨_, rfl, h.sndRecord⟩
  | .soundRxqPop .. => ⟨_, rfl, h.rowTrig⟩
  | .remGo .. => ⟨_, rfl, h.rowTrig⟩
  | .xferDone => ⟨_, rfl, h.xferDone⟩
  | .anisePermit => ⟨_, rfl, h.upon (·.aniseGate)⟩
  | .bcastRetune .. => ⟨_, rfl, h.carry⟩
  | .synthLock => ⟨_, rfl, h.synthLock⟩
  | .bcastFeCalDone => ⟨_, rfl, h.feCalDone⟩
  | .rdsBlock .. => ⟨_, rfl, h.rdsBlock⟩
  | .rdsGroup .. => ⟨_, rfl, h.rdsGroup⟩
  | .afCheck .. => ⟨_, rfl, h.afCheck⟩
  | .afPiCheck .. => ⟨_, rfl, h.afPi⟩
  | .dabFrame .. => ⟨_, rfl, h.dabFrame⟩
  | .dabPacket .. => ⟨_, rfl, h.dabPacket⟩
  | .dabFollow => ⟨_, rfl, h.dabFollow⟩
  | .dabCandidateTimeout => ⟨_, rfl, h.candidateTimeout⟩
  | .timingCalGo .. => ⟨_, rfl, h.rowTrig⟩
  | .timingCalClr .. => ⟨_, rfl, h.rowTrig⟩
  | .measTimeout => ⟨_, rfl, h.aniseTimeout⟩
  | .sdqPop .. => ⟨_, rfl, h.rowTrig⟩
  | .sdqFlush .. => ⟨_, rfl, h.rowTrig⟩
  | .arm .. => ⟨_, rfl, h.rowTrig⟩
  | .disarm .. => ⟨_, rfl, h.rowTrig⟩
  | .captureSoftTrig .. => ⟨_, rfl, h.rowTrig⟩
  | .captureTrigger .. => ⟨_, rfl, h.captureTrigger⟩
  | .autoTimeout .. => ⟨_, rfl, h.autoTimeout⟩
  | .segDone .. => ⟨_, rfl, h.segDone⟩
  | .gap .. => ⟨_, rfl, h.capGap⟩
  | .rdPtrWrite .. => ⟨_, rfl, h.rowField⟩
  | .dmaDoorbell .. => ⟨_, rfl, h.rowTrig⟩
  | .dmaAbort .. => ⟨_, rfl, h.rowTrig⟩
  | .dmaDescDone .. => ⟨_, rfl, h.dmaDescDone⟩
  | .dmaPaceResume .. => ⟨_, rfl, h.dmaResume⟩
  | .targetTimeout .. => ⟨_, rfl, h.dmaTimeout⟩
  | .parallelDsp .. => ⟨_, rfl, h.coreRun⟩
  | .tfr .. => ⟨_, rfl, h.coreRun⟩
  | .add .. => ⟨_, rfl, h.coreRun⟩
  | .sub .. => ⟨_, rfl, h.coreRun⟩
  | .neg .. => ⟨_, rfl, h.coreRun⟩
  | .abs .. => ⟨_, rfl, h.coreRun⟩
  | .clr .. => ⟨_, rfl, h.coreRun⟩
  | .rnd .. => ⟨_, rfl, h.coreRun⟩
  | .sat .. => ⟨_, rfl, h.coreRun⟩
  | .asl .. => ⟨_, rfl, h.coreRun⟩
  | .asr .. => ⟨_, rfl, h.coreRun⟩
  | .addr .. => ⟨_, rfl, h.coreRun⟩
  | .subr .. => ⟨_, rfl, h.coreRun⟩
  | .cmp .. => ⟨_, rfl, h.coreRun⟩
  | .cmpr .. => ⟨_, rfl, h.coreRun⟩
  | .and .. => ⟨_, rfl, h.coreRun⟩
  | .or .. => ⟨_, rfl, h.coreRun⟩
  | .xor .. => ⟨_, rfl, h.coreRun⟩
  | .max .. => ⟨_, rfl, h.coreRun⟩
  | .min .. => ⟨_, rfl, h.coreRun⟩
  | .norm .. => ⟨_, rfl, h.coreRun⟩
  | .li .. => ⟨_, rfl, h.coreRun⟩
  | .move .. => ⟨_, rfl, h.coreRun⟩
  | .addi .. => ⟨_, rfl, h.coreRun⟩
  | .asave .. => ⟨_, rfl, h.coreRun⟩
  | .aload .. => ⟨_, rfl, h.coreRun⟩
  | .nop .. => ⟨_, rfl, h.coreRun⟩
  | .jmp .. => ⟨_, rfl, h.coreRun⟩
  | .jsr .. => ⟨_, rfl, h.coreRun⟩
  | .rts .. => ⟨_, rfl, h.coreRun⟩
  | .reti .. => ⟨_, rfl, h.coreRun⟩
  | .doLoop .. => ⟨_, rfl, h.coreRun⟩
  | .yield .. => ⟨_, rfl, h.coreRun⟩
  | .wait .. => ⟨_, rfl, h.coreRun⟩
  | .halt .. => ⟨_, rfl, h.coreRun⟩
  | .ei .. => ⟨_, rfl, h.coreRun⟩
  | .di .. => ⟨_, rfl, h.coreRun⟩
  | .interruptEntry .. => ⟨_, rfl, h.interruptEntry⟩
  | .coreFault .. => ⟨_, rfl, h.upon fun h => .ite h.coreAny h⟩
  | .ipendClear .. => ⟨_, rfl, h.ioAccess⟩
  | .mboxOut .. => ⟨_, rfl, h.ioAccess⟩
  | .tb0Read .. => ⟨_, rfl, h.ioAccess⟩
  | .tcmpArm .. => ⟨_, rfl, h.ioAccess⟩
  | .coreTimer .. => ⟨_, rfl, h.coreTimer⟩
  | .strDataRead .. => ⟨_, rfl, h.ioAccess⟩
  | .brRead .. => ⟨_, rfl, h.ioAccess⟩
  | .brWrite .. => ⟨_, rfl, h.ioAccess⟩
  | .bridgeDone .. => ⟨_, rfl, h.bridgeDone⟩
  | .semAcquire .. => ⟨_, rfl, h.ioAccess⟩
  | .semRelease .. => ⟨_, rfl, h.ioAccess⟩
  | .kernelLoad .. => ⟨_, rfl, h.loadWord⟩
  | .hitlessLoad .. => ⟨_, rfl, h.loadWord⟩
  | .loadDone .. => ⟨_, rfl, h.loadDone⟩
  | .runWrite .. => ⟨_, rfl, h.rowField⟩
  | .mboxIrq .. => ⟨_, rfl, h.rowTrig⟩
  | .swapGo .. => ⟨_, rfl, h.rowTrig⟩
  | .swapBoundary .. => ⟨_, rfl, h.swapBoundary⟩
  | .swapTimeout .. => ⟨_, rfl, h.swapTimeout⟩
  | .cacheClean .. => ⟨_, rfl, h.cacheUpset.cacheClean⟩
  | .cacheInvalidate .. => ⟨_, rfl, h.cacheDrop⟩
  | .cacheCleanInvalidate .. => ⟨_, rfl, h.cacheUpset.cacheClean.cacheDrop⟩
  | .icacheInvalidate => ⟨_, rfl, h.setMgmt⟩
  | .mtimeCompare => ⟨_, rfl, h.upon (·.setMgmt)⟩
  | .wdEnable .. => ⟨_, rfl, h.rowField⟩
  | .wdKick .. => ⟨_, rfl, h.rowTrig⟩
  | .runtimeWatchdogExpiry .. => ⟨_, rfl, h.runWatchdog⟩
  | .updOpen .. => ⟨_, rfl, h.updOp⟩
  | .updChunk .. => ⟨_, rfl, h.updOp⟩
  | .updVerify .. => ⟨_, rfl, h.updOp⟩
  | .updActivate .. => ⟨_, rfl, h.updOp⟩
  | .updConfirm .. => ⟨_, rfl, h.updOp⟩
  | .updAbort .. => ⟨_, rfl, h.updOp⟩
  | .rbAdvance .. => ⟨_, rfl, h.updOp⟩
  | .updDone .. => ⟨_, rfl, h.updEnds⟩
  | .fwLogRecord .. => ⟨_, rfl, h.rowTrig⟩
  | .logFlush => ⟨_, rfl, h.upon (·.logFlush)⟩
  | .logFlushCmd .. => ⟨_, rfl, h.rowTrig⟩
  | .logRdSeq .. => ⟨_, rfl, h.rowField⟩
  | .logFlashReadDone => ⟨_, rfl, h.rdDone⟩
  | .sumacInfo => ⟨_, rfl, h.monCommand (·.monInfo)⟩
  | .sumacRd .. => ⟨_, rfl, h.monCommand (·.monRead)⟩
  | .sumacLog .. => ⟨_, rfl, h.monCommand (·.monLog)⟩
  | .sumacChal => ⟨_, rfl, h.monCommand (·.monChal)⟩
  | .sumacElev .. => ⟨_, rfl, h.monCommand (·.monElev)⟩
  | .sumacDrop => ⟨_, rfl, h.monCommand (·.monDrop.monReply)⟩
  | .sumacStart => ⟨_, rfl, h.monCommand (·.monStart)⟩
  | .sumacWr .. => ⟨_, rfl, h.monCommand (·.monWrite)⟩
  | .sumacMode .. => ⟨_, rfl, h.monCommand (·.monMode)⟩
  | .sumacBaud .. => ⟨_, rfl, h.monCommand (·.monBaud)⟩
  | .sumacRecover => ⟨_, rfl, h.monCommand (·.monRecover)⟩
  | .sumacUpd .. => ⟨_, rfl, h.monCommand (·.monUpd)⟩
  | .monrxBreak => ⟨_, rfl, h.except (·.monDrop)⟩
  | .elevationExpiry => ⟨_, rfl, h.except (·.monDrop)⟩
  | .elevLockExpiry => ⟨_, rfl, h.except (·.setMon)⟩
  | .monitorDrop .. => ⟨_, rfl, h.rowTrig⟩
  | .progHash .. => ⟨_, rfl, h.otpOp⟩
  | .revoke .. => ⟨_, rfl, h.otpOp⟩
  | .scanPermit .. => ⟨_, rfl, h.otpOp⟩
  | .genId .. => ⟨_, rfl, h.otpOp⟩
  | .lrAdvance .. => ⟨_, rfl, h.otpOp⟩
  | .otpDone .. => ⟨_, rfl, h.otpDone⟩
  | .lrLoad .. => ⟨_, rfl, h.rowTrig⟩
  | .lrLoadDone => ⟨_, rfl, h.lrDone⟩
  | .genEph .. => ⟨_, rfl, h.keOp⟩
  | .derive .. => ⟨_, rfl, h.keOp⟩
  | .attest .. => ⟨_, rfl, h.keOp⟩
  | .keDone => ⟨_, rfl, h.keDone⟩
  | .sessionKeySwitch => ⟨_, rfl, h.keySwitch⟩
  | .rngDataRead .. => ⟨_, rfl, h.except (·.loadWait.rngRead)⟩
  | .rngFail => ⟨_, rfl, h.rngFail⟩
  | .dbgChal .. => ⟨_, rfl, h.rowTrig⟩
  | .dbgUnlock .. => ⟨_, rfl, h.rowTrig⟩
  | .clearDone => ⟨_, rfl, h.clearDone⟩
  | .scrubVisit .. => ⟨_, rfl, h.scrubVisit⟩
  | .fuseProgram .. => ⟨_, rfl, h.fuseOp⟩
  | .fuseCancel .. => ⟨_, rfl, h.fuseOp⟩
  | .fuseDone .. => ⟨_, rfl, h.fuseDone⟩
  | .bistGo .. => ⟨_, rfl, h.carry⟩
  | .bistAbort .. => ⟨_, rfl, h.rowTrig⟩
  | .bistDone .. => ⟨_, rfl, h.bistDone⟩
  | .bistResPop .. => ⟨_, rfl, h.rowTrig⟩
  | .hkadcGo .. => ⟨_, rfl, h.carry⟩
  | .hkadcSchedule => ⟨_, rfl, h.hkSchedule⟩
  | .hkadcCmpHit .. => ⟨_, rfl, h.cmpHit⟩
  | .hkadcConversionDone .. => ⟨_, rfl, h.conversion⟩
  | .hkadcCalibration .. => ⟨_, rfl, h.hkCalibrate⟩
  | .hkadcQPop .. => ⟨_, rfl, h.rowTrig⟩
  | .slackWindowEnd .. => ⟨_, rfl, h.slackEnd⟩
  | .pmTelemetry .. => ⟨_, rfl, h.telemetry⟩
  | .pmAlert .. => ⟨_, rfl, h.pmAlert⟩
  | .pmVoutCheck .. => ⟨_, rfl, h.voutCheck⟩
  | .retireGraceExpiry .. => ⟨_, rfl, h.hwRetire⟩
  | .rxRetireWrite .. => ⟨_, rfl, h.rowField⟩
  | .lifeDayClose => ⟨_, rfl, h.dayClose⟩
  | .gpioEdge .. => ⟨_, rfl, h.gpioEdge⟩
  | .timMeasLapse => ⟨_, rfl, h.selectSource⟩
  | .cuminMeasLapse => ⟨_, rfl, h.selectSource⟩
  | .timRsp .. => ⟨_, rfl, h.timRsp⟩
  | .markerWindowEnd => ⟨_, rfl, h.windowJudge⟩
  | .dabSyncLoss => ⟨_, rfl, h.upon (·.aniseSyncLoss)⟩
  | .dsckPresent .. => ⟨_, rfl, h.dsckPresent⟩
  | .startLockTimeout => ⟨_, rfl, h.lockTimeout⟩

end State.Queued

/-- Settles O56: every function that a command is built of keeps what waits. -/
theorem queueKept : Obligations.QueueKept := fun c s t e => by
  obtain ⟨u, hu, hq⟩ := State.Queued.exec (c := c) (s := s) ⟨rfl⟩
  cases hu.symm.trans e
  exact hq.pending

end Sys2Proof.Machine
end
